-- ==== Sys2Proof/Word.lean ====
section
/-! DEFINITION. The smallest units of data the part handles. -/
namespace Sys2Proof

/-- One byte, as memory, files and octet strings hold it. -/
abbrev Byte := BitVec 8

end Sys2Proof
end

