-- ==== Sys2Proof/Syntax.lean ====
section
/-! DEFINITION. The commands of the part: one constructor of `Instr` per row of the opcode table, and the types of
their operands. The part is a block: a command is a write or read by an agent, an event on a pin or link, or one step
that the part itself takes; what the part cannot compute from its own state (a measured value, a memory upset, the
status of a finished transfer) is an operand (notes/assumptions/3.md). -/
namespace Sys2Proof

/-- The three roles of R12, and no session. -/
inductive Role where
  | none | operator | installer | maker
  deriving DecidableEq, Repr

/-- Who sends an access: the initiator number of R16, and the role of the session it acts for (R12). -/
structure Agent where
  init : Fin 64
  role : Role
  deriving DecidableEq, Repr

/-- The response status codes of R11. -/
inductive Status where
  | done | fault | asleep | poison | denied | range | retry | timeout
  deriving DecidableEq, Repr

/-- The two ports of a block memory (chapter 06). -/
inductive Port where
  | a | b
  deriving DecidableEq, Repr

/-- One port's write of one block-memory word, of the width of the memory's mode. -/
structure BramWr where
  word : Nat
  data : Nat
  deriving DecidableEq, Repr

/-- One port's read of a block-memory word, and what the other port writes in the same cycle. -/
structure BramRd where
  word : Nat
  other : Option BramWr
  deriving DecidableEq, Repr

/-- A current in nA that flows out of a DUT ball (R64). -/
structure BallCurrent where
  ch : Fin 512
  nA : Nat
  deriving DecidableEq, Repr

/-- What the energy ledger has integrated for one channel in the frame, in nJ (R69). -/
structure EnergySample where
  ch : Fin 512
  total : Nat
  fault : Nat
  deriving DecidableEq, Repr

/-- The answer of fabric logic at a target port (R134). -/
structure FabAnswer where
  status : Status
  data : List Byte
  deriving DecidableEq, Repr

/-- Bit errors found in one word of one configuration frame (R154): the frame address, the word in it, and whether two
bits are wrong. -/
structure Upset where
  frame : Nat
  word : Nat
  double : Bool
  deriving DecidableEq, Repr

/-- The level, load and PMU registers of a channel that are checked whole (R164, R166). -/
inductive LevelReg where
  | drv | cmp | load | pmuForce | pmuIclamp | pmuVclamp
  deriving DecidableEq, Repr

/-- The voltage of a ball in one DUT cycle, in nV: at C1, at C2, and at every moment between them (R171, R172). -/
structure Strobes where
  c1 : Int
  c2 : Int
  window : List Int
  deriving DecidableEq, Repr

/-- One ball crossing as the witness comparator and edge timer see it (R211, R212): which of the drive edges last placed on the channel
launched it, if its own driver did, and whether it crosses both VOH and VOL; the witness time and the comparator output time in 1/16 q
from T0; the slew at the witness in V/ns times 1,000; and whether a DAC of the channel was settling. -/
structure WitnessEdge where
  launched : Option Nat
  crosses : Bool
  witQ16 : Int
  cmpQ16 : Int
  slew : Nat
  settling : Bool
  deriving DecidableEq, Repr

/-- What offline calibration measured for one channel (R223 to R225), in q: the two offsets, the witness offset and the
rms spread of its times. -/
structure BallCal where
  ch : Fin 512
  calDrv : Int
  calCmp : Int
  wit : Int
  spread : Nat
  deriving DecidableEq, Repr

/-- Errors present in a checked word when it is read. -/
inductive Ecc where
  | ok | single | double
  deriving DecidableEq, Repr

/-- The memories of a signal core (R322). -/
inductive ScMem where
  | prog | x | y
  deriving DecidableEq, Repr

/-- An HBM word found with errors as it is read: the word of the line and whether two bits are wrong (R352). -/
structure WordUpset where
  line : Fin 4
  word : Fin 8
  double : Bool
  deriving DecidableEq, Repr

/-- The operations of a NoC request (R382); `other` is an OP above 5. -/
inductive NocOp where
  | rd | wr | wrp | regrd | regwr | other
  deriving DecidableEq, Repr

/-- A NoC request as its initiator gives it (R382). -/
structure Packet where
  op : NocOp
  addr : Nat
  len : Nat
  w64 : Bool
  value : Nat
  be : Nat
  data : List Byte
  deriving DecidableEq, Repr

/-- What a NoC link does to a flit (R383). -/
inductive LinkErr where
  | single | header | data
  deriving DecidableEq, Repr

/-- A packet in flight: its initiator and its issue number. -/
structure PktRef where
  init : Fin 64
  target : Nat
  seq : Nat
  deriving DecidableEq, Repr

/-- The transmitter taps of a lane (R405). -/
inductive Tap where
  | pre | main | post
  deriving DecidableEq, Repr

/-- What a partner's capability flit says (R407). -/
structure Capability where
  station : Nat
  maxw : Nat
  up : Bool
  lanes : Nat
  deriving DecidableEq, Repr

/-- The flit types of R408; the two reserved ones are one here. -/
inductive FlitType where
  | idle | payload | time | echo | linkctl | sleep | reserved
  deriving DecidableEq, Repr

/-- A received flit (R408, R410). -/
structure Flit where
  type : FlitType
  last : Bool
  ackSeq : Nat
  nak : Bool
  credits : Nat
  payload : List Byte
  deriving DecidableEq, Repr

/-- The contents of a TIME flit (R420). -/
structure TimeFlit where
  count : Nat
  period : Nat
  hops : Nat
  hold : Bool
  lead : Nat
  delay : Nat
  delayOk : Bool
  deriving DecidableEq, Repr

/-- The accesses of a scratchpad bank in one cycle (R435, R436): a read, a write, or one of each. An access gives its byte
address, which may lie in an alias, and its width in bits. -/
inductive SpAccess where
  | read (addr width : Nat)
  | write (addr width value : Nat)
  | both (raddr rwidth waddr wwidth value : Nat)
  deriving DecidableEq, Repr

/-- What a march test found in one bank (R442). -/
structure MarchResult where
  bank : Fin 16
  fails : Nat
  oneCol : Bool
  col : Nat
  deriving DecidableEq, Repr

/-- The three feed registers of a CRC unit (R455). -/
inductive FeedWidth where
  | byte | half | word
  deriving DecidableEq, Repr

/-- One SDO request (R492, R493): an upload or download of one object, one by complete access, or a request for an entry's
description. -/
inductive Sdo where
  | upload (index sub : Nat)
  | download (index sub : Nat) (data : List Byte)
  | uploadAll (index : Nat)
  | downloadAll (index : Nat) (data : List Byte)
  | describe (index sub : Nat)
  deriving DecidableEq, Repr

/-- The FoE names of R504: fw_a.trx and fw_b.trx, ifw.trx, primary.trx and golden.trx, region_NN.trx, an hbm_ name with its address
and length, sc_CC.bin, events.bin, audit.bin, and any other name. -/
inductive FoeFile where
  | fwA | fwB | ifw | primary | golden
  | region (n : Fin 16)
  | hbm (addr len : Nat)
  | sc (c : Fin 32)
  | events | audit | other
  deriving DecidableEq, Repr

/-- The trace packets of R530: SYNC and TICK with the frame count, EVENT with its code, STIM with core, port, width code
and value, OVERFLOW with the packets lost. -/
inductive TracePacket where
  | sync (frame : Nat)
  | tick (frame : Nat)
  | event (code frame : Nat)
  | stim (core port width value : Nat)
  | overflow (lost : Nat)
  deriving DecidableEq, Repr

/-- The two reset pins. -/
inductive ResetPin where
  | porst | srst
  deriving DecidableEq, Repr

/-- What the TAP does on Update-IR or Update-DR of the boundary register (R516). -/
inductive TapUpdate where
  | ir (code : Nat)
  | boundary (cells : List Bool)
  deriving DecidableEq, Repr

/-- The commands: one constructor per row of the opcode table. -/
inductive Instr where
  /-- REGISTER_WRITE (R6). -/
  | registerWrite (a : Agent) (addr width value : Nat)
  /-- PROFILE_CHANGE_REQUEST (R23). -/
  | profileChangeRequest (a : Agent) (viaObject : Bool) (req : Nat)
  /-- QUIET_REGION_RELOAD (R21). -/
  | quietRegionReload (r : Fin 16)
  /-- DOMAIN_TARGET_WRITE (R55). -/
  | domainTargetWrite (a : Agent) (n : Fin 96) (target : Nat)
  /-- DOMAIN_RESET (R102). -/
  | domainReset (a : Agent) (n : Fin 96)
  /-- DRESET_QUIESCE_TIMEOUT (R102). -/
  | dresetQuiesceTimeout (n : Fin 96)
  /-- DOMAIN_RESET_HOLD_END (R102). -/
  | domainResetHoldEnd (n : Fin 96)
  /-- DOMAIN_RAMP_END (R51). -/
  | domainRampEnd (n : Fin 96)
  /-- DOMAIN_QUIESCED (R52). -/
  | domainQuiesced (n : Fin 96)
  /-- LOWERING_FORCED (R52). -/
  | loweringForced (n : Fin 96)
  /-- SLUICE_REQUEST (R57). -/
  | sluiceRequest (a : Agent) (value : Nat)
  /-- SLUICE_RELEASE (R63). -/
  | sluiceRelease (a : Agent) (ticket : Nat)
  /-- SLUICE_GRANT_CYCLE (R60). -/
  | sluiceGrantCycle (visits : Nat)
  /-- SLUICE_RAMP_START (R61). -/
  | sluiceRampStart
  /-- GRANT_OVERDUE (R62). -/
  | grantOverdue (e : Fin 128)
  /-- BALL_TRIP (R65). -/
  | ballTrip (ch : Fin 512) (energyNJ : Nat)
  /-- WIRING_TRIP (R66). -/
  | wiringTrip (windowUJ : Nat)
  /-- FAULT_EVENT_END (R65). -/
  | faultEventEnd (ch : Fin 512)
  /-- BALL_LATCH_CLEAR (R68). -/
  | ballLatchClear (a : Agent) (b : Fin 32) (mask : Nat)
  /-- WIRING_LATCH_CLEAR (R68). -/
  | wiringLatchClear (a : Agent)
  /-- ENERGY_LEDGER_STEP (R69). -/
  | energyLedgerStep (samples : List EnergySample) (windowUJ : Nat)
  /-- VIN_SAG (R47). -/
  | vinSag
  /-- BLEED (R50). -/
  | bleed
  /-- REFERENCE_LOST (R76). -/
  | referenceLost (src : Fin 3)
  /-- SOURCE_STABLE (R75). -/
  | sourceStable (src : Fin 3)
  /-- GENERATOR_LOCK (R77). -/
  | generatorLock
  /-- MUX_SELECT (R79). -/
  | muxSelect (a : Agent) (m : Fin 5) (value : Nat)
  /-- MUX_SWITCH (R79). -/
  | muxSwitch (m : Fin 5)
  /-- MUX_WAIT_EXPIRY (R79). -/
  | muxWaitExpiry (m : Fin 5)
  /-- MUX_FORCE (R79). -/
  | muxForce (a : Agent) (m : Fin 5)
  /-- FAB_FREQUENCY_CHANGE (R80). -/
  | fabFrequencyChange (a : Agent) (i : Fin 4) (mhz : Nat)
  /-- FAB_RELOCK_DONE (R80). -/
  | fabRelockDone (i : Fin 4)
  /-- GATE_CLOSE_REQUEST (R81). -/
  | gateCloseRequest (a : Agent) (n : Fin 96)
  /-- GATE_ACK (R81). -/
  | gateAck (n : Fin 96)
  /-- GATE_ACK_TIMEOUT (R81). -/
  | gateAckTimeout (n : Fin 96)
  /-- GATE_OPEN (R82). -/
  | gateOpen (a : Agent) (n : Fin 96)
  /-- CLKMON_CONFIG (R83). -/
  | clkmonConfig (a : Agent) (value : Nat)
  /-- FRAME_TICK (R84). -/
  | frameTick (misaligned : List (Fin 32))
  /-- SYNC0_EVENT (R85). -/
  | sync0Event (atPs : Nat) (misaligned : List (Fin 32))
  /-- TICK_MISSING (R86). -/
  | tickMissing (misaligned : List (Fin 32))
  /-- FRAME_CONTROL_WRITE (R87). -/
  | frameControlWrite (a : Agent) (value : Nat)
  /-- SLOT_SHADOW_WRITE (R92). -/
  | slotShadowWrite (a : Agent) (k : Fin 16) (value : Nat)
  /-- SLOT_ARM (R92). -/
  | slotArm (a : Agent)
  /-- TELEMETRY_SNAPSHOT (R93). -/
  | telemetrySnapshot
  /-- COLD_RESET (R100). -/
  | coldReset
  /-- WARM_RESET (R100). -/
  | warmReset
  /-- RST_CTL_WARM (R101). -/
  | rstCtlWarm (a : Agent) (key : Nat)
  /-- CORE_RESET (R101). -/
  | coreReset (a : Agent) (key mask : Nat)
  /-- WARM_RESET_OBJECT (R103). -/
  | warmResetObject (a : Agent) (value : Nat)
  /-- DELAYED_WARM_RESET (R103). -/
  | delayedWarmReset
  /-- BOOT_STEP_END (R110). -/
  | bootStepEnd (elapsedMs : Nat) (bad : List Nat)
  /-- TAP_RESET (R516). -/
  | tapReset
  /-- BRAM_READ (R122). -/
  | bramRead (area : Fin 17) (mem : Nat) (port : Port) (access : BramRd) (strike : Nat)
  /-- BRAM_WRITE (R126). -/
  | bramWrite (area : Fin 17) (mem : Nat) (pa pb : Option BramWr)
  /-- BRAM_WRITEBACK (R122). -/
  | bramWriteback (area : Fin 17) (mem word : Nat)
  /-- BRAM_SCRUB_WORD (R124). -/
  | bramScrubWord (area : Fin 17) (freeCycle : Bool) (strike : Nat)
  /-- FLIP_ARM (R126). -/
  | flipArm (a : Agent) (area : Fin 17) (value : Nat)
  /-- TAP_DRAIN (R135). -/
  | tapDrain (s : Fin 16) (count : Nat)
  /-- DATA_IN_WRITE (R136). -/
  | dataInWrite (s : Fin 16) (word : Nat)
  /-- TARGET_PORT_REQUEST (R134). -/
  | targetPortRequest (area : Fin 17) (addr : Nat) (answer : Option FabAnswer)
  /-- TARGET_PORT_TIMEOUT (R134). -/
  | targetPortTimeout (area : Fin 17)
  /-- LOADER_STAGE (R146). -/
  | loaderStage (a : Agent) (slot : Fin 16)
  /-- LOADER_LOAD (R149). -/
  | loaderLoad (a : Agent) (slot : Fin 16)
  /-- LOADER_INVALIDATE (R146). -/
  | loaderInvalidate (a : Agent) (region : Fin 16)
  /-- LOADER_DISPATCH (R147). -/
  | loaderDispatch
  /-- STAGE_COMPLETE (R146). -/
  | stageComplete (flashOk : Bool)
  /-- LOAD_GRANT_ISSUED (R149). -/
  | loadGrantIssued
  /-- LOAD_DRAIN_END (R149). -/
  | loadDrainEnd (r : Fin 16)
  /-- LOAD_RECORD_WRITE (R144). -/
  | loadRecordWrite (readBackOk : Bool)
  /-- LOAD_COMPLETE (R149). -/
  | loadComplete
  /-- RILL_SLICE (R154). -/
  | rillSlice (frames : Nat) (upsets : List Upset)
  /-- RILL_PASS_REQUEST (R158). -/
  | rillPassRequest (a : Agent)
  /-- RILL_PASS_COMPLETE (R158). -/
  | rillPassComplete
  /-- JET_CONFIG_WRITE (R165). -/
  | jetConfigWrite (a : Agent) (ch : Fin 512) (value : Nat)
  /-- JET_LEVEL_WRITE (R164). -/
  | jetLevelWrite (a : Agent) (ch : Fin 512) (reg : LevelReg) (value : Nat)
  /-- JET_CYCLE (R168). -/
  | jetCycle (ch : Fin 512) (k : Nat) (seen : Strobes)
  /-- BLOCK_CLEAR (R175). -/
  | blockClear (a : Agent) (ch : Fin 512) (mask : Nat)
  /-- BANK_MAXRATE_WRITE (R176). -/
  | bankMaxrateWrite (a : Agent) (b : Fin 32) (code : Nat)
  /-- PMU_MODE_WRITE (R179). -/
  | pmuModeWrite (a : Agent) (ch : Fin 512) (value : Nat)
  /-- PMU_CONNECT (R179). -/
  | pmuConnect (ch : Fin 512)
  /-- PMU_SAMPLE (R183). -/
  | pmuSample (ch : Fin 512) (measured : Int) (clamped : Option Bool)
  /-- PMU_CLAMP (R181). -/
  | pmuClamp (ch : Fin 512) (hi : Bool)
  /-- SPARE_FOR_WRITE (R185). -/
  | spareForWrite (a : Agent) (b : Fin 32) (ball : Nat)
  /-- PERIOD_WRITE (R193). -/
  | periodWrite (a : Agent) (s : Fin 16) (t : Fin 64) (value : Nat)
  /-- TIMING_SET_COMMIT (R199). -/
  | timingSetCommit (a : Agent) (ch : Fin 512) (value : Nat)
  /-- TIMING_SET_RECORD_WRITE (R209). -/
  | timingSetRecordWrite (a : Agent) (record : List Byte)
  /-- BANK_REALIGN (R204). -/
  | bankRealign (a : Agent) (b : Fin 32)
  /-- WITNESS_EDGE (R211). -/
  | witnessEdge (ch : Fin 512) (edge : WitnessEdge)
  /-- WEIR_CORRECTION_DELIVERY (R215). -/
  | weirCorrectionDelivery (inTime : Bool)
  /-- WEIR_CALIBRATE (R223). -/
  | weirCalibrate (a : Agent)
  /-- WEIR_CALIBRATION_END (R227). -/
  | weirCalibrationEnd (results : List BallCal)
  /-- WEIR_SAVE (R228). -/
  | weirSave (a : Agent)
  /-- WEIR_SAVE_END (R228). -/
  | weirSaveEnd (copy0 copy1 : Bool) (hottest : Int)
  /-- SEQ_START (R264). -/
  | seqStart (a : Agent) (s : Fin 16) (value : Nat) (nsToTick : Nat)
  /-- SEQ_STOP (R265). -/
  | seqStop (a : Agent) (s : Fin 16)
  /-- SEQ_ABORT (R265). -/
  | seqAbort (a : Agent) (s : Fin 16) (nowClk : Nat)
  /-- SEQ_PAUSE (R257). -/
  | seqPause (a : Agent) (s : Fin 16)
  /-- SEQ_RESUME (R270). -/
  | seqResume (a : Agent) (s : Fin 16)
  /-- SEQ_START_TICK (R264). -/
  | seqStartTick (s : Fin 16)
  /-- CYCLE_ISSUE (R194). -/
  | cycleIssue (s : Fin 16)
  /-- VECTOR_UNDERRUN (R240). -/
  | vectorUnderrun (s : Fin 16)
  /-- PATTERN_END (R237). -/
  | patternEnd (s : Fin 16)
  /-- SEQ_RESUME_START (R257). -/
  | seqResumeStart (s : Fin 16)
  /-- PAUSE_WARN_EXPIRY (R257). -/
  | pauseWarnExpiry (s : Fin 16)
  /-- PAGE_LOAD_DONE (R259). -/
  | pageLoadDone (s : Fin 16) (page : Nat) (status : Status)
  /-- VECTOR_PREFETCH (R260). -/
  | vectorPrefetch (s : Fin 16) (status : Status)
  /-- SEQ_RESULT_SEEN (R253). -/
  | seqResultSeen (s : Fin 16)
  /-- VEC (R238). -/
  | vec (s : Fin 16)
  /-- JMP (R247). -/
  | jmp (s : Fin 16)
  /-- CALL (R251). -/
  | call (s : Fin 16)
  /-- RET (R251). -/
  | ret (s : Fin 16)
  /-- LOOP (R252). -/
  | loop (s : Fin 16)
  /-- ENDL (R247). -/
  | endl (s : Fin 16)
  /-- JFAIL (R253). -/
  | jfail (s : Fin 16)
  /-- JC (R250). -/
  | jc (s : Fin 16)
  /-- MATCH (R254). -/
  | seqMatch (s : Fin 16)
  /-- MATCH_TIMEOUT (R254). -/
  | matchTimeout (s : Fin 16)
  /-- FWAIT (R255). -/
  | fwait (s : Fin 16)
  /-- FWAIT_END (R255). -/
  | fwaitEnd (s : Fin 16)
  /-- SLU (R256). -/
  | slu (s : Fin 16)
  /-- SLU_TIMEOUT (R256). -/
  | sluTimeout (s : Fin 16)
  /-- SLUREL (R256). -/
  | slurel (s : Fin 16)
  /-- SETR (R250). -/
  | setr (s : Fin 16)
  /-- CLRF (R247). -/
  | clrf (s : Fin 16)
  /-- DCLOSE (R258). -/
  | dclose (s : Fin 16)
  /-- MARK (R247). -/
  | mark (s : Fin 16)
  /-- PREF (R259). -/
  | pref (s : Fin 16)
  /-- STOP (R247). -/
  | stop (s : Fin 16)
  /-- ILLEGAL_OPCODE (R247). -/
  | illegalOpcode (s : Fin 16)
  /-- CYCLE_RESULT_COMPLETE (R173). -/
  | cycleResultComplete (s : Fin 16)
  /-- CLOSE_MARKER (R284). -/
  | closeMarker (s : Fin 16)
  /-- FAIL_DRAIN (R283). -/
  | failDrain (units : Nat) (status : Status)
  /-- DRAIN_RESUME (R282). -/
  | drainResume (a : Agent) (s : Fin 16)
  /-- MAP_OPEN (R285). -/
  | mapOpen (a : Agent) (m : Fin 128) (spill : Bool)
  /-- MAP_CLOSE (R285). -/
  | mapClose (a : Agent) (m : Fin 128)
  /-- MAP_DISCARD (R285). -/
  | mapDiscard (a : Agent) (m : Fin 128)
  /-- SPILL_WRITTEN (R284). -/
  | spillWritten (m : Fin 128) (status : Status)
  /-- MAP_CLEARED (R284). -/
  | mapCleared (m : Fin 128)
  /-- MAP_SCRUB_WORD (R288). -/
  | mapScrubWord (slice : Fin 64) (word : Nat) (upset : Ecc)
  /-- RA_ARM (R300). -/
  | raArm (a : Agent) (d : Fin 4096)
  /-- RA_CANCEL (R314). -/
  | raCancel (a : Agent) (d : Fin 4096)
  /-- MAP_ACCEPT (R302). -/
  | mapAccept
  /-- LIST_READ_END (R304). -/
  | listReadEnd (u : Fin 16)
  /-- SEARCH_END (R306). -/
  | searchEnd (u : Fin 16)
  /-- RA_RING_WRITE (R311). -/
  | raRingWrite (status : Status)
  /-- RA_RING_RESUME (R311). -/
  | raRingResume (a : Agent)
  /-- SC_MAP_WRITE (R321). -/
  | scMapWrite (a : Agent) (c : Fin 32) (phys : Nat)
  /-- SC_START (R337). -/
  | scStart (a : Agent) (c : Fin 32) (value : Nat)
  /-- SC_STOP_COMMAND (R337). -/
  | scStopCommand (a : Agent) (c : Fin 32)
  /-- SC_MEMORY_ACCESS (R323). -/
  | scMemoryAccess (a : Agent) (c : Fin 32) (mem : ScMem) (word : Nat) (write : Option Nat)
  /-- SC_SAMPLE_ARRIVAL (R333). -/
  | scSampleArrival (c : Fin 32) (k : Fin 16) (sample : Nat) (clamped isOver : Bool)
  /-- SC_HOST_WRITE (R335). -/
  | scHostWrite (a : Agent) (c : Fin 32) (value : Nat)
  /-- SC_INTERRUPT (R336). -/
  | scInterrupt (c : Fin 32)
  /-- SC_RING_LINE_WRITE (R339). -/
  | scRingLineWrite (c : Fin 32) (status : Status)
  /-- SC_SCRUB_WORD (R324). -/
  | scScrubWord (c : Fin 32) (mem : ScMem) (word : Nat) (upset : Ecc)
  /-- NOP (R331). -/
  | nop (c : Fin 32)
  /-- ALU (R326). -/
  | alu (c : Fin 32)
  /-- LDI (R331). -/
  | ldi (c : Fin 32)
  /-- LDH (R331). -/
  | ldh (c : Fin 32)
  /-- MAC (R327). -/
  | mac (c : Fin 32)
  /-- AOP (R331). -/
  | aop (c : Fin 32)
  /-- MVA (R327). -/
  | mva (c : Fin 32)
  /-- LDST (R325). -/
  | ldst (c : Fin 32)
  /-- LDSTA (R331). -/
  | ldsta (c : Fin 32)
  /-- SETP (R331). -/
  | setp (c : Fin 32)
  /-- MVR (R331). -/
  | mvr (c : Fin 32)
  /-- BR (R329). -/
  | br (c : Fin 32)
  /-- JSR (R329). -/
  | jsr (c : Fin 32)
  /-- RTS (R329). -/
  | rts (c : Fin 32)
  /-- RTI (R336). -/
  | rti (c : Fin 32)
  /-- SC_LOOP (R330). -/
  | scLoop (c : Fin 32)
  /-- IN (R332). -/
  | scIn (c : Fin 32)
  /-- OUT (R332). -/
  | scOut (c : Fin 32)
  /-- WAITI (R331). -/
  | waiti (c : Fin 32)
  /-- SC_STOP (R337). -/
  | scStop (c : Fin 32)
  /-- HBM_REQUEST_ISSUE (R347). -/
  | hbmRequestIssue (upset : Option WordUpset) (newWindow : Bool)
  /-- HBM_PROMOTE (R347). -/
  | hbmPromote (id : Nat)
  /-- HBM_TRAINING_END (R345). -/
  | hbmTrainingEnd (ok : Bool) (channel : Fin 8)
  /-- HBM_SELF_REFRESH_EXIT (R346). -/
  | hbmSelfRefreshExit
  /-- HBM_REFRESH (R350). -/
  | hbmRefresh (bank : Fin 512) (windowStart : Bool)
  /-- TARGETED_REFRESH (R351). -/
  | targetedRefresh (bank : Fin 512) (row : Nat)
  /-- HBM_TEMPERATURE (R350). -/
  | hbmTemperature (celsius : Nat)
  /-- HBM_SCRUB_LINE (R355). -/
  | hbmScrubLine (upset : Option WordUpset)
  /-- HBM_RANGE_PASS (R356). -/
  | hbmRangePass (a : Agent) (value : Nat)
  /-- HBM_RANGE_PASS_END (R356). -/
  | hbmRangePassEnd
  /-- HBM_FLIP_ARM (R354). -/
  | hbmFlipArm (a : Agent) (value : Nat)
  /-- HBM_ERRLOG_POP (R358). -/
  | hbmErrlogPop (a : Agent)
  /-- HBM_ACCESS_OBJECT (R362). -/
  | hbmAccessObject (addrField : Nat) (write : Option (List Byte))
  /-- ENC_ENABLE (R364). -/
  | encEnable (a : Agent) (r : Fin 8)
  /-- ENC_DISABLE (R374). -/
  | encDisable (a : Agent) (r : Fin 8)
  /-- ENC_REKEY (R371). -/
  | encRekey (a : Agent) (r : Fin 8)
  /-- REKEY_LINE_MOVE (R372). -/
  | rekeyLineMove (r : Fin 8)
  /-- REKEY_COMPLETE (R374). -/
  | rekeyComplete (r : Fin 8)
  /-- KEY_RETIRED (R374). -/
  | keyRetired (k : Fin 16)
  /-- KEYED_READ (R369). -/
  | keyedRead (a : Agent) (addr : Nat)
  /-- KEYED_WRITE (R366). -/
  | keyedWrite (a : Agent) (addr : Nat) (be : Nat) (data : List Byte)
  /-- NODE_WRITEBACK (R368). -/
  | nodeWriteback (r : Fin 8) (level : Nat) (j : Nat)
  /-- ENC_TREE_PASS (R375). -/
  | encTreePass (a : Agent) (r : Fin 8)
  /-- ENC_TREE_PASS_END (R375). -/
  | encTreePassEnd
  /-- NOC_REQUEST (R386). -/
  | nocRequest (a : Agent) (pkt : Packet)
  /-- NOC_RESPONSE (R385). -/
  | nocResponse (init : Fin 64) (latencyNs : Nat)
  /-- NOC_TIMEOUT (R387). -/
  | nocTimeout (init : Fin 64)
  /-- LINK_ERROR (R383). -/
  | linkError (router : Fin 36) (dir : Fin 4) (err : LinkErr) (pkt : Option PktRef)
  /-- CREDIT_IDLE_RETURN (R386). -/
  | creditIdleReturn (init : Fin 64) (target : Nat)
  /-- ROUTER_MAINT_ENTER (R388). -/
  | routerMaintEnter (a : Agent) (k : Fin 36)
  /-- ROUTER_DRAINED (R388). -/
  | routerDrained (k : Fin 36)
  /-- ROUTER_DRAIN_ABORT (R388). -/
  | routerDrainAbort (k : Fin 36)
  /-- ROUTER_MAINT_EXIT (R388). -/
  | routerMaintExit (a : Agent) (k : Fin 36)
  /-- ARB_REQUEST (R393). -/
  | arbRequest (x : Fin 18) (i : Fin 24) (beats held : Nat)
  /-- ARB_RELEASE (R393). -/
  | arbRelease (x : Fin 18)
  /-- ARB_BURST_EXPIRY (R393). -/
  | arbBurstExpiry (x : Fin 18)
  /-- ARB_COMMIT (R396). -/
  | arbCommit (a : Agent) (x : Fin 18)
  /-- LINK_ENABLE (R403). -/
  | linkEnable (a : Agent) (q : Fin 16) (value : Nat)
  /-- LINK_DISABLE (R404). -/
  | linkDisable (a : Agent) (q : Fin 16)
  /-- LINK_RETRAIN (R412). -/
  | linkRetrain (a : Agent) (q : Fin 16)
  /-- LINK_DETECT_PROBE (R404). -/
  | linkDetectProbe (q : Fin 16) (partnerSeen : Bool)
  /-- TAP_CHANGE_REQUEST (R405). -/
  | tapChangeRequest (l : Fin 64) (tap : Tap) (up : Bool)
  /-- TRAIN_END (R404). -/
  | trainEnd (q : Fin 16) (eyes : Nat)
  /-- TRAIN_TIMEOUT (R404). -/
  | trainTimeout (q : Fin 16)
  /-- SLIP (R406). -/
  | slip (a : Agent) (l : Fin 64)
  /-- LOCK_END (R406). -/
  | lockEnd (q : Fin 16) (locked inverted : Nat)
  /-- LOCK_TIMEOUT (R404). -/
  | lockTimeout (q : Fin 16)
  /-- EXCHANGE_END (R407). -/
  | exchangeEnd (q : Fin 16) (cap : Capability)
  /-- EXCHANGE_TIMEOUT (R404). -/
  | exchangeTimeout (q : Fin 16)
  /-- LINK_FAIL_BACKOFF (R404). -/
  | linkFailBackoff (q : Fin 16)
  /-- FLIT_SEND (R410). -/
  | flitSend (q : Fin 16)
  /-- FLIT_RECEIVE (R410). -/
  | flitReceive (q : Fin 16) (lane : Fin 4) (crcOk : Bool) (f : Flit)
  /-- LINK_SLEEP (R413). -/
  | linkSleep (q : Fin 16)
  /-- LINK_WAKE (R413). -/
  | linkWake (q : Fin 16)
  /-- PRBS_INJECT (R414). -/
  | prbsInject (a : Agent) (l : Fin 64)
  /-- CAS_SEND (R417). -/
  | casSend (a : Agent) (value : Nat)
  /-- MESSAGE_RECEIVE (R416). -/
  | messageReceive (q : Fin 16)
  /-- TIME_FLIT_SEND (R420). -/
  | timeFlitSend (q : Fin 16) (t1 : Nat)
  /-- TIME_FLIT_RECEIVE (R422). -/
  | timeFlitReceive (q : Fin 16) (arrival turn : Nat) (f : TimeFlit)
  /-- ECHO_RECEIVE (R421). -/
  | echoReceive (q : Fin 16) (t4 turn count : Nat)
  /-- BANK_HANDOVER (R434). -/
  | bankHandover (a : Agent) (n : Fin 16) (owner : Nat)
  /-- SCRATCHPAD_ACCESS (R435). -/
  | scratchpadAccess (a : Agent) (acc : SpAccess) (upset : Ecc)
  /-- SP_SCRUB_WORD (R438). -/
  | spScrubWord (n : Fin 16) (word : Nat) (upset : Ecc)
  /-- SP_SECURE_PASS (R439). -/
  | spSecurePass (a : Agent) (value : Nat)
  /-- SP_SECURE_PASS_END (R439). -/
  | spSecurePassEnd (singles : Nat)
  /-- SP_MARCH (R442). -/
  | spMarch (a : Agent) (value : Nat)
  /-- MARCH_END (R442). -/
  | marchEnd (results : List MarchResult)
  /-- MAILBOX_DATA_WRITE (R444). -/
  | mailboxDataWrite (a : Agent) (m j : Fin 16) (value : Nat)
  /-- MAILBOX_POST (R444). -/
  | mailboxPost (a : Agent) (m : Fin 16)
  /-- MAILBOX_ACK (R444). -/
  | mailboxAck (a : Agent) (m : Fin 16)
  /-- MAILBOX_TIMEOUT (R445). -/
  | mailboxTimeout (m : Fin 16)
  /-- CORE_INTERRUPT (R432). -/
  | coreInterrupt (c : Fin 4) (mie : Nat)
  /-- LOCK_ACQUIRE (R448). -/
  | lockAcquire (a : Agent) (k : Fin 64) (lease : Nat)
  /-- LOCK_RELEASE (R448). -/
  | lockRelease (a : Agent) (k : Fin 64)
  /-- LEASE_EXPIRY (R449). -/
  | leaseExpiry (k : Fin 64)
  /-- WD_KICK (R452). -/
  | wdKick (a : Agent) (c : Fin 4) (key : Nat)
  /-- WATCHDOG_EXPIRY (R452). -/
  | watchdogExpiry (c : Fin 4)
  /-- CRC_CONFIG (R455). -/
  | crcConfig (a : Agent) (u : Fin 8) (value : Nat)
  /-- CRC_FOLD (R455). -/
  | crcFold (a : Agent) (u : Fin 8) (value : Nat)
  /-- CRC_FEED (R455). -/
  | crcFeed (a : Agent) (u : Fin 8) (width : FeedWidth) (value : Nat)
  /-- CRC_RESULT_READ (R455). -/
  | crcResultRead (a : Agent) (u : Fin 8)
  /-- CHALLENGE (R462). -/
  | challenge (addr : Nat)
  /-- OPERATOR_SIGN_IN (R461). -/
  | operatorSignIn (addr : Nat) (password : List Byte)
  /-- KEY_SIGN_IN (R462). -/
  | keySignIn (addr : Nat) (response : List Byte)
  /-- SIGN_IN_LOCK_END (R463). -/
  | signInLockEnd (role : Role)
  /-- LIFECYCLE_TRANSITION (R466). -/
  | lifecycleTransition (a : Agent) (target : Nat)
  /-- LIFECYCLE_PROGRAMMED (R467). -/
  | lifecycleProgrammed
  /-- RMA_CONSENT (R468). -/
  | rmaConsent (a : Agent) (value : Nat)
  /-- TAMPER_INDICATION (R470). -/
  | tamperIndication (src : Fin 3)
  /-- EDITION_STAGE (R473). -/
  | editionStage (a : Agent) (bytes : List Byte)
  /-- EDITION_COMMIT (R473). -/
  | editionCommit (a : Agent) (value : Nat)
  /-- EDITION_PROGRAMMED (R474). -/
  | editionProgrammed (ok : Bool)
  /-- LEDGER_APPEND (R476). -/
  | ledgerAppend (a : Agent) (bytes : List Byte)
  /-- LEDGER_PROGRAMMED (R476). -/
  | ledgerProgrammed (ok : Bool)
  /-- ATTESTATION_REQUEST (R478). -/
  | attestationRequest (a : Agent) (nonce : List Byte)
  /-- ATTESTATION_SIGNED (R478). -/
  | attestationSigned
  /-- AUDIT_APPEND (R481). -/
  | auditAppend (a : Agent)
  /-- AL_STATE_REQUEST (R487). -/
  | alStateRequest (target : Nat) (mbxOk sync0Ok : Bool)
  /-- SDO_REQUEST (R492). -/
  | sdoRequest (addr : Nat) (req : Sdo) (flashOk : Bool)
  /-- SIGN_OUT (R490). -/
  | signOut (addr : Nat)
  /-- SESSION_IDLE_TIMEOUT (R490). -/
  | sessionIdleTimeout (addr : Nat)
  /-- RESTORE_DEFAULTS (R496). -/
  | restoreDefaults (a : Agent) (value : Nat)
  /-- TXPDO_PUBLISH (R500). -/
  | txpdoPublish
  /-- RXPDO_APPLY (R501). -/
  | rxpdoApply (entries : Nat)
  /-- SM_WATCHDOG_EXPIRY (R503). -/
  | smWatchdogExpiry
  /-- FOE_WRITE (R505). -/
  | foeWrite (addr : Nat) (file : FoeFile) (password : Nat) (data : List Byte) (flashOk : Bool)
  /-- FOE_READ (R504). -/
  | foeRead (addr : Nat) (file : FoeFile) (password : Nat)
  /-- FOE_BOOTSTRAP_WRITE (R507). -/
  | foeBootstrapWrite (slotB : Bool) (password : Nat) (data : List Byte) (flashOk : Bool)
  /-- DAP_REQUEST (R517). -/
  | dapRequest (req : Nat)
  /-- DEBUG_CHALLENGE (R518). -/
  | debugChallenge (a : Agent)
  /-- DEBUG_PASSWORD (R518). -/
  | debugPassword (a : Agent) (len : Nat)
  /-- DEBUG_KEY (R518). -/
  | debugKey (a : Agent)
  /-- DEBUG_SIGN_OUT (R520). -/
  | debugSignOut (a : Agent)
  /-- DEBUG_SESSION_IDLE (R520). -/
  | debugSessionIdle
  /-- CORE_HALT (R521). -/
  | coreHalt (a : Agent) (k : Fin 36)
  /-- CORE_RESUME (R523). -/
  | coreResume (a : Agent) (k : Fin 36)
  /-- CORE_STEP (R523). -/
  | coreStep (a : Agent) (k : Fin 36)
  /-- FREEZE_TEST (R528). -/
  | freezeTest (a : Agent) (mask : Nat)
  /-- TRACE_ENABLE (R529). -/
  | traceEnable (a : Agent) (value : Nat)
  /-- STIMULUS_WRITE (R531). -/
  | stimulusWrite (a : Agent) (c : Fin 4) (p : Fin 32) (width value : Nat)
  /-- TRACE_PACKET (R532). -/
  | tracePacket
  /-- LEAP_REQUEST (R541). -/
  | leapRequest (a : Agent) (bytes : List Byte)
  /-- LEAP_STEP_ADVANCE (R542). -/
  | leapStepAdvance (ok : Bool)
  /-- HEALTH_CANDIDATE (R540). -/
  | healthCandidate (reason : Fin 8) (target : List Byte)
  /-- THERMAL_THRESHOLD (R40). -/
  | thermalThreshold (milliC : Int)
  /-- RESET_RELEASE (R110). -/
  | resetRelease (pin : ResetPin)
  /-- VIN_RISE (R50). -/
  | vinRise
  /-- BALL_FAULT_ONSET (R65). -/
  | ballFaultOnset (onset : BallCurrent)
  /-- SYMBOL_LOCK_LOSS (R406). -/
  | symbolLockLoss (l : Fin 64) (signalLost : Bool)
  /-- PRBS_CHECKER_LOCK (R414). -/
  | prbsCheckerLock (l : Fin 64) (wrongBits : Nat)
  /-- ECAT_PORT_LINK (R488). -/
  | ecatPortLink (port : Fin 2) (up : Bool)
  /-- SM2_IMAGE_WRITE (R503). -/
  | sm2ImageWrite (image : List Byte)
  /-- TAP_UPDATE (R516). -/
  | tapUpdate (upd : TapUpdate)
  /-- TRACE_FIFO_DRAIN (R529). -/
  | traceFifoDrain (bytes : Nat)
  /-- SECURE_WIPE_END (R443). -/
  | secureWipeEnd
  /-- DEBUG_AUTH_DONE (R518). -/
  | debugAuthDone
  deriving DecidableEq, Repr

end Sys2Proof
end

