-- ==== Sys2Proof/Config.lean ====
section
/-! DEFINITION. What is fixed for one part, and the values the spec leaves open: opaque constants, of which no proof can
know anything (notes/assumptions/5.md and 6.md). -/
namespace Sys2Proof.Config

/-- The 128-bit device serial, one per part (object 0x2000:0x04), as the value of its 16 bytes. -/
opaque serial : Nat

/-- SHA3-512 of a message, as the value of its 64 bytes, least significant first. -/
opaque sha3 : List Byte → Nat

/-- ML-DSA verification under FIPS 204 of a signature over a message under a public key. -/
opaque mlDsaVerify : List Byte → List Byte → List Byte → Bool

/-- ML-DSA signature under FIPS 204 of a message by the key pair of a seed, as the value of its bytes. -/
opaque mlDsaSign : Nat → List Byte → Nat

/-- The public key of the ML-DSA key pair of a seed, as the value of its bytes. -/
opaque mlDsaPublic : Nat → Nat

/-- The 256-bit device secret, which only the security block reads (R477). -/
opaque deviceSecret : Nat

/-- The random-bit source: the value of its n-th draw. -/
opaque random : Nat → Nat

/-- The AES-256-GCM key stream of a line: what its plaintext is XORed with, by key and initialisation vector. -/
opaque gcmStream : Nat → Nat → Nat

/-- The first 64 bits of the AES-256-GCM tag, by key, initialisation vector, additional data and ciphertext. -/
opaque gcmTag : Nat → Nat → List Byte → List Byte → BitVec 64

/-- What a SECDED code of 64 data bits finds in a word stored with more than two wrong bits, by the data and check masks:
0 nothing, 1 a single-bit error, else a double-bit error. -/
opaque eccFinds : Nat → Nat → Nat

/-- The bits by which such a word then reads wrong. -/
opaque eccResidue : Nat → Nat → Nat

/-- Which of the four HBM ingress ports an address goes through, modulo 4. -/
opaque hbmIngress : Nat → Nat

/-- What a memory word whose contents are undefined after a raise holds, by the raise and the word's place. -/
opaque rawWord : Nat → Nat → Nat

/-- When in what is left of its frame a write of START lands that comes with no time of its own, by the number of such writes: how long
before the next tick, modulo the time left. -/
opaque startTime : Nat → Nat

/-- How far an analysis had come that was cut short, by the number of such cuts: the map bits its count read had counted, and the search
steps it had taken, each modulo one more than the whole (R312, R314, R316). -/
opaque readSoFar : Nat → Nat
opaque stepsSoFar : Nat → Nat

/-- How many neighbours the spare row has in its bank that stands for a replaced row: the spec does not place the spare rows (R351,
R357). By bank and row. -/
opaque spareNeighbours : Nat → Nat → Nat

/-- The counts so far of a tree pass whose region leaves service, by the number of such passes and the count: lines uncorrectable, words
corrected, lines checked (R375). -/
opaque passSoFar : Nat → Nat → Nat

/-- The die revision (R107, R471). -/
opaque dieRev : Nat

/-- The maker root key hash held in ROM, as the value of its 64 bytes (R111). -/
opaque romRootKey : Nat

/-- What one-time memory holds whose programming failed or was cut off: by edition 0 to 7 or 8 + ledger record, and byte. -/
opaque otpRaw : Nat → Nat → Byte

/-- Whether a lifecycle bit whose programming a pin reset cut short reads programmed (R467), by the bits programmed before. -/
opaque lcCut : Nat → Bool

/-- RST_CAUSE.SOURCE of the WARM reset that follows a lifecycle transition, which the spec does not state. -/
opaque lifecycleSource : Nat

/-- What firmware has left in a control core's pc and registers when the core halts: by the number of the halt or step, the
core and the register (R525). -/
opaque coreReg : Nat → Nat → Nat → Nat

/-- The same of a control and status register, by its number. -/
opaque coreCsr : Nat → Nat → Nat → Nat

/-- How object 0x2200:0x04 packs the active tick source and the holdover flag into its byte. -/
opaque tickSourceByte : Nat → Bool → Nat

/-- What the four temperature sensors of object 0x5010 read at the tick of a frame, in m°C. -/
opaque temperature : Nat → Nat → Int

/-- What an image gives one flip-flop of an area (R120), by the image's DIGEST, the area and the flip-flop: bit 0 its initial value,
bit 1 whether reset sets it, bit 2 whether its reset is asynchronous. The spec gives no frame encoding of it. -/
opaque flopBits : Nat → Nat → Nat → Nat

/-- Which of FAB0 to FAB3 an image gives a tile of an area (R120), modulo 4, by DIGEST, area and tile. -/
opaque tileClock : Nat → Nat → Nat → Nat

/-- What an area's logic has made of a flip-flop since its last reset: by area, number of the run and flip-flop. -/
opaque flopRaw : Nat → Nat → Nat → Bool

/-- The same of an arithmetic slice's registers: by area, number of the run, slice (48 × column + row) and register. -/
opaque sliceRaw : Nat → Nat → Nat → Nat → Nat

/-- The value that a port's border signals had in the cycle before isolation engaged (R152): by region, engagement and port. -/
opaque borderLast : Nat → Nat → Nat → Nat

/-- The ISO_HOLD choice, modulo 3, that a full image's border-control frames give a port (R152): by DIGEST, region and port. -/
opaque borderControl : Nat → Nat → Nat → Nat

/-- The block memories of an area in which a maker-test fuse, and no repair record, skips a bit column (R127, R140). -/
opaque makerFuses : Nat → Nat

/-- The bit column that a maker-test fuse skips in a block memory (R127), plus 1; 0 none: by area and memory. -/
opaque makerFuse : Nat → Nat → Nat

end Sys2Proof.Config
end

