-- ==== Sys2Proof/Machine/RegFile.lean ====
section
/-! DEFINITION. The two sparse stores of the model: numbers by key, and bytes by address.

Both are lists in ONE canonical form: keys strictly rising, and no entry equal to what an unlisted key reads as.
Equal stores are therefore equal data. -/
namespace Sys2Proof.Machine

/-- Numbers by key; an unlisted key reads as the default its reader names. -/
abbrev Sparse := List (Nat × Nat)

/-- The value listed for a key, if any. -/
def spFind (k : Nat) : Sparse → Option Nat
  | [] => none
  | (k', v) :: r => if k = k' then some v else spFind k r

/-- The value at a key, with the default of an unlisted one. -/
def spGetD (d k : Nat) (m : Sparse) : Nat := (spFind k m).getD d

/-- The value at a key where an unlisted key reads as 0. -/
def spGet (k : Nat) (m : Sparse) : Nat := spGetD 0 k m

/-- Remove a key. -/
def spDel (k : Nat) : Sparse → Sparse
  | [] => []
  | (k', v) :: r => if k = k' then r else (k', v) :: spDel k r

/-- Put a value at a key, keeping the keys in rising order. -/
def spPut (k v : Nat) : Sparse → Sparse
  | [] => [(k, v)]
  | (k', v') :: r =>
    if k < k' then (k, v) :: (k', v') :: r
    else if k = k' then (k, v) :: r
    else (k', v') :: spPut k v r

/-- Write a value where an unlisted key reads as `d`: writing `d` removes the entry. -/
def spSetD (d k v : Nat) (m : Sparse) : Sparse := if v = d then spDel k m else spPut k v m

/-- Write a value where an unlisted key reads as 0. -/
def spSet (k v : Nat) (m : Sparse) : Sparse := spSetD 0 k v m

/-- Forget every key from `lo` up to but not including `hi`. -/
def spClear (lo hi : Nat) (m : Sparse) : Sparse := m.filter (fun p => !(decide (lo ≤ p.1) && decide (p.1 < hi)))

/-- Keys strictly rising. -/
def keysRise : List Nat → Bool
  | [] => true
  | [_] => true
  | a :: b :: r => decide (a < b) && keysRise (b :: r)

/-- One field of one register: its key in the register file (64 × the byte address of its register + its lowest bit),
its width in bits and its reset value. -/
structure Fld where
  key : Nat
  width : Nat
  reset : Nat
  deriving DecidableEq, Repr

/-- The access codes of R7. -/
inductive Acc where
  | rw | ro | wo | w1c | w1s | rc | rp
  deriving DecidableEq, Repr

/-- The field's value: what the file lists, or the reset value, in the field's width. -/
def regGet (f : Fld) (m : Sparse) : Nat := spGetD f.reset f.key m % 2 ^ f.width

/-- The field written with a value cut to its width. -/
def regSet (f : Fld) (v : Nat) (m : Sparse) : Sparse := spSetD f.reset f.key (v % 2 ^ f.width) m

end Sys2Proof.Machine
end

