-- ==== Sys2Proof/Machine/Fields.lean ====
section
/-! DEFINITION. The fields of every register of windows 0x01 to 0x13, taken from the register tables of the spec:
for each its place, its width and its reset value (R4, R7, R10). The name is the register's name, an underscore and the
field's name; an argument is the register's index, taken modulo the number of such registers. -/
namespace Sys2Proof.Machine

/-- The reset contents of SLOT_SHD(k) and SLOT_ACT(k) (chapter 04, the table under them). -/
def slotReset (k : Nat) : Nat :=
  if k = 0 then 0x030303C6 else if k = 1 then 0x03030303 else if k < 14 then 0x28282828 else 0x29292929

/-- Reset values of GEN(r): XMAX and YMAX all ones, ZMAX 63, XI and YI 1, the others 0 (chapter 11). -/
def genReset (r : Nat) : Nat :=
  if r = 3 ∨ r = 4 then 0xFFFFFF else if r = 5 then 63 else if r = 8 ∨ r = 9 then 1 else 0

/-- Reset priority of requester `i` of arbiter `x` (chapter 17, the table of PRIO resets over the requesters of R392). -/
def arbPrioReset (x i : Nat) : Nat :=
  if x = 0 then (if i < 16 then 6 else if i < 18 then 5 else if i < 23 then 3 else 1)
  else if x < 17 then (if i < 5 then 4 else 1)
  else (if i < 4 then 4 else if i = 5 then 3 else 2)

/-- Reset PREEMPT: 1 for the sequencers on arbiter 0, else 0 (chapter 17). -/
def arbPreemptReset (x i : Nat) : Nat := if x = 0 ∧ i < 16 then 1 else 0


/-! SYS_PROFILE (chapter 01) -/
def SYS_PROFILE_GO : Fld := ⟨64 * 0x3000000100 + 16, 1, 0⟩
def SYS_PROFILE_RESULT : Fld := ⟨64 * 0x3000000100 + 9, 3, 0⟩
def SYS_PROFILE_PENDING : Fld := ⟨64 * 0x3000000100 + 8, 1, 0⟩
def SYS_PROFILE_CUR : Fld := ⟨64 * 0x3000000100 + 4, 2, 0⟩
def SYS_PROFILE_REQ : Fld := ⟨64 * 0x3000000100 + 0, 2, 0⟩
def SYS_PROFILE_fields : List (Acc × Fld) :=
  [(.wo, SYS_PROFILE_GO), (.ro, SYS_PROFILE_RESULT), (.ro, SYS_PROFILE_PENDING), (.ro, SYS_PROFILE_CUR), (.rw, SYS_PROFILE_REQ)]
/-! PWR_DOM_CTL (chapter 03) -/
def PWR_DOM_CTL_DRESET (i : Nat) : Fld := ⟨64 * (0x3001002000 + 0x8 * (i % 96)) + 2, 1, 0⟩
def PWR_DOM_CTL_TARGET (i : Nat) : Fld := ⟨64 * (0x3001002000 + 0x8 * (i % 96)) + 0, 2, bif i == 82 then 1 else 0⟩
def PWR_DOM_CTL_fields (i : Nat) : List (Acc × Fld) :=
  [(.wo, PWR_DOM_CTL_DRESET i), (.rw, PWR_DOM_CTL_TARGET i)]
/-! PWR_DOM_STAT (chapter 03) -/
def PWR_DOM_STAT_OUTSTANDING (i : Nat) : Fld := ⟨64 * (0x3001002004 + 0x8 * (i % 96)) + 8, 8, 0⟩
def PWR_DOM_STAT_FORCED (i : Nat) : Fld := ⟨64 * (0x3001002004 + 0x8 * (i % 96)) + 5, 1, 0⟩
def PWR_DOM_STAT_WAIT_GRANT (i : Nat) : Fld := ⟨64 * (0x3001002004 + 0x8 * (i % 96)) + 4, 1, 0⟩
def PWR_DOM_STAT_ENABLE_PENDING (i : Nat) : Fld := ⟨64 * (0x3001002004 + 0x8 * (i % 96)) + 3, 1, 0⟩
def PWR_DOM_STAT_STATE (i : Nat) : Fld := ⟨64 * (0x3001002004 + 0x8 * (i % 96)) + 0, 3, bif i == 82 then 2 else 0⟩
def PWR_DOM_STAT_fields (i : Nat) : List (Acc × Fld) :=
  [(.ro, PWR_DOM_STAT_OUTSTANDING i), (.w1c, PWR_DOM_STAT_FORCED i), (.ro, PWR_DOM_STAT_WAIT_GRANT i), (.ro, PWR_DOM_STAT_ENABLE_PENDING i), (.ro, PWR_DOM_STAT_STATE i)]
/-! SLU_REQ (chapter 03) -/
def SLU_REQ_TARGET : Fld := ⟨64 * 0x3001000200 + 36, 7, 0⟩
def SLU_REQ_CLASS : Fld := ⟨64 * 0x3001000200 + 32, 4, 0⟩
def SLU_REQ_DURATION : Fld := ⟨64 * 0x3001000200 + 16, 16, 0⟩
def SLU_REQ_CURRENT : Fld := ⟨64 * 0x3001000200 + 0, 16, 0⟩
def SLU_REQ_fields : List (Acc × Fld) :=
  [(.wo, SLU_REQ_TARGET), (.wo, SLU_REQ_CLASS), (.wo, SLU_REQ_DURATION), (.wo, SLU_REQ_CURRENT)]
/-! SLU_MYTICKET (chapter 03) -/
def SLU_MYTICKET_AT_ONCE : Fld := ⟨64 * 0x3001000208 + 16, 1, 0⟩
def SLU_MYTICKET_GEN : Fld := ⟨64 * 0x3001000208 + 8, 8, 0⟩
def SLU_MYTICKET_ENTRY : Fld := ⟨64 * 0x3001000208 + 0, 8, 0⟩
def SLU_MYTICKET_fields : List (Acc × Fld) :=
  [(.ro, SLU_MYTICKET_AT_ONCE), (.ro, SLU_MYTICKET_GEN), (.ro, SLU_MYTICKET_ENTRY)]
/-! SLU_RELEASE (chapter 03) -/
def SLU_RELEASE_TICKET : Fld := ⟨64 * 0x3001000210 + 0, 16, 0⟩
def SLU_RELEASE_fields : List (Acc × Fld) :=
  [(.wo, SLU_RELEASE_TICKET)]
/-! SLU_STAT (chapter 03) -/
def SLU_STAT_REFUSED : Fld := ⟨64 * 0x3001000218 + 48, 16, 0⟩
def SLU_STAT_WAITING : Fld := ⟨64 * 0x3001000218 + 32, 7, 0⟩
def SLU_STAT_GRANTED : Fld := ⟨64 * 0x3001000218 + 16, 16, 0⟩
def SLU_STAT_GRANTABLE : Fld := ⟨64 * 0x3001000218 + 0, 16, 1950⟩
def SLU_STAT_fields : List (Acc × Fld) :=
  [(.rc, SLU_STAT_REFUSED), (.ro, SLU_STAT_WAITING), (.ro, SLU_STAT_GRANTED), (.ro, SLU_STAT_GRANTABLE)]
/-! SLU_ENT (chapter 03) -/
def SLU_ENT_GEN (i : Nat) : Fld := ⟨64 * (0x3001001000 + 0x8 * (i % 128)) + 55, 8, 0⟩
def SLU_ENT_SKIPS (i : Nat) : Fld := ⟨64 * (0x3001001000 + 0x8 * (i % 128)) + 51, 4, 0⟩
def SLU_ENT_STATE (i : Nat) : Fld := ⟨64 * (0x3001001000 + 0x8 * (i % 128)) + 49, 2, 0⟩
def SLU_ENT_INITIATOR (i : Nat) : Fld := ⟨64 * (0x3001001000 + 0x8 * (i % 128)) + 43, 6, 0⟩
def SLU_ENT_TARGET (i : Nat) : Fld := ⟨64 * (0x3001001000 + 0x8 * (i % 128)) + 36, 7, 0⟩
def SLU_ENT_CLASS (i : Nat) : Fld := ⟨64 * (0x3001001000 + 0x8 * (i % 128)) + 32, 4, 0⟩
def SLU_ENT_REMAIN (i : Nat) : Fld := ⟨64 * (0x3001001000 + 0x8 * (i % 128)) + 16, 16, 0⟩
def SLU_ENT_CURRENT (i : Nat) : Fld := ⟨64 * (0x3001001000 + 0x8 * (i % 128)) + 0, 16, 0⟩
def SLU_ENT_fields (i : Nat) : List (Acc × Fld) :=
  [(.ro, SLU_ENT_GEN i), (.ro, SLU_ENT_SKIPS i), (.ro, SLU_ENT_STATE i), (.ro, SLU_ENT_INITIATOR i), (.ro, SLU_ENT_TARGET i), (.ro, SLU_ENT_CLASS i), (.ro, SLU_ENT_REMAIN i), (.ro, SLU_ENT_CURRENT i)]
/-! ELIM_TRIP (chapter 03) -/
def ELIM_TRIP_BALL (i : Nat) : Fld := ⟨64 * (0x3001000400 + 0x4 * (i % 32)) + 0, 16, 0⟩
def ELIM_TRIP_fields (i : Nat) : List (Acc × Fld) :=
  [(.w1c, ELIM_TRIP_BALL i)]
/-! ELIM_STAT (chapter 03) -/
def ELIM_STAT_WIN_FAULT : Fld := ⟨64 * 0x3001000300 + 8, 16, 0⟩
def ELIM_STAT_ANY_BALL : Fld := ⟨64 * 0x3001000300 + 1, 1, 0⟩
def ELIM_STAT_WIRING : Fld := ⟨64 * 0x3001000300 + 0, 1, 0⟩
def ELIM_STAT_fields : List (Acc × Fld) :=
  [(.ro, ELIM_STAT_WIN_FAULT), (.ro, ELIM_STAT_ANY_BALL), (.w1c, ELIM_STAT_WIRING)]
/-! ENL (chapter 03) -/
def ENL_MERGED (i : Nat) : Fld := ⟨64 * (0x3001010000 + 0x8 * (i % 512)) + 63, 1, 0⟩
def ENL_FAULT (i : Nat) : Fld := ⟨64 * (0x3001010000 + 0x8 * (i % 512)) + 32, 24, 0⟩
def ENL_TOTAL (i : Nat) : Fld := ⟨64 * (0x3001010000 + 0x8 * (i % 512)) + 0, 32, 0⟩
def ENL_fields (i : Nat) : List (Acc × Fld) :=
  [(.ro, ENL_MERGED i), (.ro, ENL_FAULT i), (.ro, ENL_TOTAL i)]
/-! CLK_SEL (chapter 04) -/
def CLK_SEL_WAIT (i : Nat) : Fld := ⟨64 * (0x3002000100 + 0x10 * (i % 5)) + 16, 16, 1024⟩
def CLK_SEL_PEND (i : Nat) : Fld := ⟨64 * (0x3002000100 + 0x10 * (i % 5)) + 15, 1, 0⟩
def CLK_SEL_FORCE (i : Nat) : Fld := ⟨64 * (0x3002000100 + 0x10 * (i % 5)) + 5, 1, 0⟩
def CLK_SEL_AUTO (i : Nat) : Fld := ⟨64 * (0x3002000100 + 0x10 * (i % 5)) + 4, 1, bif i == 0 then 1 else 0⟩
def CLK_SEL_SEL (i : Nat) : Fld := ⟨64 * (0x3002000100 + 0x10 * (i % 5)) + 0, 4, 0⟩
def CLK_SEL_fields (i : Nat) : List (Acc × Fld) :=
  [(.rw, CLK_SEL_WAIT i), (.ro, CLK_SEL_PEND i), (.rw, CLK_SEL_FORCE i), (.rw, CLK_SEL_AUTO i), (.rw, CLK_SEL_SEL i)]
/-! CLK_SRC_STAT (chapter 04) -/
def CLK_SRC_STAT_ACTIVE : Fld := ⟨64 * 0x3002000040 + 10, 2, 0⟩
def CLK_SRC_STAT_HOLDOVER : Fld := ⟨64 * 0x3002000040 + 9, 1, 0⟩
def CLK_SRC_STAT_LOST : Fld := ⟨64 * 0x3002000040 + 4, 3, 0⟩
def CLK_SRC_STAT_OK : Fld := ⟨64 * 0x3002000040 + 0, 3, 0⟩
def CLK_SRC_STAT_fields : List (Acc × Fld) :=
  [(.ro, CLK_SRC_STAT_ACTIVE), (.ro, CLK_SRC_STAT_HOLDOVER), (.w1c, CLK_SRC_STAT_LOST), (.ro, CLK_SRC_STAT_OK)]
/-! CLK_FAB (chapter 04) -/
def CLK_FAB_MHZ (i : Nat) : Fld := ⟨64 * (0x3002000300 + 0x4 * (i % 4)) + 0, 10, 500⟩
def CLK_FAB_fields (i : Nat) : List (Acc × Fld) :=
  [(.rw, CLK_FAB_MHZ i)]
/-! CLK_GATE (chapter 04) -/
def CLK_GATE_ACK_MISS (i : Nat) : Fld := ⟨64 * (0x3002001000 + 0x4 * (i % 96)) + 3, 1, 0⟩
def CLK_GATE_CLOSED (i : Nat) : Fld := ⟨64 * (0x3002001000 + 0x4 * (i % 96)) + 2, 1, 0⟩
def CLK_GATE_PEND (i : Nat) : Fld := ⟨64 * (0x3002001000 + 0x4 * (i % 96)) + 1, 1, 0⟩
def CLK_GATE_CLOSE (i : Nat) : Fld := ⟨64 * (0x3002001000 + 0x4 * (i % 96)) + 0, 1, 0⟩
def CLK_GATE_fields (i : Nat) : List (Acc × Fld) :=
  [(.w1c, CLK_GATE_ACK_MISS i), (.ro, CLK_GATE_CLOSED i), (.ro, CLK_GATE_PEND i), (.rw, CLK_GATE_CLOSE i)]
/-! CLKMON_CTL (chapter 04) -/
def CLKMON_CTL_EN : Fld := ⟨64 * 0x3002000200 + 31, 1, 0⟩
def CLKMON_CTL_DIV : Fld := ⟨64 * 0x3002000200 + 8, 12, 0⟩
def CLKMON_CTL_SRC : Fld := ⟨64 * 0x3002000200 + 0, 4, 0⟩
def CLKMON_CTL_fields : List (Acc × Fld) :=
  [(.rw, CLKMON_CTL_EN), (.rw, CLKMON_CTL_DIV), (.rw, CLKMON_CTL_SRC)]
/-! FRM_CTL (chapter 04) -/
def FRM_CTL_SRC : Fld := ⟨64 * 0x3000000200 + 24, 2, 0⟩
def FRM_CTL_PERIOD : Fld := ⟨64 * 0x3000000200 + 0, 24, 100000⟩
def FRM_CTL_fields : List (Acc × Fld) :=
  [(.rw, FRM_CTL_SRC), (.rw, FRM_CTL_PERIOD)]
/-! FRM_STAT (chapter 04) -/
def FRM_STAT_MISSED : Fld := ⟨64 * 0x3000000208 + 48, 8, 0⟩
def FRM_STAT_SRC_ACT : Fld := ⟨64 * 0x3000000208 + 40, 2, 0⟩
def FRM_STAT_ACQUIRING : Fld := ⟨64 * 0x3000000208 + 33, 1, 0⟩
def FRM_STAT_HOLDOVER : Fld := ⟨64 * 0x3000000208 + 32, 1, 0⟩
def FRM_STAT_PERIOD_ACT : Fld := ⟨64 * 0x3000000208 + 0, 24, 100000⟩
def FRM_STAT_fields : List (Acc × Fld) :=
  [(.ro, FRM_STAT_MISSED), (.ro, FRM_STAT_SRC_ACT), (.ro, FRM_STAT_ACQUIRING), (.ro, FRM_STAT_HOLDOVER), (.ro, FRM_STAT_PERIOD_ACT)]
/-! FRM_COUNT (chapter 04) -/
def FRM_COUNT_COUNT : Fld := ⟨64 * 0x3000000210 + 0, 48, 0⟩
def FRM_COUNT_fields : List (Acc × Fld) :=
  [(.ro, FRM_COUNT_COUNT)]
/-! FRM_OVR (chapter 04) -/
def FRM_OVR_COUNT (i : Nat) : Fld := ⟨64 * (0x3000000300 + 0x4 * (i % 8)) + 0, 32, 0⟩
def FRM_OVR_fields (i : Nat) : List (Acc × Fld) :=
  [(.rc, FRM_OVR_COUNT i)]
/-! SLOT_CTL (chapter 04) -/
def SLOT_CTL_SWAPPED : Fld := ⟨64 * 0x3000000400 + 1, 1, 0⟩
def SLOT_CTL_ARM : Fld := ⟨64 * 0x3000000400 + 0, 1, 0⟩
def SLOT_CTL_fields : List (Acc × Fld) :=
  [(.w1c, SLOT_CTL_SWAPPED), (.w1s, SLOT_CTL_ARM)]
/-! SLOT_SHD (chapter 04) -/
def SLOT_SHD_SLOT3 (i : Nat) : Fld := ⟨64 * (0x3000000500 + 0x4 * (i % 16)) + 24, 8, slotReset i / 16777216 % 256⟩
def SLOT_SHD_SLOT2 (i : Nat) : Fld := ⟨64 * (0x3000000500 + 0x4 * (i % 16)) + 16, 8, slotReset i / 65536 % 256⟩
def SLOT_SHD_SLOT1 (i : Nat) : Fld := ⟨64 * (0x3000000500 + 0x4 * (i % 16)) + 8, 8, slotReset i / 256 % 256⟩
def SLOT_SHD_SLOT0 (i : Nat) : Fld := ⟨64 * (0x3000000500 + 0x4 * (i % 16)) + 0, 8, slotReset i / 1 % 256⟩
def SLOT_SHD_fields (i : Nat) : List (Acc × Fld) :=
  [(.rw, SLOT_SHD_SLOT3 i), (.rw, SLOT_SHD_SLOT2 i), (.rw, SLOT_SHD_SLOT1 i), (.rw, SLOT_SHD_SLOT0 i)]
/-! SLOT_ACT (chapter 04) -/
def SLOT_ACT_SLOT3 (i : Nat) : Fld := ⟨64 * (0x3000000580 + 0x4 * (i % 16)) + 24, 8, slotReset i / 16777216 % 256⟩
def SLOT_ACT_SLOT2 (i : Nat) : Fld := ⟨64 * (0x3000000580 + 0x4 * (i % 16)) + 16, 8, slotReset i / 65536 % 256⟩
def SLOT_ACT_SLOT1 (i : Nat) : Fld := ⟨64 * (0x3000000580 + 0x4 * (i % 16)) + 8, 8, slotReset i / 256 % 256⟩
def SLOT_ACT_SLOT0 (i : Nat) : Fld := ⟨64 * (0x3000000580 + 0x4 * (i % 16)) + 0, 8, slotReset i / 1 % 256⟩
def SLOT_ACT_fields (i : Nat) : List (Acc × Fld) :=
  [(.ro, SLOT_ACT_SLOT3 i), (.ro, SLOT_ACT_SLOT2 i), (.ro, SLOT_ACT_SLOT1 i), (.ro, SLOT_ACT_SLOT0 i)]
/-! RST_CTL (chapter 05) -/
def RST_CTL_KEY : Fld := ⟨64 * 0x3000000800 + 8, 8, 0⟩
def RST_CTL_WARM : Fld := ⟨64 * 0x3000000800 + 4, 1, 0⟩
def RST_CTL_CORE : Fld := ⟨64 * 0x3000000800 + 0, 4, 0⟩
def RST_CTL_fields : List (Acc × Fld) :=
  [(.wo, RST_CTL_KEY), (.wo, RST_CTL_WARM), (.wo, RST_CTL_CORE)]
/-! RST_CAUSE (chapter 05) -/
def RST_CAUSE_WARM_COUNT : Fld := ⟨64 * 0x3000000808 + 16, 16, 0⟩
def RST_CAUSE_SOURCE : Fld := ⟨64 * 0x3000000808 + 4, 4, 0⟩
def RST_CAUSE_KIND : Fld := ⟨64 * 0x3000000808 + 0, 4, 0⟩
def RST_CAUSE_fields : List (Acc × Fld) :=
  [(.ro, RST_CAUSE_WARM_COUNT), (.ro, RST_CAUSE_SOURCE), (.ro, RST_CAUSE_KIND)]
/-! BOOT_STAT (chapter 05) -/
def BOOT_STAT_ELAPSED_MS : Fld := ⟨64 * 0x3000000810 + 48, 16, 0⟩
def BOOT_STAT_GOLDEN_ERR : Fld := ⟨64 * 0x3000000810 + 40, 4, 0⟩
def BOOT_STAT_PRIMARY_ERR : Fld := ⟨64 * 0x3000000810 + 36, 4, 0⟩
def BOOT_STAT_FW_ERR : Fld := ⟨64 * 0x3000000810 + 32, 4, 0⟩
def BOOT_STAT_IFW : Fld := ⟨64 * 0x3000000810 + 24, 4, 0⟩
def BOOT_STAT_FABRIC : Fld := ⟨64 * 0x3000000810 + 20, 4, 0⟩
def BOOT_STAT_FW_SLOT : Fld := ⟨64 * 0x3000000810 + 16, 4, 15⟩
def BOOT_STAT_ALMANAC : Fld := ⟨64 * 0x3000000810 + 12, 4, 15⟩
def BOOT_STAT_STAGE : Fld := ⟨64 * 0x3000000810 + 4, 4, 0⟩
def BOOT_STAT_DEGRADED : Fld := ⟨64 * 0x3000000810 + 2, 1, 0⟩
def BOOT_STAT_WARM : Fld := ⟨64 * 0x3000000810 + 1, 1, 0⟩
def BOOT_STAT_READY : Fld := ⟨64 * 0x3000000810 + 0, 1, 0⟩
def BOOT_STAT_fields : List (Acc × Fld) :=
  [(.ro, BOOT_STAT_ELAPSED_MS), (.ro, BOOT_STAT_GOLDEN_ERR), (.ro, BOOT_STAT_PRIMARY_ERR), (.ro, BOOT_STAT_FW_ERR), (.ro, BOOT_STAT_IFW), (.ro, BOOT_STAT_FABRIC), (.ro, BOOT_STAT_FW_SLOT), (.ro, BOOT_STAT_ALMANAC), (.ro, BOOT_STAT_STAGE), (.ro, BOOT_STAT_DEGRADED), (.ro, BOOT_STAT_WARM), (.ro, BOOT_STAT_READY)]
/-! FAB_ECC_CTL (chapter 06) -/
def FAB_ECC_CTL_SCRUB_RATE (i : Nat) : Fld := ⟨64 * (0x3003100000 + 0x40 * (i % 17)) + 16, 8, 16⟩
def FAB_ECC_CTL_LEAK (i : Nat) : Fld := ⟨64 * (0x3003100000 + 0x40 * (i % 17)) + 8, 8, 1⟩
def FAB_ECC_CTL_BUCKET (i : Nat) : Fld := ⟨64 * (0x3003100000 + 0x40 * (i % 17)) + 0, 8, 32⟩
def FAB_ECC_CTL_fields (i : Nat) : List (Acc × Fld) :=
  [(.rw, FAB_ECC_CTL_SCRUB_RATE i), (.rw, FAB_ECC_CTL_LEAK i), (.rw, FAB_ECC_CTL_BUCKET i)]
/-! FAB_ECC_STAT (chapter 06) -/
def FAB_ECC_STAT_UNCORR (i : Nat) : Fld := ⟨64 * (0x3003100008 + 0x40 * (i % 17)) + 48, 16, 0⟩
def FAB_ECC_STAT_CORR (i : Nat) : Fld := ⟨64 * (0x3003100008 + 0x40 * (i % 17)) + 32, 16, 0⟩
def FAB_ECC_STAT_PASSES (i : Nat) : Fld := ⟨64 * (0x3003100008 + 0x40 * (i % 17)) + 24, 8, 0⟩
def FAB_ECC_STAT_LEVEL (i : Nat) : Fld := ⟨64 * (0x3003100008 + 0x40 * (i % 17)) + 16, 8, 0⟩
def FAB_ECC_STAT_SKIP (i : Nat) : Fld := ⟨64 * (0x3003100008 + 0x40 * (i % 17)) + 1, 1, 0⟩
def FAB_ECC_STAT_OVERFLOW (i : Nat) : Fld := ⟨64 * (0x3003100008 + 0x40 * (i % 17)) + 0, 1, 0⟩
def FAB_ECC_STAT_fields (i : Nat) : List (Acc × Fld) :=
  [(.rc, FAB_ECC_STAT_UNCORR i), (.rc, FAB_ECC_STAT_CORR i), (.ro, FAB_ECC_STAT_PASSES i), (.ro, FAB_ECC_STAT_LEVEL i), (.w1c, FAB_ECC_STAT_SKIP i), (.w1c, FAB_ECC_STAT_OVERFLOW i)]
/-! FAB_FLIP_DATA (chapter 06) -/
def FAB_FLIP_DATA_DMASK (i : Nat) : Fld := ⟨64 * (0x3003100010 + 0x40 * (i % 17)) + 0, 64, 0⟩
def FAB_FLIP_DATA_fields (i : Nat) : List (Acc × Fld) :=
  [(.rw, FAB_FLIP_DATA_DMASK i)]
/-! FAB_FLIP_CTL (chapter 06) -/
def FAB_FLIP_CTL_ARM (i : Nat) : Fld := ⟨64 * (0x3003100018 + 0x40 * (i % 17)) + 31, 1, 0⟩
def FAB_FLIP_CTL_MEM (i : Nat) : Fld := ⟨64 * (0x3003100018 + 0x40 * (i % 17)) + 8, 11, 0⟩
def FAB_FLIP_CTL_CMASK (i : Nat) : Fld := ⟨64 * (0x3003100018 + 0x40 * (i % 17)) + 0, 8, 0⟩
def FAB_FLIP_CTL_fields (i : Nat) : List (Acc × Fld) :=
  [(.w1s, FAB_FLIP_CTL_ARM i), (.rw, FAB_FLIP_CTL_MEM i), (.rw, FAB_FLIP_CTL_CMASK i)]
/-! FAB_SPARE (chapter 06) -/
def FAB_SPARE_LCOL_B (i : Nat) : Fld := ⟨64 * (0x3003100020 + 0x40 * (i % 17)) + 24, 8, 255⟩
def FAB_SPARE_LCOL_A (i : Nat) : Fld := ⟨64 * (0x3003100020 + 0x40 * (i % 17)) + 16, 8, 255⟩
def FAB_SPARE_BMEM_SPARES (i : Nat) : Fld := ⟨64 * (0x3003100020 + 0x40 * (i % 17)) + 0, 11, 0⟩
def FAB_SPARE_fields (i : Nat) : List (Acc × Fld) :=
  [(.ro, FAB_SPARE_LCOL_B i), (.ro, FAB_SPARE_LCOL_A i), (.ro, FAB_SPARE_BMEM_SPARES i)]
/-! FAB_PORT_CTL (chapter 06) -/
def FAB_PORT_CTL_DIN_EN (i : Nat) : Fld := ⟨64 * (0x3003100880 + 0x4 * (i % 16)) + 1, 1, 0⟩
def FAB_PORT_CTL_TAP_EN (i : Nat) : Fld := ⟨64 * (0x3003100880 + 0x4 * (i % 16)) + 0, 1, 0⟩
def FAB_PORT_CTL_fields (i : Nat) : List (Acc × Fld) :=
  [(.rw, FAB_PORT_CTL_DIN_EN i), (.rw, FAB_PORT_CTL_TAP_EN i)]
/-! FAB_PORT_STAT (chapter 06) -/
def FAB_PORT_STAT_TAP_DROP (i : Nat) : Fld := ⟨64 * (0x3003100800 + 0x8 * (i % 16)) + 32, 32, 0⟩
def FAB_PORT_STAT_DIN_LEVEL (i : Nat) : Fld := ⟨64 * (0x3003100800 + 0x8 * (i % 16)) + 16, 10, 0⟩
def FAB_PORT_STAT_TAP_LEVEL (i : Nat) : Fld := ⟨64 * (0x3003100800 + 0x8 * (i % 16)) + 0, 10, 0⟩
def FAB_PORT_STAT_fields (i : Nat) : List (Acc × Fld) :=
  [(.rc, FAB_PORT_STAT_TAP_DROP i), (.ro, FAB_PORT_STAT_DIN_LEVEL i), (.ro, FAB_PORT_STAT_TAP_LEVEL i)]
/-! LDR_REQ (chapter 07) -/
def LDR_REQ_OP : Fld := ⟨64 * 0x3003000100 + 8, 2, 0⟩
def LDR_REQ_REGION : Fld := ⟨64 * 0x3003000100 + 4, 4, 0⟩
def LDR_REQ_SLOT : Fld := ⟨64 * 0x3003000100 + 0, 4, 0⟩
def LDR_REQ_fields : List (Acc × Fld) :=
  [(.wo, LDR_REQ_OP), (.wo, LDR_REQ_REGION), (.wo, LDR_REQ_SLOT)]
/-! LDR_STAT (chapter 07) -/
def LDR_STAT_LAST_ERR : Fld := ⟨64 * 0x3003000108 + 8, 4, 0⟩
def LDR_STAT_BUSY : Fld := ⟨64 * 0x3003000108 + 5, 1, 0⟩
def LDR_STAT_QUEUED : Fld := ⟨64 * 0x3003000108 + 0, 5, 0⟩
def LDR_STAT_fields : List (Acc × Fld) :=
  [(.ro, LDR_STAT_LAST_ERR), (.ro, LDR_STAT_BUSY), (.ro, LDR_STAT_QUEUED)]
/-! LDR_CACHE (chapter 07) -/
def LDR_CACHE_FULL_OK : Fld := ⟨64 * 0x3003000110 + 16, 1, 0⟩
def LDR_CACHE_SLOT_OK : Fld := ⟨64 * 0x3003000110 + 0, 16, 0⟩
def LDR_CACHE_fields : List (Acc × Fld) :=
  [(.ro, LDR_CACHE_FULL_OK), (.ro, LDR_CACHE_SLOT_OK)]
/-! REG_CTL (chapter 07) -/
def REG_CTL_POLICY (i : Nat) : Fld := ⟨64 * (0x3003001000 + 0x10 * (i % 17)) + 0, 2, bif i == 16 then 1 else 2⟩
def REG_CTL_fields (i : Nat) : List (Acc × Fld) :=
  [(.rw, REG_CTL_POLICY i)]
/-! REG_STAT (chapter 07) -/
def REG_STAT_BAD_ADDR (i : Nat) : Fld := ⟨64 * (0x3003001008 + 0x10 * (i % 17)) + 32, 32, 0⟩
def REG_STAT_FRAMES_DONE (i : Nat) : Fld := ⟨64 * (0x3003001008 + 0x10 * (i % 17)) + 16, 16, 0⟩
def REG_STAT_ERR (i : Nat) : Fld := ⟨64 * (0x3003001008 + 0x10 * (i % 17)) + 12, 4, 0⟩
def REG_STAT_ABORT (i : Nat) : Fld := ⟨64 * (0x3003001008 + 0x10 * (i % 17)) + 10, 2, 0⟩
def REG_STAT_FROM_FULL (i : Nat) : Fld := ⟨64 * (0x3003001008 + 0x10 * (i % 17)) + 9, 1, 0⟩
def REG_STAT_SLOT (i : Nat) : Fld := ⟨64 * (0x3003001008 + 0x10 * (i % 17)) + 5, 4, 0⟩
def REG_STAT_PENDING (i : Nat) : Fld := ⟨64 * (0x3003001008 + 0x10 * (i % 17)) + 4, 1, 0⟩
def REG_STAT_ISO (i : Nat) : Fld := ⟨64 * (0x3003001008 + 0x10 * (i % 17)) + 3, 1, 1⟩
def REG_STAT_STATE (i : Nat) : Fld := ⟨64 * (0x3003001008 + 0x10 * (i % 17)) + 0, 3, 0⟩
def REG_STAT_fields (i : Nat) : List (Acc × Fld) :=
  [(.ro, REG_STAT_BAD_ADDR i), (.ro, REG_STAT_FRAMES_DONE i), (.ro, REG_STAT_ERR i), (.ro, REG_STAT_ABORT i), (.ro, REG_STAT_FROM_FULL i), (.ro, REG_STAT_SLOT i), (.ro, REG_STAT_PENDING i), (.ro, REG_STAT_ISO i), (.ro, REG_STAT_STATE i)]
/-! ISO_HOLD (chapter 07) -/
def ISO_HOLD_CHOICE (i j : Nat) : Fld := ⟨64 * (0x3003002000 + 0x40 * (i % 16) + 0x4 * (j % 8)) + 0, 32, 0⟩
def ISO_HOLD_fields (i j : Nat) : List (Acc × Fld) :=
  [(.rw, ISO_HOLD_CHOICE i j)]
/-! RILL_CTL (chapter 07) -/
def RILL_CTL_PASS : Fld := ⟨64 * 0x3003000200 + 31, 1, 0⟩
def RILL_CTL_RATE : Fld := ⟨64 * 0x3003000200 + 16, 8, 64⟩
def RILL_CTL_LEAK : Fld := ⟨64 * 0x3003000200 + 8, 8, 1⟩
def RILL_CTL_BUCKET : Fld := ⟨64 * 0x3003000200 + 0, 8, 16⟩
def RILL_CTL_fields : List (Acc × Fld) :=
  [(.w1s, RILL_CTL_PASS), (.rw, RILL_CTL_RATE), (.rw, RILL_CTL_LEAK), (.rw, RILL_CTL_BUCKET)]
/-! RILL_STAT (chapter 07) -/
def RILL_STAT_UNCORR : Fld := ⟨64 * 0x3003000208 + 48, 16, 0⟩
def RILL_STAT_CORR : Fld := ⟨64 * 0x3003000208 + 32, 16, 0⟩
def RILL_STAT_POSITION : Fld := ⟨64 * 0x3003000208 + 16, 16, 0⟩
def RILL_STAT_LEVEL : Fld := ⟨64 * 0x3003000208 + 8, 8, 0⟩
def RILL_STAT_PASS_BUSY : Fld := ⟨64 * 0x3003000208 + 1, 1, 0⟩
def RILL_STAT_OVERFLOW : Fld := ⟨64 * 0x3003000208 + 0, 1, 0⟩
def RILL_STAT_fields : List (Acc × Fld) :=
  [(.rc, RILL_STAT_UNCORR), (.rc, RILL_STAT_CORR), (.ro, RILL_STAT_POSITION), (.ro, RILL_STAT_LEVEL), (.ro, RILL_STAT_PASS_BUSY), (.w1c, RILL_STAT_OVERFLOW)]
/-! RILL_PASS (chapter 07) -/
def RILL_PASS_FRAMES_UNCORR : Fld := ⟨64 * 0x3003000210 + 48, 16, 0⟩
def RILL_PASS_FRAMES_CORR : Fld := ⟨64 * 0x3003000210 + 32, 16, 0⟩
def RILL_PASS_FRAMES_CHECKED : Fld := ⟨64 * 0x3003000210 + 0, 32, 0⟩
def RILL_PASS_fields : List (Acc × Fld) :=
  [(.ro, RILL_PASS_FRAMES_UNCORR), (.ro, RILL_PASS_FRAMES_CORR), (.ro, RILL_PASS_FRAMES_CHECKED)]
/-! JET_BANK_CTL (chapter 08) -/
def JET_BANK_CTL_SPARE_FOR (i : Nat) : Fld := ⟨64 * (0x3004001000 + 0x10 * (i % 32)) + 8, 5, 31⟩
def JET_BANK_CTL_MAXRATE (i : Nat) : Fld := ⟨64 * (0x3004001000 + 0x10 * (i % 32)) + 0, 2, 1⟩
def JET_BANK_CTL_fields (i : Nat) : List (Acc × Fld) :=
  [(.rw, JET_BANK_CTL_SPARE_FOR i), (.rw, JET_BANK_CTL_MAXRATE i)]
/-! JET_BANK_STAT (chapter 08) -/
def JET_BANK_STAT_SPARE_ACT (i : Nat) : Fld := ⟨64 * (0x3004001008 + 0x10 * (i % 32)) + 18, 5, 31⟩
def JET_BANK_STAT_PMU_GRANT (i : Nat) : Fld := ⟨64 * (0x3004001008 + 0x10 * (i % 32)) + 17, 1, 0⟩
def JET_BANK_STAT_RATE_GRANT (i : Nat) : Fld := ⟨64 * (0x3004001008 + 0x10 * (i % 32)) + 16, 1, 0⟩
def JET_BANK_STAT_BLOCKED (i : Nat) : Fld := ⟨64 * (0x3004001008 + 0x10 * (i % 32)) + 0, 16, 0⟩
def JET_BANK_STAT_fields (i : Nat) : List (Acc × Fld) :=
  [(.ro, JET_BANK_STAT_SPARE_ACT i), (.ro, JET_BANK_STAT_PMU_GRANT i), (.ro, JET_BANK_STAT_RATE_GRANT i), (.ro, JET_BANK_STAT_BLOCKED i)]
/-! JET_CFG (chapter 08) -/
def JET_CFG_STROBE (i : Nat) : Fld := ⟨64 * (0x3004010000 + 0x100 * (i % 512)) + 12, 2, 0⟩
def JET_CFG_SEQ (i : Nat) : Fld := ⟨64 * (0x3004010000 + 0x100 * (i % 512)) + 8, 4, 0⟩
def JET_CFG_LOAD (i : Nat) : Fld := ⟨64 * (0x3004010000 + 0x100 * (i % 512)) + 5, 1, 0⟩
def JET_CFG_OFFMODE (i : Nat) : Fld := ⟨64 * (0x3004010000 + 0x100 * (i % 512)) + 4, 1, 0⟩
def JET_CFG_RANGE (i : Nat) : Fld := ⟨64 * (0x3004010000 + 0x100 * (i % 512)) + 1, 1, 0⟩
def JET_CFG_EN (i : Nat) : Fld := ⟨64 * (0x3004010000 + 0x100 * (i % 512)) + 0, 1, 0⟩
def JET_CFG_fields (i : Nat) : List (Acc × Fld) :=
  [(.rw, JET_CFG_STROBE i), (.rw, JET_CFG_SEQ i), (.rw, JET_CFG_LOAD i), (.rw, JET_CFG_OFFMODE i), (.rw, JET_CFG_RANGE i), (.rw, JET_CFG_EN i)]
/-! JET_LVL_DRV (chapter 08) -/
def JET_LVL_DRV_VTT (i : Nat) : Fld := ⟨64 * (0x3004010008 + 0x100 * (i % 512)) + 32, 16, 12500⟩
def JET_LVL_DRV_VIL (i : Nat) : Fld := ⟨64 * (0x3004010008 + 0x100 * (i % 512)) + 16, 16, 12500⟩
def JET_LVL_DRV_VIH (i : Nat) : Fld := ⟨64 * (0x3004010008 + 0x100 * (i % 512)) + 0, 16, 12500⟩
def JET_LVL_DRV_fields (i : Nat) : List (Acc × Fld) :=
  [(.rw, JET_LVL_DRV_VTT i), (.rw, JET_LVL_DRV_VIL i), (.rw, JET_LVL_DRV_VIH i)]
/-! JET_LVL_CMP (chapter 08) -/
def JET_LVL_CMP_VCOM (i : Nat) : Fld := ⟨64 * (0x3004010010 + 0x100 * (i % 512)) + 32, 16, 12500⟩
def JET_LVL_CMP_VOL (i : Nat) : Fld := ⟨64 * (0x3004010010 + 0x100 * (i % 512)) + 16, 16, 12500⟩
def JET_LVL_CMP_VOH (i : Nat) : Fld := ⟨64 * (0x3004010010 + 0x100 * (i % 512)) + 0, 16, 12500⟩
def JET_LVL_CMP_fields (i : Nat) : List (Acc × Fld) :=
  [(.rw, JET_LVL_CMP_VCOM i), (.rw, JET_LVL_CMP_VOL i), (.rw, JET_LVL_CMP_VOH i)]
/-! JET_LOAD (chapter 08) -/
def JET_LOAD_ISNK (i : Nat) : Fld := ⟨64 * (0x3004010018 + 0x100 * (i % 512)) + 16, 16, 0⟩
def JET_LOAD_ISRC (i : Nat) : Fld := ⟨64 * (0x3004010018 + 0x100 * (i % 512)) + 0, 16, 0⟩
def JET_LOAD_fields (i : Nat) : List (Acc × Fld) :=
  [(.rw, JET_LOAD_ISNK i), (.rw, JET_LOAD_ISRC i)]
/-! JET_PMU_CTL (chapter 08) -/
def JET_PMU_CTL_DIV (i : Nat) : Fld := ⟨64 * (0x3004010020 + 0x100 * (i % 512)) + 8, 8, 9⟩
def JET_PMU_CTL_IRANGE (i : Nat) : Fld := ⟨64 * (0x3004010020 + 0x100 * (i % 512)) + 4, 3, 4⟩
def JET_PMU_CTL_MODE (i : Nat) : Fld := ⟨64 * (0x3004010020 + 0x100 * (i % 512)) + 0, 2, 0⟩
def JET_PMU_CTL_fields (i : Nat) : List (Acc × Fld) :=
  [(.rw, JET_PMU_CTL_DIV i), (.rw, JET_PMU_CTL_IRANGE i), (.rw, JET_PMU_CTL_MODE i)]
/-! JET_PMU_FORCE (chapter 08) -/
def JET_PMU_FORCE_IFORCE (i : Nat) : Fld := ⟨64 * (0x3004010024 + 0x100 * (i % 512)) + 16, 16, 0⟩
def JET_PMU_FORCE_VFORCE (i : Nat) : Fld := ⟨64 * (0x3004010024 + 0x100 * (i % 512)) + 0, 16, 12000⟩
def JET_PMU_FORCE_fields (i : Nat) : List (Acc × Fld) :=
  [(.rw, JET_PMU_FORCE_IFORCE i), (.rw, JET_PMU_FORCE_VFORCE i)]
/-! JET_PMU_ICLAMP (chapter 08) -/
def JET_PMU_ICLAMP_HI (i : Nat) : Fld := ⟨64 * (0x3004010028 + 0x100 * (i % 512)) + 16, 16, 32767⟩
def JET_PMU_ICLAMP_LO (i : Nat) : Fld := ⟨64 * (0x3004010028 + 0x100 * (i % 512)) + 0, 16, 32768⟩
def JET_PMU_ICLAMP_fields (i : Nat) : List (Acc × Fld) :=
  [(.rw, JET_PMU_ICLAMP_HI i), (.rw, JET_PMU_ICLAMP_LO i)]
/-! JET_PMU_VCLAMP (chapter 08) -/
def JET_PMU_VCLAMP_HI (i : Nat) : Fld := ⟨64 * (0x300401002C + 0x100 * (i % 512)) + 16, 16, 60000⟩
def JET_PMU_VCLAMP_LO (i : Nat) : Fld := ⟨64 * (0x300401002C + 0x100 * (i % 512)) + 0, 16, 0⟩
def JET_PMU_VCLAMP_fields (i : Nat) : List (Acc × Fld) :=
  [(.rw, JET_PMU_VCLAMP_HI i), (.rw, JET_PMU_VCLAMP_LO i)]
/-! JET_PMU_RES (chapter 08) -/
def JET_PMU_RES_NUMBER (i : Nat) : Fld := ⟨64 * (0x3004010030 + 0x100 * (i % 512)) + 32, 16, 0⟩
def JET_PMU_RES_CLAMPED (i : Nat) : Fld := ⟨64 * (0x3004010030 + 0x100 * (i % 512)) + 19, 1, 0⟩
def JET_PMU_RES_OVER (i : Nat) : Fld := ⟨64 * (0x3004010030 + 0x100 * (i % 512)) + 18, 1, 0⟩
def JET_PMU_RES_SAMPLE (i : Nat) : Fld := ⟨64 * (0x3004010030 + 0x100 * (i % 512)) + 0, 18, 0⟩
def JET_PMU_RES_fields (i : Nat) : List (Acc × Fld) :=
  [(.ro, JET_PMU_RES_NUMBER i), (.ro, JET_PMU_RES_CLAMPED i), (.ro, JET_PMU_RES_OVER i), (.ro, JET_PMU_RES_SAMPLE i)]
/-! JET_STAT (chapter 08) -/
def JET_STAT_BLK_SPARE (i : Nat) : Fld := ⟨64 * (0x3004010038 + 0x100 * (i % 512)) + 6, 1, 0⟩
def JET_STAT_BLK_WIDE (i : Nat) : Fld := ⟨64 * (0x3004010038 + 0x100 * (i % 512)) + 5, 1, 0⟩
def JET_STAT_BLK_RATE (i : Nat) : Fld := ⟨64 * (0x3004010038 + 0x100 * (i % 512)) + 4, 1, 0⟩
def JET_STAT_TRIP (i : Nat) : Fld := ⟨64 * (0x3004010038 + 0x100 * (i % 512)) + 3, 1, 0⟩
def JET_STAT_PHYS (i : Nat) : Fld := ⟨64 * (0x3004010038 + 0x100 * (i % 512)) + 2, 1, 0⟩
def JET_STAT_STATE (i : Nat) : Fld := ⟨64 * (0x3004010038 + 0x100 * (i % 512)) + 0, 2, 0⟩
def JET_STAT_fields (i : Nat) : List (Acc × Fld) :=
  [(.w1c, JET_STAT_BLK_SPARE i), (.w1c, JET_STAT_BLK_WIDE i), (.w1c, JET_STAT_BLK_RATE i), (.ro, JET_STAT_TRIP i), (.ro, JET_STAT_PHYS i), (.ro, JET_STAT_STATE i)]
/-! ET_PER (chapter 09) -/
def ET_PER_PERIOD (i j : Nat) : Fld := ⟨64 * (0x3005010000 + 0x100 * (i % 16) + 0x4 * (j % 64)) + 0, 32, 4000⟩
def ET_PER_fields (i j : Nat) : List (Acc × Fld) :=
  [(.rw, ET_PER_PERIOD i j)]
/-! ET_SEQ_STAT (chapter 09) -/
def ET_SEQ_STAT_CYCLES (i : Nat) : Fld := ⟨64 * (0x3005001000 + 0x8 * (i % 16)) + 16, 48, 0⟩
def ET_SEQ_STAT_TS_LAST (i : Nat) : Fld := ⟨64 * (0x3005001000 + 0x8 * (i % 16)) + 0, 6, 0⟩
def ET_SEQ_STAT_fields (i : Nat) : List (Acc × Fld) :=
  [(.ro, ET_SEQ_STAT_CYCLES i), (.ro, ET_SEQ_STAT_TS_LAST i)]
/-! ET_BANK_CTL (chapter 09) -/
def ET_BANK_CTL_REALIGN (i : Nat) : Fld := ⟨64 * (0x3005002000 + 0x10 * (i % 32)) + 0, 1, 0⟩
def ET_BANK_CTL_fields (i : Nat) : List (Acc × Fld) :=
  [(.wo, ET_BANK_CTL_REALIGN i)]
/-! ET_BANK_STAT (chapter 09) -/
def ET_BANK_STAT_ALIGN_LOST (i : Nat) : Fld := ⟨64 * (0x3005002008 + 0x10 * (i % 32)) + 1, 1, 0⟩
def ET_BANK_STAT_ALIGNED (i : Nat) : Fld := ⟨64 * (0x3005002008 + 0x10 * (i % 32)) + 0, 1, 0⟩
def ET_BANK_STAT_fields (i : Nat) : List (Acc × Fld) :=
  [(.w1c, ET_BANK_STAT_ALIGN_LOST i), (.ro, ET_BANK_STAT_ALIGNED i)]
/-! ET_TS_DRV12 (chapter 09) -/
def ET_TS_DRV12_D2 (i j : Nat) : Fld := ⟨64 * (0x3005100000 + 0x800 * (i % 512) + 0x20 * (j % 64)) + 32, 32, 0⟩
def ET_TS_DRV12_D1 (i j : Nat) : Fld := ⟨64 * (0x3005100000 + 0x800 * (i % 512) + 0x20 * (j % 64)) + 0, 32, 0⟩
def ET_TS_DRV12_fields (i j : Nat) : List (Acc × Fld) :=
  [(.ro, ET_TS_DRV12_D2 i j), (.ro, ET_TS_DRV12_D1 i j)]
/-! ET_TS_DRV34 (chapter 09) -/
def ET_TS_DRV34_D4 (i j : Nat) : Fld := ⟨64 * (0x3005100008 + 0x800 * (i % 512) + 0x20 * (j % 64)) + 32, 32, 0⟩
def ET_TS_DRV34_D3 (i j : Nat) : Fld := ⟨64 * (0x3005100008 + 0x800 * (i % 512) + 0x20 * (j % 64)) + 0, 32, 0⟩
def ET_TS_DRV34_fields (i j : Nat) : List (Acc × Fld) :=
  [(.ro, ET_TS_DRV34_D4 i j), (.ro, ET_TS_DRV34_D3 i j)]
/-! ET_TS_CMP (chapter 09) -/
def ET_TS_CMP_C2 (i j : Nat) : Fld := ⟨64 * (0x3005100010 + 0x800 * (i % 512) + 0x20 * (j % 64)) + 32, 32, 0⟩
def ET_TS_CMP_C1 (i j : Nat) : Fld := ⟨64 * (0x3005100010 + 0x800 * (i % 512) + 0x20 * (j % 64)) + 0, 32, 0⟩
def ET_TS_CMP_fields (i j : Nat) : List (Acc × Fld) :=
  [(.ro, ET_TS_CMP_C2 i j), (.ro, ET_TS_CMP_C1 i j)]
/-! ET_TS_CFG (chapter 09) -/
def ET_TS_CFG_OK (i j : Nat) : Fld := ⟨64 * (0x3005100018 + 0x800 * (i % 512) + 0x20 * (j % 64)) + 31, 1, 0⟩
def ET_TS_CFG_FMT (i j : Nat) : Fld := ⟨64 * (0x3005100018 + 0x800 * (i % 512) + 0x20 * (j % 64)) + 0, 3, 0⟩
def ET_TS_CFG_fields (i j : Nat) : List (Acc × Fld) :=
  [(.ro, ET_TS_CFG_OK i j), (.ro, ET_TS_CFG_FMT i j)]
/-! ET_CH_STG_DRV12 (chapter 09) -/
def ET_CH_STG_DRV12_D2 (i : Nat) : Fld := ⟨64 * (0x3005200000 + 0x80 * (i % 512)) + 32, 32, 0⟩
def ET_CH_STG_DRV12_D1 (i : Nat) : Fld := ⟨64 * (0x3005200000 + 0x80 * (i % 512)) + 0, 32, 0⟩
def ET_CH_STG_DRV12_fields (i : Nat) : List (Acc × Fld) :=
  [(.rw, ET_CH_STG_DRV12_D2 i), (.rw, ET_CH_STG_DRV12_D1 i)]
/-! ET_CH_STG_DRV34 (chapter 09) -/
def ET_CH_STG_DRV34_D4 (i : Nat) : Fld := ⟨64 * (0x3005200008 + 0x80 * (i % 512)) + 32, 32, 0⟩
def ET_CH_STG_DRV34_D3 (i : Nat) : Fld := ⟨64 * (0x3005200008 + 0x80 * (i % 512)) + 0, 32, 0⟩
def ET_CH_STG_DRV34_fields (i : Nat) : List (Acc × Fld) :=
  [(.rw, ET_CH_STG_DRV34_D4 i), (.rw, ET_CH_STG_DRV34_D3 i)]
/-! ET_CH_STG_CMP (chapter 09) -/
def ET_CH_STG_CMP_C2 (i : Nat) : Fld := ⟨64 * (0x3005200010 + 0x80 * (i % 512)) + 32, 32, 0⟩
def ET_CH_STG_CMP_C1 (i : Nat) : Fld := ⟨64 * (0x3005200010 + 0x80 * (i % 512)) + 0, 32, 0⟩
def ET_CH_STG_CMP_fields (i : Nat) : List (Acc × Fld) :=
  [(.rw, ET_CH_STG_CMP_C2 i), (.rw, ET_CH_STG_CMP_C1 i)]
/-! ET_CH_COMMIT (chapter 09) -/
def ET_CH_COMMIT_TS (i : Nat) : Fld := ⟨64 * (0x3005200018 + 0x80 * (i % 512)) + 8, 6, 0⟩
def ET_CH_COMMIT_FMT (i : Nat) : Fld := ⟨64 * (0x3005200018 + 0x80 * (i % 512)) + 0, 3, 0⟩
def ET_CH_COMMIT_fields (i : Nat) : List (Acc × Fld) :=
  [(.wo, ET_CH_COMMIT_TS i), (.wo, ET_CH_COMMIT_FMT i)]
/-! ET_CH_FIX (chapter 09) -/
def ET_CH_FIX_FIX (i : Nat) : Fld := ⟨64 * (0x3005200020 + 0x80 * (i % 512)) + 0, 16, 0⟩
def ET_CH_FIX_fields (i : Nat) : List (Acc × Fld) :=
  [(.rw, ET_CH_FIX_FIX i)]
/-! ET_CH_CAL (chapter 09) -/
def ET_CH_CAL_CAL_CMP (i : Nat) : Fld := ⟨64 * (0x3005200028 + 0x80 * (i % 512)) + 16, 16, 0⟩
def ET_CH_CAL_CAL_DRV (i : Nat) : Fld := ⟨64 * (0x3005200028 + 0x80 * (i % 512)) + 0, 16, 0⟩
def ET_CH_CAL_fields (i : Nat) : List (Acc × Fld) :=
  [(.ro, ET_CH_CAL_CAL_CMP i), (.ro, ET_CH_CAL_CAL_DRV i)]
/-! ET_CH_CORR (chapter 09) -/
def ET_CH_CORR_CORR_CMP (i : Nat) : Fld := ⟨64 * (0x3005200030 + 0x80 * (i % 512)) + 16, 16, 0⟩
def ET_CH_CORR_CORR_DRV (i : Nat) : Fld := ⟨64 * (0x3005200030 + 0x80 * (i % 512)) + 0, 16, 0⟩
def ET_CH_CORR_fields (i : Nat) : List (Acc × Fld) :=
  [(.ro, ET_CH_CORR_CORR_CMP i), (.ro, ET_CH_CORR_CORR_DRV i)]
/-! ET_CH_STAT (chapter 09) -/
def ET_CH_STAT_OK (i : Nat) : Fld := ⟨64 * (0x3005200038 + 0x80 * (i % 512)) + 0, 64, 0⟩
def ET_CH_STAT_fields (i : Nat) : List (Acc × Fld) :=
  [(.ro, ET_CH_STAT_OK i)]
/-! ET_CH_BADCYC (chapter 09) -/
def ET_CH_BADCYC_COUNT (i : Nat) : Fld := ⟨64 * (0x3005200040 + 0x80 * (i % 512)) + 0, 32, 0⟩
def ET_CH_BADCYC_fields (i : Nat) : List (Acc × Fld) :=
  [(.rc, ET_CH_BADCYC_COUNT i)]
/-! WEIR_CTL (chapter 10) -/
def WEIR_CTL_STALE_FRAMES : Fld := ⟨64 * 0x3006000100 + 16, 16, 100⟩
def WEIR_CTL_DEADBAND : Fld := ⟨64 * 0x3006000100 + 8, 8, 8⟩
def WEIR_CTL_RUN : Fld := ⟨64 * 0x3006000100 + 0, 1, 1⟩
def WEIR_CTL_fields : List (Acc × Fld) :=
  [(.rw, WEIR_CTL_STALE_FRAMES), (.rw, WEIR_CTL_DEADBAND), (.rw, WEIR_CTL_RUN)]
/-! WEIR_LIM (chapter 10) -/
def WEIR_LIM_CORR_LIM : Fld := ⟨64 * 0x3006000108 + 0, 16, 800⟩
def WEIR_LIM_fields : List (Acc × Fld) :=
  [(.rw, WEIR_LIM_CORR_LIM)]
/-! WEIR_CAL_BANKS (chapter 10) -/
def WEIR_CAL_BANKS_BANKS : Fld := ⟨64 * 0x3006000200 + 0, 32, 0⟩
def WEIR_CAL_BANKS_fields : List (Acc × Fld) :=
  [(.rw, WEIR_CAL_BANKS_BANKS)]
/-! WEIR_CAL_CTL (chapter 10) -/
def WEIR_CAL_CTL_SAVE : Fld := ⟨64 * 0x3006000208 + 1, 1, 0⟩
def WEIR_CAL_CTL_GO : Fld := ⟨64 * 0x3006000208 + 0, 1, 0⟩
def WEIR_CAL_CTL_fields : List (Acc × Fld) :=
  [(.wo, WEIR_CAL_CTL_SAVE), (.wo, WEIR_CAL_CTL_GO)]
/-! WEIR_CAL_STAT (chapter 10) -/
def WEIR_CAL_STAT_FAILED : Fld := ⟨64 * 0x3006000210 + 32, 32, 0⟩
def WEIR_CAL_STAT_DONE : Fld := ⟨64 * 0x3006000210 + 0, 32, 0⟩
def WEIR_CAL_STAT_fields : List (Acc × Fld) :=
  [(.ro, WEIR_CAL_STAT_FAILED), (.ro, WEIR_CAL_STAT_DONE)]
/-! WEIR_CAL_INFO (chapter 10) -/
def WEIR_CAL_INFO_BUSY : Fld := ⟨64 * 0x3006000218 + 31, 1, 0⟩
def WEIR_CAL_INFO_DIRTY : Fld := ⟨64 * 0x3006000218 + 30, 1, 0⟩
def WEIR_CAL_INFO_SAVE_STATUS : Fld := ⟨64 * 0x3006000218 + 27, 3, 0⟩
def WEIR_CAL_INFO_RECORD_OK : Fld := ⟨64 * 0x3006000218 + 26, 1, 0⟩
def WEIR_CAL_INFO_fields : List (Acc × Fld) :=
  [(.ro, WEIR_CAL_INFO_BUSY), (.ro, WEIR_CAL_INFO_DIRTY), (.ro, WEIR_CAL_INFO_SAVE_STATUS), (.ro, WEIR_CAL_INFO_RECORD_OK)]
/-! WEIR_CAL_ERR (chapter 10) -/
def WEIR_CAL_ERR_CODE (i : Nat) : Fld := ⟨64 * (0x3006000400 + 0x4 * (i % 32)) + 0, 4, 0⟩
def WEIR_CAL_ERR_fields (i : Nat) : List (Acc × Fld) :=
  [(.ro, WEIR_CAL_ERR_CODE i)]
/-! WEIR_CH_CTL (chapter 10) -/
def WEIR_CH_CTL_SENT_MAX (i : Nat) : Fld := ⟨64 * (0x3006010000 + 0x20 * (i % 512)) + 8, 8, 64⟩
def WEIR_CH_CTL_SENT (i : Nat) : Fld := ⟨64 * (0x3006010000 + 0x20 * (i % 512)) + 2, 1, 0⟩
def WEIR_CH_CTL_USE (i : Nat) : Fld := ⟨64 * (0x3006010000 + 0x20 * (i % 512)) + 0, 2, 0⟩
def WEIR_CH_CTL_fields (i : Nat) : List (Acc × Fld) :=
  [(.rw, WEIR_CH_CTL_SENT_MAX i), (.rw, WEIR_CH_CTL_SENT i), (.rw, WEIR_CH_CTL_USE i)]
/-! WEIR_CH_CAL (chapter 10) -/
def WEIR_CH_CAL_CAL_CMP (i : Nat) : Fld := ⟨64 * (0x3006010004 + 0x20 * (i % 512)) + 16, 16, 0⟩
def WEIR_CH_CAL_CAL_DRV (i : Nat) : Fld := ⟨64 * (0x3006010004 + 0x20 * (i % 512)) + 0, 16, 0⟩
def WEIR_CH_CAL_fields (i : Nat) : List (Acc × Fld) :=
  [(.ro, WEIR_CH_CAL_CAL_CMP i), (.ro, WEIR_CH_CAL_CAL_DRV i)]
/-! WEIR_CH_CORR (chapter 10) -/
def WEIR_CH_CORR_CORR_CMP (i : Nat) : Fld := ⟨64 * (0x3006010008 + 0x20 * (i % 512)) + 16, 16, 0⟩
def WEIR_CH_CORR_CORR_DRV (i : Nat) : Fld := ⟨64 * (0x3006010008 + 0x20 * (i % 512)) + 0, 16, 0⟩
def WEIR_CH_CORR_fields (i : Nat) : List (Acc × Fld) :=
  [(.ro, WEIR_CH_CORR_CORR_CMP i), (.ro, WEIR_CH_CORR_CORR_DRV i)]
/-! WEIR_CH_STAT (chapter 10) -/
def WEIR_CH_STAT_QUIET (i : Nat) : Fld := ⟨64 * (0x300601000C + 0x20 * (i % 512)) + 16, 16, 0⟩
def WEIR_CH_STAT_SENT_LAST (i : Nat) : Fld := ⟨64 * (0x300601000C + 0x20 * (i % 512)) + 8, 8, 0⟩
def WEIR_CH_STAT_UNCAL (i : Nat) : Fld := ⟨64 * (0x300601000C + 0x20 * (i % 512)) + 4, 1, 0⟩
def WEIR_CH_STAT_LIMIT_CMP (i : Nat) : Fld := ⟨64 * (0x300601000C + 0x20 * (i % 512)) + 3, 1, 0⟩
def WEIR_CH_STAT_LIMIT_DRV (i : Nat) : Fld := ⟨64 * (0x300601000C + 0x20 * (i % 512)) + 2, 1, 0⟩
def WEIR_CH_STAT_SETTLING (i : Nat) : Fld := ⟨64 * (0x300601000C + 0x20 * (i % 512)) + 1, 1, 0⟩
def WEIR_CH_STAT_STALE (i : Nat) : Fld := ⟨64 * (0x300601000C + 0x20 * (i % 512)) + 0, 1, 0⟩
def WEIR_CH_STAT_fields (i : Nat) : List (Acc × Fld) :=
  [(.ro, WEIR_CH_STAT_QUIET i), (.ro, WEIR_CH_STAT_SENT_LAST i), (.ro, WEIR_CH_STAT_UNCAL i), (.w1c, WEIR_CH_STAT_LIMIT_CMP i), (.w1c, WEIR_CH_STAT_LIMIT_DRV i), (.ro, WEIR_CH_STAT_SETTLING i), (.ro, WEIR_CH_STAT_STALE i)]
/-! WEIR_CH_EST (chapter 10) -/
def WEIR_CH_EST_EST_CMP (i : Nat) : Fld := ⟨64 * (0x3006010010 + 0x20 * (i % 512)) + 48, 16, 0⟩
def WEIR_CH_EST_EST_DRV (i : Nat) : Fld := ⟨64 * (0x3006010010 + 0x20 * (i % 512)) + 32, 16, 0⟩
def WEIR_CH_EST_EDGES_CMP (i : Nat) : Fld := ⟨64 * (0x3006010010 + 0x20 * (i % 512)) + 16, 16, 0⟩
def WEIR_CH_EST_EDGES_DRV (i : Nat) : Fld := ⟨64 * (0x3006010010 + 0x20 * (i % 512)) + 0, 16, 0⟩
def WEIR_CH_EST_fields (i : Nat) : List (Acc × Fld) :=
  [(.ro, WEIR_CH_EST_EST_CMP i), (.ro, WEIR_CH_EST_EST_DRV i), (.ro, WEIR_CH_EST_EDGES_CMP i), (.ro, WEIR_CH_EST_EDGES_DRV i)]
/-! SEQ_CTL (chapter 11) -/
def SEQ_CTL_ABORT (i : Nat) : Fld := ⟨64 * (0x3007100000 + 0x10000 * (i % 16)) + 31, 1, 0⟩
def SEQ_CTL_STOP (i : Nat) : Fld := ⟨64 * (0x3007100000 + 0x10000 * (i % 16)) + 30, 1, 0⟩
def SEQ_CTL_START (i : Nat) : Fld := ⟨64 * (0x3007100000 + 0x10000 * (i % 16)) + 29, 1, 0⟩
def SEQ_CTL_PAUSE (i : Nat) : Fld := ⟨64 * (0x3007100000 + 0x10000 * (i % 16)) + 28, 1, 0⟩
def SEQ_CTL_HFLAG (i : Nat) : Fld := ⟨64 * (0x3007100000 + 0x10000 * (i % 16)) + 27, 1, 0⟩
def SEQ_CTL_HOLD_TS (i : Nat) : Fld := ⟨64 * (0x3007100000 + 0x10000 * (i % 16)) + 18, 6, 0⟩
def SEQ_CTL_PAUSE_WARN (i : Nat) : Fld := ⟨64 * (0x3007100000 + 0x10000 * (i % 16)) + 0, 16, 10⟩
def SEQ_CTL_fields (i : Nat) : List (Acc × Fld) :=
  [(.wo, SEQ_CTL_ABORT i), (.wo, SEQ_CTL_STOP i), (.wo, SEQ_CTL_START i), (.rw, SEQ_CTL_PAUSE i), (.rw, SEQ_CTL_HFLAG i), (.rw, SEQ_CTL_HOLD_TS i), (.rw, SEQ_CTL_PAUSE_WARN i)]
/-! SEQ_STAT (chapter 11) -/
def SEQ_STAT_CAUSE (i : Nat) : Fld := ⟨64 * (0x3007100008 + 0x10000 * (i % 16)) + 32, 4, 0⟩
def SEQ_STAT_END (i : Nat) : Fld := ⟨64 * (0x3007100008 + 0x10000 * (i % 16)) + 24, 4, 0⟩
def SEQ_STAT_PAUSE_SRC (i : Nat) : Fld := ⟨64 * (0x3007100008 + 0x10000 * (i % 16)) + 16, 3, 0⟩
def SEQ_STAT_WAIT (i : Nat) : Fld := ⟨64 * (0x3007100008 + 0x10000 * (i % 16)) + 4, 3, 0⟩
def SEQ_STAT_STATE (i : Nat) : Fld := ⟨64 * (0x3007100008 + 0x10000 * (i % 16)) + 0, 2, 0⟩
def SEQ_STAT_fields (i : Nat) : List (Acc × Fld) :=
  [(.ro, SEQ_STAT_CAUSE i), (.ro, SEQ_STAT_END i), (.ro, SEQ_STAT_PAUSE_SRC i), (.ro, SEQ_STAT_WAIT i), (.ro, SEQ_STAT_STATE i)]
/-! SEQ_START_AT (chapter 11) -/
def SEQ_START_AT_FRAME (i : Nat) : Fld := ⟨64 * (0x3007100010 + 0x10000 * (i % 16)) + 0, 48, 0⟩
def SEQ_START_AT_fields (i : Nat) : List (Acc × Fld) :=
  [(.rw, SEQ_START_AT_FRAME i)]
/-! SEQ_PROG (chapter 11) -/
def SEQ_PROG_ENTRY (i : Nat) : Fld := ⟨64 * (0x3007100018 + 0x10000 * (i % 16)) + 40, 24, 0⟩
def SEQ_PROG_BASE (i : Nat) : Fld := ⟨64 * (0x3007100018 + 0x10000 * (i % 16)) + 0, 34, 0⟩
def SEQ_PROG_fields (i : Nat) : List (Acc × Fld) :=
  [(.rw, SEQ_PROG_ENTRY i), (.rw, SEQ_PROG_BASE i)]
/-! SEQ_VEC (chapter 11) -/
def SEQ_VEC_BASE (i : Nat) : Fld := ⟨64 * (0x3007100020 + 0x10000 * (i % 16)) + 0, 34, 0⟩
def SEQ_VEC_fields (i : Nat) : List (Acc × Fld) :=
  [(.rw, SEQ_VEC_BASE i)]
/-! SEQ_PC (chapter 11) -/
def SEQ_PC_CALLS (i : Nat) : Fld := ⟨64 * (0x3007100028 + 0x10000 * (i % 16)) + 29, 4, 0⟩
def SEQ_PC_LOOPS (i : Nat) : Fld := ⟨64 * (0x3007100028 + 0x10000 * (i % 16)) + 24, 5, 0⟩
def SEQ_PC_PC (i : Nat) : Fld := ⟨64 * (0x3007100028 + 0x10000 * (i % 16)) + 0, 24, 0⟩
def SEQ_PC_fields (i : Nat) : List (Acc × Fld) :=
  [(.ro, SEQ_PC_CALLS i), (.ro, SEQ_PC_LOOPS i), (.ro, SEQ_PC_PC i)]
/-! SEQ_SITE_MASK (chapter 11) -/
def SEQ_SITE_MASK_SITE (i : Nat) : Fld := ⟨64 * (0x3007100030 + 0x10000 * (i % 16)) + 0, 64, 0⟩
def SEQ_SITE_MASK_fields (i : Nat) : List (Acc × Fld) :=
  [(.rw, SEQ_SITE_MASK_SITE i)]
/-! SEQ_SITE_OFF (chapter 11) -/
def SEQ_SITE_OFF_SITE (i : Nat) : Fld := ⟨64 * (0x3007100038 + 0x10000 * (i % 16)) + 0, 64, 0⟩
def SEQ_SITE_OFF_fields (i : Nat) : List (Acc × Fld) :=
  [(.rw, SEQ_SITE_OFF_SITE i)]
/-! SEQ_SITE_FAIL (chapter 11) -/
def SEQ_SITE_FAIL_SITE (i : Nat) : Fld := ⟨64 * (0x3007100040 + 0x10000 * (i % 16)) + 0, 64, 0⟩
def SEQ_SITE_FAIL_fields (i : Nat) : List (Acc × Fld) :=
  [(.ro, SEQ_SITE_FAIL_SITE i)]
/-! SEQ_SITE_MATCH (chapter 11) -/
def SEQ_SITE_MATCH_SITE (i : Nat) : Fld := ⟨64 * (0x3007100048 + 0x10000 * (i % 16)) + 0, 64, 0⟩
def SEQ_SITE_MATCH_fields (i : Nat) : List (Acc × Fld) :=
  [(.ro, SEQ_SITE_MATCH_SITE i)]
/-! SEQ_MARK (chapter 11) -/
def SEQ_MARK_CYCLE (i : Nat) : Fld := ⟨64 * (0x3007100050 + 0x10000 * (i % 16)) + 24, 24, 0⟩
def SEQ_MARK_VALUE (i : Nat) : Fld := ⟨64 * (0x3007100050 + 0x10000 * (i % 16)) + 0, 24, 0⟩
def SEQ_MARK_fields (i : Nat) : List (Acc × Fld) :=
  [(.ro, SEQ_MARK_CYCLE i), (.ro, SEQ_MARK_VALUE i)]
/-! SEQ_SLU (chapter 03) -/
def SEQ_SLU_TARGET (i j : Nat) : Fld := ⟨64 * (0x3007100080 + 0x10000 * (i % 16) + 0x8 * (j % 8)) + 36, 7, 0⟩
def SEQ_SLU_CLASS (i j : Nat) : Fld := ⟨64 * (0x3007100080 + 0x10000 * (i % 16) + 0x8 * (j % 8)) + 32, 4, 0⟩
def SEQ_SLU_DURATION (i j : Nat) : Fld := ⟨64 * (0x3007100080 + 0x10000 * (i % 16) + 0x8 * (j % 8)) + 16, 16, 0⟩
def SEQ_SLU_CURRENT (i j : Nat) : Fld := ⟨64 * (0x3007100080 + 0x10000 * (i % 16) + 0x8 * (j % 8)) + 0, 16, 0⟩
def SEQ_SLU_fields (i j : Nat) : List (Acc × Fld) :=
  [(.rw, SEQ_SLU_TARGET i j), (.rw, SEQ_SLU_CLASS i j), (.rw, SEQ_SLU_DURATION i j), (.rw, SEQ_SLU_CURRENT i j)]
/-! SEQ_TICKET (chapter 11) -/
def SEQ_TICKET_VALID (i j : Nat) : Fld := ⟨64 * (0x30071000C0 + 0x10000 * (i % 16) + 0x4 * (j % 8)) + 16, 1, 0⟩
def SEQ_TICKET_TICKET (i j : Nat) : Fld := ⟨64 * (0x30071000C0 + 0x10000 * (i % 16) + 0x4 * (j % 8)) + 0, 16, 0⟩
def SEQ_TICKET_fields (i j : Nat) : List (Acc × Fld) :=
  [(.ro, SEQ_TICKET_VALID i j), (.ro, SEQ_TICKET_TICKET i j)]
/-! GEN (chapter 11) -/
def GEN_VALUE (i j : Nat) : Fld := ⟨64 * (0x3007100100 + 0x10000 * (i % 16) + 0x4 * (j % 10)) + 0, 24, genReset j⟩
def GEN_fields (i j : Nat) : List (Acc × Fld) :=
  [(.rw, GEN_VALUE i j)]
/-! GEN_D (chapter 11) -/
def GEN_D_VALUE (i j : Nat) : Fld := ⟨64 * (0x3007100140 + 0x10000 * (i % 16) + 0x8 * (j % 4)) + 0, 64, 0⟩
def GEN_D_fields (i j : Nat) : List (Acc × Fld) :=
  [(.rw, GEN_D_VALUE i j)]
/-! GEN_TMASK (chapter 11) -/
def GEN_TMASK_VALUE (i : Nat) : Fld := ⟨64 * (0x3007100160 + 0x10000 * (i % 16)) + 0, 54, 0⟩
def GEN_TMASK_fields (i : Nat) : List (Acc × Fld) :=
  [(.rw, GEN_TMASK_VALUE i)]
/-! GEN_TINV (chapter 11) -/
def GEN_TINV_VALUE (i : Nat) : Fld := ⟨64 * (0x3007100168 + 0x10000 * (i % 16)) + 0, 64, 0⟩
def GEN_TINV_fields (i : Nat) : List (Acc × Fld) :=
  [(.rw, GEN_TINV_VALUE i)]
/-! GEN_DR (chapter 11) -/
def GEN_DR_VALUE (i j : Nat) : Fld := ⟨64 * (0x3007100180 + 0x10000 * (i % 16) + 0x8 * (j % 8)) + 0, 64, 0⟩
def GEN_DR_fields (i j : Nat) : List (Acc × Fld) :=
  [(.rw, GEN_DR_VALUE i j)]
/-! GEN_SCR (chapter 11) -/
def GEN_SCR_MODE (i j : Nat) : Fld := ⟨64 * (0x3007100200 + 0x10000 * (i % 16) + 0x4 * (j % 24)) + 14, 2, 0⟩
def GEN_SCR_B (i j : Nat) : Fld := ⟨64 * (0x3007100200 + 0x10000 * (i % 16) + 0x4 * (j % 24)) + 8, 6, 0⟩
def GEN_SCR_A (i j : Nat) : Fld := ⟨64 * (0x3007100200 + 0x10000 * (i % 16) + 0x4 * (j % 24)) + 0, 6, j⟩
def GEN_SCR_fields (i j : Nat) : List (Acc × Fld) :=
  [(.rw, GEN_SCR_MODE i j), (.rw, GEN_SCR_B i j), (.rw, GEN_SCR_A i j)]
/-! SEQ_PIN (chapter 11) -/
def SEQ_PIN_VALID (i j : Nat) : Fld := ⟨64 * (0x3007100400 + 0x10000 * (i % 16) + 0x4 * (j % 512)) + 31, 1, 0⟩
def SEQ_PIN_KIND (i j : Nat) : Fld := ⟨64 * (0x3007100400 + 0x10000 * (i % 16) + 0x4 * (j % 512)) + 28, 3, 0⟩
def SEQ_PIN_BIT (i j : Nat) : Fld := ⟨64 * (0x3007100400 + 0x10000 * (i % 16) + 0x4 * (j % 512)) + 22, 6, 0⟩
def SEQ_PIN_SITE (i j : Nat) : Fld := ⟨64 * (0x3007100400 + 0x10000 * (i % 16) + 0x4 * (j % 512)) + 16, 6, 0⟩
def SEQ_PIN_HOLD (i j : Nat) : Fld := ⟨64 * (0x3007100400 + 0x10000 * (i % 16) + 0x4 * (j % 512)) + 12, 4, 6⟩
def SEQ_PIN_CHANNEL (i j : Nat) : Fld := ⟨64 * (0x3007100400 + 0x10000 * (i % 16) + 0x4 * (j % 512)) + 0, 9, 0⟩
def SEQ_PIN_fields (i j : Nat) : List (Acc × Fld) :=
  [(.rw, SEQ_PIN_VALID i j), (.rw, SEQ_PIN_KIND i j), (.rw, SEQ_PIN_BIT i j), (.rw, SEQ_PIN_SITE i j), (.rw, SEQ_PIN_HOLD i j), (.rw, SEQ_PIN_CHANNEL i j)]
/-! FC_ECC_CTL (chapter 12) -/
def FC_ECC_CTL_SCRUB_RATE : Fld := ⟨64 * 0x3008000100 + 16, 8, 16⟩
def FC_ECC_CTL_LEAK : Fld := ⟨64 * 0x3008000100 + 8, 8, 1⟩
def FC_ECC_CTL_BUCKET : Fld := ⟨64 * 0x3008000100 + 0, 8, 32⟩
def FC_ECC_CTL_fields : List (Acc × Fld) :=
  [(.rw, FC_ECC_CTL_SCRUB_RATE), (.rw, FC_ECC_CTL_LEAK), (.rw, FC_ECC_CTL_BUCKET)]
/-! FC_ECC_STAT (chapter 12) -/
def FC_ECC_STAT_UNCORR : Fld := ⟨64 * 0x3008000108 + 48, 16, 0⟩
def FC_ECC_STAT_CORR : Fld := ⟨64 * 0x3008000108 + 32, 16, 0⟩
def FC_ECC_STAT_LEVEL : Fld := ⟨64 * 0x3008000108 + 16, 8, 0⟩
def FC_ECC_STAT_OVERFLOW : Fld := ⟨64 * 0x3008000108 + 0, 1, 0⟩
def FC_ECC_STAT_fields : List (Acc × Fld) :=
  [(.rc, FC_ECC_STAT_UNCORR), (.rc, FC_ECC_STAT_CORR), (.ro, FC_ECC_STAT_LEVEL), (.w1c, FC_ECC_STAT_OVERFLOW)]
/-! FC_LOST (chapter 12) -/
def FC_LOST_COUNT (i : Nat) : Fld := ⟨64 * (0x3008000200 + 0x8 * (i % 16)) + 0, 32, 0⟩
def FC_LOST_fields (i : Nat) : List (Acc × Fld) :=
  [(.rc, FC_LOST_COUNT i)]
/-! FC_SEQ_CTL (chapter 12) -/
def FC_SEQ_CTL_LWM (i : Nat) : Fld := ⟨64 * (0x3008010000 + 0x1000 * (i % 16)) + 20, 12, 1024⟩
def FC_SEQ_CTL_HWM (i : Nat) : Fld := ⟨64 * (0x3008010000 + 0x1000 * (i % 16)) + 8, 12, 3072⟩
def FC_SEQ_CTL_MLOG (i : Nat) : Fld := ⟨64 * (0x3008010000 + 0x1000 * (i % 16)) + 3, 1, 0⟩
def FC_SEQ_CTL_POLICY (i : Nat) : Fld := ⟨64 * (0x3008010000 + 0x1000 * (i % 16)) + 2, 1, 0⟩
def FC_SEQ_CTL_MODE (i : Nat) : Fld := ⟨64 * (0x3008010000 + 0x1000 * (i % 16)) + 0, 2, 3⟩
def FC_SEQ_CTL_fields (i : Nat) : List (Acc × Fld) :=
  [(.rw, FC_SEQ_CTL_LWM i), (.rw, FC_SEQ_CTL_HWM i), (.rw, FC_SEQ_CTL_MLOG i), (.rw, FC_SEQ_CTL_POLICY i), (.rw, FC_SEQ_CTL_MODE i)]
/-! FC_LOG_CFG (chapter 12) -/
def FC_LOG_CFG_LOG2 (i : Nat) : Fld := ⟨64 * (0x3008010008 + 0x1000 * (i % 16)) + 40, 5, 0⟩
def FC_LOG_CFG_BASE (i : Nat) : Fld := ⟨64 * (0x3008010008 + 0x1000 * (i % 16)) + 0, 34, 0⟩
def FC_LOG_CFG_fields (i : Nat) : List (Acc × Fld) :=
  [(.rw, FC_LOG_CFG_LOG2 i), (.rw, FC_LOG_CFG_BASE i)]
/-! FC_LOG_PTR (chapter 12) -/
def FC_LOG_PTR_RD (i : Nat) : Fld := ⟨64 * (0x3008010010 + 0x1000 * (i % 16)) + 32, 32, 0⟩
def FC_LOG_PTR_WR (i : Nat) : Fld := ⟨64 * (0x3008010010 + 0x1000 * (i % 16)) + 0, 32, 0⟩
def FC_LOG_PTR_fields (i : Nat) : List (Acc × Fld) :=
  [(.rw, FC_LOG_PTR_RD i), (.ro, FC_LOG_PTR_WR i)]
/-! FC_SEQ_STAT (chapter 12) -/
def FC_SEQ_STAT_CTRL_DROP (i : Nat) : Fld := ⟨64 * (0x3008010018 + 0x1000 * (i % 16)) + 32, 32, 0⟩
def FC_SEQ_STAT_DRAIN_ERR (i : Nat) : Fld := ⟨64 * (0x3008010018 + 0x1000 * (i % 16)) + 19, 1, 0⟩
def FC_SEQ_STAT_DERR (i : Nat) : Fld := ⟨64 * (0x3008010018 + 0x1000 * (i % 16)) + 16, 3, 0⟩
def FC_SEQ_STAT_RING_FULL (i : Nat) : Fld := ⟨64 * (0x3008010018 + 0x1000 * (i % 16)) + 15, 1, 0⟩
def FC_SEQ_STAT_THROTTLING (i : Nat) : Fld := ⟨64 * (0x3008010018 + 0x1000 * (i % 16)) + 14, 1, 0⟩
def FC_SEQ_STAT_LEVEL (i : Nat) : Fld := ⟨64 * (0x3008010018 + 0x1000 * (i % 16)) + 0, 13, 0⟩
def FC_SEQ_STAT_fields (i : Nat) : List (Acc × Fld) :=
  [(.rc, FC_SEQ_STAT_CTRL_DROP i), (.w1c, FC_SEQ_STAT_DRAIN_ERR i), (.ro, FC_SEQ_STAT_DERR i), (.ro, FC_SEQ_STAT_RING_FULL i), (.ro, FC_SEQ_STAT_THROTTLING i), (.ro, FC_SEQ_STAT_LEVEL i)]
/-! FC_SITE_FAIL (chapter 12) -/
def FC_SITE_FAIL_FAILCYC (i j : Nat) : Fld := ⟨64 * (0x3008010100 + 0x1000 * (i % 16) + 0x10 * (j % 64)) + 0, 48, 0⟩
def FC_SITE_FAIL_fields (i j : Nat) : List (Acc × Fld) :=
  [(.ro, FC_SITE_FAIL_FAILCYC i j)]
/-! FC_SITE_REC (chapter 12) -/
def FC_SITE_REC_DROPPED (i j : Nat) : Fld := ⟨64 * (0x3008010108 + 0x1000 * (i % 16) + 0x10 * (j % 64)) + 32, 32, 0⟩
def FC_SITE_REC_LOGGED (i j : Nat) : Fld := ⟨64 * (0x3008010108 + 0x1000 * (i % 16) + 0x10 * (j % 64)) + 0, 32, 0⟩
def FC_SITE_REC_fields (i j : Nat) : List (Acc × Fld) :=
  [(.ro, FC_SITE_REC_DROPPED i j), (.ro, FC_SITE_REC_LOGGED i j)]
/-! FC_CH_CNT (chapter 12) -/
def FC_CH_CNT_COUNT (i : Nat) : Fld := ⟨64 * (0x3008020000 + 0x4 * (i % 512)) + 0, 32, 0⟩
def FC_CH_CNT_fields (i : Nat) : List (Acc × Fld) :=
  [(.ro, FC_CH_CNT_COUNT i)]
/-! FC_MAP_CTL (chapter 12) -/
def FC_MAP_CTL_SPILL_ERR (i : Nat) : Fld := ⟨64 * (0x3008030000 + 0x40 * (i % 128)) + 8, 1, 0⟩
def FC_MAP_CTL_MAPERR (i : Nat) : Fld := ⟨64 * (0x3008030000 + 0x40 * (i % 128)) + 7, 1, 0⟩
def FC_MAP_CTL_STATE (i : Nat) : Fld := ⟨64 * (0x3008030000 + 0x40 * (i % 128)) + 4, 3, 0⟩
def FC_MAP_CTL_SPILL (i : Nat) : Fld := ⟨64 * (0x3008030000 + 0x40 * (i % 128)) + 3, 1, 0⟩
def FC_MAP_CTL_DISCARD (i : Nat) : Fld := ⟨64 * (0x3008030000 + 0x40 * (i % 128)) + 2, 1, 0⟩
def FC_MAP_CTL_CLOSE (i : Nat) : Fld := ⟨64 * (0x3008030000 + 0x40 * (i % 128)) + 1, 1, 0⟩
def FC_MAP_CTL_OPEN (i : Nat) : Fld := ⟨64 * (0x3008030000 + 0x40 * (i % 128)) + 0, 1, 0⟩
def FC_MAP_CTL_fields (i : Nat) : List (Acc × Fld) :=
  [(.w1c, FC_MAP_CTL_SPILL_ERR i), (.ro, FC_MAP_CTL_MAPERR i), (.ro, FC_MAP_CTL_STATE i), (.rw, FC_MAP_CTL_SPILL i), (.wo, FC_MAP_CTL_DISCARD i), (.wo, FC_MAP_CTL_CLOSE i), (.wo, FC_MAP_CTL_OPEN i)]
/-! FC_MAP_SEL (chapter 12) -/
def FC_MAP_SEL_IOLOG2 (i : Nat) : Fld := ⟨64 * (0x3008030008 + 0x40 * (i % 128)) + 41, 3, 0⟩
def FC_MAP_SEL_NSLM1 (i : Nat) : Fld := ⟨64 * (0x3008030008 + 0x40 * (i % 128)) + 35, 6, 0⟩
def FC_MAP_SEL_SLICE (i : Nat) : Fld := ⟨64 * (0x3008030008 + 0x40 * (i % 128)) + 29, 6, 0⟩
def FC_MAP_SEL_ZANY (i : Nat) : Fld := ⟨64 * (0x3008030008 + 0x40 * (i % 128)) + 28, 1, 0⟩
def FC_MAP_SEL_Z (i : Nat) : Fld := ⟨64 * (0x3008030008 + 0x40 * (i % 128)) + 22, 6, 0⟩
def FC_MAP_SEL_DOMAIN (i : Nat) : Fld := ⟨64 * (0x3008030008 + 0x40 * (i % 128)) + 10, 12, 0⟩
def FC_MAP_SEL_SITE (i : Nat) : Fld := ⟨64 * (0x3008030008 + 0x40 * (i % 128)) + 4, 6, 0⟩
def FC_MAP_SEL_SEQ (i : Nat) : Fld := ⟨64 * (0x3008030008 + 0x40 * (i % 128)) + 0, 4, 0⟩
def FC_MAP_SEL_fields (i : Nat) : List (Acc × Fld) :=
  [(.rw, FC_MAP_SEL_IOLOG2 i), (.rw, FC_MAP_SEL_NSLM1 i), (.rw, FC_MAP_SEL_SLICE i), (.rw, FC_MAP_SEL_ZANY i), (.rw, FC_MAP_SEL_Z i), (.rw, FC_MAP_SEL_DOMAIN i), (.rw, FC_MAP_SEL_SITE i), (.rw, FC_MAP_SEL_SEQ i)]
/-! FC_MAP_XY (chapter 12) -/
def FC_MAP_XY_YLOG2 (i : Nat) : Fld := ⟨64 * (0x3008030010 + 0x40 * (i % 128)) + 56, 5, 0⟩
def FC_MAP_XY_Y0 (i : Nat) : Fld := ⟨64 * (0x3008030010 + 0x40 * (i % 128)) + 32, 24, 0⟩
def FC_MAP_XY_XLOG2 (i : Nat) : Fld := ⟨64 * (0x3008030010 + 0x40 * (i % 128)) + 24, 5, 0⟩
def FC_MAP_XY_X0 (i : Nat) : Fld := ⟨64 * (0x3008030010 + 0x40 * (i % 128)) + 0, 24, 0⟩
def FC_MAP_XY_fields (i : Nat) : List (Acc × Fld) :=
  [(.rw, FC_MAP_XY_YLOG2 i), (.rw, FC_MAP_XY_Y0 i), (.rw, FC_MAP_XY_XLOG2 i), (.rw, FC_MAP_XY_X0 i)]
/-! FC_MAP_SPILL (chapter 12) -/
def FC_MAP_SPILL_ADDR (i : Nat) : Fld := ⟨64 * (0x3008030018 + 0x40 * (i % 128)) + 0, 34, 0⟩
def FC_MAP_SPILL_fields (i : Nat) : List (Acc × Fld) :=
  [(.rw, FC_MAP_SPILL_ADDR i)]
/-! FC_MAP_STAT (chapter 12) -/
def FC_MAP_STAT_NONDATA (i : Nat) : Fld := ⟨64 * (0x3008030020 + 0x40 * (i % 128)) + 32, 32, 0⟩
def FC_MAP_STAT_HITS (i : Nat) : Fld := ⟨64 * (0x3008030020 + 0x40 * (i % 128)) + 0, 32, 0⟩
def FC_MAP_STAT_fields (i : Nat) : List (Acc × Fld) :=
  [(.ro, FC_MAP_STAT_NONDATA i), (.ro, FC_MAP_STAT_HITS i)]
/-! RA_CTL (chapter 13) -/
def RA_CTL_EN : Fld := ⟨64 * 0x3009000100 + 0, 1, 1⟩
def RA_CTL_fields : List (Acc × Fld) :=
  [(.rw, RA_CTL_EN)]
/-! RA_STAT (chapter 13) -/
def RA_STAT_NP_COUNT : Fld := ⟨64 * 0x3009000108 + 48, 16, 0⟩
def RA_STAT_ARMED : Fld := ⟨64 * 0x3009000108 + 32, 13, 0⟩
def RA_STAT_RERR : Fld := ⟨64 * 0x3009000108 + 20, 3, 0⟩
def RA_STAT_RING_ERR : Fld := ⟨64 * 0x3009000108 + 19, 1, 0⟩
def RA_STAT_RING_FULL : Fld := ⟨64 * 0x3009000108 + 18, 1, 0⟩
def RA_STAT_HELD : Fld := ⟨64 * 0x3009000108 + 17, 1, 0⟩
def RA_STAT_QUEUE : Fld := ⟨64 * 0x3009000108 + 8, 7, 0⟩
def RA_STAT_BUSY : Fld := ⟨64 * 0x3009000108 + 0, 5, 0⟩
def RA_STAT_fields : List (Acc × Fld) :=
  [(.rc, RA_STAT_NP_COUNT), (.ro, RA_STAT_ARMED), (.ro, RA_STAT_RERR), (.w1c, RA_STAT_RING_ERR), (.ro, RA_STAT_RING_FULL), (.ro, RA_STAT_HELD), (.ro, RA_STAT_QUEUE), (.ro, RA_STAT_BUSY)]
/-! RA_RING_CFG (chapter 13) -/
def RA_RING_CFG_LOG2 : Fld := ⟨64 * 0x3009000200 + 40, 5, 0⟩
def RA_RING_CFG_BASE : Fld := ⟨64 * 0x3009000200 + 0, 34, 0⟩
def RA_RING_CFG_fields : List (Acc × Fld) :=
  [(.rw, RA_RING_CFG_LOG2), (.rw, RA_RING_CFG_BASE)]
/-! RA_RING_PTR (chapter 13) -/
def RA_RING_PTR_RD : Fld := ⟨64 * 0x3009000208 + 32, 32, 0⟩
def RA_RING_PTR_WR : Fld := ⟨64 * 0x3009000208 + 0, 32, 0⟩
def RA_RING_PTR_fields : List (Acc × Fld) :=
  [(.rw, RA_RING_PTR_RD), (.ro, RA_RING_PTR_WR)]
/-! RA_DESC_SP (chapter 13) -/
def RA_DESC_SP_ONESHOT (i : Nat) : Fld := ⟨64 * (0x3009100000 + 0x20 * (i % 4096)) + 41, 1, 0⟩
def RA_DESC_SP_ORDER (i : Nat) : Fld := ⟨64 * (0x3009100000 + 0x20 * (i % 4096)) + 40, 1, 0⟩
def RA_DESC_SP_STEPLOG2 (i : Nat) : Fld := ⟨64 * (0x3009100000 + 0x20 * (i % 4096)) + 32, 5, 20⟩
def RA_DESC_SP_SCOST (i : Nat) : Fld := ⟨64 * (0x3009100000 + 0x20 * (i % 4096)) + 28, 4, 1⟩
def RA_DESC_SP_CCOST (i : Nat) : Fld := ⟨64 * (0x3009100000 + 0x20 * (i % 4096)) + 24, 4, 1⟩
def RA_DESC_SP_RCOST (i : Nat) : Fld := ⟨64 * (0x3009100000 + 0x20 * (i % 4096)) + 20, 4, 1⟩
def RA_DESC_SP_NS (i : Nat) : Fld := ⟨64 * (0x3009100000 + 0x20 * (i % 4096)) + 16, 3, 0⟩
def RA_DESC_SP_NC (i : Nat) : Fld := ⟨64 * (0x3009100000 + 0x20 * (i % 4096)) + 8, 6, 0⟩
def RA_DESC_SP_NR (i : Nat) : Fld := ⟨64 * (0x3009100000 + 0x20 * (i % 4096)) + 0, 6, 0⟩
def RA_DESC_SP_fields (i : Nat) : List (Acc × Fld) :=
  [(.rw, RA_DESC_SP_ONESHOT i), (.rw, RA_DESC_SP_ORDER i), (.rw, RA_DESC_SP_STEPLOG2 i), (.rw, RA_DESC_SP_SCOST i), (.rw, RA_DESC_SP_CCOST i), (.rw, RA_DESC_SP_RCOST i), (.rw, RA_DESC_SP_NS i), (.rw, RA_DESC_SP_NC i), (.rw, RA_DESC_SP_NR i)]
/-! RA_DESC_GEO (chapter 13) -/
def RA_DESC_GEO_SCLOG2 (i : Nat) : Fld := ⟨64 * (0x3009100008 + 0x20 * (i % 4096)) + 24, 5, 0⟩
def RA_DESC_GEO_SRLOG2 (i : Nat) : Fld := ⟨64 * (0x3009100008 + 0x20 * (i % 4096)) + 16, 5, 0⟩
def RA_DESC_GEO_CULOG2 (i : Nat) : Fld := ⟨64 * (0x3009100008 + 0x20 * (i % 4096)) + 8, 5, 0⟩
def RA_DESC_GEO_RULOG2 (i : Nat) : Fld := ⟨64 * (0x3009100008 + 0x20 * (i % 4096)) + 0, 5, 0⟩
def RA_DESC_GEO_fields (i : Nat) : List (Acc × Fld) :=
  [(.rw, RA_DESC_GEO_SCLOG2 i), (.rw, RA_DESC_GEO_SRLOG2 i), (.rw, RA_DESC_GEO_CULOG2 i), (.rw, RA_DESC_GEO_RULOG2 i)]
/-! RA_DESC_USER (chapter 13) -/
def RA_DESC_USER_USER (i : Nat) : Fld := ⟨64 * (0x3009100010 + 0x20 * (i % 4096)) + 0, 64, 0⟩
def RA_DESC_USER_fields (i : Nat) : List (Acc × Fld) :=
  [(.rw, RA_DESC_USER_USER i)]
/-! RA_DOM (chapter 13) -/
def RA_DOM_LAST_COST (i : Nat) : Fld := ⟨64 * (0x3009200000 + 0x4 * (i % 4096)) + 16, 10, 0⟩
def RA_DOM_LAST_MAPERR (i : Nat) : Fld := ⟨64 * (0x3009200000 + 0x4 * (i % 4096)) + 13, 1, 0⟩
def RA_DOM_LAST_NP (i : Nat) : Fld := ⟨64 * (0x3009200000 + 0x4 * (i % 4096)) + 12, 1, 0⟩
def RA_DOM_LAST_OUTCOME (i : Nat) : Fld := ⟨64 * (0x3009200000 + 0x4 * (i % 4096)) + 8, 4, 15⟩
def RA_DOM_STATE (i : Nat) : Fld := ⟨64 * (0x3009200000 + 0x4 * (i % 4096)) + 4, 3, 0⟩
def RA_DOM_CANCEL (i : Nat) : Fld := ⟨64 * (0x3009200000 + 0x4 * (i % 4096)) + 1, 1, 0⟩
def RA_DOM_ARM (i : Nat) : Fld := ⟨64 * (0x3009200000 + 0x4 * (i % 4096)) + 0, 1, 0⟩
def RA_DOM_fields (i : Nat) : List (Acc × Fld) :=
  [(.ro, RA_DOM_LAST_COST i), (.ro, RA_DOM_LAST_MAPERR i), (.ro, RA_DOM_LAST_NP i), (.ro, RA_DOM_LAST_OUTCOME i), (.ro, RA_DOM_STATE i), (.wo, RA_DOM_CANCEL i), (.wo, RA_DOM_ARM i)]
/-! SC_MAP (chapter 14) -/
def SC_MAP_PHYS (i : Nat) : Fld := ⟨64 * (0x300A000100 + 0x4 * (i % 32)) + 0, 6, i⟩
def SC_MAP_fields (i : Nat) : List (Acc × Fld) :=
  [(.rw, SC_MAP_PHYS i)]
/-! SC_DROP (chapter 14) -/
def SC_DROP_COUNT (i j : Nat) : Fld := ⟨64 * (0x300A004000 + 0x40 * (i % 32) + 0x4 * (j % 16)) + 0, 32, 0⟩
def SC_DROP_fields (i j : Nat) : List (Acc × Fld) :=
  [(.rc, SC_DROP_COUNT i j)]
/-! SC_RES (chapter 14) -/
def SC_RES_FRESH (i j : Nat) : Fld := ⟨64 * (0x300A006000 + 0x40 * (i % 32) + 0x4 * (j % 16)) + 24, 1, 0⟩
def SC_RES_RES (i j : Nat) : Fld := ⟨64 * (0x300A006000 + 0x40 * (i % 32) + 0x4 * (j % 16)) + 0, 24, 0⟩
def SC_RES_fields (i j : Nat) : List (Acc × Fld) :=
  [(.ro, SC_RES_FRESH i j), (.ro, SC_RES_RES i j)]
/-! SC_CTL (chapter 14) -/
def SC_CTL_START (i : Nat) : Fld := ⟨64 * (0x300A001000 + 0x40 * (i % 32)) + 31, 1, 0⟩
def SC_CTL_STOP (i : Nat) : Fld := ⟨64 * (0x300A001000 + 0x40 * (i % 32)) + 30, 1, 0⟩
def SC_CTL_CLEAR (i : Nat) : Fld := ⟨64 * (0x300A001000 + 0x40 * (i % 32)) + 29, 1, 0⟩
def SC_CTL_ENTRY (i : Nat) : Fld := ⟨64 * (0x300A001000 + 0x40 * (i % 32)) + 0, 14, 0⟩
def SC_CTL_fields (i : Nat) : List (Acc × Fld) :=
  [(.wo, SC_CTL_START i), (.wo, SC_CTL_STOP i), (.rw, SC_CTL_CLEAR i), (.rw, SC_CTL_ENTRY i)]
/-! SC_CFG (chapter 14) -/
def SC_CFG_IVEC (i : Nat) : Fld := ⟨64 * (0x300A001004 + 0x40 * (i % 32)) + 16, 14, 16⟩
def SC_CFG_THR (i : Nat) : Fld := ⟨64 * (0x300A001004 + 0x40 * (i % 32)) + 0, 7, 32⟩
def SC_CFG_fields (i : Nat) : List (Acc × Fld) :=
  [(.rw, SC_CFG_IVEC i), (.rw, SC_CFG_THR i)]
/-! SC_STAT (chapter 14) -/
def SC_STAT_PC (i : Nat) : Fld := ⟨64 * (0x300A001008 + 0x40 * (i % 32)) + 16, 14, 0⟩
def SC_STAT_RERR (i : Nat) : Fld := ⟨64 * (0x300A001008 + 0x40 * (i % 32)) + 8, 3, 0⟩
def SC_STAT_CAUSE (i : Nat) : Fld := ⟨64 * (0x300A001008 + 0x40 * (i % 32)) + 4, 4, 0⟩
def SC_STAT_SHADOW (i : Nat) : Fld := ⟨64 * (0x300A001008 + 0x40 * (i % 32)) + 2, 1, 0⟩
def SC_STAT_STATE (i : Nat) : Fld := ⟨64 * (0x300A001008 + 0x40 * (i % 32)) + 0, 2, 0⟩
def SC_STAT_fields (i : Nat) : List (Acc × Fld) :=
  [(.ro, SC_STAT_PC i), (.ro, SC_STAT_RERR i), (.ro, SC_STAT_CAUSE i), (.ro, SC_STAT_SHADOW i), (.ro, SC_STAT_STATE i)]
/-! SC_HOST (chapter 14) -/
def SC_HOST_WORD (i : Nat) : Fld := ⟨64 * (0x300A00100C + 0x40 * (i % 32)) + 0, 24, 0⟩
def SC_HOST_fields (i : Nat) : List (Acc × Fld) :=
  [(.rw, SC_HOST_WORD i)]
/-! SC_IRQ (chapter 14) -/
def SC_IRQ_EN (i : Nat) : Fld := ⟨64 * (0x300A001010 + 0x40 * (i % 32)) + 8, 4, 0⟩
def SC_IRQ_PEND (i : Nat) : Fld := ⟨64 * (0x300A001010 + 0x40 * (i % 32)) + 0, 4, 0⟩
def SC_IRQ_fields (i : Nat) : List (Acc × Fld) :=
  [(.ro, SC_IRQ_EN i), (.ro, SC_IRQ_PEND i)]
/-! SC_ECC_CTL (chapter 14) -/
def SC_ECC_CTL_SCRUB_RATE (i : Nat) : Fld := ⟨64 * (0x300A001014 + 0x40 * (i % 32)) + 16, 8, 16⟩
def SC_ECC_CTL_LEAK (i : Nat) : Fld := ⟨64 * (0x300A001014 + 0x40 * (i % 32)) + 8, 8, 1⟩
def SC_ECC_CTL_BUCKET (i : Nat) : Fld := ⟨64 * (0x300A001014 + 0x40 * (i % 32)) + 0, 8, 32⟩
def SC_ECC_CTL_fields (i : Nat) : List (Acc × Fld) :=
  [(.rw, SC_ECC_CTL_SCRUB_RATE i), (.rw, SC_ECC_CTL_LEAK i), (.rw, SC_ECC_CTL_BUCKET i)]
/-! SC_ECC_STAT (chapter 14) -/
def SC_ECC_STAT_UNCORR (i : Nat) : Fld := ⟨64 * (0x300A001018 + 0x40 * (i % 32)) + 48, 16, 0⟩
def SC_ECC_STAT_CORR (i : Nat) : Fld := ⟨64 * (0x300A001018 + 0x40 * (i % 32)) + 32, 16, 0⟩
def SC_ECC_STAT_LEVEL (i : Nat) : Fld := ⟨64 * (0x300A001018 + 0x40 * (i % 32)) + 16, 8, 0⟩
def SC_ECC_STAT_OVERFLOW (i : Nat) : Fld := ⟨64 * (0x300A001018 + 0x40 * (i % 32)) + 0, 1, 0⟩
def SC_ECC_STAT_fields (i : Nat) : List (Acc × Fld) :=
  [(.rc, SC_ECC_STAT_UNCORR i), (.rc, SC_ECC_STAT_CORR i), (.ro, SC_ECC_STAT_LEVEL i), (.w1c, SC_ECC_STAT_OVERFLOW i)]
/-! SC_RING_CFG (chapter 14) -/
def SC_RING_CFG_LOG2 (i : Nat) : Fld := ⟨64 * (0x300A001020 + 0x40 * (i % 32)) + 40, 5, 0⟩
def SC_RING_CFG_BASE (i : Nat) : Fld := ⟨64 * (0x300A001020 + 0x40 * (i % 32)) + 0, 34, 0⟩
def SC_RING_CFG_fields (i : Nat) : List (Acc × Fld) :=
  [(.rw, SC_RING_CFG_LOG2 i), (.rw, SC_RING_CFG_BASE i)]
/-! SC_RING_PTR (chapter 14) -/
def SC_RING_PTR_RD (i : Nat) : Fld := ⟨64 * (0x300A001028 + 0x40 * (i % 32)) + 32, 32, 0⟩
def SC_RING_PTR_WR (i : Nat) : Fld := ⟨64 * (0x300A001028 + 0x40 * (i % 32)) + 0, 32, 0⟩
def SC_RING_PTR_fields (i : Nat) : List (Acc × Fld) :=
  [(.rw, SC_RING_PTR_RD i), (.ro, SC_RING_PTR_WR i)]
/-! HBM_CFG (chapter 15) -/
def HBM_CFG_THRESH : Fld := ⟨64 * 0x300B000100 + 16, 16, 4096⟩
def HBM_CFG_RADIUS : Fld := ⟨64 * 0x300B000100 + 1, 1, 0⟩
def HBM_CFG_BXOR : Fld := ⟨64 * 0x300B000100 + 0, 1, 1⟩
def HBM_CFG_fields : List (Acc × Fld) :=
  [(.rw, HBM_CFG_THRESH), (.rw, HBM_CFG_RADIUS), (.rw, HBM_CFG_BXOR)]
/-! HBM_AGE (chapter 15) -/
def HBM_AGE_BACKGROUND : Fld := ⟨64 * 0x300B000108 + 48, 16, 10000⟩
def HBM_AGE_HOST : Fld := ⟨64 * 0x300B000108 + 32, 16, 1000⟩
def HBM_AGE_CAPTURE : Fld := ⟨64 * 0x300B000108 + 16, 16, 200⟩
def HBM_AGE_PATTERN : Fld := ⟨64 * 0x300B000108 + 0, 16, 100⟩
def HBM_AGE_fields : List (Acc × Fld) :=
  [(.rw, HBM_AGE_BACKGROUND), (.rw, HBM_AGE_HOST), (.rw, HBM_AGE_CAPTURE), (.rw, HBM_AGE_PATTERN)]
/-! HBM_STAT (chapter 15) -/
def HBM_STAT_TEMP : Fld := ⟨64 * 0x300B000110 + 8, 8, 0⟩
def HBM_STAT_BURST : Fld := ⟨64 * 0x300B000110 + 4, 1, 0⟩
def HBM_STAT_HOT : Fld := ⟨64 * 0x300B000110 + 3, 1, 0⟩
def HBM_STAT_STATE : Fld := ⟨64 * 0x300B000110 + 0, 3, 0⟩
def HBM_STAT_fields : List (Acc × Fld) :=
  [(.ro, HBM_STAT_TEMP), (.ro, HBM_STAT_BURST), (.ro, HBM_STAT_HOT), (.ro, HBM_STAT_STATE)]
/-! HBM_ECC_CTL (chapter 15) -/
def HBM_ECC_CTL_SCRUB_RATE : Fld := ⟨64 * 0x300B000200 + 16, 8, 16⟩
def HBM_ECC_CTL_LEAK : Fld := ⟨64 * 0x300B000200 + 8, 8, 1⟩
def HBM_ECC_CTL_BUCKET : Fld := ⟨64 * 0x300B000200 + 0, 8, 32⟩
def HBM_ECC_CTL_fields : List (Acc × Fld) :=
  [(.rw, HBM_ECC_CTL_SCRUB_RATE), (.rw, HBM_ECC_CTL_LEAK), (.rw, HBM_ECC_CTL_BUCKET)]
/-! HBM_ECC_STAT (chapter 15) -/
def HBM_ECC_STAT_UNCORR : Fld := ⟨64 * 0x300B000208 + 48, 16, 0⟩
def HBM_ECC_STAT_CORR : Fld := ⟨64 * 0x300B000208 + 32, 16, 0⟩
def HBM_ECC_STAT_LOST : Fld := ⟨64 * 0x300B000208 + 24, 8, 0⟩
def HBM_ECC_STAT_LEVEL : Fld := ⟨64 * 0x300B000208 + 16, 8, 0⟩
def HBM_ECC_STAT_OVERFLOW : Fld := ⟨64 * 0x300B000208 + 0, 1, 0⟩
def HBM_ECC_STAT_fields : List (Acc × Fld) :=
  [(.rc, HBM_ECC_STAT_UNCORR), (.rc, HBM_ECC_STAT_CORR), (.rc, HBM_ECC_STAT_LOST), (.ro, HBM_ECC_STAT_LEVEL), (.w1c, HBM_ECC_STAT_OVERFLOW)]
/-! HBM_ERRLOG (chapter 15) -/
def HBM_ERRLOG_FOUND : Fld := ⟨64 * 0x300B000210 + 62, 2, 0⟩
def HBM_ERRLOG_INITIATOR : Fld := ⟨64 * 0x300B000210 + 56, 6, 0⟩
def HBM_ERRLOG_VALID : Fld := ⟨64 * 0x300B000210 + 34, 1, 0⟩
def HBM_ERRLOG_LINE : Fld := ⟨64 * 0x300B000210 + 6, 28, 0⟩
def HBM_ERRLOG_fields : List (Acc × Fld) :=
  [(.rp, HBM_ERRLOG_FOUND), (.rp, HBM_ERRLOG_INITIATOR), (.rp, HBM_ERRLOG_VALID), (.rp, HBM_ERRLOG_LINE)]
/-! HBM_FLIP_DATA (chapter 15) -/
def HBM_FLIP_DATA_DMASK : Fld := ⟨64 * 0x300B000220 + 0, 64, 0⟩
def HBM_FLIP_DATA_fields : List (Acc × Fld) :=
  [(.rw, HBM_FLIP_DATA_DMASK)]
/-! HBM_FLIP_CTL (chapter 15) -/
def HBM_FLIP_CTL_ARM : Fld := ⟨64 * 0x300B000228 + 63, 1, 0⟩
def HBM_FLIP_CTL_WORD : Fld := ⟨64 * 0x300B000228 + 56, 3, 0⟩
def HBM_FLIP_CTL_CMASK : Fld := ⟨64 * 0x300B000228 + 48, 8, 0⟩
def HBM_FLIP_CTL_LINE : Fld := ⟨64 * 0x300B000228 + 6, 28, 0⟩
def HBM_FLIP_CTL_fields : List (Acc × Fld) :=
  [(.w1s, HBM_FLIP_CTL_ARM), (.rw, HBM_FLIP_CTL_WORD), (.rw, HBM_FLIP_CTL_CMASK), (.rw, HBM_FLIP_CTL_LINE)]
/-! HBM_DIST (chapter 15) -/
def HBM_DIST_TARGETED : Fld := ⟨64 * 0x300B000300 + 0, 32, 0⟩
def HBM_DIST_fields : List (Acc × Fld) :=
  [(.rc, HBM_DIST_TARGETED)]
/-! HBM_SPARE (chapter 15) -/
def HBM_SPARE_USED : Fld := ⟨64 * 0x300B000308 + 0, 12, 0⟩
def HBM_SPARE_fields : List (Acc × Fld) :=
  [(.ro, HBM_SPARE_USED)]
/-! HBM_PASS (chapter 15) -/
def HBM_PASS_GO : Fld := ⟨64 * 0x300B000400 + 63, 1, 0⟩
def HBM_PASS_COUNT : Fld := ⟨64 * 0x300B000400 + 32, 23, 0⟩
def HBM_PASS_FIRST : Fld := ⟨64 * 0x300B000400 + 0, 22, 0⟩
def HBM_PASS_fields : List (Acc × Fld) :=
  [(.w1s, HBM_PASS_GO), (.rw, HBM_PASS_COUNT), (.rw, HBM_PASS_FIRST)]
/-! HBM_PASS_SUM (chapter 15) -/
def HBM_PASS_SUM_UNCORR : Fld := ⟨64 * 0x300B000408 + 48, 16, 0⟩
def HBM_PASS_SUM_CORR : Fld := ⟨64 * 0x300B000408 + 32, 16, 0⟩
def HBM_PASS_SUM_LINES : Fld := ⟨64 * 0x300B000408 + 0, 32, 0⟩
def HBM_PASS_SUM_fields : List (Acc × Fld) :=
  [(.ro, HBM_PASS_SUM_UNCORR), (.ro, HBM_PASS_SUM_CORR), (.ro, HBM_PASS_SUM_LINES)]
/-! HBM_CLS (chapter 15) -/
def HBM_CLS_PROMOTED (i : Nat) : Fld := ⟨64 * (0x300B000500 + 0x8 * (i % 4)) + 32, 32, 0⟩
def HBM_CLS_LINES (i : Nat) : Fld := ⟨64 * (0x300B000500 + 0x8 * (i % 4)) + 0, 32, 0⟩
def HBM_CLS_fields (i : Nat) : List (Acc × Fld) :=
  [(.ro, HBM_CLS_PROMOTED i), (.ro, HBM_CLS_LINES i)]
/-! ENC_KEYID (chapter 16) -/
def ENC_KEYID_STATE : Fld := ⟨64 * 0x300C000100 + 0, 32, 0⟩
def ENC_KEYID_fields : List (Acc × Fld) :=
  [(.ro, ENC_KEYID_STATE)]
/-! ENC_PASS (chapter 16) -/
def ENC_PASS_GO : Fld := ⟨64 * 0x300C000200 + 31, 1, 0⟩
def ENC_PASS_REGION : Fld := ⟨64 * 0x300C000200 + 0, 3, 0⟩
def ENC_PASS_fields : List (Acc × Fld) :=
  [(.w1s, ENC_PASS_GO), (.rw, ENC_PASS_REGION)]
/-! ENC_PASS_SUM (chapter 16) -/
def ENC_PASS_SUM_UNCORR : Fld := ⟨64 * 0x300C000208 + 48, 16, 0⟩
def ENC_PASS_SUM_CORR : Fld := ⟨64 * 0x300C000208 + 32, 16, 0⟩
def ENC_PASS_SUM_CHECKED : Fld := ⟨64 * 0x300C000208 + 0, 32, 0⟩
def ENC_PASS_SUM_fields : List (Acc × Fld) :=
  [(.ro, ENC_PASS_SUM_UNCORR), (.ro, ENC_PASS_SUM_CORR), (.ro, ENC_PASS_SUM_CHECKED)]
/-! ENC_REG_CTL (chapter 16) -/
def ENC_REG_CTL_KEYID (i : Nat) : Fld := ⟨64 * (0x300C001000 + 0x20 * (i % 8)) + 8, 4, 0⟩
def ENC_REG_CTL_STATE (i : Nat) : Fld := ⟨64 * (0x300C001000 + 0x20 * (i % 8)) + 4, 3, 0⟩
def ENC_REG_CTL_PEND (i : Nat) : Fld := ⟨64 * (0x300C001000 + 0x20 * (i % 8)) + 3, 1, 0⟩
def ENC_REG_CTL_REKEY (i : Nat) : Fld := ⟨64 * (0x300C001000 + 0x20 * (i % 8)) + 1, 1, 0⟩
def ENC_REG_CTL_EN (i : Nat) : Fld := ⟨64 * (0x300C001000 + 0x20 * (i % 8)) + 0, 1, 0⟩
def ENC_REG_CTL_fields (i : Nat) : List (Acc × Fld) :=
  [(.ro, ENC_REG_CTL_KEYID i), (.ro, ENC_REG_CTL_STATE i), (.ro, ENC_REG_CTL_PEND i), (.wo, ENC_REG_CTL_REKEY i), (.rw, ENC_REG_CTL_EN i)]
/-! ENC_REG_RANGE (chapter 16) -/
def ENC_REG_RANGE_LIMIT (i : Nat) : Fld := ⟨64 * (0x300C001008 + 0x20 * (i % 8)) + 32, 18, 0⟩
def ENC_REG_RANGE_BASE (i : Nat) : Fld := ⟨64 * (0x300C001008 + 0x20 * (i % 8)) + 0, 18, 0⟩
def ENC_REG_RANGE_fields (i : Nat) : List (Acc × Fld) :=
  [(.rw, ENC_REG_RANGE_LIMIT i), (.rw, ENC_REG_RANGE_BASE i)]
/-! ENC_REG_WM (chapter 16) -/
def ENC_REG_WM_WATERMARK (i : Nat) : Fld := ⟨64 * (0x300C001010 + 0x20 * (i % 8)) + 0, 34, 0⟩
def ENC_REG_WM_fields (i : Nat) : List (Acc × Fld) :=
  [(.ro, ENC_REG_WM_WATERMARK i)]
/-! ENC_REG_STAT (chapter 16) -/
def ENC_REG_STAT_POISONED (i : Nat) : Fld := ⟨64 * (0x300C001018 + 0x20 * (i % 8)) + 0, 32, 0⟩
def ENC_REG_STAT_fields (i : Nat) : List (Acc × Fld) :=
  [(.rc, ENC_REG_STAT_POISONED i)]
/-! NOC_CTL (chapter 17) -/
def NOC_CTL_TMO : Fld := ⟨64 * 0x300D000100 + 0, 16, 1000⟩
def NOC_CTL_fields : List (Acc × Fld) :=
  [(.rw, NOC_CTL_TMO)]
/-! NOC_RTR_CTL (chapter 17) -/
def NOC_RTR_CTL_LINK_DIS (i : Nat) : Fld := ⟨64 * (0x300D001000 + 0x10 * (i % 36)) + 4, 4, 0⟩
def NOC_RTR_CTL_MAINT (i : Nat) : Fld := ⟨64 * (0x300D001000 + 0x10 * (i % 36)) + 0, 1, 0⟩
def NOC_RTR_CTL_fields (i : Nat) : List (Acc × Fld) :=
  [(.rw, NOC_RTR_CTL_LINK_DIS i), (.rw, NOC_RTR_CTL_MAINT i)]
/-! NOC_RTR_STAT (chapter 17) -/
def NOC_RTR_STAT_HELD (i : Nat) : Fld := ⟨64 * (0x300D001008 + 0x10 * (i % 36)) + 8, 8, 0⟩
def NOC_RTR_STAT_ABORTED (i : Nat) : Fld := ⟨64 * (0x300D001008 + 0x10 * (i % 36)) + 2, 1, 0⟩
def NOC_RTR_STAT_STATE (i : Nat) : Fld := ⟨64 * (0x300D001008 + 0x10 * (i % 36)) + 0, 2, 0⟩
def NOC_RTR_STAT_fields (i : Nat) : List (Acc × Fld) :=
  [(.ro, NOC_RTR_STAT_HELD i), (.w1c, NOC_RTR_STAT_ABORTED i), (.ro, NOC_RTR_STAT_STATE i)]
/-! NOC_STAT_A (chapter 17) -/
def NOC_STAT_A_REQS (i : Nat) : Fld := ⟨64 * (0x300D010000 + 0x10 * (i % 64)) + 32, 32, 0⟩
def NOC_STAT_A_FLITS (i : Nat) : Fld := ⟨64 * (0x300D010000 + 0x10 * (i % 64)) + 0, 32, 0⟩
def NOC_STAT_A_fields (i : Nat) : List (Acc × Fld) :=
  [(.ro, NOC_STAT_A_REQS i), (.ro, NOC_STAT_A_FLITS i)]
/-! NOC_STAT_B (chapter 17) -/
def NOC_STAT_B_RETRIES (i : Nat) : Fld := ⟨64 * (0x300D010008 + 0x10 * (i % 64)) + 48, 16, 0⟩
def NOC_STAT_B_TIMEOUTS (i : Nat) : Fld := ⟨64 * (0x300D010008 + 0x10 * (i % 64)) + 32, 16, 0⟩
def NOC_STAT_B_LAT_MAX (i : Nat) : Fld := ⟨64 * (0x300D010008 + 0x10 * (i % 64)) + 16, 16, 0⟩
def NOC_STAT_B_LAT_MEAN (i : Nat) : Fld := ⟨64 * (0x300D010008 + 0x10 * (i % 64)) + 0, 16, 0⟩
def NOC_STAT_B_fields (i : Nat) : List (Acc × Fld) :=
  [(.ro, NOC_STAT_B_RETRIES i), (.ro, NOC_STAT_B_TIMEOUTS i), (.ro, NOC_STAT_B_LAT_MAX i), (.ro, NOC_STAT_B_LAT_MEAN i)]
/-! ARB_CTL (chapter 17) -/
def ARB_CTL_FAIR_N (i : Nat) : Fld := ⟨64 * (0x300D020000 + 0x400 * (i % 18)) + 8, 8, 8⟩
def ARB_CTL_COMMIT (i : Nat) : Fld := ⟨64 * (0x300D020000 + 0x400 * (i % 18)) + 0, 1, 0⟩
def ARB_CTL_fields (i : Nat) : List (Acc × Fld) :=
  [(.rw, ARB_CTL_FAIR_N i), (.wo, ARB_CTL_COMMIT i)]
/-! ARB_STAT (chapter 17) -/
def ARB_STAT_FAIR_CNT (i : Nat) : Fld := ⟨64 * (0x300D020008 + 0x400 * (i % 18)) + 8, 8, 0⟩
def ARB_STAT_BUSY (i : Nat) : Fld := ⟨64 * (0x300D020008 + 0x400 * (i % 18)) + 7, 1, 0⟩
def ARB_STAT_OWNER (i : Nat) : Fld := ⟨64 * (0x300D020008 + 0x400 * (i % 18)) + 0, 5, 0⟩
def ARB_STAT_fields (i : Nat) : List (Acc × Fld) :=
  [(.ro, ARB_STAT_FAIR_CNT i), (.ro, ARB_STAT_BUSY i), (.ro, ARB_STAT_OWNER i)]
/-! ARB_SHD (chapter 17) -/
def ARB_SHD_BURST (i j : Nat) : Fld := ⟨64 * (0x300D020100 + 0x400 * (i % 18) + 0x4 * (j % 24)) + 16, 16, 16⟩
def ARB_SHD_PREEMPT (i j : Nat) : Fld := ⟨64 * (0x300D020100 + 0x400 * (i % 18) + 0x4 * (j % 24)) + 4, 1, arbPreemptReset i j⟩
def ARB_SHD_PRIO (i j : Nat) : Fld := ⟨64 * (0x300D020100 + 0x400 * (i % 18) + 0x4 * (j % 24)) + 0, 3, arbPrioReset i j⟩
def ARB_SHD_fields (i j : Nat) : List (Acc × Fld) :=
  [(.rw, ARB_SHD_BURST i j), (.rw, ARB_SHD_PREEMPT i j), (.rw, ARB_SHD_PRIO i j)]
/-! ARB_ACT (chapter 17) -/
def ARB_ACT_BURST (i j : Nat) : Fld := ⟨64 * (0x300D020200 + 0x400 * (i % 18) + 0x4 * (j % 24)) + 16, 16, 16⟩
def ARB_ACT_PREEMPT (i j : Nat) : Fld := ⟨64 * (0x300D020200 + 0x400 * (i % 18) + 0x4 * (j % 24)) + 4, 1, arbPreemptReset i j⟩
def ARB_ACT_PRIO (i j : Nat) : Fld := ⟨64 * (0x300D020200 + 0x400 * (i % 18) + 0x4 * (j % 24)) + 0, 3, arbPrioReset i j⟩
def ARB_ACT_fields (i j : Nat) : List (Acc × Fld) :=
  [(.ro, ARB_ACT_BURST i j), (.ro, ARB_ACT_PREEMPT i j), (.ro, ARB_ACT_PRIO i j)]
/-! CAS_CTL (chapter 18) -/
def CAS_CTL_STATION : Fld := ⟨64 * 0x300E000100 + 0, 18, 262143⟩
def CAS_CTL_fields : List (Acc × Fld) :=
  [(.rw, CAS_CTL_STATION)]
/-! CAS_TIME (chapter 18) -/
def CAS_TIME_DELAY : Fld := ⟨64 * 0x300E000108 + 40, 24, 0⟩
def CAS_TIME_ERR : Fld := ⟨64 * 0x300E000108 + 24, 16, 0⟩
def CAS_TIME_NOUP : Fld := ⟨64 * 0x300E000108 + 12, 1, 1⟩
def CAS_TIME_UPLINK : Fld := ⟨64 * 0x300E000108 + 8, 4, 0⟩
def CAS_TIME_BEYOND : Fld := ⟨64 * 0x300E000108 + 7, 1, 0⟩
def CAS_TIME_HOLD : Fld := ⟨64 * 0x300E000108 + 6, 1, 0⟩
def CAS_TIME_ALIGNED : Fld := ⟨64 * 0x300E000108 + 5, 1, 0⟩
def CAS_TIME_VALID : Fld := ⟨64 * 0x300E000108 + 4, 1, 0⟩
def CAS_TIME_HOPS : Fld := ⟨64 * 0x300E000108 + 0, 4, 0⟩
def CAS_TIME_fields : List (Acc × Fld) :=
  [(.ro, CAS_TIME_DELAY), (.ro, CAS_TIME_ERR), (.ro, CAS_TIME_NOUP), (.ro, CAS_TIME_UPLINK), (.ro, CAS_TIME_BEYOND), (.ro, CAS_TIME_HOLD), (.ro, CAS_TIME_ALIGNED), (.ro, CAS_TIME_VALID), (.ro, CAS_TIME_HOPS)]
/-! CAS_SEND (chapter 18) -/
def CAS_SEND_TAG : Fld := ⟨64 * 0x300E000200 + 56, 8, 0⟩
def CAS_SEND_DEST : Fld := ⟨64 * 0x300E000200 + 38, 18, 0⟩
def CAS_SEND_LEN : Fld := ⟨64 * 0x300E000200 + 34, 4, 0⟩
def CAS_SEND_ADDR : Fld := ⟨64 * 0x300E000200 + 0, 34, 0⟩
def CAS_SEND_fields : List (Acc × Fld) :=
  [(.wo, CAS_SEND_TAG), (.wo, CAS_SEND_DEST), (.wo, CAS_SEND_LEN), (.wo, CAS_SEND_ADDR)]
/-! CAS_STAT (chapter 18) -/
def CAS_STAT_RX_DROP : Fld := ⟨64 * 0x300E000208 + 48, 16, 0⟩
def CAS_STAT_NOROUTE : Fld := ⟨64 * 0x300E000208 + 32, 16, 0⟩
def CAS_STAT_QUEUED : Fld := ⟨64 * 0x300E000208 + 0, 7, 0⟩
def CAS_STAT_fields : List (Acc × Fld) :=
  [(.rc, CAS_STAT_RX_DROP), (.rc, CAS_STAT_NOROUTE), (.ro, CAS_STAT_QUEUED)]
/-! CAS_RX_CFG (chapter 18) -/
def CAS_RX_CFG_LOG2 : Fld := ⟨64 * 0x300E000300 + 40, 5, 0⟩
def CAS_RX_CFG_BASE : Fld := ⟨64 * 0x300E000300 + 0, 34, 0⟩
def CAS_RX_CFG_fields : List (Acc × Fld) :=
  [(.rw, CAS_RX_CFG_LOG2), (.rw, CAS_RX_CFG_BASE)]
/-! CAS_RX_PTR (chapter 18) -/
def CAS_RX_PTR_RD : Fld := ⟨64 * 0x300E000308 + 32, 32, 0⟩
def CAS_RX_PTR_WR : Fld := ⟨64 * 0x300E000308 + 0, 32, 0⟩
def CAS_RX_PTR_fields : List (Acc × Fld) :=
  [(.rw, CAS_RX_PTR_RD), (.ro, CAS_RX_PTR_WR)]
/-! LNK_CTL (chapter 18) -/
def LNK_CTL_DEG_LIM (i : Nat) : Fld := ⟨64 * (0x300E010000 + 0x100 * (i % 16)) + 24, 8, 16⟩
def LNK_CTL_SLEEP_IDLE (i : Nat) : Fld := ⟨64 * (0x300E010000 + 0x100 * (i % 16)) + 12, 12, 100⟩
def LNK_CTL_RETRAIN (i : Nat) : Fld := ⟨64 * (0x300E010000 + 0x100 * (i % 16)) + 11, 1, 0⟩
def LNK_CTL_AUTOLOCK (i : Nat) : Fld := ⟨64 * (0x300E010000 + 0x100 * (i % 16)) + 10, 1, 1⟩
def LNK_CTL_MODE (i : Nat) : Fld := ⟨64 * (0x300E010000 + 0x100 * (i % 16)) + 8, 2, 0⟩
def LNK_CTL_TIME_EN (i : Nat) : Fld := ⟨64 * (0x300E010000 + 0x100 * (i % 16)) + 7, 1, 1⟩
def LNK_CTL_SLEEP_EN (i : Nat) : Fld := ⟨64 * (0x300E010000 + 0x100 * (i % 16)) + 6, 1, 0⟩
def LNK_CTL_MAXW (i : Nat) : Fld := ⟨64 * (0x300E010000 + 0x100 * (i % 16)) + 4, 2, 2⟩
def LNK_CTL_ROLE (i : Nat) : Fld := ⟨64 * (0x300E010000 + 0x100 * (i % 16)) + 1, 1, 0⟩
def LNK_CTL_EN (i : Nat) : Fld := ⟨64 * (0x300E010000 + 0x100 * (i % 16)) + 0, 1, 0⟩
def LNK_CTL_fields (i : Nat) : List (Acc × Fld) :=
  [(.rw, LNK_CTL_DEG_LIM i), (.rw, LNK_CTL_SLEEP_IDLE i), (.wo, LNK_CTL_RETRAIN i), (.rw, LNK_CTL_AUTOLOCK i), (.rw, LNK_CTL_MODE i), (.rw, LNK_CTL_TIME_EN i), (.rw, LNK_CTL_SLEEP_EN i), (.rw, LNK_CTL_MAXW i), (.rw, LNK_CTL_ROLE i), (.rw, LNK_CTL_EN i)]
/-! LNK_STAT (chapter 18) -/
def LNK_STAT_PARTNER (i : Nat) : Fld := ⟨64 * (0x300E010008 + 0x100 * (i % 16)) + 28, 18, 262143⟩
def LNK_STAT_FAIL (i : Nat) : Fld := ⟨64 * (0x300E010008 + 0x100 * (i % 16)) + 16, 4, 0⟩
def LNK_STAT_LANES (i : Nat) : Fld := ⟨64 * (0x300E010008 + 0x100 * (i % 16)) + 12, 4, 0⟩
def LNK_STAT_WIDTH (i : Nat) : Fld := ⟨64 * (0x300E010008 + 0x100 * (i % 16)) + 10, 2, 0⟩
def LNK_STAT_RXSLEEP (i : Nat) : Fld := ⟨64 * (0x300E010008 + 0x100 * (i % 16)) + 9, 1, 0⟩
def LNK_STAT_TXSLEEP (i : Nat) : Fld := ⟨64 * (0x300E010008 + 0x100 * (i % 16)) + 8, 1, 0⟩
def LNK_STAT_POLINV (i : Nat) : Fld := ⟨64 * (0x300E010008 + 0x100 * (i % 16)) + 4, 4, 0⟩
def LNK_STAT_STATE (i : Nat) : Fld := ⟨64 * (0x300E010008 + 0x100 * (i % 16)) + 0, 3, 0⟩
def LNK_STAT_fields (i : Nat) : List (Acc × Fld) :=
  [(.ro, LNK_STAT_PARTNER i), (.ro, LNK_STAT_FAIL i), (.ro, LNK_STAT_LANES i), (.ro, LNK_STAT_WIDTH i), (.ro, LNK_STAT_RXSLEEP i), (.ro, LNK_STAT_TXSLEEP i), (.ro, LNK_STAT_POLINV i), (.ro, LNK_STAT_STATE i)]
/-! LNK_RANGE (chapter 18) -/
def LNK_RANGE_LAST (i : Nat) : Fld := ⟨64 * (0x300E010010 + 0x100 * (i % 16)) + 32, 18, 0⟩
def LNK_RANGE_FIRST (i : Nat) : Fld := ⟨64 * (0x300E010010 + 0x100 * (i % 16)) + 0, 18, 262143⟩
def LNK_RANGE_fields (i : Nat) : List (Acc × Fld) :=
  [(.rw, LNK_RANGE_LAST i), (.rw, LNK_RANGE_FIRST i)]
/-! LNK_ERR (chapter 18) -/
def LNK_ERR_DEGRADES (i : Nat) : Fld := ⟨64 * (0x300E010018 + 0x100 * (i % 16)) + 48, 16, 0⟩
def LNK_ERR_REPLAYS (i : Nat) : Fld := ⟨64 * (0x300E010018 + 0x100 * (i % 16)) + 32, 16, 0⟩
def LNK_ERR_CRC_ERR (i : Nat) : Fld := ⟨64 * (0x300E010018 + 0x100 * (i % 16)) + 0, 32, 0⟩
def LNK_ERR_fields (i : Nat) : List (Acc × Fld) :=
  [(.rc, LNK_ERR_DEGRADES i), (.rc, LNK_ERR_REPLAYS i), (.rc, LNK_ERR_CRC_ERR i)]
/-! LNK_ASYM (chapter 18) -/
def LNK_ASYM_ASYM (i : Nat) : Fld := ⟨64 * (0x300E010020 + 0x100 * (i % 16)) + 0, 16, 0⟩
def LNK_ASYM_fields (i : Nat) : List (Acc × Fld) :=
  [(.rw, LNK_ASYM_ASYM i)]
/-! LANE_CTL (chapter 18) -/
def LANE_CTL_SLIP (i : Nat) : Fld := ⟨64 * (0x300E020000 + 0x40 * (i % 64)) + 31, 1, 0⟩
def LANE_CTL_INJ (i : Nat) : Fld := ⟨64 * (0x300E020000 + 0x40 * (i % 64)) + 30, 1, 0⟩
def LANE_CTL_PRBS (i : Nat) : Fld := ⟨64 * (0x300E020000 + 0x40 * (i % 64)) + 28, 2, 0⟩
def LANE_CTL_INJ_RATE (i : Nat) : Fld := ⟨64 * (0x300E020000 + 0x40 * (i % 64)) + 24, 4, 0⟩
def LANE_CTL_PRE (i : Nat) : Fld := ⟨64 * (0x300E020000 + 0x40 * (i % 64)) + 16, 3, 2⟩
def LANE_CTL_MAIN (i : Nat) : Fld := ⟨64 * (0x300E020000 + 0x40 * (i % 64)) + 8, 6, 36⟩
def LANE_CTL_POST (i : Nat) : Fld := ⟨64 * (0x300E020000 + 0x40 * (i % 64)) + 0, 4, 6⟩
def LANE_CTL_fields (i : Nat) : List (Acc × Fld) :=
  [(.wo, LANE_CTL_SLIP i), (.wo, LANE_CTL_INJ i), (.rw, LANE_CTL_PRBS i), (.rw, LANE_CTL_INJ_RATE i), (.rw, LANE_CTL_PRE i), (.rw, LANE_CTL_MAIN i), (.rw, LANE_CTL_POST i)]
/-! LANE_STAT (chapter 18) -/
def LANE_STAT_ERRORS (i : Nat) : Fld := ⟨64 * (0x300E020008 + 0x40 * (i % 64)) + 32, 32, 0⟩
def LANE_STAT_GOOD (i : Nat) : Fld := ⟨64 * (0x300E020008 + 0x40 * (i % 64)) + 4, 1, 0⟩
def LANE_STAT_PRBS_LOCK (i : Nat) : Fld := ⟨64 * (0x300E020008 + 0x40 * (i % 64)) + 3, 1, 0⟩
def LANE_STAT_SYMLOCK (i : Nat) : Fld := ⟨64 * (0x300E020008 + 0x40 * (i % 64)) + 2, 1, 0⟩
def LANE_STAT_BITLOCK (i : Nat) : Fld := ⟨64 * (0x300E020008 + 0x40 * (i % 64)) + 1, 1, 0⟩
def LANE_STAT_SIGNAL (i : Nat) : Fld := ⟨64 * (0x300E020008 + 0x40 * (i % 64)) + 0, 1, 0⟩
def LANE_STAT_fields (i : Nat) : List (Acc × Fld) :=
  [(.rc, LANE_STAT_ERRORS i), (.ro, LANE_STAT_GOOD i), (.ro, LANE_STAT_PRBS_LOCK i), (.ro, LANE_STAT_SYMLOCK i), (.ro, LANE_STAT_BITLOCK i), (.ro, LANE_STAT_SIGNAL i)]
/-! EPOCH (chapter 19) -/
def EPOCH_EPOCH (i : Nat) : Fld := ⟨64 * (0x300F000800 + 0x4 * (i % 64)) + 0, 8, 0⟩
def EPOCH_fields (i : Nat) : List (Acc × Fld) :=
  [(.ro, EPOCH_EPOCH i)]
/-! CORE_STAT (chapter 19) -/
def CORE_STAT_WD_LEFT (i : Nat) : Fld := ⟨64 * (0x300F001000 + 0x100 * (i % 4)) + 40, 24, 0⟩
def CORE_STAT_LOCKFAULT (i : Nat) : Fld := ⟨64 * (0x300F001000 + 0x100 * (i % 4)) + 4, 1, 0⟩
def CORE_STAT_STATE (i : Nat) : Fld := ⟨64 * (0x300F001000 + 0x100 * (i % 4)) + 0, 2, 0⟩
def CORE_STAT_fields (i : Nat) : List (Acc × Fld) :=
  [(.ro, CORE_STAT_WD_LEFT i), (.ro, CORE_STAT_LOCKFAULT i), (.ro, CORE_STAT_STATE i)]
/-! WD_CTL (chapter 19) -/
def WD_CTL_EN (i : Nat) : Fld := ⟨64 * (0x300F001008 + 0x100 * (i % 4)) + 31, 1, 0⟩
def WD_CTL_PERIOD (i : Nat) : Fld := ⟨64 * (0x300F001008 + 0x100 * (i % 4)) + 0, 24, 1000000⟩
def WD_CTL_fields (i : Nat) : List (Acc × Fld) :=
  [(.w1s, WD_CTL_EN i), (.rw, WD_CTL_PERIOD i)]
/-! WD_KICK (chapter 19) -/
def WD_KICK_KEY (i : Nat) : Fld := ⟨64 * (0x300F00100C + 0x100 * (i % 4)) + 0, 8, 0⟩
def WD_KICK_fields (i : Nat) : List (Acc × Fld) :=
  [(.wo, WD_KICK_KEY i)]
/-! LOCK_CTL (chapter 19) -/
def LOCK_CTL_ACQ (i : Nat) : Fld := ⟨64 * (0x300F002000 + 0x10 * (i % 64)) + 31, 1, 0⟩
def LOCK_CTL_REL (i : Nat) : Fld := ⟨64 * (0x300F002000 + 0x10 * (i % 64)) + 30, 1, 0⟩
def LOCK_CTL_LEASE (i : Nat) : Fld := ⟨64 * (0x300F002000 + 0x10 * (i % 64)) + 0, 16, 0⟩
def LOCK_CTL_fields (i : Nat) : List (Acc × Fld) :=
  [(.wo, LOCK_CTL_ACQ i), (.wo, LOCK_CTL_REL i), (.wo, LOCK_CTL_LEASE i)]
/-! LOCK_STAT (chapter 19) -/
def LOCK_STAT_HELD (i : Nat) : Fld := ⟨64 * (0x300F002008 + 0x10 * (i % 64)) + 31, 1, 0⟩
def LOCK_STAT_BROKEN (i : Nat) : Fld := ⟨64 * (0x300F002008 + 0x10 * (i % 64)) + 30, 1, 0⟩
def LOCK_STAT_OWNER (i : Nat) : Fld := ⟨64 * (0x300F002008 + 0x10 * (i % 64)) + 24, 6, 0⟩
def LOCK_STAT_OEPOCH (i : Nat) : Fld := ⟨64 * (0x300F002008 + 0x10 * (i % 64)) + 16, 8, 0⟩
def LOCK_STAT_LEFT (i : Nat) : Fld := ⟨64 * (0x300F002008 + 0x10 * (i % 64)) + 0, 16, 0⟩
def LOCK_STAT_fields (i : Nat) : List (Acc × Fld) :=
  [(.ro, LOCK_STAT_HELD i), (.ro, LOCK_STAT_BROKEN i), (.ro, LOCK_STAT_OWNER i), (.ro, LOCK_STAT_OEPOCH i), (.ro, LOCK_STAT_LEFT i)]
/-! MBX_DATA (chapter 19) -/
def MBX_DATA_DATA (i j : Nat) : Fld := ⟨64 * (0x300F004000 + 0x100 * (i % 16) + 0x4 * (j % 16)) + 0, 32, 0⟩
def MBX_DATA_fields (i j : Nat) : List (Acc × Fld) :=
  [(.rw, MBX_DATA_DATA i j)]
/-! MBX_CTL (chapter 19) -/
def MBX_CTL_GO (i : Nat) : Fld := ⟨64 * (0x300F004040 + 0x100 * (i % 16)) + 31, 1, 0⟩
def MBX_CTL_ACK (i : Nat) : Fld := ⟨64 * (0x300F004040 + 0x100 * (i % 16)) + 30, 1, 0⟩
def MBX_CTL_RECEIVER (i : Nat) : Fld := ⟨64 * (0x300F004040 + 0x100 * (i % 16)) + 16, 2, 0⟩
def MBX_CTL_TMO (i : Nat) : Fld := ⟨64 * (0x300F004040 + 0x100 * (i % 16)) + 0, 16, 0⟩
def MBX_CTL_fields (i : Nat) : List (Acc × Fld) :=
  [(.w1s, MBX_CTL_GO i), (.wo, MBX_CTL_ACK i), (.rw, MBX_CTL_RECEIVER i), (.rw, MBX_CTL_TMO i)]
/-! MBX_STAT (chapter 19) -/
def MBX_STAT_FULL (i : Nat) : Fld := ⟨64 * (0x300F004048 + 0x100 * (i % 16)) + 63, 1, 0⟩
def MBX_STAT_ORPHAN (i : Nat) : Fld := ⟨64 * (0x300F004048 + 0x100 * (i % 16)) + 62, 1, 0⟩
def MBX_STAT_TIMED_OUT (i : Nat) : Fld := ⟨64 * (0x300F004048 + 0x100 * (i % 16)) + 61, 1, 0⟩
def MBX_STAT_SENDER (i : Nat) : Fld := ⟨64 * (0x300F004048 + 0x100 * (i % 16)) + 50, 6, 0⟩
def MBX_STAT_SEPOCH (i : Nat) : Fld := ⟨64 * (0x300F004048 + 0x100 * (i % 16)) + 40, 8, 0⟩
def MBX_STAT_AGE (i : Nat) : Fld := ⟨64 * (0x300F004048 + 0x100 * (i % 16)) + 0, 16, 0⟩
def MBX_STAT_fields (i : Nat) : List (Acc × Fld) :=
  [(.ro, MBX_STAT_FULL i), (.ro, MBX_STAT_ORPHAN i), (.ro, MBX_STAT_TIMED_OUT i), (.ro, MBX_STAT_SENDER i), (.ro, MBX_STAT_SEPOCH i), (.ro, MBX_STAT_AGE i)]
/-! DB_PEND (chapter 19) -/
def DB_PEND_PEND (i : Nat) : Fld := ⟨64 * (0x300F006000 + 0x10 * (i % 4)) + 0, 32, 0⟩
def DB_PEND_fields (i : Nat) : List (Acc × Fld) :=
  [(.w1c, DB_PEND_PEND i)]
/-! DB_MASK (chapter 19) -/
def DB_MASK_MASK (i : Nat) : Fld := ⟨64 * (0x300F006004 + 0x10 * (i % 4)) + 0, 32, 4294967295⟩
def DB_MASK_fields (i : Nat) : List (Acc × Fld) :=
  [(.rw, DB_MASK_MASK i)]
/-! TMO_PEND (chapter 19) -/
def TMO_PEND_TMO (i : Nat) : Fld := ⟨64 * (0x300F006008 + 0x10 * (i % 4)) + 0, 16, 0⟩
def TMO_PEND_fields (i : Nat) : List (Acc × Fld) :=
  [(.w1c, TMO_PEND_TMO i)]
/-! CRC_CFG (chapter 19) -/
def CRC_CFG_SEED_EN (i : Nat) : Fld := ⟨64 * (0x300F008000 + 0x40 * (i % 8)) + 5, 1, 0⟩
def CRC_CFG_FOLD (i : Nat) : Fld := ⟨64 * (0x300F008000 + 0x40 * (i % 8)) + 4, 1, 0⟩
def CRC_CFG_POLY (i : Nat) : Fld := ⟨64 * (0x300F008000 + 0x40 * (i % 8)) + 0, 2, 0⟩
def CRC_CFG_fields (i : Nat) : List (Acc × Fld) :=
  [(.rw, CRC_CFG_SEED_EN i), (.rw, CRC_CFG_FOLD i), (.rw, CRC_CFG_POLY i)]
/-! CRC_SEED (chapter 19) -/
def CRC_SEED_SEED (i : Nat) : Fld := ⟨64 * (0x300F008008 + 0x40 * (i % 8)) + 0, 64, 0⟩
def CRC_SEED_fields (i : Nat) : List (Acc × Fld) :=
  [(.rw, CRC_SEED_SEED i)]
/-! CRC_FOLD (chapter 19) -/
def CRC_FOLD_VALUE (i : Nat) : Fld := ⟨64 * (0x300F008010 + 0x40 * (i % 8)) + 0, 32, 0⟩
def CRC_FOLD_fields (i : Nat) : List (Acc × Fld) :=
  [(.wo, CRC_FOLD_VALUE i)]
/-! CRC_DB (chapter 19) -/
def CRC_DB_DATA (i : Nat) : Fld := ⟨64 * (0x300F008018 + 0x40 * (i % 8)) + 0, 8, 0⟩
def CRC_DB_fields (i : Nat) : List (Acc × Fld) :=
  [(.wo, CRC_DB_DATA i)]
/-! CRC_DH (chapter 19) -/
def CRC_DH_DATA (i : Nat) : Fld := ⟨64 * (0x300F00801C + 0x40 * (i % 8)) + 0, 16, 0⟩
def CRC_DH_fields (i : Nat) : List (Acc × Fld) :=
  [(.wo, CRC_DH_DATA i)]
/-! CRC_DW (chapter 19) -/
def CRC_DW_DATA (i : Nat) : Fld := ⟨64 * (0x300F008020 + 0x40 * (i % 8)) + 0, 32, 0⟩
def CRC_DW_fields (i : Nat) : List (Acc × Fld) :=
  [(.wo, CRC_DW_DATA i)]
/-! CRC_RES (chapter 19) -/
def CRC_RES_RES (i : Nat) : Fld := ⟨64 * (0x300F008028 + 0x40 * (i % 8)) + 0, 64, 0⟩
def CRC_RES_fields (i : Nat) : List (Acc × Fld) :=
  [(.ro, CRC_RES_RES i)]
/-! SP_OWN (chapter 19) -/
def SP_OWN_PENDING (i : Nat) : Fld := ⟨64 * (0x300F00A000 + 0x10 * (i % 16)) + 8, 1, 0⟩
def SP_OWN_OWNER (i : Nat) : Fld := ⟨64 * (0x300F00A000 + 0x10 * (i % 16)) + 0, 6, 0⟩
def SP_OWN_fields (i : Nat) : List (Acc × Fld) :=
  [(.ro, SP_OWN_PENDING i), (.rw, SP_OWN_OWNER i)]
/-! SP_ECC_CTL (chapter 06) -/
def SP_ECC_CTL_SCRUB_RATE : Fld := ⟨64 * 0x300F00A200 + 16, 8, 16⟩
def SP_ECC_CTL_LEAK : Fld := ⟨64 * 0x300F00A200 + 8, 8, 1⟩
def SP_ECC_CTL_BUCKET : Fld := ⟨64 * 0x300F00A200 + 0, 8, 32⟩
def SP_ECC_CTL_fields : List (Acc × Fld) :=
  [(.rw, SP_ECC_CTL_SCRUB_RATE), (.rw, SP_ECC_CTL_LEAK), (.rw, SP_ECC_CTL_BUCKET)]
/-! SP_ECC_STAT (chapter 06) -/
def SP_ECC_STAT_UNCORR : Fld := ⟨64 * 0x300F00A208 + 48, 16, 0⟩
def SP_ECC_STAT_CORR : Fld := ⟨64 * 0x300F00A208 + 32, 16, 0⟩
def SP_ECC_STAT_PASSES : Fld := ⟨64 * 0x300F00A208 + 24, 8, 0⟩
def SP_ECC_STAT_LEVEL : Fld := ⟨64 * 0x300F00A208 + 16, 8, 0⟩
def SP_ECC_STAT_OVERFLOW : Fld := ⟨64 * 0x300F00A208 + 0, 1, 0⟩
def SP_ECC_STAT_fields : List (Acc × Fld) :=
  [(.rc, SP_ECC_STAT_UNCORR), (.rc, SP_ECC_STAT_CORR), (.ro, SP_ECC_STAT_PASSES), (.ro, SP_ECC_STAT_LEVEL), (.w1c, SP_ECC_STAT_OVERFLOW)]
/-! SP_MARCH (chapter 19) -/
def SP_MARCH_GO : Fld := ⟨64 * 0x300F00A300 + 31, 1, 0⟩
def SP_MARCH_PRESERVE : Fld := ⟨64 * 0x300F00A300 + 16, 1, 0⟩
def SP_MARCH_BANKS : Fld := ⟨64 * 0x300F00A300 + 0, 16, 0⟩
def SP_MARCH_fields : List (Acc × Fld) :=
  [(.w1s, SP_MARCH_GO), (.rw, SP_MARCH_PRESERVE), (.rw, SP_MARCH_BANKS)]
/-! SP_MARCH_STAT (chapter 19) -/
def SP_MARCH_STAT_FAILED : Fld := ⟨64 * 0x300F00A308 + 32, 16, 0⟩
def SP_MARCH_STAT_PASSED : Fld := ⟨64 * 0x300F00A308 + 0, 16, 0⟩
def SP_MARCH_STAT_fields : List (Acc × Fld) :=
  [(.ro, SP_MARCH_STAT_FAILED), (.ro, SP_MARCH_STAT_PASSED)]
/-! SP_MARCH_RES (chapter 19) -/
def SP_MARCH_RES_ONECOL (i : Nat) : Fld := ⟨64 * (0x300F00A400 + 0x4 * (i % 16)) + 31, 1, 0⟩
def SP_MARCH_RES_COL (i : Nat) : Fld := ⟨64 * (0x300F00A400 + 0x4 * (i % 16)) + 24, 7, 0⟩
def SP_MARCH_RES_FAILS (i : Nat) : Fld := ⟨64 * (0x300F00A400 + 0x4 * (i % 16)) + 0, 17, 0⟩
def SP_MARCH_RES_fields (i : Nat) : List (Acc × Fld) :=
  [(.ro, SP_MARCH_RES_ONECOL i), (.ro, SP_MARCH_RES_COL i), (.ro, SP_MARCH_RES_FAILS i)]
/-! SP_PASS (chapter 19) -/
def SP_PASS_GO : Fld := ⟨64 * 0x300F00A500 + 63, 1, 0⟩
def SP_PASS_BANK : Fld := ⟨64 * 0x300F00A500 + 48, 1, 0⟩
def SP_PASS_COUNT : Fld := ⟨64 * 0x300F00A500 + 16, 17, 0⟩
def SP_PASS_FIRST : Fld := ⟨64 * 0x300F00A500 + 0, 16, 0⟩
def SP_PASS_fields : List (Acc × Fld) :=
  [(.w1s, SP_PASS_GO), (.rw, SP_PASS_BANK), (.rw, SP_PASS_COUNT), (.rw, SP_PASS_FIRST)]
/-! SP_PASS_SUM (chapter 16) -/
def SP_PASS_SUM_UNCORR : Fld := ⟨64 * 0x300F00A508 + 48, 16, 0⟩
def SP_PASS_SUM_CORR : Fld := ⟨64 * 0x300F00A508 + 32, 16, 0⟩
def SP_PASS_SUM_CHECKED : Fld := ⟨64 * 0x300F00A508 + 0, 32, 0⟩
def SP_PASS_SUM_fields : List (Acc × Fld) :=
  [(.ro, SP_PASS_SUM_UNCORR), (.ro, SP_PASS_SUM_CORR), (.ro, SP_PASS_SUM_CHECKED)]
/-! PATCH_ADDR (chapter 19) -/
def PATCH_ADDR_EN (i : Nat) : Fld := ⟨64 * (0x300F00C000 + 0x10 * (i % 16)) + 31, 1, 0⟩
def PATCH_ADDR_WORD (i : Nat) : Fld := ⟨64 * (0x300F00C000 + 0x10 * (i % 16)) + 2, 28, 0⟩
def PATCH_ADDR_fields (i : Nat) : List (Acc × Fld) :=
  [(.rw, PATCH_ADDR_EN i), (.rw, PATCH_ADDR_WORD i)]
/-! PATCH_DATA (chapter 19) -/
def PATCH_DATA_DATA (i : Nat) : Fld := ⟨64 * (0x300F00C008 + 0x10 * (i % 16)) + 0, 32, 0⟩
def PATCH_DATA_fields (i : Nat) : List (Acc × Fld) :=
  [(.rw, PATCH_DATA_DATA i)]
/-! PATCH_LOCK (chapter 19) -/
def PATCH_LOCK_LOCK : Fld := ⟨64 * 0x300F00C100 + 0, 1, 0⟩
def PATCH_LOCK_fields : List (Acc × Fld) :=
  [(.w1s, PATCH_LOCK_LOCK)]
/-! SEC_STAT (chapter 20) -/
def SEC_STAT_LEDGER : Fld := ⟨64 * 0x3010000100 + 16, 9, 0⟩
def SEC_STAT_LC_K : Fld := ⟨64 * 0x3010000100 + 11, 5, 0⟩
def SEC_STAT_STATE : Fld := ⟨64 * 0x3010000100 + 8, 3, 0⟩
def SEC_STAT_EDITION : Fld := ⟨64 * 0x3010000100 + 4, 4, 15⟩
def SEC_STAT_USED : Fld := ⟨64 * 0x3010000100 + 0, 4, 0⟩
def SEC_STAT_fields : List (Acc × Fld) :=
  [(.ro, SEC_STAT_LEDGER), (.ro, SEC_STAT_LC_K), (.ro, SEC_STAT_STATE), (.ro, SEC_STAT_EDITION), (.ro, SEC_STAT_USED)]
/-! SEC_TAMPER (chapter 20) -/
def SEC_TAMPER_FUSED : Fld := ⟨64 * 0x3010000108 + 24, 6, 0⟩
def SEC_TAMPER_SOURCE : Fld := ⟨64 * 0x3010000108 + 0, 3, 0⟩
def SEC_TAMPER_fields : List (Acc × Fld) :=
  [(.ro, SEC_TAMPER_FUSED), (.w1c, SEC_TAMPER_SOURCE)]
/-! ALM_CTL (chapter 20) -/
def ALM_CTL_GO : Fld := ⟨64 * 0x3010000200 + 63, 1, 0⟩
def ALM_CTL_OP : Fld := ⟨64 * 0x3010000200 + 56, 3, 0⟩
def ALM_CTL_TARGET : Fld := ⟨64 * 0x3010000200 + 50, 3, 0⟩
def ALM_CTL_SRC : Fld := ⟨64 * 0x3010000200 + 0, 19, 0⟩
def ALM_CTL_fields : List (Acc × Fld) :=
  [(.w1s, ALM_CTL_GO), (.rw, ALM_CTL_OP), (.rw, ALM_CTL_TARGET), (.rw, ALM_CTL_SRC)]
/-! ALM_STAT (chapter 20) -/
def ALM_STAT_CHECK : Fld := ⟨64 * 0x3010000208 + 8, 4, 0⟩
def ALM_STAT_BUSY : Fld := ⟨64 * 0x3010000208 + 7, 1, 0⟩
def ALM_STAT_RESULT : Fld := ⟨64 * 0x3010000208 + 4, 3, 0⟩
def ALM_STAT_fields : List (Acc × Fld) :=
  [(.ro, ALM_STAT_CHECK), (.ro, ALM_STAT_BUSY), (.ro, ALM_STAT_RESULT)]
/-! AUD_SEQ (chapter 20) -/
def AUD_SEQ_SEQ : Fld := ⟨64 * 0x3010000300 + 0, 64, 0⟩
def AUD_SEQ_fields : List (Acc × Fld) :=
  [(.ro, AUD_SEQ_SEQ)]
/-! AUD_HEAD (chapter 20) -/
def AUD_HEAD_BYTES (i : Nat) : Fld := ⟨64 * (0x3010000340 + 0x8 * (i % 8)) + 0, 64, 0⟩
def AUD_HEAD_fields (i : Nat) : List (Acc × Fld) :=
  [(.ro, AUD_HEAD_BYTES i)]
/-! AUD_BODY (chapter 20) -/
def AUD_BODY_BYTES (i : Nat) : Fld := ⟨64 * (0x3010000380 + 0x8 * (i % 8)) + 0, 64, 0⟩
def AUD_BODY_fields (i : Nat) : List (Acc × Fld) :=
  [(.wo, AUD_BODY_BYTES i)]
/-! AUD_GO (chapter 20) -/
def AUD_GO_GO : Fld := ⟨64 * 0x30100003C0 + 0, 1, 0⟩
def AUD_GO_fields : List (Acc × Fld) :=
  [(.wo, AUD_GO_GO)]
/-! ATT_CTL (chapter 20) -/
def ATT_CTL_GO : Fld := ⟨64 * 0x3010000400 + 63, 1, 0⟩
def ATT_CTL_RESULT : Fld := ⟨64 * 0x3010000400 + 56, 3, 0⟩
def ATT_CTL_DST : Fld := ⟨64 * 0x3010000400 + 0, 19, 0⟩
def ATT_CTL_fields : List (Acc × Fld) :=
  [(.w1s, ATT_CTL_GO), (.ro, ATT_CTL_RESULT), (.rw, ATT_CTL_DST)]
/-! FI_STAT (chapter 21) -/
def FI_STAT_AL_CODE : Fld := ⟨64 * 0x3011000100 + 16, 16, 0⟩
def FI_STAT_SESSIONS : Fld := ⟨64 * 0x3011000100 + 12, 4, 0⟩
def FI_STAT_LINK1 : Fld := ⟨64 * 0x3011000100 + 9, 1, 0⟩
def FI_STAT_LINK0 : Fld := ⟨64 * 0x3011000100 + 8, 1, 0⟩
def FI_STAT_AL_ERR : Fld := ⟨64 * 0x3011000100 + 4, 1, 0⟩
def FI_STAT_AL_STATE : Fld := ⟨64 * 0x3011000100 + 0, 4, 1⟩
def FI_STAT_fields : List (Acc × Fld) :=
  [(.ro, FI_STAT_AL_CODE), (.ro, FI_STAT_SESSIONS), (.ro, FI_STAT_LINK1), (.ro, FI_STAT_LINK0), (.ro, FI_STAT_AL_ERR), (.ro, FI_STAT_AL_STATE)]
/-! FI_SDO (chapter 21) -/
def FI_SDO_RETRIED : Fld := ⟨64 * 0x3011000108 + 16, 16, 0⟩
def FI_SDO_PENDING : Fld := ⟨64 * 0x3011000108 + 0, 5, 0⟩
def FI_SDO_fields : List (Acc × Fld) :=
  [(.rc, FI_SDO_RETRIED), (.ro, FI_SDO_PENDING)]
/-! FI_SESS (chapter 21) -/
def FI_SESS_ADDRESS (i : Nat) : Fld := ⟨64 * (0x3011000200 + 0x8 * (i % 8)) + 16, 16, 0⟩
def FI_SESS_ROLE (i : Nat) : Fld := ⟨64 * (0x3011000200 + 0x8 * (i % 8)) + 8, 4, 0⟩
def FI_SESS_OPEN (i : Nat) : Fld := ⟨64 * (0x3011000200 + 0x8 * (i % 8)) + 0, 1, 0⟩
def FI_SESS_fields (i : Nat) : List (Acc × Fld) :=
  [(.ro, FI_SESS_ADDRESS i), (.ro, FI_SESS_ROLE i), (.ro, FI_SESS_OPEN i)]
/-! DBG_AUTH_CTL (chapter 22) -/
def DBG_AUTH_CTL_CAUSE : Fld := ⟨64 * 0x3012000100 + 24, 4, 0⟩
def DBG_AUTH_CTL_RESULT : Fld := ⟨64 * 0x3012000100 + 21, 3, 0⟩
def DBG_AUTH_CTL_BUSY : Fld := ⟨64 * 0x3012000100 + 20, 1, 0⟩
def DBG_AUTH_CTL_ROLE : Fld := ⟨64 * 0x3012000100 + 16, 2, 0⟩
def DBG_AUTH_CTL_LEN : Fld := ⟨64 * 0x3012000100 + 8, 7, 0⟩
def DBG_AUTH_CTL_OP : Fld := ⟨64 * 0x3012000100 + 0, 3, 0⟩
def DBG_AUTH_CTL_fields : List (Acc × Fld) :=
  [(.ro, DBG_AUTH_CTL_CAUSE), (.ro, DBG_AUTH_CTL_RESULT), (.ro, DBG_AUTH_CTL_BUSY), (.ro, DBG_AUTH_CTL_ROLE), (.rw, DBG_AUTH_CTL_LEN), (.wo, DBG_AUTH_CTL_OP)]
/-! DBG_AUTH_BUF (chapter 22) -/
def DBG_AUTH_BUF_WORD (i : Nat) : Fld := ⟨64 * (0x3012010000 + 0x8 * (i % 1024)) + 0, 64, 0⟩
def DBG_AUTH_BUF_fields (i : Nat) : List (Acc × Fld) :=
  [(.rw, DBG_AUTH_BUF_WORD i)]
/-! DBG_CTL (chapter 22) -/
def DBG_CTL_BREAKLEASE : Fld := ⟨64 * 0x3012000108 + 1, 1, 0⟩
def DBG_CTL_SIDE : Fld := ⟨64 * 0x3012000108 + 0, 1, 0⟩
def DBG_CTL_fields : List (Acc × Fld) :=
  [(.rw, DBG_CTL_BREAKLEASE), (.rw, DBG_CTL_SIDE)]
/-! DBG_RUN (chapter 22) -/
def DBG_RUN_HALT (i : Nat) : Fld := ⟨64 * (0x3012000200 + 0x8 * (i % 36)) + 31, 1, 0⟩
def DBG_RUN_RESUME (i : Nat) : Fld := ⟨64 * (0x3012000200 + 0x8 * (i % 36)) + 30, 1, 0⟩
def DBG_RUN_STEP (i : Nat) : Fld := ⟨64 * (0x3012000200 + 0x8 * (i % 36)) + 29, 1, 0⟩
def DBG_RUN_RHALT (i : Nat) : Fld := ⟨64 * (0x3012000200 + 0x8 * (i % 36)) + 8, 1, 0⟩
def DBG_RUN_STEPPING (i : Nat) : Fld := ⟨64 * (0x3012000200 + 0x8 * (i % 36)) + 1, 1, 0⟩
def DBG_RUN_HALTED (i : Nat) : Fld := ⟨64 * (0x3012000200 + 0x8 * (i % 36)) + 0, 1, 0⟩
def DBG_RUN_fields (i : Nat) : List (Acc × Fld) :=
  [(.wo, DBG_RUN_HALT i), (.wo, DBG_RUN_RESUME i), (.wo, DBG_RUN_STEP i), (.rw, DBG_RUN_RHALT i), (.ro, DBG_RUN_STEPPING i), (.ro, DBG_RUN_HALTED i)]
/-! DBG_FREEZE (chapter 22) -/
def DBG_FREEZE_MASK : Fld := ⟨64 * 0x3012000380 + 0, 16, 0⟩
def DBG_FREEZE_fields : List (Acc × Fld) :=
  [(.rw, DBG_FREEZE_MASK)]
/-! DBG_TRC_CTL (chapter 22) -/
def DBG_TRC_CTL_EVT : Fld := ⟨64 * 0x3012000400 + 33, 19, 0⟩
def DBG_TRC_CTL_STALL : Fld := ⟨64 * 0x3012000400 + 3, 1, 0⟩
def DBG_TRC_CTL_TICK : Fld := ⟨64 * 0x3012000400 + 2, 1, 0⟩
def DBG_TRC_CTL_STIM : Fld := ⟨64 * 0x3012000400 + 1, 1, 0⟩
def DBG_TRC_CTL_EN : Fld := ⟨64 * 0x3012000400 + 0, 1, 0⟩
def DBG_TRC_CTL_fields : List (Acc × Fld) :=
  [(.rw, DBG_TRC_CTL_EVT), (.rw, DBG_TRC_CTL_STALL), (.rw, DBG_TRC_CTL_TICK), (.rw, DBG_TRC_CTL_STIM), (.rw, DBG_TRC_CTL_EN)]
/-! DBG_TRC_STAT (chapter 22) -/
def DBG_TRC_STAT_LOST : Fld := ⟨64 * 0x3012000408 + 32, 32, 0⟩
def DBG_TRC_STAT_LEVEL : Fld := ⟨64 * 0x3012000408 + 0, 13, 0⟩
def DBG_TRC_STAT_fields : List (Acc × Fld) :=
  [(.rc, DBG_TRC_STAT_LOST), (.ro, DBG_TRC_STAT_LEVEL)]
/-! DBG_CREG (chapter 22) -/
def DBG_CREG_VALUE (i j : Nat) : Fld := ⟨64 * (0x3012001000 + 0x200 * (i % 4) + 0x8 * (j % 32)) + 0, 64, 0⟩
def DBG_CREG_fields (i j : Nat) : List (Acc × Fld) :=
  [(.rw, DBG_CREG_VALUE i j)]
/-! DBG_CSR_SEL (chapter 22) -/
def DBG_CSR_SEL_CSR (i : Nat) : Fld := ⟨64 * (0x3012001100 + 0x200 * (i % 4)) + 0, 32, 0⟩
def DBG_CSR_SEL_fields (i : Nat) : List (Acc × Fld) :=
  [(.rw, DBG_CSR_SEL_CSR i)]
/-! DBG_CSR_DATA (chapter 22) -/
def DBG_CSR_DATA_VALUE (i : Nat) : Fld := ⟨64 * (0x3012001108 + 0x200 * (i % 4)) + 0, 64, 0⟩
def DBG_CSR_DATA_fields (i : Nat) : List (Acc × Fld) :=
  [(.rw, DBG_CSR_DATA_VALUE i)]
/-! DBG_STIM (chapter 22) -/
def DBG_STIM_DATA (i j : Nat) : Fld := ⟨64 * (0x3012008000 + 0x100 * (i % 4) + 0x8 * (j % 32)) + 0, 64, 0⟩
def DBG_STIM_fields (i j : Nat) : List (Acc × Fld) :=
  [(.wo, DBG_STIM_DATA i j)]

end Sys2Proof.Machine
end

