-- ==== Sys2Proof/Machine/Mem.lean ====
section
/-! DEFINITION. Byte memories: a list of address and byte pairs in ONE canonical form, addresses strictly rising and no
entry equal to the byte an unlisted address reads as. The HBM stack's unlisted bytes read 0x00 and the flash's 0xFF
(notes/assumptions/7.md). -/
namespace Sys2Proof.Machine

/-- A byte memory. -/
abbrev Memory := List Host.Cell

/-- The byte at an address; an unlisted address reads as `d`. -/
def memGet (d : Byte) (a : Nat) : Memory → Byte
  | [] => d
  | (a', b) :: r => if a = a' then b else memGet d a r

/-- Forget an address. -/
def memDel (a : Nat) : Memory → Memory
  | [] => []
  | (a', b) :: r => if a = a' then r else (a', b) :: memDel a r

/-- List a byte at an address, keeping the addresses in rising order. -/
def memPut (a : Nat) (b : Byte) : Memory → Memory
  | [] => [(a, b)]
  | (a', b') :: r =>
    if a < a' then (a, b) :: (a', b') :: r
    else if a = a' then (a, b) :: r
    else (a', b') :: memPut a b r

/-- Write one byte: writing `d` removes the entry. -/
def memSet (d : Byte) (a : Nat) (b : Byte) (m : Memory) : Memory := if b = d then memDel a m else memPut a b m

/-- `n` bytes from an address. -/
def memRead (d : Byte) (a n : Nat) (m : Memory) : List Byte := (List.range n).map (fun i => memGet d (a + i) m)

/-- Bytes written from an address on. -/
def memWrite (d : Byte) (a : Nat) : List Byte → Memory → Memory
  | [], m => m
  | b :: r, m => memWrite d (a + 1) r (memSet d a b m)

/-- Forget the addresses from `lo` up to but not including `hi`. -/
def memErase (lo hi : Nat) (m : Memory) : Memory := m.filter (fun p => !(decide (lo ≤ p.1) && decide (p.1 < hi)))

/-- Addresses strictly rising from above `lo` on, every byte different from `d`. -/
def memOk (d : Byte) : Option Nat → Memory → Bool
  | _, [] => true
  | lo, (a, b) :: r => (match lo with | none => true | some l => decide (l < a)) && decide (b ≠ d) && memOk d (some a) r

/-- The canonical form of a memory whose unlisted bytes read `d`. -/
def Memory.wf (d : Byte) (m : Memory) : Bool := memOk d none m

end Sys2Proof.Machine
end

