-- ==== Sys2Proof/Machine/State.lean ====
section
/-! DEFINITION. The state of the part: plain data, holding the register file, the stores, queues and engines that the
spec gives each subsystem, and the queue of commands that wait. -/
namespace Sys2Proof.Machine

/-- A stop of the machine. No rule of the spec stops the part on a command: every command, whatever the state, is
answered or has its effect. Nothing raises a fault (safe). -/
inductive Fault where
  | none
  deriving DecidableEq, Repr

/-- Why a command has no meaning in this model. -/
inductive Refusal where
  /-- The command's meaning is not written yet; raised by an arm of `exec` only (safe). -/
  | notModelled (mnemonic : String)
  deriving DecidableEq, Repr

/-- The answer to the last access or operation that reports a status (R11), with the value read. -/
structure Resp where
  status : Status
  value : Nat
  bytes : List Byte
  deriving DecidableEq, Repr

/-- One data item of an event: its width in bytes and its value (R510). -/
structure EvItem where
  bytes : Nat
  value : Nat
  deriving DecidableEq, Repr

/-- One record of the event ring (R510). -/
structure EvRec where
  seq : Nat
  code : Nat
  boot : Bool
  trunc : Bool
  stamp : Nat
  items : List EvItem
  deriving DecidableEq, Repr

/-- The event ring (R510), the events held before ready (R113), and the events already raised in this frame of those
raised at most once per frame. -/
structure EventSt where
  ring : List EvRec
  seq : Nat
  overwritten : Nat
  held : List EvRec
  once : List Nat
  deriving DecidableEq, Repr

/-- Trace packets that wait to enter the FIFO; the FIFO as bytes, with the number of bytes left of each packet in it; bytes sent since
the last SYNC; packets lost since the last OVERFLOW; stimulus packets that wait for room; and the drain after EN = 0 (R529 to
R532). -/
structure TraceSt where
  due : List TracePacket
  fifo : List Nat
  sizes : List Nat
  sinceSync : Nat
  lostSince : Nat
  stalled : List (List Nat)
  draining : Bool
  deriving DecidableEq, Repr

/-- A Sluice request that the part places itself and places again until it is accepted (R566). -/
structure PartReq where
  cls : Nat
  target : Nat
  current : Nat
  duration : Nat
  init : Nat
  purpose : Nat
  deriving DecidableEq, Repr

/-- The levels of VIN that the table of chapter 03 tells apart. -/
inductive Vin where
  | off | sagging | on
  deriving DecidableEq, Repr

/-- Power domains, Sluice and the energy limiter, beside their registers (chapter 03): the level of VIN; waiting entries in order
of arrival, those the grant cycle has yet to visit, and the entries ever used; the purpose and declared duration of each entry;
the last ticket by initiator; granted entries whose ramp has not begun; refused requests that the part places again; domains
that wait to be raised with their requester + 1; LOWERING domains that go to RETAIN; domains whose DOMAIN reset waits for
quiescence or holds; channels that carry a fault current; granted entries in the order of their grants; channels that a trip
keeps at high impedance; and the frames that the next energy snapshot covers. -/
structure PowerSt where
  vin : Vin
  queue : List Nat
  cycle : List Nat
  used : List Nat
  purpose : Sparse
  dur : Sparse
  ticket : Sparse
  ramp : List Nat
  replace : List PartReq
  raising : Sparse
  toRetain : List Nat
  resetWait : List Nat
  resetHold : List Nat
  inFault : List Nat
  order : List Nat
  hiz : List Nat
  ledgerDue : Nat
  deriving DecidableEq, Repr

/-- What QUIET recorded on entry: domain targets and the regions that were loaded (R21). -/
structure QuietRec where
  targets : Sparse
  regions : List (Nat × Nat × Bool)
  deriving DecidableEq, Repr

/-- A pending profile change: the profile asked for, the entry of its PROFILE request and whether it is granted (R23 to R25); the record of
QUIET and the reloads it left due (R21). -/
structure ProfileSt where
  req : Nat
  entry : Option Nat
  granted : Bool
  quiet : Option QuietRec
  reload : List (Nat × Nat × Bool)
  deriving DecidableEq, Repr

/-- Clock muxes (where each stands, and those whose WAIT has expired without FORCE), sources lost and not stable since, FAB
relocks, who asked each gate to close, and the frame-tick generator, beside their registers (chapter 04): the last tick but one, the last
tick and the next expected one in ps from the first tick after the last reset, the slot that the frame has come to (R89), the SYNC0 events of an
acquisition; the frame whose snapshot is due with the values its tick captured, the stamp and values of the last complete
snapshot (R93); whether a process-data image is due; and the number of STARTs judged that came with no time of their own (R264). -/
structure ClockSt where
  muxAt : Sparse
  muxWaited : List Nat
  stopped : List Nat
  relock : List Nat
  gateInit : Sparse
  lastPs : Nat
  tickPs : Nat
  expectPs : Nat
  slot : Nat
  syncSeen : List Nat
  teleDue : Option Nat
  teleCap : Sparse
  teleStamp : Nat
  tele : Sparse
  processDue : Bool
  judged : Nat
  deriving DecidableEq, Repr

/-- The balls that the spec gives a level and no register holds (R40, R44). -/
structure PinSt where
  porstLow : Bool
  srstLow : Bool
  therm : Bool
  deriving DecidableEq, Repr

/-- A sample on its link to a signal core or in its FIFO (R183, R333): its 24-bit value with its CLAMPED and OVER bits. -/
structure ScSample where
  value : Nat
  clamped : Bool
  isOver : Bool
  deriving DecidableEq, Repr

/-- The samples of one channel's PMU in a frame: their sum, their number, and their scale, 0 for voltage and 1 + IRANGE for current
(R180, R183). -/
structure PmuSum where
  ch : Nat
  scale : Nat
  sum : Int
  n : Nat
  deriving DecidableEq, Repr

/-- An edge as its serialiser takes it (R196, R203): its placement P in q from T0, split into pattern-clock cycle, slot and fine delay;
for a drive edge the level code it drives (0 off, 1 VIH, 2 VIL, 3 VTT). -/
structure PlacedEdge where
  p : Int
  clk : Int
  slot : Nat
  fine : Nat
  level : Nat
  deriving DecidableEq, Repr

/-- Where the edges of one channel's last cycle were placed (R196, R203): the edges of its drive serialiser, those of its C1 and C2
serialisers with the lane that takes both, and whether the cycle carried a sentinel (R218). -/
structure Placed where
  ch : Nat
  k : Nat
  sent : Bool
  drive : List PlacedEdge
  c1 : PlacedEdge
  c2 : PlacedEdge
  lane : Nat
  deriving DecidableEq, Repr

/-- The Jets beside their registers (chapter 08): each driver's last level code (absent: off state), the channels whose
cycle in progress is bad (R202), the PMUs connected, the clamps engaged (1 LO, 2 HI), the channels whose block clear
waits for the tick (R175), the PMU samples of this frame and of the last, the scale of each channel's last sample, the samples on
their dedicated links by channel (R15, R183), and each channel's edges last placed. -/
structure JetSt where
  drv : Sparse
  bad : List Nat
  pmuOn : List Nat
  clamp : Sparse
  blockHeld : List Nat
  sums : List PmuSum
  means : List PmuSum
  scales : Sparse
  link : List (Nat × ScSample)
  placed : List Placed
  deriving DecidableEq, Repr

/-- Corrections that a boundary replaced on a channel: the cycles of its sequencer numbered below `upTo` keep them (R197). -/
structure CorrOld where
  ch : Nat
  upTo : Nat
  drv : Int
  cmp : Int
  deriving DecidableEq, Repr

/-- Edge timing beside its registers (chapter 09): replaced corrections that cycles still keep, oldest first; bad cycles of this frame
and of the last, the status of the last timing-set record and the read selection of object 0x3400:0x12. -/
structure EdgeSt where
  corrOld : List CorrOld
  badFrame : Sparse
  badLast : Sparse
  recStatus : Status
  select : Nat
  deriving DecidableEq, Repr

/-- What Weir has measured on one channel in the frame (R211, R213): sums in 1/16 q and counts of the drive and compare
edges, and the sentinels inserted (R218). -/
structure WeirAcc where
  ch : Nat
  drvSum : Int
  drvN : Nat
  cmpSum : Int
  cmpN : Nat
  sent : Nat
  deriving DecidableEq, Repr

/-- One channel's decision of a frame (R214). -/
structure WeirStep where
  ch : Nat
  drv : Int
  cmp : Int
  deriving DecidableEq, Repr

/-- The decisions of a frame, and whether their unit completed before the next tick (R215, R217). -/
structure WeirDecided where
  frame : Nat
  steps : List WeirStep
  delivered : Bool
  deriving DecidableEq, Repr

/-- A bank of a calibration run, with its failure code so far, 0 none (R225). -/
structure CalBank where
  bank : Nat
  code : Nat
  deriving DecidableEq, Repr

/-- Weir beside its registers (chapter 10): the frame's measurements, the sentinel settings in force (R218), pending
decisions, WIT and PHYS of the working record, the calibration run and the two flash copies of the record (R229). -/
structure WeirSt where
  acc : List WeirAcc
  sentOn : List Nat
  sentMax : Sparse
  decided : Option WeirDecided
  wit : Sparse
  phys : Sparse
  run : Option (List CalBank)
  saving : Bool
  copies : List Byte × List Byte
  deriving DecidableEq, Repr

/-- A request in the HBM controller's queue (R347, R348): its source, class, address, lines, the bytes and byte enables of
a write, whether it is promoted, the issue number at its port, and the keyed region, if any, that each line was accepted for. -/
structure HbmReq where
  id : Nat
  src : Nat
  cls : Nat
  addr : Nat
  lines : Nat
  write : Option (List Byte)
  be : Nat
  promoted : Bool
  seq : Nat
  regions : List (Option Nat)
  deriving DecidableEq, Repr

/-- One entry of a bank's disturbance table (R351). -/
structure DistEnt where
  bank : Nat
  row : Nat
  count : Nat
  deriving DecidableEq, Repr

/-- The HBM stack and its controller beside their registers (chapter 15): contents, the words of each line that hold a
single-bit or a double-bit error, the queue, the bytes moved in the 1 µs window by class, lines moved and requests
promoted in the frame, open rows (row + 1 by bank), disturbance tables, rows due a targeted refresh, targeted refreshes of
the frame with their first bank, the error log, the scrubber's next line, spare rows in use (spare + 1 by 32,768 × bank + replaced
row), the row being replaced in the same numbering (R544), the uncorrectable lines since reset, and the first page and the number of
pages of the range pass that runs. -/
structure HbmSt where
  mem : Memory
  sgl : Sparse
  dbl : Sparse
  queue : List HbmReq
  nextId : Nat
  moved : Sparse
  lines : Sparse
  promoted : Sparse
  rows : Sparse
  dist : List DistEnt
  due : List (Nat × Nat)
  tgtCount : Nat
  tgtBank : Nat
  log : List Nat
  scrubAt : Nat
  spares : Sparse
  subst : Option Nat
  uncorrTotal : Nat
  corrFrame : Nat
  corrLast : Nat
  accAddr : Nat
  accStatus : Status
  passFirst : Nat
  passCount : Nat
  deriving DecidableEq, Repr

/-- A cached node of a counter tree (R367, R368): region, level, number, its eight counters, its POISON byte, and whether
it differs from HBM and is held under the key of a rekey in progress. -/
structure EncNode where
  region : Nat
  level : Nat
  j : Nat
  ctr : List Nat
  poison : Nat
  dirty : Bool
  newKey : Bool
  deriving DecidableEq, Repr

/-- Inline encryption beside its registers (chapter 16): key ID states (0 FREE, 1 IN_USE, 2 RETIRING), data and tree keys,
the next draw of the random-bit generator, root counters and POISON bits, the node cache, the old key ID of a rekey, the lines
poisoned in the frame and in the last one, the cause of a rekey that waits for a key ID, the regions whose key was erased since
they took it, the region of the tree pass that runs, and the tree passes cut short. -/
structure EncSt where
  ids : Sparse
  dataKey : Sparse
  treeKey : Sparse
  draws : Nat
  rootCtr : Sparse
  rootPoison : Sparse
  cache : List EncNode
  oldKey : Sparse
  poisonFrame : Sparse
  poisonLast : Sparse
  pendCause : Sparse
  erased : List Nat
  passRegion : Nat
  passCuts : Nat
  deriving DecidableEq, Repr

/-- The compare result of one channel in a cycle (R173): its fail bit, its state at C1, whether a strobe of it compared,
and the pattern-clock cycle in which it reaches fail capture. -/
structure ChanRes where
  ch : Nat
  fail : Bool
  st : Nat
  cmp : Bool
  clk : Int
  deriving DecidableEq, Repr

/-- A DUT cycle of a sequencer (R194, R238, R258): its number in the order queued, its number k and start T(k) once issued,
timing set, whether it is a hold cycle (R245), what its symbols come from (group symbols, DMODE, scrambled address, logical
address, scrambled data, stored record, data-in word), instruction address, repetition of a MATCH with its last beat, whether a
Jet has met it or its start has come, and the results so far. -/
structure Cyc where
  n : Nat
  k : Nat
  t : Nat
  ts : Nat
  hold : Bool
  gsym : Nat
  dmode : Nat
  addrS : Nat
  addrL : Nat
  ds : Nat
  record : List Nat
  fab : Option Nat
  addr : Nat
  mrep : Option Nat
  last : Bool
  started : Bool
  res : List ChanRes
  deriving DecidableEq, Repr

/-- What the sequencer will see of a cycle (R253, R254): the sites that failed, the masks it ran under. -/
structure CycSeen where
  n : Nat
  fails : Nat
  off : Nat
  mask : Nat
  mrep : Option Nat
  last : Bool
  deriving DecidableEq, Repr

/-- One entry of the loop stack (R251, R252). -/
structure LoopEnt where
  start : Nat
  left : Nat
  deriving DecidableEq, Repr

/-- The active REPLAY loop (R252): its depth on the loop stack, the records of its first pass, whether that pass is still
running, and the next record of a later pass. -/
structure Replay where
  depth : Nat
  records : List (List Nat)
  recording : Bool
  at_ : Nat
  deriving DecidableEq, Repr

/-- A page of the instruction memory (R259): its number, whether it is loaded, whether a PREF of it is pending, and its
bytes. -/
structure SeqPage where
  num : Nat
  ready : Bool
  pref : Bool
  bytes : List Byte
  deriving DecidableEq, Repr

/-- Why a pattern ends (SEQ_STAT.END and CAUSE), before its last cycle has ended. -/
structure SeqEnd where
  code : Nat
  cause : Nat
  deriving DecidableEq, Repr

/-- The site masks of the cycles numbered from `n` on (R244). -/
structure MaskFrom where
  n : Nat
  off : Nat
  mask : Nat
  deriving DecidableEq, Repr

/-- A marker on its way behind the results of the cycles numbered below `n`, the last of which has the count `last`: the close of a
repair domain by the DCLOSE at `pc` (R258, R278), or the pattern's end with its code, cause and cycles issued (R276). -/
structure Marker where
  n : Nat
  last : Nat
  pc : Nat
  domain : Nat
  fin : Option (Nat × Nat × Nat)
  deriving DecidableEq, Repr

/-- One sequencer beside its registers (chapter 11), with the markers behind its results and the count of the last cycle
whose results are complete. -/
structure SeqEng where
  q : Nat
  rep : Nat
  begun : Bool
  repRecs : Option (List (List Nat) × List Nat)
  calls : List Nat
  loops : List LoopEnt
  replay : Option Replay
  pages : List SeqPage
  demand : Option Nat
  prefWait : List Nat
  queue : List Cyc
  issued : List Cyc
  seen : List CycSeen
  enq : Nat
  nextK : Nat
  nextT : Nat
  lastData : Sparse
  vecAt : Nat
  vecBuf : List Nat
  ending : Option SeqEnd
  stopReq : Bool
  startTick : Nat
  t0Ps : Nat
  masks : List MaskFrom
  xw : Bool
  yw : Bool
  zw : Bool
  fticks : Nat
  pauseTicks : Nat
  pauseWarned : Bool
  sluWait : Option Nat
  sluTicks : Nat
  syncAt : Nat
  mfrom : Nat
  mreps : Nat
  mfail : Nat
  markers : List Marker
  doneK : Nat
  deriving DecidableEq, Repr

/-- The compare-tap entry still being filled (R135): its sequencer and pattern-clock cycle, the sites that failed, the first
cycle's count, the cycles covered, the cycles among them that failed, and whether a strobe compared. -/
structure TapOpen where
  q : Nat
  clk : Int
  sites : Nat
  first : Nat
  n : Nat
  fails : Nat
  cmp : Bool
  deriving DecidableEq, Repr

/-- The engine ports of the fabric (R135, R136): compare-tap FIFOs by sequencer, the tap entries dropped in the frame, the
entries still being filled, and the data-in words by sequencer: the FIFO's 512, then those that writes hold until there is
room. -/
structure PortSt where
  tap : List (Nat × List Nat)
  dropFrame : Sparse
  tapOpen : List TapOpen
  din : List (Nat × List Nat)
  deriving DecidableEq, Repr

/-- Fail capture beside its registers (chapter 12): the FIFOs by sequencer, each record four words; FIRST_FAIL sites that are
no longer armed; the number of the first cycle queued after the last START; records dropped in the frame; the map memory's
words; the records and spills of the frame's work that are left, those of them left over from the frame before, the sequencer whose
turn it is and the units since a spill (R283); windows that wait for
their spill and windows ready for analysis, oldest first; the frame count of each window's entry to CLOSED. -/
structure FailSt where
  fifo : List (Nat × List (List Nat))
  disarmed : Sparse
  startN : Sparse
  dropFrame : Sparse
  map : Sparse
  due : Sparse
  late : Sparse
  dueSpill : List Nat
  lateSpill : Bool
  turn : Nat
  units : Nat
  spillPend : List Nat
  ready : List Nat
  closedAt : Sparse
  deriving DecidableEq, Repr

/-- A spare of a repair (R298, R305): kind 0 row, 1 column, 2 segment; its row unit or block row, its column unit or block
column; taken by must-repair. -/
structure Spare where
  kind : Nat
  r : Nat
  c : Nat
  must : Bool
  deriving DecidableEq, Repr

/-- A search unit at work (R302 to R306): what it took from the window at acceptance, and after the list read the failing bits
counted, the outcome of the must-repair stage, the spares it took and the fail list (row unit × 2^16 + column unit). -/
structure RaUnit where
  u : Nat
  window : Nat
  domain : Nat
  seq : Nat
  site : Nat
  x0 : Nat
  y0 : Nat
  io : Nat
  closedAt : Nat
  maperr : Bool
  read : Bool
  count : Nat
  stuck : Bool
  must : List Spare
  fails : List Nat
  deriving DecidableEq, Repr

/-- A record in the record queue (R311 to R313): the LAST fields it sets and its blocks as 64-bit words. -/
structure RaRec where
  domain : Nat
  outcome : Nat
  np : Bool
  maperr : Bool
  cost : Nat
  words : List Nat
  deriving DecidableEq, Repr

/-- Redundancy analysis beside its registers (chapter 13): units at work, the record queue, whether the present filling of the ring
has been told; by domain the window + 1 that QUEUED it, + 256 once that window has left CLOSED unanalysed (R301); and the number of
analyses cut short. -/
structure RaSt where
  units : List RaUnit
  queue : List RaRec
  fullTold : Bool
  queuedBy : Sparse
  cuts : Nat
  deriving DecidableEq, Repr

/-- An active LOOP of a signal core (R330): first and last address of its body, and the passes left. -/
structure ScLoop where
  start : Nat
  fin : Nat
  count : Nat
  deriving DecidableEq, Repr

/-- One register set of a signal core: D, A, P, B, L and M by number, the flags, the return address, the loop stack with its
innermost loop first, and the loads that land after the next instruction (R328). -/
structure ScSet where
  d : Sparse
  a : Sparse
  p : Sparse
  b : Sparse
  l : Sparse
  m : Sparse
  z : Bool
  n : Bool
  v : Bool
  e : Bool
  lr : Nat
  loops : List ScLoop
  late : List (Nat × Nat)
  deriving DecidableEq, Repr

/-- A control transfer whose delay slots are not all executed (R329): the slots left, where it goes (none: not taken), and
whether it ends an interrupt. -/
structure ScDelay where
  left : Nat
  target : Option Nat
  rti : Bool
  deriving DecidableEq, Repr

/-- One logical signal core beside its registers (chapter 14): both register sets, IPC, FIFOs by channel, the bits of the last
popped sample, a transfer in its delay slots, whether an RTI has just ended, what a wait is for (0 to 15 a FIFO, 16 an
interrupt, 17 room in the ring), entries not yet written to the ring with the filling told and a line due, a HALT that waits
for its boundary, and whether no run has started since a reset. -/
structure ScCore where
  c : Nat
  prim : ScSet
  shad : ScSet
  ipc : Nat
  fifos : List (Nat × List ScSample)
  clamped : Bool
  isOver : Bool
  delay : Option ScDelay
  afterRti : Bool
  waitFor : Option Nat
  ring : List Nat
  ringTold : Bool
  lineDue : Bool
  haltReq : Bool
  unrun : Bool
  deriving DecidableEq, Repr

/-- One memory of a logical core (R323), by 3 × c + 0 program, 1 X, 2 Y: the raise that left its unlisted words undefined (none:
they are zero), the words written, and those stored with a double-bit error. -/
structure ScMemory where
  key : Nat
  base : Option Nat
  words : Sparse
  bad : List Nat
  deriving DecidableEq, Repr

/-- The signal cores beside their registers (chapter 14): cores, memories, raises so far, and samples dropped by channel in
this frame and the last. -/
structure ScSt where
  cores : List ScCore
  mems : List ScMemory
  raises : Nat
  dropFrame : Sparse
  dropLast : Sparse
  deriving DecidableEq, Repr

/-- Where a NoC request stands: on its way to a register or scratchpad target, in the HBM controller's queue, at a fabric
target port, or answered by its target. -/
inductive NocPhase where
  | sent | hbm | port | done
  deriving DecidableEq, Repr

/-- A request that holds an entry of its initiator's response buffer (R386): its agent, target port, the domain it is addressed
to, issue number, contents and phase; whether a link error discarded or poisoned it, whether its agent has had its TIMEOUT or
was reset; and the target's answer. -/
structure NocReq where
  id : Nat
  agent : Agent
  target : Nat
  dom : Option Nat
  seq : Nat
  pkt : Packet
  phase : NocPhase
  lost : Bool
  poison : Bool
  gone : Bool
  status : Status
  value : Nat
  bytes : List Byte
  deriving DecidableEq, Repr

/-- A requester of an arbiter that waits or has progress (R393 to R395): its number, the initiator number its progress count
carries (R16; none for a port that several agents share), the beats of its transaction and those done, the burst it kept, and
whether it waits. -/
structure ArbReq where
  i : Nat
  init : Option Nat
  beats : Nat
  progress : Nat
  keep : Option Nat
  waits : Bool
  deriving DecidableEq, Repr

/-- One arbiter beside its registers: its requesters, those waiting in the order in which they began to wait, the cycles of the
present grant, and the requester last granted. -/
structure Arbiter where
  a : Nat
  reqs : List ArbReq
  burst : Nat
  last : Nat
  deriving DecidableEq, Repr

/-- The NoC and the arbiters beside their registers (chapter 17): requests, ingress entries reserved and next issue number by
initiator × 256 + target, counts of the frame by initiator, and the arbiters. -/
structure NocSt where
  reqs : List NocReq
  nextId : Nat
  resv : Sparse
  seqs : Sparse
  cntReqs : Sparse
  cntFlits : Sparse
  cntRetry : Sparse
  cntTmo : Sparse
  latSum : Sparse
  latMax : Sparse
  latN : Sparse
  arbs : List Arbiter
  deriving DecidableEq, Repr

/-- The registers of an arithmetic slice (R129, R130): its inputs, its product, its accumulator and its cascade output. -/
structure SliceSt where
  a : Nat
  b : Nat
  product : Nat
  acc : Nat
  cascade : Nat
  deriving DecidableEq, Repr

/-- The fabric beside its registers (chapters 06 and 07): the mode of each configured block memory by 2,048 × area + memory;
its words by 32,768 × that + word, with the 72-bit mask of the wrong bits of a mode-8 word; corrected words that wait for
their write-back; the scrubber's next place and its attempts there by area; corrected errors of the frame and of the last one,
double-bit errors since reset, and tap entries dropped in the last frame; areas with an access open at the target port that no
NoC request carries; configuration memory by 4,096 × frame + byte, its DYNAMIC frames, and its words (512 × frame + word)
with a double-bit error; areas whose flip-flops hold their initial values, areas with a FAB clock (4 × area + clock) whose
flip-flops a forced switch has reset, and how often each area's logic has run since (R79, R120); regions whose FAB gates the
loader has closed (R131, R149); the frame count that each area last received, plus 1 (R132); by 128 × region + port the
ISO_HOLD choice in force, and by region the number of its last engagement (R152); the skipped bit column, plus 1, of each block
memory whose fuse Leap has set, those that wait for the area's next load, and by memory the draw, plus 1, that stands for
words the fuse change left undefined (R127). -/
structure FabSt where
  modes : Sparse
  words : Sparse
  errs : Sparse
  due : List (Nat × Nat)
  scrubAt : Sparse
  tries : Sparse
  corrFrame : Sparse
  corrLast : Sparse
  uncorrTotal : Sparse
  tapLast : Sparse
  asked : List Nat
  cfg : Memory
  dyn : List Nat
  bad : List Nat
  flopFresh : List Nat
  flopForced : List Nat
  logicRuns : Sparse
  gates : List Nat
  frames : Sparse
  isoChoice : Sparse
  isoDraw : Sparse
  skips : Sparse
  skipsDue : Sparse
  raw : Sparse
  deriving DecidableEq, Repr

/-- A request of the loader's queue (R146): operation 0 STAGE, 1 LOAD, 2 INVALIDATE, the part's own 3 REPAIR of an area (R157;
`slot` is the frame + 1, or 0 for every frame), 4 load of an area from the full image (R21, R110) and 5 LOAD for a region in HELD
(R157); who asked. -/
structure LdrReq where
  op : Nat
  slot : Nat
  region : Nat
  init : Nat
  deriving DecidableEq, Repr

/-- Where the loader's request stands: staging, waiting for its grant, waiting for accepted requests, waiting for the region's FAB
gates to acknowledge, writing records. -/
inductive LdrPhase where
  | staging | granting | draining | gating | writing
  deriving DecidableEq, Repr

/-- The request in progress: the area it loads or repairs, its phase, and the records written. -/
structure LdrJob where
  req : LdrReq
  region : Nat
  phase : LdrPhase
  done_ : Nat
  deriving DecidableEq, Repr

/-- An on-demand pass of Rill (R158): frame addresses passed, and frames checked, corrected and uncorrectable. -/
structure RillPass where
  seen : Nat
  checked : Nat
  corr : Nat
  uncorr : Nat
  deriving DecidableEq, Repr

/-- The loader and Rill beside their registers (chapter 07): queue, request in progress, HELD regions whose accepted requests
are still being answered, frames due in this tick, the pass, corrected words of the frame and the last, uncorrectable frames
since reset, and the DIGEST of the image each area was loaded from. -/
structure LdrSt where
  queue : List LdrReq
  job : Option LdrJob
  holding : List Nat
  rillDue : Nat
  pass : Option RillPass
  corrFrame : Nat
  corrLast : Nat
  uncorrTotal : Nat
  digest : Sparse
  deriving DecidableEq, Repr

/-- The control cluster beside its registers (chapter 19): scratchpad words by 65,536 × bank + word as value + 1, the raise that
left a bank's other words undefined (+ 1; none: they are zero), words with a double-bit error, raises so far; handovers that
wait, as bank, old owner and the issue number that bounds its accepted accesses; banks under a march and whether it preserves them; the
bank, first word and word count of the secure pass at work; whether banks 14 and 15 are being wiped, and the cause; corrected errors of the frame and the last; lock faults that wait (core, lock); cores with a
frame-tick interrupt pending; the cause and value of each core's last interrupt or exception; the CRC units' registers, and
the units whose fold value is due. -/
structure ClusterSt where
  words : Sparse
  base : Sparse
  bad : List Nat
  raises : Nat
  handover : List (Nat × Nat × Nat)
  march : List Nat
  keep : Bool
  pass : Nat × Nat × Nat
  wiping : Option Nat
  corrFrame : Nat
  corrLast : Nat
  lockFaults : List (Nat × Nat)
  tickIrq : List Nat
  mcause : Sparse
  mtval : Sparse
  crc : Sparse
  foldDue : List Nat
  deriving DecidableEq, Repr

/-- A flit that a transmitter sends: type, LAST and payload (R408). -/
structure OutFlit where
  type : FlitType
  last : Bool
  payload : List Byte
  deriving DecidableEq, Repr

/-- One link beside its registers (R408 to R413, R420, R421): whether it waits the 1 ms before DETECT; sequenced flits not yet
sent; those sent and not acknowledged, oldest first, with the number of the first; how many of them were sent since the last
NAK; replays of the oldest in succession; the number expected next; what is owed to the partner (ACK, NAK, credits, a LINKCTL
flit); credits held; PAYLOAD flits received and not yet routed; CRC failures of the frame by lane; the departure and COUNT of
the TIME flit that waits for its ECHO; the last 16 values of 2d with the lane they were taken on; and the flit last sent with
its ACKSEQ, NAK and credits. -/
structure LinkEng where
  q : Nat
  backoff : Bool
  txq : List OutFlit
  sent : List OutFlit
  first : Nat
  again : Nat
  replays : Nat
  expect : Nat
  ackDue : Bool
  nakDue : Bool
  freed : Nat
  ctlDue : Option Nat
  credits : Nat
  rx : List OutFlit
  laneErr : Sparse
  timeSent : Option (Nat × Nat)
  delays : List Int
  delayLane : Nat
  wire : Option (OutFlit × Nat × Bool × Nat)
  deriving DecidableEq, Repr

/-- A message of the Cascade send queue (R417): tag, destination, flits, HBM address. -/
structure CasMsg where
  tag : Nat
  dest : Nat
  len : Nat
  addr : Nat
  deriving DecidableEq, Repr

/-- What the last TIME flit says of the next tick (R422): its count and period, and its place T in q. -/
structure CasNext where
  count : Nat
  period : Nat
  t : Int
  deriving DecidableEq, Repr

/-- Lanes and Cascade beside their registers (chapter 18): links, the send queue, messages dropped in the frame, the next tick
from upstream, whether the last TIME flit came in time with DELAY_OK and whether one came since the last tick, the phase of
the pattern clock against whole cycles in q, aligned ticks in succession, and by lane the flit boundary and the taps in
training (PRE × 2^16 + MAIN × 2^8 + POST). -/
structure CascSt where
  links : List LinkEng
  queue : List CasMsg
  dropFrame : Nat
  next : Option CasNext
  lastOk : Bool
  fresh : Bool
  phase : Int
  okTicks : Nat
  slip : Sparse
  taps : Sparse
  deriving DecidableEq, Repr

/-- An Almanac operation in progress (R466 to R476): kind 0 EDITION, 1 LEDGER, 2 LIFECYCLE; the role and signer it acts for
and the object it was written through (0: none) with its session; the staged bytes; the target state; whether its grant has
been issued; the EDITION entry formed then; and whether the request that asked for it has been answered already. -/
structure AlmOp where
  kind : Nat
  role : Nat
  signer : Nat
  obj : Nat
  sess : Option Nat
  data : List Byte
  target : Nat
  begun : Bool
  formed : List Byte
  cut : Bool
  deriving DecidableEq, Repr

/-- The security block beside its registers (chapter 20): the one-time memories (editions, ledger, with the places used and
those whose programming failed; the lifecycle word; tamper bits; whether the device secret is overwritten); RMA consent;
challenges with their age in ns, signers, last sign-in causes and last statuses by session (8 the debug port's); refusals, lock
length and locks by role; the operation in progress; the nonce of an attestation in progress with its session; the last
report; object selections; and the RESTART entry that is due (0 COLD, 1 WARM). -/
structure SecSt where
  editions : Memory
  used : Nat
  badEd : List Nat
  ledger : Memory
  ledgerUsed : Nat
  badRec : List Nat
  lc : Nat
  tamperBits : Nat
  secretGone : Bool
  consent : Bool
  chal : Sparse
  chalAge : Sparse
  signer : Sparse
  cause : Sparse
  status : Sparse
  fails : Sparse
  lockLen : Sparse
  locked : List Nat
  alm : Option AlmOp
  att : Option (List Byte × Bool × Option Nat)
  report : List Byte
  editionSel : Nat
  auditSel : Nat
  restart : Option Nat
  deriving DecidableEq, Repr

/-- Boot and reset beside their registers (chapter 05): the source of a WARM reset that waits; the preferred maker firmware slot of
the boot record; where step 5 stands (0 not begun, 1 the primary image from flash loads, 2 the golden one, 3 neither runs, 4 the
primary image from the HBM image cache); which full image the staging area holds (0 none, 1 primary, 2 golden); and what runs, by the
value of its DIGEST and its security version: maker firmware, installer firmware, full image. -/
structure BootSt where
  warmDue : Option Nat
  pref : Nat
  loading : Nat
  staged : Nat
  fwDigest : Nat
  fwSvn : Nat
  ifwDigest : Nat
  fullDigest : Nat
  fullSvn : Nat
  deriving DecidableEq, Repr

/-- Debug beside its registers (chapter 22): the TAP's instruction and boundary cells, the DAP data register, the debug sign-in
that runs (its operation and the bytes it checks), how many times each control core's registers were left by its firmware,
the CSRs written while halted (value + 1, by 2^32 × core + number), and the trace packets lost in the frame. -/
structure DbgSt where
  ir : Nat
  cells : List Bool
  dapDone : Bool
  dapStatus : Nat
  dapW64 : Bool
  dapOp : Nat
  dapData : Nat
  dapAddr : Nat
  auth : Option (Nat × List Byte)
  runs : Sparse
  csr : Sparse
  lostFrame : Nat
  deriving DecidableEq, Repr

/-- An SDO request accepted and not yet answered (R492): mailbox address, request, and whether the flash copies it may write verify. -/
structure SdoReq where
  addr : Nat
  req : Sdo
  flashOk : Bool
  deriving DecidableEq, Repr

/-- An FoE transfer that waits to be served (R504): mailbox address, name, password, the data of a write, and whether the flash slot
it writes verifies. -/
structure FoeReq where
  addr : Nat
  file : FoeFile
  password : Nat
  data : Option (List Byte)
  flashOk : Bool
  deriving DecidableEq, Repr

/-- The field interface beside its registers (chapter 21): values of objects that no register holds, by 256 × index + sub-index (an
unlisted one has its default); the flash-saved values; the mapping role; the newest SM2 image not yet taken, and whether SM2 was
written since SAFE-OP was entered; the image being applied with its next entry; the values last applied, plus 1, by entry; the SM3
image; SDO requests and FoE transfers not yet answered; a state request that waits for ready; and by session the status and ticket of its last Sluice
request. -/
structure FieldSt where
  objs : Sparse
  saved : List (Nat × List Byte)
  mapRole : Nat
  sm2 : Option (List Byte)
  sm2Seen : Bool
  rx : Option (List Byte × Nat)
  rxTaken : Bool
  rxLast : Sparse
  tx : List Byte
  sdo : List SdoReq
  foe : List FoeReq
  alPend : Option (Nat × Bool × Bool)
  sluStat : Sparse
  sluTicket : Sparse
  deriving DecidableEq, Repr

/-- A candidate for Leap (R540): TYPE, REASON, the 8 TARGET bytes and the frame count. -/
structure Candidate where
  type : Nat
  reason : Nat
  target : List Byte
  frame : Nat
  deriving DecidableEq, Repr

/-- A sign of wear that firmware watches for (R540): its REASON, the element (REASON 3 an area, 4 an area × 2,048 + memory, 6 a bank ×
32,768 + row, 7 a physical core) and the frame. -/
structure HealthSign where
  reason : Nat
  key : Nat
  frame : Nat
  deriving DecidableEq, Repr

/-- Leap (chapter 23): LEAP_STAT's fields; the request's TYPE, TARGET and role with its signer; the place within a step and the
frames a refused request has waited; ledger places used when the append began (none: not begun), and whether a tamper indication
cut it; the candidates, oldest first, with their read selection; scratchpad banks whose fuse takes effect at their next raise; and the
signs of wear within HEALTH_WINDOW. -/
structure LeapSt where
  state : Nat
  cause : Nat
  record : Nat
  detail : Nat
  type : Nat
  target : List Byte
  role : Nat
  signer : Nat
  sub : Nat
  tries : Nat
  began : Option Nat
  tampered : Bool
  held : List Candidate
  select : Nat
  spDue : List Nat
  signs : List HealthSign
  deriving DecidableEq, Repr

/-- The whole part. -/
structure State where
  regs : Sparse
  resp : Resp
  bootMs : Nat
  events : EventSt
  trace : TraceSt
  power : PowerSt
  profile : ProfileSt
  clock : ClockSt
  pins : PinSt
  jets : JetSt
  edge : EdgeSt
  weir : WeirSt
  hbm : HbmSt
  enc : EncSt
  seqs : List SeqEng
  ports : PortSt
  fail : FailSt
  ra : RaSt
  sc : ScSt
  noc : NocSt
  fab : FabSt
  ldr : LdrSt
  flash : Memory
  cluster : ClusterSt
  casc : CascSt
  sec : SecSt
  boot : BootSt
  dbg : DbgSt
  leap : LeapSt
  field : FieldSt
  pending : List Instr
  deriving DecidableEq, Repr

/-- The part right after a COLD reset, with boot step 1 begun (R110): every register at its reset value but BOOT_STAT.STAGE, stores
empty, one-time memories unprogrammed. What the spec gives no value is in notes/assumptions/8.md. -/
def State.reset : State where
  regs := spSetD 0 (64 * 0x3000000810 + 4) 1 []
  resp := ⟨.done, 0, []⟩
  bootMs := 0
  events := ⟨[], 0, 0, [], []⟩
  trace := ⟨[], [], [], 0, 0, [], false⟩
  power := ⟨.on, [], [], [], [], [], [], [], [], [], [], [], [], [], [], [], 0⟩
  profile := ⟨0, none, false, none, []⟩
  clock := ⟨[], [], [], [], [], 0, 0, 100000000, 0, [], none, [], 0, [], false, 0⟩
  pins := ⟨false, false, false⟩
  jets := ⟨[], [], [], [], [], [], [], [], [], []⟩
  edge := ⟨[], [], [], .done, 0⟩
  weir := ⟨[], [], [], none, [], [], none, false, ([], [])⟩
  hbm := ⟨[], [], [], [], 0, [], [], [], [], [], [], 0, 0, [], 0, [], none, 0, 0, 0, 0, .done, 0, 0⟩
  enc := ⟨[], [], [], 0, [], [], [], [], [], [], [], [], 0, 0⟩
  seqs := []
  ports := ⟨[], [], [], []⟩
  fail := ⟨[], [], [], [], [], [], [], [], false, 0, 0, [], [], []⟩
  ra := ⟨[], [], false, [], 0⟩
  sc := ⟨[], [], 0, [], []⟩
  noc := ⟨[], 0, [], [], [], [], [], [], [], [], [], []⟩
  fab := ⟨[], [], [], [], [], [], [], [], [], [], [], [], [], [], [], [], [], [], [], [], [], [], [], []⟩
  ldr := ⟨[], none, [], 0, none, 0, 0, 0, []⟩
  flash := []
  cluster := ⟨[], (List.range 16).map (fun n => (n, n + 1)), [], 16, [], [], false, (0, 0, 0), none, 0, 0, [], [], [], [], [], []⟩
  casc := ⟨[], [], 0, none, false, false, 0, 0, [], []⟩
  sec := ⟨[], 0, [], [], 0, [], 0, 0, false, false, [], [], [], [], [], [], [], [], none, none, [], 0, 0, some 0⟩
  boot := ⟨none, 0, 0, 0, 0, 0, 0, 0, 0⟩
  dbg := ⟨1, [], true, 0, false, 0, 0, 0, none, [], [], 0⟩
  leap := ⟨0, 0, 255, 0, 0, List.replicate 8 0, 0, 0, 0, 0, none, false, [], 0, [], []⟩
  field := ⟨[], [], 0, none, false, none, false, [], [], [], [], none, [], []⟩
  pending := []

end Sys2Proof.Machine
end

