-- ==== Sys2Proof/Machine/Ops.lean ====
section
/-! DEFINITION. The named operations every family uses: registers, answers, events, bytes. -/
namespace Sys2Proof

/-- The code of a status (R11). -/
def Status.code : Status → Nat
  | .done => 0 | .fault => 1 | .asleep => 2 | .poison => 3 | .denied => 4 | .range => 5 | .retry => 6 | .timeout => 7

/-- The code of a role as registers show it: 0 none, 1 operator, 2 installer, 3 maker. -/
def Role.code : Role → Nat
  | .none => 0 | .operator => 1 | .installer => 2 | .maker => 3

/-- The agent is the field interface acting for an installer or maker (R56, R101 and their like). -/
def Agent.fieldIM (a : Agent) : Bool := a.init.val == 49 && (a.role == .installer || a.role == .maker)

end Sys2Proof

namespace Sys2Proof.Machine

/-- The outcome of a command. -/
abbrev Out := Host.Outcome State Fault Refusal

/-! ### Registers -/

/-- The value of a register field. -/
def State.get (s : State) (f : Fld) : Nat := regGet f s.regs

/-- A register field written, cut to its width. -/
def State.set (s : State) (f : Fld) (v : Nat) : State := { s with regs := regSet f v s.regs }

/-- A one-bit field read as a truth value. -/
def State.on (s : State) (f : Fld) : Bool := s.get f != 0

/-- A register field written when a condition holds. -/
def State.setIf (s : State) (c : Bool) (f : Fld) (v : Nat) : State := if c then s.set f v else s

/-- A counter field raised by `n`, saturating at its width (the counters of R7 code RC). -/
def State.count (s : State) (f : Fld) (n : Nat) : State := s.set f (min (s.get f + n) (2 ^ f.width - 1))

/-- A field set back to its reset value. -/
def State.clearFld (s : State) (f : Fld) : State := s.set f f.reset

/-- Every register of the byte addresses from `lo` up to but not including `hi` set back to its reset value. -/
def State.resetRegs (s : State) (lo hi : Nat) : State := { s with regs := spClear (64 * lo) (64 * hi) s.regs }

/-- Apply an operation for every index below `n`, in rising order. -/
def forNat (n : Nat) (f : Nat → State → State) (s : State) : State := (List.range n).foldl (fun t i => f i t) s

/-- Apply an operation for every element of a list, in order. -/
def forEach {α : Type} (l : List α) (f : α → State → State) (s : State) : State := l.foldl (fun t x => f x t) s

/-! ### Bits and bytes -/

/-- Bits `[lo + w - 1 : lo]` of a value. -/
def bits (v lo w : Nat) : Nat := v / 2 ^ lo % 2 ^ w

/-- Bit `i` of a value. -/
def bit (v i : Nat) : Bool := v / 2 ^ i % 2 == 1

/-- A value with bit `i` set or cleared. -/
def putBit (v i : Nat) (b : Bool) : Nat :=
  if bit v i then (if b then v else v - 2 ^ i) else (if b then v + 2 ^ i else v)

/-- A value with bits `[lo + w - 1 : lo]` replaced. -/
def putBits (v lo w x : Nat) : Nat := v - bits v lo w * 2 ^ lo + x % 2 ^ w * 2 ^ lo

/-- The number of bits set among the low `n`. -/
def popCount (n v : Nat) : Nat := ((List.range n).filter (fun i => bit v i)).length

/-- A `w`-bit value read as two's complement. -/
def sext (w v : Nat) : Int := if v < 2 ^ (w - 1) then (v : Int) else (v : Int) - (2 ^ w : Nat)

/-- A whole number as a `w`-bit two's complement value. -/
def wrap (w : Nat) (x : Int) : Nat := (x % (2 ^ w : Nat)).toNat

/-- A whole number saturated to `w` bits of two's complement. -/
def satInt (w : Nat) (x : Int) : Int :=
  if x > (2 ^ (w - 1) : Nat) - 1 then (2 ^ (w - 1) : Nat) - 1 else if x < -(2 ^ (w - 1) : Nat) then -(2 ^ (w - 1) : Nat) else x

/-- Division rounded up. -/
def ceilDiv (a b : Nat) : Nat := (a + b - 1) / b

/-- `n` bytes, least significant first, of a value. -/
def toBytes (n v : Nat) : List Byte := (List.range n).map (fun i => BitVec.ofNat 8 (v / 256 ^ i))

/-- The value of bytes, least significant first. -/
def ofBytes : List Byte → Nat
  | [] => 0
  | b :: r => b.toNat + 256 * ofBytes r

/-- Bytes `[at, at + n)` of a list. -/
def slice {α : Type} (at_ n : Nat) (l : List α) : List α := (l.drop at_).take n

/-- The bytes of an ASCII text. -/
def ascii (t : String) : List Byte := t.toList.map (fun c => BitVec.ofNat 8 c.toNat)

/-- The list kept for a key; an unlisted key has the empty one. -/
def keyed {α : Type} (k : Nat) (l : List (Nat × List α)) : List α := ((l.find? (fun p => p.1 == k)).map (·.2)).getD []

/-- The list kept for a key replaced, the keys in rising order; an empty list is not kept. -/
def putKeyed {α : Type} (k : Nat) (x : List α) : List (Nat × List α) → List (Nat × List α)
  | [] => if x.isEmpty then [] else [(k, x)]
  | p :: r =>
    if k < p.1 then (if x.isEmpty then p :: r else (k, x) :: p :: r)
    else if k = p.1 then (if x.isEmpty then r else (k, x) :: r)
    else p :: putKeyed k x r

/-! ### Answers -/

/-- Answer with a status and no data. -/
def answer (st : Status) (s : State) : State := { s with resp := ⟨st, 0, []⟩ }

/-- Answer DONE with the value read. -/
def answerVal (v : Nat) (s : State) : State := { s with resp := ⟨.done, v, []⟩ }

/-- Answer DONE with the bytes read. -/
def answerBytes (b : List Byte) (s : State) : State := { s with resp := ⟨.done, 0, b⟩ }

/-- Answer with a status, the state otherwise as it was given. -/
def answered (r : Status × State) : State := answer r.1 r.2

/-- The next state. -/
def ok (s : State) : Out := .next s

/-- The next state where an event's enabling condition holds, else the state unchanged (notes/assumptions/2.md). -/
def whenOk (c : Bool) (s t : State) : Out := .next (if c then t else s)

/-! ### Events -/

/-- The entry of the active slot table that rules a slot (R89). -/
def slotEntry (k : Nat) (s : State) : Nat :=
  s.get (if k % 4 = 0 then SLOT_ACT_SLOT0 (k / 4) else if k % 4 = 1 then SLOT_ACT_SLOT1 (k / 4)
    else if k % 4 = 2 then SLOT_ACT_SLOT2 (k / 4) else SLOT_ACT_SLOT3 (k / 4))

/-- When slot k of a frame of a period starts, ns after its tick (R89). -/
def slotStart (k period : Nat) : Nat := k * period / 64

/-- A unit of duty d may start in a slot: the slot is not past in this frame, and its entry lets the duty work (R89). -/
def dutyMay (d slot : Nat) (s : State) : Bool := decide (s.clock.slot ≤ slot) && bit (slotEntry slot s) d

/-- The slot in which work of duty d starts next: the first that lets it and passes a test of the duty's own (R89; DESIGN CHOICE,
notes/assumptions/18.md). -/
def dutySlot (d : Nat) (p : Nat → Bool) (s : State) : Option Nat := (List.range 64).find? (fun k => dutyMay d k s && p k)

/-- Work of duty d: it runs where a slot is left in the frame that lets it start, and the frame has then come as far as that slot (R89). -/
def inDuty (d : Nat) (p : Nat → Bool) (s : State) (f : State → Out) : Out :=
  match dutySlot d p s with
  | some k => f { s with clock := { s.clock with slot := k } }
  | none => .next s

/-- Any slot of the duty will do. -/
def anySlot (_ : Nat) : Bool := true

/-- The 48-bit frame count (R84). -/
def frameCount (s : State) : Nat := s.get FRM_COUNT_COUNT

/-- The items of an event that fit the 16 data bytes of a record, in order (R510). -/
def fitItems (room : Nat) : List EvItem → List EvItem
  | [] => []
  | x :: r => if x.bytes ≤ room then x :: fitItems (room - x.bytes) r else []

/-- The event's subsystem is traced: EN is set and the bit of its subsystem code is set in EVT (R529, R530). -/
def traced (code : Nat) (s : State) : Bool :=
  s.on DBG_TRC_CTL_EN && bit (s.get DBG_TRC_CTL_EVT) (code / 256 - 1)

/-- Put a record at the end of the ring of 1,024; a full ring loses its oldest record (R510). -/
def ringPush (r : EvRec) (e : EventSt) : EventSt :=
  if e.ring.length < 1024 then { e with ring := e.ring ++ [r], seq := (e.seq + 1) % 2 ^ 32 }
  else { e with ring := e.ring.drop 1 ++ [r], seq := (e.seq + 1) % 2 ^ 32, overwritten := e.overwritten + 1 }

/-- Raise an event (R5, R510). Before ready it is held with the elapsed time (R113). A traced event also gives a trace
packet (R530). -/
def raise (code : Nat) (items : List EvItem) (s : State) : State :=
  let fit := fitItems 16 items
  let trunc := decide (fit.length < items.length)
  let s := if traced code s then { s with trace := { s.trace with due := s.trace.due ++ [.event code (frameCount s)] } } else s
  if s.on BOOT_STAT_READY then
    { s with events := ringPush ⟨s.events.seq, code, false, trunc, frameCount s, fit⟩ s.events }
  else
    { s with events := { s.events with held := s.events.held ++ [⟨0, code, true, trunc, s.bootMs, fit⟩] } }

/-- Raise an event that the spec allows at most once per frame for `who`. -/
def raiseOnce (code who : Nat) (items : List EvItem) (s : State) : State :=
  if (code * 65536 + who) ∈ s.events.once then s
  else raise code items { s with events := { s.events with once := s.events.once ++ [code * 65536 + who] } }

/-- The frame count as an event item. -/
def frameItem (s : State) : EvItem := ⟨6, frameCount s⟩

/-- A sign of wear of an element is noted (R540). -/
def noteSign (reason key : Nat) (s : State) : State :=
  { s with leap := { s.leap with signs := s.leap.signs ++ [⟨reason, key, frameCount s⟩] } }

/-! ### Domain states -/

/-! PWR_DOM_STAT.STATE and PWR_DOM_CTL.TARGET codes. -/
def dsOff : Nat := 0
def dsRaising : Nat := 1
def dsOn : Nat := 2
def dsLowering : Nat := 3
def dsRetain : Nat := 4
def tgtOff : Nat := 0
def tgtOn : Nat := 1
def tgtRetain : Nat := 2

/-- The state of a power domain: 0 OFF, 1 RAISING, 2 ON, 3 LOWERING, 4 RETAIN. -/
def domState (n : Nat) (s : State) : Nat := s.get (PWR_DOM_STAT_STATE n)

/-- The domain is ON. -/
def domOn (n : Nat) (s : State) : Bool := domState n s == 2

/-- The clock gate of a domain takes no new transaction: it is closed, or asks to close (R81). -/
def gateShut (n : Nat) (s : State) : Bool :=
  s.on (CLK_GATE_CLOSED n) || (s.on (CLK_GATE_PEND n) && s.on (CLK_GATE_CLOSE n))

/-- The logic of a domain runs: it is ON, its clock gate is not closed (R81) and no DOMAIN reset holds it (R102). -/
def domRuns (n : Nat) (s : State) : Bool := domOn n s && !s.on (CLK_GATE_CLOSED n) && !decide (n ∈ s.power.resetHold)

/-- What a request addressed to a domain is answered at its ingress: ASLEEP unless the domain is ON (R52), RETRY during
a DOMAIN reset (R102), else nothing. At a clock gate that takes no new transaction (R81) a request is never accepted, and its
agent has TIMEOUT (DESIGN CHOICE, notes/assumptions/17.md: the spec gives that answer no status). -/
def domRefuses (n : Nat) (s : State) : Option Status :=
  if !domOn n s then some .asleep
  else if n ∈ s.power.resetWait ∨ n ∈ s.power.resetHold then some .retry
  else if gateShut n s then some .timeout
  else none

/-- The bank domain of a logical channel (chapter 08). -/
def bankDom (ch : Nat) : Nat := 16 + ch / 16

/-- The sequencer-group domain of a sequencer (R192). -/
def seqDom (q : Nat) : Nat := 66 + q / 4

/-- The µs and the ns that have passed since the tick before the last. -/
def frameUs (s : State) : Nat := s.clock.tickPs / 1000000 - s.clock.lastPs / 1000000
def frameNs (s : State) : Nat := s.clock.tickPs / 1000 - s.clock.lastPs / 1000

end Sys2Proof.Machine
end

