-- ==== Sys2Proof/Machine/Route.lean ====
section
/-! DEFINITION. The routers and routes of the network on chip, and how an agent's traffic reaches its target (chapter 17). -/
namespace Sys2Proof.Machine

/-! ### Routers, targets and routes (R381, R384) -/

/-- The router an initiator is attached to. -/
def agentRouter (i : Nat) : Nat :=
  if i < 2 then 6 else if i < 4 then 7 else if i < 20 then 29 else if i < 36 then i - 8 else if i = 36 then 28
  else if i < 45 then 31 else if i < 47 then 30 else if i < 49 then 10 else if i < 51 then 0 else if i = 51 then 5 else 11

/-- Target ports by number: 0 to 3 HBM ingress, 8 + n scratchpad bank n, 32 + n fabric area n, 64 + code register window. -/
def targetOf (addr : Nat) : Option Nat :=
  if addr < 0x400000000 then some (Config.hbmIngress addr % 4)
  else if addr < 0x1000000000 then none
  else if addr < 0x1001800000 then some (8 + (addr - 0x1000000000) % 0x800000 / 0x80000)
  else if addr < 0x2000000000 then none
  else if addr < 0x2440000000 then some (32 + (addr - 0x2000000000) / 0x40000000)
  else if addr < 0x3000000000 then none
  else if addr < 0x3013000000 then some (65 + (addr - 0x3000000000) / 0x1000000)
  else none

/-- The router of a register window. -/
def windowRouter (code : Nat) : Nat :=
  if code = 1 ∨ code = 0x12 ∨ code = 0x13 then 0
  else if code = 0x0F then 5
  else if code = 0x10 ∨ code = 0x11 then 6
  else if code ≤ 4 then 10
  else if code ≤ 7 then 11
  else if code = 8 then 29
  else if code ≤ 0x0A then 30
  else if code = 0x0B then 31
  else if code ≤ 0x0D then 32 else 33

/-- The router of a target port. -/
def targetRouter (t : Nat) : Nat :=
  if t < 4 then t + 1 else if t < 16 then 8 else if t < 24 then 9 else if t < 48 then t - 20 else if t = 48 then 28
  else windowRouter (t - 64)

/-- Entries of a target port's ingress queue (R386). -/
def ingressDepth (t : Nat) : Nat := if t < 4 then 256 else if t < 24 then 32 else 64

/-- Router states: 0 ACTIVE, 1 DRAINING, 2 MAINTENANCE. -/
def routerState (k : Nat) (s : State) : Nat := s.get (NOC_RTR_STAT_STATE k)

/-- The router at the other end of a link: 0 north, 1 east, 2 south, 3 west. -/
def routerNext (k d : Nat) : Nat := if d = 0 then k + 6 else if d = 1 then k + 1 else if d = 2 then k - 6 else k - 1

/-- The link of router k in a direction is disabled at either end. -/
def linkCut (k d : Nat) (s : State) : Bool :=
  bit (s.get (NOC_RTR_CTL_LINK_DIS k)) d || bit (s.get (NOC_RTR_CTL_LINK_DIS (routerNext k d))) ((d + 2) % 4)

/-- The legal outputs of R384 toward a destination: west alone where it lies west, else those that bring it nearer. -/
def legalOutputs (k dst : Nat) : List Nat :=
  if dst % 6 < k % 6 then [3]
  else (if dst % 6 > k % 6 then [1] else []) ++ (if dst / 6 > k / 6 then [0] else if dst / 6 < k / 6 then [2] else [])

/-- The output that router k takes toward a destination (R384): of the legal ones whose link is not disabled and whose next router is
ACTIVE, the one with the most free buffer entries downstream; a tie goes to north or south before east. None: the packet waits. -/
def routerPicks (k dst : Nat) (free : Nat → Nat) (s : State) : Option Nat :=
  let l := (legalOutputs k dst).filter (fun d => !linkCut k d s && routerState (routerNext k d) s == 0)
  l.foldl (fun best d => match best with
    | none => some d
    | some b => if free d > free b ∨ (free d = free b ∧ d ≠ 1) then some d else some b) none

/-- Some legal minimal route leads to a router through next routers that `block` does not name and links not disabled; no
route is longer than ten hops. -/
def routeExists (block : Nat → Bool) (dst : Nat) (s : State) : Nat → Nat → Bool
  | 0, k => k == dst
  | n + 1, k => k == dst || (legalOutputs k dst).any (fun d =>
      !linkCut k d s && !block (routerNext k d) && routeExists block dst s n (routerNext k d))

/-- A new request of an initiator to a target is refused for maintenance (R389). -/
def routeRefused (i t : Nat) (s : State) : Bool :=
  let blocked (k : Nat) : Bool := routerState k s != 0
  let a := agentRouter i
  let b := targetRouter t
  blocked a || blocked b || !routeExists blocked b s 10 a

/-- An initiator's count of the frame raised. -/
def nocCount (i n : Nat) (m : Sparse) : Sparse := spSet i (spGet i m + n) m

/-- An answer of RETRY or TIMEOUT counted for an initiator (R391). -/
def nocTold (i : Nat) (st : Status) (s : State) : State :=
  if st = .retry then { s with noc := { s.noc with cntRetry := nocCount i 1 s.noc.cntRetry } }
  else if st = .timeout then { s with noc := { s.noc with cntTmo := nocCount i 1 s.noc.cntTmo } }
  else s

/-- So many requests, of so many flits together, that an agent sends to an address over the network on chip (R15): RETRY where
maintenance keeps them from their target (R389), else counted in the initiator's statistics (R391). -/
def nocReach (i addr reqs flits : Nat) (s : State) : Option Status × State :=
  match targetOf addr with
  | none => (none, s)
  | some t =>
    if routeRefused i t s then (some .retry, nocTold i .retry s)
    else (none, { s with noc := { s.noc with
      cntReqs := nocCount i reqs s.noc.cntReqs
      cntFlits := nocCount i flits s.noc.cntFlits } })

end Sys2Proof.Machine
end

