-- ==== Sys2Proof/Machine/Crc.lean ====
section
/-! DEFINITION. Cyclic redundancy checks: CRC-32C and the configurable form of the CRC units (R455). -/
namespace Sys2Proof.Machine

/-- One bit shifted into a `w`-bit register, most significant bit first. -/
def crcBit (w poly reg : Nat) (b : Bool) : Nat :=
  let top := reg / 2 ^ (w - 1) % 2 == 1
  let r := reg * 2 % 2 ^ w
  if top != b then Nat.xor r poly else r

/-- The bits of a byte, most significant first, or least significant first when the input is reflected. -/
def byteBits (refl : Bool) (b : Byte) : List Bool :=
  let l := (List.range 8).map (fun i => b.toNat / 2 ^ i % 2 == 1)
  if refl then l else l.reverse

/-- Bytes fed to a register. -/
def crcFeed (w poly : Nat) (refl : Bool) (reg : Nat) (l : List Byte) : Nat :=
  l.foldl (fun r b => (byteBits refl b).foldl (crcBit w poly) r) reg

/-- The low `w` bits of a value in reverse order. -/
def reverseBits (w v : Nat) : Nat :=
  (List.range w).foldl (fun t i => if v / 2 ^ i % 2 == 1 then t + 2 ^ (w - 1 - i) else t) 0

/-- CRC-32 (polynomial 0x04C11DB7, reflected, all ones in, inverted out). -/
def crc32 (l : List Byte) : Nat :=
  Nat.xor (reverseBits 32 (crcFeed 32 0x04C11DB7 true 0xFFFFFFFF l)) 0xFFFFFFFF

/-- CRC-32C (Castagnoli: polynomial 0x1EDC6F41, reflected, all ones in, inverted out). -/
def crc32c (l : List Byte) : Nat :=
  Nat.xor (reverseBits 32 (crcFeed 32 0x1EDC6F41 true 0xFFFFFFFF l)) 0xFFFFFFFF

end Sys2Proof.Machine
end

