-- ==== Sys2Proof/Machine/Operands.lean ====
section
/-! DEFINITION. The operand forms of a register write: what a written value says for a field, whether it changes it, how
the access codes of R7 apply it, and who the writer is. -/
namespace Sys2Proof

/-- Control cores 0 to 3, the field interface and the debug access port (R178, R205, R281). -/
def Agent.ctl (a : Agent) : Bool := a.init.val < 4 || a.init.val == 49 || a.init.val == 50

/-- Control cores 0 and 1. -/
def Agent.core01 (a : Agent) : Bool := a.init.val < 2

/-- Control cores 0 to 3. -/
def Agent.core03 (a : Agent) : Bool := a.init.val < 4

/-- An object written by its installer or maker letters only (R12). -/
def Agent.im (a : Agent) : Bool := a.role == .installer || a.role == .maker

end Sys2Proof

namespace Sys2Proof.Machine

/-- What a value written to the field's register says for the field. -/
def Fld.of (f : Fld) (v : Nat) : Nat := bits v (f.key % 64) f.width

/-- The written value differs from what the field holds (R565). -/
def State.changes (s : State) (f : Fld) (v : Nat) : Bool := f.of v != s.get f

/-- The written value has a 1 in the one-bit field. -/
def Fld.hit (f : Fld) (v : Nat) : Bool := f.of v != 0

/-- One field written by its access code (R7): RW takes the value, W1C clears and W1S sets the bits written as 1; the
other codes ignore the write (what a WO field triggers is its register's own rule). -/
def writeFld (a : Acc) (f : Fld) (v : Nat) (s : State) : State :=
  match a with
  | .rw => s.set f (f.of v)
  | .w1c => s.set f (s.get f - Nat.land (s.get f) (f.of v))
  | .w1s => s.set f (Nat.lor (s.get f) (f.of v))
  | .ro | .wo | .rc | .rp => s

/-- A register written whole, each field by its access code. -/
def writeFlds (l : List (Acc × Fld)) (v : Nat) (s : State) : State :=
  l.foldl (fun t p => writeFld p.1 p.2 v t) s

/-- A register read: every field but the write-only ones at its place (R7, R9). -/
def readFlds (l : List (Acc × Fld)) (s : State) : Nat :=
  l.foldl (fun t p => match p.1 with
    | .wo => t
    | _ => t + s.get p.2 * 2 ^ (p.2.key % 64)) 0

/-- The RC fields of a register return to 0 after a read (R7). -/
def clearRc (l : List (Acc × Fld)) (s : State) : State :=
  l.foldl (fun t p => match p.1 with
    | .rc => t.set p.2 0
    | _ => t) s

/-- A write as its target's ingress lets it through (R52, R102). -/
def atIngress (dom : Nat) (f : State → Status × State) (s : State) : Status × State :=
  match domRefuses dom s with
  | some st => (st, s)
  | none => f s

/-- A corrected error in a memory with a leaky bucket: CORR and LEVEL rise; LEVEL past BUCKET sets OVERFLOW, raises the
memory's event and returns to 0 (R125, R288, R324 and their like). -/
def bucketHit (corr level full bkt : Fld) (code : Nat) (items : List EvItem) (s : State) : State :=
  let s := s.count corr 1
  if s.get level + 1 > s.get bkt then raise code (items ++ [⟨2, s.get corr⟩]) ((s.set full 1).set level 0)
  else s.set level (s.get level + 1)

/-- The leak of a bucket at a frame tick. -/
def bucketLeak (level leak : Fld) (s : State) : State := s.set level (s.get level - s.get leak)

/-- The step of a channel's level range in µV, its 0 V code and its greatest code (R164). -/
def levelScale (wide : Bool) : Nat × Nat × Nat := if wide then (125, 12000, 60000) else (40, 12500, 62500)

end Sys2Proof.Machine
end

