-- ==== Sys2Proof/Machine/Flags.lean ====
section
/-! DEFINITION. Status flags that the spec gives as functions of other state: read as views, never stored twice. -/
namespace Sys2Proof.Machine

/-- ELIM_STAT.ANY_BALL: some ball latch is set. -/
def anyBall (s : State) : Bool := (List.range 32).any (fun b => s.get (ELIM_TRIP_BALL b) != 0)

/-- The sequencer is STOPPED (R237). -/
def seqStopped (q : Nat) (s : State) : Bool := s.get (SEQ_STAT_STATE q) == 0

/-- The PMU of a channel is connected to its ball (R179). -/
def pmuConnected (n : Nat) (s : State) : Bool := n ∈ s.jets.pmuOn

/-- A cause bit of the channel is set, or its last one is clear and the frame tick has not come (R174, R175). -/
def jetBlocked (n : Nat) (s : State) : Bool :=
  s.on (JET_STAT_BLK_SPARE n) || s.on (JET_STAT_BLK_WIDE n) || s.on (JET_STAT_BLK_RATE n) || n ∈ s.jets.blockHeld

/-- JET_STAT.TRIP: from the trip to the frame tick after the clear (R186 and the table above it). -/
def jetTripped (n : Nat) (s : State) : Bool := n ∈ s.power.hiz

/-- JET_STAT.PHYS: the ball is served by its bank's spare (R184). -/
def jetSpared (n : Nat) (s : State) : Bool := s.get (JET_BANK_STAT_SPARE_ACT (n / 16)) == n % 16

/-- JET_STAT.STATE: 3 HELD, 2 PMU, 1 ACTIVE, 0 OFF. A connected PMU shows although the channel is blocked (R174, R179). -/
def jetState (n : Nat) (s : State) : Nat :=
  if jetTripped n s then 3
  else if pmuConnected n s then 2
  else if jetBlocked n s then 3
  else if s.on (JET_CFG_EN n) then 1 else 0

/-- JET_BANK_STAT.BLOCKED. -/
def bankBlocked (b : Nat) (s : State) : Nat :=
  (List.range 16).foldl (fun t c => if jetBlocked (16 * b + c) s then t + 2 ^ c else t) 0

/-! ### Offline calibration's view of a running bank (R225) -/

/-- The failure of a bank that can be seen now, in the order of R225: 2 ENABLED, 3 PMU, 4 TRIP; 0 none. -/
def calFault (b : Nat) (s : State) : Nat :=
  if (List.range 16).any (fun c => s.on (JET_CFG_EN (16 * b + c))) then 2
  else if (List.range 16).any (fun c => s.get (JET_PMU_CTL_MODE (16 * b + c)) != 0) then 3
  else if s.get (ELIM_TRIP_BALL b) != 0 || s.on ELIM_STAT_WIRING then 4
  else 0

/-- The banks of a run take a failure code where it comes before the one they have (R225). -/
def calMark (f : Nat → Nat) (s : State) : State :=
  match s.weir.run with
  | none => s
  | some l =>
    { s with weir := { s.weir with run := some (l.map (fun x =>
        if f x.bank ≠ 0 ∧ (x.code = 0 ∨ f x.bank < x.code) then { x with code := f x.bank } else x)) } }

/-- An enabled channel, a PMU whose MODE is not OFF or a trip fails a running bank as it comes about (R225). -/
def calWatch (s : State) : State := calMark (fun b => calFault b s) s

end Sys2Proof.Machine
end

