-- ==== Sys2Proof/Machine/Sluice.lean ====
section
/-! DEFINITION. The Sluice grant table and wait queue (R57 to R63, R566). -/
namespace Sys2Proof.Machine

/-! Class codes of R57. -/
def clsBank : Nat := 0
def clsRate : Nat := 1
def clsPmu : Nat := 2
def clsReconfig : Nat := 3
def clsBurst : Nat := 4
def clsAlmanac : Nat := 5
def clsScrub : Nat := 6
def clsDomain : Nat := 7
def clsProfile : Nat := 8

/-- Grantable current of a profile, 10 mA units (R58). -/
def grantable (profile : Nat) : Nat :=
  if profile = 0 then 1950 else if profile = 1 then 1700 else if profile = 2 then 1533 else 100

/-- The current profile (R20). -/
def curProfile (s : State) : Nat := s.get SYS_PROFILE_CUR

/-- The entry holds a grant: granted or overdue. -/
def entGranted (k : Nat) (s : State) : Bool := s.get (SLU_ENT_STATE k) == 2 || s.get (SLU_ENT_STATE k) == 3

/-- Granted current, 10 mA units. -/
def sluGranted (s : State) : Nat :=
  (List.range 128).foldl (fun t k => if entGranted k s then t + s.get (SLU_ENT_CURRENT k) else t) 0

/-- What QUIET keeps of a grant (R60): a DOMAIN grant counts at the RETAIN current, at 4 units for a quad with an
enabled link, or at 0 for a domain that QUIET turns OFF; every other grant in full, domain 82's too, which QUIET leaves ON. -/
def quietKeeps (k : Nat) (s : State) : Nat :=
  let n := s.get (SLU_ENT_TARGET k)
  if s.get (SLU_ENT_CLASS k) = clsDomain ∧ n ≠ 82 then
    if n = 64 ∨ n = 65 then 10
    else if 48 ≤ n ∧ n < 64 ∧ s.on (LNK_CTL_EN (n - 48)) then 4
    else 0
  else s.get (SLU_ENT_CURRENT k)

/-- The granted total as a change to `profile` counts it (R60). -/
def grantedFor (profile : Nat) (s : State) : Nat :=
  if profile = 3 then (List.range 128).foldl (fun t k => if entGranted k s then t + quietKeeps k s else t) 0
  else sluGranted s

/-- A request fits: a PROFILE request against the new profile's grantable current, any other against what is left of
the current profile's (R59, R60). -/
def sluFits (cls cur : Nat) (s : State) : Bool :=
  if cls = clsProfile then decide (grantedFor s.profile.req s ≤ grantable s.profile.req)
  else decide (sluGranted s + cur ≤ grantable (curProfile s))

/-- A grant of a class for a target domain is held. -/
def hasGrant (cls target : Nat) (s : State) : Bool :=
  (List.range 128).any (fun k => entGranted k s && s.get (SLU_ENT_CLASS k) == cls && s.get (SLU_ENT_TARGET k) == target)

/-- A grant of a class is held by anyone. -/
def hasClass (cls : Nat) (s : State) : Bool :=
  (List.range 128).any (fun k => entGranted k s && s.get (SLU_ENT_CLASS k) == cls)

/-- The lowest free entry of the grant table. -/
def freeEntry (s : State) : Option Nat := (List.range 128).find? (fun k => s.get (SLU_ENT_STATE k) == 0)

/-- The ticket of an entry: GEN and ENTRY (SLU_RELEASE). -/
def ticketOf (k : Nat) (s : State) : Nat := s.get (SLU_ENT_GEN k) * 256 + k

/-- Entry `k` gets its grant: REMAIN starts at the declared duration and the operation waits for its ramp (R61). -/
def grantEntry (k : Nat) (s : State) : State :=
  let s := (s.set (SLU_ENT_STATE k) 2).set (SLU_ENT_REMAIN k) (spGet k s.power.dur)
  let s := { s with power := { s.power with queue := s.power.queue.erase k, ramp := s.power.ramp ++ [k], order := s.power.order ++ [k] } }
  if s.profile.entry = some k then { s with profile := { s.profile with granted := true } } else s

/-- A refused request counts in REFUSED and raises 0x0208, at most once per frame for one class and initiator when the
part places it again (R566). -/
def sluRefuse (r : PartReq) (again : Bool) (s : State) : State :=
  let s := s.count SLU_STAT_REFUSED 1
  let items : List EvItem := [⟨1, r.init⟩, ⟨1, r.cls⟩]
  if again then raiseOnce 0x0208 (r.cls * 128 + r.target) items s else raise 0x0208 items s

/-- Whether the queue and the table take a request now (R59). -/
def sluRoom (cls cur : Nat) (s : State) : Bool :=
  (freeEntry s).isSome && (decide (s.power.queue.length < 64) || (s.power.queue.isEmpty && sluFits cls cur s))

/-- Place a request whose fields are valid: granted at once when it fits and nothing waits, else queued (R59). The
entry's GEN rises each time the entry is reused, and the initiator's last ticket is recorded (SLU_MYTICKET). DESIGN CHOICE
(notes/assumptions/14.md): a request that the part places for a writer, also when it is placed again later (R54, R566), counts as
that initiator's last submitted one. -/
def sluEnter (k : Nat) (r : PartReq) (s : State) : State :=
  let atOnce := s.power.queue.isEmpty && sluFits r.cls r.current s
  let gen := if k ∈ s.power.used then s.get (SLU_ENT_GEN k) + 1 else s.get (SLU_ENT_GEN k)
  let s := (((((((s.set (SLU_ENT_GEN k) gen).set (SLU_ENT_SKIPS k) 0).set (SLU_ENT_STATE k) 1).set
    (SLU_ENT_INITIATOR k) r.init).set (SLU_ENT_TARGET k) r.target).set (SLU_ENT_CLASS k) r.cls).set
    (SLU_ENT_REMAIN k) 0).set (SLU_ENT_CURRENT k) r.current
  let tk := (if atOnce then 65536 else 0) + ticketOf k s
  let s := { s with power := { s.power with
      used := if k ∈ s.power.used then s.power.used else s.power.used ++ [k]
      purpose := spSet k r.purpose s.power.purpose
      dur := spSet k r.duration s.power.dur
      ticket := spSet r.init tk s.power.ticket
      queue := if atOnce then s.power.queue else s.power.queue ++ [k] } }
  if atOnce then grantEntry k s else s

/-- Place a valid request: the entry it took, or none when the queue or the table refuses it. -/
def sluPlace (r : PartReq) (again : Bool) (s : State) : Option Nat × State :=
  match freeEntry s with
  | none => (none, sluRefuse r again s)
  | some k => if sluRoom r.cls r.current s then (some k, sluEnter k r s) else (none, sluRefuse r again s)

/-- The checks of R57 and SLU_REQ on a request that an agent submits, and the FAULT of a latched wiring trip (R67). -/
def sluCheck (cls target current duration : Nat) (s : State) : Status :=
  if cls ≥ clsProfile then .range
  else if cls ≤ clsPmu ∧ ¬(16 ≤ target ∧ target ≤ 47) then .range
  else if cls = clsDomain ∧ target > 95 then .range
  else if (cls = clsBank ∨ cls = clsRate ∨ cls = clsDomain) ∧ duration ≠ 0 then .range
  else if 3 ≤ cls ∧ cls ≤ 6 ∧ (duration = 0 ∨ target ≠ 0x7F) then .range
  else if current = 0 ∨ current > 1950 then .range
  else if cls ≤ clsPmu ∧ s.on ELIM_STAT_WIRING then .fault
  else .done

/-- A request as an agent submits it (SLU_REQ, the SLU instruction, object 0x2100:0x10). -/
def sluSubmit (cls target current duration init : Nat) (s : State) : Status × Option Nat × State :=
  match sluCheck cls target current duration s with
  | .done =>
    match sluPlace ⟨cls, target, current, duration, init, 0⟩ false s with
    | (some k, t) => (.done, some k, t)
    | (none, t) => (.retry, none, t)
  | st => (st, none, s)

/-- The entry that a ticket names, when it is not free and its generation matches (R63). -/
def ticketEntry (ticket : Nat) (s : State) : Option Nat :=
  let k := ticket % 256
  if k < 128 ∧ s.get (SLU_ENT_STATE k) ≠ 0 ∧ s.get (SLU_ENT_GEN k) = ticket / 256 % 256 then some k else none

/-- A wish to raise a domain is over: ENABLE_PENDING and its requester are forgotten. -/
def endWish (n : Nat) (s : State) : State :=
  { (s.set (PWR_DOM_STAT_ENABLE_PENDING n) 0) with power := { s.power with raising := spDel n s.power.raising } }

/-- Free an entry of the table: the queue, the ramps and the raise that waited for it forget it. -/
def sluDrop (k : Nat) (s : State) : State :=
  let p := spGet k s.power.purpose
  let waits := decide (s.get (SLU_ENT_STATE k) = 1) || decide (k ∈ s.power.ramp)
  let s := if waits = true ∧ 100 ≤ p ∧ p < 196 ∧ (domState (p - 100) s = 0 ∨ domState (p - 100) s = 4) then endWish (p - 100) s else s
  let s := ((s.set (SLU_ENT_STATE k) 0).set (SLU_ENT_REMAIN k) 0).set (SLU_ENT_SKIPS k) 0
  { s with power := { s.power with
      queue := s.power.queue.erase k
      cycle := s.power.cycle.erase k
      ramp := s.power.ramp.erase k
      order := s.power.order.erase k
      purpose := spSet k 0 s.power.purpose
      dur := spSet k 0 s.power.dur } }

/-! ### Requests of the part itself -/

/-! What a request of the part is for (`PowerSt.purpose`). -/
def forHbmPass : Nat := 1
def forEncPass : Nat := 2
def forRillPass : Nat := 3
def forLoad : Nat := 4
def forLifecycle : Nat := 5
def forEdition : Nat := 6
def forLedger : Nat := 7
/-- The entry of the part's own request for a purpose. -/
def entryFor (purpose : Nat) (s : State) : Option Nat :=
  (List.range 128).find? (fun k => s.get (SLU_ENT_STATE k) != 0 && spGet k s.power.purpose == purpose)

/-- The part's request for a purpose is granted. -/
def grantedForPurpose (purpose : Nat) (s : State) : Bool :=
  (List.range 128).any (fun k => entGranted k s && spGet k s.power.purpose == purpose)

/-- The part places a request with a write that waits for its acceptance: RETRY when it is refused. -/
def placeOrRetry (r : PartReq) (s : State) : Status × State :=
  match sluPlace r false s with
  | (some _, t) => (.done, t)
  | (none, t) => (.retry, t)

/-- The part places a request, and places it again at each tick while it is refused (R566). -/
def placeAgain (r : PartReq) (s : State) : State :=
  match sluPlace r true s with
  | (some _, t) => { t with power := { t.power with replace := t.power.replace.erase r } }
  | (none, t) => { t with power := { t.power with replace := if r ∈ t.power.replace then t.power.replace else t.power.replace ++ [r] } }

/-- Bytes per frame of the profile's BACKGROUND share (R20): 16, 8 or 32 GB/s over PERIOD_ACT ns. QUIET, to which R20 gives no
share, counts as 16 GB/s (DESIGN CHOICE, notes/assumptions/13.md). -/
def backgroundPerFrame (s : State) : Nat :=
  (if curProfile s = 1 then 8 else if curProfile s = 2 then 32 else 16) * s.get FRM_STAT_PERIOD_ACT

/-- Frames a pass over so many bytes takes at the BACKGROUND share, rounded up, at least 1 (R356, R375). -/
def passFrames (bytes : Nat) (s : State) : Nat := min 65535 (max 1 (ceilDiv bytes (backgroundPerFrame s)))

end Sys2Proof.Machine
end

