-- ==== Sys2Proof/Machine/Jets.lean ====
section
/-! DEFINITION. The Jets: their registers, levels, rate limits, PMU and spare tap (chapter 08). -/
namespace Sys2Proof.Machine

/-- The highest MAXRATE code of a profile (R20); QUIET allows no rate. -/
def profileRate (p : Nat) : Option Nat :=
  if p = 0 then some 2 else if p = 1 then some 1 else if p = 2 then some 0 else none

/-- The smallest sample divider of a profile (R20): 200 kS/s, 500 kS/s, 2 MS/s; QUIET allows no sampling. -/
def profileDiv (p : Nat) : Option Nat :=
  if p = 0 then some 9 else if p = 1 then some 3 else if p = 2 then some 0 else none

/-- The 0 V code of a level range (R164). -/
def zeroCode (wide : Bool) : Nat := if wide then 12000 else 12500

/-- The largest level code of a level range (R164). -/
def maxCode (wide : Bool) : Nat := if wide then 60000 else 62500

/-- The distance of two codes. -/
def codeDist (a b : Nat) : Nat := if a < b then b - a else a - b

/-- Shortest period of a MAXRATE code, in q (the table above R174). -/
def ratePeriod (code : Nat) : Nat := if code = 0 then 10000 else if code = 1 then 1000 else 500

/-! ### Bank registers -/

/-- A write of JET_BANK_CTL(b): SPARE_FOR and MAXRATE (R176, R178, R185). -/
def wrJetBankCtl (a : Agent) (b v : Nat) (s : State) : Status × State :=
  let spare := (JET_BANK_CTL_SPARE_FOR b).of v
  let rate := (JET_BANK_CTL_MAXRATE b).of v
  if !a.ctl then (.denied, s)
  else if s.changes (JET_BANK_CTL_SPARE_FOR b) v && !a.core01 then (.denied, s)
  else if rate = 3 ∨ (16 ≤ spare ∧ spare ≤ 30) then (.range, s)
  else if s.changes (JET_BANK_CTL_MAXRATE b) v &&
      (match profileRate (curProfile s) with
       | none => true
       | some m => decide (rate > m) || (rate == 2 && !hasGrant clsRate (16 + b) s)) then (.range, s)
  else (.done, writeFlds (JET_BANK_CTL_fields b) v s)

/-- MAXRATE lowered by the part, with event 0x0503 (R176). -/
def lowerMaxrate (b new : Nat) (s : State) : State :=
  let old := s.get (JET_BANK_CTL_MAXRATE b)
  raise 0x0503 [⟨1, b⟩, ⟨1, old⟩, ⟨1, new⟩] (s.set (JET_BANK_CTL_MAXRATE b) new)

/-- The check of MAXRATE as a bank passes from RAISING to ON (R176). -/
def checkMaxrate (b : Nat) (s : State) : State :=
  let rate := s.get (JET_BANK_CTL_MAXRATE b)
  match profileRate (curProfile s) with
  | none => s
  | some m =>
    if rate > m then lowerMaxrate b m s
    else if rate = 2 ∧ hasGrant clsRate (16 + b) s = false then lowerMaxrate b 1 s
    else s

/-- SPARE_FOR takes effect as the bank passes from RAISING to ON (R185). -/
def applySpare (b : Nat) (s : State) : State :=
  let old := s.get (JET_BANK_STAT_SPARE_ACT b)
  let new := s.get (JET_BANK_CTL_SPARE_FOR b)
  if old = new then s
  else raise 0x0506 [⟨1, b⟩, ⟨1, old⟩, ⟨1, new⟩] (s.set (JET_BANK_STAT_SPARE_ACT b) new)

/-- PMU forcing in ±40 mA: MODE FVMI or FIMV with IRANGE 0 (R182). -/
def pmuForcing40 (n : Nat) (s : State) : Bool :=
  (s.get (JET_PMU_CTL_MODE n) == 1 || s.get (JET_PMU_CTL_MODE n) == 2) && s.get (JET_PMU_CTL_IRANGE n) == 0

/-- A PMU leaves its ball. -/
def pmuDisconnect (n : Nat) (s : State) : State :=
  { s with jets := { s.jets with pmuOn := s.jets.pmuOn.erase n, clamp := spDel n s.jets.clamp } }

/-- The bank's last PMU grant ended: channels forcing in ±40 mA go to MODE OFF, event 0x0504 (R182). -/
def pmuGrantLost (b : Nat) (s : State) : State :=
  let l := (List.range 16).filter (fun c => pmuForcing40 (16 * b + c) s)
  if l.isEmpty then s
  else raise 0x0504 [⟨1, b⟩, ⟨2, l.foldl (fun t c => t + 2 ^ c) 0⟩]
    (forEach l (fun c t => pmuDisconnect (16 * b + c) (t.set (JET_PMU_CTL_MODE (16 * b + c)) 0)) s)

/-- A grant ends: the entry is freed, and a bank that lost its last RATE or PMU grant follows R176 or R182. -/
def sluEnd (k : Nat) (s : State) : State :=
  let cls := s.get (SLU_ENT_CLASS k)
  let n := s.get (SLU_ENT_TARGET k)
  let held := entGranted k s
  let s := sluDrop k s
  if held && cls == clsRate && !hasGrant clsRate n s && s.get (JET_BANK_CTL_MAXRATE (n - 16)) == 2 then
    lowerMaxrate (n - 16) 1 s
  else if held && cls == clsPmu && !hasGrant clsPmu n s then pmuGrantLost (n - 16) s
  else s

/-- A write of SLU_RELEASE, or an SLUREL: RANGE for a ticket whose entry is free or reused, DENIED for one that another
owns unless control core 0 or 1 releases it, else the grant ends or the request is withdrawn (R63). DESIGN CHOICE
(notes/assumptions/13.md): a pending profile change whose request or grant is released so ends with RESULT = RETRY and no event
0x0141, of which the spec says nothing. -/
def sluRelease (init ticket : Nat) (s : State) : Status × State :=
  match ticketEntry ticket s with
  | none => (.range, s)
  | some k =>
    if s.get (SLU_ENT_INITIATOR k) ≠ init ∧ ¬ init < 2 then (.denied, s)
    else if s.profile.entry = some k then
      (.done, { (sluEnd k (s.set SYS_PROFILE_PENDING 0)).set SYS_PROFILE_RESULT 6 with
        profile := { s.profile with entry := none, granted := false } })
    else (.done, sluEnd k s)

/-! ### Channel registers -/

/-- A write of JET_CFG: RANGE and SEQ change only while EN is 0, and a RANGE change sets the six levels to 0 V
(R165, R167, R178). -/
def wrJetCfg (a : Agent) (n v : Nat) (s : State) : Status × State :=
  if !a.ctl then (.denied, s)
  else if s.on (JET_CFG_EN n) && (s.changes (JET_CFG_RANGE n) v || s.changes (JET_CFG_SEQ n) v) then (.range, s)
  else
    let wide := (JET_CFG_RANGE n).hit v
    let z := zeroCode wide
    let new := s.changes (JET_CFG_RANGE n) v
    let en := s.changes (JET_CFG_EN n) v
    let s := writeFlds (JET_CFG_fields n) v s
    let s := if new then
        [JET_LVL_DRV_VIH n, JET_LVL_DRV_VIL n, JET_LVL_DRV_VTT n, JET_LVL_CMP_VOH n, JET_LVL_CMP_VOL n,
          JET_LVL_CMP_VCOM n].foldl (fun t f => t.set f z) s
      else s
    (.done, calWatch (if en then { s with jets := { s.jets with drv := spDel n s.jets.drv } } else s))

/-- A write of JET_LVL_DRV, checked whole (R164). -/
def wrJetDrv (a : Agent) (n v : Nat) (s : State) : Status × State :=
  let wide := s.on (JET_CFG_RANGE n)
  let vih := (JET_LVL_DRV_VIH n).of v
  let vil := (JET_LVL_DRV_VIL n).of v
  if !a.ctl then (.denied, s)
  else if vih > maxCode wide ∨ vil > maxCode wide ∨ (JET_LVL_DRV_VTT n).of v > maxCode wide ∨
      (wide = false ∧ codeDist vih vil > 35000) then (.range, s)
  else (.done, writeFlds (JET_LVL_DRV_fields n) v s)

/-- A write of JET_LVL_CMP, checked whole (R164). -/
def wrJetCmp (a : Agent) (n v : Nat) (s : State) : Status × State :=
  let m := maxCode (s.on (JET_CFG_RANGE n))
  let voh := (JET_LVL_CMP_VOH n).of v
  let vol := (JET_LVL_CMP_VOL n).of v
  if !a.ctl then (.denied, s)
  else if voh > m ∨ vol > m ∨ (JET_LVL_CMP_VCOM n).of v > m ∨ vol > voh then (.range, s)
  else (.done, writeFlds (JET_LVL_CMP_fields n) v s)

/-- A write of JET_LOAD: each current at most 24 mA (R170). -/
def wrJetLoad (a : Agent) (n v : Nat) (s : State) : Status × State :=
  if !a.ctl then (.denied, s)
  else if (JET_LOAD_ISRC n).of v > 48000 ∨ (JET_LOAD_ISNK n).of v > 48000 then (.range, s)
  else (.done, writeFlds (JET_LOAD_fields n) v s)

/-- The PMU values of a channel meet R180: voltages within the scale, each clamp's LO below its HI, and each force value
inside the clamp of its quantity. -/
def pmuValuesOk (n : Nat) (s : State) : Bool :=
  let i := sext 16 (s.get (JET_PMU_FORCE_IFORCE n))
  let lo := sext 16 (s.get (JET_PMU_ICLAMP_LO n))
  let hi := sext 16 (s.get (JET_PMU_ICLAMP_HI n))
  let v := s.get (JET_PMU_FORCE_VFORCE n)
  let vlo := s.get (JET_PMU_VCLAMP_LO n)
  let vhi := s.get (JET_PMU_VCLAMP_HI n)
  decide (v ≤ 60000) && decide (vhi ≤ 60000) && decide (lo < hi) && decide (vlo < vhi) &&
    decide (lo ≤ i) && decide (i ≤ hi) && decide (vlo ≤ v) && decide (v ≤ vhi)

/-- A write of a PMU force or clamp register, refused whole when the values it leaves fail R180. -/
def wrJetPmu (l : List (Acc × Fld)) (a : Agent) (n v : Nat) (s : State) : Status × State :=
  let t := writeFlds l v s
  if !a.ctl then (.denied, s) else if pmuValuesOk n t then (.done, t) else (.range, s)

/-- A write of a channel's level, load or PMU value register (R164, R170, R180). -/
def wrJetLevel (a : Agent) (n : Nat) (r : LevelReg) (v : Nat) (s : State) : Status × State :=
  match r with
  | .drv => wrJetDrv a n v s
  | .cmp => wrJetCmp a n v s
  | .load => wrJetLoad a n v s
  | .pmuForce => wrJetPmu (JET_PMU_FORCE_fields n) a n v s
  | .pmuIclamp => wrJetPmu (JET_PMU_ICLAMP_fields n) a n v s
  | .pmuVclamp => wrJetPmu (JET_PMU_VCLAMP_fields n) a n v s

/-- A write of JET_PMU_CTL: the range code, the ±40 mA grant, the sample rate (R180, R182, R183). MODE OFF disconnects
the PMU; another mode connects it by PMU_CONNECT (R179). -/
def wrJetPmuCtl (a : Agent) (n v : Nat) (s : State) : Status × State :=
  let mode := (JET_PMU_CTL_MODE n).of v
  let ir := (JET_PMU_CTL_IRANGE n).of v
  if !a.ctl then (.denied, s)
  else if ir ≥ 5 then (.range, s)
  else if (mode = 1 ∨ mode = 2) ∧ ir = 0 ∧ hasGrant clsPmu (bankDom n) s = false then (.range, s)
  else if s.changes (JET_PMU_CTL_DIV n) v &&
      (match profileDiv (curProfile s) with
       | none => true
       | some d => decide ((JET_PMU_CTL_DIV n).of v < d)) then (.range, s)
  else
    let s := writeFlds (JET_PMU_CTL_fields n) v s
    (.done, if mode = 0 then pmuDisconnect n s else calWatch s)

/-- The limits that a period (in q) of a channel's cycle exceeds (the table above R174): RATE, WIDE, spare. -/
def overRate (n per : Nat) (s : State) : Bool := decide (per < ratePeriod (s.get (JET_BANK_CTL_MAXRATE (n / 16))))
def overWide (n per : Nat) (s : State) : Bool := s.on (JET_CFG_RANGE n) && decide (per < 10000)
def overSpare (n per : Nat) (s : State) : Bool := jetSpared n s && decide (per < 625)

/-- The current period of a channel's sequencer: that of the last cycle issued. -/
def curPeriod (n : Nat) (s : State) : Nat :=
  let q := s.get (JET_CFG_SEQ n)
  s.get (ET_PER_PERIOD q (s.get (ET_SEQ_STAT_TS_LAST q)))

/-- A W1C write of JET_STAT: a cause bit clears only when its limit is no longer exceeded or the sequencer is stopped;
when the last one clears, the channel returns at the next tick (R175). -/
def wrJetStat (a : Agent) (n v : Nat) (s : State) : Status × State :=
  if !a.ctl then (.denied, s)
  else
    let was := jetBlocked n s
    let free := seqStopped (s.get (JET_CFG_SEQ n)) s
    let per := curPeriod n s
    let s1 := s.setIf ((JET_STAT_BLK_RATE n).hit v && (free || !overRate n per s)) (JET_STAT_BLK_RATE n) 0
    let s2 := s1.setIf ((JET_STAT_BLK_WIDE n).hit v && (free || !overWide n per s)) (JET_STAT_BLK_WIDE n) 0
    let s3 := s2.setIf ((JET_STAT_BLK_SPARE n).hit v && (free || !overSpare n per s)) (JET_STAT_BLK_SPARE n) 0
    (.done, if was && !jetBlocked n s3 then { s3 with jets := { s3.jets with blockHeld := s3.jets.blockHeld ++ [n] } } else s3)

/-! ### What a Jet puts out -/

/-- The driver is held high impedance whatever the pattern asks: bank not ON or in the hold of a DOMAIN reset, EN 0, a trip, a
block, the PMU, or VIN below its threshold (R46, R47, R168, R174, R179, R186, R202). -/
def jetHeld (n : Nat) (s : State) : Bool :=
  !domOn (bankDom n) s || decide (bankDom n ∈ s.power.resetHold) || !s.on (JET_CFG_EN n) || jetTripped n s || jetBlocked n s ||
    pmuConnected n s ||
    decide (n ∈ s.jets.bad) || decide (s.power.vin ≠ .on)

/-- The level the driver puts on the ball: 0 high impedance, 1 VIH, 2 VIL, 3 VTT (R168). -/
def jetOut (n : Nat) (s : State) : Nat :=
  if jetHeld n s then 0
  else if spGet n s.jets.drv = 0 then (if s.on (JET_CFG_OFFMODE n) then 3 else 0)
  else spGet n s.jets.drv

/-- The active load is connected (R170). -/
def loadOn (n : Nat) (s : State) : Bool :=
  !jetHeld n s && s.on (JET_CFG_LOAD n) && !s.on (JET_CFG_OFFMODE n) && spGet n s.jets.drv == 0

/-- What one comparator pair shows: below VOL, between, above VOH. -/
inductive CmpState where
  | low | mid | high
  deriving DecidableEq, Repr

/-- The voltage of a level code of channel n, in nV (R164). -/
def levelNV (n code : Nat) (s : State) : Int :=
  let p := levelScale (s.on (JET_CFG_RANGE n))
  1000 * (p.1 : Int) * ((code : Int) - p.2.1)

/-- The voltage of a PMU voltage code, in nV, on the WIDE scale (R180). -/
def pmuNV (code : Nat) : Int := 125000 * ((code : Int) - 12000)

/-- The current that the active load puts into the ball at a ball voltage, in nA: ISRC below VCOM, ISNK drawn above it (R163,
R170). -/
def loadNA (n : Nat) (v : Int) (s : State) : Int :=
  let com := levelNV n (s.get (JET_LVL_CMP_VCOM n)) s
  if !loadOn n s then 0
  else if v < com then 500 * s.get (JET_LOAD_ISRC n)
  else if v > com then -(500 * (s.get (JET_LOAD_ISNK n) : Int))
  else 0

/-- The ball voltage the comparator sees (R171, R179): with the PMU forcing a voltage and no clamp engaged it is VFORCE, and with the
PMU forcing a current it stays within VCLAMP; else it is what the driver, the load, the DUT and the wiring leave. -/
def ballSeen (n : Nat) (v : Int) (s : State) : Int :=
  if !pmuConnected n s then v
  else if s.get (JET_PMU_CTL_MODE n) = 1 then (if spGet n s.jets.clamp = 0 then pmuNV (s.get (JET_PMU_FORCE_VFORCE n)) else v)
  else if s.get (JET_PMU_CTL_MODE n) = 2 then
    max (pmuNV (s.get (JET_PMU_VCLAMP_LO n))) (min (pmuNV (s.get (JET_PMU_VCLAMP_HI n))) v)
  else v

/-- What a strobe reports of a ball voltage: HIGH above VOH, LOW below VOL, MID otherwise (R171). -/
def comparator (n : Nat) (v : Int) (s : State) : CmpState :=
  let x := ballSeen n v s
  if x > levelNV n (s.get (JET_LVL_CMP_VOH n)) s then .high
  else if x < levelNV n (s.get (JET_LVL_CMP_VOL n)) s then .low
  else .mid

/-- The output of bank b's spare Jet, which ball SPT shows whether the spare is tapped or not (R37, R184): of the channel it serves, or
high impedance. -/
def spareOut (b : Nat) (s : State) : Nat :=
  let c := s.get (JET_BANK_STAT_SPARE_ACT b)
  if c < 16 then jetOut (16 * b + c) s else 0

/-- The code of lvl(d): VIH for 1, VIL for 0 (R168). -/
def lvlCode (d : Bool) : Nat := if d then 1 else 2

/-- The drive edges a format names and the level each drives, as (edge number, level code) (R168). -/
def formatEdges (fmt : Nat) (d : Bool) : List (Nat × Nat) :=
  if fmt = 0 then [(1, lvlCode d)]
  else if fmt = 1 then [(1, lvlCode d), (2, 2)]
  else if fmt = 2 then [(1, lvlCode d), (2, 1)]
  else if fmt = 3 then [(1, lvlCode (!d)), (2, lvlCode d), (3, lvlCode (!d))]
  else if fmt = 4 then [(1, lvlCode (!d))]
  else if fmt = 5 then [(1, lvlCode d), (2, 3)]
  else if fmt = 6 then [(1, lvlCode d), (4, 0)]
  else [(1, lvlCode d), (2, lvlCode (!d))]

/-- The code a driver holds after a cycle: off when the cycle does not drive, else the level of its last named edge. -/
def formatEnd (drive : Bool) (fmt : Nat) (d : Bool) : Nat :=
  if drive then ((formatEdges fmt d).getLast?.map (·.2)).getD 0 else 0

/-- A strobe passes (R171): expect 0 NONE, 1 L, 2 H, 3 Z, 4 V. -/
def strobePass (expect : Nat) (c : CmpState) : Bool :=
  if expect = 0 then true
  else if expect = 1 then c == .low
  else if expect = 2 then c == .high
  else if expect = 3 then c == .mid
  else c != .mid

/-- The state code of R173. -/
def cmpCode (c : CmpState) : Nat := match c with | .low => 0 | .mid => 1 | .high => 2

/-- A cycle's compare result on a channel that is neither blocked nor bad (R172): true is a fail. -/
def strobeFails (n mode expect : Nat) (x : Strobes) (s : State) : Bool :=
  let pass (v : Int) : Bool := strobePass expect (comparator n v s)
  if mode = 0 then !pass x.c1
  else if mode = 1 then !pass x.c1 || !pass x.c2
  else if mode = 2 then !((x.c1 :: x.c2 :: x.window).all pass)
  else false

/-! ### PMU -/

/-- Full scale of a current range, pA (R180). -/
def rangePA (ir : Nat) : Nat :=
  if ir = 0 then 40000000000 else if ir = 1 then 2000000000 else if ir = 2 then 200000000
  else if ir = 3 then 20000000 else 2000000

/-- A quotient rounded to the nearest whole number, halves away from zero. -/
def roundAway (num : Int) (den : Nat) : Int :=
  if num < 0 then -((2 * (-num) + den) / (2 * den)) else (2 * num + den) / (2 * den)

/-- The 18-bit sample of a measured value (R180): of a current in pA with the range's scale, of a voltage in nV with
62.5 µV per LSB; saturating at the nearer end code. -/
def pmuCode (mode ir : Nat) (measured : Int) : Int :=
  satInt 18 (if mode = 1 then roundAway (measured * 65536) (rangePA ir) else roundAway measured 62500)

/-- The scale of a PMU's samples: 0 voltage, 1 + IRANGE current (R180). -/
def pmuScale (mode ir : Nat) : Nat := if mode = 1 then 1 + ir else 0

/-- Add a sample to the frame's sum of its channel. One of another scale starts the sum anew (DESIGN CHOICE,
notes/assumptions/26.md: the spec gives no mean of codes of two scales). -/
def addSum (n scale : Nat) (x : Int) : List PmuSum → List PmuSum
  | [] => [⟨n, scale, x, 1⟩]
  | p :: r =>
    if p.ch = n then (if p.scale = scale then ⟨n, scale, p.sum + x, p.n + 1⟩ else ⟨n, scale, x, 1⟩) :: r
    else p :: addSum n scale x r

/-- The clamp state of a channel changes: engaging raises 0x0505 at most once per frame, and the limiter counts the
clamped state as a fault (R181). -/
def pmuClampSet (n : Nat) (c : Option Bool) (s : State) : State :=
  match c with
  | none => { s with jets := { s.jets with clamp := spDel n s.jets.clamp } }
  | some hi =>
    let s := { s with
      jets := { s.jets with clamp := spSet n (if hi then 2 else 1) s.jets.clamp }
      power := { s.power with inFault := if n ∈ s.power.inFault then s.power.inFault else s.power.inFault ++ [n] } }
    raiseOnce 0x0505 n [⟨2, n⟩, ⟨1, if hi then 1 else 0⟩] s

/-- The ADC takes a sample (R183): number, value, clamp and range bits, the frame's mean, and the sample on its link. -/
def pmuSample (n : Nat) (measured : Int) (c : Option Bool) (s : State) : State :=
  let mode := s.get (JET_PMU_CTL_MODE n)
  let x := pmuCode mode (s.get (JET_PMU_CTL_IRANGE n)) measured
  let isOver := mode == 1 && decide (10 * x.natAbs > 11 * 65536)
  let s := pmuClampSet n c s
  let s := (((s.set (JET_PMU_RES_NUMBER n) (s.get (JET_PMU_RES_NUMBER n) + 1)).set
    (JET_PMU_RES_SAMPLE n) (wrap 18 x)).set (JET_PMU_RES_CLAMPED n) (if c.isSome then 1 else 0)).set
    (JET_PMU_RES_OVER n) (if isOver then 1 else 0)
  let scale := pmuScale mode (s.get (JET_PMU_CTL_IRANGE n))
  let s := { s with jets := { s.jets with
    sums := addSum n scale x s.jets.sums
    scales := spSet n scale s.jets.scales
    link := s.jets.link ++ [(n, ⟨wrap 24 x, c.isSome, isOver⟩)] } }
  if isOver then raiseOnce 0x0507 n [⟨2, n⟩, ⟨3, wrap 18 x⟩] s else s

/-! ### Hooks of banks, ticks and resets -/

/-- Bank b stops driving: PMUs leave their balls and the drivers forget their levels (R53, R188). -/
def jetsForceOff (b : Nat) (s : State) : State :=
  { s with jets := { s.jets with
      drv := spClear (16 * b) (16 * b + 16) s.jets.drv
      bad := s.jets.bad.filter (fun n => n / 16 != b)
      placed := s.jets.placed.filter (fun x => x.ch / 16 != b)
      pmuOn := s.jets.pmuOn.filter (fun n => n / 16 != b)
      clamp := spClear (16 * b) (16 * b + 16) s.jets.clamp } }

/-- At the end of a pattern each Jet its sequencer owns goes to its off state (R241). -/
def jetsIdle (q : Nat) (s : State) : State :=
  { s with jets := { s.jets with
      drv := s.jets.drv.filter (fun p => s.get (JET_CFG_SEQ p.1) != q)
      bad := s.jets.bad.filter (fun n => s.get (JET_CFG_SEQ n) != q) } }

/-- The channel registers of bank b return to their reset values (R177, R187). -/
def jetsReset (b : Nat) (s : State) : State :=
  let s := jetsForceOff b (s.resetRegs (0x3004010000 + 0x100 * (16 * (b % 32))) (0x3004010000 + 0x100 * (16 * (b % 32) + 16)))
  { s with jets := { s.jets with
      blockHeld := s.jets.blockHeld.filter (fun n => n / 16 != b)
      sums := s.jets.sums.filter (fun p => p.ch / 16 != b) } }

/-- What the Jets do at the frame tick: tripped balls whose latch is clear return (R186), blocks that were cleared
return with event 0x0502 (R175), and the frame's PMU sums become its means (R183). -/
def jetsTick (s : State) : State :=
  let back := s.jets.blockHeld
  let s := { s with
    power := { s.power with hiz := s.power.hiz.filter (fun n => bit (s.get (ELIM_TRIP_BALL (n / 16))) (n % 16) || s.on ELIM_STAT_WIRING) }
    jets := { s.jets with blockHeld := [], means := s.jets.sums, sums := [] } }
  forEach back (fun n t => raise 0x0502 [⟨2, n⟩] t) s

/-! ### Commands -/

/-- JET_CONFIG_WRITE (R165, R167). -/
def execJetConfigWrite (a : Agent) (ch : Fin 512) (v : Nat) (s : State) : Out :=
  ok (answered (atIngress (bankDom ch.val) (wrJetCfg a ch.val v) s))

/-- JET_LEVEL_WRITE (R164, R166, R170, R180). -/
def execJetLevelWrite (a : Agent) (ch : Fin 512) (r : LevelReg) (v : Nat) (s : State) : Out :=
  ok (answered (atIngress (bankDom ch.val) (wrJetLevel a ch.val r v) s))

/-- BLOCK_CLEAR (R175). -/
def execBlockClear (a : Agent) (ch : Fin 512) (mask : Nat) (s : State) : Out :=
  ok (answered (atIngress (bankDom ch.val) (wrJetStat a ch.val mask) s))

/-- BANK_MAXRATE_WRITE (R176): JET_BANK_CTL written with the code, SPARE_FOR left as it is. -/
def execBankMaxrateWrite (a : Agent) (b : Fin 32) (code : Nat) (s : State) : Out :=
  ok (answered (if code > 3 then (.range, s)
    else wrJetBankCtl a b.val (s.get (JET_BANK_CTL_SPARE_FOR b.val) * 256 + code) s))

/-- SPARE_FOR_WRITE (R185): JET_BANK_CTL written with the ball, MAXRATE left as it is. -/
def execSpareForWrite (a : Agent) (b : Fin 32) (ball : Nat) (s : State) : Out :=
  ok (answered (if ball > 31 then (.range, s)
    else wrJetBankCtl a b.val (ball * 256 + s.get (JET_BANK_CTL_MAXRATE b.val)) s))

/-- PMU_MODE_WRITE (R179 to R183). -/
def execPmuModeWrite (a : Agent) (ch : Fin 512) (v : Nat) (s : State) : Out :=
  ok (answered (atIngress (bankDom ch.val) (wrJetPmuCtl a ch.val v) s))

/-- PMU_CONNECT (R179): the PMU of a channel in a mode other than OFF reaches its ball. -/
def execPmuConnect (ch : Fin 512) (s : State) : Out :=
  whenOk (domRuns (bankDom ch.val) s && s.power.vin == .on && s.get (JET_PMU_CTL_MODE ch.val) != 0 && !pmuConnected ch.val s &&
      !jetTripped ch.val s) s
    { s with jets := { s.jets with pmuOn := s.jets.pmuOn ++ [ch.val] } }

/-- PMU_SAMPLE (R180, R181, R183). -/
def execPmuSample (ch : Fin 512) (measured : Int) (clamped : Option Bool) (s : State) : Out :=
  whenOk (domRuns (bankDom ch.val) s && pmuConnected ch.val s) s (pmuSample ch.val measured clamped s)

/-- PMU_CLAMP (R181). -/
def execPmuClamp (ch : Fin 512) (hi : Bool) (s : State) : Out :=
  whenOk (domRuns (bankDom ch.val) s && pmuConnected ch.val s &&
    (s.get (JET_PMU_CTL_MODE ch.val) == 1 || s.get (JET_PMU_CTL_MODE ch.val) == 2)) s (pmuClampSet ch.val (some hi) s)

end Sys2Proof.Machine
end

