-- ==== Sys2Proof/Machine/Edge.lean ====
section
/-! DEFINITION. Edge timing: periods, timing sets, placed edges, bad cycles and bank alignment (chapter 09). -/
namespace Sys2Proof.Machine

/-- Minimum separation of driver edges in q (R169, R200). -/
def minSep (n : Nat) (s : State) : Nat := if s.on (JET_CFG_RANGE n) then 4000 else 400

/-- The named drive edges of a format among D1 to D4 (R195). -/
def namedEdges (fmt d1 d2 d3 d4 : Nat) : List Nat :=
  if fmt = 0 ∨ fmt = 4 then [d1]
  else if fmt = 3 then [d1, d2, d3]
  else if fmt = 6 then [d1, d4]
  else [d1, d2]

/-- Each edge lies at least `m` after the one before it (R200 rule 1). -/
def edgesApart (m : Nat) : List Nat → Bool
  | [] => true
  | [_] => true
  | a :: b :: r => decide (a < b) && decide (a + m ≤ b) && edgesApart m (b :: r)

/-- The rules of R200 on a set of edges. -/
def setRules (m per : Nat) (window : Bool) (fmt d1 d2 d3 d4 c1 c2 : Nat) : Bool :=
  let l := namedEdges fmt d1 d2 d3 d4
  edgesApart m l && decide ((l.getLast?.getD 0) + m ≤ per) && decide (c1 ≤ c2) && decide (c2 < per) &&
    (!window || decide (c1 + m ≤ c2))

/-- Set `t` of channel `n` passes R200 with the edges as stored; 0 while the sequencer's domain is not ON (R201). -/
def setOk (n t : Nat) (s : State) : Bool :=
  let q := s.get (JET_CFG_SEQ n)
  domOn (seqDom q) s && setRules (minSep n s) (s.get (ET_PER_PERIOD q t)) (s.get (JET_CFG_STROBE n) == 2)
    (s.get (ET_TS_CFG_FMT n t)) (s.get (ET_TS_DRV12_D1 n t)) (s.get (ET_TS_DRV12_D2 n t)) (s.get (ET_TS_DRV34_D3 n t))
    (s.get (ET_TS_DRV34_D4 n t)) (s.get (ET_TS_CMP_C1 n t)) (s.get (ET_TS_CMP_C2 n t))

/-- ET_CH_STAT.OK: bit t is the OK bit of set t. -/
def setOkMask (n : Nat) (s : State) : Nat :=
  (List.range 64).foldl (fun v t => if setOk n t s then v + 2 ^ t else v) 0

/-- A write of ET_PER(s, t) (R193, R205). -/
def wrEtPer (a : Agent) (q t v : Nat) (s : State) : Status × State :=
  if !a.ctl then (.denied, s)
  else if v < 500 ∨ v > 4192000000 then (.range, s)
  else if !seqStopped q s then (.range, s)
  else (.done, s.set (ET_PER_PERIOD q t) v)

/-- The staged edges and a format pass R200 for set `t` (R199). -/
def stagedOk (n t fmt : Nat) (s : State) : Bool :=
  setRules (minSep n s) (s.get (ET_PER_PERIOD (s.get (JET_CFG_SEQ n)) t)) (s.get (JET_CFG_STROBE n) == 2) fmt
    (s.get (ET_CH_STG_DRV12_D1 n)) (s.get (ET_CH_STG_DRV12_D2 n)) (s.get (ET_CH_STG_DRV34_D3 n))
    (s.get (ET_CH_STG_DRV34_D4 n)) (s.get (ET_CH_STG_CMP_C1 n)) (s.get (ET_CH_STG_CMP_C2 n))

/-- What a commit of set `t` is answered (R199, R200). -/
def commitStatus (n t fmt : Nat) (s : State) : Status :=
  let q := s.get (JET_CFG_SEQ n)
  if !domOn (seqDom q) s then .asleep
  else if !seqStopped q s then .range
  else if stagedOk n t fmt s then .done else .range

/-- The staged edges copied with the format into set `t` (R199). -/
def commitSet (n t fmt : Nat) (s : State) : State :=
  ((((((s.set (ET_TS_DRV12_D1 n t) (s.get (ET_CH_STG_DRV12_D1 n))).set (ET_TS_DRV12_D2 n t) (s.get (ET_CH_STG_DRV12_D2 n))).set
    (ET_TS_DRV34_D3 n t) (s.get (ET_CH_STG_DRV34_D3 n))).set (ET_TS_DRV34_D4 n t) (s.get (ET_CH_STG_DRV34_D4 n))).set
    (ET_TS_CMP_C1 n t) (s.get (ET_CH_STG_CMP_C1 n))).set (ET_TS_CMP_C2 n t) (s.get (ET_CH_STG_CMP_C2 n))).set
    (ET_TS_CFG_FMT n t) fmt

/-- A write of ET_CH_COMMIT (R199, R205). -/
def wrEtCommit (a : Agent) (n v : Nat) (s : State) : Status × State :=
  let t := (ET_CH_COMMIT_TS n).of v
  let fmt := (ET_CH_COMMIT_FMT n).of v
  if !a.ctl then (.denied, s)
  else match commitStatus n t fmt s with
    | .done => (.done, commitSet n t fmt s)
    | st => (st, s)

/-- A write of ET_CH_FIX: RANGE while EN is 1 (R198). -/
def wrEtFix (a : Agent) (n v : Nat) (s : State) : Status × State :=
  if !a.ctl then (.denied, s)
  else if s.on (JET_CFG_EN n) then (.range, s)
  else (.done, writeFlds (ET_CH_FIX_fields n) v s)

/-- Bank b's serialisers aligned (R204). -/
def realign (b : Nat) (s : State) : State := s.set (ET_BANK_STAT_ALIGNED b) 1

/-- A write of ET_BANK_CTL(b) (R204). -/
def wrEtBank (a : Agent) (b v : Nat) (s : State) : Status × State :=
  if !a.ctl then (.denied, s)
  else if !(ET_BANK_CTL_REALIGN b).hit v then (.done, s)
  else if (List.range 16).any (fun c => s.on (JET_CFG_EN (16 * b + c))) then (.range, s)
  else (.done, raise 0x0602 [⟨1, b⟩] (realign b s))

/-- The marker finds bank b misaligned at a tick (R204): each time, ALIGN_LOST and event 0x0601. -/
def alignLost (b : Nat) (s : State) : State :=
  raise 0x0601 [⟨1, b⟩, frameItem s] ((s.set (ET_BANK_STAT_ALIGNED b) 0).set (ET_BANK_STAT_ALIGN_LOST b) 1)

/-- The marker's check of the banks found misaligned at a tick; a bank that is not ON has no serialisers (R204). -/
def alignTick (l : List (Fin 32)) (s : State) : State :=
  forEach l (fun b t => if domOn (16 + b.val) t then alignLost b.val t else t) s

/-! ### The sequencers' engines and the cycles on their way -/

/-- A sequencer's engine; one not listed is as after a reset. -/
def engReset (q : Nat) : SeqEng :=
  { q := q, rep := 0, begun := false, repRecs := none, calls := [], loops := [], replay := none, pages := [], demand := none,
    prefWait := [], queue := [], issued := [], seen := [], enq := 0, nextK := 0, nextT := 0, lastData := [], vecAt := 0,
    vecBuf := [], ending := none, stopReq := false, startTick := 0, t0Ps := 0, masks := [], xw := false, yw := false,
    zw := false, fticks := 0, pauseTicks := 0, pauseWarned := false, sluWait := none, sluTicks := 0, syncAt := 0, mfrom := 0,
    mreps := 0, mfail := 0, markers := [], doneK := 0 }

/-- The engine of sequencer q. -/
def eng (q : Nat) (s : State) : SeqEng := (s.seqs.find? (fun e => e.q == q)).getD (engReset q)

/-- Engines in the order of their sequencers; one as after a reset is not listed. -/
def engPut (e : SeqEng) : List SeqEng → List SeqEng
  | [] => if e = engReset e.q then [] else [e]
  | x :: r =>
    if e.q < x.q then (if e = engReset e.q then x :: r else e :: x :: r)
    else if e.q = x.q then (if e = engReset e.q then r else e :: r)
    else x :: engPut e r

/-- A sequencer's engine replaced. -/
def setEng (e : SeqEng) (s : State) : State := { s with seqs := engPut e s.seqs }

/-- A sequencer's engine changed. -/
def modEng (q : Nat) (f : SeqEng → SeqEng) (s : State) : State := setEng (f (eng q s)) s

/-- The site masks of the cycle numbered n (R244): those of the newest change that covers it. -/
def masksOf (q n : Nat) (s : State) : MaskFrom := ((eng q s).masks.find? (fun m => decide (m.n ≤ n))).getD ⟨0, 0, 0⟩

/-- The site masks of the cycles that come. -/
def masksNow (q : Nat) (s : State) : MaskFrom := (eng q s).masks.head?.getD ⟨0, 0, 0⟩

/-- The changes, newest first, that cycle n or a later one can still need. -/
def keepMasks (n : Nat) : List MaskFrom → List MaskFrom
  | [] => []
  | m :: r => if m.n ≤ n then [m] else m :: keepMasks n r

/-- The oldest cycle whose masks can still be asked for: one on its way, or the one before a JFAIL. -/
def oldestCycle (e : SeqEng) : Nat :=
  (e.issued ++ e.queue).foldl (fun m c => min m c.n) (if e.begun then min e.enq (e.syncAt - 1) else e.enq)

/-- The masks of the cycles from n on. -/
def pushMasks (q n off mask : Nat) (s : State) : State :=
  modEng q (fun e => { e with masks := ⟨n, off, mask⟩ :: keepMasks (oldestCycle e) e.masks }) s

/-- A cycle on its way starts before the last frame tick (R194, R264): T0 is the edge of the start tick, and T(k) counts q. -/
def beforeTick (e : SeqEng) (c : Cyc) (s : State) : Bool := decide (4 * e.t0Ps + c.t < 4 * s.clock.tickPs)

/-- The first cycle of a sequencer that starts at or after the last frame tick, by its number (R197, R244). -/
def firstAfterTick (q : Nat) (s : State) : Nat :=
  let e := eng q s
  match (e.issued.filter (fun c => !beforeTick e c s)) ++ e.queue with
  | c :: _ => c.n
  | [] => e.enq

/-! ### Placed edges -/

/-- The corrections, drive and compare, of a channel's cycle by the cycle's number (R197): those in force, unless a boundary after the
cycle's start replaced the ones it began with. -/
def corrOf (n cyc : Nat) (s : State) : Int × Int :=
  match s.edge.corrOld.find? (fun x => x.ch == n && decide (cyc < x.upTo)) with
  | some x => (x.drv, x.cmp)
  | none => (sext 16 (s.get (ET_CH_CORR_CORR_DRV n)), sext 16 (s.get (ET_CH_CORR_CORR_CMP n)))

/-- A drive edge of a cycle placed (R196), in q. -/
def placeDrive (n cyc tk e : Nat) (s : State) : Int :=
  (tk : Int) + e + sext 16 (s.get (ET_CH_CAL_CAL_DRV n)) + (corrOf n cyc s).1 - sext 16 (s.get (ET_CH_FIX_FIX n))

/-- A strobe edge of a cycle placed (R196), in q. -/
def placeStrobe (n cyc tk e : Nat) (s : State) : Int :=
  (tk : Int) + e + sext 16 (s.get (ET_CH_CAL_CAL_CMP n)) + (corrOf n cyc s).2 + sext 16 (s.get (ET_CH_FIX_FIX n))

/-- Pattern-clock cycle, slot and fine delay of a placed edge (R203). -/
def edgeSplit (p : Int) : Int × Nat × Nat := (p / 4000, (p % 4000).toNat / 250, (p % 250).toNat)

/-- An edge as its serialiser takes it (R203). -/
def serialise (p : Int) (level : Nat) : PlacedEdge := ⟨p, (edgeSplit p).1, (edgeSplit p).2.1, (edgeSplit p).2.2, level⟩

/-- The nominal edge of a number (1 to 4) of set `t`. -/
def driveEdge (n t e : Nat) (s : State) : Nat :=
  if e = 1 then s.get (ET_TS_DRV12_D1 n t) else if e = 2 then s.get (ET_TS_DRV12_D2 n t)
  else if e = 3 then s.get (ET_TS_DRV34_D3 n t) else s.get (ET_TS_DRV34_D4 n t)

/-- The edges of a cycle as placed on a channel and split by its serialisers (R196, R203): a cycle that does not drive goes to its off
state at D1 (R168). The strobes of an even k go to lane 0, those of an odd k to lane 1. -/
def placeCycle (n : Nat) (c : Cyc) (drive d : Bool) (s : State) : Placed :=
  let t := c.ts
  let l := if drive then formatEdges (s.get (ET_TS_CFG_FMT n t)) d else [(1, 0)]
  ⟨n, c.k, false, l.map (fun p => serialise (placeDrive n c.n c.t (driveEdge n t p.1 s) s) p.2),
    serialise (placeStrobe n c.n c.t (s.get (ET_TS_CMP_C1 n t)) s) 0, serialise (placeStrobe n c.n c.t (s.get (ET_TS_CMP_C2 n t)) s) 0,
    c.k % 2⟩

/-- A channel's last placed edges among those of all channels, in the order of the channels. -/
def putPlaced (x : Placed) : List Placed → List Placed
  | [] => [x]
  | y :: r => if x.ch < y.ch then x :: y :: r else if x.ch = y.ch then x :: r else y :: putPlaced x r

/-- Where a channel's last cycle was placed. -/
def placedOf (n : Nat) (s : State) : Option Placed := s.jets.placed.find? (fun x => x.ch == n)

/-- The channel's cycle is a bad cycle: its set fails R200, or its bank is not aligned (R202, R204). -/
def badCycle (n t : Nat) (s : State) : Bool := !setOk n t s || !s.on (ET_BANK_STAT_ALIGNED (n / 16))

/-- A bad cycle counts and raises 0x0603 at most once per frame (R202). -/
def countBad (n t : Nat) (s : State) : State :=
  let s := s.count (ET_CH_BADCYC_COUNT n) 1
  let s := { s with edge := { s.edge with badFrame := spSet n (spGet n s.edge.badFrame + 1) s.edge.badFrame } }
  raiseOnce 0x0603 n [⟨2, n⟩, ⟨1, t⟩, frameItem s] s

/-! ### The timing-set record -/

/-- The edges of a record staged on a channel (R209). -/
def stageRecord (n : Nat) (r : List Byte) (s : State) : State :=
  let e (i : Nat) := ofBytes (slice (4 + 4 * i) 4 r)
  (((((s.set (ET_CH_STG_DRV12_D1 n) (e 0)).set (ET_CH_STG_DRV12_D2 n) (e 1)).set (ET_CH_STG_DRV34_D3 n) (e 2)).set
    (ET_CH_STG_DRV34_D4 n) (e 3)).set (ET_CH_STG_CMP_C1 n) (e 4)).set (ET_CH_STG_CMP_C2 n) (e 5)

/-- The first status other than DONE of a list, or DONE. -/
def firstFailure : List Status → Status
  | [] => .done
  | .done :: r => firstFailure r
  | st :: _ => st

/-- The channels a record addresses: one, or every channel of a sequencer whose bank is ON (R209). -/
def recordChannels (c : Nat) (s : State) : Option (List Nat) :=
  if c < 512 then some [c]
  else if 0x8000 ≤ c ∧ c < 0x8010 then
    some ((List.range 512).filter (fun n => s.get (JET_CFG_SEQ n) == c - 0x8000 && domOn (bankDom n) s))
  else none

/-- The timing-set record: every addressed channel is checked before any of them commits. One channel's edges stay staged though its
commit fails (R199, R209). -/
def wrRecord (r : List Byte) (s : State) : Status × State :=
  let t := ofBytes (slice 2 1 r)
  let fmt := ofBytes (slice 3 1 r)
  match recordChannels (ofBytes (slice 0 2 r)) s with
  | none => (.range, s)
  | some l =>
    if r.length ≠ 32 ∨ t > 63 ∨ fmt > 7 then (.range, s)
    else
      let st (n : Nat) : Status :=
        match domRefuses (bankDom n) s with
        | some st => st
        | none => commitStatus n t fmt (stageRecord n r s)
      match firstFailure (l.map st), l with
      | .done, _ => (.done, forEach l (fun n u => commitSet n t fmt (stageRecord n r u)) s)
      | x, [n] => (x, if ofBytes (slice 0 2 r) < 512 && (domRefuses (bankDom n) s).isNone then stageRecord n r s else s)
      | x, _ => (x, s)

/-- A write of object 0x3400:0x10 with its role check; 0x3400:0x11 takes the status of the commit (R209). -/
def wrRecordObject (a : Agent) (r : List Byte) (s : State) : Status × State :=
  if !a.im then (.denied, s)
  else
    let x := wrRecord r s
    (x.1, { x.2 with edge := { x.2.edge with recStatus := x.1 } })

/-- The record that object 0x3400:0x13 reads for the selected channel and set (R209). -/
def readRecord (s : State) : List Byte :=
  let n := s.edge.select % 65536
  let t := s.edge.select / 65536 % 64
  toBytes 2 n ++ toBytes 1 t ++ toBytes 1 (s.get (ET_TS_CFG_FMT n t)) ++ toBytes 4 (s.get (ET_TS_DRV12_D1 n t)) ++
    toBytes 4 (s.get (ET_TS_DRV12_D2 n t)) ++ toBytes 4 (s.get (ET_TS_DRV34_D3 n t)) ++
    toBytes 4 (s.get (ET_TS_DRV34_D4 n t)) ++ toBytes 4 (s.get (ET_TS_CMP_C1 n t)) ++
    toBytes 4 (s.get (ET_TS_CMP_C2 n t)) ++ toBytes 4 0

/-! ### Hooks -/

/-- The edge registers of bank b return to their reset values (R206); `calKept` leaves CAL and CORR to their copy. -/
def edgeReset (b : Nat) (s : State) : State :=
  let s := (s.resetRegs (0x3005100000 + 0x800 * (16 * (b % 32))) (0x3005100000 + 0x800 * (16 * (b % 32) + 16))).resetRegs
    (0x3005200000 + 0x80 * (16 * (b % 32))) (0x3005200000 + 0x80 * (16 * (b % 32) + 16))
  let s := s.resetRegs (0x3005002000 + 0x10 * (b % 32)) (0x3005002010 + 0x10 * (b % 32))
  { s with edge := { s.edge with
      corrOld := s.edge.corrOld.filter (fun x => x.ch / 16 != b)
      badFrame := spClear (16 * b) (16 * b + 16) s.edge.badFrame } }

/-- The period table and sequence status of group g's sequencers return to their reset values (R206). -/
def edgeGroupReset (g : Nat) (s : State) : State :=
  (s.resetRegs (0x3005010000 + 0x100 * (4 * (g % 4))) (0x3005010000 + 0x100 * (4 * (g % 4) + 4))).resetRegs
    (0x3005001000 + 0x8 * (4 * (g % 4))) (0x3005001000 + 0x8 * (4 * (g % 4) + 4))

/-- The bad cycles of a frame become those of the last frame. -/
def edgeTick (s : State) : State := { s with edge := { s.edge with badLast := s.edge.badFrame, badFrame := [] } }

/-! ### Commands -/

/-- PERIOD_WRITE (R193). -/
def execPeriodWrite (a : Agent) (q : Fin 16) (t : Fin 64) (v : Nat) (s : State) : Out :=
  ok (answered (atIngress (seqDom q.val) (wrEtPer a q.val t.val v) s))

/-- TIMING_SET_COMMIT (R199, R200). -/
def execTimingSetCommit (a : Agent) (ch : Fin 512) (v : Nat) (s : State) : Out :=
  ok (answered (atIngress (bankDom ch.val) (wrEtCommit a ch.val v) s))

/-- TIMING_SET_RECORD_WRITE (R209). -/
def execTimingSetRecordWrite (a : Agent) (r : List Byte) (s : State) : Out := ok (answered (wrRecordObject a r s))

/-- BANK_REALIGN (R204). -/
def execBankRealign (a : Agent) (b : Fin 32) (s : State) : Out :=
  ok (answered (atIngress (16 + b.val) (wrEtBank a b.val 1) s))

end Sys2Proof.Machine
end

