-- ==== Sys2Proof/Machine/Weir.lean ====
section
/-! DEFINITION. Weir: live measurement and correction of drift, sentinels, offline calibration and its record
(chapter 10). -/
namespace Sys2Proof.Machine

/-- The channel counts frames (R213). -/
def weirCounts (n : Nat) (s : State) : Bool :=
  s.on WEIR_CTL_RUN && domOn (bankDom n) s && s.on (JET_CFG_EN n) && !s.on (WEIR_CH_STAT_UNCAL n)

/-- The drive estimate is needed (USE BOTH or DRIVE), and the compare estimate (USE BOTH or COMPARE) (R213). -/
def needsDrv (n : Nat) (s : State) : Bool := s.get (WEIR_CH_CTL_USE n) == 0 || s.get (WEIR_CH_CTL_USE n) == 2
def needsCmp (n : Nat) (s : State) : Bool := s.get (WEIR_CH_CTL_USE n) == 0 || s.get (WEIR_CH_CTL_USE n) == 1

/-- What Weir has measured on a channel so far in the frame. -/
def weirAcc (n : Nat) (s : State) : WeirAcc := (s.weir.acc.find? (fun a => a.ch == n)).getD ⟨n, 0, 0, 0, 0, 0⟩

/-- The measurements of one channel replaced, in the order of the channels. -/
def putAcc (x : WeirAcc) : List WeirAcc → List WeirAcc
  | [] => [x]
  | a :: r => if x.ch < a.ch then x :: a :: r else if x.ch = a.ch then x :: r else a :: putAcc x r

/-- The slew and swing that count (R557): 0.5 to 40 V/ns, and VIH above VIL by at least 200 mV. -/
def slewOk (n slew : Nat) (s : State) : Bool :=
  decide (500 ≤ slew) && decide (slew ≤ 40000) &&
    decide (s.get (JET_LVL_DRV_VIL n) + (if s.on (JET_CFG_RANGE n) then 1600 else 5000) ≤ s.get (JET_LVL_DRV_VIH n))

/-- The driver's edge that launched a crossing, among those last placed on the channel (R196, R211). -/
def launchedEdge (n : Nat) (e : WitnessEdge) (s : State) : Option PlacedEdge :=
  e.launched.bind (fun i => (placedOf n s).bind (fun p => p.drive[i]?))

/-- Of a sentinel only the rising edge is timed (R218). -/
def sentinelTimed (n : Nat) (e : WitnessEdge) (s : State) : Bool :=
  match e.launched, placedOf n s with
  | some i, some p => !p.sent || i == 1
  | _, _ => true

/-- The edge is counted (R210, R212). -/
def edgeCounts (n : Nat) (e : WitnessEdge) (s : State) : Bool :=
  domOn (bankDom n) s && slewOk n e.slew s && !jetBlocked n s && !decide (n ∈ s.jets.bad) && !e.settling &&
    !pmuConnected n s && !bit (s.get (ELIM_TRIP_BALL (n / 16))) (n % 16) && sentinelTimed n e s

/-- The drive error of an edge placed at P: witness time − WIT − P, in 1/16 q (R211). -/
def drvError (n : Nat) (e : WitnessEdge) (p : Int) (s : State) : Int := e.witQ16 - 16 * sext 16 (spGet n s.weir.wit) - 16 * p

/-- The compare error of a crossing, in 1/16 q (R211): (comparator time − witness time) − the compare path delay of the calibration
record − the CORR_CMP in force. The record's compare path delay is read as CAL_CMP, the one compare value that it holds (DEDUCED,
notes/assumptions/29.md). -/
def cmpError (n : Nat) (e : WitnessEdge) (s : State) : Int :=
  e.cmpQ16 - e.witQ16 - 16 * sext 16 (s.get (WEIR_CH_CAL_CAL_CMP n)) - 16 * sext 16 (s.get (ET_CH_CORR_CORR_CMP n))

/-- The edge's errors added to the channel's estimates (R211). -/
def weirAdd (n : Nat) (e : WitnessEdge) (s : State) : State :=
  let a := weirAcc n s
  let a := match launchedEdge n e s with
    | some p => { a with drvSum := a.drvSum + drvError n e p.p s, drvN := a.drvN + 1 }
    | none => a
  let a := if e.crosses then { a with cmpSum := a.cmpSum + cmpError n e s, cmpN := a.cmpN + 1 } else a
  { s with weir := { s.weir with acc := putAcc a s.weir.acc } }

/-- An estimate: the mean rounded with halves away from zero and clipped, or 0 below 64 edges (R211, R213). -/
def weirEst (sum : Int) (n : Nat) : Int :=
  if n < 64 then 0 else max (-32767) (min 32767 (roundAway sum n))

/-- The step of a correction before its limit (R214): late edges step the drive correction down and the compare
correction up. -/
def weirStep (est : Int) (deadband : Nat) (compare : Bool) : Int :=
  let d := if est ≥ (deadband : Int) then -1 else if est ≤ -(deadband : Int) then 1 else 0
  if compare then -d else d

/-! ### Sentinels -/

/-- A sentinel is still wanted on the channel in this frame (R218). -/
def sentWanted (n : Nat) (s : State) : Bool :=
  let a := weirAcc n s
  decide (n ∈ s.weir.sentOn) && decide (a.sent < spGetD 64 n s.weir.sentMax) &&
    ((needsDrv n s && decide (a.drvN < 64)) || (needsCmp n s && decide (a.cmpN < 64)))

/-- A masked cycle with set `t` and period `per` is eligible for a sentinel (R218). -/
def sentEligible (n t per : Nat) (s : State) : Bool :=
  decide (s.get (ET_TS_DRV12_D1 n t) + 3 * minSep n s ≤ per) && setOk n t s && !jetBlocked n s && !badCycle n t s &&
    !pmuConnected n s

/-- A sentinel inserted into a masked cycle: VIL at D1, VIH at D1 + m, the off state at D1 + 2m (R218). -/
def sentinelEdges (n : Nat) (c : Cyc) (s : State) : List PlacedEdge :=
  let d1 := s.get (ET_TS_DRV12_D1 n c.ts)
  let at_ (e : Nat) : Int := placeDrive n c.n c.t e s
  [serialise (at_ d1) 2, serialise (at_ (d1 + minSep n s)) 1, serialise (at_ (d1 + 2 * minSep n s)) 0]

/-- The sentinel counted toward SENT_MAX. -/
def countSentinel (n : Nat) (s : State) : State :=
  let a := weirAcc n s
  { s with weir := { s.weir with acc := putAcc { a with sent := a.sent + 1 } s.weir.acc } }

/-! ### The frame -/

/-- The corrections in force on a channel are kept for the cycles that start before the boundary (R197); those that no cycle on its
way can still use are forgotten. -/
def keepCorr (n : Nat) (s : State) : State :=
  let q := s.get (JET_CFG_SEQ n)
  let oldest := oldestCycle (eng q s)
  let l := s.edge.corrOld.filter (fun x => x.ch != n || decide (oldest < x.upTo))
  let upTo := firstAfterTick q s
  { s with edge := { s.edge with corrOld := if oldest < upTo then
      l ++ [⟨n, upTo, sext 16 (s.get (ET_CH_CORR_CORR_DRV n)), sext 16 (s.get (ET_CH_CORR_CORR_CMP n))⟩] else l } }

/-- One correction stepped in Weir's store and in edge timing, which always agree (R215). Weir does not step an UNCAL channel (R230),
nor one whose bank has left ON since the decision (R233). -/
def applyStep (x : WeirStep) (s : State) : State :=
  if s.on (WEIR_CH_STAT_UNCAL x.ch) || !domOn (bankDom x.ch) s || (x.drv == 0 && x.cmp == 0) then s
  else
    let d := wrap 16 (sext 16 (s.get (WEIR_CH_CORR_CORR_DRV x.ch)) + x.drv)
    let c := wrap 16 (sext 16 (s.get (WEIR_CH_CORR_CORR_CMP x.ch)) + x.cmp)
    let s := keepCorr x.ch s
    (((s.set (WEIR_CH_CORR_CORR_DRV x.ch) d).set (WEIR_CH_CORR_CORR_CMP x.ch) c).set (ET_CH_CORR_CORR_DRV x.ch) d).set
      (ET_CH_CORR_CORR_CMP x.ch) c

/-- The boundary's corrections (R215, R217): delivered decisions take effect; undelivered ones are an overrun of duty 2
and are discarded; with RUN 0 every correction is held. -/
def weirBoundary (s : State) : State :=
  match s.weir.decided with
  | none => s
  | some d =>
    let s := { s with weir := { s.weir with decided := none } }
    if !s.on WEIR_CTL_RUN then s
    else if d.delivered then forEach d.steps applyStep s
    else raise 0x0708 [⟨6, d.frame⟩] (s.count (FRM_OVR_COUNT 2) 1)

/-- A step of a valid estimate within CORR_LIM, or the limit bit of the correction with event 0x0701 (R214): a step of 0 is tested too. -/
def limitStep (n : Nat) (compare : Bool) (step : Int) (s : State) : Int × State :=
  let corr := sext 16 (s.get (if compare then WEIR_CH_CORR_CORR_CMP n else WEIR_CH_CORR_CORR_DRV n))
  if (corr + step).natAbs > s.get WEIR_LIM_CORR_LIM then
    (0, raise 0x0701 [⟨2, n⟩, ⟨1, if compare then 1 else 0⟩, ⟨2, wrap 16 corr⟩]
      (s.set (if compare then WEIR_CH_STAT_LIMIT_CMP n else WEIR_CH_STAT_LIMIT_DRV n) 1))
  else (step, s)

/-- QUIET, STALE and SETTLING of a channel that counts frames, at a frame's close (R220, R221). -/
def weirQuiet (n : Nat) (quiet settled : Bool) (s : State) : State :=
  let q := s.get (WEIR_CH_STAT_QUIET n)
  if quiet then
    let s := s.count (WEIR_CH_STAT_QUIET n) 1
    let q := s.get (WEIR_CH_STAT_QUIET n)
    if q ≥ s.get WEIR_CTL_STALE_FRAMES ∧ s.on (WEIR_CH_STAT_STALE n) = false then
      raise 0x0702 [⟨2, n⟩, ⟨2, q⟩] (s.set (WEIR_CH_STAT_STALE n) 1)
    else s
  else
    let stale := s.on (WEIR_CH_STAT_STALE n)
    let s := ((s.set (WEIR_CH_STAT_QUIET n) 0).set (WEIR_CH_STAT_STALE n) 0).setIf settled (WEIR_CH_STAT_SETTLING n) 0
    if stale then raise 0x0703 [⟨2, n⟩, ⟨2, q⟩] s else s

/-- The close of the frame on one channel of an ON bank: its estimates, and where it counts frames its decision
(R211, R213, R214, R220, R221). -/
def closeChannel (n : Nat) (p : List WeirStep × State) : List WeirStep × State :=
  let s := p.2
  if !domOn (bankDom n) s then p
  else
    let a := weirAcc n s
    let drv := weirEst a.drvSum a.drvN
    let cmp := weirEst a.cmpSum a.cmpN
    let cnt (x : Nat) : Nat := min x 65535
    let s := ((((s.set (WEIR_CH_EST_EST_DRV n) (wrap 16 drv)).set (WEIR_CH_EST_EST_CMP n) (wrap 16 cmp)).set
      (WEIR_CH_EST_EDGES_DRV n) (cnt a.drvN)).set (WEIR_CH_EST_EDGES_CMP n) (cnt a.cmpN)).set
      (WEIR_CH_STAT_SENT_LAST n) a.sent
    if !weirCounts n s then (p.1, s)
    else
      let db := s.get WEIR_CTL_DEADBAND
      let okD := decide (64 ≤ a.drvN)
      let okC := decide (64 ≤ a.cmpN)
      let quiet := (needsDrv n s && !okD) || (needsCmp n s && !okC)
      let inside := (!needsDrv n s || decide (drv.natAbs ≤ db)) && (!needsCmp n s || decide (cmp.natAbs ≤ db))
      let d := if needsDrv n s && okD then limitStep n false (weirStep drv db false) s else (0, s)
      let c := if needsCmp n s && okC then limitStep n true (weirStep cmp db true) d.2 else (0, d.2)
      (p.1 ++ [⟨n, d.1, c.1⟩], weirQuiet n quiet inside c.2)

/-- The close of the frame on every channel (R214). With RUN 1 there are decisions, steps of 0 included (R217). The
sentinel settings written so far come into force (R218). -/
def weirClose (frame : Nat) (s : State) : State :=
  let p := (List.range 512).foldl (fun p n => closeChannel n p) (([] : List WeirStep), s)
  let t := p.2
  { t with weir := { t.weir with
      acc := []
      decided := if t.on WEIR_CTL_RUN then some ⟨frame, p.1, false⟩ else none
      sentOn := (List.range 512).filter (fun n => t.on (WEIR_CH_CTL_SENT n))
      sentMax := (List.range 512).filterMap (fun n =>
        if t.get (WEIR_CH_CTL_SENT_MAX n) = 64 then none else some (n, t.get (WEIR_CH_CTL_SENT_MAX n))) } }

/-- What Weir does at the tick that ends frame `frame` (R214 to R217). -/
def weirTick (frame : Nat) (s : State) : State := weirClose frame (weirBoundary s)

/-! ### Registers -/

/-- Initiators of R231. -/
def wrWeirCtl (a : Agent) (v : Nat) (s : State) : Status × State :=
  if !a.ctl then (.denied, s)
  else if WEIR_CTL_STALE_FRAMES.of v = 0 ∨ WEIR_CTL_DEADBAND.of v = 0 then (.range, s)
  else (.done, writeFlds WEIR_CTL_fields v s)

/-- A write of WEIR_LIM. -/
def wrWeirLim (a : Agent) (v : Nat) (s : State) : Status × State :=
  if !a.ctl then (.denied, s)
  else if WEIR_LIM_CORR_LIM.of v = 0 ∨ WEIR_LIM_CORR_LIM.of v > 32767 then (.range, s)
  else (.done, writeFlds WEIR_LIM_fields v s)

/-- A write of WEIR_CH_CTL(n). -/
def wrWeirChCtl (a : Agent) (n v : Nat) (s : State) : Status × State :=
  if !a.ctl then (.denied, s)
  else if (WEIR_CH_CTL_SENT_MAX n).of v < 64 then (.range, s)
  else (.done, writeFlds (WEIR_CH_CTL_fields n) v s)

/-- A write of WEIR_CH_STAT(n): its W1C bits. -/
def wrWeirChStat (a : Agent) (n v : Nat) (s : State) : Status × State :=
  if !a.ctl then (.denied, s) else (.done, writeFlds (WEIR_CH_STAT_fields n) v s)

/-- Who may write WEIR_CAL_BANKS and WEIR_CAL_CTL (R226). -/
def calWriter (a : Agent) : Bool := a.core01 || a.fieldIM

/-- A write of WEIR_CAL_BANKS. -/
def wrCalBanks (a : Agent) (v : Nat) (s : State) : Status × State :=
  if !calWriter a then (.denied, s) else (.done, writeFlds WEIR_CAL_BANKS_fields v s)

/-- The failure of a bank at GO (R225). -/
def calAtGo (b : Nat) (s : State) : Nat :=
  if domOn (16 + b) s && s.on (ET_BANK_STAT_ALIGNED b) then calFault b s else 1

/-- A write of WEIR_CAL_CTL: GO or SAVE, answered RANGE while a run or a save is in progress, for an empty bank mask, and
for both at once (R226, R228). -/
def wrCalCtl (a : Agent) (v : Nat) (s : State) : Status × State :=
  let go := WEIR_CAL_CTL_GO.hit v
  let save := WEIR_CAL_CTL_SAVE.hit v
  if !calWriter a then (.denied, s)
  else if (go || save) && s.on WEIR_CAL_INFO_BUSY then (.range, s)
  else if go && (save || s.get WEIR_CAL_BANKS_BANKS == 0) then (.range, s)
  else if go then
    let l := (List.range 32).filter (fun b => bit (s.get WEIR_CAL_BANKS_BANKS) b)
    (.done, { s.set WEIR_CAL_INFO_BUSY 1 with weir := { s.weir with run := some (l.map (fun b => ⟨b, calAtGo b s⟩)) } })
  else if save then (.done, { s.set WEIR_CAL_INFO_BUSY 1 with weir := { s.weir with saving := true } })
  else (.done, s)

/-! ### Calibration results -/

/-- The code of a bank from its results: 5 NOISE, 6 SPAN, 0 none (R225). -/
def calResultCode (l : List BallCal) : Nat :=
  if l.any (fun x => decide (x.spread > 40)) then 5
  else if l.any (fun x => decide (x.calDrv.natAbs > 4000) || decide (x.calCmp.natAbs > 4000) || decide (x.wit.natAbs > 4000)) then 6
  else 0

/-- The results of a bank. -/
def resultsOf (b : Nat) (l : List BallCal) : List BallCal := l.filter (fun x => x.ch.val / 16 == b)

/-- CAL and CORR copied from Weir into edge timing for one channel (R198). -/
def copyCal (n : Nat) (s : State) : State :=
  (((s.set (ET_CH_CAL_CAL_DRV n) (s.get (WEIR_CH_CAL_CAL_DRV n))).set (ET_CH_CAL_CAL_CMP n) (s.get (WEIR_CH_CAL_CAL_CMP n))).set
    (ET_CH_CORR_CORR_DRV n) (s.get (WEIR_CH_CORR_CORR_DRV n))).set (ET_CH_CORR_CORR_CMP n) (s.get (WEIR_CH_CORR_CORR_CMP n))

/-- A channel of a bank that passed (R227). -/
def calTake (x : BallCal) (s : State) : State :=
  let n := x.ch.val
  let s := (((((s.set (WEIR_CH_CAL_CAL_DRV n) (wrap 16 x.calDrv)).set (WEIR_CH_CAL_CAL_CMP n) (wrap 16 x.calCmp)).set
    (WEIR_CH_CORR_CORR_DRV n) 0).set (WEIR_CH_CORR_CORR_CMP n) 0).set (WEIR_CH_STAT_UNCAL n) 0).set (WEIR_CH_STAT_SETTLING n) 0
  copyCal n { s with weir := { s.weir with
    wit := spSet n (wrap 16 x.wit) s.weir.wit
    phys := spSetD 0xFF n (if jetSpared n s then 1 else 0) s.weir.phys } }

/-- One bank of the run ends: it passes and takes its results, or fails with its code (R225, R227). -/
def calBankEnd (results : List BallCal) (x : CalBank) (s : State) : State :=
  let l := resultsOf x.bank results
  let code := if x.code ≠ 0 then x.code else calResultCode l
  if code ≠ 0 then
    (s.set (WEIR_CAL_ERR_CODE x.bank) code).set WEIR_CAL_STAT_FAILED (putBit (s.get WEIR_CAL_STAT_FAILED) x.bank true)
  else
    (forEach l calTake s).set WEIR_CAL_STAT_DONE (putBit (s.get WEIR_CAL_STAT_DONE) x.bank true)

/-- The run's end: DONE and FAILED, DIRTY when a bank passed, event 0x0704 (R227). -/
def calEnd (results : List BallCal) (l : List CalBank) (s : State) : State :=
  let s := (s.set WEIR_CAL_STAT_DONE 0).set WEIR_CAL_STAT_FAILED 0
  let s := forEach l (calBankEnd results) s
  let s := (s.setIf (s.get WEIR_CAL_STAT_DONE != 0) WEIR_CAL_INFO_DIRTY 1).set WEIR_CAL_INFO_BUSY 0
  raise 0x0704 [⟨4, s.get WEIR_CAL_STAT_DONE⟩, ⟨4, s.get WEIR_CAL_STAT_FAILED⟩]
    { s with weir := { s.weir with run := none } }

/-! ### The record -/

/-- The calibration record of R229 over the working record. -/
def calRecord (hottest : Int) (s : State) : List Byte :=
  let body := toBytes 4 0x43524957 ++ toBytes 2 1 ++ toBytes 2 512 ++ toBytes 16 Config.serial ++
    toBytes 8 (frameCount s) ++ toBytes 4 (wrap 32 hottest) ++ toBytes 4 0 ++
    (List.range 512).flatMap (fun n => toBytes 2 (s.get (WEIR_CH_CAL_CAL_DRV n)) ++ toBytes 2 (s.get (WEIR_CH_CAL_CAL_CMP n)) ++
      toBytes 2 (spGet n s.weir.wit) ++ toBytes 1 (spGetD 0xFF n s.weir.phys) ++ toBytes 1 0)
  body ++ toBytes 4 (crc32c body)

/-- A copy's CRC-32C, magic, version and serial match (R230). -/
def copyValid (c : List Byte) : Bool :=
  c.length == 4140 && ofBytes (slice 4136 4 c) == crc32c (c.take 4136) && ofBytes (slice 0 4 c) == 0x43524957 &&
    ofBytes (slice 4 2 c) == 1 && slice 8 16 c == toBytes 16 Config.serial

/-- The frame count of a copy. -/
def copyFrame (c : List Byte) : Nat := ofBytes (slice 24 6 c)

/-- The newer valid copy (R230). -/
def newestCopy (c : List Byte × List Byte) : Option (List Byte) :=
  if copyValid c.1 then (if copyValid c.2 && decide (copyFrame c.1 < copyFrame c.2) then some c.2 else some c.1)
  else if copyValid c.2 then some c.2 else none

/-- A channel marked UNCAL: CAL and WIT 0, CORR 0, event 0x0706 with its cause: 0 no record, 1 PHYS mismatch, 2 never
calibrated (R230). -/
def markUncal (n cause : Nat) (s : State) : State :=
  let s := ((((s.set (WEIR_CH_STAT_UNCAL n) 1).set (WEIR_CH_CAL_CAL_DRV n) 0).set (WEIR_CH_CAL_CAL_CMP n) 0).set
    (WEIR_CH_CORR_CORR_DRV n) 0).set (WEIR_CH_CORR_CORR_CMP n) 0
  raise 0x0706 [⟨2, n⟩, ⟨1, cause⟩] { s with weir := { s.weir with wit := spDel n s.weir.wit } }

/-- The UNCAL check of one channel (R230). -/
def checkUncal (n : Nat) (s : State) : State :=
  let p := spGetD 0xFF n s.weir.phys
  if s.on (WEIR_CH_STAT_UNCAL n) then s
  else if p = 0xFF then markUncal n 2 s
  else if (p == 1) != jetSpared n s then markUncal n 1 s
  else s

/-- One entry of a copy applied to the working record. -/
def applyEntry (c : List Byte) (n : Nat) (s : State) : State :=
  let at_ := 40 + 8 * n
  let s := (s.set (WEIR_CH_CAL_CAL_DRV n) (ofBytes (slice at_ 2 c))).set (WEIR_CH_CAL_CAL_CMP n) (ofBytes (slice (at_ + 2) 2 c))
  { s with weir := { s.weir with
      wit := spSet n (ofBytes (slice (at_ + 4) 2 c)) s.weir.wit
      phys := spSetD 0xFF n (ofBytes (slice (at_ + 6) 1 c)) s.weir.phys } }

/-- Boot step 7: after a COLD reset the record is applied, or every channel is UNCAL with event 0x0707 (R230); a WARM reset keeps the
working record, CAL, WIT, CORR and UNCAL as they are (R232). -/
def weirBoot (s : State) : State :=
  if s.get RST_CAUSE_KIND = 1 then s else match newestCopy s.weir.copies with
  | some c => forNat 512 checkUncal (forNat 512 (applyEntry c) (s.set WEIR_CAL_INFO_RECORD_OK 1))
  | none =>
    let crc (x : List Byte) : Nat := if x.length == 4140 && ofBytes (slice 4136 4 x) == crc32c (x.take 4136) then 1 else 0
    forNat 512 (fun n => markUncal n 0) (raise 0x0707 [⟨1, crc s.weir.copies.1⟩, ⟨1, crc s.weir.copies.2⟩] s)

/-- The save ends: each copy that verifies holds the record, SAVE_STATUS, DIRTY, event 0x0705 (R228). -/
def saveEnd (c0 c1 : Bool) (hottest : Int) (s : State) : State :=
  let r := calRecord hottest s
  let st := if c0 && c1 then Status.done else Status.fault
  let s := (s.set WEIR_CAL_INFO_SAVE_STATUS st.code).set WEIR_CAL_INFO_BUSY 0
  let s := s.setIf (c0 && c1) WEIR_CAL_INFO_DIRTY 0
  raise 0x0705 [⟨1, st.code⟩, frameItem s]
    { s with weir := { s.weir with saving := false, copies := (if c0 then r else [], if c1 then r else []) } }

/-! ### Hooks -/

/-- Bank b reaches ON: the UNCAL check of a changed tap, CAL and CORR copied, SETTLING set (R198, R221, R230). -/
def weirBankOn (b : Nat) (tapChanged : Bool) (s : State) : State :=
  forNat 16 (fun c t =>
    let n := 16 * b + c
    copyCal n ((if tapChanged then checkUncal n t else t).set (WEIR_CH_STAT_SETTLING n) 1)) s

/-- Bank b leaves ON (R233): a running calibration of it fails with code 7 (R225), its channels' edges of the frame are no longer
counted, and no step decided for them changes their corrections. -/
def weirBankLeave (b : Nat) (s : State) : State :=
  let s := calMark (fun x => if x = b then 7 else 0) s
  { s with weir := { s.weir with
      acc := s.weir.acc.filter (fun x => x.ch / 16 != b)
      decided := s.weir.decided.map (fun d => { d with steps := d.steps.filter (fun x => x.ch / 16 != b) }) } }

/-- A DOMAIN reset of bank b (R206, R232): CORR 0, statuses cleared, then CAL copied and SETTLING set as it is ON again. -/
def weirBankReset (b : Nat) (s : State) : State :=
  let s := weirBankLeave b s
  forNat 16 (fun c t =>
    let n := 16 * b + c
    let t := (t.set (WEIR_CH_CORR_CORR_DRV n) 0).set (WEIR_CH_CORR_CORR_CMP n) 0
    let uncal := t.get (WEIR_CH_STAT_UNCAL n)
    let t := t.resetRegs (0x300601000C + 0x20 * (n % 512)) (0x3006010020 + 0x20 * (n % 512))
    copyCal n ((t.set (WEIR_CH_STAT_UNCAL n) uncal).set (WEIR_CH_STAT_SETTLING n) 1)) s

/-- WARM (R232): settings and statuses return to reset values; CAL, CORR, UNCAL, the record and DIRTY are kept; a
running calibration's banks fail with code 7. -/
def weirWarm (s : State) : State :=
  let s := calMark (fun _ => 7) s
  let s := match s.weir.run with | some l => calEnd [] l s | none => s
  let s := s.resetRegs 0x3006000100 0x3006000210
  let s := s.set WEIR_CAL_INFO_BUSY 0
  let s := forNat 512 (fun n t =>
    let uncal := t.get (WEIR_CH_STAT_UNCAL n)
    let t := t.resetRegs (0x3006010000 + 0x20 * (n % 512)) (0x3006010004 + 0x20 * (n % 512))
    (t.resetRegs (0x300601000C + 0x20 * (n % 512)) (0x3006010020 + 0x20 * (n % 512))).set (WEIR_CH_STAT_UNCAL n) uncal) s
  { s with weir := { s.weir with acc := [], decided := none, sentOn := [], sentMax := [], saving := false } }

/-! ### Commands -/

/-- WITNESS_EDGE (R211, R212, R557). -/
def execWitnessEdge (ch : Fin 512) (e : WitnessEdge) (s : State) : Out :=
  whenOk (edgeCounts ch.val e s) s (weirAdd ch.val e s)

/-- A slot is still open when the decisions are ready, 200 ns after the tick: it ends later than that (R215, R216). -/
def openAt200 (s : State) (slot : Nat) : Bool := decide (slotStart (slot + 1) (s.get FRM_STAT_PERIOD_ACT) > 200)

/-- WEIR_CORRECTION_DELIVERY (R215 to R217): the unit starts in a slot of duty 2 that is still open when the decisions
are ready, and delivers them if it completes before the next tick. -/
def execWeirCorrectionDelivery (inTime : Bool) (s : State) : Out :=
  match s.weir.decided with
  | none => ok s
  | some d => if s.on WEIR_CTL_RUN then
      inDuty 2 (openAt200 s) s (fun t => whenOk inTime t { t with weir := { t.weir with decided := some { d with delivered := true } } })
    else ok s

/-- WEIR_CALIBRATE (R223, R226). -/
def execWeirCalibrate (a : Agent) (s : State) : Out := ok (answered (wrCalCtl a 1 s))

/-- Every running bank that has not failed has results for its 16 balls. -/
def resultsComplete (results : List BallCal) (l : List CalBank) : Bool :=
  l.all (fun x => x.code != 0 || (List.range 16).all (fun c => results.any (fun r => r.ch.val == 16 * x.bank + c)))

/-- WEIR_CALIBRATION_END (R225, R227). -/
def execWeirCalibrationEnd (results : List BallCal) (s : State) : Out :=
  match s.weir.run with
  | none => ok s
  | some l => whenOk (resultsComplete results l) s (calEnd results l s)

/-- WEIR_SAVE (R228). -/
def execWeirSave (a : Agent) (s : State) : Out := ok (answered (wrCalCtl a 2 s))

/-- WEIR_SAVE_END (R228, R229). -/
def execWeirSaveEnd (c0 c1 : Bool) (hottest : Int) (s : State) : Out :=
  whenOk s.weir.saving s (saveEnd c0 c1 hottest s)

end Sys2Proof.Machine
end

