-- ==== Sys2Proof/Machine/Hbm.lean ====
section
/-! DEFINITION. The HBM2E controller: lines and their error correction, scheduling, row disturbance, scrubbing and range
passes (chapter 15). -/
namespace Sys2Proof.Machine

/-- The stack's size in bytes (R344). -/
def hbmSize : Nat := 0x400000000

/-! HBM_STAT.STATE codes (R345). -/
def hbmOff : Nat := 0
def hbmTraining : Nat := 1
def hbmReady : Nat := 2
def hbmSelfRefresh : Nat := 3
def hbmFailed : Nat := 4

/-- The answer of the controller to a request in its present state (R102, R345); none while it is READY. -/
def hbmRefuses (s : State) : Option Status :=
  let st := s.get HBM_STAT_STATE
  if 64 ∈ s.power.resetHold ∨ 65 ∈ s.power.resetHold then some .retry
  else if st = hbmReady then none
  else if st = hbmTraining then some .retry
  else if st = hbmFailed then some .fault
  else some .asleep

/-! ### Address map (R344) -/

/-- The row of an address. -/
def hbmRow (a : Nat) : Nat := bits a 19 15

/-- The bank of an address, of 512: pseudo-channel, SID, bank group and bank, with the XOR of BXOR. -/
def hbmBank (a : Nat) (s : State) : Nat :=
  let x := s.on HBM_CFG_BXOR
  let bg := if x then Nat.xor (bits a 14 2) (bits (hbmRow a) 0 2) else bits a 14 2
  let bk := if x then Nat.xor (bits a 16 2) (bits (hbmRow a) 2 2) else bits a 16 2
  bits a 6 4 * 32 + bits a 18 1 * 16 + bg * 4 + bk

/-- One of the n lines from an address lies in the bank whose row is being replaced (R544). -/
def hbmReplacing (a n : Nat) (s : State) : Bool :=
  match s.hbm.subst with
  | none => false
  | some k => (List.range n).any (fun i => hbmBank (a + 64 * i) s == k / 32768)

/-- The pair is shutting down: nothing new is accepted (R52). -/
def pairLowers (s : State) : Bool := domState 64 s == dsLowering || domState 65 s == dsLowering

/-- What a request for n lines from an address is answered without being served: ASLEEP also while the pair shuts down (R52), RETRY
while a DOMAIN reset of the pair waits for the requests accepted before it (R102). -/
def hbmRefusesAt (a n : Nat) (s : State) : Option Status :=
  match hbmRefuses s with
  | some st => some st
  | none => if pairLowers s then some .asleep
    else if 64 ∈ s.power.resetWait ∨ 65 ∈ s.power.resetWait ∨ hbmReplacing a n s then some .retry else none

/-! ### Row disturbance (R351) -/

/-- The entries of a bank. -/
def distOf (bank : Nat) (l : List DistEnt) : List DistEnt := l.filter (fun e => e.bank == bank)

/-- The lowest count among entries. -/
def distMin (l : List DistEnt) : Nat := l.foldl (fun m e => min m e.count) ((l.head?.map (·.count)).getD 0)

/-- An entry with its count replaced. -/
def distSet (bank row n : Nat) (l : List DistEnt) : List DistEnt :=
  l.map (fun e => if e.bank = bank ∧ e.row = row then { e with count := n } else e)

/-- The first entry of a bank that has a count, replaced by another row's. -/
def distReplace (bank old row n : Nat) : List DistEnt → List DistEnt
  | [] => []
  | e :: r => if e.bank = bank ∧ e.count = old then ⟨bank, row, n⟩ :: r else e :: distReplace bank old row n r

/-- A row activated: counted in its bank's table of 64; at THRESH its neighbours are due a targeted refresh. -/
def activate (bank row : Nat) (s : State) : State :=
  let l := s.hbm.dist
  let here := distOf bank l
  let n := match here.find? (fun e => e.row == row) with
    | some e => e.count + 1
    | none => if here.length < 64 then 1 else distMin here + 1
  let l' := match here.find? (fun e => e.row == row) with
    | some _ => distSet bank row n l
    | none => if here.length < 64 then l ++ [⟨bank, row, n⟩] else distReplace bank (distMin here) row n l
  let due := if n ≥ s.get HBM_CFG_THRESH ∧ (bank, row) ∉ s.hbm.due then s.hbm.due ++ [(bank, row)] else s.hbm.due
  { s with hbm := { s.hbm with dist := l', due := due } }

/-- An access opens its row, and is an activate when another row was open or none. -/
def openRow (a : Nat) (s : State) : State :=
  let b := hbmBank a s
  let r := hbmRow a
  if spGet b s.hbm.rows = r + 1 then s
  else activate b r { s with hbm := { s.hbm with rows := spSet b (r + 1) s.hbm.rows } }

/-- The neighbours of a row that a targeted refresh refreshes: rows ±1, with RADIUS 1 also ±2, inside the bank (R351). -/
def neighbours (row : Nat) (s : State) : List Nat :=
  let d := if s.on HBM_CFG_RADIUS then [2, 1] else [1]
  d.filterMap (fun k => if k ≤ row then some (row - k) else none) ++
    d.reverse.filterMap (fun k => if row + k < 32768 then some (row + k) else none)

/-- How many rows a targeted refresh of a row of a bank refreshes: for a replaced row, the neighbours of the spare row (R351), whose
place in the bank is open (notes/assumptions/37.md). -/
def refreshed (bank row : Nat) (s : State) : Nat :=
  if spGet (32768 * bank + row) s.hbm.spares = 0 then (neighbours row s).length
  else Config.spareNeighbours bank row % (if s.on HBM_CFG_RADIUS then 5 else 3)

/-! ### Error correction (R352, R353) -/

/-- One corrected word: CORR and LEVEL rise; past BUCKET the bucket overflows (R353). -/
def hbmCorr1 (s : State) : State :=
  let s := s.count HBM_ECC_STAT_CORR 1
  let s := { s with hbm := { s.hbm with corrFrame := s.hbm.corrFrame + 1 } }
  if s.get HBM_ECC_STAT_LEVEL + 1 > s.get HBM_ECC_CTL_BUCKET then
    raise 0x0C01 [⟨2, s.get HBM_ECC_STAT_CORR⟩] ((s.set HBM_ECC_STAT_OVERFLOW 1).set HBM_ECC_STAT_LEVEL 0)
  else s.set HBM_ECC_STAT_LEVEL (s.get HBM_ECC_STAT_LEVEL + 1)

/-- So many corrected words. -/
def hbmCorr (n : Nat) (s : State) : State := forNat n (fun _ t => hbmCorr1 t) s

/-- An uncorrectable error inside the image cache clears the verified mark of its slot, or of the staging area (R145). -/
def imageMarkOff (line : Nat) (s : State) : State :=
  let a := 64 * line
  if 0x3C0000000 ≤ a ∧ a < 0x3CC000000 then s.set LDR_CACHE_FULL_OK 0
  else if 0x3CC000000 ≤ a ∧ a < 0x3D8000000 then
    s.set LDR_CACHE_SLOT_OK (putBit (s.get LDR_CACHE_SLOT_OK) ((a - 0x3CC000000) / 0xC00000) false)
  else s

/-- An uncorrectable line: UNCORR, the error log of 16 entries, event 0x0C02 (R352). FOUND: 0 read, 1 read-modify-write,
2 scrubber, 3 range pass. -/
def hbmUncorr (line found src : Nat) (s : State) : State :=
  let s := imageMarkOff line (s.count HBM_ECC_STAT_UNCORR 1)
  let e := found * 2 ^ 62 + src * 2 ^ 56 + 2 ^ 34 + line * 2 ^ 6
  let s := noteSign 6 (32768 * hbmBank (64 * line) s + hbmRow (64 * line)) { s with hbm := { s.hbm with uncorrTotal := s.hbm.uncorrTotal + 1 } }
  let s := if s.hbm.log.length < 16 then { s with hbm := { s.hbm with log := s.hbm.log ++ [e] } } else s.count HBM_ECC_STAT_LOST 1
  raise 0x0C02 [⟨4, line⟩, ⟨1, found⟩, ⟨1, src⟩] s

/-- An error that strikes one word of a line as it is read. -/
def strikeWord (line : Nat) (u : WordUpset) (s : State) : State :=
  let m := if u.double then spGet line s.hbm.dbl else spGet line s.hbm.sgl
  let m := putBit m u.word.val true
  if u.double then { s with hbm := { s.hbm with dbl := spSet line m s.hbm.dbl } }
  else { s with hbm := { s.hbm with sgl := spSet line m s.hbm.sgl } }

/-- The check of a line as it is read: poisoned by a double-bit error, else its single-bit errors are corrected and
written back (R352). -/
def checkLine (line found src : Nat) (s : State) : Bool × State :=
  if spGet line s.hbm.dbl ≠ 0 then (true, hbmUncorr line found src s)
  else (false, hbmCorr (popCount 8 (spGet line s.hbm.sgl)) { s with hbm := { s.hbm with sgl := spDel line s.hbm.sgl } })

/-- The 64 bytes of a line as stored. -/
def lineBytes (line : Nat) (s : State) : List Byte := memRead 0 (64 * line) 64 s.hbm.mem

/-- A line read: POISON, or its bytes. -/
def lineRead (line found src : Nat) (s : State) : Option (List Byte) × State :=
  let s := openRow (64 * line) s
  let c := checkLine line found src s
  (if c.1 then none else some (lineBytes line c.2), c.2)

/-- The number of bits set in a 64-bit mask and an 8-bit mask. -/
def flipWeight (d c : Nat) : Nat := popCount 64 d + popCount 8 c

/-- What a word stored with flipped data and check bits shows when it is read: 0 nothing, 1 a corrected error, 2 a
double-bit error; beyond two wrong bits it is open (R354, notes/assumptions/6.md). -/
def flipFinds (d c : Nat) : Nat :=
  if flipWeight d c ≤ 2 then flipWeight d c else min 2 (Config.eccFinds d c)

/-- The bits by which such a word reads wrong. -/
def flipResidue (d c : Nat) : Nat := if flipWeight d c ≤ 2 then 0 else Config.eccResidue d c % 2 ^ 64

/-- XOR of the 64-bit word `w` of a line's bytes. -/
def xorWord (w x : Nat) (l : List Byte) : List Byte :=
  l.take (8 * w) ++ toBytes 8 (Nat.xor (ofBytes (slice (8 * w) 8 l)) x) ++ l.drop (8 * w + 8)

/-- The flip is armed for a line (R354). -/
def hbmFlipAt (line : Nat) (s : State) : Bool := s.on HBM_FLIP_CTL_ARM && s.get HBM_FLIP_CTL_LINE == line

/-- A whole line stored: earlier errors are gone, and an armed flip of the line is stored with it and disarmed. -/
def lineStore (line : Nat) (data : List Byte) (s : State) : State :=
  let put (l : List Byte) (t : State) : State := { t with hbm := { t.hbm with
    mem := memWrite 0 (64 * line) (l.take 64) t.hbm.mem, sgl := spDel line t.hbm.sgl, dbl := spDel line t.hbm.dbl } }
  if hbmFlipAt line s then
    let w := s.get HBM_FLIP_CTL_WORD
    let d := s.get HBM_FLIP_DATA_DMASK
    let c := s.get HBM_FLIP_CTL_CMASK
    let s := put (xorWord w (flipResidue d c) data) (s.set HBM_FLIP_CTL_ARM 0)
    if flipFinds d c = 0 then s
    else if flipFinds d c = 1 then { s with hbm := { s.hbm with sgl := spSet line (2 ^ w) s.hbm.sgl } }
    else { s with hbm := { s.hbm with dbl := spSet line (2 ^ w) s.hbm.dbl } }
  else put data s

/-- Bytes merged into a line where their enable is set. -/
def mergeBytes (be : Nat) (new old : List Byte) : List Byte :=
  (List.range 64).map (fun i => if bit be i then (new[i]?).getD 0 else (old[i]?).getD 0)

/-- A partial write of a line by read-modify-write: aborted with POISON on a double-bit error (R352). -/
def lineMerge (line be src : Nat) (data : List Byte) (s : State) : Status × State :=
  match lineRead line 1 src s with
  | (none, t) => (.poison, t)
  | (some old, t) => (.done, lineStore line (mergeBytes be data old) t)

/-- A write of a line by its byte enables: whole, or merged. -/
def lineWrite (line be src : Nat) (data : List Byte) (s : State) : Status × State :=
  if be % 2 ^ 64 = 2 ^ 64 - 1 then (.done, lineStore line data (openRow (64 * line) s)) else lineMerge line be src data s

/-! ### Scheduling (R347 to R349) -/

/-- The class of an initiator (R15): 0 PATTERN, 1 CAPTURE, 2 HOST, 3 BACKGROUND. -/
def classOf (init : Nat) : Nat :=
  if 4 ≤ init ∧ init ≤ 19 then 0 else if init = 45 ∨ init = 46 then 1 else if init = 48 then 3 else 2

/-- A class's share of a profile, bytes in 1 µs (R20). -/
def classShare (profile cls : Nat) : Nat :=
  let t (a b c d : Nat) : Nat := if cls = 0 then a else if cls = 1 then b else if cls = 2 then c else d
  if profile = 0 then t 224000 64000 80000 16000
  else if profile = 1 then t 288000 64000 24000 8000
  else if profile = 2 then t 128000 64000 160000 32000
  else 0

/-- The most the controller moves in 1 µs, bytes (R349). -/
def hbmCap (s : State) : Nat := if hasClass clsBurst s then 460800 else 384000

/-- A request that no older request of its source stands before. -/
def isHead (r : HbmReq) (q : List HbmReq) : Bool :=
  match q.find? (fun x => x.src == r.src) with
  | some x => x.id == r.id
  | none => false

/-- A request's first line falls in an open row. -/
def rowHit (r : HbmReq) (s : State) : Bool := spGet (hbmBank r.addr s) s.hbm.rows == hbmRow r.addr + 1

/-- The first of a list that meets the first of two tests, else the second alone. -/
def pickHit (l : List HbmReq) (s : State) : Option HbmReq :=
  match l.find? (fun r => rowHit r s) with
  | some r => some r
  | none => l.head?

/-- The first pick among classes in the order PATTERN, CAPTURE, HOST, BACKGROUND that a test admits. -/
def pickClass (l : List HbmReq) (s : State) : List Nat → Option HbmReq
  | [] => none
  | c :: r =>
    match pickHit (l.filter (fun x => x.cls == c)) s with
    | some x => some x
    | none => pickClass l s r

/-- The next request by the tiers of R347: promoted, oldest first; then classes below their share; then the lending
order. -/
def hbmPick (s : State) : Option HbmReq :=
  let q := s.hbm.queue
  let l := q.filter (fun r => isHead r q)
  match l.find? (·.promoted) with
  | some r => some r
  | none =>
    let below := [0, 1, 2, 3].filter (fun c => decide (spGet c s.hbm.moved < classShare (curProfile s) c))
    match pickClass l s below with
    | some r => some r
    | none => pickClass l s [0, 1, 2, 3]

/-- A request's bytes counted in the window and in the frame. -/
def countMoved (cls lines : Nat) (s : State) : State :=
  { s with hbm := { s.hbm with
      moved := spSet cls (spGet cls s.hbm.moved + 64 * lines) s.hbm.moved
      lines := spSet cls (spGet cls s.hbm.lines + lines) s.hbm.lines } }

/-- The bytes moved in the window by every class. -/
def movedAll (s : State) : Nat := [0, 1, 2, 3].foldl (fun t c => t + spGet c s.hbm.moved) 0

/-- So many lines of a class may move in the window as it stands (R22, R347, R349, R567): the cap is kept; no promoted request
waits; and the class stays within its share, or nothing waits that comes before it in lending: no request of a class below its share
or earlier in the lending order. An access longer than the share goes through several windows and asks only for the second. -/
def hbmAdmits (c n : Nat) (s : State) : Bool :=
  let heads := s.hbm.queue.filter (fun r => isHead r s.hbm.queue)
  let share := classShare (curProfile s) c
  !heads.any (·.promoted) && (decide (share < 64 * n) ||
    (decide (movedAll s + 64 * n ≤ hbmCap s) && (decide (spGet c s.hbm.moved + 64 * n ≤ share) ||
      !heads.any (fun r => r.cls != c &&
        (decide (spGet r.cls s.hbm.moved < classShare (curProfile s) r.cls) || decide (r.cls < c))))))

/-- An engine's lines may move now, or meet a controller that refuses them. -/
def hbmWindow (c n : Nat) (s : State) : Bool := (hbmRefuses s).isSome || hbmAdmits c n s

/-- The lines of an access counted. One that does not fit the window goes on in later ones, of which the last holds what is left. -/
def takeLines (c n : Nat) (s : State) : State :=
  let share := classShare (curProfile s) c
  if hbmAdmits c n s && decide (64 * n ≤ share) then countMoved c n s
  else
    let t := countMoved c n s
    { t with hbm := { t.hbm with moved := spSet c (64 * n % (share + 64)) [] } }

/-- The class limit in force for promotion is the sender's to know: a request and every older one of its source are
promoted (R347, R348). -/
def promote (id : Nat) (s : State) : State :=
  match s.hbm.queue.find? (fun r => r.id == id) with
  | none => s
  | some r =>
    let hit (x : HbmReq) : Bool := x.src == r.src && decide (x.id ≤ id) && !x.promoted
    let n := (s.hbm.queue.filter hit).length
    { s with hbm := { s.hbm with
        queue := s.hbm.queue.map (fun x => if hit x then { x with promoted := true } else x)
        promoted := spSet r.cls (spGet r.cls s.hbm.promoted + n) s.hbm.promoted } }

/-- A request enters the controller's queue, each line for a keyed region or none. -/
def hbmEnqueue (src addr lines : Nat) (write : Option (List Byte)) (be seq : Nat) (regions : List (Option Nat)) (s : State) : State :=
  { s with hbm := { s.hbm with
      queue := s.hbm.queue ++ [⟨s.hbm.nextId, src, classOf src, addr, lines, write, be, false, seq, regions⟩]
      nextId := s.hbm.nextId + 1 } }

/-! ### Registers (R358) -/

/-- A write of HBM_CFG: THRESH at least 256, BXOR changed only in OFF (R344, R351). -/
def wrHbmCfg (a : Agent) (v : Nat) (s : State) : Status × State :=
  if !a.ctl then (.denied, s)
  else if HBM_CFG_THRESH.of v < 256 then (.range, s)
  else if s.changes HBM_CFG_BXOR v && s.get HBM_STAT_STATE != hbmOff then (.range, s)
  else (.done, writeFlds HBM_CFG_fields v s)

/-- A write of HBM_AGE: no limit of 0. -/
def wrHbmAge (a : Agent) (v : Nat) (s : State) : Status × State :=
  if !a.ctl then (.denied, s)
  else if HBM_AGE_BACKGROUND.of v = 0 ∨ HBM_AGE_HOST.of v = 0 ∨ HBM_AGE_CAPTURE.of v = 0 ∨ HBM_AGE_PATTERN.of v = 0 then
    (.range, s)
  else (.done, writeFlds HBM_AGE_fields v s)

/-- A write of HBM_ECC_CTL: BUCKET not 0. -/
def wrHbmEccCtl (a : Agent) (v : Nat) (s : State) : Status × State :=
  if !a.ctl then (.denied, s)
  else if HBM_ECC_CTL_BUCKET.of v = 0 then (.range, s)
  else (.done, writeFlds HBM_ECC_CTL_fields v s)

/-- A write of HBM_ECC_STAT, HBM_FLIP_DATA or HBM_FLIP_CTL by its access codes (R354). -/
def wrHbmPlain (l : List (Acc × Fld)) (a : Agent) (v : Nat) (s : State) : Status × State :=
  if !a.ctl then (.denied, s) else (.done, writeFlds l v s)

/-- A write of HBM_PASS: GO is answered RANGE while a pass runs or for a range beyond the stack, and places its SCRUB
request (R356). -/
def wrHbmPass (a : Agent) (v : Nat) (s : State) : Status × State :=
  let n := HBM_PASS_COUNT.of v
  if !a.ctl then (.denied, s)
  else if !HBM_PASS_GO.hit v then (.done, writeFlds HBM_PASS_fields v s)
  else if s.on HBM_PASS_GO || n == 0 || decide (HBM_PASS_FIRST.of v + n > 4194304) then (.range, s)
  else match placeOrRetry ⟨clsScrub, 0x7F, 10, passFrames (4096 * n) s, a.init.val, forHbmPass⟩ s with
    | (.done, t) => (.done, writeFlds HBM_PASS_fields v
        { t with hbm := { t.hbm with passFirst := HBM_PASS_FIRST.of v, passCount := n } })
    | x => x

/-- A read of HBM_ERRLOG: the oldest entry, removed unless it is a debugger's peek (R7, R358). -/
def popErrlog (s : State) : Nat × State :=
  match s.hbm.log with
  | [] => (0, s)
  | e :: r => (e, { s with hbm := { s.hbm with log := r } })

/-! ### Passes and scrubbing -/

/-- The line lies in the area of the counter tree (R365). -/
def inTreeArea (a : Nat) : Bool := decide (0x370000000 ≤ a) && decide (a < 0x3C0000000)

/-- The scrubber's or a pass's check of a line: corrected and written back, or counted and left (R352). -/
def scrubLine (line found : Nat) (s : State) : State :=
  let s := openRow (64 * line) s
  if spGet line s.hbm.dbl ≠ 0 then hbmUncorr line found 0 s
  else hbmCorr (popCount 8 (spGet line s.hbm.sgl)) { s with hbm := { s.hbm with sgl := spDel line s.hbm.sgl } }

/-- The lines of a range that hold errors. -/
def badLines (lo hi : Nat) (s : State) : List Nat :=
  ((s.hbm.sgl.map (·.1)).filter (fun l => spGet l s.hbm.dbl == 0) ++ s.hbm.dbl.map (·.1)).filter
    (fun l => decide (lo ≤ l) && decide (l < hi))

/-- The scrubber's next line: it skips the tree area (R355). -/
def nextScrub (l : Nat) : Nat :=
  let n := if l + 1 ≥ hbmSize / 64 then 0 else l + 1
  if inTreeArea (64 * n) then 0x3C0000000 / 64 else n

/-- The end of a granted range pass (R356). -/
def passEnd (s : State) : State :=
  let lo := 64 * s.hbm.passFirst
  let n := 64 * s.hbm.passCount
  let l := badLines lo (lo + n) s
  let unc := (l.filter (fun x => spGet x s.hbm.dbl != 0)).length
  let cor := l.foldl (fun t x => if spGet x s.hbm.dbl = 0 then t + popCount 8 (spGet x s.hbm.sgl) else t) 0
  let s := takeLines 3 (min n (backgroundPerFrame s / 64)) (forEach l (fun x t => scrubLine x 3 t) s)
  let s := ((s.set HBM_PASS_SUM_UNCORR (min unc 65535)).set HBM_PASS_SUM_CORR (min cor 65535)).set HBM_PASS_SUM_LINES n
  let s := raise 0x0C06 [⟨8, readFlds HBM_PASS_SUM_fields s⟩] (s.set HBM_PASS_GO 0)
  match entryFor forHbmPass s with
  | some k => sluEnd k s
  | none => s

/-- A range pass in progress is ended by a reset and its grant released (R359); the same where the pair leaves ON, with no summary
(DESIGN CHOICE, notes/assumptions/37.md). -/
def passAbort (s : State) : State :=
  let s := s.set HBM_PASS_GO 0
  match entryFor forHbmPass s with
  | some k => sluEnd k s
  | none => s

/-! ### Hooks -/

/-- Both domains of the pair are ON. -/
def pairOn (s : State) : Bool := domOn 64 s && domOn 65 s

/-- The pair reached ON: training from OFF with its contents undefined; from RETAIN self-refresh exit follows (R345,
R346). -/
def hbmReachOn (s : State) : State :=
  if pairOn s && s.get HBM_STAT_STATE == hbmOff then
    { s.set HBM_STAT_STATE hbmTraining with hbm := { s.hbm with mem := [], sgl := [], dbl := [] } }
  else s

/-- Every open row closed and every table cleared. -/
def hbmQuiet (s : State) : State := { s with hbm := { s.hbm with rows := [], dist := [], due := [] } }

/-- The pair goes to RETAIN after quiescence: self-refresh, contents kept (R346). -/
def hbmRetain (s : State) : State := hbmQuiet ((passAbort s).set HBM_STAT_STATE hbmSelfRefresh)

/-- The registers that a DOMAIN reset of the pair or a WARM reset returns to their reset values (R359). -/
def hbmRegsReset (s : State) : State :=
  let s := s.resetRegs 0x300B000108 0x300B000110
  let s := s.resetRegs 0x300B000200 0x300B000210
  let s := s.resetRegs 0x300B000220 0x300B000308
  s.resetRegs 0x300B000400 0x300B000600

/-- The pair loses power: contents and registers are lost. -/
def hbmPowerOff (s : State) : State :=
  let s := hbmQuiet ((hbmRegsReset (passAbort s)).set HBM_STAT_STATE hbmOff)
  { s with hbm := { s.hbm with mem := [], sgl := [], dbl := [], queue := [] } }

/-- A DOMAIN reset of 64 or 65: contents lost, the pair retrains, a pass ends (R359). -/
def hbmDomainReset (s : State) : State :=
  let s := hbmQuiet (hbmRegsReset (passAbort s))
  { s.set HBM_STAT_STATE hbmTraining with hbm := { s.hbm with mem := [], sgl := [], dbl := [], queue := [] } }

/-- What the controller does at a tick: the leak, HBM_CLS, event 0x0C03, the per-frame counts (R353, R360). -/
def hbmTick (s : State) : State :=
  let s := s.set HBM_ECC_STAT_LEVEL (s.get HBM_ECC_STAT_LEVEL - s.get HBM_ECC_CTL_LEAK)
  let s := forNat 4 (fun k t => (t.set (HBM_CLS_LINES k) (min (spGet k t.hbm.lines) (2 ^ 32 - 1))).set
    (HBM_CLS_PROMOTED k) (min (spGet k t.hbm.promoted) (2 ^ 32 - 1))) s
  let s := if s.hbm.tgtCount = 0 then s else raise 0x0C03 [⟨4, s.hbm.tgtCount⟩, ⟨2, s.hbm.tgtBank⟩] s
  { s with hbm := { s.hbm with lines := [], promoted := [], tgtCount := 0, corrLast := s.hbm.corrFrame, corrFrame := 0 } }

/-! ### Commands -/

/-- HBM_PROMOTE (R347, R348). -/
def execHbmPromote (id : Nat) (s : State) : Out := ok (promote id s)

/-- HBM_TRAINING_END (R345, R357): the fuse map is read during training. -/
def execHbmTrainingEnd (good : Bool) (channel : Fin 8) (s : State) : Out :=
  whenOk (s.get HBM_STAT_STATE == hbmTraining) s
    (if good then (s.set HBM_STAT_STATE hbmReady).set HBM_SPARE_USED s.hbm.spares.length
     else raise 0x0C05 [⟨1, channel.val⟩] (s.set HBM_STAT_STATE hbmFailed))

/-- HBM_SELF_REFRESH_EXIT (R346, R357). -/
def execHbmSelfRefreshExit (s : State) : Out :=
  whenOk (s.get HBM_STAT_STATE == hbmSelfRefresh && pairOn s) s
    ((s.set HBM_STAT_STATE hbmReady).set HBM_SPARE_USED s.hbm.spares.length)

/-- HBM_REFRESH (R350, R351): a bank is refreshed with its row closed; a window's start clears every table. Targeted refreshes that are
due by then are still made. -/
def execHbmRefresh (bank : Fin 512) (windowStart : Bool) (s : State) : Out :=
  let t := { s with hbm := { s.hbm with rows := spDel bank.val s.hbm.rows } }
  whenOk (s.get HBM_STAT_STATE == hbmReady) s
    (if windowStart then { t with hbm := { t.hbm with dist := [] } } else t)

/-- TARGETED_REFRESH (R351). -/
def execTargetedRefresh (bank : Fin 512) (row : Nat) (s : State) : Out :=
  let n := refreshed bank.val row s
  let t := s.count HBM_DIST_TARGETED n
  whenOk (decide ((bank.val, row) ∈ s.hbm.due)) s
    { t with hbm := { t.hbm with
        due := t.hbm.due.erase (bank.val, row)
        dist := distSet bank.val row 0 t.hbm.dist
        tgtBank := if t.hbm.tgtCount = 0 then bank.val else t.hbm.tgtBank
        tgtCount := t.hbm.tgtCount + n } }

/-- HBM_TEMPERATURE (R350). -/
def execHbmTemperature (c : Nat) (s : State) : Out :=
  let t := s.set HBM_STAT_TEMP (min c 255)
  if c ≥ 85 ∧ s.on HBM_STAT_HOT = false then ok (raise 0x0C07 [⟨1, 1⟩, ⟨1, min c 255⟩] (t.set HBM_STAT_HOT 1))
  else if c < 80 ∧ s.on HBM_STAT_HOT then ok (raise 0x0C07 [⟨1, 0⟩, ⟨1, min c 255⟩] (t.set HBM_STAT_HOT 0))
  else ok t

/-- HBM_SCRUB_LINE (R352, R355). -/
def execHbmScrubLine (u : Option WordUpset) (s : State) : Out :=
  let l := s.hbm.scrubAt
  let s1 := match u with | some x => strikeWord l x s | none => s
  let s2 := takeLines 3 1 (scrubLine l 2 s1)
  whenOk (s.get HBM_STAT_STATE == hbmReady && s.get HBM_ECC_CTL_SCRUB_RATE != 0 && hbmAdmits 3 1 s) s
    { s2 with hbm := { s2.hbm with scrubAt := nextScrub l } }

/-- HBM_RANGE_PASS (R356). -/
def execHbmRangePass (a : Agent) (v : Nat) (s : State) : Out := ok (answered (atIngress 65 (wrHbmPass a v) s))

/-- HBM_RANGE_PASS_END (R356). -/
def execHbmRangePassEnd (s : State) : Out :=
  whenOk (s.on HBM_PASS_GO && grantedForPurpose forHbmPass s && (hbmRefuses s).isNone) s (passEnd s)

/-- HBM_FLIP_ARM (R354). -/
def execHbmFlipArm (a : Agent) (v : Nat) (s : State) : Out :=
  ok (answered (atIngress 65 (wrHbmPlain HBM_FLIP_CTL_fields a v) s))

/-- HBM_ERRLOG_POP (R358): a read of the register, which a peek of the debug port leaves as it is (R527). -/
def execHbmErrlogPop (a : Agent) (s : State) : Out :=
  let p := popErrlog s
  ok (answerVal p.1 (if a.init.val = 50 ∧ s.on DBG_CTL_SIDE = false then s else p.2))

end Sys2Proof.Machine
end

