-- ==== Sys2Proof/Machine/Enc.lean ====
section
/-! DEFINITION. Inline encryption and integrity: regions, keys, counter trees, poison and rekeying (chapter 16). -/
namespace Sys2Proof.Machine

/-! ENC_REG_CTL.STATE codes. -/
def encOff : Nat := 0
def encActive : Nat := 1
def encRekeying : Nat := 2
def encRequired : Nat := 3

/-- The region is in service under a key: not OFF. -/
def encLive (r : Nat) (s : State) : Bool := s.get (ENC_REG_CTL_STATE r) != encOff

/-- The first byte and the first byte after a region (R363). -/
def encBase (r : Nat) (s : State) : Nat := 65536 * s.get (ENC_REG_RANGE_BASE r)
def encEnd (r : Nat) (s : State) : Nat := 65536 * (s.get (ENC_REG_RANGE_LIMIT r) + 1)

/-- The region that keys an address, if any. -/
def encRegion (a : Nat) (s : State) : Option Nat :=
  (List.range 8).find? (fun r => encLive r s && decide (encBase r s ≤ a) && decide (a < encEnd r s))

/-- SLOT(r) (R365). -/
def encSlot (r : Nat) : Nat := 0x370000000 + 0x0A000000 * r

/-- Lines of a region. -/
def encLines (r : Nat) (s : State) : Nat := (encEnd r s - encBase r s) / 64

/-- Nodes of a level (R367). -/
def levelNodes (lines : Nat) : Nat → Nat
  | 0 => ceilDiv lines 8
  | l + 1 => ceilDiv (levelNodes lines l) 8

/-- The smallest H for which level H − 1 has at most 8 nodes (R367). -/
def treeHeight (lines : Nat) : Nat := ((List.range 7).find? (fun l => decide (levelNodes lines l ≤ 8))).getD 6 + 1

/-- LVL(ℓ) (R367). -/
def lvlOffset (l : Nat) : Nat :=
  if l = 0 then 0 else if l = 1 then 0x04000000 else if l = 2 then 0x04800000 else if l = 3 then 0x04900000
  else if l = 4 then 0x04920000 else if l = 5 then 0x04924000 else 0x04924800

/-- The HBM address of a node (R367). -/
def nodeAddr (r l j : Nat) : Nat := encSlot r + 0x04000000 + lvlOffset l + 64 * j

/-- The HBM address of a line's tag (R366). -/
def tagAddr (r i : Nat) : Nat := encSlot r + 8 * i

/-- The initialisation vector (R366). -/
def encIv (a kind ctr : Nat) : Nat := bits a 6 28 * 2 ^ 68 + kind * 2 ^ 64 + ctr * 2 ^ 32

/-- Lines covered by a node of a level. -/
def nodeSpan (l : Nat) : Nat := 8 ^ (l + 1)

/-- WATERMARK has passed the last line that a node covers, in a region that is REKEYING (R372). -/
def nodePassed (r l j : Nat) (s : State) : Bool :=
  s.get (ENC_REG_CTL_STATE r) == encRekeying &&
    decide (encBase r s + 64 * min (nodeSpan l * (j + 1)) (encLines r s) ≤ s.get (ENC_REG_WM_WATERMARK r))

/-- The key ID under which a line at an address lies: in REKEYING the new one below WATERMARK (R372). -/
def lineKeyId (r a : Nat) (s : State) : Nat :=
  if s.get (ENC_REG_CTL_STATE r) = encRekeying ∧ ¬ a < s.get (ENC_REG_WM_WATERMARK r) then spGet r s.enc.oldKey
  else s.get (ENC_REG_CTL_KEYID r)

/-- The tree key under which a node lies in HBM. -/
def nodeTreeKey (r l j : Nat) (s : State) : Nat :=
  spGet (if s.get (ENC_REG_CTL_STATE r) = encRekeying ∧ nodePassed r l j s = false then spGet r s.enc.oldKey
    else s.get (ENC_REG_CTL_KEYID r)) s.enc.treeKey

/-! ### The tree -/

/-- The counters, POISON byte and tag of a node's 64 bytes (R367). -/
def nodeCtrs (b : List Byte) : List Nat := (List.range 8).map (fun e => ofBytes (slice (4 * e) 4 b))
def nodePoison (b : List Byte) : Nat := ofBytes (slice 40 1 b)
def nodeTag (b : List Byte) : Nat := ofBytes (slice 32 8 b)

/-- The additional data of a node's tag: bytes 0 to 31 and byte 40 (R367). -/
def nodeAad (n : EncNode) : List Byte := n.ctr.flatMap (toBytes 4) ++ toBytes 1 n.poison

/-- The 64 bytes of a node under a key and its counter in its parent. -/
def nodeBytes (n : EncNode) (key ctr : Nat) : List Byte :=
  let tag := Config.gcmTag key (encIv (nodeAddr n.region n.level n.j) (n.level + 1) ctr) (nodeAad n) []
  n.ctr.flatMap (toBytes 4) ++ toBytes 8 tag.toNat ++ toBytes 1 n.poison ++ List.replicate 23 0

/-- A node never written: all zeros (R368). -/
def zeroNode (r l j : Nat) : EncNode := ⟨r, l, j, List.replicate 8 0, 0, false, false⟩

/-- The same node. -/
def EncNode.isAt (n : EncNode) (r l j : Nat) : Bool := n.region == r && n.level == l && n.j == j

/-- The cached node, if any. -/
def cached (r l j : Nat) (s : State) : Option EncNode := s.enc.cache.find? (fun n => n.isAt r l j)

/-- A node put into the cache in place of what is there of it. -/
def cachePut (n : EncNode) (s : State) : State :=
  { s with enc := { s.enc with cache := s.enc.cache.filter (fun m => !m.isAt n.region n.level n.j) ++ [n] } }

/-- A counter of a list replaced. -/
def ctrSet (e v : Nat) (l : List Nat) : List Nat := l.set e v

/-- The region enters REKEY_REQUIRED unless it is REKEYING. -/
def requireRekey (r : Nat) (s : State) : State :=
  s.setIf (s.get (ENC_REG_CTL_STATE r) == encActive) (ENC_REG_CTL_STATE r) encRequired

/-- The node or root entry that counts child `j` of level `l`: its counter and whether the child is poisoned. -/
def parentEntry (p : Option EncNode) (r j : Nat) (s : State) : Nat × Bool :=
  match p with
  | some n => ((n.ctr[j % 8]?).getD 0, bit n.poison (j % 8))
  | none => (spGet (8 * r + j % 8) s.enc.rootCtr, bit (spGet r s.enc.rootPoison) (j % 8))

/-- The POISON bit of a child set in its parent (R370). -/
def poisonChild (p : Option EncNode) (r j : Nat) (s : State) : State :=
  match p with
  | some n => cachePut { n with poison := putBit n.poison (j % 8) true, dirty := true } s
  | none => { s with enc := { s.enc with rootPoison := spSet r (putBit (spGet r s.enc.rootPoison) (j % 8) true) s.enc.rootPoison } }

/-- A node that is uncorrectable or whose tag fails (R370). -/
def nodeFails (p : Option EncNode) (r l j : Nat) (s : State) : State :=
  raise 0x0D02 [⟨1, r⟩, ⟨1, l⟩, ⟨4, j⟩] (requireRekey r (poisonChild p r j s))

/-- The next draw of the random-bit generator. -/
def draw (s : State) : Nat × State :=
  (Config.random s.enc.draws, { s with enc := { s.enc with draws := s.enc.draws + 1 } })

/-- A key ID's state written (0 FREE, 1 IN_USE, 2 RETIRING). -/
def setKeyId (k st : Nat) (s : State) : State := { s with enc := { s.enc with ids := spSet k st s.enc.ids } }

/-- ENC_KEYID as its register reads. -/
def encKeyIds (s : State) : Nat := (List.range 16).foldl (fun t k => t + spGet k s.enc.ids * 4 ^ k) 0

/-- The lowest FREE key ID. -/
def freeKey (s : State) : Option Nat := (List.range 16).find? (fun k => spGet k s.enc.ids == 0)

/-- A key ID allocated with two keys drawn (R364). -/
def allocKey (k : Nat) (s : State) : State :=
  let d := draw s
  let t := draw d.2
  let s := setKeyId k 1 t.2
  { s with enc := { s.enc with dataKey := spSet k (d.1 % 2 ^ 256) s.enc.dataKey, treeKey := spSet k (t.1 % 2 ^ 256) s.enc.treeKey } }

/-- A rekey starts, or waits for a FREE key ID with PEND (R371). The old key ID of a region whose key was erased is no ID (16): it has
nothing to retire. -/
def startRekey (r cause : Nat) (s : State) : State :=
  match freeKey s with
  | none =>
    if s.on (ENC_REG_CTL_PEND r) then s
    else raise 0x0D08 [⟨1, r⟩] ({ s with enc := { s.enc with pendCause := spSet r cause s.enc.pendCause } }.set (ENC_REG_CTL_PEND r) 1)
  | some k =>
    let old := s.get (ENC_REG_CTL_KEYID r)
    let gone := decide (r ∈ s.enc.erased)
    let s := allocKey k s
    let s := (((s.set (ENC_REG_CTL_STATE r) encRekeying).set (ENC_REG_CTL_KEYID r) k).set (ENC_REG_CTL_PEND r) 0).set
      (ENC_REG_WM_WATERMARK r) (encBase r s)
    let s := { s with enc := { s.enc with
      oldKey := spSet r (if gone then 16 else old) s.enc.oldKey
      erased := s.enc.erased.filter (· != r)
      pendCause := spDel r s.enc.pendCause
      cache := s.enc.cache.map (fun n => if n.region = r then { n with newKey := false } else n) } }
    raise 0x0D03 [⟨1, r⟩, ⟨1, old⟩, ⟨1, k⟩, ⟨1, cause⟩] s

/-- A counter of an ACTIVE region that reaches 0xFFFF_0000 starts a rekey (R371). -/
def counterReached (r ctr : Nat) (s : State) : State :=
  if ctr = 0xFFFF0000 ∧ s.get (ENC_REG_CTL_STATE r) = encActive then startRekey r 0 s else s

/-- A node written back under a parent that is at hand: its counter in the parent increments, or restarts at 1 under a new
key, and its bytes and tag go to HBM (R367, R368, R372). -/
def nodeBack (n : EncNode) (p : Option EncNode) (s : State) : State :=
  let fresh := nodePassed n.region n.level n.j s && !n.newKey
  let ctr := if fresh then 1 else (parentEntry p n.region n.j s).1 + 1
  let s := match p with
    | some q => cachePut { q with ctr := ctrSet (n.j % 8) ctr q.ctr, poison := putBit q.poison (n.j % 8) false, dirty := true } s
    | none => { s with enc := { s.enc with
        rootCtr := spSet (8 * n.region + n.j % 8) ctr s.enc.rootCtr
        rootPoison := spSet n.region (putBit (spGet n.region s.enc.rootPoison) (n.j % 8) false) s.enc.rootPoison } }
  let s := (lineWrite (nodeAddr n.region n.level n.j / 64) (2 ^ 64 - 1) 0 (nodeBytes n (nodeTreeKey n.region n.level n.j s) ctr) s).2
  let s := cachePut { n with dirty := false, newKey := n.newKey || fresh } s
  counterReached n.region ctr s

/-- Room for one more node among 1,024: the oldest clean node is dropped. -/
def makeRoom (s : State) : State :=
  if s.enc.cache.length < 1024 then s
  else match s.enc.cache.find? (fun n => !n.dirty) with
    | some n => { s with enc := { s.enc with cache := s.enc.cache.erase n } }
    | none => s

/-- A node brought into the cache: from its parent upward to the root, `up` levels above it (R368, R370). None where it
or a node above it is poisoned or fails. -/
def fetchNode (r : Nat) : Nat → Nat → Nat → State → Option EncNode × State
  | up, l, j, s =>
    match cached r l j s with
    | some n => (some n, s)
    | none =>
      match up with
      | 0 =>
        let e := parentEntry none r j s
        loadNode r l j none e s
      | u + 1 =>
        match fetchNode r u (l + 1) (j / 8) s with
        | (none, t) => (none, t)
        | (some p, t) => loadNode r l j (some p) (parentEntry (some p) r j t) t
where
  /-- A node taken as zeros, or read from HBM and verified against its parent's counter. -/
  loadNode (r l j : Nat) (p : Option EncNode) (e : Nat × Bool) (s : State) : Option EncNode × State :=
    if e.2 then (none, s)
    else if e.1 = 0 then
      let n := zeroNode r l j
      (some n, cachePut n (makeRoom s))
    else
      match lineRead (nodeAddr r l j / 64) 0 0 s with
      | (none, t) => (none, nodeFails p r l j t)
      | (some b, t) =>
        let n : EncNode := ⟨r, l, j, nodeCtrs b, nodePoison b, false, nodePassed r l j t⟩
        let tag := Config.gcmTag (nodeTreeKey r l j t) (encIv (nodeAddr r l j) (l + 1) e.1) (nodeAad n) []
        if tag.toNat = nodeTag b then (some n, cachePut n (makeRoom t)) else (none, nodeFails p r l j t)

/-- A node that a rekey rebuilds where its subtree is poisoned: no counters, every child poisoned (R372). -/
def rebuiltNode (r l j : Nat) : EncNode := { zeroNode r l j with poison := 0xFF }

/-- The parent of a node brought into the cache: none for a node of the top level, whose parent is the root. Where it is
poisoned or fails, a region that is REKEYING rebuilds it. -/
def fetchParent (r l j : Nat) (s : State) : Option (Option EncNode) × State :=
  let h := treeHeight (encLines r s)
  if l + 1 ≥ h then (some none, s)
  else match fetchNode r (h - 2 - l) (l + 1) (j / 8) s with
    | (some p, t) => (some (some p), t)
    | (none, t) =>
      if s.get (ENC_REG_CTL_STATE r) = encRekeying then (some (some (rebuiltNode r (l + 1) (j / 8))), t) else (none, t)

/-- The level-0 node of line `i` of a region. -/
def fetchLeaf (r i : Nat) (s : State) : Option EncNode × State :=
  fetchNode r (treeHeight (encLines r s) - 1) 0 (i / 8) s

/-! ### Lines -/

/-- A line newly poisoned: its POISON bit, POISONED, event 0x0D01 (R369). FOUND: 0 read, 1 read-modify-write. -/
def poisonLine (r i src found : Nat) (n : EncNode) (s : State) : State :=
  let s := cachePut { n with poison := putBit n.poison (i % 8) true, dirty := true } s
  let s := s.count (ENC_REG_STAT_POISONED r) 1
  let s := { s with enc := { s.enc with poisonFrame := spSet r (spGet r s.enc.poisonFrame + 1) s.enc.poisonFrame } }
  raise 0x0D01 [⟨1, r⟩, ⟨4, i⟩, ⟨1, src⟩, ⟨1, found⟩] s

/-- A line's stored bytes and tag checked and decrypted under a key (R366, R369): none where a double-bit error or the tag
shows a failure. -/
def openLine (r i key ctr found src : Nat) (s : State) : Option (List Byte) × State :=
  let a := encBase r s + 64 * i
  match lineRead (a / 64) found src s with
  | (none, t) => (none, t)
  | (some ct, t) =>
    match lineRead (tagAddr r i / 64) found src t with
    | (none, u) => (none, u)
    | (some tb, u) =>
      let iv := encIv a 0 ctr
      let tag := Config.gcmTag key iv [] ct
      if tag.toNat = ofBytes (slice (8 * (i % 8)) 8 tb) then
        (some (toBytes 64 (Nat.xor (ofBytes ct) (Config.gcmStream key iv % 2 ^ 512))), u)
      else (none, u)

/-- A line encrypted and stored under a key and counter, and its tag merged into its tag line (R352, R366). -/
def sealLine (r i key ctr src : Nat) (data : List Byte) (s : State) : State :=
  let a := encBase r s + 64 * i
  let iv := encIv a 0 ctr
  let ct := toBytes 64 (Nat.xor (ofBytes (data.take 64)) (Config.gcmStream key iv % 2 ^ 512))
  let tag := Config.gcmTag key iv [] ct
  let s := (lineWrite (a / 64) (2 ^ 64 - 1) src ct s).2
  let at_ := 8 * (i % 8)
  let b := List.replicate at_ 0 ++ toBytes 8 tag.toNat ++ List.replicate (56 - at_) 0
  (lineMerge (tagAddr r i / 64) (255 * 2 ^ at_) src b s).2

/-- A line of a keyed region read: POISON, zeros while it was never written, or its plaintext (R366, R369, R370). -/
def keyedRead (r i src found : Nat) (s : State) : Option (List Byte) × State :=
  match fetchLeaf r i s with
  | (none, t) => (none, t)
  | (some n, t) =>
    if bit n.poison (i % 8) then (none, t)
    else
      let ctr := (n.ctr[i % 8]?).getD 0
      if ctr = 0 then (some (List.replicate 64 0), t)
      else match openLine r i (spGet (lineKeyId r (encBase r t + 64 * i) t) t.enc.dataKey) ctr found src t with
        | (some b, u) => (some b, u)
        | (none, u) => (none, poisonLine r i src found ((cached r 0 (i / 8) u).getD n) u)

/-- A line stored with its counter incremented and its POISON bit clear (R366, R369). -/
def keyedStore (r i src : Nat) (n : EncNode) (data : List Byte) (s : State) : State :=
  let ctr := (n.ctr[i % 8]?).getD 0 + 1
  let s := cachePut { n with ctr := ctrSet (i % 8) ctr n.ctr, poison := putBit n.poison (i % 8) false, dirty := true } s
  let s := sealLine r i (spGet (lineKeyId r (encBase r s + 64 * i) s) s.enc.dataKey) ctr src data s
  counterReached r ctr s

/-- A line of a keyed region written, whole or by read-modify-write (R366, R369, R370, R373). -/
def keyedWrite (r i be src : Nat) (data : List Byte) (s : State) : Status × State :=
  match fetchLeaf r i s with
  | (none, t) => (.poison, t)
  | (some n, t) =>
    if (n.ctr[i % 8]?).getD 0 = 0xFFFFFFFF then (.retry, t)
    else if be % 2 ^ 64 = 2 ^ 64 - 1 then (.done, keyedStore r i src n data t)
    else match keyedRead r i src 1 t with
      | (none, u) => (.poison, u)
      | (some old, u) => (.done, keyedStore r i src ((cached r 0 (i / 8) u).getD n) (mergeBytes be data old) u)

/-- One dirty node written back, its parent brought in first. -/
def backOne (n : EncNode) (s : State) : State :=
  match fetchParent n.region n.level n.j s with
  | (some p, t) => nodeBack ((cached n.region n.level n.j t).getD n) p t
  | (none, t) => t

/-- One node leaves the cache: the oldest clean one, or the oldest, written back (R368; the choice is open,
notes/assumptions/39.md). -/
def evictOne (s : State) : State :=
  match s.enc.cache.find? (fun n => !n.dirty) with
  | some n => { s with enc := { s.enc with cache := s.enc.cache.erase n } }
  | none => match s.enc.cache.head? with
    | some n =>
      let t := backOne n s
      { t with enc := { t.enc with cache := t.enc.cache.filter (fun m => !m.isAt n.region n.level n.j) } }
    | none => s

/-- The cache holds at most 1,024 nodes between accesses (R368). -/
def cacheTrim (s : State) : State := forNat 64 (fun _ t => if t.enc.cache.length ≤ 1024 then t else evictOne t) s

/-! ### Accesses to HBM by address -/

/-- What a request for n lines from an address is answered by the encryption block: a keyed line is served only while domain 94 takes
requests (R52, R376). -/
def encRefusesAt (a n : Nat) (s : State) : Option Status :=
  if (List.range n).any (fun k => (encRegion (a + 64 * k) s).isSome) then domRefuses 94 s else none

/-- What a request for n lines from an address is answered by the block and the controller without being served. -/
def pairRefusesAt (a n : Nat) (s : State) : Option Status :=
  match hbmRefusesAt a n s with
  | some st => some st
  | none => encRefusesAt a n s

/-- One line read for a keyed region or none (R17, R352, R369). -/
def lineFor (reg : Option Nat) (src line : Nat) (s : State) : Status × List Byte × State :=
  let x := match reg with
    | none => lineRead line 0 src s
    | some r => keyedRead r ((64 * line - encBase r s) / 64) src 0 s
  match x with
  | (some b, t) => (.done, b, cacheTrim t)
  | (none, t) => (.poison, List.replicate 64 0, cacheTrim t)

/-- One line written for a keyed region or none. -/
def putLineFor (reg : Option Nat) (src line be : Nat) (data : List Byte) (s : State) : Status × State :=
  match reg with
  | none => lineWrite line be src data s
  | some r =>
    let x := keyedWrite r ((64 * line - encBase r s) / 64) be src data s
    (x.1, cacheTrim x.2)

/-- One line written at an address, keyed or not. -/
def hbmPutLine (src line be : Nat) (data : List Byte) (s : State) : Status × State :=
  putLineFor (encRegion (64 * line) s) src line be data s

/-- The keyed region, if any, of each of the lines from a line on. -/
def regionsOf (line n : Nat) (s : State) : List (Option Nat) := (List.range n).map (fun k => encRegion (64 * (line + k)) s)

/-- Lines read one after the other: the bytes of all, and the first status that is not DONE. -/
def linesFor (src line : Nat) : List (Option Nat) → State → Status × List Byte × State
  | [], s => (.done, [], s)
  | r :: l, s =>
    let x := lineFor r src line s
    let y := linesFor src (line + 1) l x.2.2
    (if x.1 = .done then y.1 else x.1, x.2.1 ++ y.2.1, y.2.2)

/-- Lines written one after the other by the byte enables of a whole line. -/
def putLinesFor (src line be : Nat) : List (Option Nat) → List Byte → State → Status × State
  | [], _, s => (.done, s)
  | r :: l, b, s =>
    let x := putLineFor r src line be (b.take 64) s
    let y := putLinesFor src (line + 1) be l (b.drop 64) x.2
    (if x.1 = .done then y.1 else x.1, y.2)

/-- `n` lines read, or written whole, at an address. -/
def hbmLines (src line n : Nat) (s : State) : Status × List Byte × State := linesFor src line (regionsOf line n s) s
def hbmPutLines (src line n : Nat) (b : List Byte) (s : State) : Status × State :=
  putLinesFor src line (2 ^ 64 - 1) (regionsOf line n s) b s

/-- The HBM image cache with its staging area (R109, R145). -/
def inImageCache (a : Nat) : Bool := decide (0x3C0000000 ≤ a) && decide (a < 0x3D8000000)

/-- Some byte of a range meets a test of areas that begin and end on lines. -/
def anyLine (p : Nat → Bool) (a n : Nat) : Bool := (List.range (ceilDiv n 64)).any (fun k => p (a + 64 * k))

/-- What an access to HBM is answered before it reaches the controller (R109, R365): DENIED for the tree area, and for a
write to the image cache by another than the loader. -/
def hbmDenies (src a n : Nat) (write : Bool) : Bool :=
  anyLine inTreeArea a n || (write && src != 47 && anyLine inImageCache a n)

/-- An access of whole lines by an engine or object: `n` lines read at `a`. -/
def hbmLoad (src a n : Nat) (s : State) : Status × List Byte × State :=
  if a + 64 * n > hbmSize then (.range, [], s)
  else if hbmDenies src a (64 * n) false then (.denied, [], s)
  else match pairRefusesAt a n s with
    | some st => (st, [], s)
    | none => hbmLines src (a / 64) n (takeLines (classOf src) n s)

/-- `n` lines written at `a` by an engine or object. -/
def hbmSave (src a n : Nat) (b : List Byte) (s : State) : Status × State :=
  if a + 64 * n > hbmSize then (.range, s)
  else if hbmDenies src a (64 * n) true then (.denied, s)
  else match pairRefusesAt a n s with
    | some st => (st, s)
    | none => hbmPutLines src (a / 64) n b (takeLines (classOf src) n s)

/-- `n` lines read, or written, over the network on chip, in requests of up to four lines (R15, R382). -/
def nocLoad (src a n : Nat) (s : State) : Status × List Byte × State :=
  match nocReach src a (ceilDiv n 4) (ceilDiv n 4) s with
  | (some st, t) => (st, [], t)
  | (none, t) => hbmLoad src a n t

def nocSave (src a n : Nat) (b : List Byte) (s : State) : Status × State :=
  match nocReach src a (ceilDiv n 4) (ceilDiv n 4 + 2 * n) s with
  | (some st, t) => (st, t)
  | (none, t) => hbmSave src a n b t

/-! ### Region control (R363, R364, R371, R374, R378) -/

/-- Who may write window 0x0D (R378). -/
def encWriter (a : Agent) : Bool := a.core01 || a.fieldIM

/-- Two block ranges overlap. -/
def overlaps (b1 l1 b2 l2 : Nat) : Bool := decide (b1 ≤ l2) && decide (b2 ≤ l1)

/-- The range of a region may be enabled (R363). -/
def rangeOk (r : Nat) (s : State) : Bool :=
  let b := s.get (ENC_REG_RANGE_BASE r)
  let l := s.get (ENC_REG_RANGE_LIMIT r)
  decide (b ≤ l) && decide (l + 1 - b ≤ 8192) && decide (l < 225280) &&
    (List.range 8).all (fun q => q == r || !encLive q s ||
      !overlaps b l (s.get (ENC_REG_RANGE_BASE q)) (s.get (ENC_REG_RANGE_LIMIT q)))

/-- The root of a region, its POISON bits and its cached nodes forgotten. -/
def forgetTree (r : Nat) (s : State) : State :=
  { s with enc := { s.enc with
      rootCtr := spClear (8 * r) (8 * r + 8) s.enc.rootCtr
      rootPoison := spDel r s.enc.rootPoison
      erased := s.enc.erased.filter (· != r)
      cache := s.enc.cache.filter (fun n => n.region != r) } }

/-- A region made ACTIVE under a free key ID (R364). -/
def enableRegion (r : Nat) (s : State) : Status × State :=
  if !rangeOk r s then (.range, s)
  else match freeKey s with
    | none => (.retry, s)
    | some k =>
      let s := forgetTree r (allocKey k s)
      (.done, (((s.set (ENC_REG_CTL_EN r) 1).set (ENC_REG_CTL_STATE r) encActive).set (ENC_REG_CTL_KEYID r) k).set
        (ENC_REG_CTL_PEND r) 0)

/-- A key ID in use retires (R374). -/
def retireKey (k : Nat) (s : State) : State := if spGet k s.enc.ids = 1 then setKeyId k 2 s else s

/-- The end of a tree pass: its summary, event 0x0D06, its grant released (R375). -/
def treePassSum (unc corr checked : Nat) (s : State) : State :=
  let t := ((s.set ENC_PASS_SUM_UNCORR (min unc 65535)).set ENC_PASS_SUM_CORR (min corr 65535)).set ENC_PASS_SUM_CHECKED (min checked (2 ^ 32 - 1))
  let t := raise 0x0D06 [⟨1, s.enc.passRegion⟩, ⟨8, readFlds ENC_PASS_SUM_fields t⟩] (t.set ENC_PASS_GO 0)
  match entryFor forEncPass t with
  | some k => sluEnd k t
  | none => t

/-- A region leaves service: its tree pass ends with the counts so far, which are 0 before the grant and open after it (R375,
notes/assumptions/39.md). -/
def passLeaves (r : Nat) (s : State) : State :=
  if s.on ENC_PASS_GO ∧ s.enc.passRegion = r then
    let n := s.enc.passCuts
    if grantedForPurpose forEncPass s then
      treePassSum (Config.passSoFar n 0) (Config.passSoFar n 1) (Config.passSoFar n 2) { s with enc := { s.enc with passCuts := n + 1 } }
    else treePassSum 0 0 0 s
  else s

/-- A region made OFF: its key IDs retire, and requests accepted under them complete first (R374). -/
def disableRegion (r : Nat) (s : State) : State :=
  let rekeying := s.get (ENC_REG_CTL_STATE r) == encRekeying
  let s := if r ∈ s.enc.erased then s else retireKey (s.get (ENC_REG_CTL_KEYID r)) s
  let s := if rekeying then retireKey (spGet r s.enc.oldKey) s else s
  let s := { s with enc := { s.enc with oldKey := spDel r s.enc.oldKey, pendCause := spDel r s.enc.pendCause } }
  passLeaves r <| (((s.set (ENC_REG_CTL_EN r) 0).set (ENC_REG_CTL_STATE r) encOff).set (ENC_REG_CTL_PEND r) 0).set (ENC_REG_WM_WATERMARK r) 0

/-- A write of ENC_REG_CTL(r): EN and REKEY (R363, R364, R371, R374). -/
def wrEncCtl (a : Agent) (r v : Nat) (s : State) : Status × State :=
  let en := (ENC_REG_CTL_EN r).hit v
  let st := s.get (ENC_REG_CTL_STATE r)
  if !encWriter a then (.denied, s)
  else if (ENC_REG_CTL_REKEY r).hit v && !(st == encActive || st == encRequired) then (.range, s)
  else if en && !encLive r s then enableRegion r s
  else if !en && encLive r s then (.done, disableRegion r s)
  else if (ENC_REG_CTL_REKEY r).hit v then (.done, startRekey r 1 s)
  else (.done, s)

/-- A write of ENC_REG_RANGE(r) (R363). -/
def wrEncRange (a : Agent) (r v : Nat) (s : State) : Status × State :=
  if !encWriter a then (.denied, s) else if encLive r s then (.range, s) else (.done, writeFlds (ENC_REG_RANGE_fields r) v s)

/-- The counter of a node in its parent, or in the root; none where the parent cannot be read. -/
def nodeEntry (r h l j : Nat) (s : State) : Option Nat × State :=
  if l + 1 ≥ h then (some (parentEntry none r j s).1, s)
  else match fetchNode r (h - 2 - l) (l + 1) (j / 8) s with
    | (some p, t) => (some (parentEntry (some p) r j t).1, t)
    | (none, t) => (none, t)

/-- The walk of a tree from the top down so far: the nodes in use of the level, the nodes read, those that fail. -/
structure TreeWalk where
  used : List Nat
  nodes : Nat
  bad : Nat
  st : State

/-- A node read and verified where its counter shows it in use (R368, R375). -/
def walkNode (r h l : Nat) (w : TreeWalk) (j : Nat) : TreeWalk :=
  match nodeEntry r h l j w.st with
  | (none, t) => { w with st := t }
  | (some e, t) =>
    if e = 0 then { w with st := t }
    else match fetchNode r (h - 1 - l) l j t with
      | (some _, u) => ⟨w.used ++ [j], w.nodes + 1, w.bad, u⟩
      | (none, u) => ⟨w.used, w.nodes + 1, w.bad + 1, u⟩

/-- One level: the nodes below those in use of the level above, or all of the top level. -/
def walkLevel (r h : Nat) (w : TreeWalk) (l : Nat) : TreeWalk :=
  let n := levelNodes (encLines r w.st) l
  let js := if l + 1 ≥ h then List.range n
    else (w.used.flatMap (fun j => (List.range 8).map (fun e => 8 * j + e))).filter (fun j => decide (j < n))
  js.foldl (walkNode r h l) { w with used := [] }

/-- Every node in use of a region's tree read and verified, from the top level down. -/
def treeWalk (r : Nat) (s : State) : TreeWalk :=
  let h := treeHeight (encLines r s)
  (List.range h).reverse.foldl (walkLevel r h) ⟨[], 0, 0, s⟩

/-- Bytes that a tree pass of a region reads: its tag lines and the nodes in use (R375). -/
def treeBytes (r : Nat) (s : State) : Nat := 8 * encLines r s + 64 * (treeWalk r s).nodes

/-- A write of ENC_PASS (R375). -/
def wrEncPass (a : Agent) (v : Nat) (s : State) : Status × State :=
  if !encWriter a then (.denied, s)
  else if !ENC_PASS_GO.hit v then (.done, writeFlds ENC_PASS_fields v s)
  else if s.on ENC_PASS_GO || !encLive (ENC_PASS_REGION.of v) s then (.range, s)
  else match placeOrRetry ⟨clsScrub, 0x7F, 10, passFrames (treeBytes (ENC_PASS_REGION.of v) s) s, a.init.val, forEncPass⟩ s with
    | (.done, t) => (.done, writeFlds ENC_PASS_fields v { t with enc := { t.enc with passRegion := ENC_PASS_REGION.of v } })
    | x => x

/-! ### Rekeying -/

/-- A poisoned line copied by the rekey engine: its POISON bit is set in its leaf. -/
def copyPoison (n : EncNode) (i : Nat) (s : State) : State :=
  cachePut { n with poison := putBit n.poison (i % 8) true, dirty := true } s

/-- The nodes whose last line is line `i`: WATERMARK passes them with that line, so each that holds anything is due to be written back under
the new tree key (R372). -/
def nodesPassed (r i : Nat) (s : State) : State :=
  let n := encLines r s
  let h := treeHeight n
  forNat h (fun l t =>
    if i + 1 ≠ min (nodeSpan l * (i / nodeSpan l + 1)) n then t
    else match fetchNode r (h - 1 - l) l (i / nodeSpan l) t with
      | (some m, u) => if m.ctr.any (fun c => c != 0) || m.poison != 0 then cachePut { m with dirty := true } u else u
      | (none, u) => u) s

/-- One line moved to the new key and WATERMARK advanced (R372). -/
def moveLine (r : Nat) (s : State) : State :=
  let wm := s.get (ENC_REG_WM_WATERMARK r)
  let i := (wm - encBase r s) / 64
  let done (t : State) : State := (nodesPassed r i t).set (ENC_REG_WM_WATERMARK r) (wm + 64)
  match fetchLeaf r i s with
  | (none, t) => done (copyPoison (rebuiltNode r 0 (i / 8)) i t)
  | (some n, t) =>
    if bit n.poison (i % 8) then done (copyPoison n i t)
    else
      let ctr := (n.ctr[i % 8]?).getD 0
      if ctr = 0 then done t
      else match openLine r i (spGet (spGet r t.enc.oldKey) t.enc.dataKey) ctr 0 0 t with
        | (none, u) => done (poisonLine r i 0 0 ((cached r 0 (i / 8) u).getD n) u)
        | (some b, u) =>
          let m := (cached r 0 (i / 8) u).getD n
          let u := cachePut { m with ctr := ctrSet (i % 8) 1 m.ctr, dirty := true } u
          done (sealLine r i (spGet (s.get (ENC_REG_CTL_KEYID r)) u.enc.dataKey) 1 0 b u)

/-- A rekey that waits for a key ID starts where one is FREE (R371). -/
def rekeyWaits (r : Nat) (s : State) : State :=
  if s.on (ENC_REG_CTL_PEND r) ∧ (freeKey s).isSome then startRekey r (spGet r s.enc.pendCause) s else s

/-- A key ID erased and FREE, event 0x0D05, with the cached nodes of an OFF region that it keyed; a rekey that waits for an ID starts
(R371, R374). -/
def keyFreed (k : Nat) (s : State) : State :=
  let s := setKeyId k 0 s
  let s := { s with enc := { s.enc with
    dataKey := spDel k s.enc.dataKey, treeKey := spDel k s.enc.treeKey
    cache := s.enc.cache.filter (fun n => encLive n.region s || s.get (ENC_REG_CTL_KEYID n.region) != k) } }
  forNat 8 rekeyWaits (raise 0x0D05 [⟨1, k⟩] s)

/-! ### Passes, power, tamper -/

/-- A written line of a region found to have failed by a tree pass: its POISON bit is set (R369, R375). -/
def passPoison (r i : Nat) (s : State) : State :=
  match fetchLeaf r i s with
  | (some n, t) => if (n.ctr[i % 8]?).getD 0 = 0 ∨ bit n.poison (i % 8) then t else poisonLine r i 0 0 n t
  | (none, t) => t

/-- A stored error of a tag line met by a tree pass: corrected, or the lines of its tags poisoned (R352, R369, R375). -/
def passTag (r line : Nat) (s : State) : State :=
  let t := scrubLine line 3 s
  if spGet line s.hbm.dbl = 0 then t else forNat 8 (fun e u => passPoison r (8 * (line - encSlot r / 64) + e) u) t

/-- The end of a tree pass (R375): every node in use from the top down, and the tag lines' stored errors. -/
def treePassEnd (s : State) : State :=
  let r := s.enc.passRegion
  let n := encLines r s
  let w := treeWalk r s
  let tags := badLines (encSlot r / 64) (encSlot r / 64 + n / 8) w.st
  let unc := (tags.filter (fun x => spGet x w.st.hbm.dbl != 0)).length
  let t := forEach tags (passTag r) w.st
  cacheTrim (treePassSum (w.bad + unc) (t.hbm.corrFrame - s.hbm.corrFrame) (n / 8 + w.nodes) t)

/-- A tree pass is ended by a reset and its grant released (R377); the same where domain 94 loses power (DESIGN CHOICE,
notes/assumptions/39.md). -/
def treePassAbort (s : State) : State :=
  let s := s.set ENC_PASS_GO 0
  match entryFor forEncPass s with
  | some k => sluEnd k s
  | none => s

/-- Every dirty node of the levels below `h` written back, leaves first (R376). -/
def flushCache (s : State) : State :=
  let s := (List.range 7).foldl (fun t l =>
    forEach (t.enc.cache.filter (fun n => n.dirty && n.level == l)) backOne t) s
  { s with enc := { s.enc with cache := [] } }

/-- Every dirty node of one region written back, and the region's nodes dropped (R374). -/
def flushRegion (r : Nat) (s : State) : State :=
  let s := (List.range 7).foldl (fun t l =>
    forEach (t.enc.cache.filter (fun n => n.region == r && n.dirty && n.level == l)) backOne t) s
  { s with enc := { s.enc with cache := s.enc.cache.filter (fun n => n.region != r) } }

/-- Every line of a region poisoned (R376, R377). -/
def poisonLines (r : Nat) (s : State) : State :=
  { s with enc := { s.enc with
      rootPoison := spSet r 0xFF s.enc.rootPoison
      cache := s.enc.cache.filter (fun n => n.region != r) } }

/-- Every line of a region poisoned, and the region in REKEY_REQUIRED (R376, R377). A rekey in progress ends, and its old key ID, under
which nothing can be read any more, retires (DEDUCED, notes/assumptions/39.md). -/
def poisonRegion (r : Nat) (s : State) : State :=
  if encLive r s then
    let s := if s.get (ENC_REG_CTL_STATE r) = encRekeying then retireKey (spGet r s.enc.oldKey) s else s
    let s := (s.set (ENC_REG_CTL_STATE r) encRequired).set (ENC_REG_WM_WATERMARK r) 0
    poisonLines r { s with enc := { s.enc with oldKey := spDel r s.enc.oldKey } }
  else s

/-- The contents of HBM are lost: every region enters REKEY_REQUIRED with all its lines poisoned, save that a rekey in progress resumes at
its WATERMARK, with all lines poisoned (R377; DEDUCED from its two rows, notes/assumptions/39.md). -/
def contentsPoison (r : Nat) (s : State) : State :=
  if s.get (ENC_REG_CTL_STATE r) = encRekeying then poisonLines r s else poisonRegion r s

/-- Dirty nodes lost at a forced lowering of domain 94 (R376). -/
def encForced (s : State) : State :=
  let l := (List.range 8).filter (fun r => encLive r s && s.enc.cache.any (fun n => n.region == r && n.dirty))
  let t := forEach l poisonRegion { s with enc := { s.enc with cache := [] } }
  if l.isEmpty then t else raise 0x0D09 [⟨1, l.foldl (fun m r => m + 2 ^ r) 0⟩] t

/-- Every key erased by a tamper indication (cause 0) or a lifecycle change (cause 1) (R377). Its ID is FREE then, and a rekey that waits
for one starts (R371). -/
def eraseKeys (cause : Nat) (s : State) : State :=
  let s := forNat 8 poisonRegion s
  forNat 8 rekeyWaits (raise 0x0D07 [⟨1, cause⟩] { s with enc := { s.enc with
    ids := [], dataKey := [], treeKey := [], oldKey := [], erased := (List.range 8).filter (fun r => encLive r s) } })

/-- A DOMAIN reset of 64 or 65, or the loss of the pair's contents (R377). -/
def encContentsLost (s : State) : State :=
  treePassAbort (forNat 8 contentsPoison { s with enc := { s.enc with cache := [] } })

/-- Lines poisoned in a frame become those of the last one. -/
def encTick (s : State) : State := { s with enc := { s.enc with poisonLast := s.enc.poisonFrame, poisonFrame := [] } }

/-! ### Commands -/

/-- ENC_ENABLE (R363, R364): ENC_REG_CTL(r) written with EN = 1. -/
def execEncEnable (a : Agent) (r : Fin 8) (s : State) : Out := ok (answered (wrEncCtl a r.val 1 s))

/-- ENC_DISABLE (R374): ENC_REG_CTL(r) written with EN = 0. -/
def execEncDisable (a : Agent) (r : Fin 8) (s : State) : Out := ok (answered (wrEncCtl a r.val 0 s))

/-- ENC_REKEY (R371): ENC_REG_CTL(r) written with REKEY = 1 and EN as it is. -/
def execEncRekey (a : Agent) (r : Fin 8) (s : State) : Out :=
  ok (answered (wrEncCtl a r.val (2 + s.get (ENC_REG_CTL_EN r.val)) s))

/-- REKEY_LINE_MOVE (R372): while domain 94 is ON, the stack READY and lines are left. -/
def execRekeyLineMove (r : Fin 8) (s : State) : Out :=
  whenOk (s.get (ENC_REG_CTL_STATE r.val) == encRekeying && domRuns 94 s && (hbmRefuses s).isNone && hbmAdmits 3 2 s &&
    decide (s.get (ENC_REG_WM_WATERMARK r.val) < encEnd r.val s)) s (cacheTrim (moveLine r.val (takeLines 3 2 s)))

/-- REKEY_COMPLETE (R374), with the nodes still cached written back first. -/
def execRekeyComplete (r : Fin 8) (s : State) : Out :=
  let old := spGet r.val s.enc.oldKey
  let t := flushRegion r.val s
  let t := retireKey old t
  let t := (t.set (ENC_REG_CTL_STATE r.val) encActive).set (ENC_REG_WM_WATERMARK r.val) 0
  let t := { t with enc := { t.enc with oldKey := spDel r.val t.enc.oldKey } }
  whenOk (s.get (ENC_REG_CTL_STATE r.val) == encRekeying && (hbmRefuses s).isNone && decide (encEnd r.val s ≤ s.get (ENC_REG_WM_WATERMARK r.val))) s
    (raise 0x0D04 [⟨1, r.val⟩, frameItem t] t)

/-- Requests accepted under a key ID, or its cached nodes, are still in flight: those of a region that it keys or keyed last. -/
def keyInFlight (k : Nat) (s : State) : Bool :=
  s.hbm.queue.any (fun q => q.regions.any (fun o => match o with | some r => s.get (ENC_REG_CTL_KEYID r) == k | none => false))

/-- KEY_RETIRED (R374): after the requests in flight under it. -/
def execKeyRetired (k : Fin 16) (s : State) : Out :=
  whenOk (spGet k.val s.enc.ids == 2 && !keyInFlight k.val s) s (keyFreed k.val s)

/-- KEYED_READ (R366, R369, R370): a read of one line of a keyed region. -/
def execKeyedRead (a : Agent) (addr : Nat) (s : State) : Out :=
  let x := hbmLoad a.init.val (64 * (addr / 64)) 1 s
  ok ({ x.2.2 with resp := ⟨x.1, 0, if x.1 = .done then x.2.1 else []⟩ })

/-- A write of one line by an agent. -/
def lineByAgent (a : Agent) (addr be : Nat) (data : List Byte) (s : State) : Status × State :=
  if addr ≥ hbmSize then (.range, s)
  else if hbmDenies a.init.val (64 * (addr / 64)) 64 true then (.denied, s)
  else match pairRefusesAt addr 1 s with
    | some st => (st, s)
    | none => hbmPutLine a.init.val (addr / 64) be data (takeLines (classOf a.init.val) 1 s)

/-- KEYED_WRITE (R366, R369, R371, R373). -/
def execKeyedWrite (a : Agent) (addr be : Nat) (data : List Byte) (s : State) : Out :=
  ok (answered (lineByAgent a addr be data s))

/-- NODE_WRITEBACK (R367, R368): a dirty cached node goes to HBM. -/
def execNodeWriteback (r : Fin 8) (level j : Nat) (s : State) : Out :=
  match cached r.val level j s with
  | none => ok s
  | some n => whenOk (n.dirty && domRuns 94 s && (hbmRefuses s).isNone) s (backOne n s)

/-- ENC_TREE_PASS (R375). -/
def execEncTreePass (a : Agent) (r : Fin 8) (s : State) : Out := ok (answered (wrEncPass a (2 ^ 31 + r.val) s))

/-- ENC_TREE_PASS_END (R375). -/
def execEncTreePassEnd (s : State) : Out :=
  whenOk (s.on ENC_PASS_GO && grantedForPurpose forEncPass s && domRuns 94 s && (hbmRefuses s).isNone) s (treePassEnd s)

/-- HBM_ACCESS_OBJECT (R362): 256 bytes at the address, read or written as source 49 over the network on chip (R15). -/
def hbmObject (addr : Nat) (w : Option (List Byte)) (s : State) : Status × List Byte × State :=
  if addr % 64 ≠ 0 ∨ addr + 256 > hbmSize then (.range, [], s)
  else match w with
    | none => nocLoad 49 addr 4 s
    | some b =>
      if b.length ≠ 256 then (.range, [], s)
      else
        let x := nocSave 49 addr 4 b s
        (x.1, [], x.2)

/-- HBM_ACCESS_OBJECT (R109, R362, R365): sub-index 0x12 holds the status. -/
def execHbmAccessObject (addr : Nat) (w : Option (List Byte)) (s : State) : Out :=
  let x := hbmObject addr w s
  ok { x.2.2 with
    hbm := { x.2.2.hbm with accAddr := addr, accStatus := x.1 }
    resp := ⟨x.1, 0, if x.1 = .done then x.2.1 else []⟩ }

end Sys2Proof.Machine
end

