-- ==== Sys2Proof/Machine/Gen.lean ====
section
/-! DEFINITION. The algorithmic generator (R248, R249, R262, R263), the instruction format (R246) and the pin table
(R242, R243). -/
namespace Sys2Proof.Machine

/-! ### Instruction fields (R246) -/

def insOpc (w : Nat) : Nat := bits w 123 5
def insSafe (w : Nat) : Bool := bit w 122
def insNovec (w : Nat) : Bool := bit w 121
def insTs (w : Nat) : Nat := bits w 115 6
def insLen (w : Nat) : Nat := bits w 112 3
def insFab (w : Nat) : Bool := bit w 111
def insVrep (w : Nat) : Bool := bit w 110
def insDmode (w : Nat) : Nat := bits w 108 2
def insDbeat (w : Nat) : Bool := bit w 107
def insXop (w : Nat) : Nat := bits w 103 4
def insYop (w : Nat) : Nat := bits w 99 4
def insZop (w : Nat) : Nat := bits w 97 2
def insYcar (w : Nat) : Bool := bit w 96
def insZcar (w : Nat) : Bool := bit w 95
def insDop (w : Nat) : Nat := bits w 91 4
def insOpa (w : Nat) : Nat := bits w 64 24
def insGsym (w : Nat) : Nat := bits w 32 32
def insRep (w : Nat) : Nat := bits w 16 16
def insOpb (w : Nat) : Nat := bits w 0 16

/-- A register number of SETR that names something (R250). -/
def setrOk (n : Nat) : Bool := decide (n ≤ 9) || (decide (16 ≤ n) && decide (n ≤ 24))

/-- The instruction has an opcode and field codes that the tables define (R247 to R250). -/
def insLegal (w : Nat) : Bool :=
  decide (insOpc w ≤ 17) && decide (insXop w ≤ 9) && decide (insYop w ≤ 9) && decide (insDop w ≤ 8) &&
    (insOpc w != 7 || decide (bits (insOpb w) 0 4 ≤ 6)) && (insOpc w != 12 || setrOk (bits (insOpb w) 0 6))

/-! ### The generator -/

/-- An address op (R248): the new value, the new start register, and the wrap flag where the op changes it. -/
def addrOp (op v max start inc : Nat) : Nat × Nat × Option Bool :=
  if op = 0 then (v, start, none)
  else if op = 1 then (if v ≥ max then (0, start, some true) else (v + 1, start, some false))
  else if op = 2 then (if v = 0 then (max, start, some true) else (v - 1, start, some false))
  else if op = 3 then ((v + inc) % (max + 1), start, some (decide (v + inc > max)))
  else if op = 4 then (wrapSub v inc (max + 1), start, some (decide (inc > v)))
  else if op = 5 then (start, start, some false)
  else if op = 6 then (max, start, some false)
  else if op = 7 then (0, start, some false)
  else if op = 8 then (v, v, none)
  else (max - v, start, some false)
where
  /-- A difference modulo m. -/
  wrapSub (a b m : Nat) : Nat := (((a : Int) - b) % m).toNat

/-- The address ops of one repetition, in the order X, Y, Z, with their carries (R248). -/
def addrOps (q w : Nat) (s : State) : State :=
  let g (r : Nat) : Nat := s.get (GEN_VALUE q r)
  let x := addrOp (insXop w) (g 0) (g 3) (g 6) (g 8)
  let xWraps := x.2.2 == some true
  let y := if insYcar w && !xWraps then (g 1, g 7, none) else addrOp (insYop w) (g 1) (g 4) (g 7) (g 9)
  let yWraps := y.2.2 == some true
  let zop := if insZop w = 3 then 7 else insZop w
  let z := if insZcar w && !yWraps then (g 2, 0, none) else addrOp zop (g 2) (g 5) 0 0
  let s := ((((s.set (GEN_VALUE q 0) x.1).set (GEN_VALUE q 6) x.2.1).set (GEN_VALUE q 1) y.1).set (GEN_VALUE q 7) y.2.1).set
    (GEN_VALUE q 2) z.1
  modEng q (fun e => { e with xw := x.2.2.getD e.xw, yw := y.2.2.getD e.yw, zw := z.2.2.getD e.zw }) s

/-- A data op on D with DB, DI and DPOLY (R249). -/
def dataOp (op d db di poly : Nat) : Nat :=
  let m := 2 ^ 64
  if op = 0 then d
  else if op = 1 then db
  else if op = 2 then m - 1 - d
  else if op = 3 then m - 1 - db
  else if op = 4 then d * 2 % m + d / 2 ^ 63
  else if op = 5 then d / 2 + d % 2 * 2 ^ 63
  else if op = 6 then Nat.xor d di
  else if op = 7 then (d + di) % m
  else Nat.xor (d * 2 % m) (if d / 2 ^ 63 = 1 then poly else 0)

/-- The data op of an instruction applied once. -/
def dataOps (q w : Nat) (s : State) : State :=
  let g (r : Nat) : Nat := s.get (GEN_D_VALUE q r)
  s.set (GEN_D_VALUE q 0) (dataOp (insDop w) (g 0) (g 1) (g 2) (g 3))

/-- Every op of an instruction applied once (R247, R255). -/
def insOps (q w : Nat) (s : State) : State := dataOps q w (addrOps q w s)

/-- The logical address L (R262). -/
def genL (q : Nat) (s : State) : Nat :=
  s.get (GEN_VALUE q 0) + s.get (GEN_VALUE q 1) * 2 ^ 24 + s.get (GEN_VALUE q 2) % 64 * 2 ^ 48

/-- The scrambled address S (R262). -/
def genS (q l : Nat) (s : State) : Nat :=
  (List.range 24).foldl (fun v j =>
    let m := s.get (GEN_SCR_MODE q j)
    let a := bit l (s.get (GEN_SCR_A q j))
    let b := bit l (s.get (GEN_SCR_B q j))
    if (if m = 0 then a else if m = 1 then a != b else m == 3) then v + 2 ^ j else v) 0

/-- The topology-scrambled data DS (R263). -/
def genDs (q l : Nat) (s : State) : Nat :=
  let d := s.get (GEN_D_VALUE q 0)
  if popCount 54 (Nat.land l (s.get (GEN_TMASK_VALUE q))) % 2 = 1 then Nat.xor d (s.get (GEN_TINV_VALUE q)) else d

/-! ### Pins and symbols -/

/-- Pin-table entry i is in use. -/
def pinValid (q i : Nat) (s : State) : Bool := s.on (SEQ_PIN_VALID q i)

/-- The valid entries in ascending order. -/
def pins (q : Nat) (s : State) : List Nat := (List.range 512).filter (fun i => pinValid q i s)

/-- The entry that names a channel. -/
def pinOf (q ch : Nat) (s : State) : Option Nat :=
  (List.range 512).find? (fun i => pinValid q i s && s.get (SEQ_PIN_CHANNEL q i) == ch)

/-- The number NS of valid STORED pins, and the words of a record (R260). -/
def storedPins (q : Nat) (s : State) : List Nat := (pins q s).filter (fun i => s.get (SEQ_PIN_KIND q i) == 0)
def recWords (q : Nat) (s : State) : Nat := ceilDiv (storedPins q s).length 16

/-- Nibble j of words of 16 nibbles. -/
def nibble (l : List Nat) (j : Nat) : Nat := bits ((l[j / 16]?).getD 0) (4 * (j % 16)) 4

/-- The symbol of a DATA pin with bit value b (R243). -/
def dataSymbol (dmode : Nat) (b : Bool) : Nat :=
  if dmode = 0 then (if b then 1 else 0) else if dmode = 1 then (if b then 3 else 2) else if dmode = 2 then 6 else 4

/-- The position of an entry among the STORED pins. -/
def storedIndex (i : Nat) : List Nat → Nat
  | [] => 0
  | x :: r => if x = i then 0 else storedIndex i r + 1

/-- The symbol of pin-table entry i in a cycle, its site off or not (R243 to R245). -/
def pinSymbol (q i : Nat) (off : Nat) (c : Cyc) (s : State) : Nat :=
  let b := s.get (SEQ_PIN_BIT q i)
  if bit off (s.get (SEQ_PIN_SITE q i)) then 6
  else if c.hold then s.get (SEQ_PIN_HOLD q i)
  else match s.get (SEQ_PIN_KIND q i) with
    | 0 => nibble c.record (storedIndex i (storedPins q s))
    | 1 => bits c.gsym (4 * (b % 8)) 4
    | 2 => if bit c.addrS b then 1 else 0
    | 3 => if bit c.addrL b then 1 else 0
    | 4 => dataSymbol c.dmode (bit c.ds b)
    | 5 => match c.fab with
      | some x => bits x (4 * (b % 16)) 4
      | none => 6
    | _ => b % 16

/-- A reserved symbol reaches some pin in a cycle (R242). -/
def badSymbol (q off : Nat) (c : Cyc) (s : State) : Bool := (pins q s).any (fun i => decide (pinSymbol q i off c s ≥ 10))

/-- What a symbol asks of a channel (R242): whether it drives, its data bit given that of its last DRIVE cycle, and its
expect code. -/
def symbolDrives (x : Nat) : Bool := decide (x ≤ 1) || decide (7 ≤ x ∧ x ≤ 9)
def symbolData (x : Nat) (last : Bool) : Bool := if x = 7 then last else x == 1 || x == 9
def symbolExpect (x : Nat) : Nat :=
  if x = 2 ∨ x = 8 then 1 else if x = 3 ∨ x = 9 then 2 else if x = 4 then 3 else if x = 5 then 4 else 0

end Sys2Proof.Machine
end

