-- ==== Sys2Proof/Machine/FailFifo.lean ====
section
/-! DEFINITION. Fail capture's FIFOs: what admits a record, the throttle, control records, and what a START clears
(R276 to R281). -/
namespace Sys2Proof.Machine

/-- The pause sources of a sequencer; with none left no request waits, so that a later one is warned of anew (R257). -/
def putPauseSrc (q v : Nat) (s : State) : State :=
  let s := s.set (SEQ_STAT_PAUSE_SRC q) v
  if s.get (SEQ_STAT_PAUSE_SRC q) = 0 then modEng q (fun e => { e with pauseTicks := 0, pauseWarned := false }) s else s

/-- Pause source `b` of a sequencer set or cleared (R257): 0 the host, 1 FREEZE_TEST, 2 THROTTLE. -/
def setPauseSrc (q b : Nat) (x : Bool) (s : State) : State := putPauseSrc q (putBit (s.get (SEQ_STAT_PAUSE_SRC q)) b x) s

/-- The records in a sequencer's FIFO, oldest first, and their number LEVEL. -/
def fcFifo (q : Nat) (s : State) : List (List Nat) := keyed q s.fail.fifo
def fcLevel (q : Nat) (s : State) : Nat := (fcFifo q s).length

/-- A sequencer's FIFO replaced. -/
def setFifo (q : Nat) (l : List (List Nat)) (s : State) : State :=
  { s with fail := { s.fail with fifo := putKeyed q l s.fail.fifo } }

/-- Records of the log ring, 0 where none is set up, and whether it is full (R281). -/
def ringSize (q : Nat) (s : State) : Nat := if s.get (FC_LOG_CFG_LOG2 q) = 0 then 0 else 2 ^ s.get (FC_LOG_CFG_LOG2 q)
def ringUsed (q : Nat) (s : State) : Nat := wrap 32 ((s.get (FC_LOG_PTR_WR q) : Int) - s.get (FC_LOG_PTR_RD q))
def ringFull (q : Nat) (s : State) : Bool := ringSize q s != 0 && ringUsed q s == ringSize q s

/-- THROTTLING asserted at HWM in THROTTLE policy, released at LWM (R280). -/
def fcThrottle (q : Nat) (s : State) : State :=
  let n := fcLevel q s
  if s.on (FC_SEQ_STAT_THROTTLING q) then
    if n ≤ s.get (FC_SEQ_CTL_LWM q) then
      raise 0x0903 [⟨1, q⟩] (setPauseSrc q 2 false (s.set (FC_SEQ_STAT_THROTTLING q) 0))
    else s
  else if s.on (FC_SEQ_CTL_POLICY q) ∧ n ≥ s.get (FC_SEQ_CTL_HWM q) then
    raise 0x0902 [⟨1, q⟩, ⟨2, n⟩] (setPauseSrc q 2 true (s.set (FC_SEQ_STAT_THROTTLING q) 1))
  else s

/-- A record enters the FIFO with the low 32 bits of the frame count in its last word (R278). -/
def fcPush (q w0 w1 w2 w3 : Nat) (s : State) : State :=
  fcThrottle q (setFifo q (fcFifo q s ++ [[w0, w1, w2, w3 + frameCount s % 2 ^ 32 * 2 ^ 32]]) s)

/-- A control record: CTRL_DROP counts one that finds no ring or a full FIFO (R279, R281). -/
def fcControl (q w0 w1 w2 w3 : Nat) (s : State) : State :=
  if ringSize q s = 0 ∨ fcLevel q s ≥ 4096 then s.count (FC_SEQ_STAT_CTRL_DROP q) 1
  else fcPush q w0 w1 w2 w3 s

/-- A FAIL record is admitted: below HWM in COUNT policy, below 4,080 in THROTTLE policy (R279, R281). -/
def failAdmitted (q : Nat) (s : State) : Bool :=
  ringSize q s != 0 &&
    decide (fcLevel q s < (if s.on (FC_SEQ_CTL_POLICY q) then 4080 else s.get (FC_SEQ_CTL_HWM q)))

/-- A FAIL record of a site: LOGGED, or DROPPED and part of event 0x0901 (R277, R279); the two counters count it only for a cycle issued
after the last START. -/
def fcFail (q g : Nat) (counted : Bool) (w0 w1 w2 w3 : Nat) (s : State) : Bool × State :=
  let n := if counted then 1 else 0
  if failAdmitted q s then (true, fcPush q w0 w1 w2 w3 (s.count (FC_SITE_REC_LOGGED q g) n))
  else
    let s := s.count (FC_SITE_REC_DROPPED q g) n
    (false, { s with fail := { s.fail with dropFrame := spSet q (spGet q s.fail.dropFrame + 1) s.fail.dropFrame } })

/-- Word 0 of a control record (R278): type 1 CLOSE, 2 END. -/
def controlWord (q type cycle : Nat) : Nat := cycle % 2 ^ 48 + q * 2 ^ 54 + type * 2 ^ 61

/-- The mode writes control records: every mode but COUNT (R276). -/
def writesControl (q : Nat) (s : State) : Bool := s.get (FC_SEQ_CTL_MODE q) != 3

/-- No cycle numbered below `n` still lacks its results. -/
def resultsBefore (q n : Nat) (s : State) : Bool :=
  ((eng q s).queue ++ (eng q s).issued).all (fun c => decide (n ≤ c.n))

/-- The END record of a pattern that has ended, once no earlier result is due (R276, R278); it is lost while domain 70 is
not ON. -/
def fcFlush (q : Nat) (s : State) : State :=
  match (eng q s).markers with
  | ⟨n, _, pc, _, some (code, cause, cycles)⟩ :: r =>
    if resultsBefore q n s then
      let s := modEng q (fun e => { e with markers := r }) s
      if domOn 70 s && writesControl q s then fcControl q (controlWord q 2 cycles) (code + cause * 16) 0 pc s else s
    else s
  | _ => s

/-- An accepted START clears the site counters, CTRL_DROP and the counts of the pin table's channels, arms every site, and
counting begins with the cycles queued from now on (R276, R277). -/
def fcStart (q : Nat) (s : State) : State :=
  let s := if domOn 70 s then
      let s := (s.resetRegs (0x3008010100 + 0x1000 * (q % 16)) (0x3008010500 + 0x1000 * (q % 16))).set (FC_SEQ_STAT_CTRL_DROP q) 0
      forEach (pins q s) (fun i t => t.set (FC_CH_CNT_COUNT (t.get (SEQ_PIN_CHANNEL q i))) 0) s
    else s
  { s with fail := { s.fail with
      disarmed := spDel q s.fail.disarmed
      startN := spSet q (eng q s).enq s.fail.startN } }

end Sys2Proof.Machine
end

