-- ==== Sys2Proof/Machine/Seq.lean ====
section
/-! DEFINITION. The pattern sequencers: instructions to cycles, control flow, waits, pauses, programs and vectors in HBM,
starting and stopping (chapter 11). An instruction's command adds one repetition of its vector to the cycle queue, or
takes its control action (notes/assumptions/30.md). -/
namespace Sys2Proof.Machine

/-! SEQ_STAT.STATE codes; SEQ_STAT.END codes. -/
def seqStoppedCode : Nat := 0
def seqArmed : Nat := 1
def seqRunning : Nat := 2
def seqPaused : Nat := 3
def endDone : Nat := 1
def endStopped : Nat := 2
def endAborted : Nat := 3
def endUnderrun : Nat := 4
def endIllegal : Nat := 5
def endStack : Nat := 6
def endSymbol : Nat := 7
def endMemory : Nat := 8
def endReplay : Nat := 9
def endSluice : Nat := 10
def endPower : Nat := 11

def seqState (q : Nat) (s : State) : Nat := s.get (SEQ_STAT_STATE q)
def setSeqState (q x : Nat) (s : State) : State := s.set (SEQ_STAT_STATE q) x
def setWait (q x : Nat) (s : State) : State := s.set (SEQ_STAT_WAIT q) x

/-- The pattern is to end for a reason; the first one stands (R237). -/
def endPattern (q code cause : Nat) (s : State) : State :=
  let e := eng q s
  if e.ending.isSome then s else setEng { e with ending := some ⟨code, cause⟩ } s

/-- The pattern ends for a reason that stands over one decided before: ABORT, a STOP in ARMED or PAUSED, its group's lowering
(R265, R268). -/
def endInstead (q code : Nat) (s : State) : State := modEng q (fun e => { e with ending := some ⟨code, 0⟩ }) s

/-- The engine still executes: ARMED or RUNNING, and no end decided. -/
def seqExecutes (q : Nat) (s : State) : Bool :=
  (seqState q s == seqArmed || seqState q s == seqRunning) && (eng q s).ending.isNone && domRuns (seqDom q) s

/-! ### Pages (R259) -/

/-- The page of an instruction address. -/
def pageOf (pc : Nat) : Nat := pc / 256

/-- A page that replacement never evicts: the one executed, one named on a stack, one whose PREF is pending, or one that is
still loading. -/
def pageProtected (q : Nat) (p : SeqPage) (s : State) : Bool :=
  let e := eng q s
  !p.ready || p.pref || p.num == pageOf (s.get (SEQ_PC_PC q)) || e.calls.any (fun a => pageOf a == p.num) ||
    e.loops.any (fun l => pageOf l.start == p.num)

/-- A place for a page among 64: a free one, or that of the least recently used page that may be evicted. -/
def pageRoom (q : Nat) (s : State) : Option (List SeqPage) :=
  let l := (eng q s).pages
  if l.length < 64 then some l
  else match l.find? (fun p => !pageProtected q p s) with
    | some p => some (l.erase p)
    | none => none

/-- A load of a page begins where it is not resident and has room; a PREF without room waits (R259). -/
def beginLoad (q num : Nat) (pref : Bool) (s : State) : State :=
  let e := eng q s
  if e.pages.any (fun p => p.num == num) then s
  else match pageRoom q s with
    | some l => setEng { e with pages := l ++ [⟨num, false, pref, []⟩] } s
    | none =>
      if pref then (if num ∈ e.prefWait then s else setEng { e with prefWait := e.prefWait ++ [num] } s)
      else setEng { e with demand := some num } s

/-- The resident page that holds an address. -/
def residentPage (q pc : Nat) (s : State) : Option SeqPage :=
  (eng q s).pages.find? (fun p => p.num == pageOf pc && p.ready)

/-- The 128-bit instruction at an address of a resident page (R246). -/
def fetchIns (q pc : Nat) (s : State) : Option Nat :=
  (residentPage q pc s).map (fun p => ofBytes (slice (16 * (pc % 256)) 16 p.bytes))

/-- A page becomes the most recently used. -/
def touchPage (q pc : Nat) (s : State) : State :=
  let e := eng q s
  match residentPage q pc s with
  | some p => setEng { e with pages := e.pages.erase p ++ [p] } s
  | none => s

/-- The engine goes to an address (R251, R259): past the last one the pattern ends ILLEGAL; a page that is not resident is
loaded on demand while the engine stalls. -/
def seqGoto (q pc : Nat) (s : State) : State :=
  if pc > 0xFFFFFF then endPattern q endIllegal 0 s
  else
    let s := s.set (SEQ_PC_PC q) pc
    let s := modEng q (fun e => { e with rep := 0, begun := false, repRecs := none }) s
    if (residentPage q pc s).isSome then touchPage q pc (setWait q 0 s)
    else beginLoad q (pageOf pc) false (setWait q 5 s)

/-- The engine goes on to the next instruction. -/
def seqNext (q : Nat) (s : State) : State := seqGoto q (s.get (SEQ_PC_PC q) + 1) s

/-- The stack depths that SEQ_PC shows. -/
def showStacks (q : Nat) (s : State) : State :=
  let e := eng q s
  (s.set (SEQ_PC_CALLS q) e.calls.length).set (SEQ_PC_LOOPS q) e.loops.length

/-! ### Records and words of a repetition (R246, R252, R260) -/

/-- What taking the records of a repetition gives: the records and the state after, with whether a replay lacked one; or a
stall for want of words in the prefetch buffer. -/
inductive RecTake where
  | got (l : List (List Nat)) (s : State)
  | short (l : List (List Nat)) (s : State)
  | stall
  deriving DecidableEq, Repr

/-- The next record of the stream or of a replay. -/
def takeRecord (q : Nat) (s : State) : RecTake :=
  let n := recWords q s
  let e := eng q s
  if n = 0 then .got [[]] s
  else match e.replay with
    | some r =>
      if r.recording then
        if e.vecBuf.length < n then .stall
        else if (r.records.length + 1) * n * 8 > 262144 then .short [] s
        else
          let x := e.vecBuf.take n
          .got [x] (setEng { e with vecBuf := e.vecBuf.drop n, replay := some { r with records := r.records ++ [x] } } s)
      else match r.records[r.at_]? with
        | some x => .got [x] (setEng { e with replay := some { r with at_ := r.at_ + 1 } } s)
        | none => .short [] s
    | none =>
      if e.vecBuf.length < n then .stall
      else .got [e.vecBuf.take n] (setEng { e with vecBuf := e.vecBuf.drop n } s)

/-- The records of so many beats. -/
def takeRecords (q : Nat) : Nat → State → RecTake
  | 0, s => .got [] s
  | n + 1, s =>
    match takeRecord q s with
    | .stall => .stall
    | .short l t => .short l t
    | .got l t =>
      match takeRecords q n t with
      | .stall => .stall
      | .short m u => .short (l ++ m) u
      | .got m u => .got (l ++ m) u

/-! ### Adding a repetition to the queue -/

/-- The cycle of one beat as the generator stands. -/
def beatCycle (q w : Nat) (rec : List Nat) (fab : Option Nat) (mrep : Option Nat) (last : Bool) (s : State) : Cyc :=
  let l := genL q s
  ⟨(eng q s).enq, 0, 0, insTs w, false, insGsym w, insDmode w, genS q l s, l, genDs q l s, rec, fab, s.get (SEQ_PC_PC q), mrep,
    last, false, []⟩

/-- A cycle put at the queue's end. -/
def enqueue (q : Nat) (c : Cyc) (s : State) : State :=
  modEng q (fun e => { e with queue := e.queue ++ [c], enq := e.enq + 1 }) s

/-- The beats of a repetition: each queues its cycle, unless a reserved symbol ends the pattern before it (R242), and
DBEAT applies the data op after each (R246). -/
def beats (q w : Nat) (mrep : Option Nat) (ops : Bool) (recs : List (List Nat)) (words : List Nat) (total : Nat) :
    Nat → State → State
  | 0, s => s
  | n + 1, s =>
    let j := total - (n + 1)
    let c := beatCycle q w ((recs[j]?).getD []) (if insFab w then words[j]? else none) mrep (n == 0) s
    if badSymbol q (masksNow q s).off c s then endPattern q endSymbol 0 s
    else
      let s := enqueue q c s
      beats q w mrep ops recs words total n (if ops && insDbeat w then dataOps q w s else s)

/-- Room for a repetition in the queue of 512 cycles (chapter 11), and its data-in words at hand. -/
def roomFor (q w : Nat) (fresh : Bool) (s : State) : Bool :=
  decide ((eng q s).queue.length + insLen w + 1 ≤ 512) &&
    (!fresh || !insFab w || decide (insLen w + 1 ≤ (keyed q s.ports.din).length))

/-- One repetition of an instruction's vector (R238): none while the queue has no room or its data is not there. `ops`
applies its address and data ops; a repetition after the first reuses its records and words under VREP or in a wait. -/
def oneRep (q w : Nat) (ops reuse : Bool) (mrep : Option Nat) (s : State) : Option State :=
  let e := eng q s
  let n := insLen w + 1
  let saved := if reuse || insVrep w then e.repRecs else none
  if !roomFor q w saved.isNone s then none
  else
    let run (recs : List (List Nat)) (words : List Nat) (s : State) : State :=
      let s := modEng q (fun e => { e with repRecs := some (recs, words) }) s
      let s := beats q w mrep ops recs words n n s
      if ops && (eng q s).ending.isNone then (if insDbeat w then addrOps q w s else insOps q w s) else s
    match saved with
    | some p => some (run p.1 p.2 s)
    | none =>
      let words := if insFab w then (keyed q s.ports.din).take n else []
      let drop (s : State) : State :=
        if insFab w then { s with ports := { s.ports with din := putKeyed q ((keyed q s.ports.din).drop n) s.ports.din } } else s
      match takeRecords q n s with
      | .stall => none
      | .got l t => some (run l words (drop t))
      | .short l t =>
        -- the beats whose records are there are queued; the pattern ends before the next (R252)
        some (endPattern q endReplay 0 (beats q w mrep ops l words l.length l.length (drop t)))

/-! ### Executing an instruction -/

/-- An instruction with an ordinary vector: its repetitions, then its control action (R238, R247). -/
def runVector (q w : Nat) (control : State → State) (s : State) : State :=
  if insNovec w then control (insOps q w s)
  else match oneRep q w true false none s with
    | none => s
    | some t =>
      if (eng q t).ending.isSome then t
      else if (eng q s).rep + 1 > insRep w then control t
      else modEng q (fun e => { e with rep := e.rep + 1 }) t

/-- An instruction that waits (R255): its own repetitions, then `begin`; while the wait lasts one repetition more at a time
until `finish` is allowed, when its ops apply once. -/
def runWait (q w : Nat) (waiting : Bool) (begin_ : State → State) (done : State → Bool) (finish : State → State) (s : State) :
    State :=
  let apply (t : State) : State := finish (insOps q w (setWait q 0 t))
  let rep (t : State) : State := (oneRep q w false true none t).getD t
  if waiting then (if done s then apply s else if insNovec w then s else rep s)
  else if insNovec w then
    let t := begin_ s
    if done t && (eng q t).ending.isNone then apply t else t
  else match oneRep q w false false none s with
    | none => s
    | some t =>
      if (eng q t).ending.isSome then t
      else if (eng q s).rep + 1 > insRep w then
        let u := begin_ t
        if done u && (eng q u).ending.isNone then apply u else u
      else modEng q (fun e => { e with rep := e.rep + 1 }) t

/-- The engine pauses at a safe point (R257): PAUSED once the cycles already queued are followed by hold cycles. -/
def pauseNow (q : Nat) (s : State) : State :=
  let s := modEng q (fun e => { e with pauseTicks := 0, pauseWarned := false }) (setSeqState q seqPaused s)
  raise 0x0805 [⟨1, q⟩, ⟨1, s.get (SEQ_STAT_PAUSE_SRC q)⟩, ⟨3, s.get (SEQ_PC_PC q)⟩] s

/-- The engine stands at a safe point whose instruction it has not begun (R257). -/
def atSafePoint (q : Nat) (s : State) : Bool :=
  seqExecutes q s && !(eng q s).begun &&
    (match fetchIns q (s.get (SEQ_PC_PC q)) s with
     | some w => insSafe w
     | none => false)

/-- A pause request waits for a safe point (R257). -/
def pauseWaits (q : Nat) (s : State) : Bool := seqExecutes q s && s.get (SEQ_STAT_PAUSE_SRC q) != 0 && !atSafePoint q s

/-- An instruction whose opcode is `opc` executed: at its first step a safe point first serves a STOP or a pause that waits
(R257, R265); in ARMED the engine stands there until the start tick. Nothing happens where the engine does not stand at such an
instruction. -/
def seqExec (q opc : Nat) (body : Nat → State → State) (s : State) : State :=
  match seqExecutes q s, fetchIns q (s.get (SEQ_PC_PC q)) s with
  | true, some w =>
    if insOpc w ≠ opc ∨ insLegal w = false then s
    else if (eng q s).begun then showStacks q (body w s)
    else if insSafe w && (eng q s).stopReq && seqState q s == seqRunning then endPattern q endStopped 0 s
    else if insSafe w && s.get (SEQ_STAT_PAUSE_SRC q) != 0 then (if seqState q s = seqRunning then pauseNow q s else s)
    else showStacks q (body w (modEng q (fun e => { e with begun := true, fticks := 0, syncAt := e.enq }) s))
  | _, _ => s

/-! ### Control actions -/

/-- The sites that JFAIL and MATCH test (R244). -/
def enabledSites (q off mask : Nat) (s : State) : Nat :=
  (pins q s).foldl (fun m i =>
    let g := s.get (SEQ_PIN_SITE q i)
    if bit off g || bit mask g then m else putBit m g true) 0

/-- JFAIL's test (R253) under the masks of the last cycle queued before it (R244): with no enabled site it is false for ALL 0 and 1. -/
def failTest (q opb : Nat) (s : State) : Bool :=
  let m := masksOf q ((eng q s).syncAt - 1) s
  let en := enabledSites q m.off m.mask s
  let f := Nat.land (s.get (SEQ_SITE_FAIL_SITE q)) en
  let t := if en = 0 then false else if bit opb 2 then f == en else f != 0
  if bit opb 3 then !t else t

/-- JFAIL: test, CLEAR, jump (R253). -/
def doJfail (q w : Nat) (s : State) : State :=
  let t := failTest q (insOpb w) s
  let s := s.setIf (bit (insOpb w) 1) (SEQ_SITE_FAIL_SITE q) 0
  if t then seqGoto q (insOpa w) s else seqNext q s

/-- A condition of JC (R250). -/
def jcCond (q c : Nat) (s : State) : Bool :=
  let e := eng q s
  let ge (a b : Nat) : Bool := decide (s.get (GEN_VALUE q b) ≤ s.get (GEN_VALUE q a))
  if c = 0 then e.xw else if c = 1 then e.yw else if c = 2 then e.zw
  else if c = 3 then ge 0 3 else if c = 4 then ge 1 4 else if c = 5 then ge 2 5
  else s.on (SEQ_CTL_HFLAG q)

/-- LOOP pushes its body; a REPLAY loop starts recording unless one is active (R247, R252). -/
def doLoop (q w : Nat) (s : State) : State :=
  let pc := s.get (SEQ_PC_PC q)
  seqNext q (modEng q (fun e => { e with
    loops := e.loops ++ [⟨pc + 1, insOpa w + 1⟩]
    replay := match e.replay with
      | some r => some r
      | none => if bit (insOpb w) 0 then some ⟨e.loops.length + 1, [], true, 0⟩ else none }) s)

/-- ENDL counts a pass of the innermost loop: back while passes remain, else it is popped (R247, R252). -/
def doEndl (q : Nat) (s : State) : State :=
  let e := eng q s
  match e.loops.getLast? with
  | none => s
  | some l =>
    let mine := match e.replay with
      | some r => r.depth == e.loops.length
      | none => false
    if l.left > 1 then
      seqGoto q l.start (setEng { e with
        loops := e.loops.dropLast ++ [{ l with left := l.left - 1 }]
        replay := if mine then e.replay.map (fun r => { r with recording := false, at_ := 0 }) else e.replay } s)
    else seqNext q (setEng { e with loops := e.loops.dropLast, replay := if mine then none else e.replay } s)

/-- SETR (R250). -/
def doSetr (q w : Nat) (s : State) : State :=
  let n := bits (insOpb w) 0 6
  if n ≤ 9 then s.set (GEN_VALUE q n) (if n = 2 ∨ n = 5 then insOpa w % 64 else insOpa w)
  else if n = 24 then s.set (GEN_D_VALUE q 1) (s.get (GEN_D_VALUE q 0))
  else s.set (GEN_D_VALUE q 0) (s.get (GEN_DR_VALUE q (n - 16)))

/-- CLRF (R247). -/
def doClrf (q w : Nat) (s : State) : State :=
  let b := insOpb w
  let s := (s.setIf (bit b 0) (SEQ_SITE_FAIL_SITE q) 0).setIf (bit b 1) (SEQ_SITE_MATCH_SITE q) 0
  if bit b 2 then modEng q (fun e => { e with xw := false, yw := false, zw := false }) s else s

/-- The cycles queued so far, which the sequencer numbers from the pattern's start: the cycle count at a MARK. -/
def queuedCount (q : Nat) (s : State) : Nat := (eng q s).nextK + (eng q s).queue.length

/-- MARK (R247). -/
def doMark (q w : Nat) (s : State) : State :=
  let c := queuedCount q s
  raise 0x0810 [⟨1, q⟩, ⟨3, insOpa w⟩, ⟨3, c % 2 ^ 24⟩]
    ((s.set (SEQ_MARK_VALUE q) (insOpa w)).set (SEQ_MARK_CYCLE q) c)

/-- The SLU_REQ value of a sequencer's entry submitted with initiator 4 + s (R256). -/
def submitSlu (q k : Nat) (s : State) : Status × Option Nat × State :=
  sluSubmit (s.get (SEQ_SLU_CLASS q k)) (s.get (SEQ_SLU_TARGET q k)) (s.get (SEQ_SLU_CURRENT q k))
    (s.get (SEQ_SLU_DURATION q k)) (4 + q) s

/-- A granted ticket kept in SEQ_TICKET (R256). -/
def keepTicket (q k ticket : Nat) (s : State) : State :=
  (s.set (SEQ_TICKET_TICKET q k) ticket).set (SEQ_TICKET_VALID q k) 1

/-- SLU submits its request: queued or granted, RETRY to submit again at the ticks, or an end with SLUICE (R256). -/
def beginSlu (q k : Nat) (s : State) : State :=
  match submitSlu q k s with
  | (.done, some ent, t) => modEng q (fun e => { e with sluWait := some (ticketOf ent t), sluTicks := 0 }) (setWait q 2 t)
  | (.retry, _, t) =>
    raiseOnce 0x0808 (16 * q + k) [⟨1, q⟩, ⟨1, k⟩]
      (modEng q (fun e => { e with sluWait := none, sluTicks := 0 }) (setWait q 2 t))
  | (_, _, t) => endPattern q endSluice 0 t

/-- A waiting SLU's request is granted. -/
def sluDone (q : Nat) (s : State) : Bool :=
  match (eng q s).sluWait.bind (fun t => ticketEntry t s) with
  | some k => entGranted k s
  | none => false

/-- SLU ends with its grant: the ticket is kept. -/
def finishSlu (q k : Nat) (s : State) : State :=
  let t := match (eng q s).sluWait with
    | some ticket => keepTicket q k ticket s
    | none => s
  seqNext q (modEng q (fun e => { e with sluWait := none }) t)

/-- A stop or abort withdraws an SLU that waits; a request already granted keeps its grant, and its ticket is kept (R256). The wait
itself is over. -/
def withdrawSlu (q : Nat) (s : State) : State :=
  let e := eng q s
  let t := modEng q (fun e => { e with sluWait := none }) (if s.get (SEQ_STAT_WAIT q) = 2 then setWait q 0 s else s)
  match e.sluWait.bind (fun x => ticketEntry x s), fetchIns q (s.get (SEQ_PC_PC q)) s with
  | some ent, some w => if entGranted ent s then keepTicket q (bits (insOpb w) 0 3) (ticketOf ent s) t else sluEnd ent t
  | some ent, none => if entGranted ent s then t else sluEnd ent t
  | none, _ => t

/-- SLUREL (R256). -/
def doSlurel (q w : Nat) (s : State) : State :=
  let k := bits (insOpb w) 0 3
  let r := sluRelease (4 + q) (s.get (SEQ_TICKET_TICKET q k)) s
  let r := if s.on (SEQ_TICKET_VALID q k) then r else (Status.range, s)
  let t := (r.2.set (SEQ_TICKET_VALID q k) 0).set (SEQ_TICKET_TICKET q k) 0
  if r.1 = .done then t else raise 0x0809 [⟨1, q⟩, ⟨1, k⟩, ⟨1, r.1.code⟩] t

/-! ### MATCH (R254) -/

/-- Pattern-clock cycles of work in the queue. -/
def queueWork (q : Nat) (s : State) : Nat :=
  ((eng q s).queue.foldl (fun t c => t + s.get (ET_PER_PERIOD q c.ts)) 0) / 4000

/-- One step of a MATCH: SEQ_SITE_MATCH clears as it begins; a repetition is added while less than 128 pattern-clock cycles
of work are queued and fewer than REP + 1 have been; an instruction with NOVEC adds none. -/
def doMatch (q w : Nat) (s : State) : State :=
  let fresh := s.get (SEQ_STAT_WAIT q) != 3
  let s := if fresh then
      modEng q (fun e => { e with mfrom := e.enq, mreps := 0, mfail := 0 }) ((setWait q 3 s).set (SEQ_SITE_MATCH_SITE q) 0)
    else s
  let e := eng q s
  if e.mreps > insRep w ∨ queueWork q s ≥ 128 ∨ insNovec w then s
  else match oneRep q w false true (some e.mreps) s with
    | none => s
    | some t => modEng q (fun e => { e with mreps := e.mreps + 1 }) t

/-- A MATCH ends with a match: ops once, on to the next instruction. -/
def matchEnds (q : Nat) (s : State) : State :=
  match fetchIns q (s.get (SEQ_PC_PC q)) s with
  | some w => seqNext q (insOps q w (setWait q 0 s))
  | none => s

/-- A repetition of a MATCH has all its results: the sites in which no pin failed have matched (R254). One of an earlier MATCH is none
of this one's. -/
def matchResult (q : Nat) (c : CycSeen) (s : State) : State :=
  let fails := Nat.lor (eng q s).mfail c.fails
  if c.n < (eng q s).mfrom then s
  else if !c.last then modEng q (fun e => { e with mfail := fails }) s
  else
    let s := modEng q (fun e => { e with mfail := 0 }) s
    if s.get (SEQ_STAT_WAIT q) ≠ 3 ∨ (eng q s).ending.isSome then s
    else
      let en := enabledSites q c.off c.mask s
      let hit := en - Nat.land en fails
      match fetchIns q (s.get (SEQ_PC_PC q)) s with
      | none => s
      | some w =>
        let got := Nat.lor (s.get (SEQ_SITE_MATCH_SITE q)) hit
        let s := s.set (SEQ_SITE_MATCH_SITE q) got
        if en = 0 then matchEnds q s
        else if bit (insOpb w) 0 then (if hit = 0 then s else matchEnds q s)
        else if Nat.land got en = en then matchEnds q s else s

/-! ### Cycles leave the queue -/

/-- A hold cycle (R245). -/
def holdCycle (q : Nat) (s : State) : Cyc :=
  ⟨(eng q s).enq, 0, 0, s.get (SEQ_CTL_HOLD_TS q), true, 0, 0, 0, 0, 0, [], none, s.get (SEQ_PC_PC q), none, true, false, []⟩

/-- Hold cycles are due: paused, waiting without a vector, or a MATCH past its last repetition (R245). A wait that begins in ARMED gives
the pattern's first cycles. -/
def holdDue (q : Nat) (s : State) : Bool :=
  let pc := s.get (SEQ_PC_PC q)
  (eng q s).ending.isNone &&
    (seqState q s == seqPaused ||
      ((seqState q s == seqRunning || seqState q s == seqArmed) &&
        (match fetchIns q pc s with
         | some w =>
           (insNovec w && s.get (SEQ_STAT_WAIT q) != 0 && s.get (SEQ_STAT_WAIT q) != 5) ||
             (s.get (SEQ_STAT_WAIT q) == 3 && decide ((eng q s).mreps > insRep w))
         | none => false)))

/-- The period generator takes a cycle (R194): it gets its number and start, and T advances by the period of its set. -/
def issueCycle (q : Nat) (c : Cyc) (s : State) : State :=
  let e := eng q s
  let c := { c with k := e.nextK, t := e.nextT }
  let s := setEng { e with issued := e.issued ++ [c], nextK := e.nextK + 1, nextT := e.nextT + s.get (ET_PER_PERIOD q c.ts) } s
  (s.set (ET_SEQ_STAT_CYCLES q) (s.get (ET_SEQ_STAT_CYCLES q) + 1)).set (ET_SEQ_STAT_TS_LAST q) c.ts

/-- The next repetition reuses the records and words of the one before: VREP, a wait, or a MATCH (R246, R255). -/
def repReused (q w : Nat) (s : State) : Bool :=
  (eng q s).repRecs.isSome && (insVrep w || decide (1 ≤ s.get (SEQ_STAT_WAIT q) ∧ s.get (SEQ_STAT_WAIT q) ≤ 4))

/-- Records come from the replay buffer: a later pass of a REPLAY loop (R252). -/
def replays (q : Nat) (s : State) : Bool :=
  match (eng q s).replay with
  | some r => !r.recording
  | none => false

/-- Why the queue is dry (R240): 3 a page load, 2 the data-in FIFO, 1 the prefetch buffer, 0 the engine. -/
def underrunCause (q : Nat) (s : State) : Nat :=
  match fetchIns q (s.get (SEQ_PC_PC q)) s with
  | none => 3
  | some w =>
    if insNovec w || repReused q w s then 0
    else if insFab w && decide ((keyed q s.ports.din).length < insLen w + 1) then 2
    else if !replays q s && recWords q s != 0 && decide ((eng q s).vecBuf.length < recWords q s * (insLen w + 1)) then 1
    else 0

/-! ### Ends -/

/-- The end of a pattern recorded in SEQ_STAT with its event (R237). -/
def finishPattern (q : Nat) (x : SeqEnd) (s : State) : State :=
  let s := (((setWait q 0 (setSeqState q seqStoppedCode s)).set (SEQ_STAT_END q) x.code).set (SEQ_STAT_CAUSE q) x.cause)
  let s := modEng q (fun e => { e with
    ending := none, stopReq := false, begun := false, pauseTicks := 0, pauseWarned := false
    markers := e.markers ++ [⟨e.enq, 0, s.get (SEQ_PC_PC q), 0, some (x.code, x.cause, s.get (ET_SEQ_STAT_CYCLES q))⟩] }) s
  let s := jetsIdle q (fcFlush q s)
  let pc := s.get (SEQ_PC_PC q)
  if x.code = endUnderrun then raise 0x0801 [⟨1, q⟩, ⟨1, x.cause⟩, ⟨3, pc⟩, ⟨6, s.get (ET_SEQ_STAT_CYCLES q)⟩] s
  else if x.code = endDone ∨ x.code = endStopped ∨ x.code = endAborted ∨ x.code = endPower then
    raise 0x0802 [⟨1, q⟩, ⟨1, x.code⟩, ⟨6, s.get (ET_SEQ_STAT_CYCLES q)⟩, frameItem s] s
  else raise 0x0804 [⟨1, q⟩, ⟨1, x.code⟩, ⟨3, pc⟩] s

/-- Cycles that have not started are discarded with the queue; a close marker then follows the last cycle that completes (R241). -/
def discardCycles (q : Nat) (started : Cyc → Bool) (s : State) : State :=
  let e := eng q s
  let keep := e.issued.filter started
  let last := match keep.getLast? with
    | some c => c.k
    | none => e.doneK
  let s := setEng { e with
    queue := []
    issued := keep
    markers := e.markers.map (fun m => if spGet q s.fail.startN ≤ m.n then { m with last := min m.last last } else m) } s
  s.set (ET_SEQ_STAT_CYCLES q) (s.get (ET_SEQ_STAT_CYCLES q) - (e.issued.length - keep.length))

/-- A pattern ended at once, its cycles that have not started discarded. In ARMED no cycle was issued and the sequencer is
STOPPED at once (R237, R241, R265). -/
def endAtOnce (q code : Nat) (started : Cyc → Bool) (s : State) : State :=
  let armed := seqState q s == seqArmed
  let s := endInstead q code (discardCycles q started (withdrawSlu q s))
  if armed then finishPattern q ⟨code, 0⟩ s else s

/-- A cycle started when a Jet has met it, or its start came before the last tick. -/
def cycStarted (c : Cyc) : Bool := c.started

/-! ### SEQ_CTL (R264, R265) -/

/-- The pin table names a channel twice, or one of an ON bank that another sequencer owns (R264). -/
def pinsConflict (q : Nat) (s : State) : Bool :=
  let l := (pins q s).map (fun i => s.get (SEQ_PIN_CHANNEL q i))
  (l.any (fun c => decide (l.count c > 1))) ||
    l.any (fun c => domOn (bankDom c) s && s.get (JET_CFG_SEQ c) != q)

/-- The start tick judged at the write, `ns` before the next tick (R264): none where SEQ_START_AT lies too near. -/
def startTickOf (q ns : Nat) (s : State) : Option Nat :=
  let f := frameCount s
  let p := s.get FRM_STAT_PERIOD_ACT
  let at_ := s.get (SEQ_START_AT_FRAME q)
  if at_ = 0 then some ((f + 1 + ceilDiv (20000 - ns) p) % 2 ^ 48)
  else if at_ ≤ f ∨ ns + (at_ - f - 1) * p < 20000 then none
  else some at_

/-- What a START is answered (R264). -/
def startStatus (q ns : Nat) (s : State) : Status :=
  if !seqStopped q s then .range
  else if pinsConflict q s then .range
  else if (startTickOf q ns s).isNone then .range
  else if !pairOn s then .asleep
  else .done

/-- The pause sources follow SEQ_CTL.PAUSE (R257). -/
def hostPause (q : Nat) (s : State) : State := setPauseSrc q 0 (s.on (SEQ_CTL_PAUSE q)) s

/-- A sequencer ARMED (R264): flags, stacks, END and CAUSE cleared, the first eight pages loading, the stream rewound. -/
def armSeq (q tick : Nat) (s : State) : State :=
  let s := (((((s.set (SEQ_SITE_FAIL_SITE q) 0).set (SEQ_SITE_MATCH_SITE q) 0).set (SEQ_STAT_END q) 0).set
    (SEQ_STAT_CAUSE q) 0).set (ET_SEQ_STAT_CYCLES q) 0).set (SEQ_STAT_STATE q) seqArmed
  let e := eng q s
  let s := setEng { engReset q with
    startTick := tick
    masks := ⟨e.enq, s.get (SEQ_SITE_OFF_SITE q), s.get (SEQ_SITE_MASK_SITE q)⟩ :: keepMasks (oldestCycle e) e.masks
    vecAt := s.get (SEQ_VEC_BASE q)
    issued := e.issued
    markers := e.markers
    enq := e.enq
    seen := e.seen } s
  let s := fcStart q s
  let p := pageOf (s.get (SEQ_PROG_ENTRY q))
  let s := forNat 8 (fun i t => if p + i < 65536 then beginLoad q (p + i) false t else t) s
  showStacks q (seqGoto q (s.get (SEQ_PROG_ENTRY q)) s)

/-- A write of SEQ_CTL. `ns` is the time to the next tick, `clk` the pattern-clock cycle since T0 where the writer's time is
known (R257, R264, R265). -/
def wrSeqCtl (a : Agent) (q v ns : Nat) (clk : Option Nat) (s : State) : Status × State :=
  let start := (SEQ_CTL_START q).hit v
  let stop := (SEQ_CTL_STOP q).hit v
  let abort := (SEQ_CTL_ABORT q).hit v
  let st := seqState q s
  if !a.ctl then (.denied, s)
  else if start && (stop || abort) then (.range, s)
  else if start && startStatus q ns s != .done then (startStatus q ns s, s)
  else
    let tick := (startTickOf q ns s).getD 0
    let s := hostPause q (writeFlds (SEQ_CTL_fields q) v s)
    if start then (.done, armSeq q tick s)
    else if st = seqStoppedCode then (.done, s)
    else if abort then
      (.done, endAtOnce q endAborted (fun c => match clk with | some n => decide (c.t / 4000 ≤ n) | none => cycStarted c) s)
    else if stop then
      (.done, if st = seqRunning then modEng q (fun e => { e with stopReq := true }) s else endAtOnce q endStopped cycStarted s)
    else (.done, s)

/-- SEQ_CTL's read-write fields as they stand. -/
def seqCtlNow (q : Nat) (s : State) : Nat :=
  s.get (SEQ_CTL_PAUSE q) % 2 * 2 ^ 28 + s.get (SEQ_CTL_HFLAG q) % 2 * 2 ^ 27 + s.get (SEQ_CTL_HOLD_TS q) % 64 * 2 ^ 18 +
    s.get (SEQ_CTL_PAUSE_WARN q) % 65536

/-! ### Other registers (R243, R266) -/

/-- A write refused unless the sequencer is stopped, and where `bad` holds. -/
def wrSeqStopped (l : List (Acc × Fld)) (bad : Bool) (a : Agent) (q v : Nat) (s : State) : Status × State :=
  if !a.ctl then (.denied, s) else if !seqStopped q s || bad then (.range, s) else (.done, writeFlds l v s)

/-- A SEQ_PIN value outside what its KIND uses (R243). -/
def pinBad (q i v : Nat) : Bool :=
  let k := (SEQ_PIN_KIND q i).of v
  let b := (SEQ_PIN_BIT q i).of v
  k == 7 || (k == 2 && decide (b > 23)) || (k == 3 && decide (b > 53)) || (k == 1 && decide (b > 7)) ||
    ((k == 5 || k == 6) && decide (b > 15)) || (k == 6 && decide (b > 9)) || decide ((SEQ_PIN_HOLD q i).of v > 9)

/-- A GEN value too large for Z or ZMAX (R266). -/
def genBad (q r v : Nat) : Bool := (r == 2 || r == 5) && decide ((GEN_VALUE q r).of v > 63)

/-- A write of SEQ_SITE_MASK or SEQ_SITE_OFF: at once while stopped, else from the next tick on (R244). -/
def wrSeqSite (l : List (Acc × Fld)) (a : Agent) (v : Nat) (s : State) : Status × State :=
  if !a.ctl then (.denied, s) else (.done, writeFlds l v s)

/-- A write of SEQ_START_AT. -/
def wrSeqStartAt (a : Agent) (q v : Nat) (s : State) : Status × State :=
  if !a.ctl then (.denied, s) else (.done, writeFlds (SEQ_START_AT_fields q) v s)

/-! ### Hooks -/

/-- A tick as one sequencer sees it: the site masks in force, FWAIT and pause counts, an SLU refused before is submitted
again (R244, R255 to R257). -/
def seqTick1 (q : Nat) (s : State) : State :=
  if !s.seqs.any (fun e => e.q == q) then s
  else
    let waits := pauseWaits q s
    let m := masksNow q s
    let off := s.get (SEQ_SITE_OFF_SITE q)
    let mask := s.get (SEQ_SITE_MASK_SITE q)
    let s := if m.off = off ∧ m.mask = mask then s else pushMasks q (firstAfterTick q s) off mask s
    let s := modEng q (fun e => { e with
      issued := e.issued.map (fun c => if beforeTick e c s then { c with started := true } else c)
      fticks := e.fticks + 1
      sluTicks := e.sluTicks + 1
      pauseTicks := if waits then e.pauseTicks + 1 else 0 }) s
    if s.get (SEQ_STAT_WAIT q) = 2 ∧ (eng q s).sluWait = none ∧ seqExecutes q s then
      match fetchIns q (s.get (SEQ_PC_PC q)) s with
      | some w =>
        let n := (eng q s).sluTicks
        modEng q (fun e => { e with sluTicks := n }) (beginSlu q (bits (insOpb w) 0 3) s)
      | none => s
    else s

/-- A tick as the sequencers see it. -/
def seqTick (s : State) : State := forNat 16 seqTick1 s

/-- Group g enters LOWERING (R237, R268). -/
def seqGroupLower (g : Nat) (s : State) : State :=
  forNat 4 (fun i t =>
    let q := 4 * g + i
    if seqStopped q t then t else endAtOnce q endPower cycStarted t) s

/-- Group g loses its registers, pages, queues and replay buffers, and its pins go to the off state (R267). Close markers already sent
stay, behind the last cycle that completed. FREEZE_TEST and a THROTTLE request that stand go on asking for a pause (R257, R280). -/
def seqGroupReset (g : Nat) (s : State) : State :=
  forNat 4 (fun i t =>
    let q := 4 * g + i
    let t := withdrawSlu q (discardCycles q (fun _ => false) t)
    let m := (eng q t).markers
    let t := jetsIdle q (t.resetRegs (0x3007100000 + 0x10000 * (q % 16)) (0x3007110000 + 0x10000 * (q % 16)))
    setEng { engReset q with markers := m.map (fun x => { x with n := 0 }) }
      (t.set (SEQ_STAT_PAUSE_SRC q) ((if bit (t.get DBG_FREEZE_MASK) q then 2 else 0) + (if t.on (FC_SEQ_STAT_THROTTLING q) then 4 else 0)))) s

/-! ### Commands: starting and stopping -/

/-- SEQ_START (R264): a write of SEQ_CTL with START among its bits, so long before the next tick. -/
def execSeqStart (a : Agent) (q : Fin 16) (v ns : Nat) (s : State) : Out :=
  ok (answered (atIngress (seqDom q.val) (wrSeqCtl a q.val (Nat.lor v (2 ^ 29)) ns none) s))

/-- SEQ_STOP (R265). -/
def execSeqStop (a : Agent) (q : Fin 16) (s : State) : Out :=
  ok (answered (atIngress (seqDom q.val) (wrSeqCtl a q.val (seqCtlNow q.val s + 2 ^ 30) 0 none) s))

/-- SEQ_ABORT (R241, R265). -/
def execSeqAbort (a : Agent) (q : Fin 16) (nowClk : Nat) (s : State) : Out :=
  ok (answered (atIngress (seqDom q.val) (wrSeqCtl a q.val (seqCtlNow q.val s + 2 ^ 31) 0 (some nowClk)) s))

/-- SEQ_PAUSE (R257). -/
def execSeqPause (a : Agent) (q : Fin 16) (s : State) : Out :=
  ok (answered (atIngress (seqDom q.val) (wrSeqCtl a q.val (putBit (seqCtlNow q.val s) 28 true) 0 none) s))

/-- SEQ_RESUME (R270). -/
def execSeqResume (a : Agent) (q : Fin 16) (s : State) : Out :=
  ok (answered (atIngress (seqDom q.val) (wrSeqCtl a q.val (putBit (seqCtlNow q.val s) 28 false) 0 none) s))

/-- A pause request has met a safe point before the start tick (R257): hold cycles follow the cycles queued, from the first one on. -/
def pauseMet (q : Nat) (s : State) : Bool := atSafePoint q s && s.get (SEQ_STAT_PAUSE_SRC q) != 0

/-- The pattern starts (R264): RUNNING, T0 at the start tick's pattern-clock edge, event 0x0803; a pause that has met its safe point
follows at once (R257). -/
def startPattern (q : Nat) (s : State) : State :=
  let met := pauseMet q s
  let s := raise 0x0803 [⟨1, q⟩, frameItem s]
    (modEng q (fun e => { e with nextK := 0, nextT := 0, t0Ps := s.clock.tickPs }) (setSeqState q seqRunning s))
  if met then pauseNow q s else s

/-- SEQ_START_TICK (R237, R264): ARMED to RUNNING at the start tick, or to STOPPED where the first cycle is not ready. -/
def execSeqStartTick (q : Fin 16) (s : State) : Out :=
  let e := eng q.val s
  whenOk (seqState q.val s == seqArmed && decide (e.startTick ≤ frameCount s)) s
    (if e.queue.isEmpty && !holdDue q.val s && !pauseMet q.val s then
      finishPattern q.val ((e.ending).getD ⟨endUnderrun, underrunCause q.val s⟩) (withdrawSlu q.val s)
     else startPattern q.val s)

/-- CYCLE_ISSUE (R194, R245, R258). -/
def execCycleIssue (q : Fin 16) (s : State) : Out :=
  let e := eng q.val s
  if seqState q.val s = seqRunning ∨ seqState q.val s = seqPaused then
    match e.queue with
    | c :: r => ok (issueCycle q.val c (setEng { e with queue := r } s))
    | [] => whenOk (holdDue q.val s) s
        (issueCycle q.val (holdCycle q.val s) (modEng q.val (fun e => { e with enq := e.enq + 1 }) s))
  else ok s

/-- VECTOR_UNDERRUN (R240). -/
def execVectorUnderrun (q : Fin 16) (s : State) : Out :=
  let e := eng q.val s
  whenOk (seqState q.val s == seqRunning && e.queue.isEmpty && e.ending.isNone && !holdDue q.val s) s
    (endPattern q.val endUnderrun (underrunCause q.val s) (withdrawSlu q.val s))

/-- PATTERN_END (R237, R241): the last issued cycle has ended. -/
def execPatternEnd (q : Fin 16) (s : State) : Out :=
  let e := eng q.val s
  match e.ending with
  | none => ok s
  | some x => whenOk (!seqStopped q.val s && seqState q.val s != seqArmed && e.queue.isEmpty) s
      (finishPattern q.val x (withdrawSlu q.val s))

/-- SEQ_RESUME_START (R257). -/
def execSeqResumeStart (q : Fin 16) (s : State) : Out :=
  whenOk (seqState q.val s == seqPaused && s.get (SEQ_STAT_PAUSE_SRC q.val) == 0) s
    (raise 0x0806 [⟨1, q.val⟩]
      (modEng q.val (fun e => { e with begun := true, fticks := 0 }) (setSeqState q.val seqRunning s)))

/-- PAUSE_WARN_EXPIRY (R257). -/
def execPauseWarnExpiry (q : Fin 16) (s : State) : Out :=
  let e := eng q.val s
  whenOk (pauseWaits q.val s && !e.pauseWarned &&
      decide (max 1 (s.get (SEQ_CTL_PAUSE_WARN q.val)) ≤ e.pauseTicks)) s
    (raise 0x0807 [⟨1, q.val⟩, ⟨2, e.pauseTicks⟩] (setEng { e with pauseWarned := true } s))

/-- After a load ends, the page a stalled fetch needs and the PREFs that wait find room if they can (R259). -/
def retryLoads (q : Nat) (s : State) : State :=
  let e := eng q s
  let s := setEng { e with demand := none, prefWait := [] } s
  let s := match e.demand with
    | some n => beginLoad q n false s
    | none => s
  forEach e.prefWait (fun n t => beginLoad q n true t) s

/-- A page's bytes arrive (R259). -/
def pageArrives (q page : Nat) (b : List Byte) (s : State) : State :=
  let s := modEng q (fun e => { e with pages := e.pages.map (fun p =>
    if p.num = page then { p with ready := true, pref := false, bytes := b } else p) }) s
  let pc := s.get (SEQ_PC_PC q)
  let s := if s.get (SEQ_STAT_WAIT q) = 5 ∧ pageOf pc = page then touchPage q pc (setWait q 0 s) else s
  retryLoads q s

/-- PAGE_LOAD_DONE (R259, R261): the page is read from HBM; an answer other than DONE ends the pattern with MEMORY. -/
def execPageLoadDone (q : Fin 16) (page : Nat) (st : Status) (s : State) : Out :=
  let e := eng q.val s
  let x := hbmLoad (4 + q.val) (s.get (SEQ_PROG_BASE q.val) + 4096 * page) 64 s
  let st := if x.1 = .done then st else x.1
  whenOk (e.pages.any (fun p => p.num == page && !p.ready) && hbmWindow 0 64 s) s
    (if st = .done then pageArrives q.val page x.2.1 x.2.2
     else if st = .retry then s
     else endPattern q.val endMemory 0
       (modEng q.val (fun e => { e with pages := e.pages.filter (fun p => p.num != page) }) x.2.2))

/-- The words of bytes, eight to a word. -/
def wordsOf : Nat → List Byte → List Nat
  | 0, _ => []
  | n + 1, b => ofBytes (b.take 8) :: wordsOf n (b.drop 8)

/-- VECTOR_PREFETCH (R260, R261): the next line of the stream into the 64 KiB buffer. -/
def execVectorPrefetch (q : Fin 16) (st : Status) (s : State) : Out :=
  let e := eng q.val s
  let x := hbmLoad (4 + q.val) e.vecAt 1 s
  let st := if x.1 = .done then st else x.1
  whenOk (!seqStopped q.val s && e.ending.isNone && recWords q.val s != 0 && decide (e.vecBuf.length + 8 ≤ 8192) &&
      hbmWindow 0 1 s) s
    (if st = .done then modEng q.val (fun e => { e with vecBuf := e.vecBuf ++ wordsOf 8 x.2.1, vecAt := e.vecAt + 64 }) x.2.2
     else if st = .retry then s
     else endPattern q.val endMemory 0 x.2.2)

/-- SEQ_RESULT_SEEN (R253, R254): the oldest result that fail capture has handed on. -/
def execSeqResultSeen (q : Fin 16) (s : State) : Out :=
  let e := eng q.val s
  match e.seen with
  | [] => ok s
  | c :: r =>
    let t := setEng { e with seen := r } s
    match c.mrep with
    | some _ => ok (matchResult q.val c t)
    | none =>
      let f := c.fails - Nat.land c.fails (Nat.lor c.mask c.off)
      ok (t.set (SEQ_SITE_FAIL_SITE q.val) (Nat.lor (t.get (SEQ_SITE_FAIL_SITE q.val)) f))

/-! ### Commands: instructions -/

/-- VEC (R238, R247). -/
def execVec (q : Fin 16) (s : State) : Out := ok (seqExec q.val 0 (fun w => runVector q.val w (seqNext q.val)) s)

/-- JMP (R247). -/
def execJmp (q : Fin 16) (s : State) : Out := ok (seqExec q.val 1 (fun w => runVector q.val w (seqGoto q.val (insOpa w))) s)

/-- CALL (R251). -/
def execCall (q : Fin 16) (s : State) : Out :=
  ok (seqExec q.val 2 (fun w t =>
    if (eng q.val t).calls.length ≥ 8 then endPattern q.val endStack 0 t
    else runVector q.val w (fun u => seqGoto q.val (insOpa w)
      (modEng q.val (fun e => { e with calls := e.calls ++ [u.get (SEQ_PC_PC q.val) + 1] }) u)) t) s)

/-- RET (R251). -/
def execRet (q : Fin 16) (s : State) : Out :=
  ok (seqExec q.val 3 (fun w t =>
    match (eng q.val t).calls.getLast? with
    | none => endPattern q.val endStack 0 t
    | some a => runVector q.val w (fun u => seqGoto q.val a
        (modEng q.val (fun e => { e with calls := e.calls.dropLast }) u)) t) s)

/-- LOOP (R251, R252). -/
def execLoop (q : Fin 16) (s : State) : Out :=
  ok (seqExec q.val 4 (fun w t =>
    if (eng q.val t).loops.length ≥ 16 then endPattern q.val endStack 0 t else runVector q.val w (doLoop q.val w) t) s)

/-- ENDL (R251, R252). -/
def execEndl (q : Fin 16) (s : State) : Out :=
  ok (seqExec q.val 5 (fun w t =>
    if (eng q.val t).loops.isEmpty then endPattern q.val endStack 0 t else runVector q.val w (doEndl q.val) t) s)

/-- JFAIL (R253): with SYNC it waits until every cycle queued before it has its result. -/
def execJfail (q : Fin 16) (s : State) : Out :=
  ok (seqExec q.val 6 (fun w t =>
    if bit (insOpb w) 0 then
      let known (u : State) : Bool :=
        let e := eng q.val u
        (e.queue ++ e.issued).all (fun c => decide (e.syncAt ≤ c.n)) && e.seen.all (fun c => decide (e.syncAt ≤ c.n))
      runWait q.val w (t.get (SEQ_STAT_WAIT q.val) == 4) (setWait q.val 4) known (doJfail q.val w) t
    else runVector q.val w (doJfail q.val w) t) s)

/-- JC (R250). -/
def execJc (q : Fin 16) (s : State) : Out :=
  ok (seqExec q.val 7 (fun w => runVector q.val w (fun t =>
    if jcCond q.val (bits (insOpb w) 0 4) t != bit (insOpb w) 4 then seqGoto q.val (insOpa w) t else seqNext q.val t)) s)

/-- MATCH (R254). -/
def execSeqMatch (q : Fin 16) (s : State) : Out := ok (seqExec q.val 8 (doMatch q.val) s)

/-- MATCH_TIMEOUT (R254): every repetition's result is known and none ended the MATCH. -/
def execMatchTimeout (q : Fin 16) (s : State) : Out :=
  let e := eng q.val s
  match fetchIns q.val (s.get (SEQ_PC_PC q.val)) s with
  | none => ok s
  | some w =>
    whenOk (seqExecutes q.val s && insOpc w == 8 && s.get (SEQ_STAT_WAIT q.val) == 3 && (insNovec w || decide (e.mreps > insRep w)) &&
        !(e.queue ++ e.issued).any (fun c => c.mrep.isSome && decide (e.mfrom ≤ c.n)) &&
        !e.seen.any (fun c => c.mrep.isSome && decide (e.mfrom ≤ c.n))) s
      (let t := raise 0x080A [⟨1, q.val⟩, ⟨3, s.get (SEQ_PC_PC q.val)⟩, ⟨8, s.get (SEQ_SITE_MATCH_SITE q.val)⟩] s
       seqGoto q.val (insOpa w) (insOps q.val w (setWait q.val 0 t)))

/-- FWAIT (R255): its wait begins and its vector repeats; FWAIT_END ends it. -/
def execFwait (q : Fin 16) (s : State) : Out :=
  ok (seqExec q.val 9 (fun w t =>
    runWait q.val w (t.get (SEQ_STAT_WAIT q.val) == 1) (setWait q.val 1) (fun _ => false) (seqNext q.val) t) s)

/-- FWAIT_END (R255): the engine sees the OPB-th tick since the FWAIT began. -/
def execFwaitEnd (q : Fin 16) (s : State) : Out :=
  match fetchIns q.val (s.get (SEQ_PC_PC q.val)) s with
  | none => ok s
  | some w => whenOk (seqExecutes q.val s && insOpc w == 9 && s.get (SEQ_STAT_WAIT q.val) == 1 &&
        decide (max 1 (insOpb w) ≤ (eng q.val s).fticks)) s
      (seqNext q.val (insOps q.val w (setWait q.val 0 s)))

/-- SLU (R256). -/
def execSlu (q : Fin 16) (s : State) : Out :=
  ok (seqExec q.val 10 (fun w t =>
    let k := bits (insOpb w) 0 3
    runWait q.val w (t.get (SEQ_STAT_WAIT q.val) == 2) (beginSlu q.val k) (sluDone q.val) (finishSlu q.val k) t) s)

/-- SLU_TIMEOUT (R256): the request is withdrawn and the sequencer jumps; a grant in the same cycle wins. -/
def execSluTimeout (q : Fin 16) (s : State) : Out :=
  match fetchIns q.val (s.get (SEQ_PC_PC q.val)) s with
  | none => ok s
  | some w =>
    let n := bits (insOpb w) 3 13
    whenOk (seqExecutes q.val s && insOpc w == 10 && s.get (SEQ_STAT_WAIT q.val) == 2 && n != 0 &&
        decide (n ≤ (eng q.val s).sluTicks) && !sluDone q.val s) s
      (let t := raise 0x080B [⟨1, q.val⟩, ⟨1, bits (insOpb w) 0 3⟩] (withdrawSlu q.val s)
       seqGoto q.val (insOpa w) (insOps q.val w (setWait q.val 0 t)))

/-- SLUREL (R256). -/
def execSlurel (q : Fin 16) (s : State) : Out :=
  ok (seqExec q.val 11 (fun w => runVector q.val w (fun t => seqNext q.val (doSlurel q.val w t))) s)

/-- SETR (R250). -/
def execSetr (q : Fin 16) (s : State) : Out :=
  ok (seqExec q.val 12 (fun w => runVector q.val w (fun t => seqNext q.val (doSetr q.val w t))) s)

/-- CLRF (R247). -/
def execClrf (q : Fin 16) (s : State) : Out :=
  ok (seqExec q.val 13 (fun w => runVector q.val w (fun t => seqNext q.val (doClrf q.val w t))) s)

/-- DCLOSE (R258): a close marker behind every cycle queued before it. -/
def execDclose (q : Fin 16) (s : State) : Out :=
  ok (seqExec q.val 14 (fun w => runVector q.val w (fun t => seqNext q.val
    (modEng q.val (fun e => { e with
      markers := e.markers ++ [⟨e.enq, queuedCount q.val t - 1, t.get (SEQ_PC_PC q.val), bits (insOpb w) 0 12, none⟩] }) t))) s)

/-- MARK (R247). -/
def execMark (q : Fin 16) (s : State) : Out :=
  ok (seqExec q.val 15 (fun w => runVector q.val w (fun t => seqNext q.val (doMark q.val w t))) s)

/-- PREF (R259). -/
def execPref (q : Fin 16) (s : State) : Out :=
  ok (seqExec q.val 16 (fun w => runVector q.val w (fun t => seqNext q.val (beginLoad q.val (pageOf (insOpa w)) true t))) s)

/-- STOP (R247). -/
def execStop (q : Fin 16) (s : State) : Out :=
  ok (seqExec q.val 17 (fun w => runVector q.val w (endPattern q.val endDone 0)) s)

/-- ILLEGAL_OPCODE (R247 to R250): the pattern ends before an instruction that the tables do not define. -/
def execIllegalOpcode (q : Fin 16) (s : State) : Out :=
  match fetchIns q.val (s.get (SEQ_PC_PC q.val)) s with
  | none => ok s
  | some w => whenOk (seqExecutes q.val s && !insLegal w) s (endPattern q.val endIllegal 0 s)

end Sys2Proof.Machine
end

