-- ==== Sys2Proof/Machine/JetRun.lean ====
section
/-! DEFINITION. A Jet meets a DUT cycle: blocks, bad cycles, driven levels, sentinels and the compare result (R168 to R174,
R196, R202, R218, R243). -/
namespace Sys2Proof.Machine

/-- A channel with EN = 1 meets a period below a limit: its cause bits are set with event 0x0501 (R174). -/
def blockCheck (n per : Nat) (s : State) : State :=
  let new (c : Bool) (f : Fld) : Bool := c && !s.on f
  let r := new (overRate n per s) (JET_STAT_BLK_RATE n)
  let w := new (overWide n per s) (JET_STAT_BLK_WIDE n)
  let p := new (overSpare n per s) (JET_STAT_BLK_SPARE n)
  if r || w || p then
    let s := ((s.setIf r (JET_STAT_BLK_RATE n) 1).setIf w (JET_STAT_BLK_WIDE n) 1).setIf p (JET_STAT_BLK_SPARE n) 1
    let s := { s with jets := { s.jets with blockHeld := s.jets.blockHeld.erase n } }
    raise 0x0501 [⟨2, n⟩,
      ⟨1, s.get (JET_STAT_BLK_RATE n) + 2 * s.get (JET_STAT_BLK_WIDE n) + 4 * s.get (JET_STAT_BLK_SPARE n)⟩, frameItem s] s
  else s

/-- The first issued cycle numbered `k` that has no result of the channel yet. -/
def cycleFor (n k : Nat) (l : List Cyc) : Option Cyc :=
  l.find? (fun c => c.k == k && !c.res.any (fun r => r.ch == n))

/-- An issued cycle replaced. -/
def putCycle (q : Nat) (c : Cyc) (s : State) : State :=
  modEng q (fun e => { e with issued := e.issued.map (fun x => if x.n = c.n then c else x) }) s

/-- The site masks of a cycle: SEQ_SITE_OFF and SEQ_SITE_MASK as they rule cycles of its start (R244). -/
def cycleMasks (q : Nat) (c : Cyc) (s : State) : Nat × Nat := ((masksOf q c.n s).off, (masksOf q c.n s).mask)

/-- The symbol of a channel in a cycle; X for one that its sequencer's pin table does not name (R243). -/
def channelSymbol (q n : Nat) (c : Cyc) (s : State) : Nat :=
  match pinOf q n s with
  | some i => pinSymbol q i (cycleMasks q c s).1 c s
  | none => 6

/-- The data bit that K repeats: that of the channel's last DRIVE cycle. -/
def lastBit (q n : Nat) (s : State) : Bool := spGet n (eng q s).lastData != 0

/-- A cycle of an enabled channel: the block check, the bad-cycle count, the level driven last, a sentinel where one is
wanted, and the edges as placed. -/
def jetDrives (q n : Nat) (c : Cyc) (x : Nat) (s : State) : State :=
  let per := s.get (ET_PER_PERIOD q c.ts)
  let s := blockCheck n per s
  let bad := !jetBlocked n s && badCycle n c.ts s
  let d := symbolData x (lastBit q n s)
  let drive := symbolDrives x
  let s := if drive then modEng q (fun e => { e with lastData := spSet n (if d then 1 else 0) e.lastData }) s else s
  let s := if bad then countBad n c.ts s else s
  let s := { s with jets := { s.jets with
    bad := if bad then (if n ∈ s.jets.bad then s.jets.bad else s.jets.bad ++ [n]) else s.jets.bad.erase n } }
  let p := placeCycle n c drive d s
  let sent := !drive && symbolExpect x == 0 && sentWanted n s && sentEligible n c.ts per s
  let p := if sent then { p with sent := true, drive := sentinelEdges n c s } else p
  let s := if sent then countSentinel n s else s
  let lvl := if seqStopped q s then 0 else formatEnd drive (s.get (ET_TS_CFG_FMT n c.ts)) d
  { s with jets := { s.jets with placed := putPlaced p s.jets.placed, drv := spSet n lvl s.jets.drv } }

/-- The channel's compare result (R171 to R174, R202): forced to fail on a blocked or bad channel that strobes and expects;
a channel with EN 0 passes. -/
def jetResult (n : Nat) (c : Cyc) (x : Nat) (seen : Strobes) (s : State) : ChanRes :=
  let mode := s.get (JET_CFG_STROBE n)
  let cmp := s.on (JET_CFG_EN n) && mode != 3 && symbolExpect x != 0
  let forced := jetBlocked n s || decide (n ∈ s.jets.bad)
  ⟨n, cmp && (forced || strobeFails n mode (symbolExpect x) seen s), cmpCode (comparator n seen.c1 s), cmp,
    placeStrobe n c.n c.t (s.get (ET_TS_CMP_C1 n c.ts)) s / 4000 + 40⟩

/-- A channel meets the cycle numbered `k` of its sequencer. -/
def jetMeets (n k : Nat) (seen : Strobes) (s : State) : State :=
  let q := s.get (JET_CFG_SEQ n)
  match cycleFor n k (eng q s).issued with
  | none => s
  | some c =>
    let c := { c with started := true }
    let x := channelSymbol q n c s
    let s := if s.on (JET_CFG_EN n) then jetDrives q n c x s else s
    putCycle q { c with res := c.res ++ [jetResult n c x seen s] } s

/-- A sequencer's cycles are still played: its group is ON, or is LOWERING and runs out the cycles it started (R199, R268). -/
def seqPlays (q : Nat) (s : State) : Bool := domOn (seqDom q) s || domState (seqDom q) s == 3

/-- JET_CYCLE (R168, R171 to R174, R202, R218). -/
def execJetCycle (ch : Fin 512) (k : Nat) (seen : Strobes) (s : State) : Out :=
  whenOk (domRuns (bankDom ch.val) s && seqPlays (s.get (JET_CFG_SEQ ch.val)) s) s (jetMeets ch.val k seen s)

end Sys2Proof.Machine
end

