-- ==== Sys2Proof/Machine/Fail.lean ====
section
/-! DEFINITION. Fail capture: counters, fail maps, windows, the drain to the log rings, spills and the compare tap
(chapter 12, R135). -/
namespace Sys2Proof.Machine

/-! FC_MAP_CTL.STATE codes (R284). -/
def mapFree : Nat := 0
def mapOpen : Nat := 1
def mapClosed : Nat := 2
def mapSpilling : Nat := 3
def mapAnalysis : Nat := 4
def mapClearing : Nat := 5

def mapState (m : Nat) (s : State) : Nat := s.get (FC_MAP_CTL_STATE m)

/-! ### Map memory -/

/-- Bits of one slice (chapter 12), and the 64-bit words it holds. -/
def sliceBits : Nat := 1572864
def sliceWords : Nat := 24576

/-- Bit `b` of window m: its place in the map memory, as a bit number over all slices. -/
def mapPlace (m b : Nat) (s : State) : Nat := s.get (FC_MAP_SEL_SLICE m) * sliceBits + b

/-- One bit of the map memory, read and set. -/
def mapBit (i : Nat) (s : State) : Bool := bit (spGet (i / 64) s.fail.map) (i % 64)
def setMapBit (i : Nat) (s : State) : State :=
  { s with fail := { s.fail with map := spSet (i / 64) (putBit (spGet (i / 64) s.fail.map) (i % 64) true) s.fail.map } }

/-- Bits of window m (R285, R287). -/
def mapBits (m : Nat) (s : State) : Nat :=
  2 ^ (s.get (FC_MAP_XY_XLOG2 m) + s.get (FC_MAP_XY_YLOG2 m) + s.get (FC_MAP_SEL_IOLOG2 m))

/-- The slices of window m. -/
def mapSlices (m : Nat) (s : State) : Nat × Nat :=
  (s.get (FC_MAP_SEL_SLICE m), s.get (FC_MAP_SEL_SLICE m) + s.get (FC_MAP_SEL_NSLM1 m))

/-- Every slice of the window zero. -/
def mapZero (m : Nat) (s : State) : State :=
  let r := mapSlices m s
  { s with fail := { s.fail with map := spClear (sliceWords * r.1) (sliceWords * (r.2 + 1)) s.fail.map } }

/-- The window that is not FREE and holds a slice. -/
def sliceOwner (sl : Nat) (s : State) : Option Nat :=
  (List.range 128).find? (fun m => mapState m s != mapFree && decide ((mapSlices m s).1 ≤ sl) && decide (sl ≤ (mapSlices m s).2))

/-! ### A cycle's results -/

/-- The pins of site g in ascending pin-table order (R273). -/
def sitePins (q g : Nat) (s : State) : List Nat := (pins q s).filter (fun i => s.get (SEQ_PIN_SITE q i) == g)

/-- The pin failed in the cycle. -/
def pinFailed (q i : Nat) (c : Cyc) (s : State) : Bool :=
  c.res.any (fun r => r.ch == s.get (SEQ_PIN_CHANNEL q i) && r.fail)

/-- The sites in which some pin failed, as a mask (R273). -/
def failSites (q : Nat) (c : Cyc) (s : State) : Nat :=
  (pins q s).foldl (fun m i => if pinFailed q i c s then putBit m (s.get (SEQ_PIN_SITE q i)) true else m) 0

/-- Bit j: the j-th of these pins failed. -/
def failMask (q : Nat) (c : Cyc) (s : State) : Nat → List Nat → Nat
  | _, [] => 0
  | j, i :: r => (if pinFailed q i c s then 2 ^ j else 0) + failMask q c s (j + 1) r

/-- The FAIL records of one site in a cycle, one for each group of 64 pins that holds a failing pin; whether any was
admitted (R278). -/
def siteRecords (q g : Nat) (first counted : Bool) (c : Cyc) (s : State) : Bool × State :=
  let l := sitePins q g s
  (List.range 8).foldl (fun p gr =>
    let m := failMask q c s 0 (slice (64 * gr) 64 l)
    if m = 0 then p
    else
      let w0 := c.k % 2 ^ 48 + g * 2 ^ 48 + q * 2 ^ 54 + gr * 2 ^ 58
      let w3 := c.addr + (if c.mrep.isSome then 2 ^ 30 else 0) + (if first then 2 ^ 31 else 0)
      let x := fcFail q g counted w0 c.addrL m w3 p.2
      (p.1 || x.1, x.2)) (false, s)

/-- X, Y and Z of a logical address. -/
def addrX (l : Nat) : Nat := bits l 0 24
def addrY (l : Nat) : Nat := bits l 24 24
def addrZ (l : Nat) : Nat := bits l 48 6

/-- The address block of window m holds a logical address (R286). -/
def inBlock (m l : Nat) (s : State) : Bool :=
  let x0 := s.get (FC_MAP_XY_X0 m)
  let y0 := s.get (FC_MAP_XY_Y0 m)
  decide (x0 ≤ addrX l) && decide (addrX l < x0 + 2 ^ s.get (FC_MAP_XY_XLOG2 m)) && decide (y0 ≤ addrY l) &&
    decide (addrY l < y0 + 2 ^ s.get (FC_MAP_XY_YLOG2 m)) &&
    (s.on (FC_MAP_SEL_ZANY m) || addrZ l == s.get (FC_MAP_SEL_Z m))

/-- The OPEN window that a site's cycle lies in; a hold cycle lies in none, nor any cycle while domain 71 is not ON
(R245, R272, R286). -/
def windowOf (q g : Nat) (c : Cyc) (s : State) : Option Nat :=
  if c.hold || !domRuns 71 s then none
  else (List.range 128).find? (fun m => mapState m s == mapOpen && s.get (FC_MAP_SEL_SEQ m) == q &&
    s.get (FC_MAP_SEL_SITE m) == g && inBlock m c.addrL s)

/-- The map takes a failing pin: a DATA pin whose BIT is below 2^IOLOG2 (R286). -/
def mapTakes (q m i : Nat) (s : State) : Bool :=
  s.get (SEQ_PIN_KIND q i) == 4 && decide (s.get (SEQ_PIN_BIT q i) < 2 ^ s.get (FC_MAP_SEL_IOLOG2 m))

/-- The bit of a window for a data bit of a logical address (R286). -/
def windowBit (m l io : Nat) (s : State) : Nat :=
  ((addrY l - s.get (FC_MAP_XY_Y0 m)) * 2 ^ s.get (FC_MAP_XY_XLOG2 m) + (addrX l - s.get (FC_MAP_XY_X0 m))) *
    2 ^ s.get (FC_MAP_SEL_IOLOG2 m) + io

/-- A site's failing pins entered into a window: HITS and NONDATA; whether a record is due (R286). -/
def mapSite (q m : Nat) (c : Cyc) (l : List Nat) (s : State) : Bool × State :=
  l.foldl (fun p i =>
    if !pinFailed q i c p.2 then p
    else if mapTakes q m i p.2 then
      (p.1, (setMapBit (mapPlace m (windowBit m c.addrL (p.2.get (SEQ_PIN_BIT q i)) p.2) p.2) p.2).count (FC_MAP_STAT_HITS m) 1)
    else (true, p.2.count (FC_MAP_STAT_NONDATA m) 1)) (false, s)

/-- One failing site of a cycle by the capture mode (R274 to R276, R286). -/
def captureSite (q g : Nat) (counted : Bool) (c : Cyc) (s : State) : State :=
  let mode := s.get (FC_SEQ_CTL_MODE q)
  if c.mrep.isSome then
    (if mode = 1 ∧ s.on (FC_SEQ_CTL_MLOG q) then (siteRecords q g false counted c s).2 else s)
  else
    let s := if counted then s.count (FC_SITE_FAIL_FAILCYC q g) 1 else s
    if mode = 0 then
      (if !counted || bit (spGet q s.fail.disarmed) g then s
       else
        let r := siteRecords q g true true c s
        if r.1 then { r.2 with fail := { r.2.fail with
            disarmed := spSet q (putBit (spGet q r.2.fail.disarmed) g true) r.2.fail.disarmed } }
        else r.2)
    else if mode = 1 then (siteRecords q g false counted c s).2
    else if mode = 2 then
      match windowOf q g c s with
      | none => (siteRecords q g false counted c s).2
      | some m =>
        let r := mapSite q m c (sitePins q g s) s
        if r.1 then (siteRecords q g false counted c r.2).2 else r.2
    else s

/-- Fail capture takes a cycle's results (R272 to R277). -/
def captureCycle (q : Nat) (c : Cyc) (s : State) : State :=
  let f := failSites q c s
  if f = 0 then s
  else if !domRuns 70 s then raiseOnce 0x090A q [⟨1, q⟩] (s.count (FC_LOST_COUNT q) 1)
  else
    let counted := decide (spGet q s.fail.startN ≤ c.n)
    let s := if counted && c.mrep.isNone then
        forEach (c.res.filter (fun r => r.fail)) (fun r t => t.count (FC_CH_CNT_COUNT r.ch) 1) s
      else s
    forNat 64 (fun g t => if bit f g then captureSite q g counted c t else t) s

/-! ### The compare tap (R135) -/

/-- The region of a sequencer's engine ports is ON and released from isolation. -/
def tapReady (q : Nat) (s : State) : Bool := domOn q s && !s.on (REG_STAT_ISO q)

/-- An entry dropped: TAP_DROP, and event 0x0432 at the tick with the frame's drops. -/
def tapDropped (q : Nat) (s : State) : State :=
  let s := s.count (FAB_PORT_STAT_TAP_DROP q) 1
  { s with ports := { s.ports with dropFrame := spSet q (spGet q s.ports.dropFrame + 1) s.ports.dropFrame } }

/-- The 128-bit entry of what was collected. -/
def tapEntry (x : TapOpen) : Nat := x.sites + x.first % 2 ^ 48 * 2 ^ 64 + x.n * 2 ^ 112 + x.fails * 2 ^ 116

/-- The entry being filled leaves for the FIFO; one with no strobe that compares is none. -/
def tapFlush (q : Nat) (s : State) : State :=
  match s.ports.tapOpen.find? (fun x => x.q == q) with
  | none => s
  | some x =>
    let s := { s with ports := { s.ports with tapOpen := s.ports.tapOpen.filter (fun y => y.q != q) } }
    if !x.cmp || !s.on (FAB_PORT_CTL_TAP_EN q) then s
    else if !tapReady q s ∨ (keyed q s.ports.tap).length ≥ 512 then tapDropped q s
    else { s with ports := { s.ports with tap := putKeyed q (keyed q s.ports.tap ++ [tapEntry x]) s.ports.tap } }

/-- A cycle joins the entry of the pattern-clock cycle in which its results reach the tap. -/
def tapCycle (q : Nat) (c : Cyc) (sites : Nat) (s : State) : State :=
  if !s.on (FAB_PORT_CTL_TAP_EN q) then s
  else
    let clk := c.res.foldl (fun m r => max m r.clk) 0
    let cmp := c.res.any (fun r => r.cmp)
    let failed := if sites = 0 then 0 else 1
    match s.ports.tapOpen.find? (fun x => x.q == q) with
    | some x =>
      if x.clk = clk ∧ x.n < 8 ∧ x.first + x.n = c.k then
        { s with ports := { s.ports with tapOpen := s.ports.tapOpen.map (fun y =>
          if y.q = q then { y with sites := Nat.lor y.sites sites, n := y.n + 1, fails := y.fails + failed * 2 ^ y.n, cmp := y.cmp || cmp }
          else y) } }
      else
        let s := tapFlush q s
        { s with ports := { s.ports with tapOpen := s.ports.tapOpen ++ [⟨q, clk, sites, c.k, 1, failed, cmp⟩] } }
    | none => { s with ports := { s.ports with tapOpen := s.ports.tapOpen ++ [⟨q, clk, sites, c.k, 1, failed, cmp⟩] } }

/-! ### Windows (R284, R285) -/

/-- A repair domain is QUEUED by the CLOSED window m that names it (R301). -/
def raQueue (d m : Nat) (s : State) : State :=
  { s.set (RA_DOM_STATE d) 2 with ra := { s.ra with queuedBy := spSet d (m + 1) s.ra.queuedBy } }

/-- The window that QUEUED a domain has left CLOSED unanalysed: the domain stays QUEUED, with no map (R301). -/
def raMapGone (m : Nat) (s : State) : State :=
  { s with ra := { s.ra with queuedBy := s.ra.queuedBy.map (fun p => if p.2 = m + 1 then (p.1, m + 257) else p) } }

/-- A window enters CLOSED: event 0x0906, and an ARMED repair domain that it names is QUEUED (R284, R301). -/
def enterClosed (m : Nat) (s : State) : State :=
  let d := s.get (FC_MAP_SEL_DOMAIN m)
  let s := s.set (FC_MAP_CTL_STATE m) mapClosed
  let s := if domRuns 72 s && s.get (RA_DOM_STATE d) == 1 then raQueue d m s else s
  let s := { s with fail := { s.fail with closedAt := spSet m (frameCount s) s.fail.closedAt } }
  raise 0x0906 [⟨1, m⟩, ⟨2, d⟩, ⟨4, s.get (FC_MAP_STAT_HITS m)⟩] s

/-- A window that is closed: the drain or the analysis takes it. -/
def closeMap (m : Nat) (s : State) : State :=
  let spill := s.on (FC_MAP_CTL_SPILL m)
  enterClosed m { s with fail := { s.fail with
    spillPend := if spill then s.fail.spillPend ++ [m] else s.fail.spillPend
    ready := if spill then s.fail.ready else s.fail.ready ++ [m] } }

/-- A window leaves the lists of those that wait. -/
def forgetMap (m : Nat) (s : State) : State :=
  { s with fail := { s.fail with
      spillPend := s.fail.spillPend.erase m, dueSpill := s.fail.dueSpill.erase m, ready := s.fail.ready.erase m } }

/-- A window enters CLEARING. -/
def clearMap (m : Nat) (s : State) : State := (forgetMap m s).set (FC_MAP_CTL_STATE m) mapClearing

/-- Two ranges of a start and a length overlap. -/
def rangesMeet (a n b k : Nat) : Bool := decide (a < b + k) && decide (b < a + n)

/-- Windows m and k map the same site to overlapping addresses. -/
def blocksMeet (m k : Nat) (s : State) : Bool :=
  s.get (FC_MAP_SEL_SEQ m) == s.get (FC_MAP_SEL_SEQ k) && s.get (FC_MAP_SEL_SITE m) == s.get (FC_MAP_SEL_SITE k) &&
    rangesMeet (s.get (FC_MAP_XY_X0 m)) (2 ^ s.get (FC_MAP_XY_XLOG2 m)) (s.get (FC_MAP_XY_X0 k)) (2 ^ s.get (FC_MAP_XY_XLOG2 k)) &&
    rangesMeet (s.get (FC_MAP_XY_Y0 m)) (2 ^ s.get (FC_MAP_XY_YLOG2 m)) (s.get (FC_MAP_XY_Y0 k)) (2 ^ s.get (FC_MAP_XY_YLOG2 k)) &&
    (s.on (FC_MAP_SEL_ZANY m) || s.on (FC_MAP_SEL_ZANY k) || s.get (FC_MAP_SEL_Z m) == s.get (FC_MAP_SEL_Z k))

/-- Another window that is not FREE stands in the way of opening m. -/
def mapInWay (m k : Nat) (s : State) : Bool :=
  k != m && mapState k s != mapFree &&
    (s.get (FC_MAP_SEL_DOMAIN k) == s.get (FC_MAP_SEL_DOMAIN m) ||
      (decide ((mapSlices k s).1 ≤ (mapSlices m s).2) && decide ((mapSlices m s).1 ≤ (mapSlices k s).2)) || blocksMeet m k s)

/-- A write of OPEN is answered RANGE (R285). -/
def openBad (m : Nat) (s : State) : Bool :=
  let xl := s.get (FC_MAP_XY_XLOG2 m)
  let yl := s.get (FC_MAP_XY_YLOG2 m)
  mapState m s != mapFree || decide ((mapSlices m s).2 > 63) ||
    decide (mapBits m s > (s.get (FC_MAP_SEL_NSLM1 m) + 1) * sliceBits) ||
    decide (s.get (FC_MAP_XY_X0 m) + 2 ^ xl > 2 ^ 24) || decide (s.get (FC_MAP_XY_Y0 m) + 2 ^ yl > 2 ^ 24) ||
    decide (xl > 24) || decide (yl > 24) || decide (s.get (FC_MAP_SEL_IOLOG2 m) > 6) ||
    (List.range 128).any (fun k => mapInWay m k s)

/-- A write of FC_MAP_CTL(m): OPEN, CLOSE or DISCARD with SPILL and SPILL_ERR (R285). -/
def wrMapCtl (a : Agent) (m v : Nat) (s : State) : Status × State :=
  let op := (FC_MAP_CTL_OPEN m).hit v
  let cl := (FC_MAP_CTL_CLOSE m).hit v
  let di := (FC_MAP_CTL_DISCARD m).hit v
  let st := mapState m s
  let w := writeFlds (FC_MAP_CTL_fields m) v s
  if !a.ctl then (.denied, s)
  else if (op && cl) || (op && di) || (cl && di) then (.range, s)
  else if op then
    if openBad m s then (.range, s)
    else (.done, (((w.set (FC_MAP_STAT_HITS m) 0).set (FC_MAP_STAT_NONDATA m) 0).set (FC_MAP_CTL_MAPERR m) 0).set
      (FC_MAP_CTL_STATE m) mapOpen)
  else if cl then (if st = mapOpen then (.done, closeMap m w) else (.range, s))
  else if di then
    if st = mapOpen ∨ st = mapClosed then (.done, clearMap m (raMapGone m w))
    else if st = mapSpilling ∨ st = mapAnalysis then (.retry, s) else (.range, s)
  else (.done, w)

/-- A write of a window's descriptor register: RANGE while it is not FREE (R285). -/
def wrMapDesc (l : List (Acc × Fld)) (bad : Bool) (a : Agent) (m v : Nat) (s : State) : Status × State :=
  if !a.ctl then (.denied, s) else if mapState m s != mapFree || bad then (.range, s) else (.done, writeFlds l v s)

/-- FC_MAP_CTL(m) with its read-write field as it stands and a command. -/
def mapCtlNow (m cmd : Nat) (s : State) : Nat := 8 * s.get (FC_MAP_CTL_SPILL m) + cmd

/-- A close marker of a DCLOSE arrives (R278, R284): the window takes the close, and the CLOSE record names it. -/
def closeArrives (q : Nat) (x : Marker) (s : State) : State :=
  let m := if domRuns 71 s then
      (List.range 128).find? (fun m => mapState m s == mapOpen && s.get (FC_MAP_SEL_SEQ m) == q && s.get (FC_MAP_SEL_DOMAIN m) == x.domain)
    else none
  let s := match m with
    | some w => closeMap w s
    | none => raise 0x0905 [⟨1, q⟩, ⟨2, x.domain⟩] s
  if writesControl q s then fcControl q (controlWord q 1 x.last) x.domain (m.getD 255) x.pc s else s

/-! ### Other registers (R275, R279, R281, R289) -/

/-- A write of FC_SEQ_CTL: MODE and MLOG change only while stopped; LWM below HWM, HWM 64 to 4,080. -/
def wrFcSeqCtl (a : Agent) (q v : Nat) (s : State) : Status × State :=
  let hwm := (FC_SEQ_CTL_HWM q).of v
  if !a.ctl then (.denied, s)
  else if (FC_SEQ_CTL_LWM q).of v ≥ hwm ∨ hwm < 64 ∨ hwm > 4080 then (.range, s)
  else if !seqStopped q s && (s.changes (FC_SEQ_CTL_MODE q) v || s.changes (FC_SEQ_CTL_MLOG q) v) then (.range, s)
  else (.done, writeFlds (FC_SEQ_CTL_fields q) v s)

/-- A write of FC_LOG_CFG: only while stopped, a valid LOG2 and BASE; WR and RD return to 0. -/
def wrFcLogCfg (a : Agent) (q v : Nat) (s : State) : Status × State :=
  let n := (FC_LOG_CFG_LOG2 q).of v
  if !a.ctl then (.denied, s)
  else if !seqStopped q s || (decide (1 ≤ n) && decide (n ≤ 6)) || decide (n > 26) || (FC_LOG_CFG_BASE q).of v % 4096 != 0 then (.range, s)
  else (.done, ((writeFlds (FC_LOG_CFG_fields q) v s).set (FC_LOG_PTR_RD q) 0).set (FC_LOG_PTR_WR q) 0)

/-- A write of FC_LOG_PTR sets RD: WR − RD must stay within the ring (R281). -/
def wrFcLogPtr (a : Agent) (q v : Nat) (s : State) : Status × State :=
  if !a.ctl then (.denied, s)
  else if wrap 32 ((s.get (FC_LOG_PTR_WR q) : Int) - (FC_LOG_PTR_RD q).of v) > ringSize q s then (.range, s)
  else (.done, writeFlds (FC_LOG_PTR_fields q) v s)

/-- A write of FC_SEQ_STAT: a 1 in DRAIN_ERR resumes the drain (R282). -/
def wrFcSeqStat (a : Agent) (q v : Nat) (s : State) : Status × State :=
  if !a.ctl then (.denied, s) else (.done, writeFlds (FC_SEQ_STAT_fields q) v s)

/-- A write of FC_ECC_CTL: BUCKET 1 to 255. -/
def wrFcEccCtl (a : Agent) (v : Nat) (s : State) : Status × State :=
  if !a.ctl then (.denied, s)
  else if FC_ECC_CTL_BUCKET.of v = 0 then (.range, s)
  else (.done, writeFlds FC_ECC_CTL_fields v s)

/-! ### The drain (R281 to R283, R287) -/

/-- The drain of a sequencer can go on: no failed write stands, and the ring has room. -/
def canDrain (q : Nat) (s : State) : Bool :=
  domRuns 70 s && !(fcFifo q s).isEmpty && !s.on (FC_SEQ_STAT_DRAIN_ERR q) && ringSize q s != 0 && !ringFull q s

/-- A line of HBM written by fail capture, with the answer of the spec's ingress and controller. -/
def fcPutLine (line be : Nat) (b : List Byte) (s : State) : Status × State :=
  if 64 * line + 64 > hbmSize then (.range, s)
  else if hbmDenies 45 (64 * line) 64 true then (.denied, s)
  else match pairRefusesAt (64 * line) 1 s with
    | some st => (st, s)
    | none => hbmPutLine 45 line be b (takeLines (classOf 45) 1 s)

/-- Record number WR written to the ring: 32 bytes (R281). -/
def putRecord (q : Nat) (w : List Nat) (s : State) : Status × State :=
  let a := s.get (FC_LOG_CFG_BASE q) + 32 * (s.get (FC_LOG_PTR_WR q) % ringSize q s)
  let b := w.flatMap (toBytes 8)
  if a / 32 % 2 = 0 then fcPutLine (a / 64) (2 ^ 32 - 1) (b ++ List.replicate 32 0) s
  else fcPutLine (a / 64) ((2 ^ 32 - 1) * 2 ^ 32) (List.replicate 32 0 ++ b) s

/-- A record has left the FIFO: the turn passes to the next sequencer (R283). -/
def recordDrained (q : Nat) (r : List (List Nat)) (s : State) : State :=
  let s := setFifo q r s
  let s := { s with fail := { s.fail with
      due := spSet q (spGet q s.fail.due - 1) s.fail.due
      late := spSet q (spGet q s.fail.late - 1) s.fail.late
      turn := (q + 1) % 16
      units := s.fail.units + 1 } }
  let s := s.set (FC_LOG_PTR_WR q) ((s.get (FC_LOG_PTR_WR q) + 1) % 2 ^ 32)
  let s := fcThrottle q s
  if ringFull q s then raise 0x0904 [⟨1, q⟩, ⟨4, s.get (FC_LOG_PTR_WR q)⟩] s else s

/-- One record of a sequencer drained, or its drain stopped (R281, R282). -/
def drainRecord (q : Nat) (st : Status) (s : State) : State :=
  match fcFifo q s with
  | [] => s
  | w :: r =>
    let x := putRecord q w s
    let st := if x.1 = .done then st else x.1
    if st = .done then recordDrained q r x.2
    else raise 0x0909 [⟨1, q⟩, ⟨1, st.code⟩] ((s.set (FC_SEQ_STAT_DRAIN_ERR q) 1).set (FC_SEQ_STAT_DERR q) st.code)

/-- The sequencer that the drain serves next: in turn, those with records left over from the frame before first (R283). -/
def drainNext (s : State) : Option Nat :=
  let order := (List.range 16).map (fun i => (s.fail.turn + i) % 16)
  (order.find? (fun q => canDrain q s && decide (0 < spGet q s.fail.late))).or (order.find? (fun q => canDrain q s))

/-- A spill takes the drain's turn (R283): after 16 units of records, when no record can drain, or when it was left over from the frame
before and no record of that frame is left. -/
def spillTurn (s : State) : Bool :=
  !s.fail.spillPend.isEmpty && (decide (s.fail.units ≥ 16) || (drainNext s).isNone ||
    (s.fail.lateSpill && !(List.range 16).any (fun q => canDrain q s && decide (0 < spGet q s.fail.late))))

/-- The drain takes the oldest pending spill (R283, R284). -/
def takeSpill (s : State) : State :=
  match s.fail.spillPend with
  | [] => s
  | m :: r => { (s.set (FC_MAP_CTL_STATE m) mapSpilling) with fail := { s.fail with
      spillPend := r
      lateSpill := s.fail.lateSpill && r.any (fun k => decide (k ∈ s.fail.dueSpill))
      units := 0 } }

/-- The bits of a window packed into bytes, padded to whole lines (R287). -/
def mapBytes (m : Nat) (s : State) : List Byte :=
  let n := 64 * ceilDiv (mapBits m s) 512
  let at_ := mapPlace m 0 s
  (List.range n).map (fun i => BitVec.ofNat 8 ((List.range 8).foldl (fun v j =>
    if 8 * i + j < mapBits m s ∧ mapBit (at_ + 8 * i + j) s then v + 2 ^ j else v) 0))

/-- A spill's end (R284): a failure sets SPILL_ERR and drops SPILL for this close; the window is ready for analysis. -/
def spillEnds (m : Nat) (st : Status) (s : State) : State :=
  let b := mapBytes m s
  let x := hbmSave 45 (s.get (FC_MAP_SPILL_ADDR m)) (b.length / 64) b s
  let st := if x.1 = .done then st else x.1
  let s := if st = .done then x.2 else s
  let s := enterClosed m { s with fail := { s.fail with ready := s.fail.ready ++ [m], dueSpill := s.fail.dueSpill.erase m } }
  if st = .done then s
  else raise 0x0909 [⟨1, m⟩, ⟨1, st.code⟩] (s.set (FC_MAP_CTL_SPILL_ERR m) 1)

/-! ### Hooks -/

/-- The spills that are pending: windows that wait for the drain, and one being written (R283, R284). -/
def pendingSpills (s : State) : List Nat :=
  s.fail.spillPend ++ (List.range 128).filter (fun m => mapState m s == mapSpilling)

/-- A tick: the drain's overrun with the records left (R283), the drops of the frame (R279) and the bucket's leak (R288). -/
def failTick (frame : Nat) (s : State) : State :=
  let s := if domRuns 70 s then
      let left := s.fail.due.foldl (fun t p => t + p.2) 0
      let s := if left = 0 ∧ s.fail.dueSpill = [] then s
        else raise 0x0908 [⟨6, frame⟩, ⟨4, left⟩] (s.count (FRM_OVR_COUNT 3) 1)
      let s := forEach s.fail.dropFrame (fun p t => raise 0x0901 [⟨1, p.1⟩, ⟨4, p.2⟩] t) s
      { s with fail := { s.fail with
          dropFrame := []
          late := s.fail.due
          lateSpill := s.fail.dueSpill.any (fun m => decide (m ∈ s.fail.spillPend))
          due := s.fail.fifo.map (fun p => (p.1, p.2.length))
          dueSpill := pendingSpills s } }
    else s
  if domRuns 71 s then bucketLeak FC_ECC_STAT_LEVEL FC_ECC_CTL_LEAK s else s

/-- Domain 70 enters LOWERING: the records in the FIFOs are lost and counted (R294). -/
def failLower70 (s : State) : State :=
  let items := s.fail.fifo.flatMap (fun p => [(⟨1, p.1⟩ : EvItem), ⟨2, p.2.length⟩])
  let lost := s.fail.fifo
  let s := forEach lost (fun p t => t.count (FC_LOST_COUNT p.1) p.2.length) s
  let s := forNat 16 (fun q t => setPauseSrc q 2 false t) s
  let s := { s with fail := { s.fail with
    fifo := [], due := [], late := [], dueSpill := [], lateSpill := false, dropFrame := [], units := 0 } }
  if lost.isEmpty then s else raise 0x090D items s

/-- The registers of domain 70 return to their reset values (R290). -/
def failReset70 (s : State) : State :=
  let s := { (s.resetRegs 0x3008010000 0x3008030000) with fail := { s.fail with
    fifo := [], due := [], late := [], dueSpill := [], lateSpill := false, turn := 0, dropFrame := [], units := 0, disarmed := [], startN := [] } }
  forNat 16 (fun q t => setPauseSrc q 2 false t) s

/-- Domain 71 enters LOWERING: every window that is not FREE is lost (R294). -/
def failLower71 (s : State) : State :=
  let l := (List.range 128).filter (fun m => mapState m s != mapFree)
  let mask := l.foldl (fun t m => t + 2 ^ m) 0
  let s := forEach l raMapGone { s with fail := { s.fail with spillPend := [], ready := [], dueSpill := [] } }
  if l.isEmpty then s else raise 0x090E [⟨16, mask⟩] s

/-- The windows, the map memory and the FC_ECC registers return to their reset values (R290). -/
def failReset71 (s : State) : State :=
  let s := (s.resetRegs 0x3008030000 0x3008032000).resetRegs 0x3008000100 0x3008000110
  { s with fail := { s.fail with map := [], spillPend := [], ready := [], dueSpill := [], closedAt := [] } }

/-! ### Commands -/

/-- The channels of a sequencer whose results a cycle needs. -/
def cycleNeeds (q n : Nat) (s : State) : Bool :=
  s.get (JET_CFG_SEQ n) == q && s.on (JET_CFG_EN n) && domRuns (bankDom n) s

/-- Every channel's result of a cycle has come. -/
def cycleComplete (q : Nat) (c : Cyc) (s : State) : Bool :=
  (List.range 512).all (fun n => !cycleNeeds q n s || c.res.any (fun r => r.ch == n))

/-- A complete cycle is captured, copied to the tap and handed on to the sequencer (R135, R173, R253, R272). -/
def resultComplete (q : Nat) (c : Cyc) (r : List Cyc) (s : State) : State :=
  let f := failSites q c s
  let masks := cycleMasks q c s
  let e := eng q s
  let s := captureCycle q c (setEng { e with issued := r, doneK := if spGet q s.fail.startN ≤ c.n then c.k else e.doneK } s)
  let s := tapCycle q c f s
  fcFlush q (modEng q (fun e => { e with seen := e.seen ++ [⟨c.n, f, masks.1, masks.2, c.mrep, c.last⟩] }) s)

/-- CYCLE_RESULT_COMPLETE (R173, R272 to R277, R286): the oldest issued cycle of a sequencer. -/
def execCycleResultComplete (q : Fin 16) (s : State) : Out :=
  match (eng q.val s).issued with
  | [] => ok s
  | c :: r => whenOk (cycleComplete q.val c s) s (resultComplete q.val c r s)

/-- CLOSE_MARKER (R258, R284): the oldest marker, behind the results of every cycle queued before it. A marker that meets
domain 70 not ON is discarded. -/
def execCloseMarker (q : Fin 16) (s : State) : Out :=
  match (eng q.val s).markers with
  | x :: r => whenOk (x.fin.isNone && resultsBefore q.val x.n s) s
      (let t := modEng q.val (fun e => { e with markers := r }) s
       fcFlush q.val (if domRuns 70 t then closeArrives q.val x t else t))
  | [] => ok s

/-- One unit of the drain: a spill taken or a record of the sequencer whose turn it is (R283). -/
def drainUnit (st : Status) (s : State) : State :=
  if !(domRuns 70 s && hbmWindow 1 1 s) then s
  else if spillTurn s then takeSpill s
  else match drainNext s with
    | some q => drainRecord q st s
    | none => s

/-- FAIL_DRAIN (R281 to R283): so many units in a slot of duty 3; `st` is the answer of a ring write that the memory does not refuse
by itself. -/
def execFailDrain (units : Nat) (st : Status) (s : State) : Out :=
  inDuty 3 anySlot s (fun t => ok (forNat units (fun _ u => drainUnit st u) t))

/-- DRAIN_RESUME (R282). -/
def execDrainResume (a : Agent) (q : Fin 16) (s : State) : Out :=
  ok (answered (atIngress 70 (wrFcSeqStat a q.val (2 ^ 19)) s))

/-- MAP_OPEN (R285). -/
def execMapOpen (a : Agent) (m : Fin 128) (spill : Bool) (s : State) : Out :=
  ok (answered (atIngress 71 (wrMapCtl a m.val (if spill then 9 else 1)) s))

/-- MAP_CLOSE (R284, R285). -/
def execMapClose (a : Agent) (m : Fin 128) (s : State) : Out :=
  ok (answered (atIngress 71 (wrMapCtl a m.val (mapCtlNow m.val 2 s)) s))

/-- MAP_DISCARD (R285). -/
def execMapDiscard (a : Agent) (m : Fin 128) (s : State) : Out :=
  ok (answered (atIngress 71 (wrMapCtl a m.val (mapCtlNow m.val 4 s)) s))

/-- SPILL_WRITTEN (R284, R287). -/
def execSpillWritten (m : Fin 128) (st : Status) (s : State) : Out :=
  whenOk (domRuns 71 s && domRuns 70 s && mapState m.val s == mapSpilling && hbmWindow 1 ((mapBytes m.val s).length / 64) s) s
    (spillEnds m.val st s)

/-- MAP_CLEARED (R284). -/
def execMapCleared (m : Fin 128) (s : State) : Out :=
  whenOk (domRuns 71 s && mapState m.val s == mapClearing) s
    (raise 0x0907 [⟨1, m.val⟩] ((mapZero m.val s).set (FC_MAP_CTL_STATE m.val) mapFree))

/-- MAP_SCRUB_WORD (R288). -/
def execMapScrubWord (sl : Fin 64) (word : Nat) (u : Ecc) (s : State) : Out :=
  match sliceOwner sl.val s with
  | none => ok s
  | some m => whenOk (domRuns 71 s && s.get FC_ECC_CTL_SCRUB_RATE != 0 && decide (word < sliceWords)) s
      (match u with
       | .ok => s
       | .single => bucketHit FC_ECC_STAT_CORR FC_ECC_STAT_LEVEL FC_ECC_STAT_OVERFLOW FC_ECC_CTL_BUCKET 0x090B [] s
       | .double => raise 0x090C [⟨1, m⟩, ⟨1, sl.val⟩, ⟨2, word⟩]
          ((s.count FC_ECC_STAT_UNCORR 1).set (FC_MAP_CTL_MAPERR m) 1))

end Sys2Proof.Machine
end

