-- ==== Sys2Proof/Machine/Repair.lean ====
section
/-! DEFINITION. Redundancy analysis: descriptors, taking maps, must-repair, search, records and their ring (chapter 13). -/
namespace Sys2Proof.Machine

/-! RA_DOM.STATE codes (R301); outcomes (R309). -/
def raEmpty : Nat := 0
def raArmed : Nat := 1
def raQueued : Nat := 2
def raAnalysing : Nat := 3
def raClean : Nat := 0
def raRepaired : Nat := 1
def raUnrepairable : Nat := 2
def raOverflow : Nat := 3
def raGeometry : Nat := 4
def raNoDescriptor : Nat := 5
def raAborted : Nat := 6

def raState (d : Nat) (s : State) : Nat := s.get (RA_DOM_STATE d)

/-! ### Grid and units (R298) -/

/-- The failing map bits of a window, as (map row, map column), in bit order. -/
def failCells (m : Nat) (s : State) : List (Nat × Nat) :=
  let at_ := mapPlace m 0 s
  let n := mapBits m s
  let w := 2 ^ (s.get (FC_MAP_XY_XLOG2 m) + s.get (FC_MAP_SEL_IOLOG2 m))
  s.fail.map.flatMap (fun p => (List.range 64).filterMap (fun j =>
    let i := 64 * p.1 + j
    if bit p.2 j ∧ at_ ≤ i ∧ i < at_ + n then some ((i - at_) / w, (i - at_) % w) else none))

/-- A number put into a rising list without repeats. -/
def insertKey (k : Nat) : List Nat → List Nat
  | [] => [k]
  | x :: r => if k < x then k :: x :: r else if k = x then x :: r else x :: insertKey k r

/-- The fails of a window by row unit and column unit, in the order of the fail list. -/
def failUnits (d : Nat) (l : List (Nat × Nat)) (s : State) : List Nat :=
  let ru := 2 ^ s.get (RA_DESC_GEO_RULOG2 d)
  let cu := 2 ^ s.get (RA_DESC_GEO_CULOG2 d)
  l.foldl (fun t p => insertKey (p.1 / ru * 65536 + p.2 / cu) t) []

def failRow (f : Nat) : Nat := f / 65536
def failCol (f : Nat) : Nat := f % 65536

/-- The sides of a segment block in row units and column units; 0 without segments (R305). -/
def segRows (d : Nat) (s : State) : Nat :=
  if s.get (RA_DESC_SP_NS d) = 0 then 0 else 2 ^ (s.get (RA_DESC_GEO_SRLOG2 d) - s.get (RA_DESC_GEO_RULOG2 d))
def segCols (d : Nat) (s : State) : Nat :=
  if s.get (RA_DESC_SP_NS d) = 0 then 0 else 2 ^ (s.get (RA_DESC_GEO_SCLOG2 d) - s.get (RA_DESC_GEO_CULOG2 d))

/-- The spare of a kind that covers a fail. -/
def spareFor (d kind f : Nat) (s : State) : Spare :=
  if kind = 0 then ⟨0, failRow f, 0, false⟩
  else if kind = 1 then ⟨1, 0, failCol f, false⟩
  else ⟨2, failRow f / segRows d s, failCol f / segCols d s, false⟩

/-- A spare covers a fail. -/
def spareCovers (d : Nat) (x : Spare) (f : Nat) (s : State) : Bool :=
  if x.kind = 0 then x.r == failRow f
  else if x.kind = 1 then x.c == failCol f
  else x.r == failRow f / segRows d s && x.c == failCol f / segCols d s

/-- The fails that no spare taken covers. -/
def uncovered (d : Nat) (taken : List Spare) (l : List Nat) (s : State) : List Nat :=
  l.filter (fun f => !taken.any (fun x => spareCovers d x f s))

/-- Spares of a kind that are left. -/
def sparesLeft (d kind : Nat) (taken : List Spare) (s : State) : Nat :=
  (if kind = 0 then s.get (RA_DESC_SP_NR d) else if kind = 1 then s.get (RA_DESC_SP_NC d) else s.get (RA_DESC_SP_NS d)) -
    (taken.filter (fun x => x.kind == kind)).length

/-- The cost of a spare, and of a repair (R299). -/
def kindCost (d kind : Nat) (s : State) : Nat :=
  if kind = 0 then s.get (RA_DESC_SP_RCOST d) else if kind = 1 then s.get (RA_DESC_SP_CCOST d) else s.get (RA_DESC_SP_SCOST d)
def repairCost (d : Nat) (l : List Spare) (s : State) : Nat := l.foldl (fun t x => t + kindCost d x.kind s) 0

/-! ### Must-repair (R305) -/

/-- What the must-repair stage holds: the spares taken, whether a pass changed anything, whether it stopped UNREPAIRABLE. -/
structure MustSt where
  taken : List Spare
  changed : Bool
  stuck : Bool
  deriving DecidableEq, Repr

/-- The row units, or column units, of fails in rising order. -/
def unitsOf (rows : Bool) (l : List Nat) : List Nat := l.foldl (fun t f => insertKey (if rows then failRow f else failCol f) t) []

/-- The test of one row unit or column unit. -/
def mustTest (d : Nat) (rows : Bool) (l : List Nat) (s : State) (x : MustSt) (u : Nat) : MustSt :=
  if x.stuck then x
  else
    let open_ := (uncovered d x.taken l s).filter (fun f => (if rows then failRow f else failCol f) == u)
    let own := sparesLeft d (if rows then 0 else 1) x.taken s
    let other := sparesLeft d (if rows then 1 else 0) x.taken s
    if open_.length > other + s.get (RA_DESC_SP_NS d) * (if rows then segCols d s else segRows d s) then
      if own = 0 then { x with stuck := true }
      else { x with changed := true, taken := x.taken ++ [if rows then ⟨0, u, 0, true⟩ else ⟨1, 0, u, true⟩] }
    else x

/-- The loop of row passes and column passes; each round but the last takes a spare. -/
def mustLoop (d : Nat) (l : List Nat) (s : State) : Nat → List Spare → MustSt
  | 0, t => ⟨t, false, false⟩
  | n + 1, t =>
    let x := (unitsOf true l).foldl (mustTest d true l s) ⟨t, false, false⟩
    let x := (unitsOf false l).foldl (mustTest d false l s) x
    if x.stuck || !x.changed then x else mustLoop d l s n x.taken

/-- The must-repair stage: at most 64 rounds can take a spare. -/
def mustRepair (d : Nat) (l : List Nat) (s : State) : MustSt := mustLoop d l s 65 []

/-! ### Search (R306 to R308) -/

/-- What the search holds: steps, whether the limit cut it, and the best repair with its cost. -/
structure SearchSt where
  steps : Nat
  hit : Bool
  best : Option (Nat × List Spare)
  deriving DecidableEq, Repr

/-- The kinds in ORDER. -/
def kindOrder (d : Nat) (s : State) : List Nat := if s.on (RA_DESC_SP_ORDER d) then [1, 0, 2] else [0, 1, 2]

/-- The cost to beat: above any reachable cost until a repair is found. -/
def bestCost (x : SearchSt) : Nat := match x.best with | some b => b.1 | none => 1024

/-- The search below one node; `depth` bounds the spares still to take, of which there are at most 68. -/
def raSearch (d : Nat) (l : List Nat) (s : State) : Nat → List Spare → Nat → SearchSt → SearchSt
  | 0, _, _, x => x
  | depth + 1, taken, cost, x =>
    match (uncovered d taken l s).head? with
    | none => { x with best := some (cost, taken) }
    | some f => (kindOrder d s).foldl (fun x k =>
        if x.hit then x
        else if sparesLeft d k taken s > 0 ∧ cost + kindCost d k s < bestCost x then
          if x.steps = 2 ^ s.get (RA_DESC_SP_STEPLOG2 d) then { x with hit := true }
          else raSearch d l s depth (taken ++ [spareFor d k f s]) (cost + kindCost d k s) { x with steps := x.steps + 1 }
        else x) x

/-- The kind in ORDER whose unit or block at a fail covers the most uncovered fails. -/
def greedyKind (d f : Nat) (taken : List Spare) (un : List Nat) (s : State) : Option Nat :=
  let gain (k : Nat) : Nat := (un.filter (fun g => spareCovers d (spareFor d k f s) g s)).length
  ((kindOrder d s).filter (fun k => decide (sparesLeft d k taken s > 0))).foldl (fun b k =>
    match b with
    | none => some k
    | some j => if gain k > gain j then some k else some j) none

/-- The greedy completion (R308): the spares taken, or none when it runs out of them. -/
def greedy (d : Nat) (l : List Nat) (s : State) : Nat → List Spare → Option (List Spare)
  | 0, _ => none
  | n + 1, taken =>
    let un := uncovered d taken l s
    match un.head? with
    | none => some taken
    | some f =>
      match greedyKind d f taken un s with
      | none => none
      | some k => greedy d l s n (taken ++ [spareFor d k f s])

/-- What an analysis reports: outcome, NOT_PROVEN, steps and the spares listed. -/
structure RaResult where
  outcome : Nat
  np : Bool
  steps : Nat
  spares : List Spare
  deriving DecidableEq, Repr

/-- The result of a unit after its list read (R305 to R309). -/
def raAnalyse (x : RaUnit) (s : State) : RaResult :=
  let d := x.domain
  if x.count = 0 then ⟨raClean, false, 0, []⟩
  else if x.stuck then ⟨raUnrepairable, false, 0, x.must⟩
  else if x.fails.length > 8192 then ⟨raOverflow, true, 0, x.must⟩
  else
    let r := raSearch d x.fails s 70 x.must (repairCost d x.must s) ⟨0, false, none⟩
    match r.best with
    | some b => ⟨raRepaired, r.hit, r.steps, b.2⟩
    | none =>
      if r.hit then
        match greedy d x.fails s 70 x.must with
        | some l => ⟨raRepaired, true, r.steps, l⟩
        | none => ⟨raUnrepairable, true, r.steps, x.must⟩
      else ⟨raUnrepairable, false, r.steps, x.must⟩

/-! ### Records (R311 to R313) -/

/-- A repair entry. -/
def repairEntry (x : RaUnit) (p : Spare) (s : State) : Nat :=
  let d := x.domain
  let y := if p.kind = 0 then p.r * 2 ^ s.get (RA_DESC_GEO_RULOG2 d) else p.r * 2 ^ s.get (RA_DESC_GEO_SRLOG2 d)
  let c := if p.kind = 1 then p.c * 2 ^ s.get (RA_DESC_GEO_CULOG2 d) else p.c * 2 ^ s.get (RA_DESC_GEO_SCLOG2 d)
  p.kind + (if p.must then 4 else 0) + (if p.kind = 1 then 0 else (x.y0 + y) * 2 ^ 8) +
    (if p.kind = 0 then 0 else (x.x0 + c / 2 ^ x.io) * 2 ^ 32 + c % 2 ^ x.io * 2 ^ 56)

/-- Entries are sorted by KIND, then Y, then X, then BIT. -/
def entryKey (e : Nat) : Nat := bits e 0 2 * 2 ^ 60 + bits e 8 24 * 2 ^ 32 + bits e 32 24 * 2 ^ 6 + bits e 56 6

/-- An entry put into its place. -/
def insertEntry (e : Nat) : List Nat → List Nat
  | [] => [e]
  | x :: r => if entryKey e < entryKey x then e :: x :: r else x :: insertEntry e r

/-- A list of 64-bit words padded with zeros to whole blocks of eight. -/
def padBlocks (l : List Nat) : List Nat := l ++ List.replicate (8 * ceilDiv l.length 8 - l.length) 0

/-- The record of a result (R312). -/
def raRecord (x : RaUnit) (r : RaResult) (user : Nat) (s : State) : RaRec :=
  let n (k : Nat) : Nat := (r.spares.filter (fun p => p.kind == k)).length
  let nm (k : Nat) : Nat := (r.spares.filter (fun p => p.kind == k && p.must)).length
  let es := r.spares.foldl (fun t p => insertEntry (repairEntry x p s) t) []
  let cost := if r.outcome = raRepaired then repairCost x.domain r.spares s else 0
  let w0 := x.domain + x.seq * 2 ^ 12 + x.site * 2 ^ 16 + x.window * 2 ^ 22 + r.outcome * 2 ^ 32 +
    (if r.np then 2 ^ 36 else 0) + (if x.maperr then 2 ^ 37 else 0) + (1 + ceilDiv es.length 8) * 2 ^ 40 + es.length * 2 ^ 48
  let w1 := n 0 + n 1 * 2 ^ 8 + n 2 * 2 ^ 16 + nm 0 * 2 ^ 24 + nm 1 * 2 ^ 32 + cost * 2 ^ 48
  let w2 := r.steps + min x.count (2 ^ 32 - 1) * 2 ^ 32
  ⟨x.domain, r.outcome, r.np, x.maperr, cost, [w0, w1, w2, x.closedAt, frameCount s, user, 0, 0] ++ padBlocks es⟩

/-- The blocks of a record. -/
def recBlocks (r : RaRec) : Nat := r.words.length / 8

/-- The ring of RA: its size in blocks, and whether a record has room. -/
def raRingSize (s : State) : Nat := if s.get RA_RING_CFG_LOG2 = 0 then 0 else 2 ^ s.get RA_RING_CFG_LOG2
def raRingUsed (s : State) : Nat := wrap 32 ((s.get RA_RING_PTR_WR : Int) - s.get RA_RING_PTR_RD)
def raRoom (r : RaRec) (s : State) : Bool := decide (raRingUsed s + recBlocks r ≤ raRingSize s)

/-- RA_STAT.RING_FULL: the head record waits for room. -/
def raRingFull (s : State) : Bool := match s.ra.queue with | [] => false | r :: _ => !raRoom r s

/-- Event 0x0A07, once per filling. -/
def raTellFull (s : State) : State :=
  if raRingFull s && !s.ra.fullTold then
    raise 0x0A07 [⟨4, s.get RA_RING_PTR_WR⟩] { s with ra := { s.ra with fullTold := true } }
  else s

/-- A record enters the record queue with the events of its outcome (R308, R309). -/
def raEnqueue (r : RaRec) (steps must : Nat) (s : State) : State :=
  let s := { s with ra := { s.ra with queue := s.ra.queue ++ [r] } }
  let s := if r.np then raise 0x0A03 [⟨2, r.domain⟩, ⟨4, steps⟩] (s.count RA_STAT_NP_COUNT 1) else s
  let s := if r.outcome = raUnrepairable then raise 0x0A04 [⟨2, r.domain⟩, ⟨1, must⟩] s else s
  raTellFull s

/-- A domain becomes ARMED (R301). A window that is CLOSED already and names it makes it QUEUED at once, as if it entered CLOSED then
(DESIGN CHOICE, notes/assumptions/35.md: the table gives that case no move). -/
def becomeArmed (d : Nat) (s : State) : State :=
  match (List.range 128).find? (fun m => mapState m s == mapClosed && s.get (FC_MAP_SEL_DOMAIN m) == d) with
  | some m => raQueue d m s
  | none => s.set (RA_DOM_STATE d) raArmed

/-- The domain of a record that entered the queue: ARMED, or EMPTY where ONESHOT (R301). -/
def raReturn (d : Nat) (s : State) : State :=
  if s.on (RA_DESC_SP_ONESHOT d) then s.set (RA_DOM_STATE d) raEmpty else becomeArmed d s

/-- What a unit takes from a window (R303). -/
def raTake (u m : Nat) (s : State) : RaUnit :=
  { u := u, window := m, domain := s.get (FC_MAP_SEL_DOMAIN m), seq := s.get (FC_MAP_SEL_SEQ m), site := s.get (FC_MAP_SEL_SITE m),
    x0 := s.get (FC_MAP_XY_X0 m), y0 := s.get (FC_MAP_XY_Y0 m), io := s.get (FC_MAP_SEL_IOLOG2 m),
    closedAt := spGet m s.fail.closedAt, maperr := s.on (FC_MAP_CTL_MAPERR m), read := false, count := 0, stuck := false,
    must := [], fails := [] }

/-- What an analysis cut short had done (R312): the fails counted, all of them once the list read has ended, and the search steps taken;
how far a read or a search had come is a free value (notes/assumptions/35.md). A map that only waited has neither. -/
def raCutShort (x : RaUnit) (s : State) : Nat × Nat :=
  if x.u ≥ 16 then (0, 0)
  else if x.read then (x.count, Config.stepsSoFar s.ra.cuts % ((raAnalyse x s).steps + 1))
  else (Config.readSoFar s.ra.cuts % ((failCells x.window s).length + 1), 0)

/-- An analysis, or a map that waits for one, ends as ABORTED: the map, if still held, is released, and the record follows
(R301, R314, R316). Causes: 0 CANCEL, 1 domain 73, 2 domain 71. -/
def raAbort (x : RaUnit) (held : Bool) (cause : Nat) (s : State) : State :=
  let p := raCutShort x s
  let s := { s with ra := { s.ra with units := s.ra.units.filter (fun y => y.u != x.u), cuts := s.ra.cuts + 1 } }
  let s := if held && domRuns 71 s then clearMap x.window s else s
  let r := raRecord { x with count := p.1 } ⟨raAborted, false, p.2, []⟩ (s.get (RA_DESC_USER_USER x.domain)) s
  let s := raise 0x0A09 [⟨2, x.domain⟩, ⟨1, cause⟩] (raEnqueue r p.2 0 s)
  if cause = 0 then s.set (RA_DOM_STATE x.domain) raEmpty else raReturn x.domain s

/-! ### Registers -/

/-- A write of a descriptor word: only while its domain is EMPTY (R300). -/
def wrRaDesc (l : List (Acc × Fld)) (a : Agent) (d v : Nat) (s : State) : Status × State :=
  if !a.ctl then (.denied, s) else if raState d s != raEmpty then (.range, s) else (.done, writeFlds l v s)

/-- The checks of ARM (R300). -/
def armOk (d : Nat) (s : State) : Bool :=
  let between (lo hi : Nat) (f : Fld) : Bool := decide (lo ≤ s.get f) && decide (s.get f ≤ hi)
  let ru := s.get (RA_DESC_GEO_RULOG2 d)
  let cu := s.get (RA_DESC_GEO_CULOG2 d)
  let sr := s.get (RA_DESC_GEO_SRLOG2 d)
  let sc := s.get (RA_DESC_GEO_SCLOG2 d)
  between 0 32 (RA_DESC_SP_NR d) && between 0 32 (RA_DESC_SP_NC d) && between 0 4 (RA_DESC_SP_NS d) &&
    between 1 15 (RA_DESC_SP_RCOST d) && between 1 15 (RA_DESC_SP_CCOST d) && between 1 15 (RA_DESC_SP_SCOST d) &&
    between 10 20 (RA_DESC_SP_STEPLOG2 d) && decide (ru ≤ 16) && decide (cu ≤ 16) &&
    (s.get (RA_DESC_SP_NS d) == 0 || (decide (ru ≤ sr) && decide (sr ≤ ru + 8) && decide (cu ≤ sc) && decide (sc ≤ cu + 8)))

/-- CANCEL (R301, R314). -/
def raCancel (d : Nat) (s : State) : State :=
  if raState d s = raArmed then s.set (RA_DOM_STATE d) raEmpty
  else if raState d s = raQueued then
    let k := spGet d s.ra.queuedBy
    raAbort { raTake 16 ((k - 1) % 128) s with domain := d } (decide (1 ≤ k ∧ k ≤ 128)) 0 s
  else if raState d s = raAnalysing then
    match s.ra.units.find? (fun x => x.domain == d) with
    | some x => raAbort x (!x.read) 0 s
    | none => s.set (RA_DOM_STATE d) raEmpty
  else s

/-- A write of RA_DOM(d) (R300, R301, R314). -/
def wrRaDom (a : Agent) (d v : Nat) (s : State) : Status × State :=
  let arm := (RA_DOM_ARM d).hit v
  let can := (RA_DOM_CANCEL d).hit v
  if !a.ctl then (.denied, s)
  else if arm && can then (.range, s)
  else if arm then (if raState d s = raEmpty ∧ armOk d s then (.done, becomeArmed d s) else (.range, s))
  else if can then (.done, raCancel d s)
  else (.done, s)

/-- A write of RA_RING_CFG: RANGE while a record waits or a unit is busy; WR and RD return to 0. -/
def wrRaRingCfg (a : Agent) (v : Nat) (s : State) : Status × State :=
  let n := RA_RING_CFG_LOG2.of v
  if !a.ctl then (.denied, s)
  else if !s.ra.queue.isEmpty || !s.ra.units.isEmpty || (decide (1 ≤ n) && decide (n ≤ 6)) || decide (n > 26) ||
      RA_RING_CFG_BASE.of v % 4096 != 0 then (.range, s)
  else (.done, ((writeFlds RA_RING_CFG_fields v s).set RA_RING_PTR_RD 0).set RA_RING_PTR_WR 0)

/-- A write of RA_RING_PTR sets RD: WR − RD must stay within the ring (R311). -/
def wrRaRingPtr (a : Agent) (v : Nat) (s : State) : Status × State :=
  if !a.ctl then (.denied, s)
  else if wrap 32 ((s.get RA_RING_PTR_WR : Int) - RA_RING_PTR_RD.of v) > raRingSize s then (.range, s)
  else (.done, writeFlds RA_RING_PTR_fields v s)

/-- A write of RA_CTL or RA_STAT. -/
def wrRaPlain (l : List (Acc × Fld)) (a : Agent) (v : Nat) (s : State) : Status × State :=
  if !a.ctl then (.denied, s) else (.done, writeFlds l v s)

/-! ### Taking a map (R302, R303) -/

/-- The window's descriptor does not fit it (R303). -/
def badGeometry (m d : Nat) (s : State) : Bool :=
  let y := s.get (FC_MAP_XY_YLOG2 m)
  let c := s.get (FC_MAP_XY_XLOG2 m) + s.get (FC_MAP_SEL_IOLOG2 m)
  let ru := s.get (RA_DESC_GEO_RULOG2 d)
  let cu := s.get (RA_DESC_GEO_CULOG2 d)
  decide (ru > y) || decide (y - ru > 16) || decide (cu > c) || decide (c - cu > 16) ||
    (s.get (RA_DESC_SP_NS d) != 0 && (decide (s.get (RA_DESC_GEO_SRLOG2 d) > y) || decide (s.get (RA_DESC_GEO_SCLOG2 d) > c)))

/-- A ready map may be taken: its domain is EMPTY, or QUEUED by it; one whose domain is ANALYSING, or QUEUED by another map, stays CLOSED
(R301, R303). -/
def mapMayGo (m : Nat) (s : State) : Bool :=
  let d := s.get (FC_MAP_SEL_DOMAIN m)
  raState d s == raEmpty || (raState d s == raQueued && spGet d s.ra.queuedBy == m + 1)

/-- The ready map that is next (R302). -/
def nextMap (s : State) : Option Nat := s.fail.ready.find? (fun m => mapMayGo m s)

/-- The lowest free search unit. -/
def freeUnit (s : State) : Option Nat := (List.range 16).find? (fun u => !s.ra.units.any (fun x => x.u == u))

/-- A map that goes to a search unit rather than being released at once. -/
def needsUnit (m : Nat) (s : State) : Bool :=
  let d := s.get (FC_MAP_SEL_DOMAIN m)
  raState d s != raEmpty && !badGeometry m d s

/-- The first condition of R302 that fails for a map: 0 EN, 1 domains, 2 ring, 3 record queue, 4 search unit. -/
def acceptBlocked (m : Nat) (s : State) : Option Nat :=
  if !s.on RA_CTL_EN then some 0
  else if !(domOn 72 s && domOn 73 s) then some 1
  else if raRingSize s = 0 then some 2
  else if s.ra.queue.length ≥ 64 then some 3
  else if needsUnit m s && (freeUnit s).isNone then some 4
  else none

/-- RA_STAT.HELD: a ready map waits only because a condition of R302 fails. -/
def raHeld (s : State) : Bool := match nextMap s with | none => false | some m => (acceptBlocked m s).isSome

/-- A map released without analysis (R303). -/
def raRelease (m outcome : Nat) (s : State) : State :=
  let x := raTake 16 m s
  let user := if outcome = raNoDescriptor then 0 else s.get (RA_DESC_USER_USER x.domain)
  let s := clearMap m s
  let s := raEnqueue (raRecord x ⟨outcome, false, 0, []⟩ user s) 0 0 s
  let s := raise 0x0A05 [⟨1, m⟩, ⟨2, x.domain⟩, ⟨1, outcome⟩] s
  if outcome = raGeometry then raReturn x.domain s else s

/-- The engine takes a map (R302, R303). -/
def raAccept (m : Nat) (s : State) : State :=
  let d := s.get (FC_MAP_SEL_DOMAIN m)
  if raState d s = raEmpty then raRelease m raNoDescriptor s
  else if badGeometry m d s then raRelease m raGeometry s
  else match freeUnit s with
    | none => s
    | some u =>
      let s := ((forgetMap m s).set (FC_MAP_CTL_STATE m) mapAnalysis).set (RA_DOM_STATE d) raAnalysing
      raise 0x0A01 [⟨1, m⟩, ⟨2, d⟩, ⟨1, u⟩] { s with ra := { s.ra with units := s.ra.units ++ [raTake u m s] } }

/-! ### Hooks -/

/-- Every analysis ends as ABORTED: domain 73 (cause 1) or, before its list read ends, domain 71 (cause 2) lowers (R316). -/
def raAbortAll (cause : Nat) (s : State) : State :=
  forEach (s.ra.units.filter (fun x => cause != 2 || !x.read)) (fun x t => raAbort x (!x.read) cause t) s

/-- Domain 72 lowers or is reset (R315, R316): held maps are released, the record queue and the table are lost. -/
def raLower72 (s : State) : State :=
  let held := (List.range 128).filter (fun m => mapState m s == mapAnalysis)
  let n := s.ra.queue.length
  let s := if domRuns 71 s then forEach held clearMap s else s
  let s := { s with ra := { s.ra with units := [], queue := [], fullTold := false, queuedBy := [] } }
  if n = 0 ∧ held.isEmpty then s else raise 0x0A0A [⟨1, n⟩, ⟨1, held.length⟩] s

/-- The registers of window 0x0A return to their reset values. -/
def raReset72 (s : State) : State :=
  { (s.resetRegs 0x3009000000 0x300A000000) with ra := { s.ra with units := [], queue := [], fullTold := false, queuedBy := [] } }

/-! ### Commands -/

/-- RA_ARM (R300). -/
def execRaArm (a : Agent) (d : Fin 4096) (s : State) : Out := ok (answered (atIngress 72 (wrRaDom a d.val 1) s))

/-- RA_CANCEL (R301, R314). -/
def execRaCancel (a : Agent) (d : Fin 4096) (s : State) : Out := ok (answered (atIngress 72 (wrRaDom a d.val 2) s))

/-- MAP_ACCEPT (R302, R303): the next ready map, or event 0x0A06 while a condition fails. -/
def execMapAccept (s : State) : Out :=
  match nextMap s with
  | none => ok s
  | some m =>
    match acceptBlocked m s with
    | some c => ok (raiseOnce 0x0A06 0 [⟨1, c⟩] s)
    | none => whenOk (domRuns 71 s) s (raAccept m s)

/-- LIST_READ_END (R304, R305): both reads and the must-repair stage are done, and the map is released. -/
def execListReadEnd (u : Fin 16) (s : State) : Out :=
  match s.ra.units.find? (fun x => x.u == u.val) with
  | none => ok s
  | some x => whenOk (!x.read && domRuns 71 s && domRuns 73 s) s
      (let cells := failCells x.window s
       let l := failUnits x.domain cells s
       let r := mustRepair x.domain l s
       let y := { x with read := true, count := cells.length, stuck := r.stuck, must := r.taken,
                         maperr := s.on (FC_MAP_CTL_MAPERR x.window), fails := uncovered x.domain r.taken l s }
       clearMap x.window { s with ra := { s.ra with units := s.ra.units.map (fun z => if z.u = u.val then y else z) } })

/-- SEARCH_END (R306 to R309, R301): the record enters the queue and the unit is free. -/
def execSearchEnd (u : Fin 16) (s : State) : Out :=
  match s.ra.units.find? (fun x => x.u == u.val) with
  | none => ok s
  | some x => whenOk (x.read && domRuns 73 s && decide (s.ra.queue.length < 64)) s
      (let r := raAnalyse x s
       let rec_ := raRecord x r (s.get (RA_DESC_USER_USER x.domain)) s
       let t := { s with ra := { s.ra with units := s.ra.units.filter (fun z => z.u != u.val) } }
       raReturn x.domain (raEnqueue rec_ r.steps x.must.length t))

/-- Blocks of a record written to the ring one after the other from block number p on. -/
def putBlocks (p : Nat) : Nat → List Nat → State → Status × State
  | 0, _, s => (.done, s)
  | n + 1, w, s =>
    let x := hbmSave 46 (s.get RA_RING_CFG_BASE + 64 * (p % raRingSize s)) 1 ((w.take 8).flatMap (toBytes 8)) s
    if x.1 = .done then putBlocks (p + 1) n (w.drop 8) x.2 else x

/-- A record has entered the ring: LAST fields and event 0x0A02. -/
def recordWritten (r : RaRec) (q : List RaRec) (s : State) : State :=
  let s := { s with ra := { s.ra with queue := q, fullTold := false } }
  let s := s.set RA_RING_PTR_WR ((s.get RA_RING_PTR_WR + recBlocks r) % 2 ^ 32)
  let s := (((s.set (RA_DOM_LAST_OUTCOME r.domain) r.outcome).set (RA_DOM_LAST_NP r.domain) (if r.np then 1 else 0)).set
    (RA_DOM_LAST_MAPERR r.domain) (if r.maperr then 1 else 0)).set (RA_DOM_LAST_COST r.domain) r.cost
  raTellFull (raise 0x0A02 [⟨2, r.domain⟩, ⟨1, r.outcome⟩, ⟨1, if r.np then 1 else 0⟩, ⟨2, r.cost⟩] s)

/-- RA_RING_WRITE (R311): the head record, whole. -/
def execRaRingWrite (st : Status) (s : State) : Out :=
  match s.ra.queue with
  | [] => ok s
  | r :: q => whenOk (domRuns 72 s && !s.on RA_STAT_RING_ERR && raRoom r s && hbmWindow 1 (recBlocks r) s) s
      (let x := putBlocks (s.get RA_RING_PTR_WR) (recBlocks r) r.words s
       let st := if x.1 = .done then st else x.1
       if st = .done then recordWritten r q x.2
       else raise 0x0A08 [⟨1, st.code⟩] (((if x.1 = .done then s else x.2).set RA_STAT_RING_ERR 1).set RA_STAT_RERR st.code))

/-- RA_RING_RESUME (R311). -/
def execRaRingResume (a : Agent) (s : State) : Out :=
  ok (answered (atIngress 72 (wrRaPlain RA_STAT_fields a (2 ^ 19)) s))

end Sys2Proof.Machine
end

