-- ==== Sys2Proof/Machine/ScCore.lean ====
section
/-! DEFINITION. A signal core's state: cores and banks, memories, register sets, waiting, faults, and the step from one
instruction to the next (R320 to R330, R336 to R338). -/
namespace Sys2Proof.Machine

/-! SC_STAT.STATE codes (R337); CAUSE codes (R338). -/
def scStopped : Nat := 0
def scRunning : Nat := 1
def scWaiting : Nat := 2
def scFaulted : Nat := 3
def causeIllegal : Nat := 1
def causeSlot : Nat := 2
def causeLoop : Nat := 3
def causeMemory : Nat := 4
def causeRing : Nat := 5

def scState (c : Nat) (s : State) : Nat := s.get (SC_STAT_STATE c)

/-- The power domain of a physical core, and of logical core c (R320). -/
def physDom (p : Nat) : Nat := if p < 28 then 74 + p / 4 else 81
def scDom (c : Nat) (s : State) : Nat := physDom (s.get (SC_MAP_PHYS c))

/-- The initiator number of a logical core (R16, R320). -/
def scInit (c : Nat) (s : State) : Nat := if s.get (SC_MAP_PHYS c) < 28 then 37 + s.get (SC_MAP_PHYS c) / 4 else 44

/-- The logical cores that run in a domain. -/
def scOf (d : Nat) (s : State) : List Nat := (List.range 32).filter (fun c => scDom c s == d)

/-- Stopped or faulted: where its program and ring may change and it may start or move. -/
def scIdle (c : Nat) (s : State) : Bool := scState c s == scStopped || scState c s == scFaulted

/-! ### Cores -/

/-- A register set after a START or reset. -/
def scSet0 : ScSet :=
  { d := [], a := [], p := [], b := [], l := [], m := [], z := false, n := false, v := false, e := false, lr := 0, loops := [],
    late := [] }

/-- A core after a reset. -/
def scCore0 (c : Nat) : ScCore :=
  { c := c, prim := scSet0, shad := scSet0, ipc := 0, fifos := [], clamped := false, isOver := false, delay := none,
    afterRti := false, waitFor := none, ring := [], ringTold := false, lineDue := false, haltReq := false, unrun := true }

/-- Logical core c; one not listed is as after a reset. -/
def scCore (c : Nat) (s : State) : ScCore := (s.sc.cores.find? (fun x => x.c == c)).getD (scCore0 c)

/-- Cores in rising order; one as after a reset is not listed. -/
def scPut (x : ScCore) : List ScCore → List ScCore
  | [] => if x = scCore0 x.c then [] else [x]
  | y :: r =>
    if x.c < y.c then (if x = scCore0 x.c then y :: r else x :: y :: r)
    else if x.c = y.c then (if x = scCore0 x.c then r else x :: r)
    else y :: scPut x r

/-- A core replaced, and changed. -/
def setScCore (x : ScCore) (s : State) : State := { s with sc := { s.sc with cores := scPut x s.sc.cores } }
def modSc (c : Nat) (f : ScCore → ScCore) (s : State) : State := setScCore (f (scCore c s)) s

/-- The active register set, and that set changed. -/
def scActive (c : Nat) (s : State) : ScSet := if s.on (SC_STAT_SHADOW c) then (scCore c s).shad else (scCore c s).prim
def modSet (c : Nat) (f : ScSet → ScSet) (s : State) : State :=
  if s.on (SC_STAT_SHADOW c) then modSc c (fun x => { x with shad := f x.shad }) s else modSc c (fun x => { x with prim := f x.prim }) s

/-! ### Memories (R323, R324) -/

/-- Width and number of words of a memory: 0 program, 1 X, 2 Y. -/
def scMemBits (m : Nat) : Nat := if m = 0 then 32 else 24
def scMemWords (m : Nat) : Nat := if m = 0 then 16384 else 32768

/-- The number of a memory. -/
def scMemCode : ScMem → Nat
  | .prog => 0 | .x => 1 | .y => 2

/-- A memory; before its first raise its contents are undefined. -/
def scMemory (c m : Nat) (s : State) : ScMemory := (s.sc.mems.find? (fun x => x.key == 3 * c + m)).getD ⟨3 * c + m, some 0, [], []⟩

/-- Memories in rising order. -/
def memPutSc (x : ScMemory) : List ScMemory → List ScMemory
  | [] => [x]
  | y :: r => if x.key < y.key then x :: y :: r else if x.key = y.key then x :: r else y :: memPutSc x r

def setScMemory (x : ScMemory) (s : State) : State := { s with sc := { s.sc with mems := memPutSc x s.sc.mems } }

/-- The word stored at a place. -/
def scWord (c m w : Nat) (s : State) : Nat :=
  let x := scMemory c m s
  match spFind w x.words with
  | some v => v
  | none => match x.base with
    | none => 0
    | some n => Config.rawWord n (65536 * x.key + w) % 2 ^ scMemBits m

/-- The word holds a double-bit error. -/
def scBad (c m w : Nat) (s : State) : Bool := w ∈ (scMemory c m s).bad

/-- A word written, with its check bits. -/
def scStore (c m w v : Nat) (s : State) : State :=
  let x := scMemory c m s
  let v := v % 2 ^ scMemBits m
  setScMemory { x with words := (if x.base.isNone then spSet w v x.words else spPut w v x.words), bad := x.bad.erase w } s

/-- A core's read of a data word: none for a double-bit error (R324). -/
def scLoad (c m w : Nat) (s : State) : Option Nat := if scBad c m w s then none else some (scWord c m w s)

/-- The memories of core c hold undefined contents. -/
def scUndefined (c : Nat) (s : State) : State :=
  let n := s.sc.raises + 1
  forNat 3 (fun m t => setScMemory ⟨3 * c + m, some n, [], []⟩ t) { s with sc := { s.sc with raises := n } }

/-! ### Register sets -/

def ScSet.dv (x : ScSet) (i : Nat) : Int := sext 24 (spGet i x.d)
def ScSet.av (x : ScSet) (i : Nat) : Int := sext 56 (spGet i x.a)
def ScSet.mv (x : ScSet) (i : Nat) : Int := sext 16 (spGet i x.m)
def ScSet.setD (x : ScSet) (i : Nat) (v : Int) : ScSet := { x with d := spSet i (wrap 24 v) x.d }
def ScSet.setA (x : ScSet) (i : Nat) (v : Int) : ScSet := { x with a := spSet i (wrap 56 v) x.a }

/-- Z and N of a result. -/
def ScSet.flags (x : ScSet) (v : Int) : ScSet := { x with z := v == 0, n := decide (v < 0) }

/-- A pointer step (R325). -/
def ScSet.step (x : ScSet) (i : Nat) (d : Int) : ScSet :=
  let p : Int := spGet i x.p
  let b : Int := spGet i x.b
  let l : Int := spGet i x.l
  { x with p := spSet i (wrap 15 (if l = 0 then p + d else b + (p + d - b) % l)) x.p }

/-- The step of a MOD code: 0 none, 1 (P)+, 2 (P)+M, 3 (P)−. -/
def ScSet.modStep (x : ScSet) (i mod_ : Nat) : ScSet :=
  if mod_ = 0 then x else if mod_ = 1 then x.step i 1 else if mod_ = 2 then x.step i (x.mv i) else x.step i (-1)

/-- The loads that were due land, in program order. -/
def ScSet.land (x : ScSet) : ScSet := x.late.foldl (fun t p => t.setD p.1 (sext 24 p.2)) { x with late := [] }

/-! ### From one instruction to the next -/

def scOpc (w : Nat) : Nat := bits w 26 6

/-- Control transfers and LOOP, which no delay slot may hold (R329). -/
def scTransfer (w : Nat) : Bool := scOpc w == 0x0B || scOpc w == 0x0C || scOpc w == 0x0D || scOpc w == 0x0E || scOpc w == 0x0F

/-- The address after pc, with the loop stack (R330): back to the body start while passes remain. -/
def loopNext (pc : Nat) : List ScLoop → Nat × List ScLoop
  | [] => ((pc + 1) % 16384, [])
  | l :: r =>
    if pc = l.fin then (if l.count > 1 then (l.start, { l with count := l.count - 1 } :: r) else loopNext pc r)
    else ((pc + 1) % 16384, l :: r)

/-- A fetch outside the body of the innermost loops pops them (R330). -/
def popOutside (a : Nat) : List ScLoop → List ScLoop
  | [] => []
  | l :: r => if l.start ≤ a ∧ a ≤ l.fin then l :: r else popOutside a r

/-- The core goes on at the address after pc. -/
def scSequential (c pc : Nat) (s : State) : State :=
  let r := loopNext pc (scActive c s).loops
  (modSet c (fun x => { x with loops := popOutside r.1 r.2 }) s).set (SC_STAT_PC c) r.1

/-- The core goes on at an address. -/
def scGoto (c a : Nat) (s : State) : State :=
  (modSet c (fun x => { x with loops := popOutside a x.loops }) s).set (SC_STAT_PC c) a

/-- An instruction at pc has executed: a transfer it made has its two delay slots before it; a transfer whose last slot it
was takes effect; an explicit address is LOOP's skip. -/
def scAdvance (c pc : Nat) (ctl : Option ScDelay) (skip : Option Nat) (s : State) : State :=
  match (scCore c s).delay with
  | some d =>
    if d.left > 1 then scSequential c pc (modSc c (fun x => { x with delay := some { d with left := d.left - 1 } }) s)
    else
      let s := modSc c (fun x => { x with delay := none }) s
      if d.rti then
        let s := modSet c ScSet.land s
        (modSc c (fun x => { x with afterRti := true }) (s.set (SC_STAT_SHADOW c) 0)).set (SC_STAT_PC c) (scCore c s).ipc
      else match d.target with
        | some a => scGoto c a s
        | none => scSequential c pc s
  | none =>
    match skip with
    | some a => scGoto c a s
    | none => scSequential c pc (modSc c (fun x => { x with delay := ctl }) s)

/-- What executing one instruction gives: a fault, a wait, or the state with the transfer it makes and where LOOP skips to. -/
inductive ScStep where
  | fault (cause : Nat)
  | wait (why : Nat) (s : State)
  | done (s : State) (ctl : Option ScDelay) (skip : Option Nat)
  deriving DecidableEq, Repr

/-- An instruction that neither waits nor transfers. -/
def scDone (s : State) : ScStep := .done s none none

/-- A fault stops the core before its instruction (R338). -/
def scFault (c cause : Nat) (s : State) : State :=
  let s := modSet c ScSet.land s
  let s := if cause = causeMemory then noteSign 7 (s.get (SC_MAP_PHYS c)) s else s
  raise 0x0B02 [⟨1, c⟩, ⟨1, cause⟩, ⟨2, s.get (SC_STAT_PC c)⟩] ((s.set (SC_STAT_STATE c) scFaulted).set (SC_STAT_CAUSE c) cause)

/-- A core stops; those past D complete (R337). -/
def scStop (c : Nat) (s : State) : State :=
  let s := modSc c (fun x => { x with delay := none, waitFor := none }) (modSet c ScSet.land s)
  raise 0x0B04 [⟨1, c⟩, ⟨2, s.get (SC_STAT_PC c)⟩] (s.set (SC_STAT_STATE c) scStopped)

/-- A boundary at which the debugger halts the core (R521): no delay slot before it, no RTI just executed, no load due, save
that a core that waits is halted where it waits. -/
def scBoundary (c : Nat) (s : State) : Bool :=
  let x := scCore c s
  x.delay.isNone && !x.afterRti && ((scActive c s).late.isEmpty || scState c s == scWaiting)

/-- The core is HALTED: event 0x1301; an IN or OUT that waits executes again on resume (R521). -/
def scHalt (c : Nat) (s : State) : State :=
  let again := match (scCore c s).waitFor with
    | some 16 => false
    | some _ => true
    | none => false
  let s := s.setIf again (SC_STAT_STATE c) scRunning
  let s := modSc c (fun x => { x with haltReq := false, waitFor := if again then none else x.waitFor }) s
  raise 0x1301 [⟨1, 4 + c⟩, ⟨2, s.get (SC_STAT_PC c)⟩] (s.set (DBG_RUN_HALTED (4 + c)) 1)

/-- A HALT that waits takes effect at its boundary, or when the core no longer runs. -/
def haltDue (c : Nat) (s : State) : State :=
  if (scCore c s).haltReq ∧ (scBoundary c s ∨ scIdle c s) then scHalt c s else s

/-- A step of the debugger has executed its one instruction (R523). -/
def stepEnds (c : Nat) (s : State) : State := s.setIf (s.on (DBG_RUN_STEPPING (4 + c))) (DBG_RUN_STEPPING (4 + c)) 0

/-- The core executes: RUNNING in an ON domain, not halted but for a step. -/
def scExecutes (c : Nat) (s : State) : Bool :=
  domRuns (scDom c s) s && scState c s == scRunning && (!s.on (DBG_RUN_HALTED (4 + c)) || s.on (DBG_RUN_STEPPING (4 + c)))

/-- The instruction at pc may not stand there: a transfer or LOOP in a delay slot or in the last two of a body (R329). -/
def slotFault (c pc w : Nat) (s : State) : Bool :=
  scTransfer w && ((scCore c s).delay.isSome || (scActive c s).loops.any (fun l => pc == l.fin || pc + 1 == l.fin))

/-- One instruction of opcode `opc` executed where the core stands at one. An unassigned opcode faults whatever row asks. -/
def scExec (c opc : Nat) (body : Nat → ScSet → State → ScStep) (s : State) : State :=
  let pc := s.get (SC_STAT_PC c)
  let w := scWord c 0 pc s
  if !scExecutes c s then s
  else if scBad c 0 pc s then stepEnds c (scFault c causeMemory s)
  else if scOpc w > 0x13 then stepEnds c (scFault c causeIllegal s)
  else if scOpc w ≠ opc then s
  else if slotFault c pc w s then stepEnds c (scFault c causeSlot s)
  else match body w (scActive c s) (modSet c ScSet.land s) with
    | .fault cause => haltDue c (stepEnds c (scFault c cause s))
    | .wait why t =>
      -- an IN or OUT that waits reads its registers as they stand now when it executes again
      let t := modSet c (fun x => if why = 16 then x else scActive c s) t
      haltDue c (stepEnds c (modSc c (fun x => { x with waitFor := some why, afterRti := x.afterRti && why != 16 })
        (t.set (SC_STAT_STATE c) scWaiting)))
    | .done t ctl skip =>
      let t := modSc c (fun x => { x with afterRti := false }) t
      haltDue c (stepEnds c (if scState c t = scRunning then scAdvance c pc ctl skip t else t))

end Sys2Proof.Machine
end

