-- ==== Sys2Proof/Machine/Signal.lean ====
section
/-! DEFINITION. Signal cores: instructions, ports, sample FIFOs, interrupts, starting and stopping, the result ring
(chapter 14). -/
namespace Sys2Proof.Machine

/-! ### Arithmetic (R326, R327, R331) -/

/-- ASL: a positive amount shifts left, a negative one right arithmetically; a magnitude above 24 acts as 24. -/
def aslBy (a k : Int) : Int :=
  let k := max (-24) (min 24 k)
  if k ≥ 0 then a * 2 ^ k.toNat else a / 2 ^ (-k).toNat

/-- The exact result of an ALU function; `b8` is the signed byte that ASL uses, `b5` the amount of LSR. -/
def aluExact (fn : Nat) (a b b8 : Int) (b5 : Nat) : Int :=
  let ua := wrap 24 a
  let ub := wrap 24 b
  if fn = 0 then a + b
  else if fn = 1 ∨ fn = 12 then a - b
  else if fn = 2 then sext 24 (Nat.land ua ub)
  else if fn = 3 then sext 24 (Nat.lor ua ub)
  else if fn = 4 then sext 24 (Nat.xor ua ub)
  else if fn = 5 then min a b
  else if fn = 6 then max a b
  else if fn = 7 then aslBy a b8
  else if fn = 8 then sext 24 (if b5 ≥ 24 then 0 else ua / 2 ^ b5)
  else if fn = 9 then (if a < 0 then -a else a)
  else if fn = 10 then -a
  else b

/-- ALU. -/
def scAlu (c w : Nat) (old : ScSet) (s : State) : ScStep :=
  let fn := bits w 22 4
  let imm := bit w 8
  let a := old.dv (bits w 14 4)
  let b := if imm then sext 8 (bits w 0 8) else old.dv (bits w 10 4)
  let r := aluExact fn a b (sext 8 (wrap 8 b)) (bits (wrap 24 b) 0 5)
  let clamped := bit w 9 && satInt 24 r != r
  let v := if bit w 9 then satInt 24 r else sext 24 (wrap 24 r)
  if fn > 12 then .fault causeIllegal
  else scDone (modSet c (fun x =>
    let x := if fn = 12 then x else x.setD (bits w 18 4) v
    { x.flags v with v := x.v || clamped }) s)

/-- LDI. -/
def scLdi (c w : Nat) (_ : ScSet) (s : State) : ScStep := scDone (modSet c (fun x => x.setD (bits w 22 4) (sext 20 (bits w 0 20))) s)

/-- LDH: the low 12 bits stay as the instruction reads them. -/
def scLdh (c w : Nat) (old : ScSet) (s : State) : ScStep :=
  let i := bits w 22 4
  scDone (modSet c (fun x => x.setD i (sext 24 (bits w 0 12 * 4096 + spGet i old.d % 4096))) s)

/-- MAC: the product of Dm and Dn before the instruction's own loads, and the loads (R327, R328, R331). -/
def scMac (c w : Nat) (old : ScSet) (s : State) : ScStep :=
  let a := bits w 24 2
  let mode := bits w 22 2
  let dm := bits w 18 4
  let dn := bits w 14 4
  let px := bits w 11 3
  let xm := bits w 9 2
  let py := bits w 6 3
  let ym := bits w 4 2
  let prod := old.dv dm * old.dv dn * (if bit w 3 then 2 else 1)
  let acc (x : ScSet) : ScSet :=
    if mode = 0 then x.setA a prod else if mode = 1 then x.setA a (old.av a + prod)
    else if mode = 2 then x.setA a (old.av a - prod) else x
  let xv := if xm = 0 then some 0 else scLoad c 1 (spGet px old.p) s
  let yv := if ym = 0 then some 0 else scLoad c 2 (spGet py old.p) s
  match xv, yv with
  | some xv, some yv =>
    let late := (if xm = 0 then [] else [(dm, xv)]) ++ (if ym = 0 then [] else [(dn, yv)])
    scDone (modSet c (fun x =>
      let x := (acc x).modStep px xm
      let x := if px = py ∧ xm ≠ 0 then x else x.modStep py ym
      { x with late := late }) s)
  | _, _ => .fault causeMemory

/-- AOP. -/
def scAop (c w : Nat) (old : ScSet) (s : State) : ScStep :=
  let a := bits w 24 2
  let fn := bits w 21 3
  let sh := bits w 11 6
  let d := old.dv (bits w 17 4) * 2 ^ sh
  let av := old.av a
  if fn = 7 ∨ ((fn = 1 ∨ fn = 2 ∨ fn = 3) ∧ sh > 32) ∨ (fn = 4 ∧ sh > 55) then .fault causeIllegal
  else
    let r := if fn = 0 then 0 else if fn = 1 then d else if fn = 2 then av + d else if fn = 3 then av - d
      else if fn = 4 then av / 2 ^ sh else if fn = 5 then -av else (if av < 0 then -av else av)
    scDone (modSet c (fun x => x.setA a r) s)

/-- MVA: a rounded, perhaps saturated, 24-bit field of an accumulator. -/
def scMva (c w : Nat) (old : ScSet) (s : State) : ScStep :=
  let sh := bits w 14 6
  let v := old.av (bits w 20 2) + (if bit w 13 ∧ sh > 0 then 2 ^ (sh - 1) else 0)
  let q := v / 2 ^ sh
  let clamped := bit w 12 && satInt 24 q != q
  let r := if bit w 12 then satInt 24 q else sext 24 (wrap 24 q)
  if sh > 32 then .fault causeIllegal
  else scDone (modSet c (fun x => { (x.setD (bits w 22 4) r).flags r with v := x.v || clamped }) s)

/-- A load or store of a data word. -/
def scMove (c m a d : Nat) (store : Bool) (step : ScSet → ScSet) (old : ScSet) (s : State) : ScStep :=
  if store then scDone (modSet c step (scStore c m a (spGet d old.d) s))
  else match scLoad c m a s with
    | some v => scDone (modSet c (fun x => { step x with late := [(d, v)] }) s)
    | none => .fault causeMemory

/-- LDST: through a pointer as it stood before its step. -/
def scLdst (c w : Nat) (old : ScSet) (s : State) : ScStep :=
  let p := bits w 17 3
  scMove c (1 + bits w 21 1) (spGet p old.p) (bits w 22 4) (bit w 20) (fun x => x.modStep p (bits w 15 2)) old s

/-- LDSTA: at an absolute address. -/
def scLdsta (c w : Nat) (old : ScSet) (s : State) : ScStep :=
  scMove c (1 + bits w 21 1) (bits w 0 15) (bits w 22 4) (bit w 20) id old s

/-- SETP. -/
def scSetp (c w : Nat) (_ : ScSet) (s : State) : ScStep :=
  let i := bits w 21 3
  let v := bits w 0 16
  let cls := bits w 24 2
  if (cls ≤ 1 ∧ v > 32767) ∨ (cls = 2 ∧ v > 32768) then .fault causeIllegal
  else scDone (modSet c (fun x =>
    if cls = 0 then { x with p := spSet i v x.p } else if cls = 1 then { x with b := spSet i v x.b }
    else if cls = 2 then { x with l := spSet i v x.l } else { x with m := spSet i v x.m }) s)

/-- An index that a class of MVR has. -/
def mvrIndexOk (cls i : Nat) : Bool := cls == 0 || (decide (1 ≤ cls) && decide (cls ≤ 4) && decide (i ≤ 7)) || (decide (5 ≤ cls) && decide (i ≤ 3))

/-- The value that MVR reads. -/
def mvrRead (cls i : Nat) (x : ScSet) : Int :=
  if cls = 0 then x.dv i else if cls = 1 then spGet i x.p else if cls = 2 then x.mv i
  else if cls = 3 then spGet i x.b else if cls = 4 then spGet i x.l
  else if cls = 5 then sext 24 (bits (spGet i x.a) 0 24) else if cls = 6 then sext 24 (bits (spGet i x.a) 24 24)
  else sext 8 (bits (spGet i x.a) 48 8)

/-- The register that MVR writes. -/
def mvrWrite (cls i : Nat) (v : Int) (x : ScSet) : ScSet :=
  let u := wrap 24 v
  let a := spGet i x.a
  if cls = 0 then x.setD i v
  else if cls = 1 then { x with p := spSet i (u % 2 ^ 15) x.p }
  else if cls = 2 then { x with m := spSet i (u % 2 ^ 16) x.m }
  else if cls = 3 then { x with b := spSet i (u % 2 ^ 15) x.b }
  else if cls = 4 then { x with l := spSet i (u % 2 ^ 16) x.l }
  else if cls = 5 then { x with a := spSet i (putBits a 0 24 u) x.a }
  else if cls = 6 then { x with a := spSet i (putBits a 24 24 u) x.a }
  else { x with a := spSet i (putBits a 48 8 u) x.a }

/-- MVR. -/
def scMvr (c w : Nat) (old : ScSet) (s : State) : ScStep :=
  let dc := bits w 23 3
  let di := bits w 19 4
  let sc := bits w 16 3
  let si := bits w 12 4
  let v := mvrRead sc si old
  if !mvrIndexOk dc di || !mvrIndexOk sc si || (dc == 4 && decide (wrap 24 v % 2 ^ 16 > 32768)) then .fault causeIllegal
  else scDone (modSet c (mvrWrite dc di v) s)

/-! ### Control (R329, R330) -/

/-- BR. -/
def scBr (_ w : Nat) (old : ScSet) (s : State) : ScStep :=
  let cond := bits w 22 4
  let t := if cond = 0 then true else if cond = 1 then old.z else if cond = 2 then old.n else if cond = 3 then old.v else old.e
  if cond > 4 then .fault causeIllegal
  else .done s (some ⟨2, if t != bit w 21 then some (bits w 0 14) else none, false⟩) none

/-- JSR: LR is its own address plus 3. -/
def scJsr (c w : Nat) (_ : ScSet) (s : State) : ScStep :=
  let lr := (s.get (SC_STAT_PC c) + 3) % 16384
  .done (modSet c (fun x => { x with lr := lr }) s) (some ⟨2, some (bits w 0 14), false⟩) none

/-- RTS. -/
def scRts (_ _ : Nat) (old : ScSet) (s : State) : ScStep := .done s (some ⟨2, some old.lr, false⟩) none

/-- RTI (R336). -/
def scRti (_ _ : Nat) (_ : ScSet) (s : State) : ScStep := .done s (some ⟨2, none, true⟩) none

/-- LOOP: a count of 0 skips the body. -/
def scLoopIns (c w : Nat) (old : ScSet) (s : State) : ScStep :=
  let n := if bit w 25 then spGet (bits w 21 4) old.d % 65536 else bits w 15 10
  let fin := bits w 0 14
  if old.loops.length ≥ 4 then .fault causeLoop
  else if n = 0 then .done s none (some ((fin + 1) % 16384))
  else
    let start := (s.get (SC_STAT_PC c) + 1) % 16384
    scDone (modSet c (fun x => { x with loops := ⟨start, fin, n⟩ :: x.loops }) s)

/-! ### Ports (R332 to R335, R339) -/

def scFifo (c k : Nat) (s : State) : List ScSample := keyed k (scCore c s).fifos
def setScFifo (c k : Nat) (l : List ScSample) (s : State) : State := modSc c (fun x => { x with fifos := putKeyed k l x.fifos }) s

/-- Entries of the result ring, those in use once the gathered ones are written, and whether it is full. -/
def scRingSize (c : Nat) (s : State) : Nat := if s.get (SC_RING_CFG_LOG2 c) = 0 then 0 else 2 ^ s.get (SC_RING_CFG_LOG2 c)
def scRingUsed (c : Nat) (s : State) : Nat :=
  wrap 32 ((s.get (SC_RING_PTR_WR c) : Int) - s.get (SC_RING_PTR_RD c)) + (scCore c s).ring.length
def scRingFull (c : Nat) (s : State) : Bool := decide (scRingUsed c s ≥ scRingSize c s)

/-- The port of an IN or OUT; none where IND is 1 and PORT is not 0. -/
def scPort (w : Nat) (old : ScSet) : Option Nat :=
  if bit w 20 then (if bits w 0 6 = 0 then some (spGet (bits w 6 4) old.d % 64) else none) else some (bits w 0 6)

/-- The status that IN 34 reads. -/
def scStatus (c : Nat) (old : ScSet) (s : State) : Nat :=
  let b (x : Bool) (v : Nat) : Nat := if x then v else 0
  b old.z 1 + b old.n 2 + b old.v 4 + b old.e 8 + b (scCore c s).clamped 16 + b (scCore c s).isOver 32

/-- IN: what it reads lands late; an empty FIFO leaves D and sets E, or the core waits. -/
def scInIns (c w : Nat) (old : ScSet) (s : State) : ScStep :=
  let d := bits w 22 4
  let late (v : Nat) (s : State) : ScStep := scDone (modSet c (fun x => { x with late := [(d, v % 2 ^ 24)] }) s)
  match scPort w old with
  | none => .fault causeIllegal
  | some p =>
    if p < 16 then
      match scFifo c p s with
      | [] =>
        if bit w 21 then .wait p s
        -- the slot after it takes no interrupt either (R336): D lands as it is
        else late (spGet d (scActive c s).d) (modSet c (fun x => { x with e := true }) s)
      | x :: r =>
        let s := setScFifo c p r s
        let s := modSc c (fun y => { y with clamped := x.clamped, isOver := x.isOver }) s
        late x.value (modSet c (fun y => { y with e := false }) s)
    else if p < 32 then late (scFifo c (p - 16) s).length s
    else if p = 32 then late (s.get (SC_IRQ_PEND c)) s
    else if p = 33 then late (frameCount s) s
    else if p = 34 then late (scStatus c old s) s
    else if p = 35 then late (s.get (SC_HOST_WORD c)) s
    else if p = 36 then late (s.get (SC_IRQ_EN c)) s
    else .fault causeIllegal

/-- OUT. -/
def scOutIns (c w : Nat) (old : ScSet) (s : State) : ScStep :=
  let v := spGet (bits w 22 4) old.d
  match scPort w old with
  | none => .fault causeIllegal
  | some p =>
    if p < 16 then scDone ((s.set (SC_RES_RES c p) v).set (SC_RES_FRESH c p) 1)
    else if p = 32 then scDone (s.set (SC_IRQ_PEND c) (s.get (SC_IRQ_PEND c) - Nat.land (s.get (SC_IRQ_PEND c)) (v % 16)))
    else if p = 33 then scDone (raise 0x0B10 [⟨1, c⟩, ⟨2, v % 65536⟩] s)
    else if p = 34 then scDone (modSet c (fun x => { x with v := false }) s)
    else if p = 35 then
      if scRingSize c s = 0 then .fault causeRing
      else if scRingFull c s then
        .wait 17 (if (scCore c s).ringTold then s
          else raise 0x0B05 [⟨1, c⟩, ⟨4, s.get (SC_RING_PTR_WR c)⟩] (modSc c (fun x => { x with ringTold := true }) s))
      else scDone (modSc c (fun x => { x with ring := x.ring ++ [v], ringTold := false }) s)
    else if p = 36 then scDone (s.set (SC_IRQ_EN c) (v % 16))
    else .fault causeIllegal

/-! ### Samples (R333, R335) -/

/-- Samples dropped on the channels of a mask: SC_DROP, pending DROP, event 0x0B03 at most once per frame. -/
def scDropped (c : Nat) (l : List (Nat × Nat)) (s : State) : State :=
  if l.isEmpty then s
  else
    let mask := l.foldl (fun t p => t + 2 ^ p.1) 0
    let s := forEach l (fun p t =>
      let t := t.count (SC_DROP_COUNT c p.1) p.2
      { t with sc := { t.sc with dropFrame := spSet (16 * c + p.1) (spGet (16 * c + p.1) t.sc.dropFrame + p.2) t.sc.dropFrame } }) s
    let s := s.setIf (domOn (scDom c s) s) (SC_IRQ_PEND c) (putBit (s.get (SC_IRQ_PEND c)) 3 true)
    raiseOnce 0x0B03 c [⟨1, c⟩, ⟨2, mask⟩, frameItem s] s

/-- A waiting core runs again. -/
def scWake (c : Nat) (s : State) : State := modSc c (fun x => { x with waitFor := none }) (s.set (SC_STAT_STATE c) scRunning)

/-- A sample reaches a core. -/
def scArrival (c k : Nat) (x : ScSample) (s : State) : State :=
  let l := scFifo c k s
  if !domRuns (scDom c s) s || decide (l.length ≥ 64) then scDropped c [(k, 1)] s
  else
    let s := setScFifo c k (l ++ [x]) s
    let s := s.setIf (l.length + 1 == s.get (SC_CFG_THR c)) (SC_IRQ_PEND c) (putBit (s.get (SC_IRQ_PEND c)) 1 true)
    if scState c s = scWaiting ∧ (scCore c s).waitFor = some k then scWake c s else s

/-! ### Interrupts (R335, R336) -/

/-- A present request may be taken now. -/
def scTakes (c : Nat) (s : State) : Bool :=
  domRuns (scDom c s) s && (scState c s == scRunning || scState c s == scWaiting) && !s.on (DBG_RUN_HALTED (4 + c)) &&
    Nat.land (s.get (SC_IRQ_PEND c)) (s.get (SC_IRQ_EN c)) != 0 && !s.on (SC_STAT_SHADOW c) && (scActive c s).late.isEmpty && scBoundary c s

/-- Entry: the return address in IPC, the shadow set active, on at IVEC. A WAITI has ended; an IN or OUT that waits executes
again after the return. -/
def scEnter (c : Nat) (s : State) : State :=
  let s := if (scCore c s).waitFor = some 16 then scSequential c (s.get (SC_STAT_PC c)) s else s
  let s := scWake c s
  let s := modSc c (fun x => { x with ipc := s.get (SC_STAT_PC c) }) s
  scGoto c (s.get (SC_CFG_IVEC c)) (s.set (SC_STAT_SHADOW c) 1)

/-! ### Starting and stopping (R337) -/

/-- An accepted START. -/
def scStart (c : Nat) (s : State) : State :=
  let old := scCore c s
  let flushed := old.fifos.map (fun p => (p.1, p.2.length))
  let s := setScCore { scCore0 c with unrun := false, ring := old.ring, ringTold := old.ringTold, lineDue := old.lineDue } s
  let s := forNat 16 (fun k t => (t.set (SC_RES_RES c k) 0).set (SC_RES_FRESH c k) 0) s
  let s := ((s.set (SC_IRQ_EN c) 0).set (SC_IRQ_PEND c) 0).set (SC_STAT_SHADOW c) 0
  let s := scDropped c flushed s
  let s := if s.on (SC_CTL_CLEAR c) then setScMemory ⟨3 * c + 2, none, [], []⟩ (setScMemory ⟨3 * c + 1, none, [], []⟩ s) else s
  let s := (s.set (SC_STAT_PC c) (s.get (SC_CTL_ENTRY c))).set (SC_STAT_STATE c) scRunning
  let s := raise 0x0B01 [⟨1, c⟩, ⟨2, s.get (SC_CTL_ENTRY c)⟩] s
  if old.unrun ∧ s.on (DBG_RUN_RHALT (4 + c)) then scHalt c s else s

/-- A write of SC_CTL(c). -/
def wrScCtl (a : Agent) (c v : Nat) (s : State) : Status × State :=
  let start := (SC_CTL_START c).hit v
  let stop := (SC_CTL_STOP c).hit v
  let w := writeFlds (SC_CTL_fields c) v s
  if !a.ctl then (.denied, s)
  else if start && stop then (.range, s)
  else if start then (if scIdle c s then (.done, scStart c w) else (.range, s))
  else if stop then (.done, if scIdle c s then w else haltDue c (scStop c w))
  else (.done, w)

/-- The block, FIFOs and RES of core c at their reset values (R321, R340). -/
def scClear (c : Nat) (s : State) : State :=
  setScCore (scCore0 c) ((s.resetRegs (0x300A001000 + 0x40 * (c % 32)) (0x300A001040 + 0x40 * (c % 32))).resetRegs
    (0x300A006000 + 0x40 * (c % 32)) (0x300A006040 + 0x40 * (c % 32)))

/-- Core c enters STOPPED unless it is there (R337: event 0x0B04 at each entry). -/
def scToStopped (c : Nat) (s : State) : State := if scState c s = scStopped then s else scStop c s

/-- A write of SC_MAP(c) (R321). -/
def wrScMap (a : Agent) (c v : Nat) (s : State) : Status × State :=
  let p := (SC_MAP_PHYS c).of v
  let old := s.get (SC_MAP_PHYS c)
  if !a.ctl then (.denied, s)
  else if p = old then (.done, s)
  else if !a.core01 then (.denied, s)
  else if p > 33 ∨ (List.range 32).any (fun i => i != c && s.get (SC_MAP_PHYS i) == p) ∨ !scIdle c s then (.range, s)
  else
    let s := scUndefined c (scClear c (scToStopped c s))
    (.done, raise 0x0B09 [⟨1, c⟩, ⟨1, old⟩, ⟨1, p⟩] (s.set (SC_MAP_PHYS c) p))

/-- A write of SC_CFG: THR 1 to 64. -/
def wrScCfg (a : Agent) (c v : Nat) (s : State) : Status × State :=
  let t := (SC_CFG_THR c).of v
  if !a.ctl then (.denied, s) else if t = 0 ∨ t > 64 then (.range, s) else (.done, writeFlds (SC_CFG_fields c) v s)

/-- A write of SC_HOST sets pending HOST (R335). -/
def wrScHost (a : Agent) (c v : Nat) (s : State) : Status × State :=
  if !a.ctl then (.denied, s)
  else (.done, (writeFlds (SC_HOST_fields c) v s).set (SC_IRQ_PEND c) (putBit (s.get (SC_IRQ_PEND c)) 2 true))

/-- A write of SC_ECC_CTL: BUCKET 1 to 255. -/
def wrScEccCtl (a : Agent) (c v : Nat) (s : State) : Status × State :=
  if !a.ctl then (.denied, s)
  else if (SC_ECC_CTL_BUCKET c).of v = 0 then (.range, s) else (.done, writeFlds (SC_ECC_CTL_fields c) v s)

/-- A write of SC_RING_CFG: only while stopped or faulted; WR and RD return to 0. -/
def wrScRingCfg (a : Agent) (c v : Nat) (s : State) : Status × State :=
  let n := (SC_RING_CFG_LOG2 c).of v
  if !a.ctl then (.denied, s)
  else if !scIdle c s || (decide (1 ≤ n) && decide (n ≤ 6)) || decide (n > 26) || (SC_RING_CFG_BASE c).of v % 4096 != 0 then (.range, s)
  else (.done, modSc c (fun x => { x with ring := [], ringTold := false, lineDue := false })
    (((writeFlds (SC_RING_CFG_fields c) v s).set (SC_RING_PTR_RD c) 0).set (SC_RING_PTR_WR c) 0))

/-- A write of SC_RING_PTR sets RD; an OUT that waited for room runs again (R339). -/
def wrScRingPtr (a : Agent) (c v : Nat) (s : State) : Status × State :=
  if !a.ctl then (.denied, s)
  else if wrap 32 ((s.get (SC_RING_PTR_WR c) : Int) - (SC_RING_PTR_RD c).of v) > scRingSize c s then (.range, s)
  else
    let s := writeFlds (SC_RING_PTR_fields c) v s
    (.done, if scState c s = scWaiting ∧ (scCore c s).waitFor = some 17 ∧ scRingFull c s = false then scWake c s else s)

/-- A host access to a memory word (R323): the answer carries the word read. -/
def scHostRead (c m w : Nat) (s : State) : State :=
  if w ≥ scMemWords m then answer .range s
  else
    let v := scWord c m w s
    let v := if m = 0 then v else wrap 32 (sext 24 v)
    { s with resp := ⟨if scBad c m w s then .poison else .done, v, []⟩ }

/-- A host write of a memory word (R323). -/
def scHostWrite (a : Agent) (c m w v : Nat) (s : State) : Status × State :=
  if !a.ctl then (.denied, s)
  else if w ≥ scMemWords m then (.range, s)
  else if m = 0 ∧ !scIdle c s then (.range, s)
  else (.done, scStore c m w v s)

/-! ### The result ring (R339) -/

/-- The gathered entries that lie in the line of the next one. -/
def scLineCount (c : Nat) (s : State) : Nat := min (scCore c s).ring.length (16 - s.get (SC_RING_PTR_WR c) % 16)

/-- A line is due: full, or any unwritten entry after a tick. -/
def scLineReady (c : Nat) (s : State) : Bool :=
  let n := scLineCount c s
  n != 0 && ((scCore c s).lineDue || (s.get (SC_RING_PTR_WR c) + n) % 16 == 0)

/-- The gathered entries written to their places in the line of HBM, with the answer of the ingress and the controller. -/
def scPutLine (c : Nat) (s : State) : Status × State :=
  let n := scLineCount c s
  let wr := s.get (SC_RING_PTR_WR c)
  let a := s.get (SC_RING_CFG_BASE c) + 4 * (wr % scRingSize c s)
  let at_ := 4 * (wr % 16)
  let b := List.replicate at_ 0 ++ ((scCore c s).ring.take n).flatMap (fun v => toBytes 4 (wrap 32 (sext 24 v)))
  let src := scInit c s
  if hbmDenies src (a / 64 * 64) 64 true then (Status.denied, s)
  else match pairRefusesAt a 1 s with
    | some st => (st, s)
    | none =>  hbmPutLine src (a / 64) ((2 ^ (4 * n) - 1) * 2 ^ at_) (b ++ List.replicate (64 - b.length) 0) (takeLines (classOf src) 1 s)

/-- A result line written to HBM, or the core faulted with CAUSE RING. -/
def scLineWrite (c : Nat) (st : Status) (s : State) : State :=
  let n := scLineCount c s
  let x := scPutLine c s
  let st := if x.1 = .done then st else x.1
  if st = .done then
    let s := x.2.set (SC_RING_PTR_WR c) ((s.get (SC_RING_PTR_WR c) + n) % 2 ^ 32)
    modSc c (fun y => { y with ring := y.ring.drop n, lineDue := y.lineDue && decide (n < y.ring.length) }) s
  else
    let left := (scCore c s).ring.length
    let s := modSc c (fun y => { y with ring := [], lineDue := false }) (s.set (SC_STAT_RERR c) st.code)
    let s := if scIdle c s then s else modSc c (fun y => { y with waitFor := none }) (scFault c causeRing s)
    raise 0x0B06 [⟨1, c⟩, ⟨1, st.code⟩, ⟨4, left⟩] s

/-! ### Hooks -/

/-- A tick: pending TICK, lines due, the leaks, and the drops of the frame become those of the last (R335, R339). -/
def scTick (s : State) : State :=
  let s := forNat 32 (fun c t =>
    if domOn (scDom c t) t then
      let t := t.set (SC_IRQ_PEND c) (putBit (t.get (SC_IRQ_PEND c)) 0 true)
      let t := if (scCore c t).ring.isEmpty then t else modSc c (fun x => { x with lineDue := true }) t
      bucketLeak (SC_ECC_STAT_LEVEL c) (SC_ECC_CTL_LEAK c) t
    else t) s
  { s with sc := { s.sc with dropLast := s.sc.dropFrame, dropFrame := [] } }

/-- The cores of domain d stop as it enters LOWERING (R341). -/
def scLower (d : Nat) (s : State) : State := forEach (scOf d s) (fun c t => if scIdle c t then t else scStop c t) s

/-- A DOMAIN reset of domain d: its cores' blocks, FIFOs and RES at their reset values, each core stopped (R337, R340). -/
def scReset (d : Nat) (s : State) : State :=
  forEach (scOf d s) (fun c t =>
    scClear c (((scToStopped c t).set (DBG_RUN_HALTED (4 + c)) 0).set (DBG_RUN_STEPPING (4 + c)) 0)) s

/-- Domain d is OFF: at the next raise its blocks hold their reset values and its memories undefined contents (R340). -/
def scOff (d : Nat) (s : State) : State :=
  forEach (scOf d s) (fun c t => scUndefined c (scClear c ((t.set (DBG_RUN_HALTED (4 + c)) 0).set (DBG_RUN_STEPPING (4 + c)) 0))) s

/-! ### Commands -/

/-- SC_MAP_WRITE (R321). -/
def execScMapWrite (a : Agent) (c : Fin 32) (phys : Nat) (s : State) : Out :=
  ok (answered (if phys > 63 then (.range, s) else wrScMap a c.val phys s))

/-- SC_START (R337): a write of SC_CTL with START among its bits. -/
def execScStart (a : Agent) (c : Fin 32) (v : Nat) (s : State) : Out :=
  ok (answered (atIngress (scDom c.val s) (wrScCtl a c.val (Nat.lor v (2 ^ 31))) s))

/-- SC_STOP_COMMAND (R337). -/
def execScStopCommand (a : Agent) (c : Fin 32) (s : State) : Out :=
  ok (answered (atIngress (scDom c.val s)
    (wrScCtl a c.val (2 ^ 30 + s.get (SC_CTL_CLEAR c.val) % 2 * 2 ^ 29 + s.get (SC_CTL_ENTRY c.val) % 2 ^ 14)) s))

/-- SC_MEMORY_ACCESS (R323, R324). -/
def execScMemoryAccess (a : Agent) (c : Fin 32) (mem : ScMem) (word : Nat) (write : Option Nat) (s : State) : Out :=
  match domRefuses (scDom c.val s) s, write with
  | some st, _ => ok (answer st s)
  | none, some v => ok (answered (scHostWrite a c.val (scMemCode mem) word v s))
  | none, none => ok (scHostRead c.val (scMemCode mem) word s)

/-- SC_SAMPLE_ARRIVAL (R183, R333, R335): the sample named, where it is the oldest on the link of channel k of core c. -/
def execScSampleArrival (c : Fin 32) (k : Fin 16) (sample : Nat) (clamped isOver : Bool) (s : State) : Out :=
  let n := 16 * c.val + k.val
  match s.jets.link.find? (fun p => p.1 == n) with
  | none => ok s
  | some p => whenOk (p.2 == ⟨sample, clamped, isOver⟩) s (scArrival c.val k.val p.2
      { s with jets := { s.jets with link := s.jets.link.eraseP (fun p => p.1 == n) } })

/-- SC_HOST_WRITE (R335). -/
def execScHostWrite (a : Agent) (c : Fin 32) (v : Nat) (s : State) : Out :=
  ok (answered (atIngress (scDom c.val s) (wrScHost a c.val v) s))

/-- SC_INTERRUPT (R336). -/
def execScInterrupt (c : Fin 32) (s : State) : Out := whenOk (scTakes c.val s) s (scEnter c.val s)

/-- SC_RING_LINE_WRITE (R338, R339): over the network on chip (R15); a line it refuses with RETRY waits and is sent again. -/
def execScRingLineWrite (c : Fin 32) (st : Status) (s : State) : Out :=
  let at_ := s.get (SC_RING_CFG_BASE c.val) + 4 * (s.get (SC_RING_PTR_WR c.val) % scRingSize c.val s)
  let x := nocReach (scInit c.val s) at_ 1 3 s
  whenOk (domRuns (scDom c.val s) s && scLineReady c.val s && hbmWindow 2 1 s) s
    (if x.1.isSome then x.2 else scLineWrite c.val st x.2)

/-- SC_SCRUB_WORD (R324). -/
def execScScrubWord (c : Fin 32) (mem : ScMem) (word : Nat) (u : Ecc) (s : State) : Out :=
  let m := (scMemCode mem)
  let x := scMemory c.val m s
  whenOk (domRuns (scDom c.val s) s && s.get (SC_ECC_CTL_SCRUB_RATE c.val) != 0 && decide (word < scMemWords m)) s
    (if u = .double ∨ scBad c.val m word s then
      raise 0x0B08 [⟨1, c.val⟩, ⟨1, m⟩, ⟨2, word⟩] (setScMemory { x with bad := if word ∈ x.bad then x.bad else x.bad ++ [word] }
        (noteSign 7 (s.get (SC_MAP_PHYS c.val)) (s.count (SC_ECC_STAT_UNCORR c.val) 1)))
     else if u = .single then
      bucketHit (SC_ECC_STAT_CORR c.val) (SC_ECC_STAT_LEVEL c.val) (SC_ECC_STAT_OVERFLOW c.val) (SC_ECC_CTL_BUCKET c.val)
        0x0B07 [⟨1, c.val⟩] s
     else s)

/-- NOP (R331). -/
def execNop (c : Fin 32) (s : State) : Out := ok (scExec c.val 0x00 (fun _ _ => scDone) s)

/-- ALU (R326, R331). -/
def execAlu (c : Fin 32) (s : State) : Out := ok (scExec c.val 0x01 (scAlu c.val) s)

/-- LDI (R331). -/
def execLdi (c : Fin 32) (s : State) : Out := ok (scExec c.val 0x02 (scLdi c.val) s)

/-- LDH (R331). -/
def execLdh (c : Fin 32) (s : State) : Out := ok (scExec c.val 0x03 (scLdh c.val) s)

/-- MAC (R327, R328). -/
def execMac (c : Fin 32) (s : State) : Out := ok (scExec c.val 0x04 (scMac c.val) s)

/-- AOP (R331). -/
def execAop (c : Fin 32) (s : State) : Out := ok (scExec c.val 0x05 (scAop c.val) s)

/-- MVA (R327). -/
def execMva (c : Fin 32) (s : State) : Out := ok (scExec c.val 0x06 (scMva c.val) s)

/-- LDST (R325, R328). -/
def execLdst (c : Fin 32) (s : State) : Out := ok (scExec c.val 0x07 (scLdst c.val) s)

/-- LDSTA (R328, R331). -/
def execLdsta (c : Fin 32) (s : State) : Out := ok (scExec c.val 0x08 (scLdsta c.val) s)

/-- SETP (R331). -/
def execSetp (c : Fin 32) (s : State) : Out := ok (scExec c.val 0x09 (scSetp c.val) s)

/-- MVR (R331). -/
def execMvr (c : Fin 32) (s : State) : Out := ok (scExec c.val 0x0A (scMvr c.val) s)

/-- BR (R329). -/
def execBr (c : Fin 32) (s : State) : Out := ok (scExec c.val 0x0B (scBr c.val) s)

/-- JSR (R329). -/
def execJsr (c : Fin 32) (s : State) : Out := ok (scExec c.val 0x0C (scJsr c.val) s)

/-- RTS (R329). -/
def execRts (c : Fin 32) (s : State) : Out := ok (scExec c.val 0x0D (scRts c.val) s)

/-- RTI (R336). -/
def execRti (c : Fin 32) (s : State) : Out := ok (scExec c.val 0x0E (scRti c.val) s)

/-- SC_LOOP (R330). -/
def execScLoop (c : Fin 32) (s : State) : Out := ok (scExec c.val 0x0F (scLoopIns c.val) s)

/-- IN (R332). -/
def execScIn (c : Fin 32) (s : State) : Out := ok (scExec c.val 0x10 (scInIns c.val) s)

/-- OUT (R332, R339). -/
def execScOut (c : Fin 32) (s : State) : Out := ok (scExec c.val 0x11 (scOutIns c.val) s)

/-- WAITI (R331, R337). -/
def execWaiti (c : Fin 32) (s : State) : Out := ok (scExec c.val 0x12 (fun _ _ => .wait 16) s)

/-- SC_STOP (R337). -/
def execScStop (c : Fin 32) (s : State) : Out := ok (scExec c.val 0x13 (fun _ _ t => scDone (scStop c.val t)) s)

end Sys2Proof.Machine
end

