-- ==== Sys2Proof/Machine/Noc.lean ====
section
/-! DEFINITION. The network on chip's requests in flight, credits and timeouts, the HBM requests it carries, and the arbiters
(chapter 17). -/
namespace Sys2Proof.Machine

/-! ### Requests in flight -/

/-- A request still wants its target's answer. -/
def nocOpen (r : NocReq) : Bool := r.phase != .done

/-- A request is addressed to a domain: one to HBM, to both domains of the pair. -/
def reqTo (n : Nat) (r : NocReq) : Bool := r.dom == some n || (n == 64 && r.dom == some 65)

/-- A request in the controller's queue has a line of a keyed region, so that it is also with the encryption block (R376). -/
def keyedReq (r : NocReq) (s : State) : Bool :=
  s.hbm.queue.any (fun q => q.seq == r.id && q.src == r.agent.init.val && q.regions.any (·.isSome))

/-- The open requests to a domain. -/
def openTo (n : Nat) (s : State) : List NocReq :=
  s.noc.reqs.filter (fun r => nocOpen r && (reqTo n r || (n == 94 && keyedReq r s)))

/-- Requests outstanding to a domain (PWR_DOM_STAT.OUTSTANDING). -/
def outstanding (n : Nat) (s : State) : Nat := (openTo n s).length

/-- A request changed. -/
def modReq (id : Nat) (f : NocReq → NocReq) (s : State) : State :=
  { s with noc := { s.noc with reqs := s.noc.reqs.map (fun r => if r.id = id then f r else r) } }

/-- A target answers a request: the response of one whose agent is gone is discarded with its entry (R387, R398). -/
def nocAnswer (id : Nat) (st : Status) (v : Nat) (b : List Byte) (s : State) : State :=
  let s := modReq id (fun r =>
    { r with phase := .done, status := if r.poison && st == .done then .poison else st, value := v, bytes := b }) s
  { s with noc := { s.noc with reqs := s.noc.reqs.filter (fun r => !(r.id == id && r.gone && !r.lost)) } }

/-- Every request outstanding to a domain completes with FAULT (R52, R102). -/
def nocFault (n : Nat) (s : State) : State :=
  forEach (openTo n s) (fun r t =>
    nocAnswer r.id .fault 0 [] { t with hbm := { t.hbm with queue := t.hbm.queue.filter (fun h => h.seq != r.id || h.src != r.agent.init.val) } }) s

/-- The responses to a reset control core's earlier requests are discarded at its port (R398). -/
def nocCoreReset (c : Nat) (s : State) : State :=
  let l := s.noc.reqs.map (fun r => if r.agent.init.val = c then { r with gone := true } else r)
  { s with noc := { s.noc with reqs := l.filter (fun r => !(r.agent.init.val == c && r.phase == .done && !r.lost)) } }

/-- The ingress entries of the target ports that lie in a domain are returned (R398). -/
def ingressReturned (n : Nat) (s : State) : State :=
  let inIt (t : Nat) : Bool :=
    if t < 4 then n == 64 || n == 65 else if t < 8 then false else if t < 24 then n == 86 + (t - 8) / 2 else n + 32 == t && decide (n < 16)
  { s with noc := { s.noc with resv := s.noc.resv.filter (fun p => !inIt (p.1 % 256)) } }

/-- The progress counts of the requesters of some initiators are cleared (R398). -/
def progressCleared (p : Nat → Bool) (s : State) : State :=
  { s with noc := { s.noc with arbs := s.noc.arbs.map (fun a => { a with reqs := a.reqs.map (fun r =>
      match r.init with
      | some i => if p i then { r with progress := 0, keep := none } else r
      | none => r) }) } }

/-! ### HBM requests (R344 to R349) -/

/-- The bytes of read lines, or the status of written ones: what serving one queued request gives. -/
def hbmServe (r : HbmReq) (s : State) : Status × List Byte × State :=
  match r.write with
  | none => linesFor r.src (r.addr / 64) r.regions s
  | some b =>
    let x := putLinesFor r.src (r.addr / 64) (if r.lines = 1 then r.be else 2 ^ 64 - 1) r.regions b s
    (x.1, [], x.2)

/-- HBM_REQUEST_ISSUE (R347, R349): the request that the tiers choose, unless the cap of the 1 µs window would be passed. An
upset strikes a word of the line as it is read. -/
def execHbmRequestIssue (upset : Option WordUpset) (newWindow : Bool) (s : State) : Out :=
  let s1 := if newWindow then { s with hbm := { s.hbm with moved := [] } } else s
  match hbmPick s1 with
  | none => ok s1
  | some r =>
    if (hbmRefuses s1).isSome ∨ movedAll s1 + 64 * r.lines > hbmCap s1 then ok s1
    else
      let t := { s1 with hbm := { s1.hbm with queue := s1.hbm.queue.filter (fun x => x.id != r.id) } }
      let t := match upset with
        | some u => strikeWord (r.addr / 64 + u.line.val % r.lines) u t
        | none => t
      let x := hbmServe r (countMoved r.cls r.lines t)
      ok (nocAnswer r.seq x.1 0 x.2.1 x.2.2)

/-! ### Link errors, credits and timeouts -/

/-- The request a packet reference names. -/
def reqOf (p : PktRef) (s : State) : Option NocReq :=
  s.noc.reqs.find? (fun r => r.agent.init == p.init && r.target == p.target && r.seq == p.seq)

/-- A poisoned packet (R383): a write not yet at its target is aborted and answered POISON. -/
def poisonReq (r : NocReq) (s : State) : State :=
  let wr := r.pkt.op == .wr || r.pkt.op == .wrp || r.pkt.op == .regwr
  if wr then
    if nocOpen r then nocAnswer r.id .poison 0 []
      { s with hbm := { s.hbm with queue := s.hbm.queue.filter (fun h => h.seq != r.id || h.src != r.agent.init.val) } }
    else s
  else modReq r.id (fun x => { x with poison := true, status := if x.phase = .done then .poison else x.status }) s

/-- LINK_ERROR (R383): a single-bit error is corrected; a header error discards the packet, a data error poisons it. -/
def execLinkError (k : Fin 36) (d : Fin 4) (e : LinkErr) (p : Option PktRef) (s : State) : Out :=
  let tell (x : Nat) (t : State) : State := raise 0x0E05 [⟨1, k.val⟩, ⟨1, d.val⟩, ⟨1, x⟩] t
  let r := match p with
    | some q => reqOf q s
    | none => none
  match e, r with
  | .single, _ => ok s
  | .header, some x =>
    ok (tell 0 (modReq x.id (fun y => { y with lost := true })
      { s with hbm := { s.hbm with queue := s.hbm.queue.filter (fun h => h.seq != x.id || h.src != x.agent.init.val) } }))
  | .header, none => ok (tell 0 s)
  | .data, some x => ok (tell 1 (poisonReq x s))
  | .data, none => ok (tell 1 s)

/-- Ingress entries of a target that an initiator's requests occupy. -/
def entriesUsed (i t : Nat) (s : State) : Nat :=
  (s.noc.reqs.filter (fun r => nocOpen r && r.agent.init.val == i && r.target == t)).length

/-- Ingress entries reserved for a target by all initiators. -/
def entriesReserved (t : Nat) (s : State) : Nat := (List.range 64).foldl (fun n i => n + spGet (256 * i + t) s.noc.resv) 0

/-- CREDIT_IDLE_RETURN (R386): the entries an initiator keeps for reuse return after 1 µs idle. -/
def execCreditIdleReturn (i : Fin 64) (t : Nat) (s : State) : Out :=
  ok (if t < 256 then { s with noc := { s.noc with resv := spSet (256 * i.val + t) (entriesUsed i.val t s) s.noc.resv } } else s)

/-- NOC_TIMEOUT (R387): the initiator's oldest request without an answer is answered TIMEOUT. -/
def execNocTimeout (i : Fin 64) (s : State) : Out :=
  match s.noc.reqs.find? (fun r => r.agent.init == i && !r.gone && (nocOpen r || r.lost)) with
  | none => ok s
  | some r =>
    let t := modReq r.id (fun x => { x with gone := true }) s
    let t := nocTold i.val .timeout t
    let t := if i = 50 then { t with dbg := { t.dbg with dapDone := true, dapStatus := 7 } } else t
    ok (answer .timeout (raiseOnce 0x0E04 i.val [⟨1, i.val⟩, ⟨1, targetRouter r.target⟩, ⟨1, r.target % 8⟩] t))

/-! ### Maintenance (R388, R390) -/

/-- Who may write NOC_CTL, NOC_RTR_CTL and the arbiter registers (R390). -/
def nocWriter (a : Agent) : Bool := a.core01 || a.fieldIM

/-- A write of NOC_CTL: TMO not 0. -/
def wrNocCtl (a : Agent) (v : Nat) (s : State) : Status × State :=
  if !nocWriter a then (.denied, s) else if NOC_CTL_TMO.of v = 0 then (.range, s) else (.done, writeFlds NOC_CTL_fields v s)

/-- A write of NOC_RTR_CTL(k): MAINT of routers 0 and 6 never changes, LINK_DIS changes only in MAINTENANCE. -/
def wrRtrCtl (a : Agent) (k v : Nat) (s : State) : Status × State :=
  let m := (NOC_RTR_CTL_MAINT k).hit v
  let st := routerState k s
  if !nocWriter a then (.denied, s)
  else if s.changes (NOC_RTR_CTL_MAINT k) v && (k == 0 || k == 6) then (.range, s)
  else if s.changes (NOC_RTR_CTL_LINK_DIS k) v && st != 2 then (.range, s)
  else
    let s := writeFlds (NOC_RTR_CTL_fields k) v s
    (.done,
      if m && st == 0 then s.set (NOC_RTR_STAT_STATE k) 1
      else if !m && st == 2 then
        raise 0x0E02 [⟨1, k⟩, ⟨1, s.get (NOC_RTR_CTL_LINK_DIS k)⟩] (s.set (NOC_RTR_STAT_STATE k) 0)
      else s)

/-- A write of NOC_RTR_STAT(k): ABORTED by W1C. -/
def wrRtrStat (a : Agent) (k v : Nat) (s : State) : Status × State :=
  if !nocWriter a then (.denied, s) else (.done, writeFlds (NOC_RTR_STAT_fields k) v s)

/-- No outstanding response has router k on every legal route back (R388). -/
def drained (k : Nat) (s : State) : Bool :=
  s.get (NOC_RTR_STAT_HELD k) == 0 && s.noc.reqs.all (fun r =>
    r.lost || routeExists (fun x => x == k) (agentRouter r.agent.init.val) s 10 (targetRouter r.target) &&
      targetRouter r.target != k && agentRouter r.agent.init.val != k)

/-- NOC_RTR_CTL(k) with MAINT as given and LINK_DIS as it stands. -/
def rtrNow (k m : Nat) (s : State) : Nat := 16 * s.get (NOC_RTR_CTL_LINK_DIS k) + m

/-- ROUTER_MAINT_ENTER (R388). -/
def execRouterMaintEnter (a : Agent) (k : Fin 36) (s : State) : Out := ok (answered (wrRtrCtl a k.val (rtrNow k.val 1 s) s))

/-- ROUTER_DRAINED (R388). -/
def execRouterDrained (k : Fin 36) (s : State) : Out :=
  whenOk (routerState k.val s == 1 && drained k.val s) s (raise 0x0E01 [⟨1, k.val⟩] (s.set (NOC_RTR_STAT_STATE k.val) 2))

/-- ROUTER_DRAIN_ABORT (R388): 100 µs pass first; a drain that is complete by then wins (R95). -/
def execRouterDrainAbort (k : Fin 36) (s : State) : Out :=
  whenOk (routerState k.val s == 1 && !drained k.val s) s
    (raise 0x0E03 [⟨1, k.val⟩, ⟨1, s.get (NOC_RTR_STAT_HELD k.val)⟩]
      ((s.set (NOC_RTR_STAT_STATE k.val) 0).set (NOC_RTR_STAT_ABORTED k.val) 1))

/-- ROUTER_MAINT_EXIT (R388). -/
def execRouterMaintExit (a : Agent) (k : Fin 36) (s : State) : Out := ok (answered (wrRtrCtl a k.val (rtrNow k.val 0 s) s))

/-! ### Arbiters (R392 to R397) -/

/-- Requesters of an arbiter. -/
def arbCount (x : Nat) : Nat := if x = 0 then 24 else 6

/-- The initiator number of a requester (R16, R392): none for the HBM ingress ports, the background traffic, a bank's network port and
the engines of a bank, which serve several agents or have no number. -/
def arbInitiator (x i : Nat) : Option Nat :=
  if x = 0 then
    if i < 16 then some (4 + i) else if i < 19 then some (29 + i) else none
  else if i < 4 then some i
  else if x = 17 then some (if i = 4 then 50 else 49)
  else none

/-- Arbiter x beside its registers. -/
def arb (x : Nat) (s : State) : Arbiter := (s.noc.arbs.find? (fun a => a.a == x)).getD ⟨x, [], 0, 0⟩

/-- Arbiters in rising order. -/
def arbPut (x : Arbiter) : List Arbiter → List Arbiter
  | [] => [x]
  | y :: r => if x.a < y.a then x :: y :: r else if x.a = y.a then x :: r else y :: arbPut x r

def setArb (x : Arbiter) (s : State) : State := { s with noc := { s.noc with arbs := arbPut x s.noc.arbs } }

/-- The requester that holds the grant. -/
def arbOwner (x : Nat) (s : State) : Option Nat := if s.on (ARB_STAT_BUSY x) then some (s.get (ARB_STAT_OWNER x)) else none

/-- Those that wait, the longest first. -/
def arbWaiting (x : Nat) (s : State) : List ArbReq := (arb x s).reqs.filter (·.waits)

/-- A requester changed, or listed last. -/
def modArbReq (x : Nat) (r : ArbReq) (s : State) : State :=
  let a := arb x s
  setArb { a with reqs := if a.reqs.any (fun y => y.i == r.i) then a.reqs.map (fun y => if y.i = r.i then r else y) else a.reqs ++ [r] } s

/-- A requester starts to wait, behind all others; a transaction interrupted before resumes at its progress. -/
def arbWait (x i beats : Nat) (s : State) : State :=
  let a := arb x s
  let r := (a.reqs.find? (fun y => y.i == i)).getD ⟨i, arbInitiator x i, beats, 0, none, false⟩
  let r := if r.progress = 0 then { r with beats := beats } else r
  setArb { a with reqs := a.reqs.filter (fun y => y.i != i) ++ [{ r with waits := true }] } s

/-- A requester that lost the grant waits behind all others, its transaction as it stands. -/
def arbRequeue (x i : Nat) (s : State) : State :=
  let a := arb x s
  match a.reqs.find? (fun y => y.i == i) with
  | none => s
  | some r => setArb { a with reqs := a.reqs.filter (fun y => y.i != i) ++ [{ r with waits := true }] } s

/-- Requester i is granted: for the burst it kept, or a full one. -/
def arbGrant (x i : Nat) (fair : Bool) (s : State) : State :=
  let a := arb x s
  let r := (a.reqs.find? (fun y => y.i == i)).getD ⟨i, arbInitiator x i, 0, 0, none, false⟩
  let n := r.keep.getD (s.get (ARB_ACT_BURST x i))
  let s := modArbReq x { r with waits := false, keep := none } (setArb { a with burst := n, last := i } s)
  ((s.set (ARB_STAT_OWNER x) i).set (ARB_STAT_BUSY x) 1).set (ARB_STAT_FAIR_CNT x) (if fair then 0 else s.get (ARB_STAT_FAIR_CNT x) + 1)

/-- The distance of requester i after the one last granted, for the round robin. -/
def arbAfter (x last i : Nat) : Nat := (i + arbCount x - last - 1) % arbCount x

/-- Requester y goes before z: the higher PRIO, then round robin after the last one granted. -/
def arbBefore (x last : Nat) (s : State) (y z : ArbReq) : Bool :=
  let py := s.get (ARB_ACT_PRIO x y.i)
  let pz := s.get (ARB_ACT_PRIO x z.i)
  decide (py > pz) || (py == pz && decide (arbAfter x last y.i < arbAfter x last z.i))

/-- The choice of R394 among those that wait: the fairness turn, else the highest PRIO. -/
def arbChoose (x : Nat) (s : State) : State :=
  let w := arbWaiting x s
  let n := s.get (ARB_CTL_FAIR_N x)
  let s := s.set (ARB_STAT_BUSY x) 0
  match w with
  | [] => s
  | h :: r =>
    if n ≠ 0 ∧ s.get (ARB_STAT_FAIR_CNT x) + 1 ≥ n then arbGrant x h.i true s
    else arbGrant x (r.foldl (fun b y => if arbBefore x (arb x s).last s y b then y else b) h).i false s

/-- The owner has used so many cycles of its grant: its progress. -/
def arbProgress (x i cycles : Nat) (s : State) : State :=
  match (arb x s).reqs.find? (fun y => y.i == i) with
  | none => s
  | some r => modArbReq x { r with progress := min r.beats (r.progress + cycles) } s

/-- A request (R393 to R395, R397): a free resource is granted by a choice; a pre-empting request takes the grant of an owner of
lower priority, which keeps its progress and the rest of its burst; any other waits. `held` is the cycles the owner has used. -/
def arbRequest (x i beats held : Nat) (s : State) : State :=
  match arbOwner x s with
  | none => arbChoose x (arbWait x i beats s)
  | some o =>
    if o = i ∨ (arbWaiting x s).any (fun y => y.i == i) then s
    else if (s.get (ARB_ACT_PREEMPT x i) == 1 && decide (s.get (ARB_ACT_PRIO x i) > s.get (ARB_ACT_PRIO x o)) &&
        decide (held < (arb x s).burst)) then
      let left := (arb x s).burst - held
      let s := arbRequeue x o (arbProgress x o held s)
      let s := match (arb x s).reqs.find? (fun y => y.i == o) with
        | some r => modArbReq x { r with keep := some left } s
        | none => s
      arbGrant x i false (arbWait x i beats s)
    else arbWait x i beats s

/-- The owner drops its request: its transaction is done. -/
def arbRelease (x : Nat) (s : State) : State :=
  match arbOwner x s with
  | none => s
  | some o =>
    let a := arb x s
    arbChoose x (setArb { a with reqs := a.reqs.filter (fun y => y.i != o) } s)

/-- The burst of the grant ends: an ordinary choice, the former owner among the rest. -/
def arbExpire (x : Nat) (s : State) : State :=
  match arbOwner x s with
  | none => s
  | some o => arbChoose x (arbRequeue x o (arbProgress x o (arb x s).burst s))

/-- A write of ARB_CTL: COMMIT copies the shadow settings together (R396). -/
def wrArbCtl (a : Agent) (x v : Nat) (s : State) : Status × State :=
  if !nocWriter a then (.denied, s)
  else
    let s := writeFlds (ARB_CTL_fields x) v s
    (.done, if (ARB_CTL_COMMIT x).hit v then
        raise 0x0E06 [⟨1, x⟩] (forNat (arbCount x) (fun i t =>
          ((t.set (ARB_ACT_BURST x i) (t.get (ARB_SHD_BURST x i))).set (ARB_ACT_PREEMPT x i) (t.get (ARB_SHD_PREEMPT x i))).set
            (ARB_ACT_PRIO x i) (t.get (ARB_SHD_PRIO x i))) s)
      else s)

/-- A write of ARB_SHD: BURST not 0. -/
def wrArbShd (a : Agent) (x i v : Nat) (s : State) : Status × State :=
  if !nocWriter a then (.denied, s)
  else if (ARB_SHD_BURST x i).of v = 0 then (.range, s) else (.done, writeFlds (ARB_SHD_fields x i) v s)

/-- ARB_REQUEST (R393 to R395). -/
def execArbRequest (x : Fin 18) (i : Fin 24) (beats held : Nat) (s : State) : Out :=
  whenOk (decide (i.val < arbCount x.val)) s (arbRequest x.val i.val beats held s)

/-- ARB_RELEASE (R393). -/
def execArbRelease (x : Fin 18) (s : State) : Out := ok (arbRelease x.val s)

/-- ARB_BURST_EXPIRY (R393, R397). -/
def execArbBurstExpiry (x : Fin 18) (s : State) : Out := ok (arbExpire x.val s)

/-- ARB_COMMIT (R396): FAIR_N as it stands. -/
def execArbCommit (a : Agent) (x : Fin 18) (s : State) : Out :=
  ok (answered (wrArbCtl a x.val (256 * s.get (ARB_CTL_FAIR_N x.val) + 1) s))

/-! ### Hooks -/

/-- The statistics of the frame become those of the last completed frame (R391). -/
def nocTick (s : State) : State :=
  let n := s.noc
  let s := forNat 64 (fun i t =>
    let mean := if spGet i n.latN = 0 then 0 else spGet i n.latSum / spGet i n.latN
    (((((t.set (NOC_STAT_A_REQS i) (min (spGet i n.cntReqs) (2 ^ 32 - 1))).set (NOC_STAT_A_FLITS i) (min (spGet i n.cntFlits) (2 ^ 32 - 1))).set
      (NOC_STAT_B_RETRIES i) (min (spGet i n.cntRetry) 65535)).set (NOC_STAT_B_TIMEOUTS i) (min (spGet i n.cntTmo) 65535)).set
      (NOC_STAT_B_LAT_MAX i) (min (spGet i n.latMax) 65535)).set (NOC_STAT_B_LAT_MEAN i) (min mean 65535)) s
  { s with noc := { s.noc with cntReqs := [], cntFlits := [], cntRetry := [], cntTmo := [], latSum := [], latMax := [], latN := [] } }

end Sys2Proof.Machine
end

