-- ==== Sys2Proof/Machine/Slice.lean ====
section
/-! DEFINITION. The arithmetic slices of the fabric and their cascades (R129, R130): what one clock of a slice, and of a column, does. -/
namespace Sys2Proof.Machine

/-- How an image configures a slice (R129): the signs of its operands, whether the product is subtracted, whether it is added to the
cascade input in place of the accumulator, the bit k at which the output is rounded and truncated, saturation, and which of the
three optional registers are used. -/
structure SliceCfg where
  aSigned : Bool
  bSigned : Bool
  subtract : Bool
  fromCascade : Bool
  round : Option Nat
  saturate : Bool
  regIn : Bool
  regProduct : Bool
  regAcc : Bool
  deriving DecidableEq, Repr

/-- A 24-bit operand as a number. -/
def sliceOperand (signed : Bool) (x : Nat) : Int := if signed then sext 24 (x % 2 ^ 24) else ((x % 2 ^ 24 : Nat) : Int)

/-- The 48-bit product of two operands. -/
def sliceProduct (g : SliceCfg) (a b : Nat) : Nat := wrap 48 (sliceOperand g.aSigned a * sliceOperand g.bSigned b)

/-- A 56-bit result: wrapped, or clamped to the largest or smallest value. -/
def sliceFit (g : SliceCfg) (x : Int) : Nat := wrap 56 (if g.saturate then satInt 56 x else x)

/-- The product, sign-extended, added to a 56-bit value or subtracted from it. -/
def sliceAdd (g : SliceCfg) (base product : Nat) : Nat :=
  let p := sext 48 (product % 2 ^ 48)
  sliceFit g (sext 56 (base % 2 ^ 56) + (if g.subtract then -p else p))

/-- The output of a 56-bit sum: 2^(k − 1) is added and the bits below bit k are cut off, for k = 1 to 55. -/
def sliceOut (g : SliceCfg) (x : Nat) : Nat :=
  match g.round with
  | none => x
  | some k => if 1 ≤ k ∧ k ≤ 55 then let y := sliceFit g (sext 56 x + 2 ^ (k - 1)); y - y % 2 ^ k else x

/-- One clock of a slice: its registers afterwards, and its output. A cascade input is what the slice below registered one cycle ago
(R130). -/
def sliceClock (g : SliceCfg) (st : SliceSt) (a b cascadeIn : Nat) : SliceSt × Nat :=
  let product := if g.regIn then sliceProduct g st.a st.b else sliceProduct g a b
  let sum := sliceAdd g (if g.fromCascade then cascadeIn else if g.regAcc then st.acc else 0) (if g.regProduct then st.product else product)
  let out := sliceOut g (if g.regAcc then st.acc else sum)
  (⟨a % 2 ^ 24, b % 2 ^ 24, product, sum, sliceOut g sum⟩, out)

/-- One clock of a column: each slice, from the lowest up, takes the cascade output that the slice below it held (R130). The lowest has
cascade input 0, and the highest one's output leads nowhere. -/
def columnClock : Nat → List (SliceCfg × SliceSt × Nat × Nat) → List (SliceSt × Nat)
  | _, [] => []
  | c, (g, st, a, b) :: l => sliceClock g st a b c :: columnClock st.cascade l

/-- The slices of a column, through all of which its cascade runs (R130). -/
def columnSlices : Nat := 48

/-- Clocks from operands to output with the registers that a slice uses: 3 with all three (R129). -/
def sliceLatency (g : SliceCfg) : Nat :=
  (if g.regIn then 1 else 0) + (if g.regProduct then 1 else 0) + (if g.regAcc then 1 else 0)

end Sys2Proof.Machine
end

