-- ==== Sys2Proof/Machine/Fabric.lean ====
section
/-! DEFINITION. The fabric: its resources, flip-flops, border signals and clocks, block memories with their error correction and
scrubbers, the areas' target ports, and the engine ports (chapter 06). What an installer's own logic does is no rule of the spec: it
comes in as operands (what a port answers, reads or writes), and what it leaves in flip-flops and slices is free
(notes/assumptions/22.md). -/
namespace Sys2Proof.Machine

/-! ### Areas -/

/-! REG_STAT.STATE codes. -/
def regInvalid : Nat := 0
def regLoading : Nat := 1
def regValid : Nat := 2
def regHeld : Nat := 3

/-- Some region domain is ON, so that the static region's clocks run (R119). -/
def anyRegionOn (s : State) : Bool := (List.range 16).any (fun r => domOn r s)

/-- The FAB gates of a region are open: they follow the gate of its domain and the loader (R131, R149). -/
def fabClocked (n : Nat) (s : State) : Bool := !s.on (CLK_GATE_CLOSED n) && !decide (n ∈ s.fab.gates)

/-- The area's logic is loaded and clocked: a VALID or HELD region whose domain is ON, or in LOWERING and completing what it has
accepted (R52), or the VALID static region while some region domain is ON (R119, R131). -/
def fabRuns (n : Nat) (s : State) : Bool :=
  let st := s.get (REG_STAT_STATE n)
  if n < 16 then (domOn n s || domState n s == 3) && fabClocked n s && (st == regValid || st == regHeld)
  else anyRegionOn s && st == regValid

/-! Working resources of an area (R117): a static region and regions. -/
def logicColumns (n : Nat) : Nat := if n < 16 then 40 else 80
def cellsPerColumn (n : Nat) : Nat := if n < 16 then 7000 else 9000
def logicCells (n : Nat) : Nat := logicColumns n * cellsPerColumn n
def bramColumns (n : Nat) : Nat := if n < 16 then 4 else 8
def arithColumns (n : Nat) : Nat := if n < 16 then 9 else 16
def arithSlices (n : Nat) : Nat := columnSlices * arithColumns n
def spareColumns (n : Nat) : Nat := if n < 16 then 1 else 2

/-- Block memories of an area (R117). -/
def bramCount (n : Nat) : Nat := 160 * bramColumns n

/-- Columns whose tables may be distributed memory or shift registers (R121). -/
def dynamicColumn (c : Nat) : Bool := c % 4 == 3

/-- The physical column of a logical one (R128): one further along for each skipped column at or before it. -/
def physColumn (n c : Nat) (s : State) : Nat :=
  let a := s.get (FAB_SPARE_LCOL_A n)
  let b := s.get (FAB_SPARE_LCOL_B n)
  let lo := min a b
  let hi := max a b
  let c := if lo ≠ 0xFF ∧ lo ≤ c then c + 1 else c
  if hi ≠ 0xFF ∧ hi ≤ c then c + 1 else c

/-! ### Flip-flops and slices (R79, R120, R137) -/

/-- Flip-flops of an area: two in each logic cell; eight cells form a tile (R120). -/
def flopCount (n : Nat) : Nat := 2 * logicCells n
def flopTile (i : Nat) : Nat := i / 16

/-- The image that loaded an area, by its DIGEST. -/
def areaImage (n : Nat) (s : State) : Nat := spGet n s.ldr.digest

/-- The FAB clock of a flip-flop's tile. -/
def flopClock (n i : Nat) (s : State) : Nat := Config.tileClock (areaImage n s) n (flopTile i) % 4

/-- What a flip-flop of an area holds: its initial value, the value its reset gives it, or what the area's logic has made of it. -/
def flipFlop (n i : Nat) (s : State) : Bool :=
  let x := Config.flopBits (areaImage n s) n i
  if 4 * n + flopClock n i s ∈ s.fab.flopForced then bit x 1
  else if n ∈ s.fab.flopFresh then bit x 0
  else Config.flopRaw n (spGet n s.fab.logicRuns) i

/-- What the registers of an area's slice hold. -/
def sliceHeld (n c r : Nat) (s : State) : SliceSt :=
  let f (k : Nat) : Nat := Config.sliceRaw n (spGet n s.fab.logicRuns) (columnSlices * c + r) k
  ⟨f 0 % 2 ^ 24, f 1 % 2 ^ 24, f 2 % 2 ^ 48, f 3 % 2 ^ 56, f 4 % 2 ^ 56⟩

/-- Every flip-flop of an area takes its initial value (R120). -/
def flopsInitial (n : Nat) (s : State) : State :=
  { s with fab := { s.fab with
      flopFresh := if n ∈ s.fab.flopFresh then s.fab.flopFresh else s.fab.flopFresh ++ [n]
      flopForced := s.fab.flopForced.filter (fun x => x / 4 != n)
      logicRuns := spSet n (spGet n s.fab.logicRuns + 1) s.fab.logicRuns } }

/-- A forced switch of FAB clock i resets all fabric logic that it clocks (R79). -/
def flopsForced (i : Nat) (s : State) : State :=
  { s with fab := { s.fab with flopForced :=
      (s.fab.flopForced.filter (fun x => x % 4 != i)) ++ ((List.range 17).filter (fun n => fabRuns n s)).map (fun n => 4 * n + i) } }

/-- The area's logic acts: its flip-flops and slices hold what it makes of them from now on. -/
def logicActs (n : Nat) (s : State) : State :=
  { s with fab := { s.fab with
      flopFresh := s.fab.flopFresh.erase n
      flopForced := s.fab.flopForced.filter (fun x => x / 4 != n)
      logicRuns := spSet n (spGet n s.fab.logicRuns + 1) s.fab.logicRuns } }

/-! ### Border signals (R118, R152) -/

/-- Ports of 32 border signals of a region: 64 inward (0 to 63) and 64 outward (64 to 127). -/
def borderPorts : Nat := 128

/-- The ISO_HOLD choice of a port as the register holds it: 16 ports to a word, inward ones in words 0 to 3, outward ones in 4 to 7. -/
def isoWanted (r p : Nat) (s : State) : Nat := bits (s.get (ISO_HOLD_CHOICE r (p / 16))) (2 * (p % 16)) 2

/-- Isolation engages on every border port, unless it stands already: each choice is in force from now on (R152, R153). -/
def bordersHeld (r : Nat) (s : State) : State :=
  if s.on (REG_STAT_ISO r) then s
  else { s with fab := { s.fab with
      isoChoice := (List.range borderPorts).foldl (fun m p => spSet (borderPorts * r + p) (isoWanted r p s) m) s.fab.isoChoice
      isoDraw := spSet r (spGet r s.fab.isoDraw + 1) s.fab.isoDraw } }

/-- The 32 signals that an engaged isolation port holds; none where the port passes what is driven into it. -/
def borderValue (r p : Nat) (s : State) : Option Nat :=
  if !s.on (REG_STAT_ISO r) then none
  else
    let c := spGet (borderPorts * r + p) s.fab.isoChoice
    some (if c = 1 then 0 else if c = 2 then 2 ^ 32 - 1 else Config.borderLast r (spGet r s.fab.isoDraw) p % 2 ^ 32)

/-- A boot load of the full image sets every ISO_HOLD from the border-control frames (R152). -/
def isoFromImage (s : State) : State :=
  forNat 16 (fun r t => forNat 8 (fun k u => u.set (ISO_HOLD_CHOICE r k)
    ((List.range 16).foldl (fun v i => v + Config.borderControl (areaImage 16 s) r (16 * k + i) % 3 * 4 ^ i) 0)) t) s

/-! ### Skipped bit columns (R127) -/

/-- The physical bit column that a memory's fuse skips, plus 1; 0 none. -/
def bramSkip (n m : Nat) (s : State) : Nat :=
  if spGet (2048 * n + m) s.fab.skips ≠ 0 then spGet (2048 * n + m) s.fab.skips else Config.makerFuse n m % 74

/-- The physical bit column that holds a memory's logical column b. -/
def bramColumn (n m b : Nat) (s : State) : Nat := if bramSkip n m s ≠ 0 ∧ bramSkip n m s ≤ b + 1 then b + 1 else b

/-- A load of an area takes the fuses set since: each such memory's contents are undefined (R127). -/
def fusesTake (n : Nat) (s : State) : State :=
  let l := s.fab.skipsDue.filter (fun p => p.1 / 2048 == n)
  forEach l (fun p t => { t with fab := { t.fab with
    skips := spSet p.1 p.2 t.fab.skips
    words := spClear (32768 * p.1) (32768 * (p.1 + 1)) t.fab.words
    errs := spClear (32768 * p.1) (32768 * (p.1 + 1)) t.fab.errs
    raw := spSet p.1 (spGet n t.fab.logicRuns + 1) t.fab.raw } })
    { s with fab := { s.fab with skipsDue := s.fab.skipsDue.filter (fun p => p.1 / 2048 != n) } }

/-! ### Block memories (R122 to R126) -/

/-- Words and bits of a mode (the table above R122); 0 words where no image configures the memory. -/
def bramWords (mode : Nat) : Nat :=
  if mode = 0 then 0 else if mode ≤ 3 then 2 ^ (16 - mode) else if mode ≤ 6 then 2 ^ (16 - mode) else 512
def bramBits (mode : Nat) : Nat := ([0, 1, 2, 4, 9, 18, 36, 72, 64][mode]?).getD 0

/-- The key of a memory and of one of its words. -/
def bramKey (n m : Nat) : Nat := 2048 * n + m
def bramWordKey (n m w : Nat) : Nat := 32768 * bramKey n m + w

/-- The mode of a memory. -/
def bramMode (n m : Nat) (s : State) : Nat := spGet (bramKey n m) s.fab.modes

/-- A stored word: what is listed, or what stands for words that a fuse change left undefined (R127). -/
def bramWord (n m w : Nat) (s : State) : Nat :=
  let d := spGet (bramKey n m) s.fab.raw
  spGetD (if d = 0 then 0 else Config.rawWord (2 ^ 32 + d) (bramWordKey n m w) % 2 ^ bramBits (bramMode n m s)) (bramWordKey n m w) s.fab.words

/-- What a mode-8 word reads as with the wrong bits `e`: the flags corrected and uncorrectable, and the data (R122). -/
def bramSense (data e : Nat) : Bool × Bool × Nat :=
  let d := e % 2 ^ 64
  let c := e / 2 ^ 64
  if flipFinds d c = 1 then (true, false, Nat.xor data (flipResidue d c))
  else (false, flipFinds d c == 2, Nat.xor data d)

/-- Wrong bits that strike a stored word. -/
def bramStrike (k x : Nat) (s : State) : State :=
  { s with fab := { s.fab with errs := spSet k (Nat.xor (spGet k s.fab.errs) (x % 2 ^ 72)) s.fab.errs } }

/-- A corrected word waits for its write-back (R122, R124). -/
def bramDue (k v : Nat) (s : State) : State :=
  { s with fab := { s.fab with due := s.fab.due.filter (fun p => p.1 != k) ++ [(k, v)] } }

/-- A double-bit error counted and told (R122, R124): found by port A (0), port B (1) or the scrubber (2). -/
def bramUncorr (n m w found : Nat) (s : State) : State :=
  let s := s.count (FAB_ECC_STAT_UNCORR n) 1
  let s := { s with fab := { s.fab with uncorrTotal := spSet n (spGet n s.fab.uncorrTotal + 1) s.fab.uncorrTotal } }
  raise 0x0431 [⟨1, n⟩, ⟨2, m⟩, ⟨2, w⟩, ⟨1, found⟩] (noteSign 4 (2048 * n + m) s)

/-- A corrected error counted (R125). -/
def bramCorr (n : Nat) (s : State) : State :=
  bucketHit (FAB_ECC_STAT_CORR n) (FAB_ECC_STAT_LEVEL n) (FAB_ECC_STAT_OVERFLOW n) (FAB_ECC_CTL_BUCKET n) 0x0430 [⟨1, n⟩]
    { s with fab := { s.fab with corrFrame := spSet n (spGet n s.fab.corrFrame + 1) s.fab.corrFrame } }

/-- A mode-8 word checked as it is read by a port or the scrubber. -/
def bramCheck (n m w found : Nat) (s : State) : Bool × Bool × Nat × State :=
  let k := bramWordKey n m w
  let x := bramSense (bramWord n m w s) (spGet k s.fab.errs)
  if x.1 then (true, false, x.2.2, bramDue k x.2.2 (bramCorr n s))
  else if x.2.1 then (false, true, x.2.2, bramUncorr n m w found s)
  else (false, false, x.2.2, s)

/-- A word stored with the wrong bits `e`; a write-back of it that was due is discarded (R123). In a memory with undefined words
every value stored is listed. -/
def bramStore (k v e : Nat) (s : State) : State :=
  let words := if spGet (k / 32768) s.fab.raw = 0 then spSet k v s.fab.words else spPut k v s.fab.words
  { s with fab := { s.fab with words := words, errs := spSet k e s.fab.errs, due := s.fab.due.filter (fun p => p.1 != k) } }

/-- One port's write: an armed flip of its mode-8 memory is consumed (R126). -/
def bramWrite1 (n m mode : Nat) (x : BramWr) (s : State) : State :=
  let k := bramWordKey n m x.word
  let v := x.data % 2 ^ bramBits mode
  if bramWords mode ≤ x.word then s
  else if mode = 8 ∧ s.on (FAB_FLIP_CTL_ARM n) ∧ s.get (FAB_FLIP_CTL_MEM n) = m then
    bramStore k v (s.get (FAB_FLIP_DATA_DMASK n) + s.get (FAB_FLIP_CTL_CMASK n) * 2 ^ 64) (s.set (FAB_FLIP_CTL_ARM n) 0)
  else bramStore k v 0 s

/-- The memories of an area in mode 8, in rising order. -/
def scrubbed (n : Nat) (s : State) : List Nat :=
  (s.fab.modes.filter (fun p => p.2 == 8 && p.1 / 2048 == n)).map (fun p => p.1 % 2048)

/-- The scrubber goes on from the place `p`; past the last mode-8 word a pass is complete (R124). -/
def scrubOn (n p : Nat) (s : State) : State :=
  let s := { s with fab := { s.fab with tries := spDel n s.fab.tries } }
  if (scrubbed n s).any (fun m => decide (p < 512 * (m + 1))) then
    { s with fab := { s.fab with scrubAt := spSet n p s.fab.scrubAt } }
  else { s.set (FAB_ECC_STAT_PASSES n) (s.get (FAB_ECC_STAT_PASSES n) + 1) with
         fab := { s.fab with scrubAt := spDel n s.fab.scrubAt } }

/-- The scrubber's next word: its place (512 × memory + word). -/
def scrubNext (n : Nat) (s : State) : Option Nat :=
  let p := spGet n s.fab.scrubAt
  match (scrubbed n s).find? (fun m => decide (p < 512 * (m + 1))) with
  | some m => some (max p (512 * m))
  | none => ((scrubbed n s).head?).map (512 * ·)

/-- An attempt of the scrubber (R124): it checks the word in a free cycle, and skips it after 256 attempts without one. -/
def scrubWord (n p strike : Nat) (free : Bool) (s : State) : State :=
  let m := p / 512
  let w := p % 512
  if free then
    scrubOn n (p + 1) (bramCheck n m w 2 (bramStrike (bramWordKey n m w) strike s)).2.2.2
  else if spGet n s.fab.tries + 1 ≥ 256 then
    scrubOn n (p + 1) (raise 0x0434 [⟨1, n⟩, ⟨2, m⟩, ⟨2, w⟩] (s.set (FAB_ECC_STAT_SKIP n) 1))
  else { s with fab := { s.fab with tries := spSet n (spGet n s.fab.tries + 1) s.fab.tries } }

/-- BRAM_READ (R122, R123): a port reads a word, and in the same cycle the other port writes what `x.other` says; the read of a word
that is written returns the old data. The answer's bytes say corrected (1) or uncorrectable (2). -/
def execBramRead (n : Fin 17) (m : Nat) (p : Port) (x : BramRd) (strike : Nat) (s : State) : Out :=
  let w := x.word
  let mode := bramMode n.val m s
  let found := match p with | .a => 0 | .b => 1
  let wr (t : State) : State := logicActs n.val (match x.other with | some y => bramWrite1 n.val m mode y t | none => t)
  if !fabRuns n.val s ∨ bramCount n.val ≤ m ∨ bramWords mode ≤ w then ok s
  else if mode ≠ 8 then ok (wr { s with resp := ⟨.done, bramWord n.val m w s, [0]⟩ })
  else
    let r := bramCheck n.val m w found (bramStrike (bramWordKey n.val m w) strike s)
    ok (wr { r.2.2.2 with resp := ⟨.done, r.2.2.1, [if r.1 then 1 else if r.2.1 then 2 else 0]⟩ })

/-- BRAM_WRITE (R123, R126): the writes of one cycle; of two to one word port A's is stored. -/
def execBramWrite (n : Fin 17) (m : Nat) (pa pb : Option BramWr) (s : State) : Out :=
  let mode := bramMode n.val m s
  whenOk (fabRuns n.val s && decide (m < bramCount n.val)) s
    (logicActs n.val <| match pa, pb with
    | none, none => s
    | some x, none => bramWrite1 n.val m mode x s
    | none, some y => bramWrite1 n.val m mode y s
    | some x, some y => if x.word = y.word then bramWrite1 n.val m mode x s else bramWrite1 n.val m mode y (bramWrite1 n.val m mode x s))

/-- BRAM_WRITEBACK (R122, R123): a cycle in which neither port addresses the corrected word. -/
def execBramWriteback (n : Fin 17) (m w : Nat) (s : State) : Out :=
  match s.fab.due.find? (fun p => p.1 == bramWordKey n.val m w) with
  | some p => ok (bramStore p.1 p.2 0 s)
  | none => ok s

/-- BRAM_SCRUB_WORD (R124, R125). -/
def execBramScrubWord (n : Fin 17) (free : Bool) (strike : Nat) (s : State) : Out :=
  match scrubNext n.val s with
  | none => ok s
  | some p => whenOk (fabRuns n.val s && s.get (FAB_ECC_CTL_SCRUB_RATE n.val) != 0) s (scrubWord n.val p strike free s)

/-! ### Registers -/

/-- A write of FAB_ECC_CTL: BUCKET not 0. -/
def wrFabEccCtl (n v : Nat) (s : State) : Status × State :=
  if (FAB_ECC_CTL_BUCKET n).of v = 0 then (.range, s) else (.done, writeFlds (FAB_ECC_CTL_fields n) v s)

/-- A write of FAB_FLIP_CTL: no memory beyond the area's, and none armed that is not in mode 8 (R126). -/
def wrFabFlip (n v : Nat) (s : State) : Status × State :=
  let m := (FAB_FLIP_CTL_MEM n).of v
  if bramCount n ≤ m ∨ ((FAB_FLIP_CTL_ARM n).hit v ∧ bramMode n m s ≠ 8) then (.range, s)
  else (.done, writeFlds (FAB_FLIP_CTL_fields n) v s)

/-- FLIP_ARM (R126). -/
def execFlipArm (_a : Agent) (n : Fin 17) (v : Nat) (s : State) : Out := ok (answered (wrFabFlip n.val v s))

/-! ### Engine ports (R135, R136) -/

/-- Levels of the FIFOs of sequencer q. -/
def dinLevel (q : Nat) (s : State) : Nat := min 512 (keyed q s.ports.din).length
def tapLevel (q : Nat) (s : State) : Nat := (keyed q s.ports.tap).length

/-- Writes that hold a word at a region's port end with it (R151). -/
def dinRelease (q : Nat) (s : State) : State :=
  { s with ports := { s.ports with din := putKeyed q ((keyed q s.ports.din).take 512) s.ports.din } }

/-- TAP_DRAIN (R135): fabric logic takes so many entries. -/
def execTapDrain (q : Fin 16) (count : Nat) (s : State) : Out :=
  let t := tapFlush q.val s
  let l := keyed q.val t.ports.tap
  whenOk (fabRuns q.val s && !s.on (REG_STAT_ISO q.val)) s
    (answerBytes ((l.take count).flatMap (toBytes 16))
      (logicActs q.val { t with ports := { t.ports with tap := putKeyed q.val (l.drop count) t.ports.tap } }))

/-- DATA_IN_WRITE (R136, R151): accepted while DIN_EN is 1 and the region is ON and not isolated; held while the FIFO is
full. -/
def execDataInWrite (q : Fin 16) (word : Nat) (s : State) : Out :=
  whenOk (s.on (FAB_PORT_CTL_DIN_EN q.val) && fabRuns q.val s && !s.on (REG_STAT_ISO q.val)) s
    (logicActs q.val { s with ports := { s.ports with din := putKeyed q.val (keyed q.val s.ports.din ++ [word % 2 ^ 64]) s.ports.din } })

/-! ### Target ports (R134, R151) -/

/-- A load waits for the requests that the area has accepted (R149). -/
def areaDrains (n : Nat) (s : State) : Bool :=
  match s.ldr.job with
  | some j => j.phase == .draining && j.region == n
  | none => false

/-- What an area answers without its logic: ASLEEP, FAULT or RETRY; none where fabric logic answers (R149, R151). -/
def areaRefuses (n : Nat) (s : State) : Option Status :=
  let st := s.get (REG_STAT_STATE n)
  match (if n < 16 then domRefuses n s else none) with
  | some x => some x
  | none => if st = regInvalid then some .fault else if st = regValid ∧ !areaDrains n s then none else some .retry

/-- A status that fabric logic can answer with. -/
def fabStatus (st : Status) : Bool := st == .done || st == .fault || st == .denied || st == .range || st == .retry

/-- The oldest request for an area's target port that is not answered. -/
def portReq (n : Nat) (s : State) : Option NocReq :=
  s.noc.reqs.find? (fun r => r.target == 32 + n && !r.lost && (r.phase == .sent || r.phase == .port))

/-- An answer reaches the request at a port, with the bytes read: the NoC's, or the access that no NoC request carries. -/
def portAnswer (n : Nat) (st : Status) (b : List Byte) (s : State) : State :=
  match portReq n s with
  | some r => nocAnswer r.id st (ofBytes (b.take 8)) b s
  | none => { s with resp := ⟨st, ofBytes (b.take 8), b⟩, fab := { s.fab with asked := s.fab.asked.erase n } }

/-- The next access of the port is one that it has accepted already. -/
def portAccepted (n : Nat) (s : State) : Bool :=
  match portReq n s with
  | some r => r.phase == .port
  | none => decide (n ∈ s.fab.asked)

/-- A request stands at the port until fabric logic answers. -/
def portOpen (n : Nat) (s : State) : State :=
  match portReq n s with
  | some r => modReq r.id (fun x => { x with phase := .port }) s
  | none => { s with fab := { s.fab with asked := if n ∈ s.fab.asked then s.fab.asked else s.fab.asked ++ [n] } }

/-- An access presented to an area's target port with what fabric logic answers, if it does. -/
def portPresent (n : Nat) (x : Option FabAnswer) (s : State) : State :=
  match (if portAccepted n s then none else areaRefuses n s) with
  | some st => portAnswer n st [] s
  | none =>
    match x with
    | none => portOpen n s
    | some f => if fabRuns n s && fabStatus f.status then logicActs n (portAnswer n f.status (f.data.take 256) s) else portOpen n s

/-- TARGET_PORT_REQUEST (R134, R151): the oldest unanswered request of the port. -/
def execTargetPortRequest (n : Fin 17) (addr : Nat) (x : Option FabAnswer) (s : State) : Out :=
  whenOk (targetOf addr == some (32 + n.val)) s (portPresent n.val x s)

/-- A request stands at the port. -/
def portBusy (n : Nat) (s : State) : Bool :=
  s.noc.reqs.any (fun r => r.target == 32 + n && !r.lost && r.phase == .port) || n ∈ s.fab.asked

/-- TARGET_PORT_TIMEOUT (R134): 100 µs without an answer. -/
def execTargetPortTimeout (n : Fin 17) (s : State) : Out := whenOk (portBusy n.val s) s (portAnswer n.val .timeout [] s)

/-- Every request that an area's port has accepted completes with FAULT (R52, R149); one that it has not is answered as it comes. -/
def portFault (n : Nat) (s : State) : State :=
  let t := forEach (s.noc.reqs.filter (fun r => r.target == 32 + n && nocOpen r && r.phase == .port)) (fun r u => nocAnswer r.id .fault 0 [] u) s
  if n ∈ s.fab.asked then { t with resp := ⟨.fault, 0, []⟩, fab := { t.fab with asked := t.fab.asked.erase n } } else t

/-! ### Hooks -/

/-- The tick and the frame count reach every clocked area, whose logic goes on (R132). -/
def fabReceivesTick (s : State) : State :=
  forNat 17 (fun n t => if fabRuns n t then
      logicActs n { t with fab := { t.fab with frames := spSet n (frameCount t + 1) t.fab.frames } } else t) s

/-- A tick: the leaks, the tap drops of the frame, the per-frame counts, the tick that areas receive (R125, R132, R135, R141). -/
def fabTick (s : State) : State :=
  let s := fabReceivesTick s
  let s := forNat 17 (fun n t => bucketLeak (FAB_ECC_STAT_LEVEL n) (FAB_ECC_CTL_LEAK n) t) s
  let s := forEach s.ports.dropFrame (fun p t => raise 0x0432 [⟨1, p.1⟩, ⟨4, p.2⟩] t) s
  { s with
    ports := { s.ports with dropFrame := [] }
    fab := { s.fab with tapLast := s.ports.dropFrame, corrLast := s.fab.corrFrame, corrFrame := [] } }

/-- A region enters LOWERING: its data-in FIFO empties; flip-flops go with the configuration at OFF (R138). -/
def fabLower (r : Nat) (s : State) : State := { s with ports := { s.ports with din := putKeyed r [] s.ports.din } }

/-- The configuration and contents of an area are lost (R138). -/
def fabLose (n : Nat) (s : State) : State :=
  let frames := if n < 16 then (2048 * n, 2048 * (n + 1)) else (32768, 36864)
  { s with fab := { s.fab with
      modes := spClear (2048 * n) (2048 * (n + 1)) s.fab.modes
      words := spClear (32768 * (2048 * n)) (32768 * (2048 * (n + 1))) s.fab.words
      errs := spClear (32768 * (2048 * n)) (32768 * (2048 * (n + 1))) s.fab.errs
      due := s.fab.due.filter (fun p => !(decide (32768 * (2048 * n) ≤ p.1) && decide (p.1 < 32768 * (2048 * (n + 1)))))
      raw := spClear (2048 * n) (2048 * (n + 1)) s.fab.raw
      flopFresh := s.fab.flopFresh.erase n
      flopForced := s.fab.flopForced.filter (fun x => x / 4 != n)
      logicRuns := spSet n (spGet n s.fab.logicRuns + 1) s.fab.logicRuns
      gates := s.fab.gates.erase n
      frames := spDel n s.fab.frames
      scrubAt := spDel n s.fab.scrubAt
      tries := spDel n s.fab.tries
      cfg := memErase (4096 * frames.1) (4096 * frames.2) s.fab.cfg
      dyn := s.fab.dyn.filter (fun f => !(decide (frames.1 ≤ f) && decide (f < frames.2)))
      bad := s.fab.bad.filter (fun w => !(decide (512 * frames.1 ≤ w) && decide (w < 512 * frames.2))) } }

/-- The engine ports of a region emptied (R137). -/
def fabPortsEmpty (r : Nat) (s : State) : State :=
  { s with ports := { s.ports with
      tap := putKeyed r [] s.ports.tap, din := putKeyed r [] s.ports.din
      tapOpen := s.ports.tapOpen.filter (fun x => x.q != r) } }

/-- A DOMAIN reset of region r (R120, R137): flip-flops take their initial values, its engine ports empty, ARM and LEVEL clear. -/
def fabReset (r : Nat) (s : State) : State :=
  fabPortsEmpty r (flopsInitial r ((s.set (FAB_FLIP_CTL_ARM r) 0).set (FAB_ECC_STAT_LEVEL r) 0))

end Sys2Proof.Machine
end

