-- ==== Sys2Proof/Machine/Cluster.lean ====
section
/-! DEFINITION. The control cluster: scratchpad, mailboxes, locks and epochs, watchdogs, CRC and patch units (chapter 19). -/
namespace Sys2Proof.Machine

/-! ### Cores -/

/-! CORE_STAT.STATE codes. -/
def coreOff : Nat := 0
def coreInReset : Nat := 1
def coreRun : Nat := 2
def coreHalt : Nat := 3

/-- A control core is in debug halt. -/
def coreHalted (c : Nat) (s : State) : Bool := decide (c < 4) && s.get (CORE_STAT_STATE c) == coreHalt

/-- Who may write window 0x10 outside locks, mailboxes and CRC units (R433). -/
def clusterWriter (a : Agent) : Bool := a.ctl

/-! ### Epochs (R447) -/

/-- The power domain that holds an initiator, if one does. -/
def initDom (i : Nat) : Option Nat :=
  if i < 4 then some (82 + i) else if i < 20 then some (66 + (i - 4) / 4) else if i < 36 then some (i - 20)
  else if 37 ≤ i ∧ i ≤ 44 then some (74 + (i - 37)) else if i = 45 then some 70 else if i = 46 then some 72 else none

/-- The initiator's epoch increments. -/
def bumpEpoch (i : Nat) (s : State) : State := s.set (EPOCH_EPOCH i) (s.get (EPOCH_EPOCH i) + 1)

/-- The lock is held by the writer under its present epoch. -/
def lockOwned (k i : Nat) (s : State) : Bool :=
  s.on (LOCK_STAT_HELD k) && s.get (LOCK_STAT_OWNER k) == i && s.get (LOCK_STAT_OEPOCH k) == s.get (EPOCH_EPOCH i)

/-- A lock freed. -/
def lockFree (k : Nat) (broken : Bool) (s : State) : State :=
  ((s.set (LOCK_STAT_HELD k) 0).set (LOCK_STAT_LEFT k) 0).set (LOCK_STAT_BROKEN k) (if broken then 1 else 0)

/-- Every lock that an initiator owns is broken by its reset (R450). -/
def breakLocks (i : Nat) (s : State) : State :=
  forNat 64 (fun k t => if t.on (LOCK_STAT_HELD k) && t.get (LOCK_STAT_OWNER k) == i then
      raise 0x1003 [⟨1, k⟩, ⟨1, i⟩] (lockFree k true t)
    else t) s

/-- The mailboxes see their sender reset (R446). -/
def orphan (i : Nat) (s : State) : State :=
  forNat 16 (fun m t => if t.on (MBX_STAT_FULL m) && t.get (MBX_STAT_SENDER m) == i then
      (t.set (MBX_STAT_ORPHAN m) 1).set (MBX_STAT_SEPOCH m) (t.get (EPOCH_EPOCH i))
    else t) s

/-- An initiator reset: its epoch, its locks, the messages it sent. -/
def initReset (i : Nat) (s : State) : State := orphan i (breakLocks i (bumpEpoch i s))

/-- What a CORE reset does in the cluster (R446, R452, R457). -/
def clusterCoreReset (c : Nat) (s : State) : State :=
  let s := (initReset c s).clearFld (DB_MASK_MASK c)
  let s := (s.set (WD_CTL_EN c) 0).set (CORE_STAT_WD_LEFT c) 0
  { s with cluster := { s.cluster with
      lockFaults := s.cluster.lockFaults.filter (fun p => p.1 != c)
      tickIrq := s.cluster.tickIrq.erase c
      mcause := spDel c s.cluster.mcause, mtval := spDel c s.cluster.mtval } }

/-- The initiators of a domain other than control cores. -/
def initsOf (n : Nat) : List Nat := (List.range 64).filter (fun i => initDom i == some n && decide (4 ≤ i))

/-- A DOMAIN reset of the domain that holds initiators. -/
def clusterDomReset (n : Nat) (s : State) : State := forEach (initsOf n) initReset s

/-- A domain that holds initiators leaves ON (R447). -/
def clusterDomLeave (n : Nat) (s : State) : State := forEach (initsOf n) bumpEpoch s

/-! ### Scratchpad (R434 to R443) -/

/-- The domain of a bank. -/
def spDom (n : Nat) : Nat := 86 + n / 2

/-- A word as stored. -/
def spWord (n w : Nat) (s : State) : Nat :=
  let v := spGet (65536 * n + w) s.cluster.words
  if v ≠ 0 then v - 1
  else if spGet n s.cluster.base = 0 then 0
  else Config.rawWord (spGet n s.cluster.base - 1) (2 ^ 40 + 65536 * n + w) % 2 ^ 64

/-- A word stored whole: an earlier error is gone. -/
def spStore (n w v : Nat) (s : State) : State :=
  let k := 65536 * n + w
  { s with cluster := { s.cluster with
      words := if v % 2 ^ 64 = 0 ∧ spGet n s.cluster.base = 0 then spDel k s.cluster.words else spSet k (v % 2 ^ 64 + 1) s.cluster.words
      bad := s.cluster.bad.filter (fun x => x != k) } }

/-- A bank written to zero throughout. -/
def spZero (n : Nat) (s : State) : State :=
  { s with cluster := { s.cluster with
      words := spClear (65536 * n) (65536 * (n + 1)) s.cluster.words
      base := spDel n s.cluster.base
      bad := s.cluster.bad.filter (fun x => x / 65536 != n) } }

/-- A bank's contents lost: undefined from here on. -/
def spLose (n : Nat) (s : State) : State :=
  let s := spZero n s
  { s with cluster := { s.cluster with base := spSet n (s.cluster.raises + 1) s.cluster.base, raises := s.cluster.raises + 1 } }

/-- A corrected error (R438). -/
def spCorr (s : State) : State :=
  bucketHit SP_ECC_STAT_CORR SP_ECC_STAT_LEVEL SP_ECC_STAT_OVERFLOW SP_ECC_CTL_BUCKET 0x1006 []
    { s with cluster := { s.cluster with corrFrame := s.cluster.corrFrame + 1 } }

/-- A double-bit error, found by an initiator or, with 63, by the scrubber (R437). -/
def spUncorr (n w who : Nat) (s : State) : State :=
  raise 0x1007 [⟨1, n⟩, ⟨2, w⟩, ⟨1, who⟩] (s.count SP_ECC_STAT_UNCORR 1)

/-- A word checked as it is read, with what strikes it now: none for a double-bit error. -/
def spCheck (n w who : Nat) (u : Ecc) (s : State) : Option Nat × State :=
  let k := 65536 * n + w
  let s := if u = .double ∧ k ∉ s.cluster.bad then { s with cluster := { s.cluster with bad := s.cluster.bad ++ [k] } } else s
  if k ∈ s.cluster.bad then (none, spUncorr n w who s)
  else (some (spWord n w s), if u = .single then spCorr s else s)

/-- The bank's PENDING handover lets an old owner's accepted access through (R434). -/
def spAccepted (n i id : Nat) (s : State) : Bool := s.cluster.handover.any (fun p => p.1 == n && p.2.1 == i && decide (id < p.2.2))

/-- What an access to a bank is answered before it touches a word; `id` is its issue number (R434, R440, R442, R443). A request
that the ingress has accepted is not turned away by its domain again: it completes while the domain is LOWERING (R52). -/
def spRefuses (i n id : Nat) (s : State) : Option Status :=
  match (if s.noc.reqs.any (fun r => r.id == id && r.phase == .sent) then none else domRefuses (spDom n) s) with
  | some st => some st
  | none =>
    if s.get (SP_OWN_OWNER n) ≠ i ∧ !spAccepted n i id s then some .denied
    else if s.on (SP_OWN_PENDING n) ∧ !spAccepted n i id s then some .retry
    else if 14 ≤ n ∧ s.cluster.wiping.isSome then some .retry
    else if n ∈ s.cluster.march ∧ !s.cluster.keep then some .retry
    else none

/-- A naturally aligned width of the scratchpad. -/
def spWidthOk (addr width : Nat) : Bool :=
  (width == 8 || width == 16 || width == 32 || width == 64) && addr % (width / 8) == 0

/-- Bank, word and alias (0 plain, 1 bit-set, 2 bit-clear) of an address (R17). -/
def spBank (addr : Nat) : Nat := (addr - 0x1000000000) % 0x800000 / 0x80000
def spIndex (addr : Nat) : Nat := addr % 0x80000 / 8
def spAlias (addr : Nat) : Nat := (addr - 0x1000000000) / 0x800000

/-- The address lies in the scratchpad or an alias. -/
def inScratchpad (addr : Nat) : Bool := decide (0x1000000000 ≤ addr) && decide (addr < 0x1001800000)

/-- The bits that an access covers in its word. -/
def spField (addr width v : Nat) : Nat := v % 2 ^ width * 2 ^ (8 * (addr % 8))

/-- The word after a write of a kind: merged, bits set, bits cleared (R435, R436). -/
def spMerge (addr width v old : Nat) : Nat :=
  if spAlias addr = 0 then putBits old (8 * (addr % 8)) width v
  else if spAlias addr = 1 then Nat.lor old (spField addr width v)
  else old - Nat.land old (spField addr width v)

/-- A read by an initiator. -/
def spRead (i addr width id : Nat) (u : Ecc) (s : State) : Status × Nat × State :=
  let n := spBank addr
  match spRefuses i n id s with
  | some st => (st, 0, s)
  | none =>
    if !spWidthOk addr width then (.range, 0, s)
    else match spCheck n (spIndex addr) i u s with
      | (none, t) => (.poison, 0, t)
      | (some v, t) => (.done, bits v (8 * (addr % 8)) width, t)

/-- A write by an initiator: whole, or read-modify-write. -/
def spWrite (i addr width v id : Nat) (u : Ecc) (s : State) : Status × State :=
  let n := spBank addr
  match spRefuses i n id s with
  | some st => (st, s)
  | none =>
    if !spWidthOk addr width then (.range, s)
    else if width = 64 ∧ spAlias addr = 0 then (.done, spStore n (spIndex addr) v s)
    else match spCheck n (spIndex addr) i u s with
      | (none, t) => (.poison, t)
      | (some old, t) => (.done, spStore n (spIndex addr) (spMerge addr width v old) t)

/-- The accepted accesses of a bank's old owner that are still open; when none is, the handover is answered (R434). -/
def spSettle (n : Nat) (s : State) : State :=
  let open_ (p : Nat × Nat × Nat) : Bool := s.noc.reqs.any (fun r => nocOpen r && r.target == 8 + n && r.agent.init.val == p.2.1 && decide (r.id < p.2.2))
  let l := s.cluster.handover.filter (fun p => p.1 != n || open_ p)
  let s := { s with cluster := { s.cluster with handover := l } }
  if s.on (SP_OWN_PENDING n) && !l.any (fun p => p.1 == n) then answer .done (s.set (SP_OWN_PENDING n) 0) else s

/-- A write of SP_OWN (R433, R434). Its answer waits while PENDING is set. -/
def wrSpOwn (a : Agent) (n v : Nat) (s : State) : Status × State :=
  let i := a.init.val
  let old := s.get (SP_OWN_OWNER n)
  let new := (SP_OWN_OWNER n).of v
  if !clusterWriter a || (new != old && !(a.core01 || i == old)) then (.denied, s)
  else if 14 ≤ n ∧ new > 1 then (.range, s)
  else if new = old then (.done, s)
  else
    let t := raise 0x100C [⟨1, n⟩, ⟨1, old⟩, ⟨1, new⟩] (s.set (SP_OWN_OWNER n) new)
    let t := { t with cluster := { t.cluster with handover := t.cluster.handover ++ [(n, old, t.noc.nextId)] } }
    (.done, spSettle n (t.set (SP_OWN_PENDING n) 1))

/-- BANK_HANDOVER (R434): the response comes once PENDING is 0. -/
def execBankHandover (a : Agent) (n : Fin 16) (owner : Nat) (s : State) : Out :=
  let x := wrSpOwn a n.val owner s
  ok (if x.2.on (SP_OWN_PENDING n.val) && x.1 == .done then x.2 else answered x)

/-- SCRATCHPAD_ACCESS (R434 to R437): of a read and a write in one cycle to one word, the read sees the new data. -/
def execScratchpadAccess (a : Agent) (acc : SpAccess) (u : Ecc) (s : State) : Out :=
  let i := a.init.val
  match acc with
  | .read x w =>
    if !inScratchpad x then ok s
    else let r := spRead i x w s.noc.nextId u s
      ok { r.2.2 with resp := ⟨r.1, r.2.1, []⟩ }
  | .write x w v =>
    if !inScratchpad x then ok s
    else let r := spWrite i x w v s.noc.nextId u s
      ok (answered r)
  | .both x w y z v =>
    if !inScratchpad x ∨ !inScratchpad y then ok s
    else
      let p := spWrite i y z v s.noc.nextId u s
      let r := spRead i x w s.noc.nextId .ok p.2
      ok { r.2.2 with resp := ⟨r.1, r.2.1, [BitVec.ofNat 8 p.1.code]⟩ }

/-- SP_SCRUB_WORD (R438): a word of banks 0 to 13 in an idle cycle; the last word of the last ON bank ends a pass. -/
def execSpScrubWord (n : Fin 16) (w : Nat) (u : Ecc) (s : State) : Out :=
  let more := (List.range 14).any (fun m => decide (n.val < m) && domRuns (spDom m) s)
  whenOk (decide (n.val < 14) && decide (w < 65536) && domRuns (spDom n.val) s && s.get SP_ECC_CTL_SCRUB_RATE != 0) s
    (let t := (spCheck n.val w 63 u s).2
     if w = 65535 ∧ !more then t.set SP_ECC_STAT_PASSES (t.get SP_ECC_STAT_PASSES + 1) else t)

/-- A write of SP_ECC_CTL: BUCKET not 0. -/
def wrSpEccCtl (a : Agent) (v : Nat) (s : State) : Status × State :=
  if !a.core01 then (.denied, s)
  else if SP_ECC_CTL_BUCKET.of v = 0 then (.range, s) else (.done, writeFlds SP_ECC_CTL_fields v s)

/-- A write of SP_PASS (R439). -/
def wrSpPass (a : Agent) (v : Nat) (s : State) : Status × State :=
  if !a.core01 then (.denied, s)
  else if !SP_PASS_GO.hit v then (.done, writeFlds SP_PASS_fields v s)
  else if s.on SP_PASS_GO ∨ s.on SP_MARCH_GO ∨ SP_PASS_COUNT.of v = 0 ∨ SP_PASS_FIRST.of v + SP_PASS_COUNT.of v > 65536 then (.range, s)
  else if !domOn 93 s then (.asleep, s)
  else (.done, { (writeFlds SP_PASS_fields v s) with cluster := { s.cluster with
    pass := (14 + SP_PASS_BANK.of v, SP_PASS_FIRST.of v, SP_PASS_COUNT.of v) } })

/-- The end of a secure pass, of whose words so many held a single-bit error. -/
def spPassEnd (singles : Nat) (s : State) : State :=
  let (n, first, c) := s.cluster.pass
  let lo := 65536 * n + first
  let l := s.cluster.bad.filter (fun k => decide (lo ≤ k) && decide (k < lo + c))
  let x := min singles (c - l.length)
  let s := forEach l (fun k t => spUncorr n (k % 65536) 63 t) (forNat x (fun _ t => spCorr t) s)
  let s := ((s.set SP_PASS_SUM_UNCORR (min l.length 65535)).set SP_PASS_SUM_CORR (min x 65535)).set SP_PASS_SUM_CHECKED c
  raise 0x1009 [⟨8, readFlds SP_PASS_SUM_fields s⟩] (s.set SP_PASS_GO 0)

/-- A write of SP_MARCH (R442). -/
def wrSpMarch (a : Agent) (v : Nat) (s : State) : Status × State :=
  let l := (List.range 16).filter (fun n => bit (SP_MARCH_BANKS.of v) n)
  if !a.core01 then (.denied, s)
  else if !SP_MARCH_GO.hit v then (.done, writeFlds SP_MARCH_fields v s)
  else if s.on SP_PASS_GO ∨ s.on SP_MARCH_GO ∨ l.any (fun n => !domOn (spDom n) s) then (.range, s)
  else (.done, { (writeFlds SP_MARCH_fields v s) with cluster := { s.cluster with march := l, keep := bit (SP_MARCH_PRESERVE.of v) 0 } })

/-- The contents of banks after a march has tested them all: restored, or every word 0. -/
def spMarchLoss (s : State) : State := if s.cluster.keep then s else forEach s.cluster.march spZero s

/-- Boot step 3 runs a destructive march on banks 0, 1, 14 and 15 once both pairs are ON, by the boot ROM's write of SP_MARCH (R442;
DESIGN CHOICE, notes/assumptions/51.md). -/
def bootMarch (s : State) : State :=
  if s.get BOOT_STAT_STAGE = 3 ∧ domOn 86 s ∧ domOn 93 s then (wrSpMarch ⟨0, .none⟩ 0x8000C003 s).2 else s

/-- A bank's result of a march. -/
def marchBank (l : List MarchResult) (n : Nat) (s : State) : State :=
  match l.find? (fun r => r.bank.val == n) with
  | some r =>
    if r.fails = 0 then
      ((((s.set (SP_MARCH_RES_ONECOL n) 0).set (SP_MARCH_RES_COL n) 0).set (SP_MARCH_RES_FAILS n) 0).set SP_MARCH_STAT_PASSED
        (putBit (s.get SP_MARCH_STAT_PASSED) n true))
    else
      ((((s.set (SP_MARCH_RES_ONECOL n) (if r.oneCol then 1 else 0)).set (SP_MARCH_RES_COL n) (if r.oneCol then min r.col 71 else 0)).set
        (SP_MARCH_RES_FAILS n) (min r.fails 65536)).set SP_MARCH_STAT_FAILED (putBit (s.get SP_MARCH_STAT_FAILED) n true))
  | none =>
    ((((s.set (SP_MARCH_RES_ONECOL n) 0).set (SP_MARCH_RES_COL n) 0).set (SP_MARCH_RES_FAILS n) 0).set SP_MARCH_STAT_PASSED
      (putBit (s.get SP_MARCH_STAT_PASSED) n true))

/-- The march ends (R442): a bank without a result of its own had no failing word. -/
def marchEnd (l : List MarchResult) (s : State) : State :=
  let s := (spMarchLoss s).set SP_MARCH_STAT_PASSED 0
  let s := forEach s.cluster.march (marchBank l) (s.set SP_MARCH_STAT_FAILED 0)
  raise 0x1008 [⟨2, s.get SP_MARCH_STAT_PASSED⟩, ⟨2, s.get SP_MARCH_STAT_FAILED⟩]
    { (s.set SP_MARCH_GO 0) with cluster := { s.cluster with march := [] } }

/-- SP_SECURE_PASS (R439): a write of SP_PASS. -/
def execSpSecurePass (a : Agent) (v : Nat) (s : State) : Out := ok (answered (wrSpPass a v s))

/-- SP_SECURE_PASS_END (R439). -/
def execSpSecurePassEnd (singles : Nat) (s : State) : Out := whenOk (s.on SP_PASS_GO) s (spPassEnd singles s)

/-- SP_MARCH (R442): a write of the register. -/
def execSpMarch (a : Agent) (v : Nat) (s : State) : Out := ok (answered (wrSpMarch a v s))

/-- MARCH_END (R442). -/
def execMarchEnd (l : List MarchResult) (s : State) : Out := whenOk (s.on SP_MARCH_GO) s (marchEnd l s)

/-- Banks 14 and 15 are wiped for a cause (R443): RETRY until the wipe ends. At OFF the pair holds nothing to wipe. -/
def spWipe (cause : Nat) (s : State) : State :=
  if domState 93 s ≠ dsOff then
    let s := spZero 15 (spZero 14 s)
    { s with cluster := { s.cluster with wiping := some cause } }
  else raise 0x100A [⟨1, cause⟩] s

/-- SECURE_WIPE_END (R443). -/
def execSecureWipeEnd (s : State) : Out :=
  match s.cluster.wiping with
  | none => ok s
  | some c => ok (raise 0x100A [⟨1, c⟩] { s with cluster := { s.cluster with wiping := none } })

/-- A bank pair leaves ON (R442): its march ends, a destructive one with contents that are no longer defined; a secure pass over it
ends. A wipe goes on to its end. -/
def spPairLeave (p : Nat) (s : State) : State :=
  let l := s.cluster.march.filter (fun n => n / 2 == p)
  let s := if s.cluster.keep then s else forEach l spLose s
  let s := { s with cluster := { s.cluster with march := s.cluster.march.filter (fun n => n / 2 != p) } }
  s.setIf (p == 7) SP_PASS_GO 0

/-- A bank pair loses its contents (R104, R440). -/
def spPairLose (p : Nat) (s : State) : State := spLose (2 * p + 1) (spLose (2 * p) s)

/-! ### Mailboxes (R444 to R446) -/

/-- A doorbell bit of a core set. -/
def ring (c b : Nat) (s : State) : State := s.set (DB_PEND_PEND c) (putBit (s.get (DB_PEND_PEND c)) b true)

/-- A write of MBX_DATA: RETRY while FULL. -/
def wrMbxData (m j v : Nat) (s : State) : Status × State :=
  if s.on (MBX_STAT_FULL m) then (.retry, s) else (.done, writeFlds (MBX_DATA_fields m j) v s)

/-- A message posted. -/
def mbxPost (i m : Nat) (s : State) : State :=
  let s := (((s.set (MBX_CTL_GO m) 1).set (MBX_STAT_FULL m) 1).set (MBX_STAT_SENDER m) i).set (MBX_STAT_SEPOCH m) (s.get (EPOCH_EPOCH i))
  let s := ((s.set (MBX_STAT_AGE m) 0).set (MBX_STAT_ORPHAN m) 0).set (MBX_STAT_TIMED_OUT m) 0
  ring (s.get (MBX_CTL_RECEIVER m)) m s

/-- A mailbox emptied. -/
def mbxAck (m : Nat) (s : State) : State :=
  if !s.on (MBX_STAT_FULL m) then s
  else
    let i := s.get (MBX_STAT_SENDER m)
    let t := (s.set (MBX_STAT_FULL m) 0).set (MBX_CTL_GO m) 0
    if i < 4 ∧ !s.on (MBX_STAT_ORPHAN m) then ring i (16 + m) t else t

/-- A write of MBX_CTL: ACK by the receiver or the debug port, GO and the fields only while FULL is 0 (R444, R446). -/
def wrMbxCtl (a : Agent) (m v : Nat) (s : State) : Status × State :=
  let i := a.init.val
  let ack := (MBX_CTL_ACK m).hit v
  let go := (MBX_CTL_GO m).hit v
  let full := s.on (MBX_STAT_FULL m)
  if ack ∧ i ≠ s.get (MBX_CTL_RECEIVER m) ∧ i ≠ 50 then (.denied, s)
  else if full ∧ go then (.retry, s)
  else if full ∧ (s.changes (MBX_CTL_RECEIVER m) v ∨ s.changes (MBX_CTL_TMO m) v) then (.range, s)
  else if full then (.done, if ack then mbxAck m s else s)
  else
    let t := (s.set (MBX_CTL_RECEIVER m) ((MBX_CTL_RECEIVER m).of v)).set (MBX_CTL_TMO m) ((MBX_CTL_TMO m).of v)
    (.done, if go then mbxPost i m t else t)

/-- MBX_CTL's read-write fields as they stand. -/
def mbxNow (m : Nat) (s : State) : Nat := 65536 * s.get (MBX_CTL_RECEIVER m) + s.get (MBX_CTL_TMO m)

/-- MAILBOX_DATA_WRITE (R444). -/
def execMailboxDataWrite (_a : Agent) (m j : Fin 16) (v : Nat) (s : State) : Out := ok (answered (wrMbxData m.val j.val v s))

/-- MAILBOX_POST (R444): GO, with the other fields as they stand. -/
def execMailboxPost (a : Agent) (m : Fin 16) (s : State) : Out := ok (answered (wrMbxCtl a m.val (2 ^ 31 + mbxNow m.val s) s))

/-- MAILBOX_ACK (R444). -/
def execMailboxAck (a : Agent) (m : Fin 16) (s : State) : Out := ok (answered (wrMbxCtl a m.val (2 ^ 30 + mbxNow m.val s) s))

/-- A message has gone unread for TMO frames. -/
def mbxDue (m : Nat) (s : State) : Bool :=
  s.on (MBX_STAT_FULL m) && s.get (MBX_CTL_TMO m) != 0 && decide (s.get (MBX_CTL_TMO m) ≤ s.get (MBX_STAT_AGE m)) && !s.on (MBX_STAT_TIMED_OUT m)

/-- MAILBOX_TIMEOUT (R445). -/
def execMailboxTimeout (m : Fin 16) (s : State) : Out :=
  let i := s.get (MBX_STAT_SENDER m.val)
  let t := s.set (MBX_STAT_TIMED_OUT m.val) 1
  let t := if i < 4 then t.set (TMO_PEND_TMO i) (putBit (t.get (TMO_PEND_TMO i)) m.val true) else t
  whenOk (mbxDue m.val s) s (raise 0x1004 [⟨1, m.val⟩, ⟨1, i⟩, ⟨1, s.get (MBX_CTL_RECEIVER m.val)⟩] t)

/-! ### Interrupts (R432) -/

/-- The interrupts pending for a core: 16 doorbell, 17 mailbox timeout, 18 frame tick. -/
def coreIrqs (c : Nat) (s : State) : List Nat :=
  (if s.get (DB_PEND_PEND c) - Nat.land (s.get (DB_PEND_PEND c)) (s.get (DB_MASK_MASK c)) ≠ 0 then [16] else []) ++
  (if s.get (TMO_PEND_TMO c) ≠ 0 then [17] else []) ++ (if c ∈ s.cluster.tickIrq then [18] else [])

/-- CORE_INTERRUPT (R432, R449): a running core takes a waiting lock fault (exception 24) first, else the lowest pending
interrupt that its own mie enables. -/
def execCoreInterrupt (c : Fin 4) (mie : Nat) (s : State) : Out :=
  let k := s.cluster
  if s.get (CORE_STAT_STATE c.val) ≠ coreRun then ok s
  else match k.lockFaults.find? (fun p => p.1 == c.val) with
    | some p => ok { s with cluster := { k with
        lockFaults := k.lockFaults.erase p, mcause := spSet c.val 24 k.mcause, mtval := spSet c.val p.2 k.mtval } }
    | none =>
      match (coreIrqs c.val s).find? (fun n => bit mie n) with
      | none => ok s
      | some n => ok { s with cluster := { k with
          mcause := spSet c.val (2 ^ 63 + n) k.mcause, mtval := spSet c.val 0 k.mtval
          tickIrq := if n = 18 then k.tickIrq.erase c.val else k.tickIrq } }

/-! ### Locks (R448 to R451) -/

/-- A write of LOCK_CTL; ACQ and REL together are answered RANGE. -/
def wrLockCtl (a : Agent) (k v : Nat) (s : State) : Status × State :=
  let i := a.init.val
  let acq := (LOCK_CTL_ACQ k).hit v
  let rel := (LOCK_CTL_REL k).hit v
  let lease := (LOCK_CTL_LEASE k).of v
  if acq ∧ rel then (.range, s)
  else if acq then
    if lease = 0 then (.range, s)
    else if lockOwned k i s then (.done, s.set (LOCK_STAT_LEFT k) lease)
    else if s.on (LOCK_STAT_HELD k) then (.retry, s)
    else (.done, (((s.set (LOCK_STAT_HELD k) 1).set (LOCK_STAT_OWNER k) i).set (LOCK_STAT_OEPOCH k) (s.get (EPOCH_EPOCH i))).set
      (LOCK_STAT_LEFT k) lease)
  else if rel then
    if lockOwned k i s then (.done, lockFree k false s) else (.denied, s)
  else (.done, s)

/-- LOCK_ACQUIRE (R448). -/
def execLockAcquire (a : Agent) (k : Fin 64) (lease : Nat) (s : State) : Out :=
  ok (answered (wrLockCtl a k.val (2 ^ 31 + lease % 65536) s))

/-- LOCK_RELEASE (R448). -/
def execLockRelease (a : Agent) (k : Fin 64) (s : State) : Out := ok (answered (wrLockCtl a k.val (2 ^ 30) s))

/-- The holder's halt keeps the lease from running (R451). -/
def leaseStands (k : Nat) (s : State) : Bool := coreHalted (s.get (LOCK_STAT_OWNER k)) s && !s.on DBG_CTL_BREAKLEASE

/-- LEASE_EXPIRY (R449): LEFT has reached 0; a core that holds the lock takes a lock fault. -/
def execLeaseExpiry (k : Fin 64) (s : State) : Out :=
  let i := s.get (LOCK_STAT_OWNER k.val)
  let t := raise 0x1002 [⟨1, k.val⟩, ⟨1, i⟩, ⟨1, s.get (LOCK_STAT_OEPOCH k.val)⟩] (lockFree k.val true s)
  whenOk (s.on (LOCK_STAT_HELD k.val) && s.get (LOCK_STAT_LEFT k.val) == 0 && !leaseStands k.val s) s
    (if i < 4 then { t with cluster := { t.cluster with lockFaults := t.cluster.lockFaults ++ [(i, k.val)] } } else t)

/-- CORE_STAT.LOCKFAULT: a lock fault waits for a halted core to resume. -/
def lockFaultWaits (c : Nat) (s : State) : Bool := coreHalted c s && s.cluster.lockFaults.any (fun p => p.1 == c)

/-! ### Watchdogs (R452, R453) -/

/-- Core c and cores 0 and 1 (R452). -/
def wdWriter (a : Agent) (c : Nat) : Bool := a.core01 || a.init.val == c

/-- A write of WD_CTL. -/
def wrWdCtl (a : Agent) (c v : Nat) (s : State) : Status × State :=
  let p := (WD_CTL_PERIOD c).of v
  if !wdWriter a c then (.denied, s)
  else if p = 0 ∨ (s.on (WD_CTL_EN c) ∧ s.changes (WD_CTL_PERIOD c) v) then (.range, s)
  else
    let start := (WD_CTL_EN c).hit v && !s.on (WD_CTL_EN c)
    (.done, (writeFlds (WD_CTL_fields c) v s).setIf start (CORE_STAT_WD_LEFT c) p)

/-- A write of WD_KICK. -/
def wrWdKick (a : Agent) (c v : Nat) (s : State) : Status × State :=
  if !wdWriter a c then (.denied, s)
  else (.done, s.setIf ((WD_KICK_KEY c).of v == 0xA5 && s.on (WD_CTL_EN c)) (CORE_STAT_WD_LEFT c) (s.get (WD_CTL_PERIOD c)))

/-- WD_KICK (R452). -/
def execWdKick (a : Agent) (c : Fin 4) (key : Nat) (s : State) : Out := ok (answered (wrWdKick a c.val key s))

/-- The watchdog counts. -/
def wdCounts (c : Nat) (s : State) : Bool := s.on (WD_CTL_EN c) && domRuns (82 + c) s && !coreHalted c s

/-! ### CRC units (R454, R455) -/

/-! Width, polynomial, initial value, reflection and final XOR by POLY. -/
def polyWidth (p : Nat) : Nat := if p < 2 then 32 else if p = 2 then 16 else 64
def polyValue (p : Nat) : Nat := if p = 0 then 0x04C11DB7 else if p = 1 then 0x1EDC6F41 else if p = 2 then 0x1021 else 0x42F0E1EBA9EA3693
def polyInit (p : Nat) : Nat := if p < 2 then 0xFFFFFFFF else if p = 2 then 0xFFFF else 0
def polyRefl (p : Nat) : Bool := decide (p < 2)

/-- A unit's register; after a reset that of CRC-32 at its start. -/
def crcReg (u : Nat) (s : State) : Nat := spGetD 0xFFFFFFFF u s.cluster.crc
def setCrcReg (u v : Nat) (s : State) : State := { s with cluster := { s.cluster with crc := spSetD 0xFFFFFFFF u v s.cluster.crc } }

/-- CRC_RES: the result with the final XOR. -/
def crcResult (u : Nat) (s : State) : Nat :=
  let p := s.get (CRC_CFG_POLY u)
  let r := crcReg u s % 2 ^ polyWidth p
  if polyRefl p then Nat.xor (reverseBits 32 r) 0xFFFFFFFF else r

/-- A write of CRC_CFG starts a computation; a reflected CRC takes SEED in the orientation of its result. -/
def wrCrcCfg (u v : Nat) (s : State) : Status × State :=
  let s := writeFlds (CRC_CFG_fields u) v s
  let p := s.get (CRC_CFG_POLY u)
  let seed := s.get (CRC_SEED_SEED u) % 2 ^ polyWidth p
  let r := if s.on (CRC_CFG_SEED_EN u) then (if polyRefl p then reverseBits 32 seed else seed) else polyInit p
  let l := s.cluster.foldDue.erase u
  (.done, setCrcReg u r { s with cluster := { s.cluster with foldDue := if s.on (CRC_CFG_FOLD u) then l ++ [u] else l } })

/-- Bytes taken by a unit. -/
def crcTake (u : Nat) (l : List Byte) (s : State) : State :=
  let p := s.get (CRC_CFG_POLY u)
  setCrcReg u (crcFeed (polyWidth p) (polyValue p) (polyRefl p) (crcReg u s) l) s

/-- A write of CRC_FOLD: only as the first feed of a computation with FOLD. -/
def wrCrcFold (u v : Nat) (s : State) : Status × State :=
  if u ∈ s.cluster.foldDue then
    (.done, crcTake u (toBytes 4 v) { s with cluster := { s.cluster with foldDue := s.cluster.foldDue.erase u } })
  else (.range, s)

/-- A feed of so many bytes. -/
def wrCrcData (u n v : Nat) (s : State) : Status × State :=
  if u ∈ s.cluster.foldDue then (.range, s) else (.done, crcTake u (toBytes n v) s)

/-- CRC_CONFIG (R455). -/
def execCrcConfig (_a : Agent) (u : Fin 8) (v : Nat) (s : State) : Out := ok (answered (wrCrcCfg u.val v s))

/-- CRC_FOLD (R455). -/
def execCrcFold (_a : Agent) (u : Fin 8) (v : Nat) (s : State) : Out := ok (answered (wrCrcFold u.val v s))

/-- CRC_FEED (R455). -/
def execCrcFeed (_a : Agent) (u : Fin 8) (w : FeedWidth) (v : Nat) (s : State) : Out :=
  ok (answered (wrCrcData u.val (match w with | .byte => 1 | .half => 2 | .word => 4) v s))

/-- CRC_RESULT_READ (R455). -/
def execCrcResultRead (_a : Agent) (u : Fin 8) (s : State) : Out := ok (answerVal (crcResult u.val s) s)

/-! ### Patch units (R456) -/

/-- A write of PATCH_ADDR. -/
def wrPatchAddr (a : Agent) (p v : Nat) (s : State) : Status × State :=
  let w := 4 * (PATCH_ADDR_WORD p).of v
  if !a.core01 ∨ s.on PATCH_LOCK_LOCK then (.denied, s)
  else if w < 0x100000 ∨ 0x30FFFFF < w then (.range, s)
  else (.done, writeFlds (PATCH_ADDR_fields p) v s)

/-- A write of PATCH_DATA. -/
def wrPatchData (a : Agent) (p v : Nat) (s : State) : Status × State :=
  if !a.core01 ∨ s.on PATCH_LOCK_LOCK then (.denied, s) else (.done, writeFlds (PATCH_DATA_fields p) v s)

/-- A write of PATCH_LOCK. -/
def wrPatchLock (a : Agent) (v : Nat) (s : State) : Status × State :=
  if !a.core01 then (.denied, s) else (.done, writeFlds PATCH_LOCK_fields v s)

/-- The 32-bit firmware word that a core reads at a flash byte offset: the lowest patch unit that names it, else the flash
(R456). -/
def firmwareWord (off : Nat) (s : State) : Nat :=
  match (List.range 16).find? (fun p => s.on (PATCH_ADDR_EN p) && 4 * s.get (PATCH_ADDR_WORD p) == off) with
  | some p => s.get (PATCH_DATA_DATA p)
  | none => ofBytes (memRead 0xFF off 4 s.flash)

/-- A write of another register of window 0x10. -/
def wrClusterPlain (l : List (Acc × Fld)) (a : Agent) (v : Nat) (s : State) : Status × State :=
  if !clusterWriter a then (.denied, s) else (.done, writeFlds l v s)

/-! ### Hooks -/

/-- A tick: mailbox ages, leases, watchdogs, the frame-tick interrupt, the scratchpad bucket (R432, R438, R445, R449,
R452). -/
def clusterTick (s : State) : State :=
  let s := forNat 16 (fun m t =>
    if t.on (MBX_STAT_FULL m) && !coreHalted (t.get (MBX_STAT_SENDER m)) t then t.count (MBX_STAT_AGE m) 1 else t) s
  let s := forNat 64 (fun k t =>
    if t.on (LOCK_STAT_HELD k) && !leaseStands k t then t.set (LOCK_STAT_LEFT k) (t.get (LOCK_STAT_LEFT k) - 1) else t) s
  let s := forNat 4 (fun c t => if wdCounts c t then t.set (CORE_STAT_WD_LEFT c) (t.get (CORE_STAT_WD_LEFT c) - frameUs s) else t) s
  let s := bucketLeak SP_ECC_STAT_LEVEL SP_ECC_CTL_LEAK s
  { s with cluster := { s.cluster with
      corrLast := s.cluster.corrFrame, corrFrame := 0
      tickIrq := (List.range 4).filter (fun c => s.get (CORE_STAT_STATE c) == coreRun || s.get (CORE_STAT_STATE c) == coreHalt) } }

end Sys2Proof.Machine
end

