-- ==== Sys2Proof/Machine/Clocks.lean ====
section
/-! DEFINITION. Reference sources, muxes, FAB clocks, gates and CLKMON (chapter 04). -/
namespace Sys2Proof.Machine

/-! ### The upward link (R419) -/

/-- The link is ACTIVE. -/
def linkActive (q : Nat) (s : State) : Bool := s.get (LNK_STAT_STATE q) == 5

/-- The link whose ROLE is UP, if any. -/
def upLink (s : State) : Option Nat := (List.range 16).find? (fun q => s.on (LNK_CTL_ROLE q))

/-- The UP link is ACTIVE. -/
def upActive (s : State) : Bool := match upLink s with | some q => linkActive q s | none => false

/-! ### Sources (R75 to R78): 0 MEMS, 1 REFIN, 2 LANE -/

/-- The source is stable. -/
def srcOk (x : Nat) (s : State) : Bool := bit (s.get CLK_SRC_STAT_OK) x

/-- The source shows edges, as far as the part knows: LANE only while its link is ACTIVE, another unless it has been lost and not been
counted stable since (R75, R76). -/
def srcRuns (x : Nat) (s : State) : Bool := if x = 2 then upActive s else !decide (x ∈ s.clock.stopped)

/-- Where mux m stands. -/
def muxNow (m : Nat) (s : State) : Nat := spGet m s.clock.muxAt

/-- Mux m stands at a selection and waits no more. -/
def muxSet (m x : Nat) (s : State) : State :=
  let s := s.set (CLK_SEL_PEND m) 0
  let s := { s with clock := { s.clock with muxAt := spSet m x s.clock.muxAt, muxWaited := s.clock.muxWaited.erase m } }
  if m = 0 then s.set CLK_SRC_STAT_ACTIVE x else s

/-- The two clocks of mux m by its selection: a reference source of mux 0; of another mux the generator, which never stops (R77), or
the active reference. -/
def muxClockRuns (m sel : Nat) (s : State) : Bool :=
  if m = 0 then srcRuns sel s else sel == 0 || srcRuns (s.get CLK_SRC_STAT_ACTIVE) s

/-- A forced switch of mux m, with event 0x0303; one of muxes 1 to 4 resets the fabric logic that the FAB clock serves (R79). -/
def muxForced (m x : Nat) (s : State) : State :=
  let s := raise 0x0303 [⟨1, m⟩, ⟨1, muxNow m s⟩, ⟨1, x⟩] (muxSet m x s)
  if m = 0 then s else flopsForced (m - 1) s

/-- The fallback of R78: the next stable source after the lost one in the order LANE, REFIN, MEMS; never a higher one. -/
def fallback (x : Nat) (s : State) : Option Nat := [2, 1, 0].find? (fun y => decide (y < x) && srcOk y s)

/-- A source is lost (R76, R77, R78): holdover when it feeds the generators, and the forced switch of AUTO. -/
def srcLost (x : Nat) (s : State) : State :=
  let act := s.get CLK_SRC_STAT_ACTIVE
  let s := (s.set CLK_SRC_STAT_OK (putBit (s.get CLK_SRC_STAT_OK) x false)).set CLK_SRC_STAT_LOST
    (putBit (s.get CLK_SRC_STAT_LOST) x true)
  let s := { s with clock := { s.clock with stopped := if x ∈ s.clock.stopped then s.clock.stopped else s.clock.stopped ++ [x] } }
  if act ≠ x then raise 0x0301 [⟨1, x⟩, ⟨1, act⟩] s
  else
    let s := s.set CLK_SRC_STAT_HOLDOVER 1
    match if s.on (CLK_SEL_AUTO 0) then fallback x s else none with
    | some y => muxForced 0 y ((raise 0x0301 [⟨1, x⟩, ⟨1, y⟩] s).set (CLK_SEL_SEL 0) y)
    | none => raise 0x0301 [⟨1, x⟩, ⟨1, act⟩] s


/-- SOURCE_STABLE (R75): LANE only while its link is ACTIVE. -/
def execSourceStable (x : Fin 3) (s : State) : Out :=
  whenOk (!srcOk x.val s && (x.val != 2 || upActive s)) s
    (raise 0x0304 [⟨1, x.val⟩] { s.set CLK_SRC_STAT_OK (putBit (s.get CLK_SRC_STAT_OK) x.val true) with
      clock := { s.clock with stopped := s.clock.stopped.erase x.val } })

/-- GENERATOR_LOCK (R77). -/
def execGeneratorLock (s : State) : Out :=
  whenOk (s.on CLK_SRC_STAT_HOLDOVER && srcOk (s.get CLK_SRC_STAT_ACTIVE) s) s (s.set CLK_SRC_STAT_HOLDOVER 0)

/-! ### Muxes (R79) -/

/-- A write of CLK_SEL(m): a new SEL waits for low phases; FORCE after an expired wait switches at once. -/
def wrClkSel (m v : Nat) (s : State) : Status × State :=
  let x := (CLK_SEL_SEL m).of v
  if x > (if m = 0 then 2 else 1) then (.range, s)
  else
    let new := s.changes (CLK_SEL_SEL m) v
    let s := ((s.set (CLK_SEL_WAIT m) ((CLK_SEL_WAIT m).of v)).set (CLK_SEL_FORCE m) ((CLK_SEL_FORCE m).of v)).set (CLK_SEL_SEL m) x
    let s := if m = 0 then s.set (CLK_SEL_AUTO 0) ((CLK_SEL_AUTO 0).of v) else s
    if new then
      let s := { s with clock := { s.clock with muxWaited := s.clock.muxWaited.erase m } }
      (.done, s.set (CLK_SEL_PEND m) (if x = muxNow m s then 0 else 1))
    else if s.on (CLK_SEL_FORCE m) ∧ m ∈ s.clock.muxWaited then (.done, muxForced m x s)
    else (.done, s)

/-- CLK_SEL(m) as it stands, with another SEL or FORCE. -/
def clkSelWith (m sel force : Nat) (s : State) : Nat :=
  65536 * s.get (CLK_SEL_WAIT m) + 32 * force + (if m = 0 then 16 * (s.get (CLK_SEL_AUTO 0) % 2) else 0) + sel

/-- MUX_SELECT (R79). -/
def execMuxSelect (_a : Agent) (m : Fin 5) (v : Nat) (s : State) : Out :=
  ok (answered (if v > 15 then (.range, s) else wrClkSel m.val (clkSelWith m.val v (s.get (CLK_SEL_FORCE m.val)) s) s))

/-- MUX_SWITCH (R79): both clocks are running and show a low phase. -/
def execMuxSwitch (m : Fin 5) (s : State) : Out :=
  let x := s.get (CLK_SEL_SEL m.val)
  whenOk (s.on (CLK_SEL_PEND m.val) && muxClockRuns m.val (muxNow m.val s) s && muxClockRuns m.val x s) s (muxSet m.val x s)

/-- MUX_WAIT_EXPIRY (R79): WAIT cycles of the new clock, which runs. -/
def execMuxWaitExpiry (m : Fin 5) (s : State) : Out :=
  let x := s.get (CLK_SEL_SEL m.val)
  whenOk (s.on (CLK_SEL_PEND m.val) && !decide (m.val ∈ s.clock.muxWaited) && muxClockRuns m.val x s) s
    (if s.on (CLK_SEL_FORCE m.val) then muxForced m.val x s
     else raise 0x0305 [⟨1, m.val⟩] { s with clock := { s.clock with muxWaited := s.clock.muxWaited ++ [m.val] } })

/-- MUX_FORCE (R79). -/
def execMuxForce (_a : Agent) (m : Fin 5) (s : State) : Out :=
  ok (answered (wrClkSel m.val (clkSelWith m.val (s.get (CLK_SEL_SEL m.val)) 1 s) s))

/-! ### FAB clocks and CLKMON (R80, R83) -/

/-- The frequency of a CLKMON source, MHz. -/
def clkmonMhz (src : Nat) (s : State) : Nat :=
  if src ≤ 3 then 100 else if src = 4 then 1000 else if src = 5 then 1200 else if src = 6 then 1800 else if src = 7 then 800
  else if src = 8 then 1000 else if src ≤ 12 then s.get (CLK_FAB_MHZ (src - 9)) else if src = 13 then 1000
  else if src = 14 then 200 else 20

/-- CLKMON would run above 200 MHz. -/
def clkmonFast (src div : Nat) (s : State) : Bool := decide (clkmonMhz src s > 200 * (div + 1))

/-- The source of CLKMON runs: a reference, a derived clock, which never stops (R77), or the word clock of quad 0, which runs while
its domain is ON. -/
def clkmonRuns (src : Nat) (s : State) : Bool :=
  if src = 0 then srcRuns (s.get CLK_SRC_STAT_ACTIVE) s else if src ≤ 3 then srcRuns (src - 1) s
  else if src = 13 then domOn 48 s else true

/-- The level of ball CLKMON in the c-th cycle of its source, counted from 0 since SRC or DIV last changed or EN was set (R83): low while
EN is 0 or the source is stopped and for the first 16 cycles, then high for the first ceil(N / 2) of every N = DIV + 1 cycles. -/
def clkmonLevel (c : Nat) (s : State) : Bool :=
  let n := s.get CLKMON_CTL_DIV + 1
  s.on CLKMON_CTL_EN && clkmonRuns (s.get CLKMON_CTL_SRC) s && decide (16 ≤ c) && decide ((c - 16) % n < ceilDiv n 2)

/-- A write of CLKMON_CTL. -/
def wrClkmon (v : Nat) (s : State) : Status × State :=
  if CLKMON_CTL_EN.hit v && clkmonFast (CLKMON_CTL_SRC.of v) (CLKMON_CTL_DIV.of v) s then (.range, s)
  else (.done, writeFlds CLKMON_CTL_fields v s)

/-- A write of CLK_FAB(i): the mux goes to the reference while the generator relocks, and CLKMON is disabled where it would
run too fast. -/
def wrClkFab (i v : Nat) (s : State) : Status × State :=
  let mhz := (CLK_FAB_MHZ i).of v
  if mhz < 100 ∨ mhz > 800 then (.range, s)
  else
    let s := s.set (CLK_FAB_MHZ i) mhz
    let s := { s with clock := { s.clock with
      muxAt := spSet (i + 1) 1 s.clock.muxAt, relock := if i ∈ s.clock.relock then s.clock.relock else s.clock.relock ++ [i] } }
    (.done, if s.on CLKMON_CTL_EN ∧ s.get CLKMON_CTL_SRC = 9 + i ∧ clkmonFast (9 + i) (s.get CLKMON_CTL_DIV) s then
        raise 0x0306 [⟨1, i⟩, ⟨2, mhz⟩, ⟨2, s.get CLKMON_CTL_DIV⟩] (s.set CLKMON_CTL_EN 0)
      else s)

/-- FAB_FREQUENCY_CHANGE (R80, R83). -/
def execFabFrequencyChange (_a : Agent) (i : Fin 4) (mhz : Nat) (s : State) : Out :=
  ok (answered (if mhz ≥ 1024 then (.range, s) else wrClkFab i.val mhz s))

/-- FAB_RELOCK_DONE (R80): the mux switches back to where SEL has it. -/
def execFabRelockDone (i : Fin 4) (s : State) : Out :=
  whenOk (decide (i.val ∈ s.clock.relock)) s
    { s with clock := { s.clock with
        relock := s.clock.relock.erase i.val
        muxAt := if s.on (CLK_SEL_PEND (i.val + 1)) then s.clock.muxAt
          else spSet (i.val + 1) (s.get (CLK_SEL_SEL (i.val + 1))) s.clock.muxAt } }

/-- CLKMON_CONFIG (R83). -/
def execClkmonConfig (_a : Agent) (v : Nat) (s : State) : Out := ok (answered (wrClkmon v s))

/-! ### Gates (R81, R82) -/

/-- A write of CLK_GATE(n): CLOSE = 1 asks the block, CLOSE = 0 opens or is queued behind a close in progress. A write of CLOSE = 1 behind
a queued open cancels that open (DESIGN CHOICE, notes/assumptions/17.md: the spec is silent). The gate of a domain in LOWERING follows
R52: no handshake starts (R82). -/
def wrClkGate (i n v : Nat) (s : State) : Status × State :=
  let s := writeFld .w1c (CLK_GATE_ACK_MISS n) v s
  let c := (CLK_GATE_CLOSE n).hit v
  if domState n s = 3 then (.done, if c then s else (s.set (CLK_GATE_CLOSE n) 0).set (CLK_GATE_CLOSED n) 0)
  else
  let s := s.set (CLK_GATE_CLOSE n) (if c then 1 else 0)
  (.done,
    if s.on (CLK_GATE_PEND n) then s
    else if c && !s.on (CLK_GATE_CLOSED n) then
      { s.set (CLK_GATE_PEND n) 1 with clock := { s.clock with gateInit := spSet n (i + 1) s.clock.gateInit } }
    else if c then s else s.set (CLK_GATE_CLOSED n) 0)

/-- GATE_CLOSE_REQUEST (R81). -/
def execGateCloseRequest (a : Agent) (n : Fin 96) (s : State) : Out := ok (answered (wrClkGate a.init.val n.val 1 s))

/-- GATE_OPEN (R82). -/
def execGateOpen (a : Agent) (n : Fin 96) (s : State) : Out := ok (answered (wrClkGate a.init.val n.val 0 s))

/-- The loader waits for the FAB gates of region n (R149). -/
def loaderGates (n : Nat) (s : State) : Bool :=
  match s.ldr.job with
  | some j => j.phase == .gating && j.region == n
  | none => false

/-- The loader goes on to the records, with the region's FAB gates closed or, without their acknowledgement, open (R149). -/
def loaderGated (n : Nat) (closed : Bool) (s : State) : State :=
  if !loaderGates n s then s
  else { s with
    ldr := { s.ldr with job := s.ldr.job.map (fun j => { j with phase := .writing }) }
    fab := { s.fab with gates := if closed && !decide (n ∈ s.fab.gates) then s.fab.gates ++ [n] else s.fab.gates } }

/-- GATE_ACK (R81, R82, R149): the block's interfaces have finished what they had accepted, and the gate closes; a queued open then opens
it. The FAB gates of a region that the loader asked close with it. -/
def execGateAck (n : Fin 96) (s : State) : Out :=
  whenOk ((s.on (CLK_GATE_PEND n.val) || loaderGates n.val s) && outstanding n.val s == 0) s
    (loaderGated n.val true (if s.on (CLK_GATE_PEND n.val) then
        (s.set (CLK_GATE_PEND n.val) 0).set (CLK_GATE_CLOSED n.val) (if s.on (CLK_GATE_CLOSE n.val) then 1 else 0)
      else s))

/-- GATE_ACK_TIMEOUT (R81, R149): the acknowledgement has not come; initiator 47 is the loader. -/
def execGateAckTimeout (n : Fin 96) (s : State) : Out :=
  let host := s.on (CLK_GATE_PEND n.val)
  whenOk (host || loaderGates n.val s) s
    (loaderGated n.val false (raise 0x0302 [⟨1, n.val⟩, ⟨1, if host then spGet n.val s.clock.gateInit - 1 else 47⟩]
      ((if host then (s.set (CLK_GATE_PEND n.val) 0).set (CLK_GATE_CLOSE n.val) 0 else s).set (CLK_GATE_ACK_MISS n.val) 1)))

end Sys2Proof.Machine
end

