-- ==== Sys2Proof/Machine/Lanes.lean ====
section
/-! DEFINITION. Serial links and their lanes: bring-up, flits with sequence and replay, width, sleep, PRBS (chapter 18). -/
namespace Sys2Proof.Machine

/-! LNK_STAT.STATE codes. -/
def lnkOff : Nat := 0
def lnkDetect : Nat := 1
def lnkTrain : Nat := 2
def lnkLock : Nat := 3
def lnkExchange : Nat := 4
def lnkActive : Nat := 5

/-! FAIL codes of R404, and the other causes of event 0x0F02 (DESIGN CHOICE, notes/assumptions/33.md). -/
def failTrain : Nat := 2
def failLock : Nat := 3
def failExchange : Nat := 4
def failRole : Nat := 5
def failWidth : Nat := 6
def causeDisabled : Nat := 8
def causeRetrain : Nat := 9
def causeDown : Nat := 10

def lnkState (q : Nat) (s : State) : Nat := s.get (LNK_STAT_STATE q)

/-- A link's engine at rest: nothing queued, numbers from 0, the partner's 64 flits of room. -/
def link0 (q : Nat) : LinkEng :=
  { q := q, backoff := false, txq := [], sent := [], first := 0, again := 0, replays := 0, expect := 0, ackDue := false,
    nakDue := false, freed := 0, ctlDue := none, credits := 64, rx := [], laneErr := [], timeSent := none, delays := [],
    delayLane := 0, wire := none }

/-- The engine of link q. -/
def link (q : Nat) (s : State) : LinkEng := (s.casc.links.find? (fun x => x.q == q)).getD (link0 q)

/-- An engine put in its place by number. -/
def linkPut (x : LinkEng) : List LinkEng → List LinkEng
  | [] => [x]
  | y :: r => if x.q < y.q then x :: y :: r else if x.q = y.q then x :: r else y :: linkPut x r

/-- Link q's engine changed. -/
def modLink (q : Nat) (f : LinkEng → LinkEng) (s : State) : State :=
  { s with casc := { s.casc with links := linkPut (f (link q s)) s.casc.links } }

/-- A one-bit lane field set over a link from a mask. -/
def setLanes (q : Nat) (f : Nat → Fld) (m : Nat) (s : State) : State :=
  forNat 4 (fun i t => t.set (f (4 * q + i)) (if bit m i then 1 else 0)) s

/-- The mask of a one-bit lane field over a link. -/
def laneMask (q : Nat) (f : Nat → Fld) (s : State) : Nat :=
  (List.range 4).foldl (fun t i => if s.on (f (4 * q + i)) then t + 2 ^ i else t) 0

/-- The lowest-numbered `n` lanes of a mask. -/
def lowestLanes (n m : Nat) : Nat := (((List.range 4).filter (fun i => bit m i)).take n).foldl (fun t i => t + 2 ^ i) 0

/-- The lowest lane in use. -/
def lowestLane (q : Nat) (s : State) : Nat := ((List.range 4).find? (fun i => bit (s.get (LNK_STAT_LANES q)) i)).getD 0

/-- The current granted for a quad's domain (R403, R425). -/
def quadCurrent (q : Nat) (s : State) : Nat :=
  (List.range 128).foldl (fun t k =>
    if entGranted k s && s.get (SLU_ENT_CLASS k) == clsDomain && s.get (SLU_ENT_TARGET k) == 48 + q then t + s.get (SLU_ENT_CURRENT k)
    else t) 0

/-! ### Leaving ACTIVE and failing (R404) -/

/-- Cascade time is VALID while the UP link is ACTIVE, LANE is stable and the last TIME flit came in time with DELAY_OK
(R423); events 0x0F04 and 0x0F05 tell a change, with cause 0 link, 1 source, 2 flit. -/
def casEval (s : State) : State :=
  let v := upActive s && srcOk 2 s && s.casc.lastOk
  if v && !s.on CAS_TIME_VALID then
    raise 0x0F04 [⟨1, s.get CAS_TIME_HOPS⟩, ⟨3, s.get CAS_TIME_DELAY⟩] (s.set CAS_TIME_VALID 1)
  else if !v && s.on CAS_TIME_VALID then
    raise 0x0F05 [⟨1, if !upActive s then 0 else if !srcOk 2 s then 1 else 2⟩] (s.set CAS_TIME_VALID 0)
  else s

/-- The UP link went down: LANE is stable no more (R75) and Cascade time is invalid. -/
def upDown (q : Nat) (s : State) : State :=
  if s.on (LNK_CTL_ROLE q) then
    let s := { s with casc := { s.casc with lastOk := false, fresh := false, next := none } }
    casEval (if srcOk 2 s then srcLost 2 s else s)
  else s

/-- The link leaves its state for one of bring-up or OFF: its lanes are no longer in use. -/
def lnkGo (q st : Nat) (s : State) : State :=
  let was := linkActive q s
  let s := ((((s.set (LNK_STAT_STATE q) st).set (LNK_STAT_LANES q) 0).set (LNK_STAT_WIDTH q) 0).set (LNK_STAT_RXSLEEP q) 0).set
    (LNK_STAT_TXSLEEP q) 0
  if was then upDown q s else s

/-- A link begins TRAIN: its transmitters start at the taps of LANE_CTL (R405). -/
def beginTrain (q : Nat) (s : State) : State :=
  let s := setLanes q LANE_STAT_GOOD 0 (setLanes q LANE_STAT_SYMLOCK 0 (setLanes q LANE_STAT_BITLOCK 0 (lnkGo q lnkTrain s)))
  forNat 4 (fun i t =>
    let l := 4 * q + i
    { t with casc := { t.casc with
        taps := spSet l (65536 * t.get (LANE_CTL_PRE l) + 256 * t.get (LANE_CTL_MAIN l) + t.get (LANE_CTL_POST l)) t.casc.taps } }) s

/-- The link returns to DETECT after 1 ms: its buffers are lost (R404, R428). -/
def lnkBackoff (q : Nat) (s : State) : State := modLink q (fun _ => { link0 q with backoff := true }) (lnkGo q lnkOff s)

/-- A failure (R404). -/
def lnkFail (q code : Nat) (s : State) : State :=
  raise 0x0F02 [⟨1, q⟩, ⟨1, code⟩] (lnkBackoff q (s.set (LNK_STAT_FAIL q) code))

/-- The link leaves ACTIVE for a cause. -/
def lnkLeft (q cause : Nat) (s : State) : State :=
  if linkActive q s then raise 0x0F02 [⟨1, q⟩, ⟨1, cause⟩] s else s

/-- A retrain keeps flits and buffers: what was sent and not acknowledged is sent again (R412). -/
def retrain (q : Nat) (s : State) : State :=
  modLink q (fun x => { x with again := 0, replays := 0, laneErr := [], ctlDue := none }) (beginTrain q (lnkLeft q causeRetrain s))

/-- The link goes to OFF with its buffers emptied. -/
def lnkStop (q cause : Nat) (s : State) : State :=
  let s := modLink q (fun _ => link0 q) (lnkGo q lnkOff (lnkLeft q cause s))
  [LANE_STAT_SIGNAL, LANE_STAT_PRBS_LOCK, LANE_STAT_SYMLOCK, LANE_STAT_BITLOCK, LANE_STAT_GOOD].foldl (fun t f => setLanes q f 0 t) s

/-- An enabled link of an ON quad starts: bring-up in DETECT, or its PRBS or loopback mode (R404, R414). -/
def lnkStart (q : Nat) (s : State) : State :=
  let s := modLink q (fun _ => link0 q) s
  if s.get (LNK_CTL_MODE q) = 0 then s.set (LNK_STAT_STATE q) lnkDetect else s

/-! ### Registers (R426) -/

/-- Control cores 0 and 1, and the field interface for an installer or maker. -/
def lanesWriter (a : Agent) : Bool := a.core01 || a.fieldIM

/-- NOUP, UPLINK and a root's hop count follow the roles (R419). -/
def casRoles (s : State) : State :=
  match upLink s with
  | some q => casEval ((s.set CAS_TIME_NOUP 0).set CAS_TIME_UPLINK q)
  | none => casEval ((((s.set CAS_TIME_NOUP 1).set CAS_TIME_UPLINK 0).set CAS_TIME_HOPS 0).set CAS_TIME_BEYOND 0)

/-- A write of LNK_CTL (R403, R411, R414, R419, R426, R565). -/
def wrLnkCtl (a : Agent) (q v : Nat) (s : State) : Status × State :=
  let en := (LNK_CTL_EN q).hit v
  let was := s.on (LNK_CTL_EN q)
  let fixed := [LNK_CTL_DEG_LIM q, LNK_CTL_SLEEP_IDLE q, LNK_CTL_AUTOLOCK q, LNK_CTL_MODE q, LNK_CTL_TIME_EN q, LNK_CTL_MAXW q,
    LNK_CTL_ROLE q]
  let maxw := (LNK_CTL_MAXW q).of v
  if !lanesWriter a then (.denied, s)
  else if en && !was && !domOn (48 + q) s then (.asleep, s)
  else if (LNK_CTL_DEG_LIM q).of v = 0 ∨ maxw = 3 then (.range, s)
  else if was ∧ fixed.any (fun f => s.changes f v) then (.range, s)
  else if (LNK_CTL_ROLE q).hit v ∧ s.changes (LNK_CTL_ROLE q) v ∧ (upLink s).isSome then (.range, s)
  else if maxw ≠ 0 ∧ s.get (LNK_CTL_MAXW q) = 0 ∧ domOn (48 + q) s ∧ quadCurrent q s = 4 then (.range, s)
  else
    let t := casRoles (writeFlds (LNK_CTL_fields q) v s)
    (.done,
      if en && !was then lnkStart q t
      else if !en && was then lnkStop q causeDisabled t
      else if (LNK_CTL_RETRAIN q).hit v && linkActive q t then retrain q t
      else t)

/-- LNK_CTL's fields as they stand, but for EN and RETRAIN. -/
def lnkCtlNow (q : Nat) (s : State) : Nat :=
  let v := readFlds (LNK_CTL_fields q) s
  v - v % 2

/-- Two ranges of stations share one; a range with FIRST above LAST is empty (R416). -/
def stationsMeet (f1 l1 f2 l2 : Nat) : Bool := decide (f1 ≤ l1) && decide (f2 ≤ l2) && decide (f1 ≤ l2) && decide (f2 ≤ l1)

/-- A write of LNK_RANGE. -/
def wrLnkRange (a : Agent) (q v : Nat) (s : State) : Status × State :=
  let f := (LNK_RANGE_FIRST q).of v
  let l := (LNK_RANGE_LAST q).of v
  if !lanesWriter a then (.denied, s)
  else if (List.range 16).any (fun p => p != q && stationsMeet f l (s.get (LNK_RANGE_FIRST p)) (s.get (LNK_RANGE_LAST p))) then (.range, s)
  else (.done, writeFlds (LNK_RANGE_fields q) v s)

/-- A write of LNK_ASYM: none while EN is 1 (R426, R565). -/
def wrLnkAsym (a : Agent) (q v : Nat) (s : State) : Status × State :=
  if !lanesWriter a then (.denied, s)
  else if s.on (LNK_CTL_EN q) then (.range, s)
  else (.done, writeFlds (LNK_ASYM_fields q) v s)

/-- Taps within R405. -/
def tapsOk (pre main post : Nat) : Bool :=
  decide (pre ≤ 7) && decide (20 ≤ main) && decide (main ≤ 40) && decide (post ≤ 15) && decide (pre + main + post ≤ 48)

/-- SLIP moves the flit boundary one bit later where AUTOLOCK is 0 (R406). -/
def slipLane (l : Nat) (s : State) : State :=
  if s.on (LNK_CTL_AUTOLOCK (l / 4)) then s
  else { s with casc := { s.casc with slip := spSet l ((spGet l s.casc.slip + 1) % 320) s.casc.slip } }

/-- INJ inverts one transmitted bit, which the lane's own checker sees in NEAR_LOOP (R414). -/
def injectLane (l : Nat) (s : State) : State :=
  if s.get (LNK_CTL_MODE (l / 4)) = 2 ∧ s.on (LANE_STAT_PRBS_LOCK l) then s.count (LANE_STAT_ERRORS l) 1 else s

/-- A write of LANE_CTL. -/
def wrLaneCtl (a : Agent) (l v : Nat) (s : State) : Status × State :=
  let tap := s.changes (LANE_CTL_PRE l) v || s.changes (LANE_CTL_MAIN l) v || s.changes (LANE_CTL_POST l) v
  if !lanesWriter a then (.denied, s)
  else if !tapsOk ((LANE_CTL_PRE l).of v) ((LANE_CTL_MAIN l).of v) ((LANE_CTL_POST l).of v) then (.range, s)
  else if s.on (LNK_CTL_EN (l / 4)) && tap then (.range, s)
  else
    -- another pattern: the checker has yet to lock on it
    let s := s.setIf (s.changes (LANE_CTL_PRBS l) v) (LANE_STAT_PRBS_LOCK l) 0
    let s := writeFlds (LANE_CTL_fields l) v s
    let s := if (LANE_CTL_SLIP l).hit v then slipLane l s else s
    (.done, if (LANE_CTL_INJ l).hit v then injectLane l s else s)

/-- A write of another register of window 0x0F. -/
def wrLanesPlain (l : List (Acc × Fld)) (a : Agent) (v : Nat) (s : State) : Status × State :=
  if !lanesWriter a then (.denied, s) else (.done, writeFlds l v s)

/-! ### Bring-up commands -/

/-- LINK_ENABLE (R403, R404, R414): LNK_CTL written with EN. -/
def execLinkEnable (a : Agent) (q : Fin 16) (v : Nat) (s : State) : Out := ok (answered (wrLnkCtl a q.val (putBit v 0 true) s))

/-- LINK_DISABLE (R404). -/
def execLinkDisable (a : Agent) (q : Fin 16) (s : State) : Out := ok (answered (wrLnkCtl a q.val (lnkCtlNow q.val s) s))

/-- LINK_RETRAIN (R404, R412). -/
def execLinkRetrain (a : Agent) (q : Fin 16) (s : State) : Out :=
  ok (answered (wrLnkCtl a q.val (lnkCtlNow q.val s + 2048 + s.get (LNK_CTL_EN q.val)) s))

/-- LINK_DETECT_PROBE (R404). -/
def execLinkDetectProbe (q : Fin 16) (seen : Bool) (s : State) : Out :=
  whenOk (lnkState q.val s == lnkDetect && seen) s (beginTrain q.val s)

/-- The taps of a lane in training after a request, if they stay within R405. -/
def tapStep (l : Nat) (tap : Tap) (up : Bool) (s : State) : Option Nat :=
  let x := spGet l s.casc.taps
  let pre := x / 65536
  let main := x / 256 % 256
  let post := x % 256
  let step (n : Nat) : Option Nat := if up then some (n + 1) else if n = 0 then none else some (n - 1)
  let y : Option (Nat × Nat × Nat) := match tap with
    | .pre => (step pre).map (fun n => (n, main, post))
    | .main => (step main).map (fun n => (pre, n, post))
    | .post => (step post).map (fun n => (pre, main, n))
  match y with
  | some (a, b, c) => if tapsOk a b c then some (65536 * a + 256 * b + c) else none
  | none => none

/-- TAP_CHANGE_REQUEST (R405): DONE, or RANGE for LIMIT. -/
def execTapChangeRequest (l : Fin 64) (tap : Tap) (up : Bool) (s : State) : Out :=
  whenOk (lnkState (l.val / 4) s == lnkTrain) s
    (match tapStep l.val tap up s with
     | some x => answer .done { s with casc := { s.casc with taps := spSet l.val x s.casc.taps } }
     | none => answer .range s)

/-- TRAIN_END (R404): the lanes whose eye is open have a signal and are GOOD, the others are given up. -/
def execTrainEnd (q : Fin 16) (eyes : Nat) (s : State) : Out :=
  whenOk (lnkState q.val s == lnkTrain) s
    ((setLanes q.val LANE_STAT_SIGNAL eyes (setLanes q.val LANE_STAT_GOOD eyes s)).set (LNK_STAT_STATE q.val) lnkLock)

/-- TRAIN_TIMEOUT (R404). -/
def execTrainTimeout (q : Fin 16) (s : State) : Out := whenOk (lnkState q.val s == lnkTrain) s (lnkFail q.val failTrain s)

/-- SLIP (R406): a write of LANE_CTL with SLIP, its other fields as they stand. -/
def execSlip (a : Agent) (l : Fin 64) (s : State) : Out :=
  ok (answered (wrLaneCtl a l.val (2 ^ 31 + readFlds (LANE_CTL_fields l.val) s) s))

/-- LOCK_END (R402, R406): trained lanes with symbol lock, and those received inverted. -/
def execLockEnd (q : Fin 16) (locked inverted : Nat) (s : State) : Out :=
  let m := Nat.land locked (laneMask q.val LANE_STAT_GOOD s)
  let t := setLanes q.val LANE_STAT_SYMLOCK m (setLanes q.val LANE_STAT_BITLOCK m (setLanes q.val LANE_STAT_GOOD m s))
  whenOk (lnkState q.val s == lnkLock) s ((t.set (LNK_STAT_POLINV q.val) (Nat.land inverted m)).set (LNK_STAT_STATE q.val) lnkExchange)

/-- LOCK_TIMEOUT (R404): only with AUTOLOCK. -/
def execLockTimeout (q : Fin 16) (s : State) : Out :=
  whenOk (lnkState q.val s == lnkLock && s.on (LNK_CTL_AUTOLOCK q.val)) s (lnkFail q.val failLock s)

/-- The width code of so many lanes: 2 for four, 1 for two or three, 0 for one. -/
def widthOf (n : Nat) : Nat := if 4 ≤ n then 2 else if 2 ≤ n then 1 else 0

/-- The widest code a link may take: MAXW, and x1 under a 4-unit grant (R403). -/
def widthMax (q : Nat) (s : State) : Nat := if quadCurrent q s = 4 then 0 else s.get (LNK_CTL_MAXW q)

/-- Both ends agree: the link is ACTIVE on its lowest usable lanes, and the taps in use are copied (R405, R407). -/
def lnkUp (q : Nat) (cap : Capability) (m : Nat) (s : State) : State :=
  let w := min (widthOf (popCount 4 m)) (min (widthMax q s) cap.maxw)
  let s := (((s.set (LNK_STAT_STATE q) lnkActive).set (LNK_STAT_WIDTH q) w).set (LNK_STAT_LANES q) (lowestLanes (2 ^ w) m)).set
    (LNK_STAT_PARTNER q) cap.station
  let s := forNat 4 (fun i t =>
    let l := 4 * q + i
    let x := spGet l t.casc.taps
    ((t.set (LANE_CTL_PRE l) (x / 65536)).set (LANE_CTL_MAIN l) (x / 256 % 256)).set (LANE_CTL_POST l) (x % 256)) s
  let s := raise 0x0F01 [⟨1, q⟩, ⟨1, w⟩, ⟨3, cap.station⟩] s
  let s := if !s.on (LNK_CTL_ROLE q) && (decide (cap.station < s.get (LNK_RANGE_FIRST q)) || decide (s.get (LNK_RANGE_LAST q) < cap.station)) then
      raise 0x0F0A [⟨1, q⟩, ⟨3, cap.station⟩] s
    else s
  casEval s

/-- EXCHANGE_END (R407). -/
def execExchangeEnd (q : Fin 16) (cap : Capability) (s : State) : Out :=
  let m := Nat.land (laneMask q.val LANE_STAT_SYMLOCK s) cap.lanes
  whenOk (lnkState q.val s == lnkExchange) s
    (if cap.up = s.on (LNK_CTL_ROLE q.val) then lnkFail q.val failRole s
     else if popCount 4 m = 0 then lnkFail q.val failWidth s
     else lnkUp q.val cap m s)

/-- EXCHANGE_TIMEOUT (R404). -/
def execExchangeTimeout (q : Fin 16) (s : State) : Out :=
  whenOk (lnkState q.val s == lnkExchange) s (lnkFail q.val failExchange s)

/-- LINK_FAIL_BACKOFF (R404): 1 ms has passed. -/
def execLinkFailBackoff (q : Fin 16) (s : State) : Out :=
  whenOk ((link q.val s).backoff && s.on (LNK_CTL_EN q.val)) s (lnkStart q.val s)

/-- SYMBOL_LOCK_LOSS (R404, R406, R413): a lane loses symbol lock, and its signal where the partner went down; an ACTIVE link
that is not asleep and has no lane in use left with symbol lock, or has lost its signal, goes down. -/
def execSymbolLockLoss (l : Fin 64) (lost : Bool) (s : State) : Out :=
  let q := l.val / 4
  let t := s.set (LANE_STAT_SYMLOCK l.val) 0
  let t := if lost then (t.set (LANE_STAT_BITLOCK l.val) 0).set (LANE_STAT_SIGNAL l.val) 0 else t
  let used := bit (s.get (LNK_STAT_LANES q)) (l.val % 4)
  let none_ := Nat.land (laneMask q LANE_STAT_SYMLOCK t) (s.get (LNK_STAT_LANES q)) == 0
  ok (if linkActive q s && used && !s.on (LNK_STAT_RXSLEEP q) && (lost || none_) then lnkBackoff q (lnkLeft q causeDown t) else t)

/-! ### Width (R411, R412, R425) -/

/-- A link narrows in place to the lanes of a mask, for a lane dropped, which is not GOOD until the next TRAIN: what is not acknowledged
is sent again, the partner is told, DEGRADES counts it, and event 0x0F03 is raised. -/
def narrowTo (q lanes dropped : Nat) (s : State) : State :=
  let w := widthOf (popCount 4 lanes)
  let s := ((s.set (LNK_STAT_LANES q) lanes).set (LNK_STAT_WIDTH q) w).set (LANE_STAT_GOOD (4 * q + dropped % 4)) 0
  let s := modLink q (fun x => { x with again := 0, ctlDue := some dropped, laneErr := [] }) (s.count (LNK_ERR_DEGRADES q) 1)
  raise 0x0F03 [⟨1, q⟩, ⟨1, dropped⟩, ⟨1, w⟩] s

/-- A lane of a link wider than x1 is dropped; an x1 link, or one with no usable lane left, retrains. -/
def dropLane (q i : Nat) (s : State) : State :=
  let w := s.get (LNK_STAT_WIDTH q)
  let t := s.set (LANE_STAT_GOOD (4 * q + i)) 0
  let m := lowestLanes (2 ^ (w - 1)) (Nat.land (laneMask q LANE_STAT_GOOD t) (laneMask q LANE_STAT_SYMLOCK t))
  if w = 0 ∨ m = 0 then retrain q s else narrowTo q m i t

/-- QUIET narrows a link to x1 (R425): the lanes that leave use are dropped; the event names the highest. -/
def narrowQuiet (q : Nat) (s : State) : State :=
  let old := s.get (LNK_STAT_LANES q)
  if !linkActive q s || s.get (LNK_STAT_WIDTH q) == 0 then s
  else
    let new := lowestLanes 1 old
    let top := ((List.range 4).filter (fun i => bit old i && !bit new i)).foldl max 0
    narrowTo q new top (setLanes q LANE_STAT_GOOD (Nat.land (laneMask q LANE_STAT_GOOD s) (15 - Nat.land old (15 - new))) s)

/-! ### Flits (R408 to R410, R413) -/

/-- The flit is sequenced (R409). -/
def sequenced (t : FlitType) : Bool := t == .payload || t == .time || t == .echo

/-- A PAYLOAD flit waits for a credit (R410). -/
def sendable (x : LinkEng) (f : OutFlit) : Bool := f.type != .payload || decide (0 < x.credits)

/-- The first waiting flit that may go. -/
def nextFlit (x : LinkEng) : Option OutFlit := if x.sent.length ≥ 256 then none else x.txq.find? (sendable x)

/-- The transmitter sends a flit of its choice: a replay, a LINKCTL flit that names the lanes left and the lane dropped, a new sequenced
flit, else IDLE; each carries ACKSEQ, NAK and up to 7 credits. The payload of a LINKCTL flit is PRESUMED (notes/assumptions/48.md). -/
def flitSend (x : LinkEng) (lanes : Nat) : LinkEng :=
  let go (f : OutFlit) (y : LinkEng) : LinkEng :=
    { y with wire := some (f, (y.expect + 4095) % 4096, y.nakDue, min 7 y.freed), ackDue := false, nakDue := false, freed := y.freed - min 7 y.freed }
  match x.ctlDue with
  | some i => go ⟨.linkctl, false, toBytes 1 lanes ++ toBytes 1 i⟩ { x with ctlDue := none }
  | none => match x.sent[x.again]? with
    | some f => go f { x with again := x.again + 1 }
    | none =>
      match nextFlit x with
      | some f => go f { x with
          txq := x.txq.erase f, sent := x.sent ++ [f], again := x.sent.length + 1
          credits := if f.type = .payload then x.credits - 1 else x.credits }
      | none => go ⟨.idle, false, []⟩ x

/-- The code of a flit's TYPE (R408). -/
def flitCode : FlitType → Nat
  | .idle => 0 | .payload => 1 | .time => 2 | .echo => 3 | .linkctl => 4 | .sleep => 5 | .reserved => 6

/-- The CRC of a flit (R409): over the fold value, the bytes of HDR and ACK, and the payload. -/
def flitCrc (fold : Nat) (hdr ack payload : List Byte) : Nat := crc32 (toBytes 4 fold ++ hdr ++ ack ++ payload)

/-- The 40 bytes of the flit that a transmitter has just sent, before scrambling (R408, R409): the fold value of a sequenced flit is its
sequence number, which the bytes do not hold. -/
def wireBytes (x : LinkEng) : List Byte :=
  match x.wire with
  | none => []
  | some (f, ackSeq, nak, credits) =>
    let hdr := toBytes 1 (flitCode f.type + if f.last then 8 else 0)
    let ack := toBytes 2 (ackSeq + (if nak then 4096 else 0) + 8192 * credits)
    let pay := (f.payload ++ List.replicate 32 0).take 32
    let fold := if sequenced f.type then (x.first + x.again + 4095) % 4096 else 0xFFFFFFFF
    toBytes 1 0xB4 ++ hdr ++ ack ++ pay ++ toBytes 4 (flitCrc fold hdr ack pay)

/-- The next bit of a pattern from the bits before it, the newest first (R414): 1 PRBS7, 2 PRBS15, 3 PRBS31, which also scrambles flits
(R408). -/
def prbsNext (p : Nat) (before : List Bool) : Bool :=
  let at_ (n : Nat) : Bool := (before[n - 1]?).getD false
  if p = 1 then at_ 7 != at_ 6 else if p = 2 then at_ 15 != at_ 14 else at_ 31 != at_ 28

/-- Acknowledged flits leave the replay buffer. -/
def ackTo (n : Nat) (x : LinkEng) : LinkEng :=
  let k := (n + 4097 - x.first) % 4096
  if k = 0 ∨ x.sent.length < k then x
  else { x with sent := x.sent.drop k, first := (x.first + k) % 4096, again := x.again - k, replays := 0 }

/-- What a good flit says of the other direction: acknowledgement, replay, credits. The answer tells a NAK after 8 replays of
one flit (R412). -/
def takeAck (f : Flit) (x : LinkEng) : Bool × LinkEng :=
  let x := ackTo f.ackSeq { x with credits := min 64 (x.credits + f.credits) }
  if f.nak && !x.sent.isEmpty then
    if x.replays ≥ 8 then (true, x) else (false, { x with again := 0, replays := x.replays + 1 })
  else (false, x)

/-- A CRC failure (R408, R410, R411): counted on the link and its lane; NAK is returned; a lane past DEG_LIM is dropped. -/
def flitBad (q lane : Nat) (s : State) : State :=
  let n := spGet lane (link q s).laneErr + 1
  let s := modLink q (fun x => { x with nakDue := true, laneErr := spSet lane n x.laneErr })
    ((s.count (LNK_ERR_CRC_ERR q) 1).count (LANE_STAT_ERRORS (4 * q + lane)) 1)
  if n > s.get (LNK_CTL_DEG_LIM q) then dropLane q lane s else s

/-- A good flit. -/
def flitGood (q : Nat) (f : Flit) (s : State) : State :=
  let y := takeAck f (link q s)
  let s := if f.nak && !(link q s).sent.isEmpty && !y.1 then s.count (LNK_ERR_REPLAYS q) 1 else s
  let s := modLink q (fun _ => y.2) (s.set (LNK_STAT_RXSLEEP q) (if f.type = .sleep then 1 else 0))
  if y.1 then retrain q s
  else if sequenced f.type then
    modLink q (fun x => { x with
      expect := (x.expect + 1) % 4096, ackDue := true
      rx := if f.type = .payload then x.rx ++ [⟨.payload, f.last, f.payload⟩] else x.rx }) s
  else if f.type = .linkctl then
    let m := Nat.land (ofBytes (f.payload.take 1)) (s.get (LNK_STAT_LANES q))
    if popCount 4 m = 0 ∨ m = s.get (LNK_STAT_LANES q) then s
    else modLink q (fun x => { x with ctlDue := none }) (narrowTo q m (ofBytes (slice 1 1 f.payload)) s)
  else s

/-- FLIT_RECEIVE (R408 to R413). -/
def execFlitReceive (q : Fin 16) (lane : Fin 4) (crcOk : Bool) (f : Flit) (s : State) : Out :=
  whenOk (linkActive q.val s && bit (s.get (LNK_STAT_LANES q.val)) lane.val) s
    (if crcOk && f.type != .reserved then flitGood q.val f s else flitBad q.val lane.val s)

/-- Nothing is owed to the partner and nothing waits (R413). -/
def linkIdle (x : LinkEng) : Bool := x.txq.isEmpty && !x.ackDue && !x.nakDue && x.freed == 0 && x.ctlDue.isNone && x.again == x.sent.length

/-- LINK_SLEEP (R413). -/
def execLinkSleep (q : Fin 16) (s : State) : Out :=
  let timed := !s.on (LNK_CTL_ROLE q.val) && s.on (LNK_CTL_TIME_EN q.val)
  whenOk (linkActive q.val s && s.on (LNK_CTL_SLEEP_EN q.val) && !s.on (LNK_STAT_TXSLEEP q.val) && !timed && linkIdle (link q.val s)) s
    (modLink q.val (fun x => { x with wire := some (⟨.sleep, false, []⟩, (x.expect + 4095) % 4096, false, 0) })
      (s.set (LNK_STAT_TXSLEEP q.val) 1))

/-- LINK_WAKE (R413): the direction has a flit to send. -/
def execLinkWake (q : Fin 16) (s : State) : Out :=
  whenOk (s.on (LNK_STAT_TXSLEEP q.val) && !linkIdle (link q.val s)) s (s.set (LNK_STAT_TXSLEEP q.val) 0)

/-! ### PRBS (R414) -/

/-- PRBS_INJECT (R414): LANE_CTL written with INJ, its other fields as they stand. -/
def execPrbsInject (a : Agent) (l : Fin 64) (s : State) : Out :=
  ok (answered (wrLaneCtl a l.val (2 ^ 30 + readFlds (LANE_CTL_fields l.val) s) s))

/-- PRBS_CHECKER_LOCK (R414): the checker has locked and counts wrong bits. -/
def execPrbsCheckerLock (l : Fin 64) (wrong : Nat) (s : State) : Out :=
  let q := l.val / 4
  let m := s.get (LNK_CTL_MODE q)
  whenOk (s.on (LNK_CTL_EN q) && domRuns (48 + q) s && (m == 1 || m == 2) && s.get (LANE_CTL_PRBS l.val) != 0) s
    ((s.set (LANE_STAT_PRBS_LOCK l.val) 1).count (LANE_STAT_ERRORS l.val) wrong)

/-! ### Hooks -/

/-- A quad enters LOWERING (R428). -/
def lanesLower (q : Nat) (s : State) : State := lnkStop q causeDown s

/-- A quad reaches ON: an enabled link starts. -/
def lanesReachOn (q : Nat) (s : State) : State := if s.on (LNK_CTL_EN q) && lnkState q s == lnkOff then lnkStart q s else s

/-- A DOMAIN reset of quad q (R427). -/
def lanesReset (q : Nat) (s : State) : State :=
  let s := lnkStop q causeDown s
  if s.on (LNK_CTL_EN q) && domOn (48 + q) s then lnkStart q s else s

/-- Lane failures are counted by frame (R411). -/
def lanesTick (s : State) : State :=
  { s with casc := { s.casc with links := s.casc.links.map (fun x => { x with laneErr := [] }) } }

end Sys2Proof.Machine
end

