-- ==== Sys2Proof/Machine/Cascade.lean ====
section
/-! DEFINITION. Cascade federation: messages between stations and the time base (chapter 18). -/
namespace Sys2Proof.Machine

/-- The station number that means unset, and every station as a destination (R415, R416). -/
def noStation : Nat := 0x3FFFF

/-! ### Routing (R416) -/

/-- The ACTIVE links of a role. -/
def activeLinks (up : Bool) (s : State) : List Nat := (List.range 16).filter (fun q => linkActive q s && s.on (LNK_CTL_ROLE q) == up)

/-- Where a message goes: whether to the receive ring, and the links. A part with no station takes only broadcasts (R415). -/
def casRoute (src : Option Nat) (dest : Nat) (s : State) : Bool × List Nat :=
  let ups := activeLinks true s
  if dest = noStation then (true, activeLinks false s ++ ups.filter (fun q => src != some q))
  else if s.get CAS_CTL_STATION = noStation then (false, [])
  else if dest = s.get CAS_CTL_STATION then (true, [])
  else match (activeLinks false s).find? (fun q => decide (s.get (LNK_RANGE_FIRST q) ≤ dest) && decide (dest ≤ s.get (LNK_RANGE_LAST q))) with
    | some q => (false, [q])
    | none => (false, ups.take 1)

/-- Entries of the receive ring. -/
def casRingSize (s : State) : Nat := if s.get CAS_RX_CFG_LOG2 = 0 then 0 else 2 ^ s.get CAS_RX_CFG_LOG2

/-- A message dropped (R418): event 0x0F09 tells the frame's number at the tick. -/
def casDrop (s : State) : State :=
  { s.count CAS_STAT_RX_DROP 1 with casc := { s.casc with dropFrame := s.casc.dropFrame + 1 } }

/-- A message written to the receive ring, its flits back to back in 512 bytes (R418). -/
def casStore (flits : List OutFlit) (s : State) : State :=
  let n := casRingSize s
  let wr := s.get CAS_RX_PTR_WR
  if n = 0 ∨ n ≤ wrap 32 ((wr : Int) - s.get CAS_RX_PTR_RD) then casDrop s
  else
    let b := flits.flatMap (·.payload)
    let a := s.get CAS_RX_CFG_BASE + 512 * (wr % n)
    let x := nocSave 51 a 8 (b ++ List.replicate (512 - b.length) 0) s
    if x.1 = .done then x.2.set CAS_RX_PTR_WR (wr + 1) else casDrop x.2

/-- A message's flits put on their way; with nowhere to go they are counted (R416). -/
def casDeliver (src : Option Nat) (flits : List OutFlit) (s : State) : State :=
  let dest := match flits.head? with | some f => ofBytes (f.payload.take 8) % 2 ^ 18 | none => noStation
  let r := casRoute src dest s
  let s := if r.1 then casStore flits s else s
  if !r.1 && r.2.isEmpty then raise 0x0F08 [⟨3, dest⟩] (s.count CAS_STAT_NOROUTE 1)
  else forEach r.2 (fun q t => modLink q (fun x => { x with txq := x.txq ++ flits }) t) s

/-- MESSAGE_RECEIVE (R416, R418): the oldest whole message that a link has received; its credits go back. -/
def execMessageReceive (q : Fin 16) (s : State) : Out :=
  let x := link q.val s
  match x.rx.findIdx? (·.last) with
  | none => ok s
  | some i =>
    ok (casDeliver (some q.val) (x.rx.take (i + 1))
      (modLink q.val (fun y => { y with rx := y.rx.drop (i + 1), freed := y.freed + i + 1 }) s))

/-! ### Sending (R417) -/

/-- The flits of a message of the send queue from its bytes in HBM: the part fills in the header. -/
def casFlits (m : CasMsg) (b : List Byte) (s : State) : List OutFlit :=
  let hdr := m.dest + s.get CAS_CTL_STATION * 2 ^ 18 + (m.len - 1) * 2 ^ 36 + m.tag * 2 ^ 40
  let b := toBytes 8 hdr ++ b.drop 8
  (List.range m.len).map (fun i => ⟨.payload, i + 1 == m.len, slice (32 * i) 32 b⟩)

/-- Some ACTIVE link leads toward a station, or it is the part itself. -/
def casLeads (dest : Nat) (s : State) : Bool :=
  let r := casRoute none dest s
  !r.2.isEmpty || (r.1 && dest != noStation)

/-- The message at the head of the send queue leaves it, read from HBM and put on its way; it waits while HBM does not serve. -/
def casPop (s : State) : State :=
  match s.casc.queue with
  | [] => s
  | m :: r =>
    let x := nocLoad 51 m.addr (ceilDiv m.len 2) s
    if x.1 = .asleep ∨ x.1 = .retry then x.2.2
    else
      let t := { x.2.2 with casc := { x.2.2.casc with queue := r } }
      if x.1 = .done then casDeliver none (casFlits m x.2.1 s) t else t

/-- Messages of the part to itself at the head of the send queue need no link. -/
def casSelf (s : State) : State :=
  forNat 64 (fun _ t => match t.casc.queue.head? with
    | some m => if m.dest = t.get CAS_CTL_STATION ∧ m.dest ≠ noStation then casPop t else t
    | none => t) s

/-- A write of CAS_SEND. -/
def wrCasSend (a : Agent) (v : Nat) (s : State) : Status × State :=
  let dest := CAS_SEND_DEST.of v
  let m : CasMsg := ⟨CAS_SEND_TAG.of v, dest, CAS_SEND_LEN.of v + 1, CAS_SEND_ADDR.of v⟩
  if !(lanesWriter a || a.core03) then (.denied, s)
  else if m.addr % 64 ≠ 0 ∨ m.addr + 32 * m.len > hbmSize ∨ (249999 < dest ∧ dest ≠ noStation) ∨ s.get CAS_CTL_STATION = noStation then
    (.range, s)
  else if s.casc.queue.length ≥ 64 ∨ !casLeads dest s then (.retry, s)
  else (.done, casSelf { s with casc := { s.casc with queue := s.casc.queue ++ [m] } })

/-- CAS_SEND (R416, R417). -/
def execCasSend (a : Agent) (v : Nat) (s : State) : Out := ok (answered (wrCasSend a v s))

/-- The message at the head of the send queue is taken where link q is among its routes; it waits while no link leads toward it. -/
def casPump (q : Nat) (s : State) : State :=
  let s := casSelf s
  match s.casc.queue.head? with
  | some m => if q ∈ (casRoute none m.dest s).2 then casPop s else s
  | none => s

/-- FLIT_SEND (R408 to R410, R417): the transmitter of link q sends one flit. -/
def execFlitSend (q : Fin 16) (s : State) : Out :=
  let t := casPump q.val s
  whenOk (linkActive q.val s && !s.on (LNK_STAT_TXSLEEP q.val)) s
    (modLink q.val (fun x => flitSend x (t.get (LNK_STAT_LANES q.val))) t)

/-! ### Registers -/

/-- A write of CAS_CTL (R415). -/
def wrCasCtl (a : Agent) (v : Nat) (s : State) : Status × State :=
  let n := CAS_CTL_STATION.of v
  if !lanesWriter a then (.denied, s)
  else if 250000 ≤ n ∧ n < noStation then (.range, s) else (.done, writeFlds CAS_CTL_fields v s)

/-- A write of CAS_RX_CFG, by the rules of FC_LOG_CFG (R418). -/
def wrCasRxCfg (a : Agent) (v : Nat) (s : State) : Status × State :=
  let n := CAS_RX_CFG_LOG2.of v
  if !lanesWriter a then (.denied, s)
  else if (decide (1 ≤ n) && decide (n ≤ 6)) || decide (n > 26) || CAS_RX_CFG_BASE.of v % 4096 != 0 then (.range, s)
  else (.done, ((writeFlds CAS_RX_CFG_fields v s).set CAS_RX_PTR_RD 0).set CAS_RX_PTR_WR 0)

/-- A write of CAS_RX_PTR sets RD within the ring (R281, R418). -/
def wrCasRxPtr (a : Agent) (v : Nat) (s : State) : Status × State :=
  if !(lanesWriter a || a.core03) then (.denied, s)
  else if wrap 32 ((s.get CAS_RX_PTR_WR : Int) - CAS_RX_PTR_RD.of v) > casRingSize s then (.range, s)
  else (.done, writeFlds CAS_RX_PTR_fields v s)

/-- CAS_STAT.QUEUED. -/
def casQueued (s : State) : Nat := s.casc.queue.length

/-! ### Time (R419 to R424) -/

/-- DELAY of a link: the mean of the last 16 values of d, to the nearer q, and DELAY_OK; none of those of another lowest lane count
(R421). -/
def linkDelayOk (x : LinkEng) (lane : Nat) : Bool := x.delays.length == 16 && x.delayLane == lane
def linkDelay (x : LinkEng) (lane : Nat) : Nat :=
  if linkDelayOk x lane then (roundAway (x.delays.foldl (· + ·) 0) 32).toNat else 0

/-- The payload of a TIME flit (R420). -/
def timeBytes (f : TimeFlit) : List Byte :=
  toBytes 6 f.count ++ toBytes 3 f.period ++ toBytes 1 (f.hops % 128 + if f.hold then 128 else 0) ++ toBytes 5 f.lead ++
    toBytes 3 f.delay ++ toBytes 1 (if f.delayOk then 1 else 0) ++ toBytes 13 0

/-- The part's own time is held over: its last tick was a holdover tick, or not from the source named (R424). -/
def timeHold (s : State) : Bool := s.on FRM_STAT_HOLDOVER || s.get FRM_STAT_SRC_ACT != s.get FRM_CTL_SRC

/-- The period that the next tick will give (R87, R420): under CASCADE the one its flit names, else the one written. -/
def nextPeriod (s : State) : Nat :=
  if s.get FRM_STAT_SRC_ACT = 2 then (s.casc.next.map (·.period)).getD (s.get FRM_STAT_PERIOD_ACT) else s.get FRM_CTL_PERIOD

/-- TIME_FLIT_SEND (R420, R424): the flit for the next tick leaves a DOWN link at `t1` q, ahead of what waits. -/
def execTimeFlitSend (q : Fin 16) (t1 : Nat) (s : State) : Out :=
  let x := link q.val s
  let count := (frameCount s + 1) % 2 ^ 48
  let f : TimeFlit := ⟨count, nextPeriod s, s.get CAS_TIME_HOPS, timeHold s, 4 * s.clock.expectPs - t1, linkDelay x (lowestLane q.val s),
    linkDelayOk x (lowestLane q.val s)⟩
  whenOk (linkActive q.val s && !s.on (LNK_CTL_ROLE q.val) && s.on (LNK_CTL_TIME_EN q.val)) s
    (modLink q.val (fun y => { y with txq := ⟨.time, false, timeBytes f⟩ :: y.txq, timeSent := some (t1, count) }) s)

/-- ECHO_RECEIVE (R421): a new value of d; the sixteen start again when the lowest lane in use has changed. -/
def execEchoReceive (q : Fin 16) (t4 turn count : Nat) (s : State) : Out :=
  let x := link q.val s
  let lane := lowestLane q.val s
  match x.timeSent with
  | none => ok s
  | some (t1, c) =>
    let d2 : Int := (t4 : Int) - t1 - turn + sext 16 (s.get (LNK_ASYM_ASYM q.val))
    let old := if x.delayLane = lane then x.delays else []
    whenOk (linkActive q.val s && c == count) s
      (modLink q.val (fun y => { y with timeSent := none, delayLane := lane, delays := (old ++ [d2]).drop (old.length + 1 - 16) }) s)

/-- TIME_FLIT_RECEIVE (R420, R422 to R424): the next tick is placed at T and an ECHO is returned at once; a flit that comes after its
tick, or without DELAY_OK, is not used; HOPS above 6 sets BEYOND. -/
def execTimeFlitReceive (q : Fin 16) (arrival turn : Nat) (f : TimeFlit) (s : State) : Out :=
  let inTime := f.delayOk && decide (f.delay ≤ f.lead)
  let hops := min 15 (f.hops + 1)
  let t := (((s.setIf inTime CAS_TIME_DELAY f.delay).set CAS_TIME_HOLD (if f.hold then 1 else 0)).set CAS_TIME_HOPS hops).set CAS_TIME_BEYOND
    (if hops > 6 then 1 else 0)
  let t := if hops > 6 ∧ !s.on CAS_TIME_BEYOND then raise 0x0F07 [⟨1, hops⟩] t else t
  let t := { t with casc := { t.casc with
      next := some ⟨f.count, f.period, (arrival : Int) + f.lead - f.delay⟩, lastOk := inTime, fresh := inTime } }
  let t := modLink q.val (fun x => { x with txq := ⟨.echo, false, toBytes 4 turn ++ toBytes 6 f.count ++ toBytes 22 0⟩ :: x.txq }) t
  whenOk (linkActive q.val s && s.on (LNK_CTL_ROLE q.val)) s (casEval t)

/-- The pattern-clock edge nearest T, the earlier on a tie, in q (R422). -/
def nearestEdge (t : Int) (s : State) : Int :=
  let low := (t - s.casc.phase) / 4000 * 4000 + s.casc.phase
  if 2 * (t - low) ≤ 4000 then low else low + 4000

/-- A tick placed by Cascade: ERR, ALIGNED after 16 ticks within 100 q, and the steering of the phase until the next tick, at
most 1 ps per µs (R422). -/
def casTickPlaced (n : CasNext) (s : State) : State :=
  let e := nearestEdge n.t s - n.t
  let good := decide (e.natAbs ≤ 100)
  let k := if good then min 16 (s.casc.okTicks + 1) else 0
  let step := min e.natAbs (4 * n.period / 1000)
  let s := { s.set CAS_TIME_ERR (wrap 16 e) with casc := { s.casc with
      okTicks := k, phase := (s.casc.phase - (if e < 0 then -(step : Int) else step)) % 4000 } }
  if k = 16 && !s.on CAS_TIME_ALIGNED then raise 0x0F06 [⟨2, wrap 16 e⟩] (s.set CAS_TIME_ALIGNED 1)
  else if !good then s.set CAS_TIME_ALIGNED 0 else s

/-- What a tick ends: the flit for it is used, and without a new one Cascade time turns invalid (R423). -/
def casTick (s : State) : State :=
  let s := casSelf s
  let s := if s.casc.dropFrame = 0 then s else raise 0x0F09 [⟨4, s.casc.dropFrame⟩] s
  let s := { s with casc := { s.casc with dropFrame := 0, next := none, lastOk := s.casc.lastOk && s.casc.fresh, fresh := false } }
  casEval s

end Sys2Proof.Machine
end

