-- ==== Sys2Proof/Machine/RunCtl.lean ====
section
/-! DEFINITION. Halting, stepping and resuming cores (R521 to R524), and the end of the debug session (R520). Core k below 4
is a control core; k from 4 on is logical signal core k - 4. -/
namespace Sys2Proof.Machine

/-- Firmware has run on a control core: its registers are what that left (R525, notes/assumptions/40.md). -/
def coreRan (c : Nat) (s : State) : State :=
  let n := spGet c s.dbg.runs
  let s := forNat 32 (fun r t => t.set (DBG_CREG_VALUE c r) (Config.coreReg n c r)) s
  { s with dbg := { s.dbg with runs := spSet c (n + 1) s.dbg.runs, csr := spClear (2 ^ 32 * c) (2 ^ 32 * (c + 1)) s.dbg.csr } }

/-- A control core halts: event 0x1301 with its pc (R521). -/
def haltControl (c : Nat) (s : State) : State :=
  let s := (((coreRan c s).set (CORE_STAT_STATE c) coreHalt).set (DBG_RUN_HALTED c) 1)
  raise 0x1301 [⟨1, c⟩, ⟨8, s.get (DBG_CREG_VALUE c 0)⟩] s

/-- A control core starts a run after a reset: RHALT halts it before its first instruction (R524). -/
def coreStart (c : Nat) (s : State) : State :=
  let s := (s.set (CORE_STAT_STATE c) coreRun).set (DBG_RUN_HALTED c) 0
  if s.on (DBG_RUN_RHALT c) then haltControl c s else s

/-- The domain of core k. -/
def runDom (k : Nat) (s : State) : Nat := if k < 4 then 82 + k else scDom (k - 4) s

/-- Core k is in debug halt. -/
def runHalted (k : Nat) (s : State) : Bool := s.on (DBG_RUN_HALTED k)

/-- HALT (R521): a halted core stays as it is; a core whose domain is not ON is answered RANGE. -/
def haltCore (k : Nat) (s : State) : Status × State :=
  if runHalted k s then (.done, s)
  else if !domOn (runDom k s) s then (.range, s)
  else if k < 4 then (.done, haltControl k s)
  else (.done, haltDue (k - 4) (modSc (k - 4) (fun x => { x with haltReq := true }) s))

/-- RESUME (R523): the core goes on; a control core's watchdog restarts from a full PERIOD; event 0x1302. -/
def resumeCore (k : Nat) (s : State) : State :=
  if !runHalted k s then s
  else
    let s := (s.set (DBG_RUN_HALTED k) 0).set (DBG_RUN_STEPPING k) 0
    let s := if k < 4 then
        (s.set (CORE_STAT_STATE k) coreRun).setIf (s.on (WD_CTL_EN k)) (CORE_STAT_WD_LEFT k) (s.get (WD_CTL_PERIOD k))
      else s
    raise 0x1302 [⟨1, k⟩] s

/-- STEP (R523): one instruction of a halted core. A signal core executes it in the row of its instruction. -/
def stepCore (k : Nat) (s : State) : State :=
  if !runHalted k s then s
  else if k < 4 then coreRan k s
  else s.setIf (scState (k - 4) s == scRunning) (DBG_RUN_STEPPING k) 1

/-- What the debug session holds beside its register, forgotten. -/
def dbgForget (s : State) : State :=
  { s with sec := { s.sec with chal := spDel 8 s.sec.chal, chalAge := spDel 8 s.sec.chalAge, signer := spDel 8 s.sec.signer } }

/-- The debug session ends for a cause: 0 sign-out, 1 TRST_N, 2 idle, 3 reset, 4 tamper (R520). A HALT that has yet to stop its core is
withdrawn with it. -/
def dbgEnd (cause : Nat) (s : State) : State :=
  if s.get DBG_AUTH_CTL_ROLE = 0 then dbgForget s
  else
    let s := forNat 32 (fun c t => modSc c (fun x => { x with haltReq := false }) t) s
    let s := forNat 36 resumeCore ((s.set DBG_AUTH_CTL_ROLE 0).set DBG_CTL_SIDE 0)
    raise 0x1304 [⟨1, cause⟩] (dbgForget (s.set DBG_CTL_BREAKLEASE 0))

/-- A reset ends a halt in progress (R524, R534). -/
def haltCleared (k : Nat) (s : State) : State :=
  let s := (s.set (DBG_RUN_HALTED k) 0).set (DBG_RUN_STEPPING k) 0
  if 4 ≤ k then modSc (k - 4) (fun x => { x with haltReq := false }) s else s

end Sys2Proof.Machine
end

