-- ==== Sys2Proof/Machine/Security.lean ====
section
/-! DEFINITION. Roles and sign-in, the lifecycle, tamper, the Almanac and the ledger, attestation and the audit record
(chapter 20). -/
namespace Sys2Proof.Machine

/-! ### One-time memories (R465, R471, R472, R475) -/

/-! Lifecycle states of R465. -/
def lcBlank : Nat := 0
def lcMaker : Nat := 1
def lcField : Nat := 2
def lcRma : Nat := 3
def lcScrapped : Nat := 4

/-- k of R465: the bits programmed among bits 0 to 14. -/
def lcCount (s : State) : Nat := popCount 15 s.sec.lc

/-- The lifecycle state (R465). -/
def lcState (s : State) : Nat :=
  let k := lcCount s
  if bit s.sec.lc 15 then lcScrapped
  else if k = 0 then lcBlank else if k = 1 then lcMaker else if k % 2 = 0 then lcField else lcRma

/-- A byte of an edition. -/
def edByte (e i : Nat) (s : State) : Byte :=
  if e ∈ s.sec.badEd then Config.otpRaw e i else memGet 0 (4096 * e + i) s.sec.editions

/-- Bytes of an edition. -/
def edBytes (e lo n : Nat) (s : State) : List Byte := (List.range n).map (fun i => edByte e (lo + i) s)

/-- A field of an edition as a value. -/
def edField (e lo n : Nat) (s : State) : Nat := ofBytes (edBytes e lo n s)

/-- An edition is valid: MAGIC, FORMAT and DIGEST are right (R472). -/
def edValid (e : Nat) (s : State) : Bool :=
  decide (e < s.sec.used) && decide (e ∉ s.sec.badEd) && edField e 0 4 s == 0x4D4C4E41 && edField e 4 2 s == 1 &&
    edField e 4032 64 s == Config.sha3 (edBytes e 0 4032 s) % 2 ^ 512

/-- The newest valid edition (R472). -/
def newestEd (s : State) : Option Nat := (List.range 8).reverse.find? (fun e => edValid e s)

/-- The selected edition; none reads 0xF. -/
def selectedEd (s : State) : Option Nat := if s.get SEC_STAT_EDITION < 8 then some (s.get SEC_STAT_EDITION) else none

/-- A key hash of an edition: 64 bytes as a value. -/
def edKey (e base i : Nat) (s : State) : Nat := edField e (base + 64 * i) 64 s

/-- The non-zero key hashes of a role: an edition's, or the ROM root key hash for the maker when there is none or the part is
BLANK (R111, R460, R465). -/
def roleKeys (r : Role) (s : State) : List Nat :=
  match r with
  | .maker => (match (if lcState s = lcBlank then none else selectedEd s) with
    | some e => ((List.range 4).map (fun i => edKey e 48 i s)).filter (fun k => k != 0)
    | none => [Config.romRootKey % 2 ^ 512])
  | .installer => (match selectedEd s with
    | some e => ((List.range 8).map (fun i => edKey e 304 i s)).filter (fun k => k != 0)
    | none => [])
  | _ => []

/-- A record of the ledger: 16 bytes. -/
def ledgerRec (k : Nat) (s : State) : List Byte :=
  if k ∈ s.sec.badRec then (List.range 16).map (fun i => Config.otpRaw (8 + k) i) else memRead 0 (16 * k) 16 s.sec.ledger

/-- CRC-16-CCITT of the first 14 bytes of a record (R454). -/
def ledgerCrc (b : List Byte) : Nat := crcFeed 16 0x1021 false 0xFFFF (b.take 14)

/-- A record whose CRC matches (R476). -/
def recValid (k : Nat) (s : State) : Bool :=
  decide (k < s.sec.ledgerUsed) && decide (k ∉ s.sec.badRec) && ofBytes (slice 14 2 (ledgerRec k s)) == ledgerCrc (ledgerRec k s)

/-- SEC_STAT and SEC_TAMPER.FUSED show the one-time memories, but for the edition selected (R482). -/
def secShow (s : State) : State :=
  ((((s.set SEC_STAT_USED s.sec.used).set SEC_STAT_STATE (lcState s)).set SEC_STAT_LC_K (lcCount s)).set SEC_STAT_LEDGER
    s.sec.ledgerUsed).set SEC_TAMPER_FUSED s.sec.tamperBits

/-! ### The audit record (R479 to R481) -/

/-- A 128-byte entry goes to its place in bank 15, when the bank has power. -/
def auditStore (seq : Nat) (e : List Byte) (s : State) : State :=
  if domOn 93 s then forNat 16 (fun j t => spStore 15 (16 * (seq % 4096) + j) (ofBytes (slice (8 * j) 8 e)) t) s else s

/-- AUD_HEAD as bytes. -/
def audHead (s : State) : List Byte := (List.range 8).flatMap (fun k => toBytes 8 (s.get (AUD_HEAD_BYTES k)))

/-- The hash of an entry: previous head, then body (R480). -/
def audHash (head body : List Byte) : List Byte := toBytes 64 (Config.sha3 (head ++ body))

/-- A body made whole: SEQ and the frame count in their places (R481). -/
def audBody (body : List Byte) (s : State) : List Byte :=
  toBytes 8 (s.get AUD_SEQ_SEQ) ++ toBytes 6 (frameCount s) ++ slice 14 50 body

/-- An entry with its body whole joins the chain. -/
def audJoin (body : List Byte) (s : State) : State :=
  let h := audHash (audHead s) body
  let seq := s.get AUD_SEQ_SEQ
  let s := auditStore seq (body ++ h) s
  (forNat 8 (fun k t => t.set (AUD_HEAD_BYTES k) (ofBytes (slice (8 * k) 8 h))) s).set AUD_SEQ_SEQ (seq + 1)

/-- The value field of a body: zero-padded, or the first 32 bytes of its hash (R480). -/
def audValue (v : List Byte) : List Byte :=
  if v.length ≤ 32 then v ++ List.replicate (32 - v.length) 0 else (toBytes 64 (Config.sha3 v)).take 32

/-- A body whose SEQ and frame count are still to come: type, role, object (index × 256 + sub-index), status, the length and
bytes of its value, and the signer (R480). -/
def bodyOf (type role obj status len : Nat) (v : List Byte) (signer : Nat) : List Byte :=
  List.replicate 16 0 ++ toBytes 1 type ++ toBytes 1 (if role < 2 then 0 else role) ++ toBytes 2 (obj / 256) ++ toBytes 1 (obj % 256) ++
    toBytes 1 status ++ toBytes 2 len ++ audValue v ++ toBytes 8 signer

/-- Append an entry; a RESTART that is due goes first (R481). -/
def audAppend (body : List Byte) (s : State) : State :=
  let s := match s.sec.restart with
    | some k => audJoin (audBody (bodyOf 6 0 0 0 0 (toBytes 1 k) 0) s) { s with sec := { s.sec with restart := none } }
    | none => s
  audJoin (audBody body s) s

/-- The RESTART entry of a reset, when the ring can take it. -/
def audRestart (s : State) : State :=
  match s.sec.restart with
  | some k => audJoin (audBody (bodyOf 6 0 0 0 0 (toBytes 1 k) 0) s) { s with sec := { s.sec with restart := none } }
  | none => s

/-- An append is under way: an EDITION entry is formed and not yet appended (R474). -/
def audBusy (s : State) : Bool :=
  match s.sec.alm with
  | some o => !o.formed.isEmpty
  | none => false

/-- An object write made by a session is audited (R479): installer or maker, and the object is persistent or safety-relevant. -/
def audited (role idx : Nat) (persistent : Bool) : Bool :=
  decide (2 ≤ role) && (persistent || idx / 256 == 0x21 || idx / 256 == 0x23 || idx / 256 == 0x45 || idx / 256 == 0x47)

/-- An audited write: ASLEEP while the ring is away, else the write and then its OBJECT_WRITE entry (R479, R481). -/
def auditWrite (role obj signer : Nat) (v : List Byte) (f : State → Status × State) (s : State) : Status × State :=
  if !domOn 93 s then (.asleep, s)
  else if audBusy s then (.retry, s)
  else
    let r := f s
    (r.1, audAppend (bodyOf 1 role obj r.1.code v.length v signer) r.2)

/-- AUDIT_APPEND and a write of AUD_GO with GO = 1 (R481, R482). -/
def wrAudGo (a : Agent) (v : Nat) (s : State) : Status × State :=
  if !a.core01 then (.denied, s)
  else if !AUD_GO_GO.hit v then (.done, s)
  else if audBusy s then (.retry, s)
  else (.done, audAppend ((List.range 8).flatMap (fun k => toBytes 8 (s.get (AUD_BODY_BYTES k)))) s)

/-! ### Sessions (R490, R491) -/

/-- The open session of a mailbox address. -/
def sessionOf (addr : Nat) (s : State) : Option Nat :=
  (List.range 8).find? (fun k => s.on (FI_SESS_OPEN k) && s.get (FI_SESS_ADDRESS k) == addr % 65536)

/-- A role from its code. -/
def roleOf (n : Nat) : Role := if n = 1 then .operator else if n = 2 then .installer else if n = 3 then .maker else .none

/-- The role of a session (8: the debug port's). -/
def sessRole (k : Nat) (s : State) : Nat := if k = 8 then s.get DBG_AUTH_CTL_ROLE else s.get (FI_SESS_ROLE k)

/-- A session signed in as a role. -/
def setRole (k r : Nat) (s : State) : State := if k = 8 then s.set DBG_AUTH_CTL_ROLE r else s.set (FI_SESS_ROLE k) r

/-- What a session holds beside its register, forgotten. -/
def forgetSession (k : Nat) (s : State) : State :=
  { s with sec := { s.sec with chal := spDel k s.sec.chal, chalAge := spDel k s.sec.chalAge, signer := spDel k s.sec.signer, cause := spDel k s.sec.cause, status := spDel k s.sec.status } }

/-- A session opens, or RETRY when 8 are open (R490). -/
def openSession (addr : Nat) (s : State) : Option Nat × State :=
  match sessionOf addr s with
  | some k => (some k, s)
  | none =>
    match (List.range 8).find? (fun k => !s.on (FI_SESS_OPEN k)) with
    | some k =>
      let s := ((s.set (FI_SESS_OPEN k) 1).set (FI_SESS_ADDRESS k) addr).set (FI_SESS_ROLE k) 0
      (some k, raise 0x1201 [⟨2, addr⟩] s)
    | none => (none, raise 0x1203 [⟨2, addr⟩] (s.count FI_SDO_RETRIED 1))

/-- A session ends for a cause: 0 sign-out, 1 idle, 2 INIT, 3 reset, 4 tamper (R490). -/
def endSession (cause k : Nat) (s : State) : State :=
  if !s.on (FI_SESS_OPEN k) then s
  else
    let addr := s.get (FI_SESS_ADDRESS k)
    let s := forgetSession k (((s.set (FI_SESS_OPEN k) 0).set (FI_SESS_ADDRESS k) 0).set (FI_SESS_ROLE k) 0)
    raise 0x1202 [⟨2, addr⟩, ⟨1, cause⟩] s

/-- The agent of a session's object accesses. -/
def sessAgent (k : Nat) (s : State) : Agent := ⟨49, roleOf (s.get (FI_SESS_ROLE k))⟩

/-- The signer of a role's accesses that name no session. -/
def signerOf (a : Agent) (s : State) : Nat :=
  (((List.range 9).find? (fun k => decide (2 ≤ sessRole k s) && sessRole k s == a.role.code)).map (fun k => spGet k s.sec.signer)).getD 0

/-! ### Signing in (R460 to R463) -/

/-- The role may sign in in the present lifecycle state (R465). -/
def roleMay (r : Role) (s : State) : Bool :=
  match r with
  | .none => false
  | .maker => lcState s != lcScrapped
  | _ => lcState s == lcField

/-- A role's sign-in is locked for so many seconds. -/
def lockRole (r secs : Nat) (s : State) : State :=
  raise 0x1102 [⟨1, r⟩, ⟨2, secs⟩]
    { s with sec := { s.sec with lockLen := spSet r secs s.sec.lockLen, locked := if r ∈ s.sec.locked then s.sec.locked else s.sec.locked ++ [r] } }

/-- A refused sign-in of session k (R463). -/
def refuseSignIn (k : Nat) (r : Role) (cause : Nat) (s : State) : Status × State :=
  let n := r.code
  let s := { s with sec := { s.sec with cause := spSet k cause s.sec.cause } }
  let s := if k = 8 then s.set DBG_AUTH_CTL_CAUSE cause else s
  let s := raise 0x1101 [⟨1, n⟩, ⟨1, cause⟩] s
  if cause = 6 then (.denied, s)
  else if spGet n s.sec.lockLen ≠ 0 then (.denied, lockRole n (min 3600 (2 * spGet n s.sec.lockLen)) s)
  else
    let c := spGet n s.sec.fails + 1
    let s := { s with sec := { s.sec with fails := spSet n c s.sec.fails } }
    (.denied, if c = 5 then lockRole n 60 s else s)

/-- A successful sign-in: session k takes the role, and its count starts over. -/
def signedIn (k : Nat) (r : Role) (signer : Nat) (s : State) : Status × State :=
  let s := setRole k r.code s
  (.done, { s with sec := { s.sec with signer := spSet k (signer % 2 ^ 64) s.sec.signer, fails := spSet r.code 0 s.sec.fails, lockLen := spSet r.code 0 s.sec.lockLen } })

/-- A new challenge for session k (R462): 64 bytes. -/
def newChallenge (k : Nat) (s : State) : List Byte × State :=
  let d := draw s
  let v := d.1 % 2 ^ 512
  (toBytes 64 v, { d.2 with sec := { d.2.sec with chal := spSet k (v + 1) d.2.sec.chal, chalAge := spDel k d.2.sec.chalAge } })

/-- The operator password checked for session k (R461). -/
def operatorSignIn (k : Nat) (pw : List Byte) (s : State) : Status × State :=
  if pw.length < 8 ∨ 64 < pw.length then (.range, s)
  else if 1 ∈ s.sec.locked then refuseSignIn k .operator 6 s
  else if !roleMay .operator s then refuseSignIn k .operator 5 s
  else match selectedEd s with
    | none => refuseSignIn k .operator 4 s
    | some e =>
      let h := edField e 912 64 s
      if h ≠ 0 ∧ Config.sha3 (edBytes e 880 32 s ++ pw) % 2 ^ 512 = h then signedIn k .operator 0 s
      else refuseSignIn k .operator 4 s

/-- The message that a response signs (R462). -/
def authMessage (role chal : Nat) : List Byte := ascii "ZC9-AUTH" ++ toBytes 1 role ++ toBytes 16 Config.serial ++ toBytes 64 chal

/-- A key response checked for session k; it uses up the challenge (R462). -/
def keySignIn (k : Nat) (resp : List Byte) (s : State) : Status × State :=
  let r := ofBytes (resp.take 1)
  let role := roleOf r
  let key := slice 1 2592 resp
  let hash := Config.sha3 key % 2 ^ 512
  let ch := spGet k s.sec.chal
  if resp.length ≠ 7220 ∨ ¬(r = 2 ∨ r = 3) then (.range, s)
  else if r ∈ s.sec.locked then refuseSignIn k role 6 s
  else
    let t := { s with sec := { s.sec with chal := spDel k s.sec.chal, chalAge := spDel k s.sec.chalAge } }
    if !roleMay role s then refuseSignIn k role 5 t
    else if ch = 0 then refuseSignIn k role 1 t
    else if hash ∉ roleKeys role s then refuseSignIn k role 2 t
    else if !Config.mlDsaVerify key (authMessage r (ch - 1)) (slice 2593 4627 resp) then refuseSignIn k role 3 t
    else signedIn k role (ofBytes ((toBytes 64 hash).take 8)) t

/-- SIGN_IN_LOCK_END (R463). -/
def execSignInLockEnd (r : Role) (s : State) : Out :=
  ok { s with sec := { s.sec with locked := s.sec.locked.filter (fun x => x != r.code) } }

/-- Challenges age by the frame and lapse at 10 s (R462). -/
def secTick (s : State) : State :=
  let l := s.sec.chal.map (fun p => (p.1, spGet p.1 s.sec.chalAge + frameNs s))
  let dead := (l.filter (fun p => decide (10000000000 < p.2))).map (·.1)
  { s with sec := { s.sec with
      chal := s.sec.chal.filter (fun p => !decide (p.1 ∈ dead))
      chalAge := (l.filter (fun p => decide (p.2 ≤ 10000000000) && decide (p.2 ≠ 0))) } }

/-! ### Identity and attestation (R477, R478) -/

/-- The device secret. -/
def secret (s : State) : Nat := if s.sec.secretGone then 2 ^ 256 - 1 else Config.deviceSecret % 2 ^ 256

/-- The seed of the identity key pair. -/
def idSeed (s : State) : Nat := Config.sha3 (ascii "ZC9-ID" ++ toBytes 32 (secret s) ++ toBytes 16 Config.serial) % 2 ^ 256

/-- The identity public key. -/
def idPublic (s : State) : List Byte := toBytes 2592 (Config.mlDsaPublic (idSeed s))

/-- ID_HASH of the identity key. -/
def idHash (s : State) : Nat := Config.sha3 (idPublic s) % 2 ^ 512

/-- Bytes of bank 14, when it has power; none when a word of them reads with a double-bit error. -/
def bank14Read (lo n : Nat) (s : State) : Option (List Byte) :=
  let w0 := lo / 8
  let w1 := (lo + n + 7) / 8
  if s.cluster.bad.any (fun k => decide (65536 * 14 + w0 ≤ k) && decide (k < 65536 * 14 + w1)) then none
  else some (slice (lo % 8) n ((List.range (w1 - w0)).flatMap (fun i => toBytes 8 (spWord 14 (w0 + i) s))))

/-- Bytes written to bank 14 from a place that is a multiple of 8; a last part of a word leaves the rest of it. -/
def bank14Write (lo : Nat) (b : List Byte) (s : State) : State :=
  forNat (ceilDiv b.length 8) (fun i t =>
    let p := slice (8 * i) 8 b
    let w := lo / 8 + i
    spStore 14 w (if p.length = 8 then ofBytes p else putBits (spWord 14 w t) 0 (8 * p.length) (ofBytes p)) t) s

/-- The DIGEST that a report gives for region r: zero when INVALID. -/
def reportRegion (r : Nat) (s : State) : List Byte :=
  toBytes 64 (if s.get (REG_STAT_STATE r) = regInvalid then 0 else spGet r s.ldr.digest)

/-- The DIGEST that a report gives for the firmware of two cores: zero when neither runs it. -/
def reportFirmware (c digest : Nat) (s : State) : List Byte :=
  toBytes 64 (if [c, c + 1].any (fun x => s.get (CORE_STAT_STATE x) == coreRun || s.get (CORE_STAT_STATE x) == coreHalt) then digest else 0)

/-- Bytes 0 to 1,535 of a report (R478). -/
def reportBody (nonce : List Byte) (s : State) : List Byte :=
  let e := selectedEd s
  toBytes 4 0x54544124 ++ toBytes 2 1 ++ toBytes 1 (lcState s) ++ toBytes 1 (s.get SEC_STAT_EDITION) ++ toBytes 16 Config.serial ++
  toBytes 8 (frameCount s) ++ nonce ++ reportFirmware 0 s.boot.fwDigest s ++ reportFirmware 2 s.boot.ifwDigest s ++ toBytes 64 s.boot.fullDigest ++
  (List.range 16).flatMap (fun r => reportRegion r s) ++
  (match e with | some x => edBytes x 4032 64 s | none => List.replicate 64 0) ++
  toBytes 64 (Config.sha3 (((List.range 256).filter (fun k => recValid k s)).flatMap (fun k => ledgerRec k s))) ++
  toBytes 2 s.sec.ledgerUsed ++ List.replicate 6 0 ++ audHead s ++ toBytes 8 (s.get AUD_SEQ_SEQ) ++
  toBytes 4 (readFlds SEC_TAMPER_fields s) ++ List.replicate 12 0

/-- A report with its signature. -/
def report (nonce : List Byte) (s : State) : List Byte :=
  let b := reportBody nonce s
  b ++ toBytes 4627 (Config.mlDsaSign (idSeed s) b)

/-- An attestation asked for by an object or a register (R478): its nonce waits for the signature. -/
def attStart (viaObj : Bool) (sess : Option Nat) (nonce : List Byte) (s : State) : Status × State :=
  if lcState s = lcScrapped then (.denied, s.set ATT_CTL_RESULT Status.denied.code)
  else if s.on ATT_CTL_GO then (.retry, s)
  else if !domOn 93 s then (.asleep, s)
  else (.done, { (s.set ATT_CTL_GO 1) with sec := { s.sec with att := some (nonce, viaObj, sess) } })

/-- A write of ATT_CTL: DST a multiple of 64 with room for the report. -/
def wrAttCtl (a : Agent) (v : Nat) (s : State) : Status × State :=
  let d := ATT_CTL_DST.of v
  if !a.core01 then (.denied, s)
  else if d % 64 ≠ 0 then (.range, s)
  else if !ATT_CTL_GO.hit v then (.done, s.set ATT_CTL_DST d)
  else if d + 6163 > 524288 then (.range, s)
  else match bank14Read (d + 32) 64 s with
    | none => (.poison, s)
    | some n =>
      let r := attStart false none n s
      (r.1, r.2.setIf (r.1 == .done) ATT_CTL_DST d)

/-- The answer of an object write that waited for its operation's end goes to its session and to the host. -/
def lateAnswer (obj : Bool) (sess : Option Nat) (st : Status) (s : State) : State :=
  let s := match sess with
    | some k => { s with sec := { s.sec with status := spSet k st.code s.sec.status } }
    | none => s
  if obj then answer st s else s

/-- An attestation ends with a status (R470, R478). -/
def attEnd (st : Status) (s : State) : State :=
  match s.sec.att with
  | none => s
  | some (_, viaObj, sess) =>
    let s := (s.set ATT_CTL_GO 0).set ATT_CTL_RESULT st.code
    lateAnswer viaObj sess st (raise 0x1108 [⟨1, st.code⟩] { s with sec := { s.sec with att := none } })

/-- ATTESTATION_REQUEST (R478): the nonce object, or control core 0 or 1 with the nonce in bank 14 and GO. -/
def execAttestationRequest (a : Agent) (nonce : List Byte) (s : State) : Out :=
  if a.core01 then
    let t := if domOn 93 s && nonce.length == 64 then bank14Write (s.get ATT_CTL_DST + 32) nonce s else s
    ok (answered (wrAttCtl a (2 ^ 63 + s.get ATT_CTL_DST) t))
  else if a.init ≠ 49 ∨ a.role = .none then ok (answer .denied s)
  else if nonce.length ≠ 64 then ok (answer .range s)
  else
    let r := attStart true none nonce s
    ok (if r.1 = .done then r.2 else answered r)

/-- ATTESTATION_SIGNED (R478): the report goes to bank 14. -/
def execAttestationSigned (s : State) : Out :=
  match s.sec.att with
  | none => ok s
  | some (n, _, _) =>
    if !domOn 93 s then ok (attEnd .fault s)
    else
      let b := report n s
      let t := bank14Write (s.get ATT_CTL_DST) b s
      ok (attEnd .done { t with sec := { t.sec with report := b } })

/-! ### Almanac operations (R466, R467, R471 to R476) -/

/-- The value of staged bytes. -/
def stg (lo n : Nat) (b : List Byte) : Nat := ofBytes (slice lo n b)

/-- The places that an installer may change, and those the part fills in (R471, R473). -/
def edPart (i : Nat) : Bool :=
  i == 6 || (decide (816 ≤ i) && decide (i < 880)) || (decide (1104 ≤ i) && decide (i < 1176)) || decide (4032 ≤ i)
def edInstaller (i : Nat) : Bool :=
  (decide (304 ≤ i) && decide (i < 816)) || (decide (880 ≤ i) && decide (i < 976)) || (decide (28 ≤ i) && decide (i < 36)) ||
    (decide (40 ≤ i) && decide (i < 44))
def edReserved (i : Nat) : Bool := i == 7 || (decide (44 ≤ i) && decide (i < 48)) || (decide (1176 ≤ i) && decide (i < 4032))

/-- Staged bytes with every field marked Part set to zero (R474). -/
def edHostPart (b : List Byte) : List Byte := b.zipIdx.map (fun p => if edPart p.2 then 0 else p.1)

/-- Keys of a list in staged bytes: some entry is non-zero. -/
def edSome (base n : Nat) (b : List Byte) : Bool := (slice base (64 * n) b).any (fun x => x != 0)

/-- The first check of R473 that staged bytes fail; 0 none. -/
def edCheck (role : Nat) (b : List Byte) (s : State) : Nat :=
  let blank := lcState s == lcBlank
  let new := if blank then none else newestEd s
  if 8 ≤ s.sec.used then 1
  else if stg 0 4 b ≠ 0x4D4C4E41 ∨ stg 4 2 b ≠ 1 ∨ stg 8 16 b ≠ Config.serial % 2 ^ 128 ∨
      (!blank && (stg 24 2 b != 0x0C09 || stg 26 1 b != Config.dieRev % 256 || stg 27 1 b != 1)) then 2
  else if (match new with
      | some e => (List.range 4).any (fun k => decide (stg (28 + 4 * k) 4 b < edField e (28 + 4 * k) 4 s))
      | none => false) then 3
  else if !edSome 48 4 b ∨ (lcState s == lcField && !edSome 304 8 b) then 4
  else if role == 2 && (match new with
      | some e => b.zipIdx.any (fun p => !edPart p.2 && !edInstaller p.2 && p.1 != edByte e p.2 s)
      | none => false) then 5
  else if b.zipIdx.any (fun p => edReserved p.2 && p.1 != 0) then 6
  else 0

/-- An operation accepted: GO and BUSY are 1 until it ends. -/
def almAccept (o : AlmOp) (src : Nat) (s : State) : State :=
  let s := ((((s.set ALM_CTL_GO 1).set ALM_STAT_BUSY 1).set ALM_CTL_OP o.kind).set ALM_CTL_TARGET o.target).set ALM_CTL_SRC src
  { s with sec := { s.sec with alm := some o } }

/-- Its ALMANAC request of 30 units is placed with the write. -/
def almPlace (o : AlmOp) (init purpose ns src : Nat) (s : State) : Status × State :=
  match placeOrRetry ⟨clsAlmanac, 0x7F, 30, max 1 (min 65535 (ceilDiv ns (s.get FRM_STAT_PERIOD_ACT))), init, purpose⟩ s with
  | (.done, t) => (.done, almAccept o src t)
  | x => x

/-- An edition commit (R473, R474). -/
def editionStart (o : AlmOp) (init src : Nat) (s : State) : Status × State :=
  if src + 4096 > 524288 then (.range, s)
  else if !domOn 93 s then (.asleep, s)
  else match bank14Read src 4096 s with
    | none => (.poison, s)
    | some b =>
      let c := edCheck o.role b s
      if c ≠ 0 then
        let t := s.set ALM_STAT_CHECK c
        (.range, if c = 1 then raise 0x1107 [⟨1, 0⟩] t else t)
      else almPlace { o with data := b } init forEdition 1500000000 src s

/-- A ledger append (R476): the first 10 bytes are staged. -/
def ledgerStart (o : AlmOp) (init src : Nat) (s : State) : Status × State :=
  if src + 10 > 524288 then (.range, s)
  else if !domOn 93 s then (.asleep, s)
  else match bank14Read src 10 s with
    | none => (.poison, s)
    | some b =>
      if 256 ≤ s.sec.ledgerUsed then (.range, raise 0x1107 [⟨1, 1⟩] s)
      else if stg 0 1 b = 0 ∨ 6 < stg 0 1 b then (.range, s)
      else almPlace { o with data := b } init forLedger (s.get FRM_STAT_PERIOD_ACT) src s

/-- The lifecycle transition that R466 accepts for a role. -/
def lcAllowed (role target : Nat) (s : State) : Bool :=
  let st := lcState s
  let maker := role == 3
  if st = lcBlank ∧ target = lcMaker then maker && edValid 0 s
  else if st = lcMaker ∧ target = lcField then
    maker && (match newestEd s with
      | some e => (edBytes e 304 512 s).any (fun x => x != 0) && edField e 816 64 s == idHash s
      | none => false)
  else if st = lcField ∧ target = lcRma then maker && s.sec.consent && decide (lcCount s ≤ 12)
  else if st = lcRma ∧ target = lcField then maker
  else if (st = lcMaker ∨ st = lcField ∨ st = lcRma) ∧ target = lcScrapped then maker || (role == 2 && st == lcField)
  else false

/-- A lifecycle transition (R466, R467). -/
def lifecycleStart (o : AlmOp) (init : Nat) (s : State) : Status × State :=
  if !lcAllowed o.role o.target s then (.range, s)
  else almPlace o init forLifecycle 5000000 (s.get ALM_CTL_SRC) s

/-- An Almanac operation asked for; a GO while one runs is answered RETRY (R474). -/
def almStart (o : AlmOp) (init src : Nat) (s : State) : Status × State :=
  if s.sec.alm.isSome then (.retry, s)
  else if o.kind = 0 then editionStart o init src s
  else if o.kind = 1 then ledgerStart o init src s
  else lifecycleStart o init s

/-- A write of ALM_CTL. -/
def wrAlmCtl (a : Agent) (v : Nat) (s : State) : Status × State :=
  let src := ALM_CTL_SRC.of v
  if !a.core01 then (.denied, s)
  else if ALM_CTL_OP.of v > 2 ∨ src % 64 ≠ 0 then (.range, s)
  else if !ALM_CTL_GO.hit v then
    (.done, ((s.set ALM_CTL_OP (ALM_CTL_OP.of v)).set ALM_CTL_TARGET (ALM_CTL_TARGET.of v)).set ALM_CTL_SRC src)
  else almStart ⟨ALM_CTL_OP.of v, a.role.code, signerOf a s, 0, none, [], ALM_CTL_TARGET.of v, false, [], false⟩ a.init.val src s

/-- The grant of an Almanac operation is issued (R467, R474): an edition's entry is formed. -/
def almGranted (s : State) : State :=
  match s.sec.alm with
  | none => s
  | some o =>
    if o.begun then s
    else
      let s := if o.kind = 0 then audRestart s else s
      let f := if o.kind = 0 then audBody (bodyOf 2 o.role o.obj 0 4096 (edHostPart o.data) o.signer) s else []
      { s with sec := { s.sec with alm := some { o with begun := true, formed := f } } }

/-- The write that asked for the operation waits for its end. -/
def AlmOp.told (o : AlmOp) : Bool := o.obj != 0 && !o.cut

/-- An Almanac operation ends with a status: its grant is released and the write that waited is answered. -/
def almEnd (purpose : Nat) (st : Status) (s : State) : State :=
  match s.sec.alm with
  | none => s
  | some o =>
    let s := match entryFor purpose s with
      | some k => sluEnd k s
      | none => s
    let s := secShow (((s.set ALM_CTL_GO 0).set ALM_STAT_BUSY 0).set ALM_STAT_RESULT st.code)
    lateAnswer o.told o.sess st { s with sec := { s.sec with alm := none } }

/-- SDO requests accepted and not yet answered: those that wait, and those whose operation has not ended (R492). -/
def sdoHeld (s : State) : Nat :=
  s.field.sdo.length + (if s.sec.alm.any AlmOp.told then 1 else 0) + (if s.sec.att.any (fun x => x.2.1) then 1 else 0)

/-- The core whose firmware serves a request (DESIGN CHOICE, notes/assumptions/58.md). -/
def sdoCore (s : State) : Nat := if s.get (CORE_STAT_STATE 0) = coreRun then 0 else 1

/-- A CORE reset of the serving core cuts short the requests that wait for their operations, which go on: FAULT answers them (R492). -/
def sdoCut (c : Nat) (s : State) : State :=
  if c ≠ sdoCore s then s
  else
    let s := match s.sec.att with
      | some (n, viaObj, sess) => lateAnswer viaObj sess .fault { s with sec := { s.sec with att := some (n, false, none) } }
      | none => s
    match s.sec.alm with
    | some o => lateAnswer o.told o.sess .fault { s with sec := { s.sec with alm := some { o with cut := true, sess := none } } }
    | none => s

/-- What the part programs of an edition (R471, R474). -/
def edImage (o : AlmOp) (s : State) : List Byte :=
  let head := audHash (audHead s) o.formed
  let b := o.data.take 6 ++ toBytes 1 s.sec.used ++ slice 7 809 o.data ++ toBytes 64 (idHash s) ++ slice 880 224 o.data ++ head ++
    toBytes 8 (s.get AUD_SEQ_SEQ + 1) ++ slice 1176 2856 o.data
  b ++ toBytes 64 (Config.sha3 b)

/-- The programming of an edition ends (R474). -/
def editionEnd (good : Bool) (o : AlmOp) (s : State) : State :=
  let e := s.sec.used
  let img := edImage o s
  let body := if good then o.formed else o.formed.take 21 ++ toBytes 1 Status.fault.code ++ o.formed.drop 22
  let s := audJoin body s
  let s := { s with sec := { s.sec with
      used := e + 1
      editions := if good then memWrite 0 (4096 * e) img s.sec.editions else s.sec.editions
      badEd := if good then s.sec.badEd else s.sec.badEd ++ [e] } }
  let st := if good then Status.done else .fault
  almEnd forEdition st (raise 0x1105 [⟨1, e⟩, ⟨1, st.code⟩] s)

/-- The programming of a ledger record ends (R476). -/
def ledgerEnd (good : Bool) (o : AlmOp) (s : State) : State :=
  let k := s.sec.ledgerUsed
  let b := o.data ++ toBytes 4 (frameCount s)
  let b := b ++ toBytes 2 (ledgerCrc b)
  let st := if good then Status.done else .fault
  let s := { s with sec := { s.sec with
      ledgerUsed := k + 1
      ledger := if good then memWrite 0 (16 * k) b s.sec.ledger else s.sec.ledger
      badRec := if good then s.sec.badRec else s.sec.badRec ++ [k] } }
  let s := audAppend (bodyOf 3 o.role o.obj st.code 10 o.data o.signer) s
  almEnd forLedger st (if good then raise 0x1106 [⟨2, k⟩, ⟨1, stg 0 1 o.data⟩] s else s)

/-- Banks 14 and 15 are wiped; a pair in RETAIN is taken to OFF (R443). -/
def wipeBanks (cause : Nat) (s : State) : State :=
  let s := if domState 93 s = 4 then
      let l := (List.range 128).filter (fun k => s.get (SLU_ENT_STATE k) != 0 && s.get (SLU_ENT_CLASS k) == clsDomain && s.get (SLU_ENT_TARGET k) == 93)
      spPairLose 7 ((forEach l sluEnd (s.set (PWR_DOM_STAT_STATE 93) 0)).set (PWR_DOM_CTL_TARGET 93) 0)
    else s
  spWipe cause s

/-- LIFECYCLE_PROGRAMMED (R467): the bit, the wipe, the key erase, the entry, the event, the answer, and a WARM reset due. -/
def execLifecycleProgrammed (s : State) : Out :=
  match s.sec.alm with
  | none => ok s
  | some o =>
    if o.kind ≠ 2 ∨ !o.begun then ok s
    else
      let old := lcState s
      let scrap := o.target == lcScrapped
      let s := { s with sec := { s.sec with
          lc := if scrap then putBit s.sec.lc 15 true else putBit s.sec.lc (lcCount s) true
          secretGone := s.sec.secretGone || scrap
          consent := false } }
      let s := eraseKeys 1 (wipeBanks 1 s)
      let new := lcState s
      let s := audAppend (bodyOf 4 o.role o.obj 0 1 (toBytes 1 old ++ toBytes 1 new) o.signer) s
      let s := almEnd forLifecycle .done (raise 0x1104 [⟨1, old⟩, ⟨1, new⟩, ⟨1, o.role⟩] s)
      ok { s with boot := { s.boot with warmDue := some (Config.lifecycleSource % 16) } }

/-- EDITION_PROGRAMMED (R474). -/
def execEditionProgrammed (good : Bool) (s : State) : Out :=
  match s.sec.alm with
  | some o => ok (if o.kind = 0 ∧ o.begun then editionEnd good o s else s)
  | none => ok s

/-- LEDGER_PROGRAMMED (R476). -/
def execLedgerProgrammed (good : Bool) (s : State) : Out :=
  match s.sec.alm with
  | some o => ok (if o.kind = 1 ∧ o.begun then ledgerEnd good o s else s)
  | none => ok s

/-- The tamper indication or a pin reset cuts an edition or ledger operation short: what was being written is consumed (R470). -/
def almCut (s : State) : State :=
  match s.sec.alm with
  | none => s
  | some o =>
    if o.kind = 2 then s
    else if !o.begun then almEnd (if o.kind = 0 then forEdition else forLedger) .fault s
    else if o.kind = 0 then editionEnd false o s
    else ledgerEnd false o s

/-! ### Object writes -/

/-- An object write by an agent that only an installer or maker may make. -/
def objIM (a : Agent) (f : State → Status × State) (s : State) : Status × State :=
  if a.init.val == 49 && a.im then f s else (.denied, s)

/-- An object write that starts an operation: audited by the operation's own entry, or when refused as an OBJECT_WRITE (R479). -/
def auditStart (a : Agent) (obj : Nat) (v : List Byte) (f : State → Status × State) (s : State) : Status × State :=
  if !domOn 93 s then (.asleep, s)
  else
    let r := f s
    if r.1 = .done ∨ audBusy s then r else (r.1, audAppend (bodyOf 1 a.role.code obj r.1.code v.length v (signerOf a s)) r.2)

/-- The operation that an object write starts. -/
def objOp (a : Agent) (kind obj target : Nat) (sess : Option Nat) (s : State) : AlmOp :=
  ⟨kind, a.role.code, signerOf a s, obj, sess, [], target, false, [], false⟩

/-- A write of object 0x4500:0x20 stages an edition at offset 0 of bank 14 (R473). -/
def objStage (a : Agent) (b : List Byte) (s : State) : Status × State :=
  objIM a (fun s => if b.length ≠ 4096 then (.range, s) else
    auditWrite a.role.code 0x450020 (signerOf a s) b (fun t => (.done, bank14Write 0 b t)) s) s

/-- A write of object 0x4500:0x21 commits it. -/
def objCommit (a : Agent) (sess : Option Nat) (v : Nat) (s : State) : Status × State :=
  objIM a (auditStart a 0x450021 (toBytes 1 v) (fun t =>
    if v ≠ 1 then (.range, t) else almStart (objOp a 0 0x450021 0 sess t) 49 0 t)) s

/-- A write of object 0x4500:0x28 appends a ledger record. -/
def objLedger (a : Agent) (sess : Option Nat) (b : List Byte) (s : State) : Status × State :=
  objIM a (fun s => if b.length ≠ 10 then (.range, s) else
    auditStart a 0x450028 b (fun t =>
      if t.sec.alm.isSome then (.retry, t) else almStart (objOp a 1 0x450028 0 sess t) 49 0 (bank14Write 0 b t)) s) s

/-- A write of object 0x4500:0x30 asks for a lifecycle transition. -/
def objLifecycle (a : Agent) (sess : Option Nat) (v : Nat) (s : State) : Status × State :=
  objIM a (auditStart a 0x450030 (toBytes 1 v) (fun t => almStart (objOp a 2 0x450030 v sess t) 49 0 t)) s

/-- A write of object 0x4500:0x31 by the installer sets RMA consent (R468). -/
def objConsent (a : Agent) (v : Nat) (s : State) : Status × State :=
  if a.init ≠ 49 ∨ a.role ≠ .installer then (.denied, s)
  else auditWrite 2 0x450031 (signerOf a s) (toBytes 1 v) (fun t =>
    if v ≠ 1 then (.range, t) else (.done, { t with sec := { t.sec with consent := true } })) s

/-- The host sees the answer of an operation that was started at the operation's end. -/
def startedAnswer (r : Status × State) : State := if r.1 = .done then r.2 else answered r

/-- EDITION_STAGE (R473): a write of the object, or control core 0 or 1 staging in bank 14. -/
def execEditionStage (a : Agent) (b : List Byte) (s : State) : Out :=
  if a.core01 then
    ok (if !domOn 93 s then answer .asleep s else if b.length ≠ 4096 then answer .range s else answer .done (bank14Write 0 b s))
  else ok (answered (objStage a b s))

/-- EDITION_COMMIT (R473): a write of the object, or of ALM_CTL with OP = EDITION. -/
def execEditionCommit (a : Agent) (v : Nat) (s : State) : Out :=
  if a.core01 then ok (answered (wrAlmCtl a v s)) else ok (startedAnswer (objCommit a none v s))

/-- LEDGER_APPEND (R476): a write of the object, or control core 0 or 1 staging the bytes and writing ALM_CTL with
OP = LEDGER. -/
def execLedgerAppend (a : Agent) (b : List Byte) (s : State) : Out :=
  if a.core01 then
    ok (if !domOn 93 s then answer .asleep s else if b.length ≠ 10 then answer .range s
      else answered (wrAlmCtl a (2 ^ 63 + 2 ^ 56) (if s.sec.alm.isSome then s else bank14Write 0 b s)))
  else ok (startedAnswer (objLedger a none b s))

/-- LIFECYCLE_TRANSITION (R466): a write of the object, or of ALM_CTL with OP = LIFECYCLE. -/
def execLifecycleTransition (a : Agent) (target : Nat) (s : State) : Out :=
  if a.core01 then ok (answered (wrAlmCtl a (2 ^ 63 + 2 * 2 ^ 56 + target % 8 * 2 ^ 50 + s.get ALM_CTL_SRC) s))
  else ok (startedAnswer (objLifecycle a none target s))

/-- RMA_CONSENT (R468). -/
def execRmaConsent (a : Agent) (v : Nat) (s : State) : Out := ok (answered (objConsent a v s))

/-- AUDIT_APPEND (R481): a write of AUD_GO. -/
def execAuditAppend (a : Agent) (s : State) : Out := ok (answered (wrAudGo a 1 s))

/-! ### Tamper (R469, R470) -/

/-- A tamper source triggers. -/
def tamper (src : Nat) (s : State) : State :=
  let s := s.set SEC_TAMPER_SOURCE (putBit (s.get SEC_TAMPER_SOURCE) src true)
  let s := eraseKeys 0 (wipeBanks 0 s)
  let s := forNat 8 (fun k t => if 2 ≤ t.get (FI_SESS_ROLE k) then endSession 4 k t else t) s
  let s := if 2 ≤ s.get DBG_AUTH_CTL_ROLE then dbgEnd 4 s else s
  let s := { s with leap := { s.leap with tampered := s.leap.tampered || s.leap.state == 2 } }
  let s := attEnd .fault (almCut s)
  let s := { s with sec := { s.sec with tamperBits := min 32 (s.sec.tamperBits + 1) } }
  let s := audAppend (bodyOf 5 0 0 0 0 (toBytes 1 (s.get SEC_TAMPER_SOURCE)) 0) (s.set SEC_TAMPER_FUSED s.sec.tamperBits)
  raise 0x1103 [⟨1, s.get SEC_TAMPER_SOURCE⟩, ⟨1, s.get SEC_TAMPER_FUSED⟩] s

/-- A tamper source is watched (R469, R470): whenever VIN is present, in every state but BLANK; a source whose bit is set raises no
further indication. -/
def tamperWatched (src : Nat) (s : State) : Bool :=
  s.power.vin != .off && lcState s != lcBlank && !bit (s.get SEC_TAMPER_SOURCE) src

/-- TAMPER_INDICATION (R469, R470). -/
def execTamperIndication (src : Fin 3) (s : State) : Out := whenOk (tamperWatched src.val s) s (tamper src.val s)

/-- A write of SEC_TAMPER through the maker's object or by firmware: W1C of the sources (R470). -/
def wrSecTamper (a : Agent) (v : Nat) (s : State) : Status × State :=
  if !a.core01 then (.denied, s) else (.done, writeFlds SEC_TAMPER_fields v s)

/-- A write of AUD_BODY, which only control cores 0 and 1 may make (R482). -/
def wrAudBody (a : Agent) (k v : Nat) (s : State) : Status × State :=
  if !a.core01 then (.denied, s) else (.done, s.set (AUD_BODY_BYTES k) v)

/-! ### Resets and the frame -/

/-- An Almanac operation whose grant request was withdrawn ends with RETRY. -/
def almOrphan (s : State) : State :=
  match s.sec.alm with
  | none => s
  | some o =>
    let p := if o.kind = 0 then forEdition else if o.kind = 1 then forLedger else forLifecycle
    if (entryFor p s).isNone ∧ !o.begun then almEnd p .retry s else s

/-- What a reset of the part cuts short (R467, R470, R483): an edition or record in programming is consumed and invalid, and a
lifecycle bit reads programmed or not. -/
def almReset (s : State) : State :=
  match s.sec.alm with
  | none => s
  | some o =>
    let c := { s.sec with alm := none }
    if !o.begun then { s with sec := c }
    else if o.kind = 0 then { s with sec := { c with used := s.sec.used + 1, badEd := s.sec.badEd ++ [s.sec.used] } }
    else if o.kind = 1 then { s with sec := { c with ledgerUsed := s.sec.ledgerUsed + 1, badRec := s.sec.badRec ++ [s.sec.ledgerUsed] } }
    else if !Config.lcCut (lcCount s) then { s with sec := c }
    else if o.target = lcScrapped then { s with sec := { c with lc := putBit s.sec.lc 15 true, secretGone := true } }
    else { s with sec := { c with lc := putBit s.sec.lc (lcCount s) true } }

/-- COLD and WARM resets (R104, R481, R483). -/
def secPartReset (cold : Bool) (s : State) : State :=
  let s := almReset s
  let s := { s with sec := { s.sec with
      consent := false, chal := [], chalAge := [], signer := [], cause := [], status := [], fails := [], lockLen := [], locked := []
      att := none, report := [], editionSel := 0, auditSel := 0, restart := some (if cold then 0 else 1) } }
  if cold then s.resetRegs 0x3010000000 0x3011000000
  else
    let s := (s.resetRegs 0x3010000200 0x3010000300).resetRegs 0x3010000380 0x3011000000
    secShow s

/-- Boot step 1 of a COLD reset (R110, R472, R481): the newest valid edition is selected, and gives the audit head. -/
def secBoot (s : State) : State :=
  let s := secShow s
  match newestEd s with
  | none => s.set SEC_STAT_EDITION 15
  | some e =>
    let s := (s.set SEC_STAT_EDITION e).set AUD_SEQ_SEQ (edField e 1168 8 s)
    forNat 8 (fun k t => t.set (AUD_HEAD_BYTES k) (edField e (1104 + 8 * k) 8 t)) s

end Sys2Proof.Machine
end

