-- ==== Sys2Proof/Machine/Loader.lean ====
section
/-! DEFINITION. Images and their verification (R105 to R109), the configuration loader and the Rill scrubber (chapter 07). -/
namespace Sys2Proof.Machine

/-! ### Images (R107, R108) -/

/-- An image in a memory: the bytes from an offset on. -/
abbrev ImgRd := Nat → Nat → List Byte

/-- An image in flash and one in HBM. -/
def flashImg (base : Nat) (s : State) : ImgRd := fun o n => memRead 0xFF (base + o) n s.flash
def hbmImg (base : Nat) (s : State) : ImgRd := fun o n => memRead 0 (base + o) n s.hbm.mem

/-- A header field. -/
def imgField (rd : ImgRd) (o n : Nat) : Nat := ofBytes (rd o n)
def imgMask (rd : ImgRd) : Nat := imgField rd 0x24 4
def imgLen (rd : ImgRd) : Nat := imgField rd 0x28 8
def imgFirst (rd : ImgRd) (r : Nat) : Nat := imgField rd (0x30 + 8 * r) 4
def imgCount (rd : ImgRd) (r : Nat) : Nat := imgField rd (0x34 + 8 * r) 4
def imgDigest (rd : ImgRd) : Nat := imgField rd 0xC0 64

/-- Areas of the image in rising order, and its frame records. -/
def imgAreas (rd : ImgRd) : List Nat := (List.range 17).filter (fun r => bit (imgMask rd) r)
def imgFrames (rd : ImgRd) : Nat := (imgAreas rd).foldl (fun t r => t + imgCount rd r) 0

/-- Block-memory records that follow the frame records (R143). -/
def imgBrams (rd : ImgRd) : Nat := (imgLen rd - 4104 * imgFrames rd) / 4616

/-- The payload's length agrees with the layout of R143. -/
def imgLayoutOk (rd : ImgRd) : Bool := decide (4104 * imgFrames rd ≤ imgLen rd) && (imgLen rd - 4104 * imgFrames rd) % 4616 == 0

/-- Key hashes that may sign an image of a kind (R108, R111). -/
def imageKeys (kind : Nat) (s : State) : List Nat :=
  match selectedEd s with
  | none => if kind = 2 then [Config.romRootKey % 2 ^ 512] else []
  | some e =>
    let m := ((List.range 4).map (fun i => edKey e 48 i s)).filter (fun k => k != 0)
    if kind = 2 then m else m ++ ((List.range 8).map (fun i => edKey e 304 i s)).filter (fun k => k != 0)

/-- The Almanac's minimum security version for a kind. -/
def svnMin (kind : Nat) (s : State) : Nat :=
  match selectedEd s with
  | some e => edField e (28 + 4 * kind) 4 s
  | none => 0

/-- Checks 2 to 9 of R108 on an image of a kind in a slot of a size: the failure code, 0 when all pass. -/
def imageChecks (kind size : Nat) (rd : ImgRd) (s : State) : Nat :=
  let key := rd 0x100 2592
  if imgField rd 0 4 = 0xFFFFFFFF then 12
  else if imgField rd 0 4 ≠ 0x58545254 then 2
  else if imgField rd 4 2 ≠ 1 then 3
  else if imgField rd 6 2 ≠ kind ∨ (kind = 1 ∧ !(imgMask rd < 65536 && popCount 16 (imgMask rd) == 1)) then 4
  else if imgField rd 8 2 ≠ 0x0C09 ∨ imgField rd 10 1 ≠ Config.dieRev % 256 ∨ imgField rd 11 1 ≠ 1 ∨
      (bit (imgField rd 12 4) 0 && imgField rd 16 16 != Config.serial % 2 ^ 128) then 5
  else if Config.sha3 key % 2 ^ 512 ∉ imageKeys kind s then 6
  else if imgField rd 0x20 4 < svnMin kind s then 7
  else if !Config.mlDsaVerify key (rd 0 0xB20) (rd 0xB20 4627) then 8
  else if 0x2000 + imgLen rd > size ∨ Config.sha3 (rd 0x2000 (imgLen rd)) % 2 ^ 512 ≠ imgDigest rd ∨ (kind < 2 && !imgLayoutOk rd) then 9
  else 0

/-- Checks 1 to 9 of R108: what the flash reads decides check 1. -/
def verifyImage (kind size : Nat) (flashOk : Bool) (rd : ImgRd) (s : State) : Nat := if !flashOk then 1 else imageChecks kind size rd s

/-- A refused image (R108): its kind, its flash offset, its code. -/
def imageRefused (kind off code : Nat) (s : State) : State := raise 0x0401 [⟨2, kind⟩, ⟨4, off⟩, ⟨1, code⟩] s

/-! Places of R105, R109 and R145. -/
def regionFlash (n : Nat) : Nat := 0x1C000000 + 0xC00000 * n
def regionCache (n : Nat) : Nat := 0x3CC000000 + 0xC00000 * n
def primaryFlash : Nat := 0x04000000
def goldenFlash : Nat := 0x10000000
def fullCache : Nat := 0x3C0000000
def slotSize : Nat := 0xC00000
def fullSize : Nat := 0xC000000

/-- A verified mark: of cache slot n below 16, or of the staging area. -/
def marked (n : Nat) (s : State) : Bool := if n < 16 then bit (s.get LDR_CACHE_SLOT_OK) n else s.on LDR_CACHE_FULL_OK
def setMark (n : Nat) (b : Bool) (s : State) : State :=
  if n < 16 then s.set LDR_CACHE_SLOT_OK (putBit (s.get LDR_CACHE_SLOT_OK) n b) else s.set LDR_CACHE_FULL_OK (if b then 1 else 0)

/-- The base of a copy in HBM: cache slot n, or the staging area. -/
def cacheBase (n : Nat) : Nat := if n < 16 then regionCache n else fullCache

/-- A copy in HBM reads without poison: no word of it holds a double-bit error. -/
def copySound (n size : Nat) (s : State) : Bool :=
  !s.hbm.dbl.any (fun p => decide (cacheBase n ≤ 64 * p.1) && decide (64 * p.1 < cacheBase n + size))

/-- A flash slot staged to HBM and verified there (R108, R146): the failure code. The staging area then holds that full image (1 the
primary, 2 the golden one), or none if it failed. -/
def stageImage (n kind flash size : Nat) (flashOk : Bool) (s : State) : Nat × State :=
  let s := setMark n false s
  let s := if n < 16 then s else { s with boot := { s.boot with staged := if flash = goldenFlash then 2 else 1 } }
  if !flashOk then (1, imageRefused kind flash 1 s)
  else
    let w := hbmSave 47 (cacheBase n) (size / 64) (memRead 0xFF flash size s.flash) s
    let c := if w.1 ≠ .done then 11 else imageChecks kind size (hbmImg (cacheBase n) w.2) w.2
    (c, if c = 0 then setMark n true w.2 else imageRefused kind flash c w.2)

/-- The flash slot that the full image runs from: primary or golden (BOOT_STAT.FABRIC). -/
def fullFlash (s : State) : Nat := if s.get BOOT_STAT_FABRIC = 2 then goldenFlash else primaryFlash

/-- Region slot n, or with 16 the full image, staged from flash. -/
def stageFor (n : Nat) (flashOk : Bool) (s : State) : Nat × State :=
  if n < 16 then stageImage n 1 (regionFlash n) slotSize flashOk s else stageImage 16 0 (fullFlash s) fullSize flashOk s

/-! ### Requests (R146, R147) -/

/-- What changes in the loader's own state. -/
def modLdr (f : LdrSt → LdrSt) (s : State) : State := { s with ldr := f s.ldr }

/-- The region that a region image names: the one bit of its REGION_MASK; 17 when it names none. -/
def maskRegion (m : Nat) : Nat :=
  match (List.range 16).filter (fun r => bit m r) with
  | [r] => if m < 65536 then r else 17
  | _ => 17

/-- The region that cache slot n loads, by its verified copy, else by the header in flash. -/
def slotRegion (n : Nat) (s : State) : Nat :=
  maskRegion (imgMask (if marked n s then hbmImg (regionCache n) s else flashImg (regionFlash n) s))

/-- REG_STAT.PENDING: a LOAD of the region waits in the queue or for its grant. -/
def ldrPending (r : Nat) (s : State) : Bool :=
  s.ldr.queue.any (fun q => (q.op == 1 && slotRegion q.slot s == r) || (decide (4 ≤ q.op) && q.region == r)) ||
  (match s.ldr.job with
   | some j => (j.phase == .staging || j.phase == .granting) && (j.region == r || (j.req.op == 1 && j.region == 17 && slotRegion j.req.slot s == r))
   | none => false)

/-- Isolation engages (R153). -/
def isoEngage (r : Nat) (s : State) : State := dinRelease r ((if r < 16 then bordersHeld r s else s).set (REG_STAT_ISO r) 1)

/-- The FAB gates that the loader closed open again. -/
def gatesOpen (r : Nat) (s : State) : State := { s with fab := { s.fab with gates := s.fab.gates.erase r } }

/-- A region becomes INVALID and isolated; what its port holds completes with FAULT. -/
def regionInvalid (r : Nat) (s : State) : State :=
  portFault r (gatesOpen r (modLdr (fun l => { l with holding := l.holding.erase r }) ((isoEngage r s).set (REG_STAT_STATE r) regInvalid)))

/-- The RECONFIG request or grant of the load in progress ends. -/
def loadGrantEnd (s : State) : State :=
  let s := { s with power := { s.power with replace := s.power.replace.filter (fun p => p.purpose != forLoad) } }
  match entryFor forLoad s with
  | some k => sluEnd k s
  | none => s

/-- The request in progress has ended. -/
def jobEnd (s : State) : State := modLdr (fun l => { l with job := none }) s

/-- A load ends early (R150): the region is left isolated and INVALID. -/
def loadAbort (r cause : Nat) (s : State) : State :=
  raise 0x0406 [⟨1, r⟩, ⟨1, cause⟩] (loadGrantEnd (jobEnd ((regionInvalid r s).set (REG_STAT_ABORT r) cause)))

/-- A load fails at a record or for want of HBM, with a code and an event; at boot the image has then failed, and no further area is
loaded from it (R108, R144). -/
def loadFail (r code event : Nat) (items : List EvItem) (s : State) : State :=
  let s := if s.on BOOT_STAT_READY then s else modLdr (fun l => { l with queue := l.queue.filter (fun q => q.op != 4) }) s
  raise event items (loadGrantEnd (jobEnd ((regionInvalid r s).set (REG_STAT_ERR r) code)))

/-- The load in progress is of region r, from its place in step 1 on. -/
def loads (r : Nat) (s : State) : Bool :=
  match s.ldr.job with
  | some j => j.region == r && j.phase != .staging
  | none => false

/-- INVALIDATE acts (R146). -/
def invalidate (r : Nat) (s : State) : State :=
  if loads r s then loadAbort r 3 s else (regionInvalid r s).set (REG_STAT_ABORT r) 3

/-- A request joins the queue (R147). -/
def ldrEnqueue (q : LdrReq) (s : State) : Status × State :=
  if s.ldr.queue.any (fun x => x.op == q.op && x.slot == q.slot && x.region == q.region) then (.done, s)
  else if 16 ≤ s.ldr.queue.length then (.retry, s)
  else (.done, modLdr (fun l => { l with queue := l.queue ++ [q] }) s)

/-- A write of LDR_REQ (R146, R147, R150). An INVALIDATE of the region being loaded acts at once. -/
def wrLdrReq (a : Agent) (v : Nat) (s : State) : Status × State :=
  let op := LDR_REQ_OP.of v
  let r := LDR_REQ_REGION.of v
  if !(a.core03 || a.fieldIM) then (.denied, s)
  else if op = 3 then (.range, s)
  else if !domOn 64 s ∨ !domOn 65 s then (.asleep, s)
  else if op = 2 ∧ loads r s then (.done, invalidate r s)
  else ldrEnqueue ⟨op, if op = 2 then 0 else LDR_REQ_SLOT.of v, if op = 2 then r else 0, a.init.val⟩ s

/-- LOADER_STAGE, LOADER_LOAD and LOADER_INVALIDATE (R146): a write of LDR_REQ. -/
def execLoaderStage (a : Agent) (n : Fin 16) (s : State) : Out := ok (answered (wrLdrReq a n.val s))
def execLoaderLoad (a : Agent) (n : Fin 16) (s : State) : Out := ok (answered (wrLdrReq a (256 + n.val) s))
def execLoaderInvalidate (a : Agent) (r : Fin 16) (s : State) : Out := ok (answered (wrLdrReq a (512 + 16 * r.val) s))

/-! ### Records (R143, R144) -/

/-- What loads an area: cache slot below 16, or the staging area. -/
def jobSource (j : LdrJob) : Nat := if j.req.op = 1 ∨ j.req.op = 5 then j.req.slot else 16

/-- The image that loads an area. -/
def jobImg (j : LdrJob) (s : State) : ImgRd := hbmImg (cacheBase (jobSource j)) s

/-- The frame records of area r begin after those of the lower areas. -/
def framesBefore (rd : ImgRd) (r : Nat) : Nat := ((imgAreas rd).filter (fun x => decide (x < r))).foldl (fun t x => t + imgCount rd x) 0

/-- Offset of frame record k and of block-memory record k. -/
def frameOff (k : Nat) : Nat := 0x2000 + 4104 * k
def bramOff (rd : ImgRd) (k : Nat) : Nat := 0x2000 + 4104 * imgFrames rd + 4616 * k

/-- The block-memory records that go with area r; one that names an area the image does not set goes with the first area. -/
def areaBrams (rd : ImgRd) (r : Nat) : List Nat :=
  (List.range (imgBrams rd)).filter (fun k =>
    let n := imgField rd (bramOff rd k) 1
    n == r || (!bit (imgMask rd) n && (imgAreas rd).head? == some r))

/-- Records that load area r. -/
def areaRecords (rd : ImgRd) (r : Nat) : Nat := imgCount rd r + (areaBrams rd r).length

/-- Area bounds of R142. -/
def areaFirst (r : Nat) : Nat := 2048 * r
def areaCount (r : Nat) : Nat := if r < 16 then 2048 else 4096

/-- A configuration frame written whole: earlier errors in it are gone. -/
def writeFrame (f : Nat) (dynamic : Bool) (b : List Byte) (s : State) : State :=
  { s with fab := { s.fab with
      cfg := memWrite 0 (4096 * f) b s.fab.cfg
      dyn := if dynamic then (if f ∈ s.fab.dyn then s.fab.dyn else s.fab.dyn ++ [f]) else s.fab.dyn.filter (fun x => x != f)
      bad := s.fab.bad.filter (fun w => w / 512 != f) } }

/-- A block memory given its mode and contents: word w lies at bits w times the mode's width; of a 72-bit word of mode 8 the
low 64 bits are data. -/
def writeBram (n m mode : Nat) (b : List Byte) (s : State) : State :=
  let mode := if mode ≤ 8 then mode else 0
  let v := ofBytes b
  let w := if mode = 8 then 72 else bramBits mode
  let s := { s with fab := { s.fab with
      modes := spSet (bramKey n m) mode s.fab.modes
      words := spClear (bramWordKey n m 0) (bramWordKey n m 32768) s.fab.words
      errs := spClear (bramWordKey n m 0) (bramWordKey n m 32768) s.fab.errs
      raw := spDel (bramKey n m) s.fab.raw
      due := s.fab.due.filter (fun p => p.1 / 32768 != bramKey n m) } }
  forNat (bramWords mode) (fun i t => { t with fab := { t.fab with words := spSet (bramWordKey n m i) (bits v (w * i) (bramBits mode)) t.fab.words } }) s

/-- What a record meets as it is written. -/
inductive RecEnd where
  | good | bounds (addr : Nat) | differs
  deriving DecidableEq, Repr

/-- Record k of the load of area r written (R144, R149). -/
def writeRecord (rd : ImgRd) (r k : Nat) (back : Bool) (s : State) : RecEnd × State :=
  if k < imgCount rd r then
    let o := frameOff (framesBefore rd r + k)
    let f := imgField rd o 4
    let inRange := decide (imgFirst rd r ≤ f) && decide (f < imgFirst rd r + imgCount rd r)
    let inArea := decide (areaFirst r ≤ f) && decide (f < areaFirst r + areaCount r)
    if !(inRange && inArea && bit (imgMask rd) r) then (.bounds f, s)
    else
      let s := (writeFrame f (bit (imgField rd (o + 4) 2) 0) (rd (o + 8) 4096) s).count (REG_STAT_FRAMES_DONE r) 1
      (if back then .good else .differs, s)
  else
    match (areaBrams rd r)[k - imgCount rd r]? with
    | none => (.good, s)
    | some x =>
      let o := bramOff rd x
      let n := imgField rd o 1
      let m := imgField rd (o + 2) 2
      if !bit (imgMask rd) n ∨ n > 16 ∨ bramCount n ≤ m then (.bounds (imgField rd o 4), s)
      else (.good, writeBram n m (imgField rd (o + 1) 1) (rd (o + 8) 4608) s)

/-- Offset and length of record k of the load of area r. -/
def recordSpan (rd : ImgRd) (r k : Nat) : Nat × Nat :=
  if k < imgCount rd r then (frameOff (framesBefore rd r + k), 4104)
  else (bramOff rd (((areaBrams rd r)[k - imgCount rd r]?).getD 0), 4616)

/-- The loader (47), or Rill for a repair (48), reads a span of a copy in HBM: whether it is served without poison. -/
def copyReads (src base o n : Nat) (s : State) : Bool × State :=
  let a := (base + o) / 64 * 64
  let x := hbmLoad src a (ceilDiv (base + o + n - a) 64) s
  (x.1 == .done, x.2.2)

/-! ### Repair (R157) -/

/-- The record of frame f in the copy that loaded area r. -/
def frameRecord (rd : ImgRd) (r f : Nat) : Option Nat :=
  ((List.range (imgCount rd r)).map (fun k => frameOff (framesBefore rd r + k))).find? (fun o => imgField rd o 4 == f)

/-- A frame rewritten in place from a copy. -/
def repairFrame (n r f : Nat) (s : State) : State :=
  let rd := hbmImg (cacheBase n) s
  match frameRecord rd r f with
  | none => s
  | some o =>
    let x := copyReads 48 (cacheBase n) o 4104 s
    if x.1 then writeFrame f (bit (imgField rd (o + 4) 2) 0) (rd (o + 8) 4096) x.2 else x.2

/-- The copy that loaded an area: its cache slot, or 16 for the full image. -/
def areaCopy (r : Nat) (s : State) : Nat := if s.on (REG_STAT_FROM_FULL r) then 16 else s.get (REG_STAT_SLOT r)

/-- A REPAIR (R157): one frame, or every frame with an uncorrectable word. -/
def repairArea (r slot : Nat) (s : State) : State :=
  let l := if slot = 0 then
      ((s.fab.bad.map (· / 512)).filter (fun f => decide (areaFirst r ≤ f) && decide (f < areaFirst r + areaCount r))).eraseDups
    else [slot - 1]
  forEach l (fun f t => repairFrame (areaCopy r t) r f t) s

/-! ### Working on requests (R147 to R149) -/

/-- Frames that a load is expected to take: its bytes at 6.4 GB/s. -/
def loadFrames (rd : ImgRd) (r : Nat) (s : State) : Nat :=
  let bytes := 4104 * imgCount rd r + 4616 * (areaBrams rd r).length
  max 1 (min 65535 (ceilDiv (bytes * 10) (64 * s.get FRM_STAT_PERIOD_ACT)))

/-- A LOAD whose copy is verified goes on: ABORT 1 when the region is not ON, else its RECONFIG request (R148, R149). -/
def loadBegin (q : LdrReq) (r : Nat) (s : State) : State :=
  if r < 16 ∧ !domOn r s then
    raise 0x0406 [⟨1, r⟩, ⟨1, 1⟩] (jobEnd (s.set (REG_STAT_ABORT r) 1))
  else
    let j : LdrJob := ⟨q, r, .granting, 0⟩
    let n := loadFrames (jobImg j s) r s
    placeAgain ⟨clsReconfig, 0x7F, 30, n, q.init, forLoad⟩ (modLdr (fun l => { l with job := some j }) s)

/-- The copy that a request needs: cache slot, or 16. -/
def reqCopy (q : LdrReq) (s : State) : Nat := if q.op = 3 then areaCopy q.region s else if q.op = 4 then 16 else q.slot

/-- The region that a LOAD, or the LOAD for a region in HELD, loads: the one its image names (R146). -/
def loadRegion (q : LdrReq) (s : State) : Nat := if q.op = 1 ∨ q.op = 5 then slotRegion q.slot s else q.region

/-- The request at the front is taken. A boot load of a region waits until its domain is ON (R112). -/
def dispatch (q : LdrReq) (rest : List LdrReq) (s : State) : State :=
  let s := modLdr (fun l => { l with queue := rest }) s
  let stage := modLdr (fun l => { l with job := some ⟨q, if q.op < 3 then 17 else q.region, .staging, 0⟩ }) (setMark (reqCopy q s) false s)
  if q.op = 2 then invalidate q.region s
  else if q.op = 0 then stage
  else if !marked (reqCopy q s) s then stage
  else if q.op = 3 then repairArea q.region q.slot s
  else loadBegin q (loadRegion q s) s

/-- LOADER_DISPATCH (R147). -/
def execLoaderDispatch (s : State) : Out :=
  match s.ldr.job, s.ldr.queue with
  | none, q :: rest => ok (if q.op = 4 ∧ q.region < 16 ∧ !domOn q.region s ∧ !s.on BOOT_STAT_READY then s else dispatch q rest s)
  | _, _ => ok s

/-- A staging failed (R147, R157): the code goes to the region that the LOAD is for, or to LAST_ERR where the slot names none. -/
def stageFailed (q : LdrReq) (c : Nat) (s : State) : State :=
  let r := if q.op = 1 then slotRegion q.slot s else q.region
  if q.op = 0 ∨ (q.op = 1 ∧ r = 17) then s.set LDR_STAT_LAST_ERR c
  else
    let s := s.set (REG_STAT_ERR r) c
    if r < 16 ∧ (q.op = 3 ∨ q.op = 5 ∨ s.get (REG_STAT_STATE r) = regHeld) then regionInvalid r s else s

/-- STAGE_COMPLETE (R146): the copy is made and verified, and what asked for it goes on. -/
def execStageComplete (flashOk : Bool) (s : State) : Out :=
  match s.ldr.job with
  | none => ok s
  | some j =>
    if j.phase ≠ .staging then ok s
    else
      let q := j.req
      let x := stageFor (reqCopy q s) flashOk s
      let t := jobEnd x.2
      ok (if x.1 ≠ 0 then stageFailed q x.1 t
        else if q.op = 0 then t
        else if q.op = 3 then repairArea q.region q.slot t
        else loadBegin q (loadRegion q t) t)

/-- LOAD_GRANT_ISSUED (R149): the target port answers new requests RETRY. -/
def execLoadGrantIssued (s : State) : Out :=
  match s.ldr.job with
  | none => ok s
  | some j =>
    whenOk (j.phase == .granting && grantedForPurpose forLoad s) s
      (if j.region = 16 then
        modLdr (fun l => { l with job := some { j with phase := .writing } })
          (fusesTake 16 (((s.set (REG_STAT_STATE 16) regLoading).set (REG_STAT_ABORT 16) 0).set (REG_STAT_FRAMES_DONE 16) 0))
      else modLdr (fun l => { l with job := some { j with phase := .draining } }) s)

/-- Isolation engages once the accepted requests have ended or failed (R149, R153). -/
def isolate (r : Nat) (s : State) : State := isoEngage r (portFault r s)

/-- LOAD_DRAIN_END (R149, R157): of the region being loaded, or of one in HELD. The loader then asks the region's FAB gates to close;
GATE_ACK and GATE_ACK_TIMEOUT of its domain say what comes of it. -/
def execLoadDrainEnd (r : Fin 16) (s : State) : Out :=
  let n := r.val
  let held := decide (n ∈ s.ldr.holding)
  match (if areaDrains n s then s.ldr.job else none) with
  | some j =>
    let t := (((isolate n s).set (REG_STAT_STATE n) regLoading).set (REG_STAT_ABORT n) 0).set (REG_STAT_FRAMES_DONE n) 0
    ok (fusesTake n (modLdr (fun l => { l with job := some { j with phase := .gating }, holding := l.holding.erase n }) t))
  | none => whenOk held s (modLdr (fun l => { l with holding := l.holding.erase n }) (isolate n s))

/-- LOAD_RECORD_WRITE (R144, R149): the next record of the load. -/
def execLoadRecordWrite (back : Bool) (s : State) : Out :=
  match s.ldr.job with
  | none => ok s
  | some j =>
    let rd := jobImg j s
    if j.phase ≠ .writing ∨ areaRecords rd j.region ≤ j.done_ ∨ hbmWindow 2 65 s = false then ok s
    else
      let sp := recordSpan rd j.region j.done_
      let c := copyReads 47 (cacheBase (jobSource j)) sp.1 sp.2 s
      if !c.1 then ok (loadFail j.region 11 0x0406 [⟨1, j.region⟩, ⟨1, 11⟩] c.2)
      else
        let w := writeRecord rd j.region j.done_ back c.2
        match w.1 with
        | .good => ok (modLdr (fun l => { l with job := some { j with done_ := j.done_ + 1 } }) w.2)
        | .bounds x =>
          let full := decide (jobSource j = 16)
          ok (loadFail j.region 10 0x0405 [⟨1, j.region⟩, ⟨4, x⟩, ⟨4, j.done_⟩]
            (imageRefused (if full then 0 else 1) (if full then fullFlash s else regionFlash (jobSource j)) 10
              (w.2.set (REG_STAT_BAD_ADDR j.region) x)))
        | .differs => ok (loadFail j.region 1 0x0406 [⟨1, j.region⟩, ⟨1, 1⟩] w.2)

/-- The load's area is released (R149): its gates open, its reset has given every flip-flop its initial value (R120), and isolation
releases. The static region of a full image brings the regions' ISO_HOLD (R152). -/
def loadDone (j : LdrJob) (s : State) : State :=
  let r := j.region
  let full := decide (jobSource j = 16)
  let slot := if full then 0 else j.req.slot
  let s := ((s.set (REG_STAT_STATE r) regValid).set (REG_STAT_ISO r) 0).set (REG_STAT_SLOT r) slot
  let s := s.set (REG_STAT_FROM_FULL r) (if full then 1 else 0)
  let s := modLdr (fun l => { l with digest := spSet r (imgDigest (jobImg j s)) l.digest }) s
  let s := flopsInitial r (gatesOpen r s)
  let s := if r = 16 then isoFromImage s else s
  loadGrantEnd (jobEnd (raise 0x0403 [⟨1, r⟩, ⟨1, slot⟩, ⟨2, s.get (REG_STAT_FRAMES_DONE r)⟩] s))

/-- LOAD_COMPLETE (R149): every record is written. -/
def execLoadComplete (s : State) : Out :=
  match s.ldr.job with
  | none => ok s
  | some j => whenOk (j.phase == .writing && decide (areaRecords (jobImg j s) j.region ≤ j.done_)) s (loadDone j s)

/-- QUIET_REGION_RELOAD (R21): a region VALID on entry to QUIET is ON again and HBM is READY. -/
def execQuietRegionReload (r : Fin 16) (s : State) : Out :=
  match s.profile.reload.find? (fun p => p.1 == r.val) with
  | none => ok s
  | some p =>
    if !domOn r.val s ∨ s.get HBM_STAT_STATE ≠ hbmReady then ok s
    else
      let x := ldrEnqueue (if p.2.2 then ⟨4, 0, r.val, 63⟩ else ⟨1, p.2.1, 0, 63⟩) s
      ok (if x.1 = .done then { x.2 with profile := { x.2.profile with reload := x.2.profile.reload.filter (fun q => q.1 != r.val) } } else s)

/-! ### Rill (R154 to R158) -/

/-- The area of a frame address. -/
def frameArea (f : Nat) : Nat := min 16 (f / 2048)

/-- Rill checks a frame: its area is VALID and has power, and its record was not DYNAMIC (R154). -/
def rillChecks (f : Nat) (s : State) : Bool :=
  let n := frameArea f
  s.get (REG_STAT_STATE n) == regValid && (n == 16 || domOn n s) && !decide (f ∈ s.fab.dyn)

/-- A region enters HELD, and its LOAD goes to the front of the queue (R157). -/
def enterHeld (r : Nat) (s : State) : State :=
  modLdr (fun l => { l with holding := l.holding ++ [r], queue := ⟨5, s.get (REG_STAT_SLOT r), r, 63⟩ :: l.queue })
    (s.set (REG_STAT_STATE r) regHeld)

/-- What a double-bit error leads to by the area's POLICY (R157). -/
def upsetAct (f : Nat) (s : State) : State :=
  let n := frameArea f
  let p := s.get (REG_CTL_POLICY n)
  let full := s.on (REG_STAT_FROM_FULL n)
  let repair (slot : Nat) : State :=
    if marked (areaCopy n s) s then repairArea n slot s
    else modLdr (fun l => { l with queue := ⟨3, slot, n, 63⟩ :: l.queue }) s
  if p = 0 then s
  else if p = 1 then repair (f + 1)
  else if full then repair 0
  else enterHeld n s

/-- One frame checked, with the errors that Rill finds in it. -/
def rillFrame (f : Nat) (ups : List Upset) (s : State) : State :=
  let mine := ups.filter (fun u => u.frame == f && decide (u.word < 512))
  let struck := (mine.filter (fun u => u.double)).map (fun u => 512 * f + u.word)
  let s := { s with fab := { s.fab with bad := s.fab.bad ++ struck.filter (fun w => decide (w ∉ s.fab.bad)) } }
  let single := (mine.filter (fun u => !u.double && decide (512 * f + u.word ∉ s.fab.bad))).length
  let s := forNat single (fun _ t =>
    modLdr (fun l => { l with corrFrame := l.corrFrame + 1 })
      (bucketHit RILL_STAT_CORR RILL_STAT_LEVEL RILL_STAT_OVERFLOW RILL_CTL_BUCKET 0x0407 [] t)) s
  let pass (c u : Nat) (t : State) : State :=
    modLdr (fun l => { l with pass := l.pass.map (fun p => { p with checked := p.checked + 1, corr := p.corr + c, uncorr := p.uncorr + u }) }) t
  match s.fab.bad.find? (fun w => w / 512 == f) with
  | none => pass (if single = 0 then 0 else 1) 0 s
  | some w =>
    let s := modLdr (fun l => { l with uncorrTotal := l.uncorrTotal + 1 }) (s.count RILL_STAT_UNCORR 1)
    let s := noteSign 3 (frameArea f) s
    upsetAct f (raise 0x0409 [⟨4, f⟩, ⟨2, w % 512⟩, ⟨1, s.get (REG_CTL_POLICY (frameArea f))⟩] (pass (if single = 0 then 0 else 1) 1 s))

/-- A pass in progress runs: its grant is issued. -/
def passRuns (s : State) : Bool := s.ldr.pass.isSome && s.on RILL_STAT_PASS_BUSY

/-- POSITION moves past one frame address. -/
def rillPast (s : State) : State :=
  let p := s.get RILL_STAT_POSITION + 1
  let s := s.set RILL_STAT_POSITION (if p < 36864 then p else 0)
  if passRuns s then modLdr (fun l => { l with pass := l.pass.map (fun x => { x with seen := x.seen + 1 }) }) s else s

/-- Every frame address has been passed in the on-demand pass. -/
def passSeen (s : State) : Bool := match s.ldr.pass with | some p => decide (36864 ≤ p.seen) | none => false

/-- Scan on from POSITION until so many frames are checked, or once around; an on-demand pass ends with its last address (R158). -/
def rillScan (ups : List Upset) : Nat → Nat → State → State
  | 0, _, s => s
  | _, 0, s => s
  | fuel + 1, left + 1, s =>
    let f := s.get RILL_STAT_POSITION
    if passRuns s && passSeen s then modLdr (fun l => { l with rillDue := 0 }) s
    else if rillChecks f s then
      rillScan ups fuel left (modLdr (fun l => { l with rillDue := l.rillDue - 1 }) (rillPast (rillFrame f ups s)))
    else rillScan ups fuel (left + 1) (rillPast s)

/-- RILL_SLICE (R89, R154): frames of this tick's quota, in a slot of duty 5. -/
def execRillSlice (frames : Nat) (ups : List Upset) (s : State) : Out :=
  inDuty 5 anySlot s (fun t => ok (rillScan ups 36865 (min frames t.ldr.rillDue) t))

/-- A frame that Rill would check exists. -/
def rillHas (s : State) : Bool :=
  (List.range 17).any (fun n => s.get (REG_STAT_STATE n) == regValid && (n == 16 || domOn n s) &&
    decide ((s.fab.dyn.filter (fun f => frameArea f == n)).length < areaCount n))

/-- A write of RILL_CTL (R154, R156, R158). -/
def wrRillCtl (a : Agent) (v : Nat) (s : State) : Status × State :=
  if RILL_CTL_RATE.of v > 68 ∨ RILL_CTL_BUCKET.of v = 0 then (.range, s)
  else
    let t := ((s.set RILL_CTL_RATE (RILL_CTL_RATE.of v)).set RILL_CTL_LEAK (RILL_CTL_LEAK.of v)).set RILL_CTL_BUCKET (RILL_CTL_BUCKET.of v)
    if !RILL_CTL_PASS.hit v ∨ s.on RILL_CTL_PASS then (.done, t)
    else match placeOrRetry ⟨clsScrub, 0x7F, 20, 543, a.init.val, forRillPass⟩ t with
      | (.done, u) => (.done, modLdr (fun l => { l with pass := some ⟨0, 0, 0, 0⟩ }) (u.set RILL_CTL_PASS 1))
      | (st, _) => (st, s)

/-- RILL_CTL with another value of one bit, as a write of it alone composes it. -/
def rillCtlWord (s : State) : Nat := readFlds RILL_CTL_fields s

/-- RILL_PASS_REQUEST (R158). -/
def execRillPassRequest (a : Agent) (s : State) : Out := ok (answered (wrRillCtl a (putBit (rillCtlWord s) 31 true) s))

/-- The grant of an on-demand pass is issued. -/
def rillGranted (s : State) : State := if s.ldr.pass.isSome then s.set RILL_STAT_PASS_BUSY 1 else s

/-- The grant or request of the pass ends. -/
def rillPassOver (s : State) : State :=
  let s := modLdr (fun l => { l with pass := none }) ((s.set RILL_CTL_PASS 0).set RILL_STAT_PASS_BUSY 0)
  match entryFor forRillPass s with
  | some k => sluEnd k s
  | none => s

/-- RILL_PASS_COMPLETE (R158). -/
def execRillPassComplete (s : State) : Out :=
  match s.ldr.pass with
  | none => ok s
  | some p =>
    whenOk (passRuns s && decide (36864 ≤ p.seen)) s
      (let t := ((s.set RILL_PASS_FRAMES_UNCORR p.uncorr).set RILL_PASS_FRAMES_CORR p.corr).set RILL_PASS_FRAMES_CHECKED p.checked
       rillPassOver (raise 0x040A [⟨8, readFlds RILL_PASS_fields t⟩] t))

/-- A write of REG_CTL: 2 is for regions only, 3 for none (R157). -/
def wrRegCtl (n v : Nat) (s : State) : Status × State :=
  let p := (REG_CTL_POLICY n).of v
  if p = 3 ∨ (p = 2 ∧ n = 16) then (.range, s) else (.done, s.set (REG_CTL_POLICY n) p)

/-- A write of ISO_HOLD: code 3 is answered RANGE (R152). -/
def wrIsoHold (n k v : Nat) (s : State) : Status × State :=
  if (List.range 16).any (fun i => bits v (2 * i) 2 == 3) then (.range, s) else (.done, s.set (ISO_HOLD_CHOICE n k) v)

/-! ### Hooks -/

/-- A tick (R154 to R156): quota left over, leak, counts of the last frame, the next quota. -/
def ldrTick (s : State) : State :=
  let left := s.ldr.rillDue
  let s := if left = 0 then s else raise 0x0408 [⟨2, left⟩] (s.count (FRM_OVR_COUNT 5) 1)
  let s := bucketLeak RILL_STAT_LEVEL RILL_CTL_LEAK s
  let due := if passRuns s then (if passSeen s then 0 else 68) else if rillHas s then s.get RILL_CTL_RATE else 0
  modLdr (fun l => { l with corrLast := l.corrFrame, corrFrame := 0, rillDue := due }) s

/-- Operations whose request was withdrawn from Sluice end (R63). -/
def ldrOrphan (s : State) : State :=
  let waits := s.power.replace.any (fun p => p.purpose == forLoad)
  let s := match s.ldr.job with
    | some j => if j.phase != .staging ∧ (entryFor forLoad s).isNone ∧ !waits then loadAbort j.region 3 s else s
    | none => s
  if s.on RILL_CTL_PASS ∧ (entryFor forRillPass s).isNone then rillPassOver s else s

/-- A region enters LOWERING (R150, R153). -/
def ldrLower (r : Nat) (s : State) : State :=
  if loads r s then loadAbort r 1 s else isoEngage r (modLdr (fun l => { l with holding := l.holding.erase r }) s)

/-- A region reaches OFF: its configuration is gone (R153). -/
def ldrOff (r : Nat) (s : State) : State :=
  modLdr (fun l => { l with digest := spDel r l.digest }) ((s.set (REG_STAT_STATE r) regInvalid).set (REG_STAT_FROM_FULL r) 0)

/-- A DOMAIN reset of a region meets its load (R150): absorbed in steps 4 to 6, else the load ends. -/
def ldrDomReset (r : Nat) (s : State) : Bool × State :=
  match s.ldr.job with
  | some j => if j.region = r ∧ (j.phase = .writing ∨ j.phase = .gating) then (true, s) else if loads r s then (false, loadAbort r 2 s) else (false, s)
  | none => (false, s)

/-- The HBM pair leaves ON: a load in step 5 ends, one with every record written goes on (R160). -/
def ldrHbmLeave (s : State) : State :=
  match s.ldr.job with
  | some j =>
    if j.phase = .writing ∧ j.done_ < areaRecords (jobImg j s) j.region then loadFail j.region 11 0x0406 [⟨1, j.region⟩, ⟨1, 11⟩] s else s
  | none => s

/-- The HBM pair reaches OFF or takes a DOMAIN reset: the marks are cleared (R145). -/
def marksLost (s : State) : State :=
  let s := (s.set LDR_CACHE_SLOT_OK 0).set LDR_CACHE_FULL_OK 0
  { s with boot := { s.boot with staged := 0 } }

/-- COLD and WARM resets (R150, R159). -/
def ldrPartReset (s : State) : State :=
  let cut := match s.ldr.job with
    | some j => if j.phase = .staging then none else some j.region
    | none => none
  let s := (s.resetRegs 0x3003000100 0x3003000300).resetRegs 0x3003001000 0x3003003000
  let s := { s with ldr := ⟨[], none, [], 0, none, 0, 0, 0, []⟩ }
  match cut with
  | some r => raise 0x0406 [⟨1, r⟩, ⟨1, 2⟩] (s.set (REG_STAT_ABORT r) 2)
  | none => s

end Sys2Proof.Machine
end

