-- ==== Sys2Proof/Machine/Domains.lean ====
section
/-! DEFINITION. Power domains and their resets, Sluice commands, profiles and the energy limiter (chapters 01 and 03). -/
namespace Sys2Proof.Machine

/-- The domain has a RETAIN state (R51). -/
def retainable (n : Nat) : Bool := n == 64 || n == 65 || (decide (86 ≤ n) && decide (n ≤ 93))

/-- Control cores 0 and 1, and the field interface for an installer or maker (R56). -/
def pwrWriter (a : Agent) : Bool := a.core01 || a.fieldIM

/-! ### Core resets (R100, R101, R104, R457) -/

/-- Firmware for the core has passed verification: maker firmware for 0 and 1, installer firmware for 2 and 3. -/
def coreHasFirmware (c : Nat) (s : State) : Bool := if c < 2 then decide (s.get BOOT_STAT_FW_SLOT < 2) else s.get BOOT_STAT_IFW == 1

/-- A control core starts at its entry point if it has power and firmware; otherwise it stands in reset or is off. -/
def coreBegin (c : Nat) (s : State) : State :=
  if !domOn (82 + c) s then s.set (CORE_STAT_STATE c) coreOff
  else if coreHasFirmware c s then coreStart c s
  else s.set (CORE_STAT_STATE c) coreInReset

/-- What a core's reset takes from it: locks, messages, watchdog, waiting Sluice requests, responses,
its halt, and the requests it serves. -/
def coreLose (c : Nat) (s : State) : State :=
  let s := haltCleared c (progressCleared (fun i => i == c) (nocCoreReset c (clusterCoreReset c (sdoCut c s))))
  forEach (s.power.queue.filter (fun k => s.get (SLU_ENT_INITIATOR k) == c)) sluEnd s

/-- A CORE reset. -/
def coreReset (c : Nat) (s : State) : State := coreBegin c (coreLose c s)

/-! ### Raise requests (R55, R63, R566) -/

/-- The purpose that marks domain n's raise request. -/
def forRaise (n : Nat) : Nat := 100 + n

/-- The grants that a domain holds of some classes, oldest first. -/
def domGrants (n : Nat) (classes : List Nat) (s : State) : List Nat :=
  s.power.order.filter (fun k => entGranted k s && s.get (SLU_ENT_TARGET k) == n && decide (s.get (SLU_ENT_CLASS k) ∈ classes))

/-- Current that the domain still holds reserved (R55): the RETAIN current of a domain in RETAIN, on the DOMAIN grant that it kept.
The 4 units that QUIET keeps for a lane quad are counted where R425 has the quad ask for the rest (`leaveQuiet`). -/
def heldCurrent (n : Nat) (s : State) : Nat :=
  if domState n s = dsRetain then
    (match domGrants n [clsDomain] s with
     | [] => 0
     | k :: _ => s.get (SLU_ENT_CURRENT k))
  else 0

/-- The standard current of a domain that is ON (R55, R403). -/
def onCurrent (n : Nat) (s : State) : Nat :=
  if n < 16 then 55
  else if n < 48 then 10
  else if n < 64 then (if s.get (LNK_CTL_MAXW (n - 48)) = 0 then 4 else 13)
  else if n < 66 then 56
  else if n < 82 then 12 else 0

/-- The raise request of a domain on behalf of an initiator. -/
def raiseReq (n init : Nat) (s : State) : PartReq :=
  ⟨if 16 ≤ n ∧ n < 48 then clsBank else clsDomain, n, onCurrent n s - heldCurrent n s, 0, init, forRaise n⟩

/-- Domains 82 to 95 raise without a request. -/
def fromReserve (n : Nat) : Bool := decide (82 ≤ n)

/-- A raise of the domain waits: its request is placed or due. -/
def raiseWaits (n : Nat) (s : State) : Bool := spGet n s.power.raising != 0

/-- PWR_DOM_STAT.WAIT_GRANT: its request waits for its grant, or to be placed again. -/
def waitGrant (n : Nat) (s : State) : Bool :=
  s.power.replace.any (fun r => r.purpose == forRaise n) ||
  (match entryFor (forRaise n) s with
   | some k => s.get (SLU_ENT_STATE k) == 1
   | none => false)

/-- The wish to raise a domain is recorded with who has it. -/
def wantRaise (n init : Nat) (s : State) : State :=
  { (s.set (PWR_DOM_STAT_ENABLE_PENDING n) 1) with power := { s.power with raising := spSet n (init + 1) s.power.raising } }


/-- The ramp of a raise begins. -/
def startRaising (n : Nat) (s : State) : State := endWish n (s.set (PWR_DOM_STAT_STATE n) dsRaising)

/-- A raise that waits is withdrawn with its request. -/
def withdrawRaise (n : Nat) (s : State) : State :=
  let s := { s with power := { s.power with replace := s.power.replace.filter (fun r => r.purpose != forRaise n) } }
  let s := match entryFor (forRaise n) s with
    | some k => sluEnd k s
    | none => s
  endWish n s

/-- A latched wiring trip refuses the raise of a Jet bank (R67). -/
def wiringRefuses (n : Nat) (s : State) : Bool := decide (16 ≤ n) && decide (n < 48) && s.on ELIM_STAT_WIRING

/-- The part places the raise itself, and again while it is refused RETRY (R566). One that a latched wiring trip refuses with FAULT
is not placed: the bank's target returns to OFF, as the trip leaves every bank's (DESIGN CHOICE, notes/assumptions/15.md), and
the bank must be raised again once the trip is cleared (R67, R68). -/
def raiseAgain (n init : Nat) (s : State) : State :=
  if fromReserve n then startRaising n s
  else if wiringRefuses n s then (endWish n s).set (PWR_DOM_CTL_TARGET n) tgtOff
  else placeAgain (raiseReq n init s) (wantRaise n init s)

/-- The part places again a raise that was refused in this frame: REFUSED and event 0x0208 have told that refusal, and the next
attempt is at the next tick (R566). -/
def raiseNextTick (n init : Nat) (s : State) : State :=
  let s := wantRaise n init s
  let r := raiseReq n init s
  { s with power := { s.power with replace := if r ∈ s.power.replace then s.power.replace else s.power.replace ++ [r] } }

/-- The raise requests of a write, all or none (R55, R345). -/
def placeRaises (init : Nat) : List Nat → State → Status × State
  | [], s => (.done, s)
  | n :: l, s =>
    match sluPlace (raiseReq n init s) false s with
    | (none, t) => (.retry, t)
    | (some _, t) =>
      match placeRaises init l (wantRaise n init t) with
      | (.done, u) => (.done, u)
      | (st, _) => (st, sluRefuse (raiseReq n init s) false s)

/-! ### Leaving ON and losing power -/

/-- What stops as a domain enters LOWERING. -/
def leaveOn (n : Nat) (s : State) : State :=
  let s := clusterDomLeave n s
  if n < 16 then fabLower n (ldrLower n s)
  else if n < 48 then weirBankLeave (n - 16) (jetsForceOff (n - 16) s)
  else if n < 64 then lanesLower (n - 48) s
  else if n < 66 then ldrHbmLeave s
  else if n < 70 then seqGroupLower (n - 66) s
  else if n = 70 then failLower70 s
  else if n = 71 then failLower71 (raAbortAll 2 s)
  else if n = 72 then raLower72 s
  else if n = 73 then raAbortAll 1 s
  else if n < 82 then scLower n s
  else if n < 86 then (coreLose (n - 82) s).set (CORE_STAT_STATE (n - 82)) coreOff
  else if n < 94 then spPairLeave (n - 86) s
  else s

/-- The clock gate of a domain that enters LOWERING follows R52 and no longer R81: a close in progress is withdrawn, an open that
was queued behind it opens the gate (R82). -/
def gateLowers (n : Nat) (s : State) : State :=
  if s.on (CLK_GATE_PEND n) then (s.set (CLK_GATE_PEND n) 0).set (CLK_GATE_CLOSE n) 0 else s

/-- A domain enters LOWERING on its way to RETAIN or OFF. FORCED tells of this lowering from now on. -/
def startLower (n : Nat) (retain : Bool) (s : State) : State :=
  let s := leaveOn n (gateLowers n ((s.set (PWR_DOM_STAT_STATE n) dsLowering).set (PWR_DOM_STAT_FORCED n) 0))
  if retain then { s with power := { s.power with toRetain := s.power.toRetain ++ [n] } } else s

/-- The trace FIFO dropped: its packets are lost (R534, R535). A stimulus write that waited for room is answered FAULT. -/
def traceDrop (s : State) : State :=
  let n := s.trace.due.length + s.trace.sizes.length
  let s := s.count DBG_TRC_STAT_LOST n
  let s := if s.trace.stalled.isEmpty then s else answer .fault s
  { s with trace := { s.trace with due := [], fifo := [], sizes := [], sinceSync := 0, stalled := [], draining := false }, dbg := { s.dbg with lostFrame := s.dbg.lostFrame + n } }

/-- What a domain loses with its power. -/
def loseAtOff (n : Nat) (s : State) : State :=
  if n < 16 then ldrOff n (fabLose n s)
  else if n < 48 then edgeReset (n - 16) (jetsReset (n - 16) s)
  else if n < 64 then s
  else if n < 66 then marksLost (encContentsLost (hbmPowerOff s))
  else if n < 70 then edgeGroupReset (n - 66) (seqGroupReset (n - 66) s)
  else if n = 70 then failReset70 s
  else if n = 71 then failReset71 s
  else if n = 72 then raReset72 s
  else if n = 73 then s
  else if n < 82 then scOff n s
  else if n < 86 then s
  else if n < 94 then spPairLose (n - 86) s
  else if n = 94 then treePassAbort { s with enc := { s.enc with cache := [] } }
  else s


/-- The domain is OFF: its standing grants end (R57). -/
def goOff (n : Nat) (s : State) : State :=
  let s := loseAtOff n (s.set (PWR_DOM_STAT_STATE n) dsOff)
  forEach (domGrants n [clsBank, clsRate, clsPmu, clsDomain] s) sluEnd s

/-- The domain is in RETAIN: its oldest DOMAIN grant stays at the RETAIN current, the others end (R55). -/
def goRetain (n : Nat) (s : State) : State :=
  let s := s.set (PWR_DOM_STAT_STATE n) dsRetain
  let s := if n < 66 ∧ s.get HBM_STAT_STATE ≠ hbmOff then hbmRetain s else s
  match domGrants n [clsDomain] s with
  | [] => s
  | k :: l => (forEach l sluEnd s).set (SLU_ENT_CURRENT k) (if n < 66 then 10 else 0)

/-- A shutdown is complete: the domain takes its state, and then the last target written is acted on (R54). -/
def lowered (n : Nat) (s : State) : State :=
  let keep := decide (n ∈ s.power.toRetain)
  let init := spGet n s.power.raising - 1
  let wish := raiseWaits n s
  let s := { s with power := { s.power with toRetain := s.power.toRetain.erase n } }
  let s := if keep then goRetain n s else goOff n s
  let t := s.get (PWR_DOM_CTL_TARGET n)
  if t = tgtOn then raiseAgain n (if wish then init else 63) s
  else if keep ∧ t = tgtOff then goOff n s
  else s

/-- Domain 94 holds nodes that it has yet to write back before it reports quiescence (R376). -/
def nodesLeft (n : Nat) (s : State) : Bool := n == 94 && s.enc.cache.any (·.dirty)

/-- A domain can report quiescence: nothing accepted is outstanding, and domain 94 could write its nodes back. -/
def mayQuiesce (n : Nat) (s : State) : Bool := outstanding n s == 0 && !(nodesLeft n s && (hbmRefuses s).isSome)

/-- DOMAIN_QUIESCED (R52): nothing accepted is outstanding. Domain 94 has written its nodes back (R376). -/
def execDomainQuiesced (n : Fin 96) (s : State) : Out :=
  whenOk (domState n.val s == dsLowering && mayQuiesce n.val s) s
    (lowered n.val (if n.val = 94 then flushCache s else s))

/-- What is outstanding is ended by force: FORCED, event 0x0203 with cause 0 lowering or 1 DOMAIN reset, FAULT (R52, R102). -/
def forceQuiet (n cause : Nat) (s : State) : State :=
  let s := raise 0x0203 [⟨1, n⟩, ⟨1, min 255 (outstanding n s)⟩, ⟨1, cause⟩] (s.set (PWR_DOM_STAT_FORCED n) 1)
  let s := if n < 16 then portFault n s else s
  nocFault n (if n = 94 then encForced s else s)

/-- LOWERING_FORCED (R52): 10 µs without quiescence. Quiescence that has come by then wins (R95). -/
def execLoweringForced (n : Fin 96) (s : State) : Out :=
  whenOk (domState n.val s == dsLowering && (outstanding n.val s != 0 || nodesLeft n.val s)) s (lowered n.val (forceQuiet n.val 0 s))

/-! ### Reaching ON (R51) -/

/-- A scratchpad pair raised: a bit column replaced since takes effect, and leaves its bank undefined (R441, R538). -/
def spFuse (p : Nat) (s : State) : State :=
  let s := forEach (s.leap.spDue.filter (fun b => b / 2 == p)) spLose s
  { s with leap := { s.leap with spDue := s.leap.spDue.filter (fun b => b / 2 != p) } }

/-- What starts as a domain reaches ON. -/
def reachOn (n : Nat) (s : State) : State :=
  let s := s.set (PWR_DOM_STAT_STATE n) dsOn
  if n < 16 then s
  else if n < 48 then
    let b := n - 16
    let old := s.get (JET_BANK_STAT_SPARE_ACT b)
    let s := applySpare b s
    realign b (checkMaxrate b (weirBankOn b (s.get (JET_BANK_STAT_SPARE_ACT b) != old) s))
  else if n < 64 then lanesReachOn (n - 48) s
  else if n < 66 then hbmReachOn s
  else if 82 ≤ n ∧ n < 86 then coreBegin (n - 82) s
  else if 86 ≤ n ∧ n < 94 then bootMarch (spFuse (n - 86) s)
  else s

/-- A domain whose ramp has ended is ON; a target written during the ramp then takes effect (R54). -/
def raised (n : Nat) (s : State) : State :=
  let s := reachOn n s
  let t := s.get (PWR_DOM_CTL_TARGET n)
  if t = tgtOn then s else startLower n (t == tgtRetain) s

/-! ### Targets (R51, R54, R55, R345) -/

/-- The domains that act together with n (R345). -/
def domPair (n : Nat) : List Nat := if n = 64 ∨ n = 65 then [64, 65] else [n]

/-- TARGET written for each. -/
def setTargets (l : List Nat) (t : Nat) (s : State) : State := forEach l (fun n u => u.set (PWR_DOM_CTL_TARGET n) t) s

/-- Target ON: LOWERING domains are raised after their shutdown, OFF and RETAIN ones ask for their grants. -/
def targetOn (l : List Nat) (init : Nat) (s : State) : Status × State :=
  let need := l.filter (fun n => (domState n s == dsOff || domState n s == dsRetain) && !raiseWaits n s)
  let late := l.filter (fun n => domState n s == dsLowering)
  let done (t : State) : Status × State :=
    let t := forEach late (fun n u => raise 0x0207 [⟨1, n⟩] (wantRaise n init u)) (setTargets l tgtOn t)
    (.done, if 64 ∈ l ∧ pairOn t ∧ t.get HBM_STAT_STATE = hbmFailed then t.set HBM_STAT_STATE hbmTraining else t)
  if (need ++ late).any (fun n => wiringRefuses n s) then (.fault, s)
  else if need.all fromReserve then done (forEach need startRaising s)
  else match placeRaises init need s with
    | (.done, t) => done t
    | x => x

/-- Target OFF or RETAIN for one domain. -/
def targetDown (n t : Nat) (s : State) : State :=
  let s := s.set (PWR_DOM_CTL_TARGET n) t
  let st := domState n s
  if st = dsOn then startLower n (t == tgtRetain) s
  else if st = dsRaising then s
  else
    let s := if raiseWaits n s then withdrawRaise n s else s
    if st = dsRetain ∧ t = tgtOff then goOff n s else s

/-- What QUIET leaves ON: control core 0, and quads with an enabled link (R20, R425). -/
def quietOn (n : Nat) (s : State) : Bool := n == 82 || (decide (48 ≤ n) && decide (n < 64) && s.on (LNK_CTL_EN (n - 48)))

/-- A target written while QUIET holds replaces the recorded one; ON is only recorded (R21). -/
def quietTarget (l : List Nat) (t init : Nat) (s : State) : Status × State :=
  match s.profile.quiet with
  | none => if t = tgtOn then targetOn l init s else (.done, forEach l (fun n u => targetDown n t u) s)
  | some q =>
    let kept := l.all (fun n => quietOn n s)
    let s := if kept then s else { s with profile := { s.profile with quiet := some { q with targets := l.foldl (fun m n => spSet n t m) q.targets } } }
    if t ≠ tgtOn then (.done, forEach l (fun n u => targetDown n t u) s)
    else if kept then targetOn l init s
    else (.done, s)

/-! ### DOMAIN resets (R100, R102, R104) -/

/-- The domain's logic returns to its reset values. -/
def domReset (n : Nat) (s : State) : State :=
  let s := ingressReturned n (progressCleared (fun i => initDom i == some n) (clusterDomReset n s))
  let s := forEach (domGrants n [clsBank, clsRate, clsPmu, clsReconfig, clsBurst, clsAlmanac, clsScrub, clsDomain] s) sluEnd s
  if n < 16 then (if (ldrDomReset n s).1 then s else fabReset n s)
  else if n < 48 then
    let b := n - 16
    let s := weirBankReset b (edgeReset b (jetsReset b s))
    let s := forNat 16 (fun c t => t.resetRegs (0x3001010000 + 8 * (16 * (b % 32) + c % 16)) (0x3001010008 + 8 * (16 * (b % 32) + c % 16))) s
    if domOn n s then realign b s else s
  else if n < 64 then lanesReset (n - 48) s
  else if n < 66 then marksLost (encContentsLost (if pairOn s then hbmDomainReset s else hbmPowerOff s))
  else if n < 70 then edgeGroupReset (n - 66) (seqGroupReset (n - 66) (seqGroupLower (n - 66) s))
  else if n = 70 then failReset70 (failLower70 s)
  else if n = 71 then failReset71 (raAbortAll 2 s)
  else if n = 72 then raReset72 (raLower72 s)
  else if n = 73 then raAbortAll 1 s
  else if n < 82 then scReset n s
  else if n < 86 then s
  else if n < 94 then spPairLose (n - 86) (spPairLeave (n - 86) s)
  else if n = 94 then treePassAbort (flushCache s)
  else traceDrop s

/-- The wait for quiescence is over: the hold begins. A Jet bank's balls go to high impedance (R46). -/
def resetHolds (n : Nat) (s : State) : State :=
  let s := if 16 ≤ n ∧ n < 48 then jetsForceOff (n - 16) s else s

  { s with power := { s.power with resetWait := s.power.resetWait.erase n, resetHold := s.power.resetHold ++ [n] } }

/-- A write of DRESET (R100, R102): one in progress covers it; of a control core's domain it is a CORE reset. -/
def startDreset (n : Nat) (s : State) : State :=
  if n ∈ s.power.resetWait ∨ n ∈ s.power.resetHold then s
  else if 82 ≤ n ∧ n < 86 then coreReset (n - 82) s
  else
    let s := s.set (PWR_DOM_STAT_FORCED n) 0
    let s := if n < 16 then (ldrDomReset n s).2 else s
    if outstanding n s = 0 ∧ nodesLeft n s = false then resetHolds n s else { s with power := { s.power with resetWait := s.power.resetWait ++ [n] } }

/-- DRESET_QUIESCE_TIMEOUT (R102). -/
def execDresetQuiesceTimeout (n : Fin 96) (s : State) : Out :=
  whenOk (decide (n.val ∈ s.power.resetWait) && (outstanding n.val s != 0 || nodesLeft n.val s)) s (resetHolds n.val (forceQuiet n.val 1 s))

/-- DOMAIN_RESET_HOLD_END (R102): quiescence came, the hold has passed. -/
def execDomainResetHoldEnd (n : Fin 96) (s : State) : Out :=
  whenOk (decide (n.val ∈ s.power.resetHold) || (decide (n.val ∈ s.power.resetWait) && mayQuiesce n.val s)) s
    (domReset n.val { s with power := { s.power with resetWait := s.power.resetWait.erase n.val, resetHold := s.power.resetHold.erase n.val } })

/-- A write of PWR_DOM_CTL(n) (R55, R56, R102). -/
def wrPwrCtl (a : Agent) (n v : Nat) (s : State) : Status × State :=
  let t := (PWR_DOM_CTL_TARGET n).of v
  if !pwrWriter a then (.denied, s)
  else if t = 3 ∨ (t = tgtRetain ∧ !retainable n) then (.range, s)
  else
    let r := if s.changes (PWR_DOM_CTL_TARGET n) v ∨ t = tgtOn ∨ s.profile.quiet.isSome then quietTarget (domPair n) t a.init.val s else (.done, s)
    (r.1, if r.1 == .done && (PWR_DOM_CTL_DRESET n).hit v then startDreset n r.2 else r.2)

/-- DOMAIN_TARGET_WRITE (R55): PWR_DOM_CTL with DRESET 0. -/
def execDomainTargetWrite (a : Agent) (n : Fin 96) (t : Nat) (s : State) : Out :=
  ok (answered (if t > 3 then (.range, s) else wrPwrCtl a n.val t s))

/-- DOMAIN_RESET (R102): PWR_DOM_CTL with DRESET 1 and TARGET as it stands. -/
def execDomainReset (a : Agent) (n : Fin 96) (s : State) : Out :=
  ok (answered (if !pwrWriter a then (.denied, s) else (.done, startDreset n.val s)))

/-! ### Sluice commands (R57 to R63) -/

/-- A write of SLU_REQ by any agent. -/
def wrSluReq (a : Agent) (v : Nat) (s : State) : Status × State :=
  let r := sluSubmit (SLU_REQ_CLASS.of v) (SLU_REQ_TARGET.of v) (SLU_REQ_CURRENT.of v) (SLU_REQ_DURATION.of v) a.init.val s
  (r.1, r.2.2)

/-- SLUICE_REQUEST (R57, R59): the answer's value is the ticket with AT_ONCE, as SLU_MYTICKET shows it. -/
def execSluiceRequest (a : Agent) (v : Nat) (s : State) : Out :=
  let r := wrSluReq a v s
  ok (if r.1 = .done then { r.2 with resp := ⟨.done, spGet a.init.val r.2.power.ticket, []⟩ } else answered r)

/-- SLUICE_RELEASE (R63). -/
def execSluiceRelease (a : Agent) (ticket : Nat) (s : State) : Out := ok (answered (sluRelease a.init.val (ticket % 65536) s))

/-- A request that stands ahead of entry `k` in the queue has been passed over 8 times and blocks it; a PROFILE request never
does (R60). -/
def blockedAt (k : Nat) (s : State) : Bool :=
  (s.power.queue.takeWhile (fun x => x != k)).any (fun x => s.get (SLU_ENT_SKIPS x) == 8 && s.get (SLU_ENT_CLASS x) != clsProfile)

/-- The grant cycle visits requests in order (R60): each that fits is granted, any other is passed over; one passed over 8
times already, but a PROFILE request, blocks those behind it. -/
def visit : Nat → State → State
  | 0, s => s
  | n + 1, s =>
    match s.power.cycle with
    | [] => s
    | k :: l =>
      let cls := s.get (SLU_ENT_CLASS k)
      let skips := s.get (SLU_ENT_SKIPS k)
      let s := { s with power := { s.power with cycle := l } }
      if sluFits cls (s.get (SLU_ENT_CURRENT k)) s then visit n (grantEntry k s)
      else if skips = 8 ∧ cls ≠ clsProfile then { s with power := { s.power with cycle := [] } }
      else visit n (s.set (SLU_ENT_SKIPS k) (min 8 (skips + 1)))

/-- SLUICE_GRANT_CYCLE (R60, R89): duty 1 visits so many requests in a slot. -/
def execSluiceGrantCycle (visits : Nat) (s : State) : Out := inDuty 1 anySlot s (fun t => ok (visit visits t))

/-- Duty 1 at a tick: requests left unvisited are carried over, and the next cycle resumes with them (R70); where a request ahead of
them has come to block them, it resumes with that one (R60). -/
def sluCycleTick (s : State) : State :=
  match s.power.cycle with
  | [] => { s with power := { s.power with cycle := s.power.queue } }
  | k :: l =>
    let s := raise 0x0205 [⟨1, l.length + 1⟩] (s.count (FRM_OVR_COUNT 1) 1)
    { s with power := { s.power with cycle := if blockedAt k s then s.power.queue else s.power.queue.dropWhile (fun x => x != k) } }

/-- What a granted operation begins with as its ramp starts (R51, R61). -/
def rampStart (k : Nat) (s : State) : State :=
  let p := spGet k s.power.purpose
  if p = forRillPass then rillGranted s
  else if p = forLifecycle ∨ p = forEdition ∨ p = forLedger then almGranted s
  else if 100 ≤ p ∧ p < 196 then
    let n := p - 100
    let st := domState n s
    if s.get (PWR_DOM_CTL_TARGET n) = tgtOn ∧ (st = dsOff ∨ st = dsRetain) then startRaising n s else sluEnd k s
  else s

/-- SLUICE_RAMP_START (R61): the grants of a cycle start one after another. -/
def execSluiceRampStart (s : State) : Out :=
  match s.power.ramp with
  | [] => ok s
  | k :: l => ok (rampStart k { s with power := { s.power with ramp := l } })

/-- GRANT_OVERDUE (R62): no frame is left on a finite grant. -/
def execGrantOverdue (e : Fin 128) (s : State) : Out :=
  let k := e.val
  whenOk (s.get (SLU_ENT_STATE k) == 2 && spGet k s.power.dur != 0 && s.get (SLU_ENT_REMAIN k) == 0) s
    (raise 0x0204 [⟨2, ticketOf k s⟩, ⟨1, s.get (SLU_ENT_INITIATOR k)⟩, ⟨1, s.get (SLU_ENT_CLASS k)⟩] (s.set (SLU_ENT_STATE k) 3))

/-- REMAIN falls at each tick, and refused requests of the part are placed again (R566). -/
def sluTick (s : State) : State :=
  let s := forNat 128 (fun k t => if entGranted k t then t.set (SLU_ENT_REMAIN k) (t.get (SLU_ENT_REMAIN k) - 1) else t) s
  forEach s.power.replace placeAgain s

/-- Passes in HBM and of trees whose ticket was released end at the next tick, also one whose grant had begun, with no summary and
no event (R63; DESIGN CHOICE, notes/assumptions/14.md: the spec does not say what a release does to a pass that runs). -/
def sluOrphans (s : State) : State :=
  let s := if s.on HBM_PASS_GO ∧ (entryFor forHbmPass s).isNone then s.set HBM_PASS_GO 0 else s
  let s := if s.on ENC_PASS_GO ∧ (entryFor forEncPass s).isNone then s.set ENC_PASS_GO 0 else s
  almOrphan (ldrOrphan s)

/-! ### Profiles (R20 to R25) -/

/-- The first limit of a profile that the present load exceeds (R23). The order of the checks and the codes by which event 0x0141
names the limit are the model's: 1 rate, 2 PMU sampling, 3 a running sequencer, 4 a bank not OFF, 5 a grant, in one byte (DESIGN
CHOICE, notes/assumptions/13.md). -/
def loadExceeds (p : Nat) (s : State) : Option Nat :=
  let banks := (List.range 32).filter (fun b => domOn (16 + b) s)
  let fast := match profileRate p with
    | some m => banks.any (fun b => decide (s.get (JET_BANK_CTL_MAXRATE b) > m))
    | none => false
  let samples := match profileDiv p with
    | some d => banks.any (fun b => (List.range 16).any (fun c =>
        s.get (JET_PMU_CTL_MODE (16 * b + c)) != 0 && decide (s.get (JET_PMU_CTL_DIV (16 * b + c)) < d)))
    | none => false
  if fast then some 1
  else if samples then some 2
  else if p ≠ 3 then none
  else if (List.range 16).any (fun q => !seqStopped q s) then some 3
  else if (List.range 32).any (fun b => domState (16 + b) s != dsOff) then some 4
  else if (List.range 128).any (fun k => entGranted k s && decide (1 ≤ s.get (SLU_ENT_CLASS k)) && decide (s.get (SLU_ENT_CLASS k) ≤ 6)) then some 5
  else none

/-- A pending change is dropped: by a later submission (R24), or because it has ended. -/
def profileDrop (s : State) : State :=
  let s := match s.profile.entry with
    | some k => sluEnd k s
    | none => s
  { (s.set SYS_PROFILE_PENDING 0) with profile := { s.profile with entry := none, granted := false } }

/-- A change is refused: RESULT and event 0x0141. -/
def profileRefuse (p : Nat) (st : Status) (limit : Option Nat) (s : State) : State :=
  let items : List EvItem := [⟨1, p⟩, ⟨1, st.code⟩] ++ (match limit with | some l => [⟨1, l⟩] | none => [])
  raise 0x0141 items (s.set SYS_PROFILE_RESULT st.code)

/-- A profile change is submitted (R23, R24). -/
def profileSubmit (p : Nat) (s : State) : State :=
  let s := profileDrop s
  if p = curProfile s then s.set SYS_PROFILE_RESULT 0
  else match loadExceeds p s with
    | some l => profileRefuse p .range (some l) s
    | none =>
      let s := { s with profile := { s.profile with req := p } }
      match sluPlace ⟨clsProfile, 0x7F, 0, 1, 63, 0⟩ false s with
      | (none, t) => profileRefuse p .retry none t
      | (some k, t) =>
        { (t.set SYS_PROFILE_PENDING 1) with profile := { t.profile with entry := some k, granted := entGranted k t } }

/-- A write of SYS_PROFILE (R23). -/
def wrSysProfile (a : Agent) (v : Nat) (s : State) : Status × State :=
  if !(a.core03 || a.init.val == 49) then (.denied, s)
  else
    let p := SYS_PROFILE_REQ.of v
    let s := s.set SYS_PROFILE_REQ p
    (.done, if SYS_PROFILE_GO.hit v then profileSubmit p s else s)

/-- PROFILE_CHANGE_REQUEST (R23, R27): SYS_PROFILE with GO, or object 0x2000:0x20. -/
def execProfileChangeRequest (a : Agent) (viaObject : Bool) (req : Nat) (s : State) : Out :=
  if viaObject then
    ok (answered (if a.init ≠ 49 ∨ a.role = .none then (.denied, s) else if req > 3 then (.range, s) else wrSysProfile a (65536 + req) s))
  else ok (answered (wrSysProfile a (65536 + req % 4) s))

/-- Entry to QUIET (R21, R425): targets and loaded regions are recorded, and the part lowers what QUIET does not keep. Every Jet bank is
OFF then, and one whose raise still waits is recorded as OFF: it stays OFF unless the host writes ON while QUIET holds. -/
def enterQuiet (s : State) : State :=
  let away := (List.range 96).filter (fun n => !quietOn n s)
  let targets := away.foldl (fun m n => if 16 ≤ n ∧ n < 48 then m else spSet n (s.get (PWR_DOM_CTL_TARGET n)) m) []
  let regions := ((List.range 16).filter (fun r => s.get (REG_STAT_STATE r) == regValid)).map
    (fun r => (r, s.get (REG_STAT_SLOT r), s.on (REG_STAT_FROM_FULL r)))
  let s := { s with profile := { s.profile with quiet := some ⟨targets, regions⟩, reload := [] } }
  let s := forNat 16 (fun q t =>
    if quietOn (48 + q) t then
      let t := narrowQuiet q t
      match domGrants (48 + q) [clsDomain] t with
      | [] => t
      | k :: l => (forEach l sluEnd t).set (SLU_ENT_CURRENT k) (min 4 (t.get (SLU_ENT_CURRENT k)))
    else t) s
  forEach away (fun n t => targetDown n (if retainable n then tgtRetain else tgtOff) t) s

/-- The purpose that marks a quad's request on leaving QUIET. -/
def forQuad (q : Nat) : Nat := 200 + q

/-- Leaving QUIET (R21, R425): recorded targets ON come back, each with its raise; reloads fall due; wide quads ask for the
rest of their current. -/
def leaveQuiet (s : State) : State :=
  match s.profile.quiet with
  | none => s
  | some r =>
    let s := { s with profile := { s.profile with quiet := none, reload := r.regions } }
    let s := forEach (r.targets.filter (fun p => p.2 == tgtOn)) (fun p t =>
      let n := p.1
      let t := t.set (PWR_DOM_CTL_TARGET n) tgtOn
      let st := domState n t
      if st = dsOff ∨ st = dsRetain then raiseAgain n 63 t
      else if st = dsLowering then raise 0x0207 [⟨1, n⟩] (wantRaise n 63 t)
      else t) s
    forNat 16 (fun q t =>
      if t.on (LNK_CTL_EN q) && t.get (LNK_CTL_MAXW q) != 0 && quadCurrent q t == 4 then
        placeAgain ⟨clsDomain, 48 + q, 9, 0, 63, forQuad q⟩ t
      else t) s

/-- A granted change at a tick (R23, R25). -/
def profileTick (s : State) : State :=
  if !s.profile.granted then s
  else
    let p := s.profile.req
    let old := curProfile s
    let s := profileDrop s
    match loadExceeds p s with
    | some l => profileRefuse p .range (some l) s
    | none =>
      let s := (s.set SYS_PROFILE_CUR p).set SYS_PROFILE_RESULT 0
      let s := raise 0x0140 [⟨1, old⟩, ⟨1, p⟩, frameItem s] s
      if p = 3 then enterQuiet s else if old = 3 then leaveQuiet s else s

/-! ### The energy limiter (R64 to R70) -/

/-- The fault current of a ball in nA (R64), or none where neither driver, load nor PMU serves it: 110 % of its PMU's range while the
PMU forces, else 60 mA in the fast range and 130 mA in the wide one while its driver or its load is on it. -/
def faultLimit (n : Nat) (s : State) : Option Nat :=
  if pmuConnected n s then some (rangePA (s.get (JET_PMU_CTL_IRANGE n)) * 11 / 10000)
  else if spGet n s.jets.drv != 0 || loadOn n s then some (if s.on (JET_CFG_RANGE n) then 130000000 else 60000000)
  else none

/-- A current out of a ball is a fault current (R64): above the limit, or with the PMU's programmed clamp engaged. -/
def faultCurrent (n nA : Nat) (s : State) : Bool :=
  (pmuConnected n s && spGet n s.jets.clamp != 0) ||
  (match faultLimit n s with
   | some x => decide (x < nA)
   | none => false)

/-- BALL_FAULT_ONSET (R64, R65): so many nA flow out of a ball; where that is a fault current the limiter begins to integrate. -/
def execBallFaultOnset (x : BallCurrent) (s : State) : Out :=
  let ch := x.ch.val
  whenOk (faultCurrent ch x.nA s) s
    { s with power := { s.power with inFault := if ch ∈ s.power.inFault then s.power.inFault else s.power.inFault ++ [ch] } }

/-- FAULT_EVENT_END (R65). -/
def execFaultEventEnd (ch : Fin 512) (s : State) : Out := ok { s with power := { s.power with inFault := s.power.inFault.erase ch.val } }

/-- A channel is kept at high impedance by a trip: load and PMU leave its ball. -/
def holdHiz (n : Nat) (s : State) : State :=
  let s := pmuDisconnect n s
  { s with
    power := { s.power with hiz := if n ∈ s.power.hiz then s.power.hiz else s.power.hiz ++ [n] }
    jets := { s.jets with drv := spDel n s.jets.drv } }

/-- BALL_TRIP (R65, R67): the integral of a fault has reached 40 µJ. Event 0x0201 carries the fault energy as 4 bytes of nJ (DESIGN
CHOICE, notes/assumptions/16.md). -/
def execBallTrip (ch : Fin 512) (nJ : Nat) (s : State) : Out :=
  let n := ch.val
  whenOk (decide (n ∈ s.power.inFault) && decide (40000 ≤ nJ) && !bit (s.get (ELIM_TRIP_BALL (n / 16))) (n % 16)) s
    (raise 0x0201 [⟨2, n⟩, ⟨4, nJ⟩, frameItem s]
      (holdHiz n (calWatch (s.set (ELIM_TRIP_BALL (n / 16)) (putBit (s.get (ELIM_TRIP_BALL (n / 16))) (n % 16) true)))))

/-- A wiring trip lowers the banks and takes their grants and requests (R66, R67). -/
def wiringTrip (uJ : Nat) (s : State) : State :=
  let s := raise 0x0202 [⟨2, min uJ 65535⟩, frameItem s] ((s.set ELIM_STAT_WIRING 1).set ELIM_STAT_WIN_FAULT (min uJ 65535))
  let s := forNat 512 holdHiz (calWatch s)
  let s := forNat 32 (fun b t => targetDown (16 + b) tgtOff t) s
  forEach ((List.range 128).filter (fun k => s.get (SLU_ENT_STATE k) != 0 && decide (s.get (SLU_ENT_CLASS k) ≤ clsPmu))) sluEnd s

/-- WIRING_TRIP (R66): the window sum has reached 1.8 mJ. -/
def execWiringTrip (uJ : Nat) (s : State) : Out := whenOk (decide (1800 ≤ uJ) && !s.on ELIM_STAT_WIRING) s (wiringTrip uJ s)

/-- A write of ELIM_TRIP(b): latches written 1 clear where the ball carries no fault current (R68). -/
def wrElimTrip (a : Agent) (b v : Nat) (s : State) : Status × State :=
  let l := (List.range 16).filter (fun c => bit v c && bit (s.get (ELIM_TRIP_BALL b)) c && !decide (16 * b + c ∈ s.power.inFault))
  (.done, forEach l (fun c t =>
    raise 0x0209 [⟨2, 16 * b + c⟩, ⟨1, a.role.code⟩] (t.set (ELIM_TRIP_BALL b) (putBit (t.get (ELIM_TRIP_BALL b)) c false))) s)

/-- A write of ELIM_STAT: the wiring latch clears once the window is below the threshold and no ball carries a fault (R68). Event
0x0209 shows the wiring as channel 0xFFFF (DESIGN CHOICE, notes/assumptions/16.md). -/
def wrElimStat (a : Agent) (v : Nat) (s : State) : Status × State :=
  let go := ELIM_STAT_WIRING.hit v && s.on ELIM_STAT_WIRING && decide (s.get ELIM_STAT_WIN_FAULT < 1800) && s.power.inFault.isEmpty
  (.done, if go then raise 0x0209 [⟨2, 0xFFFF⟩, ⟨1, a.role.code⟩] (s.set ELIM_STAT_WIRING 0) else s)

/-- BALL_LATCH_CLEAR and WIRING_LATCH_CLEAR (R68). -/
def execBallLatchClear (a : Agent) (b : Fin 32) (mask : Nat) (s : State) : Out := ok (answered (wrElimTrip a b.val mask s))
def execWiringLatchClear (a : Agent) (s : State) : Out := ok (answered (wrElimStat a 1 s))

/-- ENERGY_LEDGER_STEP (R69, R70): the snapshot of the last completed frame, or of the frames since the last one. -/
def execEnergyLedgerStep (l : List EnergySample) (uJ : Nat) (s : State) : Out := inDuty 7 anySlot s (fun s =>
  let merged := if 2 ≤ s.power.ledgerDue then 1 else 0
  let put (n : Nat) (t : State) : State :=
    let x := l.find? (fun e => e.ch.val == n)
    let tot := (x.map (fun e => e.total)).getD 0
    let flt := (x.map (fun e => e.fault)).getD 0
    ((t.set (ENL_TOTAL n) (min tot (2 ^ 32 - 1))).set (ENL_FAULT n) (min flt (2 ^ 24 - 1))).set (ENL_MERGED n) merged
  whenOk (s.power.ledgerDue != 0) s
    ((forNat 512 put { s with power := { s.power with ledgerDue := 0 } }).set ELIM_STAT_WIN_FAULT (min uJ 65535)))

/-- Duty 7 at a tick: a snapshot not taken is merged with the next (R70). Event 0x0206 carries the frames merged in 2 bytes (DESIGN
CHOICE, notes/assumptions/16.md). -/
def ledgerTick (s : State) : State :=
  let n := s.power.ledgerDue
  let s := if n = 0 then s else raise 0x0206 [⟨2, n + 1⟩] (s.count (FRM_OVR_COUNT 7) 1)
  { s with power := { s.power with ledgerDue := n + 1 } }

/-- FAULT_N is low: a trip is latched and VIN holds its driver (R41, R44, R67). -/
def faultLow (s : State) : Bool :=
  s.power.vin != .off && (s.on ELIM_STAT_WIRING || (List.range 32).any (fun b => s.get (ELIM_TRIP_BALL b) != 0))

end Sys2Proof.Machine
end

