-- ==== Sys2Proof/Machine/Debug.lean ====
section
/-! DEFINITION. The debug port's sign-in, run control by registers, FREEZE_TEST, trace and the TAP (chapter 22). -/
namespace Sys2Proof.Machine

/-! ### Who may do what (R519, R533) -/

/-- The role of the debug session. -/
def dbgRole (s : State) : Nat := s.get DBG_AUTH_CTL_ROLE

/-- The access comes from the debug access port. -/
def isDap (a : Agent) : Bool := a.init.val == 50

/-- The debug port acts for an installer or maker. -/
def dapIM (a : Agent) (s : State) : Bool := isDap a && decide (2 ≤ dbgRole s)

/-- The debug port may act on core k: control cores 0 and 1 are the maker's (R519). -/
def dapCore (a : Agent) (k : Nat) (s : State) : Bool := isDap a && decide ((if k < 2 then 3 else 2) ≤ dbgRole s)

/-! ### Signing in (R518) -/

/-- Bytes of DBG_AUTH_BUF. -/
def authBuf (n : Nat) (s : State) : List Byte :=
  ((List.range (ceilDiv n 8)).flatMap (fun i => toBytes 8 (s.get (DBG_AUTH_BUF_WORD i)))).take n

/-- A write of DBG_AUTH_CTL (R518). -/
def wrDbgAuth (a : Agent) (v : Nat) (s : State) : Status × State :=
  let op := DBG_AUTH_CTL_OP.of v
  let len := DBG_AUTH_CTL_LEN.of v
  let s1 := s.set DBG_AUTH_CTL_LEN len
  if !isDap a then (.denied, s)
  else if s.on DBG_AUTH_CTL_BUSY then (.retry, s)
  else if op = 1 then
    let c := newChallenge 8 s1
    (.done, (forNat 8 (fun i t => t.set (DBG_AUTH_BUF_WORD i) (ofBytes (slice (8 * i) 8 c.1))) c.2).set DBG_AUTH_CTL_RESULT 0)
  else if op = 2 then
    if len < 8 ∨ 64 < len then (.range, s)
    else (.done, { s1.set DBG_AUTH_CTL_BUSY 1 with dbg := { s1.dbg with auth := some (2, authBuf len s) } })
  else if op = 3 then (.done, { s1.set DBG_AUTH_CTL_BUSY 1 with dbg := { s1.dbg with auth := some (3, authBuf 7220 s) } })
  else if op = 4 then (.done, (dbgEnd 0 s1).set DBG_AUTH_CTL_RESULT 0)
  else (.range, s)

/-- DEBUG_CHALLENGE (R518). -/
def execDebugChallenge (a : Agent) (s : State) : Out :=
  ok (answered (wrDbgAuth a (256 * s.get DBG_AUTH_CTL_LEN + 1) s))

/-- DEBUG_PASSWORD (R518). -/
def execDebugPassword (a : Agent) (len : Nat) (s : State) : Out :=
  ok (if isDap a && !s.on DBG_AUTH_CTL_BUSY && decide (128 ≤ len) then answer .range s else answered (wrDbgAuth a (256 * len + 2) s))

/-- DEBUG_KEY (R518). -/
def execDebugKey (a : Agent) (s : State) : Out := ok (answered (wrDbgAuth a (256 * s.get DBG_AUTH_CTL_LEN + 3) s))

/-- DEBUG_SIGN_OUT (R520). -/
def execDebugSignOut (a : Agent) (s : State) : Out := ok (answered (wrDbgAuth a (256 * s.get DBG_AUTH_CTL_LEN + 4) s))

/-- The check of a password or key response ends: on DONE the session takes its role, with event 0x1303 (R518). -/
def authEnd (op : Nat) (b : List Byte) (s : State) : State :=
  let r := if op = 2 then operatorSignIn 8 b s else keySignIn 8 b s
  let t := { (r.2.set DBG_AUTH_CTL_BUSY 0).set DBG_AUTH_CTL_RESULT r.1.code with dbg := { r.2.dbg with auth := none } }
  if r.1 = .done then raise 0x1303 [⟨1, dbgRole t⟩] t else t

/-- DEBUG_AUTH_DONE (R518). -/
def execDebugAuthDone (s : State) : Out :=
  match s.dbg.auth with
  | none => ok s
  | some (op, b) => ok (authEnd op b s)

/-- DEBUG_SESSION_IDLE (R520). -/
def execDebugSessionIdle (s : State) : Out := whenOk (dbgRole s != 0) s (dbgEnd 2 s)

/-! ### Registers of run control (R521 to R528) -/

/-- A write of DBG_CTL: only an installer or maker session (R519, R527). -/
def wrDbgCtl (a : Agent) (v : Nat) (s : State) : Status × State :=
  if !dapIM a s then (.denied, s) else (.done, writeFlds DBG_CTL_fields v s)

/-- A write of DBG_RUN(k): RHALT, and then HALT, RESUME or STEP, the first of them that is written as 1. -/
def wrDbgRun (a : Agent) (k v : Nat) (s : State) : Status × State :=
  if !dapCore a k s then (.denied, s)
  else
    let t := s.set (DBG_RUN_RHALT k) ((DBG_RUN_RHALT k).of v)
    if (DBG_RUN_HALT k).hit v then
      let r := haltCore k t
      if r.1 = .done then r else (r.1, s)
    else if (DBG_RUN_RESUME k).hit v then (.done, resumeCore k t)
    else if (DBG_RUN_STEP k).hit v then (.done, stepCore k t)
    else (.done, t)

/-- DBG_RUN(k) as it stands, with a command bit. -/
def runWith (k b : Nat) (s : State) : Nat := 2 ^ b + 256 * s.get (DBG_RUN_RHALT k)

/-- CORE_HALT (R521). -/
def execCoreHalt (a : Agent) (k : Fin 36) (s : State) : Out := ok (answered (wrDbgRun a k.val (runWith k.val 31 s) s))

/-- CORE_RESUME (R523). -/
def execCoreResume (a : Agent) (k : Fin 36) (s : State) : Out := ok (answered (wrDbgRun a k.val (runWith k.val 30 s) s))

/-- CORE_STEP (R523). -/
def execCoreStep (a : Agent) (k : Fin 36) (s : State) : Out := ok (answered (wrDbgRun a k.val (runWith k.val 29 s) s))

/-- A write of a control core's pc or register, while it is halted (R525). -/
def wrDbgCreg (a : Agent) (c r v : Nat) (s : State) : Status × State :=
  if !dapCore a c s then (.denied, s)
  else if !coreHalted c s then (.range, s)
  else (.done, s.set (DBG_CREG_VALUE c r) v)

/-- A write of DBG_CSR_SEL(c). -/
def wrDbgCsrSel (a : Agent) (c v : Nat) (s : State) : Status × State :=
  if !dapCore a c s then (.denied, s) else if !coreHalted c s then (.range, s) else (.done, s.set (DBG_CSR_SEL_CSR c) v)

/-- The place of the CSR selected. -/
def csrKey (c : Nat) (s : State) : Nat := 2 ^ 32 * c + s.get (DBG_CSR_SEL_CSR c)

/-- The CSR selected, of a halted core: what was written since it halted, else what firmware left. -/
def csrValue (c : Nat) (s : State) : Nat :=
  match spFind (csrKey c s) s.dbg.csr with
  | some v => v - 1
  | none => Config.coreCsr (spGet c s.dbg.runs) c (s.get (DBG_CSR_SEL_CSR c)) % 2 ^ 64

/-- A write of DBG_CSR_DATA(c). -/
def wrDbgCsr (a : Agent) (c v : Nat) (s : State) : Status × State :=
  if !dapCore a c s then (.denied, s)
  else if !coreHalted c s then (.range, s)
  else (.done, { s with dbg := { s.dbg with csr := spSet (csrKey c s) (v % 2 ^ 64 + 1) s.dbg.csr } })

/-- The freeze mask set: pause source 1 of each sequencer, and event 0x1306 when it changes (R528). -/
def setFreeze (init m : Nat) (s : State) : State :=
  if m = s.get DBG_FREEZE_MASK then s
  else raise 0x1306 [⟨2, m⟩, ⟨1, init⟩] (forNat 16 (fun q t => setPauseSrc q 1 (bit m q) t) (s.set DBG_FREEZE_MASK m))

/-- A write of DBG_FREEZE (R528): a debug session, control cores 0 and 1, the field interface for an installer or maker. -/
def wrDbgFreeze (a : Agent) (v : Nat) (s : State) : Status × State :=
  if dapIM a s || a.core01 || a.fieldIM then (.done, setFreeze a.init.val (DBG_FREEZE_MASK.of v) s) else (.denied, s)

/-- FREEZE_TEST (R528). -/
def execFreezeTest (a : Agent) (m : Nat) (s : State) : Out :=
  ok (if 65536 ≤ m ∧ (dapIM a s || a.core01 || a.fieldIM) then answer .range s else answered (wrDbgFreeze a m s))

/-! ### Trace (R529 to R532) -/

/-- A packet as bytes: header, then payload (R530). -/
def packetBytes : TracePacket → List Nat
  | .sync _ => 0x70 :: List.replicate 7 0
  | .tick f => 0x61 :: (toBytes 6 f).map (·.toNat)
  | .event c f => 0x62 :: (toBytes 2 c ++ toBytes 4 f).map (·.toNat)
  | .stim c p w v => (16 * (w / 8 + 1) + 3) :: (32 * c + p) :: (toBytes (w / 8) v).map (·.toNat)
  | .overflow n => 0x44 :: (toBytes 4 (min n (2 ^ 32 - 1))).map (·.toNat)

/-- Room for n bytes in the FIFO of 4,096. -/
def traceRoom (n : Nat) (s : State) : Bool := decide (s.trace.fifo.length + n ≤ 4096)

/-- A packet's bytes go into the FIFO; after 1,024 bytes a SYNC is due next. -/
def tracePush (b : List Nat) (s : State) : State :=
  let n := s.trace.sinceSync + b.length
  let t := { s.trace with fifo := s.trace.fifo ++ b, sizes := s.trace.sizes ++ [b.length] }
  if b.head? = some 0x70 then { s with trace := { t with sinceSync := 0 } }
  else if 1024 ≤ n then { s with trace := { t with sinceSync := 0, due := .sync (frameCount s) :: t.due } }
  else { s with trace := { t with sinceSync := n } }

/-- The OVERFLOW packet that a drop left pending goes first when there is room. -/
def traceOverflow (s : State) : State :=
  if s.trace.lostSince ≠ 0 ∧ traceRoom 5 s then
    tracePush (packetBytes (.overflow s.trace.lostSince)) { s with trace := { s.trace with lostSince := 0 } }
  else s

/-- A packet is lost: LOST counts it, and the frame's event 0x1305 will tell of it. -/
def traceLose (s : State) : State :=
  let s := s.count DBG_TRC_STAT_LOST 1
  { s with trace := { s.trace with lostSince := s.trace.lostSince + 1 }, dbg := { s.dbg with lostFrame := s.dbg.lostFrame + 1 } }

/-- A packet enters whole or is dropped. -/
def traceEnter (p : TracePacket) (s : State) : State :=
  let s := traceOverflow s
  let b := packetBytes p
  if domRuns 95 s && s.trace.lostSince == 0 && traceRoom b.length s then tracePush b s else traceLose s

/-- The oldest packet on its way reaches the FIFO. -/
def traceNext (s : State) : State :=
  match s.trace.due with
  | [] => s
  | p :: l => traceEnter p { s with trace := { s.trace with due := l } }

/-- TRACE_PACKET (R532): while domain 95 is being raised, packets wait for it. -/
def execTracePacket (s : State) : Out := whenOk (domState 95 s != dsRaising) s (traceNext s)

/-- What waits for the drain after EN = 0: an empty FIFO then lowers domain 95 (R529). -/
def traceDrained (s : State) : State :=
  if s.trace.draining && s.trace.fifo.isEmpty && s.trace.due.isEmpty && s.trace.stalled.isEmpty then
    (quietTarget [95] tgtOff 63 { s with trace := { s.trace with draining := false } }).2
  else s

/-- A write of DBG_TRC_CTL (R529). -/
def setTrcCtl (v : Nat) (s : State) : State :=
  let was := s.on DBG_TRC_CTL_EN
  let s := writeFlds DBG_TRC_CTL_fields v s
  if s.on DBG_TRC_CTL_EN && !was then
    let s := { s with trace := { s.trace with draining := false, due := s.trace.due ++ [.sync (frameCount s)] } }
    (quietTarget [95] tgtOn 63 s).2
  else if was && !s.on DBG_TRC_CTL_EN then traceDrained { s with trace := { s.trace with draining := true } }
  else s

/-- A write of DBG_TRC_CTL: control cores 0 and 1, and a debug session of an installer or maker (R519, R533). -/
def wrDbgTrcCtl (a : Agent) (v : Nat) (s : State) : Status × State :=
  if a.core01 || dapIM a s then (.done, setTrcCtl v s) else (.denied, s)

/-- TRACE_ENABLE (R529). -/
def execTraceEnable (a : Agent) (v : Nat) (s : State) : Out := ok (answered (wrDbgTrcCtl a v s))

/-- Packets on their way go before a stimulus packet. -/
def traceFlush (s : State) : State := forNat (2 * s.trace.due.length) (fun _ t => traceNext t) s

/-- A write of a stimulus port (R531, R532); with STALL and no room its answer is still to come. -/
def wrStim (a : Agent) (c p width v : Nat) (s : State) : Option Status × State :=
  if a.init.val ≠ c then (some .denied, s)
  else if ¬(width = 8 ∨ width = 16 ∨ width = 32 ∨ width = 64) then (some .range, s)
  else if !domOn 95 s || !s.on DBG_TRC_CTL_STIM then (some .asleep, s)
  else
    let s := traceOverflow (traceFlush s)
    let b := packetBytes (.stim c p width (v % 2 ^ width))
    if s.on DBG_TRC_CTL_STALL && !(s.trace.stalled.isEmpty && s.trace.lostSince == 0 && traceRoom b.length s) then
      (none, { s with trace := { s.trace with stalled := s.trace.stalled ++ [b] } })
    else (some .done, traceEnter (.stim c p width (v % 2 ^ width)) s)

/-- STIMULUS_WRITE (R531). A halted core's stimulus ports are stopped (R522). -/
def execStimulusWrite (a : Agent) (c : Fin 4) (p : Fin 32) (width v : Nat) (s : State) : Out :=
  if a.init.val < 4 ∧ coreHalted a.init.val s then ok s
  else
    let r := wrStim a c.val p.val width v s
    ok (match r.1 with | some st => answer st r.2 | none => r.2)

/-- Bytes taken from the packets of the FIFO. -/
def sizesDrop : Nat → List Nat → List Nat
  | _, [] => []
  | n, x :: l => if x ≤ n then sizesDrop (n - x) l else (x - n) :: l

/-- Stimulus packets that wait enter while there is room, and their writes are answered. -/
def stalledEnter (s : State) : State :=
  match s.trace.stalled with
  | [] => s
  | b :: l => if s.trace.lostSince = 0 ∧ traceRoom b.length s then answer .done (tracePush b { s with trace := { s.trace with stalled := l } }) else s

/-- TRACE_FIFO_DRAIN (R529, R532). -/
def execTraceFifoDrain (n : Nat) (s : State) : Out :=
  whenOk (domRuns 95 s) s
    (let s := { s with trace := { s.trace with fifo := s.trace.fifo.drop n, sizes := sizesDrop n s.trace.sizes } }
     let s := traceOverflow s
     traceDrained (forNat s.trace.stalled.length (fun _ t => stalledEnter t) s))

/-- Trace at a frame tick: the event of lost packets, and the TICK packet (R530, R532). -/
def traceTick (s : State) : State :=
  let s := if s.dbg.lostFrame = 0 then s
    else raise 0x1305 [⟨4, s.dbg.lostFrame⟩] { s with dbg := { s.dbg with lostFrame := 0 } }
  if s.on DBG_TRC_CTL_EN && s.on DBG_TRC_CTL_TICK then
    { s with trace := { s.trace with due := s.trace.due ++ [.tick (frameCount s)] } }
  else s

/-! ### The TAP (R516, R517) -/

/-- TAP instruction codes. -/
def irIdcode : Nat := 1
def irPreload : Nat := 2
def irExtest : Nat := 0
def irDap : Nat := 0x10
def irBypass : Nat := 0xFF

/-- The instruction that acts: unlisted codes are BYPASS, and EXTEST without a maker session too. -/
def tapActs (s : State) : Nat :=
  let c := s.dbg.ir
  if c = irIdcode ∨ c = irPreload ∨ c = irDap then c
  else if c = irExtest ∧ dbgRole s = 3 then irExtest
  else irBypass

/-- The IDCODE register. -/
def idcode : Nat := Config.dieRev % 16 * 2 ^ 28 + 0xC917 * 2 ^ 12 + 0x0C9 * 2 + 1

/-- What EXTEST drives on boundary cell i: the last four only observe. -/
def boundaryDrives (i : Nat) (s : State) : Option Bool :=
  if tapActs s = irExtest ∧ i < 10 then s.dbg.cells[i]? else none

/-- TRST_N low (R516, R520). -/
def execTapReset (s : State) : Out := ok (dbgEnd 1 { s with dbg := { s.dbg with ir := irIdcode } })

/-- TAP_UPDATE (R516, R517): Update-IR, or Update-DR of the boundary register while an instruction selects it. -/
def execTapUpdate (u : TapUpdate) (s : State) : Out :=
  match u with
  | .ir c => ok { s with dbg := { s.dbg with ir := c % 256 } }
  | .boundary l => whenOk (l.length == 14 && (tapActs s == irPreload || tapActs s == irExtest)) s { s with dbg := { s.dbg with cells := l } }

/-! ### Resets (R534) -/

/-- COLD and WARM resets. -/
def dbgPartReset (cold : Bool) (s : State) : State :=
  let s := dbgEnd 3 s
  let s := forNat 36 haltCleared s
  let keep := (List.range 36).map (fun k => s.get (DBG_RUN_RHALT k))
  let s := s.resetRegs 0x3012000000 0x3013000000
  let s := if cold then s else forNat 36 (fun k t => t.set (DBG_RUN_RHALT k) ((keep[k]?).getD 0)) s
  let s := { s with
    trace := { s.trace with due := [], fifo := [], sizes := [], sinceSync := 0, lostSince := 0, stalled := [], draining := false }
    dbg := { s.dbg with auth := none, csr := [], lostFrame := 0 } }
  if cold then { s with dbg := { s.dbg with ir := irIdcode, cells := [], dapDone := true, dapStatus := 0, dapW64 := false, dapOp := 0, dapData := 0, dapAddr := 0 } } else s

end Sys2Proof.Machine
end

