-- ==== Sys2Proof/Machine/Balls.lean ====
section
/-! DEFINITION. The package's balls: where each lies (R33 to R40) and what it shows in a state of the part (R37, R40, R41, R44, R46, R47,
R83, R404, R516, R517, R529). The board's duties (R32, R42) and the mechanics of the package (R31) are nothing that a state holds. -/
namespace Sys2Proof.Machine

/-! ### The grid (R33 to R40) -/

/-- The named signals of the corners (R40). -/
inductive Signal where
  | ecatTx (port : Nat) (pos : Bool) | ecatRx (port : Nat) (pos : Bool)
  | ecatLink (port : Nat) | ecatRun | ecatErr
  | tck | tms | tdi | tdo | trstN
  | trcClk | trcData (i : Nat)
  | porstN | srstN | refin | refinRet | clkmon | faultN | thermN
  deriving DecidableEq, Repr

/-- What stands at a position of the grid: `dut` by logical channel, `spt` by bank, `lane` by lane, transmit or receive, and polarity. -/
inductive Ball where
  | empty | gnd | vin | reserved
  | dut (n : Nat)
  | spt (bank : Nat)
  | lane (m : Nat) (tx pos : Bool)
  | signal (x : Signal)
  deriving DecidableEq, Repr

/-- The ball of a bank's block at a place along the edge, counted clockwise over the four sides, and a depth from it (R36). -/
def dutFieldBall (side a depth : Nat) : Ball :=
  if depth = 3 ∨ depth = 6 then .gnd
  else .dut (128 * side + 16 * (a / 4) + 4 * (if depth ≤ 2 then depth - 1 else depth - 2) + a % 4)

/-- The position of the DUT ball of a logical channel: row and column (R36). -/
def dutPosition (n : Nat) : Nat × Nat :=
  let bank := n / 16
  let c := n % 16
  let a := 4 * (bank % 8) + c % 4
  let depth := if c / 4 < 2 then c / 4 + 1 else c / 4 + 2
  if bank / 8 = 0 then (1 + depth, 8 + a)
  else if bank / 8 = 1 then (8 + a, 46 - depth)
  else if bank / 8 = 2 then (46 - depth, 39 - a)
  else (39 - a, 1 + depth)

/-- The lane field (R38): quad, block row i and block column j, from 1. -/
def laneFieldBall (q i j : Nat) : Ball :=
  if i % 2 = 1 then .gnd
  else .lane (4 * q + (if i = 4 ∨ i = 8 then 2 else 0) + (j - 1) / 2) (decide (i ≤ 4)) (j % 2 == 1)

/-- The corner signals by position (R40). -/
def cornerBall (row col : Nat) : Ball :=
  match row, col with
  | 3, 3 => .signal (.ecatTx 0 true) | 3, 4 => .signal (.ecatTx 0 false)
  | 5, 3 => .signal (.ecatRx 0 true) | 5, 4 => .signal (.ecatRx 0 false)
  | 3, 6 => .signal (.ecatTx 1 true) | 3, 7 => .signal (.ecatTx 1 false)
  | 5, 6 => .signal (.ecatRx 1 true) | 5, 7 => .signal (.ecatRx 1 false)
  | 7, 3 => .signal (.ecatLink 0) | 7, 4 => .signal (.ecatLink 1)
  | 7, 6 => .signal .ecatRun | 7, 7 => .signal .ecatErr
  | 3, 41 => .signal .tck | 3, 42 => .signal .tms | 3, 43 => .signal .tdi | 3, 44 => .signal .tdo
  | 4, 41 => .signal .trstN | 6, 41 => .signal .trcClk
  | 7, 41 => .signal (.trcData 0) | 7, 42 => .signal (.trcData 1) | 7, 43 => .signal (.trcData 2) | 7, 44 => .signal (.trcData 3)
  | 41, 41 => .signal .porstN | 41, 42 => .signal .srstN
  | 42, 43 => .signal .refin | 42, 44 => .signal .refinRet
  | 44, 43 => .signal .clkmon | 44, 41 => .signal .faultN | 44, 42 => .signal .thermN
  | 2, 2 => .empty | 2, 45 => .empty | 45, 45 => .empty | 45, 2 => .empty
  | _, _ => .reserved

/-- The core (R37, R39). -/
def coreBall (row col : Nat) : Ball :=
  if 20 ≤ row ∧ row ≤ 27 ∧ 20 ≤ col ∧ col ≤ 27 then .vin
  else if (row = 19 ∨ row = 28) ∧ 18 ≤ col ∧ col ≤ 29 then .gnd
  else if row = 17 then .spt (col - 8)
  else if row = 16 ∨ row = 18 ∨ (29 ≤ row ∧ row ≤ 31) then .reserved
  else .empty

/-- The ball at a row and a column of the 46 by 46 grid (R34). -/
def ballAt (row col : Nat) : Ball :=
  let mid (x : Nat) : Bool := decide (8 ≤ x) && decide (x ≤ 39)
  if row ≤ 1 ∨ 46 ≤ row ∨ col ≤ 1 ∨ 46 ≤ col then .empty
  else if mid col && decide (row ≤ 7) then dutFieldBall 0 (col - 8) (row - 1)
  else if mid col && decide (40 ≤ row) then dutFieldBall 2 (39 - col) (46 - row)
  else if mid row && decide (40 ≤ col) then dutFieldBall 1 (row - 8) (46 - col)
  else if mid row && decide (col ≤ 7) then dutFieldBall 3 (39 - row) (col - 1)
  else if !mid row && !mid col then cornerBall row col
  else if row ≤ 15 then laneFieldBall ((col - 8) / 4) (row - 7) ((col - 8) % 4 + 1)
  else if 32 ≤ row then laneFieldBall (8 + (col - 8) / 4) (40 - row) ((col - 8) % 4 + 1)
  else coreBall row col

/-! ### What a ball shows (R44) -/

/-- The state of a ball: without power; high impedance; at a level of its Jet (1 VIH, 2 VIL, 3 VTT, R168); an open drain released, or a
level low or high; a transmitter in electrical idle or sending; a receiver's termination off or on; a port without or with a link. -/
inductive BallState where
  | unpowered | highZ | drives (level : Nat) | released | low | high | idle | sending | termOff | termOn | noLink | link
  deriving DecidableEq, Repr

/-- An indicator's light, by the EtherCAT indicator rules to which R44 refers (PRESUMED, notes/assumptions/27.md). -/
inductive Led where
  | off | on | blinking | singleFlash | flickering
  deriving DecidableEq, Repr

/-- The part has power at its VIN balls. -/
def powered (s : State) : Bool := s.power.vin != .off

/-- The fallback oscillator has started: power is on, PORST_N is high, and boot has reached step 2 (R44, R110). -/
def oscillatorStarted (s : State) : Bool := powered s && !s.pins.porstLow && decide (2 ≤ s.get BOOT_STAT_STAGE)

/-- A Jet's output code as a ball shows it. -/
def jetBall (out : Nat) (s : State) : BallState :=
  if !powered s then .unpowered else if s.pins.porstLow || out == 0 then .highZ else .drives out

/-- A DUT ball. -/
def dutBall (n : Nat) (s : State) : BallState := jetBall (jetOut n s) s

/-- A spare test point, which follows the bank's spare Jet (R37). -/
def sptBall (b : Nat) (s : State) : BallState := jetBall (spareOut b s) s

/-- A lane's transmitter: electrical idle until its link is enabled and out of OFF, and while its direction sleeps (R404, R413). -/
def laneTxBall (m : Nat) (s : State) : BallState :=
  let q := m / 4
  if !powered s then .unpowered
  else if !s.pins.porstLow && domOn (48 + q) s && s.on (LNK_CTL_EN q) && s.get (LNK_STAT_STATE q) != 0 && !s.on (LNK_STAT_TXSLEEP q)
    then .sending else .idle

/-- A lane's receiver: its termination is on once the quad's domain is ON. -/
def laneRxBall (m : Nat) (s : State) : BallState :=
  if !powered s then .unpowered else if !s.pins.porstLow && domOn (48 + m / 4) s then .termOn else .termOff

/-- An EtherCAT port. -/
def ecatBall (port : Nat) (s : State) : BallState :=
  if !powered s then .unpowered
  else if oscillatorStarted s && s.on (if port = 0 then FI_STAT_LINK0 else FI_STAT_LINK1) then .link else .noLink

/-- ECAT_LINK0 and ECAT_LINK1. -/
def ecatLinkLed (port : Nat) (s : State) : Led := if ecatBall port s = .link then .on else .off

/-- ECAT_RUN: off through boot, then by the slave's state. -/
def ecatRunLed (s : State) : Led :=
  let x := s.get FI_STAT_AL_STATE
  if !oscillatorStarted s || !s.on BOOT_STAT_READY then .off
  else if x = 2 then .blinking else if x = 3 then .flickering else if x = 4 then .singleFlash else if x = 8 then .on else .off

/-- ECAT_ERR: an error of the slave's state shows by blinking. -/
def ecatErrLed (s : State) : Led := if oscillatorStarted s && s.on FI_STAT_AL_ERR then .blinking else .off

/-- TDO, which is driven only in the Shift states (R44); between the TAP's commands it is in none. -/
def tdoBall (s : State) : BallState := if powered s then .highZ else .unpowered

/-- The byte that leaves on DBG_TRC_D0 to DBG_TRC_D3: the FIFO's oldest, or the idle byte 0xFF (R529); none while the trace is not
configured, when its balls are low. -/
def traceByte (s : State) : Option Nat :=
  if powered s && !s.pins.porstLow && (s.on DBG_TRC_CTL_EN || s.trace.draining) && domOn 95 s then some (s.trace.fifo.head?.getD 0xFF)
  else none

/-- CLKMON in the c-th cycle of its source (R83). -/
def clkmonBall (c : Nat) (s : State) : BallState :=
  if !powered s then .unpowered else if !s.pins.porstLow && clkmonLevel c s then .high else .low

/-- FAULT_N: low only while a trip is latched (R41, R44). -/
def faultBall (s : State) : BallState := if faultLow s && !s.pins.porstLow then .low else .released

/-- THERM_N: valid from the start of the fallback oscillator. -/
def thermBall (s : State) : BallState := if oscillatorStarted s && s.pins.therm then .low else .released

/-! ### Boundary scan (R517) -/

/-- What a boundary cell observes of its ball, in scan order; none where the ball carries a running clock, data or a blinking light. -/
def boundarySees (i : Nat) (s : State) : Option Bool :=
  let led (x : Led) : Option Bool := if x = .off then some false else if x = .on then some true else none
  match boundaryDrives i s with
  | some b => some b
  | none =>
    if i < 5 then (if (traceByte s).isNone then some false else none)
    else if i = 5 then (if s.on CLKMON_CTL_EN then none else some false)
    else if i = 6 then led (ecatLinkLed 0 s) else if i = 7 then led (ecatLinkLed 1 s)
    else if i = 8 then led (ecatRunLed s) else if i = 9 then led (ecatErrLed s)
    else if i = 10 then some (!s.pins.porstLow) else if i = 11 then some (!s.pins.srstLow)
    else if i = 12 then some (faultBall s != .low) else if i = 13 then some (thermBall s != .low) else none

/-- The DAP data register as a Capture-DR loads it: the result of the last request (R517). -/
def dapRegister (s : State) : Nat :=
  let d := s.dbg
  (if d.dapDone then 2 ^ 119 else 0) + d.dapStatus % 8 * 2 ^ 116 + (if d.dapW64 then 2 ^ 115 else 0) + d.dapOp % 8 * 2 ^ 112 +
    d.dapData % 2 ^ 64 * 2 ^ 48 + d.dapAddr % 2 ^ 48

/-- What a Capture-DR loads into the register that the instruction selects, first bit shifted out first (R516, R517). -/
def tapCapture (s : State) : List (Option Bool) :=
  let bitsOf (n v : Nat) : List (Option Bool) := (List.range n).map (fun i => some (bit v i))
  if tapActs s = irIdcode then bitsOf 32 idcode
  else if tapActs s = irDap then bitsOf 128 (dapRegister s)
  else if tapActs s = irPreload ∨ tapActs s = irExtest then (List.range 14).map (fun i => boundarySees (13 - i) s)
  else [some false]

end Sys2Proof.Machine
end

