-- ==== Sys2Proof/Machine/RegMap.lean ====
section
/-! DEFINITION. The register map: every register's name, place, width and fields with their access codes (R4, R6, R7). -/
namespace Sys2Proof.Machine

/-- The registers of windows 0x01 to 0x13. -/
inductive RegName where
  | SYS_PROFILE
  | PWR_DOM_CTL
  | PWR_DOM_STAT
  | SLU_REQ
  | SLU_MYTICKET
  | SLU_RELEASE
  | SLU_STAT
  | SLU_ENT
  | ELIM_TRIP
  | ELIM_STAT
  | ENL
  | CLK_SEL
  | CLK_SRC_STAT
  | CLK_FAB
  | CLK_GATE
  | CLKMON_CTL
  | FRM_CTL
  | FRM_STAT
  | FRM_COUNT
  | FRM_OVR
  | SLOT_CTL
  | SLOT_SHD
  | SLOT_ACT
  | RST_CTL
  | RST_CAUSE
  | BOOT_STAT
  | FAB_ECC_CTL
  | FAB_ECC_STAT
  | FAB_FLIP_DATA
  | FAB_FLIP_CTL
  | FAB_SPARE
  | FAB_PORT_CTL
  | FAB_PORT_STAT
  | LDR_REQ
  | LDR_STAT
  | LDR_CACHE
  | REG_CTL
  | REG_STAT
  | ISO_HOLD
  | RILL_CTL
  | RILL_STAT
  | RILL_PASS
  | JET_BANK_CTL
  | JET_BANK_STAT
  | JET_CFG
  | JET_LVL_DRV
  | JET_LVL_CMP
  | JET_LOAD
  | JET_PMU_CTL
  | JET_PMU_FORCE
  | JET_PMU_ICLAMP
  | JET_PMU_VCLAMP
  | JET_PMU_RES
  | JET_STAT
  | ET_PER
  | ET_SEQ_STAT
  | ET_BANK_CTL
  | ET_BANK_STAT
  | ET_TS_DRV12
  | ET_TS_DRV34
  | ET_TS_CMP
  | ET_TS_CFG
  | ET_CH_STG_DRV12
  | ET_CH_STG_DRV34
  | ET_CH_STG_CMP
  | ET_CH_COMMIT
  | ET_CH_FIX
  | ET_CH_CAL
  | ET_CH_CORR
  | ET_CH_STAT
  | ET_CH_BADCYC
  | WEIR_CTL
  | WEIR_LIM
  | WEIR_CAL_BANKS
  | WEIR_CAL_CTL
  | WEIR_CAL_STAT
  | WEIR_CAL_INFO
  | WEIR_CAL_ERR
  | WEIR_CH_CTL
  | WEIR_CH_CAL
  | WEIR_CH_CORR
  | WEIR_CH_STAT
  | WEIR_CH_EST
  | SEQ_CTL
  | SEQ_STAT
  | SEQ_START_AT
  | SEQ_PROG
  | SEQ_VEC
  | SEQ_PC
  | SEQ_SITE_MASK
  | SEQ_SITE_OFF
  | SEQ_SITE_FAIL
  | SEQ_SITE_MATCH
  | SEQ_MARK
  | SEQ_SLU
  | SEQ_TICKET
  | GEN
  | GEN_D
  | GEN_TMASK
  | GEN_TINV
  | GEN_DR
  | GEN_SCR
  | SEQ_PIN
  | FC_ECC_CTL
  | FC_ECC_STAT
  | FC_LOST
  | FC_SEQ_CTL
  | FC_LOG_CFG
  | FC_LOG_PTR
  | FC_SEQ_STAT
  | FC_SITE_FAIL
  | FC_SITE_REC
  | FC_CH_CNT
  | FC_MAP_CTL
  | FC_MAP_SEL
  | FC_MAP_XY
  | FC_MAP_SPILL
  | FC_MAP_STAT
  | RA_CTL
  | RA_STAT
  | RA_RING_CFG
  | RA_RING_PTR
  | RA_DESC_SP
  | RA_DESC_GEO
  | RA_DESC_USER
  | RA_DOM
  | SC_MAP
  | SC_DROP
  | SC_RES
  | SC_CTL
  | SC_CFG
  | SC_STAT
  | SC_HOST
  | SC_IRQ
  | SC_ECC_CTL
  | SC_ECC_STAT
  | SC_RING_CFG
  | SC_RING_PTR
  | HBM_CFG
  | HBM_AGE
  | HBM_STAT
  | HBM_ECC_CTL
  | HBM_ECC_STAT
  | HBM_ERRLOG
  | HBM_FLIP_DATA
  | HBM_FLIP_CTL
  | HBM_DIST
  | HBM_SPARE
  | HBM_PASS
  | HBM_PASS_SUM
  | HBM_CLS
  | ENC_KEYID
  | ENC_PASS
  | ENC_PASS_SUM
  | ENC_REG_CTL
  | ENC_REG_RANGE
  | ENC_REG_WM
  | ENC_REG_STAT
  | NOC_CTL
  | NOC_RTR_CTL
  | NOC_RTR_STAT
  | NOC_STAT_A
  | NOC_STAT_B
  | ARB_CTL
  | ARB_STAT
  | ARB_SHD
  | ARB_ACT
  | CAS_CTL
  | CAS_TIME
  | CAS_SEND
  | CAS_STAT
  | CAS_RX_CFG
  | CAS_RX_PTR
  | LNK_CTL
  | LNK_STAT
  | LNK_RANGE
  | LNK_ERR
  | LNK_ASYM
  | LANE_CTL
  | LANE_STAT
  | EPOCH
  | CORE_STAT
  | WD_CTL
  | WD_KICK
  | LOCK_CTL
  | LOCK_STAT
  | MBX_DATA
  | MBX_CTL
  | MBX_STAT
  | DB_PEND
  | DB_MASK
  | TMO_PEND
  | CRC_CFG
  | CRC_SEED
  | CRC_FOLD
  | CRC_DB
  | CRC_DH
  | CRC_DW
  | CRC_RES
  | SP_OWN
  | SP_ECC_CTL
  | SP_ECC_STAT
  | SP_MARCH
  | SP_MARCH_STAT
  | SP_MARCH_RES
  | SP_PASS
  | SP_PASS_SUM
  | PATCH_ADDR
  | PATCH_DATA
  | PATCH_LOCK
  | SEC_STAT
  | SEC_TAMPER
  | ALM_CTL
  | ALM_STAT
  | AUD_SEQ
  | AUD_HEAD
  | AUD_BODY
  | AUD_GO
  | ATT_CTL
  | FI_STAT
  | FI_SDO
  | FI_SESS
  | DBG_AUTH_CTL
  | DBG_AUTH_BUF
  | DBG_CTL
  | DBG_RUN
  | DBG_FREEZE
  | DBG_TRC_CTL
  | DBG_TRC_STAT
  | DBG_CREG
  | DBG_CSR_SEL
  | DBG_CSR_DATA
  | DBG_STIM
  deriving DecidableEq, Repr

/-- One row of the register map. `base` is the byte address at index (0, 0); index i runs below `n1` in steps of `s1`
and index j below `n2` in steps of `s2`. -/
structure RegDesc where
  name : RegName
  base : Nat
  n1 : Nat
  s1 : Nat
  n2 : Nat
  s2 : Nat
  bits : Nat
  flds : Nat → Nat → List (Acc × Fld)

/-- The registers of chapter 01. -/
def regMapArchitecture : List RegDesc := [
  ⟨.SYS_PROFILE, 0x3000000100, 1, 0, 1, 0, 32, fun _ _ => SYS_PROFILE_fields⟩]

/-- The registers of chapter 03. -/
def regMapPower : List RegDesc := [
  ⟨.PWR_DOM_CTL, 0x3001002000, 96, 8, 1, 0, 32, fun i _ => PWR_DOM_CTL_fields i⟩,
  ⟨.PWR_DOM_STAT, 0x3001002004, 96, 8, 1, 0, 32, fun i _ => PWR_DOM_STAT_fields i⟩,
  ⟨.SLU_REQ, 0x3001000200, 1, 0, 1, 0, 64, fun _ _ => SLU_REQ_fields⟩,
  ⟨.SLU_MYTICKET, 0x3001000208, 1, 0, 1, 0, 32, fun _ _ => SLU_MYTICKET_fields⟩,
  ⟨.SLU_RELEASE, 0x3001000210, 1, 0, 1, 0, 32, fun _ _ => SLU_RELEASE_fields⟩,
  ⟨.SLU_STAT, 0x3001000218, 1, 0, 1, 0, 64, fun _ _ => SLU_STAT_fields⟩,
  ⟨.SLU_ENT, 0x3001001000, 128, 8, 1, 0, 64, fun i _ => SLU_ENT_fields i⟩,
  ⟨.ELIM_TRIP, 0x3001000400, 32, 4, 1, 0, 32, fun i _ => ELIM_TRIP_fields i⟩,
  ⟨.ELIM_STAT, 0x3001000300, 1, 0, 1, 0, 32, fun _ _ => ELIM_STAT_fields⟩,
  ⟨.ENL, 0x3001010000, 512, 8, 1, 0, 64, fun i _ => ENL_fields i⟩,
  ⟨.SEQ_SLU, 0x3007100080, 16, 65536, 8, 8, 64, fun i j => SEQ_SLU_fields i j⟩]

/-- The registers of chapter 04. -/
def regMapClocks : List RegDesc := [
  ⟨.CLK_SEL, 0x3002000100, 5, 16, 1, 0, 32, fun i _ => CLK_SEL_fields i⟩,
  ⟨.CLK_SRC_STAT, 0x3002000040, 1, 0, 1, 0, 32, fun _ _ => CLK_SRC_STAT_fields⟩,
  ⟨.CLK_FAB, 0x3002000300, 4, 4, 1, 0, 32, fun i _ => CLK_FAB_fields i⟩,
  ⟨.CLK_GATE, 0x3002001000, 96, 4, 1, 0, 32, fun i _ => CLK_GATE_fields i⟩,
  ⟨.CLKMON_CTL, 0x3002000200, 1, 0, 1, 0, 32, fun _ _ => CLKMON_CTL_fields⟩,
  ⟨.FRM_CTL, 0x3000000200, 1, 0, 1, 0, 32, fun _ _ => FRM_CTL_fields⟩,
  ⟨.FRM_STAT, 0x3000000208, 1, 0, 1, 0, 64, fun _ _ => FRM_STAT_fields⟩,
  ⟨.FRM_COUNT, 0x3000000210, 1, 0, 1, 0, 64, fun _ _ => FRM_COUNT_fields⟩,
  ⟨.FRM_OVR, 0x3000000300, 8, 4, 1, 0, 32, fun i _ => FRM_OVR_fields i⟩,
  ⟨.SLOT_CTL, 0x3000000400, 1, 0, 1, 0, 32, fun _ _ => SLOT_CTL_fields⟩,
  ⟨.SLOT_SHD, 0x3000000500, 16, 4, 1, 0, 32, fun i _ => SLOT_SHD_fields i⟩,
  ⟨.SLOT_ACT, 0x3000000580, 16, 4, 1, 0, 32, fun i _ => SLOT_ACT_fields i⟩]

/-- The registers of chapter 05. -/
def regMapReset : List RegDesc := [
  ⟨.RST_CTL, 0x3000000800, 1, 0, 1, 0, 32, fun _ _ => RST_CTL_fields⟩,
  ⟨.RST_CAUSE, 0x3000000808, 1, 0, 1, 0, 32, fun _ _ => RST_CAUSE_fields⟩,
  ⟨.BOOT_STAT, 0x3000000810, 1, 0, 1, 0, 64, fun _ _ => BOOT_STAT_fields⟩]

/-- The registers of chapter 06. -/
def regMapFabric : List RegDesc := [
  ⟨.FAB_ECC_CTL, 0x3003100000, 17, 64, 1, 0, 32, fun i _ => FAB_ECC_CTL_fields i⟩,
  ⟨.FAB_ECC_STAT, 0x3003100008, 17, 64, 1, 0, 64, fun i _ => FAB_ECC_STAT_fields i⟩,
  ⟨.FAB_FLIP_DATA, 0x3003100010, 17, 64, 1, 0, 64, fun i _ => FAB_FLIP_DATA_fields i⟩,
  ⟨.FAB_FLIP_CTL, 0x3003100018, 17, 64, 1, 0, 32, fun i _ => FAB_FLIP_CTL_fields i⟩,
  ⟨.FAB_SPARE, 0x3003100020, 17, 64, 1, 0, 32, fun i _ => FAB_SPARE_fields i⟩,
  ⟨.FAB_PORT_CTL, 0x3003100880, 16, 4, 1, 0, 32, fun i _ => FAB_PORT_CTL_fields i⟩,
  ⟨.FAB_PORT_STAT, 0x3003100800, 16, 8, 1, 0, 64, fun i _ => FAB_PORT_STAT_fields i⟩,
  ⟨.SP_ECC_CTL, 0x300F00A200, 1, 0, 1, 0, 32, fun _ _ => SP_ECC_CTL_fields⟩,
  ⟨.SP_ECC_STAT, 0x300F00A208, 1, 0, 1, 0, 64, fun _ _ => SP_ECC_STAT_fields⟩]

/-- The registers of chapter 07. -/
def regMapLoader : List RegDesc := [
  ⟨.LDR_REQ, 0x3003000100, 1, 0, 1, 0, 32, fun _ _ => LDR_REQ_fields⟩,
  ⟨.LDR_STAT, 0x3003000108, 1, 0, 1, 0, 32, fun _ _ => LDR_STAT_fields⟩,
  ⟨.LDR_CACHE, 0x3003000110, 1, 0, 1, 0, 32, fun _ _ => LDR_CACHE_fields⟩,
  ⟨.REG_CTL, 0x3003001000, 17, 16, 1, 0, 32, fun i _ => REG_CTL_fields i⟩,
  ⟨.REG_STAT, 0x3003001008, 17, 16, 1, 0, 64, fun i _ => REG_STAT_fields i⟩,
  ⟨.ISO_HOLD, 0x3003002000, 16, 64, 8, 4, 32, fun i j => ISO_HOLD_fields i j⟩,
  ⟨.RILL_CTL, 0x3003000200, 1, 0, 1, 0, 32, fun _ _ => RILL_CTL_fields⟩,
  ⟨.RILL_STAT, 0x3003000208, 1, 0, 1, 0, 64, fun _ _ => RILL_STAT_fields⟩,
  ⟨.RILL_PASS, 0x3003000210, 1, 0, 1, 0, 64, fun _ _ => RILL_PASS_fields⟩]

/-- The registers of chapter 08. -/
def regMapJets : List RegDesc := [
  ⟨.JET_BANK_CTL, 0x3004001000, 32, 16, 1, 0, 32, fun i _ => JET_BANK_CTL_fields i⟩,
  ⟨.JET_BANK_STAT, 0x3004001008, 32, 16, 1, 0, 32, fun i _ => JET_BANK_STAT_fields i⟩,
  ⟨.JET_CFG, 0x3004010000, 512, 256, 1, 0, 32, fun i _ => JET_CFG_fields i⟩,
  ⟨.JET_LVL_DRV, 0x3004010008, 512, 256, 1, 0, 64, fun i _ => JET_LVL_DRV_fields i⟩,
  ⟨.JET_LVL_CMP, 0x3004010010, 512, 256, 1, 0, 64, fun i _ => JET_LVL_CMP_fields i⟩,
  ⟨.JET_LOAD, 0x3004010018, 512, 256, 1, 0, 32, fun i _ => JET_LOAD_fields i⟩,
  ⟨.JET_PMU_CTL, 0x3004010020, 512, 256, 1, 0, 32, fun i _ => JET_PMU_CTL_fields i⟩,
  ⟨.JET_PMU_FORCE, 0x3004010024, 512, 256, 1, 0, 32, fun i _ => JET_PMU_FORCE_fields i⟩,
  ⟨.JET_PMU_ICLAMP, 0x3004010028, 512, 256, 1, 0, 32, fun i _ => JET_PMU_ICLAMP_fields i⟩,
  ⟨.JET_PMU_VCLAMP, 0x300401002C, 512, 256, 1, 0, 32, fun i _ => JET_PMU_VCLAMP_fields i⟩,
  ⟨.JET_PMU_RES, 0x3004010030, 512, 256, 1, 0, 64, fun i _ => JET_PMU_RES_fields i⟩,
  ⟨.JET_STAT, 0x3004010038, 512, 256, 1, 0, 32, fun i _ => JET_STAT_fields i⟩]

/-- The registers of chapter 09. -/
def regMapEdge : List RegDesc := [
  ⟨.ET_PER, 0x3005010000, 16, 256, 64, 4, 32, fun i j => ET_PER_fields i j⟩,
  ⟨.ET_SEQ_STAT, 0x3005001000, 16, 8, 1, 0, 64, fun i _ => ET_SEQ_STAT_fields i⟩,
  ⟨.ET_BANK_CTL, 0x3005002000, 32, 16, 1, 0, 32, fun i _ => ET_BANK_CTL_fields i⟩,
  ⟨.ET_BANK_STAT, 0x3005002008, 32, 16, 1, 0, 32, fun i _ => ET_BANK_STAT_fields i⟩,
  ⟨.ET_TS_DRV12, 0x3005100000, 512, 2048, 64, 32, 64, fun i j => ET_TS_DRV12_fields i j⟩,
  ⟨.ET_TS_DRV34, 0x3005100008, 512, 2048, 64, 32, 64, fun i j => ET_TS_DRV34_fields i j⟩,
  ⟨.ET_TS_CMP, 0x3005100010, 512, 2048, 64, 32, 64, fun i j => ET_TS_CMP_fields i j⟩,
  ⟨.ET_TS_CFG, 0x3005100018, 512, 2048, 64, 32, 32, fun i j => ET_TS_CFG_fields i j⟩,
  ⟨.ET_CH_STG_DRV12, 0x3005200000, 512, 128, 1, 0, 64, fun i _ => ET_CH_STG_DRV12_fields i⟩,
  ⟨.ET_CH_STG_DRV34, 0x3005200008, 512, 128, 1, 0, 64, fun i _ => ET_CH_STG_DRV34_fields i⟩,
  ⟨.ET_CH_STG_CMP, 0x3005200010, 512, 128, 1, 0, 64, fun i _ => ET_CH_STG_CMP_fields i⟩,
  ⟨.ET_CH_COMMIT, 0x3005200018, 512, 128, 1, 0, 32, fun i _ => ET_CH_COMMIT_fields i⟩,
  ⟨.ET_CH_FIX, 0x3005200020, 512, 128, 1, 0, 32, fun i _ => ET_CH_FIX_fields i⟩,
  ⟨.ET_CH_CAL, 0x3005200028, 512, 128, 1, 0, 32, fun i _ => ET_CH_CAL_fields i⟩,
  ⟨.ET_CH_CORR, 0x3005200030, 512, 128, 1, 0, 32, fun i _ => ET_CH_CORR_fields i⟩,
  ⟨.ET_CH_STAT, 0x3005200038, 512, 128, 1, 0, 64, fun i _ => ET_CH_STAT_fields i⟩,
  ⟨.ET_CH_BADCYC, 0x3005200040, 512, 128, 1, 0, 32, fun i _ => ET_CH_BADCYC_fields i⟩]

/-- The registers of chapter 10. -/
def regMapWeir : List RegDesc := [
  ⟨.WEIR_CTL, 0x3006000100, 1, 0, 1, 0, 32, fun _ _ => WEIR_CTL_fields⟩,
  ⟨.WEIR_LIM, 0x3006000108, 1, 0, 1, 0, 32, fun _ _ => WEIR_LIM_fields⟩,
  ⟨.WEIR_CAL_BANKS, 0x3006000200, 1, 0, 1, 0, 32, fun _ _ => WEIR_CAL_BANKS_fields⟩,
  ⟨.WEIR_CAL_CTL, 0x3006000208, 1, 0, 1, 0, 32, fun _ _ => WEIR_CAL_CTL_fields⟩,
  ⟨.WEIR_CAL_STAT, 0x3006000210, 1, 0, 1, 0, 64, fun _ _ => WEIR_CAL_STAT_fields⟩,
  ⟨.WEIR_CAL_INFO, 0x3006000218, 1, 0, 1, 0, 32, fun _ _ => WEIR_CAL_INFO_fields⟩,
  ⟨.WEIR_CAL_ERR, 0x3006000400, 32, 4, 1, 0, 32, fun i _ => WEIR_CAL_ERR_fields i⟩,
  ⟨.WEIR_CH_CTL, 0x3006010000, 512, 32, 1, 0, 32, fun i _ => WEIR_CH_CTL_fields i⟩,
  ⟨.WEIR_CH_CAL, 0x3006010004, 512, 32, 1, 0, 32, fun i _ => WEIR_CH_CAL_fields i⟩,
  ⟨.WEIR_CH_CORR, 0x3006010008, 512, 32, 1, 0, 32, fun i _ => WEIR_CH_CORR_fields i⟩,
  ⟨.WEIR_CH_STAT, 0x300601000C, 512, 32, 1, 0, 32, fun i _ => WEIR_CH_STAT_fields i⟩,
  ⟨.WEIR_CH_EST, 0x3006010010, 512, 32, 1, 0, 64, fun i _ => WEIR_CH_EST_fields i⟩]

/-- The registers of chapter 11. -/
def regMapSeq : List RegDesc := [
  ⟨.SEQ_CTL, 0x3007100000, 16, 65536, 1, 0, 32, fun i _ => SEQ_CTL_fields i⟩,
  ⟨.SEQ_STAT, 0x3007100008, 16, 65536, 1, 0, 64, fun i _ => SEQ_STAT_fields i⟩,
  ⟨.SEQ_START_AT, 0x3007100010, 16, 65536, 1, 0, 64, fun i _ => SEQ_START_AT_fields i⟩,
  ⟨.SEQ_PROG, 0x3007100018, 16, 65536, 1, 0, 64, fun i _ => SEQ_PROG_fields i⟩,
  ⟨.SEQ_VEC, 0x3007100020, 16, 65536, 1, 0, 64, fun i _ => SEQ_VEC_fields i⟩,
  ⟨.SEQ_PC, 0x3007100028, 16, 65536, 1, 0, 64, fun i _ => SEQ_PC_fields i⟩,
  ⟨.SEQ_SITE_MASK, 0x3007100030, 16, 65536, 1, 0, 64, fun i _ => SEQ_SITE_MASK_fields i⟩,
  ⟨.SEQ_SITE_OFF, 0x3007100038, 16, 65536, 1, 0, 64, fun i _ => SEQ_SITE_OFF_fields i⟩,
  ⟨.SEQ_SITE_FAIL, 0x3007100040, 16, 65536, 1, 0, 64, fun i _ => SEQ_SITE_FAIL_fields i⟩,
  ⟨.SEQ_SITE_MATCH, 0x3007100048, 16, 65536, 1, 0, 64, fun i _ => SEQ_SITE_MATCH_fields i⟩,
  ⟨.SEQ_MARK, 0x3007100050, 16, 65536, 1, 0, 64, fun i _ => SEQ_MARK_fields i⟩,
  ⟨.SEQ_TICKET, 0x30071000C0, 16, 65536, 8, 4, 32, fun i j => SEQ_TICKET_fields i j⟩,
  ⟨.GEN, 0x3007100100, 16, 65536, 10, 4, 32, fun i j => GEN_fields i j⟩,
  ⟨.GEN_D, 0x3007100140, 16, 65536, 4, 8, 64, fun i j => GEN_D_fields i j⟩,
  ⟨.GEN_TMASK, 0x3007100160, 16, 65536, 1, 0, 64, fun i _ => GEN_TMASK_fields i⟩,
  ⟨.GEN_TINV, 0x3007100168, 16, 65536, 1, 0, 64, fun i _ => GEN_TINV_fields i⟩,
  ⟨.GEN_DR, 0x3007100180, 16, 65536, 8, 8, 64, fun i j => GEN_DR_fields i j⟩,
  ⟨.GEN_SCR, 0x3007100200, 16, 65536, 24, 4, 32, fun i j => GEN_SCR_fields i j⟩,
  ⟨.SEQ_PIN, 0x3007100400, 16, 65536, 512, 4, 32, fun i j => SEQ_PIN_fields i j⟩]

/-- The registers of chapter 12. -/
def regMapFail : List RegDesc := [
  ⟨.FC_ECC_CTL, 0x3008000100, 1, 0, 1, 0, 32, fun _ _ => FC_ECC_CTL_fields⟩,
  ⟨.FC_ECC_STAT, 0x3008000108, 1, 0, 1, 0, 64, fun _ _ => FC_ECC_STAT_fields⟩,
  ⟨.FC_LOST, 0x3008000200, 16, 8, 1, 0, 32, fun i _ => FC_LOST_fields i⟩,
  ⟨.FC_SEQ_CTL, 0x3008010000, 16, 4096, 1, 0, 32, fun i _ => FC_SEQ_CTL_fields i⟩,
  ⟨.FC_LOG_CFG, 0x3008010008, 16, 4096, 1, 0, 64, fun i _ => FC_LOG_CFG_fields i⟩,
  ⟨.FC_LOG_PTR, 0x3008010010, 16, 4096, 1, 0, 64, fun i _ => FC_LOG_PTR_fields i⟩,
  ⟨.FC_SEQ_STAT, 0x3008010018, 16, 4096, 1, 0, 64, fun i _ => FC_SEQ_STAT_fields i⟩,
  ⟨.FC_SITE_FAIL, 0x3008010100, 16, 4096, 64, 16, 64, fun i j => FC_SITE_FAIL_fields i j⟩,
  ⟨.FC_SITE_REC, 0x3008010108, 16, 4096, 64, 16, 64, fun i j => FC_SITE_REC_fields i j⟩,
  ⟨.FC_CH_CNT, 0x3008020000, 512, 4, 1, 0, 32, fun i _ => FC_CH_CNT_fields i⟩,
  ⟨.FC_MAP_CTL, 0x3008030000, 128, 64, 1, 0, 32, fun i _ => FC_MAP_CTL_fields i⟩,
  ⟨.FC_MAP_SEL, 0x3008030008, 128, 64, 1, 0, 64, fun i _ => FC_MAP_SEL_fields i⟩,
  ⟨.FC_MAP_XY, 0x3008030010, 128, 64, 1, 0, 64, fun i _ => FC_MAP_XY_fields i⟩,
  ⟨.FC_MAP_SPILL, 0x3008030018, 128, 64, 1, 0, 64, fun i _ => FC_MAP_SPILL_fields i⟩,
  ⟨.FC_MAP_STAT, 0x3008030020, 128, 64, 1, 0, 64, fun i _ => FC_MAP_STAT_fields i⟩]

/-- The registers of chapter 13. -/
def regMapRepair : List RegDesc := [
  ⟨.RA_CTL, 0x3009000100, 1, 0, 1, 0, 32, fun _ _ => RA_CTL_fields⟩,
  ⟨.RA_STAT, 0x3009000108, 1, 0, 1, 0, 64, fun _ _ => RA_STAT_fields⟩,
  ⟨.RA_RING_CFG, 0x3009000200, 1, 0, 1, 0, 64, fun _ _ => RA_RING_CFG_fields⟩,
  ⟨.RA_RING_PTR, 0x3009000208, 1, 0, 1, 0, 64, fun _ _ => RA_RING_PTR_fields⟩,
  ⟨.RA_DESC_SP, 0x3009100000, 4096, 32, 1, 0, 64, fun i _ => RA_DESC_SP_fields i⟩,
  ⟨.RA_DESC_GEO, 0x3009100008, 4096, 32, 1, 0, 64, fun i _ => RA_DESC_GEO_fields i⟩,
  ⟨.RA_DESC_USER, 0x3009100010, 4096, 32, 1, 0, 64, fun i _ => RA_DESC_USER_fields i⟩,
  ⟨.RA_DOM, 0x3009200000, 4096, 4, 1, 0, 32, fun i _ => RA_DOM_fields i⟩]

/-- The registers of chapter 14. -/
def regMapSignal : List RegDesc := [
  ⟨.SC_MAP, 0x300A000100, 32, 4, 1, 0, 32, fun i _ => SC_MAP_fields i⟩,
  ⟨.SC_DROP, 0x300A004000, 32, 64, 16, 4, 32, fun i j => SC_DROP_fields i j⟩,
  ⟨.SC_RES, 0x300A006000, 32, 64, 16, 4, 32, fun i j => SC_RES_fields i j⟩,
  ⟨.SC_CTL, 0x300A001000, 32, 64, 1, 0, 32, fun i _ => SC_CTL_fields i⟩,
  ⟨.SC_CFG, 0x300A001004, 32, 64, 1, 0, 32, fun i _ => SC_CFG_fields i⟩,
  ⟨.SC_STAT, 0x300A001008, 32, 64, 1, 0, 32, fun i _ => SC_STAT_fields i⟩,
  ⟨.SC_HOST, 0x300A00100C, 32, 64, 1, 0, 32, fun i _ => SC_HOST_fields i⟩,
  ⟨.SC_IRQ, 0x300A001010, 32, 64, 1, 0, 32, fun i _ => SC_IRQ_fields i⟩,
  ⟨.SC_ECC_CTL, 0x300A001014, 32, 64, 1, 0, 32, fun i _ => SC_ECC_CTL_fields i⟩,
  ⟨.SC_ECC_STAT, 0x300A001018, 32, 64, 1, 0, 64, fun i _ => SC_ECC_STAT_fields i⟩,
  ⟨.SC_RING_CFG, 0x300A001020, 32, 64, 1, 0, 64, fun i _ => SC_RING_CFG_fields i⟩,
  ⟨.SC_RING_PTR, 0x300A001028, 32, 64, 1, 0, 64, fun i _ => SC_RING_PTR_fields i⟩]

/-- The registers of chapter 15. -/
def regMapHbm : List RegDesc := [
  ⟨.HBM_CFG, 0x300B000100, 1, 0, 1, 0, 32, fun _ _ => HBM_CFG_fields⟩,
  ⟨.HBM_AGE, 0x300B000108, 1, 0, 1, 0, 64, fun _ _ => HBM_AGE_fields⟩,
  ⟨.HBM_STAT, 0x300B000110, 1, 0, 1, 0, 32, fun _ _ => HBM_STAT_fields⟩,
  ⟨.HBM_ECC_CTL, 0x300B000200, 1, 0, 1, 0, 32, fun _ _ => HBM_ECC_CTL_fields⟩,
  ⟨.HBM_ECC_STAT, 0x300B000208, 1, 0, 1, 0, 64, fun _ _ => HBM_ECC_STAT_fields⟩,
  ⟨.HBM_ERRLOG, 0x300B000210, 1, 0, 1, 0, 64, fun _ _ => HBM_ERRLOG_fields⟩,
  ⟨.HBM_FLIP_DATA, 0x300B000220, 1, 0, 1, 0, 64, fun _ _ => HBM_FLIP_DATA_fields⟩,
  ⟨.HBM_FLIP_CTL, 0x300B000228, 1, 0, 1, 0, 64, fun _ _ => HBM_FLIP_CTL_fields⟩,
  ⟨.HBM_DIST, 0x300B000300, 1, 0, 1, 0, 32, fun _ _ => HBM_DIST_fields⟩,
  ⟨.HBM_SPARE, 0x300B000308, 1, 0, 1, 0, 32, fun _ _ => HBM_SPARE_fields⟩,
  ⟨.HBM_PASS, 0x300B000400, 1, 0, 1, 0, 64, fun _ _ => HBM_PASS_fields⟩,
  ⟨.HBM_PASS_SUM, 0x300B000408, 1, 0, 1, 0, 64, fun _ _ => HBM_PASS_SUM_fields⟩,
  ⟨.HBM_CLS, 0x300B000500, 4, 8, 1, 0, 64, fun i _ => HBM_CLS_fields i⟩]

/-- The registers of chapter 16. -/
def regMapEnc : List RegDesc := [
  ⟨.ENC_KEYID, 0x300C000100, 1, 0, 1, 0, 32, fun _ _ => ENC_KEYID_fields⟩,
  ⟨.ENC_PASS, 0x300C000200, 1, 0, 1, 0, 32, fun _ _ => ENC_PASS_fields⟩,
  ⟨.ENC_PASS_SUM, 0x300C000208, 1, 0, 1, 0, 64, fun _ _ => ENC_PASS_SUM_fields⟩,
  ⟨.ENC_REG_CTL, 0x300C001000, 8, 32, 1, 0, 32, fun i _ => ENC_REG_CTL_fields i⟩,
  ⟨.ENC_REG_RANGE, 0x300C001008, 8, 32, 1, 0, 64, fun i _ => ENC_REG_RANGE_fields i⟩,
  ⟨.ENC_REG_WM, 0x300C001010, 8, 32, 1, 0, 64, fun i _ => ENC_REG_WM_fields i⟩,
  ⟨.ENC_REG_STAT, 0x300C001018, 8, 32, 1, 0, 32, fun i _ => ENC_REG_STAT_fields i⟩,
  ⟨.SP_PASS_SUM, 0x300F00A508, 1, 0, 1, 0, 64, fun _ _ => SP_PASS_SUM_fields⟩]

/-- The registers of chapter 17. -/
def regMapNoc : List RegDesc := [
  ⟨.NOC_CTL, 0x300D000100, 1, 0, 1, 0, 32, fun _ _ => NOC_CTL_fields⟩,
  ⟨.NOC_RTR_CTL, 0x300D001000, 36, 16, 1, 0, 32, fun i _ => NOC_RTR_CTL_fields i⟩,
  ⟨.NOC_RTR_STAT, 0x300D001008, 36, 16, 1, 0, 32, fun i _ => NOC_RTR_STAT_fields i⟩,
  ⟨.NOC_STAT_A, 0x300D010000, 64, 16, 1, 0, 64, fun i _ => NOC_STAT_A_fields i⟩,
  ⟨.NOC_STAT_B, 0x300D010008, 64, 16, 1, 0, 64, fun i _ => NOC_STAT_B_fields i⟩,
  ⟨.ARB_CTL, 0x300D020000, 18, 1024, 1, 0, 32, fun i _ => ARB_CTL_fields i⟩,
  ⟨.ARB_STAT, 0x300D020008, 18, 1024, 1, 0, 32, fun i _ => ARB_STAT_fields i⟩,
  ⟨.ARB_SHD, 0x300D020100, 18, 1024, 24, 4, 32, fun i j => ARB_SHD_fields i j⟩,
  ⟨.ARB_ACT, 0x300D020200, 18, 1024, 24, 4, 32, fun i j => ARB_ACT_fields i j⟩]

/-- The registers of chapter 18. -/
def regMapLanes : List RegDesc := [
  ⟨.CAS_CTL, 0x300E000100, 1, 0, 1, 0, 32, fun _ _ => CAS_CTL_fields⟩,
  ⟨.CAS_TIME, 0x300E000108, 1, 0, 1, 0, 64, fun _ _ => CAS_TIME_fields⟩,
  ⟨.CAS_SEND, 0x300E000200, 1, 0, 1, 0, 64, fun _ _ => CAS_SEND_fields⟩,
  ⟨.CAS_STAT, 0x300E000208, 1, 0, 1, 0, 64, fun _ _ => CAS_STAT_fields⟩,
  ⟨.CAS_RX_CFG, 0x300E000300, 1, 0, 1, 0, 64, fun _ _ => CAS_RX_CFG_fields⟩,
  ⟨.CAS_RX_PTR, 0x300E000308, 1, 0, 1, 0, 64, fun _ _ => CAS_RX_PTR_fields⟩,
  ⟨.LNK_CTL, 0x300E010000, 16, 256, 1, 0, 32, fun i _ => LNK_CTL_fields i⟩,
  ⟨.LNK_STAT, 0x300E010008, 16, 256, 1, 0, 64, fun i _ => LNK_STAT_fields i⟩,
  ⟨.LNK_RANGE, 0x300E010010, 16, 256, 1, 0, 64, fun i _ => LNK_RANGE_fields i⟩,
  ⟨.LNK_ERR, 0x300E010018, 16, 256, 1, 0, 64, fun i _ => LNK_ERR_fields i⟩,
  ⟨.LNK_ASYM, 0x300E010020, 16, 256, 1, 0, 32, fun i _ => LNK_ASYM_fields i⟩,
  ⟨.LANE_CTL, 0x300E020000, 64, 64, 1, 0, 32, fun i _ => LANE_CTL_fields i⟩,
  ⟨.LANE_STAT, 0x300E020008, 64, 64, 1, 0, 64, fun i _ => LANE_STAT_fields i⟩]

/-- The registers of chapter 19. -/
def regMapCluster : List RegDesc := [
  ⟨.EPOCH, 0x300F000800, 64, 4, 1, 0, 32, fun i _ => EPOCH_fields i⟩,
  ⟨.CORE_STAT, 0x300F001000, 4, 256, 1, 0, 64, fun i _ => CORE_STAT_fields i⟩,
  ⟨.WD_CTL, 0x300F001008, 4, 256, 1, 0, 32, fun i _ => WD_CTL_fields i⟩,
  ⟨.WD_KICK, 0x300F00100C, 4, 256, 1, 0, 32, fun i _ => WD_KICK_fields i⟩,
  ⟨.LOCK_CTL, 0x300F002000, 64, 16, 1, 0, 32, fun i _ => LOCK_CTL_fields i⟩,
  ⟨.LOCK_STAT, 0x300F002008, 64, 16, 1, 0, 32, fun i _ => LOCK_STAT_fields i⟩,
  ⟨.MBX_DATA, 0x300F004000, 16, 256, 16, 4, 32, fun i j => MBX_DATA_fields i j⟩,
  ⟨.MBX_CTL, 0x300F004040, 16, 256, 1, 0, 32, fun i _ => MBX_CTL_fields i⟩,
  ⟨.MBX_STAT, 0x300F004048, 16, 256, 1, 0, 64, fun i _ => MBX_STAT_fields i⟩,
  ⟨.DB_PEND, 0x300F006000, 4, 16, 1, 0, 32, fun i _ => DB_PEND_fields i⟩,
  ⟨.DB_MASK, 0x300F006004, 4, 16, 1, 0, 32, fun i _ => DB_MASK_fields i⟩,
  ⟨.TMO_PEND, 0x300F006008, 4, 16, 1, 0, 32, fun i _ => TMO_PEND_fields i⟩,
  ⟨.CRC_CFG, 0x300F008000, 8, 64, 1, 0, 32, fun i _ => CRC_CFG_fields i⟩,
  ⟨.CRC_SEED, 0x300F008008, 8, 64, 1, 0, 64, fun i _ => CRC_SEED_fields i⟩,
  ⟨.CRC_FOLD, 0x300F008010, 8, 64, 1, 0, 32, fun i _ => CRC_FOLD_fields i⟩,
  ⟨.CRC_DB, 0x300F008018, 8, 64, 1, 0, 32, fun i _ => CRC_DB_fields i⟩,
  ⟨.CRC_DH, 0x300F00801C, 8, 64, 1, 0, 32, fun i _ => CRC_DH_fields i⟩,
  ⟨.CRC_DW, 0x300F008020, 8, 64, 1, 0, 32, fun i _ => CRC_DW_fields i⟩,
  ⟨.CRC_RES, 0x300F008028, 8, 64, 1, 0, 64, fun i _ => CRC_RES_fields i⟩,
  ⟨.SP_OWN, 0x300F00A000, 16, 16, 1, 0, 32, fun i _ => SP_OWN_fields i⟩,
  ⟨.SP_MARCH, 0x300F00A300, 1, 0, 1, 0, 32, fun _ _ => SP_MARCH_fields⟩,
  ⟨.SP_MARCH_STAT, 0x300F00A308, 1, 0, 1, 0, 64, fun _ _ => SP_MARCH_STAT_fields⟩,
  ⟨.SP_MARCH_RES, 0x300F00A400, 16, 4, 1, 0, 32, fun i _ => SP_MARCH_RES_fields i⟩,
  ⟨.SP_PASS, 0x300F00A500, 1, 0, 1, 0, 64, fun _ _ => SP_PASS_fields⟩,
  ⟨.PATCH_ADDR, 0x300F00C000, 16, 16, 1, 0, 32, fun i _ => PATCH_ADDR_fields i⟩,
  ⟨.PATCH_DATA, 0x300F00C008, 16, 16, 1, 0, 32, fun i _ => PATCH_DATA_fields i⟩,
  ⟨.PATCH_LOCK, 0x300F00C100, 1, 0, 1, 0, 32, fun _ _ => PATCH_LOCK_fields⟩]

/-- The registers of chapter 20. -/
def regMapSecurity : List RegDesc := [
  ⟨.SEC_STAT, 0x3010000100, 1, 0, 1, 0, 32, fun _ _ => SEC_STAT_fields⟩,
  ⟨.SEC_TAMPER, 0x3010000108, 1, 0, 1, 0, 32, fun _ _ => SEC_TAMPER_fields⟩,
  ⟨.ALM_CTL, 0x3010000200, 1, 0, 1, 0, 64, fun _ _ => ALM_CTL_fields⟩,
  ⟨.ALM_STAT, 0x3010000208, 1, 0, 1, 0, 32, fun _ _ => ALM_STAT_fields⟩,
  ⟨.AUD_SEQ, 0x3010000300, 1, 0, 1, 0, 64, fun _ _ => AUD_SEQ_fields⟩,
  ⟨.AUD_HEAD, 0x3010000340, 8, 8, 1, 0, 64, fun i _ => AUD_HEAD_fields i⟩,
  ⟨.AUD_BODY, 0x3010000380, 8, 8, 1, 0, 64, fun i _ => AUD_BODY_fields i⟩,
  ⟨.AUD_GO, 0x30100003C0, 1, 0, 1, 0, 32, fun _ _ => AUD_GO_fields⟩,
  ⟨.ATT_CTL, 0x3010000400, 1, 0, 1, 0, 64, fun _ _ => ATT_CTL_fields⟩]

/-- The registers of chapter 21. -/
def regMapField : List RegDesc := [
  ⟨.FI_STAT, 0x3011000100, 1, 0, 1, 0, 32, fun _ _ => FI_STAT_fields⟩,
  ⟨.FI_SDO, 0x3011000108, 1, 0, 1, 0, 32, fun _ _ => FI_SDO_fields⟩,
  ⟨.FI_SESS, 0x3011000200, 8, 8, 1, 0, 32, fun i _ => FI_SESS_fields i⟩]

/-- The registers of chapter 22. -/
def regMapDebug : List RegDesc := [
  ⟨.DBG_AUTH_CTL, 0x3012000100, 1, 0, 1, 0, 32, fun _ _ => DBG_AUTH_CTL_fields⟩,
  ⟨.DBG_AUTH_BUF, 0x3012010000, 1024, 8, 1, 0, 64, fun i _ => DBG_AUTH_BUF_fields i⟩,
  ⟨.DBG_CTL, 0x3012000108, 1, 0, 1, 0, 32, fun _ _ => DBG_CTL_fields⟩,
  ⟨.DBG_RUN, 0x3012000200, 36, 8, 1, 0, 32, fun i _ => DBG_RUN_fields i⟩,
  ⟨.DBG_FREEZE, 0x3012000380, 1, 0, 1, 0, 32, fun _ _ => DBG_FREEZE_fields⟩,
  ⟨.DBG_TRC_CTL, 0x3012000400, 1, 0, 1, 0, 64, fun _ _ => DBG_TRC_CTL_fields⟩,
  ⟨.DBG_TRC_STAT, 0x3012000408, 1, 0, 1, 0, 64, fun _ _ => DBG_TRC_STAT_fields⟩,
  ⟨.DBG_CREG, 0x3012001000, 4, 512, 32, 8, 64, fun i j => DBG_CREG_fields i j⟩,
  ⟨.DBG_CSR_SEL, 0x3012001100, 4, 512, 1, 0, 32, fun i _ => DBG_CSR_SEL_fields i⟩,
  ⟨.DBG_CSR_DATA, 0x3012001108, 4, 512, 1, 0, 64, fun i _ => DBG_CSR_DATA_fields i⟩,
  ⟨.DBG_STIM, 0x3012008000, 4, 256, 32, 8, 64, fun i j => DBG_STIM_fields i j⟩]

/-- The whole register map. -/
def regMap : List RegDesc :=
  regMapArchitecture ++ regMapPower ++ regMapClocks ++ regMapReset ++ regMapFabric ++ regMapLoader ++ regMapJets ++ regMapEdge ++ regMapWeir ++ regMapSeq ++ regMapFail ++ regMapRepair ++ regMapSignal ++ regMapHbm ++ regMapEnc ++ regMapNoc ++ regMapLanes ++ regMapCluster ++ regMapSecurity ++ regMapField ++ regMapDebug

end Sys2Proof.Machine
end

