-- ==== Sys2Proof/Machine/ObjMap.lean ====
section
/-! DEFINITION. The object dictionary: index, sub-index, size, access per role, PDO flag, persistence and what each object names
(R12, R508, R509, R515 and each chapter's own table). -/
namespace Sys2Proof.Machine

/-- How the bytes of an object are read. -/
inductive ObjKind where
  | num | bool | int | real | bytes
  deriving DecidableEq, Repr

/-- The access letters of an object (R12): all read; all read and write; all read, installer and maker write; installer and maker
alone; the same reading only; all read, maker writes; installer alone. -/
inductive ObjAcc where
  | allR | allRW | imW | imOnly | imR | makerW | instOnly
  deriving DecidableEq, Repr

/-- Persistence (R495). -/
inductive ObjSave where
  | volatile | flash | almanac
  deriving DecidableEq, Repr

/-- How the places of an object in its index and sub-index families give its register's indices. -/
inductive ObjIx where
  | one | byIndex | bySub | both | domain | channel
  deriving DecidableEq, Repr

/-- Objects that are not a register or a field of one. -/
inductive ObjSpec where
  | deviceName | hwVersion | fwSvn | restore | dieRevision | serialLow | serial | mapping | assignment | syncMode | cycleTime
  | profileRequest | sluRequest | sluStatus | sluTicket | sluRelease | tickSource | warmRequest | preferred
  | fullDigest | fullSvn | fwDigest | ifwDigest | fabCorr | fabUncorr | tapDrop | rillCorr | rillUncorr
  | level (f : Nat) | load (f : Nat) | forceV | forceI | clampI (high : Bool) | clampV (high : Bool) | sample | mean | clearBlocks
  | record | recordStatus | recordSelect | recordRead | badCycles | stale | settling
  | seqCommand | pinTable | genImage | mapDesc | raDesc | scCommand | scDropped
  | hbmCorr | hbmUncorr | hbmAddress | hbmData | hbmStatus | encPoisoned | spCorr
  | challenge | password | keyResponse | signCause | stage | commit | editionSelect | edition | ledgerAppend | lifecycle | consent
  | nonce | report | publicKey | auditHead | auditSelect | auditEntry | ledgerRecord (base : Nat)
  | role | signOut | lastStatus | idleLimit | newest | oldest | eventSelect | event | overwritten | temperature
  | debugRole | halted | recordsFree | sparesUsed | leapRequest | leapStatus | candidates | candidateSelect | candidate
  | healthWindow | threshold
  deriving DecidableEq, Repr

/-- What an object names: a value that never changes, a register, one field of a register by place and width, or another thing. -/
inductive ObjBind where
  | const (v : Nat)
  | reg (r : RegName) (x : ObjIx)
  | fld (r : RegName) (lo w : Nat) (x : ObjIx)
  | spec (o : ObjSpec)
  deriving DecidableEq, Repr

/-- One row of the dictionary: `nIdx` indices from `idx` on, each with `nSub` sub-indices from `sub` on. -/
structure ObjDesc where
  idx : Nat
  nIdx : Nat
  sub : Nat
  nSub : Nat
  size : Nat
  kind : ObjKind
  acc : ObjAcc
  pdo : Bool
  save : ObjSave
  bind : ObjBind
  deriving DecidableEq, Repr

/-- The communication area (R508). -/
def objComm : List ObjDesc := [
  ⟨0x1000, 1, 0, 1, 4, .num, .allR, false, .volatile, .const 0⟩,
  ⟨0x1008, 1, 0, 1, 16, .bytes, .allR, false, .volatile, .spec .deviceName⟩,
  ⟨0x1009, 1, 0, 1, 16, .bytes, .allR, false, .almanac, .spec .hwVersion⟩,
  ⟨0x100A, 1, 0, 1, 16, .bytes, .allR, false, .volatile, .spec .fwSvn⟩,
  ⟨0x1011, 1, 1, 1, 4, .num, .imOnly, false, .flash, .spec .restore⟩,
  ⟨0x1018, 1, 1, 1, 4, .num, .allR, false, .volatile, .const 0x00000C91⟩,
  ⟨0x1018, 1, 2, 1, 4, .num, .allR, false, .volatile, .const 0x0C091700⟩,
  ⟨0x1018, 1, 3, 1, 4, .num, .allR, false, .almanac, .spec .dieRevision⟩,
  ⟨0x1018, 1, 4, 1, 4, .num, .allR, false, .almanac, .spec .serialLow⟩,
  ⟨0x1600, 16, 1, 32, 4, .num, .allRW, false, .volatile, .spec .mapping⟩,
  ⟨0x1A00, 16, 1, 32, 4, .num, .allRW, false, .volatile, .spec .mapping⟩,
  ⟨0x1C00, 1, 1, 1, 1, .num, .allR, false, .volatile, .const 1⟩,
  ⟨0x1C00, 1, 2, 1, 1, .num, .allR, false, .volatile, .const 2⟩,
  ⟨0x1C00, 1, 3, 1, 1, .num, .allR, false, .volatile, .const 3⟩,
  ⟨0x1C00, 1, 4, 1, 1, .num, .allR, false, .volatile, .const 4⟩,
  ⟨0x1C12, 2, 1, 16, 2, .num, .allRW, false, .volatile, .spec .assignment⟩,
  ⟨0x1C32, 2, 1, 1, 2, .num, .allRW, false, .volatile, .spec .syncMode⟩,
  ⟨0x1C32, 2, 2, 1, 4, .num, .allR, false, .volatile, .spec .cycleTime⟩]

/-- Identity, profile, reset and boot; Sluice, trips and domains; clocks and frame (R27, R74, R99, R116). -/
def objSystem : List ObjDesc := [
  ⟨0x2000, 1, 0x01, 1, 2, .num, .allR, false, .almanac, .const 0x0C09⟩,
  ⟨0x2000, 1, 0x02, 1, 1, .num, .allR, false, .almanac, .spec .dieRevision⟩,
  ⟨0x2000, 1, 0x03, 1, 1, .num, .allR, false, .almanac, .const 1⟩,
  ⟨0x2000, 1, 0x04, 1, 16, .bytes, .allR, false, .almanac, .spec .serial⟩,
  ⟨0x2000, 1, 0x20, 1, 1, .num, .allRW, false, .volatile, .spec .profileRequest⟩,
  ⟨0x2000, 1, 0x21, 1, 1, .num, .allR, true, .volatile, .fld .SYS_PROFILE 4 2 .one⟩,
  ⟨0x2000, 1, 0x22, 1, 1, .num, .allR, true, .volatile, .fld .SYS_PROFILE 9 3 .one⟩,
  ⟨0x2000, 1, 0x30, 1, 4, .num, .allR, false, .volatile, .reg .RST_CAUSE .one⟩,
  ⟨0x2000, 1, 0x31, 1, 1, .num, .imOnly, false, .volatile, .spec .warmRequest⟩,
  ⟨0x2000, 1, 0x32, 1, 8, .num, .allR, false, .volatile, .reg .BOOT_STAT .one⟩,
  ⟨0x2100, 1, 0x01, 1, 2, .num, .allR, true, .volatile, .fld .SLU_STAT 0 16 .one⟩,
  ⟨0x2100, 1, 0x02, 1, 2, .num, .allR, true, .volatile, .fld .SLU_STAT 16 16 .one⟩,
  ⟨0x2100, 1, 0x03, 1, 1, .num, .allR, true, .volatile, .fld .SLU_STAT 32 7 .one⟩,
  ⟨0x2100, 1, 0x04, 1, 2, .num, .allR, false, .volatile, .fld .SLU_STAT 48 16 .one⟩,
  ⟨0x2100, 1, 0x10, 1, 8, .bytes, .imOnly, false, .volatile, .spec .sluRequest⟩,
  ⟨0x2100, 1, 0x11, 1, 1, .num, .imR, false, .volatile, .spec .sluStatus⟩,
  ⟨0x2100, 1, 0x12, 1, 2, .num, .imR, false, .volatile, .spec .sluTicket⟩,
  ⟨0x2100, 1, 0x13, 1, 2, .num, .imOnly, false, .volatile, .spec .sluRelease⟩,
  ⟨0x2100, 1, 0x20, 1, 1, .bool, .imW, true, .volatile, .fld .ELIM_STAT 0 1 .one⟩,
  ⟨0x2100, 1, 0x21, 1, 2, .num, .allR, true, .volatile, .fld .ELIM_STAT 8 16 .one⟩,
  ⟨0x2101, 1, 1, 96, 1, .num, .imW, false, .volatile, .fld .PWR_DOM_CTL 0 2 .bySub⟩,
  ⟨0x2102, 1, 1, 96, 1, .num, .allR, true, .volatile, .fld .PWR_DOM_STAT 0 3 .bySub⟩,
  ⟨0x2103, 1, 1, 32, 4, .num, .imW, true, .volatile, .reg .ELIM_TRIP .bySub⟩,
  ⟨0x3000, 512, 0x30, 1, 4, .num, .allR, true, .volatile, .fld .ENL 0 32 .byIndex⟩,
  ⟨0x3000, 512, 0x31, 1, 4, .num, .allR, true, .volatile, .fld .ENL 32 24 .byIndex⟩,
  ⟨0x2200, 1, 0x01, 1, 4, .num, .imW, false, .flash, .fld .FRM_CTL 0 24 .one⟩,
  ⟨0x2200, 1, 0x02, 1, 1, .num, .imW, false, .flash, .fld .FRM_CTL 24 2 .one⟩,
  ⟨0x2200, 1, 0x03, 1, 8, .num, .allR, true, .volatile, .reg .FRM_COUNT .one⟩,
  ⟨0x2200, 1, 0x04, 1, 1, .num, .allR, true, .volatile, .spec .tickSource⟩,
  ⟨0x2200, 1, 0x10, 1, 1, .num, .imW, false, .flash, .fld .CLK_SEL 0 4 .one⟩,
  ⟨0x2200, 1, 0x11, 1, 2, .num, .allR, true, .volatile, .reg .CLK_SRC_STAT .one⟩,
  ⟨0x2200, 1, 0x20, 1, 4, .num, .imOnly, false, .volatile, .reg .CLKMON_CTL .one⟩,
  ⟨0x2200, 1, 0x21, 8, 4, .num, .allR, false, .volatile, .reg .FRM_OVR .bySub⟩]

/-- Images, loader, Rill, fabric memories and ports, area states (R116, R141, R162). -/
def objFabric : List ObjDesc := [
  ⟨0x2300, 1, 0x01, 1, 1, .num, .makerW, false, .flash, .spec .preferred⟩,
  ⟨0x2300, 1, 0x10, 1, 64, .bytes, .allR, false, .volatile, .spec .fullDigest⟩,
  ⟨0x2300, 1, 0x11, 1, 4, .num, .allR, false, .volatile, .spec .fullSvn⟩,
  ⟨0x2300, 1, 0x12, 1, 64, .bytes, .allR, false, .volatile, .spec .fwDigest⟩,
  ⟨0x2300, 1, 0x13, 1, 64, .bytes, .allR, false, .volatile, .spec .ifwDigest⟩,
  ⟨0x2300, 1, 0x20, 1, 4, .num, .imOnly, false, .volatile, .reg .LDR_REQ .one⟩,
  ⟨0x2300, 1, 0x21, 1, 4, .num, .allR, true, .volatile, .reg .LDR_STAT .one⟩,
  ⟨0x2300, 1, 0x22, 1, 4, .num, .allR, false, .volatile, .reg .LDR_CACHE .one⟩,
  ⟨0x2300, 1, 0x30, 1, 1, .num, .imW, false, .flash, .fld .RILL_CTL 16 8 .one⟩,
  ⟨0x2300, 1, 0x31, 1, 1, .num, .imW, false, .flash, .fld .RILL_CTL 0 8 .one⟩,
  ⟨0x2300, 1, 0x32, 1, 1, .num, .imW, false, .flash, .fld .RILL_CTL 8 8 .one⟩,
  ⟨0x2300, 1, 0x33, 1, 2, .num, .allR, true, .volatile, .spec .rillCorr⟩,
  ⟨0x2300, 1, 0x34, 1, 4, .num, .allR, true, .volatile, .spec .rillUncorr⟩,
  ⟨0x2300, 1, 0x35, 1, 1, .bool, .imOnly, false, .volatile, .fld .RILL_CTL 31 1 .one⟩,
  ⟨0x2300, 1, 0x36, 1, 8, .bytes, .allR, false, .volatile, .reg .RILL_PASS .one⟩,
  ⟨0x2310, 1, 1, 17, 1, .num, .imW, false, .flash, .fld .FAB_ECC_CTL 16 8 .bySub⟩,
  ⟨0x2311, 1, 1, 17, 1, .num, .imW, false, .flash, .fld .FAB_ECC_CTL 0 8 .bySub⟩,
  ⟨0x2312, 1, 1, 17, 1, .num, .imW, false, .flash, .fld .FAB_ECC_CTL 8 8 .bySub⟩,
  ⟨0x2313, 1, 1, 17, 2, .num, .allR, true, .volatile, .spec .fabCorr⟩,
  ⟨0x2314, 1, 1, 17, 4, .num, .allR, true, .volatile, .spec .fabUncorr⟩,
  ⟨0x2315, 1, 1, 17, 4, .num, .allR, false, .volatile, .reg .FAB_SPARE .bySub⟩,
  ⟨0x2316, 1, 1, 16, 4, .num, .allR, true, .volatile, .spec .tapDrop⟩,
  ⟨0x2320, 1, 1, 17, 8, .num, .allR, true, .volatile, .reg .REG_STAT .bySub⟩,
  ⟨0x2321, 1, 1, 17, 1, .num, .imW, false, .flash, .fld .REG_CTL 0 2 .bySub⟩]

/-- Jets, edge timing, Weir (R190, R191, R209, R235). -/
def objJets : List ObjDesc := [
  ⟨0x3000, 512, 0x01, 1, 1, .bool, .imW, false, .volatile, .fld .JET_CFG 0 1 .byIndex⟩,
  ⟨0x3000, 512, 0x02, 1, 1, .num, .imW, false, .volatile, .fld .JET_CFG 1 1 .byIndex⟩,
  ⟨0x3000, 512, 0x03, 1, 1, .num, .imW, false, .volatile, .fld .JET_CFG 8 4 .byIndex⟩,
  ⟨0x3000, 512, 0x04, 1, 1, .num, .imW, false, .volatile, .fld .JET_CFG 4 1 .byIndex⟩,
  ⟨0x3000, 512, 0x05, 1, 1, .num, .imW, false, .volatile, .fld .JET_CFG 5 1 .byIndex⟩,
  ⟨0x3000, 512, 0x06, 1, 1, .num, .imW, false, .volatile, .fld .JET_CFG 12 2 .byIndex⟩,
  ⟨0x3000, 512, 0x10, 1, 4, .real, .imW, false, .volatile, .spec (.level 0)⟩,
  ⟨0x3000, 512, 0x11, 1, 4, .real, .imW, false, .volatile, .spec (.level 1)⟩,
  ⟨0x3000, 512, 0x12, 1, 4, .real, .imW, false, .volatile, .spec (.level 2)⟩,
  ⟨0x3000, 512, 0x13, 1, 4, .real, .imW, false, .volatile, .spec (.level 3)⟩,
  ⟨0x3000, 512, 0x14, 1, 4, .real, .imW, false, .volatile, .spec (.level 4)⟩,
  ⟨0x3000, 512, 0x15, 1, 4, .real, .imW, false, .volatile, .spec (.level 5)⟩,
  ⟨0x3000, 512, 0x16, 1, 4, .real, .imW, false, .volatile, .spec (.load 0)⟩,
  ⟨0x3000, 512, 0x17, 1, 4, .real, .imW, false, .volatile, .spec (.load 1)⟩,
  ⟨0x3000, 512, 0x20, 1, 1, .num, .imW, false, .volatile, .fld .JET_PMU_CTL 0 2 .byIndex⟩,
  ⟨0x3000, 512, 0x21, 1, 1, .num, .imW, false, .volatile, .fld .JET_PMU_CTL 4 3 .byIndex⟩,
  ⟨0x3000, 512, 0x22, 1, 4, .real, .imW, false, .volatile, .spec .forceV⟩,
  ⟨0x3000, 512, 0x23, 1, 4, .real, .imW, false, .volatile, .spec .forceI⟩,
  ⟨0x3000, 512, 0x24, 1, 4, .real, .imW, false, .volatile, .spec (.clampI true)⟩,
  ⟨0x3000, 512, 0x25, 1, 4, .real, .imW, false, .volatile, .spec (.clampI false)⟩,
  ⟨0x3000, 512, 0x26, 1, 4, .real, .imW, false, .volatile, .spec (.clampV true)⟩,
  ⟨0x3000, 512, 0x27, 1, 4, .real, .imW, false, .volatile, .spec (.clampV false)⟩,
  ⟨0x3000, 512, 0x28, 1, 1, .num, .imW, false, .volatile, .fld .JET_PMU_CTL 8 8 .byIndex⟩,
  ⟨0x3000, 512, 0x29, 1, 4, .real, .allR, true, .volatile, .spec .sample⟩,
  ⟨0x3000, 512, 0x2A, 1, 4, .real, .allR, true, .volatile, .spec .mean⟩,
  ⟨0x3000, 512, 0x40, 1, 4, .num, .allR, true, .volatile, .reg .JET_STAT .byIndex⟩,
  ⟨0x3000, 512, 0x41, 1, 1, .num, .imOnly, false, .volatile, .spec .clearBlocks⟩,
  ⟨0x3200, 32, 0x01, 1, 1, .num, .imW, false, .volatile, .fld .JET_BANK_CTL 0 2 .byIndex⟩,
  ⟨0x3200, 32, 0x02, 1, 4, .num, .allR, true, .volatile, .reg .JET_BANK_STAT .byIndex⟩,
  ⟨0x3200, 32, 0x03, 1, 1, .num, .allR, false, .almanac, .fld .JET_BANK_STAT 18 5 .byIndex⟩,
  ⟨0x3400, 1, 0x10, 1, 32, .bytes, .imOnly, false, .volatile, .spec .record⟩,
  ⟨0x3400, 1, 0x11, 1, 1, .num, .imR, false, .volatile, .spec .recordStatus⟩,
  ⟨0x3400, 1, 0x12, 1, 4, .num, .allRW, false, .volatile, .spec .recordSelect⟩,
  ⟨0x3400, 1, 0x13, 1, 32, .bytes, .allR, false, .volatile, .spec .recordRead⟩,
  ⟨0x3410, 16, 1, 64, 4, .num, .imW, false, .volatile, .reg .ET_PER .both⟩,
  ⟨0x3000, 512, 0x50, 1, 4, .int, .imW, false, .volatile, .fld .ET_CH_FIX 0 16 .byIndex⟩,
  ⟨0x3000, 512, 0x51, 1, 8, .num, .allR, false, .volatile, .reg .ET_CH_STAT .byIndex⟩,
  ⟨0x3000, 512, 0x52, 1, 4, .num, .allR, true, .volatile, .spec .badCycles⟩,
  ⟨0x3220, 32, 0x01, 1, 4, .num, .allR, true, .volatile, .reg .ET_BANK_STAT .byIndex⟩,
  ⟨0x3220, 32, 0x02, 1, 1, .bool, .imOnly, false, .volatile, .fld .ET_BANK_CTL 0 1 .byIndex⟩,
  ⟨0x3500, 1, 0x01, 1, 1, .bool, .imW, false, .flash, .fld .WEIR_CTL 0 1 .one⟩,
  ⟨0x3500, 1, 0x02, 1, 1, .num, .imW, false, .flash, .fld .WEIR_CTL 8 8 .one⟩,
  ⟨0x3500, 1, 0x03, 1, 2, .num, .imW, false, .flash, .fld .WEIR_CTL 16 16 .one⟩,
  ⟨0x3500, 1, 0x04, 1, 2, .num, .imW, false, .flash, .fld .WEIR_LIM 0 16 .one⟩,
  ⟨0x3500, 1, 0x10, 1, 4, .num, .imOnly, false, .volatile, .reg .WEIR_CAL_BANKS .one⟩,
  ⟨0x3500, 1, 0x11, 1, 1, .bool, .imOnly, false, .volatile, .fld .WEIR_CAL_CTL 0 1 .one⟩,
  ⟨0x3500, 1, 0x12, 1, 8, .num, .allR, false, .volatile, .reg .WEIR_CAL_STAT .one⟩,
  ⟨0x3500, 1, 0x13, 1, 1, .bool, .imOnly, false, .volatile, .fld .WEIR_CAL_CTL 1 1 .one⟩,
  ⟨0x3500, 1, 0x14, 1, 4, .num, .allR, false, .volatile, .reg .WEIR_CAL_INFO .one⟩,
  ⟨0x3500, 1, 0x20, 1, 2, .num, .allR, true, .volatile, .spec .stale⟩,
  ⟨0x3500, 1, 0x21, 1, 2, .num, .allR, true, .volatile, .spec .settling⟩,
  ⟨0x3000, 512, 0x60, 1, 1, .num, .imW, false, .flash, .fld .WEIR_CH_CTL 0 2 .byIndex⟩,
  ⟨0x3000, 512, 0x61, 1, 1, .bool, .imW, false, .flash, .fld .WEIR_CH_CTL 2 1 .byIndex⟩,
  ⟨0x3000, 512, 0x62, 1, 4, .num, .allR, false, .volatile, .reg .WEIR_CH_CAL .byIndex⟩,
  ⟨0x3000, 512, 0x63, 1, 4, .num, .allR, true, .volatile, .reg .WEIR_CH_CORR .byIndex⟩,
  ⟨0x3000, 512, 0x64, 1, 4, .num, .allR, true, .volatile, .reg .WEIR_CH_STAT .byIndex⟩]

/-- Sequencers, fail capture, redundancy analysis, signal cores (R270, R296, R319, R343). -/
def objTest : List ObjDesc := [
  ⟨0x3600, 16, 0x01, 1, 1, .num, .allRW, false, .volatile, .spec .seqCommand⟩,
  ⟨0x3600, 16, 0x02, 1, 8, .num, .allRW, false, .volatile, .reg .SEQ_START_AT .byIndex⟩,
  ⟨0x3600, 16, 0x03, 1, 8, .num, .allR, true, .volatile, .reg .SEQ_STAT .byIndex⟩,
  ⟨0x3600, 16, 0x04, 1, 8, .num, .imW, false, .volatile, .reg .SEQ_PROG .byIndex⟩,
  ⟨0x3600, 16, 0x05, 1, 8, .num, .imW, false, .volatile, .reg .SEQ_VEC .byIndex⟩,
  ⟨0x3600, 16, 0x06, 1, 1, .num, .imW, false, .volatile, .fld .SEQ_CTL 18 6 .byIndex⟩,
  ⟨0x3600, 16, 0x07, 1, 8, .num, .allRW, false, .volatile, .reg .SEQ_SITE_MASK .byIndex⟩,
  ⟨0x3600, 16, 0x08, 1, 8, .num, .allRW, false, .volatile, .reg .SEQ_SITE_OFF .byIndex⟩,
  ⟨0x3600, 16, 0x09, 1, 8, .num, .allR, true, .volatile, .reg .SEQ_SITE_FAIL .byIndex⟩,
  ⟨0x3600, 16, 0x0A, 1, 8, .num, .allR, false, .volatile, .reg .SEQ_SITE_MATCH .byIndex⟩,
  ⟨0x3600, 16, 0x0B, 1, 8, .num, .allR, true, .volatile, .reg .SEQ_MARK .byIndex⟩,
  ⟨0x3600, 16, 0x0C, 1, 8, .num, .allR, true, .volatile, .reg .SEQ_PC .byIndex⟩,
  ⟨0x3600, 16, 0x10, 1, 2048, .bytes, .imW, false, .volatile, .spec .pinTable⟩,
  ⟨0x3600, 16, 0x11, 1, 352, .bytes, .imW, false, .volatile, .spec .genImage⟩,
  ⟨0x3600, 16, 0x20, 8, 8, .bytes, .imOnly, false, .volatile, .reg .SEQ_SLU .both⟩,
  ⟨0x3700, 1, 0x01, 1, 1, .num, .imW, false, .flash, .fld .FC_ECC_CTL 16 8 .one⟩,
  ⟨0x3700, 1, 0x02, 1, 2, .num, .imW, false, .flash, .fld .FC_ECC_CTL 0 16 .one⟩,
  ⟨0x3710, 16, 0x01, 1, 4, .num, .imW, false, .volatile, .reg .FC_SEQ_CTL .byIndex⟩,
  ⟨0x3710, 16, 0x02, 1, 8, .num, .imW, false, .volatile, .reg .FC_LOG_CFG .byIndex⟩,
  ⟨0x3710, 16, 0x03, 1, 8, .num, .allRW, true, .volatile, .reg .FC_LOG_PTR .byIndex⟩,
  ⟨0x3710, 16, 0x04, 1, 8, .num, .allR, true, .volatile, .reg .FC_SEQ_STAT .byIndex⟩,
  ⟨0x3710, 16, 0x05, 1, 4, .num, .allR, false, .volatile, .reg .FC_LOST .byIndex⟩,
  ⟨0x3720, 16, 1, 64, 8, .num, .allR, true, .volatile, .reg .FC_SITE_FAIL .both⟩,
  ⟨0x3740, 16, 1, 64, 8, .num, .allR, true, .volatile, .reg .FC_SITE_REC .both⟩,
  ⟨0x3760, 1, 1, 128, 24, .bytes, .imW, false, .volatile, .spec .mapDesc⟩,
  ⟨0x3761, 1, 1, 128, 4, .num, .imW, true, .volatile, .reg .FC_MAP_CTL .bySub⟩,
  ⟨0x3762, 1, 1, 128, 8, .num, .allR, false, .volatile, .reg .FC_MAP_STAT .bySub⟩,
  ⟨0x3000, 512, 0x70, 1, 4, .num, .allR, true, .volatile, .reg .FC_CH_CNT .byIndex⟩,
  ⟨0x3800, 1, 0x01, 1, 1, .bool, .imW, false, .volatile, .fld .RA_CTL 0 1 .one⟩,
  ⟨0x3800, 1, 0x02, 1, 8, .num, .imW, false, .volatile, .reg .RA_RING_CFG .one⟩,
  ⟨0x3800, 1, 0x03, 1, 8, .num, .allRW, true, .volatile, .reg .RA_RING_PTR .one⟩,
  ⟨0x3800, 1, 0x04, 1, 8, .num, .allR, true, .volatile, .reg .RA_STAT .one⟩,
  ⟨0x3810, 32, 1, 128, 24, .bytes, .imW, false, .volatile, .spec .raDesc⟩,
  ⟨0x3830, 32, 1, 128, 4, .num, .imW, false, .volatile, .reg .RA_DOM .domain⟩,
  ⟨0x3910, 32, 0x01, 1, 1, .num, .allRW, false, .volatile, .spec .scCommand⟩,
  ⟨0x3910, 32, 0x02, 1, 2, .num, .imW, false, .volatile, .fld .SC_CTL 0 14 .byIndex⟩,
  ⟨0x3910, 32, 0x03, 1, 4, .num, .imW, false, .volatile, .reg .SC_CFG .byIndex⟩,
  ⟨0x3910, 32, 0x04, 1, 4, .num, .allR, true, .volatile, .reg .SC_STAT .byIndex⟩,
  ⟨0x3910, 32, 0x05, 1, 4, .num, .allRW, true, .volatile, .reg .SC_HOST .byIndex⟩,
  ⟨0x3910, 32, 0x06, 1, 8, .num, .imW, false, .volatile, .reg .SC_RING_CFG .byIndex⟩,
  ⟨0x3910, 32, 0x07, 1, 8, .num, .allRW, true, .volatile, .reg .SC_RING_PTR .byIndex⟩,
  ⟨0x3910, 32, 0x08, 1, 1, .num, .allR, false, .almanac, .fld .SC_MAP 0 6 .byIndex⟩,
  ⟨0x3910, 32, 0x09, 1, 4, .num, .imW, false, .flash, .reg .SC_ECC_CTL .byIndex⟩,
  ⟨0x3000, 512, 0x80, 1, 4, .int, .allR, true, .volatile, .fld .SC_RES 0 24 .channel⟩,
  ⟨0x3000, 512, 0x81, 1, 1, .bool, .allR, true, .volatile, .fld .SC_RES 24 1 .channel⟩,
  ⟨0x3000, 512, 0x82, 1, 4, .num, .allR, true, .volatile, .spec .scDropped⟩]

/-- HBM, encryption, NoC and arbiters, lanes and Cascade (R362, R380, R401, R430). -/
def objMemory : List ObjDesc := [
  ⟨0x4000, 1, 0x01, 1, 1, .num, .imW, false, .flash, .fld .HBM_ECC_CTL 16 8 .one⟩,
  ⟨0x4000, 1, 0x02, 1, 2, .num, .imW, false, .flash, .fld .HBM_ECC_CTL 0 16 .one⟩,
  ⟨0x4000, 1, 0x03, 1, 4, .num, .imW, false, .flash, .reg .HBM_CFG .one⟩,
  ⟨0x4000, 1, 0x04, 1, 8, .num, .imW, false, .flash, .reg .HBM_AGE .one⟩,
  ⟨0x4000, 1, 0x05, 1, 4, .num, .allR, true, .volatile, .reg .HBM_STAT .one⟩,
  ⟨0x4000, 1, 0x06, 1, 2, .num, .allR, true, .volatile, .spec .hbmCorr⟩,
  ⟨0x4000, 1, 0x07, 1, 4, .num, .allR, true, .volatile, .spec .hbmUncorr⟩,
  ⟨0x4000, 1, 0x08, 1, 8, .num, .imR, false, .volatile, .reg .HBM_ERRLOG .one⟩,
  ⟨0x4000, 1, 0x09, 1, 2, .num, .allR, false, .volatile, .reg .HBM_SPARE .one⟩,
  ⟨0x4000, 1, 0x10, 1, 8, .num, .allRW, false, .volatile, .spec .hbmAddress⟩,
  ⟨0x4000, 1, 0x11, 1, 256, .bytes, .imW, false, .volatile, .spec .hbmData⟩,
  ⟨0x4000, 1, 0x12, 1, 1, .num, .allR, false, .volatile, .spec .hbmStatus⟩,
  ⟨0x4000, 1, 0x20, 1, 8, .num, .imOnly, false, .volatile, .reg .HBM_PASS .one⟩,
  ⟨0x4000, 1, 0x21, 1, 8, .num, .allR, false, .volatile, .reg .HBM_PASS_SUM .one⟩,
  ⟨0x4000, 1, 0x30, 4, 8, .num, .allR, true, .volatile, .reg .HBM_CLS .bySub⟩,
  ⟨0x4100, 1, 0x01, 1, 4, .num, .allR, false, .volatile, .reg .ENC_KEYID .one⟩,
  ⟨0x4100, 1, 0x10, 1, 4, .num, .imOnly, false, .volatile, .reg .ENC_PASS .one⟩,
  ⟨0x4100, 1, 0x11, 1, 8, .num, .allR, false, .volatile, .reg .ENC_PASS_SUM .one⟩,
  ⟨0x4110, 1, 1, 8, 4, .num, .imW, true, .volatile, .reg .ENC_REG_CTL .bySub⟩,
  ⟨0x4111, 1, 1, 8, 8, .num, .imW, false, .volatile, .reg .ENC_REG_RANGE .bySub⟩,
  ⟨0x4112, 1, 1, 8, 8, .num, .allR, true, .volatile, .reg .ENC_REG_WM .bySub⟩,
  ⟨0x4113, 1, 1, 8, 4, .num, .allR, true, .volatile, .spec .encPoisoned⟩,
  ⟨0x4200, 1, 0x01, 1, 2, .num, .imW, false, .flash, .fld .NOC_CTL 0 16 .one⟩,
  ⟨0x4201, 1, 1, 36, 4, .num, .imW, false, .volatile, .reg .NOC_RTR_CTL .bySub⟩,
  ⟨0x4202, 1, 1, 36, 4, .num, .allR, true, .volatile, .reg .NOC_RTR_STAT .bySub⟩,
  ⟨0x4210, 1, 1, 64, 8, .num, .allR, true, .volatile, .reg .NOC_STAT_A .bySub⟩,
  ⟨0x4211, 1, 1, 64, 8, .num, .allR, true, .volatile, .reg .NOC_STAT_B .bySub⟩,
  ⟨0x4220, 18, 0x01, 1, 4, .num, .imW, false, .flash, .reg .ARB_CTL .byIndex⟩,
  ⟨0x4220, 18, 2, 24, 4, .num, .imW, false, .flash, .reg .ARB_SHD .both⟩,
  ⟨0x4300, 1, 0x01, 1, 4, .num, .imW, false, .flash, .reg .CAS_CTL .one⟩,
  ⟨0x4300, 1, 0x02, 1, 8, .num, .allR, true, .volatile, .reg .CAS_TIME .one⟩,
  ⟨0x4300, 1, 0x03, 1, 8, .num, .allRW, false, .volatile, .reg .CAS_SEND .one⟩,
  ⟨0x4300, 1, 0x04, 1, 8, .num, .allR, true, .volatile, .reg .CAS_STAT .one⟩,
  ⟨0x4300, 1, 0x05, 1, 8, .num, .imW, false, .volatile, .reg .CAS_RX_CFG .one⟩,
  ⟨0x4300, 1, 0x06, 1, 8, .num, .allRW, true, .volatile, .reg .CAS_RX_PTR .one⟩,
  ⟨0x4310, 1, 1, 16, 4, .num, .imW, false, .flash, .reg .LNK_CTL .bySub⟩,
  ⟨0x4311, 1, 1, 16, 8, .num, .allR, true, .volatile, .reg .LNK_STAT .bySub⟩,
  ⟨0x4312, 1, 1, 16, 8, .num, .imW, false, .flash, .reg .LNK_RANGE .bySub⟩,
  ⟨0x4313, 1, 1, 16, 8, .num, .allR, true, .volatile, .reg .LNK_ERR .bySub⟩,
  ⟨0x4314, 1, 1, 16, 4, .int, .imW, false, .flash, .fld .LNK_ASYM 0 16 .bySub⟩,
  ⟨0x4320, 1, 1, 64, 4, .num, .imW, false, .flash, .reg .LANE_CTL .bySub⟩,
  ⟨0x4321, 1, 1, 64, 8, .num, .allR, true, .volatile, .reg .LANE_STAT .bySub⟩]

/-- Control cluster, security and lifecycle, sessions, debug, Leap, events and telemetry (R459, R485, R515, R537, R548). -/
def objControl : List ObjDesc := [
  ⟨0x4400, 1, 0x01, 1, 1, .num, .imW, false, .flash, .fld .SP_ECC_CTL 16 8 .one⟩,
  ⟨0x4400, 1, 0x02, 1, 2, .num, .imW, false, .flash, .fld .SP_ECC_CTL 0 16 .one⟩,
  ⟨0x4400, 1, 0x03, 1, 2, .num, .allR, true, .volatile, .spec .spCorr⟩,
  ⟨0x4400, 1, 0x10, 1, 4, .num, .imOnly, false, .volatile, .reg .SP_MARCH .one⟩,
  ⟨0x4400, 1, 0x11, 1, 8, .num, .allR, false, .volatile, .reg .SP_MARCH_STAT .one⟩,
  ⟨0x4400, 1, 0x12, 1, 8, .num, .imOnly, false, .volatile, .reg .SP_PASS .one⟩,
  ⟨0x4400, 1, 0x13, 1, 8, .num, .allR, false, .volatile, .reg .SP_PASS_SUM .one⟩,
  ⟨0x4401, 1, 1, 16, 1, .num, .allR, false, .volatile, .fld .SP_OWN 0 6 .bySub⟩,
  ⟨0x4402, 1, 1, 64, 4, .num, .allR, true, .volatile, .reg .LOCK_STAT .bySub⟩,
  ⟨0x4403, 1, 1, 16, 8, .num, .allR, false, .volatile, .reg .MBX_STAT .bySub⟩,
  ⟨0x4404, 1, 1, 4, 8, .num, .allR, true, .volatile, .reg .CORE_STAT .bySub⟩,
  ⟨0x4500, 1, 0x01, 1, 4, .num, .allR, true, .almanac, .reg .SEC_STAT .one⟩,
  ⟨0x4500, 1, 0x02, 1, 1, .num, .allR, false, .volatile, .spec .role⟩,
  ⟨0x4500, 1, 0x03, 1, 1, .bool, .allRW, false, .volatile, .spec .signOut⟩,
  ⟨0x4500, 1, 0x04, 1, 1, .num, .allR, false, .volatile, .spec .lastStatus⟩,
  ⟨0x4500, 1, 0x05, 1, 4, .num, .imW, false, .flash, .spec .idleLimit⟩,
  ⟨0x4500, 1, 0x10, 1, 64, .bytes, .allR, false, .volatile, .spec .challenge⟩,
  ⟨0x4500, 1, 0x11, 1, 64, .bytes, .allRW, false, .volatile, .spec .password⟩,
  ⟨0x4500, 1, 0x12, 1, 7220, .bytes, .allRW, false, .volatile, .spec .keyResponse⟩,
  ⟨0x4500, 1, 0x13, 1, 1, .num, .allR, false, .volatile, .spec .signCause⟩,
  ⟨0x4500, 1, 0x20, 1, 4096, .bytes, .imOnly, false, .volatile, .spec .stage⟩,
  ⟨0x4500, 1, 0x21, 1, 1, .bool, .imOnly, false, .almanac, .spec .commit⟩,
  ⟨0x4500, 1, 0x22, 1, 4, .num, .imR, false, .volatile, .reg .ALM_STAT .one⟩,
  ⟨0x4500, 1, 0x24, 1, 1, .num, .allRW, false, .volatile, .spec .editionSelect⟩,
  ⟨0x4500, 1, 0x25, 1, 4096, .bytes, .allR, false, .almanac, .spec .edition⟩,
  ⟨0x4500, 1, 0x28, 1, 10, .bytes, .imOnly, false, .almanac, .spec .ledgerAppend⟩,
  ⟨0x4500, 1, 0x30, 1, 1, .num, .imOnly, false, .almanac, .spec .lifecycle⟩,
  ⟨0x4500, 1, 0x31, 1, 1, .bool, .instOnly, false, .volatile, .spec .consent⟩,
  ⟨0x4500, 1, 0x38, 1, 4, .num, .makerW, true, .volatile, .reg .SEC_TAMPER .one⟩,
  ⟨0x4500, 1, 0x40, 1, 64, .bytes, .allRW, false, .volatile, .spec .nonce⟩,
  ⟨0x4500, 1, 0x41, 1, 6163, .bytes, .allR, false, .volatile, .spec .report⟩,
  ⟨0x4500, 1, 0x42, 1, 2592, .bytes, .allR, false, .volatile, .spec .publicKey⟩,
  ⟨0x4500, 1, 0x50, 1, 64, .bytes, .allR, false, .volatile, .spec .auditHead⟩,
  ⟨0x4500, 1, 0x51, 1, 8, .num, .allR, true, .volatile, .reg .AUD_SEQ .one⟩,
  ⟨0x4500, 1, 0x52, 1, 8, .num, .allRW, false, .volatile, .spec .auditSelect⟩,
  ⟨0x4500, 1, 0x53, 1, 128, .bytes, .allR, false, .volatile, .spec .auditEntry⟩,
  ⟨0x4501, 1, 1, 128, 16, .bytes, .allR, false, .almanac, .spec (.ledgerRecord 0)⟩,
  ⟨0x4502, 1, 1, 128, 16, .bytes, .allR, false, .almanac, .spec (.ledgerRecord 128)⟩,
  ⟨0x4600, 1, 0x01, 1, 1, .num, .allR, false, .volatile, .spec .debugRole⟩,
  ⟨0x4600, 1, 0x02, 1, 2, .num, .imW, true, .volatile, .reg .DBG_FREEZE .one⟩,
  ⟨0x4600, 1, 0x03, 1, 8, .num, .allR, true, .volatile, .spec .halted⟩,
  ⟨0x4600, 1, 0x04, 1, 8, .num, .imW, false, .flash, .reg .DBG_TRC_CTL .one⟩,
  ⟨0x4600, 1, 0x05, 1, 8, .num, .allR, true, .volatile, .reg .DBG_TRC_STAT .one⟩,
  ⟨0x4700, 1, 0x01, 1, 2, .num, .allR, true, .almanac, .spec .recordsFree⟩,
  ⟨0x4700, 1, 0x02, 6, 2, .num, .allR, false, .almanac, .spec .sparesUsed⟩,
  ⟨0x4700, 1, 0x10, 1, 9, .bytes, .imOnly, false, .almanac, .spec .leapRequest⟩,
  ⟨0x4700, 1, 0x11, 1, 4, .num, .allR, true, .volatile, .spec .leapStatus⟩,
  ⟨0x4700, 1, 0x20, 1, 1, .num, .allR, true, .volatile, .spec .candidates⟩,
  ⟨0x4700, 1, 0x21, 1, 1, .num, .allRW, false, .volatile, .spec .candidateSelect⟩,
  ⟨0x4700, 1, 0x22, 1, 16, .bytes, .allR, false, .volatile, .spec .candidate⟩,
  ⟨0x4700, 1, 0x30, 1, 4, .num, .imW, false, .flash, .spec .healthWindow⟩,
  ⟨0x4700, 1, 0x31, 5, 1, .num, .imW, false, .flash, .spec .threshold⟩,
  ⟨0x5000, 1, 0x01, 1, 4, .num, .allR, true, .volatile, .spec .newest⟩,
  ⟨0x5000, 1, 0x02, 1, 4, .num, .allR, false, .volatile, .spec .oldest⟩,
  ⟨0x5000, 1, 0x03, 1, 4, .num, .allRW, false, .volatile, .spec .eventSelect⟩,
  ⟨0x5000, 1, 0x04, 1, 32, .bytes, .allR, false, .volatile, .spec .event⟩,
  ⟨0x5000, 1, 0x05, 1, 4, .num, .allR, true, .volatile, .spec .overwritten⟩,
  ⟨0x5010, 1, 0x01, 4, 4, .int, .allR, true, .volatile, .spec .temperature⟩]

/-- The whole dictionary. -/
def objMap : List ObjDesc := objComm ++ objSystem ++ objFabric ++ objJets ++ objTest ++ objMemory ++ objControl

end Sys2Proof.Machine
end

