-- ==== Sys2Proof/Machine/Real.lean ====
section
/-! DEFINITION. IEEE 754 single precision as the REAL32 objects use it (R190, R493): exact fractions, nearest codes, nearest
single-precision values. -/
namespace Sys2Proof.Machine

/-- The exact value of a REAL32 word as a fraction; none for infinities and not-a-number. -/
def realFrac (w : Nat) : Option (Int × Nat) :=
  let ex := bits w 23 8
  let fr := bits w 0 23
  if ex = 255 then none
  else
    let m := if ex = 0 then fr else fr + 2 ^ 23
    let e := if ex = 0 then 1 else ex
    let m : Int := if bit w 31 then -(m : Int) else m
    if 150 ≤ e then some (m * (2 ^ (e - 150) : Nat), 1) else some (m, 2 ^ (150 - e))

/-- A fraction in steps of `sn` / `sd`, rounded to the nearest whole number, a tie to the lower. -/
def nearestStep (x : Int × Nat) (sn sd : Nat) : Int :=
  let a := 2 * x.1 * sd - (x.2 * sn : Nat)
  let b : Int := (2 * x.2 * sn : Nat)
  Int.neg (Int.neg a / b)

/-- A fraction lies from `lo` to `hi` steps of `sn` / `sd`. -/
def inSteps (x : Int × Nat) (sn sd : Nat) (lo hi : Int) : Bool :=
  decide (lo * (sn * x.2 : Nat) ≤ x.1 * sd) && decide (x.1 * sd ≤ hi * (sn * x.2 : Nat))

/-- The REAL32 word nearest to a fraction, a tie to the even one. -/
def realOf (num : Int) (den : Nat) : Nat :=
  let n := num.natAbs
  if n = 0 ∨ den = 0 then 0
  else
    let scaled (e : Int) : Nat × Nat := if 0 ≤ e then (n, den * 2 ^ e.toNat) else (n * 2 ^ (-e).toNat, den)
    let e0 : Int := (Nat.log2 n : Int) - Nat.log2 den - 23
    let e := if (scaled e0).1 / (scaled e0).2 < 2 ^ 23 then e0 - 1 else e0
    let p := scaled e
    let q := p.1 / p.2
    let r := p.1 % p.2
    let m := if 2 * r > p.2 ∨ (2 * r = p.2 ∧ q % 2 = 1) then q + 1 else q
    (if num < 0 then 2 ^ 31 else 0) + (e + 150).toNat * 2 ^ 23 + (m - 2 ^ 23)

end Sys2Proof.Machine
end

