-- ==== Sys2Proof/Machine/Leap.lean ====
section
/-! DEFINITION. What the repair ledger's records say, and Leap substitution (R538 to R547). -/
namespace Sys2Proof.Machine

/-! ### Records in force (R475, R476, R538) -/

/-- A TARGET byte. -/
def tgtB (t : List Byte) (i : Nat) : Nat := ofBytes (slice i 1 t)

/-- A two-byte TARGET field. -/
def tgtW (t : List Byte) (i : Nat) : Nat := ofBytes (slice i 2 t)

/-- The bank of an HBM TARGET, and its row with it. -/
def tgtBank (t : List Byte) : Nat := tgtB t 0 * 32 + tgtB t 1 * 16 + tgtB t 2
def tgtRow (t : List Byte) : Nat := tgtBank t * 32768 + tgtW t 3

/-- What a record of a TYPE is for: a later record for the same supersedes it. -/
def tgtKey (type : Nat) (t : List Byte) : Nat :=
  if type = 2 then (if tgtB t 0 = 16 then 65536 + tgtW t 1 else tgtB t 0)
  else if type = 3 then 65536 * tgtB t 0 + tgtW t 1
  else if type = 5 then tgtRow t
  else tgtB t 0

/-- The valid records of a TYPE in record order, as TARGETs. -/
def recsOf (type : Nat) (s : State) : List (List Byte) :=
  (((List.range 256).filter (fun k => recValid k s)).map (fun k => ledgerRec k s)).filter (fun r => tgtB r 0 == type) |>.map (slice 2 8)

/-- Those in force. -/
def inForce (type : Nat) (s : State) : List (List Byte) :=
  let l := recsOf type s
  (l.zipIdx.filter (fun p => !((l.drop (p.2 + 1)).any (fun t => tgtKey type t == tgtKey type p.1)))).map (·.1)

/-- Spares in use of a TYPE (0x4700:0x02 to 0x07): a record that returns its spare uses none (R539). -/
def sparesUsed (type : Nat) (s : State) : Nat :=
  ((inForce type s).filter (fun t =>
    if type = 1 then tgtB t 1 != 0x1F else if type = 6 then tgtB t 1 != tgtB t 0 else true)).length

/-- The columns that the records skip in an area: for the static region the last two. -/
def areaCols (n : Nat) (s : State) : List Nat :=
  ((((inForce 2 s).filter (fun t => tgtB t 0 == n)).map (fun t => tgtW t 1)).reverse.take 2).reverse

/-- HBM's fuse map as the records have it. -/
def fuseMap (s : State) : Sparse := (inForce 5 s).foldl (fun m t => spPut (tgtRow t) (tgtB t 5 + 1) m) []

/-- The bit columns that the records skip in block memories and no load has taken yet (R127, R538). -/
def columnsDue (s : State) : Sparse :=
  (inForce 3 s).foldl (fun m t =>
    let k := 2048 * tgtB t 0 + tgtW t 1
    if spGet k s.fab.skips = tgtB t 3 + 1 then m else spPut k (tgtB t 3 + 1) m) []

/-- Boot step 1 applies the records (R476, R538). A skipped column of a block memory takes effect at the area's load (R127). -/
def ledgerApply (s : State) : State :=
  let s := { s with fab := { s.fab with skipsDue := columnsDue s } }
  let s := forEach (inForce 1 s) (fun t u => u.set (JET_BANK_CTL_SPARE_FOR (tgtB t 0)) (tgtB t 1)) s
  let s := forNat 17 (fun n u =>
    let cols := areaCols n u
    ((u.set (FAB_SPARE_LCOL_A n) ((cols[0]?).getD 255)).set (FAB_SPARE_LCOL_B n) ((cols[1]?).getD 255)).set (FAB_SPARE_BMEM_SPARES n)
      ((inForce 3 u).filter (fun t => tgtB t 0 == n)).length) s
  let s := { s with hbm := { s.hbm with spares := fuseMap s } }
  forEach (inForce 6 s) (fun t u => u.set (SC_MAP_PHYS (tgtB t 0)) (tgtB t 1)) s

/-! ### Candidates (R540) -/

/-- The TYPE of a REASON. -/
def reasonType (r : Nat) : Nat := if r ≤ 2 then 1 else r - 1

/-- The object thresholds of REASON 1, 3, 4, 6 and 7, by sub-index, and HEALTH_WINDOW (R548). -/
def healthWindow (s : State) : Nat := spGetD 36000000 0x470030 s.field.objs
def healthLimit (sub : Nat) (s : State) : Nat :=
  spGetD (if sub = 0x31 then 75 else if sub = 0x32 then 3 else if sub = 0x34 then 1 else 2) (0x470000 + sub) s.field.objs

/-- How often an element has shown a sign in the last HEALTH_WINDOW frames. -/
def signCount (r key : Nat) (s : State) : Nat :=
  (s.leap.signs.filter (fun x => x.reason == r && x.key == key && decide (frameCount s - x.frame < healthWindow s))).length

/-- The sign of a REASON has reached its threshold: what registers show of a ball's corrections, a bank's calibration and a march, and
what has been counted of an element over the window. The frames that one physical column holds are not given: an area's upsets stand for
its columns' (DESIGN CHOICE, notes/assumptions/70.md). -/
def signShows (r : Nat) (t : List Byte) (s : State) : Bool :=
  if r = 1 then
    let n := 16 * tgtB t 0 + tgtB t 1
    let m := max (sext 16 (s.get (WEIR_CH_CORR_CORR_DRV n))).natAbs (sext 16 (s.get (WEIR_CH_CORR_CORR_CMP n))).natAbs
    decide (tgtB t 0 < 32) && decide (tgtB t 1 < 16) && decide (healthLimit 0x31 s * s.get WEIR_LIM_CORR_LIM ≤ 100 * m)
  else if r = 5 then s.on (SP_MARCH_RES_ONECOL (tgtB t 0)) && s.on (SP_MARCH_RES_FAILS (tgtB t 0))
  else if r = 2 then (let c := s.get (WEIR_CAL_ERR_CODE (tgtB t 0)); decide (tgtB t 0 < 32) && (c == 5 || c == 6))
  else if r = 3 then decide (healthLimit 0x32 s ≤ signCount 3 (tgtB t 0) s)
  else if r = 4 then decide (healthLimit 0x33 s ≤ signCount 4 (2048 * tgtB t 0 + tgtW t 1) s)
  else if r = 6 then decide (healthLimit 0x34 s ≤ signCount 6 (tgtRow t) s)
  else decide (healthLimit 0x35 s ≤ signCount 7 (s.get (SC_MAP_PHYS (tgtB t 0))) s)

/-- A candidate joins the list of 64 (R540). -/
def addCandidate (r : Nat) (t : List Byte) (s : State) : State :=
  let c : Candidate := ⟨reasonType r, r, t, frameCount s⟩
  let l := if s.leap.held.length < 64 then s.leap.held else s.leap.held.drop 1
  raise 0x1013 [⟨1, c.type⟩, ⟨1, r⟩, ⟨8, ofBytes t⟩] { s with leap := { s.leap with held := l ++ [c] } }

/-- HEALTH_CANDIDATE (R540). -/
def execHealthCandidate (r : Fin 8) (t : List Byte) (s : State) : Out :=
  whenOk (r.val != 0 && t.length == 8 && signShows r.val t s) s (addCandidate r.val t s)

/-- The bytes of a candidate entry. -/
def candidateBytes (c : Candidate) : List Byte := toBytes 1 c.type ++ toBytes 1 c.reason ++ c.target ++ toBytes 6 c.frame

/-! ### The procedure (R541 to R545) -/

/-! LEAP_STAT.STATE. -/
def leapIdle : Nat := 0
def leapCheck : Nat := 1
def leapLedger : Nat := 2
def leapApply : Nat := 3
def leapCalibrate : Nat := 4
def leapDone : Nat := 5
def leapFailed : Nat := 6

/-- Leap changed. -/
def modLeap (f : LeapSt → LeapSt) (s : State) : State := { s with leap := f s.leap }

/-- A Leap runs. -/
def leapRuns (s : State) : Bool := decide (leapCheck ≤ s.leap.state) && decide (s.leap.state ≤ leapCalibrate)

/-- LEAP_STAT (0x4700:0x11). -/
def leapStat (s : State) : Nat := 65536 * s.leap.detail + 256 * s.leap.record + 16 * s.leap.cause + s.leap.state

/-- A request accepted: CHECK begins, with event 0x1010. -/
def leapStart (role signer : Nat) (b : List Byte) (s : State) : State :=
  let s := modLeap (fun x => { x with
    state := leapCheck, cause := 0, record := 255, detail := 0, type := tgtB b 0, target := b.drop 1, role := role, signer := signer
    sub := 0, tries := 0, began := none, tampered := false }) s
  raise 0x1010 [⟨1, s.leap.type⟩, ⟨8, ofBytes s.leap.target⟩] s

/-- A write of 0x4700:0x10 (R541), which is audited (R479). -/
def objLeap (a : Agent) (b : List Byte) (s : State) : Status × State :=
  if a.init ≠ 49 ∨ !a.im then (.denied, s)
  else auditWrite a.role.code 0x470010 (signerOf a s) b (fun t =>
    if b.length ≠ 9 then (.range, t)
    else if leapRuns t then (.retry, t)
    else (.done, leapStart a.role.code (signerOf a s) b t)) s

/-- LEAP_REQUEST (R541). -/
def execLeapRequest (a : Agent) (b : List Byte) (s : State) : Out := ok (answered (objLeap a b s))

/-- The procedure fails in its present step, with event 0x1012 (R542). -/
def leapFail (cause detail : Nat) (s : State) : State :=
  let st := s.leap.state
  let s := { s with hbm := { s.hbm with subst := none } }
  raise 0x1012 [⟨1, st⟩, ⟨1, cause⟩, ⟨2, detail⟩] (modLeap (fun x => { x with state := leapFailed, cause := cause, detail := detail }) s)

/-- The procedure is done, with event 0x1011. -/
def leapEnd (s : State) : State :=
  raise 0x1011 [⟨1, s.leap.record⟩, ⟨1, s.leap.type⟩] (modLeap (fun x => { x with state := leapDone }) s)

/-- Every TARGET field lies in its range (R475). -/
def targetOk (type : Nat) (t : List Byte) : Bool :=
  if type = 1 then decide (tgtB t 0 < 32) && (decide (tgtB t 1 < 16) || tgtB t 1 == 0x1F)
  else if type = 2 then decide (tgtB t 0 ≤ 16) && decide (tgtW t 1 < (if tgtB t 0 < 16 then 41 else 82))
  else if type = 3 then decide (tgtB t 0 ≤ 16) && decide (tgtW t 1 < bramCount (tgtB t 0)) && decide (tgtB t 3 ≤ 72)
  else if type = 4 then decide (tgtB t 0 < 16) && decide (tgtB t 1 ≤ 72)
  else if type = 5 then decide (tgtB t 0 < 16) && decide (tgtB t 1 < 2) && decide (tgtB t 2 < 16) && decide (tgtW t 3 < 32768)
  else decide (tgtB t 0 < 32)

/-- The spare named exists: of a TYPE of the table; an HBM spare 0 to 3 that replaces no other row; a physical core. -/
def spareExists (type : Nat) (t : List Byte) (s : State) : Bool :=
  if type = 5 then
    decide (tgtB t 5 < 4) && s.hbm.spares.all (fun p => !(p.1 / 32768 == tgtBank t && p.2 == tgtB t 5 + 1 && p.1 != tgtRow t))
  else if type = 6 then decide (tgtB t 1 < 34)
  else decide (1 ≤ type) && decide (type ≤ 6)

/-- The preconditions of R543. -/
def leapReady (type : Nat) (t : List Byte) (s : State) : Bool :=
  if type = 1 then
    (List.range 16).all (fun c => !s.on (JET_CFG_EN (16 * tgtB t 0 + c)) && s.get (JET_PMU_CTL_MODE (16 * tgtB t 0 + c)) == 0) &&
      s.get (ELIM_TRIP_BALL (tgtB t 0)) == 0 && !s.on ELIM_STAT_WIRING
  else if type = 5 then s.get HBM_STAT_STATE == hbmReady
  else if type = 6 then
    scIdle (tgtB t 0) s && domOn (physDom (tgtB t 1)) s &&
      (List.range 32).all (fun c => c == tgtB t 0 || s.get (SC_MAP_PHYS c) != tgtB t 1)
  else true

/-- The cause with which CHECK fails; 0 none (R542). -/
def leapChecks (s : State) : Nat :=
  let x := s.leap
  if !roleMay (roleOf x.role) s then 1
  else if 1 ≤ x.type ∧ x.type ≤ 6 ∧ !targetOk x.type x.target then 3
  else if !spareExists x.type x.target s then 2
  else if 256 ≤ s.sec.ledgerUsed then 4
  else if !leapReady x.type x.target s then 3
  else 0

/-- The record's append: firmware stages it in bank 14 and asks (R476, R542). While another Almanac operation runs, it waits. -/
def leapAppend (s : State) : State :=
  let x := s.leap
  let b := toBytes 1 x.type ++ toBytes 1 x.role ++ x.target
  if s.sec.alm.isSome then s
  else if !domOn 93 s then leapFail 8 0 s
  else
    let n := s.sec.ledgerUsed
    let r := almStart ⟨1, x.role, x.signer, 0, none, [], 0, false, [], false⟩ 0 0 (bank14Write 0 b s)
    if r.1 = .done then modLeap (fun y => { y with began := some n }) r.2
    else leapFail (if r.1 = .retry then 5 else 8) 0 r.2

/-- APPLY begins (R543). -/
def applyBegin (s : State) : State :=
  let x := s.leap
  let s := modLeap (fun y => { y with state := leapApply, sub := 0, tries := 0 }) s
  if x.type = 1 then targetDown (16 + tgtB x.target 0) tgtOff s
  else if x.type = 4 then modLeap (fun y => { y with spDue := if tgtB x.target 0 ∈ y.spDue then y.spDue else y.spDue ++ [tgtB x.target 0] }) s
  else if x.type = 5 then
    if s.get HBM_STAT_STATE = hbmReady then { s with hbm := { s.hbm with subst := some (tgtRow x.target) } } else leapFail 3 0 s
  else s

/-- The append has ended: its record governs (R542, R545). -/
def ledgerOver (s : State) : State :=
  match s.leap.began with
  | none => leapAppend s
  | some n =>
    if s.sec.ledgerUsed = n then leapFail (if s.leap.tampered then 7 else 5) 0 s
    else
      let good := recValid n s
      if !good then leapFail (if s.leap.tampered then 7 else 8) 0 s
      else applyBegin (modLeap (fun y => { y with record := n % 256 }) s)

/-- CALIBRATE asks for the bank's run (R223); it waits while another runs. -/
def calBegin (s : State) : State :=
  let b := tgtB s.leap.target 0
  if s.on WEIR_CAL_INFO_BUSY then s
  else
    let r := wrCalCtl ⟨0, .none⟩ 1 (s.set WEIR_CAL_BANKS_BANKS (2 ^ b))
    if r.1 = .done then modLeap (fun y => { y with sub := 1 }) r.2 else leapFail 6 0 r.2

/-- The bank's target goes to ON with its new spare; a refused request is placed again at each tick (R543). -/
def jetRaise (s : State) : State :=
  let b := tgtB s.leap.target 0
  let s := s.set (JET_BANK_CTL_SPARE_FOR b) (tgtB s.leap.target 1)
  let r := targetOn [16 + b] 0 s
  if r.1 = .done then modLeap (fun y => { y with sub := 1 }) r.2
  else if r.1 = .retry ∧ s.leap.tries < 64 then r.2
  else leapFail (if r.1 = .retry then 5 else 3) 0 r.2

/-- APPLY of a Jet tap, at its next wait's end. -/
def applyJet (s : State) : State :=
  let d := 16 + tgtB s.leap.target 0
  let st := domState d s
  if s.leap.sub = 0 then (if st = dsOff then jetRaise s else if s.get (PWR_DOM_CTL_TARGET d) ≠ tgtOff then leapFail 3 0 s else s)
  else if st = dsOn then calBegin (modLeap (fun y => { y with state := leapCalibrate, sub := 0 }) s)
  else if s.get (PWR_DOM_CTL_TARGET d) ≠ tgtOn then leapFail 3 0 s
  else s

/-- The lines of an HBM row: 16 of 64 bytes. -/
def rowLines (k : Nat) (s : State) : List Nat :=
  ((List.range 8192).filter (fun i => hbmBank (k % 32768 * 524288 + 64 * i) s == k / 32768)).map (fun i => k % 32768 * 8192 + i)

/-- A line copied to the spare row: corrected, or zeros where it read POISON. -/
def moveRowLine (l : Nat) (s : State) : State :=
  let lost := spGet l s.hbm.dbl != 0
  { s with hbm := { s.hbm with
      mem := if lost then memWrite 0 (64 * l) (List.replicate 64 0) s.hbm.mem else s.hbm.mem
      sgl := spDel l s.hbm.sgl
      dbl := spDel l s.hbm.dbl } }

/-- The end of a row substitution (R544). -/
def applyRow (good : Bool) (s : State) : State :=
  let k := tgtRow s.leap.target
  if s.get HBM_STAT_STATE ≠ hbmReady then leapFail 3 0 s
  else if !good then leapFail 8 0 s
  else
    let l := rowLines k s
    let lost := (l.filter (fun x => spGet x s.hbm.dbl != 0)).length
    let s := forEach l moveRowLine s
    let s := { s with hbm := { s.hbm with spares := spPut k (tgtB s.leap.target 5 + 1) s.hbm.spares, subst := none } }
    leapEnd (modLeap (fun y => { y with detail := lost }) (s.set HBM_SPARE_USED s.hbm.spares.length))

/-- APPLY of a signal-core map: the write of SC_MAP (R321). -/
def applyMap (s : State) : State :=
  let r := wrScMap ⟨0, .none⟩ (tgtB s.leap.target 0) (tgtB s.leap.target 1) s
  if domOn (physDom (tgtB s.leap.target 1)) s && r.1 == .done then leapEnd r.2 else leapFail 3 0 s

/-- APPLY at its wait's end. -/
def applyStepLeap (good : Bool) (s : State) : State :=
  if s.leap.type = 1 then applyJet s
  else if s.leap.type = 5 then applyRow good s
  else if s.leap.type = 6 then applyMap s
  else leapEnd s

/-- CALIBRATE at its wait's end: the run, then SAVE (R223, R228). -/
def calStep (s : State) : State :=
  let b := tgtB s.leap.target 0
  if !domOn (16 + b) s then leapFail 3 0 s
  else if s.leap.sub = 0 then calBegin s
  else if s.on WEIR_CAL_INFO_BUSY then s
  else if s.leap.sub = 1 then
    if bit (s.get WEIR_CAL_STAT_FAILED) b then leapFail 6 (s.get (WEIR_CAL_ERR_CODE b)) s
    else
      let r := wrCalCtl ⟨0, .none⟩ 2 s
      if r.1 = .done then modLeap (fun y => { y with sub := 2 }) r.2 else leapFail 6 0 r.2
  else if s.get WEIR_CAL_INFO_SAVE_STATUS = 0 then leapEnd s
  else leapFail 6 0 s

/-- The procedure goes on where its wait has ended. -/
def leapAdvance (good : Bool) (s : State) : State :=
  if s.leap.state = leapCheck then
    let c := leapChecks s
    if c ≠ 0 then leapFail c 0 s else leapAppend (modLeap (fun y => { y with state := leapLedger }) s)
  else if s.leap.state = leapLedger then (if s.leap.began.isSome ∧ s.sec.alm.isSome then s else ledgerOver s)
  else if s.leap.state = leapApply then applyStepLeap good s
  else calStep s

/-- The core that serves the procedure runs (R545). -/
def leapServed (s : State) : Bool := s.get (CORE_STAT_STATE 0) == coreRun

/-- LEAP_STEP_ADVANCE (R542 to R545). -/
def execLeapStepAdvance (good : Bool) (s : State) : Out := whenOk (leapRuns s && leapServed s) s (leapAdvance good s)

/-- A frame tick: signs older than the window are forgotten (R540), and a refused raise is tried again (R543). -/
def leapTick (s : State) : State :=
  let s := modLeap (fun x => { x with signs := x.signs.filter (fun y => decide (frameCount s - y.frame < healthWindow s)) }) s
  if s.leap.state = leapApply ∧ s.leap.type = 1 ∧ s.leap.sub = 0 ∧ domState (16 + tgtB s.leap.target 0) s = dsOff ∧ leapServed s then
    jetRaise (modLeap (fun y => { y with tries := y.tries + 1 }) s)
  else s

/-- COLD and WARM resets abandon the procedure and clear the list (R540, R545). -/
def leapPartReset (s : State) : State :=
  { s with
    hbm := { s.hbm with subst := none }
    leap := ⟨leapIdle, 0, 255, 0, 0, List.replicate 8 0, 0, 0, 0, 0, none, false, [], 0, s.leap.spDue, []⟩ }

end Sys2Proof.Machine
end

