-- ==== Sys2Proof/Machine/View.lean ====
section
/-! DEFINITION. Register reads by address: which domain holds a register, who may read it, what a read shows and clears (R4 to R9,
R52). -/
namespace Sys2Proof.Machine

/-! ### Where a register lives -/

/-- The place of an address among blocks of `step` bytes from `base` on, if it lies in one of the first `n`. -/
def blockOf (base step n addr : Nat) : Option Nat :=
  if base ≤ addr ∧ addr < base + step * n then some ((addr - base) / step) else none

/-- Registers of a block that some power domain holds: base, block size, number of blocks, domain of each. -/
def homeTable (s : State) : List (Nat × Nat × Nat × (Nat → Nat)) := [
  (0x3004010000, 256, 512, bankDom),
  (0x3005010000, 256, 16, seqDom), (0x3005001000, 8, 16, seqDom), (0x3005002000, 16, 32, fun b => 16 + b),
  (0x3005100000, 2048, 512, bankDom), (0x3005200000, 128, 512, bankDom),
  (0x3007100000, 65536, 16, seqDom),
  (0x3008010000, 4096, 16, fun _ => 70), (0x3008020000, 2048, 1, fun _ => 70),
  (0x3008030000, 64, 128, fun _ => 71), (0x3008000100, 16, 1, fun _ => 71),
  (0x3009000000, 0x1000000, 1, fun _ => 72),
  (0x300A001000, 64, 32, fun c => scDom c s), (0x300A006000, 64, 32, fun c => scDom c s),
  (0x300A200000, 0x60000, 32, fun c => scDom c s),
  (0x300B000108, 8, 1, fun _ => 65), (0x300B000200, 16, 1, fun _ => 65), (0x300B000220, 16, 1, fun _ => 65),
  (0x300B000300, 8, 1, fun _ => 65), (0x300B000400, 16, 1, fun _ => 65), (0x300B000500, 32, 1, fun _ => 65),
  (0x3012008000, 256, 4, fun _ => 95)]

/-- The power domain that a register address belongs to; none for an always-on one. -/
def regHome (addr : Nat) (s : State) : Option Nat :=
  (homeTable s).findSome? (fun h => (blockOf h.1 h.2.1 h.2.2.1 addr).map h.2.2.2)

/-- What a register access is answered before it reaches its target (R52, R102). -/
def regIngress (addr : Nat) (s : State) : Option Status :=
  match regHome addr s with
  | some n => domRefuses n s
  | none => none

/-- The register at an address, with its two indices. -/
def findReg (addr : Nat) : Option (RegDesc × Nat × Nat) :=
  regMap.findSome? (fun r =>
    if addr < r.base then none
    else
      let o := addr - r.base
      let i := if r.n1 = 1 then 0 else min (o / r.s1) (r.n1 - 1)
      let o' := o - i * r.s1
      let j := if r.n2 = 1 then 0 else min (o' / r.s2) (r.n2 - 1)
      if r.base + i * r.s1 + j * r.s2 = addr then some (r, i, j) else none)

/-- Who may read a window (R378, R426, R482, R511, R533). -/
def winReader (a : Agent) (addr : Nat) : Bool :=
  let w := (addr - 0x3000000000) / 0x1000000 + 1
  if w = 13 then encWriter a || isDap a
  else if w = 15 then lanesWriter a || isDap a
  else if w = 17 ∨ w = 18 then a.core01 || isDap a
  else if w = 19 then isDap a
  else true

/-! ### What a read shows -/

/-- A value put into a field of a register's word. -/
def viewFld (f : Fld) (v w : Nat) : Nat := putBits w (f.key % 64) f.width (min v (2 ^ f.width - 1))

/-- RA_STAT.ARMED: the repair domains that are not EMPTY. -/
def raArmedCount (s : State) : Nat := ((List.range 4096).filter (fun d => raState d s != raEmpty)).length

/-- A register as a read sees it: its fields, those that are functions of other state shown as they stand. -/
def regView (a : Agent) (r : RegName) (i j : Nat) (l : List (Acc × Fld)) (s : State) : Nat :=
  let w := readFlds l s
  let flag (f : Fld) (b : Bool) (x : Nat) : Nat := viewFld f (if b then 1 else 0) x
  match r with
  | .SLU_MYTICKET => spGet a.init.val s.power.ticket
  | .SLU_STAT => viewFld SLU_STAT_WAITING s.power.queue.length
      (viewFld SLU_STAT_GRANTED (sluGranted s) (viewFld SLU_STAT_GRANTABLE (grantable (curProfile s)) w))
  | .PWR_DOM_STAT => viewFld (PWR_DOM_STAT_OUTSTANDING i) (outstanding i s) (flag (PWR_DOM_STAT_WAIT_GRANT i) (waitGrant i s) w)
  | .ELIM_STAT => flag ELIM_STAT_ANY_BALL (anyBall s) w
  | .FAB_PORT_STAT => viewFld (FAB_PORT_STAT_DIN_LEVEL i) (dinLevel i s) (viewFld (FAB_PORT_STAT_TAP_LEVEL i) (tapLevel i s) w)
  | .FAB_SPARE => viewFld (FAB_SPARE_BMEM_SPARES i)
      (s.get (FAB_SPARE_BMEM_SPARES i) + (if s.get BOOT_STAT_STAGE < 2 then 0 else Config.makerFuses i)) w
  | .LDR_STAT => viewFld LDR_STAT_QUEUED s.ldr.queue.length (flag LDR_STAT_BUSY s.ldr.job.isSome w)
  | .REG_STAT => flag (REG_STAT_PENDING i) (ldrPending i s) w
  | .JET_BANK_STAT => viewFld (JET_BANK_STAT_BLOCKED i) (bankBlocked i s)
      (flag (JET_BANK_STAT_PMU_GRANT i) (hasGrant clsPmu (16 + i) s) (flag (JET_BANK_STAT_RATE_GRANT i) (hasGrant clsRate (16 + i) s) w))
  | .JET_STAT => viewFld (JET_STAT_STATE i) (jetState i s)
      (flag (JET_STAT_PHYS i) (jetSpared i s) (flag (JET_STAT_TRIP i) (jetTripped i s) w))
  | .ET_TS_CFG => flag (ET_TS_CFG_OK i j) (setOk i j s) w
  | .ET_CH_STAT => viewFld (ET_CH_STAT_OK i) (setOkMask i s) w
  | .FC_SEQ_STAT => viewFld (FC_SEQ_STAT_LEVEL i) (fcLevel i s) (flag (FC_SEQ_STAT_RING_FULL i) (ringFull i s) w)
  | .RA_STAT => viewFld RA_STAT_ARMED (raArmedCount s) (viewFld RA_STAT_QUEUE s.ra.queue.length
      (viewFld RA_STAT_BUSY s.ra.units.length (flag RA_STAT_HELD (raHeld s) (flag RA_STAT_RING_FULL (raRingFull s) w))))
  | .HBM_STAT => flag HBM_STAT_BURST (hasClass clsBurst s) w
  | .HBM_ERRLOG => s.hbm.log.headD 0
  | .ENC_KEYID => encKeyIds s
  | .CAS_STAT => viewFld CAS_STAT_QUEUED (casQueued s) w
  | .CORE_STAT => flag (CORE_STAT_LOCKFAULT i) (lockFaultWaits i s) w
  | .CRC_RES => crcResult i s
  | .FI_STAT => viewFld FI_STAT_SESSIONS ((List.range 8).filter (fun k => s.on (FI_SESS_OPEN k))).length w
  | .FI_SDO => viewFld FI_SDO_PENDING (sdoHeld s) w
  | .DBG_TRC_STAT => viewFld DBG_TRC_STAT_LEVEL s.trace.fifo.length w
  | .DBG_CSR_DATA => csrValue i s
  | _ => w

/-- What a read does besides: the RC fields return to 0 and an RP register loses its head entry (R7). -/
def regReadEffect (r : RegName) (l : List (Acc × Fld)) (s : State) : State :=
  match r with
  | .HBM_ERRLOG => (popErrlog s).2
  | _ => clearRc l s

/-- A register read at its target: width, alignment and offset, then the reader (R6, R9). A peek leaves the register as it is
(R527). -/
def regReadAt (a : Agent) (addr width : Nat) (peek : Bool) (s : State) : Status × Nat × State :=
  match findReg addr with
  | none => (.range, 0, s)
  | some (r, i, j) =>
    if r.bits ≠ width ∧ r.name ≠ .DBG_STIM then (.range, 0, s)
    else if !winReader a addr then (.denied, 0, s)
    else
      let l := r.flds i j
      (.done, regView a r.name i j l s, if peek then s else regReadEffect r.name l s)

end Sys2Proof.Machine
end

