-- ==== Sys2Proof/Machine/Values.lean ====
section
/-! DEFINITION. The numbers that objects show, and what a telemetry snapshot captures (R93, R190 and each chapter's own table). -/
namespace Sys2Proof.Machine

/-- The description of a register by its name. -/
def regDesc (n : RegName) : Option RegDesc := regMap.find? (fun r => r.name == n)

/-- The address of a register by its indices. -/
def RegDesc.addr (r : RegDesc) (i j : Nat) : Nat := r.base + i * r.s1 + j * r.s2

/-- The indices of an object's register, from the object's places. -/
def ObjIx.at_ (x : ObjIx) (k m : Nat) : Nat × Nat :=
  match x with
  | .one => (0, 0)
  | .byIndex => (k, 0)
  | .bySub => (m, 0)
  | .both => (k, m)
  | .domain => (128 * k + m, 0)
  | .channel => (k / 16, k % 16)

/-- A register as an object shows it. -/
def regShown (n : RegName) (i j : Nat) (s : State) : Nat :=
  match regDesc n with
  | some r => regView ⟨49, .none⟩ n i j (r.flds i j) s
  | none => 0

/-- A register's word as a write that changes none of its fields gives it: the fields that a write sets, as they stand. -/
def rwWord (l : List (Acc × Fld)) (s : State) : Nat :=
  l.foldl (fun t p => match p.1 with | .rw => t + s.get p.2 * 2 ^ (p.2.key % 64) | _ => t) 0

/-- A register's word by its name. -/
def rwWordOf (n : RegName) (i j : Nat) (s : State) : Nat :=
  match regDesc n with
  | some r => rwWord (r.flds i j) s
  | none => 0

/-- The level register field that a level object names: VIH, VIL, VTT, VOH, VOL, VCOM. -/
def levelPlace (f : Nat) : RegName × Nat := (if f < 3 then .JET_LVL_DRV else .JET_LVL_CMP, f % 3 * 16)

/-- A field of a Jet register as it stands. -/
def jetFld (n : RegName) (lo w k : Nat) (s : State) : Nat := bits (rwWordOf n k 0 s) lo w

/-- A level code as a REAL32 in volts. -/
def levelReal (wide : Bool) (code : Nat) : Nat :=
  let p := levelScale wide
  realOf (((code : Int) - p.2.1) * p.1) 1000000

/-- The level code nearest to a REAL32 in volts, or none outside the span. -/
def levelCode (wide : Bool) (word : Nat) : Option Nat :=
  let p := levelScale wide
  match realFrac word with
  | none => none
  | some x =>
    if inSteps x p.1 1000000 (-(p.2.1 : Int)) ((p.2.2 : Int) - p.2.1) then some (nearestStep x p.1 1000000 + p.2.1).toNat else none

/-- A load current of 0.5 µA steps, 0 to 24 mA (R171), nearest to a REAL32 in amperes. -/
def loadCode (word : Nat) : Option Nat :=
  match realFrac word with
  | none => none
  | some x => if inSteps x 5 10000000 0 48000 then some (nearestStep x 5 10000000).toNat else none

/-- The range of a channel's PMU in pA. -/
def pmuRange (k : Nat) (s : State) : Nat := rangePA (s.get (JET_PMU_CTL_IRANGE k))

/-- A current code of range / 32,768 steps as a REAL32 in amperes. -/
def currentReal (k code : Nat) (s : State) : Nat := realOf (sext 16 code * pmuRange k s) (32768 * 10 ^ 12)

/-- The current code nearest to a REAL32 in amperes. -/
def currentCode (k word : Nat) (s : State) : Option Nat :=
  match realFrac word with
  | none => none
  | some x =>
    if inSteps x (pmuRange k s) (32768 * 10 ^ 12) (-32768) 32767 then some (wrap 16 (nearestStep x (pmuRange k s) (32768 * 10 ^ 12)))
    else none

/-- A sum of n sample codes of a scale as the mean in amperes or volts (R180). -/
def sampleReal (scale : Nat) (sum : Int) (n : Nat) : Nat :=
  if scale = 0 then realOf (sum * 625) (n * 10000000) else realOf (sum * rangePA (scale - 1)) (n * (65536 * 10 ^ 12))

/-- What a map keyed by session holds for the session, if there is one. -/
def ofSession (sess : Option Nat) (m : Sparse) : Nat :=
  match sess with
  | some k => spGet k m
  | none => 0

/-- The number of logical channels whose status word has one of these bits. -/
def channelsWith (p : Nat → Bool) : Nat := ((List.range 512).filter p).length

/-- The value of a numeric object that is not a register (`k`, `m` its places, `key` 256 × index + sub-index). -/
def specNum (o : ObjSpec) (k m key : Nat) (sess : Option Nat) (s : State) : Nat :=
  match o with
  | .dieRevision => Config.dieRev
  | .serialLow => Config.serial % 2 ^ 32
  | .mapping | .assignment => spGet key s.field.objs
  | .syncMode => spGet 0x1C3201 s.field.objs
  | .cycleTime => s.get FRM_STAT_PERIOD_ACT
  | .profileRequest => s.get SYS_PROFILE_REQ
  | .sluStatus => ofSession sess s.field.sluStat
  | .sluTicket => ofSession sess s.field.sluTicket
  | .tickSource =>
    if s.get FRM_STAT_SRC_ACT = 0 ∧ !s.on FRM_STAT_HOLDOVER then 0 else Config.tickSourceByte (s.get FRM_STAT_SRC_ACT) (s.on FRM_STAT_HOLDOVER)
  | .preferred => s.boot.pref
  | .fullSvn => s.boot.fullSvn
  | .fabCorr => spGet m s.fab.corrLast
  | .fabUncorr => spGet m s.fab.uncorrTotal
  | .tapDrop => spGet m s.fab.tapLast
  | .rillCorr => s.ldr.corrLast
  | .rillUncorr => s.ldr.uncorrTotal
  | .level f => levelReal (s.on (JET_CFG_RANGE k)) (jetFld (levelPlace f).1 (levelPlace f).2 16 k s)
  | .load f => realOf ((jetFld .JET_LOAD (16 * f) 16 k s : Int) * 5) 10000000
  | .forceV => levelReal true (s.get (JET_PMU_FORCE_VFORCE k))
  | .forceI => currentReal k (s.get (JET_PMU_FORCE_IFORCE k)) s
  | .clampI high => currentReal k (s.get (if high then JET_PMU_ICLAMP_HI k else JET_PMU_ICLAMP_LO k)) s
  | .clampV high => levelReal true (s.get (if high then JET_PMU_VCLAMP_HI k else JET_PMU_VCLAMP_LO k))
  | .sample => sampleReal (spGet k s.jets.scales) (sext 18 (s.get (JET_PMU_RES_SAMPLE k))) 1
  | .mean =>
    match s.jets.means.find? (fun p => p.ch == k) with
    | some p => sampleReal p.scale p.sum p.n
    | none => 0
  | .recordStatus => s.edge.recStatus.code
  | .recordSelect => s.edge.select
  | .badCycles => spGet k s.edge.badLast
  | .stale => channelsWith (fun n => s.on (WEIR_CH_STAT_STALE n))
  | .settling => channelsWith (fun n => s.on (WEIR_CH_STAT_SETTLING n) || s.on (WEIR_CH_STAT_UNCAL n))
  | .scDropped => spGet k s.sc.dropLast
  | .hbmCorr => s.hbm.corrLast
  | .hbmUncorr => s.hbm.uncorrTotal
  | .hbmAddress => s.hbm.accAddr
  | .hbmStatus => s.hbm.accStatus.code
  | .encPoisoned => spGet m s.enc.poisonLast
  | .spCorr => s.cluster.corrLast
  | .signCause => ofSession sess s.sec.cause
  | .editionSelect => s.sec.editionSel
  | .auditSelect => s.sec.auditSel
  | .role => (match sess with | some k => s.get (FI_SESS_ROLE k) | none => 0)
  | .lastStatus => ofSession sess s.sec.status
  | .idleLimit => spGetD 600 0x450005 s.field.objs
  | .newest => if s.events.ring.isEmpty then 0 else (s.events.seq + 2 ^ 32 - 1) % 2 ^ 32
  | .oldest => (s.events.ring.head?.map (·.seq)).getD 0
  | .eventSelect => spGet 0x500003 s.field.objs
  | .overwritten => s.events.overwritten
  | .temperature => wrap 32 (Config.temperature m (frameCount s))
  | .debugRole => s.get DBG_AUTH_CTL_ROLE
  | .halted => (List.range 36).foldl (fun t c => t + s.get (DBG_RUN_HALTED c) * 2 ^ c) 0
  | .recordsFree => 256 - s.sec.ledgerUsed
  | .sparesUsed => sparesUsed (m + 1) s
  | .leapStatus => leapStat s
  | .candidates => s.leap.held.length
  | .candidateSelect => s.leap.select
  | .healthWindow => healthWindow s
  | .threshold => healthLimit (0x31 + m) s
  | _ => 0

/-- A number as an object of a kind shows it, from the `w` bits that hold it. -/
def shownAs (kind : ObjKind) (size w v : Nat) : Nat := if kind = .int then wrap (8 * size) (sext w v) else v

/-- The value of a numeric object as it stands, without effect: what the telemetry snapshot captures. -/
def objNow (d : ObjDesc) (k m key : Nat) (sess : Option Nat) (s : State) : Nat :=
  match d.bind with
  | .const v => v
  | .reg r x => regShown r (x.at_ k m).1 (x.at_ k m).2 s
  | .fld r lo w x => shownAs d.kind d.size w (bits (regShown r (x.at_ k m).1 (x.at_ k m).2 s) lo w)
  | .spec o => specNum o k m key sess s % 2 ^ (8 * d.size)

/-- The places of a row: index and sub-index families. -/
def ObjDesc.places (d : ObjDesc) : List (Nat × Nat) := (List.range d.nIdx).flatMap (fun k => (List.range d.nSub).map (fun m => (k, m)))

/-- The key of a place of a row. -/
def ObjDesc.key (d : ObjDesc) (k m : Nat) : Nat := 256 * (d.idx + k) + d.sub + m

/-- What a snapshot holds: every PDO-mappable value that differs from the one it shows at reset, plus 1. -/
def teleTaken (s : State) : Sparse :=
  (objMap.filter (·.pdo)).foldl (fun t d => d.places.foldl (fun t p =>
    let v := objNow d p.1 p.2 (d.key p.1 p.2) none s
    if v = objNow d p.1 p.2 (d.key p.1 p.2) none State.reset then t else spPut (d.key p.1 p.2) (v + 1) t) t) []

end Sys2Proof.Machine
end

