-- ==== Sys2Proof/Machine/Frame.lean ====
section
/-! DEFINITION. The frame-tick generator and the slot table (R84 to R92), and the loss of a reference. Times are in ps from the first tick
after the last reset (R96). -/
namespace Sys2Proof.Machine

/-- REFERENCE_LOST (R75 to R78): no edge for 100 ns. Loss of the MEMS oscillator is also a clock-loss tamper indication (R76). -/
def execReferenceLost (x : Fin 3) (s : State) : Out :=
  let t := srcLost x.val s
  ok (if x.val = 0 ∧ tamperWatched 2 s then tamper 2 t else t)

/-! ### Registers -/

/-- The tick source has fallen back to LOCAL and FRM_CTL has not been written since (R86). -/
def tickFell (s : State) : Bool := s.get FRM_STAT_MISSED == 16 && s.get FRM_STAT_SRC_ACT == 0

/-- An acquisition of SYNC0 begins: only events from now on count (R88). -/
def acquire (s : State) : State := { s.set FRM_STAT_ACQUIRING 1 with clock := { s.clock with syncSeen := [] } }

/-- A write of FRM_CTL (R86 to R88): held for the next tick. After a fallback it clears MISSED and makes the part try the source again;
before one, MISSED counts on, and a source tick alone clears it. -/
def wrFrmCtl (v : Nat) (s : State) : Status × State :=
  let src := FRM_CTL_SRC.of v
  let p := FRM_CTL_PERIOD.of v
  if src = 3 ∨ p < 2000 ∨ p > 10000000 then (.range, s)
  else
    let again := decide (src = 1) && (s.get FRM_CTL_SRC != 1 || tickFell s)
    let t := ((s.set FRM_CTL_SRC src).set FRM_CTL_PERIOD p).setIf (tickFell s) FRM_STAT_MISSED 0
    (.done, if src ≠ 1 then t.set FRM_STAT_ACQUIRING 0 else if again then acquire t else t)

/-- FRAME_CONTROL_WRITE (R87). -/
def execFrameControlWrite (_a : Agent) (v : Nat) (s : State) : Out := ok (answered (wrFrmCtl v s))

/-- A write of SLOT_SHD(k): it clears ARM; bit 4 of every entry is reserved (R92). -/
def wrSlotShd (k v : Nat) (s : State) : Status × State :=
  (.done, (writeFlds (SLOT_SHD_fields k) (Nat.land v 0xEFEFEFEF) s).set SLOT_CTL_ARM 0)

/-- SLOT_SHADOW_WRITE (R92). -/
def execSlotShadowWrite (_a : Agent) (k : Fin 16) (v : Nat) (s : State) : Out := ok (answered (wrSlotShd k.val v s))

/-- The shadow entries of a register, as one word. -/
def shdWord (k : Nat) (s : State) : Nat := readFlds (SLOT_SHD_fields k) s

/-- Duty d has a slot in the shadow table. -/
def dutyHasSlot (d : Nat) (s : State) : Bool :=
  (List.range 16).any (fun k => (List.range 4).any (fun i => bit (shdWord k s) (8 * i + d)))

/-- A write of SLOT_CTL (R91, R92): ARM needs a slot for every duty but 4. -/
def wrSlotCtl (v : Nat) (s : State) : Status × State :=
  if SLOT_CTL_ARM.hit v && !((List.range 8).all (fun d => d == 4 || dutyHasSlot d s)) then (.range, s)
  else (.done, writeFlds SLOT_CTL_fields v s)

/-- SLOT_ARM (R92). -/
def execSlotArm (_a : Agent) (s : State) : Out := ok (answered (wrSlotCtl 1 s))

/-- The swap at a tick (R91). -/
def slotSwap (s : State) : State :=
  if !s.on SLOT_CTL_ARM then s
  else
    let s := forNat 16 (fun k t =>
      (((t.set (SLOT_ACT_SLOT0 k) (t.get (SLOT_SHD_SLOT0 k))).set (SLOT_ACT_SLOT1 k) (t.get (SLOT_SHD_SLOT1 k))).set
        (SLOT_ACT_SLOT2 k) (t.get (SLOT_SHD_SLOT2 k))).set (SLOT_ACT_SLOT3 k) (t.get (SLOT_SHD_SLOT3 k))) s
    raise 0x0111 [frameItem s] ((s.set SLOT_CTL_ARM 0).set SLOT_CTL_SWAPPED 1)

/-! ### Ticks -/

/-- The generator runs: from the end of boot step 2, or the release of a WARM reset, while no reset is low (R96, R110). -/
def ticksRun (s : State) : Bool := decide (3 ≤ s.get BOOT_STAT_STAGE) && !s.pins.porstLow && !s.pins.srstLow

/-- A tick of a source at a time, with its count and period: the period it gives rules the frame that begins (R84, R87). -/
def tickAt (src ps count period : Nat) (s : State) : State :=
  let old := s.get FRM_STAT_SRC_ACT
  let was := frameCount s
  let s := ((s.set FRM_COUNT_COUNT count).set FRM_STAT_PERIOD_ACT period).set FRM_STAT_SRC_ACT src
  let s := { s with clock := { s.clock with lastPs := s.clock.tickPs, tickPs := ps, expectPs := ps + 1000 * period, slot := 0 } }
  if old = src then s else raise 0x0101 [⟨1, old⟩, ⟨1, src⟩, ⟨6, was⟩, ⟨6, frameCount s⟩] s

/-- The next count. -/
def nextCount (s : State) : Nat := (frameCount s + 1) % 2 ^ 48

/-- The first tick after a reset, from which times count: count 0, and its snapshot, captured with it, is due (R93, R96, R110). -/
def firstTick (s : State) : State :=
  let s := s.set FRM_COUNT_COUNT 0
  { s with clock := { s.clock with
    lastPs := 0, tickPs := 0, expectPs := 1000 * s.get FRM_STAT_PERIOD_ACT, slot := 0, teleDue := some 0, teleCap := teleTaken s } }

/-- A LOCAL tick, at the expected time: HOLDOVER clears, and MISSED but after a fallback. -/
def localTick (s : State) : State :=
  tickAt 0 s.clock.expectPs (nextCount s) (s.get FRM_CTL_PERIOD) ((s.set FRM_STAT_HOLDOVER 0).setIf (!tickFell s) FRM_STAT_MISSED 0)

/-- What Cascade time says of the next tick, while it is valid. -/
def casNext (s : State) : Option CasNext := if s.on CAS_TIME_VALID then s.casc.next else none

/-- A tick that Cascade time places, or none where it would make the frame shorter than 2,000 ns (R87, R422). -/
def cascadeTick (n : CasNext) (s : State) : Option State :=
  let ps := (nearestEdge n.t s / 4).toNat
  if ps < s.clock.tickPs + 2000000 then none
  else some (tickAt 2 ps n.count n.period (casTickPlaced n ((s.set FRM_STAT_HOLDOVER 0).set FRM_STAT_MISSED 0)))

/-- The tick that the generator issues by itself, if it issues one: LOCAL, or where Cascade time places it (R85 to R88). -/
def ownTick (s : State) : Option State :=
  let src := s.get FRM_CTL_SRC
  let act := s.get FRM_STAT_SRC_ACT
  if src = 1 ∧ act = 1 ∧ !s.on FRM_STAT_ACQUIRING then none
  else if src = 2 ∧ !tickFell s then
    ((casNext s).bind (fun n => cascadeTick n s)).or (if act = 2 then none else some (localTick s))
  else some (localTick s)

/-- A SYNC0 event is within ±1 µs of a time. -/
def within1us (a b : Nat) : Bool := decide (a ≤ b + 1000000) && decide (b ≤ a + 1000000)

/-- The first pattern-clock edge strictly after a time. -/
def edgeAfter (ps : Nat) : Nat := (ps / 1000 + 1) * 1000

/-- A SYNC0 event is one of an acquisition: it follows an earlier one by PERIOD, within ±1 µs (R88). -/
def syncAccepted (ps : Nat) (s : State) : Bool := s.clock.syncSeen.any (fun t => within1us ps (t + 1000 * s.get FRM_CTL_PERIOD))

/-- The tick that a SYNC0 event issues, if it issues one. -/
def syncTick (ps : Nat) (s : State) : Option State :=
  if edgeAfter ps < s.clock.tickPs + 2000000 then none
  else some (tickAt 1 (edgeAfter ps) (nextCount s) (s.get FRM_CTL_PERIOD)
    (((s.set FRM_STAT_HOLDOVER 0).set FRM_STAT_MISSED 0).set FRM_STAT_ACQUIRING 0))

/-- What a SYNC0 event does: the state after it, and whether a tick was issued (R85, R88). -/
def sync0 (ps : Nat) (s : State) : Bool × State :=
  if s.get FRM_CTL_SRC ≠ 1 then (false, s)
  else if s.on FRM_STAT_ACQUIRING then
    let t := { s with clock := { s.clock with syncSeen := s.clock.syncSeen ++ [ps] } }
    if syncAccepted ps s then (match syncTick ps s with | some u => (true, u) | none => (false, t)) else (false, t)
  else if s.get FRM_STAT_SRC_ACT ≠ 1 then (false, s)
  else if within1us ps s.clock.expectPs then (match syncTick ps s with | some u => (true, u) | none => (false, s))
  else (false, raise 0x0103 [⟨4, wrap 32 (((ps : Int) - s.clock.expectPs) / 1000)⟩] s)

/-- The source in force gave no tick at its expected time (R85). -/
def sourceMissing (s : State) : Bool :=
  let src := s.get FRM_CTL_SRC
  src == s.get FRM_STAT_SRC_ACT && ((src == 1 && !s.on FRM_STAT_ACQUIRING) || (src == 2 && (casNext s).isNone))

/-- A tick in place of a missing one (R86): HOLDOVER, MISSED, event 0x0102, and after 16 the fallback to LOCAL. Under CASCADE the
upstream period holds on until then (R87). -/
def holdoverTick (s : State) : State :=
  let src := s.get FRM_STAT_SRC_ACT
  let m := s.get FRM_STAT_MISSED + 1
  let period := if src = 2 then s.get FRM_STAT_PERIOD_ACT else s.get FRM_CTL_PERIOD
  let s := tickAt src s.clock.expectPs (nextCount s) period ((s.set FRM_STAT_HOLDOVER 1).set FRM_STAT_MISSED m)
  let s := raise 0x0102 [⟨1, src⟩, ⟨1, m⟩] s
  if m < 16 then s
  else raise 0x0101 [⟨1, src⟩, ⟨1, 0⟩, ⟨6, frameCount s⟩, ⟨6, nextCount s⟩] (s.set FRM_STAT_SRC_ACT 0)

end Sys2Proof.Machine
end

