-- ==== Sys2Proof/Machine/Reset.lean ====
section
/-! DEFINITION. COLD and WARM resets, CORE resets by register and watchdog, and VIN (R43 to R50, R100 to R104). -/
namespace Sys2Proof.Machine

/-- What every reset of the part leaves alone: flash, one-time memories, the saved calibration record, VIN and pins, time, the last
answer and the waiting commands; and the numbers that tell one undefined value from another. -/
def acrossReset (s : State) : State :=
  { State.reset with
    resp := s.resp
    power := { State.reset.power with vin := s.power.vin }
    fab := { State.reset.fab with
      logicRuns := s.fab.logicRuns, isoDraw := s.fab.isoDraw, skips := s.fab.skips, skipsDue := s.fab.skipsDue }
    pins := s.pins
    weir := { State.reset.weir with copies := s.weir.copies }
    enc := { State.reset.enc with draws := s.enc.draws }
    sc := { State.reset.sc with raises := s.sc.raises }
    noc := { State.reset.noc with nextId := s.noc.nextId }
    flash := s.flash
    cluster := { State.reset.cluster with raises := s.cluster.raises }
    boot := { State.reset.boot with pref := s.boot.pref }
    dbg := { State.reset.dbg with runs := s.dbg.runs }
    field := { State.reset.field with saved := s.field.saved }
    sec := { State.reset.sec with
      editions := s.sec.editions, used := s.sec.used, badEd := s.sec.badEd
      ledger := s.sec.ledger, ledgerUsed := s.sec.ledgerUsed, badRec := s.sec.badRec
      lc := s.sec.lc, tamperBits := s.sec.tamperBits, secretGone := s.sec.secretGone }
    pending := s.pending }

/-- Memories whose contents a reset leaves undefined. -/
def memoriesLost (s : State) : State := forNat 32 scUndefined (forNat 8 spPairLose s)

/-- The state as a COLD reset leaves it while PORST_N is low. -/
def coldReset (s : State) : State := (memoriesLost (acrossReset (almReset s))).set BOOT_STAT_STAGE 0

/-- The state that a domain has as a WARM reset is taken: ON domains but 82 enter LOWERING, RETAIN ends but for the HBM pair, and a
transition in progress completes first (R51, R54, R72). Domain 82 is raised if it is OFF. -/
def warmState (n : Nat) (s : State) : Nat :=
  let st := domState n s
  if n = 82 then (if st = dsOff then dsRaising else st)
  else if st = dsOn then dsLowering
  else if st = dsRetain ∧ n ≠ 64 ∧ n ≠ 65 then dsOff
  else st

/-- The target of a domain after a WARM reset (R72): ON for 82, RETAIN for an HBM domain that rests there, OFF for every other. -/
def warmTarget (n : Nat) (s : State) : Nat :=
  if n = 82 then tgtOn
  else if (n = 64 ∨ n = 65) ∧ domState n s ≠ dsOff ∧ (domState n s ≠ dsLowering ∨ n ∈ s.power.toRetain) then tgtRetain
  else tgtOff

/-- The HBM domains that a WARM reset puts in LOWERING go to RETAIN. -/
def warmRetains (s : State) : List Nat := [64, 65].filter (fun n => domState n s == dsOn)
/-- The registers that a WARM reset keeps whole, as ranges of byte addresses (R72, R96, R104, R137, R232, R290, R340, R359, R377,
R483, R512, R534). -/
def warmKept : List (Nat × Nat) :=
  [(0x3000000808, 0x300000080C), (0x3001000300, 0x3001000304), (0x3001000400, 0x3001000480), (0x3002000040, 0x3002000044),
   (0x3002000100, 0x3002000150), (0x3002000300, 0x3002000310), (0x3006000000, 0x3007000000), (0x3008000200, 0x3008000280),
   (0x300A000100, 0x300A000180), (0x300B000100, 0x300B000104), (0x300B000110, 0x300B000114), (0x300B000210, 0x300B000218),
   (0x300B000308, 0x300B00030C), (0x300C000000, 0x300D000000), (0x3010000000, 0x3011000000), (0x3012000000, 0x3013000000)] ++
  (List.range 17).map (fun n => (0x3003100020 + 0x40 * n, 0x3003100024 + 0x40 * n))

/-- The register file with only what a WARM reset keeps. -/
def keptRegs (m : Sparse) : Sparse :=
  m.filter (fun p => warmKept.any (fun r => decide (64 * r.1 ≤ p.1) && decide (p.1 < 64 * r.2)))

/-- Fields kept of registers that are not kept whole. -/
def warmFields : List Fld :=
  [FI_STAT_LINK0, FI_STAT_LINK1, FI_SDO_RETRIED] ++ (List.range 32).map JET_BANK_CTL_SPARE_FOR ++ (List.range 32).map JET_BANK_STAT_SPARE_ACT

/-- What the subsystems do as a WARM reset begins: what is in progress ends, sessions close, node writes are flushed. -/
def warmEnds (s : State) : State :=
  let s := forNat 8 (endSession 3) s
  let s := dbgPartReset false s
  let s := ldrPartReset s
  let s := if srcOk 2 s then srcLost 2 s else s
  let s := treePassAbort (if (hbmRefuses s).isNone then flushCache s else encForced s)
  let s := weirWarm (passAbort s)
  leapPartReset (secPartReset false s)

/-- A WARM reset for a source (R100, R104): boot restarts at step 3. DESIGN CHOICE (notes/assumptions/19.md): every grant is released
(R72), so the HBM pair rests in RETAIN without one and its next raise declares the ON current whole; SLU_ENT.GEN starts again at 0. -/
def warmReset (src : Nat) (s : State) : State :=
  let was := s
  let n := min 65535 (s.get RST_CAUSE_WARM_COUNT + 1)
  let s := warmEnds s
  let t := memoriesLost (acrossReset s)
  let t := { t with
    regs := (warmFields.foldl (fun m f => regSet f (s.get f) m) (keptRegs s.regs))
    events := { s.events with once := [] }
    power := { t.power with inFault := s.power.inFault, hiz := s.power.hiz, toRetain := s.power.toRetain ++ warmRetains s }
    clock := { t.clock with
      muxAt := s.clock.muxAt, muxWaited := s.clock.muxWaited, relock := s.clock.relock, stopped := s.clock.stopped }
    weir := s.weir
    hbm := { t.hbm with
      mem := s.hbm.mem, sgl := s.hbm.sgl, dbl := s.hbm.dbl
      log := s.hbm.log, spares := s.hbm.spares, nextId := s.hbm.nextId }
    fab := { t.fab with cfg := memErase 0 (4096 * 32768) s.fab.cfg, dyn := s.fab.dyn.filter (fun f => decide (32768 ≤ f)) }
    boot := { t.boot with staged := s.boot.staged }
    enc := { s.enc with cache := [], poisonFrame := [], poisonLast := [] }
    casc := { t.casc with phase := s.casc.phase }
    sec := s.sec
    dbg := s.dbg }
  let t := forNat 96 (fun n u => (u.set (PWR_DOM_STAT_STATE n) (warmState n was)).set (PWR_DOM_CTL_TARGET n) (warmTarget n was)) t
  let t := t.set HBM_STAT_STATE (if domState 64 t = dsOff ∨ domState 64 t = dsRaising then hbmOff else was.get HBM_STAT_STATE)
  let t := forNat 17 (fun r u => u.set (REG_STAT_ABORT r) (s.get (REG_STAT_ABORT r))) t
  let t := ((t.set RST_CAUSE_KIND 1).set RST_CAUSE_SOURCE src).set RST_CAUSE_WARM_COUNT n
  let t := ((t.set BOOT_STAT_WARM 1).set BOOT_STAT_ALMANAC (s.get SEC_STAT_EDITION)).set BOOT_STAT_STAGE 3
  raise 0x0154 [⟨1, src⟩] t

/-- Almanac programming holds its grant (R103). -/
def almPrograms (s : State) : Bool := match s.sec.alm with | some o => o.begun | none => false

/-- Domains raised by boot from the base reserve: each by a target ON of its own, through RAISING (R51, R112). -/
def bootRaise (l : List Nat) (s : State) : State := forEach l (fun n t => (targetOn [n] 0 t).2) s

/-- Boot step 3 begins with the first tick; the scratchpad pairs that it marches are raised (R110, R442). -/
def stepThree (s : State) : State := bootRaise [86, 93] (firstTick s)

/-- A WARM reset asked for by register or watchdog: at once, or after the programming that defers it (R103). Its first tick has
count 0. -/
def askWarm (src : Nat) (s : State) : State :=
  if almPrograms s then { s with boot := { s.boot with warmDue := some src } } else stepThree (warmReset src s)

/-- A write of RST_CTL (R101). -/
def wrRstCtl (a : Agent) (v : Nat) (s : State) : Status × State :=
  let key := RST_CTL_KEY.of v
  let warm := RST_CTL_WARM.hit v
  let core := RST_CTL_CORE.of v
  let cores (t : State) : State := forEach ((List.range 4).filter (fun c => bit core c)) coreReset t
  if a.init.val = 2 ∨ a.init.val = 3 then
    (if key = 0x5A ∧ !warm ∧ core = 2 ^ a.init.val then (.done, cores s) else (.denied, s))
  else if !(a.core01 || a.fieldIM) then (.denied, s)
  else if (warm || core != 0) && key != 0x5A then (.range, s)
  else (.done, if warm then askWarm 2 (cores s) else cores s)

/-- RST_CTL_WARM (R101). -/
def execRstCtlWarm (a : Agent) (key : Nat) (s : State) : Out :=
  ok (answered (wrRstCtl a (256 * (if key < 256 then key else 0) + 16) s))

/-- CORE_RESET (R101). -/
def execCoreReset (a : Agent) (key mask : Nat) (s : State) : Out :=
  ok (answered (wrRstCtl a (256 * (if key < 256 then key else 0) + mask % 16) s))

/-- COLD_RESET (R44, R100): PORST_N goes low; no EtherCAT port has a link then. -/
def execColdReset (s : State) : Out := ok { coldReset s with pins := { s.pins with porstLow := true, therm := false } }

/-- WARM_RESET (R100): SRST_N goes low; a pin reset is not deferred. While PORST_N is low the COLD reset rules (R43). -/
def execWarmReset (s : State) : Out :=
  let t := { s with pins := { s.pins with srstLow := true } }
  ok (if s.pins.porstLow then t else warmReset 1 t)

/-- RESET_RELEASE (R96, R110): PORST_N rises and boot starts at step 1; SRST_N rises and the first tick issues. -/
def execResetRelease (p : ResetPin) (s : State) : Out :=
  match p with
  | .porst => whenOk (s.pins.porstLow && s.power.vin == .on) s ({ s with pins := { s.pins with porstLow := false } }.set BOOT_STAT_STAGE 1)
  | .srst =>
    let t := { s with pins := { s.pins with srstLow := false } }
    whenOk s.pins.srstLow s (if s.pins.porstLow || decide (s.get BOOT_STAT_STAGE < 3) then t else stepThree t)

/-- DELAYED_WARM_RESET (R103, R467). -/
def execDelayedWarmReset (s : State) : Out :=
  match s.boot.warmDue with
  | none => ok s
  | some src => whenOk (!almPrograms s) s (stepThree (warmReset src s))

/-- A write of object 0x2000:0x31 (R103): the answer first, the reset 1 ms later. -/
def objWarm (a : Agent) (v : Nat) (s : State) : Status × State :=
  if !a.fieldIM then (.denied, s)
  else if v ≠ 0x5A then (.range, s)
  else (.done, { s with boot := { s.boot with warmDue := some 3 } })

/-- WARM_RESET_OBJECT (R103). -/
def execWarmResetObject (a : Agent) (v : Nat) (s : State) : Out := ok (answered (objWarm a v s))

/-- WATCHDOG_EXPIRY (R452), in the frame in which the count comes to 0: event 0x1001, then a WARM reset for cores 0 and 1 and a CORE reset for cores 2 and 3. -/
def execWatchdogExpiry (c : Fin 4) (s : State) : Out :=
  let t := raise 0x1001 [⟨1, c.val⟩] (s.set (CORE_STAT_WD_LEFT c.val) 0)
  whenOk (wdCounts c.val s && decide (s.get (CORE_STAT_WD_LEFT c.val) ≤ s.get FRM_STAT_PERIOD_ACT / 1000 + 1)) s (if c.val < 2 then askWarm 4 t else coreReset c.val t)

/-! ### VIN and temperature -/

/-- VIN_SAG (R47): below 9.0 V every Jet output falls to high impedance. DESIGN CHOICE (notes/assumptions/15.md): every other ball and all
digital state, which the spec leaves unspecified until PORST_N is asserted, keep what they hold. -/
def execVinSag (s : State) : Out :=
  whenOk (s.power.vin == .on) s
    { forNat 32 jetsForceOff s with power := { s.power with vin := .sagging } }

/-- BLEED (R50): below about 5 V the rails discharge; nothing the rails held is left. -/
def execBleed (s : State) : Out :=
  whenOk (s.power.vin != .off) s
    (let t := coldReset s
     { t with power := { t.power with vin := .off }, pins := { s.pins with therm := false } })

/-- VIN_RISE (R50): the bleed opens and the rails come up. -/
def execVinRise (s : State) : Out := whenOk (s.power.vin != .on) s { s with power := { s.power with vin := .on } }

/-- THERM_N at a temperature of the hottest die junction, in m°C: driven low from 100 °C on, released from 95 °C down (R40). -/
def thermLow (milliC : Int) (was : Bool) : Bool := if 100000 ≤ milliC then true else if milliC ≤ 95000 then false else was

/-- THERMAL_THRESHOLD (R40, R41, R44): valid from the start of the fallback oscillator, at boot step 2, while PORST_N is high. DESIGN
CHOICE (notes/assumptions/15.md): below VIN 9.0 V, where the ball is unspecified, it goes on in the same way. -/
def execThermalThreshold (milliC : Int) (s : State) : Out :=
  whenOk (s.power.vin != .off && !s.pins.porstLow && decide (2 ≤ s.get BOOT_STAT_STAGE)) s
    { s with pins := { s.pins with therm := thermLow milliC s.pins.therm } }

end Sys2Proof.Machine
end

