-- ==== Sys2Proof/Machine/Bus.lean ====
section
/-! DEFINITION. Register writes by address: each register's own rules, and the windows' ingress (R4 to R9, R52, R565). -/
namespace Sys2Proof.Machine

/-! ### What a write does -/

/-- A write of a register no field of which takes it: ignored, if the writer may write there (R7). -/
def roWrite (may : Bool) (s : State) : Status × State := (if may then .done else .denied, s)

/-- How long before the next tick a write lands that carries no time (R264): a free value within what the slot that the frame has come
to leaves of it (notes/assumptions/31.md). -/
def tickDistance (s : State) : Nat :=
  Config.startTime s.clock.judged % (s.get FRM_STAT_PERIOD_ACT - slotStart s.clock.slot (s.get FRM_STAT_PERIOD_ACT) + 1)

/-- A write of SEQ_CTL that carries no time. -/
def wrSeqCtlUntimed (a : Agent) (q v : Nat) (s : State) : Status × State :=
  let r := wrSeqCtl a q v (tickDistance s) none s
  if (SEQ_CTL_START q).hit v then (r.1, { r.2 with clock := { r.2.clock with judged := s.clock.judged + 1 } }) else r

/-- A write of a whole register of windows 0x01 to 0x04. -/
def writeSystem (a : Agent) (r : RegName) (i j v : Nat) (l : List (Acc × Fld)) (s : State) : Status × State :=
  match r with
  | .SYS_PROFILE => wrSysProfile a v s
  | .PWR_DOM_CTL => wrPwrCtl a i v s
  | .SLU_REQ => wrSluReq a v s
  | .SLU_RELEASE => sluRelease a.init.val (v % 65536) s
  | .ELIM_TRIP => wrElimTrip a i v s
  | .ELIM_STAT => wrElimStat a v s
  | .CLK_SEL => wrClkSel i v s
  | .CLK_FAB => wrClkFab i v s
  | .CLK_GATE => wrClkGate a.init.val i v s
  | .CLKMON_CTL => wrClkmon v s
  | .FRM_CTL => wrFrmCtl v s
  | .SLOT_CTL => wrSlotCtl v s
  | .SLOT_SHD => wrSlotShd i v s
  | .RST_CTL => wrRstCtl a v s
  | .FAB_ECC_CTL => wrFabEccCtl i v s
  | .FAB_FLIP_CTL => wrFabFlip i v s
  | .LDR_REQ => wrLdrReq a v s
  | .REG_CTL => wrRegCtl i v s
  | .ISO_HOLD => wrIsoHold i j v s
  | .RILL_CTL => wrRillCtl a v s
  | _ => (.done, writeFlds l v s)

/-- A write of a whole register of windows 0x05 to 0x08. -/
def writeTest (a : Agent) (r : RegName) (i j v : Nat) (l : List (Acc × Fld)) (s : State) : Status × State :=
  match r with
  | .JET_BANK_CTL => wrJetBankCtl a i v s
  | .JET_CFG => wrJetCfg a i v s
  | .JET_LVL_DRV => wrJetDrv a i v s
  | .JET_LVL_CMP => wrJetCmp a i v s
  | .JET_LOAD => wrJetLoad a i v s
  | .JET_PMU_CTL => wrJetPmuCtl a i v s
  | .JET_PMU_FORCE | .JET_PMU_ICLAMP | .JET_PMU_VCLAMP => wrJetPmu l a i v s
  | .JET_STAT => wrJetStat a i v s
  | .ET_PER => wrEtPer a i j v s
  | .ET_BANK_CTL => wrEtBank a i v s
  | .ET_CH_COMMIT => wrEtCommit a i v s
  | .ET_CH_FIX => wrEtFix a i v s
  | .WEIR_CTL => wrWeirCtl a v s
  | .WEIR_LIM => wrWeirLim a v s
  | .WEIR_CAL_BANKS => wrCalBanks a v s
  | .WEIR_CAL_CTL => wrCalCtl a v s
  | .WEIR_CH_CTL => wrWeirChCtl a i v s
  | .WEIR_CH_STAT => wrWeirChStat a i v s
  | .SEQ_CTL => wrSeqCtlUntimed a i v s
  | .SEQ_START_AT => wrSeqStartAt a i v s
  | .SEQ_PROG => wrSeqStopped l ((SEQ_PROG_BASE i).of v % 4096 != 0) a i v s
  | .SEQ_VEC => wrSeqStopped l ((SEQ_VEC_BASE i).of v % 64 != 0) a i v s
  | .SEQ_SITE_MASK | .SEQ_SITE_OFF => wrSeqSite l a v s
  | .SEQ_SLU | .GEN_D | .GEN_TMASK | .GEN_TINV | .GEN_DR => wrSeqStopped l false a i v s
  | .GEN => wrSeqStopped l (genBad i j v) a i v s
  | .GEN_SCR => wrSeqStopped l (decide ((GEN_SCR_A i j).of v > 53) || decide ((GEN_SCR_B i j).of v > 53)) a i v s
  | .SEQ_PIN => wrSeqStopped l (pinBad i j v) a i v s
  | _ => if a.ctl then (.done, writeFlds l v s) else (.denied, s)

/-- A write of a whole register of windows 0x09 to 0x0B. -/
def writeCapture (a : Agent) (r : RegName) (i : Nat) (v : Nat) (l : List (Acc × Fld)) (s : State) : Status × State :=
  match r with
  | .FC_ECC_CTL => wrFcEccCtl a v s
  | .FC_SEQ_CTL => wrFcSeqCtl a i v s
  | .FC_LOG_CFG => wrFcLogCfg a i v s
  | .FC_LOG_PTR => wrFcLogPtr a i v s
  | .FC_SEQ_STAT => wrFcSeqStat a i v s
  | .FC_MAP_CTL => wrMapCtl a i v s
  | .FC_MAP_SEL | .FC_MAP_XY => wrMapDesc l false a i v s
  | .FC_MAP_SPILL => wrMapDesc l ((FC_MAP_SPILL_ADDR i).of v % 4096 != 0) a i v s
  | .RA_RING_CFG => wrRaRingCfg a v s
  | .RA_RING_PTR => wrRaRingPtr a v s
  | .RA_DESC_SP | .RA_DESC_GEO | .RA_DESC_USER => wrRaDesc l a i v s
  | .RA_DOM => wrRaDom a i v s
  | .SC_MAP => wrScMap a i v s
  | .SC_CTL => wrScCtl a i v s
  | .SC_CFG => wrScCfg a i v s
  | .SC_HOST => wrScHost a i v s
  | .SC_ECC_CTL => wrScEccCtl a i v s
  | .SC_RING_CFG => wrScRingCfg a i v s
  | .SC_RING_PTR => wrScRingPtr a i v s
  | _ => if a.ctl then (.done, writeFlds l v s) else (.denied, s)

/-- A write of a whole register of windows 0x0C to 0x0F. -/
def writeMemory (a : Agent) (r : RegName) (i j v : Nat) (l : List (Acc × Fld)) (s : State) : Status × State :=
  match r with
  | .HBM_CFG => wrHbmCfg a v s
  | .HBM_AGE => wrHbmAge a v s
  | .HBM_ECC_CTL => wrHbmEccCtl a v s
  | .HBM_PASS => wrHbmPass a v s
  | .HBM_STAT | .HBM_ECC_STAT | .HBM_ERRLOG | .HBM_FLIP_DATA | .HBM_FLIP_CTL | .HBM_DIST | .HBM_SPARE | .HBM_PASS_SUM
  | .HBM_CLS => wrHbmPlain l a v s
  | .ENC_PASS => wrEncPass a v s
  | .ENC_REG_CTL => wrEncCtl a i v s
  | .ENC_REG_RANGE => wrEncRange a i v s
  | .ENC_KEYID | .ENC_PASS_SUM | .ENC_REG_WM | .ENC_REG_STAT => roWrite (encWriter a) s
  | .NOC_CTL => wrNocCtl a v s
  | .NOC_RTR_CTL => wrRtrCtl a i v s
  | .NOC_RTR_STAT => wrRtrStat a i v s
  | .ARB_CTL => wrArbCtl a i v s
  | .ARB_SHD => wrArbShd a i j v s
  | .ARB_STAT | .ARB_ACT => roWrite (nocWriter a) s
  | .CAS_CTL => wrCasCtl a v s
  | .CAS_SEND => wrCasSend a v s
  | .CAS_RX_CFG => wrCasRxCfg a v s
  | .CAS_RX_PTR => wrCasRxPtr a v s
  | .LNK_CTL => wrLnkCtl a i v s
  | .LNK_RANGE => wrLnkRange a i v s
  | .LNK_ASYM => wrLnkAsym a i v s
  | .LANE_CTL => wrLaneCtl a i v s
  | .CAS_TIME | .CAS_STAT | .LNK_STAT | .LNK_ERR | .LANE_STAT => wrLanesPlain l a v s
  | _ => (.done, s)

/-- A write of a whole register of windows 0x10 to 0x13. -/
def writeControl (a : Agent) (r : RegName) (i j v width : Nat) (l : List (Acc × Fld)) (s : State) : Status × State :=
  match r with
  | .WD_CTL => wrWdCtl a i v s
  | .WD_KICK => wrWdKick a i v s
  | .LOCK_CTL => wrLockCtl a i v s
  | .LOCK_STAT | .MBX_STAT | .CRC_RES => (.done, s)
  | .MBX_DATA => wrMbxData i j v s
  | .MBX_CTL => wrMbxCtl a i v s
  | .CRC_CFG => wrCrcCfg i v s
  | .CRC_SEED => (.done, writeFlds l v s)
  | .CRC_FOLD => wrCrcFold i v s
  | .CRC_DB => wrCrcData i 1 v s
  | .CRC_DH => wrCrcData i 2 v s
  | .CRC_DW => wrCrcData i 4 v s
  | .SP_OWN => wrSpOwn a i v s
  | .SP_ECC_CTL => wrSpEccCtl a v s
  | .SP_MARCH => wrSpMarch a v s
  | .SP_PASS => wrSpPass a v s
  | .PATCH_ADDR => wrPatchAddr a i v s
  | .PATCH_DATA => wrPatchData a i v s
  | .PATCH_LOCK => wrPatchLock a v s
  | .EPOCH | .CORE_STAT | .DB_PEND | .DB_MASK | .TMO_PEND | .SP_ECC_STAT | .SP_MARCH_STAT | .SP_MARCH_RES
  | .SP_PASS_SUM => wrClusterPlain l a v s
  | .SEC_TAMPER => wrSecTamper a v s
  | .ALM_CTL => wrAlmCtl a v s
  | .AUD_BODY => wrAudBody a i v s
  | .AUD_GO => wrAudGo a v s
  | .ATT_CTL => wrAttCtl a v s
  | .SEC_STAT | .ALM_STAT | .AUD_SEQ | .AUD_HEAD => roWrite a.core01 s
  | .DBG_AUTH_CTL => wrDbgAuth a v s
  | .DBG_AUTH_BUF => if isDap a then (.done, writeFlds l v s) else (.denied, s)
  | .DBG_CTL => wrDbgCtl a v s
  | .DBG_RUN => wrDbgRun a i v s
  | .DBG_FREEZE => wrDbgFreeze a v s
  | .DBG_TRC_CTL => wrDbgTrcCtl a v s
  | .DBG_CREG => wrDbgCreg a i j v s
  | .DBG_CSR_SEL => wrDbgCsrSel a i v s
  | .DBG_CSR_DATA => wrDbgCsr a i v s
  | .DBG_TRC_STAT => roWrite (dapIM a s) s
  | .DBG_STIM => let x := wrStim a i j width v s; (x.1.getD .done, x.2)
  | _ => (.denied, s)

/-- A register write by name: each register's own rules (R7, R565). -/
def regWrite (a : Agent) (r : RegDesc) (i j v width : Nat) (s : State) : Status × State :=
  let l := r.flds i j
  if r.base < 0x3004000000 then writeSystem a r.name i j v l s
  else if r.base < 0x3008000000 then writeTest a r.name i j v l s
  else if r.base < 0x300B000000 then writeCapture a r.name i v l s
  else if r.base < 0x300F000000 then writeMemory a r.name i j v l s
  else writeControl a r.name i j v width l s

/-- A register write at its target (R6): the width is the register's own, but a stimulus port takes 8 to 64 bits (R531). -/
def regWriteAt (a : Agent) (addr width v : Nat) (s : State) : Status × State :=
  match findReg addr with
  | none => (.range, s)
  | some (r, i, j) =>
    if r.bits ≠ width ∧ r.name ≠ .DBG_STIM then (.range, s) else regWrite a r i j (v % 2 ^ width) width s

/-! ### Memory words of the signal cores (R323) -/

/-- Core, memory and word of an address in a signal core's memories. -/
def scMemAt (addr : Nat) : Option (Nat × Nat × Nat) :=
  match blockOf 0x300A200000 0x60000 32 addr with
  | none => none
  | some c =>
    let o := (addr - 0x300A200000) % 0x60000
    if o % 4 ≠ 0 then none
    else if o < 0x10000 then some (c, 0, o / 4)
    else if 0x20000 ≤ o ∧ o < 0x40000 then some (c, 1, (o - 0x20000) / 4)
    else if 0x40000 ≤ o then some (c, 2, (o - 0x40000) / 4)
    else none

/-- A read of a register window that its ingress has let through. -/
def windowReadIn (a : Agent) (addr width : Nat) (peek : Bool) (s : State) : Status × Nat × State :=
  match scMemAt addr with
  | some (c, m, w) =>
    if width ≠ 32 then (.range, 0, s)
    else let t := scHostRead c m w s; (t.resp.status, t.resp.value, { t with resp := s.resp })
  | none => regReadAt a addr width peek s

/-- A write of a register window that its ingress has let through. -/
def windowWriteIn (a : Agent) (addr width v : Nat) (s : State) : Status × State :=
  match scMemAt addr with
  | some (c, m, w) => if width ≠ 32 then (.range, s) else scHostWrite a c m w (v % 2 ^ 32) s
  | none => regWriteAt a addr width v s

/-- A write of a register window. -/
def windowWrite (a : Agent) (addr width v : Nat) (s : State) : Status × State :=
  match regIngress addr s with
  | some st => (st, s)
  | none => windowWriteIn a addr width v s

/-- A stimulus write whose port waits for room in the trace FIFO (R532). -/
def stimWaits (a : Agent) (addr width v : Nat) (s : State) : Bool :=
  match findReg addr with
  | some (r, i, j) => r.name == .DBG_STIM && (regIngress addr s).isNone && (wrStim a i j width v s).1.isNone
  | none => false

/-- REGISTER_WRITE (R6, R7, R15, R565): of a register window, a scratchpad word or a fabric window, over the network on chip. A
handover's answer waits for PENDING (R434), a stimulus write's for room (R532). -/
def execRegisterWrite (a : Agent) (addr width value : Nat) (s : State) : Out :=
  match nocReach a.init.val addr 1 1 s with
  | (some st, s) => ok (answer st s)
  | (none, s) =>
  if inScratchpad addr then
    let r := spWrite a.init.val addr width value s.noc.nextId .ok s
    ok (answered r)
  else match targetOf addr with
  | none => ok (answer .range s)
  | some t =>
    if t < 4 then ok (answer .range s)
    else if t < 64 then ok (portPresent (t - 32) none s)
    else if stimWaits a addr width value s then ok (windowWrite a addr width value s).2
    else
      let x := windowWrite a addr width value s
      let wait := match findReg addr with
        | some (r, i, _) => r.name == .SP_OWN && x.1 == .done && x.2.on (SP_OWN_PENDING i)
        | none => false
      ok (if wait = true then x.2 else nocTold a.init.val x.1 (answered x))

end Sys2Proof.Machine
end

