-- ==== Sys2Proof/Machine/NocRun.lean ====
section
/-! DEFINITION. Requests as an initiator port takes them, what their targets do, the delivery of responses, and the debug access
port's requests (R133, R382 to R387, R516, R517, R519). -/
namespace Sys2Proof.Machine

/-! ### Taking a request (R382, R386, R389) -/

/-- The packet checks of an initiator port (R382); an address that no target holds is out of range (R18). -/
def packetOk (p : Packet) : Bool :=
  let lines := match p.op with
    | .rd | .wr => decide (2 ≤ p.len) && decide (p.len ≤ 8) && p.len % 2 == 0 && p.addr % 64 == 0
    | .wrp => p.len == 2 && p.addr % 64 == 0
    | .regrd | .regwr => p.len == 0
    | .other => false
  lines && (targetOf p.addr).isSome && (targetOf (p.addr + 32 * p.len - (if p.len = 0 then 0 else 1))).isSome

/-- The packet writes. -/
def isWrite (o : NocOp) : Bool := o == .wr || o == .wrp || o == .regwr

/-- The power domain that a request is addressed to. -/
def targetDom (addr t : Nat) (s : State) : Option Nat :=
  if t < 4 then some 65 else if t < 24 then some (spDom (t - 8)) else if t < 48 then some (t - 32) else if t = 48 then none
  else regHome addr s

/-- Exactly `n` bytes of a list, zeros after its end. -/
def padTo (n : Nat) (b : List Byte) : List Byte := (b ++ List.replicate n 0).take n

/-- An initiator's SEQ for a target, and the next one. -/
def nextSeq (i t : Nat) (s : State) : Nat := spGet (256 * i + t) s.noc.seqs

/-- The request leaves its port: one entry of each buffer is held, flits and requests count. -/
def nocSend (a : Agent) (t : Nat) (p : Packet) (s : State) : State :=
  let i := a.init.val
  let k := 256 * i + t
  let r : NocReq := ⟨s.noc.nextId, a, t, targetDom p.addr t s, nextSeq i t s, p, .sent, false, false, false, .done, 0, []⟩
  { s with noc := { s.noc with
      reqs := s.noc.reqs ++ [r]
      nextId := s.noc.nextId + 1
      resv := spSet k (max (spGet k s.noc.resv) (entriesUsed i t s + 1)) s.noc.resv
      seqs := spSet k ((nextSeq i t s + 1) % 64) s.noc.seqs
      cntReqs := nocCount i 1 s.noc.cntReqs
      cntFlits := nocCount i (if isWrite p.op then 1 + p.len else 1) s.noc.cntFlits } }

/-- A request reaches HBM's ingress: refused with its status, or queued in the controller (R109, R345, R347, R365). -/
def nocToHbm (r : NocReq) (s : State) : State :=
  let p := r.pkt
  let n := p.len / 2
  if n = 0 then nocAnswer r.id .range 0 [] s
  else if hbmDenies r.agent.init.val p.addr (64 * n) (isWrite p.op) then nocAnswer r.id .denied 0 [] s
  else match pairRefusesAt p.addr n s with
    | some st => nocAnswer r.id st 0 [] s
    | none =>
      let w := if isWrite p.op then some (padTo (64 * n) p.data) else none
      hbmEnqueue r.agent.init.val p.addr n w (if p.op = .wrp then p.be % 2 ^ 64 else 2 ^ 64 - 1) r.id
        (regionsOf (p.addr / 64) n s) (modReq r.id (fun x => { x with phase := .hbm }) s)

/-- What an initiator port answers without sending, none where it sends (R382, R386, R389). -/
def portRefuses (i t addr : Nat) (s : State) : Option Status :=
  if routeRefused i t s then some .retry
  else match (match targetDom addr t s with | some n => domRefuses n s | none => none) with
    | some st => some st
    | none =>
      if entriesUsed i t s ≥ spGet (256 * i + t) s.noc.resv ∧ entriesReserved t s ≥ ingressDepth t then some .retry else none

/-- Entries of an initiator's response buffer in use. -/
def responsesHeld (i : Nat) (s : State) : Nat := (s.noc.reqs.filter (fun r => r.agent.init.val == i)).length

/-- A request taken by its initiator port: answered at once with a status, or sent (none). A full response buffer keeps the request
at its agent. -/
def nocTake (a : Agent) (p : Packet) (s : State) : Option Status × State :=
  let i := a.init.val
  if !packetOk p then (some .range, s)
  else
    let t := (targetOf p.addr).getD 0
    match portRefuses i t p.addr s with
    | some st => (some st, nocTold i st s)
    | none =>
      if 64 ≤ responsesHeld i s then (none, s)
      else
        let s1 := nocSend a t p s
        match s1.noc.reqs.getLast? with
        | some r => (none, if t < 4 then nocToHbm r s1 else s1)
        | none => (none, s1)

/-- NOC_REQUEST (R382, R386, R389). -/
def execNocRequest (a : Agent) (pkt : Packet) (s : State) : Out :=
  let x := nocTake a pkt s
  ok (match x.1 with
    | some st => answer st x.2
    | none => x.2)

/-! ### What register and scratchpad targets do with a request -/

/-- `n` words of a scratchpad read from an address on. -/
def spReadWords (i addr id : Nat) : Nat → State → Status × List Byte × State
  | 0, s => (.done, [], s)
  | n + 1, s =>
    let x := if inScratchpad addr then spRead i addr 64 id .ok s else (.range, 0, s)
    let y := spReadWords i (addr + 8) id n x.2.2
    (if x.1 = .done then y.1 else x.1, toBytes 8 x.2.1 ++ y.2.1, y.2.2)

/-- Bytes of a scratchpad written from an address on, where `be` enables them: whole words at once. -/
def spWriteWords (i addr id : Nat) (be : Nat) : Nat → List Byte → State → Status × State
  | 0, _, s => (.done, s)
  | n + 1, b, s =>
    let m := be % 256
    let v := ofBytes (b.take 8)
    let x := if m = 0 then (.done, s)
      else if !inScratchpad addr then (.range, s)
      else if m = 255 then spWrite i addr 64 v id .ok s
      else (List.range 8).foldl (fun (t : Status × State) k =>
        if bit m k then
          let y := spWrite i (addr + k) 8 (v / 256 ^ k) id .ok t.2
          (if t.1 = .done then y.1 else t.1, y.2)
        else t) (.done, s)
    let y := spWriteWords i (addr + 8) id (be / 256) n (b.drop 8) x.2
    (if x.1 = .done then y.1 else x.1, y.2)

/-- A peek: a read of the debug port while SIDE is 0 (R527). -/
def peeks (a : Agent) (s : State) : Bool := isDap a && !s.on DBG_CTL_SIDE

/-- A scratchpad bank acts on a request. -/
def spAct (r : NocReq) (s : State) : State :=
  let p := r.pkt
  let i := r.agent.init.val
  let w := if p.w64 then 64 else 32
  let n := 4 * p.len
  let t := match p.op with
    | .regrd => let x := spRead i p.addr w r.id .ok s; nocAnswer r.id x.1 x.2.1 [] x.2.2
    | .regwr => let x := spWrite i p.addr w p.value r.id .ok s; nocAnswer r.id x.1 0 [] x.2
    | .rd => let x := spReadWords i p.addr r.id n s; nocAnswer r.id x.1 0 x.2.1 x.2.2
    | .wr => let x := spWriteWords i p.addr r.id (2 ^ (8 * n) - 1) n (padTo (8 * n) p.data) s; nocAnswer r.id x.1 0 [] x.2
    | .wrp => let x := spWriteWords i p.addr r.id p.be n (padTo (8 * n) p.data) s; nocAnswer r.id x.1 0 [] x.2
    | .other => nocAnswer r.id .range 0 [] s
  spSettle (r.target - 8) t

/-- A register window acts on a request its ingress accepted, whatever its domain has begun since (R52); line accesses are out of range
there (R6). -/
def windowAct (r : NocReq) (s : State) : State :=
  let p := r.pkt
  let w := if p.w64 then 64 else 32
  match p.op with
  | .regrd => let x := windowReadIn r.agent p.addr w (peeks r.agent s) s; nocAnswer r.id x.1 x.2.1 [] x.2.2
  | .regwr => let x := windowWriteIn r.agent p.addr w p.value s; nocAnswer r.id x.1 0 [] x.2
  | .rd | .wr | .wrp | .other => nocAnswer r.id .range 0 [] s

/-- The target of a request that a register window or scratchpad bank serves acts on it, unless it must wait: for room in the trace
FIFO, for a handover (R434, R532). -/
def nocAct (r : NocReq) (s : State) : State :=
  if r.phase ≠ .sent then s
  else if 8 ≤ r.target ∧ r.target < 24 then spAct r s
  else if r.target < 65 then s
  else if r.pkt.op == .regwr && stimWaits r.agent r.pkt.addr (if r.pkt.w64 then 64 else 32) r.pkt.value s then s
  else windowAct r s

/-- The first request of an initiator whose response may be delivered: no earlier one to the same target is still to be answered
or delivered (R385). -/
def nocNext (i : Nat) (l : List NocReq) : Option NocReq :=
  let mine := l.filter (fun r => r.agent.init.val == i && !r.lost)
  mine.find? (fun r => !(mine.any (fun e => e.target == r.target && decide (e.id < r.id) && (!e.gone || e.phase != .done))) &&
    (r.phase == .done || (r.phase == .sent && (decide (65 ≤ r.target) || (decide (8 ≤ r.target) && decide (r.target < 24))))))

/-- The debug port's request has its response (R516). -/
def dapDone (st : Status) (v : Nat) (s : State) : State :=
  { s with dbg := { s.dbg with dapDone := true, dapStatus := st.code, dapData := if s.dbg.dapOp = 1 then v else s.dbg.dapData } }

/-- The initiator port of an isolated region: responses that reach it are discarded (R151). -/
def portIsolated (i : Nat) (s : State) : Bool := decide (20 ≤ i) && decide (i < 36) && s.on (REG_STAT_ISO (i - 20))

/-- A response delivered: the entry is free, the latency counts; one whose agent is gone or isolated is discarded (R151, R387,
R391). -/
def nocDeliver (r : NocReq) (lat : Nat) (s : State) : State :=
  let i := r.agent.init.val
  let s := { s with noc := { s.noc with reqs := s.noc.reqs.filter (fun x => x.id != r.id) } }
  if r.gone || portIsolated i s then s
  else
    let s := nocTold i r.status { s with
      resp := ⟨r.status, r.value, r.bytes⟩
      noc := { s.noc with
        latSum := nocCount i lat s.noc.latSum
        latMax := spSet i (max lat (spGet i s.noc.latMax)) s.noc.latMax
        latN := nocCount i 1 s.noc.latN } }
    if i = 50 then dapDone r.status r.value s else s

/-- NOC_RESPONSE (R385, R387, R399): a halted core's responses wait. -/
def execNocResponse (init : Fin 64) (latencyNs : Nat) (s : State) : Out :=
  if coreHalted init.val s then ok s
  else match nocNext init.val s.noc.reqs with
  | none => ok s
  | some r =>
    let t := nocAct r s
    match t.noc.reqs.find? (fun x => x.id == r.id) with
    | none => ok t
    | some x => ok (if x.phase = .done then nocDeliver x latencyNs t else t)

/-! ### The debug access port -/

/-- What the debug session's role allows (R519): the sign-in registers always, peek reads of the windows for the operator, everything
for installer and maker. -/
def dapMay (op addr : Nat) (s : State) : Bool :=
  let auth := addr == 0x3012000100 || (decide (0x3012010000 ≤ addr) && decide (addr < 0x3012012000))
  let win := decide (0x3000000000 ≤ addr) && decide (addr < 0x3013000000)
  auth || decide (2 ≤ dbgRole s) || (dbgRole s == 1 && op == 1 && win && peeks ⟨50, .none⟩ s)

/-- DAP_REQUEST (R516): an update of the DAP data register with OP not 0, unless the last request is still open. -/
def execDapRequest (req : Nat) (s : State) : Out :=
  let op := bits req 112 3
  let addr := bits req 0 48
  if !s.dbg.dapDone ∨ op = 0 then ok s
  else
    let s := { s with dbg := { s.dbg with dapOp := op, dapW64 := bit req 115, dapData := bits req 48 64, dapAddr := addr } }
    let fin (st : Status) (t : State) : Out := ok (answer st (dapDone st 0 t))
    if op > 2 then fin .range s
    else if !dapMay op addr s then fin .denied s
    else
      let p : Packet := ⟨if op = 1 then .regrd else .regwr, addr, 0, bit req 115, bits req 48 (if bit req 115 then 64 else 32), 0, []⟩
      let x := nocTake ⟨50, roleOf (dbgRole s)⟩ p s
      match x.1 with
      | some st => fin st x.2
      | none => ok { x.2 with dbg := { x.2.dbg with dapDone := false } }

end Sys2Proof.Machine
end

