-- ==== Sys2Proof/Machine/Objects.lean ====
section
/-! DEFINITION. What a read of an object gives and what a write of one does (R12, R190, R493, and each chapter's own table). -/
namespace Sys2Proof.Machine

/-! ### Finding an object -/

/-- The row of an index and sub-index, with its places in the row's families. -/
def findObj (idx sub : Nat) : Option (ObjDesc × Nat × Nat) :=
  (objMap.find? (fun d => decide (d.idx ≤ idx) && decide (idx < d.idx + d.nIdx) && decide (d.sub ≤ sub) && decide (sub < d.sub + d.nSub))).map
    (fun d => (d, idx - d.idx, sub - d.sub))

/-- The index ranges of R509: first and last. -/
def indexMap : List (Nat × Nat) :=
  [(0x1000, 0x1FFF), (0x2000, 0x2000), (0x2100, 0x2103), (0x2200, 0x2200), (0x2300, 0x2300), (0x2310, 0x2316), (0x2320, 0x2321),
   (0x3000, 0x31FF), (0x3200, 0x321F), (0x3220, 0x323F), (0x3400, 0x3400), (0x3410, 0x341F), (0x3500, 0x3500), (0x3600, 0x360F),
   (0x3700, 0x3700), (0x3710, 0x372F), (0x3740, 0x374F), (0x3760, 0x3762), (0x3800, 0x3800), (0x3810, 0x384F), (0x3910, 0x392F),
   (0x4000, 0x4000), (0x4100, 0x4100), (0x4110, 0x4113), (0x4200, 0x4202), (0x4210, 0x4211), (0x4220, 0x4231), (0x4300, 0x4300),
   (0x4310, 0x4314), (0x4320, 0x4321), (0x4400, 0x4404), (0x4500, 0x4502), (0x4600, 0x46FF), (0x4700, 0x47FF), (0x5000, 0x5000),
   (0x5010, 0x5010)]

/-- The index lies in the map of R509. -/
def indexIn (idx : Nat) : Bool := indexMap.any (fun p => decide (p.1 ≤ idx) && decide (idx ≤ p.2))

/-- The highest sub-index defined at an index, if it has sub-indices (R493). -/
def highestSub (idx : Nat) : Nat :=
  objMap.foldl (fun m d => if d.idx ≤ idx ∧ idx < d.idx + d.nIdx then max m (d.sub + d.nSub - 1) else m) 0

/-- A PDO mapping object, and an assignment object: their sub-index 0 is writable (R508). -/
def isMapping (idx : Nat) : Bool := (decide (0x1600 ≤ idx) && decide (idx < 0x1610)) || (decide (0x1A00 ≤ idx) && decide (idx < 0x1A10))
def isAssign (idx : Nat) : Bool := idx == 0x1C12 || idx == 0x1C13

/-! ### Rights (R12, R491) -/

/-- The role may read an object with these access letters. -/
def ObjAcc.reads (x : ObjAcc) (r : Role) : Bool :=
  match r with
  | .none => false
  | .operator => x != .imOnly && x != .imR && x != .instOnly
  | .installer => true
  | .maker => x != .instOnly

/-- The role may write it. -/
def ObjAcc.writes (x : ObjAcc) (r : Role) : Bool :=
  match r with
  | .none => false
  | .operator => x == .allRW
  | .installer => x == .allRW || x == .imW || x == .imOnly || x == .instOnly
  | .maker => x == .allRW || x == .imW || x == .imOnly || x == .makerW

/-- Some role may write it. -/
def ObjAcc.writable (x : ObjAcc) : Bool := x != .allR && x != .imR

/-- What a session with no role may reach: the sign-in objects and its own; and of the other objects reads of 0x1000 to 0x1018
(R491). -/
def openObj (idx sub : Nat) : Bool :=
  idx == 0x4500 && ((decide (2 ≤ sub) && decide (sub ≤ 5)) || (decide (0x10 ≤ sub) && decide (sub ≤ 0x13)))

/-- A role may read the object at an index and sub-index. -/
def mayRead (r : Role) (d : ObjDesc) (idx sub : Nat) : Bool :=
  if r = .none then openObj idx sub || (decide (0x1000 ≤ idx) && decide (idx ≤ 0x1018)) else d.acc.reads r

/-- A role may write it. -/
def mayWrite (r : Role) (d : ObjDesc) (idx sub : Nat) : Bool := if r = .none then openObj idx sub && d.acc == .allRW else d.acc.writes r

/-! ### Registers behind objects -/

/-- Firmware itself writes the registers that the field interface may not write (notes/assumptions/66.md). -/
def objWriter (a : Agent) (n : RegName) : Agent :=
  match n with
  | .SP_ECC_CTL | .SP_MARCH | .SP_PASS | .DBG_TRC_CTL | .SEC_TAMPER | .CAS_SEND | .CAS_RX_PTR => ⟨0, .none⟩
  | _ => a

/-- A register read through an object: its target's ingress, its value, and what the read does besides (R7). -/
def regObjRead (n : RegName) (i j : Nat) (s : State) : Status × Nat × State :=
  match regDesc n with
  | none => (.range, 0, s)
  | some r =>
    match regIngress (r.addr i j) s with
    | some st => (st, 0, s)
    | none => (.done, regShown n i j s, regReadEffect n (r.flds i j) s)

/-- A register written through an object. -/
def regObjWrite (a : Agent) (n : RegName) (i j v : Nat) (s : State) : Status × State :=
  match regDesc n with
  | none => (.range, s)
  | some r =>
    match regIngress (r.addr i j) s with
    | some st => (st, s)
    | none => regWrite (objWriter a n) r i j v r.bits s

/-- One field of a register written through an object, the others as they stand. -/
def fldObjWrite (a : Agent) (n : RegName) (lo w i j v : Nat) (s : State) : Status × State :=
  if 2 ^ w ≤ v then (.range, s) else regObjWrite a n i j (putBits (rwWordOf n i j s) lo w v) s

/-! ### Levels and currents (R164, R180, R190) -/

/-! ### Reads -/

/-- A text padded with zero bytes to 16. -/
def text16 (t : String) : List Byte := (ascii t ++ List.replicate 16 0).take 16

/-- The registers of a pin table and of a generator image, with their byte offsets and sizes (R270). -/
def pinParts : List (RegName × Nat × Nat × Nat) := (List.range 512).map (fun p => (.SEQ_PIN, p, 4 * p, 4))
def genParts : List (RegName × Nat × Nat × Nat) :=
  (List.range 10).map (fun r => (.GEN, r, 4 * r, 4)) ++ (List.range 4).map (fun r => (.GEN_D, r, 0x40 + 8 * r, 8)) ++
  [(.GEN_TMASK, 0, 0x60, 8), (.GEN_TINV, 0, 0x68, 8)] ++ (List.range 8).map (fun r => (.GEN_DR, r, 0x80 + 8 * r, 8)) ++
  (List.range 24).map (fun r => (.GEN_SCR, r, 0x100 + 4 * r, 4))
def mapParts : List (RegName × Nat × Nat × Nat) := [(.FC_MAP_SEL, 0, 0, 8), (.FC_MAP_XY, 0, 8, 8), (.FC_MAP_SPILL, 0, 16, 8)]
def raParts : List (RegName × Nat × Nat × Nat) := [(.RA_DESC_SP, 0, 0, 8), (.RA_DESC_GEO, 0, 8, 8), (.RA_DESC_USER, 0, 16, 8)]

/-- Bytes of a list from an offset on replaced. -/
def putAt (at_ : Nat) (b l : List Byte) : List Byte := l.take at_ ++ b ++ l.drop (at_ + b.length)

/-- Registers of index `i` read as one object of `n` bytes. -/
def partsRead (parts : List (RegName × Nat × Nat × Nat)) (i n : Nat) (s : State) : Status × List Byte :=
  match parts.findSome? (fun p => (regDesc p.1).bind (fun r => regIngress (r.addr i p.2.1) s)) with
  | some st => (st, [])
  | none => (.done, parts.foldl (fun l p => putAt p.2.2.1 (toBytes p.2.2.2 (regShown p.1 i p.2.1 s)) l) (List.replicate n 0))

/-- Registers of index `i` written as one object: the first status that is not DONE answers, and then nothing changes. -/
def partsWrite (a : Agent) (parts : List (RegName × Nat × Nat × Nat)) (i : Nat) (b : List Byte) (s : State) : Status × State :=
  let x := parts.foldl (fun (t : Status × State) p =>
    if t.1 = .done then regObjWrite a p.1 i p.2.1 (ofBytes (slice p.2.2.1 p.2.2.2 b)) t.2 else t) (.done, s)
  (x.1, if x.1 = .done then x.2 else s)

/-- A record of the event ring as 32 bytes (R510). -/
def recordBytes (r : EvRec) : List Byte :=
  let data := r.items.flatMap (fun i => toBytes i.bytes i.value)
  toBytes 4 r.seq ++ toBytes 2 r.code ++ toBytes 1 ((if r.boot then 1 else 0) + (if r.trunc then 2 else 0)) ++ [0] ++ toBytes 8 r.stamp ++
    data ++ List.replicate (16 - data.length) 0

/-- The audit entry of a SEQ, if bank 15 can be read and holds it (R480). -/
def auditEntryOf (seq : Nat) (s : State) : Status × List Byte :=
  if !domOn 93 s then (.asleep, [])
  else
    let w := 16 * (seq % 4096)
    let e := (List.range 16).flatMap (fun i => toBytes 8 (spWord 15 (w + i) s))
    if s.cluster.bad.any (fun x => decide (65536 * 15 + w ≤ x) && decide (x < 65536 * 15 + w + 16)) then (.poison, [])
    else if seq < s.get AUD_SEQ_SEQ ∧ ofBytes (e.take 8) = seq ∧ (e.any (fun b => b != 0)) = true then (.done, e)
    else (.range, [])

/-- The bytes of an object that is not a number, of size `n`. -/
def specBytes (o : ObjSpec) (k m n : Nat) (sess : Option Nat) (s : State) : Status × List Byte × State :=
  let plain (b : List Byte) : Status × List Byte × State := (.done, b, s)
  let pure (x : Status × List Byte) : Status × List Byte × State := (x.1, x.2, s)
  match o with
  | .deviceName => plain (text16 "Chrotar 9")
  | .hwVersion => plain (text16 "ZC9-A1700-LQ")
  | .fwSvn => plain (text16 (Nat.repr s.boot.fwSvn))
  | .serial => plain (toBytes 16 Config.serial)
  | .fullDigest => plain (toBytes 64 s.boot.fullDigest)
  | .fwDigest => plain (toBytes 64 s.boot.fwDigest)
  | .ifwDigest => plain (toBytes 64 s.boot.ifwDigest)
  | .recordRead => if 512 ≤ s.edge.select % 65536 then (.range, [], s) else plain (readRecord s)
  | .pinTable => pure (partsRead pinParts k n s)
  | .genImage => pure (partsRead genParts k n s)
  | .mapDesc => pure (partsRead mapParts m n s)
  | .raDesc => pure (partsRead raParts (128 * k + m) n s)
  | .hbmData =>
    let x := hbmObject s.hbm.accAddr none s
    (x.1, x.2.1, { x.2.2 with hbm := { x.2.2.hbm with accStatus := x.1 } })
  | .challenge =>
    match sess with
    | some c => let x := newChallenge c s; (.done, x.1, x.2)
    | none => plain (List.replicate n 0)
  | .stage =>
    if !domOn 93 s then (.asleep, [], s)
    else match bank14Read 0 n s with
      | some b => plain b
      | none => (.poison, [], s)
  | .edition => plain (edBytes s.sec.editionSel 0 n s)
  | .report => plain (if s.sec.report.isEmpty then List.replicate n 0 else s.sec.report)
  | .publicKey => plain (idPublic s)
  | .auditHead => plain (audHead s)
  | .auditEntry => pure (auditEntryOf s.sec.auditSel s)
  | .ledgerRecord base => plain (ledgerRec (base + m) s)
  | .event =>
    match s.events.ring.find? (fun r => r.seq == spGet 0x500003 s.field.objs) with
    | some r => plain (recordBytes r)
    | none => (.range, [], s)
  | .candidate =>
    match s.leap.held[s.leap.select]? with
    | some c => plain (candidateBytes c)
    | none => (.range, [], s)
  | _ => plain (List.replicate n 0)

/-- The value of a PDO-mappable object in the last complete telemetry snapshot; before the first, what it shows at reset (R93). -/
def teleValue (d : ObjDesc) (k m key : Nat) (s : State) : Nat :=
  let v := spGet key s.clock.tele
  if v = 0 then objNow d k m key none State.reset else v - 1

/-- A PDO-mappable object whose chapter does not make its reading a snapshot shows its value as it stands: the profile result (R27)
and the clock and frame readings (R99). -/
def readsLive (d : ObjDesc) : Bool := d.idx == 0x2200 || (d.idx == 0x2000 && d.sub == 0x22)

/-- The domain whose registers an object that is no single register shows (R190, R209). -/
def specHome (o : ObjSpec) (k : Nat) (s : State) : Option Nat :=
  match o with
  | .level _ | .load _ | .forceV | .forceI | .clampI _ | .clampV _ => some (bankDom k)
  | .recordRead => some (bankDom (s.edge.select % 512))
  | _ => none

/-- A read of an object: status, bytes, and what the read changes. A domain that is not ON answers for its registers (R52). -/
def objRead (d : ObjDesc) (k m key : Nat) (sess : Option Nat) (s : State) : Status × List Byte × State :=
  if d.pdo && !readsLive d then (.done, toBytes d.size (teleValue d k m key s), s)
  else match d.bind with
    | .const v => (.done, toBytes d.size v, s)
    | .reg r x =>
      let y := regObjRead r (x.at_ k m).1 (x.at_ k m).2 s
      (y.1, if y.1 = .done then toBytes d.size y.2.1 else [], y.2.2)
    | .fld r lo w x =>
      let y := regObjRead r (x.at_ k m).1 (x.at_ k m).2 s
      (y.1, if y.1 = .done then toBytes d.size (shownAs d.kind d.size w (bits y.2.1 lo w)) else [], y.2.2)
    | .spec o =>
      match (specHome o k s).bind (fun n => domRefuses n s) with
      | some st => (st, [], s)
      | none =>
        if d.kind = .bytes then specBytes o k m d.size sess s
        else (.done, toBytes d.size (specNum o k m key sess s), s)

/-! ### The telemetry snapshot (R93) -/

/-- The snapshot of a frame is complete: what its tick captured, stamped with the frame of that tick. -/
def teleTake (frame : Nat) (s : State) : State :=
  { s with clock := { s.clock with tele := s.clock.teleCap, teleStamp := frame, teleDue := none, teleCap := [] } }

/-- TELEMETRY_SNAPSHOT (R89, R93): duty 6. -/
def execTelemetrySnapshot (s : State) : Out :=
  inDuty 6 anySlot s (fun t =>
    match t.clock.teleDue with
    | some f => ok (teleTake f t)
    | none => ok t)

/-! ### PDO mapping (R497, R498) -/

/-- A mapping or assignment entry, and the number of entries its sub-index 0 enables. -/
def mapEntry (idx e : Nat) (s : State) : Nat := spGet (256 * idx + e) s.field.objs
def mapCount (idx : Nat) (s : State) : Nat := spGet (256 * idx) s.field.objs

/-- The entries that a mapping object enables, and the bits they take. -/
def mapEntries (idx : Nat) (s : State) : List Nat := (List.range (mapCount idx s)).map (fun e => mapEntry idx (e + 1) s)
def entryBits (l : List Nat) : Nat := l.foldl (fun t e => t + e % 256) 0

/-- The entries of all the mapping objects that an assignment object assigns, in order. -/
def assigned (idx : Nat) (s : State) : List Nat := (mapEntries idx s).flatMap (fun k => mapEntries k s)

/-- An entry of a mapping is mappable (R497): a gap of 1 to 32 bits, or a PDO object with its own length, 1 bit for a BOOLEAN. -/
def entryMappable (e : Nat) : Bool :=
  let n := e % 256
  if e / 65536 = 0 then decide (1 ≤ n) && decide (n ≤ 32)
  else match findObj (e / 65536) (e / 256 % 256) with
    | none => false
    | some (d, _, _) => d.pdo && n == (if d.kind = .bool then 1 else 8 * d.size)

/-- The abort code of a status where the object names none of its own (R494). -/
def abortOf (st : Status) : Nat :=
  match st with
  | .done => 0
  | .range => 0x06090030
  | .denied => 0x06010000
  | .asleep => 0x08000022
  | .retry => 0x08000020
  | .fault => 0x08000000
  | .poison => 0x06060000
  | .timeout => 0x05040000

/-- A value kept for an object that no register holds. -/
def setObj (d key v : Nat) (s : State) : State := { s with field := { s.field with objs := spSetD d key v s.field.objs } }

/-- What a write of a mapping or assignment object leaves: the writer's role is the mapping role (R499). -/
def mapStore (a : Agent) (key v : Nat) (s : State) : State :=
  { setObj 0 key v s with field := { (setObj 0 key v s).field with mapRole := a.role.code } }

/-- The image of a direction stays within its limit (R498). -/
def imageFits (tx : Bool) (s : State) : Bool :=
  decide (ceilDiv (entryBits (assigned (if tx then 0x1C13 else 0x1C12) s)) 8 ≤ (if tx then 1400 else 256))

/-- A write of sub-index 0 of a mapping or assignment object checks every entry it enables (R498). -/
def mapEnable (a : Agent) (idx n : Nat) (s : State) : Status × Nat × State :=
  let t := mapStore a (256 * idx) n s
  let tx := idx == 0x1C13 || decide (0x1A00 ≤ idx ∧ idx < 0x1B00)
  if n = 0 then (.done, 0, t)
  else if mapCount idx s ≠ 0 ∨ (if isAssign idx then 16 else 32) < n then (.range, abortOf .range, s)
  else if !(mapEntries idx t).all (fun e => if isAssign idx then isMapping e && (decide (0x1A00 ≤ e) == tx) else entryMappable e) then
    (.range, 0x06040041, s)
  else if !imageFits tx t then (.range, 0x06040042, s)
  else (.done, 0, t)

/-- A write of a mapping or assignment object (R494, R498). -/
def mapWrite (a : Agent) (idx sub v : Nat) (s : State) : Status × Nat × State :=
  if s.get FI_STAT_AL_STATE ≠ 2 then (.range, 0x08000022, s)
  else if sub = 0 then mapEnable a idx v s
  else if mapCount idx s ≠ 0 then (.range, abortOf .range, s)
  else (.done, 0, mapStore a (256 * idx + sub) v s)

/-! ### Writes -/

/-- A value kept by key within bounds. -/
def boundWrite (d key lo hi v : Nat) (s : State) : Status × State := if v < lo ∨ hi < v then (.range, s) else (.done, setObj d key v s)

/-- A REAL32 converted to a code and written to a field of a Jet register. -/
def realWrite (a : Agent) (n : RegName) (lo k : Nat) (code : Option Nat) (s : State) : Status × State :=
  match code with
  | none => (.range, s)
  | some c => fldObjWrite a n lo 16 k 0 c s

/-- A sequencer command by its object (R270). -/
def seqCommand (a : Agent) (q v : Nat) (s : State) : Status × State :=
  let w := seqCtlNow q s
  match v with
  | 1 => regObjWrite a .SEQ_CTL q 0 (putBit w 29 true) s
  | 2 => regObjWrite a .SEQ_CTL q 0 (putBit w 30 true) s
  | 3 => regObjWrite a .SEQ_CTL q 0 (putBit w 31 true) s
  | 4 => regObjWrite a .SEQ_CTL q 0 (putBit w 28 true) s
  | 5 => regObjWrite a .SEQ_CTL q 0 (putBit w 28 false) s
  | _ => (.range, s)

/-- A signal-core command by its object (R343). -/
def scCommand (a : Agent) (c v : Nat) (s : State) : Status × State :=
  let w := s.get (SC_CTL_ENTRY c)
  match v with
  | 1 => regObjWrite a .SC_CTL c 0 (2 ^ 31 + w) s
  | 2 => regObjWrite a .SC_CTL c 0 (2 ^ 31 + 2 ^ 29 + w) s
  | 3 => regObjWrite a .SC_CTL c 0 (2 ^ 30 + s.get (SC_CTL_CLEAR c) * 2 ^ 29 + w) s
  | _ => (.range, s)

/-- A Sluice request by its object: the session keeps its status and ticket (R74). -/
def objSluice (a : Agent) (sess : Option Nat) (v : Nat) (s : State) : Status × State :=
  let r := wrSluReq a v s
  match sess with
  | none => r
  | some k =>
    (r.1, { r.2 with field := { r.2.field with
      sluStat := spSet k r.1.code r.2.field.sluStat
      sluTicket := if r.1 = .done then spSet k (spGet 49 r.2.power.ticket % 65536) r.2.field.sluTicket else r.2.field.sluTicket } })

/-- A write of 0x1011:0x01 (R496). -/
def objRestore (v : Nat) (s : State) : Status × State :=
  if v = 0x64616F6C then (.done, { s with field := { s.field with saved := [] } }) else (.range, s)

/-- A write of an object that is not a register: `v` its number, `b` its bytes. -/
def specWrite (a : Agent) (sess : Option Nat) (o : ObjSpec) (k m : Nat) (v : Nat) (b : List Byte) (s : State) : Status × State :=
  match o with
  | .restore => objRestore v s
  | .syncMode => if v = 0 ∨ v = 2 then (.done, setObj 0 0x1C3201 v s) else (.range, s)
  | .profileRequest => if v > 3 then (.range, s) else wrSysProfile a (65536 + v) s
  | .sluRequest => objSluice a sess v s
  | .sluRelease => sluRelease 49 v s
  | .warmRequest => objWarm a v s
  | .preferred => if v > 1 then (.range, s) else (.done, { s with boot := { s.boot with pref := v } })
  | .level f => realWrite a (levelPlace f).1 (levelPlace f).2 k (levelCode (s.on (JET_CFG_RANGE k)) v) s
  | .load f => realWrite a .JET_LOAD (16 * f) k (loadCode v) s
  | .forceV => realWrite a .JET_PMU_FORCE 0 k (levelCode true v) s
  | .forceI => realWrite a .JET_PMU_FORCE 16 k (currentCode k v s) s
  | .clampI high => realWrite a .JET_PMU_ICLAMP (if high then 16 else 0) k (currentCode k v s) s
  | .clampV high => realWrite a .JET_PMU_VCLAMP (if high then 16 else 0) k (levelCode true v) s
  | .clearBlocks => regObjWrite a .JET_STAT k 0 v s
  | .record => wrRecordObject a b s
  | .recordSelect => if 511 < v % 65536 ∨ 2 ^ 22 ≤ v then (.range, s) else (.done, { s with edge := { s.edge with select := v } })
  | .seqCommand => seqCommand a k v s
  | .pinTable => partsWrite a pinParts k b s
  | .genImage => partsWrite a genParts k b s
  | .mapDesc => partsWrite a mapParts m b s
  | .raDesc => partsWrite a raParts (128 * k + m) b s
  | .scCommand => scCommand a k v s
  | .hbmAddress => if v % 64 ≠ 0 ∨ hbmSize < v + 256 then (.range, s) else (.done, { s with hbm := { s.hbm with accAddr := v } })
  | .hbmData =>
    let x := hbmObject s.hbm.accAddr (some b) s
    (x.1, { x.2.2 with hbm := { x.2.2.hbm with accStatus := x.1 } })
  | .password => (match sess with | some c => operatorSignIn c b s | none => (.denied, s))
  | .keyResponse => (match sess with | some c => keySignIn c b s | none => (.denied, s))
  | .signOut => if v ≠ 1 then (.range, s) else (.done, match sess with | some c => endSession 0 c s | none => s)
  | .editionSelect => if v > 7 then (.range, s) else (.done, { s with sec := { s.sec with editionSel := v } })
  | .auditSelect => (.done, { s with sec := { s.sec with auditSel := v } })
  | .stage => objStage a b s
  | .commit => objCommit a sess v s
  | .ledgerAppend => objLedger a sess b s
  | .lifecycle => objLifecycle a sess v s
  | .consent => objConsent a v s
  | .nonce => attStart true sess b s
  | .idleLimit => boundWrite 600 0x450005 10 86400 v s
  | .eventSelect => (.done, setObj 0 0x500003 v s)
  | .leapRequest => objLeap a b s
  | .candidateSelect => (.done, { s with leap := { s.leap with select := v } })
  | .healthWindow => (.done, setObj 36000000 0x470030 v s)
  | .threshold => (.done, setObj (healthLimit (0x31 + m) State.reset) (0x470031 + m) v s)
  | _ => (.range, s)

/-- The effect of a write of an object whose bytes have its length: by number, after the kind's own check. -/
def objEffect (a : Agent) (sess : Option Nat) (d : ObjDesc) (k m : Nat) (b : List Byte) (s : State) : Status × State :=
  let v := ofBytes b
  if d.kind = .bool ∧ 1 < v then (.range, s)
  else match d.bind with
    | .const _ => (.range, s)
    | .reg r x => regObjWrite a r (x.at_ k m).1 (x.at_ k m).2 v s
    | .fld r lo w x =>
      let i := sext (8 * d.size) v
      if d.kind = .int then (if satInt w i = i then fldObjWrite a r lo w (x.at_ k m).1 (x.at_ k m).2 (wrap w i) s else (.range, s))
      else fldObjWrite a r lo w (x.at_ k m).1 (x.at_ k m).2 v s
    | .spec o => specWrite a sess o k m v b s

end Sys2Proof.Machine
end

