-- ==== Sys2Proof/Machine/Field.lean ====
section
/-! DEFINITION. The field interface (chapter 21): sessions, SDO, persistence, EtherCAT states, process data and file access. -/
namespace Sys2Proof.Machine

/-! ### Persistence (R495) and audited writes (R479) -/

/-- What changes in the field interface's own state. -/
def modField (f : FieldSt → FieldSt) (s : State) : State := { s with field := f s.field }

/-- The domain that holds the register behind an object. -/
def objHome (d : ObjDesc) (k m : Nat) (s : State) : Option Nat :=
  match d.bind with
  | .reg r x | .fld r _ _ x => (regDesc r).bind (fun e => regHome (e.addr (x.at_ k m).1 (x.at_ k m).2) s)
  | _ => none

/-- The written bytes fit the register or field behind the object, as far as its width tells. -/
def objFits (d : ObjDesc) (b : List Byte) : Bool :=
  match d.bind with
  | .fld _ _ w _ => if d.kind = .int then satInt w (sext (8 * d.size) (ofBytes b)) == sext (8 * d.size) (ofBytes b) else decide (ofBytes b < 2 ^ w)
  | _ => true

/-- A value stored in both copies of the flash-saved area, or FAULT and event 0x1205 when a copy does not verify. -/
def flashStore (key : Nat) (b : List Byte) (flashOk : Bool) (s : State) : Status × State :=
  if flashOk then (.done, modField (fun f => { f with saved := putKeyed key b f.saved }) s)
  else (.fault, raise 0x1205 [⟨2, key / 256⟩, ⟨1, key % 256⟩] s)

/-- A write of an object with its persistence: what a flash object's write saves, and when it takes effect (R495, R116). -/
def objPersist (a : Agent) (sess : Option Nat) (d : ObjDesc) (k m key : Nat) (b : List Byte) (flashOk : Bool) (s : State) : Status × State :=
  let now := objEffect a sess d k m b
  if d.save ≠ .flash ∨ d.bind = .spec .restore then now s
  else if d.bind = .spec .preferred then
    (if (now s).1 = .done ∧ !flashOk then (.fault, raise 0x1205 [⟨2, key / 256⟩, ⟨1, key % 256⟩] s) else now s)
  else
    let asleep := match objHome d k m s with | some n => !domOn n s | none => false
    if asleep = true then (if objFits d b then flashStore key b flashOk s else (.range, s))
    else
      let r := now s
      if r.1 = .done then flashStore key b flashOk r.2 else r

/-- The objects whose writes append their own audit entries (R479). -/
def auditsItself (d : ObjDesc) : Bool :=
  match d.bind with
  | .spec .stage | .spec .commit | .spec .ledgerAppend | .spec .lifecycle | .spec .consent | .spec .leapRequest => true
  | _ => false

/-- The write counts as one of a persistent object: it is one, or a save of the calibration record through 0x3500:0x13 (R228). -/
def persists (d : ObjDesc) (key : Nat) (b : List Byte) : Bool :=
  d.save != .volatile || (key == 256 * 0x3500 + 0x13 && ofBytes b == 1)

/-- A write of an object by a role that has the right, audited where R479 asks for it. -/
def objWrite (a : Agent) (sess : Option Nat) (d : ObjDesc) (k m key : Nat) (b : List Byte) (flashOk : Bool) (s : State) : Status × State :=
  let role := a.role.code
  let signer := match sess with | some c => spGet c s.sec.signer | none => signerOf a s
  if !auditsItself d && audited role (key / 256) (persists d key b) then
    auditWrite role key signer b (objPersist a sess d k m key b flashOk) s
  else objPersist a sess d k m key b flashOk s

/-- Saved values applied by firmware: those whose registers pass a test of their domain. -/
def applySaved (p : Option Nat → Bool) (s : State) : State :=
  forEach s.field.saved (fun x t =>
    match findObj (x.1 / 256) (x.1 % 256) with
    | some (d, k, m) => if p (objHome d k m t) then (objEffect ⟨0, .none⟩ none d k m x.2 t).2 else t
    | none => t) s

/-- Boot step 7: every saved value whose register is not in a domain that is away (R495). -/
def applyAllSaved (s : State) : State :=
  applySaved (fun h => match h with | some n => domOn n s | none => true) s

/-- A domain reaches ON: its saved values (R495). -/
def applyDomSaved (n : Nat) (s : State) : State := applySaved (fun h => h == some n) s

/-- DOMAIN_RAMP_END (R51): the domain is ON, with all that its raise brings. -/
def execDomainRampEnd (n : Fin 96) (s : State) : Out :=
  let t := raised n.val s
  whenOk (domState n.val s == dsRaising) s (if t.on BOOT_STAT_READY && domOn n.val t then applyDomSaved n.val t else t)

/-! ### SDO (R490 to R494) -/

/-- The answer of an SDO request, or none where the answer comes when an operation ends. -/
abbrev SdoAns := Option Resp × State

/-- A refusal with its abort code (R494). -/
def sdoRefuse (st : Status) (abort : Nat) (s : State) : SdoAns := (some ⟨st, abort, []⟩, s)

/-- An answer with the abort code that its status has. -/
def sdoAnswer (st : Status) (b : List Byte) (s : State) : SdoAns := (some ⟨st, abortOf st, if st = .done then b else []⟩, s)

/-- What an SDO finds at an index and sub-index: a refusal, sub-index 0 of an index with sub-indices, or an object. -/
inductive SdoFind where
  | refuse (abort : Nat)
  | count
  | obj (d : ObjDesc) (k m : Nat)
  deriving DecidableEq, Repr

/-- The index is checked first, then the sub-index (R494). -/
def sdoFind (idx sub : Nat) : SdoFind :=
  if !indexIn idx then .refuse 0x06020000
  else if sub = 0 ∧ highestSub idx ≠ 0 then .count
  else match findObj idx sub with
    | some (d, k, m) => .obj d k m
    | none => .refuse 0x06090011

/-- What sub-index 0 reads (R493, R508). -/
def subZero (idx : Nat) (s : State) : Nat := if isMapping idx || isAssign idx then mapCount idx s else highestSub idx

/-- A read by SDO of a session. -/
def sdoUpload (c idx sub : Nat) (s : State) : SdoAns :=
  match sdoFind idx sub with
  | .refuse x => sdoRefuse .range x s
  | .count => sdoAnswer .done (toBytes 1 (subZero idx s)) s
  | .obj d k m =>
    if !mayRead (roleOf (s.get (FI_SESS_ROLE c))) d idx sub then sdoAnswer .denied [] s
    else
      let x := objRead d k m (256 * idx + sub) (some c) s
      sdoAnswer x.1 x.2.1 x.2.2

/-- The length of a write agrees with the object (R493). -/
def lengthOk (d : ObjDesc) (n : Nat) : Bool := if d.bind = .spec .password then decide (8 ≤ n) && decide (n ≤ 64) else n == d.size

/-- The operation that an accepted write starts answers when it ends (R466, R473, R476, R478). -/
def answersLate (d : ObjDesc) : Bool :=
  match d.bind with
  | .spec .commit | .spec .ledgerAppend | .spec .lifecycle | .spec .nonce => true
  | _ => false

/-- A write of an object refused before it acts is audited with its status where R479 asks for it, when the ring can take the entry
(DEDUCED, notes/assumptions/56.md). -/
def auditRefused (role key signer : Nat) (d : ObjDesc) (st : Status) (b : List Byte) (s : State) : State :=
  if audited role (key / 256) (persists d key b) && domOn 93 s && !audBusy s then audAppend (bodyOf 1 role key st.code b.length b signer) s
  else s

/-- A write by SDO of a session. -/
def sdoDownload (c idx sub : Nat) (b : List Byte) (flashOk : Bool) (s : State) : SdoAns :=
  let a := sessAgent c s
  match sdoFind idx sub with
  | .refuse x => sdoRefuse .range x s
  | .count =>
    if !(isMapping idx || isAssign idx) then sdoRefuse .denied 0x06010002 s
    else if a.role = .none then sdoAnswer .denied [] s
    else if b.length ≠ 1 then sdoRefuse .range 0x06070010 s
    else let x := mapWrite a idx 0 (ofBytes b) s; (some ⟨x.1, x.2.1, []⟩, x.2.2)
  | .obj d k m =>
    let told (st : Status) : State := auditRefused a.role.code (256 * idx + sub) (spGet c s.sec.signer) d st b s
    if !d.acc.writable then sdoRefuse .denied 0x06010002 (told .denied)
    else if !mayWrite a.role d idx sub then sdoAnswer .denied [] (told .denied)
    else if !lengthOk d b.length then sdoRefuse .range 0x06070010 (told .range)
    else if isMapping idx || isAssign idx then let x := mapWrite a idx sub (ofBytes b) s; (some ⟨x.1, x.2.1, []⟩, x.2.2)
    else
      let x := objWrite a (some c) d k m (256 * idx + sub) b flashOk s
      if x.1 = .done && answersLate d then (none, x.2) else sdoAnswer x.1 [] x.2

/-- The bytes of an entry of a mapping or assignment object. -/
def entrySize (idx : Nat) : Nat := if isAssign idx then 2 else 4

/-- Complete access by read: sub-index 0, a byte of padding, the enabled entries (R493). -/
def sdoUploadAll (c idx : Nat) (s : State) : SdoAns :=
  if !indexIn idx then sdoRefuse .range 0x06020000 s
  else if !(isMapping idx || isAssign idx) || s.get (FI_SESS_ROLE c) == 0 then sdoAnswer .denied [] s
  else sdoAnswer .done (toBytes 1 (mapCount idx s) ++ [0] ++ (mapEntries idx s).flatMap (toBytes (entrySize idx))) s

/-- Complete access by write: the entries, then sub-index 0; all or nothing. -/
def sdoDownloadAll (c idx : Nat) (b : List Byte) (s : State) : SdoAns :=
  let a := sessAgent c s
  let n := ofBytes (b.take 1)
  let z := entrySize idx
  if !indexIn idx then sdoRefuse .range 0x06020000 s
  else if !(isMapping idx || isAssign idx) || a.role == .none then sdoAnswer .denied [] s
  else if b.length ≠ 2 + n * z then sdoRefuse .range 0x06070010 s
  else
    let x := (List.range n).foldl (fun (t : Status × Nat × State) e =>
      if t.1 = .done then mapWrite a idx (e + 1) (ofBytes (slice (2 + z * e) z b)) t.2.2 else t) (.done, 0, s)
    let y := if n > (if isAssign idx then 16 else 32) then (.range, abortOf .range, s)
      else if x.1 = .done then mapWrite a idx 0 n x.2.2 else x
    (some ⟨y.1, y.2.1, []⟩, if y.1 = .done then y.2.2 else s)

/-- The entry description: length in bits, the access of the asking session's role, the PDO flag (R493). -/
def sdoDescribe (c idx sub : Nat) (s : State) : SdoAns :=
  let role := roleOf (s.get (FI_SESS_ROLE c))
  match sdoFind idx sub with
  | .refuse x => sdoRefuse .range x s
  | .count => sdoAnswer .done (toBytes 2 8 ++ toBytes 2 (if (isMapping idx || isAssign idx) && role != .none then 0x3F else 0x07)) s
  | .obj d _ _ =>
    let r := mayRead role d idx sub
    let w := mayWrite role d idx sub
    let x := (if r then 7 else 0) + (if w then 0x38 else 0) + (if d.pdo && w then 0x40 else 0) + (if d.pdo && r then 0x80 else 0)
    sdoAnswer .done (toBytes 2 (if d.kind = .bool then 1 else 8 * d.size) ++ toBytes 2 x) s

/-- The answer goes out: the last answer, and the status that the session keeps while it is open (R492). -/
def sdoFinish (addr : Nat) (x : SdoAns) : State :=
  match x.1 with
  | none => x.2
  | some r =>
    let s := { x.2 with resp := r }
    match sessionOf addr s with
    | some c => { s with sec := { s.sec with status := spSet c r.status.code s.sec.status } }
    | none => s

/-- A refusal with RETRY (R490, R492). -/
def sdoRetry (s : State) : State := { s with resp := ⟨.retry, abortOf .retry, []⟩ }

/-- One request served. -/
def sdoServe (q : SdoReq) (s : State) : State :=
  match openSession q.addr s with
  | (none, t) => sdoRetry t
  | (some c, t) => sdoFinish q.addr (match q.req with
    | .upload i sub => sdoUpload c i sub t
    | .download i sub b => sdoDownload c i sub b q.flashOk t
    | .uploadAll i => sdoUploadAll c i t
    | .downloadAll i b => sdoDownloadAll c i b t
    | .describe i sub => sdoDescribe c i sub t)

/-- Firmware on core 0 or 1 runs and serves requests (R492, R513). -/
def fieldServed (s : State) : Bool :=
  s.get (CORE_STAT_STATE 0) == coreRun || (s.get (CORE_STAT_STATE 1) == coreRun && curProfile s != 3)

/-- Mailbox protocols other than FoE in BOOT need PRE-OP, SAFE-OP or OP. -/
def mailboxOpen (s : State) : Bool :=
  s.get FI_STAT_AL_STATE == 2 || s.get FI_STAT_AL_STATE == 4 || s.get FI_STAT_AL_STATE == 8

/-- Every waiting SDO request served, in order of arrival. -/
def sdoServeAll (s : State) : State :=
  if !fieldServed s then s
  else forEach s.field.sdo (fun q t => sdoServe q (modField (fun f => { f with sdo := f.sdo.drop 1 }) t)) s

/-- A request arrives: it opens a session, waits, and is served at once where firmware runs (R490, R492). -/
def sdoArrive (addr : Nat) (req : Sdo) (flashOk : Bool) (s : State) : State :=
  if !mailboxOpen s then s
  else match openSession addr s with
    | (none, t) => sdoRetry t
    | (some c, t) =>
      if 16 ≤ sdoHeld t then
        let u := raise 0x1203 [⟨2, addr⟩] (t.count FI_SDO_RETRIED 1)
        sdoRetry { u with sec := { u.sec with status := spSet c Status.retry.code u.sec.status } }
      else sdoServeAll (modField (fun f => { f with sdo := f.sdo ++ [⟨addr, req, flashOk⟩] }) t)

/-- SDO_REQUEST (R490 to R494). -/
def execSdoRequest (addr : Nat) (req : Sdo) (flashOk : Bool) (s : State) : Out := ok (sdoArrive (addr % 65536) req flashOk s)

/-- SIGN_OUT (R490): a write of 1 to 0x4500:0x03. -/
def execSignOut (addr : Nat) (s : State) : Out := ok (sdoArrive (addr % 65536) (.download 0x4500 0x03 (toBytes 1 1)) true s)

/-- CHALLENGE (R462): a read of 0x4500:0x10. -/
def execChallenge (addr : Nat) (s : State) : Out := ok (sdoArrive (addr % 65536) (.upload 0x4500 0x10) true s)

/-- OPERATOR_SIGN_IN (R461): a write of 0x4500:0x11. -/
def execOperatorSignIn (addr : Nat) (password : List Byte) (s : State) : Out :=
  ok (sdoArrive (addr % 65536) (.download 0x4500 0x11 password) true s)

/-- KEY_SIGN_IN (R462): a write of 0x4500:0x12. -/
def execKeySignIn (addr : Nat) (response : List Byte) (s : State) : Out :=
  ok (sdoArrive (addr % 65536) (.download 0x4500 0x12 response) true s)

/-- SESSION_IDLE_TIMEOUT (R490): the session of the address ends. -/
def execSessionIdleTimeout (addr : Nat) (s : State) : Out :=
  ok (match sessionOf addr s with | some c => endSession 1 c s | none => s)

/-- RESTORE_DEFAULTS (R496): a write of 0x1011:0x01 by an agent, audited as a persistent object's. -/
def execRestoreDefaults (a : Agent) (value : Nat) (s : State) : Out :=
  ok (answered (objIM a (fun t => auditWrite a.role.code 0x101101 (signerOf a t) (toBytes 4 value) (objRestore value) t) s))

/-! ### EtherCAT states (R487, R489, R499, R503) -/

/-- The rank of an EtherCAT state: INIT and BOOT, PRE-OP, SAFE-OP, OP. -/
def alRank (x : Nat) : Nat := if x = 2 then 1 else if x = 4 then 2 else if x = 8 then 3 else 0

/-- What entry to a state does: entry to INIT ends every session and drops the requests that wait, entry to SAFE-OP counts SM2 as
unwritten (R487, R490, R499, R501). -/
def alEnter (x : Nat) (s : State) : State :=
  let s := s.set FI_STAT_AL_STATE x
  if x = 1 then
    modField (fun f => { f with mapRole := 0, sm2 := none, sm2Seen := false, rx := none, rxLast := [], sdo := [], foe := [] }) (forNat 8 (endSession 2) s)
  else if x = 2 then modField (fun f => { f with sm2 := none, sm2Seen := false, rx := none, rxLast := [] }) s
  else if x = 4 then modField (fun f => { f with sm2 := none, sm2Seen := false, rx := none, rxLast := [] }) s
  else s

/-- An entry of an image may be mapped with the mapping role's rights (R499). -/
def entryAllowed (write : Bool) (e : Nat) (s : State) : Bool :=
  if e / 65536 = 0 then true
  else match findObj (e / 65536) (e / 256 % 256) with
    | some (d, _, _) => if write then d.acc.writes (roleOf s.field.mapRole) else d.acc.reads (roleOf s.field.mapRole)
    | none => false

/-- The checks from PRE-OP to SAFE-OP: an AL code, or 0 (R489, R499). -/
def safeOpCheck (sync0Ok : Bool) (s : State) : Nat :=
  if !(assigned 0x1C12 s).all (fun e => entryAllowed true e s) then 0x001D
  else if !(assigned 0x1C13 s).all (fun e => entryAllowed false e s) then 0x001E
  else if spGet 0x1C3201 s.field.objs = 2 ∧ !(s.get FRM_CTL_SRC == 1 && sync0Ok) then 0x0030
  else 0

/-- The AL code that a state request is refused with, or 0 when it is accepted (R487). -/
def alCheck (target : Nat) (mbxOk sync0Ok : Bool) (s : State) : Nat :=
  let cur := s.get FI_STAT_AL_STATE
  if target = cur then 0
  else if target ≠ 1 ∧ target ≠ 2 ∧ target ≠ 3 ∧ target ≠ 4 ∧ target ≠ 8 then 0x0011
  else if target = 3 then (if cur = 1 ∧ s.get BOOT_STAT_STAGE = 8 then 0 else 0x0011)
  else if alRank target < alRank cur ∨ target = 1 then 0
  else if cur = 1 ∧ target = 2 then (if mbxOk then 0 else 0x0016)
  else if cur = 2 ∧ target = 4 then safeOpCheck sync0Ok s
  else if cur = 4 ∧ target = 8 then (if s.field.sm2Seen then 0 else 0x001B)
  else 0x0011

/-- A state request decided. -/
def alDecide (target : Nat) (mbxOk sync0Ok : Bool) (s : State) : State :=
  let c := alCheck target mbxOk sync0Ok s
  let s := modField (fun f => { f with alPend := none }) s
  if c ≠ 0 then raise 0x1204 [⟨1, target⟩, ⟨2, c⟩] ((s.set FI_STAT_AL_ERR 1).set FI_STAT_AL_CODE c)
  else
    let cur := s.get FI_STAT_AL_STATE
    let s := s.set FI_STAT_AL_ERR 0
    if target = cur then s else alEnter target s

/-- AL_STATE_REQUEST (R487): before ready a request for PRE-OP from INIT waits. -/
def execAlStateRequest (target : Nat) (mbxOk sync0Ok : Bool) (s : State) : Out :=
  ok (if target = 2 ∧ s.get FI_STAT_AL_STATE = 1 ∧ !s.on BOOT_STAT_READY then
      modField (fun f => { f with alPend := some (target, mbxOk, sync0Ok) }) s
    else alDecide target mbxOk sync0Ok s)

/-- A request that waited for ready is decided at ready. -/
def alReady (s : State) : State :=
  match s.field.alPend with
  | some (t, m, y) => alDecide t m y s
  | none => s

/-- SM_WATCHDOG_EXPIRY (R503). -/
def execSmWatchdogExpiry (s : State) : Out :=
  whenOk (s.get FI_STAT_AL_STATE == 8) s (raise 0x1206 [frameItem s] ((alEnter 4 s).set FI_STAT_AL_CODE 0x001B))

/-- ECAT_PORT_LINK: a port's link. None comes up before the fallback oscillator has started (R44). -/
def execEcatPortLink (port : Fin 2) (up : Bool) (s : State) : Out :=
  ok (s.set (if port.val = 0 then FI_STAT_LINK0 else FI_STAT_LINK1) (if up && oscillatorStarted s then 1 else 0))

/-! ### Process data (R497 to R502) -/

/-- SM2_IMAGE_WRITE (R487, R503): the master writes the outputs; a buffer is whole at the mapped length. -/
def execSm2ImageWrite (image : List Byte) (s : State) : Out :=
  whenOk ((s.get FI_STAT_AL_STATE == 4 || s.get FI_STAT_AL_STATE == 8) && image.length == ceilDiv (entryBits (assigned 0x1C12 s)) 8) s
    (modField (fun f => { f with sm2 := some image, sm2Seen := true }) s)

/-- The value of a mapped entry in the last snapshot; a gap is 0. -/
def entryValue (e : Nat) (s : State) : Nat :=
  match findObj (e / 65536) (e / 256 % 256) with
  | some (d, k, m) => if e / 65536 = 0 then 0 else teleValue d k m (e / 256) s
  | none => 0

/-- The TxPDO image: the entries packed in order, the first at bit 0 (R497, R500). -/
def txImage (s : State) : List Byte :=
  let p := (assigned 0x1C13 s).foldl (fun (t : Nat × Nat) e => (t.1 + entryValue e s % 2 ^ (e % 256) * 2 ^ t.2, t.2 + e % 256)) (0, 0)
  toBytes (ceilDiv p.2 8) p.1

/-- TXPDO_PUBLISH (R500): the image of the frame is complete in SM3. -/
def execTxpdoPublish (s : State) : Out :=
  inDuty 0 anySlot s (fun s =>
    whenOk (s.clock.processDue && (s.get FI_STAT_AL_STATE == 4 || s.get FI_STAT_AL_STATE == 8)) s
      { modField (fun f => { f with tx := txImage s }) s with clock := { s.clock with processDue := false } })

/-- One entry of an RxPDO image is applied, if its value differs from the value last applied from it (R501). -/
def rxEntry (img : Nat) (at_ e lo : Nat) (s : State) : State :=
  let v := bits img lo (e % 256)
  if e / 65536 = 0 ∨ spGet at_ s.field.rxLast = v + 1 then s
  else match findObj (e / 65536) (e / 256 % 256) with
    | none => s
    | some (d, k, m) =>
      let s := modField (fun f => { f with rxLast := spSet at_ (v + 1) f.rxLast }) s
      let a : Agent := ⟨49, roleOf s.field.mapRole⟩
      if d.acc.writes a.role then { (objWrite a none d k m (e / 256) (toBytes d.size v) true s).2 with resp := s.resp } else s

/-- The newest SM2 image is taken, once a frame, in the first slot of duty 0 at or after slot 32, and after any image
still being applied is finished (R501, R502). -/
def rxTake (s : State) : State :=
  if s.field.rx.isSome || s.field.rxTaken || decide (s.clock.slot < 32) then s
  else modField (fun f => { f with rx := f.sm2.map (fun b => (b, 0)), sm2 := none, rxTaken := true }) s

/-- The next entry of the image being applied; where there is none, the newest SM2 image is taken first (R501, R502). -/
def rxStep (s : State) : State :=
  let l := assigned 0x1C12 s
  let s := rxTake s
  match s.field.rx with
  | none => s
  | some (b, n) =>
    let t := match l[n]? with
      | some e => rxEntry (ofBytes b) n e (entryBits (l.take n)) s
      | none => s
    modField (fun f => { f with rx := if n + 1 < l.length then some (b, n + 1) else none }) t

/-- A new image is taken from slot 32 on; one being applied goes on in any slot of the duty (R501, R502). -/
def rxSlot (s : State) (k : Nat) : Bool := s.field.rx.isSome || s.field.rxTaken || decide (32 ≤ k)

/-- RXPDO_APPLY (R501): so many entries, in OP. -/
def execRxpdoApply (entries : Nat) (s : State) : Out :=
  inDuty 0 (rxSlot s) s (fun t => whenOk (t.get FI_STAT_AL_STATE == 8) t (forNat entries (fun _ u => rxStep u) t))

/-- Duty 0 at a tick (R502): an image not published, or one not fully applied, is an overrun; a new image is due. -/
def fieldTick (frame : Nat) (s : State) : State :=
  let runs := s.get FI_STAT_AL_STATE == 4 || s.get FI_STAT_AL_STATE == 8
  let s := if runs && (s.clock.processDue || s.field.rx.isSome) then raise 0x0121 [⟨6, frame⟩] (s.count (FRM_OVR_COUNT 0) 1) else s
  { modField (fun f => { f with rxTaken := false }) s with clock := { s.clock with processDue := runs } }

/-! ### File access (R504 to R507) -/

/-- A flash slot by its file: offset, size, KIND, and the mark that its copy in HBM bears. -/
def foeSlot (f : FoeFile) : Option (Nat × Nat × Nat × Option Nat) :=
  match f with
  | .fwA => some (0x00100000, 0x1000000, 2, none)
  | .fwB => some (0x01100000, 0x1000000, 2, none)
  | .ifw => some (0x02100000, 0x1000000, 3, none)
  | .primary => some (primaryFlash, fullSize, 0, some 16)
  | .golden => some (goldenFlash, fullSize, 0, none)
  | .region n => some (regionFlash n.val, slotSize, 1, some n.val)
  | _ => none

/-- A slot is in use (R106): the running maker firmware's, the installer's while core 2 or 3 runs, the one that the fabric was loaded
from. -/
def slotInUse (f : FoeFile) (s : State) : Bool :=
  match f with
  | .fwA => s.get BOOT_STAT_FW_SLOT == 0
  | .fwB => s.get BOOT_STAT_FW_SLOT == 1
  | .ifw => [2, 3].any (fun c => s.get (CORE_STAT_STATE c) == coreRun || s.get (CORE_STAT_STATE c) == coreHalt)
  | .primary => s.get BOOT_STAT_FABRIC == 1
  | .golden => s.get BOOT_STAT_FABRIC == 2
  | _ => false

/-- The kind of a file in event 0x1207. -/
def fileKind (f : FoeFile) : Nat :=
  match f with
  | .fwA => 0 | .fwB => 1 | .ifw => 2 | .primary => 3 | .golden => 4 | .region n => 16 + n.val
  | .hbm _ _ => 5 | .sc c => 64 + c.val | .events => 6 | .audit => 7 | .other => 255

/-- The roles of R504 for a file. -/
def foeRole (f : FoeFile) (write : Bool) (r : Role) : Bool :=
  match f, write with
  | .fwA, true | .fwB, true => r == .maker
  | .ifw, true | .primary, true | .golden, true | .region _, true | .hbm _ _, true | .sc _, true => r == .installer || r == .maker
  | .hbm _ _, false | .events, false | .audit, false => r != .none
  | _, _ => false

/-- A transfer ends: its status, its FoE error code (0 none) and data, and event 0x1207. -/
def foeEnd (f : FoeFile) (st : Status) (code n : Nat) (b : List Byte) (s : State) : State :=
  { raise 0x1207 [⟨1, fileKind f⟩, ⟨1, st.code⟩, ⟨8, n⟩] s with resp := ⟨st, code, b⟩ }

/-- The name of a status, as FoE error text. -/
def statusText : Status → List Byte
  | .done => ascii "DONE" | .fault => ascii "FAULT" | .asleep => ascii "ASLEEP" | .poison => ascii "POISON"
  | .denied => ascii "DENIED" | .range => ascii "RANGE" | .retry => ascii "RETRY" | .timeout => ascii "TIMEOUT"

/-- The name of a failure code of R108, as FoE error text. -/
def imageText (c : Nat) : List Byte :=
  if c = 1 then ascii "FLASH" else if c = 2 then ascii "MAGIC" else if c = 3 then ascii "FORMAT" else if c = 4 then ascii "KIND"
  else if c = 5 then ascii "IDENTITY" else if c = 6 then ascii "KEY" else if c = 7 then ascii "SVN" else if c = 8 then ascii "SIGNATURE"
  else if c = 9 then ascii "DIGEST" else if c = 10 then ascii "BOUNDS" else if c = 11 then ascii "HBM" else ascii "EMPTY"

/-- An access that failed ends the transfer: 0x8002 when denied, else 0x8000 with the status's name (R506). -/
def foeFail (f : FoeFile) (st : Status) (n : Nat) (s : State) : State :=
  foeEnd f st (if st = .denied then 0x8002 else 0x8000) n (statusText st) s

/-- A slot erased. -/
def slotErase (base size : Nat) (s : State) : State := { s with flash := memErase base (base + size) s.flash }

/-- A write of a flash slot that is not in use (R505): erase, program, checks 1 to 9. -/
def slotWrite (f : FoeFile) (base size kind : Nat) (mark : Option Nat) (b : List Byte) (flashOk : Bool) (s : State) : State :=
  let s := slotErase base size s
  if size < b.length then foeEnd f .range 0x8003 b.length [] s
  else
    let t := { s with flash := memWrite 0xFF base b s.flash }
    let c := verifyImage kind size flashOk (flashImg base t) t
    if c ≠ 0 then foeEnd f .fault 0x800B b.length (imageText c) (imageRefused kind base c (slotErase base size t))
    else foeEnd f .done 0 b.length [] (match mark with
      | some 16 => { setMark 16 false t with boot := { t.boot with staged := 0 } }
      | some n => setMark n false t
      | none => t)

/-- Bytes written to HBM from a line on, as they arrive: whole lines, then the part of a last line by byte enables (R506). -/
def foeHbmWrite (addr : Nat) (b : List Byte) (s : State) : Status × State :=
  let n := b.length / 64
  let r := b.length % 64
  let x := nocSave 49 addr n b s
  if x.1 ≠ .done ∨ r = 0 then x
  else if hbmDenies 49 (addr + 64 * n) 64 true then (.denied, x.2)
  else match pairRefusesAt (addr + 64 * n) 1 x.2 with
    | some st => (st, x.2)
    | none => hbmPutLine 49 (addr / 64 + n) (2 ^ r - 1) (b.drop (64 * n) ++ List.replicate (64 - r) 0) x.2

/-- Words written to a core's program memory from word 0 on; the first refusal ends it. -/
def foeScWrite (a : Agent) (c : Nat) (b : List Byte) (s : State) : Status × State :=
  (List.range (ceilDiv b.length 4)).foldl (fun (t : Status × State) w =>
    if t.1 = .done then scHostWrite a c 0 w (ofBytes (slice (4 * w) 4 b)) t.2 else t) (.done, s)

/-- A write by FoE of a role that has the right (R505, R506). -/
def foeWrite (a : Agent) (f : FoeFile) (b : List Byte) (flashOk : Bool) (s : State) : State :=
  match f with
  | .hbm addr len =>
    if addr % 64 ≠ 0 ∨ hbmSize < addr + len then foeEnd f .range 0x8004 0 [] s
    else
      let x := foeHbmWrite addr (b.take len) s
      if x.1 ≠ .done then foeFail f x.1 b.length x.2
      else if len < b.length then foeEnd f .range 0x8004 len [] x.2
      else foeEnd f .done 0 b.length [] x.2
  | .sc c =>
    if 0x10000 < b.length then foeEnd f .range 0x8003 0 [] s
    else match domRefuses (scDom c.val s) s with
      | some st => foeFail f st 0 s
      | none =>
        if !scIdle c.val s then foeEnd f .range 0x8002 0 [] s
        else
          let x := foeScWrite a c.val b s
          if x.1 = .done then foeEnd f .done 0 b.length [] x.2 else foeFail f x.1 b.length x.2
  | _ =>
    match foeSlot f with
    | some (base, size, kind, mark) =>
      if slotInUse f s then foeEnd f .denied 0x8002 0 [] s else slotWrite f base size kind mark b flashOk s
    | none => foeEnd f .denied 0x8002 0 [] s

/-- Every audit entry that the ring holds, oldest first (R504). -/
def auditRing (s : State) : List Byte :=
  let n := s.get AUD_SEQ_SEQ
  (List.range (min n 4096)).flatMap (fun i => (auditEntryOf (n - min n 4096 + i) s).2)

/-- A read by FoE of a role that has the right (R504, R506). -/
def foeRead (f : FoeFile) (s : State) : State :=
  match f with
  | .hbm addr len =>
    if addr % 64 ≠ 0 ∨ hbmSize < addr + len then foeEnd f .range 0x8004 0 [] s
    else
      let x := nocLoad 49 addr (ceilDiv len 64) s
      if x.1 = .done then foeEnd f .done 0 len (x.2.1.take len) x.2.2 else foeFail f x.1 0 x.2.2
  | .events => let b := s.events.ring.flatMap recordBytes; foeEnd f .done 0 b.length b s
  | .audit =>
    if !domOn 93 s then foeFail f .asleep 0 s
    else let b := auditRing s; foeEnd f .done 0 b.length b s
  | _ => foeEnd f .denied 0x8002 0 [] s

/-- One transfer served: name, password, role, then the access (R491, R504). -/
def foeServe (q : FoeReq) (s : State) : State :=
  match openSession q.addr s with
  | (none, t) => { t with resp := ⟨.retry, 0x8000, statusText .retry⟩ }
  | (some c, t) =>
    let a := sessAgent c t
    if q.file = .other then foeEnd q.file .range 0x8001 0 [] t
    else if q.password ≠ 0 ∨ !foeRole q.file q.data.isSome a.role then foeEnd q.file .denied 0x8002 0 [] t
    else match q.data with
      | some b => foeWrite a q.file b q.flashOk t
      | none => foeRead q.file t

/-- Every waiting transfer served. -/
def foeServeAll (s : State) : State :=
  if !fieldServed s then s
  else forEach s.field.foe (fun q t => foeServe q (modField (fun f => { f with foe := f.foe.drop 1 }) t)) s

/-- A transfer arrives in PRE-OP, SAFE-OP or OP. -/
def foeArrive (q : FoeReq) (s : State) : State :=
  if !mailboxOpen s then s else foeServeAll (modField (fun f => { f with foe := f.foe ++ [q] }) s)

/-- A write in the Bootstrap state, served by the boot ROM (R507). -/
def foeBoot (f : FoeFile) (password : Nat) (b : List Byte) (flashOk : Bool) (s : State) : State :=
  match f, foeSlot f with
  | .fwA, some (base, size, kind, _) | .fwB, some (base, size, kind, _) =>
    if password ≠ 0 then foeEnd f .denied 0x8002 0 [] s else slotWrite f base size kind none b flashOk s
  | _, _ => foeEnd f .range 0x8001 0 [] s

/-- The slave is in BOOT. -/
def inBoot (s : State) : Bool := s.get FI_STAT_AL_STATE == 3

/-- FOE_WRITE (R504 to R506). -/
def execFoeWrite (addr : Nat) (file : FoeFile) (password : Nat) (data : List Byte) (flashOk : Bool) (s : State) : Out :=
  ok (if inBoot s then foeBoot file password data flashOk s else foeArrive ⟨addr % 65536, file, password, some data, flashOk⟩ s)

/-- FOE_READ (R504, R506). -/
def execFoeRead (addr : Nat) (file : FoeFile) (password : Nat) (s : State) : Out :=
  ok (if inBoot s then foeEnd file .range 0x8001 0 [] s else foeArrive ⟨addr % 65536, file, password, none, true⟩ s)

/-- FOE_BOOTSTRAP_WRITE (R507). -/
def execFoeBootstrapWrite (slotB : Bool) (password : Nat) (data : List Byte) (flashOk : Bool) (s : State) : Out :=
  whenOk (inBoot s) s (foeBoot (if slotB then .fwB else .fwA) password data flashOk s)

end Sys2Proof.Machine
end

