-- ==== Sys2Proof/Machine/Boot.lean ====
section
/-! DEFINITION. Boot (R110 to R114): seven steps, each ended by a BOOT_STEP_END, with images verified where R108 says. -/
namespace Sys2Proof.Machine

/-- A field of BOOT_STAT written. -/
def bootSet (f : Fld) (v : Nat) (s : State) : State := s.set f v

/-- The flash offset of maker firmware slot A (0) or B (1), and of the installer slot (R105). -/
def makerFlash (slot : Nat) : Nat := 0x00100000 + 0x1000000 * slot
def ifwFlash : Nat := 0x02100000

/-- A firmware slot checked in place (R108): the failure code; a refusal raises event 0x0401. -/
def firmwareCheck (kind base : Nat) (bad : List Nat) (s : State) : Nat × State :=
  let c := verifyImage kind 0x1000000 (decide (base ∉ bad)) (flashImg base s) s
  (c, if c = 0 then s else imageRefused kind base c s)

/-- Domains raised by ordinary requests; those refused are placed again from the next tick on (R112, R566). -/
def bootRequest (l : List Nat) (s : State) : State :=
  let r := targetOn l 0 s
  if r.1 = .done then r.2 else forEach l (fun n t => raiseNextTick n 0 t) (setTargets l tgtOn r.2)

/-! ### Steps -/

/-- Step 1 ends: the newest valid edition is selected and the ledger applied (R110, R472, R476). -/
def bootAlmanac (s : State) : State :=
  let s := ledgerApply (secBoot s)
  bootSet BOOT_STAT_STAGE 2 (bootSet BOOT_STAT_ALMANAC (s.get SEC_STAT_EDITION) s)

/-- Maker firmware starts from a slot: cores 0 and 1, and the domains ON from then on (R110, R114). -/
def makerStarts (slot : Nat) (s : State) : State :=
  let rd := flashImg (makerFlash slot) s
  let s := { s with boot := { s.boot with fwDigest := imgDigest rd, fwSvn := imgField rd 0x20 4 } }
  bootRaise [82, 83, 86, 93, 94] (forNat 2 (fun c t => if domOn (82 + c) t then coreBegin c t else t) (bootSet BOOT_STAT_FW_SLOT slot s))

/-- Step 4 begins: the saved BXOR of HBM_CFG after a COLD reset, then the HBM pair is raised (R112, R113, R344). -/
def hbmStep (s : State) : State :=
  let b := ofBytes (keyed 0x400003 s.field.saved)
  let s := if !s.on BOOT_STAT_WARM && !(keyed 0x400003 s.field.saved).isEmpty then s.set HBM_CFG_BXOR (HBM_CFG_BXOR.of b) else s
  bootSet BOOT_STAT_STAGE 4 (bootRequest [64, 65] s)

/-- Neither maker slot passes: the EtherCAT Bootstrap state (R111). -/
def bootstrap (s : State) : State := (bootSet BOOT_STAT_STAGE 8 s).set FI_STAT_AL_STATE 3

/-- Step 3 ends: the preferred maker firmware, else the other slot (R110, R111). -/
def bootMaker (bad : List Nat) (s : State) : State :=
  let p := s.boot.pref
  let x := firmwareCheck 2 (makerFlash p) bad s
  if x.1 = 0 then hbmStep (makerStarts p x.2)
  else
    let y := firmwareCheck 2 (makerFlash (1 - p)) bad (bootSet BOOT_STAT_DEGRADED 1 (bootSet BOOT_STAT_FW_ERR x.1 x.2))
    if y.1 = 0 then hbmStep (makerStarts (1 - p) (raise 0x0152 [⟨1, p⟩, ⟨1, x.1⟩] y.2)) else bootstrap y.2

/-- A full image's loads begin (R110, R112): its regions' domains are raised, the loader takes its areas, the static one first. -/
def loadsBegin (which fabric : Nat) (s : State) : State :=
  let rd := hbmImg fullCache s
  let regions := (imgAreas rd).filter (fun r => decide (r < 16))
  let s := { bootSet BOOT_STAT_FABRIC fabric s with
    boot := { s.boot with loading := which, fullDigest := imgDigest rd, fullSvn := imgField rd 0x20 4 } }
  let s := forNat 17 (fun r t =>
    let t := t.set (REG_STAT_ERR r) 0
    if t.get (REG_STAT_STATE r) ≠ regInvalid ∧ r ∉ imgAreas rd then regionInvalid r t else t) s
  let s := forEach (regions.filter (fun r => !domOn r s && !raiseWaits r s)) (fun r t => bootRequest [r] t) s
  let l := regions.map (fun r => (⟨4, 0, r, 63⟩ : LdrReq))
  if 16 ∈ imgAreas rd then dispatch ⟨4, 0, 16, 63⟩ l s else modLdr (fun x => { x with queue := l }) s

/-- No full image runs: every area is isolated and INVALID (R111). -/
def noImage (s : State) : State :=
  forNat 17 (fun r t => if t.get (REG_STAT_STATE r) = regInvalid then t else regionInvalid r t)
    { bootSet BOOT_STAT_FABRIC 0 s with boot := { s.boot with loading := 3, fullDigest := 0, fullSvn := 0 } }

/-- The golden image, after the primary failed with a code (R111). -/
def goldenStep (code : Nat) (bad : List Nat) (s : State) : State :=
  let s := bootSet BOOT_STAT_DEGRADED 1 (bootSet BOOT_STAT_PRIMARY_ERR code s)
  let x := stageImage 16 0 goldenFlash fullSize (decide (goldenFlash ∉ bad)) s
  if x.1 = 0 then loadsBegin 2 2 x.2 else noImage (bootSet BOOT_STAT_GOLDEN_ERR x.1 x.2)

/-- The primary image from flash (R110). -/
def primaryFromFlash (bad : List Nat) (s : State) : State :=
  let x := stageImage 16 0 primaryFlash fullSize (decide (primaryFlash ∉ bad)) s
  if x.1 = 0 then loadsBegin 1 1 x.2 else goldenStep x.1 bad x.2

/-- The checks of R108 on the copy of the primary image that the staging area holds; a copy that does not read whole fails the last,
DIGEST (DEDUCED, notes/assumptions/21.md). -/
def cachedCode (s : State) : Nat :=
  let c := imageChecks 0 fullSize (hbmImg fullCache s) s
  if c = 0 ∧ !copySound 16 fullSize s then 9 else c

/-- The primary image: after a WARM reset the copy held in the HBM image cache, if there is one and it passes; a copy that fails is refused
as R108 says, and the flash is read (R110, R113). -/
def primaryStep (bad : List Nat) (s : State) : State :=
  if s.on BOOT_STAT_WARM ∧ s.get HBM_STAT_STATE = hbmReady ∧ s.boot.staged = 1 then
    let c := cachedCode s
    if c = 0 then loadsBegin 4 3 (setMark 16 true s)
    else primaryFromFlash bad (imageRefused 0 primaryFlash c (bootSet BOOT_STAT_PRIMARY_ERR c s))
  else primaryFromFlash bad s

/-- Step 4 ends: the HBM is trained, or its training has failed; step 5 begins, if an edition is selected (R110, R111). -/
def bootHbm (bad : List Nat) (s : State) : State :=
  let s := bootSet BOOT_STAT_STAGE 5 s
  if s.get BOOT_STAT_ALMANAC = 15 then noImage s else primaryStep bad s

/-- The failure code of the loads of step 5: that of the first area that failed. -/
def loadsCode (s : State) : Nat := ((List.range 17).map (fun r => s.get (REG_STAT_ERR r))).find? (fun c => c != 0) |>.getD 0

/-- The loader has nothing left. -/
def loaderIdle (s : State) : Bool := s.ldr.job.isNone && s.ldr.queue.isEmpty

/-- Step 5 ends: the image is loaded, with event 0x0151 when it is the golden one; or the cached primary failed and the flash is read, or
the primary failed and the golden image loads; or that failed too (R111, R113). -/
def bootFabric (bad : List Nat) (s : State) : State :=
  let c := loadsCode s
  if s.boot.loading = 4 ∧ c ≠ 0 then primaryFromFlash bad (bootSet BOOT_STAT_PRIMARY_ERR c s)
  else if s.boot.loading = 1 ∧ c ≠ 0 then goldenStep c bad s
  else if s.boot.loading = 2 ∧ c ≠ 0 then bootSet BOOT_STAT_STAGE 6 (noImage (bootSet BOOT_STAT_GOLDEN_ERR c s))
  else bootSet BOOT_STAT_STAGE 6 (if s.boot.loading = 2 then raise 0x0151 [⟨1, s.get BOOT_STAT_PRIMARY_ERR⟩] s else s)

/-- Step 6 ends: the installer firmware (R110, R111). -/
def bootInstaller (bad : List Nat) (s : State) : State :=
  let s := bootSet BOOT_STAT_STAGE 7 s
  if s.get BOOT_STAT_ALMANAC = 15 then s
  else
    let x := firmwareCheck 3 ifwFlash bad s
    if x.1 = 0 then
      bootRaise [84, 85] { bootSet BOOT_STAT_IFW 1 x.2 with boot := { x.2.boot with ifwDigest := imgDigest (flashImg ifwFlash x.2) } }
    else if x.1 = 12 then x.2
    else raise 0x0153 [⟨1, x.1⟩] (bootSet BOOT_STAT_IFW 2 x.2)

/-- Held events enter the ring in the order raised (R113, R510). -/
def deliverHeld (s : State) : State :=
  { s with events := forRing s.events.held { s.events with held := [] } }
where
  /-- Each takes the next SEQ. -/
  forRing : List EvRec → EventSt → EventSt
    | [], e => e
    | r :: l, e => forRing l (ringPush { r with seq := e.seq } e)

/-- Step 7 ends: saved objects and the calibration record are applied, and firmware is ready (R110, R113, R230, R401, R495). -/
def bootReady (s : State) : State :=
  let s := applyAllSaved s
  let s := forNat 18 (fun x t => (wrArbCtl ⟨0, .none⟩ x (rwWordOf .ARB_CTL x 0 t + 1) t).2) s
  let s := weirBoot s
  let s := if domOn 93 s then audRestart s else s
  let s := deliverHeld (bootSet BOOT_STAT_READY 1 (bootSet BOOT_STAT_ELAPSED_MS (min 65535 s.bootMs) s))
  alReady (raise 0x0150 [⟨8, readFlds BOOT_STAT_fields s⟩] s)

/-- The domains that boot has raised from the base reserve are ON, but for one that has been lowered since (R114). -/
def bootDomains (s : State) : Bool := (List.range 13).all (fun i => s.get (PWR_DOM_CTL_TARGET (82 + i)) != tgtOn || domOn (82 + i) s)

/-- The march of step 3 has ended (R442), but over a pair that has been lowered since. -/
def marched (s : State) : Bool := [86, 93].all (fun n => s.get (PWR_DOM_CTL_TARGET n) != tgtOn || domOn n s) && !s.on SP_MARCH_GO

/-- The step in progress can end: no reset is low; step 2 waits for the MEMS oscillator to be stable, step 3 for core 0 and its march,
step 4 for the HBM, step 5 for the loader, and step 7 for the domains that boot has raised (R110). -/
def bootMayEnd (s : State) : Bool :=
  let g := s.get BOOT_STAT_STAGE
  !s.pins.porstLow && !s.pins.srstLow && s.power.vin == .on && !s.on BOOT_STAT_READY && decide (1 ≤ g) && decide (g ≤ 7) &&
    (g != 2 || srcOk 0 s) && (g != 3 || (domOn 82 s && marched s)) &&
    (g != 4 || (pairOn s && (s.get HBM_STAT_STATE == hbmReady || s.get HBM_STAT_STATE == hbmFailed))) && (g != 5 || loaderIdle s) &&
    (g != 7 || bootDomains s)

/-- The step in progress ends. -/
def bootStep (bad : List Nat) (s : State) : State :=
  match s.get BOOT_STAT_STAGE with
  | 1 => bootAlmanac s
  | 2 => stepThree (bootSet BOOT_STAT_STAGE 3 s)
  | 3 => bootMaker bad s
  | 4 => bootHbm bad s
  | 5 => bootFabric bad s
  | 6 => bootInstaller bad s
  | _ => bootReady s

/-- BOOT_STEP_END (R110): `elapsedMs` since the release of the reset; `bad` the flash offsets of the slots in which a read finds an
uncorrectable error. -/
def execBootStepEnd (elapsedMs : Nat) (bad : List Nat) (s : State) : Out := whenOk (bootMayEnd s) s (bootStep bad { s with bootMs := elapsedMs })

end Sys2Proof.Machine
end

