-- ==== Sys2Proof/Machine/Tick.lean ====
section
/-! DEFINITION. What a frame tick does in every subsystem (R84 to R93), and the commands that bring one. -/
namespace Sys2Proof.Machine

/-- Duty 6 at a tick (R93): a snapshot still due is an overrun, completes late with its own stamp, and the new frame's is skipped. -/
def teleTick (s : State) : State :=
  match s.clock.teleDue with
  | some f => raise 0x0112 [⟨6, f⟩] (s.count (FRM_OVR_COUNT 6) 1)
  | none => s

/-- The values of a tick's snapshot are captured with its work done, unless an older snapshot is still due; each FRESH bit is captured
and then cleared (R93, R334). -/
def teleCapture (s : State) : State :=
  match s.clock.teleDue with
  | some _ => s
  | none =>
    forNat 32 (fun c u => forNat 16 (fun k v => v.set (SC_RES_FRESH c k) 0) u)
      { s with clock := { s.clock with teleDue := some (frameCount s), teleCap := teleTaken s } }

/-- System, power and clock work of a tick: slot tables, Sluice, a granted profile change, energy ledger, telemetry, process data. -/
def systemTick (frame : Nat) (s : State) : State :=
  fieldTick frame (teleTick (ledgerTick (profileTick (sluOrphans (sluTick (sluCycleTick (slotSwap s)))))))

/-- Jets, edge timing, Weir, sequencers, fail capture and signal cores at a tick. -/
def testTick (frame : Nat) (misaligned : List (Fin 32)) (s : State) : State :=
  scTick (failTick frame (seqTick (weirTick frame (alignTick misaligned (edgeTick (jetsTick s))))))

/-- HBM, encryption, NoC, fabric and loader, control cluster, Cascade, security, Leap and trace at a tick. -/
def serviceTick (s : State) : State :=
  traceTick (leapTick (secTick (lanesTick (casTick (clusterTick (ldrTick (fabTick (nocTick (encTick (hbmTick s))))))))))

/-- The work of a tick that ends frame `frame`; requests of the host that waited are then served, if firmware runs. -/
def frameWork (frame : Nat) (misaligned : List (Fin 32)) (s : State) : State :=
  let s := { s with events := { s.events with once := [] } }
  foeServeAll (sdoServeAll (teleCapture (serviceTick (testTick frame misaligned (systemTick frame s)))))

/-- FRAME_TICK (R84, R85): the generator issues a tick by itself; `misaligned` names the banks whose alignment a tick finds lost. -/
def execFrameTick (misaligned : List (Fin 32)) (s : State) : Out :=
  if !ticksRun s then ok s
  else match ownTick s with
    | some t => ok (frameWork (frameCount s) misaligned t)
    | none => ok s

/-- SYNC0_EVENT (R85, R88). -/
def execSync0Event (atPs : Nat) (misaligned : List (Fin 32)) (s : State) : Out :=
  if !ticksRun s then ok s
  else
    let x := sync0 atPs s
    ok (if x.1 then frameWork (frameCount s) misaligned x.2 else x.2)

/-- TICK_MISSING (R86): the tick issues at its expected time in holdover. -/
def execTickMissing (misaligned : List (Fin 32)) (s : State) : Out :=
  whenOk (ticksRun s && sourceMissing s) s (frameWork (frameCount s) misaligned (holdoverTick s))

end Sys2Proof.Machine
end

