-- ==== Sys2Proof/Machine/Dispatch.lean ====
section
/-! DEFINITION. One arm per command: its meaning, on a state whose queue no longer holds it. -/
namespace Sys2Proof.Machine

/-- What a command does to everything but the queue of waiting commands. -/
def exec (i : Instr) (s : State) : Host.Outcome State Fault Refusal :=
  match i with
  | .registerWrite a addr width value => Sys2Proof.Machine.execRegisterWrite a addr width value s
  | .profileChangeRequest a viaObject req => Sys2Proof.Machine.execProfileChangeRequest a viaObject req s
  | .quietRegionReload r => Sys2Proof.Machine.execQuietRegionReload r s
  | .domainTargetWrite a n target => Sys2Proof.Machine.execDomainTargetWrite a n target s
  | .domainReset a n => Sys2Proof.Machine.execDomainReset a n s
  | .dresetQuiesceTimeout n => Sys2Proof.Machine.execDresetQuiesceTimeout n s
  | .domainResetHoldEnd n => Sys2Proof.Machine.execDomainResetHoldEnd n s
  | .domainRampEnd n => Sys2Proof.Machine.execDomainRampEnd n s
  | .domainQuiesced n => Sys2Proof.Machine.execDomainQuiesced n s
  | .loweringForced n => Sys2Proof.Machine.execLoweringForced n s
  | .sluiceRequest a value => Sys2Proof.Machine.execSluiceRequest a value s
  | .sluiceRelease a ticket => Sys2Proof.Machine.execSluiceRelease a ticket s
  | .sluiceGrantCycle visits => Sys2Proof.Machine.execSluiceGrantCycle visits s
  | .sluiceRampStart => Sys2Proof.Machine.execSluiceRampStart s
  | .grantOverdue e => Sys2Proof.Machine.execGrantOverdue e s
  | .ballTrip ch energyNJ => Sys2Proof.Machine.execBallTrip ch energyNJ s
  | .wiringTrip windowUJ => Sys2Proof.Machine.execWiringTrip windowUJ s
  | .faultEventEnd ch => Sys2Proof.Machine.execFaultEventEnd ch s
  | .ballLatchClear a b mask => Sys2Proof.Machine.execBallLatchClear a b mask s
  | .wiringLatchClear a => Sys2Proof.Machine.execWiringLatchClear a s
  | .energyLedgerStep samples windowUJ => Sys2Proof.Machine.execEnergyLedgerStep samples windowUJ s
  | .vinSag => Sys2Proof.Machine.execVinSag s
  | .bleed => Sys2Proof.Machine.execBleed s
  | .referenceLost src => Sys2Proof.Machine.execReferenceLost src s
  | .sourceStable src => Sys2Proof.Machine.execSourceStable src s
  | .generatorLock => Sys2Proof.Machine.execGeneratorLock s
  | .muxSelect a m value => Sys2Proof.Machine.execMuxSelect a m value s
  | .muxSwitch m => Sys2Proof.Machine.execMuxSwitch m s
  | .muxWaitExpiry m => Sys2Proof.Machine.execMuxWaitExpiry m s
  | .muxForce a m => Sys2Proof.Machine.execMuxForce a m s
  | .fabFrequencyChange a n mhz => Sys2Proof.Machine.execFabFrequencyChange a n mhz s
  | .fabRelockDone n => Sys2Proof.Machine.execFabRelockDone n s
  | .gateCloseRequest a n => Sys2Proof.Machine.execGateCloseRequest a n s
  | .gateAck n => Sys2Proof.Machine.execGateAck n s
  | .gateAckTimeout n => Sys2Proof.Machine.execGateAckTimeout n s
  | .gateOpen a n => Sys2Proof.Machine.execGateOpen a n s
  | .clkmonConfig a value => Sys2Proof.Machine.execClkmonConfig a value s
  | .frameTick misaligned => Sys2Proof.Machine.execFrameTick misaligned s
  | .sync0Event atPs misaligned => Sys2Proof.Machine.execSync0Event atPs misaligned s
  | .tickMissing misaligned => Sys2Proof.Machine.execTickMissing misaligned s
  | .frameControlWrite a value => Sys2Proof.Machine.execFrameControlWrite a value s
  | .slotShadowWrite a k value => Sys2Proof.Machine.execSlotShadowWrite a k value s
  | .slotArm a => Sys2Proof.Machine.execSlotArm a s
  | .telemetrySnapshot => Sys2Proof.Machine.execTelemetrySnapshot s
  | .coldReset => Sys2Proof.Machine.execColdReset s
  | .warmReset => Sys2Proof.Machine.execWarmReset s
  | .rstCtlWarm a key => Sys2Proof.Machine.execRstCtlWarm a key s
  | .coreReset a key mask => Sys2Proof.Machine.execCoreReset a key mask s
  | .warmResetObject a value => Sys2Proof.Machine.execWarmResetObject a value s
  | .delayedWarmReset => Sys2Proof.Machine.execDelayedWarmReset s
  | .bootStepEnd elapsedMs bad => Sys2Proof.Machine.execBootStepEnd elapsedMs bad s
  | .tapReset => Sys2Proof.Machine.execTapReset s
  | .bramRead area mem port access strike => Sys2Proof.Machine.execBramRead area mem port access strike s
  | .bramWrite area mem pa pb => Sys2Proof.Machine.execBramWrite area mem pa pb s
  | .bramWriteback area mem word => Sys2Proof.Machine.execBramWriteback area mem word s
  | .bramScrubWord area freeCycle strike => Sys2Proof.Machine.execBramScrubWord area freeCycle strike s
  | .flipArm a area value => Sys2Proof.Machine.execFlipArm a area value s
  | .tapDrain q count => Sys2Proof.Machine.execTapDrain q count s
  | .dataInWrite q word => Sys2Proof.Machine.execDataInWrite q word s
  | .targetPortRequest area addr answer => Sys2Proof.Machine.execTargetPortRequest area addr answer s
  | .targetPortTimeout area => Sys2Proof.Machine.execTargetPortTimeout area s
  | .loaderStage a slot => Sys2Proof.Machine.execLoaderStage a slot s
  | .loaderLoad a slot => Sys2Proof.Machine.execLoaderLoad a slot s
  | .loaderInvalidate a region => Sys2Proof.Machine.execLoaderInvalidate a region s
  | .loaderDispatch => Sys2Proof.Machine.execLoaderDispatch s
  | .stageComplete flashOk => Sys2Proof.Machine.execStageComplete flashOk s
  | .loadGrantIssued => Sys2Proof.Machine.execLoadGrantIssued s
  | .loadDrainEnd r => Sys2Proof.Machine.execLoadDrainEnd r s
  | .loadRecordWrite readBackOk => Sys2Proof.Machine.execLoadRecordWrite readBackOk s
  | .loadComplete => Sys2Proof.Machine.execLoadComplete s
  | .rillSlice frames upsets => Sys2Proof.Machine.execRillSlice frames upsets s
  | .rillPassRequest a => Sys2Proof.Machine.execRillPassRequest a s
  | .rillPassComplete => Sys2Proof.Machine.execRillPassComplete s
  | .jetConfigWrite a ch value => Sys2Proof.Machine.execJetConfigWrite a ch value s
  | .jetLevelWrite a ch reg value => Sys2Proof.Machine.execJetLevelWrite a ch reg value s
  | .jetCycle ch k seen => Sys2Proof.Machine.execJetCycle ch k seen s
  | .blockClear a ch mask => Sys2Proof.Machine.execBlockClear a ch mask s
  | .bankMaxrateWrite a b code => Sys2Proof.Machine.execBankMaxrateWrite a b code s
  | .pmuModeWrite a ch value => Sys2Proof.Machine.execPmuModeWrite a ch value s
  | .pmuConnect ch => Sys2Proof.Machine.execPmuConnect ch s
  | .pmuSample ch measured clamped => Sys2Proof.Machine.execPmuSample ch measured clamped s
  | .pmuClamp ch hi => Sys2Proof.Machine.execPmuClamp ch hi s
  | .spareForWrite a b ball => Sys2Proof.Machine.execSpareForWrite a b ball s
  | .periodWrite a q t value => Sys2Proof.Machine.execPeriodWrite a q t value s
  | .timingSetCommit a ch value => Sys2Proof.Machine.execTimingSetCommit a ch value s
  | .timingSetRecordWrite a record => Sys2Proof.Machine.execTimingSetRecordWrite a record s
  | .bankRealign a b => Sys2Proof.Machine.execBankRealign a b s
  | .witnessEdge ch edge => Sys2Proof.Machine.execWitnessEdge ch edge s
  | .weirCorrectionDelivery inTime => Sys2Proof.Machine.execWeirCorrectionDelivery inTime s
  | .weirCalibrate a => Sys2Proof.Machine.execWeirCalibrate a s
  | .weirCalibrationEnd results => Sys2Proof.Machine.execWeirCalibrationEnd results s
  | .weirSave a => Sys2Proof.Machine.execWeirSave a s
  | .weirSaveEnd copy0 copy1 hottest => Sys2Proof.Machine.execWeirSaveEnd copy0 copy1 hottest s
  | .seqStart a q value nsToTick => Sys2Proof.Machine.execSeqStart a q value nsToTick s
  | .seqStop a q => Sys2Proof.Machine.execSeqStop a q s
  | .seqAbort a q nowClk => Sys2Proof.Machine.execSeqAbort a q nowClk s
  | .seqPause a q => Sys2Proof.Machine.execSeqPause a q s
  | .seqResume a q => Sys2Proof.Machine.execSeqResume a q s
  | .seqStartTick q => Sys2Proof.Machine.execSeqStartTick q s
  | .cycleIssue q => Sys2Proof.Machine.execCycleIssue q s
  | .vectorUnderrun q => Sys2Proof.Machine.execVectorUnderrun q s
  | .patternEnd q => Sys2Proof.Machine.execPatternEnd q s
  | .seqResumeStart q => Sys2Proof.Machine.execSeqResumeStart q s
  | .pauseWarnExpiry q => Sys2Proof.Machine.execPauseWarnExpiry q s
  | .pageLoadDone q page status => Sys2Proof.Machine.execPageLoadDone q page status s
  | .vectorPrefetch q status => Sys2Proof.Machine.execVectorPrefetch q status s
  | .seqResultSeen q => Sys2Proof.Machine.execSeqResultSeen q s
  | .vec q => Sys2Proof.Machine.execVec q s
  | .jmp q => Sys2Proof.Machine.execJmp q s
  | .call q => Sys2Proof.Machine.execCall q s
  | .ret q => Sys2Proof.Machine.execRet q s
  | .loop q => Sys2Proof.Machine.execLoop q s
  | .endl q => Sys2Proof.Machine.execEndl q s
  | .jfail q => Sys2Proof.Machine.execJfail q s
  | .jc q => Sys2Proof.Machine.execJc q s
  | .seqMatch q => Sys2Proof.Machine.execSeqMatch q s
  | .matchTimeout q => Sys2Proof.Machine.execMatchTimeout q s
  | .fwait q => Sys2Proof.Machine.execFwait q s
  | .fwaitEnd q => Sys2Proof.Machine.execFwaitEnd q s
  | .slu q => Sys2Proof.Machine.execSlu q s
  | .sluTimeout q => Sys2Proof.Machine.execSluTimeout q s
  | .slurel q => Sys2Proof.Machine.execSlurel q s
  | .setr q => Sys2Proof.Machine.execSetr q s
  | .clrf q => Sys2Proof.Machine.execClrf q s
  | .dclose q => Sys2Proof.Machine.execDclose q s
  | .mark q => Sys2Proof.Machine.execMark q s
  | .pref q => Sys2Proof.Machine.execPref q s
  | .stop q => Sys2Proof.Machine.execStop q s
  | .illegalOpcode q => Sys2Proof.Machine.execIllegalOpcode q s
  | .cycleResultComplete q => Sys2Proof.Machine.execCycleResultComplete q s
  | .closeMarker q => Sys2Proof.Machine.execCloseMarker q s
  | .failDrain units status => Sys2Proof.Machine.execFailDrain units status s
  | .drainResume a q => Sys2Proof.Machine.execDrainResume a q s
  | .mapOpen a m spill => Sys2Proof.Machine.execMapOpen a m spill s
  | .mapClose a m => Sys2Proof.Machine.execMapClose a m s
  | .mapDiscard a m => Sys2Proof.Machine.execMapDiscard a m s
  | .spillWritten m status => Sys2Proof.Machine.execSpillWritten m status s
  | .mapCleared m => Sys2Proof.Machine.execMapCleared m s
  | .mapScrubWord slice word upset => Sys2Proof.Machine.execMapScrubWord slice word upset s
  | .raArm a d => Sys2Proof.Machine.execRaArm a d s
  | .raCancel a d => Sys2Proof.Machine.execRaCancel a d s
  | .mapAccept => Sys2Proof.Machine.execMapAccept s
  | .listReadEnd u => Sys2Proof.Machine.execListReadEnd u s
  | .searchEnd u => Sys2Proof.Machine.execSearchEnd u s
  | .raRingWrite status => Sys2Proof.Machine.execRaRingWrite status s
  | .raRingResume a => Sys2Proof.Machine.execRaRingResume a s
  | .scMapWrite a c phys => Sys2Proof.Machine.execScMapWrite a c phys s
  | .scStart a c value => Sys2Proof.Machine.execScStart a c value s
  | .scStopCommand a c => Sys2Proof.Machine.execScStopCommand a c s
  | .scMemoryAccess a c mem word write => Sys2Proof.Machine.execScMemoryAccess a c mem word write s
  | .scSampleArrival c k sample clamped isOver => Sys2Proof.Machine.execScSampleArrival c k sample clamped isOver s
  | .scHostWrite a c value => Sys2Proof.Machine.execScHostWrite a c value s
  | .scInterrupt c => Sys2Proof.Machine.execScInterrupt c s
  | .scRingLineWrite c status => Sys2Proof.Machine.execScRingLineWrite c status s
  | .scScrubWord c mem word upset => Sys2Proof.Machine.execScScrubWord c mem word upset s
  | .nop c => Sys2Proof.Machine.execNop c s
  | .alu c => Sys2Proof.Machine.execAlu c s
  | .ldi c => Sys2Proof.Machine.execLdi c s
  | .ldh c => Sys2Proof.Machine.execLdh c s
  | .mac c => Sys2Proof.Machine.execMac c s
  | .aop c => Sys2Proof.Machine.execAop c s
  | .mva c => Sys2Proof.Machine.execMva c s
  | .ldst c => Sys2Proof.Machine.execLdst c s
  | .ldsta c => Sys2Proof.Machine.execLdsta c s
  | .setp c => Sys2Proof.Machine.execSetp c s
  | .mvr c => Sys2Proof.Machine.execMvr c s
  | .br c => Sys2Proof.Machine.execBr c s
  | .jsr c => Sys2Proof.Machine.execJsr c s
  | .rts c => Sys2Proof.Machine.execRts c s
  | .rti c => Sys2Proof.Machine.execRti c s
  | .scLoop c => Sys2Proof.Machine.execScLoop c s
  | .scIn c => Sys2Proof.Machine.execScIn c s
  | .scOut c => Sys2Proof.Machine.execScOut c s
  | .waiti c => Sys2Proof.Machine.execWaiti c s
  | .scStop c => Sys2Proof.Machine.execScStop c s
  | .hbmRequestIssue upset newWindow => Sys2Proof.Machine.execHbmRequestIssue upset newWindow s
  | .hbmPromote id => Sys2Proof.Machine.execHbmPromote id s
  | .hbmTrainingEnd ok channel => Sys2Proof.Machine.execHbmTrainingEnd ok channel s
  | .hbmSelfRefreshExit => Sys2Proof.Machine.execHbmSelfRefreshExit s
  | .hbmRefresh bank windowStart => Sys2Proof.Machine.execHbmRefresh bank windowStart s
  | .targetedRefresh bank row => Sys2Proof.Machine.execTargetedRefresh bank row s
  | .hbmTemperature celsius => Sys2Proof.Machine.execHbmTemperature celsius s
  | .hbmScrubLine upset => Sys2Proof.Machine.execHbmScrubLine upset s
  | .hbmRangePass a value => Sys2Proof.Machine.execHbmRangePass a value s
  | .hbmRangePassEnd => Sys2Proof.Machine.execHbmRangePassEnd s
  | .hbmFlipArm a value => Sys2Proof.Machine.execHbmFlipArm a value s
  | .hbmErrlogPop a => Sys2Proof.Machine.execHbmErrlogPop a s
  | .hbmAccessObject addrField write => Sys2Proof.Machine.execHbmAccessObject addrField write s
  | .encEnable a r => Sys2Proof.Machine.execEncEnable a r s
  | .encDisable a r => Sys2Proof.Machine.execEncDisable a r s
  | .encRekey a r => Sys2Proof.Machine.execEncRekey a r s
  | .rekeyLineMove r => Sys2Proof.Machine.execRekeyLineMove r s
  | .rekeyComplete r => Sys2Proof.Machine.execRekeyComplete r s
  | .keyRetired k => Sys2Proof.Machine.execKeyRetired k s
  | .keyedRead a addr => Sys2Proof.Machine.execKeyedRead a addr s
  | .keyedWrite a addr be data => Sys2Proof.Machine.execKeyedWrite a addr be data s
  | .nodeWriteback r level j => Sys2Proof.Machine.execNodeWriteback r level j s
  | .encTreePass a r => Sys2Proof.Machine.execEncTreePass a r s
  | .encTreePassEnd => Sys2Proof.Machine.execEncTreePassEnd s
  | .nocRequest a pkt => Sys2Proof.Machine.execNocRequest a pkt s
  | .nocResponse init latencyNs => Sys2Proof.Machine.execNocResponse init latencyNs s
  | .nocTimeout init => Sys2Proof.Machine.execNocTimeout init s
  | .linkError router dir err pkt => Sys2Proof.Machine.execLinkError router dir err pkt s
  | .creditIdleReturn init target => Sys2Proof.Machine.execCreditIdleReturn init target s
  | .routerMaintEnter a k => Sys2Proof.Machine.execRouterMaintEnter a k s
  | .routerDrained k => Sys2Proof.Machine.execRouterDrained k s
  | .routerDrainAbort k => Sys2Proof.Machine.execRouterDrainAbort k s
  | .routerMaintExit a k => Sys2Proof.Machine.execRouterMaintExit a k s
  | .arbRequest x n beats held => Sys2Proof.Machine.execArbRequest x n beats held s
  | .arbRelease x => Sys2Proof.Machine.execArbRelease x s
  | .arbBurstExpiry x => Sys2Proof.Machine.execArbBurstExpiry x s
  | .arbCommit a x => Sys2Proof.Machine.execArbCommit a x s
  | .linkEnable a q value => Sys2Proof.Machine.execLinkEnable a q value s
  | .linkDisable a q => Sys2Proof.Machine.execLinkDisable a q s
  | .linkRetrain a q => Sys2Proof.Machine.execLinkRetrain a q s
  | .linkDetectProbe q partnerSeen => Sys2Proof.Machine.execLinkDetectProbe q partnerSeen s
  | .tapChangeRequest l tap up => Sys2Proof.Machine.execTapChangeRequest l tap up s
  | .trainEnd q eyes => Sys2Proof.Machine.execTrainEnd q eyes s
  | .trainTimeout q => Sys2Proof.Machine.execTrainTimeout q s
  | .slip a l => Sys2Proof.Machine.execSlip a l s
  | .lockEnd q locked inverted => Sys2Proof.Machine.execLockEnd q locked inverted s
  | .lockTimeout q => Sys2Proof.Machine.execLockTimeout q s
  | .exchangeEnd q cap => Sys2Proof.Machine.execExchangeEnd q cap s
  | .exchangeTimeout q => Sys2Proof.Machine.execExchangeTimeout q s
  | .linkFailBackoff q => Sys2Proof.Machine.execLinkFailBackoff q s
  | .flitSend q => Sys2Proof.Machine.execFlitSend q s
  | .flitReceive q lane crcOk f => Sys2Proof.Machine.execFlitReceive q lane crcOk f s
  | .linkSleep q => Sys2Proof.Machine.execLinkSleep q s
  | .linkWake q => Sys2Proof.Machine.execLinkWake q s
  | .prbsInject a l => Sys2Proof.Machine.execPrbsInject a l s
  | .casSend a value => Sys2Proof.Machine.execCasSend a value s
  | .messageReceive q => Sys2Proof.Machine.execMessageReceive q s
  | .timeFlitSend q t1 => Sys2Proof.Machine.execTimeFlitSend q t1 s
  | .timeFlitReceive q arrival turn f => Sys2Proof.Machine.execTimeFlitReceive q arrival turn f s
  | .echoReceive q t4 turn count => Sys2Proof.Machine.execEchoReceive q t4 turn count s
  | .bankHandover a n owner => Sys2Proof.Machine.execBankHandover a n owner s
  | .scratchpadAccess a acc upset => Sys2Proof.Machine.execScratchpadAccess a acc upset s
  | .spScrubWord n word upset => Sys2Proof.Machine.execSpScrubWord n word upset s
  | .spSecurePass a value => Sys2Proof.Machine.execSpSecurePass a value s
  | .spSecurePassEnd singles => Sys2Proof.Machine.execSpSecurePassEnd singles s
  | .spMarch a value => Sys2Proof.Machine.execSpMarch a value s
  | .marchEnd results => Sys2Proof.Machine.execMarchEnd results s
  | .mailboxDataWrite a m j value => Sys2Proof.Machine.execMailboxDataWrite a m j value s
  | .mailboxPost a m => Sys2Proof.Machine.execMailboxPost a m s
  | .mailboxAck a m => Sys2Proof.Machine.execMailboxAck a m s
  | .mailboxTimeout m => Sys2Proof.Machine.execMailboxTimeout m s
  | .coreInterrupt c mie => Sys2Proof.Machine.execCoreInterrupt c mie s
  | .lockAcquire a k lease => Sys2Proof.Machine.execLockAcquire a k lease s
  | .lockRelease a k => Sys2Proof.Machine.execLockRelease a k s
  | .leaseExpiry k => Sys2Proof.Machine.execLeaseExpiry k s
  | .wdKick a c key => Sys2Proof.Machine.execWdKick a c key s
  | .watchdogExpiry c => Sys2Proof.Machine.execWatchdogExpiry c s
  | .crcConfig a u value => Sys2Proof.Machine.execCrcConfig a u value s
  | .crcFold a u value => Sys2Proof.Machine.execCrcFold a u value s
  | .crcFeed a u width value => Sys2Proof.Machine.execCrcFeed a u width value s
  | .crcResultRead a u => Sys2Proof.Machine.execCrcResultRead a u s
  | .challenge addr => Sys2Proof.Machine.execChallenge addr s
  | .operatorSignIn addr password => Sys2Proof.Machine.execOperatorSignIn addr password s
  | .keySignIn addr response => Sys2Proof.Machine.execKeySignIn addr response s
  | .signInLockEnd role => Sys2Proof.Machine.execSignInLockEnd role s
  | .lifecycleTransition a target => Sys2Proof.Machine.execLifecycleTransition a target s
  | .lifecycleProgrammed => Sys2Proof.Machine.execLifecycleProgrammed s
  | .rmaConsent a value => Sys2Proof.Machine.execRmaConsent a value s
  | .tamperIndication src => Sys2Proof.Machine.execTamperIndication src s
  | .editionStage a bytes => Sys2Proof.Machine.execEditionStage a bytes s
  | .editionCommit a value => Sys2Proof.Machine.execEditionCommit a value s
  | .editionProgrammed ok => Sys2Proof.Machine.execEditionProgrammed ok s
  | .ledgerAppend a bytes => Sys2Proof.Machine.execLedgerAppend a bytes s
  | .ledgerProgrammed ok => Sys2Proof.Machine.execLedgerProgrammed ok s
  | .attestationRequest a nonce => Sys2Proof.Machine.execAttestationRequest a nonce s
  | .attestationSigned => Sys2Proof.Machine.execAttestationSigned s
  | .auditAppend a => Sys2Proof.Machine.execAuditAppend a s
  | .alStateRequest target mbxOk sync0Ok => Sys2Proof.Machine.execAlStateRequest target mbxOk sync0Ok s
  | .sdoRequest addr req flashOk => Sys2Proof.Machine.execSdoRequest addr req flashOk s
  | .signOut addr => Sys2Proof.Machine.execSignOut addr s
  | .sessionIdleTimeout addr => Sys2Proof.Machine.execSessionIdleTimeout addr s
  | .restoreDefaults a value => Sys2Proof.Machine.execRestoreDefaults a value s
  | .txpdoPublish => Sys2Proof.Machine.execTxpdoPublish s
  | .rxpdoApply entries => Sys2Proof.Machine.execRxpdoApply entries s
  | .smWatchdogExpiry => Sys2Proof.Machine.execSmWatchdogExpiry s
  | .foeWrite addr file password data flashOk => Sys2Proof.Machine.execFoeWrite addr file password data flashOk s
  | .foeRead addr file password => Sys2Proof.Machine.execFoeRead addr file password s
  | .foeBootstrapWrite slotB password data flashOk => Sys2Proof.Machine.execFoeBootstrapWrite slotB password data flashOk s
  | .dapRequest req => Sys2Proof.Machine.execDapRequest req s
  | .debugChallenge a => Sys2Proof.Machine.execDebugChallenge a s
  | .debugPassword a len => Sys2Proof.Machine.execDebugPassword a len s
  | .debugKey a => Sys2Proof.Machine.execDebugKey a s
  | .debugSignOut a => Sys2Proof.Machine.execDebugSignOut a s
  | .debugSessionIdle => Sys2Proof.Machine.execDebugSessionIdle s
  | .coreHalt a k => Sys2Proof.Machine.execCoreHalt a k s
  | .coreResume a k => Sys2Proof.Machine.execCoreResume a k s
  | .coreStep a k => Sys2Proof.Machine.execCoreStep a k s
  | .freezeTest a mask => Sys2Proof.Machine.execFreezeTest a mask s
  | .traceEnable a value => Sys2Proof.Machine.execTraceEnable a value s
  | .stimulusWrite a c p width value => Sys2Proof.Machine.execStimulusWrite a c p width value s
  | .tracePacket => Sys2Proof.Machine.execTracePacket s
  | .leapRequest a bytes => Sys2Proof.Machine.execLeapRequest a bytes s
  | .leapStepAdvance ok => Sys2Proof.Machine.execLeapStepAdvance ok s
  | .healthCandidate reason target => Sys2Proof.Machine.execHealthCandidate reason target s
  | .thermalThreshold milliC => Sys2Proof.Machine.execThermalThreshold milliC s
  | .resetRelease pin => Sys2Proof.Machine.execResetRelease pin s
  | .vinRise => Sys2Proof.Machine.execVinRise s
  | .ballFaultOnset onset => Sys2Proof.Machine.execBallFaultOnset onset s
  | .symbolLockLoss l signalLost => Sys2Proof.Machine.execSymbolLockLoss l signalLost s
  | .prbsCheckerLock l wrongBits => Sys2Proof.Machine.execPrbsCheckerLock l wrongBits s
  | .ecatPortLink port up => Sys2Proof.Machine.execEcatPortLink port up s
  | .sm2ImageWrite image => Sys2Proof.Machine.execSm2ImageWrite image s
  | .tapUpdate upd => Sys2Proof.Machine.execTapUpdate upd s
  | .traceFifoDrain bytes => Sys2Proof.Machine.execTraceFifoDrain bytes s
  | .secureWipeEnd => Sys2Proof.Machine.execSecureWipeEnd s
  | .debugAuthDone => Sys2Proof.Machine.execDebugAuthDone s

end Sys2Proof.Machine
end

