-- ==== Sys2Proof/Safety.lean ====
section
/-! DEFINITION. The terms that statements use: the parts of the state, the register blocks of the address map (R4), what a command
leaves alone, and the state's canonical form. -/
namespace Sys2Proof.Machine

/-- The parts of the state beside the register file and the queue. -/
inductive Part where
  | resp | bootMs | events | trace | power | profile | clock | pins | jets | edge | weir | hbm | enc | seqs | ports | fail | ra
  | sc | noc | fab | ldr | flash | cluster | casc | sec | boot | dbg | leap | field
  deriving DecidableEq, Repr

/-- A part is the same in two states. -/
def Part.same (s t : State) : Part → Prop
  | .resp => t.resp = s.resp
  | .bootMs => t.bootMs = s.bootMs
  | .events => t.events = s.events
  | .trace => t.trace = s.trace
  | .power => t.power = s.power
  | .profile => t.profile = s.profile
  | .clock => t.clock = s.clock
  | .pins => t.pins = s.pins
  | .jets => t.jets = s.jets
  | .edge => t.edge = s.edge
  | .weir => t.weir = s.weir
  | .hbm => t.hbm = s.hbm
  | .enc => t.enc = s.enc
  | .seqs => t.seqs = s.seqs
  | .ports => t.ports = s.ports
  | .fail => t.fail = s.fail
  | .ra => t.ra = s.ra
  | .sc => t.sc = s.sc
  | .noc => t.noc = s.noc
  | .fab => t.fab = s.fab
  | .ldr => t.ldr = s.ldr
  | .flash => t.flash = s.flash
  | .cluster => t.cluster = s.cluster
  | .casc => t.casc = s.casc
  | .sec => t.sec = s.sec
  | .boot => t.boot = s.boot
  | .dbg => t.dbg = s.dbg
  | .leap => t.leap = s.leap
  | .field => t.field = s.field

/-- The register blocks in address order; `below` and `beyond` hold no register. -/
inductive Block where
  | below | profile | frameCtl | frameStat | frameCount | frameOverruns | slots | resetCtl | resetCause | bootStat | sluice
  | limiterStat | limiterTrips | sluiceEntries | domains | energyLedger | clockSources | clockSelect | clockMonitor
  | fabricClocks | clockGates | loader | rill | regions | isolation | blockMemories | fabricPorts | jetBanks | jetChannels
  | edgeSeqStat | edgeBanks | periods | timingSets | edgeChannels | weirCtl | weirCal | weirChannels | sequencers | captureEcc
  | captureLost | captureSeqs | failCounts | failMaps | repairCtl | repairRing | repairDescs | repairDomains | signalMap
  | signalCores | signalDrops | signalResults | hbmCfg | hbmStat | hbmEcc | hbmErrlog | hbmFlip | hbmSpares | hbmPass
  | hbmClasses | encKeys | encPass | encRegions | nocCtl | routers | nocStats | arbiters | cascadeCtl | cascadeTime | cascadeSend
  | cascadeRing | links | lanes | epochs | cores | locks | mailboxes | doorbells | crcUnits | owners | scratchpadEcc
  | scratchpadTests | patches | securityStat | tamper | almanac | audit | attestation | fieldStat | sessions | debugCtl
  | debugRun | debugFreeze | traceCtl | coreAccess | stimulus | debugBuffer | beyond
  deriving DecidableEq, Repr

/-- Byte addresses at which the blocks after `below` begin. -/
def blockStarts : List Nat := [
  0x3000000000, 0x3000000200, 0x3000000208, 0x3000000210, 0x3000000300, 0x3000000400, 0x3000000800, 0x3000000808, 0x3000000810,
  0x3001000000, 0x3001000300, 0x3001000400, 0x3001001000, 0x3001002000, 0x3001010000, 0x3002000000, 0x3002000100, 0x3002000200,
  0x3002000300, 0x3002001000, 0x3003000000, 0x3003000200, 0x3003001000, 0x3003002000, 0x3003100000, 0x3003100800, 0x3004000000,
  0x3004010000, 0x3005000000, 0x3005002000, 0x3005010000, 0x3005100000, 0x3005200000, 0x3006000000, 0x3006000200, 0x3006010000,
  0x3007000000, 0x3008000000, 0x3008000200, 0x3008010000, 0x3008020000, 0x3008030000, 0x3009000000, 0x3009000200, 0x3009100000,
  0x3009200000, 0x300A000000, 0x300A001000, 0x300A004000, 0x300A006000, 0x300B000000, 0x300B000110, 0x300B000200, 0x300B000210,
  0x300B000220, 0x300B000300, 0x300B000400, 0x300B000500, 0x300C000000, 0x300C000200, 0x300C001000, 0x300D000000, 0x300D001000,
  0x300D010000, 0x300D020000, 0x300E000000, 0x300E000108, 0x300E000200, 0x300E000300, 0x300E010000, 0x300E020000, 0x300F000000,
  0x300F001000, 0x300F002000, 0x300F004000, 0x300F006000, 0x300F008000, 0x300F00A000, 0x300F00A200, 0x300F00A300, 0x300F00C000,
  0x3010000000, 0x3010000108, 0x3010000200, 0x3010000300, 0x3010000400, 0x3011000000, 0x3011000200, 0x3012000000, 0x3012000200,
  0x3012000380, 0x3012000400, 0x3012001000, 0x3012008000, 0x3012010000, 0x3013000000]

/-- The number of the block that a key of the register file lies in. -/
def blockIndex (k : Nat) : Nat := blockStarts.countP (fun a => decide (64 * a ≤ k))

/-- The number of a block. -/
def Block.index (b : Block) : Nat := b.ctorIdx

/-- From `s` to `t`, only the listed parts and the registers of the listed blocks may differ; the queue of commands stays. -/
structure Frame (parts : List Part) (blocks : List Block) (s t : State) : Prop where
  pending : t.pending = s.pending
  part : ∀ p, p ∉ parts → p.same s t
  regs : ∀ f : Fld, (∀ b ∈ blocks, blockIndex f.key ≠ b.index) → t.get f = s.get f

/-- From `s` to `t`, only the listed register fields may differ. -/
def OnlyFlds (l : List Fld) (s t : State) : Prop := ∀ f : Fld, (∀ g ∈ l, f.key ≠ g.key) → t.get f = s.get f

/-- From `s` to `t`, only the listed parts and the listed register fields may differ; the queue of commands stays. -/
structure Narrow (parts : List Part) (l : List Fld) (s t : State) : Prop where
  pending : t.pending = s.pending
  part : ∀ p, p ∉ parts → p.same s t
  regs : OnlyFlds l s t

/-- Every store of the state has its canonical form, so that equal contents are equal data; engines and signal cores stand in the order
of their numbers; the event ring holds at most 1,024 records (R510) and the Sluice queue at most 64 requests (R59). -/
abbrev Sound (s : State) : Prop :=
  keysRise (s.regs.map (·.1)) = true ∧ Memory.wf 0 s.hbm.mem = true ∧ Memory.wf 0xFF s.flash = true ∧ Memory.wf 0 s.fab.cfg = true ∧
  Memory.wf 0 s.sec.editions = true ∧ Memory.wf 0 s.sec.ledger = true ∧ s.events.ring.length ≤ 1024 ∧ s.power.queue.length ≤ 64 ∧
  keysRise (s.seqs.map (·.q)) = true ∧ keysRise (s.sc.cores.map (·.c)) = true

/-- One-time memory from `s` to `t` only gains (R465, R469, R476): places used stay used, their bytes stay, lifecycle bits stay
programmed, and a device secret that is gone stays gone. -/
structure OnlyGains (s t : State) : Prop where
  used : s.sec.used ≤ t.sec.used
  editions : ∀ a, a < 4096 * s.sec.used → memGet 0 a t.sec.editions = memGet 0 a s.sec.editions
  ledgerUsed : s.sec.ledgerUsed ≤ t.sec.ledgerUsed
  ledger : ∀ a, a < 16 * s.sec.ledgerUsed → memGet 0 a t.sec.ledger = memGet 0 a s.sec.ledger
  lifecycle : ∀ i, bit s.sec.lc i = true → bit t.sec.lc i = true
  secret : s.sec.secretGone = true → t.sec.secretGone = true

/-- What Sluice has granted stays within the current profile's budget (R58, R59), and a PROFILE request asks for no current (R60). -/
abbrev InBudget (s : State) : Prop :=
  sluGranted s ≤ grantable (curProfile s) ∧ ∀ k < 128, s.get (SLU_ENT_CLASS k) = clsProfile → s.get (SLU_ENT_CURRENT k) = 0

/-- From `s` to `t` an event was raised, the newest in the ring of events, before ready the newest of those held (R5, R113, R510). -/
abbrev Raises (code : Nat) (s t : State) : Prop :=
  if s.on BOOT_STAT_READY then t.events.ring.getLast?.map (·.code) = some code else t.events.held.getLast?.map (·.code) = some code

/-- The engine of sequencer q stands at the instruction `w` with the opcode `opc`, defined by the tables, and no STOP or pause holds it
at a safe point (R257, R265): a STOP holds a running pattern, a pause an armed one too. -/
abbrev AtInstruction (q opc w : Nat) (s : State) : Prop :=
  seqExecutes q s = true ∧ fetchIns q (s.get (SEQ_PC_PC q)) s = some w ∧ insOpc w = opc ∧ insLegal w = true ∧
    ((eng q s).begun = true ∨ insSafe w = false ∨
      (((eng q s).stopReq = false ∨ seqState q s ≠ seqRunning) ∧ s.get (SEQ_STAT_PAUSE_SRC q) = 0))

/-- The state in which the instruction has begun. -/
def insBegin (q : Nat) (s : State) : State :=
  if (eng q s).begun then s else modEng q (fun e => { e with begun := true, fticks := 0, syncAt := e.enq }) s

/-- The vector part of the instruction `w` is done in `u`, before its control action: it has none, or its last repetition entered the
queue (R238, R247). -/
abbrev VectorDone (q w : Nat) (s u : State) : Prop :=
  (insNovec w = true ∧ u = insOps q w (insBegin q s)) ∨
    (insNovec w = false ∧ oneRep q w true false none (insBegin q s) = some u ∧ (eng q u).ending = none ∧ insRep w ≤ (eng q s).rep)

/-- The same of an instruction that waits: its ops apply when the wait ends (R255). -/
abbrev WaitBegins (q w : Nat) (s u : State) : Prop :=
  (insNovec w = true ∧ u = insBegin q s) ∨
    (insNovec w = false ∧ oneRep q w false false none (insBegin q s) = some u ∧ (eng q u).ending = none ∧ insRep w ≤ (eng q s).rep)

/-- The engine stands at the beginning of an instruction, waiting for its page where that is not resident (R259). -/
abbrev GoesTo (q pc : Nat) (t : State) : Prop :=
  t.get (SEQ_PC_PC q) = pc ∧ (eng q t).rep = 0 ∧ (eng q t).begun = false ∧
    t.get (SEQ_STAT_WAIT q) = if (residentPage q pc t).isSome then 0 else 5

/-- Signal core c executes the word `w` with the opcode `opc` at its pc: no double-bit error in it, and no transfer where none may stand
(R324, R329). -/
abbrev AtScInstruction (c opc w : Nat) (s : State) : Prop :=
  scExecutes c s = true ∧ scBad c 0 (s.get (SC_STAT_PC c)) s = false ∧ scWord c 0 (s.get (SC_STAT_PC c)) s = w ∧ scOpc w = opc ∧
    slotFault c (s.get (SC_STAT_PC c)) w s = false

/-- The register set that is active in `s`, as it stands in `t`. -/
def scSetIn (c : Nat) (s t : State) : ScSet := if s.on (SC_STAT_SHADOW c) then (scCore c t).shad else (scCore c t).prim

/-- The core runs on; outside the delay slots of a transfer it goes on at the address after pc (R329, R330). -/
abbrev ScGoesOn (c : Nat) (s t : State) : Prop :=
  scState c t = scRunning ∧
    ((scCore c s).delay = none → t.get (SC_STAT_PC c) = (loopNext (s.get (SC_STAT_PC c)) (scActive c s).loops).1 % 16384)

end Sys2Proof.Machine
end

