-- ==== Sys2Proof/Certificates/Slice0/Obligations.lean ====
section
/-! DEFINITION. What this model claims of the part: one statement per rule or group of commands. `Sound` (Safety.lean) rules out states
that no run reaches; that every step keeps it is a statement of its own. The frames name every part of the state and every register block
that may change; all else stays. -/
open Sys2Proof Sys2Proof.Machine

/-- A step runs the command at the front of the queue on the state that holds the rest. For every command and every state: with
the command at the front of the queue, step is exec of it on the state whose queue is the rest. (The queue is the model's own:
how a block takes commands, notes/assumptions/1.md.) (R19.) -/
def Obligations.StepRunsFront : Prop :=
  ∀ (c : Instr) (rest : List Instr) (s : State), s.pending = c :: rest → step s = exec c { s with pending := rest }

/-- With nothing waiting the part idles. With an empty queue step answers the same state. The spec has no such rule: it is the
model's choice, notes/assumptions/1.md. (R19.) -/
def Obligations.EmptyQueueIdles : Prop :=
  ∀ s : State, s.pending = [] → step s = .next s

/-- What the release of a COLD reset leaves. After reset every register field reads the reset value its table gives, but that
STAGE reads boot step 1; every domain is OFF, the profile FULL, the frame count 0, the sequencers stopped, the HBM off, nothing
is granted or waits at Sluice, no event is recorded, no audit entry or session is open, and the queue of commands is empty. (The
step-1 value of STAGE is the model's choice of the moment after reset, notes/assumptions/8.md.) (R100, R110, R114, R26, R266.)
-/
def Obligations.ResetState : Prop :=
  (∀ f : Fld, f.key ≠ BOOT_STAT_STAGE.key → State.reset.get f = f.reset % 2 ^ f.width) ∧
  (State.reset.get BOOT_STAT_STAGE = 1 ∧ (∀ n < 96, State.reset.get (PWR_DOM_STAT_STATE n) = 0) ∧
    State.reset.get SYS_PROFILE_CUR = 0 ∧ State.reset.get FRM_COUNT_COUNT = 0 ∧ (∀ q < 16, State.reset.get (SEQ_STAT_STATE q) = 0) ∧
    State.reset.get HBM_STAT_STATE = 0 ∧ State.reset.power.queue = [] ∧ State.reset.power.ramp = [] ∧ State.reset.events.ring = [] ∧
    State.reset.pending = [])

/-- The state after reset is sound. Every store of the state after reset has its canonical form, and the event ring and the
Sluice queue keep their bounds. (R59, R510.) -/
def Obligations.SoundAtReset : Prop :=
  Sound State.reset

/-- Every step keeps the state sound. From every sound state, whatever command stands at the front of the queue, the next state
is sound: the register file, the HBM, the flash, the configuration memory, the editions and the ledger keep their canonical
form, engines and signal cores stay in order, the event ring holds at most 1,024 records and the Sluice queue at most 64
requests. (R59, R510.) -/
def Obligations.EveryStepKeepsSound : Prop :=
  ∀ s s' : State, Sound s → step s = .next s' → Sound s'

/-- Every command ends in a next state, and a step uses up one command. From every sound state, step answers a next state; with
a command waiting, that next state's queue is the rest of the queue: no command ends in a fault or a refusal, and none adds to
the queue or takes from it. (The queue is the model's own, notes/assumptions/1.md.) (R11, R18.) -/
def Obligations.EveryCommandAnswers : Prop :=
  ∀ (c : Instr) (rest : List Instr) (s : State), Sound s → s.pending = c :: rest → ∃ t, step s = .next t ∧ t.pending = rest

/-- No step unprograms one-time memory. From every sound state, whatever command stands at the front of the queue, a COLD reset
among them: the editions and the ledger records in use stay in use with every byte they hold, every programmed bit of the
lifecycle word stays programmed, and a device secret that is gone stays gone. (R104, R465, R469, R471, R475, R476.) -/
def Obligations.OneTimeMemoryOnlyGains : Prop :=
  ∀ s s' : State, Sound s → step s = .next s' → OnlyGains s s'

/-- Sluice's commands never grant more than the profile's budget. From every sound state in which the granted current is within
the current profile's grantable current and every PROFILE request asks for 0 units: it is so again after a request of any agent,
a release, a grant cycle of any number of visits, and a grant that runs over its duration. (R58, R59, R60, R62, R63.) -/
def Obligations.SluiceStaysInBudget : Prop :=
  (∀ (a : Agent) (value : Nat) (s : State), Sound s → InBudget s → ∃ t, exec (.sluiceRequest a value) s = .next t ∧ InBudget t) ∧
  (∀ (a : Agent) (ticket : Nat) (s : State), Sound s → InBudget s → ∃ t, exec (.sluiceRelease a ticket) s = .next t ∧ InBudget t) ∧
  (∀ (visits : Nat) (s : State), Sound s → InBudget s → ∃ t, exec (.sluiceGrantCycle visits) s = .next t ∧ InBudget t) ∧
  (∀ (e : Fin 128) (s : State), Sound s → InBudget s → ∃ t, exec (.grantOverdue e) s = .next t ∧ InBudget t)

/-- Nothing is granted after reset. After reset the granted current is within the budget of the profile FULL, and no entry asks
for current under class PROFILE. (R58, R59.) -/
def Obligations.InBudgetAtReset : Prop :=
  InBudget State.reset

/-- A Sluice request is granted at once, queued, or answered RETRY, as R59 says. For every valid request of any agent in a sound
state: with a free entry, an empty queue and room in the grantable current the lowest free entry becomes granted with the
request's class, target, initiator and current, and the answer is DONE with the ticket; with a free entry and fewer than 64
requests waiting, but something waiting or no room in current, the entry waits at the end of the queue and the answer is DONE;
with no free entry or 64 requests waiting the answer is RETRY and nothing but REFUSED and the event and trace records changes.
(R59.) -/
def Obligations.SluiceRequestRule : Prop :=
  (∀ (a : Agent) (value : Nat) (k : Nat) (s : State), Sound s →
    sluCheck (SLU_REQ_CLASS.of value) (SLU_REQ_TARGET.of value) (SLU_REQ_CURRENT.of value) (SLU_REQ_DURATION.of value) s = .done →
    freeEntry s = some k → s.power.queue = [] → sluFits (SLU_REQ_CLASS.of value) (SLU_REQ_CURRENT.of value) s = true →
    ∃ t, exec (.sluiceRequest a value) s = .next t ∧ t.resp.status = .done ∧ t.resp.value = 65536 + ticketOf k t ∧
      t.get (SLU_ENT_STATE k) = 2 ∧ t.get (SLU_ENT_CLASS k) = SLU_REQ_CLASS.of value ∧
      t.get (SLU_ENT_TARGET k) = SLU_REQ_TARGET.of value ∧ t.get (SLU_ENT_INITIATOR k) = a.init.val ∧
      t.get (SLU_ENT_CURRENT k) = SLU_REQ_CURRENT.of value ∧ t.power.queue = [] ∧
      Frame [.resp, .events, .trace, .power, .profile] [.sluice, .sluiceEntries] s t) ∧
  (∀ (a : Agent) (value : Nat) (k : Nat) (s : State), Sound s →
    sluCheck (SLU_REQ_CLASS.of value) (SLU_REQ_TARGET.of value) (SLU_REQ_CURRENT.of value) (SLU_REQ_DURATION.of value) s = .done →
    freeEntry s = some k → s.power.queue.length < 64 →
    ¬(s.power.queue = [] ∧ sluFits (SLU_REQ_CLASS.of value) (SLU_REQ_CURRENT.of value) s = true) →
    ∃ t, exec (.sluiceRequest a value) s = .next t ∧ t.resp.status = .done ∧ t.get (SLU_ENT_STATE k) = 1 ∧
      t.get (SLU_ENT_CLASS k) = SLU_REQ_CLASS.of value ∧ t.get (SLU_ENT_INITIATOR k) = a.init.val ∧
      t.power.queue = s.power.queue ++ [k] ∧ Frame [.resp, .events, .trace, .power, .profile] [.sluice, .sluiceEntries] s t) ∧
  (∀ (a : Agent) (value : Nat) (s : State), Sound s →
    sluCheck (SLU_REQ_CLASS.of value) (SLU_REQ_TARGET.of value) (SLU_REQ_CURRENT.of value) (SLU_REQ_DURATION.of value) s = .done →
    freeEntry s = none ∨ s.power.queue.length = 64 →
    ∃ t, exec (.sluiceRequest a value) s = .next t ∧ t.resp.status = .retry ∧
      t.get SLU_STAT_REFUSED = min (s.get SLU_STAT_REFUSED + 1) 65535 ∧ Narrow [.resp, .events, .trace] [SLU_STAT_REFUSED] s t)

/-- Completion of a release, a grant cycle's first visit, a ramp start and an overrun. In every sound state: SLUICE_RELEASE of a
ticket that names an entry, by its initiator or by control core 0 or 1, answers DONE and frees the entry; a grant cycle of one
or more visits, in a slot that lets duty 1 work and that the frame has not passed, grants the first request of the cycle when
that fits; SLUICE_RAMP_START takes the first grant whose ramp is due and, where it belongs to the raise of a domain that is OFF
or in RETAIN with target ON, sets that domain RAISING, and does no more where no operation of the part waited for the grant; a
finite grant with no frame left becomes overdue. The frames are stated. (R60, R61, R62, R63.) -/
def Obligations.SluiceCommandsComplete : Prop :=
  (∀ (a : Agent) (ticket : Nat) (k : Nat) (s : State), Sound s → ticketEntry (ticket % 65536) s = some k →
    s.get (SLU_ENT_INITIATOR k) = a.init.val ∨ a.init.val < 2 →
    ∃ t, exec (.sluiceRelease a ticket) s = .next t ∧ t.resp.status = .done ∧ t.get (SLU_ENT_STATE k) = 0 ∧
      Frame [.resp, .events, .trace, .power, .profile, .jets] [.profile, .sluiceEntries, .domains, .jetBanks, .jetChannels] s t) ∧
  (∀ (visits : Nat) (k : Nat) (l : List Nat) (s : State), Sound s → (dutySlot 1 anySlot s).isSome = true → 1 ≤ visits →
    s.power.cycle = k :: l → sluFits (s.get (SLU_ENT_CLASS k)) (s.get (SLU_ENT_CURRENT k)) s = true →
    ∃ t, exec (.sluiceGrantCycle visits) s = .next t ∧ t.get (SLU_ENT_STATE k) = 2 ∧
      Frame [.power, .profile, .clock] [.sluiceEntries] s t) ∧
  (∀ (k n : Nat) (l : List Nat) (s : State), Sound s → s.power.ramp = k :: l → n < 96 → spGet k s.power.purpose = forRaise n →
    s.get (PWR_DOM_CTL_TARGET n) = tgtOn → domState n s = dsOff ∨ domState n s = dsRetain →
    ∃ t, exec .sluiceRampStart s = .next t ∧ domState n t = dsRaising ∧ t.power.ramp = l ∧
      Narrow [.power] [PWR_DOM_STAT_STATE n, PWR_DOM_STAT_ENABLE_PENDING n] s t) ∧
  (∀ (k : Nat) (l : List Nat) (s : State), Sound s → s.power.ramp = k :: l → spGet k s.power.purpose = 0 →
    ∃ t, exec .sluiceRampStart s = .next t ∧ t.power.ramp = l ∧ Narrow [.power] [] s t) ∧
  (∀ (e : Fin 128) (s : State), Sound s → s.get (SLU_ENT_STATE e.val) = 2 → spGet e.val s.power.dur ≠ 0 →
    s.get (SLU_ENT_REMAIN e.val) = 0 →
    ∃ t, exec (.grantOverdue e) s = .next t ∧ t.get (SLU_ENT_STATE e.val) = 3 ∧
      Narrow [.events, .trace] [SLU_ENT_STATE e.val] s t)

/-- Completion of target writes, ramp ends and shutdowns of domains, in the cases listed. In every sound state, for target
writes by an agent that may write PWR_DOM_CTL while QUIET does not hold: target ON of a domain 82 to 95 that is OFF with no
raise waiting starts its ramp; target ON of a domain 0 to 81 beside the pair 64 and 65 that is OFF with no raise waiting, where
an entry is free, fewer than 64 requests wait and no wiring trip is latched, records the target and a request for the domain at
Sluice; target ON of a domain beside the pair that is ON leaves it ON; target OFF, or RETAIN where the domain has it, of a
domain that is ON with another target sets it LOWERING, and both domains of the pair together. A ramp that ends with target ON
leaves the domain ON (where no saved values are applied with it); a domain LOWERING towards OFF that may report quiescence
becomes OFF, and one with requests outstanding that is forced becomes OFF with FORCED set. The frames are stated. (R51, R52,
R54, R55, R345.) -/
def Obligations.DomainCommandsComplete : Prop :=
  (∀ (a : Agent) (n : Fin 96) (s : State), Sound s → pwrWriter a = true → 82 ≤ n.val → s.profile.quiet = none →
    domState n.val s = dsOff → raiseWaits n.val s = false →
    ∃ t, exec (.domainTargetWrite a n 1) s = .next t ∧ t.resp.status = .done ∧ domState n.val t = dsRaising ∧
      t.get (PWR_DOM_CTL_TARGET n.val) = tgtOn ∧
      Narrow [.resp, .power] [PWR_DOM_STAT_STATE n.val, PWR_DOM_STAT_ENABLE_PENDING n.val, PWR_DOM_CTL_TARGET n.val] s t) ∧
  (∀ (a : Agent) (n : Fin 96) (k : Nat) (s : State), Sound s → pwrWriter a = true → n.val < 82 ∧ n.val ≠ 64 ∧ n.val ≠ 65 →
    s.profile.quiet = none → domState n.val s = dsOff → raiseWaits n.val s = false → s.get ELIM_STAT_WIRING = 0 →
    freeEntry s = some k → s.power.queue.length < 64 →
    ∃ t, exec (.domainTargetWrite a n 1) s = .next t ∧ t.resp.status = .done ∧ t.get (PWR_DOM_STAT_ENABLE_PENDING n.val) = 1 ∧
      t.get (PWR_DOM_CTL_TARGET n.val) = tgtOn ∧ t.get (SLU_ENT_TARGET k) = n.val ∧
      Frame [.resp, .events, .trace, .power, .profile, .clock, .jets, .edge, .weir, .hbm, .enc, .seqs, .ports, .fail, .ra, .sc,
        .noc, .fab, .ldr, .cluster, .casc, .sec, .boot, .dbg] [.sluice, .sluiceEntries, .domains, .clockSources, .clockSelect,
        .clockGates, .loader, .regions, .jetBanks, .jetChannels, .edgeSeqStat, .edgeBanks, .periods, .timingSets, .edgeChannels,
        .sequencers, .captureEcc, .captureLost, .captureSeqs, .failCounts, .failMaps, .repairCtl, .repairRing, .repairDescs,
        .repairDomains, .signalCores, .signalResults, .hbmCfg, .hbmStat, .hbmEcc, .hbmFlip, .hbmSpares, .hbmPass, .hbmClasses,
        .encPass, .encRegions, .cascadeTime, .links, .lanes, .epochs, .cores, .locks, .mailboxes, .doorbells, .scratchpadTests,
        .debugRun, .coreAccess] s t) ∧
  (∀ (a : Agent) (n : Fin 96) (target : Nat) (s : State), Sound s → pwrWriter a = true → n.val ≠ 64 ∧ n.val ≠ 65 →
    target = tgtOff ∨ (target = tgtRetain ∧ retainable n.val = true) → s.profile.quiet = none → domState n.val s = dsOn →
    s.get (PWR_DOM_CTL_TARGET n.val) ≠ target →
    ∃ t, exec (.domainTargetWrite a n target) s = .next t ∧ t.resp.status = .done ∧ domState n.val t = dsLowering ∧
      t.get (PWR_DOM_CTL_TARGET n.val) = target ∧
      Frame [.resp, .events, .trace, .power, .profile, .clock, .jets, .edge, .weir, .hbm, .enc, .seqs, .ports, .fail, .ra, .sc,
        .noc, .fab, .ldr, .cluster, .casc, .sec, .boot, .dbg] [.sluice, .sluiceEntries, .domains, .clockSources, .clockSelect,
        .clockGates, .loader, .regions, .jetBanks, .jetChannels, .edgeSeqStat, .edgeBanks, .periods, .timingSets, .edgeChannels,
        .sequencers, .captureEcc, .captureLost, .captureSeqs, .failCounts, .failMaps, .repairCtl, .repairRing, .repairDescs,
        .repairDomains, .signalCores, .signalResults, .hbmCfg, .hbmStat, .hbmEcc, .hbmFlip, .hbmSpares, .hbmPass, .hbmClasses,
        .encPass, .encRegions, .cascadeTime, .links, .lanes, .epochs, .cores, .locks, .mailboxes, .doorbells, .scratchpadTests,
        .debugRun, .coreAccess] s t) ∧
  (∀ (a : Agent) (n : Fin 96) (target : Nat) (s : State), Sound s → pwrWriter a = true → n.val = 64 ∨ n.val = 65 →
    target = tgtOff ∨ target = tgtRetain → s.profile.quiet = none → domState 64 s = dsOn ∧ domState 65 s = dsOn →
    s.get (PWR_DOM_CTL_TARGET n.val) ≠ target →
    ∃ t, exec (.domainTargetWrite a n target) s = .next t ∧ t.resp.status = .done ∧ domState 64 t = dsLowering ∧
      domState 65 t = dsLowering ∧ t.get (PWR_DOM_CTL_TARGET 64) = target ∧ t.get (PWR_DOM_CTL_TARGET 65) = target ∧
      Frame [.resp, .events, .trace, .power, .profile, .clock, .jets, .edge, .weir, .hbm, .enc, .seqs, .ports, .fail, .ra, .sc,
        .noc, .fab, .ldr, .cluster, .casc, .sec, .boot, .dbg] [.sluice, .sluiceEntries, .domains, .clockSources, .clockSelect,
        .clockGates, .loader, .regions, .jetBanks, .jetChannels, .edgeSeqStat, .edgeBanks, .periods, .timingSets, .edgeChannels,
        .sequencers, .captureEcc, .captureLost, .captureSeqs, .failCounts, .failMaps, .repairCtl, .repairRing, .repairDescs,
        .repairDomains, .signalCores, .signalResults, .hbmCfg, .hbmStat, .hbmEcc, .hbmFlip, .hbmSpares, .hbmPass, .hbmClasses,
        .encPass, .encRegions, .cascadeTime, .links, .lanes, .epochs, .cores, .locks, .mailboxes, .doorbells, .scratchpadTests,
        .debugRun, .coreAccess] s t) ∧
  (∀ (a : Agent) (n : Fin 96) (s : State), Sound s → pwrWriter a = true → n.val ≠ 64 ∧ n.val ≠ 65 → s.profile.quiet = none →
    domState n.val s = dsOn →
    ∃ t, exec (.domainTargetWrite a n 1) s = .next t ∧ t.resp.status = .done ∧ domState n.val t = dsOn ∧
      t.get (PWR_DOM_CTL_TARGET n.val) = tgtOn ∧ Narrow [.resp] [PWR_DOM_CTL_TARGET n.val] s t) ∧
  (∀ (n : Fin 96) (s : State), Sound s → domState n.val s = dsRaising → s.get (PWR_DOM_CTL_TARGET n.val) = tgtOn →
    s.get BOOT_STAT_READY = 0 ∨ s.field.saved = [] →
    ∃ t, exec (.domainRampEnd n) s = .next t ∧ domState n.val t = dsOn ∧
      Frame [.resp, .bootMs, .events, .trace, .power, .profile, .clock, .pins, .jets, .edge, .weir, .hbm, .enc, .seqs, .ports,
        .fail, .ra, .sc, .noc, .fab, .ldr, .flash, .cluster, .casc, .sec, .boot, .dbg, .leap, .field] [.profile, .frameCtl,
        .frameStat, .frameCount, .frameOverruns, .slots, .resetCtl, .resetCause, .bootStat, .sluice, .limiterStat, .limiterTrips,
        .sluiceEntries, .domains, .energyLedger, .clockSources, .clockSelect, .clockMonitor, .fabricClocks, .clockGates, .loader,
        .rill, .regions, .isolation, .blockMemories, .fabricPorts, .jetBanks, .jetChannels, .edgeSeqStat, .edgeBanks, .periods,
        .timingSets, .edgeChannels, .weirCtl, .weirCal, .weirChannels, .sequencers, .captureEcc, .captureLost, .captureSeqs,
        .failCounts, .failMaps, .repairCtl, .repairRing, .repairDescs, .repairDomains, .signalMap, .signalCores, .signalDrops,
        .signalResults, .hbmCfg, .hbmStat, .hbmEcc, .hbmErrlog, .hbmFlip, .hbmSpares, .hbmPass, .hbmClasses, .encKeys, .encPass,
        .encRegions, .nocCtl, .routers, .nocStats, .arbiters, .cascadeCtl, .cascadeTime, .cascadeSend, .cascadeRing, .links,
        .lanes, .epochs, .cores, .locks, .mailboxes, .doorbells, .crcUnits, .owners, .scratchpadEcc, .scratchpadTests, .patches,
        .securityStat, .tamper, .almanac, .audit, .attestation, .fieldStat, .sessions, .debugCtl, .debugRun, .debugFreeze,
        .traceCtl, .coreAccess, .stimulus, .debugBuffer] s t) ∧
  (∀ (n : Fin 96) (s : State), Sound s → domState n.val s = dsLowering → mayQuiesce n.val s = true → n.val ∉ s.power.toRetain →
    s.get (PWR_DOM_CTL_TARGET n.val) = tgtOff →
    ∃ t, exec (.domainQuiesced n) s = .next t ∧ domState n.val t = dsOff ∧
      Frame [.events, .trace, .power, .profile, .jets, .edge, .hbm, .enc, .seqs, .fail, .ra, .sc, .fab, .ldr, .cluster, .boot,
        .leap] [.sluice, .sluiceEntries, .domains, .loader, .regions, .jetBanks, .jetChannels, .edgeSeqStat, .edgeBanks, .periods,
        .timingSets, .edgeChannels, .sequencers, .captureEcc, .captureSeqs, .failCounts, .failMaps, .repairCtl, .repairRing,
        .repairDescs, .repairDomains, .signalCores, .signalResults, .hbmCfg, .hbmStat, .hbmEcc, .hbmFlip, .hbmSpares, .hbmPass,
        .hbmClasses, .encPass, .encRegions, .debugRun] s t) ∧
  (∀ (n : Fin 96) (s : State), Sound s → domState n.val s = dsLowering → outstanding n.val s ≠ 0 → n.val ∉ s.power.toRetain →
    s.get (PWR_DOM_CTL_TARGET n.val) = tgtOff →
    ∃ t, exec (.loweringForced n) s = .next t ∧ domState n.val t = dsOff ∧ t.get (PWR_DOM_STAT_FORCED n.val) = 1 ∧
      Frame [.resp, .events, .trace, .power, .profile, .jets, .edge, .hbm, .enc, .seqs, .fail, .ra, .sc, .noc, .fab, .ldr,
        .cluster, .boot] [.sluice, .sluiceEntries, .domains, .loader, .regions, .jetBanks, .jetChannels, .edgeSeqStat, .edgeBanks,
        .periods, .timingSets, .edgeChannels, .sequencers, .captureEcc, .captureSeqs, .failCounts, .failMaps, .repairCtl,
        .repairRing, .repairDescs, .repairDomains, .signalCores, .signalResults, .hbmCfg, .hbmStat, .hbmEcc, .hbmFlip, .hbmSpares,
        .hbmPass, .hbmClasses, .encPass, .encRegions, .debugRun] s t)

/-- Completion of DOMAIN resets, in the cases listed. In every sound state: a DOMAIN reset of a domain that is not a control
core's, by an agent that may write PWR_DOM_CTL and with no DOMAIN reset of it in progress, answers DONE and clears FORCED, and
its hold begins at once where nothing is outstanding and no node is left to write back, else it waits for quiescence; one of the
domain of a control core that is ON, has firmware and is not to halt starts that core; the timeout of the wait sets FORCED and
begins the hold; the end of a bank's hold leaves JET_CFG.EN, RANGE, OFFMODE and LOAD of its 16 channels at 0, the end of a
sequencer group's hold leaves its four sequencers STOPPED with their eight SEQ_TICKET entries invalid, and the end of the hold
of any other domain completes. The frames are stated. (R46, R100, R102.) -/
def Obligations.DomainResetCommandsComplete : Prop :=
  (∀ (a : Agent) (n : Fin 96) (s : State), Sound s → pwrWriter a = true → n.val < 82 ∨ 86 ≤ n.val →
    n.val ∉ s.power.resetWait ∧ n.val ∉ s.power.resetHold → outstanding n.val s = 0 ∧ nodesLeft n.val s = false →
    ∃ t, exec (.domainReset a n) s = .next t ∧ t.resp.status = .done ∧ t.get (PWR_DOM_STAT_FORCED n.val) = 0 ∧
      n.val ∈ t.power.resetHold ∧
      Frame [.resp, .events, .trace, .power, .jets, .ports, .sc, .noc, .fab, .ldr, .cluster, .sec, .dbg] [.sluiceEntries,
        .domains, .regions, .jetBanks, .jetChannels, .epochs, .cores, .locks, .mailboxes, .doorbells, .debugRun, .coreAccess] s t) ∧
  (∀ (a : Agent) (n : Fin 96) (s : State), Sound s → pwrWriter a = true → n.val < 82 ∨ 86 ≤ n.val →
    n.val ∉ s.power.resetWait ∧ n.val ∉ s.power.resetHold → outstanding n.val s ≠ 0 ∨ nodesLeft n.val s = true →
    ∃ t, exec (.domainReset a n) s = .next t ∧ t.resp.status = .done ∧ t.get (PWR_DOM_STAT_FORCED n.val) = 0 ∧
      n.val ∈ t.power.resetWait ∧
      Frame [.resp, .events, .trace, .power, .jets, .ports, .sc, .noc, .fab, .ldr, .cluster, .sec, .dbg] [.sluiceEntries,
        .domains, .regions, .jetBanks, .jetChannels, .epochs, .cores, .locks, .mailboxes, .doorbells, .debugRun, .coreAccess] s t) ∧
  (∀ (a : Agent) (n : Fin 96) (s : State), Sound s → pwrWriter a = true → 82 ≤ n.val ∧ n.val < 86 →
    n.val ∉ s.power.resetWait ∧ n.val ∉ s.power.resetHold → domOn n.val s = true → coreHasFirmware (n.val - 82) s = true →
    s.get (DBG_RUN_RHALT (n.val - 82)) = 0 →
    ∃ t, exec (.domainReset a n) s = .next t ∧ t.resp.status = .done ∧ t.get (CORE_STAT_STATE (n.val - 82)) = coreRun ∧
      Frame [.resp, .events, .trace, .power, .jets, .ports, .sc, .noc, .fab, .ldr, .cluster, .sec, .dbg] [.sluiceEntries,
        .domains, .regions, .jetBanks, .jetChannels, .epochs, .cores, .locks, .mailboxes, .doorbells, .debugRun, .coreAccess] s t) ∧
  (∀ (n : Fin 96) (s : State), Sound s → n.val ∈ s.power.resetWait → outstanding n.val s ≠ 0 →
    ∃ t, exec (.dresetQuiesceTimeout n) s = .next t ∧ t.get (PWR_DOM_STAT_FORCED n.val) = 1 ∧ n.val ∈ t.power.resetHold ∧
      Frame [.resp, .events, .trace, .power, .jets, .hbm, .enc, .noc, .fab] [.domains, .encRegions] s t) ∧
  (∀ (n : Fin 96) (s : State), Sound s → n.val ∈ s.power.resetHold ∨ (n.val ∈ s.power.resetWait ∧ mayQuiesce n.val s = true) →
    16 ≤ n.val ∧ n.val < 48 →
    ∃ t, exec (.domainResetHoldEnd n) s = .next t ∧ (∀ c < 16, t.get (JET_CFG_EN (16 * (n.val - 16) + c)) = 0) ∧
      (∀ c < 16, t.get (JET_CFG_LOAD (16 * (n.val - 16) + c)) = 0) ∧
      (∀ c < 16, t.get (JET_CFG_RANGE (16 * (n.val - 16) + c)) = 0) ∧
      (∀ c < 16, t.get (JET_CFG_OFFMODE (16 * (n.val - 16) + c)) = 0) ∧
      Frame [.resp, .events, .trace, .power, .clock, .jets, .edge, .weir, .hbm, .enc, .seqs, .ports, .fail, .ra, .sc, .noc, .fab,
        .cluster, .casc, .boot, .dbg, .leap] [.sluiceEntries, .domains, .energyLedger, .clockSources, .clockSelect, .loader,
        .blockMemories, .jetBanks, .jetChannels, .edgeSeqStat, .edgeBanks, .periods, .timingSets, .edgeChannels, .weirChannels,
        .sequencers, .captureEcc, .captureLost, .captureSeqs, .failCounts, .failMaps, .repairCtl, .repairRing, .repairDescs,
        .repairDomains, .signalCores, .signalResults, .hbmCfg, .hbmStat, .hbmEcc, .hbmFlip, .hbmSpares, .hbmPass, .hbmClasses,
        .encPass, .encRegions, .cascadeTime, .links, .lanes, .epochs, .locks, .mailboxes, .scratchpadTests, .debugRun, .traceCtl]
        s t) ∧
  (∀ (n : Fin 96) (s : State), Sound s → n.val ∈ s.power.resetHold ∨ (n.val ∈ s.power.resetWait ∧ mayQuiesce n.val s = true) →
    66 ≤ n.val ∧ n.val < 70 →
    ∃ t, exec (.domainResetHoldEnd n) s = .next t ∧ (∀ q < 4, t.get (SEQ_STAT_STATE (4 * (n.val - 66) + q)) = 0) ∧
      (∀ q < 4, ∀ j < 8, t.get (SEQ_TICKET_VALID (4 * (n.val - 66) + q) j) = 0) ∧
      Frame [.resp, .events, .trace, .power, .clock, .jets, .edge, .weir, .hbm, .enc, .seqs, .ports, .fail, .ra, .sc, .noc, .fab,
        .cluster, .casc, .boot, .dbg, .leap] [.sluiceEntries, .domains, .energyLedger, .clockSources, .clockSelect, .loader,
        .blockMemories, .jetBanks, .jetChannels, .edgeSeqStat, .edgeBanks, .periods, .timingSets, .edgeChannels, .weirChannels,
        .sequencers, .captureEcc, .captureLost, .captureSeqs, .failCounts, .failMaps, .repairCtl, .repairRing, .repairDescs,
        .repairDomains, .signalCores, .signalResults, .hbmCfg, .hbmStat, .hbmEcc, .hbmFlip, .hbmSpares, .hbmPass, .hbmClasses,
        .encPass, .encRegions, .cascadeTime, .links, .lanes, .epochs, .locks, .mailboxes, .scratchpadTests, .debugRun, .traceCtl]
        s t) ∧
  (∀ (n : Fin 96) (s : State), Sound s → n.val ∈ s.power.resetHold ∨ (n.val ∈ s.power.resetWait ∧ mayQuiesce n.val s = true) →
    n.val < 16 ∨ (48 ≤ n.val ∧ n.val < 66) ∨ 70 ≤ n.val →
    ∃ t, exec (.domainResetHoldEnd n) s = .next t ∧
      Frame [.resp, .events, .trace, .power, .clock, .jets, .edge, .weir, .hbm, .enc, .seqs, .ports, .fail, .ra, .sc, .noc, .fab,
        .cluster, .casc, .boot, .dbg, .leap] [.sluiceEntries, .domains, .energyLedger, .clockSources, .clockSelect, .loader,
        .blockMemories, .jetBanks, .jetChannels, .edgeSeqStat, .edgeBanks, .periods, .timingSets, .edgeChannels, .weirChannels,
        .sequencers, .captureEcc, .captureLost, .captureSeqs, .failCounts, .failMaps, .repairCtl, .repairRing, .repairDescs,
        .repairDomains, .signalCores, .signalResults, .hbmCfg, .hbmStat, .hbmEcc, .hbmFlip, .hbmSpares, .hbmPass, .hbmClasses,
        .encPass, .encRegions, .cascadeTime, .links, .lanes, .epochs, .locks, .mailboxes, .scratchpadTests, .debugRun, .traceCtl]
        s t)

/-- Completion of profile changes, QUIET's reloads, the energy limiter and VIN, in the cases listed. In every sound state: a
profile change to the current profile by an agent that may ask for it and with none pending ends DONE with RESULT 0, and one
through the register to another profile whose limits hold, with a free Sluice entry and fewer than 64 requests waiting, takes
the entry and pends; the reload of a region that leaving QUIET raised to ON again, with HBM ready and room in the loader's
queue, leaves the list of due reloads; an onset of a current that is a fault current puts the ball in fault, and the end of the
event takes it out; a ball in fault whose integral reaches 40 µJ and whose latch is clear is latched and held at high impedance;
a window sum of 1.8 mJ with the latch clear latches the wiring trip; ball latches written 1 clear where none of those balls is
in fault, and the wiring latch where the window is below 1.8 mJ and no ball is in fault; a ledger snapshot that is due, in a
slot that lets duty 7 work, takes totals, faults, the merge mark and the window; VIN sags from on, bleeds to off with the flash
kept, and rises. The frames are stated. (R23, R27, R64, R65, R66, R68, R69, R70.) -/
def Obligations.ProfileAndLimiterCommandsComplete : Prop :=
  (∀ (a : Agent) (viaObject : Bool) (req : Nat) (s : State), Sound s →
    (viaObject = false ∧ a.core03 = true) ∨ (a.init.val = 49 ∧ a.role ≠ .none) → req ≤ 3 → s.profile.entry = none →
    req = curProfile s →
    ∃ t, exec (.profileChangeRequest a viaObject req) s = .next t ∧ t.resp.status = .done ∧ t.get SYS_PROFILE_RESULT = 0 ∧
      t.get SYS_PROFILE_PENDING = 0 ∧
      Frame [.resp, .events, .trace, .power, .profile, .jets] [.profile, .sluice, .sluiceEntries, .domains, .jetBanks, .jetChannels] s t) ∧
  (∀ (a : Agent) (req k : Nat) (s : State), Sound s → a.core03 = true ∨ a.init.val = 49 → req ≤ 3 → s.profile.entry = none →
    req ≠ curProfile s → loadExceeds req s = none → freeEntry s = some k → s.power.queue.length < 64 →
    ∃ t, exec (.profileChangeRequest a false req) s = .next t ∧ t.resp.status = .done ∧ t.get SYS_PROFILE_PENDING = 1 ∧
      t.profile.entry = some k ∧ t.profile.req = req ∧
      Frame [.resp, .events, .trace, .power, .profile, .jets] [.profile, .sluice, .sluiceEntries, .domains, .jetBanks, .jetChannels] s t) ∧
  (∀ (r : Fin 16) (p : Nat × Nat × Bool) (s : State), Sound s → (s.profile.reload.find? (fun p => p.1 == r.val) = some p) →
    domOn r.val s = true → s.get HBM_STAT_STATE = hbmReady → s.ldr.queue.length < 16 →
    ∃ t, exec (.quietRegionReload r) s = .next t ∧ (t.profile.reload = s.profile.reload.filter (fun q => q.1 != r.val)) ∧
      Narrow [.profile, .ldr] [] s t) ∧
  (∀ (onset : BallCurrent) (s : State), Sound s → faultCurrent onset.ch.val onset.nA s = true →
    ∃ t, exec (.ballFaultOnset onset) s = .next t ∧ onset.ch.val ∈ t.power.inFault ∧ Narrow [.power] [] s t) ∧
  (∀ (ch : Fin 512) (s : State), Sound s →
    ∃ t, exec (.faultEventEnd ch) s = .next t ∧ t.power.inFault = s.power.inFault.erase ch.val ∧ Narrow [.power] [] s t) ∧
  (∀ (ch : Fin 512) (energyNJ : Nat) (s : State), Sound s → ch.val ∈ s.power.inFault → 40000 ≤ energyNJ →
    bit (s.get (ELIM_TRIP_BALL (ch.val / 16))) (ch.val % 16) = false →
    ∃ t, exec (.ballTrip ch energyNJ) s = .next t ∧ bit (t.get (ELIM_TRIP_BALL (ch.val / 16))) (ch.val % 16) = true ∧
      jetTripped ch.val t = true ∧ Narrow [.events, .trace, .power, .jets] [ELIM_TRIP_BALL (ch.val / 16)] s t) ∧
  (∀ (windowUJ : Nat) (s : State), Sound s → 1800 ≤ windowUJ → s.get ELIM_STAT_WIRING = 0 →
    ∃ t, exec (.wiringTrip windowUJ) s = .next t ∧ t.get ELIM_STAT_WIRING = 1 ∧ t.get ELIM_STAT_WIN_FAULT = min windowUJ 65535 ∧
      Frame [.resp, .events, .trace, .power, .clock, .jets, .edge, .weir, .hbm, .enc, .seqs, .ports, .fail, .ra, .sc, .noc, .fab,
        .ldr, .cluster, .casc, .sec, .boot] [.limiterStat, .sluiceEntries, .domains, .clockSources, .clockSelect, .clockGates,
        .loader, .regions, .jetBanks, .jetChannels, .edgeSeqStat, .edgeBanks, .periods, .timingSets, .edgeChannels, .sequencers,
        .captureEcc, .captureLost, .captureSeqs, .failCounts, .failMaps, .repairCtl, .repairRing, .repairDescs, .repairDomains,
        .signalCores, .signalResults, .hbmCfg, .hbmStat, .hbmEcc, .hbmFlip, .hbmSpares, .hbmPass, .hbmClasses, .encPass,
        .encRegions, .cascadeTime, .links, .lanes, .epochs, .cores, .locks, .mailboxes, .doorbells, .scratchpadTests, .debugRun] s
        t) ∧
  (∀ (a : Agent) (b : Fin 32) (mask : Nat) (s : State), Sound s →
    (∀ c < 16, bit mask c = true → 16 * b.val + c ∉ s.power.inFault) →
    ∃ t, exec (.ballLatchClear a b mask) s = .next t ∧ t.resp.status = .done ∧
      (∀ c < 16, bit (t.get (ELIM_TRIP_BALL b.val)) c = (bit (s.get (ELIM_TRIP_BALL b.val)) c && !bit mask c)) ∧
      Narrow [.resp, .events, .trace] [ELIM_TRIP_BALL b.val] s t) ∧
  (∀ (a : Agent) (s : State), Sound s → s.on ELIM_STAT_WIRING = true → s.get ELIM_STAT_WIN_FAULT < 1800 → s.power.inFault = [] →
    ∃ t, exec (.wiringLatchClear a) s = .next t ∧ t.resp.status = .done ∧ t.get ELIM_STAT_WIRING = 0 ∧
      Narrow [.resp, .events, .trace] [ELIM_STAT_WIRING] s t) ∧
  (∀ (samples : List EnergySample) (windowUJ : Nat) (s : State), Sound s → (dutySlot 7 anySlot s).isSome = true →
    s.power.ledgerDue ≠ 0 →
    ∃ t, exec (.energyLedgerStep samples windowUJ) s = .next t ∧ t.power.ledgerDue = 0 ∧
      t.get ELIM_STAT_WIN_FAULT = min windowUJ 65535 ∧
      (∀ n < 512, t.get (ENL_MERGED n) = if 2 ≤ s.power.ledgerDue then 1 else 0) ∧
      (∀ n < 512, t.get (ENL_TOTAL n) = min (((samples.find? (fun y => y.ch.val == n)).map (fun x => x.total)).getD 0) (2 ^ 32 - 1)) ∧
      (∀ n < 512, t.get (ENL_FAULT n) = min (((samples.find? (fun y => y.ch.val == n)).map (fun x => x.fault)).getD 0) (2 ^ 24 - 1)) ∧
      Frame [.power, .clock] [.limiterStat, .energyLedger] s t) ∧
  (∀ (s : State), Sound s → s.power.vin = .on →
    ∃ t, exec .vinSag s = .next t ∧ t.power.vin = .sagging ∧ Narrow [.power, .jets] [] s t) ∧
  (∀ (s : State), Sound s → s.power.vin ≠ .off →
    ∃ t, exec .bleed s = .next t ∧ t.power.vin = .off ∧ t.flash = s.flash ∧
      Frame [.resp, .bootMs, .events, .trace, .power, .profile, .clock, .pins, .jets, .edge, .weir, .hbm, .enc, .seqs, .ports,
        .fail, .ra, .sc, .noc, .fab, .ldr, .flash, .cluster, .casc, .sec, .boot, .dbg, .leap, .field] [.profile, .frameCtl,
        .frameStat, .frameCount, .frameOverruns, .slots, .resetCtl, .resetCause, .bootStat, .sluice, .limiterStat, .limiterTrips,
        .sluiceEntries, .domains, .energyLedger, .clockSources, .clockSelect, .clockMonitor, .fabricClocks, .clockGates, .loader,
        .rill, .regions, .isolation, .blockMemories, .fabricPorts, .jetBanks, .jetChannels, .edgeSeqStat, .edgeBanks, .periods,
        .timingSets, .edgeChannels, .weirCtl, .weirCal, .weirChannels, .sequencers, .captureEcc, .captureLost, .captureSeqs,
        .failCounts, .failMaps, .repairCtl, .repairRing, .repairDescs, .repairDomains, .signalMap, .signalCores, .signalDrops,
        .signalResults, .hbmCfg, .hbmStat, .hbmEcc, .hbmErrlog, .hbmFlip, .hbmSpares, .hbmPass, .hbmClasses, .encKeys, .encPass,
        .encRegions, .nocCtl, .routers, .nocStats, .arbiters, .cascadeCtl, .cascadeTime, .cascadeSend, .cascadeRing, .links,
        .lanes, .epochs, .cores, .locks, .mailboxes, .doorbells, .crcUnits, .owners, .scratchpadEcc, .scratchpadTests, .patches,
        .securityStat, .tamper, .almanac, .audit, .attestation, .fieldStat, .sessions, .debugCtl, .debugRun, .debugFreeze,
        .traceCtl, .coreAccess, .stimulus, .debugBuffer] s t) ∧
  (∀ (s : State), Sound s → s.power.vin ≠ .on →
    ∃ t, exec .vinRise s = .next t ∧ t.power.vin = .on ∧ Narrow [.power] [] s t)

/-- Completion of the commands of clock sources, muxes, fabric clocks, gates and CLKMON, in the cases listed. In every sound
state: a source that is OK and is lost clears its OK bit and sets its LOST bit; a source not OK that is judged stable, source 2
only while an UP link is ACTIVE, sets OK; the generators' lock ends HOLDOVER while the active source is OK; a new mux selection
in range sets SEL, answers DONE and leaves PEND set exactly when the mux still stands on another source; a mux with PEND set
whose old and new clocks run clears PEND and stands on its selection, and the reference mux makes the selected source active; a
wait that runs out for the first time with the new clock running clears PEND where FORCE is set, and is otherwise recorded with
PEND left; FORCE written after that wait clears PEND; a fabric frequency of 100 to 800 MHz is taken and the generator relocks
until FAB_RELOCK_DONE; CLKMON takes a setting that is not too fast; a gate of a domain not in LOWERING that is asked to close
pends, a pending one with nothing outstanding takes CLOSE at the acknowledgement, or clears PEND and CLOSE and reports ACK_MISS
at the timeout, and one that does not pend opens on request. The frame of each is stated. (R76, R77, R79, R80, R81, R82, R83.)
-/
def Obligations.ClockCommandsComplete : Prop :=
  (∀ (src : Fin 3) (s : State), Sound s → srcOk src.val s = true →
    ∃ t, exec (.referenceLost src) s = .next t ∧ srcOk src.val t = false ∧ bit (t.get CLK_SRC_STAT_LOST) src.val = true ∧
      Frame [.resp, .events, .trace, .power, .clock, .jets, .enc, .sc, .fab, .cluster, .sec, .leap] [.sluiceEntries, .domains,
        .clockSources, .clockSelect, .jetBanks, .jetChannels, .encRegions, .cores, .securityStat, .tamper, .almanac, .audit,
        .attestation, .sessions, .debugCtl, .debugRun] s t) ∧
  (∀ (src : Fin 3) (s : State), Sound s → srcOk src.val s = false → (src.val = 2 → upActive s = true) →
    ∃ t, exec (.sourceStable src) s = .next t ∧ srcOk src.val t = true ∧ Narrow [.events, .trace] [CLK_SRC_STAT_OK] s t) ∧
  (∀ (s : State), Sound s → s.on CLK_SRC_STAT_HOLDOVER = true → srcOk (s.get CLK_SRC_STAT_ACTIVE) s = true →
    ∃ t, exec .generatorLock s = .next t ∧ t.get CLK_SRC_STAT_HOLDOVER = 0 ∧ Narrow [] [CLK_SRC_STAT_HOLDOVER] s t) ∧
  (∀ (a : Agent) (m : Fin 5) (value : Nat) (s : State), Sound s → (value ≤ if m.val = 0 then 2 else 1) →
    s.get (CLK_SEL_SEL m.val) ≠ value →
    ∃ t, exec (.muxSelect a m value) s = .next t ∧ t.resp.status = .done ∧ t.get (CLK_SEL_SEL m.val) = value ∧
      (t.get (CLK_SEL_PEND m.val) = if value = muxNow m.val s then 0 else 1) ∧
      Narrow [.resp, .clock] [CLK_SEL_WAIT m.val, CLK_SEL_FORCE m.val, CLK_SEL_AUTO 0, CLK_SEL_SEL m.val, CLK_SEL_PEND m.val] s t) ∧
  (∀ (m : Fin 5) (s : State), Sound s → s.on (CLK_SEL_PEND m.val) = true → m.val ≠ 0 →
    muxClockRuns m.val (muxNow m.val s) s = true ∧ muxClockRuns m.val (s.get (CLK_SEL_SEL m.val)) s = true →
    ∃ t, exec (.muxSwitch m) s = .next t ∧ t.get (CLK_SEL_PEND m.val) = 0 ∧ Narrow [.clock] [CLK_SEL_PEND m.val] s t) ∧
  (∀ (s : State), Sound s → s.on (CLK_SEL_PEND 0) = true →
    srcRuns (muxNow 0 s) s = true ∧ srcRuns (s.get (CLK_SEL_SEL 0)) s = true →
    ∃ t, exec (.muxSwitch 0) s = .next t ∧ t.get (CLK_SEL_PEND 0) = 0 ∧ t.get CLK_SRC_STAT_ACTIVE = s.get (CLK_SEL_SEL 0) % 4 ∧
      Narrow [.clock] [CLK_SEL_PEND 0, CLK_SRC_STAT_ACTIVE] s t) ∧
  (∀ (m : Fin 5) (s : State), Sound s → s.on (CLK_SEL_PEND m.val) = true → m.val ∉ s.clock.muxWaited →
    muxClockRuns m.val (s.get (CLK_SEL_SEL m.val)) s = true → s.on (CLK_SEL_FORCE m.val) = true →
    ∃ t, exec (.muxWaitExpiry m) s = .next t ∧ t.get (CLK_SEL_PEND m.val) = 0 ∧
      Frame [.events, .trace, .clock, .fab] [.clockSources, .clockSelect] s t) ∧
  (∀ (m : Fin 5) (s : State), Sound s → s.on (CLK_SEL_PEND m.val) = true → m.val ∉ s.clock.muxWaited →
    muxClockRuns m.val (s.get (CLK_SEL_SEL m.val)) s = true → s.on (CLK_SEL_FORCE m.val) = false →
    ∃ t, exec (.muxWaitExpiry m) s = .next t ∧ t.clock.muxWaited = s.clock.muxWaited ++ [m.val] ∧
      Narrow [.events, .trace, .clock] [] s t) ∧
  (∀ (a : Agent) (m : Fin 5) (s : State), Sound s → (s.get (CLK_SEL_SEL m.val) ≤ if m.val = 0 then 2 else 1) →
    m.val ∈ s.clock.muxWaited →
    ∃ t, exec (.muxForce a m) s = .next t ∧ t.resp.status = .done ∧ t.get (CLK_SEL_PEND m.val) = 0 ∧
      Frame [.resp, .events, .trace, .clock, .fab] [.clockSources, .clockSelect] s t) ∧
  (∀ (a : Agent) (i : Fin 4) (mhz : Nat) (s : State), Sound s → 100 ≤ mhz → mhz ≤ 800 →
    ∃ t, exec (.fabFrequencyChange a i mhz) s = .next t ∧ t.resp.status = .done ∧ t.get (CLK_FAB_MHZ i.val) = mhz ∧
      i.val ∈ t.clock.relock ∧ muxNow (i.val + 1) t = 1 ∧
      Narrow [.resp, .events, .trace, .clock] [CLK_FAB_MHZ i.val, CLKMON_CTL_EN] s t) ∧
  (∀ (i : Fin 4) (s : State), Sound s → i.val ∈ s.clock.relock →
    ∃ t, exec (.fabRelockDone i) s = .next t ∧ t.clock.relock = s.clock.relock.erase i.val ∧ Narrow [.clock] [] s t) ∧
  (∀ (a : Agent) (value : Nat) (s : State), Sound s →
    (CLKMON_CTL_EN.hit value && clkmonFast (CLKMON_CTL_SRC.of value) (CLKMON_CTL_DIV.of value) s) = false →
    ∃ t, exec (.clkmonConfig a value) s = .next t ∧ t.resp.status = .done ∧ t.get CLKMON_CTL_EN = CLKMON_CTL_EN.of value ∧
      t.get CLKMON_CTL_DIV = CLKMON_CTL_DIV.of value ∧ t.get CLKMON_CTL_SRC = CLKMON_CTL_SRC.of value ∧
      Narrow [.resp] [CLKMON_CTL_EN, CLKMON_CTL_DIV, CLKMON_CTL_SRC] s t) ∧
  (∀ (a : Agent) (n : Fin 96) (s : State), Sound s → domState n.val s ≠ dsLowering → s.get (CLK_GATE_PEND n.val) = 0 →
    s.get (CLK_GATE_CLOSED n.val) = 0 →
    ∃ t, exec (.gateCloseRequest a n) s = .next t ∧ t.resp.status = .done ∧ t.get (CLK_GATE_CLOSE n.val) = 1 ∧
      t.get (CLK_GATE_PEND n.val) = 1 ∧
      Narrow [.resp, .clock] [CLK_GATE_CLOSE n.val, CLK_GATE_PEND n.val, CLK_GATE_ACK_MISS n.val] s t) ∧
  (∀ (n : Fin 96) (s : State), Sound s → s.on (CLK_GATE_PEND n.val) = true → outstanding n.val s = 0 →
    ∃ t, exec (.gateAck n) s = .next t ∧ t.get (CLK_GATE_PEND n.val) = 0 ∧
      t.get (CLK_GATE_CLOSED n.val) = s.get (CLK_GATE_CLOSE n.val) ∧
      Narrow [.ldr, .fab] [CLK_GATE_PEND n.val, CLK_GATE_CLOSED n.val] s t) ∧
  (∀ (n : Fin 96) (s : State), Sound s → s.on (CLK_GATE_PEND n.val) = true →
    ∃ t, exec (.gateAckTimeout n) s = .next t ∧ t.get (CLK_GATE_PEND n.val) = 0 ∧ t.get (CLK_GATE_CLOSE n.val) = 0 ∧
      t.get (CLK_GATE_ACK_MISS n.val) = 1 ∧
      Narrow [.events, .trace, .ldr, .fab] [CLK_GATE_PEND n.val, CLK_GATE_CLOSE n.val, CLK_GATE_ACK_MISS n.val] s t) ∧
  (∀ (a : Agent) (n : Fin 96) (s : State), Sound s → s.get (CLK_GATE_PEND n.val) = 0 →
    ∃ t, exec (.gateOpen a n) s = .next t ∧ t.resp.status = .done ∧ t.get (CLK_GATE_CLOSE n.val) = 0 ∧
      t.get (CLK_GATE_CLOSED n.val) = 0 ∧
      Narrow [.resp] [CLK_GATE_CLOSE n.val, CLK_GATE_CLOSED n.val, CLK_GATE_ACK_MISS n.val] s t)

/-- Completion of ticks, the frame and slot registers and the telemetry snapshot, in the cases listed. In every sound state in
which the generator runs and no SDO request waits: a LOCAL tick, an accepted SYNC0 event and a tick in place of a missing one
raise the 48-bit frame count by one and put the period written last in force, a missing one with HOLDOVER set and MISSED one
higher. A valid write of FRM_CTL is taken, and clears MISSED after a fallback. A write of a slot register takes its four entries
with bit 4 of each cleared and clears ARM; ARM is taken when every duty but 4 has a slot. A telemetry snapshot that is due, in a
slot that lets duty 6 work, becomes the one that readers see, with its frame. The frames of the register commands are stated.
(R84, R85, R86, R87, R92, R93.) -/
def Obligations.FrameCommandsComplete : Prop :=
  (∀ (misaligned : List (Fin 32)) (s : State), Sound s → ticksRun s = true → s.get FRM_CTL_SRC = 0 → s.field.sdo = [] →
    ∃ t, exec (.frameTick misaligned) s = .next t ∧ t.get FRM_COUNT_COUNT = (s.get FRM_COUNT_COUNT + 1) % 2 ^ 48 ∧
      t.get FRM_STAT_PERIOD_ACT = s.get FRM_CTL_PERIOD % 2 ^ 24 ∧ t.get FRM_STAT_SRC_ACT = 0 ∧ t.get FRM_STAT_HOLDOVER = 0) ∧
  (∀ (atPs : Nat) (misaligned : List (Fin 32)) (s : State), Sound s → ticksRun s = true → s.get FRM_CTL_SRC = 1 →
    s.get FRM_STAT_ACQUIRING = 0 → s.get FRM_STAT_SRC_ACT = 1 → within1us atPs s.clock.expectPs = true →
    s.clock.tickPs + 2000000 ≤ edgeAfter atPs → s.field.sdo = [] →
    ∃ t, exec (.sync0Event atPs misaligned) s = .next t ∧ t.get FRM_COUNT_COUNT = (s.get FRM_COUNT_COUNT + 1) % 2 ^ 48 ∧
      t.get FRM_STAT_SRC_ACT = 1 ∧ t.get FRM_STAT_HOLDOVER = 0 ∧ t.get FRM_STAT_MISSED = 0) ∧
  (∀ (misaligned : List (Fin 32)) (s : State), Sound s → ticksRun s = true → sourceMissing s = true → s.field.sdo = [] →
    ∃ t, exec (.tickMissing misaligned) s = .next t ∧ t.get FRM_COUNT_COUNT = (s.get FRM_COUNT_COUNT + 1) % 2 ^ 48 ∧
      t.get FRM_STAT_HOLDOVER = 1 ∧ t.get FRM_STAT_MISSED = (s.get FRM_STAT_MISSED + 1) % 256) ∧
  (∀ (a : Agent) (value : Nat) (s : State), Sound s → FRM_CTL_SRC.of value ≠ 3 → 2000 ≤ FRM_CTL_PERIOD.of value →
    FRM_CTL_PERIOD.of value ≤ 10000000 →
    ∃ t, exec (.frameControlWrite a value) s = .next t ∧ t.resp.status = .done ∧ t.get FRM_CTL_SRC = FRM_CTL_SRC.of value ∧
      t.get FRM_CTL_PERIOD = FRM_CTL_PERIOD.of value ∧
      (t.get FRM_STAT_MISSED = (if tickFell s then 0 else s.get FRM_STAT_MISSED)) ∧
      Narrow [.resp, .clock] [FRM_CTL_SRC, FRM_CTL_PERIOD, FRM_STAT_MISSED, FRM_STAT_ACQUIRING] s t) ∧
  (∀ (a : Agent) (k : Fin 16) (value : Nat) (s : State), Sound s →
    ∃ t, exec (.slotShadowWrite a k value) s = .next t ∧ t.resp.status = .done ∧
      t.get (SLOT_SHD_SLOT0 k.val) = (SLOT_SHD_SLOT0 k.val).of (Nat.land value 0xEFEFEFEF) ∧
      t.get (SLOT_SHD_SLOT1 k.val) = (SLOT_SHD_SLOT1 k.val).of (Nat.land value 0xEFEFEFEF) ∧
      t.get (SLOT_SHD_SLOT2 k.val) = (SLOT_SHD_SLOT2 k.val).of (Nat.land value 0xEFEFEFEF) ∧
      t.get (SLOT_SHD_SLOT3 k.val) = (SLOT_SHD_SLOT3 k.val).of (Nat.land value 0xEFEFEFEF) ∧ t.get SLOT_CTL_ARM = 0 ∧
      Narrow [.resp] [SLOT_SHD_SLOT0 k.val, SLOT_SHD_SLOT1 k.val, SLOT_SHD_SLOT2 k.val, SLOT_SHD_SLOT3 k.val, SLOT_CTL_ARM] s t) ∧
  (∀ (a : Agent) (s : State), Sound s → (∀ d < 8, d ≠ 4 → dutyHasSlot d s = true) →
    ∃ t, exec (.slotArm a) s = .next t ∧ t.resp.status = .done ∧ t.get SLOT_CTL_ARM = 1 ∧
      Narrow [.resp] [SLOT_CTL_ARM, SLOT_CTL_SWAPPED] s t) ∧
  (∀ (fr : Nat) (s : State), Sound s → (dutySlot 6 anySlot s).isSome = true → s.clock.teleDue = some fr →
    ∃ t, exec .telemetrySnapshot s = .next t ∧ t.clock.teleDue = none ∧ t.clock.tele = s.clock.teleCap ∧ t.clock.teleStamp = fr ∧
      Narrow [.clock] [] s t)

/-- Completion of resets, boot steps, TAP updates and the temperature threshold, in the cases listed. In every sound state: a
COLD reset puts every register field but BOOT_STAT.STAGE at its reset value, STAGE at 0, holds PORST_N low and leaves flash
alone; a WARM reset by its pin with PORST_N high records its cause and count, puts STAGE at step 3 and leaves flash alone;
RST_CTL with KEY 5AH and WARM, by an agent that may write it, records source 2 and puts STAGE at 3 and the frame count at 0
where no Almanac programming is in progress, and the reset of one core leaves that core running where it has power and verified
firmware and is not to halt; object 0x2000:0x31 written 5AH by an installer or maker answers DONE and asks for the delayed
reset, which acts when no Almanac programming defers it. The release of PORST_N with VIN on begins boot step 1, and that of
SRST_N with PORST_N high at step 3 or later sets the frame count to 0; the end of steps 1, 2 and 6, where the step may end,
begins the next, and step 7 ends with READY set. Test-Logic-Reset selects IDCODE, Update-IR takes the instruction, Update-DR of
the boundary register its 14 cells while an instruction selects it; THERM_N is low from 100 °C on, released to 95 °C down, and
as before between, with VIN not off and PORST_N high from boot step 2 on. (R43, R96, R100, R101, R103, R104, R110.) -/
def Obligations.ResetAndBootCommandsComplete : Prop :=
  (∀ (s : State), Sound s →
    ∃ t, exec .coldReset s = .next t ∧ t.pins.porstLow = true ∧ t.get BOOT_STAT_STAGE = 0 ∧
      (∀ f : Fld, f.key ≠ BOOT_STAT_STAGE.key → t.get f = f.reset % 2 ^ f.width) ∧ t.flash = s.flash) ∧
  (∀ (s : State), Sound s → s.pins.porstLow = false →
    ∃ t, exec .warmReset s = .next t ∧ t.pins.srstLow = true ∧ t.get RST_CAUSE_KIND = 1 ∧ t.get RST_CAUSE_SOURCE = 1 ∧
      t.get RST_CAUSE_WARM_COUNT = min 65535 (s.get RST_CAUSE_WARM_COUNT + 1) ∧ t.get BOOT_STAT_WARM = 1 ∧
      t.get BOOT_STAT_STAGE = 3 ∧ t.flash = s.flash) ∧
  (∀ (a : Agent) (s : State), Sound s → a.core01 = true ∨ a.fieldIM = true → almPrograms s = false →
    ∃ t, exec (.rstCtlWarm a 0x5A) s = .next t ∧ t.resp.status = .done ∧ t.get RST_CAUSE_KIND = 1 ∧ t.get RST_CAUSE_SOURCE = 2 ∧
      t.get FRM_COUNT_COUNT = 0 ∧ t.get BOOT_STAT_STAGE = 3) ∧
  (∀ (a : Agent) (c : Fin 4) (s : State), Sound s → a.core01 = true ∨ a.fieldIM = true ∨ (a.init.val = c.val ∧ 2 ≤ c.val) →
    domOn (82 + c.val) s = true → coreHasFirmware c.val s = true → s.get (DBG_RUN_RHALT c.val) = 0 →
    ∃ t, exec (.coreReset a 0x5A (2 ^ c.val)) s = .next t ∧ t.resp.status = .done ∧ t.get (CORE_STAT_STATE c.val) = coreRun ∧
      Frame [.resp, .bootMs, .events, .trace, .power, .profile, .clock, .pins, .jets, .edge, .weir, .hbm, .enc, .seqs, .ports,
        .fail, .ra, .sc, .noc, .fab, .ldr, .flash, .cluster, .casc, .sec, .boot, .dbg, .leap, .field] [.profile, .frameCtl,
        .frameStat, .frameCount, .frameOverruns, .slots, .resetCtl, .resetCause, .bootStat, .sluice, .limiterStat, .limiterTrips,
        .sluiceEntries, .domains, .energyLedger, .clockSources, .clockSelect, .clockMonitor, .fabricClocks, .clockGates, .loader,
        .rill, .regions, .isolation, .blockMemories, .fabricPorts, .jetBanks, .jetChannels, .edgeSeqStat, .edgeBanks, .periods,
        .timingSets, .edgeChannels, .weirCtl, .weirCal, .weirChannels, .sequencers, .captureEcc, .captureLost, .captureSeqs,
        .failCounts, .failMaps, .repairCtl, .repairRing, .repairDescs, .repairDomains, .signalMap, .signalCores, .signalDrops,
        .signalResults, .hbmCfg, .hbmStat, .hbmEcc, .hbmErrlog, .hbmFlip, .hbmSpares, .hbmPass, .hbmClasses, .encKeys, .encPass,
        .encRegions, .nocCtl, .routers, .nocStats, .arbiters, .cascadeCtl, .cascadeTime, .cascadeSend, .cascadeRing, .links,
        .lanes, .epochs, .cores, .locks, .mailboxes, .doorbells, .crcUnits, .owners, .scratchpadEcc, .scratchpadTests, .patches,
        .securityStat, .tamper, .almanac, .audit, .attestation, .fieldStat, .sessions, .debugCtl, .debugRun, .debugFreeze,
        .traceCtl, .coreAccess, .stimulus, .debugBuffer] s t) ∧
  (∀ (a : Agent) (value : Nat) (s : State), Sound s → a.fieldIM = true → value = 0x5A →
    ∃ t, exec (.warmResetObject a value) s = .next t ∧ t.resp.status = .done ∧ t.boot.warmDue = some 3 ∧
      Narrow [.resp, .boot] [] s t) ∧
  (∀ (src : Nat) (s : State), Sound s → s.boot.warmDue = some src → almPrograms s = false →
    ∃ t, exec .delayedWarmReset s = .next t ∧ t.get RST_CAUSE_SOURCE = src % 16 ∧ t.get FRM_COUNT_COUNT = 0 ∧
      t.get BOOT_STAT_STAGE = 3 ∧ t.boot.warmDue = none) ∧
  (∀ (s : State), Sound s → s.pins.porstLow = true → s.power.vin = .on →
    ∃ t, exec (.resetRelease .porst) s = .next t ∧ t.pins.porstLow = false ∧ t.get BOOT_STAT_STAGE = 1 ∧
      Narrow [.pins] [BOOT_STAT_STAGE] s t) ∧
  (∀ (s : State), Sound s → s.pins.srstLow = true → s.pins.porstLow = false → 3 ≤ s.get BOOT_STAT_STAGE →
    ∃ t, exec (.resetRelease .srst) s = .next t ∧ t.pins.srstLow = false ∧ t.get FRM_COUNT_COUNT = 0 ∧
      Frame [.events, .trace, .power, .profile, .clock, .pins] [.frameCount, .bootStat, .sluice, .sluiceEntries, .domains, .hbmStat] s t) ∧
  (∀ (elapsedMs : Nat) (bad : List Nat) (s : State), Sound s → bootMayEnd s = true → s.get BOOT_STAT_STAGE = 1 →
    ∃ t, exec (.bootStepEnd elapsedMs bad) s = .next t ∧ t.get BOOT_STAT_STAGE = 2) ∧
  (∀ (elapsedMs : Nat) (bad : List Nat) (s : State), Sound s → bootMayEnd s = true → s.get BOOT_STAT_STAGE = 2 →
    ∃ t, exec (.bootStepEnd elapsedMs bad) s = .next t ∧ t.get BOOT_STAT_STAGE = 3 ∧ t.get FRM_COUNT_COUNT = 0) ∧
  (∀ (elapsedMs : Nat) (bad : List Nat) (s : State), Sound s → bootMayEnd s = true → s.get BOOT_STAT_STAGE = 6 →
    ∃ t, exec (.bootStepEnd elapsedMs bad) s = .next t ∧ t.get BOOT_STAT_STAGE = 7) ∧
  (∀ (elapsedMs : Nat) (bad : List Nat) (s : State), Sound s → bootMayEnd s = true → s.get BOOT_STAT_STAGE = 7 →
    ∃ t, exec (.bootStepEnd elapsedMs bad) s = .next t ∧ t.get BOOT_STAT_READY = 1) ∧
  (∀ (s : State), Sound s →
    ∃ t, exec .tapReset s = .next t ∧ t.dbg.ir = irIdcode ∧
      Frame [.events, .trace, .sc, .sec, .dbg] [.cores, .debugCtl, .debugRun] s t) ∧
  (∀ (c : Nat) (s : State), Sound s →
    ∃ t, exec (.tapUpdate (.ir c)) s = .next t ∧ t.dbg.ir = c % 256 ∧ Narrow [.dbg] [] s t) ∧
  (∀ (l : List Bool) (s : State), Sound s → l.length = 14 → tapActs s = irPreload ∨ tapActs s = irExtest →
    ∃ t, exec (.tapUpdate (.boundary l)) s = .next t ∧ t.dbg.cells = l ∧ Narrow [.dbg] [] s t) ∧
  (∀ (milliC : Int) (s : State), Sound s → s.power.vin ≠ .off → s.pins.porstLow = false → 2 ≤ s.get BOOT_STAT_STAGE →
    ∃ t, exec (.thermalThreshold milliC) s = .next t ∧
      (t.pins.therm = (if 100000 ≤ milliC then true else if milliC ≤ 95000 then false else s.pins.therm)) ∧ Narrow [.pins] [] s t)

/-- Completion of block memory accesses, scrub attempts, flips, engine ports and target ports, in the cases listed. In every
sound state: in an area that runs, a read of a word in range in a mode without error correction answers the stored word, as it
was before what the other port writes in the same cycle, and one in mode 8 answers the word as its error correction sees it with
the flags corrected and uncorrectable; port A's write of a word in range stores it, cut to the mode's width, whatever port B
writes to the same word; a write-back that is due stores the corrected word; a scrub attempt on the next mode-8 word with
scrubbing on clears the count of attempts in a free cycle, and adds one without a free cycle below 256 attempts; a flip whose
memory is in range, and in mode 8 where it is to be armed, is taken with the answer DONE; a tap drain of an area that runs and
is not isolated answers the oldest entries; a data-in word with DIN_EN set joins its FIFO in such an area; a target-port access
of an area that no NoC request carries, that stands at the port or that the area does not refuse, is answered with what fabric
logic answers, where it is a status of R134, or stands at the port without an answer, and a standing one is answered TIMEOUT at
its limit. The frames are stated. (R122, R123, R124, R126, R134, R135, R136.) -/
def Obligations.FabricCommandsComplete : Prop :=
  (∀ (area : Fin 17) (mem : Nat) (port : Port) (access : BramRd) (strike : Nat) (s : State), Sound s → fabRuns area.val s = true →
    mem < bramCount area.val → access.word < bramWords (bramMode area.val mem s) → bramMode area.val mem s ≠ 8 →
    ∃ t, exec (.bramRead area mem port access strike) s = .next t ∧ t.resp = ⟨.done, bramWord area.val mem access.word s, [0]⟩ ∧
      Frame [.resp, .events, .trace, .fab, .leap] [.blockMemories] s t) ∧
  (∀ (area : Fin 17) (mem : Nat) (port : Port) (access : BramRd) (strike : Nat) (s : State), Sound s → fabRuns area.val s = true →
    mem < bramCount area.val → access.word < 512 → bramMode area.val mem s = 8 →
    let k := bramWordKey area.val mem access.word
    let x := bramSense (bramWord area.val mem access.word s) (spGet k (bramStrike k strike s).fab.errs)
    ∃ t, exec (.bramRead area mem port access strike) s = .next t ∧
      (t.resp = ⟨.done, x.2.2, [if x.1 then 1 else if x.2.1 then 2 else 0]⟩) ∧
      Frame [.resp, .events, .trace, .fab, .leap] [.blockMemories] s t) ∧
  (∀ (area : Fin 17) (mem : Nat) (x : BramWr) (pb : Option BramWr) (s : State), Sound s → fabRuns area.val s = true →
    mem < bramCount area.val → x.word < bramWords (bramMode area.val mem s) → (∀ y, pb = some y → y.word = x.word) →
    let k := bramWordKey area.val mem x.word
    let v := x.data % 2 ^ bramBits (bramMode area.val mem s)
    ∃ t, exec (.bramWrite area mem (some x) pb) s = .next t ∧
      (t.fab.words = (if spGet (k / 32768) s.fab.raw = 0 then spSet k v s.fab.words else spPut k v s.fab.words)) ∧
      Narrow [.fab] [FAB_FLIP_CTL_ARM area.val] s t) ∧
  (∀ (area : Fin 17) (mem word : Nat) (p : Nat × Nat) (s : State), Sound s →
    (s.fab.due.find? (fun p => p.1 == bramWordKey area.val mem word) = some p) →
    ∃ t, exec (.bramWriteback area mem word) s = .next t ∧
      (t.fab.words = (if spGet (p.1 / 32768) s.fab.raw = 0 then spSet p.1 p.2 s.fab.words else spPut p.1 p.2 s.fab.words)) ∧
      (t.fab.due = s.fab.due.filter (fun q => q.1 != p.1)) ∧ Narrow [.fab] [] s t) ∧
  (∀ (area : Fin 17) (strike p : Nat) (s : State), Sound s → scrubNext area.val s = some p → fabRuns area.val s = true →
    s.get (FAB_ECC_CTL_SCRUB_RATE area.val) ≠ 0 →
    ∃ t, exec (.bramScrubWord area true strike) s = .next t ∧ t.fab.tries = spDel area.val s.fab.tries ∧
      Frame [.events, .trace, .fab, .leap] [.blockMemories] s t) ∧
  (∀ (area : Fin 17) (strike p : Nat) (s : State), Sound s → scrubNext area.val s = some p → fabRuns area.val s = true →
    s.get (FAB_ECC_CTL_SCRUB_RATE area.val) ≠ 0 → spGet area.val s.fab.tries + 1 < 256 →
    ∃ t, exec (.bramScrubWord area false strike) s = .next t ∧
      t.fab.tries = spSet area.val (spGet area.val s.fab.tries + 1) s.fab.tries ∧ Narrow [.fab] [] s t) ∧
  (∀ (a : Agent) (area : Fin 17) (value : Nat) (s : State), Sound s → (FAB_FLIP_CTL_MEM area.val).of value < bramCount area.val →
    ((FAB_FLIP_CTL_ARM area.val).hit value = true → bramMode area.val ((FAB_FLIP_CTL_MEM area.val).of value) s = 8) →
    ∃ t, exec (.flipArm a area value) s = .next t ∧ t.resp.status = .done ∧
      t.get (FAB_FLIP_CTL_MEM area.val) = (FAB_FLIP_CTL_MEM area.val).of value ∧
      t.get (FAB_FLIP_CTL_CMASK area.val) = (FAB_FLIP_CTL_CMASK area.val).of value ∧
      (t.get (FAB_FLIP_CTL_ARM area.val) = if (FAB_FLIP_CTL_ARM area.val).of value = 1 then 1 else s.get (FAB_FLIP_CTL_ARM area.val)) ∧
      Narrow [.resp] [FAB_FLIP_CTL_MEM area.val, FAB_FLIP_CTL_CMASK area.val, FAB_FLIP_CTL_ARM area.val] s t) ∧
  (∀ (q : Fin 16) (count : Nat) (s : State), Sound s → fabRuns q.val s = true → s.get (REG_STAT_ISO q.val) = 0 →
    ∃ t, exec (.tapDrain q count) s = .next t ∧
      t.resp.bytes = ((keyed q.val (tapFlush q.val s).ports.tap).take count).flatMap (toBytes 16) ∧
      Frame [.resp, .ports, .fab] [.fabricPorts] s t) ∧
  (∀ (q : Fin 16) (word : Nat) (s : State), Sound s → s.on (FAB_PORT_CTL_DIN_EN q.val) = true → fabRuns q.val s = true →
    s.get (REG_STAT_ISO q.val) = 0 →
    ∃ t, exec (.dataInWrite q word) s = .next t ∧ keyed q.val t.ports.din = keyed q.val s.ports.din ++ [word % 2 ^ 64] ∧
      Narrow [.ports, .fab] [] s t) ∧
  (∀ (area : Fin 17) (addr : Nat) (f : FabAnswer) (s : State), Sound s → targetOf addr = some (32 + area.val) →
    portReq area.val s = none → area.val ∈ s.fab.asked ∨ areaRefuses area.val s = none → fabRuns area.val s = true →
    fabStatus f.status = true →
    ∃ t, exec (.targetPortRequest area addr (some f)) s = .next t ∧
      t.resp = ⟨f.status, ofBytes (f.data.take 8), f.data.take 256⟩ ∧ Narrow [.resp, .fab] [] s t) ∧
  (∀ (area : Fin 17) (addr : Nat) (s : State), Sound s → targetOf addr = some (32 + area.val) → portReq area.val s = none →
    area.val ∈ s.fab.asked ∨ areaRefuses area.val s = none →
    ∃ t, exec (.targetPortRequest area addr none) s = .next t ∧ area.val ∈ t.fab.asked ∧ Narrow [.fab] [] s t) ∧
  (∀ (area : Fin 17) (s : State), Sound s → area.val ∈ s.fab.asked → portReq area.val s = none →
    ∃ t, exec (.targetPortTimeout area) s = .next t ∧ t.resp.status = .timeout ∧ t.fab.asked = s.fab.asked.erase area.val ∧
      Narrow [.resp, .fab] [] s t)

/-- Completion of the loader's and Rill's commands, in the cases listed. In every sound state: a STAGE, LOAD or INVALIDATE
request of a permitted writer with the HBM pair ON and room in the queue of 16 joins it with the answer DONE; an INVALIDATE of
the region being loaded acts at once; an idle loader takes a STAGE to work, and at an INVALIDATE makes the region INVALID and
isolated; a STAGE at work ends, and where the slot cannot be read with code 1 in LAST_ERR; a granted load of a region goes on to
its drain, and one of the static region to its records; the end of a drain isolates the region, which reads LOADING, and goes on
to its clock gates; a record written well, with HBM that admits its lines, moves the load on; the end after the last record
makes the area VALID and lifts its isolation; in a slot that lets duty 5 work, Rill checks a sound frame that is due, with no
pass running, and moves on; an on-demand pass with a valid RILL_CTL and none in progress is accepted when Sluice has room, and
ends after the last address. The frames are stated. (R144, R146, R147, R149, R150, R154, R157, R158.) -/
def Obligations.LoaderCommandsComplete : Prop :=
  (∀ (a : Agent) (slot : Fin 16) (s : State), Sound s → a.core03 = true ∨ a.fieldIM = true →
    domOn 64 s = true ∧ domOn 65 s = true →
    (s.ldr.queue.any (fun x => x.op == 0 && x.slot == slot.val && x.region == 0) = false) → s.ldr.queue.length < 16 →
    ∃ t, exec (.loaderStage a slot) s = .next t ∧ t.resp.status = .done ∧
      t.ldr.queue = s.ldr.queue ++ [⟨0, slot.val, 0, a.init.val⟩] ∧ Narrow [.resp, .ldr] [] s t) ∧
  (∀ (a : Agent) (slot : Fin 16) (s : State), Sound s → a.core03 = true ∨ a.fieldIM = true →
    domOn 64 s = true ∧ domOn 65 s = true →
    (s.ldr.queue.any (fun x => x.op == 1 && x.slot == slot.val && x.region == 0) = false) → s.ldr.queue.length < 16 →
    ∃ t, exec (.loaderLoad a slot) s = .next t ∧ t.resp.status = .done ∧
      t.ldr.queue = s.ldr.queue ++ [⟨1, slot.val, 0, a.init.val⟩] ∧ Narrow [.resp, .ldr] [] s t) ∧
  (∀ (a : Agent) (region : Fin 16) (s : State), Sound s → a.core03 = true ∨ a.fieldIM = true →
    domOn 64 s = true ∧ domOn 65 s = true → loads region.val s = false →
    (s.ldr.queue.any (fun x => x.op == 2 && x.slot == 0 && x.region == region.val) = false) → s.ldr.queue.length < 16 →
    ∃ t, exec (.loaderInvalidate a region) s = .next t ∧ t.resp.status = .done ∧
      t.ldr.queue = s.ldr.queue ++ [⟨2, 0, region.val, a.init.val⟩] ∧ Narrow [.resp, .ldr] [] s t) ∧
  (∀ (a : Agent) (region : Fin 16) (s : State), Sound s → a.core03 = true ∨ a.fieldIM = true →
    domOn 64 s = true ∧ domOn 65 s = true → loads region.val s = true →
    ∃ t, exec (.loaderInvalidate a region) s = .next t ∧ t.resp.status = .done ∧ t.get (REG_STAT_STATE region.val) = regInvalid ∧
      t.get (REG_STAT_ABORT region.val) = 3 ∧ t.ldr.job = none ∧
      Frame [.resp, .events, .trace, .power, .jets, .ports, .noc, .fab, .ldr] [.sluiceEntries, .domains, .regions, .jetBanks,
        .jetChannels] s t) ∧
  (∀ (q : LdrReq) (rest : List LdrReq) (s : State), Sound s → s.ldr.job = none → s.ldr.queue = q :: rest → q.op = 0 →
    ∃ t, exec .loaderDispatch s = .next t ∧ t.ldr.queue = rest ∧ t.ldr.job = some ⟨q, 17, .staging, 0⟩ ∧
      Frame [.resp, .events, .trace, .power, .profile, .jets, .hbm, .enc, .ports, .noc, .fab, .ldr, .leap] [.sluice,
        .sluiceEntries, .domains, .loader, .regions, .jetBanks, .jetChannels, .hbmEcc, .hbmFlip, .encRegions] s t) ∧
  (∀ (q : LdrReq) (rest : List LdrReq) (s : State), Sound s → s.ldr.job = none → s.ldr.queue = q :: rest → q.op = 2 →
    ∃ t, exec .loaderDispatch s = .next t ∧ t.ldr.queue = rest ∧ t.get (REG_STAT_STATE q.region) = regInvalid ∧
      t.get (REG_STAT_ABORT q.region) = 3 ∧ t.get (REG_STAT_ISO q.region) = 1 ∧
      Frame [.resp, .events, .trace, .power, .profile, .jets, .hbm, .enc, .ports, .noc, .fab, .ldr, .leap] [.sluice,
        .sluiceEntries, .domains, .loader, .regions, .jetBanks, .jetChannels, .hbmEcc, .hbmFlip, .encRegions] s t) ∧
  (∀ (flashOk : Bool) (j : LdrJob) (s : State), Sound s → s.ldr.job = some j → j.phase = .staging → j.req.op = 0 →
    flashOk = false →
    ∃ t, exec (.stageComplete flashOk) s = .next t ∧ t.ldr.job = none ∧ t.get LDR_STAT_LAST_ERR = 1 ∧
      Frame [.resp, .events, .trace, .power, .profile, .hbm, .enc, .ports, .noc, .fab, .ldr, .boot, .leap] [.sluice,
        .sluiceEntries, .loader, .regions, .hbmEcc, .hbmFlip, .encRegions] s t) ∧
  (∀ (flashOk : Bool) (j : LdrJob) (s : State), Sound s → s.ldr.job = some j → j.phase = .staging → j.req.op = 0 →
    ∃ t, exec (.stageComplete flashOk) s = .next t ∧ t.ldr.job = none ∧
      Frame [.resp, .events, .trace, .power, .profile, .hbm, .enc, .ports, .noc, .fab, .ldr, .boot, .leap] [.sluice,
        .sluiceEntries, .loader, .regions, .hbmEcc, .hbmFlip, .encRegions] s t) ∧
  (∀ (j : LdrJob) (s : State), Sound s → s.ldr.job = some j → j.phase = .granting → grantedForPurpose forLoad s = true →
    j.region = 16 →
    ∃ t, exec .loadGrantIssued s = .next t ∧ t.ldr.job = some { j with phase := .writing } ∧
      t.get (REG_STAT_STATE 16) = regLoading ∧ Frame [.fab, .ldr] [.regions] s t) ∧
  (∀ (j : LdrJob) (s : State), Sound s → s.ldr.job = some j → j.phase = .granting → grantedForPurpose forLoad s = true →
    j.region ≠ 16 →
    ∃ t, exec .loadGrantIssued s = .next t ∧ t.ldr.job = some { j with phase := .draining } ∧ Narrow [.ldr] [] s t) ∧
  (∀ (r : Fin 16) (j : LdrJob) (s : State), Sound s → s.ldr.job = some j → j.phase = .draining → j.region = r.val →
    ∃ t, exec (.loadDrainEnd r) s = .next t ∧ t.ldr.job = some { j with phase := .gating } ∧
      t.get (REG_STAT_STATE r.val) = regLoading ∧ t.get (REG_STAT_ISO r.val) = 1 ∧
      Frame [.resp, .ports, .noc, .fab, .ldr] [.regions] s t) ∧
  (∀ (readBackOk : Bool) (j : LdrJob) (u v : State) (s : State), Sound s → s.ldr.job = some j → j.phase = .writing →
    j.done_ < areaRecords (jobImg j s) j.region → hbmWindow 2 65 s = true →
    copyReads 47 (cacheBase (jobSource j)) (recordSpan (jobImg j s) j.region j.done_).1 (recordSpan (jobImg j s) j.region j.done_).2 s = (true, u) →
    writeRecord (jobImg j s) j.region j.done_ readBackOk u = (.good, v) →
    ∃ t, exec (.loadRecordWrite readBackOk) s = .next t ∧ t.ldr.job = some { j with done_ := j.done_ + 1 } ∧ t.fab = v.fab ∧
      Frame [.resp, .events, .trace, .power, .jets, .hbm, .enc, .ports, .noc, .fab, .ldr, .leap] [.sluiceEntries, .domains,
        .loader, .regions, .jetBanks, .jetChannels, .hbmEcc, .hbmFlip, .encRegions] s t) ∧
  (∀ (j : LdrJob) (s : State), Sound s → s.ldr.job = some j → j.phase = .writing → areaRecords (jobImg j s) j.region ≤ j.done_ →
    ∃ t, exec .loadComplete s = .next t ∧ t.ldr.job = none ∧ t.get (REG_STAT_STATE j.region) = regValid ∧
      t.get (REG_STAT_ISO j.region) = 0 ∧
      Frame [.events, .trace, .power, .jets, .fab, .ldr] [.sluiceEntries, .domains, .regions, .isolation, .jetBanks, .jetChannels] s t) ∧
  (∀ (s : State), Sound s → (dutySlot 5 anySlot s).isSome = true → 1 ≤ s.ldr.rillDue → passRuns s = false →
    rillChecks (s.get RILL_STAT_POSITION) s = true → (s.fab.bad.find? (fun w => w / 512 == s.get RILL_STAT_POSITION) = none) →
    ∃ t, exec (.rillSlice 1 []) s = .next t ∧ t.ldr.rillDue = s.ldr.rillDue - 1 ∧
      (t.get RILL_STAT_POSITION = (if s.get RILL_STAT_POSITION + 1 < 36864 then s.get RILL_STAT_POSITION + 1 else 0)) ∧
      Narrow [.fab, .ldr, .clock] [RILL_STAT_POSITION] s t) ∧
  (∀ (a : Agent) (k : Nat) (s : State), Sound s → RILL_CTL_RATE.of (putBit (rillCtlWord s) 31 true) ≤ 68 →
    RILL_CTL_BUCKET.of (putBit (rillCtlWord s) 31 true) ≠ 0 → s.get RILL_CTL_PASS = 0 → freeEntry s = some k →
    s.power.queue.length < 64 →
    ∃ t, exec (.rillPassRequest a) s = .next t ∧ t.resp.status = .done ∧ t.get RILL_CTL_PASS = 1 ∧
      t.ldr.pass = some ⟨0, 0, 0, 0⟩ ∧
      Frame [.resp, .events, .trace, .power, .profile, .ldr] [.sluice, .sluiceEntries, .rill] s t) ∧
  (∀ (p : RillPass) (s : State), Sound s → s.ldr.pass = some p → s.on RILL_STAT_PASS_BUSY = true → 36864 ≤ p.seen →
    ∃ t, exec .rillPassComplete s = .next t ∧ t.ldr.pass = none ∧ t.get RILL_CTL_PASS = 0 ∧ t.get RILL_STAT_PASS_BUSY = 0 ∧
      Frame [.events, .trace, .power, .jets, .ldr] [.sluiceEntries, .domains, .rill, .jetBanks, .jetChannels] s t)

/-- Completion of the Jets' configuration, level, rate, block and PMU commands, in the cases listed. In every sound state, for a
bank that answers and a writer of the list: JET_CFG takes a value that leaves RANGE and SEQ of an enabled channel alone, and a
changed RANGE sets the levels VIH and VOL to the code of 0 V; the level, load and PMU value registers take a value that their
checks pass; BLK_RATE is cleared when its limit is no longer exceeded or the sequencer is stopped; a rate code that the profile
and, for code 2, a RATE grant allow, and a spared ball of core 0 or 1, are written; PMU_CTL takes a permitted mode, and mode OFF
takes the PMU off its ball; with VIN on and no trip a PMU in a mode reaches its ball; a sample advances NUMBER, stores the code
and adds it to the frame's sum; a clamp engages; a cycle met by a channel with EN 0 gets that channel's result, and one shorter
than the rate code allows sets BLK_RATE of a channel with EN 1. The frames are stated. (R164, R165, R167, R170, R175, R176,
R179, R180, R181, R183, R185.) -/
def Obligations.JetCommandsComplete : Prop :=
  (∀ (a : Agent) (ch : Fin 512) (value : Nat) (s : State), Sound s → domRefuses (bankDom ch.val) s = none → a.ctl = true →
    s.on (JET_CFG_EN ch.val) = false ∨ (s.changes (JET_CFG_RANGE ch.val) value = false ∧ s.changes (JET_CFG_SEQ ch.val) value = false) →
    ∃ t, exec (.jetConfigWrite a ch value) s = .next t ∧ t.resp.status = .done ∧
      t.get (JET_CFG_EN ch.val) = (JET_CFG_EN ch.val).of value ∧ t.get (JET_CFG_RANGE ch.val) = (JET_CFG_RANGE ch.val).of value ∧
      t.get (JET_CFG_OFFMODE ch.val) = (JET_CFG_OFFMODE ch.val).of value ∧
      t.get (JET_CFG_LOAD ch.val) = (JET_CFG_LOAD ch.val).of value ∧ t.get (JET_CFG_SEQ ch.val) = (JET_CFG_SEQ ch.val).of value ∧
      t.get (JET_CFG_STROBE ch.val) = (JET_CFG_STROBE ch.val).of value ∧
      (s.changes (JET_CFG_RANGE ch.val) value = true → t.get (JET_LVL_DRV_VIH ch.val) = zeroCode ((JET_CFG_RANGE ch.val).hit value)) ∧
      (s.changes (JET_CFG_RANGE ch.val) value = true → t.get (JET_LVL_CMP_VOL ch.val) = zeroCode ((JET_CFG_RANGE ch.val).hit value)) ∧
      (s.changes (JET_CFG_RANGE ch.val) value = false → t.get (JET_LVL_DRV_VIH ch.val) = s.get (JET_LVL_DRV_VIH ch.val)) ∧
      Frame [.resp, .jets, .weir] [.jetChannels] s t) ∧
  (∀ (a : Agent) (ch : Fin 512) (value : Nat) (s : State), Sound s → domRefuses (bankDom ch.val) s = none → a.ctl = true →
    (JET_LVL_DRV_VIH ch.val).of value ≤ maxCode (s.on (JET_CFG_RANGE ch.val)) ∧ (JET_LVL_DRV_VIL ch.val).of value ≤ maxCode (s.on (JET_CFG_RANGE ch.val)) ∧ (JET_LVL_DRV_VTT ch.val).of value ≤ maxCode (s.on (JET_CFG_RANGE ch.val)) →
    s.on (JET_CFG_RANGE ch.val) = true ∨ codeDist ((JET_LVL_DRV_VIH ch.val).of value) ((JET_LVL_DRV_VIL ch.val).of value) ≤ 35000 →
    ∃ t, exec (.jetLevelWrite a ch .drv value) s = .next t ∧ t.resp.status = .done ∧
      t.get (JET_LVL_DRV_VIH ch.val) = (JET_LVL_DRV_VIH ch.val).of value ∧
      t.get (JET_LVL_DRV_VIL ch.val) = (JET_LVL_DRV_VIL ch.val).of value ∧
      t.get (JET_LVL_DRV_VTT ch.val) = (JET_LVL_DRV_VTT ch.val).of value ∧
      Narrow [.resp] [JET_LVL_DRV_VIH ch.val, JET_LVL_DRV_VIL ch.val, JET_LVL_DRV_VTT ch.val] s t) ∧
  (∀ (a : Agent) (ch : Fin 512) (value : Nat) (s : State), Sound s → domRefuses (bankDom ch.val) s = none → a.ctl = true →
    (JET_LVL_CMP_VOH ch.val).of value ≤ maxCode (s.on (JET_CFG_RANGE ch.val)) ∧ (JET_LVL_CMP_VCOM ch.val).of value ≤ maxCode (s.on (JET_CFG_RANGE ch.val)) →
    (JET_LVL_CMP_VOL ch.val).of value ≤ (JET_LVL_CMP_VOH ch.val).of value →
    ∃ t, exec (.jetLevelWrite a ch .cmp value) s = .next t ∧ t.resp.status = .done ∧
      t.get (JET_LVL_CMP_VOH ch.val) = (JET_LVL_CMP_VOH ch.val).of value ∧
      t.get (JET_LVL_CMP_VOL ch.val) = (JET_LVL_CMP_VOL ch.val).of value ∧
      t.get (JET_LVL_CMP_VCOM ch.val) = (JET_LVL_CMP_VCOM ch.val).of value ∧
      Narrow [.resp] [JET_LVL_CMP_VOH ch.val, JET_LVL_CMP_VOL ch.val, JET_LVL_CMP_VCOM ch.val] s t) ∧
  (∀ (a : Agent) (ch : Fin 512) (value : Nat) (s : State), Sound s → domRefuses (bankDom ch.val) s = none → a.ctl = true →
    (JET_LOAD_ISRC ch.val).of value ≤ 48000 ∧ (JET_LOAD_ISNK ch.val).of value ≤ 48000 →
    ∃ t, exec (.jetLevelWrite a ch .load value) s = .next t ∧ t.resp.status = .done ∧
      t.get (JET_LOAD_ISRC ch.val) = (JET_LOAD_ISRC ch.val).of value ∧
      t.get (JET_LOAD_ISNK ch.val) = (JET_LOAD_ISNK ch.val).of value ∧
      Narrow [.resp] [JET_LOAD_ISRC ch.val, JET_LOAD_ISNK ch.val] s t) ∧
  (∀ (a : Agent) (ch : Fin 512) (value : Nat) (s : State), Sound s → domRefuses (bankDom ch.val) s = none → a.ctl = true →
    pmuValuesOk ch.val (writeFlds (JET_PMU_FORCE_fields ch.val) value s) = true →
    ∃ t, exec (.jetLevelWrite a ch .pmuForce value) s = .next t ∧ t.resp.status = .done ∧
      t.get (JET_PMU_FORCE_VFORCE ch.val) = (JET_PMU_FORCE_VFORCE ch.val).of value ∧
      t.get (JET_PMU_FORCE_IFORCE ch.val) = (JET_PMU_FORCE_IFORCE ch.val).of value ∧
      Narrow [.resp] [JET_PMU_FORCE_VFORCE ch.val, JET_PMU_FORCE_IFORCE ch.val] s t) ∧
  (∀ (a : Agent) (ch : Fin 512) (value : Nat) (s : State), Sound s → domRefuses (bankDom ch.val) s = none → a.ctl = true →
    pmuValuesOk ch.val (writeFlds (JET_PMU_ICLAMP_fields ch.val) value s) = true →
    ∃ t, exec (.jetLevelWrite a ch .pmuIclamp value) s = .next t ∧ t.resp.status = .done ∧
      t.get (JET_PMU_ICLAMP_LO ch.val) = (JET_PMU_ICLAMP_LO ch.val).of value ∧
      t.get (JET_PMU_ICLAMP_HI ch.val) = (JET_PMU_ICLAMP_HI ch.val).of value ∧
      Narrow [.resp] [JET_PMU_ICLAMP_LO ch.val, JET_PMU_ICLAMP_HI ch.val] s t) ∧
  (∀ (a : Agent) (ch : Fin 512) (value : Nat) (s : State), Sound s → domRefuses (bankDom ch.val) s = none → a.ctl = true →
    pmuValuesOk ch.val (writeFlds (JET_PMU_VCLAMP_fields ch.val) value s) = true →
    ∃ t, exec (.jetLevelWrite a ch .pmuVclamp value) s = .next t ∧ t.resp.status = .done ∧
      t.get (JET_PMU_VCLAMP_LO ch.val) = (JET_PMU_VCLAMP_LO ch.val).of value ∧
      t.get (JET_PMU_VCLAMP_HI ch.val) = (JET_PMU_VCLAMP_HI ch.val).of value ∧
      Narrow [.resp] [JET_PMU_VCLAMP_LO ch.val, JET_PMU_VCLAMP_HI ch.val] s t) ∧
  (∀ (a : Agent) (ch : Fin 512) (mask : Nat) (s : State), Sound s → domRefuses (bankDom ch.val) s = none → a.ctl = true →
    (JET_STAT_BLK_RATE ch.val).hit mask = true →
    seqStopped (s.get (JET_CFG_SEQ ch.val)) s = true ∨ overRate ch.val (curPeriod ch.val s) s = false →
    ∃ t, exec (.blockClear a ch mask) s = .next t ∧ t.resp.status = .done ∧ t.get (JET_STAT_BLK_RATE ch.val) = 0 ∧
      Narrow [.resp, .jets] [JET_STAT_BLK_RATE ch.val, JET_STAT_BLK_WIDE ch.val, JET_STAT_BLK_SPARE ch.val] s t) ∧
  (∀ (a : Agent) (b : Fin 32) (code : Nat) (s : State), Sound s → a.ctl = true → code ≤ 2 →
    s.get (JET_BANK_CTL_SPARE_FOR b.val) = 31 ∨ s.get (JET_BANK_CTL_SPARE_FOR b.val) < 16 →
    (code = s.get (JET_BANK_CTL_MAXRATE b.val) ∨ ((∃ m, profileRate (curProfile s) = some m ∧ code ≤ m) ∧ (code = 2 → hasGrant clsRate (16 + b.val) s = true))) →
    ∃ t, exec (.bankMaxrateWrite a b code) s = .next t ∧ t.resp.status = .done ∧ t.get (JET_BANK_CTL_MAXRATE b.val) = code ∧
      Narrow [.resp] [JET_BANK_CTL_MAXRATE b.val] s t) ∧
  (∀ (a : Agent) (b : Fin 32) (ball : Nat) (s : State), Sound s → a.core01 = true → ball = 31 ∨ ball < 16 →
    s.get (JET_BANK_CTL_MAXRATE b.val) < 3 →
    ∃ t, exec (.spareForWrite a b ball) s = .next t ∧ t.resp.status = .done ∧ t.get (JET_BANK_CTL_SPARE_FOR b.val) = ball ∧
      Narrow [.resp] [JET_BANK_CTL_SPARE_FOR b.val] s t) ∧
  (∀ (a : Agent) (ch : Fin 512) (value : Nat) (s : State), Sound s → domRefuses (bankDom ch.val) s = none → a.ctl = true →
    (JET_PMU_CTL_IRANGE ch.val).of value < 5 →
    ¬(((JET_PMU_CTL_MODE ch.val).of value = 1 ∨ (JET_PMU_CTL_MODE ch.val).of value = 2) ∧ (JET_PMU_CTL_IRANGE ch.val).of value = 0) ∨ hasGrant clsPmu (bankDom ch.val) s = true →
    (s.changes (JET_PMU_CTL_DIV ch.val) value = false ∨ ∃ d, profileDiv (curProfile s) = some d ∧ d ≤ (JET_PMU_CTL_DIV ch.val).of value) →
    ∃ t, exec (.pmuModeWrite a ch value) s = .next t ∧ t.resp.status = .done ∧
      t.get (JET_PMU_CTL_MODE ch.val) = (JET_PMU_CTL_MODE ch.val).of value ∧
      t.get (JET_PMU_CTL_IRANGE ch.val) = (JET_PMU_CTL_IRANGE ch.val).of value ∧
      t.get (JET_PMU_CTL_DIV ch.val) = (JET_PMU_CTL_DIV ch.val).of value ∧
      (t.jets.pmuOn = (if (JET_PMU_CTL_MODE ch.val).of value = 0 then s.jets.pmuOn.erase ch.val else s.jets.pmuOn)) ∧
      Frame [.resp, .jets, .weir] [.jetChannels] s t) ∧
  (∀ (ch : Fin 512) (s : State), Sound s → domRuns (bankDom ch.val) s = true → s.power.vin = .on →
    s.get (JET_PMU_CTL_MODE ch.val) ≠ 0 → pmuConnected ch.val s = false → jetTripped ch.val s = false →
    ∃ t, exec (.pmuConnect ch) s = .next t ∧ t.jets = { s.jets with pmuOn := s.jets.pmuOn ++ [ch.val] } ∧ Narrow [.jets] [] s t) ∧
  (∀ (ch : Fin 512) (measured : Int) (clamped : Option Bool) (s : State), Sound s → domRuns (bankDom ch.val) s = true →
    pmuConnected ch.val s = true →
    ∃ t, exec (.pmuSample ch measured clamped) s = .next t ∧
      t.get (JET_PMU_RES_NUMBER ch.val) = (s.get (JET_PMU_RES_NUMBER ch.val) + 1) % 65536 ∧
      t.get (JET_PMU_RES_SAMPLE ch.val) = wrap 18 (pmuCode (s.get (JET_PMU_CTL_MODE ch.val)) (s.get (JET_PMU_CTL_IRANGE ch.val)) measured) ∧
      (t.get (JET_PMU_RES_CLAMPED ch.val) = if clamped.isSome then 1 else 0) ∧
      t.jets.sums = addSum ch.val (pmuScale (s.get (JET_PMU_CTL_MODE ch.val)) (s.get (JET_PMU_CTL_IRANGE ch.val))) (pmuCode (s.get (JET_PMU_CTL_MODE ch.val)) (s.get (JET_PMU_CTL_IRANGE ch.val)) measured) s.jets.sums ∧
      Narrow [.events, .trace, .power, .jets] [JET_PMU_RES_NUMBER ch.val, JET_PMU_RES_SAMPLE ch.val, JET_PMU_RES_CLAMPED ch.val,
        JET_PMU_RES_OVER ch.val] s t) ∧
  (∀ (ch : Fin 512) (hi : Bool) (s : State), Sound s → domRuns (bankDom ch.val) s = true → pmuConnected ch.val s = true →
    s.get (JET_PMU_CTL_MODE ch.val) = 1 ∨ s.get (JET_PMU_CTL_MODE ch.val) = 2 →
    ∃ t, exec (.pmuClamp ch hi) s = .next t ∧ (t.jets.clamp = spSet ch.val (if hi then 2 else 1) s.jets.clamp) ∧
      ch.val ∈ t.power.inFault ∧ Narrow [.events, .trace, .power, .jets] [] s t) ∧
  (∀ (ch : Fin 512) (k : Nat) (seen : Strobes) (cy : Cyc) (s : State), Sound s → domRuns (bankDom ch.val) s = true →
    seqPlays (s.get (JET_CFG_SEQ ch.val)) s = true → s.on (JET_CFG_EN ch.val) = false →
    cycleFor ch.val k (eng (s.get (JET_CFG_SEQ ch.val)) s).issued = some cy →
    let q := s.get (JET_CFG_SEQ ch.val)
    let cz := { cy with started := true }
    ∃ t, exec (.jetCycle ch k seen) s = .next t ∧
      ((eng q t).issued = (eng q s).issued.map (fun x => if x.n = cy.n then { cz with res := cy.res ++ [jetResult ch.val cz (channelSymbol q ch.val cz s) seen s] } else x)) ∧
      Narrow [.seqs] [] s t) ∧
  (∀ (ch : Fin 512) (k : Nat) (seen : Strobes) (cy : Cyc) (s : State), Sound s → domRuns (bankDom ch.val) s = true →
    seqPlays (s.get (JET_CFG_SEQ ch.val)) s = true → s.on (JET_CFG_EN ch.val) = true →
    cycleFor ch.val k (eng (s.get (JET_CFG_SEQ ch.val)) s).issued = some cy → jetBlocked ch.val s = false →
    overRate ch.val (s.get (ET_PER_PERIOD (s.get (JET_CFG_SEQ ch.val)) cy.ts)) s = true →
    ∃ t, exec (.jetCycle ch k seen) s = .next t ∧ t.get (JET_STAT_BLK_RATE ch.val) = 1 ∧
      Frame [.events, .trace, .jets, .edge, .weir, .seqs] [.jetChannels, .edgeChannels] s t)

/-- Completion of periods, timing-set commits, timing records and bank realignment, in the cases listed. In every sound state,
for a domain that answers and a writer of the list: a period from 500 q to 4,192,000,000 q of a stopped sequencer is stored; a
commit of staged edges that meet the rules, of a channel whose sequencer is ON and stopped, copies them with the format into the
set; the timing-set record of an installer or maker whose commit succeeds puts its edges and format into the set of the one
channel it names; a realignment of a bank without enabled channels sets ALIGNED. The frames are stated. (R193, R199, R200, R204,
R209.) -/
def Obligations.EdgeTimingCommandsComplete : Prop :=
  (∀ (a : Agent) (q : Fin 16) (ts : Fin 64) (value : Nat) (s : State), Sound s → domRefuses (seqDom q.val) s = none →
    a.ctl = true → 500 ≤ value ∧ value ≤ 4192000000 → seqStopped q.val s = true →
    ∃ t, exec (.periodWrite a q ts value) s = .next t ∧ t.resp.status = .done ∧ t.get (ET_PER_PERIOD q.val ts.val) = value ∧
      Narrow [.resp] [ET_PER_PERIOD q.val ts.val] s t) ∧
  (∀ (a : Agent) (ch : Fin 512) (value : Nat) (s : State), Sound s → domRefuses (bankDom ch.val) s = none → a.ctl = true →
    domOn (seqDom (s.get (JET_CFG_SEQ ch.val))) s = true → seqStopped (s.get (JET_CFG_SEQ ch.val)) s = true →
    stagedOk ch.val ((ET_CH_COMMIT_TS ch.val).of value) ((ET_CH_COMMIT_FMT ch.val).of value) s = true →
    let n := ch.val
    let k := (ET_CH_COMMIT_TS n).of value
    ∃ t, exec (.timingSetCommit a ch value) s = .next t ∧ t.resp.status = .done ∧
      t.get (ET_TS_DRV12_D1 n k) = s.get (ET_CH_STG_DRV12_D1 n) % 2 ^ 32 ∧
      t.get (ET_TS_DRV12_D2 n k) = s.get (ET_CH_STG_DRV12_D2 n) % 2 ^ 32 ∧
      t.get (ET_TS_DRV34_D3 n k) = s.get (ET_CH_STG_DRV34_D3 n) % 2 ^ 32 ∧
      t.get (ET_TS_DRV34_D4 n k) = s.get (ET_CH_STG_DRV34_D4 n) % 2 ^ 32 ∧
      t.get (ET_TS_CMP_C1 n k) = s.get (ET_CH_STG_CMP_C1 n) % 2 ^ 32 ∧
      t.get (ET_TS_CMP_C2 n k) = s.get (ET_CH_STG_CMP_C2 n) % 2 ^ 32 ∧ t.get (ET_TS_CFG_FMT n k) = (ET_CH_COMMIT_FMT n).of value ∧
      Frame [.resp] [.timingSets] s t) ∧
  (∀ (a : Agent) (record : List Byte) (s : State), Sound s → a.im = true → record.length = 32 → ofBytes (slice 0 2 record) < 512 →
    ofBytes (slice 2 1 record) ≤ 63 → ofBytes (slice 3 1 record) ≤ 7 →
    domRefuses (bankDom (ofBytes (slice 0 2 record))) s = none →
    commitStatus (ofBytes (slice 0 2 record)) (ofBytes (slice 2 1 record)) (ofBytes (slice 3 1 record)) (stageRecord (ofBytes (slice 0 2 record)) record s) = .done →
    let n := ofBytes (slice 0 2 record)
    let k := ofBytes (slice 2 1 record)
    ∃ t, exec (.timingSetRecordWrite a record) s = .next t ∧ t.resp.status = .done ∧ t.edge = { s.edge with recStatus := .done } ∧
      t.get (ET_TS_DRV12_D1 n k) = ofBytes (slice 4 4 record) ∧ t.get (ET_TS_DRV12_D2 n k) = ofBytes (slice 8 4 record) ∧
      t.get (ET_TS_DRV34_D3 n k) = ofBytes (slice 12 4 record) ∧ t.get (ET_TS_DRV34_D4 n k) = ofBytes (slice 16 4 record) ∧
      t.get (ET_TS_CMP_C1 n k) = ofBytes (slice 20 4 record) ∧ t.get (ET_TS_CMP_C2 n k) = ofBytes (slice 24 4 record) ∧
      t.get (ET_TS_CFG_FMT n k) = ofBytes (slice 3 1 record) ∧ Frame [.resp, .edge] [.timingSets, .edgeChannels] s t) ∧
  (∀ (a : Agent) (b : Fin 32) (s : State), Sound s → domRefuses (16 + b.val) s = none → a.ctl = true →
    (∀ k < 16, s.on (JET_CFG_EN (16 * b.val + k)) = false) →
    ∃ t, exec (.bankRealign a b) s = .next t ∧ t.resp.status = .done ∧ t.get (ET_BANK_STAT_ALIGNED b.val) = 1 ∧
      Narrow [.resp, .events, .trace] [ET_BANK_STAT_ALIGNED b.val] s t)

/-- Completion of Weir's commands, in the cases listed. In every sound state: an edge that counts and was launched by a placed
drive edge adds its drive error to the channel's sum, and one that crosses and was not launched its compare error; a delivery in
time while RUN is 1, in a slot that lets duty 2 work and is open 200 ns after the tick, marks the pending decisions delivered;
GO over a non-empty bank mask by a permitted writer starts the run and sets BUSY; the run's end with a result for every ball
that needs one clears BUSY and ends the run; SAVE by a permitted writer while nothing is in progress sets BUSY; the save's end
writes its status, 0 when both copies verify and else 1, and the copies that verify. The frames are stated. (R210, R211, R215,
R226, R227, R228.) -/
def Obligations.WeirCommandsComplete : Prop :=
  (∀ (ch : Fin 512) (edge : WitnessEdge) (p : PlacedEdge) (s : State), Sound s → edgeCounts ch.val edge s = true →
    launchedEdge ch.val edge s = some p → edge.crosses = false →
    ∃ t, exec (.witnessEdge ch edge) s = .next t ∧
      weirAcc ch.val t = { (weirAcc ch.val s) with drvSum := (weirAcc ch.val s).drvSum + (edge.witQ16 - 16 * sext 16 (spGet ch.val s.weir.wit) - 16 * p.p), drvN := (weirAcc ch.val s).drvN + 1 } ∧
      Narrow [.weir] [] s t) ∧
  (∀ (ch : Fin 512) (edge : WitnessEdge) (s : State), Sound s → edgeCounts ch.val edge s = true →
    launchedEdge ch.val edge s = none → edge.crosses = true →
    ∃ t, exec (.witnessEdge ch edge) s = .next t ∧
      weirAcc ch.val t = { (weirAcc ch.val s) with cmpSum := (weirAcc ch.val s).cmpSum + cmpError ch.val edge s, cmpN := (weirAcc ch.val s).cmpN + 1 } ∧
      Narrow [.weir] [] s t) ∧
  (∀ (d : WeirDecided) (s : State), Sound s → s.weir.decided = some d → s.on WEIR_CTL_RUN = true →
    (dutySlot 2 (openAt200 s) s).isSome = true →
    ∃ t, exec (.weirCorrectionDelivery true) s = .next t ∧ t.weir = { s.weir with decided := some { d with delivered := true } } ∧
      Narrow [.weir, .clock] [] s t) ∧
  (∀ (a : Agent) (s : State), Sound s → calWriter a = true → s.on WEIR_CAL_INFO_BUSY = false → s.get WEIR_CAL_BANKS_BANKS ≠ 0 →
    ∃ t, exec (.weirCalibrate a) s = .next t ∧ t.resp.status = .done ∧ t.get WEIR_CAL_INFO_BUSY = 1 ∧
      (t.weir = { s.weir with run := some (((List.range 32).filter (fun b => bit (s.get WEIR_CAL_BANKS_BANKS) b)).map (fun b => ⟨b, calAtGo b s⟩)) }) ∧
      Narrow [.resp, .weir] [WEIR_CAL_INFO_BUSY] s t) ∧
  (∀ (results : List BallCal) (l : List CalBank) (s : State), Sound s → (calWatch s).weir.run = some l →
    resultsComplete results l = true →
    ∃ t, exec (.weirCalibrationEnd results) s = .next t ∧ t.get WEIR_CAL_INFO_BUSY = 0 ∧ t.weir.run = none ∧
      Frame [.events, .trace, .weir] [.edgeChannels, .weirCal, .weirChannels] s t) ∧
  (∀ (a : Agent) (s : State), Sound s → calWriter a = true → s.on WEIR_CAL_INFO_BUSY = false →
    ∃ t, exec (.weirSave a) s = .next t ∧ t.resp.status = .done ∧ t.get WEIR_CAL_INFO_BUSY = 1 ∧
      t.weir = { s.weir with saving := true } ∧ Narrow [.resp, .weir] [WEIR_CAL_INFO_BUSY] s t) ∧
  (∀ (copy0 copy1 : Bool) (hottest : Int) (s : State), Sound s → s.weir.saving = true →
    ∃ t, exec (.weirSaveEnd copy0 copy1 hottest) s = .next t ∧ t.get WEIR_CAL_INFO_BUSY = 0 ∧
      (t.get WEIR_CAL_INFO_SAVE_STATUS = if copy0 && copy1 then 0 else 1) ∧ t.weir.saving = false ∧
      (t.weir.copies = (if copy0 then calRecord hottest s else [], if copy1 then calRecord hottest s else [])) ∧
      Narrow [.events, .trace, .weir] [WEIR_CAL_INFO_BUSY, WEIR_CAL_INFO_SAVE_STATUS, WEIR_CAL_INFO_DIRTY] s t)

/-- Completion of starting, stopping, pausing and feeding a sequencer, in the cases listed. In every sound state, a writer of
the list at a group that answers: a START that meets its conditions arms the sequencer for its start tick with flags, END and
CAUSE cleared, empty stacks and queue, and the engine at ENTRY; STOP of a running pattern is noted for the next safe point;
ABORT of a running or paused one ends it with ABORTED and discards the queue; PAUSE and RESUME set and clear the host's pause
source. At the start tick an armed sequencer with a cycle queued runs, and one with none queued, no hold cycle due, no pause met
and no end decided stops with UNDERRUN; a cycle leaves the queue with its number and start; an empty queue of a running pattern
with no hold cycle due and no end decided ends it with UNDERRUN; a pattern whose queue is empty and whose end is decided becomes
STOPPED with its END and CAUSE; a paused one whose sources are gone runs on; a pause that waits past its limit is warned of
once; a page that no one waits for arrives and becomes ready; a line of the vector stream joins the prefetch buffer; a result of
no MATCH cycle sets the fail flags of its sites that are enabled. The frames are stated. (R237, R240, R241, R245, R253, R257,
R259, R260, R264, R265.) -/
def Obligations.SequencerCommandsComplete : Prop :=
  (∀ (a : Agent) (q : Fin 16) (value : Nat) (nsToTick : Nat) (k : Nat) (s : State), Sound s → domRefuses (seqDom q.val) s = none →
    a.ctl = true →
    (SEQ_CTL_STOP q.val).hit (Nat.lor value (2 ^ 29)) = false ∧ (SEQ_CTL_ABORT q.val).hit (Nat.lor value (2 ^ 29)) = false →
    startStatus q.val nsToTick s = .done → startTickOf q.val nsToTick s = some k → s.get (SEQ_PROG_ENTRY q.val) ≤ 0xFFFFFF →
    ∃ t, exec (.seqStart a q value nsToTick) s = .next t ∧ t.resp.status = .done ∧ seqState q.val t = seqArmed ∧
      t.get (SEQ_STAT_END q.val) = 0 ∧ t.get (SEQ_STAT_CAUSE q.val) = 0 ∧ t.get (SEQ_SITE_FAIL_SITE q.val) = 0 ∧
      t.get (SEQ_SITE_MATCH_SITE q.val) = 0 ∧ t.get (SEQ_PC_PC q.val) = s.get (SEQ_PROG_ENTRY q.val) ∧
      (eng q.val t).startTick = k ∧ (eng q.val t).calls = [] ∧ (eng q.val t).loops = [] ∧ (eng q.val t).queue = [] ∧
      Frame [.resp, .events, .trace, .power, .jets, .seqs, .fail] [.sluiceEntries, .domains, .jetBanks, .jetChannels,
        .edgeSeqStat, .sequencers, .captureSeqs, .failCounts] s t) ∧
  (∀ (a : Agent) (q : Fin 16) (s : State), Sound s → domRefuses (seqDom q.val) s = none → a.ctl = true →
    seqState q.val s = seqRunning →
    ∃ t, exec (.seqStop a q) s = .next t ∧ t.resp.status = .done ∧ (eng q.val t).stopReq = true ∧
      Frame [.resp, .events, .trace, .power, .jets, .seqs, .fail] [.sluiceEntries, .domains, .jetBanks, .jetChannels,
        .edgeSeqStat, .sequencers, .captureSeqs, .failCounts] s t) ∧
  (∀ (a : Agent) (q : Fin 16) (nowClk : Nat) (s : State), Sound s → domRefuses (seqDom q.val) s = none → a.ctl = true →
    seqState q.val s = seqRunning ∨ seqState q.val s = seqPaused →
    ∃ t, exec (.seqAbort a q nowClk) s = .next t ∧ t.resp.status = .done ∧ (eng q.val t).ending = some ⟨endAborted, 0⟩ ∧
      (eng q.val t).queue = [] ∧
      Frame [.resp, .events, .trace, .power, .jets, .seqs, .fail] [.sluiceEntries, .domains, .jetBanks, .jetChannels,
        .edgeSeqStat, .sequencers, .captureSeqs, .failCounts] s t) ∧
  (∀ (a : Agent) (q : Fin 16) (s : State), Sound s → domRefuses (seqDom q.val) s = none → a.ctl = true →
    ∃ t, exec (.seqPause a q) s = .next t ∧ t.resp.status = .done ∧ t.get (SEQ_CTL_PAUSE q.val) = 1 ∧
      bit (t.get (SEQ_STAT_PAUSE_SRC q.val)) 0 = true ∧
      Frame [.resp, .events, .trace, .power, .jets, .seqs, .fail] [.sluiceEntries, .domains, .jetBanks, .jetChannels,
        .edgeSeqStat, .sequencers, .captureSeqs, .failCounts] s t) ∧
  (∀ (a : Agent) (q : Fin 16) (s : State), Sound s → domRefuses (seqDom q.val) s = none → a.ctl = true →
    ∃ t, exec (.seqResume a q) s = .next t ∧ t.resp.status = .done ∧ t.get (SEQ_CTL_PAUSE q.val) = 0 ∧
      bit (t.get (SEQ_STAT_PAUSE_SRC q.val)) 0 = false ∧
      Frame [.resp, .events, .trace, .power, .jets, .seqs, .fail] [.sluiceEntries, .domains, .jetBanks, .jetChannels,
        .edgeSeqStat, .sequencers, .captureSeqs, .failCounts] s t) ∧
  (∀ (q : Fin 16) (s : State), Sound s → seqState q.val s = seqArmed → (eng q.val s).startTick ≤ frameCount s →
    (eng q.val s).queue ≠ [] →
    ∃ t, exec (.seqStartTick q) s = .next t ∧ seqState q.val t = seqRunning ∧ (eng q.val t).nextK = 0 ∧ (eng q.val t).nextT = 0 ∧
      Frame [.events, .trace, .power, .jets, .seqs, .fail] [.sluiceEntries, .domains, .jetBanks, .jetChannels, .sequencers,
        .captureSeqs] s t) ∧
  (∀ (q : Fin 16) (s : State), Sound s → seqState q.val s = seqArmed → (eng q.val s).startTick ≤ frameCount s →
    (eng q.val s).queue = [] → holdDue q.val s = false ∧ pauseMet q.val s = false → (eng q.val s).ending = none →
    ∃ t, exec (.seqStartTick q) s = .next t ∧ seqState q.val t = seqStoppedCode ∧ t.get (SEQ_STAT_END q.val) = endUnderrun ∧
      t.get (SEQ_STAT_WAIT q.val) = 0 ∧
      Frame [.events, .trace, .power, .jets, .seqs, .fail] [.sluiceEntries, .domains, .jetBanks, .jetChannels, .sequencers,
        .captureSeqs] s t) ∧
  (∀ (q : Fin 16) (y : Cyc) (l : List Cyc) (s : State), Sound s → seqState q.val s = seqRunning ∨ seqState q.val s = seqPaused →
    (eng q.val s).queue = y :: l →
    ∃ t, exec (.cycleIssue q) s = .next t ∧ (eng q.val t).queue = l ∧
      (eng q.val t).issued = (eng q.val s).issued ++ [{ y with k := (eng q.val s).nextK, t := (eng q.val s).nextT }] ∧
      (eng q.val t).nextK = (eng q.val s).nextK + 1 ∧
      (eng q.val t).nextT = (eng q.val s).nextT + s.get (ET_PER_PERIOD q.val y.ts) ∧
      t.get (ET_SEQ_STAT_TS_LAST q.val) = y.ts % 64 ∧ Narrow [.seqs] [ET_SEQ_STAT_CYCLES q.val, ET_SEQ_STAT_TS_LAST q.val] s t) ∧
  (∀ (q : Fin 16) (s : State), Sound s → seqState q.val s = seqRunning → (eng q.val s).queue = [] → (eng q.val s).ending = none →
    holdDue q.val s = false →
    ∃ t, exec (.vectorUnderrun q) s = .next t ∧ (eng q.val t).ending = some ⟨endUnderrun, underrunCause q.val s⟩ ∧
      Frame [.events, .trace, .power, .jets, .seqs] [.sluiceEntries, .domains, .jetBanks, .jetChannels, .sequencers] s t) ∧
  (∀ (q : Fin 16) (x : SeqEnd) (s : State), Sound s → seqState q.val s = seqRunning ∨ seqState q.val s = seqPaused →
    (eng q.val s).queue = [] → (eng q.val s).ending = some x →
    ∃ t, exec (.patternEnd q) s = .next t ∧ seqState q.val t = seqStoppedCode ∧ t.get (SEQ_STAT_END q.val) = x.code % 16 ∧
      t.get (SEQ_STAT_CAUSE q.val) = x.cause % 16 ∧ t.get (SEQ_STAT_WAIT q.val) = 0 ∧ (eng q.val t).ending = none ∧
      Frame [.events, .trace, .power, .jets, .seqs, .fail] [.sluiceEntries, .domains, .jetBanks, .jetChannels, .sequencers,
        .captureSeqs] s t) ∧
  (∀ (q : Fin 16) (s : State), Sound s → seqState q.val s = seqPaused → s.get (SEQ_STAT_PAUSE_SRC q.val) = 0 →
    ∃ t, exec (.seqResumeStart q) s = .next t ∧ seqState q.val t = seqRunning ∧ (eng q.val t).begun = true ∧
      Narrow [.events, .trace, .seqs] [SEQ_STAT_STATE q.val] s t) ∧
  (∀ (q : Fin 16) (s : State), Sound s → pauseWaits q.val s = true → (eng q.val s).pauseWarned = false →
    max 1 (s.get (SEQ_CTL_PAUSE_WARN q.val)) ≤ (eng q.val s).pauseTicks →
    ∃ t, exec (.pauseWarnExpiry q) s = .next t ∧ (eng q.val t).pauseWarned = true ∧ Narrow [.events, .trace, .seqs] [] s t) ∧
  (∀ (q : Fin 16) (page : Nat) (b : List Byte) (u : State) (s : State), Sound s →
    ((eng q.val s).pages.any (fun p => p.num == page && !p.ready) = true) →
    hbmLoad (4 + q.val) (s.get (SEQ_PROG_BASE q.val) + 4096 * page) 64 s = (.done, b, u) →
    (eng q.val s).demand = none ∧ (eng q.val s).prefWait = [] →
    ∃ t, exec (.pageLoadDone q page .done) s = .next t ∧
      ((eng q.val t).pages.any (fun p => p.num == page && p.ready && decide (p.bytes = b)) = true) ∧
      Frame [.events, .trace, .hbm, .enc, .seqs, .leap] [.loader, .sequencers, .hbmEcc, .hbmFlip, .encRegions] s t) ∧
  (∀ (q : Fin 16) (b : List Byte) (u : State) (s : State), Sound s → seqStopped q.val s = false → (eng q.val s).ending = none →
    recWords q.val s ≠ 0 → (eng q.val s).vecBuf.length + 8 ≤ 8192 → hbmLoad (4 + q.val) (eng q.val s).vecAt 1 s = (.done, b, u) →
    ∃ t, exec (.vectorPrefetch q .done) s = .next t ∧ (eng q.val t).vecBuf = (eng q.val s).vecBuf ++ wordsOf 8 b ∧
      (eng q.val t).vecAt = (eng q.val s).vecAt + 64 ∧
      Frame [.events, .trace, .hbm, .enc, .seqs, .leap] [.loader, .hbmEcc, .hbmFlip, .encRegions] s t) ∧
  (∀ (q : Fin 16) (y : CycSeen) (l : List CycSeen) (s : State), Sound s → (eng q.val s).seen = y :: l → y.mrep = none →
    s.get (SEQ_SITE_FAIL_SITE q.val) < 2 ^ 64 ∧ y.fails < 2 ^ 64 →
    ∃ t, exec (.seqResultSeen q) s = .next t ∧ (eng q.val t).seen = l ∧
      t.get (SEQ_SITE_FAIL_SITE q.val) = Nat.lor (s.get (SEQ_SITE_FAIL_SITE q.val)) (y.fails - Nat.land y.fails (Nat.lor y.mask y.off)) ∧
      Narrow [.seqs] [SEQ_SITE_FAIL_SITE q.val] s t)

/-- Completion of the instructions that steer a pattern, in the cases listed. In every sound state in which the engine stands at
the instruction, which no STOP or pause holds, and its vector part is done, below the last address where it goes on: VEC goes
on; JMP jumps to OPA; CALL and RET push and pop the return address within eight entries; LOOP and ENDL push, count and pop
within sixteen; JFAIL without SYNC and JC jump on their tests and else go on, JFAIL with CLEAR clearing the fail flags, and
JFAIL with SYNC waits while a cycle queued before it has no result; a MATCH that begins waits with its sites cleared, and one
past its last repetition whose results are known jumps to OPA; FWAIT waits, and one that has waited its ticks goes on. The
frames are stated. (R238, R247, R250, R251, R253, R254, R255.) -/
def Obligations.SequencerFlowCompletes : Prop :=
  (∀ (q : Fin 16) (w : Nat) (u : State) (s : State), Sound s → AtInstruction q.val 0 w s → VectorDone q.val w s u →
    s.get (SEQ_PC_PC q.val) < 0xFFFFFF →
    ∃ t, exec (.vec q) s = .next t ∧ GoesTo q.val (s.get (SEQ_PC_PC q.val) + 1) t ∧
      Frame [.events, .trace, .seqs, .ports] [.sequencers] s t) ∧
  (∀ (q : Fin 16) (w : Nat) (u : State) (s : State), Sound s → AtInstruction q.val 1 w s → VectorDone q.val w s u →
    ∃ t, exec (.jmp q) s = .next t ∧ GoesTo q.val (insOpa w) t ∧ Frame [.events, .trace, .seqs, .ports] [.sequencers] s t) ∧
  (∀ (q : Fin 16) (w : Nat) (u : State) (s : State), Sound s → AtInstruction q.val 2 w s → (eng q.val s).calls.length < 8 →
    VectorDone q.val w s u →
    ∃ t, exec (.call q) s = .next t ∧ GoesTo q.val (insOpa w) t ∧
      (eng q.val t).calls = (eng q.val s).calls ++ [s.get (SEQ_PC_PC q.val) + 1] ∧
      t.get (SEQ_PC_CALLS q.val) = (eng q.val s).calls.length + 1 ∧ Frame [.events, .trace, .seqs, .ports] [.sequencers] s t) ∧
  (∀ (q : Fin 16) (w a : Nat) (u : State) (s : State), Sound s → AtInstruction q.val 3 w s →
    (eng q.val s).calls.getLast? = some a → a ≤ 0xFFFFFF → VectorDone q.val w s u →
    ∃ t, exec (.ret q) s = .next t ∧ GoesTo q.val a t ∧ (eng q.val t).calls = (eng q.val s).calls.dropLast ∧
      Frame [.events, .trace, .seqs, .ports] [.sequencers] s t) ∧
  (∀ (q : Fin 16) (w : Nat) (u : State) (s : State), Sound s → AtInstruction q.val 4 w s → (eng q.val s).loops.length < 16 →
    VectorDone q.val w s u → s.get (SEQ_PC_PC q.val) < 0xFFFFFF →
    ∃ t, exec (.loop q) s = .next t ∧ GoesTo q.val (s.get (SEQ_PC_PC q.val) + 1) t ∧
      (eng q.val t).loops = (eng q.val s).loops ++ [⟨s.get (SEQ_PC_PC q.val) + 1, insOpa w + 1⟩] ∧
      t.get (SEQ_PC_LOOPS q.val) = (eng q.val s).loops.length + 1 ∧ Frame [.events, .trace, .seqs, .ports] [.sequencers] s t) ∧
  (∀ (q : Fin 16) (w : Nat) (x : LoopEnt) (u : State) (s : State), Sound s → AtInstruction q.val 5 w s →
    (eng q.val s).loops.getLast? = some x → 1 < x.left → x.start ≤ 0xFFFFFF → VectorDone q.val w s u →
    ∃ t, exec (.endl q) s = .next t ∧ GoesTo q.val x.start t ∧
      (eng q.val t).loops = (eng q.val s).loops.dropLast ++ [{ x with left := x.left - 1 }] ∧
      Frame [.events, .trace, .seqs, .ports] [.sequencers] s t) ∧
  (∀ (q : Fin 16) (w : Nat) (x : LoopEnt) (u : State) (s : State), Sound s → AtInstruction q.val 5 w s →
    (eng q.val s).loops.getLast? = some x → x.left ≤ 1 → VectorDone q.val w s u → s.get (SEQ_PC_PC q.val) < 0xFFFFFF →
    ∃ t, exec (.endl q) s = .next t ∧ GoesTo q.val (s.get (SEQ_PC_PC q.val) + 1) t ∧
      (eng q.val t).loops = (eng q.val s).loops.dropLast ∧ Frame [.events, .trace, .seqs, .ports] [.sequencers] s t) ∧
  (∀ (q : Fin 16) (w : Nat) (u : State) (s : State), Sound s → AtInstruction q.val 6 w s → bit (insOpb w) 0 = false →
    VectorDone q.val w s u → s.get (SEQ_PC_PC q.val) < 0xFFFFFF →
    ∃ t, exec (.jfail q) s = .next t ∧
      (GoesTo q.val (if failTest q.val (insOpb w) u then insOpa w else s.get (SEQ_PC_PC q.val) + 1) t) ∧
      (t.get (SEQ_SITE_FAIL_SITE q.val) = (if bit (insOpb w) 1 then 0 else u.get (SEQ_SITE_FAIL_SITE q.val))) ∧
      Frame [.events, .trace, .seqs, .ports] [.sequencers] s t) ∧
  (∀ (q : Fin 16) (w : Nat) (u : State) (s : State), Sound s → AtInstruction q.val 6 w s → bit (insOpb w) 0 = true →
    s.get (SEQ_STAT_WAIT q.val) ≠ 4 → WaitBegins q.val w s u → (eng q.val u).queue ≠ [] →
    (∀ y ∈ (eng q.val u).queue, y.n < (eng q.val u).syncAt) →
    ∃ t, exec (.jfail q) s = .next t ∧ t.get (SEQ_STAT_WAIT q.val) = 4 ∧ t.get (SEQ_PC_PC q.val) = s.get (SEQ_PC_PC q.val) ∧
      Frame [.events, .trace, .seqs, .ports] [.sequencers] s t) ∧
  (∀ (q : Fin 16) (w : Nat) (u : State) (s : State), Sound s → AtInstruction q.val 7 w s → VectorDone q.val w s u →
    s.get (SEQ_PC_PC q.val) < 0xFFFFFF →
    ∃ t, exec (.jc q) s = .next t ∧
      (GoesTo q.val (if jcCond q.val (bits (insOpb w) 0 4) u != bit (insOpb w) 4 then insOpa w else s.get (SEQ_PC_PC q.val) + 1) t) ∧
      Frame [.events, .trace, .seqs, .ports] [.sequencers] s t) ∧
  (∀ (q : Fin 16) (w : Nat) (s : State), Sound s → AtInstruction q.val 8 w s → s.get (SEQ_STAT_WAIT q.val) ≠ 3 →
    ∃ t, exec (.seqMatch q) s = .next t ∧ t.get (SEQ_STAT_WAIT q.val) = 3 ∧ t.get (SEQ_SITE_MATCH_SITE q.val) = 0 ∧
      t.get (SEQ_PC_PC q.val) = s.get (SEQ_PC_PC q.val) ∧ Frame [.events, .trace, .seqs, .ports] [.sequencers] s t) ∧
  (∀ (q : Fin 16) (w : Nat) (s : State), Sound s → seqExecutes q.val s = true →
    fetchIns q.val (s.get (SEQ_PC_PC q.val)) s = some w → insOpc w = 8 → s.get (SEQ_STAT_WAIT q.val) = 3 →
    insNovec w = true ∨ insRep w < (eng q.val s).mreps → (∀ y ∈ (eng q.val s).queue ++ (eng q.val s).issued, y.mrep = none) →
    (∀ y ∈ (eng q.val s).seen, y.mrep = none) →
    ∃ t, exec (.matchTimeout q) s = .next t ∧ GoesTo q.val (insOpa w) t ∧ Frame [.events, .trace, .seqs] [.sequencers] s t) ∧
  (∀ (q : Fin 16) (w : Nat) (u : State) (s : State), Sound s → AtInstruction q.val 9 w s → s.get (SEQ_STAT_WAIT q.val) ≠ 1 →
    WaitBegins q.val w s u →
    ∃ t, exec (.fwait q) s = .next t ∧ t.get (SEQ_STAT_WAIT q.val) = 1 ∧ t.get (SEQ_PC_PC q.val) = s.get (SEQ_PC_PC q.val) ∧
      Frame [.events, .trace, .seqs, .ports] [.sequencers] s t) ∧
  (∀ (q : Fin 16) (w : Nat) (s : State), Sound s → seqExecutes q.val s = true →
    fetchIns q.val (s.get (SEQ_PC_PC q.val)) s = some w → insOpc w = 9 → s.get (SEQ_STAT_WAIT q.val) = 1 →
    max 1 (insOpb w) ≤ (eng q.val s).fticks → s.get (SEQ_PC_PC q.val) < 0xFFFFFF →
    ∃ t, exec (.fwaitEnd q) s = .next t ∧ GoesTo q.val (s.get (SEQ_PC_PC q.val) + 1) t ∧ Frame [.seqs] [.sequencers] s t)

/-- Completion of the instructions that act beside the pattern, in the cases listed. In every sound state in which the engine
stands at the instruction, which no STOP or pause holds, and its vector part is done, below the last address where it goes on:
SLU whose request is queued waits for it, keeps the ticket of one granted at once and goes on, and one that waits past its limit
without a grant jumps with the request withdrawn; SLUREL makes its ticket invalid; SETR writes its register; CLRF clears what
OPB names and nothing else of the three; DCLOSE sends a close marker; MARK stores its value and cycle count; PREF within a page
has its page resident, loading or waiting; STOP ends the pattern with DONE, and an instruction that the tables do not define
ends it with ILLEGAL. The frames are stated. (R247, R250, R256, R258, R259.) -/
def Obligations.SequencerActionsComplete : Prop :=
  (∀ (q : Fin 16) (w k : Nat) (u v : State) (s : State), Sound s → AtInstruction q.val 10 w s → s.get (SEQ_STAT_WAIT q.val) ≠ 2 →
    WaitBegins q.val w s u → submitSlu q.val (bits (insOpb w) 0 3) u = (.done, some k, v) → entGranted k v = false →
    ∃ t, exec (.slu q) s = .next t ∧ t.get (SEQ_STAT_WAIT q.val) = 2 ∧ (eng q.val t).sluWait = some (ticketOf k v) ∧
      Frame [.events, .trace, .power, .profile, .seqs, .ports] [.sluice, .sluiceEntries, .sequencers] s t) ∧
  (∀ (q : Fin 16) (w k : Nat) (u v : State) (s : State), Sound s → AtInstruction q.val 10 w s → s.get (SEQ_STAT_WAIT q.val) ≠ 2 →
    WaitBegins q.val w s u → submitSlu q.val (bits (insOpb w) 0 3) u = (.done, some k, v) → entGranted k v = true →
    s.get (SEQ_PC_PC q.val) < 0xFFFFFF →
    ∃ t, exec (.slu q) s = .next t ∧ GoesTo q.val (s.get (SEQ_PC_PC q.val) + 1) t ∧
      t.get (SEQ_TICKET_VALID q.val (bits (insOpb w) 0 3)) = 1 ∧ (eng q.val t).sluWait = none ∧
      Frame [.events, .trace, .power, .profile, .seqs, .ports] [.sluice, .sluiceEntries, .sequencers] s t) ∧
  (∀ (q : Fin 16) (w : Nat) (s : State), Sound s → seqExecutes q.val s = true →
    fetchIns q.val (s.get (SEQ_PC_PC q.val)) s = some w → insOpc w = 10 → s.get (SEQ_STAT_WAIT q.val) = 2 →
    bits (insOpb w) 3 13 ≠ 0 ∧ bits (insOpb w) 3 13 ≤ (eng q.val s).sluTicks → sluDone q.val s = false →
    ∃ t, exec (.sluTimeout q) s = .next t ∧ GoesTo q.val (insOpa w) t ∧ (eng q.val t).sluWait = none ∧
      Frame [.events, .trace, .power, .jets, .seqs] [.sluiceEntries, .domains, .jetBanks, .jetChannels, .sequencers] s t) ∧
  (∀ (q : Fin 16) (w : Nat) (u : State) (s : State), Sound s → AtInstruction q.val 11 w s → VectorDone q.val w s u →
    s.get (SEQ_PC_PC q.val) < 0xFFFFFF →
    ∃ t, exec (.slurel q) s = .next t ∧ GoesTo q.val (s.get (SEQ_PC_PC q.val) + 1) t ∧
      t.get (SEQ_TICKET_VALID q.val (bits (insOpb w) 0 3)) = 0 ∧
      Frame [.events, .trace, .power, .profile, .jets, .seqs, .ports] [.profile, .sluiceEntries, .domains, .jetBanks,
        .jetChannels, .sequencers] s t) ∧
  (∀ (q : Fin 16) (w : Nat) (u : State) (s : State), Sound s → AtInstruction q.val 12 w s → bits (insOpb w) 0 6 ≤ 9 →
    VectorDone q.val w s u → s.get (SEQ_PC_PC q.val) < 0xFFFFFF →
    ∃ t, exec (.setr q) s = .next t ∧ GoesTo q.val (s.get (SEQ_PC_PC q.val) + 1) t ∧
      (t.get (GEN_VALUE q.val (bits (insOpb w) 0 6)) = (if bits (insOpb w) 0 6 = 2 ∨ bits (insOpb w) 0 6 = 5 then insOpa w % 64 else insOpa w)) ∧
      Frame [.events, .trace, .seqs, .ports] [.sequencers] s t) ∧
  (∀ (q : Fin 16) (w : Nat) (u : State) (s : State), Sound s → AtInstruction q.val 12 w s →
    16 ≤ bits (insOpb w) 0 6 ∧ bits (insOpb w) 0 6 < 24 → VectorDone q.val w s u → s.get (SEQ_PC_PC q.val) < 0xFFFFFF →
    ∃ t, exec (.setr q) s = .next t ∧ GoesTo q.val (s.get (SEQ_PC_PC q.val) + 1) t ∧
      t.get (GEN_D_VALUE q.val 0) = u.get (GEN_DR_VALUE q.val (bits (insOpb w) 0 6 - 16)) % 2 ^ 64 ∧
      Frame [.events, .trace, .seqs, .ports] [.sequencers] s t) ∧
  (∀ (q : Fin 16) (w : Nat) (u : State) (s : State), Sound s → AtInstruction q.val 12 w s → bits (insOpb w) 0 6 = 24 →
    VectorDone q.val w s u → s.get (SEQ_PC_PC q.val) < 0xFFFFFF →
    ∃ t, exec (.setr q) s = .next t ∧ GoesTo q.val (s.get (SEQ_PC_PC q.val) + 1) t ∧
      t.get (GEN_D_VALUE q.val 1) = u.get (GEN_D_VALUE q.val 0) % 2 ^ 64 ∧
      Frame [.events, .trace, .seqs, .ports] [.sequencers] s t) ∧
  (∀ (q : Fin 16) (w : Nat) (u : State) (s : State), Sound s → AtInstruction q.val 13 w s → VectorDone q.val w s u →
    s.get (SEQ_PC_PC q.val) < 0xFFFFFF →
    ∃ t, exec (.clrf q) s = .next t ∧ GoesTo q.val (s.get (SEQ_PC_PC q.val) + 1) t ∧
      (t.get (SEQ_SITE_FAIL_SITE q.val) = (if bit (insOpb w) 0 then 0 else u.get (SEQ_SITE_FAIL_SITE q.val))) ∧
      (t.get (SEQ_SITE_MATCH_SITE q.val) = (if bit (insOpb w) 1 then 0 else u.get (SEQ_SITE_MATCH_SITE q.val))) ∧
      (eng q.val t).xw = (!bit (insOpb w) 2 && (eng q.val u).xw) ∧ (eng q.val t).yw = (!bit (insOpb w) 2 && (eng q.val u).yw) ∧
      (eng q.val t).zw = (!bit (insOpb w) 2 && (eng q.val u).zw) ∧ Frame [.events, .trace, .seqs, .ports] [.sequencers] s t) ∧
  (∀ (q : Fin 16) (w : Nat) (u : State) (s : State), Sound s → AtInstruction q.val 14 w s → VectorDone q.val w s u →
    s.get (SEQ_PC_PC q.val) < 0xFFFFFF →
    ∃ t, exec (.dclose q) s = .next t ∧ GoesTo q.val (s.get (SEQ_PC_PC q.val) + 1) t ∧
      (eng q.val t).markers = (eng q.val u).markers ++ [⟨(eng q.val u).enq, queuedCount q.val u - 1, s.get (SEQ_PC_PC q.val), bits (insOpb w) 0 12, none⟩] ∧
      Frame [.events, .trace, .seqs, .ports] [.sequencers] s t) ∧
  (∀ (q : Fin 16) (w : Nat) (u : State) (s : State), Sound s → AtInstruction q.val 15 w s → VectorDone q.val w s u →
    s.get (SEQ_PC_PC q.val) < 0xFFFFFF →
    ∃ t, exec (.mark q) s = .next t ∧ GoesTo q.val (s.get (SEQ_PC_PC q.val) + 1) t ∧ t.get (SEQ_MARK_VALUE q.val) = insOpa w ∧
      t.get (SEQ_MARK_CYCLE q.val) = queuedCount q.val u % 2 ^ 24 ∧ Frame [.events, .trace, .seqs, .ports] [.sequencers] s t) ∧
  (∀ (q : Fin 16) (w : Nat) (u : State) (s : State), Sound s → AtInstruction q.val 16 w s → VectorDone q.val w s u →
    pageOf (s.get (SEQ_PC_PC q.val) + 1) = pageOf (s.get (SEQ_PC_PC q.val)) → s.get (SEQ_PC_PC q.val) < 0xFFFFFF →
    ∃ t, exec (.pref q) s = .next t ∧ t.get (SEQ_PC_PC q.val) = s.get (SEQ_PC_PC q.val) + 1 ∧
      ((∃ p ∈ (eng q.val t).pages, p.num = pageOf (insOpa w)) ∨ pageOf (insOpa w) ∈ (eng q.val t).prefWait) ∧
      Frame [.events, .trace, .seqs, .ports] [.sequencers] s t) ∧
  (∀ (q : Fin 16) (w : Nat) (u : State) (s : State), Sound s → AtInstruction q.val 17 w s → VectorDone q.val w s u →
    (eng q.val u).ending = none →
    ∃ t, exec (.stop q) s = .next t ∧ (eng q.val t).ending = some ⟨endDone, 0⟩ ∧
      t.get (SEQ_PC_PC q.val) = s.get (SEQ_PC_PC q.val) ∧ Frame [.events, .trace, .seqs, .ports] [.sequencers] s t) ∧
  (∀ (q : Fin 16) (w : Nat) (s : State), Sound s → seqExecutes q.val s = true →
    fetchIns q.val (s.get (SEQ_PC_PC q.val)) s = some w → insLegal w = false →
    ∃ t, exec (.illegalOpcode q) s = .next t ∧ (eng q.val t).ending = some ⟨endIllegal, 0⟩ ∧ Narrow [.seqs] [] s t)

/-- Completion of fail capture's commands, in the cases listed. In every sound state in which the domains concerned run: a
complete cycle leaves the issued list and is handed on to the sequencer, and in COUNT mode each failing site counts a cycle of
the pattern that is no MATCH cycle; a close marker whose results are complete closes the OPEN window of its sequencer and
domain; in a slot that lets duty 3 work, with an HBM that admits its line, the drain writes the oldest record of the sequencer
whose turn it is to the ring, or takes the oldest pending spill in its turn; a write of DRAIN_ERR by a writer of the list clears
it; OPEN, CLOSE and DISCARD by such a writer move a window that may, answering DONE; a spill written makes its window CLOSED and
ready; clearing ends with the window FREE and its slices zero; a scrubbed word of a window, with scrubbing on, counts its error.
The frames are stated. (R272, R273, R276, R277, R281, R282, R284, R285, R286, R287, R288.) -/
def Obligations.FailCaptureCommandsComplete : Prop :=
  (∀ (q : Fin 16) (y : Cyc) (l : List Cyc) (s : State), Sound s → (eng q.val s).issued = y :: l → cycleComplete q.val y s = true →
    ∃ t, exec (.cycleResultComplete q) s = .next t ∧ (eng q.val t).issued = l ∧
      (eng q.val t).seen = (eng q.val s).seen ++ [⟨y.n, failSites q.val y s, (cycleMasks q.val y s).1, (cycleMasks q.val y s).2, y.mrep, y.last⟩] ∧
      Frame [.events, .trace, .seqs, .ports, .fail] [.fabricPorts, .sequencers, .captureLost, .captureSeqs, .failCounts, .failMaps] s t) ∧
  (∀ (q : Fin 16) (y : Cyc) (l : List Cyc) (g : Nat) (s : State), Sound s → (eng q.val s).issued = y :: l →
    cycleComplete q.val y s = true → g < 64 → domRuns 70 s = true → s.get (FC_SEQ_CTL_MODE q.val) = 3 → y.mrep = none →
    spGet q.val s.fail.startN ≤ y.n → bit (failSites q.val y s) g = true →
    ∃ t, exec (.cycleResultComplete q) s = .next t ∧
      t.get (FC_SITE_FAIL_FAILCYC q.val g) = min (s.get (FC_SITE_FAIL_FAILCYC q.val g) + 1) (2 ^ 48 - 1) ∧
      Frame [.events, .trace, .seqs, .ports, .fail] [.fabricPorts, .sequencers, .captureLost, .captureSeqs, .failCounts, .failMaps] s t) ∧
  (∀ (q : Fin 16) (x : Marker) (l : List Marker) (m : Nat) (s : State), Sound s → (eng q.val s).markers = x :: l → x.fin = none →
    resultsBefore q.val x.n s = true → domRuns 70 s = true ∧ domRuns 71 s = true → m < 128 →
    (((List.range 128).find? (fun k => mapState k s == mapOpen && s.get (FC_MAP_SEL_SEQ k) == q.val && s.get (FC_MAP_SEL_DOMAIN k) == x.domain)) = some m) →
    ∃ t, exec (.closeMarker q) s = .next t ∧ mapState m t = mapClosed ∧ t.fail.closedAt = spSet m (frameCount s) s.fail.closedAt ∧
      (t.fail.ready = if s.on (FC_MAP_CTL_SPILL m) then s.fail.ready else s.fail.ready ++ [m]) ∧
      (t.fail.spillPend = if s.on (FC_MAP_CTL_SPILL m) then s.fail.spillPend ++ [m] else s.fail.spillPend) ∧
      Frame [.events, .trace, .seqs, .fail, .ra] [.sequencers, .captureSeqs, .failMaps, .repairDomains] s t) ∧
  (∀ (k q : Nat) (y : List Nat) (l : List (List Nat)) (s : State), Sound s → dutySlot 3 anySlot s = some k →
    domRuns 70 s = true ∧ hbmWindow 1 1 s = true → spillTurn s = false → drainNext s = some q → fcFifo q s = y :: l →
    (putRecord q y { s with clock := { s.clock with slot := k } }).1 = .done →
    ∃ t, exec (.failDrain 1 .done) s = .next t ∧ t.clock.slot = k ∧ t.fail.fifo = putKeyed q l s.fail.fifo ∧
      t.get (FC_LOG_PTR_WR q) = (s.get (FC_LOG_PTR_WR q) + 1) % 2 ^ 32 ∧
      Frame [.events, .trace, .clock, .hbm, .enc, .seqs, .fail, .leap] [.loader, .sequencers, .captureSeqs, .failMaps, .hbmEcc,
        .hbmFlip, .encRegions] s t) ∧
  (∀ (status : Status) (m : Nat) (l : List Nat) (s : State), Sound s → (dutySlot 3 anySlot s).isSome = true →
    domRuns 70 s = true ∧ hbmWindow 1 1 s = true → s.fail.spillPend = m :: l → spillTurn s = true →
    ∃ t, exec (.failDrain 1 status) s = .next t ∧ mapState m t = mapSpilling ∧ t.fail.spillPend = l ∧ t.fail.units = 0 ∧
      Narrow [.fail, .clock] [FC_MAP_CTL_STATE m] s t) ∧
  (∀ (n : Nat) (status : Status) (s : State), Sound s →
    ∃ t, exec (.failDrain (n + 1) status) s = .next t ∧
      (∃ u, exec (.failDrain n status) s = .next u ∧ exec (.failDrain 1 status) u = .next t) ∧
      Frame [.events, .trace, .clock, .hbm, .enc, .seqs, .fail, .leap] [.loader, .sequencers, .captureSeqs, .failMaps, .hbmEcc,
        .hbmFlip, .encRegions] s t) ∧
  (∀ (a : Agent) (q : Fin 16) (s : State), Sound s → domRefuses 70 s = none → a.ctl = true →
    ∃ t, exec (.drainResume a q) s = .next t ∧ t.resp.status = .done ∧ t.get (FC_SEQ_STAT_DRAIN_ERR q.val) = 0 ∧
      Narrow [.resp] [FC_SEQ_STAT_DRAIN_ERR q.val] s t) ∧
  (∀ (a : Agent) (m : Fin 128) (spill : Bool) (s : State), Sound s → domRefuses 71 s = none → a.ctl = true →
    openBad m.val s = false →
    ∃ t, exec (.mapOpen a m spill) s = .next t ∧ t.resp.status = .done ∧ mapState m.val t = 1 ∧
      (t.get (FC_MAP_CTL_SPILL m.val) = if spill then 1 else 0) ∧ t.get (FC_MAP_STAT_HITS m.val) = 0 ∧
      t.get (FC_MAP_STAT_NONDATA m.val) = 0 ∧ t.get (FC_MAP_CTL_MAPERR m.val) = 0 ∧
      Frame [.resp, .events, .trace, .fail, .ra] [.failMaps, .repairDomains] s t) ∧
  (∀ (a : Agent) (m : Fin 128) (s : State), Sound s → domRefuses 71 s = none → a.ctl = true → mapState m.val s = mapOpen →
    ∃ t, exec (.mapClose a m) s = .next t ∧ t.resp.status = .done ∧ mapState m.val t = mapClosed ∧
      t.fail.closedAt = spSet m.val (frameCount s) s.fail.closedAt ∧
      Frame [.resp, .events, .trace, .fail, .ra] [.failMaps, .repairDomains] s t) ∧
  (∀ (a : Agent) (m : Fin 128) (s : State), Sound s → domRefuses 71 s = none → a.ctl = true →
    mapState m.val s = mapOpen ∨ mapState m.val s = mapClosed →
    ∃ t, exec (.mapDiscard a m) s = .next t ∧ t.resp.status = .done ∧ mapState m.val t = mapClearing ∧
      Frame [.resp, .events, .trace, .fail, .ra] [.failMaps, .repairDomains] s t) ∧
  (∀ (m : Fin 128) (u : State) (s : State), Sound s → domRuns 71 s = true ∧ domRuns 70 s = true → mapState m.val s = mapSpilling →
    hbmWindow 1 ((mapBytes m.val s).length / 64) s = true →
    hbmSave 45 (s.get (FC_MAP_SPILL_ADDR m.val)) ((mapBytes m.val s).length / 64) (mapBytes m.val s) s = (.done, u) →
    ∃ t, exec (.spillWritten m .done) s = .next t ∧ mapState m.val t = mapClosed ∧ t.fail.ready = s.fail.ready ++ [m.val] ∧
      Frame [.events, .trace, .hbm, .enc, .fail, .ra, .leap] [.loader, .failMaps, .repairDomains, .hbmEcc, .hbmFlip, .encRegions] s t) ∧
  (∀ (m : Fin 128) (s : State), Sound s → domRuns 71 s = true → mapState m.val s = mapClearing →
    ∃ t, exec (.mapCleared m) s = .next t ∧ mapState m.val t = mapFree ∧
      t.fail.map = spClear (sliceWords * (mapSlices m.val s).1) (sliceWords * ((mapSlices m.val s).2 + 1)) s.fail.map ∧
      Narrow [.events, .trace, .fail] [FC_MAP_CTL_STATE m.val] s t) ∧
  (∀ (slice : Fin 64) (word m : Nat) (s : State), Sound s → sliceOwner slice.val s = some m → domRuns 71 s = true →
    s.get FC_ECC_CTL_SCRUB_RATE ≠ 0 → word < sliceWords →
    ∃ t, exec (.mapScrubWord slice word .single) s = .next t ∧ t.get FC_ECC_STAT_CORR = min (s.get FC_ECC_STAT_CORR + 1) 65535 ∧
      Frame [.events, .trace] [.captureEcc, .failMaps] s t) ∧
  (∀ (slice : Fin 64) (word m : Nat) (s : State), Sound s → sliceOwner slice.val s = some m → domRuns 71 s = true →
    s.get FC_ECC_CTL_SCRUB_RATE ≠ 0 → word < sliceWords →
    ∃ t, exec (.mapScrubWord slice word .double) s = .next t ∧
      t.get FC_ECC_STAT_UNCORR = min (s.get FC_ECC_STAT_UNCORR + 1) 65535 ∧ t.get (FC_MAP_CTL_MAPERR m) = 1 ∧
      Narrow [.events, .trace] [FC_ECC_STAT_UNCORR, FC_MAP_CTL_MAPERR m] s t)

/-- Completion of redundancy analysis commands, in the cases listed. In every sound state in which the domains concerned run:
ARM of an EMPTY domain whose descriptor passes its checks makes it ARMED, or QUEUED where a CLOSED window names it already (the
model's choice, notes/assumptions/35.md); CANCEL of an ARMED domain makes it EMPTY, and of one being analysed ends the analysis
with an ABORTED record; the next ready map that nothing blocks and whose geometry fits goes to the lowest free unit, both shown
as being analysed; the end of the list read releases the map and keeps the count and the must-repair result; the end of the
search puts the record in the queue and frees the unit; the head record goes to the ring whole where there is room and the HBM
admits it, with the LAST fields; a RING_ERR write of a writer of the list clears it. The frames are stated. (R300, R301, R302,
R303, R304, R305, R306, R309, R311, R312.) -/
def Obligations.RepairCommandsComplete : Prop :=
  (∀ (a : Agent) (d : Fin 4096) (s : State), Sound s → domRefuses 72 s = none → a.ctl = true → raState d.val s = raEmpty →
    armOk d.val s = true → (∀ m < 128, mapState m s = mapClosed → s.get (FC_MAP_SEL_DOMAIN m) ≠ d.val) →
    ∃ t, exec (.raArm a d) s = .next t ∧ t.resp.status = .done ∧ raState d.val t = raArmed ∧
      Narrow [.resp] [RA_DOM_STATE d.val] s t) ∧
  (∀ (a : Agent) (d : Fin 4096) (m : Nat) (s : State), Sound s → domRefuses 72 s = none → a.ctl = true →
    raState d.val s = raEmpty → armOk d.val s = true → m < 128 → mapState m s = mapClosed ∧ s.get (FC_MAP_SEL_DOMAIN m) = d.val →
    ∃ t, exec (.raArm a d) s = .next t ∧ t.resp.status = .done ∧ raState d.val t = raQueued ∧
      Narrow [.resp, .ra] [RA_DOM_STATE d.val] s t) ∧
  (∀ (a : Agent) (d : Fin 4096) (s : State), Sound s → domRefuses 72 s = none → a.ctl = true → raState d.val s = raArmed →
    ∃ t, exec (.raCancel a d) s = .next t ∧ t.resp.status = .done ∧ raState d.val t = raEmpty ∧
      Narrow [.resp] [RA_DOM_STATE d.val] s t) ∧
  (∀ (a : Agent) (d : Fin 4096) (x : RaUnit) (s : State), Sound s → domRefuses 72 s = none → a.ctl = true →
    raState d.val s = raAnalysing → (s.ra.units.find? (fun x => x.domain == d.val) = some x) →
    ∃ t, exec (.raCancel a d) s = .next t ∧ t.resp.status = .done ∧ raState d.val t = raEmpty ∧
      (t.ra.units = s.ra.units.filter (fun y => y.u != x.u)) ∧ t.ra.queue.length = s.ra.queue.length + 1 ∧
      ((t.ra.queue.getLast?.map (fun r => (r.domain, r.outcome))) = some (d.val, raAborted)) ∧
      Frame [.resp, .events, .trace, .fail, .ra] [.failMaps, .repairCtl, .repairDomains] s t) ∧
  (∀ (m u : Nat) (s : State), Sound s → nextMap s = some m → acceptBlocked m s = none → domRuns 71 s = true →
    raState (s.get (FC_MAP_SEL_DOMAIN m)) s ≠ raEmpty → badGeometry m (s.get (FC_MAP_SEL_DOMAIN m)) s = false →
    freeUnit s = some u →
    ∃ t, exec .mapAccept s = .next t ∧ mapState m t = mapAnalysis ∧ raState (s.get (FC_MAP_SEL_DOMAIN m)) t = raAnalysing ∧
      t.ra.units = s.ra.units ++ [raTake u m s] ∧ t.fail.ready = s.fail.ready.erase m ∧
      Frame [.events, .trace, .fail, .ra] [.failMaps, .repairCtl, .repairDomains] s t) ∧
  (∀ (u : Fin 16) (x : RaUnit) (s : State), Sound s → (s.ra.units.find? (fun x => x.u == u.val) = some x) → x.read = false →
    domRuns 71 s = true ∧ domRuns 73 s = true →
    ∃ t, exec (.listReadEnd u) s = .next t ∧ mapState x.window t = mapClearing ∧
      (∀ z ∈ t.ra.units, z.u = u.val → z.read = true ∧ z.count = (failCells x.window s).length ∧ z.must = (mustRepair x.domain (failUnits x.domain (failCells x.window s) s) s).taken) ∧
      Frame [.fail, .ra] [.failMaps] s t) ∧
  (∀ (u : Fin 16) (x : RaUnit) (s : State), Sound s → (s.ra.units.find? (fun x => x.u == u.val) = some x) → x.read = true →
    domRuns 73 s = true → s.ra.queue.length < 64 →
    ∃ t, exec (.searchEnd u) s = .next t ∧ (t.ra.units = s.ra.units.filter (fun z => z.u != u.val)) ∧
      t.ra.queue = s.ra.queue ++ [raRecord x (raAnalyse x s) (s.get (RA_DESC_USER_USER x.domain)) s] ∧
      raState x.domain t ≠ raAnalysing ∧ Frame [.events, .trace, .ra] [.repairCtl, .repairDomains] s t) ∧
  (∀ (r : RaRec) (l : List RaRec) (u : State) (s : State), Sound s → s.ra.queue = r :: l → domRuns 72 s = true →
    s.on RA_STAT_RING_ERR = false → raRoom r s = true → hbmWindow 1 (recBlocks r) s = true →
    putBlocks (s.get RA_RING_PTR_WR) (recBlocks r) r.words s = (.done, u) →
    ∃ t, exec (.raRingWrite .done) s = .next t ∧ t.ra.queue = l ∧
      t.get RA_RING_PTR_WR = (s.get RA_RING_PTR_WR + recBlocks r) % 2 ^ 32 ∧
      t.get (RA_DOM_LAST_OUTCOME r.domain) = r.outcome % 16 ∧ (t.get (RA_DOM_LAST_NP r.domain) = if r.np then 1 else 0) ∧
      t.get (RA_DOM_LAST_COST r.domain) = r.cost % 1024 ∧
      Frame [.events, .trace, .hbm, .enc, .ra, .leap] [.loader, .repairCtl, .repairRing, .repairDomains, .hbmEcc, .hbmFlip,
        .encRegions] s t) ∧
  (∀ (a : Agent) (s : State), Sound s → domRefuses 72 s = none → a.ctl = true →
    ∃ t, exec (.raRingResume a) s = .next t ∧ t.resp.status = .done ∧ t.get RA_STAT_RING_ERR = 0 ∧ Frame [.resp] [.repairCtl] s t)

/-- Completion of the commands that map, start, stop and feed a signal core, in the cases listed. In every sound state: SC_MAP
written by core 0 or 1 for an idle core, with a physical core that is not its own and that no other core has, sets PHYS and its
registers' reset state STOPPED; an accepted START of an idle core sets RUNNING, the pc at ENTRY, the primary set, no interrupt
enabled or pending; an accepted STOP of a core that is not idle sets STOPPED; a read of a sound word answers it, sign-extended,
and a write, PROG only of an idle core, stores it; a sample on the link joins a FIFO that is not full, and pends bit 1 at the
threshold; SC_HOST stores its word and pends bit 2; an interrupt that the core takes enters the shadow set at IVEC, with the
return address in IPC; a line due of results that maintenance, ingress and controller admit advances WR and leaves the ring; a
scrubbed word with a double error counts it and is marked. Frames are stated. (R320, R321, R323, R324, R333, R335, R336, R337,
R339.) -/
def Obligations.SignalCoreCommandsComplete : Prop :=
  (∀ (a : Agent) (c : Fin 32) (phys : Nat) (s : State), Sound s → a.core01 = true → phys ≤ 33 →
    (∀ i < 32, i ≠ c.val → s.get (SC_MAP_PHYS i) ≠ phys) → s.get (SC_MAP_PHYS c.val) ≠ phys → scIdle c.val s = true →
    ∃ t, exec (.scMapWrite a c phys) s = .next t ∧ t.resp.status = .done ∧ t.get (SC_MAP_PHYS c.val) = phys ∧
      scState c.val t = scStopped ∧ t.get (SC_IRQ_EN c.val) = 0 ∧
      Frame [.resp, .events, .trace, .sc] [.signalMap, .signalCores, .signalResults] s t) ∧
  (∀ (a : Agent) (c : Fin 32) (value : Nat) (s : State), Sound s → domRefuses (scDom c.val s) s = none → a.ctl = true →
    (SC_CTL_STOP c.val).hit (Nat.lor value (2 ^ 31)) = false → scIdle c.val s = true →
    ∃ t, exec (.scStart a c value) s = .next t ∧ t.resp.status = .done ∧ scState c.val t = scRunning ∧
      t.get (SC_STAT_PC c.val) = (SC_CTL_ENTRY c.val).of (Nat.lor value (2 ^ 31)) ∧ t.get (SC_STAT_SHADOW c.val) = 0 ∧
      t.get (SC_IRQ_EN c.val) = 0 ∧ t.get (SC_IRQ_PEND c.val) = 0 ∧
      Frame [.resp, .events, .trace, .sc] [.signalCores, .signalDrops, .signalResults, .debugRun] s t) ∧
  (∀ (a : Agent) (c : Fin 32) (s : State), Sound s → domRefuses (scDom c.val s) s = none → a.ctl = true → scIdle c.val s = false →
    ∃ t, exec (.scStopCommand a c) s = .next t ∧ t.resp.status = .done ∧ scState c.val t = scStopped ∧
      Frame [.resp, .events, .trace, .sc] [.signalCores, .signalDrops, .signalResults, .debugRun] s t) ∧
  (∀ (a : Agent) (c : Fin 32) (mem : ScMem) (word : Nat) (s : State), Sound s → domRefuses (scDom c.val s) s = none →
    word < scMemWords (scMemCode mem) → scBad c.val (scMemCode mem) word s = false → mem ≠ .prog →
    ∃ t, exec (.scMemoryAccess a c mem word none) s = .next t ∧
      t.resp = ⟨.done, wrap 32 (sext 24 (scWord c.val (scMemCode mem) word s)), []⟩ ∧ Narrow [.resp] [] s t) ∧
  (∀ (a : Agent) (c : Fin 32) (mem : ScMem) (word x : Nat) (s : State), Sound s → domRefuses (scDom c.val s) s = none →
    a.ctl = true → word < scMemWords (scMemCode mem) → (mem = .prog → scIdle c.val s = true) →
    ∃ t, exec (.scMemoryAccess a c mem word (some x)) s = .next t ∧ t.resp.status = .done ∧
      (scMemory c.val (scMemCode mem) t = { scMemory c.val (scMemCode mem) s with words := if (scMemory c.val (scMemCode mem) s).base.isNone then spSet word (x % 2 ^ scMemBits (scMemCode mem)) (scMemory c.val (scMemCode mem) s).words else spPut word (x % 2 ^ scMemBits (scMemCode mem)) (scMemory c.val (scMemCode mem) s).words, bad := (scMemory c.val (scMemCode mem) s).bad.erase word }) ∧
      Narrow [.resp, .sc] [] s t) ∧
  (∀ (c : Fin 32) (k : Fin 16) (sample : Nat) (clamped isOver : Bool) (s : State), Sound s →
    ((s.jets.link.find? (fun p => p.1 == 16 * c.val + k.val)).map (·.2) = some ⟨sample, clamped, isOver⟩) →
    domRuns (scDom c.val s) s = true → (scFifo c.val k.val s).length < 64 →
    ∃ t, exec (.scSampleArrival c k sample clamped isOver) s = .next t ∧
      scFifo c.val k.val t = scFifo c.val k.val s ++ [⟨sample, clamped, isOver⟩] ∧
      (t.jets.link = s.jets.link.eraseP (fun p => p.1 == 16 * c.val + k.val)) ∧
      Frame [.events, .trace, .jets, .sc] [.signalCores, .signalDrops] s t) ∧
  (∀ (c : Fin 32) (k : Fin 16) (sample : Nat) (clamped isOver : Bool) (s : State), Sound s →
    ((s.jets.link.find? (fun p => p.1 == 16 * c.val + k.val)).map (·.2) = some ⟨sample, clamped, isOver⟩) →
    domRuns (scDom c.val s) s = true → (scFifo c.val k.val s).length < 64 →
    (scFifo c.val k.val s).length + 1 = s.get (SC_CFG_THR c.val) →
    ∃ t, exec (.scSampleArrival c k sample clamped isOver) s = .next t ∧ bit (t.get (SC_IRQ_PEND c.val)) 1 = true) ∧
  (∀ (a : Agent) (c : Fin 32) (value : Nat) (s : State), Sound s → domRefuses (scDom c.val s) s = none → a.ctl = true →
    ∃ t, exec (.scHostWrite a c value) s = .next t ∧ t.resp.status = .done ∧
      t.get (SC_HOST_WORD c.val) = (SC_HOST_WORD c.val).of value ∧ bit (t.get (SC_IRQ_PEND c.val)) 2 = true ∧
      Narrow [.resp] [SC_HOST_WORD c.val, SC_IRQ_PEND c.val] s t) ∧
  (∀ (c : Fin 32) (s : State), Sound s → scTakes c.val s = true → s.get (SC_CFG_IVEC c.val) < 2 ^ 14 →
    ∃ t, exec (.scInterrupt c) s = .next t ∧ t.get (SC_STAT_SHADOW c.val) = 1 ∧
      t.get (SC_STAT_PC c.val) = s.get (SC_CFG_IVEC c.val) ∧ scState c.val t = scRunning ∧
      ((scCore c.val t).ipc = if (scCore c.val s).waitFor = some 16 then (scSequential c.val (s.get (SC_STAT_PC c.val)) s).get (SC_STAT_PC c.val) else s.get (SC_STAT_PC c.val)) ∧
      Frame [.sc] [.signalCores] s t) ∧
  (∀ (c : Fin 32) (s : State), Sound s → domRuns (scDom c.val s) s = true → scLineReady c.val s = true → hbmWindow 2 1 s = true →
    (nocReach (scInit c.val s) (s.get (SC_RING_CFG_BASE c.val) + 4 * (s.get (SC_RING_PTR_WR c.val) % scRingSize c.val s)) 1 3 s).1 = none →
    (scPutLine c.val (nocReach (scInit c.val s) (s.get (SC_RING_CFG_BASE c.val) + 4 * (s.get (SC_RING_PTR_WR c.val) % scRingSize c.val s)) 1 3 s).2).1 = .done →
    ∃ t, exec (.scRingLineWrite c .done) s = .next t ∧
      t.get (SC_RING_PTR_WR c.val) = (s.get (SC_RING_PTR_WR c.val) + scLineCount c.val s) % 2 ^ 32 ∧
      (scCore c.val t).ring = (scCore c.val s).ring.drop (scLineCount c.val s) ∧
      Frame [.events, .trace, .hbm, .enc, .sc, .noc, .leap] [.loader, .signalCores, .hbmEcc, .hbmFlip, .encRegions] s t) ∧
  (∀ (c : Fin 32) (mem : ScMem) (word : Nat) (s : State), Sound s → domRuns (scDom c.val s) s = true →
    s.get (SC_ECC_CTL_SCRUB_RATE c.val) ≠ 0 → word < scMemWords (scMemCode mem) →
    ∃ t, exec (.scScrubWord c mem word .double) s = .next t ∧
      t.get (SC_ECC_STAT_UNCORR c.val) = min (s.get (SC_ECC_STAT_UNCORR c.val) + 1) 65535 ∧
      scBad c.val (scMemCode mem) word t = true ∧ Narrow [.events, .trace, .sc, .leap] [SC_ECC_STAT_UNCORR c.val] s t)

/-- Completion of the arithmetic and move instructions of a signal core, in the cases listed. In every sound state in which the
core executes the instruction, its fields legal and both memory words of a MAC readable: loads of earlier instructions land
first; NOP writes no data register; ALU, with function codes 0 to 12, MVA and AOP write the result of their function, ALU and
MVA with the flags Z, N and the sticky V; LDI and LDH write their constant; MAC writes the product of the registers before its
loads, and the two values loaded stand to land after the next instruction; SETP and MVR write their register; the core runs on,
outside delay slots at the address after pc. Frames are stated. (R324, R326, R327, R328, R331.) -/
def Obligations.SignalArithmeticCompletes : Prop :=
  (∀ (c : Fin 32) (w : Nat) (s : State), Sound s → AtScInstruction c.val 0 w s →
    ∃ t, exec (.nop c) s = .next t ∧ ScGoesOn c.val s t ∧ (scSetIn c.val s t).d = (scActive c.val s).land.d ∧
      Frame [.events, .trace, .sc, .leap] [.signalCores, .debugRun] s t) ∧
  (∀ (c : Fin 32) (w : Nat) (s : State), Sound s → AtScInstruction c.val 1 w s → bits w 22 4 ≤ 12 →
    let old := scActive c.val s
    let b := if bit w 8 then sext 8 (bits w 0 8) else old.dv (bits w 10 4)
    let r := aluExact (bits w 22 4) (old.dv (bits w 14 4)) b (sext 8 (wrap 8 b)) (bits (wrap 24 b) 0 5)
    let v := if bit w 9 then satInt 24 r else sext 24 (wrap 24 r)
    ∃ t, exec (.alu c) s = .next t ∧ ScGoesOn c.val s t ∧
      ((scSetIn c.val s t).d = if bits w 22 4 = 12 then old.land.d else spSet (bits w 18 4) (wrap 24 v) old.land.d) ∧
      (scSetIn c.val s t).z = (v == 0) ∧ (scSetIn c.val s t).n = decide (v < 0) ∧
      (scSetIn c.val s t).v = (old.v || (bit w 9 && satInt 24 r != r)) ∧
      Frame [.events, .trace, .sc, .leap] [.signalCores, .debugRun] s t) ∧
  (∀ (c : Fin 32) (w : Nat) (s : State), Sound s → AtScInstruction c.val 2 w s →
    ∃ t, exec (.ldi c) s = .next t ∧ ScGoesOn c.val s t ∧
      (scSetIn c.val s t).d = spSet (bits w 22 4) (wrap 24 (sext 20 (bits w 0 20))) (scActive c.val s).land.d ∧
      Frame [.events, .trace, .sc, .leap] [.signalCores, .debugRun] s t) ∧
  (∀ (c : Fin 32) (w : Nat) (s : State), Sound s → AtScInstruction c.val 3 w s →
    ∃ t, exec (.ldh c) s = .next t ∧ ScGoesOn c.val s t ∧
      (scSetIn c.val s t).d = spSet (bits w 22 4) (bits w 0 12 * 4096 + spGet (bits w 22 4) (scActive c.val s).d % 4096) (scActive c.val s).land.d ∧
      Frame [.events, .trace, .sc, .leap] [.signalCores, .debugRun] s t) ∧
  (∀ (c : Fin 32) (w xv yv : Nat) (s : State), Sound s → AtScInstruction c.val 4 w s →
    ((if bits w 9 2 = 0 then some 0 else scLoad c.val 1 (spGet (bits w 11 3) (scActive c.val s).p) s) = some xv) →
    ((if bits w 4 2 = 0 then some 0 else scLoad c.val 2 (spGet (bits w 6 3) (scActive c.val s).p) s) = some yv) →
    let old := scActive c.val s
    let p := old.dv (bits w 18 4) * old.dv (bits w 14 4) * (if bit w 3 then 2 else 1)
    let a := bits w 24 2
    ∃ t, exec (.mac c) s = .next t ∧ ScGoesOn c.val s t ∧
      ((scSetIn c.val s t).a = if bits w 22 2 = 3 then old.land.a else spSet a (wrap 56 (if bits w 22 2 = 0 then p else if bits w 22 2 = 1 then old.av a + p else old.av a - p)) old.land.a) ∧
      ((scSetIn c.val s t).late = (if bits w 9 2 = 0 then [] else [(bits w 18 4, xv)]) ++ (if bits w 4 2 = 0 then [] else [(bits w 14 4, yv)])) ∧
      Frame [.events, .trace, .sc, .leap] [.signalCores, .debugRun] s t) ∧
  (∀ (c : Fin 32) (w : Nat) (s : State), Sound s → AtScInstruction c.val 5 w s → bits w 21 3 < 7 →
    ((1 ≤ bits w 21 3 ∧ bits w 21 3 ≤ 3) → bits w 11 6 ≤ 32) → (bits w 21 3 = 4 → bits w 11 6 ≤ 55) →
    let old := scActive c.val s
    let a := bits w 24 2
    let e := old.dv (bits w 17 4) * 2 ^ bits w 11 6
    ∃ t, exec (.aop c) s = .next t ∧ ScGoesOn c.val s t ∧
      ((scSetIn c.val s t).a = spSet a (wrap 56 (if bits w 21 3 = 0 then 0 else if bits w 21 3 = 1 then e else if bits w 21 3 = 2 then old.av a + e else if bits w 21 3 = 3 then old.av a - e else if bits w 21 3 = 4 then old.av a / 2 ^ bits w 11 6 else if bits w 21 3 = 5 then -old.av a else if old.av a < 0 then -old.av a else old.av a)) old.land.a) ∧
      Frame [.events, .trace, .sc, .leap] [.signalCores, .debugRun] s t) ∧
  (∀ (c : Fin 32) (w : Nat) (s : State), Sound s → AtScInstruction c.val 6 w s → bits w 14 6 ≤ 32 →
    let old := scActive c.val s
    let k := bits w 14 6
    let e := (old.av (bits w 20 2) + (if bit w 13 ∧ k > 0 then 2 ^ (k - 1) else 0)) / 2 ^ k
    let r := if bit w 12 then satInt 24 e else sext 24 (wrap 24 e)
    ∃ t, exec (.mva c) s = .next t ∧ ScGoesOn c.val s t ∧ (scSetIn c.val s t).d = spSet (bits w 22 4) (wrap 24 r) old.land.d ∧
      (scSetIn c.val s t).z = (r == 0) ∧ (scSetIn c.val s t).n = decide (r < 0) ∧
      (scSetIn c.val s t).v = (old.v || (bit w 12 && satInt 24 e != e)) ∧
      Frame [.events, .trace, .sc, .leap] [.signalCores, .debugRun] s t) ∧
  (∀ (c : Fin 32) (w : Nat) (s : State), Sound s → AtScInstruction c.val 9 w s → (bits w 24 2 ≤ 1 → bits w 0 16 ≤ 32767) →
    (bits w 24 2 = 2 → bits w 0 16 ≤ 32768) →
    ∃ t, exec (.setp c) s = .next t ∧ ScGoesOn c.val s t ∧
      ((scSetIn c.val s t).p = if bits w 24 2 = 0 then spSet (bits w 21 3) (bits w 0 16) (scActive c.val s).land.p else (scActive c.val s).land.p) ∧
      ((scSetIn c.val s t).b = if bits w 24 2 = 1 then spSet (bits w 21 3) (bits w 0 16) (scActive c.val s).land.b else (scActive c.val s).land.b) ∧
      ((scSetIn c.val s t).l = if bits w 24 2 = 2 then spSet (bits w 21 3) (bits w 0 16) (scActive c.val s).land.l else (scActive c.val s).land.l) ∧
      ((scSetIn c.val s t).m = if bits w 24 2 = 3 then spSet (bits w 21 3) (bits w 0 16) (scActive c.val s).land.m else (scActive c.val s).land.m) ∧
      Frame [.events, .trace, .sc, .leap] [.signalCores, .debugRun] s t) ∧
  (∀ (c : Fin 32) (w : Nat) (s : State), Sound s → AtScInstruction c.val 10 w s → mvrIndexOk (bits w 23 3) (bits w 19 4) = true →
    mvrIndexOk (bits w 16 3) (bits w 12 4) = true →
    (bits w 23 3 = 4 → wrap 24 (mvrRead (bits w 16 3) (bits w 12 4) (scActive c.val s)) % 2 ^ 16 ≤ 32768) →
    let old := scActive c.val s
    let x := mvrWrite (bits w 23 3) (bits w 19 4) (mvrRead (bits w 16 3) (bits w 12 4) old) old.land
    ∃ t, exec (.mvr c) s = .next t ∧ ScGoesOn c.val s t ∧ (scSetIn c.val s t).d = x.d ∧ (scSetIn c.val s t).a = x.a ∧
      (scSetIn c.val s t).p = x.p ∧ (scSetIn c.val s t).l = x.l ∧ (scSetIn c.val s t).m = x.m ∧
      Frame [.events, .trace, .sc, .leap] [.signalCores, .debugRun] s t)

/-- Completion of the memory, control and port instructions of a signal core, in the cases listed. In every sound state in which
the core executes the instruction, its fields legal: LDST and LDSTA store at once, or read a readable word that stands to land
after the next instruction, LDST at its pointer before the step; BR, JSR, RTS and RTI leave their transfer with two delay slots
to come, BR one to the next address where its condition fails; LOOP with fewer than four loops open enters its body, or with
count 0 goes past its end; IN takes the oldest sample of a FIFO, sets E without waiting on an empty one, or reads ports 16 to
36; OUT writes ports 0 to 15, 32, 34, 36 and, with a ring that is not full, 35; WAITI waits at its address; STOP stops the core
at its address. Frames are stated. (R325, R328, R329, R330, R332, R335, R336, R337, R339.) -/
def Obligations.SignalControlCompletes : Prop :=
  (∀ (c : Fin 32) (w : Nat) (s : State), Sound s → AtScInstruction c.val 7 w s → bit w 20 = true →
    let old := scActive c.val s
    let m := 1 + bits w 21 1
    ∃ t, exec (.ldst c) s = .next t ∧ ScGoesOn c.val s t ∧
      (scSetIn c.val s t).p = (old.land.modStep (bits w 17 3) (bits w 15 2)).p ∧
      scMemory c.val m t = scMemory c.val m (scStore c.val m (spGet (bits w 17 3) old.p) (spGet (bits w 22 4) old.d) s) ∧
      Frame [.events, .trace, .sc, .leap] [.signalCores, .debugRun] s t) ∧
  (∀ (c : Fin 32) (w v : Nat) (s : State), Sound s → AtScInstruction c.val 7 w s → bit w 20 = false →
    scLoad c.val (1 + bits w 21 1) (spGet (bits w 17 3) (scActive c.val s).p) s = some v →
    let old := scActive c.val s
    ∃ t, exec (.ldst c) s = .next t ∧ ScGoesOn c.val s t ∧
      (scSetIn c.val s t).p = (old.land.modStep (bits w 17 3) (bits w 15 2)).p ∧ (scSetIn c.val s t).late = [(bits w 22 4, v)] ∧
      Frame [.events, .trace, .sc, .leap] [.signalCores, .debugRun] s t) ∧
  (∀ (c : Fin 32) (w : Nat) (s : State), Sound s → AtScInstruction c.val 8 w s → bit w 20 = true →
    let m := 1 + bits w 21 1
    ∃ t, exec (.ldsta c) s = .next t ∧ ScGoesOn c.val s t ∧
      scMemory c.val m t = scMemory c.val m (scStore c.val m (bits w 0 15) (spGet (bits w 22 4) (scActive c.val s).d) s) ∧
      Frame [.events, .trace, .sc, .leap] [.signalCores, .debugRun] s t) ∧
  (∀ (c : Fin 32) (w v : Nat) (s : State), Sound s → AtScInstruction c.val 8 w s → bit w 20 = false →
    scLoad c.val (1 + bits w 21 1) (bits w 0 15) s = some v →
    ∃ t, exec (.ldsta c) s = .next t ∧ ScGoesOn c.val s t ∧ (scSetIn c.val s t).late = [(bits w 22 4, v)] ∧
      Frame [.events, .trace, .sc, .leap] [.signalCores, .debugRun] s t) ∧
  (∀ (c : Fin 32) (w : Nat) (s : State), Sound s → AtScInstruction c.val 11 w s → bits w 22 4 ≤ 4 →
    let old := scActive c.val s
    let k := bits w 22 4
    let y := if k = 0 then true else if k = 1 then old.z else if k = 2 then old.n else if k = 3 then old.v else old.e
    ∃ t, exec (.br c) s = .next t ∧ ScGoesOn c.val s t ∧
      ((scCore c.val t).delay = some ⟨2, if y != bit w 21 then some (bits w 0 14) else none, false⟩) ∧
      Frame [.events, .trace, .sc, .leap] [.signalCores, .debugRun] s t) ∧
  (∀ (c : Fin 32) (w : Nat) (s : State), Sound s → AtScInstruction c.val 12 w s →
    ∃ t, exec (.jsr c) s = .next t ∧ ScGoesOn c.val s t ∧ (scCore c.val t).delay = some ⟨2, some (bits w 0 14), false⟩ ∧
      (scSetIn c.val s t).lr = (s.get (SC_STAT_PC c.val) + 3) % 16384 ∧
      Frame [.events, .trace, .sc, .leap] [.signalCores, .debugRun] s t) ∧
  (∀ (c : Fin 32) (w : Nat) (s : State), Sound s → AtScInstruction c.val 13 w s →
    ∃ t, exec (.rts c) s = .next t ∧ ScGoesOn c.val s t ∧ (scCore c.val t).delay = some ⟨2, some (scActive c.val s).lr, false⟩ ∧
      Frame [.events, .trace, .sc, .leap] [.signalCores, .debugRun] s t) ∧
  (∀ (c : Fin 32) (w : Nat) (s : State), Sound s → AtScInstruction c.val 14 w s →
    ∃ t, exec (.rti c) s = .next t ∧ ScGoesOn c.val s t ∧ (scCore c.val t).delay = some ⟨2, none, true⟩ ∧
      Frame [.events, .trace, .sc, .leap] [.signalCores, .debugRun] s t) ∧
  (∀ (c : Fin 32) (w : Nat) (s : State), Sound s → AtScInstruction c.val 15 w s → (scActive c.val s).loops.length < 4 →
    ((if bit w 25 then spGet (bits w 21 4) (scActive c.val s).d % 65536 else bits w 15 10) ≠ 0) →
    let old := scActive c.val s
    let n := if bit w 25 then spGet (bits w 21 4) old.d % 65536 else bits w 15 10
    let pc := s.get (SC_STAT_PC c.val)
    let r := loopNext pc (⟨(pc + 1) % 16384, bits w 0 14, n⟩ :: old.loops)
    ∃ t, exec (.scLoop c) s = .next t ∧ scState c.val t = scRunning ∧ t.get (SC_STAT_PC c.val) = r.1 % 16384 ∧
      (scSetIn c.val s t).loops = popOutside r.1 r.2 ∧ Frame [.events, .trace, .sc, .leap] [.signalCores, .debugRun] s t) ∧
  (∀ (c : Fin 32) (w : Nat) (s : State), Sound s → AtScInstruction c.val 15 w s → (scActive c.val s).loops.length < 4 →
    ((if bit w 25 then spGet (bits w 21 4) (scActive c.val s).d % 65536 else bits w 15 10) = 0) →
    ∃ t, exec (.scLoop c) s = .next t ∧ scState c.val t = scRunning ∧ t.get (SC_STAT_PC c.val) = (bits w 0 14 + 1) % 16384) ∧
  (∀ (c : Fin 32) (w p : Nat) (x : ScSample) (l : List ScSample) (s : State), Sound s → AtScInstruction c.val 16 w s →
    scPort w (scActive c.val s) = some p → p < 16 → scFifo c.val p s = x :: l →
    ∃ t, exec (.scIn c) s = .next t ∧ ScGoesOn c.val s t ∧ (scSetIn c.val s t).late = [(bits w 22 4, x.value % 2 ^ 24)] ∧
      (scSetIn c.val s t).e = false ∧ (scCore c.val t).fifos = putKeyed p l (scCore c.val s).fifos ∧
      (scCore c.val t).clamped = x.clamped ∧ (scCore c.val t).isOver = x.isOver ∧
      Frame [.events, .trace, .sc, .leap] [.signalCores, .debugRun] s t) ∧
  (∀ (c : Fin 32) (w p : Nat) (s : State), Sound s → AtScInstruction c.val 16 w s → scPort w (scActive c.val s) = some p →
    p < 16 → scFifo c.val p s = [] → bit w 21 = false →
    ∃ t, exec (.scIn c) s = .next t ∧ ScGoesOn c.val s t ∧ (scSetIn c.val s t).e = true ∧
      Frame [.events, .trace, .sc, .leap] [.signalCores, .debugRun] s t) ∧
  (∀ (c : Fin 32) (w p : Nat) (s : State), Sound s → AtScInstruction c.val 16 w s → scPort w (scActive c.val s) = some p →
    16 ≤ p ∧ p ≤ 36 →
    let v := if p < 32 then (scFifo c.val (p - 16) s).length else if p = 32 then s.get (SC_IRQ_PEND c.val) else if p = 33 then frameCount s else if p = 34 then scStatus c.val (scActive c.val s) s else if p = 35 then s.get (SC_HOST_WORD c.val) else s.get (SC_IRQ_EN c.val)
    ∃ t, exec (.scIn c) s = .next t ∧ ScGoesOn c.val s t ∧ (scSetIn c.val s t).late = [(bits w 22 4, v % 2 ^ 24)] ∧
      Frame [.events, .trace, .sc, .leap] [.signalCores, .debugRun] s t) ∧
  (∀ (c : Fin 32) (w p : Nat) (s : State), Sound s → AtScInstruction c.val 17 w s → scPort w (scActive c.val s) = some p →
    p < 16 ∨ p = 32 ∨ p = 33 ∨ p = 34 ∨ p = 36 ∨ (p = 35 ∧ scRingSize c.val s ≠ 0 ∧ scRingFull c.val s = false) →
    let v := spGet (bits w 22 4) (scActive c.val s).d
    ∃ t, exec (.scOut c) s = .next t ∧ ScGoesOn c.val s t ∧
      (t.get (SC_IRQ_PEND c.val) = if p = 32 then (s.get (SC_IRQ_PEND c.val) - Nat.land (s.get (SC_IRQ_PEND c.val)) (v % 16)) % 16 else s.get (SC_IRQ_PEND c.val)) ∧
      ((scSetIn c.val s t).v = if p = 34 then false else (scActive c.val s).v) ∧
      ((scCore c.val t).ring = if p = 35 then (scCore c.val s).ring ++ [v] else (scCore c.val s).ring) ∧
      (t.get (SC_IRQ_EN c.val) = if p = 36 then v % 16 else s.get (SC_IRQ_EN c.val)) ∧
      Frame [.events, .trace, .sc, .leap] [.signalCores, .signalResults, .debugRun] s t) ∧
  (∀ (c : Fin 32) (w p : Nat) (s : State), Sound s → AtScInstruction c.val 17 w s → scPort w (scActive c.val s) = some p →
    p < 16 →
    ∃ t, exec (.scOut c) s = .next t ∧ t.get (SC_RES_RES c.val p) = spGet (bits w 22 4) (scActive c.val s).d % 2 ^ 24 ∧
      t.get (SC_RES_FRESH c.val p) = 1) ∧
  (∀ (c : Fin 32) (w : Nat) (s : State), Sound s → AtScInstruction c.val 18 w s →
    ∃ t, exec (.waiti c) s = .next t ∧ scState c.val t = scWaiting ∧ (scCore c.val t).waitFor = some 16 ∧
      t.get (SC_STAT_PC c.val) = s.get (SC_STAT_PC c.val) ∧ Frame [.events, .trace, .sc, .leap] [.signalCores, .debugRun] s t) ∧
  (∀ (c : Fin 32) (w : Nat) (s : State), Sound s → AtScInstruction c.val 19 w s →
    ∃ t, exec (.scStop c) s = .next t ∧ scState c.val t = scStopped ∧ t.get (SC_STAT_PC c.val) = s.get (SC_STAT_PC c.val) ∧
      Frame [.events, .trace, .sc, .leap] [.signalCores, .debugRun] s t)

/-- Completion of the commands of the HBM controller, in the cases listed. In every sound state: a promotion of a waiting
request marks it and every older one of its source; training ends READY with the spares counted, or FAILED with event 0x0C05;
self-refresh exit of a pair that is ON ends READY; a refresh in READY closes its bank's row, and at a window's start clears the
tables; a due targeted refresh of a row that is not replaced is removed, restarts its count and counts the neighbours, 2 or 4
inside the bank; the temperature sets HOT at 85 and clears it below 80, each change with event 0x0C07; the scrubber, READY, on
and admitted, corrects a line's single-bit errors, or counts the uncorrectable line with event 0x0C02 and, with room, an entry
of the error log, and goes on; a valid range pass with room at the Sluice sets GO and its range under a SCRUB request of its
writer, a granted one in READY ends with GO 0 and its lines; a flip is written as given; a read of the error log that is no
debugger's peek removes its oldest entry. Frames are stated. (R345, R346, R347, R348, R350, R351, R354, R355, R356, R358.) -/
def Obligations.HbmCommandsComplete : Prop :=
  (∀ (id : Nat) (r : HbmReq) (s : State), Sound s → (s.hbm.queue.find? (fun x => x.id == id) = some r) →
    ∃ t, exec (.hbmPromote id) s = .next t ∧
      (t.hbm.queue = s.hbm.queue.map (fun x => { x with promoted := x.promoted || (decide (x.src = r.src) && decide (x.id ≤ id)) })) ∧
      Narrow [.hbm] [] s t) ∧
  (∀ (channel : Fin 8) (s : State), Sound s → s.get HBM_STAT_STATE = hbmTraining →
    ∃ t, exec (.hbmTrainingEnd true channel) s = .next t ∧ t.get HBM_STAT_STATE = hbmReady ∧
      t.get HBM_SPARE_USED = s.hbm.spares.length % 4096 ∧ Narrow [] [HBM_STAT_STATE, HBM_SPARE_USED] s t) ∧
  (∀ (channel : Fin 8) (s : State), Sound s → s.get HBM_STAT_STATE = hbmTraining →
    ∃ t, exec (.hbmTrainingEnd false channel) s = .next t ∧ t.get HBM_STAT_STATE = hbmFailed ∧ Raises 0x0C05 s t ∧
      Narrow [.events, .trace] [HBM_STAT_STATE] s t) ∧
  (∀ (s : State), Sound s → s.get HBM_STAT_STATE = hbmSelfRefresh → pairOn s = true →
    ∃ t, exec .hbmSelfRefreshExit s = .next t ∧ t.get HBM_STAT_STATE = hbmReady ∧ Narrow [] [HBM_STAT_STATE, HBM_SPARE_USED] s t) ∧
  (∀ (bank : Fin 512) (windowStart : Bool) (s : State), Sound s → s.get HBM_STAT_STATE = hbmReady →
    ∃ t, exec (.hbmRefresh bank windowStart) s = .next t ∧
      (t.hbm = { s.hbm with rows := spDel bank.val s.hbm.rows, dist := if windowStart then [] else s.hbm.dist }) ∧
      Narrow [.hbm] [] s t) ∧
  (∀ (bank : Fin 512) (row : Nat) (s : State), Sound s → (bank.val, row) ∈ s.hbm.due →
    spGet (32768 * bank.val + row) s.hbm.spares = 0 →
    ∃ t, exec (.targetedRefresh bank row) s = .next t ∧ t.hbm.due = s.hbm.due.erase (bank.val, row) ∧
      t.hbm.dist = distSet bank.val row 0 s.hbm.dist ∧
      t.get HBM_DIST_TARGETED = min (s.get HBM_DIST_TARGETED + (neighbours row s).length) (2 ^ 32 - 1) ∧
      Narrow [.hbm] [HBM_DIST_TARGETED] s t) ∧
  (∀ (bank : Fin 512) (row : Nat) (s : State), Sound s → (bank.val, row) ∈ s.hbm.due →
    spGet (32768 * bank.val + row) s.hbm.spares = 0 → 2 ≤ row ∧ row < 32766 →
    ∃ t, exec (.targetedRefresh bank row) s = .next t ∧
      (t.get HBM_DIST_TARGETED = min (s.get HBM_DIST_TARGETED + if s.on HBM_CFG_RADIUS then 4 else 2) (2 ^ 32 - 1))) ∧
  (∀ (celsius : Nat) (s : State), Sound s →
    ∃ t, exec (.hbmTemperature celsius) s = .next t ∧ t.get HBM_STAT_TEMP = min celsius 255 ∧
      (t.get HBM_STAT_HOT = if celsius ≥ 85 then 1 else if celsius < 80 then 0 else s.get HBM_STAT_HOT) ∧
      Narrow [.events, .trace] [HBM_STAT_TEMP, HBM_STAT_HOT] s t) ∧
  (∀ (celsius : Nat) (s : State), Sound s → (celsius ≥ 85 ∧ s.get HBM_STAT_HOT = 0) ∨ (celsius < 80 ∧ s.get HBM_STAT_HOT = 1) →
    ∃ t, exec (.hbmTemperature celsius) s = .next t ∧ t.get HBM_STAT_HOT = 1 - s.get HBM_STAT_HOT ∧ Raises 0x0C07 s t) ∧
  (∀ (s : State), Sound s → s.get HBM_STAT_STATE = hbmReady → s.get HBM_ECC_CTL_SCRUB_RATE ≠ 0 → hbmAdmits 3 1 s = true →
    spGet s.hbm.scrubAt s.hbm.dbl = 0 →
    ∃ t, exec (.hbmScrubLine none) s = .next t ∧ t.hbm.scrubAt = nextScrub s.hbm.scrubAt ∧ t.hbm.mem = s.hbm.mem ∧
      t.hbm.dbl = s.hbm.dbl ∧ t.hbm.sgl = spDel s.hbm.scrubAt s.hbm.sgl ∧
      t.get HBM_ECC_STAT_CORR = min (s.get HBM_ECC_STAT_CORR + popCount 8 (spGet s.hbm.scrubAt s.hbm.sgl)) 65535 ∧
      t.hbm.log = s.hbm.log ∧ Frame [.events, .trace, .hbm, .leap] [.loader, .hbmEcc] s t) ∧
  (∀ (s : State), Sound s → s.get HBM_STAT_STATE = hbmReady → s.get HBM_ECC_CTL_SCRUB_RATE ≠ 0 → hbmAdmits 3 1 s = true →
    spGet s.hbm.scrubAt s.hbm.dbl ≠ 0 → s.hbm.log.length < 16 →
    ∃ t, exec (.hbmScrubLine none) s = .next t ∧ t.hbm.scrubAt = nextScrub s.hbm.scrubAt ∧ t.hbm.mem = s.hbm.mem ∧
      t.hbm.dbl = s.hbm.dbl ∧ t.hbm.sgl = s.hbm.sgl ∧ t.get HBM_ECC_STAT_UNCORR = min (s.get HBM_ECC_STAT_UNCORR + 1) 65535 ∧
      t.hbm.log = s.hbm.log ++ [2 * 2 ^ 62 + 2 ^ 34 + s.hbm.scrubAt * 64] ∧ Raises 0x0C02 s t ∧
      Frame [.events, .trace, .hbm, .leap] [.loader, .hbmEcc] s t) ∧
  (∀ (a : Agent) (value : Nat) (k : Nat) (s : State), Sound s → a.ctl = true → domRefuses 65 s = none → HBM_PASS_GO.of value = 1 →
    s.get HBM_PASS_GO = 0 → HBM_PASS_COUNT.of value ≠ 0 ∧ HBM_PASS_FIRST.of value + HBM_PASS_COUNT.of value ≤ 4194304 →
    freeEntry s = some k → sluRoom clsScrub 10 s = true →
    ∃ t, exec (.hbmRangePass a value) s = .next t ∧ t.resp.status = .done ∧ t.get HBM_PASS_GO = 1 ∧
      t.get HBM_PASS_FIRST = HBM_PASS_FIRST.of value ∧ t.get HBM_PASS_COUNT = HBM_PASS_COUNT.of value ∧
      t.get (SLU_ENT_CLASS k) = clsScrub ∧ t.get (SLU_ENT_INITIATOR k) = a.init.val ∧
      Frame [.resp, .events, .trace, .power, .profile, .hbm] [.sluice, .sluiceEntries, .hbmPass] s t) ∧
  (∀ (s : State), Sound s → s.get HBM_PASS_GO = 1 → grantedForPurpose forHbmPass s = true → hbmRefuses s = none →
    ∃ t, exec .hbmRangePassEnd s = .next t ∧ t.get HBM_PASS_GO = 0 ∧ t.get HBM_PASS_SUM_LINES = 64 * s.hbm.passCount % 2 ^ 32 ∧
      t.hbm.mem = s.hbm.mem ∧ t.hbm.dbl = s.hbm.dbl ∧
      Frame [.events, .trace, .power, .jets, .hbm, .leap] [.sluiceEntries, .domains, .loader, .jetBanks, .jetChannels, .hbmEcc,
        .hbmPass] s t) ∧
  (∀ (a : Agent) (value : Nat) (s : State), Sound s → a.ctl = true → domRefuses 65 s = none →
    ∃ t, exec (.hbmFlipArm a value) s = .next t ∧ t.resp.status = .done ∧
      (t.get HBM_FLIP_CTL_ARM = if HBM_FLIP_CTL_ARM.of value = 1 then 1 else s.get HBM_FLIP_CTL_ARM) ∧
      t.get HBM_FLIP_CTL_WORD = HBM_FLIP_CTL_WORD.of value ∧ t.get HBM_FLIP_CTL_CMASK = HBM_FLIP_CTL_CMASK.of value ∧
      t.get HBM_FLIP_CTL_LINE = HBM_FLIP_CTL_LINE.of value ∧ Frame [.resp] [.hbmFlip] s t) ∧
  (∀ (a : Agent) (s : State), Sound s → a.init.val ≠ 50 →
    ∃ t, exec (.hbmErrlogPop a) s = .next t ∧ t.resp.status = .done ∧ t.resp.value = (s.hbm.log.head?).getD 0 ∧
      t.hbm = { s.hbm with log := s.hbm.log.drop 1 } ∧ Narrow [.resp, .hbm] [] s t)

/-- Completion of the commands of the encryption block and of the HBM access object, in the cases listed. In every sound state:
a region that is OFF, with a range that may be enabled, becomes ACTIVE under the lowest free key ID with a fresh key and no
cached node, and without a free ID the answer is RETRY; a live region disabled is OFF, and an ACTIVE region's key ID in use
retires; a rekey starts under the lowest free key ID with event 0x0D03, or waits with PEND; a line move, admitted, advances
WATERMARK by a line, and a poisoned line stays poisoned; a complete rekey, HBM serving, is ACTIVE with WATERMARK 0, no cached
node, its old key ID in use retiring, event 0x0D04; a retiring key ID that no request waits on is FREE and its keys erased with
event 0x0D05, and a rekey that waits takes it; a line outside regions, its pair serving, reads as stored, or answers POISON
where it has a double-bit error; in a region a line whose leaf is cached answers POISON where poisoned and zeros where never
written; a line outside regions is written whole or merged, or POISON; a whole write in a region with its leaf cached raises the
line's counter, at its limit answers RETRY, and at 0xFFFF0000 starts a rekey; a dirty cached node written back raises its
counter in its parent or in the root; a tree pass starts under a SCRUB request of its writer and ends with GO 0 and event
0x0D06; the HBM access object reads and writes 256 bytes outside regions. Frames are stated. (R362, R364, R366, R367, R368,
R369, R370, R371, R372, R374, R375.) -/
def Obligations.EncryptionCommandsComplete : Prop :=
  (∀ (a : Agent) (r : Fin 8) (k : Nat) (s : State), Sound s → encWriter a = true → s.get (ENC_REG_CTL_STATE r.val) = encOff →
    rangeOk r.val s = true → freeKey s = some k →
    ∃ t, exec (.encEnable a r) s = .next t ∧ t.resp.status = .done ∧ t.get (ENC_REG_CTL_EN r.val) = 1 ∧
      t.get (ENC_REG_CTL_STATE r.val) = encActive ∧ t.get (ENC_REG_CTL_KEYID r.val) = k ∧ t.enc.ids = spSet k 1 s.enc.ids ∧
      t.enc.draws = s.enc.draws + 2 ∧ t.enc.dataKey = spSet k (Config.random s.enc.draws % 2 ^ 256) s.enc.dataKey ∧
      t.enc.rootPoison = spDel r.val s.enc.rootPoison ∧ (∀ n ∈ t.enc.cache, n.region ≠ r.val) ∧
      Frame [.resp, .events, .trace, .power, .jets, .enc] [.sluiceEntries, .domains, .jetBanks, .jetChannels, .encPass, .encRegions] s t) ∧
  (∀ (a : Agent) (r : Fin 8) (s : State), Sound s → encWriter a = true → s.get (ENC_REG_CTL_STATE r.val) = encOff →
    rangeOk r.val s = true → freeKey s = none →
    ∃ t, exec (.encEnable a r) s = .next t ∧ t.resp.status = .retry ∧ Narrow [.resp] [] s t) ∧
  (∀ (a : Agent) (r : Fin 8) (s : State), Sound s → encWriter a = true → encLive r.val s = true →
    ∃ t, exec (.encDisable a r) s = .next t ∧ t.resp.status = .done ∧ t.get (ENC_REG_CTL_EN r.val) = 0 ∧
      t.get (ENC_REG_CTL_STATE r.val) = encOff ∧ t.get (ENC_REG_CTL_PEND r.val) = 0 ∧ t.get (ENC_REG_WM_WATERMARK r.val) = 0 ∧
      Frame [.resp, .events, .trace, .power, .jets, .enc] [.sluiceEntries, .domains, .jetBanks, .jetChannels, .encPass, .encRegions] s t) ∧
  (∀ (a : Agent) (r : Fin 8) (s : State), Sound s → encWriter a = true → s.get (ENC_REG_CTL_STATE r.val) = encActive →
    r.val ∉ s.enc.erased → spGet (s.get (ENC_REG_CTL_KEYID r.val)) s.enc.ids = 1 →
    ∃ t, exec (.encDisable a r) s = .next t ∧ t.resp.status = .done ∧
      t.enc.ids = spSet (s.get (ENC_REG_CTL_KEYID r.val)) 2 s.enc.ids) ∧
  (∀ (a : Agent) (r : Fin 8) (k : Nat) (s : State), Sound s → encWriter a = true → s.get (ENC_REG_CTL_EN r.val) = 1 →
    s.get (ENC_REG_CTL_STATE r.val) = encActive ∨ s.get (ENC_REG_CTL_STATE r.val) = encRequired → freeKey s = some k →
    ∃ t, exec (.encRekey a r) s = .next t ∧ t.resp.status = .done ∧ t.get (ENC_REG_CTL_STATE r.val) = encRekeying ∧
      t.get (ENC_REG_CTL_KEYID r.val) = k ∧ t.get (ENC_REG_WM_WATERMARK r.val) = encBase r.val s ∧
      (t.enc.oldKey = spSet r.val (if r.val ∈ s.enc.erased then 16 else s.get (ENC_REG_CTL_KEYID r.val)) s.enc.oldKey) ∧
      Raises 0x0D03 s t ∧
      Frame [.resp, .events, .trace, .power, .jets, .enc] [.sluiceEntries, .domains, .jetBanks, .jetChannels, .encPass, .encRegions] s t) ∧
  (∀ (a : Agent) (r : Fin 8) (s : State), Sound s → encWriter a = true → s.get (ENC_REG_CTL_EN r.val) = 1 →
    s.get (ENC_REG_CTL_STATE r.val) = encActive ∨ s.get (ENC_REG_CTL_STATE r.val) = encRequired → freeKey s = none →
    ∃ t, exec (.encRekey a r) s = .next t ∧ t.resp.status = .done ∧ t.get (ENC_REG_CTL_PEND r.val) = 1 ∧
      Narrow [.resp, .enc, .events, .trace] [ENC_REG_CTL_PEND r.val] s t) ∧
  (∀ (r : Fin 8) (s : State), Sound s → s.get (ENC_REG_CTL_STATE r.val) = encRekeying → domRuns 94 s = true →
    hbmRefuses s = none → hbmAdmits 3 2 s = true → s.get (ENC_REG_WM_WATERMARK r.val) < encEnd r.val s →
    ∃ t, exec (.rekeyLineMove r) s = .next t ∧
      t.get (ENC_REG_WM_WATERMARK r.val) = (s.get (ENC_REG_WM_WATERMARK r.val) + 64) % 2 ^ 34 ∧
      Frame [.events, .trace, .hbm, .enc, .leap] [.loader, .hbmEcc, .hbmFlip, .encRegions] s t) ∧
  (∀ (r : Fin 8) (n : EncNode) (s : State), Sound s → s.get (ENC_REG_CTL_STATE r.val) = encRekeying → domRuns 94 s = true →
    hbmRefuses s = none → hbmAdmits 3 2 s = true → s.get (ENC_REG_WM_WATERMARK r.val) < encEnd r.val s →
    cached r.val 0 ((s.get (ENC_REG_WM_WATERMARK r.val) - encBase r.val s) / 64 / 8) s = some n →
    bit n.poison ((s.get (ENC_REG_WM_WATERMARK r.val) - encBase r.val s) / 64 % 8) = true → s.enc.cache.length ≤ 1024 →
    ∃ t, exec (.rekeyLineMove r) s = .next t ∧
      ((cached r.val 0 ((s.get (ENC_REG_WM_WATERMARK r.val) - encBase r.val s) / 64 / 8) t).map (fun m => bit m.poison ((s.get (ENC_REG_WM_WATERMARK r.val) - encBase r.val s) / 64 % 8)) = some true)) ∧
  (∀ (r : Fin 8) (s : State), Sound s → s.get (ENC_REG_CTL_STATE r.val) = encRekeying → (hbmRefuses s).isNone = true →
    encEnd r.val s ≤ s.get (ENC_REG_WM_WATERMARK r.val) →
    ∃ t, exec (.rekeyComplete r) s = .next t ∧ t.get (ENC_REG_CTL_STATE r.val) = encActive ∧
      t.get (ENC_REG_WM_WATERMARK r.val) = 0 ∧ t.enc.oldKey = spDel r.val s.enc.oldKey ∧ Raises 0x0D04 s t ∧
      (∀ n ∈ t.enc.cache, n.region ≠ r.val) ∧
      Frame [.events, .trace, .hbm, .enc, .leap] [.loader, .hbmEcc, .hbmFlip, .encRegions] s t) ∧
  (∀ (r : Fin 8) (s : State), Sound s → s.get (ENC_REG_CTL_STATE r.val) = encRekeying → (hbmRefuses s).isNone = true →
    encEnd r.val s ≤ s.get (ENC_REG_WM_WATERMARK r.val) → s.enc.cache = [] → spGet (spGet r.val s.enc.oldKey) s.enc.ids = 1 →
    ∃ t, exec (.rekeyComplete r) s = .next t ∧ t.enc.ids = spSet (spGet r.val s.enc.oldKey) 2 s.enc.ids) ∧
  (∀ (k : Fin 16) (s : State), Sound s → spGet k.val s.enc.ids = 2 → keyInFlight k.val s = false →
    (∀ r : Fin 8, s.get (ENC_REG_CTL_PEND r.val) = 0) →
    ∃ t, exec (.keyRetired k) s = .next t ∧
      (t.enc = { s.enc with ids := spSet k.val 0 s.enc.ids, dataKey := spDel k.val s.enc.dataKey, treeKey := spDel k.val s.enc.treeKey, cache := s.enc.cache.filter (fun n => encLive n.region s || s.get (ENC_REG_CTL_KEYID n.region) != k.val) }) ∧
      Raises 0x0D05 s t ∧ Narrow [.enc, .events, .trace] [] s t) ∧
  (∀ (k : Fin 16) (r : Nat) (s : State), Sound s → spGet k.val s.enc.ids = 2 → keyInFlight k.val s = false →
    ((List.range 8).find? (fun r => s.on (ENC_REG_CTL_PEND r)) = some r) →
    freeKey { s with enc := { s.enc with ids := spSet k.val 0 s.enc.ids } } = some k.val →
    ∃ t, exec (.keyRetired k) s = .next t ∧ t.get (ENC_REG_CTL_STATE r) = encRekeying ∧ t.get (ENC_REG_CTL_KEYID r) = k.val ∧
      t.get (ENC_REG_CTL_PEND r) = 0 ∧ Raises 0x0D03 s t ∧ Frame [.events, .trace, .enc] [.encRegions] s t) ∧
  (∀ (a : Agent) (addr : Nat) (s : State), Sound s → 64 * (addr / 64) < hbmSize →
    hbmDenies a.init.val (64 * (addr / 64)) 64 false = false → pairRefusesAt (64 * (addr / 64)) 1 s = none →
    encRegion (64 * (addr / 64)) s = none → spGet (addr / 64) s.hbm.dbl = 0 →
    ∃ t, exec (.keyedRead a addr) s = .next t ∧ t.resp.status = .done ∧ t.resp.bytes = memRead 0 (64 * (addr / 64)) 64 s.hbm.mem ∧
      t.hbm.sgl = spDel (addr / 64) s.hbm.sgl ∧ t.hbm.mem = s.hbm.mem ∧
      Frame [.resp, .events, .trace, .hbm, .enc, .leap] [.loader, .hbmEcc, .hbmFlip, .encRegions] s t) ∧
  (∀ (a : Agent) (addr : Nat) (s : State), Sound s → 64 * (addr / 64) < hbmSize →
    hbmDenies a.init.val (64 * (addr / 64)) 64 false = false → pairRefusesAt (64 * (addr / 64)) 1 s = none →
    encRegion (64 * (addr / 64)) s = none → spGet (addr / 64) s.hbm.dbl ≠ 0 →
    ∃ t, exec (.keyedRead a addr) s = .next t ∧ t.resp.status = .poison ∧
      t.get HBM_ECC_STAT_UNCORR = min (s.get HBM_ECC_STAT_UNCORR + 1) 65535 ∧ t.hbm.mem = s.hbm.mem ∧
      Frame [.resp, .events, .trace, .hbm, .enc, .leap] [.loader, .hbmEcc, .hbmFlip, .encRegions] s t) ∧
  (∀ (a : Agent) (addr : Nat) (r : Nat) (n : EncNode) (s : State), Sound s → 64 * (addr / 64) < hbmSize →
    hbmDenies a.init.val (64 * (addr / 64)) 64 false = false → pairRefusesAt (64 * (addr / 64)) 1 s = none →
    encRegion (64 * (addr / 64)) s = some r → cached r 0 ((64 * (addr / 64) - encBase r s) / 64 / 8) s = some n →
    bit n.poison ((64 * (addr / 64) - encBase r s) / 64 % 8) = true →
    ∃ t, exec (.keyedRead a addr) s = .next t ∧ t.resp.status = .poison ∧
      Frame [.resp, .events, .trace, .hbm, .enc, .leap] [.loader, .hbmEcc, .hbmFlip, .encRegions] s t) ∧
  (∀ (a : Agent) (addr : Nat) (r : Nat) (n : EncNode) (s : State), Sound s → 64 * (addr / 64) < hbmSize →
    hbmDenies a.init.val (64 * (addr / 64)) 64 false = false → pairRefusesAt (64 * (addr / 64)) 1 s = none →
    encRegion (64 * (addr / 64)) s = some r → cached r 0 ((64 * (addr / 64) - encBase r s) / 64 / 8) s = some n →
    bit n.poison ((64 * (addr / 64) - encBase r s) / 64 % 8) = false →
    (n.ctr[(64 * (addr / 64) - encBase r s) / 64 % 8]?).getD 0 = 0 →
    ∃ t, exec (.keyedRead a addr) s = .next t ∧ t.resp.status = .done ∧ t.resp.bytes = List.replicate 64 0 ∧
      Frame [.resp, .events, .trace, .hbm, .enc, .leap] [.loader, .hbmEcc, .hbmFlip, .encRegions] s t) ∧
  (∀ (a : Agent) (addr : Nat) (be : Nat) (data : List Byte) (s : State), Sound s → addr < hbmSize →
    hbmDenies a.init.val (64 * (addr / 64)) 64 true = false → pairRefusesAt addr 1 s = none →
    encRegion (64 * (addr / 64)) s = none → hbmFlipAt (addr / 64) s = false → be % 2 ^ 64 = 2 ^ 64 - 1 →
    ∃ t, exec (.keyedWrite a addr be data) s = .next t ∧ t.resp.status = .done ∧
      t.hbm.mem = memWrite 0 (64 * (addr / 64)) (data.take 64) s.hbm.mem ∧ t.hbm.sgl = spDel (addr / 64) s.hbm.sgl ∧
      t.hbm.dbl = spDel (addr / 64) s.hbm.dbl ∧
      Frame [.resp, .events, .trace, .hbm, .enc, .leap] [.loader, .hbmEcc, .hbmFlip, .encRegions] s t) ∧
  (∀ (a : Agent) (addr : Nat) (be : Nat) (data : List Byte) (s : State), Sound s → addr < hbmSize →
    hbmDenies a.init.val (64 * (addr / 64)) 64 true = false → pairRefusesAt addr 1 s = none →
    encRegion (64 * (addr / 64)) s = none → hbmFlipAt (addr / 64) s = false → be % 2 ^ 64 ≠ 2 ^ 64 - 1 →
    spGet (addr / 64) s.hbm.dbl = 0 →
    ∃ t, exec (.keyedWrite a addr be data) s = .next t ∧ t.resp.status = .done ∧
      t.hbm.mem = memWrite 0 (64 * (addr / 64)) (mergeBytes be data (memRead 0 (64 * (addr / 64)) 64 s.hbm.mem)) s.hbm.mem ∧
      Frame [.resp, .events, .trace, .hbm, .enc, .leap] [.loader, .hbmEcc, .hbmFlip, .encRegions] s t) ∧
  (∀ (a : Agent) (addr : Nat) (be : Nat) (data : List Byte) (s : State), Sound s → addr < hbmSize →
    hbmDenies a.init.val (64 * (addr / 64)) 64 true = false → pairRefusesAt addr 1 s = none →
    encRegion (64 * (addr / 64)) s = none → hbmFlipAt (addr / 64) s = false → be % 2 ^ 64 ≠ 2 ^ 64 - 1 →
    spGet (addr / 64) s.hbm.dbl ≠ 0 →
    ∃ t, exec (.keyedWrite a addr be data) s = .next t ∧ t.resp.status = .poison ∧ t.hbm.mem = s.hbm.mem ∧
      Frame [.resp, .events, .trace, .hbm, .enc, .leap] [.loader, .hbmEcc, .hbmFlip, .encRegions] s t) ∧
  (∀ (a : Agent) (addr : Nat) (be : Nat) (data : List Byte) (r : Nat) (n : EncNode) (s : State), Sound s → addr < hbmSize →
    hbmDenies a.init.val (64 * (addr / 64)) 64 true = false → pairRefusesAt addr 1 s = none →
    encRegion (64 * (addr / 64)) s = some r → cached r 0 ((64 * (addr / 64) - encBase r s) / 64 / 8) s = some n →
    be % 2 ^ 64 = 2 ^ 64 - 1 → n.ctr.length = 8 → (n.ctr[(64 * (addr / 64) - encBase r s) / 64 % 8]?).getD 0 < 0xFFFF0000 - 1 →
    s.enc.cache.length ≤ 1024 →
    let i := (64 * (addr / 64) - encBase r s) / 64
    ∃ t, exec (.keyedWrite a addr be data) s = .next t ∧ t.resp.status = .done ∧
      cached r 0 (i / 8) t = some { n with ctr := ctrSet (i % 8) ((n.ctr[i % 8]?).getD 0 + 1) n.ctr, poison := putBit n.poison (i % 8) false, dirty := true } ∧
      Frame [.resp, .events, .trace, .hbm, .enc, .leap] [.loader, .hbmEcc, .hbmFlip, .encRegions] s t) ∧
  (∀ (a : Agent) (addr : Nat) (be : Nat) (data : List Byte) (r : Nat) (n : EncNode) (s : State), Sound s → addr < hbmSize →
    hbmDenies a.init.val (64 * (addr / 64)) 64 true = false → pairRefusesAt addr 1 s = none →
    encRegion (64 * (addr / 64)) s = some r → cached r 0 ((64 * (addr / 64) - encBase r s) / 64 / 8) s = some n →
    be % 2 ^ 64 = 2 ^ 64 - 1 → n.ctr.length = 8 → (n.ctr[(64 * (addr / 64) - encBase r s) / 64 % 8]?).getD 0 = 0xFFFFFFFF →
    s.enc.cache.length ≤ 1024 →
    ∃ t, exec (.keyedWrite a addr be data) s = .next t ∧ t.resp.status = .retry ∧ t.enc = s.enc ∧ t.hbm.mem = s.hbm.mem ∧
      Frame [.resp, .events, .trace, .hbm, .enc, .leap] [.loader, .hbmEcc, .hbmFlip, .encRegions] s t) ∧
  (∀ (a : Agent) (addr : Nat) (be : Nat) (data : List Byte) (r : Nat) (n : EncNode) (s : State), Sound s → addr < hbmSize →
    hbmDenies a.init.val (64 * (addr / 64)) 64 true = false → pairRefusesAt addr 1 s = none →
    encRegion (64 * (addr / 64)) s = some r → cached r 0 ((64 * (addr / 64) - encBase r s) / 64 / 8) s = some n →
    be % 2 ^ 64 = 2 ^ 64 - 1 → n.ctr.length = 8 → (n.ctr[(64 * (addr / 64) - encBase r s) / 64 % 8]?).getD 0 = 0xFFFF0000 - 1 →
    s.enc.cache.length ≤ 1024 → s.get (ENC_REG_CTL_STATE r) = encActive → (freeKey s).isSome = true →
    ∃ t, exec (.keyedWrite a addr be data) s = .next t ∧ t.resp.status = .done ∧ t.get (ENC_REG_CTL_STATE r) = encRekeying ∧
      Frame [.resp, .events, .trace, .hbm, .enc, .leap] [.loader, .hbmEcc, .hbmFlip, .encRegions] s t) ∧
  (∀ (r : Fin 8) (level : Nat) (j : Nat) (n : EncNode) (s : State), Sound s → cached r.val level j s = some n → n.dirty = true →
    domRuns 94 s = true → hbmRefuses s = none → s.get (ENC_REG_CTL_STATE r.val) = encActive →
    treeHeight (encLines r.val s) ≤ level + 1 →
    ∃ t, exec (.nodeWriteback r level j) s = .next t ∧ (cached r.val level j t).map (·.dirty) = some false ∧
      t.enc.rootCtr = spSet (8 * r.val + j % 8) (spGet (8 * r.val + j % 8) s.enc.rootCtr + 1) s.enc.rootCtr ∧
      Frame [.events, .trace, .hbm, .enc, .leap] [.loader, .hbmEcc, .hbmFlip, .encRegions] s t) ∧
  (∀ (r : Fin 8) (level : Nat) (j : Nat) (n p : EncNode) (s : State), Sound s → cached r.val level j s = some n → n.dirty = true →
    domRuns 94 s = true → hbmRefuses s = none → s.get (ENC_REG_CTL_STATE r.val) = encActive →
    level + 1 < treeHeight (encLines r.val s) → cached r.val (level + 1) (j / 8) s = some p → p.ctr.length = 8 →
    ∃ t, exec (.nodeWriteback r level j) s = .next t ∧ (cached r.val level j t).map (·.dirty) = some false ∧
      (((cached r.val (level + 1) (j / 8) t).map (fun m => m.ctr[j % 8]?)) = some (some ((p.ctr[j % 8]?).getD 0 + 1))) ∧
      (cached r.val (level + 1) (j / 8) t).map (·.dirty) = some true ∧
      Frame [.events, .trace, .hbm, .enc, .leap] [.loader, .hbmEcc, .hbmFlip, .encRegions] s t) ∧
  (∀ (a : Agent) (r : Fin 8) (k : Nat) (s : State), Sound s → encWriter a = true → s.get ENC_PASS_GO = 0 →
    encLive r.val s = true → freeEntry s = some k → sluRoom clsScrub 10 s = true →
    ∃ t, exec (.encTreePass a r) s = .next t ∧ t.resp.status = .done ∧ t.get ENC_PASS_GO = 1 ∧ t.get ENC_PASS_REGION = r.val ∧
      t.get (SLU_ENT_CLASS k) = clsScrub ∧ t.get (SLU_ENT_INITIATOR k) = a.init.val ∧
      Frame [.resp, .events, .trace, .power, .profile, .enc] [.sluice, .sluiceEntries, .encPass] s t) ∧
  (∀ (s : State), Sound s → s.get ENC_PASS_GO = 1 → grantedForPurpose forEncPass s = true → domRuns 94 s = true →
    hbmRefuses s = none →
    ∃ t, exec .encTreePassEnd s = .next t ∧ t.get ENC_PASS_GO = 0 ∧ Raises 0x0D06 s t ∧
      Frame [.events, .trace, .power, .jets, .hbm, .enc, .leap] [.sluiceEntries, .domains, .loader, .jetBanks, .jetChannels,
        .hbmEcc, .hbmFlip, .encPass, .encRegions] s t) ∧
  (∀ (addrField : Nat) (s : State), Sound s → addrField % 64 = 0 ∧ addrField + 256 ≤ hbmSize →
    hbmDenies 49 addrField 256 false = false → (nocReach 49 addrField 1 1 s).1 = none → pairRefusesAt addrField 4 s = none →
    (∀ k : Fin 4, encRegion (addrField + 64 * k.val) s = none ∧ spGet (addrField / 64 + k.val) s.hbm.dbl = 0) →
    ∃ t, exec (.hbmAccessObject addrField none) s = .next t ∧ t.resp.status = .done ∧
      t.resp.bytes = memRead 0 addrField 256 s.hbm.mem ∧ t.hbm.accAddr = addrField ∧ t.hbm.accStatus = .done ∧
      t.hbm.mem = s.hbm.mem ∧
      Frame [.resp, .events, .trace, .hbm, .enc, .noc, .leap] [.loader, .hbmEcc, .hbmFlip, .encRegions] s t) ∧
  (∀ (addrField : Nat) (b : List Byte) (s : State), Sound s → addrField % 64 = 0 ∧ addrField + 256 ≤ hbmSize ∧ b.length = 256 →
    hbmDenies 49 addrField 256 true = false → (nocReach 49 addrField 1 9 s).1 = none → pairRefusesAt addrField 4 s = none →
    (∀ k : Fin 4, encRegion (addrField + 64 * k.val) s = none ∧ hbmFlipAt (addrField / 64 + k.val) s = false) →
    ∃ t, exec (.hbmAccessObject addrField (some b)) s = .next t ∧ t.resp.status = .done ∧ memRead 0 addrField 256 t.hbm.mem = b ∧
      t.hbm.accStatus = .done ∧ (∀ x, x < addrField ∨ addrField + 256 ≤ x → memGet 0 x t.hbm.mem = memGet 0 x s.hbm.mem) ∧
      Frame [.resp, .events, .trace, .hbm, .enc, .noc, .leap] [.loader, .hbmEcc, .hbmFlip, .encRegions] s t) ∧
  (∀ (addrField : Nat) (write : Option (List Byte)) (s : State), Sound s → addrField % 64 ≠ 0 ∨ hbmSize < addrField + 256 →
    ∃ t, exec (.hbmAccessObject addrField write) s = .next t ∧ t.resp.status = .range ∧
      t.hbm = { s.hbm with accAddr := addrField, accStatus := .range } ∧ Narrow [.resp, .hbm] [] s t)

/-- Completion of the commands of the network on chip and of the debug access port, in the cases listed. In every sound state: a
malformed packet is answered RANGE, one its port refuses with that status; a request sent to no HBM port waits under the next
issue number; one for HBM that ingress, pair and buffers take enters the controller's queue; with no upset in the same window,
the request that the tiers choose and the cap lets pass leaves the queue, its bytes counted, and is answered; a new window
starts at 0; a response whose agent waits is delivered with its status and value and frees its entry, a read of a register
window answered as the window gives it, the debug port's ends its request; the oldest unanswered request times out, counted, the
debug port's with status 7, and event 0x0E04 where it is not already told in the frame; a link's single-bit error changes
nothing, any other raises event 0x0E05: in the header the packet is lost, in the data a read is poisoned and an open write
answered POISON; idle credits return; a router but 0 and 6 enters DRAINING, MAINT of 0 or 6 is answered RANGE, a drained router
is in MAINTENANCE with event 0x0E01, an abort of a drain that has not ended sets ABORTED with 0x0E03, an exit returns to ACTIVE
with 0x0E02; a debug port request that is not open is sent, or answered RANGE or DENIED. Frames are stated. (R382, R383, R385,
R386, R387, R388, R389, R391, R516, R519.) -/
def Obligations.NocCommandsComplete : Prop :=
  (∀ (a : Agent) (pkt : Packet) (s : State), Sound s → packetOk pkt = false →
    ∃ t, exec (.nocRequest a pkt) s = .next t ∧ t.resp = ⟨.range, 0, []⟩ ∧ Narrow [.resp] [] s t) ∧
  (∀ (a : Agent) (pkt : Packet) (x : Nat) (r : Status) (s : State), Sound s → packetOk pkt = true → targetOf pkt.addr = some x →
    portRefuses a.init.val x pkt.addr s = some r →
    ∃ t, exec (.nocRequest a pkt) s = .next t ∧ t.resp = ⟨r, 0, []⟩ ∧ t.noc = (nocTold a.init.val r s).noc ∧
      Narrow [.resp, .noc] [] s t) ∧
  (∀ (a : Agent) (pkt : Packet) (x : Nat) (s : State), Sound s → packetOk pkt = true → targetOf pkt.addr = some x →
    portRefuses a.init.val x pkt.addr s = none → responsesHeld a.init.val s < 64 → 4 ≤ x →
    ∃ t, exec (.nocRequest a pkt) s = .next t ∧
      t.noc.reqs = s.noc.reqs ++ [⟨s.noc.nextId, a, x, targetDom pkt.addr x s, spGet (256 * a.init.val + x) s.noc.seqs, pkt, .sent, false, false, false, .done, 0, []⟩] ∧
      t.noc.nextId = s.noc.nextId + 1 ∧
      t.noc.seqs = spSet (256 * a.init.val + x) ((spGet (256 * a.init.val + x) s.noc.seqs + 1) % 64) s.noc.seqs ∧
      Narrow [.noc] [] s t) ∧
  (∀ (a : Agent) (pkt : Packet) (x : Nat) (s : State), Sound s → packetOk pkt = true → targetOf pkt.addr = some x →
    portRefuses a.init.val x pkt.addr s = none → responsesHeld a.init.val s < 64 → x < 4 → 2 ≤ pkt.len →
    hbmDenies a.init.val pkt.addr (64 * (pkt.len / 2)) (isWrite pkt.op) = false → pairRefusesAt pkt.addr (pkt.len / 2) s = none →
    ∃ t, exec (.nocRequest a pkt) s = .next t ∧
      (t.hbm.queue = s.hbm.queue ++ [⟨s.hbm.nextId, a.init.val, classOf a.init.val, pkt.addr, pkt.len / 2, if isWrite pkt.op then some (padTo (64 * (pkt.len / 2)) pkt.data) else none, if pkt.op = .wrp then pkt.be % 2 ^ 64 else 2 ^ 64 - 1, false, s.noc.nextId, regionsOf (pkt.addr / 64) (pkt.len / 2) s⟩]) ∧
      t.hbm.nextId = s.hbm.nextId + 1 ∧ (t.noc.reqs.getLast?.map (fun r => (r.id, r.phase)) = some (s.noc.nextId, .hbm)) ∧
      Narrow [.noc, .hbm] [] s t) ∧
  (∀ (r : HbmReq) (s : State), Sound s → hbmPick s = some r → hbmRefuses s = none → movedAll s + 64 * r.lines ≤ hbmCap s →
    ∃ t, exec (.hbmRequestIssue none false) s = .next t ∧ (t.hbm.queue = s.hbm.queue.filter (fun x => x.id != r.id)) ∧
      t.hbm.moved = spSet r.cls (spGet r.cls s.hbm.moved + 64 * r.lines) s.hbm.moved ∧
      (t.noc.reqs.all (fun x => x.id != r.seq || x.phase == .done) = true) ∧
      Frame [.events, .trace, .hbm, .enc, .noc, .leap] [.loader, .hbmEcc, .hbmFlip, .encRegions] s t) ∧
  (∀ (s : State), Sound s → hbmPick { s with hbm := { s.hbm with moved := [] } } = none →
    ∃ t, exec (.hbmRequestIssue none true) s = .next t ∧ t.hbm = { s.hbm with moved := [] } ∧ Narrow [.hbm] [] s t) ∧
  (∀ (init : Fin 64) (latencyNs : Nat) (r : NocReq) (s : State), Sound s → coreHalted init.val s = false →
    portIsolated init.val s = false → nocNext init.val s.noc.reqs = some r → (s.noc.reqs.find? (fun x => x.id == r.id) = some r) →
    r.phase = .done ∧ r.gone = false →
    ∃ t, exec (.nocResponse init latencyNs) s = .next t ∧ t.resp = ⟨r.status, r.value, r.bytes⟩ ∧
      (t.noc.reqs = s.noc.reqs.filter (fun x => x.id != r.id)) ∧ t.noc.latN = nocCount init.val 1 s.noc.latN ∧
      Narrow [.resp, .noc, .dbg] [] s t) ∧
  (∀ (init : Fin 64) (latencyNs : Nat) (r : NocReq) (s : State), Sound s → init = 50 → coreHalted init.val s = false →
    nocNext init.val s.noc.reqs = some r → (s.noc.reqs.find? (fun x => x.id == r.id) = some r) →
    r.phase = .done ∧ r.gone = false →
    ∃ t, exec (.nocResponse init latencyNs) s = .next t ∧ t.dbg.dapDone = true ∧ t.dbg.dapStatus = r.status.code) ∧
  (∀ (init : Fin 64) (latencyNs : Nat) (r : NocReq) (s : State), Sound s → coreHalted init.val s = false →
    portIsolated init.val s = false → nocNext init.val s.noc.reqs = some r → (s.noc.reqs.find? (fun x => x.id == r.id) = some r) →
    r.phase = .sent ∧ 65 ≤ r.target ∧ r.pkt.op = .regrd ∧ r.gone = false ∧ r.poison = false →
    let x := windowReadIn r.agent r.pkt.addr (if r.pkt.w64 then 64 else 32) (peeks r.agent s) s
    ∃ t, exec (.nocResponse init latencyNs) s = .next t ∧ t.resp = ⟨x.1, x.2.1, []⟩ ∧
      (t.noc.reqs.all (fun y => y.id != r.id) = true) ∧
      Frame [.resp, .bootMs, .events, .trace, .power, .profile, .clock, .pins, .jets, .edge, .weir, .hbm, .enc, .seqs, .ports,
        .fail, .ra, .sc, .noc, .fab, .ldr, .flash, .cluster, .casc, .sec, .boot, .dbg, .leap, .field] [.profile, .frameCtl,
        .frameStat, .frameCount, .frameOverruns, .slots, .resetCtl, .resetCause, .bootStat, .sluice, .limiterStat, .limiterTrips,
        .sluiceEntries, .domains, .energyLedger, .clockSources, .clockSelect, .clockMonitor, .fabricClocks, .clockGates, .loader,
        .rill, .regions, .isolation, .blockMemories, .fabricPorts, .jetBanks, .jetChannels, .edgeSeqStat, .edgeBanks, .periods,
        .timingSets, .edgeChannels, .weirCtl, .weirCal, .weirChannels, .sequencers, .captureEcc, .captureLost, .captureSeqs,
        .failCounts, .failMaps, .repairCtl, .repairRing, .repairDescs, .repairDomains, .signalMap, .signalCores, .signalDrops,
        .signalResults, .hbmCfg, .hbmStat, .hbmEcc, .hbmErrlog, .hbmFlip, .hbmSpares, .hbmPass, .hbmClasses, .encKeys, .encPass,
        .encRegions, .nocCtl, .routers, .nocStats, .arbiters, .cascadeCtl, .cascadeTime, .cascadeSend, .cascadeRing, .links,
        .lanes, .epochs, .cores, .locks, .mailboxes, .doorbells, .crcUnits, .owners, .scratchpadEcc, .scratchpadTests, .patches,
        .securityStat, .tamper, .almanac, .audit, .attestation, .fieldStat, .sessions, .debugCtl, .debugRun, .debugFreeze,
        .traceCtl, .coreAccess, .stimulus, .debugBuffer] s t) ∧
  (∀ (init : Fin 64) (r : NocReq) (s : State), Sound s →
    (s.noc.reqs.find? (fun r => r.agent.init == init && !r.gone && (nocOpen r || r.lost)) = some r) →
    ∃ t, exec (.nocTimeout init) s = .next t ∧ t.resp.status = .timeout ∧
      (t.noc.reqs = s.noc.reqs.map (fun x => if x.id = r.id then { x with gone := true } else x)) ∧
      t.noc.cntTmo = nocCount init.val 1 s.noc.cntTmo ∧ Frame [.resp, .events, .trace, .noc, .dbg] [] s t) ∧
  (∀ (init : Fin 64) (r : NocReq) (s : State), Sound s →
    (s.noc.reqs.find? (fun r => r.agent.init == init && !r.gone && (nocOpen r || r.lost)) = some r) →
    0x0E04 * 65536 + init.val ∉ s.events.once →
    ∃ t, exec (.nocTimeout init) s = .next t ∧ Raises 0x0E04 s t) ∧
  (∀ (init : Fin 64) (r : NocReq) (s : State), Sound s → init = 50 →
    (s.noc.reqs.find? (fun r => r.agent.init == init && !r.gone && (nocOpen r || r.lost)) = some r) →
    ∃ t, exec (.nocTimeout init) s = .next t ∧ t.dbg.dapDone = true ∧ t.dbg.dapStatus = 7) ∧
  (∀ (k : Fin 36) (d : Fin 4) (p : Option PktRef) (s : State), Sound s →
    ∃ t, exec (.linkError k d .single p) s = .next t ∧ Narrow [] [] s t) ∧
  (∀ (k : Fin 36) (d : Fin 4) (e : LinkErr) (s : State), Sound s → e ≠ .single →
    ∃ t, exec (.linkError k d e none) s = .next t ∧ Raises 0x0E05 s t ∧ Narrow [.events, .trace] [] s t) ∧
  (∀ (k : Fin 36) (d : Fin 4) (p : PktRef) (r : NocReq) (s : State), Sound s → reqOf p s = some r →
    ∃ t, exec (.linkError k d .header (some p)) s = .next t ∧
      (t.noc.reqs = s.noc.reqs.map (fun x => if x.id = r.id then { x with lost := true } else x)) ∧
      (t.hbm.queue = s.hbm.queue.filter (fun x => x.seq != r.id || x.src != r.agent.init.val)) ∧ Raises 0x0E05 s t ∧
      Frame [.events, .trace, .hbm, .noc] [] s t) ∧
  (∀ (k : Fin 36) (d : Fin 4) (p : PktRef) (r : NocReq) (s : State), Sound s → reqOf p s = some r → isWrite r.pkt.op = false →
    ∃ t, exec (.linkError k d .data (some p)) s = .next t ∧
      (t.noc.reqs = s.noc.reqs.map (fun x => if x.id = r.id then { x with poison := true, status := if x.phase = .done then .poison else x.status } else x)) ∧
      Raises 0x0E05 s t ∧ Frame [.events, .trace, .hbm, .noc] [] s t) ∧
  (∀ (k : Fin 36) (d : Fin 4) (p : PktRef) (r : NocReq) (s : State), Sound s → reqOf p s = some r → nocOpen r = true →
    isWrite r.pkt.op = true →
    ∃ t, exec (.linkError k d .data (some p)) s = .next t ∧
      (t.noc.reqs.all (fun x => x.id != r.id || (x.phase == .done && x.status == .poison)) = true) ∧
      (t.hbm.queue = s.hbm.queue.filter (fun x => x.seq != r.id || x.src != r.agent.init.val)) ∧ Raises 0x0E05 s t ∧
      Frame [.events, .trace, .hbm, .noc] [] s t) ∧
  (∀ (init : Fin 64) (target : Nat) (s : State), Sound s → target < 256 →
    ∃ t, exec (.creditIdleReturn init target) s = .next t ∧
      t.noc = { s.noc with resv := spSet (256 * init.val + target) (entriesUsed init.val target s) s.noc.resv } ∧
      Narrow [.noc] [] s t) ∧
  (∀ (a : Agent) (k : Fin 36) (s : State), Sound s → nocWriter a = true → k.val ≠ 0 ∧ k.val ≠ 6 →
    ∃ t, exec (.routerMaintEnter a k) s = .next t ∧ t.resp.status = .done ∧ t.get (NOC_RTR_CTL_MAINT k.val) = 1 ∧
      (t.get (NOC_RTR_STAT_STATE k.val) = if s.get (NOC_RTR_STAT_STATE k.val) = 0 then 1 else s.get (NOC_RTR_STAT_STATE k.val)) ∧
      Narrow [.resp] [NOC_RTR_CTL_MAINT k.val, NOC_RTR_STAT_STATE k.val] s t) ∧
  (∀ (a : Agent) (k : Fin 36) (s : State), Sound s → nocWriter a = true → k.val = 0 ∨ k.val = 6 →
    s.get (NOC_RTR_CTL_MAINT k.val) = 0 →
    ∃ t, exec (.routerMaintEnter a k) s = .next t ∧ t.resp.status = .range ∧ Narrow [.resp] [] s t) ∧
  (∀ (k : Fin 36) (s : State), Sound s → routerState k.val s = 1 → drained k.val s = true →
    ∃ t, exec (.routerDrained k) s = .next t ∧ t.get (NOC_RTR_STAT_STATE k.val) = 2 ∧ Raises 0x0E01 s t ∧
      Narrow [.events, .trace] [NOC_RTR_STAT_STATE k.val] s t) ∧
  (∀ (k : Fin 36) (s : State), Sound s → routerState k.val s = 1 → drained k.val s = false →
    ∃ t, exec (.routerDrainAbort k) s = .next t ∧ t.get (NOC_RTR_STAT_STATE k.val) = 0 ∧ t.get (NOC_RTR_STAT_ABORTED k.val) = 1 ∧
      Raises 0x0E03 s t ∧ Narrow [.events, .trace] [NOC_RTR_STAT_STATE k.val, NOC_RTR_STAT_ABORTED k.val] s t) ∧
  (∀ (a : Agent) (k : Fin 36) (s : State), Sound s → nocWriter a = true → k.val ≠ 0 ∧ k.val ≠ 6 → routerState k.val s = 2 →
    ∃ t, exec (.routerMaintExit a k) s = .next t ∧ t.resp.status = .done ∧ t.get (NOC_RTR_CTL_MAINT k.val) = 0 ∧
      t.get (NOC_RTR_STAT_STATE k.val) = 0 ∧ t.get (NOC_RTR_CTL_LINK_DIS k.val) = s.get (NOC_RTR_CTL_LINK_DIS k.val) ∧
      Raises 0x0E02 s t ∧ Frame [.resp, .events, .trace] [.routers] s t) ∧
  (∀ (req : Nat) (x : Nat) (s : State), Sound s → s.dbg.dapDone = true → bits req 112 3 = 1 ∨ bits req 112 3 = 2 →
    dapMay (bits req 112 3) (bits req 0 48) s = true → targetOf (bits req 0 48) = some x → 4 ≤ x →
    portRefuses 50 x (bits req 0 48) s = none → responsesHeld 50 s < 64 →
    let p : Packet := ⟨if bits req 112 3 = 1 then .regrd else .regwr, bits req 0 48, 0, bit req 115, bits req 48 (if bit req 115 then 64 else 32), 0, []⟩
    ∃ t, exec (.dapRequest req) s = .next t ∧
      t.dbg = { s.dbg with dapOp := bits req 112 3, dapW64 := bit req 115, dapData := bits req 48 64, dapAddr := bits req 0 48, dapDone := false } ∧
      t.noc.reqs = s.noc.reqs ++ [⟨s.noc.nextId, ⟨50, roleOf (dbgRole s)⟩, x, targetDom (bits req 0 48) x s, spGet (256 * 50 + x) s.noc.seqs, p, .sent, false, false, false, .done, 0, []⟩] ∧
      Narrow [.dbg, .noc] [] s t) ∧
  (∀ (req : Nat) (s : State), Sound s → s.dbg.dapDone = true →
    2 < bits req 112 3 ∨ (bits req 112 3 ≠ 0 ∧ dapMay (bits req 112 3) (bits req 0 48) s = false) →
    ∃ t, exec (.dapRequest req) s = .next t ∧ (t.resp.status = if 2 < bits req 112 3 then .range else .denied) ∧
      t.dbg.dapDone = true ∧ (t.dbg.dapStatus = if 2 < bits req 112 3 then 5 else 4) ∧ Narrow [.resp, .dbg] [] s t)

/-- Completion of the commands of the arbiters, in the cases listed. In every sound state: a request of a requester of the
arbiter for a free resource that nobody awaits is granted; one for a resource another holds waits last where it does not pre-
empt, and with PREEMPT, a higher priority and a burst not yet used up takes the grant, the former owner waiting with the rest of
its burst; a release with nobody waiting frees the resource, else, without FAIR_N, grants the one of strictly highest priority,
and in the fairness turn the one that waits longest; the end of a burst does the same, the owner granted again where nobody
waits; a commit by a permitted writer makes every active setting the shadow setting with event 0x0E06. Frames are stated. (R393,
R394, R395, R396, R397.) -/
def Obligations.ArbiterCommandsComplete : Prop :=
  (∀ (x : Fin 18) (i : Fin 24) (beats held : Nat) (s : State), Sound s → i.val < arbCount x.val → arbOwner x.val s = none →
    arbWaiting x.val s = [] →
    ∃ t, exec (.arbRequest x i beats held) s = .next t ∧ t.get (ARB_STAT_BUSY x.val) = 1 ∧ t.get (ARB_STAT_OWNER x.val) = i.val ∧
      Frame [.noc] [.arbiters] s t) ∧
  (∀ (x : Fin 18) (i : Fin 24) (beats held : Nat) (o : Nat) (s : State), Sound s → i.val < arbCount x.val →
    arbOwner x.val s = some o ∧ o ≠ i.val →
    s.get (ARB_ACT_PREEMPT x.val i.val) = 0 ∨ s.get (ARB_ACT_PRIO x.val i.val) ≤ s.get (ARB_ACT_PRIO x.val o) →
    ∃ t, exec (.arbRequest x i beats held) s = .next t ∧
      ((arb x.val t).reqs.getLast?.map (fun y => (y.i, y.waits)) = some (i.val, true)) ∧ Narrow [.noc] [] s t) ∧
  (∀ (x : Fin 18) (i : Fin 24) (beats held : Nat) (o : Nat) (s : State), Sound s → i.val < arbCount x.val →
    arbOwner x.val s = some o ∧ o ≠ i.val →
    s.get (ARB_ACT_PREEMPT x.val i.val) = 1 ∧ s.get (ARB_ACT_PRIO x.val o) < s.get (ARB_ACT_PRIO x.val i.val) →
    held < (arb x.val s).burst →
    ∃ t, exec (.arbRequest x i beats held) s = .next t ∧ t.get (ARB_STAT_BUSY x.val) = 1 ∧ t.get (ARB_STAT_OWNER x.val) = i.val ∧
      (((arb x.val t).reqs.find? (fun y => y.i == o)).map (fun y => (y.waits, y.keep)) = some (true, some ((arb x.val s).burst - held))) ∧
      Frame [.noc] [.arbiters] s t) ∧
  (∀ (x : Fin 18) (o : Nat) (s : State), Sound s → arbOwner x.val s = some o →
    ((arb x.val s).reqs.any (fun y => y.i == o) = true) → ((arbWaiting x.val s).filter (fun z => z.i != o) = []) →
    ∃ t, exec (.arbRelease x) s = .next t ∧ t.get (ARB_STAT_BUSY x.val) = 0 ∧
      ((arb x.val t).reqs.all (fun z => z.i != o) = true) ∧ Frame [.noc] [.arbiters] s t) ∧
  (∀ (x : Fin 18) (o : Nat) (g : ArbReq) (l : List ArbReq) (y : ArbReq) (s : State), Sound s → arbOwner x.val s = some o →
    ((arbWaiting x.val s).filter (fun z => z.i != o) = g :: l) → s.get (ARB_CTL_FAIR_N x.val) = 0 → y ∈ g :: l →
    (∀ z ∈ g :: l, z ≠ y → s.get (ARB_ACT_PRIO x.val z.i) < s.get (ARB_ACT_PRIO x.val y.i)) →
    ∃ t, exec (.arbRelease x) s = .next t ∧ t.get (ARB_STAT_BUSY x.val) = 1 ∧ t.get (ARB_STAT_OWNER x.val) = y.i % 32 ∧
      Frame [.noc] [.arbiters] s t) ∧
  (∀ (x : Fin 18) (o : Nat) (g : ArbReq) (l : List ArbReq) (s : State), Sound s → arbOwner x.val s = some o →
    ((arbWaiting x.val s).filter (fun z => z.i != o) = g :: l) → s.get (ARB_CTL_FAIR_N x.val) ≠ 0 →
    s.get (ARB_CTL_FAIR_N x.val) ≤ s.get (ARB_STAT_FAIR_CNT x.val) + 1 →
    ∃ t, exec (.arbRelease x) s = .next t ∧ t.get (ARB_STAT_BUSY x.val) = 1 ∧ t.get (ARB_STAT_OWNER x.val) = g.i % 32 ∧
      t.get (ARB_STAT_FAIR_CNT x.val) = 0 ∧ Frame [.noc] [.arbiters] s t) ∧
  (∀ (x : Fin 18) (o : Nat) (s : State), Sound s → arbOwner x.val s = some o →
    ((arb x.val s).reqs.any (fun y => y.i == o) = true) → ((arbWaiting x.val s).filter (fun z => z.i != o) = []) →
    ∃ t, exec (.arbBurstExpiry x) s = .next t ∧ t.get (ARB_STAT_BUSY x.val) = 1 ∧ t.get (ARB_STAT_OWNER x.val) = o ∧
      Frame [.noc] [.arbiters] s t) ∧
  (∀ (x : Fin 18) (o : Nat) (g : ArbReq) (l : List ArbReq) (s : State), Sound s → arbOwner x.val s = some o →
    ((arbWaiting x.val s).filter (fun z => z.i != o) = g :: l) → s.get (ARB_CTL_FAIR_N x.val) ≠ 0 →
    s.get (ARB_CTL_FAIR_N x.val) ≤ s.get (ARB_STAT_FAIR_CNT x.val) + 1 →
    ∃ t, exec (.arbBurstExpiry x) s = .next t ∧ t.get (ARB_STAT_OWNER x.val) = g.i % 32 ∧ t.get (ARB_STAT_FAIR_CNT x.val) = 0 ∧
      Frame [.noc] [.arbiters] s t) ∧
  (∀ (a : Agent) (x : Fin 18) (s : State), Sound s → nocWriter a = true →
    ∃ t, exec (.arbCommit a x) s = .next t ∧ t.resp.status = .done ∧ t.get (ARB_CTL_FAIR_N x.val) = s.get (ARB_CTL_FAIR_N x.val) ∧
      Raises 0x0E06 s t ∧ Frame [.resp, .events, .trace] [.arbiters] s t) ∧
  (∀ (a : Agent) (x : Fin 18) (i : Nat) (s : State), Sound s → nocWriter a = true → i < arbCount x.val →
    ∃ t, exec (.arbCommit a x) s = .next t ∧ t.get (ARB_ACT_BURST x.val i) = s.get (ARB_SHD_BURST x.val i) ∧
      t.get (ARB_ACT_PREEMPT x.val i) = s.get (ARB_SHD_PREEMPT x.val i) ∧
      t.get (ARB_ACT_PRIO x.val i) = s.get (ARB_SHD_PRIO x.val i))

/-- Completion of the commands of a link's bring-up and of its lanes, in the cases listed. In every sound state: a permitted
writer's LINK_ENABLE of a disabled link of an ON quad, with legal fields, sets EN and its fields and, in mode 0, starts DETECT,
its engine at rest; a disable of an enabled link is OFF, without lanes, its buffers emptied, an ACTIVE DOWN link with event
0x0F02; a retrain of an ACTIVE link is in TRAIN, no lane in use, GOOD or locked, what it sent kept for replay; a probe that sees
a partner in DETECT starts TRAIN from the taps of LANE_CTL; a tap request in TRAIN is answered DONE inside the limits, RANGE
outside; training, symbol lock and exchange end in the next state, with lanes, width and partner as found; a wrong role, no
common lane or a timeout fails into OFF with its FAIL code, event 0x0F02 and the backoff, and the backoff ends with a fresh
start; SLIP moves the flit boundary without AUTOLOCK; a lane that loses symbol lock shows it, and the last lane of an ACTIVE
link that is not asleep takes the link down; INJ counts in NEAR_LOOP; a checker that locks counts its wrong bits. Frames are
stated. (R403, R404, R405, R406, R407, R412, R414.) -/
def Obligations.LinkBringUpCommandsComplete : Prop :=
  (∀ (a : Agent) (q : Fin 16) (value : Nat) (s : State), Sound s → lanesWriter a = true → domOn (48 + q.val) s = true →
    s.get (LNK_CTL_EN q.val) = 0 → (LNK_CTL_DEG_LIM q.val).of value ≠ 0 ∧ (LNK_CTL_MAXW q.val).of value ≠ 3 →
    (LNK_CTL_ROLE q.val).of value = 0 ∨ upLink s = none →
    (LNK_CTL_MAXW q.val).of value = 0 ∨ s.get (LNK_CTL_MAXW q.val) ≠ 0 ∨ quadCurrent q.val s ≠ 4 →
    ∃ t, exec (.linkEnable a q value) s = .next t ∧ t.resp.status = .done ∧ t.get (LNK_CTL_EN q.val) = 1 ∧
      (t.get (LNK_STAT_STATE q.val) = if (LNK_CTL_MODE q.val).of value = 0 then lnkDetect else s.get (LNK_STAT_STATE q.val)) ∧
      t.get (LNK_CTL_MAXW q.val) = (LNK_CTL_MAXW q.val).of value ∧ t.get (LNK_CTL_ROLE q.val) = (LNK_CTL_ROLE q.val).of value ∧
      t.get (LNK_CTL_DEG_LIM q.val) = (LNK_CTL_DEG_LIM q.val).of value ∧ link q.val t = link0 q.val ∧
      Frame [.resp, .events, .trace, .clock, .fab, .casc] [.clockSources, .clockSelect, .cascadeTime, .links, .lanes] s t) ∧
  (∀ (a : Agent) (q : Fin 16) (s : State), Sound s → lanesWriter a = true → s.get (LNK_CTL_EN q.val) = 1 →
    s.get (LNK_CTL_DEG_LIM q.val) ≠ 0 ∧ s.get (LNK_CTL_MAXW q.val) ≠ 3 →
    ∃ t, exec (.linkDisable a q) s = .next t ∧ t.resp.status = .done ∧ t.get (LNK_CTL_EN q.val) = 0 ∧
      t.get (LNK_STAT_STATE q.val) = lnkOff ∧ t.get (LNK_STAT_LANES q.val) = 0 ∧ link q.val t = link0 q.val ∧
      Frame [.resp, .events, .trace, .clock, .fab, .casc] [.clockSources, .clockSelect, .cascadeTime, .links, .lanes] s t) ∧
  (∀ (a : Agent) (q : Fin 16) (s : State), Sound s → lanesWriter a = true → s.get (LNK_CTL_EN q.val) = 1 →
    s.get (LNK_CTL_DEG_LIM q.val) ≠ 0 ∧ s.get (LNK_CTL_MAXW q.val) ≠ 3 → linkActive q.val s = true →
    s.get (LNK_CTL_ROLE q.val) = 0 →
    ∃ t, exec (.linkDisable a q) s = .next t ∧ t.resp.status = .done ∧ Raises 0x0F02 s t) ∧
  (∀ (a : Agent) (q : Fin 16) (s : State), Sound s → lanesWriter a = true → linkActive q.val s = true →
    s.get (LNK_CTL_EN q.val) = 1 → s.get (LNK_CTL_DEG_LIM q.val) ≠ 0 ∧ s.get (LNK_CTL_MAXW q.val) ≠ 3 →
    ∃ t, exec (.linkRetrain a q) s = .next t ∧ t.resp.status = .done ∧ t.get (LNK_STAT_STATE q.val) = lnkTrain ∧
      t.get (LNK_STAT_LANES q.val) = 0 ∧
      (∀ i : Fin 4, t.get (LANE_STAT_GOOD (4 * q.val + i.val)) = 0 ∧ t.get (LANE_STAT_SYMLOCK (4 * q.val + i.val)) = 0) ∧
      (link q.val t).sent = (link q.val s).sent ∧ (link q.val t).again = 0 ∧
      Frame [.resp, .events, .trace, .clock, .fab, .casc] [.clockSources, .clockSelect, .cascadeTime, .links, .lanes] s t) ∧
  (∀ (q : Fin 16) (s : State), Sound s → lnkState q.val s = lnkDetect →
    ∃ t, exec (.linkDetectProbe q true) s = .next t ∧ t.get (LNK_STAT_STATE q.val) = lnkTrain ∧ t.get (LNK_STAT_LANES q.val) = 0 ∧
      (∀ i : Fin 4, t.get (LANE_STAT_GOOD (4 * q.val + i.val)) = 0 ∧ t.get (LANE_STAT_SYMLOCK (4 * q.val + i.val)) = 0) ∧
      (∀ i : Fin 4, spGet (4 * q.val + i.val) t.casc.taps = 65536 * s.get (LANE_CTL_PRE (4 * q.val + i.val)) + 256 * s.get (LANE_CTL_MAIN (4 * q.val + i.val)) + s.get (LANE_CTL_POST (4 * q.val + i.val))) ∧
      Frame [.events, .trace, .clock, .fab, .casc] [.clockSources, .clockSelect, .cascadeTime, .links, .lanes] s t) ∧
  (∀ (l : Fin 64) (tap : Tap) (up : Bool) (x : Nat) (s : State), Sound s → lnkState (l.val / 4) s = lnkTrain →
    tapStep l.val tap up s = some x →
    ∃ t, exec (.tapChangeRequest l tap up) s = .next t ∧ t.resp.status = .done ∧
      t.casc = { s.casc with taps := spSet l.val x s.casc.taps } ∧ Narrow [.resp, .casc] [] s t) ∧
  (∀ (l : Fin 64) (tap : Tap) (up : Bool) (s : State), Sound s → lnkState (l.val / 4) s = lnkTrain →
    tapStep l.val tap up s = none →
    ∃ t, exec (.tapChangeRequest l tap up) s = .next t ∧ t.resp.status = .range ∧ Narrow [.resp] [] s t) ∧
  (∀ (q : Fin 16) (eyes : Nat) (s : State), Sound s → lnkState q.val s = lnkTrain →
    ∃ t, exec (.trainEnd q eyes) s = .next t ∧ t.get (LNK_STAT_STATE q.val) = lnkLock ∧
      (∀ i : Fin 4, t.get (LANE_STAT_GOOD (4 * q.val + i.val)) = (if bit eyes i.val then 1 else 0) ∧ t.get (LANE_STAT_SIGNAL (4 * q.val + i.val)) = (if bit eyes i.val then 1 else 0)) ∧
      Frame [] [.links, .lanes] s t) ∧
  (∀ (q : Fin 16) (s : State), Sound s → lnkState q.val s = lnkTrain →
    ∃ t, exec (.trainTimeout q) s = .next t ∧ t.get (LNK_STAT_STATE q.val) = lnkOff ∧ t.get (LNK_STAT_FAIL q.val) = 2 ∧
      (link q.val t).backoff = true ∧ Raises 0x0F02 s t ∧
      Frame [.events, .trace, .clock, .fab, .casc] [.clockSources, .clockSelect, .cascadeTime, .links] s t) ∧
  (∀ (a : Agent) (l : Fin 64) (s : State), Sound s → lanesWriter a = true →
    tapsOk (s.get (LANE_CTL_PRE l.val)) (s.get (LANE_CTL_MAIN l.val)) (s.get (LANE_CTL_POST l.val)) = true →
    ∃ t, exec (.slip a l) s = .next t ∧ t.resp.status = .done ∧
      (t.casc.slip = if s.get (LNK_CTL_AUTOLOCK (l.val / 4)) = 0 then spSet l.val ((spGet l.val s.casc.slip + 1) % 320) s.casc.slip else s.casc.slip) ∧
      Narrow [.resp, .casc] [] s t) ∧
  (∀ (q : Fin 16) (locked inverted : Nat) (s : State), Sound s → lnkState q.val s = lnkLock →
    ∃ t, exec (.lockEnd q locked inverted) s = .next t ∧ t.get (LNK_STAT_STATE q.val) = lnkExchange ∧
      (∀ i : Fin 4, t.get (LANE_STAT_SYMLOCK (4 * q.val + i.val)) = if bit locked i.val ∧ s.get (LANE_STAT_GOOD (4 * q.val + i.val)) = 1 then 1 else 0) ∧
      (∀ i : Fin 4, bit (t.get (LNK_STAT_POLINV q.val)) i.val = (bit inverted i.val && bit locked i.val && s.get (LANE_STAT_GOOD (4 * q.val + i.val)) == 1)) ∧
      Frame [] [.links, .lanes] s t) ∧
  (∀ (q : Fin 16) (s : State), Sound s → lnkState q.val s = lnkLock → s.get (LNK_CTL_AUTOLOCK q.val) = 1 →
    ∃ t, exec (.lockTimeout q) s = .next t ∧ t.get (LNK_STAT_STATE q.val) = lnkOff ∧ t.get (LNK_STAT_FAIL q.val) = 3 ∧
      (link q.val t).backoff = true ∧ Raises 0x0F02 s t ∧
      Frame [.events, .trace, .clock, .fab, .casc] [.clockSources, .clockSelect, .cascadeTime, .links] s t) ∧
  (∀ (q : Fin 16) (cap : Capability) (s : State), Sound s → lnkState q.val s = lnkExchange → cap.up ≠ s.on (LNK_CTL_ROLE q.val) →
    popCount 4 (Nat.land (laneMask q.val LANE_STAT_SYMLOCK s) cap.lanes) ≠ 0 →
    let m := Nat.land (laneMask q.val LANE_STAT_SYMLOCK s) cap.lanes
    let w := min (widthOf (popCount 4 m)) (min (widthMax q.val s) cap.maxw)
    ∃ t, exec (.exchangeEnd q cap) s = .next t ∧ t.get (LNK_STAT_STATE q.val) = lnkActive ∧ t.get (LNK_STAT_WIDTH q.val) = w ∧
      t.get (LNK_STAT_LANES q.val) = lowestLanes (2 ^ w) m ∧ t.get (LNK_STAT_PARTNER q.val) = cap.station % 2 ^ 18 ∧
      t.get (LNK_STAT_FAIL q.val) = s.get (LNK_STAT_FAIL q.val) ∧
      Frame [.events, .trace, .clock, .fab, .casc] [.clockSources, .clockSelect, .cascadeTime, .links, .lanes] s t) ∧
  (∀ (q : Fin 16) (cap : Capability) (s : State), Sound s → lnkState q.val s = lnkExchange →
    cap.up = s.on (LNK_CTL_ROLE q.val) ∨ popCount 4 (Nat.land (laneMask q.val LANE_STAT_SYMLOCK s) cap.lanes) = 0 →
    ∃ t, exec (.exchangeEnd q cap) s = .next t ∧ t.get (LNK_STAT_STATE q.val) = lnkOff ∧
      (t.get (LNK_STAT_FAIL q.val) = if cap.up = s.on (LNK_CTL_ROLE q.val) then 5 else 6) ∧ (link q.val t).backoff = true ∧
      Raises 0x0F02 s t ∧
      Frame [.events, .trace, .clock, .fab, .casc] [.clockSources, .clockSelect, .cascadeTime, .links, .lanes] s t) ∧
  (∀ (q : Fin 16) (s : State), Sound s → lnkState q.val s = lnkExchange →
    ∃ t, exec (.exchangeTimeout q) s = .next t ∧ t.get (LNK_STAT_STATE q.val) = lnkOff ∧ t.get (LNK_STAT_FAIL q.val) = 4 ∧
      (link q.val t).backoff = true ∧ Raises 0x0F02 s t ∧
      Frame [.events, .trace, .clock, .fab, .casc] [.clockSources, .clockSelect, .cascadeTime, .links] s t) ∧
  (∀ (q : Fin 16) (s : State), Sound s → (link q.val s).backoff = true → s.get (LNK_CTL_EN q.val) = 1 →
    ∃ t, exec (.linkFailBackoff q) s = .next t ∧
      (t.get (LNK_STAT_STATE q.val) = if s.get (LNK_CTL_MODE q.val) = 0 then lnkDetect else s.get (LNK_STAT_STATE q.val)) ∧
      link q.val t = link0 q.val ∧ Narrow [.casc] [LNK_STAT_STATE q.val] s t) ∧
  (∀ (l : Fin 64) (signalLost : Bool) (s : State), Sound s → linkActive (l.val / 4) s = false →
    ∃ t, exec (.symbolLockLoss l signalLost) s = .next t ∧ t.get (LANE_STAT_SYMLOCK l.val) = 0 ∧
      (t.get (LANE_STAT_SIGNAL l.val) = if signalLost then 0 else s.get (LANE_STAT_SIGNAL l.val)) ∧
      (t.get (LANE_STAT_BITLOCK l.val) = if signalLost then 0 else s.get (LANE_STAT_BITLOCK l.val)) ∧
      Narrow [] [LANE_STAT_SYMLOCK l.val, LANE_STAT_BITLOCK l.val, LANE_STAT_SIGNAL l.val] s t) ∧
  (∀ (l : Fin 64) (signalLost : Bool) (s : State), Sound s → linkActive (l.val / 4) s = true →
    s.get (LNK_STAT_LANES (l.val / 4)) = 2 ^ (l.val % 4) → s.get (LNK_STAT_RXSLEEP (l.val / 4)) = 0 →
    ∃ t, exec (.symbolLockLoss l signalLost) s = .next t ∧ t.get (LANE_STAT_SYMLOCK l.val) = 0 ∧
      t.get (LNK_STAT_STATE (l.val / 4)) = lnkOff ∧ (link (l.val / 4) t).backoff = true ∧
      Frame [.events, .trace, .clock, .fab, .casc] [.clockSources, .clockSelect, .cascadeTime, .links, .lanes] s t) ∧
  (∀ (a : Agent) (l : Fin 64) (s : State), Sound s → lanesWriter a = true →
    tapsOk (s.get (LANE_CTL_PRE l.val)) (s.get (LANE_CTL_MAIN l.val)) (s.get (LANE_CTL_POST l.val)) = true →
    ∃ t, exec (.prbsInject a l) s = .next t ∧ t.resp.status = .done ∧
      (t.get (LANE_STAT_ERRORS l.val) = if s.get (LNK_CTL_MODE (l.val / 4)) = 2 ∧ s.get (LANE_STAT_PRBS_LOCK l.val) = 1 then min (s.get (LANE_STAT_ERRORS l.val) + 1) (2 ^ 32 - 1) else s.get (LANE_STAT_ERRORS l.val)) ∧
      Narrow [.resp] [LANE_STAT_ERRORS l.val] s t) ∧
  (∀ (l : Fin 64) (wrongBits : Nat) (s : State), Sound s → s.get (LNK_CTL_EN (l.val / 4)) = 1 →
    domRuns (48 + l.val / 4) s = true → s.get (LNK_CTL_MODE (l.val / 4)) = 1 ∨ s.get (LNK_CTL_MODE (l.val / 4)) = 2 →
    s.get (LANE_CTL_PRBS l.val) ≠ 0 →
    ∃ t, exec (.prbsCheckerLock l wrongBits) s = .next t ∧ t.get (LANE_STAT_PRBS_LOCK l.val) = 1 ∧
      t.get (LANE_STAT_ERRORS l.val) = min (s.get (LANE_STAT_ERRORS l.val) + wrongBits) (2 ^ 32 - 1) ∧
      Narrow [] [LANE_STAT_PRBS_LOCK l.val, LANE_STAT_ERRORS l.val] s t)

/-- Completion of the commands that move flits, messages and time over a link, in the cases listed. In every sound state: the
transmitter of an ACTIVE link that is awake, with an empty send queue and no LINKCTL due, sends the next flit that may go and
keeps it for replay, a payload taking a credit, or the next flit of a replay; a good payload flit advances EXPECT, is queued and
acknowledged, its credits added; a bad one is counted on link and lane and NAKed, and on an x1 link past DEG_LIM starts a
retrain; a NAK before 8 replays starts a replay, counted; an idle direction that may sleeps and one with something to send
wakes; a valid CAS_SEND with room and a route is answered DONE and, with no message to the part itself at the head, queued,
without room or route RETRY; a whole message received goes to the link of its destination, to the receive ring that has room,
its HBM serving, or is counted as dropped or without route with event 0x0F08; a TIME flit for the next tick goes first on a DOWN
link with TIME_EN; one received sets HOPS, BEYOND, DELAY and HOLD, places the next tick and returns an ECHO at once; the ECHO of
the TIME flit last sent gives a value of the delay. Frames are stated. (R408, R409, R410, R411, R412, R413, R416, R417, R418,
R420, R421, R423.) -/
def Obligations.CascadeCommandsComplete : Prop :=
  (∀ (q : Fin 16) (f : OutFlit) (s : State), Sound s → linkActive q.val s = true → s.get (LNK_STAT_TXSLEEP q.val) = 0 →
    s.casc.queue = [] → (link q.val s).ctlDue = none ∧ (link q.val s).again = (link q.val s).sent.length →
    nextFlit (link q.val s) = some f →
    ∃ t, exec (.flitSend q) s = .next t ∧ (link q.val t).txq = (link q.val s).txq.erase f ∧
      (link q.val t).sent = (link q.val s).sent ++ [f] ∧
      ((link q.val t).credits = if f.type = .payload then (link q.val s).credits - 1 else (link q.val s).credits) ∧
      (link q.val t).wire = some (f, ((link q.val s).expect + 4095) % 4096, (link q.val s).nakDue, min 7 (link q.val s).freed) ∧
      (link q.val t).nakDue = false ∧ (link q.val t).ackDue = false ∧ Narrow [.casc] [] s t) ∧
  (∀ (q : Fin 16) (s : State), Sound s → linkActive q.val s = true → s.get (LNK_STAT_TXSLEEP q.val) = 0 → s.casc.queue = [] →
    (link q.val s).ctlDue = none ∧ (link q.val s).again < (link q.val s).sent.length →
    ∃ t, exec (.flitSend q) s = .next t ∧ (link q.val t).again = (link q.val s).again + 1 ∧
      ((link q.val t).wire.map (fun w => some w.1) = some ((link q.val s).sent[(link q.val s).again]?)) ∧
      (link q.val t).txq = (link q.val s).txq ∧ (link q.val t).sent = (link q.val s).sent ∧ (link q.val t).credits = (link q.val s).credits ∧
      Narrow [.casc] [] s t) ∧
  (∀ (q : Fin 16) (lane : Fin 4) (f : Flit) (s : State), Sound s → linkActive q.val s = true →
    bit (s.get (LNK_STAT_LANES q.val)) lane.val = true → f.type = .payload ∧ f.nak = false →
    ∃ t, exec (.flitReceive q lane true f) s = .next t ∧ (link q.val t).expect = ((link q.val s).expect + 1) % 4096 ∧
      (link q.val t).ackDue = true ∧ (link q.val t).rx = (link q.val s).rx ++ [⟨.payload, f.last, f.payload⟩] ∧
      (link q.val t).credits = min 64 ((link q.val s).credits + f.credits) ∧ t.get (LNK_STAT_RXSLEEP q.val) = 0 ∧
      Narrow [.casc] [LNK_STAT_RXSLEEP q.val] s t) ∧
  (∀ (q : Fin 16) (lane : Fin 4) (f : Flit) (s : State), Sound s → linkActive q.val s = true →
    bit (s.get (LNK_STAT_LANES q.val)) lane.val = true → spGet lane.val (link q.val s).laneErr < s.get (LNK_CTL_DEG_LIM q.val) →
    ∃ t, exec (.flitReceive q lane false f) s = .next t ∧ (link q.val t).nakDue = true ∧
      (link q.val t).expect = (link q.val s).expect ∧ (link q.val t).rx = (link q.val s).rx ∧
      t.get (LNK_ERR_CRC_ERR q.val) = min (s.get (LNK_ERR_CRC_ERR q.val) + 1) (2 ^ 32 - 1) ∧
      t.get (LANE_STAT_ERRORS (4 * q.val + lane.val)) = min (s.get (LANE_STAT_ERRORS (4 * q.val + lane.val)) + 1) (2 ^ 32 - 1) ∧
      Narrow [.casc] [LNK_ERR_CRC_ERR q.val, LANE_STAT_ERRORS (4 * q.val + lane.val)] s t) ∧
  (∀ (q : Fin 16) (lane : Fin 4) (f : Flit) (s : State), Sound s → linkActive q.val s = true →
    bit (s.get (LNK_STAT_LANES q.val)) lane.val = true → s.get (LNK_CTL_DEG_LIM q.val) ≤ spGet lane.val (link q.val s).laneErr →
    s.get (LNK_STAT_WIDTH q.val) = 0 →
    ∃ t, exec (.flitReceive q lane false f) s = .next t ∧ t.get (LNK_STAT_STATE q.val) = lnkTrain ∧ (link q.val t).laneErr = [] ∧
      Frame [.events, .trace, .clock, .fab, .casc] [.clockSources, .clockSelect, .cascadeTime, .links, .lanes] s t) ∧
  (∀ (q : Fin 16) (lane : Fin 4) (f : Flit) (s : State), Sound s → linkActive q.val s = true →
    bit (s.get (LNK_STAT_LANES q.val)) lane.val = true → f.type = .idle ∧ f.nak = true →
    (ackTo f.ackSeq (link q.val s)).sent ≠ [] → (ackTo f.ackSeq (link q.val s)).replays < 8 →
    ∃ t, exec (.flitReceive q lane true f) s = .next t ∧ (link q.val t).again = 0 ∧
      (link q.val t).sent = (ackTo f.ackSeq (link q.val s)).sent ∧
      t.get (LNK_ERR_REPLAYS q.val) = min (s.get (LNK_ERR_REPLAYS q.val) + 1) 65535 ∧
      Narrow [.casc] [LNK_STAT_RXSLEEP q.val, LNK_ERR_REPLAYS q.val] s t) ∧
  (∀ (q : Fin 16) (s : State), Sound s → linkActive q.val s = true → s.get (LNK_CTL_SLEEP_EN q.val) = 1 →
    s.get (LNK_STAT_TXSLEEP q.val) = 0 → s.get (LNK_CTL_ROLE q.val) = 1 ∨ s.get (LNK_CTL_TIME_EN q.val) = 0 →
    linkIdle (link q.val s) = true →
    ∃ t, exec (.linkSleep q) s = .next t ∧ t.get (LNK_STAT_TXSLEEP q.val) = 1 ∧
      ((link q.val t).wire.map (fun w => w.1.type) = some .sleep) ∧ Narrow [.casc] [LNK_STAT_TXSLEEP q.val] s t) ∧
  (∀ (q : Fin 16) (s : State), Sound s → s.get (LNK_STAT_TXSLEEP q.val) = 1 → linkIdle (link q.val s) = false →
    ∃ t, exec (.linkWake q) s = .next t ∧ t.get (LNK_STAT_TXSLEEP q.val) = 0 ∧ Narrow [] [LNK_STAT_TXSLEEP q.val] s t) ∧
  (∀ (a : Agent) (value : Nat) (s : State), Sound s → lanesWriter a = true ∨ a.core03 = true →
    CAS_SEND_ADDR.of value % 64 = 0 ∧ CAS_SEND_ADDR.of value + 32 * (CAS_SEND_LEN.of value + 1) ≤ hbmSize →
    CAS_SEND_DEST.of value < 250000 ∨ CAS_SEND_DEST.of value = noStation → s.get CAS_CTL_STATION ≠ noStation →
    s.casc.queue.length < 64 ∧ casLeads (CAS_SEND_DEST.of value) s = true →
    ∃ t, exec (.casSend a value) s = .next t ∧ t.resp.status = .done ∧
      Frame [.resp, .events, .trace, .hbm, .enc, .noc, .casc, .leap] [.loader, .hbmEcc, .hbmFlip, .encRegions, .cascadeSend,
        .cascadeRing] s t) ∧
  (∀ (a : Agent) (value : Nat) (s : State), Sound s → lanesWriter a = true ∨ a.core03 = true →
    CAS_SEND_ADDR.of value % 64 = 0 ∧ CAS_SEND_ADDR.of value + 32 * (CAS_SEND_LEN.of value + 1) ≤ hbmSize →
    CAS_SEND_DEST.of value < 250000 ∨ CAS_SEND_DEST.of value = noStation → s.get CAS_CTL_STATION ≠ noStation →
    s.casc.queue.length < 64 ∧ casLeads (CAS_SEND_DEST.of value) s = true →
    (s.casc.queue ++ [(⟨CAS_SEND_TAG.of value, CAS_SEND_DEST.of value, CAS_SEND_LEN.of value + 1, CAS_SEND_ADDR.of value⟩ : CasMsg)]).head?.map (·.dest) ≠ some (s.get CAS_CTL_STATION) →
    ∃ t, exec (.casSend a value) s = .next t ∧ t.resp.status = .done ∧
      t.casc.queue = s.casc.queue ++ [⟨CAS_SEND_TAG.of value, CAS_SEND_DEST.of value, CAS_SEND_LEN.of value + 1, CAS_SEND_ADDR.of value⟩] ∧
      Narrow [.resp, .casc] [] s t) ∧
  (∀ (a : Agent) (value : Nat) (s : State), Sound s → lanesWriter a = true ∨ a.core03 = true →
    CAS_SEND_ADDR.of value % 64 = 0 ∧ CAS_SEND_ADDR.of value + 32 * (CAS_SEND_LEN.of value + 1) ≤ hbmSize →
    CAS_SEND_DEST.of value < 250000 ∨ CAS_SEND_DEST.of value = noStation → s.get CAS_CTL_STATION ≠ noStation →
    64 ≤ s.casc.queue.length ∨ casLeads (CAS_SEND_DEST.of value) s = false →
    ∃ t, exec (.casSend a value) s = .next t ∧ t.resp.status = .retry ∧ Narrow [.resp] [] s t) ∧
  (∀ (q : Fin 16) (i p dest : Nat) (s : State), Sound s → (link q.val s).rx.findIdx? (·.last) = some i →
    ((link q.val s).rx.head?.map (fun f => ofBytes (f.payload.take 8) % 2 ^ 18) = some dest) →
    dest ≠ noStation ∧ dest ≠ s.get CAS_CTL_STATION → casRoute (some q.val) dest s = (false, [p]) → p ≠ q.val →
    ∃ t, exec (.messageReceive q) s = .next t ∧ (link p t).txq = (link p s).txq ++ (link q.val s).rx.take (i + 1) ∧
      (link q.val t).rx = (link q.val s).rx.drop (i + 1) ∧ (link q.val t).freed = (link q.val s).freed + i + 1 ∧
      Narrow [.casc] [] s t) ∧
  (∀ (q : Fin 16) (i dest : Nat) (s : State), Sound s → (link q.val s).rx.findIdx? (·.last) = some i →
    ((link q.val s).rx.head?.map (fun f => ofBytes (f.payload.take 8) % 2 ^ 18) = some dest) →
    casRoute (some q.val) dest s = (false, []) →
    ∃ t, exec (.messageReceive q) s = .next t ∧ t.get CAS_STAT_NOROUTE = min (s.get CAS_STAT_NOROUTE + 1) 65535 ∧
      (link q.val t).rx = (link q.val s).rx.drop (i + 1) ∧ Raises 0x0F08 s t ∧
      Narrow [.casc, .events, .trace] [CAS_STAT_NOROUTE] s t) ∧
  (∀ (q : Fin 16) (i : Nat) (s : State), Sound s → (link q.val s).rx.findIdx? (·.last) = some i →
    ((link q.val s).rx.head?.map (fun f => ofBytes (f.payload.take 8) % 2 ^ 18) = some (s.get CAS_CTL_STATION)) →
    s.get CAS_CTL_STATION ≠ noStation →
    casRingSize s ≠ 0 ∧ wrap 32 ((s.get CAS_RX_PTR_WR : Int) - s.get CAS_RX_PTR_RD) < casRingSize s →
    s.get CAS_RX_CFG_BASE + 512 * (s.get CAS_RX_PTR_WR % casRingSize s) + 512 ≤ hbmSize →
    (nocReach 51 (s.get CAS_RX_CFG_BASE + 512 * (s.get CAS_RX_PTR_WR % casRingSize s)) 2 18 s).1 = none →
    hbmDenies 51 (s.get CAS_RX_CFG_BASE + 512 * (s.get CAS_RX_PTR_WR % casRingSize s)) 512 true = false →
    pairRefusesAt (s.get CAS_RX_CFG_BASE + 512 * (s.get CAS_RX_PTR_WR % casRingSize s)) 8 s = none →
    (∀ k : Fin 8, encRegion (64 * ((s.get CAS_RX_CFG_BASE + 512 * (s.get CAS_RX_PTR_WR % casRingSize s)) / 64 + k.val)) s = none) →
    let wr := s.get CAS_RX_PTR_WR
    let a := s.get CAS_RX_CFG_BASE + 512 * (s.get CAS_RX_PTR_WR % casRingSize s)
    ∃ t, exec (.messageReceive q) s = .next t ∧ t.get CAS_RX_PTR_WR = (wr + 1) % 2 ^ 32 ∧
      t.get CAS_STAT_RX_DROP = s.get CAS_STAT_RX_DROP ∧
      Frame [.events, .trace, .hbm, .enc, .noc, .casc, .leap] [.loader, .hbmEcc, .hbmFlip, .encRegions, .cascadeSend, .cascadeRing] s t) ∧
  (∀ (q : Fin 16) (i : Nat) (s : State), Sound s → (link q.val s).rx.findIdx? (·.last) = some i →
    ((link q.val s).rx.head?.map (fun f => ofBytes (f.payload.take 8) % 2 ^ 18) = some (s.get CAS_CTL_STATION)) →
    s.get CAS_CTL_STATION ≠ noStation → casRingSize s ≤ wrap 32 ((s.get CAS_RX_PTR_WR : Int) - s.get CAS_RX_PTR_RD) →
    ∃ t, exec (.messageReceive q) s = .next t ∧ t.get CAS_STAT_RX_DROP = min (s.get CAS_STAT_RX_DROP + 1) 65535 ∧
      Narrow [.casc] [CAS_STAT_RX_DROP] s t) ∧
  (∀ (q : Fin 16) (t1 : Nat) (s : State), Sound s → linkActive q.val s = true →
    s.get (LNK_CTL_ROLE q.val) = 0 ∧ s.get (LNK_CTL_TIME_EN q.val) = 1 →
    let n := (frameCount s + 1) % 2 ^ 48
    ∃ t, exec (.timeFlitSend q t1) s = .next t ∧ (link q.val t).timeSent = some (t1, n) ∧
      (link q.val t).txq = ⟨.time, false, timeBytes ⟨n, nextPeriod s, s.get CAS_TIME_HOPS, timeHold s, 4 * s.clock.expectPs - t1, linkDelay (link q.val s) (lowestLane q.val s), linkDelayOk (link q.val s) (lowestLane q.val s)⟩⟩ :: (link q.val s).txq ∧
      Narrow [.casc] [] s t) ∧
  (∀ (q : Fin 16) (arrival turn : Nat) (f : TimeFlit) (s : State), Sound s → linkActive q.val s = true →
    s.get (LNK_CTL_ROLE q.val) = 1 →
    ∃ t, exec (.timeFlitReceive q arrival turn f) s = .next t ∧ t.get CAS_TIME_HOPS = min 15 (f.hops + 1) ∧
      (t.get CAS_TIME_BEYOND = if 6 ≤ f.hops then 1 else 0) ∧
      (t.get CAS_TIME_DELAY = if f.delayOk = true ∧ f.delay ≤ f.lead then f.delay % 2 ^ 24 else s.get CAS_TIME_DELAY) ∧
      (t.get CAS_TIME_HOLD = if f.hold then 1 else 0) ∧
      t.casc.next = some ⟨f.count, f.period, (arrival : Int) + f.lead - f.delay⟩ ∧
      (link q.val t).txq = ⟨.echo, false, toBytes 4 turn ++ toBytes 6 f.count ++ toBytes 22 0⟩ :: (link q.val s).txq ∧
      Frame [.events, .trace, .casc] [.cascadeTime] s t) ∧
  (∀ (q : Fin 16) (t4 turn count : Nat) (t1 : Nat) (s : State), Sound s → linkActive q.val s = true →
    (link q.val s).timeSent = some (t1, count) → (link q.val s).delayLane = lowestLane q.val s →
    (link q.val s).delays.length ≤ 16 →
    ∃ t, exec (.echoReceive q t4 turn count) s = .next t ∧ (link q.val t).timeSent = none ∧
      (link q.val t).delays.getLast? = some ((t4 : Int) - t1 - turn + sext 16 (s.get (LNK_ASYM_ASYM q.val))) ∧
      (link q.val t).delays.length = min 16 ((link q.val s).delays.length + 1) ∧ Narrow [.casc] [] s t)

/-- Completion of the commands of the scratchpad, in the cases listed. In every sound state: a permitted handover to another
owner names it with event 0x100C and, with no request at the bank and no handover open, is answered DONE, else with the old
owner's access open sets PENDING and its answer waits; an aligned access that the bank does not refuse reads its word, or
answers POISON, counted with event 0x1007, and writes it whole, merged, or by the bit-set and bit-clear aliases; of a read and a
whole write of one word in one cycle the read answers the new data; with no handover open, who is not the owner is DENIED; the
scrubber, on, in a bank of 0 to 13 that runs, counts a word with a double-bit error with event 0x1007, a single-bit error in
CORR and the bucket, whose overflow raises 0x1006, leaves other words alone, and ends its pass in the last word of the last
running bank; a valid secure pass of core 0 or 1 with pair 7 ON sets GO and its range, and ends with its results and event
0x1009; a march of core 0 or 1 over ON banks, with nothing running, sets GO and its banks, and ends with PASSED and FAILED by
its results and event 0x1008, contents kept with PRESERVE and 0 without; the wipe's end is told with event 0x100A. Frames are
stated. (R434, R435, R436, R437, R438, R439, R442, R443.) -/
def Obligations.ScratchpadCommandsComplete : Prop :=
  (∀ (a : Agent) (n : Fin 16) (owner : Nat) (s : State), Sound s → a.ctl = true →
    a.core01 = true ∨ a.init.val = s.get (SP_OWN_OWNER n.val) → (SP_OWN_OWNER n.val).of owner ≠ s.get (SP_OWN_OWNER n.val) →
    n.val < 14 ∨ (SP_OWN_OWNER n.val).of owner ≤ 1 → (s.noc.reqs.all (fun r => r.target != 8 + n.val) = true) →
    (s.cluster.handover.all (fun p => p.1 != n.val) = true) →
    ∃ t, exec (.bankHandover a n owner) s = .next t ∧ t.resp.status = .done ∧
      t.get (SP_OWN_OWNER n.val) = (SP_OWN_OWNER n.val).of owner ∧ t.get (SP_OWN_PENDING n.val) = 0 ∧ Raises 0x100C s t ∧
      Frame [.resp, .events, .trace, .cluster] [.owners] s t) ∧
  (∀ (a : Agent) (n : Fin 16) (owner : Nat) (s : State), Sound s → a.ctl = true →
    a.core01 = true ∨ a.init.val = s.get (SP_OWN_OWNER n.val) → (SP_OWN_OWNER n.val).of owner ≠ s.get (SP_OWN_OWNER n.val) →
    n.val < 14 ∨ (SP_OWN_OWNER n.val).of owner ≤ 1 →
    (s.noc.reqs.any (fun r => nocOpen r && r.target == 8 + n.val && r.agent.init.val == s.get (SP_OWN_OWNER n.val) && decide (r.id < s.noc.nextId)) = true) →
    ∃ t, exec (.bankHandover a n owner) s = .next t ∧ t.get (SP_OWN_OWNER n.val) = (SP_OWN_OWNER n.val).of owner ∧
      t.get (SP_OWN_PENDING n.val) = 1 ∧ t.resp = s.resp ∧ Raises 0x100C s t ∧
      Frame [.resp, .events, .trace, .cluster] [.owners] s t) ∧
  (∀ (a : Agent) (x w : Nat) (s : State), Sound s → inScratchpad x = true →
    spRefuses a.init.val (spBank x) s.noc.nextId s = none → spWidthOk x w = true → 65536 * spBank x + spIndex x ∉ s.cluster.bad →
    ∃ t, exec (.scratchpadAccess a (.read x w) .ok) s = .next t ∧
      t.resp = ⟨.done, bits (spWord (spBank x) (spIndex x) s) (8 * (x % 8)) w, []⟩ ∧ Narrow [.resp] [] s t) ∧
  (∀ (a : Agent) (x w : Nat) (s : State), Sound s → inScratchpad x = true →
    spRefuses a.init.val (spBank x) s.noc.nextId s = none → spWidthOk x w = true → 65536 * spBank x + spIndex x ∈ s.cluster.bad →
    ∃ t, exec (.scratchpadAccess a (.read x w) .ok) s = .next t ∧ t.resp.status = .poison ∧
      t.get SP_ECC_STAT_UNCORR = min (s.get SP_ECC_STAT_UNCORR + 1) 65535 ∧ Raises 0x1007 s t ∧
      Narrow [.resp, .events, .trace] [SP_ECC_STAT_UNCORR] s t) ∧
  (∀ (a : Agent) (x w v : Nat) (s : State), Sound s → inScratchpad x = true →
    spRefuses a.init.val (spBank x) s.noc.nextId s = none → spWidthOk x w = true →
    65536 * spBank x + spIndex x ∉ s.cluster.bad ∨ (spAlias x = 0 ∧ w = 64) →
    let n := spBank x
    let k := 65536 * spBank x + spIndex x
    let new := if spAlias x = 0 ∧ w = 64 then v % 2 ^ 64 else spMerge x w v (spWord (spBank x) (spIndex x) s) % 2 ^ 64
    ∃ t, exec (.scratchpadAccess a (.write x w v) .ok) s = .next t ∧ t.resp.status = .done ∧
      (t.cluster.words = if new = 0 ∧ spGet n s.cluster.base = 0 then spDel k s.cluster.words else spSet k (new + 1) s.cluster.words) ∧
      (t.cluster.bad = s.cluster.bad.filter (fun y => y != k)) ∧ Narrow [.resp, .cluster] [] s t) ∧
  (∀ (a : Agent) (x w v : Nat) (s : State), Sound s → inScratchpad x = true → domRefuses (spDom (spBank x)) s = none →
    s.get (SP_OWN_OWNER (spBank x)) ≠ a.init.val → s.cluster.handover = [] →
    ∃ t, exec (.scratchpadAccess a (.write x w v) .ok) s = .next t ∧ t.resp.status = .denied ∧ Narrow [.resp] [] s t) ∧
  (∀ (a : Agent) (x w y v : Nat) (s : State), Sound s → inScratchpad x = true ∧ inScratchpad y = true →
    spBank x = spBank y ∧ spIndex x = spIndex y → spRefuses a.init.val (spBank y) s.noc.nextId s = none →
    spWidthOk x w = true ∧ spWidthOk y 64 = true ∧ spAlias y = 0 →
    ∃ t, exec (.scratchpadAccess a (.both x w y 64 v) .ok) s = .next t ∧
      t.resp = ⟨.done, bits (v % 2 ^ 64) (8 * (x % 8)) w, [BitVec.ofNat 8 Status.done.code]⟩ ∧ Narrow [.resp, .cluster] [] s t) ∧
  (∀ (n : Fin 16) (word : Nat) (s : State), Sound s → n.val < 14 ∧ word < 65536 → domRuns (spDom n.val) s = true →
    s.get SP_ECC_CTL_SCRUB_RATE ≠ 0 → 65536 * n.val + word ∈ s.cluster.bad →
    ∃ t, exec (.spScrubWord n word .ok) s = .next t ∧ t.get SP_ECC_STAT_UNCORR = min (s.get SP_ECC_STAT_UNCORR + 1) 65535 ∧
      Raises 0x1007 s t ∧ Narrow [.events, .trace] [SP_ECC_STAT_UNCORR, SP_ECC_STAT_PASSES] s t) ∧
  (∀ (n : Fin 16) (word : Nat) (s : State), Sound s → n.val < 14 ∧ word < 65536 → domRuns (spDom n.val) s = true →
    s.get SP_ECC_CTL_SCRUB_RATE ≠ 0 → 65536 * n.val + word ∉ s.cluster.bad →
    ∃ t, exec (.spScrubWord n word .ok) s = .next t ∧
      (t.get SP_ECC_STAT_PASSES = (s.get SP_ECC_STAT_PASSES + if word = 65535 ∧ (List.range 14).any (fun m => decide (n.val < m) && domRuns (spDom m) s) = false then 1 else 0) % 256) ∧
      Narrow [] [SP_ECC_STAT_PASSES] s t) ∧
  (∀ (n : Fin 16) (word : Nat) (s : State), Sound s → n.val < 14 ∧ word < 65536 → domRuns (spDom n.val) s = true →
    s.get SP_ECC_CTL_SCRUB_RATE ≠ 0 → 65536 * n.val + word ∉ s.cluster.bad →
    ∃ t, exec (.spScrubWord n word .single) s = .next t ∧ t.get SP_ECC_STAT_CORR = min (s.get SP_ECC_STAT_CORR + 1) 65535 ∧
      (t.get SP_ECC_STAT_LEVEL = if s.get SP_ECC_CTL_BUCKET < s.get SP_ECC_STAT_LEVEL + 1 then 0 else (s.get SP_ECC_STAT_LEVEL + 1) % 256) ∧
      Frame [.events, .trace, .cluster] [.scratchpadEcc] s t) ∧
  (∀ (n : Fin 16) (word : Nat) (s : State), Sound s → n.val < 14 ∧ word < 65536 → domRuns (spDom n.val) s = true →
    s.get SP_ECC_CTL_SCRUB_RATE ≠ 0 → 65536 * n.val + word ∉ s.cluster.bad →
    s.get SP_ECC_CTL_BUCKET < s.get SP_ECC_STAT_LEVEL + 1 →
    ∃ t, exec (.spScrubWord n word .single) s = .next t ∧ t.get SP_ECC_STAT_OVERFLOW = 1 ∧ Raises 0x1006 s t) ∧
  (∀ (a : Agent) (value : Nat) (s : State), Sound s → a.core01 = true → SP_PASS_GO.of value = 1 →
    s.get SP_PASS_GO = 0 ∧ s.get SP_MARCH_GO = 0 →
    SP_PASS_COUNT.of value ≠ 0 ∧ SP_PASS_FIRST.of value + SP_PASS_COUNT.of value ≤ 65536 → domOn 93 s = true →
    ∃ t, exec (.spSecurePass a value) s = .next t ∧ t.resp.status = .done ∧ t.get SP_PASS_GO = 1 ∧
      t.get SP_PASS_FIRST = SP_PASS_FIRST.of value ∧ t.get SP_PASS_COUNT = SP_PASS_COUNT.of value ∧
      t.get SP_PASS_BANK = SP_PASS_BANK.of value ∧
      t.cluster.pass = (14 + SP_PASS_BANK.of value, SP_PASS_FIRST.of value, SP_PASS_COUNT.of value) ∧
      Frame [.resp, .cluster] [.scratchpadTests] s t) ∧
  (∀ (singles : Nat) (n first k : Nat) (s : State), Sound s → s.get SP_PASS_GO = 1 → s.cluster.pass = (n, first, k) →
    let l := s.cluster.bad.filter (fun x => decide (65536 * n + first ≤ x) && decide (x < 65536 * n + first + k))
    ∃ t, exec (.spSecurePassEnd singles) s = .next t ∧ t.get SP_PASS_GO = 0 ∧ t.get SP_PASS_SUM_CHECKED = k % 2 ^ 32 ∧
      t.get SP_PASS_SUM_UNCORR = min l.length 65535 ∧ t.get SP_PASS_SUM_CORR = min (min singles (k - l.length)) 65535 ∧
      Raises 0x1009 s t ∧ Frame [.events, .trace, .cluster] [.scratchpadEcc, .scratchpadTests] s t) ∧
  (∀ (a : Agent) (value : Nat) (s : State), Sound s → a.core01 = true → SP_MARCH_GO.of value = 1 →
    s.get SP_PASS_GO = 0 ∧ s.get SP_MARCH_GO = 0 →
    (∀ n : Fin 16, bit (SP_MARCH_BANKS.of value) n.val = true → domOn (spDom n.val) s = true) →
    ∃ t, exec (.spMarch a value) s = .next t ∧ t.resp.status = .done ∧ t.get SP_MARCH_GO = 1 ∧
      t.get SP_MARCH_PRESERVE = SP_MARCH_PRESERVE.of value ∧ t.get SP_MARCH_BANKS = SP_MARCH_BANKS.of value ∧
      (t.cluster = { s.cluster with march := (List.range 16).filter (fun n => bit (SP_MARCH_BANKS.of value) n), keep := bit (SP_MARCH_PRESERVE.of value) 0 }) ∧
      Frame [.resp, .cluster] [.scratchpadTests] s t) ∧
  (∀ (results : List MarchResult) (s : State), Sound s → s.get SP_MARCH_GO = 1 → s.cluster.keep = true →
    (s.cluster.march.Nodup ∧ ∀ n ∈ s.cluster.march, n < 16) →
    ∃ t, exec (.marchEnd results) s = .next t ∧ t.get SP_MARCH_GO = 0 ∧ t.cluster = { s.cluster with march := [] } ∧
      (∀ n : Fin 16, bit (t.get SP_MARCH_STAT_FAILED) n.val = (decide (n.val ∈ s.cluster.march) && (results.find? (fun r => r.bank.val == n.val)).any (fun r => r.fails != 0))) ∧
      (∀ n : Fin 16, bit (t.get SP_MARCH_STAT_PASSED) n.val = (decide (n.val ∈ s.cluster.march) && !(results.find? (fun r => r.bank.val == n.val)).any (fun r => r.fails != 0))) ∧
      Raises 0x1008 s t ∧ Frame [.events, .trace, .cluster] [.scratchpadTests] s t) ∧
  (∀ (results : List MarchResult) (s : State), Sound s → s.get SP_MARCH_GO = 1 → s.cluster.keep = false →
    ∃ t, exec (.marchEnd results) s = .next t ∧ t.get SP_MARCH_GO = 0 ∧ (∀ p ∈ t.cluster.words, p.1 / 65536 ∉ s.cluster.march) ∧
      (∀ k ∈ t.cluster.bad, k / 65536 ∉ s.cluster.march) ∧ Raises 0x1008 s t ∧
      Frame [.events, .trace, .cluster] [.scratchpadTests] s t) ∧
  (∀ (x : Nat) (s : State), Sound s → s.cluster.wiping = some x →
    ∃ t, exec .secureWipeEnd s = .next t ∧ t.cluster = { s.cluster with wiping := none } ∧ Raises 0x100A s t ∧
      Narrow [.cluster, .events, .trace] [] s t)

/-- Completion of the commands of mailboxes, locks, interrupts, watchdogs and CRC units, in the cases listed. In every sound
state: mailbox data is written while the mailbox is empty, answered RETRY while full; a post of an empty one fills it and rings
the receiver; an acknowledgement by the receiver or the debug port empties a full one and rings a sending core that was not
reset; a message due is timed out with event 0x1004 and, from a core, a pending bit; a running core takes its first lock fault,
else its lowest pending interrupt that mie enables; a free lock is taken, one owned renewed, one held otherwise answered RETRY;
a release is DONE for the owner under its present epoch, DENIED for others; a lease at 0 that does not stand breaks the lock
with event 0x1002 and a lock fault for a core; a kick by a permitted writer restarts an enabled watchdog with its key alone; in
its last frame core 2's or 3's watchdog resets the core, that of 0 or 1, with no Almanac programming, takes a WARM reset; a CRC
computation starts at its preset, takes its fold first where due, and its bytes; the result is read with the final XOR. Frames
are stated. (R432, R444, R445, R446, R448, R449, R451, R452, R454, R455.) -/
def Obligations.ClusterCommandsComplete : Prop :=
  (∀ (a : Agent) (m j : Fin 16) (value : Nat) (s : State), Sound s → s.get (MBX_STAT_FULL m.val) = 0 →
    ∃ t, exec (.mailboxDataWrite a m j value) s = .next t ∧ t.resp.status = .done ∧
      t.get (MBX_DATA_DATA m.val j.val) = value % 2 ^ 32 ∧ Narrow [.resp] [MBX_DATA_DATA m.val j.val] s t) ∧
  (∀ (a : Agent) (m j : Fin 16) (value : Nat) (s : State), Sound s → s.get (MBX_STAT_FULL m.val) = 1 →
    ∃ t, exec (.mailboxDataWrite a m j value) s = .next t ∧ t.resp.status = .retry ∧ Narrow [.resp] [] s t) ∧
  (∀ (a : Agent) (m : Fin 16) (s : State), Sound s → s.get (MBX_STAT_FULL m.val) = 0 →
    ∃ t, exec (.mailboxPost a m) s = .next t ∧ t.resp.status = .done ∧ t.get (MBX_STAT_FULL m.val) = 1 ∧
      t.get (MBX_CTL_GO m.val) = 1 ∧ t.get (MBX_STAT_SENDER m.val) = a.init.val ∧
      t.get (MBX_STAT_SEPOCH m.val) = s.get (EPOCH_EPOCH a.init.val) ∧ t.get (MBX_STAT_AGE m.val) = 0 ∧
      bit (t.get (DB_PEND_PEND (s.get (MBX_CTL_RECEIVER m.val)))) m.val = true ∧ Frame [.resp] [.mailboxes, .doorbells] s t) ∧
  (∀ (a : Agent) (m : Fin 16) (s : State), Sound s → s.get (MBX_STAT_FULL m.val) = 1 →
    a.init.val = s.get (MBX_CTL_RECEIVER m.val) ∨ a.init.val = 50 →
    ∃ t, exec (.mailboxAck a m) s = .next t ∧ t.resp.status = .done ∧ t.get (MBX_STAT_FULL m.val) = 0 ∧
      t.get (MBX_CTL_GO m.val) = 0 ∧ Frame [.resp] [.mailboxes, .doorbells] s t) ∧
  (∀ (a : Agent) (m : Fin 16) (s : State), Sound s → s.get (MBX_STAT_FULL m.val) = 1 →
    a.init.val = s.get (MBX_CTL_RECEIVER m.val) ∨ a.init.val = 50 →
    s.get (MBX_STAT_SENDER m.val) < 4 ∧ s.get (MBX_STAT_ORPHAN m.val) = 0 →
    ∃ t, exec (.mailboxAck a m) s = .next t ∧ t.resp.status = .done ∧
      bit (t.get (DB_PEND_PEND (s.get (MBX_STAT_SENDER m.val)))) (16 + m.val) = true) ∧
  (∀ (m : Fin 16) (s : State), Sound s → mbxDue m.val s = true →
    ∃ t, exec (.mailboxTimeout m) s = .next t ∧ t.get (MBX_STAT_TIMED_OUT m.val) = 1 ∧ Raises 0x1004 s t ∧
      Frame [.events, .trace] [.mailboxes, .doorbells] s t) ∧
  (∀ (m : Fin 16) (s : State), Sound s → mbxDue m.val s = true → s.get (MBX_STAT_SENDER m.val) < 4 →
    ∃ t, exec (.mailboxTimeout m) s = .next t ∧ bit (t.get (TMO_PEND_TMO (s.get (MBX_STAT_SENDER m.val)))) m.val = true) ∧
  (∀ (c : Fin 4) (mie : Nat) (p : Nat × Nat) (s : State), Sound s → s.get (CORE_STAT_STATE c.val) = coreRun →
    (s.cluster.lockFaults.find? (fun p => p.1 == c.val) = some p) →
    ∃ t, exec (.coreInterrupt c mie) s = .next t ∧
      t.cluster = { s.cluster with lockFaults := s.cluster.lockFaults.erase p, mcause := spSet c.val 24 s.cluster.mcause, mtval := spSet c.val p.2 s.cluster.mtval } ∧
      Narrow [.cluster] [] s t) ∧
  (∀ (c : Fin 4) (mie : Nat) (k : Nat) (s : State), Sound s → s.get (CORE_STAT_STATE c.val) = coreRun →
    (s.cluster.lockFaults.all (fun p => p.1 != c.val) = true) → ((coreIrqs c.val s).find? (fun n => bit mie n) = some k) →
    ∃ t, exec (.coreInterrupt c mie) s = .next t ∧
      (t.cluster = { s.cluster with mcause := spSet c.val (2 ^ 63 + k) s.cluster.mcause, mtval := spSet c.val 0 s.cluster.mtval, tickIrq := if k = 18 then s.cluster.tickIrq.erase c.val else s.cluster.tickIrq }) ∧
      Narrow [.cluster] [] s t) ∧
  (∀ (a : Agent) (k : Fin 64) (lease : Nat) (s : State), Sound s → lease % 65536 ≠ 0 → s.get (LOCK_STAT_HELD k.val) = 0 →
    ∃ t, exec (.lockAcquire a k lease) s = .next t ∧ t.resp.status = .done ∧ t.get (LOCK_STAT_HELD k.val) = 1 ∧
      t.get (LOCK_STAT_OWNER k.val) = a.init.val ∧ t.get (LOCK_STAT_OEPOCH k.val) = s.get (EPOCH_EPOCH a.init.val) ∧
      t.get (LOCK_STAT_LEFT k.val) = lease % 65536 ∧
      Narrow [.resp] [LOCK_STAT_HELD k.val, LOCK_STAT_OWNER k.val, LOCK_STAT_OEPOCH k.val, LOCK_STAT_LEFT k.val] s t) ∧
  (∀ (a : Agent) (k : Fin 64) (lease : Nat) (s : State), Sound s → lease % 65536 ≠ 0 → lockOwned k.val a.init.val s = true →
    ∃ t, exec (.lockAcquire a k lease) s = .next t ∧ t.resp.status = .done ∧ t.get (LOCK_STAT_LEFT k.val) = lease % 65536 ∧
      Narrow [.resp] [LOCK_STAT_LEFT k.val] s t) ∧
  (∀ (a : Agent) (k : Fin 64) (lease : Nat) (s : State), Sound s → lease % 65536 ≠ 0 → s.get (LOCK_STAT_HELD k.val) = 1 →
    lockOwned k.val a.init.val s = false →
    ∃ t, exec (.lockAcquire a k lease) s = .next t ∧ t.resp.status = .retry ∧ Narrow [.resp] [] s t) ∧
  (∀ (a : Agent) (k : Fin 64) (lease : Nat) (s : State), Sound s → lease % 65536 = 0 →
    ∃ t, exec (.lockAcquire a k lease) s = .next t ∧ t.resp.status = .range ∧ Narrow [.resp] [] s t) ∧
  (∀ (a : Agent) (k : Fin 64) (s : State), Sound s → lockOwned k.val a.init.val s = true →
    ∃ t, exec (.lockRelease a k) s = .next t ∧ t.resp.status = .done ∧ t.get (LOCK_STAT_HELD k.val) = 0 ∧
      t.get (LOCK_STAT_BROKEN k.val) = 0 ∧
      Narrow [.resp] [LOCK_STAT_HELD k.val, LOCK_STAT_BROKEN k.val, LOCK_STAT_LEFT k.val] s t) ∧
  (∀ (a : Agent) (k : Fin 64) (s : State), Sound s → lockOwned k.val a.init.val s = false →
    ∃ t, exec (.lockRelease a k) s = .next t ∧ t.resp.status = .denied ∧ Narrow [.resp] [] s t) ∧
  (∀ (k : Fin 64) (s : State), Sound s → s.get (LOCK_STAT_HELD k.val) = 1 → s.get (LOCK_STAT_LEFT k.val) = 0 →
    leaseStands k.val s = false →
    ∃ t, exec (.leaseExpiry k) s = .next t ∧ t.get (LOCK_STAT_HELD k.val) = 0 ∧ t.get (LOCK_STAT_BROKEN k.val) = 1 ∧
      (t.cluster.lockFaults = s.cluster.lockFaults ++ (if s.get (LOCK_STAT_OWNER k.val) < 4 then [(s.get (LOCK_STAT_OWNER k.val), k.val)] else [])) ∧
      Raises 0x1002 s t ∧ Frame [.events, .trace, .cluster] [.locks] s t) ∧
  (∀ (a : Agent) (c : Fin 4) (key : Nat) (s : State), Sound s → wdWriter a c.val = true →
    ∃ t, exec (.wdKick a c key) s = .next t ∧ t.resp.status = .done ∧
      (t.get (CORE_STAT_WD_LEFT c.val) = if key % 256 = 0xA5 ∧ s.get (WD_CTL_EN c.val) = 1 then s.get (WD_CTL_PERIOD c.val) else s.get (CORE_STAT_WD_LEFT c.val)) ∧
      Narrow [.resp] [CORE_STAT_WD_LEFT c.val] s t) ∧
  (∀ (c : Fin 4) (s : State), Sound s → wdCounts c.val s = true →
    s.get (CORE_STAT_WD_LEFT c.val) ≤ s.get FRM_STAT_PERIOD_ACT / 1000 + 1 → 2 ≤ c.val → coreHasFirmware c.val s = true →
    s.get (DBG_RUN_RHALT c.val) = 0 →
    ∃ t, exec (.watchdogExpiry c) s = .next t ∧ t.get (CORE_STAT_STATE c.val) = coreRun ∧ t.get (WD_CTL_EN c.val) = 0 ∧
      t.get (CORE_STAT_WD_LEFT c.val) = 0 ∧ t.get (EPOCH_EPOCH c.val) = (s.get (EPOCH_EPOCH c.val) + 1) % 256 ∧
      t.pending = s.pending) ∧
  (∀ (c : Fin 4) (s : State), Sound s → wdCounts c.val s = true →
    s.get (CORE_STAT_WD_LEFT c.val) ≤ s.get FRM_STAT_PERIOD_ACT / 1000 + 1 → c.val < 2 → almPrograms s = false →
    ∃ t, exec (.watchdogExpiry c) s = .next t ∧ t.get RST_CAUSE_KIND = 1 ∧ t.get RST_CAUSE_SOURCE = 4 ∧
      t.get FRM_COUNT_COUNT = 0 ∧ t.get BOOT_STAT_STAGE = 3 ∧
      t.pending = s.pending ∧ t.flash = s.flash ∧ t.sec.editions = s.sec.editions ∧ t.sec.ledger = s.sec.ledger) ∧
  (∀ (a : Agent) (u : Fin 8) (value : Nat) (s : State), Sound s →
    let p := (CRC_CFG_POLY u.val).of value
    let seed := s.get (CRC_SEED_SEED u.val) % 2 ^ polyWidth p
    ∃ t, exec (.crcConfig a u value) s = .next t ∧ t.resp.status = .done ∧ t.get (CRC_CFG_POLY u.val) = p ∧
      (t.cluster.crc = spSetD 0xFFFFFFFF u.val (if (CRC_CFG_SEED_EN u.val).of value = 1 then (if polyRefl p then reverseBits 32 seed else seed) else polyInit p) s.cluster.crc) ∧
      (t.cluster.foldDue = s.cluster.foldDue.erase u.val ++ (if (CRC_CFG_FOLD u.val).of value = 1 then [u.val] else [])) ∧
      Frame [.resp, .cluster] [.crcUnits] s t) ∧
  (∀ (a : Agent) (u : Fin 8) (value : Nat) (s : State), Sound s → u.val ∈ s.cluster.foldDue →
    let p := s.get (CRC_CFG_POLY u.val)
    ∃ t, exec (.crcFold a u value) s = .next t ∧ t.resp.status = .done ∧
      t.cluster.crc = spSetD 0xFFFFFFFF u.val (crcFeed (polyWidth p) (polyValue p) (polyRefl p) (crcReg u.val s) (toBytes 4 value)) s.cluster.crc ∧
      t.cluster.foldDue = s.cluster.foldDue.erase u.val ∧ Narrow [.resp, .cluster] [] s t) ∧
  (∀ (a : Agent) (u : Fin 8) (width : FeedWidth) (value : Nat) (s : State), Sound s → u.val ∉ s.cluster.foldDue →
    let p := s.get (CRC_CFG_POLY u.val)
    ∃ t, exec (.crcFeed a u width value) s = .next t ∧ t.resp.status = .done ∧
      (t.cluster.crc = spSetD 0xFFFFFFFF u.val (crcFeed (polyWidth p) (polyValue p) (polyRefl p) (crcReg u.val s) (toBytes (match width with | .byte => 1 | .half => 2 | .word => 4) value)) s.cluster.crc) ∧
      Narrow [.resp, .cluster] [] s t) ∧
  (∀ (a : Agent) (u : Fin 8) (width : FeedWidth) (value : Nat) (s : State), Sound s → u.val ∈ s.cluster.foldDue →
    ∃ t, exec (.crcFeed a u width value) s = .next t ∧ t.resp.status = .range ∧ Narrow [.resp] [] s t) ∧
  (∀ (a : Agent) (u : Fin 8) (s : State), Sound s →
    let p := s.get (CRC_CFG_POLY u.val)
    let r := crcReg u.val s % 2 ^ polyWidth p
    ∃ t, exec (.crcResultRead a u) s = .next t ∧
      (t.resp = ⟨.done, if p < 2 then Nat.xor (reverseBits 32 r) 0xFFFFFFFF else r, []⟩) ∧ Narrow [.resp] [] s t)

/-- Completion of challenges, sign-in through the object dictionary and the end of a sign-in lock, in the cases listed. In every
sound state in which firmware serves the mailbox and no other request waits, for an open session: a challenge is drawn afresh,
kept for the session and returned; an operator password of 8 to 64 bytes, the role not locked, the part in FIELD with an
edition, signs the session in with DONE and clears its count exactly when the salted hash is the edition's and not zero, else it
is DENIED, the role stays, and the refusal counts unless it follows a lock; a key response of legal form and length to a
challenge, its role not locked and allowed in the lifecycle state, signs the session in exactly when its key is one of the
role's and its signature holds, else it is DENIED, and uses the challenge up either way (a session signed in as installer or
maker needs the audit ring for these writes); the end of a lock takes the role from those locked. Frames are stated. (R461,
R462, R463, R490, R491, R492.) -/
def Obligations.SignInCommandsComplete : Prop :=
  (∀ (addr : Nat) (c : Nat) (s : State), Sound s → mailboxOpen s = true ∧ fieldServed s = true ∧ s.field.sdo = [] →
    sessionOf (addr % 65536) s = some c →
    ∃ t, exec (.challenge addr) s = .next t ∧ t.resp.status = .done ∧
      t.resp.bytes = toBytes 64 (Config.random s.enc.draws % 2 ^ 512) ∧
      spGet c t.sec.chal = Config.random s.enc.draws % 2 ^ 512 + 1 ∧ t.enc = { s.enc with draws := s.enc.draws + 1 } ∧
      Narrow [.resp, .sec, .enc] [] s t) ∧
  (∀ (addr : Nat) (password : List Byte) (c e : Nat) (s : State), Sound s →
    mailboxOpen s = true ∧ fieldServed s = true ∧ s.field.sdo = [] → sessionOf (addr % 65536) s = some c →
    s.get (FI_SESS_ROLE c) < 2 ∨ (domOn 93 s = true ∧ audBusy s = false) → 8 ≤ password.length ∧ password.length ≤ 64 →
    1 ∉ s.sec.locked → lcState s = lcField → selectedEd s = some e →
    let good := edField e 912 64 s ≠ 0 ∧ Config.sha3 (edBytes e 880 32 s ++ password) % 2 ^ 512 = edField e 912 64 s
    ∃ t, exec (.operatorSignIn addr password) s = .next t ∧ (t.resp.status = if good then .done else .denied) ∧
      (t.get (FI_SESS_ROLE c) = if good then 1 else s.get (FI_SESS_ROLE c)) ∧
      (spGet 1 t.sec.fails = if good then 0 else if spGet 1 s.sec.lockLen = 0 then spGet 1 s.sec.fails + 1 else spGet 1 s.sec.fails) ∧
      Frame [.resp, .events, .trace, .sec, .cluster] [.sessions, .audit] s t) ∧
  (∀ (addr : Nat) (response : List Byte) (c : Nat) (s : State), Sound s →
    mailboxOpen s = true ∧ fieldServed s = true ∧ s.field.sdo = [] → sessionOf (addr % 65536) s = some c →
    s.get (FI_SESS_ROLE c) < 2 ∨ (domOn 93 s = true ∧ audBusy s = false) → response.length = 7220 →
    ofBytes (response.take 1) = 2 ∨ ofBytes (response.take 1) = 3 → ofBytes (response.take 1) ∉ s.sec.locked →
    roleMay (roleOf (ofBytes (response.take 1))) s = true → spGet c s.sec.chal ≠ 0 →
    let r := ofBytes (response.take 1)
    let good := Config.sha3 (slice 1 2592 response) % 2 ^ 512 ∈ roleKeys (roleOf r) s ∧ Config.mlDsaVerify (slice 1 2592 response) (authMessage r (spGet c s.sec.chal - 1)) (slice 2593 4627 response) = true
    ∃ t, exec (.keySignIn addr response) s = .next t ∧ (t.resp.status = if good then .done else .denied) ∧
      (t.get (FI_SESS_ROLE c) = if good then r else s.get (FI_SESS_ROLE c)) ∧ t.sec.chal = spDel c s.sec.chal ∧
      Frame [.resp, .events, .trace, .sec, .cluster] [.sessions, .audit] s t) ∧
  (∀ (role : Role) (s : State), Sound s →
    ∃ t, exec (.signInLockEnd role) s = .next t ∧
      (t.sec = { s.sec with locked := s.sec.locked.filter (fun x => x != role.code) }) ∧ Narrow [.sec] [] s t)

/-- Completion of the commands of the lifecycle, the Almanac and its ledger, attestation, audit and tamper, in the cases listed.
In every sound state: an allowed lifecycle transition, with no Almanac operation and room at the Sluice, is accepted, through
the object with its answer to come; programmed it sets the next bit, or SCRAPPED's, ends consent, destroys every encryption key
(no rekey waiting) and makes a WARM reset due; consent written by the installer's session is set and audited; a watched tamper
source sets its bit, counts a tamper bit up to 32, destroys the keys (no rekey waiting), ends an open session of installer or
maker, with event 0x1103; an edition of 4,096 bytes is staged at offset 0 of bank 14 by control core 0 or 1 or, audited, by an
installer's or maker's session; a commit by core 0 or 1 that passes its checks is accepted, one that fails gives CHECK with
RANGE; programming an edition or a ledger record uses one place up, holds it where good and marks it bad where not; a ledger
record of a legal TYPE is accepted from core 0 or 1; an attestation is accepted from a session, its answer to come, and from
core 0 or 1, and signed its report stands with event 0x1108 and, for a session, the answer DONE; AUDIT_APPEND by core 0 or 1, no
entry forming and no RESTART due, adds the body to the hash chain under the next SEQ. Frames are stated. (R466, R467, R468,
R469, R470, R473, R474, R476, R478, R480, R481.) -/
def Obligations.SecurityCommandsComplete : Prop :=
  (∀ (a : Agent) (target : Nat) (s : State), Sound s → a.core01 = true → s.sec.alm = none → s.get ALM_CTL_SRC % 64 = 0 →
    lcAllowed a.role.code (target % 8) s = true → sluRoom clsAlmanac 30 s = true →
    ∃ t, exec (.lifecycleTransition a target) s = .next t ∧ t.resp.status = .done ∧ t.get ALM_CTL_GO = 1 ∧
      t.get ALM_STAT_BUSY = 1 ∧ (t.sec.alm.map (fun o => (o.kind, o.target, o.begun)) = some (2, target % 8, false)) ∧
      Frame [.resp, .events, .trace, .power, .profile, .cluster, .sec] [.sluice, .sluiceEntries, .almanac, .audit] s t) ∧
  (∀ (a : Agent) (target : Nat) (s : State), Sound s → a.init = 49 ∧ a.im = true → domOn 93 s = true → s.sec.alm = none →
    lcAllowed a.role.code target s = true → sluRoom clsAlmanac 30 s = true →
    ∃ t, exec (.lifecycleTransition a target) s = .next t ∧ t.resp = s.resp ∧ t.get ALM_STAT_BUSY = 1 ∧
      (t.sec.alm.map (fun o => (o.kind, o.target, o.begun)) = some (2, target, false)) ∧
      Frame [.resp, .events, .trace, .power, .profile, .cluster, .sec] [.sluice, .sluiceEntries, .almanac, .audit] s t) ∧
  (∀ (o : AlmOp) (s : State), Sound s → s.sec.alm = some o → o.kind = 2 ∧ o.begun = true →
    ∃ t, exec .lifecycleProgrammed s = .next t ∧
      (t.sec.lc = if o.target = lcScrapped then putBit s.sec.lc 15 true else putBit s.sec.lc (lcCount s) true) ∧
      t.sec.secretGone = (s.sec.secretGone || o.target == lcScrapped) ∧ t.sec.consent = false ∧ t.sec.alm = none ∧
      t.get ALM_STAT_BUSY = 0 ∧ t.get ALM_STAT_RESULT = 0 ∧
      ((List.range 8).all (fun r => s.get (ENC_REG_CTL_PEND r) == 0) = true → t.enc.ids = [] ∧ t.enc.dataKey = []) ∧
      t.boot.warmDue = some (Config.lifecycleSource % 16) ∧
      Frame [.resp, .events, .trace, .power, .jets, .enc, .cluster, .sec, .boot] [.sluiceEntries, .domains, .jetBanks,
        .jetChannels, .encRegions, .securityStat, .tamper, .almanac, .audit] s t) ∧
  (∀ (a : Agent) (value : Nat) (s : State), Sound s → a.init = 49 ∧ a.role = .installer → value = 1 →
    domOn 93 s = true ∧ audBusy s = false →
    ∃ t, exec (.rmaConsent a value) s = .next t ∧ t.resp.status = .done ∧ t.sec.consent = true ∧
      (t.get AUD_SEQ_SEQ = (s.get AUD_SEQ_SEQ + 1 + if s.sec.restart.isSome then 1 else 0) % 2 ^ 64) ∧
      Frame [.resp, .cluster, .sec] [.audit] s t) ∧
  (∀ (src : Fin 3) (s : State), Sound s → s.power.vin ≠ .off → lcState s ≠ lcBlank →
    bit (s.get SEC_TAMPER_SOURCE) src.val = false →
    ∃ t, exec (.tamperIndication src) s = .next t ∧ bit (t.get SEC_TAMPER_SOURCE) src.val = true ∧
      t.sec.tamperBits = min 32 (s.sec.tamperBits + 1) ∧
      ((List.range 8).all (fun r => s.get (ENC_REG_CTL_PEND r) == 0) = true → t.enc.ids = [] ∧ t.enc.dataKey = [] ∧ t.enc.treeKey = []) ∧
      Raises 0x1103 s t ∧
      Frame [.resp, .events, .trace, .power, .jets, .enc, .sc, .cluster, .sec, .leap] [.sluiceEntries, .domains, .jetBanks,
        .jetChannels, .encRegions, .cores, .securityStat, .tamper, .almanac, .audit, .attestation, .sessions, .debugCtl,
        .debugRun] s t) ∧
  (∀ (src : Fin 3) (k : Fin 8) (s : State), Sound s → s.power.vin ≠ .off → lcState s ≠ lcBlank →
    bit (s.get SEC_TAMPER_SOURCE) src.val = false → 2 ≤ s.get (FI_SESS_ROLE k.val) ∧ s.get (FI_SESS_OPEN k.val) = 1 →
    ∃ t, exec (.tamperIndication src) s = .next t ∧ t.get (FI_SESS_OPEN k.val) = 0 ∧ t.get (FI_SESS_ROLE k.val) = 0) ∧
  (∀ (a : Agent) (bytes : List Byte) (s : State), Sound s → a.core01 = true → domOn 93 s = true → bytes.length = 4096 →
    ∃ t, exec (.editionStage a bytes) s = .next t ∧ t.resp.status = .done ∧
      (∀ i : Fin 512, spWord 14 i.val t = ofBytes (slice (8 * i.val) 8 bytes)) ∧ Narrow [.resp, .cluster] [] s t) ∧
  (∀ (a : Agent) (bytes : List Byte) (s : State), Sound s → a.init = 49 ∧ a.im = true → domOn 93 s = true ∧ audBusy s = false →
    bytes.length = 4096 →
    ∃ t, exec (.editionStage a bytes) s = .next t ∧ t.resp.status = .done ∧
      (∀ i : Fin 512, spWord 14 i.val t = ofBytes (slice (8 * i.val) 8 bytes)) ∧ Frame [.resp, .cluster, .sec] [.audit] s t) ∧
  (∀ (a : Agent) (value : Nat) (b : List Byte) (s : State), Sound s → a.core01 = true → s.sec.alm = none →
    ALM_CTL_OP.of value = 0 ∧ ALM_CTL_GO.of value = 1 → ALM_CTL_SRC.of value % 64 = 0 ∧ ALM_CTL_SRC.of value + 4096 ≤ 524288 →
    domOn 93 s = true → bank14Read (ALM_CTL_SRC.of value) 4096 s = some b → edCheck a.role.code b s = 0 →
    sluRoom clsAlmanac 30 s = true →
    ∃ t, exec (.editionCommit a value) s = .next t ∧ t.resp.status = .done ∧ t.get ALM_STAT_BUSY = 1 ∧
      (t.sec.alm.map (fun o => (o.kind, o.data, o.begun)) = some (0, b, false)) ∧
      Frame [.resp, .events, .trace, .power, .profile, .cluster, .sec] [.sluice, .sluiceEntries, .almanac, .audit] s t) ∧
  (∀ (a : Agent) (value : Nat) (b : List Byte) (s : State), Sound s → a.core01 = true → s.sec.alm = none →
    ALM_CTL_OP.of value = 0 ∧ ALM_CTL_GO.of value = 1 → ALM_CTL_SRC.of value % 64 = 0 ∧ ALM_CTL_SRC.of value + 4096 ≤ 524288 →
    domOn 93 s = true → bank14Read (ALM_CTL_SRC.of value) 4096 s = some b → edCheck a.role.code b s ≠ 0 →
    ∃ t, exec (.editionCommit a value) s = .next t ∧ t.resp.status = .range ∧ t.get ALM_STAT_CHECK = edCheck a.role.code b s ∧
      t.sec = s.sec ∧
      Frame [.resp, .events, .trace, .power, .profile, .cluster, .sec] [.sluice, .sluiceEntries, .almanac, .audit] s t) ∧
  (∀ (o : AlmOp) (s : State), Sound s → s.sec.alm = some o → o.kind = 0 ∧ o.begun = true →
    ∃ t, exec (.editionProgrammed true) s = .next t ∧ t.sec.used = s.sec.used + 1 ∧ t.sec.alm = none ∧ t.get ALM_STAT_BUSY = 0 ∧
      t.get ALM_STAT_RESULT = 0 ∧ t.sec.editions = memWrite 0 (4096 * s.sec.used) (edImage o s) s.sec.editions ∧
      t.sec.badEd = s.sec.badEd ∧
      Frame [.resp, .events, .trace, .power, .jets, .cluster, .sec] [.sluiceEntries, .domains, .jetBanks, .jetChannels,
        .securityStat, .tamper, .almanac, .audit] s t) ∧
  (∀ (o : AlmOp) (s : State), Sound s → s.sec.alm = some o → o.kind = 0 ∧ o.begun = true →
    ∃ t, exec (.editionProgrammed false) s = .next t ∧ t.sec.used = s.sec.used + 1 ∧ t.sec.alm = none ∧ t.get ALM_STAT_BUSY = 0 ∧
      t.get ALM_STAT_RESULT = 1 ∧ t.sec.editions = s.sec.editions ∧ t.sec.badEd = s.sec.badEd ++ [s.sec.used] ∧
      Frame [.resp, .events, .trace, .power, .jets, .cluster, .sec] [.sluiceEntries, .domains, .jetBanks, .jetChannels,
        .securityStat, .tamper, .almanac, .audit] s t) ∧
  (∀ (a : Agent) (bytes : List Byte) (s : State), Sound s → a.core01 = true → domOn 93 s = true → bytes.length = 10 →
    1 ≤ stg 0 1 bytes ∧ stg 0 1 bytes ≤ 6 → s.sec.alm = none → s.sec.ledgerUsed < 256 → sluRoom clsAlmanac 30 s = true →
    ∃ t, exec (.ledgerAppend a bytes) s = .next t ∧ t.resp.status = .done ∧ t.get ALM_STAT_BUSY = 1 ∧
      (t.sec.alm.map (fun o => (o.kind, o.data.take 8, o.begun)) = some (1, bytes.take 8, false)) ∧
      Frame [.resp, .events, .trace, .power, .profile, .cluster, .sec] [.sluice, .sluiceEntries, .almanac, .audit] s t) ∧
  (∀ (o : AlmOp) (s : State), Sound s → s.sec.alm = some o → o.kind = 1 ∧ o.begun = true →
    let b := o.data ++ toBytes 4 (frameCount s)
    ∃ t, exec (.ledgerProgrammed true) s = .next t ∧ t.sec.ledgerUsed = s.sec.ledgerUsed + 1 ∧ t.sec.alm = none ∧
      t.get ALM_STAT_BUSY = 0 ∧ t.get ALM_STAT_RESULT = 0 ∧
      t.sec.ledger = memWrite 0 (16 * s.sec.ledgerUsed) (b ++ toBytes 2 (ledgerCrc b)) s.sec.ledger ∧
      t.sec.badRec = s.sec.badRec ∧
      Frame [.resp, .events, .trace, .power, .jets, .cluster, .sec] [.sluiceEntries, .domains, .jetBanks, .jetChannels,
        .securityStat, .tamper, .almanac, .audit] s t) ∧
  (∀ (o : AlmOp) (s : State), Sound s → s.sec.alm = some o → o.kind = 1 ∧ o.begun = true →
    ∃ t, exec (.ledgerProgrammed false) s = .next t ∧ t.sec.ledgerUsed = s.sec.ledgerUsed + 1 ∧ t.sec.alm = none ∧
      t.get ALM_STAT_BUSY = 0 ∧ t.get ALM_STAT_RESULT = 1 ∧ t.sec.ledger = s.sec.ledger ∧
      t.sec.badRec = s.sec.badRec ++ [s.sec.ledgerUsed] ∧
      Frame [.resp, .events, .trace, .power, .jets, .cluster, .sec] [.sluiceEntries, .domains, .jetBanks, .jetChannels,
        .securityStat, .tamper, .almanac, .audit] s t) ∧
  (∀ (a : Agent) (nonce : List Byte) (s : State), Sound s → a.init = 49 ∧ a.role ≠ .none → nonce.length = 64 →
    lcState s ≠ lcScrapped → s.get ATT_CTL_GO = 0 → domOn 93 s = true →
    ∃ t, exec (.attestationRequest a nonce) s = .next t ∧ t.get ATT_CTL_GO = 1 ∧
      t.sec = { s.sec with att := some (nonce, true, none) } ∧ Narrow [.sec] [ATT_CTL_GO] s t) ∧
  (∀ (a : Agent) (nonce : List Byte) (s : State), Sound s → a.core01 = true → nonce.length = 64 → lcState s ≠ lcScrapped →
    s.get ATT_CTL_GO = 0 → domOn 93 s = true → s.get ATT_CTL_DST % 64 = 0 ∧ s.get ATT_CTL_DST + 6163 ≤ 524288 →
    ∃ t, exec (.attestationRequest a nonce) s = .next t ∧ t.resp.status = .done ∧ t.get ATT_CTL_GO = 1 ∧ t.sec.att.isSome = true ∧
      Frame [.resp, .cluster, .sec] [.attestation] s t) ∧
  (∀ (n : List Byte) (v : Bool) (q : Option Nat) (s : State), Sound s → s.sec.att = some (n, v, q) → domOn 93 s = true →
    ∃ t, exec .attestationSigned s = .next t ∧ t.get ATT_CTL_GO = 0 ∧ t.get ATT_CTL_RESULT = 0 ∧ t.sec.att = none ∧
      t.sec.report = report n s ∧ Raises 0x1108 s t ∧ Frame [.resp, .events, .trace, .cluster, .sec] [.attestation] s t) ∧
  (∀ (n : List Byte) (q : Option Nat) (s : State), Sound s → s.sec.att = some (n, true, q) → domOn 93 s = true →
    ∃ t, exec .attestationSigned s = .next t ∧ t.resp.status = .done) ∧
  (∀ (a : Agent) (s : State), Sound s → a.core01 = true → audBusy s = false → s.sec.restart = none →
    let b := audBody ((List.range 8).flatMap (fun k => toBytes 8 (s.get (AUD_BODY_BYTES k)))) s
    ∃ t, exec (.auditAppend a) s = .next t ∧ t.resp.status = .done ∧ t.get AUD_SEQ_SEQ = (s.get AUD_SEQ_SEQ + 1) % 2 ^ 64 ∧
      (∀ k : Fin 8, t.get (AUD_HEAD_BYTES k.val) = ofBytes (slice (8 * k.val) 8 (audHash (audHead s) b))) ∧
      Frame [.resp, .cluster, .sec] [.audit] s t)

/-- Completion of the commands of EtherCAT states, sessions, SDO requests and process data, in the cases listed. In every sound
state: a port's link is shown, up only once the oscillator has started; an AL request that need not wait and that the checks
accept enters its state, one refused keeps the state and sets the error and its code with event 0x1204, OP needing an SM2 image
since SAFE-OP and PRE-OP the mailbox; one for PRE-OP before ready waits; an expired SyncManager watchdog in OP goes to SAFE-OP
with event 0x1206; an SDO request of an open session waits while no firmware serves, is answered RETRY with 16 waiting, and,
served alone, is answered by the object's read, refused with its abort code, DENIED without the write right, or answered by the
object's write where that answers at once; sign-out and idle end the session with event 0x1202; restore defaults by a session of
installer or maker forgets the saved values; an SM2 image of the mapped length is held; in a slot of duty 0 the inputs are
published, and from slot 32 on an image of one entry is taken and its entry, changed and with the right, applied as a write of
its object. Frames are stated. (R487, R490, R491, R492, R493, R494, R496, R500, R501, R503.) -/
def Obligations.FieldCommandsComplete : Prop :=
  (∀ (port : Fin 2) (up : Bool) (s : State), Sound s →
    ∃ t, exec (.ecatPortLink port up) s = .next t ∧
      (t.get FI_STAT_LINK0 = if port.val = 0 then (if up && oscillatorStarted s then 1 else 0) else s.get FI_STAT_LINK0) ∧
      (t.get FI_STAT_LINK1 = if port.val = 0 then s.get FI_STAT_LINK1 else (if up && oscillatorStarted s then 1 else 0)) ∧
      Narrow [] [FI_STAT_LINK0, FI_STAT_LINK1] s t) ∧
  (∀ (target : Nat) (mbxOk sync0Ok : Bool) (s : State), Sound s →
    target ≠ 2 ∨ s.get FI_STAT_AL_STATE ≠ 1 ∨ s.get BOOT_STAT_READY = 1 → target ≠ s.get FI_STAT_AL_STATE →
    alCheck target mbxOk sync0Ok s = 0 →
    ∃ t, exec (.alStateRequest target mbxOk sync0Ok) s = .next t ∧ t.get FI_STAT_AL_STATE = target ∧ t.get FI_STAT_AL_ERR = 0 ∧
      Frame [.events, .trace, .sec, .field] [.fieldStat, .sessions] s t) ∧
  (∀ (target : Nat) (mbxOk sync0Ok : Bool) (s : State), Sound s →
    target ≠ 2 ∨ s.get FI_STAT_AL_STATE ≠ 1 ∨ s.get BOOT_STAT_READY = 1 → alCheck target mbxOk sync0Ok s ≠ 0 →
    ∃ t, exec (.alStateRequest target mbxOk sync0Ok) s = .next t ∧ t.get FI_STAT_AL_STATE = s.get FI_STAT_AL_STATE ∧
      t.get FI_STAT_AL_ERR = 1 ∧ t.get FI_STAT_AL_CODE = alCheck target mbxOk sync0Ok s ∧ Raises 0x1204 s t ∧
      Narrow [.field, .events, .trace] [FI_STAT_AL_ERR, FI_STAT_AL_CODE] s t) ∧
  (∀ (mbxOk sync0Ok : Bool) (s : State), Sound s → s.get FI_STAT_AL_STATE = 4 →
    ∃ t, exec (.alStateRequest 8 mbxOk sync0Ok) s = .next t ∧ (t.get FI_STAT_AL_STATE = if s.field.sm2Seen then 8 else 4)) ∧
  (∀ (mbxOk sync0Ok : Bool) (s : State), Sound s → s.get FI_STAT_AL_STATE = 1 → s.get BOOT_STAT_READY = 1 →
    ∃ t, exec (.alStateRequest 2 mbxOk sync0Ok) s = .next t ∧ (t.get FI_STAT_AL_STATE = if mbxOk then 2 else 1)) ∧
  (∀ (mbxOk sync0Ok : Bool) (s : State), Sound s → s.get FI_STAT_AL_STATE = 1 → s.get BOOT_STAT_READY = 0 →
    ∃ t, exec (.alStateRequest 2 mbxOk sync0Ok) s = .next t ∧ t.field = { s.field with alPend := some (2, mbxOk, sync0Ok) } ∧
      Narrow [.field] [] s t) ∧
  (∀ (s : State), Sound s → s.get FI_STAT_AL_STATE = 8 →
    ∃ t, exec .smWatchdogExpiry s = .next t ∧ t.get FI_STAT_AL_STATE = 4 ∧ t.get FI_STAT_AL_CODE = 0x001B ∧
      t.field.sm2Seen = false ∧ Raises 0x1206 s t ∧ Frame [.events, .trace, .sec, .field] [.fieldStat, .sessions] s t) ∧
  (∀ (addr : Nat) (req : Sdo) (flashOk : Bool) (c : Nat) (s : State), Sound s → mailboxOpen s = true → fieldServed s = false →
    sessionOf (addr % 65536) s = some c → sdoHeld s < 16 →
    ∃ t, exec (.sdoRequest addr req flashOk) s = .next t ∧
      t.field = { s.field with sdo := s.field.sdo ++ [⟨addr % 65536, req, flashOk⟩] } ∧ Narrow [.field] [] s t) ∧
  (∀ (addr : Nat) (req : Sdo) (flashOk : Bool) (c : Nat) (s : State), Sound s → mailboxOpen s = true →
    sessionOf (addr % 65536) s = some c → 16 ≤ sdoHeld s →
    ∃ t, exec (.sdoRequest addr req flashOk) s = .next t ∧ t.resp.status = .retry ∧
      t.get FI_SDO_RETRIED = min (s.get FI_SDO_RETRIED + 1) 65535 ∧ t.field = s.field ∧ Raises 0x1203 s t ∧
      Narrow [.resp, .sec, .events, .trace] [FI_SDO_RETRIED] s t) ∧
  (∀ (addr idx sub : Nat) (flashOk : Bool) (c k m : Nat) (d : ObjDesc) (s : State), Sound s →
    mailboxOpen s = true ∧ fieldServed s = true ∧ s.field.sdo = [] → sessionOf (addr % 65536) s = some c →
    sdoFind idx sub = .obj d k m → mayRead (roleOf (s.get (FI_SESS_ROLE c))) d idx sub = true →
    ∃ t, exec (.sdoRequest addr (.upload idx sub) flashOk) s = .next t ∧
      t.resp.status = (objRead d k m (256 * idx + sub) (some c) s).1 ∧
      (t.resp.bytes = if (objRead d k m (256 * idx + sub) (some c) s).1 = .done then (objRead d k m (256 * idx + sub) (some c) s).2.1 else []) ∧
      t.field = (objRead d k m (256 * idx + sub) (some c) s).2.2.field ∧
      t.regs = (objRead d k m (256 * idx + sub) (some c) s).2.2.regs) ∧
  (∀ (addr idx sub : Nat) (flashOk : Bool) (c x : Nat) (s : State), Sound s →
    mailboxOpen s = true ∧ fieldServed s = true ∧ s.field.sdo = [] → sessionOf (addr % 65536) s = some c →
    sdoFind idx sub = .refuse x →
    ∃ t, exec (.sdoRequest addr (.upload idx sub) flashOk) s = .next t ∧ t.resp = ⟨.range, x, []⟩ ∧ Narrow [.resp, .sec] [] s t) ∧
  (∀ (addr idx sub : Nat) (b : List Byte) (flashOk : Bool) (c k m : Nat) (d : ObjDesc) (s : State), Sound s →
    mailboxOpen s = true ∧ fieldServed s = true ∧ s.field.sdo = [] → sessionOf (addr % 65536) s = some c →
    sdoFind idx sub = .obj d k m → d.acc.writable = true → mayWrite (roleOf (s.get (FI_SESS_ROLE c))) d idx sub = false →
    ∃ t, exec (.sdoRequest addr (.download idx sub b) flashOk) s = .next t ∧ t.resp.status = .denied ∧
      Frame [.resp, .sec, .cluster] [.audit] s t) ∧
  (∀ (addr idx sub : Nat) (b : List Byte) (flashOk : Bool) (c k m : Nat) (d : ObjDesc) (s : State), Sound s →
    mailboxOpen s = true ∧ fieldServed s = true ∧ s.field.sdo = [] → sessionOf (addr % 65536) s = some c →
    sdoFind idx sub = .obj d k m → isMapping idx = false ∧ isAssign idx = false → d.acc.writable = true →
    mayWrite (roleOf (s.get (FI_SESS_ROLE c))) d idx sub = true → lengthOk d b.length = true → answersLate d = false →
    let x := objWrite (sessAgent c s) (some c) d k m (256 * idx + sub) b flashOk s
    ∃ t, exec (.sdoRequest addr (.download idx sub b) flashOk) s = .next t ∧ t.resp.status = x.1 ∧ t.regs = x.2.regs ∧
      t.field = x.2.field) ∧
  (∀ (addr : Nat) (c : Nat) (s : State), Sound s → mailboxOpen s = true ∧ fieldServed s = true ∧ s.field.sdo = [] →
    sessionOf (addr % 65536) s = some c → s.get (FI_SESS_ROLE c) < 2 ∨ (domOn 93 s = true ∧ audBusy s = false) →
    ∃ t, exec (.signOut addr) s = .next t ∧ t.resp.status = .done ∧ t.get (FI_SESS_OPEN c) = 0 ∧ t.get (FI_SESS_ROLE c) = 0 ∧
      Raises 0x1202 s t ∧ Frame [.resp, .events, .trace, .sec, .cluster] [.sessions, .audit] s t) ∧
  (∀ (addr : Nat) (c : Nat) (s : State), Sound s → sessionOf addr s = some c →
    ∃ t, exec (.sessionIdleTimeout addr) s = .next t ∧ t.get (FI_SESS_OPEN c) = 0 ∧ t.get (FI_SESS_ROLE c) = 0 ∧
      Raises 0x1202 s t ∧ Frame [.events, .trace, .sec] [.sessions] s t) ∧
  (∀ (a : Agent) (value : Nat) (s : State), Sound s → a.init = 49 ∧ a.im = true → value = 0x64616F6C →
    domOn 93 s = true ∧ audBusy s = false →
    ∃ t, exec (.restoreDefaults a value) s = .next t ∧ t.resp.status = .done ∧ t.field = { s.field with saved := [] } ∧
      Frame [.resp, .cluster, .sec, .field] [.audit] s t) ∧
  (∀ (image : List Byte) (s : State), Sound s → s.get FI_STAT_AL_STATE = 4 ∨ s.get FI_STAT_AL_STATE = 8 →
    image.length = ceilDiv (entryBits (assigned 0x1C12 s)) 8 →
    ∃ t, exec (.sm2ImageWrite image) s = .next t ∧ t.field = { s.field with sm2 := some image, sm2Seen := true } ∧
      Narrow [.field] [] s t) ∧
  (∀ (k : Nat) (s : State), Sound s → dutySlot 0 anySlot s = some k → s.clock.processDue = true →
    s.get FI_STAT_AL_STATE = 4 ∨ s.get FI_STAT_AL_STATE = 8 →
    ∃ t, exec .txpdoPublish s = .next t ∧
      t.field = { s.field with tx := txImage { s with clock := { s.clock with slot := k } } } ∧
      t.clock = { s.clock with slot := k, processDue := false } ∧ Narrow [.field, .clock] [] s t) ∧
  (∀ (k_ : Nat) (b : List Byte) (e k m : Nat) (d : ObjDesc) (s : State), Sound s → dutySlot 0 (rxSlot s) s = some k_ →
    s.get FI_STAT_AL_STATE = 8 → s.field.rx = none ∧ s.field.rxTaken = false ∧ s.field.sm2 = some b → assigned 0x1C12 s = [e] →
    e / 65536 ≠ 0 ∧ findObj (e / 65536) (e / 256 % 256) = some (d, k, m) →
    spGet 0 s.field.rxLast ≠ bits (ofBytes b) 0 (e % 256) + 1 → d.acc.writes (roleOf s.field.mapRole) = true →
    let v := bits (ofBytes b) 0 (e % 256)
    let u := { s with clock := { s.clock with slot := k_ }, field := { s.field with rx := some (b, 0), sm2 := none, rxTaken := true, rxLast := spSet 0 (v + 1) s.field.rxLast } }
    let x := objWrite ⟨49, roleOf s.field.mapRole⟩ none d k m (e / 256) (toBytes d.size v) true u
    ∃ t, exec (.rxpdoApply 1) s = .next t ∧ t.resp = s.resp ∧ t.regs = x.2.regs ∧ t.field = { x.2.field with rx := none }) ∧
  (∀ (entries : Nat) (s : State), Sound s → dutySlot 0 (rxSlot s) s = none →
    ∃ t, exec (.rxpdoApply entries) s = .next t ∧ Narrow [] [] s t)

/-- Completion of FoE transfers, in the cases listed. In every sound state in which firmware serves the mailbox and no other
transfer waits, for an open session without a password: a region's flash slot written by an installer or maker is refused with
0x8003 and left erased where the file is too long, holds the file where it passes its checks, else is erased again and 0x800B is
answered; a file whose right the role lacks is refused with 0x8002; an HBM file of one line outside the keyed regions, its pair
serving, is written by installer or maker and read by any role; the event file gives the ring; each with event 0x1207. In the
Bootstrap state the boot ROM writes the maker firmware slots by the same checks. Frames are stated. (R504, R505, R506, R507.) -/
def Obligations.FileAccessCommandsComplete : Prop :=
  (∀ (addr : Nat) (n : Fin 16) (data : List Byte) (flashOk : Bool) (c : Nat) (s : State), Sound s →
    mailboxOpen s = true ∧ fieldServed s = true ∧ s.field.foe = [] → sessionOf (addr % 65536) s = some c →
    s.get (FI_SESS_ROLE c) = 2 ∨ s.get (FI_SESS_ROLE c) = 3 →
    let erased := memErase (regionFlash n.val) (regionFlash n.val + slotSize) s.flash
    let new := memWrite 0xFF (regionFlash n.val) data erased
    let good := verifyImage 1 slotSize flashOk (flashImg (regionFlash n.val) { s with flash := new }) { s with flash := new } = 0
    ∃ t, exec (.foeWrite addr (.region n) 0 data flashOk) s = .next t ∧
      (t.resp.status = if slotSize < data.length then .range else if good then .done else .fault) ∧
      (t.resp.value = if slotSize < data.length then 0x8003 else if good then 0 else 0x800B) ∧
      (t.flash = if slotSize < data.length then erased else if good then new else memErase (regionFlash n.val) ((regionFlash n.val) + slotSize) new) ∧
      Raises 0x1207 s t ∧ Frame [.resp, .events, .trace, .flash] [.loader] s t) ∧
  (∀ (addr : Nat) (file : FoeFile) (data : List Byte) (flashOk : Bool) (c : Nat) (s : State), Sound s →
    mailboxOpen s = true ∧ fieldServed s = true ∧ s.field.foe = [] → sessionOf (addr % 65536) s = some c → file ≠ .other →
    foeRole file true (roleOf (s.get (FI_SESS_ROLE c))) = false →
    ∃ t, exec (.foeWrite addr file 0 data flashOk) s = .next t ∧ t.resp = ⟨.denied, 0x8002, []⟩ ∧ Raises 0x1207 s t ∧
      Narrow [.resp, .events, .trace] [] s t) ∧
  (∀ (addr at_ : Nat) (data : List Byte) (flashOk : Bool) (c : Nat) (s : State), Sound s →
    mailboxOpen s = true ∧ fieldServed s = true ∧ s.field.foe = [] → sessionOf (addr % 65536) s = some c →
    s.get (FI_SESS_ROLE c) = 2 ∨ s.get (FI_SESS_ROLE c) = 3 → at_ % 64 = 0 ∧ at_ + 64 ≤ hbmSize ∧ data.length = 64 →
    (nocReach 49 at_ 1 3 s).1 = none → hbmDenies 49 at_ 64 true = false → pairRefusesAt at_ 1 s = none →
    encRegion at_ s = none ∧ hbmFlipAt (at_ / 64) s = false →
    ∃ t, exec (.foeWrite addr (.hbm at_ 64) 0 data flashOk) s = .next t ∧ t.resp.status = .done ∧
      t.hbm.mem = memWrite 0 at_ data s.hbm.mem ∧ Raises 0x1207 s t) ∧
  (∀ (addr at_ c : Nat) (s : State), Sound s → mailboxOpen s = true ∧ fieldServed s = true ∧ s.field.foe = [] →
    sessionOf (addr % 65536) s = some c → 1 ≤ s.get (FI_SESS_ROLE c) ∧ s.get (FI_SESS_ROLE c) ≤ 3 →
    at_ % 64 = 0 ∧ at_ + 64 ≤ hbmSize → (nocReach 49 at_ 1 1 s).1 = none → hbmDenies 49 at_ 64 false = false →
    pairRefusesAt at_ 1 s = none → encRegion at_ s = none ∧ spGet (at_ / 64) s.hbm.dbl = 0 →
    ∃ t, exec (.foeRead addr (.hbm at_ 64) 0) s = .next t ∧ t.resp = ⟨.done, 0, memRead 0 at_ 64 s.hbm.mem⟩ ∧ Raises 0x1207 s t) ∧
  (∀ (addr c : Nat) (s : State), Sound s → mailboxOpen s = true ∧ fieldServed s = true ∧ s.field.foe = [] →
    sessionOf (addr % 65536) s = some c → 1 ≤ s.get (FI_SESS_ROLE c) ∧ s.get (FI_SESS_ROLE c) ≤ 3 →
    ∃ t, exec (.foeRead addr .events 0) s = .next t ∧ t.resp = ⟨.done, 0, s.events.ring.flatMap recordBytes⟩ ∧ Raises 0x1207 s t ∧
      Narrow [.resp, .events, .trace] [] s t) ∧
  (∀ (slotB : Bool) (password : Nat) (data : List Byte) (flashOk : Bool) (s : State), Sound s → inBoot s = true → password = 0 →
    let base := if slotB then 0x01100000 else 0x00100000
    let erased := memErase base (base + 0x1000000) s.flash
    let new := memWrite 0xFF base data erased
    let good := verifyImage 2 0x1000000 flashOk (flashImg base { s with flash := new }) { s with flash := new } = 0
    ∃ t, exec (.foeBootstrapWrite slotB password data flashOk) s = .next t ∧
      (t.resp.status = if 0x1000000 < data.length then .range else if good then .done else .fault) ∧
      (t.resp.value = if 0x1000000 < data.length then 0x8003 else if good then 0 else 0x800B) ∧
      (t.flash = if 0x1000000 < data.length then erased else if good then new else memErase base (base + 0x1000000) new) ∧
      Raises 0x1207 s t ∧ Narrow [.resp, .events, .trace, .flash] [] s t)

/-- Completion of the commands of debug sign-in, run control and FREEZE_TEST, in the cases listed. In every sound state: from
the debug port while BUSY is 0, a challenge fills the buffer afresh, a password of 8 to 64 bytes or a key starts its check and
BUSY, another length is RANGE, and a sign-out ends a session; a password's check, the role not locked, in FIELD with an edition,
ends with the operator's role and event 0x1303 exactly when the salted hash holds, else with RESULT and CAUSE 4 and the role
kept; sign-out and idle of a session resume every core, with event 0x1304; for a role that may act on the core: a control core
of an ON domain halts with event 0x1301, a signal core of an ON domain halts, at once where it does not run, else at its next
boundary, a core of a domain that is away answers RANGE; a halted core resumes with event 0x1302, a control core with a full
watchdog period; a step leaves it halted, a control core after one more run, a running signal core with one instruction to
execute; a permitted writer's FREEZE_TEST sets the mask and, changed, pause source 1 of every sequencer, with event 0x1306.
Frames are stated. (R518, R520, R521, R523, R524, R525, R528.) -/
def Obligations.DebugCommandsComplete : Prop :=
  (∀ (a : Agent) (s : State), Sound s → a.init = 50 → s.get DBG_AUTH_CTL_BUSY = 0 →
    ∃ t, exec (.debugChallenge a) s = .next t ∧ t.resp.status = .done ∧
      (∀ i : Fin 8, t.get (DBG_AUTH_BUF_WORD i.val) = ofBytes (slice (8 * i.val) 8 (toBytes 64 (Config.random s.enc.draws % 2 ^ 512)))) ∧
      spGet 8 t.sec.chal = Config.random s.enc.draws % 2 ^ 512 + 1 ∧ t.enc.draws = s.enc.draws + 1 ∧
      t.get DBG_AUTH_CTL_RESULT = 0 ∧
      Frame [.resp, .events, .trace, .enc, .sc, .sec, .dbg] [.cores, .debugCtl, .debugRun, .debugBuffer] s t) ∧
  (∀ (a : Agent) (len : Nat) (s : State), Sound s → a.init = 50 → s.get DBG_AUTH_CTL_BUSY = 0 → 8 ≤ len ∧ len ≤ 64 →
    ∃ t, exec (.debugPassword a len) s = .next t ∧ t.resp.status = .done ∧ t.get DBG_AUTH_CTL_BUSY = 1 ∧
      t.get DBG_AUTH_CTL_LEN = len ∧ t.dbg = { s.dbg with auth := some (2, authBuf len s) } ∧
      Narrow [.resp, .dbg] [DBG_AUTH_CTL_LEN, DBG_AUTH_CTL_BUSY] s t) ∧
  (∀ (a : Agent) (len : Nat) (s : State), Sound s → a.init = 50 → s.get DBG_AUTH_CTL_BUSY = 0 → len < 8 ∨ 64 < len →
    ∃ t, exec (.debugPassword a len) s = .next t ∧ t.resp.status = .range ∧ Narrow [.resp] [] s t) ∧
  (∀ (a : Agent) (s : State), Sound s → a.init = 50 → s.get DBG_AUTH_CTL_BUSY = 0 →
    ∃ t, exec (.debugKey a) s = .next t ∧ t.resp.status = .done ∧ t.get DBG_AUTH_CTL_BUSY = 1 ∧
      t.dbg = { s.dbg with auth := some (3, authBuf 7220 s) } ∧ Narrow [.resp, .dbg] [DBG_AUTH_CTL_BUSY] s t) ∧
  (∀ (b : List Byte) (e : Nat) (s : State), Sound s → s.dbg.auth = some (2, b) → 8 ≤ b.length ∧ b.length ≤ 64 → 1 ∉ s.sec.locked →
    lcState s = lcField → selectedEd s = some e →
    let good := edField e 912 64 s ≠ 0 ∧ Config.sha3 (edBytes e 880 32 s ++ b) % 2 ^ 512 = edField e 912 64 s
    ∃ t, exec .debugAuthDone s = .next t ∧ t.dbg = { s.dbg with auth := none } ∧ t.get DBG_AUTH_CTL_BUSY = 0 ∧
      (t.get DBG_AUTH_CTL_RESULT = if good then 0 else 4) ∧
      (t.get DBG_AUTH_CTL_ROLE = if good then 1 else s.get DBG_AUTH_CTL_ROLE) ∧
      (t.get DBG_AUTH_CTL_CAUSE = if good then s.get DBG_AUTH_CTL_CAUSE else 4) ∧
      (if good then Raises 0x1303 s t else Raises 0x1101 s t) ∧ Frame [.events, .trace, .sec, .dbg] [.sessions, .debugCtl] s t) ∧
  (∀ (a : Agent) (s : State), Sound s → a.init = 50 → s.get DBG_AUTH_CTL_BUSY = 0 → s.get DBG_AUTH_CTL_ROLE ≠ 0 →
    ∃ t, exec (.debugSignOut a) s = .next t ∧ t.resp.status = .done ∧ t.get DBG_AUTH_CTL_ROLE = 0 ∧
      t.get DBG_AUTH_CTL_RESULT = 0 ∧ Raises 0x1304 s t ∧ (∀ k : Fin 36, t.get (DBG_RUN_HALTED k.val) = 0) ∧
      Frame [.resp, .events, .trace, .enc, .sc, .sec, .dbg] [.cores, .debugCtl, .debugRun, .debugBuffer] s t) ∧
  (∀ (a : Agent) (s : State), Sound s → a.init = 50 → s.get DBG_AUTH_CTL_BUSY = 0 → s.get DBG_AUTH_CTL_ROLE = 0 →
    ∃ t, exec (.debugSignOut a) s = .next t ∧ t.resp.status = .done ∧ t.get DBG_AUTH_CTL_RESULT = 0 ∧
      Narrow [.resp, .sec] [DBG_AUTH_CTL_RESULT] s t) ∧
  (∀ (s : State), Sound s → s.get DBG_AUTH_CTL_ROLE ≠ 0 →
    ∃ t, exec .debugSessionIdle s = .next t ∧ t.get DBG_AUTH_CTL_ROLE = 0 ∧ t.get DBG_CTL_SIDE = 0 ∧
      t.get DBG_CTL_BREAKLEASE = 0 ∧ (∀ k : Fin 36, t.get (DBG_RUN_HALTED k.val) = 0) ∧ Raises 0x1304 s t ∧
      Frame [.events, .trace, .sc, .sec] [.cores, .debugCtl, .debugRun] s t) ∧
  (∀ (a : Agent) (k : Fin 36) (s : State), Sound s → dapCore a k.val s = true → k.val < 4 → s.get (DBG_RUN_HALTED k.val) = 0 →
    domOn (82 + k.val) s = true →
    ∃ t, exec (.coreHalt a k) s = .next t ∧ t.resp.status = .done ∧ t.get (DBG_RUN_HALTED k.val) = 1 ∧
      t.get (CORE_STAT_STATE k.val) = coreHalt ∧ Raises 0x1301 s t ∧
      Frame [.resp, .events, .trace, .sc, .dbg] [.signalCores, .cores, .debugRun, .coreAccess] s t) ∧
  (∀ (a : Agent) (k : Fin 36) (s : State), Sound s → dapCore a k.val s = true → 4 ≤ k.val → s.get (DBG_RUN_HALTED k.val) = 0 →
    domOn (scDom (k.val - 4) s) s = true →
    ∃ t, exec (.coreHalt a k) s = .next t ∧ t.resp.status = .done ∧
      (t.get (DBG_RUN_HALTED k.val) = 1 ∨ (scCore (k.val - 4) t).haltReq = true) ∧
      Frame [.resp, .events, .trace, .sc, .dbg] [.signalCores, .cores, .debugRun, .coreAccess] s t) ∧
  (∀ (a : Agent) (k : Fin 36) (s : State), Sound s → dapCore a k.val s = true → 4 ≤ k.val → s.get (DBG_RUN_HALTED k.val) = 0 →
    domOn (scDom (k.val - 4) s) s = true → scIdle (k.val - 4) s = true →
    ∃ t, exec (.coreHalt a k) s = .next t ∧ t.resp.status = .done ∧ t.get (DBG_RUN_HALTED k.val) = 1) ∧
  (∀ (a : Agent) (k : Fin 36) (s : State), Sound s → dapCore a k.val s = true → s.get (DBG_RUN_HALTED k.val) = 0 →
    domOn (runDom k.val s) s = false →
    ∃ t, exec (.coreHalt a k) s = .next t ∧ t.resp.status = .range ∧ Narrow [.resp] [] s t) ∧
  (∀ (a : Agent) (k : Fin 36) (s : State), Sound s → dapCore a k.val s = true → s.get (DBG_RUN_HALTED k.val) = 1 →
    ∃ t, exec (.coreResume a k) s = .next t ∧ t.resp.status = .done ∧ t.get (DBG_RUN_HALTED k.val) = 0 ∧ Raises 0x1302 s t ∧
      Narrow [.resp, .events, .trace] [DBG_RUN_HALTED k.val, DBG_RUN_STEPPING k.val, CORE_STAT_STATE k.val, CORE_STAT_WD_LEFT k.val] s t) ∧
  (∀ (a : Agent) (k : Fin 36) (s : State), Sound s → dapCore a k.val s = true → s.get (DBG_RUN_HALTED k.val) = 1 → k.val < 4 →
    ∃ t, exec (.coreResume a k) s = .next t ∧ t.resp.status = .done ∧ t.get (CORE_STAT_STATE k.val) = coreRun ∧
      (t.get (CORE_STAT_WD_LEFT k.val) = if s.get (WD_CTL_EN k.val) = 1 then s.get (WD_CTL_PERIOD k.val) else s.get (CORE_STAT_WD_LEFT k.val))) ∧
  (∀ (a : Agent) (k : Fin 36) (s : State), Sound s → dapCore a k.val s = true → s.get (DBG_RUN_HALTED k.val) = 1 → k.val < 4 →
    ∃ t, exec (.coreStep a k) s = .next t ∧ t.resp.status = .done ∧ t.get (DBG_RUN_HALTED k.val) = 1 ∧
      spGet k.val t.dbg.runs = spGet k.val s.dbg.runs + 1 ∧
      Frame [.resp, .events, .trace, .sc, .dbg] [.signalCores, .cores, .debugRun, .coreAccess] s t) ∧
  (∀ (a : Agent) (k : Fin 36) (s : State), Sound s → dapCore a k.val s = true → s.get (DBG_RUN_HALTED k.val) = 1 → 4 ≤ k.val →
    ∃ t, exec (.coreStep a k) s = .next t ∧ t.resp.status = .done ∧
      (t.get (DBG_RUN_STEPPING k.val) = if scState (k.val - 4) s = scRunning then 1 else s.get (DBG_RUN_STEPPING k.val)) ∧
      Narrow [.resp] [DBG_RUN_STEPPING k.val] s t) ∧
  (∀ (a : Agent) (mask : Nat) (s : State), Sound s → dapIM a s = true ∨ a.core01 = true ∨ a.fieldIM = true → mask < 65536 →
    ∃ t, exec (.freezeTest a mask) s = .next t ∧ t.resp.status = .done ∧ t.get DBG_FREEZE_MASK = mask ∧
      Frame [.resp, .events, .trace, .seqs] [.sequencers, .debugFreeze] s t) ∧
  (∀ (a : Agent) (mask : Nat) (s : State), Sound s → dapIM a s = true ∨ a.core01 = true ∨ a.fieldIM = true → mask < 65536 →
    mask ≠ s.get DBG_FREEZE_MASK →
    ∃ t, exec (.freezeTest a mask) s = .next t ∧ t.resp.status = .done ∧
      (∀ q : Fin 16, bit (t.get (SEQ_STAT_PAUSE_SRC q.val)) 1 = bit mask q.val) ∧ Raises 0x1306 s t)

/-- Completion of the commands of trace, in the cases listed. In every sound state: an enable by a permitted writer, with domain
95 OFF in QUIET, sets the trace control with a SYNC packet due; a disable of a FIFO with bytes lets it drain; with domain 95
running and nothing lost, the oldest packet on its way enters the FIFO where it fits, and without room or domain, the domain not
being raised, it is lost and counted; a stimulus write of its own core, not halted, enters at once when nothing waits and there
is room, and is ASLEEP without domain or STIM; a drain of a running domain takes the oldest bytes. Frames are stated. (R529,
R530, R531, R532.) -/
def Obligations.TraceCommandsComplete : Prop :=
  (∀ (a : Agent) (value : Nat) (s : State), Sound s → a.core01 = true ∨ dapIM a s = true → s.get DBG_TRC_CTL_EN = 0 →
    DBG_TRC_CTL_EN.of value = 1 → domState 95 s = 0 → s.profile.quiet.isSome = true →
    ∃ t, exec (.traceEnable a value) s = .next t ∧ t.resp.status = .done ∧ t.get DBG_TRC_CTL_EN = 1 ∧
      t.get DBG_TRC_CTL_STIM = DBG_TRC_CTL_STIM.of value ∧ t.get DBG_TRC_CTL_EVT = DBG_TRC_CTL_EVT.of value ∧
      t.trace.due = s.trace.due ++ [.sync (frameCount s)] ∧
      Frame [.resp, .events, .trace, .power, .profile, .clock, .jets, .edge, .weir, .hbm, .enc, .seqs, .ports, .fail, .ra, .sc,
        .noc, .fab, .ldr, .cluster, .casc, .sec, .boot] [.sluice, .sluiceEntries, .domains, .clockSources, .clockSelect,
        .clockGates, .loader, .regions, .jetBanks, .jetChannels, .edgeSeqStat, .edgeBanks, .periods, .timingSets, .edgeChannels,
        .sequencers, .captureEcc, .captureLost, .captureSeqs, .failCounts, .failMaps, .repairCtl, .repairRing, .repairDescs,
        .repairDomains, .signalCores, .signalResults, .hbmCfg, .hbmStat, .hbmEcc, .hbmFlip, .hbmSpares, .hbmPass, .hbmClasses,
        .encPass, .encRegions, .cascadeTime, .links, .lanes, .epochs, .cores, .locks, .mailboxes, .doorbells, .scratchpadTests,
        .debugRun, .traceCtl] s t) ∧
  (∀ (a : Agent) (value : Nat) (s : State), Sound s → a.core01 = true ∨ dapIM a s = true → s.get DBG_TRC_CTL_EN = 1 →
    DBG_TRC_CTL_EN.of value = 0 → s.trace.fifo ≠ [] →
    ∃ t, exec (.traceEnable a value) s = .next t ∧ t.resp.status = .done ∧ t.get DBG_TRC_CTL_EN = 0 ∧
      t.trace = { s.trace with draining := true } ∧
      Narrow [.resp, .trace] [DBG_TRC_CTL_EN, DBG_TRC_CTL_STIM, DBG_TRC_CTL_TICK, DBG_TRC_CTL_STALL, DBG_TRC_CTL_EVT] s t) ∧
  (∀ (p : TracePacket) (l : List TracePacket) (s : State), Sound s → s.trace.due = p :: l → domRuns 95 s = true →
    s.trace.lostSince = 0 → s.trace.fifo.length + (packetBytes p).length ≤ 4096 →
    ∃ t, exec .tracePacket s = .next t ∧ t.trace.fifo = s.trace.fifo ++ packetBytes p ∧ t.trace.lostSince = 0 ∧
      (t.trace.due = if (packetBytes p).head? ≠ some 0x70 ∧ 1024 ≤ s.trace.sinceSync + (packetBytes p).length then .sync (frameCount s) :: l else l) ∧
      Narrow [.trace] [] s t) ∧
  (∀ (p : TracePacket) (l : List TracePacket) (s : State), Sound s → s.trace.due = p :: l → domState 95 s ≠ 1 →
    s.trace.lostSince = 0 → domRuns 95 s = false ∨ 4096 < s.trace.fifo.length + (packetBytes p).length →
    ∃ t, exec .tracePacket s = .next t ∧ t.trace = { s.trace with due := l, lostSince := 1 } ∧
      t.get DBG_TRC_STAT_LOST = min (s.get DBG_TRC_STAT_LOST + 1) (2 ^ 32 - 1) ∧ Narrow [.trace, .dbg] [DBG_TRC_STAT_LOST] s t) ∧
  (∀ (a : Agent) (c : Fin 4) (p : Fin 32) (width value : Nat) (s : State), Sound s → a.init.val = c.val →
    width = 8 ∨ width = 16 ∨ width = 32 ∨ width = 64 → coreHalted c.val s = false → domOn 95 s = true →
    s.get DBG_TRC_CTL_STIM = 1 → s.trace.due = [] ∧ s.trace.lostSince = 0 ∧ s.trace.stalled = [] →
    s.trace.fifo.length + (packetBytes (.stim c.val p.val width (value % 2 ^ width))).length ≤ 4096 →
    ∃ t, exec (.stimulusWrite a c p width value) s = .next t ∧ t.resp.status = .done ∧
      t.trace.fifo = s.trace.fifo ++ packetBytes (.stim c.val p.val width (value % 2 ^ width)) ∧ Narrow [.resp, .trace] [] s t) ∧
  (∀ (a : Agent) (c : Fin 4) (p : Fin 32) (width value : Nat) (s : State), Sound s → a.init.val = c.val →
    width = 8 ∨ width = 16 ∨ width = 32 ∨ width = 64 → coreHalted c.val s = false →
    domOn 95 s = false ∨ s.get DBG_TRC_CTL_STIM = 0 →
    ∃ t, exec (.stimulusWrite a c p width value) s = .next t ∧ t.resp.status = .asleep ∧ Narrow [.resp] [] s t) ∧
  (∀ (bytes : Nat) (s : State), Sound s → domRuns 95 s = true →
    s.trace.draining = false ∧ s.trace.lostSince = 0 ∧ s.trace.stalled = [] →
    ∃ t, exec (.traceFifoDrain bytes) s = .next t ∧
      t.trace = { s.trace with fifo := s.trace.fifo.drop bytes, sizes := sizesDrop bytes s.trace.sizes } ∧ Narrow [.trace] [] s t)

/-- Completion of the commands of Leap, in the cases listed. In every sound state: a sign that shows, with a target of eight
bytes, makes a candidate, the newest of at most 64, with event 0x1013; a request of nine bytes by a session of installer or
maker, the audit record free, starts the procedure at CHECK with event 0x1010, and is answered RETRY while one runs; served, a
check that fails ends it with its cause and event 0x1012; one that passes, with no Almanac operation and room at the Sluice,
asks the ledger for its record; a record of the fabric, TYPE 2 to 4, is done at APPLY with event 0x1011. Frames are stated.
(R540, R541, R542, R543.) -/
def Obligations.LeapCommandsComplete : Prop :=
  (∀ (reason : Fin 8) (target : List Byte) (s : State), Sound s → reason.val ≠ 0 → target.length = 8 →
    signShows reason.val target s = true →
    ∃ t, exec (.healthCandidate reason target) s = .next t ∧
      t.leap.held.getLast? = some ⟨reasonType reason.val, reason.val, target, frameCount s⟩ ∧
      t.leap.held.length ≤ max 64 s.leap.held.length ∧ Raises 0x1013 s t ∧ Frame [.events, .trace, .leap] [] s t) ∧
  (∀ (a : Agent) (bytes : List Byte) (s : State), Sound s → a.init = 49 ∧ a.im = true → domOn 93 s = true ∧ audBusy s = false →
    bytes.length = 9 → leapRuns s = false →
    ∃ t, exec (.leapRequest a bytes) s = .next t ∧ t.resp.status = .done ∧ t.leap.state = leapCheck ∧ t.leap.type = tgtB bytes 0 ∧
      t.leap.target = bytes.drop 1 ∧ t.leap.role = a.role.code ∧ Raises 0x1010 s t ∧
      Frame [.resp, .events, .trace, .cluster, .sec, .leap] [.audit] s t) ∧
  (∀ (a : Agent) (bytes : List Byte) (s : State), Sound s → a.init = 49 ∧ a.im = true → domOn 93 s = true ∧ audBusy s = false →
    bytes.length = 9 → leapRuns s = true →
    ∃ t, exec (.leapRequest a bytes) s = .next t ∧ t.resp.status = .retry ∧ t.leap = s.leap ∧
      Frame [.resp, .events, .trace, .cluster, .sec, .leap] [.audit] s t) ∧
  (∀ (ok : Bool) (s : State), Sound s → leapServed s = true → s.leap.state = leapCheck → leapChecks s ≠ 0 →
    ∃ t, exec (.leapStepAdvance ok) s = .next t ∧
      t.leap = { s.leap with state := leapFailed, cause := leapChecks s, detail := 0 } ∧ t.hbm.subst = none ∧ Raises 0x1012 s t ∧
      Narrow [.leap, .hbm, .events, .trace] [] s t) ∧
  (∀ (ok : Bool) (s : State), Sound s → leapServed s = true → s.leap.state = leapCheck → leapChecks s = 0 → s.sec.alm = none →
    domOn 93 s = true → sluRoom clsAlmanac 30 s = true → s.leap.target.length = 8 →
    ∃ t, exec (.leapStepAdvance ok) s = .next t ∧ t.leap = { s.leap with state := leapLedger, began := some s.sec.ledgerUsed } ∧
      (t.sec.alm.map (fun o => (o.kind, o.begun)) = some (1, false)) ∧ t.get ALM_STAT_BUSY = 1 ∧
      Frame [.resp, .events, .trace, .power, .profile, .clock, .jets, .edge, .weir, .hbm, .enc, .seqs, .ports, .fail, .ra, .sc,
        .noc, .fab, .ldr, .cluster, .casc, .sec, .boot, .leap] [.sluice, .sluiceEntries, .domains, .clockSources, .clockSelect,
        .clockGates, .loader, .regions, .jetBanks, .jetChannels, .edgeSeqStat, .edgeBanks, .periods, .timingSets, .edgeChannels,
        .weirCal, .sequencers, .captureEcc, .captureLost, .captureSeqs, .failCounts, .failMaps, .repairCtl, .repairRing,
        .repairDescs, .repairDomains, .signalMap, .signalCores, .signalResults, .hbmCfg, .hbmStat, .hbmEcc, .hbmFlip, .hbmSpares,
        .hbmPass, .hbmClasses, .encPass, .encRegions, .cascadeTime, .links, .lanes, .epochs, .cores, .locks, .mailboxes,
        .doorbells, .scratchpadTests, .almanac, .debugRun] s t) ∧
  (∀ (ok : Bool) (s : State), Sound s → leapServed s = true → s.leap.state = leapApply →
    s.leap.type = 2 ∨ s.leap.type = 3 ∨ s.leap.type = 4 →
    ∃ t, exec (.leapStepAdvance ok) s = .next t ∧ t.leap = { s.leap with state := leapDone } ∧ Raises 0x1011 s t ∧
      Narrow [.leap, .events, .trace] [] s t)

/-- Completion of a register write that the network on chip carries, in the cases listed. In every sound state, of a write that
maintenance does not keep from its target: one to an address that no target holds, to HBM, to an offset without a register, or
of another width than the register's is RANGE; one to a register of a domain that refuses it is answered as the domain does; a
word of a scratchpad bank that does not refuse is written, merged or by its aliases; any other register is written by its own
rules with the answer of that write; a flip mask, for instance, takes the value written. The network's statistics count the
request. Frames are stated. (R6, R7, R18, R52, R102, R435, R565.) -/
def Obligations.RegisterWriteCompletes : Prop :=
  (∀ (a : Agent) (addr width value : Nat) (s : State), Sound s → (nocReach a.init.val addr 1 1 s).1 = none →
    inScratchpad addr = false → (targetOf addr = none ∨ (∃ x, targetOf addr = some x ∧ x < 4)) →
    ∃ t, exec (.registerWrite a addr width value) s = .next t ∧ t.resp = ⟨.range, 0, []⟩ ∧ Narrow [.resp, .noc] [] s t) ∧
  (∀ (a : Agent) (addr width value : Nat) (x : Nat) (r : Status) (s : State), Sound s →
    (nocReach a.init.val addr 1 1 s).1 = none → inScratchpad addr = false → targetOf addr = some x ∧ 64 ≤ x →
    regIngress addr s = some r →
    ∃ t, exec (.registerWrite a addr width value) s = .next t ∧ t.resp = ⟨r, 0, []⟩ ∧ Narrow [.resp, .noc] [] s t) ∧
  (∀ (a : Agent) (addr width value : Nat) (x : Nat) (s : State), Sound s → (nocReach a.init.val addr 1 1 s).1 = none →
    inScratchpad addr = false → targetOf addr = some x ∧ 64 ≤ x → regIngress addr s = none → scMemAt addr = none →
    (findReg addr).isNone = true →
    ∃ t, exec (.registerWrite a addr width value) s = .next t ∧ t.resp = ⟨.range, 0, []⟩ ∧ Narrow [.resp, .noc] [] s t) ∧
  (∀ (a : Agent) (addr width value : Nat) (x : Nat) (s : State), Sound s → (nocReach a.init.val addr 1 1 s).1 = none →
    inScratchpad addr = false → targetOf addr = some x ∧ 64 ≤ x → regIngress addr s = none → scMemAt addr = none →
    ((findReg addr).any (fun y => y.1.bits != width && y.1.name != .DBG_STIM) = true) →
    ∃ t, exec (.registerWrite a addr width value) s = .next t ∧ t.resp = ⟨.range, 0, []⟩ ∧ Narrow [.resp, .noc] [] s t) ∧
  (∀ (a : Agent) (addr width value : Nat) (x : Nat) (r : RegDesc) (i j : Nat) (s : State), Sound s →
    (nocReach a.init.val addr 1 1 s).1 = none → inScratchpad addr = false → targetOf addr = some x ∧ 64 ≤ x →
    regIngress addr s = none → scMemAt addr = none → findReg addr = some (r, i, j) → r.bits = width →
    r.name ≠ .SP_OWN ∧ r.name ≠ .DBG_STIM →
    let y := regWrite a r i j (value % 2 ^ width) width (nocReach a.init.val addr 1 1 s).2
    ∃ t, exec (.registerWrite a addr width value) s = .next t ∧ t.resp = ⟨y.1, 0, []⟩ ∧ t.regs = y.2.regs) ∧
  (∀ (a : Agent) (value : Nat) (s : State), Sound s → (nocReach a.init.val 0x300B000220 1 1 s).1 = none → a.ctl = true →
    domRefuses 65 s = none →
    ∃ t, exec (.registerWrite a 0x300B000220 64 value) s = .next t ∧ t.resp.status = .done ∧
      t.get HBM_FLIP_DATA_DMASK = value % 2 ^ 64 ∧ Narrow [.resp, .noc] [HBM_FLIP_DATA_DMASK] s t) ∧
  (∀ (a : Agent) (addr width value : Nat) (s : State), Sound s → (nocReach a.init.val addr 1 1 s).1 = none →
    inScratchpad addr = true → spRefuses a.init.val (spBank addr) s.noc.nextId s = none → spWidthOk addr width = true →
    65536 * spBank addr + spIndex addr ∉ s.cluster.bad →
    let n := spBank addr
    let k := 65536 * spBank addr + spIndex addr
    let new := if spAlias addr = 0 ∧ width = 64 then value % 2 ^ 64 else spMerge addr width value (spWord (spBank addr) (spIndex addr) s) % 2 ^ 64
    ∃ t, exec (.registerWrite a addr width value) s = .next t ∧ t.resp.status = .done ∧
      (t.cluster.words = if new = 0 ∧ spGet n s.cluster.base = 0 then spDel k s.cluster.words else spSet k (new + 1) s.cluster.words) ∧
      Narrow [.resp, .noc, .cluster] [] s t)

/-- Only cores 0 and 1 and an installer's or maker's object write may write PWR_DOM_CTL; any other is DENIED. In every state,
for every domain: a write of PWR_DOM_CTL, as a target, as a DOMAIN reset or as a register write of 32 bits that the network on
chip carries, that comes from another agent than control core 0 or 1 or the field interface for an installer or maker is
answered DENIED and changes nothing but the answer and the network's statistics; one that comes from these agents is not
answered DENIED. (R56.) -/
def Obligations.PowerControlWriters : Prop :=
  (∀ (a : Agent) (n : Fin 96) (target : Nat) (s : State), target < 4 →
    ¬ (a.init = 0 ∨ a.init = 1 ∨ (a.init = 49 ∧ (a.role = .installer ∨ a.role = .maker))) →
    ∃ t, exec (.domainTargetWrite a n target) s = .next t ∧ t = { s with resp := ⟨.denied, 0, []⟩ }) ∧
  (∀ (a : Agent) (n : Fin 96) (s : State), ¬ (a.init = 0 ∨ a.init = 1 ∨ (a.init = 49 ∧ (a.role = .installer ∨ a.role = .maker))) →
    ∃ t, exec (.domainReset a n) s = .next t ∧ t = { s with resp := ⟨.denied, 0, []⟩ }) ∧
  (∀ (a : Agent) (n : Fin 96) (value : Nat) (s : State), (nocReach a.init.val (0x3001002000 + 8 * n.val) 1 1 s).1 = none →
    ¬ (a.init = 0 ∨ a.init = 1 ∨ (a.init = 49 ∧ (a.role = .installer ∨ a.role = .maker))) →
    ∃ t, exec (.registerWrite a (0x3001002000 + 8 * n.val) 32 value) s = .next t ∧
      t = { (nocReach a.init.val (0x3001002000 + 8 * n.val) 1 1 s).2 with resp := ⟨.denied, 0, []⟩ }) ∧
  (∀ (a : Agent) (n : Fin 96) (target : Nat) (s : State),
    a.init = 0 ∨ a.init = 1 ∨ (a.init = 49 ∧ (a.role = .installer ∨ a.role = .maker)) →
    ∃ t, exec (.domainTargetWrite a n target) s = .next t ∧ t.resp.status ≠ .denied) ∧
  (∀ (a : Agent) (n : Fin 96) (s : State), a.init = 0 ∨ a.init = 1 ∨ (a.init = 49 ∧ (a.role = .installer ∨ a.role = .maker)) →
    ∃ t, exec (.domainReset a n) s = .next t ∧ t.resp.status ≠ .denied) ∧
  (∀ (a : Agent) (n : Fin 96) (value : Nat) (s : State),
    a.init = 0 ∨ a.init = 1 ∨ (a.init = 49 ∧ (a.role = .installer ∨ a.role = .maker)) →
    ∃ t, exec (.registerWrite a (0x3001002000 + 8 * n.val) 32 value) s = .next t ∧ t.resp.status ≠ .denied)

/-- COLD and WARM resets set the profile to FULL; DOMAIN and CORE resets leave SYS_PROFILE as it is. In every state: a COLD
reset, and a WARM reset from the pin, from RST_CTL, from the object or from a watchdog of core 0 or 1, leave REQ and CUR at FULL
(0) and PENDING and RESULT at 0; a DOMAIN reset of any domain, asked for and carried out, and a CORE reset by RST_CTL or by a
watchdog of core 2 or 3 change none of the five fields of SYS_PROFILE. (R26.) -/
def Obligations.ResetSetsProfileFull : Prop :=
  (∀ (s : State), Sound s →
    ∃ t, exec .coldReset s = .next t ∧
      t.get SYS_PROFILE_REQ = 0 ∧ t.get SYS_PROFILE_CUR = 0 ∧ t.get SYS_PROFILE_PENDING = 0 ∧ t.get SYS_PROFILE_RESULT = 0) ∧
  (∀ (s : State), Sound s → s.pins.porstLow = false →
    ∃ t, exec .warmReset s = .next t ∧
      t.get SYS_PROFILE_REQ = 0 ∧ t.get SYS_PROFILE_CUR = 0 ∧ t.get SYS_PROFILE_PENDING = 0 ∧ t.get SYS_PROFILE_RESULT = 0) ∧
  (∀ (a : Agent) (s : State), Sound s → a.core01 = true ∨ a.fieldIM = true → almPrograms s = false →
    ∃ t, exec (.rstCtlWarm a 0x5A) s = .next t ∧
      t.get SYS_PROFILE_REQ = 0 ∧ t.get SYS_PROFILE_CUR = 0 ∧ t.get SYS_PROFILE_PENDING = 0 ∧ t.get SYS_PROFILE_RESULT = 0) ∧
  (∀ (s : State), Sound s → s.boot.warmDue.isSome = true → almPrograms s = false →
    ∃ t, exec .delayedWarmReset s = .next t ∧
      t.get SYS_PROFILE_REQ = 0 ∧ t.get SYS_PROFILE_CUR = 0 ∧ t.get SYS_PROFILE_PENDING = 0 ∧ t.get SYS_PROFILE_RESULT = 0) ∧
  (∀ (c : Fin 4) (s : State), Sound s → wdCounts c.val s = true →
    s.get (CORE_STAT_WD_LEFT c.val) ≤ s.get FRM_STAT_PERIOD_ACT / 1000 + 1 → c.val < 2 → almPrograms s = false →
    ∃ t, exec (.watchdogExpiry c) s = .next t ∧
      t.get SYS_PROFILE_REQ = 0 ∧ t.get SYS_PROFILE_CUR = 0 ∧ t.get SYS_PROFILE_PENDING = 0 ∧ t.get SYS_PROFILE_RESULT = 0) ∧
  (∀ (c : Fin 4) (s : State), 2 ≤ c.val →
    ∃ t, exec (.watchdogExpiry c) s = .next t ∧
      (∀ f ∈ [SYS_PROFILE_REQ, SYS_PROFILE_CUR, SYS_PROFILE_PENDING, SYS_PROFILE_RESULT, SYS_PROFILE_GO], t.get f = s.get f)) ∧
  (∀ (a : Agent) (n : Fin 96) (s : State),
    ∃ t, exec (.domainReset a n) s = .next t ∧
      (∀ f ∈ [SYS_PROFILE_REQ, SYS_PROFILE_CUR, SYS_PROFILE_PENDING, SYS_PROFILE_RESULT, SYS_PROFILE_GO], t.get f = s.get f)) ∧
  (∀ (n : Fin 96) (s : State),
    ∃ t, exec (.domainResetHoldEnd n) s = .next t ∧
      (∀ f ∈ [SYS_PROFILE_REQ, SYS_PROFILE_CUR, SYS_PROFILE_PENDING, SYS_PROFILE_RESULT, SYS_PROFILE_GO], t.get f = s.get f)) ∧
  (∀ (a : Agent) (key mask : Nat) (s : State),
    ∃ t, exec (.coreReset a key (mask % 16)) s = .next t ∧
      (∀ f ∈ [SYS_PROFILE_REQ, SYS_PROFILE_CUR, SYS_PROFILE_PENDING, SYS_PROFILE_RESULT, SYS_PROFILE_GO], t.get f = s.get f))

/-- Changing a Jet's range: refused while enabled, else every level goes to the 0 V code of the new range. In every sound state,
for every channel whose bank is ON and every writer of window 0x05: a write of JET_CFG that changes RANGE while EN is 1 is
answered RANGE and changes nothing but the answer; one that changes RANGE while EN is 0 sets the six level fields to the 0 V
code of the new range (12,500 in FAST, 12,000 in WIDE) and leaves both load currents and every PMU setting as they were. (R165.)
-/
def Obligations.JetRangeRule : Prop :=
  (∀ (a : Agent) (ch : Fin 512) (value : Nat) (s : State), a.ctl = true → domRefuses (bankDom ch.val) s = none →
    s.get (JET_CFG_EN ch.val) = 1 → (JET_CFG_RANGE ch.val).of value ≠ s.get (JET_CFG_RANGE ch.val) →
    ∃ t, exec (.jetConfigWrite a ch value) s = .next t ∧ t = { s with resp := ⟨.range, 0, []⟩ }) ∧
  (∀ (a : Agent) (ch : Fin 512) (value : Nat) (s : State), Sound s → a.ctl = true → domRefuses (bankDom ch.val) s = none →
    s.get (JET_CFG_EN ch.val) = 0 → (JET_CFG_RANGE ch.val).of value ≠ s.get (JET_CFG_RANGE ch.val) →
    ∃ t, exec (.jetConfigWrite a ch value) s = .next t ∧ t.resp.status = .done ∧
      t.get (JET_CFG_RANGE ch.val) = (JET_CFG_RANGE ch.val).of value ∧
      (∀ f ∈ [JET_LVL_DRV_VIH ch.val, JET_LVL_DRV_VIL ch.val, JET_LVL_DRV_VTT ch.val, JET_LVL_CMP_VOH ch.val, JET_LVL_CMP_VOL ch.val, JET_LVL_CMP_VCOM ch.val], t.get f = if (JET_CFG_RANGE ch.val).of value = 1 then 12000 else 12500) ∧
      (∀ f ∈ [JET_LOAD_ISNK ch.val, JET_LOAD_ISRC ch.val, JET_PMU_CTL_DIV ch.val, JET_PMU_CTL_IRANGE ch.val, JET_PMU_CTL_MODE ch.val, JET_PMU_FORCE_IFORCE ch.val, JET_PMU_FORCE_VFORCE ch.val, JET_PMU_ICLAMP_HI ch.val, JET_PMU_ICLAMP_LO ch.val, JET_PMU_VCLAMP_HI ch.val, JET_PMU_VCLAMP_LO ch.val], t.get f = s.get f))

/-- Weir calibration starts only while none runs and with a bank named, and only for its three writers. In every state: GO from
control core 0 or 1 or the field interface for an installer or maker is answered RANGE and changes nothing but the answer while
BUSY is 1 or WEIR_CAL_BANKS is 0, and is answered DONE otherwise; from any other agent GO, and a register write of WEIR_CAL_CTL
or WEIR_CAL_BANKS that the network on chip carries, is answered DENIED and changes nothing but the answer and the network's
statistics. (R226.) -/
def Obligations.CalibrationGoRule : Prop :=
  (∀ (a : Agent) (s : State), a.init = 0 ∨ a.init = 1 ∨ (a.init = 49 ∧ (a.role = .installer ∨ a.role = .maker)) →
    s.get WEIR_CAL_INFO_BUSY = 1 ∨ s.get WEIR_CAL_BANKS_BANKS = 0 →
    ∃ t, exec (.weirCalibrate a) s = .next t ∧ t = { s with resp := ⟨.range, 0, []⟩ }) ∧
  (∀ (a : Agent) (s : State), a.init = 0 ∨ a.init = 1 ∨ (a.init = 49 ∧ (a.role = .installer ∨ a.role = .maker)) →
    s.get WEIR_CAL_INFO_BUSY = 0 ∧ s.get WEIR_CAL_BANKS_BANKS ≠ 0 →
    ∃ t, exec (.weirCalibrate a) s = .next t ∧ t.resp.status = .done ∧ t.weir.run.isSome = true) ∧
  (∀ (a : Agent) (s : State), ¬ (a.init = 0 ∨ a.init = 1 ∨ (a.init = 49 ∧ (a.role = .installer ∨ a.role = .maker))) →
    ∃ t, exec (.weirCalibrate a) s = .next t ∧ t = { s with resp := ⟨.denied, 0, []⟩ }) ∧
  (∀ (a : Agent) (value : Nat) (s : State), (nocReach a.init.val 0x3006000200 1 1 s).1 = none →
    ¬ (a.init = 0 ∨ a.init = 1 ∨ (a.init = 49 ∧ (a.role = .installer ∨ a.role = .maker))) →
    ∃ t, exec (.registerWrite a 0x3006000200 32 value) s = .next t ∧
      t = { (nocReach a.init.val 0x3006000200 1 1 s).2 with resp := ⟨.denied, 0, []⟩ }) ∧
  (∀ (a : Agent) (value : Nat) (s : State), (nocReach a.init.val 0x3006000208 1 1 s).1 = none →
    ¬ (a.init = 0 ∨ a.init = 1 ∨ (a.init = 49 ∧ (a.role = .installer ∨ a.role = .maker))) →
    ∃ t, exec (.registerWrite a 0x3006000208 32 value) s = .next t ∧
      t = { (nocReach a.init.val 0x3006000208 1 1 s).2 with resp := ⟨.denied, 0, []⟩ }) ∧
  (∀ (a : Agent) (value : Nat) (s : State), (nocReach a.init.val 0x3006000208 1 1 s).1 = none →
    a.init = 0 ∨ a.init = 1 ∨ (a.init = 49 ∧ (a.role = .installer ∨ a.role = .maker)) → value % 2 = 1 →
    s.get WEIR_CAL_INFO_BUSY = 1 ∨ s.get WEIR_CAL_BANKS_BANKS = 0 →
    ∃ t, exec (.registerWrite a 0x3006000208 32 value) s = .next t ∧
      t = { (nocReach a.init.val 0x3006000208 1 1 s).2 with resp := ⟨.range, 0, []⟩ }) ∧
  (∀ (a : Agent) (value : Nat) (s : State), Sound s → (nocReach a.init.val 0x3006000200 1 1 s).1 = none →
    a.init = 0 ∨ a.init = 1 ∨ (a.init = 49 ∧ (a.role = .installer ∨ a.role = .maker)) →
    ∃ t, exec (.registerWrite a 0x3006000200 32 value) s = .next t ∧
      t.resp.status = .done ∧ t.get WEIR_CAL_BANKS_BANKS = value % 2 ^ 32)

/-- A write of ARB_SHD touches the shadow alone; COMMIT copies every shadow setting together and leaves the grant in progress.
In every sound state: a register write of ARB_SHD changes no register field but the three shadow settings of its entry; COMMIT
from a writer of window 0x0E leaves every entry of the arbiter's ARB_ACT equal to its ARB_SHD, raises event 0x0E06, keeps every
shadow setting and every setting of the other arbiters, and leaves the grants in progress with the burst they were given (in
this model an arbiter cycle is one command, notes/assumptions/46.md). (R396.) -/
def Obligations.ArbiterCommitRule : Prop :=
  (∀ (a : Agent) (x : Fin 18) (i : Fin 24) (value : Nat) (s : State), Sound s →
    ∃ t, exec (.registerWrite a (0x300D020100 + 0x400 * x.val + 4 * i.val) 32 value) s = .next t ∧ t.pending = s.pending ∧
      Narrow [.resp, .noc] [ARB_SHD_BURST x.val i.val, ARB_SHD_PREEMPT x.val i.val, ARB_SHD_PRIO x.val i.val] s t) ∧
  (∀ (a : Agent) (x : Fin 18) (s : State), Sound s → nocWriter a = true →
    ∃ t, exec (.arbCommit a x) s = .next t ∧ t.resp.status = .done ∧
      (∀ i < arbCount x.val, t.get (ARB_ACT_BURST x.val i) = s.get (ARB_SHD_BURST x.val i) ∧ t.get (ARB_ACT_PREEMPT x.val i) = s.get (ARB_SHD_PREEMPT x.val i) ∧ t.get (ARB_ACT_PRIO x.val i) = s.get (ARB_SHD_PRIO x.val i)) ∧
      (∀ y < 18, ∀ i < 24, t.get (ARB_SHD_BURST y i) = s.get (ARB_SHD_BURST y i) ∧ t.get (ARB_SHD_PREEMPT y i) = s.get (ARB_SHD_PREEMPT y i) ∧ t.get (ARB_SHD_PRIO y i) = s.get (ARB_SHD_PRIO y i)) ∧
      (∀ y < 18, y ≠ x.val → ∀ i < 24, t.get (ARB_ACT_BURST y i) = s.get (ARB_ACT_BURST y i) ∧ t.get (ARB_ACT_PREEMPT y i) = s.get (ARB_ACT_PREEMPT y i) ∧ t.get (ARB_ACT_PRIO y i) = s.get (ARB_ACT_PRIO y i)) ∧
      Raises 0x0E06 s t ∧ t.noc = s.noc)

/-- An EtherCAT state change, a link loss or an SM watchdog expiry touches window 0x12 alone. In every sound state: a requested
EtherCAT state, a port's link and an expiry of the SM watchdog keep every pattern, every domain and every Sluice grant as they
were, and every register outside window 0x12 (the blocks fieldStat and sessions lie in it); beside these only the field
interface's own part, its sessions, the events and the trace's queue may change. (R488.) -/
def Obligations.FieldStateGovernsNothing : Prop :=
  (∀ (target : Nat) (mbxOk sync0Ok : Bool) (s : State), Sound s →
    ∃ t, exec (.alStateRequest target mbxOk sync0Ok) s = .next t ∧ t.seqs = s.seqs ∧ t.power = s.power ∧ t.jets = s.jets ∧
      Frame [.events, .trace, .sec, .field] [.fieldStat, .sessions] s t) ∧
  (∀ (port : Fin 2) (up : Bool) (s : State), Sound s →
    ∃ t, exec (.ecatPortLink port up) s = .next t ∧ t.seqs = s.seqs ∧ t.power = s.power ∧ t.jets = s.jets ∧
      Frame [] [.fieldStat] s t) ∧
  (∀ (s : State), Sound s →
    ∃ t, exec .smWatchdogExpiry s = .next t ∧ t.seqs = s.seqs ∧ t.power = s.power ∧ t.jets = s.jets ∧
      Frame [.events, .trace, .sec, .field] [.fieldStat, .sessions] s t)

/-- RMA consent: the installer's write of 1 sets it, every reset and the next transition clear it. In every sound state: a write
of 1 by the installer through the field interface, with the audit record free to take its entry, sets RMA consent; after a COLD
reset, a WARM reset of any source, and the programming of a lifecycle transition that was under way, consent is clear. (R468.)
-/
def Obligations.RmaConsentRule : Prop :=
  (∀ (a : Agent) (value : Nat) (s : State), Sound s → a.init = 49 ∧ a.role = .installer → value = 1 →
    domOn 93 s = true ∧ audBusy s = false →
    ∃ t, exec (.rmaConsent a value) s = .next t ∧ t.resp.status = .done ∧ t.sec.consent = true) ∧
  (∀ (s : State),
    ∃ t, exec .coldReset s = .next t ∧ t.sec.consent = false) ∧
  (∀ (s : State), s.pins.porstLow = false →
    ∃ t, exec .warmReset s = .next t ∧ t.sec.consent = false) ∧
  (∀ (a : Agent) (s : State), a.core01 = true ∨ a.fieldIM = true → almPrograms s = false →
    ∃ t, exec (.rstCtlWarm a 0x5A) s = .next t ∧ t.sec.consent = false) ∧
  (∀ (s : State), s.boot.warmDue.isSome = true → almPrograms s = false →
    ∃ t, exec .delayedWarmReset s = .next t ∧ t.sec.consent = false) ∧
  (∀ (c : Fin 4) (s : State), wdCounts c.val s = true → s.get (CORE_STAT_WD_LEFT c.val) ≤ s.get FRM_STAT_PERIOD_ACT / 1000 + 1 →
    c.val < 2 → almPrograms s = false →
    ∃ t, exec (.watchdogExpiry c) s = .next t ∧ t.sec.consent = false) ∧
  (∀ (o : AlmOp) (s : State), s.sec.alm = some o → o.kind = 2 ∧ o.begun = true →
    ∃ t, exec .lifecycleProgrammed s = .next t ∧ t.sec.consent = false)

/-- What a COLD and a WARM reset keep and lose. In every sound state with no Almanac operation under way: a COLD reset keeps the
flash, the editions, the ledger, the lifecycle word and the queue of commands, and loses the HBM contents, the fabric's
configuration and the registers but STAGE; a WARM reset by the pin keeps the flash, the one-time memory, the selected edition,
the source each mux selects and the Weir corrections, counts itself, sets the frame count to 0 and frees the mailboxes and
locks, loses the reconfigurable regions' configuration and keeps the static region's; with domain 94 not ON it keeps the HBM
contents and the controller's state where domain 64 was ON, which is then LOWERING to RETAIN, or in RETAIN, where it stays;
where it was OFF the controller is OFF. (R43, R72, R100, R104, R137, R232, R440, R447.) -/
def Obligations.ResetsKeepAndLose : Prop :=
  (∀ (s : State), Sound s → s.sec.alm = none →
    ∃ t, exec .coldReset s = .next t ∧ t.flash = s.flash ∧
      t.sec.editions = s.sec.editions ∧ t.sec.used = s.sec.used ∧ t.sec.ledger = s.sec.ledger ∧ t.sec.ledgerUsed = s.sec.ledgerUsed ∧ t.sec.lc = s.sec.lc ∧
      t.hbm.mem = [] ∧ t.fab.cfg = [] ∧ t.pending = s.pending ∧
      (∀ f : Fld, f.key ≠ BOOT_STAT_STAGE.key → t.get f = f.reset % 2 ^ f.width)) ∧
  (∀ (s : State), Sound s → s.pins.porstLow = false → s.sec.alm = none →
    ∃ t, exec .warmReset s = .next t ∧ t.flash = s.flash ∧
      t.sec.editions = s.sec.editions ∧ t.sec.used = s.sec.used ∧ t.sec.ledger = s.sec.ledger ∧ t.sec.ledgerUsed = s.sec.ledgerUsed ∧ t.sec.lc = s.sec.lc ∧
      t.get BOOT_STAT_ALMANAC = s.get SEC_STAT_EDITION ∧ (∀ m < 5, t.get (CLK_SEL_SEL m) = s.get (CLK_SEL_SEL m)) ∧
      (∀ n < 512, t.get (WEIR_CH_CORR_CORR_DRV n) = s.get (WEIR_CH_CORR_CORR_DRV n) ∧ t.get (WEIR_CH_CORR_CORR_CMP n) = s.get (WEIR_CH_CORR_CORR_CMP n)) ∧
      (∀ m < 16, t.get (MBX_STAT_FULL m) = 0) ∧ (∀ k < 64, t.get (LOCK_STAT_HELD k) = 0) ∧ t.get FRM_COUNT_COUNT = 0 ∧
      t.get RST_CAUSE_WARM_COUNT = min 65535 (s.get RST_CAUSE_WARM_COUNT + 1) ∧ t.fab.cfg = memErase 0 (4096 * 32768) s.fab.cfg ∧
      t.pending = s.pending) ∧
  (∀ (s : State), Sound s → s.pins.porstLow = false → domState 94 s ≠ dsOn → s.get HBM_STAT_STATE ≠ hbmOff →
    domState 64 s = dsOn ∨ domState 64 s = dsRetain →
    ∃ t, exec .warmReset s = .next t ∧ t.hbm.mem = s.hbm.mem ∧
      (t.get (PWR_DOM_STAT_STATE 64) = if domState 64 s = dsOn then dsLowering else dsRetain) ∧
      t.get (PWR_DOM_CTL_TARGET 64) = tgtRetain ∧ t.get HBM_STAT_STATE = s.get HBM_STAT_STATE) ∧
  (∀ (s : State), Sound s → s.pins.porstLow = false → domState 64 s = dsOff →
    ∃ t, exec .warmReset s = .next t ∧ t.get (PWR_DOM_STAT_STATE 64) = dsOff ∧ t.get HBM_STAT_STATE = hbmOff)
end

