-- ==== Sys2Proof/Laws/Sparse.lean ====
section
/-! SUPPORT. Laws of the number stores: what a read gives after a write, a removal and a clearing, and that each keeps
the keys rising. -/
set_option Elab.async false
namespace Sys2Proof.Machine

theorem keysRise_iff (l : List Nat) : keysRise l = true ↔ l.Pairwise (· < ·) := by
  induction l with
  | nil => simp [keysRise]
  | cons a r ih =>
    cases r with
    | nil => simp [keysRise]
    | cons b r =>
      simp only [keysRise, Bool.and_eq_true, decide_eq_true_eq, ih]
      constructor
      · rintro ⟨hab, hr⟩
        refine List.pairwise_cons.2 ⟨?_, hr⟩
        intro c hc
        rcases List.mem_cons.1 hc with rfl | hc
        · exact hab
        · exact lt_trans hab ((List.pairwise_cons.1 hr).1 c hc)
      · intro h
        exact ⟨(List.pairwise_cons.1 h).1 b (by simp), (List.pairwise_cons.1 h).2⟩

/-- The keys of a store rise. -/
def Sparse.Rising (m : Sparse) : Prop := (m.map (·.1)).Pairwise (· < ·)

theorem rising_iff (m : Sparse) : keysRise (m.map (·.1)) = true ↔ Sparse.Rising m := keysRise_iff _

theorem rising_nil : Sparse.Rising [] := List.Pairwise.nil

theorem rising_cons {p : Nat × Nat} {r : Sparse} :
    Sparse.Rising (p :: r) ↔ (∀ q ∈ r, p.1 < q.1) ∧ Sparse.Rising r := by
  simp [Sparse.Rising]

theorem spFind_of_lt {k : Nat} : ∀ {m : Sparse}, (∀ q ∈ m, k < q.1) → spFind k m = none
  | [], _ => rfl
  | (k', v) :: r, h => by
    have h1 : k < k' := h (k', v) (by simp)
    rw [spFind, if_neg (by omega)]
    exact spFind_of_lt (fun q hq => h q (by simp [hq]))

theorem mem_spDel {k : Nat} {q : Nat × Nat} : ∀ {m : Sparse}, q ∈ spDel k m → q ∈ m
  | [], h => h
  | (k', v) :: r, h => by
    rw [spDel] at h
    split at h
    · exact List.mem_cons_of_mem _ h
    · rcases List.mem_cons.1 h with rfl | h
      · simp
      · exact List.mem_cons_of_mem _ (mem_spDel h)

theorem mem_spPut {k v : Nat} {q : Nat × Nat} : ∀ {m : Sparse}, q ∈ spPut k v m → q = (k, v) ∨ q ∈ m
  | [], h => by simpa [spPut] using h
  | (k', v') :: r, h => by
    rw [spPut] at h
    split at h
    · simpa using h
    · split at h
      · rcases List.mem_cons.1 h with rfl | h
        · simp
        · simp [h]
      · rcases List.mem_cons.1 h with rfl | h
        · simp
        · rcases mem_spPut h with h | h <;> simp [h]

theorem rising_spDel (k : Nat) : ∀ {m : Sparse}, Sparse.Rising m → Sparse.Rising (spDel k m)
  | [], h => h
  | (k', v) :: r, h => by
    rw [spDel]
    have h' := rising_cons.1 h
    split
    · exact h'.2
    · exact rising_cons.2 ⟨fun q hq => h'.1 q (mem_spDel hq), rising_spDel k h'.2⟩

theorem rising_spPut (k v : Nat) : ∀ {m : Sparse}, Sparse.Rising m → Sparse.Rising (spPut k v m)
  | [], _ => by simp [spPut, Sparse.Rising]
  | (k', v') :: r, h => by
    rw [spPut]
    have h' := rising_cons.1 h
    split
    · rename_i hk
      refine rising_cons.2 ⟨?_, h⟩
      intro q hq
      rcases List.mem_cons.1 hq with rfl | hq
      · exact hk
      · exact lt_trans hk (h'.1 q hq)
    · split
      · rename_i hk
        subst hk
        exact rising_cons.2 ⟨h'.1, h'.2⟩
      · refine rising_cons.2 ⟨?_, rising_spPut k v h'.2⟩
        intro q hq
        rcases mem_spPut hq with rfl | hq
        · show k' < k; omega
        · exact h'.1 q hq

theorem rising_spSetD (d k v : Nat) {m : Sparse} (h : Sparse.Rising m) : Sparse.Rising (spSetD d k v m) := by
  unfold spSetD
  split
  · exact rising_spDel k h
  · exact rising_spPut k v h

theorem rising_spSet (k v : Nat) {m : Sparse} (h : Sparse.Rising m) : Sparse.Rising (spSet k v m) := rising_spSetD 0 k v h

theorem rising_regSet (f : Fld) (v : Nat) {m : Sparse} (h : Sparse.Rising m) : Sparse.Rising (regSet f v m) :=
  rising_spSetD _ _ _ h

theorem rising_filter (p : Nat × Nat → Bool) {m : Sparse} (h : Sparse.Rising m) : Sparse.Rising (m.filter p) :=
  List.Pairwise.sublist (List.Sublist.map _ List.filter_sublist) h

theorem rising_spClear (lo hi : Nat) {m : Sparse} (h : Sparse.Rising m) : Sparse.Rising (spClear lo hi m) :=
  rising_filter _ h

/-! Reads after writes. -/

theorem spFind_spPut_self (k v : Nat) : ∀ m : Sparse, spFind k (spPut k v m) = some v
  | [] => by simp [spPut, spFind]
  | (k', v') :: r => by
    rw [spPut]
    split
    · simp [spFind]
    · split
      · simp [spFind]
      · rw [spFind, if_neg (by assumption)]
        exact spFind_spPut_self k v r

theorem spFind_spPut_of_ne {k j : Nat} (h : j ≠ k) (v : Nat) : ∀ m : Sparse, spFind j (spPut k v m) = spFind j m
  | [] => by simp [spPut, spFind, h]
  | (k', v') :: r => by
    rw [spPut]
    split
    · rw [spFind, if_neg h]
    · split
      · rename_i hk
        subst hk
        rw [spFind, if_neg h, spFind, if_neg h]
      · rw [spFind, spFind, spFind_spPut_of_ne h v r]

theorem spFind_spDel_of_ne {k j : Nat} (h : j ≠ k) : ∀ m : Sparse, spFind j (spDel k m) = spFind j m
  | [] => rfl
  | (k', v') :: r => by
    rw [spDel]
    split
    · rename_i hk
      subst hk
      rw [spFind, if_neg h]
    · rw [spFind, spFind, spFind_spDel_of_ne h r]

theorem spFind_spDel_self {k : Nat} : ∀ {m : Sparse}, Sparse.Rising m → spFind k (spDel k m) = none
  | [], _ => rfl
  | (k', v') :: r, h => by
    have h' := rising_cons.1 h
    rw [spDel]
    split
    · rename_i hk
      subst hk
      exact spFind_of_lt h'.1
    · rw [spFind, if_neg (by assumption)]
      exact spFind_spDel_self h'.2

theorem spFind_spSetD_of_ne {k j : Nat} (h : j ≠ k) (d v : Nat) (m : Sparse) : spFind j (spSetD d k v m) = spFind j m := by
  unfold spSetD
  split
  · exact spFind_spDel_of_ne h m
  · exact spFind_spPut_of_ne h v m

theorem spGetD_spSetD_self {d k v : Nat} {m : Sparse} (h : Sparse.Rising m) : spGetD d k (spSetD d k v m) = v := by
  unfold spSetD spGetD
  split
  · rename_i hv
    rw [spFind_spDel_self h, hv]
    rfl
  · rw [spFind_spPut_self]
    rfl

theorem spFind_filter {k : Nat} {p : Nat × Nat → Bool} (hp : ∀ v, p (k, v) = true) :
    ∀ m : Sparse, spFind k (m.filter p) = spFind k m
  | [] => rfl
  | (k', v') :: r => by
    rw [List.filter]
    split
    · rw [spFind, spFind, spFind_filter hp r]
    · rename_i hq
      rw [spFind, spFind_filter hp r]
      split
      · rename_i hk
        subst hk
        simp [hp] at hq
      · rfl

theorem spFind_spClear {k lo hi : Nat} (h : ¬(lo ≤ k ∧ k < hi)) (m : Sparse) : spFind k (spClear lo hi m) = spFind k m := by
  refine spFind_filter (fun v => ?_) m
  simp only [Bool.not_eq_true', Bool.and_eq_false_iff, decide_eq_false_iff_not]
  omega

/-! Fields of registers. -/

theorem regGet_regSet_self {f : Fld} {v : Nat} {m : Sparse} (h : Sparse.Rising m) :
    regGet f (regSet f v m) = v % 2 ^ f.width := by
  unfold regGet regSet
  rw [spGetD_spSetD_self h, Nat.mod_mod]

theorem regGet_lt (f : Fld) (m : Sparse) : regGet f m < 2 ^ f.width := Nat.mod_lt _ (Nat.two_pow_pos _)

theorem regGet_regSet_of_ne {f g : Fld} (h : f.key ≠ g.key) (v : Nat) (m : Sparse) :
    regGet f (regSet g v m) = regGet f m := by
  unfold regGet regSet spGetD
  rw [spFind_spSetD_of_ne h]

end Sys2Proof.Machine
end

