-- ==== Sys2Proof/Laws/State.lean ====
section
/-! SUPPORT. One lemma per field of the state per named operation, so that no proof unfolds a record update; and what a register
field reads after each operation. -/
namespace Sys2Proof.Machine

/-! ### Register fields after an operation -/

/-! Fields after `State.set`. -/
@[simp] theorem set_resp (s : State) (f : Fld) (v : Nat) : (s.set f v).resp = s.resp := rfl
@[simp] theorem set_bootMs (s : State) (f : Fld) (v : Nat) : (s.set f v).bootMs = s.bootMs := rfl
@[simp] theorem set_events (s : State) (f : Fld) (v : Nat) : (s.set f v).events = s.events := rfl
@[simp] theorem set_trace (s : State) (f : Fld) (v : Nat) : (s.set f v).trace = s.trace := rfl
@[simp] theorem set_power (s : State) (f : Fld) (v : Nat) : (s.set f v).power = s.power := rfl
@[simp] theorem set_profile (s : State) (f : Fld) (v : Nat) : (s.set f v).profile = s.profile := rfl
@[simp] theorem set_clock (s : State) (f : Fld) (v : Nat) : (s.set f v).clock = s.clock := rfl
@[simp] theorem set_pins (s : State) (f : Fld) (v : Nat) : (s.set f v).pins = s.pins := rfl
@[simp] theorem set_jets (s : State) (f : Fld) (v : Nat) : (s.set f v).jets = s.jets := rfl
@[simp] theorem set_edge (s : State) (f : Fld) (v : Nat) : (s.set f v).edge = s.edge := rfl
@[simp] theorem set_weir (s : State) (f : Fld) (v : Nat) : (s.set f v).weir = s.weir := rfl
@[simp] theorem set_hbm (s : State) (f : Fld) (v : Nat) : (s.set f v).hbm = s.hbm := rfl
@[simp] theorem set_enc (s : State) (f : Fld) (v : Nat) : (s.set f v).enc = s.enc := rfl
@[simp] theorem set_seqs (s : State) (f : Fld) (v : Nat) : (s.set f v).seqs = s.seqs := rfl
@[simp] theorem set_ports (s : State) (f : Fld) (v : Nat) : (s.set f v).ports = s.ports := rfl
@[simp] theorem set_fail (s : State) (f : Fld) (v : Nat) : (s.set f v).fail = s.fail := rfl
@[simp] theorem set_ra (s : State) (f : Fld) (v : Nat) : (s.set f v).ra = s.ra := rfl
@[simp] theorem set_sc (s : State) (f : Fld) (v : Nat) : (s.set f v).sc = s.sc := rfl
@[simp] theorem set_noc (s : State) (f : Fld) (v : Nat) : (s.set f v).noc = s.noc := rfl
@[simp] theorem set_fab (s : State) (f : Fld) (v : Nat) : (s.set f v).fab = s.fab := rfl
@[simp] theorem set_ldr (s : State) (f : Fld) (v : Nat) : (s.set f v).ldr = s.ldr := rfl
@[simp] theorem set_flash (s : State) (f : Fld) (v : Nat) : (s.set f v).flash = s.flash := rfl
@[simp] theorem set_cluster (s : State) (f : Fld) (v : Nat) : (s.set f v).cluster = s.cluster := rfl
@[simp] theorem set_casc (s : State) (f : Fld) (v : Nat) : (s.set f v).casc = s.casc := rfl
@[simp] theorem set_sec (s : State) (f : Fld) (v : Nat) : (s.set f v).sec = s.sec := rfl
@[simp] theorem set_boot (s : State) (f : Fld) (v : Nat) : (s.set f v).boot = s.boot := rfl
@[simp] theorem set_dbg (s : State) (f : Fld) (v : Nat) : (s.set f v).dbg = s.dbg := rfl
@[simp] theorem set_leap (s : State) (f : Fld) (v : Nat) : (s.set f v).leap = s.leap := rfl
@[simp] theorem set_field (s : State) (f : Fld) (v : Nat) : (s.set f v).field = s.field := rfl
@[simp] theorem set_pending (s : State) (f : Fld) (v : Nat) : (s.set f v).pending = s.pending := rfl

/-! Fields after `State.count`. -/
@[simp] theorem count_resp (s : State) (f : Fld) (n : Nat) : (s.count f n).resp = s.resp := rfl
@[simp] theorem count_bootMs (s : State) (f : Fld) (n : Nat) : (s.count f n).bootMs = s.bootMs := rfl
@[simp] theorem count_events (s : State) (f : Fld) (n : Nat) : (s.count f n).events = s.events := rfl
@[simp] theorem count_trace (s : State) (f : Fld) (n : Nat) : (s.count f n).trace = s.trace := rfl
@[simp] theorem count_power (s : State) (f : Fld) (n : Nat) : (s.count f n).power = s.power := rfl
@[simp] theorem count_profile (s : State) (f : Fld) (n : Nat) : (s.count f n).profile = s.profile := rfl
@[simp] theorem count_clock (s : State) (f : Fld) (n : Nat) : (s.count f n).clock = s.clock := rfl
@[simp] theorem count_pins (s : State) (f : Fld) (n : Nat) : (s.count f n).pins = s.pins := rfl
@[simp] theorem count_jets (s : State) (f : Fld) (n : Nat) : (s.count f n).jets = s.jets := rfl
@[simp] theorem count_edge (s : State) (f : Fld) (n : Nat) : (s.count f n).edge = s.edge := rfl
@[simp] theorem count_weir (s : State) (f : Fld) (n : Nat) : (s.count f n).weir = s.weir := rfl
@[simp] theorem count_hbm (s : State) (f : Fld) (n : Nat) : (s.count f n).hbm = s.hbm := rfl
@[simp] theorem count_enc (s : State) (f : Fld) (n : Nat) : (s.count f n).enc = s.enc := rfl
@[simp] theorem count_seqs (s : State) (f : Fld) (n : Nat) : (s.count f n).seqs = s.seqs := rfl
@[simp] theorem count_ports (s : State) (f : Fld) (n : Nat) : (s.count f n).ports = s.ports := rfl
@[simp] theorem count_fail (s : State) (f : Fld) (n : Nat) : (s.count f n).fail = s.fail := rfl
@[simp] theorem count_ra (s : State) (f : Fld) (n : Nat) : (s.count f n).ra = s.ra := rfl
@[simp] theorem count_sc (s : State) (f : Fld) (n : Nat) : (s.count f n).sc = s.sc := rfl
@[simp] theorem count_noc (s : State) (f : Fld) (n : Nat) : (s.count f n).noc = s.noc := rfl
@[simp] theorem count_fab (s : State) (f : Fld) (n : Nat) : (s.count f n).fab = s.fab := rfl
@[simp] theorem count_ldr (s : State) (f : Fld) (n : Nat) : (s.count f n).ldr = s.ldr := rfl
@[simp] theorem count_flash (s : State) (f : Fld) (n : Nat) : (s.count f n).flash = s.flash := rfl
@[simp] theorem count_cluster (s : State) (f : Fld) (n : Nat) : (s.count f n).cluster = s.cluster := rfl
@[simp] theorem count_casc (s : State) (f : Fld) (n : Nat) : (s.count f n).casc = s.casc := rfl
@[simp] theorem count_sec (s : State) (f : Fld) (n : Nat) : (s.count f n).sec = s.sec := rfl
@[simp] theorem count_boot (s : State) (f : Fld) (n : Nat) : (s.count f n).boot = s.boot := rfl
@[simp] theorem count_dbg (s : State) (f : Fld) (n : Nat) : (s.count f n).dbg = s.dbg := rfl
@[simp] theorem count_leap (s : State) (f : Fld) (n : Nat) : (s.count f n).leap = s.leap := rfl
@[simp] theorem count_field (s : State) (f : Fld) (n : Nat) : (s.count f n).field = s.field := rfl
@[simp] theorem count_pending (s : State) (f : Fld) (n : Nat) : (s.count f n).pending = s.pending := rfl

/-! Fields after `State.clearFld`. -/
@[simp] theorem clearFld_resp (s : State) (f : Fld) : (s.clearFld f).resp = s.resp := rfl
@[simp] theorem clearFld_bootMs (s : State) (f : Fld) : (s.clearFld f).bootMs = s.bootMs := rfl
@[simp] theorem clearFld_events (s : State) (f : Fld) : (s.clearFld f).events = s.events := rfl
@[simp] theorem clearFld_trace (s : State) (f : Fld) : (s.clearFld f).trace = s.trace := rfl
@[simp] theorem clearFld_power (s : State) (f : Fld) : (s.clearFld f).power = s.power := rfl
@[simp] theorem clearFld_profile (s : State) (f : Fld) : (s.clearFld f).profile = s.profile := rfl
@[simp] theorem clearFld_clock (s : State) (f : Fld) : (s.clearFld f).clock = s.clock := rfl
@[simp] theorem clearFld_pins (s : State) (f : Fld) : (s.clearFld f).pins = s.pins := rfl
@[simp] theorem clearFld_jets (s : State) (f : Fld) : (s.clearFld f).jets = s.jets := rfl
@[simp] theorem clearFld_edge (s : State) (f : Fld) : (s.clearFld f).edge = s.edge := rfl
@[simp] theorem clearFld_weir (s : State) (f : Fld) : (s.clearFld f).weir = s.weir := rfl
@[simp] theorem clearFld_hbm (s : State) (f : Fld) : (s.clearFld f).hbm = s.hbm := rfl
@[simp] theorem clearFld_enc (s : State) (f : Fld) : (s.clearFld f).enc = s.enc := rfl
@[simp] theorem clearFld_seqs (s : State) (f : Fld) : (s.clearFld f).seqs = s.seqs := rfl
@[simp] theorem clearFld_ports (s : State) (f : Fld) : (s.clearFld f).ports = s.ports := rfl
@[simp] theorem clearFld_fail (s : State) (f : Fld) : (s.clearFld f).fail = s.fail := rfl
@[simp] theorem clearFld_ra (s : State) (f : Fld) : (s.clearFld f).ra = s.ra := rfl
@[simp] theorem clearFld_sc (s : State) (f : Fld) : (s.clearFld f).sc = s.sc := rfl
@[simp] theorem clearFld_noc (s : State) (f : Fld) : (s.clearFld f).noc = s.noc := rfl
@[simp] theorem clearFld_fab (s : State) (f : Fld) : (s.clearFld f).fab = s.fab := rfl
@[simp] theorem clearFld_ldr (s : State) (f : Fld) : (s.clearFld f).ldr = s.ldr := rfl
@[simp] theorem clearFld_flash (s : State) (f : Fld) : (s.clearFld f).flash = s.flash := rfl
@[simp] theorem clearFld_cluster (s : State) (f : Fld) : (s.clearFld f).cluster = s.cluster := rfl
@[simp] theorem clearFld_casc (s : State) (f : Fld) : (s.clearFld f).casc = s.casc := rfl
@[simp] theorem clearFld_sec (s : State) (f : Fld) : (s.clearFld f).sec = s.sec := rfl
@[simp] theorem clearFld_boot (s : State) (f : Fld) : (s.clearFld f).boot = s.boot := rfl
@[simp] theorem clearFld_dbg (s : State) (f : Fld) : (s.clearFld f).dbg = s.dbg := rfl
@[simp] theorem clearFld_leap (s : State) (f : Fld) : (s.clearFld f).leap = s.leap := rfl
@[simp] theorem clearFld_field (s : State) (f : Fld) : (s.clearFld f).field = s.field := rfl
@[simp] theorem clearFld_pending (s : State) (f : Fld) : (s.clearFld f).pending = s.pending := rfl

/-! Fields after `State.resetRegs`. -/
@[simp] theorem resetRegs_resp (s : State) (lo hi : Nat) : (s.resetRegs lo hi).resp = s.resp := rfl
@[simp] theorem resetRegs_bootMs (s : State) (lo hi : Nat) : (s.resetRegs lo hi).bootMs = s.bootMs := rfl
@[simp] theorem resetRegs_events (s : State) (lo hi : Nat) : (s.resetRegs lo hi).events = s.events := rfl
@[simp] theorem resetRegs_trace (s : State) (lo hi : Nat) : (s.resetRegs lo hi).trace = s.trace := rfl
@[simp] theorem resetRegs_power (s : State) (lo hi : Nat) : (s.resetRegs lo hi).power = s.power := rfl
@[simp] theorem resetRegs_profile (s : State) (lo hi : Nat) : (s.resetRegs lo hi).profile = s.profile := rfl
@[simp] theorem resetRegs_clock (s : State) (lo hi : Nat) : (s.resetRegs lo hi).clock = s.clock := rfl
@[simp] theorem resetRegs_pins (s : State) (lo hi : Nat) : (s.resetRegs lo hi).pins = s.pins := rfl
@[simp] theorem resetRegs_jets (s : State) (lo hi : Nat) : (s.resetRegs lo hi).jets = s.jets := rfl
@[simp] theorem resetRegs_edge (s : State) (lo hi : Nat) : (s.resetRegs lo hi).edge = s.edge := rfl
@[simp] theorem resetRegs_weir (s : State) (lo hi : Nat) : (s.resetRegs lo hi).weir = s.weir := rfl
@[simp] theorem resetRegs_hbm (s : State) (lo hi : Nat) : (s.resetRegs lo hi).hbm = s.hbm := rfl
@[simp] theorem resetRegs_enc (s : State) (lo hi : Nat) : (s.resetRegs lo hi).enc = s.enc := rfl
@[simp] theorem resetRegs_seqs (s : State) (lo hi : Nat) : (s.resetRegs lo hi).seqs = s.seqs := rfl
@[simp] theorem resetRegs_ports (s : State) (lo hi : Nat) : (s.resetRegs lo hi).ports = s.ports := rfl
@[simp] theorem resetRegs_fail (s : State) (lo hi : Nat) : (s.resetRegs lo hi).fail = s.fail := rfl
@[simp] theorem resetRegs_ra (s : State) (lo hi : Nat) : (s.resetRegs lo hi).ra = s.ra := rfl
@[simp] theorem resetRegs_sc (s : State) (lo hi : Nat) : (s.resetRegs lo hi).sc = s.sc := rfl
@[simp] theorem resetRegs_noc (s : State) (lo hi : Nat) : (s.resetRegs lo hi).noc = s.noc := rfl
@[simp] theorem resetRegs_fab (s : State) (lo hi : Nat) : (s.resetRegs lo hi).fab = s.fab := rfl
@[simp] theorem resetRegs_ldr (s : State) (lo hi : Nat) : (s.resetRegs lo hi).ldr = s.ldr := rfl
@[simp] theorem resetRegs_flash (s : State) (lo hi : Nat) : (s.resetRegs lo hi).flash = s.flash := rfl
@[simp] theorem resetRegs_cluster (s : State) (lo hi : Nat) : (s.resetRegs lo hi).cluster = s.cluster := rfl
@[simp] theorem resetRegs_casc (s : State) (lo hi : Nat) : (s.resetRegs lo hi).casc = s.casc := rfl
@[simp] theorem resetRegs_sec (s : State) (lo hi : Nat) : (s.resetRegs lo hi).sec = s.sec := rfl
@[simp] theorem resetRegs_boot (s : State) (lo hi : Nat) : (s.resetRegs lo hi).boot = s.boot := rfl
@[simp] theorem resetRegs_dbg (s : State) (lo hi : Nat) : (s.resetRegs lo hi).dbg = s.dbg := rfl
@[simp] theorem resetRegs_leap (s : State) (lo hi : Nat) : (s.resetRegs lo hi).leap = s.leap := rfl
@[simp] theorem resetRegs_field (s : State) (lo hi : Nat) : (s.resetRegs lo hi).field = s.field := rfl
@[simp] theorem resetRegs_pending (s : State) (lo hi : Nat) : (s.resetRegs lo hi).pending = s.pending := rfl

/-! Fields after `answer`. -/
@[simp] theorem answer_regs (s : State) (st : Status) : (answer st s).regs = s.regs := rfl
@[simp] theorem answer_bootMs (s : State) (st : Status) : (answer st s).bootMs = s.bootMs := rfl
@[simp] theorem answer_events (s : State) (st : Status) : (answer st s).events = s.events := rfl
@[simp] theorem answer_trace (s : State) (st : Status) : (answer st s).trace = s.trace := rfl
@[simp] theorem answer_power (s : State) (st : Status) : (answer st s).power = s.power := rfl
@[simp] theorem answer_profile (s : State) (st : Status) : (answer st s).profile = s.profile := rfl
@[simp] theorem answer_clock (s : State) (st : Status) : (answer st s).clock = s.clock := rfl
@[simp] theorem answer_pins (s : State) (st : Status) : (answer st s).pins = s.pins := rfl
@[simp] theorem answer_jets (s : State) (st : Status) : (answer st s).jets = s.jets := rfl
@[simp] theorem answer_edge (s : State) (st : Status) : (answer st s).edge = s.edge := rfl
@[simp] theorem answer_weir (s : State) (st : Status) : (answer st s).weir = s.weir := rfl
@[simp] theorem answer_hbm (s : State) (st : Status) : (answer st s).hbm = s.hbm := rfl
@[simp] theorem answer_enc (s : State) (st : Status) : (answer st s).enc = s.enc := rfl
@[simp] theorem answer_seqs (s : State) (st : Status) : (answer st s).seqs = s.seqs := rfl
@[simp] theorem answer_ports (s : State) (st : Status) : (answer st s).ports = s.ports := rfl
@[simp] theorem answer_fail (s : State) (st : Status) : (answer st s).fail = s.fail := rfl
@[simp] theorem answer_ra (s : State) (st : Status) : (answer st s).ra = s.ra := rfl
@[simp] theorem answer_sc (s : State) (st : Status) : (answer st s).sc = s.sc := rfl
@[simp] theorem answer_noc (s : State) (st : Status) : (answer st s).noc = s.noc := rfl
@[simp] theorem answer_fab (s : State) (st : Status) : (answer st s).fab = s.fab := rfl
@[simp] theorem answer_ldr (s : State) (st : Status) : (answer st s).ldr = s.ldr := rfl
@[simp] theorem answer_flash (s : State) (st : Status) : (answer st s).flash = s.flash := rfl
@[simp] theorem answer_cluster (s : State) (st : Status) : (answer st s).cluster = s.cluster := rfl
@[simp] theorem answer_casc (s : State) (st : Status) : (answer st s).casc = s.casc := rfl
@[simp] theorem answer_sec (s : State) (st : Status) : (answer st s).sec = s.sec := rfl
@[simp] theorem answer_boot (s : State) (st : Status) : (answer st s).boot = s.boot := rfl
@[simp] theorem answer_dbg (s : State) (st : Status) : (answer st s).dbg = s.dbg := rfl
@[simp] theorem answer_leap (s : State) (st : Status) : (answer st s).leap = s.leap := rfl
@[simp] theorem answer_field (s : State) (st : Status) : (answer st s).field = s.field := rfl
@[simp] theorem answer_pending (s : State) (st : Status) : (answer st s).pending = s.pending := rfl
@[simp] theorem get_answer (s : State) (st : Status) (f : Fld) : (answer st s).get f = s.get f := rfl

/-! Fields after `answerVal`. -/
@[simp] theorem answerVal_regs (s : State) (v : Nat) : (answerVal v s).regs = s.regs := rfl
@[simp] theorem answerVal_bootMs (s : State) (v : Nat) : (answerVal v s).bootMs = s.bootMs := rfl
@[simp] theorem answerVal_events (s : State) (v : Nat) : (answerVal v s).events = s.events := rfl
@[simp] theorem answerVal_trace (s : State) (v : Nat) : (answerVal v s).trace = s.trace := rfl
@[simp] theorem answerVal_power (s : State) (v : Nat) : (answerVal v s).power = s.power := rfl
@[simp] theorem answerVal_profile (s : State) (v : Nat) : (answerVal v s).profile = s.profile := rfl
@[simp] theorem answerVal_clock (s : State) (v : Nat) : (answerVal v s).clock = s.clock := rfl
@[simp] theorem answerVal_pins (s : State) (v : Nat) : (answerVal v s).pins = s.pins := rfl
@[simp] theorem answerVal_jets (s : State) (v : Nat) : (answerVal v s).jets = s.jets := rfl
@[simp] theorem answerVal_edge (s : State) (v : Nat) : (answerVal v s).edge = s.edge := rfl
@[simp] theorem answerVal_weir (s : State) (v : Nat) : (answerVal v s).weir = s.weir := rfl
@[simp] theorem answerVal_hbm (s : State) (v : Nat) : (answerVal v s).hbm = s.hbm := rfl
@[simp] theorem answerVal_enc (s : State) (v : Nat) : (answerVal v s).enc = s.enc := rfl
@[simp] theorem answerVal_seqs (s : State) (v : Nat) : (answerVal v s).seqs = s.seqs := rfl
@[simp] theorem answerVal_ports (s : State) (v : Nat) : (answerVal v s).ports = s.ports := rfl
@[simp] theorem answerVal_fail (s : State) (v : Nat) : (answerVal v s).fail = s.fail := rfl
@[simp] theorem answerVal_ra (s : State) (v : Nat) : (answerVal v s).ra = s.ra := rfl
@[simp] theorem answerVal_sc (s : State) (v : Nat) : (answerVal v s).sc = s.sc := rfl
@[simp] theorem answerVal_noc (s : State) (v : Nat) : (answerVal v s).noc = s.noc := rfl
@[simp] theorem answerVal_fab (s : State) (v : Nat) : (answerVal v s).fab = s.fab := rfl
@[simp] theorem answerVal_ldr (s : State) (v : Nat) : (answerVal v s).ldr = s.ldr := rfl
@[simp] theorem answerVal_flash (s : State) (v : Nat) : (answerVal v s).flash = s.flash := rfl
@[simp] theorem answerVal_cluster (s : State) (v : Nat) : (answerVal v s).cluster = s.cluster := rfl
@[simp] theorem answerVal_casc (s : State) (v : Nat) : (answerVal v s).casc = s.casc := rfl
@[simp] theorem answerVal_sec (s : State) (v : Nat) : (answerVal v s).sec = s.sec := rfl
@[simp] theorem answerVal_boot (s : State) (v : Nat) : (answerVal v s).boot = s.boot := rfl
@[simp] theorem answerVal_dbg (s : State) (v : Nat) : (answerVal v s).dbg = s.dbg := rfl
@[simp] theorem answerVal_leap (s : State) (v : Nat) : (answerVal v s).leap = s.leap := rfl
@[simp] theorem answerVal_field (s : State) (v : Nat) : (answerVal v s).field = s.field := rfl
@[simp] theorem answerVal_pending (s : State) (v : Nat) : (answerVal v s).pending = s.pending := rfl
@[simp] theorem get_answerVal (s : State) (v : Nat) (f : Fld) : (answerVal v s).get f = s.get f := rfl

/-! Fields after `answerBytes`. -/
@[simp] theorem answerBytes_regs (s : State) (b : List Byte) : (answerBytes b s).regs = s.regs := rfl
@[simp] theorem answerBytes_bootMs (s : State) (b : List Byte) : (answerBytes b s).bootMs = s.bootMs := rfl
@[simp] theorem answerBytes_events (s : State) (b : List Byte) : (answerBytes b s).events = s.events := rfl
@[simp] theorem answerBytes_trace (s : State) (b : List Byte) : (answerBytes b s).trace = s.trace := rfl
@[simp] theorem answerBytes_power (s : State) (b : List Byte) : (answerBytes b s).power = s.power := rfl
@[simp] theorem answerBytes_profile (s : State) (b : List Byte) : (answerBytes b s).profile = s.profile := rfl
@[simp] theorem answerBytes_clock (s : State) (b : List Byte) : (answerBytes b s).clock = s.clock := rfl
@[simp] theorem answerBytes_pins (s : State) (b : List Byte) : (answerBytes b s).pins = s.pins := rfl
@[simp] theorem answerBytes_jets (s : State) (b : List Byte) : (answerBytes b s).jets = s.jets := rfl
@[simp] theorem answerBytes_edge (s : State) (b : List Byte) : (answerBytes b s).edge = s.edge := rfl
@[simp] theorem answerBytes_weir (s : State) (b : List Byte) : (answerBytes b s).weir = s.weir := rfl
@[simp] theorem answerBytes_hbm (s : State) (b : List Byte) : (answerBytes b s).hbm = s.hbm := rfl
@[simp] theorem answerBytes_enc (s : State) (b : List Byte) : (answerBytes b s).enc = s.enc := rfl
@[simp] theorem answerBytes_seqs (s : State) (b : List Byte) : (answerBytes b s).seqs = s.seqs := rfl
@[simp] theorem answerBytes_ports (s : State) (b : List Byte) : (answerBytes b s).ports = s.ports := rfl
@[simp] theorem answerBytes_fail (s : State) (b : List Byte) : (answerBytes b s).fail = s.fail := rfl
@[simp] theorem answerBytes_ra (s : State) (b : List Byte) : (answerBytes b s).ra = s.ra := rfl
@[simp] theorem answerBytes_sc (s : State) (b : List Byte) : (answerBytes b s).sc = s.sc := rfl
@[simp] theorem answerBytes_noc (s : State) (b : List Byte) : (answerBytes b s).noc = s.noc := rfl
@[simp] theorem answerBytes_fab (s : State) (b : List Byte) : (answerBytes b s).fab = s.fab := rfl
@[simp] theorem answerBytes_ldr (s : State) (b : List Byte) : (answerBytes b s).ldr = s.ldr := rfl
@[simp] theorem answerBytes_flash (s : State) (b : List Byte) : (answerBytes b s).flash = s.flash := rfl
@[simp] theorem answerBytes_cluster (s : State) (b : List Byte) : (answerBytes b s).cluster = s.cluster := rfl
@[simp] theorem answerBytes_casc (s : State) (b : List Byte) : (answerBytes b s).casc = s.casc := rfl
@[simp] theorem answerBytes_sec (s : State) (b : List Byte) : (answerBytes b s).sec = s.sec := rfl
@[simp] theorem answerBytes_boot (s : State) (b : List Byte) : (answerBytes b s).boot = s.boot := rfl
@[simp] theorem answerBytes_dbg (s : State) (b : List Byte) : (answerBytes b s).dbg = s.dbg := rfl
@[simp] theorem answerBytes_leap (s : State) (b : List Byte) : (answerBytes b s).leap = s.leap := rfl
@[simp] theorem answerBytes_field (s : State) (b : List Byte) : (answerBytes b s).field = s.field := rfl
@[simp] theorem answerBytes_pending (s : State) (b : List Byte) : (answerBytes b s).pending = s.pending := rfl
@[simp] theorem get_answerBytes (s : State) (b : List Byte) (f : Fld) : (answerBytes b s).get f = s.get f := rfl

/-! Fields after `raise`. -/
@[simp] theorem raise_regs (s : State) (code : Nat) (items : List EvItem) : (raise code items s).regs = s.regs := by
  unfold raise; dsimp only; split <;> split <;> rfl
@[simp] theorem raise_resp (s : State) (code : Nat) (items : List EvItem) : (raise code items s).resp = s.resp := by
  unfold raise; dsimp only; split <;> split <;> rfl
@[simp] theorem raise_bootMs (s : State) (code : Nat) (items : List EvItem) : (raise code items s).bootMs = s.bootMs := by
  unfold raise; dsimp only; split <;> split <;> rfl
@[simp] theorem raise_power (s : State) (code : Nat) (items : List EvItem) : (raise code items s).power = s.power := by
  unfold raise; dsimp only; split <;> split <;> rfl
@[simp] theorem raise_profile (s : State) (code : Nat) (items : List EvItem) : (raise code items s).profile = s.profile := by
  unfold raise; dsimp only; split <;> split <;> rfl
@[simp] theorem raise_clock (s : State) (code : Nat) (items : List EvItem) : (raise code items s).clock = s.clock := by
  unfold raise; dsimp only; split <;> split <;> rfl
@[simp] theorem raise_pins (s : State) (code : Nat) (items : List EvItem) : (raise code items s).pins = s.pins := by
  unfold raise; dsimp only; split <;> split <;> rfl
@[simp] theorem raise_jets (s : State) (code : Nat) (items : List EvItem) : (raise code items s).jets = s.jets := by
  unfold raise; dsimp only; split <;> split <;> rfl
@[simp] theorem raise_edge (s : State) (code : Nat) (items : List EvItem) : (raise code items s).edge = s.edge := by
  unfold raise; dsimp only; split <;> split <;> rfl
@[simp] theorem raise_weir (s : State) (code : Nat) (items : List EvItem) : (raise code items s).weir = s.weir := by
  unfold raise; dsimp only; split <;> split <;> rfl
@[simp] theorem raise_hbm (s : State) (code : Nat) (items : List EvItem) : (raise code items s).hbm = s.hbm := by
  unfold raise; dsimp only; split <;> split <;> rfl
@[simp] theorem raise_enc (s : State) (code : Nat) (items : List EvItem) : (raise code items s).enc = s.enc := by
  unfold raise; dsimp only; split <;> split <;> rfl
@[simp] theorem raise_seqs (s : State) (code : Nat) (items : List EvItem) : (raise code items s).seqs = s.seqs := by
  unfold raise; dsimp only; split <;> split <;> rfl
@[simp] theorem raise_ports (s : State) (code : Nat) (items : List EvItem) : (raise code items s).ports = s.ports := by
  unfold raise; dsimp only; split <;> split <;> rfl
@[simp] theorem raise_fail (s : State) (code : Nat) (items : List EvItem) : (raise code items s).fail = s.fail := by
  unfold raise; dsimp only; split <;> split <;> rfl
@[simp] theorem raise_ra (s : State) (code : Nat) (items : List EvItem) : (raise code items s).ra = s.ra := by
  unfold raise; dsimp only; split <;> split <;> rfl
@[simp] theorem raise_sc (s : State) (code : Nat) (items : List EvItem) : (raise code items s).sc = s.sc := by
  unfold raise; dsimp only; split <;> split <;> rfl
@[simp] theorem raise_noc (s : State) (code : Nat) (items : List EvItem) : (raise code items s).noc = s.noc := by
  unfold raise; dsimp only; split <;> split <;> rfl
@[simp] theorem raise_fab (s : State) (code : Nat) (items : List EvItem) : (raise code items s).fab = s.fab := by
  unfold raise; dsimp only; split <;> split <;> rfl
@[simp] theorem raise_ldr (s : State) (code : Nat) (items : List EvItem) : (raise code items s).ldr = s.ldr := by
  unfold raise; dsimp only; split <;> split <;> rfl
@[simp] theorem raise_flash (s : State) (code : Nat) (items : List EvItem) : (raise code items s).flash = s.flash := by
  unfold raise; dsimp only; split <;> split <;> rfl
@[simp] theorem raise_cluster (s : State) (code : Nat) (items : List EvItem) : (raise code items s).cluster = s.cluster := by
  unfold raise; dsimp only; split <;> split <;> rfl
@[simp] theorem raise_casc (s : State) (code : Nat) (items : List EvItem) : (raise code items s).casc = s.casc := by
  unfold raise; dsimp only; split <;> split <;> rfl
@[simp] theorem raise_sec (s : State) (code : Nat) (items : List EvItem) : (raise code items s).sec = s.sec := by
  unfold raise; dsimp only; split <;> split <;> rfl
@[simp] theorem raise_boot (s : State) (code : Nat) (items : List EvItem) : (raise code items s).boot = s.boot := by
  unfold raise; dsimp only; split <;> split <;> rfl
@[simp] theorem raise_dbg (s : State) (code : Nat) (items : List EvItem) : (raise code items s).dbg = s.dbg := by
  unfold raise; dsimp only; split <;> split <;> rfl
@[simp] theorem raise_leap (s : State) (code : Nat) (items : List EvItem) : (raise code items s).leap = s.leap := by
  unfold raise; dsimp only; split <;> split <;> rfl
@[simp] theorem raise_field (s : State) (code : Nat) (items : List EvItem) : (raise code items s).field = s.field := by
  unfold raise; dsimp only; split <;> split <;> rfl
@[simp] theorem raise_pending (s : State) (code : Nat) (items : List EvItem) : (raise code items s).pending = s.pending := by
  unfold raise; dsimp only; split <;> split <;> rfl
@[simp] theorem get_raise (s : State) (code : Nat) (items : List EvItem) (f : Fld) : (raise code items s).get f = s.get f := by
  unfold State.get; rw [raise_regs]

/-! Register fields do not depend on the other parts of the state. -/
@[simp] theorem get_with_resp (s : State) (x : Resp) (f : Fld) : State.get { s with resp := x } f = s.get f := rfl
@[simp] theorem get_with_bootMs (s : State) (x : Nat) (f : Fld) : State.get { s with bootMs := x } f = s.get f := rfl
@[simp] theorem get_with_events (s : State) (x : EventSt) (f : Fld) : State.get { s with events := x } f = s.get f := rfl
@[simp] theorem get_with_trace (s : State) (x : TraceSt) (f : Fld) : State.get { s with trace := x } f = s.get f := rfl
@[simp] theorem get_with_power (s : State) (x : PowerSt) (f : Fld) : State.get { s with power := x } f = s.get f := rfl
@[simp] theorem get_with_profile (s : State) (x : ProfileSt) (f : Fld) : State.get { s with profile := x } f = s.get f := rfl
@[simp] theorem get_with_clock (s : State) (x : ClockSt) (f : Fld) : State.get { s with clock := x } f = s.get f := rfl
@[simp] theorem get_with_pins (s : State) (x : PinSt) (f : Fld) : State.get { s with pins := x } f = s.get f := rfl
@[simp] theorem get_with_jets (s : State) (x : JetSt) (f : Fld) : State.get { s with jets := x } f = s.get f := rfl
@[simp] theorem get_with_edge (s : State) (x : EdgeSt) (f : Fld) : State.get { s with edge := x } f = s.get f := rfl
@[simp] theorem get_with_weir (s : State) (x : WeirSt) (f : Fld) : State.get { s with weir := x } f = s.get f := rfl
@[simp] theorem get_with_hbm (s : State) (x : HbmSt) (f : Fld) : State.get { s with hbm := x } f = s.get f := rfl
@[simp] theorem get_with_enc (s : State) (x : EncSt) (f : Fld) : State.get { s with enc := x } f = s.get f := rfl
@[simp] theorem get_with_seqs (s : State) (x : List SeqEng) (f : Fld) : State.get { s with seqs := x } f = s.get f := rfl
@[simp] theorem get_with_ports (s : State) (x : PortSt) (f : Fld) : State.get { s with ports := x } f = s.get f := rfl
@[simp] theorem get_with_fail (s : State) (x : FailSt) (f : Fld) : State.get { s with fail := x } f = s.get f := rfl
@[simp] theorem get_with_ra (s : State) (x : RaSt) (f : Fld) : State.get { s with ra := x } f = s.get f := rfl
@[simp] theorem get_with_sc (s : State) (x : ScSt) (f : Fld) : State.get { s with sc := x } f = s.get f := rfl
@[simp] theorem get_with_noc (s : State) (x : NocSt) (f : Fld) : State.get { s with noc := x } f = s.get f := rfl
@[simp] theorem get_with_fab (s : State) (x : FabSt) (f : Fld) : State.get { s with fab := x } f = s.get f := rfl
@[simp] theorem get_with_ldr (s : State) (x : LdrSt) (f : Fld) : State.get { s with ldr := x } f = s.get f := rfl
@[simp] theorem get_with_flash (s : State) (x : Memory) (f : Fld) : State.get { s with flash := x } f = s.get f := rfl
@[simp] theorem get_with_cluster (s : State) (x : ClusterSt) (f : Fld) : State.get { s with cluster := x } f = s.get f := rfl
@[simp] theorem get_with_casc (s : State) (x : CascSt) (f : Fld) : State.get { s with casc := x } f = s.get f := rfl
@[simp] theorem get_with_sec (s : State) (x : SecSt) (f : Fld) : State.get { s with sec := x } f = s.get f := rfl
@[simp] theorem get_with_boot (s : State) (x : BootSt) (f : Fld) : State.get { s with boot := x } f = s.get f := rfl
@[simp] theorem get_with_dbg (s : State) (x : DbgSt) (f : Fld) : State.get { s with dbg := x } f = s.get f := rfl
@[simp] theorem get_with_leap (s : State) (x : LeapSt) (f : Fld) : State.get { s with leap := x } f = s.get f := rfl
@[simp] theorem get_with_field (s : State) (x : FieldSt) (f : Fld) : State.get { s with field := x } f = s.get f := rfl
@[simp] theorem get_with_pending (s : State) (x : List Instr) (f : Fld) : State.get { s with pending := x } f = s.get f := rfl

/-! ### Answers -/

@[simp] theorem answer_resp (s : State) (st : Status) : (answer st s).resp = ⟨st, 0, []⟩ := rfl
@[simp] theorem answerVal_resp (s : State) (v : Nat) : (answerVal v s).resp = ⟨.done, v, []⟩ := rfl
@[simp] theorem answerBytes_resp (s : State) (b : List Byte) : (answerBytes b s).resp = ⟨.done, 0, b⟩ := rfl
@[simp] theorem answered_eq (r : Status × State) : answered r = answer r.1 r.2 := rfl

/-! ### Values of register fields -/

/-- A field written reads as the value cut to its width, where the register file has its keys in order. -/
@[simp] theorem get_set_self {s : State} (f : Fld) (v : Nat) (h : Sparse.Rising s.regs) : (s.set f v).get f = v % 2 ^ f.width :=
  regGet_regSet_self h

/-- Other fields stay. -/
theorem get_set_of_ne (s : State) {f g : Fld} (h : g.key ≠ f.key) (v : Nat) : (s.set f v).get g = s.get g := regGet_regSet_of_ne h v s.regs

theorem rising_set {s : State} (f : Fld) (v : Nat) (h : Sparse.Rising s.regs) : Sparse.Rising (s.set f v).regs := rising_regSet f v h

/-- A counter raised. -/
theorem get_count_self {s : State} (f : Fld) (n : Nat) (h : Sparse.Rising s.regs) :
    (s.count f n).get f = min (s.get f + n) (2 ^ f.width - 1) := by
  unfold State.count
  rw [get_set_self f _ h]
  have hp : 0 < 2 ^ f.width := Nat.two_pow_pos _
  exact Nat.mod_eq_of_lt (by omega)

end Sys2Proof.Machine
end

