-- ==== Sys2Proof/Laws/Keyed.lean ====
section
/-! SUPPORT. Engines kept in lists by number: the lists stay in rising order, and an engine reads back as it was put. -/
set_option Elab.async false
namespace Sys2Proof.Machine

theorem mem_engPut {e y : SeqEng} : ∀ {l : List SeqEng}, y ∈ engPut e l → y.q = e.q ∨ y ∈ l
  | [], h => by
    unfold engPut at h
    split at h
    · exact absurd h List.not_mem_nil
    · exact .inl (by rw [List.mem_singleton.1 h])
  | x :: r, h => by
    unfold engPut at h
    split at h
    · split at h
      · exact .inr h
      · exact (List.mem_cons.1 h).imp (by rintro rfl; rfl) id
    · split at h
      · split at h
        · exact .inr (List.mem_cons_of_mem _ h)
        · exact (List.mem_cons.1 h).imp (by rintro rfl; rfl) (List.mem_cons_of_mem _)
      · rcases List.mem_cons.1 h with rfl | h
        · exact .inr List.mem_cons_self
        · exact (mem_engPut h).imp id (List.mem_cons_of_mem _)

theorem rise_engPut (e : SeqEng) : ∀ {l : List SeqEng}, (l.map (·.q)).Pairwise (· < ·) → ((engPut e l).map (·.q)).Pairwise (· < ·)
  | [], _ => by
    unfold engPut
    split
    · exact List.Pairwise.nil
    · exact List.pairwise_singleton _ _
  | x :: r, h => by
    have h' := List.pairwise_cons.1 h
    unfold engPut
    split
    · rename_i hx
      split
      · exact h
      · refine List.pairwise_cons.2 ⟨fun b hb => ?_, h⟩
        rcases List.mem_cons.1 hb with rfl | hb
        · exact hx
        · exact Nat.lt_trans hx (h'.1 b hb)
    · rename_i hx
      split
      · rename_i he
        split
        · exact h'.2
        · exact List.pairwise_cons.2 ⟨fun b hb => Nat.lt_of_le_of_lt (Nat.le_of_eq he) (h'.1 b hb), h'.2⟩
      · rename_i he
        refine List.pairwise_cons.2 ⟨fun b hb => ?_, rise_engPut e h'.2⟩
        obtain ⟨y, hy, rfl⟩ := List.mem_map.1 hb
        rcases mem_engPut hy with hq | hq
        · show x.q < y.q
          omega
        · exact h'.1 _ (List.mem_map.2 ⟨y, hq, rfl⟩)

theorem find_engPut_self (e : SeqEng) : ∀ {l : List SeqEng}, (l.map (·.q)).Pairwise (· < ·) →
    ((engPut e l).find? (fun x => x.q == e.q)).getD (engReset e.q) = e
  | [], _ => by
    unfold engPut
    split
    · rename_i h; rw [List.find?_nil]; exact h.symm
    · simp
  | x :: r, h => by
    have h' := List.pairwise_cons.1 h
    have gone : ∀ {m : List SeqEng}, (∀ b ∈ m.map (·.q), e.q < b) → m.find? (fun y => y.q == e.q) = none := by
      intro m hm
      refine List.find?_eq_none.2 fun y hy hq => ?_
      have := hm y.q (List.mem_map.2 ⟨y, hy, rfl⟩)
      rw [beq_iff_eq] at hq
      omega
    unfold engPut
    split
    · rename_i hx
      split
      · rename_i he
        rw [gone (m := x :: r)]
        · exact he.symm
        · intro b hb
          rcases List.mem_cons.1 hb with rfl | hb
          · exact hx
          · exact Nat.lt_trans hx (h'.1 b hb)
      · simp
    · split
      · rename_i hx
        split
        · rename_i he
          rw [gone (fun b hb => hx ▸ h'.1 b hb)]
          exact he.symm
        · simp
      · rename_i hx
        rw [List.find?_cons_of_neg (by simpa using fun c => hx c.symm)]
        exact find_engPut_self e h'.2

theorem find_engPut_of_ne {e : SeqEng} {q : Nat} (hq : q ≠ e.q) : ∀ l : List SeqEng,
    (engPut e l).find? (fun x => x.q == q) = l.find? (fun x => x.q == q)
  | [] => by
    unfold engPut
    split
    · rfl
    · simp [Ne.symm hq]
  | x :: r => by
    unfold engPut
    split
    · split
      · rfl
      · rw [List.find?_cons_of_neg (by simpa using Ne.symm hq)]
    · split
      · rename_i hx
        split
        · rw [List.find?_cons_of_neg (l := r) (by simpa [← hx] using Ne.symm hq)]
        · rw [List.find?_cons_of_neg (by simpa using Ne.symm hq), List.find?_cons_of_neg (l := r) (by simpa [← hx] using Ne.symm hq)]
      · by_cases hc : x.q = q
        · rw [List.find?_cons_of_pos (by simpa using hc), List.find?_cons_of_pos (by simpa using hc)]
        · rw [List.find?_cons_of_neg (by simpa using hc), List.find?_cons_of_neg (by simpa using hc), find_engPut_of_ne hq r]

/-- An engine reads back as it was put. -/
theorem eng_setEng_self {e : SeqEng} {s : State} (h : (s.seqs.map (·.q)).Pairwise (· < ·)) : eng e.q (setEng e s) = e :=
  find_engPut_self e h

/-- Another sequencer's engine stays. -/
theorem eng_setEng_of_ne {e : SeqEng} {q : Nat} (h : q ≠ e.q) (s : State) : eng q (setEng e s) = eng q s := by
  unfold eng setEng
  rw [find_engPut_of_ne h]

/-- The engine found for a number has that number. -/
theorem eng_q (q : Nat) (s : State) : (eng q s).q = q := by
  unfold eng
  cases h : s.seqs.find? (fun e => e.q == q) with
  | none => rfl
  | some e => exact beq_iff_eq.1 (List.find?_some (p := fun e : SeqEng => e.q == q) h)

/-- An engine changed. -/
theorem eng_modEng {q : Nat} {f : SeqEng → SeqEng} {s : State} (h : (s.seqs.map (·.q)).Pairwise (· < ·)) (hf : (f (eng q s)).q = q) :
    eng q (modEng q f s) = f (eng q s) := by
  have := eng_setEng_self (e := f (eng q s)) h
  rwa [hf] at this

theorem mem_scPut {e y : ScCore} : ∀ {l : List ScCore}, y ∈ scPut e l → y.c = e.c ∨ y ∈ l
  | [], h => by
    unfold scPut at h
    split at h
    · exact absurd h List.not_mem_nil
    · exact .inl (by rw [List.mem_singleton.1 h])
  | x :: r, h => by
    unfold scPut at h
    split at h
    · split at h
      · exact .inr h
      · exact (List.mem_cons.1 h).imp (by rintro rfl; rfl) id
    · split at h
      · split at h
        · exact .inr (List.mem_cons_of_mem _ h)
        · exact (List.mem_cons.1 h).imp (by rintro rfl; rfl) (List.mem_cons_of_mem _)
      · rcases List.mem_cons.1 h with rfl | h
        · exact .inr List.mem_cons_self
        · exact (mem_scPut h).imp id (List.mem_cons_of_mem _)

theorem rise_scPut (e : ScCore) : ∀ {l : List ScCore}, (l.map (·.c)).Pairwise (· < ·) → ((scPut e l).map (·.c)).Pairwise (· < ·)
  | [], _ => by
    unfold scPut
    split
    · exact List.Pairwise.nil
    · exact List.pairwise_singleton _ _
  | x :: r, h => by
    have h' := List.pairwise_cons.1 h
    unfold scPut
    split
    · rename_i hx
      split
      · exact h
      · refine List.pairwise_cons.2 ⟨fun b hb => ?_, h⟩
        rcases List.mem_cons.1 hb with rfl | hb
        · exact hx
        · exact Nat.lt_trans hx (h'.1 b hb)
    · rename_i hx
      split
      · rename_i he
        split
        · exact h'.2
        · exact List.pairwise_cons.2 ⟨fun b hb => Nat.lt_of_le_of_lt (Nat.le_of_eq he) (h'.1 b hb), h'.2⟩
      · rename_i he
        refine List.pairwise_cons.2 ⟨fun b hb => ?_, rise_scPut e h'.2⟩
        obtain ⟨y, hy, rfl⟩ := List.mem_map.1 hb
        rcases mem_scPut hy with hq | hq
        · show x.c < y.c
          omega
        · exact h'.1 _ (List.mem_map.2 ⟨y, hq, rfl⟩)

theorem find_scPut_self (e : ScCore) : ∀ {l : List ScCore}, (l.map (·.c)).Pairwise (· < ·) →
    ((scPut e l).find? (fun x => x.c == e.c)).getD (scCore0 e.c) = e
  | [], _ => by
    unfold scPut
    split
    · rename_i h; rw [List.find?_nil]; exact h.symm
    · simp
  | x :: r, h => by
    have h' := List.pairwise_cons.1 h
    have gone : ∀ {m : List ScCore}, (∀ b ∈ m.map (·.c), e.c < b) → m.find? (fun y => y.c == e.c) = none := by
      intro m hm
      refine List.find?_eq_none.2 fun y hy hq => ?_
      have := hm y.c (List.mem_map.2 ⟨y, hy, rfl⟩)
      rw [beq_iff_eq] at hq
      omega
    unfold scPut
    split
    · rename_i hx
      split
      · rename_i he
        rw [gone (m := x :: r)]
        · exact he.symm
        · intro b hb
          rcases List.mem_cons.1 hb with rfl | hb
          · exact hx
          · exact Nat.lt_trans hx (h'.1 b hb)
      · simp
    · split
      · rename_i hx
        split
        · rename_i he
          rw [gone (fun b hb => hx ▸ h'.1 b hb)]
          exact he.symm
        · simp
      · rename_i hx
        rw [List.find?_cons_of_neg (by simpa using fun c => hx c.symm)]
        exact find_scPut_self e h'.2

/-- A core reads back as it was put. -/
theorem scCore_setScCore_self {x : ScCore} {s : State} (h : (s.sc.cores.map (·.c)).Pairwise (· < ·)) :
    scCore x.c (setScCore x s) = x := find_scPut_self x h

/-- The core found for a number has that number. -/
theorem scCore_c (c : Nat) (s : State) : (scCore c s).c = c := by
  unfold scCore
  cases h : s.sc.cores.find? (fun x => x.c == c) with
  | none => rfl
  | some e => exact beq_iff_eq.1 (List.find?_some (p := fun x : ScCore => x.c == c) h)

/-- A core changed. -/
theorem scCore_modSc {c : Nat} {f : ScCore → ScCore} {s : State} (h : (s.sc.cores.map (·.c)).Pairwise (· < ·))
    (hf : (f (scCore c s)).c = c) : scCore c (modSc c f s) = f (scCore c s) := by
  have := scCore_setScCore_self (x := f (scCore c s)) h
  rwa [hf] at this

end Sys2Proof.Machine
end

