-- ==== Sys2Proof/Laws/Memory.lean ====
section
/-! SUPPORT. Laws of the byte memories: reads after writes, and that every operation keeps the canonical form. -/
set_option Elab.async false
namespace Sys2Proof.Machine

/-- The canonical form, said of every entry: addresses rise, and no byte is the one an unlisted address reads as. -/
def Memory.Canon (d : Byte) (m : Memory) : Prop := (m.map (·.1)).Pairwise (· < ·) ∧ ∀ p ∈ m, p.2 ≠ d

theorem memOk_iff (d : Byte) : ∀ (lo : Option Nat) (m : Memory),
    memOk d lo m = true ↔ Memory.Canon d m ∧ ∀ l ∈ lo, ∀ p ∈ m, l < p.1
  | lo, [] => by simp [memOk, Memory.Canon]
  | lo, (a, b) :: r => by
    have e : memOk d lo ((a, b) :: r) = true ↔
        (∀ l ∈ lo, l < a) ∧ b ≠ d ∧ memOk d (some a) r = true := by
      cases lo <;> simp [memOk, and_assoc]
    rw [e, memOk_iff d (some a) r]
    simp only [Option.mem_def, Option.some.injEq, forall_eq', Memory.Canon, List.map_cons, List.pairwise_cons,
      List.mem_map, List.mem_cons, forall_eq_or_imp]
    constructor
    · rintro ⟨hl, hb, ⟨hr, hd⟩, ha⟩
      refine ⟨⟨⟨?_, hr⟩, hb, hd⟩, fun l h => ⟨hl l h, fun p hp => lt_trans (hl l h) (ha p hp)⟩⟩
      rintro x ⟨p, hp, rfl⟩
      exact ha p hp
    · rintro ⟨⟨⟨ha, hr⟩, hb, hd⟩, hl⟩
      exact ⟨fun l h => (hl l h).1, hb, ⟨hr, hd⟩, fun p hp => ha p.1 ⟨p, hp, rfl⟩⟩

theorem wf_iff (d : Byte) (m : Memory) : Memory.wf d m = true ↔ Memory.Canon d m := by
  unfold Memory.wf
  rw [memOk_iff]
  simp

theorem canon_nil (d : Byte) : Memory.Canon d [] := by simp [Memory.Canon]

theorem canon_cons {d : Byte} {p : Host.Cell} {r : Memory} :
    Memory.Canon d (p :: r) ↔ (∀ q ∈ r, p.1 < q.1) ∧ p.2 ≠ d ∧ Memory.Canon d r := by
  simp only [Memory.Canon, List.map_cons, List.pairwise_cons, List.mem_map, List.mem_cons, forall_eq_or_imp]
  constructor
  · rintro ⟨⟨h1, h2⟩, h3, h4⟩
    exact ⟨fun q hq => h1 q.1 ⟨q, hq, rfl⟩, h3, h2, h4⟩
  · rintro ⟨h1, h2, h3, h4⟩
    refine ⟨⟨?_, h3⟩, h2, h4⟩
    rintro x ⟨q, hq, rfl⟩
    exact h1 q hq

theorem mem_memDel {a : Nat} {q : Host.Cell} : ∀ {m : Memory}, q ∈ memDel a m → q ∈ m
  | [], h => h
  | (a', b) :: r, h => by
    rw [memDel] at h
    split at h
    · exact List.mem_cons_of_mem _ h
    · rcases List.mem_cons.1 h with rfl | h
      · simp
      · exact List.mem_cons_of_mem _ (mem_memDel h)

theorem mem_memPut {a : Nat} {b : Byte} {q : Host.Cell} : ∀ {m : Memory}, q ∈ memPut a b m → q = (a, b) ∨ q ∈ m
  | [], h => by simpa [memPut] using h
  | (a', b') :: r, h => by
    rw [memPut] at h
    split at h
    · simpa using h
    · split at h
      · rcases List.mem_cons.1 h with rfl | h
        · simp
        · simp [h]
      · rcases List.mem_cons.1 h with rfl | h
        · simp
        · rcases mem_memPut h with h | h <;> simp [h]

theorem canon_memDel {d : Byte} (a : Nat) : ∀ {m : Memory}, Memory.Canon d m → Memory.Canon d (memDel a m)
  | [], h => h
  | (a', b) :: r, h => by
    rw [memDel]
    have h' := canon_cons.1 h
    split
    · exact h'.2.2
    · exact canon_cons.2 ⟨fun q hq => h'.1 q (mem_memDel hq), h'.2.1, canon_memDel a h'.2.2⟩

theorem canon_memPut {d : Byte} (a : Nat) {b : Byte} (hb : b ≠ d) :
    ∀ {m : Memory}, Memory.Canon d m → Memory.Canon d (memPut a b m)
  | [], _ => by simp [memPut, Memory.Canon, hb]
  | (a', b') :: r, h => by
    rw [memPut]
    have h' := canon_cons.1 h
    split
    · rename_i ha
      refine canon_cons.2 ⟨?_, hb, h⟩
      intro q hq
      rcases List.mem_cons.1 hq with rfl | hq
      · exact ha
      · exact lt_trans ha (h'.1 q hq)
    · split
      · rename_i ha
        subst ha
        exact canon_cons.2 ⟨h'.1, hb, h'.2.2⟩
      · refine canon_cons.2 ⟨?_, h'.2.1, canon_memPut a hb h'.2.2⟩
        intro q hq
        rcases mem_memPut hq with rfl | hq
        · show a' < a; omega
        · exact h'.1 q hq

theorem canon_memSet {d : Byte} (a : Nat) (b : Byte) {m : Memory} (h : Memory.Canon d m) : Memory.Canon d (memSet d a b m) := by
  unfold memSet
  split
  · exact canon_memDel a h
  · exact canon_memPut a (by assumption) h

theorem canon_memWrite {d : Byte} : ∀ (l : List Byte) (a : Nat) {m : Memory}, Memory.Canon d m → Memory.Canon d (memWrite d a l m)
  | [], _, _, h => h
  | b :: r, a, _, h => canon_memWrite r (a + 1) (canon_memSet a b h)

theorem canon_memErase {d : Byte} (lo hi : Nat) {m : Memory} (h : Memory.Canon d m) : Memory.Canon d (memErase lo hi m) :=
  ⟨List.Pairwise.sublist (List.Sublist.map _ List.filter_sublist) h.1, fun p hp => h.2 p (List.mem_of_mem_filter hp)⟩

/-! Reads after writes. -/

theorem memGet_of_lt {d : Byte} {a : Nat} : ∀ {m : Memory}, (∀ q ∈ m, a < q.1) → memGet d a m = d
  | [], _ => rfl
  | (a', b) :: r, h => by
    have h1 : a < a' := h (a', b) (by simp)
    rw [memGet, if_neg (by omega)]
    exact memGet_of_lt (fun q hq => h q (by simp [hq]))

theorem memGet_memDel_of_ne {d : Byte} {a c : Nat} (h : c ≠ a) : ∀ m : Memory, memGet d c (memDel a m) = memGet d c m
  | [] => rfl
  | (a', b) :: r => by
    rw [memDel]
    split
    · rename_i ha
      subst ha
      rw [memGet, if_neg h]
    · rw [memGet, memGet, memGet_memDel_of_ne h r]

theorem memGet_memDel_self {d : Byte} {a : Nat} : ∀ {m : Memory}, Memory.Canon d m → memGet d a (memDel a m) = d
  | [], _ => rfl
  | (a', b) :: r, h => by
    have h' := canon_cons.1 h
    rw [memDel]
    split
    · rename_i ha
      subst ha
      exact memGet_of_lt h'.1
    · rw [memGet, if_neg (by assumption)]
      exact memGet_memDel_self h'.2.2

theorem memGet_memPut_self {d : Byte} (a : Nat) (b : Byte) : ∀ m : Memory, memGet d a (memPut a b m) = b
  | [] => by simp [memPut, memGet]
  | (a', b') :: r => by
    rw [memPut]
    split
    · simp [memGet]
    · split
      · simp [memGet]
      · rw [memGet, if_neg (by assumption)]
        exact memGet_memPut_self a b r

theorem memGet_memPut_of_ne {d : Byte} {a c : Nat} (h : c ≠ a) (b : Byte) :
    ∀ m : Memory, memGet d c (memPut a b m) = memGet d c m
  | [] => by simp [memPut, memGet, h]
  | (a', b') :: r => by
    rw [memPut]
    split
    · rw [memGet, if_neg h]
    · split
      · rename_i ha
        subst ha
        rw [memGet, if_neg h, memGet, if_neg h]
      · rw [memGet, memGet, memGet_memPut_of_ne h b r]

/-- A byte written reads back (R345's line, R105's flash and their like are made of these). -/
theorem memGet_memSet_self {d : Byte} (a : Nat) (b : Byte) {m : Memory} (h : Memory.Canon d m) :
    memGet d a (memSet d a b m) = b := by
  unfold memSet
  split
  · rename_i hb
    rw [memGet_memDel_self h, hb]
  · exact memGet_memPut_self a b m

/-- Every other byte stays. -/
theorem memGet_memSet_of_ne {d : Byte} {a c : Nat} (h : c ≠ a) (b : Byte) (m : Memory) :
    memGet d c (memSet d a b m) = memGet d c m := by
  unfold memSet
  split
  · exact memGet_memDel_of_ne h m
  · exact memGet_memPut_of_ne h b m

theorem memGet_memWrite_of_out {d : Byte} : ∀ (l : List Byte) {a c : Nat} (m : Memory),
    ¬(a ≤ c ∧ c < a + l.length) → memGet d c (memWrite d a l m) = memGet d c m
  | [], _, _, _, _ => rfl
  | b :: r, a, c, m, h => by
    simp only [List.length_cons] at h
    rw [memWrite, memGet_memWrite_of_out r _ (by omega), memGet_memSet_of_ne (by omega)]

theorem memGet_memWrite_of_in {d : Byte} : ∀ (l : List Byte) {a c : Nat} {m : Memory} (_ : Memory.Canon d m)
    (_ : a ≤ c) (h' : c - a < l.length), memGet d c (memWrite d a l m) = l[c - a]
  | [], _, _, _, _, _, h' => absurd h' (Nat.not_lt_zero _)
  | b :: r, a, c, m, hm, h, h' => by
    rw [memWrite]
    by_cases hc : c = a
    · subst hc
      rw [memGet_memWrite_of_out r _ (by omega), memGet_memSet_self _ _ hm]
      simp
    · simp only [List.length_cons] at h'
      rw [memGet_memWrite_of_in r (canon_memSet a b hm) (by omega) (by omega)]
      have e : c - a = (c - (a + 1)) + 1 := by omega
      simp only [e, List.getElem_cons_succ]

end Sys2Proof.Machine
end

