-- ==== Sys2Proof/Laws/Within.lean ====
section
/-! SUPPORT. What an operation can reach. `Within A s t` says that `t` comes from `s` with at most the parts of the state
whose bits are set in the mask `A` changed: bit i below 29 is the i-th field of `State` beside the register file and the queue,
bit 32 + i is the i-th register block of `blockStarts` (Safety.lean); bits 32 and 128 are the keys below and above all blocks. It says as well
what no operation ever does: the queue of commands stays, the stores keep their canonical forms, the Sluice queue and the event ring keep
their bounds (R59, R510), and one-time memory is never unprogrammed (R465, R469, R476). Each operation has one such
lemma, named after it; later proofs cite it instead of unfolding the operation. -/
set_option Elab.async false
namespace Sys2Proof.Machine

/-- The mask bit of the register block that a key of the register file lies in. -/
def winBit (k : Nat) : Nat := 32 + blockIndex k

theorem winBit_mono {j k : Nat} (h : j ≤ k) : winBit j ≤ winBit k := by
  refine Nat.add_le_add_left (List.countP_mono_left fun a _ ha => ?_) 32
  simp only [decide_eq_true_eq] at *
  omega

theorem winBit_of_le {k x y w : Nat} (hx : winBit x = w) (hy : winBit y = w) (h1 : x ≤ k) (h2 : k ≤ y) : winBit k = w :=
  Nat.le_antisymm (hy ▸ winBit_mono h2) (hx ▸ winBit_mono h1)

theorem winBit_ge (k : Nat) : 32 ≤ winBit k := Nat.le_add_right 32 _

theorem winBit_le (k : Nat) : winBit k ≤ 128 := Nat.add_le_add_left List.countP_le_length 32

/-- Every store of the part is in its canonical form. -/
structure State.Canon (s : State) : Prop where
  regs : Sparse.Rising s.regs
  hbm : Memory.Canon 0 s.hbm.mem
  flash : Memory.Canon 0xFF s.flash
  cfg : Memory.Canon 0 s.fab.cfg
  editions : Memory.Canon 0 s.sec.editions
  ledger : Memory.Canon 0 s.sec.ledger
  ring : s.events.ring.length ≤ 1024
  queue : s.power.queue.length ≤ 64
  seqs : (s.seqs.map (·.q)).Pairwise (· < ·)
  cores : (s.sc.cores.map (·.c)).Pairwise (· < ·)

/-- One-time memory only gains: the places used, the bytes in them, the bits of the lifecycle word, the device secret's end. -/
structure Otp (x y : SecSt) : Prop where
  used : x.used ≤ y.used
  editions : ∀ a, a < 4096 * x.used → memGet 0 a y.editions = memGet 0 a x.editions
  ledgerUsed : x.ledgerUsed ≤ y.ledgerUsed
  ledger : ∀ a, a < 16 * x.ledgerUsed → memGet 0 a y.ledger = memGet 0 a x.ledger
  lc : ∀ i, bit x.lc i = true → bit y.lc i = true
  secret : x.secretGone = true → y.secretGone = true

theorem bit_putBit {v i : Nat} (j : Nat) (h : bit v i = true) : bit (putBit v j true) i = true := by
  unfold putBit
  split
  · exact h
  · rename_i hj
    simp only [if_true]
    unfold bit at *
    simp only [beq_iff_eq] at *
    have h0 : v / 2 ^ j % 2 = 0 := by omega
    rcases Nat.lt_trichotomy i j with hij | rfl | hij
    · obtain ⟨k, rfl⟩ := Nat.exists_eq_add_of_lt hij
      have e : 2 ^ (i + k + 1) = 2 ^ i * (2 * 2 ^ k) := by ring
      rw [e, Nat.add_mul_div_left _ _ (by positivity), Nat.add_mul_mod_self_left]
      exact h
    · omega
    · obtain ⟨k, rfl⟩ := Nat.exists_eq_add_of_lt hij
      have e : 2 ^ (j + k + 1) = 2 ^ j * 2 * 2 ^ k := by ring
      have e1 : ∀ x : Nat, x / 2 ^ (j + k + 1) = x / 2 ^ j / 2 / 2 ^ k := by
        intro x
        rw [e, ← Nat.div_div_eq_div_mul, ← Nat.div_div_eq_div_mul]
      rw [e1] at h ⊢
      have e2 : (v + 2 ^ j) / 2 ^ j = v / 2 ^ j + 1 := Nat.add_div_right _ (by positivity)
      have e3 : (v / 2 ^ j + 1) / 2 = v / 2 ^ j / 2 := by omega
      rw [e2, e3]
      exact h

theorem Otp.refl (x : SecSt) : Otp x x :=
  ⟨Nat.le_refl _, fun _ _ => rfl, Nat.le_refl _, fun _ _ => rfl, fun _ h => h, fun h => h⟩

theorem Otp.same {x y : SecSt} (h1 : y.used = x.used) (h2 : y.editions = x.editions) (h3 : y.ledgerUsed = x.ledgerUsed)
    (h4 : y.ledger = x.ledger) (h5 : y.lc = x.lc) (h6 : y.secretGone = x.secretGone) : Otp x y :=
  ⟨h1 ▸ Nat.le_refl _, fun _ _ => by rw [h2], h3 ▸ Nat.le_refl _, fun _ _ => by rw [h4], fun _ h => h5 ▸ h, fun h => h6 ▸ h⟩

theorem Otp.trans {x y z : SecSt} (h : Otp x y) (g : Otp y z) : Otp x z :=
  ⟨Nat.le_trans h.used g.used,
   fun a ha => (g.editions a (Nat.lt_of_lt_of_le ha (Nat.mul_le_mul_left _ h.used))).trans (h.editions a ha),
   Nat.le_trans h.ledgerUsed g.ledgerUsed,
   fun a ha => (g.ledger a (Nat.lt_of_lt_of_le ha (Nat.mul_le_mul_left _ h.ledgerUsed))).trans (h.ledger a ha),
   fun i hi => g.lc i (h.lc i hi), fun hs => g.secret (h.secret hs)⟩

/-- What an operation can reach: see the head of this file. -/
structure Within (A : Nat) (s t : State) : Prop where
  pending : t.pending = s.pending
  regs : ∀ k, A.testBit (winBit k) = false → spFind k t.regs = spFind k s.regs
  resp : A.testBit 0 = false → t.resp = s.resp
  bootMs : A.testBit 1 = false → t.bootMs = s.bootMs
  events : A.testBit 2 = false → t.events = s.events
  trace : A.testBit 3 = false → t.trace = s.trace
  power : A.testBit 4 = false → t.power = s.power
  profile : A.testBit 5 = false → t.profile = s.profile
  clock : A.testBit 6 = false → t.clock = s.clock
  pins : A.testBit 7 = false → t.pins = s.pins
  jets : A.testBit 8 = false → t.jets = s.jets
  edge : A.testBit 9 = false → t.edge = s.edge
  weir : A.testBit 10 = false → t.weir = s.weir
  hbm : A.testBit 11 = false → t.hbm = s.hbm
  enc : A.testBit 12 = false → t.enc = s.enc
  seqs : A.testBit 13 = false → t.seqs = s.seqs
  ports : A.testBit 14 = false → t.ports = s.ports
  fail : A.testBit 15 = false → t.fail = s.fail
  ra : A.testBit 16 = false → t.ra = s.ra
  sc : A.testBit 17 = false → t.sc = s.sc
  noc : A.testBit 18 = false → t.noc = s.noc
  fab : A.testBit 19 = false → t.fab = s.fab
  ldr : A.testBit 20 = false → t.ldr = s.ldr
  flash : A.testBit 21 = false → t.flash = s.flash
  cluster : A.testBit 22 = false → t.cluster = s.cluster
  casc : A.testBit 23 = false → t.casc = s.casc
  sec : A.testBit 24 = false → t.sec = s.sec
  boot : A.testBit 25 = false → t.boot = s.boot
  dbg : A.testBit 26 = false → t.dbg = s.dbg
  leap : A.testBit 27 = false → t.leap = s.leap
  field : A.testBit 28 = false → t.field = s.field
  canon : s.Canon → t.Canon
  otp : Otp s.sec t.sec

/-- `m` is part of `A`. -/
abbrev Sub (m A : Nat) : Prop := Nat.land m A = m

theorem Sub.refl (m : Nat) : Sub m m := Nat.and_self m

theorem Sub.trans {m n A : Nat} (h : Sub m n) (g : Sub n A) : Sub m A := by
  unfold Sub at *
  calc Nat.land m A = Nat.land (Nat.land m n) A := by rw [h]
    _ = Nat.land m (Nat.land n A) := Nat.land_assoc m n A
    _ = m := by rw [g, h]

theorem Sub.bit {m A : Nat} (h : Sub m A) {i : Nat} (hi : m.testBit i = true) : A.testBit i = true := by
  unfold Sub at h
  rw [← h] at hi
  have e : (m &&& A).testBit i = true := hi
  rw [Nat.testBit_land, Bool.and_eq_true] at e
  exact e.2

theorem Within.refl (A : Nat) (s : State) : Within A s s :=
  ⟨rfl, fun _ _ => rfl, fun _ => rfl, fun _ => rfl, fun _ => rfl, fun _ => rfl, fun _ => rfl, fun _ => rfl, fun _ => rfl, fun _ => rfl, fun _ => rfl, fun _ => rfl, fun _ => rfl, fun _ => rfl, fun _ => rfl, fun _ => rfl, fun _ => rfl, fun _ => rfl, fun _ => rfl, fun _ => rfl, fun _ => rfl, fun _ => rfl, fun _ => rfl, fun _ => rfl, fun _ => rfl, fun _ => rfl, fun _ => rfl, fun _ => rfl, fun _ => rfl, fun _ => rfl, fun _ => rfl, fun h => h, Otp.refl _⟩

theorem Within.trans {A : Nat} {s t u : State} (h : Within A s t) (g : Within A t u) : Within A s u :=
  ⟨g.pending.trans h.pending, fun k hk => (g.regs k hk).trans (h.regs k hk),
   fun a => (g.resp a).trans (h.resp a),
fun a => (g.bootMs a).trans (h.bootMs a),
fun a => (g.events a).trans (h.events a),
fun a => (g.trace a).trans (h.trace a),
fun a => (g.power a).trans (h.power a),
fun a => (g.profile a).trans (h.profile a),
fun a => (g.clock a).trans (h.clock a),
fun a => (g.pins a).trans (h.pins a),
fun a => (g.jets a).trans (h.jets a),
fun a => (g.edge a).trans (h.edge a),
fun a => (g.weir a).trans (h.weir a),
fun a => (g.hbm a).trans (h.hbm a),
fun a => (g.enc a).trans (h.enc a),
fun a => (g.seqs a).trans (h.seqs a),
fun a => (g.ports a).trans (h.ports a),
fun a => (g.fail a).trans (h.fail a),
fun a => (g.ra a).trans (h.ra a),
fun a => (g.sc a).trans (h.sc a),
fun a => (g.noc a).trans (h.noc a),
fun a => (g.fab a).trans (h.fab a),
fun a => (g.ldr a).trans (h.ldr a),
fun a => (g.flash a).trans (h.flash a),
fun a => (g.cluster a).trans (h.cluster a),
fun a => (g.casc a).trans (h.casc a),
fun a => (g.sec a).trans (h.sec a),
fun a => (g.boot a).trans (h.boot a),
fun a => (g.dbg a).trans (h.dbg a),
fun a => (g.leap a).trans (h.leap a),
fun a => (g.field a).trans (h.field a),
   fun c => g.canon (h.canon c), h.otp.trans g.otp⟩

theorem Within.mono {A B : Nat} {s t : State} (hAB : Sub A B) (h : Within A s t) : Within B s t := by
  have f : ∀ {i : Nat}, B.testBit i = false → A.testBit i = false := by
    intro i hi
    by_contra hn
    rw [hAB.bit (by simpa using hn)] at hi
    exact absurd hi (by decide)
  exact ⟨h.pending, fun k hk => h.regs k (f hk), fun a => h.resp (f a), fun a => h.bootMs (f a), fun a => h.events (f a), fun a => h.trace (f a), fun a => h.power (f a), fun a => h.profile (f a), fun a => h.clock (f a), fun a => h.pins (f a), fun a => h.jets (f a), fun a => h.edge (f a), fun a => h.weir (f a), fun a => h.hbm (f a), fun a => h.enc (f a), fun a => h.seqs (f a), fun a => h.ports (f a), fun a => h.fail (f a), fun a => h.ra (f a), fun a => h.sc (f a), fun a => h.noc (f a), fun a => h.fab (f a), fun a => h.ldr (f a), fun a => h.flash (f a), fun a => h.cluster (f a), fun a => h.casc (f a), fun a => h.sec (f a), fun a => h.boot (f a), fun a => h.dbg (f a), fun a => h.leap (f a), fun a => h.field (f a), h.canon, h.otp⟩

/-- Fields of State that stay the same keep what depends on them. -/
theorem Within.ofRegs {A : Nat} {u s : State} {m : Sparse} (h : Within A u s) (hm : Sparse.Rising s.regs → Sparse.Rising m)
    (hf : ∀ k, A.testBit (winBit k) = false → spFind k m = spFind k s.regs) : Within A u { s with regs := m } :=
  ⟨h.pending, fun k hk => (hf k hk).trans (h.regs k hk), h.resp, h.bootMs, h.events, h.trace, h.power, h.profile, h.clock, h.pins, h.jets, h.edge, h.weir, h.hbm, h.enc, h.seqs, h.ports, h.fail, h.ra, h.sc, h.noc, h.fab, h.ldr, h.flash, h.cluster, h.casc, h.sec, h.boot, h.dbg, h.leap, h.field,
   fun c => ⟨hm (h.canon c).regs, (h.canon c).hbm, (h.canon c).flash, (h.canon c).cfg, (h.canon c).editions, (h.canon c).ledger, (h.canon c).ring, (h.canon c).queue, (h.canon c).seqs, (h.canon c).cores⟩, h.otp⟩

theorem Within.resp_ {A : Nat} {u s : State} {x : Resp} (hA : A.testBit 0 = true) (h : Within A u s) :
    Within A u { s with resp := x } :=
  ⟨h.pending, h.regs, fun a => absurd a (by simp [hA]), h.bootMs, h.events, h.trace, h.power, h.profile, h.clock, h.pins, h.jets, h.edge, h.weir, h.hbm, h.enc, h.seqs, h.ports, h.fail, h.ra, h.sc, h.noc, h.fab, h.ldr, h.flash, h.cluster, h.casc, h.sec, h.boot, h.dbg, h.leap, h.field, fun c => ⟨(h.canon c).regs, (h.canon c).hbm, (h.canon c).flash, (h.canon c).cfg, (h.canon c).editions, (h.canon c).ledger, (h.canon c).ring, (h.canon c).queue, (h.canon c).seqs, (h.canon c).cores⟩, h.otp⟩

theorem Within.bootMs_ {A : Nat} {u s : State} {x : Nat} (hA : A.testBit 1 = true) (h : Within A u s) :
    Within A u { s with bootMs := x } :=
  ⟨h.pending, h.regs, h.resp, fun a => absurd a (by simp [hA]), h.events, h.trace, h.power, h.profile, h.clock, h.pins, h.jets, h.edge, h.weir, h.hbm, h.enc, h.seqs, h.ports, h.fail, h.ra, h.sc, h.noc, h.fab, h.ldr, h.flash, h.cluster, h.casc, h.sec, h.boot, h.dbg, h.leap, h.field, fun c => ⟨(h.canon c).regs, (h.canon c).hbm, (h.canon c).flash, (h.canon c).cfg, (h.canon c).editions, (h.canon c).ledger, (h.canon c).ring, (h.canon c).queue, (h.canon c).seqs, (h.canon c).cores⟩, h.otp⟩

theorem Within.events_ {A : Nat} {u s : State} {x : EventSt} (hA : A.testBit 2 = true) (h : Within A u s)
    (hx : s.events.ring.length ≤ 1024 → x.ring.length ≤ 1024 := by exact fun c => c) :
    Within A u { s with events := x } :=
  ⟨h.pending, h.regs, h.resp, h.bootMs, fun a => absurd a (by simp [hA]), h.trace, h.power, h.profile, h.clock, h.pins, h.jets, h.edge, h.weir, h.hbm, h.enc, h.seqs, h.ports, h.fail, h.ra, h.sc, h.noc, h.fab, h.ldr, h.flash, h.cluster, h.casc, h.sec, h.boot, h.dbg, h.leap, h.field, fun c => ⟨(h.canon c).regs, (h.canon c).hbm, (h.canon c).flash, (h.canon c).cfg, (h.canon c).editions, (h.canon c).ledger, hx (h.canon c).ring, (h.canon c).queue, (h.canon c).seqs, (h.canon c).cores⟩, h.otp⟩

theorem Within.trace_ {A : Nat} {u s : State} {x : TraceSt} (hA : A.testBit 3 = true) (h : Within A u s) :
    Within A u { s with trace := x } :=
  ⟨h.pending, h.regs, h.resp, h.bootMs, h.events, fun a => absurd a (by simp [hA]), h.power, h.profile, h.clock, h.pins, h.jets, h.edge, h.weir, h.hbm, h.enc, h.seqs, h.ports, h.fail, h.ra, h.sc, h.noc, h.fab, h.ldr, h.flash, h.cluster, h.casc, h.sec, h.boot, h.dbg, h.leap, h.field, fun c => ⟨(h.canon c).regs, (h.canon c).hbm, (h.canon c).flash, (h.canon c).cfg, (h.canon c).editions, (h.canon c).ledger, (h.canon c).ring, (h.canon c).queue, (h.canon c).seqs, (h.canon c).cores⟩, h.otp⟩

theorem Within.power_ {A : Nat} {u s : State} {x : PowerSt} (hA : A.testBit 4 = true) (h : Within A u s)
    (hx : s.power.queue.length ≤ 64 → x.queue.length ≤ 64 := by exact fun c => c) :
    Within A u { s with power := x } :=
  ⟨h.pending, h.regs, h.resp, h.bootMs, h.events, h.trace, fun a => absurd a (by simp [hA]), h.profile, h.clock, h.pins, h.jets, h.edge, h.weir, h.hbm, h.enc, h.seqs, h.ports, h.fail, h.ra, h.sc, h.noc, h.fab, h.ldr, h.flash, h.cluster, h.casc, h.sec, h.boot, h.dbg, h.leap, h.field, fun c => ⟨(h.canon c).regs, (h.canon c).hbm, (h.canon c).flash, (h.canon c).cfg, (h.canon c).editions, (h.canon c).ledger, (h.canon c).ring, hx (h.canon c).queue, (h.canon c).seqs, (h.canon c).cores⟩, h.otp⟩

theorem Within.profile_ {A : Nat} {u s : State} {x : ProfileSt} (hA : A.testBit 5 = true) (h : Within A u s) :
    Within A u { s with profile := x } :=
  ⟨h.pending, h.regs, h.resp, h.bootMs, h.events, h.trace, h.power, fun a => absurd a (by simp [hA]), h.clock, h.pins, h.jets, h.edge, h.weir, h.hbm, h.enc, h.seqs, h.ports, h.fail, h.ra, h.sc, h.noc, h.fab, h.ldr, h.flash, h.cluster, h.casc, h.sec, h.boot, h.dbg, h.leap, h.field, fun c => ⟨(h.canon c).regs, (h.canon c).hbm, (h.canon c).flash, (h.canon c).cfg, (h.canon c).editions, (h.canon c).ledger, (h.canon c).ring, (h.canon c).queue, (h.canon c).seqs, (h.canon c).cores⟩, h.otp⟩

theorem Within.clock_ {A : Nat} {u s : State} {x : ClockSt} (hA : A.testBit 6 = true) (h : Within A u s) :
    Within A u { s with clock := x } :=
  ⟨h.pending, h.regs, h.resp, h.bootMs, h.events, h.trace, h.power, h.profile, fun a => absurd a (by simp [hA]), h.pins, h.jets, h.edge, h.weir, h.hbm, h.enc, h.seqs, h.ports, h.fail, h.ra, h.sc, h.noc, h.fab, h.ldr, h.flash, h.cluster, h.casc, h.sec, h.boot, h.dbg, h.leap, h.field, fun c => ⟨(h.canon c).regs, (h.canon c).hbm, (h.canon c).flash, (h.canon c).cfg, (h.canon c).editions, (h.canon c).ledger, (h.canon c).ring, (h.canon c).queue, (h.canon c).seqs, (h.canon c).cores⟩, h.otp⟩

theorem Within.pins_ {A : Nat} {u s : State} {x : PinSt} (hA : A.testBit 7 = true) (h : Within A u s) :
    Within A u { s with pins := x } :=
  ⟨h.pending, h.regs, h.resp, h.bootMs, h.events, h.trace, h.power, h.profile, h.clock, fun a => absurd a (by simp [hA]), h.jets, h.edge, h.weir, h.hbm, h.enc, h.seqs, h.ports, h.fail, h.ra, h.sc, h.noc, h.fab, h.ldr, h.flash, h.cluster, h.casc, h.sec, h.boot, h.dbg, h.leap, h.field, fun c => ⟨(h.canon c).regs, (h.canon c).hbm, (h.canon c).flash, (h.canon c).cfg, (h.canon c).editions, (h.canon c).ledger, (h.canon c).ring, (h.canon c).queue, (h.canon c).seqs, (h.canon c).cores⟩, h.otp⟩

theorem Within.jets_ {A : Nat} {u s : State} {x : JetSt} (hA : A.testBit 8 = true) (h : Within A u s) :
    Within A u { s with jets := x } :=
  ⟨h.pending, h.regs, h.resp, h.bootMs, h.events, h.trace, h.power, h.profile, h.clock, h.pins, fun a => absurd a (by simp [hA]), h.edge, h.weir, h.hbm, h.enc, h.seqs, h.ports, h.fail, h.ra, h.sc, h.noc, h.fab, h.ldr, h.flash, h.cluster, h.casc, h.sec, h.boot, h.dbg, h.leap, h.field, fun c => ⟨(h.canon c).regs, (h.canon c).hbm, (h.canon c).flash, (h.canon c).cfg, (h.canon c).editions, (h.canon c).ledger, (h.canon c).ring, (h.canon c).queue, (h.canon c).seqs, (h.canon c).cores⟩, h.otp⟩

theorem Within.edge_ {A : Nat} {u s : State} {x : EdgeSt} (hA : A.testBit 9 = true) (h : Within A u s) :
    Within A u { s with edge := x } :=
  ⟨h.pending, h.regs, h.resp, h.bootMs, h.events, h.trace, h.power, h.profile, h.clock, h.pins, h.jets, fun a => absurd a (by simp [hA]), h.weir, h.hbm, h.enc, h.seqs, h.ports, h.fail, h.ra, h.sc, h.noc, h.fab, h.ldr, h.flash, h.cluster, h.casc, h.sec, h.boot, h.dbg, h.leap, h.field, fun c => ⟨(h.canon c).regs, (h.canon c).hbm, (h.canon c).flash, (h.canon c).cfg, (h.canon c).editions, (h.canon c).ledger, (h.canon c).ring, (h.canon c).queue, (h.canon c).seqs, (h.canon c).cores⟩, h.otp⟩

theorem Within.weir_ {A : Nat} {u s : State} {x : WeirSt} (hA : A.testBit 10 = true) (h : Within A u s) :
    Within A u { s with weir := x } :=
  ⟨h.pending, h.regs, h.resp, h.bootMs, h.events, h.trace, h.power, h.profile, h.clock, h.pins, h.jets, h.edge, fun a => absurd a (by simp [hA]), h.hbm, h.enc, h.seqs, h.ports, h.fail, h.ra, h.sc, h.noc, h.fab, h.ldr, h.flash, h.cluster, h.casc, h.sec, h.boot, h.dbg, h.leap, h.field, fun c => ⟨(h.canon c).regs, (h.canon c).hbm, (h.canon c).flash, (h.canon c).cfg, (h.canon c).editions, (h.canon c).ledger, (h.canon c).ring, (h.canon c).queue, (h.canon c).seqs, (h.canon c).cores⟩, h.otp⟩

theorem Within.hbm_ {A : Nat} {u s : State} {x : HbmSt} (hA : A.testBit 11 = true) (h : Within A u s)
    (hx : Memory.Canon 0 s.hbm.mem → Memory.Canon 0 x.mem := by
      first | exact fun c => c | exact fun _ => canon_nil _ | exact fun c => canon_memWrite _ _ c) :
    Within A u { s with hbm := x } :=
  ⟨h.pending, h.regs, h.resp, h.bootMs, h.events, h.trace, h.power, h.profile, h.clock, h.pins, h.jets, h.edge, h.weir, fun a => absurd a (by simp [hA]), h.enc, h.seqs, h.ports, h.fail, h.ra, h.sc, h.noc, h.fab, h.ldr, h.flash, h.cluster, h.casc, h.sec, h.boot, h.dbg, h.leap, h.field, fun c => ⟨(h.canon c).regs, hx (h.canon c).hbm, (h.canon c).flash, (h.canon c).cfg, (h.canon c).editions, (h.canon c).ledger, (h.canon c).ring, (h.canon c).queue, (h.canon c).seqs, (h.canon c).cores⟩, h.otp⟩

theorem Within.enc_ {A : Nat} {u s : State} {x : EncSt} (hA : A.testBit 12 = true) (h : Within A u s) :
    Within A u { s with enc := x } :=
  ⟨h.pending, h.regs, h.resp, h.bootMs, h.events, h.trace, h.power, h.profile, h.clock, h.pins, h.jets, h.edge, h.weir, h.hbm, fun a => absurd a (by simp [hA]), h.seqs, h.ports, h.fail, h.ra, h.sc, h.noc, h.fab, h.ldr, h.flash, h.cluster, h.casc, h.sec, h.boot, h.dbg, h.leap, h.field, fun c => ⟨(h.canon c).regs, (h.canon c).hbm, (h.canon c).flash, (h.canon c).cfg, (h.canon c).editions, (h.canon c).ledger, (h.canon c).ring, (h.canon c).queue, (h.canon c).seqs, (h.canon c).cores⟩, h.otp⟩

theorem Within.seqs_ {A : Nat} {u s : State} {x : List SeqEng} (hA : A.testBit 13 = true) (h : Within A u s)
    (hx : (s.seqs.map (·.q)).Pairwise (· < ·) → (x.map (·.q)).Pairwise (· < ·) := by
      first | exact rise_engPut _ | exact fun _ => List.Pairwise.nil) :
    Within A u { s with seqs := x } :=
  ⟨h.pending, h.regs, h.resp, h.bootMs, h.events, h.trace, h.power, h.profile, h.clock, h.pins, h.jets, h.edge, h.weir, h.hbm, h.enc, fun a => absurd a (by simp [hA]), h.ports, h.fail, h.ra, h.sc, h.noc, h.fab, h.ldr, h.flash, h.cluster, h.casc, h.sec, h.boot, h.dbg, h.leap, h.field, fun c => ⟨(h.canon c).regs, (h.canon c).hbm, (h.canon c).flash, (h.canon c).cfg, (h.canon c).editions, (h.canon c).ledger, (h.canon c).ring, (h.canon c).queue, hx (h.canon c).seqs, (h.canon c).cores⟩, h.otp⟩

theorem Within.ports_ {A : Nat} {u s : State} {x : PortSt} (hA : A.testBit 14 = true) (h : Within A u s) :
    Within A u { s with ports := x } :=
  ⟨h.pending, h.regs, h.resp, h.bootMs, h.events, h.trace, h.power, h.profile, h.clock, h.pins, h.jets, h.edge, h.weir, h.hbm, h.enc, h.seqs, fun a => absurd a (by simp [hA]), h.fail, h.ra, h.sc, h.noc, h.fab, h.ldr, h.flash, h.cluster, h.casc, h.sec, h.boot, h.dbg, h.leap, h.field, fun c => ⟨(h.canon c).regs, (h.canon c).hbm, (h.canon c).flash, (h.canon c).cfg, (h.canon c).editions, (h.canon c).ledger, (h.canon c).ring, (h.canon c).queue, (h.canon c).seqs, (h.canon c).cores⟩, h.otp⟩

theorem Within.fail_ {A : Nat} {u s : State} {x : FailSt} (hA : A.testBit 15 = true) (h : Within A u s) :
    Within A u { s with fail := x } :=
  ⟨h.pending, h.regs, h.resp, h.bootMs, h.events, h.trace, h.power, h.profile, h.clock, h.pins, h.jets, h.edge, h.weir, h.hbm, h.enc, h.seqs, h.ports, fun a => absurd a (by simp [hA]), h.ra, h.sc, h.noc, h.fab, h.ldr, h.flash, h.cluster, h.casc, h.sec, h.boot, h.dbg, h.leap, h.field, fun c => ⟨(h.canon c).regs, (h.canon c).hbm, (h.canon c).flash, (h.canon c).cfg, (h.canon c).editions, (h.canon c).ledger, (h.canon c).ring, (h.canon c).queue, (h.canon c).seqs, (h.canon c).cores⟩, h.otp⟩

theorem Within.ra_ {A : Nat} {u s : State} {x : RaSt} (hA : A.testBit 16 = true) (h : Within A u s) :
    Within A u { s with ra := x } :=
  ⟨h.pending, h.regs, h.resp, h.bootMs, h.events, h.trace, h.power, h.profile, h.clock, h.pins, h.jets, h.edge, h.weir, h.hbm, h.enc, h.seqs, h.ports, h.fail, fun a => absurd a (by simp [hA]), h.sc, h.noc, h.fab, h.ldr, h.flash, h.cluster, h.casc, h.sec, h.boot, h.dbg, h.leap, h.field, fun c => ⟨(h.canon c).regs, (h.canon c).hbm, (h.canon c).flash, (h.canon c).cfg, (h.canon c).editions, (h.canon c).ledger, (h.canon c).ring, (h.canon c).queue, (h.canon c).seqs, (h.canon c).cores⟩, h.otp⟩

theorem Within.sc_ {A : Nat} {u s : State} {x : ScSt} (hA : A.testBit 17 = true) (h : Within A u s)
    (hx : (s.sc.cores.map (·.c)).Pairwise (· < ·) → (x.cores.map (·.c)).Pairwise (· < ·) := by
      first | exact fun c => c | exact rise_scPut _ | exact fun _ => List.Pairwise.nil) :
    Within A u { s with sc := x } :=
  ⟨h.pending, h.regs, h.resp, h.bootMs, h.events, h.trace, h.power, h.profile, h.clock, h.pins, h.jets, h.edge, h.weir, h.hbm, h.enc, h.seqs, h.ports, h.fail, h.ra, fun a => absurd a (by simp [hA]), h.noc, h.fab, h.ldr, h.flash, h.cluster, h.casc, h.sec, h.boot, h.dbg, h.leap, h.field, fun c => ⟨(h.canon c).regs, (h.canon c).hbm, (h.canon c).flash, (h.canon c).cfg, (h.canon c).editions, (h.canon c).ledger, (h.canon c).ring, (h.canon c).queue, (h.canon c).seqs, hx (h.canon c).cores⟩, h.otp⟩

theorem Within.noc_ {A : Nat} {u s : State} {x : NocSt} (hA : A.testBit 18 = true) (h : Within A u s) :
    Within A u { s with noc := x } :=
  ⟨h.pending, h.regs, h.resp, h.bootMs, h.events, h.trace, h.power, h.profile, h.clock, h.pins, h.jets, h.edge, h.weir, h.hbm, h.enc, h.seqs, h.ports, h.fail, h.ra, h.sc, fun a => absurd a (by simp [hA]), h.fab, h.ldr, h.flash, h.cluster, h.casc, h.sec, h.boot, h.dbg, h.leap, h.field, fun c => ⟨(h.canon c).regs, (h.canon c).hbm, (h.canon c).flash, (h.canon c).cfg, (h.canon c).editions, (h.canon c).ledger, (h.canon c).ring, (h.canon c).queue, (h.canon c).seqs, (h.canon c).cores⟩, h.otp⟩

theorem Within.fab_ {A : Nat} {u s : State} {x : FabSt} (hA : A.testBit 19 = true) (h : Within A u s)
    (hx : Memory.Canon 0 s.fab.cfg → Memory.Canon 0 x.cfg := by
      first | exact fun c => c | exact fun _ => canon_nil _ | exact fun c => canon_memErase _ _ c | exact fun c => canon_memWrite _ _ c) :
    Within A u { s with fab := x } :=
  ⟨h.pending, h.regs, h.resp, h.bootMs, h.events, h.trace, h.power, h.profile, h.clock, h.pins, h.jets, h.edge, h.weir, h.hbm, h.enc, h.seqs, h.ports, h.fail, h.ra, h.sc, h.noc, fun a => absurd a (by simp [hA]), h.ldr, h.flash, h.cluster, h.casc, h.sec, h.boot, h.dbg, h.leap, h.field, fun c => ⟨(h.canon c).regs, (h.canon c).hbm, (h.canon c).flash, hx (h.canon c).cfg, (h.canon c).editions, (h.canon c).ledger, (h.canon c).ring, (h.canon c).queue, (h.canon c).seqs, (h.canon c).cores⟩, h.otp⟩

theorem Within.ldr_ {A : Nat} {u s : State} {x : LdrSt} (hA : A.testBit 20 = true) (h : Within A u s) :
    Within A u { s with ldr := x } :=
  ⟨h.pending, h.regs, h.resp, h.bootMs, h.events, h.trace, h.power, h.profile, h.clock, h.pins, h.jets, h.edge, h.weir, h.hbm, h.enc, h.seqs, h.ports, h.fail, h.ra, h.sc, h.noc, h.fab, fun a => absurd a (by simp [hA]), h.flash, h.cluster, h.casc, h.sec, h.boot, h.dbg, h.leap, h.field, fun c => ⟨(h.canon c).regs, (h.canon c).hbm, (h.canon c).flash, (h.canon c).cfg, (h.canon c).editions, (h.canon c).ledger, (h.canon c).ring, (h.canon c).queue, (h.canon c).seqs, (h.canon c).cores⟩, h.otp⟩

theorem Within.flash_ {A : Nat} {u s : State} {x : Memory} (hA : A.testBit 21 = true) (h : Within A u s)
    (hx : Memory.Canon 0xFF s.flash → Memory.Canon 0xFF x := by
      first | exact fun c => c | exact fun c => canon_memErase _ _ c | exact fun c => canon_memWrite _ _ c) :
    Within A u { s with flash := x } :=
  ⟨h.pending, h.regs, h.resp, h.bootMs, h.events, h.trace, h.power, h.profile, h.clock, h.pins, h.jets, h.edge, h.weir, h.hbm, h.enc, h.seqs, h.ports, h.fail, h.ra, h.sc, h.noc, h.fab, h.ldr, fun a => absurd a (by simp [hA]), h.cluster, h.casc, h.sec, h.boot, h.dbg, h.leap, h.field, fun c => ⟨(h.canon c).regs, (h.canon c).hbm, hx (h.canon c).flash, (h.canon c).cfg, (h.canon c).editions, (h.canon c).ledger, (h.canon c).ring, (h.canon c).queue, (h.canon c).seqs, (h.canon c).cores⟩, h.otp⟩

theorem Within.cluster_ {A : Nat} {u s : State} {x : ClusterSt} (hA : A.testBit 22 = true) (h : Within A u s) :
    Within A u { s with cluster := x } :=
  ⟨h.pending, h.regs, h.resp, h.bootMs, h.events, h.trace, h.power, h.profile, h.clock, h.pins, h.jets, h.edge, h.weir, h.hbm, h.enc, h.seqs, h.ports, h.fail, h.ra, h.sc, h.noc, h.fab, h.ldr, h.flash, fun a => absurd a (by simp [hA]), h.casc, h.sec, h.boot, h.dbg, h.leap, h.field, fun c => ⟨(h.canon c).regs, (h.canon c).hbm, (h.canon c).flash, (h.canon c).cfg, (h.canon c).editions, (h.canon c).ledger, (h.canon c).ring, (h.canon c).queue, (h.canon c).seqs, (h.canon c).cores⟩, h.otp⟩

theorem Within.casc_ {A : Nat} {u s : State} {x : CascSt} (hA : A.testBit 23 = true) (h : Within A u s) :
    Within A u { s with casc := x } :=
  ⟨h.pending, h.regs, h.resp, h.bootMs, h.events, h.trace, h.power, h.profile, h.clock, h.pins, h.jets, h.edge, h.weir, h.hbm, h.enc, h.seqs, h.ports, h.fail, h.ra, h.sc, h.noc, h.fab, h.ldr, h.flash, h.cluster, fun a => absurd a (by simp [hA]), h.sec, h.boot, h.dbg, h.leap, h.field, fun c => ⟨(h.canon c).regs, (h.canon c).hbm, (h.canon c).flash, (h.canon c).cfg, (h.canon c).editions, (h.canon c).ledger, (h.canon c).ring, (h.canon c).queue, (h.canon c).seqs, (h.canon c).cores⟩, h.otp⟩

theorem Within.sec_ {A : Nat} {u s : State} {x : SecSt} (hA : A.testBit 24 = true) (h : Within A u s)
    (hx : Memory.Canon 0 s.sec.editions → Memory.Canon 0 x.editions := by exact fun c => c)
    (hy : Memory.Canon 0 s.sec.ledger → Memory.Canon 0 x.ledger := by exact fun c => c)
    (hz : Otp s.sec x := by exact Otp.same rfl rfl rfl rfl rfl rfl) :
    Within A u { s with sec := x } :=
  ⟨h.pending, h.regs, h.resp, h.bootMs, h.events, h.trace, h.power, h.profile, h.clock, h.pins, h.jets, h.edge, h.weir, h.hbm, h.enc, h.seqs, h.ports, h.fail, h.ra, h.sc, h.noc, h.fab, h.ldr, h.flash, h.cluster, h.casc, fun a => absurd a (by simp [hA]), h.boot, h.dbg, h.leap, h.field, fun c => ⟨(h.canon c).regs, (h.canon c).hbm, (h.canon c).flash, (h.canon c).cfg, hx (h.canon c).editions, hy (h.canon c).ledger, (h.canon c).ring, (h.canon c).queue, (h.canon c).seqs, (h.canon c).cores⟩, h.otp.trans hz⟩

theorem Within.boot_ {A : Nat} {u s : State} {x : BootSt} (hA : A.testBit 25 = true) (h : Within A u s) :
    Within A u { s with boot := x } :=
  ⟨h.pending, h.regs, h.resp, h.bootMs, h.events, h.trace, h.power, h.profile, h.clock, h.pins, h.jets, h.edge, h.weir, h.hbm, h.enc, h.seqs, h.ports, h.fail, h.ra, h.sc, h.noc, h.fab, h.ldr, h.flash, h.cluster, h.casc, h.sec, fun a => absurd a (by simp [hA]), h.dbg, h.leap, h.field, fun c => ⟨(h.canon c).regs, (h.canon c).hbm, (h.canon c).flash, (h.canon c).cfg, (h.canon c).editions, (h.canon c).ledger, (h.canon c).ring, (h.canon c).queue, (h.canon c).seqs, (h.canon c).cores⟩, h.otp⟩

theorem Within.dbg_ {A : Nat} {u s : State} {x : DbgSt} (hA : A.testBit 26 = true) (h : Within A u s) :
    Within A u { s with dbg := x } :=
  ⟨h.pending, h.regs, h.resp, h.bootMs, h.events, h.trace, h.power, h.profile, h.clock, h.pins, h.jets, h.edge, h.weir, h.hbm, h.enc, h.seqs, h.ports, h.fail, h.ra, h.sc, h.noc, h.fab, h.ldr, h.flash, h.cluster, h.casc, h.sec, h.boot, fun a => absurd a (by simp [hA]), h.leap, h.field, fun c => ⟨(h.canon c).regs, (h.canon c).hbm, (h.canon c).flash, (h.canon c).cfg, (h.canon c).editions, (h.canon c).ledger, (h.canon c).ring, (h.canon c).queue, (h.canon c).seqs, (h.canon c).cores⟩, h.otp⟩

theorem Within.leap_ {A : Nat} {u s : State} {x : LeapSt} (hA : A.testBit 27 = true) (h : Within A u s) :
    Within A u { s with leap := x } :=
  ⟨h.pending, h.regs, h.resp, h.bootMs, h.events, h.trace, h.power, h.profile, h.clock, h.pins, h.jets, h.edge, h.weir, h.hbm, h.enc, h.seqs, h.ports, h.fail, h.ra, h.sc, h.noc, h.fab, h.ldr, h.flash, h.cluster, h.casc, h.sec, h.boot, h.dbg, fun a => absurd a (by simp [hA]), h.field, fun c => ⟨(h.canon c).regs, (h.canon c).hbm, (h.canon c).flash, (h.canon c).cfg, (h.canon c).editions, (h.canon c).ledger, (h.canon c).ring, (h.canon c).queue, (h.canon c).seqs, (h.canon c).cores⟩, h.otp⟩

theorem Within.field_ {A : Nat} {u s : State} {x : FieldSt} (hA : A.testBit 28 = true) (h : Within A u s) :
    Within A u { s with field := x } :=
  ⟨h.pending, h.regs, h.resp, h.bootMs, h.events, h.trace, h.power, h.profile, h.clock, h.pins, h.jets, h.edge, h.weir, h.hbm, h.enc, h.seqs, h.ports, h.fail, h.ra, h.sc, h.noc, h.fab, h.ldr, h.flash, h.cluster, h.casc, h.sec, h.boot, h.dbg, h.leap, fun a => absurd a (by simp [hA]), fun c => ⟨(h.canon c).regs, (h.canon c).hbm, (h.canon c).flash, (h.canon c).cfg, (h.canon c).editions, (h.canon c).ledger, (h.canon c).ring, (h.canon c).queue, (h.canon c).seqs, (h.canon c).cores⟩, h.otp⟩

theorem Within.ite {A : Nat} {u s t : State} {c : Prop} [Decidable c] (h : Within A u s) (g : Within A u t) :
    Within A u (if c then s else t) := by
  split <;> assumption

theorem Within.ite1 {α : Type} {A : Nat} {u : State} {s t : α × State} {c : Prop} [Decidable c] (h : Within A u s.2) (g : Within A u t.2) :
    Within A u (if c then s else t).2 := by
  split <;> assumption

theorem Within.ite2 {α β : Type} {A : Nat} {u : State} {s t : α × β × State} {c : Prop} [Decidable c] (h : Within A u s.2.2)
    (g : Within A u t.2.2) : Within A u (if c then s else t).2.2 := by
  split <;> assumption

theorem Within.ite3 {α β γ : Type} {A : Nat} {u : State} {s t : α × β × γ × State} {c : Prop} [Decidable c] (h : Within A u s.2.2.2)
    (g : Within A u t.2.2.2) : Within A u (if c then s else t).2.2.2 := by
  split <;> assumption

theorem Within.snd1 {α : Type} {A : Nat} {u t : State} {a : α} (h : Within A u t) : Within A u (a, t).2 := h

theorem Within.snd2 {α β : Type} {A : Nat} {u t : State} {a : α} {b : β} (h : Within A u t) : Within A u (a, b, t).2.2 := h

theorem Within.snd3 {α β γ : Type} {A : Nat} {u t : State} {a : α} {b : β} {c : γ} (h : Within A u t) : Within A u (a, b, c, t).2.2.2 := h

/-- The field lies in a window of the mask. -/
def InMask (A : Nat) (f : Fld) : Prop := A.testBit (winBit f.key) = true

theorem inMask {A : Nat} {f : Fld} {w : Nat} (h : winBit f.key = w) (hA : A.testBit w = true) : InMask A f := by
  unfold InMask
  rw [h]
  exact hA

theorem InMask.ite {A : Nat} {f g : Fld} {c : Prop} [Decidable c] (hf : InMask A f) (hg : InMask A g) : InMask A (if c then f else g) := by
  by_cases h : c
  · rw [if_pos h]; exact hf
  · rw [if_neg h]; exact hg

theorem inMasks {A : Nat} {l : List (Acc × Fld)} {w : Nat} (h : ∀ p ∈ l, winBit p.2.key = w) (hA : A.testBit w = true) :
    ∀ p ∈ l, InMask A p.2 := fun p hp => inMask (h p hp) hA

theorem set_within {A : Nat} {u : State} {f : Fld} (v : Nat) {s : State} (hf : InMask A f) (h : Within A u s) :
    Within A u (s.set f v) :=
  h.ofRegs (rising_regSet f v) (fun k hk => by
    unfold regSet
    refine spFind_spSetD_of_ne ?_ _ _ _
    rintro rfl
    rw [InMask] at hf
    rw [hf] at hk
    exact absurd hk (by decide))

/-- Every bit from `a` to `b` is in the mask. -/
theorem Sub.range {m A : Nat} (h : Sub m A) {a n : Nat} (hm : m = (2 ^ n - 1) <<< a) {w : Nat} (h1 : a ≤ w) (h2 : w < a + n) :
    A.testBit w = true := by
  refine h.bit ?_
  rw [hm, Nat.testBit_shiftLeft, Nat.testBit_two_pow_sub_one]
  simp only [Bool.and_eq_true, decide_eq_true_eq]
  omega

theorem resetRegs_within {A : Nat} {u s : State} (lo hi x y a n m : Nat) (hm : m = (2 ^ n - 1) <<< a) (hx : a ≤ winBit x)
    (hy : winBit y < a + n) (hA : Sub m A) (hlo : x ≤ 64 * lo) (hhi : 64 * hi ≤ y + 1) (h : Within A u s) :
    Within A u (s.resetRegs lo hi) :=
  h.ofRegs (rising_spClear _ _) (fun k hk => by
    refine spFind_spClear ?_ _
    rintro ⟨h1, h2⟩
    rw [hA.range hm (Nat.le_trans hx (winBit_mono (by omega))) (Nat.lt_of_le_of_lt (winBit_mono (by omega)) hy)] at hk
    exact absurd hk (by decide))

theorem forEach_within {α : Type} {A : Nat} {u : State} {f : α → State → State} (hf : ∀ x t, Within A u t → Within A u (f x t)) :
    ∀ (l : List α) {s : State}, Within A u s → Within A u (forEach l f s)
  | [], _, h => h
  | x :: r, s, h => forEach_within hf r (hf x s h)

theorem forNat_within {A : Nat} {u : State} {f : Nat → State → State} (hf : ∀ i t, Within A u t → Within A u (f i t)) (n : Nat)
    {s : State} (h : Within A u s) : Within A u (forNat n f s) := forEach_within hf _ h

/-- A mask that leaves nothing out: what is left to say is the queue, the canonical forms and the one-time memories. -/
theorem Within.all {A : Nat} {u t : State} (hM : Sub 0x1FFFFFFFFFFFFFFFFFFFFFFFFFFFFFFFF A) (hp : t.pending = u.pending) (hc : u.Canon → t.Canon)
    (ho : Otp u.sec t.sec) : Within A u t := by
  have h : ∀ {p : Prop} (i : Nat), i ≤ 128 → A.testBit i = false → p := by
    intro p i hi hA
    rw [hM.range (a := 0) (n := 129) (by decide) (Nat.zero_le _) (by omega)] at hA
    exact absurd hA (by decide)
  exact ⟨hp, fun k => h _ (winBit_le k), h 0 (by decide), h 1 (by decide), h 2 (by decide), h 3 (by decide), h 4 (by decide), h 5 (by decide), h 6 (by decide), h 7 (by decide), h 8 (by decide), h 9 (by decide), h 10 (by decide), h 11 (by decide), h 12 (by decide), h 13 (by decide), h 14 (by decide), h 15 (by decide), h 16 (by decide), h 17 (by decide), h 18 (by decide), h 19 (by decide), h 20 (by decide), h 21 (by decide), h 22 (by decide), h 23 (by decide), h 24 (by decide), h 25 (by decide), h 26 (by decide), h 27 (by decide), h 28 (by decide), hc, ho⟩

theorem orBit {A i : Nat} {p : Prop} (h : A.testBit i = true ∨ p) (hA : A.testBit i = false) : p := by
  rcases h with h | h
  · rw [h] at hA
    exact absurd hA (by decide)
  · exact h

/-- Several fields changed at once. -/
theorem Within.upd {A : Nat} {u s t : State} (h : Within A u s) (hp : t.pending = s.pending)
    (hr : ∀ k, A.testBit (winBit k) = false → spFind k t.regs = spFind k s.regs)
    (h0 : A.testBit 0 = true ∨ t.resp = s.resp)
    (h1 : A.testBit 1 = true ∨ t.bootMs = s.bootMs)
    (h2 : A.testBit 2 = true ∨ t.events = s.events)
    (h3 : A.testBit 3 = true ∨ t.trace = s.trace)
    (h4 : A.testBit 4 = true ∨ t.power = s.power)
    (h5 : A.testBit 5 = true ∨ t.profile = s.profile)
    (h6 : A.testBit 6 = true ∨ t.clock = s.clock)
    (h7 : A.testBit 7 = true ∨ t.pins = s.pins)
    (h8 : A.testBit 8 = true ∨ t.jets = s.jets)
    (h9 : A.testBit 9 = true ∨ t.edge = s.edge)
    (h10 : A.testBit 10 = true ∨ t.weir = s.weir)
    (h11 : A.testBit 11 = true ∨ t.hbm = s.hbm)
    (h12 : A.testBit 12 = true ∨ t.enc = s.enc)
    (h13 : A.testBit 13 = true ∨ t.seqs = s.seqs)
    (h14 : A.testBit 14 = true ∨ t.ports = s.ports)
    (h15 : A.testBit 15 = true ∨ t.fail = s.fail)
    (h16 : A.testBit 16 = true ∨ t.ra = s.ra)
    (h17 : A.testBit 17 = true ∨ t.sc = s.sc)
    (h18 : A.testBit 18 = true ∨ t.noc = s.noc)
    (h19 : A.testBit 19 = true ∨ t.fab = s.fab)
    (h20 : A.testBit 20 = true ∨ t.ldr = s.ldr)
    (h21 : A.testBit 21 = true ∨ t.flash = s.flash)
    (h22 : A.testBit 22 = true ∨ t.cluster = s.cluster)
    (h23 : A.testBit 23 = true ∨ t.casc = s.casc)
    (h24 : A.testBit 24 = true ∨ t.sec = s.sec)
    (h25 : A.testBit 25 = true ∨ t.boot = s.boot)
    (h26 : A.testBit 26 = true ∨ t.dbg = s.dbg)
    (h27 : A.testBit 27 = true ∨ t.leap = s.leap)
    (h28 : A.testBit 28 = true ∨ t.field = s.field)
    (hc : s.Canon → t.Canon) (ho : Otp s.sec t.sec) : Within A u t :=
  h.trans ⟨hp, hr, orBit h0, orBit h1, orBit h2, orBit h3, orBit h4, orBit h5, orBit h6, orBit h7, orBit h8, orBit h9, orBit h10, orBit h11, orBit h12, orBit h13, orBit h14, orBit h15, orBit h16, orBit h17, orBit h18, orBit h19, orBit h20, orBit h21, orBit h22, orBit h23, orBit h24, orBit h25, orBit h26, orBit h27, orBit h28, hc, ho⟩

theorem foldl_within0 {α : Type} {A : Nat} {u : State} {f : State → α → State} (hf : ∀ b x, Within A u b → Within A u (f b x)) :
    ∀ (l : List α) (b : State), Within A u b → Within A u (l.foldl f b)
  | [], _, h => h
  | x :: r, b, h => foldl_within0 hf r (f b x) (hf b x h)

theorem foldl_within1 {α β : Type} {A : Nat} {u : State} {f : β × State → α → β × State}
    (hf : ∀ b x, Within A u b.2 → Within A u (f b x).2) : ∀ (l : List α) (b : β × State), Within A u b.2 → Within A u (l.foldl f b).2
  | [], _, h => h
  | x :: r, b, h => foldl_within1 hf r (f b x) (hf b x h)

theorem foldl_within2 {α β γ : Type} {A : Nat} {u : State} {f : β × γ × State → α → β × γ × State}
    (hf : ∀ b x, Within A u b.2.2 → Within A u (f b x).2.2) :
    ∀ (l : List α) (b : β × γ × State), Within A u b.2.2 → Within A u (l.foldl f b).2.2
  | [], _, h => h
  | x :: r, b, h => foldl_within2 hf r (f b x) (hf b x h)

/-- A state that may be there lies within reach. -/
def OptWithin (A : Nat) (u : State) (x : Option State) : Prop := ∀ t, x = Option.some t → Within A u t

theorem OptWithin.none {A : Nat} {u : State} : OptWithin A u Option.none := fun _ h => nomatch h

theorem OptWithin.some {A : Nat} {u t : State} (h : Within A u t) : OptWithin A u (Option.some t) := fun _ e => Option.some.inj e ▸ h

theorem OptWithin.get {A : Nat} {u t : State} {x : Option State} (e : x = Option.some t) (h : OptWithin A u x) : Within A u t := h t e

theorem OptWithin.getD {A : Nat} {u t : State} {x : Option State} (h : OptWithin A u x) (g : Within A u t) : Within A u (x.getD t) := by
  cases x with
  | none => exact g
  | some y => exact h y rfl

theorem OptWithin.bind {α : Type} {A : Nat} {u : State} {x : Option α} {f : α → Option State} (h : ∀ a, OptWithin A u (f a)) :
    OptWithin A u (x.bind f) := by
  cases x with
  | none => exact OptWithin.none
  | some a => exact h a

theorem OptWithin.or {A : Nat} {u : State} {x y : Option State} (h : OptWithin A u x) (g : OptWithin A u y) : OptWithin A u (x.or y) := by
  cases x with
  | none => exact g
  | some a => exact h

theorem OptWithin.ite {A : Nat} {u : State} {x y : Option State} {c : Prop} [Decidable c] (h : OptWithin A u x) (g : OptWithin A u y) :
    OptWithin A u (if c then x else y) := by
  split <;> assumption

/-- An outcome that answers a next state within reach. -/
def OutWithin (A : Nat) (u : State) (o : Out) : Prop := ∃ t, o = .next t ∧ Within A u t

theorem OutWithin.ite {A : Nat} {u : State} {x y : Out} {c : Prop} [Decidable c] (h : OutWithin A u x) (g : OutWithin A u y) :
    OutWithin A u (if c then x else y) := by
  split <;> assumption

theorem OutWithin.ok {A : Nat} {u s : State} (h : Within A u s) : OutWithin A u (ok s) := ⟨s, rfl, h⟩

theorem OutWithin.next {A : Nat} {u s : State} (h : Within A u s) : OutWithin A u (.next s) := ⟨s, rfl, h⟩

theorem OutWithin.whenOk {A : Nat} {u s t : State} {c : Bool} (h : Within A u s) (g : Within A u t) : OutWithin A u (whenOk c s t) :=
  ⟨_, rfl, by split <;> assumption⟩

/-- A value that equals a pair gives the reach of the pair's state. -/
theorem Within.of_eq {α : Type} {A : Nat} {u : State} {p q : α × State} (e : p = q) (h : Within A u p.2) : Within A u q.2 := e ▸ h

theorem Within.of_eq2 {α β : Type} {A : Nat} {u : State} {p q : α × β × State} (e : p = q) (h : Within A u p.2.2) : Within A u q.2.2 := e ▸ h

theorem Within.of_eq3 {α β γ : Type} {A : Nat} {u : State} {p q : α × β × γ × State} (e : p = q) (h : Within A u p.2.2.2) :
    Within A u q.2.2.2 := e ▸ h

end Sys2Proof.Machine
end

