-- ==== Sys2Proof/Laws/WithinFields.lean ====
section
/-! SUPPORT. The window that each register field lies in. -/
set_option Elab.async false
namespace Sys2Proof.Machine

theorem grp1 {k : Nat} (h1 : 13194139533312 ≤ k) (h2 : k < 13194139566080) : winBit k = 33 :=
  winBit_of_le (x := 13194139533312) (y := 13194139566079) (by decide) (by decide) h1 (by omega)
theorem grp2 {k : Nat} (h1 : 13194139566080 ≤ k) (h2 : k < 13194139566592) : winBit k = 34 :=
  winBit_of_le (x := 13194139566080) (y := 13194139566591) (by decide) (by decide) h1 (by omega)
theorem grp3 {k : Nat} (h1 : 13194139566592 ≤ k) (h2 : k < 13194139567104) : winBit k = 35 :=
  winBit_of_le (x := 13194139566592) (y := 13194139567103) (by decide) (by decide) h1 (by omega)
theorem grp4 {k : Nat} (h1 : 13194139567104 ≤ k) (h2 : k < 13194139582464) : winBit k = 36 :=
  winBit_of_le (x := 13194139567104) (y := 13194139582463) (by decide) (by decide) h1 (by omega)
theorem grp5 {k : Nat} (h1 : 13194139582464 ≤ k) (h2 : k < 13194139598848) : winBit k = 37 :=
  winBit_of_le (x := 13194139582464) (y := 13194139598847) (by decide) (by decide) h1 (by omega)
theorem grp6 {k : Nat} (h1 : 13194139598848 ≤ k) (h2 : k < 13194139664384) : winBit k = 38 :=
  winBit_of_le (x := 13194139598848) (y := 13194139664383) (by decide) (by decide) h1 (by omega)
theorem grp7 {k : Nat} (h1 : 13194139664384 ≤ k) (h2 : k < 13194139664896) : winBit k = 39 :=
  winBit_of_le (x := 13194139664384) (y := 13194139664895) (by decide) (by decide) h1 (by omega)
theorem grp8 {k : Nat} (h1 : 13194139664896 ≤ k) (h2 : k < 13194139665408) : winBit k = 40 :=
  winBit_of_le (x := 13194139664896) (y := 13194139665407) (by decide) (by decide) h1 (by omega)
theorem grp9 {k : Nat} (h1 : 13194139665408 ≤ k) (h2 : k < 13195213275136) : winBit k = 41 :=
  winBit_of_le (x := 13194139665408) (y := 13195213275135) (by decide) (by decide) h1 (by omega)
theorem grp10 {k : Nat} (h1 : 13195213275136 ≤ k) (h2 : k < 13195213324288) : winBit k = 42 :=
  winBit_of_le (x := 13195213275136) (y := 13195213324287) (by decide) (by decide) h1 (by omega)
theorem grp11 {k : Nat} (h1 : 13195213324288 ≤ k) (h2 : k < 13195213340672) : winBit k = 43 :=
  winBit_of_le (x := 13195213324288) (y := 13195213340671) (by decide) (by decide) h1 (by omega)
theorem grp12 {k : Nat} (h1 : 13195213340672 ≤ k) (h2 : k < 13195213537280) : winBit k = 44 :=
  winBit_of_le (x := 13195213340672) (y := 13195213537279) (by decide) (by decide) h1 (by omega)
theorem grp13 {k : Nat} (h1 : 13195213537280 ≤ k) (h2 : k < 13195213799424) : winBit k = 45 :=
  winBit_of_le (x := 13195213537280) (y := 13195213799423) (by decide) (by decide) h1 (by omega)
theorem grp14 {k : Nat} (h1 : 13195213799424 ≤ k) (h2 : k < 13195217469440) : winBit k = 46 :=
  winBit_of_le (x := 13195213799424) (y := 13195217469439) (by decide) (by decide) h1 (by omega)
theorem grp15 {k : Nat} (h1 : 13195217469440 ≤ k) (h2 : k < 13196287016960) : winBit k = 47 :=
  winBit_of_le (x := 13195217469440) (y := 13196287016959) (by decide) (by decide) h1 (by omega)
theorem grp16 {k : Nat} (h1 : 13196287016960 ≤ k) (h2 : k < 13196287033344) : winBit k = 48 :=
  winBit_of_le (x := 13196287016960) (y := 13196287033343) (by decide) (by decide) h1 (by omega)
theorem grp17 {k : Nat} (h1 : 13196287033344 ≤ k) (h2 : k < 13196287049728) : winBit k = 49 :=
  winBit_of_le (x := 13196287033344) (y := 13196287049727) (by decide) (by decide) h1 (by omega)
theorem grp18 {k : Nat} (h1 : 13196287049728 ≤ k) (h2 : k < 13196287066112) : winBit k = 50 :=
  winBit_of_le (x := 13196287049728) (y := 13196287066111) (by decide) (by decide) h1 (by omega)
theorem grp19 {k : Nat} (h1 : 13196287066112 ≤ k) (h2 : k < 13196287279104) : winBit k = 51 :=
  winBit_of_le (x := 13196287066112) (y := 13196287279103) (by decide) (by decide) h1 (by omega)
theorem grp20 {k : Nat} (h1 : 13196287279104 ≤ k) (h2 : k < 13197360758784) : winBit k = 52 :=
  winBit_of_le (x := 13196287279104) (y := 13197360758783) (by decide) (by decide) h1 (by omega)
theorem grp21 {k : Nat} (h1 : 13197360758784 ≤ k) (h2 : k < 13197360791552) : winBit k = 53 :=
  winBit_of_le (x := 13197360758784) (y := 13197360791551) (by decide) (by decide) h1 (by omega)
theorem grp22 {k : Nat} (h1 : 13197360791552 ≤ k) (h2 : k < 13197361020928) : winBit k = 54 :=
  winBit_of_le (x := 13197360791552) (y := 13197361020927) (by decide) (by decide) h1 (by omega)
theorem grp23 {k : Nat} (h1 : 13197361020928 ≤ k) (h2 : k < 13197361283072) : winBit k = 55 :=
  winBit_of_le (x := 13197361020928) (y := 13197361283071) (by decide) (by decide) h1 (by omega)
theorem grp24 {k : Nat} (h1 : 13197361283072 ≤ k) (h2 : k < 13197427867648) : winBit k = 56 :=
  winBit_of_le (x := 13197361283072) (y := 13197427867647) (by decide) (by decide) h1 (by omega)
theorem grp25 {k : Nat} (h1 : 13197427867648 ≤ k) (h2 : k < 13197427998720) : winBit k = 57 :=
  winBit_of_le (x := 13197427867648) (y := 13197427998719) (by decide) (by decide) h1 (by omega)
theorem grp26 {k : Nat} (h1 : 13197427998720 ≤ k) (h2 : k < 13198434500608) : winBit k = 58 :=
  winBit_of_le (x := 13197427998720) (y := 13198434500607) (by decide) (by decide) h1 (by omega)
theorem grp27 {k : Nat} (h1 : 13198434500608 ≤ k) (h2 : k < 13198438694912) : winBit k = 59 :=
  winBit_of_le (x := 13198434500608) (y := 13198438694911) (by decide) (by decide) h1 (by omega)
theorem grp28 {k : Nat} (h1 : 13198438694912 ≤ k) (h2 : k < 13199508242432) : winBit k = 60 :=
  winBit_of_le (x := 13198438694912) (y := 13199508242431) (by decide) (by decide) h1 (by omega)
theorem grp29 {k : Nat} (h1 : 13199508242432 ≤ k) (h2 : k < 13199508766720) : winBit k = 61 :=
  winBit_of_le (x := 13199508242432) (y := 13199508766719) (by decide) (by decide) h1 (by omega)
theorem grp30 {k : Nat} (h1 : 13199508766720 ≤ k) (h2 : k < 13199512436736) : winBit k = 62 :=
  winBit_of_le (x := 13199508766720) (y := 13199512436735) (by decide) (by decide) h1 (by omega)
theorem grp31 {k : Nat} (h1 : 13199512436736 ≤ k) (h2 : k < 13199575351296) : winBit k = 63 :=
  winBit_of_le (x := 13199512436736) (y := 13199575351295) (by decide) (by decide) h1 (by omega)
theorem grp32 {k : Nat} (h1 : 13199575351296 ≤ k) (h2 : k < 13199642460160) : winBit k = 64 :=
  winBit_of_le (x := 13199575351296) (y := 13199642460159) (by decide) (by decide) h1 (by omega)
theorem grp33 {k : Nat} (h1 : 13199642460160 ≤ k) (h2 : k < 13200581984256) : winBit k = 65 :=
  winBit_of_le (x := 13199642460160) (y := 13200581984255) (by decide) (by decide) h1 (by omega)
theorem grp34 {k : Nat} (h1 : 13200581984256 ≤ k) (h2 : k < 13200582017024) : winBit k = 66 :=
  winBit_of_le (x := 13200581984256) (y := 13200582017023) (by decide) (by decide) h1 (by omega)
theorem grp35 {k : Nat} (h1 : 13200582017024 ≤ k) (h2 : k < 13200586178560) : winBit k = 67 :=
  winBit_of_le (x := 13200582017024) (y := 13200586178559) (by decide) (by decide) h1 (by omega)
theorem grp36 {k : Nat} (h1 : 13200586178560 ≤ k) (h2 : k < 13201655726080) : winBit k = 68 :=
  winBit_of_le (x := 13200586178560) (y := 13201655726079) (by decide) (by decide) h1 (by omega)
theorem grp37 {k : Nat} (h1 : 13201655726080 ≤ k) (h2 : k < 13202729467904) : winBit k = 69 :=
  winBit_of_le (x := 13201655726080) (y := 13202729467903) (by decide) (by decide) h1 (by omega)
theorem grp38 {k : Nat} (h1 : 13202729467904 ≤ k) (h2 : k < 13202729500672) : winBit k = 70 :=
  winBit_of_le (x := 13202729467904) (y := 13202729500671) (by decide) (by decide) h1 (by omega)
theorem grp39 {k : Nat} (h1 : 13202729500672 ≤ k) (h2 : k < 13202733662208) : winBit k = 71 :=
  winBit_of_le (x := 13202729500672) (y := 13202733662207) (by decide) (by decide) h1 (by omega)
theorem grp40 {k : Nat} (h1 : 13202733662208 ≤ k) (h2 : k < 13202737856512) : winBit k = 72 :=
  winBit_of_le (x := 13202733662208) (y := 13202737856511) (by decide) (by decide) h1 (by omega)
theorem grp41 {k : Nat} (h1 : 13202737856512 ≤ k) (h2 : k < 13202742050816) : winBit k = 73 :=
  winBit_of_le (x := 13202737856512) (y := 13202742050815) (by decide) (by decide) h1 (by omega)
theorem grp42 {k : Nat} (h1 : 13202742050816 ≤ k) (h2 : k < 13203803209728) : winBit k = 74 :=
  winBit_of_le (x := 13202742050816) (y := 13203803209727) (by decide) (by decide) h1 (by omega)
theorem grp43 {k : Nat} (h1 : 13203803209728 ≤ k) (h2 : k < 13203803242496) : winBit k = 75 :=
  winBit_of_le (x := 13203803209728) (y := 13203803242495) (by decide) (by decide) h1 (by omega)
theorem grp44 {k : Nat} (h1 : 13203803242496 ≤ k) (h2 : k < 13203870318592) : winBit k = 76 :=
  winBit_of_le (x := 13203803242496) (y := 13203870318591) (by decide) (by decide) h1 (by omega)
theorem grp45 {k : Nat} (h1 : 13203870318592 ≤ k) (h2 : k < 13203937427456) : winBit k = 77 :=
  winBit_of_le (x := 13203870318592) (y := 13203937427455) (by decide) (by decide) h1 (by omega)
theorem grp46 {k : Nat} (h1 : 13203937427456 ≤ k) (h2 : k < 13204876951552) : winBit k = 78 :=
  winBit_of_le (x := 13203937427456) (y := 13204876951551) (by decide) (by decide) h1 (by omega)
theorem grp47 {k : Nat} (h1 : 13204876951552 ≤ k) (h2 : k < 13204877213696) : winBit k = 79 :=
  winBit_of_le (x := 13204876951552) (y := 13204877213695) (by decide) (by decide) h1 (by omega)
theorem grp48 {k : Nat} (h1 : 13204877213696 ≤ k) (h2 : k < 13204878000128) : winBit k = 80 :=
  winBit_of_le (x := 13204877213696) (y := 13204878000127) (by decide) (by decide) h1 (by omega)
theorem grp49 {k : Nat} (h1 : 13204878000128 ≤ k) (h2 : k < 13204878524416) : winBit k = 81 :=
  winBit_of_le (x := 13204878000128) (y := 13204878524415) (by decide) (by decide) h1 (by omega)
theorem grp50 {k : Nat} (h1 : 13204878524416 ≤ k) (h2 : k < 13205950693376) : winBit k = 82 :=
  winBit_of_le (x := 13204878524416) (y := 13205950693375) (by decide) (by decide) h1 (by omega)
theorem grp51 {k : Nat} (h1 : 13205950693376 ≤ k) (h2 : k < 13205950710784) : winBit k = 83 :=
  winBit_of_le (x := 13205950693376) (y := 13205950710783) (by decide) (by decide) h1 (by omega)
theorem grp52 {k : Nat} (h1 : 13205950710784 ≤ k) (h2 : k < 13205950726144) : winBit k = 84 :=
  winBit_of_le (x := 13205950710784) (y := 13205950726143) (by decide) (by decide) h1 (by omega)
theorem grp53 {k : Nat} (h1 : 13205950726144 ≤ k) (h2 : k < 13205950727168) : winBit k = 85 :=
  winBit_of_le (x := 13205950726144) (y := 13205950727167) (by decide) (by decide) h1 (by omega)
theorem grp54 {k : Nat} (h1 : 13205950727168 ≤ k) (h2 : k < 13205950728192) : winBit k = 86 :=
  winBit_of_le (x := 13205950727168) (y := 13205950728191) (by decide) (by decide) h1 (by omega)
theorem grp55 {k : Nat} (h1 : 13205950728192 ≤ k) (h2 : k < 13205950742528) : winBit k = 87 :=
  winBit_of_le (x := 13205950728192) (y := 13205950742527) (by decide) (by decide) h1 (by omega)
theorem grp56 {k : Nat} (h1 : 13205950742528 ≤ k) (h2 : k < 13205950758912) : winBit k = 88 :=
  winBit_of_le (x := 13205950742528) (y := 13205950758911) (by decide) (by decide) h1 (by omega)
theorem grp57 {k : Nat} (h1 : 13205950758912 ≤ k) (h2 : k < 13205950775296) : winBit k = 89 :=
  winBit_of_le (x := 13205950758912) (y := 13205950775295) (by decide) (by decide) h1 (by omega)
theorem grp58 {k : Nat} (h1 : 13205950775296 ≤ k) (h2 : k < 13207024435200) : winBit k = 90 :=
  winBit_of_le (x := 13205950775296) (y := 13207024435199) (by decide) (by decide) h1 (by omega)
theorem grp59 {k : Nat} (h1 : 13207024435200 ≤ k) (h2 : k < 13207024467968) : winBit k = 91 :=
  winBit_of_le (x := 13207024435200) (y := 13207024467967) (by decide) (by decide) h1 (by omega)
theorem grp60 {k : Nat} (h1 : 13207024467968 ≤ k) (h2 : k < 13207024697344) : winBit k = 92 :=
  winBit_of_le (x := 13207024467968) (y := 13207024697343) (by decide) (by decide) h1 (by omega)
theorem grp61 {k : Nat} (h1 : 13207024697344 ≤ k) (h2 : k < 13208098177024) : winBit k = 93 :=
  winBit_of_le (x := 13207024697344) (y := 13208098177023) (by decide) (by decide) h1 (by omega)
theorem grp62 {k : Nat} (h1 : 13208098177024 ≤ k) (h2 : k < 13208098439168) : winBit k = 94 :=
  winBit_of_le (x := 13208098177024) (y := 13208098439167) (by decide) (by decide) h1 (by omega)
theorem grp63 {k : Nat} (h1 : 13208098439168 ≤ k) (h2 : k < 13208102371328) : winBit k = 95 :=
  winBit_of_le (x := 13208098439168) (y := 13208102371327) (by decide) (by decide) h1 (by omega)
theorem grp64 {k : Nat} (h1 : 13208102371328 ≤ k) (h2 : k < 13208106565632) : winBit k = 96 :=
  winBit_of_le (x := 13208102371328) (y := 13208106565631) (by decide) (by decide) h1 (by omega)
theorem grp65 {k : Nat} (h1 : 13208106565632 ≤ k) (h2 : k < 13209171918848) : winBit k = 97 :=
  winBit_of_le (x := 13208106565632) (y := 13209171918847) (by decide) (by decide) h1 (by omega)
theorem grp66 {k : Nat} (h1 : 13209171918848 ≤ k) (h2 : k < 13209171935744) : winBit k = 98 :=
  winBit_of_le (x := 13209171918848) (y := 13209171935743) (by decide) (by decide) h1 (by omega)
theorem grp67 {k : Nat} (h1 : 13209171935744 ≤ k) (h2 : k < 13209171951616) : winBit k = 99 :=
  winBit_of_le (x := 13209171935744) (y := 13209171951615) (by decide) (by decide) h1 (by omega)
theorem grp68 {k : Nat} (h1 : 13209171951616 ≤ k) (h2 : k < 13209171968000) : winBit k = 100 :=
  winBit_of_le (x := 13209171951616) (y := 13209171967999) (by decide) (by decide) h1 (by omega)
theorem grp69 {k : Nat} (h1 : 13209171968000 ≤ k) (h2 : k < 13209176113152) : winBit k = 101 :=
  winBit_of_le (x := 13209171968000) (y := 13209176113151) (by decide) (by decide) h1 (by omega)
theorem grp70 {k : Nat} (h1 : 13209176113152 ≤ k) (h2 : k < 13209180307456) : winBit k = 102 :=
  winBit_of_le (x := 13209176113152) (y := 13209180307455) (by decide) (by decide) h1 (by omega)
theorem grp71 {k : Nat} (h1 : 13209180307456 ≤ k) (h2 : k < 13210245660672) : winBit k = 103 :=
  winBit_of_le (x := 13209180307456) (y := 13210245660671) (by decide) (by decide) h1 (by omega)
theorem grp72 {k : Nat} (h1 : 13210245660672 ≤ k) (h2 : k < 13210245922816) : winBit k = 104 :=
  winBit_of_le (x := 13210245660672) (y := 13210245922815) (by decide) (by decide) h1 (by omega)
theorem grp73 {k : Nat} (h1 : 13210245922816 ≤ k) (h2 : k < 13210246184960) : winBit k = 105 :=
  winBit_of_le (x := 13210245922816) (y := 13210246184959) (by decide) (by decide) h1 (by omega)
theorem grp74 {k : Nat} (h1 : 13210246184960 ≤ k) (h2 : k < 13210246709248) : winBit k = 106 :=
  winBit_of_le (x := 13210246184960) (y := 13210246709247) (by decide) (by decide) h1 (by omega)
theorem grp75 {k : Nat} (h1 : 13210246709248 ≤ k) (h2 : k < 13210247233536) : winBit k = 107 :=
  winBit_of_le (x := 13210246709248) (y := 13210247233535) (by decide) (by decide) h1 (by omega)
theorem grp76 {k : Nat} (h1 : 13210247233536 ≤ k) (h2 : k < 13210247757824) : winBit k = 108 :=
  winBit_of_le (x := 13210247233536) (y := 13210247757823) (by decide) (by decide) h1 (by omega)
theorem grp77 {k : Nat} (h1 : 13210247757824 ≤ k) (h2 : k < 13210248282112) : winBit k = 109 :=
  winBit_of_le (x := 13210247757824) (y := 13210248282111) (by decide) (by decide) h1 (by omega)
theorem grp78 {k : Nat} (h1 : 13210248282112 ≤ k) (h2 : k < 13210248314880) : winBit k = 110 :=
  winBit_of_le (x := 13210248282112) (y := 13210248314879) (by decide) (by decide) h1 (by omega)
theorem grp79 {k : Nat} (h1 : 13210248314880 ≤ k) (h2 : k < 13210248331264) : winBit k = 111 :=
  winBit_of_le (x := 13210248314880) (y := 13210248331263) (by decide) (by decide) h1 (by omega)
theorem grp80 {k : Nat} (h1 : 13210248331264 ≤ k) (h2 : k < 13210248806400) : winBit k = 112 :=
  winBit_of_le (x := 13210248331264) (y := 13210248806399) (by decide) (by decide) h1 (by omega)
theorem grp81 {k : Nat} (h1 : 13210248806400 ≤ k) (h2 : k < 13211319402496) : winBit k = 113 :=
  winBit_of_le (x := 13210248806400) (y := 13211319402495) (by decide) (by decide) h1 (by omega)
theorem grp82 {k : Nat} (h1 : 13211319402496 ≤ k) (h2 : k < 13211319419392) : winBit k = 114 :=
  winBit_of_le (x := 13211319402496) (y := 13211319419391) (by decide) (by decide) h1 (by omega)
theorem grp83 {k : Nat} (h1 : 13211319419392 ≤ k) (h2 : k < 13211319435264) : winBit k = 115 :=
  winBit_of_le (x := 13211319419392) (y := 13211319435263) (by decide) (by decide) h1 (by omega)
theorem grp84 {k : Nat} (h1 : 13211319435264 ≤ k) (h2 : k < 13211319451648) : winBit k = 116 :=
  winBit_of_le (x := 13211319435264) (y := 13211319451647) (by decide) (by decide) h1 (by omega)
theorem grp85 {k : Nat} (h1 : 13211319451648 ≤ k) (h2 : k < 13211319468032) : winBit k = 117 :=
  winBit_of_le (x := 13211319451648) (y := 13211319468031) (by decide) (by decide) h1 (by omega)
theorem grp86 {k : Nat} (h1 : 13211319468032 ≤ k) (h2 : k < 13212393144320) : winBit k = 118 :=
  winBit_of_le (x := 13211319468032) (y := 13212393144319) (by decide) (by decide) h1 (by omega)
theorem grp87 {k : Nat} (h1 : 13212393144320 ≤ k) (h2 : k < 13212393177088) : winBit k = 119 :=
  winBit_of_le (x := 13212393144320) (y := 13212393177087) (by decide) (by decide) h1 (by omega)
theorem grp88 {k : Nat} (h1 : 13212393177088 ≤ k) (h2 : k < 13213466886144) : winBit k = 120 :=
  winBit_of_le (x := 13212393177088) (y := 13213466886143) (by decide) (by decide) h1 (by omega)
theorem grp89 {k : Nat} (h1 : 13213466886144 ≤ k) (h2 : k < 13213466918912) : winBit k = 121 :=
  winBit_of_le (x := 13213466886144) (y := 13213466918911) (by decide) (by decide) h1 (by omega)
theorem grp90 {k : Nat} (h1 : 13213466918912 ≤ k) (h2 : k < 13213466943488) : winBit k = 122 :=
  winBit_of_le (x := 13213466918912) (y := 13213466943487) (by decide) (by decide) h1 (by omega)
theorem grp91 {k : Nat} (h1 : 13213466943488 ≤ k) (h2 : k < 13213466951680) : winBit k = 123 :=
  winBit_of_le (x := 13213466943488) (y := 13213466951679) (by decide) (by decide) h1 (by omega)
theorem grp92 {k : Nat} (h1 : 13213466951680 ≤ k) (h2 : k < 13213467148288) : winBit k = 124 :=
  winBit_of_le (x := 13213466951680) (y := 13213467148287) (by decide) (by decide) h1 (by omega)
theorem grp93 {k : Nat} (h1 : 13213467148288 ≤ k) (h2 : k < 13213468983296) : winBit k = 125 :=
  winBit_of_le (x := 13213467148288) (y := 13213468983295) (by decide) (by decide) h1 (by omega)
theorem grp94 {k : Nat} (h1 : 13213468983296 ≤ k) (h2 : k < 13213471080448) : winBit k = 126 :=
  winBit_of_le (x := 13213468983296) (y := 13213471080447) (by decide) (by decide) h1 (by omega)
theorem grp95 {k : Nat} (h1 : 13213471080448 ≤ k) (h2 : k < 13214540627968) : winBit k = 127 :=
  winBit_of_le (x := 13213471080448) (y := 13214540627967) (by decide) (by decide) h1 (by omega)
theorem ALM_CTL_GO_win : winBit (ALM_CTL_GO).key = 116 := by decide
theorem ALM_CTL_OP_win : winBit (ALM_CTL_OP).key = 116 := by decide
theorem ALM_CTL_SRC_win : winBit (ALM_CTL_SRC).key = 116 := by decide
theorem ALM_CTL_TARGET_win : winBit (ALM_CTL_TARGET).key = 116 := by decide
theorem ALM_STAT_BUSY_win : winBit (ALM_STAT_BUSY).key = 116 := by decide
theorem ALM_STAT_CHECK_win : winBit (ALM_STAT_CHECK).key = 116 := by decide
theorem ALM_STAT_RESULT_win : winBit (ALM_STAT_RESULT).key = 116 := by decide
theorem ARB_ACT_BURST_win (i j : Nat) : winBit (ARB_ACT_BURST i j).key = 97 := by exact grp65 (by unfold ARB_ACT_BURST; dsimp only; omega) (by unfold ARB_ACT_BURST; dsimp only; omega)
theorem ARB_ACT_PREEMPT_win (i j : Nat) : winBit (ARB_ACT_PREEMPT i j).key = 97 := by exact grp65 (by unfold ARB_ACT_PREEMPT; dsimp only; omega) (by unfold ARB_ACT_PREEMPT; dsimp only; omega)
theorem ARB_ACT_PRIO_win (i j : Nat) : winBit (ARB_ACT_PRIO i j).key = 97 := by exact grp65 (by unfold ARB_ACT_PRIO; dsimp only; omega) (by unfold ARB_ACT_PRIO; dsimp only; omega)
theorem ARB_CTL_COMMIT_win (i : Nat) : winBit (ARB_CTL_COMMIT i).key = 97 := by exact grp65 (by unfold ARB_CTL_COMMIT; dsimp only; omega) (by unfold ARB_CTL_COMMIT; dsimp only; omega)
theorem ARB_CTL_FAIR_N_win (i : Nat) : winBit (ARB_CTL_FAIR_N i).key = 97 := by exact grp65 (by unfold ARB_CTL_FAIR_N; dsimp only; omega) (by unfold ARB_CTL_FAIR_N; dsimp only; omega)
theorem ARB_SHD_BURST_win (i j : Nat) : winBit (ARB_SHD_BURST i j).key = 97 := by exact grp65 (by unfold ARB_SHD_BURST; dsimp only; omega) (by unfold ARB_SHD_BURST; dsimp only; omega)
theorem ARB_SHD_PREEMPT_win (i j : Nat) : winBit (ARB_SHD_PREEMPT i j).key = 97 := by exact grp65 (by unfold ARB_SHD_PREEMPT; dsimp only; omega) (by unfold ARB_SHD_PREEMPT; dsimp only; omega)
theorem ARB_SHD_PRIO_win (i j : Nat) : winBit (ARB_SHD_PRIO i j).key = 97 := by exact grp65 (by unfold ARB_SHD_PRIO; dsimp only; omega) (by unfold ARB_SHD_PRIO; dsimp only; omega)
theorem ARB_STAT_BUSY_win (i : Nat) : winBit (ARB_STAT_BUSY i).key = 97 := by exact grp65 (by unfold ARB_STAT_BUSY; dsimp only; omega) (by unfold ARB_STAT_BUSY; dsimp only; omega)
theorem ARB_STAT_FAIR_CNT_win (i : Nat) : winBit (ARB_STAT_FAIR_CNT i).key = 97 := by exact grp65 (by unfold ARB_STAT_FAIR_CNT; dsimp only; omega) (by unfold ARB_STAT_FAIR_CNT; dsimp only; omega)
theorem ARB_STAT_OWNER_win (i : Nat) : winBit (ARB_STAT_OWNER i).key = 97 := by exact grp65 (by unfold ARB_STAT_OWNER; dsimp only; omega) (by unfold ARB_STAT_OWNER; dsimp only; omega)
theorem ATT_CTL_DST_win : winBit (ATT_CTL_DST).key = 118 := by decide
theorem ATT_CTL_GO_win : winBit (ATT_CTL_GO).key = 118 := by decide
theorem ATT_CTL_RESULT_win : winBit (ATT_CTL_RESULT).key = 118 := by decide
theorem AUD_BODY_BYTES_win (i : Nat) : winBit (AUD_BODY_BYTES i).key = 117 := by exact grp85 (by unfold AUD_BODY_BYTES; dsimp only; omega) (by unfold AUD_BODY_BYTES; dsimp only; omega)
theorem AUD_GO_GO_win : winBit (AUD_GO_GO).key = 117 := by decide
theorem AUD_HEAD_BYTES_win (i : Nat) : winBit (AUD_HEAD_BYTES i).key = 117 := by exact grp85 (by unfold AUD_HEAD_BYTES; dsimp only; omega) (by unfold AUD_HEAD_BYTES; dsimp only; omega)
theorem AUD_SEQ_SEQ_win : winBit (AUD_SEQ_SEQ).key = 117 := by decide
theorem BOOT_STAT_ALMANAC_win : winBit (BOOT_STAT_ALMANAC).key = 41 := by decide
theorem BOOT_STAT_DEGRADED_win : winBit (BOOT_STAT_DEGRADED).key = 41 := by decide
theorem BOOT_STAT_ELAPSED_MS_win : winBit (BOOT_STAT_ELAPSED_MS).key = 41 := by decide
theorem BOOT_STAT_FABRIC_win : winBit (BOOT_STAT_FABRIC).key = 41 := by decide
theorem BOOT_STAT_FW_ERR_win : winBit (BOOT_STAT_FW_ERR).key = 41 := by decide
theorem BOOT_STAT_FW_SLOT_win : winBit (BOOT_STAT_FW_SLOT).key = 41 := by decide
theorem BOOT_STAT_GOLDEN_ERR_win : winBit (BOOT_STAT_GOLDEN_ERR).key = 41 := by decide
theorem BOOT_STAT_IFW_win : winBit (BOOT_STAT_IFW).key = 41 := by decide
theorem BOOT_STAT_PRIMARY_ERR_win : winBit (BOOT_STAT_PRIMARY_ERR).key = 41 := by decide
theorem BOOT_STAT_READY_win : winBit (BOOT_STAT_READY).key = 41 := by decide
theorem BOOT_STAT_STAGE_win : winBit (BOOT_STAT_STAGE).key = 41 := by decide
theorem BOOT_STAT_WARM_win : winBit (BOOT_STAT_WARM).key = 41 := by decide
theorem CAS_CTL_STATION_win : winBit (CAS_CTL_STATION).key = 98 := by decide
theorem CAS_RX_CFG_BASE_win : winBit (CAS_RX_CFG_BASE).key = 101 := by decide
theorem CAS_RX_CFG_LOG2_win : winBit (CAS_RX_CFG_LOG2).key = 101 := by decide
theorem CAS_RX_PTR_RD_win : winBit (CAS_RX_PTR_RD).key = 101 := by decide
theorem CAS_RX_PTR_WR_win : winBit (CAS_RX_PTR_WR).key = 101 := by decide
theorem CAS_SEND_ADDR_win : winBit (CAS_SEND_ADDR).key = 100 := by decide
theorem CAS_SEND_DEST_win : winBit (CAS_SEND_DEST).key = 100 := by decide
theorem CAS_SEND_LEN_win : winBit (CAS_SEND_LEN).key = 100 := by decide
theorem CAS_SEND_TAG_win : winBit (CAS_SEND_TAG).key = 100 := by decide
theorem CAS_STAT_NOROUTE_win : winBit (CAS_STAT_NOROUTE).key = 100 := by decide
theorem CAS_STAT_QUEUED_win : winBit (CAS_STAT_QUEUED).key = 100 := by decide
theorem CAS_STAT_RX_DROP_win : winBit (CAS_STAT_RX_DROP).key = 100 := by decide
theorem CAS_TIME_ALIGNED_win : winBit (CAS_TIME_ALIGNED).key = 99 := by decide
theorem CAS_TIME_BEYOND_win : winBit (CAS_TIME_BEYOND).key = 99 := by decide
theorem CAS_TIME_DELAY_win : winBit (CAS_TIME_DELAY).key = 99 := by decide
theorem CAS_TIME_ERR_win : winBit (CAS_TIME_ERR).key = 99 := by decide
theorem CAS_TIME_HOLD_win : winBit (CAS_TIME_HOLD).key = 99 := by decide
theorem CAS_TIME_HOPS_win : winBit (CAS_TIME_HOPS).key = 99 := by decide
theorem CAS_TIME_NOUP_win : winBit (CAS_TIME_NOUP).key = 99 := by decide
theorem CAS_TIME_UPLINK_win : winBit (CAS_TIME_UPLINK).key = 99 := by decide
theorem CAS_TIME_VALID_win : winBit (CAS_TIME_VALID).key = 99 := by decide
theorem CLKMON_CTL_DIV_win : winBit (CLKMON_CTL_DIV).key = 50 := by decide
theorem CLKMON_CTL_EN_win : winBit (CLKMON_CTL_EN).key = 50 := by decide
theorem CLKMON_CTL_SRC_win : winBit (CLKMON_CTL_SRC).key = 50 := by decide
theorem CLK_FAB_MHZ_win (i : Nat) : winBit (CLK_FAB_MHZ i).key = 51 := by exact grp19 (by unfold CLK_FAB_MHZ; dsimp only; omega) (by unfold CLK_FAB_MHZ; dsimp only; omega)
theorem CLK_GATE_ACK_MISS_win (i : Nat) : winBit (CLK_GATE_ACK_MISS i).key = 52 := by exact grp20 (by unfold CLK_GATE_ACK_MISS; dsimp only; omega) (by unfold CLK_GATE_ACK_MISS; dsimp only; omega)
theorem CLK_GATE_CLOSE_win (i : Nat) : winBit (CLK_GATE_CLOSE i).key = 52 := by exact grp20 (by unfold CLK_GATE_CLOSE; dsimp only; omega) (by unfold CLK_GATE_CLOSE; dsimp only; omega)
theorem CLK_GATE_CLOSED_win (i : Nat) : winBit (CLK_GATE_CLOSED i).key = 52 := by exact grp20 (by unfold CLK_GATE_CLOSED; dsimp only; omega) (by unfold CLK_GATE_CLOSED; dsimp only; omega)
theorem CLK_GATE_PEND_win (i : Nat) : winBit (CLK_GATE_PEND i).key = 52 := by exact grp20 (by unfold CLK_GATE_PEND; dsimp only; omega) (by unfold CLK_GATE_PEND; dsimp only; omega)
theorem CLK_SEL_AUTO_win (i : Nat) : winBit (CLK_SEL_AUTO i).key = 49 := by exact grp17 (by unfold CLK_SEL_AUTO; dsimp only; omega) (by unfold CLK_SEL_AUTO; dsimp only; omega)
theorem CLK_SEL_FORCE_win (i : Nat) : winBit (CLK_SEL_FORCE i).key = 49 := by exact grp17 (by unfold CLK_SEL_FORCE; dsimp only; omega) (by unfold CLK_SEL_FORCE; dsimp only; omega)
theorem CLK_SEL_PEND_win (i : Nat) : winBit (CLK_SEL_PEND i).key = 49 := by exact grp17 (by unfold CLK_SEL_PEND; dsimp only; omega) (by unfold CLK_SEL_PEND; dsimp only; omega)
theorem CLK_SEL_SEL_win (i : Nat) : winBit (CLK_SEL_SEL i).key = 49 := by exact grp17 (by unfold CLK_SEL_SEL; dsimp only; omega) (by unfold CLK_SEL_SEL; dsimp only; omega)
theorem CLK_SEL_WAIT_win (i : Nat) : winBit (CLK_SEL_WAIT i).key = 49 := by exact grp17 (by unfold CLK_SEL_WAIT; dsimp only; omega) (by unfold CLK_SEL_WAIT; dsimp only; omega)
theorem CLK_SRC_STAT_ACTIVE_win : winBit (CLK_SRC_STAT_ACTIVE).key = 48 := by decide
theorem CLK_SRC_STAT_HOLDOVER_win : winBit (CLK_SRC_STAT_HOLDOVER).key = 48 := by decide
theorem CLK_SRC_STAT_LOST_win : winBit (CLK_SRC_STAT_LOST).key = 48 := by decide
theorem CLK_SRC_STAT_OK_win : winBit (CLK_SRC_STAT_OK).key = 48 := by decide
theorem CORE_STAT_LOCKFAULT_win (i : Nat) : winBit (CORE_STAT_LOCKFAULT i).key = 105 := by exact grp73 (by unfold CORE_STAT_LOCKFAULT; dsimp only; omega) (by unfold CORE_STAT_LOCKFAULT; dsimp only; omega)
theorem CORE_STAT_STATE_win (i : Nat) : winBit (CORE_STAT_STATE i).key = 105 := by exact grp73 (by unfold CORE_STAT_STATE; dsimp only; omega) (by unfold CORE_STAT_STATE; dsimp only; omega)
theorem CORE_STAT_WD_LEFT_win (i : Nat) : winBit (CORE_STAT_WD_LEFT i).key = 105 := by exact grp73 (by unfold CORE_STAT_WD_LEFT; dsimp only; omega) (by unfold CORE_STAT_WD_LEFT; dsimp only; omega)
theorem CRC_CFG_FOLD_win (i : Nat) : winBit (CRC_CFG_FOLD i).key = 109 := by exact grp77 (by unfold CRC_CFG_FOLD; dsimp only; omega) (by unfold CRC_CFG_FOLD; dsimp only; omega)
theorem CRC_CFG_POLY_win (i : Nat) : winBit (CRC_CFG_POLY i).key = 109 := by exact grp77 (by unfold CRC_CFG_POLY; dsimp only; omega) (by unfold CRC_CFG_POLY; dsimp only; omega)
theorem CRC_CFG_SEED_EN_win (i : Nat) : winBit (CRC_CFG_SEED_EN i).key = 109 := by exact grp77 (by unfold CRC_CFG_SEED_EN; dsimp only; omega) (by unfold CRC_CFG_SEED_EN; dsimp only; omega)
theorem CRC_DB_DATA_win (i : Nat) : winBit (CRC_DB_DATA i).key = 109 := by exact grp77 (by unfold CRC_DB_DATA; dsimp only; omega) (by unfold CRC_DB_DATA; dsimp only; omega)
theorem CRC_DH_DATA_win (i : Nat) : winBit (CRC_DH_DATA i).key = 109 := by exact grp77 (by unfold CRC_DH_DATA; dsimp only; omega) (by unfold CRC_DH_DATA; dsimp only; omega)
theorem CRC_DW_DATA_win (i : Nat) : winBit (CRC_DW_DATA i).key = 109 := by exact grp77 (by unfold CRC_DW_DATA; dsimp only; omega) (by unfold CRC_DW_DATA; dsimp only; omega)
theorem CRC_FOLD_VALUE_win (i : Nat) : winBit (CRC_FOLD_VALUE i).key = 109 := by exact grp77 (by unfold CRC_FOLD_VALUE; dsimp only; omega) (by unfold CRC_FOLD_VALUE; dsimp only; omega)
theorem CRC_RES_RES_win (i : Nat) : winBit (CRC_RES_RES i).key = 109 := by exact grp77 (by unfold CRC_RES_RES; dsimp only; omega) (by unfold CRC_RES_RES; dsimp only; omega)
theorem CRC_SEED_SEED_win (i : Nat) : winBit (CRC_SEED_SEED i).key = 109 := by exact grp77 (by unfold CRC_SEED_SEED; dsimp only; omega) (by unfold CRC_SEED_SEED; dsimp only; omega)
theorem DBG_AUTH_BUF_WORD_win (i : Nat) : winBit (DBG_AUTH_BUF_WORD i).key = 127 := by exact grp95 (by unfold DBG_AUTH_BUF_WORD; dsimp only; omega) (by unfold DBG_AUTH_BUF_WORD; dsimp only; omega)
theorem DBG_AUTH_CTL_BUSY_win : winBit (DBG_AUTH_CTL_BUSY).key = 121 := by decide
theorem DBG_AUTH_CTL_CAUSE_win : winBit (DBG_AUTH_CTL_CAUSE).key = 121 := by decide
theorem DBG_AUTH_CTL_LEN_win : winBit (DBG_AUTH_CTL_LEN).key = 121 := by decide
theorem DBG_AUTH_CTL_OP_win : winBit (DBG_AUTH_CTL_OP).key = 121 := by decide
theorem DBG_AUTH_CTL_RESULT_win : winBit (DBG_AUTH_CTL_RESULT).key = 121 := by decide
theorem DBG_AUTH_CTL_ROLE_win : winBit (DBG_AUTH_CTL_ROLE).key = 121 := by decide
theorem DBG_CREG_VALUE_win (i j : Nat) : winBit (DBG_CREG_VALUE i j).key = 125 := by exact grp93 (by unfold DBG_CREG_VALUE; dsimp only; omega) (by unfold DBG_CREG_VALUE; dsimp only; omega)
theorem DBG_CSR_DATA_VALUE_win (i : Nat) : winBit (DBG_CSR_DATA_VALUE i).key = 125 := by exact grp93 (by unfold DBG_CSR_DATA_VALUE; dsimp only; omega) (by unfold DBG_CSR_DATA_VALUE; dsimp only; omega)
theorem DBG_CSR_SEL_CSR_win (i : Nat) : winBit (DBG_CSR_SEL_CSR i).key = 125 := by exact grp93 (by unfold DBG_CSR_SEL_CSR; dsimp only; omega) (by unfold DBG_CSR_SEL_CSR; dsimp only; omega)
theorem DBG_CTL_BREAKLEASE_win : winBit (DBG_CTL_BREAKLEASE).key = 121 := by decide
theorem DBG_CTL_SIDE_win : winBit (DBG_CTL_SIDE).key = 121 := by decide
theorem DBG_FREEZE_MASK_win : winBit (DBG_FREEZE_MASK).key = 123 := by decide
theorem DBG_RUN_HALT_win (i : Nat) : winBit (DBG_RUN_HALT i).key = 122 := by exact grp90 (by unfold DBG_RUN_HALT; dsimp only; omega) (by unfold DBG_RUN_HALT; dsimp only; omega)
theorem DBG_RUN_HALTED_win (i : Nat) : winBit (DBG_RUN_HALTED i).key = 122 := by exact grp90 (by unfold DBG_RUN_HALTED; dsimp only; omega) (by unfold DBG_RUN_HALTED; dsimp only; omega)
theorem DBG_RUN_RESUME_win (i : Nat) : winBit (DBG_RUN_RESUME i).key = 122 := by exact grp90 (by unfold DBG_RUN_RESUME; dsimp only; omega) (by unfold DBG_RUN_RESUME; dsimp only; omega)
theorem DBG_RUN_RHALT_win (i : Nat) : winBit (DBG_RUN_RHALT i).key = 122 := by exact grp90 (by unfold DBG_RUN_RHALT; dsimp only; omega) (by unfold DBG_RUN_RHALT; dsimp only; omega)
theorem DBG_RUN_STEP_win (i : Nat) : winBit (DBG_RUN_STEP i).key = 122 := by exact grp90 (by unfold DBG_RUN_STEP; dsimp only; omega) (by unfold DBG_RUN_STEP; dsimp only; omega)
theorem DBG_RUN_STEPPING_win (i : Nat) : winBit (DBG_RUN_STEPPING i).key = 122 := by exact grp90 (by unfold DBG_RUN_STEPPING; dsimp only; omega) (by unfold DBG_RUN_STEPPING; dsimp only; omega)
theorem DBG_STIM_DATA_win (i j : Nat) : winBit (DBG_STIM_DATA i j).key = 126 := by exact grp94 (by unfold DBG_STIM_DATA; dsimp only; omega) (by unfold DBG_STIM_DATA; dsimp only; omega)
theorem DBG_TRC_CTL_EN_win : winBit (DBG_TRC_CTL_EN).key = 124 := by decide
theorem DBG_TRC_CTL_EVT_win : winBit (DBG_TRC_CTL_EVT).key = 124 := by decide
theorem DBG_TRC_CTL_STALL_win : winBit (DBG_TRC_CTL_STALL).key = 124 := by decide
theorem DBG_TRC_CTL_STIM_win : winBit (DBG_TRC_CTL_STIM).key = 124 := by decide
theorem DBG_TRC_CTL_TICK_win : winBit (DBG_TRC_CTL_TICK).key = 124 := by decide
theorem DBG_TRC_STAT_LEVEL_win : winBit (DBG_TRC_STAT_LEVEL).key = 124 := by decide
theorem DBG_TRC_STAT_LOST_win : winBit (DBG_TRC_STAT_LOST).key = 124 := by decide
theorem DB_MASK_MASK_win (i : Nat) : winBit (DB_MASK_MASK i).key = 108 := by exact grp76 (by unfold DB_MASK_MASK; dsimp only; omega) (by unfold DB_MASK_MASK; dsimp only; omega)
theorem DB_PEND_PEND_win (i : Nat) : winBit (DB_PEND_PEND i).key = 108 := by exact grp76 (by unfold DB_PEND_PEND; dsimp only; omega) (by unfold DB_PEND_PEND; dsimp only; omega)
theorem ELIM_STAT_ANY_BALL_win : winBit (ELIM_STAT_ANY_BALL).key = 43 := by decide
theorem ELIM_STAT_WIN_FAULT_win : winBit (ELIM_STAT_WIN_FAULT).key = 43 := by decide
theorem ELIM_STAT_WIRING_win : winBit (ELIM_STAT_WIRING).key = 43 := by decide
theorem ELIM_TRIP_BALL_win (i : Nat) : winBit (ELIM_TRIP_BALL i).key = 44 := by exact grp12 (by unfold ELIM_TRIP_BALL; dsimp only; omega) (by unfold ELIM_TRIP_BALL; dsimp only; omega)
theorem ENC_KEYID_STATE_win : winBit (ENC_KEYID_STATE).key = 91 := by decide
theorem ENC_PASS_GO_win : winBit (ENC_PASS_GO).key = 92 := by decide
theorem ENC_PASS_REGION_win : winBit (ENC_PASS_REGION).key = 92 := by decide
theorem ENC_PASS_SUM_CHECKED_win : winBit (ENC_PASS_SUM_CHECKED).key = 92 := by decide
theorem ENC_PASS_SUM_CORR_win : winBit (ENC_PASS_SUM_CORR).key = 92 := by decide
theorem ENC_PASS_SUM_UNCORR_win : winBit (ENC_PASS_SUM_UNCORR).key = 92 := by decide
theorem ENC_REG_CTL_EN_win (i : Nat) : winBit (ENC_REG_CTL_EN i).key = 93 := by exact grp61 (by unfold ENC_REG_CTL_EN; dsimp only; omega) (by unfold ENC_REG_CTL_EN; dsimp only; omega)
theorem ENC_REG_CTL_KEYID_win (i : Nat) : winBit (ENC_REG_CTL_KEYID i).key = 93 := by exact grp61 (by unfold ENC_REG_CTL_KEYID; dsimp only; omega) (by unfold ENC_REG_CTL_KEYID; dsimp only; omega)
theorem ENC_REG_CTL_PEND_win (i : Nat) : winBit (ENC_REG_CTL_PEND i).key = 93 := by exact grp61 (by unfold ENC_REG_CTL_PEND; dsimp only; omega) (by unfold ENC_REG_CTL_PEND; dsimp only; omega)
theorem ENC_REG_CTL_REKEY_win (i : Nat) : winBit (ENC_REG_CTL_REKEY i).key = 93 := by exact grp61 (by unfold ENC_REG_CTL_REKEY; dsimp only; omega) (by unfold ENC_REG_CTL_REKEY; dsimp only; omega)
theorem ENC_REG_CTL_STATE_win (i : Nat) : winBit (ENC_REG_CTL_STATE i).key = 93 := by exact grp61 (by unfold ENC_REG_CTL_STATE; dsimp only; omega) (by unfold ENC_REG_CTL_STATE; dsimp only; omega)
theorem ENC_REG_RANGE_BASE_win (i : Nat) : winBit (ENC_REG_RANGE_BASE i).key = 93 := by exact grp61 (by unfold ENC_REG_RANGE_BASE; dsimp only; omega) (by unfold ENC_REG_RANGE_BASE; dsimp only; omega)
theorem ENC_REG_RANGE_LIMIT_win (i : Nat) : winBit (ENC_REG_RANGE_LIMIT i).key = 93 := by exact grp61 (by unfold ENC_REG_RANGE_LIMIT; dsimp only; omega) (by unfold ENC_REG_RANGE_LIMIT; dsimp only; omega)
theorem ENC_REG_STAT_POISONED_win (i : Nat) : winBit (ENC_REG_STAT_POISONED i).key = 93 := by exact grp61 (by unfold ENC_REG_STAT_POISONED; dsimp only; omega) (by unfold ENC_REG_STAT_POISONED; dsimp only; omega)
theorem ENC_REG_WM_WATERMARK_win (i : Nat) : winBit (ENC_REG_WM_WATERMARK i).key = 93 := by exact grp61 (by unfold ENC_REG_WM_WATERMARK; dsimp only; omega) (by unfold ENC_REG_WM_WATERMARK; dsimp only; omega)
theorem ENL_FAULT_win (i : Nat) : winBit (ENL_FAULT i).key = 47 := by exact grp15 (by unfold ENL_FAULT; dsimp only; omega) (by unfold ENL_FAULT; dsimp only; omega)
theorem ENL_MERGED_win (i : Nat) : winBit (ENL_MERGED i).key = 47 := by exact grp15 (by unfold ENL_MERGED; dsimp only; omega) (by unfold ENL_MERGED; dsimp only; omega)
theorem ENL_TOTAL_win (i : Nat) : winBit (ENL_TOTAL i).key = 47 := by exact grp15 (by unfold ENL_TOTAL; dsimp only; omega) (by unfold ENL_TOTAL; dsimp only; omega)
theorem EPOCH_EPOCH_win (i : Nat) : winBit (EPOCH_EPOCH i).key = 104 := by exact grp72 (by unfold EPOCH_EPOCH; dsimp only; omega) (by unfold EPOCH_EPOCH; dsimp only; omega)
theorem ET_BANK_CTL_REALIGN_win (i : Nat) : winBit (ET_BANK_CTL_REALIGN i).key = 62 := by exact grp30 (by unfold ET_BANK_CTL_REALIGN; dsimp only; omega) (by unfold ET_BANK_CTL_REALIGN; dsimp only; omega)
theorem ET_BANK_STAT_ALIGNED_win (i : Nat) : winBit (ET_BANK_STAT_ALIGNED i).key = 62 := by exact grp30 (by unfold ET_BANK_STAT_ALIGNED; dsimp only; omega) (by unfold ET_BANK_STAT_ALIGNED; dsimp only; omega)
theorem ET_BANK_STAT_ALIGN_LOST_win (i : Nat) : winBit (ET_BANK_STAT_ALIGN_LOST i).key = 62 := by exact grp30 (by unfold ET_BANK_STAT_ALIGN_LOST; dsimp only; omega) (by unfold ET_BANK_STAT_ALIGN_LOST; dsimp only; omega)
theorem ET_CH_BADCYC_COUNT_win (i : Nat) : winBit (ET_CH_BADCYC_COUNT i).key = 65 := by exact grp33 (by unfold ET_CH_BADCYC_COUNT; dsimp only; omega) (by unfold ET_CH_BADCYC_COUNT; dsimp only; omega)
theorem ET_CH_CAL_CAL_CMP_win (i : Nat) : winBit (ET_CH_CAL_CAL_CMP i).key = 65 := by exact grp33 (by unfold ET_CH_CAL_CAL_CMP; dsimp only; omega) (by unfold ET_CH_CAL_CAL_CMP; dsimp only; omega)
theorem ET_CH_CAL_CAL_DRV_win (i : Nat) : winBit (ET_CH_CAL_CAL_DRV i).key = 65 := by exact grp33 (by unfold ET_CH_CAL_CAL_DRV; dsimp only; omega) (by unfold ET_CH_CAL_CAL_DRV; dsimp only; omega)
theorem ET_CH_COMMIT_FMT_win (i : Nat) : winBit (ET_CH_COMMIT_FMT i).key = 65 := by exact grp33 (by unfold ET_CH_COMMIT_FMT; dsimp only; omega) (by unfold ET_CH_COMMIT_FMT; dsimp only; omega)
theorem ET_CH_COMMIT_TS_win (i : Nat) : winBit (ET_CH_COMMIT_TS i).key = 65 := by exact grp33 (by unfold ET_CH_COMMIT_TS; dsimp only; omega) (by unfold ET_CH_COMMIT_TS; dsimp only; omega)
theorem ET_CH_CORR_CORR_CMP_win (i : Nat) : winBit (ET_CH_CORR_CORR_CMP i).key = 65 := by exact grp33 (by unfold ET_CH_CORR_CORR_CMP; dsimp only; omega) (by unfold ET_CH_CORR_CORR_CMP; dsimp only; omega)
theorem ET_CH_CORR_CORR_DRV_win (i : Nat) : winBit (ET_CH_CORR_CORR_DRV i).key = 65 := by exact grp33 (by unfold ET_CH_CORR_CORR_DRV; dsimp only; omega) (by unfold ET_CH_CORR_CORR_DRV; dsimp only; omega)
theorem ET_CH_FIX_FIX_win (i : Nat) : winBit (ET_CH_FIX_FIX i).key = 65 := by exact grp33 (by unfold ET_CH_FIX_FIX; dsimp only; omega) (by unfold ET_CH_FIX_FIX; dsimp only; omega)
theorem ET_CH_STAT_OK_win (i : Nat) : winBit (ET_CH_STAT_OK i).key = 65 := by exact grp33 (by unfold ET_CH_STAT_OK; dsimp only; omega) (by unfold ET_CH_STAT_OK; dsimp only; omega)
theorem ET_CH_STG_CMP_C1_win (i : Nat) : winBit (ET_CH_STG_CMP_C1 i).key = 65 := by exact grp33 (by unfold ET_CH_STG_CMP_C1; dsimp only; omega) (by unfold ET_CH_STG_CMP_C1; dsimp only; omega)
theorem ET_CH_STG_CMP_C2_win (i : Nat) : winBit (ET_CH_STG_CMP_C2 i).key = 65 := by exact grp33 (by unfold ET_CH_STG_CMP_C2; dsimp only; omega) (by unfold ET_CH_STG_CMP_C2; dsimp only; omega)
theorem ET_CH_STG_DRV12_D1_win (i : Nat) : winBit (ET_CH_STG_DRV12_D1 i).key = 65 := by exact grp33 (by unfold ET_CH_STG_DRV12_D1; dsimp only; omega) (by unfold ET_CH_STG_DRV12_D1; dsimp only; omega)
theorem ET_CH_STG_DRV12_D2_win (i : Nat) : winBit (ET_CH_STG_DRV12_D2 i).key = 65 := by exact grp33 (by unfold ET_CH_STG_DRV12_D2; dsimp only; omega) (by unfold ET_CH_STG_DRV12_D2; dsimp only; omega)
theorem ET_CH_STG_DRV34_D3_win (i : Nat) : winBit (ET_CH_STG_DRV34_D3 i).key = 65 := by exact grp33 (by unfold ET_CH_STG_DRV34_D3; dsimp only; omega) (by unfold ET_CH_STG_DRV34_D3; dsimp only; omega)
theorem ET_CH_STG_DRV34_D4_win (i : Nat) : winBit (ET_CH_STG_DRV34_D4 i).key = 65 := by exact grp33 (by unfold ET_CH_STG_DRV34_D4; dsimp only; omega) (by unfold ET_CH_STG_DRV34_D4; dsimp only; omega)
theorem ET_PER_PERIOD_win (i j : Nat) : winBit (ET_PER_PERIOD i j).key = 63 := by exact grp31 (by unfold ET_PER_PERIOD; dsimp only; omega) (by unfold ET_PER_PERIOD; dsimp only; omega)
theorem ET_SEQ_STAT_CYCLES_win (i : Nat) : winBit (ET_SEQ_STAT_CYCLES i).key = 61 := by exact grp29 (by unfold ET_SEQ_STAT_CYCLES; dsimp only; omega) (by unfold ET_SEQ_STAT_CYCLES; dsimp only; omega)
theorem ET_SEQ_STAT_TS_LAST_win (i : Nat) : winBit (ET_SEQ_STAT_TS_LAST i).key = 61 := by exact grp29 (by unfold ET_SEQ_STAT_TS_LAST; dsimp only; omega) (by unfold ET_SEQ_STAT_TS_LAST; dsimp only; omega)
theorem ET_TS_CFG_FMT_win (i j : Nat) : winBit (ET_TS_CFG_FMT i j).key = 64 := by exact grp32 (by unfold ET_TS_CFG_FMT; dsimp only; omega) (by unfold ET_TS_CFG_FMT; dsimp only; omega)
theorem ET_TS_CFG_OK_win (i j : Nat) : winBit (ET_TS_CFG_OK i j).key = 64 := by exact grp32 (by unfold ET_TS_CFG_OK; dsimp only; omega) (by unfold ET_TS_CFG_OK; dsimp only; omega)
theorem ET_TS_CMP_C1_win (i j : Nat) : winBit (ET_TS_CMP_C1 i j).key = 64 := by exact grp32 (by unfold ET_TS_CMP_C1; dsimp only; omega) (by unfold ET_TS_CMP_C1; dsimp only; omega)
theorem ET_TS_CMP_C2_win (i j : Nat) : winBit (ET_TS_CMP_C2 i j).key = 64 := by exact grp32 (by unfold ET_TS_CMP_C2; dsimp only; omega) (by unfold ET_TS_CMP_C2; dsimp only; omega)
theorem ET_TS_DRV12_D1_win (i j : Nat) : winBit (ET_TS_DRV12_D1 i j).key = 64 := by exact grp32 (by unfold ET_TS_DRV12_D1; dsimp only; omega) (by unfold ET_TS_DRV12_D1; dsimp only; omega)
theorem ET_TS_DRV12_D2_win (i j : Nat) : winBit (ET_TS_DRV12_D2 i j).key = 64 := by exact grp32 (by unfold ET_TS_DRV12_D2; dsimp only; omega) (by unfold ET_TS_DRV12_D2; dsimp only; omega)
theorem ET_TS_DRV34_D3_win (i j : Nat) : winBit (ET_TS_DRV34_D3 i j).key = 64 := by exact grp32 (by unfold ET_TS_DRV34_D3; dsimp only; omega) (by unfold ET_TS_DRV34_D3; dsimp only; omega)
theorem ET_TS_DRV34_D4_win (i j : Nat) : winBit (ET_TS_DRV34_D4 i j).key = 64 := by exact grp32 (by unfold ET_TS_DRV34_D4; dsimp only; omega) (by unfold ET_TS_DRV34_D4; dsimp only; omega)
theorem FAB_ECC_CTL_BUCKET_win (i : Nat) : winBit (FAB_ECC_CTL_BUCKET i).key = 57 := by exact grp25 (by unfold FAB_ECC_CTL_BUCKET; dsimp only; omega) (by unfold FAB_ECC_CTL_BUCKET; dsimp only; omega)
theorem FAB_ECC_CTL_LEAK_win (i : Nat) : winBit (FAB_ECC_CTL_LEAK i).key = 57 := by exact grp25 (by unfold FAB_ECC_CTL_LEAK; dsimp only; omega) (by unfold FAB_ECC_CTL_LEAK; dsimp only; omega)
theorem FAB_ECC_CTL_SCRUB_RATE_win (i : Nat) : winBit (FAB_ECC_CTL_SCRUB_RATE i).key = 57 := by exact grp25 (by unfold FAB_ECC_CTL_SCRUB_RATE; dsimp only; omega) (by unfold FAB_ECC_CTL_SCRUB_RATE; dsimp only; omega)
theorem FAB_ECC_STAT_CORR_win (i : Nat) : winBit (FAB_ECC_STAT_CORR i).key = 57 := by exact grp25 (by unfold FAB_ECC_STAT_CORR; dsimp only; omega) (by unfold FAB_ECC_STAT_CORR; dsimp only; omega)
theorem FAB_ECC_STAT_LEVEL_win (i : Nat) : winBit (FAB_ECC_STAT_LEVEL i).key = 57 := by exact grp25 (by unfold FAB_ECC_STAT_LEVEL; dsimp only; omega) (by unfold FAB_ECC_STAT_LEVEL; dsimp only; omega)
theorem FAB_ECC_STAT_OVERFLOW_win (i : Nat) : winBit (FAB_ECC_STAT_OVERFLOW i).key = 57 := by exact grp25 (by unfold FAB_ECC_STAT_OVERFLOW; dsimp only; omega) (by unfold FAB_ECC_STAT_OVERFLOW; dsimp only; omega)
theorem FAB_ECC_STAT_PASSES_win (i : Nat) : winBit (FAB_ECC_STAT_PASSES i).key = 57 := by exact grp25 (by unfold FAB_ECC_STAT_PASSES; dsimp only; omega) (by unfold FAB_ECC_STAT_PASSES; dsimp only; omega)
theorem FAB_ECC_STAT_SKIP_win (i : Nat) : winBit (FAB_ECC_STAT_SKIP i).key = 57 := by exact grp25 (by unfold FAB_ECC_STAT_SKIP; dsimp only; omega) (by unfold FAB_ECC_STAT_SKIP; dsimp only; omega)
theorem FAB_ECC_STAT_UNCORR_win (i : Nat) : winBit (FAB_ECC_STAT_UNCORR i).key = 57 := by exact grp25 (by unfold FAB_ECC_STAT_UNCORR; dsimp only; omega) (by unfold FAB_ECC_STAT_UNCORR; dsimp only; omega)
theorem FAB_FLIP_CTL_ARM_win (i : Nat) : winBit (FAB_FLIP_CTL_ARM i).key = 57 := by exact grp25 (by unfold FAB_FLIP_CTL_ARM; dsimp only; omega) (by unfold FAB_FLIP_CTL_ARM; dsimp only; omega)
theorem FAB_FLIP_CTL_CMASK_win (i : Nat) : winBit (FAB_FLIP_CTL_CMASK i).key = 57 := by exact grp25 (by unfold FAB_FLIP_CTL_CMASK; dsimp only; omega) (by unfold FAB_FLIP_CTL_CMASK; dsimp only; omega)
theorem FAB_FLIP_CTL_MEM_win (i : Nat) : winBit (FAB_FLIP_CTL_MEM i).key = 57 := by exact grp25 (by unfold FAB_FLIP_CTL_MEM; dsimp only; omega) (by unfold FAB_FLIP_CTL_MEM; dsimp only; omega)
theorem FAB_FLIP_DATA_DMASK_win (i : Nat) : winBit (FAB_FLIP_DATA_DMASK i).key = 57 := by exact grp25 (by unfold FAB_FLIP_DATA_DMASK; dsimp only; omega) (by unfold FAB_FLIP_DATA_DMASK; dsimp only; omega)
theorem FAB_PORT_CTL_DIN_EN_win (i : Nat) : winBit (FAB_PORT_CTL_DIN_EN i).key = 58 := by exact grp26 (by unfold FAB_PORT_CTL_DIN_EN; dsimp only; omega) (by unfold FAB_PORT_CTL_DIN_EN; dsimp only; omega)
theorem FAB_PORT_CTL_TAP_EN_win (i : Nat) : winBit (FAB_PORT_CTL_TAP_EN i).key = 58 := by exact grp26 (by unfold FAB_PORT_CTL_TAP_EN; dsimp only; omega) (by unfold FAB_PORT_CTL_TAP_EN; dsimp only; omega)
theorem FAB_PORT_STAT_DIN_LEVEL_win (i : Nat) : winBit (FAB_PORT_STAT_DIN_LEVEL i).key = 58 := by exact grp26 (by unfold FAB_PORT_STAT_DIN_LEVEL; dsimp only; omega) (by unfold FAB_PORT_STAT_DIN_LEVEL; dsimp only; omega)
theorem FAB_PORT_STAT_TAP_DROP_win (i : Nat) : winBit (FAB_PORT_STAT_TAP_DROP i).key = 58 := by exact grp26 (by unfold FAB_PORT_STAT_TAP_DROP; dsimp only; omega) (by unfold FAB_PORT_STAT_TAP_DROP; dsimp only; omega)
theorem FAB_PORT_STAT_TAP_LEVEL_win (i : Nat) : winBit (FAB_PORT_STAT_TAP_LEVEL i).key = 58 := by exact grp26 (by unfold FAB_PORT_STAT_TAP_LEVEL; dsimp only; omega) (by unfold FAB_PORT_STAT_TAP_LEVEL; dsimp only; omega)
theorem FAB_SPARE_BMEM_SPARES_win (i : Nat) : winBit (FAB_SPARE_BMEM_SPARES i).key = 57 := by exact grp25 (by unfold FAB_SPARE_BMEM_SPARES; dsimp only; omega) (by unfold FAB_SPARE_BMEM_SPARES; dsimp only; omega)
theorem FAB_SPARE_LCOL_A_win (i : Nat) : winBit (FAB_SPARE_LCOL_A i).key = 57 := by exact grp25 (by unfold FAB_SPARE_LCOL_A; dsimp only; omega) (by unfold FAB_SPARE_LCOL_A; dsimp only; omega)
theorem FAB_SPARE_LCOL_B_win (i : Nat) : winBit (FAB_SPARE_LCOL_B i).key = 57 := by exact grp25 (by unfold FAB_SPARE_LCOL_B; dsimp only; omega) (by unfold FAB_SPARE_LCOL_B; dsimp only; omega)
theorem FC_CH_CNT_COUNT_win (i : Nat) : winBit (FC_CH_CNT_COUNT i).key = 73 := by exact grp41 (by unfold FC_CH_CNT_COUNT; dsimp only; omega) (by unfold FC_CH_CNT_COUNT; dsimp only; omega)
theorem FC_ECC_CTL_BUCKET_win : winBit (FC_ECC_CTL_BUCKET).key = 70 := by decide
theorem FC_ECC_CTL_LEAK_win : winBit (FC_ECC_CTL_LEAK).key = 70 := by decide
theorem FC_ECC_CTL_SCRUB_RATE_win : winBit (FC_ECC_CTL_SCRUB_RATE).key = 70 := by decide
theorem FC_ECC_STAT_CORR_win : winBit (FC_ECC_STAT_CORR).key = 70 := by decide
theorem FC_ECC_STAT_LEVEL_win : winBit (FC_ECC_STAT_LEVEL).key = 70 := by decide
theorem FC_ECC_STAT_OVERFLOW_win : winBit (FC_ECC_STAT_OVERFLOW).key = 70 := by decide
theorem FC_ECC_STAT_UNCORR_win : winBit (FC_ECC_STAT_UNCORR).key = 70 := by decide
theorem FC_LOG_CFG_BASE_win (i : Nat) : winBit (FC_LOG_CFG_BASE i).key = 72 := by exact grp40 (by unfold FC_LOG_CFG_BASE; dsimp only; omega) (by unfold FC_LOG_CFG_BASE; dsimp only; omega)
theorem FC_LOG_CFG_LOG2_win (i : Nat) : winBit (FC_LOG_CFG_LOG2 i).key = 72 := by exact grp40 (by unfold FC_LOG_CFG_LOG2; dsimp only; omega) (by unfold FC_LOG_CFG_LOG2; dsimp only; omega)
theorem FC_LOG_PTR_RD_win (i : Nat) : winBit (FC_LOG_PTR_RD i).key = 72 := by exact grp40 (by unfold FC_LOG_PTR_RD; dsimp only; omega) (by unfold FC_LOG_PTR_RD; dsimp only; omega)
theorem FC_LOG_PTR_WR_win (i : Nat) : winBit (FC_LOG_PTR_WR i).key = 72 := by exact grp40 (by unfold FC_LOG_PTR_WR; dsimp only; omega) (by unfold FC_LOG_PTR_WR; dsimp only; omega)
theorem FC_LOST_COUNT_win (i : Nat) : winBit (FC_LOST_COUNT i).key = 71 := by exact grp39 (by unfold FC_LOST_COUNT; dsimp only; omega) (by unfold FC_LOST_COUNT; dsimp only; omega)
theorem FC_MAP_CTL_CLOSE_win (i : Nat) : winBit (FC_MAP_CTL_CLOSE i).key = 74 := by exact grp42 (by unfold FC_MAP_CTL_CLOSE; dsimp only; omega) (by unfold FC_MAP_CTL_CLOSE; dsimp only; omega)
theorem FC_MAP_CTL_DISCARD_win (i : Nat) : winBit (FC_MAP_CTL_DISCARD i).key = 74 := by exact grp42 (by unfold FC_MAP_CTL_DISCARD; dsimp only; omega) (by unfold FC_MAP_CTL_DISCARD; dsimp only; omega)
theorem FC_MAP_CTL_MAPERR_win (i : Nat) : winBit (FC_MAP_CTL_MAPERR i).key = 74 := by exact grp42 (by unfold FC_MAP_CTL_MAPERR; dsimp only; omega) (by unfold FC_MAP_CTL_MAPERR; dsimp only; omega)
theorem FC_MAP_CTL_OPEN_win (i : Nat) : winBit (FC_MAP_CTL_OPEN i).key = 74 := by exact grp42 (by unfold FC_MAP_CTL_OPEN; dsimp only; omega) (by unfold FC_MAP_CTL_OPEN; dsimp only; omega)
theorem FC_MAP_CTL_SPILL_win (i : Nat) : winBit (FC_MAP_CTL_SPILL i).key = 74 := by exact grp42 (by unfold FC_MAP_CTL_SPILL; dsimp only; omega) (by unfold FC_MAP_CTL_SPILL; dsimp only; omega)
theorem FC_MAP_CTL_SPILL_ERR_win (i : Nat) : winBit (FC_MAP_CTL_SPILL_ERR i).key = 74 := by exact grp42 (by unfold FC_MAP_CTL_SPILL_ERR; dsimp only; omega) (by unfold FC_MAP_CTL_SPILL_ERR; dsimp only; omega)
theorem FC_MAP_CTL_STATE_win (i : Nat) : winBit (FC_MAP_CTL_STATE i).key = 74 := by exact grp42 (by unfold FC_MAP_CTL_STATE; dsimp only; omega) (by unfold FC_MAP_CTL_STATE; dsimp only; omega)
theorem FC_MAP_SEL_DOMAIN_win (i : Nat) : winBit (FC_MAP_SEL_DOMAIN i).key = 74 := by exact grp42 (by unfold FC_MAP_SEL_DOMAIN; dsimp only; omega) (by unfold FC_MAP_SEL_DOMAIN; dsimp only; omega)
theorem FC_MAP_SEL_IOLOG2_win (i : Nat) : winBit (FC_MAP_SEL_IOLOG2 i).key = 74 := by exact grp42 (by unfold FC_MAP_SEL_IOLOG2; dsimp only; omega) (by unfold FC_MAP_SEL_IOLOG2; dsimp only; omega)
theorem FC_MAP_SEL_NSLM1_win (i : Nat) : winBit (FC_MAP_SEL_NSLM1 i).key = 74 := by exact grp42 (by unfold FC_MAP_SEL_NSLM1; dsimp only; omega) (by unfold FC_MAP_SEL_NSLM1; dsimp only; omega)
theorem FC_MAP_SEL_SEQ_win (i : Nat) : winBit (FC_MAP_SEL_SEQ i).key = 74 := by exact grp42 (by unfold FC_MAP_SEL_SEQ; dsimp only; omega) (by unfold FC_MAP_SEL_SEQ; dsimp only; omega)
theorem FC_MAP_SEL_SITE_win (i : Nat) : winBit (FC_MAP_SEL_SITE i).key = 74 := by exact grp42 (by unfold FC_MAP_SEL_SITE; dsimp only; omega) (by unfold FC_MAP_SEL_SITE; dsimp only; omega)
theorem FC_MAP_SEL_SLICE_win (i : Nat) : winBit (FC_MAP_SEL_SLICE i).key = 74 := by exact grp42 (by unfold FC_MAP_SEL_SLICE; dsimp only; omega) (by unfold FC_MAP_SEL_SLICE; dsimp only; omega)
theorem FC_MAP_SEL_Z_win (i : Nat) : winBit (FC_MAP_SEL_Z i).key = 74 := by exact grp42 (by unfold FC_MAP_SEL_Z; dsimp only; omega) (by unfold FC_MAP_SEL_Z; dsimp only; omega)
theorem FC_MAP_SEL_ZANY_win (i : Nat) : winBit (FC_MAP_SEL_ZANY i).key = 74 := by exact grp42 (by unfold FC_MAP_SEL_ZANY; dsimp only; omega) (by unfold FC_MAP_SEL_ZANY; dsimp only; omega)
theorem FC_MAP_SPILL_ADDR_win (i : Nat) : winBit (FC_MAP_SPILL_ADDR i).key = 74 := by exact grp42 (by unfold FC_MAP_SPILL_ADDR; dsimp only; omega) (by unfold FC_MAP_SPILL_ADDR; dsimp only; omega)
theorem FC_MAP_STAT_HITS_win (i : Nat) : winBit (FC_MAP_STAT_HITS i).key = 74 := by exact grp42 (by unfold FC_MAP_STAT_HITS; dsimp only; omega) (by unfold FC_MAP_STAT_HITS; dsimp only; omega)
theorem FC_MAP_STAT_NONDATA_win (i : Nat) : winBit (FC_MAP_STAT_NONDATA i).key = 74 := by exact grp42 (by unfold FC_MAP_STAT_NONDATA; dsimp only; omega) (by unfold FC_MAP_STAT_NONDATA; dsimp only; omega)
theorem FC_MAP_XY_X0_win (i : Nat) : winBit (FC_MAP_XY_X0 i).key = 74 := by exact grp42 (by unfold FC_MAP_XY_X0; dsimp only; omega) (by unfold FC_MAP_XY_X0; dsimp only; omega)
theorem FC_MAP_XY_XLOG2_win (i : Nat) : winBit (FC_MAP_XY_XLOG2 i).key = 74 := by exact grp42 (by unfold FC_MAP_XY_XLOG2; dsimp only; omega) (by unfold FC_MAP_XY_XLOG2; dsimp only; omega)
theorem FC_MAP_XY_Y0_win (i : Nat) : winBit (FC_MAP_XY_Y0 i).key = 74 := by exact grp42 (by unfold FC_MAP_XY_Y0; dsimp only; omega) (by unfold FC_MAP_XY_Y0; dsimp only; omega)
theorem FC_MAP_XY_YLOG2_win (i : Nat) : winBit (FC_MAP_XY_YLOG2 i).key = 74 := by exact grp42 (by unfold FC_MAP_XY_YLOG2; dsimp only; omega) (by unfold FC_MAP_XY_YLOG2; dsimp only; omega)
theorem FC_SEQ_CTL_HWM_win (i : Nat) : winBit (FC_SEQ_CTL_HWM i).key = 72 := by exact grp40 (by unfold FC_SEQ_CTL_HWM; dsimp only; omega) (by unfold FC_SEQ_CTL_HWM; dsimp only; omega)
theorem FC_SEQ_CTL_LWM_win (i : Nat) : winBit (FC_SEQ_CTL_LWM i).key = 72 := by exact grp40 (by unfold FC_SEQ_CTL_LWM; dsimp only; omega) (by unfold FC_SEQ_CTL_LWM; dsimp only; omega)
theorem FC_SEQ_CTL_MLOG_win (i : Nat) : winBit (FC_SEQ_CTL_MLOG i).key = 72 := by exact grp40 (by unfold FC_SEQ_CTL_MLOG; dsimp only; omega) (by unfold FC_SEQ_CTL_MLOG; dsimp only; omega)
theorem FC_SEQ_CTL_MODE_win (i : Nat) : winBit (FC_SEQ_CTL_MODE i).key = 72 := by exact grp40 (by unfold FC_SEQ_CTL_MODE; dsimp only; omega) (by unfold FC_SEQ_CTL_MODE; dsimp only; omega)
theorem FC_SEQ_CTL_POLICY_win (i : Nat) : winBit (FC_SEQ_CTL_POLICY i).key = 72 := by exact grp40 (by unfold FC_SEQ_CTL_POLICY; dsimp only; omega) (by unfold FC_SEQ_CTL_POLICY; dsimp only; omega)
theorem FC_SEQ_STAT_CTRL_DROP_win (i : Nat) : winBit (FC_SEQ_STAT_CTRL_DROP i).key = 72 := by exact grp40 (by unfold FC_SEQ_STAT_CTRL_DROP; dsimp only; omega) (by unfold FC_SEQ_STAT_CTRL_DROP; dsimp only; omega)
theorem FC_SEQ_STAT_DERR_win (i : Nat) : winBit (FC_SEQ_STAT_DERR i).key = 72 := by exact grp40 (by unfold FC_SEQ_STAT_DERR; dsimp only; omega) (by unfold FC_SEQ_STAT_DERR; dsimp only; omega)
theorem FC_SEQ_STAT_DRAIN_ERR_win (i : Nat) : winBit (FC_SEQ_STAT_DRAIN_ERR i).key = 72 := by exact grp40 (by unfold FC_SEQ_STAT_DRAIN_ERR; dsimp only; omega) (by unfold FC_SEQ_STAT_DRAIN_ERR; dsimp only; omega)
theorem FC_SEQ_STAT_LEVEL_win (i : Nat) : winBit (FC_SEQ_STAT_LEVEL i).key = 72 := by exact grp40 (by unfold FC_SEQ_STAT_LEVEL; dsimp only; omega) (by unfold FC_SEQ_STAT_LEVEL; dsimp only; omega)
theorem FC_SEQ_STAT_RING_FULL_win (i : Nat) : winBit (FC_SEQ_STAT_RING_FULL i).key = 72 := by exact grp40 (by unfold FC_SEQ_STAT_RING_FULL; dsimp only; omega) (by unfold FC_SEQ_STAT_RING_FULL; dsimp only; omega)
theorem FC_SEQ_STAT_THROTTLING_win (i : Nat) : winBit (FC_SEQ_STAT_THROTTLING i).key = 72 := by exact grp40 (by unfold FC_SEQ_STAT_THROTTLING; dsimp only; omega) (by unfold FC_SEQ_STAT_THROTTLING; dsimp only; omega)
theorem FC_SITE_FAIL_FAILCYC_win (i j : Nat) : winBit (FC_SITE_FAIL_FAILCYC i j).key = 72 := by exact grp40 (by unfold FC_SITE_FAIL_FAILCYC; dsimp only; omega) (by unfold FC_SITE_FAIL_FAILCYC; dsimp only; omega)
theorem FC_SITE_REC_DROPPED_win (i j : Nat) : winBit (FC_SITE_REC_DROPPED i j).key = 72 := by exact grp40 (by unfold FC_SITE_REC_DROPPED; dsimp only; omega) (by unfold FC_SITE_REC_DROPPED; dsimp only; omega)
theorem FC_SITE_REC_LOGGED_win (i j : Nat) : winBit (FC_SITE_REC_LOGGED i j).key = 72 := by exact grp40 (by unfold FC_SITE_REC_LOGGED; dsimp only; omega) (by unfold FC_SITE_REC_LOGGED; dsimp only; omega)
theorem FI_SDO_PENDING_win : winBit (FI_SDO_PENDING).key = 119 := by decide
theorem FI_SDO_RETRIED_win : winBit (FI_SDO_RETRIED).key = 119 := by decide
theorem FI_SESS_ADDRESS_win (i : Nat) : winBit (FI_SESS_ADDRESS i).key = 120 := by exact grp88 (by unfold FI_SESS_ADDRESS; dsimp only; omega) (by unfold FI_SESS_ADDRESS; dsimp only; omega)
theorem FI_SESS_OPEN_win (i : Nat) : winBit (FI_SESS_OPEN i).key = 120 := by exact grp88 (by unfold FI_SESS_OPEN; dsimp only; omega) (by unfold FI_SESS_OPEN; dsimp only; omega)
theorem FI_SESS_ROLE_win (i : Nat) : winBit (FI_SESS_ROLE i).key = 120 := by exact grp88 (by unfold FI_SESS_ROLE; dsimp only; omega) (by unfold FI_SESS_ROLE; dsimp only; omega)
theorem FI_STAT_AL_CODE_win : winBit (FI_STAT_AL_CODE).key = 119 := by decide
theorem FI_STAT_AL_ERR_win : winBit (FI_STAT_AL_ERR).key = 119 := by decide
theorem FI_STAT_AL_STATE_win : winBit (FI_STAT_AL_STATE).key = 119 := by decide
theorem FI_STAT_LINK0_win : winBit (FI_STAT_LINK0).key = 119 := by decide
theorem FI_STAT_LINK1_win : winBit (FI_STAT_LINK1).key = 119 := by decide
theorem FI_STAT_SESSIONS_win : winBit (FI_STAT_SESSIONS).key = 119 := by decide
theorem FRM_COUNT_COUNT_win : winBit (FRM_COUNT_COUNT).key = 36 := by decide
theorem FRM_CTL_PERIOD_win : winBit (FRM_CTL_PERIOD).key = 34 := by decide
theorem FRM_CTL_SRC_win : winBit (FRM_CTL_SRC).key = 34 := by decide
theorem FRM_OVR_COUNT_win (i : Nat) : winBit (FRM_OVR_COUNT i).key = 37 := by exact grp5 (by unfold FRM_OVR_COUNT; dsimp only; omega) (by unfold FRM_OVR_COUNT; dsimp only; omega)
theorem FRM_STAT_ACQUIRING_win : winBit (FRM_STAT_ACQUIRING).key = 35 := by decide
theorem FRM_STAT_HOLDOVER_win : winBit (FRM_STAT_HOLDOVER).key = 35 := by decide
theorem FRM_STAT_MISSED_win : winBit (FRM_STAT_MISSED).key = 35 := by decide
theorem FRM_STAT_PERIOD_ACT_win : winBit (FRM_STAT_PERIOD_ACT).key = 35 := by decide
theorem FRM_STAT_SRC_ACT_win : winBit (FRM_STAT_SRC_ACT).key = 35 := by decide
theorem GEN_DR_VALUE_win (i j : Nat) : winBit (GEN_DR_VALUE i j).key = 69 := by exact grp37 (by unfold GEN_DR_VALUE; dsimp only; omega) (by unfold GEN_DR_VALUE; dsimp only; omega)
theorem GEN_D_VALUE_win (i j : Nat) : winBit (GEN_D_VALUE i j).key = 69 := by exact grp37 (by unfold GEN_D_VALUE; dsimp only; omega) (by unfold GEN_D_VALUE; dsimp only; omega)
theorem GEN_SCR_A_win (i j : Nat) : winBit (GEN_SCR_A i j).key = 69 := by exact grp37 (by unfold GEN_SCR_A; dsimp only; omega) (by unfold GEN_SCR_A; dsimp only; omega)
theorem GEN_SCR_B_win (i j : Nat) : winBit (GEN_SCR_B i j).key = 69 := by exact grp37 (by unfold GEN_SCR_B; dsimp only; omega) (by unfold GEN_SCR_B; dsimp only; omega)
theorem GEN_SCR_MODE_win (i j : Nat) : winBit (GEN_SCR_MODE i j).key = 69 := by exact grp37 (by unfold GEN_SCR_MODE; dsimp only; omega) (by unfold GEN_SCR_MODE; dsimp only; omega)
theorem GEN_TINV_VALUE_win (i : Nat) : winBit (GEN_TINV_VALUE i).key = 69 := by exact grp37 (by unfold GEN_TINV_VALUE; dsimp only; omega) (by unfold GEN_TINV_VALUE; dsimp only; omega)
theorem GEN_TMASK_VALUE_win (i : Nat) : winBit (GEN_TMASK_VALUE i).key = 69 := by exact grp37 (by unfold GEN_TMASK_VALUE; dsimp only; omega) (by unfold GEN_TMASK_VALUE; dsimp only; omega)
theorem GEN_VALUE_win (i j : Nat) : winBit (GEN_VALUE i j).key = 69 := by exact grp37 (by unfold GEN_VALUE; dsimp only; omega) (by unfold GEN_VALUE; dsimp only; omega)
theorem HBM_AGE_BACKGROUND_win : winBit (HBM_AGE_BACKGROUND).key = 83 := by decide
theorem HBM_AGE_CAPTURE_win : winBit (HBM_AGE_CAPTURE).key = 83 := by decide
theorem HBM_AGE_HOST_win : winBit (HBM_AGE_HOST).key = 83 := by decide
theorem HBM_AGE_PATTERN_win : winBit (HBM_AGE_PATTERN).key = 83 := by decide
theorem HBM_CFG_BXOR_win : winBit (HBM_CFG_BXOR).key = 83 := by decide
theorem HBM_CFG_RADIUS_win : winBit (HBM_CFG_RADIUS).key = 83 := by decide
theorem HBM_CFG_THRESH_win : winBit (HBM_CFG_THRESH).key = 83 := by decide
theorem HBM_CLS_LINES_win (i : Nat) : winBit (HBM_CLS_LINES i).key = 90 := by exact grp58 (by unfold HBM_CLS_LINES; dsimp only; omega) (by unfold HBM_CLS_LINES; dsimp only; omega)
theorem HBM_CLS_PROMOTED_win (i : Nat) : winBit (HBM_CLS_PROMOTED i).key = 90 := by exact grp58 (by unfold HBM_CLS_PROMOTED; dsimp only; omega) (by unfold HBM_CLS_PROMOTED; dsimp only; omega)
theorem HBM_DIST_TARGETED_win : winBit (HBM_DIST_TARGETED).key = 88 := by decide
theorem HBM_ECC_CTL_BUCKET_win : winBit (HBM_ECC_CTL_BUCKET).key = 85 := by decide
theorem HBM_ECC_CTL_LEAK_win : winBit (HBM_ECC_CTL_LEAK).key = 85 := by decide
theorem HBM_ECC_CTL_SCRUB_RATE_win : winBit (HBM_ECC_CTL_SCRUB_RATE).key = 85 := by decide
theorem HBM_ECC_STAT_CORR_win : winBit (HBM_ECC_STAT_CORR).key = 85 := by decide
theorem HBM_ECC_STAT_LEVEL_win : winBit (HBM_ECC_STAT_LEVEL).key = 85 := by decide
theorem HBM_ECC_STAT_LOST_win : winBit (HBM_ECC_STAT_LOST).key = 85 := by decide
theorem HBM_ECC_STAT_OVERFLOW_win : winBit (HBM_ECC_STAT_OVERFLOW).key = 85 := by decide
theorem HBM_ECC_STAT_UNCORR_win : winBit (HBM_ECC_STAT_UNCORR).key = 85 := by decide
theorem HBM_ERRLOG_FOUND_win : winBit (HBM_ERRLOG_FOUND).key = 86 := by decide
theorem HBM_ERRLOG_INITIATOR_win : winBit (HBM_ERRLOG_INITIATOR).key = 86 := by decide
theorem HBM_ERRLOG_LINE_win : winBit (HBM_ERRLOG_LINE).key = 86 := by decide
theorem HBM_ERRLOG_VALID_win : winBit (HBM_ERRLOG_VALID).key = 86 := by decide
theorem HBM_FLIP_CTL_ARM_win : winBit (HBM_FLIP_CTL_ARM).key = 87 := by decide
theorem HBM_FLIP_CTL_CMASK_win : winBit (HBM_FLIP_CTL_CMASK).key = 87 := by decide
theorem HBM_FLIP_CTL_LINE_win : winBit (HBM_FLIP_CTL_LINE).key = 87 := by decide
theorem HBM_FLIP_CTL_WORD_win : winBit (HBM_FLIP_CTL_WORD).key = 87 := by decide
theorem HBM_FLIP_DATA_DMASK_win : winBit (HBM_FLIP_DATA_DMASK).key = 87 := by decide
theorem HBM_PASS_COUNT_win : winBit (HBM_PASS_COUNT).key = 89 := by decide
theorem HBM_PASS_FIRST_win : winBit (HBM_PASS_FIRST).key = 89 := by decide
theorem HBM_PASS_GO_win : winBit (HBM_PASS_GO).key = 89 := by decide
theorem HBM_PASS_SUM_CORR_win : winBit (HBM_PASS_SUM_CORR).key = 89 := by decide
theorem HBM_PASS_SUM_LINES_win : winBit (HBM_PASS_SUM_LINES).key = 89 := by decide
theorem HBM_PASS_SUM_UNCORR_win : winBit (HBM_PASS_SUM_UNCORR).key = 89 := by decide
theorem HBM_SPARE_USED_win : winBit (HBM_SPARE_USED).key = 88 := by decide
theorem HBM_STAT_BURST_win : winBit (HBM_STAT_BURST).key = 84 := by decide
theorem HBM_STAT_HOT_win : winBit (HBM_STAT_HOT).key = 84 := by decide
theorem HBM_STAT_STATE_win : winBit (HBM_STAT_STATE).key = 84 := by decide
theorem HBM_STAT_TEMP_win : winBit (HBM_STAT_TEMP).key = 84 := by decide
theorem ISO_HOLD_CHOICE_win (i j : Nat) : winBit (ISO_HOLD_CHOICE i j).key = 56 := by exact grp24 (by unfold ISO_HOLD_CHOICE; dsimp only; omega) (by unfold ISO_HOLD_CHOICE; dsimp only; omega)
theorem JET_BANK_CTL_MAXRATE_win (i : Nat) : winBit (JET_BANK_CTL_MAXRATE i).key = 59 := by exact grp27 (by unfold JET_BANK_CTL_MAXRATE; dsimp only; omega) (by unfold JET_BANK_CTL_MAXRATE; dsimp only; omega)
theorem JET_BANK_CTL_SPARE_FOR_win (i : Nat) : winBit (JET_BANK_CTL_SPARE_FOR i).key = 59 := by exact grp27 (by unfold JET_BANK_CTL_SPARE_FOR; dsimp only; omega) (by unfold JET_BANK_CTL_SPARE_FOR; dsimp only; omega)
theorem JET_BANK_STAT_BLOCKED_win (i : Nat) : winBit (JET_BANK_STAT_BLOCKED i).key = 59 := by exact grp27 (by unfold JET_BANK_STAT_BLOCKED; dsimp only; omega) (by unfold JET_BANK_STAT_BLOCKED; dsimp only; omega)
theorem JET_BANK_STAT_PMU_GRANT_win (i : Nat) : winBit (JET_BANK_STAT_PMU_GRANT i).key = 59 := by exact grp27 (by unfold JET_BANK_STAT_PMU_GRANT; dsimp only; omega) (by unfold JET_BANK_STAT_PMU_GRANT; dsimp only; omega)
theorem JET_BANK_STAT_RATE_GRANT_win (i : Nat) : winBit (JET_BANK_STAT_RATE_GRANT i).key = 59 := by exact grp27 (by unfold JET_BANK_STAT_RATE_GRANT; dsimp only; omega) (by unfold JET_BANK_STAT_RATE_GRANT; dsimp only; omega)
theorem JET_BANK_STAT_SPARE_ACT_win (i : Nat) : winBit (JET_BANK_STAT_SPARE_ACT i).key = 59 := by exact grp27 (by unfold JET_BANK_STAT_SPARE_ACT; dsimp only; omega) (by unfold JET_BANK_STAT_SPARE_ACT; dsimp only; omega)
theorem JET_CFG_EN_win (i : Nat) : winBit (JET_CFG_EN i).key = 60 := by exact grp28 (by unfold JET_CFG_EN; dsimp only; omega) (by unfold JET_CFG_EN; dsimp only; omega)
theorem JET_CFG_LOAD_win (i : Nat) : winBit (JET_CFG_LOAD i).key = 60 := by exact grp28 (by unfold JET_CFG_LOAD; dsimp only; omega) (by unfold JET_CFG_LOAD; dsimp only; omega)
theorem JET_CFG_OFFMODE_win (i : Nat) : winBit (JET_CFG_OFFMODE i).key = 60 := by exact grp28 (by unfold JET_CFG_OFFMODE; dsimp only; omega) (by unfold JET_CFG_OFFMODE; dsimp only; omega)
theorem JET_CFG_RANGE_win (i : Nat) : winBit (JET_CFG_RANGE i).key = 60 := by exact grp28 (by unfold JET_CFG_RANGE; dsimp only; omega) (by unfold JET_CFG_RANGE; dsimp only; omega)
theorem JET_CFG_SEQ_win (i : Nat) : winBit (JET_CFG_SEQ i).key = 60 := by exact grp28 (by unfold JET_CFG_SEQ; dsimp only; omega) (by unfold JET_CFG_SEQ; dsimp only; omega)
theorem JET_CFG_STROBE_win (i : Nat) : winBit (JET_CFG_STROBE i).key = 60 := by exact grp28 (by unfold JET_CFG_STROBE; dsimp only; omega) (by unfold JET_CFG_STROBE; dsimp only; omega)
theorem JET_LOAD_ISNK_win (i : Nat) : winBit (JET_LOAD_ISNK i).key = 60 := by exact grp28 (by unfold JET_LOAD_ISNK; dsimp only; omega) (by unfold JET_LOAD_ISNK; dsimp only; omega)
theorem JET_LOAD_ISRC_win (i : Nat) : winBit (JET_LOAD_ISRC i).key = 60 := by exact grp28 (by unfold JET_LOAD_ISRC; dsimp only; omega) (by unfold JET_LOAD_ISRC; dsimp only; omega)
theorem JET_LVL_CMP_VCOM_win (i : Nat) : winBit (JET_LVL_CMP_VCOM i).key = 60 := by exact grp28 (by unfold JET_LVL_CMP_VCOM; dsimp only; omega) (by unfold JET_LVL_CMP_VCOM; dsimp only; omega)
theorem JET_LVL_CMP_VOH_win (i : Nat) : winBit (JET_LVL_CMP_VOH i).key = 60 := by exact grp28 (by unfold JET_LVL_CMP_VOH; dsimp only; omega) (by unfold JET_LVL_CMP_VOH; dsimp only; omega)
theorem JET_LVL_CMP_VOL_win (i : Nat) : winBit (JET_LVL_CMP_VOL i).key = 60 := by exact grp28 (by unfold JET_LVL_CMP_VOL; dsimp only; omega) (by unfold JET_LVL_CMP_VOL; dsimp only; omega)
theorem JET_LVL_DRV_VIH_win (i : Nat) : winBit (JET_LVL_DRV_VIH i).key = 60 := by exact grp28 (by unfold JET_LVL_DRV_VIH; dsimp only; omega) (by unfold JET_LVL_DRV_VIH; dsimp only; omega)
theorem JET_LVL_DRV_VIL_win (i : Nat) : winBit (JET_LVL_DRV_VIL i).key = 60 := by exact grp28 (by unfold JET_LVL_DRV_VIL; dsimp only; omega) (by unfold JET_LVL_DRV_VIL; dsimp only; omega)
theorem JET_LVL_DRV_VTT_win (i : Nat) : winBit (JET_LVL_DRV_VTT i).key = 60 := by exact grp28 (by unfold JET_LVL_DRV_VTT; dsimp only; omega) (by unfold JET_LVL_DRV_VTT; dsimp only; omega)
theorem JET_PMU_CTL_DIV_win (i : Nat) : winBit (JET_PMU_CTL_DIV i).key = 60 := by exact grp28 (by unfold JET_PMU_CTL_DIV; dsimp only; omega) (by unfold JET_PMU_CTL_DIV; dsimp only; omega)
theorem JET_PMU_CTL_IRANGE_win (i : Nat) : winBit (JET_PMU_CTL_IRANGE i).key = 60 := by exact grp28 (by unfold JET_PMU_CTL_IRANGE; dsimp only; omega) (by unfold JET_PMU_CTL_IRANGE; dsimp only; omega)
theorem JET_PMU_CTL_MODE_win (i : Nat) : winBit (JET_PMU_CTL_MODE i).key = 60 := by exact grp28 (by unfold JET_PMU_CTL_MODE; dsimp only; omega) (by unfold JET_PMU_CTL_MODE; dsimp only; omega)
theorem JET_PMU_FORCE_IFORCE_win (i : Nat) : winBit (JET_PMU_FORCE_IFORCE i).key = 60 := by exact grp28 (by unfold JET_PMU_FORCE_IFORCE; dsimp only; omega) (by unfold JET_PMU_FORCE_IFORCE; dsimp only; omega)
theorem JET_PMU_FORCE_VFORCE_win (i : Nat) : winBit (JET_PMU_FORCE_VFORCE i).key = 60 := by exact grp28 (by unfold JET_PMU_FORCE_VFORCE; dsimp only; omega) (by unfold JET_PMU_FORCE_VFORCE; dsimp only; omega)
theorem JET_PMU_ICLAMP_HI_win (i : Nat) : winBit (JET_PMU_ICLAMP_HI i).key = 60 := by exact grp28 (by unfold JET_PMU_ICLAMP_HI; dsimp only; omega) (by unfold JET_PMU_ICLAMP_HI; dsimp only; omega)
theorem JET_PMU_ICLAMP_LO_win (i : Nat) : winBit (JET_PMU_ICLAMP_LO i).key = 60 := by exact grp28 (by unfold JET_PMU_ICLAMP_LO; dsimp only; omega) (by unfold JET_PMU_ICLAMP_LO; dsimp only; omega)
theorem JET_PMU_RES_CLAMPED_win (i : Nat) : winBit (JET_PMU_RES_CLAMPED i).key = 60 := by exact grp28 (by unfold JET_PMU_RES_CLAMPED; dsimp only; omega) (by unfold JET_PMU_RES_CLAMPED; dsimp only; omega)
theorem JET_PMU_RES_NUMBER_win (i : Nat) : winBit (JET_PMU_RES_NUMBER i).key = 60 := by exact grp28 (by unfold JET_PMU_RES_NUMBER; dsimp only; omega) (by unfold JET_PMU_RES_NUMBER; dsimp only; omega)
theorem JET_PMU_RES_OVER_win (i : Nat) : winBit (JET_PMU_RES_OVER i).key = 60 := by exact grp28 (by unfold JET_PMU_RES_OVER; dsimp only; omega) (by unfold JET_PMU_RES_OVER; dsimp only; omega)
theorem JET_PMU_RES_SAMPLE_win (i : Nat) : winBit (JET_PMU_RES_SAMPLE i).key = 60 := by exact grp28 (by unfold JET_PMU_RES_SAMPLE; dsimp only; omega) (by unfold JET_PMU_RES_SAMPLE; dsimp only; omega)
theorem JET_PMU_VCLAMP_HI_win (i : Nat) : winBit (JET_PMU_VCLAMP_HI i).key = 60 := by exact grp28 (by unfold JET_PMU_VCLAMP_HI; dsimp only; omega) (by unfold JET_PMU_VCLAMP_HI; dsimp only; omega)
theorem JET_PMU_VCLAMP_LO_win (i : Nat) : winBit (JET_PMU_VCLAMP_LO i).key = 60 := by exact grp28 (by unfold JET_PMU_VCLAMP_LO; dsimp only; omega) (by unfold JET_PMU_VCLAMP_LO; dsimp only; omega)
theorem JET_STAT_BLK_RATE_win (i : Nat) : winBit (JET_STAT_BLK_RATE i).key = 60 := by exact grp28 (by unfold JET_STAT_BLK_RATE; dsimp only; omega) (by unfold JET_STAT_BLK_RATE; dsimp only; omega)
theorem JET_STAT_BLK_SPARE_win (i : Nat) : winBit (JET_STAT_BLK_SPARE i).key = 60 := by exact grp28 (by unfold JET_STAT_BLK_SPARE; dsimp only; omega) (by unfold JET_STAT_BLK_SPARE; dsimp only; omega)
theorem JET_STAT_BLK_WIDE_win (i : Nat) : winBit (JET_STAT_BLK_WIDE i).key = 60 := by exact grp28 (by unfold JET_STAT_BLK_WIDE; dsimp only; omega) (by unfold JET_STAT_BLK_WIDE; dsimp only; omega)
theorem JET_STAT_PHYS_win (i : Nat) : winBit (JET_STAT_PHYS i).key = 60 := by exact grp28 (by unfold JET_STAT_PHYS; dsimp only; omega) (by unfold JET_STAT_PHYS; dsimp only; omega)
theorem JET_STAT_STATE_win (i : Nat) : winBit (JET_STAT_STATE i).key = 60 := by exact grp28 (by unfold JET_STAT_STATE; dsimp only; omega) (by unfold JET_STAT_STATE; dsimp only; omega)
theorem JET_STAT_TRIP_win (i : Nat) : winBit (JET_STAT_TRIP i).key = 60 := by exact grp28 (by unfold JET_STAT_TRIP; dsimp only; omega) (by unfold JET_STAT_TRIP; dsimp only; omega)
theorem LANE_CTL_INJ_win (i : Nat) : winBit (LANE_CTL_INJ i).key = 103 := by exact grp71 (by unfold LANE_CTL_INJ; dsimp only; omega) (by unfold LANE_CTL_INJ; dsimp only; omega)
theorem LANE_CTL_INJ_RATE_win (i : Nat) : winBit (LANE_CTL_INJ_RATE i).key = 103 := by exact grp71 (by unfold LANE_CTL_INJ_RATE; dsimp only; omega) (by unfold LANE_CTL_INJ_RATE; dsimp only; omega)
theorem LANE_CTL_MAIN_win (i : Nat) : winBit (LANE_CTL_MAIN i).key = 103 := by exact grp71 (by unfold LANE_CTL_MAIN; dsimp only; omega) (by unfold LANE_CTL_MAIN; dsimp only; omega)
theorem LANE_CTL_POST_win (i : Nat) : winBit (LANE_CTL_POST i).key = 103 := by exact grp71 (by unfold LANE_CTL_POST; dsimp only; omega) (by unfold LANE_CTL_POST; dsimp only; omega)
theorem LANE_CTL_PRBS_win (i : Nat) : winBit (LANE_CTL_PRBS i).key = 103 := by exact grp71 (by unfold LANE_CTL_PRBS; dsimp only; omega) (by unfold LANE_CTL_PRBS; dsimp only; omega)
theorem LANE_CTL_PRE_win (i : Nat) : winBit (LANE_CTL_PRE i).key = 103 := by exact grp71 (by unfold LANE_CTL_PRE; dsimp only; omega) (by unfold LANE_CTL_PRE; dsimp only; omega)
theorem LANE_CTL_SLIP_win (i : Nat) : winBit (LANE_CTL_SLIP i).key = 103 := by exact grp71 (by unfold LANE_CTL_SLIP; dsimp only; omega) (by unfold LANE_CTL_SLIP; dsimp only; omega)
theorem LANE_STAT_BITLOCK_win (i : Nat) : winBit (LANE_STAT_BITLOCK i).key = 103 := by exact grp71 (by unfold LANE_STAT_BITLOCK; dsimp only; omega) (by unfold LANE_STAT_BITLOCK; dsimp only; omega)
theorem LANE_STAT_ERRORS_win (i : Nat) : winBit (LANE_STAT_ERRORS i).key = 103 := by exact grp71 (by unfold LANE_STAT_ERRORS; dsimp only; omega) (by unfold LANE_STAT_ERRORS; dsimp only; omega)
theorem LANE_STAT_GOOD_win (i : Nat) : winBit (LANE_STAT_GOOD i).key = 103 := by exact grp71 (by unfold LANE_STAT_GOOD; dsimp only; omega) (by unfold LANE_STAT_GOOD; dsimp only; omega)
theorem LANE_STAT_PRBS_LOCK_win (i : Nat) : winBit (LANE_STAT_PRBS_LOCK i).key = 103 := by exact grp71 (by unfold LANE_STAT_PRBS_LOCK; dsimp only; omega) (by unfold LANE_STAT_PRBS_LOCK; dsimp only; omega)
theorem LANE_STAT_SIGNAL_win (i : Nat) : winBit (LANE_STAT_SIGNAL i).key = 103 := by exact grp71 (by unfold LANE_STAT_SIGNAL; dsimp only; omega) (by unfold LANE_STAT_SIGNAL; dsimp only; omega)
theorem LANE_STAT_SYMLOCK_win (i : Nat) : winBit (LANE_STAT_SYMLOCK i).key = 103 := by exact grp71 (by unfold LANE_STAT_SYMLOCK; dsimp only; omega) (by unfold LANE_STAT_SYMLOCK; dsimp only; omega)
theorem LDR_CACHE_FULL_OK_win : winBit (LDR_CACHE_FULL_OK).key = 53 := by decide
theorem LDR_CACHE_SLOT_OK_win : winBit (LDR_CACHE_SLOT_OK).key = 53 := by decide
theorem LDR_REQ_OP_win : winBit (LDR_REQ_OP).key = 53 := by decide
theorem LDR_REQ_REGION_win : winBit (LDR_REQ_REGION).key = 53 := by decide
theorem LDR_REQ_SLOT_win : winBit (LDR_REQ_SLOT).key = 53 := by decide
theorem LDR_STAT_BUSY_win : winBit (LDR_STAT_BUSY).key = 53 := by decide
theorem LDR_STAT_LAST_ERR_win : winBit (LDR_STAT_LAST_ERR).key = 53 := by decide
theorem LDR_STAT_QUEUED_win : winBit (LDR_STAT_QUEUED).key = 53 := by decide
theorem LNK_ASYM_ASYM_win (i : Nat) : winBit (LNK_ASYM_ASYM i).key = 102 := by exact grp70 (by unfold LNK_ASYM_ASYM; dsimp only; omega) (by unfold LNK_ASYM_ASYM; dsimp only; omega)
theorem LNK_CTL_AUTOLOCK_win (i : Nat) : winBit (LNK_CTL_AUTOLOCK i).key = 102 := by exact grp70 (by unfold LNK_CTL_AUTOLOCK; dsimp only; omega) (by unfold LNK_CTL_AUTOLOCK; dsimp only; omega)
theorem LNK_CTL_DEG_LIM_win (i : Nat) : winBit (LNK_CTL_DEG_LIM i).key = 102 := by exact grp70 (by unfold LNK_CTL_DEG_LIM; dsimp only; omega) (by unfold LNK_CTL_DEG_LIM; dsimp only; omega)
theorem LNK_CTL_EN_win (i : Nat) : winBit (LNK_CTL_EN i).key = 102 := by exact grp70 (by unfold LNK_CTL_EN; dsimp only; omega) (by unfold LNK_CTL_EN; dsimp only; omega)
theorem LNK_CTL_MAXW_win (i : Nat) : winBit (LNK_CTL_MAXW i).key = 102 := by exact grp70 (by unfold LNK_CTL_MAXW; dsimp only; omega) (by unfold LNK_CTL_MAXW; dsimp only; omega)
theorem LNK_CTL_MODE_win (i : Nat) : winBit (LNK_CTL_MODE i).key = 102 := by exact grp70 (by unfold LNK_CTL_MODE; dsimp only; omega) (by unfold LNK_CTL_MODE; dsimp only; omega)
theorem LNK_CTL_RETRAIN_win (i : Nat) : winBit (LNK_CTL_RETRAIN i).key = 102 := by exact grp70 (by unfold LNK_CTL_RETRAIN; dsimp only; omega) (by unfold LNK_CTL_RETRAIN; dsimp only; omega)
theorem LNK_CTL_ROLE_win (i : Nat) : winBit (LNK_CTL_ROLE i).key = 102 := by exact grp70 (by unfold LNK_CTL_ROLE; dsimp only; omega) (by unfold LNK_CTL_ROLE; dsimp only; omega)
theorem LNK_CTL_SLEEP_EN_win (i : Nat) : winBit (LNK_CTL_SLEEP_EN i).key = 102 := by exact grp70 (by unfold LNK_CTL_SLEEP_EN; dsimp only; omega) (by unfold LNK_CTL_SLEEP_EN; dsimp only; omega)
theorem LNK_CTL_SLEEP_IDLE_win (i : Nat) : winBit (LNK_CTL_SLEEP_IDLE i).key = 102 := by exact grp70 (by unfold LNK_CTL_SLEEP_IDLE; dsimp only; omega) (by unfold LNK_CTL_SLEEP_IDLE; dsimp only; omega)
theorem LNK_CTL_TIME_EN_win (i : Nat) : winBit (LNK_CTL_TIME_EN i).key = 102 := by exact grp70 (by unfold LNK_CTL_TIME_EN; dsimp only; omega) (by unfold LNK_CTL_TIME_EN; dsimp only; omega)
theorem LNK_ERR_CRC_ERR_win (i : Nat) : winBit (LNK_ERR_CRC_ERR i).key = 102 := by exact grp70 (by unfold LNK_ERR_CRC_ERR; dsimp only; omega) (by unfold LNK_ERR_CRC_ERR; dsimp only; omega)
theorem LNK_ERR_DEGRADES_win (i : Nat) : winBit (LNK_ERR_DEGRADES i).key = 102 := by exact grp70 (by unfold LNK_ERR_DEGRADES; dsimp only; omega) (by unfold LNK_ERR_DEGRADES; dsimp only; omega)
theorem LNK_ERR_REPLAYS_win (i : Nat) : winBit (LNK_ERR_REPLAYS i).key = 102 := by exact grp70 (by unfold LNK_ERR_REPLAYS; dsimp only; omega) (by unfold LNK_ERR_REPLAYS; dsimp only; omega)
theorem LNK_RANGE_FIRST_win (i : Nat) : winBit (LNK_RANGE_FIRST i).key = 102 := by exact grp70 (by unfold LNK_RANGE_FIRST; dsimp only; omega) (by unfold LNK_RANGE_FIRST; dsimp only; omega)
theorem LNK_RANGE_LAST_win (i : Nat) : winBit (LNK_RANGE_LAST i).key = 102 := by exact grp70 (by unfold LNK_RANGE_LAST; dsimp only; omega) (by unfold LNK_RANGE_LAST; dsimp only; omega)
theorem LNK_STAT_FAIL_win (i : Nat) : winBit (LNK_STAT_FAIL i).key = 102 := by exact grp70 (by unfold LNK_STAT_FAIL; dsimp only; omega) (by unfold LNK_STAT_FAIL; dsimp only; omega)
theorem LNK_STAT_LANES_win (i : Nat) : winBit (LNK_STAT_LANES i).key = 102 := by exact grp70 (by unfold LNK_STAT_LANES; dsimp only; omega) (by unfold LNK_STAT_LANES; dsimp only; omega)
theorem LNK_STAT_PARTNER_win (i : Nat) : winBit (LNK_STAT_PARTNER i).key = 102 := by exact grp70 (by unfold LNK_STAT_PARTNER; dsimp only; omega) (by unfold LNK_STAT_PARTNER; dsimp only; omega)
theorem LNK_STAT_POLINV_win (i : Nat) : winBit (LNK_STAT_POLINV i).key = 102 := by exact grp70 (by unfold LNK_STAT_POLINV; dsimp only; omega) (by unfold LNK_STAT_POLINV; dsimp only; omega)
theorem LNK_STAT_RXSLEEP_win (i : Nat) : winBit (LNK_STAT_RXSLEEP i).key = 102 := by exact grp70 (by unfold LNK_STAT_RXSLEEP; dsimp only; omega) (by unfold LNK_STAT_RXSLEEP; dsimp only; omega)
theorem LNK_STAT_STATE_win (i : Nat) : winBit (LNK_STAT_STATE i).key = 102 := by exact grp70 (by unfold LNK_STAT_STATE; dsimp only; omega) (by unfold LNK_STAT_STATE; dsimp only; omega)
theorem LNK_STAT_TXSLEEP_win (i : Nat) : winBit (LNK_STAT_TXSLEEP i).key = 102 := by exact grp70 (by unfold LNK_STAT_TXSLEEP; dsimp only; omega) (by unfold LNK_STAT_TXSLEEP; dsimp only; omega)
theorem LNK_STAT_WIDTH_win (i : Nat) : winBit (LNK_STAT_WIDTH i).key = 102 := by exact grp70 (by unfold LNK_STAT_WIDTH; dsimp only; omega) (by unfold LNK_STAT_WIDTH; dsimp only; omega)
theorem LOCK_CTL_ACQ_win (i : Nat) : winBit (LOCK_CTL_ACQ i).key = 106 := by exact grp74 (by unfold LOCK_CTL_ACQ; dsimp only; omega) (by unfold LOCK_CTL_ACQ; dsimp only; omega)
theorem LOCK_CTL_LEASE_win (i : Nat) : winBit (LOCK_CTL_LEASE i).key = 106 := by exact grp74 (by unfold LOCK_CTL_LEASE; dsimp only; omega) (by unfold LOCK_CTL_LEASE; dsimp only; omega)
theorem LOCK_CTL_REL_win (i : Nat) : winBit (LOCK_CTL_REL i).key = 106 := by exact grp74 (by unfold LOCK_CTL_REL; dsimp only; omega) (by unfold LOCK_CTL_REL; dsimp only; omega)
theorem LOCK_STAT_BROKEN_win (i : Nat) : winBit (LOCK_STAT_BROKEN i).key = 106 := by exact grp74 (by unfold LOCK_STAT_BROKEN; dsimp only; omega) (by unfold LOCK_STAT_BROKEN; dsimp only; omega)
theorem LOCK_STAT_HELD_win (i : Nat) : winBit (LOCK_STAT_HELD i).key = 106 := by exact grp74 (by unfold LOCK_STAT_HELD; dsimp only; omega) (by unfold LOCK_STAT_HELD; dsimp only; omega)
theorem LOCK_STAT_LEFT_win (i : Nat) : winBit (LOCK_STAT_LEFT i).key = 106 := by exact grp74 (by unfold LOCK_STAT_LEFT; dsimp only; omega) (by unfold LOCK_STAT_LEFT; dsimp only; omega)
theorem LOCK_STAT_OEPOCH_win (i : Nat) : winBit (LOCK_STAT_OEPOCH i).key = 106 := by exact grp74 (by unfold LOCK_STAT_OEPOCH; dsimp only; omega) (by unfold LOCK_STAT_OEPOCH; dsimp only; omega)
theorem LOCK_STAT_OWNER_win (i : Nat) : winBit (LOCK_STAT_OWNER i).key = 106 := by exact grp74 (by unfold LOCK_STAT_OWNER; dsimp only; omega) (by unfold LOCK_STAT_OWNER; dsimp only; omega)
theorem MBX_CTL_ACK_win (i : Nat) : winBit (MBX_CTL_ACK i).key = 107 := by exact grp75 (by unfold MBX_CTL_ACK; dsimp only; omega) (by unfold MBX_CTL_ACK; dsimp only; omega)
theorem MBX_CTL_GO_win (i : Nat) : winBit (MBX_CTL_GO i).key = 107 := by exact grp75 (by unfold MBX_CTL_GO; dsimp only; omega) (by unfold MBX_CTL_GO; dsimp only; omega)
theorem MBX_CTL_RECEIVER_win (i : Nat) : winBit (MBX_CTL_RECEIVER i).key = 107 := by exact grp75 (by unfold MBX_CTL_RECEIVER; dsimp only; omega) (by unfold MBX_CTL_RECEIVER; dsimp only; omega)
theorem MBX_CTL_TMO_win (i : Nat) : winBit (MBX_CTL_TMO i).key = 107 := by exact grp75 (by unfold MBX_CTL_TMO; dsimp only; omega) (by unfold MBX_CTL_TMO; dsimp only; omega)
theorem MBX_DATA_DATA_win (i j : Nat) : winBit (MBX_DATA_DATA i j).key = 107 := by exact grp75 (by unfold MBX_DATA_DATA; dsimp only; omega) (by unfold MBX_DATA_DATA; dsimp only; omega)
theorem MBX_STAT_AGE_win (i : Nat) : winBit (MBX_STAT_AGE i).key = 107 := by exact grp75 (by unfold MBX_STAT_AGE; dsimp only; omega) (by unfold MBX_STAT_AGE; dsimp only; omega)
theorem MBX_STAT_FULL_win (i : Nat) : winBit (MBX_STAT_FULL i).key = 107 := by exact grp75 (by unfold MBX_STAT_FULL; dsimp only; omega) (by unfold MBX_STAT_FULL; dsimp only; omega)
theorem MBX_STAT_ORPHAN_win (i : Nat) : winBit (MBX_STAT_ORPHAN i).key = 107 := by exact grp75 (by unfold MBX_STAT_ORPHAN; dsimp only; omega) (by unfold MBX_STAT_ORPHAN; dsimp only; omega)
theorem MBX_STAT_SENDER_win (i : Nat) : winBit (MBX_STAT_SENDER i).key = 107 := by exact grp75 (by unfold MBX_STAT_SENDER; dsimp only; omega) (by unfold MBX_STAT_SENDER; dsimp only; omega)
theorem MBX_STAT_SEPOCH_win (i : Nat) : winBit (MBX_STAT_SEPOCH i).key = 107 := by exact grp75 (by unfold MBX_STAT_SEPOCH; dsimp only; omega) (by unfold MBX_STAT_SEPOCH; dsimp only; omega)
theorem MBX_STAT_TIMED_OUT_win (i : Nat) : winBit (MBX_STAT_TIMED_OUT i).key = 107 := by exact grp75 (by unfold MBX_STAT_TIMED_OUT; dsimp only; omega) (by unfold MBX_STAT_TIMED_OUT; dsimp only; omega)
theorem NOC_CTL_TMO_win : winBit (NOC_CTL_TMO).key = 94 := by decide
theorem NOC_RTR_CTL_LINK_DIS_win (i : Nat) : winBit (NOC_RTR_CTL_LINK_DIS i).key = 95 := by exact grp63 (by unfold NOC_RTR_CTL_LINK_DIS; dsimp only; omega) (by unfold NOC_RTR_CTL_LINK_DIS; dsimp only; omega)
theorem NOC_RTR_CTL_MAINT_win (i : Nat) : winBit (NOC_RTR_CTL_MAINT i).key = 95 := by exact grp63 (by unfold NOC_RTR_CTL_MAINT; dsimp only; omega) (by unfold NOC_RTR_CTL_MAINT; dsimp only; omega)
theorem NOC_RTR_STAT_ABORTED_win (i : Nat) : winBit (NOC_RTR_STAT_ABORTED i).key = 95 := by exact grp63 (by unfold NOC_RTR_STAT_ABORTED; dsimp only; omega) (by unfold NOC_RTR_STAT_ABORTED; dsimp only; omega)
theorem NOC_RTR_STAT_HELD_win (i : Nat) : winBit (NOC_RTR_STAT_HELD i).key = 95 := by exact grp63 (by unfold NOC_RTR_STAT_HELD; dsimp only; omega) (by unfold NOC_RTR_STAT_HELD; dsimp only; omega)
theorem NOC_RTR_STAT_STATE_win (i : Nat) : winBit (NOC_RTR_STAT_STATE i).key = 95 := by exact grp63 (by unfold NOC_RTR_STAT_STATE; dsimp only; omega) (by unfold NOC_RTR_STAT_STATE; dsimp only; omega)
theorem NOC_STAT_A_FLITS_win (i : Nat) : winBit (NOC_STAT_A_FLITS i).key = 96 := by exact grp64 (by unfold NOC_STAT_A_FLITS; dsimp only; omega) (by unfold NOC_STAT_A_FLITS; dsimp only; omega)
theorem NOC_STAT_A_REQS_win (i : Nat) : winBit (NOC_STAT_A_REQS i).key = 96 := by exact grp64 (by unfold NOC_STAT_A_REQS; dsimp only; omega) (by unfold NOC_STAT_A_REQS; dsimp only; omega)
theorem NOC_STAT_B_LAT_MAX_win (i : Nat) : winBit (NOC_STAT_B_LAT_MAX i).key = 96 := by exact grp64 (by unfold NOC_STAT_B_LAT_MAX; dsimp only; omega) (by unfold NOC_STAT_B_LAT_MAX; dsimp only; omega)
theorem NOC_STAT_B_LAT_MEAN_win (i : Nat) : winBit (NOC_STAT_B_LAT_MEAN i).key = 96 := by exact grp64 (by unfold NOC_STAT_B_LAT_MEAN; dsimp only; omega) (by unfold NOC_STAT_B_LAT_MEAN; dsimp only; omega)
theorem NOC_STAT_B_RETRIES_win (i : Nat) : winBit (NOC_STAT_B_RETRIES i).key = 96 := by exact grp64 (by unfold NOC_STAT_B_RETRIES; dsimp only; omega) (by unfold NOC_STAT_B_RETRIES; dsimp only; omega)
theorem NOC_STAT_B_TIMEOUTS_win (i : Nat) : winBit (NOC_STAT_B_TIMEOUTS i).key = 96 := by exact grp64 (by unfold NOC_STAT_B_TIMEOUTS; dsimp only; omega) (by unfold NOC_STAT_B_TIMEOUTS; dsimp only; omega)
theorem PATCH_ADDR_EN_win (i : Nat) : winBit (PATCH_ADDR_EN i).key = 113 := by exact grp81 (by unfold PATCH_ADDR_EN; dsimp only; omega) (by unfold PATCH_ADDR_EN; dsimp only; omega)
theorem PATCH_ADDR_WORD_win (i : Nat) : winBit (PATCH_ADDR_WORD i).key = 113 := by exact grp81 (by unfold PATCH_ADDR_WORD; dsimp only; omega) (by unfold PATCH_ADDR_WORD; dsimp only; omega)
theorem PATCH_DATA_DATA_win (i : Nat) : winBit (PATCH_DATA_DATA i).key = 113 := by exact grp81 (by unfold PATCH_DATA_DATA; dsimp only; omega) (by unfold PATCH_DATA_DATA; dsimp only; omega)
theorem PATCH_LOCK_LOCK_win : winBit (PATCH_LOCK_LOCK).key = 113 := by decide
theorem PWR_DOM_CTL_DRESET_win (i : Nat) : winBit (PWR_DOM_CTL_DRESET i).key = 46 := by exact grp14 (by unfold PWR_DOM_CTL_DRESET; dsimp only; omega) (by unfold PWR_DOM_CTL_DRESET; dsimp only; omega)
theorem PWR_DOM_CTL_TARGET_win (i : Nat) : winBit (PWR_DOM_CTL_TARGET i).key = 46 := by exact grp14 (by unfold PWR_DOM_CTL_TARGET; dsimp only; omega) (by unfold PWR_DOM_CTL_TARGET; dsimp only; omega)
theorem PWR_DOM_STAT_ENABLE_PENDING_win (i : Nat) : winBit (PWR_DOM_STAT_ENABLE_PENDING i).key = 46 := by exact grp14 (by unfold PWR_DOM_STAT_ENABLE_PENDING; dsimp only; omega) (by unfold PWR_DOM_STAT_ENABLE_PENDING; dsimp only; omega)
theorem PWR_DOM_STAT_FORCED_win (i : Nat) : winBit (PWR_DOM_STAT_FORCED i).key = 46 := by exact grp14 (by unfold PWR_DOM_STAT_FORCED; dsimp only; omega) (by unfold PWR_DOM_STAT_FORCED; dsimp only; omega)
theorem PWR_DOM_STAT_OUTSTANDING_win (i : Nat) : winBit (PWR_DOM_STAT_OUTSTANDING i).key = 46 := by exact grp14 (by unfold PWR_DOM_STAT_OUTSTANDING; dsimp only; omega) (by unfold PWR_DOM_STAT_OUTSTANDING; dsimp only; omega)
theorem PWR_DOM_STAT_STATE_win (i : Nat) : winBit (PWR_DOM_STAT_STATE i).key = 46 := by exact grp14 (by unfold PWR_DOM_STAT_STATE; dsimp only; omega) (by unfold PWR_DOM_STAT_STATE; dsimp only; omega)
theorem PWR_DOM_STAT_WAIT_GRANT_win (i : Nat) : winBit (PWR_DOM_STAT_WAIT_GRANT i).key = 46 := by exact grp14 (by unfold PWR_DOM_STAT_WAIT_GRANT; dsimp only; omega) (by unfold PWR_DOM_STAT_WAIT_GRANT; dsimp only; omega)
theorem RA_CTL_EN_win : winBit (RA_CTL_EN).key = 75 := by decide
theorem RA_DESC_GEO_CULOG2_win (i : Nat) : winBit (RA_DESC_GEO_CULOG2 i).key = 77 := by exact grp45 (by unfold RA_DESC_GEO_CULOG2; dsimp only; omega) (by unfold RA_DESC_GEO_CULOG2; dsimp only; omega)
theorem RA_DESC_GEO_RULOG2_win (i : Nat) : winBit (RA_DESC_GEO_RULOG2 i).key = 77 := by exact grp45 (by unfold RA_DESC_GEO_RULOG2; dsimp only; omega) (by unfold RA_DESC_GEO_RULOG2; dsimp only; omega)
theorem RA_DESC_GEO_SCLOG2_win (i : Nat) : winBit (RA_DESC_GEO_SCLOG2 i).key = 77 := by exact grp45 (by unfold RA_DESC_GEO_SCLOG2; dsimp only; omega) (by unfold RA_DESC_GEO_SCLOG2; dsimp only; omega)
theorem RA_DESC_GEO_SRLOG2_win (i : Nat) : winBit (RA_DESC_GEO_SRLOG2 i).key = 77 := by exact grp45 (by unfold RA_DESC_GEO_SRLOG2; dsimp only; omega) (by unfold RA_DESC_GEO_SRLOG2; dsimp only; omega)
theorem RA_DESC_SP_CCOST_win (i : Nat) : winBit (RA_DESC_SP_CCOST i).key = 77 := by exact grp45 (by unfold RA_DESC_SP_CCOST; dsimp only; omega) (by unfold RA_DESC_SP_CCOST; dsimp only; omega)
theorem RA_DESC_SP_NC_win (i : Nat) : winBit (RA_DESC_SP_NC i).key = 77 := by exact grp45 (by unfold RA_DESC_SP_NC; dsimp only; omega) (by unfold RA_DESC_SP_NC; dsimp only; omega)
theorem RA_DESC_SP_NR_win (i : Nat) : winBit (RA_DESC_SP_NR i).key = 77 := by exact grp45 (by unfold RA_DESC_SP_NR; dsimp only; omega) (by unfold RA_DESC_SP_NR; dsimp only; omega)
theorem RA_DESC_SP_NS_win (i : Nat) : winBit (RA_DESC_SP_NS i).key = 77 := by exact grp45 (by unfold RA_DESC_SP_NS; dsimp only; omega) (by unfold RA_DESC_SP_NS; dsimp only; omega)
theorem RA_DESC_SP_ONESHOT_win (i : Nat) : winBit (RA_DESC_SP_ONESHOT i).key = 77 := by exact grp45 (by unfold RA_DESC_SP_ONESHOT; dsimp only; omega) (by unfold RA_DESC_SP_ONESHOT; dsimp only; omega)
theorem RA_DESC_SP_ORDER_win (i : Nat) : winBit (RA_DESC_SP_ORDER i).key = 77 := by exact grp45 (by unfold RA_DESC_SP_ORDER; dsimp only; omega) (by unfold RA_DESC_SP_ORDER; dsimp only; omega)
theorem RA_DESC_SP_RCOST_win (i : Nat) : winBit (RA_DESC_SP_RCOST i).key = 77 := by exact grp45 (by unfold RA_DESC_SP_RCOST; dsimp only; omega) (by unfold RA_DESC_SP_RCOST; dsimp only; omega)
theorem RA_DESC_SP_SCOST_win (i : Nat) : winBit (RA_DESC_SP_SCOST i).key = 77 := by exact grp45 (by unfold RA_DESC_SP_SCOST; dsimp only; omega) (by unfold RA_DESC_SP_SCOST; dsimp only; omega)
theorem RA_DESC_SP_STEPLOG2_win (i : Nat) : winBit (RA_DESC_SP_STEPLOG2 i).key = 77 := by exact grp45 (by unfold RA_DESC_SP_STEPLOG2; dsimp only; omega) (by unfold RA_DESC_SP_STEPLOG2; dsimp only; omega)
theorem RA_DESC_USER_USER_win (i : Nat) : winBit (RA_DESC_USER_USER i).key = 77 := by exact grp45 (by unfold RA_DESC_USER_USER; dsimp only; omega) (by unfold RA_DESC_USER_USER; dsimp only; omega)
theorem RA_DOM_ARM_win (i : Nat) : winBit (RA_DOM_ARM i).key = 78 := by exact grp46 (by unfold RA_DOM_ARM; dsimp only; omega) (by unfold RA_DOM_ARM; dsimp only; omega)
theorem RA_DOM_CANCEL_win (i : Nat) : winBit (RA_DOM_CANCEL i).key = 78 := by exact grp46 (by unfold RA_DOM_CANCEL; dsimp only; omega) (by unfold RA_DOM_CANCEL; dsimp only; omega)
theorem RA_DOM_LAST_COST_win (i : Nat) : winBit (RA_DOM_LAST_COST i).key = 78 := by exact grp46 (by unfold RA_DOM_LAST_COST; dsimp only; omega) (by unfold RA_DOM_LAST_COST; dsimp only; omega)
theorem RA_DOM_LAST_MAPERR_win (i : Nat) : winBit (RA_DOM_LAST_MAPERR i).key = 78 := by exact grp46 (by unfold RA_DOM_LAST_MAPERR; dsimp only; omega) (by unfold RA_DOM_LAST_MAPERR; dsimp only; omega)
theorem RA_DOM_LAST_NP_win (i : Nat) : winBit (RA_DOM_LAST_NP i).key = 78 := by exact grp46 (by unfold RA_DOM_LAST_NP; dsimp only; omega) (by unfold RA_DOM_LAST_NP; dsimp only; omega)
theorem RA_DOM_LAST_OUTCOME_win (i : Nat) : winBit (RA_DOM_LAST_OUTCOME i).key = 78 := by exact grp46 (by unfold RA_DOM_LAST_OUTCOME; dsimp only; omega) (by unfold RA_DOM_LAST_OUTCOME; dsimp only; omega)
theorem RA_DOM_STATE_win (i : Nat) : winBit (RA_DOM_STATE i).key = 78 := by exact grp46 (by unfold RA_DOM_STATE; dsimp only; omega) (by unfold RA_DOM_STATE; dsimp only; omega)
theorem RA_RING_CFG_BASE_win : winBit (RA_RING_CFG_BASE).key = 76 := by decide
theorem RA_RING_CFG_LOG2_win : winBit (RA_RING_CFG_LOG2).key = 76 := by decide
theorem RA_RING_PTR_RD_win : winBit (RA_RING_PTR_RD).key = 76 := by decide
theorem RA_RING_PTR_WR_win : winBit (RA_RING_PTR_WR).key = 76 := by decide
theorem RA_STAT_ARMED_win : winBit (RA_STAT_ARMED).key = 75 := by decide
theorem RA_STAT_BUSY_win : winBit (RA_STAT_BUSY).key = 75 := by decide
theorem RA_STAT_HELD_win : winBit (RA_STAT_HELD).key = 75 := by decide
theorem RA_STAT_NP_COUNT_win : winBit (RA_STAT_NP_COUNT).key = 75 := by decide
theorem RA_STAT_QUEUE_win : winBit (RA_STAT_QUEUE).key = 75 := by decide
theorem RA_STAT_RERR_win : winBit (RA_STAT_RERR).key = 75 := by decide
theorem RA_STAT_RING_ERR_win : winBit (RA_STAT_RING_ERR).key = 75 := by decide
theorem RA_STAT_RING_FULL_win : winBit (RA_STAT_RING_FULL).key = 75 := by decide
theorem REG_CTL_POLICY_win (i : Nat) : winBit (REG_CTL_POLICY i).key = 55 := by exact grp23 (by unfold REG_CTL_POLICY; dsimp only; omega) (by unfold REG_CTL_POLICY; dsimp only; omega)
theorem REG_STAT_ABORT_win (i : Nat) : winBit (REG_STAT_ABORT i).key = 55 := by exact grp23 (by unfold REG_STAT_ABORT; dsimp only; omega) (by unfold REG_STAT_ABORT; dsimp only; omega)
theorem REG_STAT_BAD_ADDR_win (i : Nat) : winBit (REG_STAT_BAD_ADDR i).key = 55 := by exact grp23 (by unfold REG_STAT_BAD_ADDR; dsimp only; omega) (by unfold REG_STAT_BAD_ADDR; dsimp only; omega)
theorem REG_STAT_ERR_win (i : Nat) : winBit (REG_STAT_ERR i).key = 55 := by exact grp23 (by unfold REG_STAT_ERR; dsimp only; omega) (by unfold REG_STAT_ERR; dsimp only; omega)
theorem REG_STAT_FRAMES_DONE_win (i : Nat) : winBit (REG_STAT_FRAMES_DONE i).key = 55 := by exact grp23 (by unfold REG_STAT_FRAMES_DONE; dsimp only; omega) (by unfold REG_STAT_FRAMES_DONE; dsimp only; omega)
theorem REG_STAT_FROM_FULL_win (i : Nat) : winBit (REG_STAT_FROM_FULL i).key = 55 := by exact grp23 (by unfold REG_STAT_FROM_FULL; dsimp only; omega) (by unfold REG_STAT_FROM_FULL; dsimp only; omega)
theorem REG_STAT_ISO_win (i : Nat) : winBit (REG_STAT_ISO i).key = 55 := by exact grp23 (by unfold REG_STAT_ISO; dsimp only; omega) (by unfold REG_STAT_ISO; dsimp only; omega)
theorem REG_STAT_PENDING_win (i : Nat) : winBit (REG_STAT_PENDING i).key = 55 := by exact grp23 (by unfold REG_STAT_PENDING; dsimp only; omega) (by unfold REG_STAT_PENDING; dsimp only; omega)
theorem REG_STAT_SLOT_win (i : Nat) : winBit (REG_STAT_SLOT i).key = 55 := by exact grp23 (by unfold REG_STAT_SLOT; dsimp only; omega) (by unfold REG_STAT_SLOT; dsimp only; omega)
theorem REG_STAT_STATE_win (i : Nat) : winBit (REG_STAT_STATE i).key = 55 := by exact grp23 (by unfold REG_STAT_STATE; dsimp only; omega) (by unfold REG_STAT_STATE; dsimp only; omega)
theorem RILL_CTL_BUCKET_win : winBit (RILL_CTL_BUCKET).key = 54 := by decide
theorem RILL_CTL_LEAK_win : winBit (RILL_CTL_LEAK).key = 54 := by decide
theorem RILL_CTL_PASS_win : winBit (RILL_CTL_PASS).key = 54 := by decide
theorem RILL_CTL_RATE_win : winBit (RILL_CTL_RATE).key = 54 := by decide
theorem RILL_PASS_FRAMES_CHECKED_win : winBit (RILL_PASS_FRAMES_CHECKED).key = 54 := by decide
theorem RILL_PASS_FRAMES_CORR_win : winBit (RILL_PASS_FRAMES_CORR).key = 54 := by decide
theorem RILL_PASS_FRAMES_UNCORR_win : winBit (RILL_PASS_FRAMES_UNCORR).key = 54 := by decide
theorem RILL_STAT_CORR_win : winBit (RILL_STAT_CORR).key = 54 := by decide
theorem RILL_STAT_LEVEL_win : winBit (RILL_STAT_LEVEL).key = 54 := by decide
theorem RILL_STAT_OVERFLOW_win : winBit (RILL_STAT_OVERFLOW).key = 54 := by decide
theorem RILL_STAT_PASS_BUSY_win : winBit (RILL_STAT_PASS_BUSY).key = 54 := by decide
theorem RILL_STAT_POSITION_win : winBit (RILL_STAT_POSITION).key = 54 := by decide
theorem RILL_STAT_UNCORR_win : winBit (RILL_STAT_UNCORR).key = 54 := by decide
theorem RST_CAUSE_KIND_win : winBit (RST_CAUSE_KIND).key = 40 := by decide
theorem RST_CAUSE_SOURCE_win : winBit (RST_CAUSE_SOURCE).key = 40 := by decide
theorem RST_CAUSE_WARM_COUNT_win : winBit (RST_CAUSE_WARM_COUNT).key = 40 := by decide
theorem RST_CTL_CORE_win : winBit (RST_CTL_CORE).key = 39 := by decide
theorem RST_CTL_KEY_win : winBit (RST_CTL_KEY).key = 39 := by decide
theorem RST_CTL_WARM_win : winBit (RST_CTL_WARM).key = 39 := by decide
theorem SC_CFG_IVEC_win (i : Nat) : winBit (SC_CFG_IVEC i).key = 80 := by exact grp48 (by unfold SC_CFG_IVEC; dsimp only; omega) (by unfold SC_CFG_IVEC; dsimp only; omega)
theorem SC_CFG_THR_win (i : Nat) : winBit (SC_CFG_THR i).key = 80 := by exact grp48 (by unfold SC_CFG_THR; dsimp only; omega) (by unfold SC_CFG_THR; dsimp only; omega)
theorem SC_CTL_CLEAR_win (i : Nat) : winBit (SC_CTL_CLEAR i).key = 80 := by exact grp48 (by unfold SC_CTL_CLEAR; dsimp only; omega) (by unfold SC_CTL_CLEAR; dsimp only; omega)
theorem SC_CTL_ENTRY_win (i : Nat) : winBit (SC_CTL_ENTRY i).key = 80 := by exact grp48 (by unfold SC_CTL_ENTRY; dsimp only; omega) (by unfold SC_CTL_ENTRY; dsimp only; omega)
theorem SC_CTL_START_win (i : Nat) : winBit (SC_CTL_START i).key = 80 := by exact grp48 (by unfold SC_CTL_START; dsimp only; omega) (by unfold SC_CTL_START; dsimp only; omega)
theorem SC_CTL_STOP_win (i : Nat) : winBit (SC_CTL_STOP i).key = 80 := by exact grp48 (by unfold SC_CTL_STOP; dsimp only; omega) (by unfold SC_CTL_STOP; dsimp only; omega)
theorem SC_DROP_COUNT_win (i j : Nat) : winBit (SC_DROP_COUNT i j).key = 81 := by exact grp49 (by unfold SC_DROP_COUNT; dsimp only; omega) (by unfold SC_DROP_COUNT; dsimp only; omega)
theorem SC_ECC_CTL_BUCKET_win (i : Nat) : winBit (SC_ECC_CTL_BUCKET i).key = 80 := by exact grp48 (by unfold SC_ECC_CTL_BUCKET; dsimp only; omega) (by unfold SC_ECC_CTL_BUCKET; dsimp only; omega)
theorem SC_ECC_CTL_LEAK_win (i : Nat) : winBit (SC_ECC_CTL_LEAK i).key = 80 := by exact grp48 (by unfold SC_ECC_CTL_LEAK; dsimp only; omega) (by unfold SC_ECC_CTL_LEAK; dsimp only; omega)
theorem SC_ECC_CTL_SCRUB_RATE_win (i : Nat) : winBit (SC_ECC_CTL_SCRUB_RATE i).key = 80 := by exact grp48 (by unfold SC_ECC_CTL_SCRUB_RATE; dsimp only; omega) (by unfold SC_ECC_CTL_SCRUB_RATE; dsimp only; omega)
theorem SC_ECC_STAT_CORR_win (i : Nat) : winBit (SC_ECC_STAT_CORR i).key = 80 := by exact grp48 (by unfold SC_ECC_STAT_CORR; dsimp only; omega) (by unfold SC_ECC_STAT_CORR; dsimp only; omega)
theorem SC_ECC_STAT_LEVEL_win (i : Nat) : winBit (SC_ECC_STAT_LEVEL i).key = 80 := by exact grp48 (by unfold SC_ECC_STAT_LEVEL; dsimp only; omega) (by unfold SC_ECC_STAT_LEVEL; dsimp only; omega)
theorem SC_ECC_STAT_OVERFLOW_win (i : Nat) : winBit (SC_ECC_STAT_OVERFLOW i).key = 80 := by exact grp48 (by unfold SC_ECC_STAT_OVERFLOW; dsimp only; omega) (by unfold SC_ECC_STAT_OVERFLOW; dsimp only; omega)
theorem SC_ECC_STAT_UNCORR_win (i : Nat) : winBit (SC_ECC_STAT_UNCORR i).key = 80 := by exact grp48 (by unfold SC_ECC_STAT_UNCORR; dsimp only; omega) (by unfold SC_ECC_STAT_UNCORR; dsimp only; omega)
theorem SC_HOST_WORD_win (i : Nat) : winBit (SC_HOST_WORD i).key = 80 := by exact grp48 (by unfold SC_HOST_WORD; dsimp only; omega) (by unfold SC_HOST_WORD; dsimp only; omega)
theorem SC_IRQ_EN_win (i : Nat) : winBit (SC_IRQ_EN i).key = 80 := by exact grp48 (by unfold SC_IRQ_EN; dsimp only; omega) (by unfold SC_IRQ_EN; dsimp only; omega)
theorem SC_IRQ_PEND_win (i : Nat) : winBit (SC_IRQ_PEND i).key = 80 := by exact grp48 (by unfold SC_IRQ_PEND; dsimp only; omega) (by unfold SC_IRQ_PEND; dsimp only; omega)
theorem SC_MAP_PHYS_win (i : Nat) : winBit (SC_MAP_PHYS i).key = 79 := by exact grp47 (by unfold SC_MAP_PHYS; dsimp only; omega) (by unfold SC_MAP_PHYS; dsimp only; omega)
theorem SC_RES_FRESH_win (i j : Nat) : winBit (SC_RES_FRESH i j).key = 82 := by exact grp50 (by unfold SC_RES_FRESH; dsimp only; omega) (by unfold SC_RES_FRESH; dsimp only; omega)
theorem SC_RES_RES_win (i j : Nat) : winBit (SC_RES_RES i j).key = 82 := by exact grp50 (by unfold SC_RES_RES; dsimp only; omega) (by unfold SC_RES_RES; dsimp only; omega)
theorem SC_RING_CFG_BASE_win (i : Nat) : winBit (SC_RING_CFG_BASE i).key = 80 := by exact grp48 (by unfold SC_RING_CFG_BASE; dsimp only; omega) (by unfold SC_RING_CFG_BASE; dsimp only; omega)
theorem SC_RING_CFG_LOG2_win (i : Nat) : winBit (SC_RING_CFG_LOG2 i).key = 80 := by exact grp48 (by unfold SC_RING_CFG_LOG2; dsimp only; omega) (by unfold SC_RING_CFG_LOG2; dsimp only; omega)
theorem SC_RING_PTR_RD_win (i : Nat) : winBit (SC_RING_PTR_RD i).key = 80 := by exact grp48 (by unfold SC_RING_PTR_RD; dsimp only; omega) (by unfold SC_RING_PTR_RD; dsimp only; omega)
theorem SC_RING_PTR_WR_win (i : Nat) : winBit (SC_RING_PTR_WR i).key = 80 := by exact grp48 (by unfold SC_RING_PTR_WR; dsimp only; omega) (by unfold SC_RING_PTR_WR; dsimp only; omega)
theorem SC_STAT_CAUSE_win (i : Nat) : winBit (SC_STAT_CAUSE i).key = 80 := by exact grp48 (by unfold SC_STAT_CAUSE; dsimp only; omega) (by unfold SC_STAT_CAUSE; dsimp only; omega)
theorem SC_STAT_PC_win (i : Nat) : winBit (SC_STAT_PC i).key = 80 := by exact grp48 (by unfold SC_STAT_PC; dsimp only; omega) (by unfold SC_STAT_PC; dsimp only; omega)
theorem SC_STAT_RERR_win (i : Nat) : winBit (SC_STAT_RERR i).key = 80 := by exact grp48 (by unfold SC_STAT_RERR; dsimp only; omega) (by unfold SC_STAT_RERR; dsimp only; omega)
theorem SC_STAT_SHADOW_win (i : Nat) : winBit (SC_STAT_SHADOW i).key = 80 := by exact grp48 (by unfold SC_STAT_SHADOW; dsimp only; omega) (by unfold SC_STAT_SHADOW; dsimp only; omega)
theorem SC_STAT_STATE_win (i : Nat) : winBit (SC_STAT_STATE i).key = 80 := by exact grp48 (by unfold SC_STAT_STATE; dsimp only; omega) (by unfold SC_STAT_STATE; dsimp only; omega)
theorem SEC_STAT_EDITION_win : winBit (SEC_STAT_EDITION).key = 114 := by decide
theorem SEC_STAT_LC_K_win : winBit (SEC_STAT_LC_K).key = 114 := by decide
theorem SEC_STAT_LEDGER_win : winBit (SEC_STAT_LEDGER).key = 114 := by decide
theorem SEC_STAT_STATE_win : winBit (SEC_STAT_STATE).key = 114 := by decide
theorem SEC_STAT_USED_win : winBit (SEC_STAT_USED).key = 114 := by decide
theorem SEC_TAMPER_FUSED_win : winBit (SEC_TAMPER_FUSED).key = 115 := by decide
theorem SEC_TAMPER_SOURCE_win : winBit (SEC_TAMPER_SOURCE).key = 115 := by decide
theorem SEQ_CTL_ABORT_win (i : Nat) : winBit (SEQ_CTL_ABORT i).key = 69 := by exact grp37 (by unfold SEQ_CTL_ABORT; dsimp only; omega) (by unfold SEQ_CTL_ABORT; dsimp only; omega)
theorem SEQ_CTL_HFLAG_win (i : Nat) : winBit (SEQ_CTL_HFLAG i).key = 69 := by exact grp37 (by unfold SEQ_CTL_HFLAG; dsimp only; omega) (by unfold SEQ_CTL_HFLAG; dsimp only; omega)
theorem SEQ_CTL_HOLD_TS_win (i : Nat) : winBit (SEQ_CTL_HOLD_TS i).key = 69 := by exact grp37 (by unfold SEQ_CTL_HOLD_TS; dsimp only; omega) (by unfold SEQ_CTL_HOLD_TS; dsimp only; omega)
theorem SEQ_CTL_PAUSE_win (i : Nat) : winBit (SEQ_CTL_PAUSE i).key = 69 := by exact grp37 (by unfold SEQ_CTL_PAUSE; dsimp only; omega) (by unfold SEQ_CTL_PAUSE; dsimp only; omega)
theorem SEQ_CTL_PAUSE_WARN_win (i : Nat) : winBit (SEQ_CTL_PAUSE_WARN i).key = 69 := by exact grp37 (by unfold SEQ_CTL_PAUSE_WARN; dsimp only; omega) (by unfold SEQ_CTL_PAUSE_WARN; dsimp only; omega)
theorem SEQ_CTL_START_win (i : Nat) : winBit (SEQ_CTL_START i).key = 69 := by exact grp37 (by unfold SEQ_CTL_START; dsimp only; omega) (by unfold SEQ_CTL_START; dsimp only; omega)
theorem SEQ_CTL_STOP_win (i : Nat) : winBit (SEQ_CTL_STOP i).key = 69 := by exact grp37 (by unfold SEQ_CTL_STOP; dsimp only; omega) (by unfold SEQ_CTL_STOP; dsimp only; omega)
theorem SEQ_MARK_CYCLE_win (i : Nat) : winBit (SEQ_MARK_CYCLE i).key = 69 := by exact grp37 (by unfold SEQ_MARK_CYCLE; dsimp only; omega) (by unfold SEQ_MARK_CYCLE; dsimp only; omega)
theorem SEQ_MARK_VALUE_win (i : Nat) : winBit (SEQ_MARK_VALUE i).key = 69 := by exact grp37 (by unfold SEQ_MARK_VALUE; dsimp only; omega) (by unfold SEQ_MARK_VALUE; dsimp only; omega)
theorem SEQ_PC_CALLS_win (i : Nat) : winBit (SEQ_PC_CALLS i).key = 69 := by exact grp37 (by unfold SEQ_PC_CALLS; dsimp only; omega) (by unfold SEQ_PC_CALLS; dsimp only; omega)
theorem SEQ_PC_LOOPS_win (i : Nat) : winBit (SEQ_PC_LOOPS i).key = 69 := by exact grp37 (by unfold SEQ_PC_LOOPS; dsimp only; omega) (by unfold SEQ_PC_LOOPS; dsimp only; omega)
theorem SEQ_PC_PC_win (i : Nat) : winBit (SEQ_PC_PC i).key = 69 := by exact grp37 (by unfold SEQ_PC_PC; dsimp only; omega) (by unfold SEQ_PC_PC; dsimp only; omega)
theorem SEQ_PIN_BIT_win (i j : Nat) : winBit (SEQ_PIN_BIT i j).key = 69 := by exact grp37 (by unfold SEQ_PIN_BIT; dsimp only; omega) (by unfold SEQ_PIN_BIT; dsimp only; omega)
theorem SEQ_PIN_CHANNEL_win (i j : Nat) : winBit (SEQ_PIN_CHANNEL i j).key = 69 := by exact grp37 (by unfold SEQ_PIN_CHANNEL; dsimp only; omega) (by unfold SEQ_PIN_CHANNEL; dsimp only; omega)
theorem SEQ_PIN_HOLD_win (i j : Nat) : winBit (SEQ_PIN_HOLD i j).key = 69 := by exact grp37 (by unfold SEQ_PIN_HOLD; dsimp only; omega) (by unfold SEQ_PIN_HOLD; dsimp only; omega)
theorem SEQ_PIN_KIND_win (i j : Nat) : winBit (SEQ_PIN_KIND i j).key = 69 := by exact grp37 (by unfold SEQ_PIN_KIND; dsimp only; omega) (by unfold SEQ_PIN_KIND; dsimp only; omega)
theorem SEQ_PIN_SITE_win (i j : Nat) : winBit (SEQ_PIN_SITE i j).key = 69 := by exact grp37 (by unfold SEQ_PIN_SITE; dsimp only; omega) (by unfold SEQ_PIN_SITE; dsimp only; omega)
theorem SEQ_PIN_VALID_win (i j : Nat) : winBit (SEQ_PIN_VALID i j).key = 69 := by exact grp37 (by unfold SEQ_PIN_VALID; dsimp only; omega) (by unfold SEQ_PIN_VALID; dsimp only; omega)
theorem SEQ_PROG_BASE_win (i : Nat) : winBit (SEQ_PROG_BASE i).key = 69 := by exact grp37 (by unfold SEQ_PROG_BASE; dsimp only; omega) (by unfold SEQ_PROG_BASE; dsimp only; omega)
theorem SEQ_PROG_ENTRY_win (i : Nat) : winBit (SEQ_PROG_ENTRY i).key = 69 := by exact grp37 (by unfold SEQ_PROG_ENTRY; dsimp only; omega) (by unfold SEQ_PROG_ENTRY; dsimp only; omega)
theorem SEQ_SITE_FAIL_SITE_win (i : Nat) : winBit (SEQ_SITE_FAIL_SITE i).key = 69 := by exact grp37 (by unfold SEQ_SITE_FAIL_SITE; dsimp only; omega) (by unfold SEQ_SITE_FAIL_SITE; dsimp only; omega)
theorem SEQ_SITE_MASK_SITE_win (i : Nat) : winBit (SEQ_SITE_MASK_SITE i).key = 69 := by exact grp37 (by unfold SEQ_SITE_MASK_SITE; dsimp only; omega) (by unfold SEQ_SITE_MASK_SITE; dsimp only; omega)
theorem SEQ_SITE_MATCH_SITE_win (i : Nat) : winBit (SEQ_SITE_MATCH_SITE i).key = 69 := by exact grp37 (by unfold SEQ_SITE_MATCH_SITE; dsimp only; omega) (by unfold SEQ_SITE_MATCH_SITE; dsimp only; omega)
theorem SEQ_SITE_OFF_SITE_win (i : Nat) : winBit (SEQ_SITE_OFF_SITE i).key = 69 := by exact grp37 (by unfold SEQ_SITE_OFF_SITE; dsimp only; omega) (by unfold SEQ_SITE_OFF_SITE; dsimp only; omega)
theorem SEQ_SLU_CLASS_win (i j : Nat) : winBit (SEQ_SLU_CLASS i j).key = 69 := by exact grp37 (by unfold SEQ_SLU_CLASS; dsimp only; omega) (by unfold SEQ_SLU_CLASS; dsimp only; omega)
theorem SEQ_SLU_CURRENT_win (i j : Nat) : winBit (SEQ_SLU_CURRENT i j).key = 69 := by exact grp37 (by unfold SEQ_SLU_CURRENT; dsimp only; omega) (by unfold SEQ_SLU_CURRENT; dsimp only; omega)
theorem SEQ_SLU_DURATION_win (i j : Nat) : winBit (SEQ_SLU_DURATION i j).key = 69 := by exact grp37 (by unfold SEQ_SLU_DURATION; dsimp only; omega) (by unfold SEQ_SLU_DURATION; dsimp only; omega)
theorem SEQ_SLU_TARGET_win (i j : Nat) : winBit (SEQ_SLU_TARGET i j).key = 69 := by exact grp37 (by unfold SEQ_SLU_TARGET; dsimp only; omega) (by unfold SEQ_SLU_TARGET; dsimp only; omega)
theorem SEQ_START_AT_FRAME_win (i : Nat) : winBit (SEQ_START_AT_FRAME i).key = 69 := by exact grp37 (by unfold SEQ_START_AT_FRAME; dsimp only; omega) (by unfold SEQ_START_AT_FRAME; dsimp only; omega)
theorem SEQ_STAT_CAUSE_win (i : Nat) : winBit (SEQ_STAT_CAUSE i).key = 69 := by exact grp37 (by unfold SEQ_STAT_CAUSE; dsimp only; omega) (by unfold SEQ_STAT_CAUSE; dsimp only; omega)
theorem SEQ_STAT_END_win (i : Nat) : winBit (SEQ_STAT_END i).key = 69 := by exact grp37 (by unfold SEQ_STAT_END; dsimp only; omega) (by unfold SEQ_STAT_END; dsimp only; omega)
theorem SEQ_STAT_PAUSE_SRC_win (i : Nat) : winBit (SEQ_STAT_PAUSE_SRC i).key = 69 := by exact grp37 (by unfold SEQ_STAT_PAUSE_SRC; dsimp only; omega) (by unfold SEQ_STAT_PAUSE_SRC; dsimp only; omega)
theorem SEQ_STAT_STATE_win (i : Nat) : winBit (SEQ_STAT_STATE i).key = 69 := by exact grp37 (by unfold SEQ_STAT_STATE; dsimp only; omega) (by unfold SEQ_STAT_STATE; dsimp only; omega)
theorem SEQ_STAT_WAIT_win (i : Nat) : winBit (SEQ_STAT_WAIT i).key = 69 := by exact grp37 (by unfold SEQ_STAT_WAIT; dsimp only; omega) (by unfold SEQ_STAT_WAIT; dsimp only; omega)
theorem SEQ_TICKET_TICKET_win (i j : Nat) : winBit (SEQ_TICKET_TICKET i j).key = 69 := by exact grp37 (by unfold SEQ_TICKET_TICKET; dsimp only; omega) (by unfold SEQ_TICKET_TICKET; dsimp only; omega)
theorem SEQ_TICKET_VALID_win (i j : Nat) : winBit (SEQ_TICKET_VALID i j).key = 69 := by exact grp37 (by unfold SEQ_TICKET_VALID; dsimp only; omega) (by unfold SEQ_TICKET_VALID; dsimp only; omega)
theorem SEQ_VEC_BASE_win (i : Nat) : winBit (SEQ_VEC_BASE i).key = 69 := by exact grp37 (by unfold SEQ_VEC_BASE; dsimp only; omega) (by unfold SEQ_VEC_BASE; dsimp only; omega)
theorem SLOT_ACT_SLOT0_win (i : Nat) : winBit (SLOT_ACT_SLOT0 i).key = 38 := by exact grp6 (by unfold SLOT_ACT_SLOT0; dsimp only; omega) (by unfold SLOT_ACT_SLOT0; dsimp only; omega)
theorem SLOT_ACT_SLOT1_win (i : Nat) : winBit (SLOT_ACT_SLOT1 i).key = 38 := by exact grp6 (by unfold SLOT_ACT_SLOT1; dsimp only; omega) (by unfold SLOT_ACT_SLOT1; dsimp only; omega)
theorem SLOT_ACT_SLOT2_win (i : Nat) : winBit (SLOT_ACT_SLOT2 i).key = 38 := by exact grp6 (by unfold SLOT_ACT_SLOT2; dsimp only; omega) (by unfold SLOT_ACT_SLOT2; dsimp only; omega)
theorem SLOT_ACT_SLOT3_win (i : Nat) : winBit (SLOT_ACT_SLOT3 i).key = 38 := by exact grp6 (by unfold SLOT_ACT_SLOT3; dsimp only; omega) (by unfold SLOT_ACT_SLOT3; dsimp only; omega)
theorem SLOT_CTL_ARM_win : winBit (SLOT_CTL_ARM).key = 38 := by decide
theorem SLOT_CTL_SWAPPED_win : winBit (SLOT_CTL_SWAPPED).key = 38 := by decide
theorem SLOT_SHD_SLOT0_win (i : Nat) : winBit (SLOT_SHD_SLOT0 i).key = 38 := by exact grp6 (by unfold SLOT_SHD_SLOT0; dsimp only; omega) (by unfold SLOT_SHD_SLOT0; dsimp only; omega)
theorem SLOT_SHD_SLOT1_win (i : Nat) : winBit (SLOT_SHD_SLOT1 i).key = 38 := by exact grp6 (by unfold SLOT_SHD_SLOT1; dsimp only; omega) (by unfold SLOT_SHD_SLOT1; dsimp only; omega)
theorem SLOT_SHD_SLOT2_win (i : Nat) : winBit (SLOT_SHD_SLOT2 i).key = 38 := by exact grp6 (by unfold SLOT_SHD_SLOT2; dsimp only; omega) (by unfold SLOT_SHD_SLOT2; dsimp only; omega)
theorem SLOT_SHD_SLOT3_win (i : Nat) : winBit (SLOT_SHD_SLOT3 i).key = 38 := by exact grp6 (by unfold SLOT_SHD_SLOT3; dsimp only; omega) (by unfold SLOT_SHD_SLOT3; dsimp only; omega)
theorem SLU_ENT_CLASS_win (i : Nat) : winBit (SLU_ENT_CLASS i).key = 45 := by exact grp13 (by unfold SLU_ENT_CLASS; dsimp only; omega) (by unfold SLU_ENT_CLASS; dsimp only; omega)
theorem SLU_ENT_CURRENT_win (i : Nat) : winBit (SLU_ENT_CURRENT i).key = 45 := by exact grp13 (by unfold SLU_ENT_CURRENT; dsimp only; omega) (by unfold SLU_ENT_CURRENT; dsimp only; omega)
theorem SLU_ENT_GEN_win (i : Nat) : winBit (SLU_ENT_GEN i).key = 45 := by exact grp13 (by unfold SLU_ENT_GEN; dsimp only; omega) (by unfold SLU_ENT_GEN; dsimp only; omega)
theorem SLU_ENT_INITIATOR_win (i : Nat) : winBit (SLU_ENT_INITIATOR i).key = 45 := by exact grp13 (by unfold SLU_ENT_INITIATOR; dsimp only; omega) (by unfold SLU_ENT_INITIATOR; dsimp only; omega)
theorem SLU_ENT_REMAIN_win (i : Nat) : winBit (SLU_ENT_REMAIN i).key = 45 := by exact grp13 (by unfold SLU_ENT_REMAIN; dsimp only; omega) (by unfold SLU_ENT_REMAIN; dsimp only; omega)
theorem SLU_ENT_SKIPS_win (i : Nat) : winBit (SLU_ENT_SKIPS i).key = 45 := by exact grp13 (by unfold SLU_ENT_SKIPS; dsimp only; omega) (by unfold SLU_ENT_SKIPS; dsimp only; omega)
theorem SLU_ENT_STATE_win (i : Nat) : winBit (SLU_ENT_STATE i).key = 45 := by exact grp13 (by unfold SLU_ENT_STATE; dsimp only; omega) (by unfold SLU_ENT_STATE; dsimp only; omega)
theorem SLU_ENT_TARGET_win (i : Nat) : winBit (SLU_ENT_TARGET i).key = 45 := by exact grp13 (by unfold SLU_ENT_TARGET; dsimp only; omega) (by unfold SLU_ENT_TARGET; dsimp only; omega)
theorem SLU_MYTICKET_AT_ONCE_win : winBit (SLU_MYTICKET_AT_ONCE).key = 42 := by decide
theorem SLU_MYTICKET_ENTRY_win : winBit (SLU_MYTICKET_ENTRY).key = 42 := by decide
theorem SLU_MYTICKET_GEN_win : winBit (SLU_MYTICKET_GEN).key = 42 := by decide
theorem SLU_RELEASE_TICKET_win : winBit (SLU_RELEASE_TICKET).key = 42 := by decide
theorem SLU_REQ_CLASS_win : winBit (SLU_REQ_CLASS).key = 42 := by decide
theorem SLU_REQ_CURRENT_win : winBit (SLU_REQ_CURRENT).key = 42 := by decide
theorem SLU_REQ_DURATION_win : winBit (SLU_REQ_DURATION).key = 42 := by decide
theorem SLU_REQ_TARGET_win : winBit (SLU_REQ_TARGET).key = 42 := by decide
theorem SLU_STAT_GRANTABLE_win : winBit (SLU_STAT_GRANTABLE).key = 42 := by decide
theorem SLU_STAT_GRANTED_win : winBit (SLU_STAT_GRANTED).key = 42 := by decide
theorem SLU_STAT_REFUSED_win : winBit (SLU_STAT_REFUSED).key = 42 := by decide
theorem SLU_STAT_WAITING_win : winBit (SLU_STAT_WAITING).key = 42 := by decide
theorem SP_ECC_CTL_BUCKET_win : winBit (SP_ECC_CTL_BUCKET).key = 111 := by decide
theorem SP_ECC_CTL_LEAK_win : winBit (SP_ECC_CTL_LEAK).key = 111 := by decide
theorem SP_ECC_CTL_SCRUB_RATE_win : winBit (SP_ECC_CTL_SCRUB_RATE).key = 111 := by decide
theorem SP_ECC_STAT_CORR_win : winBit (SP_ECC_STAT_CORR).key = 111 := by decide
theorem SP_ECC_STAT_LEVEL_win : winBit (SP_ECC_STAT_LEVEL).key = 111 := by decide
theorem SP_ECC_STAT_OVERFLOW_win : winBit (SP_ECC_STAT_OVERFLOW).key = 111 := by decide
theorem SP_ECC_STAT_PASSES_win : winBit (SP_ECC_STAT_PASSES).key = 111 := by decide
theorem SP_ECC_STAT_UNCORR_win : winBit (SP_ECC_STAT_UNCORR).key = 111 := by decide
theorem SP_MARCH_BANKS_win : winBit (SP_MARCH_BANKS).key = 112 := by decide
theorem SP_MARCH_GO_win : winBit (SP_MARCH_GO).key = 112 := by decide
theorem SP_MARCH_PRESERVE_win : winBit (SP_MARCH_PRESERVE).key = 112 := by decide
theorem SP_MARCH_RES_COL_win (i : Nat) : winBit (SP_MARCH_RES_COL i).key = 112 := by exact grp80 (by unfold SP_MARCH_RES_COL; dsimp only; omega) (by unfold SP_MARCH_RES_COL; dsimp only; omega)
theorem SP_MARCH_RES_FAILS_win (i : Nat) : winBit (SP_MARCH_RES_FAILS i).key = 112 := by exact grp80 (by unfold SP_MARCH_RES_FAILS; dsimp only; omega) (by unfold SP_MARCH_RES_FAILS; dsimp only; omega)
theorem SP_MARCH_RES_ONECOL_win (i : Nat) : winBit (SP_MARCH_RES_ONECOL i).key = 112 := by exact grp80 (by unfold SP_MARCH_RES_ONECOL; dsimp only; omega) (by unfold SP_MARCH_RES_ONECOL; dsimp only; omega)
theorem SP_MARCH_STAT_FAILED_win : winBit (SP_MARCH_STAT_FAILED).key = 112 := by decide
theorem SP_MARCH_STAT_PASSED_win : winBit (SP_MARCH_STAT_PASSED).key = 112 := by decide
theorem SP_OWN_OWNER_win (i : Nat) : winBit (SP_OWN_OWNER i).key = 110 := by exact grp78 (by unfold SP_OWN_OWNER; dsimp only; omega) (by unfold SP_OWN_OWNER; dsimp only; omega)
theorem SP_OWN_PENDING_win (i : Nat) : winBit (SP_OWN_PENDING i).key = 110 := by exact grp78 (by unfold SP_OWN_PENDING; dsimp only; omega) (by unfold SP_OWN_PENDING; dsimp only; omega)
theorem SP_PASS_BANK_win : winBit (SP_PASS_BANK).key = 112 := by decide
theorem SP_PASS_COUNT_win : winBit (SP_PASS_COUNT).key = 112 := by decide
theorem SP_PASS_FIRST_win : winBit (SP_PASS_FIRST).key = 112 := by decide
theorem SP_PASS_GO_win : winBit (SP_PASS_GO).key = 112 := by decide
theorem SP_PASS_SUM_CHECKED_win : winBit (SP_PASS_SUM_CHECKED).key = 112 := by decide
theorem SP_PASS_SUM_CORR_win : winBit (SP_PASS_SUM_CORR).key = 112 := by decide
theorem SP_PASS_SUM_UNCORR_win : winBit (SP_PASS_SUM_UNCORR).key = 112 := by decide
theorem SYS_PROFILE_CUR_win : winBit (SYS_PROFILE_CUR).key = 33 := by decide
theorem SYS_PROFILE_GO_win : winBit (SYS_PROFILE_GO).key = 33 := by decide
theorem SYS_PROFILE_PENDING_win : winBit (SYS_PROFILE_PENDING).key = 33 := by decide
theorem SYS_PROFILE_REQ_win : winBit (SYS_PROFILE_REQ).key = 33 := by decide
theorem SYS_PROFILE_RESULT_win : winBit (SYS_PROFILE_RESULT).key = 33 := by decide
theorem TMO_PEND_TMO_win (i : Nat) : winBit (TMO_PEND_TMO i).key = 108 := by exact grp76 (by unfold TMO_PEND_TMO; dsimp only; omega) (by unfold TMO_PEND_TMO; dsimp only; omega)
theorem WD_CTL_EN_win (i : Nat) : winBit (WD_CTL_EN i).key = 105 := by exact grp73 (by unfold WD_CTL_EN; dsimp only; omega) (by unfold WD_CTL_EN; dsimp only; omega)
theorem WD_CTL_PERIOD_win (i : Nat) : winBit (WD_CTL_PERIOD i).key = 105 := by exact grp73 (by unfold WD_CTL_PERIOD; dsimp only; omega) (by unfold WD_CTL_PERIOD; dsimp only; omega)
theorem WD_KICK_KEY_win (i : Nat) : winBit (WD_KICK_KEY i).key = 105 := by exact grp73 (by unfold WD_KICK_KEY; dsimp only; omega) (by unfold WD_KICK_KEY; dsimp only; omega)
theorem WEIR_CAL_BANKS_BANKS_win : winBit (WEIR_CAL_BANKS_BANKS).key = 67 := by decide
theorem WEIR_CAL_CTL_GO_win : winBit (WEIR_CAL_CTL_GO).key = 67 := by decide
theorem WEIR_CAL_CTL_SAVE_win : winBit (WEIR_CAL_CTL_SAVE).key = 67 := by decide
theorem WEIR_CAL_ERR_CODE_win (i : Nat) : winBit (WEIR_CAL_ERR_CODE i).key = 67 := by exact grp35 (by unfold WEIR_CAL_ERR_CODE; dsimp only; omega) (by unfold WEIR_CAL_ERR_CODE; dsimp only; omega)
theorem WEIR_CAL_INFO_BUSY_win : winBit (WEIR_CAL_INFO_BUSY).key = 67 := by decide
theorem WEIR_CAL_INFO_DIRTY_win : winBit (WEIR_CAL_INFO_DIRTY).key = 67 := by decide
theorem WEIR_CAL_INFO_RECORD_OK_win : winBit (WEIR_CAL_INFO_RECORD_OK).key = 67 := by decide
theorem WEIR_CAL_INFO_SAVE_STATUS_win : winBit (WEIR_CAL_INFO_SAVE_STATUS).key = 67 := by decide
theorem WEIR_CAL_STAT_DONE_win : winBit (WEIR_CAL_STAT_DONE).key = 67 := by decide
theorem WEIR_CAL_STAT_FAILED_win : winBit (WEIR_CAL_STAT_FAILED).key = 67 := by decide
theorem WEIR_CH_CAL_CAL_CMP_win (i : Nat) : winBit (WEIR_CH_CAL_CAL_CMP i).key = 68 := by exact grp36 (by unfold WEIR_CH_CAL_CAL_CMP; dsimp only; omega) (by unfold WEIR_CH_CAL_CAL_CMP; dsimp only; omega)
theorem WEIR_CH_CAL_CAL_DRV_win (i : Nat) : winBit (WEIR_CH_CAL_CAL_DRV i).key = 68 := by exact grp36 (by unfold WEIR_CH_CAL_CAL_DRV; dsimp only; omega) (by unfold WEIR_CH_CAL_CAL_DRV; dsimp only; omega)
theorem WEIR_CH_CORR_CORR_CMP_win (i : Nat) : winBit (WEIR_CH_CORR_CORR_CMP i).key = 68 := by exact grp36 (by unfold WEIR_CH_CORR_CORR_CMP; dsimp only; omega) (by unfold WEIR_CH_CORR_CORR_CMP; dsimp only; omega)
theorem WEIR_CH_CORR_CORR_DRV_win (i : Nat) : winBit (WEIR_CH_CORR_CORR_DRV i).key = 68 := by exact grp36 (by unfold WEIR_CH_CORR_CORR_DRV; dsimp only; omega) (by unfold WEIR_CH_CORR_CORR_DRV; dsimp only; omega)
theorem WEIR_CH_CTL_SENT_win (i : Nat) : winBit (WEIR_CH_CTL_SENT i).key = 68 := by exact grp36 (by unfold WEIR_CH_CTL_SENT; dsimp only; omega) (by unfold WEIR_CH_CTL_SENT; dsimp only; omega)
theorem WEIR_CH_CTL_SENT_MAX_win (i : Nat) : winBit (WEIR_CH_CTL_SENT_MAX i).key = 68 := by exact grp36 (by unfold WEIR_CH_CTL_SENT_MAX; dsimp only; omega) (by unfold WEIR_CH_CTL_SENT_MAX; dsimp only; omega)
theorem WEIR_CH_CTL_USE_win (i : Nat) : winBit (WEIR_CH_CTL_USE i).key = 68 := by exact grp36 (by unfold WEIR_CH_CTL_USE; dsimp only; omega) (by unfold WEIR_CH_CTL_USE; dsimp only; omega)
theorem WEIR_CH_EST_EDGES_CMP_win (i : Nat) : winBit (WEIR_CH_EST_EDGES_CMP i).key = 68 := by exact grp36 (by unfold WEIR_CH_EST_EDGES_CMP; dsimp only; omega) (by unfold WEIR_CH_EST_EDGES_CMP; dsimp only; omega)
theorem WEIR_CH_EST_EDGES_DRV_win (i : Nat) : winBit (WEIR_CH_EST_EDGES_DRV i).key = 68 := by exact grp36 (by unfold WEIR_CH_EST_EDGES_DRV; dsimp only; omega) (by unfold WEIR_CH_EST_EDGES_DRV; dsimp only; omega)
theorem WEIR_CH_EST_EST_CMP_win (i : Nat) : winBit (WEIR_CH_EST_EST_CMP i).key = 68 := by exact grp36 (by unfold WEIR_CH_EST_EST_CMP; dsimp only; omega) (by unfold WEIR_CH_EST_EST_CMP; dsimp only; omega)
theorem WEIR_CH_EST_EST_DRV_win (i : Nat) : winBit (WEIR_CH_EST_EST_DRV i).key = 68 := by exact grp36 (by unfold WEIR_CH_EST_EST_DRV; dsimp only; omega) (by unfold WEIR_CH_EST_EST_DRV; dsimp only; omega)
theorem WEIR_CH_STAT_LIMIT_CMP_win (i : Nat) : winBit (WEIR_CH_STAT_LIMIT_CMP i).key = 68 := by exact grp36 (by unfold WEIR_CH_STAT_LIMIT_CMP; dsimp only; omega) (by unfold WEIR_CH_STAT_LIMIT_CMP; dsimp only; omega)
theorem WEIR_CH_STAT_LIMIT_DRV_win (i : Nat) : winBit (WEIR_CH_STAT_LIMIT_DRV i).key = 68 := by exact grp36 (by unfold WEIR_CH_STAT_LIMIT_DRV; dsimp only; omega) (by unfold WEIR_CH_STAT_LIMIT_DRV; dsimp only; omega)
theorem WEIR_CH_STAT_QUIET_win (i : Nat) : winBit (WEIR_CH_STAT_QUIET i).key = 68 := by exact grp36 (by unfold WEIR_CH_STAT_QUIET; dsimp only; omega) (by unfold WEIR_CH_STAT_QUIET; dsimp only; omega)
theorem WEIR_CH_STAT_SENT_LAST_win (i : Nat) : winBit (WEIR_CH_STAT_SENT_LAST i).key = 68 := by exact grp36 (by unfold WEIR_CH_STAT_SENT_LAST; dsimp only; omega) (by unfold WEIR_CH_STAT_SENT_LAST; dsimp only; omega)
theorem WEIR_CH_STAT_SETTLING_win (i : Nat) : winBit (WEIR_CH_STAT_SETTLING i).key = 68 := by exact grp36 (by unfold WEIR_CH_STAT_SETTLING; dsimp only; omega) (by unfold WEIR_CH_STAT_SETTLING; dsimp only; omega)
theorem WEIR_CH_STAT_STALE_win (i : Nat) : winBit (WEIR_CH_STAT_STALE i).key = 68 := by exact grp36 (by unfold WEIR_CH_STAT_STALE; dsimp only; omega) (by unfold WEIR_CH_STAT_STALE; dsimp only; omega)
theorem WEIR_CH_STAT_UNCAL_win (i : Nat) : winBit (WEIR_CH_STAT_UNCAL i).key = 68 := by exact grp36 (by unfold WEIR_CH_STAT_UNCAL; dsimp only; omega) (by unfold WEIR_CH_STAT_UNCAL; dsimp only; omega)
theorem WEIR_CTL_DEADBAND_win : winBit (WEIR_CTL_DEADBAND).key = 66 := by decide
theorem WEIR_CTL_RUN_win : winBit (WEIR_CTL_RUN).key = 66 := by decide
theorem WEIR_CTL_STALE_FRAMES_win : winBit (WEIR_CTL_STALE_FRAMES).key = 66 := by decide
theorem WEIR_LIM_CORR_LIM_win : winBit (WEIR_LIM_CORR_LIM).key = 66 := by decide
theorem ALM_CTL_fields_win : ∀ p ∈ ALM_CTL_fields, winBit p.2.key = 116 := by simp [ALM_CTL_fields, ALM_CTL_GO_win, ALM_CTL_OP_win, ALM_CTL_TARGET_win, ALM_CTL_SRC_win]
theorem ALM_STAT_fields_win : ∀ p ∈ ALM_STAT_fields, winBit p.2.key = 116 := by simp [ALM_STAT_fields, ALM_STAT_CHECK_win, ALM_STAT_BUSY_win, ALM_STAT_RESULT_win]
theorem ARB_ACT_fields_win (i j : Nat) : ∀ p ∈ ARB_ACT_fields i j, winBit p.2.key = 97 := by simp [ARB_ACT_fields, ARB_ACT_BURST_win, ARB_ACT_PREEMPT_win, ARB_ACT_PRIO_win]
theorem ARB_CTL_fields_win (i : Nat) : ∀ p ∈ ARB_CTL_fields i, winBit p.2.key = 97 := by simp [ARB_CTL_fields, ARB_CTL_FAIR_N_win, ARB_CTL_COMMIT_win]
theorem ARB_SHD_fields_win (i j : Nat) : ∀ p ∈ ARB_SHD_fields i j, winBit p.2.key = 97 := by simp [ARB_SHD_fields, ARB_SHD_BURST_win, ARB_SHD_PREEMPT_win, ARB_SHD_PRIO_win]
theorem ARB_STAT_fields_win (i : Nat) : ∀ p ∈ ARB_STAT_fields i, winBit p.2.key = 97 := by simp [ARB_STAT_fields, ARB_STAT_FAIR_CNT_win, ARB_STAT_BUSY_win, ARB_STAT_OWNER_win]
theorem ATT_CTL_fields_win : ∀ p ∈ ATT_CTL_fields, winBit p.2.key = 118 := by simp [ATT_CTL_fields, ATT_CTL_GO_win, ATT_CTL_RESULT_win, ATT_CTL_DST_win]
theorem AUD_BODY_fields_win (i : Nat) : ∀ p ∈ AUD_BODY_fields i, winBit p.2.key = 117 := by simp [AUD_BODY_fields, AUD_BODY_BYTES_win]
theorem AUD_GO_fields_win : ∀ p ∈ AUD_GO_fields, winBit p.2.key = 117 := by simp [AUD_GO_fields, AUD_GO_GO_win]
theorem AUD_HEAD_fields_win (i : Nat) : ∀ p ∈ AUD_HEAD_fields i, winBit p.2.key = 117 := by simp [AUD_HEAD_fields, AUD_HEAD_BYTES_win]
theorem AUD_SEQ_fields_win : ∀ p ∈ AUD_SEQ_fields, winBit p.2.key = 117 := by simp [AUD_SEQ_fields, AUD_SEQ_SEQ_win]
theorem BOOT_STAT_fields_win : ∀ p ∈ BOOT_STAT_fields, winBit p.2.key = 41 := by simp [BOOT_STAT_fields, BOOT_STAT_ELAPSED_MS_win, BOOT_STAT_GOLDEN_ERR_win, BOOT_STAT_PRIMARY_ERR_win, BOOT_STAT_FW_ERR_win, BOOT_STAT_IFW_win, BOOT_STAT_FABRIC_win, BOOT_STAT_FW_SLOT_win, BOOT_STAT_ALMANAC_win, BOOT_STAT_STAGE_win, BOOT_STAT_DEGRADED_win, BOOT_STAT_WARM_win, BOOT_STAT_READY_win]
theorem CAS_CTL_fields_win : ∀ p ∈ CAS_CTL_fields, winBit p.2.key = 98 := by simp [CAS_CTL_fields, CAS_CTL_STATION_win]
theorem CAS_RX_CFG_fields_win : ∀ p ∈ CAS_RX_CFG_fields, winBit p.2.key = 101 := by simp [CAS_RX_CFG_fields, CAS_RX_CFG_LOG2_win, CAS_RX_CFG_BASE_win]
theorem CAS_RX_PTR_fields_win : ∀ p ∈ CAS_RX_PTR_fields, winBit p.2.key = 101 := by simp [CAS_RX_PTR_fields, CAS_RX_PTR_RD_win, CAS_RX_PTR_WR_win]
theorem CAS_SEND_fields_win : ∀ p ∈ CAS_SEND_fields, winBit p.2.key = 100 := by simp [CAS_SEND_fields, CAS_SEND_TAG_win, CAS_SEND_DEST_win, CAS_SEND_LEN_win, CAS_SEND_ADDR_win]
theorem CAS_STAT_fields_win : ∀ p ∈ CAS_STAT_fields, winBit p.2.key = 100 := by simp [CAS_STAT_fields, CAS_STAT_RX_DROP_win, CAS_STAT_NOROUTE_win, CAS_STAT_QUEUED_win]
theorem CAS_TIME_fields_win : ∀ p ∈ CAS_TIME_fields, winBit p.2.key = 99 := by simp [CAS_TIME_fields, CAS_TIME_DELAY_win, CAS_TIME_ERR_win, CAS_TIME_NOUP_win, CAS_TIME_UPLINK_win, CAS_TIME_BEYOND_win, CAS_TIME_HOLD_win, CAS_TIME_ALIGNED_win, CAS_TIME_VALID_win, CAS_TIME_HOPS_win]
theorem CLKMON_CTL_fields_win : ∀ p ∈ CLKMON_CTL_fields, winBit p.2.key = 50 := by simp [CLKMON_CTL_fields, CLKMON_CTL_EN_win, CLKMON_CTL_DIV_win, CLKMON_CTL_SRC_win]
theorem CLK_FAB_fields_win (i : Nat) : ∀ p ∈ CLK_FAB_fields i, winBit p.2.key = 51 := by simp [CLK_FAB_fields, CLK_FAB_MHZ_win]
theorem CLK_GATE_fields_win (i : Nat) : ∀ p ∈ CLK_GATE_fields i, winBit p.2.key = 52 := by simp [CLK_GATE_fields, CLK_GATE_ACK_MISS_win, CLK_GATE_CLOSED_win, CLK_GATE_PEND_win, CLK_GATE_CLOSE_win]
theorem CLK_SEL_fields_win (i : Nat) : ∀ p ∈ CLK_SEL_fields i, winBit p.2.key = 49 := by simp [CLK_SEL_fields, CLK_SEL_WAIT_win, CLK_SEL_PEND_win, CLK_SEL_FORCE_win, CLK_SEL_AUTO_win, CLK_SEL_SEL_win]
theorem CLK_SRC_STAT_fields_win : ∀ p ∈ CLK_SRC_STAT_fields, winBit p.2.key = 48 := by simp [CLK_SRC_STAT_fields, CLK_SRC_STAT_ACTIVE_win, CLK_SRC_STAT_HOLDOVER_win, CLK_SRC_STAT_LOST_win, CLK_SRC_STAT_OK_win]
theorem CORE_STAT_fields_win (i : Nat) : ∀ p ∈ CORE_STAT_fields i, winBit p.2.key = 105 := by simp [CORE_STAT_fields, CORE_STAT_WD_LEFT_win, CORE_STAT_LOCKFAULT_win, CORE_STAT_STATE_win]
theorem CRC_CFG_fields_win (i : Nat) : ∀ p ∈ CRC_CFG_fields i, winBit p.2.key = 109 := by simp [CRC_CFG_fields, CRC_CFG_SEED_EN_win, CRC_CFG_FOLD_win, CRC_CFG_POLY_win]
theorem CRC_DB_fields_win (i : Nat) : ∀ p ∈ CRC_DB_fields i, winBit p.2.key = 109 := by simp [CRC_DB_fields, CRC_DB_DATA_win]
theorem CRC_DH_fields_win (i : Nat) : ∀ p ∈ CRC_DH_fields i, winBit p.2.key = 109 := by simp [CRC_DH_fields, CRC_DH_DATA_win]
theorem CRC_DW_fields_win (i : Nat) : ∀ p ∈ CRC_DW_fields i, winBit p.2.key = 109 := by simp [CRC_DW_fields, CRC_DW_DATA_win]
theorem CRC_FOLD_fields_win (i : Nat) : ∀ p ∈ CRC_FOLD_fields i, winBit p.2.key = 109 := by simp [CRC_FOLD_fields, CRC_FOLD_VALUE_win]
theorem CRC_RES_fields_win (i : Nat) : ∀ p ∈ CRC_RES_fields i, winBit p.2.key = 109 := by simp [CRC_RES_fields, CRC_RES_RES_win]
theorem CRC_SEED_fields_win (i : Nat) : ∀ p ∈ CRC_SEED_fields i, winBit p.2.key = 109 := by simp [CRC_SEED_fields, CRC_SEED_SEED_win]
theorem DBG_AUTH_BUF_fields_win (i : Nat) : ∀ p ∈ DBG_AUTH_BUF_fields i, winBit p.2.key = 127 := by simp [DBG_AUTH_BUF_fields, DBG_AUTH_BUF_WORD_win]
theorem DBG_AUTH_CTL_fields_win : ∀ p ∈ DBG_AUTH_CTL_fields, winBit p.2.key = 121 := by simp [DBG_AUTH_CTL_fields, DBG_AUTH_CTL_CAUSE_win, DBG_AUTH_CTL_RESULT_win, DBG_AUTH_CTL_BUSY_win, DBG_AUTH_CTL_ROLE_win, DBG_AUTH_CTL_LEN_win, DBG_AUTH_CTL_OP_win]
theorem DBG_CREG_fields_win (i j : Nat) : ∀ p ∈ DBG_CREG_fields i j, winBit p.2.key = 125 := by simp [DBG_CREG_fields, DBG_CREG_VALUE_win]
theorem DBG_CSR_DATA_fields_win (i : Nat) : ∀ p ∈ DBG_CSR_DATA_fields i, winBit p.2.key = 125 := by simp [DBG_CSR_DATA_fields, DBG_CSR_DATA_VALUE_win]
theorem DBG_CSR_SEL_fields_win (i : Nat) : ∀ p ∈ DBG_CSR_SEL_fields i, winBit p.2.key = 125 := by simp [DBG_CSR_SEL_fields, DBG_CSR_SEL_CSR_win]
theorem DBG_CTL_fields_win : ∀ p ∈ DBG_CTL_fields, winBit p.2.key = 121 := by simp [DBG_CTL_fields, DBG_CTL_BREAKLEASE_win, DBG_CTL_SIDE_win]
theorem DBG_FREEZE_fields_win : ∀ p ∈ DBG_FREEZE_fields, winBit p.2.key = 123 := by simp [DBG_FREEZE_fields, DBG_FREEZE_MASK_win]
theorem DBG_RUN_fields_win (i : Nat) : ∀ p ∈ DBG_RUN_fields i, winBit p.2.key = 122 := by simp [DBG_RUN_fields, DBG_RUN_HALT_win, DBG_RUN_RESUME_win, DBG_RUN_STEP_win, DBG_RUN_RHALT_win, DBG_RUN_STEPPING_win, DBG_RUN_HALTED_win]
theorem DBG_STIM_fields_win (i j : Nat) : ∀ p ∈ DBG_STIM_fields i j, winBit p.2.key = 126 := by simp [DBG_STIM_fields, DBG_STIM_DATA_win]
theorem DBG_TRC_CTL_fields_win : ∀ p ∈ DBG_TRC_CTL_fields, winBit p.2.key = 124 := by simp [DBG_TRC_CTL_fields, DBG_TRC_CTL_EVT_win, DBG_TRC_CTL_STALL_win, DBG_TRC_CTL_TICK_win, DBG_TRC_CTL_STIM_win, DBG_TRC_CTL_EN_win]
theorem DBG_TRC_STAT_fields_win : ∀ p ∈ DBG_TRC_STAT_fields, winBit p.2.key = 124 := by simp [DBG_TRC_STAT_fields, DBG_TRC_STAT_LOST_win, DBG_TRC_STAT_LEVEL_win]
theorem DB_MASK_fields_win (i : Nat) : ∀ p ∈ DB_MASK_fields i, winBit p.2.key = 108 := by simp [DB_MASK_fields, DB_MASK_MASK_win]
theorem DB_PEND_fields_win (i : Nat) : ∀ p ∈ DB_PEND_fields i, winBit p.2.key = 108 := by simp [DB_PEND_fields, DB_PEND_PEND_win]
theorem ELIM_STAT_fields_win : ∀ p ∈ ELIM_STAT_fields, winBit p.2.key = 43 := by simp [ELIM_STAT_fields, ELIM_STAT_WIN_FAULT_win, ELIM_STAT_ANY_BALL_win, ELIM_STAT_WIRING_win]
theorem ELIM_TRIP_fields_win (i : Nat) : ∀ p ∈ ELIM_TRIP_fields i, winBit p.2.key = 44 := by simp [ELIM_TRIP_fields, ELIM_TRIP_BALL_win]
theorem ENC_KEYID_fields_win : ∀ p ∈ ENC_KEYID_fields, winBit p.2.key = 91 := by simp [ENC_KEYID_fields, ENC_KEYID_STATE_win]
theorem ENC_PASS_SUM_fields_win : ∀ p ∈ ENC_PASS_SUM_fields, winBit p.2.key = 92 := by simp [ENC_PASS_SUM_fields, ENC_PASS_SUM_UNCORR_win, ENC_PASS_SUM_CORR_win, ENC_PASS_SUM_CHECKED_win]
theorem ENC_PASS_fields_win : ∀ p ∈ ENC_PASS_fields, winBit p.2.key = 92 := by simp [ENC_PASS_fields, ENC_PASS_GO_win, ENC_PASS_REGION_win]
theorem ENC_REG_CTL_fields_win (i : Nat) : ∀ p ∈ ENC_REG_CTL_fields i, winBit p.2.key = 93 := by simp [ENC_REG_CTL_fields, ENC_REG_CTL_KEYID_win, ENC_REG_CTL_STATE_win, ENC_REG_CTL_PEND_win, ENC_REG_CTL_REKEY_win, ENC_REG_CTL_EN_win]
theorem ENC_REG_RANGE_fields_win (i : Nat) : ∀ p ∈ ENC_REG_RANGE_fields i, winBit p.2.key = 93 := by simp [ENC_REG_RANGE_fields, ENC_REG_RANGE_LIMIT_win, ENC_REG_RANGE_BASE_win]
theorem ENC_REG_STAT_fields_win (i : Nat) : ∀ p ∈ ENC_REG_STAT_fields i, winBit p.2.key = 93 := by simp [ENC_REG_STAT_fields, ENC_REG_STAT_POISONED_win]
theorem ENC_REG_WM_fields_win (i : Nat) : ∀ p ∈ ENC_REG_WM_fields i, winBit p.2.key = 93 := by simp [ENC_REG_WM_fields, ENC_REG_WM_WATERMARK_win]
theorem ENL_fields_win (i : Nat) : ∀ p ∈ ENL_fields i, winBit p.2.key = 47 := by simp [ENL_fields, ENL_MERGED_win, ENL_FAULT_win, ENL_TOTAL_win]
theorem EPOCH_fields_win (i : Nat) : ∀ p ∈ EPOCH_fields i, winBit p.2.key = 104 := by simp [EPOCH_fields, EPOCH_EPOCH_win]
theorem ET_BANK_CTL_fields_win (i : Nat) : ∀ p ∈ ET_BANK_CTL_fields i, winBit p.2.key = 62 := by simp [ET_BANK_CTL_fields, ET_BANK_CTL_REALIGN_win]
theorem ET_BANK_STAT_fields_win (i : Nat) : ∀ p ∈ ET_BANK_STAT_fields i, winBit p.2.key = 62 := by simp [ET_BANK_STAT_fields, ET_BANK_STAT_ALIGN_LOST_win, ET_BANK_STAT_ALIGNED_win]
theorem ET_CH_BADCYC_fields_win (i : Nat) : ∀ p ∈ ET_CH_BADCYC_fields i, winBit p.2.key = 65 := by simp [ET_CH_BADCYC_fields, ET_CH_BADCYC_COUNT_win]
theorem ET_CH_CAL_fields_win (i : Nat) : ∀ p ∈ ET_CH_CAL_fields i, winBit p.2.key = 65 := by simp [ET_CH_CAL_fields, ET_CH_CAL_CAL_CMP_win, ET_CH_CAL_CAL_DRV_win]
theorem ET_CH_COMMIT_fields_win (i : Nat) : ∀ p ∈ ET_CH_COMMIT_fields i, winBit p.2.key = 65 := by simp [ET_CH_COMMIT_fields, ET_CH_COMMIT_TS_win, ET_CH_COMMIT_FMT_win]
theorem ET_CH_CORR_fields_win (i : Nat) : ∀ p ∈ ET_CH_CORR_fields i, winBit p.2.key = 65 := by simp [ET_CH_CORR_fields, ET_CH_CORR_CORR_CMP_win, ET_CH_CORR_CORR_DRV_win]
theorem ET_CH_FIX_fields_win (i : Nat) : ∀ p ∈ ET_CH_FIX_fields i, winBit p.2.key = 65 := by simp [ET_CH_FIX_fields, ET_CH_FIX_FIX_win]
theorem ET_CH_STAT_fields_win (i : Nat) : ∀ p ∈ ET_CH_STAT_fields i, winBit p.2.key = 65 := by simp [ET_CH_STAT_fields, ET_CH_STAT_OK_win]
theorem ET_CH_STG_CMP_fields_win (i : Nat) : ∀ p ∈ ET_CH_STG_CMP_fields i, winBit p.2.key = 65 := by simp [ET_CH_STG_CMP_fields, ET_CH_STG_CMP_C2_win, ET_CH_STG_CMP_C1_win]
theorem ET_CH_STG_DRV12_fields_win (i : Nat) : ∀ p ∈ ET_CH_STG_DRV12_fields i, winBit p.2.key = 65 := by simp [ET_CH_STG_DRV12_fields, ET_CH_STG_DRV12_D2_win, ET_CH_STG_DRV12_D1_win]
theorem ET_CH_STG_DRV34_fields_win (i : Nat) : ∀ p ∈ ET_CH_STG_DRV34_fields i, winBit p.2.key = 65 := by simp [ET_CH_STG_DRV34_fields, ET_CH_STG_DRV34_D4_win, ET_CH_STG_DRV34_D3_win]
theorem ET_PER_fields_win (i j : Nat) : ∀ p ∈ ET_PER_fields i j, winBit p.2.key = 63 := by simp [ET_PER_fields, ET_PER_PERIOD_win]
theorem ET_SEQ_STAT_fields_win (i : Nat) : ∀ p ∈ ET_SEQ_STAT_fields i, winBit p.2.key = 61 := by simp [ET_SEQ_STAT_fields, ET_SEQ_STAT_CYCLES_win, ET_SEQ_STAT_TS_LAST_win]
theorem ET_TS_CFG_fields_win (i j : Nat) : ∀ p ∈ ET_TS_CFG_fields i j, winBit p.2.key = 64 := by simp [ET_TS_CFG_fields, ET_TS_CFG_OK_win, ET_TS_CFG_FMT_win]
theorem ET_TS_CMP_fields_win (i j : Nat) : ∀ p ∈ ET_TS_CMP_fields i j, winBit p.2.key = 64 := by simp [ET_TS_CMP_fields, ET_TS_CMP_C2_win, ET_TS_CMP_C1_win]
theorem ET_TS_DRV12_fields_win (i j : Nat) : ∀ p ∈ ET_TS_DRV12_fields i j, winBit p.2.key = 64 := by simp [ET_TS_DRV12_fields, ET_TS_DRV12_D2_win, ET_TS_DRV12_D1_win]
theorem ET_TS_DRV34_fields_win (i j : Nat) : ∀ p ∈ ET_TS_DRV34_fields i j, winBit p.2.key = 64 := by simp [ET_TS_DRV34_fields, ET_TS_DRV34_D4_win, ET_TS_DRV34_D3_win]
theorem FAB_ECC_CTL_fields_win (i : Nat) : ∀ p ∈ FAB_ECC_CTL_fields i, winBit p.2.key = 57 := by simp [FAB_ECC_CTL_fields, FAB_ECC_CTL_SCRUB_RATE_win, FAB_ECC_CTL_LEAK_win, FAB_ECC_CTL_BUCKET_win]
theorem FAB_ECC_STAT_fields_win (i : Nat) : ∀ p ∈ FAB_ECC_STAT_fields i, winBit p.2.key = 57 := by simp [FAB_ECC_STAT_fields, FAB_ECC_STAT_UNCORR_win, FAB_ECC_STAT_CORR_win, FAB_ECC_STAT_PASSES_win, FAB_ECC_STAT_LEVEL_win, FAB_ECC_STAT_SKIP_win, FAB_ECC_STAT_OVERFLOW_win]
theorem FAB_FLIP_CTL_fields_win (i : Nat) : ∀ p ∈ FAB_FLIP_CTL_fields i, winBit p.2.key = 57 := by simp [FAB_FLIP_CTL_fields, FAB_FLIP_CTL_ARM_win, FAB_FLIP_CTL_MEM_win, FAB_FLIP_CTL_CMASK_win]
theorem FAB_FLIP_DATA_fields_win (i : Nat) : ∀ p ∈ FAB_FLIP_DATA_fields i, winBit p.2.key = 57 := by simp [FAB_FLIP_DATA_fields, FAB_FLIP_DATA_DMASK_win]
theorem FAB_PORT_CTL_fields_win (i : Nat) : ∀ p ∈ FAB_PORT_CTL_fields i, winBit p.2.key = 58 := by simp [FAB_PORT_CTL_fields, FAB_PORT_CTL_DIN_EN_win, FAB_PORT_CTL_TAP_EN_win]
theorem FAB_PORT_STAT_fields_win (i : Nat) : ∀ p ∈ FAB_PORT_STAT_fields i, winBit p.2.key = 58 := by simp [FAB_PORT_STAT_fields, FAB_PORT_STAT_TAP_DROP_win, FAB_PORT_STAT_DIN_LEVEL_win, FAB_PORT_STAT_TAP_LEVEL_win]
theorem FAB_SPARE_fields_win (i : Nat) : ∀ p ∈ FAB_SPARE_fields i, winBit p.2.key = 57 := by simp [FAB_SPARE_fields, FAB_SPARE_LCOL_B_win, FAB_SPARE_LCOL_A_win, FAB_SPARE_BMEM_SPARES_win]
theorem FC_CH_CNT_fields_win (i : Nat) : ∀ p ∈ FC_CH_CNT_fields i, winBit p.2.key = 73 := by simp [FC_CH_CNT_fields, FC_CH_CNT_COUNT_win]
theorem FC_ECC_CTL_fields_win : ∀ p ∈ FC_ECC_CTL_fields, winBit p.2.key = 70 := by simp [FC_ECC_CTL_fields, FC_ECC_CTL_SCRUB_RATE_win, FC_ECC_CTL_LEAK_win, FC_ECC_CTL_BUCKET_win]
theorem FC_ECC_STAT_fields_win : ∀ p ∈ FC_ECC_STAT_fields, winBit p.2.key = 70 := by simp [FC_ECC_STAT_fields, FC_ECC_STAT_UNCORR_win, FC_ECC_STAT_CORR_win, FC_ECC_STAT_LEVEL_win, FC_ECC_STAT_OVERFLOW_win]
theorem FC_LOG_CFG_fields_win (i : Nat) : ∀ p ∈ FC_LOG_CFG_fields i, winBit p.2.key = 72 := by simp [FC_LOG_CFG_fields, FC_LOG_CFG_LOG2_win, FC_LOG_CFG_BASE_win]
theorem FC_LOG_PTR_fields_win (i : Nat) : ∀ p ∈ FC_LOG_PTR_fields i, winBit p.2.key = 72 := by simp [FC_LOG_PTR_fields, FC_LOG_PTR_RD_win, FC_LOG_PTR_WR_win]
theorem FC_LOST_fields_win (i : Nat) : ∀ p ∈ FC_LOST_fields i, winBit p.2.key = 71 := by simp [FC_LOST_fields, FC_LOST_COUNT_win]
theorem FC_MAP_CTL_fields_win (i : Nat) : ∀ p ∈ FC_MAP_CTL_fields i, winBit p.2.key = 74 := by simp [FC_MAP_CTL_fields, FC_MAP_CTL_SPILL_ERR_win, FC_MAP_CTL_MAPERR_win, FC_MAP_CTL_STATE_win, FC_MAP_CTL_SPILL_win, FC_MAP_CTL_DISCARD_win, FC_MAP_CTL_CLOSE_win, FC_MAP_CTL_OPEN_win]
theorem FC_MAP_SEL_fields_win (i : Nat) : ∀ p ∈ FC_MAP_SEL_fields i, winBit p.2.key = 74 := by simp [FC_MAP_SEL_fields, FC_MAP_SEL_IOLOG2_win, FC_MAP_SEL_NSLM1_win, FC_MAP_SEL_SLICE_win, FC_MAP_SEL_ZANY_win, FC_MAP_SEL_Z_win, FC_MAP_SEL_DOMAIN_win, FC_MAP_SEL_SITE_win, FC_MAP_SEL_SEQ_win]
theorem FC_MAP_SPILL_fields_win (i : Nat) : ∀ p ∈ FC_MAP_SPILL_fields i, winBit p.2.key = 74 := by simp [FC_MAP_SPILL_fields, FC_MAP_SPILL_ADDR_win]
theorem FC_MAP_STAT_fields_win (i : Nat) : ∀ p ∈ FC_MAP_STAT_fields i, winBit p.2.key = 74 := by simp [FC_MAP_STAT_fields, FC_MAP_STAT_NONDATA_win, FC_MAP_STAT_HITS_win]
theorem FC_MAP_XY_fields_win (i : Nat) : ∀ p ∈ FC_MAP_XY_fields i, winBit p.2.key = 74 := by simp [FC_MAP_XY_fields, FC_MAP_XY_YLOG2_win, FC_MAP_XY_Y0_win, FC_MAP_XY_XLOG2_win, FC_MAP_XY_X0_win]
theorem FC_SEQ_CTL_fields_win (i : Nat) : ∀ p ∈ FC_SEQ_CTL_fields i, winBit p.2.key = 72 := by simp [FC_SEQ_CTL_fields, FC_SEQ_CTL_LWM_win, FC_SEQ_CTL_HWM_win, FC_SEQ_CTL_MLOG_win, FC_SEQ_CTL_POLICY_win, FC_SEQ_CTL_MODE_win]
theorem FC_SEQ_STAT_fields_win (i : Nat) : ∀ p ∈ FC_SEQ_STAT_fields i, winBit p.2.key = 72 := by simp [FC_SEQ_STAT_fields, FC_SEQ_STAT_CTRL_DROP_win, FC_SEQ_STAT_DRAIN_ERR_win, FC_SEQ_STAT_DERR_win, FC_SEQ_STAT_RING_FULL_win, FC_SEQ_STAT_THROTTLING_win, FC_SEQ_STAT_LEVEL_win]
theorem FC_SITE_FAIL_fields_win (i j : Nat) : ∀ p ∈ FC_SITE_FAIL_fields i j, winBit p.2.key = 72 := by simp [FC_SITE_FAIL_fields, FC_SITE_FAIL_FAILCYC_win]
theorem FC_SITE_REC_fields_win (i j : Nat) : ∀ p ∈ FC_SITE_REC_fields i j, winBit p.2.key = 72 := by simp [FC_SITE_REC_fields, FC_SITE_REC_DROPPED_win, FC_SITE_REC_LOGGED_win]
theorem FI_SDO_fields_win : ∀ p ∈ FI_SDO_fields, winBit p.2.key = 119 := by simp [FI_SDO_fields, FI_SDO_RETRIED_win, FI_SDO_PENDING_win]
theorem FI_SESS_fields_win (i : Nat) : ∀ p ∈ FI_SESS_fields i, winBit p.2.key = 120 := by simp [FI_SESS_fields, FI_SESS_ADDRESS_win, FI_SESS_ROLE_win, FI_SESS_OPEN_win]
theorem FI_STAT_fields_win : ∀ p ∈ FI_STAT_fields, winBit p.2.key = 119 := by simp [FI_STAT_fields, FI_STAT_AL_CODE_win, FI_STAT_SESSIONS_win, FI_STAT_LINK1_win, FI_STAT_LINK0_win, FI_STAT_AL_ERR_win, FI_STAT_AL_STATE_win]
theorem FRM_COUNT_fields_win : ∀ p ∈ FRM_COUNT_fields, winBit p.2.key = 36 := by simp [FRM_COUNT_fields, FRM_COUNT_COUNT_win]
theorem FRM_CTL_fields_win : ∀ p ∈ FRM_CTL_fields, winBit p.2.key = 34 := by simp [FRM_CTL_fields, FRM_CTL_SRC_win, FRM_CTL_PERIOD_win]
theorem FRM_OVR_fields_win (i : Nat) : ∀ p ∈ FRM_OVR_fields i, winBit p.2.key = 37 := by simp [FRM_OVR_fields, FRM_OVR_COUNT_win]
theorem FRM_STAT_fields_win : ∀ p ∈ FRM_STAT_fields, winBit p.2.key = 35 := by simp [FRM_STAT_fields, FRM_STAT_MISSED_win, FRM_STAT_SRC_ACT_win, FRM_STAT_ACQUIRING_win, FRM_STAT_HOLDOVER_win, FRM_STAT_PERIOD_ACT_win]
theorem GEN_DR_fields_win (i j : Nat) : ∀ p ∈ GEN_DR_fields i j, winBit p.2.key = 69 := by simp [GEN_DR_fields, GEN_DR_VALUE_win]
theorem GEN_D_fields_win (i j : Nat) : ∀ p ∈ GEN_D_fields i j, winBit p.2.key = 69 := by simp [GEN_D_fields, GEN_D_VALUE_win]
theorem GEN_SCR_fields_win (i j : Nat) : ∀ p ∈ GEN_SCR_fields i j, winBit p.2.key = 69 := by simp [GEN_SCR_fields, GEN_SCR_MODE_win, GEN_SCR_B_win, GEN_SCR_A_win]
theorem GEN_TINV_fields_win (i : Nat) : ∀ p ∈ GEN_TINV_fields i, winBit p.2.key = 69 := by simp [GEN_TINV_fields, GEN_TINV_VALUE_win]
theorem GEN_TMASK_fields_win (i : Nat) : ∀ p ∈ GEN_TMASK_fields i, winBit p.2.key = 69 := by simp [GEN_TMASK_fields, GEN_TMASK_VALUE_win]
theorem GEN_fields_win (i j : Nat) : ∀ p ∈ GEN_fields i j, winBit p.2.key = 69 := by simp [GEN_fields, GEN_VALUE_win]
theorem HBM_AGE_fields_win : ∀ p ∈ HBM_AGE_fields, winBit p.2.key = 83 := by simp [HBM_AGE_fields, HBM_AGE_BACKGROUND_win, HBM_AGE_HOST_win, HBM_AGE_CAPTURE_win, HBM_AGE_PATTERN_win]
theorem HBM_CFG_fields_win : ∀ p ∈ HBM_CFG_fields, winBit p.2.key = 83 := by simp [HBM_CFG_fields, HBM_CFG_THRESH_win, HBM_CFG_RADIUS_win, HBM_CFG_BXOR_win]
theorem HBM_CLS_fields_win (i : Nat) : ∀ p ∈ HBM_CLS_fields i, winBit p.2.key = 90 := by simp [HBM_CLS_fields, HBM_CLS_PROMOTED_win, HBM_CLS_LINES_win]
theorem HBM_DIST_fields_win : ∀ p ∈ HBM_DIST_fields, winBit p.2.key = 88 := by simp [HBM_DIST_fields, HBM_DIST_TARGETED_win]
theorem HBM_ECC_CTL_fields_win : ∀ p ∈ HBM_ECC_CTL_fields, winBit p.2.key = 85 := by simp [HBM_ECC_CTL_fields, HBM_ECC_CTL_SCRUB_RATE_win, HBM_ECC_CTL_LEAK_win, HBM_ECC_CTL_BUCKET_win]
theorem HBM_ECC_STAT_fields_win : ∀ p ∈ HBM_ECC_STAT_fields, winBit p.2.key = 85 := by simp [HBM_ECC_STAT_fields, HBM_ECC_STAT_UNCORR_win, HBM_ECC_STAT_CORR_win, HBM_ECC_STAT_LOST_win, HBM_ECC_STAT_LEVEL_win, HBM_ECC_STAT_OVERFLOW_win]
theorem HBM_ERRLOG_fields_win : ∀ p ∈ HBM_ERRLOG_fields, winBit p.2.key = 86 := by simp [HBM_ERRLOG_fields, HBM_ERRLOG_FOUND_win, HBM_ERRLOG_INITIATOR_win, HBM_ERRLOG_VALID_win, HBM_ERRLOG_LINE_win]
theorem HBM_FLIP_CTL_fields_win : ∀ p ∈ HBM_FLIP_CTL_fields, winBit p.2.key = 87 := by simp [HBM_FLIP_CTL_fields, HBM_FLIP_CTL_ARM_win, HBM_FLIP_CTL_WORD_win, HBM_FLIP_CTL_CMASK_win, HBM_FLIP_CTL_LINE_win]
theorem HBM_FLIP_DATA_fields_win : ∀ p ∈ HBM_FLIP_DATA_fields, winBit p.2.key = 87 := by simp [HBM_FLIP_DATA_fields, HBM_FLIP_DATA_DMASK_win]
theorem HBM_PASS_SUM_fields_win : ∀ p ∈ HBM_PASS_SUM_fields, winBit p.2.key = 89 := by simp [HBM_PASS_SUM_fields, HBM_PASS_SUM_UNCORR_win, HBM_PASS_SUM_CORR_win, HBM_PASS_SUM_LINES_win]
theorem HBM_PASS_fields_win : ∀ p ∈ HBM_PASS_fields, winBit p.2.key = 89 := by simp [HBM_PASS_fields, HBM_PASS_GO_win, HBM_PASS_COUNT_win, HBM_PASS_FIRST_win]
theorem HBM_SPARE_fields_win : ∀ p ∈ HBM_SPARE_fields, winBit p.2.key = 88 := by simp [HBM_SPARE_fields, HBM_SPARE_USED_win]
theorem HBM_STAT_fields_win : ∀ p ∈ HBM_STAT_fields, winBit p.2.key = 84 := by simp [HBM_STAT_fields, HBM_STAT_TEMP_win, HBM_STAT_BURST_win, HBM_STAT_HOT_win, HBM_STAT_STATE_win]
theorem ISO_HOLD_fields_win (i j : Nat) : ∀ p ∈ ISO_HOLD_fields i j, winBit p.2.key = 56 := by simp [ISO_HOLD_fields, ISO_HOLD_CHOICE_win]
theorem JET_BANK_CTL_fields_win (i : Nat) : ∀ p ∈ JET_BANK_CTL_fields i, winBit p.2.key = 59 := by simp [JET_BANK_CTL_fields, JET_BANK_CTL_SPARE_FOR_win, JET_BANK_CTL_MAXRATE_win]
theorem JET_BANK_STAT_fields_win (i : Nat) : ∀ p ∈ JET_BANK_STAT_fields i, winBit p.2.key = 59 := by simp [JET_BANK_STAT_fields, JET_BANK_STAT_SPARE_ACT_win, JET_BANK_STAT_PMU_GRANT_win, JET_BANK_STAT_RATE_GRANT_win, JET_BANK_STAT_BLOCKED_win]
theorem JET_CFG_fields_win (i : Nat) : ∀ p ∈ JET_CFG_fields i, winBit p.2.key = 60 := by simp [JET_CFG_fields, JET_CFG_STROBE_win, JET_CFG_SEQ_win, JET_CFG_LOAD_win, JET_CFG_OFFMODE_win, JET_CFG_RANGE_win, JET_CFG_EN_win]
theorem JET_LOAD_fields_win (i : Nat) : ∀ p ∈ JET_LOAD_fields i, winBit p.2.key = 60 := by simp [JET_LOAD_fields, JET_LOAD_ISNK_win, JET_LOAD_ISRC_win]
theorem JET_LVL_CMP_fields_win (i : Nat) : ∀ p ∈ JET_LVL_CMP_fields i, winBit p.2.key = 60 := by simp [JET_LVL_CMP_fields, JET_LVL_CMP_VCOM_win, JET_LVL_CMP_VOL_win, JET_LVL_CMP_VOH_win]
theorem JET_LVL_DRV_fields_win (i : Nat) : ∀ p ∈ JET_LVL_DRV_fields i, winBit p.2.key = 60 := by simp [JET_LVL_DRV_fields, JET_LVL_DRV_VTT_win, JET_LVL_DRV_VIL_win, JET_LVL_DRV_VIH_win]
theorem JET_PMU_CTL_fields_win (i : Nat) : ∀ p ∈ JET_PMU_CTL_fields i, winBit p.2.key = 60 := by simp [JET_PMU_CTL_fields, JET_PMU_CTL_DIV_win, JET_PMU_CTL_IRANGE_win, JET_PMU_CTL_MODE_win]
theorem JET_PMU_FORCE_fields_win (i : Nat) : ∀ p ∈ JET_PMU_FORCE_fields i, winBit p.2.key = 60 := by simp [JET_PMU_FORCE_fields, JET_PMU_FORCE_IFORCE_win, JET_PMU_FORCE_VFORCE_win]
theorem JET_PMU_ICLAMP_fields_win (i : Nat) : ∀ p ∈ JET_PMU_ICLAMP_fields i, winBit p.2.key = 60 := by simp [JET_PMU_ICLAMP_fields, JET_PMU_ICLAMP_HI_win, JET_PMU_ICLAMP_LO_win]
theorem JET_PMU_RES_fields_win (i : Nat) : ∀ p ∈ JET_PMU_RES_fields i, winBit p.2.key = 60 := by simp [JET_PMU_RES_fields, JET_PMU_RES_NUMBER_win, JET_PMU_RES_CLAMPED_win, JET_PMU_RES_OVER_win, JET_PMU_RES_SAMPLE_win]
theorem JET_PMU_VCLAMP_fields_win (i : Nat) : ∀ p ∈ JET_PMU_VCLAMP_fields i, winBit p.2.key = 60 := by simp [JET_PMU_VCLAMP_fields, JET_PMU_VCLAMP_HI_win, JET_PMU_VCLAMP_LO_win]
theorem JET_STAT_fields_win (i : Nat) : ∀ p ∈ JET_STAT_fields i, winBit p.2.key = 60 := by simp [JET_STAT_fields, JET_STAT_BLK_SPARE_win, JET_STAT_BLK_WIDE_win, JET_STAT_BLK_RATE_win, JET_STAT_TRIP_win, JET_STAT_PHYS_win, JET_STAT_STATE_win]
theorem LANE_CTL_fields_win (i : Nat) : ∀ p ∈ LANE_CTL_fields i, winBit p.2.key = 103 := by simp [LANE_CTL_fields, LANE_CTL_SLIP_win, LANE_CTL_INJ_win, LANE_CTL_PRBS_win, LANE_CTL_INJ_RATE_win, LANE_CTL_PRE_win, LANE_CTL_MAIN_win, LANE_CTL_POST_win]
theorem LANE_STAT_fields_win (i : Nat) : ∀ p ∈ LANE_STAT_fields i, winBit p.2.key = 103 := by simp [LANE_STAT_fields, LANE_STAT_ERRORS_win, LANE_STAT_GOOD_win, LANE_STAT_PRBS_LOCK_win, LANE_STAT_SYMLOCK_win, LANE_STAT_BITLOCK_win, LANE_STAT_SIGNAL_win]
theorem LDR_CACHE_fields_win : ∀ p ∈ LDR_CACHE_fields, winBit p.2.key = 53 := by simp [LDR_CACHE_fields, LDR_CACHE_FULL_OK_win, LDR_CACHE_SLOT_OK_win]
theorem LDR_REQ_fields_win : ∀ p ∈ LDR_REQ_fields, winBit p.2.key = 53 := by simp [LDR_REQ_fields, LDR_REQ_OP_win, LDR_REQ_REGION_win, LDR_REQ_SLOT_win]
theorem LDR_STAT_fields_win : ∀ p ∈ LDR_STAT_fields, winBit p.2.key = 53 := by simp [LDR_STAT_fields, LDR_STAT_LAST_ERR_win, LDR_STAT_BUSY_win, LDR_STAT_QUEUED_win]
theorem LNK_ASYM_fields_win (i : Nat) : ∀ p ∈ LNK_ASYM_fields i, winBit p.2.key = 102 := by simp [LNK_ASYM_fields, LNK_ASYM_ASYM_win]
theorem LNK_CTL_fields_win (i : Nat) : ∀ p ∈ LNK_CTL_fields i, winBit p.2.key = 102 := by simp [LNK_CTL_fields, LNK_CTL_DEG_LIM_win, LNK_CTL_SLEEP_IDLE_win, LNK_CTL_RETRAIN_win, LNK_CTL_AUTOLOCK_win, LNK_CTL_MODE_win, LNK_CTL_TIME_EN_win, LNK_CTL_SLEEP_EN_win, LNK_CTL_MAXW_win, LNK_CTL_ROLE_win, LNK_CTL_EN_win]
theorem LNK_ERR_fields_win (i : Nat) : ∀ p ∈ LNK_ERR_fields i, winBit p.2.key = 102 := by simp [LNK_ERR_fields, LNK_ERR_DEGRADES_win, LNK_ERR_REPLAYS_win, LNK_ERR_CRC_ERR_win]
theorem LNK_RANGE_fields_win (i : Nat) : ∀ p ∈ LNK_RANGE_fields i, winBit p.2.key = 102 := by simp [LNK_RANGE_fields, LNK_RANGE_LAST_win, LNK_RANGE_FIRST_win]
theorem LNK_STAT_fields_win (i : Nat) : ∀ p ∈ LNK_STAT_fields i, winBit p.2.key = 102 := by simp [LNK_STAT_fields, LNK_STAT_PARTNER_win, LNK_STAT_FAIL_win, LNK_STAT_LANES_win, LNK_STAT_WIDTH_win, LNK_STAT_RXSLEEP_win, LNK_STAT_TXSLEEP_win, LNK_STAT_POLINV_win, LNK_STAT_STATE_win]
theorem LOCK_CTL_fields_win (i : Nat) : ∀ p ∈ LOCK_CTL_fields i, winBit p.2.key = 106 := by simp [LOCK_CTL_fields, LOCK_CTL_ACQ_win, LOCK_CTL_REL_win, LOCK_CTL_LEASE_win]
theorem LOCK_STAT_fields_win (i : Nat) : ∀ p ∈ LOCK_STAT_fields i, winBit p.2.key = 106 := by simp [LOCK_STAT_fields, LOCK_STAT_HELD_win, LOCK_STAT_BROKEN_win, LOCK_STAT_OWNER_win, LOCK_STAT_OEPOCH_win, LOCK_STAT_LEFT_win]
theorem MBX_CTL_fields_win (i : Nat) : ∀ p ∈ MBX_CTL_fields i, winBit p.2.key = 107 := by simp [MBX_CTL_fields, MBX_CTL_GO_win, MBX_CTL_ACK_win, MBX_CTL_RECEIVER_win, MBX_CTL_TMO_win]
theorem MBX_DATA_fields_win (i j : Nat) : ∀ p ∈ MBX_DATA_fields i j, winBit p.2.key = 107 := by simp [MBX_DATA_fields, MBX_DATA_DATA_win]
theorem MBX_STAT_fields_win (i : Nat) : ∀ p ∈ MBX_STAT_fields i, winBit p.2.key = 107 := by simp [MBX_STAT_fields, MBX_STAT_FULL_win, MBX_STAT_ORPHAN_win, MBX_STAT_TIMED_OUT_win, MBX_STAT_SENDER_win, MBX_STAT_SEPOCH_win, MBX_STAT_AGE_win]
theorem NOC_CTL_fields_win : ∀ p ∈ NOC_CTL_fields, winBit p.2.key = 94 := by simp [NOC_CTL_fields, NOC_CTL_TMO_win]
theorem NOC_RTR_CTL_fields_win (i : Nat) : ∀ p ∈ NOC_RTR_CTL_fields i, winBit p.2.key = 95 := by simp [NOC_RTR_CTL_fields, NOC_RTR_CTL_LINK_DIS_win, NOC_RTR_CTL_MAINT_win]
theorem NOC_RTR_STAT_fields_win (i : Nat) : ∀ p ∈ NOC_RTR_STAT_fields i, winBit p.2.key = 95 := by simp [NOC_RTR_STAT_fields, NOC_RTR_STAT_HELD_win, NOC_RTR_STAT_ABORTED_win, NOC_RTR_STAT_STATE_win]
theorem NOC_STAT_A_fields_win (i : Nat) : ∀ p ∈ NOC_STAT_A_fields i, winBit p.2.key = 96 := by simp [NOC_STAT_A_fields, NOC_STAT_A_REQS_win, NOC_STAT_A_FLITS_win]
theorem NOC_STAT_B_fields_win (i : Nat) : ∀ p ∈ NOC_STAT_B_fields i, winBit p.2.key = 96 := by simp [NOC_STAT_B_fields, NOC_STAT_B_RETRIES_win, NOC_STAT_B_TIMEOUTS_win, NOC_STAT_B_LAT_MAX_win, NOC_STAT_B_LAT_MEAN_win]
theorem PATCH_ADDR_fields_win (i : Nat) : ∀ p ∈ PATCH_ADDR_fields i, winBit p.2.key = 113 := by simp [PATCH_ADDR_fields, PATCH_ADDR_EN_win, PATCH_ADDR_WORD_win]
theorem PATCH_DATA_fields_win (i : Nat) : ∀ p ∈ PATCH_DATA_fields i, winBit p.2.key = 113 := by simp [PATCH_DATA_fields, PATCH_DATA_DATA_win]
theorem PATCH_LOCK_fields_win : ∀ p ∈ PATCH_LOCK_fields, winBit p.2.key = 113 := by simp [PATCH_LOCK_fields, PATCH_LOCK_LOCK_win]
theorem PWR_DOM_CTL_fields_win (i : Nat) : ∀ p ∈ PWR_DOM_CTL_fields i, winBit p.2.key = 46 := by simp [PWR_DOM_CTL_fields, PWR_DOM_CTL_DRESET_win, PWR_DOM_CTL_TARGET_win]
theorem PWR_DOM_STAT_fields_win (i : Nat) : ∀ p ∈ PWR_DOM_STAT_fields i, winBit p.2.key = 46 := by simp [PWR_DOM_STAT_fields, PWR_DOM_STAT_OUTSTANDING_win, PWR_DOM_STAT_FORCED_win, PWR_DOM_STAT_WAIT_GRANT_win, PWR_DOM_STAT_ENABLE_PENDING_win, PWR_DOM_STAT_STATE_win]
theorem RA_CTL_fields_win : ∀ p ∈ RA_CTL_fields, winBit p.2.key = 75 := by simp [RA_CTL_fields, RA_CTL_EN_win]
theorem RA_DESC_GEO_fields_win (i : Nat) : ∀ p ∈ RA_DESC_GEO_fields i, winBit p.2.key = 77 := by simp [RA_DESC_GEO_fields, RA_DESC_GEO_SCLOG2_win, RA_DESC_GEO_SRLOG2_win, RA_DESC_GEO_CULOG2_win, RA_DESC_GEO_RULOG2_win]
theorem RA_DESC_SP_fields_win (i : Nat) : ∀ p ∈ RA_DESC_SP_fields i, winBit p.2.key = 77 := by simp [RA_DESC_SP_fields, RA_DESC_SP_ONESHOT_win, RA_DESC_SP_ORDER_win, RA_DESC_SP_STEPLOG2_win, RA_DESC_SP_SCOST_win, RA_DESC_SP_CCOST_win, RA_DESC_SP_RCOST_win, RA_DESC_SP_NS_win, RA_DESC_SP_NC_win, RA_DESC_SP_NR_win]
theorem RA_DESC_USER_fields_win (i : Nat) : ∀ p ∈ RA_DESC_USER_fields i, winBit p.2.key = 77 := by simp [RA_DESC_USER_fields, RA_DESC_USER_USER_win]
theorem RA_DOM_fields_win (i : Nat) : ∀ p ∈ RA_DOM_fields i, winBit p.2.key = 78 := by simp [RA_DOM_fields, RA_DOM_LAST_COST_win, RA_DOM_LAST_MAPERR_win, RA_DOM_LAST_NP_win, RA_DOM_LAST_OUTCOME_win, RA_DOM_STATE_win, RA_DOM_CANCEL_win, RA_DOM_ARM_win]
theorem RA_RING_CFG_fields_win : ∀ p ∈ RA_RING_CFG_fields, winBit p.2.key = 76 := by simp [RA_RING_CFG_fields, RA_RING_CFG_LOG2_win, RA_RING_CFG_BASE_win]
theorem RA_RING_PTR_fields_win : ∀ p ∈ RA_RING_PTR_fields, winBit p.2.key = 76 := by simp [RA_RING_PTR_fields, RA_RING_PTR_RD_win, RA_RING_PTR_WR_win]
theorem RA_STAT_fields_win : ∀ p ∈ RA_STAT_fields, winBit p.2.key = 75 := by simp [RA_STAT_fields, RA_STAT_NP_COUNT_win, RA_STAT_ARMED_win, RA_STAT_RERR_win, RA_STAT_RING_ERR_win, RA_STAT_RING_FULL_win, RA_STAT_HELD_win, RA_STAT_QUEUE_win, RA_STAT_BUSY_win]
theorem REG_CTL_fields_win (i : Nat) : ∀ p ∈ REG_CTL_fields i, winBit p.2.key = 55 := by simp [REG_CTL_fields, REG_CTL_POLICY_win]
theorem REG_STAT_fields_win (i : Nat) : ∀ p ∈ REG_STAT_fields i, winBit p.2.key = 55 := by simp [REG_STAT_fields, REG_STAT_BAD_ADDR_win, REG_STAT_FRAMES_DONE_win, REG_STAT_ERR_win, REG_STAT_ABORT_win, REG_STAT_FROM_FULL_win, REG_STAT_SLOT_win, REG_STAT_PENDING_win, REG_STAT_ISO_win, REG_STAT_STATE_win]
theorem RILL_CTL_fields_win : ∀ p ∈ RILL_CTL_fields, winBit p.2.key = 54 := by simp [RILL_CTL_fields, RILL_CTL_PASS_win, RILL_CTL_RATE_win, RILL_CTL_LEAK_win, RILL_CTL_BUCKET_win]
theorem RILL_PASS_fields_win : ∀ p ∈ RILL_PASS_fields, winBit p.2.key = 54 := by simp [RILL_PASS_fields, RILL_PASS_FRAMES_UNCORR_win, RILL_PASS_FRAMES_CORR_win, RILL_PASS_FRAMES_CHECKED_win]
theorem RILL_STAT_fields_win : ∀ p ∈ RILL_STAT_fields, winBit p.2.key = 54 := by simp [RILL_STAT_fields, RILL_STAT_UNCORR_win, RILL_STAT_CORR_win, RILL_STAT_POSITION_win, RILL_STAT_LEVEL_win, RILL_STAT_PASS_BUSY_win, RILL_STAT_OVERFLOW_win]
theorem RST_CAUSE_fields_win : ∀ p ∈ RST_CAUSE_fields, winBit p.2.key = 40 := by simp [RST_CAUSE_fields, RST_CAUSE_WARM_COUNT_win, RST_CAUSE_SOURCE_win, RST_CAUSE_KIND_win]
theorem RST_CTL_fields_win : ∀ p ∈ RST_CTL_fields, winBit p.2.key = 39 := by simp [RST_CTL_fields, RST_CTL_KEY_win, RST_CTL_WARM_win, RST_CTL_CORE_win]
theorem SC_CFG_fields_win (i : Nat) : ∀ p ∈ SC_CFG_fields i, winBit p.2.key = 80 := by simp [SC_CFG_fields, SC_CFG_IVEC_win, SC_CFG_THR_win]
theorem SC_CTL_fields_win (i : Nat) : ∀ p ∈ SC_CTL_fields i, winBit p.2.key = 80 := by simp [SC_CTL_fields, SC_CTL_START_win, SC_CTL_STOP_win, SC_CTL_CLEAR_win, SC_CTL_ENTRY_win]
theorem SC_DROP_fields_win (i j : Nat) : ∀ p ∈ SC_DROP_fields i j, winBit p.2.key = 81 := by simp [SC_DROP_fields, SC_DROP_COUNT_win]
theorem SC_ECC_CTL_fields_win (i : Nat) : ∀ p ∈ SC_ECC_CTL_fields i, winBit p.2.key = 80 := by simp [SC_ECC_CTL_fields, SC_ECC_CTL_SCRUB_RATE_win, SC_ECC_CTL_LEAK_win, SC_ECC_CTL_BUCKET_win]
theorem SC_ECC_STAT_fields_win (i : Nat) : ∀ p ∈ SC_ECC_STAT_fields i, winBit p.2.key = 80 := by simp [SC_ECC_STAT_fields, SC_ECC_STAT_UNCORR_win, SC_ECC_STAT_CORR_win, SC_ECC_STAT_LEVEL_win, SC_ECC_STAT_OVERFLOW_win]
theorem SC_HOST_fields_win (i : Nat) : ∀ p ∈ SC_HOST_fields i, winBit p.2.key = 80 := by simp [SC_HOST_fields, SC_HOST_WORD_win]
theorem SC_IRQ_fields_win (i : Nat) : ∀ p ∈ SC_IRQ_fields i, winBit p.2.key = 80 := by simp [SC_IRQ_fields, SC_IRQ_EN_win, SC_IRQ_PEND_win]
theorem SC_MAP_fields_win (i : Nat) : ∀ p ∈ SC_MAP_fields i, winBit p.2.key = 79 := by simp [SC_MAP_fields, SC_MAP_PHYS_win]
theorem SC_RES_fields_win (i j : Nat) : ∀ p ∈ SC_RES_fields i j, winBit p.2.key = 82 := by simp [SC_RES_fields, SC_RES_FRESH_win, SC_RES_RES_win]
theorem SC_RING_CFG_fields_win (i : Nat) : ∀ p ∈ SC_RING_CFG_fields i, winBit p.2.key = 80 := by simp [SC_RING_CFG_fields, SC_RING_CFG_LOG2_win, SC_RING_CFG_BASE_win]
theorem SC_RING_PTR_fields_win (i : Nat) : ∀ p ∈ SC_RING_PTR_fields i, winBit p.2.key = 80 := by simp [SC_RING_PTR_fields, SC_RING_PTR_RD_win, SC_RING_PTR_WR_win]
theorem SC_STAT_fields_win (i : Nat) : ∀ p ∈ SC_STAT_fields i, winBit p.2.key = 80 := by simp [SC_STAT_fields, SC_STAT_PC_win, SC_STAT_RERR_win, SC_STAT_CAUSE_win, SC_STAT_SHADOW_win, SC_STAT_STATE_win]
theorem SEC_STAT_fields_win : ∀ p ∈ SEC_STAT_fields, winBit p.2.key = 114 := by simp [SEC_STAT_fields, SEC_STAT_LEDGER_win, SEC_STAT_LC_K_win, SEC_STAT_STATE_win, SEC_STAT_EDITION_win, SEC_STAT_USED_win]
theorem SEC_TAMPER_fields_win : ∀ p ∈ SEC_TAMPER_fields, winBit p.2.key = 115 := by simp [SEC_TAMPER_fields, SEC_TAMPER_FUSED_win, SEC_TAMPER_SOURCE_win]
theorem SEQ_CTL_fields_win (i : Nat) : ∀ p ∈ SEQ_CTL_fields i, winBit p.2.key = 69 := by simp [SEQ_CTL_fields, SEQ_CTL_ABORT_win, SEQ_CTL_STOP_win, SEQ_CTL_START_win, SEQ_CTL_PAUSE_win, SEQ_CTL_HFLAG_win, SEQ_CTL_HOLD_TS_win, SEQ_CTL_PAUSE_WARN_win]
theorem SEQ_MARK_fields_win (i : Nat) : ∀ p ∈ SEQ_MARK_fields i, winBit p.2.key = 69 := by simp [SEQ_MARK_fields, SEQ_MARK_CYCLE_win, SEQ_MARK_VALUE_win]
theorem SEQ_PC_fields_win (i : Nat) : ∀ p ∈ SEQ_PC_fields i, winBit p.2.key = 69 := by simp [SEQ_PC_fields, SEQ_PC_CALLS_win, SEQ_PC_LOOPS_win, SEQ_PC_PC_win]
theorem SEQ_PIN_fields_win (i j : Nat) : ∀ p ∈ SEQ_PIN_fields i j, winBit p.2.key = 69 := by simp [SEQ_PIN_fields, SEQ_PIN_VALID_win, SEQ_PIN_KIND_win, SEQ_PIN_BIT_win, SEQ_PIN_SITE_win, SEQ_PIN_HOLD_win, SEQ_PIN_CHANNEL_win]
theorem SEQ_PROG_fields_win (i : Nat) : ∀ p ∈ SEQ_PROG_fields i, winBit p.2.key = 69 := by simp [SEQ_PROG_fields, SEQ_PROG_ENTRY_win, SEQ_PROG_BASE_win]
theorem SEQ_SITE_FAIL_fields_win (i : Nat) : ∀ p ∈ SEQ_SITE_FAIL_fields i, winBit p.2.key = 69 := by simp [SEQ_SITE_FAIL_fields, SEQ_SITE_FAIL_SITE_win]
theorem SEQ_SITE_MASK_fields_win (i : Nat) : ∀ p ∈ SEQ_SITE_MASK_fields i, winBit p.2.key = 69 := by simp [SEQ_SITE_MASK_fields, SEQ_SITE_MASK_SITE_win]
theorem SEQ_SITE_MATCH_fields_win (i : Nat) : ∀ p ∈ SEQ_SITE_MATCH_fields i, winBit p.2.key = 69 := by simp [SEQ_SITE_MATCH_fields, SEQ_SITE_MATCH_SITE_win]
theorem SEQ_SITE_OFF_fields_win (i : Nat) : ∀ p ∈ SEQ_SITE_OFF_fields i, winBit p.2.key = 69 := by simp [SEQ_SITE_OFF_fields, SEQ_SITE_OFF_SITE_win]
theorem SEQ_SLU_fields_win (i j : Nat) : ∀ p ∈ SEQ_SLU_fields i j, winBit p.2.key = 69 := by simp [SEQ_SLU_fields, SEQ_SLU_TARGET_win, SEQ_SLU_CLASS_win, SEQ_SLU_DURATION_win, SEQ_SLU_CURRENT_win]
theorem SEQ_START_AT_fields_win (i : Nat) : ∀ p ∈ SEQ_START_AT_fields i, winBit p.2.key = 69 := by simp [SEQ_START_AT_fields, SEQ_START_AT_FRAME_win]
theorem SEQ_STAT_fields_win (i : Nat) : ∀ p ∈ SEQ_STAT_fields i, winBit p.2.key = 69 := by simp [SEQ_STAT_fields, SEQ_STAT_CAUSE_win, SEQ_STAT_END_win, SEQ_STAT_PAUSE_SRC_win, SEQ_STAT_WAIT_win, SEQ_STAT_STATE_win]
theorem SEQ_TICKET_fields_win (i j : Nat) : ∀ p ∈ SEQ_TICKET_fields i j, winBit p.2.key = 69 := by simp [SEQ_TICKET_fields, SEQ_TICKET_VALID_win, SEQ_TICKET_TICKET_win]
theorem SEQ_VEC_fields_win (i : Nat) : ∀ p ∈ SEQ_VEC_fields i, winBit p.2.key = 69 := by simp [SEQ_VEC_fields, SEQ_VEC_BASE_win]
theorem SLOT_ACT_fields_win (i : Nat) : ∀ p ∈ SLOT_ACT_fields i, winBit p.2.key = 38 := by simp [SLOT_ACT_fields, SLOT_ACT_SLOT3_win, SLOT_ACT_SLOT2_win, SLOT_ACT_SLOT1_win, SLOT_ACT_SLOT0_win]
theorem SLOT_CTL_fields_win : ∀ p ∈ SLOT_CTL_fields, winBit p.2.key = 38 := by simp [SLOT_CTL_fields, SLOT_CTL_SWAPPED_win, SLOT_CTL_ARM_win]
theorem SLOT_SHD_fields_win (i : Nat) : ∀ p ∈ SLOT_SHD_fields i, winBit p.2.key = 38 := by simp [SLOT_SHD_fields, SLOT_SHD_SLOT3_win, SLOT_SHD_SLOT2_win, SLOT_SHD_SLOT1_win, SLOT_SHD_SLOT0_win]
theorem SLU_ENT_fields_win (i : Nat) : ∀ p ∈ SLU_ENT_fields i, winBit p.2.key = 45 := by simp [SLU_ENT_fields, SLU_ENT_GEN_win, SLU_ENT_SKIPS_win, SLU_ENT_STATE_win, SLU_ENT_INITIATOR_win, SLU_ENT_TARGET_win, SLU_ENT_CLASS_win, SLU_ENT_REMAIN_win, SLU_ENT_CURRENT_win]
theorem SLU_MYTICKET_fields_win : ∀ p ∈ SLU_MYTICKET_fields, winBit p.2.key = 42 := by simp [SLU_MYTICKET_fields, SLU_MYTICKET_AT_ONCE_win, SLU_MYTICKET_GEN_win, SLU_MYTICKET_ENTRY_win]
theorem SLU_RELEASE_fields_win : ∀ p ∈ SLU_RELEASE_fields, winBit p.2.key = 42 := by simp [SLU_RELEASE_fields, SLU_RELEASE_TICKET_win]
theorem SLU_REQ_fields_win : ∀ p ∈ SLU_REQ_fields, winBit p.2.key = 42 := by simp [SLU_REQ_fields, SLU_REQ_TARGET_win, SLU_REQ_CLASS_win, SLU_REQ_DURATION_win, SLU_REQ_CURRENT_win]
theorem SLU_STAT_fields_win : ∀ p ∈ SLU_STAT_fields, winBit p.2.key = 42 := by simp [SLU_STAT_fields, SLU_STAT_REFUSED_win, SLU_STAT_WAITING_win, SLU_STAT_GRANTED_win, SLU_STAT_GRANTABLE_win]
theorem SP_ECC_CTL_fields_win : ∀ p ∈ SP_ECC_CTL_fields, winBit p.2.key = 111 := by simp [SP_ECC_CTL_fields, SP_ECC_CTL_SCRUB_RATE_win, SP_ECC_CTL_LEAK_win, SP_ECC_CTL_BUCKET_win]
theorem SP_ECC_STAT_fields_win : ∀ p ∈ SP_ECC_STAT_fields, winBit p.2.key = 111 := by simp [SP_ECC_STAT_fields, SP_ECC_STAT_UNCORR_win, SP_ECC_STAT_CORR_win, SP_ECC_STAT_PASSES_win, SP_ECC_STAT_LEVEL_win, SP_ECC_STAT_OVERFLOW_win]
theorem SP_MARCH_RES_fields_win (i : Nat) : ∀ p ∈ SP_MARCH_RES_fields i, winBit p.2.key = 112 := by simp [SP_MARCH_RES_fields, SP_MARCH_RES_ONECOL_win, SP_MARCH_RES_COL_win, SP_MARCH_RES_FAILS_win]
theorem SP_MARCH_STAT_fields_win : ∀ p ∈ SP_MARCH_STAT_fields, winBit p.2.key = 112 := by simp [SP_MARCH_STAT_fields, SP_MARCH_STAT_FAILED_win, SP_MARCH_STAT_PASSED_win]
theorem SP_MARCH_fields_win : ∀ p ∈ SP_MARCH_fields, winBit p.2.key = 112 := by simp [SP_MARCH_fields, SP_MARCH_GO_win, SP_MARCH_PRESERVE_win, SP_MARCH_BANKS_win]
theorem SP_OWN_fields_win (i : Nat) : ∀ p ∈ SP_OWN_fields i, winBit p.2.key = 110 := by simp [SP_OWN_fields, SP_OWN_PENDING_win, SP_OWN_OWNER_win]
theorem SP_PASS_SUM_fields_win : ∀ p ∈ SP_PASS_SUM_fields, winBit p.2.key = 112 := by simp [SP_PASS_SUM_fields, SP_PASS_SUM_UNCORR_win, SP_PASS_SUM_CORR_win, SP_PASS_SUM_CHECKED_win]
theorem SP_PASS_fields_win : ∀ p ∈ SP_PASS_fields, winBit p.2.key = 112 := by simp [SP_PASS_fields, SP_PASS_GO_win, SP_PASS_BANK_win, SP_PASS_COUNT_win, SP_PASS_FIRST_win]
theorem SYS_PROFILE_fields_win : ∀ p ∈ SYS_PROFILE_fields, winBit p.2.key = 33 := by simp [SYS_PROFILE_fields, SYS_PROFILE_GO_win, SYS_PROFILE_RESULT_win, SYS_PROFILE_PENDING_win, SYS_PROFILE_CUR_win, SYS_PROFILE_REQ_win]
theorem TMO_PEND_fields_win (i : Nat) : ∀ p ∈ TMO_PEND_fields i, winBit p.2.key = 108 := by simp [TMO_PEND_fields, TMO_PEND_TMO_win]
theorem WD_CTL_fields_win (i : Nat) : ∀ p ∈ WD_CTL_fields i, winBit p.2.key = 105 := by simp [WD_CTL_fields, WD_CTL_EN_win, WD_CTL_PERIOD_win]
theorem WD_KICK_fields_win (i : Nat) : ∀ p ∈ WD_KICK_fields i, winBit p.2.key = 105 := by simp [WD_KICK_fields, WD_KICK_KEY_win]
theorem WEIR_CAL_BANKS_fields_win : ∀ p ∈ WEIR_CAL_BANKS_fields, winBit p.2.key = 67 := by simp [WEIR_CAL_BANKS_fields, WEIR_CAL_BANKS_BANKS_win]
theorem WEIR_CAL_CTL_fields_win : ∀ p ∈ WEIR_CAL_CTL_fields, winBit p.2.key = 67 := by simp [WEIR_CAL_CTL_fields, WEIR_CAL_CTL_SAVE_win, WEIR_CAL_CTL_GO_win]
theorem WEIR_CAL_ERR_fields_win (i : Nat) : ∀ p ∈ WEIR_CAL_ERR_fields i, winBit p.2.key = 67 := by simp [WEIR_CAL_ERR_fields, WEIR_CAL_ERR_CODE_win]
theorem WEIR_CAL_INFO_fields_win : ∀ p ∈ WEIR_CAL_INFO_fields, winBit p.2.key = 67 := by simp [WEIR_CAL_INFO_fields, WEIR_CAL_INFO_BUSY_win, WEIR_CAL_INFO_DIRTY_win, WEIR_CAL_INFO_SAVE_STATUS_win, WEIR_CAL_INFO_RECORD_OK_win]
theorem WEIR_CAL_STAT_fields_win : ∀ p ∈ WEIR_CAL_STAT_fields, winBit p.2.key = 67 := by simp [WEIR_CAL_STAT_fields, WEIR_CAL_STAT_FAILED_win, WEIR_CAL_STAT_DONE_win]
theorem WEIR_CH_CAL_fields_win (i : Nat) : ∀ p ∈ WEIR_CH_CAL_fields i, winBit p.2.key = 68 := by simp [WEIR_CH_CAL_fields, WEIR_CH_CAL_CAL_CMP_win, WEIR_CH_CAL_CAL_DRV_win]
theorem WEIR_CH_CORR_fields_win (i : Nat) : ∀ p ∈ WEIR_CH_CORR_fields i, winBit p.2.key = 68 := by simp [WEIR_CH_CORR_fields, WEIR_CH_CORR_CORR_CMP_win, WEIR_CH_CORR_CORR_DRV_win]
theorem WEIR_CH_CTL_fields_win (i : Nat) : ∀ p ∈ WEIR_CH_CTL_fields i, winBit p.2.key = 68 := by simp [WEIR_CH_CTL_fields, WEIR_CH_CTL_SENT_MAX_win, WEIR_CH_CTL_SENT_win, WEIR_CH_CTL_USE_win]
theorem WEIR_CH_EST_fields_win (i : Nat) : ∀ p ∈ WEIR_CH_EST_fields i, winBit p.2.key = 68 := by simp [WEIR_CH_EST_fields, WEIR_CH_EST_EST_CMP_win, WEIR_CH_EST_EST_DRV_win, WEIR_CH_EST_EDGES_CMP_win, WEIR_CH_EST_EDGES_DRV_win]
theorem WEIR_CH_STAT_fields_win (i : Nat) : ∀ p ∈ WEIR_CH_STAT_fields i, winBit p.2.key = 68 := by simp [WEIR_CH_STAT_fields, WEIR_CH_STAT_QUIET_win, WEIR_CH_STAT_SENT_LAST_win, WEIR_CH_STAT_UNCAL_win, WEIR_CH_STAT_LIMIT_CMP_win, WEIR_CH_STAT_LIMIT_DRV_win, WEIR_CH_STAT_SETTLING_win, WEIR_CH_STAT_STALE_win]
theorem WEIR_CTL_fields_win : ∀ p ∈ WEIR_CTL_fields, winBit p.2.key = 66 := by simp [WEIR_CTL_fields, WEIR_CTL_STALE_FRAMES_win, WEIR_CTL_DEADBAND_win, WEIR_CTL_RUN_win]
theorem WEIR_LIM_fields_win : ∀ p ∈ WEIR_LIM_fields, winBit p.2.key = 66 := by simp [WEIR_LIM_fields, WEIR_LIM_CORR_LIM_win]

end Sys2Proof.Machine
end

