-- ==== Sys2Proof/Laws/WithinOps.lean ====
section
/-! SUPPORT. What each operation of Machine/Ops.lean can reach (see Laws/Within.lean). -/
set_option Elab.async false
namespace Sys2Proof.Machine

theorem answerVal_within {A : Nat} {u : State} {v : Nat} {s : State} (hM : Sub 0x1 A) (h_s : Within A u s) :
    Within A u (answerVal v s) := by
  unfold answerVal
  refine Within.resp_ (Sub.bit hM (by decide)) ?_
  exact h_s

theorem inDuty_within {A : Nat} {u : State} {d : Nat} {p : Nat → Bool} {s : State} {f : State → Out} (hM : Sub 0x40 A) (hf : ∀ t, Within
    A u t → OutWithin A u (f t)) (h_s : Within A u s) :
    OutWithin A u (inDuty d p s f) := by
  unfold inDuty
  split
  · refine hf _ ?_
    exact Within.clock_ (Sub.bit hM (by decide)) h_s
  · exact OutWithin.next h_s

theorem answerBytes_within {A : Nat} {u : State} {b : List Byte} {s : State} (hM : Sub 0x1 A) (h_s : Within A u s) :
    Within A u (answerBytes b s) := by
  unfold answerBytes
  refine Within.resp_ (Sub.bit hM (by decide)) ?_
  exact h_s

theorem State.count_within {A : Nat} {u : State} {s : State} {f : Fld} {n : Nat} (_ : Sub 0x0 A) (h_f : InMask A f) (h_s : Within A u s) :
    Within A u (State.count s f n) := by
  unfold State.count
  refine set_within _ (h_f) ?_
  exact h_s

theorem State.clearFld_within {A : Nat} {u : State} {s : State} {f : Fld} (_ : Sub 0x0 A) (h_f : InMask A f) (h_s : Within A u s) :
    Within A u (State.clearFld s f) := by
  unfold State.clearFld
  refine set_within _ (h_f) ?_
  exact h_s

theorem ringPush_length (r : EvRec) {e : EventSt} (h : e.ring.length ≤ 1024) : (ringPush r e).ring.length ≤ 1024 := by
  unfold ringPush
  split
  · simpa using Nat.succ_le_of_lt (by assumption)
  · simp only [List.length_append, List.length_drop, List.length_singleton]
    omega

theorem raise_within {A : Nat} {u : State} {code : Nat} {items : List EvItem} {s : State} (hM : Sub 0xC A) (h_s : Within A u s) :
    Within A u (raise code items s) := by
  unfold raise
  extract_lets -merge -useContext +onlyGivenNames fit_0 trunc_1 w_2 s_3 w_4
  have hs_3 : Within A u s_3 := by
    refine Within.ite ?_ ?_
    · refine Within.trace_ (Sub.bit hM (by decide)) ?_
      exact h_s
    · exact h_s
  refine Within.ite ?_ ?_
  · exact Within.events_ (Sub.bit hM (by decide)) hs_3 (fun c => ringPush_length _ c)
  · refine Within.events_ (Sub.bit hM (by decide)) ?_
    exact hs_3

theorem State.setIf_within {A : Nat} {u : State} {s : State} {c : Bool} {f : Fld} {v : Nat} (_ : Sub 0x0 A) (h_f : InMask A f) (h_s :
    Within A u s) :
    Within A u (State.setIf s c f v) := by
  unfold State.setIf
  refine Within.ite ?_ ?_
  · refine set_within _ (h_f) ?_
    exact h_s
  · exact h_s

theorem noteSign_within {A : Nat} {u : State} {reason key : Nat} {s : State} (hM : Sub 0x8000000 A) (h_s : Within A u s) :
    Within A u (noteSign reason key s) := by
  unfold noteSign
  refine Within.leap_ (Sub.bit hM (by decide)) ?_
  exact h_s

theorem answer_within {A : Nat} {u : State} {st : Status} {s : State} (hM : Sub 0x1 A) (h_s : Within A u s) :
    Within A u (answer st s) := by
  unfold answer
  refine Within.resp_ (Sub.bit hM (by decide)) ?_
  exact h_s

theorem raiseOnce_within {A : Nat} {u : State} {code who : Nat} {items : List EvItem} {s : State} (hM : Sub 0xC A) (h_s : Within A u s) :
    Within A u (raiseOnce code who items s) := by
  unfold raiseOnce
  refine Within.ite ?_ ?_
  · exact h_s
  · refine raise_within (Sub.trans (by decide) hM) ?_
    refine Within.events_ (Sub.bit hM (by decide)) ?_
    exact h_s

theorem answered_within {A : Nat} {u : State} {r : Status × State} (hM : Sub 0x1 A) (h_r : Within A u r.2) :
    Within A u (answered r) := by
  unfold answered
  refine answer_within (Sub.trans (by decide) hM) ?_
  exact h_r

end Sys2Proof.Machine
end

