-- ==== Sys2Proof/Laws/WithinOperands.lean ====
section
/-! SUPPORT. What each operation of Machine/Operands.lean can reach (see Laws/Within.lean). -/
set_option Elab.async false
namespace Sys2Proof.Machine

theorem clearRc_within {A : Nat} {u : State} {l : List (Acc × Fld)} {s : State} (_ : Sub 0x0 A) (h_l : ∀ p ∈ l, InMask A p.2) (h_s :
    Within A u s) :
    Within A u (clearRc l s) := by
  unfold clearRc
  revert h_s
  revert s
  induction l with
  | nil => exact fun h => h
  | cons p r ih =>
    intro s h
    refine ih (fun q hq => h_l q (List.mem_cons_of_mem _ hq)) ?_
    beta_reduce
    split
    · exact set_within _ (h_l p List.mem_cons_self) h
    · exact h

theorem writeFld_within {A : Nat} {u : State} {a : Acc} {f : Fld} {v : Nat} {s : State} (_ : Sub 0x0 A) (h_f : InMask A f) (h_s : Within
    A u s) :
    Within A u (writeFld a f v s) := by
  unfold writeFld
  split
  · refine set_within _ (h_f) ?_
    exact h_s
  · refine set_within _ (h_f) ?_
    exact h_s
  · refine set_within _ (h_f) ?_
    exact h_s
  · exact h_s
  · exact h_s
  · exact h_s
  · exact h_s

theorem bucketHit_within {A : Nat} {u : State} {corr level full bkt : Fld} {code : Nat} {items : List EvItem} {s : State} (hM : Sub 0xC
    A) (h_corr : InMask A corr) (h_level : InMask A level) (h_full : InMask A full) (h_bkt : InMask A bkt) (h_s : Within A u s) :
    Within A u (bucketHit corr level full bkt code items s) := by
  unfold bucketHit
  extract_lets -merge -useContext +onlyGivenNames s_0
  have hs_0 : Within A u s_0 := by
    refine State.count_within (Sub.trans (by decide) hM) (h_corr) ?_
    exact h_s
  refine Within.ite ?_ ?_
  · refine raise_within (Sub.trans (by decide) hM) ?_
    refine set_within _ (h_level) ?_
    refine set_within _ (h_full) ?_
    exact hs_0
  · refine set_within _ (h_level) ?_
    exact hs_0

theorem atIngress_within {A : Nat} {u : State} {dom : Nat} {f : State → Status × State} {s : State} (_ : Sub 0x0 A) (h_f : ∀ y0, Within A
    u y0 → Within A u (f y0).2) (h_s : Within A u s) :
    Within A u (atIngress dom f s).2 := by
  unfold atIngress
  split
  · refine Within.snd1 ?_
    exact h_s
  · apply h_f
    exact h_s

theorem bucketLeak_within {A : Nat} {u : State} {level leak : Fld} {s : State} (_ : Sub 0x0 A) (h_level : InMask A level) (h_leak :
    InMask A leak) (h_s : Within A u s) :
    Within A u (bucketLeak level leak s) := by
  unfold bucketLeak
  refine set_within _ (h_level) ?_
  exact h_s

theorem writeFlds_within {A : Nat} {u : State} {l : List (Acc × Fld)} {v : Nat} {s : State} (hM : Sub 0x0 A) (h_l : ∀ p ∈ l, InMask A
    p.2) (h_s : Within A u s) :
    Within A u (writeFlds l v s) := by
  unfold writeFlds
  revert h_s
  revert s
  induction l with
  | nil => exact fun h => h
  | cons p r ih =>
    intro s h
    refine ih (fun q hq => h_l q (List.mem_cons_of_mem _ hq)) ?_
    exact writeFld_within (Sub.trans (by decide) hM) (h_l p List.mem_cons_self) h

end Sys2Proof.Machine
end

