-- ==== Sys2Proof/Laws/WithinCluster.lean ====
section
/-! SUPPORT. What each operation of Machine/Cluster.lean can reach (see Laws/Within.lean). -/
set_option Elab.async false
namespace Sys2Proof.Machine

theorem lockFree_within {A : Nat} {u : State} {k : Nat} {broken : Bool} {s : State} (hM : Sub 0x400000000000000000000000000 A) (h_s :
    Within A u s) :
    Within A u (lockFree k broken s) := by
  unfold lockFree
  refine set_within _ (inMask (LOCK_STAT_BROKEN_win _) (Sub.bit hM (by decide))) ?_
  refine set_within _ (inMask (LOCK_STAT_LEFT_win _) (Sub.bit hM (by decide))) ?_
  refine set_within _ (inMask (LOCK_STAT_HELD_win _) (Sub.bit hM (by decide))) ?_
  exact h_s

theorem wrSpMarch_within {A : Nat} {u : State} {a : Agent} {v : Nat} {s : State} (hM : Sub 0x10000000000000000000000400000 A) (h_s :
    Within A u s) :
    Within A u (wrSpMarch a v s).2 := by
  unfold wrSpMarch
  extract_lets -merge -useContext +onlyGivenNames l_0 w_1 w_2
  have hw_1 : Within A u w_1 := by
    refine writeFlds_within (Sub.trans (by decide) hM) (inMasks (SP_MARCH_fields_win) (Sub.bit hM (by decide))) ?_
    exact h_s
  refine Within.ite1 ?_ ?_
  · refine Within.snd1 ?_
    exact h_s
  · refine Within.ite1 ?_ ?_
    · refine Within.snd1 ?_
      refine writeFlds_within (Sub.trans (by decide) hM) (inMasks (SP_MARCH_fields_win) (Sub.bit hM (by decide))) ?_
      exact h_s
    · refine Within.ite1 ?_ ?_
      · refine Within.snd1 ?_
        exact h_s
      · refine Within.snd1 ?_
        refine Within.cluster_ (Sub.bit hM (by decide)) ?_
        exact hw_1

theorem execSpMarch_within {A : Nat} {u : State} {a : Agent} {v : Nat} {s : State} (hM : Sub 0x10000000000000000000000400001 A) (h_s :
    Within A u s) :
    OutWithin A u (execSpMarch a v s) := by
  unfold execSpMarch
  refine OutWithin.ok ?_
  refine answered_within (Sub.trans (by decide) hM) ?_
  refine wrSpMarch_within (Sub.trans (by decide) hM) ?_
  exact h_s

theorem setCrcReg_within {A : Nat} {u : State} {u_ v : Nat} {s : State} (hM : Sub 0x400000 A) (h_s : Within A u s) :
    Within A u (setCrcReg u_ v s) := by
  unfold setCrcReg
  refine Within.cluster_ (Sub.bit hM (by decide)) ?_
  exact h_s

theorem spZero_within {A : Nat} {u : State} {n : Nat} {s : State} (hM : Sub 0x400000 A) (h_s : Within A u s) :
    Within A u (spZero n s) := by
  unfold spZero
  refine Within.cluster_ (Sub.bit hM (by decide)) ?_
  exact h_s

theorem spMarchLoss_within {A : Nat} {u : State} {s : State} (hM : Sub 0x400000 A) (h_s : Within A u s) :
    Within A u (spMarchLoss s) := by
  unfold spMarchLoss
  refine Within.ite ?_ ?_
  · exact h_s
  · refine forEach_within ?_ _ ?_
    · intro y0 y1 hy2
      refine spZero_within (Sub.trans (by decide) hM) ?_
      exact hy2
    · exact h_s

theorem crcTake_within {A : Nat} {u : State} {u_ : Nat} {l : List Byte} {s : State} (hM : Sub 0x400000 A) (h_s : Within A u s) :
    Within A u (crcTake u_ l s) := by
  unfold crcTake
  extract_lets -merge -useContext +onlyGivenNames p_0
  refine setCrcReg_within (Sub.trans (by decide) hM) ?_
  exact h_s

theorem wrCrcData_within {A : Nat} {u : State} {u_ n v : Nat} {s : State} (hM : Sub 0x400000 A) (h_s : Within A u s) :
    Within A u (wrCrcData u_ n v s).2 := by
  unfold wrCrcData
  refine Within.ite1 ?_ ?_
  · refine Within.snd1 ?_
    exact h_s
  · refine Within.snd1 ?_
    refine crcTake_within (Sub.trans (by decide) hM) ?_
    exact h_s

theorem orphan_within {A : Nat} {u : State} {i : Nat} {s : State} (hM : Sub 0x800000000000000000000000000 A) (h_s : Within A u s) :
    Within A u (orphan i s) := by
  unfold orphan
  refine forNat_within ?_ _ ?_
  · intro y0 y1 hy2
    beta_reduce
    refine Within.ite ?_ ?_
    · refine set_within _ (inMask (MBX_STAT_SEPOCH_win _) (Sub.bit hM (by decide))) ?_
      refine set_within _ (inMask (MBX_STAT_ORPHAN_win _) (Sub.bit hM (by decide))) ?_
      exact hy2
    · exact hy2
  · exact h_s

theorem breakLocks_within {A : Nat} {u : State} {i : Nat} {s : State} (hM : Sub 0x40000000000000000000000000C A) (h_s : Within A u s) :
    Within A u (breakLocks i s) := by
  unfold breakLocks
  refine forNat_within ?_ _ ?_
  · intro y0 y1 hy2
    beta_reduce
    refine Within.ite ?_ ?_
    · refine raise_within (Sub.trans (by decide) hM) ?_
      refine lockFree_within (Sub.trans (by decide) hM) ?_
      exact hy2
    · exact hy2
  · exact h_s

theorem bumpEpoch_within {A : Nat} {u : State} {i : Nat} {s : State} (hM : Sub 0x100000000000000000000000000 A) (h_s : Within A u s) :
    Within A u (bumpEpoch i s) := by
  unfold bumpEpoch
  refine set_within _ (inMask (EPOCH_EPOCH_win _) (Sub.bit hM (by decide))) ?_
  exact h_s

theorem initReset_within {A : Nat} {u : State} {i : Nat} {s : State} (hM : Sub 0xD0000000000000000000000000C A) (h_s : Within A u s) :
    Within A u (initReset i s) := by
  unfold initReset
  refine orphan_within (Sub.trans (by decide) hM) ?_
  refine breakLocks_within (Sub.trans (by decide) hM) ?_
  refine bumpEpoch_within (Sub.trans (by decide) hM) ?_
  exact h_s

theorem ring_within {A : Nat} {u : State} {c b : Nat} {s : State} (hM : Sub 0x1000000000000000000000000000 A) (h_s : Within A u s) :
    Within A u (ring c b s) := by
  unfold ring
  refine set_within _ (inMask (DB_PEND_PEND_win _) (Sub.bit hM (by decide))) ?_
  exact h_s

theorem mbxAck_within {A : Nat} {u : State} {m : Nat} {s : State} (hM : Sub 0x1800000000000000000000000000 A) (h_s : Within A u s) :
    Within A u (mbxAck m s) := by
  unfold mbxAck
  refine Within.ite ?_ ?_
  · exact h_s
  · extract_lets -merge -useContext +onlyGivenNames i_0 t_1
    have ht_1 : Within A u t_1 := by
      refine set_within _ (inMask (MBX_CTL_GO_win _) (Sub.bit hM (by decide))) ?_
      refine set_within _ (inMask (MBX_STAT_FULL_win _) (Sub.bit hM (by decide))) ?_
      exact h_s
    refine Within.ite ?_ ?_
    · refine ring_within (Sub.trans (by decide) hM) ?_
      exact ht_1
    · exact ht_1

theorem mbxPost_within {A : Nat} {u : State} {i m : Nat} {s : State} (hM : Sub 0x1800000000000000000000000000 A) (h_s : Within A u s) :
    Within A u (mbxPost i m s) := by
  unfold mbxPost
  extract_lets -merge -useContext +onlyGivenNames s_0 s_1
  have hs_0 : Within A u s_0 := by
    refine set_within _ (inMask (MBX_STAT_SEPOCH_win _) (Sub.bit hM (by decide))) ?_
    refine set_within _ (inMask (MBX_STAT_SENDER_win _) (Sub.bit hM (by decide))) ?_
    refine set_within _ (inMask (MBX_STAT_FULL_win _) (Sub.bit hM (by decide))) ?_
    refine set_within _ (inMask (MBX_CTL_GO_win _) (Sub.bit hM (by decide))) ?_
    exact h_s
  have hs_1 : Within A u s_1 := by
    refine set_within _ (inMask (MBX_STAT_TIMED_OUT_win _) (Sub.bit hM (by decide))) ?_
    refine set_within _ (inMask (MBX_STAT_ORPHAN_win _) (Sub.bit hM (by decide))) ?_
    refine set_within _ (inMask (MBX_STAT_AGE_win _) (Sub.bit hM (by decide))) ?_
    exact hs_0
  refine ring_within (Sub.trans (by decide) hM) ?_
  exact hs_1

theorem wrMbxCtl_within {A : Nat} {u : State} {a : Agent} {m v : Nat} {s : State} (hM : Sub 0x1800000000000000000000000000 A) (h_s :
    Within A u s) :
    Within A u (wrMbxCtl a m v s).2 := by
  unfold wrMbxCtl
  extract_lets -merge -useContext +onlyGivenNames i_0 ack_1 go_2 full_3 t_4
  have ht_4 : Within A u t_4 := by
    refine set_within _ (inMask (MBX_CTL_TMO_win _) (Sub.bit hM (by decide))) ?_
    refine set_within _ (inMask (MBX_CTL_RECEIVER_win _) (Sub.bit hM (by decide))) ?_
    exact h_s
  refine Within.ite1 ?_ ?_
  · refine Within.snd1 ?_
    exact h_s
  · refine Within.ite1 ?_ ?_
    · refine Within.snd1 ?_
      exact h_s
    · refine Within.ite1 ?_ ?_
      · refine Within.snd1 ?_
        exact h_s
      · refine Within.ite1 ?_ ?_
        · refine Within.snd1 ?_
          refine Within.ite ?_ ?_
          · refine mbxAck_within (Sub.trans (by decide) hM) ?_
            exact h_s
          · exact h_s
        · refine Within.snd1 ?_
          refine Within.ite ?_ ?_
          · refine mbxPost_within (Sub.trans (by decide) hM) ?_
            exact ht_4
          · exact ht_4

theorem execMailboxPost_within {A : Nat} {u : State} {a : Agent} {m : Fin 16} {s : State} (hM : Sub 0x1800000000000000000000000001 A)
    (h_s : Within A u s) :
    OutWithin A u (execMailboxPost a m s) := by
  unfold execMailboxPost
  refine OutWithin.ok ?_
  refine answered_within (Sub.trans (by decide) hM) ?_
  refine wrMbxCtl_within (Sub.trans (by decide) hM) ?_
  exact h_s

theorem wrCrcFold_within {A : Nat} {u : State} {u_ v : Nat} {s : State} (hM : Sub 0x400000 A) (h_s : Within A u s) :
    Within A u (wrCrcFold u_ v s).2 := by
  unfold wrCrcFold
  refine Within.ite1 ?_ ?_
  · refine Within.snd1 ?_
    refine crcTake_within (Sub.trans (by decide) hM) ?_
    refine Within.cluster_ (Sub.bit hM (by decide)) ?_
    exact h_s
  · refine Within.snd1 ?_
    exact h_s

theorem spLose_within {A : Nat} {u : State} {n : Nat} {s : State} (hM : Sub 0x400000 A) (h_s : Within A u s) :
    Within A u (spLose n s) := by
  unfold spLose
  extract_lets -merge -useContext +onlyGivenNames s_0 w_1
  have hs_0 : Within A u s_0 := by
    refine spZero_within (Sub.trans (by decide) hM) ?_
    exact h_s
  refine Within.cluster_ (Sub.bit hM (by decide)) ?_
  exact hs_0

theorem spPairLeave_within {A : Nat} {u : State} {p : Nat} {s : State} (hM : Sub 0x10000000000000000000000400000 A) (h_s : Within A u s) :
    Within A u (spPairLeave p s) := by
  unfold spPairLeave
  extract_lets -merge -useContext +onlyGivenNames l_0 s_1 w_2 s_3
  have hs_1 : Within A u s_1 := by
    refine Within.ite ?_ ?_
    · exact h_s
    · refine forEach_within ?_ _ ?_
      · intro y4 y5 hy6
        refine spLose_within (Sub.trans (by decide) hM) ?_
        exact hy6
      · exact h_s
  have hs_3 : Within A u s_3 := by
    refine Within.cluster_ (Sub.bit hM (by decide)) ?_
    exact hs_1
  refine State.setIf_within (Sub.trans (by decide) hM) (inMask (SP_PASS_GO_win) (Sub.bit hM (by decide))) ?_
  exact hs_3

theorem wrPatchData_within {A : Nat} {u : State} {a : Agent} {p v : Nat} {s : State} (hM : Sub 0x20000000000000000000000000000 A) (h_s :
    Within A u s) :
    Within A u (wrPatchData a p v s).2 := by
  unfold wrPatchData
  refine Within.ite1 ?_ ?_
  · refine Within.snd1 ?_
    exact h_s
  · refine Within.snd1 ?_
    refine writeFlds_within (Sub.trans (by decide) hM) (inMasks (PATCH_DATA_fields_win _) (Sub.bit hM (by decide))) ?_
    exact h_s

theorem wrCrcCfg_within {A : Nat} {u : State} {u_ v : Nat} {s : State} (hM : Sub 0x2000000000000000000000400000 A) (h_s : Within A u s) :
    Within A u (wrCrcCfg u_ v s).2 := by
  unfold wrCrcCfg
  extract_lets -merge -useContext +onlyGivenNames s_0 p_1 seed_2 r_3 l_4 w_5
  have hs_0 : Within A u s_0 := by
    refine writeFlds_within (Sub.trans (by decide) hM) (inMasks (CRC_CFG_fields_win _) (Sub.bit hM (by decide))) ?_
    exact h_s
  refine Within.snd1 ?_
  refine setCrcReg_within (Sub.trans (by decide) hM) ?_
  refine Within.cluster_ (Sub.bit hM (by decide)) ?_
  exact hs_0

theorem spSettle_within {A : Nat} {u : State} {n : Nat} {s : State} (hM : Sub 0x4000000000000000000000400001 A) (h_s : Within A u s) :
    Within A u (spSettle n s) := by
  unfold spSettle
  extract_lets -merge -useContext +onlyGivenNames open__0 l_1 w_2 s_3
  have hs_3 : Within A u s_3 := by
    refine Within.cluster_ (Sub.bit hM (by decide)) ?_
    exact h_s
  refine Within.ite ?_ ?_
  · refine answer_within (Sub.trans (by decide) hM) ?_
    refine set_within _ (inMask (SP_OWN_PENDING_win _) (Sub.bit hM (by decide))) ?_
    exact hs_3
  · exact hs_3

theorem spStore_within {A : Nat} {u : State} {n w v : Nat} {s : State} (hM : Sub 0x400000 A) (h_s : Within A u s) :
    Within A u (spStore n w v s) := by
  unfold spStore
  extract_lets -merge -useContext +onlyGivenNames k_0 w_1
  refine Within.cluster_ (Sub.bit hM (by decide)) ?_
  exact h_s

theorem spUncorr_within {A : Nat} {u : State} {n w who : Nat} {s : State} (hM : Sub 0x800000000000000000000000000C A) (h_s : Within A u s) :
    Within A u (spUncorr n w who s) := by
  unfold spUncorr
  refine raise_within (Sub.trans (by decide) hM) ?_
  refine State.count_within (Sub.trans (by decide) hM) (inMask (SP_ECC_STAT_UNCORR_win) (Sub.bit hM (by decide))) ?_
  exact h_s

theorem spCorr_within {A : Nat} {u : State} {s : State} (hM : Sub 0x800000000000000000000040000C A) (h_s : Within A u s) :
    Within A u (spCorr s) := by
  unfold spCorr
  refine bucketHit_within (Sub.trans (by decide) hM) (inMask (SP_ECC_STAT_CORR_win) (Sub.bit hM (by decide))) (inMask (SP_ECC_STAT_LEVEL_win) (Sub.bit hM (by decide))) (inMask (SP_ECC_STAT_OVERFLOW_win) (Sub.bit hM (by decide))) (inMask (SP_ECC_CTL_BUCKET_win) (Sub.bit hM (by decide))) ?_
  refine Within.cluster_ (Sub.bit hM (by decide)) ?_
  exact h_s

theorem spCheck_within {A : Nat} {u : State} {n w who : Nat} {u_ : Ecc} {s : State} (hM : Sub 0x800000000000000000000040000C A) (h_s :
    Within A u s) :
    Within A u (spCheck n w who u_ s).2 := by
  unfold spCheck
  extract_lets -merge -useContext +onlyGivenNames k_0 w_1 s_2
  have hs_2 : Within A u s_2 := by
    refine Within.ite ?_ ?_
    · refine Within.cluster_ (Sub.bit hM (by decide)) ?_
      exact h_s
    · exact h_s
  refine Within.ite1 ?_ ?_
  · refine Within.snd1 ?_
    refine spUncorr_within (Sub.trans (by decide) hM) ?_
    exact hs_2
  · refine Within.snd1 ?_
    refine Within.ite ?_ ?_
    · refine spCorr_within (Sub.trans (by decide) hM) ?_
      exact hs_2
    · exact hs_2

theorem spRead_within {A : Nat} {u : State} {i addr width id : Nat} {u_ : Ecc} {s : State} (hM : Sub 0x800000000000000000000040000C A)
    (h_s : Within A u s) :
    Within A u (spRead i addr width id u_ s).2.2 := by
  unfold spRead
  extract_lets -merge -useContext +onlyGivenNames n_0
  split
  · refine Within.snd2 ?_
    exact h_s
  · refine Within.ite2 ?_ ?_
    · refine Within.snd2 ?_
      exact h_s
    · split
      · refine Within.snd2 ?_
        refine Within.of_eq (q := (_, _)) (by assumption) ?_
        refine spCheck_within (Sub.trans (by decide) hM) ?_
        exact h_s
      · refine Within.snd2 ?_
        refine Within.of_eq (q := (_, _)) (by assumption) ?_
        refine spCheck_within (Sub.trans (by decide) hM) ?_
        exact h_s

theorem wrWdKick_within {A : Nat} {u : State} {a : Agent} {c v : Nat} {s : State} (hM : Sub 0x200000000000000000000000000 A) (h_s :
    Within A u s) :
    Within A u (wrWdKick a c v s).2 := by
  unfold wrWdKick
  refine Within.ite1 ?_ ?_
  · refine Within.snd1 ?_
    exact h_s
  · refine Within.snd1 ?_
    refine State.setIf_within (Sub.trans (by decide) hM) (inMask (CORE_STAT_WD_LEFT_win _) (Sub.bit hM (by decide))) ?_
    exact h_s

theorem execCrcFeed_within {A : Nat} {u : State} {_a : Agent} {u_ : Fin 8} {w : FeedWidth} {v : Nat} {s : State} (hM : Sub 0x400001 A)
    (h_s : Within A u s) :
    OutWithin A u (execCrcFeed _a u_ w v s) := by
  unfold execCrcFeed
  refine OutWithin.ok ?_
  refine answered_within (Sub.trans (by decide) hM) ?_
  refine wrCrcData_within (Sub.trans (by decide) hM) ?_
  exact h_s

theorem wrLockCtl_within {A : Nat} {u : State} {a : Agent} {k v : Nat} {s : State} (hM : Sub 0x400000000000000000000000000 A) (h_s :
    Within A u s) :
    Within A u (wrLockCtl a k v s).2 := by
  unfold wrLockCtl
  extract_lets -merge -useContext +onlyGivenNames i_0 acq_1 rel_2 lease_3
  refine Within.ite1 ?_ ?_
  · refine Within.snd1 ?_
    exact h_s
  · refine Within.ite1 ?_ ?_
    · refine Within.ite1 ?_ ?_
      · refine Within.snd1 ?_
        exact h_s
      · refine Within.ite1 ?_ ?_
        · refine Within.snd1 ?_
          refine set_within _ (inMask (LOCK_STAT_LEFT_win _) (Sub.bit hM (by decide))) ?_
          exact h_s
        · refine Within.ite1 ?_ ?_
          · refine Within.snd1 ?_
            exact h_s
          · refine Within.snd1 ?_
            refine set_within _ (inMask (LOCK_STAT_LEFT_win _) (Sub.bit hM (by decide))) ?_
            refine set_within _ (inMask (LOCK_STAT_OEPOCH_win _) (Sub.bit hM (by decide))) ?_
            refine set_within _ (inMask (LOCK_STAT_OWNER_win _) (Sub.bit hM (by decide))) ?_
            refine set_within _ (inMask (LOCK_STAT_HELD_win _) (Sub.bit hM (by decide))) ?_
            exact h_s
    · refine Within.ite1 ?_ ?_
      · refine Within.ite1 ?_ ?_
        · refine Within.snd1 ?_
          refine lockFree_within (Sub.trans (by decide) hM) ?_
          exact h_s
        · refine Within.snd1 ?_
          exact h_s
      · refine Within.snd1 ?_
        exact h_s

theorem wrMbxData_within {A : Nat} {u : State} {m j v : Nat} {s : State} (hM : Sub 0x800000000000000000000000000 A) (h_s : Within A u s) :
    Within A u (wrMbxData m j v s).2 := by
  unfold wrMbxData
  refine Within.ite1 ?_ ?_
  · refine Within.snd1 ?_
    exact h_s
  · refine Within.snd1 ?_
    refine writeFlds_within (Sub.trans (by decide) hM) (inMasks (MBX_DATA_fields_win _ _) (Sub.bit hM (by decide))) ?_
    exact h_s

theorem execMailboxDataWrite_within {A : Nat} {u : State} {_a : Agent} {m j : Fin 16} {v : Nat} {s : State} (hM : Sub
    0x800000000000000000000000001 A) (h_s : Within A u s) :
    OutWithin A u (execMailboxDataWrite _a m j v s) := by
  unfold execMailboxDataWrite
  refine OutWithin.ok ?_
  refine answered_within (Sub.trans (by decide) hM) ?_
  refine wrMbxData_within (Sub.trans (by decide) hM) ?_
  exact h_s

theorem wrSpPass_within {A : Nat} {u : State} {a : Agent} {v : Nat} {s : State} (hM : Sub 0x10000000000000000000000400000 A) (h_s :
    Within A u s) :
    Within A u (wrSpPass a v s).2 := by
  unfold wrSpPass
  refine Within.ite1 ?_ ?_
  · refine Within.snd1 ?_
    exact h_s
  · refine Within.ite1 ?_ ?_
    · refine Within.snd1 ?_
      refine writeFlds_within (Sub.trans (by decide) hM) (inMasks (SP_PASS_fields_win) (Sub.bit hM (by decide))) ?_
      exact h_s
    · refine Within.ite1 ?_ ?_
      · refine Within.snd1 ?_
        exact h_s
      · refine Within.ite1 ?_ ?_
        · refine Within.snd1 ?_
          exact h_s
        · refine Within.snd1 ?_
          extract_lets -merge -useContext +onlyGivenNames w_0 w_1
          have hw_0 : Within A u w_0 := by
            refine writeFlds_within (Sub.trans (by decide) hM) (inMasks (SP_PASS_fields_win) (Sub.bit hM (by decide))) ?_
            exact h_s
          refine Within.cluster_ (Sub.bit hM (by decide)) ?_
          exact hw_0

theorem execSpSecurePass_within {A : Nat} {u : State} {a : Agent} {v : Nat} {s : State} (hM : Sub 0x10000000000000000000000400001 A) (h_s
    : Within A u s) :
    OutWithin A u (execSpSecurePass a v s) := by
  unfold execSpSecurePass
  refine OutWithin.ok ?_
  refine answered_within (Sub.trans (by decide) hM) ?_
  refine wrSpPass_within (Sub.trans (by decide) hM) ?_
  exact h_s

theorem execSecureWipeEnd_within {A : Nat} {u : State} {s : State} (hM : Sub 0x40000C A) (h_s : Within A u s) :
    OutWithin A u (execSecureWipeEnd s) := by
  unfold execSecureWipeEnd
  split
  · refine OutWithin.ok ?_
    exact h_s
  · refine OutWithin.ok ?_
    refine raise_within (Sub.trans (by decide) hM) ?_
    refine Within.cluster_ (Sub.bit hM (by decide)) ?_
    exact h_s

theorem clusterDomLeave_within {A : Nat} {u : State} {n : Nat} {s : State} (hM : Sub 0x100000000000000000000000000 A) (h_s : Within A u s) :
    Within A u (clusterDomLeave n s) := by
  unfold clusterDomLeave
  refine forEach_within ?_ _ ?_
  · intro y0 y1 hy2
    refine bumpEpoch_within (Sub.trans (by decide) hM) ?_
    exact hy2
  · exact h_s

theorem wrPatchAddr_within {A : Nat} {u : State} {a : Agent} {p v : Nat} {s : State} (hM : Sub 0x20000000000000000000000000000 A) (h_s :
    Within A u s) :
    Within A u (wrPatchAddr a p v s).2 := by
  unfold wrPatchAddr
  extract_lets -merge -useContext +onlyGivenNames w_0
  refine Within.ite1 ?_ ?_
  · refine Within.snd1 ?_
    exact h_s
  · refine Within.ite1 ?_ ?_
    · refine Within.snd1 ?_
      exact h_s
    · refine Within.snd1 ?_
      refine writeFlds_within (Sub.trans (by decide) hM) (inMasks (PATCH_ADDR_fields_win _) (Sub.bit hM (by decide))) ?_
      exact h_s

theorem clusterDomReset_within {A : Nat} {u : State} {n : Nat} {s : State} (hM : Sub 0xD0000000000000000000000000C A) (h_s : Within A u s) :
    Within A u (clusterDomReset n s) := by
  unfold clusterDomReset
  refine forEach_within ?_ _ ?_
  · intro y0 y1 hy2
    refine initReset_within (Sub.trans (by decide) hM) ?_
    exact hy2
  · exact h_s

theorem wrClusterPlain_within {A : Nat} {u : State} {l : List (Acc × Fld)} {a : Agent} {v : Nat} {s : State} (hM : Sub 0x0 A) (h_l : ∀ p
    ∈ l, InMask A p.2) (h_s : Within A u s) :
    Within A u (wrClusterPlain l a v s).2 := by
  unfold wrClusterPlain
  refine Within.ite1 ?_ ?_
  · refine Within.snd1 ?_
    exact h_s
  · refine Within.snd1 ?_
    refine writeFlds_within (Sub.trans (by decide) hM) h_l ?_
    exact h_s

theorem spWrite_within {A : Nat} {u : State} {i addr width v id : Nat} {u_ : Ecc} {s : State} (hM : Sub 0x800000000000000000000040000C A)
    (h_s : Within A u s) :
    Within A u (spWrite i addr width v id u_ s).2 := by
  unfold spWrite
  extract_lets -merge -useContext +onlyGivenNames n_0
  split
  · refine Within.snd1 ?_
    exact h_s
  · refine Within.ite1 ?_ ?_
    · refine Within.snd1 ?_
      exact h_s
    · refine Within.ite1 ?_ ?_
      · refine Within.snd1 ?_
        refine spStore_within (Sub.trans (by decide) hM) ?_
        exact h_s
      · split
        · refine Within.snd1 ?_
          refine Within.of_eq (q := (_, _)) (by assumption) ?_
          refine spCheck_within (Sub.trans (by decide) hM) ?_
          exact h_s
        · refine Within.snd1 ?_
          refine spStore_within (Sub.trans (by decide) hM) ?_
          refine Within.of_eq (q := (_, _)) (by assumption) ?_
          refine spCheck_within (Sub.trans (by decide) hM) ?_
          exact h_s

theorem execLockRelease_within {A : Nat} {u : State} {a : Agent} {k : Fin 64} {s : State} (hM : Sub 0x400000000000000000000000001 A) (h_s
    : Within A u s) :
    OutWithin A u (execLockRelease a k s) := by
  unfold execLockRelease
  refine OutWithin.ok ?_
  refine answered_within (Sub.trans (by decide) hM) ?_
  refine wrLockCtl_within (Sub.trans (by decide) hM) ?_
  exact h_s

theorem clusterTick_within {A : Nat} {u : State} {s : State} (hM : Sub 0x8E00000000000000000000400000 A) (h_s : Within A u s) :
    Within A u (clusterTick s) := by
  unfold clusterTick
  extract_lets -merge -useContext +onlyGivenNames s_0 s_1 s_2 s_3 w_4
  have hs_0 : Within A u s_0 := by
    refine forNat_within ?_ _ ?_
    · intro y5 y6 hy7
      beta_reduce
      refine Within.ite ?_ ?_
      · refine State.count_within (Sub.trans (by decide) hM) (inMask (MBX_STAT_AGE_win _) (Sub.bit hM (by decide))) ?_
        exact hy7
      · exact hy7
    · exact h_s
  have hs_1 : Within A u s_1 := by
    refine forNat_within ?_ _ ?_
    · intro y8 y9 hy10
      beta_reduce
      refine Within.ite ?_ ?_
      · refine set_within _ (inMask (LOCK_STAT_LEFT_win _) (Sub.bit hM (by decide))) ?_
        exact hy10
      · exact hy10
    · exact hs_0
  have hs_2 : Within A u s_2 := by
    refine forNat_within ?_ _ ?_
    · intro y11 y12 hy13
      beta_reduce
      refine Within.ite ?_ ?_
      · refine set_within _ (inMask (CORE_STAT_WD_LEFT_win _) (Sub.bit hM (by decide))) ?_
        exact hy13
      · exact hy13
    · exact hs_1
  have hs_3 : Within A u s_3 := by
    refine bucketLeak_within (Sub.trans (by decide) hM) (inMask (SP_ECC_STAT_LEVEL_win) (Sub.bit hM (by decide))) (inMask (SP_ECC_CTL_LEAK_win) (Sub.bit hM (by decide))) ?_
    exact hs_2
  refine Within.cluster_ (Sub.bit hM (by decide)) ?_
  exact hs_3

theorem wrWdCtl_within {A : Nat} {u : State} {a : Agent} {c v : Nat} {s : State} (hM : Sub 0x200000000000000000000000000 A) (h_s : Within
    A u s) :
    Within A u (wrWdCtl a c v s).2 := by
  unfold wrWdCtl
  extract_lets -merge -useContext +onlyGivenNames p_0 start_1
  refine Within.ite1 ?_ ?_
  · refine Within.snd1 ?_
    exact h_s
  · refine Within.ite1 ?_ ?_
    · refine Within.snd1 ?_
      exact h_s
    · refine Within.snd1 ?_
      refine State.setIf_within (Sub.trans (by decide) hM) (inMask (CORE_STAT_WD_LEFT_win _) (Sub.bit hM (by decide))) ?_
      refine writeFlds_within (Sub.trans (by decide) hM) (inMasks (WD_CTL_fields_win _) (Sub.bit hM (by decide))) ?_
      exact h_s

theorem spPassEnd_within {A : Nat} {u : State} {singles : Nat} {s : State} (hM : Sub 0x1800000000000000000000040000C A) (h_s : Within A u
    s) :
    Within A u (spPassEnd singles s) := by
  unfold spPassEnd
  split
  · extract_lets -merge -useContext +onlyGivenNames lo_0 l_1 x_2 s_3 s_4
    have hs_3 : Within A u s_3 := by
      refine forEach_within ?_ _ ?_
      · intro y5 y6 hy7
        beta_reduce
        refine spUncorr_within (Sub.trans (by decide) hM) ?_
        exact hy7
      · refine forNat_within ?_ _ ?_
        · intro y8 y9 hy10
          beta_reduce
          refine spCorr_within (Sub.trans (by decide) hM) ?_
          exact hy10
        · exact h_s
    have hs_4 : Within A u s_4 := by
      refine set_within _ (inMask (SP_PASS_SUM_CHECKED_win) (Sub.bit hM (by decide))) ?_
      refine set_within _ (inMask (SP_PASS_SUM_CORR_win) (Sub.bit hM (by decide))) ?_
      refine set_within _ (inMask (SP_PASS_SUM_UNCORR_win) (Sub.bit hM (by decide))) ?_
      exact hs_3
    refine raise_within (Sub.trans (by decide) hM) ?_
    refine set_within _ (inMask (SP_PASS_GO_win) (Sub.bit hM (by decide))) ?_
    exact hs_4

theorem execSpSecurePassEnd_within {A : Nat} {u : State} {singles : Nat} {s : State} (hM : Sub 0x1800000000000000000000040000C A) (h_s :
    Within A u s) :
    OutWithin A u (execSpSecurePassEnd singles s) := by
  unfold execSpSecurePassEnd
  refine OutWithin.whenOk ?_ ?_
  · exact h_s
  · refine spPassEnd_within (Sub.trans (by decide) hM) ?_
    exact h_s

theorem execMailboxTimeout_within {A : Nat} {u : State} {m : Fin 16} {s : State} (hM : Sub 0x180000000000000000000000000C A) (h_s :
    Within A u s) :
    OutWithin A u (execMailboxTimeout m s) := by
  unfold execMailboxTimeout
  extract_lets -merge -useContext +onlyGivenNames i_0 t_1 t_2
  have ht_1 : Within A u t_1 := by
    refine set_within _ (inMask (MBX_STAT_TIMED_OUT_win _) (Sub.bit hM (by decide))) ?_
    exact h_s
  have ht_2 : Within A u t_2 := by
    refine Within.ite ?_ ?_
    · refine set_within _ (inMask (TMO_PEND_TMO_win _) (Sub.bit hM (by decide))) ?_
      exact ht_1
    · exact ht_1
  refine OutWithin.whenOk ?_ ?_
  · exact h_s
  · refine raise_within (Sub.trans (by decide) hM) ?_
    exact ht_2

theorem marchBank_within {A : Nat} {u : State} {l : List MarchResult} {n : Nat} {s : State} (hM : Sub 0x10000000000000000000000000000 A)
    (h_s : Within A u s) :
    Within A u (marchBank l n s) := by
  unfold marchBank
  split
  · refine Within.ite ?_ ?_
    · refine set_within _ (inMask (SP_MARCH_STAT_PASSED_win) (Sub.bit hM (by decide))) ?_
      refine set_within _ (inMask (SP_MARCH_RES_FAILS_win _) (Sub.bit hM (by decide))) ?_
      refine set_within _ (inMask (SP_MARCH_RES_COL_win _) (Sub.bit hM (by decide))) ?_
      refine set_within _ (inMask (SP_MARCH_RES_ONECOL_win _) (Sub.bit hM (by decide))) ?_
      exact h_s
    · refine set_within _ (inMask (SP_MARCH_STAT_FAILED_win) (Sub.bit hM (by decide))) ?_
      refine set_within _ (inMask (SP_MARCH_RES_FAILS_win _) (Sub.bit hM (by decide))) ?_
      refine set_within _ (inMask (SP_MARCH_RES_COL_win _) (Sub.bit hM (by decide))) ?_
      refine set_within _ (inMask (SP_MARCH_RES_ONECOL_win _) (Sub.bit hM (by decide))) ?_
      exact h_s
  · refine set_within _ (inMask (SP_MARCH_STAT_PASSED_win) (Sub.bit hM (by decide))) ?_
    refine set_within _ (inMask (SP_MARCH_RES_FAILS_win _) (Sub.bit hM (by decide))) ?_
    refine set_within _ (inMask (SP_MARCH_RES_COL_win _) (Sub.bit hM (by decide))) ?_
    refine set_within _ (inMask (SP_MARCH_RES_ONECOL_win _) (Sub.bit hM (by decide))) ?_
    exact h_s

theorem marchEnd_within {A : Nat} {u : State} {l : List MarchResult} {s : State} (hM : Sub 0x1000000000000000000000040000C A) (h_s :
    Within A u s) :
    Within A u (marchEnd l s) := by
  unfold marchEnd
  extract_lets -merge -useContext +onlyGivenNames s_0 s_1 w_2 w_3
  have hs_0 : Within A u s_0 := by
    refine set_within _ (inMask (SP_MARCH_STAT_PASSED_win) (Sub.bit hM (by decide))) ?_
    refine spMarchLoss_within (Sub.trans (by decide) hM) ?_
    exact h_s
  have hs_1 : Within A u s_1 := by
    refine forEach_within ?_ _ ?_
    · intro y4 y5 hy6
      refine marchBank_within (Sub.trans (by decide) hM) ?_
      exact hy6
    · refine set_within _ (inMask (SP_MARCH_STAT_FAILED_win) (Sub.bit hM (by decide))) ?_
      exact hs_0
  have hw_2 : Within A u w_2 := by
    refine set_within _ (inMask (SP_MARCH_GO_win) (Sub.bit hM (by decide))) ?_
    exact hs_1
  refine raise_within (Sub.trans (by decide) hM) ?_
  refine Within.cluster_ (Sub.bit hM (by decide)) ?_
  exact hw_2

theorem execMarchEnd_within {A : Nat} {u : State} {l : List MarchResult} {s : State} (hM : Sub 0x1000000000000000000000040000C A) (h_s :
    Within A u s) :
    OutWithin A u (execMarchEnd l s) := by
  unfold execMarchEnd
  refine OutWithin.whenOk ?_ ?_
  · exact h_s
  · refine marchEnd_within (Sub.trans (by decide) hM) ?_
    exact h_s

theorem clusterCoreReset_within {A : Nat} {u : State} {c : Nat} {s : State} (hM : Sub 0x1F0000000000000000000040000C A) (h_s : Within A u
    s) :
    Within A u (clusterCoreReset c s) := by
  unfold clusterCoreReset
  extract_lets -merge -useContext +onlyGivenNames s_0 s_1 w_2
  have hs_0 : Within A u s_0 := by
    refine State.clearFld_within (Sub.trans (by decide) hM) (inMask (DB_MASK_MASK_win _) (Sub.bit hM (by decide))) ?_
    refine initReset_within (Sub.trans (by decide) hM) ?_
    exact h_s
  have hs_1 : Within A u s_1 := by
    refine set_within _ (inMask (CORE_STAT_WD_LEFT_win _) (Sub.bit hM (by decide))) ?_
    refine set_within _ (inMask (WD_CTL_EN_win _) (Sub.bit hM (by decide))) ?_
    exact hs_0
  refine Within.cluster_ (Sub.bit hM (by decide)) ?_
  exact hs_1

theorem wrSpOwn_within {A : Nat} {u : State} {a : Agent} {n v : Nat} {s : State} (hM : Sub 0x400000000000000000000040000D A) (h_s :
    Within A u s) :
    Within A u (wrSpOwn a n v s).2 := by
  unfold wrSpOwn
  extract_lets -merge -useContext +onlyGivenNames i_0 old_1 new_2 t_3 w_4 t_5
  have ht_3 : Within A u t_3 := by
    refine raise_within (Sub.trans (by decide) hM) ?_
    refine set_within _ (inMask (SP_OWN_OWNER_win _) (Sub.bit hM (by decide))) ?_
    exact h_s
  have ht_5 : Within A u t_5 := by
    refine Within.cluster_ (Sub.bit hM (by decide)) ?_
    exact ht_3
  refine Within.ite1 ?_ ?_
  · refine Within.snd1 ?_
    exact h_s
  · refine Within.ite1 ?_ ?_
    · refine Within.snd1 ?_
      exact h_s
    · refine Within.ite1 ?_ ?_
      · refine Within.snd1 ?_
        exact h_s
      · refine Within.snd1 ?_
        refine spSettle_within (Sub.trans (by decide) hM) ?_
        refine set_within _ (inMask (SP_OWN_PENDING_win _) (Sub.bit hM (by decide))) ?_
        exact ht_5

theorem execMailboxAck_within {A : Nat} {u : State} {a : Agent} {m : Fin 16} {s : State} (hM : Sub 0x1800000000000000000000000001 A) (h_s
    : Within A u s) :
    OutWithin A u (execMailboxAck a m s) := by
  unfold execMailboxAck
  refine OutWithin.ok ?_
  refine answered_within (Sub.trans (by decide) hM) ?_
  refine wrMbxCtl_within (Sub.trans (by decide) hM) ?_
  exact h_s

theorem execCrcResultRead_within {A : Nat} {u : State} {_a : Agent} {u_ : Fin 8} {s : State} (hM : Sub 0x1 A) (h_s : Within A u s) :
    OutWithin A u (execCrcResultRead _a u_ s) := by
  unfold execCrcResultRead
  refine OutWithin.ok ?_
  refine answerVal_within (Sub.trans (by decide) hM) ?_
  exact h_s

theorem execScratchpadAccess_within {A : Nat} {u : State} {a : Agent} {acc : SpAccess} {u_ : Ecc} {s : State} (hM : Sub
    0x800000000000000000000040000D A) (h_s : Within A u s) :
    OutWithin A u (execScratchpadAccess a acc u_ s) := by
  unfold execScratchpadAccess
  extract_lets -merge -useContext +onlyGivenNames i_0
  split
  · refine OutWithin.ite ?_ ?_
    · refine OutWithin.ok ?_
      exact h_s
    · extract_lets -merge -useContext +onlyGivenNames r_1 w_2
      have hr_1 : Within A u r_1.2.2 := by
        refine spRead_within (Sub.trans (by decide) hM) ?_
        exact h_s
      have hw_2 : Within A u w_2 := by
        exact hr_1
      refine OutWithin.ok ?_
      refine Within.resp_ (Sub.bit hM (by decide)) ?_
      exact hw_2
  · refine OutWithin.ite ?_ ?_
    · refine OutWithin.ok ?_
      exact h_s
    · extract_lets -merge -useContext +onlyGivenNames r_3
      have hr_3 : Within A u r_3.2 := by
        refine spWrite_within (Sub.trans (by decide) hM) ?_
        exact h_s
      refine OutWithin.ok ?_
      refine answered_within (Sub.trans (by decide) hM) ?_
      exact hr_3
  · refine OutWithin.ite ?_ ?_
    · refine OutWithin.ok ?_
      exact h_s
    · extract_lets -merge -useContext +onlyGivenNames p_4 r_5 w_6
      have hp_4 : Within A u p_4.2 := by
        refine spWrite_within (Sub.trans (by decide) hM) ?_
        exact h_s
      have hr_5 : Within A u r_5.2.2 := by
        refine spRead_within (Sub.trans (by decide) hM) ?_
        exact hp_4
      have hw_6 : Within A u w_6 := by
        exact hr_5
      refine OutWithin.ok ?_
      refine Within.resp_ (Sub.bit hM (by decide)) ?_
      exact hw_6

theorem bootMarch_within {A : Nat} {u : State} {s : State} (hM : Sub 0x10000000000000000000000400000 A) (h_s : Within A u s) :
    Within A u (bootMarch s) := by
  unfold bootMarch
  refine Within.ite ?_ ?_
  · refine wrSpMarch_within (Sub.trans (by decide) hM) ?_
    exact h_s
  · exact h_s

theorem spWipe_within {A : Nat} {u : State} {cause : Nat} {s : State} (hM : Sub 0x40000C A) (h_s : Within A u s) :
    Within A u (spWipe cause s) := by
  unfold spWipe
  refine Within.ite ?_ ?_
  · extract_lets -merge -useContext +onlyGivenNames s_0 w_1
    have hs_0 : Within A u s_0 := by
      refine spZero_within (Sub.trans (by decide) hM) ?_
      refine spZero_within (Sub.trans (by decide) hM) ?_
      exact h_s
    refine Within.cluster_ (Sub.bit hM (by decide)) ?_
    exact hs_0
  · refine raise_within (Sub.trans (by decide) hM) ?_
    exact h_s

theorem execLeaseExpiry_within {A : Nat} {u : State} {k : Fin 64} {s : State} (hM : Sub 0x40000000000000000000040000C A) (h_s : Within A
    u s) :
    OutWithin A u (execLeaseExpiry k s) := by
  unfold execLeaseExpiry
  extract_lets -merge -useContext +onlyGivenNames i_0 t_1 w_2
  have ht_1 : Within A u t_1 := by
    refine raise_within (Sub.trans (by decide) hM) ?_
    refine lockFree_within (Sub.trans (by decide) hM) ?_
    exact h_s
  refine OutWithin.whenOk ?_ ?_
  · exact h_s
  · refine Within.ite ?_ ?_
    · refine Within.cluster_ (Sub.bit hM (by decide)) ?_
      exact ht_1
    · exact ht_1

theorem wrSpEccCtl_within {A : Nat} {u : State} {a : Agent} {v : Nat} {s : State} (hM : Sub 0x8000000000000000000000000000 A) (h_s :
    Within A u s) :
    Within A u (wrSpEccCtl a v s).2 := by
  unfold wrSpEccCtl
  refine Within.ite1 ?_ ?_
  · refine Within.snd1 ?_
    exact h_s
  · refine Within.ite1 ?_ ?_
    · refine Within.snd1 ?_
      exact h_s
    · refine Within.snd1 ?_
      refine writeFlds_within (Sub.trans (by decide) hM) (inMasks (SP_ECC_CTL_fields_win) (Sub.bit hM (by decide))) ?_
      exact h_s

theorem execLockAcquire_within {A : Nat} {u : State} {a : Agent} {k : Fin 64} {lease : Nat} {s : State} (hM : Sub
    0x400000000000000000000000001 A) (h_s : Within A u s) :
    OutWithin A u (execLockAcquire a k lease s) := by
  unfold execLockAcquire
  refine OutWithin.ok ?_
  refine answered_within (Sub.trans (by decide) hM) ?_
  refine wrLockCtl_within (Sub.trans (by decide) hM) ?_
  exact h_s

theorem execCrcFold_within {A : Nat} {u : State} {_a : Agent} {u_ : Fin 8} {v : Nat} {s : State} (hM : Sub 0x400001 A) (h_s : Within A u
    s) :
    OutWithin A u (execCrcFold _a u_ v s) := by
  unfold execCrcFold
  refine OutWithin.ok ?_
  refine answered_within (Sub.trans (by decide) hM) ?_
  refine wrCrcFold_within (Sub.trans (by decide) hM) ?_
  exact h_s

theorem execCoreInterrupt_within {A : Nat} {u : State} {c : Fin 4} {mie : Nat} {s : State} (hM : Sub 0x400000 A) (h_s : Within A u s) :
    OutWithin A u (execCoreInterrupt c mie s) := by
  unfold execCoreInterrupt
  extract_lets -merge -useContext +onlyGivenNames k_0
  refine OutWithin.ite ?_ ?_
  · refine OutWithin.ok ?_
    exact h_s
  · split
    · refine OutWithin.ok ?_
      refine Within.cluster_ (Sub.bit hM (by decide)) ?_
      exact h_s
    · split
      · refine OutWithin.ok ?_
        exact h_s
      · refine OutWithin.ok ?_
        refine Within.cluster_ (Sub.bit hM (by decide)) ?_
        exact h_s

theorem execWdKick_within {A : Nat} {u : State} {a : Agent} {c : Fin 4} {key : Nat} {s : State} (hM : Sub 0x200000000000000000000000001
    A) (h_s : Within A u s) :
    OutWithin A u (execWdKick a c key s) := by
  unfold execWdKick
  refine OutWithin.ok ?_
  refine answered_within (Sub.trans (by decide) hM) ?_
  refine wrWdKick_within (Sub.trans (by decide) hM) ?_
  exact h_s

theorem execCrcConfig_within {A : Nat} {u : State} {_a : Agent} {u_ : Fin 8} {v : Nat} {s : State} (hM : Sub
    0x2000000000000000000000400001 A) (h_s : Within A u s) :
    OutWithin A u (execCrcConfig _a u_ v s) := by
  unfold execCrcConfig
  refine OutWithin.ok ?_
  refine answered_within (Sub.trans (by decide) hM) ?_
  refine wrCrcCfg_within (Sub.trans (by decide) hM) ?_
  exact h_s

theorem execBankHandover_within {A : Nat} {u : State} {a : Agent} {n : Fin 16} {owner : Nat} {s : State} (hM : Sub
    0x400000000000000000000040000D A) (h_s : Within A u s) :
    OutWithin A u (execBankHandover a n owner s) := by
  unfold execBankHandover
  extract_lets -merge -useContext +onlyGivenNames x_0
  have hx_0 : Within A u x_0.2 := by
    refine wrSpOwn_within (Sub.trans (by decide) hM) ?_
    exact h_s
  refine OutWithin.ok ?_
  refine Within.ite ?_ ?_
  · exact hx_0
  · refine answered_within (Sub.trans (by decide) hM) ?_
    exact hx_0

theorem execSpScrubWord_within {A : Nat} {u : State} {n : Fin 16} {w : Nat} {u_ : Ecc} {s : State} (hM : Sub
    0x800000000000000000000040000C A) (h_s : Within A u s) :
    OutWithin A u (execSpScrubWord n w u_ s) := by
  unfold execSpScrubWord
  extract_lets -merge -useContext +onlyGivenNames more_0 t_1
  have ht_1 : Within A u t_1 := by
    refine spCheck_within (Sub.trans (by decide) hM) ?_
    exact h_s
  refine OutWithin.whenOk ?_ ?_
  · exact h_s
  · refine Within.ite ?_ ?_
    · refine set_within _ (inMask (SP_ECC_STAT_PASSES_win) (Sub.bit hM (by decide))) ?_
      exact ht_1
    · exact ht_1

theorem spPairLose_within {A : Nat} {u : State} {p : Nat} {s : State} (hM : Sub 0x400000 A) (h_s : Within A u s) :
    Within A u (spPairLose p s) := by
  unfold spPairLose
  refine spLose_within (Sub.trans (by decide) hM) ?_
  refine spLose_within (Sub.trans (by decide) hM) ?_
  exact h_s

theorem wrPatchLock_within {A : Nat} {u : State} {a : Agent} {v : Nat} {s : State} (hM : Sub 0x20000000000000000000000000000 A) (h_s :
    Within A u s) :
    Within A u (wrPatchLock a v s).2 := by
  unfold wrPatchLock
  refine Within.ite1 ?_ ?_
  · refine Within.snd1 ?_
    exact h_s
  · refine Within.snd1 ?_
    refine writeFlds_within (Sub.trans (by decide) hM) (inMasks (PATCH_LOCK_fields_win) (Sub.bit hM (by decide))) ?_
    exact h_s

end Sys2Proof.Machine
end

