-- ==== Sys2Proof/Laws/WithinEdge.lean ====
section
/-! SUPPORT. What each operation of Machine/Edge.lean can reach (see Laws/Within.lean). -/
set_option Elab.async false
namespace Sys2Proof.Machine

theorem realign_within {A : Nat} {u : State} {b : Nat} {s : State} (hM : Sub 0x4000000000000000 A) (h_s : Within A u s) :
    Within A u (realign b s) := by
  unfold realign
  refine set_within _ (inMask (ET_BANK_STAT_ALIGNED_win _) (Sub.bit hM (by decide))) ?_
  exact h_s

theorem wrEtBank_within {A : Nat} {u : State} {a : Agent} {b v : Nat} {s : State} (hM : Sub 0x400000000000000C A) (h_s : Within A u s) :
    Within A u (wrEtBank a b v s).2 := by
  unfold wrEtBank
  refine Within.ite1 ?_ ?_
  · refine Within.snd1 ?_
    exact h_s
  · refine Within.ite1 ?_ ?_
    · refine Within.snd1 ?_
      exact h_s
    · refine Within.ite1 ?_ ?_
      · refine Within.snd1 ?_
        exact h_s
      · refine Within.snd1 ?_
        refine raise_within (Sub.trans (by decide) hM) ?_
        refine realign_within (Sub.trans (by decide) hM) ?_
        exact h_s

theorem edgeGroupReset_within {A : Nat} {u : State} {g : Nat} {s : State} (hM : Sub 0xA000000000000000 A) (h_s : Within A u s) :
    Within A u (edgeGroupReset g s) := by
  unfold edgeGroupReset
  refine resetRegs_within _ _ 13199508242432 13199508766719 61 1 0x2000000000000000 (by decide) (by decide) (by decide) (Sub.trans (by decide) hM) (by omega) (by omega) ?_
  refine resetRegs_within _ _ 13199512436736 13199575351295 63 1 0x8000000000000000 (by decide) (by decide) (by decide) (Sub.trans (by decide) hM) (by omega) (by omega) ?_
  exact h_s

theorem wrEtFix_within {A : Nat} {u : State} {a : Agent} {n v : Nat} {s : State} (hM : Sub 0x20000000000000000 A) (h_s : Within A u s) :
    Within A u (wrEtFix a n v s).2 := by
  unfold wrEtFix
  refine Within.ite1 ?_ ?_
  · refine Within.snd1 ?_
    exact h_s
  · refine Within.ite1 ?_ ?_
    · refine Within.snd1 ?_
      exact h_s
    · refine Within.snd1 ?_
      refine writeFlds_within (Sub.trans (by decide) hM) (inMasks (ET_CH_FIX_fields_win _) (Sub.bit hM (by decide))) ?_
      exact h_s

theorem setEng_within {A : Nat} {u : State} {e : SeqEng} {s : State} (hM : Sub 0x2000 A) (h_s : Within A u s) :
    Within A u (setEng e s) := by
  unfold setEng
  refine Within.seqs_ (Sub.bit hM (by decide)) ?_
  exact h_s

theorem modEng_within {A : Nat} {u : State} {q : Nat} {f : SeqEng → SeqEng} {s : State} (hM : Sub 0x2000 A) (h_s : Within A u s) :
    Within A u (modEng q f s) := by
  unfold modEng
  refine setEng_within (Sub.trans (by decide) hM) ?_
  exact h_s

theorem alignLost_within {A : Nat} {u : State} {b : Nat} {s : State} (hM : Sub 0x400000000000000C A) (h_s : Within A u s) :
    Within A u (alignLost b s) := by
  unfold alignLost
  refine raise_within (Sub.trans (by decide) hM) ?_
  refine set_within _ (inMask (ET_BANK_STAT_ALIGN_LOST_win _) (Sub.bit hM (by decide))) ?_
  refine set_within _ (inMask (ET_BANK_STAT_ALIGNED_win _) (Sub.bit hM (by decide))) ?_
  exact h_s

theorem alignTick_within {A : Nat} {u : State} {l : List (Fin 32)} {s : State} (hM : Sub 0x400000000000000C A) (h_s : Within A u s) :
    Within A u (alignTick l s) := by
  unfold alignTick
  refine forEach_within ?_ _ ?_
  · intro y0 y1 hy2
    beta_reduce
    refine Within.ite ?_ ?_
    · refine alignLost_within (Sub.trans (by decide) hM) ?_
      exact hy2
    · exact hy2
  · exact h_s

theorem commitSet_within {A : Nat} {u : State} {n t fmt : Nat} {s : State} (hM : Sub 0x10000000000000000 A) (h_s : Within A u s) :
    Within A u (commitSet n t fmt s) := by
  unfold commitSet
  refine set_within _ (inMask (ET_TS_CFG_FMT_win _ _) (Sub.bit hM (by decide))) ?_
  refine set_within _ (inMask (ET_TS_CMP_C2_win _ _) (Sub.bit hM (by decide))) ?_
  refine set_within _ (inMask (ET_TS_CMP_C1_win _ _) (Sub.bit hM (by decide))) ?_
  refine set_within _ (inMask (ET_TS_DRV34_D4_win _ _) (Sub.bit hM (by decide))) ?_
  refine set_within _ (inMask (ET_TS_DRV34_D3_win _ _) (Sub.bit hM (by decide))) ?_
  refine set_within _ (inMask (ET_TS_DRV12_D2_win _ _) (Sub.bit hM (by decide))) ?_
  refine set_within _ (inMask (ET_TS_DRV12_D1_win _ _) (Sub.bit hM (by decide))) ?_
  exact h_s

theorem stageRecord_within {A : Nat} {u : State} {n : Nat} {r : List Byte} {s : State} (hM : Sub 0x20000000000000000 A) (h_s : Within A u
    s) :
    Within A u (stageRecord n r s) := by
  unfold stageRecord
  extract_lets -merge -useContext +onlyGivenNames e_0
  refine set_within _ (inMask (ET_CH_STG_CMP_C2_win _) (Sub.bit hM (by decide))) ?_
  refine set_within _ (inMask (ET_CH_STG_CMP_C1_win _) (Sub.bit hM (by decide))) ?_
  refine set_within _ (inMask (ET_CH_STG_DRV34_D4_win _) (Sub.bit hM (by decide))) ?_
  refine set_within _ (inMask (ET_CH_STG_DRV34_D3_win _) (Sub.bit hM (by decide))) ?_
  refine set_within _ (inMask (ET_CH_STG_DRV12_D2_win _) (Sub.bit hM (by decide))) ?_
  refine set_within _ (inMask (ET_CH_STG_DRV12_D1_win _) (Sub.bit hM (by decide))) ?_
  exact h_s

theorem wrRecord_within {A : Nat} {u : State} {r : List Byte} {s : State} (hM : Sub 0x30000000000000000 A) (h_s : Within A u s) :
    Within A u (wrRecord r s).2 := by
  unfold wrRecord
  extract_lets -merge -useContext +onlyGivenNames t_0 fmt_1 st_2
  split
  · refine Within.snd1 ?_
    exact h_s
  · refine Within.ite1 ?_ ?_
    · refine Within.snd1 ?_
      exact h_s
    · split
      · refine Within.snd1 ?_
        refine forEach_within ?_ _ ?_
        · intro y3 y4 hy5
          beta_reduce
          refine commitSet_within (Sub.trans (by decide) hM) ?_
          refine stageRecord_within (Sub.trans (by decide) hM) ?_
          exact hy5
        · exact h_s
      · refine Within.snd1 ?_
        refine Within.ite ?_ ?_
        · refine stageRecord_within (Sub.trans (by decide) hM) ?_
          exact h_s
        · exact h_s
      · refine Within.snd1 ?_
        exact h_s

theorem wrRecordObject_within {A : Nat} {u : State} {a : Agent} {r : List Byte} {s : State} (hM : Sub 0x30000000000000200 A) (h_s :
    Within A u s) :
    Within A u (wrRecordObject a r s).2 := by
  unfold wrRecordObject
  refine Within.ite1 ?_ ?_
  · refine Within.snd1 ?_
    exact h_s
  · extract_lets -merge -useContext +onlyGivenNames x_0 w_1 w_2
    have hx_0 : Within A u x_0.2 := by
      refine wrRecord_within (Sub.trans (by decide) hM) ?_
      exact h_s
    have hw_1 : Within A u w_1 := by
      exact hx_0
    refine Within.snd1 ?_
    refine Within.edge_ (Sub.bit hM (by decide)) ?_
    exact hw_1

theorem edgeTick_within {A : Nat} {u : State} {s : State} (hM : Sub 0x200 A) (h_s : Within A u s) :
    Within A u (edgeTick s) := by
  unfold edgeTick
  refine Within.edge_ (Sub.bit hM (by decide)) ?_
  exact h_s

theorem edgeReset_within {A : Nat} {u : State} {b : Nat} {s : State} (hM : Sub 0x34000000000000200 A) (h_s : Within A u s) :
    Within A u (edgeReset b s) := by
  unfold edgeReset
  extract_lets -merge -useContext +onlyGivenNames s_0 s_1 w_2
  have hs_0 : Within A u s_0 := by
    refine resetRegs_within _ _ 13199642460160 13200581984255 65 1 0x20000000000000000 (by decide) (by decide) (by decide) (Sub.trans (by decide) hM) (by omega) (by omega) ?_
    refine resetRegs_within _ _ 13199575351296 13199642460159 64 1 0x10000000000000000 (by decide) (by decide) (by decide) (Sub.trans (by decide) hM) (by omega) (by omega) ?_
    exact h_s
  have hs_1 : Within A u s_1 := by
    refine resetRegs_within _ _ 13199508766720 13199512436735 62 1 0x4000000000000000 (by decide) (by decide) (by decide) (Sub.trans (by decide) hM) (by omega) (by omega) ?_
    exact hs_0
  refine Within.edge_ (Sub.bit hM (by decide)) ?_
  exact hs_1

theorem pushMasks_within {A : Nat} {u : State} {q n off mask : Nat} {s : State} (hM : Sub 0x2000 A) (h_s : Within A u s) :
    Within A u (pushMasks q n off mask s) := by
  unfold pushMasks
  refine modEng_within (Sub.trans (by decide) hM) ?_
  exact h_s

theorem countBad_within {A : Nat} {u : State} {n t : Nat} {s : State} (hM : Sub 0x2000000000000020C A) (h_s : Within A u s) :
    Within A u (countBad n t s) := by
  unfold countBad
  extract_lets -merge -useContext +onlyGivenNames s_0 w_1 s_2
  have hs_0 : Within A u s_0 := by
    refine State.count_within (Sub.trans (by decide) hM) (inMask (ET_CH_BADCYC_COUNT_win _) (Sub.bit hM (by decide))) ?_
    exact h_s
  have hs_2 : Within A u s_2 := by
    refine Within.edge_ (Sub.bit hM (by decide)) ?_
    exact hs_0
  refine raiseOnce_within (Sub.trans (by decide) hM) ?_
  exact hs_2

theorem wrEtPer_within {A : Nat} {u : State} {a : Agent} {q t v : Nat} {s : State} (hM : Sub 0x8000000000000000 A) (h_s : Within A u s) :
    Within A u (wrEtPer a q t v s).2 := by
  unfold wrEtPer
  refine Within.ite1 ?_ ?_
  · refine Within.snd1 ?_
    exact h_s
  · refine Within.ite1 ?_ ?_
    · refine Within.snd1 ?_
      exact h_s
    · refine Within.ite1 ?_ ?_
      · refine Within.snd1 ?_
        exact h_s
      · refine Within.snd1 ?_
        refine set_within _ (inMask (ET_PER_PERIOD_win _ _) (Sub.bit hM (by decide))) ?_
        exact h_s

theorem execPeriodWrite_within {A : Nat} {u : State} {a : Agent} {q : Fin 16} {t : Fin 64} {v : Nat} {s : State} (hM : Sub
    0x8000000000000001 A) (h_s : Within A u s) :
    OutWithin A u (execPeriodWrite a q t v s) := by
  unfold execPeriodWrite
  refine OutWithin.ok ?_
  refine answered_within (Sub.trans (by decide) hM) ?_
  refine atIngress_within (Sub.trans (by decide) hM) ?_ ?_
  · intro y0 hy1
    refine wrEtPer_within (Sub.trans (by decide) hM) ?_
    exact hy1
  · exact h_s

theorem wrEtCommit_within {A : Nat} {u : State} {a : Agent} {n v : Nat} {s : State} (hM : Sub 0x10000000000000000 A) (h_s : Within A u s) :
    Within A u (wrEtCommit a n v s).2 := by
  unfold wrEtCommit
  extract_lets -merge -useContext +onlyGivenNames t_0 fmt_1
  refine Within.ite1 ?_ ?_
  · refine Within.snd1 ?_
    exact h_s
  · split
    · refine Within.snd1 ?_
      refine commitSet_within (Sub.trans (by decide) hM) ?_
      exact h_s
    · refine Within.snd1 ?_
      exact h_s

theorem execBankRealign_within {A : Nat} {u : State} {a : Agent} {b : Fin 32} {s : State} (hM : Sub 0x400000000000000D A) (h_s : Within A
    u s) :
    OutWithin A u (execBankRealign a b s) := by
  unfold execBankRealign
  refine OutWithin.ok ?_
  refine answered_within (Sub.trans (by decide) hM) ?_
  refine atIngress_within (Sub.trans (by decide) hM) ?_ ?_
  · intro y0 hy1
    refine wrEtBank_within (Sub.trans (by decide) hM) ?_
    exact hy1
  · exact h_s

theorem execTimingSetCommit_within {A : Nat} {u : State} {a : Agent} {ch : Fin 512} {v : Nat} {s : State} (hM : Sub 0x10000000000000001
    A) (h_s : Within A u s) :
    OutWithin A u (execTimingSetCommit a ch v s) := by
  unfold execTimingSetCommit
  refine OutWithin.ok ?_
  refine answered_within (Sub.trans (by decide) hM) ?_
  refine atIngress_within (Sub.trans (by decide) hM) ?_ ?_
  · intro y0 hy1
    refine wrEtCommit_within (Sub.trans (by decide) hM) ?_
    exact hy1
  · exact h_s

theorem execTimingSetRecordWrite_within {A : Nat} {u : State} {a : Agent} {r : List Byte} {s : State} (hM : Sub 0x30000000000000201 A)
    (h_s : Within A u s) :
    OutWithin A u (execTimingSetRecordWrite a r s) := by
  unfold execTimingSetRecordWrite
  refine OutWithin.ok ?_
  refine answered_within (Sub.trans (by decide) hM) ?_
  refine wrRecordObject_within (Sub.trans (by decide) hM) ?_
  exact h_s

end Sys2Proof.Machine
end

