-- ==== Sys2Proof/Laws/WithinFlags.lean ====
section
/-! SUPPORT. What each operation of Machine/Flags.lean can reach (see Laws/Within.lean). -/
set_option Elab.async false
namespace Sys2Proof.Machine

theorem calMark_within {A : Nat} {u : State} {f : Nat → Nat} {s : State} (hM : Sub 0x400 A) (h_s : Within A u s) :
    Within A u (calMark f s) := by
  unfold calMark
  split
  · exact h_s
  · refine Within.weir_ (Sub.bit hM (by decide)) ?_
    exact h_s

theorem calWatch_within {A : Nat} {u : State} {s : State} (hM : Sub 0x400 A) (h_s : Within A u s) :
    Within A u (calWatch s) := by
  unfold calWatch
  refine calMark_within (Sub.trans (by decide) hM) ?_
  exact h_s

end Sys2Proof.Machine
end

