-- ==== Sys2Proof/Laws/WithinSluice.lean ====
section
/-! SUPPORT. What each operation of Machine/Sluice.lean can reach (see Laws/Within.lean). -/
set_option Elab.async false
namespace Sys2Proof.Machine

theorem endWish_within {A : Nat} {u : State} {n : Nat} {s : State} (hM : Sub 0x400000000010 A) (h_s : Within A u s) :
    Within A u (endWish n s) := by
  unfold endWish
  extract_lets -merge -useContext +onlyGivenNames w_0 w_1
  have hw_0 : Within A u w_0 := by
    refine set_within _ (inMask (PWR_DOM_STAT_ENABLE_PENDING_win _) (Sub.bit hM (by decide))) ?_
    exact h_s
  refine Within.power_ (Sub.bit hM (by decide)) ?_
  exact hw_0

theorem sluDrop_within {A : Nat} {u : State} {k : Nat} {s : State} (hM : Sub 0x600000000010 A) (h_s : Within A u s) :
    Within A u (sluDrop k s) := by
  unfold sluDrop
  extract_lets -merge -useContext +onlyGivenNames p_0 waits_1 s_2 s_3 w_4
  have hs_2 : Within A u s_2 := by
    refine Within.ite ?_ ?_
    · refine endWish_within (Sub.trans (by decide) hM) ?_
      exact h_s
    · exact h_s
  have hs_3 : Within A u s_3 := by
    refine set_within _ (inMask (SLU_ENT_SKIPS_win _) (Sub.bit hM (by decide))) ?_
    refine set_within _ (inMask (SLU_ENT_REMAIN_win _) (Sub.bit hM (by decide))) ?_
    refine set_within _ (inMask (SLU_ENT_STATE_win _) (Sub.bit hM (by decide))) ?_
    exact hs_2
  exact Within.power_ (Sub.bit hM (by decide)) hs_3 (fun c => Nat.le_trans List.length_erase_le c)

theorem sluRefuse_within {A : Nat} {u : State} {r : PartReq} {again : Bool} {s : State} (hM : Sub 0x4000000000C A) (h_s : Within A u s) :
    Within A u (sluRefuse r again s) := by
  unfold sluRefuse
  extract_lets -merge -useContext +onlyGivenNames s_0 items_1
  have hs_0 : Within A u s_0 := by
    refine State.count_within (Sub.trans (by decide) hM) (inMask (SLU_STAT_REFUSED_win) (Sub.bit hM (by decide))) ?_
    exact h_s
  refine Within.ite ?_ ?_
  · refine raiseOnce_within (Sub.trans (by decide) hM) ?_
    exact hs_0
  · refine raise_within (Sub.trans (by decide) hM) ?_
    exact hs_0

theorem grantEntry_within {A : Nat} {u : State} {k : Nat} {s : State} (hM : Sub 0x200000000030 A) (h_s : Within A u s) :
    Within A u (grantEntry k s) := by
  unfold grantEntry
  extract_lets -merge -useContext +onlyGivenNames s_0 w_1 s_2 w_3
  have hs_0 : Within A u s_0 := by
    refine set_within _ (inMask (SLU_ENT_REMAIN_win _) (Sub.bit hM (by decide))) ?_
    refine set_within _ (inMask (SLU_ENT_STATE_win _) (Sub.bit hM (by decide))) ?_
    exact h_s
  have hs_2 : Within A u s_2 := by
    exact Within.power_ (Sub.bit hM (by decide)) hs_0 (fun c => Nat.le_trans List.length_erase_le c)
  refine Within.ite ?_ ?_
  · refine Within.profile_ (Sub.bit hM (by decide)) ?_
    exact hs_2
  · exact hs_2

theorem sluEnter_within {A : Nat} {u : State} {k : Nat} {r : PartReq} {s : State} (hM : Sub 0x200000000030 A) (h_room : sluRoom r.cls
    r.current s = true) (h_s : Within A u s) :
    Within A u (sluEnter k r s) := by
  unfold sluEnter
  extract_lets -merge -useContext +onlyGivenNames atOnce_0 gen_1 s_2 tk_3 w_4 s_5
  have hs_2 : Within A u s_2 := by
    refine set_within _ (inMask (SLU_ENT_CURRENT_win _) (Sub.bit hM (by decide))) ?_
    refine set_within _ (inMask (SLU_ENT_REMAIN_win _) (Sub.bit hM (by decide))) ?_
    refine set_within _ (inMask (SLU_ENT_CLASS_win _) (Sub.bit hM (by decide))) ?_
    refine set_within _ (inMask (SLU_ENT_TARGET_win _) (Sub.bit hM (by decide))) ?_
    refine set_within _ (inMask (SLU_ENT_INITIATOR_win _) (Sub.bit hM (by decide))) ?_
    refine set_within _ (inMask (SLU_ENT_STATE_win _) (Sub.bit hM (by decide))) ?_
    refine set_within _ (inMask (SLU_ENT_SKIPS_win _) (Sub.bit hM (by decide))) ?_
    refine set_within _ (inMask (SLU_ENT_GEN_win _) (Sub.bit hM (by decide))) ?_
    exact h_s
  have hs_5 : Within A u s_5 := by
    refine Within.power_ (Sub.bit hM (by decide)) hs_2 (fun c => ?_)
    change (if atOnce_0 = true then s.power.queue else s.power.queue ++ [k]).length ≤ 64
    have c' : s.power.queue.length ≤ 64 := c
    split
    · exact c'
    · rename_i h
      unfold sluRoom at h_room
      rw [Bool.and_eq_true, Bool.or_eq_true] at h_room
      rcases h_room.2 with h1 | h1
      · rw [List.length_append]
        exact Nat.succ_le_of_lt (of_decide_eq_true h1)
      · exact absurd h1 h
  refine Within.ite ?_ ?_
  · refine grantEntry_within (Sub.trans (by decide) hM) ?_
    exact hs_5
  · exact hs_5

theorem sluPlace_within {A : Nat} {u : State} {r : PartReq} {again : Bool} {s : State} (hM : Sub 0x24000000003C A) (h_s : Within A u s) :
    Within A u (sluPlace r again s).2 := by
  unfold sluPlace
  split
  · refine Within.snd1 ?_
    refine sluRefuse_within (Sub.trans (by decide) hM) ?_
    exact h_s
  · split
    · exact Within.snd1 (sluEnter_within (Sub.trans (by decide) hM) (by assumption) h_s)
    · refine Within.snd1 ?_
      refine sluRefuse_within (Sub.trans (by decide) hM) ?_
      exact h_s

theorem sluSubmit_within {A : Nat} {u : State} {cls target current duration init : Nat} {s : State} (hM : Sub 0x24000000003C A) (h_s :
    Within A u s) :
    Within A u (sluSubmit cls target current duration init s).2.2 := by
  unfold sluSubmit
  split
  · split
    · refine Within.snd2 ?_
      refine Within.of_eq (q := (_, _)) (by assumption) ?_
      refine sluPlace_within (Sub.trans (by decide) hM) ?_
      exact h_s
    · refine Within.snd2 ?_
      refine Within.of_eq (q := (_, _)) (by assumption) ?_
      refine sluPlace_within (Sub.trans (by decide) hM) ?_
      exact h_s
  · refine Within.snd2 ?_
    exact h_s

theorem placeOrRetry_within {A : Nat} {u : State} {r : PartReq} {s : State} (hM : Sub 0x24000000003C A) (h_s : Within A u s) :
    Within A u (placeOrRetry r s).2 := by
  unfold placeOrRetry
  split
  · refine Within.snd1 ?_
    refine Within.of_eq (q := (_, _)) (by assumption) ?_
    refine sluPlace_within (Sub.trans (by decide) hM) ?_
    exact h_s
  · refine Within.snd1 ?_
    refine Within.of_eq (q := (_, _)) (by assumption) ?_
    refine sluPlace_within (Sub.trans (by decide) hM) ?_
    exact h_s

theorem placeAgain_within {A : Nat} {u : State} {r : PartReq} {s : State} (hM : Sub 0x24000000003C A) (h_s : Within A u s) :
    Within A u (placeAgain r s) := by
  unfold placeAgain
  split
  · refine Within.power_ (Sub.bit hM (by decide)) ?_
    refine Within.of_eq (q := (_, _)) (by assumption) ?_
    refine sluPlace_within (Sub.trans (by decide) hM) ?_
    exact h_s
  · refine Within.power_ (Sub.bit hM (by decide)) ?_
    refine Within.of_eq (q := (_, _)) (by assumption) ?_
    refine sluPlace_within (Sub.trans (by decide) hM) ?_
    exact h_s

end Sys2Proof.Machine
end

