-- ==== Sys2Proof/Laws/WithinJets.lean ====
section
/-! SUPPORT. What each operation of Machine/Jets.lean can reach (see Laws/Within.lean). -/
set_option Elab.async false
namespace Sys2Proof.Machine

theorem pmuDisconnect_within {A : Nat} {u : State} {n : Nat} {s : State} (hM : Sub 0x100 A) (h_s : Within A u s) :
    Within A u (pmuDisconnect n s) := by
  unfold pmuDisconnect
  refine Within.jets_ (Sub.bit hM (by decide)) ?_
  exact h_s

theorem wrJetPmuCtl_within {A : Nat} {u : State} {a : Agent} {n v : Nat} {s : State} (hM : Sub 0x1000000000000500 A) (h_s : Within A u s) :
    Within A u (wrJetPmuCtl a n v s).2 := by
  unfold wrJetPmuCtl
  extract_lets -merge -useContext +onlyGivenNames mode_0 ir_1 s_2
  have hs_2 : Within A u s_2 := by
    refine writeFlds_within (Sub.trans (by decide) hM) (inMasks (JET_PMU_CTL_fields_win _) (Sub.bit hM (by decide))) ?_
    exact h_s
  refine Within.ite1 ?_ ?_
  · refine Within.snd1 ?_
    exact h_s
  · refine Within.ite1 ?_ ?_
    · refine Within.snd1 ?_
      exact h_s
    · refine Within.ite1 ?_ ?_
      · refine Within.snd1 ?_
        exact h_s
      · refine Within.ite1 ?_ ?_
        · refine Within.snd1 ?_
          exact h_s
        · refine Within.snd1 ?_
          refine Within.ite ?_ ?_
          · refine pmuDisconnect_within (Sub.trans (by decide) hM) ?_
            exact hs_2
          · refine calWatch_within (Sub.trans (by decide) hM) ?_
            exact hs_2

theorem execPmuModeWrite_within {A : Nat} {u : State} {a : Agent} {ch : Fin 512} {v : Nat} {s : State} (hM : Sub 0x1000000000000501 A)
    (h_s : Within A u s) :
    OutWithin A u (execPmuModeWrite a ch v s) := by
  unfold execPmuModeWrite
  refine OutWithin.ok ?_
  refine answered_within (Sub.trans (by decide) hM) ?_
  refine atIngress_within (Sub.trans (by decide) hM) ?_ ?_
  · intro y0 hy1
    refine wrJetPmuCtl_within (Sub.trans (by decide) hM) ?_
    exact hy1
  · exact h_s

theorem pmuClampSet_within {A : Nat} {u : State} {n : Nat} {c : Option Bool} {s : State} (hM : Sub 0x11C A) (h_s : Within A u s) :
    Within A u (pmuClampSet n c s) := by
  unfold pmuClampSet
  split
  · refine Within.jets_ (Sub.bit hM (by decide)) ?_
    exact h_s
  · extract_lets -merge -useContext +onlyGivenNames w_0 w_1 s_2
    have hs_2 : Within A u s_2 := by
      refine Within.upd (s := s) ?_ rfl (fun _ _ => rfl) (.inr rfl) (.inr rfl) (.inr rfl) (.inr rfl) (.inl (Sub.bit hM (by decide))) (.inr rfl) (.inr rfl) (.inr rfl) (.inl (Sub.bit hM (by decide))) (.inr rfl) (.inr rfl) (.inr rfl) (.inr rfl) (.inr rfl) (.inr rfl) (.inr rfl) (.inr rfl) (.inr rfl) (.inr rfl) (.inr rfl) (.inr rfl) (.inr rfl) (.inr rfl) (.inr rfl) (.inr rfl) (.inr rfl) (.inr rfl) (.inr rfl) (.inr rfl) (fun c => ⟨c.regs, c.hbm, c.flash, c.cfg, c.editions, c.ledger, c.ring, c.queue, c.seqs, c.cores⟩) (Otp.same rfl rfl rfl rfl rfl rfl)
      exact h_s
    refine raiseOnce_within (Sub.trans (by decide) hM) ?_
    exact hs_2

theorem wrJetCmp_within {A : Nat} {u : State} {a : Agent} {n v : Nat} {s : State} (hM : Sub 0x1000000000000000 A) (h_s : Within A u s) :
    Within A u (wrJetCmp a n v s).2 := by
  unfold wrJetCmp
  extract_lets -merge -useContext +onlyGivenNames m_0 voh_1 vol_2
  refine Within.ite1 ?_ ?_
  · refine Within.snd1 ?_
    exact h_s
  · refine Within.ite1 ?_ ?_
    · refine Within.snd1 ?_
      exact h_s
    · refine Within.snd1 ?_
      refine writeFlds_within (Sub.trans (by decide) hM) (inMasks (JET_LVL_CMP_fields_win _) (Sub.bit hM (by decide))) ?_
      exact h_s

theorem wrJetDrv_within {A : Nat} {u : State} {a : Agent} {n v : Nat} {s : State} (hM : Sub 0x1000000000000000 A) (h_s : Within A u s) :
    Within A u (wrJetDrv a n v s).2 := by
  unfold wrJetDrv
  extract_lets -merge -useContext +onlyGivenNames wide_0 vih_1 vil_2
  refine Within.ite1 ?_ ?_
  · refine Within.snd1 ?_
    exact h_s
  · refine Within.ite1 ?_ ?_
    · refine Within.snd1 ?_
      exact h_s
    · refine Within.snd1 ?_
      refine writeFlds_within (Sub.trans (by decide) hM) (inMasks (JET_LVL_DRV_fields_win _) (Sub.bit hM (by decide))) ?_
      exact h_s

theorem wrJetLoad_within {A : Nat} {u : State} {a : Agent} {n v : Nat} {s : State} (hM : Sub 0x1000000000000000 A) (h_s : Within A u s) :
    Within A u (wrJetLoad a n v s).2 := by
  unfold wrJetLoad
  refine Within.ite1 ?_ ?_
  · refine Within.snd1 ?_
    exact h_s
  · refine Within.ite1 ?_ ?_
    · refine Within.snd1 ?_
      exact h_s
    · refine Within.snd1 ?_
      refine writeFlds_within (Sub.trans (by decide) hM) (inMasks (JET_LOAD_fields_win _) (Sub.bit hM (by decide))) ?_
      exact h_s

theorem wrJetPmu_within {A : Nat} {u : State} {l : List (Acc × Fld)} {a : Agent} {n v : Nat} {s : State} (hM : Sub 0x0 A) (h_l : ∀ p ∈ l,
    InMask A p.2) (h_s : Within A u s) :
    Within A u (wrJetPmu l a n v s).2 := by
  unfold wrJetPmu
  extract_lets -merge -useContext +onlyGivenNames t_0
  have ht_0 : Within A u t_0 := by
    refine writeFlds_within (Sub.trans (by decide) hM) h_l ?_
    exact h_s
  refine Within.ite1 ?_ ?_
  · refine Within.snd1 ?_
    exact h_s
  · refine Within.ite1 ?_ ?_
    · refine Within.snd1 ?_
      exact ht_0
    · refine Within.snd1 ?_
      exact h_s

theorem wrJetLevel_within {A : Nat} {u : State} {a : Agent} {n : Nat} {r : LevelReg} {v : Nat} {s : State} (hM : Sub 0x1000000000000000
    A) (h_s : Within A u s) :
    Within A u (wrJetLevel a n r v s).2 := by
  unfold wrJetLevel
  split
  · refine wrJetDrv_within (Sub.trans (by decide) hM) ?_
    exact h_s
  · refine wrJetCmp_within (Sub.trans (by decide) hM) ?_
    exact h_s
  · refine wrJetLoad_within (Sub.trans (by decide) hM) ?_
    exact h_s
  · refine wrJetPmu_within (Sub.trans (by decide) hM) (inMasks (JET_PMU_FORCE_fields_win _) (Sub.bit hM (by decide))) ?_
    exact h_s
  · refine wrJetPmu_within (Sub.trans (by decide) hM) (inMasks (JET_PMU_ICLAMP_fields_win _) (Sub.bit hM (by decide))) ?_
    exact h_s
  · refine wrJetPmu_within (Sub.trans (by decide) hM) (inMasks (JET_PMU_VCLAMP_fields_win _) (Sub.bit hM (by decide))) ?_
    exact h_s

theorem execJetLevelWrite_within {A : Nat} {u : State} {a : Agent} {ch : Fin 512} {r : LevelReg} {v : Nat} {s : State} (hM : Sub
    0x1000000000000001 A) (h_s : Within A u s) :
    OutWithin A u (execJetLevelWrite a ch r v s) := by
  unfold execJetLevelWrite
  refine OutWithin.ok ?_
  refine answered_within (Sub.trans (by decide) hM) ?_
  refine atIngress_within (Sub.trans (by decide) hM) ?_ ?_
  · intro y0 hy1
    refine wrJetLevel_within (Sub.trans (by decide) hM) ?_
    exact hy1
  · exact h_s

theorem lowerMaxrate_within {A : Nat} {u : State} {b new : Nat} {s : State} (hM : Sub 0x80000000000000C A) (h_s : Within A u s) :
    Within A u (lowerMaxrate b new s) := by
  unfold lowerMaxrate
  extract_lets -merge -useContext +onlyGivenNames old_0
  refine raise_within (Sub.trans (by decide) hM) ?_
  refine set_within _ (inMask (JET_BANK_CTL_MAXRATE_win _) (Sub.bit hM (by decide))) ?_
  exact h_s

theorem pmuGrantLost_within {A : Nat} {u : State} {b : Nat} {s : State} (hM : Sub 0x100000000000010C A) (h_s : Within A u s) :
    Within A u (pmuGrantLost b s) := by
  unfold pmuGrantLost
  extract_lets -merge -useContext +onlyGivenNames l_0
  refine Within.ite ?_ ?_
  · exact h_s
  · refine raise_within (Sub.trans (by decide) hM) ?_
    refine forEach_within ?_ _ ?_
    · intro y1 y2 hy3
      beta_reduce
      refine pmuDisconnect_within (Sub.trans (by decide) hM) ?_
      refine set_within _ (inMask (JET_PMU_CTL_MODE_win _) (Sub.bit hM (by decide))) ?_
      exact hy3
    · exact h_s

theorem sluEnd_within {A : Nat} {u : State} {k : Nat} {s : State} (hM : Sub 0x180060000000011C A) (h_s : Within A u s) :
    Within A u (sluEnd k s) := by
  unfold sluEnd
  extract_lets -merge -useContext +onlyGivenNames cls_0 n_1 held_2 s_3
  have hs_3 : Within A u s_3 := by
    refine sluDrop_within (Sub.trans (by decide) hM) ?_
    exact h_s
  refine Within.ite ?_ ?_
  · refine lowerMaxrate_within (Sub.trans (by decide) hM) ?_
    exact hs_3
  · refine Within.ite ?_ ?_
    · refine pmuGrantLost_within (Sub.trans (by decide) hM) ?_
      exact hs_3
    · exact hs_3

theorem sluRelease_within {A : Nat} {u : State} {init ticket : Nat} {s : State} (hM : Sub 0x180060020000013C A) (h_s : Within A u s) :
    Within A u (sluRelease init ticket s).2 := by
  unfold sluRelease
  split
  · refine Within.snd1 ?_
    exact h_s
  · refine Within.ite1 ?_ ?_
    · refine Within.snd1 ?_
      exact h_s
    · refine Within.ite1 ?_ ?_
      · refine Within.snd1 ?_
        extract_lets -merge -useContext +onlyGivenNames w_0 w_1
        have hw_0 : Within A u w_0 := by
          refine set_within _ (inMask (SYS_PROFILE_RESULT_win) (Sub.bit hM (by decide))) ?_
          refine sluEnd_within (Sub.trans (by decide) hM) ?_
          refine set_within _ (inMask (SYS_PROFILE_PENDING_win) (Sub.bit hM (by decide))) ?_
          exact h_s
        refine Within.profile_ (Sub.bit hM (by decide)) ?_
        exact hw_0
      · refine Within.snd1 ?_
        refine sluEnd_within (Sub.trans (by decide) hM) ?_
        exact h_s

theorem wrJetCfg_within {A : Nat} {u : State} {a : Agent} {n v : Nat} {s : State} (hM : Sub 0x1000000000000500 A) (h_s : Within A u s) :
    Within A u (wrJetCfg a n v s).2 := by
  unfold wrJetCfg
  refine Within.ite1 ?_ ?_
  · refine Within.snd1 ?_
    exact h_s
  · refine Within.ite1 ?_ ?_
    · refine Within.snd1 ?_
      exact h_s
    · extract_lets -merge -useContext +onlyGivenNames wide_0 z_1 new_2 en_3 s_4 s_5 w_6
      have hs_4 : Within A u s_4 := by
        refine writeFlds_within (Sub.trans (by decide) hM) (inMasks (JET_CFG_fields_win _) (Sub.bit hM (by decide))) ?_
        exact h_s
      have hs_5 : Within A u s_5 := by
        refine Within.ite ?_ ?_
        · have h : ∀ {t : State}, Within A u t → ∀ f ∈ [JET_LVL_DRV_VIH n, JET_LVL_DRV_VIL n, JET_LVL_DRV_VTT n, JET_LVL_CMP_VOH n,
              JET_LVL_CMP_VOL n, JET_LVL_CMP_VCOM n], Within A u (t.set f z_1) := by
            intro t ht f hf
            refine set_within _ ?_ ht
            simp only [List.mem_cons, List.not_mem_nil, or_false] at hf
            rcases hf with rfl | rfl | rfl | rfl | rfl | rfl
            · exact inMask (JET_LVL_DRV_VIH_win _) (Sub.bit hM (by decide))
            · exact inMask (JET_LVL_DRV_VIL_win _) (Sub.bit hM (by decide))
            · exact inMask (JET_LVL_DRV_VTT_win _) (Sub.bit hM (by decide))
            · exact inMask (JET_LVL_CMP_VOH_win _) (Sub.bit hM (by decide))
            · exact inMask (JET_LVL_CMP_VOL_win _) (Sub.bit hM (by decide))
            · exact inMask (JET_LVL_CMP_VCOM_win _) (Sub.bit hM (by decide))
          exact h (h (h (h (h (h hs_4 _ (by simp)) _ (by simp)) _ (by simp)) _ (by simp)) _ (by simp)) _ (by simp)
        · exact hs_4
      refine Within.snd1 ?_
      refine calWatch_within (Sub.trans (by decide) hM) ?_
      refine Within.ite ?_ ?_
      · refine Within.jets_ (Sub.bit hM (by decide)) ?_
        exact hs_5
      · exact hs_5

theorem execJetConfigWrite_within {A : Nat} {u : State} {a : Agent} {ch : Fin 512} {v : Nat} {s : State} (hM : Sub 0x1000000000000501 A)
    (h_s : Within A u s) :
    OutWithin A u (execJetConfigWrite a ch v s) := by
  unfold execJetConfigWrite
  refine OutWithin.ok ?_
  refine answered_within (Sub.trans (by decide) hM) ?_
  refine atIngress_within (Sub.trans (by decide) hM) ?_ ?_
  · intro y0 hy1
    refine wrJetCfg_within (Sub.trans (by decide) hM) ?_
    exact hy1
  · exact h_s

theorem wrJetBankCtl_within {A : Nat} {u : State} {a : Agent} {b v : Nat} {s : State} (hM : Sub 0x800000000000000 A) (h_s : Within A u s) :
    Within A u (wrJetBankCtl a b v s).2 := by
  unfold wrJetBankCtl
  extract_lets -merge -useContext +onlyGivenNames spare_0 rate_1
  refine Within.ite1 ?_ ?_
  · refine Within.snd1 ?_
    exact h_s
  · refine Within.ite1 ?_ ?_
    · refine Within.snd1 ?_
      exact h_s
    · refine Within.ite1 ?_ ?_
      · refine Within.snd1 ?_
        exact h_s
      · refine Within.ite1 ?_ ?_
        · refine Within.snd1 ?_
          exact h_s
        · refine Within.snd1 ?_
          refine writeFlds_within (Sub.trans (by decide) hM) (inMasks (JET_BANK_CTL_fields_win _) (Sub.bit hM (by decide))) ?_
          exact h_s

theorem execSpareForWrite_within {A : Nat} {u : State} {a : Agent} {b : Fin 32} {ball : Nat} {s : State} (hM : Sub 0x800000000000001 A)
    (h_s : Within A u s) :
    OutWithin A u (execSpareForWrite a b ball s) := by
  unfold execSpareForWrite
  refine OutWithin.ok ?_
  refine answered_within (Sub.trans (by decide) hM) ?_
  refine Within.ite1 ?_ ?_
  · refine Within.snd1 ?_
    exact h_s
  · refine wrJetBankCtl_within (Sub.trans (by decide) hM) ?_
    exact h_s

theorem pmuSample_within {A : Nat} {u : State} {n : Nat} {measured : Int} {c : Option Bool} {s : State} (hM : Sub 0x100000000000011C A)
    (h_s : Within A u s) :
    Within A u (pmuSample n measured c s) := by
  unfold pmuSample
  extract_lets -merge -useContext +onlyGivenNames mode_0 x_1 isOver_2 s_3 s_4 scale_5 w_6 s_7
  have hs_3 : Within A u s_3 := by
    refine pmuClampSet_within (Sub.trans (by decide) hM) ?_
    exact h_s
  have hs_4 : Within A u s_4 := by
    refine set_within _ (inMask (JET_PMU_RES_OVER_win _) (Sub.bit hM (by decide))) ?_
    refine set_within _ (inMask (JET_PMU_RES_CLAMPED_win _) (Sub.bit hM (by decide))) ?_
    refine set_within _ (inMask (JET_PMU_RES_SAMPLE_win _) (Sub.bit hM (by decide))) ?_
    refine set_within _ (inMask (JET_PMU_RES_NUMBER_win _) (Sub.bit hM (by decide))) ?_
    exact hs_3
  have hs_7 : Within A u s_7 := by
    refine Within.jets_ (Sub.bit hM (by decide)) ?_
    exact hs_4
  refine Within.ite ?_ ?_
  · refine raiseOnce_within (Sub.trans (by decide) hM) ?_
    exact hs_7
  · exact hs_7

theorem execPmuClamp_within {A : Nat} {u : State} {ch : Fin 512} {hi : Bool} {s : State} (hM : Sub 0x11C A) (h_s : Within A u s) :
    OutWithin A u (execPmuClamp ch hi s) := by
  unfold execPmuClamp
  refine OutWithin.whenOk ?_ ?_
  · exact h_s
  · refine pmuClampSet_within (Sub.trans (by decide) hM) ?_
    exact h_s

theorem checkMaxrate_within {A : Nat} {u : State} {b : Nat} {s : State} (hM : Sub 0x80000000000000C A) (h_s : Within A u s) :
    Within A u (checkMaxrate b s) := by
  unfold checkMaxrate
  extract_lets -merge -useContext +onlyGivenNames rate_0
  split
  · exact h_s
  · refine Within.ite ?_ ?_
    · refine lowerMaxrate_within (Sub.trans (by decide) hM) ?_
      exact h_s
    · refine Within.ite ?_ ?_
      · refine lowerMaxrate_within (Sub.trans (by decide) hM) ?_
        exact h_s
      · exact h_s

theorem jetsIdle_within {A : Nat} {u : State} {q : Nat} {s : State} (hM : Sub 0x100 A) (h_s : Within A u s) :
    Within A u (jetsIdle q s) := by
  unfold jetsIdle
  refine Within.jets_ (Sub.bit hM (by decide)) ?_
  exact h_s

theorem wrJetStat_within {A : Nat} {u : State} {a : Agent} {n v : Nat} {s : State} (hM : Sub 0x1000000000000100 A) (h_s : Within A u s) :
    Within A u (wrJetStat a n v s).2 := by
  unfold wrJetStat
  refine Within.ite1 ?_ ?_
  · refine Within.snd1 ?_
    exact h_s
  · extract_lets -merge -useContext +onlyGivenNames was_0 free_1 per_2 s1_3 s2_4 s3_5 w_6
    have hs1_3 : Within A u s1_3 := by
      refine State.setIf_within (Sub.trans (by decide) hM) (inMask (JET_STAT_BLK_RATE_win _) (Sub.bit hM (by decide))) ?_
      exact h_s
    have hs2_4 : Within A u s2_4 := by
      refine State.setIf_within (Sub.trans (by decide) hM) (inMask (JET_STAT_BLK_WIDE_win _) (Sub.bit hM (by decide))) ?_
      exact hs1_3
    have hs3_5 : Within A u s3_5 := by
      refine State.setIf_within (Sub.trans (by decide) hM) (inMask (JET_STAT_BLK_SPARE_win _) (Sub.bit hM (by decide))) ?_
      exact hs2_4
    refine Within.snd1 ?_
    refine Within.ite ?_ ?_
    · refine Within.jets_ (Sub.bit hM (by decide)) ?_
      exact hs3_5
    · exact hs3_5

theorem execBlockClear_within {A : Nat} {u : State} {a : Agent} {ch : Fin 512} {mask : Nat} {s : State} (hM : Sub 0x1000000000000101 A)
    (h_s : Within A u s) :
    OutWithin A u (execBlockClear a ch mask s) := by
  unfold execBlockClear
  refine OutWithin.ok ?_
  refine answered_within (Sub.trans (by decide) hM) ?_
  refine atIngress_within (Sub.trans (by decide) hM) ?_ ?_
  · intro y0 hy1
    refine wrJetStat_within (Sub.trans (by decide) hM) ?_
    exact hy1
  · exact h_s

theorem jetsForceOff_within {A : Nat} {u : State} {b : Nat} {s : State} (hM : Sub 0x100 A) (h_s : Within A u s) :
    Within A u (jetsForceOff b s) := by
  unfold jetsForceOff
  refine Within.jets_ (Sub.bit hM (by decide)) ?_
  exact h_s

theorem jetsReset_within {A : Nat} {u : State} {b : Nat} {s : State} (hM : Sub 0x1000000000000100 A) (h_s : Within A u s) :
    Within A u (jetsReset b s) := by
  unfold jetsReset
  extract_lets -merge -useContext +onlyGivenNames s_0 w_1
  have hs_0 : Within A u s_0 := by
    refine jetsForceOff_within (Sub.trans (by decide) hM) ?_
    refine resetRegs_within _ _ 13198438694912 13199508242431 60 1 0x1000000000000000 (by decide) (by decide) (by decide) (Sub.trans (by decide) hM) (by omega) (by omega) ?_
    exact h_s
  refine Within.jets_ (Sub.bit hM (by decide)) ?_
  exact hs_0

theorem execBankMaxrateWrite_within {A : Nat} {u : State} {a : Agent} {b : Fin 32} {code : Nat} {s : State} (hM : Sub 0x800000000000001
    A) (h_s : Within A u s) :
    OutWithin A u (execBankMaxrateWrite a b code s) := by
  unfold execBankMaxrateWrite
  refine OutWithin.ok ?_
  refine answered_within (Sub.trans (by decide) hM) ?_
  refine Within.ite1 ?_ ?_
  · refine Within.snd1 ?_
    exact h_s
  · refine wrJetBankCtl_within (Sub.trans (by decide) hM) ?_
    exact h_s

theorem execPmuSample_within {A : Nat} {u : State} {ch : Fin 512} {measured : Int} {clamped : Option Bool} {s : State} (hM : Sub
    0x100000000000011C A) (h_s : Within A u s) :
    OutWithin A u (execPmuSample ch measured clamped s) := by
  unfold execPmuSample
  refine OutWithin.whenOk ?_ ?_
  · exact h_s
  · refine pmuSample_within (Sub.trans (by decide) hM) ?_
    exact h_s

theorem applySpare_within {A : Nat} {u : State} {b : Nat} {s : State} (hM : Sub 0x80000000000000C A) (h_s : Within A u s) :
    Within A u (applySpare b s) := by
  unfold applySpare
  extract_lets -merge -useContext +onlyGivenNames old_0 new_1
  refine Within.ite ?_ ?_
  · exact h_s
  · refine raise_within (Sub.trans (by decide) hM) ?_
    refine set_within _ (inMask (JET_BANK_STAT_SPARE_ACT_win _) (Sub.bit hM (by decide))) ?_
    exact h_s

theorem execPmuConnect_within {A : Nat} {u : State} {ch : Fin 512} {s : State} (hM : Sub 0x100 A) (h_s : Within A u s) :
    OutWithin A u (execPmuConnect ch s) := by
  unfold execPmuConnect
  refine OutWithin.whenOk ?_ ?_
  · exact h_s
  · refine Within.jets_ (Sub.bit hM (by decide)) ?_
    exact h_s

theorem jetsTick_within {A : Nat} {u : State} {s : State} (hM : Sub 0x11C A) (h_s : Within A u s) :
    Within A u (jetsTick s) := by
  unfold jetsTick
  extract_lets -merge -useContext +onlyGivenNames back_0 w_1 w_2 s_3
  have hs_3 : Within A u s_3 := by
    refine Within.upd (s := s) ?_ rfl (fun _ _ => rfl) (.inr rfl) (.inr rfl) (.inr rfl) (.inr rfl) (.inl (Sub.bit hM (by decide))) (.inr rfl) (.inr rfl) (.inr rfl) (.inl (Sub.bit hM (by decide))) (.inr rfl) (.inr rfl) (.inr rfl) (.inr rfl) (.inr rfl) (.inr rfl) (.inr rfl) (.inr rfl) (.inr rfl) (.inr rfl) (.inr rfl) (.inr rfl) (.inr rfl) (.inr rfl) (.inr rfl) (.inr rfl) (.inr rfl) (.inr rfl) (.inr rfl) (.inr rfl) (fun c => ⟨c.regs, c.hbm, c.flash, c.cfg, c.editions, c.ledger, c.ring, c.queue, c.seqs, c.cores⟩) (Otp.same rfl rfl rfl rfl rfl rfl)
    exact h_s
  refine forEach_within ?_ _ ?_
  · intro y4 y5 hy6
    beta_reduce
    refine raise_within (Sub.trans (by decide) hM) ?_
    exact hy6
  · exact hs_3

end Sys2Proof.Machine
end

