-- ==== Sys2Proof/Laws/WithinHbm.lean ====
section
/-! SUPPORT. What each operation of Machine/Hbm.lean can reach (see Laws/Within.lean). -/
set_option Elab.async false
namespace Sys2Proof.Machine

theorem countMoved_within {A : Nat} {u : State} {cls lines : Nat} {s : State} (hM : Sub 0x800 A) (h_s : Within A u s) :
    Within A u (countMoved cls lines s) := by
  unfold countMoved
  refine Within.hbm_ (Sub.bit hM (by decide)) ?_
  exact h_s

theorem hbmQuiet_within {A : Nat} {u : State} {s : State} (hM : Sub 0x800 A) (h_s : Within A u s) :
    Within A u (hbmQuiet s) := by
  unfold hbmQuiet
  refine Within.hbm_ (Sub.bit hM (by decide)) ?_
  exact h_s

theorem hbmRegsReset_within {A : Nat} {u : State} {s : State} (hM : Sub 0x7A800000000000000000000 A) (h_s : Within A u s) :
    Within A u (hbmRegsReset s) := by
  unfold hbmRegsReset
  extract_lets -merge -useContext +onlyGivenNames s_0 s_1 s_2
  have hs_0 : Within A u s_0 := by
    refine resetRegs_within _ _ 13205950693376 13205950710783 83 1 0x800000000000000000000 (by decide) (by decide) (by decide) (Sub.trans (by decide) hM) (by omega) (by omega) ?_
    exact h_s
  have hs_1 : Within A u s_1 := by
    refine resetRegs_within _ _ 13205950726144 13205950727167 85 1 0x2000000000000000000000 (by decide) (by decide) (by decide) (Sub.trans (by decide) hM) (by omega) (by omega) ?_
    exact hs_0
  have hs_2 : Within A u s_2 := by
    refine resetRegs_within _ _ 13205950728192 13205950758911 87 2 0x18000000000000000000000 (by decide) (by decide) (by decide) (Sub.trans (by decide) hM) (by omega) (by omega) ?_
    exact hs_1
  refine resetRegs_within _ _ 13205950758912 13207024435199 89 2 0x60000000000000000000000 (by decide) (by decide) (by decide) (Sub.trans (by decide) hM) (by omega) (by omega) ?_
  exact hs_2

theorem passAbort_within {A : Nat} {u : State} {s : State} (hM : Sub 0x2000000180060000000011C A) (h_s : Within A u s) :
    Within A u (passAbort s) := by
  unfold passAbort
  extract_lets -merge -useContext +onlyGivenNames s_0
  have hs_0 : Within A u s_0 := by
    refine set_within _ (inMask (HBM_PASS_GO_win) (Sub.bit hM (by decide))) ?_
    exact h_s
  split
  · refine sluEnd_within (Sub.trans (by decide) hM) ?_
    exact hs_0
  · exact hs_0

theorem hbmPowerOff_within {A : Nat} {u : State} {s : State} (hM : Sub 0x7B80000180060000000091C A) (h_s : Within A u s) :
    Within A u (hbmPowerOff s) := by
  unfold hbmPowerOff
  extract_lets -merge -useContext +onlyGivenNames s_0 w_1
  have hs_0 : Within A u s_0 := by
    refine hbmQuiet_within (Sub.trans (by decide) hM) ?_
    refine set_within _ (inMask (HBM_STAT_STATE_win) (Sub.bit hM (by decide))) ?_
    refine hbmRegsReset_within (Sub.trans (by decide) hM) ?_
    refine passAbort_within (Sub.trans (by decide) hM) ?_
    exact h_s
  refine Within.hbm_ (Sub.bit hM (by decide)) ?_
  exact hs_0

theorem imageMarkOff_within {A : Nat} {u : State} {line : Nat} {s : State} (hM : Sub 0x20000000000000 A) (h_s : Within A u s) :
    Within A u (imageMarkOff line s) := by
  unfold imageMarkOff
  extract_lets -merge -useContext +onlyGivenNames a_0
  refine Within.ite ?_ ?_
  · refine set_within _ (inMask (LDR_CACHE_FULL_OK_win) (Sub.bit hM (by decide))) ?_
    exact h_s
  · refine Within.ite ?_ ?_
    · refine set_within _ (inMask (LDR_CACHE_SLOT_OK_win) (Sub.bit hM (by decide))) ?_
      exact h_s
    · exact h_s

theorem hbmUncorr_within {A : Nat} {u : State} {line found src : Nat} {s : State} (hM : Sub 0x200000002000000800080C A) (h_s : Within A u
    s) :
    Within A u (hbmUncorr line found src s) := by
  unfold hbmUncorr
  extract_lets -merge -useContext +onlyGivenNames s_0 e_1 w_2 s_3 w_4 s_5
  have hs_0 : Within A u s_0 := by
    refine imageMarkOff_within (Sub.trans (by decide) hM) ?_
    refine State.count_within (Sub.trans (by decide) hM) (inMask (HBM_ECC_STAT_UNCORR_win) (Sub.bit hM (by decide))) ?_
    exact h_s
  have hs_3 : Within A u s_3 := by
    refine noteSign_within (Sub.trans (by decide) hM) ?_
    refine Within.hbm_ (Sub.bit hM (by decide)) ?_
    exact hs_0
  have hs_5 : Within A u s_5 := by
    refine Within.ite ?_ ?_
    · refine Within.hbm_ (Sub.bit hM (by decide)) ?_
      exact hs_3
    · refine State.count_within (Sub.trans (by decide) hM) (inMask (HBM_ECC_STAT_LOST_win) (Sub.bit hM (by decide))) ?_
      exact hs_3
  refine raise_within (Sub.trans (by decide) hM) ?_
  exact hs_5

theorem execHbmSelfRefreshExit_within {A : Nat} {u : State} {s : State} (hM : Sub 0x11000000000000000000000 A) (h_s : Within A u s) :
    OutWithin A u (execHbmSelfRefreshExit s) := by
  unfold execHbmSelfRefreshExit
  refine OutWithin.whenOk ?_ ?_
  · exact h_s
  · refine set_within _ (inMask (HBM_SPARE_USED_win) (Sub.bit hM (by decide))) ?_
    refine set_within _ (inMask (HBM_STAT_STATE_win) (Sub.bit hM (by decide))) ?_
    exact h_s

theorem wrHbmCfg_within {A : Nat} {u : State} {a : Agent} {v : Nat} {s : State} (hM : Sub 0x800000000000000000000 A) (h_s : Within A u s) :
    Within A u (wrHbmCfg a v s).2 := by
  unfold wrHbmCfg
  refine Within.ite1 ?_ ?_
  · refine Within.snd1 ?_
    exact h_s
  · refine Within.ite1 ?_ ?_
    · refine Within.snd1 ?_
      exact h_s
    · refine Within.ite1 ?_ ?_
      · refine Within.snd1 ?_
        exact h_s
      · refine Within.snd1 ?_
        refine writeFlds_within (Sub.trans (by decide) hM) (inMasks (HBM_CFG_fields_win) (Sub.bit hM (by decide))) ?_
        exact h_s

theorem wrHbmEccCtl_within {A : Nat} {u : State} {a : Agent} {v : Nat} {s : State} (hM : Sub 0x2000000000000000000000 A) (h_s : Within A
    u s) :
    Within A u (wrHbmEccCtl a v s).2 := by
  unfold wrHbmEccCtl
  refine Within.ite1 ?_ ?_
  · refine Within.snd1 ?_
    exact h_s
  · refine Within.ite1 ?_ ?_
    · refine Within.snd1 ?_
      exact h_s
    · refine Within.snd1 ?_
      refine writeFlds_within (Sub.trans (by decide) hM) (inMasks (HBM_ECC_CTL_fields_win) (Sub.bit hM (by decide))) ?_
      exact h_s

theorem hbmRetain_within {A : Nat} {u : State} {s : State} (hM : Sub 0x2100000180060000000091C A) (h_s : Within A u s) :
    Within A u (hbmRetain s) := by
  unfold hbmRetain
  refine hbmQuiet_within (Sub.trans (by decide) hM) ?_
  refine set_within _ (inMask (HBM_STAT_STATE_win) (Sub.bit hM (by decide))) ?_
  refine passAbort_within (Sub.trans (by decide) hM) ?_
  exact h_s

theorem wrHbmPlain_within {A : Nat} {u : State} {l : List (Acc × Fld)} {a : Agent} {v : Nat} {s : State} (hM : Sub 0x0 A) (h_l : ∀ p ∈ l,
    InMask A p.2) (h_s : Within A u s) :
    Within A u (wrHbmPlain l a v s).2 := by
  unfold wrHbmPlain
  refine Within.ite1 ?_ ?_
  · refine Within.snd1 ?_
    exact h_s
  · refine Within.snd1 ?_
    refine writeFlds_within (Sub.trans (by decide) hM) h_l ?_
    exact h_s

theorem execHbmFlipArm_within {A : Nat} {u : State} {a : Agent} {v : Nat} {s : State} (hM : Sub 0x8000000000000000000001 A) (h_s : Within
    A u s) :
    OutWithin A u (execHbmFlipArm a v s) := by
  unfold execHbmFlipArm
  refine OutWithin.ok ?_
  refine answered_within (Sub.trans (by decide) hM) ?_
  refine atIngress_within (Sub.trans (by decide) hM) ?_ ?_
  · intro y0 hy1
    refine wrHbmPlain_within (Sub.trans (by decide) hM) (inMasks (HBM_FLIP_CTL_fields_win) (Sub.bit hM (by decide))) ?_
    exact hy1
  · exact h_s

theorem takeLines_within {A : Nat} {u : State} {c n : Nat} {s : State} (hM : Sub 0x800 A) (h_s : Within A u s) :
    Within A u (takeLines c n s) := by
  unfold takeLines
  extract_lets -merge -useContext +onlyGivenNames share_0 t_1 w_2
  have ht_1 : Within A u t_1 := by
    refine countMoved_within (Sub.trans (by decide) hM) ?_
    exact h_s
  refine Within.ite ?_ ?_
  · refine countMoved_within (Sub.trans (by decide) hM) ?_
    exact h_s
  · refine Within.hbm_ (Sub.bit hM (by decide)) ?_
    exact ht_1

theorem activate_within {A : Nat} {u : State} {bank row : Nat} {s : State} (hM : Sub 0x800 A) (h_s : Within A u s) :
    Within A u (activate bank row s) := by
  unfold activate
  extract_lets -merge -useContext +onlyGivenNames l_0 here_1 n_2 l'_3 due_4 w_5
  refine Within.hbm_ (Sub.bit hM (by decide)) ?_
  exact h_s

theorem openRow_within {A : Nat} {u : State} {a : Nat} {s : State} (hM : Sub 0x800 A) (h_s : Within A u s) :
    Within A u (openRow a s) := by
  unfold openRow
  extract_lets -merge -useContext +onlyGivenNames b_0 r_1 w_2
  refine Within.ite ?_ ?_
  · exact h_s
  · refine activate_within (Sub.trans (by decide) hM) ?_
    refine Within.hbm_ (Sub.bit hM (by decide)) ?_
    exact h_s

theorem hbmCorr1_within {A : Nat} {u : State} {s : State} (hM : Sub 0x200000000000000000080C A) (h_s : Within A u s) :
    Within A u (hbmCorr1 s) := by
  unfold hbmCorr1
  extract_lets -merge -useContext +onlyGivenNames s_0 w_1 s_2
  have hs_0 : Within A u s_0 := by
    refine State.count_within (Sub.trans (by decide) hM) (inMask (HBM_ECC_STAT_CORR_win) (Sub.bit hM (by decide))) ?_
    exact h_s
  have hs_2 : Within A u s_2 := by
    refine Within.hbm_ (Sub.bit hM (by decide)) ?_
    exact hs_0
  refine Within.ite ?_ ?_
  · refine raise_within (Sub.trans (by decide) hM) ?_
    refine set_within _ (inMask (HBM_ECC_STAT_LEVEL_win) (Sub.bit hM (by decide))) ?_
    refine set_within _ (inMask (HBM_ECC_STAT_OVERFLOW_win) (Sub.bit hM (by decide))) ?_
    exact hs_2
  · refine set_within _ (inMask (HBM_ECC_STAT_LEVEL_win) (Sub.bit hM (by decide))) ?_
    exact hs_2

theorem hbmCorr_within {A : Nat} {u : State} {n : Nat} {s : State} (hM : Sub 0x200000000000000000080C A) (h_s : Within A u s) :
    Within A u (hbmCorr n s) := by
  unfold hbmCorr
  refine forNat_within ?_ _ ?_
  · intro y0 y1 hy2
    beta_reduce
    refine hbmCorr1_within (Sub.trans (by decide) hM) ?_
    exact hy2
  · exact h_s

theorem scrubLine_within {A : Nat} {u : State} {line found : Nat} {s : State} (hM : Sub 0x200000002000000800080C A) (h_s : Within A u s) :
    Within A u (scrubLine line found s) := by
  unfold scrubLine
  extract_lets -merge -useContext +onlyGivenNames s_0 w_1
  have hs_0 : Within A u s_0 := by
    refine openRow_within (Sub.trans (by decide) hM) ?_
    exact h_s
  refine Within.ite ?_ ?_
  · refine hbmUncorr_within (Sub.trans (by decide) hM) ?_
    exact hs_0
  · refine hbmCorr_within (Sub.trans (by decide) hM) ?_
    refine Within.hbm_ (Sub.bit hM (by decide)) ?_
    exact hs_0

theorem passEnd_within {A : Nat} {u : State} {s : State} (hM : Sub 0x2200000182060000800091C A) (h_s : Within A u s) :
    Within A u (passEnd s) := by
  unfold passEnd
  extract_lets -merge -useContext +onlyGivenNames lo_0 n_1 l_2 unc_3 cor_4 s_5 s_6 s_7
  have hs_5 : Within A u s_5 := by
    refine takeLines_within (Sub.trans (by decide) hM) ?_
    refine forEach_within ?_ _ ?_
    · intro y8 y9 hy10
      beta_reduce
      refine scrubLine_within (Sub.trans (by decide) hM) ?_
      exact hy10
    · exact h_s
  have hs_6 : Within A u s_6 := by
    refine set_within _ (inMask (HBM_PASS_SUM_LINES_win) (Sub.bit hM (by decide))) ?_
    refine set_within _ (inMask (HBM_PASS_SUM_CORR_win) (Sub.bit hM (by decide))) ?_
    refine set_within _ (inMask (HBM_PASS_SUM_UNCORR_win) (Sub.bit hM (by decide))) ?_
    exact hs_5
  have hs_7 : Within A u s_7 := by
    refine raise_within (Sub.trans (by decide) hM) ?_
    refine set_within _ (inMask (HBM_PASS_GO_win) (Sub.bit hM (by decide))) ?_
    exact hs_6
  split
  · refine sluEnd_within (Sub.trans (by decide) hM) ?_
    exact hs_7
  · exact hs_7

theorem checkLine_within {A : Nat} {u : State} {line found src : Nat} {s : State} (hM : Sub 0x200000002000000800080C A) (h_s : Within A u
    s) :
    Within A u (checkLine line found src s).2 := by
  unfold checkLine
  refine Within.ite1 ?_ ?_
  · refine Within.snd1 ?_
    refine hbmUncorr_within (Sub.trans (by decide) hM) ?_
    exact h_s
  · refine Within.snd1 ?_
    refine hbmCorr_within (Sub.trans (by decide) hM) ?_
    refine Within.hbm_ (Sub.bit hM (by decide)) ?_
    exact h_s

theorem lineRead_within {A : Nat} {u : State} {line found src : Nat} {s : State} (hM : Sub 0x200000002000000800080C A) (h_s : Within A u
    s) :
    Within A u (lineRead line found src s).2 := by
  unfold lineRead
  extract_lets -merge -useContext +onlyGivenNames s_0 c_1
  have hs_0 : Within A u s_0 := by
    refine openRow_within (Sub.trans (by decide) hM) ?_
    exact h_s
  have hc_1 : Within A u c_1.2 := by
    refine checkLine_within (Sub.trans (by decide) hM) ?_
    exact hs_0
  refine Within.snd1 ?_
  exact hc_1

theorem execHbmTrainingEnd_within {A : Nat} {u : State} {good : Bool} {channel : Fin 8} {s : State} (hM : Sub 0x1100000000000000000000C
    A) (h_s : Within A u s) :
    OutWithin A u (execHbmTrainingEnd good channel s) := by
  unfold execHbmTrainingEnd
  refine OutWithin.whenOk ?_ ?_
  · exact h_s
  · refine Within.ite ?_ ?_
    · refine set_within _ (inMask (HBM_SPARE_USED_win) (Sub.bit hM (by decide))) ?_
      refine set_within _ (inMask (HBM_STAT_STATE_win) (Sub.bit hM (by decide))) ?_
      exact h_s
    · refine raise_within (Sub.trans (by decide) hM) ?_
      refine set_within _ (inMask (HBM_STAT_STATE_win) (Sub.bit hM (by decide))) ?_
      exact h_s

theorem execHbmTemperature_within {A : Nat} {u : State} {c : Nat} {s : State} (hM : Sub 0x100000000000000000000C A) (h_s : Within A u s) :
    OutWithin A u (execHbmTemperature c s) := by
  unfold execHbmTemperature
  extract_lets -merge -useContext +onlyGivenNames t_0
  have ht_0 : Within A u t_0 := by
    refine set_within _ (inMask (HBM_STAT_TEMP_win) (Sub.bit hM (by decide))) ?_
    exact h_s
  refine OutWithin.ite ?_ ?_
  · refine OutWithin.ok ?_
    refine raise_within (Sub.trans (by decide) hM) ?_
    refine set_within _ (inMask (HBM_STAT_HOT_win) (Sub.bit hM (by decide))) ?_
    exact ht_0
  · refine OutWithin.ite ?_ ?_
    · refine OutWithin.ok ?_
      refine raise_within (Sub.trans (by decide) hM) ?_
      refine set_within _ (inMask (HBM_STAT_HOT_win) (Sub.bit hM (by decide))) ?_
      exact ht_0
    · refine OutWithin.ok ?_
      exact ht_0

theorem strikeWord_within {A : Nat} {u : State} {line : Nat} {u_ : WordUpset} {s : State} (hM : Sub 0x800 A) (h_s : Within A u s) :
    Within A u (strikeWord line u_ s) := by
  unfold strikeWord
  extract_lets -merge -useContext +onlyGivenNames m_0 m_1 w_2 w_3
  refine Within.ite ?_ ?_
  · refine Within.hbm_ (Sub.bit hM (by decide)) ?_
    exact h_s
  · refine Within.hbm_ (Sub.bit hM (by decide)) ?_
    exact h_s

theorem execHbmScrubLine_within {A : Nat} {u : State} {u_ : Option WordUpset} {s : State} (hM : Sub 0x200000002000000800080C A) (h_s :
    Within A u s) :
    OutWithin A u (execHbmScrubLine u_ s) := by
  unfold execHbmScrubLine
  extract_lets -merge -useContext +onlyGivenNames l_0 s1_1 s2_2 w_3
  have hs1_1 : Within A u s1_1 := by
    unfold s1_1
    split
    · refine strikeWord_within (Sub.trans (by decide) hM) ?_
      exact h_s
    · exact h_s
  have hs2_2 : Within A u s2_2 := by
    refine takeLines_within (Sub.trans (by decide) hM) ?_
    refine scrubLine_within (Sub.trans (by decide) hM) ?_
    exact hs1_1
  refine OutWithin.whenOk ?_ ?_
  · exact h_s
  · refine Within.hbm_ (Sub.bit hM (by decide)) ?_
    exact hs2_2

theorem wrHbmPass_within {A : Nat} {u : State} {a : Agent} {v : Nat} {s : State} (hM : Sub 0x2000000000024000000083C A) (h_s : Within A u
    s) :
    Within A u (wrHbmPass a v s).2 := by
  unfold wrHbmPass
  extract_lets -merge -useContext +onlyGivenNames n_0
  refine Within.ite1 ?_ ?_
  · refine Within.snd1 ?_
    exact h_s
  · refine Within.ite1 ?_ ?_
    · refine Within.snd1 ?_
      refine writeFlds_within (Sub.trans (by decide) hM) (inMasks (HBM_PASS_fields_win) (Sub.bit hM (by decide))) ?_
      exact h_s
    · refine Within.ite1 ?_ ?_
      · refine Within.snd1 ?_
        exact h_s
      · split
        · refine Within.snd1 ?_
          refine writeFlds_within (Sub.trans (by decide) hM) (inMasks (HBM_PASS_fields_win) (Sub.bit hM (by decide))) ?_
          refine Within.hbm_ (Sub.bit hM (by decide)) ?_
          refine Within.of_eq (q := (_, _)) (by assumption) ?_
          refine placeOrRetry_within (Sub.trans (by decide) hM) ?_
          exact h_s
        · refine placeOrRetry_within (Sub.trans (by decide) hM) ?_
          exact h_s

theorem lineStore_within {A : Nat} {u : State} {line : Nat} {data : List Byte} {s : State} (hM : Sub 0x8000000000000000000800 A) (h_s :
    Within A u s) :
    Within A u (lineStore line data s) := by
  unfold lineStore
  extract_lets -merge -useContext +onlyGivenNames put_0 w_1 d_2 c_3 s_4 w_5 w_6
  have hput_0 : ∀ y7 y8, Within A u y8 → Within A u (put_0 y7 y8) := by
    intro y7 y8 hy9
    unfold put_0
    refine Within.hbm_ (Sub.bit hM (by decide)) ?_
    exact hy9
  have hs_4 : Within A u s_4 := by
    apply hput_0
    refine set_within _ (inMask (HBM_FLIP_CTL_ARM_win) (Sub.bit hM (by decide))) ?_
    exact h_s
  refine Within.ite ?_ ?_
  · refine Within.ite ?_ ?_
    · exact hs_4
    · refine Within.ite ?_ ?_
      · refine Within.hbm_ (Sub.bit hM (by decide)) ?_
        exact hs_4
      · refine Within.hbm_ (Sub.bit hM (by decide)) ?_
        exact hs_4
  · apply hput_0
    exact h_s

theorem lineMerge_within {A : Nat} {u : State} {line be src : Nat} {data : List Byte} {s : State} (hM : Sub 0xA00000002000000800080C A)
    (h_s : Within A u s) :
    Within A u (lineMerge line be src data s).2 := by
  unfold lineMerge
  split
  · refine Within.snd1 ?_
    refine Within.of_eq (q := (_, _)) (by assumption) ?_
    refine lineRead_within (Sub.trans (by decide) hM) ?_
    exact h_s
  · refine Within.snd1 ?_
    refine lineStore_within (Sub.trans (by decide) hM) ?_
    refine Within.of_eq (q := (_, _)) (by assumption) ?_
    refine lineRead_within (Sub.trans (by decide) hM) ?_
    exact h_s

theorem execTargetedRefresh_within {A : Nat} {u : State} {bank : Fin 512} {row : Nat} {s : State} (hM : Sub 0x10000000000000000000800 A)
    (h_s : Within A u s) :
    OutWithin A u (execTargetedRefresh bank row s) := by
  unfold execTargetedRefresh
  extract_lets -merge -useContext +onlyGivenNames n_0 t_1 w_2
  have ht_1 : Within A u t_1 := by
    refine State.count_within (Sub.trans (by decide) hM) (inMask (HBM_DIST_TARGETED_win) (Sub.bit hM (by decide))) ?_
    exact h_s
  refine OutWithin.whenOk ?_ ?_
  · exact h_s
  · refine Within.hbm_ (Sub.bit hM (by decide)) ?_
    exact ht_1

theorem execHbmRangePass_within {A : Nat} {u : State} {a : Agent} {v : Nat} {s : State} (hM : Sub 0x2000000000024000000083D A) (h_s :
    Within A u s) :
    OutWithin A u (execHbmRangePass a v s) := by
  unfold execHbmRangePass
  refine OutWithin.ok ?_
  refine answered_within (Sub.trans (by decide) hM) ?_
  refine atIngress_within (Sub.trans (by decide) hM) ?_ ?_
  · intro y0 hy1
    refine wrHbmPass_within (Sub.trans (by decide) hM) ?_
    exact hy1
  · exact h_s

theorem promote_within {A : Nat} {u : State} {id : Nat} {s : State} (hM : Sub 0x800 A) (h_s : Within A u s) :
    Within A u (promote id s) := by
  unfold promote
  split
  · exact h_s
  · extract_lets -merge -useContext +onlyGivenNames hit_0 n_1 w_2
    refine Within.hbm_ (Sub.bit hM (by decide)) ?_
    exact h_s

theorem wrHbmAge_within {A : Nat} {u : State} {a : Agent} {v : Nat} {s : State} (hM : Sub 0x800000000000000000000 A) (h_s : Within A u s) :
    Within A u (wrHbmAge a v s).2 := by
  unfold wrHbmAge
  refine Within.ite1 ?_ ?_
  · refine Within.snd1 ?_
    exact h_s
  · refine Within.ite1 ?_ ?_
    · refine Within.snd1 ?_
      exact h_s
    · refine Within.snd1 ?_
      refine writeFlds_within (Sub.trans (by decide) hM) (inMasks (HBM_AGE_fields_win) (Sub.bit hM (by decide))) ?_
      exact h_s

theorem hbmTick_within {A : Nat} {u : State} {s : State} (hM : Sub 0x4200000000000000000080C A) (h_s : Within A u s) :
    Within A u (hbmTick s) := by
  unfold hbmTick
  extract_lets -merge -useContext +onlyGivenNames s_0 s_1 s_2 w_3
  have hs_0 : Within A u s_0 := by
    refine set_within _ (inMask (HBM_ECC_STAT_LEVEL_win) (Sub.bit hM (by decide))) ?_
    exact h_s
  have hs_1 : Within A u s_1 := by
    refine forNat_within ?_ _ ?_
    · intro y4 y5 hy6
      beta_reduce
      refine set_within _ (inMask (HBM_CLS_PROMOTED_win _) (Sub.bit hM (by decide))) ?_
      refine set_within _ (inMask (HBM_CLS_LINES_win _) (Sub.bit hM (by decide))) ?_
      exact hy6
    · exact hs_0
  have hs_2 : Within A u s_2 := by
    refine Within.ite ?_ ?_
    · exact hs_1
    · refine raise_within (Sub.trans (by decide) hM) ?_
      exact hs_1
  refine Within.hbm_ (Sub.bit hM (by decide)) ?_
  exact hs_2

theorem popErrlog_within {A : Nat} {u : State} {s : State} (hM : Sub 0x800 A) (h_s : Within A u s) :
    Within A u (popErrlog s).2 := by
  unfold popErrlog
  split
  · refine Within.snd1 ?_
    exact h_s
  · refine Within.snd1 ?_
    refine Within.hbm_ (Sub.bit hM (by decide)) ?_
    exact h_s

theorem hbmDomainReset_within {A : Nat} {u : State} {s : State} (hM : Sub 0x7B80000180060000000091C A) (h_s : Within A u s) :
    Within A u (hbmDomainReset s) := by
  unfold hbmDomainReset
  extract_lets -merge -useContext +onlyGivenNames s_0 w_1 w_2
  have hs_0 : Within A u s_0 := by
    refine hbmQuiet_within (Sub.trans (by decide) hM) ?_
    refine hbmRegsReset_within (Sub.trans (by decide) hM) ?_
    refine passAbort_within (Sub.trans (by decide) hM) ?_
    exact h_s
  have hw_1 : Within A u w_1 := by
    refine set_within _ (inMask (HBM_STAT_STATE_win) (Sub.bit hM (by decide))) ?_
    exact hs_0
  refine Within.hbm_ (Sub.bit hM (by decide)) ?_
  exact hw_1

theorem lineWrite_within {A : Nat} {u : State} {line be src : Nat} {data : List Byte} {s : State} (hM : Sub 0xA00000002000000800080C A)
    (h_s : Within A u s) :
    Within A u (lineWrite line be src data s).2 := by
  unfold lineWrite
  refine Within.ite1 ?_ ?_
  · refine Within.snd1 ?_
    refine lineStore_within (Sub.trans (by decide) hM) ?_
    refine openRow_within (Sub.trans (by decide) hM) ?_
    exact h_s
  · refine lineMerge_within (Sub.trans (by decide) hM) ?_
    exact h_s

theorem hbmEnqueue_within {A : Nat} {u : State} {src addr lines : Nat} {write : Option (List Byte)} {be seq : Nat} {regions : List
    (Option Nat)} {s : State} (hM : Sub 0x800 A) (h_s : Within A u s) :
    Within A u (hbmEnqueue src addr lines write be seq regions s) := by
  unfold hbmEnqueue
  refine Within.hbm_ (Sub.bit hM (by decide)) ?_
  exact h_s

theorem hbmReachOn_within {A : Nat} {u : State} {s : State} (hM : Sub 0x1000000000000000000800 A) (h_s : Within A u s) :
    Within A u (hbmReachOn s) := by
  unfold hbmReachOn
  refine Within.ite ?_ ?_
  · extract_lets -merge -useContext +onlyGivenNames w_0 w_1
    have hw_0 : Within A u w_0 := by
      refine set_within _ (inMask (HBM_STAT_STATE_win) (Sub.bit hM (by decide))) ?_
      exact h_s
    refine Within.hbm_ (Sub.bit hM (by decide)) ?_
    exact hw_0
  · exact h_s

theorem execHbmErrlogPop_within {A : Nat} {u : State} {a : Agent} {s : State} (hM : Sub 0x801 A) (h_s : Within A u s) :
    OutWithin A u (execHbmErrlogPop a s) := by
  unfold execHbmErrlogPop
  extract_lets -merge -useContext +onlyGivenNames p_0
  have hp_0 : Within A u p_0.2 := by
    refine popErrlog_within (Sub.trans (by decide) hM) ?_
    exact h_s
  refine OutWithin.ok ?_
  refine answerVal_within (Sub.trans (by decide) hM) ?_
  refine Within.ite ?_ ?_
  · exact h_s
  · exact hp_0

theorem execHbmPromote_within {A : Nat} {u : State} {id : Nat} {s : State} (hM : Sub 0x800 A) (h_s : Within A u s) :
    OutWithin A u (execHbmPromote id s) := by
  unfold execHbmPromote
  refine OutWithin.ok ?_
  refine promote_within (Sub.trans (by decide) hM) ?_
  exact h_s

theorem execHbmRefresh_within {A : Nat} {u : State} {bank : Fin 512} {windowStart : Bool} {s : State} (hM : Sub 0x800 A) (h_s : Within A
    u s) :
    OutWithin A u (execHbmRefresh bank windowStart s) := by
  unfold execHbmRefresh
  extract_lets -merge -useContext +onlyGivenNames w_0 t_1 w_2
  have ht_1 : Within A u t_1 := by
    refine Within.hbm_ (Sub.bit hM (by decide)) ?_
    exact h_s
  refine OutWithin.whenOk ?_ ?_
  · exact h_s
  · refine Within.ite ?_ ?_
    · refine Within.hbm_ (Sub.bit hM (by decide)) ?_
      exact ht_1
    · exact ht_1

theorem execHbmRangePassEnd_within {A : Nat} {u : State} {s : State} (hM : Sub 0x2200000182060000800091C A) (h_s : Within A u s) :
    OutWithin A u (execHbmRangePassEnd s) := by
  unfold execHbmRangePassEnd
  refine OutWithin.whenOk ?_ ?_
  · exact h_s
  · refine passEnd_within (Sub.trans (by decide) hM) ?_
    exact h_s

end Sys2Proof.Machine
end

