-- ==== Sys2Proof/Laws/WithinRoute.lean ====
section
/-! SUPPORT. What each operation of Machine/Route.lean can reach (see Laws/Within.lean). -/
set_option Elab.async false
namespace Sys2Proof.Machine

theorem nocTold_within {A : Nat} {u : State} {i : Nat} {st : Status} {s : State} (hM : Sub 0x40000 A) (h_s : Within A u s) :
    Within A u (nocTold i st s) := by
  unfold nocTold
  refine Within.ite ?_ ?_
  · refine Within.noc_ (Sub.bit hM (by decide)) ?_
    exact h_s
  · refine Within.ite ?_ ?_
    · refine Within.noc_ (Sub.bit hM (by decide)) ?_
      exact h_s
    · exact h_s

theorem nocReach_within {A : Nat} {u : State} {i addr reqs flits : Nat} {s : State} (hM : Sub 0x40000 A) (h_s : Within A u s) :
    Within A u (nocReach i addr reqs flits s).2 := by
  unfold nocReach
  split
  · refine Within.snd1 ?_
    exact h_s
  · refine Within.ite1 ?_ ?_
    · refine Within.snd1 ?_
      refine nocTold_within (Sub.trans (by decide) hM) ?_
      exact h_s
    · refine Within.snd1 ?_
      refine Within.noc_ (Sub.bit hM (by decide)) ?_
      exact h_s

end Sys2Proof.Machine
end

