-- ==== Sys2Proof/Laws/WithinEnc.lean ====
section
/-! SUPPORT. What each operation of Machine/Enc.lean can reach (see Laws/Within.lean). -/
set_option Elab.async false
namespace Sys2Proof.Machine

theorem requireRekey_within {A : Nat} {u : State} {r : Nat} {s : State} (hM : Sub 0x200000000000000000000000 A) (h_s : Within A u s) :
    Within A u (requireRekey r s) := by
  unfold requireRekey
  refine State.setIf_within (Sub.trans (by decide) hM) (inMask (ENC_REG_CTL_STATE_win _) (Sub.bit hM (by decide))) ?_
  exact h_s

theorem cachePut_within {A : Nat} {u : State} {n : EncNode} {s : State} (hM : Sub 0x1000 A) (h_s : Within A u s) :
    Within A u (cachePut n s) := by
  unfold cachePut
  refine Within.enc_ (Sub.bit hM (by decide)) ?_
  exact h_s

theorem poisonChild_within {A : Nat} {u : State} {p : Option EncNode} {r j : Nat} {s : State} (hM : Sub 0x1000 A) (h_s : Within A u s) :
    Within A u (poisonChild p r j s) := by
  unfold poisonChild
  split
  · refine cachePut_within (Sub.trans (by decide) hM) ?_
    exact h_s
  · refine Within.enc_ (Sub.bit hM (by decide)) ?_
    exact h_s

theorem nodeFails_within {A : Nat} {u : State} {p : Option EncNode} {r l j : Nat} {s : State} (hM : Sub 0x20000000000000000000100C A)
    (h_s : Within A u s) :
    Within A u (nodeFails p r l j s) := by
  unfold nodeFails
  refine raise_within (Sub.trans (by decide) hM) ?_
  refine requireRekey_within (Sub.trans (by decide) hM) ?_
  refine poisonChild_within (Sub.trans (by decide) hM) ?_
  exact h_s

theorem forgetTree_within {A : Nat} {u : State} {r : Nat} {s : State} (hM : Sub 0x1000 A) (h_s : Within A u s) :
    Within A u (forgetTree r s) := by
  unfold forgetTree
  refine Within.enc_ (Sub.bit hM (by decide)) ?_
  exact h_s

theorem makeRoom_within {A : Nat} {u : State} {s : State} (hM : Sub 0x1000 A) (h_s : Within A u s) :
    Within A u (makeRoom s) := by
  unfold makeRoom
  refine Within.ite ?_ ?_
  · exact h_s
  · split
    · refine Within.enc_ (Sub.bit hM (by decide)) ?_
      exact h_s
    · exact h_s

theorem fetchNode.loadNode_within {A : Nat} {u : State} {r l j : Nat} {p : Option EncNode} {e : Nat × Bool} {s : State} (hM : Sub
    0x20200000002000000800180C A) (h_s : Within A u s) :
    Within A u (fetchNode.loadNode r l j p e s).2 := by
  unfold fetchNode.loadNode
  refine Within.ite1 ?_ ?_
  · refine Within.snd1 ?_
    exact h_s
  · refine Within.ite1 ?_ ?_
    · extract_lets -merge -useContext +onlyGivenNames n_0
      refine Within.snd1 ?_
      refine cachePut_within (Sub.trans (by decide) hM) ?_
      refine makeRoom_within (Sub.trans (by decide) hM) ?_
      exact h_s
    · split
      · refine Within.snd1 ?_
        refine nodeFails_within (Sub.trans (by decide) hM) ?_
        refine Within.of_eq (q := (_, _)) (by assumption) ?_
        refine lineRead_within (Sub.trans (by decide) hM) ?_
        exact h_s
      · extract_lets -merge -useContext +onlyGivenNames n_1 tag_2
        refine Within.ite1 ?_ ?_
        · refine Within.snd1 ?_
          refine cachePut_within (Sub.trans (by decide) hM) ?_
          refine makeRoom_within (Sub.trans (by decide) hM) ?_
          refine Within.of_eq (q := (_, _)) (by assumption) ?_
          refine lineRead_within (Sub.trans (by decide) hM) ?_
          exact h_s
        · refine Within.snd1 ?_
          refine nodeFails_within (Sub.trans (by decide) hM) ?_
          refine Within.of_eq (q := (_, _)) (by assumption) ?_
          refine lineRead_within (Sub.trans (by decide) hM) ?_
          exact h_s

theorem fetchNode_within {A : Nat} {u : State} {r a1 a2 a3 : Nat} {a4 : State} (hM : Sub 0x20200000002000000800180C A) (h_a4 : Within A u
    a4) :
    Within A u (fetchNode r a1 a2 a3 a4).2 := by
  induction a1 generalizing a2 a3 a4 with
  | zero =>
    unfold fetchNode
    split
    · exact h_a4
    · exact fetchNode.loadNode_within (Sub.trans (by decide) hM) h_a4
  | succ n ih =>
    unfold fetchNode
    split
    · exact h_a4
    · dsimp only
      split
      · exact Within.of_eq (q := (_, _)) (by assumption) (ih h_a4)
      · exact fetchNode.loadNode_within (Sub.trans (by decide) hM) (Within.of_eq (q := (_, _)) (by assumption) (ih h_a4))

theorem nodeEntry_within {A : Nat} {u : State} {r h l j : Nat} {s : State} (hM : Sub 0x20200000002000000800180C A) (h_s : Within A u s) :
    Within A u (nodeEntry r h l j s).2 := by
  unfold nodeEntry
  refine Within.ite1 ?_ ?_
  · refine Within.snd1 ?_
    exact h_s
  · split
    · refine Within.snd1 ?_
      refine Within.of_eq (q := (_, _)) (by assumption) ?_
      refine fetchNode_within (Sub.trans (by decide) hM) ?_
      exact h_s
    · refine Within.snd1 ?_
      refine Within.of_eq (q := (_, _)) (by assumption) ?_
      refine fetchNode_within (Sub.trans (by decide) hM) ?_
      exact h_s

theorem draw_within {A : Nat} {u : State} {s : State} (hM : Sub 0x1000 A) (h_s : Within A u s) :
    Within A u (draw s).2 := by
  unfold draw
  refine Within.snd1 ?_
  refine Within.enc_ (Sub.bit hM (by decide)) ?_
  exact h_s

theorem setKeyId_within {A : Nat} {u : State} {k st : Nat} {s : State} (hM : Sub 0x1000 A) (h_s : Within A u s) :
    Within A u (setKeyId k st s) := by
  unfold setKeyId
  refine Within.enc_ (Sub.bit hM (by decide)) ?_
  exact h_s

theorem allocKey_within {A : Nat} {u : State} {k : Nat} {s : State} (hM : Sub 0x1000 A) (h_s : Within A u s) :
    Within A u (allocKey k s) := by
  unfold allocKey
  extract_lets -merge -useContext +onlyGivenNames d_0 t_1 s_2 w_3
  have hd_0 : Within A u d_0.2 := by
    refine draw_within (Sub.trans (by decide) hM) ?_
    exact h_s
  have ht_1 : Within A u t_1.2 := by
    refine draw_within (Sub.trans (by decide) hM) ?_
    exact hd_0
  have hs_2 : Within A u s_2 := by
    refine setKeyId_within (Sub.trans (by decide) hM) ?_
    exact ht_1
  refine Within.enc_ (Sub.bit hM (by decide)) ?_
  exact hs_2

theorem startRekey_within {A : Nat} {u : State} {r cause : Nat} {s : State} (hM : Sub 0x20000000000000000000100C A) (h_s : Within A u s) :
    Within A u (startRekey r cause s) := by
  unfold startRekey
  split
  · refine Within.ite ?_ ?_
    · exact h_s
    · refine raise_within (Sub.trans (by decide) hM) ?_
      refine set_within _ (inMask (ENC_REG_CTL_PEND_win _) (Sub.bit hM (by decide))) ?_
      refine Within.enc_ (Sub.bit hM (by decide)) ?_
      exact h_s
  · extract_lets -merge -useContext +onlyGivenNames old_0 gone_1 s_2 s_3 w_4 s_5
    have hs_2 : Within A u s_2 := by
      refine allocKey_within (Sub.trans (by decide) hM) ?_
      exact h_s
    have hs_3 : Within A u s_3 := by
      refine set_within _ (inMask (ENC_REG_WM_WATERMARK_win _) (Sub.bit hM (by decide))) ?_
      refine set_within _ (inMask (ENC_REG_CTL_PEND_win _) (Sub.bit hM (by decide))) ?_
      refine set_within _ (inMask (ENC_REG_CTL_KEYID_win _) (Sub.bit hM (by decide))) ?_
      refine set_within _ (inMask (ENC_REG_CTL_STATE_win _) (Sub.bit hM (by decide))) ?_
      exact hs_2
    have hs_5 : Within A u s_5 := by
      refine Within.enc_ (Sub.bit hM (by decide)) ?_
      exact hs_3
    refine raise_within (Sub.trans (by decide) hM) ?_
    exact hs_5

theorem counterReached_within {A : Nat} {u : State} {r ctr : Nat} {s : State} (hM : Sub 0x20000000000000000000100C A) (h_s : Within A u s) :
    Within A u (counterReached r ctr s) := by
  unfold counterReached
  refine Within.ite ?_ ?_
  · refine startRekey_within (Sub.trans (by decide) hM) ?_
    exact h_s
  · exact h_s

theorem nodeBack_within {A : Nat} {u : State} {n : EncNode} {p : Option EncNode} {s : State} (hM : Sub 0x20A00000002000000800180C A) (h_s
    : Within A u s) :
    Within A u (nodeBack n p s) := by
  unfold nodeBack
  extract_lets -merge -useContext +onlyGivenNames fresh_0 ctr_1 w_2 s_3 s_4 s_5
  have hs_3 : Within A u s_3 := by
    unfold s_3
    split
    · refine cachePut_within (Sub.trans (by decide) hM) ?_
      exact h_s
    · refine Within.enc_ (Sub.bit hM (by decide)) ?_
      exact h_s
  have hs_4 : Within A u s_4 := by
    refine lineWrite_within (Sub.trans (by decide) hM) ?_
    exact hs_3
  have hs_5 : Within A u s_5 := by
    refine cachePut_within (Sub.trans (by decide) hM) ?_
    exact hs_4
  refine counterReached_within (Sub.trans (by decide) hM) ?_
  exact hs_5

theorem fetchParent_within {A : Nat} {u : State} {r l j : Nat} {s : State} (hM : Sub 0x20200000002000000800180C A) (h_s : Within A u s) :
    Within A u (fetchParent r l j s).2 := by
  unfold fetchParent
  extract_lets -merge -useContext +onlyGivenNames h_0
  refine Within.ite1 ?_ ?_
  · refine Within.snd1 ?_
    exact h_s
  · split
    · refine Within.snd1 ?_
      refine Within.of_eq (q := (_, _)) (by assumption) ?_
      refine fetchNode_within (Sub.trans (by decide) hM) ?_
      exact h_s
    · refine Within.ite1 ?_ ?_
      · refine Within.snd1 ?_
        refine Within.of_eq (q := (_, _)) (by assumption) ?_
        refine fetchNode_within (Sub.trans (by decide) hM) ?_
        exact h_s
      · refine Within.snd1 ?_
        refine Within.of_eq (q := (_, _)) (by assumption) ?_
        refine fetchNode_within (Sub.trans (by decide) hM) ?_
        exact h_s

theorem backOne_within {A : Nat} {u : State} {n : EncNode} {s : State} (hM : Sub 0x20A00000002000000800180C A) (h_s : Within A u s) :
    Within A u (backOne n s) := by
  unfold backOne
  split
  · refine nodeBack_within (Sub.trans (by decide) hM) ?_
    refine Within.of_eq (q := (_, _)) (by assumption) ?_
    refine fetchParent_within (Sub.trans (by decide) hM) ?_
    exact h_s
  · refine Within.of_eq (q := (_, _)) (by assumption) ?_
    refine fetchParent_within (Sub.trans (by decide) hM) ?_
    exact h_s

theorem evictOne_within {A : Nat} {u : State} {s : State} (hM : Sub 0x20A00000002000000800180C A) (h_s : Within A u s) :
    Within A u (evictOne s) := by
  unfold evictOne
  split
  · refine Within.enc_ (Sub.bit hM (by decide)) ?_
    exact h_s
  · split
    · extract_lets -merge -useContext +onlyGivenNames t_0 w_1
      have ht_0 : Within A u t_0 := by
        refine backOne_within (Sub.trans (by decide) hM) ?_
        exact h_s
      refine Within.enc_ (Sub.bit hM (by decide)) ?_
      exact ht_0
    · exact h_s

theorem fetchLeaf_within {A : Nat} {u : State} {r i : Nat} {s : State} (hM : Sub 0x20200000002000000800180C A) (h_s : Within A u s) :
    Within A u (fetchLeaf r i s).2 := by
  unfold fetchLeaf
  refine fetchNode_within (Sub.trans (by decide) hM) ?_
  exact h_s

theorem poisonLine_within {A : Nat} {u : State} {r i src found : Nat} {n : EncNode} {s : State} (hM : Sub 0x20000000000000000000100C A)
    (h_s : Within A u s) :
    Within A u (poisonLine r i src found n s) := by
  unfold poisonLine
  extract_lets -merge -useContext +onlyGivenNames s_0 s_1 w_2 s_3
  have hs_0 : Within A u s_0 := by
    refine cachePut_within (Sub.trans (by decide) hM) ?_
    exact h_s
  have hs_1 : Within A u s_1 := by
    refine State.count_within (Sub.trans (by decide) hM) (inMask (ENC_REG_STAT_POISONED_win _) (Sub.bit hM (by decide))) ?_
    exact hs_0
  have hs_3 : Within A u s_3 := by
    refine Within.enc_ (Sub.bit hM (by decide)) ?_
    exact hs_1
  refine raise_within (Sub.trans (by decide) hM) ?_
  exact hs_3

theorem passPoison_within {A : Nat} {u : State} {r i : Nat} {s : State} (hM : Sub 0x20200000002000000800180C A) (h_s : Within A u s) :
    Within A u (passPoison r i s) := by
  unfold passPoison
  split
  · refine Within.ite ?_ ?_
    · refine Within.of_eq (q := (_, _)) (by assumption) ?_
      refine fetchLeaf_within (Sub.trans (by decide) hM) ?_
      exact h_s
    · refine poisonLine_within (Sub.trans (by decide) hM) ?_
      refine Within.of_eq (q := (_, _)) (by assumption) ?_
      refine fetchLeaf_within (Sub.trans (by decide) hM) ?_
      exact h_s
  · refine Within.of_eq (q := (_, _)) (by assumption) ?_
    refine fetchLeaf_within (Sub.trans (by decide) hM) ?_
    exact h_s

theorem passTag_within {A : Nat} {u : State} {r line : Nat} {s : State} (hM : Sub 0x20200000002000000800180C A) (h_s : Within A u s) :
    Within A u (passTag r line s) := by
  unfold passTag
  extract_lets -merge -useContext +onlyGivenNames t_0
  have ht_0 : Within A u t_0 := by
    refine scrubLine_within (Sub.trans (by decide) hM) ?_
    exact h_s
  refine Within.ite ?_ ?_
  · exact ht_0
  · refine forNat_within ?_ _ ?_
    · intro y1 y2 hy3
      beta_reduce
      refine passPoison_within (Sub.trans (by decide) hM) ?_
      exact hy3
    · exact ht_0

theorem sealLine_within {A : Nat} {u : State} {r i key ctr src : Nat} {data : List Byte} {s : State} (hM : Sub 0xA00000002000000800080C
    A) (h_s : Within A u s) :
    Within A u (sealLine r i key ctr src data s) := by
  unfold sealLine
  extract_lets -merge -useContext +onlyGivenNames a_0 iv_1 ct_2 tag_3 s_4 at__5 b_6
  have hs_4 : Within A u s_4 := by
    refine lineWrite_within (Sub.trans (by decide) hM) ?_
    exact h_s
  refine lineMerge_within (Sub.trans (by decide) hM) ?_
  exact hs_4

theorem keyedStore_within {A : Nat} {u : State} {r i src : Nat} {n : EncNode} {data : List Byte} {s : State} (hM : Sub
    0x20A00000002000000800180C A) (h_s : Within A u s) :
    Within A u (keyedStore r i src n data s) := by
  unfold keyedStore
  extract_lets -merge -useContext +onlyGivenNames ctr_0 s_1 s_2
  have hs_1 : Within A u s_1 := by
    refine cachePut_within (Sub.trans (by decide) hM) ?_
    exact h_s
  have hs_2 : Within A u s_2 := by
    refine sealLine_within (Sub.trans (by decide) hM) ?_
    exact hs_1
  refine counterReached_within (Sub.trans (by decide) hM) ?_
  exact hs_2

theorem openLine_within {A : Nat} {u : State} {r i key ctr found src : Nat} {s : State} (hM : Sub 0x200000002000000800080C A) (h_s :
    Within A u s) :
    Within A u (openLine r i key ctr found src s).2 := by
  unfold openLine
  extract_lets -merge -useContext +onlyGivenNames a_0 iv_1
  split
  · refine Within.snd1 ?_
    refine Within.of_eq (q := (_, _)) (by assumption) ?_
    refine lineRead_within (Sub.trans (by decide) hM) ?_
    exact h_s
  · split
    · refine Within.snd1 ?_
      refine Within.of_eq (q := (_, _)) (by assumption) ?_
      refine lineRead_within (Sub.trans (by decide) hM) ?_
      refine Within.of_eq (q := (_, _)) (by assumption) ?_
      refine lineRead_within (Sub.trans (by decide) hM) ?_
      exact h_s
    · extract_lets -merge -useContext +onlyGivenNames tag_2
      refine Within.ite1 ?_ ?_
      · refine Within.snd1 ?_
        refine Within.of_eq (q := (_, _)) (by assumption) ?_
        refine lineRead_within (Sub.trans (by decide) hM) ?_
        refine Within.of_eq (q := (_, _)) (by assumption) ?_
        refine lineRead_within (Sub.trans (by decide) hM) ?_
        exact h_s
      · refine Within.snd1 ?_
        refine Within.of_eq (q := (_, _)) (by assumption) ?_
        refine lineRead_within (Sub.trans (by decide) hM) ?_
        refine Within.of_eq (q := (_, _)) (by assumption) ?_
        refine lineRead_within (Sub.trans (by decide) hM) ?_
        exact h_s

theorem keyedRead_within {A : Nat} {u : State} {r i src found : Nat} {s : State} (hM : Sub 0x20200000002000000800180C A) (h_s : Within A
    u s) :
    Within A u (keyedRead r i src found s).2 := by
  unfold keyedRead
  split
  · refine Within.snd1 ?_
    refine Within.of_eq (q := (_, _)) (by assumption) ?_
    refine fetchLeaf_within (Sub.trans (by decide) hM) ?_
    exact h_s
  · refine Within.ite1 ?_ ?_
    · refine Within.snd1 ?_
      refine Within.of_eq (q := (_, _)) (by assumption) ?_
      refine fetchLeaf_within (Sub.trans (by decide) hM) ?_
      exact h_s
    · extract_lets -merge -useContext +onlyGivenNames ctr_0
      refine Within.ite1 ?_ ?_
      · refine Within.snd1 ?_
        refine Within.of_eq (q := (_, _)) (by assumption) ?_
        refine fetchLeaf_within (Sub.trans (by decide) hM) ?_
        exact h_s
      · split
        · refine Within.snd1 ?_
          refine Within.of_eq (q := (_, _)) (by assumption) ?_
          refine openLine_within (Sub.trans (by decide) hM) ?_
          refine Within.of_eq (q := (_, _)) (by assumption) ?_
          refine fetchLeaf_within (Sub.trans (by decide) hM) ?_
          exact h_s
        · refine Within.snd1 ?_
          refine poisonLine_within (Sub.trans (by decide) hM) ?_
          refine Within.of_eq (q := (_, _)) (by assumption) ?_
          refine openLine_within (Sub.trans (by decide) hM) ?_
          refine Within.of_eq (q := (_, _)) (by assumption) ?_
          refine fetchLeaf_within (Sub.trans (by decide) hM) ?_
          exact h_s

theorem keyedWrite_within {A : Nat} {u : State} {r i be src : Nat} {data : List Byte} {s : State} (hM : Sub 0x20A00000002000000800180C A)
    (h_s : Within A u s) :
    Within A u (keyedWrite r i be src data s).2 := by
  unfold keyedWrite
  split
  · refine Within.snd1 ?_
    refine Within.of_eq (q := (_, _)) (by assumption) ?_
    refine fetchLeaf_within (Sub.trans (by decide) hM) ?_
    exact h_s
  · refine Within.ite1 ?_ ?_
    · refine Within.snd1 ?_
      refine Within.of_eq (q := (_, _)) (by assumption) ?_
      refine fetchLeaf_within (Sub.trans (by decide) hM) ?_
      exact h_s
    · refine Within.ite1 ?_ ?_
      · refine Within.snd1 ?_
        refine keyedStore_within (Sub.trans (by decide) hM) ?_
        refine Within.of_eq (q := (_, _)) (by assumption) ?_
        refine fetchLeaf_within (Sub.trans (by decide) hM) ?_
        exact h_s
      · split
        · refine Within.snd1 ?_
          refine Within.of_eq (q := (_, _)) (by assumption) ?_
          refine keyedRead_within (Sub.trans (by decide) hM) ?_
          refine Within.of_eq (q := (_, _)) (by assumption) ?_
          refine fetchLeaf_within (Sub.trans (by decide) hM) ?_
          exact h_s
        · refine Within.snd1 ?_
          refine keyedStore_within (Sub.trans (by decide) hM) ?_
          refine Within.of_eq (q := (_, _)) (by assumption) ?_
          refine keyedRead_within (Sub.trans (by decide) hM) ?_
          refine Within.of_eq (q := (_, _)) (by assumption) ?_
          refine fetchLeaf_within (Sub.trans (by decide) hM) ?_
          exact h_s

theorem cacheTrim_within {A : Nat} {u : State} {s : State} (hM : Sub 0x20A00000002000000800180C A) (h_s : Within A u s) :
    Within A u (cacheTrim s) := by
  unfold cacheTrim
  refine forNat_within ?_ _ ?_
  · intro y0 y1 hy2
    beta_reduce
    refine Within.ite ?_ ?_
    · exact hy2
    · refine evictOne_within (Sub.trans (by decide) hM) ?_
      exact hy2
  · exact h_s

theorem putLineFor_within {A : Nat} {u : State} {reg : Option Nat} {src line be : Nat} {data : List Byte} {s : State} (hM : Sub
    0x20A00000002000000800180C A) (h_s : Within A u s) :
    Within A u (putLineFor reg src line be data s).2 := by
  unfold putLineFor
  split
  · refine lineWrite_within (Sub.trans (by decide) hM) ?_
    exact h_s
  · extract_lets -merge -useContext +onlyGivenNames x_0
    have hx_0 : Within A u x_0.2 := by
      refine keyedWrite_within (Sub.trans (by decide) hM) ?_
      exact h_s
    refine Within.snd1 ?_
    refine cacheTrim_within (Sub.trans (by decide) hM) ?_
    exact hx_0

theorem retireKey_within {A : Nat} {u : State} {k : Nat} {s : State} (hM : Sub 0x1000 A) (h_s : Within A u s) :
    Within A u (retireKey k s) := by
  unfold retireKey
  refine Within.ite ?_ ?_
  · refine setKeyId_within (Sub.trans (by decide) hM) ?_
    exact h_s
  · exact h_s

theorem poisonLines_within {A : Nat} {u : State} {r : Nat} {s : State} (hM : Sub 0x1000 A) (h_s : Within A u s) :
    Within A u (poisonLines r s) := by
  unfold poisonLines
  refine Within.enc_ (Sub.bit hM (by decide)) ?_
  exact h_s

theorem poisonRegion_within {A : Nat} {u : State} {r : Nat} {s : State} (hM : Sub 0x200000000000000000001000 A) (h_s : Within A u s) :
    Within A u (poisonRegion r s) := by
  unfold poisonRegion
  refine Within.ite ?_ ?_
  · extract_lets -merge -useContext +onlyGivenNames s_0 s_1 w_2
    have hs_0 : Within A u s_0 := by
      refine Within.ite ?_ ?_
      · refine retireKey_within (Sub.trans (by decide) hM) ?_
        exact h_s
      · exact h_s
    have hs_1 : Within A u s_1 := by
      refine set_within _ (inMask (ENC_REG_WM_WATERMARK_win _) (Sub.bit hM (by decide))) ?_
      refine set_within _ (inMask (ENC_REG_CTL_STATE_win _) (Sub.bit hM (by decide))) ?_
      exact hs_0
    refine poisonLines_within (Sub.trans (by decide) hM) ?_
    refine Within.enc_ (Sub.bit hM (by decide)) ?_
    exact hs_1
  · exact h_s

theorem encForced_within {A : Nat} {u : State} {s : State} (hM : Sub 0x20000000000000000000100C A) (h_s : Within A u s) :
    Within A u (encForced s) := by
  unfold encForced
  extract_lets -merge -useContext +onlyGivenNames l_0 w_1 t_2
  have ht_2 : Within A u t_2 := by
    refine forEach_within ?_ _ ?_
    · intro y3 y4 hy5
      refine poisonRegion_within (Sub.trans (by decide) hM) ?_
      exact hy5
    · refine Within.enc_ (Sub.bit hM (by decide)) ?_
      exact h_s
  refine Within.ite ?_ ?_
  · exact ht_2
  · refine raise_within (Sub.trans (by decide) hM) ?_
    exact ht_2

theorem flushCache_within {A : Nat} {u : State} {s : State} (hM : Sub 0x20A00000002000000800180C A) (h_s : Within A u s) :
    Within A u (flushCache s) := by
  unfold flushCache
  extract_lets -merge -useContext +onlyGivenNames s_0 w_1
  have hs_0 : Within A u s_0 := by
    refine foldl_within0 ?_ _ _ ?_
    · intro y2 y4 hy3
      beta_reduce
      refine forEach_within ?_ _ ?_
      · intro y5 y6 hy7
        refine backOne_within (Sub.trans (by decide) hM) ?_
        exact hy7
      · exact hy3
    · exact h_s
  refine Within.enc_ (Sub.bit hM (by decide)) ?_
  exact hs_0

theorem hbmPutLine_within {A : Nat} {u : State} {src line be : Nat} {data : List Byte} {s : State} (hM : Sub 0x20A00000002000000800180C
    A) (h_s : Within A u s) :
    Within A u (hbmPutLine src line be data s).2 := by
  unfold hbmPutLine
  refine putLineFor_within (Sub.trans (by decide) hM) ?_
  exact h_s

theorem lineByAgent_within {A : Nat} {u : State} {a : Agent} {addr be : Nat} {data : List Byte} {s : State} (hM : Sub
    0x20A00000002000000800180C A) (h_s : Within A u s) :
    Within A u (lineByAgent a addr be data s).2 := by
  unfold lineByAgent
  refine Within.ite1 ?_ ?_
  · refine Within.snd1 ?_
    exact h_s
  · refine Within.ite1 ?_ ?_
    · refine Within.snd1 ?_
      exact h_s
    · split
      · refine Within.snd1 ?_
        exact h_s
      · refine hbmPutLine_within (Sub.trans (by decide) hM) ?_
        refine takeLines_within (Sub.trans (by decide) hM) ?_
        exact h_s

theorem treePassSum_within {A : Nat} {u : State} {unc corr checked : Nat} {s : State} (hM : Sub 0x10000000180060000000011C A) (h_s :
    Within A u s) :
    Within A u (treePassSum unc corr checked s) := by
  unfold treePassSum
  extract_lets -merge -useContext +onlyGivenNames t_0 t_1
  have ht_0 : Within A u t_0 := by
    refine set_within _ (inMask (ENC_PASS_SUM_CHECKED_win) (Sub.bit hM (by decide))) ?_
    refine set_within _ (inMask (ENC_PASS_SUM_CORR_win) (Sub.bit hM (by decide))) ?_
    refine set_within _ (inMask (ENC_PASS_SUM_UNCORR_win) (Sub.bit hM (by decide))) ?_
    exact h_s
  have ht_1 : Within A u t_1 := by
    refine raise_within (Sub.trans (by decide) hM) ?_
    refine set_within _ (inMask (ENC_PASS_GO_win) (Sub.bit hM (by decide))) ?_
    exact ht_0
  split
  · refine sluEnd_within (Sub.trans (by decide) hM) ?_
    exact ht_1
  · exact ht_1

theorem walkNode_within {A : Nat} {u : State} {r h l : Nat} {w : TreeWalk} {j : Nat} (hM : Sub 0x20200000002000000800180C A) (h_w : Within A u w.st) :
    Within A u (walkNode r h l w j).st := by
  have g := nodeEntry_within (r := r) (h := h) (l := l) (j := j) (Sub.trans (by decide) hM) h_w
  unfold walkNode
  split
  · rename_i e
    exact Within.of_eq e g
  · rename_i e
    have g2 := Within.of_eq e g
    split
    · exact g2
    · split
      · exact Within.of_eq (by assumption) (fetchNode_within (Sub.trans (by decide) hM) g2)
      · exact Within.of_eq (by assumption) (fetchNode_within (Sub.trans (by decide) hM) g2)

theorem walkLevel_within {A : Nat} {u : State} {r h : Nat} {w : TreeWalk} {l : Nat} (hM : Sub 0x20200000002000000800180C A)
    (h_w : Within A u w.st) : Within A u (walkLevel r h w l).st := by
  unfold walkLevel
  extract_lets n js
  have g : ∀ (js : List Nat) (w : TreeWalk), Within A u w.st → Within A u (js.foldl (walkNode r h l) w).st := by
    intro js
    induction js with
    | nil => exact fun _ h => h
    | cons j js ih => exact fun w hw => ih _ (walkNode_within hM hw)
  exact g js _ h_w

theorem treeWalk_within {A : Nat} {u : State} {r : Nat} {s : State} (hM : Sub 0x20200000002000000800180C A) (h_s : Within A u s) :
    Within A u (treeWalk r s).st := by
  unfold treeWalk
  extract_lets h
  have g : ∀ (ls : List Nat) (w : TreeWalk), Within A u w.st → Within A u (ls.foldl (walkLevel r h) w).st := by
    intro ls
    induction ls with
    | nil => exact fun _ h => h
    | cons j js ih => exact fun w hw => ih _ (walkLevel_within hM hw)
  exact g _ _ h_s

theorem treePassEnd_within {A : Nat} {u : State} {s : State} (hM : Sub 0x30A00000182060000800191C A) (h_s : Within A u s) :
    Within A u (treePassEnd s) := by
  unfold treePassEnd
  extract_lets -merge -useContext +onlyGivenNames r_0 n_1 w_2 tags_3 unc_4 t_5
  have ht_5 : Within A u t_5 := by
    refine forEach_within ?_ _ ?_
    · intro y6 y7 hy8
      refine passTag_within (Sub.trans (by decide) hM) ?_
      exact hy8
    · exact treeWalk_within (Sub.trans (by decide) hM) h_s
  refine cacheTrim_within (Sub.trans (by decide) hM) ?_
  refine treePassSum_within (Sub.trans (by decide) hM) ?_
  exact ht_5

theorem enableRegion_within {A : Nat} {u : State} {r : Nat} {s : State} (hM : Sub 0x200000000000000000001000 A) (h_s : Within A u s) :
    Within A u (enableRegion r s).2 := by
  unfold enableRegion
  refine Within.ite1 ?_ ?_
  · refine Within.snd1 ?_
    exact h_s
  · split
    · refine Within.snd1 ?_
      exact h_s
    · extract_lets -merge -useContext +onlyGivenNames s_0
      have hs_0 : Within A u s_0 := by
        refine forgetTree_within (Sub.trans (by decide) hM) ?_
        refine allocKey_within (Sub.trans (by decide) hM) ?_
        exact h_s
      refine Within.snd1 ?_
      refine set_within _ (inMask (ENC_REG_CTL_PEND_win _) (Sub.bit hM (by decide))) ?_
      refine set_within _ (inMask (ENC_REG_CTL_KEYID_win _) (Sub.bit hM (by decide))) ?_
      refine set_within _ (inMask (ENC_REG_CTL_STATE_win _) (Sub.bit hM (by decide))) ?_
      refine set_within _ (inMask (ENC_REG_CTL_EN_win _) (Sub.bit hM (by decide))) ?_
      exact hs_0

theorem passLeaves_within {A : Nat} {u : State} {r : Nat} {s : State} (hM : Sub 0x10000000180060000000111C A) (h_s : Within A u s) :
    Within A u (passLeaves r s) := by
  unfold passLeaves
  refine Within.ite ?_ ?_
  · extract_lets -merge -useContext +onlyGivenNames n_0 w_1
    refine Within.ite ?_ ?_
    · refine treePassSum_within (Sub.trans (by decide) hM) ?_
      refine Within.enc_ (Sub.bit hM (by decide)) ?_
      exact h_s
    · refine treePassSum_within (Sub.trans (by decide) hM) ?_
      exact h_s
  · exact h_s

theorem disableRegion_within {A : Nat} {u : State} {r : Nat} {s : State} (hM : Sub 0x30000000180060000000111C A) (h_s : Within A u s) :
    Within A u (disableRegion r s) := by
  unfold disableRegion
  extract_lets -merge -useContext +onlyGivenNames rekeying_0 s_1 s_2 w_3 s_4
  have hs_1 : Within A u s_1 := by
    refine Within.ite ?_ ?_
    · exact h_s
    · refine retireKey_within (Sub.trans (by decide) hM) ?_
      exact h_s
  have hs_2 : Within A u s_2 := by
    refine Within.ite ?_ ?_
    · refine retireKey_within (Sub.trans (by decide) hM) ?_
      exact hs_1
    · exact hs_1
  have hs_4 : Within A u s_4 := by
    refine Within.enc_ (Sub.bit hM (by decide)) ?_
    exact hs_2
  refine passLeaves_within (Sub.trans (by decide) hM) ?_
  refine set_within _ (inMask (ENC_REG_WM_WATERMARK_win _) (Sub.bit hM (by decide))) ?_
  refine set_within _ (inMask (ENC_REG_CTL_PEND_win _) (Sub.bit hM (by decide))) ?_
  refine set_within _ (inMask (ENC_REG_CTL_STATE_win _) (Sub.bit hM (by decide))) ?_
  refine set_within _ (inMask (ENC_REG_CTL_EN_win _) (Sub.bit hM (by decide))) ?_
  exact hs_4

theorem wrEncCtl_within {A : Nat} {u : State} {a : Agent} {r v : Nat} {s : State} (hM : Sub 0x30000000180060000000111C A) (h_s : Within A
    u s) :
    Within A u (wrEncCtl a r v s).2 := by
  unfold wrEncCtl
  extract_lets -merge -useContext +onlyGivenNames en_0 st_1
  refine Within.ite1 ?_ ?_
  · refine Within.snd1 ?_
    exact h_s
  · refine Within.ite1 ?_ ?_
    · refine Within.snd1 ?_
      exact h_s
    · refine Within.ite1 ?_ ?_
      · refine enableRegion_within (Sub.trans (by decide) hM) ?_
        exact h_s
      · refine Within.ite1 ?_ ?_
        · refine Within.snd1 ?_
          refine disableRegion_within (Sub.trans (by decide) hM) ?_
          exact h_s
        · refine Within.ite1 ?_ ?_
          · refine Within.snd1 ?_
            refine startRekey_within (Sub.trans (by decide) hM) ?_
            exact h_s
          · refine Within.snd1 ?_
            exact h_s

theorem encTick_within {A : Nat} {u : State} {s : State} (hM : Sub 0x1000 A) (h_s : Within A u s) :
    Within A u (encTick s) := by
  unfold encTick
  refine Within.enc_ (Sub.bit hM (by decide)) ?_
  exact h_s

theorem nodesPassed_within {A : Nat} {u : State} {r i : Nat} {s : State} (hM : Sub 0x20200000002000000800180C A) (h_s : Within A u s) :
    Within A u (nodesPassed r i s) := by
  unfold nodesPassed
  extract_lets -merge -useContext +onlyGivenNames n_0 h_1
  refine forNat_within ?_ _ ?_
  · intro y2 y3 hy4
    beta_reduce
    refine Within.ite ?_ ?_
    · exact hy4
    · split
      · refine Within.ite ?_ ?_
        · refine cachePut_within (Sub.trans (by decide) hM) ?_
          refine Within.of_eq (q := (_, _)) (by assumption) ?_
          refine fetchNode_within (Sub.trans (by decide) hM) ?_
          exact hy4
        · refine Within.of_eq (q := (_, _)) (by assumption) ?_
          refine fetchNode_within (Sub.trans (by decide) hM) ?_
          exact hy4
      · refine Within.of_eq (q := (_, _)) (by assumption) ?_
        refine fetchNode_within (Sub.trans (by decide) hM) ?_
        exact hy4
  · exact h_s

theorem copyPoison_within {A : Nat} {u : State} {n : EncNode} {i : Nat} {s : State} (hM : Sub 0x1000 A) (h_s : Within A u s) :
    Within A u (copyPoison n i s) := by
  unfold copyPoison
  refine cachePut_within (Sub.trans (by decide) hM) ?_
  exact h_s

theorem moveLine_within {A : Nat} {u : State} {r : Nat} {s : State} (hM : Sub 0x20A00000002000000800180C A) (h_s : Within A u s) :
    Within A u (moveLine r s) := by
  unfold moveLine
  extract_lets -merge -useContext +onlyGivenNames wm_0 i_1 done_2
  have hdone_2 : ∀ y3, Within A u y3 → Within A u (done_2 y3) := by
    intro y3 hy4
    unfold done_2
    refine set_within _ (inMask (ENC_REG_WM_WATERMARK_win _) (Sub.bit hM (by decide))) ?_
    refine nodesPassed_within (Sub.trans (by decide) hM) ?_
    exact hy4
  split
  · apply hdone_2
    refine copyPoison_within (Sub.trans (by decide) hM) ?_
    refine Within.of_eq (q := (_, _)) (by assumption) ?_
    refine fetchLeaf_within (Sub.trans (by decide) hM) ?_
    exact h_s
  · refine Within.ite ?_ ?_
    · apply hdone_2
      refine copyPoison_within (Sub.trans (by decide) hM) ?_
      refine Within.of_eq (q := (_, _)) (by assumption) ?_
      refine fetchLeaf_within (Sub.trans (by decide) hM) ?_
      exact h_s
    · extract_lets -merge -useContext +onlyGivenNames ctr_5
      refine Within.ite ?_ ?_
      · apply hdone_2
        refine Within.of_eq (q := (_, _)) (by assumption) ?_
        refine fetchLeaf_within (Sub.trans (by decide) hM) ?_
        exact h_s
      · split
        · apply hdone_2
          refine poisonLine_within (Sub.trans (by decide) hM) ?_
          refine Within.of_eq (q := (_, _)) (by assumption) ?_
          refine openLine_within (Sub.trans (by decide) hM) ?_
          refine Within.of_eq (q := (_, _)) (by assumption) ?_
          refine fetchLeaf_within (Sub.trans (by decide) hM) ?_
          exact h_s
        · extract_lets -merge -useContext +onlyGivenNames m_6 u_7
          have hu_7 : Within A u u_7 := by
            refine cachePut_within (Sub.trans (by decide) hM) ?_
            refine Within.of_eq (q := (_, _)) (by assumption) ?_
            refine openLine_within (Sub.trans (by decide) hM) ?_
            refine Within.of_eq (q := (_, _)) (by assumption) ?_
            refine fetchLeaf_within (Sub.trans (by decide) hM) ?_
            exact h_s
          apply hdone_2
          refine sealLine_within (Sub.trans (by decide) hM) ?_
          exact hu_7

theorem execKeyedWrite_within {A : Nat} {u : State} {a : Agent} {addr be : Nat} {data : List Byte} {s : State} (hM : Sub
    0x20A00000002000000800180D A) (h_s : Within A u s) :
    OutWithin A u (execKeyedWrite a addr be data s) := by
  unfold execKeyedWrite
  refine OutWithin.ok ?_
  refine answered_within (Sub.trans (by decide) hM) ?_
  refine lineByAgent_within (Sub.trans (by decide) hM) ?_
  exact h_s

theorem treePassAbort_within {A : Nat} {u : State} {s : State} (hM : Sub 0x10000000180060000000011C A) (h_s : Within A u s) :
    Within A u (treePassAbort s) := by
  unfold treePassAbort
  extract_lets -merge -useContext +onlyGivenNames s_0
  have hs_0 : Within A u s_0 := by
    refine set_within _ (inMask (ENC_PASS_GO_win) (Sub.bit hM (by decide))) ?_
    exact h_s
  split
  · refine sluEnd_within (Sub.trans (by decide) hM) ?_
    exact hs_0
  · exact hs_0

theorem contentsPoison_within {A : Nat} {u : State} {r : Nat} {s : State} (hM : Sub 0x200000000000000000001000 A) (h_s : Within A u s) :
    Within A u (contentsPoison r s) := by
  unfold contentsPoison
  refine Within.ite ?_ ?_
  · refine poisonLines_within (Sub.trans (by decide) hM) ?_
    exact h_s
  · refine poisonRegion_within (Sub.trans (by decide) hM) ?_
    exact h_s

theorem encContentsLost_within {A : Nat} {u : State} {s : State} (hM : Sub 0x30000000180060000000111C A) (h_s : Within A u s) :
    Within A u (encContentsLost s) := by
  unfold encContentsLost
  refine treePassAbort_within (Sub.trans (by decide) hM) ?_
  refine forNat_within ?_ _ ?_
  · intro y0 y1 hy2
    refine contentsPoison_within (Sub.trans (by decide) hM) ?_
    exact hy2
  · refine Within.enc_ (Sub.bit hM (by decide)) ?_
    exact h_s

theorem wrEncPass_within {A : Nat} {u : State} {a : Agent} {v : Nat} {s : State} (hM : Sub 0x10000000000024000000103C A) (h_s : Within A
    u s) :
    Within A u (wrEncPass a v s).2 := by
  unfold wrEncPass
  refine Within.ite1 ?_ ?_
  · refine Within.snd1 ?_
    exact h_s
  · refine Within.ite1 ?_ ?_
    · refine Within.snd1 ?_
      refine writeFlds_within (Sub.trans (by decide) hM) (inMasks (ENC_PASS_fields_win) (Sub.bit hM (by decide))) ?_
      exact h_s
    · refine Within.ite1 ?_ ?_
      · refine Within.snd1 ?_
        exact h_s
      · split
        · refine Within.snd1 ?_
          refine writeFlds_within (Sub.trans (by decide) hM) (inMasks (ENC_PASS_fields_win) (Sub.bit hM (by decide))) ?_
          refine Within.enc_ (Sub.bit hM (by decide)) ?_
          refine Within.of_eq (q := (_, _)) (by assumption) ?_
          refine placeOrRetry_within (Sub.trans (by decide) hM) ?_
          exact h_s
        · refine placeOrRetry_within (Sub.trans (by decide) hM) ?_
          exact h_s

theorem execEncTreePass_within {A : Nat} {u : State} {a : Agent} {r : Fin 8} {s : State} (hM : Sub 0x10000000000024000000103D A) (h_s :
    Within A u s) :
    OutWithin A u (execEncTreePass a r s) := by
  unfold execEncTreePass
  refine OutWithin.ok ?_
  refine answered_within (Sub.trans (by decide) hM) ?_
  refine wrEncPass_within (Sub.trans (by decide) hM) ?_
  exact h_s

theorem rekeyWaits_within {A : Nat} {u : State} {r : Nat} {s : State} (hM : Sub 0x20000000000000000000100C A) (h_s : Within A u s) :
    Within A u (rekeyWaits r s) := by
  unfold rekeyWaits
  refine Within.ite ?_ ?_
  · refine startRekey_within (Sub.trans (by decide) hM) ?_
    exact h_s
  · exact h_s

theorem keyFreed_within {A : Nat} {u : State} {k : Nat} {s : State} (hM : Sub 0x20000000000000000000100C A) (h_s : Within A u s) :
    Within A u (keyFreed k s) := by
  unfold keyFreed
  extract_lets -merge -useContext +onlyGivenNames s_0 w_1 s_2
  have hs_0 : Within A u s_0 := by
    refine setKeyId_within (Sub.trans (by decide) hM) ?_
    exact h_s
  have hs_2 : Within A u s_2 := by
    refine Within.enc_ (Sub.bit hM (by decide)) ?_
    exact hs_0
  refine forNat_within ?_ _ ?_
  · intro y3 y4 hy5
    refine rekeyWaits_within (Sub.trans (by decide) hM) ?_
    exact hy5
  · refine raise_within (Sub.trans (by decide) hM) ?_
    exact hs_2

theorem execEncRekey_within {A : Nat} {u : State} {a : Agent} {r : Fin 8} {s : State} (hM : Sub 0x30000000180060000000111D A) (h_s :
    Within A u s) :
    OutWithin A u (execEncRekey a r s) := by
  unfold execEncRekey
  refine OutWithin.ok ?_
  refine answered_within (Sub.trans (by decide) hM) ?_
  refine wrEncCtl_within (Sub.trans (by decide) hM) ?_
  exact h_s

theorem eraseKeys_within {A : Nat} {u : State} {cause : Nat} {s : State} (hM : Sub 0x20000000000000000000100C A) (h_s : Within A u s) :
    Within A u (eraseKeys cause s) := by
  unfold eraseKeys
  extract_lets -merge -useContext +onlyGivenNames s_0 w_1
  have hs_0 : Within A u s_0 := by
    refine forNat_within ?_ _ ?_
    · intro y2 y3 hy4
      refine poisonRegion_within (Sub.trans (by decide) hM) ?_
      exact hy4
    · exact h_s
  refine forNat_within ?_ _ ?_
  · intro y5 y6 hy7
    refine rekeyWaits_within (Sub.trans (by decide) hM) ?_
    exact hy7
  · refine raise_within (Sub.trans (by decide) hM) ?_
    refine Within.enc_ (Sub.bit hM (by decide)) ?_
    exact hs_0

theorem flushRegion_within {A : Nat} {u : State} {r : Nat} {s : State} (hM : Sub 0x20A00000002000000800180C A) (h_s : Within A u s) :
    Within A u (flushRegion r s) := by
  unfold flushRegion
  extract_lets -merge -useContext +onlyGivenNames s_0 w_1
  have hs_0 : Within A u s_0 := by
    refine foldl_within0 ?_ _ _ ?_
    · intro y2 y4 hy3
      beta_reduce
      refine forEach_within ?_ _ ?_
      · intro y5 y6 hy7
        refine backOne_within (Sub.trans (by decide) hM) ?_
        exact hy7
      · exact hy3
    · exact h_s
  refine Within.enc_ (Sub.bit hM (by decide)) ?_
  exact hs_0

theorem lineFor_within {A : Nat} {u : State} {reg : Option Nat} {src line : Nat} {s : State} (hM : Sub 0x20A00000002000000800180C A) (h_s
    : Within A u s) :
    Within A u (lineFor reg src line s).2.2 := by
  unfold lineFor
  extract_lets -merge -useContext +onlyGivenNames x_0
  have hx_0 : Within A u x_0.2 := by
    unfold x_0
    split
    · refine lineRead_within (Sub.trans (by decide) hM) ?_
      exact h_s
    · refine keyedRead_within (Sub.trans (by decide) hM) ?_
      exact h_s
  clear_value x_0
  split
  · refine Within.snd2 ?_
    refine cacheTrim_within (Sub.trans (by decide) hM) ?_
    assumption
  · refine Within.snd2 ?_
    refine cacheTrim_within (Sub.trans (by decide) hM) ?_
    assumption

theorem linesFor_within {A : Nat} {u : State} {src line : Nat} {a1 : List (Option Nat)} {a2 : State} (hM : Sub 0x20A00000002000000800180C
    A) (h_a2 : Within A u a2) :
    Within A u (linesFor src line a1 a2).2.2 := by
  induction a1 generalizing line a2 with
  | nil => exact h_a2
  | cons r l ih => exact ih (lineFor_within (Sub.trans (by decide) hM) h_a2)

theorem hbmLines_within {A : Nat} {u : State} {src line n : Nat} {s : State} (hM : Sub 0x20A00000002000000800180C A) (h_s : Within A u s) :
    Within A u (hbmLines src line n s).2.2 := by
  unfold hbmLines
  refine linesFor_within (Sub.trans (by decide) hM) ?_
  exact h_s

theorem hbmLoad_within {A : Nat} {u : State} {src a n : Nat} {s : State} (hM : Sub 0x20A00000002000000800180C A) (h_s : Within A u s) :
    Within A u (hbmLoad src a n s).2.2 := by
  unfold hbmLoad
  refine Within.ite2 ?_ ?_
  · refine Within.snd2 ?_
    exact h_s
  · refine Within.ite2 ?_ ?_
    · refine Within.snd2 ?_
      exact h_s
    · split
      · refine Within.snd2 ?_
        exact h_s
      · refine hbmLines_within (Sub.trans (by decide) hM) ?_
        refine takeLines_within (Sub.trans (by decide) hM) ?_
        exact h_s

theorem execKeyedRead_within {A : Nat} {u : State} {a : Agent} {addr : Nat} {s : State} (hM : Sub 0x20A00000002000000800180D A) (h_s :
    Within A u s) :
    OutWithin A u (execKeyedRead a addr s) := by
  unfold execKeyedRead
  extract_lets -merge -useContext +onlyGivenNames x_0 w_1
  have hx_0 : Within A u x_0.2.2 := by
    refine hbmLoad_within (Sub.trans (by decide) hM) ?_
    exact h_s
  have hw_1 : Within A u w_1 := by
    exact hx_0
  refine OutWithin.ok ?_
  refine Within.resp_ (Sub.bit hM (by decide)) ?_
  exact hw_1

theorem execEncEnable_within {A : Nat} {u : State} {a : Agent} {r : Fin 8} {s : State} (hM : Sub 0x30000000180060000000111D A) (h_s :
    Within A u s) :
    OutWithin A u (execEncEnable a r s) := by
  unfold execEncEnable
  refine OutWithin.ok ?_
  refine answered_within (Sub.trans (by decide) hM) ?_
  refine wrEncCtl_within (Sub.trans (by decide) hM) ?_
  exact h_s

theorem execEncTreePassEnd_within {A : Nat} {u : State} {s : State} (hM : Sub 0x30A00000182060000800191C A) (h_s : Within A u s) :
    OutWithin A u (execEncTreePassEnd s) := by
  unfold execEncTreePassEnd
  refine OutWithin.whenOk ?_ ?_
  · exact h_s
  · refine treePassEnd_within (Sub.trans (by decide) hM) ?_
    exact h_s

theorem putLinesFor_within {A : Nat} {u : State} {src line be : Nat} {a1 : List (Option Nat)} {a2 : List Byte} {a3 : State} (hM : Sub
    0x20A00000002000000800180C A) (h_a3 : Within A u a3) :
    Within A u (putLinesFor src line be a1 a2 a3).2 := by
  induction a1 generalizing line a2 a3 with
  | nil => exact h_a3
  | cons r l ih => exact ih (putLineFor_within (Sub.trans (by decide) hM) h_a3)

theorem hbmPutLines_within {A : Nat} {u : State} {src line n : Nat} {b : List Byte} {s : State} (hM : Sub 0x20A00000002000000800180C A)
    (h_s : Within A u s) :
    Within A u (hbmPutLines src line n b s).2 := by
  unfold hbmPutLines
  refine putLinesFor_within (Sub.trans (by decide) hM) ?_
  exact h_s

theorem wrEncRange_within {A : Nat} {u : State} {a : Agent} {r v : Nat} {s : State} (hM : Sub 0x200000000000000000000000 A) (h_s : Within
    A u s) :
    Within A u (wrEncRange a r v s).2 := by
  unfold wrEncRange
  refine Within.ite1 ?_ ?_
  · refine Within.snd1 ?_
    exact h_s
  · refine Within.ite1 ?_ ?_
    · refine Within.snd1 ?_
      exact h_s
    · refine Within.snd1 ?_
      refine writeFlds_within (Sub.trans (by decide) hM) (inMasks (ENC_REG_RANGE_fields_win _) (Sub.bit hM (by decide))) ?_
      exact h_s

theorem nocLoad_within {A : Nat} {u : State} {src a n : Nat} {s : State} (hM : Sub 0x20A00000002000000804180C A) (h_s : Within A u s) :
    Within A u (nocLoad src a n s).2.2 := by
  unfold nocLoad
  split
  · refine Within.snd2 ?_
    refine Within.of_eq (q := (_, _)) (by assumption) ?_
    refine nocReach_within (Sub.trans (by decide) hM) ?_
    exact h_s
  · refine hbmLoad_within (Sub.trans (by decide) hM) ?_
    refine Within.of_eq (q := (_, _)) (by assumption) ?_
    refine nocReach_within (Sub.trans (by decide) hM) ?_
    exact h_s

theorem hbmSave_within {A : Nat} {u : State} {src a n : Nat} {b : List Byte} {s : State} (hM : Sub 0x20A00000002000000800180C A) (h_s :
    Within A u s) :
    Within A u (hbmSave src a n b s).2 := by
  unfold hbmSave
  refine Within.ite1 ?_ ?_
  · refine Within.snd1 ?_
    exact h_s
  · refine Within.ite1 ?_ ?_
    · refine Within.snd1 ?_
      exact h_s
    · split
      · refine Within.snd1 ?_
        exact h_s
      · refine hbmPutLines_within (Sub.trans (by decide) hM) ?_
        refine takeLines_within (Sub.trans (by decide) hM) ?_
        exact h_s

theorem nocSave_within {A : Nat} {u : State} {src a n : Nat} {b : List Byte} {s : State} (hM : Sub 0x20A00000002000000804180C A) (h_s :
    Within A u s) :
    Within A u (nocSave src a n b s).2 := by
  unfold nocSave
  split
  · refine Within.snd1 ?_
    refine Within.of_eq (q := (_, _)) (by assumption) ?_
    refine nocReach_within (Sub.trans (by decide) hM) ?_
    exact h_s
  · refine hbmSave_within (Sub.trans (by decide) hM) ?_
    refine Within.of_eq (q := (_, _)) (by assumption) ?_
    refine nocReach_within (Sub.trans (by decide) hM) ?_
    exact h_s

theorem hbmObject_within {A : Nat} {u : State} {addr : Nat} {w : Option (List Byte)} {s : State} (hM : Sub 0x20A00000002000000804180C A)
    (h_s : Within A u s) :
    Within A u (hbmObject addr w s).2.2 := by
  unfold hbmObject
  refine Within.ite2 ?_ ?_
  · refine Within.snd2 ?_
    exact h_s
  · split
    · refine nocLoad_within (Sub.trans (by decide) hM) ?_
      exact h_s
    · refine Within.ite2 ?_ ?_
      · refine Within.snd2 ?_
        exact h_s
      · extract_lets -merge -useContext +onlyGivenNames x_0
        have hx_0 : Within A u x_0.2 := by
          refine nocSave_within (Sub.trans (by decide) hM) ?_
          exact h_s
        refine Within.snd2 ?_
        exact hx_0

theorem execRekeyLineMove_within {A : Nat} {u : State} {r : Fin 8} {s : State} (hM : Sub 0x20A00000002000000800180C A) (h_s : Within A u
    s) :
    OutWithin A u (execRekeyLineMove r s) := by
  unfold execRekeyLineMove
  refine OutWithin.whenOk ?_ ?_
  · exact h_s
  · refine cacheTrim_within (Sub.trans (by decide) hM) ?_
    refine moveLine_within (Sub.trans (by decide) hM) ?_
    refine takeLines_within (Sub.trans (by decide) hM) ?_
    exact h_s

theorem execHbmAccessObject_within {A : Nat} {u : State} {addr : Nat} {w : Option (List Byte)} {s : State} (hM : Sub
    0x20A00000002000000804180D A) (h_s : Within A u s) :
    OutWithin A u (execHbmAccessObject addr w s) := by
  unfold execHbmAccessObject
  extract_lets -merge -useContext +onlyGivenNames x_0 w_1 w_2
  have hx_0 : Within A u x_0.2.2 := by
    refine hbmObject_within (Sub.trans (by decide) hM) ?_
    exact h_s
  have hw_1 : Within A u w_1 := by
    exact hx_0
  refine OutWithin.ok ?_
  refine Within.upd (s := w_1) ?_ rfl (fun _ _ => rfl) (.inl (Sub.bit hM (by decide))) (.inr rfl) (.inr rfl) (.inr rfl) (.inr rfl) (.inr rfl) (.inr rfl) (.inr rfl) (.inr rfl) (.inr rfl) (.inr rfl) (.inl (Sub.bit hM (by decide))) (.inr rfl) (.inr rfl) (.inr rfl) (.inr rfl) (.inr rfl) (.inr rfl) (.inr rfl) (.inr rfl) (.inr rfl) (.inr rfl) (.inr rfl) (.inr rfl) (.inr rfl) (.inr rfl) (.inr rfl) (.inr rfl) (.inr rfl) (fun c => ⟨c.regs, c.hbm, c.flash, c.cfg, c.editions, c.ledger, c.ring, c.queue, c.seqs, c.cores⟩) (Otp.same rfl rfl rfl rfl rfl rfl)
  exact hw_1

theorem execRekeyComplete_within {A : Nat} {u : State} {r : Fin 8} {s : State} (hM : Sub 0x20A00000002000000800180C A) (h_s : Within A u
    s) :
    OutWithin A u (execRekeyComplete r s) := by
  unfold execRekeyComplete
  extract_lets -merge -useContext +onlyGivenNames old_0 t_1 t_2 t_3 w_4 t_5
  have ht_1 : Within A u t_1 := by
    refine flushRegion_within (Sub.trans (by decide) hM) ?_
    exact h_s
  have ht_2 : Within A u t_2 := by
    refine retireKey_within (Sub.trans (by decide) hM) ?_
    exact ht_1
  have ht_3 : Within A u t_3 := by
    refine set_within _ (inMask (ENC_REG_WM_WATERMARK_win _) (Sub.bit hM (by decide))) ?_
    refine set_within _ (inMask (ENC_REG_CTL_STATE_win _) (Sub.bit hM (by decide))) ?_
    exact ht_2
  have ht_5 : Within A u t_5 := by
    refine Within.enc_ (Sub.bit hM (by decide)) ?_
    exact ht_3
  refine OutWithin.whenOk ?_ ?_
  · exact h_s
  · refine raise_within (Sub.trans (by decide) hM) ?_
    exact ht_5

theorem execNodeWriteback_within {A : Nat} {u : State} {r : Fin 8} {level j : Nat} {s : State} (hM : Sub 0x20A00000002000000800180C A)
    (h_s : Within A u s) :
    OutWithin A u (execNodeWriteback r level j s) := by
  unfold execNodeWriteback
  split
  · refine OutWithin.ok ?_
    exact h_s
  · refine OutWithin.whenOk ?_ ?_
    · exact h_s
    · refine backOne_within (Sub.trans (by decide) hM) ?_
      exact h_s

theorem execKeyRetired_within {A : Nat} {u : State} {k : Fin 16} {s : State} (hM : Sub 0x20000000000000000000100C A) (h_s : Within A u s) :
    OutWithin A u (execKeyRetired k s) := by
  unfold execKeyRetired
  refine OutWithin.whenOk ?_ ?_
  · exact h_s
  · refine keyFreed_within (Sub.trans (by decide) hM) ?_
    exact h_s

theorem execEncDisable_within {A : Nat} {u : State} {a : Agent} {r : Fin 8} {s : State} (hM : Sub 0x30000000180060000000111D A) (h_s :
    Within A u s) :
    OutWithin A u (execEncDisable a r s) := by
  unfold execEncDisable
  refine OutWithin.ok ?_
  refine answered_within (Sub.trans (by decide) hM) ?_
  refine wrEncCtl_within (Sub.trans (by decide) hM) ?_
  exact h_s

end Sys2Proof.Machine
end

