-- ==== Sys2Proof/Laws/WithinFailFifo.lean ====
section
/-! SUPPORT. What each operation of Machine/FailFifo.lean can reach (see Laws/Within.lean). -/
set_option Elab.async false
namespace Sys2Proof.Machine

theorem putPauseSrc_within {A : Nat} {u : State} {q v : Nat} {s : State} (hM : Sub 0x200000000000002000 A) (h_s : Within A u s) :
    Within A u (putPauseSrc q v s) := by
  unfold putPauseSrc
  extract_lets -merge -useContext +onlyGivenNames s_0
  have hs_0 : Within A u s_0 := by
    refine set_within _ (inMask (SEQ_STAT_PAUSE_SRC_win _) (Sub.bit hM (by decide))) ?_
    exact h_s
  refine Within.ite ?_ ?_
  · refine modEng_within (Sub.trans (by decide) hM) ?_
    exact hs_0
  · exact hs_0

theorem setPauseSrc_within {A : Nat} {u : State} {q b : Nat} {x : Bool} {s : State} (hM : Sub 0x200000000000002000 A) (h_s : Within A u s) :
    Within A u (setPauseSrc q b x s) := by
  unfold setPauseSrc
  refine putPauseSrc_within (Sub.trans (by decide) hM) ?_
  exact h_s

theorem fcThrottle_within {A : Nat} {u : State} {q : Nat} {s : State} (hM : Sub 0x120000000000000200C A) (h_s : Within A u s) :
    Within A u (fcThrottle q s) := by
  unfold fcThrottle
  extract_lets -merge -useContext +onlyGivenNames n_0
  refine Within.ite ?_ ?_
  · refine Within.ite ?_ ?_
    · refine raise_within (Sub.trans (by decide) hM) ?_
      refine setPauseSrc_within (Sub.trans (by decide) hM) ?_
      refine set_within _ (inMask (FC_SEQ_STAT_THROTTLING_win _) (Sub.bit hM (by decide))) ?_
      exact h_s
    · exact h_s
  · refine Within.ite ?_ ?_
    · refine raise_within (Sub.trans (by decide) hM) ?_
      refine setPauseSrc_within (Sub.trans (by decide) hM) ?_
      refine set_within _ (inMask (FC_SEQ_STAT_THROTTLING_win _) (Sub.bit hM (by decide))) ?_
      exact h_s
    · exact h_s

theorem setFifo_within {A : Nat} {u : State} {q : Nat} {l : List (List Nat)} {s : State} (hM : Sub 0x8000 A) (h_s : Within A u s) :
    Within A u (setFifo q l s) := by
  unfold setFifo
  refine Within.fail_ (Sub.bit hM (by decide)) ?_
  exact h_s

theorem fcPush_within {A : Nat} {u : State} {q w0 w1 w2 w3 : Nat} {s : State} (hM : Sub 0x120000000000000A00C A) (h_s : Within A u s) :
    Within A u (fcPush q w0 w1 w2 w3 s) := by
  unfold fcPush
  refine fcThrottle_within (Sub.trans (by decide) hM) ?_
  refine setFifo_within (Sub.trans (by decide) hM) ?_
  exact h_s

theorem fcFail_within {A : Nat} {u : State} {q g : Nat} {counted : Bool} {w0 w1 w2 w3 : Nat} {s : State} (hM : Sub 0x120000000000000A00C
    A) (h_s : Within A u s) :
    Within A u (fcFail q g counted w0 w1 w2 w3 s).2 := by
  unfold fcFail
  extract_lets -merge -useContext +onlyGivenNames n_0 s_1 w_2
  have hs_1 : Within A u s_1 := by
    refine State.count_within (Sub.trans (by decide) hM) (inMask (FC_SITE_REC_DROPPED_win _ _) (Sub.bit hM (by decide))) ?_
    exact h_s
  refine Within.ite1 ?_ ?_
  · refine Within.snd1 ?_
    refine fcPush_within (Sub.trans (by decide) hM) ?_
    refine State.count_within (Sub.trans (by decide) hM) (inMask (FC_SITE_REC_LOGGED_win _ _) (Sub.bit hM (by decide))) ?_
    exact h_s
  · refine Within.snd1 ?_
    refine Within.fail_ (Sub.bit hM (by decide)) ?_
    exact hs_1

theorem fcControl_within {A : Nat} {u : State} {q w0 w1 w2 w3 : Nat} {s : State} (hM : Sub 0x120000000000000A00C A) (h_s : Within A u s) :
    Within A u (fcControl q w0 w1 w2 w3 s) := by
  unfold fcControl
  refine Within.ite ?_ ?_
  · refine State.count_within (Sub.trans (by decide) hM) (inMask (FC_SEQ_STAT_CTRL_DROP_win _) (Sub.bit hM (by decide))) ?_
    exact h_s
  · refine fcPush_within (Sub.trans (by decide) hM) ?_
    exact h_s

theorem fcFlush_within {A : Nat} {u : State} {q : Nat} {s : State} (hM : Sub 0x120000000000000A00C A) (h_s : Within A u s) :
    Within A u (fcFlush q s) := by
  unfold fcFlush
  split
  · refine Within.ite ?_ ?_
    · extract_lets -merge -useContext +onlyGivenNames s_0
      have hs_0 : Within A u s_0 := by
        refine modEng_within (Sub.trans (by decide) hM) ?_
        exact h_s
      refine Within.ite ?_ ?_
      · refine fcControl_within (Sub.trans (by decide) hM) ?_
        exact hs_0
      · exact hs_0
    · exact h_s
  · exact h_s

theorem fcStart_within {A : Nat} {u : State} {q : Nat} {s : State} (hM : Sub 0x3000000000000008000 A) (h_s : Within A u s) :
    Within A u (fcStart q s) := by
  unfold fcStart
  extract_lets -merge -useContext +onlyGivenNames s_0 s_1 w_2
  have hs_0 : Within A u s_0 := by
    refine set_within _ (inMask (FC_SEQ_STAT_CTRL_DROP_win _) (Sub.bit hM (by decide))) ?_
    refine resetRegs_within _ _ 13202733662208 13202737856511 72 1 0x1000000000000000000 (by decide) (by decide) (by decide) (Sub.trans (by decide) hM) (by omega) (by omega) ?_
    exact h_s
  have hs_1 : Within A u s_1 := by
    refine Within.ite ?_ ?_
    · refine forEach_within ?_ _ ?_
      · intro y3 y4 hy5
        beta_reduce
        refine set_within _ (inMask (FC_CH_CNT_COUNT_win _) (Sub.bit hM (by decide))) ?_
        exact hy5
      · exact hs_0
    · exact h_s
  refine Within.fail_ (Sub.bit hM (by decide)) ?_
  exact hs_1

end Sys2Proof.Machine
end

