-- ==== Sys2Proof/Laws/WithinFail.lean ====
section
/-! SUPPORT. What each operation of Machine/Fail.lean can reach (see Laws/Within.lean). -/
set_option Elab.async false
namespace Sys2Proof.Machine

theorem raQueue_within {A : Nat} {u : State} {d m : Nat} {s : State} (hM : Sub 0x40000000000000010000 A) (h_s : Within A u s) :
    Within A u (raQueue d m s) := by
  unfold raQueue
  extract_lets -merge -useContext +onlyGivenNames w_0 w_1
  have hw_0 : Within A u w_0 := by
    refine set_within _ (inMask (RA_DOM_STATE_win _) (Sub.bit hM (by decide))) ?_
    exact h_s
  refine Within.ra_ (Sub.bit hM (by decide)) ?_
  exact hw_0

theorem enterClosed_within {A : Nat} {u : State} {m : Nat} {s : State} (hM : Sub 0x4400000000000001800C A) (h_s : Within A u s) :
    Within A u (enterClosed m s) := by
  unfold enterClosed
  extract_lets -merge -useContext +onlyGivenNames d_0 s_1 s_2 w_3 s_4
  have hs_1 : Within A u s_1 := by
    refine set_within _ (inMask (FC_MAP_CTL_STATE_win _) (Sub.bit hM (by decide))) ?_
    exact h_s
  have hs_2 : Within A u s_2 := by
    refine Within.ite ?_ ?_
    · refine raQueue_within (Sub.trans (by decide) hM) ?_
      exact hs_1
    · exact hs_1
  have hs_4 : Within A u s_4 := by
    refine Within.fail_ (Sub.bit hM (by decide)) ?_
    exact hs_2
  refine raise_within (Sub.trans (by decide) hM) ?_
  exact hs_4

theorem closeMap_within {A : Nat} {u : State} {m : Nat} {s : State} (hM : Sub 0x4400000000000001800C A) (h_s : Within A u s) :
    Within A u (closeMap m s) := by
  unfold closeMap
  extract_lets -merge -useContext +onlyGivenNames spill_0 w_1
  refine enterClosed_within (Sub.trans (by decide) hM) ?_
  refine Within.fail_ (Sub.bit hM (by decide)) ?_
  exact h_s

theorem closeArrives_within {A : Nat} {u : State} {q : Nat} {x : Marker} {s : State} (hM : Sub 0x4520000000000001A00C A) (h_s : Within A
    u s) :
    Within A u (closeArrives q x s) := by
  unfold closeArrives
  extract_lets -merge -useContext +onlyGivenNames m_0 s_1
  have hs_1 : Within A u s_1 := by
    unfold s_1
    clear_value m_0
    split
    · refine closeMap_within (Sub.trans (by decide) hM) ?_
      exact h_s
    · refine raise_within (Sub.trans (by decide) hM) ?_
      exact h_s
  refine Within.ite ?_ ?_
  · refine fcControl_within (Sub.trans (by decide) hM) ?_
    exact hs_1
  · exact hs_1

theorem mapZero_within {A : Nat} {u : State} {m : Nat} {s : State} (hM : Sub 0x8000 A) (h_s : Within A u s) :
    Within A u (mapZero m s) := by
  unfold mapZero
  extract_lets -merge -useContext +onlyGivenNames r_0 w_1
  refine Within.fail_ (Sub.bit hM (by decide)) ?_
  exact h_s

theorem execMapCleared_within {A : Nat} {u : State} {m : Fin 128} {s : State} (hM : Sub 0x400000000000000800C A) (h_s : Within A u s) :
    OutWithin A u (execMapCleared m s) := by
  unfold execMapCleared
  refine OutWithin.whenOk ?_ ?_
  · exact h_s
  · refine raise_within (Sub.trans (by decide) hM) ?_
    refine set_within _ (inMask (FC_MAP_CTL_STATE_win _) (Sub.bit hM (by decide))) ?_
    refine mapZero_within (Sub.trans (by decide) hM) ?_
    exact h_s

theorem siteRecords_within {A : Nat} {u : State} {q g : Nat} {first counted : Bool} {c : Cyc} {s : State} (hM : Sub 0x120000000000000A00C
    A) (h_s : Within A u s) :
    Within A u (siteRecords q g first counted c s).2 := by
  unfold siteRecords
  extract_lets -merge -useContext +onlyGivenNames l_0 w3_1
  refine foldl_within1 ?_ _ _ ?_
  · intro y2 y4 hy3
    beta_reduce
    extract_lets -merge -useContext +onlyGivenNames m_5 w0_6 x_7
    have hx_7 : Within A u x_7.2 := by
      refine fcFail_within (Sub.trans (by decide) hM) ?_
      exact hy3
    refine Within.ite1 ?_ ?_
    · exact hy3
    · refine Within.snd1 ?_
      exact hx_7
  · refine Within.snd1 ?_
    exact h_s

theorem setMapBit_within {A : Nat} {u : State} {i : Nat} {s : State} (hM : Sub 0x8000 A) (h_s : Within A u s) :
    Within A u (setMapBit i s) := by
  unfold setMapBit
  refine Within.fail_ (Sub.bit hM (by decide)) ?_
  exact h_s

theorem mapSite_within {A : Nat} {u : State} {q m : Nat} {c : Cyc} {l : List Nat} {s : State} (hM : Sub 0x4000000000000008000 A) (h_s :
    Within A u s) :
    Within A u (mapSite q m c l s).2 := by
  unfold mapSite
  refine foldl_within1 ?_ _ _ ?_
  · intro y0 y2 hy1
    beta_reduce
    refine Within.ite1 ?_ ?_
    · exact hy1
    · refine Within.ite1 ?_ ?_
      · refine Within.snd1 ?_
        refine State.count_within (Sub.trans (by decide) hM) (inMask (FC_MAP_STAT_HITS_win _) (Sub.bit hM (by decide))) ?_
        refine setMapBit_within (Sub.trans (by decide) hM) ?_
        exact hy1
      · refine Within.snd1 ?_
        refine State.count_within (Sub.trans (by decide) hM) (inMask (FC_MAP_STAT_NONDATA_win _) (Sub.bit hM (by decide))) ?_
        exact hy1
  · refine Within.snd1 ?_
    exact h_s

theorem captureSite_within {A : Nat} {u : State} {q g : Nat} {counted : Bool} {c : Cyc} {s : State} (hM : Sub 0x520000000000000A00C A)
    (h_s : Within A u s) :
    Within A u (captureSite q g counted c s) := by
  unfold captureSite
  extract_lets -merge -useContext +onlyGivenNames mode_0 s_1 r_2 w_3 w_4
  have hs_1 : Within A u s_1 := by
    refine Within.ite ?_ ?_
    · refine State.count_within (Sub.trans (by decide) hM) (inMask (FC_SITE_FAIL_FAILCYC_win _ _) (Sub.bit hM (by decide))) ?_
      exact h_s
    · exact h_s
  have hr_2 : Within A u r_2.2 := by
    refine siteRecords_within (Sub.trans (by decide) hM) ?_
    exact hs_1
  have hw_3 : Within A u w_3 := by
    exact hr_2
  refine Within.ite ?_ ?_
  · refine Within.ite ?_ ?_
    · refine siteRecords_within (Sub.trans (by decide) hM) ?_
      exact h_s
    · exact h_s
  · refine Within.ite ?_ ?_
    · refine Within.ite ?_ ?_
      · exact hs_1
      · refine Within.ite ?_ ?_
        · refine Within.fail_ (Sub.bit hM (by decide)) ?_
          exact hw_3
        · exact hr_2
    · refine Within.ite ?_ ?_
      · refine siteRecords_within (Sub.trans (by decide) hM) ?_
        exact hs_1
      · refine Within.ite ?_ ?_
        · split
          · refine siteRecords_within (Sub.trans (by decide) hM) ?_
            exact hs_1
          · extract_lets -merge -useContext +onlyGivenNames r_5
            have hr_5 : Within A u r_5.2 := by
              refine mapSite_within (Sub.trans (by decide) hM) ?_
              exact hs_1
            refine Within.ite ?_ ?_
            · refine siteRecords_within (Sub.trans (by decide) hM) ?_
              exact hr_5
            · exact hr_5
        · exact hs_1

theorem captureCycle_within {A : Nat} {u : State} {q : Nat} {c : Cyc} {s : State} (hM : Sub 0x7A0000000000000A00C A) (h_s : Within A u s) :
    Within A u (captureCycle q c s) := by
  unfold captureCycle
  extract_lets -merge -useContext +onlyGivenNames f_0 counted_1 s_2
  have hs_2 : Within A u s_2 := by
    refine Within.ite ?_ ?_
    · refine forEach_within ?_ _ ?_
      · intro y3 y4 hy5
        beta_reduce
        refine State.count_within (Sub.trans (by decide) hM) (inMask (FC_CH_CNT_COUNT_win _) (Sub.bit hM (by decide))) ?_
        exact hy5
      · exact h_s
    · exact h_s
  refine Within.ite ?_ ?_
  · exact h_s
  · refine Within.ite ?_ ?_
    · refine raiseOnce_within (Sub.trans (by decide) hM) ?_
      refine State.count_within (Sub.trans (by decide) hM) (inMask (FC_LOST_COUNT_win _) (Sub.bit hM (by decide))) ?_
      exact h_s
    · refine forNat_within ?_ _ ?_
      · intro y6 y7 hy8
        beta_reduce
        refine Within.ite ?_ ?_
        · refine captureSite_within (Sub.trans (by decide) hM) ?_
          exact hy8
        · exact hy8
      · exact hs_2

theorem failLower70_within {A : Nat} {u : State} {s : State} (hM : Sub 0xA0000000000000A00C A) (h_s : Within A u s) :
    Within A u (failLower70 s) := by
  unfold failLower70
  extract_lets -merge -useContext +onlyGivenNames items_0 lost_1 s_2 s_3 w_4 s_5
  have hs_2 : Within A u s_2 := by
    refine forEach_within ?_ _ ?_
    · intro y6 y7 hy8
      beta_reduce
      refine State.count_within (Sub.trans (by decide) hM) (inMask (FC_LOST_COUNT_win _) (Sub.bit hM (by decide))) ?_
      exact hy8
    · exact h_s
  have hs_3 : Within A u s_3 := by
    refine forNat_within ?_ _ ?_
    · intro y9 y10 hy11
      beta_reduce
      refine setPauseSrc_within (Sub.trans (by decide) hM) ?_
      exact hy11
    · exact hs_2
  have hs_5 : Within A u s_5 := by
    refine Within.fail_ (Sub.bit hM (by decide)) ?_
    exact hs_3
  refine Within.ite ?_ ?_
  · exact hs_5
  · refine raise_within (Sub.trans (by decide) hM) ?_
    exact hs_5

theorem wrMapDesc_within {A : Nat} {u : State} {l : List (Acc × Fld)} {bad : Bool} {a : Agent} {m v : Nat} {s : State} (hM : Sub 0x0 A)
    (h_l : ∀ p ∈ l, InMask A p.2) (h_s : Within A u s) :
    Within A u (wrMapDesc l bad a m v s).2 := by
  unfold wrMapDesc
  refine Within.ite1 ?_ ?_
  · refine Within.snd1 ?_
    exact h_s
  · refine Within.ite1 ?_ ?_
    · refine Within.snd1 ?_
      exact h_s
    · refine Within.snd1 ?_
      refine writeFlds_within (Sub.trans (by decide) hM) h_l ?_
      exact h_s

theorem tapDropped_within {A : Nat} {u : State} {q : Nat} {s : State} (hM : Sub 0x400000000004000 A) (h_s : Within A u s) :
    Within A u (tapDropped q s) := by
  unfold tapDropped
  extract_lets -merge -useContext +onlyGivenNames s_0 w_1
  have hs_0 : Within A u s_0 := by
    refine State.count_within (Sub.trans (by decide) hM) (inMask (FAB_PORT_STAT_TAP_DROP_win _) (Sub.bit hM (by decide))) ?_
    exact h_s
  refine Within.ports_ (Sub.bit hM (by decide)) ?_
  exact hs_0

theorem tapFlush_within {A : Nat} {u : State} {q : Nat} {s : State} (hM : Sub 0x400000000004000 A) (h_s : Within A u s) :
    Within A u (tapFlush q s) := by
  unfold tapFlush
  split
  · exact h_s
  · extract_lets -merge -useContext +onlyGivenNames w_0 s_1 w_2
    have hs_1 : Within A u s_1 := by
      refine Within.ports_ (Sub.bit hM (by decide)) ?_
      exact h_s
    refine Within.ite ?_ ?_
    · exact hs_1
    · refine Within.ite ?_ ?_
      · refine tapDropped_within (Sub.trans (by decide) hM) ?_
        exact hs_1
      · refine Within.ports_ (Sub.bit hM (by decide)) ?_
        exact hs_1

theorem tapCycle_within {A : Nat} {u : State} {q : Nat} {c : Cyc} {sites : Nat} {s : State} (hM : Sub 0x400000000004000 A) (h_s : Within
    A u s) :
    Within A u (tapCycle q c sites s) := by
  unfold tapCycle
  refine Within.ite ?_ ?_
  · exact h_s
  · extract_lets -merge -useContext +onlyGivenNames clk_0 cmp_1 failed_2 w_3 s_4 w_5 w_6
    have hs_4 : Within A u s_4 := by
      refine tapFlush_within (Sub.trans (by decide) hM) ?_
      exact h_s
    split
    · refine Within.ite ?_ ?_
      · refine Within.ports_ (Sub.bit hM (by decide)) ?_
        exact h_s
      · refine Within.ports_ (Sub.bit hM (by decide)) ?_
        exact hs_4
    · refine Within.ports_ (Sub.bit hM (by decide)) ?_
      exact h_s

theorem failReset71_within {A : Nat} {u : State} {s : State} (hM : Sub 0x4400000000000008000 A) (h_s : Within A u s) :
    Within A u (failReset71 s) := by
  unfold failReset71
  extract_lets -merge -useContext +onlyGivenNames s_0 w_1
  have hs_0 : Within A u s_0 := by
    refine resetRegs_within _ _ 13202729467904 13202729500671 70 1 0x400000000000000000 (by decide) (by decide) (by decide) (Sub.trans (by decide) hM) (by omega) (by omega) ?_
    refine resetRegs_within _ _ 13202742050816 13203803209727 74 1 0x4000000000000000000 (by decide) (by decide) (by decide) (Sub.trans (by decide) hM) (by omega) (by omega) ?_
    exact h_s
  refine Within.fail_ (Sub.bit hM (by decide)) ?_
  exact hs_0

theorem forgetMap_within {A : Nat} {u : State} {m : Nat} {s : State} (hM : Sub 0x8000 A) (h_s : Within A u s) :
    Within A u (forgetMap m s) := by
  unfold forgetMap
  refine Within.fail_ (Sub.bit hM (by decide)) ?_
  exact h_s

theorem clearMap_within {A : Nat} {u : State} {m : Nat} {s : State} (hM : Sub 0x4000000000000008000 A) (h_s : Within A u s) :
    Within A u (clearMap m s) := by
  unfold clearMap
  refine set_within _ (inMask (FC_MAP_CTL_STATE_win _) (Sub.bit hM (by decide))) ?_
  refine forgetMap_within (Sub.trans (by decide) hM) ?_
  exact h_s

theorem wrFcSeqStat_within {A : Nat} {u : State} {a : Agent} {q v : Nat} {s : State} (hM : Sub 0x1000000000000000000 A) (h_s : Within A u
    s) :
    Within A u (wrFcSeqStat a q v s).2 := by
  unfold wrFcSeqStat
  refine Within.ite1 ?_ ?_
  · refine Within.snd1 ?_
    exact h_s
  · refine Within.snd1 ?_
    refine writeFlds_within (Sub.trans (by decide) hM) (inMasks (FC_SEQ_STAT_fields_win _) (Sub.bit hM (by decide))) ?_
    exact h_s

theorem execDrainResume_within {A : Nat} {u : State} {a : Agent} {q : Fin 16} {s : State} (hM : Sub 0x1000000000000000001 A) (h_s :
    Within A u s) :
    OutWithin A u (execDrainResume a q s) := by
  unfold execDrainResume
  refine OutWithin.ok ?_
  refine answered_within (Sub.trans (by decide) hM) ?_
  refine atIngress_within (Sub.trans (by decide) hM) ?_ ?_
  · intro y0 hy1
    refine wrFcSeqStat_within (Sub.trans (by decide) hM) ?_
    exact hy1
  · exact h_s

theorem takeSpill_within {A : Nat} {u : State} {s : State} (hM : Sub 0x4000000000000008000 A) (h_s : Within A u s) :
    Within A u (takeSpill s) := by
  unfold takeSpill
  split
  · exact h_s
  · extract_lets -merge -useContext +onlyGivenNames w_0 w_1
    have hw_0 : Within A u w_0 := by
      refine set_within _ (inMask (FC_MAP_CTL_STATE_win _) (Sub.bit hM (by decide))) ?_
      exact h_s
    refine Within.fail_ (Sub.bit hM (by decide)) ?_
    exact hw_0

theorem fcPutLine_within {A : Nat} {u : State} {line be : Nat} {b : List Byte} {s : State} (hM : Sub 0x20A00000002000000800180C A) (h_s :
    Within A u s) :
    Within A u (fcPutLine line be b s).2 := by
  unfold fcPutLine
  refine Within.ite1 ?_ ?_
  · refine Within.snd1 ?_
    exact h_s
  · refine Within.ite1 ?_ ?_
    · refine Within.snd1 ?_
      exact h_s
    · split
      · refine Within.snd1 ?_
        exact h_s
      · refine hbmPutLine_within (Sub.trans (by decide) hM) ?_
        refine takeLines_within (Sub.trans (by decide) hM) ?_
        exact h_s

theorem putRecord_within {A : Nat} {u : State} {q : Nat} {w : List Nat} {s : State} (hM : Sub 0x20A00000002000000800180C A) (h_s : Within
    A u s) :
    Within A u (putRecord q w s).2 := by
  unfold putRecord
  extract_lets -merge -useContext +onlyGivenNames a_0 b_1
  refine Within.ite1 ?_ ?_
  · refine fcPutLine_within (Sub.trans (by decide) hM) ?_
    exact h_s
  · refine fcPutLine_within (Sub.trans (by decide) hM) ?_
    exact h_s

theorem recordDrained_within {A : Nat} {u : State} {q : Nat} {r : List (List Nat)} {s : State} (hM : Sub 0x120000000000000A00C A) (h_s :
    Within A u s) :
    Within A u (recordDrained q r s) := by
  unfold recordDrained
  extract_lets -merge -useContext +onlyGivenNames s_0 w_1 s_2 s_3 s_4
  have hs_0 : Within A u s_0 := by
    refine setFifo_within (Sub.trans (by decide) hM) ?_
    exact h_s
  have hs_2 : Within A u s_2 := by
    refine Within.fail_ (Sub.bit hM (by decide)) ?_
    exact hs_0
  have hs_3 : Within A u s_3 := by
    refine set_within _ (inMask (FC_LOG_PTR_WR_win _) (Sub.bit hM (by decide))) ?_
    exact hs_2
  have hs_4 : Within A u s_4 := by
    refine fcThrottle_within (Sub.trans (by decide) hM) ?_
    exact hs_3
  refine Within.ite ?_ ?_
  · refine raise_within (Sub.trans (by decide) hM) ?_
    exact hs_4
  · exact hs_4

theorem drainRecord_within {A : Nat} {u : State} {q : Nat} {st : Status} {s : State} (hM : Sub 0x20A00120002000000800B80C A) (h_s :
    Within A u s) :
    Within A u (drainRecord q st s) := by
  unfold drainRecord
  split
  · exact h_s
  · extract_lets -merge -useContext +onlyGivenNames x_0 st_1
    have hx_0 : Within A u x_0.2 := by
      refine putRecord_within (Sub.trans (by decide) hM) ?_
      exact h_s
    refine Within.ite ?_ ?_
    · refine recordDrained_within (Sub.trans (by decide) hM) ?_
      exact hx_0
    · refine raise_within (Sub.trans (by decide) hM) ?_
      refine set_within _ (inMask (FC_SEQ_STAT_DERR_win _) (Sub.bit hM (by decide))) ?_
      refine set_within _ (inMask (FC_SEQ_STAT_DRAIN_ERR_win _) (Sub.bit hM (by decide))) ?_
      exact h_s

theorem drainUnit_within {A : Nat} {u : State} {st : Status} {s : State} (hM : Sub 0x20A00520002000000800B80C A) (h_s : Within A u s) :
    Within A u (drainUnit st s) := by
  unfold drainUnit
  refine Within.ite ?_ ?_
  · exact h_s
  · refine Within.ite ?_ ?_
    · refine takeSpill_within (Sub.trans (by decide) hM) ?_
      exact h_s
    · split
      · refine drainRecord_within (Sub.trans (by decide) hM) ?_
        exact h_s
      · exact h_s

theorem wrFcEccCtl_within {A : Nat} {u : State} {a : Agent} {v : Nat} {s : State} (hM : Sub 0x400000000000000000 A) (h_s : Within A u s) :
    Within A u (wrFcEccCtl a v s).2 := by
  unfold wrFcEccCtl
  refine Within.ite1 ?_ ?_
  · refine Within.snd1 ?_
    exact h_s
  · refine Within.ite1 ?_ ?_
    · refine Within.snd1 ?_
      exact h_s
    · refine Within.snd1 ?_
      refine writeFlds_within (Sub.trans (by decide) hM) (inMasks (FC_ECC_CTL_fields_win) (Sub.bit hM (by decide))) ?_
      exact h_s

theorem execFailDrain_within {A : Nat} {u : State} {units : Nat} {st : Status} {s : State} (hM : Sub 0x20A00520002000000800B84C A) (h_s :
    Within A u s) :
    OutWithin A u (execFailDrain units st s) := by
  unfold execFailDrain
  refine inDuty_within (Sub.trans (by decide) hM) ?_ ?_
  · intro y0 hy1
    beta_reduce
    refine OutWithin.ok ?_
    refine forNat_within ?_ _ ?_
    · intro y2 y3 hy4
      beta_reduce
      refine drainUnit_within (Sub.trans (by decide) hM) ?_
      exact hy4
    · exact hy1
  · exact h_s

theorem spillEnds_within {A : Nat} {u : State} {m : Nat} {st : Status} {s : State} (hM : Sub 0x20A04400002000000801980C A) (h_s : Within
    A u s) :
    Within A u (spillEnds m st s) := by
  unfold spillEnds
  extract_lets -merge -useContext +onlyGivenNames b_0 x_1 st_2 s_3 w_4 s_5
  have hx_1 : Within A u x_1.2 := by
    refine hbmSave_within (Sub.trans (by decide) hM) ?_
    exact h_s
  have hs_3 : Within A u s_3 := by
    refine Within.ite ?_ ?_
    · exact hx_1
    · exact h_s
  have hs_5 : Within A u s_5 := by
    refine enterClosed_within (Sub.trans (by decide) hM) ?_
    refine Within.fail_ (Sub.bit hM (by decide)) ?_
    exact hs_3
  refine Within.ite ?_ ?_
  · exact hs_5
  · refine raise_within (Sub.trans (by decide) hM) ?_
    refine set_within _ (inMask (FC_MAP_CTL_SPILL_ERR_win _) (Sub.bit hM (by decide))) ?_
    exact hs_5

theorem execCloseMarker_within {A : Nat} {u : State} {q : Fin 16} {s : State} (hM : Sub 0x4520000000000001A00C A) (h_s : Within A u s) :
    OutWithin A u (execCloseMarker q s) := by
  unfold execCloseMarker
  split
  · refine OutWithin.whenOk ?_ ?_
    · exact h_s
    · extract_lets -merge -useContext +onlyGivenNames t_0
      have ht_0 : Within A u t_0 := by
        refine modEng_within (Sub.trans (by decide) hM) ?_
        exact h_s
      refine fcFlush_within (Sub.trans (by decide) hM) ?_
      refine Within.ite ?_ ?_
      · refine closeArrives_within (Sub.trans (by decide) hM) ?_
        exact ht_0
      · exact ht_0
  · refine OutWithin.ok ?_
    exact h_s

theorem raMapGone_within {A : Nat} {u : State} {m : Nat} {s : State} (hM : Sub 0x10000 A) (h_s : Within A u s) :
    Within A u (raMapGone m s) := by
  unfold raMapGone
  refine Within.ra_ (Sub.bit hM (by decide)) ?_
  exact h_s

theorem wrMapCtl_within {A : Nat} {u : State} {a : Agent} {m v : Nat} {s : State} (hM : Sub 0x4400000000000001800C A) (h_s : Within A u s) :
    Within A u (wrMapCtl a m v s).2 := by
  unfold wrMapCtl
  extract_lets -merge -useContext +onlyGivenNames op_0 cl_1 di_2 st_3 w_4
  have hw_4 : Within A u w_4 := by
    refine writeFlds_within (Sub.trans (by decide) hM) (inMasks (FC_MAP_CTL_fields_win _) (Sub.bit hM (by decide))) ?_
    exact h_s
  refine Within.ite1 ?_ ?_
  · refine Within.snd1 ?_
    exact h_s
  · refine Within.ite1 ?_ ?_
    · refine Within.snd1 ?_
      exact h_s
    · refine Within.ite1 ?_ ?_
      · refine Within.ite1 ?_ ?_
        · refine Within.snd1 ?_
          exact h_s
        · refine Within.snd1 ?_
          refine set_within _ (inMask (FC_MAP_CTL_STATE_win _) (Sub.bit hM (by decide))) ?_
          refine set_within _ (inMask (FC_MAP_CTL_MAPERR_win _) (Sub.bit hM (by decide))) ?_
          refine set_within _ (inMask (FC_MAP_STAT_NONDATA_win _) (Sub.bit hM (by decide))) ?_
          refine set_within _ (inMask (FC_MAP_STAT_HITS_win _) (Sub.bit hM (by decide))) ?_
          exact hw_4
      · refine Within.ite1 ?_ ?_
        · refine Within.ite1 ?_ ?_
          · refine Within.snd1 ?_
            refine closeMap_within (Sub.trans (by decide) hM) ?_
            exact hw_4
          · refine Within.snd1 ?_
            exact h_s
        · refine Within.ite1 ?_ ?_
          · refine Within.ite1 ?_ ?_
            · refine Within.snd1 ?_
              refine clearMap_within (Sub.trans (by decide) hM) ?_
              refine raMapGone_within (Sub.trans (by decide) hM) ?_
              exact hw_4
            · refine Within.ite1 ?_ ?_
              · refine Within.snd1 ?_
                exact h_s
              · refine Within.snd1 ?_
                exact h_s
          · refine Within.snd1 ?_
            exact hw_4

theorem execMapOpen_within {A : Nat} {u : State} {a : Agent} {m : Fin 128} {spill : Bool} {s : State} (hM : Sub 0x4400000000000001800D A)
    (h_s : Within A u s) :
    OutWithin A u (execMapOpen a m spill s) := by
  unfold execMapOpen
  refine OutWithin.ok ?_
  refine answered_within (Sub.trans (by decide) hM) ?_
  refine atIngress_within (Sub.trans (by decide) hM) ?_ ?_
  · intro y0 hy1
    refine wrMapCtl_within (Sub.trans (by decide) hM) ?_
    exact hy1
  · exact h_s

theorem execSpillWritten_within {A : Nat} {u : State} {m : Fin 128} {st : Status} {s : State} (hM : Sub 0x20A04400002000000801980C A)
    (h_s : Within A u s) :
    OutWithin A u (execSpillWritten m st s) := by
  unfold execSpillWritten
  refine OutWithin.whenOk ?_ ?_
  · exact h_s
  · refine spillEnds_within (Sub.trans (by decide) hM) ?_
    exact h_s

theorem wrFcLogPtr_within {A : Nat} {u : State} {a : Agent} {q v : Nat} {s : State} (hM : Sub 0x1000000000000000000 A) (h_s : Within A u
    s) :
    Within A u (wrFcLogPtr a q v s).2 := by
  unfold wrFcLogPtr
  refine Within.ite1 ?_ ?_
  · refine Within.snd1 ?_
    exact h_s
  · refine Within.ite1 ?_ ?_
    · refine Within.snd1 ?_
      exact h_s
    · refine Within.snd1 ?_
      refine writeFlds_within (Sub.trans (by decide) hM) (inMasks (FC_LOG_PTR_fields_win _) (Sub.bit hM (by decide))) ?_
      exact h_s

theorem execMapScrubWord_within {A : Nat} {u : State} {sl : Fin 64} {word : Nat} {u_ : Ecc} {s : State} (hM : Sub 0x440000000000000000C
    A) (h_s : Within A u s) :
    OutWithin A u (execMapScrubWord sl word u_ s) := by
  unfold execMapScrubWord
  split
  · refine OutWithin.ok ?_
    exact h_s
  · refine OutWithin.whenOk ?_ ?_
    · exact h_s
    · split
      · exact h_s
      · refine bucketHit_within (Sub.trans (by decide) hM) (inMask (FC_ECC_STAT_CORR_win) (Sub.bit hM (by decide))) (inMask (FC_ECC_STAT_LEVEL_win) (Sub.bit hM (by decide))) (inMask (FC_ECC_STAT_OVERFLOW_win) (Sub.bit hM (by decide))) (inMask (FC_ECC_CTL_BUCKET_win) (Sub.bit hM (by decide))) ?_
        exact h_s
      · refine raise_within (Sub.trans (by decide) hM) ?_
        refine set_within _ (inMask (FC_MAP_CTL_MAPERR_win _) (Sub.bit hM (by decide))) ?_
        refine State.count_within (Sub.trans (by decide) hM) (inMask (FC_ECC_STAT_UNCORR_win) (Sub.bit hM (by decide))) ?_
        exact h_s

theorem execMapClose_within {A : Nat} {u : State} {a : Agent} {m : Fin 128} {s : State} (hM : Sub 0x4400000000000001800D A) (h_s : Within
    A u s) :
    OutWithin A u (execMapClose a m s) := by
  unfold execMapClose
  refine OutWithin.ok ?_
  refine answered_within (Sub.trans (by decide) hM) ?_
  refine atIngress_within (Sub.trans (by decide) hM) ?_ ?_
  · intro y0 hy1
    refine wrMapCtl_within (Sub.trans (by decide) hM) ?_
    exact hy1
  · exact h_s

theorem failLower71_within {A : Nat} {u : State} {s : State} (hM : Sub 0x1800C A) (h_s : Within A u s) :
    Within A u (failLower71 s) := by
  unfold failLower71
  extract_lets -merge -useContext +onlyGivenNames l_0 mask_1 w_2 s_3
  have hs_3 : Within A u s_3 := by
    refine forEach_within ?_ _ ?_
    · intro y4 y5 hy6
      refine raMapGone_within (Sub.trans (by decide) hM) ?_
      exact hy6
    · refine Within.fail_ (Sub.bit hM (by decide)) ?_
      exact h_s
  refine Within.ite ?_ ?_
  · exact hs_3
  · refine raise_within (Sub.trans (by decide) hM) ?_
    exact hs_3

theorem wrFcSeqCtl_within {A : Nat} {u : State} {a : Agent} {q v : Nat} {s : State} (hM : Sub 0x1000000000000000000 A) (h_s : Within A u
    s) :
    Within A u (wrFcSeqCtl a q v s).2 := by
  unfold wrFcSeqCtl
  extract_lets -merge -useContext +onlyGivenNames hwm_0
  refine Within.ite1 ?_ ?_
  · refine Within.snd1 ?_
    exact h_s
  · refine Within.ite1 ?_ ?_
    · refine Within.snd1 ?_
      exact h_s
    · refine Within.ite1 ?_ ?_
      · refine Within.snd1 ?_
        exact h_s
      · refine Within.snd1 ?_
        refine writeFlds_within (Sub.trans (by decide) hM) (inMasks (FC_SEQ_CTL_fields_win _) (Sub.bit hM (by decide))) ?_
        exact h_s

theorem failReset70_within {A : Nat} {u : State} {s : State} (hM : Sub 0x320000000000000A000 A) (h_s : Within A u s) :
    Within A u (failReset70 s) := by
  unfold failReset70
  extract_lets -merge -useContext +onlyGivenNames w_0 w_1 s_2
  have hw_0 : Within A u w_0 := by
    refine resetRegs_within _ _ 13202733662208 13202742050815 72 2 0x3000000000000000000 (by decide) (by decide) (by decide) (Sub.trans (by decide) hM) (by omega) (by omega) ?_
    exact h_s
  have hs_2 : Within A u s_2 := by
    refine Within.fail_ (Sub.bit hM (by decide)) ?_
    exact hw_0
  refine forNat_within ?_ _ ?_
  · intro y3 y4 hy5
    beta_reduce
    refine setPauseSrc_within (Sub.trans (by decide) hM) ?_
    exact hy5
  · exact hs_2

theorem wrFcLogCfg_within {A : Nat} {u : State} {a : Agent} {q v : Nat} {s : State} (hM : Sub 0x1000000000000000000 A) (h_s : Within A u
    s) :
    Within A u (wrFcLogCfg a q v s).2 := by
  unfold wrFcLogCfg
  extract_lets -merge -useContext +onlyGivenNames n_0
  refine Within.ite1 ?_ ?_
  · refine Within.snd1 ?_
    exact h_s
  · refine Within.ite1 ?_ ?_
    · refine Within.snd1 ?_
      exact h_s
    · refine Within.snd1 ?_
      refine set_within _ (inMask (FC_LOG_PTR_WR_win _) (Sub.bit hM (by decide))) ?_
      refine set_within _ (inMask (FC_LOG_PTR_RD_win _) (Sub.bit hM (by decide))) ?_
      refine writeFlds_within (Sub.trans (by decide) hM) (inMasks (FC_LOG_CFG_fields_win _) (Sub.bit hM (by decide))) ?_
      exact h_s

theorem resultComplete_within {A : Nat} {u : State} {q : Nat} {c : Cyc} {r : List Cyc} {s : State} (hM : Sub 0x7A0040000000000E00C A)
    (h_s : Within A u s) :
    Within A u (resultComplete q c r s) := by
  unfold resultComplete
  extract_lets -merge -useContext +onlyGivenNames f_0 masks_1 e_2 s_3 s_4
  have hs_3 : Within A u s_3 := by
    refine captureCycle_within (Sub.trans (by decide) hM) ?_
    refine setEng_within (Sub.trans (by decide) hM) ?_
    exact h_s
  have hs_4 : Within A u s_4 := by
    refine tapCycle_within (Sub.trans (by decide) hM) ?_
    exact hs_3
  refine fcFlush_within (Sub.trans (by decide) hM) ?_
  refine modEng_within (Sub.trans (by decide) hM) ?_
  exact hs_4

theorem execCycleResultComplete_within {A : Nat} {u : State} {q : Fin 16} {s : State} (hM : Sub 0x7A0040000000000E00C A) (h_s : Within A
    u s) :
    OutWithin A u (execCycleResultComplete q s) := by
  unfold execCycleResultComplete
  split
  · refine OutWithin.ok ?_
    exact h_s
  · refine OutWithin.whenOk ?_ ?_
    · exact h_s
    · refine resultComplete_within (Sub.trans (by decide) hM) ?_
      exact h_s

theorem execMapDiscard_within {A : Nat} {u : State} {a : Agent} {m : Fin 128} {s : State} (hM : Sub 0x4400000000000001800D A) (h_s :
    Within A u s) :
    OutWithin A u (execMapDiscard a m s) := by
  unfold execMapDiscard
  refine OutWithin.ok ?_
  refine answered_within (Sub.trans (by decide) hM) ?_
  refine atIngress_within (Sub.trans (by decide) hM) ?_ ?_
  · intro y0 hy1
    refine wrMapCtl_within (Sub.trans (by decide) hM) ?_
    exact hy1
  · exact h_s

theorem failTick_within {A : Nat} {u : State} {frame : Nat} {s : State} (hM : Sub 0x40000000200000800C A) (h_s : Within A u s) :
    Within A u (failTick frame s) := by
  unfold failTick
  extract_lets -merge -useContext +onlyGivenNames left_0 s_1 s_2 w_3 s_4
  have hs_1 : Within A u s_1 := by
    refine Within.ite ?_ ?_
    · exact h_s
    · refine raise_within (Sub.trans (by decide) hM) ?_
      refine State.count_within (Sub.trans (by decide) hM) (inMask (FRM_OVR_COUNT_win _) (Sub.bit hM (by decide))) ?_
      exact h_s
  have hs_2 : Within A u s_2 := by
    refine forEach_within ?_ _ ?_
    · intro y5 y6 hy7
      beta_reduce
      refine raise_within (Sub.trans (by decide) hM) ?_
      exact hy7
    · exact hs_1
  have hs_4 : Within A u s_4 := by
    refine Within.ite ?_ ?_
    · refine Within.fail_ (Sub.bit hM (by decide)) ?_
      exact hs_2
    · exact h_s
  refine Within.ite ?_ ?_
  · refine bucketLeak_within (Sub.trans (by decide) hM) (inMask (FC_ECC_STAT_LEVEL_win) (Sub.bit hM (by decide))) (inMask (FC_ECC_CTL_LEAK_win) (Sub.bit hM (by decide))) ?_
    exact hs_4
  · exact hs_4

end Sys2Proof.Machine
end

