-- ==== Sys2Proof/Laws/WithinNoc.lean ====
section
/-! SUPPORT. What each operation of Machine/Noc.lean can reach (see Laws/Within.lean). -/
set_option Elab.async false
namespace Sys2Proof.Machine

theorem setArb_within {A : Nat} {u : State} {x : Arbiter} {s : State} (hM : Sub 0x40000 A) (h_s : Within A u s) :
    Within A u (setArb x s) := by
  unfold setArb
  refine Within.noc_ (Sub.bit hM (by decide)) ?_
  exact h_s

theorem modArbReq_within {A : Nat} {u : State} {x : Nat} {r : ArbReq} {s : State} (hM : Sub 0x40000 A) (h_s : Within A u s) :
    Within A u (modArbReq x r s) := by
  unfold modArbReq
  extract_lets -merge -useContext +onlyGivenNames a_0
  refine setArb_within (Sub.trans (by decide) hM) ?_
  exact h_s

theorem arbGrant_within {A : Nat} {u : State} {x i : Nat} {fair : Bool} {s : State} (hM : Sub 0x2000000000000000000040000 A) (h_s :
    Within A u s) :
    Within A u (arbGrant x i fair s) := by
  unfold arbGrant
  extract_lets -merge -useContext +onlyGivenNames a_0 r_1 n_2 s_3
  have hs_3 : Within A u s_3 := by
    refine modArbReq_within (Sub.trans (by decide) hM) ?_
    refine setArb_within (Sub.trans (by decide) hM) ?_
    exact h_s
  refine set_within _ (inMask (ARB_STAT_FAIR_CNT_win _) (Sub.bit hM (by decide))) ?_
  refine set_within _ (inMask (ARB_STAT_BUSY_win _) (Sub.bit hM (by decide))) ?_
  refine set_within _ (inMask (ARB_STAT_OWNER_win _) (Sub.bit hM (by decide))) ?_
  exact hs_3

theorem arbChoose_within {A : Nat} {u : State} {x : Nat} {s : State} (hM : Sub 0x2000000000000000000040000 A) (h_s : Within A u s) :
    Within A u (arbChoose x s) := by
  unfold arbChoose
  extract_lets -merge -useContext +onlyGivenNames w_0 n_1 s_2
  have hs_2 : Within A u s_2 := by
    refine set_within _ (inMask (ARB_STAT_BUSY_win _) (Sub.bit hM (by decide))) ?_
    exact h_s
  clear_value w_0
  split
  · exact hs_2
  · refine Within.ite ?_ ?_
    · refine arbGrant_within (Sub.trans (by decide) hM) ?_
      exact hs_2
    · refine arbGrant_within (Sub.trans (by decide) hM) ?_
      exact hs_2

theorem arbRelease_within {A : Nat} {u : State} {x : Nat} {s : State} (hM : Sub 0x2000000000000000000040000 A) (h_s : Within A u s) :
    Within A u (arbRelease x s) := by
  unfold arbRelease
  split
  · exact h_s
  · extract_lets -merge -useContext +onlyGivenNames a_0
    refine arbChoose_within (Sub.trans (by decide) hM) ?_
    refine setArb_within (Sub.trans (by decide) hM) ?_
    exact h_s

theorem modReq_within {A : Nat} {u : State} {id : Nat} {f : NocReq → NocReq} {s : State} (hM : Sub 0x40000 A) (h_s : Within A u s) :
    Within A u (modReq id f s) := by
  unfold modReq
  refine Within.noc_ (Sub.bit hM (by decide)) ?_
  exact h_s

theorem nocAnswer_within {A : Nat} {u : State} {id : Nat} {st : Status} {v : Nat} {b : List Byte} {s : State} (hM : Sub 0x40000 A) (h_s :
    Within A u s) :
    Within A u (nocAnswer id st v b s) := by
  unfold nocAnswer
  extract_lets -merge -useContext +onlyGivenNames s_0 w_1
  have hs_0 : Within A u s_0 := by
    refine modReq_within (Sub.trans (by decide) hM) ?_
    exact h_s
  refine Within.noc_ (Sub.bit hM (by decide)) ?_
  exact hs_0

theorem nocFault_within {A : Nat} {u : State} {n : Nat} {s : State} (hM : Sub 0x40800 A) (h_s : Within A u s) :
    Within A u (nocFault n s) := by
  unfold nocFault
  refine forEach_within ?_ _ ?_
  · intro y0 y1 hy2
    beta_reduce
    refine nocAnswer_within (Sub.trans (by decide) hM) ?_
    refine Within.hbm_ (Sub.bit hM (by decide)) ?_
    exact hy2
  · exact h_s

theorem nocCoreReset_within {A : Nat} {u : State} {c : Nat} {s : State} (hM : Sub 0x40000 A) (h_s : Within A u s) :
    Within A u (nocCoreReset c s) := by
  unfold nocCoreReset
  extract_lets -merge -useContext +onlyGivenNames l_0 w_1
  refine Within.noc_ (Sub.bit hM (by decide)) ?_
  exact h_s

theorem poisonReq_within {A : Nat} {u : State} {r : NocReq} {s : State} (hM : Sub 0x40800 A) (h_s : Within A u s) :
    Within A u (poisonReq r s) := by
  unfold poisonReq
  extract_lets -merge -useContext +onlyGivenNames wr_0 w_1
  refine Within.ite ?_ ?_
  · refine Within.ite ?_ ?_
    · refine nocAnswer_within (Sub.trans (by decide) hM) ?_
      refine Within.hbm_ (Sub.bit hM (by decide)) ?_
      exact h_s
    · exact h_s
  · refine modReq_within (Sub.trans (by decide) hM) ?_
    exact h_s

theorem execLinkError_within {A : Nat} {u : State} {k : Fin 36} {d : Fin 4} {e : LinkErr} {p : Option PktRef} {s : State} (hM : Sub
    0x4080C A) (h_s : Within A u s) :
    OutWithin A u (execLinkError k d e p s) := by
  unfold execLinkError
  extract_lets -merge -useContext +onlyGivenNames tell_0 r_1 w_2
  have htell_0 : ∀ y3 y4, Within A u y4 → Within A u (tell_0 y3 y4) := by
    intro y3 y4 hy5
    unfold tell_0
    refine raise_within (Sub.trans (by decide) hM) ?_
    exact hy5
  clear_value r_1
  split
  · refine OutWithin.ok ?_
    exact h_s
  · refine OutWithin.ok ?_
    apply htell_0
    refine modReq_within (Sub.trans (by decide) hM) ?_
    refine Within.hbm_ (Sub.bit hM (by decide)) ?_
    exact h_s
  · refine OutWithin.ok ?_
    apply htell_0
    exact h_s
  · refine OutWithin.ok ?_
    apply htell_0
    refine poisonReq_within (Sub.trans (by decide) hM) ?_
    exact h_s
  · refine OutWithin.ok ?_
    apply htell_0
    exact h_s

theorem arbWait_within {A : Nat} {u : State} {x i beats : Nat} {s : State} (hM : Sub 0x40000 A) (h_s : Within A u s) :
    Within A u (arbWait x i beats s) := by
  unfold arbWait
  extract_lets -merge -useContext +onlyGivenNames a_0 r_1 r_2
  refine setArb_within (Sub.trans (by decide) hM) ?_
  exact h_s

theorem arbRequeue_within {A : Nat} {u : State} {x i : Nat} {s : State} (hM : Sub 0x40000 A) (h_s : Within A u s) :
    Within A u (arbRequeue x i s) := by
  unfold arbRequeue
  extract_lets -merge -useContext +onlyGivenNames a_0
  split
  · exact h_s
  · refine setArb_within (Sub.trans (by decide) hM) ?_
    exact h_s

theorem arbProgress_within {A : Nat} {u : State} {x i cycles : Nat} {s : State} (hM : Sub 0x40000 A) (h_s : Within A u s) :
    Within A u (arbProgress x i cycles s) := by
  unfold arbProgress
  split
  · exact h_s
  · refine modArbReq_within (Sub.trans (by decide) hM) ?_
    exact h_s

theorem arbRequest_within {A : Nat} {u : State} {x i beats held : Nat} {s : State} (hM : Sub 0x2000000000000000000040000 A) (h_s : Within
    A u s) :
    Within A u (arbRequest x i beats held s) := by
  unfold arbRequest
  split
  · refine arbChoose_within (Sub.trans (by decide) hM) ?_
    refine arbWait_within (Sub.trans (by decide) hM) ?_
    exact h_s
  · refine Within.ite ?_ ?_
    · exact h_s
    · refine Within.ite ?_ ?_
      · extract_lets -merge -useContext +onlyGivenNames left_0 s_1 s_2
        have hs_1 : Within A u s_1 := by
          refine arbRequeue_within (Sub.trans (by decide) hM) ?_
          refine arbProgress_within (Sub.trans (by decide) hM) ?_
          exact h_s
        have hs_2 : Within A u s_2 := by
          unfold s_2
          split
          · refine modArbReq_within (Sub.trans (by decide) hM) ?_
            exact hs_1
          · exact hs_1
        refine arbGrant_within (Sub.trans (by decide) hM) ?_
        refine arbWait_within (Sub.trans (by decide) hM) ?_
        exact hs_2
      · refine arbWait_within (Sub.trans (by decide) hM) ?_
        exact h_s

theorem wrRtrStat_within {A : Nat} {u : State} {a : Agent} {k v : Nat} {s : State} (hM : Sub 0x800000000000000000000000 A) (h_s : Within
    A u s) :
    Within A u (wrRtrStat a k v s).2 := by
  unfold wrRtrStat
  refine Within.ite1 ?_ ?_
  · refine Within.snd1 ?_
    exact h_s
  · refine Within.snd1 ?_
    refine writeFlds_within (Sub.trans (by decide) hM) (inMasks (NOC_RTR_STAT_fields_win _) (Sub.bit hM (by decide))) ?_
    exact h_s

theorem nocTick_within {A : Nat} {u : State} {s : State} (hM : Sub 0x1000000000000000000040000 A) (h_s : Within A u s) :
    Within A u (nocTick s) := by
  unfold nocTick
  extract_lets -merge -useContext +onlyGivenNames n_0 s_1 w_2
  have hs_1 : Within A u s_1 := by
    refine forNat_within ?_ _ ?_
    · intro y3 y4 hy5
      beta_reduce
      extract_lets -merge -useContext +onlyGivenNames mean_6
      refine set_within _ (inMask (NOC_STAT_B_LAT_MEAN_win _) (Sub.bit hM (by decide))) ?_
      refine set_within _ (inMask (NOC_STAT_B_LAT_MAX_win _) (Sub.bit hM (by decide))) ?_
      refine set_within _ (inMask (NOC_STAT_B_TIMEOUTS_win _) (Sub.bit hM (by decide))) ?_
      refine set_within _ (inMask (NOC_STAT_B_RETRIES_win _) (Sub.bit hM (by decide))) ?_
      refine set_within _ (inMask (NOC_STAT_A_FLITS_win _) (Sub.bit hM (by decide))) ?_
      refine set_within _ (inMask (NOC_STAT_A_REQS_win _) (Sub.bit hM (by decide))) ?_
      exact hy5
    · exact h_s
  refine Within.noc_ (Sub.bit hM (by decide)) ?_
  exact hs_1

theorem wrArbShd_within {A : Nat} {u : State} {a : Agent} {x i v : Nat} {s : State} (hM : Sub 0x2000000000000000000000000 A) (h_s :
    Within A u s) :
    Within A u (wrArbShd a x i v s).2 := by
  unfold wrArbShd
  refine Within.ite1 ?_ ?_
  · refine Within.snd1 ?_
    exact h_s
  · refine Within.ite1 ?_ ?_
    · refine Within.snd1 ?_
      exact h_s
    · refine Within.snd1 ?_
      refine writeFlds_within (Sub.trans (by decide) hM) (inMasks (ARB_SHD_fields_win _ _) (Sub.bit hM (by decide))) ?_
      exact h_s

theorem wrRtrCtl_within {A : Nat} {u : State} {a : Agent} {k v : Nat} {s : State} (hM : Sub 0x80000000000000000000000C A) (h_s : Within A
    u s) :
    Within A u (wrRtrCtl a k v s).2 := by
  unfold wrRtrCtl
  extract_lets -merge -useContext +onlyGivenNames m_0 st_1 s_2
  have hs_2 : Within A u s_2 := by
    refine writeFlds_within (Sub.trans (by decide) hM) (inMasks (NOC_RTR_CTL_fields_win _) (Sub.bit hM (by decide))) ?_
    exact h_s
  refine Within.ite1 ?_ ?_
  · refine Within.snd1 ?_
    exact h_s
  · refine Within.ite1 ?_ ?_
    · refine Within.snd1 ?_
      exact h_s
    · refine Within.ite1 ?_ ?_
      · refine Within.snd1 ?_
        exact h_s
      · refine Within.snd1 ?_
        refine Within.ite ?_ ?_
        · refine set_within _ (inMask (NOC_RTR_STAT_STATE_win _) (Sub.bit hM (by decide))) ?_
          exact hs_2
        · refine Within.ite ?_ ?_
          · refine raise_within (Sub.trans (by decide) hM) ?_
            refine set_within _ (inMask (NOC_RTR_STAT_STATE_win _) (Sub.bit hM (by decide))) ?_
            exact hs_2
          · exact hs_2

theorem wrNocCtl_within {A : Nat} {u : State} {a : Agent} {v : Nat} {s : State} (hM : Sub 0x400000000000000000000000 A) (h_s : Within A u
    s) :
    Within A u (wrNocCtl a v s).2 := by
  unfold wrNocCtl
  refine Within.ite1 ?_ ?_
  · refine Within.snd1 ?_
    exact h_s
  · refine Within.ite1 ?_ ?_
    · refine Within.snd1 ?_
      exact h_s
    · refine Within.snd1 ?_
      refine writeFlds_within (Sub.trans (by decide) hM) (inMasks (NOC_CTL_fields_win) (Sub.bit hM (by decide))) ?_
      exact h_s

theorem execCreditIdleReturn_within {A : Nat} {u : State} {i : Fin 64} {t : Nat} {s : State} (hM : Sub 0x40000 A) (h_s : Within A u s) :
    OutWithin A u (execCreditIdleReturn i t s) := by
  unfold execCreditIdleReturn
  refine OutWithin.ok ?_
  refine Within.ite ?_ ?_
  · refine Within.noc_ (Sub.bit hM (by decide)) ?_
    exact h_s
  · exact h_s

theorem execRouterDrainAbort_within {A : Nat} {u : State} {k : Fin 36} {s : State} (hM : Sub 0x80000000000000000000000C A) (h_s : Within
    A u s) :
    OutWithin A u (execRouterDrainAbort k s) := by
  unfold execRouterDrainAbort
  refine OutWithin.whenOk ?_ ?_
  · exact h_s
  · refine raise_within (Sub.trans (by decide) hM) ?_
    refine set_within _ (inMask (NOC_RTR_STAT_ABORTED_win _) (Sub.bit hM (by decide))) ?_
    refine set_within _ (inMask (NOC_RTR_STAT_STATE_win _) (Sub.bit hM (by decide))) ?_
    exact h_s

theorem execArbRelease_within {A : Nat} {u : State} {x : Fin 18} {s : State} (hM : Sub 0x2000000000000000000040000 A) (h_s : Within A u s) :
    OutWithin A u (execArbRelease x s) := by
  unfold execArbRelease
  refine OutWithin.ok ?_
  refine arbRelease_within (Sub.trans (by decide) hM) ?_
  exact h_s

theorem execArbRequest_within {A : Nat} {u : State} {x : Fin 18} {i : Fin 24} {beats held : Nat} {s : State} (hM : Sub
    0x2000000000000000000040000 A) (h_s : Within A u s) :
    OutWithin A u (execArbRequest x i beats held s) := by
  unfold execArbRequest
  refine OutWithin.whenOk ?_ ?_
  · exact h_s
  · refine arbRequest_within (Sub.trans (by decide) hM) ?_
    exact h_s

theorem wrArbCtl_within {A : Nat} {u : State} {a : Agent} {x v : Nat} {s : State} (hM : Sub 0x200000000000000000000000C A) (h_s : Within
    A u s) :
    Within A u (wrArbCtl a x v s).2 := by
  unfold wrArbCtl
  refine Within.ite1 ?_ ?_
  · refine Within.snd1 ?_
    exact h_s
  · extract_lets -merge -useContext +onlyGivenNames s_0
    have hs_0 : Within A u s_0 := by
      refine writeFlds_within (Sub.trans (by decide) hM) (inMasks (ARB_CTL_fields_win _) (Sub.bit hM (by decide))) ?_
      exact h_s
    refine Within.snd1 ?_
    refine Within.ite ?_ ?_
    · refine raise_within (Sub.trans (by decide) hM) ?_
      refine forNat_within ?_ _ ?_
      · intro y1 y2 hy3
        beta_reduce
        refine set_within _ (inMask (ARB_ACT_PRIO_win _ _) (Sub.bit hM (by decide))) ?_
        refine set_within _ (inMask (ARB_ACT_PREEMPT_win _ _) (Sub.bit hM (by decide))) ?_
        refine set_within _ (inMask (ARB_ACT_BURST_win _ _) (Sub.bit hM (by decide))) ?_
        exact hy3
      · exact hs_0
    · exact hs_0

theorem execRouterMaintEnter_within {A : Nat} {u : State} {a : Agent} {k : Fin 36} {s : State} (hM : Sub 0x80000000000000000000000D A)
    (h_s : Within A u s) :
    OutWithin A u (execRouterMaintEnter a k s) := by
  unfold execRouterMaintEnter
  refine OutWithin.ok ?_
  refine answered_within (Sub.trans (by decide) hM) ?_
  refine wrRtrCtl_within (Sub.trans (by decide) hM) ?_
  exact h_s

theorem hbmServe_within {A : Nat} {u : State} {r : HbmReq} {s : State} (hM : Sub 0x20A00000002000000800180C A) (h_s : Within A u s) :
    Within A u (hbmServe r s).2.2 := by
  unfold hbmServe
  split
  · refine linesFor_within (Sub.trans (by decide) hM) ?_
    exact h_s
  · extract_lets -merge -useContext +onlyGivenNames x_0
    have hx_0 : Within A u x_0.2 := by
      refine putLinesFor_within (Sub.trans (by decide) hM) ?_
      exact h_s
    refine Within.snd2 ?_
    exact hx_0

theorem execNocTimeout_within {A : Nat} {u : State} {i : Fin 64} {s : State} (hM : Sub 0x404000D A) (h_s : Within A u s) :
    OutWithin A u (execNocTimeout i s) := by
  unfold execNocTimeout
  split
  · refine OutWithin.ok ?_
    exact h_s
  · extract_lets -merge -useContext +onlyGivenNames t_0 t_1 w_2 t_3
    have ht_0 : Within A u t_0 := by
      refine modReq_within (Sub.trans (by decide) hM) ?_
      exact h_s
    have ht_1 : Within A u t_1 := by
      refine nocTold_within (Sub.trans (by decide) hM) ?_
      exact ht_0
    have ht_3 : Within A u t_3 := by
      refine Within.ite ?_ ?_
      · refine Within.dbg_ (Sub.bit hM (by decide)) ?_
        exact ht_1
      · exact ht_1
    refine OutWithin.ok ?_
    refine answer_within (Sub.trans (by decide) hM) ?_
    refine raiseOnce_within (Sub.trans (by decide) hM) ?_
    exact ht_3

theorem execRouterMaintExit_within {A : Nat} {u : State} {a : Agent} {k : Fin 36} {s : State} (hM : Sub 0x80000000000000000000000D A)
    (h_s : Within A u s) :
    OutWithin A u (execRouterMaintExit a k s) := by
  unfold execRouterMaintExit
  refine OutWithin.ok ?_
  refine answered_within (Sub.trans (by decide) hM) ?_
  refine wrRtrCtl_within (Sub.trans (by decide) hM) ?_
  exact h_s

theorem execArbCommit_within {A : Nat} {u : State} {a : Agent} {x : Fin 18} {s : State} (hM : Sub 0x200000000000000000000000D A) (h_s :
    Within A u s) :
    OutWithin A u (execArbCommit a x s) := by
  unfold execArbCommit
  refine OutWithin.ok ?_
  refine answered_within (Sub.trans (by decide) hM) ?_
  refine wrArbCtl_within (Sub.trans (by decide) hM) ?_
  exact h_s

theorem ingressReturned_within {A : Nat} {u : State} {n : Nat} {s : State} (hM : Sub 0x40000 A) (h_s : Within A u s) :
    Within A u (ingressReturned n s) := by
  unfold ingressReturned
  extract_lets -merge -useContext +onlyGivenNames inIt_0 w_1
  refine Within.noc_ (Sub.bit hM (by decide)) ?_
  exact h_s

theorem arbExpire_within {A : Nat} {u : State} {x : Nat} {s : State} (hM : Sub 0x2000000000000000000040000 A) (h_s : Within A u s) :
    Within A u (arbExpire x s) := by
  unfold arbExpire
  split
  · exact h_s
  · refine arbChoose_within (Sub.trans (by decide) hM) ?_
    refine arbRequeue_within (Sub.trans (by decide) hM) ?_
    refine arbProgress_within (Sub.trans (by decide) hM) ?_
    exact h_s

theorem execArbBurstExpiry_within {A : Nat} {u : State} {x : Fin 18} {s : State} (hM : Sub 0x2000000000000000000040000 A) (h_s : Within A
    u s) :
    OutWithin A u (execArbBurstExpiry x s) := by
  unfold execArbBurstExpiry
  refine OutWithin.ok ?_
  refine arbExpire_within (Sub.trans (by decide) hM) ?_
  exact h_s

theorem execHbmRequestIssue_within {A : Nat} {u : State} {upset : Option WordUpset} {newWindow : Bool} {s : State} (hM : Sub
    0x20A00000002000000804180C A) (h_s : Within A u s) :
    OutWithin A u (execHbmRequestIssue upset newWindow s) := by
  unfold execHbmRequestIssue
  extract_lets -merge -useContext +onlyGivenNames w_0 s1_1 w_2
  have hs1_1 : Within A u s1_1 := by
    refine Within.ite ?_ ?_
    · refine Within.hbm_ (Sub.bit hM (by decide)) ?_
      exact h_s
    · exact h_s
  split
  · refine OutWithin.ok ?_
    exact hs1_1
  · refine OutWithin.ite ?_ ?_
    · refine OutWithin.ok ?_
      exact hs1_1
    · extract_lets -merge -useContext +onlyGivenNames t_3 t_4 x_5
      have ht_3 : Within A u t_3 := by
        refine Within.hbm_ (Sub.bit hM (by decide)) ?_
        exact hs1_1
      have ht_4 : Within A u t_4 := by
        unfold t_4
        split
        · refine strikeWord_within (Sub.trans (by decide) hM) ?_
          exact ht_3
        · exact ht_3
      have hx_5 : Within A u x_5.2.2 := by
        refine hbmServe_within (Sub.trans (by decide) hM) ?_
        refine countMoved_within (Sub.trans (by decide) hM) ?_
        exact ht_4
      refine OutWithin.ok ?_
      refine nocAnswer_within (Sub.trans (by decide) hM) ?_
      exact hx_5

theorem execRouterDrained_within {A : Nat} {u : State} {k : Fin 36} {s : State} (hM : Sub 0x80000000000000000000000C A) (h_s : Within A u
    s) :
    OutWithin A u (execRouterDrained k s) := by
  unfold execRouterDrained
  refine OutWithin.whenOk ?_ ?_
  · exact h_s
  · refine raise_within (Sub.trans (by decide) hM) ?_
    refine set_within _ (inMask (NOC_RTR_STAT_STATE_win _) (Sub.bit hM (by decide))) ?_
    exact h_s

theorem progressCleared_within {A : Nat} {u : State} {p : Nat → Bool} {s : State} (hM : Sub 0x40000 A) (h_s : Within A u s) :
    Within A u (progressCleared p s) := by
  unfold progressCleared
  refine Within.noc_ (Sub.bit hM (by decide)) ?_
  exact h_s

end Sys2Proof.Machine
end

