-- ==== Sys2Proof/Laws/WithinFabric.lean ====
section
/-! SUPPORT. What each operation of Machine/Fabric.lean can reach (see Laws/Within.lean). -/
set_option Elab.async false
namespace Sys2Proof.Machine

theorem bramDue_within {A : Nat} {u : State} {k v : Nat} {s : State} (hM : Sub 0x80000 A) (h_s : Within A u s) :
    Within A u (bramDue k v s) := by
  unfold bramDue
  refine Within.fab_ (Sub.bit hM (by decide)) ?_
  exact h_s

theorem bramCorr_within {A : Nat} {u : State} {n : Nat} {s : State} (hM : Sub 0x20000000008000C A) (h_s : Within A u s) :
    Within A u (bramCorr n s) := by
  unfold bramCorr
  refine bucketHit_within (Sub.trans (by decide) hM) (inMask (FAB_ECC_STAT_CORR_win _) (Sub.bit hM (by decide))) (inMask (FAB_ECC_STAT_LEVEL_win _) (Sub.bit hM (by decide))) (inMask (FAB_ECC_STAT_OVERFLOW_win _) (Sub.bit hM (by decide))) (inMask (FAB_ECC_CTL_BUCKET_win _) (Sub.bit hM (by decide))) ?_
  refine Within.fab_ (Sub.bit hM (by decide)) ?_
  exact h_s

theorem bramUncorr_within {A : Nat} {u : State} {n m w found : Nat} {s : State} (hM : Sub 0x20000000808000C A) (h_s : Within A u s) :
    Within A u (bramUncorr n m w found s) := by
  unfold bramUncorr
  extract_lets -merge -useContext +onlyGivenNames s_0 w_1 s_2
  have hs_0 : Within A u s_0 := by
    refine State.count_within (Sub.trans (by decide) hM) (inMask (FAB_ECC_STAT_UNCORR_win _) (Sub.bit hM (by decide))) ?_
    exact h_s
  have hs_2 : Within A u s_2 := by
    refine Within.fab_ (Sub.bit hM (by decide)) ?_
    exact hs_0
  refine raise_within (Sub.trans (by decide) hM) ?_
  refine noteSign_within (Sub.trans (by decide) hM) ?_
  exact hs_2

theorem bramCheck_within {A : Nat} {u : State} {n m w found : Nat} {s : State} (hM : Sub 0x20000000808000C A) (h_s : Within A u s) :
    Within A u (bramCheck n m w found s).2.2.2 := by
  unfold bramCheck
  extract_lets -merge -useContext +onlyGivenNames k_0 x_1
  refine Within.ite3 ?_ ?_
  · refine Within.snd3 ?_
    refine bramDue_within (Sub.trans (by decide) hM) ?_
    refine bramCorr_within (Sub.trans (by decide) hM) ?_
    exact h_s
  · refine Within.ite3 ?_ ?_
    · refine Within.snd3 ?_
      refine bramUncorr_within (Sub.trans (by decide) hM) ?_
      exact h_s
    · refine Within.snd3 ?_
      exact h_s

theorem dinRelease_within {A : Nat} {u : State} {q : Nat} {s : State} (hM : Sub 0x4000 A) (h_s : Within A u s) :
    Within A u (dinRelease q s) := by
  unfold dinRelease
  refine Within.ports_ (Sub.bit hM (by decide)) ?_
  exact h_s

theorem logicActs_within {A : Nat} {u : State} {n : Nat} {s : State} (hM : Sub 0x80000 A) (h_s : Within A u s) :
    Within A u (logicActs n s) := by
  unfold logicActs
  refine Within.fab_ (Sub.bit hM (by decide)) ?_
  exact h_s

theorem bramStore_within {A : Nat} {u : State} {k v e : Nat} {s : State} (hM : Sub 0x80000 A) (h_s : Within A u s) :
    Within A u (bramStore k v e s) := by
  unfold bramStore
  extract_lets -merge -useContext +onlyGivenNames words_0 w_1
  refine Within.fab_ (Sub.bit hM (by decide)) ?_
  exact h_s

theorem bramWrite1_within {A : Nat} {u : State} {n m mode : Nat} {x : BramWr} {s : State} (hM : Sub 0x200000000080000 A) (h_s : Within A
    u s) :
    Within A u (bramWrite1 n m mode x s) := by
  unfold bramWrite1
  extract_lets -merge -useContext +onlyGivenNames k_0 v_1
  refine Within.ite ?_ ?_
  · exact h_s
  · refine Within.ite ?_ ?_
    · refine bramStore_within (Sub.trans (by decide) hM) ?_
      refine set_within _ (inMask (FAB_FLIP_CTL_ARM_win _) (Sub.bit hM (by decide))) ?_
      exact h_s
    · refine bramStore_within (Sub.trans (by decide) hM) ?_
      exact h_s

theorem execBramWrite_within {A : Nat} {u : State} {n : Fin 17} {m : Nat} {pa pb : Option BramWr} {s : State} (hM : Sub 0x200000000080000
    A) (h_s : Within A u s) :
    OutWithin A u (execBramWrite n m pa pb s) := by
  unfold execBramWrite
  extract_lets -merge -useContext +onlyGivenNames mode_0
  refine OutWithin.whenOk ?_ ?_
  · exact h_s
  · refine logicActs_within (Sub.trans (by decide) hM) ?_
    split
    · exact h_s
    · refine bramWrite1_within (Sub.trans (by decide) hM) ?_
      exact h_s
    · refine bramWrite1_within (Sub.trans (by decide) hM) ?_
      exact h_s
    · refine Within.ite ?_ ?_
      · refine bramWrite1_within (Sub.trans (by decide) hM) ?_
        exact h_s
      · refine bramWrite1_within (Sub.trans (by decide) hM) ?_
        refine bramWrite1_within (Sub.trans (by decide) hM) ?_
        exact h_s

theorem wrFabEccCtl_within {A : Nat} {u : State} {n v : Nat} {s : State} (hM : Sub 0x200000000000000 A) (h_s : Within A u s) :
    Within A u (wrFabEccCtl n v s).2 := by
  unfold wrFabEccCtl
  refine Within.ite1 ?_ ?_
  · refine Within.snd1 ?_
    exact h_s
  · refine Within.snd1 ?_
    refine writeFlds_within (Sub.trans (by decide) hM) (inMasks (FAB_ECC_CTL_fields_win _) (Sub.bit hM (by decide))) ?_
    exact h_s

theorem fabLower_within {A : Nat} {u : State} {r : Nat} {s : State} (hM : Sub 0x4000 A) (h_s : Within A u s) :
    Within A u (fabLower r s) := by
  unfold fabLower
  refine Within.ports_ (Sub.bit hM (by decide)) ?_
  exact h_s

theorem flopsForced_within {A : Nat} {u : State} {i : Nat} {s : State} (hM : Sub 0x80000 A) (h_s : Within A u s) :
    Within A u (flopsForced i s) := by
  unfold flopsForced
  refine Within.fab_ (Sub.bit hM (by decide)) ?_
  exact h_s

theorem bramStrike_within {A : Nat} {u : State} {k x : Nat} {s : State} (hM : Sub 0x80000 A) (h_s : Within A u s) :
    Within A u (bramStrike k x s) := by
  unfold bramStrike
  refine Within.fab_ (Sub.bit hM (by decide)) ?_
  exact h_s

theorem fabReceivesTick_within {A : Nat} {u : State} {s : State} (hM : Sub 0x80000 A) (h_s : Within A u s) :
    Within A u (fabReceivesTick s) := by
  unfold fabReceivesTick
  refine forNat_within ?_ _ ?_
  · intro y0 y1 hy2
    beta_reduce
    refine Within.ite ?_ ?_
    · refine logicActs_within (Sub.trans (by decide) hM) ?_
      refine Within.fab_ (Sub.bit hM (by decide)) ?_
      exact hy2
    · exact hy2
  · exact h_s

theorem fabTick_within {A : Nat} {u : State} {s : State} (hM : Sub 0x20000000008400C A) (h_s : Within A u s) :
    Within A u (fabTick s) := by
  unfold fabTick
  extract_lets -merge -useContext +onlyGivenNames s_0 s_1 s_2 w_3 w_4
  have hs_0 : Within A u s_0 := by
    refine fabReceivesTick_within (Sub.trans (by decide) hM) ?_
    exact h_s
  have hs_1 : Within A u s_1 := by
    refine forNat_within ?_ _ ?_
    · intro y5 y6 hy7
      beta_reduce
      refine bucketLeak_within (Sub.trans (by decide) hM) (inMask (FAB_ECC_STAT_LEVEL_win _) (Sub.bit hM (by decide))) (inMask (FAB_ECC_CTL_LEAK_win _) (Sub.bit hM (by decide))) ?_
      exact hy7
    · exact hs_0
  have hs_2 : Within A u s_2 := by
    refine forEach_within ?_ _ ?_
    · intro y8 y9 hy10
      beta_reduce
      refine raise_within (Sub.trans (by decide) hM) ?_
      exact hy10
    · exact hs_1
  clear_value s_2
  refine Within.upd (s := s_2) ?_ rfl (fun _ _ => rfl) (.inr rfl) (.inr rfl) (.inr rfl) (.inr rfl) (.inr rfl) (.inr rfl) (.inr rfl) (.inr rfl) (.inr rfl) (.inr rfl) (.inr rfl) (.inr rfl) (.inr rfl) (.inr rfl) (.inl (Sub.bit hM (by decide))) (.inr rfl) (.inr rfl) (.inr rfl) (.inr rfl) (.inl (Sub.bit hM (by decide))) (.inr rfl) (.inr rfl) (.inr rfl) (.inr rfl) (.inr rfl) (.inr rfl) (.inr rfl) (.inr rfl) (.inr rfl) (fun c => ⟨c.regs, c.hbm, c.flash, c.cfg, c.editions, c.ledger, c.ring, c.queue, c.seqs, c.cores⟩) (Otp.same rfl rfl rfl rfl rfl rfl)
  exact hs_2

theorem portAnswer_within {A : Nat} {u : State} {n : Nat} {st : Status} {b : List Byte} {s : State} (hM : Sub 0xC0001 A) (h_s : Within A
    u s) :
    Within A u (portAnswer n st b s) := by
  unfold portAnswer
  split
  · refine nocAnswer_within (Sub.trans (by decide) hM) ?_
    exact h_s
  · refine Within.upd (s := s) ?_ rfl (fun _ _ => rfl) (.inl (Sub.bit hM (by decide))) (.inr rfl) (.inr rfl) (.inr rfl) (.inr rfl) (.inr rfl) (.inr rfl) (.inr rfl) (.inr rfl) (.inr rfl) (.inr rfl) (.inr rfl) (.inr rfl) (.inr rfl) (.inr rfl) (.inr rfl) (.inr rfl) (.inr rfl) (.inr rfl) (.inl (Sub.bit hM (by decide))) (.inr rfl) (.inr rfl) (.inr rfl) (.inr rfl) (.inr rfl) (.inr rfl) (.inr rfl) (.inr rfl) (.inr rfl) (fun c => ⟨c.regs, c.hbm, c.flash, c.cfg, c.editions, c.ledger, c.ring, c.queue, c.seqs, c.cores⟩) (Otp.same rfl rfl rfl rfl rfl rfl)
    exact h_s

theorem execBramRead_within {A : Nat} {u : State} {n : Fin 17} {m : Nat} {p : Port} {x : BramRd} {strike : Nat} {s : State} (hM : Sub
    0x20000000808000D A) (h_s : Within A u s) :
    OutWithin A u (execBramRead n m p x strike s) := by
  unfold execBramRead
  extract_lets -merge -useContext +onlyGivenNames w_0 mode_1 found_2 wr_3 r_4 w_5
  have hwr_3 : ∀ y6, Within A u y6 → Within A u (wr_3 y6) := by
    intro y6 hy7
    unfold wr_3
    refine logicActs_within (Sub.trans (by decide) hM) ?_
    split
    · refine bramWrite1_within (Sub.trans (by decide) hM) ?_
      exact hy7
    · exact hy7
  have hr_4 : Within A u r_4.2.2.2 := by
    refine bramCheck_within (Sub.trans (by decide) hM) ?_
    refine bramStrike_within (Sub.trans (by decide) hM) ?_
    exact h_s
  have hw_5 : Within A u w_5 := by
    exact hr_4
  refine OutWithin.ite ?_ ?_
  · refine OutWithin.ok ?_
    exact h_s
  · refine OutWithin.ite ?_ ?_
    · refine OutWithin.ok ?_
      apply hwr_3
      refine Within.resp_ (Sub.bit hM (by decide)) ?_
      exact h_s
    · refine OutWithin.ok ?_
      apply hwr_3
      refine Within.resp_ (Sub.bit hM (by decide)) ?_
      exact hw_5

theorem fabPortsEmpty_within {A : Nat} {u : State} {r : Nat} {s : State} (hM : Sub 0x4000 A) (h_s : Within A u s) :
    Within A u (fabPortsEmpty r s) := by
  unfold fabPortsEmpty
  refine Within.ports_ (Sub.bit hM (by decide)) ?_
  exact h_s

theorem flopsInitial_within {A : Nat} {u : State} {n : Nat} {s : State} (hM : Sub 0x80000 A) (h_s : Within A u s) :
    Within A u (flopsInitial n s) := by
  unfold flopsInitial
  refine Within.fab_ (Sub.bit hM (by decide)) ?_
  exact h_s

theorem fabReset_within {A : Nat} {u : State} {r : Nat} {s : State} (hM : Sub 0x200000000084000 A) (h_s : Within A u s) :
    Within A u (fabReset r s) := by
  unfold fabReset
  refine fabPortsEmpty_within (Sub.trans (by decide) hM) ?_
  refine flopsInitial_within (Sub.trans (by decide) hM) ?_
  refine set_within _ (inMask (FAB_ECC_STAT_LEVEL_win _) (Sub.bit hM (by decide))) ?_
  refine set_within _ (inMask (FAB_FLIP_CTL_ARM_win _) (Sub.bit hM (by decide))) ?_
  exact h_s

theorem portFault_within {A : Nat} {u : State} {n : Nat} {s : State} (hM : Sub 0xC0001 A) (h_s : Within A u s) :
    Within A u (portFault n s) := by
  unfold portFault
  extract_lets -merge -useContext +onlyGivenNames t_0 w_1
  have ht_0 : Within A u t_0 := by
    refine forEach_within ?_ _ ?_
    · intro y2 y3 hy4
      beta_reduce
      refine nocAnswer_within (Sub.trans (by decide) hM) ?_
      exact hy4
    · exact h_s
  refine Within.ite ?_ ?_
  · refine Within.upd (s := t_0) ?_ rfl (fun _ _ => rfl) (.inl (Sub.bit hM (by decide))) (.inr rfl) (.inr rfl) (.inr rfl) (.inr rfl) (.inr rfl) (.inr rfl) (.inr rfl) (.inr rfl) (.inr rfl) (.inr rfl) (.inr rfl) (.inr rfl) (.inr rfl) (.inr rfl) (.inr rfl) (.inr rfl) (.inr rfl) (.inr rfl) (.inl (Sub.bit hM (by decide))) (.inr rfl) (.inr rfl) (.inr rfl) (.inr rfl) (.inr rfl) (.inr rfl) (.inr rfl) (.inr rfl) (.inr rfl) (fun c => ⟨c.regs, c.hbm, c.flash, c.cfg, c.editions, c.ledger, c.ring, c.queue, c.seqs, c.cores⟩) (Otp.same rfl rfl rfl rfl rfl rfl)
    exact ht_0
  · exact ht_0

theorem execTargetPortTimeout_within {A : Nat} {u : State} {n : Fin 17} {s : State} (hM : Sub 0xC0001 A) (h_s : Within A u s) :
    OutWithin A u (execTargetPortTimeout n s) := by
  unfold execTargetPortTimeout
  refine OutWithin.whenOk ?_ ?_
  · exact h_s
  · refine portAnswer_within (Sub.trans (by decide) hM) ?_
    exact h_s

theorem wrFabFlip_within {A : Nat} {u : State} {n v : Nat} {s : State} (hM : Sub 0x200000000000000 A) (h_s : Within A u s) :
    Within A u (wrFabFlip n v s).2 := by
  unfold wrFabFlip
  extract_lets -merge -useContext +onlyGivenNames m_0
  refine Within.ite1 ?_ ?_
  · refine Within.snd1 ?_
    exact h_s
  · refine Within.snd1 ?_
    refine writeFlds_within (Sub.trans (by decide) hM) (inMasks (FAB_FLIP_CTL_fields_win _) (Sub.bit hM (by decide))) ?_
    exact h_s

theorem isoFromImage_within {A : Nat} {u : State} {s : State} (hM : Sub 0x100000000000000 A) (h_s : Within A u s) :
    Within A u (isoFromImage s) := by
  unfold isoFromImage
  refine forNat_within ?_ _ ?_
  · intro y0 y1 hy2
    beta_reduce
    refine forNat_within ?_ _ ?_
    · intro y3 y4 hy5
      beta_reduce
      refine set_within _ (inMask (ISO_HOLD_CHOICE_win _ _) (Sub.bit hM (by decide))) ?_
      exact hy5
    · exact hy2
  · exact h_s

theorem scrubOn_within {A : Nat} {u : State} {n p : Nat} {s : State} (hM : Sub 0x200000000080000 A) (h_s : Within A u s) :
    Within A u (scrubOn n p s) := by
  unfold scrubOn
  extract_lets -merge -useContext +onlyGivenNames w_0 s_1 w_2 w_3 w_4
  have hs_1 : Within A u s_1 := by
    refine Within.fab_ (Sub.bit hM (by decide)) ?_
    exact h_s
  have hw_3 : Within A u w_3 := by
    refine set_within _ (inMask (FAB_ECC_STAT_PASSES_win _) (Sub.bit hM (by decide))) ?_
    exact hs_1
  refine Within.ite ?_ ?_
  · refine Within.fab_ (Sub.bit hM (by decide)) ?_
    exact hs_1
  · refine Within.fab_ (Sub.bit hM (by decide)) ?_
    exact hw_3

theorem scrubWord_within {A : Nat} {u : State} {n p strike : Nat} {free : Bool} {s : State} (hM : Sub 0x20000000808000C A) (h_s : Within
    A u s) :
    Within A u (scrubWord n p strike free s) := by
  unfold scrubWord
  extract_lets -merge -useContext +onlyGivenNames m_0 w_1 w_2
  refine Within.ite ?_ ?_
  · refine scrubOn_within (Sub.trans (by decide) hM) ?_
    refine bramCheck_within (Sub.trans (by decide) hM) ?_
    refine bramStrike_within (Sub.trans (by decide) hM) ?_
    exact h_s
  · refine Within.ite ?_ ?_
    · refine scrubOn_within (Sub.trans (by decide) hM) ?_
      refine raise_within (Sub.trans (by decide) hM) ?_
      refine set_within _ (inMask (FAB_ECC_STAT_SKIP_win _) (Sub.bit hM (by decide))) ?_
      exact h_s
    · refine Within.fab_ (Sub.bit hM (by decide)) ?_
      exact h_s

theorem execBramWriteback_within {A : Nat} {u : State} {n : Fin 17} {m w : Nat} {s : State} (hM : Sub 0x80000 A) (h_s : Within A u s) :
    OutWithin A u (execBramWriteback n m w s) := by
  unfold execBramWriteback
  split
  · refine OutWithin.ok ?_
    refine bramStore_within (Sub.trans (by decide) hM) ?_
    exact h_s
  · refine OutWithin.ok ?_
    exact h_s

theorem execBramScrubWord_within {A : Nat} {u : State} {n : Fin 17} {free : Bool} {strike : Nat} {s : State} (hM : Sub 0x20000000808000C
    A) (h_s : Within A u s) :
    OutWithin A u (execBramScrubWord n free strike s) := by
  unfold execBramScrubWord
  split
  · refine OutWithin.ok ?_
    exact h_s
  · refine OutWithin.whenOk ?_ ?_
    · exact h_s
    · refine scrubWord_within (Sub.trans (by decide) hM) ?_
      exact h_s

theorem execFlipArm_within {A : Nat} {u : State} {_a : Agent} {n : Fin 17} {v : Nat} {s : State} (hM : Sub 0x200000000000001 A) (h_s :
    Within A u s) :
    OutWithin A u (execFlipArm _a n v s) := by
  unfold execFlipArm
  refine OutWithin.ok ?_
  refine answered_within (Sub.trans (by decide) hM) ?_
  refine wrFabFlip_within (Sub.trans (by decide) hM) ?_
  exact h_s

theorem fusesTake_within {A : Nat} {u : State} {n : Nat} {s : State} (hM : Sub 0x80000 A) (h_s : Within A u s) :
    Within A u (fusesTake n s) := by
  unfold fusesTake
  extract_lets -merge -useContext +onlyGivenNames l_0 w_1
  refine forEach_within ?_ _ ?_
  · intro y2 y3 hy4
    beta_reduce
    refine Within.fab_ (Sub.bit hM (by decide)) ?_
    exact hy4
  · refine Within.fab_ (Sub.bit hM (by decide)) ?_
    exact h_s

theorem bordersHeld_within {A : Nat} {u : State} {r : Nat} {s : State} (hM : Sub 0x80000 A) (h_s : Within A u s) :
    Within A u (bordersHeld r s) := by
  unfold bordersHeld
  refine Within.ite ?_ ?_
  · exact h_s
  · refine Within.fab_ (Sub.bit hM (by decide)) ?_
    exact h_s

theorem fabLose_within {A : Nat} {u : State} {n : Nat} {s : State} (hM : Sub 0x80000 A) (h_s : Within A u s) :
    Within A u (fabLose n s) := by
  unfold fabLose
  extract_lets -merge -useContext +onlyGivenNames frames_0 w_1
  refine Within.fab_ (Sub.bit hM (by decide)) ?_
  exact h_s

theorem portOpen_within {A : Nat} {u : State} {n : Nat} {s : State} (hM : Sub 0xC0000 A) (h_s : Within A u s) :
    Within A u (portOpen n s) := by
  unfold portOpen
  split
  · refine modReq_within (Sub.trans (by decide) hM) ?_
    exact h_s
  · refine Within.fab_ (Sub.bit hM (by decide)) ?_
    exact h_s

theorem execDataInWrite_within {A : Nat} {u : State} {q : Fin 16} {word : Nat} {s : State} (hM : Sub 0x84000 A) (h_s : Within A u s) :
    OutWithin A u (execDataInWrite q word s) := by
  unfold execDataInWrite
  refine OutWithin.whenOk ?_ ?_
  · exact h_s
  · refine logicActs_within (Sub.trans (by decide) hM) ?_
    refine Within.ports_ (Sub.bit hM (by decide)) ?_
    exact h_s

theorem portPresent_within {A : Nat} {u : State} {n : Nat} {x : Option FabAnswer} {s : State} (hM : Sub 0xC0001 A) (h_s : Within A u s) :
    Within A u (portPresent n x s) := by
  unfold portPresent
  split
  · refine portAnswer_within (Sub.trans (by decide) hM) ?_
    exact h_s
  · split
    · refine portOpen_within (Sub.trans (by decide) hM) ?_
      exact h_s
    · refine Within.ite ?_ ?_
      · refine logicActs_within (Sub.trans (by decide) hM) ?_
        refine portAnswer_within (Sub.trans (by decide) hM) ?_
        exact h_s
      · refine portOpen_within (Sub.trans (by decide) hM) ?_
        exact h_s

theorem execTapDrain_within {A : Nat} {u : State} {q : Fin 16} {count : Nat} {s : State} (hM : Sub 0x400000000084001 A) (h_s : Within A u
    s) :
    OutWithin A u (execTapDrain q count s) := by
  unfold execTapDrain
  extract_lets -merge -useContext +onlyGivenNames t_0 l_1 w_2
  have ht_0 : Within A u t_0 := by
    refine tapFlush_within (Sub.trans (by decide) hM) ?_
    exact h_s
  refine OutWithin.whenOk ?_ ?_
  · exact h_s
  · refine answerBytes_within (Sub.trans (by decide) hM) ?_
    refine logicActs_within (Sub.trans (by decide) hM) ?_
    refine Within.ports_ (Sub.bit hM (by decide)) ?_
    exact ht_0

theorem execTargetPortRequest_within {A : Nat} {u : State} {n : Fin 17} {addr : Nat} {x : Option FabAnswer} {s : State} (hM : Sub 0xC0001
    A) (h_s : Within A u s) :
    OutWithin A u (execTargetPortRequest n addr x s) := by
  unfold execTargetPortRequest
  refine OutWithin.whenOk ?_ ?_
  · exact h_s
  · refine portPresent_within (Sub.trans (by decide) hM) ?_
    exact h_s

end Sys2Proof.Machine
end

