-- ==== Sys2Proof/Laws/WithinClocks.lean ====
section
/-! SUPPORT. What each operation of Machine/Clocks.lean can reach (see Laws/Within.lean). -/
set_option Elab.async false
namespace Sys2Proof.Machine

theorem loaderGated_within {A : Nat} {u : State} {n : Nat} {closed : Bool} {s : State} (hM : Sub 0x180000 A) (h_s : Within A u s) :
    Within A u (loaderGated n closed s) := by
  unfold loaderGated
  refine Within.ite ?_ ?_
  · exact h_s
  · refine Within.upd (s := s) ?_ rfl (fun _ _ => rfl) (.inr rfl) (.inr rfl) (.inr rfl) (.inr rfl) (.inr rfl) (.inr rfl) (.inr rfl) (.inr rfl) (.inr rfl) (.inr rfl) (.inr rfl) (.inr rfl) (.inr rfl) (.inr rfl) (.inr rfl) (.inr rfl) (.inr rfl) (.inr rfl) (.inr rfl) (.inl (Sub.bit hM (by decide))) (.inl (Sub.bit hM (by decide))) (.inr rfl) (.inr rfl) (.inr rfl) (.inr rfl) (.inr rfl) (.inr rfl) (.inr rfl) (.inr rfl) (fun c => ⟨c.regs, c.hbm, c.flash, c.cfg, c.editions, c.ledger, c.ring, c.queue, c.seqs, c.cores⟩) (Otp.same rfl rfl rfl rfl rfl rfl)
    exact h_s

theorem execGateAck_within {A : Nat} {u : State} {n : Fin 96} {s : State} (hM : Sub 0x10000000180000 A) (h_s : Within A u s) :
    OutWithin A u (execGateAck n s) := by
  unfold execGateAck
  refine OutWithin.whenOk ?_ ?_
  · exact h_s
  · refine loaderGated_within (Sub.trans (by decide) hM) ?_
    refine Within.ite ?_ ?_
    · refine set_within _ (inMask (CLK_GATE_CLOSED_win _) (Sub.bit hM (by decide))) ?_
      refine set_within _ (inMask (CLK_GATE_PEND_win _) (Sub.bit hM (by decide))) ?_
      exact h_s
    · exact h_s

theorem wrClkFab_within {A : Nat} {u : State} {i v : Nat} {s : State} (hM : Sub 0xC00000000004C A) (h_s : Within A u s) :
    Within A u (wrClkFab i v s).2 := by
  unfold wrClkFab
  extract_lets -merge -useContext +onlyGivenNames mhz_0 s_1 w_2 s_3
  have hs_1 : Within A u s_1 := by
    refine set_within _ (inMask (CLK_FAB_MHZ_win _) (Sub.bit hM (by decide))) ?_
    exact h_s
  have hs_3 : Within A u s_3 := by
    refine Within.clock_ (Sub.bit hM (by decide)) ?_
    exact hs_1
  refine Within.ite1 ?_ ?_
  · refine Within.snd1 ?_
    exact h_s
  · refine Within.snd1 ?_
    refine Within.ite ?_ ?_
    · refine raise_within (Sub.trans (by decide) hM) ?_
      refine set_within _ (inMask (CLKMON_CTL_EN_win) (Sub.bit hM (by decide))) ?_
      exact hs_3
    · exact hs_3

theorem muxSet_within {A : Nat} {u : State} {m x : Nat} {s : State} (hM : Sub 0x3000000000040 A) (h_s : Within A u s) :
    Within A u (muxSet m x s) := by
  unfold muxSet
  extract_lets -merge -useContext +onlyGivenNames s_0 w_1 s_2
  have hs_0 : Within A u s_0 := by
    refine set_within _ (inMask (CLK_SEL_PEND_win _) (Sub.bit hM (by decide))) ?_
    exact h_s
  have hs_2 : Within A u s_2 := by
    refine Within.clock_ (Sub.bit hM (by decide)) ?_
    exact hs_0
  refine Within.ite ?_ ?_
  · refine set_within _ (inMask (CLK_SRC_STAT_ACTIVE_win) (Sub.bit hM (by decide))) ?_
    exact hs_2
  · exact hs_2

theorem muxForced_within {A : Nat} {u : State} {m x : Nat} {s : State} (hM : Sub 0x300000008004C A) (h_s : Within A u s) :
    Within A u (muxForced m x s) := by
  unfold muxForced
  extract_lets -merge -useContext +onlyGivenNames s_0
  have hs_0 : Within A u s_0 := by
    refine raise_within (Sub.trans (by decide) hM) ?_
    refine muxSet_within (Sub.trans (by decide) hM) ?_
    exact h_s
  refine Within.ite ?_ ?_
  · exact hs_0
  · refine flopsForced_within (Sub.trans (by decide) hM) ?_
    exact hs_0

theorem wrClkSel_within {A : Nat} {u : State} {m v : Nat} {s : State} (hM : Sub 0x300000008004C A) (h_s : Within A u s) :
    Within A u (wrClkSel m v s).2 := by
  unfold wrClkSel
  extract_lets -merge -useContext +onlyGivenNames x_0 new_1 s_2 s_3 w_4 s_5
  have hs_2 : Within A u s_2 := by
    refine set_within _ (inMask (CLK_SEL_SEL_win _) (Sub.bit hM (by decide))) ?_
    refine set_within _ (inMask (CLK_SEL_FORCE_win _) (Sub.bit hM (by decide))) ?_
    refine set_within _ (inMask (CLK_SEL_WAIT_win _) (Sub.bit hM (by decide))) ?_
    exact h_s
  have hs_3 : Within A u s_3 := by
    refine Within.ite ?_ ?_
    · refine set_within _ (inMask (CLK_SEL_AUTO_win _) (Sub.bit hM (by decide))) ?_
      exact hs_2
    · exact hs_2
  have hs_5 : Within A u s_5 := by
    refine Within.clock_ (Sub.bit hM (by decide)) ?_
    exact hs_3
  refine Within.ite1 ?_ ?_
  · refine Within.snd1 ?_
    exact h_s
  · refine Within.ite1 ?_ ?_
    · refine Within.snd1 ?_
      refine set_within _ (inMask (CLK_SEL_PEND_win _) (Sub.bit hM (by decide))) ?_
      exact hs_5
    · refine Within.ite1 ?_ ?_
      · refine Within.snd1 ?_
        refine muxForced_within (Sub.trans (by decide) hM) ?_
        exact hs_3
      · refine Within.snd1 ?_
        exact hs_3

theorem execMuxSelect_within {A : Nat} {u : State} {_a : Agent} {m : Fin 5} {v : Nat} {s : State} (hM : Sub 0x300000008004D A) (h_s :
    Within A u s) :
    OutWithin A u (execMuxSelect _a m v s) := by
  unfold execMuxSelect
  refine OutWithin.ok ?_
  refine answered_within (Sub.trans (by decide) hM) ?_
  refine Within.ite1 ?_ ?_
  · refine Within.snd1 ?_
    exact h_s
  · refine wrClkSel_within (Sub.trans (by decide) hM) ?_
    exact h_s

theorem execFabFrequencyChange_within {A : Nat} {u : State} {_a : Agent} {i : Fin 4} {mhz : Nat} {s : State} (hM : Sub 0xC00000000004D A)
    (h_s : Within A u s) :
    OutWithin A u (execFabFrequencyChange _a i mhz s) := by
  unfold execFabFrequencyChange
  refine OutWithin.ok ?_
  refine answered_within (Sub.trans (by decide) hM) ?_
  refine Within.ite1 ?_ ?_
  · refine Within.snd1 ?_
    exact h_s
  · refine wrClkFab_within (Sub.trans (by decide) hM) ?_
    exact h_s

theorem wrClkGate_within {A : Nat} {u : State} {i n v : Nat} {s : State} (hM : Sub 0x10000000000040 A) (h_s : Within A u s) :
    Within A u (wrClkGate i n v s).2 := by
  unfold wrClkGate
  extract_lets -merge -useContext +onlyGivenNames s_0 c_1 s_2 w_3 w_4
  have hs_0 : Within A u s_0 := by
    refine writeFld_within (Sub.trans (by decide) hM) (inMask (CLK_GATE_ACK_MISS_win _) (Sub.bit hM (by decide))) ?_
    exact h_s
  have hs_2 : Within A u s_2 := by
    refine set_within _ (inMask (CLK_GATE_CLOSE_win _) (Sub.bit hM (by decide))) ?_
    exact hs_0
  have hw_3 : Within A u w_3 := by
    refine set_within _ (inMask (CLK_GATE_PEND_win _) (Sub.bit hM (by decide))) ?_
    exact hs_2
  refine Within.ite1 ?_ ?_
  · refine Within.snd1 ?_
    refine Within.ite ?_ ?_
    · exact hs_0
    · refine set_within _ (inMask (CLK_GATE_CLOSED_win _) (Sub.bit hM (by decide))) ?_
      refine set_within _ (inMask (CLK_GATE_CLOSE_win _) (Sub.bit hM (by decide))) ?_
      exact hs_0
  · refine Within.snd1 ?_
    refine Within.ite ?_ ?_
    · exact hs_2
    · refine Within.ite ?_ ?_
      · refine Within.clock_ (Sub.bit hM (by decide)) ?_
        exact hw_3
      · refine Within.ite ?_ ?_
        · exact hs_2
        · refine set_within _ (inMask (CLK_GATE_CLOSED_win _) (Sub.bit hM (by decide))) ?_
          exact hs_2

theorem execGateCloseRequest_within {A : Nat} {u : State} {a : Agent} {n : Fin 96} {s : State} (hM : Sub 0x10000000000041 A) (h_s :
    Within A u s) :
    OutWithin A u (execGateCloseRequest a n s) := by
  unfold execGateCloseRequest
  refine OutWithin.ok ?_
  refine answered_within (Sub.trans (by decide) hM) ?_
  refine wrClkGate_within (Sub.trans (by decide) hM) ?_
  exact h_s

theorem execMuxSwitch_within {A : Nat} {u : State} {m : Fin 5} {s : State} (hM : Sub 0x3000000000040 A) (h_s : Within A u s) :
    OutWithin A u (execMuxSwitch m s) := by
  unfold execMuxSwitch
  extract_lets -merge -useContext +onlyGivenNames x_0
  refine OutWithin.whenOk ?_ ?_
  · exact h_s
  · refine muxSet_within (Sub.trans (by decide) hM) ?_
    exact h_s

theorem execFabRelockDone_within {A : Nat} {u : State} {i : Fin 4} {s : State} (hM : Sub 0x40 A) (h_s : Within A u s) :
    OutWithin A u (execFabRelockDone i s) := by
  unfold execFabRelockDone
  refine OutWithin.whenOk ?_ ?_
  · exact h_s
  · refine Within.clock_ (Sub.bit hM (by decide)) ?_
    exact h_s

theorem execMuxForce_within {A : Nat} {u : State} {_a : Agent} {m : Fin 5} {s : State} (hM : Sub 0x300000008004D A) (h_s : Within A u s) :
    OutWithin A u (execMuxForce _a m s) := by
  unfold execMuxForce
  refine OutWithin.ok ?_
  refine answered_within (Sub.trans (by decide) hM) ?_
  refine wrClkSel_within (Sub.trans (by decide) hM) ?_
  exact h_s

theorem srcLost_within {A : Nat} {u : State} {x : Nat} {s : State} (hM : Sub 0x300000008004C A) (h_s : Within A u s) :
    Within A u (srcLost x s) := by
  unfold srcLost
  extract_lets -merge -useContext +onlyGivenNames act_0 s_1 w_2 s_3 s_4
  have hs_1 : Within A u s_1 := by
    refine set_within _ (inMask (CLK_SRC_STAT_LOST_win) (Sub.bit hM (by decide))) ?_
    refine set_within _ (inMask (CLK_SRC_STAT_OK_win) (Sub.bit hM (by decide))) ?_
    exact h_s
  have hs_3 : Within A u s_3 := by
    refine Within.clock_ (Sub.bit hM (by decide)) ?_
    exact hs_1
  have hs_4 : Within A u s_4 := by
    refine set_within _ (inMask (CLK_SRC_STAT_HOLDOVER_win) (Sub.bit hM (by decide))) ?_
    exact hs_3
  refine Within.ite ?_ ?_
  · refine raise_within (Sub.trans (by decide) hM) ?_
    exact hs_3
  · split
    · refine muxForced_within (Sub.trans (by decide) hM) ?_
      refine set_within _ (inMask (CLK_SEL_SEL_win _) (Sub.bit hM (by decide))) ?_
      refine raise_within (Sub.trans (by decide) hM) ?_
      exact hs_4
    · refine raise_within (Sub.trans (by decide) hM) ?_
      exact hs_4

theorem wrClkmon_within {A : Nat} {u : State} {v : Nat} {s : State} (hM : Sub 0x4000000000000 A) (h_s : Within A u s) :
    Within A u (wrClkmon v s).2 := by
  unfold wrClkmon
  refine Within.ite1 ?_ ?_
  · refine Within.snd1 ?_
    exact h_s
  · refine Within.snd1 ?_
    refine writeFlds_within (Sub.trans (by decide) hM) (inMasks (CLKMON_CTL_fields_win) (Sub.bit hM (by decide))) ?_
    exact h_s

theorem execMuxWaitExpiry_within {A : Nat} {u : State} {m : Fin 5} {s : State} (hM : Sub 0x300000008004C A) (h_s : Within A u s) :
    OutWithin A u (execMuxWaitExpiry m s) := by
  unfold execMuxWaitExpiry
  extract_lets -merge -useContext +onlyGivenNames x_0 w_1
  refine OutWithin.whenOk ?_ ?_
  · exact h_s
  · refine Within.ite ?_ ?_
    · refine muxForced_within (Sub.trans (by decide) hM) ?_
      exact h_s
    · refine raise_within (Sub.trans (by decide) hM) ?_
      refine Within.clock_ (Sub.bit hM (by decide)) ?_
      exact h_s

theorem execSourceStable_within {A : Nat} {u : State} {x : Fin 3} {s : State} (hM : Sub 0x100000000004C A) (h_s : Within A u s) :
    OutWithin A u (execSourceStable x s) := by
  unfold execSourceStable
  refine OutWithin.whenOk ?_ ?_
  · exact h_s
  · refine raise_within (Sub.trans (by decide) hM) ?_
    extract_lets -merge -useContext +onlyGivenNames w_0 w_1
    have hw_0 : Within A u w_0 := by
      refine set_within _ (inMask (CLK_SRC_STAT_OK_win) (Sub.bit hM (by decide))) ?_
      exact h_s
    refine Within.clock_ (Sub.bit hM (by decide)) ?_
    exact hw_0

theorem execGeneratorLock_within {A : Nat} {u : State} {s : State} (hM : Sub 0x1000000000000 A) (h_s : Within A u s) :
    OutWithin A u (execGeneratorLock s) := by
  unfold execGeneratorLock
  refine OutWithin.whenOk ?_ ?_
  · exact h_s
  · refine set_within _ (inMask (CLK_SRC_STAT_HOLDOVER_win) (Sub.bit hM (by decide))) ?_
    exact h_s

theorem execClkmonConfig_within {A : Nat} {u : State} {_a : Agent} {v : Nat} {s : State} (hM : Sub 0x4000000000001 A) (h_s : Within A u s) :
    OutWithin A u (execClkmonConfig _a v s) := by
  unfold execClkmonConfig
  refine OutWithin.ok ?_
  refine answered_within (Sub.trans (by decide) hM) ?_
  refine wrClkmon_within (Sub.trans (by decide) hM) ?_
  exact h_s

theorem execGateAckTimeout_within {A : Nat} {u : State} {n : Fin 96} {s : State} (hM : Sub 0x1000000018000C A) (h_s : Within A u s) :
    OutWithin A u (execGateAckTimeout n s) := by
  unfold execGateAckTimeout
  extract_lets -merge -useContext +onlyGivenNames host_0
  refine OutWithin.whenOk ?_ ?_
  · exact h_s
  · refine loaderGated_within (Sub.trans (by decide) hM) ?_
    refine raise_within (Sub.trans (by decide) hM) ?_
    refine set_within _ (inMask (CLK_GATE_ACK_MISS_win _) (Sub.bit hM (by decide))) ?_
    refine Within.ite ?_ ?_
    · refine set_within _ (inMask (CLK_GATE_CLOSE_win _) (Sub.bit hM (by decide))) ?_
      refine set_within _ (inMask (CLK_GATE_PEND_win _) (Sub.bit hM (by decide))) ?_
      exact h_s
    · exact h_s

theorem execGateOpen_within {A : Nat} {u : State} {a : Agent} {n : Fin 96} {s : State} (hM : Sub 0x10000000000041 A) (h_s : Within A u s) :
    OutWithin A u (execGateOpen a n s) := by
  unfold execGateOpen
  refine OutWithin.ok ?_
  refine answered_within (Sub.trans (by decide) hM) ?_
  refine wrClkGate_within (Sub.trans (by decide) hM) ?_
  exact h_s

end Sys2Proof.Machine
end

