-- ==== Sys2Proof/Laws/WithinLanes.lean ====
section
/-! SUPPORT. What each operation of Machine/Lanes.lean can reach (see Laws/Within.lean). -/
set_option Elab.async false
namespace Sys2Proof.Machine

theorem casEval_within {A : Nat} {u : State} {s : State} (hM : Sub 0x800000000000000000000000C A) (h_s : Within A u s) :
    Within A u (casEval s) := by
  unfold casEval
  extract_lets -merge -useContext +onlyGivenNames v_0
  refine Within.ite ?_ ?_
  · refine raise_within (Sub.trans (by decide) hM) ?_
    refine set_within _ (inMask (CAS_TIME_VALID_win) (Sub.bit hM (by decide))) ?_
    exact h_s
  · refine Within.ite ?_ ?_
    · refine raise_within (Sub.trans (by decide) hM) ?_
      refine set_within _ (inMask (CAS_TIME_VALID_win) (Sub.bit hM (by decide))) ?_
      exact h_s
    · exact h_s

theorem upDown_within {A : Nat} {u : State} {q : Nat} {s : State} (hM : Sub 0x800000000000300000088004C A) (h_s : Within A u s) :
    Within A u (upDown q s) := by
  unfold upDown
  refine Within.ite ?_ ?_
  · extract_lets -merge -useContext +onlyGivenNames w_0 s_1
    have hs_1 : Within A u s_1 := by
      refine Within.casc_ (Sub.bit hM (by decide)) ?_
      exact h_s
    refine casEval_within (Sub.trans (by decide) hM) ?_
    refine Within.ite ?_ ?_
    · refine srcLost_within (Sub.trans (by decide) hM) ?_
      exact hs_1
    · exact hs_1
  · exact h_s

theorem lnkGo_within {A : Nat} {u : State} {q st : Nat} {s : State} (hM : Sub 0x4800000000000300000088004C A) (h_s : Within A u s) :
    Within A u (lnkGo q st s) := by
  unfold lnkGo
  extract_lets -merge -useContext +onlyGivenNames was_0 s_1
  have hs_1 : Within A u s_1 := by
    refine set_within _ (inMask (LNK_STAT_TXSLEEP_win _) (Sub.bit hM (by decide))) ?_
    refine set_within _ (inMask (LNK_STAT_RXSLEEP_win _) (Sub.bit hM (by decide))) ?_
    refine set_within _ (inMask (LNK_STAT_WIDTH_win _) (Sub.bit hM (by decide))) ?_
    refine set_within _ (inMask (LNK_STAT_LANES_win _) (Sub.bit hM (by decide))) ?_
    refine set_within _ (inMask (LNK_STAT_STATE_win _) (Sub.bit hM (by decide))) ?_
    exact h_s
  refine Within.ite ?_ ?_
  · refine upDown_within (Sub.trans (by decide) hM) ?_
    exact hs_1
  · exact hs_1

theorem modLink_within {A : Nat} {u : State} {q : Nat} {f : LinkEng → LinkEng} {s : State} (hM : Sub 0x800000 A) (h_s : Within A u s) :
    Within A u (modLink q f s) := by
  unfold modLink
  refine Within.casc_ (Sub.bit hM (by decide)) ?_
  exact h_s

theorem setLanes_within {A : Nat} {u : State} {q : Nat} {f : Nat → Fld} {m : Nat} {s : State} (_ : Sub 0x0 A) (h_f : ∀ n, InMask A (f n))
    (h_s : Within A u s) :
    Within A u (setLanes q f m s) := by
  unfold setLanes
  refine forNat_within ?_ _ ?_
  · intro y0 y1 hy2
    beta_reduce
    refine set_within _ (h_f _) ?_
    exact hy2
  · exact h_s

theorem beginTrain_within {A : Nat} {u : State} {q : Nat} {s : State} (hM : Sub 0xC800000000000300000088004C A) (h_s : Within A u s) :
    Within A u (beginTrain q s) := by
  unfold beginTrain
  extract_lets -merge -useContext +onlyGivenNames s_0
  have hs_0 : Within A u s_0 := by
    refine setLanes_within (Sub.trans (by decide) hM) (fun _ => inMask (LANE_STAT_GOOD_win _) (Sub.bit hM (by decide))) ?_
    refine setLanes_within (Sub.trans (by decide) hM) (fun _ => inMask (LANE_STAT_SYMLOCK_win _) (Sub.bit hM (by decide))) ?_
    refine setLanes_within (Sub.trans (by decide) hM) (fun _ => inMask (LANE_STAT_BITLOCK_win _) (Sub.bit hM (by decide))) ?_
    refine lnkGo_within (Sub.trans (by decide) hM) ?_
    exact h_s
  refine forNat_within ?_ _ ?_
  · intro y1 y2 hy3
    beta_reduce
    extract_lets -merge -useContext +onlyGivenNames l_4 w_5
    refine Within.casc_ (Sub.bit hM (by decide)) ?_
    exact hy3
  · exact hs_0

theorem lnkLeft_within {A : Nat} {u : State} {q cause : Nat} {s : State} (hM : Sub 0xC A) (h_s : Within A u s) :
    Within A u (lnkLeft q cause s) := by
  unfold lnkLeft
  refine Within.ite ?_ ?_
  · refine raise_within (Sub.trans (by decide) hM) ?_
    exact h_s
  · exact h_s

theorem retrain_within {A : Nat} {u : State} {q : Nat} {s : State} (hM : Sub 0xC800000000000300000088004C A) (h_s : Within A u s) :
    Within A u (retrain q s) := by
  unfold retrain
  refine modLink_within (Sub.trans (by decide) hM) ?_
  refine beginTrain_within (Sub.trans (by decide) hM) ?_
  refine lnkLeft_within (Sub.trans (by decide) hM) ?_
  exact h_s

theorem narrowTo_within {A : Nat} {u : State} {q lanes dropped : Nat} {s : State} (hM : Sub 0xC000000000000000000080000C A) (h_s : Within
    A u s) :
    Within A u (narrowTo q lanes dropped s) := by
  unfold narrowTo
  extract_lets -merge -useContext +onlyGivenNames w_0 s_1 s_2
  have hs_1 : Within A u s_1 := by
    refine set_within _ (inMask (LANE_STAT_GOOD_win _) (Sub.bit hM (by decide))) ?_
    refine set_within _ (inMask (LNK_STAT_WIDTH_win _) (Sub.bit hM (by decide))) ?_
    refine set_within _ (inMask (LNK_STAT_LANES_win _) (Sub.bit hM (by decide))) ?_
    exact h_s
  have hs_2 : Within A u s_2 := by
    refine modLink_within (Sub.trans (by decide) hM) ?_
    refine State.count_within (Sub.trans (by decide) hM) (inMask (LNK_ERR_DEGRADES_win _) (Sub.bit hM (by decide))) ?_
    exact hs_1
  refine raise_within (Sub.trans (by decide) hM) ?_
  exact hs_2

theorem flitGood_within {A : Nat} {u : State} {q : Nat} {f : Flit} {s : State} (hM : Sub 0xC800000000000300000088004C A) (h_s : Within A
    u s) :
    Within A u (flitGood q f s) := by
  unfold flitGood
  extract_lets -merge -useContext +onlyGivenNames y_0 s_1 s_2 m_3
  have hs_1 : Within A u s_1 := by
    refine Within.ite ?_ ?_
    · refine State.count_within (Sub.trans (by decide) hM) (inMask (LNK_ERR_REPLAYS_win _) (Sub.bit hM (by decide))) ?_
      exact h_s
    · exact h_s
  have hs_2 : Within A u s_2 := by
    refine modLink_within (Sub.trans (by decide) hM) ?_
    refine set_within _ (inMask (LNK_STAT_RXSLEEP_win _) (Sub.bit hM (by decide))) ?_
    exact hs_1
  refine Within.ite ?_ ?_
  · refine retrain_within (Sub.trans (by decide) hM) ?_
    exact hs_2
  · refine Within.ite ?_ ?_
    · refine modLink_within (Sub.trans (by decide) hM) ?_
      exact hs_2
    · refine Within.ite ?_ ?_
      · refine Within.ite ?_ ?_
        · exact hs_2
        · refine modLink_within (Sub.trans (by decide) hM) ?_
          refine narrowTo_within (Sub.trans (by decide) hM) ?_
          exact hs_2
      · exact hs_2

theorem dropLane_within {A : Nat} {u : State} {q i : Nat} {s : State} (hM : Sub 0xC800000000000300000088004C A) (h_s : Within A u s) :
    Within A u (dropLane q i s) := by
  unfold dropLane
  extract_lets -merge -useContext +onlyGivenNames w_0 t_1 m_2
  have ht_1 : Within A u t_1 := by
    refine set_within _ (inMask (LANE_STAT_GOOD_win _) (Sub.bit hM (by decide))) ?_
    exact h_s
  refine Within.ite ?_ ?_
  · refine retrain_within (Sub.trans (by decide) hM) ?_
    exact h_s
  · refine narrowTo_within (Sub.trans (by decide) hM) ?_
    exact ht_1

theorem flitBad_within {A : Nat} {u : State} {q lane : Nat} {s : State} (hM : Sub 0xC800000000000300000088004C A) (h_s : Within A u s) :
    Within A u (flitBad q lane s) := by
  unfold flitBad
  extract_lets -merge -useContext +onlyGivenNames n_0 s_1
  have hs_1 : Within A u s_1 := by
    refine modLink_within (Sub.trans (by decide) hM) ?_
    refine State.count_within (Sub.trans (by decide) hM) (inMask (LANE_STAT_ERRORS_win _) (Sub.bit hM (by decide))) ?_
    refine State.count_within (Sub.trans (by decide) hM) (inMask (LNK_ERR_CRC_ERR_win _) (Sub.bit hM (by decide))) ?_
    exact h_s
  refine Within.ite ?_ ?_
  · refine dropLane_within (Sub.trans (by decide) hM) ?_
    exact hs_1
  · exact hs_1

theorem execFlitReceive_within {A : Nat} {u : State} {q : Fin 16} {lane : Fin 4} {crcOk : Bool} {f : Flit} {s : State} (hM : Sub
    0xC800000000000300000088004C A) (h_s : Within A u s) :
    OutWithin A u (execFlitReceive q lane crcOk f s) := by
  unfold execFlitReceive
  refine OutWithin.whenOk ?_ ?_
  · exact h_s
  · refine Within.ite ?_ ?_
    · refine flitGood_within (Sub.trans (by decide) hM) ?_
      exact h_s
    · refine flitBad_within (Sub.trans (by decide) hM) ?_
      exact h_s

theorem narrowQuiet_within {A : Nat} {u : State} {q : Nat} {s : State} (hM : Sub 0xC000000000000000000080000C A) (h_s : Within A u s) :
    Within A u (narrowQuiet q s) := by
  unfold narrowQuiet
  extract_lets -merge -useContext +onlyGivenNames old_0 new_1 top_2
  refine Within.ite ?_ ?_
  · exact h_s
  · refine narrowTo_within (Sub.trans (by decide) hM) ?_
    refine setLanes_within (Sub.trans (by decide) hM) (fun _ => inMask (LANE_STAT_GOOD_win _) (Sub.bit hM (by decide))) ?_
    exact h_s

theorem casRoles_within {A : Nat} {u : State} {s : State} (hM : Sub 0x800000000000000000000000C A) (h_s : Within A u s) :
    Within A u (casRoles s) := by
  unfold casRoles
  split
  · refine casEval_within (Sub.trans (by decide) hM) ?_
    refine set_within _ (inMask (CAS_TIME_UPLINK_win) (Sub.bit hM (by decide))) ?_
    refine set_within _ (inMask (CAS_TIME_NOUP_win) (Sub.bit hM (by decide))) ?_
    exact h_s
  · refine casEval_within (Sub.trans (by decide) hM) ?_
    refine set_within _ (inMask (CAS_TIME_BEYOND_win) (Sub.bit hM (by decide))) ?_
    refine set_within _ (inMask (CAS_TIME_HOPS_win) (Sub.bit hM (by decide))) ?_
    refine set_within _ (inMask (CAS_TIME_UPLINK_win) (Sub.bit hM (by decide))) ?_
    refine set_within _ (inMask (CAS_TIME_NOUP_win) (Sub.bit hM (by decide))) ?_
    exact h_s

theorem lnkStart_within {A : Nat} {u : State} {q : Nat} {s : State} (hM : Sub 0x40000000000000000000800000 A) (h_s : Within A u s) :
    Within A u (lnkStart q s) := by
  unfold lnkStart
  extract_lets -merge -useContext +onlyGivenNames s_0
  have hs_0 : Within A u s_0 := by
    refine modLink_within (Sub.trans (by decide) hM) ?_
    exact h_s
  refine Within.ite ?_ ?_
  · refine set_within _ (inMask (LNK_STAT_STATE_win _) (Sub.bit hM (by decide))) ?_
    exact hs_0
  · exact hs_0

theorem lnkStop_within {A : Nat} {u : State} {q cause : Nat} {s : State} (hM : Sub 0xC800000000000300000088004C A) (h_s : Within A u s) :
    Within A u (lnkStop q cause s) := by
  have h := lnkGo_within (q := q) (st := lnkOff) (Sub.trans (by decide) hM)
    (lnkLeft_within (q := q) (cause := cause) (Sub.trans (by decide) hM) h_s)
  have hl : ∀ (f : Nat → Fld), (∀ n, winBit (f n).key = 103) → ∀ t, Within A u t → Within A u (setLanes q f 0 t) :=
    fun f hf t ht => setLanes_within (Sub.trans (by decide) hM) (fun n => inMask (hf n) (Sub.bit hM (by decide))) ht
  exact hl _ LANE_STAT_GOOD_win _ (hl _ LANE_STAT_BITLOCK_win _ (hl _ LANE_STAT_SYMLOCK_win _ (hl _ LANE_STAT_PRBS_LOCK_win _ (hl _ LANE_STAT_SIGNAL_win _
    (modLink_within (Sub.trans (by decide) hM) h)))))

theorem wrLnkCtl_within {A : Nat} {u : State} {a : Agent} {q v : Nat} {s : State} (hM : Sub 0xC800000000000300000088004C A) (h_s : Within
    A u s) :
    Within A u (wrLnkCtl a q v s).2 := by
  unfold wrLnkCtl
  extract_lets -merge -useContext +onlyGivenNames en_0 was_1 fixed_2 maxw_3 t_4
  have ht_4 : Within A u t_4 := by
    refine casRoles_within (Sub.trans (by decide) hM) ?_
    refine writeFlds_within (Sub.trans (by decide) hM) (inMasks (LNK_CTL_fields_win _) (Sub.bit hM (by decide))) ?_
    exact h_s
  refine Within.ite1 ?_ ?_
  · refine Within.snd1 ?_
    exact h_s
  · refine Within.ite1 ?_ ?_
    · refine Within.snd1 ?_
      exact h_s
    · refine Within.ite1 ?_ ?_
      · refine Within.snd1 ?_
        exact h_s
      · refine Within.ite1 ?_ ?_
        · refine Within.snd1 ?_
          exact h_s
        · refine Within.ite1 ?_ ?_
          · refine Within.snd1 ?_
            exact h_s
          · refine Within.ite1 ?_ ?_
            · refine Within.snd1 ?_
              exact h_s
            · refine Within.snd1 ?_
              refine Within.ite ?_ ?_
              · refine lnkStart_within (Sub.trans (by decide) hM) ?_
                exact ht_4
              · refine Within.ite ?_ ?_
                · refine lnkStop_within (Sub.trans (by decide) hM) ?_
                  exact ht_4
                · refine Within.ite ?_ ?_
                  · refine retrain_within (Sub.trans (by decide) hM) ?_
                    exact ht_4
                  · exact ht_4

theorem execLinkEnable_within {A : Nat} {u : State} {a : Agent} {q : Fin 16} {v : Nat} {s : State} (hM : Sub 0xC800000000000300000088004D
    A) (h_s : Within A u s) :
    OutWithin A u (execLinkEnable a q v s) := by
  unfold execLinkEnable
  refine OutWithin.ok ?_
  refine answered_within (Sub.trans (by decide) hM) ?_
  refine wrLnkCtl_within (Sub.trans (by decide) hM) ?_
  exact h_s

theorem lanesReachOn_within {A : Nat} {u : State} {q : Nat} {s : State} (hM : Sub 0x40000000000000000000800000 A) (h_s : Within A u s) :
    Within A u (lanesReachOn q s) := by
  unfold lanesReachOn
  refine Within.ite ?_ ?_
  · refine lnkStart_within (Sub.trans (by decide) hM) ?_
    exact h_s
  · exact h_s

theorem slipLane_within {A : Nat} {u : State} {l : Nat} {s : State} (hM : Sub 0x800000 A) (h_s : Within A u s) :
    Within A u (slipLane l s) := by
  unfold slipLane
  refine Within.ite ?_ ?_
  · exact h_s
  · refine Within.casc_ (Sub.bit hM (by decide)) ?_
    exact h_s

theorem execTapChangeRequest_within {A : Nat} {u : State} {l : Fin 64} {tap : Tap} {up : Bool} {s : State} (hM : Sub 0x800001 A) (h_s :
    Within A u s) :
    OutWithin A u (execTapChangeRequest l tap up s) := by
  unfold execTapChangeRequest
  refine OutWithin.whenOk ?_ ?_
  · exact h_s
  · split
    · refine answer_within (Sub.trans (by decide) hM) ?_
      refine Within.casc_ (Sub.bit hM (by decide)) ?_
      exact h_s
    · refine answer_within (Sub.trans (by decide) hM) ?_
      exact h_s

theorem execLinkFailBackoff_within {A : Nat} {u : State} {q : Fin 16} {s : State} (hM : Sub 0x40000000000000000000800000 A) (h_s : Within
    A u s) :
    OutWithin A u (execLinkFailBackoff q s) := by
  unfold execLinkFailBackoff
  refine OutWithin.whenOk ?_ ?_
  · exact h_s
  · refine lnkStart_within (Sub.trans (by decide) hM) ?_
    exact h_s

theorem execLockEnd_within {A : Nat} {u : State} {q : Fin 16} {locked inverted : Nat} {s : State} (hM : Sub 0xC0000000000000000000000000
    A) (h_s : Within A u s) :
    OutWithin A u (execLockEnd q locked inverted s) := by
  unfold execLockEnd
  extract_lets -merge -useContext +onlyGivenNames m_0 t_1
  have ht_1 : Within A u t_1 := by
    refine setLanes_within (Sub.trans (by decide) hM) (fun _ => inMask (LANE_STAT_SYMLOCK_win _) (Sub.bit hM (by decide))) ?_
    refine setLanes_within (Sub.trans (by decide) hM) (fun _ => inMask (LANE_STAT_BITLOCK_win _) (Sub.bit hM (by decide))) ?_
    refine setLanes_within (Sub.trans (by decide) hM) (fun _ => inMask (LANE_STAT_GOOD_win _) (Sub.bit hM (by decide))) ?_
    exact h_s
  refine OutWithin.whenOk ?_ ?_
  · exact h_s
  · refine set_within _ (inMask (LNK_STAT_STATE_win _) (Sub.bit hM (by decide))) ?_
    refine set_within _ (inMask (LNK_STAT_POLINV_win _) (Sub.bit hM (by decide))) ?_
    exact ht_1

theorem execTrainEnd_within {A : Nat} {u : State} {q : Fin 16} {eyes : Nat} {s : State} (hM : Sub 0xC0000000000000000000000000 A) (h_s :
    Within A u s) :
    OutWithin A u (execTrainEnd q eyes s) := by
  unfold execTrainEnd
  refine OutWithin.whenOk ?_ ?_
  · exact h_s
  · refine set_within _ (inMask (LNK_STAT_STATE_win _) (Sub.bit hM (by decide))) ?_
    refine setLanes_within (Sub.trans (by decide) hM) (fun _ => inMask (LANE_STAT_SIGNAL_win _) (Sub.bit hM (by decide))) ?_
    refine setLanes_within (Sub.trans (by decide) hM) (fun _ => inMask (LANE_STAT_GOOD_win _) (Sub.bit hM (by decide))) ?_
    exact h_s

theorem wrLnkAsym_within {A : Nat} {u : State} {a : Agent} {q v : Nat} {s : State} (hM : Sub 0x40000000000000000000000000 A) (h_s :
    Within A u s) :
    Within A u (wrLnkAsym a q v s).2 := by
  unfold wrLnkAsym
  refine Within.ite1 ?_ ?_
  · refine Within.snd1 ?_
    exact h_s
  · refine Within.ite1 ?_ ?_
    · refine Within.snd1 ?_
      exact h_s
    · refine Within.snd1 ?_
      refine writeFlds_within (Sub.trans (by decide) hM) (inMasks (LNK_ASYM_fields_win _) (Sub.bit hM (by decide))) ?_
      exact h_s

theorem execLinkSleep_within {A : Nat} {u : State} {q : Fin 16} {s : State} (hM : Sub 0x40000000000000000000800000 A) (h_s : Within A u s) :
    OutWithin A u (execLinkSleep q s) := by
  unfold execLinkSleep
  extract_lets -merge -useContext +onlyGivenNames timed_0
  refine OutWithin.whenOk ?_ ?_
  · exact h_s
  · refine modLink_within (Sub.trans (by decide) hM) ?_
    refine set_within _ (inMask (LNK_STAT_TXSLEEP_win _) (Sub.bit hM (by decide))) ?_
    exact h_s

theorem lnkBackoff_within {A : Nat} {u : State} {q : Nat} {s : State} (hM : Sub 0x4800000000000300000088004C A) (h_s : Within A u s) :
    Within A u (lnkBackoff q s) := by
  unfold lnkBackoff
  refine modLink_within (Sub.trans (by decide) hM) ?_
  refine lnkGo_within (Sub.trans (by decide) hM) ?_
  exact h_s

theorem execSymbolLockLoss_within {A : Nat} {u : State} {l : Fin 64} {lost : Bool} {s : State} (hM : Sub 0xC800000000000300000088004C A)
    (h_s : Within A u s) :
    OutWithin A u (execSymbolLockLoss l lost s) := by
  unfold execSymbolLockLoss
  extract_lets -merge -useContext +onlyGivenNames q_0 t_1 t_2 used_3 none__4
  have ht_1 : Within A u t_1 := by
    refine set_within _ (inMask (LANE_STAT_SYMLOCK_win _) (Sub.bit hM (by decide))) ?_
    exact h_s
  have ht_2 : Within A u t_2 := by
    refine Within.ite ?_ ?_
    · refine set_within _ (inMask (LANE_STAT_SIGNAL_win _) (Sub.bit hM (by decide))) ?_
      refine set_within _ (inMask (LANE_STAT_BITLOCK_win _) (Sub.bit hM (by decide))) ?_
      exact ht_1
    · exact ht_1
  refine OutWithin.ok ?_
  refine Within.ite ?_ ?_
  · refine lnkBackoff_within (Sub.trans (by decide) hM) ?_
    refine lnkLeft_within (Sub.trans (by decide) hM) ?_
    exact ht_2
  · exact ht_2

theorem wrLnkRange_within {A : Nat} {u : State} {a : Agent} {q v : Nat} {s : State} (hM : Sub 0x40000000000000000000000000 A) (h_s :
    Within A u s) :
    Within A u (wrLnkRange a q v s).2 := by
  unfold wrLnkRange
  extract_lets -merge -useContext +onlyGivenNames f_0 l_1
  refine Within.ite1 ?_ ?_
  · refine Within.snd1 ?_
    exact h_s
  · refine Within.ite1 ?_ ?_
    · refine Within.snd1 ?_
      exact h_s
    · refine Within.snd1 ?_
      refine writeFlds_within (Sub.trans (by decide) hM) (inMasks (LNK_RANGE_fields_win _) (Sub.bit hM (by decide))) ?_
      exact h_s

theorem execLinkRetrain_within {A : Nat} {u : State} {a : Agent} {q : Fin 16} {s : State} (hM : Sub 0xC800000000000300000088004D A) (h_s
    : Within A u s) :
    OutWithin A u (execLinkRetrain a q s) := by
  unfold execLinkRetrain
  refine OutWithin.ok ?_
  refine answered_within (Sub.trans (by decide) hM) ?_
  refine wrLnkCtl_within (Sub.trans (by decide) hM) ?_
  exact h_s

theorem lnkFail_within {A : Nat} {u : State} {q code : Nat} {s : State} (hM : Sub 0x4800000000000300000088004C A) (h_s : Within A u s) :
    Within A u (lnkFail q code s) := by
  unfold lnkFail
  refine raise_within (Sub.trans (by decide) hM) ?_
  refine lnkBackoff_within (Sub.trans (by decide) hM) ?_
  refine set_within _ (inMask (LNK_STAT_FAIL_win _) (Sub.bit hM (by decide))) ?_
  exact h_s

theorem execTrainTimeout_within {A : Nat} {u : State} {q : Fin 16} {s : State} (hM : Sub 0x4800000000000300000088004C A) (h_s : Within A
    u s) :
    OutWithin A u (execTrainTimeout q s) := by
  unfold execTrainTimeout
  refine OutWithin.whenOk ?_ ?_
  · exact h_s
  · refine lnkFail_within (Sub.trans (by decide) hM) ?_
    exact h_s

theorem execLinkDetectProbe_within {A : Nat} {u : State} {q : Fin 16} {seen : Bool} {s : State} (hM : Sub 0xC800000000000300000088004C A)
    (h_s : Within A u s) :
    OutWithin A u (execLinkDetectProbe q seen s) := by
  unfold execLinkDetectProbe
  refine OutWithin.whenOk ?_ ?_
  · exact h_s
  · refine beginTrain_within (Sub.trans (by decide) hM) ?_
    exact h_s

theorem wrLanesPlain_within {A : Nat} {u : State} {l : List (Acc × Fld)} {a : Agent} {v : Nat} {s : State} (hM : Sub 0x0 A) (h_l : ∀ p ∈
    l, InMask A p.2) (h_s : Within A u s) :
    Within A u (wrLanesPlain l a v s).2 := by
  unfold wrLanesPlain
  refine Within.ite1 ?_ ?_
  · refine Within.snd1 ?_
    exact h_s
  · refine Within.snd1 ?_
    refine writeFlds_within (Sub.trans (by decide) hM) h_l ?_
    exact h_s

theorem injectLane_within {A : Nat} {u : State} {l : Nat} {s : State} (hM : Sub 0x80000000000000000000000000 A) (h_s : Within A u s) :
    Within A u (injectLane l s) := by
  unfold injectLane
  refine Within.ite ?_ ?_
  · refine State.count_within (Sub.trans (by decide) hM) (inMask (LANE_STAT_ERRORS_win _) (Sub.bit hM (by decide))) ?_
    exact h_s
  · exact h_s

theorem wrLaneCtl_within {A : Nat} {u : State} {a : Agent} {l v : Nat} {s : State} (hM : Sub 0x80000000000000000000800000 A) (h_s :
    Within A u s) :
    Within A u (wrLaneCtl a l v s).2 := by
  unfold wrLaneCtl
  extract_lets -merge -useContext +onlyGivenNames tap_0 s_1 s_2 s_3
  have hs_1 : Within A u s_1 := by
    refine State.setIf_within (Sub.trans (by decide) hM) (inMask (LANE_STAT_PRBS_LOCK_win _) (Sub.bit hM (by decide))) ?_
    exact h_s
  have hs_2 : Within A u s_2 := by
    refine writeFlds_within (Sub.trans (by decide) hM) (inMasks (LANE_CTL_fields_win _) (Sub.bit hM (by decide))) ?_
    exact hs_1
  have hs_3 : Within A u s_3 := by
    refine Within.ite ?_ ?_
    · refine slipLane_within (Sub.trans (by decide) hM) ?_
      exact hs_2
    · exact hs_2
  refine Within.ite1 ?_ ?_
  · refine Within.snd1 ?_
    exact h_s
  · refine Within.ite1 ?_ ?_
    · refine Within.snd1 ?_
      exact h_s
    · refine Within.ite1 ?_ ?_
      · refine Within.snd1 ?_
        exact h_s
      · refine Within.snd1 ?_
        refine Within.ite ?_ ?_
        · refine injectLane_within (Sub.trans (by decide) hM) ?_
          exact hs_3
        · exact hs_3

theorem lanesReset_within {A : Nat} {u : State} {q : Nat} {s : State} (hM : Sub 0xC800000000000300000088004C A) (h_s : Within A u s) :
    Within A u (lanesReset q s) := by
  unfold lanesReset
  extract_lets -merge -useContext +onlyGivenNames s_0
  have hs_0 : Within A u s_0 := by
    refine lnkStop_within (Sub.trans (by decide) hM) ?_
    exact h_s
  refine Within.ite ?_ ?_
  · refine lnkStart_within (Sub.trans (by decide) hM) ?_
    exact hs_0
  · exact hs_0

theorem execExchangeTimeout_within {A : Nat} {u : State} {q : Fin 16} {s : State} (hM : Sub 0x4800000000000300000088004C A) (h_s : Within
    A u s) :
    OutWithin A u (execExchangeTimeout q s) := by
  unfold execExchangeTimeout
  refine OutWithin.whenOk ?_ ?_
  · exact h_s
  · refine lnkFail_within (Sub.trans (by decide) hM) ?_
    exact h_s

theorem lnkUp_within {A : Nat} {u : State} {q : Nat} {cap : Capability} {m : Nat} {s : State} (hM : Sub 0xC800000000000000000000000C A)
    (h_s : Within A u s) :
    Within A u (lnkUp q cap m s) := by
  unfold lnkUp
  extract_lets -merge -useContext +onlyGivenNames w_0 s_1 s_2 s_3 s_4
  have hs_1 : Within A u s_1 := by
    refine set_within _ (inMask (LNK_STAT_PARTNER_win _) (Sub.bit hM (by decide))) ?_
    refine set_within _ (inMask (LNK_STAT_LANES_win _) (Sub.bit hM (by decide))) ?_
    refine set_within _ (inMask (LNK_STAT_WIDTH_win _) (Sub.bit hM (by decide))) ?_
    refine set_within _ (inMask (LNK_STAT_STATE_win _) (Sub.bit hM (by decide))) ?_
    exact h_s
  have hs_2 : Within A u s_2 := by
    refine forNat_within ?_ _ ?_
    · intro y5 y6 hy7
      beta_reduce
      extract_lets -merge -useContext +onlyGivenNames l_8 x_9
      refine set_within _ (inMask (LANE_CTL_POST_win _) (Sub.bit hM (by decide))) ?_
      refine set_within _ (inMask (LANE_CTL_MAIN_win _) (Sub.bit hM (by decide))) ?_
      refine set_within _ (inMask (LANE_CTL_PRE_win _) (Sub.bit hM (by decide))) ?_
      exact hy7
    · exact hs_1
  have hs_3 : Within A u s_3 := by
    refine raise_within (Sub.trans (by decide) hM) ?_
    exact hs_2
  have hs_4 : Within A u s_4 := by
    refine Within.ite ?_ ?_
    · refine raise_within (Sub.trans (by decide) hM) ?_
      exact hs_3
    · exact hs_3
  refine casEval_within (Sub.trans (by decide) hM) ?_
  exact hs_4

theorem execLockTimeout_within {A : Nat} {u : State} {q : Fin 16} {s : State} (hM : Sub 0x4800000000000300000088004C A) (h_s : Within A u
    s) :
    OutWithin A u (execLockTimeout q s) := by
  unfold execLockTimeout
  refine OutWithin.whenOk ?_ ?_
  · exact h_s
  · refine lnkFail_within (Sub.trans (by decide) hM) ?_
    exact h_s

theorem lanesTick_within {A : Nat} {u : State} {s : State} (hM : Sub 0x800000 A) (h_s : Within A u s) :
    Within A u (lanesTick s) := by
  unfold lanesTick
  refine Within.casc_ (Sub.bit hM (by decide)) ?_
  exact h_s

theorem execExchangeEnd_within {A : Nat} {u : State} {q : Fin 16} {cap : Capability} {s : State} (hM : Sub 0xC800000000000300000088004C
    A) (h_s : Within A u s) :
    OutWithin A u (execExchangeEnd q cap s) := by
  unfold execExchangeEnd
  extract_lets -merge -useContext +onlyGivenNames m_0
  refine OutWithin.whenOk ?_ ?_
  · exact h_s
  · refine Within.ite ?_ ?_
    · refine lnkFail_within (Sub.trans (by decide) hM) ?_
      exact h_s
    · refine Within.ite ?_ ?_
      · refine lnkFail_within (Sub.trans (by decide) hM) ?_
        exact h_s
      · refine lnkUp_within (Sub.trans (by decide) hM) ?_
        exact h_s

theorem execLinkWake_within {A : Nat} {u : State} {q : Fin 16} {s : State} (hM : Sub 0x40000000000000000000000000 A) (h_s : Within A u s) :
    OutWithin A u (execLinkWake q s) := by
  unfold execLinkWake
  refine OutWithin.whenOk ?_ ?_
  · exact h_s
  · refine set_within _ (inMask (LNK_STAT_TXSLEEP_win _) (Sub.bit hM (by decide))) ?_
    exact h_s

theorem execLinkDisable_within {A : Nat} {u : State} {a : Agent} {q : Fin 16} {s : State} (hM : Sub 0xC800000000000300000088004D A) (h_s
    : Within A u s) :
    OutWithin A u (execLinkDisable a q s) := by
  unfold execLinkDisable
  refine OutWithin.ok ?_
  refine answered_within (Sub.trans (by decide) hM) ?_
  refine wrLnkCtl_within (Sub.trans (by decide) hM) ?_
  exact h_s

theorem execSlip_within {A : Nat} {u : State} {a : Agent} {l : Fin 64} {s : State} (hM : Sub 0x80000000000000000000800001 A) (h_s :
    Within A u s) :
    OutWithin A u (execSlip a l s) := by
  unfold execSlip
  refine OutWithin.ok ?_
  refine answered_within (Sub.trans (by decide) hM) ?_
  refine wrLaneCtl_within (Sub.trans (by decide) hM) ?_
  exact h_s

theorem execPrbsInject_within {A : Nat} {u : State} {a : Agent} {l : Fin 64} {s : State} (hM : Sub 0x80000000000000000000800001 A) (h_s :
    Within A u s) :
    OutWithin A u (execPrbsInject a l s) := by
  unfold execPrbsInject
  refine OutWithin.ok ?_
  refine answered_within (Sub.trans (by decide) hM) ?_
  refine wrLaneCtl_within (Sub.trans (by decide) hM) ?_
  exact h_s

theorem lanesLower_within {A : Nat} {u : State} {q : Nat} {s : State} (hM : Sub 0xC800000000000300000088004C A) (h_s : Within A u s) :
    Within A u (lanesLower q s) := by
  unfold lanesLower
  refine lnkStop_within (Sub.trans (by decide) hM) ?_
  exact h_s

theorem execPrbsCheckerLock_within {A : Nat} {u : State} {l : Fin 64} {wrong : Nat} {s : State} (hM : Sub 0x80000000000000000000000000 A)
    (h_s : Within A u s) :
    OutWithin A u (execPrbsCheckerLock l wrong s) := by
  unfold execPrbsCheckerLock
  extract_lets -merge -useContext +onlyGivenNames q_0 m_1
  refine OutWithin.whenOk ?_ ?_
  · exact h_s
  · refine State.count_within (Sub.trans (by decide) hM) (inMask (LANE_STAT_ERRORS_win _) (Sub.bit hM (by decide))) ?_
    refine set_within _ (inMask (LANE_STAT_PRBS_LOCK_win _) (Sub.bit hM (by decide))) ?_
    exact h_s

end Sys2Proof.Machine
end

