-- ==== Sys2Proof/Laws/WithinLoader.lean ====
section
/-! SUPPORT. What each operation of Machine/Loader.lean can reach (see Laws/Within.lean). -/
set_option Elab.async false
namespace Sys2Proof.Machine

theorem loadGrantEnd_within {A : Nat} {u : State} {s : State} (hM : Sub 0x180060000000011C A) (h_s : Within A u s) :
    Within A u (loadGrantEnd s) := by
  unfold loadGrantEnd
  extract_lets -merge -useContext +onlyGivenNames w_0 s_1
  have hs_1 : Within A u s_1 := by
    refine Within.power_ (Sub.bit hM (by decide)) ?_
    exact h_s
  split
  · refine sluEnd_within (Sub.trans (by decide) hM) ?_
    exact hs_1
  · exact hs_1

theorem modLdr_within {A : Nat} {u : State} {f : LdrSt → LdrSt} {s : State} (hM : Sub 0x100000 A) (h_s : Within A u s) :
    Within A u (modLdr f s) := by
  unfold modLdr
  refine Within.ldr_ (Sub.bit hM (by decide)) ?_
  exact h_s

theorem jobEnd_within {A : Nat} {u : State} {s : State} (hM : Sub 0x100000 A) (h_s : Within A u s) :
    Within A u (jobEnd s) := by
  unfold jobEnd
  refine modLdr_within (Sub.trans (by decide) hM) ?_
  exact h_s

theorem gatesOpen_within {A : Nat} {u : State} {r : Nat} {s : State} (hM : Sub 0x80000 A) (h_s : Within A u s) :
    Within A u (gatesOpen r s) := by
  unfold gatesOpen
  refine Within.fab_ (Sub.bit hM (by decide)) ?_
  exact h_s

theorem isoEngage_within {A : Nat} {u : State} {r : Nat} {s : State} (hM : Sub 0x80000000084000 A) (h_s : Within A u s) :
    Within A u (isoEngage r s) := by
  unfold isoEngage
  refine dinRelease_within (Sub.trans (by decide) hM) ?_
  refine set_within _ (inMask (REG_STAT_ISO_win _) (Sub.bit hM (by decide))) ?_
  refine Within.ite ?_ ?_
  · refine bordersHeld_within (Sub.trans (by decide) hM) ?_
    exact h_s
  · exact h_s

theorem regionInvalid_within {A : Nat} {u : State} {r : Nat} {s : State} (hM : Sub 0x800000001C4001 A) (h_s : Within A u s) :
    Within A u (regionInvalid r s) := by
  unfold regionInvalid
  refine portFault_within (Sub.trans (by decide) hM) ?_
  refine gatesOpen_within (Sub.trans (by decide) hM) ?_
  refine modLdr_within (Sub.trans (by decide) hM) ?_
  refine set_within _ (inMask (REG_STAT_STATE_win _) (Sub.bit hM (by decide))) ?_
  refine isoEngage_within (Sub.trans (by decide) hM) ?_
  exact h_s

theorem loadAbort_within {A : Nat} {u : State} {r cause : Nat} {s : State} (hM : Sub 0x18806000001C411D A) (h_s : Within A u s) :
    Within A u (loadAbort r cause s) := by
  unfold loadAbort
  refine raise_within (Sub.trans (by decide) hM) ?_
  refine loadGrantEnd_within (Sub.trans (by decide) hM) ?_
  refine jobEnd_within (Sub.trans (by decide) hM) ?_
  refine set_within _ (inMask (REG_STAT_ABORT_win _) (Sub.bit hM (by decide))) ?_
  refine regionInvalid_within (Sub.trans (by decide) hM) ?_
  exact h_s

theorem ldrLower_within {A : Nat} {u : State} {r : Nat} {s : State} (hM : Sub 0x18806000001C411D A) (h_s : Within A u s) :
    Within A u (ldrLower r s) := by
  unfold ldrLower
  refine Within.ite ?_ ?_
  · refine loadAbort_within (Sub.trans (by decide) hM) ?_
    exact h_s
  · refine isoEngage_within (Sub.trans (by decide) hM) ?_
    refine modLdr_within (Sub.trans (by decide) hM) ?_
    exact h_s

theorem writeFrame_within {A : Nat} {u : State} {f : Nat} {dynamic : Bool} {b : List Byte} {s : State} (hM : Sub 0x80000 A) (h_s : Within
    A u s) :
    Within A u (writeFrame f dynamic b s) := by
  unfold writeFrame
  refine Within.fab_ (Sub.bit hM (by decide)) ?_
  exact h_s

theorem invalidate_within {A : Nat} {u : State} {r : Nat} {s : State} (hM : Sub 0x18806000001C411D A) (h_s : Within A u s) :
    Within A u (invalidate r s) := by
  unfold invalidate
  refine Within.ite ?_ ?_
  · refine loadAbort_within (Sub.trans (by decide) hM) ?_
    exact h_s
  · refine set_within _ (inMask (REG_STAT_ABORT_win _) (Sub.bit hM (by decide))) ?_
    refine regionInvalid_within (Sub.trans (by decide) hM) ?_
    exact h_s

theorem ldrEnqueue_within {A : Nat} {u : State} {q : LdrReq} {s : State} (hM : Sub 0x100000 A) (h_s : Within A u s) :
    Within A u (ldrEnqueue q s).2 := by
  unfold ldrEnqueue
  refine Within.ite1 ?_ ?_
  · refine Within.snd1 ?_
    exact h_s
  · refine Within.ite1 ?_ ?_
    · refine Within.snd1 ?_
      exact h_s
    · refine Within.snd1 ?_
      refine modLdr_within (Sub.trans (by decide) hM) ?_
      exact h_s

theorem wrLdrReq_within {A : Nat} {u : State} {a : Agent} {v : Nat} {s : State} (hM : Sub 0x18806000001C411D A) (h_s : Within A u s) :
    Within A u (wrLdrReq a v s).2 := by
  unfold wrLdrReq
  extract_lets -merge -useContext +onlyGivenNames op_0 r_1
  refine Within.ite1 ?_ ?_
  · refine Within.snd1 ?_
    exact h_s
  · refine Within.ite1 ?_ ?_
    · refine Within.snd1 ?_
      exact h_s
    · refine Within.ite1 ?_ ?_
      · refine Within.snd1 ?_
        exact h_s
      · refine Within.ite1 ?_ ?_
        · refine Within.snd1 ?_
          refine invalidate_within (Sub.trans (by decide) hM) ?_
          exact h_s
        · refine ldrEnqueue_within (Sub.trans (by decide) hM) ?_
          exact h_s

theorem rillPast_within {A : Nat} {u : State} {s : State} (hM : Sub 0x40000000100000 A) (h_s : Within A u s) :
    Within A u (rillPast s) := by
  unfold rillPast
  extract_lets -merge -useContext +onlyGivenNames p_0 s_1
  have hs_1 : Within A u s_1 := by
    refine set_within _ (inMask (RILL_STAT_POSITION_win) (Sub.bit hM (by decide))) ?_
    exact h_s
  refine Within.ite ?_ ?_
  · refine modLdr_within (Sub.trans (by decide) hM) ?_
    exact hs_1
  · exact hs_1

theorem execLoaderInvalidate_within {A : Nat} {u : State} {a : Agent} {r : Fin 16} {s : State} (hM : Sub 0x18806000001C411D A) (h_s :
    Within A u s) :
    OutWithin A u (execLoaderInvalidate a r s) := by
  unfold execLoaderInvalidate
  refine OutWithin.ok ?_
  refine answered_within (Sub.trans (by decide) hM) ?_
  refine wrLdrReq_within (Sub.trans (by decide) hM) ?_
  exact h_s

theorem rillPassOver_within {A : Nat} {u : State} {s : State} (hM : Sub 0x184060000010011C A) (h_s : Within A u s) :
    Within A u (rillPassOver s) := by
  unfold rillPassOver
  extract_lets -merge -useContext +onlyGivenNames s_0
  have hs_0 : Within A u s_0 := by
    refine modLdr_within (Sub.trans (by decide) hM) ?_
    refine set_within _ (inMask (RILL_STAT_PASS_BUSY_win) (Sub.bit hM (by decide))) ?_
    refine set_within _ (inMask (RILL_CTL_PASS_win) (Sub.bit hM (by decide))) ?_
    exact h_s
  split
  · refine sluEnd_within (Sub.trans (by decide) hM) ?_
    exact hs_0
  · exact hs_0

theorem execRillPassComplete_within {A : Nat} {u : State} {s : State} (hM : Sub 0x184060000010011C A) (h_s : Within A u s) :
    OutWithin A u (execRillPassComplete s) := by
  unfold execRillPassComplete
  split
  · refine OutWithin.ok ?_
    exact h_s
  · refine OutWithin.whenOk ?_ ?_
    · exact h_s
    · extract_lets -merge -useContext +onlyGivenNames t_0
      have ht_0 : Within A u t_0 := by
        refine set_within _ (inMask (RILL_PASS_FRAMES_CHECKED_win) (Sub.bit hM (by decide))) ?_
        refine set_within _ (inMask (RILL_PASS_FRAMES_CORR_win) (Sub.bit hM (by decide))) ?_
        refine set_within _ (inMask (RILL_PASS_FRAMES_UNCORR_win) (Sub.bit hM (by decide))) ?_
        exact h_s
      refine rillPassOver_within (Sub.trans (by decide) hM) ?_
      refine raise_within (Sub.trans (by decide) hM) ?_
      exact ht_0

theorem loadDone_within {A : Nat} {u : State} {j : LdrJob} {s : State} (hM : Sub 0x198060000018011C A) (h_s : Within A u s) :
    Within A u (loadDone j s) := by
  unfold loadDone
  extract_lets -merge -useContext +onlyGivenNames r_0 full_1 slot_2 s_3 s_4 s_5 s_6 s_7
  have hs_3 : Within A u s_3 := by
    refine set_within _ (inMask (REG_STAT_SLOT_win _) (Sub.bit hM (by decide))) ?_
    refine set_within _ (inMask (REG_STAT_ISO_win _) (Sub.bit hM (by decide))) ?_
    refine set_within _ (inMask (REG_STAT_STATE_win _) (Sub.bit hM (by decide))) ?_
    exact h_s
  have hs_4 : Within A u s_4 := by
    refine set_within _ (inMask (REG_STAT_FROM_FULL_win _) (Sub.bit hM (by decide))) ?_
    exact hs_3
  have hs_5 : Within A u s_5 := by
    refine modLdr_within (Sub.trans (by decide) hM) ?_
    exact hs_4
  have hs_6 : Within A u s_6 := by
    refine flopsInitial_within (Sub.trans (by decide) hM) ?_
    refine gatesOpen_within (Sub.trans (by decide) hM) ?_
    exact hs_5
  have hs_7 : Within A u s_7 := by
    refine Within.ite ?_ ?_
    · refine isoFromImage_within (Sub.trans (by decide) hM) ?_
      exact hs_6
    · exact hs_6
  refine loadGrantEnd_within (Sub.trans (by decide) hM) ?_
  refine jobEnd_within (Sub.trans (by decide) hM) ?_
  refine raise_within (Sub.trans (by decide) hM) ?_
  exact hs_7

theorem writeBram_within {A : Nat} {u : State} {n m mode : Nat} {b : List Byte} {s : State} (hM : Sub 0x80000 A) (h_s : Within A u s) :
    Within A u (writeBram n m mode b s) := by
  unfold writeBram
  extract_lets -merge -useContext +onlyGivenNames mode_0 v_1 w_2 w_3 s_4
  have hs_4 : Within A u s_4 := by
    refine Within.fab_ (Sub.bit hM (by decide)) ?_
    exact h_s
  refine forNat_within ?_ _ ?_
  · intro y5 y6 hy7
    beta_reduce
    refine Within.fab_ (Sub.bit hM (by decide)) ?_
    exact hy7
  · exact hs_4

theorem writeRecord_within {A : Nat} {u : State} {rd : ImgRd} {r k : Nat} {back : Bool} {s : State} (hM : Sub 0x80000000080000 A) (h_s :
    Within A u s) :
    Within A u (writeRecord rd r k back s).2 := by
  unfold writeRecord
  refine Within.ite1 ?_ ?_
  · extract_lets -merge -useContext +onlyGivenNames o_0 f_1 inRange_2 inArea_3 s_4
    have hs_4 : Within A u s_4 := by
      refine State.count_within (Sub.trans (by decide) hM) (inMask (REG_STAT_FRAMES_DONE_win _) (Sub.bit hM (by decide))) ?_
      refine writeFrame_within (Sub.trans (by decide) hM) ?_
      exact h_s
    refine Within.ite1 ?_ ?_
    · refine Within.snd1 ?_
      exact h_s
    · refine Within.snd1 ?_
      exact hs_4
  · split
    · refine Within.snd1 ?_
      exact h_s
    · extract_lets -merge -useContext +onlyGivenNames o_5 n_6 m_7
      refine Within.ite1 ?_ ?_
      · refine Within.snd1 ?_
        exact h_s
      · refine Within.snd1 ?_
        refine writeBram_within (Sub.trans (by decide) hM) ?_
        exact h_s

theorem ldrOff_within {A : Nat} {u : State} {r : Nat} {s : State} (hM : Sub 0x80000000100000 A) (h_s : Within A u s) :
    Within A u (ldrOff r s) := by
  unfold ldrOff
  refine modLdr_within (Sub.trans (by decide) hM) ?_
  refine set_within _ (inMask (REG_STAT_FROM_FULL_win _) (Sub.bit hM (by decide))) ?_
  refine set_within _ (inMask (REG_STAT_STATE_win _) (Sub.bit hM (by decide))) ?_
  exact h_s

theorem copyReads_within {A : Nat} {u : State} {src base o n : Nat} {s : State} (hM : Sub 0x20A00000002000000800180C A) (h_s : Within A u
    s) :
    Within A u (copyReads src base o n s).2 := by
  unfold copyReads
  extract_lets -merge -useContext +onlyGivenNames a_0 x_1
  have hx_1 : Within A u x_1.2.2 := by
    refine hbmLoad_within (Sub.trans (by decide) hM) ?_
    exact h_s
  refine Within.snd1 ?_
  exact hx_1

theorem repairFrame_within {A : Nat} {u : State} {n r f : Nat} {s : State} (hM : Sub 0x20A00000002000000808180C A) (h_s : Within A u s) :
    Within A u (repairFrame n r f s) := by
  unfold repairFrame
  extract_lets -merge -useContext +onlyGivenNames rd_0
  split
  · exact h_s
  · extract_lets -merge -useContext +onlyGivenNames x_1
    have hx_1 : Within A u x_1.2 := by
      refine copyReads_within (Sub.trans (by decide) hM) ?_
      exact h_s
    refine Within.ite ?_ ?_
    · refine writeFrame_within (Sub.trans (by decide) hM) ?_
      exact hx_1
    · exact hx_1

theorem repairArea_within {A : Nat} {u : State} {r slot : Nat} {s : State} (hM : Sub 0x20A00000002000000808180C A) (h_s : Within A u s) :
    Within A u (repairArea r slot s) := by
  unfold repairArea
  extract_lets -merge -useContext +onlyGivenNames l_0
  refine forEach_within ?_ _ ?_
  · intro y1 y2 hy3
    beta_reduce
    refine repairFrame_within (Sub.trans (by decide) hM) ?_
    exact hy3
  · exact h_s

theorem enterHeld_within {A : Nat} {u : State} {r : Nat} {s : State} (hM : Sub 0x80000000100000 A) (h_s : Within A u s) :
    Within A u (enterHeld r s) := by
  unfold enterHeld
  refine modLdr_within (Sub.trans (by decide) hM) ?_
  refine set_within _ (inMask (REG_STAT_STATE_win _) (Sub.bit hM (by decide))) ?_
  exact h_s

theorem upsetAct_within {A : Nat} {u : State} {f : Nat} {s : State} (hM : Sub 0x20A0000000A000000818180C A) (h_s : Within A u s) :
    Within A u (upsetAct f s) := by
  unfold upsetAct
  extract_lets -merge -useContext +onlyGivenNames n_0 p_1 full_2 repair_3
  have hrepair_3 : ∀ y4, Within A u (repair_3 y4) := by
    intro y4
    unfold repair_3
    refine Within.ite ?_ ?_
    · refine repairArea_within (Sub.trans (by decide) hM) ?_
      exact h_s
    · refine modLdr_within (Sub.trans (by decide) hM) ?_
      exact h_s
  refine Within.ite ?_ ?_
  · exact h_s
  · refine Within.ite ?_ ?_
    · apply hrepair_3
    · refine Within.ite ?_ ?_
      · apply hrepair_3
      · refine enterHeld_within (Sub.trans (by decide) hM) ?_
        exact h_s

theorem rillFrame_within {A : Nat} {u : State} {f : Nat} {ups : List Upset} {s : State} (hM : Sub 0x20A0000000E000000818180C A) (h_s :
    Within A u s) :
    Within A u (rillFrame f ups s) := by
  unfold rillFrame
  extract_lets -merge -useContext +onlyGivenNames mine_0 struck_1 w_2 s_3 single_4 s_5 pass_6 s_7 s_8
  have hs_3 : Within A u s_3 := by
    refine Within.fab_ (Sub.bit hM (by decide)) ?_
    exact h_s
  have hs_5 : Within A u s_5 := by
    refine forNat_within ?_ _ ?_
    · intro y9 y10 hy11
      beta_reduce
      refine modLdr_within (Sub.trans (by decide) hM) ?_
      refine bucketHit_within (Sub.trans (by decide) hM) (inMask (RILL_STAT_CORR_win) (Sub.bit hM (by decide))) (inMask (RILL_STAT_LEVEL_win) (Sub.bit hM (by decide))) (inMask (RILL_STAT_OVERFLOW_win) (Sub.bit hM (by decide))) (inMask (RILL_CTL_BUCKET_win) (Sub.bit hM (by decide))) ?_
      exact hy11
    · exact hs_3
  have hpass_6 : ∀ y12 y13 y14, Within A u y14 → Within A u (pass_6 y12 y13 y14) := by
    intro y12 y13 y14 hy15
    unfold pass_6
    refine modLdr_within (Sub.trans (by decide) hM) ?_
    exact hy15
  have hs_7 : Within A u s_7 := by
    refine modLdr_within (Sub.trans (by decide) hM) ?_
    refine State.count_within (Sub.trans (by decide) hM) (inMask (RILL_STAT_UNCORR_win) (Sub.bit hM (by decide))) ?_
    exact hs_5
  have hs_8 : Within A u s_8 := by
    refine noteSign_within (Sub.trans (by decide) hM) ?_
    exact hs_7
  split
  · apply hpass_6
    exact hs_5
  · refine upsetAct_within (Sub.trans (by decide) hM) ?_
    refine raise_within (Sub.trans (by decide) hM) ?_
    apply hpass_6
    exact hs_8

theorem rillScan_within {A : Nat} {u : State} {ups : List Upset} {a1 a2 : Nat} {a3 : State} (hM : Sub 0x20A0000000E000000818180C A) (h_a3
    : Within A u a3) :
    Within A u (rillScan ups a1 a2 a3) := by
  induction a1 generalizing a2 a3 with
  | zero => exact h_a3
  | succ n ih =>
    cases a2 with
    | zero => exact h_a3
    | succ m =>
      unfold rillScan
      have h : Within A u (rillPast (rillFrame (a3.get RILL_STAT_POSITION) ups a3)) :=
        rillPast_within (Sub.trans (by decide) hM) (rillFrame_within (Sub.trans (by decide) hM) h_a3)
      refine Within.ite (modLdr_within (Sub.trans (by decide) hM) h_a3) (Within.ite ?_ ?_)
      · exact ih (modLdr_within (Sub.trans (by decide) hM) h)
      · exact ih (rillPast_within (Sub.trans (by decide) hM) h_a3)

theorem execRillSlice_within {A : Nat} {u : State} {frames : Nat} {ups : List Upset} {s : State} (hM : Sub 0x20A0000000E000000818184C A)
    (h_s : Within A u s) :
    OutWithin A u (execRillSlice frames ups s) := by
  unfold execRillSlice
  refine inDuty_within (Sub.trans (by decide) hM) ?_ ?_
  · intro y0 hy1
    beta_reduce
    refine OutWithin.ok ?_
    refine rillScan_within (Sub.trans (by decide) hM) ?_
    exact hy1
  · exact h_s

theorem marksLost_within {A : Nat} {u : State} {s : State} (hM : Sub 0x20000002000000 A) (h_s : Within A u s) :
    Within A u (marksLost s) := by
  unfold marksLost
  extract_lets -merge -useContext +onlyGivenNames s_0 w_1
  have hs_0 : Within A u s_0 := by
    refine set_within _ (inMask (LDR_CACHE_FULL_OK_win) (Sub.bit hM (by decide))) ?_
    refine set_within _ (inMask (LDR_CACHE_SLOT_OK_win) (Sub.bit hM (by decide))) ?_
    exact h_s
  refine Within.boot_ (Sub.bit hM (by decide)) ?_
  exact hs_0

theorem execLoaderLoad_within {A : Nat} {u : State} {a : Agent} {n : Fin 16} {s : State} (hM : Sub 0x18806000001C411D A) (h_s : Within A
    u s) :
    OutWithin A u (execLoaderLoad a n s) := by
  unfold execLoaderLoad
  refine OutWithin.ok ?_
  refine answered_within (Sub.trans (by decide) hM) ?_
  refine wrLdrReq_within (Sub.trans (by decide) hM) ?_
  exact h_s

theorem setMark_within {A : Nat} {u : State} {n : Nat} {b : Bool} {s : State} (hM : Sub 0x20000000000000 A) (h_s : Within A u s) :
    Within A u (setMark n b s) := by
  unfold setMark
  refine Within.ite ?_ ?_
  · refine set_within _ (inMask (LDR_CACHE_SLOT_OK_win) (Sub.bit hM (by decide))) ?_
    exact h_s
  · refine set_within _ (inMask (LDR_CACHE_FULL_OK_win) (Sub.bit hM (by decide))) ?_
    exact h_s

theorem execQuietRegionReload_within {A : Nat} {u : State} {r : Fin 16} {s : State} (hM : Sub 0x100020 A) (h_s : Within A u s) :
    OutWithin A u (execQuietRegionReload r s) := by
  unfold execQuietRegionReload
  split
  · refine OutWithin.ok ?_
    exact h_s
  · refine OutWithin.ite ?_ ?_
    · refine OutWithin.ok ?_
      exact h_s
    · extract_lets -merge -useContext +onlyGivenNames x_0 w_1 w_2
      have hx_0 : Within A u x_0.2 := by
        refine ldrEnqueue_within (Sub.trans (by decide) hM) ?_
        exact h_s
      have hw_1 : Within A u w_1 := by
        exact hx_0
      refine OutWithin.ok ?_
      refine Within.ite ?_ ?_
      · refine Within.profile_ (Sub.bit hM (by decide)) ?_
        exact hw_1
      · exact h_s

theorem imageRefused_within {A : Nat} {u : State} {kind off code : Nat} {s : State} (hM : Sub 0xC A) (h_s : Within A u s) :
    Within A u (imageRefused kind off code s) := by
  unfold imageRefused
  refine raise_within (Sub.trans (by decide) hM) ?_
  exact h_s

theorem isolate_within {A : Nat} {u : State} {r : Nat} {s : State} (hM : Sub 0x800000000C4001 A) (h_s : Within A u s) :
    Within A u (isolate r s) := by
  unfold isolate
  refine isoEngage_within (Sub.trans (by decide) hM) ?_
  refine portFault_within (Sub.trans (by decide) hM) ?_
  exact h_s

theorem execLoadDrainEnd_within {A : Nat} {u : State} {r : Fin 16} {s : State} (hM : Sub 0x800000001C4001 A) (h_s : Within A u s) :
    OutWithin A u (execLoadDrainEnd r s) := by
  unfold execLoadDrainEnd
  extract_lets -merge -useContext +onlyGivenNames n_0 held_1 t_2
  have ht_2 : Within A u t_2 := by
    refine set_within _ (inMask (REG_STAT_FRAMES_DONE_win _) (Sub.bit hM (by decide))) ?_
    refine set_within _ (inMask (REG_STAT_ABORT_win _) (Sub.bit hM (by decide))) ?_
    refine set_within _ (inMask (REG_STAT_STATE_win _) (Sub.bit hM (by decide))) ?_
    refine isolate_within (Sub.trans (by decide) hM) ?_
    exact h_s
  split
  · refine OutWithin.ok ?_
    refine fusesTake_within (Sub.trans (by decide) hM) ?_
    refine modLdr_within (Sub.trans (by decide) hM) ?_
    exact ht_2
  · refine OutWithin.whenOk ?_ ?_
    · exact h_s
    · refine modLdr_within (Sub.trans (by decide) hM) ?_
      refine isolate_within (Sub.trans (by decide) hM) ?_
      exact h_s

theorem loadBegin_within {A : Nat} {u : State} {q : LdrReq} {r : Nat} {s : State} (hM : Sub 0x8024000010003C A) (h_s : Within A u s) :
    Within A u (loadBegin q r s) := by
  unfold loadBegin
  refine Within.ite ?_ ?_
  · refine raise_within (Sub.trans (by decide) hM) ?_
    refine jobEnd_within (Sub.trans (by decide) hM) ?_
    refine set_within _ (inMask (REG_STAT_ABORT_win _) (Sub.bit hM (by decide))) ?_
    exact h_s
  · extract_lets -merge -useContext +onlyGivenNames j_0 n_1
    refine placeAgain_within (Sub.trans (by decide) hM) ?_
    refine modLdr_within (Sub.trans (by decide) hM) ?_
    exact h_s

theorem execLoadComplete_within {A : Nat} {u : State} {s : State} (hM : Sub 0x198060000018011C A) (h_s : Within A u s) :
    OutWithin A u (execLoadComplete s) := by
  unfold execLoadComplete
  split
  · refine OutWithin.ok ?_
    exact h_s
  · refine OutWithin.whenOk ?_ ?_
    · exact h_s
    · refine loadDone_within (Sub.trans (by decide) hM) ?_
      exact h_s

theorem ldrTick_within {A : Nat} {u : State} {s : State} (hM : Sub 0x4000200010000C A) (h_s : Within A u s) :
    Within A u (ldrTick s) := by
  unfold ldrTick
  extract_lets -merge -useContext +onlyGivenNames left_0 s_1 s_2 due_3
  have hs_1 : Within A u s_1 := by
    refine Within.ite ?_ ?_
    · exact h_s
    · refine raise_within (Sub.trans (by decide) hM) ?_
      refine State.count_within (Sub.trans (by decide) hM) (inMask (FRM_OVR_COUNT_win _) (Sub.bit hM (by decide))) ?_
      exact h_s
  have hs_2 : Within A u s_2 := by
    refine bucketLeak_within (Sub.trans (by decide) hM) (inMask (RILL_STAT_LEVEL_win) (Sub.bit hM (by decide))) (inMask (RILL_CTL_LEAK_win) (Sub.bit hM (by decide))) ?_
    exact hs_1
  refine modLdr_within (Sub.trans (by decide) hM) ?_
  exact hs_2

theorem stageImage_within {A : Nat} {u : State} {n kind flash size : Nat} {flashOk : Bool} {s : State} (hM : Sub
    0x20A00000002000000A00180C A) (h_s : Within A u s) :
    Within A u (stageImage n kind flash size flashOk s).2 := by
  unfold stageImage
  extract_lets -merge -useContext +onlyGivenNames s_0 w_1 s_2 w_3 c_4
  have hs_0 : Within A u s_0 := by
    refine setMark_within (Sub.trans (by decide) hM) ?_
    exact h_s
  have hs_2 : Within A u s_2 := by
    refine Within.ite ?_ ?_
    · exact hs_0
    · refine Within.boot_ (Sub.bit hM (by decide)) ?_
      exact hs_0
  have hw_3 : Within A u w_3.2 := by
    refine hbmSave_within (Sub.trans (by decide) hM) ?_
    exact hs_2
  refine Within.ite1 ?_ ?_
  · refine Within.snd1 ?_
    refine imageRefused_within (Sub.trans (by decide) hM) ?_
    exact hs_2
  · refine Within.snd1 ?_
    refine Within.ite ?_ ?_
    · refine setMark_within (Sub.trans (by decide) hM) ?_
      exact hw_3
    · refine imageRefused_within (Sub.trans (by decide) hM) ?_
      exact hw_3

theorem dispatch_within {A : Nat} {u : State} {q : LdrReq} {rest : List LdrReq} {s : State} (hM : Sub 0x20A0000018A06400081C593D A) (h_s
    : Within A u s) :
    Within A u (dispatch q rest s) := by
  unfold dispatch
  extract_lets -merge -useContext +onlyGivenNames s_0 stage_1
  have hs_0 : Within A u s_0 := by
    refine modLdr_within (Sub.trans (by decide) hM) ?_
    exact h_s
  have hstage_1 : Within A u stage_1 := by
    refine modLdr_within (Sub.trans (by decide) hM) ?_
    refine setMark_within (Sub.trans (by decide) hM) ?_
    exact hs_0
  refine Within.ite ?_ ?_
  · refine invalidate_within (Sub.trans (by decide) hM) ?_
    exact hs_0
  · refine Within.ite ?_ ?_
    · exact hstage_1
    · refine Within.ite ?_ ?_
      · exact hstage_1
      · refine Within.ite ?_ ?_
        · refine repairArea_within (Sub.trans (by decide) hM) ?_
          exact hs_0
        · refine loadBegin_within (Sub.trans (by decide) hM) ?_
          exact hs_0

theorem wrRegCtl_within {A : Nat} {u : State} {n v : Nat} {s : State} (hM : Sub 0x80000000000000 A) (h_s : Within A u s) :
    Within A u (wrRegCtl n v s).2 := by
  unfold wrRegCtl
  extract_lets -merge -useContext +onlyGivenNames p_0
  refine Within.ite1 ?_ ?_
  · refine Within.snd1 ?_
    exact h_s
  · refine Within.snd1 ?_
    refine set_within _ (inMask (REG_CTL_POLICY_win _) (Sub.bit hM (by decide))) ?_
    exact h_s

theorem execLoaderStage_within {A : Nat} {u : State} {a : Agent} {n : Fin 16} {s : State} (hM : Sub 0x18806000001C411D A) (h_s : Within A
    u s) :
    OutWithin A u (execLoaderStage a n s) := by
  unfold execLoaderStage
  refine OutWithin.ok ?_
  refine answered_within (Sub.trans (by decide) hM) ?_
  refine wrLdrReq_within (Sub.trans (by decide) hM) ?_
  exact h_s

theorem stageFor_within {A : Nat} {u : State} {n : Nat} {flashOk : Bool} {s : State} (hM : Sub 0x20A00000002000000A00180C A) (h_s :
    Within A u s) :
    Within A u (stageFor n flashOk s).2 := by
  unfold stageFor
  refine Within.ite1 ?_ ?_
  · refine stageImage_within (Sub.trans (by decide) hM) ?_
    exact h_s
  · refine stageImage_within (Sub.trans (by decide) hM) ?_
    exact h_s

theorem stageFailed_within {A : Nat} {u : State} {q : LdrReq} {c : Nat} {s : State} (hM : Sub 0xA00000001C4001 A) (h_s : Within A u s) :
    Within A u (stageFailed q c s) := by
  unfold stageFailed
  extract_lets -merge -useContext +onlyGivenNames r_0 s_1
  have hs_1 : Within A u s_1 := by
    refine set_within _ (inMask (REG_STAT_ERR_win _) (Sub.bit hM (by decide))) ?_
    exact h_s
  refine Within.ite ?_ ?_
  · refine set_within _ (inMask (LDR_STAT_LAST_ERR_win) (Sub.bit hM (by decide))) ?_
    exact h_s
  · refine Within.ite ?_ ?_
    · refine regionInvalid_within (Sub.trans (by decide) hM) ?_
      exact hs_1
    · exact hs_1

theorem execStageComplete_within {A : Nat} {u : State} {flashOk : Bool} {s : State} (hM : Sub 0x20A0000000A024000A1C583D A) (h_s : Within
    A u s) :
    OutWithin A u (execStageComplete flashOk s) := by
  unfold execStageComplete
  split
  · refine OutWithin.ok ?_
    exact h_s
  · refine OutWithin.ite ?_ ?_
    · refine OutWithin.ok ?_
      exact h_s
    · extract_lets -merge -useContext +onlyGivenNames q_0 x_1 t_2
      have hx_1 : Within A u x_1.2 := by
        refine stageFor_within (Sub.trans (by decide) hM) ?_
        exact h_s
      have ht_2 : Within A u t_2 := by
        refine jobEnd_within (Sub.trans (by decide) hM) ?_
        exact hx_1
      refine OutWithin.ok ?_
      refine Within.ite ?_ ?_
      · refine stageFailed_within (Sub.trans (by decide) hM) ?_
        exact ht_2
      · refine Within.ite ?_ ?_
        · exact ht_2
        · refine Within.ite ?_ ?_
          · refine repairArea_within (Sub.trans (by decide) hM) ?_
            exact ht_2
          · refine loadBegin_within (Sub.trans (by decide) hM) ?_
            exact ht_2

theorem rillGranted_within {A : Nat} {u : State} {s : State} (hM : Sub 0x40000000000000 A) (h_s : Within A u s) :
    Within A u (rillGranted s) := by
  unfold rillGranted
  refine Within.ite ?_ ?_
  · refine set_within _ (inMask (RILL_STAT_PASS_BUSY_win) (Sub.bit hM (by decide))) ?_
    exact h_s
  · exact h_s

theorem ldrOrphan_within {A : Nat} {u : State} {s : State} (hM : Sub 0x18C06000001C411D A) (h_s : Within A u s) :
    Within A u (ldrOrphan s) := by
  unfold ldrOrphan
  extract_lets -merge -useContext +onlyGivenNames waits_0 s_1
  have hs_1 : Within A u s_1 := by
    unfold s_1
    split
    · refine Within.ite ?_ ?_
      · refine loadAbort_within (Sub.trans (by decide) hM) ?_
        exact h_s
      · exact h_s
    · exact h_s
  refine Within.ite ?_ ?_
  · refine rillPassOver_within (Sub.trans (by decide) hM) ?_
    exact hs_1
  · exact hs_1

theorem execLoadGrantIssued_within {A : Nat} {u : State} {s : State} (hM : Sub 0x80000000180000 A) (h_s : Within A u s) :
    OutWithin A u (execLoadGrantIssued s) := by
  unfold execLoadGrantIssued
  split
  · refine OutWithin.ok ?_
    exact h_s
  · refine OutWithin.whenOk ?_ ?_
    · exact h_s
    · refine Within.ite ?_ ?_
      · refine modLdr_within (Sub.trans (by decide) hM) ?_
        refine fusesTake_within (Sub.trans (by decide) hM) ?_
        refine set_within _ (inMask (REG_STAT_FRAMES_DONE_win _) (Sub.bit hM (by decide))) ?_
        refine set_within _ (inMask (REG_STAT_ABORT_win _) (Sub.bit hM (by decide))) ?_
        refine set_within _ (inMask (REG_STAT_STATE_win _) (Sub.bit hM (by decide))) ?_
        exact h_s
      · refine modLdr_within (Sub.trans (by decide) hM) ?_
        exact h_s

theorem loadFail_within {A : Nat} {u : State} {r code event : Nat} {items : List EvItem} {s : State} (hM : Sub 0x18806000001C411D A) (h_s
    : Within A u s) :
    Within A u (loadFail r code event items s) := by
  unfold loadFail
  extract_lets -merge -useContext +onlyGivenNames s_0
  have hs_0 : Within A u s_0 := by
    refine Within.ite ?_ ?_
    · exact h_s
    · refine modLdr_within (Sub.trans (by decide) hM) ?_
      exact h_s
  refine raise_within (Sub.trans (by decide) hM) ?_
  refine loadGrantEnd_within (Sub.trans (by decide) hM) ?_
  refine jobEnd_within (Sub.trans (by decide) hM) ?_
  refine set_within _ (inMask (REG_STAT_ERR_win _) (Sub.bit hM (by decide))) ?_
  refine regionInvalid_within (Sub.trans (by decide) hM) ?_
  exact hs_0

theorem ldrPartReset_within {A : Nat} {u : State} {s : State} (hM : Sub 0x1E000000010000C A) (h_s : Within A u s) :
    Within A u (ldrPartReset s) := by
  unfold ldrPartReset
  extract_lets -merge -useContext +onlyGivenNames cut_0 s_1 s_2
  have hs_1 : Within A u s_1 := by
    refine resetRegs_within _ _ 13197361020928 13197427867647 55 2 0x180000000000000 (by decide) (by decide) (by decide) (Sub.trans (by decide) hM) (by omega) (by omega) ?_
    refine resetRegs_within _ _ 13197360758784 13197361020927 53 2 0x60000000000000 (by decide) (by decide) (by decide) (Sub.trans (by decide) hM) (by omega) (by omega) ?_
    exact h_s
  have hs_2 : Within A u s_2 := by
    refine Within.ldr_ (Sub.bit hM (by decide)) ?_
    exact hs_1
  clear_value cut_0
  split
  · refine raise_within (Sub.trans (by decide) hM) ?_
    refine set_within _ (inMask (REG_STAT_ABORT_win _) (Sub.bit hM (by decide))) ?_
    exact hs_2
  · exact hs_2

theorem wrRillCtl_within {A : Nat} {u : State} {a : Agent} {v : Nat} {s : State} (hM : Sub 0x4024000010003C A) (h_s : Within A u s) :
    Within A u (wrRillCtl a v s).2 := by
  unfold wrRillCtl
  refine Within.ite1 ?_ ?_
  · refine Within.snd1 ?_
    exact h_s
  · extract_lets -merge -useContext +onlyGivenNames t_0
    have ht_0 : Within A u t_0 := by
      refine set_within _ (inMask (RILL_CTL_BUCKET_win) (Sub.bit hM (by decide))) ?_
      refine set_within _ (inMask (RILL_CTL_LEAK_win) (Sub.bit hM (by decide))) ?_
      refine set_within _ (inMask (RILL_CTL_RATE_win) (Sub.bit hM (by decide))) ?_
      exact h_s
    refine Within.ite1 ?_ ?_
    · refine Within.snd1 ?_
      exact ht_0
    · split
      · refine Within.snd1 ?_
        refine modLdr_within (Sub.trans (by decide) hM) ?_
        refine set_within _ (inMask (RILL_CTL_PASS_win) (Sub.bit hM (by decide))) ?_
        refine Within.of_eq (q := (_, _)) (by assumption) ?_
        refine placeOrRetry_within (Sub.trans (by decide) hM) ?_
        exact ht_0
      · refine Within.snd1 ?_
        exact h_s

theorem execRillPassRequest_within {A : Nat} {u : State} {a : Agent} {s : State} (hM : Sub 0x4024000010003D A) (h_s : Within A u s) :
    OutWithin A u (execRillPassRequest a s) := by
  unfold execRillPassRequest
  refine OutWithin.ok ?_
  refine answered_within (Sub.trans (by decide) hM) ?_
  refine wrRillCtl_within (Sub.trans (by decide) hM) ?_
  exact h_s

theorem wrIsoHold_within {A : Nat} {u : State} {n k v : Nat} {s : State} (hM : Sub 0x100000000000000 A) (h_s : Within A u s) :
    Within A u (wrIsoHold n k v s).2 := by
  unfold wrIsoHold
  refine Within.ite1 ?_ ?_
  · refine Within.snd1 ?_
    exact h_s
  · refine Within.snd1 ?_
    refine set_within _ (inMask (ISO_HOLD_CHOICE_win _ _) (Sub.bit hM (by decide))) ?_
    exact h_s

theorem execLoadRecordWrite_within {A : Nat} {u : State} {back : Bool} {s : State} (hM : Sub 0x20A0000018A06000081C591D A) (h_s : Within
    A u s) :
    OutWithin A u (execLoadRecordWrite back s) := by
  unfold execLoadRecordWrite
  split
  · refine OutWithin.ok ?_
    exact h_s
  · extract_lets -merge -useContext +onlyGivenNames rd_0 sp_1 c_2 w_3 full_4
    have hc_2 : Within A u c_2.2 := by
      refine copyReads_within (Sub.trans (by decide) hM) ?_
      exact h_s
    have hw_3 : Within A u w_3.2 := by
      refine writeRecord_within (Sub.trans (by decide) hM) ?_
      exact hc_2
    refine OutWithin.ite ?_ ?_
    · refine OutWithin.ok ?_
      exact h_s
    · refine OutWithin.ite ?_ ?_
      · refine OutWithin.ok ?_
        refine loadFail_within (Sub.trans (by decide) hM) ?_
        exact hc_2
      · split
        · refine OutWithin.ok ?_
          refine modLdr_within (Sub.trans (by decide) hM) ?_
          exact hw_3
        · refine OutWithin.ok ?_
          refine loadFail_within (Sub.trans (by decide) hM) ?_
          refine imageRefused_within (Sub.trans (by decide) hM) ?_
          refine set_within _ (inMask (REG_STAT_BAD_ADDR_win _) (Sub.bit hM (by decide))) ?_
          exact hw_3
        · refine OutWithin.ok ?_
          refine loadFail_within (Sub.trans (by decide) hM) ?_
          exact hw_3

theorem ldrDomReset_within {A : Nat} {u : State} {r : Nat} {s : State} (hM : Sub 0x18806000001C411D A) (h_s : Within A u s) :
    Within A u (ldrDomReset r s).2 := by
  unfold ldrDomReset
  split
  · refine Within.ite1 ?_ ?_
    · refine Within.snd1 ?_
      exact h_s
    · refine Within.ite1 ?_ ?_
      · refine Within.snd1 ?_
        refine loadAbort_within (Sub.trans (by decide) hM) ?_
        exact h_s
      · refine Within.snd1 ?_
        exact h_s
  · refine Within.snd1 ?_
    exact h_s

theorem ldrHbmLeave_within {A : Nat} {u : State} {s : State} (hM : Sub 0x18806000001C411D A) (h_s : Within A u s) :
    Within A u (ldrHbmLeave s) := by
  unfold ldrHbmLeave
  split
  · refine Within.ite ?_ ?_
    · refine loadFail_within (Sub.trans (by decide) hM) ?_
      exact h_s
    · exact h_s
  · exact h_s

theorem execLoaderDispatch_within {A : Nat} {u : State} {s : State} (hM : Sub 0x20A0000018A06400081C593D A) (h_s : Within A u s) :
    OutWithin A u (execLoaderDispatch s) := by
  unfold execLoaderDispatch
  split
  · refine OutWithin.ok ?_
    refine Within.ite ?_ ?_
    · exact h_s
    · refine dispatch_within (Sub.trans (by decide) hM) ?_
      exact h_s
  · refine OutWithin.ok ?_
    exact h_s

end Sys2Proof.Machine
end

