-- ==== Sys2Proof/Laws/WithinRepair.lean ====
section
/-! SUPPORT. What each operation of Machine/Repair.lean can reach (see Laws/Within.lean). -/
set_option Elab.async false
namespace Sys2Proof.Machine

theorem raLower72_within {A : Nat} {u : State} {s : State} (hM : Sub 0x400000000000001800C A) (h_s : Within A u s) :
    Within A u (raLower72 s) := by
  unfold raLower72
  extract_lets -merge -useContext +onlyGivenNames held_0 n_1 s_2 w_3 s_4
  have hs_2 : Within A u s_2 := by
    refine Within.ite ?_ ?_
    · refine forEach_within ?_ _ ?_
      · intro y5 y6 hy7
        refine clearMap_within (Sub.trans (by decide) hM) ?_
        exact hy7
      · exact h_s
    · exact h_s
  have hs_4 : Within A u s_4 := by
    refine Within.ra_ (Sub.bit hM (by decide)) ?_
    exact hs_2
  refine Within.ite ?_ ?_
  · exact hs_4
  · refine raise_within (Sub.trans (by decide) hM) ?_
    exact hs_4

theorem becomeArmed_within {A : Nat} {u : State} {d : Nat} {s : State} (hM : Sub 0x40000000000000010000 A) (h_s : Within A u s) :
    Within A u (becomeArmed d s) := by
  unfold becomeArmed
  split
  · refine raQueue_within (Sub.trans (by decide) hM) ?_
    exact h_s
  · refine set_within _ (inMask (RA_DOM_STATE_win _) (Sub.bit hM (by decide))) ?_
    exact h_s

theorem wrRaPlain_within {A : Nat} {u : State} {l : List (Acc × Fld)} {a : Agent} {v : Nat} {s : State} (hM : Sub 0x0 A) (h_l : ∀ p ∈ l,
    InMask A p.2) (h_s : Within A u s) :
    Within A u (wrRaPlain l a v s).2 := by
  unfold wrRaPlain
  refine Within.ite1 ?_ ?_
  · refine Within.snd1 ?_
    exact h_s
  · refine Within.snd1 ?_
    refine writeFlds_within (Sub.trans (by decide) hM) h_l ?_
    exact h_s

theorem raTellFull_within {A : Nat} {u : State} {s : State} (hM : Sub 0x1000C A) (h_s : Within A u s) :
    Within A u (raTellFull s) := by
  unfold raTellFull
  refine Within.ite ?_ ?_
  · refine raise_within (Sub.trans (by decide) hM) ?_
    refine Within.ra_ (Sub.bit hM (by decide)) ?_
    exact h_s
  · exact h_s

theorem raEnqueue_within {A : Nat} {u : State} {r : RaRec} {steps must : Nat} {s : State} (hM : Sub 0x800000000000001000C A) (h_s :
    Within A u s) :
    Within A u (raEnqueue r steps must s) := by
  unfold raEnqueue
  extract_lets -merge -useContext +onlyGivenNames w_0 s_1 s_2 s_3
  have hs_1 : Within A u s_1 := by
    refine Within.ra_ (Sub.bit hM (by decide)) ?_
    exact h_s
  have hs_2 : Within A u s_2 := by
    refine Within.ite ?_ ?_
    · refine raise_within (Sub.trans (by decide) hM) ?_
      refine State.count_within (Sub.trans (by decide) hM) (inMask (RA_STAT_NP_COUNT_win) (Sub.bit hM (by decide))) ?_
      exact hs_1
    · exact hs_1
  have hs_3 : Within A u s_3 := by
    refine Within.ite ?_ ?_
    · refine raise_within (Sub.trans (by decide) hM) ?_
      exact hs_2
    · exact hs_2
  refine raTellFull_within (Sub.trans (by decide) hM) ?_
  exact hs_3

theorem raReturn_within {A : Nat} {u : State} {d : Nat} {s : State} (hM : Sub 0x40000000000000010000 A) (h_s : Within A u s) :
    Within A u (raReturn d s) := by
  unfold raReturn
  refine Within.ite ?_ ?_
  · refine set_within _ (inMask (RA_DOM_STATE_win _) (Sub.bit hM (by decide))) ?_
    exact h_s
  · refine becomeArmed_within (Sub.trans (by decide) hM) ?_
    exact h_s

theorem raAbort_within {A : Nat} {u : State} {x : RaUnit} {held : Bool} {cause : Nat} {s : State} (hM : Sub 0x4C00000000000001800C A)
    (h_s : Within A u s) :
    Within A u (raAbort x held cause s) := by
  unfold raAbort
  extract_lets -merge -useContext +onlyGivenNames p_0 w_1 s_2 s_3 r_4 s_5
  have hs_2 : Within A u s_2 := by
    refine Within.ra_ (Sub.bit hM (by decide)) ?_
    exact h_s
  have hs_3 : Within A u s_3 := by
    refine Within.ite ?_ ?_
    · refine clearMap_within (Sub.trans (by decide) hM) ?_
      exact hs_2
    · exact hs_2
  have hs_5 : Within A u s_5 := by
    refine raise_within (Sub.trans (by decide) hM) ?_
    refine raEnqueue_within (Sub.trans (by decide) hM) ?_
    exact hs_3
  refine Within.ite ?_ ?_
  · refine set_within _ (inMask (RA_DOM_STATE_win _) (Sub.bit hM (by decide))) ?_
    exact hs_5
  · refine raReturn_within (Sub.trans (by decide) hM) ?_
    exact hs_5

theorem raAbortAll_within {A : Nat} {u : State} {cause : Nat} {s : State} (hM : Sub 0x4C00000000000001800C A) (h_s : Within A u s) :
    Within A u (raAbortAll cause s) := by
  unfold raAbortAll
  refine forEach_within ?_ _ ?_
  · intro y0 y1 hy2
    beta_reduce
    refine raAbort_within (Sub.trans (by decide) hM) ?_
    exact hy2
  · exact h_s

theorem raRelease_within {A : Nat} {u : State} {m outcome : Nat} {s : State} (hM : Sub 0x4C00000000000001800C A) (h_s : Within A u s) :
    Within A u (raRelease m outcome s) := by
  unfold raRelease
  extract_lets -merge -useContext +onlyGivenNames x_0 user_1 s_2 s_3 s_4
  have hs_2 : Within A u s_2 := by
    refine clearMap_within (Sub.trans (by decide) hM) ?_
    exact h_s
  have hs_3 : Within A u s_3 := by
    refine raEnqueue_within (Sub.trans (by decide) hM) ?_
    exact hs_2
  have hs_4 : Within A u s_4 := by
    refine raise_within (Sub.trans (by decide) hM) ?_
    exact hs_3
  refine Within.ite ?_ ?_
  · refine raReturn_within (Sub.trans (by decide) hM) ?_
    exact hs_4
  · exact hs_4

theorem execSearchEnd_within {A : Nat} {u : State} {u_ : Fin 16} {s : State} (hM : Sub 0x4800000000000001000C A) (h_s : Within A u s) :
    OutWithin A u (execSearchEnd u_ s) := by
  unfold execSearchEnd
  split
  · refine OutWithin.ok ?_
    exact h_s
  · refine OutWithin.whenOk ?_ ?_
    · exact h_s
    · extract_lets -merge -useContext +onlyGivenNames r_0 rec__1 w_2 t_3
      have ht_3 : Within A u t_3 := by
        refine Within.ra_ (Sub.bit hM (by decide)) ?_
        exact h_s
      refine raReturn_within (Sub.trans (by decide) hM) ?_
      refine raEnqueue_within (Sub.trans (by decide) hM) ?_
      exact ht_3

theorem raAccept_within {A : Nat} {u : State} {m : Nat} {s : State} (hM : Sub 0x4C00000000000001800C A) (h_s : Within A u s) :
    Within A u (raAccept m s) := by
  unfold raAccept
  extract_lets -merge -useContext +onlyGivenNames d_0 s_1 w_2
  have hs_1 : Within A u s_1 := by
    refine set_within _ (inMask (RA_DOM_STATE_win _) (Sub.bit hM (by decide))) ?_
    refine set_within _ (inMask (FC_MAP_CTL_STATE_win _) (Sub.bit hM (by decide))) ?_
    refine forgetMap_within (Sub.trans (by decide) hM) ?_
    exact h_s
  refine Within.ite ?_ ?_
  · refine raRelease_within (Sub.trans (by decide) hM) ?_
    exact h_s
  · refine Within.ite ?_ ?_
    · refine raRelease_within (Sub.trans (by decide) hM) ?_
      exact h_s
    · split
      · exact h_s
      · refine raise_within (Sub.trans (by decide) hM) ?_
        refine Within.ra_ (Sub.bit hM (by decide)) ?_
        exact hs_1

theorem execMapAccept_within {A : Nat} {u : State} {s : State} (hM : Sub 0x4C00000000000001800C A) (h_s : Within A u s) :
    OutWithin A u (execMapAccept s) := by
  unfold execMapAccept
  split
  · refine OutWithin.ok ?_
    exact h_s
  · split
    · refine OutWithin.ok ?_
      refine raiseOnce_within (Sub.trans (by decide) hM) ?_
      exact h_s
    · refine OutWithin.whenOk ?_ ?_
      · exact h_s
      · refine raAccept_within (Sub.trans (by decide) hM) ?_
        exact h_s

theorem putBlocks_within {A : Nat} {u : State} {p a1 : Nat} {a2 : List Nat} {a3 : State} (hM : Sub 0x20A00000002000000800180C A) (h_a3 :
    Within A u a3) :
    Within A u (putBlocks p a1 a2 a3).2 := by
  induction a1 generalizing p a2 a3 with
  | zero => exact h_a3
  | succ n ih =>
    unfold putBlocks
    extract_lets x
    have h : Within A u x.2 := hbmSave_within (Sub.trans (by decide) hM) h_a3
    exact Within.ite1 (ih h) h

theorem recordWritten_within {A : Nat} {u : State} {r : RaRec} {q : List RaRec} {s : State} (hM : Sub 0x5000000000000001000C A) (h_s :
    Within A u s) :
    Within A u (recordWritten r q s) := by
  unfold recordWritten
  extract_lets -merge -useContext +onlyGivenNames w_0 s_1 s_2 s_3
  have hs_1 : Within A u s_1 := by
    refine Within.ra_ (Sub.bit hM (by decide)) ?_
    exact h_s
  have hs_2 : Within A u s_2 := by
    refine set_within _ (inMask (RA_RING_PTR_WR_win) (Sub.bit hM (by decide))) ?_
    exact hs_1
  have hs_3 : Within A u s_3 := by
    refine set_within _ (inMask (RA_DOM_LAST_COST_win _) (Sub.bit hM (by decide))) ?_
    refine set_within _ (inMask (RA_DOM_LAST_MAPERR_win _) (Sub.bit hM (by decide))) ?_
    refine set_within _ (inMask (RA_DOM_LAST_NP_win _) (Sub.bit hM (by decide))) ?_
    refine set_within _ (inMask (RA_DOM_LAST_OUTCOME_win _) (Sub.bit hM (by decide))) ?_
    exact hs_2
  refine raTellFull_within (Sub.trans (by decide) hM) ?_
  refine raise_within (Sub.trans (by decide) hM) ?_
  exact hs_3

theorem execRaRingWrite_within {A : Nat} {u : State} {st : Status} {s : State} (hM : Sub 0x20A05800002000000801180C A) (h_s : Within A u
    s) :
    OutWithin A u (execRaRingWrite st s) := by
  unfold execRaRingWrite
  split
  · refine OutWithin.ok ?_
    exact h_s
  · refine OutWithin.whenOk ?_ ?_
    · exact h_s
    · extract_lets -merge -useContext +onlyGivenNames x_0 st_1
      have hx_0 : Within A u x_0.2 := by
        refine putBlocks_within (Sub.trans (by decide) hM) ?_
        exact h_s
      refine Within.ite ?_ ?_
      · refine recordWritten_within (Sub.trans (by decide) hM) ?_
        exact hx_0
      · refine raise_within (Sub.trans (by decide) hM) ?_
        refine set_within _ (inMask (RA_STAT_RERR_win) (Sub.bit hM (by decide))) ?_
        refine set_within _ (inMask (RA_STAT_RING_ERR_win) (Sub.bit hM (by decide))) ?_
        refine Within.ite ?_ ?_
        · exact h_s
        · exact hx_0

theorem raCancel_within {A : Nat} {u : State} {d : Nat} {s : State} (hM : Sub 0x4C00000000000001800C A) (h_s : Within A u s) :
    Within A u (raCancel d s) := by
  unfold raCancel
  refine Within.ite ?_ ?_
  · refine set_within _ (inMask (RA_DOM_STATE_win _) (Sub.bit hM (by decide))) ?_
    exact h_s
  · refine Within.ite ?_ ?_
    · extract_lets -merge -useContext +onlyGivenNames k_0 w_1
      refine raAbort_within (Sub.trans (by decide) hM) ?_
      exact h_s
    · refine Within.ite ?_ ?_
      · split
        · refine raAbort_within (Sub.trans (by decide) hM) ?_
          exact h_s
        · refine set_within _ (inMask (RA_DOM_STATE_win _) (Sub.bit hM (by decide))) ?_
          exact h_s
      · exact h_s

theorem wrRaDom_within {A : Nat} {u : State} {a : Agent} {d v : Nat} {s : State} (hM : Sub 0x4C00000000000001800C A) (h_s : Within A u s) :
    Within A u (wrRaDom a d v s).2 := by
  unfold wrRaDom
  extract_lets -merge -useContext +onlyGivenNames arm_0 can_1
  refine Within.ite1 ?_ ?_
  · refine Within.snd1 ?_
    exact h_s
  · refine Within.ite1 ?_ ?_
    · refine Within.snd1 ?_
      exact h_s
    · refine Within.ite1 ?_ ?_
      · refine Within.ite1 ?_ ?_
        · refine Within.snd1 ?_
          refine becomeArmed_within (Sub.trans (by decide) hM) ?_
          exact h_s
        · refine Within.snd1 ?_
          exact h_s
      · refine Within.ite1 ?_ ?_
        · refine Within.snd1 ?_
          refine raCancel_within (Sub.trans (by decide) hM) ?_
          exact h_s
        · refine Within.snd1 ?_
          exact h_s

theorem wrRaRingPtr_within {A : Nat} {u : State} {a : Agent} {v : Nat} {s : State} (hM : Sub 0x10000000000000000000 A) (h_s : Within A u
    s) :
    Within A u (wrRaRingPtr a v s).2 := by
  unfold wrRaRingPtr
  refine Within.ite1 ?_ ?_
  · refine Within.snd1 ?_
    exact h_s
  · refine Within.ite1 ?_ ?_
    · refine Within.snd1 ?_
      exact h_s
    · refine Within.snd1 ?_
      refine writeFlds_within (Sub.trans (by decide) hM) (inMasks (RA_RING_PTR_fields_win) (Sub.bit hM (by decide))) ?_
      exact h_s

theorem execRaRingResume_within {A : Nat} {u : State} {a : Agent} {s : State} (hM : Sub 0x8000000000000000001 A) (h_s : Within A u s) :
    OutWithin A u (execRaRingResume a s) := by
  unfold execRaRingResume
  refine OutWithin.ok ?_
  refine answered_within (Sub.trans (by decide) hM) ?_
  refine atIngress_within (Sub.trans (by decide) hM) ?_ ?_
  · intro y0 hy1
    refine wrRaPlain_within (Sub.trans (by decide) hM) (inMasks (RA_STAT_fields_win) (Sub.bit hM (by decide))) ?_
    exact hy1
  · exact h_s

theorem execListReadEnd_within {A : Nat} {u : State} {u_ : Fin 16} {s : State} (hM : Sub 0x4000000000000018000 A) (h_s : Within A u s) :
    OutWithin A u (execListReadEnd u_ s) := by
  unfold execListReadEnd
  split
  · refine OutWithin.ok ?_
    exact h_s
  · refine OutWithin.whenOk ?_ ?_
    · exact h_s
    · extract_lets -merge -useContext +onlyGivenNames cells_0 l_1 r_2 y_3 w_4
      refine clearMap_within (Sub.trans (by decide) hM) ?_
      refine Within.ra_ (Sub.bit hM (by decide)) ?_
      exact h_s

theorem raReset72_within {A : Nat} {u : State} {s : State} (hM : Sub 0x78000000000000010000 A) (h_s : Within A u s) :
    Within A u (raReset72 s) := by
  unfold raReset72
  extract_lets -merge -useContext +onlyGivenNames w_0 w_1
  have hw_0 : Within A u w_0 := by
    refine resetRegs_within _ _ 13203803209728 13204876951551 75 4 0x78000000000000000000 (by decide) (by decide) (by decide) (Sub.trans (by decide) hM) (by omega) (by omega) ?_
    exact h_s
  refine Within.ra_ (Sub.bit hM (by decide)) ?_
  exact hw_0

theorem wrRaDesc_within {A : Nat} {u : State} {l : List (Acc × Fld)} {a : Agent} {d v : Nat} {s : State} (hM : Sub 0x0 A) (h_l : ∀ p ∈ l,
    InMask A p.2) (h_s : Within A u s) :
    Within A u (wrRaDesc l a d v s).2 := by
  unfold wrRaDesc
  refine Within.ite1 ?_ ?_
  · refine Within.snd1 ?_
    exact h_s
  · refine Within.ite1 ?_ ?_
    · refine Within.snd1 ?_
      exact h_s
    · refine Within.snd1 ?_
      refine writeFlds_within (Sub.trans (by decide) hM) h_l ?_
      exact h_s

theorem execRaCancel_within {A : Nat} {u : State} {a : Agent} {d : Fin 4096} {s : State} (hM : Sub 0x4C00000000000001800D A) (h_s :
    Within A u s) :
    OutWithin A u (execRaCancel a d s) := by
  unfold execRaCancel
  refine OutWithin.ok ?_
  refine answered_within (Sub.trans (by decide) hM) ?_
  refine atIngress_within (Sub.trans (by decide) hM) ?_ ?_
  · intro y0 hy1
    refine wrRaDom_within (Sub.trans (by decide) hM) ?_
    exact hy1
  · exact h_s

theorem wrRaRingCfg_within {A : Nat} {u : State} {a : Agent} {v : Nat} {s : State} (hM : Sub 0x10000000000000000000 A) (h_s : Within A u
    s) :
    Within A u (wrRaRingCfg a v s).2 := by
  unfold wrRaRingCfg
  extract_lets -merge -useContext +onlyGivenNames n_0
  refine Within.ite1 ?_ ?_
  · refine Within.snd1 ?_
    exact h_s
  · refine Within.ite1 ?_ ?_
    · refine Within.snd1 ?_
      exact h_s
    · refine Within.snd1 ?_
      refine set_within _ (inMask (RA_RING_PTR_WR_win) (Sub.bit hM (by decide))) ?_
      refine set_within _ (inMask (RA_RING_PTR_RD_win) (Sub.bit hM (by decide))) ?_
      refine writeFlds_within (Sub.trans (by decide) hM) (inMasks (RA_RING_CFG_fields_win) (Sub.bit hM (by decide))) ?_
      exact h_s

theorem execRaArm_within {A : Nat} {u : State} {a : Agent} {d : Fin 4096} {s : State} (hM : Sub 0x4C00000000000001800D A) (h_s : Within A
    u s) :
    OutWithin A u (execRaArm a d s) := by
  unfold execRaArm
  refine OutWithin.ok ?_
  refine answered_within (Sub.trans (by decide) hM) ?_
  refine atIngress_within (Sub.trans (by decide) hM) ?_ ?_
  · intro y0 hy1
    refine wrRaDom_within (Sub.trans (by decide) hM) ?_
    exact hy1
  · exact h_s

end Sys2Proof.Machine
end

