-- ==== Sys2Proof/Laws/WithinScCore.lean ====
section
/-! SUPPORT. What each operation of Machine/ScCore.lean can reach (see Laws/Within.lean). -/
set_option Elab.async false
namespace Sys2Proof.Machine

theorem setScMemory_within {A : Nat} {u : State} {x : ScMemory} {s : State} (hM : Sub 0x20000 A) (h_s : Within A u s) :
    Within A u (setScMemory x s) := by
  unfold setScMemory
  refine Within.sc_ (Sub.bit hM (by decide)) ?_
  exact h_s

theorem scStore_within {A : Nat} {u : State} {c m w v : Nat} {s : State} (hM : Sub 0x20000 A) (h_s : Within A u s) :
    Within A u (scStore c m w v s) := by
  unfold scStore
  extract_lets -merge -useContext +onlyGivenNames x_0 v_1
  refine setScMemory_within (Sub.trans (by decide) hM) ?_
  exact h_s

theorem scUndefined_within {A : Nat} {u : State} {c : Nat} {s : State} (hM : Sub 0x20000 A) (h_s : Within A u s) :
    Within A u (scUndefined c s) := by
  unfold scUndefined
  extract_lets -merge -useContext +onlyGivenNames n_0 w_1
  refine forNat_within ?_ _ ?_
  · intro y2 y3 hy4
    beta_reduce
    refine setScMemory_within (Sub.trans (by decide) hM) ?_
    exact hy4
  · refine Within.sc_ (Sub.bit hM (by decide)) ?_
    exact h_s

/-- What an instruction of a signal core gives lies within reach. -/
def StepWithin (A : Nat) (u : State) : ScStep → Prop
  | .fault _ => True
  | .wait _ t => Within A u t
  | .done t _ _ => Within A u t

theorem StepWithin.fault {A : Nat} {u : State} {c : Nat} : StepWithin A u (.fault c) := trivial

theorem StepWithin.wait {A : Nat} {u t : State} {w : Nat} (h : Within A u t) : StepWithin A u (.wait w t) := h

theorem StepWithin.done {A : Nat} {u t : State} {c : Option ScDelay} {k : Option Nat} (h : Within A u t) : StepWithin A u (.done t c k) := h

theorem StepWithin.getWait {A : Nat} {u t : State} {w : Nat} {x : ScStep} (e : x = .wait w t) (h : StepWithin A u x) : Within A u t := by
  rw [e] at h
  exact h

theorem StepWithin.getDone {A : Nat} {u t : State} {c : Option ScDelay} {k : Option Nat} {x : ScStep} (e : x = .done t c k)
    (h : StepWithin A u x) : Within A u t := by
  rw [e] at h
  exact h

theorem StepWithin.ite {A : Nat} {u : State} {x y : ScStep} {c : Prop} [Decidable c] (h : StepWithin A u x) (g : StepWithin A u y) :
    StepWithin A u (if c then x else y) := by
  split <;> assumption

theorem stepEnds_within {A : Nat} {u : State} {c : Nat} {s : State} (hM : Sub 0x4000000000000000000000000000000 A) (h_s : Within A u s) :
    Within A u (stepEnds c s) := by
  unfold stepEnds
  refine State.setIf_within (Sub.trans (by decide) hM) (inMask (DBG_RUN_STEPPING_win _) (Sub.bit hM (by decide))) ?_
  exact h_s

theorem setScCore_within {A : Nat} {u : State} {x : ScCore} {s : State} (hM : Sub 0x20000 A) (h_s : Within A u s) :
    Within A u (setScCore x s) := by
  unfold setScCore
  refine Within.sc_ (Sub.bit hM (by decide)) ?_
  exact h_s

theorem modSc_within {A : Nat} {u : State} {c : Nat} {f : ScCore → ScCore} {s : State} (hM : Sub 0x20000 A) (h_s : Within A u s) :
    Within A u (modSc c f s) := by
  unfold modSc
  refine setScCore_within (Sub.trans (by decide) hM) ?_
  exact h_s

theorem modSet_within {A : Nat} {u : State} {c : Nat} {f : ScSet → ScSet} {s : State} (hM : Sub 0x20000 A) (h_s : Within A u s) :
    Within A u (modSet c f s) := by
  unfold modSet
  refine Within.ite ?_ ?_
  · refine modSc_within (Sub.trans (by decide) hM) ?_
    exact h_s
  · refine modSc_within (Sub.trans (by decide) hM) ?_
    exact h_s

theorem scDone_within {A : Nat} {u : State} {s : State} (_ : Sub 0x0 A) (h_s : Within A u s) :
    StepWithin A u (scDone s) := by
  unfold scDone
  refine StepWithin.done ?_
  exact h_s

theorem scStop_within {A : Nat} {u : State} {c : Nat} {s : State} (hM : Sub 0x10000000000000002000C A) (h_s : Within A u s) :
    Within A u (scStop c s) := by
  unfold scStop
  extract_lets -merge -useContext +onlyGivenNames s_0
  have hs_0 : Within A u s_0 := by
    refine modSc_within (Sub.trans (by decide) hM) ?_
    refine modSet_within (Sub.trans (by decide) hM) ?_
    exact h_s
  refine raise_within (Sub.trans (by decide) hM) ?_
  refine set_within _ (inMask (SC_STAT_STATE_win _) (Sub.bit hM (by decide))) ?_
  exact hs_0

theorem scFault_within {A : Nat} {u : State} {c cause : Nat} {s : State} (hM : Sub 0x10000000000000802000C A) (h_s : Within A u s) :
    Within A u (scFault c cause s) := by
  unfold scFault
  extract_lets -merge -useContext +onlyGivenNames s_0 s_1
  have hs_0 : Within A u s_0 := by
    refine modSet_within (Sub.trans (by decide) hM) ?_
    exact h_s
  have hs_1 : Within A u s_1 := by
    refine Within.ite ?_ ?_
    · refine noteSign_within (Sub.trans (by decide) hM) ?_
      exact hs_0
    · exact hs_0
  refine raise_within (Sub.trans (by decide) hM) ?_
  refine set_within _ (inMask (SC_STAT_CAUSE_win _) (Sub.bit hM (by decide))) ?_
  refine set_within _ (inMask (SC_STAT_STATE_win _) (Sub.bit hM (by decide))) ?_
  exact hs_1

theorem scHalt_within {A : Nat} {u : State} {c : Nat} {s : State} (hM : Sub 0x400000000010000000000000002000C A) (h_s : Within A u s) :
    Within A u (scHalt c s) := by
  unfold scHalt
  extract_lets -merge -useContext +onlyGivenNames again_0 s_1 s_2
  have hs_1 : Within A u s_1 := by
    refine State.setIf_within (Sub.trans (by decide) hM) (inMask (SC_STAT_STATE_win _) (Sub.bit hM (by decide))) ?_
    exact h_s
  have hs_2 : Within A u s_2 := by
    refine modSc_within (Sub.trans (by decide) hM) ?_
    exact hs_1
  refine raise_within (Sub.trans (by decide) hM) ?_
  refine set_within _ (inMask (DBG_RUN_HALTED_win _) (Sub.bit hM (by decide))) ?_
  exact hs_2

theorem haltDue_within {A : Nat} {u : State} {c : Nat} {s : State} (hM : Sub 0x400000000010000000000000002000C A) (h_s : Within A u s) :
    Within A u (haltDue c s) := by
  unfold haltDue
  refine Within.ite ?_ ?_
  · refine scHalt_within (Sub.trans (by decide) hM) ?_
    exact h_s
  · exact h_s

theorem scSequential_within {A : Nat} {u : State} {c pc : Nat} {s : State} (hM : Sub 0x100000000000000020000 A) (h_s : Within A u s) :
    Within A u (scSequential c pc s) := by
  unfold scSequential
  extract_lets -merge -useContext +onlyGivenNames r_0
  refine set_within _ (inMask (SC_STAT_PC_win _) (Sub.bit hM (by decide))) ?_
  refine modSet_within (Sub.trans (by decide) hM) ?_
  exact h_s

theorem scGoto_within {A : Nat} {u : State} {c a : Nat} {s : State} (hM : Sub 0x100000000000000020000 A) (h_s : Within A u s) :
    Within A u (scGoto c a s) := by
  unfold scGoto
  refine set_within _ (inMask (SC_STAT_PC_win _) (Sub.bit hM (by decide))) ?_
  refine modSet_within (Sub.trans (by decide) hM) ?_
  exact h_s

theorem scAdvance_within {A : Nat} {u : State} {c pc : Nat} {ctl : Option ScDelay} {skip : Option Nat} {s : State} (hM : Sub
    0x100000000000000020000 A) (h_s : Within A u s) :
    Within A u (scAdvance c pc ctl skip s) := by
  unfold scAdvance
  split
  · refine Within.ite ?_ ?_
    · refine scSequential_within (Sub.trans (by decide) hM) ?_
      refine modSc_within (Sub.trans (by decide) hM) ?_
      exact h_s
    · extract_lets -merge -useContext +onlyGivenNames s_0 s_1
      have hs_0 : Within A u s_0 := by
        refine modSc_within (Sub.trans (by decide) hM) ?_
        exact h_s
      have hs_1 : Within A u s_1 := by
        refine modSet_within (Sub.trans (by decide) hM) ?_
        exact hs_0
      refine Within.ite ?_ ?_
      · refine set_within _ (inMask (SC_STAT_PC_win _) (Sub.bit hM (by decide))) ?_
        refine modSc_within (Sub.trans (by decide) hM) ?_
        refine set_within _ (inMask (SC_STAT_SHADOW_win _) (Sub.bit hM (by decide))) ?_
        exact hs_1
      · split
        · refine scGoto_within (Sub.trans (by decide) hM) ?_
          exact hs_0
        · refine scSequential_within (Sub.trans (by decide) hM) ?_
          exact hs_0
  · split
    · refine scGoto_within (Sub.trans (by decide) hM) ?_
      exact h_s
    · refine scSequential_within (Sub.trans (by decide) hM) ?_
      refine modSc_within (Sub.trans (by decide) hM) ?_
      exact h_s

theorem scExec_within {A : Nat} {u : State} {c opc : Nat} {body : Nat → ScSet → State → ScStep} {s : State} (hM : Sub
    0x400000000010000000000000802000C A) (h_body : ∀ y0 y1 y2, Within A u y2 → StepWithin A u (body y0 y1 y2)) (h_s : Within A u s) :
    Within A u (scExec c opc body s) := by
  unfold scExec
  extract_lets -merge -useContext +onlyGivenNames pc_0 w_1
  refine Within.ite ?_ ?_
  · exact h_s
  · refine Within.ite ?_ ?_
    · refine stepEnds_within (Sub.trans (by decide) hM) ?_
      refine scFault_within (Sub.trans (by decide) hM) ?_
      exact h_s
    · refine Within.ite ?_ ?_
      · refine stepEnds_within (Sub.trans (by decide) hM) ?_
        refine scFault_within (Sub.trans (by decide) hM) ?_
        exact h_s
      · refine Within.ite ?_ ?_
        · exact h_s
        · refine Within.ite ?_ ?_
          · refine stepEnds_within (Sub.trans (by decide) hM) ?_
            refine scFault_within (Sub.trans (by decide) hM) ?_
            exact h_s
          · split
            · refine haltDue_within (Sub.trans (by decide) hM) ?_
              refine stepEnds_within (Sub.trans (by decide) hM) ?_
              refine scFault_within (Sub.trans (by decide) hM) ?_
              exact h_s
            · extract_lets -merge -useContext +onlyGivenNames t_2
              have ht_2 : Within A u t_2 := by
                refine modSet_within (Sub.trans (by decide) hM) ?_
                first | refine StepWithin.getDone (by assumption) ?_ | refine StepWithin.getWait (by assumption) ?_
                apply h_body
                refine modSet_within (Sub.trans (by decide) hM) ?_
                exact h_s
              refine haltDue_within (Sub.trans (by decide) hM) ?_
              refine stepEnds_within (Sub.trans (by decide) hM) ?_
              refine modSc_within (Sub.trans (by decide) hM) ?_
              refine set_within _ (inMask (SC_STAT_STATE_win _) (Sub.bit hM (by decide))) ?_
              exact ht_2
            · extract_lets -merge -useContext +onlyGivenNames t_3
              have ht_3 : Within A u t_3 := by
                refine modSc_within (Sub.trans (by decide) hM) ?_
                first | refine StepWithin.getDone (by assumption) ?_ | refine StepWithin.getWait (by assumption) ?_
                apply h_body
                refine modSet_within (Sub.trans (by decide) hM) ?_
                exact h_s
              refine haltDue_within (Sub.trans (by decide) hM) ?_
              refine stepEnds_within (Sub.trans (by decide) hM) ?_
              refine Within.ite ?_ ?_
              · refine scAdvance_within (Sub.trans (by decide) hM) ?_
                exact ht_3
              · exact ht_3

end Sys2Proof.Machine
end

