-- ==== Sys2Proof/Laws/WithinRunCtl.lean ====
section
/-! SUPPORT. What each operation of Machine/RunCtl.lean can reach (see Laws/Within.lean). -/
set_option Elab.async false
namespace Sys2Proof.Machine

theorem coreRan_within {A : Nat} {u : State} {c : Nat} {s : State} (hM : Sub 0x20000000000000000000000004000000 A) (h_s : Within A u s) :
    Within A u (coreRan c s) := by
  unfold coreRan
  extract_lets -merge -useContext +onlyGivenNames n_0 s_1 w_2
  have hs_1 : Within A u s_1 := by
    refine forNat_within ?_ _ ?_
    · intro y3 y4 hy5
      beta_reduce
      refine set_within _ (inMask (DBG_CREG_VALUE_win _ _) (Sub.bit hM (by decide))) ?_
      exact hy5
    · exact h_s
  refine Within.dbg_ (Sub.bit hM (by decide)) ?_
  exact hs_1

theorem haltControl_within {A : Nat} {u : State} {c : Nat} {s : State} (hM : Sub 0x2400020000000000000000000400000C A) (h_s : Within A u
    s) :
    Within A u (haltControl c s) := by
  unfold haltControl
  extract_lets -merge -useContext +onlyGivenNames s_0
  have hs_0 : Within A u s_0 := by
    refine set_within _ (inMask (DBG_RUN_HALTED_win _) (Sub.bit hM (by decide))) ?_
    refine set_within _ (inMask (CORE_STAT_STATE_win _) (Sub.bit hM (by decide))) ?_
    refine coreRan_within (Sub.trans (by decide) hM) ?_
    exact h_s
  refine raise_within (Sub.trans (by decide) hM) ?_
  exact hs_0

theorem coreStart_within {A : Nat} {u : State} {c : Nat} {s : State} (hM : Sub 0x2400020000000000000000000400000C A) (h_s : Within A u s) :
    Within A u (coreStart c s) := by
  unfold coreStart
  extract_lets -merge -useContext +onlyGivenNames s_0
  have hs_0 : Within A u s_0 := by
    refine set_within _ (inMask (DBG_RUN_HALTED_win _) (Sub.bit hM (by decide))) ?_
    refine set_within _ (inMask (CORE_STAT_STATE_win _) (Sub.bit hM (by decide))) ?_
    exact h_s
  refine Within.ite ?_ ?_
  · refine haltControl_within (Sub.trans (by decide) hM) ?_
    exact hs_0
  · exact hs_0

theorem haltCore_within {A : Nat} {u : State} {k : Nat} {s : State} (hM : Sub 0x2400020000010000000000000402000C A) (h_s : Within A u s) :
    Within A u (haltCore k s).2 := by
  unfold haltCore
  refine Within.ite1 ?_ ?_
  · refine Within.snd1 ?_
    exact h_s
  · refine Within.ite1 ?_ ?_
    · refine Within.snd1 ?_
      exact h_s
    · refine Within.ite1 ?_ ?_
      · refine Within.snd1 ?_
        refine haltControl_within (Sub.trans (by decide) hM) ?_
        exact h_s
      · refine Within.snd1 ?_
        refine haltDue_within (Sub.trans (by decide) hM) ?_
        refine modSc_within (Sub.trans (by decide) hM) ?_
        exact h_s

theorem dbgForget_within {A : Nat} {u : State} {s : State} (hM : Sub 0x1000000 A) (h_s : Within A u s) :
    Within A u (dbgForget s) := by
  unfold dbgForget
  refine Within.sec_ (Sub.bit hM (by decide)) ?_
  exact h_s

theorem resumeCore_within {A : Nat} {u : State} {k : Nat} {s : State} (hM : Sub 0x400020000000000000000000000000C A) (h_s : Within A u s) :
    Within A u (resumeCore k s) := by
  unfold resumeCore
  refine Within.ite ?_ ?_
  · exact h_s
  · extract_lets -merge -useContext +onlyGivenNames s_0 s_1
    have hs_0 : Within A u s_0 := by
      refine set_within _ (inMask (DBG_RUN_STEPPING_win _) (Sub.bit hM (by decide))) ?_
      refine set_within _ (inMask (DBG_RUN_HALTED_win _) (Sub.bit hM (by decide))) ?_
      exact h_s
    have hs_1 : Within A u s_1 := by
      refine Within.ite ?_ ?_
      · refine State.setIf_within (Sub.trans (by decide) hM) (inMask (CORE_STAT_WD_LEFT_win _) (Sub.bit hM (by decide))) ?_
        refine set_within _ (inMask (CORE_STAT_STATE_win _) (Sub.bit hM (by decide))) ?_
        exact hs_0
      · exact hs_0
    refine raise_within (Sub.trans (by decide) hM) ?_
    exact hs_1

theorem dbgEnd_within {A : Nat} {u : State} {cause : Nat} {s : State} (hM : Sub 0x600020000000000000000000102000C A) (h_s : Within A u s) :
    Within A u (dbgEnd cause s) := by
  unfold dbgEnd
  refine Within.ite ?_ ?_
  · refine dbgForget_within (Sub.trans (by decide) hM) ?_
    exact h_s
  · extract_lets -merge -useContext +onlyGivenNames s_0 s_1
    have hs_0 : Within A u s_0 := by
      refine forNat_within ?_ _ ?_
      · intro y2 y3 hy4
        beta_reduce
        refine modSc_within (Sub.trans (by decide) hM) ?_
        exact hy4
      · exact h_s
    have hs_1 : Within A u s_1 := by
      refine forNat_within ?_ _ ?_
      · intro y5 y6 hy7
        refine resumeCore_within (Sub.trans (by decide) hM) ?_
        exact hy7
      · refine set_within _ (inMask (DBG_CTL_SIDE_win) (Sub.bit hM (by decide))) ?_
        refine set_within _ (inMask (DBG_AUTH_CTL_ROLE_win) (Sub.bit hM (by decide))) ?_
        exact hs_0
    refine raise_within (Sub.trans (by decide) hM) ?_
    refine dbgForget_within (Sub.trans (by decide) hM) ?_
    refine set_within _ (inMask (DBG_CTL_BREAKLEASE_win) (Sub.bit hM (by decide))) ?_
    exact hs_1

theorem haltCleared_within {A : Nat} {u : State} {k : Nat} {s : State} (hM : Sub 0x4000000000000000000000000020000 A) (h_s : Within A u s) :
    Within A u (haltCleared k s) := by
  unfold haltCleared
  extract_lets -merge -useContext +onlyGivenNames s_0
  have hs_0 : Within A u s_0 := by
    refine set_within _ (inMask (DBG_RUN_STEPPING_win _) (Sub.bit hM (by decide))) ?_
    refine set_within _ (inMask (DBG_RUN_HALTED_win _) (Sub.bit hM (by decide))) ?_
    exact h_s
  refine Within.ite ?_ ?_
  · refine modSc_within (Sub.trans (by decide) hM) ?_
    exact hs_0
  · exact hs_0

theorem stepCore_within {A : Nat} {u : State} {k : Nat} {s : State} (hM : Sub 0x24000000000000000000000004000000 A) (h_s : Within A u s) :
    Within A u (stepCore k s) := by
  unfold stepCore
  refine Within.ite ?_ ?_
  · exact h_s
  · refine Within.ite ?_ ?_
    · refine coreRan_within (Sub.trans (by decide) hM) ?_
      exact h_s
    · refine State.setIf_within (Sub.trans (by decide) hM) (inMask (DBG_RUN_STEPPING_win _) (Sub.bit hM (by decide))) ?_
      exact h_s

end Sys2Proof.Machine
end

