-- ==== Sys2Proof/Laws/WithinSecurity.lean ====
section
/-! SUPPORT. What each operation of Machine/Security.lean can reach (see Laws/Within.lean). -/
set_option Elab.async false
namespace Sys2Proof.Machine

theorem lockRole_within {A : Nat} {u : State} {r secs : Nat} {s : State} (hM : Sub 0x100000C A) (h_s : Within A u s) :
    Within A u (lockRole r secs s) := by
  unfold lockRole
  refine raise_within (Sub.trans (by decide) hM) ?_
  refine Within.sec_ (Sub.bit hM (by decide)) ?_
  exact h_s

theorem refuseSignIn_within {A : Nat} {u : State} {k : Nat} {r : Role} {cause : Nat} {s : State} (hM : Sub
    0x200000000000000000000000100000C A) (h_s : Within A u s) :
    Within A u (refuseSignIn k r cause s).2 := by
  unfold refuseSignIn
  extract_lets -merge -useContext +onlyGivenNames n_0 w_1 s_2 s_3 s_4 c_5 w_6 s_7
  have hs_2 : Within A u s_2 := by
    refine Within.sec_ (Sub.bit hM (by decide)) ?_
    exact h_s
  have hs_3 : Within A u s_3 := by
    refine Within.ite ?_ ?_
    · refine set_within _ (inMask (DBG_AUTH_CTL_CAUSE_win) (Sub.bit hM (by decide))) ?_
      exact hs_2
    · exact hs_2
  have hs_4 : Within A u s_4 := by
    refine raise_within (Sub.trans (by decide) hM) ?_
    exact hs_3
  have hs_7 : Within A u s_7 := by
    refine Within.sec_ (Sub.bit hM (by decide)) ?_
    exact hs_4
  refine Within.ite1 ?_ ?_
  · refine Within.snd1 ?_
    exact hs_4
  · refine Within.ite1 ?_ ?_
    · refine Within.snd1 ?_
      refine lockRole_within (Sub.trans (by decide) hM) ?_
      exact hs_4
    · refine Within.snd1 ?_
      refine Within.ite ?_ ?_
      · refine lockRole_within (Sub.trans (by decide) hM) ?_
        exact hs_7
      · exact hs_7

theorem objIM_within {A : Nat} {u : State} {a : Agent} {f : State → Status × State} {s : State} (_ : Sub 0x0 A) (h_f : ∀ y0, Within A u
    y0 → Within A u (f y0).2) (h_s : Within A u s) :
    Within A u (objIM a f s).2 := by
  unfold objIM
  refine Within.ite1 ?_ ?_
  · apply h_f
    exact h_s
  · refine Within.snd1 ?_
    exact h_s

theorem auditStore_within {A : Nat} {u : State} {seq : Nat} {e : List Byte} {s : State} (hM : Sub 0x400000 A) (h_s : Within A u s) :
    Within A u (auditStore seq e s) := by
  unfold auditStore
  refine Within.ite ?_ ?_
  · refine forNat_within ?_ _ ?_
    · intro y0 y1 hy2
      beta_reduce
      refine spStore_within (Sub.trans (by decide) hM) ?_
      exact hy2
    · exact h_s
  · exact h_s

theorem audJoin_within {A : Nat} {u : State} {body : List Byte} {s : State} (hM : Sub 0x200000000000000000000000400000 A) (h_s : Within A
    u s) :
    Within A u (audJoin body s) := by
  unfold audJoin
  extract_lets -merge -useContext +onlyGivenNames h_0 seq_1 s_2
  have hs_2 : Within A u s_2 := by
    refine auditStore_within (Sub.trans (by decide) hM) ?_
    exact h_s
  refine set_within _ (inMask (AUD_SEQ_SEQ_win) (Sub.bit hM (by decide))) ?_
  refine forNat_within ?_ _ ?_
  · intro y3 y4 hy5
    beta_reduce
    refine set_within _ (inMask (AUD_HEAD_BYTES_win _) (Sub.bit hM (by decide))) ?_
    exact hy5
  · exact hs_2

theorem audAppend_within {A : Nat} {u : State} {body : List Byte} {s : State} (hM : Sub 0x200000000000000000000001400000 A) (h_s : Within
    A u s) :
    Within A u (audAppend body s) := by
  unfold audAppend
  extract_lets -merge -useContext +onlyGivenNames w_0 s_1
  have hs_1 : Within A u s_1 := by
    unfold s_1
    split
    · refine audJoin_within (Sub.trans (by decide) hM) ?_
      refine Within.sec_ (Sub.bit hM (by decide)) ?_
      exact h_s
    · exact h_s
  refine audJoin_within (Sub.trans (by decide) hM) ?_
  exact hs_1

theorem auditWrite_within {A : Nat} {u : State} {role obj signer : Nat} {v : List Byte} {f : State → Status × State} {s : State} (hM :
    Sub 0x200000000000000000000001400000 A) (h_f : ∀ y0, Within A u y0 → Within A u (f y0).2) (h_s : Within A u s) :
    Within A u (auditWrite role obj signer v f s).2 := by
  unfold auditWrite
  refine Within.ite1 ?_ ?_
  · refine Within.snd1 ?_
    exact h_s
  · refine Within.ite1 ?_ ?_
    · refine Within.snd1 ?_
      exact h_s
    · extract_lets -merge -useContext +onlyGivenNames r_0
      have hr_0 : Within A u r_0.2 := by
        apply h_f
        exact h_s
      refine Within.snd1 ?_
      refine audAppend_within (Sub.trans (by decide) hM) ?_
      exact hr_0

theorem bank14Write_within {A : Nat} {u : State} {lo : Nat} {b : List Byte} {s : State} (hM : Sub 0x400000 A) (h_s : Within A u s) :
    Within A u (bank14Write lo b s) := by
  unfold bank14Write
  refine forNat_within ?_ _ ?_
  · intro y0 y1 hy2
    beta_reduce
    extract_lets -merge -useContext +onlyGivenNames p_3 w_4
    refine spStore_within (Sub.trans (by decide) hM) ?_
    exact hy2
  · exact h_s

theorem objStage_within {A : Nat} {u : State} {a : Agent} {b : List Byte} {s : State} (hM : Sub 0x200000000000000000000001400000 A) (h_s
    : Within A u s) :
    Within A u (objStage a b s).2 := by
  unfold objStage
  refine objIM_within (Sub.trans (by decide) hM) ?_ ?_
  · intro y0 hy1
    beta_reduce
    refine Within.ite1 ?_ ?_
    · refine Within.snd1 ?_
      exact hy1
    · refine auditWrite_within (Sub.trans (by decide) hM) ?_ ?_
      · intro y2 hy3
        beta_reduce
        refine Within.snd1 ?_
        refine bank14Write_within (Sub.trans (by decide) hM) ?_
        exact hy3
      · exact hy1
  · exact h_s

theorem wipeBanks_within {A : Nat} {u : State} {cause : Nat} {s : State} (hM : Sub 0x180060000040011C A) (h_s : Within A u s) :
    Within A u (wipeBanks cause s) := by
  unfold wipeBanks
  extract_lets -merge -useContext +onlyGivenNames l_0 s_1
  have hs_1 : Within A u s_1 := by
    refine Within.ite ?_ ?_
    · refine spPairLose_within (Sub.trans (by decide) hM) ?_
      refine set_within _ (inMask (PWR_DOM_CTL_TARGET_win _) (Sub.bit hM (by decide))) ?_
      refine forEach_within ?_ _ ?_
      · intro y2 y3 hy4
        refine sluEnd_within (Sub.trans (by decide) hM) ?_
        exact hy4
      · refine set_within _ (inMask (PWR_DOM_STAT_STATE_win _) (Sub.bit hM (by decide))) ?_
        exact h_s
    · exact h_s
  refine spWipe_within (Sub.trans (by decide) hM) ?_
  exact hs_1

theorem wrAudGo_within {A : Nat} {u : State} {a : Agent} {v : Nat} {s : State} (hM : Sub 0x200000000000000000000001400000 A) (h_s :
    Within A u s) :
    Within A u (wrAudGo a v s).2 := by
  unfold wrAudGo
  refine Within.ite1 ?_ ?_
  · refine Within.snd1 ?_
    exact h_s
  · refine Within.ite1 ?_ ?_
    · refine Within.snd1 ?_
      exact h_s
    · refine Within.ite1 ?_ ?_
      · refine Within.snd1 ?_
        exact h_s
      · refine Within.snd1 ?_
        refine audAppend_within (Sub.trans (by decide) hM) ?_
        exact h_s

theorem execAuditAppend_within {A : Nat} {u : State} {a : Agent} {s : State} (hM : Sub 0x200000000000000000000001400001 A) (h_s : Within
    A u s) :
    OutWithin A u (execAuditAppend a s) := by
  unfold execAuditAppend
  refine OutWithin.ok ?_
  refine answered_within (Sub.trans (by decide) hM) ?_
  refine wrAudGo_within (Sub.trans (by decide) hM) ?_
  exact h_s

theorem almAccept_within {A : Nat} {u : State} {o : AlmOp} {src : Nat} {s : State} (hM : Sub 0x100000000000000000000001000000 A) (h_s :
    Within A u s) :
    Within A u (almAccept o src s) := by
  unfold almAccept
  extract_lets -merge -useContext +onlyGivenNames s_0 w_1
  have hs_0 : Within A u s_0 := by
    refine set_within _ (inMask (ALM_CTL_SRC_win) (Sub.bit hM (by decide))) ?_
    refine set_within _ (inMask (ALM_CTL_TARGET_win) (Sub.bit hM (by decide))) ?_
    refine set_within _ (inMask (ALM_CTL_OP_win) (Sub.bit hM (by decide))) ?_
    refine set_within _ (inMask (ALM_STAT_BUSY_win) (Sub.bit hM (by decide))) ?_
    refine set_within _ (inMask (ALM_CTL_GO_win) (Sub.bit hM (by decide))) ?_
    exact h_s
  refine Within.sec_ (Sub.bit hM (by decide)) ?_
  exact hs_0

theorem secShow_within {A : Nat} {u : State} {s : State} (hM : Sub 0xC0000000000000000000000000000 A) (h_s : Within A u s) :
    Within A u (secShow s) := by
  unfold secShow
  refine set_within _ (inMask (SEC_TAMPER_FUSED_win) (Sub.bit hM (by decide))) ?_
  refine set_within _ (inMask (SEC_STAT_LEDGER_win) (Sub.bit hM (by decide))) ?_
  refine set_within _ (inMask (SEC_STAT_LC_K_win) (Sub.bit hM (by decide))) ?_
  refine set_within _ (inMask (SEC_STAT_STATE_win) (Sub.bit hM (by decide))) ?_
  refine set_within _ (inMask (SEC_STAT_USED_win) (Sub.bit hM (by decide))) ?_
  exact h_s

theorem lateAnswer_within {A : Nat} {u : State} {obj : Bool} {sess : Option Nat} {st : Status} {s : State} (hM : Sub 0x1000001 A) (h_s :
    Within A u s) :
    Within A u (lateAnswer obj sess st s) := by
  unfold lateAnswer
  extract_lets -merge -useContext +onlyGivenNames w_0 s_1
  have hs_1 : Within A u s_1 := by
    unfold s_1
    split
    · refine Within.sec_ (Sub.bit hM (by decide)) ?_
      exact h_s
    · exact h_s
  refine Within.ite ?_ ?_
  · refine answer_within (Sub.trans (by decide) hM) ?_
    exact hs_1
  · exact hs_1

theorem almEnd_within {A : Nat} {u : State} {purpose : Nat} {st : Status} {s : State} (hM : Sub 0x1C000000000000180060000100011D A) (h_s
    : Within A u s) :
    Within A u (almEnd purpose st s) := by
  unfold almEnd
  split
  · exact h_s
  · extract_lets -merge -useContext +onlyGivenNames s_0 s_1 w_2
    have hs_0 : Within A u s_0 := by
      unfold s_0
      split
      · refine sluEnd_within (Sub.trans (by decide) hM) ?_
        exact h_s
      · exact h_s
    have hs_1 : Within A u s_1 := by
      refine secShow_within (Sub.trans (by decide) hM) ?_
      refine set_within _ (inMask (ALM_STAT_RESULT_win) (Sub.bit hM (by decide))) ?_
      refine set_within _ (inMask (ALM_STAT_BUSY_win) (Sub.bit hM (by decide))) ?_
      refine set_within _ (inMask (ALM_CTL_GO_win) (Sub.bit hM (by decide))) ?_
      exact hs_0
    refine lateAnswer_within (Sub.trans (by decide) hM) ?_
    refine Within.sec_ (Sub.bit hM (by decide)) ?_
    exact hs_1

theorem execLifecycleProgrammed_within {A : Nat} {u : State} {s : State} (hM : Sub 0x3C000020000000180060000340111D A) (h_s : Within A u
    s) :
    OutWithin A u (execLifecycleProgrammed s) := by
  unfold execLifecycleProgrammed
  split
  · refine OutWithin.ok ?_
    exact h_s
  · refine OutWithin.ite ?_ ?_
    · refine OutWithin.ok ?_
      exact h_s
    · extract_lets -merge -useContext +onlyGivenNames old_0 scrap_1 w_2 s_3 s_4 new_5 s_6 s_7 w_8
      have hs_3 : Within A u s_3 := by
        refine Within.sec_ (Sub.bit hM (by decide)) h_s
          (hz := ⟨Nat.le_refl _, fun _ _ => rfl, Nat.le_refl _, fun _ _ => rfl, ?_, fun h => by simp [h]⟩)
        intro i hi
        dsimp only
        split
        · exact bit_putBit _ hi
        · exact bit_putBit _ hi
      have hs_4 : Within A u s_4 := by
        refine eraseKeys_within (Sub.trans (by decide) hM) ?_
        refine wipeBanks_within (Sub.trans (by decide) hM) ?_
        exact hs_3
      have hs_6 : Within A u s_6 := by
        refine audAppend_within (Sub.trans (by decide) hM) ?_
        exact hs_4
      have hs_7 : Within A u s_7 := by
        refine almEnd_within (Sub.trans (by decide) hM) ?_
        refine raise_within (Sub.trans (by decide) hM) ?_
        exact hs_6
      refine OutWithin.ok ?_
      refine Within.boot_ (Sub.bit hM (by decide)) ?_
      exact hs_7

theorem forgetSession_within {A : Nat} {u : State} {k : Nat} {s : State} (hM : Sub 0x1000000 A) (h_s : Within A u s) :
    Within A u (forgetSession k s) := by
  unfold forgetSession
  refine Within.sec_ (Sub.bit hM (by decide)) ?_
  exact h_s

theorem endSession_within {A : Nat} {u : State} {cause k : Nat} {s : State} (hM : Sub 0x100000000000000000000000100000C A) (h_s : Within
    A u s) :
    Within A u (endSession cause k s) := by
  unfold endSession
  refine Within.ite ?_ ?_
  · exact h_s
  · extract_lets -merge -useContext +onlyGivenNames addr_0 s_1
    have hs_1 : Within A u s_1 := by
      refine forgetSession_within (Sub.trans (by decide) hM) ?_
      refine set_within _ (inMask (FI_SESS_ROLE_win _) (Sub.bit hM (by decide))) ?_
      refine set_within _ (inMask (FI_SESS_ADDRESS_win _) (Sub.bit hM (by decide))) ?_
      refine set_within _ (inMask (FI_SESS_OPEN_win _) (Sub.bit hM (by decide))) ?_
      exact h_s
    refine raise_within (Sub.trans (by decide) hM) ?_
    exact hs_1

theorem attEnd_within {A : Nat} {u : State} {st : Status} {s : State} (hM : Sub 0x40000000000000000000000100000D A) (h_s : Within A u s) :
    Within A u (attEnd st s) := by
  unfold attEnd
  split
  · exact h_s
  · extract_lets -merge -useContext +onlyGivenNames s_0 w_1
    have hs_0 : Within A u s_0 := by
      refine set_within _ (inMask (ATT_CTL_RESULT_win) (Sub.bit hM (by decide))) ?_
      refine set_within _ (inMask (ATT_CTL_GO_win) (Sub.bit hM (by decide))) ?_
      exact h_s
    refine lateAnswer_within (Sub.trans (by decide) hM) ?_
    refine raise_within (Sub.trans (by decide) hM) ?_
    refine Within.sec_ (Sub.bit hM (by decide)) ?_
    exact hs_0

theorem editionEnd_within {A : Nat} {u : State} {good : Bool} {o : AlmOp} {s : State} (hM : Sub 0x3C000000000000180060000140011D A) (h_s
    : Within A u s) :
    Within A u (editionEnd good o s) := by
  unfold editionEnd
  extract_lets -merge -useContext +onlyGivenNames e_0 img_1 body_2 s_3 w_4 s_5 st_6
  have hs_3 : Within A u s_3 := by
    refine audJoin_within (Sub.trans (by decide) hM) ?_
    exact h_s
  have e : s_3.sec = s.sec := (audJoin_within (body := body_2) (s := s) (Sub.refl _) (Within.refl _ s)).sec (by decide)
  have hs_5 : Within A u s_5 := by
    clear_value s_3
    have ee : e_0 = s_3.sec.used := by rw [e]
    refine Within.sec_ (Sub.bit hM (by decide)) hs_3 ?_ (fun c => c) ⟨?_, ?_, Nat.le_refl _, fun _ _ => rfl, fun _ h => h, fun h => h⟩
    · intro c
      dsimp only
      split
      · exact canon_memWrite _ _ c
      · exact c
    · rw [← ee]
      exact Nat.le_succ _
    · intro a ha
      rw [← ee] at ha
      dsimp only
      split
      · exact memGet_memWrite_of_out _ _ (by omega)
      · rfl
  refine almEnd_within (Sub.trans (by decide) hM) ?_
  refine raise_within (Sub.trans (by decide) hM) ?_
  exact hs_5

theorem ledgerEnd_within {A : Nat} {u : State} {good : Bool} {o : AlmOp} {s : State} (hM : Sub 0x3C000000000000180060000140011D A) (h_s :
    Within A u s) :
    Within A u (ledgerEnd good o s) := by
  unfold ledgerEnd
  extract_lets -merge -useContext +onlyGivenNames k_0 b_1 b_2 st_3 w_4 s_5 s_6
  have hs_5 : Within A u s_5 := by
    refine Within.sec_ (Sub.bit hM (by decide)) h_s (fun c => c) ?_ ⟨Nat.le_refl _, fun _ _ => rfl, Nat.le_succ _, ?_, fun _ h => h, fun h => h⟩
    · intro c
      dsimp only
      split
      · exact canon_memWrite _ _ c
      · exact c
    · intro a ha
      dsimp only
      split
      · exact memGet_memWrite_of_out _ _ (by omega)
      · rfl
  have hs_6 : Within A u s_6 := by
    refine audAppend_within (Sub.trans (by decide) hM) ?_
    exact hs_5
  refine almEnd_within (Sub.trans (by decide) hM) ?_
  refine Within.ite ?_ ?_
  · refine raise_within (Sub.trans (by decide) hM) ?_
    exact hs_6
  · exact hs_6

theorem almCut_within {A : Nat} {u : State} {s : State} (hM : Sub 0x3C000000000000180060000140011D A) (h_s : Within A u s) :
    Within A u (almCut s) := by
  unfold almCut
  split
  · exact h_s
  · refine Within.ite ?_ ?_
    · exact h_s
    · refine Within.ite ?_ ?_
      · refine almEnd_within (Sub.trans (by decide) hM) ?_
        exact h_s
      · refine Within.ite ?_ ?_
        · refine editionEnd_within (Sub.trans (by decide) hM) ?_
          exact h_s
        · refine ledgerEnd_within (Sub.trans (by decide) hM) ?_
          exact h_s

theorem tamper_within {A : Nat} {u : State} {src : Nat} {s : State} (hM : Sub 0x77C020020000000180060000942111D A) (h_s : Within A u s) :
    Within A u (tamper src s) := by
  unfold tamper
  extract_lets -merge -useContext +onlyGivenNames s_0 s_1 s_2 s_3 w_4 s_5 s_6 w_7 s_8 s_9
  have hs_0 : Within A u s_0 := by
    refine set_within _ (inMask (SEC_TAMPER_SOURCE_win) (Sub.bit hM (by decide))) ?_
    exact h_s
  have hs_1 : Within A u s_1 := by
    refine eraseKeys_within (Sub.trans (by decide) hM) ?_
    refine wipeBanks_within (Sub.trans (by decide) hM) ?_
    exact hs_0
  have hs_2 : Within A u s_2 := by
    refine forNat_within ?_ _ ?_
    · intro y10 y11 hy12
      beta_reduce
      refine Within.ite ?_ ?_
      · refine endSession_within (Sub.trans (by decide) hM) ?_
        exact hy12
      · exact hy12
    · exact hs_1
  have hs_3 : Within A u s_3 := by
    refine Within.ite ?_ ?_
    · refine dbgEnd_within (Sub.trans (by decide) hM) ?_
      exact hs_2
    · exact hs_2
  have hs_5 : Within A u s_5 := by
    refine Within.leap_ (Sub.bit hM (by decide)) ?_
    exact hs_3
  have hs_6 : Within A u s_6 := by
    refine attEnd_within (Sub.trans (by decide) hM) ?_
    refine almCut_within (Sub.trans (by decide) hM) ?_
    exact hs_5
  have hs_8 : Within A u s_8 := by
    clear_value s_6
    refine Within.sec_ (Sub.bit hM (by decide)) ?_
    exact hs_6
  have hs_9 : Within A u s_9 := by
    refine audAppend_within (Sub.trans (by decide) hM) ?_
    refine set_within _ (inMask (SEC_TAMPER_FUSED_win) (Sub.bit hM (by decide))) ?_
    exact hs_8
  refine raise_within (Sub.trans (by decide) hM) ?_
  exact hs_9

theorem attStart_within {A : Nat} {u : State} {viaObj : Bool} {sess : Option Nat} {nonce : List Byte} {s : State} (hM : Sub
    0x400000000000000000000001000000 A) (h_s : Within A u s) :
    Within A u (attStart viaObj sess nonce s).2 := by
  unfold attStart
  refine Within.ite1 ?_ ?_
  · refine Within.snd1 ?_
    refine set_within _ (inMask (ATT_CTL_RESULT_win) (Sub.bit hM (by decide))) ?_
    exact h_s
  · refine Within.ite1 ?_ ?_
    · refine Within.snd1 ?_
      exact h_s
    · refine Within.ite1 ?_ ?_
      · refine Within.snd1 ?_
        exact h_s
      · refine Within.snd1 ?_
        extract_lets -merge -useContext +onlyGivenNames w_0 w_1
        have hw_0 : Within A u w_0 := by
          refine set_within _ (inMask (ATT_CTL_GO_win) (Sub.bit hM (by decide))) ?_
          exact h_s
        refine Within.sec_ (Sub.bit hM (by decide)) ?_
        exact hw_0

theorem wrAttCtl_within {A : Nat} {u : State} {a : Agent} {v : Nat} {s : State} (hM : Sub 0x400000000000000000000001000000 A) (h_s :
    Within A u s) :
    Within A u (wrAttCtl a v s).2 := by
  unfold wrAttCtl
  extract_lets -merge -useContext +onlyGivenNames d_0
  refine Within.ite1 ?_ ?_
  · refine Within.snd1 ?_
    exact h_s
  · refine Within.ite1 ?_ ?_
    · refine Within.snd1 ?_
      exact h_s
    · refine Within.ite1 ?_ ?_
      · refine Within.snd1 ?_
        refine set_within _ (inMask (ATT_CTL_DST_win) (Sub.bit hM (by decide))) ?_
        exact h_s
      · refine Within.ite1 ?_ ?_
        · refine Within.snd1 ?_
          exact h_s
        · split
          · refine Within.snd1 ?_
            exact h_s
          · extract_lets -merge -useContext +onlyGivenNames r_1
            have hr_1 : Within A u r_1.2 := by
              refine attStart_within (Sub.trans (by decide) hM) ?_
              exact h_s
            refine Within.snd1 ?_
            refine State.setIf_within (Sub.trans (by decide) hM) (inMask (ATT_CTL_DST_win) (Sub.bit hM (by decide))) ?_
            exact hr_1

theorem execAttestationRequest_within {A : Nat} {u : State} {a : Agent} {nonce : List Byte} {s : State} (hM : Sub
    0x400000000000000000000001400001 A) (h_s : Within A u s) :
    OutWithin A u (execAttestationRequest a nonce s) := by
  unfold execAttestationRequest
  refine OutWithin.ite ?_ ?_
  · extract_lets -merge -useContext +onlyGivenNames t_0
    have ht_0 : Within A u t_0 := by
      refine Within.ite ?_ ?_
      · refine bank14Write_within (Sub.trans (by decide) hM) ?_
        exact h_s
      · exact h_s
    refine OutWithin.ok ?_
    refine answered_within (Sub.trans (by decide) hM) ?_
    refine wrAttCtl_within (Sub.trans (by decide) hM) ?_
    exact ht_0
  · refine OutWithin.ite ?_ ?_
    · refine OutWithin.ok ?_
      refine answer_within (Sub.trans (by decide) hM) ?_
      exact h_s
    · refine OutWithin.ite ?_ ?_
      · refine OutWithin.ok ?_
        refine answer_within (Sub.trans (by decide) hM) ?_
        exact h_s
      · extract_lets -merge -useContext +onlyGivenNames r_1
        have hr_1 : Within A u r_1.2 := by
          refine attStart_within (Sub.trans (by decide) hM) ?_
          exact h_s
        refine OutWithin.ok ?_
        refine Within.ite ?_ ?_
        · exact hr_1
        · refine answered_within (Sub.trans (by decide) hM) ?_
          exact hr_1

theorem audRestart_within {A : Nat} {u : State} {s : State} (hM : Sub 0x200000000000000000000001400000 A) (h_s : Within A u s) :
    Within A u (audRestart s) := by
  unfold audRestart
  split
  · refine audJoin_within (Sub.trans (by decide) hM) ?_
    refine Within.sec_ (Sub.bit hM (by decide)) ?_
    exact h_s
  · exact h_s

theorem execEditionStage_within {A : Nat} {u : State} {a : Agent} {b : List Byte} {s : State} (hM : Sub 0x200000000000000000000001400001
    A) (h_s : Within A u s) :
    OutWithin A u (execEditionStage a b s) := by
  unfold execEditionStage
  refine OutWithin.ite ?_ ?_
  · refine OutWithin.ok ?_
    refine Within.ite ?_ ?_
    · refine answer_within (Sub.trans (by decide) hM) ?_
      exact h_s
    · refine Within.ite ?_ ?_
      · refine answer_within (Sub.trans (by decide) hM) ?_
        exact h_s
      · refine answer_within (Sub.trans (by decide) hM) ?_
        refine bank14Write_within (Sub.trans (by decide) hM) ?_
        exact h_s
  · refine OutWithin.ok ?_
    refine answered_within (Sub.trans (by decide) hM) ?_
    refine objStage_within (Sub.trans (by decide) hM) ?_
    exact h_s

theorem almPlace_within {A : Nat} {u : State} {o : AlmOp} {init purpose ns src : Nat} {s : State} (hM : Sub
    0x10000000000000000024000100003C A) (h_s : Within A u s) :
    Within A u (almPlace o init purpose ns src s).2 := by
  unfold almPlace
  split
  · refine Within.snd1 ?_
    refine almAccept_within (Sub.trans (by decide) hM) ?_
    refine Within.of_eq (q := (_, _)) (by assumption) ?_
    refine placeOrRetry_within (Sub.trans (by decide) hM) ?_
    exact h_s
  · refine placeOrRetry_within (Sub.trans (by decide) hM) ?_
    exact h_s

theorem lifecycleStart_within {A : Nat} {u : State} {o : AlmOp} {init : Nat} {s : State} (hM : Sub 0x10000000000000000024000100003C A)
    (h_s : Within A u s) :
    Within A u (lifecycleStart o init s).2 := by
  unfold lifecycleStart
  refine Within.ite1 ?_ ?_
  · refine Within.snd1 ?_
    exact h_s
  · refine almPlace_within (Sub.trans (by decide) hM) ?_
    exact h_s

theorem secTick_within {A : Nat} {u : State} {s : State} (hM : Sub 0x1000000 A) (h_s : Within A u s) :
    Within A u (secTick s) := by
  unfold secTick
  extract_lets -merge -useContext +onlyGivenNames l_0 dead_1 w_2
  refine Within.sec_ (Sub.bit hM (by decide)) ?_
  exact h_s

theorem ledgerStart_within {A : Nat} {u : State} {o : AlmOp} {init src : Nat} {s : State} (hM : Sub 0x10000000000000000024000100003C A)
    (h_s : Within A u s) :
    Within A u (ledgerStart o init src s).2 := by
  unfold ledgerStart
  refine Within.ite1 ?_ ?_
  · refine Within.snd1 ?_
    exact h_s
  · refine Within.ite1 ?_ ?_
    · refine Within.snd1 ?_
      exact h_s
    · split
      · refine Within.snd1 ?_
        exact h_s
      · refine Within.ite1 ?_ ?_
        · refine Within.snd1 ?_
          refine raise_within (Sub.trans (by decide) hM) ?_
          exact h_s
        · refine Within.ite1 ?_ ?_
          · refine Within.snd1 ?_
            exact h_s
          · refine almPlace_within (Sub.trans (by decide) hM) ?_
            exact h_s

theorem execLedgerProgrammed_within {A : Nat} {u : State} {good : Bool} {s : State} (hM : Sub 0x3C000000000000180060000140011D A) (h_s :
    Within A u s) :
    OutWithin A u (execLedgerProgrammed good s) := by
  unfold execLedgerProgrammed
  split
  · refine OutWithin.ok ?_
    refine Within.ite ?_ ?_
    · refine ledgerEnd_within (Sub.trans (by decide) hM) ?_
      exact h_s
    · exact h_s
  · refine OutWithin.ok ?_
    exact h_s

theorem editionStart_within {A : Nat} {u : State} {o : AlmOp} {init src : Nat} {s : State} (hM : Sub 0x10000000000000000024000100003C A)
    (h_s : Within A u s) :
    Within A u (editionStart o init src s).2 := by
  unfold editionStart
  refine Within.ite1 ?_ ?_
  · refine Within.snd1 ?_
    exact h_s
  · refine Within.ite1 ?_ ?_
    · refine Within.snd1 ?_
      exact h_s
    · split
      · refine Within.snd1 ?_
        exact h_s
      · extract_lets -merge -useContext +onlyGivenNames c_0 t_1
        have ht_1 : Within A u t_1 := by
          refine set_within _ (inMask (ALM_STAT_CHECK_win) (Sub.bit hM (by decide))) ?_
          exact h_s
        refine Within.ite1 ?_ ?_
        · refine Within.snd1 ?_
          refine Within.ite ?_ ?_
          · refine raise_within (Sub.trans (by decide) hM) ?_
            exact ht_1
          · exact ht_1
        · refine almPlace_within (Sub.trans (by decide) hM) ?_
          exact h_s

theorem almStart_within {A : Nat} {u : State} {o : AlmOp} {init src : Nat} {s : State} (hM : Sub 0x10000000000000000024000100003C A) (h_s
    : Within A u s) :
    Within A u (almStart o init src s).2 := by
  unfold almStart
  refine Within.ite1 ?_ ?_
  · refine Within.snd1 ?_
    exact h_s
  · refine Within.ite1 ?_ ?_
    · refine editionStart_within (Sub.trans (by decide) hM) ?_
      exact h_s
    · refine Within.ite1 ?_ ?_
      · refine ledgerStart_within (Sub.trans (by decide) hM) ?_
        exact h_s
      · refine lifecycleStart_within (Sub.trans (by decide) hM) ?_
        exact h_s

theorem wrAlmCtl_within {A : Nat} {u : State} {a : Agent} {v : Nat} {s : State} (hM : Sub 0x10000000000000000024000100003C A) (h_s :
    Within A u s) :
    Within A u (wrAlmCtl a v s).2 := by
  unfold wrAlmCtl
  extract_lets -merge -useContext +onlyGivenNames src_0
  refine Within.ite1 ?_ ?_
  · refine Within.snd1 ?_
    exact h_s
  · refine Within.ite1 ?_ ?_
    · refine Within.snd1 ?_
      exact h_s
    · refine Within.ite1 ?_ ?_
      · refine Within.snd1 ?_
        refine set_within _ (inMask (ALM_CTL_SRC_win) (Sub.bit hM (by decide))) ?_
        refine set_within _ (inMask (ALM_CTL_TARGET_win) (Sub.bit hM (by decide))) ?_
        refine set_within _ (inMask (ALM_CTL_OP_win) (Sub.bit hM (by decide))) ?_
        exact h_s
      · refine almStart_within (Sub.trans (by decide) hM) ?_
        exact h_s

theorem startedAnswer_within {A : Nat} {u : State} {r : Status × State} (hM : Sub 0x1 A) (h_r : Within A u r.2) :
    Within A u (startedAnswer r) := by
  unfold startedAnswer
  refine Within.ite ?_ ?_
  · exact h_r
  · refine answered_within (Sub.trans (by decide) hM) ?_
    exact h_r

theorem auditStart_within {A : Nat} {u : State} {a : Agent} {obj : Nat} {v : List Byte} {f : State → Status × State} {s : State} (hM :
    Sub 0x200000000000000000000001400000 A) (h_f : ∀ y0, Within A u y0 → Within A u (f y0).2) (h_s : Within A u s) :
    Within A u (auditStart a obj v f s).2 := by
  unfold auditStart
  refine Within.ite1 ?_ ?_
  · refine Within.snd1 ?_
    exact h_s
  · extract_lets -merge -useContext +onlyGivenNames r_0
    have hr_0 : Within A u r_0.2 := by
      apply h_f
      exact h_s
    refine Within.ite1 ?_ ?_
    · exact hr_0
    · refine Within.snd1 ?_
      refine audAppend_within (Sub.trans (by decide) hM) ?_
      exact hr_0

theorem objLifecycle_within {A : Nat} {u : State} {a : Agent} {sess : Option Nat} {v : Nat} {s : State} (hM : Sub
    0x30000000000000000024000140003C A) (h_s : Within A u s) :
    Within A u (objLifecycle a sess v s).2 := by
  unfold objLifecycle
  refine objIM_within (Sub.trans (by decide) hM) ?_ ?_
  · intro y0 hy1
    refine auditStart_within (Sub.trans (by decide) hM) ?_ ?_
    · intro y2 hy3
      beta_reduce
      refine almStart_within (Sub.trans (by decide) hM) ?_
      exact hy3
    · exact hy1
  · exact h_s

theorem execLifecycleTransition_within {A : Nat} {u : State} {a : Agent} {target : Nat} {s : State} (hM : Sub
    0x30000000000000000024000140003D A) (h_s : Within A u s) :
    OutWithin A u (execLifecycleTransition a target s) := by
  unfold execLifecycleTransition
  refine OutWithin.ite ?_ ?_
  · refine OutWithin.ok ?_
    refine answered_within (Sub.trans (by decide) hM) ?_
    refine wrAlmCtl_within (Sub.trans (by decide) hM) ?_
    exact h_s
  · refine OutWithin.ok ?_
    refine startedAnswer_within (Sub.trans (by decide) hM) ?_
    refine objLifecycle_within (Sub.trans (by decide) hM) ?_
    exact h_s

theorem wrAudBody_within {A : Nat} {u : State} {a : Agent} {k v : Nat} {s : State} (hM : Sub 0x200000000000000000000000000000 A) (h_s :
    Within A u s) :
    Within A u (wrAudBody a k v s).2 := by
  unfold wrAudBody
  refine Within.ite1 ?_ ?_
  · refine Within.snd1 ?_
    exact h_s
  · refine Within.snd1 ?_
    refine set_within _ (inMask (AUD_BODY_BYTES_win _) (Sub.bit hM (by decide))) ?_
    exact h_s

theorem objConsent_within {A : Nat} {u : State} {a : Agent} {v : Nat} {s : State} (hM : Sub 0x200000000000000000000001400000 A) (h_s :
    Within A u s) :
    Within A u (objConsent a v s).2 := by
  unfold objConsent
  refine Within.ite1 ?_ ?_
  · refine Within.snd1 ?_
    exact h_s
  · refine auditWrite_within (Sub.trans (by decide) hM) ?_ ?_
    · intro y0 hy1
      beta_reduce
      refine Within.ite1 ?_ ?_
      · refine Within.snd1 ?_
        exact hy1
      · refine Within.snd1 ?_
        refine Within.sec_ (Sub.bit hM (by decide)) ?_
        exact hy1
    · exact h_s

theorem execRmaConsent_within {A : Nat} {u : State} {a : Agent} {v : Nat} {s : State} (hM : Sub 0x200000000000000000000001400001 A) (h_s
    : Within A u s) :
    OutWithin A u (execRmaConsent a v s) := by
  unfold execRmaConsent
  refine OutWithin.ok ?_
  refine answered_within (Sub.trans (by decide) hM) ?_
  refine objConsent_within (Sub.trans (by decide) hM) ?_
  exact h_s

theorem almReset_within {A : Nat} {u : State} {s : State} (hM : Sub 0x1000000 A) (h_s : Within A u s) :
    Within A u (almReset s) := by
  unfold almReset
  split
  · exact h_s
  · extract_lets -merge -useContext +onlyGivenNames w_0 c_1
    refine Within.ite ?_ (Within.ite ?_ (Within.ite ?_ (Within.ite ?_ (Within.ite ?_ ?_))))
    · exact Within.sec_ (Sub.bit hM (by decide)) h_s
    · exact Within.sec_ (Sub.bit hM (by decide)) h_s
        (hz := ⟨Nat.le_succ _, fun _ _ => rfl, Nat.le_refl _, fun _ _ => rfl, fun _ h => h, fun h => h⟩)
    · exact Within.sec_ (Sub.bit hM (by decide)) h_s
        (hz := ⟨Nat.le_refl _, fun _ _ => rfl, Nat.le_succ _, fun _ _ => rfl, fun _ h => h, fun h => h⟩)
    · exact Within.sec_ (Sub.bit hM (by decide)) h_s
    · exact Within.sec_ (Sub.bit hM (by decide)) h_s
        (hz := ⟨Nat.le_refl _, fun _ _ => rfl, Nat.le_refl _, fun _ _ => rfl, fun _ h => bit_putBit _ h, fun _ => rfl⟩)
    · exact Within.sec_ (Sub.bit hM (by decide)) h_s
        (hz := ⟨Nat.le_refl _, fun _ _ => rfl, Nat.le_refl _, fun _ _ => rfl, fun _ h => bit_putBit _ h, fun h => h⟩)

theorem secPartReset_within {A : Nat} {u : State} {cold : Bool} {s : State} (hM : Sub 0x7C0000000000000000000001000000 A) (h_s : Within A
    u s) :
    Within A u (secPartReset cold s) := by
  unfold secPartReset
  extract_lets -merge -useContext +onlyGivenNames s_0 w_1 s_2 s_3
  have hs_0 : Within A u s_0 := by
    refine almReset_within (Sub.trans (by decide) hM) ?_
    exact h_s
  have hs_2 : Within A u s_2 := by
    refine Within.sec_ (Sub.bit hM (by decide)) ?_
    exact hs_0
  have hs_3 : Within A u s_3 := by
    refine resetRegs_within _ _ 13211319451648 13212393144319 117 2 0x600000000000000000000000000000 (by decide) (by decide) (by decide) (Sub.trans (by decide) hM) (by omega) (by omega) ?_
    refine resetRegs_within _ _ 13211319435264 13211319451647 116 1 0x100000000000000000000000000000 (by decide) (by decide) (by decide) (Sub.trans (by decide) hM) (by omega) (by omega) ?_
    exact hs_2
  refine Within.ite ?_ ?_
  · refine resetRegs_within _ _ 13211319402496 13212393144319 114 5 0x7C0000000000000000000000000000 (by decide) (by decide) (by decide) (Sub.trans (by decide) hM) (by omega) (by omega) ?_
    exact hs_2
  · refine secShow_within (Sub.trans (by decide) hM) ?_
    exact hs_3

theorem execEditionProgrammed_within {A : Nat} {u : State} {good : Bool} {s : State} (hM : Sub 0x3C000000000000180060000140011D A) (h_s :
    Within A u s) :
    OutWithin A u (execEditionProgrammed good s) := by
  unfold execEditionProgrammed
  split
  · refine OutWithin.ok ?_
    refine Within.ite ?_ ?_
    · refine editionEnd_within (Sub.trans (by decide) hM) ?_
      exact h_s
    · exact h_s
  · refine OutWithin.ok ?_
    exact h_s

theorem execTamperIndication_within {A : Nat} {u : State} {src : Fin 3} {s : State} (hM : Sub 0x77C020020000000180060000942111D A) (h_s :
    Within A u s) :
    OutWithin A u (execTamperIndication src s) := by
  unfold execTamperIndication
  refine OutWithin.whenOk ?_ ?_
  · exact h_s
  · refine tamper_within (Sub.trans (by decide) hM) ?_
    exact h_s

theorem almGranted_within {A : Nat} {u : State} {s : State} (hM : Sub 0x200000000000000000000001400000 A) (h_s : Within A u s) :
    Within A u (almGranted s) := by
  unfold almGranted
  split
  · exact h_s
  · refine Within.ite ?_ ?_
    · exact h_s
    · extract_lets -merge -useContext +onlyGivenNames s_0 f_1 w_2
      have hs_0 : Within A u s_0 := by
        refine Within.ite ?_ ?_
        · refine audRestart_within (Sub.trans (by decide) hM) ?_
          exact h_s
        · exact h_s
      refine Within.sec_ (Sub.bit hM (by decide)) ?_
      exact hs_0

theorem wrSecTamper_within {A : Nat} {u : State} {a : Agent} {v : Nat} {s : State} (hM : Sub 0x80000000000000000000000000000 A) (h_s :
    Within A u s) :
    Within A u (wrSecTamper a v s).2 := by
  unfold wrSecTamper
  refine Within.ite1 ?_ ?_
  · refine Within.snd1 ?_
    exact h_s
  · refine Within.snd1 ?_
    refine writeFlds_within (Sub.trans (by decide) hM) (inMasks (SEC_TAMPER_fields_win) (Sub.bit hM (by decide))) ?_
    exact h_s

theorem newChallenge_within {A : Nat} {u : State} {k : Nat} {s : State} (hM : Sub 0x1001000 A) (h_s : Within A u s) :
    Within A u (newChallenge k s).2 := by
  unfold newChallenge
  extract_lets -merge -useContext +onlyGivenNames d_0 v_1 w_2 w_3
  have hd_0 : Within A u d_0.2 := by
    refine draw_within (Sub.trans (by decide) hM) ?_
    exact h_s
  have hw_2 : Within A u w_2 := by
    exact hd_0
  refine Within.snd1 ?_
  refine Within.sec_ (Sub.bit hM (by decide)) ?_
  exact hw_2

theorem objCommit_within {A : Nat} {u : State} {a : Agent} {sess : Option Nat} {v : Nat} {s : State} (hM : Sub
    0x30000000000000000024000140003C A) (h_s : Within A u s) :
    Within A u (objCommit a sess v s).2 := by
  unfold objCommit
  refine objIM_within (Sub.trans (by decide) hM) ?_ ?_
  · intro y0 hy1
    refine auditStart_within (Sub.trans (by decide) hM) ?_ ?_
    · intro y2 hy3
      beta_reduce
      refine Within.ite1 ?_ ?_
      · refine Within.snd1 ?_
        exact hy3
      · refine almStart_within (Sub.trans (by decide) hM) ?_
        exact hy3
    · exact hy1
  · exact h_s

theorem execEditionCommit_within {A : Nat} {u : State} {a : Agent} {v : Nat} {s : State} (hM : Sub 0x30000000000000000024000140003D A)
    (h_s : Within A u s) :
    OutWithin A u (execEditionCommit a v s) := by
  unfold execEditionCommit
  refine OutWithin.ite ?_ ?_
  · refine OutWithin.ok ?_
    refine answered_within (Sub.trans (by decide) hM) ?_
    refine wrAlmCtl_within (Sub.trans (by decide) hM) ?_
    exact h_s
  · refine OutWithin.ok ?_
    refine startedAnswer_within (Sub.trans (by decide) hM) ?_
    refine objCommit_within (Sub.trans (by decide) hM) ?_
    exact h_s

theorem setRole_within {A : Nat} {u : State} {k r : Nat} {s : State} (hM : Sub 0x3000000000000000000000000000000 A) (h_s : Within A u s) :
    Within A u (setRole k r s) := by
  unfold setRole
  refine Within.ite ?_ ?_
  · refine set_within _ (inMask (DBG_AUTH_CTL_ROLE_win) (Sub.bit hM (by decide))) ?_
    exact h_s
  · refine set_within _ (inMask (FI_SESS_ROLE_win _) (Sub.bit hM (by decide))) ?_
    exact h_s

theorem signedIn_within {A : Nat} {u : State} {k : Nat} {r : Role} {signer : Nat} {s : State} (hM : Sub 0x3000000000000000000000001000000
    A) (h_s : Within A u s) :
    Within A u (signedIn k r signer s).2 := by
  unfold signedIn
  extract_lets -merge -useContext +onlyGivenNames s_0 w_1
  have hs_0 : Within A u s_0 := by
    refine setRole_within (Sub.trans (by decide) hM) ?_
    exact h_s
  refine Within.snd1 ?_
  refine Within.sec_ (Sub.bit hM (by decide)) ?_
  exact hs_0

theorem keySignIn_within {A : Nat} {u : State} {k : Nat} {resp : List Byte} {s : State} (hM : Sub 0x300000000000000000000000100000C A)
    (h_s : Within A u s) :
    Within A u (keySignIn k resp s).2 := by
  unfold keySignIn
  extract_lets -merge -useContext +onlyGivenNames r_0 role_1 key_2 hash_3 ch_4 w_5 t_6
  have ht_6 : Within A u t_6 := by
    refine Within.sec_ (Sub.bit hM (by decide)) ?_
    exact h_s
  refine Within.ite1 ?_ ?_
  · refine Within.snd1 ?_
    exact h_s
  · refine Within.ite1 ?_ ?_
    · refine refuseSignIn_within (Sub.trans (by decide) hM) ?_
      exact h_s
    · refine Within.ite1 ?_ ?_
      · refine refuseSignIn_within (Sub.trans (by decide) hM) ?_
        exact ht_6
      · refine Within.ite1 ?_ ?_
        · refine refuseSignIn_within (Sub.trans (by decide) hM) ?_
          exact ht_6
        · refine Within.ite1 ?_ ?_
          · refine refuseSignIn_within (Sub.trans (by decide) hM) ?_
            exact ht_6
          · refine Within.ite1 ?_ ?_
            · refine refuseSignIn_within (Sub.trans (by decide) hM) ?_
              exact ht_6
            · refine signedIn_within (Sub.trans (by decide) hM) ?_
              exact ht_6

theorem sdoCut_within {A : Nat} {u : State} {c : Nat} {s : State} (hM : Sub 0x1000001 A) (h_s : Within A u s) :
    Within A u (sdoCut c s) := by
  unfold sdoCut
  refine Within.ite ?_ ?_
  · exact h_s
  · extract_lets -merge -useContext +onlyGivenNames w_0 s_1 w_2
    have hs_1 : Within A u s_1 := by
      unfold s_1
      split
      · refine lateAnswer_within (Sub.trans (by decide) hM) ?_
        refine Within.sec_ (Sub.bit hM (by decide)) ?_
        exact h_s
      · exact h_s
    split
    · refine lateAnswer_within (Sub.trans (by decide) hM) ?_
      refine Within.sec_ (Sub.bit hM (by decide)) ?_
      exact hs_1
    · exact hs_1

theorem operatorSignIn_within {A : Nat} {u : State} {k : Nat} {pw : List Byte} {s : State} (hM : Sub 0x300000000000000000000000100000C A)
    (h_s : Within A u s) :
    Within A u (operatorSignIn k pw s).2 := by
  unfold operatorSignIn
  refine Within.ite1 ?_ ?_
  · refine Within.snd1 ?_
    exact h_s
  · refine Within.ite1 ?_ ?_
    · refine refuseSignIn_within (Sub.trans (by decide) hM) ?_
      exact h_s
    · refine Within.ite1 ?_ ?_
      · refine refuseSignIn_within (Sub.trans (by decide) hM) ?_
        exact h_s
      · split
        · refine refuseSignIn_within (Sub.trans (by decide) hM) ?_
          exact h_s
        · extract_lets -merge -useContext +onlyGivenNames h_0
          refine Within.ite1 ?_ ?_
          · refine signedIn_within (Sub.trans (by decide) hM) ?_
            exact h_s
          · refine refuseSignIn_within (Sub.trans (by decide) hM) ?_
            exact h_s

theorem openSession_within {A : Nat} {u : State} {addr : Nat} {s : State} (hM : Sub 0x180000000000000000000000000000C A) (h_s : Within A
    u s) :
    Within A u (openSession addr s).2 := by
  unfold openSession
  split
  · refine Within.snd1 ?_
    exact h_s
  · split
    · extract_lets -merge -useContext +onlyGivenNames s_0
      have hs_0 : Within A u s_0 := by
        refine set_within _ (inMask (FI_SESS_ROLE_win _) (Sub.bit hM (by decide))) ?_
        refine set_within _ (inMask (FI_SESS_ADDRESS_win _) (Sub.bit hM (by decide))) ?_
        refine set_within _ (inMask (FI_SESS_OPEN_win _) (Sub.bit hM (by decide))) ?_
        exact h_s
      refine Within.snd1 ?_
      refine raise_within (Sub.trans (by decide) hM) ?_
      exact hs_0
    · refine Within.snd1 ?_
      refine raise_within (Sub.trans (by decide) hM) ?_
      refine State.count_within (Sub.trans (by decide) hM) (inMask (FI_SDO_RETRIED_win) (Sub.bit hM (by decide))) ?_
      exact h_s

theorem execSignInLockEnd_within {A : Nat} {u : State} {r : Role} {s : State} (hM : Sub 0x1000000 A) (h_s : Within A u s) :
    OutWithin A u (execSignInLockEnd r s) := by
  unfold execSignInLockEnd
  refine OutWithin.ok ?_
  refine Within.sec_ (Sub.bit hM (by decide)) ?_
  exact h_s

theorem secBoot_within {A : Nat} {u : State} {s : State} (hM : Sub 0x2C0000000000000000000000000000 A) (h_s : Within A u s) :
    Within A u (secBoot s) := by
  unfold secBoot
  extract_lets -merge -useContext +onlyGivenNames s_0
  have hs_0 : Within A u s_0 := by
    refine secShow_within (Sub.trans (by decide) hM) ?_
    exact h_s
  split
  · refine set_within _ (inMask (SEC_STAT_EDITION_win) (Sub.bit hM (by decide))) ?_
    exact hs_0
  · extract_lets -merge -useContext +onlyGivenNames s_1
    have hs_1 : Within A u s_1 := by
      refine set_within _ (inMask (AUD_SEQ_SEQ_win) (Sub.bit hM (by decide))) ?_
      refine set_within _ (inMask (SEC_STAT_EDITION_win) (Sub.bit hM (by decide))) ?_
      exact hs_0
    refine forNat_within ?_ _ ?_
    · intro y2 y3 hy4
      beta_reduce
      refine set_within _ (inMask (AUD_HEAD_BYTES_win _) (Sub.bit hM (by decide))) ?_
      exact hy4
    · exact hs_1

theorem objLedger_within {A : Nat} {u : State} {a : Agent} {sess : Option Nat} {b : List Byte} {s : State} (hM : Sub
    0x30000000000000000024000140003C A) (h_s : Within A u s) :
    Within A u (objLedger a sess b s).2 := by
  unfold objLedger
  refine objIM_within (Sub.trans (by decide) hM) ?_ ?_
  · intro y0 hy1
    beta_reduce
    refine Within.ite1 ?_ ?_
    · refine Within.snd1 ?_
      exact hy1
    · refine auditStart_within (Sub.trans (by decide) hM) ?_ ?_
      · intro y2 hy3
        beta_reduce
        refine Within.ite1 ?_ ?_
        · refine Within.snd1 ?_
          exact hy3
        · refine almStart_within (Sub.trans (by decide) hM) ?_
          refine bank14Write_within (Sub.trans (by decide) hM) ?_
          exact hy3
      · exact hy1
  · exact h_s

theorem almOrphan_within {A : Nat} {u : State} {s : State} (hM : Sub 0x1C000000000000180060000100011D A) (h_s : Within A u s) :
    Within A u (almOrphan s) := by
  unfold almOrphan
  split
  · exact h_s
  · extract_lets -merge -useContext +onlyGivenNames p_0
    refine Within.ite ?_ ?_
    · refine almEnd_within (Sub.trans (by decide) hM) ?_
      exact h_s
    · exact h_s

theorem execLedgerAppend_within {A : Nat} {u : State} {a : Agent} {b : List Byte} {s : State} (hM : Sub 0x30000000000000000024000140003D
    A) (h_s : Within A u s) :
    OutWithin A u (execLedgerAppend a b s) := by
  unfold execLedgerAppend
  refine OutWithin.ite ?_ ?_
  · refine OutWithin.ok ?_
    refine Within.ite ?_ ?_
    · refine answer_within (Sub.trans (by decide) hM) ?_
      exact h_s
    · refine Within.ite ?_ ?_
      · refine answer_within (Sub.trans (by decide) hM) ?_
        exact h_s
      · refine answered_within (Sub.trans (by decide) hM) ?_
        refine wrAlmCtl_within (Sub.trans (by decide) hM) ?_
        refine Within.ite ?_ ?_
        · exact h_s
        · refine bank14Write_within (Sub.trans (by decide) hM) ?_
          exact h_s
  · refine OutWithin.ok ?_
    refine startedAnswer_within (Sub.trans (by decide) hM) ?_
    refine objLedger_within (Sub.trans (by decide) hM) ?_
    exact h_s

theorem execAttestationSigned_within {A : Nat} {u : State} {s : State} (hM : Sub 0x40000000000000000000000140000D A) (h_s : Within A u s) :
    OutWithin A u (execAttestationSigned s) := by
  unfold execAttestationSigned
  split
  · refine OutWithin.ok ?_
    exact h_s
  · refine OutWithin.ite ?_ ?_
    · refine OutWithin.ok ?_
      refine attEnd_within (Sub.trans (by decide) hM) ?_
      exact h_s
    · extract_lets -merge -useContext +onlyGivenNames b_0 t_1 w_2
      have ht_1 : Within A u t_1 := by
        refine bank14Write_within (Sub.trans (by decide) hM) ?_
        exact h_s
      refine OutWithin.ok ?_
      refine attEnd_within (Sub.trans (by decide) hM) ?_
      refine Within.sec_ (Sub.bit hM (by decide)) ?_
      exact ht_1

end Sys2Proof.Machine
end

