-- ==== Sys2Proof/Laws/WithinGen.lean ====
section
/-! SUPPORT. What each operation of Machine/Gen.lean can reach (see Laws/Within.lean). -/
set_option Elab.async false
namespace Sys2Proof.Machine

theorem addrOps_within {A : Nat} {u : State} {q w : Nat} {s : State} (hM : Sub 0x200000000000002000 A) (h_s : Within A u s) :
    Within A u (addrOps q w s) := by
  unfold addrOps
  extract_lets -merge -useContext +onlyGivenNames g_0 x_1 xWraps_2 y_3 yWraps_4 zop_5 z_6 s_7
  have hs_7 : Within A u s_7 := by
    refine set_within _ (inMask (GEN_VALUE_win _ _) (Sub.bit hM (by decide))) ?_
    refine set_within _ (inMask (GEN_VALUE_win _ _) (Sub.bit hM (by decide))) ?_
    refine set_within _ (inMask (GEN_VALUE_win _ _) (Sub.bit hM (by decide))) ?_
    refine set_within _ (inMask (GEN_VALUE_win _ _) (Sub.bit hM (by decide))) ?_
    refine set_within _ (inMask (GEN_VALUE_win _ _) (Sub.bit hM (by decide))) ?_
    exact h_s
  refine modEng_within (Sub.trans (by decide) hM) ?_
  exact hs_7

theorem dataOps_within {A : Nat} {u : State} {q w : Nat} {s : State} (hM : Sub 0x200000000000000000 A) (h_s : Within A u s) :
    Within A u (dataOps q w s) := by
  unfold dataOps
  extract_lets -merge -useContext +onlyGivenNames g_0
  refine set_within _ (inMask (GEN_D_VALUE_win _ _) (Sub.bit hM (by decide))) ?_
  exact h_s

theorem insOps_within {A : Nat} {u : State} {q w : Nat} {s : State} (hM : Sub 0x200000000000002000 A) (h_s : Within A u s) :
    Within A u (insOps q w s) := by
  unfold insOps
  refine dataOps_within (Sub.trans (by decide) hM) ?_
  refine addrOps_within (Sub.trans (by decide) hM) ?_
  exact h_s

end Sys2Proof.Machine
end

