-- ==== Sys2Proof/Laws/WithinSeq.lean ====
section
/-! SUPPORT. What each operation of Machine/Seq.lean can reach (see Laws/Within.lean). -/
set_option Elab.async false
namespace Sys2Proof.Machine

theorem execPauseWarnExpiry_within {A : Nat} {u : State} {q : Fin 16} {s : State} (hM : Sub 0x200C A) (h_s : Within A u s) :
    OutWithin A u (execPauseWarnExpiry q s) := by
  unfold execPauseWarnExpiry
  extract_lets -merge -useContext +onlyGivenNames e_0
  refine OutWithin.whenOk ?_ ?_
  · exact h_s
  · refine raise_within (Sub.trans (by decide) hM) ?_
    refine setEng_within (Sub.trans (by decide) hM) ?_
    exact h_s

theorem endPattern_within {A : Nat} {u : State} {q code cause : Nat} {s : State} (hM : Sub 0x2000 A) (h_s : Within A u s) :
    Within A u (endPattern q code cause s) := by
  unfold endPattern
  extract_lets -merge -useContext +onlyGivenNames e_0
  refine Within.ite ?_ ?_
  · exact h_s
  · refine setEng_within (Sub.trans (by decide) hM) ?_
    exact h_s

theorem setWait_within {A : Nat} {u : State} {q x : Nat} {s : State} (hM : Sub 0x200000000000000000 A) (h_s : Within A u s) :
    Within A u (setWait q x s) := by
  unfold setWait
  refine set_within _ (inMask (SEQ_STAT_WAIT_win _) (Sub.bit hM (by decide))) ?_
  exact h_s

theorem keepTicket_within {A : Nat} {u : State} {q k ticket : Nat} {s : State} (hM : Sub 0x200000000000000000 A) (h_s : Within A u s) :
    Within A u (keepTicket q k ticket s) := by
  unfold keepTicket
  refine set_within _ (inMask (SEQ_TICKET_VALID_win _ _) (Sub.bit hM (by decide))) ?_
  refine set_within _ (inMask (SEQ_TICKET_TICKET_win _ _) (Sub.bit hM (by decide))) ?_
  exact h_s

theorem withdrawSlu_within {A : Nat} {u : State} {q : Nat} {s : State} (hM : Sub 0x20180060000000211C A) (h_s : Within A u s) :
    Within A u (withdrawSlu q s) := by
  unfold withdrawSlu
  extract_lets -merge -useContext +onlyGivenNames e_0 t_1
  have ht_1 : Within A u t_1 := by
    refine modEng_within (Sub.trans (by decide) hM) ?_
    refine Within.ite ?_ ?_
    · refine setWait_within (Sub.trans (by decide) hM) ?_
      exact h_s
    · exact h_s
  split
  · refine Within.ite ?_ ?_
    · refine keepTicket_within (Sub.trans (by decide) hM) ?_
      exact ht_1
    · refine sluEnd_within (Sub.trans (by decide) hM) ?_
      exact ht_1
  · refine Within.ite ?_ ?_
    · exact ht_1
    · refine sluEnd_within (Sub.trans (by decide) hM) ?_
      exact ht_1
  · exact ht_1

theorem execVectorUnderrun_within {A : Nat} {u : State} {q : Fin 16} {s : State} (hM : Sub 0x20180060000000211C A) (h_s : Within A u s) :
    OutWithin A u (execVectorUnderrun q s) := by
  unfold execVectorUnderrun
  extract_lets -merge -useContext +onlyGivenNames e_0
  refine OutWithin.whenOk ?_ ?_
  · exact h_s
  · refine endPattern_within (Sub.trans (by decide) hM) ?_
    refine withdrawSlu_within (Sub.trans (by decide) hM) ?_
    exact h_s

theorem submitSlu_within {A : Nat} {u : State} {q k : Nat} {s : State} (hM : Sub 0x24000000003C A) (h_s : Within A u s) :
    Within A u (submitSlu q k s).2.2 := by
  unfold submitSlu
  refine sluSubmit_within (Sub.trans (by decide) hM) ?_
  exact h_s

theorem wrSeqSite_within {A : Nat} {u : State} {l : List (Acc × Fld)} {a : Agent} {v : Nat} {s : State} (hM : Sub 0x0 A) (h_l : ∀ p ∈ l,
    InMask A p.2) (h_s : Within A u s) :
    Within A u (wrSeqSite l a v s).2 := by
  unfold wrSeqSite
  refine Within.ite1 ?_ ?_
  · refine Within.snd1 ?_
    exact h_s
  · refine Within.snd1 ?_
    refine writeFlds_within (Sub.trans (by decide) hM) h_l ?_
    exact h_s

theorem issueCycle_within {A : Nat} {u : State} {q : Nat} {c : Cyc} {s : State} (hM : Sub 0x2000000000002000 A) (h_s : Within A u s) :
    Within A u (issueCycle q c s) := by
  unfold issueCycle
  extract_lets -merge -useContext +onlyGivenNames e_0 c_1 s_2
  have hs_2 : Within A u s_2 := by
    refine setEng_within (Sub.trans (by decide) hM) ?_
    exact h_s
  refine set_within _ (inMask (ET_SEQ_STAT_TS_LAST_win _) (Sub.bit hM (by decide))) ?_
  refine set_within _ (inMask (ET_SEQ_STAT_CYCLES_win _) (Sub.bit hM (by decide))) ?_
  exact hs_2

theorem doClrf_within {A : Nat} {u : State} {q w : Nat} {s : State} (hM : Sub 0x200000000000002000 A) (h_s : Within A u s) :
    Within A u (doClrf q w s) := by
  unfold doClrf
  extract_lets -merge -useContext +onlyGivenNames b_0 s_1
  have hs_1 : Within A u s_1 := by
    refine State.setIf_within (Sub.trans (by decide) hM) (inMask (SEQ_SITE_MATCH_SITE_win _) (Sub.bit hM (by decide))) ?_
    refine State.setIf_within (Sub.trans (by decide) hM) (inMask (SEQ_SITE_FAIL_SITE_win _) (Sub.bit hM (by decide))) ?_
    exact h_s
  refine Within.ite ?_ ?_
  · refine modEng_within (Sub.trans (by decide) hM) ?_
    exact hs_1
  · exact hs_1

theorem touchPage_within {A : Nat} {u : State} {q pc : Nat} {s : State} (hM : Sub 0x2000 A) (h_s : Within A u s) :
    Within A u (touchPage q pc s) := by
  unfold touchPage
  extract_lets -merge -useContext +onlyGivenNames e_0
  split
  · refine setEng_within (Sub.trans (by decide) hM) ?_
    exact h_s
  · exact h_s

theorem beginLoad_within {A : Nat} {u : State} {q num : Nat} {pref : Bool} {s : State} (hM : Sub 0x2000 A) (h_s : Within A u s) :
    Within A u (beginLoad q num pref s) := by
  unfold beginLoad
  extract_lets -merge -useContext +onlyGivenNames e_0
  refine Within.ite ?_ ?_
  · exact h_s
  · split
    · refine setEng_within (Sub.trans (by decide) hM) ?_
      exact h_s
    · refine Within.ite ?_ ?_
      · refine Within.ite ?_ ?_
        · exact h_s
        · refine setEng_within (Sub.trans (by decide) hM) ?_
          exact h_s
      · refine setEng_within (Sub.trans (by decide) hM) ?_
        exact h_s

theorem seqGoto_within {A : Nat} {u : State} {q pc : Nat} {s : State} (hM : Sub 0x200000000000002000 A) (h_s : Within A u s) :
    Within A u (seqGoto q pc s) := by
  unfold seqGoto
  refine Within.ite ?_ ?_
  · refine endPattern_within (Sub.trans (by decide) hM) ?_
    exact h_s
  · extract_lets -merge -useContext +onlyGivenNames s_0 s_1
    have hs_0 : Within A u s_0 := by
      refine set_within _ (inMask (SEQ_PC_PC_win _) (Sub.bit hM (by decide))) ?_
      exact h_s
    have hs_1 : Within A u s_1 := by
      refine modEng_within (Sub.trans (by decide) hM) ?_
      exact hs_0
    refine Within.ite ?_ ?_
    · refine touchPage_within (Sub.trans (by decide) hM) ?_
      refine setWait_within (Sub.trans (by decide) hM) ?_
      exact hs_1
    · refine beginLoad_within (Sub.trans (by decide) hM) ?_
      refine setWait_within (Sub.trans (by decide) hM) ?_
      exact hs_1

theorem seqNext_within {A : Nat} {u : State} {q : Nat} {s : State} (hM : Sub 0x200000000000002000 A) (h_s : Within A u s) :
    Within A u (seqNext q s) := by
  unfold seqNext
  refine seqGoto_within (Sub.trans (by decide) hM) ?_
  exact h_s

theorem doEndl_within {A : Nat} {u : State} {q : Nat} {s : State} (hM : Sub 0x200000000000002000 A) (h_s : Within A u s) :
    Within A u (doEndl q s) := by
  unfold doEndl
  extract_lets -merge -useContext +onlyGivenNames e_0 mine_1
  split
  · exact h_s
  · refine Within.ite ?_ ?_
    · refine seqGoto_within (Sub.trans (by decide) hM) ?_
      refine setEng_within (Sub.trans (by decide) hM) ?_
      exact h_s
    · refine seqNext_within (Sub.trans (by decide) hM) ?_
      refine setEng_within (Sub.trans (by decide) hM) ?_
      exact h_s

theorem setSeqState_within {A : Nat} {u : State} {q x : Nat} {s : State} (hM : Sub 0x200000000000000000 A) (h_s : Within A u s) :
    Within A u (setSeqState q x s) := by
  unfold setSeqState
  refine set_within _ (inMask (SEQ_STAT_STATE_win _) (Sub.bit hM (by decide))) ?_
  exact h_s

theorem pauseNow_within {A : Nat} {u : State} {q : Nat} {s : State} (hM : Sub 0x20000000000000200C A) (h_s : Within A u s) :
    Within A u (pauseNow q s) := by
  unfold pauseNow
  extract_lets -merge -useContext +onlyGivenNames s_0
  have hs_0 : Within A u s_0 := by
    refine modEng_within (Sub.trans (by decide) hM) ?_
    refine setSeqState_within (Sub.trans (by decide) hM) ?_
    exact h_s
  refine raise_within (Sub.trans (by decide) hM) ?_
  exact hs_0

theorem startPattern_within {A : Nat} {u : State} {q : Nat} {s : State} (hM : Sub 0x20000000000000200C A) (h_s : Within A u s) :
    Within A u (startPattern q s) := by
  unfold startPattern
  extract_lets -merge -useContext +onlyGivenNames met_0 s_1
  have hs_1 : Within A u s_1 := by
    refine raise_within (Sub.trans (by decide) hM) ?_
    refine modEng_within (Sub.trans (by decide) hM) ?_
    refine setSeqState_within (Sub.trans (by decide) hM) ?_
    exact h_s
  refine Within.ite ?_ ?_
  · refine pauseNow_within (Sub.trans (by decide) hM) ?_
    exact hs_1
  · exact hs_1

theorem execFwaitEnd_within {A : Nat} {u : State} {q : Fin 16} {s : State} (hM : Sub 0x200000000000002000 A) (h_s : Within A u s) :
    OutWithin A u (execFwaitEnd q s) := by
  unfold execFwaitEnd
  split
  · refine OutWithin.ok ?_
    exact h_s
  · refine OutWithin.whenOk ?_ ?_
    · exact h_s
    · refine seqNext_within (Sub.trans (by decide) hM) ?_
      refine insOps_within (Sub.trans (by decide) hM) ?_
      refine setWait_within (Sub.trans (by decide) hM) ?_
      exact h_s

theorem showStacks_within {A : Nat} {u : State} {q : Nat} {s : State} (hM : Sub 0x200000000000000000 A) (h_s : Within A u s) :
    Within A u (showStacks q s) := by
  unfold showStacks
  extract_lets -merge -useContext +onlyGivenNames e_0
  refine set_within _ (inMask (SEQ_PC_LOOPS_win _) (Sub.bit hM (by decide))) ?_
  refine set_within _ (inMask (SEQ_PC_CALLS_win _) (Sub.bit hM (by decide))) ?_
  exact h_s

theorem seqExec_within {A : Nat} {u : State} {q opc : Nat} {body : Nat → State → State} {s : State} (hM : Sub 0x20000000000000200C A)
    (h_body : ∀ y0 y1, Within A u y1 → Within A u (body y0 y1)) (h_s : Within A u s) :
    Within A u (seqExec q opc body s) := by
  unfold seqExec
  split
  · refine Within.ite ?_ ?_
    · exact h_s
    · refine Within.ite ?_ ?_
      · refine showStacks_within (Sub.trans (by decide) hM) ?_
        apply h_body
        exact h_s
      · refine Within.ite ?_ ?_
        · refine endPattern_within (Sub.trans (by decide) hM) ?_
          exact h_s
        · refine Within.ite ?_ ?_
          · refine Within.ite ?_ ?_
            · refine pauseNow_within (Sub.trans (by decide) hM) ?_
              exact h_s
            · exact h_s
          · refine showStacks_within (Sub.trans (by decide) hM) ?_
            apply h_body
            refine modEng_within (Sub.trans (by decide) hM) ?_
            exact h_s
  · exact h_s

theorem enqueue_within {A : Nat} {u : State} {q : Nat} {c : Cyc} {s : State} (hM : Sub 0x2000 A) (h_s : Within A u s) :
    Within A u (enqueue q c s) := by
  unfold enqueue
  refine modEng_within (Sub.trans (by decide) hM) ?_
  exact h_s

theorem beats_within {A : Nat} {u : State} {q w : Nat} {mrep : Option Nat} {ops : Bool} {recs : List (List Nat)} {words : List Nat}
    {total a1 : Nat} {a2 : State} (hM : Sub 0x200000000000002000 A) (h_a2 : Within A u a2) :
    Within A u (beats q w mrep ops recs words total a1 a2) := by
  induction a1 generalizing a2 with
  | zero => exact h_a2
  | succ n ih =>
    unfold beats
    refine Within.ite ?_ ?_
    · exact endPattern_within (Sub.trans (by decide) hM) h_a2
    · refine ih ?_
      have h := enqueue_within (q := q) (c := beatCycle q w ((recs[total - (n + 1)]?).getD []) (if insFab w then words[total - (n + 1)]? else none)
        mrep (n == 0) a2) (Sub.trans (by decide) hM) h_a2
      refine Within.ite ?_ h
      exact dataOps_within (Sub.trans (by decide) hM) h

/-- What taking records from a vector stream gives lies within reach. -/
def TakeWithin (A : Nat) (u : State) : RecTake → Prop
  | .stall => True
  | .got _ t => Within A u t
  | .short _ t => Within A u t

theorem TakeWithin.stall {A : Nat} {u : State} : TakeWithin A u .stall := trivial

theorem TakeWithin.got {A : Nat} {u t : State} {l : List (List Nat)} (h : Within A u t) : TakeWithin A u (.got l t) := h

theorem TakeWithin.short {A : Nat} {u t : State} {l : List (List Nat)} (h : Within A u t) : TakeWithin A u (.short l t) := h

theorem TakeWithin.getGot {A : Nat} {u t : State} {l : List (List Nat)} {x : RecTake} (e : x = .got l t) (h : TakeWithin A u x) :
    Within A u t := by
  rw [e] at h
  exact h

theorem TakeWithin.getShort {A : Nat} {u t : State} {l : List (List Nat)} {x : RecTake} (e : x = .short l t) (h : TakeWithin A u x) :
    Within A u t := by
  rw [e] at h
  exact h

theorem TakeWithin.ite {A : Nat} {u : State} {x y : RecTake} {c : Prop} [Decidable c] (h : TakeWithin A u x) (g : TakeWithin A u y) :
    TakeWithin A u (if c then x else y) := by
  split <;> assumption

theorem takeRecord_within {A : Nat} {u : State} {q : Nat} {s : State} (hM : Sub 0x2000 A) (h_s : Within A u s) :
    TakeWithin A u (takeRecord q s) := by
  unfold takeRecord
  extract_lets -merge -useContext +onlyGivenNames n_0 e_1 x_2
  refine TakeWithin.ite ?_ ?_
  · refine TakeWithin.got ?_
    exact h_s
  · split
    · refine TakeWithin.ite ?_ ?_
      · refine TakeWithin.ite ?_ ?_
        · exact TakeWithin.stall
        · refine TakeWithin.ite ?_ ?_
          · refine TakeWithin.short ?_
            exact h_s
          · refine TakeWithin.got ?_
            refine setEng_within (Sub.trans (by decide) hM) ?_
            exact h_s
      · split
        · refine TakeWithin.got ?_
          refine setEng_within (Sub.trans (by decide) hM) ?_
          exact h_s
        · refine TakeWithin.short ?_
          exact h_s
    · refine TakeWithin.ite ?_ ?_
      · exact TakeWithin.stall
      · refine TakeWithin.got ?_
        refine setEng_within (Sub.trans (by decide) hM) ?_
        exact h_s

theorem takeRecords_within {A : Nat} {u : State} {q a1 : Nat} {a2 : State} (hM : Sub 0x2000 A) (h_a2 : Within A u a2) :
    TakeWithin A u (takeRecords q a1 a2) := by
  induction a1 generalizing a2 with
  | zero => exact TakeWithin.got h_a2
  | succ n ih =>
    have h := takeRecord_within (q := q) (Sub.trans (by decide) hM) h_a2
    unfold takeRecords
    split
    · exact TakeWithin.stall
    · exact TakeWithin.short (TakeWithin.getShort (by assumption) h)
    · have g := ih (TakeWithin.getGot (by assumption) h)
      split
      · exact TakeWithin.stall
      · exact TakeWithin.short (TakeWithin.getShort (by assumption) g)
      · exact TakeWithin.got (TakeWithin.getGot (by assumption) g)

theorem oneRep_within {A : Nat} {u : State} {q w : Nat} {ops reuse : Bool} {mrep : Option Nat} {s : State} (hM : Sub 0x200000000000006000
    A) (h_s : Within A u s) :
    OptWithin A u (oneRep q w ops reuse mrep s) := by
  unfold oneRep
  extract_lets -merge -useContext +onlyGivenNames e_0 n_1 saved_2 run_3 words_4 drop_5
  have hrun_3 : ∀ y6 y7 y8, Within A u y8 → Within A u (run_3 y6 y7 y8) := by
    intro y6 y7 y8 hy9
    unfold run_3
    extract_lets -merge -useContext +onlyGivenNames s_10 s_11
    have hs_10 : Within A u s_10 := by
      refine modEng_within (Sub.trans (by decide) hM) ?_
      exact hy9
    have hs_11 : Within A u s_11 := by
      refine beats_within (Sub.trans (by decide) hM) ?_
      exact hs_10
    refine Within.ite ?_ ?_
    · refine Within.ite ?_ ?_
      · refine addrOps_within (Sub.trans (by decide) hM) ?_
        exact hs_11
      · refine insOps_within (Sub.trans (by decide) hM) ?_
        exact hs_11
    · exact hs_11
  have hdrop_5 : ∀ y12, Within A u y12 → Within A u (drop_5 y12) := by
    intro y12 hy13
    unfold drop_5
    refine Within.ite ?_ ?_
    · refine Within.ports_ (Sub.bit hM (by decide)) ?_
      exact hy13
    · exact hy13
  refine OptWithin.ite ?_ ?_
  · exact OptWithin.none
  · clear_value saved_2
    split
    · refine OptWithin.some ?_
      apply hrun_3
      exact h_s
    · split
      · exact OptWithin.none
      · refine OptWithin.some ?_
        apply hrun_3
        apply hdrop_5
        first | refine TakeWithin.getGot (by assumption) ?_ | refine TakeWithin.getShort (by assumption) ?_
        refine takeRecords_within (Sub.trans (by decide) hM) ?_
        exact h_s
      · refine OptWithin.some ?_
        refine endPattern_within (Sub.trans (by decide) hM) ?_
        refine beats_within (Sub.trans (by decide) hM) ?_
        apply hdrop_5
        first | refine TakeWithin.getGot (by assumption) ?_ | refine TakeWithin.getShort (by assumption) ?_
        refine takeRecords_within (Sub.trans (by decide) hM) ?_
        exact h_s

theorem runVector_within {A : Nat} {u : State} {q w : Nat} {control : State → State} {s : State} (hM : Sub 0x200000000000006000 A)
    (h_control : ∀ y0, Within A u y0 → Within A u (control y0)) (h_s : Within A u s) :
    Within A u (runVector q w control s) := by
  unfold runVector
  refine Within.ite ?_ ?_
  · apply h_control
    refine insOps_within (Sub.trans (by decide) hM) ?_
    exact h_s
  · split
    · exact h_s
    · refine Within.ite ?_ ?_
      · refine OptWithin.get (by assumption) ?_
        refine oneRep_within (Sub.trans (by decide) hM) ?_
        exact h_s
      · refine Within.ite ?_ ?_
        · apply h_control
          refine OptWithin.get (by assumption) ?_
          refine oneRep_within (Sub.trans (by decide) hM) ?_
          exact h_s
        · refine modEng_within (Sub.trans (by decide) hM) ?_
          refine OptWithin.get (by assumption) ?_
          refine oneRep_within (Sub.trans (by decide) hM) ?_
          exact h_s

theorem execStop_within {A : Nat} {u : State} {q : Fin 16} {s : State} (hM : Sub 0x20000000000000600C A) (h_s : Within A u s) :
    OutWithin A u (execStop q s) := by
  unfold execStop
  refine OutWithin.ok ?_
  refine seqExec_within (Sub.trans (by decide) hM) ?_ ?_
  · intro y0 y1 hy2
    beta_reduce
    refine runVector_within (Sub.trans (by decide) hM) ?_ ?_
    · intro y3 hy4
      refine endPattern_within (Sub.trans (by decide) hM) ?_
      exact hy4
    · exact hy2
  · exact h_s

theorem matchEnds_within {A : Nat} {u : State} {q : Nat} {s : State} (hM : Sub 0x200000000000002000 A) (h_s : Within A u s) :
    Within A u (matchEnds q s) := by
  unfold matchEnds
  split
  · refine seqNext_within (Sub.trans (by decide) hM) ?_
    refine insOps_within (Sub.trans (by decide) hM) ?_
    refine setWait_within (Sub.trans (by decide) hM) ?_
    exact h_s
  · exact h_s

theorem execCycleIssue_within {A : Nat} {u : State} {q : Fin 16} {s : State} (hM : Sub 0x2000000000002000 A) (h_s : Within A u s) :
    OutWithin A u (execCycleIssue q s) := by
  unfold execCycleIssue
  extract_lets -merge -useContext +onlyGivenNames e_0
  refine OutWithin.ite ?_ ?_
  · split
    · refine OutWithin.ok ?_
      refine issueCycle_within (Sub.trans (by decide) hM) ?_
      refine setEng_within (Sub.trans (by decide) hM) ?_
      exact h_s
    · refine OutWithin.whenOk ?_ ?_
      · exact h_s
      · refine issueCycle_within (Sub.trans (by decide) hM) ?_
        refine modEng_within (Sub.trans (by decide) hM) ?_
        exact h_s
  · refine OutWithin.ok ?_
    exact h_s

theorem execVec_within {A : Nat} {u : State} {q : Fin 16} {s : State} (hM : Sub 0x20000000000000600C A) (h_s : Within A u s) :
    OutWithin A u (execVec q s) := by
  unfold execVec
  refine OutWithin.ok ?_
  refine seqExec_within (Sub.trans (by decide) hM) ?_ ?_
  · intro y0 y1 hy2
    beta_reduce
    refine runVector_within (Sub.trans (by decide) hM) ?_ ?_
    · intro y3 hy4
      refine seqNext_within (Sub.trans (by decide) hM) ?_
      exact hy4
    · exact hy2
  · exact h_s

theorem finishPattern_within {A : Nat} {u : State} {q : Nat} {x : SeqEnd} {s : State} (hM : Sub 0x120000000000000A10C A) (h_s : Within A
    u s) :
    Within A u (finishPattern q x s) := by
  unfold finishPattern
  extract_lets -merge -useContext +onlyGivenNames s_0 s_1 s_2 pc_3
  have hs_0 : Within A u s_0 := by
    refine set_within _ (inMask (SEQ_STAT_CAUSE_win _) (Sub.bit hM (by decide))) ?_
    refine set_within _ (inMask (SEQ_STAT_END_win _) (Sub.bit hM (by decide))) ?_
    refine setWait_within (Sub.trans (by decide) hM) ?_
    refine setSeqState_within (Sub.trans (by decide) hM) ?_
    exact h_s
  have hs_1 : Within A u s_1 := by
    refine modEng_within (Sub.trans (by decide) hM) ?_
    exact hs_0
  have hs_2 : Within A u s_2 := by
    refine jetsIdle_within (Sub.trans (by decide) hM) ?_
    refine fcFlush_within (Sub.trans (by decide) hM) ?_
    exact hs_1
  refine Within.ite ?_ ?_
  · refine raise_within (Sub.trans (by decide) hM) ?_
    exact hs_2
  · refine Within.ite ?_ ?_
    · refine raise_within (Sub.trans (by decide) hM) ?_
      exact hs_2
    · refine raise_within (Sub.trans (by decide) hM) ?_
      exact hs_2

theorem execSeqStartTick_within {A : Nat} {u : State} {q : Fin 16} {s : State} (hM : Sub 0x120180060000000A11C A) (h_s : Within A u s) :
    OutWithin A u (execSeqStartTick q s) := by
  unfold execSeqStartTick
  extract_lets -merge -useContext +onlyGivenNames e_0
  refine OutWithin.whenOk ?_ ?_
  · exact h_s
  · refine Within.ite ?_ ?_
    · refine finishPattern_within (Sub.trans (by decide) hM) ?_
      refine withdrawSlu_within (Sub.trans (by decide) hM) ?_
      exact h_s
    · refine startPattern_within (Sub.trans (by decide) hM) ?_
      exact h_s

theorem doJfail_within {A : Nat} {u : State} {q w : Nat} {s : State} (hM : Sub 0x200000000000002000 A) (h_s : Within A u s) :
    Within A u (doJfail q w s) := by
  unfold doJfail
  extract_lets -merge -useContext +onlyGivenNames t_0 s_1
  have hs_1 : Within A u s_1 := by
    refine State.setIf_within (Sub.trans (by decide) hM) (inMask (SEQ_SITE_FAIL_SITE_win _) (Sub.bit hM (by decide))) ?_
    exact h_s
  refine Within.ite ?_ ?_
  · refine seqGoto_within (Sub.trans (by decide) hM) ?_
    exact hs_1
  · refine seqNext_within (Sub.trans (by decide) hM) ?_
    exact hs_1

theorem execDclose_within {A : Nat} {u : State} {q : Fin 16} {s : State} (hM : Sub 0x20000000000000600C A) (h_s : Within A u s) :
    OutWithin A u (execDclose q s) := by
  unfold execDclose
  refine OutWithin.ok ?_
  refine seqExec_within (Sub.trans (by decide) hM) ?_ ?_
  · intro y0 y1 hy2
    beta_reduce
    refine runVector_within (Sub.trans (by decide) hM) ?_ ?_
    · intro y3 hy4
      beta_reduce
      refine seqNext_within (Sub.trans (by decide) hM) ?_
      refine modEng_within (Sub.trans (by decide) hM) ?_
      exact hy4
    · exact hy2
  · exact h_s

theorem doSlurel_within {A : Nat} {u : State} {q w : Nat} {s : State} (hM : Sub 0x20180060020000013C A) (h_s : Within A u s) :
    Within A u (doSlurel q w s) := by
  unfold doSlurel
  extract_lets -merge -useContext +onlyGivenNames k_0 r_1 r_2 t_3
  have hr_1 : Within A u r_1.2 := by
    refine sluRelease_within (Sub.trans (by decide) hM) ?_
    exact h_s
  have hr_2 : Within A u r_2.2 := by
    refine Within.ite1 ?_ ?_
    · exact hr_1
    · refine Within.snd1 ?_
      exact h_s
  have ht_3 : Within A u t_3 := by
    refine set_within _ (inMask (SEQ_TICKET_TICKET_win _ _) (Sub.bit hM (by decide))) ?_
    refine set_within _ (inMask (SEQ_TICKET_VALID_win _ _) (Sub.bit hM (by decide))) ?_
    exact hr_2
  refine Within.ite ?_ ?_
  · exact ht_3
  · refine raise_within (Sub.trans (by decide) hM) ?_
    exact ht_3

theorem doSetr_within {A : Nat} {u : State} {q w : Nat} {s : State} (hM : Sub 0x200000000000000000 A) (h_s : Within A u s) :
    Within A u (doSetr q w s) := by
  unfold doSetr
  extract_lets -merge -useContext +onlyGivenNames n_0
  refine Within.ite ?_ ?_
  · refine set_within _ (inMask (GEN_VALUE_win _ _) (Sub.bit hM (by decide))) ?_
    exact h_s
  · refine Within.ite ?_ ?_
    · refine set_within _ (inMask (GEN_D_VALUE_win _ _) (Sub.bit hM (by decide))) ?_
      exact h_s
    · refine set_within _ (inMask (GEN_D_VALUE_win _ _) (Sub.bit hM (by decide))) ?_
      exact h_s

theorem execSetr_within {A : Nat} {u : State} {q : Fin 16} {s : State} (hM : Sub 0x20000000000000600C A) (h_s : Within A u s) :
    OutWithin A u (execSetr q s) := by
  unfold execSetr
  refine OutWithin.ok ?_
  refine seqExec_within (Sub.trans (by decide) hM) ?_ ?_
  · intro y0 y1 hy2
    beta_reduce
    refine runVector_within (Sub.trans (by decide) hM) ?_ ?_
    · intro y3 hy4
      beta_reduce
      refine seqNext_within (Sub.trans (by decide) hM) ?_
      refine doSetr_within (Sub.trans (by decide) hM) ?_
      exact hy4
    · exact hy2
  · exact h_s

theorem runWait_within {A : Nat} {u : State} {q w : Nat} {waiting : Bool} {begin_ : State → State} {done : State → Bool} {finish : State
    → State} {s : State} (hM : Sub 0x200000000000006000 A) (h_begin_ : ∀ y0, Within A u y0 → Within A u (begin_ y0)) (h_finish : ∀ y0,
    Within A u y0 → Within A u (finish y0)) (h_s : Within A u s) :
    Within A u (runWait q w waiting begin_ done finish s) := by
  unfold runWait
  extract_lets -merge -useContext +onlyGivenNames apply_0 rep_1 t_2
  have happly_0 : ∀ y3, Within A u y3 → Within A u (apply_0 y3) := by
    intro y3 hy4
    unfold apply_0
    apply h_finish
    refine insOps_within (Sub.trans (by decide) hM) ?_
    refine setWait_within (Sub.trans (by decide) hM) ?_
    exact hy4
  have hrep_1 : ∀ y5, Within A u y5 → Within A u (rep_1 y5) := by
    intro y5 hy6
    unfold rep_1
    refine OptWithin.getD ?_ ?_
    · refine oneRep_within (Sub.trans (by decide) hM) ?_
      exact hy6
    · exact hy6
  have ht_2 : Within A u t_2 := by
    apply h_begin_
    exact h_s
  refine Within.ite ?_ ?_
  · refine Within.ite ?_ ?_
    · apply happly_0
      exact h_s
    · refine Within.ite ?_ ?_
      · exact h_s
      · apply hrep_1
        exact h_s
  · refine Within.ite ?_ ?_
    · refine Within.ite ?_ ?_
      · apply happly_0
        exact ht_2
      · exact ht_2
    · split
      · exact h_s
      · refine Within.ite ?_ ?_
        · refine OptWithin.get (by assumption) ?_
          refine oneRep_within (Sub.trans (by decide) hM) ?_
          exact h_s
        · refine Within.ite ?_ ?_
          · extract_lets -merge -useContext +onlyGivenNames u_7
            have hu_7 : Within A u u_7 := by
              apply h_begin_
              refine OptWithin.get (by assumption) ?_
              refine oneRep_within (Sub.trans (by decide) hM) ?_
              exact h_s
            refine Within.ite ?_ ?_
            · apply happly_0
              exact hu_7
            · exact hu_7
          · refine modEng_within (Sub.trans (by decide) hM) ?_
            refine OptWithin.get (by assumption) ?_
            refine oneRep_within (Sub.trans (by decide) hM) ?_
            exact h_s

theorem execFwait_within {A : Nat} {u : State} {q : Fin 16} {s : State} (hM : Sub 0x20000000000000600C A) (h_s : Within A u s) :
    OutWithin A u (execFwait q s) := by
  unfold execFwait
  refine OutWithin.ok ?_
  refine seqExec_within (Sub.trans (by decide) hM) ?_ ?_
  · intro y0 y1 hy2
    beta_reduce
    refine runWait_within (Sub.trans (by decide) hM) ?_ ?_ ?_
    · intro y3 hy4
      refine setWait_within (Sub.trans (by decide) hM) ?_
      exact hy4
    · intro y5 hy6
      refine seqNext_within (Sub.trans (by decide) hM) ?_
      exact hy6
    · exact hy2
  · exact h_s

theorem execPref_within {A : Nat} {u : State} {q : Fin 16} {s : State} (hM : Sub 0x20000000000000600C A) (h_s : Within A u s) :
    OutWithin A u (execPref q s) := by
  unfold execPref
  refine OutWithin.ok ?_
  refine seqExec_within (Sub.trans (by decide) hM) ?_ ?_
  · intro y0 y1 hy2
    beta_reduce
    refine runVector_within (Sub.trans (by decide) hM) ?_ ?_
    · intro y3 hy4
      beta_reduce
      refine seqNext_within (Sub.trans (by decide) hM) ?_
      refine beginLoad_within (Sub.trans (by decide) hM) ?_
      exact hy4
    · exact hy2
  · exact h_s

theorem retryLoads_within {A : Nat} {u : State} {q : Nat} {s : State} (hM : Sub 0x2000 A) (h_s : Within A u s) :
    Within A u (retryLoads q s) := by
  unfold retryLoads
  extract_lets -merge -useContext +onlyGivenNames e_0 s_1 s_2
  have hs_1 : Within A u s_1 := by
    refine setEng_within (Sub.trans (by decide) hM) ?_
    exact h_s
  have hs_2 : Within A u s_2 := by
    unfold s_2
    split
    · refine beginLoad_within (Sub.trans (by decide) hM) ?_
      exact hs_1
    · exact hs_1
  refine forEach_within ?_ _ ?_
  · intro y3 y4 hy5
    beta_reduce
    refine beginLoad_within (Sub.trans (by decide) hM) ?_
    exact hy5
  · exact hs_2

theorem beginSlu_within {A : Nat} {u : State} {q k : Nat} {s : State} (hM : Sub 0x20000024000000203C A) (h_s : Within A u s) :
    Within A u (beginSlu q k s) := by
  unfold beginSlu
  split
  · refine modEng_within (Sub.trans (by decide) hM) ?_
    refine setWait_within (Sub.trans (by decide) hM) ?_
    refine Within.of_eq2 (q := (_, _, _)) (by assumption) ?_
    refine submitSlu_within (Sub.trans (by decide) hM) ?_
    exact h_s
  · refine raiseOnce_within (Sub.trans (by decide) hM) ?_
    refine modEng_within (Sub.trans (by decide) hM) ?_
    refine setWait_within (Sub.trans (by decide) hM) ?_
    refine Within.of_eq2 (q := (_, _, _)) (by assumption) ?_
    refine submitSlu_within (Sub.trans (by decide) hM) ?_
    exact h_s
  · refine endPattern_within (Sub.trans (by decide) hM) ?_
    refine Within.of_eq2 (q := (_, _, _)) (by assumption) ?_
    refine submitSlu_within (Sub.trans (by decide) hM) ?_
    exact h_s

theorem seqTick1_within {A : Nat} {u : State} {q : Nat} {s : State} (hM : Sub 0x20000024000000203C A) (h_s : Within A u s) :
    Within A u (seqTick1 q s) := by
  unfold seqTick1
  refine Within.ite ?_ ?_
  · exact h_s
  · extract_lets -merge -useContext +onlyGivenNames waits_0 m_1 off_2 mask_3 s_4 s_5 n_6
    have hs_4 : Within A u s_4 := by
      refine Within.ite ?_ ?_
      · exact h_s
      · refine pushMasks_within (Sub.trans (by decide) hM) ?_
        exact h_s
    have hs_5 : Within A u s_5 := by
      refine modEng_within (Sub.trans (by decide) hM) ?_
      exact hs_4
    refine Within.ite ?_ ?_
    · split
      · refine modEng_within (Sub.trans (by decide) hM) ?_
        refine beginSlu_within (Sub.trans (by decide) hM) ?_
        exact hs_5
      · exact hs_5
    · exact hs_5

theorem execSlurel_within {A : Nat} {u : State} {q : Fin 16} {s : State} (hM : Sub 0x20180060020000613C A) (h_s : Within A u s) :
    OutWithin A u (execSlurel q s) := by
  unfold execSlurel
  refine OutWithin.ok ?_
  refine seqExec_within (Sub.trans (by decide) hM) ?_ ?_
  · intro y0 y1 hy2
    beta_reduce
    refine runVector_within (Sub.trans (by decide) hM) ?_ ?_
    · intro y3 hy4
      beta_reduce
      refine seqNext_within (Sub.trans (by decide) hM) ?_
      refine doSlurel_within (Sub.trans (by decide) hM) ?_
      exact hy4
    · exact hy2
  · exact h_s

theorem wrSeqStopped_within {A : Nat} {u : State} {l : List (Acc × Fld)} {bad : Bool} {a : Agent} {q v : Nat} {s : State} (hM : Sub 0x0
    A) (h_l : ∀ p ∈ l, InMask A p.2) (h_s : Within A u s) :
    Within A u (wrSeqStopped l bad a q v s).2 := by
  unfold wrSeqStopped
  refine Within.ite1 ?_ ?_
  · refine Within.snd1 ?_
    exact h_s
  · refine Within.ite1 ?_ ?_
    · refine Within.snd1 ?_
      exact h_s
    · refine Within.snd1 ?_
      refine writeFlds_within (Sub.trans (by decide) hM) h_l ?_
      exact h_s

theorem execCall_within {A : Nat} {u : State} {q : Fin 16} {s : State} (hM : Sub 0x20000000000000600C A) (h_s : Within A u s) :
    OutWithin A u (execCall q s) := by
  unfold execCall
  refine OutWithin.ok ?_
  refine seqExec_within (Sub.trans (by decide) hM) ?_ ?_
  · intro y0 y1 hy2
    beta_reduce
    refine Within.ite ?_ ?_
    · refine endPattern_within (Sub.trans (by decide) hM) ?_
      exact hy2
    · refine runVector_within (Sub.trans (by decide) hM) ?_ ?_
      · intro y3 hy4
        beta_reduce
        refine seqGoto_within (Sub.trans (by decide) hM) ?_
        refine modEng_within (Sub.trans (by decide) hM) ?_
        exact hy4
      · exact hy2
  · exact h_s

theorem wrSeqStartAt_within {A : Nat} {u : State} {a : Agent} {q v : Nat} {s : State} (hM : Sub 0x200000000000000000 A) (h_s : Within A u
    s) :
    Within A u (wrSeqStartAt a q v s).2 := by
  unfold wrSeqStartAt
  refine Within.ite1 ?_ ?_
  · refine Within.snd1 ?_
    exact h_s
  · refine Within.snd1 ?_
    refine writeFlds_within (Sub.trans (by decide) hM) (inMasks (SEQ_START_AT_fields_win _) (Sub.bit hM (by decide))) ?_
    exact h_s

theorem doLoop_within {A : Nat} {u : State} {q w : Nat} {s : State} (hM : Sub 0x200000000000002000 A) (h_s : Within A u s) :
    Within A u (doLoop q w s) := by
  unfold doLoop
  extract_lets -merge -useContext +onlyGivenNames pc_0
  refine seqNext_within (Sub.trans (by decide) hM) ?_
  refine modEng_within (Sub.trans (by decide) hM) ?_
  exact h_s

theorem execLoop_within {A : Nat} {u : State} {q : Fin 16} {s : State} (hM : Sub 0x20000000000000600C A) (h_s : Within A u s) :
    OutWithin A u (execLoop q s) := by
  unfold execLoop
  refine OutWithin.ok ?_
  refine seqExec_within (Sub.trans (by decide) hM) ?_ ?_
  · intro y0 y1 hy2
    beta_reduce
    refine Within.ite ?_ ?_
    · refine endPattern_within (Sub.trans (by decide) hM) ?_
      exact hy2
    · refine runVector_within (Sub.trans (by decide) hM) ?_ ?_
      · intro y3 hy4
        refine doLoop_within (Sub.trans (by decide) hM) ?_
        exact hy4
      · exact hy2
  · exact h_s

theorem doMark_within {A : Nat} {u : State} {q w : Nat} {s : State} (hM : Sub 0x20000000000000000C A) (h_s : Within A u s) :
    Within A u (doMark q w s) := by
  unfold doMark
  extract_lets -merge -useContext +onlyGivenNames c_0
  refine raise_within (Sub.trans (by decide) hM) ?_
  refine set_within _ (inMask (SEQ_MARK_CYCLE_win _) (Sub.bit hM (by decide))) ?_
  refine set_within _ (inMask (SEQ_MARK_VALUE_win _) (Sub.bit hM (by decide))) ?_
  exact h_s

theorem execClrf_within {A : Nat} {u : State} {q : Fin 16} {s : State} (hM : Sub 0x20000000000000600C A) (h_s : Within A u s) :
    OutWithin A u (execClrf q s) := by
  unfold execClrf
  refine OutWithin.ok ?_
  refine seqExec_within (Sub.trans (by decide) hM) ?_ ?_
  · intro y0 y1 hy2
    beta_reduce
    refine runVector_within (Sub.trans (by decide) hM) ?_ ?_
    · intro y3 hy4
      beta_reduce
      refine seqNext_within (Sub.trans (by decide) hM) ?_
      refine doClrf_within (Sub.trans (by decide) hM) ?_
      exact hy4
    · exact hy2
  · exact h_s

theorem execIllegalOpcode_within {A : Nat} {u : State} {q : Fin 16} {s : State} (hM : Sub 0x2000 A) (h_s : Within A u s) :
    OutWithin A u (execIllegalOpcode q s) := by
  unfold execIllegalOpcode
  split
  · refine OutWithin.ok ?_
    exact h_s
  · refine OutWithin.whenOk ?_ ?_
    · exact h_s
    · refine endPattern_within (Sub.trans (by decide) hM) ?_
      exact h_s

theorem hostPause_within {A : Nat} {u : State} {q : Nat} {s : State} (hM : Sub 0x200000000000002000 A) (h_s : Within A u s) :
    Within A u (hostPause q s) := by
  unfold hostPause
  refine setPauseSrc_within (Sub.trans (by decide) hM) ?_
  exact h_s

theorem armSeq_within {A : Nat} {u : State} {q tick : Nat} {s : State} (hM : Sub 0x320200000000000A000 A) (h_s : Within A u s) :
    Within A u (armSeq q tick s) := by
  unfold armSeq
  extract_lets -merge -useContext +onlyGivenNames s_0 e_1 w_2 s_3 s_4 p_5 s_6
  have hs_0 : Within A u s_0 := by
    refine set_within _ (inMask (SEQ_STAT_STATE_win _) (Sub.bit hM (by decide))) ?_
    refine set_within _ (inMask (ET_SEQ_STAT_CYCLES_win _) (Sub.bit hM (by decide))) ?_
    refine set_within _ (inMask (SEQ_STAT_CAUSE_win _) (Sub.bit hM (by decide))) ?_
    refine set_within _ (inMask (SEQ_STAT_END_win _) (Sub.bit hM (by decide))) ?_
    refine set_within _ (inMask (SEQ_SITE_MATCH_SITE_win _) (Sub.bit hM (by decide))) ?_
    refine set_within _ (inMask (SEQ_SITE_FAIL_SITE_win _) (Sub.bit hM (by decide))) ?_
    exact h_s
  have hs_3 : Within A u s_3 := by
    refine setEng_within (Sub.trans (by decide) hM) ?_
    exact hs_0
  have hs_4 : Within A u s_4 := by
    refine fcStart_within (Sub.trans (by decide) hM) ?_
    exact hs_3
  have hs_6 : Within A u s_6 := by
    refine forNat_within ?_ _ ?_
    · intro y7 y8 hy9
      beta_reduce
      refine Within.ite ?_ ?_
      · refine beginLoad_within (Sub.trans (by decide) hM) ?_
        exact hy9
      · exact hy9
    · exact hs_4
  refine showStacks_within (Sub.trans (by decide) hM) ?_
  refine seqGoto_within (Sub.trans (by decide) hM) ?_
  exact hs_6

theorem endInstead_within {A : Nat} {u : State} {q code : Nat} {s : State} (hM : Sub 0x2000 A) (h_s : Within A u s) :
    Within A u (endInstead q code s) := by
  unfold endInstead
  refine modEng_within (Sub.trans (by decide) hM) ?_
  exact h_s

theorem discardCycles_within {A : Nat} {u : State} {q : Nat} {started : Cyc → Bool} {s : State} (hM : Sub 0x2000000000002000 A) (h_s :
    Within A u s) :
    Within A u (discardCycles q started s) := by
  unfold discardCycles
  extract_lets -merge -useContext +onlyGivenNames e_0 keep_1 last_2 s_3
  have hs_3 : Within A u s_3 := by
    refine setEng_within (Sub.trans (by decide) hM) ?_
    exact h_s
  refine set_within _ (inMask (ET_SEQ_STAT_CYCLES_win _) (Sub.bit hM (by decide))) ?_
  exact hs_3

theorem endAtOnce_within {A : Nat} {u : State} {q code : Nat} {started : Cyc → Bool} {s : State} (hM : Sub 0x120380060000000A11C A) (h_s
    : Within A u s) :
    Within A u (endAtOnce q code started s) := by
  unfold endAtOnce
  extract_lets -merge -useContext +onlyGivenNames armed_0 s_1
  have hs_1 : Within A u s_1 := by
    refine endInstead_within (Sub.trans (by decide) hM) ?_
    refine discardCycles_within (Sub.trans (by decide) hM) ?_
    refine withdrawSlu_within (Sub.trans (by decide) hM) ?_
    exact h_s
  refine Within.ite ?_ ?_
  · refine finishPattern_within (Sub.trans (by decide) hM) ?_
    exact hs_1
  · exact hs_1

theorem wrSeqCtl_within {A : Nat} {u : State} {a : Agent} {q v ns : Nat} {clk : Option Nat} {s : State} (hM : Sub 0x320380060000000A11C
    A) (h_s : Within A u s) :
    Within A u (wrSeqCtl a q v ns clk s).2 := by
  unfold wrSeqCtl
  extract_lets -merge -useContext +onlyGivenNames start_0 stop_1 abort_2 st_3 tick_4 s_5
  have hs_5 : Within A u s_5 := by
    refine hostPause_within (Sub.trans (by decide) hM) ?_
    refine writeFlds_within (Sub.trans (by decide) hM) (inMasks (SEQ_CTL_fields_win _) (Sub.bit hM (by decide))) ?_
    exact h_s
  refine Within.ite1 ?_ ?_
  · refine Within.snd1 ?_
    exact h_s
  · refine Within.ite1 ?_ ?_
    · refine Within.snd1 ?_
      exact h_s
    · refine Within.ite1 ?_ ?_
      · refine Within.snd1 ?_
        exact h_s
      · refine Within.ite1 ?_ ?_
        · refine Within.snd1 ?_
          refine armSeq_within (Sub.trans (by decide) hM) ?_
          exact hs_5
        · refine Within.ite1 ?_ ?_
          · refine Within.snd1 ?_
            exact hs_5
          · refine Within.ite1 ?_ ?_
            · refine Within.snd1 ?_
              refine endAtOnce_within (Sub.trans (by decide) hM) ?_
              exact hs_5
            · refine Within.ite1 ?_ ?_
              · refine Within.snd1 ?_
                refine Within.ite ?_ ?_
                · refine modEng_within (Sub.trans (by decide) hM) ?_
                  exact hs_5
                · refine endAtOnce_within (Sub.trans (by decide) hM) ?_
                  exact hs_5
              · refine Within.snd1 ?_
                exact hs_5

theorem execSeqResume_within {A : Nat} {u : State} {a : Agent} {q : Fin 16} {s : State} (hM : Sub 0x320380060000000A11D A) (h_s : Within
    A u s) :
    OutWithin A u (execSeqResume a q s) := by
  unfold execSeqResume
  refine OutWithin.ok ?_
  refine answered_within (Sub.trans (by decide) hM) ?_
  refine atIngress_within (Sub.trans (by decide) hM) ?_ ?_
  · intro y0 hy1
    refine wrSeqCtl_within (Sub.trans (by decide) hM) ?_
    exact hy1
  · exact h_s

theorem execSeqResumeStart_within {A : Nat} {u : State} {q : Fin 16} {s : State} (hM : Sub 0x20000000000000200C A) (h_s : Within A u s) :
    OutWithin A u (execSeqResumeStart q s) := by
  unfold execSeqResumeStart
  refine OutWithin.whenOk ?_ ?_
  · exact h_s
  · refine raise_within (Sub.trans (by decide) hM) ?_
    refine modEng_within (Sub.trans (by decide) hM) ?_
    refine setSeqState_within (Sub.trans (by decide) hM) ?_
    exact h_s

theorem finishSlu_within {A : Nat} {u : State} {q k : Nat} {s : State} (hM : Sub 0x200000000000002000 A) (h_s : Within A u s) :
    Within A u (finishSlu q k s) := by
  unfold finishSlu
  extract_lets -merge -useContext +onlyGivenNames t_0
  have ht_0 : Within A u t_0 := by
    unfold t_0
    split
    · refine keepTicket_within (Sub.trans (by decide) hM) ?_
      exact h_s
    · exact h_s
  refine seqNext_within (Sub.trans (by decide) hM) ?_
  refine modEng_within (Sub.trans (by decide) hM) ?_
  exact ht_0

theorem pageArrives_within {A : Nat} {u : State} {q page : Nat} {b : List Byte} {s : State} (hM : Sub 0x200000000000002000 A) (h_s :
    Within A u s) :
    Within A u (pageArrives q page b s) := by
  unfold pageArrives
  extract_lets -merge -useContext +onlyGivenNames s_0 pc_1 s_2
  have hs_0 : Within A u s_0 := by
    refine modEng_within (Sub.trans (by decide) hM) ?_
    exact h_s
  have hs_2 : Within A u s_2 := by
    refine Within.ite ?_ ?_
    · refine touchPage_within (Sub.trans (by decide) hM) ?_
      refine setWait_within (Sub.trans (by decide) hM) ?_
      exact hs_0
    · exact hs_0
  refine retryLoads_within (Sub.trans (by decide) hM) ?_
  exact hs_2

theorem execPageLoadDone_within {A : Nat} {u : State} {q : Fin 16} {page : Nat} {st : Status} {s : State} (hM : Sub
    0x20A00020002000000800380C A) (h_s : Within A u s) :
    OutWithin A u (execPageLoadDone q page st s) := by
  have hx : Within A u (hbmLoad (4 + q.val) (s.get (SEQ_PROG_BASE q.val) + 4096 * page) 64 s).2.2 :=
    hbmLoad_within (Sub.trans (by decide) hM) h_s
  unfold execPageLoadDone
  generalize hbmLoad (4 + q.val) (s.get (SEQ_PROG_BASE q.val) + 4096 * page) 64 s = x at hx ⊢
  extract_lets -merge -useContext +onlyGivenNames e_0 x_1 st_2
  clear_value e_0 st_2
  refine OutWithin.whenOk h_s (Within.ite ?_ ?_)
  · exact pageArrives_within (Sub.trans (by decide) hM) hx
  · refine Within.ite h_s ?_
    refine endPattern_within (Sub.trans (by decide) hM) ?_
    exact modEng_within (Sub.trans (by decide) hM) hx

theorem execVectorPrefetch_within {A : Nat} {u : State} {q : Fin 16} {st : Status} {s : State} (hM : Sub 0x20A00000002000000800380C A)
    (h_s : Within A u s) :
    OutWithin A u (execVectorPrefetch q st s) := by
  unfold execVectorPrefetch
  extract_lets -merge -useContext +onlyGivenNames e_0 x_1 st_2
  have hx_1 : Within A u x_1.2.2 := by
    refine hbmLoad_within (Sub.trans (by decide) hM) ?_
    exact h_s
  refine OutWithin.whenOk ?_ ?_
  · exact h_s
  · refine Within.ite ?_ ?_
    · refine modEng_within (Sub.trans (by decide) hM) ?_
      exact hx_1
    · refine Within.ite ?_ ?_
      · exact h_s
      · refine endPattern_within (Sub.trans (by decide) hM) ?_
        exact hx_1

theorem seqTick_within {A : Nat} {u : State} {s : State} (hM : Sub 0x20000024000000203C A) (h_s : Within A u s) :
    Within A u (seqTick s) := by
  unfold seqTick
  refine forNat_within ?_ _ ?_
  · intro y0 y1 hy2
    refine seqTick1_within (Sub.trans (by decide) hM) ?_
    exact hy2
  · exact h_s

theorem execSlu_within {A : Nat} {u : State} {q : Fin 16} {s : State} (hM : Sub 0x20000024000000603C A) (h_s : Within A u s) :
    OutWithin A u (execSlu q s) := by
  unfold execSlu
  refine OutWithin.ok ?_
  refine seqExec_within (Sub.trans (by decide) hM) ?_ ?_
  · intro y0 y1 hy2
    beta_reduce
    extract_lets -merge -useContext +onlyGivenNames k_3
    refine runWait_within (Sub.trans (by decide) hM) ?_ ?_ ?_
    · intro y4 hy5
      refine beginSlu_within (Sub.trans (by decide) hM) ?_
      exact hy5
    · intro y6 hy7
      refine finishSlu_within (Sub.trans (by decide) hM) ?_
      exact hy7
    · exact hy2
  · exact h_s

theorem matchResult_within {A : Nat} {u : State} {q : Nat} {c : CycSeen} {s : State} (hM : Sub 0x200000000000002000 A) (h_s : Within A u
    s) :
    Within A u (matchResult q c s) := by
  unfold matchResult
  extract_lets -merge -useContext +onlyGivenNames fails_0 s_1 en_2 hit_3 got_4 s_5
  have hs_1 : Within A u s_1 := by
    refine modEng_within (Sub.trans (by decide) hM) ?_
    exact h_s
  have hs_5 : Within A u s_5 := by
    refine set_within _ (inMask (SEQ_SITE_MATCH_SITE_win _) (Sub.bit hM (by decide))) ?_
    exact hs_1
  refine Within.ite ?_ ?_
  · exact h_s
  · refine Within.ite ?_ ?_
    · refine modEng_within (Sub.trans (by decide) hM) ?_
      exact h_s
    · refine Within.ite ?_ ?_
      · exact hs_1
      · split
        · exact hs_1
        · refine Within.ite ?_ ?_
          · refine matchEnds_within (Sub.trans (by decide) hM) ?_
            exact hs_5
          · refine Within.ite ?_ ?_
            · refine Within.ite ?_ ?_
              · exact hs_5
              · refine matchEnds_within (Sub.trans (by decide) hM) ?_
                exact hs_5
            · refine Within.ite ?_ ?_
              · refine matchEnds_within (Sub.trans (by decide) hM) ?_
                exact hs_5
              · exact hs_5

theorem execSeqResultSeen_within {A : Nat} {u : State} {q : Fin 16} {s : State} (hM : Sub 0x200000000000002000 A) (h_s : Within A u s) :
    OutWithin A u (execSeqResultSeen q s) := by
  unfold execSeqResultSeen
  extract_lets -merge -useContext +onlyGivenNames e_0
  split
  · refine OutWithin.ok ?_
    exact h_s
  · extract_lets -merge -useContext +onlyGivenNames t_1 f_2
    have ht_1 : Within A u t_1 := by
      refine setEng_within (Sub.trans (by decide) hM) ?_
      exact h_s
    split
    · refine OutWithin.ok ?_
      refine matchResult_within (Sub.trans (by decide) hM) ?_
      exact ht_1
    · refine OutWithin.ok ?_
      refine set_within _ (inMask (SEQ_SITE_FAIL_SITE_win _) (Sub.bit hM (by decide))) ?_
      exact ht_1

theorem doMatch_within {A : Nat} {u : State} {q w : Nat} {s : State} (hM : Sub 0x200000000000006000 A) (h_s : Within A u s) :
    Within A u (doMatch q w s) := by
  unfold doMatch
  extract_lets -merge -useContext +onlyGivenNames fresh_0 s_1 e_2
  have hs_1 : Within A u s_1 := by
    refine Within.ite ?_ ?_
    · refine modEng_within (Sub.trans (by decide) hM) ?_
      refine set_within _ (inMask (SEQ_SITE_MATCH_SITE_win _) (Sub.bit hM (by decide))) ?_
      refine setWait_within (Sub.trans (by decide) hM) ?_
      exact h_s
    · exact h_s
  refine Within.ite ?_ ?_
  · exact hs_1
  · split
    · exact hs_1
    · refine modEng_within (Sub.trans (by decide) hM) ?_
      refine OptWithin.get (by assumption) ?_
      refine oneRep_within (Sub.trans (by decide) hM) ?_
      exact hs_1

theorem execSeqMatch_within {A : Nat} {u : State} {q : Fin 16} {s : State} (hM : Sub 0x20000000000000600C A) (h_s : Within A u s) :
    OutWithin A u (execSeqMatch q s) := by
  unfold execSeqMatch
  refine OutWithin.ok ?_
  refine seqExec_within (Sub.trans (by decide) hM) ?_ ?_
  · intro y0 y1 hy2
    refine doMatch_within (Sub.trans (by decide) hM) ?_
    exact hy2
  · exact h_s

theorem execJmp_within {A : Nat} {u : State} {q : Fin 16} {s : State} (hM : Sub 0x20000000000000600C A) (h_s : Within A u s) :
    OutWithin A u (execJmp q s) := by
  unfold execJmp
  refine OutWithin.ok ?_
  refine seqExec_within (Sub.trans (by decide) hM) ?_ ?_
  · intro y0 y1 hy2
    beta_reduce
    refine runVector_within (Sub.trans (by decide) hM) ?_ ?_
    · intro y3 hy4
      refine seqGoto_within (Sub.trans (by decide) hM) ?_
      exact hy4
    · exact hy2
  · exact h_s

theorem seqGroupLower_within {A : Nat} {u : State} {g : Nat} {s : State} (hM : Sub 0x120380060000000A11C A) (h_s : Within A u s) :
    Within A u (seqGroupLower g s) := by
  unfold seqGroupLower
  refine forNat_within ?_ _ ?_
  · intro y0 y1 hy2
    beta_reduce
    extract_lets -merge -useContext +onlyGivenNames q_3
    refine Within.ite ?_ ?_
    · exact hy2
    · refine endAtOnce_within (Sub.trans (by decide) hM) ?_
      exact hy2
  · exact h_s

theorem execMatchTimeout_within {A : Nat} {u : State} {q : Fin 16} {s : State} (hM : Sub 0x20000000000000200C A) (h_s : Within A u s) :
    OutWithin A u (execMatchTimeout q s) := by
  unfold execMatchTimeout
  extract_lets -merge -useContext +onlyGivenNames e_0 t_1
  have ht_1 : Within A u t_1 := by
    refine raise_within (Sub.trans (by decide) hM) ?_
    exact h_s
  split
  · refine OutWithin.ok ?_
    exact h_s
  · refine OutWithin.whenOk ?_ ?_
    · exact h_s
    · refine seqGoto_within (Sub.trans (by decide) hM) ?_
      refine insOps_within (Sub.trans (by decide) hM) ?_
      refine setWait_within (Sub.trans (by decide) hM) ?_
      exact ht_1

theorem execJc_within {A : Nat} {u : State} {q : Fin 16} {s : State} (hM : Sub 0x20000000000000600C A) (h_s : Within A u s) :
    OutWithin A u (execJc q s) := by
  unfold execJc
  refine OutWithin.ok ?_
  refine seqExec_within (Sub.trans (by decide) hM) ?_ ?_
  · intro y0 y1 hy2
    beta_reduce
    refine runVector_within (Sub.trans (by decide) hM) ?_ ?_
    · intro y3 hy4
      beta_reduce
      refine Within.ite ?_ ?_
      · refine seqGoto_within (Sub.trans (by decide) hM) ?_
        exact hy4
      · refine seqNext_within (Sub.trans (by decide) hM) ?_
        exact hy4
    · exact hy2
  · exact h_s

theorem execSeqAbort_within {A : Nat} {u : State} {a : Agent} {q : Fin 16} {nowClk : Nat} {s : State} (hM : Sub 0x320380060000000A11D A)
    (h_s : Within A u s) :
    OutWithin A u (execSeqAbort a q nowClk s) := by
  unfold execSeqAbort
  refine OutWithin.ok ?_
  refine answered_within (Sub.trans (by decide) hM) ?_
  refine atIngress_within (Sub.trans (by decide) hM) ?_ ?_
  · intro y0 hy1
    refine wrSeqCtl_within (Sub.trans (by decide) hM) ?_
    exact hy1
  · exact h_s

theorem execPatternEnd_within {A : Nat} {u : State} {q : Fin 16} {s : State} (hM : Sub 0x120180060000000A11C A) (h_s : Within A u s) :
    OutWithin A u (execPatternEnd q s) := by
  unfold execPatternEnd
  extract_lets -merge -useContext +onlyGivenNames e_0
  split
  · refine OutWithin.ok ?_
    exact h_s
  · refine OutWithin.whenOk ?_ ?_
    · exact h_s
    · refine finishPattern_within (Sub.trans (by decide) hM) ?_
      refine withdrawSlu_within (Sub.trans (by decide) hM) ?_
      exact h_s

theorem execSluTimeout_within {A : Nat} {u : State} {q : Fin 16} {s : State} (hM : Sub 0x20180060000000211C A) (h_s : Within A u s) :
    OutWithin A u (execSluTimeout q s) := by
  unfold execSluTimeout
  split
  · refine OutWithin.ok ?_
    exact h_s
  · extract_lets -merge -useContext +onlyGivenNames n_0 t_1
    have ht_1 : Within A u t_1 := by
      refine raise_within (Sub.trans (by decide) hM) ?_
      refine withdrawSlu_within (Sub.trans (by decide) hM) ?_
      exact h_s
    refine OutWithin.whenOk ?_ ?_
    · exact h_s
    · refine seqGoto_within (Sub.trans (by decide) hM) ?_
      refine insOps_within (Sub.trans (by decide) hM) ?_
      refine setWait_within (Sub.trans (by decide) hM) ?_
      exact ht_1

theorem execJfail_within {A : Nat} {u : State} {q : Fin 16} {s : State} (hM : Sub 0x20000000000000600C A) (h_s : Within A u s) :
    OutWithin A u (execJfail q s) := by
  unfold execJfail
  refine OutWithin.ok ?_
  refine seqExec_within (Sub.trans (by decide) hM) ?_ ?_
  · intro y0 y1 hy2
    beta_reduce
    refine Within.ite ?_ ?_
    · extract_lets -merge -useContext +onlyGivenNames known_3
      refine runWait_within (Sub.trans (by decide) hM) ?_ ?_ ?_
      · intro y4 hy5
        refine setWait_within (Sub.trans (by decide) hM) ?_
        exact hy5
      · intro y6 hy7
        refine doJfail_within (Sub.trans (by decide) hM) ?_
        exact hy7
      · exact hy2
    · refine runVector_within (Sub.trans (by decide) hM) ?_ ?_
      · intro y8 hy9
        refine doJfail_within (Sub.trans (by decide) hM) ?_
        exact hy9
      · exact hy2
  · exact h_s

theorem execSeqStop_within {A : Nat} {u : State} {a : Agent} {q : Fin 16} {s : State} (hM : Sub 0x320380060000000A11D A) (h_s : Within A
    u s) :
    OutWithin A u (execSeqStop a q s) := by
  unfold execSeqStop
  refine OutWithin.ok ?_
  refine answered_within (Sub.trans (by decide) hM) ?_
  refine atIngress_within (Sub.trans (by decide) hM) ?_ ?_
  · intro y0 hy1
    refine wrSeqCtl_within (Sub.trans (by decide) hM) ?_
    exact hy1
  · exact h_s

theorem seqGroupReset_within {A : Nat} {u : State} {g : Nat} {s : State} (hM : Sub 0x20380060000000211C A) (h_s : Within A u s) :
    Within A u (seqGroupReset g s) := by
  unfold seqGroupReset
  refine forNat_within ?_ _ ?_
  · intro y0 y1 hy2
    beta_reduce
    extract_lets -merge -useContext +onlyGivenNames q_3 t_4 m_5 t_6 w_7
    have ht_4 : Within A u t_4 := by
      refine withdrawSlu_within (Sub.trans (by decide) hM) ?_
      refine discardCycles_within (Sub.trans (by decide) hM) ?_
      exact hy2
    have ht_6 : Within A u t_6 := by
      refine jetsIdle_within (Sub.trans (by decide) hM) ?_
      refine resetRegs_within _ _ 13201655726080 13202729467903 69 1 0x200000000000000000 (by decide) (by decide) (by decide) (Sub.trans (by decide) hM) (by omega) (by omega) ?_
      exact ht_4
    refine setEng_within (Sub.trans (by decide) hM) ?_
    refine set_within _ (inMask (SEQ_STAT_PAUSE_SRC_win _) (Sub.bit hM (by decide))) ?_
    exact ht_6
  · exact h_s

theorem execSeqPause_within {A : Nat} {u : State} {a : Agent} {q : Fin 16} {s : State} (hM : Sub 0x320380060000000A11D A) (h_s : Within A
    u s) :
    OutWithin A u (execSeqPause a q s) := by
  unfold execSeqPause
  refine OutWithin.ok ?_
  refine answered_within (Sub.trans (by decide) hM) ?_
  refine atIngress_within (Sub.trans (by decide) hM) ?_ ?_
  · intro y0 hy1
    refine wrSeqCtl_within (Sub.trans (by decide) hM) ?_
    exact hy1
  · exact h_s

theorem execMark_within {A : Nat} {u : State} {q : Fin 16} {s : State} (hM : Sub 0x20000000000000600C A) (h_s : Within A u s) :
    OutWithin A u (execMark q s) := by
  unfold execMark
  refine OutWithin.ok ?_
  refine seqExec_within (Sub.trans (by decide) hM) ?_ ?_
  · intro y0 y1 hy2
    beta_reduce
    refine runVector_within (Sub.trans (by decide) hM) ?_ ?_
    · intro y3 hy4
      beta_reduce
      refine seqNext_within (Sub.trans (by decide) hM) ?_
      refine doMark_within (Sub.trans (by decide) hM) ?_
      exact hy4
    · exact hy2
  · exact h_s

theorem execEndl_within {A : Nat} {u : State} {q : Fin 16} {s : State} (hM : Sub 0x20000000000000600C A) (h_s : Within A u s) :
    OutWithin A u (execEndl q s) := by
  unfold execEndl
  refine OutWithin.ok ?_
  refine seqExec_within (Sub.trans (by decide) hM) ?_ ?_
  · intro y0 y1 hy2
    beta_reduce
    refine Within.ite ?_ ?_
    · refine endPattern_within (Sub.trans (by decide) hM) ?_
      exact hy2
    · refine runVector_within (Sub.trans (by decide) hM) ?_ ?_
      · intro y3 hy4
        refine doEndl_within (Sub.trans (by decide) hM) ?_
        exact hy4
      · exact hy2
  · exact h_s

theorem execSeqStart_within {A : Nat} {u : State} {a : Agent} {q : Fin 16} {v ns : Nat} {s : State} (hM : Sub 0x320380060000000A11D A)
    (h_s : Within A u s) :
    OutWithin A u (execSeqStart a q v ns s) := by
  unfold execSeqStart
  refine OutWithin.ok ?_
  refine answered_within (Sub.trans (by decide) hM) ?_
  refine atIngress_within (Sub.trans (by decide) hM) ?_ ?_
  · intro y0 hy1
    refine wrSeqCtl_within (Sub.trans (by decide) hM) ?_
    exact hy1
  · exact h_s

theorem execRet_within {A : Nat} {u : State} {q : Fin 16} {s : State} (hM : Sub 0x20000000000000600C A) (h_s : Within A u s) :
    OutWithin A u (execRet q s) := by
  unfold execRet
  refine OutWithin.ok ?_
  refine seqExec_within (Sub.trans (by decide) hM) ?_ ?_
  · intro y0 y1 hy2
    beta_reduce
    split
    · refine endPattern_within (Sub.trans (by decide) hM) ?_
      exact hy2
    · refine runVector_within (Sub.trans (by decide) hM) ?_ ?_
      · intro y3 hy4
        beta_reduce
        refine seqGoto_within (Sub.trans (by decide) hM) ?_
        refine modEng_within (Sub.trans (by decide) hM) ?_
        exact hy4
      · exact hy2
  · exact h_s

end Sys2Proof.Machine
end

