-- ==== Sys2Proof/Laws/WithinSignal.lean ====
section
/-! SUPPORT. What each operation of Machine/Signal.lean can reach (see Laws/Within.lean). -/
set_option Elab.async false
namespace Sys2Proof.Machine

theorem setScFifo_within {A : Nat} {u : State} {c k : Nat} {l : List ScSample} {s : State} (hM : Sub 0x20000 A) (h_s : Within A u s) :
    Within A u (setScFifo c k l s) := by
  unfold setScFifo
  refine modSc_within (Sub.trans (by decide) hM) ?_
  exact h_s

theorem scDropped_within {A : Nat} {u : State} {c : Nat} {l : List (Nat × Nat)} {s : State} (hM : Sub 0x30000000000000002000C A) (h_s :
    Within A u s) :
    Within A u (scDropped c l s) := by
  unfold scDropped
  refine Within.ite ?_ ?_
  · exact h_s
  · extract_lets -merge -useContext +onlyGivenNames mask_0 s_1 s_2
    have hs_1 : Within A u s_1 := by
      refine forEach_within ?_ _ ?_
      · intro y3 y4 hy5
        beta_reduce
        extract_lets -merge -useContext +onlyGivenNames t_6 w_7
        have ht_6 : Within A u t_6 := by
          refine State.count_within (Sub.trans (by decide) hM) (inMask (SC_DROP_COUNT_win _ _) (Sub.bit hM (by decide))) ?_
          exact hy5
        refine Within.sc_ (Sub.bit hM (by decide)) ?_
        exact ht_6
      · exact h_s
    have hs_2 : Within A u s_2 := by
      refine State.setIf_within (Sub.trans (by decide) hM) (inMask (SC_IRQ_PEND_win _) (Sub.bit hM (by decide))) ?_
      exact hs_1
    refine raiseOnce_within (Sub.trans (by decide) hM) ?_
    exact hs_2

theorem scWake_within {A : Nat} {u : State} {c : Nat} {s : State} (hM : Sub 0x100000000000000020000 A) (h_s : Within A u s) :
    Within A u (scWake c s) := by
  unfold scWake
  refine modSc_within (Sub.trans (by decide) hM) ?_
  refine set_within _ (inMask (SC_STAT_STATE_win _) (Sub.bit hM (by decide))) ?_
  exact h_s

theorem scArrival_within {A : Nat} {u : State} {c k : Nat} {x : ScSample} {s : State} (hM : Sub 0x30000000000000002000C A) (h_s : Within
    A u s) :
    Within A u (scArrival c k x s) := by
  unfold scArrival
  extract_lets -merge -useContext +onlyGivenNames l_0 s_1 s_2
  have hs_1 : Within A u s_1 := by
    refine setScFifo_within (Sub.trans (by decide) hM) ?_
    exact h_s
  have hs_2 : Within A u s_2 := by
    refine State.setIf_within (Sub.trans (by decide) hM) (inMask (SC_IRQ_PEND_win _) (Sub.bit hM (by decide))) ?_
    exact hs_1
  refine Within.ite ?_ ?_
  · refine scDropped_within (Sub.trans (by decide) hM) ?_
    exact h_s
  · refine Within.ite ?_ ?_
    · refine scWake_within (Sub.trans (by decide) hM) ?_
      exact hs_2
    · exact hs_2

theorem scStart_within {A : Nat} {u : State} {c : Nat} {s : State} (hM : Sub 0x400000000070000000000000002000C A) (h_s : Within A u s) :
    Within A u (scStart c s) := by
  unfold scStart
  extract_lets -merge -useContext +onlyGivenNames old_0 flushed_1 w_2 s_3 s_4 s_5 s_6 s_7 s_8 s_9
  have hs_3 : Within A u s_3 := by
    refine setScCore_within (Sub.trans (by decide) hM) ?_
    exact h_s
  have hs_4 : Within A u s_4 := by
    refine forNat_within ?_ _ ?_
    · intro y10 y11 hy12
      beta_reduce
      refine set_within _ (inMask (SC_RES_FRESH_win _ _) (Sub.bit hM (by decide))) ?_
      refine set_within _ (inMask (SC_RES_RES_win _ _) (Sub.bit hM (by decide))) ?_
      exact hy12
    · exact hs_3
  have hs_5 : Within A u s_5 := by
    refine set_within _ (inMask (SC_STAT_SHADOW_win _) (Sub.bit hM (by decide))) ?_
    refine set_within _ (inMask (SC_IRQ_PEND_win _) (Sub.bit hM (by decide))) ?_
    refine set_within _ (inMask (SC_IRQ_EN_win _) (Sub.bit hM (by decide))) ?_
    exact hs_4
  have hs_6 : Within A u s_6 := by
    refine scDropped_within (Sub.trans (by decide) hM) ?_
    exact hs_5
  have hs_7 : Within A u s_7 := by
    refine Within.ite ?_ ?_
    · refine setScMemory_within (Sub.trans (by decide) hM) ?_
      refine setScMemory_within (Sub.trans (by decide) hM) ?_
      exact hs_6
    · exact hs_6
  have hs_8 : Within A u s_8 := by
    refine set_within _ (inMask (SC_STAT_STATE_win _) (Sub.bit hM (by decide))) ?_
    refine set_within _ (inMask (SC_STAT_PC_win _) (Sub.bit hM (by decide))) ?_
    exact hs_7
  have hs_9 : Within A u s_9 := by
    refine raise_within (Sub.trans (by decide) hM) ?_
    exact hs_8
  refine Within.ite ?_ ?_
  · refine scHalt_within (Sub.trans (by decide) hM) ?_
    exact hs_9
  · exact hs_9

theorem wrScCtl_within {A : Nat} {u : State} {a : Agent} {c v : Nat} {s : State} (hM : Sub 0x400000000070000000000000002000C A) (h_s :
    Within A u s) :
    Within A u (wrScCtl a c v s).2 := by
  unfold wrScCtl
  extract_lets -merge -useContext +onlyGivenNames start_0 stop_1 w_2
  have hw_2 : Within A u w_2 := by
    refine writeFlds_within (Sub.trans (by decide) hM) (inMasks (SC_CTL_fields_win _) (Sub.bit hM (by decide))) ?_
    exact h_s
  refine Within.ite1 ?_ ?_
  · refine Within.snd1 ?_
    exact h_s
  · refine Within.ite1 ?_ ?_
    · refine Within.snd1 ?_
      exact h_s
    · refine Within.ite1 ?_ ?_
      · refine Within.ite1 ?_ ?_
        · refine Within.snd1 ?_
          refine scStart_within (Sub.trans (by decide) hM) ?_
          exact hw_2
        · refine Within.snd1 ?_
          exact h_s
      · refine Within.ite1 ?_ ?_
        · refine Within.snd1 ?_
          refine Within.ite ?_ ?_
          · exact hw_2
          · refine haltDue_within (Sub.trans (by decide) hM) ?_
            refine scStop_within (Sub.trans (by decide) hM) ?_
            exact hw_2
        · refine Within.snd1 ?_
          exact hw_2

theorem scMove_within {A : Nat} {u : State} {c m a d : Nat} {store : Bool} {step : ScSet → ScSet} {old : ScSet} {s : State} (hM : Sub
    0x20000 A) (h_s : Within A u s) :
    StepWithin A u (scMove c m a d store step old s) := by
  unfold scMove
  refine StepWithin.ite ?_ ?_
  · refine scDone_within (Sub.trans (by decide) hM) ?_
    refine modSet_within (Sub.trans (by decide) hM) ?_
    refine scStore_within (Sub.trans (by decide) hM) ?_
    exact h_s
  · split
    · refine scDone_within (Sub.trans (by decide) hM) ?_
      refine modSet_within (Sub.trans (by decide) hM) ?_
      exact h_s
    · exact StepWithin.fault

theorem scLdsta_within {A : Nat} {u : State} {c w : Nat} {old : ScSet} {s : State} (hM : Sub 0x20000 A) (h_s : Within A u s) :
    StepWithin A u (scLdsta c w old s) := by
  unfold scLdsta
  refine scMove_within (Sub.trans (by decide) hM) ?_
  exact h_s

theorem scEnter_within {A : Nat} {u : State} {c : Nat} {s : State} (hM : Sub 0x100000000000000020000 A) (h_s : Within A u s) :
    Within A u (scEnter c s) := by
  unfold scEnter
  extract_lets -merge -useContext +onlyGivenNames s_0 s_1 s_2
  have hs_0 : Within A u s_0 := by
    refine Within.ite ?_ ?_
    · refine scSequential_within (Sub.trans (by decide) hM) ?_
      exact h_s
    · exact h_s
  have hs_1 : Within A u s_1 := by
    refine scWake_within (Sub.trans (by decide) hM) ?_
    exact hs_0
  have hs_2 : Within A u s_2 := by
    refine modSc_within (Sub.trans (by decide) hM) ?_
    exact hs_1
  refine scGoto_within (Sub.trans (by decide) hM) ?_
  refine set_within _ (inMask (SC_STAT_SHADOW_win _) (Sub.bit hM (by decide))) ?_
  exact hs_2

theorem scSetp_within {A : Nat} {u : State} {c w : Nat} {x : ScSet} {s : State} (hM : Sub 0x20000 A) (h_s : Within A u s) :
    StepWithin A u (scSetp c w x s) := by
  unfold scSetp
  extract_lets -merge -useContext +onlyGivenNames i_0 v_1 cls_2
  refine StepWithin.ite ?_ ?_
  · exact StepWithin.fault
  · refine scDone_within (Sub.trans (by decide) hM) ?_
    refine modSet_within (Sub.trans (by decide) hM) ?_
    exact h_s

theorem execSetp_within {A : Nat} {u : State} {c : Fin 32} {s : State} (hM : Sub 0x400000000010000000000000802000C A) (h_s : Within A u s) :
    OutWithin A u (execSetp c s) := by
  unfold execSetp
  refine OutWithin.ok ?_
  refine scExec_within (Sub.trans (by decide) hM) ?_ ?_
  · intro y0 y1 y2 hy3
    refine scSetp_within (Sub.trans (by decide) hM) ?_
    exact hy3
  · exact h_s

theorem execWaiti_within {A : Nat} {u : State} {c : Fin 32} {s : State} (hM : Sub 0x400000000010000000000000802000C A) (h_s : Within A u
    s) :
    OutWithin A u (execWaiti c s) := by
  unfold execWaiti
  refine OutWithin.ok ?_
  refine scExec_within (Sub.trans (by decide) hM) ?_ ?_
  · intro y0 y1 y2 hy3
    beta_reduce
    refine StepWithin.wait ?_
    exact hy3
  · exact h_s

theorem scPutLine_within {A : Nat} {u : State} {c : Nat} {s : State} (hM : Sub 0x20A00000002000000800180C A) (h_s : Within A u s) :
    Within A u (scPutLine c s).2 := by
  unfold scPutLine
  extract_lets -merge -useContext +onlyGivenNames n_0 wr_1 a_2 at__3 b_4 src_5
  refine Within.ite1 ?_ ?_
  · refine Within.snd1 ?_
    exact h_s
  · split
    · refine Within.snd1 ?_
      exact h_s
    · refine hbmPutLine_within (Sub.trans (by decide) hM) ?_
      refine takeLines_within (Sub.trans (by decide) hM) ?_
      exact h_s

theorem scLineWrite_within {A : Nat} {u : State} {c : Nat} {st : Status} {s : State} (hM : Sub 0x20A10000002000000802180C A) (h_s :
    Within A u s) :
    Within A u (scLineWrite c st s) := by
  unfold scLineWrite
  extract_lets -merge -useContext +onlyGivenNames n_0 x_1 st_2 s_3 left_4 s_5 s_6
  have hx_1 : Within A u x_1.2 := by
    refine scPutLine_within (Sub.trans (by decide) hM) ?_
    exact h_s
  have hs_3 : Within A u s_3 := by
    refine set_within _ (inMask (SC_RING_PTR_WR_win _) (Sub.bit hM (by decide))) ?_
    exact hx_1
  have hs_5 : Within A u s_5 := by
    refine modSc_within (Sub.trans (by decide) hM) ?_
    refine set_within _ (inMask (SC_STAT_RERR_win _) (Sub.bit hM (by decide))) ?_
    exact h_s
  have hs_6 : Within A u s_6 := by
    refine Within.ite ?_ ?_
    · exact hs_5
    · refine modSc_within (Sub.trans (by decide) hM) ?_
      refine scFault_within (Sub.trans (by decide) hM) ?_
      exact hs_5
  refine Within.ite ?_ ?_
  · refine modSc_within (Sub.trans (by decide) hM) ?_
    exact hs_3
  · refine raise_within (Sub.trans (by decide) hM) ?_
    exact hs_6

theorem scAop_within {A : Nat} {u : State} {c w : Nat} {old : ScSet} {s : State} (hM : Sub 0x20000 A) (h_s : Within A u s) :
    StepWithin A u (scAop c w old s) := by
  unfold scAop
  extract_lets -merge -useContext +onlyGivenNames a_0 fn_1 sh_2 d_3 av_4 r_5
  refine StepWithin.ite ?_ ?_
  · exact StepWithin.fault
  · refine scDone_within (Sub.trans (by decide) hM) ?_
    refine modSet_within (Sub.trans (by decide) hM) ?_
    exact h_s

theorem scHostWrite_within {A : Nat} {u : State} {a : Agent} {c m w v : Nat} {s : State} (hM : Sub 0x20000 A) (h_s : Within A u s) :
    Within A u (scHostWrite a c m w v s).2 := by
  unfold scHostWrite
  refine Within.ite1 ?_ ?_
  · refine Within.snd1 ?_
    exact h_s
  · refine Within.ite1 ?_ ?_
    · refine Within.snd1 ?_
      exact h_s
    · refine Within.ite1 ?_ ?_
      · refine Within.snd1 ?_
        exact h_s
      · refine Within.snd1 ?_
        refine scStore_within (Sub.trans (by decide) hM) ?_
        exact h_s

theorem scLower_within {A : Nat} {u : State} {d : Nat} {s : State} (hM : Sub 0x10000000000000002000C A) (h_s : Within A u s) :
    Within A u (scLower d s) := by
  unfold scLower
  refine forEach_within ?_ _ ?_
  · intro y0 y1 hy2
    beta_reduce
    refine Within.ite ?_ ?_
    · exact hy2
    · refine scStop_within (Sub.trans (by decide) hM) ?_
      exact hy2
  · exact h_s

theorem scMva_within {A : Nat} {u : State} {c w : Nat} {old : ScSet} {s : State} (hM : Sub 0x20000 A) (h_s : Within A u s) :
    StepWithin A u (scMva c w old s) := by
  unfold scMva
  extract_lets -merge -useContext +onlyGivenNames sh_0 v_1 q_2 clamped_3 r_4
  refine StepWithin.ite ?_ ?_
  · exact StepWithin.fault
  · refine scDone_within (Sub.trans (by decide) hM) ?_
    refine modSet_within (Sub.trans (by decide) hM) ?_
    exact h_s

theorem scLdh_within {A : Nat} {u : State} {c w : Nat} {old : ScSet} {s : State} (hM : Sub 0x20000 A) (h_s : Within A u s) :
    StepWithin A u (scLdh c w old s) := by
  unfold scLdh
  extract_lets -merge -useContext +onlyGivenNames i_0
  refine scDone_within (Sub.trans (by decide) hM) ?_
  refine modSet_within (Sub.trans (by decide) hM) ?_
  exact h_s

theorem execScInterrupt_within {A : Nat} {u : State} {c : Fin 32} {s : State} (hM : Sub 0x100000000000000020000 A) (h_s : Within A u s) :
    OutWithin A u (execScInterrupt c s) := by
  unfold execScInterrupt
  refine OutWithin.whenOk ?_ ?_
  · exact h_s
  · refine scEnter_within (Sub.trans (by decide) hM) ?_
    exact h_s

theorem scOutIns_within {A : Nat} {u : State} {c w : Nat} {old : ScSet} {s : State} (hM : Sub 0x50000000000000002000C A) (h_s : Within A
    u s) :
    StepWithin A u (scOutIns c w old s) := by
  unfold scOutIns
  extract_lets -merge -useContext +onlyGivenNames v_0
  split
  · exact StepWithin.fault
  · refine StepWithin.ite ?_ ?_
    · refine scDone_within (Sub.trans (by decide) hM) ?_
      refine set_within _ (inMask (SC_RES_FRESH_win _ _) (Sub.bit hM (by decide))) ?_
      refine set_within _ (inMask (SC_RES_RES_win _ _) (Sub.bit hM (by decide))) ?_
      exact h_s
    · refine StepWithin.ite ?_ ?_
      · refine scDone_within (Sub.trans (by decide) hM) ?_
        refine set_within _ (inMask (SC_IRQ_PEND_win _) (Sub.bit hM (by decide))) ?_
        exact h_s
      · refine StepWithin.ite ?_ ?_
        · refine scDone_within (Sub.trans (by decide) hM) ?_
          refine raise_within (Sub.trans (by decide) hM) ?_
          exact h_s
        · refine StepWithin.ite ?_ ?_
          · refine scDone_within (Sub.trans (by decide) hM) ?_
            refine modSet_within (Sub.trans (by decide) hM) ?_
            exact h_s
          · refine StepWithin.ite ?_ ?_
            · refine StepWithin.ite ?_ ?_
              · exact StepWithin.fault
              · refine StepWithin.ite ?_ ?_
                · refine StepWithin.wait ?_
                  refine Within.ite ?_ ?_
                  · exact h_s
                  · refine raise_within (Sub.trans (by decide) hM) ?_
                    refine modSc_within (Sub.trans (by decide) hM) ?_
                    exact h_s
                · refine scDone_within (Sub.trans (by decide) hM) ?_
                  refine modSc_within (Sub.trans (by decide) hM) ?_
                  exact h_s
            · refine StepWithin.ite ?_ ?_
              · refine scDone_within (Sub.trans (by decide) hM) ?_
                refine set_within _ (inMask (SC_IRQ_EN_win _) (Sub.bit hM (by decide))) ?_
                exact h_s
              · exact StepWithin.fault

theorem execMva_within {A : Nat} {u : State} {c : Fin 32} {s : State} (hM : Sub 0x400000000010000000000000802000C A) (h_s : Within A u s) :
    OutWithin A u (execMva c s) := by
  unfold execMva
  refine OutWithin.ok ?_
  refine scExec_within (Sub.trans (by decide) hM) ?_ ?_
  · intro y0 y1 y2 hy3
    refine scMva_within (Sub.trans (by decide) hM) ?_
    exact hy3
  · exact h_s

theorem execScStart_within {A : Nat} {u : State} {a : Agent} {c : Fin 32} {v : Nat} {s : State} (hM : Sub
    0x400000000070000000000000002000D A) (h_s : Within A u s) :
    OutWithin A u (execScStart a c v s) := by
  unfold execScStart
  refine OutWithin.ok ?_
  refine answered_within (Sub.trans (by decide) hM) ?_
  refine atIngress_within (Sub.trans (by decide) hM) ?_ ?_
  · intro y0 hy1
    refine wrScCtl_within (Sub.trans (by decide) hM) ?_
    exact hy1
  · exact h_s

theorem execScStopCommand_within {A : Nat} {u : State} {a : Agent} {c : Fin 32} {s : State} (hM : Sub 0x400000000070000000000000002000D
    A) (h_s : Within A u s) :
    OutWithin A u (execScStopCommand a c s) := by
  unfold execScStopCommand
  refine OutWithin.ok ?_
  refine answered_within (Sub.trans (by decide) hM) ?_
  refine atIngress_within (Sub.trans (by decide) hM) ?_ ?_
  · intro y0 hy1
    refine wrScCtl_within (Sub.trans (by decide) hM) ?_
    exact hy1
  · exact h_s

theorem scMvr_within {A : Nat} {u : State} {c w : Nat} {old : ScSet} {s : State} (hM : Sub 0x20000 A) (h_s : Within A u s) :
    StepWithin A u (scMvr c w old s) := by
  unfold scMvr
  extract_lets -merge -useContext +onlyGivenNames dc_0 di_1 sc_2 si_3 v_4
  refine StepWithin.ite ?_ ?_
  · exact StepWithin.fault
  · refine scDone_within (Sub.trans (by decide) hM) ?_
    refine modSet_within (Sub.trans (by decide) hM) ?_
    exact h_s

theorem scClear_within {A : Nat} {u : State} {c : Nat} {s : State} (hM : Sub 0x500000000000000020000 A) (h_s : Within A u s) :
    Within A u (scClear c s) := by
  unfold scClear
  refine setScCore_within (Sub.trans (by decide) hM) ?_
  refine resetRegs_within _ _ 13204878524416 13205950693375 82 1 0x400000000000000000000 (by decide) (by decide) (by decide) (Sub.trans (by decide) hM) (by omega) (by omega) ?_
  refine resetRegs_within _ _ 13204877213696 13204878000127 80 1 0x100000000000000000000 (by decide) (by decide) (by decide) (Sub.trans (by decide) hM) (by omega) (by omega) ?_
  exact h_s

theorem scToStopped_within {A : Nat} {u : State} {c : Nat} {s : State} (hM : Sub 0x10000000000000002000C A) (h_s : Within A u s) :
    Within A u (scToStopped c s) := by
  unfold scToStopped
  refine Within.ite ?_ ?_
  · exact h_s
  · refine scStop_within (Sub.trans (by decide) hM) ?_
    exact h_s

theorem wrScMap_within {A : Nat} {u : State} {a : Agent} {c v : Nat} {s : State} (hM : Sub 0x58000000000000002000C A) (h_s : Within A u s) :
    Within A u (wrScMap a c v s).2 := by
  unfold wrScMap
  extract_lets -merge -useContext +onlyGivenNames p_0 old_1 s_2
  have hs_2 : Within A u s_2 := by
    refine scUndefined_within (Sub.trans (by decide) hM) ?_
    refine scClear_within (Sub.trans (by decide) hM) ?_
    refine scToStopped_within (Sub.trans (by decide) hM) ?_
    exact h_s
  refine Within.ite1 ?_ ?_
  · refine Within.snd1 ?_
    exact h_s
  · refine Within.ite1 ?_ ?_
    · refine Within.snd1 ?_
      exact h_s
    · refine Within.ite1 ?_ ?_
      · refine Within.snd1 ?_
        exact h_s
      · refine Within.ite1 ?_ ?_
        · refine Within.snd1 ?_
          exact h_s
        · refine Within.snd1 ?_
          refine raise_within (Sub.trans (by decide) hM) ?_
          refine set_within _ (inMask (SC_MAP_PHYS_win _) (Sub.bit hM (by decide))) ?_
          exact hs_2

theorem execScMapWrite_within {A : Nat} {u : State} {a : Agent} {c : Fin 32} {phys : Nat} {s : State} (hM : Sub 0x58000000000000002000D
    A) (h_s : Within A u s) :
    OutWithin A u (execScMapWrite a c phys s) := by
  unfold execScMapWrite
  refine OutWithin.ok ?_
  refine answered_within (Sub.trans (by decide) hM) ?_
  refine Within.ite1 ?_ ?_
  · refine Within.snd1 ?_
    exact h_s
  · refine wrScMap_within (Sub.trans (by decide) hM) ?_
    exact h_s

theorem scLdi_within {A : Nat} {u : State} {c w : Nat} {x : ScSet} {s : State} (hM : Sub 0x20000 A) (h_s : Within A u s) :
    StepWithin A u (scLdi c w x s) := by
  unfold scLdi
  refine scDone_within (Sub.trans (by decide) hM) ?_
  refine modSet_within (Sub.trans (by decide) hM) ?_
  exact h_s

theorem wrScHost_within {A : Nat} {u : State} {a : Agent} {c v : Nat} {s : State} (hM : Sub 0x100000000000000000000 A) (h_s : Within A u
    s) :
    Within A u (wrScHost a c v s).2 := by
  unfold wrScHost
  refine Within.ite1 ?_ ?_
  · refine Within.snd1 ?_
    exact h_s
  · refine Within.snd1 ?_
    refine set_within _ (inMask (SC_IRQ_PEND_win _) (Sub.bit hM (by decide))) ?_
    refine writeFlds_within (Sub.trans (by decide) hM) (inMasks (SC_HOST_fields_win _) (Sub.bit hM (by decide))) ?_
    exact h_s

theorem scTick_within {A : Nat} {u : State} {s : State} (hM : Sub 0x100000000000000020000 A) (h_s : Within A u s) :
    Within A u (scTick s) := by
  unfold scTick
  extract_lets -merge -useContext +onlyGivenNames s_0 w_1
  have hs_0 : Within A u s_0 := by
    refine forNat_within ?_ _ ?_
    · intro y2 y3 hy4
      beta_reduce
      refine Within.ite ?_ ?_
      · extract_lets -merge -useContext +onlyGivenNames t_5 t_6
        have ht_5 : Within A u t_5 := by
          refine set_within _ (inMask (SC_IRQ_PEND_win _) (Sub.bit hM (by decide))) ?_
          exact hy4
        have ht_6 : Within A u t_6 := by
          refine Within.ite ?_ ?_
          · exact ht_5
          · refine modSc_within (Sub.trans (by decide) hM) ?_
            exact ht_5
        refine bucketLeak_within (Sub.trans (by decide) hM) (inMask (SC_ECC_STAT_LEVEL_win _) (Sub.bit hM (by decide))) (inMask (SC_ECC_CTL_LEAK_win _) (Sub.bit hM (by decide))) ?_
        exact ht_6
      · exact hy4
    · exact h_s
  clear_value s_0
  refine Within.sc_ (Sub.bit hM (by decide)) ?_
  exact hs_0

theorem scBr_within {A : Nat} {u : State} {x w : Nat} {old : ScSet} {s : State} (_ : Sub 0x0 A) (h_s : Within A u s) :
    StepWithin A u (scBr x w old s) := by
  unfold scBr
  extract_lets -merge -useContext +onlyGivenNames cond_0 t_1
  refine StepWithin.ite ?_ ?_
  · exact StepWithin.fault
  · refine StepWithin.done ?_
    exact h_s

theorem execBr_within {A : Nat} {u : State} {c : Fin 32} {s : State} (hM : Sub 0x400000000010000000000000802000C A) (h_s : Within A u s) :
    OutWithin A u (execBr c s) := by
  unfold execBr
  refine OutWithin.ok ?_
  refine scExec_within (Sub.trans (by decide) hM) ?_ ?_
  · intro y0 y1 y2 hy3
    refine scBr_within (Sub.trans (by decide) hM) ?_
    exact hy3
  · exact h_s

theorem scLdst_within {A : Nat} {u : State} {c w : Nat} {old : ScSet} {s : State} (hM : Sub 0x20000 A) (h_s : Within A u s) :
    StepWithin A u (scLdst c w old s) := by
  unfold scLdst
  extract_lets -merge -useContext +onlyGivenNames p_0
  refine scMove_within (Sub.trans (by decide) hM) ?_
  exact h_s

theorem scInIns_within {A : Nat} {u : State} {c w : Nat} {old : ScSet} {s : State} (hM : Sub 0x20000 A) (h_s : Within A u s) :
    StepWithin A u (scInIns c w old s) := by
  unfold scInIns
  extract_lets -merge -useContext +onlyGivenNames d_0 late_1
  have hlate_1 : ∀ y2 y3, Within A u y3 → StepWithin A u (late_1 y2 y3) := by
    intro y2 y3 hy4
    unfold late_1
    refine scDone_within (Sub.trans (by decide) hM) ?_
    refine modSet_within (Sub.trans (by decide) hM) ?_
    exact hy4
  split
  · exact StepWithin.fault
  · refine StepWithin.ite ?_ ?_
    · split
      · refine StepWithin.ite ?_ ?_
        · refine StepWithin.wait ?_
          exact h_s
        · apply hlate_1
          refine modSet_within (Sub.trans (by decide) hM) ?_
          exact h_s
      · extract_lets -merge -useContext +onlyGivenNames s_5 s_6
        have hs_5 : Within A u s_5 := by
          refine setScFifo_within (Sub.trans (by decide) hM) ?_
          exact h_s
        have hs_6 : Within A u s_6 := by
          refine modSc_within (Sub.trans (by decide) hM) ?_
          exact hs_5
        apply hlate_1
        refine modSet_within (Sub.trans (by decide) hM) ?_
        exact hs_6
    · refine StepWithin.ite ?_ ?_
      · apply hlate_1
        exact h_s
      · refine StepWithin.ite ?_ ?_
        · apply hlate_1
          exact h_s
        · refine StepWithin.ite ?_ ?_
          · apply hlate_1
            exact h_s
          · refine StepWithin.ite ?_ ?_
            · apply hlate_1
              exact h_s
            · refine StepWithin.ite ?_ ?_
              · apply hlate_1
                exact h_s
              · refine StepWithin.ite ?_ ?_
                · apply hlate_1
                  exact h_s
                · exact StepWithin.fault

theorem execScIn_within {A : Nat} {u : State} {c : Fin 32} {s : State} (hM : Sub 0x400000000010000000000000802000C A) (h_s : Within A u s) :
    OutWithin A u (execScIn c s) := by
  unfold execScIn
  refine OutWithin.ok ?_
  refine scExec_within (Sub.trans (by decide) hM) ?_ ?_
  · intro y0 y1 y2 hy3
    refine scInIns_within (Sub.trans (by decide) hM) ?_
    exact hy3
  · exact h_s

theorem execAop_within {A : Nat} {u : State} {c : Fin 32} {s : State} (hM : Sub 0x400000000010000000000000802000C A) (h_s : Within A u s) :
    OutWithin A u (execAop c s) := by
  unfold execAop
  refine OutWithin.ok ?_
  refine scExec_within (Sub.trans (by decide) hM) ?_ ?_
  · intro y0 y1 y2 hy3
    refine scAop_within (Sub.trans (by decide) hM) ?_
    exact hy3
  · exact h_s

theorem wrScRingCfg_within {A : Nat} {u : State} {a : Agent} {c v : Nat} {s : State} (hM : Sub 0x100000000000000020000 A) (h_s : Within A
    u s) :
    Within A u (wrScRingCfg a c v s).2 := by
  unfold wrScRingCfg
  extract_lets -merge -useContext +onlyGivenNames n_0
  refine Within.ite1 ?_ ?_
  · refine Within.snd1 ?_
    exact h_s
  · refine Within.ite1 ?_ ?_
    · refine Within.snd1 ?_
      exact h_s
    · refine Within.snd1 ?_
      refine modSc_within (Sub.trans (by decide) hM) ?_
      refine set_within _ (inMask (SC_RING_PTR_WR_win _) (Sub.bit hM (by decide))) ?_
      refine set_within _ (inMask (SC_RING_PTR_RD_win _) (Sub.bit hM (by decide))) ?_
      refine writeFlds_within (Sub.trans (by decide) hM) (inMasks (SC_RING_CFG_fields_win _) (Sub.bit hM (by decide))) ?_
      exact h_s

theorem scLoopIns_within {A : Nat} {u : State} {c w : Nat} {old : ScSet} {s : State} (hM : Sub 0x20000 A) (h_s : Within A u s) :
    StepWithin A u (scLoopIns c w old s) := by
  unfold scLoopIns
  extract_lets -merge -useContext +onlyGivenNames n_0 fin_1 start_2
  refine StepWithin.ite ?_ ?_
  · exact StepWithin.fault
  · refine StepWithin.ite ?_ ?_
    · refine StepWithin.done ?_
      exact h_s
    · refine scDone_within (Sub.trans (by decide) hM) ?_
      refine modSet_within (Sub.trans (by decide) hM) ?_
      exact h_s

theorem execScLoop_within {A : Nat} {u : State} {c : Fin 32} {s : State} (hM : Sub 0x400000000010000000000000802000C A) (h_s : Within A u
    s) :
    OutWithin A u (execScLoop c s) := by
  unfold execScLoop
  refine OutWithin.ok ?_
  refine scExec_within (Sub.trans (by decide) hM) ?_ ?_
  · intro y0 y1 y2 hy3
    refine scLoopIns_within (Sub.trans (by decide) hM) ?_
    exact hy3
  · exact h_s

theorem execLdi_within {A : Nat} {u : State} {c : Fin 32} {s : State} (hM : Sub 0x400000000010000000000000802000C A) (h_s : Within A u s) :
    OutWithin A u (execLdi c s) := by
  unfold execLdi
  refine OutWithin.ok ?_
  refine scExec_within (Sub.trans (by decide) hM) ?_ ?_
  · intro y0 y1 y2 hy3
    refine scLdi_within (Sub.trans (by decide) hM) ?_
    exact hy3
  · exact h_s

theorem scRti_within {A : Nat} {u : State} {x1 x2 : Nat} {x3 : ScSet} {s : State} (_ : Sub 0x0 A) (h_s : Within A u s) :
    StepWithin A u (scRti x1 x2 x3 s) := by
  unfold scRti
  refine StepWithin.done ?_
  exact h_s

theorem execRti_within {A : Nat} {u : State} {c : Fin 32} {s : State} (hM : Sub 0x400000000010000000000000802000C A) (h_s : Within A u s) :
    OutWithin A u (execRti c s) := by
  unfold execRti
  refine OutWithin.ok ?_
  refine scExec_within (Sub.trans (by decide) hM) ?_ ?_
  · intro y0 y1 y2 hy3
    refine scRti_within (Sub.trans (by decide) hM) ?_
    exact hy3
  · exact h_s

theorem wrScRingPtr_within {A : Nat} {u : State} {a : Agent} {c v : Nat} {s : State} (hM : Sub 0x100000000000000020000 A) (h_s : Within A
    u s) :
    Within A u (wrScRingPtr a c v s).2 := by
  unfold wrScRingPtr
  refine Within.ite1 ?_ ?_
  · refine Within.snd1 ?_
    exact h_s
  · refine Within.ite1 ?_ ?_
    · refine Within.snd1 ?_
      exact h_s
    · extract_lets -merge -useContext +onlyGivenNames s_0
      have hs_0 : Within A u s_0 := by
        refine writeFlds_within (Sub.trans (by decide) hM) (inMasks (SC_RING_PTR_fields_win _) (Sub.bit hM (by decide))) ?_
        exact h_s
      refine Within.snd1 ?_
      refine Within.ite ?_ ?_
      · refine scWake_within (Sub.trans (by decide) hM) ?_
        exact hs_0
      · exact hs_0

theorem execLdh_within {A : Nat} {u : State} {c : Fin 32} {s : State} (hM : Sub 0x400000000010000000000000802000C A) (h_s : Within A u s) :
    OutWithin A u (execLdh c s) := by
  unfold execLdh
  refine OutWithin.ok ?_
  refine scExec_within (Sub.trans (by decide) hM) ?_ ?_
  · intro y0 y1 y2 hy3
    refine scLdh_within (Sub.trans (by decide) hM) ?_
    exact hy3
  · exact h_s

theorem execScSampleArrival_within {A : Nat} {u : State} {c : Fin 32} {k : Fin 16} {sample : Nat} {clamped isOver : Bool} {s : State} (hM
    : Sub 0x30000000000000002010C A) (h_s : Within A u s) :
    OutWithin A u (execScSampleArrival c k sample clamped isOver s) := by
  unfold execScSampleArrival
  extract_lets -merge -useContext +onlyGivenNames n_0 w_1
  split
  · refine OutWithin.ok ?_
    exact h_s
  · refine OutWithin.whenOk ?_ ?_
    · exact h_s
    · refine scArrival_within (Sub.trans (by decide) hM) ?_
      refine Within.jets_ (Sub.bit hM (by decide)) ?_
      exact h_s

theorem scRts_within {A : Nat} {u : State} {x1 x2 : Nat} {old : ScSet} {s : State} (_ : Sub 0x0 A) (h_s : Within A u s) :
    StepWithin A u (scRts x1 x2 old s) := by
  unfold scRts
  refine StepWithin.done ?_
  exact h_s

theorem wrScCfg_within {A : Nat} {u : State} {a : Agent} {c v : Nat} {s : State} (hM : Sub 0x100000000000000000000 A) (h_s : Within A u s) :
    Within A u (wrScCfg a c v s).2 := by
  unfold wrScCfg
  extract_lets -merge -useContext +onlyGivenNames t_0
  refine Within.ite1 ?_ ?_
  · refine Within.snd1 ?_
    exact h_s
  · refine Within.ite1 ?_ ?_
    · refine Within.snd1 ?_
      exact h_s
    · refine Within.snd1 ?_
      refine writeFlds_within (Sub.trans (by decide) hM) (inMasks (SC_CFG_fields_win _) (Sub.bit hM (by decide))) ?_
      exact h_s

theorem execScScrubWord_within {A : Nat} {u : State} {c : Fin 32} {mem : ScMem} {word : Nat} {u_ : Ecc} {s : State} (hM : Sub
    0x10000000000000802000C A) (h_s : Within A u s) :
    OutWithin A u (execScScrubWord c mem word u_ s) := by
  unfold execScScrubWord
  extract_lets -merge -useContext +onlyGivenNames m_0 x_1
  refine OutWithin.whenOk ?_ ?_
  · exact h_s
  · refine Within.ite ?_ ?_
    · refine raise_within (Sub.trans (by decide) hM) ?_
      refine setScMemory_within (Sub.trans (by decide) hM) ?_
      refine noteSign_within (Sub.trans (by decide) hM) ?_
      refine State.count_within (Sub.trans (by decide) hM) (inMask (SC_ECC_STAT_UNCORR_win _) (Sub.bit hM (by decide))) ?_
      exact h_s
    · refine Within.ite ?_ ?_
      · refine bucketHit_within (Sub.trans (by decide) hM) (inMask (SC_ECC_STAT_CORR_win _) (Sub.bit hM (by decide))) (inMask (SC_ECC_STAT_LEVEL_win _) (Sub.bit hM (by decide))) (inMask (SC_ECC_STAT_OVERFLOW_win _) (Sub.bit hM (by decide))) (inMask (SC_ECC_CTL_BUCKET_win _) (Sub.bit hM (by decide))) ?_
        exact h_s
      · exact h_s

theorem wrScEccCtl_within {A : Nat} {u : State} {a : Agent} {c v : Nat} {s : State} (hM : Sub 0x100000000000000000000 A) (h_s : Within A
    u s) :
    Within A u (wrScEccCtl a c v s).2 := by
  unfold wrScEccCtl
  refine Within.ite1 ?_ ?_
  · refine Within.snd1 ?_
    exact h_s
  · refine Within.ite1 ?_ ?_
    · refine Within.snd1 ?_
      exact h_s
    · refine Within.snd1 ?_
      refine writeFlds_within (Sub.trans (by decide) hM) (inMasks (SC_ECC_CTL_fields_win _) (Sub.bit hM (by decide))) ?_
      exact h_s

theorem execLdsta_within {A : Nat} {u : State} {c : Fin 32} {s : State} (hM : Sub 0x400000000010000000000000802000C A) (h_s : Within A u
    s) :
    OutWithin A u (execLdsta c s) := by
  unfold execLdsta
  refine OutWithin.ok ?_
  refine scExec_within (Sub.trans (by decide) hM) ?_ ?_
  · intro y0 y1 y2 hy3
    refine scLdsta_within (Sub.trans (by decide) hM) ?_
    exact hy3
  · exact h_s

theorem execScOut_within {A : Nat} {u : State} {c : Fin 32} {s : State} (hM : Sub 0x400000000050000000000000802000C A) (h_s : Within A u
    s) :
    OutWithin A u (execScOut c s) := by
  unfold execScOut
  refine OutWithin.ok ?_
  refine scExec_within (Sub.trans (by decide) hM) ?_ ?_
  · intro y0 y1 y2 hy3
    refine scOutIns_within (Sub.trans (by decide) hM) ?_
    exact hy3
  · exact h_s

theorem scHostRead_within {A : Nat} {u : State} {c m w : Nat} {s : State} (hM : Sub 0x1 A) (h_s : Within A u s) :
    Within A u (scHostRead c m w s) := by
  unfold scHostRead
  refine Within.ite ?_ ?_
  · refine answer_within (Sub.trans (by decide) hM) ?_
    exact h_s
  · extract_lets -merge -useContext +onlyGivenNames v_0 v_1
    refine Within.resp_ (Sub.bit hM (by decide)) ?_
    exact h_s

theorem execMvr_within {A : Nat} {u : State} {c : Fin 32} {s : State} (hM : Sub 0x400000000010000000000000802000C A) (h_s : Within A u s) :
    OutWithin A u (execMvr c s) := by
  unfold execMvr
  refine OutWithin.ok ?_
  refine scExec_within (Sub.trans (by decide) hM) ?_ ?_
  · intro y0 y1 y2 hy3
    refine scMvr_within (Sub.trans (by decide) hM) ?_
    exact hy3
  · exact h_s

theorem execScStop_within {A : Nat} {u : State} {c : Fin 32} {s : State} (hM : Sub 0x400000000010000000000000802000C A) (h_s : Within A u
    s) :
    OutWithin A u (execScStop c s) := by
  unfold execScStop
  refine OutWithin.ok ?_
  refine scExec_within (Sub.trans (by decide) hM) ?_ ?_
  · intro y0 y1 y2 hy3
    beta_reduce
    refine scDone_within (Sub.trans (by decide) hM) ?_
    refine scStop_within (Sub.trans (by decide) hM) ?_
    exact hy3
  · exact h_s

theorem execScHostWrite_within {A : Nat} {u : State} {a : Agent} {c : Fin 32} {v : Nat} {s : State} (hM : Sub 0x100000000000000000001 A)
    (h_s : Within A u s) :
    OutWithin A u (execScHostWrite a c v s) := by
  unfold execScHostWrite
  refine OutWithin.ok ?_
  refine answered_within (Sub.trans (by decide) hM) ?_
  refine atIngress_within (Sub.trans (by decide) hM) ?_ ?_
  · intro y0 hy1
    refine wrScHost_within (Sub.trans (by decide) hM) ?_
    exact hy1
  · exact h_s

theorem execScMemoryAccess_within {A : Nat} {u : State} {a : Agent} {c : Fin 32} {mem : ScMem} {word : Nat} {write : Option Nat} {s :
    State} (hM : Sub 0x20001 A) (h_s : Within A u s) :
    OutWithin A u (execScMemoryAccess a c mem word write s) := by
  unfold execScMemoryAccess
  split
  · refine OutWithin.ok ?_
    refine answer_within (Sub.trans (by decide) hM) ?_
    exact h_s
  · refine OutWithin.ok ?_
    refine answered_within (Sub.trans (by decide) hM) ?_
    refine scHostWrite_within (Sub.trans (by decide) hM) ?_
    exact h_s
  · refine OutWithin.ok ?_
    refine scHostRead_within (Sub.trans (by decide) hM) ?_
    exact h_s

theorem execNop_within {A : Nat} {u : State} {c : Fin 32} {s : State} (hM : Sub 0x400000000010000000000000802000C A) (h_s : Within A u s) :
    OutWithin A u (execNop c s) := by
  unfold execNop
  refine OutWithin.ok ?_
  refine scExec_within (Sub.trans (by decide) hM) ?_ ?_
  · intro y0 y1 y2 hy3
    beta_reduce
    refine scDone_within (Sub.trans (by decide) hM) ?_
    exact hy3
  · exact h_s

theorem scAlu_within {A : Nat} {u : State} {c w : Nat} {old : ScSet} {s : State} (hM : Sub 0x20000 A) (h_s : Within A u s) :
    StepWithin A u (scAlu c w old s) := by
  unfold scAlu
  extract_lets -merge -useContext +onlyGivenNames fn_0 imm_1 a_2 b_3 r_4 clamped_5 v_6
  refine StepWithin.ite ?_ ?_
  · exact StepWithin.fault
  · refine scDone_within (Sub.trans (by decide) hM) ?_
    refine modSet_within (Sub.trans (by decide) hM) ?_
    exact h_s

theorem execAlu_within {A : Nat} {u : State} {c : Fin 32} {s : State} (hM : Sub 0x400000000010000000000000802000C A) (h_s : Within A u s) :
    OutWithin A u (execAlu c s) := by
  unfold execAlu
  refine OutWithin.ok ?_
  refine scExec_within (Sub.trans (by decide) hM) ?_ ?_
  · intro y0 y1 y2 hy3
    refine scAlu_within (Sub.trans (by decide) hM) ?_
    exact hy3
  · exact h_s

theorem scJsr_within {A : Nat} {u : State} {c w : Nat} {x : ScSet} {s : State} (hM : Sub 0x20000 A) (h_s : Within A u s) :
    StepWithin A u (scJsr c w x s) := by
  unfold scJsr
  extract_lets -merge -useContext +onlyGivenNames lr_0
  refine StepWithin.done ?_
  refine modSet_within (Sub.trans (by decide) hM) ?_
  exact h_s

theorem scMac_within {A : Nat} {u : State} {c w : Nat} {old : ScSet} {s : State} (hM : Sub 0x20000 A) (h_s : Within A u s) :
    StepWithin A u (scMac c w old s) := by
  unfold scMac
  extract_lets -merge -useContext +onlyGivenNames a_0 mode_1 dm_2 dn_3 px_4 xm_5 py_6 ym_7 prod_8 acc_9 xv_10 yv_11
  clear_value xv_10
  clear_value yv_11
  split
  · extract_lets -merge -useContext +onlyGivenNames late_12
    refine scDone_within (Sub.trans (by decide) hM) ?_
    refine modSet_within (Sub.trans (by decide) hM) ?_
    exact h_s
  · exact StepWithin.fault

theorem scOff_within {A : Nat} {u : State} {d : Nat} {s : State} (hM : Sub 0x4000000000500000000000000020000 A) (h_s : Within A u s) :
    Within A u (scOff d s) := by
  unfold scOff
  refine forEach_within ?_ _ ?_
  · intro y0 y1 hy2
    beta_reduce
    refine scUndefined_within (Sub.trans (by decide) hM) ?_
    refine scClear_within (Sub.trans (by decide) hM) ?_
    refine set_within _ (inMask (DBG_RUN_STEPPING_win _) (Sub.bit hM (by decide))) ?_
    refine set_within _ (inMask (DBG_RUN_HALTED_win _) (Sub.bit hM (by decide))) ?_
    exact hy2
  · exact h_s

theorem execScRingLineWrite_within {A : Nat} {u : State} {c : Fin 32} {st : Status} {s : State} (hM : Sub 0x20A10000002000000806180C A)
    (h_s : Within A u s) :
    OutWithin A u (execScRingLineWrite c st s) := by
  unfold execScRingLineWrite
  extract_lets -merge -useContext +onlyGivenNames at__0 x_1
  have hx_1 : Within A u x_1.2 := by
    refine nocReach_within (Sub.trans (by decide) hM) ?_
    exact h_s
  refine OutWithin.whenOk ?_ ?_
  · exact h_s
  · refine Within.ite ?_ ?_
    · exact hx_1
    · refine scLineWrite_within (Sub.trans (by decide) hM) ?_
      exact hx_1

theorem scReset_within {A : Nat} {u : State} {d : Nat} {s : State} (hM : Sub 0x400000000050000000000000002000C A) (h_s : Within A u s) :
    Within A u (scReset d s) := by
  unfold scReset
  refine forEach_within ?_ _ ?_
  · intro y0 y1 hy2
    beta_reduce
    refine scClear_within (Sub.trans (by decide) hM) ?_
    refine set_within _ (inMask (DBG_RUN_STEPPING_win _) (Sub.bit hM (by decide))) ?_
    refine set_within _ (inMask (DBG_RUN_HALTED_win _) (Sub.bit hM (by decide))) ?_
    refine scToStopped_within (Sub.trans (by decide) hM) ?_
    exact hy2
  · exact h_s

theorem execLdst_within {A : Nat} {u : State} {c : Fin 32} {s : State} (hM : Sub 0x400000000010000000000000802000C A) (h_s : Within A u s) :
    OutWithin A u (execLdst c s) := by
  unfold execLdst
  refine OutWithin.ok ?_
  refine scExec_within (Sub.trans (by decide) hM) ?_ ?_
  · intro y0 y1 y2 hy3
    refine scLdst_within (Sub.trans (by decide) hM) ?_
    exact hy3
  · exact h_s

theorem execJsr_within {A : Nat} {u : State} {c : Fin 32} {s : State} (hM : Sub 0x400000000010000000000000802000C A) (h_s : Within A u s) :
    OutWithin A u (execJsr c s) := by
  unfold execJsr
  refine OutWithin.ok ?_
  refine scExec_within (Sub.trans (by decide) hM) ?_ ?_
  · intro y0 y1 y2 hy3
    refine scJsr_within (Sub.trans (by decide) hM) ?_
    exact hy3
  · exact h_s

theorem execRts_within {A : Nat} {u : State} {c : Fin 32} {s : State} (hM : Sub 0x400000000010000000000000802000C A) (h_s : Within A u s) :
    OutWithin A u (execRts c s) := by
  unfold execRts
  refine OutWithin.ok ?_
  refine scExec_within (Sub.trans (by decide) hM) ?_ ?_
  · intro y0 y1 y2 hy3
    refine scRts_within (Sub.trans (by decide) hM) ?_
    exact hy3
  · exact h_s

theorem execMac_within {A : Nat} {u : State} {c : Fin 32} {s : State} (hM : Sub 0x400000000010000000000000802000C A) (h_s : Within A u s) :
    OutWithin A u (execMac c s) := by
  unfold execMac
  refine OutWithin.ok ?_
  refine scExec_within (Sub.trans (by decide) hM) ?_ ?_
  · intro y0 y1 y2 hy3
    refine scMac_within (Sub.trans (by decide) hM) ?_
    exact hy3
  · exact h_s

end Sys2Proof.Machine
end

