-- ==== Sys2Proof/Laws/WithinWeir.lean ====
section
/-! SUPPORT. What each operation of Machine/Weir.lean can reach (see Laws/Within.lean). -/
set_option Elab.async false
namespace Sys2Proof.Machine

theorem saveEnd_within {A : Nat} {u : State} {c0 c1 : Bool} {hottest : Int} {s : State} (hM : Sub 0x8000000000000040C A) (h_s : Within A
    u s) :
    Within A u (saveEnd c0 c1 hottest s) := by
  unfold saveEnd
  extract_lets -merge -useContext +onlyGivenNames r_0 st_1 s_2 s_3 w_4
  have hs_2 : Within A u s_2 := by
    refine set_within _ (inMask (WEIR_CAL_INFO_BUSY_win) (Sub.bit hM (by decide))) ?_
    refine set_within _ (inMask (WEIR_CAL_INFO_SAVE_STATUS_win) (Sub.bit hM (by decide))) ?_
    exact h_s
  have hs_3 : Within A u s_3 := by
    refine State.setIf_within (Sub.trans (by decide) hM) (inMask (WEIR_CAL_INFO_DIRTY_win) (Sub.bit hM (by decide))) ?_
    exact hs_2
  refine raise_within (Sub.trans (by decide) hM) ?_
  refine Within.weir_ (Sub.bit hM (by decide)) ?_
  exact hs_3

theorem copyCal_within {A : Nat} {u : State} {n : Nat} {s : State} (hM : Sub 0x20000000000000000 A) (h_s : Within A u s) :
    Within A u (copyCal n s) := by
  unfold copyCal
  refine set_within _ (inMask (ET_CH_CORR_CORR_CMP_win _) (Sub.bit hM (by decide))) ?_
  refine set_within _ (inMask (ET_CH_CORR_CORR_DRV_win _) (Sub.bit hM (by decide))) ?_
  refine set_within _ (inMask (ET_CH_CAL_CAL_CMP_win _) (Sub.bit hM (by decide))) ?_
  refine set_within _ (inMask (ET_CH_CAL_CAL_DRV_win _) (Sub.bit hM (by decide))) ?_
  exact h_s

theorem calTake_within {A : Nat} {u : State} {x : BallCal} {s : State} (hM : Sub 0x120000000000000400 A) (h_s : Within A u s) :
    Within A u (calTake x s) := by
  unfold calTake
  extract_lets -merge -useContext +onlyGivenNames n_0 s_1 w_2
  have hs_1 : Within A u s_1 := by
    refine set_within _ (inMask (WEIR_CH_STAT_SETTLING_win _) (Sub.bit hM (by decide))) ?_
    refine set_within _ (inMask (WEIR_CH_STAT_UNCAL_win _) (Sub.bit hM (by decide))) ?_
    refine set_within _ (inMask (WEIR_CH_CORR_CORR_CMP_win _) (Sub.bit hM (by decide))) ?_
    refine set_within _ (inMask (WEIR_CH_CORR_CORR_DRV_win _) (Sub.bit hM (by decide))) ?_
    refine set_within _ (inMask (WEIR_CH_CAL_CAL_CMP_win _) (Sub.bit hM (by decide))) ?_
    refine set_within _ (inMask (WEIR_CH_CAL_CAL_DRV_win _) (Sub.bit hM (by decide))) ?_
    exact h_s
  refine copyCal_within (Sub.trans (by decide) hM) ?_
  refine Within.weir_ (Sub.bit hM (by decide)) ?_
  exact hs_1

theorem calBankEnd_within {A : Nat} {u : State} {results : List BallCal} {x : CalBank} {s : State} (hM : Sub 0x1A0000000000000400 A) (h_s
    : Within A u s) :
    Within A u (calBankEnd results x s) := by
  unfold calBankEnd
  extract_lets -merge -useContext +onlyGivenNames l_0 code_1
  refine Within.ite ?_ ?_
  · refine set_within _ (inMask (WEIR_CAL_STAT_FAILED_win) (Sub.bit hM (by decide))) ?_
    refine set_within _ (inMask (WEIR_CAL_ERR_CODE_win _) (Sub.bit hM (by decide))) ?_
    exact h_s
  · refine set_within _ (inMask (WEIR_CAL_STAT_DONE_win) (Sub.bit hM (by decide))) ?_
    refine forEach_within ?_ _ ?_
    · intro y2 y3 hy4
      refine calTake_within (Sub.trans (by decide) hM) ?_
      exact hy4
    · exact h_s

theorem calEnd_within {A : Nat} {u : State} {results : List BallCal} {l : List CalBank} {s : State} (hM : Sub 0x1A000000000000040C A)
    (h_s : Within A u s) :
    Within A u (calEnd results l s) := by
  unfold calEnd
  extract_lets -merge -useContext +onlyGivenNames s_0 s_1 s_2 w_3
  have hs_0 : Within A u s_0 := by
    refine set_within _ (inMask (WEIR_CAL_STAT_FAILED_win) (Sub.bit hM (by decide))) ?_
    refine set_within _ (inMask (WEIR_CAL_STAT_DONE_win) (Sub.bit hM (by decide))) ?_
    exact h_s
  have hs_1 : Within A u s_1 := by
    refine forEach_within ?_ _ ?_
    · intro y4 y5 hy6
      refine calBankEnd_within (Sub.trans (by decide) hM) ?_
      exact hy6
    · exact hs_0
  have hs_2 : Within A u s_2 := by
    refine set_within _ (inMask (WEIR_CAL_INFO_BUSY_win) (Sub.bit hM (by decide))) ?_
    refine State.setIf_within (Sub.trans (by decide) hM) (inMask (WEIR_CAL_INFO_DIRTY_win) (Sub.bit hM (by decide))) ?_
    exact hs_1
  refine raise_within (Sub.trans (by decide) hM) ?_
  refine Within.weir_ (Sub.bit hM (by decide)) ?_
  exact hs_2

theorem execWeirCalibrationEnd_within {A : Nat} {u : State} {results : List BallCal} {s : State} (hM : Sub 0x1A000000000000040C A) (h_s :
    Within A u s) :
    OutWithin A u (execWeirCalibrationEnd results s) := by
  unfold execWeirCalibrationEnd
  split
  · refine OutWithin.ok ?_
    exact h_s
  · refine OutWithin.whenOk ?_ ?_
    · exact h_s
    · refine calEnd_within (Sub.trans (by decide) hM) ?_
      exact h_s

theorem wrWeirLim_within {A : Nat} {u : State} {a : Agent} {v : Nat} {s : State} (hM : Sub 0x40000000000000000 A) (h_s : Within A u s) :
    Within A u (wrWeirLim a v s).2 := by
  unfold wrWeirLim
  refine Within.ite1 ?_ ?_
  · refine Within.snd1 ?_
    exact h_s
  · refine Within.ite1 ?_ ?_
    · refine Within.snd1 ?_
      exact h_s
    · refine Within.snd1 ?_
      refine writeFlds_within (Sub.trans (by decide) hM) (inMasks (WEIR_LIM_fields_win) (Sub.bit hM (by decide))) ?_
      exact h_s

theorem limitStep_within {A : Nat} {u : State} {n : Nat} {compare : Bool} {step : Int} {s : State} (hM : Sub 0x10000000000000000C A) (h_s
    : Within A u s) :
    Within A u (limitStep n compare step s).2 := by
  unfold limitStep
  extract_lets -merge -useContext +onlyGivenNames corr_0
  refine Within.ite1 ?_ ?_
  · refine Within.snd1 ?_
    refine raise_within (Sub.trans (by decide) hM) ?_
    refine set_within _ (InMask.ite (inMask (WEIR_CH_STAT_LIMIT_CMP_win _) (Sub.bit hM (by decide))) (inMask (WEIR_CH_STAT_LIMIT_DRV_win _) (Sub.bit hM (by decide)))) ?_
    exact h_s
  · refine Within.snd1 ?_
    exact h_s

theorem weirQuiet_within {A : Nat} {u : State} {n : Nat} {quiet settled : Bool} {s : State} (hM : Sub 0x10000000000000000C A) (h_s :
    Within A u s) :
    Within A u (weirQuiet n quiet settled s) := by
  unfold weirQuiet
  extract_lets -merge -useContext +onlyGivenNames q_0 s_1 q_2 stale_3 s_4
  have hs_1 : Within A u s_1 := by
    refine State.count_within (Sub.trans (by decide) hM) (inMask (WEIR_CH_STAT_QUIET_win _) (Sub.bit hM (by decide))) ?_
    exact h_s
  have hs_4 : Within A u s_4 := by
    refine State.setIf_within (Sub.trans (by decide) hM) (inMask (WEIR_CH_STAT_SETTLING_win _) (Sub.bit hM (by decide))) ?_
    refine set_within _ (inMask (WEIR_CH_STAT_STALE_win _) (Sub.bit hM (by decide))) ?_
    refine set_within _ (inMask (WEIR_CH_STAT_QUIET_win _) (Sub.bit hM (by decide))) ?_
    exact h_s
  refine Within.ite ?_ ?_
  · refine Within.ite ?_ ?_
    · refine raise_within (Sub.trans (by decide) hM) ?_
      refine set_within _ (inMask (WEIR_CH_STAT_STALE_win _) (Sub.bit hM (by decide))) ?_
      exact hs_1
    · exact hs_1
  · refine Within.ite ?_ ?_
    · refine raise_within (Sub.trans (by decide) hM) ?_
      exact hs_4
    · exact hs_4

theorem closeChannel_within {A : Nat} {u : State} {n : Nat} {p : List WeirStep × State} (hM : Sub 0x10000000000000000C A) (h_p : Within A
    u p.2) :
    Within A u (closeChannel n p).2 := by
  unfold closeChannel
  extract_lets -merge -useContext +onlyGivenNames s_0 a_1 drv_2 cmp_3 cnt_4 s_5 db_6 okD_7 okC_8 quiet_9 inside_10 d_11 c_12
  have hs_0 : Within A u s_0 := by
    exact h_p
  have hs_5 : Within A u s_5 := by
    refine set_within _ (inMask (WEIR_CH_STAT_SENT_LAST_win _) (Sub.bit hM (by decide))) ?_
    refine set_within _ (inMask (WEIR_CH_EST_EDGES_CMP_win _) (Sub.bit hM (by decide))) ?_
    refine set_within _ (inMask (WEIR_CH_EST_EDGES_DRV_win _) (Sub.bit hM (by decide))) ?_
    refine set_within _ (inMask (WEIR_CH_EST_EST_CMP_win _) (Sub.bit hM (by decide))) ?_
    refine set_within _ (inMask (WEIR_CH_EST_EST_DRV_win _) (Sub.bit hM (by decide))) ?_
    exact hs_0
  have hd_11 : Within A u d_11.2 := by
    refine Within.ite1 ?_ ?_
    · refine limitStep_within (Sub.trans (by decide) hM) ?_
      exact hs_5
    · refine Within.snd1 ?_
      exact hs_5
  have hc_12 : Within A u c_12.2 := by
    refine Within.ite1 ?_ ?_
    · refine limitStep_within (Sub.trans (by decide) hM) ?_
      exact hd_11
    · refine Within.snd1 ?_
      exact hd_11
  refine Within.ite1 ?_ ?_
  · exact h_p
  · refine Within.ite1 ?_ ?_
    · refine Within.snd1 ?_
      exact hs_5
    · refine Within.snd1 ?_
      refine weirQuiet_within (Sub.trans (by decide) hM) ?_
      exact hc_12

theorem weirClose_within {A : Nat} {u : State} {frame : Nat} {s : State} (hM : Sub 0x10000000000000040C A) (h_s : Within A u s) :
    Within A u (weirClose frame s) := by
  have hp : Within A u ((List.range 512).foldl (fun p n => closeChannel n p) (([] : List WeirStep), s)).2 := by
    generalize List.range 512 = l
    exact foldl_within1 (fun b x hb => closeChannel_within (Sub.trans (by decide) hM) hb) l _ h_s
  unfold weirClose
  revert hp
  generalize (List.range 512).foldl (fun p n => closeChannel n p) (([] : List WeirStep), s) = p
  intro hp
  exact Within.weir_ (Sub.bit hM (by decide)) hp

theorem markUncal_within {A : Nat} {u : State} {n cause : Nat} {s : State} (hM : Sub 0x10000000000000040C A) (h_s : Within A u s) :
    Within A u (markUncal n cause s) := by
  unfold markUncal
  extract_lets -merge -useContext +onlyGivenNames s_0 w_1
  have hs_0 : Within A u s_0 := by
    refine set_within _ (inMask (WEIR_CH_CORR_CORR_CMP_win _) (Sub.bit hM (by decide))) ?_
    refine set_within _ (inMask (WEIR_CH_CORR_CORR_DRV_win _) (Sub.bit hM (by decide))) ?_
    refine set_within _ (inMask (WEIR_CH_CAL_CAL_CMP_win _) (Sub.bit hM (by decide))) ?_
    refine set_within _ (inMask (WEIR_CH_CAL_CAL_DRV_win _) (Sub.bit hM (by decide))) ?_
    refine set_within _ (inMask (WEIR_CH_STAT_UNCAL_win _) (Sub.bit hM (by decide))) ?_
    exact h_s
  refine raise_within (Sub.trans (by decide) hM) ?_
  refine Within.weir_ (Sub.bit hM (by decide)) ?_
  exact hs_0

theorem checkUncal_within {A : Nat} {u : State} {n : Nat} {s : State} (hM : Sub 0x10000000000000040C A) (h_s : Within A u s) :
    Within A u (checkUncal n s) := by
  unfold checkUncal
  extract_lets -merge -useContext +onlyGivenNames p_0
  refine Within.ite ?_ ?_
  · exact h_s
  · refine Within.ite ?_ ?_
    · refine markUncal_within (Sub.trans (by decide) hM) ?_
      exact h_s
    · refine Within.ite ?_ ?_
      · refine markUncal_within (Sub.trans (by decide) hM) ?_
        exact h_s
      · exact h_s

theorem applyEntry_within {A : Nat} {u : State} {c : List Byte} {n : Nat} {s : State} (hM : Sub 0x100000000000000400 A) (h_s : Within A u
    s) :
    Within A u (applyEntry c n s) := by
  unfold applyEntry
  extract_lets -merge -useContext +onlyGivenNames at__0 s_1 w_2
  have hs_1 : Within A u s_1 := by
    refine set_within _ (inMask (WEIR_CH_CAL_CAL_CMP_win _) (Sub.bit hM (by decide))) ?_
    refine set_within _ (inMask (WEIR_CH_CAL_CAL_DRV_win _) (Sub.bit hM (by decide))) ?_
    exact h_s
  refine Within.weir_ (Sub.bit hM (by decide)) ?_
  exact hs_1

theorem weirBoot_within {A : Nat} {u : State} {s : State} (hM : Sub 0x18000000000000040C A) (h_s : Within A u s) :
    Within A u (weirBoot s) := by
  unfold weirBoot
  refine Within.ite ?_ ?_
  · exact h_s
  · split
    · refine forNat_within ?_ _ ?_
      · intro y0 y1 hy2
        refine checkUncal_within (Sub.trans (by decide) hM) ?_
        exact hy2
      · refine forNat_within ?_ _ ?_
        · intro y3 y4 hy5
          refine applyEntry_within (Sub.trans (by decide) hM) ?_
          exact hy5
        · refine set_within _ (inMask (WEIR_CAL_INFO_RECORD_OK_win) (Sub.bit hM (by decide))) ?_
          exact h_s
    · extract_lets -merge -useContext +onlyGivenNames crc_6
      refine forNat_within ?_ _ ?_
      · intro y7 y8 hy9
        beta_reduce
        refine markUncal_within (Sub.trans (by decide) hM) ?_
        exact hy9
      · refine raise_within (Sub.trans (by decide) hM) ?_
        exact h_s

theorem keepCorr_within {A : Nat} {u : State} {n : Nat} {s : State} (hM : Sub 0x200 A) (h_s : Within A u s) :
    Within A u (keepCorr n s) := by
  unfold keepCorr
  extract_lets -merge -useContext +onlyGivenNames q_0 oldest_1 l_2 upTo_3 w_4
  refine Within.edge_ (Sub.bit hM (by decide)) ?_
  exact h_s

theorem applyStep_within {A : Nat} {u : State} {x : WeirStep} {s : State} (hM : Sub 0x120000000000000200 A) (h_s : Within A u s) :
    Within A u (applyStep x s) := by
  unfold applyStep
  refine Within.ite ?_ ?_
  · exact h_s
  · extract_lets -merge -useContext +onlyGivenNames d_0 c_1 s_2
    have hs_2 : Within A u s_2 := by
      refine keepCorr_within (Sub.trans (by decide) hM) ?_
      exact h_s
    refine set_within _ (inMask (ET_CH_CORR_CORR_CMP_win _) (Sub.bit hM (by decide))) ?_
    refine set_within _ (inMask (ET_CH_CORR_CORR_DRV_win _) (Sub.bit hM (by decide))) ?_
    refine set_within _ (inMask (WEIR_CH_CORR_CORR_CMP_win _) (Sub.bit hM (by decide))) ?_
    refine set_within _ (inMask (WEIR_CH_CORR_CORR_DRV_win _) (Sub.bit hM (by decide))) ?_
    exact hs_2

theorem weirBoundary_within {A : Nat} {u : State} {s : State} (hM : Sub 0x12000000200000060C A) (h_s : Within A u s) :
    Within A u (weirBoundary s) := by
  unfold weirBoundary
  split
  · exact h_s
  · extract_lets -merge -useContext +onlyGivenNames w_0 s_1
    have hs_1 : Within A u s_1 := by
      refine Within.weir_ (Sub.bit hM (by decide)) ?_
      exact h_s
    refine Within.ite ?_ ?_
    · exact hs_1
    · refine Within.ite ?_ ?_
      · refine forEach_within ?_ _ ?_
        · intro y2 y3 hy4
          refine applyStep_within (Sub.trans (by decide) hM) ?_
          exact hy4
        · exact hs_1
      · refine raise_within (Sub.trans (by decide) hM) ?_
        refine State.count_within (Sub.trans (by decide) hM) (inMask (FRM_OVR_COUNT_win _) (Sub.bit hM (by decide))) ?_
        exact hs_1

theorem wrWeirChCtl_within {A : Nat} {u : State} {a : Agent} {n v : Nat} {s : State} (hM : Sub 0x100000000000000000 A) (h_s : Within A u
    s) :
    Within A u (wrWeirChCtl a n v s).2 := by
  unfold wrWeirChCtl
  refine Within.ite1 ?_ ?_
  · refine Within.snd1 ?_
    exact h_s
  · refine Within.ite1 ?_ ?_
    · refine Within.snd1 ?_
      exact h_s
    · refine Within.snd1 ?_
      refine writeFlds_within (Sub.trans (by decide) hM) (inMasks (WEIR_CH_CTL_fields_win _) (Sub.bit hM (by decide))) ?_
      exact h_s

theorem wrWeirChStat_within {A : Nat} {u : State} {a : Agent} {n v : Nat} {s : State} (hM : Sub 0x100000000000000000 A) (h_s : Within A u
    s) :
    Within A u (wrWeirChStat a n v s).2 := by
  unfold wrWeirChStat
  refine Within.ite1 ?_ ?_
  · refine Within.snd1 ?_
    exact h_s
  · refine Within.snd1 ?_
    refine writeFlds_within (Sub.trans (by decide) hM) (inMasks (WEIR_CH_STAT_fields_win _) (Sub.bit hM (by decide))) ?_
    exact h_s

theorem weirTick_within {A : Nat} {u : State} {frame : Nat} {s : State} (hM : Sub 0x12000000200000060C A) (h_s : Within A u s) :
    Within A u (weirTick frame s) := by
  unfold weirTick
  refine weirClose_within (Sub.trans (by decide) hM) ?_
  refine weirBoundary_within (Sub.trans (by decide) hM) ?_
  exact h_s

theorem wrCalCtl_within {A : Nat} {u : State} {a : Agent} {v : Nat} {s : State} (hM : Sub 0x80000000000000400 A) (h_s : Within A u s) :
    Within A u (wrCalCtl a v s).2 := by
  unfold wrCalCtl
  extract_lets -merge -useContext +onlyGivenNames go_0 save_1 l_2 w_3 w_4 w_5 w_6
  have hw_3 : Within A u w_3 := by
    refine set_within _ (inMask (WEIR_CAL_INFO_BUSY_win) (Sub.bit hM (by decide))) ?_
    exact h_s
  have hw_5 : Within A u w_5 := by
    refine set_within _ (inMask (WEIR_CAL_INFO_BUSY_win) (Sub.bit hM (by decide))) ?_
    exact h_s
  refine Within.ite1 ?_ ?_
  · refine Within.snd1 ?_
    exact h_s
  · refine Within.ite1 ?_ ?_
    · refine Within.snd1 ?_
      exact h_s
    · refine Within.ite1 ?_ ?_
      · refine Within.snd1 ?_
        exact h_s
      · refine Within.ite1 ?_ ?_
        · refine Within.snd1 ?_
          refine Within.weir_ (Sub.bit hM (by decide)) ?_
          exact hw_3
        · refine Within.ite1 ?_ ?_
          · refine Within.snd1 ?_
            refine Within.weir_ (Sub.bit hM (by decide)) ?_
            exact hw_5
          · refine Within.snd1 ?_
            exact h_s

theorem execWeirSave_within {A : Nat} {u : State} {a : Agent} {s : State} (hM : Sub 0x80000000000000401 A) (h_s : Within A u s) :
    OutWithin A u (execWeirSave a s) := by
  unfold execWeirSave
  refine OutWithin.ok ?_
  refine answered_within (Sub.trans (by decide) hM) ?_
  refine wrCalCtl_within (Sub.trans (by decide) hM) ?_
  exact h_s

theorem wrWeirCtl_within {A : Nat} {u : State} {a : Agent} {v : Nat} {s : State} (hM : Sub 0x40000000000000000 A) (h_s : Within A u s) :
    Within A u (wrWeirCtl a v s).2 := by
  unfold wrWeirCtl
  refine Within.ite1 ?_ ?_
  · refine Within.snd1 ?_
    exact h_s
  · refine Within.ite1 ?_ ?_
    · refine Within.snd1 ?_
      exact h_s
    · refine Within.snd1 ?_
      refine writeFlds_within (Sub.trans (by decide) hM) (inMasks (WEIR_CTL_fields_win) (Sub.bit hM (by decide))) ?_
      exact h_s

theorem weirBankLeave_within {A : Nat} {u : State} {b : Nat} {s : State} (hM : Sub 0x400 A) (h_s : Within A u s) :
    Within A u (weirBankLeave b s) := by
  unfold weirBankLeave
  extract_lets -merge -useContext +onlyGivenNames s_0 w_1
  have hs_0 : Within A u s_0 := by
    refine calMark_within (Sub.trans (by decide) hM) ?_
    exact h_s
  refine Within.weir_ (Sub.bit hM (by decide)) ?_
  exact hs_0

theorem weirBankReset_within {A : Nat} {u : State} {b : Nat} {s : State} (hM : Sub 0x120000000000000400 A) (h_s : Within A u s) :
    Within A u (weirBankReset b s) := by
  unfold weirBankReset
  extract_lets -merge -useContext +onlyGivenNames s_0
  have hs_0 : Within A u s_0 := by
    refine weirBankLeave_within (Sub.trans (by decide) hM) ?_
    exact h_s
  refine forNat_within ?_ _ ?_
  · intro y1 y2 hy3
    beta_reduce
    extract_lets -merge -useContext +onlyGivenNames n_4 t_5 uncal_6 t_7
    have ht_5 : Within A u t_5 := by
      refine set_within _ (inMask (WEIR_CH_CORR_CORR_CMP_win _) (Sub.bit hM (by decide))) ?_
      refine set_within _ (inMask (WEIR_CH_CORR_CORR_DRV_win _) (Sub.bit hM (by decide))) ?_
      exact hy3
    have ht_7 : Within A u t_7 := by
      refine resetRegs_within _ _ 13200586178560 13201655726079 68 1 0x100000000000000000 (by decide) (by decide) (by decide) (Sub.trans (by decide) hM) (by omega) (by omega) ?_
      exact ht_5
    refine copyCal_within (Sub.trans (by decide) hM) ?_
    refine set_within _ (inMask (WEIR_CH_STAT_SETTLING_win _) (Sub.bit hM (by decide))) ?_
    refine set_within _ (inMask (WEIR_CH_STAT_UNCAL_win _) (Sub.bit hM (by decide))) ?_
    exact ht_7
  · exact hs_0

theorem weirBankOn_within {A : Nat} {u : State} {b : Nat} {tapChanged : Bool} {s : State} (hM : Sub 0x12000000000000040C A) (h_s : Within
    A u s) :
    Within A u (weirBankOn b tapChanged s) := by
  unfold weirBankOn
  refine forNat_within ?_ _ ?_
  · intro y0 y1 hy2
    beta_reduce
    extract_lets -merge -useContext +onlyGivenNames n_3
    refine copyCal_within (Sub.trans (by decide) hM) ?_
    refine set_within _ (inMask (WEIR_CH_STAT_SETTLING_win _) (Sub.bit hM (by decide))) ?_
    refine Within.ite ?_ ?_
    · refine checkUncal_within (Sub.trans (by decide) hM) ?_
      exact hy2
    · exact hy2
  · exact h_s

theorem execWeirCalibrate_within {A : Nat} {u : State} {a : Agent} {s : State} (hM : Sub 0x80000000000000401 A) (h_s : Within A u s) :
    OutWithin A u (execWeirCalibrate a s) := by
  unfold execWeirCalibrate
  refine OutWithin.ok ?_
  refine answered_within (Sub.trans (by decide) hM) ?_
  refine wrCalCtl_within (Sub.trans (by decide) hM) ?_
  exact h_s

theorem execWeirSaveEnd_within {A : Nat} {u : State} {c0 c1 : Bool} {hottest : Int} {s : State} (hM : Sub 0x8000000000000040C A) (h_s :
    Within A u s) :
    OutWithin A u (execWeirSaveEnd c0 c1 hottest s) := by
  unfold execWeirSaveEnd
  refine OutWithin.whenOk ?_ ?_
  · exact h_s
  · refine saveEnd_within (Sub.trans (by decide) hM) ?_
    exact h_s

theorem countSentinel_within {A : Nat} {u : State} {n : Nat} {s : State} (hM : Sub 0x400 A) (h_s : Within A u s) :
    Within A u (countSentinel n s) := by
  unfold countSentinel
  extract_lets -merge -useContext +onlyGivenNames a_0 w_1
  refine Within.weir_ (Sub.bit hM (by decide)) ?_
  exact h_s

theorem weirWarm_within {A : Nat} {u : State} {s : State} (hM : Sub 0x1E000000000000040C A) (h_s : Within A u s) :
    Within A u (weirWarm s) := by
  unfold weirWarm
  extract_lets -merge -useContext +onlyGivenNames s_0 s_1 s_2 s_3 s_4 w_5
  have hs_0 : Within A u s_0 := by
    refine calMark_within (Sub.trans (by decide) hM) ?_
    exact h_s
  have hs_1 : Within A u s_1 := by
    unfold s_1
    split
    · refine calEnd_within (Sub.trans (by decide) hM) ?_
      exact hs_0
    · exact hs_0
  have hs_2 : Within A u s_2 := by
    refine resetRegs_within _ _ 13200581984256 13200586178559 66 2 0xC0000000000000000 (by decide) (by decide) (by decide) (Sub.trans (by decide) hM) (by omega) (by omega) ?_
    exact hs_1
  have hs_3 : Within A u s_3 := by
    refine set_within _ (inMask (WEIR_CAL_INFO_BUSY_win) (Sub.bit hM (by decide))) ?_
    exact hs_2
  have hs_4 : Within A u s_4 := by
    refine forNat_within ?_ _ ?_
    · intro y6 y7 hy8
      beta_reduce
      extract_lets -merge -useContext +onlyGivenNames uncal_9 t_10
      have ht_10 : Within A u t_10 := by
        refine resetRegs_within _ _ 13200586178560 13201655726079 68 1 0x100000000000000000 (by decide) (by decide) (by decide) (Sub.trans (by decide) hM) (by omega) (by omega) ?_
        exact hy8
      refine set_within _ (inMask (WEIR_CH_STAT_UNCAL_win _) (Sub.bit hM (by decide))) ?_
      refine resetRegs_within _ _ 13200586178560 13201655726079 68 1 0x100000000000000000 (by decide) (by decide) (by decide) (Sub.trans (by decide) hM) (by omega) (by omega) ?_
      exact ht_10
    · exact hs_3
  refine Within.weir_ (Sub.bit hM (by decide)) ?_
  exact hs_4

theorem weirAdd_within {A : Nat} {u : State} {n : Nat} {e : WitnessEdge} {s : State} (hM : Sub 0x400 A) (h_s : Within A u s) :
    Within A u (weirAdd n e s) := by
  unfold weirAdd
  extract_lets -merge -useContext +onlyGivenNames a_0 a_1 a_2 w_3
  refine Within.weir_ (Sub.bit hM (by decide)) ?_
  exact h_s

theorem wrCalBanks_within {A : Nat} {u : State} {a : Agent} {v : Nat} {s : State} (hM : Sub 0x80000000000000000 A) (h_s : Within A u s) :
    Within A u (wrCalBanks a v s).2 := by
  unfold wrCalBanks
  refine Within.ite1 ?_ ?_
  · refine Within.snd1 ?_
    exact h_s
  · refine Within.snd1 ?_
    refine writeFlds_within (Sub.trans (by decide) hM) (inMasks (WEIR_CAL_BANKS_fields_win) (Sub.bit hM (by decide))) ?_
    exact h_s

theorem execWitnessEdge_within {A : Nat} {u : State} {ch : Fin 512} {e : WitnessEdge} {s : State} (hM : Sub 0x400 A) (h_s : Within A u s) :
    OutWithin A u (execWitnessEdge ch e s) := by
  unfold execWitnessEdge
  refine OutWithin.whenOk ?_ ?_
  · exact h_s
  · refine weirAdd_within (Sub.trans (by decide) hM) ?_
    exact h_s

theorem execWeirCorrectionDelivery_within {A : Nat} {u : State} {inTime : Bool} {s : State} (hM : Sub 0x440 A) (h_s : Within A u s) :
    OutWithin A u (execWeirCorrectionDelivery inTime s) := by
  unfold execWeirCorrectionDelivery
  split
  · refine OutWithin.ok ?_
    exact h_s
  · refine OutWithin.ite ?_ ?_
    · refine inDuty_within (Sub.trans (by decide) hM) ?_ ?_
      · intro y0 hy1
        beta_reduce
        refine OutWithin.whenOk ?_ ?_
        · exact hy1
        · refine Within.weir_ (Sub.bit hM (by decide)) ?_
          exact hy1
      · exact h_s
    · refine OutWithin.ok ?_
      exact h_s

end Sys2Proof.Machine
end

