-- ==== Sys2Proof/Laws/WithinDomains.lean ====
section
/-! SUPPORT. What each operation of Machine/Domains.lean can reach (see Laws/Within.lean). -/
set_option Elab.async false
namespace Sys2Proof.Machine

theorem gateLowers_within {A : Nat} {u : State} {n : Nat} {s : State} (hM : Sub 0x10000000000000 A) (h_s : Within A u s) :
    Within A u (gateLowers n s) := by
  unfold gateLowers
  refine Within.ite ?_ ?_
  · refine set_within _ (inMask (CLK_GATE_CLOSE_win _) (Sub.bit hM (by decide))) ?_
    refine set_within _ (inMask (CLK_GATE_PEND_win _) (Sub.bit hM (by decide))) ?_
    exact h_s
  · exact h_s

theorem setTargets_within {A : Nat} {u : State} {l : List Nat} {t : Nat} {s : State} (hM : Sub 0x400000000000 A) (h_s : Within A u s) :
    Within A u (setTargets l t s) := by
  unfold setTargets
  refine forEach_within ?_ _ ?_
  · intro y0 y1 hy2
    beta_reduce
    refine set_within _ (inMask (PWR_DOM_CTL_TARGET_win _) (Sub.bit hM (by decide))) ?_
    exact hy2
  · exact h_s

theorem wantRaise_within {A : Nat} {u : State} {n init : Nat} {s : State} (hM : Sub 0x400000000010 A) (h_s : Within A u s) :
    Within A u (wantRaise n init s) := by
  unfold wantRaise
  extract_lets -merge -useContext +onlyGivenNames w_0 w_1
  have hw_0 : Within A u w_0 := by
    refine set_within _ (inMask (PWR_DOM_STAT_ENABLE_PENDING_win _) (Sub.bit hM (by decide))) ?_
    exact h_s
  refine Within.power_ (Sub.bit hM (by decide)) ?_
  exact hw_0

theorem placeRaises_within {A : Nat} {u : State} {init : Nat} {a1 : List Nat} {a2 : State} (hM : Sub 0x64000000003C A) (h_a2 : Within A u
    a2) :
    Within A u (placeRaises init a1 a2).2 := by
  induction a1 generalizing a2 with
  | nil => exact h_a2
  | cons n l ih =>
    have h := sluPlace_within (r := raiseReq n init a2) (again := false) (Sub.trans (by decide) hM) h_a2
    unfold placeRaises
    split
    · rename_i e
      rw [e] at h
      exact h
    · rename_i e
      rw [e] at h
      have g := ih (wantRaise_within (n := n) (init := init) (Sub.trans (by decide) hM) h)
      split
      · rename_i e
        rw [e] at g
        exact g
      · exact Within.snd1 (sluRefuse_within (Sub.trans (by decide) hM) h_a2)

theorem withdrawRaise_within {A : Nat} {u : State} {n : Nat} {s : State} (hM : Sub 0x180060000000011C A) (h_s : Within A u s) :
    Within A u (withdrawRaise n s) := by
  unfold withdrawRaise
  extract_lets -merge -useContext +onlyGivenNames w_0 s_1 s_2
  have hs_1 : Within A u s_1 := by
    refine Within.power_ (Sub.bit hM (by decide)) ?_
    exact h_s
  have hs_2 : Within A u s_2 := by
    unfold s_2
    split
    · refine sluEnd_within (Sub.trans (by decide) hM) ?_
      exact hs_1
    · exact hs_1
  refine endWish_within (Sub.trans (by decide) hM) ?_
  exact hs_2

theorem ledgerTick_within {A : Nat} {u : State} {s : State} (hM : Sub 0x200000001C A) (h_s : Within A u s) :
    Within A u (ledgerTick s) := by
  unfold ledgerTick
  extract_lets -merge -useContext +onlyGivenNames n_0 s_1 w_2
  have hs_1 : Within A u s_1 := by
    refine Within.ite ?_ ?_
    · exact h_s
    · refine raise_within (Sub.trans (by decide) hM) ?_
      refine State.count_within (Sub.trans (by decide) hM) (inMask (FRM_OVR_COUNT_win _) (Sub.bit hM (by decide))) ?_
      exact h_s
  refine Within.power_ (Sub.bit hM (by decide)) ?_
  exact hs_1

theorem execBallFaultOnset_within {A : Nat} {u : State} {x : BallCurrent} {s : State} (hM : Sub 0x10 A) (h_s : Within A u s) :
    OutWithin A u (execBallFaultOnset x s) := by
  unfold execBallFaultOnset
  extract_lets -merge -useContext +onlyGivenNames ch_0 w_1
  refine OutWithin.whenOk ?_ ?_
  · exact h_s
  · refine Within.power_ (Sub.bit hM (by decide)) ?_
    exact h_s

theorem traceDrop_within {A : Nat} {u : State} {s : State} (hM : Sub 0x10000000000000000000000004000009 A) (h_s : Within A u s) :
    Within A u (traceDrop s) := by
  unfold traceDrop
  extract_lets -merge -useContext +onlyGivenNames n_0 s_1 s_2 w_3 w_4
  have hs_1 : Within A u s_1 := by
    refine State.count_within (Sub.trans (by decide) hM) (inMask (DBG_TRC_STAT_LOST_win) (Sub.bit hM (by decide))) ?_
    exact h_s
  have hs_2 : Within A u s_2 := by
    refine Within.ite ?_ ?_
    · exact hs_1
    · refine answer_within (Sub.trans (by decide) hM) ?_
      exact hs_1
  refine Within.upd (s := s_2) ?_ rfl (fun _ _ => rfl) (.inr rfl) (.inr rfl) (.inr rfl) (.inl (Sub.bit hM (by decide))) (.inr rfl) (.inr rfl) (.inr rfl) (.inr rfl) (.inr rfl) (.inr rfl) (.inr rfl) (.inr rfl) (.inr rfl) (.inr rfl) (.inr rfl) (.inr rfl) (.inr rfl) (.inr rfl) (.inr rfl) (.inr rfl) (.inr rfl) (.inr rfl) (.inr rfl) (.inr rfl) (.inr rfl) (.inr rfl) (.inl (Sub.bit hM (by decide))) (.inr rfl) (.inr rfl) (fun c => ⟨c.regs, c.hbm, c.flash, c.cfg, c.editions, c.ledger, c.ring, c.queue, c.seqs, c.cores⟩) (Otp.same rfl rfl rfl rfl rfl rfl)
  exact hs_2

theorem domReset_within {A : Nat} {u : State} {n : Nat} {s : State} (hM : Sub 0x14010DC837BD7FF3FA23E0000ECFFF5D A) (h_s : Within A u s) :
    Within A u (domReset n s) := by
  unfold domReset
  extract_lets -merge -useContext +onlyGivenNames s_0 s_1 b_2 s_3 s_4
  have hs_0 : Within A u s_0 := by
    refine ingressReturned_within (Sub.trans (by decide) hM) ?_
    refine progressCleared_within (Sub.trans (by decide) hM) ?_
    refine clusterDomReset_within (Sub.trans (by decide) hM) ?_
    exact h_s
  have hs_1 : Within A u s_1 := by
    refine forEach_within ?_ _ ?_
    · intro y5 y6 hy7
      refine sluEnd_within (Sub.trans (by decide) hM) ?_
      exact hy7
    · exact hs_0
  have hs_3 : Within A u s_3 := by
    refine weirBankReset_within (Sub.trans (by decide) hM) ?_
    refine edgeReset_within (Sub.trans (by decide) hM) ?_
    refine jetsReset_within (Sub.trans (by decide) hM) ?_
    exact hs_1
  have hs_4 : Within A u s_4 := by
    refine forNat_within ?_ _ ?_
    · intro y8 y9 hy10
      beta_reduce
      refine resetRegs_within _ _ 13195217469440 13196287016959 47 1 0x800000000000 (by decide) (by decide) (by decide) (Sub.trans (by decide) hM) (by omega) (by omega) ?_
      exact hy10
    · exact hs_3
  refine Within.ite ?_ ?_
  · refine Within.ite ?_ ?_
    · exact hs_1
    · refine fabReset_within (Sub.trans (by decide) hM) ?_
      exact hs_1
  · refine Within.ite ?_ ?_
    · refine Within.ite ?_ ?_
      · refine realign_within (Sub.trans (by decide) hM) ?_
        exact hs_4
      · exact hs_4
    · refine Within.ite ?_ ?_
      · refine lanesReset_within (Sub.trans (by decide) hM) ?_
        exact hs_1
      · refine Within.ite ?_ ?_
        · refine marksLost_within (Sub.trans (by decide) hM) ?_
          refine encContentsLost_within (Sub.trans (by decide) hM) ?_
          refine Within.ite ?_ ?_
          · refine hbmDomainReset_within (Sub.trans (by decide) hM) ?_
            exact hs_1
          · refine hbmPowerOff_within (Sub.trans (by decide) hM) ?_
            exact hs_1
        · refine Within.ite ?_ ?_
          · refine edgeGroupReset_within (Sub.trans (by decide) hM) ?_
            refine seqGroupReset_within (Sub.trans (by decide) hM) ?_
            refine seqGroupLower_within (Sub.trans (by decide) hM) ?_
            exact hs_1
          · refine Within.ite ?_ ?_
            · refine failReset70_within (Sub.trans (by decide) hM) ?_
              refine failLower70_within (Sub.trans (by decide) hM) ?_
              exact hs_1
            · refine Within.ite ?_ ?_
              · refine failReset71_within (Sub.trans (by decide) hM) ?_
                refine raAbortAll_within (Sub.trans (by decide) hM) ?_
                exact hs_1
              · refine Within.ite ?_ ?_
                · refine raReset72_within (Sub.trans (by decide) hM) ?_
                  refine raLower72_within (Sub.trans (by decide) hM) ?_
                  exact hs_1
                · refine Within.ite ?_ ?_
                  · refine raAbortAll_within (Sub.trans (by decide) hM) ?_
                    exact hs_1
                  · refine Within.ite ?_ ?_
                    · refine scReset_within (Sub.trans (by decide) hM) ?_
                      exact hs_1
                    · refine Within.ite ?_ ?_
                      · exact hs_1
                      · refine Within.ite ?_ ?_
                        · refine spPairLose_within (Sub.trans (by decide) hM) ?_
                          refine spPairLeave_within (Sub.trans (by decide) hM) ?_
                          exact hs_1
                        · refine Within.ite ?_ ?_
                          · refine treePassAbort_within (Sub.trans (by decide) hM) ?_
                            refine flushCache_within (Sub.trans (by decide) hM) ?_
                            exact hs_1
                          · refine traceDrop_within (Sub.trans (by decide) hM) ?_
                            exact hs_1

theorem execDomainResetHoldEnd_within {A : Nat} {u : State} {n : Fin 96} {s : State} (hM : Sub 0x14010DC837BD7FF3FA23E0000ECFFF5D A) (h_s
    : Within A u s) :
    OutWithin A u (execDomainResetHoldEnd n s) := by
  unfold execDomainResetHoldEnd
  refine OutWithin.whenOk ?_ ?_
  · exact h_s
  · refine domReset_within (Sub.trans (by decide) hM) ?_
    refine Within.power_ (Sub.bit hM (by decide)) ?_
    exact h_s

theorem loseAtOff_within {A : Nat} {u : State} {n : Nat} {s : State} (hM : Sub 0x400000037BD7F63F8A06000025BBB1C A) (h_s : Within A u s) :
    Within A u (loseAtOff n s) := by
  unfold loseAtOff
  refine Within.ite ?_ ?_
  · refine ldrOff_within (Sub.trans (by decide) hM) ?_
    refine fabLose_within (Sub.trans (by decide) hM) ?_
    exact h_s
  · refine Within.ite ?_ ?_
    · refine edgeReset_within (Sub.trans (by decide) hM) ?_
      refine jetsReset_within (Sub.trans (by decide) hM) ?_
      exact h_s
    · refine Within.ite ?_ ?_
      · exact h_s
      · refine Within.ite ?_ ?_
        · refine marksLost_within (Sub.trans (by decide) hM) ?_
          refine encContentsLost_within (Sub.trans (by decide) hM) ?_
          refine hbmPowerOff_within (Sub.trans (by decide) hM) ?_
          exact h_s
        · refine Within.ite ?_ ?_
          · refine edgeGroupReset_within (Sub.trans (by decide) hM) ?_
            refine seqGroupReset_within (Sub.trans (by decide) hM) ?_
            exact h_s
          · refine Within.ite ?_ ?_
            · refine failReset70_within (Sub.trans (by decide) hM) ?_
              exact h_s
            · refine Within.ite ?_ ?_
              · refine failReset71_within (Sub.trans (by decide) hM) ?_
                exact h_s
              · refine Within.ite ?_ ?_
                · refine raReset72_within (Sub.trans (by decide) hM) ?_
                  exact h_s
                · refine Within.ite ?_ ?_
                  · exact h_s
                  · refine Within.ite ?_ ?_
                    · refine scOff_within (Sub.trans (by decide) hM) ?_
                      exact h_s
                    · refine Within.ite ?_ ?_
                      · exact h_s
                      · refine Within.ite ?_ ?_
                        · refine spPairLose_within (Sub.trans (by decide) hM) ?_
                          exact h_s
                        · refine Within.ite ?_ ?_
                          · refine treePassAbort_within (Sub.trans (by decide) hM) ?_
                            refine Within.enc_ (Sub.bit hM (by decide)) ?_
                            exact h_s
                          · exact h_s

theorem sluTick_within {A : Nat} {u : State} {s : State} (hM : Sub 0x24000000003C A) (h_s : Within A u s) :
    Within A u (sluTick s) := by
  unfold sluTick
  extract_lets -merge -useContext +onlyGivenNames s_0
  have hs_0 : Within A u s_0 := by
    refine forNat_within ?_ _ ?_
    · intro y1 y2 hy3
      beta_reduce
      refine Within.ite ?_ ?_
      · refine set_within _ (inMask (SLU_ENT_REMAIN_win _) (Sub.bit hM (by decide))) ?_
        exact hy3
      · exact hy3
    · exact h_s
  refine forEach_within ?_ _ ?_
  · intro y4 y5 hy6
    refine placeAgain_within (Sub.trans (by decide) hM) ?_
    exact hy6
  · exact hs_0

theorem coreBegin_within {A : Nat} {u : State} {c : Nat} {s : State} (hM : Sub 0x2400020000000000000000000400000C A) (h_s : Within A u s) :
    Within A u (coreBegin c s) := by
  unfold coreBegin
  refine Within.ite ?_ ?_
  · refine set_within _ (inMask (CORE_STAT_STATE_win _) (Sub.bit hM (by decide))) ?_
    exact h_s
  · refine Within.ite ?_ ?_
    · refine coreStart_within (Sub.trans (by decide) hM) ?_
      exact h_s
    · refine set_within _ (inMask (CORE_STAT_STATE_win _) (Sub.bit hM (by decide))) ?_
      exact h_s

theorem coreLose_within {A : Nat} {u : State} {c : Nat} {s : State} (hM : Sub 0x4001F0000000000180060000146011D A) (h_s : Within A u s) :
    Within A u (coreLose c s) := by
  unfold coreLose
  extract_lets -merge -useContext +onlyGivenNames s_0
  have hs_0 : Within A u s_0 := by
    refine haltCleared_within (Sub.trans (by decide) hM) ?_
    refine progressCleared_within (Sub.trans (by decide) hM) ?_
    refine nocCoreReset_within (Sub.trans (by decide) hM) ?_
    refine clusterCoreReset_within (Sub.trans (by decide) hM) ?_
    refine sdoCut_within (Sub.trans (by decide) hM) ?_
    exact h_s
  refine forEach_within ?_ _ ?_
  · intro y1 y2 hy3
    refine sluEnd_within (Sub.trans (by decide) hM) ?_
    exact hy3
  · exact hs_0

theorem coreReset_within {A : Nat} {u : State} {c : Nat} {s : State} (hM : Sub 0x24001F0000000000180060000546011D A) (h_s : Within A u s) :
    Within A u (coreReset c s) := by
  unfold coreReset
  refine coreBegin_within (Sub.trans (by decide) hM) ?_
  refine coreLose_within (Sub.trans (by decide) hM) ?_
  exact h_s

theorem leaveOn_within {A : Nat} {u : State} {n : Nat} {s : State} (hM : Sub 0x4011FC800014DA03883600001DFE55D A) (h_s : Within A u s) :
    Within A u (leaveOn n s) := by
  unfold leaveOn
  extract_lets -merge -useContext +onlyGivenNames s_0
  have hs_0 : Within A u s_0 := by
    refine clusterDomLeave_within (Sub.trans (by decide) hM) ?_
    exact h_s
  refine Within.ite ?_ ?_
  · refine fabLower_within (Sub.trans (by decide) hM) ?_
    refine ldrLower_within (Sub.trans (by decide) hM) ?_
    exact hs_0
  · refine Within.ite ?_ ?_
    · refine weirBankLeave_within (Sub.trans (by decide) hM) ?_
      refine jetsForceOff_within (Sub.trans (by decide) hM) ?_
      exact hs_0
    · refine Within.ite ?_ ?_
      · refine lanesLower_within (Sub.trans (by decide) hM) ?_
        exact hs_0
      · refine Within.ite ?_ ?_
        · refine ldrHbmLeave_within (Sub.trans (by decide) hM) ?_
          exact hs_0
        · refine Within.ite ?_ ?_
          · refine seqGroupLower_within (Sub.trans (by decide) hM) ?_
            exact hs_0
          · refine Within.ite ?_ ?_
            · refine failLower70_within (Sub.trans (by decide) hM) ?_
              exact hs_0
            · refine Within.ite ?_ ?_
              · refine failLower71_within (Sub.trans (by decide) hM) ?_
                refine raAbortAll_within (Sub.trans (by decide) hM) ?_
                exact hs_0
              · refine Within.ite ?_ ?_
                · refine raLower72_within (Sub.trans (by decide) hM) ?_
                  exact hs_0
                · refine Within.ite ?_ ?_
                  · refine raAbortAll_within (Sub.trans (by decide) hM) ?_
                    exact hs_0
                  · refine Within.ite ?_ ?_
                    · refine scLower_within (Sub.trans (by decide) hM) ?_
                      exact hs_0
                    · refine Within.ite ?_ ?_
                      · refine set_within _ (inMask (CORE_STAT_STATE_win _) (Sub.bit hM (by decide))) ?_
                        refine coreLose_within (Sub.trans (by decide) hM) ?_
                        exact hs_0
                      · refine Within.ite ?_ ?_
                        · refine spPairLeave_within (Sub.trans (by decide) hM) ?_
                          exact hs_0
                        · exact hs_0

theorem spFuse_within {A : Nat} {u : State} {p : Nat} {s : State} (hM : Sub 0x8400000 A) (h_s : Within A u s) :
    Within A u (spFuse p s) := by
  unfold spFuse
  extract_lets -merge -useContext +onlyGivenNames s_0 w_1
  have hs_0 : Within A u s_0 := by
    refine forEach_within ?_ _ ?_
    · intro y2 y3 hy4
      refine spLose_within (Sub.trans (by decide) hM) ?_
      exact hy4
    · exact h_s
  refine Within.leap_ (Sub.bit hM (by decide)) ?_
  exact hs_0

theorem reachOn_within {A : Nat} {u : State} {n : Nat} {s : State} (hM : Sub 0x2401024000100012480040000CC00C0C A) (h_s : Within A u s) :
    Within A u (reachOn n s) := by
  unfold reachOn
  extract_lets -merge -useContext +onlyGivenNames s_0 b_1 old_2 s_3
  have hs_0 : Within A u s_0 := by
    refine set_within _ (inMask (PWR_DOM_STAT_STATE_win _) (Sub.bit hM (by decide))) ?_
    exact h_s
  have hs_3 : Within A u s_3 := by
    refine applySpare_within (Sub.trans (by decide) hM) ?_
    exact hs_0
  refine Within.ite ?_ ?_
  · exact hs_0
  · refine Within.ite ?_ ?_
    · refine realign_within (Sub.trans (by decide) hM) ?_
      refine checkMaxrate_within (Sub.trans (by decide) hM) ?_
      refine weirBankOn_within (Sub.trans (by decide) hM) ?_
      exact hs_3
    · refine Within.ite ?_ ?_
      · refine lanesReachOn_within (Sub.trans (by decide) hM) ?_
        exact hs_0
      · refine Within.ite ?_ ?_
        · refine hbmReachOn_within (Sub.trans (by decide) hM) ?_
          exact hs_0
        · refine Within.ite ?_ ?_
          · refine coreBegin_within (Sub.trans (by decide) hM) ?_
            exact hs_0
          · refine Within.ite ?_ ?_
            · refine bootMarch_within (Sub.trans (by decide) hM) ?_
              refine spFuse_within (Sub.trans (by decide) hM) ?_
              exact hs_0
            · exact hs_0

theorem startLower_within {A : Nat} {u : State} {n : Nat} {retain : Bool} {s : State} (hM : Sub 0x4011FC800014DA03893600001DFE55D A) (h_s
    : Within A u s) :
    Within A u (startLower n retain s) := by
  unfold startLower
  extract_lets -merge -useContext +onlyGivenNames s_0 w_1
  have hs_0 : Within A u s_0 := by
    refine leaveOn_within (Sub.trans (by decide) hM) ?_
    refine gateLowers_within (Sub.trans (by decide) hM) ?_
    refine set_within _ (inMask (PWR_DOM_STAT_FORCED_win _) (Sub.bit hM (by decide))) ?_
    refine set_within _ (inMask (PWR_DOM_STAT_STATE_win _) (Sub.bit hM (by decide))) ?_
    exact h_s
  refine Within.ite ?_ ?_
  · refine Within.power_ (Sub.bit hM (by decide)) ?_
    exact hs_0
  · exact hs_0

theorem raised_within {A : Nat} {u : State} {n : Nat} {s : State} (hM : Sub 0x24011FC800114DB2789360000DDFED5D A) (h_s : Within A u s) :
    Within A u (raised n s) := by
  unfold raised
  extract_lets -merge -useContext +onlyGivenNames s_0 t_1
  have hs_0 : Within A u s_0 := by
    refine reachOn_within (Sub.trans (by decide) hM) ?_
    exact h_s
  refine Within.ite ?_ ?_
  · exact hs_0
  · refine startLower_within (Sub.trans (by decide) hM) ?_
    exact hs_0

theorem forceQuiet_within {A : Nat} {u : State} {n cause : Nat} {s : State} (hM : Sub 0x2000000000004000000C180D A) (h_s : Within A u s) :
    Within A u (forceQuiet n cause s) := by
  unfold forceQuiet
  extract_lets -merge -useContext +onlyGivenNames s_0 s_1
  have hs_0 : Within A u s_0 := by
    refine raise_within (Sub.trans (by decide) hM) ?_
    refine set_within _ (inMask (PWR_DOM_STAT_FORCED_win _) (Sub.bit hM (by decide))) ?_
    exact h_s
  have hs_1 : Within A u s_1 := by
    refine Within.ite ?_ ?_
    · refine portFault_within (Sub.trans (by decide) hM) ?_
      exact hs_0
    · exact hs_0
  refine nocFault_within (Sub.trans (by decide) hM) ?_
  refine Within.ite ?_ ?_
  · refine encForced_within (Sub.trans (by decide) hM) ?_
    exact hs_1
  · exact hs_1

theorem profileDrop_within {A : Nat} {u : State} {s : State} (hM : Sub 0x180060020000013C A) (h_s : Within A u s) :
    Within A u (profileDrop s) := by
  unfold profileDrop
  extract_lets -merge -useContext +onlyGivenNames s_0 w_1 w_2
  have hs_0 : Within A u s_0 := by
    unfold s_0
    split
    · refine sluEnd_within (Sub.trans (by decide) hM) ?_
      exact h_s
    · exact h_s
  have hw_1 : Within A u w_1 := by
    refine set_within _ (inMask (SYS_PROFILE_PENDING_win) (Sub.bit hM (by decide))) ?_
    exact hs_0
  refine Within.profile_ (Sub.bit hM (by decide)) ?_
  exact hw_1

theorem profileRefuse_within {A : Nat} {u : State} {p : Nat} {st : Status} {limit : Option Nat} {s : State} (hM : Sub 0x20000000C A) (h_s
    : Within A u s) :
    Within A u (profileRefuse p st limit s) := by
  unfold profileRefuse
  extract_lets -merge -useContext +onlyGivenNames items_0
  refine raise_within (Sub.trans (by decide) hM) ?_
  refine set_within _ (inMask (SYS_PROFILE_RESULT_win) (Sub.bit hM (by decide))) ?_
  exact h_s

theorem goOff_within {A : Nat} {u : State} {n : Nat} {s : State} (hM : Sub 0x400000037BD7F63F8A06000025BBB1C A) (h_s : Within A u s) :
    Within A u (goOff n s) := by
  unfold goOff
  extract_lets -merge -useContext +onlyGivenNames s_0
  have hs_0 : Within A u s_0 := by
    refine loseAtOff_within (Sub.trans (by decide) hM) ?_
    refine set_within _ (inMask (PWR_DOM_STAT_STATE_win _) (Sub.bit hM (by decide))) ?_
    exact h_s
  refine forEach_within ?_ _ ?_
  · intro y1 y2 hy3
    refine sluEnd_within (Sub.trans (by decide) hM) ?_
    exact hy3
  · exact hs_0

theorem targetDown_within {A : Nat} {u : State} {n t : Nat} {s : State} (hM : Sub 0x4011FC837BD7FE3F8B3600003DFFF5D A) (h_s : Within A u
    s) :
    Within A u (targetDown n t s) := by
  unfold targetDown
  extract_lets -merge -useContext +onlyGivenNames s_0 st_1 s_2
  have hs_0 : Within A u s_0 := by
    refine set_within _ (inMask (PWR_DOM_CTL_TARGET_win _) (Sub.bit hM (by decide))) ?_
    exact h_s
  have hs_2 : Within A u s_2 := by
    refine Within.ite ?_ ?_
    · refine withdrawRaise_within (Sub.trans (by decide) hM) ?_
      exact hs_0
    · exact hs_0
  refine Within.ite ?_ ?_
  · refine startLower_within (Sub.trans (by decide) hM) ?_
    exact hs_0
  · refine Within.ite ?_ ?_
    · exact hs_0
    · refine Within.ite ?_ ?_
      · refine goOff_within (Sub.trans (by decide) hM) ?_
        exact hs_2
      · exact hs_2

theorem enterQuiet_within {A : Nat} {u : State} {s : State} (hM : Sub 0x4011FC837BD7FE3F8B3600003DFFF7D A) (h_s : Within A u s) :
    Within A u (enterQuiet s) := by
  unfold enterQuiet
  extract_lets -merge -useContext +onlyGivenNames away_0 targets_1 regions_2 w_3 s_4 s_5
  have hs_4 : Within A u s_4 := by
    refine Within.profile_ (Sub.bit hM (by decide)) ?_
    exact h_s
  have hs_5 : Within A u s_5 := by
    refine forNat_within ?_ _ ?_
    · intro y6 y7 hy8
      beta_reduce
      refine Within.ite ?_ ?_
      · extract_lets -merge -useContext +onlyGivenNames t_9
        have ht_9 : Within A u t_9 := by
          refine narrowQuiet_within (Sub.trans (by decide) hM) ?_
          exact hy8
        split
        · exact ht_9
        · refine set_within _ (inMask (SLU_ENT_CURRENT_win _) (Sub.bit hM (by decide))) ?_
          refine forEach_within ?_ _ ?_
          · intro y10 y11 hy12
            refine sluEnd_within (Sub.trans (by decide) hM) ?_
            exact hy12
          · exact ht_9
      · exact hy8
    · exact hs_4
  refine forEach_within ?_ _ ?_
  · intro y13 y14 hy15
    beta_reduce
    refine targetDown_within (Sub.trans (by decide) hM) ?_
    exact hy15
  · exact hs_5

theorem startRaising_within {A : Nat} {u : State} {n : Nat} {s : State} (hM : Sub 0x400000000010 A) (h_s : Within A u s) :
    Within A u (startRaising n s) := by
  unfold startRaising
  refine endWish_within (Sub.trans (by decide) hM) ?_
  refine set_within _ (inMask (PWR_DOM_STAT_STATE_win _) (Sub.bit hM (by decide))) ?_
  exact h_s

theorem raiseAgain_within {A : Nat} {u : State} {n init : Nat} {s : State} (hM : Sub 0x64000000003C A) (h_s : Within A u s) :
    Within A u (raiseAgain n init s) := by
  unfold raiseAgain
  refine Within.ite ?_ ?_
  · refine startRaising_within (Sub.trans (by decide) hM) ?_
    exact h_s
  · refine Within.ite ?_ ?_
    · refine set_within _ (inMask (PWR_DOM_CTL_TARGET_win _) (Sub.bit hM (by decide))) ?_
      refine endWish_within (Sub.trans (by decide) hM) ?_
      exact h_s
    · refine placeAgain_within (Sub.trans (by decide) hM) ?_
      refine wantRaise_within (Sub.trans (by decide) hM) ?_
      exact h_s

theorem leaveQuiet_within {A : Nat} {u : State} {s : State} (hM : Sub 0x64000000003C A) (h_s : Within A u s) :
    Within A u (leaveQuiet s) := by
  unfold leaveQuiet
  split
  · exact h_s
  · extract_lets -merge -useContext +onlyGivenNames w_0 s_1 s_2
    have hs_1 : Within A u s_1 := by
      refine Within.profile_ (Sub.bit hM (by decide)) ?_
      exact h_s
    have hs_2 : Within A u s_2 := by
      refine forEach_within ?_ _ ?_
      · intro y3 y4 hy5
        beta_reduce
        extract_lets -merge -useContext +onlyGivenNames n_6 t_7 st_8
        have ht_7 : Within A u t_7 := by
          refine set_within _ (inMask (PWR_DOM_CTL_TARGET_win _) (Sub.bit hM (by decide))) ?_
          exact hy5
        refine Within.ite ?_ ?_
        · refine raiseAgain_within (Sub.trans (by decide) hM) ?_
          exact ht_7
        · refine Within.ite ?_ ?_
          · refine raise_within (Sub.trans (by decide) hM) ?_
            refine wantRaise_within (Sub.trans (by decide) hM) ?_
            exact ht_7
          · exact ht_7
      · exact hs_1
    refine forNat_within ?_ _ ?_
    · intro y9 y10 hy11
      beta_reduce
      refine Within.ite ?_ ?_
      · refine placeAgain_within (Sub.trans (by decide) hM) ?_
        exact hy11
      · exact hy11
    · exact hs_2

theorem profileTick_within {A : Nat} {u : State} {s : State} (hM : Sub 0x4011FC837BD7FE3F8B3640203DFFF7D A) (h_s : Within A u s) :
    Within A u (profileTick s) := by
  unfold profileTick
  refine Within.ite ?_ ?_
  · exact h_s
  · extract_lets -merge -useContext +onlyGivenNames p_0 old_1 s_2 s_3 s_4
    have hs_2 : Within A u s_2 := by
      refine profileDrop_within (Sub.trans (by decide) hM) ?_
      exact h_s
    have hs_3 : Within A u s_3 := by
      refine set_within _ (inMask (SYS_PROFILE_RESULT_win) (Sub.bit hM (by decide))) ?_
      refine set_within _ (inMask (SYS_PROFILE_CUR_win) (Sub.bit hM (by decide))) ?_
      exact hs_2
    have hs_4 : Within A u s_4 := by
      refine raise_within (Sub.trans (by decide) hM) ?_
      exact hs_3
    split
    · refine profileRefuse_within (Sub.trans (by decide) hM) ?_
      exact hs_2
    · refine Within.ite ?_ ?_
      · refine enterQuiet_within (Sub.trans (by decide) hM) ?_
        exact hs_4
      · refine Within.ite ?_ ?_
        · refine leaveQuiet_within (Sub.trans (by decide) hM) ?_
          exact hs_4
        · exact hs_4

theorem targetOn_within {A : Nat} {u : State} {l : List Nat} {init : Nat} {s : State} (hM : Sub 0x100000000064000000003C A) (h_s : Within
    A u s) :
    Within A u (targetOn l init s).2 := by
  unfold targetOn
  extract_lets -merge -useContext +onlyGivenNames need_0 late_1 done_2
  have hdone_2 : ∀ y3, Within A u y3 → Within A u (done_2 y3).2 := by
    intro y3 hy4
    unfold done_2
    extract_lets -merge -useContext +onlyGivenNames t_5
    have ht_5 : Within A u t_5 := by
      refine forEach_within ?_ _ ?_
      · intro y6 y7 hy8
        beta_reduce
        refine raise_within (Sub.trans (by decide) hM) ?_
        refine wantRaise_within (Sub.trans (by decide) hM) ?_
        exact hy8
      · refine setTargets_within (Sub.trans (by decide) hM) ?_
        exact hy4
    refine Within.snd1 ?_
    refine Within.ite ?_ ?_
    · refine set_within _ (inMask (HBM_STAT_STATE_win) (Sub.bit hM (by decide))) ?_
      exact ht_5
    · exact ht_5
  refine Within.ite1 ?_ ?_
  · refine Within.snd1 ?_
    exact h_s
  · refine Within.ite1 ?_ ?_
    · apply hdone_2
      refine forEach_within ?_ _ ?_
      · intro y9 y10 hy11
        refine startRaising_within (Sub.trans (by decide) hM) ?_
        exact hy11
      · exact h_s
    · split
      · apply hdone_2
        refine Within.of_eq (q := (_, _)) (by assumption) ?_
        refine placeRaises_within (Sub.trans (by decide) hM) ?_
        exact h_s
      · refine placeRaises_within (Sub.trans (by decide) hM) ?_
        exact h_s

theorem wrElimTrip_within {A : Nat} {u : State} {a : Agent} {b v : Nat} {s : State} (hM : Sub 0x10000000000C A) (h_s : Within A u s) :
    Within A u (wrElimTrip a b v s).2 := by
  unfold wrElimTrip
  extract_lets -merge -useContext +onlyGivenNames l_0
  refine Within.snd1 ?_
  refine forEach_within ?_ _ ?_
  · intro y1 y2 hy3
    beta_reduce
    refine raise_within (Sub.trans (by decide) hM) ?_
    refine set_within _ (inMask (ELIM_TRIP_BALL_win _) (Sub.bit hM (by decide))) ?_
    exact hy3
  · exact h_s

theorem execBallLatchClear_within {A : Nat} {u : State} {a : Agent} {b : Fin 32} {mask : Nat} {s : State} (hM : Sub 0x10000000000D A)
    (h_s : Within A u s) :
    OutWithin A u (execBallLatchClear a b mask s) := by
  unfold execBallLatchClear
  refine OutWithin.ok ?_
  refine answered_within (Sub.trans (by decide) hM) ?_
  refine wrElimTrip_within (Sub.trans (by decide) hM) ?_
  exact h_s

theorem goRetain_within {A : Nat} {u : State} {n : Nat} {s : State} (hM : Sub 0x2100000180060000000091C A) (h_s : Within A u s) :
    Within A u (goRetain n s) := by
  unfold goRetain
  extract_lets -merge -useContext +onlyGivenNames s_0 s_1
  have hs_0 : Within A u s_0 := by
    refine set_within _ (inMask (PWR_DOM_STAT_STATE_win _) (Sub.bit hM (by decide))) ?_
    exact h_s
  have hs_1 : Within A u s_1 := by
    refine Within.ite ?_ ?_
    · refine hbmRetain_within (Sub.trans (by decide) hM) ?_
      exact hs_0
    · exact hs_0
  split
  · exact hs_1
  · refine set_within _ (inMask (SLU_ENT_CURRENT_win _) (Sub.bit hM (by decide))) ?_
    refine forEach_within ?_ _ ?_
    · intro y2 y3 hy4
      refine sluEnd_within (Sub.trans (by decide) hM) ?_
      exact hy4
    · exact hs_1

theorem lowered_within {A : Nat} {u : State} {n : Nat} {s : State} (hM : Sub 0x400000037BD7F63F8A06400025BBB3C A) (h_s : Within A u s) :
    Within A u (lowered n s) := by
  unfold lowered
  extract_lets -merge -useContext +onlyGivenNames keep_0 init_1 wish_2 w_3 s_4 s_5 t_6
  have hs_4 : Within A u s_4 := by
    refine Within.power_ (Sub.bit hM (by decide)) ?_
    exact h_s
  have hs_5 : Within A u s_5 := by
    refine Within.ite ?_ ?_
    · refine goRetain_within (Sub.trans (by decide) hM) ?_
      exact hs_4
    · refine goOff_within (Sub.trans (by decide) hM) ?_
      exact hs_4
  refine Within.ite ?_ ?_
  · refine raiseAgain_within (Sub.trans (by decide) hM) ?_
    exact hs_5
  · refine Within.ite ?_ ?_
    · refine goOff_within (Sub.trans (by decide) hM) ?_
      exact hs_5
    · exact hs_5

theorem execLoweringForced_within {A : Nat} {u : State} {n : Fin 96} {s : State} (hM : Sub 0x400000037BD7F63F8A06400025FBB3D A) (h_s :
    Within A u s) :
    OutWithin A u (execLoweringForced n s) := by
  unfold execLoweringForced
  refine OutWithin.whenOk ?_ ?_
  · exact h_s
  · refine lowered_within (Sub.trans (by decide) hM) ?_
    refine forceQuiet_within (Sub.trans (by decide) hM) ?_
    exact h_s

theorem visit_within {A : Nat} {u : State} {a1 : Nat} {a2 : State} (hM : Sub 0x200000000030 A) (h_a2 : Within A u a2) :
    Within A u (visit a1 a2) := by
  induction a1 generalizing a2 with
  | zero => exact h_a2
  | succ n ih =>
    unfold visit
    split
    · exact h_a2
    · refine Within.ite ?_ (Within.ite ?_ ?_)
      · exact ih (grantEntry_within (Sub.trans (by decide) hM) (Within.power_ (Sub.bit hM (by decide)) h_a2))
      · exact Within.power_ (Sub.bit hM (by decide)) (Within.power_ (Sub.bit hM (by decide)) h_a2)
      · exact ih (set_within _ (inMask (SLU_ENT_SKIPS_win _) (Sub.bit hM (by decide))) (Within.power_ (Sub.bit hM (by decide)) h_a2))

theorem execSluiceGrantCycle_within {A : Nat} {u : State} {visits : Nat} {s : State} (hM : Sub 0x200000000070 A) (h_s : Within A u s) :
    OutWithin A u (execSluiceGrantCycle visits s) := by
  unfold execSluiceGrantCycle
  refine inDuty_within (Sub.trans (by decide) hM) ?_ ?_
  · intro y0 hy1
    beta_reduce
    refine OutWithin.ok ?_
    refine visit_within (Sub.trans (by decide) hM) ?_
    exact hy1
  · exact h_s

theorem rampStart_within {A : Nat} {u : State} {k : Nat} {s : State} (hM : Sub 0x20000000000000184060000140011C A) (h_s : Within A u s) :
    Within A u (rampStart k s) := by
  unfold rampStart
  extract_lets -merge -useContext +onlyGivenNames p_0 n_1 st_2
  refine Within.ite ?_ ?_
  · refine rillGranted_within (Sub.trans (by decide) hM) ?_
    exact h_s
  · refine Within.ite ?_ ?_
    · refine almGranted_within (Sub.trans (by decide) hM) ?_
      exact h_s
    · refine Within.ite ?_ ?_
      · refine Within.ite ?_ ?_
        · refine startRaising_within (Sub.trans (by decide) hM) ?_
          exact h_s
        · refine sluEnd_within (Sub.trans (by decide) hM) ?_
          exact h_s
      · exact h_s

theorem execSluiceRampStart_within {A : Nat} {u : State} {s : State} (hM : Sub 0x20000000000000184060000140011C A) (h_s : Within A u s) :
    OutWithin A u (execSluiceRampStart s) := by
  unfold execSluiceRampStart
  split
  · refine OutWithin.ok ?_
    exact h_s
  · refine OutWithin.ok ?_
    refine rampStart_within (Sub.trans (by decide) hM) ?_
    refine Within.power_ (Sub.bit hM (by decide)) ?_
    exact h_s

theorem sluCycleTick_within {A : Nat} {u : State} {s : State} (hM : Sub 0x200000001C A) (h_s : Within A u s) :
    Within A u (sluCycleTick s) := by
  unfold sluCycleTick
  split
  · refine Within.power_ (Sub.bit hM (by decide)) ?_
    exact h_s
  · extract_lets -merge -useContext +onlyGivenNames s_0 w_1
    have hs_0 : Within A u s_0 := by
      refine raise_within (Sub.trans (by decide) hM) ?_
      refine State.count_within (Sub.trans (by decide) hM) (inMask (FRM_OVR_COUNT_win _) (Sub.bit hM (by decide))) ?_
      exact h_s
    refine Within.power_ (Sub.bit hM (by decide)) ?_
    exact hs_0

theorem quietTarget_within {A : Nat} {u : State} {l : List Nat} {t init : Nat} {s : State} (hM : Sub 0x4011FC837BD7FE3F8B3640003DFFF7D A)
    (h_s : Within A u s) :
    Within A u (quietTarget l t init s).2 := by
  unfold quietTarget
  split
  · refine Within.ite1 ?_ ?_
    · refine targetOn_within (Sub.trans (by decide) hM) ?_
      exact h_s
    · refine Within.snd1 ?_
      refine forEach_within ?_ _ ?_
      · intro y0 y1 hy2
        beta_reduce
        refine targetDown_within (Sub.trans (by decide) hM) ?_
        exact hy2
      · exact h_s
  · extract_lets -merge -useContext +onlyGivenNames kept_3 w_4 s_5
    have hs_5 : Within A u s_5 := by
      refine Within.ite ?_ ?_
      · exact h_s
      · refine Within.profile_ (Sub.bit hM (by decide)) ?_
        exact h_s
    refine Within.ite1 ?_ ?_
    · refine Within.snd1 ?_
      refine forEach_within ?_ _ ?_
      · intro y6 y7 hy8
        beta_reduce
        refine targetDown_within (Sub.trans (by decide) hM) ?_
        exact hy8
      · exact hs_5
    · refine Within.ite1 ?_ ?_
      · refine targetOn_within (Sub.trans (by decide) hM) ?_
        exact hs_5
      · refine Within.snd1 ?_
        exact hs_5

theorem resetHolds_within {A : Nat} {u : State} {n : Nat} {s : State} (hM : Sub 0x110 A) (h_s : Within A u s) :
    Within A u (resetHolds n s) := by
  unfold resetHolds
  extract_lets -merge -useContext +onlyGivenNames s_0 w_1
  have hs_0 : Within A u s_0 := by
    refine Within.ite ?_ ?_
    · refine jetsForceOff_within (Sub.trans (by decide) hM) ?_
      exact h_s
    · exact h_s
  refine Within.power_ (Sub.bit hM (by decide)) ?_
  exact hs_0

theorem startDreset_within {A : Nat} {u : State} {n : Nat} {s : State} (hM : Sub 0x24001F000000000018806000055E411D A) (h_s : Within A u
    s) :
    Within A u (startDreset n s) := by
  unfold startDreset
  refine Within.ite ?_ ?_
  · exact h_s
  · refine Within.ite ?_ ?_
    · refine coreReset_within (Sub.trans (by decide) hM) ?_
      exact h_s
    · extract_lets -merge -useContext +onlyGivenNames s_0 s_1 w_2
      have hs_0 : Within A u s_0 := by
        refine set_within _ (inMask (PWR_DOM_STAT_FORCED_win _) (Sub.bit hM (by decide))) ?_
        exact h_s
      have hs_1 : Within A u s_1 := by
        refine Within.ite ?_ ?_
        · refine ldrDomReset_within (Sub.trans (by decide) hM) ?_
          exact hs_0
        · exact hs_0
      refine Within.ite ?_ ?_
      · refine resetHolds_within (Sub.trans (by decide) hM) ?_
        exact hs_1
      · refine Within.power_ (Sub.bit hM (by decide)) ?_
        exact hs_1

theorem wrPwrCtl_within {A : Nat} {u : State} {a : Agent} {n v : Nat} {s : State} (hM : Sub 0x24011FC837BD7FE3F8B3640007DFFF7D A) (h_s :
    Within A u s) :
    Within A u (wrPwrCtl a n v s).2 := by
  unfold wrPwrCtl
  extract_lets -merge -useContext +onlyGivenNames t_0 r_1
  have hr_1 : Within A u r_1.2 := by
    refine Within.ite1 ?_ ?_
    · refine quietTarget_within (Sub.trans (by decide) hM) ?_
      exact h_s
    · refine Within.snd1 ?_
      exact h_s
  refine Within.ite1 ?_ ?_
  · refine Within.snd1 ?_
    exact h_s
  · refine Within.ite1 ?_ ?_
    · refine Within.snd1 ?_
      exact h_s
    · refine Within.snd1 ?_
      refine Within.ite ?_ ?_
      · refine startDreset_within (Sub.trans (by decide) hM) ?_
        exact hr_1
      · exact hr_1

theorem execDomainTargetWrite_within {A : Nat} {u : State} {a : Agent} {n : Fin 96} {t : Nat} {s : State} (hM : Sub
    0x24011FC837BD7FE3F8B3640007DFFF7D A) (h_s : Within A u s) :
    OutWithin A u (execDomainTargetWrite a n t s) := by
  unfold execDomainTargetWrite
  refine OutWithin.ok ?_
  refine answered_within (Sub.trans (by decide) hM) ?_
  refine Within.ite1 ?_ ?_
  · refine Within.snd1 ?_
    exact h_s
  · refine wrPwrCtl_within (Sub.trans (by decide) hM) ?_
    exact h_s

theorem sluOrphans_within {A : Nat} {u : State} {s : State} (hM : Sub 0x1C00001200000018C06000011C411D A) (h_s : Within A u s) :
    Within A u (sluOrphans s) := by
  unfold sluOrphans
  extract_lets -merge -useContext +onlyGivenNames s_0 s_1
  have hs_0 : Within A u s_0 := by
    refine Within.ite ?_ ?_
    · refine set_within _ (inMask (HBM_PASS_GO_win) (Sub.bit hM (by decide))) ?_
      exact h_s
    · exact h_s
  have hs_1 : Within A u s_1 := by
    refine Within.ite ?_ ?_
    · refine set_within _ (inMask (ENC_PASS_GO_win) (Sub.bit hM (by decide))) ?_
      exact hs_0
    · exact hs_0
  refine almOrphan_within (Sub.trans (by decide) hM) ?_
  refine ldrOrphan_within (Sub.trans (by decide) hM) ?_
  exact hs_1

theorem wrElimStat_within {A : Nat} {u : State} {a : Agent} {v : Nat} {s : State} (hM : Sub 0x8000000000C A) (h_s : Within A u s) :
    Within A u (wrElimStat a v s).2 := by
  unfold wrElimStat
  extract_lets -merge -useContext +onlyGivenNames go_0
  refine Within.snd1 ?_
  refine Within.ite ?_ ?_
  · refine raise_within (Sub.trans (by decide) hM) ?_
    refine set_within _ (inMask (ELIM_STAT_WIRING_win) (Sub.bit hM (by decide))) ?_
    exact h_s
  · exact h_s

theorem execWiringLatchClear_within {A : Nat} {u : State} {a : Agent} {s : State} (hM : Sub 0x8000000000D A) (h_s : Within A u s) :
    OutWithin A u (execWiringLatchClear a s) := by
  unfold execWiringLatchClear
  refine OutWithin.ok ?_
  refine answered_within (Sub.trans (by decide) hM) ?_
  refine wrElimStat_within (Sub.trans (by decide) hM) ?_
  exact h_s

theorem holdHiz_within {A : Nat} {u : State} {n : Nat} {s : State} (hM : Sub 0x110 A) (h_s : Within A u s) :
    Within A u (holdHiz n s) := by
  unfold holdHiz
  extract_lets -merge -useContext +onlyGivenNames s_0 w_1 w_2
  have hs_0 : Within A u s_0 := by
    refine pmuDisconnect_within (Sub.trans (by decide) hM) ?_
    exact h_s
  refine Within.upd (s := s_0) ?_ rfl (fun _ _ => rfl) (.inr rfl) (.inr rfl) (.inr rfl) (.inr rfl) (.inl (Sub.bit hM (by decide))) (.inr rfl) (.inr rfl) (.inr rfl) (.inl (Sub.bit hM (by decide))) (.inr rfl) (.inr rfl) (.inr rfl) (.inr rfl) (.inr rfl) (.inr rfl) (.inr rfl) (.inr rfl) (.inr rfl) (.inr rfl) (.inr rfl) (.inr rfl) (.inr rfl) (.inr rfl) (.inr rfl) (.inr rfl) (.inr rfl) (.inr rfl) (.inr rfl) (.inr rfl) (fun c => ⟨c.regs, c.hbm, c.flash, c.cfg, c.editions, c.ledger, c.ring, c.queue, c.seqs, c.cores⟩) (Otp.same rfl rfl rfl rfl rfl rfl)
  exact hs_0

theorem execFaultEventEnd_within {A : Nat} {u : State} {ch : Fin 512} {s : State} (hM : Sub 0x10 A) (h_s : Within A u s) :
    OutWithin A u (execFaultEventEnd ch s) := by
  unfold execFaultEventEnd
  refine OutWithin.ok ?_
  refine Within.power_ (Sub.bit hM (by decide)) ?_
  exact h_s

theorem profileSubmit_within {A : Nat} {u : State} {p : Nat} {s : State} (hM : Sub 0x180064020000013C A) (h_s : Within A u s) :
    Within A u (profileSubmit p s) := by
  unfold profileSubmit
  extract_lets -merge -useContext +onlyGivenNames s_0 w_1 s_2
  have hs_0 : Within A u s_0 := by
    refine profileDrop_within (Sub.trans (by decide) hM) ?_
    exact h_s
  have hs_2 : Within A u s_2 := by
    refine Within.profile_ (Sub.bit hM (by decide)) ?_
    exact hs_0
  refine Within.ite ?_ ?_
  · refine set_within _ (inMask (SYS_PROFILE_RESULT_win) (Sub.bit hM (by decide))) ?_
    exact hs_0
  · split
    · refine profileRefuse_within (Sub.trans (by decide) hM) ?_
      exact hs_0
    · split
      · refine profileRefuse_within (Sub.trans (by decide) hM) ?_
        refine Within.of_eq (q := (_, _)) (by assumption) ?_
        refine sluPlace_within (Sub.trans (by decide) hM) ?_
        exact hs_2
      · extract_lets -merge -useContext +onlyGivenNames w_3 w_4
        have hw_3 : Within A u w_3 := by
          refine set_within _ (inMask (SYS_PROFILE_PENDING_win) (Sub.bit hM (by decide))) ?_
          refine Within.of_eq (q := (_, _)) (by assumption) ?_
          refine sluPlace_within (Sub.trans (by decide) hM) ?_
          exact hs_2
        refine Within.profile_ (Sub.bit hM (by decide)) ?_
        exact hw_3

theorem wrSysProfile_within {A : Nat} {u : State} {a : Agent} {v : Nat} {s : State} (hM : Sub 0x180064020000013C A) (h_s : Within A u s) :
    Within A u (wrSysProfile a v s).2 := by
  unfold wrSysProfile
  refine Within.ite1 ?_ ?_
  · refine Within.snd1 ?_
    exact h_s
  · extract_lets -merge -useContext +onlyGivenNames p_0 s_1
    have hs_1 : Within A u s_1 := by
      refine set_within _ (inMask (SYS_PROFILE_REQ_win) (Sub.bit hM (by decide))) ?_
      exact h_s
    refine Within.snd1 ?_
    refine Within.ite ?_ ?_
    · refine profileSubmit_within (Sub.trans (by decide) hM) ?_
      exact hs_1
    · exact hs_1

theorem execProfileChangeRequest_within {A : Nat} {u : State} {a : Agent} {viaObject : Bool} {req : Nat} {s : State} (hM : Sub
    0x180064020000013D A) (h_s : Within A u s) :
    OutWithin A u (execProfileChangeRequest a viaObject req s) := by
  unfold execProfileChangeRequest
  refine OutWithin.ite ?_ ?_
  · refine OutWithin.ok ?_
    refine answered_within (Sub.trans (by decide) hM) ?_
    refine Within.ite1 ?_ ?_
    · refine Within.snd1 ?_
      exact h_s
    · refine Within.ite1 ?_ ?_
      · refine Within.snd1 ?_
        exact h_s
      · refine wrSysProfile_within (Sub.trans (by decide) hM) ?_
        exact h_s
  · refine OutWithin.ok ?_
    refine answered_within (Sub.trans (by decide) hM) ?_
    refine wrSysProfile_within (Sub.trans (by decide) hM) ?_
    exact h_s

theorem execDomainQuiesced_within {A : Nat} {u : State} {n : Fin 96} {s : State} (hM : Sub 0x400000037BD7F63F8A064000A5BBB3C A) (h_s :
    Within A u s) :
    OutWithin A u (execDomainQuiesced n s) := by
  unfold execDomainQuiesced
  refine OutWithin.whenOk ?_ ?_
  · exact h_s
  · refine lowered_within (Sub.trans (by decide) hM) ?_
    refine Within.ite ?_ ?_
    · refine flushCache_within (Sub.trans (by decide) hM) ?_
      exact h_s
    · exact h_s

theorem wiringTrip_within {A : Nat} {u : State} {uJ : Nat} {s : State} (hM : Sub 0x4011FC837BD7FE3F8B3680003DFFF5D A) (h_s : Within A u s) :
    Within A u (wiringTrip uJ s) := by
  unfold wiringTrip
  extract_lets -merge -useContext +onlyGivenNames s_0 s_1 s_2
  have hs_0 : Within A u s_0 := by
    refine raise_within (Sub.trans (by decide) hM) ?_
    refine set_within _ (inMask (ELIM_STAT_WIN_FAULT_win) (Sub.bit hM (by decide))) ?_
    refine set_within _ (inMask (ELIM_STAT_WIRING_win) (Sub.bit hM (by decide))) ?_
    exact h_s
  have hs_1 : Within A u s_1 := by
    refine forNat_within ?_ _ ?_
    · intro y3 y4 hy5
      refine holdHiz_within (Sub.trans (by decide) hM) ?_
      exact hy5
    · refine calWatch_within (Sub.trans (by decide) hM) ?_
      exact hs_0
  have hs_2 : Within A u s_2 := by
    refine forNat_within ?_ _ ?_
    · intro y6 y7 hy8
      beta_reduce
      refine targetDown_within (Sub.trans (by decide) hM) ?_
      exact hy8
    · exact hs_1
  refine forEach_within ?_ _ ?_
  · intro y9 y10 hy11
    refine sluEnd_within (Sub.trans (by decide) hM) ?_
    exact hy11
  · exact hs_2

theorem execWiringTrip_within {A : Nat} {u : State} {uJ : Nat} {s : State} (hM : Sub 0x4011FC837BD7FE3F8B3680003DFFF5D A) (h_s : Within A
    u s) :
    OutWithin A u (execWiringTrip uJ s) := by
  unfold execWiringTrip
  refine OutWithin.whenOk ?_ ?_
  · exact h_s
  · refine wiringTrip_within (Sub.trans (by decide) hM) ?_
    exact h_s

theorem execSluiceRelease_within {A : Nat} {u : State} {a : Agent} {ticket : Nat} {s : State} (hM : Sub 0x180060020000013D A) (h_s :
    Within A u s) :
    OutWithin A u (execSluiceRelease a ticket s) := by
  unfold execSluiceRelease
  refine OutWithin.ok ?_
  refine answered_within (Sub.trans (by decide) hM) ?_
  refine sluRelease_within (Sub.trans (by decide) hM) ?_
  exact h_s

theorem execDomainReset_within {A : Nat} {u : State} {a : Agent} {n : Fin 96} {s : State} (hM : Sub 0x24001F000000000018806000055E411D A)
    (h_s : Within A u s) :
    OutWithin A u (execDomainReset a n s) := by
  unfold execDomainReset
  refine OutWithin.ok ?_
  refine answered_within (Sub.trans (by decide) hM) ?_
  refine Within.ite1 ?_ ?_
  · refine Within.snd1 ?_
    exact h_s
  · refine Within.snd1 ?_
    refine startDreset_within (Sub.trans (by decide) hM) ?_
    exact h_s

theorem execBallTrip_within {A : Nat} {u : State} {ch : Fin 512} {nJ : Nat} {s : State} (hM : Sub 0x10000000051C A) (h_s : Within A u s) :
    OutWithin A u (execBallTrip ch nJ s) := by
  unfold execBallTrip
  extract_lets -merge -useContext +onlyGivenNames n_0
  refine OutWithin.whenOk ?_ ?_
  · exact h_s
  · refine raise_within (Sub.trans (by decide) hM) ?_
    refine holdHiz_within (Sub.trans (by decide) hM) ?_
    refine calWatch_within (Sub.trans (by decide) hM) ?_
    refine set_within _ (inMask (ELIM_TRIP_BALL_win _) (Sub.bit hM (by decide))) ?_
    exact h_s

theorem execEnergyLedgerStep_within {A : Nat} {u : State} {l : List EnergySample} {uJ : Nat} {s : State} (hM : Sub 0x880000000050 A) (h_s
    : Within A u s) :
    OutWithin A u (execEnergyLedgerStep l uJ s) := by
  unfold execEnergyLedgerStep
  refine inDuty_within (Sub.trans (by decide) hM) ?_ ?_
  · intro y0 hy1
    beta_reduce
    extract_lets -merge -useContext +onlyGivenNames merged_2 put_3 w_4
    have hput_3 : ∀ y5 y6, Within A u y6 → Within A u (put_3 y5 y6) := by
      intro y5 y6 hy7
      unfold put_3
      extract_lets -merge -useContext +onlyGivenNames x_8 tot_9 flt_10
      refine set_within _ (inMask (ENL_MERGED_win _) (Sub.bit hM (by decide))) ?_
      refine set_within _ (inMask (ENL_FAULT_win _) (Sub.bit hM (by decide))) ?_
      refine set_within _ (inMask (ENL_TOTAL_win _) (Sub.bit hM (by decide))) ?_
      exact hy7
    refine OutWithin.whenOk ?_ ?_
    · exact hy1
    · refine set_within _ (inMask (ELIM_STAT_WIN_FAULT_win) (Sub.bit hM (by decide))) ?_
      refine forNat_within ?_ _ ?_
      · intro y11 y12 hy13
        apply hput_3
        exact hy13
      · refine Within.power_ (Sub.bit hM (by decide)) ?_
        exact hy1
  · exact h_s

theorem wrSluReq_within {A : Nat} {u : State} {a : Agent} {v : Nat} {s : State} (hM : Sub 0x24000000003C A) (h_s : Within A u s) :
    Within A u (wrSluReq a v s).2 := by
  unfold wrSluReq
  extract_lets -merge -useContext +onlyGivenNames r_0
  have hr_0 : Within A u r_0.2.2 := by
    refine sluSubmit_within (Sub.trans (by decide) hM) ?_
    exact h_s
  refine Within.snd1 ?_
  exact hr_0

theorem execSluiceRequest_within {A : Nat} {u : State} {a : Agent} {v : Nat} {s : State} (hM : Sub 0x24000000003D A) (h_s : Within A u s) :
    OutWithin A u (execSluiceRequest a v s) := by
  unfold execSluiceRequest
  extract_lets -merge -useContext +onlyGivenNames r_0 w_1
  have hr_0 : Within A u r_0.2 := by
    refine wrSluReq_within (Sub.trans (by decide) hM) ?_
    exact h_s
  have hw_1 : Within A u w_1 := by
    exact hr_0
  refine OutWithin.ok ?_
  refine Within.ite ?_ ?_
  · refine Within.resp_ (Sub.bit hM (by decide)) ?_
    exact hw_1
  · refine answered_within (Sub.trans (by decide) hM) ?_
    exact hr_0

theorem execDresetQuiesceTimeout_within {A : Nat} {u : State} {n : Fin 96} {s : State} (hM : Sub 0x2000000000004000000C191D A) (h_s :
    Within A u s) :
    OutWithin A u (execDresetQuiesceTimeout n s) := by
  unfold execDresetQuiesceTimeout
  refine OutWithin.whenOk ?_ ?_
  · exact h_s
  · refine resetHolds_within (Sub.trans (by decide) hM) ?_
    refine forceQuiet_within (Sub.trans (by decide) hM) ?_
    exact h_s

theorem raiseNextTick_within {A : Nat} {u : State} {n init : Nat} {s : State} (hM : Sub 0x400000000010 A) (h_s : Within A u s) :
    Within A u (raiseNextTick n init s) := by
  unfold raiseNextTick
  extract_lets -merge -useContext +onlyGivenNames s_0 r_1 w_2
  have hs_0 : Within A u s_0 := by
    refine wantRaise_within (Sub.trans (by decide) hM) ?_
    exact h_s
  refine Within.power_ (Sub.bit hM (by decide)) ?_
  exact hs_0

theorem execGrantOverdue_within {A : Nat} {u : State} {e : Fin 128} {s : State} (hM : Sub 0x20000000000C A) (h_s : Within A u s) :
    OutWithin A u (execGrantOverdue e s) := by
  unfold execGrantOverdue
  extract_lets -merge -useContext +onlyGivenNames k_0
  refine OutWithin.whenOk ?_ ?_
  · exact h_s
  · refine raise_within (Sub.trans (by decide) hM) ?_
    refine set_within _ (inMask (SLU_ENT_STATE_win _) (Sub.bit hM (by decide))) ?_
    exact h_s

end Sys2Proof.Machine
end

