-- ==== Sys2Proof/Laws/WithinCascade.lean ====
section
/-! SUPPORT. What each operation of Machine/Cascade.lean can reach (see Laws/Within.lean). -/
set_option Elab.async false
namespace Sys2Proof.Machine

theorem casDrop_within {A : Nat} {u : State} {s : State} (hM : Sub 0x10000000000000000000800000 A) (h_s : Within A u s) :
    Within A u (casDrop s) := by
  unfold casDrop
  extract_lets -merge -useContext +onlyGivenNames w_0 w_1
  have hw_0 : Within A u w_0 := by
    refine State.count_within (Sub.trans (by decide) hM) (inMask (CAS_STAT_RX_DROP_win) (Sub.bit hM (by decide))) ?_
    exact h_s
  refine Within.casc_ (Sub.bit hM (by decide)) ?_
  exact hw_0

theorem casStore_within {A : Nat} {u : State} {flits : List OutFlit} {s : State} (hM : Sub 0x3020A00000002000000884180C A) (h_s : Within
    A u s) :
    Within A u (casStore flits s) := by
  unfold casStore
  extract_lets -merge -useContext +onlyGivenNames n_0 wr_1 b_2 a_3 x_4
  have hx_4 : Within A u x_4.2 := by
    refine nocSave_within (Sub.trans (by decide) hM) ?_
    exact h_s
  refine Within.ite ?_ ?_
  · refine casDrop_within (Sub.trans (by decide) hM) ?_
    exact h_s
  · refine Within.ite ?_ ?_
    · refine set_within _ (inMask (CAS_RX_PTR_WR_win) (Sub.bit hM (by decide))) ?_
      exact hx_4
    · refine casDrop_within (Sub.trans (by decide) hM) ?_
      exact hx_4

theorem casDeliver_within {A : Nat} {u : State} {src : Option Nat} {flits : List OutFlit} {s : State} (hM : Sub
    0x3020A00000002000000884180C A) (h_s : Within A u s) :
    Within A u (casDeliver src flits s) := by
  unfold casDeliver
  extract_lets -merge -useContext +onlyGivenNames dest_0 r_1 s_2
  have hs_2 : Within A u s_2 := by
    refine Within.ite ?_ ?_
    · refine casStore_within (Sub.trans (by decide) hM) ?_
      exact h_s
    · exact h_s
  refine Within.ite ?_ ?_
  · refine raise_within (Sub.trans (by decide) hM) ?_
    refine State.count_within (Sub.trans (by decide) hM) (inMask (CAS_STAT_NOROUTE_win) (Sub.bit hM (by decide))) ?_
    exact hs_2
  · refine forEach_within ?_ _ ?_
    · intro y3 y4 hy5
      beta_reduce
      refine modLink_within (Sub.trans (by decide) hM) ?_
      exact hy5
    · exact hs_2

theorem casPop_within {A : Nat} {u : State} {s : State} (hM : Sub 0x3020A00000002000000884180C A) (h_s : Within A u s) :
    Within A u (casPop s) := by
  unfold casPop
  split
  · exact h_s
  · extract_lets -merge -useContext +onlyGivenNames x_0 w_1 w_2 t_3
    have hx_0 : Within A u x_0.2.2 := by
      refine nocLoad_within (Sub.trans (by decide) hM) ?_
      exact h_s
    have hw_1 : Within A u w_1 := by
      exact hx_0
    have ht_3 : Within A u t_3 := by
      refine Within.casc_ (Sub.bit hM (by decide)) ?_
      exact hw_1
    refine Within.ite ?_ ?_
    · exact hx_0
    · refine Within.ite ?_ ?_
      · refine casDeliver_within (Sub.trans (by decide) hM) ?_
        exact ht_3
      · exact ht_3

theorem casSelf_within {A : Nat} {u : State} {s : State} (hM : Sub 0x3020A00000002000000884180C A) (h_s : Within A u s) :
    Within A u (casSelf s) := by
  unfold casSelf
  refine forNat_within ?_ _ ?_
  · intro y0 y1 hy2
    beta_reduce
    split
    · refine Within.ite ?_ ?_
      · refine casPop_within (Sub.trans (by decide) hM) ?_
        exact hy2
      · exact hy2
    · exact hy2
  · exact h_s

theorem wrCasSend_within {A : Nat} {u : State} {a : Agent} {v : Nat} {s : State} (hM : Sub 0x3020A00000002000000884180C A) (h_s : Within
    A u s) :
    Within A u (wrCasSend a v s).2 := by
  unfold wrCasSend
  extract_lets -merge -useContext +onlyGivenNames dest_0 m_1 w_2
  refine Within.ite1 ?_ ?_
  · refine Within.snd1 ?_
    exact h_s
  · refine Within.ite1 ?_ ?_
    · refine Within.snd1 ?_
      exact h_s
    · refine Within.ite1 ?_ ?_
      · refine Within.snd1 ?_
        exact h_s
      · refine Within.snd1 ?_
        refine casSelf_within (Sub.trans (by decide) hM) ?_
        refine Within.casc_ (Sub.bit hM (by decide)) ?_
        exact h_s

theorem execCasSend_within {A : Nat} {u : State} {a : Agent} {v : Nat} {s : State} (hM : Sub 0x3020A00000002000000884180D A) (h_s :
    Within A u s) :
    OutWithin A u (execCasSend a v s) := by
  unfold execCasSend
  refine OutWithin.ok ?_
  refine answered_within (Sub.trans (by decide) hM) ?_
  refine wrCasSend_within (Sub.trans (by decide) hM) ?_
  exact h_s

theorem execMessageReceive_within {A : Nat} {u : State} {q : Fin 16} {s : State} (hM : Sub 0x3020A00000002000000884180C A) (h_s : Within
    A u s) :
    OutWithin A u (execMessageReceive q s) := by
  unfold execMessageReceive
  extract_lets -merge -useContext +onlyGivenNames x_0
  split
  · refine OutWithin.ok ?_
    exact h_s
  · refine OutWithin.ok ?_
    refine casDeliver_within (Sub.trans (by decide) hM) ?_
    refine modLink_within (Sub.trans (by decide) hM) ?_
    exact h_s

theorem wrCasCtl_within {A : Nat} {u : State} {a : Agent} {v : Nat} {s : State} (hM : Sub 0x4000000000000000000000000 A) (h_s : Within A
    u s) :
    Within A u (wrCasCtl a v s).2 := by
  unfold wrCasCtl
  extract_lets -merge -useContext +onlyGivenNames n_0
  refine Within.ite1 ?_ ?_
  · refine Within.snd1 ?_
    exact h_s
  · refine Within.ite1 ?_ ?_
    · refine Within.snd1 ?_
      exact h_s
    · refine Within.snd1 ?_
      refine writeFlds_within (Sub.trans (by decide) hM) (inMasks (CAS_CTL_fields_win) (Sub.bit hM (by decide))) ?_
      exact h_s

theorem execTimeFlitReceive_within {A : Nat} {u : State} {q : Fin 16} {arrival turn : Nat} {f : TimeFlit} {s : State} (hM : Sub
    0x800000000000000000080000C A) (h_s : Within A u s) :
    OutWithin A u (execTimeFlitReceive q arrival turn f s) := by
  unfold execTimeFlitReceive
  extract_lets -merge -useContext +onlyGivenNames inTime_0 hops_1 t_2 t_3 w_4 t_5 t_6
  have ht_2 : Within A u t_2 := by
    refine set_within _ (inMask (CAS_TIME_BEYOND_win) (Sub.bit hM (by decide))) ?_
    refine set_within _ (inMask (CAS_TIME_HOPS_win) (Sub.bit hM (by decide))) ?_
    refine set_within _ (inMask (CAS_TIME_HOLD_win) (Sub.bit hM (by decide))) ?_
    refine State.setIf_within (Sub.trans (by decide) hM) (inMask (CAS_TIME_DELAY_win) (Sub.bit hM (by decide))) ?_
    exact h_s
  have ht_3 : Within A u t_3 := by
    refine Within.ite ?_ ?_
    · refine raise_within (Sub.trans (by decide) hM) ?_
      exact ht_2
    · exact ht_2
  have ht_5 : Within A u t_5 := by
    refine Within.casc_ (Sub.bit hM (by decide)) ?_
    exact ht_3
  have ht_6 : Within A u t_6 := by
    refine modLink_within (Sub.trans (by decide) hM) ?_
    exact ht_5
  refine OutWithin.whenOk ?_ ?_
  · exact h_s
  · refine casEval_within (Sub.trans (by decide) hM) ?_
    exact ht_6

theorem casTickPlaced_within {A : Nat} {u : State} {n : CasNext} {s : State} (hM : Sub 0x800000000000000000080000C A) (h_s : Within A u s) :
    Within A u (casTickPlaced n s) := by
  unfold casTickPlaced
  extract_lets -merge -useContext +onlyGivenNames e_0 good_1 k_2 step_3 w_4 w_5 s_6
  have hw_4 : Within A u w_4 := by
    refine set_within _ (inMask (CAS_TIME_ERR_win) (Sub.bit hM (by decide))) ?_
    exact h_s
  have hs_6 : Within A u s_6 := by
    refine Within.casc_ (Sub.bit hM (by decide)) ?_
    exact hw_4
  refine Within.ite ?_ ?_
  · refine raise_within (Sub.trans (by decide) hM) ?_
    refine set_within _ (inMask (CAS_TIME_ALIGNED_win) (Sub.bit hM (by decide))) ?_
    exact hs_6
  · refine Within.ite ?_ ?_
    · refine set_within _ (inMask (CAS_TIME_ALIGNED_win) (Sub.bit hM (by decide))) ?_
      exact hs_6
    · exact hs_6

theorem execEchoReceive_within {A : Nat} {u : State} {q : Fin 16} {t4 turn count : Nat} {s : State} (hM : Sub 0x800000 A) (h_s : Within A
    u s) :
    OutWithin A u (execEchoReceive q t4 turn count s) := by
  unfold execEchoReceive
  extract_lets -merge -useContext +onlyGivenNames x_0 lane_1 old_2
  split
  · refine OutWithin.ok ?_
    exact h_s
  · extract_lets -merge -useContext +onlyGivenNames d2_3
    refine OutWithin.whenOk ?_ ?_
    · exact h_s
    · refine modLink_within (Sub.trans (by decide) hM) ?_
      exact h_s

theorem casPump_within {A : Nat} {u : State} {q : Nat} {s : State} (hM : Sub 0x3020A00000002000000884180C A) (h_s : Within A u s) :
    Within A u (casPump q s) := by
  unfold casPump
  extract_lets -merge -useContext +onlyGivenNames s_0
  have hs_0 : Within A u s_0 := by
    refine casSelf_within (Sub.trans (by decide) hM) ?_
    exact h_s
  split
  · refine Within.ite ?_ ?_
    · refine casPop_within (Sub.trans (by decide) hM) ?_
      exact hs_0
    · exact hs_0
  · exact hs_0

theorem execFlitSend_within {A : Nat} {u : State} {q : Fin 16} {s : State} (hM : Sub 0x3020A00000002000000884180C A) (h_s : Within A u s) :
    OutWithin A u (execFlitSend q s) := by
  unfold execFlitSend
  extract_lets -merge -useContext +onlyGivenNames t_0
  have ht_0 : Within A u t_0 := by
    refine casPump_within (Sub.trans (by decide) hM) ?_
    exact h_s
  refine OutWithin.whenOk ?_ ?_
  · exact h_s
  · refine modLink_within (Sub.trans (by decide) hM) ?_
    exact ht_0

theorem wrCasRxCfg_within {A : Nat} {u : State} {a : Agent} {v : Nat} {s : State} (hM : Sub 0x20000000000000000000000000 A) (h_s : Within
    A u s) :
    Within A u (wrCasRxCfg a v s).2 := by
  unfold wrCasRxCfg
  extract_lets -merge -useContext +onlyGivenNames n_0
  refine Within.ite1 ?_ ?_
  · refine Within.snd1 ?_
    exact h_s
  · refine Within.ite1 ?_ ?_
    · refine Within.snd1 ?_
      exact h_s
    · refine Within.snd1 ?_
      refine set_within _ (inMask (CAS_RX_PTR_WR_win) (Sub.bit hM (by decide))) ?_
      refine set_within _ (inMask (CAS_RX_PTR_RD_win) (Sub.bit hM (by decide))) ?_
      refine writeFlds_within (Sub.trans (by decide) hM) (inMasks (CAS_RX_CFG_fields_win) (Sub.bit hM (by decide))) ?_
      exact h_s

theorem wrCasRxPtr_within {A : Nat} {u : State} {a : Agent} {v : Nat} {s : State} (hM : Sub 0x20000000000000000000000000 A) (h_s : Within
    A u s) :
    Within A u (wrCasRxPtr a v s).2 := by
  unfold wrCasRxPtr
  refine Within.ite1 ?_ ?_
  · refine Within.snd1 ?_
    exact h_s
  · refine Within.ite1 ?_ ?_
    · refine Within.snd1 ?_
      exact h_s
    · refine Within.snd1 ?_
      refine writeFlds_within (Sub.trans (by decide) hM) (inMasks (CAS_RX_PTR_fields_win) (Sub.bit hM (by decide))) ?_
      exact h_s

theorem execTimeFlitSend_within {A : Nat} {u : State} {q : Fin 16} {t1 : Nat} {s : State} (hM : Sub 0x800000 A) (h_s : Within A u s) :
    OutWithin A u (execTimeFlitSend q t1 s) := by
  unfold execTimeFlitSend
  extract_lets -merge -useContext +onlyGivenNames x_0 count_1 f_2
  refine OutWithin.whenOk ?_ ?_
  · exact h_s
  · refine modLink_within (Sub.trans (by decide) hM) ?_
    exact h_s

theorem casTick_within {A : Nat} {u : State} {s : State} (hM : Sub 0x3820A00000002000000884180C A) (h_s : Within A u s) :
    Within A u (casTick s) := by
  unfold casTick
  extract_lets -merge -useContext +onlyGivenNames s_0 s_1 w_2 s_3
  have hs_0 : Within A u s_0 := by
    refine casSelf_within (Sub.trans (by decide) hM) ?_
    exact h_s
  have hs_1 : Within A u s_1 := by
    refine Within.ite ?_ ?_
    · exact hs_0
    · refine raise_within (Sub.trans (by decide) hM) ?_
      exact hs_0
  have hs_3 : Within A u s_3 := by
    refine Within.casc_ (Sub.bit hM (by decide)) ?_
    exact hs_1
  refine casEval_within (Sub.trans (by decide) hM) ?_
  exact hs_3

end Sys2Proof.Machine
end

