-- ==== Sys2Proof/Laws/WithinDebug.lean ====
section
/-! SUPPORT. What each operation of Machine/Debug.lean can reach (see Laws/Within.lean). -/
set_option Elab.async false
namespace Sys2Proof.Machine

theorem tracePush_within {A : Nat} {u : State} {b : List Nat} {s : State} (hM : Sub 0x8 A) (h_s : Within A u s) :
    Within A u (tracePush b s) := by
  unfold tracePush
  extract_lets -merge -useContext +onlyGivenNames n_0 w_1 t_2
  refine Within.ite ?_ ?_
  · refine Within.trace_ (Sub.bit hM (by decide)) ?_
    exact h_s
  · refine Within.ite ?_ ?_
    · refine Within.trace_ (Sub.bit hM (by decide)) ?_
      exact h_s
    · refine Within.trace_ (Sub.bit hM (by decide)) ?_
      exact h_s

theorem traceOverflow_within {A : Nat} {u : State} {s : State} (hM : Sub 0x8 A) (h_s : Within A u s) :
    Within A u (traceOverflow s) := by
  unfold traceOverflow
  refine Within.ite ?_ ?_
  · refine tracePush_within (Sub.trans (by decide) hM) ?_
    refine Within.trace_ (Sub.bit hM (by decide)) ?_
    exact h_s
  · exact h_s

theorem traceLose_within {A : Nat} {u : State} {s : State} (hM : Sub 0x10000000000000000000000004000008 A) (h_s : Within A u s) :
    Within A u (traceLose s) := by
  unfold traceLose
  extract_lets -merge -useContext +onlyGivenNames s_0 w_1 w_2
  have hs_0 : Within A u s_0 := by
    refine State.count_within (Sub.trans (by decide) hM) (inMask (DBG_TRC_STAT_LOST_win) (Sub.bit hM (by decide))) ?_
    exact h_s
  refine Within.upd (s := s_0) ?_ rfl (fun _ _ => rfl) (.inr rfl) (.inr rfl) (.inr rfl) (.inl (Sub.bit hM (by decide))) (.inr rfl) (.inr rfl) (.inr rfl) (.inr rfl) (.inr rfl) (.inr rfl) (.inr rfl) (.inr rfl) (.inr rfl) (.inr rfl) (.inr rfl) (.inr rfl) (.inr rfl) (.inr rfl) (.inr rfl) (.inr rfl) (.inr rfl) (.inr rfl) (.inr rfl) (.inr rfl) (.inr rfl) (.inr rfl) (.inl (Sub.bit hM (by decide))) (.inr rfl) (.inr rfl) (fun c => ⟨c.regs, c.hbm, c.flash, c.cfg, c.editions, c.ledger, c.ring, c.queue, c.seqs, c.cores⟩) (Otp.same rfl rfl rfl rfl rfl rfl)
  exact hs_0

theorem traceEnter_within {A : Nat} {u : State} {p : TracePacket} {s : State} (hM : Sub 0x10000000000000000000000004000008 A) (h_s :
    Within A u s) :
    Within A u (traceEnter p s) := by
  unfold traceEnter
  extract_lets -merge -useContext +onlyGivenNames s_0 b_1
  have hs_0 : Within A u s_0 := by
    refine traceOverflow_within (Sub.trans (by decide) hM) ?_
    exact h_s
  refine Within.ite ?_ ?_
  · refine tracePush_within (Sub.trans (by decide) hM) ?_
    exact hs_0
  · refine traceLose_within (Sub.trans (by decide) hM) ?_
    exact hs_0

theorem traceNext_within {A : Nat} {u : State} {s : State} (hM : Sub 0x10000000000000000000000004000008 A) (h_s : Within A u s) :
    Within A u (traceNext s) := by
  unfold traceNext
  split
  · exact h_s
  · refine traceEnter_within (Sub.trans (by decide) hM) ?_
    refine Within.trace_ (Sub.bit hM (by decide)) ?_
    exact h_s

theorem traceFlush_within {A : Nat} {u : State} {s : State} (hM : Sub 0x10000000000000000000000004000008 A) (h_s : Within A u s) :
    Within A u (traceFlush s) := by
  unfold traceFlush
  refine forNat_within ?_ _ ?_
  · intro y0 y1 hy2
    beta_reduce
    refine traceNext_within (Sub.trans (by decide) hM) ?_
    exact hy2
  · exact h_s

theorem wrStim_within {A : Nat} {u : State} {a : Agent} {c p width v : Nat} {s : State} (hM : Sub 0x10000000000000000000000004000008 A)
    (h_s : Within A u s) :
    Within A u (wrStim a c p width v s).2 := by
  unfold wrStim
  refine Within.ite1 ?_ ?_
  · refine Within.snd1 ?_
    exact h_s
  · refine Within.ite1 ?_ ?_
    · refine Within.snd1 ?_
      exact h_s
    · refine Within.ite1 ?_ ?_
      · refine Within.snd1 ?_
        exact h_s
      · extract_lets -merge -useContext +onlyGivenNames s_0 b_1 w_2
        have hs_0 : Within A u s_0 := by
          refine traceOverflow_within (Sub.trans (by decide) hM) ?_
          refine traceFlush_within (Sub.trans (by decide) hM) ?_
          exact h_s
        refine Within.ite1 ?_ ?_
        · refine Within.snd1 ?_
          refine Within.trace_ (Sub.bit hM (by decide)) ?_
          exact hs_0
        · refine Within.snd1 ?_
          refine traceEnter_within (Sub.trans (by decide) hM) ?_
          exact hs_0

theorem wrDbgRun_within {A : Nat} {u : State} {a : Agent} {k v : Nat} {s : State} (hM : Sub 0x2400020000010000000000000402000C A) (h_s :
    Within A u s) :
    Within A u (wrDbgRun a k v s).2 := by
  unfold wrDbgRun
  refine Within.ite1 ?_ ?_
  · refine Within.snd1 ?_
    exact h_s
  · extract_lets -merge -useContext +onlyGivenNames t_0 r_1
    have ht_0 : Within A u t_0 := by
      refine set_within _ (inMask (DBG_RUN_RHALT_win _) (Sub.bit hM (by decide))) ?_
      exact h_s
    have hr_1 : Within A u r_1.2 := by
      refine haltCore_within (Sub.trans (by decide) hM) ?_
      exact ht_0
    refine Within.ite1 ?_ ?_
    · refine Within.ite1 ?_ ?_
      · exact hr_1
      · refine Within.snd1 ?_
        exact h_s
    · refine Within.ite1 ?_ ?_
      · refine Within.snd1 ?_
        refine resumeCore_within (Sub.trans (by decide) hM) ?_
        exact ht_0
      · refine Within.ite1 ?_ ?_
        · refine Within.snd1 ?_
          refine stepCore_within (Sub.trans (by decide) hM) ?_
          exact ht_0
        · refine Within.snd1 ?_
          exact ht_0

theorem execCoreResume_within {A : Nat} {u : State} {a : Agent} {k : Fin 36} {s : State} (hM : Sub 0x2400020000010000000000000402000D A)
    (h_s : Within A u s) :
    OutWithin A u (execCoreResume a k s) := by
  unfold execCoreResume
  refine OutWithin.ok ?_
  refine answered_within (Sub.trans (by decide) hM) ?_
  refine wrDbgRun_within (Sub.trans (by decide) hM) ?_
  exact h_s

theorem wrDbgCtl_within {A : Nat} {u : State} {a : Agent} {v : Nat} {s : State} (hM : Sub 0x2000000000000000000000000000000 A) (h_s :
    Within A u s) :
    Within A u (wrDbgCtl a v s).2 := by
  unfold wrDbgCtl
  refine Within.ite1 ?_ ?_
  · refine Within.snd1 ?_
    exact h_s
  · refine Within.snd1 ?_
    refine writeFlds_within (Sub.trans (by decide) hM) (inMasks (DBG_CTL_fields_win) (Sub.bit hM (by decide))) ?_
    exact h_s

theorem wrDbgCsrSel_within {A : Nat} {u : State} {a : Agent} {c v : Nat} {s : State} (hM : Sub 0x20000000000000000000000000000000 A) (h_s
    : Within A u s) :
    Within A u (wrDbgCsrSel a c v s).2 := by
  unfold wrDbgCsrSel
  refine Within.ite1 ?_ ?_
  · refine Within.snd1 ?_
    exact h_s
  · refine Within.ite1 ?_ ?_
    · refine Within.snd1 ?_
      exact h_s
    · refine Within.snd1 ?_
      refine set_within _ (inMask (DBG_CSR_SEL_CSR_win _) (Sub.bit hM (by decide))) ?_
      exact h_s

theorem wrDbgCsr_within {A : Nat} {u : State} {a : Agent} {c v : Nat} {s : State} (hM : Sub 0x4000000 A) (h_s : Within A u s) :
    Within A u (wrDbgCsr a c v s).2 := by
  unfold wrDbgCsr
  refine Within.ite1 ?_ ?_
  · refine Within.snd1 ?_
    exact h_s
  · refine Within.ite1 ?_ ?_
    · refine Within.snd1 ?_
      exact h_s
    · refine Within.snd1 ?_
      refine Within.dbg_ (Sub.bit hM (by decide)) ?_
      exact h_s

theorem setFreeze_within {A : Nat} {u : State} {init m : Nat} {s : State} (hM : Sub 0x800000000000020000000000000200C A) (h_s : Within A
    u s) :
    Within A u (setFreeze init m s) := by
  unfold setFreeze
  refine Within.ite ?_ ?_
  · exact h_s
  · refine raise_within (Sub.trans (by decide) hM) ?_
    refine forNat_within ?_ _ ?_
    · intro y0 y1 hy2
      beta_reduce
      refine setPauseSrc_within (Sub.trans (by decide) hM) ?_
      exact hy2
    · refine set_within _ (inMask (DBG_FREEZE_MASK_win) (Sub.bit hM (by decide))) ?_
      exact h_s

theorem wrDbgFreeze_within {A : Nat} {u : State} {a : Agent} {v : Nat} {s : State} (hM : Sub 0x800000000000020000000000000200C A) (h_s :
    Within A u s) :
    Within A u (wrDbgFreeze a v s).2 := by
  unfold wrDbgFreeze
  refine Within.ite1 ?_ ?_
  · refine Within.snd1 ?_
    refine setFreeze_within (Sub.trans (by decide) hM) ?_
    exact h_s
  · refine Within.snd1 ?_
    exact h_s

theorem execFreezeTest_within {A : Nat} {u : State} {a : Agent} {m : Nat} {s : State} (hM : Sub 0x800000000000020000000000000200D A) (h_s
    : Within A u s) :
    OutWithin A u (execFreezeTest a m s) := by
  unfold execFreezeTest
  refine OutWithin.ok ?_
  refine Within.ite ?_ ?_
  · refine answer_within (Sub.trans (by decide) hM) ?_
    exact h_s
  · refine answered_within (Sub.trans (by decide) hM) ?_
    refine wrDbgFreeze_within (Sub.trans (by decide) hM) ?_
    exact h_s

theorem execTapReset_within {A : Nat} {u : State} {s : State} (hM : Sub 0x600020000000000000000000502000C A) (h_s : Within A u s) :
    OutWithin A u (execTapReset s) := by
  unfold execTapReset
  refine OutWithin.ok ?_
  refine dbgEnd_within (Sub.trans (by decide) hM) ?_
  refine Within.dbg_ (Sub.bit hM (by decide)) ?_
  exact h_s

theorem execStimulusWrite_within {A : Nat} {u : State} {a : Agent} {c : Fin 4} {p : Fin 32} {width v : Nat} {s : State} (hM : Sub
    0x10000000000000000000000004000009 A) (h_s : Within A u s) :
    OutWithin A u (execStimulusWrite a c p width v s) := by
  unfold execStimulusWrite
  refine OutWithin.ite ?_ ?_
  · refine OutWithin.ok ?_
    exact h_s
  · extract_lets -merge -useContext +onlyGivenNames r_0
    have hr_0 : Within A u r_0.2 := by
      refine wrStim_within (Sub.trans (by decide) hM) ?_
      exact h_s
    refine OutWithin.ok ?_
    split
    · refine answer_within (Sub.trans (by decide) hM) ?_
      exact hr_0
    · exact hr_0

theorem wrDbgAuth_within {A : Nat} {u : State} {a : Agent} {v : Nat} {s : State} (hM : Sub 0x8600020000000000000000000502100C A) (h_s :
    Within A u s) :
    Within A u (wrDbgAuth a v s).2 := by
  unfold wrDbgAuth
  extract_lets -merge -useContext +onlyGivenNames op_0 len_1 s1_2 c_3 w_4 w_5 w_6 w_7
  have hs1_2 : Within A u s1_2 := by
    refine set_within _ (inMask (DBG_AUTH_CTL_LEN_win) (Sub.bit hM (by decide))) ?_
    exact h_s
  have hc_3 : Within A u c_3.2 := by
    refine newChallenge_within (Sub.trans (by decide) hM) ?_
    exact hs1_2
  have hw_4 : Within A u w_4 := by
    refine set_within _ (inMask (DBG_AUTH_CTL_BUSY_win) (Sub.bit hM (by decide))) ?_
    exact hs1_2
  have hw_6 : Within A u w_6 := by
    refine set_within _ (inMask (DBG_AUTH_CTL_BUSY_win) (Sub.bit hM (by decide))) ?_
    exact hs1_2
  refine Within.ite1 ?_ ?_
  · refine Within.snd1 ?_
    exact h_s
  · refine Within.ite1 ?_ ?_
    · refine Within.snd1 ?_
      exact h_s
    · refine Within.ite1 ?_ ?_
      · refine Within.snd1 ?_
        refine set_within _ (inMask (DBG_AUTH_CTL_RESULT_win) (Sub.bit hM (by decide))) ?_
        refine forNat_within ?_ _ ?_
        · intro y8 y9 hy10
          beta_reduce
          refine set_within _ (inMask (DBG_AUTH_BUF_WORD_win _) (Sub.bit hM (by decide))) ?_
          exact hy10
        · exact hc_3
      · refine Within.ite1 ?_ ?_
        · refine Within.ite1 ?_ ?_
          · refine Within.snd1 ?_
            exact h_s
          · refine Within.snd1 ?_
            refine Within.dbg_ (Sub.bit hM (by decide)) ?_
            exact hw_4
        · refine Within.ite1 ?_ ?_
          · refine Within.snd1 ?_
            refine Within.dbg_ (Sub.bit hM (by decide)) ?_
            exact hw_6
          · refine Within.ite1 ?_ ?_
            · refine Within.snd1 ?_
              refine set_within _ (inMask (DBG_AUTH_CTL_RESULT_win) (Sub.bit hM (by decide))) ?_
              refine dbgEnd_within (Sub.trans (by decide) hM) ?_
              exact hs1_2
            · refine Within.snd1 ?_
              exact h_s

theorem execDebugKey_within {A : Nat} {u : State} {a : Agent} {s : State} (hM : Sub 0x8600020000000000000000000502100D A) (h_s : Within A
    u s) :
    OutWithin A u (execDebugKey a s) := by
  unfold execDebugKey
  refine OutWithin.ok ?_
  refine answered_within (Sub.trans (by decide) hM) ?_
  refine wrDbgAuth_within (Sub.trans (by decide) hM) ?_
  exact h_s

theorem execTapUpdate_within {A : Nat} {u : State} {u_ : TapUpdate} {s : State} (hM : Sub 0x4000000 A) (h_s : Within A u s) :
    OutWithin A u (execTapUpdate u_ s) := by
  unfold execTapUpdate
  split
  · refine OutWithin.ok ?_
    refine Within.dbg_ (Sub.bit hM (by decide)) ?_
    exact h_s
  · refine OutWithin.whenOk ?_ ?_
    · exact h_s
    · refine Within.dbg_ (Sub.bit hM (by decide)) ?_
      exact h_s

theorem wrDbgCreg_within {A : Nat} {u : State} {a : Agent} {c r v : Nat} {s : State} (hM : Sub 0x20000000000000000000000000000000 A) (h_s
    : Within A u s) :
    Within A u (wrDbgCreg a c r v s).2 := by
  unfold wrDbgCreg
  refine Within.ite1 ?_ ?_
  · refine Within.snd1 ?_
    exact h_s
  · refine Within.ite1 ?_ ?_
    · refine Within.snd1 ?_
      exact h_s
    · refine Within.snd1 ?_
      refine set_within _ (inMask (DBG_CREG_VALUE_win _ _) (Sub.bit hM (by decide))) ?_
      exact h_s

theorem execDebugPassword_within {A : Nat} {u : State} {a : Agent} {len : Nat} {s : State} (hM : Sub 0x8600020000000000000000000502100D
    A) (h_s : Within A u s) :
    OutWithin A u (execDebugPassword a len s) := by
  unfold execDebugPassword
  refine OutWithin.ok ?_
  refine Within.ite ?_ ?_
  · refine answer_within (Sub.trans (by decide) hM) ?_
    exact h_s
  · refine answered_within (Sub.trans (by decide) hM) ?_
    refine wrDbgAuth_within (Sub.trans (by decide) hM) ?_
    exact h_s

theorem execDebugChallenge_within {A : Nat} {u : State} {a : Agent} {s : State} (hM : Sub 0x8600020000000000000000000502100D A) (h_s :
    Within A u s) :
    OutWithin A u (execDebugChallenge a s) := by
  unfold execDebugChallenge
  refine OutWithin.ok ?_
  refine answered_within (Sub.trans (by decide) hM) ?_
  refine wrDbgAuth_within (Sub.trans (by decide) hM) ?_
  exact h_s

theorem traceDrained_within {A : Nat} {u : State} {s : State} (hM : Sub 0x4011FC837BD7FE3F8B3640003DFFF7D A) (h_s : Within A u s) :
    Within A u (traceDrained s) := by
  unfold traceDrained
  refine Within.ite ?_ ?_
  · refine quietTarget_within (Sub.trans (by decide) hM) ?_
    refine Within.trace_ (Sub.bit hM (by decide)) ?_
    exact h_s
  · exact h_s

theorem execDebugSignOut_within {A : Nat} {u : State} {a : Agent} {s : State} (hM : Sub 0x8600020000000000000000000502100D A) (h_s :
    Within A u s) :
    OutWithin A u (execDebugSignOut a s) := by
  unfold execDebugSignOut
  refine OutWithin.ok ?_
  refine answered_within (Sub.trans (by decide) hM) ?_
  refine wrDbgAuth_within (Sub.trans (by decide) hM) ?_
  exact h_s

theorem authEnd_within {A : Nat} {u : State} {op : Nat} {b : List Byte} {s : State} (hM : Sub 0x300000000000000000000000500000C A) (h_s :
    Within A u s) :
    Within A u (authEnd op b s) := by
  unfold authEnd
  extract_lets -merge -useContext +onlyGivenNames r_0 w_1 w_2 t_3
  have hr_0 : Within A u r_0.2 := by
    refine Within.ite1 ?_ ?_
    · refine operatorSignIn_within (Sub.trans (by decide) hM) ?_
      exact h_s
    · refine keySignIn_within (Sub.trans (by decide) hM) ?_
      exact h_s
  have hw_1 : Within A u w_1 := by
    refine set_within _ (inMask (DBG_AUTH_CTL_RESULT_win) (Sub.bit hM (by decide))) ?_
    refine set_within _ (inMask (DBG_AUTH_CTL_BUSY_win) (Sub.bit hM (by decide))) ?_
    exact hr_0
  have ht_3 : Within A u t_3 := by
    refine Within.dbg_ (Sub.bit hM (by decide)) ?_
    exact hw_1
  refine Within.ite ?_ ?_
  · refine raise_within (Sub.trans (by decide) hM) ?_
    exact ht_3
  · exact ht_3

theorem dbgPartReset_within {A : Nat} {u : State} {cold : Bool} {s : State} (hM : Sub 0xFE00020000000000000000000502000C A) (h_s : Within
    A u s) :
    Within A u (dbgPartReset cold s) := by
  unfold dbgPartReset
  extract_lets -merge -useContext +onlyGivenNames s_0 s_1 keep_2 s_3 s_4 w_5 w_6 s_7 w_8
  have hs_0 : Within A u s_0 := by
    refine dbgEnd_within (Sub.trans (by decide) hM) ?_
    exact h_s
  have hs_1 : Within A u s_1 := by
    refine forNat_within ?_ _ ?_
    · intro y9 y10 hy11
      refine haltCleared_within (Sub.trans (by decide) hM) ?_
      exact hy11
    · exact hs_0
  have hs_3 : Within A u s_3 := by
    refine resetRegs_within _ _ 13213466886144 13214540627967 121 7 0xFE000000000000000000000000000000 (by decide) (by decide) (by decide) (Sub.trans (by decide) hM) (by omega) (by omega) ?_
    exact hs_1
  have hs_4 : Within A u s_4 := by
    refine Within.ite ?_ ?_
    · exact hs_3
    · refine forNat_within ?_ _ ?_
      · intro y12 y13 hy14
        beta_reduce
        refine set_within _ (inMask (DBG_RUN_RHALT_win _) (Sub.bit hM (by decide))) ?_
        exact hy14
      · exact hs_3
  have hs_7 : Within A u s_7 := by
    refine Within.upd (s := s_4) ?_ rfl (fun _ _ => rfl) (.inr rfl) (.inr rfl) (.inr rfl) (.inl (Sub.bit hM (by decide))) (.inr rfl) (.inr rfl) (.inr rfl) (.inr rfl) (.inr rfl) (.inr rfl) (.inr rfl) (.inr rfl) (.inr rfl) (.inr rfl) (.inr rfl) (.inr rfl) (.inr rfl) (.inr rfl) (.inr rfl) (.inr rfl) (.inr rfl) (.inr rfl) (.inr rfl) (.inr rfl) (.inr rfl) (.inr rfl) (.inl (Sub.bit hM (by decide))) (.inr rfl) (.inr rfl) (fun c => ⟨c.regs, c.hbm, c.flash, c.cfg, c.editions, c.ledger, c.ring, c.queue, c.seqs, c.cores⟩) (Otp.same rfl rfl rfl rfl rfl rfl)
    exact hs_4
  refine Within.ite ?_ ?_
  · refine Within.dbg_ (Sub.bit hM (by decide)) ?_
    exact hs_7
  · exact hs_7

theorem execDebugAuthDone_within {A : Nat} {u : State} {s : State} (hM : Sub 0x300000000000000000000000500000C A) (h_s : Within A u s) :
    OutWithin A u (execDebugAuthDone s) := by
  unfold execDebugAuthDone
  split
  · refine OutWithin.ok ?_
    exact h_s
  · refine OutWithin.ok ?_
    refine authEnd_within (Sub.trans (by decide) hM) ?_
    exact h_s

theorem setTrcCtl_within {A : Nat} {u : State} {v : Nat} {s : State} (hM : Sub 0x14011FC837BD7FE3F8B3640003DFFF7D A) (h_s : Within A u s) :
    Within A u (setTrcCtl v s) := by
  unfold setTrcCtl
  extract_lets -merge -useContext +onlyGivenNames was_0 s_1 w_2 s_3 w_4
  have hs_1 : Within A u s_1 := by
    refine writeFlds_within (Sub.trans (by decide) hM) (inMasks (DBG_TRC_CTL_fields_win) (Sub.bit hM (by decide))) ?_
    exact h_s
  have hs_3 : Within A u s_3 := by
    refine Within.trace_ (Sub.bit hM (by decide)) ?_
    exact hs_1
  refine Within.ite ?_ ?_
  · refine quietTarget_within (Sub.trans (by decide) hM) ?_
    exact hs_3
  · refine Within.ite ?_ ?_
    · refine traceDrained_within (Sub.trans (by decide) hM) ?_
      refine Within.trace_ (Sub.bit hM (by decide)) ?_
      exact hs_1
    · exact hs_1

theorem wrDbgTrcCtl_within {A : Nat} {u : State} {a : Agent} {v : Nat} {s : State} (hM : Sub 0x14011FC837BD7FE3F8B3640003DFFF7D A) (h_s :
    Within A u s) :
    Within A u (wrDbgTrcCtl a v s).2 := by
  unfold wrDbgTrcCtl
  refine Within.ite1 ?_ ?_
  · refine Within.snd1 ?_
    refine setTrcCtl_within (Sub.trans (by decide) hM) ?_
    exact h_s
  · refine Within.snd1 ?_
    exact h_s

theorem execTraceEnable_within {A : Nat} {u : State} {a : Agent} {v : Nat} {s : State} (hM : Sub 0x14011FC837BD7FE3F8B3640003DFFF7D A)
    (h_s : Within A u s) :
    OutWithin A u (execTraceEnable a v s) := by
  unfold execTraceEnable
  refine OutWithin.ok ?_
  refine answered_within (Sub.trans (by decide) hM) ?_
  refine wrDbgTrcCtl_within (Sub.trans (by decide) hM) ?_
  exact h_s

theorem execCoreStep_within {A : Nat} {u : State} {a : Agent} {k : Fin 36} {s : State} (hM : Sub 0x2400020000010000000000000402000D A)
    (h_s : Within A u s) :
    OutWithin A u (execCoreStep a k s) := by
  unfold execCoreStep
  refine OutWithin.ok ?_
  refine answered_within (Sub.trans (by decide) hM) ?_
  refine wrDbgRun_within (Sub.trans (by decide) hM) ?_
  exact h_s

theorem traceTick_within {A : Nat} {u : State} {s : State} (hM : Sub 0x400000C A) (h_s : Within A u s) :
    Within A u (traceTick s) := by
  unfold traceTick
  extract_lets -merge -useContext +onlyGivenNames w_0 s_1 w_2
  have hs_1 : Within A u s_1 := by
    refine Within.ite ?_ ?_
    · exact h_s
    · refine raise_within (Sub.trans (by decide) hM) ?_
      refine Within.dbg_ (Sub.bit hM (by decide)) ?_
      exact h_s
  refine Within.ite ?_ ?_
  · refine Within.trace_ (Sub.bit hM (by decide)) ?_
    exact hs_1
  · exact hs_1

theorem execCoreHalt_within {A : Nat} {u : State} {a : Agent} {k : Fin 36} {s : State} (hM : Sub 0x2400020000010000000000000402000D A)
    (h_s : Within A u s) :
    OutWithin A u (execCoreHalt a k s) := by
  unfold execCoreHalt
  refine OutWithin.ok ?_
  refine answered_within (Sub.trans (by decide) hM) ?_
  refine wrDbgRun_within (Sub.trans (by decide) hM) ?_
  exact h_s

theorem execDebugSessionIdle_within {A : Nat} {u : State} {s : State} (hM : Sub 0x600020000000000000000000102000C A) (h_s : Within A u s) :
    OutWithin A u (execDebugSessionIdle s) := by
  unfold execDebugSessionIdle
  refine OutWithin.whenOk ?_ ?_
  · exact h_s
  · refine dbgEnd_within (Sub.trans (by decide) hM) ?_
    exact h_s

theorem execTracePacket_within {A : Nat} {u : State} {s : State} (hM : Sub 0x10000000000000000000000004000008 A) (h_s : Within A u s) :
    OutWithin A u (execTracePacket s) := by
  unfold execTracePacket
  refine OutWithin.whenOk ?_ ?_
  · exact h_s
  · refine traceNext_within (Sub.trans (by decide) hM) ?_
    exact h_s

theorem stalledEnter_within {A : Nat} {u : State} {s : State} (hM : Sub 0x9 A) (h_s : Within A u s) :
    Within A u (stalledEnter s) := by
  unfold stalledEnter
  split
  · exact h_s
  · refine Within.ite ?_ ?_
    · refine answer_within (Sub.trans (by decide) hM) ?_
      refine tracePush_within (Sub.trans (by decide) hM) ?_
      refine Within.trace_ (Sub.bit hM (by decide)) ?_
      exact h_s
    · exact h_s

theorem execTraceFifoDrain_within {A : Nat} {u : State} {n : Nat} {s : State} (hM : Sub 0x4011FC837BD7FE3F8B3640003DFFF7D A) (h_s :
    Within A u s) :
    OutWithin A u (execTraceFifoDrain n s) := by
  unfold execTraceFifoDrain
  refine OutWithin.whenOk ?_ ?_
  · exact h_s
  · extract_lets -merge -useContext +onlyGivenNames w_0 s_1 s_2
    have hs_1 : Within A u s_1 := by
      refine Within.trace_ (Sub.bit hM (by decide)) ?_
      exact h_s
    have hs_2 : Within A u s_2 := by
      refine traceOverflow_within (Sub.trans (by decide) hM) ?_
      exact hs_1
    refine traceDrained_within (Sub.trans (by decide) hM) ?_
    refine forNat_within ?_ _ ?_
    · intro y3 y4 hy5
      beta_reduce
      refine stalledEnter_within (Sub.trans (by decide) hM) ?_
      exact hy5
    · exact hs_2

end Sys2Proof.Machine
end

