-- ==== Sys2Proof/Laws/WithinFrame.lean ====
section
/-! SUPPORT. What each operation of Machine/Frame.lean can reach (see Laws/Within.lean). -/
set_option Elab.async false
namespace Sys2Proof.Machine

theorem tickAt_within {A : Nat} {u : State} {src ps count period : Nat} {s : State} (hM : Sub 0x180000004C A) (h_s : Within A u s) :
    Within A u (tickAt src ps count period s) := by
  unfold tickAt
  extract_lets -merge -useContext +onlyGivenNames old_0 was_1 s_2 w_3 s_4
  have hs_2 : Within A u s_2 := by
    refine set_within _ (inMask (FRM_STAT_SRC_ACT_win) (Sub.bit hM (by decide))) ?_
    refine set_within _ (inMask (FRM_STAT_PERIOD_ACT_win) (Sub.bit hM (by decide))) ?_
    refine set_within _ (inMask (FRM_COUNT_COUNT_win) (Sub.bit hM (by decide))) ?_
    exact h_s
  have hs_4 : Within A u s_4 := by
    refine Within.clock_ (Sub.bit hM (by decide)) ?_
    exact hs_2
  refine Within.ite ?_ ?_
  · exact hs_4
  · refine raise_within (Sub.trans (by decide) hM) ?_
    exact hs_4

theorem cascadeTick_within {A : Nat} {u : State} {n : CasNext} {s : State} (hM : Sub 0x800000000000000180080004C A) (h_s : Within A u s) :
    OptWithin A u (cascadeTick n s) := by
  unfold cascadeTick
  extract_lets -merge -useContext +onlyGivenNames ps_0
  refine OptWithin.ite ?_ ?_
  · exact OptWithin.none
  · refine OptWithin.some ?_
    refine tickAt_within (Sub.trans (by decide) hM) ?_
    refine casTickPlaced_within (Sub.trans (by decide) hM) ?_
    refine set_within _ (inMask (FRM_STAT_MISSED_win) (Sub.bit hM (by decide))) ?_
    refine set_within _ (inMask (FRM_STAT_HOLDOVER_win) (Sub.bit hM (by decide))) ?_
    exact h_s

theorem localTick_within {A : Nat} {u : State} {s : State} (hM : Sub 0x180000004C A) (h_s : Within A u s) :
    Within A u (localTick s) := by
  unfold localTick
  refine tickAt_within (Sub.trans (by decide) hM) ?_
  refine State.setIf_within (Sub.trans (by decide) hM) (inMask (FRM_STAT_MISSED_win) (Sub.bit hM (by decide))) ?_
  refine set_within _ (inMask (FRM_STAT_HOLDOVER_win) (Sub.bit hM (by decide))) ?_
  exact h_s

theorem ownTick_within {A : Nat} {u : State} {s : State} (hM : Sub 0x800000000000000180080004C A) (h_s : Within A u s) :
    OptWithin A u (ownTick s) := by
  have hl : OptWithin A u (some (localTick s)) := OptWithin.some (localTick_within (Sub.trans (by decide) hM) h_s)
  unfold ownTick
  refine OptWithin.ite OptWithin.none (OptWithin.ite (OptWithin.or (OptWithin.bind fun n => ?_) (OptWithin.ite OptWithin.none hl)) hl)
  exact cascadeTick_within (Sub.trans (by decide) hM) h_s

theorem holdoverTick_within {A : Nat} {u : State} {s : State} (hM : Sub 0x180000004C A) (h_s : Within A u s) :
    Within A u (holdoverTick s) := by
  unfold holdoverTick
  extract_lets -merge -useContext +onlyGivenNames src_0 m_1 period_2 s_3 s_4
  have hs_3 : Within A u s_3 := by
    refine tickAt_within (Sub.trans (by decide) hM) ?_
    refine set_within _ (inMask (FRM_STAT_MISSED_win) (Sub.bit hM (by decide))) ?_
    refine set_within _ (inMask (FRM_STAT_HOLDOVER_win) (Sub.bit hM (by decide))) ?_
    exact h_s
  have hs_4 : Within A u s_4 := by
    refine raise_within (Sub.trans (by decide) hM) ?_
    exact hs_3
  refine Within.ite ?_ ?_
  · exact hs_4
  · refine raise_within (Sub.trans (by decide) hM) ?_
    refine set_within _ (inMask (FRM_STAT_SRC_ACT_win) (Sub.bit hM (by decide))) ?_
    exact hs_4

theorem slotSwap_within {A : Nat} {u : State} {s : State} (hM : Sub 0x400000000C A) (h_s : Within A u s) :
    Within A u (slotSwap s) := by
  unfold slotSwap
  refine Within.ite ?_ ?_
  · exact h_s
  · extract_lets -merge -useContext +onlyGivenNames s_0
    have hs_0 : Within A u s_0 := by
      refine forNat_within ?_ _ ?_
      · intro y1 y2 hy3
        beta_reduce
        refine set_within _ (inMask (SLOT_ACT_SLOT3_win _) (Sub.bit hM (by decide))) ?_
        refine set_within _ (inMask (SLOT_ACT_SLOT2_win _) (Sub.bit hM (by decide))) ?_
        refine set_within _ (inMask (SLOT_ACT_SLOT1_win _) (Sub.bit hM (by decide))) ?_
        refine set_within _ (inMask (SLOT_ACT_SLOT0_win _) (Sub.bit hM (by decide))) ?_
        exact hy3
      · exact h_s
    refine raise_within (Sub.trans (by decide) hM) ?_
    refine set_within _ (inMask (SLOT_CTL_SWAPPED_win) (Sub.bit hM (by decide))) ?_
    refine set_within _ (inMask (SLOT_CTL_ARM_win) (Sub.bit hM (by decide))) ?_
    exact hs_0

theorem acquire_within {A : Nat} {u : State} {s : State} (hM : Sub 0x800000040 A) (h_s : Within A u s) :
    Within A u (acquire s) := by
  unfold acquire
  extract_lets -merge -useContext +onlyGivenNames w_0 w_1
  have hw_0 : Within A u w_0 := by
    refine set_within _ (inMask (FRM_STAT_ACQUIRING_win) (Sub.bit hM (by decide))) ?_
    exact h_s
  refine Within.clock_ (Sub.bit hM (by decide)) ?_
  exact hw_0

theorem syncTick_within {A : Nat} {u : State} {ps : Nat} {s : State} (hM : Sub 0x180000004C A) (h_s : Within A u s) :
    OptWithin A u (syncTick ps s) := by
  unfold syncTick
  refine OptWithin.ite ?_ ?_
  · exact OptWithin.none
  · refine OptWithin.some ?_
    refine tickAt_within (Sub.trans (by decide) hM) ?_
    refine set_within _ (inMask (FRM_STAT_ACQUIRING_win) (Sub.bit hM (by decide))) ?_
    refine set_within _ (inMask (FRM_STAT_MISSED_win) (Sub.bit hM (by decide))) ?_
    refine set_within _ (inMask (FRM_STAT_HOLDOVER_win) (Sub.bit hM (by decide))) ?_
    exact h_s

theorem wrSlotShd_within {A : Nat} {u : State} {k v : Nat} {s : State} (hM : Sub 0x4000000000 A) (h_s : Within A u s) :
    Within A u (wrSlotShd k v s).2 := by
  unfold wrSlotShd
  refine Within.snd1 ?_
  refine set_within _ (inMask (SLOT_CTL_ARM_win) (Sub.bit hM (by decide))) ?_
  refine writeFlds_within (Sub.trans (by decide) hM) (inMasks (SLOT_SHD_fields_win _) (Sub.bit hM (by decide))) ?_
  exact h_s

theorem wrSlotCtl_within {A : Nat} {u : State} {v : Nat} {s : State} (hM : Sub 0x4000000000 A) (h_s : Within A u s) :
    Within A u (wrSlotCtl v s).2 := by
  unfold wrSlotCtl
  refine Within.ite1 ?_ ?_
  · refine Within.snd1 ?_
    exact h_s
  · refine Within.snd1 ?_
    refine writeFlds_within (Sub.trans (by decide) hM) (inMasks (SLOT_CTL_fields_win) (Sub.bit hM (by decide))) ?_
    exact h_s

theorem execSlotArm_within {A : Nat} {u : State} {_a : Agent} {s : State} (hM : Sub 0x4000000001 A) (h_s : Within A u s) :
    OutWithin A u (execSlotArm _a s) := by
  unfold execSlotArm
  refine OutWithin.ok ?_
  refine answered_within (Sub.trans (by decide) hM) ?_
  refine wrSlotCtl_within (Sub.trans (by decide) hM) ?_
  exact h_s

theorem sync0_within {A : Nat} {u : State} {ps : Nat} {s : State} (hM : Sub 0x180000004C A) (h_s : Within A u s) :
    Within A u (sync0 ps s).2 := by
  unfold sync0
  refine Within.ite1 ?_ ?_
  · refine Within.snd1 ?_
    exact h_s
  · refine Within.ite1 ?_ ?_
    · extract_lets -merge -useContext +onlyGivenNames w_0 t_1
      have ht_1 : Within A u t_1 := by
        refine Within.clock_ (Sub.bit hM (by decide)) ?_
        exact h_s
      refine Within.ite1 ?_ ?_
      · split
        · refine Within.snd1 ?_
          refine OptWithin.get (by assumption) ?_
          refine syncTick_within (Sub.trans (by decide) hM) ?_
          exact h_s
        · refine Within.snd1 ?_
          exact ht_1
      · refine Within.snd1 ?_
        exact ht_1
    · refine Within.ite1 ?_ ?_
      · refine Within.snd1 ?_
        exact h_s
      · refine Within.ite1 ?_ ?_
        · split
          · refine Within.snd1 ?_
            refine OptWithin.get (by assumption) ?_
            refine syncTick_within (Sub.trans (by decide) hM) ?_
            exact h_s
          · refine Within.snd1 ?_
            exact h_s
        · refine Within.snd1 ?_
          refine raise_within (Sub.trans (by decide) hM) ?_
          exact h_s

theorem wrFrmCtl_within {A : Nat} {u : State} {v : Nat} {s : State} (hM : Sub 0xC00000040 A) (h_s : Within A u s) :
    Within A u (wrFrmCtl v s).2 := by
  unfold wrFrmCtl
  extract_lets -merge -useContext +onlyGivenNames src_0 p_1 again_2 t_3
  have ht_3 : Within A u t_3 := by
    refine State.setIf_within (Sub.trans (by decide) hM) (inMask (FRM_STAT_MISSED_win) (Sub.bit hM (by decide))) ?_
    refine set_within _ (inMask (FRM_CTL_PERIOD_win) (Sub.bit hM (by decide))) ?_
    refine set_within _ (inMask (FRM_CTL_SRC_win) (Sub.bit hM (by decide))) ?_
    exact h_s
  refine Within.ite1 ?_ ?_
  · refine Within.snd1 ?_
    exact h_s
  · refine Within.snd1 ?_
    refine Within.ite ?_ ?_
    · refine set_within _ (inMask (FRM_STAT_ACQUIRING_win) (Sub.bit hM (by decide))) ?_
      exact ht_3
    · refine Within.ite ?_ ?_
      · refine acquire_within (Sub.trans (by decide) hM) ?_
        exact ht_3
      · exact ht_3

theorem firstTick_within {A : Nat} {u : State} {s : State} (hM : Sub 0x1000000040 A) (h_s : Within A u s) :
    Within A u (firstTick s) := by
  unfold firstTick
  extract_lets -merge -useContext +onlyGivenNames s_0 w_1
  have hs_0 : Within A u s_0 := by
    refine set_within _ (inMask (FRM_COUNT_COUNT_win) (Sub.bit hM (by decide))) ?_
    exact h_s
  refine Within.clock_ (Sub.bit hM (by decide)) ?_
  exact hs_0

theorem execFrameControlWrite_within {A : Nat} {u : State} {_a : Agent} {v : Nat} {s : State} (hM : Sub 0xC00000041 A) (h_s : Within A u
    s) :
    OutWithin A u (execFrameControlWrite _a v s) := by
  unfold execFrameControlWrite
  refine OutWithin.ok ?_
  refine answered_within (Sub.trans (by decide) hM) ?_
  refine wrFrmCtl_within (Sub.trans (by decide) hM) ?_
  exact h_s

theorem execSlotShadowWrite_within {A : Nat} {u : State} {_a : Agent} {k : Fin 16} {v : Nat} {s : State} (hM : Sub 0x4000000001 A) (h_s :
    Within A u s) :
    OutWithin A u (execSlotShadowWrite _a k v s) := by
  unfold execSlotShadowWrite
  refine OutWithin.ok ?_
  refine answered_within (Sub.trans (by decide) hM) ?_
  refine wrSlotShd_within (Sub.trans (by decide) hM) ?_
  exact h_s

theorem execReferenceLost_within {A : Nat} {u : State} {x : Fin 3} {s : State} (hM : Sub 0x77C02002000000018036000094A115D A) (h_s :
    Within A u s) :
    OutWithin A u (execReferenceLost x s) := by
  unfold execReferenceLost
  extract_lets -merge -useContext +onlyGivenNames t_0
  have ht_0 : Within A u t_0 := by
    refine srcLost_within (Sub.trans (by decide) hM) ?_
    exact h_s
  refine OutWithin.ok ?_
  refine Within.ite ?_ ?_
  · refine tamper_within (Sub.trans (by decide) hM) ?_
    exact ht_0
  · exact ht_0

end Sys2Proof.Machine
end

