-- ==== Sys2Proof/Laws/WithinRegMap.lean ====
section
/-! SUPPORT. Every field of the register map lies in a register window (R4). -/
set_option Elab.async false
namespace Sys2Proof.Machine

/-- Every field of these registers lies in one of the register blocks. -/
def InWins (l : List RegDesc) : Prop := ∀ r ∈ l, ∀ i j, ∀ p ∈ r.flds i j, 33 ≤ winBit p.2.key ∧ winBit p.2.key ≤ 127

theorem InWins.nil : InWins [] := fun _ h => nomatch h

theorem InWins.cons {r : RegDesc} {l : List RegDesc} {w : Nat} (h : ∀ i j, ∀ p ∈ r.flds i j, winBit p.2.key = w) (hw : 33 ≤ w ∧ w ≤ 127) (g : InWins l) :
    InWins (r :: l) := by
  intro x hx i j p hp
  rcases List.mem_cons.1 hx with rfl | hx
  · rw [h i j p hp]; exact hw
  · exact g x hx i j p hp

theorem InWins.append {l m : List RegDesc} (h : InWins l) (g : InWins m) : InWins (l ++ m) := by
  intro x hx
  rcases List.mem_append.1 hx with hx | hx
  · exact h x hx
  · exact g x hx

theorem regMapArchitecture_wins : InWins regMapArchitecture := by
  unfold regMapArchitecture
  refine .cons (fun _ _ => SYS_PROFILE_fields_win) (by decide) ?_
  exact .nil

theorem regMapPower_wins : InWins regMapPower := by
  unfold regMapPower
  refine .cons (fun i _ => PWR_DOM_CTL_fields_win i) (by decide) ?_
  refine .cons (fun i _ => PWR_DOM_STAT_fields_win i) (by decide) ?_
  refine .cons (fun _ _ => SLU_REQ_fields_win) (by decide) ?_
  refine .cons (fun _ _ => SLU_MYTICKET_fields_win) (by decide) ?_
  refine .cons (fun _ _ => SLU_RELEASE_fields_win) (by decide) ?_
  refine .cons (fun _ _ => SLU_STAT_fields_win) (by decide) ?_
  refine .cons (fun i _ => SLU_ENT_fields_win i) (by decide) ?_
  refine .cons (fun i _ => ELIM_TRIP_fields_win i) (by decide) ?_
  refine .cons (fun _ _ => ELIM_STAT_fields_win) (by decide) ?_
  refine .cons (fun i _ => ENL_fields_win i) (by decide) ?_
  refine .cons (fun i j => SEQ_SLU_fields_win i j) (by decide) ?_
  exact .nil

theorem regMapClocks_wins : InWins regMapClocks := by
  unfold regMapClocks
  refine .cons (fun i _ => CLK_SEL_fields_win i) (by decide) ?_
  refine .cons (fun _ _ => CLK_SRC_STAT_fields_win) (by decide) ?_
  refine .cons (fun i _ => CLK_FAB_fields_win i) (by decide) ?_
  refine .cons (fun i _ => CLK_GATE_fields_win i) (by decide) ?_
  refine .cons (fun _ _ => CLKMON_CTL_fields_win) (by decide) ?_
  refine .cons (fun _ _ => FRM_CTL_fields_win) (by decide) ?_
  refine .cons (fun _ _ => FRM_STAT_fields_win) (by decide) ?_
  refine .cons (fun _ _ => FRM_COUNT_fields_win) (by decide) ?_
  refine .cons (fun i _ => FRM_OVR_fields_win i) (by decide) ?_
  refine .cons (fun _ _ => SLOT_CTL_fields_win) (by decide) ?_
  refine .cons (fun i _ => SLOT_SHD_fields_win i) (by decide) ?_
  refine .cons (fun i _ => SLOT_ACT_fields_win i) (by decide) ?_
  exact .nil

theorem regMapReset_wins : InWins regMapReset := by
  unfold regMapReset
  refine .cons (fun _ _ => RST_CTL_fields_win) (by decide) ?_
  refine .cons (fun _ _ => RST_CAUSE_fields_win) (by decide) ?_
  refine .cons (fun _ _ => BOOT_STAT_fields_win) (by decide) ?_
  exact .nil

theorem regMapFabric_wins : InWins regMapFabric := by
  unfold regMapFabric
  refine .cons (fun i _ => FAB_ECC_CTL_fields_win i) (by decide) ?_
  refine .cons (fun i _ => FAB_ECC_STAT_fields_win i) (by decide) ?_
  refine .cons (fun i _ => FAB_FLIP_DATA_fields_win i) (by decide) ?_
  refine .cons (fun i _ => FAB_FLIP_CTL_fields_win i) (by decide) ?_
  refine .cons (fun i _ => FAB_SPARE_fields_win i) (by decide) ?_
  refine .cons (fun i _ => FAB_PORT_CTL_fields_win i) (by decide) ?_
  refine .cons (fun i _ => FAB_PORT_STAT_fields_win i) (by decide) ?_
  refine .cons (fun _ _ => SP_ECC_CTL_fields_win) (by decide) ?_
  refine .cons (fun _ _ => SP_ECC_STAT_fields_win) (by decide) ?_
  exact .nil

theorem regMapLoader_wins : InWins regMapLoader := by
  unfold regMapLoader
  refine .cons (fun _ _ => LDR_REQ_fields_win) (by decide) ?_
  refine .cons (fun _ _ => LDR_STAT_fields_win) (by decide) ?_
  refine .cons (fun _ _ => LDR_CACHE_fields_win) (by decide) ?_
  refine .cons (fun i _ => REG_CTL_fields_win i) (by decide) ?_
  refine .cons (fun i _ => REG_STAT_fields_win i) (by decide) ?_
  refine .cons (fun i j => ISO_HOLD_fields_win i j) (by decide) ?_
  refine .cons (fun _ _ => RILL_CTL_fields_win) (by decide) ?_
  refine .cons (fun _ _ => RILL_STAT_fields_win) (by decide) ?_
  refine .cons (fun _ _ => RILL_PASS_fields_win) (by decide) ?_
  exact .nil

theorem regMapJets_wins : InWins regMapJets := by
  unfold regMapJets
  refine .cons (fun i _ => JET_BANK_CTL_fields_win i) (by decide) ?_
  refine .cons (fun i _ => JET_BANK_STAT_fields_win i) (by decide) ?_
  refine .cons (fun i _ => JET_CFG_fields_win i) (by decide) ?_
  refine .cons (fun i _ => JET_LVL_DRV_fields_win i) (by decide) ?_
  refine .cons (fun i _ => JET_LVL_CMP_fields_win i) (by decide) ?_
  refine .cons (fun i _ => JET_LOAD_fields_win i) (by decide) ?_
  refine .cons (fun i _ => JET_PMU_CTL_fields_win i) (by decide) ?_
  refine .cons (fun i _ => JET_PMU_FORCE_fields_win i) (by decide) ?_
  refine .cons (fun i _ => JET_PMU_ICLAMP_fields_win i) (by decide) ?_
  refine .cons (fun i _ => JET_PMU_VCLAMP_fields_win i) (by decide) ?_
  refine .cons (fun i _ => JET_PMU_RES_fields_win i) (by decide) ?_
  refine .cons (fun i _ => JET_STAT_fields_win i) (by decide) ?_
  exact .nil

theorem regMapEdge_wins : InWins regMapEdge := by
  unfold regMapEdge
  refine .cons (fun i j => ET_PER_fields_win i j) (by decide) ?_
  refine .cons (fun i _ => ET_SEQ_STAT_fields_win i) (by decide) ?_
  refine .cons (fun i _ => ET_BANK_CTL_fields_win i) (by decide) ?_
  refine .cons (fun i _ => ET_BANK_STAT_fields_win i) (by decide) ?_
  refine .cons (fun i j => ET_TS_DRV12_fields_win i j) (by decide) ?_
  refine .cons (fun i j => ET_TS_DRV34_fields_win i j) (by decide) ?_
  refine .cons (fun i j => ET_TS_CMP_fields_win i j) (by decide) ?_
  refine .cons (fun i j => ET_TS_CFG_fields_win i j) (by decide) ?_
  refine .cons (fun i _ => ET_CH_STG_DRV12_fields_win i) (by decide) ?_
  refine .cons (fun i _ => ET_CH_STG_DRV34_fields_win i) (by decide) ?_
  refine .cons (fun i _ => ET_CH_STG_CMP_fields_win i) (by decide) ?_
  refine .cons (fun i _ => ET_CH_COMMIT_fields_win i) (by decide) ?_
  refine .cons (fun i _ => ET_CH_FIX_fields_win i) (by decide) ?_
  refine .cons (fun i _ => ET_CH_CAL_fields_win i) (by decide) ?_
  refine .cons (fun i _ => ET_CH_CORR_fields_win i) (by decide) ?_
  refine .cons (fun i _ => ET_CH_STAT_fields_win i) (by decide) ?_
  refine .cons (fun i _ => ET_CH_BADCYC_fields_win i) (by decide) ?_
  exact .nil

theorem regMapWeir_wins : InWins regMapWeir := by
  unfold regMapWeir
  refine .cons (fun _ _ => WEIR_CTL_fields_win) (by decide) ?_
  refine .cons (fun _ _ => WEIR_LIM_fields_win) (by decide) ?_
  refine .cons (fun _ _ => WEIR_CAL_BANKS_fields_win) (by decide) ?_
  refine .cons (fun _ _ => WEIR_CAL_CTL_fields_win) (by decide) ?_
  refine .cons (fun _ _ => WEIR_CAL_STAT_fields_win) (by decide) ?_
  refine .cons (fun _ _ => WEIR_CAL_INFO_fields_win) (by decide) ?_
  refine .cons (fun i _ => WEIR_CAL_ERR_fields_win i) (by decide) ?_
  refine .cons (fun i _ => WEIR_CH_CTL_fields_win i) (by decide) ?_
  refine .cons (fun i _ => WEIR_CH_CAL_fields_win i) (by decide) ?_
  refine .cons (fun i _ => WEIR_CH_CORR_fields_win i) (by decide) ?_
  refine .cons (fun i _ => WEIR_CH_STAT_fields_win i) (by decide) ?_
  refine .cons (fun i _ => WEIR_CH_EST_fields_win i) (by decide) ?_
  exact .nil

theorem regMapSeq_wins : InWins regMapSeq := by
  unfold regMapSeq
  refine .cons (fun i _ => SEQ_CTL_fields_win i) (by decide) ?_
  refine .cons (fun i _ => SEQ_STAT_fields_win i) (by decide) ?_
  refine .cons (fun i _ => SEQ_START_AT_fields_win i) (by decide) ?_
  refine .cons (fun i _ => SEQ_PROG_fields_win i) (by decide) ?_
  refine .cons (fun i _ => SEQ_VEC_fields_win i) (by decide) ?_
  refine .cons (fun i _ => SEQ_PC_fields_win i) (by decide) ?_
  refine .cons (fun i _ => SEQ_SITE_MASK_fields_win i) (by decide) ?_
  refine .cons (fun i _ => SEQ_SITE_OFF_fields_win i) (by decide) ?_
  refine .cons (fun i _ => SEQ_SITE_FAIL_fields_win i) (by decide) ?_
  refine .cons (fun i _ => SEQ_SITE_MATCH_fields_win i) (by decide) ?_
  refine .cons (fun i _ => SEQ_MARK_fields_win i) (by decide) ?_
  refine .cons (fun i j => SEQ_TICKET_fields_win i j) (by decide) ?_
  refine .cons (fun i j => GEN_fields_win i j) (by decide) ?_
  refine .cons (fun i j => GEN_D_fields_win i j) (by decide) ?_
  refine .cons (fun i _ => GEN_TMASK_fields_win i) (by decide) ?_
  refine .cons (fun i _ => GEN_TINV_fields_win i) (by decide) ?_
  refine .cons (fun i j => GEN_DR_fields_win i j) (by decide) ?_
  refine .cons (fun i j => GEN_SCR_fields_win i j) (by decide) ?_
  refine .cons (fun i j => SEQ_PIN_fields_win i j) (by decide) ?_
  exact .nil

theorem regMapFail_wins : InWins regMapFail := by
  unfold regMapFail
  refine .cons (fun _ _ => FC_ECC_CTL_fields_win) (by decide) ?_
  refine .cons (fun _ _ => FC_ECC_STAT_fields_win) (by decide) ?_
  refine .cons (fun i _ => FC_LOST_fields_win i) (by decide) ?_
  refine .cons (fun i _ => FC_SEQ_CTL_fields_win i) (by decide) ?_
  refine .cons (fun i _ => FC_LOG_CFG_fields_win i) (by decide) ?_
  refine .cons (fun i _ => FC_LOG_PTR_fields_win i) (by decide) ?_
  refine .cons (fun i _ => FC_SEQ_STAT_fields_win i) (by decide) ?_
  refine .cons (fun i j => FC_SITE_FAIL_fields_win i j) (by decide) ?_
  refine .cons (fun i j => FC_SITE_REC_fields_win i j) (by decide) ?_
  refine .cons (fun i _ => FC_CH_CNT_fields_win i) (by decide) ?_
  refine .cons (fun i _ => FC_MAP_CTL_fields_win i) (by decide) ?_
  refine .cons (fun i _ => FC_MAP_SEL_fields_win i) (by decide) ?_
  refine .cons (fun i _ => FC_MAP_XY_fields_win i) (by decide) ?_
  refine .cons (fun i _ => FC_MAP_SPILL_fields_win i) (by decide) ?_
  refine .cons (fun i _ => FC_MAP_STAT_fields_win i) (by decide) ?_
  exact .nil

theorem regMapRepair_wins : InWins regMapRepair := by
  unfold regMapRepair
  refine .cons (fun _ _ => RA_CTL_fields_win) (by decide) ?_
  refine .cons (fun _ _ => RA_STAT_fields_win) (by decide) ?_
  refine .cons (fun _ _ => RA_RING_CFG_fields_win) (by decide) ?_
  refine .cons (fun _ _ => RA_RING_PTR_fields_win) (by decide) ?_
  refine .cons (fun i _ => RA_DESC_SP_fields_win i) (by decide) ?_
  refine .cons (fun i _ => RA_DESC_GEO_fields_win i) (by decide) ?_
  refine .cons (fun i _ => RA_DESC_USER_fields_win i) (by decide) ?_
  refine .cons (fun i _ => RA_DOM_fields_win i) (by decide) ?_
  exact .nil

theorem regMapSignal_wins : InWins regMapSignal := by
  unfold regMapSignal
  refine .cons (fun i _ => SC_MAP_fields_win i) (by decide) ?_
  refine .cons (fun i j => SC_DROP_fields_win i j) (by decide) ?_
  refine .cons (fun i j => SC_RES_fields_win i j) (by decide) ?_
  refine .cons (fun i _ => SC_CTL_fields_win i) (by decide) ?_
  refine .cons (fun i _ => SC_CFG_fields_win i) (by decide) ?_
  refine .cons (fun i _ => SC_STAT_fields_win i) (by decide) ?_
  refine .cons (fun i _ => SC_HOST_fields_win i) (by decide) ?_
  refine .cons (fun i _ => SC_IRQ_fields_win i) (by decide) ?_
  refine .cons (fun i _ => SC_ECC_CTL_fields_win i) (by decide) ?_
  refine .cons (fun i _ => SC_ECC_STAT_fields_win i) (by decide) ?_
  refine .cons (fun i _ => SC_RING_CFG_fields_win i) (by decide) ?_
  refine .cons (fun i _ => SC_RING_PTR_fields_win i) (by decide) ?_
  exact .nil

theorem regMapHbm_wins : InWins regMapHbm := by
  unfold regMapHbm
  refine .cons (fun _ _ => HBM_CFG_fields_win) (by decide) ?_
  refine .cons (fun _ _ => HBM_AGE_fields_win) (by decide) ?_
  refine .cons (fun _ _ => HBM_STAT_fields_win) (by decide) ?_
  refine .cons (fun _ _ => HBM_ECC_CTL_fields_win) (by decide) ?_
  refine .cons (fun _ _ => HBM_ECC_STAT_fields_win) (by decide) ?_
  refine .cons (fun _ _ => HBM_ERRLOG_fields_win) (by decide) ?_
  refine .cons (fun _ _ => HBM_FLIP_DATA_fields_win) (by decide) ?_
  refine .cons (fun _ _ => HBM_FLIP_CTL_fields_win) (by decide) ?_
  refine .cons (fun _ _ => HBM_DIST_fields_win) (by decide) ?_
  refine .cons (fun _ _ => HBM_SPARE_fields_win) (by decide) ?_
  refine .cons (fun _ _ => HBM_PASS_fields_win) (by decide) ?_
  refine .cons (fun _ _ => HBM_PASS_SUM_fields_win) (by decide) ?_
  refine .cons (fun i _ => HBM_CLS_fields_win i) (by decide) ?_
  exact .nil

theorem regMapEnc_wins : InWins regMapEnc := by
  unfold regMapEnc
  refine .cons (fun _ _ => ENC_KEYID_fields_win) (by decide) ?_
  refine .cons (fun _ _ => ENC_PASS_fields_win) (by decide) ?_
  refine .cons (fun _ _ => ENC_PASS_SUM_fields_win) (by decide) ?_
  refine .cons (fun i _ => ENC_REG_CTL_fields_win i) (by decide) ?_
  refine .cons (fun i _ => ENC_REG_RANGE_fields_win i) (by decide) ?_
  refine .cons (fun i _ => ENC_REG_WM_fields_win i) (by decide) ?_
  refine .cons (fun i _ => ENC_REG_STAT_fields_win i) (by decide) ?_
  refine .cons (fun _ _ => SP_PASS_SUM_fields_win) (by decide) ?_
  exact .nil

theorem regMapNoc_wins : InWins regMapNoc := by
  unfold regMapNoc
  refine .cons (fun _ _ => NOC_CTL_fields_win) (by decide) ?_
  refine .cons (fun i _ => NOC_RTR_CTL_fields_win i) (by decide) ?_
  refine .cons (fun i _ => NOC_RTR_STAT_fields_win i) (by decide) ?_
  refine .cons (fun i _ => NOC_STAT_A_fields_win i) (by decide) ?_
  refine .cons (fun i _ => NOC_STAT_B_fields_win i) (by decide) ?_
  refine .cons (fun i _ => ARB_CTL_fields_win i) (by decide) ?_
  refine .cons (fun i _ => ARB_STAT_fields_win i) (by decide) ?_
  refine .cons (fun i j => ARB_SHD_fields_win i j) (by decide) ?_
  refine .cons (fun i j => ARB_ACT_fields_win i j) (by decide) ?_
  exact .nil

theorem regMapLanes_wins : InWins regMapLanes := by
  unfold regMapLanes
  refine .cons (fun _ _ => CAS_CTL_fields_win) (by decide) ?_
  refine .cons (fun _ _ => CAS_TIME_fields_win) (by decide) ?_
  refine .cons (fun _ _ => CAS_SEND_fields_win) (by decide) ?_
  refine .cons (fun _ _ => CAS_STAT_fields_win) (by decide) ?_
  refine .cons (fun _ _ => CAS_RX_CFG_fields_win) (by decide) ?_
  refine .cons (fun _ _ => CAS_RX_PTR_fields_win) (by decide) ?_
  refine .cons (fun i _ => LNK_CTL_fields_win i) (by decide) ?_
  refine .cons (fun i _ => LNK_STAT_fields_win i) (by decide) ?_
  refine .cons (fun i _ => LNK_RANGE_fields_win i) (by decide) ?_
  refine .cons (fun i _ => LNK_ERR_fields_win i) (by decide) ?_
  refine .cons (fun i _ => LNK_ASYM_fields_win i) (by decide) ?_
  refine .cons (fun i _ => LANE_CTL_fields_win i) (by decide) ?_
  refine .cons (fun i _ => LANE_STAT_fields_win i) (by decide) ?_
  exact .nil

theorem regMapCluster_wins : InWins regMapCluster := by
  unfold regMapCluster
  refine .cons (fun i _ => EPOCH_fields_win i) (by decide) ?_
  refine .cons (fun i _ => CORE_STAT_fields_win i) (by decide) ?_
  refine .cons (fun i _ => WD_CTL_fields_win i) (by decide) ?_
  refine .cons (fun i _ => WD_KICK_fields_win i) (by decide) ?_
  refine .cons (fun i _ => LOCK_CTL_fields_win i) (by decide) ?_
  refine .cons (fun i _ => LOCK_STAT_fields_win i) (by decide) ?_
  refine .cons (fun i j => MBX_DATA_fields_win i j) (by decide) ?_
  refine .cons (fun i _ => MBX_CTL_fields_win i) (by decide) ?_
  refine .cons (fun i _ => MBX_STAT_fields_win i) (by decide) ?_
  refine .cons (fun i _ => DB_PEND_fields_win i) (by decide) ?_
  refine .cons (fun i _ => DB_MASK_fields_win i) (by decide) ?_
  refine .cons (fun i _ => TMO_PEND_fields_win i) (by decide) ?_
  refine .cons (fun i _ => CRC_CFG_fields_win i) (by decide) ?_
  refine .cons (fun i _ => CRC_SEED_fields_win i) (by decide) ?_
  refine .cons (fun i _ => CRC_FOLD_fields_win i) (by decide) ?_
  refine .cons (fun i _ => CRC_DB_fields_win i) (by decide) ?_
  refine .cons (fun i _ => CRC_DH_fields_win i) (by decide) ?_
  refine .cons (fun i _ => CRC_DW_fields_win i) (by decide) ?_
  refine .cons (fun i _ => CRC_RES_fields_win i) (by decide) ?_
  refine .cons (fun i _ => SP_OWN_fields_win i) (by decide) ?_
  refine .cons (fun _ _ => SP_MARCH_fields_win) (by decide) ?_
  refine .cons (fun _ _ => SP_MARCH_STAT_fields_win) (by decide) ?_
  refine .cons (fun i _ => SP_MARCH_RES_fields_win i) (by decide) ?_
  refine .cons (fun _ _ => SP_PASS_fields_win) (by decide) ?_
  refine .cons (fun i _ => PATCH_ADDR_fields_win i) (by decide) ?_
  refine .cons (fun i _ => PATCH_DATA_fields_win i) (by decide) ?_
  refine .cons (fun _ _ => PATCH_LOCK_fields_win) (by decide) ?_
  exact .nil

theorem regMapSecurity_wins : InWins regMapSecurity := by
  unfold regMapSecurity
  refine .cons (fun _ _ => SEC_STAT_fields_win) (by decide) ?_
  refine .cons (fun _ _ => SEC_TAMPER_fields_win) (by decide) ?_
  refine .cons (fun _ _ => ALM_CTL_fields_win) (by decide) ?_
  refine .cons (fun _ _ => ALM_STAT_fields_win) (by decide) ?_
  refine .cons (fun _ _ => AUD_SEQ_fields_win) (by decide) ?_
  refine .cons (fun i _ => AUD_HEAD_fields_win i) (by decide) ?_
  refine .cons (fun i _ => AUD_BODY_fields_win i) (by decide) ?_
  refine .cons (fun _ _ => AUD_GO_fields_win) (by decide) ?_
  refine .cons (fun _ _ => ATT_CTL_fields_win) (by decide) ?_
  exact .nil

theorem regMapField_wins : InWins regMapField := by
  unfold regMapField
  refine .cons (fun _ _ => FI_STAT_fields_win) (by decide) ?_
  refine .cons (fun _ _ => FI_SDO_fields_win) (by decide) ?_
  refine .cons (fun i _ => FI_SESS_fields_win i) (by decide) ?_
  exact .nil

theorem regMapDebug_wins : InWins regMapDebug := by
  unfold regMapDebug
  refine .cons (fun _ _ => DBG_AUTH_CTL_fields_win) (by decide) ?_
  refine .cons (fun i _ => DBG_AUTH_BUF_fields_win i) (by decide) ?_
  refine .cons (fun _ _ => DBG_CTL_fields_win) (by decide) ?_
  refine .cons (fun i _ => DBG_RUN_fields_win i) (by decide) ?_
  refine .cons (fun _ _ => DBG_FREEZE_fields_win) (by decide) ?_
  refine .cons (fun _ _ => DBG_TRC_CTL_fields_win) (by decide) ?_
  refine .cons (fun _ _ => DBG_TRC_STAT_fields_win) (by decide) ?_
  refine .cons (fun i j => DBG_CREG_fields_win i j) (by decide) ?_
  refine .cons (fun i _ => DBG_CSR_SEL_fields_win i) (by decide) ?_
  refine .cons (fun i _ => DBG_CSR_DATA_fields_win i) (by decide) ?_
  refine .cons (fun i j => DBG_STIM_fields_win i j) (by decide) ?_
  exact .nil

theorem regMap_wins : InWins regMap := by
  unfold regMap
  exact InWins.append (.append (.append (.append (.append (.append (.append (.append (.append (.append (.append (.append (.append (.append (.append (.append (.append (.append (.append (.append regMapArchitecture_wins regMapPower_wins) regMapClocks_wins) regMapReset_wins) regMapFabric_wins) regMapLoader_wins) regMapJets_wins) regMapEdge_wins) regMapWeir_wins) regMapSeq_wins) regMapFail_wins) regMapRepair_wins) regMapSignal_wins) regMapHbm_wins) regMapEnc_wins) regMapNoc_wins) regMapLanes_wins) regMapCluster_wins) regMapSecurity_wins) regMapField_wins) regMapDebug_wins

theorem allWins {A : Nat} (hM : Sub 0xFFFFFFFFFFFFFFFFFFFFFFFE00000000 A) {w : Nat} (h : 33 ≤ w ∧ w ≤ 127) : A.testBit w = true :=
  hM.range (a := 33) (n := 95) (by decide) h.1 (by omega)

theorem regMap_in {A : Nat} (hM : Sub 0xFFFFFFFFFFFFFFFFFFFFFFFE00000000 A) {r : RegDesc} (hr : r ∈ regMap) (i j : Nat) : ∀ p ∈ r.flds i j, InMask A p.2 :=
  fun p hp => allWins hM (regMap_wins r hr i j p hp)

end Sys2Proof.Machine
end

