-- ==== Sys2Proof/Laws/WithinLeap.lean ====
section
/-! SUPPORT. What each operation of Machine/Leap.lean can reach (see Laws/Within.lean). -/
set_option Elab.async false
namespace Sys2Proof.Machine

theorem modLeap_within {A : Nat} {u : State} {f : LeapSt → LeapSt} {s : State} (hM : Sub 0x8000000 A) (h_s : Within A u s) :
    Within A u (modLeap f s) := by
  unfold modLeap
  refine Within.leap_ (Sub.bit hM (by decide)) ?_
  exact h_s

theorem leapEnd_within {A : Nat} {u : State} {s : State} (hM : Sub 0x800000C A) (h_s : Within A u s) :
    Within A u (leapEnd s) := by
  unfold leapEnd
  refine raise_within (Sub.trans (by decide) hM) ?_
  refine modLeap_within (Sub.trans (by decide) hM) ?_
  exact h_s

theorem leapFail_within {A : Nat} {u : State} {cause detail : Nat} {s : State} (hM : Sub 0x800080C A) (h_s : Within A u s) :
    Within A u (leapFail cause detail s) := by
  unfold leapFail
  extract_lets -merge -useContext +onlyGivenNames st_0 w_1 s_2
  have hs_2 : Within A u s_2 := by
    refine Within.hbm_ (Sub.bit hM (by decide)) ?_
    exact h_s
  refine raise_within (Sub.trans (by decide) hM) ?_
  refine modLeap_within (Sub.trans (by decide) hM) ?_
  exact hs_2

theorem applyMap_within {A : Nat} {u : State} {s : State} (hM : Sub 0x58000000000000802080C A) (h_s : Within A u s) :
    Within A u (applyMap s) := by
  unfold applyMap
  extract_lets -merge -useContext +onlyGivenNames r_0
  have hr_0 : Within A u r_0.2 := by
    refine wrScMap_within (Sub.trans (by decide) hM) ?_
    exact h_s
  refine Within.ite ?_ ?_
  · refine leapEnd_within (Sub.trans (by decide) hM) ?_
    exact hr_0
  · refine leapFail_within (Sub.trans (by decide) hM) ?_
    exact h_s

theorem leapPartReset_within {A : Nat} {u : State} {s : State} (hM : Sub 0x8000800 A) (h_s : Within A u s) :
    Within A u (leapPartReset s) := by
  unfold leapPartReset
  refine Within.upd (s := s) ?_ rfl (fun _ _ => rfl) (.inr rfl) (.inr rfl) (.inr rfl) (.inr rfl) (.inr rfl) (.inr rfl) (.inr rfl) (.inr rfl) (.inr rfl) (.inr rfl) (.inr rfl) (.inl (Sub.bit hM (by decide))) (.inr rfl) (.inr rfl) (.inr rfl) (.inr rfl) (.inr rfl) (.inr rfl) (.inr rfl) (.inr rfl) (.inr rfl) (.inr rfl) (.inr rfl) (.inr rfl) (.inr rfl) (.inr rfl) (.inr rfl) (.inl (Sub.bit hM (by decide))) (.inr rfl) (fun c => ⟨c.regs, c.hbm, c.flash, c.cfg, c.editions, c.ledger, c.ring, c.queue, c.seqs, c.cores⟩) (Otp.same rfl rfl rfl rfl rfl rfl)
  exact h_s

theorem applyBegin_within {A : Nat} {u : State} {s : State} (hM : Sub 0x4011FC837BD7FE3F8B360000BDFFF5D A) (h_s : Within A u s) :
    Within A u (applyBegin s) := by
  unfold applyBegin
  extract_lets -merge -useContext +onlyGivenNames x_0 s_1 w_2
  have hs_1 : Within A u s_1 := by
    refine modLeap_within (Sub.trans (by decide) hM) ?_
    exact h_s
  refine Within.ite ?_ ?_
  · refine targetDown_within (Sub.trans (by decide) hM) ?_
    exact hs_1
  · refine Within.ite ?_ ?_
    · refine modLeap_within (Sub.trans (by decide) hM) ?_
      exact hs_1
    · refine Within.ite ?_ ?_
      · refine Within.ite ?_ ?_
        · refine Within.hbm_ (Sub.bit hM (by decide)) ?_
          exact hs_1
        · refine leapFail_within (Sub.trans (by decide) hM) ?_
          exact hs_1
      · exact hs_1

theorem jetRaise_within {A : Nat} {u : State} {s : State} (hM : Sub 0x100000080064000800083C A) (h_s : Within A u s) :
    Within A u (jetRaise s) := by
  unfold jetRaise
  extract_lets -merge -useContext +onlyGivenNames b_0 s_1 r_2
  have hs_1 : Within A u s_1 := by
    refine set_within _ (inMask (JET_BANK_CTL_SPARE_FOR_win _) (Sub.bit hM (by decide))) ?_
    exact h_s
  have hr_2 : Within A u r_2.2 := by
    refine targetOn_within (Sub.trans (by decide) hM) ?_
    exact hs_1
  refine Within.ite ?_ ?_
  · refine modLeap_within (Sub.trans (by decide) hM) ?_
    exact hr_2
  · refine Within.ite ?_ ?_
    · exact hr_2
    · refine leapFail_within (Sub.trans (by decide) hM) ?_
      exact hr_2

theorem leapTick_within {A : Nat} {u : State} {s : State} (hM : Sub 0x100000080064000800083C A) (h_s : Within A u s) :
    Within A u (leapTick s) := by
  unfold leapTick
  extract_lets -merge -useContext +onlyGivenNames s_0
  have hs_0 : Within A u s_0 := by
    refine modLeap_within (Sub.trans (by decide) hM) ?_
    exact h_s
  refine Within.ite ?_ ?_
  · refine jetRaise_within (Sub.trans (by decide) hM) ?_
    refine modLeap_within (Sub.trans (by decide) hM) ?_
    exact hs_0
  · exact hs_0

theorem leapAppend_within {A : Nat} {u : State} {s : State} (hM : Sub 0x10000000000000000024000940083C A) (h_s : Within A u s) :
    Within A u (leapAppend s) := by
  unfold leapAppend
  extract_lets -merge -useContext +onlyGivenNames x_0 b_1 n_2 r_3
  have hr_3 : Within A u r_3.2 := by
    refine almStart_within (Sub.trans (by decide) hM) ?_
    refine bank14Write_within (Sub.trans (by decide) hM) ?_
    exact h_s
  refine Within.ite ?_ ?_
  · exact h_s
  · refine Within.ite ?_ ?_
    · refine leapFail_within (Sub.trans (by decide) hM) ?_
      exact h_s
    · refine Within.ite ?_ ?_
      · refine modLeap_within (Sub.trans (by decide) hM) ?_
        exact hr_3
      · refine leapFail_within (Sub.trans (by decide) hM) ?_
        exact hr_3

theorem ledgerOver_within {A : Nat} {u : State} {s : State} (hM : Sub 0x4111FC837BD7FE3F8B364000BDFFF7D A) (h_s : Within A u s) :
    Within A u (ledgerOver s) := by
  unfold ledgerOver
  split
  · refine leapAppend_within (Sub.trans (by decide) hM) ?_
    exact h_s
  · refine Within.ite ?_ ?_
    · refine leapFail_within (Sub.trans (by decide) hM) ?_
      exact h_s
    · extract_lets -merge -useContext +onlyGivenNames good_0
      refine Within.ite ?_ ?_
      · refine leapFail_within (Sub.trans (by decide) hM) ?_
        exact h_s
      · refine applyBegin_within (Sub.trans (by decide) hM) ?_
        refine modLeap_within (Sub.trans (by decide) hM) ?_
        exact h_s

theorem calBegin_within {A : Nat} {u : State} {s : State} (hM : Sub 0x80000000008000C0C A) (h_s : Within A u s) :
    Within A u (calBegin s) := by
  unfold calBegin
  extract_lets -merge -useContext +onlyGivenNames b_0 r_1
  have hr_1 : Within A u r_1.2 := by
    refine wrCalCtl_within (Sub.trans (by decide) hM) ?_
    refine set_within _ (inMask (WEIR_CAL_BANKS_BANKS_win) (Sub.bit hM (by decide))) ?_
    exact h_s
  refine Within.ite ?_ ?_
  · exact h_s
  · refine Within.ite ?_ ?_
    · refine modLeap_within (Sub.trans (by decide) hM) ?_
      exact hr_1
    · refine leapFail_within (Sub.trans (by decide) hM) ?_
      exact hr_1

theorem applyJet_within {A : Nat} {u : State} {s : State} (hM : Sub 0x1000080800640008000C3C A) (h_s : Within A u s) :
    Within A u (applyJet s) := by
  unfold applyJet
  extract_lets -merge -useContext +onlyGivenNames d_0 st_1
  refine Within.ite ?_ ?_
  · refine Within.ite ?_ ?_
    · refine jetRaise_within (Sub.trans (by decide) hM) ?_
      exact h_s
    · refine Within.ite ?_ ?_
      · refine leapFail_within (Sub.trans (by decide) hM) ?_
        exact h_s
      · exact h_s
  · refine Within.ite ?_ ?_
    · refine calBegin_within (Sub.trans (by decide) hM) ?_
      refine modLeap_within (Sub.trans (by decide) hM) ?_
      exact h_s
    · refine Within.ite ?_ ?_
      · refine leapFail_within (Sub.trans (by decide) hM) ?_
        exact h_s
      · exact h_s

theorem moveRowLine_within {A : Nat} {u : State} {l : Nat} {s : State} (hM : Sub 0x800 A) (h_s : Within A u s) :
    Within A u (moveRowLine l s) := by
  unfold moveRowLine
  extract_lets -merge -useContext +onlyGivenNames lost_0 w_1
  refine Within.hbm_ (Sub.bit hM (by decide)) h_s (fun c => ?_)
  dsimp only
  split
  · exact canon_memWrite _ _ c
  · exact c

theorem applyRow_within {A : Nat} {u : State} {good : Bool} {s : State} (hM : Sub 0x1000000000000000800080C A) (h_s : Within A u s) :
    Within A u (applyRow good s) := by
  unfold applyRow
  extract_lets -merge -useContext +onlyGivenNames k_0 l_1 lost_2 s_3 w_4 s_5
  have hs_3 : Within A u s_3 := by
    refine forEach_within ?_ _ ?_
    · intro y6 y7 hy8
      refine moveRowLine_within (Sub.trans (by decide) hM) ?_
      exact hy8
    · exact h_s
  have hs_5 : Within A u s_5 := by
    clear_value s_3
    refine Within.hbm_ (Sub.bit hM (by decide)) ?_
    exact hs_3
  refine Within.ite ?_ ?_
  · refine leapFail_within (Sub.trans (by decide) hM) ?_
    exact h_s
  · refine Within.ite ?_ ?_
    · refine leapFail_within (Sub.trans (by decide) hM) ?_
      exact h_s
    · refine leapEnd_within (Sub.trans (by decide) hM) ?_
      refine modLeap_within (Sub.trans (by decide) hM) ?_
      refine set_within _ (inMask (HBM_SPARE_USED_win) (Sub.bit hM (by decide))) ?_
      exact hs_5

theorem applyStepLeap_within {A : Nat} {u : State} {good : Bool} {s : State} (hM : Sub 0x11580080800640008020C3C A) (h_s : Within A u s) :
    Within A u (applyStepLeap good s) := by
  unfold applyStepLeap
  refine Within.ite ?_ ?_
  · refine applyJet_within (Sub.trans (by decide) hM) ?_
    exact h_s
  · refine Within.ite ?_ ?_
    · refine applyRow_within (Sub.trans (by decide) hM) ?_
      exact h_s
    · refine Within.ite ?_ ?_
      · refine applyMap_within (Sub.trans (by decide) hM) ?_
        exact h_s
      · refine leapEnd_within (Sub.trans (by decide) hM) ?_
        exact h_s

theorem calStep_within {A : Nat} {u : State} {s : State} (hM : Sub 0x80000000008000C0C A) (h_s : Within A u s) :
    Within A u (calStep s) := by
  unfold calStep
  extract_lets -merge -useContext +onlyGivenNames b_0 r_1
  have hr_1 : Within A u r_1.2 := by
    refine wrCalCtl_within (Sub.trans (by decide) hM) ?_
    exact h_s
  refine Within.ite ?_ ?_
  · refine leapFail_within (Sub.trans (by decide) hM) ?_
    exact h_s
  · refine Within.ite ?_ ?_
    · refine calBegin_within (Sub.trans (by decide) hM) ?_
      exact h_s
    · refine Within.ite ?_ ?_
      · exact h_s
      · refine Within.ite ?_ ?_
        · refine Within.ite ?_ ?_
          · refine leapFail_within (Sub.trans (by decide) hM) ?_
            exact h_s
          · refine Within.ite ?_ ?_
            · refine modLeap_within (Sub.trans (by decide) hM) ?_
              exact hr_1
            · refine leapFail_within (Sub.trans (by decide) hM) ?_
              exact hr_1
        · refine Within.ite ?_ ?_
          · refine leapEnd_within (Sub.trans (by decide) hM) ?_
            exact h_s
          · refine leapFail_within (Sub.trans (by decide) hM) ?_
            exact h_s

theorem leapAdvance_within {A : Nat} {u : State} {good : Bool} {s : State} (hM : Sub 0x4111FC837BDFFEBF8B364000BDFFF7D A) (h_s : Within A
    u s) :
    Within A u (leapAdvance good s) := by
  unfold leapAdvance
  refine Within.ite ?_ ?_
  · extract_lets -merge -useContext +onlyGivenNames c_0
    refine Within.ite ?_ ?_
    · refine leapFail_within (Sub.trans (by decide) hM) ?_
      exact h_s
    · refine leapAppend_within (Sub.trans (by decide) hM) ?_
      refine modLeap_within (Sub.trans (by decide) hM) ?_
      exact h_s
  · refine Within.ite ?_ ?_
    · refine Within.ite ?_ ?_
      · exact h_s
      · refine ledgerOver_within (Sub.trans (by decide) hM) ?_
        exact h_s
    · refine Within.ite ?_ ?_
      · refine applyStepLeap_within (Sub.trans (by decide) hM) ?_
        exact h_s
      · refine calStep_within (Sub.trans (by decide) hM) ?_
        exact h_s

theorem leapStart_within {A : Nat} {u : State} {role signer : Nat} {b : List Byte} {s : State} (hM : Sub 0x800000C A) (h_s : Within A u s) :
    Within A u (leapStart role signer b s) := by
  unfold leapStart
  extract_lets -merge -useContext +onlyGivenNames s_0
  have hs_0 : Within A u s_0 := by
    refine modLeap_within (Sub.trans (by decide) hM) ?_
    exact h_s
  refine raise_within (Sub.trans (by decide) hM) ?_
  exact hs_0

theorem objLeap_within {A : Nat} {u : State} {a : Agent} {b : List Byte} {s : State} (hM : Sub 0x20000000000000000000000940000C A) (h_s :
    Within A u s) :
    Within A u (objLeap a b s).2 := by
  unfold objLeap
  refine Within.ite1 ?_ ?_
  · refine Within.snd1 ?_
    exact h_s
  · refine auditWrite_within (Sub.trans (by decide) hM) ?_ ?_
    · intro y0 hy1
      beta_reduce
      refine Within.ite1 ?_ ?_
      · refine Within.snd1 ?_
        exact hy1
      · refine Within.ite1 ?_ ?_
        · refine Within.snd1 ?_
          exact hy1
        · refine Within.snd1 ?_
          refine leapStart_within (Sub.trans (by decide) hM) ?_
          exact hy1
    · exact h_s

theorem execLeapRequest_within {A : Nat} {u : State} {a : Agent} {b : List Byte} {s : State} (hM : Sub 0x20000000000000000000000940000D
    A) (h_s : Within A u s) :
    OutWithin A u (execLeapRequest a b s) := by
  unfold execLeapRequest
  refine OutWithin.ok ?_
  refine answered_within (Sub.trans (by decide) hM) ?_
  refine objLeap_within (Sub.trans (by decide) hM) ?_
  exact h_s

theorem addCandidate_within {A : Nat} {u : State} {r : Nat} {t : List Byte} {s : State} (hM : Sub 0x800000C A) (h_s : Within A u s) :
    Within A u (addCandidate r t s) := by
  unfold addCandidate
  extract_lets -merge -useContext +onlyGivenNames c_0 l_1 w_2
  refine raise_within (Sub.trans (by decide) hM) ?_
  refine Within.leap_ (Sub.bit hM (by decide)) ?_
  exact h_s

theorem execHealthCandidate_within {A : Nat} {u : State} {r : Fin 8} {t : List Byte} {s : State} (hM : Sub 0x800000C A) (h_s : Within A u
    s) :
    OutWithin A u (execHealthCandidate r t s) := by
  unfold execHealthCandidate
  refine OutWithin.whenOk ?_ ?_
  · exact h_s
  · refine addCandidate_within (Sub.trans (by decide) hM) ?_
    exact h_s

theorem execLeapStepAdvance_within {A : Nat} {u : State} {good : Bool} {s : State} (hM : Sub 0x4111FC837BDFFEBF8B364000BDFFF7D A) (h_s :
    Within A u s) :
    OutWithin A u (execLeapStepAdvance good s) := by
  unfold execLeapStepAdvance
  refine OutWithin.whenOk ?_ ?_
  · exact h_s
  · refine leapAdvance_within (Sub.trans (by decide) hM) ?_
    exact h_s

theorem ledgerApply_within {A : Nat} {u : State} {s : State} (hM : Sub 0x80000A00000000080800 A) (h_s : Within A u s) :
    Within A u (ledgerApply s) := by
  unfold ledgerApply
  extract_lets -merge -useContext +onlyGivenNames w_0 s_1 s_2 s_3 w_4 s_5
  have hs_1 : Within A u s_1 := by
    refine Within.fab_ (Sub.bit hM (by decide)) ?_
    exact h_s
  have hs_2 : Within A u s_2 := by
    refine forEach_within ?_ _ ?_
    · intro y6 y7 hy8
      beta_reduce
      refine set_within _ (inMask (JET_BANK_CTL_SPARE_FOR_win _) (Sub.bit hM (by decide))) ?_
      exact hy8
    · exact hs_1
  have hs_3 : Within A u s_3 := by
    refine forNat_within ?_ _ ?_
    · intro y9 y10 hy11
      beta_reduce
      extract_lets -merge -useContext +onlyGivenNames cols_12
      refine set_within _ (inMask (FAB_SPARE_BMEM_SPARES_win _) (Sub.bit hM (by decide))) ?_
      refine set_within _ (inMask (FAB_SPARE_LCOL_B_win _) (Sub.bit hM (by decide))) ?_
      refine set_within _ (inMask (FAB_SPARE_LCOL_A_win _) (Sub.bit hM (by decide))) ?_
      exact hy11
    · exact hs_2
  have hs_5 : Within A u s_5 := by
    refine Within.hbm_ (Sub.bit hM (by decide)) ?_
    exact hs_3
  refine forEach_within ?_ _ ?_
  · intro y13 y14 hy15
    beta_reduce
    refine set_within _ (inMask (SC_MAP_PHYS_win _) (Sub.bit hM (by decide))) ?_
    exact hy15
  · exact hs_5

end Sys2Proof.Machine
end

