-- ==== Sys2Proof/Laws/WithinReset.lean ====
section
/-! SUPPORT. What each operation of Machine/Reset.lean can reach (see Laws/Within.lean). -/
set_option Elab.async false
namespace Sys2Proof.Machine

theorem bootRaise_within {A : Nat} {u : State} {l : List Nat} {s : State} (hM : Sub 0x100000000064000000003C A) (h_s : Within A u s) :
    Within A u (bootRaise l s) := by
  unfold bootRaise
  refine forEach_within ?_ _ ?_
  · intro y0 y1 hy2
    beta_reduce
    refine targetOn_within (Sub.trans (by decide) hM) ?_
    exact hy2
  · exact h_s

theorem stepThree_within {A : Nat} {u : State} {s : State} (hM : Sub 0x100000000064100000007C A) (h_s : Within A u s) :
    Within A u (stepThree s) := by
  unfold stepThree
  refine bootRaise_within (Sub.trans (by decide) hM) ?_
  refine firstTick_within (Sub.trans (by decide) hM) ?_
  exact h_s

theorem execResetRelease_within {A : Nat} {u : State} {p : ResetPin} {s : State} (hM : Sub 0x10000000006610000000FC A) (h_s : Within A u
    s) :
    OutWithin A u (execResetRelease p s) := by
  unfold execResetRelease
  split
  · refine OutWithin.whenOk ?_ ?_
    · exact h_s
    · refine set_within _ (inMask (BOOT_STAT_STAGE_win) (Sub.bit hM (by decide))) ?_
      refine Within.pins_ (Sub.bit hM (by decide)) ?_
      exact h_s
  · extract_lets -merge -useContext +onlyGivenNames w_0 t_1
    have ht_1 : Within A u t_1 := by
      refine Within.pins_ (Sub.bit hM (by decide)) ?_
      exact h_s
    refine OutWithin.whenOk ?_ ?_
    · exact h_s
    · refine Within.ite ?_ ?_
      · exact ht_1
      · refine stepThree_within (Sub.trans (by decide) hM) ?_
        exact ht_1

theorem warmEnds_within {A : Nat} {u : State} {s : State} (hM : Sub 0xFF7C020032A0001E19E360000D1A1D5C A) (h_s : Within A u s) :
    Within A u (warmEnds s) := by
  unfold warmEnds
  extract_lets -merge -useContext +onlyGivenNames s_0 s_1 s_2 s_3 s_4 s_5
  have hs_0 : Within A u s_0 := by
    refine forNat_within ?_ _ ?_
    · intro y6 y7 hy8
      refine endSession_within (Sub.trans (by decide) hM) ?_
      exact hy8
    · exact h_s
  have hs_1 : Within A u s_1 := by
    refine dbgPartReset_within (Sub.trans (by decide) hM) ?_
    exact hs_0
  have hs_2 : Within A u s_2 := by
    refine ldrPartReset_within (Sub.trans (by decide) hM) ?_
    exact hs_1
  have hs_3 : Within A u s_3 := by
    refine Within.ite ?_ ?_
    · refine srcLost_within (Sub.trans (by decide) hM) ?_
      exact hs_2
    · exact hs_2
  have hs_4 : Within A u s_4 := by
    refine treePassAbort_within (Sub.trans (by decide) hM) ?_
    refine Within.ite ?_ ?_
    · refine flushCache_within (Sub.trans (by decide) hM) ?_
      exact hs_3
    · refine encForced_within (Sub.trans (by decide) hM) ?_
      exact hs_3
  have hs_5 : Within A u s_5 := by
    refine weirWarm_within (Sub.trans (by decide) hM) ?_
    refine passAbort_within (Sub.trans (by decide) hM) ?_
    exact hs_4
  refine leapPartReset_within (Sub.trans (by decide) hM) ?_
  refine secPartReset_within (Sub.trans (by decide) hM) ?_
  exact hs_5

theorem memoriesLost_within {A : Nat} {u : State} {s : State} (hM : Sub 0x420000 A) (h_s : Within A u s) :
    Within A u (memoriesLost s) := by
  unfold memoriesLost
  refine forNat_within ?_ _ ?_
  · intro y0 y1 hy2
    refine scUndefined_within (Sub.trans (by decide) hM) ?_
    exact hy2
  · refine forNat_within ?_ _ ?_
    · intro y3 y4 hy5
      refine spPairLose_within (Sub.trans (by decide) hM) ?_
      exact hy5
    · exact h_s

theorem acrossReset_regs (s : State) : (acrossReset s).regs = spSetD 0 (64 * 0x3000000810 + 4) 1 [] := rfl

theorem acrossReset_within {A : Nat} {u : State} {s : State} (hM : Sub 0x1FFFFFFFFFFFFFFFFFFFFFFFFFFFFFFFF A) (h_s : Within A u s) :
    Within A u (acrossReset s) := by
  refine Within.all hM h_s.pending (fun c => ?_) ?_
  · have c1 := h_s.canon c
    exact ⟨acrossReset_regs s ▸ rising_spSetD _ _ _ rising_nil, canon_nil _, c1.flash, canon_nil _, c1.editions, c1.ledger, Nat.zero_le _, Nat.zero_le _, List.Pairwise.nil, List.Pairwise.nil⟩
  · exact h_s.otp.trans (Otp.same rfl rfl rfl rfl rfl rfl)

theorem warmReset_within {A : Nat} {u : State} {src : Nat} {s : State} (hM : Sub 0x1FFFFFFFFFFFFFFFFFFFFFFFFFFFFFFFF A) (h_s : Within A u
    s) :
    Within A u (warmReset src s) := by
  unfold warmReset
  extract_lets -merge -useContext +onlyGivenNames was_0 n_1 s_2 t_3 w_4 w_5 w_6 w_7 w_8 w_9 w_10 w_11 t_12 t_13 t_14 t_15 t_16 t_17
  clear_value n_1
  have hwas_0 : Within A u was_0 := by
    exact h_s
  have hs_2 : Within A u s_2 := by
    refine warmEnds_within (Sub.trans (by decide) hM) ?_
    exact h_s
  have ht_3 : Within A u t_3 := by
    refine memoriesLost_within (Sub.trans (by decide) hM) ?_
    refine acrossReset_within (Sub.trans (by decide) hM) ?_
    exact hs_2
  clear_value t_3 s_2
  have hr : ∀ (l : List Fld) (m : Sparse), Sparse.Rising m →
      Sparse.Rising (l.foldl (fun m f => regSet f (s_2.get f) m) m) := by
    intro l
    induction l with
    | nil => exact fun _ h => h
    | cons f l ih => exact fun m h => ih _ (rising_regSet f _ h)
  have ht_12 : Within A u t_12 := by
    refine Within.all hM ht_3.pending (fun c => ?_) hs_2.otp
    have c2 := hs_2.canon c
    exact ⟨hr warmFields (keptRegs s_2.regs) (rising_filter _ c2.regs), c2.hbm, (ht_3.canon c).flash, canon_memErase _ _ c2.cfg, c2.editions, c2.ledger, c2.ring, (ht_3.canon c).queue, (ht_3.canon c).seqs, (ht_3.canon c).cores⟩
  have ht_13 : Within A u t_13 := by
    refine forNat_within ?_ _ ?_
    · intro y18 y19 hy20
      beta_reduce
      refine set_within _ (inMask (PWR_DOM_CTL_TARGET_win _) (Sub.bit hM (by decide))) ?_
      refine set_within _ (inMask (PWR_DOM_STAT_STATE_win _) (Sub.bit hM (by decide))) ?_
      exact hy20
    · exact ht_12
  have ht_14 : Within A u t_14 := by
    refine set_within _ (inMask (HBM_STAT_STATE_win) (Sub.bit hM (by decide))) ?_
    exact ht_13
  have ht_15 : Within A u t_15 := by
    refine forNat_within ?_ _ ?_
    · intro y21 y22 hy23
      beta_reduce
      refine set_within _ (inMask (REG_STAT_ABORT_win _) (Sub.bit hM (by decide))) ?_
      exact hy23
    · exact ht_14
  have ht_16 : Within A u t_16 := by
    refine set_within _ (inMask (RST_CAUSE_WARM_COUNT_win) (Sub.bit hM (by decide))) ?_
    refine set_within _ (inMask (RST_CAUSE_SOURCE_win) (Sub.bit hM (by decide))) ?_
    refine set_within _ (inMask (RST_CAUSE_KIND_win) (Sub.bit hM (by decide))) ?_
    exact ht_15
  have ht_17 : Within A u t_17 := by
    refine set_within _ (inMask (BOOT_STAT_STAGE_win) (Sub.bit hM (by decide))) ?_
    refine set_within _ (inMask (BOOT_STAT_ALMANAC_win) (Sub.bit hM (by decide))) ?_
    refine set_within _ (inMask (BOOT_STAT_WARM_win) (Sub.bit hM (by decide))) ?_
    exact ht_16
  refine raise_within (Sub.trans (by decide) hM) ?_
  exact ht_17

theorem objWarm_within {A : Nat} {u : State} {a : Agent} {v : Nat} {s : State} (hM : Sub 0x2000000 A) (h_s : Within A u s) :
    Within A u (objWarm a v s).2 := by
  unfold objWarm
  refine Within.ite1 ?_ ?_
  · refine Within.snd1 ?_
    exact h_s
  · refine Within.ite1 ?_ ?_
    · refine Within.snd1 ?_
      exact h_s
    · refine Within.snd1 ?_
      refine Within.boot_ (Sub.bit hM (by decide)) ?_
      exact h_s

theorem execWarmResetObject_within {A : Nat} {u : State} {a : Agent} {v : Nat} {s : State} (hM : Sub 0x2000001 A) (h_s : Within A u s) :
    OutWithin A u (execWarmResetObject a v s) := by
  unfold execWarmResetObject
  refine OutWithin.ok ?_
  refine answered_within (Sub.trans (by decide) hM) ?_
  refine objWarm_within (Sub.trans (by decide) hM) ?_
  exact h_s

theorem execThermalThreshold_within {A : Nat} {u : State} {milliC : Int} {s : State} (hM : Sub 0x80 A) (h_s : Within A u s) :
    OutWithin A u (execThermalThreshold milliC s) := by
  unfold execThermalThreshold
  refine OutWithin.whenOk ?_ ?_
  · exact h_s
  · refine Within.pins_ (Sub.bit hM (by decide)) ?_
    exact h_s

theorem coldReset_within {A : Nat} {u : State} {s : State} (hM : Sub 0x1FFFFFFFFFFFFFFFFFFFFFFFFFFFFFFFF A) (h_s : Within A u s) :
    Within A u (coldReset s) := by
  unfold coldReset
  refine set_within _ (inMask (BOOT_STAT_STAGE_win) (Sub.bit hM (by decide))) ?_
  refine memoriesLost_within (Sub.trans (by decide) hM) ?_
  refine acrossReset_within (Sub.trans (by decide) hM) ?_
  refine almReset_within (Sub.trans (by decide) hM) ?_
  exact h_s

theorem execColdReset_within {A : Nat} {u : State} {s : State} (hM : Sub 0x1FFFFFFFFFFFFFFFFFFFFFFFFFFFFFFFF A) (h_s : Within A u s) :
    OutWithin A u (execColdReset s) := by
  unfold execColdReset
  refine OutWithin.ok ?_
  extract_lets -merge -useContext +onlyGivenNames w_0 w_1
  have hw_0 : Within A u w_0 := by
    refine coldReset_within (Sub.trans (by decide) hM) ?_
    exact h_s
  refine Within.pins_ (Sub.bit hM (by decide)) ?_
  exact hw_0

theorem execWarmReset_within {A : Nat} {u : State} {s : State} (hM : Sub 0x1FFFFFFFFFFFFFFFFFFFFFFFFFFFFFFFF A) (h_s : Within A u s) :
    OutWithin A u (execWarmReset s) := by
  unfold execWarmReset
  extract_lets -merge -useContext +onlyGivenNames w_0 t_1
  have ht_1 : Within A u t_1 := by
    refine Within.pins_ (Sub.bit hM (by decide)) ?_
    exact h_s
  refine OutWithin.ok ?_
  refine Within.ite ?_ ?_
  · exact ht_1
  · refine warmReset_within (Sub.trans (by decide) hM) ?_
    exact ht_1

theorem askWarm_within {A : Nat} {u : State} {src : Nat} {s : State} (hM : Sub 0x1FFFFFFFFFFFFFFFFFFFFFFFFFFFFFFFF A) (h_s : Within A u s) :
    Within A u (askWarm src s) := by
  unfold askWarm
  refine Within.ite ?_ ?_
  · refine Within.boot_ (Sub.bit hM (by decide)) ?_
    exact h_s
  · refine stepThree_within (Sub.trans (by decide) hM) ?_
    refine warmReset_within (Sub.trans (by decide) hM) ?_
    exact h_s

theorem wrRstCtl_within {A : Nat} {u : State} {a : Agent} {v : Nat} {s : State} (hM : Sub 0x1FFFFFFFFFFFFFFFFFFFFFFFFFFFFFFFF A) (h_s :
    Within A u s) :
    Within A u (wrRstCtl a v s).2 := by
  unfold wrRstCtl
  extract_lets -merge -useContext +onlyGivenNames key_0 warm_1 core_2 cores_3
  have hcores_3 : ∀ y4, Within A u y4 → Within A u (cores_3 y4) := by
    intro y4 hy5
    unfold cores_3
    refine forEach_within ?_ _ ?_
    · intro y6 y7 hy8
      refine coreReset_within (Sub.trans (by decide) hM) ?_
      exact hy8
    · exact hy5
  refine Within.ite1 ?_ ?_
  · refine Within.ite1 ?_ ?_
    · refine Within.snd1 ?_
      apply hcores_3
      exact h_s
    · refine Within.snd1 ?_
      exact h_s
  · refine Within.ite1 ?_ ?_
    · refine Within.snd1 ?_
      exact h_s
    · refine Within.ite1 ?_ ?_
      · refine Within.snd1 ?_
        exact h_s
      · refine Within.snd1 ?_
        refine Within.ite ?_ ?_
        · refine askWarm_within (Sub.trans (by decide) hM) ?_
          apply hcores_3
          exact h_s
        · apply hcores_3
          exact h_s

theorem execVinRise_within {A : Nat} {u : State} {s : State} (hM : Sub 0x10 A) (h_s : Within A u s) :
    OutWithin A u (execVinRise s) := by
  unfold execVinRise
  refine OutWithin.whenOk ?_ ?_
  · exact h_s
  · refine Within.power_ (Sub.bit hM (by decide)) ?_
    exact h_s

theorem execVinSag_within {A : Nat} {u : State} {s : State} (hM : Sub 0x110 A) (h_s : Within A u s) :
    OutWithin A u (execVinSag s) := by
  unfold execVinSag
  refine OutWithin.whenOk ?_ ?_
  · exact h_s
  · extract_lets -merge -useContext +onlyGivenNames w_0 w_1
    have hw_0 : Within A u w_0 := by
      refine forNat_within ?_ _ ?_
      · intro y2 y3 hy4
        refine jetsForceOff_within (Sub.trans (by decide) hM) ?_
        exact hy4
      · exact h_s
    refine Within.power_ (Sub.bit hM (by decide)) ?_
    exact hw_0

theorem execBleed_within {A : Nat} {u : State} {s : State} (hM : Sub 0x1FFFFFFFFFFFFFFFFFFFFFFFFFFFFFFFF A) (h_s : Within A u s) :
    OutWithin A u (execBleed s) := by
  unfold execBleed
  refine OutWithin.whenOk ?_ ?_
  · exact h_s
  · extract_lets -merge -useContext +onlyGivenNames t_0 w_1 w_2
    have ht_0 : Within A u t_0 := by
      refine coldReset_within (Sub.trans (by decide) hM) ?_
      exact h_s
    refine Within.upd (s := t_0) ?_ rfl (fun _ _ => rfl) (.inr rfl) (.inr rfl) (.inr rfl) (.inr rfl) (.inl (Sub.bit hM (by decide))) (.inr rfl) (.inr rfl) (.inl (Sub.bit hM (by decide))) (.inr rfl) (.inr rfl) (.inr rfl) (.inr rfl) (.inr rfl) (.inr rfl) (.inr rfl) (.inr rfl) (.inr rfl) (.inr rfl) (.inr rfl) (.inr rfl) (.inr rfl) (.inr rfl) (.inr rfl) (.inr rfl) (.inr rfl) (.inr rfl) (.inr rfl) (.inr rfl) (.inr rfl) (fun c => ⟨c.regs, c.hbm, c.flash, c.cfg, c.editions, c.ledger, c.ring, c.queue, c.seqs, c.cores⟩) (Otp.same rfl rfl rfl rfl rfl rfl)
    exact ht_0

theorem execRstCtlWarm_within {A : Nat} {u : State} {a : Agent} {key : Nat} {s : State} (hM : Sub 0x1FFFFFFFFFFFFFFFFFFFFFFFFFFFFFFFF A)
    (h_s : Within A u s) :
    OutWithin A u (execRstCtlWarm a key s) := by
  unfold execRstCtlWarm
  refine OutWithin.ok ?_
  refine answered_within (Sub.trans (by decide) hM) ?_
  refine wrRstCtl_within (Sub.trans (by decide) hM) ?_
  exact h_s

theorem execDelayedWarmReset_within {A : Nat} {u : State} {s : State} (hM : Sub 0x1FFFFFFFFFFFFFFFFFFFFFFFFFFFFFFFF A) (h_s : Within A u
    s) :
    OutWithin A u (execDelayedWarmReset s) := by
  unfold execDelayedWarmReset
  split
  · refine OutWithin.ok ?_
    exact h_s
  · refine OutWithin.whenOk ?_ ?_
    · exact h_s
    · refine stepThree_within (Sub.trans (by decide) hM) ?_
      refine warmReset_within (Sub.trans (by decide) hM) ?_
      exact h_s

theorem execWatchdogExpiry_within {A : Nat} {u : State} {c : Fin 4} {s : State} (hM : Sub 0x1FFFFFFFFFFFFFFFFFFFFFFFFFFFFFFFF A) (h_s :
    Within A u s) :
    OutWithin A u (execWatchdogExpiry c s) := by
  unfold execWatchdogExpiry
  extract_lets -merge -useContext +onlyGivenNames t_0
  have ht_0 : Within A u t_0 := by
    refine raise_within (Sub.trans (by decide) hM) ?_
    refine set_within _ (inMask (CORE_STAT_WD_LEFT_win _) (Sub.bit hM (by decide))) ?_
    exact h_s
  refine OutWithin.whenOk ?_ ?_
  · exact h_s
  · refine Within.ite ?_ ?_
    · refine askWarm_within (Sub.trans (by decide) hM) ?_
      exact ht_0
    · refine coreReset_within (Sub.trans (by decide) hM) ?_
      exact ht_0

theorem execCoreReset_within {A : Nat} {u : State} {a : Agent} {key mask : Nat} {s : State} (hM : Sub 0x1FFFFFFFFFFFFFFFFFFFFFFFFFFFFFFFF
    A) (h_s : Within A u s) :
    OutWithin A u (execCoreReset a key mask s) := by
  unfold execCoreReset
  refine OutWithin.ok ?_
  refine answered_within (Sub.trans (by decide) hM) ?_
  refine wrRstCtl_within (Sub.trans (by decide) hM) ?_
  exact h_s

end Sys2Proof.Machine
end

