-- ==== Sys2Proof/Laws/WithinView.lean ====
section
/-! SUPPORT. What each operation of Machine/View.lean can reach (see Laws/Within.lean). -/
set_option Elab.async false
namespace Sys2Proof.Machine

theorem findReg_mem {addr : Nat} {r : RegDesc} {i j : Nat} (h : findReg addr = some (r, i, j)) : r ∈ regMap := by
  unfold findReg at h
  obtain ⟨x, hx, e⟩ := List.exists_of_findSome?_eq_some h
  by_cases h : addr < x.base
  · rw [if_pos h] at e
    exact nomatch e
  · rw [if_neg h] at e
    dsimp only at e
    rw [Option.ite_none_right_eq_some] at e
    obtain ⟨rfl, -⟩ := Prod.mk.inj (Option.some.inj e.2)
    exact hx

theorem regReadEffect_within {A : Nat} {u : State} {r : RegName} {l : List (Acc × Fld)} {s : State} (hM : Sub 0x800 A) (h_l : ∀ p ∈ l,
    InMask A p.2) (h_s : Within A u s) :
    Within A u (regReadEffect r l s) := by
  unfold regReadEffect
  split
  · refine popErrlog_within (Sub.trans (by decide) hM) ?_
    exact h_s
  · refine clearRc_within (Sub.trans (by decide) hM) h_l ?_
    exact h_s

theorem regReadAt_within {A : Nat} {u : State} {a : Agent} {addr width : Nat} {peek : Bool} {s : State} (hM : Sub
    0xFFFFFFFFFFFFFFFFFFFFFFFE00000800 A) (h_s : Within A u s) :
    Within A u (regReadAt a addr width peek s).2.2 := by
  unfold regReadAt
  split
  · refine Within.snd2 ?_
    exact h_s
  · refine Within.ite2 ?_ ?_
    · refine Within.snd2 ?_
      exact h_s
    · refine Within.ite2 ?_ ?_
      · refine Within.snd2 ?_
        exact h_s
      · extract_lets -merge -useContext +onlyGivenNames l_0
        have h_l_0 : ∀ p ∈ l_0, InMask A p.2 := regMap_in (Sub.trans (by decide) hM) (findReg_mem (by assumption)) _ _
        refine Within.snd2 ?_
        refine Within.ite ?_ ?_
        · exact h_s
        · refine regReadEffect_within (Sub.trans (by decide) hM) h_l_0 ?_
          exact h_s

end Sys2Proof.Machine
end

