-- ==== Sys2Proof/Laws/WithinBus.lean ====
section
/-! SUPPORT. What each operation of Machine/Bus.lean can reach (see Laws/Within.lean). -/
set_option Elab.async false
namespace Sys2Proof.Machine

theorem windowReadIn_within {A : Nat} {u : State} {a : Agent} {addr width : Nat} {peek : Bool} {s : State} (hM : Sub
    0xFFFFFFFFFFFFFFFFFFFFFFFE00000801 A) (h_s : Within A u s) :
    Within A u (windowReadIn a addr width peek s).2.2 := by
  unfold windowReadIn
  split
  · refine Within.ite2 ?_ ?_
    · refine Within.snd2 ?_
      exact h_s
    · extract_lets -merge -useContext +onlyGivenNames t_0
      have ht_0 : Within A u t_0 := by
        refine scHostRead_within (Sub.trans (by decide) hM) ?_
        exact h_s
      refine Within.snd2 ?_
      refine Within.resp_ (Sub.bit hM (by decide)) ?_
      exact ht_0
  · refine regReadAt_within (Sub.trans (by decide) hM) ?_
    exact h_s

theorem roWrite_within {A : Nat} {u : State} {may : Bool} {s : State} (_ : Sub 0x0 A) (h_s : Within A u s) :
    Within A u (roWrite may s).2 := by
  unfold roWrite
  refine Within.snd1 ?_
  exact h_s

theorem writeControl_within {A : Nat} {u : State} {a : Agent} {r : RegName} {i j v width : Nat} {l : List (Acc × Fld)} {s : State} (hM :
    Sub 0xBE7BFFC837BD7FE3F8B3640007DFFF7D A) (h_l : ∀ p ∈ l, InMask A p.2) (h_s : Within A u s) :
    Within A u (writeControl a r i j v width l s).2 := by
  unfold writeControl
  split
  · refine wrWdCtl_within (Sub.trans (by decide) hM) ?_
    exact h_s
  · refine wrWdKick_within (Sub.trans (by decide) hM) ?_
    exact h_s
  · refine wrLockCtl_within (Sub.trans (by decide) hM) ?_
    exact h_s
  · refine Within.snd1 ?_
    exact h_s
  · refine Within.snd1 ?_
    exact h_s
  · refine Within.snd1 ?_
    exact h_s
  · refine wrMbxData_within (Sub.trans (by decide) hM) ?_
    exact h_s
  · refine wrMbxCtl_within (Sub.trans (by decide) hM) ?_
    exact h_s
  · refine wrCrcCfg_within (Sub.trans (by decide) hM) ?_
    exact h_s
  · refine Within.snd1 ?_
    refine writeFlds_within (Sub.trans (by decide) hM) h_l ?_
    exact h_s
  · refine wrCrcFold_within (Sub.trans (by decide) hM) ?_
    exact h_s
  · refine wrCrcData_within (Sub.trans (by decide) hM) ?_
    exact h_s
  · refine wrCrcData_within (Sub.trans (by decide) hM) ?_
    exact h_s
  · refine wrCrcData_within (Sub.trans (by decide) hM) ?_
    exact h_s
  · refine wrSpOwn_within (Sub.trans (by decide) hM) ?_
    exact h_s
  · refine wrSpEccCtl_within (Sub.trans (by decide) hM) ?_
    exact h_s
  · refine wrSpMarch_within (Sub.trans (by decide) hM) ?_
    exact h_s
  · refine wrSpPass_within (Sub.trans (by decide) hM) ?_
    exact h_s
  · refine wrPatchAddr_within (Sub.trans (by decide) hM) ?_
    exact h_s
  · refine wrPatchData_within (Sub.trans (by decide) hM) ?_
    exact h_s
  · refine wrPatchLock_within (Sub.trans (by decide) hM) ?_
    exact h_s
  · refine wrClusterPlain_within (Sub.trans (by decide) hM) h_l ?_
    exact h_s
  · refine wrClusterPlain_within (Sub.trans (by decide) hM) h_l ?_
    exact h_s
  · refine wrClusterPlain_within (Sub.trans (by decide) hM) h_l ?_
    exact h_s
  · refine wrClusterPlain_within (Sub.trans (by decide) hM) h_l ?_
    exact h_s
  · refine wrClusterPlain_within (Sub.trans (by decide) hM) h_l ?_
    exact h_s
  · refine wrClusterPlain_within (Sub.trans (by decide) hM) h_l ?_
    exact h_s
  · refine wrClusterPlain_within (Sub.trans (by decide) hM) h_l ?_
    exact h_s
  · refine wrClusterPlain_within (Sub.trans (by decide) hM) h_l ?_
    exact h_s
  · refine wrClusterPlain_within (Sub.trans (by decide) hM) h_l ?_
    exact h_s
  · refine wrSecTamper_within (Sub.trans (by decide) hM) ?_
    exact h_s
  · refine wrAlmCtl_within (Sub.trans (by decide) hM) ?_
    exact h_s
  · refine wrAudBody_within (Sub.trans (by decide) hM) ?_
    exact h_s
  · refine wrAudGo_within (Sub.trans (by decide) hM) ?_
    exact h_s
  · refine wrAttCtl_within (Sub.trans (by decide) hM) ?_
    exact h_s
  · refine roWrite_within (Sub.trans (by decide) hM) ?_
    exact h_s
  · refine roWrite_within (Sub.trans (by decide) hM) ?_
    exact h_s
  · refine roWrite_within (Sub.trans (by decide) hM) ?_
    exact h_s
  · refine roWrite_within (Sub.trans (by decide) hM) ?_
    exact h_s
  · refine wrDbgAuth_within (Sub.trans (by decide) hM) ?_
    exact h_s
  · refine Within.ite1 ?_ ?_
    · refine Within.snd1 ?_
      refine writeFlds_within (Sub.trans (by decide) hM) h_l ?_
      exact h_s
    · refine Within.snd1 ?_
      exact h_s
  · refine wrDbgCtl_within (Sub.trans (by decide) hM) ?_
    exact h_s
  · refine wrDbgRun_within (Sub.trans (by decide) hM) ?_
    exact h_s
  · refine wrDbgFreeze_within (Sub.trans (by decide) hM) ?_
    exact h_s
  · refine wrDbgTrcCtl_within (Sub.trans (by decide) hM) ?_
    exact h_s
  · refine wrDbgCreg_within (Sub.trans (by decide) hM) ?_
    exact h_s
  · refine wrDbgCsrSel_within (Sub.trans (by decide) hM) ?_
    exact h_s
  · refine wrDbgCsr_within (Sub.trans (by decide) hM) ?_
    exact h_s
  · refine roWrite_within (Sub.trans (by decide) hM) ?_
    exact h_s
  · extract_lets -merge -useContext +onlyGivenNames x_0
    have hx_0 : Within A u x_0.2 := by
      refine wrStim_within (Sub.trans (by decide) hM) ?_
      exact h_s
    refine Within.snd1 ?_
    exact hx_0
  · refine Within.snd1 ?_
    exact h_s

theorem wrSeqCtlUntimed_within {A : Nat} {u : State} {a : Agent} {q v : Nat} {s : State} (hM : Sub 0x320380060000000A15C A) (h_s : Within
    A u s) :
    Within A u (wrSeqCtlUntimed a q v s).2 := by
  unfold wrSeqCtlUntimed
  extract_lets -merge -useContext +onlyGivenNames r_0 w_1 w_2
  have hr_0 : Within A u r_0.2 := by
    refine wrSeqCtl_within (Sub.trans (by decide) hM) ?_
    exact h_s
  have hw_1 : Within A u w_1 := by
    exact hr_0
  refine Within.ite1 ?_ ?_
  · refine Within.snd1 ?_
    refine Within.clock_ (Sub.bit hM (by decide)) ?_
    exact hw_1
  · exact hr_0

theorem writeSystem_within {A : Nat} {u : State} {a : Agent} {r : RegName} {i j v : Nat} {l : List (Acc × Fld)} {s : State} (hM : Sub
    0x1FFFFFFFFFFFFFFFFFFFFFFFFFFFFFFFF A) (h_l : ∀ p ∈ l, InMask A p.2) (h_s : Within A u s) :
    Within A u (writeSystem a r i j v l s).2 := by
  unfold writeSystem
  split
  · refine wrSysProfile_within (Sub.trans (by decide) hM) ?_
    exact h_s
  · refine wrPwrCtl_within (Sub.trans (by decide) hM) ?_
    exact h_s
  · refine wrSluReq_within (Sub.trans (by decide) hM) ?_
    exact h_s
  · refine sluRelease_within (Sub.trans (by decide) hM) ?_
    exact h_s
  · refine wrElimTrip_within (Sub.trans (by decide) hM) ?_
    exact h_s
  · refine wrElimStat_within (Sub.trans (by decide) hM) ?_
    exact h_s
  · refine wrClkSel_within (Sub.trans (by decide) hM) ?_
    exact h_s
  · refine wrClkFab_within (Sub.trans (by decide) hM) ?_
    exact h_s
  · refine wrClkGate_within (Sub.trans (by decide) hM) ?_
    exact h_s
  · refine wrClkmon_within (Sub.trans (by decide) hM) ?_
    exact h_s
  · refine wrFrmCtl_within (Sub.trans (by decide) hM) ?_
    exact h_s
  · refine wrSlotCtl_within (Sub.trans (by decide) hM) ?_
    exact h_s
  · refine wrSlotShd_within (Sub.trans (by decide) hM) ?_
    exact h_s
  · refine wrRstCtl_within (Sub.trans (by decide) hM) ?_
    exact h_s
  · refine wrFabEccCtl_within (Sub.trans (by decide) hM) ?_
    exact h_s
  · refine wrFabFlip_within (Sub.trans (by decide) hM) ?_
    exact h_s
  · refine wrLdrReq_within (Sub.trans (by decide) hM) ?_
    exact h_s
  · refine wrRegCtl_within (Sub.trans (by decide) hM) ?_
    exact h_s
  · refine wrIsoHold_within (Sub.trans (by decide) hM) ?_
    exact h_s
  · refine wrRillCtl_within (Sub.trans (by decide) hM) ?_
    exact h_s
  · refine Within.snd1 ?_
    refine writeFlds_within (Sub.trans (by decide) hM) h_l ?_
    exact h_s

theorem writeTest_within {A : Nat} {u : State} {a : Agent} {r : RegName} {i j v : Nat} {l : List (Acc × Fld)} {s : State} (hM : Sub
    0x33FF80060000000A55C A) (h_l : ∀ p ∈ l, InMask A p.2) (h_s : Within A u s) :
    Within A u (writeTest a r i j v l s).2 := by
  unfold writeTest
  split
  · refine wrJetBankCtl_within (Sub.trans (by decide) hM) ?_
    exact h_s
  · refine wrJetCfg_within (Sub.trans (by decide) hM) ?_
    exact h_s
  · refine wrJetDrv_within (Sub.trans (by decide) hM) ?_
    exact h_s
  · refine wrJetCmp_within (Sub.trans (by decide) hM) ?_
    exact h_s
  · refine wrJetLoad_within (Sub.trans (by decide) hM) ?_
    exact h_s
  · refine wrJetPmuCtl_within (Sub.trans (by decide) hM) ?_
    exact h_s
  · refine wrJetPmu_within (Sub.trans (by decide) hM) h_l ?_
    exact h_s
  · refine wrJetPmu_within (Sub.trans (by decide) hM) h_l ?_
    exact h_s
  · refine wrJetPmu_within (Sub.trans (by decide) hM) h_l ?_
    exact h_s
  · refine wrJetStat_within (Sub.trans (by decide) hM) ?_
    exact h_s
  · refine wrEtPer_within (Sub.trans (by decide) hM) ?_
    exact h_s
  · refine wrEtBank_within (Sub.trans (by decide) hM) ?_
    exact h_s
  · refine wrEtCommit_within (Sub.trans (by decide) hM) ?_
    exact h_s
  · refine wrEtFix_within (Sub.trans (by decide) hM) ?_
    exact h_s
  · refine wrWeirCtl_within (Sub.trans (by decide) hM) ?_
    exact h_s
  · refine wrWeirLim_within (Sub.trans (by decide) hM) ?_
    exact h_s
  · refine wrCalBanks_within (Sub.trans (by decide) hM) ?_
    exact h_s
  · refine wrCalCtl_within (Sub.trans (by decide) hM) ?_
    exact h_s
  · refine wrWeirChCtl_within (Sub.trans (by decide) hM) ?_
    exact h_s
  · refine wrWeirChStat_within (Sub.trans (by decide) hM) ?_
    exact h_s
  · refine wrSeqCtlUntimed_within (Sub.trans (by decide) hM) ?_
    exact h_s
  · refine wrSeqStartAt_within (Sub.trans (by decide) hM) ?_
    exact h_s
  · refine wrSeqStopped_within (Sub.trans (by decide) hM) h_l ?_
    exact h_s
  · refine wrSeqStopped_within (Sub.trans (by decide) hM) h_l ?_
    exact h_s
  · refine wrSeqSite_within (Sub.trans (by decide) hM) h_l ?_
    exact h_s
  · refine wrSeqSite_within (Sub.trans (by decide) hM) h_l ?_
    exact h_s
  · refine wrSeqStopped_within (Sub.trans (by decide) hM) h_l ?_
    exact h_s
  · refine wrSeqStopped_within (Sub.trans (by decide) hM) h_l ?_
    exact h_s
  · refine wrSeqStopped_within (Sub.trans (by decide) hM) h_l ?_
    exact h_s
  · refine wrSeqStopped_within (Sub.trans (by decide) hM) h_l ?_
    exact h_s
  · refine wrSeqStopped_within (Sub.trans (by decide) hM) h_l ?_
    exact h_s
  · refine wrSeqStopped_within (Sub.trans (by decide) hM) h_l ?_
    exact h_s
  · refine wrSeqStopped_within (Sub.trans (by decide) hM) h_l ?_
    exact h_s
  · refine wrSeqStopped_within (Sub.trans (by decide) hM) h_l ?_
    exact h_s
  · refine Within.ite1 ?_ ?_
    · refine Within.snd1 ?_
      refine writeFlds_within (Sub.trans (by decide) hM) h_l ?_
      exact h_s
    · refine Within.snd1 ?_
      exact h_s

theorem writeCapture_within {A : Nat} {u : State} {a : Agent} {r : RegName} {i v : Nat} {l : List (Acc × Fld)} {s : State} (hM : Sub
    0x40000000007DD40000000000003800C A) (h_l : ∀ p ∈ l, InMask A p.2) (h_s : Within A u s) :
    Within A u (writeCapture a r i v l s).2 := by
  unfold writeCapture
  split
  · refine wrFcEccCtl_within (Sub.trans (by decide) hM) ?_
    exact h_s
  · refine wrFcSeqCtl_within (Sub.trans (by decide) hM) ?_
    exact h_s
  · refine wrFcLogCfg_within (Sub.trans (by decide) hM) ?_
    exact h_s
  · refine wrFcLogPtr_within (Sub.trans (by decide) hM) ?_
    exact h_s
  · refine wrFcSeqStat_within (Sub.trans (by decide) hM) ?_
    exact h_s
  · refine wrMapCtl_within (Sub.trans (by decide) hM) ?_
    exact h_s
  · refine wrMapDesc_within (Sub.trans (by decide) hM) h_l ?_
    exact h_s
  · refine wrMapDesc_within (Sub.trans (by decide) hM) h_l ?_
    exact h_s
  · refine wrMapDesc_within (Sub.trans (by decide) hM) h_l ?_
    exact h_s
  · refine wrRaRingCfg_within (Sub.trans (by decide) hM) ?_
    exact h_s
  · refine wrRaRingPtr_within (Sub.trans (by decide) hM) ?_
    exact h_s
  · refine wrRaDesc_within (Sub.trans (by decide) hM) h_l ?_
    exact h_s
  · refine wrRaDesc_within (Sub.trans (by decide) hM) h_l ?_
    exact h_s
  · refine wrRaDesc_within (Sub.trans (by decide) hM) h_l ?_
    exact h_s
  · refine wrRaDom_within (Sub.trans (by decide) hM) ?_
    exact h_s
  · refine wrScMap_within (Sub.trans (by decide) hM) ?_
    exact h_s
  · refine wrScCtl_within (Sub.trans (by decide) hM) ?_
    exact h_s
  · refine wrScCfg_within (Sub.trans (by decide) hM) ?_
    exact h_s
  · refine wrScHost_within (Sub.trans (by decide) hM) ?_
    exact h_s
  · refine wrScEccCtl_within (Sub.trans (by decide) hM) ?_
    exact h_s
  · refine wrScRingCfg_within (Sub.trans (by decide) hM) ?_
    exact h_s
  · refine wrScRingPtr_within (Sub.trans (by decide) hM) ?_
    exact h_s
  · refine Within.ite1 ?_ ?_
    · refine Within.snd1 ?_
      refine writeFlds_within (Sub.trans (by decide) hM) h_l ?_
      exact h_s
    · refine Within.snd1 ?_
      exact h_s

theorem writeMemory_within {A : Nat} {u : State} {a : Agent} {r : RegName} {i j v : Nat} {l : List (Acc × Fld)} {s : State} (hM : Sub
    0xFEF2A8000018236400088C197C A) (h_l : ∀ p ∈ l, InMask A p.2) (h_s : Within A u s) :
    Within A u (writeMemory a r i j v l s).2 := by
  unfold writeMemory
  split
  · refine wrHbmCfg_within (Sub.trans (by decide) hM) ?_
    exact h_s
  · refine wrHbmAge_within (Sub.trans (by decide) hM) ?_
    exact h_s
  · refine wrHbmEccCtl_within (Sub.trans (by decide) hM) ?_
    exact h_s
  · refine wrHbmPass_within (Sub.trans (by decide) hM) ?_
    exact h_s
  · refine wrHbmPlain_within (Sub.trans (by decide) hM) h_l ?_
    exact h_s
  · refine wrHbmPlain_within (Sub.trans (by decide) hM) h_l ?_
    exact h_s
  · refine wrHbmPlain_within (Sub.trans (by decide) hM) h_l ?_
    exact h_s
  · refine wrHbmPlain_within (Sub.trans (by decide) hM) h_l ?_
    exact h_s
  · refine wrHbmPlain_within (Sub.trans (by decide) hM) h_l ?_
    exact h_s
  · refine wrHbmPlain_within (Sub.trans (by decide) hM) h_l ?_
    exact h_s
  · refine wrHbmPlain_within (Sub.trans (by decide) hM) h_l ?_
    exact h_s
  · refine wrHbmPlain_within (Sub.trans (by decide) hM) h_l ?_
    exact h_s
  · refine wrHbmPlain_within (Sub.trans (by decide) hM) h_l ?_
    exact h_s
  · refine wrEncPass_within (Sub.trans (by decide) hM) ?_
    exact h_s
  · refine wrEncCtl_within (Sub.trans (by decide) hM) ?_
    exact h_s
  · refine wrEncRange_within (Sub.trans (by decide) hM) ?_
    exact h_s
  · refine roWrite_within (Sub.trans (by decide) hM) ?_
    exact h_s
  · refine roWrite_within (Sub.trans (by decide) hM) ?_
    exact h_s
  · refine roWrite_within (Sub.trans (by decide) hM) ?_
    exact h_s
  · refine roWrite_within (Sub.trans (by decide) hM) ?_
    exact h_s
  · refine wrNocCtl_within (Sub.trans (by decide) hM) ?_
    exact h_s
  · refine wrRtrCtl_within (Sub.trans (by decide) hM) ?_
    exact h_s
  · refine wrRtrStat_within (Sub.trans (by decide) hM) ?_
    exact h_s
  · refine wrArbCtl_within (Sub.trans (by decide) hM) ?_
    exact h_s
  · refine wrArbShd_within (Sub.trans (by decide) hM) ?_
    exact h_s
  · refine roWrite_within (Sub.trans (by decide) hM) ?_
    exact h_s
  · refine roWrite_within (Sub.trans (by decide) hM) ?_
    exact h_s
  · refine wrCasCtl_within (Sub.trans (by decide) hM) ?_
    exact h_s
  · refine wrCasSend_within (Sub.trans (by decide) hM) ?_
    exact h_s
  · refine wrCasRxCfg_within (Sub.trans (by decide) hM) ?_
    exact h_s
  · refine wrCasRxPtr_within (Sub.trans (by decide) hM) ?_
    exact h_s
  · refine wrLnkCtl_within (Sub.trans (by decide) hM) ?_
    exact h_s
  · refine wrLnkRange_within (Sub.trans (by decide) hM) ?_
    exact h_s
  · refine wrLnkAsym_within (Sub.trans (by decide) hM) ?_
    exact h_s
  · refine wrLaneCtl_within (Sub.trans (by decide) hM) ?_
    exact h_s
  · refine wrLanesPlain_within (Sub.trans (by decide) hM) h_l ?_
    exact h_s
  · refine wrLanesPlain_within (Sub.trans (by decide) hM) h_l ?_
    exact h_s
  · refine wrLanesPlain_within (Sub.trans (by decide) hM) h_l ?_
    exact h_s
  · refine wrLanesPlain_within (Sub.trans (by decide) hM) h_l ?_
    exact h_s
  · refine wrLanesPlain_within (Sub.trans (by decide) hM) h_l ?_
    exact h_s
  · refine Within.snd1 ?_
    exact h_s

theorem regWrite_within {A : Nat} {u : State} {a : Agent} {r : RegDesc} {i j v width : Nat} {s : State} (hM : Sub
    0x1FFFFFFFFFFFFFFFFFFFFFFFFFFFFFFFF A) (h_r : ∀ p ∈ r.flds i j, InMask A p.2) (h_s : Within A u s) :
    Within A u (regWrite a r i j v width s).2 := by
  unfold regWrite
  extract_lets -merge -useContext +onlyGivenNames l_0
  refine Within.ite1 ?_ ?_
  · refine writeSystem_within (Sub.trans (by decide) hM) h_r ?_
    exact h_s
  · refine Within.ite1 ?_ ?_
    · refine writeTest_within (Sub.trans (by decide) hM) h_r ?_
      exact h_s
    · refine Within.ite1 ?_ ?_
      · refine writeCapture_within (Sub.trans (by decide) hM) h_r ?_
        exact h_s
      · refine Within.ite1 ?_ ?_
        · refine writeMemory_within (Sub.trans (by decide) hM) h_r ?_
          exact h_s
        · refine writeControl_within (Sub.trans (by decide) hM) h_r ?_
          exact h_s

theorem regWriteAt_within {A : Nat} {u : State} {a : Agent} {addr width v : Nat} {s : State} (hM : Sub
    0x1FFFFFFFFFFFFFFFFFFFFFFFFFFFFFFFF A) (h_s : Within A u s) :
    Within A u (regWriteAt a addr width v s).2 := by
  unfold regWriteAt
  split
  · exact Within.snd1 h_s
  · refine Within.ite1 (Within.snd1 h_s) ?_
    exact regWrite_within (Sub.trans (by decide) hM) (regMap_in (Sub.trans (by decide) hM) (findReg_mem (by assumption)) _ _) h_s

theorem windowWriteIn_within {A : Nat} {u : State} {a : Agent} {addr width v : Nat} {s : State} (hM : Sub
    0x1FFFFFFFFFFFFFFFFFFFFFFFFFFFFFFFF A) (h_s : Within A u s) :
    Within A u (windowWriteIn a addr width v s).2 := by
  unfold windowWriteIn
  split
  · refine Within.ite1 ?_ ?_
    · refine Within.snd1 ?_
      exact h_s
    · refine scHostWrite_within (Sub.trans (by decide) hM) ?_
      exact h_s
  · refine regWriteAt_within (Sub.trans (by decide) hM) ?_
    exact h_s

theorem windowWrite_within {A : Nat} {u : State} {a : Agent} {addr width v : Nat} {s : State} (hM : Sub
    0x1FFFFFFFFFFFFFFFFFFFFFFFFFFFFFFFF A) (h_s : Within A u s) :
    Within A u (windowWrite a addr width v s).2 := by
  unfold windowWrite
  split
  · refine Within.snd1 ?_
    exact h_s
  · refine windowWriteIn_within (Sub.trans (by decide) hM) ?_
    exact h_s

theorem execRegisterWrite_within {A : Nat} {u : State} {a : Agent} {addr width value : Nat} {s : State} (hM : Sub
    0x1FFFFFFFFFFFFFFFFFFFFFFFFFFFFFFFF A) (h_s : Within A u s) :
    OutWithin A u (execRegisterWrite a addr width value s) := by
  unfold execRegisterWrite
  split
  · refine OutWithin.ok ?_
    refine answer_within (Sub.trans (by decide) hM) ?_
    refine Within.of_eq (q := (_, _)) (by assumption) ?_
    refine nocReach_within (Sub.trans (by decide) hM) ?_
    exact h_s
  · refine OutWithin.ite ?_ ?_
    · extract_lets -merge -useContext +onlyGivenNames r_0
      have hr_0 : Within A u r_0.2 := by
        refine spWrite_within (Sub.trans (by decide) hM) ?_
        refine Within.of_eq (q := (_, _)) (by assumption) ?_
        refine nocReach_within (Sub.trans (by decide) hM) ?_
        exact h_s
      refine OutWithin.ok ?_
      refine answered_within (Sub.trans (by decide) hM) ?_
      exact hr_0
    · split
      · refine OutWithin.ok ?_
        refine answer_within (Sub.trans (by decide) hM) ?_
        refine Within.of_eq (q := (_, _)) (by assumption) ?_
        refine nocReach_within (Sub.trans (by decide) hM) ?_
        exact h_s
      · refine OutWithin.ite ?_ ?_
        · refine OutWithin.ok ?_
          refine answer_within (Sub.trans (by decide) hM) ?_
          refine Within.of_eq (q := (_, _)) (by assumption) ?_
          refine nocReach_within (Sub.trans (by decide) hM) ?_
          exact h_s
        · refine OutWithin.ite ?_ ?_
          · refine OutWithin.ok ?_
            refine portPresent_within (Sub.trans (by decide) hM) ?_
            refine Within.of_eq (q := (_, _)) (by assumption) ?_
            refine nocReach_within (Sub.trans (by decide) hM) ?_
            exact h_s
          · refine OutWithin.ite ?_ ?_
            · refine OutWithin.ok ?_
              refine windowWrite_within (Sub.trans (by decide) hM) ?_
              refine Within.of_eq (q := (_, _)) (by assumption) ?_
              refine nocReach_within (Sub.trans (by decide) hM) ?_
              exact h_s
            · extract_lets -merge -useContext +onlyGivenNames x_1 wait_2
              have hx_1 : Within A u x_1.2 := by
                refine windowWrite_within (Sub.trans (by decide) hM) ?_
                refine Within.of_eq (q := (_, _)) (by assumption) ?_
                refine nocReach_within (Sub.trans (by decide) hM) ?_
                exact h_s
              refine OutWithin.ok ?_
              refine Within.ite ?_ ?_
              · exact hx_1
              · refine nocTold_within (Sub.trans (by decide) hM) ?_
                refine answered_within (Sub.trans (by decide) hM) ?_
                exact hx_1

end Sys2Proof.Machine
end

