-- ==== Sys2Proof/Laws/WithinObjects.lean ====
section
/-! SUPPORT. What each operation of Machine/Objects.lean can reach (see Laws/Within.lean). -/
set_option Elab.async false
namespace Sys2Proof.Machine

theorem objRestore_within {A : Nat} {u : State} {v : Nat} {s : State} (hM : Sub 0x10000000 A) (h_s : Within A u s) :
    Within A u (objRestore v s).2 := by
  unfold objRestore
  refine Within.ite1 ?_ ?_
  · refine Within.snd1 ?_
    refine Within.field_ (Sub.bit hM (by decide)) ?_
    exact h_s
  · refine Within.snd1 ?_
    exact h_s

theorem setObj_within {A : Nat} {u : State} {d key v : Nat} {s : State} (hM : Sub 0x10000000 A) (h_s : Within A u s) :
    Within A u (setObj d key v s) := by
  unfold setObj
  refine Within.field_ (Sub.bit hM (by decide)) ?_
  exact h_s

theorem objSluice_within {A : Nat} {u : State} {a : Agent} {sess : Option Nat} {v : Nat} {s : State} (hM : Sub 0x24001000003C A) (h_s :
    Within A u s) :
    Within A u (objSluice a sess v s).2 := by
  unfold objSluice
  extract_lets -merge -useContext +onlyGivenNames r_0 w_1 w_2
  have hr_0 : Within A u r_0.2 := by
    refine wrSluReq_within (Sub.trans (by decide) hM) ?_
    exact h_s
  have hw_1 : Within A u w_1 := by
    exact hr_0
  split
  · exact hr_0
  · refine Within.snd1 ?_
    refine Within.field_ (Sub.bit hM (by decide)) ?_
    exact hw_1

theorem regObjWrite_within {A : Nat} {u : State} {a : Agent} {n : RegName} {i j v : Nat} {s : State} (hM : Sub
    0x1FFFFFFFFFFFFFFFFFFFFFFFFFFFFFFFF A) (h_s : Within A u s) :
    Within A u (regObjWrite a n i j v s).2 := by
  unfold regObjWrite
  split
  · exact Within.snd1 h_s
  · split
    · exact Within.snd1 h_s
    · exact regWrite_within (Sub.trans (by decide) hM) (regMap_in (Sub.trans (by decide) hM) (List.mem_of_find?_eq_some (by assumption)) _ _) h_s

theorem fldObjWrite_within {A : Nat} {u : State} {a : Agent} {n : RegName} {lo w i j v : Nat} {s : State} (hM : Sub
    0x1FFFFFFFFFFFFFFFFFFFFFFFFFFFFFFFF A) (h_s : Within A u s) :
    Within A u (fldObjWrite a n lo w i j v s).2 := by
  unfold fldObjWrite
  refine Within.ite1 ?_ ?_
  · refine Within.snd1 ?_
    exact h_s
  · refine regObjWrite_within (Sub.trans (by decide) hM) ?_
    exact h_s

theorem realWrite_within {A : Nat} {u : State} {a : Agent} {n : RegName} {lo k : Nat} {code : Option Nat} {s : State} (hM : Sub
    0x1FFFFFFFFFFFFFFFFFFFFFFFFFFFFFFFF A) (h_s : Within A u s) :
    Within A u (realWrite a n lo k code s).2 := by
  unfold realWrite
  split
  · refine Within.snd1 ?_
    exact h_s
  · refine fldObjWrite_within (Sub.trans (by decide) hM) ?_
    exact h_s

theorem seqCommand_within {A : Nat} {u : State} {a : Agent} {q v : Nat} {s : State} (hM : Sub 0x1FFFFFFFFFFFFFFFFFFFFFFFFFFFFFFFF A) (h_s
    : Within A u s) :
    Within A u (seqCommand a q v s).2 := by
  unfold seqCommand
  extract_lets -merge -useContext +onlyGivenNames w_0
  split
  · refine regObjWrite_within (Sub.trans (by decide) hM) ?_
    exact h_s
  · refine regObjWrite_within (Sub.trans (by decide) hM) ?_
    exact h_s
  · refine regObjWrite_within (Sub.trans (by decide) hM) ?_
    exact h_s
  · refine regObjWrite_within (Sub.trans (by decide) hM) ?_
    exact h_s
  · refine regObjWrite_within (Sub.trans (by decide) hM) ?_
    exact h_s
  · refine Within.snd1 ?_
    exact h_s

theorem partsWrite_within {A : Nat} {u : State} {a : Agent} {parts : List (RegName × Nat × Nat × Nat)} {i : Nat} {b : List Byte} {s :
    State} (hM : Sub 0x1FFFFFFFFFFFFFFFFFFFFFFFFFFFFFFFF A) (h_s : Within A u s) :
    Within A u (partsWrite a parts i b s).2 := by
  unfold partsWrite
  extract_lets -merge -useContext +onlyGivenNames x_0
  have hx_0 : Within A u x_0.2 := by
    refine foldl_within1 ?_ _ _ ?_
    · intro y1 y3 hy2
      beta_reduce
      refine Within.ite1 ?_ ?_
      · refine regObjWrite_within (Sub.trans (by decide) hM) ?_
        exact hy2
      · exact hy2
    · refine Within.snd1 ?_
      exact h_s
  refine Within.snd1 ?_
  refine Within.ite ?_ ?_
  · exact hx_0
  · exact h_s

theorem scCommand_within {A : Nat} {u : State} {a : Agent} {c v : Nat} {s : State} (hM : Sub 0x1FFFFFFFFFFFFFFFFFFFFFFFFFFFFFFFF A) (h_s
    : Within A u s) :
    Within A u (scCommand a c v s).2 := by
  unfold scCommand
  extract_lets -merge -useContext +onlyGivenNames w_0
  split
  · refine regObjWrite_within (Sub.trans (by decide) hM) ?_
    exact h_s
  · refine regObjWrite_within (Sub.trans (by decide) hM) ?_
    exact h_s
  · refine regObjWrite_within (Sub.trans (by decide) hM) ?_
    exact h_s
  · refine Within.snd1 ?_
    exact h_s

theorem boundWrite_within {A : Nat} {u : State} {d key lo hi v : Nat} {s : State} (hM : Sub 0x10000000 A) (h_s : Within A u s) :
    Within A u (boundWrite d key lo hi v s).2 := by
  unfold boundWrite
  refine Within.ite1 ?_ ?_
  · refine Within.snd1 ?_
    exact h_s
  · refine Within.snd1 ?_
    refine setObj_within (Sub.trans (by decide) hM) ?_
    exact h_s

theorem specWrite_within {A : Nat} {u : State} {a : Agent} {sess : Option Nat} {o : ObjSpec} {k m v : Nat} {b : List Byte} {s : State}
    (hM : Sub 0x1FFFFFFFFFFFFFFFFFFFFFFFFFFFFFFFF A) (h_s : Within A u s) :
    Within A u (specWrite a sess o k m v b s).2 := by
  unfold specWrite
  split
  · refine objRestore_within (Sub.trans (by decide) hM) ?_
    exact h_s
  · refine Within.ite1 ?_ ?_
    · refine Within.snd1 ?_
      refine setObj_within (Sub.trans (by decide) hM) ?_
      exact h_s
    · refine Within.snd1 ?_
      exact h_s
  · refine Within.ite1 ?_ ?_
    · refine Within.snd1 ?_
      exact h_s
    · refine wrSysProfile_within (Sub.trans (by decide) hM) ?_
      exact h_s
  · refine objSluice_within (Sub.trans (by decide) hM) ?_
    exact h_s
  · refine sluRelease_within (Sub.trans (by decide) hM) ?_
    exact h_s
  · refine objWarm_within (Sub.trans (by decide) hM) ?_
    exact h_s
  · refine Within.ite1 ?_ ?_
    · refine Within.snd1 ?_
      exact h_s
    · refine Within.snd1 ?_
      refine Within.boot_ (Sub.bit hM (by decide)) ?_
      exact h_s
  · refine realWrite_within (Sub.trans (by decide) hM) ?_
    exact h_s
  · refine realWrite_within (Sub.trans (by decide) hM) ?_
    exact h_s
  · refine realWrite_within (Sub.trans (by decide) hM) ?_
    exact h_s
  · refine realWrite_within (Sub.trans (by decide) hM) ?_
    exact h_s
  · refine realWrite_within (Sub.trans (by decide) hM) ?_
    exact h_s
  · refine realWrite_within (Sub.trans (by decide) hM) ?_
    exact h_s
  · refine regObjWrite_within (Sub.trans (by decide) hM) ?_
    exact h_s
  · refine wrRecordObject_within (Sub.trans (by decide) hM) ?_
    exact h_s
  · refine Within.ite1 ?_ ?_
    · refine Within.snd1 ?_
      exact h_s
    · refine Within.snd1 ?_
      refine Within.edge_ (Sub.bit hM (by decide)) ?_
      exact h_s
  · refine seqCommand_within (Sub.trans (by decide) hM) ?_
    exact h_s
  · refine partsWrite_within (Sub.trans (by decide) hM) ?_
    exact h_s
  · refine partsWrite_within (Sub.trans (by decide) hM) ?_
    exact h_s
  · refine partsWrite_within (Sub.trans (by decide) hM) ?_
    exact h_s
  · refine partsWrite_within (Sub.trans (by decide) hM) ?_
    exact h_s
  · refine scCommand_within (Sub.trans (by decide) hM) ?_
    exact h_s
  · refine Within.ite1 ?_ ?_
    · refine Within.snd1 ?_
      exact h_s
    · refine Within.snd1 ?_
      refine Within.hbm_ (Sub.bit hM (by decide)) ?_
      exact h_s
  · extract_lets -merge -useContext +onlyGivenNames x_0 w_1 w_2
    have hx_0 : Within A u x_0.2.2 := by
      refine hbmObject_within (Sub.trans (by decide) hM) ?_
      exact h_s
    have hw_1 : Within A u w_1 := by
      exact hx_0
    refine Within.snd1 ?_
    refine Within.hbm_ (Sub.bit hM (by decide)) ?_
    exact hw_1
  · split
    · refine operatorSignIn_within (Sub.trans (by decide) hM) ?_
      exact h_s
    · refine Within.snd1 ?_
      exact h_s
  · split
    · refine keySignIn_within (Sub.trans (by decide) hM) ?_
      exact h_s
    · refine Within.snd1 ?_
      exact h_s
  · refine Within.ite1 ?_ ?_
    · refine Within.snd1 ?_
      exact h_s
    · refine Within.snd1 ?_
      split
      · refine endSession_within (Sub.trans (by decide) hM) ?_
        exact h_s
      · exact h_s
  · refine Within.ite1 ?_ ?_
    · refine Within.snd1 ?_
      exact h_s
    · refine Within.snd1 ?_
      refine Within.sec_ (Sub.bit hM (by decide)) ?_
      exact h_s
  · refine Within.snd1 ?_
    refine Within.sec_ (Sub.bit hM (by decide)) ?_
    exact h_s
  · refine objStage_within (Sub.trans (by decide) hM) ?_
    exact h_s
  · refine objCommit_within (Sub.trans (by decide) hM) ?_
    exact h_s
  · refine objLedger_within (Sub.trans (by decide) hM) ?_
    exact h_s
  · refine objLifecycle_within (Sub.trans (by decide) hM) ?_
    exact h_s
  · refine objConsent_within (Sub.trans (by decide) hM) ?_
    exact h_s
  · refine attStart_within (Sub.trans (by decide) hM) ?_
    exact h_s
  · refine boundWrite_within (Sub.trans (by decide) hM) ?_
    exact h_s
  · refine Within.snd1 ?_
    refine setObj_within (Sub.trans (by decide) hM) ?_
    exact h_s
  · refine objLeap_within (Sub.trans (by decide) hM) ?_
    exact h_s
  · refine Within.snd1 ?_
    refine Within.leap_ (Sub.bit hM (by decide)) ?_
    exact h_s
  · refine Within.snd1 ?_
    refine setObj_within (Sub.trans (by decide) hM) ?_
    exact h_s
  · refine Within.snd1 ?_
    refine setObj_within (Sub.trans (by decide) hM) ?_
    exact h_s
  · refine Within.snd1 ?_
    exact h_s

theorem specBytes_within {A : Nat} {u : State} {o : ObjSpec} {k m n : Nat} {sess : Option Nat} {s : State} (hM : Sub
    0x20A00000002000000904180C A) (h_s : Within A u s) :
    Within A u (specBytes o k m n sess s).2.2 := by
  unfold specBytes
  extract_lets -merge -useContext +onlyGivenNames plain_0 pure_1 x_2 w_3 w_4
  have hplain_0 : ∀ y5, Within A u (plain_0 y5).2.2 := by
    intro y5
    unfold plain_0
    refine Within.snd2 ?_
    exact h_s
  have hpure_1 : ∀ y6, Within A u (pure_1 y6).2.2 := by
    intro y6
    unfold pure_1
    refine Within.snd2 ?_
    exact h_s
  have hx_2 : Within A u x_2.2.2 := by
    refine hbmObject_within (Sub.trans (by decide) hM) ?_
    exact h_s
  have hw_3 : Within A u w_3 := by
    exact hx_2
  split
  · apply hplain_0
  · apply hplain_0
  · apply hplain_0
  · apply hplain_0
  · apply hplain_0
  · apply hplain_0
  · apply hplain_0
  · refine Within.ite2 ?_ ?_
    · refine Within.snd2 ?_
      exact h_s
    · apply hplain_0
  · apply hpure_1
  · apply hpure_1
  · apply hpure_1
  · apply hpure_1
  · refine Within.snd2 ?_
    refine Within.hbm_ (Sub.bit hM (by decide)) ?_
    exact hw_3
  · split
    · extract_lets -merge -useContext +onlyGivenNames x_7
      have hx_7 : Within A u x_7.2 := by
        refine newChallenge_within (Sub.trans (by decide) hM) ?_
        exact h_s
      refine Within.snd2 ?_
      exact hx_7
    · apply hplain_0
  · refine Within.ite2 ?_ ?_
    · refine Within.snd2 ?_
      exact h_s
    · split
      · apply hplain_0
      · refine Within.snd2 ?_
        exact h_s
  · apply hplain_0
  · apply hplain_0
  · apply hplain_0
  · apply hplain_0
  · apply hpure_1
  · apply hplain_0
  · split
    · apply hplain_0
    · refine Within.snd2 ?_
      exact h_s
  · split
    · apply hplain_0
    · refine Within.snd2 ?_
      exact h_s
  · apply hplain_0

theorem mapStore_within {A : Nat} {u : State} {a : Agent} {key v : Nat} {s : State} (hM : Sub 0x10000000 A) (h_s : Within A u s) :
    Within A u (mapStore a key v s) := by
  unfold mapStore
  extract_lets -merge -useContext +onlyGivenNames w_0 w_1
  have hw_0 : Within A u w_0 := by
    refine setObj_within (Sub.trans (by decide) hM) ?_
    exact h_s
  refine Within.field_ (Sub.bit hM (by decide)) ?_
  exact hw_0

theorem mapEnable_within {A : Nat} {u : State} {a : Agent} {idx n : Nat} {s : State} (hM : Sub 0x10000000 A) (h_s : Within A u s) :
    Within A u (mapEnable a idx n s).2.2 := by
  unfold mapEnable
  extract_lets -merge -useContext +onlyGivenNames t_0 tx_1
  have ht_0 : Within A u t_0 := by
    refine mapStore_within (Sub.trans (by decide) hM) ?_
    exact h_s
  refine Within.ite2 ?_ ?_
  · refine Within.snd2 ?_
    exact ht_0
  · refine Within.ite2 ?_ ?_
    · refine Within.snd2 ?_
      exact h_s
    · refine Within.ite2 ?_ ?_
      · refine Within.snd2 ?_
        exact h_s
      · refine Within.ite2 ?_ ?_
        · refine Within.snd2 ?_
          exact h_s
        · refine Within.snd2 ?_
          exact ht_0

theorem mapWrite_within {A : Nat} {u : State} {a : Agent} {idx sub v : Nat} {s : State} (hM : Sub 0x10000000 A) (h_s : Within A u s) :
    Within A u (mapWrite a idx sub v s).2.2 := by
  unfold mapWrite
  refine Within.ite2 ?_ ?_
  · refine Within.snd2 ?_
    exact h_s
  · refine Within.ite2 ?_ ?_
    · refine mapEnable_within (Sub.trans (by decide) hM) ?_
      exact h_s
    · refine Within.ite2 ?_ ?_
      · refine Within.snd2 ?_
        exact h_s
      · refine Within.snd2 ?_
        refine mapStore_within (Sub.trans (by decide) hM) ?_
        exact h_s

theorem teleTake_within {A : Nat} {u : State} {frame : Nat} {s : State} (hM : Sub 0x40 A) (h_s : Within A u s) :
    Within A u (teleTake frame s) := by
  unfold teleTake
  refine Within.clock_ (Sub.bit hM (by decide)) ?_
  exact h_s

theorem execTelemetrySnapshot_within {A : Nat} {u : State} {s : State} (hM : Sub 0x40 A) (h_s : Within A u s) :
    OutWithin A u (execTelemetrySnapshot s) := by
  unfold execTelemetrySnapshot
  refine inDuty_within (Sub.trans (by decide) hM) ?_ ?_
  · intro y0 hy1
    beta_reduce
    split
    · refine OutWithin.ok ?_
      refine teleTake_within (Sub.trans (by decide) hM) ?_
      exact hy1
    · refine OutWithin.ok ?_
      exact hy1
  · exact h_s

theorem objEffect_within {A : Nat} {u : State} {a : Agent} {sess : Option Nat} {d : ObjDesc} {k m : Nat} {b : List Byte} {s : State} (hM
    : Sub 0x1FFFFFFFFFFFFFFFFFFFFFFFFFFFFFFFF A) (h_s : Within A u s) :
    Within A u (objEffect a sess d k m b s).2 := by
  unfold objEffect
  extract_lets -merge -useContext +onlyGivenNames v_0 i_1
  refine Within.ite1 ?_ ?_
  · refine Within.snd1 ?_
    exact h_s
  · split
    · refine Within.snd1 ?_
      exact h_s
    · refine regObjWrite_within (Sub.trans (by decide) hM) ?_
      exact h_s
    · refine Within.ite1 ?_ ?_
      · refine Within.ite1 ?_ ?_
        · refine fldObjWrite_within (Sub.trans (by decide) hM) ?_
          exact h_s
        · refine Within.snd1 ?_
          exact h_s
      · refine fldObjWrite_within (Sub.trans (by decide) hM) ?_
        exact h_s
    · refine specWrite_within (Sub.trans (by decide) hM) ?_
      exact h_s

theorem regObjRead_within {A : Nat} {u : State} {n : RegName} {i j : Nat} {s : State} (hM : Sub 0xFFFFFFFFFFFFFFFFFFFFFFFE00000800 A)
    (h_s : Within A u s) :
    Within A u (regObjRead n i j s).2.2 := by
  unfold regObjRead
  split
  · refine Within.snd2 ?_
    exact h_s
  · split
    · refine Within.snd2 ?_
      exact h_s
    · refine Within.snd2 ?_
      refine regReadEffect_within (Sub.trans (by decide) hM) (regMap_in (Sub.trans (by decide) hM) (List.mem_of_find?_eq_some (by assumption)) _ _) ?_
      exact h_s

theorem objRead_within {A : Nat} {u : State} {d : ObjDesc} {k m key : Nat} {sess : Option Nat} {s : State} (hM : Sub
    0xFFFFFFFFFFFFFFFFFFFFFFFE0904180C A) (h_s : Within A u s) :
    Within A u (objRead d k m key sess s).2.2 := by
  unfold objRead
  refine Within.ite2 ?_ ?_
  · refine Within.snd2 ?_
    exact h_s
  · split
    · refine Within.snd2 ?_
      exact h_s
    · extract_lets -merge -useContext +onlyGivenNames y_0
      have hy_0 : Within A u y_0.2.2 := by
        refine regObjRead_within (Sub.trans (by decide) hM) ?_
        exact h_s
      refine Within.snd2 ?_
      exact hy_0
    · extract_lets -merge -useContext +onlyGivenNames y_1
      have hy_1 : Within A u y_1.2.2 := by
        refine regObjRead_within (Sub.trans (by decide) hM) ?_
        exact h_s
      refine Within.snd2 ?_
      exact hy_1
    · split
      · refine Within.snd2 ?_
        exact h_s
      · refine Within.ite2 ?_ ?_
        · refine specBytes_within (Sub.trans (by decide) hM) ?_
          exact h_s
        · refine Within.snd2 ?_
          exact h_s

end Sys2Proof.Machine
end

