-- ==== Sys2Proof/Laws/WithinField.lean ====
section
/-! SUPPORT. What each operation of Machine/Field.lean can reach (see Laws/Within.lean). -/
set_option Elab.async false
namespace Sys2Proof.Machine

theorem foeEnd_within {A : Nat} {u : State} {f : FoeFile} {st : Status} {code n : Nat} {b : List Byte} {s : State} (hM : Sub 0xD A) (h_s
    : Within A u s) :
    Within A u (foeEnd f st code n b s) := by
  unfold foeEnd
  extract_lets -merge -useContext +onlyGivenNames w_0
  have hw_0 : Within A u w_0 := by
    refine raise_within (Sub.trans (by decide) hM) ?_
    exact h_s
  refine Within.resp_ (Sub.bit hM (by decide)) ?_
  exact hw_0

theorem slotErase_within {A : Nat} {u : State} {base size : Nat} {s : State} (hM : Sub 0x200000 A) (h_s : Within A u s) :
    Within A u (slotErase base size s) := by
  unfold slotErase
  refine Within.flash_ (Sub.bit hM (by decide)) ?_
  exact h_s

theorem slotWrite_within {A : Nat} {u : State} {f : FoeFile} {base size kind : Nat} {mark : Option Nat} {b : List Byte} {flashOk : Bool}
    {s : State} (hM : Sub 0x2000000220000D A) (h_s : Within A u s) :
    Within A u (slotWrite f base size kind mark b flashOk s) := by
  unfold slotWrite
  extract_lets -merge -useContext +onlyGivenNames s_0 t_1 c_2 w_3 w_4
  have hs_0 : Within A u s_0 := by
    refine slotErase_within (Sub.trans (by decide) hM) ?_
    exact h_s
  have ht_1 : Within A u t_1 := by
    refine Within.flash_ (Sub.bit hM (by decide)) ?_
    exact hs_0
  have hw_3 : Within A u w_3 := by
    refine setMark_within (Sub.trans (by decide) hM) ?_
    exact ht_1
  refine Within.ite ?_ ?_
  · refine foeEnd_within (Sub.trans (by decide) hM) ?_
    exact hs_0
  · refine Within.ite ?_ ?_
    · refine foeEnd_within (Sub.trans (by decide) hM) ?_
      refine imageRefused_within (Sub.trans (by decide) hM) ?_
      refine slotErase_within (Sub.trans (by decide) hM) ?_
      exact ht_1
    · refine foeEnd_within (Sub.trans (by decide) hM) ?_
      split
      · refine Within.boot_ (Sub.bit hM (by decide)) ?_
        exact hw_3
      · refine setMark_within (Sub.trans (by decide) hM) ?_
        exact ht_1
      · exact ht_1

theorem foeBoot_within {A : Nat} {u : State} {f : FoeFile} {password : Nat} {b : List Byte} {flashOk : Bool} {s : State} (hM : Sub
    0x2000000220000D A) (h_s : Within A u s) :
    Within A u (foeBoot f password b flashOk s) := by
  unfold foeBoot
  split
  · refine Within.ite ?_ ?_
    · refine foeEnd_within (Sub.trans (by decide) hM) ?_
      exact h_s
    · refine slotWrite_within (Sub.trans (by decide) hM) ?_
      exact h_s
  · refine Within.ite ?_ ?_
    · refine foeEnd_within (Sub.trans (by decide) hM) ?_
      exact h_s
    · refine slotWrite_within (Sub.trans (by decide) hM) ?_
      exact h_s
  · refine foeEnd_within (Sub.trans (by decide) hM) ?_
    exact h_s

theorem execFoeBootstrapWrite_within {A : Nat} {u : State} {slotB : Bool} {password : Nat} {data : List Byte} {flashOk : Bool} {s :
    State} (hM : Sub 0x2000000220000D A) (h_s : Within A u s) :
    OutWithin A u (execFoeBootstrapWrite slotB password data flashOk s) := by
  unfold execFoeBootstrapWrite
  refine OutWithin.whenOk ?_ ?_
  · exact h_s
  · refine foeBoot_within (Sub.trans (by decide) hM) ?_
    exact h_s

theorem sdoAnswer_within {A : Nat} {u : State} {st : Status} {b : List Byte} {s : State} (_ : Sub 0x0 A) (h_s : Within A u s) :
    Within A u (sdoAnswer st b s).2 := by
  unfold sdoAnswer
  refine Within.snd1 ?_
  exact h_s

theorem sdoRefuse_within {A : Nat} {u : State} {st : Status} {abort : Nat} {s : State} (_ : Sub 0x0 A) (h_s : Within A u s) :
    Within A u (sdoRefuse st abort s).2 := by
  unfold sdoRefuse
  refine Within.snd1 ?_
  exact h_s

theorem sdoDescribe_within {A : Nat} {u : State} {c idx sub : Nat} {s : State} (hM : Sub 0x0 A) (h_s : Within A u s) :
    Within A u (sdoDescribe c idx sub s).2 := by
  unfold sdoDescribe
  extract_lets -merge -useContext +onlyGivenNames role_0
  split
  · refine sdoRefuse_within (Sub.trans (by decide) hM) ?_
    exact h_s
  · refine sdoAnswer_within (Sub.trans (by decide) hM) ?_
    exact h_s
  · extract_lets -merge -useContext +onlyGivenNames r_1 w_2 x_3
    refine sdoAnswer_within (Sub.trans (by decide) hM) ?_
    exact h_s

theorem sdoRetry_within {A : Nat} {u : State} {s : State} (hM : Sub 0x1 A) (h_s : Within A u s) :
    Within A u (sdoRetry s) := by
  unfold sdoRetry
  refine Within.resp_ (Sub.bit hM (by decide)) ?_
  exact h_s

theorem sdoFinish_within {A : Nat} {u : State} {addr : Nat} {x : SdoAns} (hM : Sub 0x1000001 A) (h_x : Within A u x.2) :
    Within A u (sdoFinish addr x) := by
  unfold sdoFinish
  split
  · exact h_x
  · extract_lets -merge -useContext +onlyGivenNames w_0 s_1 w_2
    have hw_0 : Within A u w_0 := by
      exact h_x
    have hs_1 : Within A u s_1 := by
      refine Within.resp_ (Sub.bit hM (by decide)) ?_
      exact hw_0
    split
    · refine Within.sec_ (Sub.bit hM (by decide)) ?_
      exact hs_1
    · exact hs_1

theorem sdoUpload_within {A : Nat} {u : State} {c idx sub : Nat} {s : State} (hM : Sub 0xFFFFFFFFFFFFFFFFFFFFFFFE0904180C A) (h_s :
    Within A u s) :
    Within A u (sdoUpload c idx sub s).2 := by
  unfold sdoUpload
  split
  · refine sdoRefuse_within (Sub.trans (by decide) hM) ?_
    exact h_s
  · refine sdoAnswer_within (Sub.trans (by decide) hM) ?_
    exact h_s
  · refine Within.ite1 ?_ ?_
    · refine sdoAnswer_within (Sub.trans (by decide) hM) ?_
      exact h_s
    · extract_lets -merge -useContext +onlyGivenNames x_0
      have hx_0 : Within A u x_0.2.2 := by
        refine objRead_within (Sub.trans (by decide) hM) ?_
        exact h_s
      refine sdoAnswer_within (Sub.trans (by decide) hM) ?_
      exact hx_0

theorem auditRefused_within {A : Nat} {u : State} {role key signer : Nat} {d : ObjDesc} {st : Status} {b : List Byte} {s : State} (hM :
    Sub 0x200000000000000000000001400000 A) (h_s : Within A u s) :
    Within A u (auditRefused role key signer d st b s) := by
  unfold auditRefused
  refine Within.ite ?_ ?_
  · refine audAppend_within (Sub.trans (by decide) hM) ?_
    exact h_s
  · exact h_s

theorem modField_within {A : Nat} {u : State} {f : FieldSt → FieldSt} {s : State} (hM : Sub 0x10000000 A) (h_s : Within A u s) :
    Within A u (modField f s) := by
  unfold modField
  refine Within.field_ (Sub.bit hM (by decide)) ?_
  exact h_s

theorem flashStore_within {A : Nat} {u : State} {key : Nat} {b : List Byte} {flashOk : Bool} {s : State} (hM : Sub 0x1000000C A) (h_s :
    Within A u s) :
    Within A u (flashStore key b flashOk s).2 := by
  unfold flashStore
  refine Within.ite1 ?_ ?_
  · refine Within.snd1 ?_
    refine modField_within (Sub.trans (by decide) hM) ?_
    exact h_s
  · refine Within.snd1 ?_
    refine raise_within (Sub.trans (by decide) hM) ?_
    exact h_s

theorem objPersist_within {A : Nat} {u : State} {a : Agent} {sess : Option Nat} {d : ObjDesc} {k m key : Nat} {b : List Byte} {flashOk :
    Bool} {s : State} (hM : Sub 0x1FFFFFFFFFFFFFFFFFFFFFFFFFFFFFFFF A) (h_s : Within A u s) :
    Within A u (objPersist a sess d k m key b flashOk s).2 := by
  unfold objPersist
  extract_lets -merge -useContext +onlyGivenNames now_0 asleep_1 r_2
  have hnow_0 : ∀ y3, Within A u y3 → Within A u (now_0 y3).2 := by
    intro y3 hy4
    refine objEffect_within (Sub.trans (by decide) hM) ?_
    exact hy4
  have hr_2 : Within A u r_2.2 := by
    apply hnow_0
    exact h_s
  refine Within.ite1 ?_ ?_
  · apply hnow_0
    exact h_s
  · refine Within.ite1 ?_ ?_
    · refine Within.ite1 ?_ ?_
      · refine Within.snd1 ?_
        refine raise_within (Sub.trans (by decide) hM) ?_
        exact h_s
      · apply hnow_0
        exact h_s
    · refine Within.ite1 ?_ ?_
      · refine Within.ite1 ?_ ?_
        · refine flashStore_within (Sub.trans (by decide) hM) ?_
          exact h_s
        · refine Within.snd1 ?_
          exact h_s
      · refine Within.ite1 ?_ ?_
        · refine flashStore_within (Sub.trans (by decide) hM) ?_
          exact hr_2
        · exact hr_2

theorem objWrite_within {A : Nat} {u : State} {a : Agent} {sess : Option Nat} {d : ObjDesc} {k m key : Nat} {b : List Byte} {flashOk :
    Bool} {s : State} (hM : Sub 0x1FFFFFFFFFFFFFFFFFFFFFFFFFFFFFFFF A) (h_s : Within A u s) :
    Within A u (objWrite a sess d k m key b flashOk s).2 := by
  unfold objWrite
  extract_lets -merge -useContext +onlyGivenNames role_0 signer_1
  refine Within.ite1 ?_ ?_
  · refine auditWrite_within (Sub.trans (by decide) hM) ?_ ?_
    · intro y2 hy3
      refine objPersist_within (Sub.trans (by decide) hM) ?_
      exact hy3
    · exact h_s
  · refine objPersist_within (Sub.trans (by decide) hM) ?_
    exact h_s

theorem sdoDownload_within {A : Nat} {u : State} {c idx sub : Nat} {b : List Byte} {flashOk : Bool} {s : State} (hM : Sub
    0x1FFFFFFFFFFFFFFFFFFFFFFFFFFFFFFFF A) (h_s : Within A u s) :
    Within A u (sdoDownload c idx sub b flashOk s).2 := by
  unfold sdoDownload
  extract_lets -merge -useContext +onlyGivenNames a_0 x_1 x_2
  have hx_1 : Within A u x_1.2.2 := by
    refine mapWrite_within (Sub.trans (by decide) hM) ?_
    exact h_s
  have hx_2 : Within A u x_2.2.2 := by
    refine mapWrite_within (Sub.trans (by decide) hM) ?_
    exact h_s
  split
  · refine sdoRefuse_within (Sub.trans (by decide) hM) ?_
    exact h_s
  · refine Within.ite1 ?_ ?_
    · refine sdoRefuse_within (Sub.trans (by decide) hM) ?_
      exact h_s
    · refine Within.ite1 ?_ ?_
      · refine sdoAnswer_within (Sub.trans (by decide) hM) ?_
        exact h_s
      · refine Within.ite1 ?_ ?_
        · refine sdoRefuse_within (Sub.trans (by decide) hM) ?_
          exact h_s
        · refine Within.snd1 ?_
          exact hx_1
  · extract_lets -merge -useContext +onlyGivenNames told_3 x_4
    have htold_3 : ∀ y5, Within A u (told_3 y5) := by
      intro y5
      unfold told_3
      refine auditRefused_within (Sub.trans (by decide) hM) ?_
      exact h_s
    have hx_4 : Within A u x_4.2 := by
      refine objWrite_within (Sub.trans (by decide) hM) ?_
      exact h_s
    refine Within.ite1 ?_ ?_
    · refine sdoRefuse_within (Sub.trans (by decide) hM) ?_
      apply htold_3
    · refine Within.ite1 ?_ ?_
      · refine sdoAnswer_within (Sub.trans (by decide) hM) ?_
        apply htold_3
      · refine Within.ite1 ?_ ?_
        · refine sdoRefuse_within (Sub.trans (by decide) hM) ?_
          apply htold_3
        · refine Within.ite1 ?_ ?_
          · refine Within.snd1 ?_
            exact hx_2
          · refine Within.ite1 ?_ ?_
            · refine Within.snd1 ?_
              exact hx_4
            · refine sdoAnswer_within (Sub.trans (by decide) hM) ?_
              exact hx_4

theorem sdoUploadAll_within {A : Nat} {u : State} {c idx : Nat} {s : State} (hM : Sub 0x0 A) (h_s : Within A u s) :
    Within A u (sdoUploadAll c idx s).2 := by
  unfold sdoUploadAll
  refine Within.ite1 ?_ ?_
  · refine sdoRefuse_within (Sub.trans (by decide) hM) ?_
    exact h_s
  · refine Within.ite1 ?_ ?_
    · refine sdoAnswer_within (Sub.trans (by decide) hM) ?_
      exact h_s
    · refine sdoAnswer_within (Sub.trans (by decide) hM) ?_
      exact h_s

theorem sdoDownloadAll_within {A : Nat} {u : State} {c idx : Nat} {b : List Byte} {s : State} (hM : Sub 0x10000000 A) (h_s : Within A u s) :
    Within A u (sdoDownloadAll c idx b s).2 := by
  unfold sdoDownloadAll
  extract_lets -merge -useContext +onlyGivenNames a_0 n_1 z_2 x_3 y_4
  have hx_3 : Within A u x_3.2.2 := by
    refine foldl_within2 ?_ _ _ ?_
    · intro y5 y7 hy6
      beta_reduce
      refine Within.ite2 ?_ ?_
      · refine mapWrite_within (Sub.trans (by decide) hM) ?_
        exact hy6
      · exact hy6
    · refine Within.snd2 ?_
      exact h_s
  have hy_4 : Within A u y_4.2.2 := by
    refine Within.ite2 ?_ ?_
    · refine Within.snd2 ?_
      exact h_s
    · refine Within.ite2 ?_ ?_
      · refine mapWrite_within (Sub.trans (by decide) hM) ?_
        exact hx_3
      · exact hx_3
  refine Within.ite1 ?_ ?_
  · refine sdoRefuse_within (Sub.trans (by decide) hM) ?_
    exact h_s
  · refine Within.ite1 ?_ ?_
    · refine sdoAnswer_within (Sub.trans (by decide) hM) ?_
      exact h_s
    · refine Within.ite1 ?_ ?_
      · refine sdoRefuse_within (Sub.trans (by decide) hM) ?_
        exact h_s
      · refine Within.snd1 ?_
        refine Within.ite ?_ ?_
        · exact hy_4
        · exact h_s

theorem sdoServe_within {A : Nat} {u : State} {q : SdoReq} {s : State} (hM : Sub 0x1FFFFFFFFFFFFFFFFFFFFFFFFFFFFFFFF A) (h_s : Within A u
    s) :
    Within A u (sdoServe q s) := by
  unfold sdoServe
  split
  · refine sdoRetry_within (Sub.trans (by decide) hM) ?_
    refine Within.of_eq (q := (_, _)) (by assumption) ?_
    refine openSession_within (Sub.trans (by decide) hM) ?_
    exact h_s
  · refine sdoFinish_within (Sub.trans (by decide) hM) ?_
    split
    · refine sdoUpload_within (Sub.trans (by decide) hM) ?_
      refine Within.of_eq (q := (_, _)) (by assumption) ?_
      refine openSession_within (Sub.trans (by decide) hM) ?_
      exact h_s
    · refine sdoDownload_within (Sub.trans (by decide) hM) ?_
      refine Within.of_eq (q := (_, _)) (by assumption) ?_
      refine openSession_within (Sub.trans (by decide) hM) ?_
      exact h_s
    · refine sdoUploadAll_within (Sub.trans (by decide) hM) ?_
      refine Within.of_eq (q := (_, _)) (by assumption) ?_
      refine openSession_within (Sub.trans (by decide) hM) ?_
      exact h_s
    · refine sdoDownloadAll_within (Sub.trans (by decide) hM) ?_
      refine Within.of_eq (q := (_, _)) (by assumption) ?_
      refine openSession_within (Sub.trans (by decide) hM) ?_
      exact h_s
    · refine sdoDescribe_within (Sub.trans (by decide) hM) ?_
      refine Within.of_eq (q := (_, _)) (by assumption) ?_
      refine openSession_within (Sub.trans (by decide) hM) ?_
      exact h_s

theorem sdoServeAll_within {A : Nat} {u : State} {s : State} (hM : Sub 0x1FFFFFFFFFFFFFFFFFFFFFFFFFFFFFFFF A) (h_s : Within A u s) :
    Within A u (sdoServeAll s) := by
  unfold sdoServeAll
  refine Within.ite ?_ ?_
  · exact h_s
  · refine forEach_within ?_ _ ?_
    · intro y0 y1 hy2
      beta_reduce
      refine sdoServe_within (Sub.trans (by decide) hM) ?_
      refine modField_within (Sub.trans (by decide) hM) ?_
      exact hy2
    · exact h_s

theorem sdoArrive_within {A : Nat} {u : State} {addr : Nat} {req : Sdo} {flashOk : Bool} {s : State} (hM : Sub
    0x1FFFFFFFFFFFFFFFFFFFFFFFFFFFFFFFF A) (h_s : Within A u s) :
    Within A u (sdoArrive addr req flashOk s) := by
  unfold sdoArrive
  refine Within.ite ?_ ?_
  · exact h_s
  · split
    · refine sdoRetry_within (Sub.trans (by decide) hM) ?_
      refine Within.of_eq (q := (_, _)) (by assumption) ?_
      refine openSession_within (Sub.trans (by decide) hM) ?_
      exact h_s
    · refine Within.ite ?_ ?_
      · extract_lets -merge -useContext +onlyGivenNames u_0 w_1
        have hu_0 : Within A u u_0 := by
          refine raise_within (Sub.trans (by decide) hM) ?_
          refine State.count_within (Sub.trans (by decide) hM) (inMask (FI_SDO_RETRIED_win) (Sub.bit hM (by decide))) ?_
          refine Within.of_eq (q := (_, _)) (by assumption) ?_
          refine openSession_within (Sub.trans (by decide) hM) ?_
          exact h_s
        refine sdoRetry_within (Sub.trans (by decide) hM) ?_
        refine Within.sec_ (Sub.bit hM (by decide)) ?_
        exact hu_0
      · refine sdoServeAll_within (Sub.trans (by decide) hM) ?_
        refine modField_within (Sub.trans (by decide) hM) ?_
        refine Within.of_eq (q := (_, _)) (by assumption) ?_
        refine openSession_within (Sub.trans (by decide) hM) ?_
        exact h_s

theorem execKeySignIn_within {A : Nat} {u : State} {addr : Nat} {response : List Byte} {s : State} (hM : Sub
    0x1FFFFFFFFFFFFFFFFFFFFFFFFFFFFFFFF A) (h_s : Within A u s) :
    OutWithin A u (execKeySignIn addr response s) := by
  unfold execKeySignIn
  refine OutWithin.ok ?_
  refine sdoArrive_within (Sub.trans (by decide) hM) ?_
  exact h_s

theorem execEcatPortLink_within {A : Nat} {u : State} {port : Fin 2} {up : Bool} {s : State} (hM : Sub 0x800000000000000000000000000000
    A) (h_s : Within A u s) :
    OutWithin A u (execEcatPortLink port up s) := by
  unfold execEcatPortLink
  refine OutWithin.ok ?_
  refine set_within _ (InMask.ite (inMask (FI_STAT_LINK0_win) (Sub.bit hM (by decide))) (inMask (FI_STAT_LINK1_win) (Sub.bit hM (by decide)))) ?_
  exact h_s

theorem execSignOut_within {A : Nat} {u : State} {addr : Nat} {s : State} (hM : Sub 0x1FFFFFFFFFFFFFFFFFFFFFFFFFFFFFFFF A) (h_s : Within
    A u s) :
    OutWithin A u (execSignOut addr s) := by
  unfold execSignOut
  refine OutWithin.ok ?_
  refine sdoArrive_within (Sub.trans (by decide) hM) ?_
  exact h_s

theorem alEnter_within {A : Nat} {u : State} {x : Nat} {s : State} (hM : Sub 0x180000000000000000000001100000C A) (h_s : Within A u s) :
    Within A u (alEnter x s) := by
  unfold alEnter
  extract_lets -merge -useContext +onlyGivenNames s_0
  have hs_0 : Within A u s_0 := by
    refine set_within _ (inMask (FI_STAT_AL_STATE_win) (Sub.bit hM (by decide))) ?_
    exact h_s
  refine Within.ite ?_ ?_
  · refine modField_within (Sub.trans (by decide) hM) ?_
    refine forNat_within ?_ _ ?_
    · intro y1 y2 hy3
      refine endSession_within (Sub.trans (by decide) hM) ?_
      exact hy3
    · exact hs_0
  · refine Within.ite ?_ ?_
    · refine modField_within (Sub.trans (by decide) hM) ?_
      exact hs_0
    · refine Within.ite ?_ ?_
      · refine modField_within (Sub.trans (by decide) hM) ?_
        exact hs_0
      · exact hs_0

theorem execSessionIdleTimeout_within {A : Nat} {u : State} {addr : Nat} {s : State} (hM : Sub 0x100000000000000000000000100000C A) (h_s
    : Within A u s) :
    OutWithin A u (execSessionIdleTimeout addr s) := by
  unfold execSessionIdleTimeout
  refine OutWithin.ok ?_
  split
  · refine endSession_within (Sub.trans (by decide) hM) ?_
    exact h_s
  · exact h_s

theorem applySaved_within {A : Nat} {u : State} {p : Option Nat → Bool} {s : State} (hM : Sub 0x1FFFFFFFFFFFFFFFFFFFFFFFFFFFFFFFF A) (h_s
    : Within A u s) :
    Within A u (applySaved p s) := by
  unfold applySaved
  refine forEach_within ?_ _ ?_
  · intro y0 y1 hy2
    beta_reduce
    split
    · refine Within.ite ?_ ?_
      · refine objEffect_within (Sub.trans (by decide) hM) ?_
        exact hy2
      · exact hy2
    · exact hy2
  · exact h_s

theorem execChallenge_within {A : Nat} {u : State} {addr : Nat} {s : State} (hM : Sub 0x1FFFFFFFFFFFFFFFFFFFFFFFFFFFFFFFF A) (h_s :
    Within A u s) :
    OutWithin A u (execChallenge addr s) := by
  unfold execChallenge
  refine OutWithin.ok ?_
  refine sdoArrive_within (Sub.trans (by decide) hM) ?_
  exact h_s

theorem execSmWatchdogExpiry_within {A : Nat} {u : State} {s : State} (hM : Sub 0x180000000000000000000001100000C A) (h_s : Within A u s) :
    OutWithin A u (execSmWatchdogExpiry s) := by
  unfold execSmWatchdogExpiry
  refine OutWithin.whenOk ?_ ?_
  · exact h_s
  · refine raise_within (Sub.trans (by decide) hM) ?_
    refine set_within _ (inMask (FI_STAT_AL_CODE_win) (Sub.bit hM (by decide))) ?_
    refine alEnter_within (Sub.trans (by decide) hM) ?_
    exact h_s

theorem foeFail_within {A : Nat} {u : State} {f : FoeFile} {st : Status} {n : Nat} {s : State} (hM : Sub 0xD A) (h_s : Within A u s) :
    Within A u (foeFail f st n s) := by
  unfold foeFail
  refine foeEnd_within (Sub.trans (by decide) hM) ?_
  exact h_s

theorem foeRead_within {A : Nat} {u : State} {f : FoeFile} {s : State} (hM : Sub 0x20A00000002000000804180D A) (h_s : Within A u s) :
    Within A u (foeRead f s) := by
  unfold foeRead
  split
  · refine Within.ite ?_ ?_
    · refine foeEnd_within (Sub.trans (by decide) hM) ?_
      exact h_s
    · extract_lets -merge -useContext +onlyGivenNames x_0
      have hx_0 : Within A u x_0.2.2 := by
        refine nocLoad_within (Sub.trans (by decide) hM) ?_
        exact h_s
      refine Within.ite ?_ ?_
      · refine foeEnd_within (Sub.trans (by decide) hM) ?_
        exact hx_0
      · refine foeFail_within (Sub.trans (by decide) hM) ?_
        exact hx_0
  · extract_lets -merge -useContext +onlyGivenNames b_1
    refine foeEnd_within (Sub.trans (by decide) hM) ?_
    exact h_s
  · refine Within.ite ?_ ?_
    · refine foeFail_within (Sub.trans (by decide) hM) ?_
      exact h_s
    · extract_lets -merge -useContext +onlyGivenNames b_2
      refine foeEnd_within (Sub.trans (by decide) hM) ?_
      exact h_s
  · refine foeEnd_within (Sub.trans (by decide) hM) ?_
    exact h_s

theorem execSdoRequest_within {A : Nat} {u : State} {addr : Nat} {req : Sdo} {flashOk : Bool} {s : State} (hM : Sub
    0x1FFFFFFFFFFFFFFFFFFFFFFFFFFFFFFFF A) (h_s : Within A u s) :
    OutWithin A u (execSdoRequest addr req flashOk s) := by
  unfold execSdoRequest
  refine OutWithin.ok ?_
  refine sdoArrive_within (Sub.trans (by decide) hM) ?_
  exact h_s

theorem foeHbmWrite_within {A : Nat} {u : State} {addr : Nat} {b : List Byte} {s : State} (hM : Sub 0x20A00000002000000804180C A) (h_s :
    Within A u s) :
    Within A u (foeHbmWrite addr b s).2 := by
  unfold foeHbmWrite
  extract_lets -merge -useContext +onlyGivenNames n_0 r_1 x_2
  have hx_2 : Within A u x_2.2 := by
    refine nocSave_within (Sub.trans (by decide) hM) ?_
    exact h_s
  refine Within.ite1 ?_ ?_
  · exact hx_2
  · refine Within.ite1 ?_ ?_
    · refine Within.snd1 ?_
      exact hx_2
    · split
      · refine Within.snd1 ?_
        exact hx_2
      · refine hbmPutLine_within (Sub.trans (by decide) hM) ?_
        exact hx_2

theorem foeScWrite_within {A : Nat} {u : State} {a : Agent} {c : Nat} {b : List Byte} {s : State} (hM : Sub 0x20000 A) (h_s : Within A u
    s) :
    Within A u (foeScWrite a c b s).2 := by
  unfold foeScWrite
  refine foldl_within1 ?_ _ _ ?_
  · intro y0 y2 hy1
    beta_reduce
    refine Within.ite1 ?_ ?_
    · refine scHostWrite_within (Sub.trans (by decide) hM) ?_
      exact hy1
    · exact hy1
  · refine Within.snd1 ?_
    exact h_s

theorem foeWrite_within {A : Nat} {u : State} {a : Agent} {f : FoeFile} {b : List Byte} {flashOk : Bool} {s : State} (hM : Sub
    0x20A00000002000000A26180D A) (h_s : Within A u s) :
    Within A u (foeWrite a f b flashOk s) := by
  unfold foeWrite
  split
  · refine Within.ite ?_ ?_
    · refine foeEnd_within (Sub.trans (by decide) hM) ?_
      exact h_s
    · extract_lets -merge -useContext +onlyGivenNames x_0
      have hx_0 : Within A u x_0.2 := by
        refine foeHbmWrite_within (Sub.trans (by decide) hM) ?_
        exact h_s
      refine Within.ite ?_ ?_
      · refine foeFail_within (Sub.trans (by decide) hM) ?_
        exact hx_0
      · refine Within.ite ?_ ?_
        · refine foeEnd_within (Sub.trans (by decide) hM) ?_
          exact hx_0
        · refine foeEnd_within (Sub.trans (by decide) hM) ?_
          exact hx_0
  · refine Within.ite ?_ ?_
    · refine foeEnd_within (Sub.trans (by decide) hM) ?_
      exact h_s
    · split
      · refine foeFail_within (Sub.trans (by decide) hM) ?_
        exact h_s
      · refine Within.ite ?_ ?_
        · refine foeEnd_within (Sub.trans (by decide) hM) ?_
          exact h_s
        · extract_lets -merge -useContext +onlyGivenNames x_1
          have hx_1 : Within A u x_1.2 := by
            refine foeScWrite_within (Sub.trans (by decide) hM) ?_
            exact h_s
          refine Within.ite ?_ ?_
          · refine foeEnd_within (Sub.trans (by decide) hM) ?_
            exact hx_1
          · refine foeFail_within (Sub.trans (by decide) hM) ?_
            exact hx_1
  · split
    · refine Within.ite ?_ ?_
      · refine foeEnd_within (Sub.trans (by decide) hM) ?_
        exact h_s
      · refine slotWrite_within (Sub.trans (by decide) hM) ?_
        exact h_s
    · refine foeEnd_within (Sub.trans (by decide) hM) ?_
      exact h_s

theorem foeServe_within {A : Nat} {u : State} {q : FoeReq} {s : State} (hM : Sub 0x180000020A00000002000000A26180D A) (h_s : Within A u s) :
    Within A u (foeServe q s) := by
  unfold foeServe
  split
  · refine Within.resp_ (Sub.bit hM (by decide)) ?_
    refine Within.of_eq (q := (_, _)) (by assumption) ?_
    refine openSession_within (Sub.trans (by decide) hM) ?_
    exact h_s
  · extract_lets -merge -useContext +onlyGivenNames a_0
    refine Within.ite ?_ ?_
    · refine foeEnd_within (Sub.trans (by decide) hM) ?_
      refine Within.of_eq (q := (_, _)) (by assumption) ?_
      refine openSession_within (Sub.trans (by decide) hM) ?_
      exact h_s
    · refine Within.ite ?_ ?_
      · refine foeEnd_within (Sub.trans (by decide) hM) ?_
        refine Within.of_eq (q := (_, _)) (by assumption) ?_
        refine openSession_within (Sub.trans (by decide) hM) ?_
        exact h_s
      · split
        · refine foeWrite_within (Sub.trans (by decide) hM) ?_
          refine Within.of_eq (q := (_, _)) (by assumption) ?_
          refine openSession_within (Sub.trans (by decide) hM) ?_
          exact h_s
        · refine foeRead_within (Sub.trans (by decide) hM) ?_
          refine Within.of_eq (q := (_, _)) (by assumption) ?_
          refine openSession_within (Sub.trans (by decide) hM) ?_
          exact h_s

theorem foeServeAll_within {A : Nat} {u : State} {s : State} (hM : Sub 0x180000020A00000002000001A26180D A) (h_s : Within A u s) :
    Within A u (foeServeAll s) := by
  unfold foeServeAll
  refine Within.ite ?_ ?_
  · exact h_s
  · refine forEach_within ?_ _ ?_
    · intro y0 y1 hy2
      beta_reduce
      refine foeServe_within (Sub.trans (by decide) hM) ?_
      refine modField_within (Sub.trans (by decide) hM) ?_
      exact hy2
    · exact h_s

theorem foeArrive_within {A : Nat} {u : State} {q : FoeReq} {s : State} (hM : Sub 0x180000020A00000002000001A26180D A) (h_s : Within A u
    s) :
    Within A u (foeArrive q s) := by
  unfold foeArrive
  refine Within.ite ?_ ?_
  · exact h_s
  · refine foeServeAll_within (Sub.trans (by decide) hM) ?_
    refine modField_within (Sub.trans (by decide) hM) ?_
    exact h_s

theorem execFoeWrite_within {A : Nat} {u : State} {addr : Nat} {file : FoeFile} {password : Nat} {data : List Byte} {flashOk : Bool} {s :
    State} (hM : Sub 0x180000020A00000002000001A26180D A) (h_s : Within A u s) :
    OutWithin A u (execFoeWrite addr file password data flashOk s) := by
  unfold execFoeWrite
  refine OutWithin.ok ?_
  refine Within.ite ?_ ?_
  · refine foeBoot_within (Sub.trans (by decide) hM) ?_
    exact h_s
  · refine foeArrive_within (Sub.trans (by decide) hM) ?_
    exact h_s

theorem execTxpdoPublish_within {A : Nat} {u : State} {s : State} (hM : Sub 0x10000040 A) (h_s : Within A u s) :
    OutWithin A u (execTxpdoPublish s) := by
  unfold execTxpdoPublish
  refine inDuty_within (Sub.trans (by decide) hM) ?_ ?_
  · intro y0 hy1
    beta_reduce
    refine OutWithin.whenOk ?_ ?_
    · exact hy1
    · extract_lets -merge -useContext +onlyGivenNames w_2 w_3
      have hw_2 : Within A u w_2 := by
        refine modField_within (Sub.trans (by decide) hM) ?_
        exact hy1
      refine Within.clock_ (Sub.bit hM (by decide)) ?_
      exact hw_2
  · exact h_s

theorem execOperatorSignIn_within {A : Nat} {u : State} {addr : Nat} {password : List Byte} {s : State} (hM : Sub
    0x1FFFFFFFFFFFFFFFFFFFFFFFFFFFFFFFF A) (h_s : Within A u s) :
    OutWithin A u (execOperatorSignIn addr password s) := by
  unfold execOperatorSignIn
  refine OutWithin.ok ?_
  refine sdoArrive_within (Sub.trans (by decide) hM) ?_
  exact h_s

theorem rxTake_within {A : Nat} {u : State} {s : State} (hM : Sub 0x10000000 A) (h_s : Within A u s) :
    Within A u (rxTake s) := by
  unfold rxTake
  refine Within.ite ?_ ?_
  · exact h_s
  · refine modField_within (Sub.trans (by decide) hM) ?_
    exact h_s

theorem applyDomSaved_within {A : Nat} {u : State} {n : Nat} {s : State} (hM : Sub 0x1FFFFFFFFFFFFFFFFFFFFFFFFFFFFFFFF A) (h_s : Within A
    u s) :
    Within A u (applyDomSaved n s) := by
  unfold applyDomSaved
  refine applySaved_within (Sub.trans (by decide) hM) ?_
  exact h_s

theorem execDomainRampEnd_within {A : Nat} {u : State} {n : Fin 96} {s : State} (hM : Sub 0x1FFFFFFFFFFFFFFFFFFFFFFFFFFFFFFFF A) (h_s :
    Within A u s) :
    OutWithin A u (execDomainRampEnd n s) := by
  unfold execDomainRampEnd
  extract_lets -merge -useContext +onlyGivenNames t_0
  have ht_0 : Within A u t_0 := by
    refine raised_within (Sub.trans (by decide) hM) ?_
    exact h_s
  refine OutWithin.whenOk ?_ ?_
  · exact h_s
  · refine Within.ite ?_ ?_
    · refine applyDomSaved_within (Sub.trans (by decide) hM) ?_
      exact ht_0
    · exact ht_0

theorem alDecide_within {A : Nat} {u : State} {target : Nat} {mbxOk sync0Ok : Bool} {s : State} (hM : Sub
    0x180000000000000000000001100000C A) (h_s : Within A u s) :
    Within A u (alDecide target mbxOk sync0Ok s) := by
  unfold alDecide
  extract_lets -merge -useContext +onlyGivenNames c_0 s_1 cur_2 s_3
  have hs_1 : Within A u s_1 := by
    refine modField_within (Sub.trans (by decide) hM) ?_
    exact h_s
  have hs_3 : Within A u s_3 := by
    refine set_within _ (inMask (FI_STAT_AL_ERR_win) (Sub.bit hM (by decide))) ?_
    exact hs_1
  refine Within.ite ?_ ?_
  · refine raise_within (Sub.trans (by decide) hM) ?_
    refine set_within _ (inMask (FI_STAT_AL_CODE_win) (Sub.bit hM (by decide))) ?_
    refine set_within _ (inMask (FI_STAT_AL_ERR_win) (Sub.bit hM (by decide))) ?_
    exact hs_1
  · refine Within.ite ?_ ?_
    · exact hs_3
    · refine alEnter_within (Sub.trans (by decide) hM) ?_
      exact hs_3

theorem alReady_within {A : Nat} {u : State} {s : State} (hM : Sub 0x180000000000000000000001100000C A) (h_s : Within A u s) :
    Within A u (alReady s) := by
  unfold alReady
  split
  · refine alDecide_within (Sub.trans (by decide) hM) ?_
    exact h_s
  · exact h_s

theorem execRestoreDefaults_within {A : Nat} {u : State} {a : Agent} {value : Nat} {s : State} (hM : Sub 0x200000000000000000000011400001
    A) (h_s : Within A u s) :
    OutWithin A u (execRestoreDefaults a value s) := by
  unfold execRestoreDefaults
  refine OutWithin.ok ?_
  refine answered_within (Sub.trans (by decide) hM) ?_
  refine objIM_within (Sub.trans (by decide) hM) ?_ ?_
  · intro y0 hy1
    beta_reduce
    refine auditWrite_within (Sub.trans (by decide) hM) ?_ ?_
    · intro y2 hy3
      refine objRestore_within (Sub.trans (by decide) hM) ?_
      exact hy3
    · exact hy1
  · exact h_s

theorem execFoeRead_within {A : Nat} {u : State} {addr : Nat} {file : FoeFile} {password : Nat} {s : State} (hM : Sub
    0x180000020A00000002000001A26180D A) (h_s : Within A u s) :
    OutWithin A u (execFoeRead addr file password s) := by
  unfold execFoeRead
  refine OutWithin.ok ?_
  refine Within.ite ?_ ?_
  · refine foeEnd_within (Sub.trans (by decide) hM) ?_
    exact h_s
  · refine foeArrive_within (Sub.trans (by decide) hM) ?_
    exact h_s

theorem rxEntry_within {A : Nat} {u : State} {img at_ e lo : Nat} {s : State} (hM : Sub 0x1FFFFFFFFFFFFFFFFFFFFFFFFFFFFFFFF A) (h_s :
    Within A u s) :
    Within A u (rxEntry img at_ e lo s) := by
  unfold rxEntry
  extract_lets -merge -useContext +onlyGivenNames v_0 s_1 a_2
  have hs_1 : Within A u s_1 := by
    refine modField_within (Sub.trans (by decide) hM) ?_
    exact h_s
  refine Within.ite ?_ ?_
  · exact h_s
  · split
    · exact h_s
    · refine Within.ite ?_ ?_
      · extract_lets -merge -useContext +onlyGivenNames w_3
        have hw_3 : Within A u w_3 := by
          refine objWrite_within (Sub.trans (by decide) hM) ?_
          exact hs_1
        refine Within.resp_ (Sub.bit hM (by decide)) ?_
        exact hw_3
      · exact hs_1

theorem rxStep_within {A : Nat} {u : State} {s : State} (hM : Sub 0x1FFFFFFFFFFFFFFFFFFFFFFFFFFFFFFFF A) (h_s : Within A u s) :
    Within A u (rxStep s) := by
  unfold rxStep
  extract_lets -merge -useContext +onlyGivenNames l_0 s_1
  have hs_1 : Within A u s_1 := by
    refine rxTake_within (Sub.trans (by decide) hM) ?_
    exact h_s
  split
  · exact hs_1
  · extract_lets -merge -useContext +onlyGivenNames t_2
    have ht_2 : Within A u t_2 := by
      unfold t_2
      split
      · refine rxEntry_within (Sub.trans (by decide) hM) ?_
        exact hs_1
      · exact hs_1
    refine modField_within (Sub.trans (by decide) hM) ?_
    exact ht_2

theorem execRxpdoApply_within {A : Nat} {u : State} {entries : Nat} {s : State} (hM : Sub 0x1FFFFFFFFFFFFFFFFFFFFFFFFFFFFFFFF A) (h_s :
    Within A u s) :
    OutWithin A u (execRxpdoApply entries s) := by
  unfold execRxpdoApply
  refine inDuty_within (Sub.trans (by decide) hM) ?_ ?_
  · intro y0 hy1
    beta_reduce
    refine OutWithin.whenOk ?_ ?_
    · exact hy1
    · refine forNat_within ?_ _ ?_
      · intro y2 y3 hy4
        beta_reduce
        refine rxStep_within (Sub.trans (by decide) hM) ?_
        exact hy4
      · exact hy1
  · exact h_s

theorem fieldTick_within {A : Nat} {u : State} {frame : Nat} {s : State} (hM : Sub 0x201000004C A) (h_s : Within A u s) :
    Within A u (fieldTick frame s) := by
  unfold fieldTick
  extract_lets -merge -useContext +onlyGivenNames runs_0 s_1 w_2 w_3
  have hs_1 : Within A u s_1 := by
    refine Within.ite ?_ ?_
    · refine raise_within (Sub.trans (by decide) hM) ?_
      refine State.count_within (Sub.trans (by decide) hM) (inMask (FRM_OVR_COUNT_win _) (Sub.bit hM (by decide))) ?_
      exact h_s
    · exact h_s
  have hw_2 : Within A u w_2 := by
    refine modField_within (Sub.trans (by decide) hM) ?_
    exact hs_1
  refine Within.clock_ (Sub.bit hM (by decide)) ?_
  exact hw_2

theorem applyAllSaved_within {A : Nat} {u : State} {s : State} (hM : Sub 0x1FFFFFFFFFFFFFFFFFFFFFFFFFFFFFFFF A) (h_s : Within A u s) :
    Within A u (applyAllSaved s) := by
  unfold applyAllSaved
  refine applySaved_within (Sub.trans (by decide) hM) ?_
  exact h_s

theorem execAlStateRequest_within {A : Nat} {u : State} {target : Nat} {mbxOk sync0Ok : Bool} {s : State} (hM : Sub
    0x180000000000000000000001100000C A) (h_s : Within A u s) :
    OutWithin A u (execAlStateRequest target mbxOk sync0Ok s) := by
  unfold execAlStateRequest
  refine OutWithin.ok ?_
  refine Within.ite ?_ ?_
  · refine modField_within (Sub.trans (by decide) hM) ?_
    exact h_s
  · refine alDecide_within (Sub.trans (by decide) hM) ?_
    exact h_s

theorem execSm2ImageWrite_within {A : Nat} {u : State} {image : List Byte} {s : State} (hM : Sub 0x10000000 A) (h_s : Within A u s) :
    OutWithin A u (execSm2ImageWrite image s) := by
  unfold execSm2ImageWrite
  refine OutWithin.whenOk ?_ ?_
  · exact h_s
  · refine modField_within (Sub.trans (by decide) hM) ?_
    exact h_s

end Sys2Proof.Machine
end

