-- ==== Sys2Proof/Laws/WithinBoot.lean ====
section
/-! SUPPORT. What each operation of Machine/Boot.lean can reach (see Laws/Within.lean). -/
set_option Elab.async false
namespace Sys2Proof.Machine

theorem bootSet_within {A : Nat} {u : State} {f : Fld} {v : Nat} {s : State} (_ : Sub 0x0 A) (h_f : InMask A f) (h_s : Within A u s) :
    Within A u (bootSet f v s) := by
  unfold bootSet
  refine set_within _ (h_f) ?_
  exact h_s

theorem firmwareCheck_within {A : Nat} {u : State} {kind base : Nat} {bad : List Nat} {s : State} (hM : Sub 0xC A) (h_s : Within A u s) :
    Within A u (firmwareCheck kind base bad s).2 := by
  unfold firmwareCheck
  extract_lets -merge -useContext +onlyGivenNames c_0
  refine Within.snd1 ?_
  refine Within.ite ?_ ?_
  · exact h_s
  · refine imageRefused_within (Sub.trans (by decide) hM) ?_
    exact h_s

theorem bootInstaller_within {A : Nat} {u : State} {bad : List Nat} {s : State} (hM : Sub 0x100000000066000200003C A) (h_s : Within A u s) :
    Within A u (bootInstaller bad s) := by
  unfold bootInstaller
  extract_lets -merge -useContext +onlyGivenNames s_0 x_1 w_2 w_3
  have hs_0 : Within A u s_0 := by
    refine bootSet_within (Sub.trans (by decide) hM) (inMask (BOOT_STAT_STAGE_win) (Sub.bit hM (by decide))) ?_
    exact h_s
  have hx_1 : Within A u x_1.2 := by
    refine firmwareCheck_within (Sub.trans (by decide) hM) ?_
    exact hs_0
  have hw_2 : Within A u w_2 := by
    refine bootSet_within (Sub.trans (by decide) hM) (inMask (BOOT_STAT_IFW_win) (Sub.bit hM (by decide))) ?_
    exact hx_1
  refine Within.ite ?_ ?_
  · exact hs_0
  · refine Within.ite ?_ ?_
    · refine bootRaise_within (Sub.trans (by decide) hM) ?_
      refine Within.boot_ (Sub.bit hM (by decide)) ?_
      exact hw_2
    · refine Within.ite ?_ ?_
      · exact hx_1
      · refine raise_within (Sub.trans (by decide) hM) ?_
        refine bootSet_within (Sub.trans (by decide) hM) (inMask (BOOT_STAT_IFW_win) (Sub.bit hM (by decide))) ?_
        exact hx_1

theorem bootAlmanac_within {A : Nat} {u : State} {s : State} (hM : Sub 0x2C0000000080000A00020000080800 A) (h_s : Within A u s) :
    Within A u (bootAlmanac s) := by
  unfold bootAlmanac
  extract_lets -merge -useContext +onlyGivenNames s_0
  have hs_0 : Within A u s_0 := by
    refine ledgerApply_within (Sub.trans (by decide) hM) ?_
    refine secBoot_within (Sub.trans (by decide) hM) ?_
    exact h_s
  refine bootSet_within (Sub.trans (by decide) hM) (inMask (BOOT_STAT_STAGE_win) (Sub.bit hM (by decide))) ?_
  refine bootSet_within (Sub.trans (by decide) hM) (inMask (BOOT_STAT_ALMANAC_win) (Sub.bit hM (by decide))) ?_
  exact hs_0

theorem makerStarts_within {A : Nat} {u : State} {slot : Nat} {s : State} (hM : Sub 0x2400020000100000000066000600003C A) (h_s : Within A
    u s) :
    Within A u (makerStarts slot s) := by
  unfold makerStarts
  extract_lets -merge -useContext +onlyGivenNames rd_0 w_1 s_2
  have hs_2 : Within A u s_2 := by
    refine Within.boot_ (Sub.bit hM (by decide)) ?_
    exact h_s
  refine bootRaise_within (Sub.trans (by decide) hM) ?_
  refine forNat_within ?_ _ ?_
  · intro y3 y4 hy5
    beta_reduce
    refine Within.ite ?_ ?_
    · refine coreBegin_within (Sub.trans (by decide) hM) ?_
      exact hy5
    · exact hy5
  · refine bootSet_within (Sub.trans (by decide) hM) (inMask (BOOT_STAT_FW_SLOT_win) (Sub.bit hM (by decide))) ?_
    exact hs_2

theorem noImage_within {A : Nat} {u : State} {s : State} (hM : Sub 0x800200021C4001 A) (h_s : Within A u s) :
    Within A u (noImage s) := by
  unfold noImage
  refine forNat_within ?_ _ ?_
  · intro y0 y1 hy2
    beta_reduce
    refine Within.ite ?_ ?_
    · exact hy2
    · refine regionInvalid_within (Sub.trans (by decide) hM) ?_
      exact hy2
  · extract_lets -merge -useContext +onlyGivenNames w_3 w_4
    have hw_3 : Within A u w_3 := by
      refine bootSet_within (Sub.trans (by decide) hM) (inMask (BOOT_STAT_FABRIC_win) (Sub.bit hM (by decide))) ?_
      exact h_s
    refine Within.boot_ (Sub.bit hM (by decide)) ?_
    exact hw_3

theorem bootRequest_within {A : Nat} {u : State} {l : List Nat} {s : State} (hM : Sub 0x100000000064000000003C A) (h_s : Within A u s) :
    Within A u (bootRequest l s) := by
  unfold bootRequest
  extract_lets -merge -useContext +onlyGivenNames r_0
  have hr_0 : Within A u r_0.2 := by
    refine targetOn_within (Sub.trans (by decide) hM) ?_
    exact h_s
  refine Within.ite ?_ ?_
  · exact hr_0
  · refine forEach_within ?_ _ ?_
    · intro y1 y2 hy3
      beta_reduce
      refine raiseNextTick_within (Sub.trans (by decide) hM) ?_
      exact hy3
    · refine setTargets_within (Sub.trans (by decide) hM) ?_
      exact hr_0

theorem loadsBegin_within {A : Nat} {u : State} {which fabric : Nat} {s : State} (hM : Sub 0x20B0000018A066000A1C593D A) (h_s : Within A
    u s) :
    Within A u (loadsBegin which fabric s) := by
  unfold loadsBegin
  extract_lets -merge -useContext +onlyGivenNames rd_0 regions_1 w_2 w_3 s_4 s_5 s_6 l_7
  have hw_2 : Within A u w_2 := by
    refine bootSet_within (Sub.trans (by decide) hM) (inMask (BOOT_STAT_FABRIC_win) (Sub.bit hM (by decide))) ?_
    exact h_s
  have hs_4 : Within A u s_4 := by
    refine Within.boot_ (Sub.bit hM (by decide)) ?_
    exact hw_2
  have hs_5 : Within A u s_5 := by
    refine forNat_within ?_ _ ?_
    · intro y8 y9 hy10
      beta_reduce
      extract_lets -merge -useContext +onlyGivenNames t_11
      have ht_11 : Within A u t_11 := by
        refine set_within _ (inMask (REG_STAT_ERR_win _) (Sub.bit hM (by decide))) ?_
        exact hy10
      refine Within.ite ?_ ?_
      · refine regionInvalid_within (Sub.trans (by decide) hM) ?_
        exact ht_11
      · exact ht_11
    · exact hs_4
  have hs_6 : Within A u s_6 := by
    refine forEach_within ?_ _ ?_
    · intro y12 y13 hy14
      beta_reduce
      refine bootRequest_within (Sub.trans (by decide) hM) ?_
      exact hy14
    · exact hs_5
  refine Within.ite ?_ ?_
  · refine dispatch_within (Sub.trans (by decide) hM) ?_
    exact hs_6
  · refine modLdr_within (Sub.trans (by decide) hM) ?_
    exact hs_6

theorem goldenStep_within {A : Nat} {u : State} {code : Nat} {bad : List Nat} {s : State} (hM : Sub 0x20B0000018A066000A1C593D A) (h_s :
    Within A u s) :
    Within A u (goldenStep code bad s) := by
  unfold goldenStep
  extract_lets -merge -useContext +onlyGivenNames s_0 x_1
  have hs_0 : Within A u s_0 := by
    refine bootSet_within (Sub.trans (by decide) hM) (inMask (BOOT_STAT_DEGRADED_win) (Sub.bit hM (by decide))) ?_
    refine bootSet_within (Sub.trans (by decide) hM) (inMask (BOOT_STAT_PRIMARY_ERR_win) (Sub.bit hM (by decide))) ?_
    exact h_s
  have hx_1 : Within A u x_1.2 := by
    refine stageImage_within (Sub.trans (by decide) hM) ?_
    exact hs_0
  refine Within.ite ?_ ?_
  · refine loadsBegin_within (Sub.trans (by decide) hM) ?_
    exact hx_1
  · refine noImage_within (Sub.trans (by decide) hM) ?_
    refine bootSet_within (Sub.trans (by decide) hM) (inMask (BOOT_STAT_GOLDEN_ERR_win) (Sub.bit hM (by decide))) ?_
    exact hx_1

theorem primaryFromFlash_within {A : Nat} {u : State} {bad : List Nat} {s : State} (hM : Sub 0x20B0000018A066000A1C593D A) (h_s : Within
    A u s) :
    Within A u (primaryFromFlash bad s) := by
  unfold primaryFromFlash
  extract_lets -merge -useContext +onlyGivenNames x_0
  have hx_0 : Within A u x_0.2 := by
    refine stageImage_within (Sub.trans (by decide) hM) ?_
    exact h_s
  refine Within.ite ?_ ?_
  · refine loadsBegin_within (Sub.trans (by decide) hM) ?_
    exact hx_0
  · refine goldenStep_within (Sub.trans (by decide) hM) ?_
    exact hx_0

theorem primaryStep_within {A : Nat} {u : State} {bad : List Nat} {s : State} (hM : Sub 0x20B0000018A066000A1C593D A) (h_s : Within A u s) :
    Within A u (primaryStep bad s) := by
  unfold primaryStep
  refine Within.ite ?_ ?_
  · extract_lets -merge -useContext +onlyGivenNames c_0
    refine Within.ite ?_ ?_
    · refine loadsBegin_within (Sub.trans (by decide) hM) ?_
      refine setMark_within (Sub.trans (by decide) hM) ?_
      exact h_s
    · refine primaryFromFlash_within (Sub.trans (by decide) hM) ?_
      refine imageRefused_within (Sub.trans (by decide) hM) ?_
      refine bootSet_within (Sub.trans (by decide) hM) (inMask (BOOT_STAT_PRIMARY_ERR_win) (Sub.bit hM (by decide))) ?_
      exact h_s
  · refine primaryFromFlash_within (Sub.trans (by decide) hM) ?_
    exact h_s

theorem bootHbm_within {A : Nat} {u : State} {bad : List Nat} {s : State} (hM : Sub 0x20B0000018A066000A1C593D A) (h_s : Within A u s) :
    Within A u (bootHbm bad s) := by
  unfold bootHbm
  extract_lets -merge -useContext +onlyGivenNames s_0
  have hs_0 : Within A u s_0 := by
    refine bootSet_within (Sub.trans (by decide) hM) (inMask (BOOT_STAT_STAGE_win) (Sub.bit hM (by decide))) ?_
    exact h_s
  refine Within.ite ?_ ?_
  · refine noImage_within (Sub.trans (by decide) hM) ?_
    exact hs_0
  · refine primaryStep_within (Sub.trans (by decide) hM) ?_
    exact hs_0

theorem forRing_length : ∀ (l : List EvRec) {e : EventSt}, e.ring.length ≤ 1024 → (deliverHeld.forRing l e).ring.length ≤ 1024
  | [], _, h => h
  | _ :: l, _, h => forRing_length l (ringPush_length _ h)

theorem deliverHeld_within {A : Nat} {u : State} {s : State} (hM : Sub 0x4 A) (h_s : Within A u s) :
    Within A u (deliverHeld s) := by
  exact Within.events_ (Sub.bit hM (by decide)) h_s (fun c => forRing_length _ c)

theorem bootReady_within {A : Nat} {u : State} {s : State} (hM : Sub 0x1FFFFFFFFFFFFFFFFFFFFFFFFFFFFFFFF A) (h_s : Within A u s) :
    Within A u (bootReady s) := by
  unfold bootReady
  extract_lets -merge -useContext +onlyGivenNames s_0 s_1 s_2 s_3 s_4
  have hs_0 : Within A u s_0 := by
    refine applyAllSaved_within (Sub.trans (by decide) hM) ?_
    exact h_s
  have hs_1 : Within A u s_1 := by
    refine forNat_within ?_ _ ?_
    · intro y5 y6 hy7
      beta_reduce
      refine wrArbCtl_within (Sub.trans (by decide) hM) ?_
      exact hy7
    · exact hs_0
  have hs_2 : Within A u s_2 := by
    refine weirBoot_within (Sub.trans (by decide) hM) ?_
    exact hs_1
  have hs_3 : Within A u s_3 := by
    refine Within.ite ?_ ?_
    · refine audRestart_within (Sub.trans (by decide) hM) ?_
      exact hs_2
    · exact hs_2
  have hs_4 : Within A u s_4 := by
    refine deliverHeld_within (Sub.trans (by decide) hM) ?_
    refine bootSet_within (Sub.trans (by decide) hM) (inMask (BOOT_STAT_READY_win) (Sub.bit hM (by decide))) ?_
    refine bootSet_within (Sub.trans (by decide) hM) (inMask (BOOT_STAT_ELAPSED_MS_win) (Sub.bit hM (by decide))) ?_
    exact hs_3
  refine alReady_within (Sub.trans (by decide) hM) ?_
  refine raise_within (Sub.trans (by decide) hM) ?_
  exact hs_4

theorem hbmStep_within {A : Nat} {u : State} {s : State} (hM : Sub 0x180000000066000000003C A) (h_s : Within A u s) :
    Within A u (hbmStep s) := by
  unfold hbmStep
  extract_lets -merge -useContext +onlyGivenNames b_0 s_1
  have hs_1 : Within A u s_1 := by
    refine Within.ite ?_ ?_
    · refine set_within _ (inMask (HBM_CFG_BXOR_win) (Sub.bit hM (by decide))) ?_
      exact h_s
    · exact h_s
  refine bootSet_within (Sub.trans (by decide) hM) (inMask (BOOT_STAT_STAGE_win) (Sub.bit hM (by decide))) ?_
  refine bootRequest_within (Sub.trans (by decide) hM) ?_
  exact hs_1

theorem bootstrap_within {A : Nat} {u : State} {s : State} (hM : Sub 0x800000000000000000020000000000 A) (h_s : Within A u s) :
    Within A u (bootstrap s) := by
  unfold bootstrap
  refine set_within _ (inMask (FI_STAT_AL_STATE_win) (Sub.bit hM (by decide))) ?_
  refine bootSet_within (Sub.trans (by decide) hM) (inMask (BOOT_STAT_STAGE_win) (Sub.bit hM (by decide))) ?_
  exact h_s

theorem bootMaker_within {A : Nat} {u : State} {bad : List Nat} {s : State} (hM : Sub 0x2480020000180000000066000600003C A) (h_s : Within
    A u s) :
    Within A u (bootMaker bad s) := by
  unfold bootMaker
  extract_lets -merge -useContext +onlyGivenNames p_0 x_1 y_2
  have hx_1 : Within A u x_1.2 := by
    refine firmwareCheck_within (Sub.trans (by decide) hM) ?_
    exact h_s
  have hy_2 : Within A u y_2.2 := by
    refine firmwareCheck_within (Sub.trans (by decide) hM) ?_
    refine bootSet_within (Sub.trans (by decide) hM) (inMask (BOOT_STAT_DEGRADED_win) (Sub.bit hM (by decide))) ?_
    refine bootSet_within (Sub.trans (by decide) hM) (inMask (BOOT_STAT_FW_ERR_win) (Sub.bit hM (by decide))) ?_
    exact hx_1
  refine Within.ite ?_ ?_
  · refine hbmStep_within (Sub.trans (by decide) hM) ?_
    refine makerStarts_within (Sub.trans (by decide) hM) ?_
    exact hx_1
  · refine Within.ite ?_ ?_
    · refine hbmStep_within (Sub.trans (by decide) hM) ?_
      refine makerStarts_within (Sub.trans (by decide) hM) ?_
      refine raise_within (Sub.trans (by decide) hM) ?_
      exact hy_2
    · refine bootstrap_within (Sub.trans (by decide) hM) ?_
      exact hy_2

theorem bootFabric_within {A : Nat} {u : State} {bad : List Nat} {s : State} (hM : Sub 0x20B0000018A066000A1C593D A) (h_s : Within A u s) :
    Within A u (bootFabric bad s) := by
  unfold bootFabric
  extract_lets -merge -useContext +onlyGivenNames c_0
  refine Within.ite ?_ ?_
  · refine primaryFromFlash_within (Sub.trans (by decide) hM) ?_
    refine bootSet_within (Sub.trans (by decide) hM) (inMask (BOOT_STAT_PRIMARY_ERR_win) (Sub.bit hM (by decide))) ?_
    exact h_s
  · refine Within.ite ?_ ?_
    · refine goldenStep_within (Sub.trans (by decide) hM) ?_
      exact h_s
    · refine Within.ite ?_ ?_
      · refine bootSet_within (Sub.trans (by decide) hM) (inMask (BOOT_STAT_STAGE_win) (Sub.bit hM (by decide))) ?_
        refine noImage_within (Sub.trans (by decide) hM) ?_
        refine bootSet_within (Sub.trans (by decide) hM) (inMask (BOOT_STAT_GOLDEN_ERR_win) (Sub.bit hM (by decide))) ?_
        exact h_s
      · refine bootSet_within (Sub.trans (by decide) hM) (inMask (BOOT_STAT_STAGE_win) (Sub.bit hM (by decide))) ?_
        refine Within.ite ?_ ?_
        · refine raise_within (Sub.trans (by decide) hM) ?_
          exact h_s
        · exact h_s

theorem bootStep_within {A : Nat} {u : State} {bad : List Nat} {s : State} (hM : Sub 0x1FFFFFFFFFFFFFFFFFFFFFFFFFFFFFFFF A) (h_s : Within
    A u s) :
    Within A u (bootStep bad s) := by
  unfold bootStep
  split
  · refine bootAlmanac_within (Sub.trans (by decide) hM) ?_
    exact h_s
  · refine stepThree_within (Sub.trans (by decide) hM) ?_
    refine bootSet_within (Sub.trans (by decide) hM) (inMask (BOOT_STAT_STAGE_win) (Sub.bit hM (by decide))) ?_
    exact h_s
  · refine bootMaker_within (Sub.trans (by decide) hM) ?_
    exact h_s
  · refine bootHbm_within (Sub.trans (by decide) hM) ?_
    exact h_s
  · refine bootFabric_within (Sub.trans (by decide) hM) ?_
    exact h_s
  · refine bootInstaller_within (Sub.trans (by decide) hM) ?_
    exact h_s
  · refine bootReady_within (Sub.trans (by decide) hM) ?_
    exact h_s

theorem execBootStepEnd_within {A : Nat} {u : State} {elapsedMs : Nat} {bad : List Nat} {s : State} (hM : Sub
    0x1FFFFFFFFFFFFFFFFFFFFFFFFFFFFFFFF A) (h_s : Within A u s) :
    OutWithin A u (execBootStepEnd elapsedMs bad s) := by
  unfold execBootStepEnd
  refine OutWithin.whenOk ?_ ?_
  · exact h_s
  · refine bootStep_within (Sub.trans (by decide) hM) ?_
    refine Within.bootMs_ (Sub.bit hM (by decide)) ?_
    exact h_s

end Sys2Proof.Machine
end

