-- ==== Sys2Proof/Laws/WithinJetRun.lean ====
section
/-! SUPPORT. What each operation of Machine/JetRun.lean can reach (see Laws/Within.lean). -/
set_option Elab.async false
namespace Sys2Proof.Machine

theorem blockCheck_within {A : Nat} {u : State} {n per : Nat} {s : State} (hM : Sub 0x100000000000010C A) (h_s : Within A u s) :
    Within A u (blockCheck n per s) := by
  unfold blockCheck
  extract_lets -merge -useContext +onlyGivenNames new_0 r_1 w_2 p_3 s_4 w_5 s_6
  have hs_4 : Within A u s_4 := by
    refine State.setIf_within (Sub.trans (by decide) hM) (inMask (JET_STAT_BLK_SPARE_win _) (Sub.bit hM (by decide))) ?_
    refine State.setIf_within (Sub.trans (by decide) hM) (inMask (JET_STAT_BLK_WIDE_win _) (Sub.bit hM (by decide))) ?_
    refine State.setIf_within (Sub.trans (by decide) hM) (inMask (JET_STAT_BLK_RATE_win _) (Sub.bit hM (by decide))) ?_
    exact h_s
  have hs_6 : Within A u s_6 := by
    refine Within.jets_ (Sub.bit hM (by decide)) ?_
    exact hs_4
  refine Within.ite ?_ ?_
  · refine raise_within (Sub.trans (by decide) hM) ?_
    exact hs_6
  · exact h_s

theorem jetDrives_within {A : Nat} {u : State} {q n : Nat} {c : Cyc} {x : Nat} {s : State} (hM : Sub 0x2100000000000270C A) (h_s : Within
    A u s) :
    Within A u (jetDrives q n c x s) := by
  unfold jetDrives
  extract_lets -merge -useContext +onlyGivenNames per_0 s_1 bad_2 d_3 drive_4 s_5 s_6 w_7 s_8 p_9 sent_10 p_11 s_12 lvl_13 w_14
  have hs_1 : Within A u s_1 := by
    refine blockCheck_within (Sub.trans (by decide) hM) ?_
    exact h_s
  have hs_5 : Within A u s_5 := by
    refine Within.ite ?_ ?_
    · refine modEng_within (Sub.trans (by decide) hM) ?_
      exact hs_1
    · exact hs_1
  have hs_6 : Within A u s_6 := by
    refine Within.ite ?_ ?_
    · refine countBad_within (Sub.trans (by decide) hM) ?_
      exact hs_5
    · exact hs_5
  have hs_8 : Within A u s_8 := by
    refine Within.jets_ (Sub.bit hM (by decide)) ?_
    exact hs_6
  have hs_12 : Within A u s_12 := by
    refine Within.ite ?_ ?_
    · refine countSentinel_within (Sub.trans (by decide) hM) ?_
      exact hs_8
    · exact hs_8
  refine Within.jets_ (Sub.bit hM (by decide)) ?_
  exact hs_12

theorem putCycle_within {A : Nat} {u : State} {q : Nat} {c : Cyc} {s : State} (hM : Sub 0x2000 A) (h_s : Within A u s) :
    Within A u (putCycle q c s) := by
  unfold putCycle
  refine modEng_within (Sub.trans (by decide) hM) ?_
  exact h_s

theorem jetMeets_within {A : Nat} {u : State} {n k : Nat} {seen : Strobes} {s : State} (hM : Sub 0x2100000000000270C A) (h_s : Within A u
    s) :
    Within A u (jetMeets n k seen s) := by
  unfold jetMeets
  extract_lets -merge -useContext +onlyGivenNames q_0
  split
  · exact h_s
  · extract_lets -merge -useContext +onlyGivenNames c_1 x_2 s_3
    have hs_3 : Within A u s_3 := by
      refine Within.ite ?_ ?_
      · refine jetDrives_within (Sub.trans (by decide) hM) ?_
        exact h_s
      · exact h_s
    refine putCycle_within (Sub.trans (by decide) hM) ?_
    exact hs_3

theorem execJetCycle_within {A : Nat} {u : State} {ch : Fin 512} {k : Nat} {seen : Strobes} {s : State} (hM : Sub 0x2100000000000270C A)
    (h_s : Within A u s) :
    OutWithin A u (execJetCycle ch k seen s) := by
  unfold execJetCycle
  refine OutWithin.whenOk ?_ ?_
  · exact h_s
  · refine jetMeets_within (Sub.trans (by decide) hM) ?_
    exact h_s

end Sys2Proof.Machine
end

