-- ==== Sys2Proof/Laws/WithinNocRun.lean ====
section
/-! SUPPORT. What each operation of Machine/NocRun.lean can reach (see Laws/Within.lean). -/
set_option Elab.async false
namespace Sys2Proof.Machine

theorem spWriteWords_within {A : Nat} {u : State} {i addr id be a1 : Nat} {a2 : List Byte} {a3 : State} (hM : Sub
    0x800000000000000000000040000C A) (h_a3 : Within A u a3) :
    Within A u (spWriteWords i addr id be a1 a2 a3).2 := by
  induction a1 generalizing addr be a2 a3 with
  | zero => exact h_a3
  | succ n ih =>
    unfold spWriteWords
    extract_lets m v x y
    have hx : Within A u x.2 := by
      refine Within.ite1 (Within.snd1 h_a3) (Within.ite1 (Within.snd1 h_a3) (Within.ite1 ?_ ?_))
      · exact spWrite_within (Sub.trans (by decide) hM) h_a3
      · refine foldl_within1 (fun b k hb => ?_) _ _ (Within.snd1 h_a3)
        refine Within.ite1 ?_ hb
        exact Within.snd1 (spWrite_within (Sub.trans (by decide) hM) hb)
    exact ih hx

theorem spReadWords_within {A : Nat} {u : State} {i addr id a1 : Nat} {a2 : State} (hM : Sub 0x800000000000000000000040000C A) (h_a2 :
    Within A u a2) :
    Within A u (spReadWords i addr id a1 a2).2.2 := by
  induction a1 generalizing addr a2 with
  | zero => exact h_a2
  | succ n ih =>
    have h : Within A u (if inScratchpad addr then spRead i addr 64 id .ok a2 else (.range, 0, a2)).2.2 :=
      Within.ite2 (spRead_within (Sub.trans (by decide) hM) h_a2) (Within.snd2 h_a2)
    exact ih h

theorem spAct_within {A : Nat} {u : State} {r : NocReq} {s : State} (hM : Sub 0xC00000000000000000000044000D A) (h_s : Within A u s) :
    Within A u (spAct r s) := by
  unfold spAct
  extract_lets -merge -useContext +onlyGivenNames p_0 i_1 w_2 n_3 x_4 x_5 x_6 x_7 x_8 t_9
  have hx_4 : Within A u x_4.2.2 := by
    refine spRead_within (Sub.trans (by decide) hM) ?_
    exact h_s
  have hx_5 : Within A u x_5.2 := by
    refine spWrite_within (Sub.trans (by decide) hM) ?_
    exact h_s
  have hx_6 : Within A u x_6.2.2 := by
    refine spReadWords_within (Sub.trans (by decide) hM) ?_
    exact h_s
  have hx_7 : Within A u x_7.2 := by
    refine spWriteWords_within (Sub.trans (by decide) hM) ?_
    exact h_s
  have hx_8 : Within A u x_8.2 := by
    refine spWriteWords_within (Sub.trans (by decide) hM) ?_
    exact h_s
  have ht_9 : Within A u t_9 := by
    unfold t_9
    split
    · refine nocAnswer_within (Sub.trans (by decide) hM) ?_
      exact hx_4
    · refine nocAnswer_within (Sub.trans (by decide) hM) ?_
      exact hx_5
    · refine nocAnswer_within (Sub.trans (by decide) hM) ?_
      exact hx_6
    · refine nocAnswer_within (Sub.trans (by decide) hM) ?_
      exact hx_7
    · refine nocAnswer_within (Sub.trans (by decide) hM) ?_
      exact hx_8
    · refine nocAnswer_within (Sub.trans (by decide) hM) ?_
      exact h_s
  refine spSettle_within (Sub.trans (by decide) hM) ?_
  exact ht_9

theorem windowAct_within {A : Nat} {u : State} {r : NocReq} {s : State} (hM : Sub 0x1FFFFFFFFFFFFFFFFFFFFFFFFFFFFFFFF A) (h_s : Within A
    u s) :
    Within A u (windowAct r s) := by
  unfold windowAct
  extract_lets -merge -useContext +onlyGivenNames p_0 w_1 x_2 x_3
  have hx_2 : Within A u x_2.2.2 := by
    refine windowReadIn_within (Sub.trans (by decide) hM) ?_
    exact h_s
  have hx_3 : Within A u x_3.2 := by
    refine windowWriteIn_within (Sub.trans (by decide) hM) ?_
    exact h_s
  split
  · refine nocAnswer_within (Sub.trans (by decide) hM) ?_
    exact hx_2
  · refine nocAnswer_within (Sub.trans (by decide) hM) ?_
    exact hx_3
  · refine nocAnswer_within (Sub.trans (by decide) hM) ?_
    exact h_s
  · refine nocAnswer_within (Sub.trans (by decide) hM) ?_
    exact h_s
  · refine nocAnswer_within (Sub.trans (by decide) hM) ?_
    exact h_s
  · refine nocAnswer_within (Sub.trans (by decide) hM) ?_
    exact h_s

theorem nocAct_within {A : Nat} {u : State} {r : NocReq} {s : State} (hM : Sub 0x1FFFFFFFFFFFFFFFFFFFFFFFFFFFFFFFF A) (h_s : Within A u s) :
    Within A u (nocAct r s) := by
  unfold nocAct
  refine Within.ite ?_ ?_
  · exact h_s
  · refine Within.ite ?_ ?_
    · refine spAct_within (Sub.trans (by decide) hM) ?_
      exact h_s
    · refine Within.ite ?_ ?_
      · exact h_s
      · refine Within.ite ?_ ?_
        · exact h_s
        · refine windowAct_within (Sub.trans (by decide) hM) ?_
          exact h_s

theorem dapDone_within {A : Nat} {u : State} {st : Status} {v : Nat} {s : State} (hM : Sub 0x4000000 A) (h_s : Within A u s) :
    Within A u (dapDone st v s) := by
  unfold dapDone
  refine Within.dbg_ (Sub.bit hM (by decide)) ?_
  exact h_s

theorem nocDeliver_within {A : Nat} {u : State} {r : NocReq} {lat : Nat} {s : State} (hM : Sub 0x4040001 A) (h_s : Within A u s) :
    Within A u (nocDeliver r lat s) := by
  unfold nocDeliver
  extract_lets -merge -useContext +onlyGivenNames i_0 w_1 s_2 w_3 s_4
  have hs_2 : Within A u s_2 := by
    refine Within.noc_ (Sub.bit hM (by decide)) ?_
    exact h_s
  have hs_4 : Within A u s_4 := by
    refine nocTold_within (Sub.trans (by decide) hM) ?_
    refine Within.upd (s := s_2) ?_ rfl (fun _ _ => rfl) (.inl (Sub.bit hM (by decide))) (.inr rfl) (.inr rfl) (.inr rfl) (.inr rfl) (.inr rfl) (.inr rfl) (.inr rfl) (.inr rfl) (.inr rfl) (.inr rfl) (.inr rfl) (.inr rfl) (.inr rfl) (.inr rfl) (.inr rfl) (.inr rfl) (.inr rfl) (.inl (Sub.bit hM (by decide))) (.inr rfl) (.inr rfl) (.inr rfl) (.inr rfl) (.inr rfl) (.inr rfl) (.inr rfl) (.inr rfl) (.inr rfl) (.inr rfl) (fun c => ⟨c.regs, c.hbm, c.flash, c.cfg, c.editions, c.ledger, c.ring, c.queue, c.seqs, c.cores⟩) (Otp.same rfl rfl rfl rfl rfl rfl)
    exact hs_2
  refine Within.ite ?_ ?_
  · exact hs_2
  · refine Within.ite ?_ ?_
    · refine dapDone_within (Sub.trans (by decide) hM) ?_
      exact hs_4
    · exact hs_4

theorem execNocResponse_within {A : Nat} {u : State} {init : Fin 64} {latencyNs : Nat} {s : State} (hM : Sub
    0x1FFFFFFFFFFFFFFFFFFFFFFFFFFFFFFFF A) (h_s : Within A u s) :
    OutWithin A u (execNocResponse init latencyNs s) := by
  unfold execNocResponse
  refine OutWithin.ite ?_ ?_
  · refine OutWithin.ok ?_
    exact h_s
  · split
    · refine OutWithin.ok ?_
      exact h_s
    · extract_lets -merge -useContext +onlyGivenNames t_0
      have ht_0 : Within A u t_0 := by
        refine nocAct_within (Sub.trans (by decide) hM) ?_
        exact h_s
      split
      · refine OutWithin.ok ?_
        exact ht_0
      · refine OutWithin.ok ?_
        refine Within.ite ?_ ?_
        · refine nocDeliver_within (Sub.trans (by decide) hM) ?_
          exact ht_0
        · exact ht_0

theorem nocSend_within {A : Nat} {u : State} {a : Agent} {t : Nat} {p : Packet} {s : State} (hM : Sub 0x40000 A) (h_s : Within A u s) :
    Within A u (nocSend a t p s) := by
  unfold nocSend
  extract_lets -merge -useContext +onlyGivenNames i_0 k_1 r_2 w_3
  refine Within.noc_ (Sub.bit hM (by decide)) ?_
  exact h_s

theorem nocToHbm_within {A : Nat} {u : State} {r : NocReq} {s : State} (hM : Sub 0x40800 A) (h_s : Within A u s) :
    Within A u (nocToHbm r s) := by
  unfold nocToHbm
  extract_lets -merge -useContext +onlyGivenNames p_0 n_1 w_2
  refine Within.ite ?_ ?_
  · refine nocAnswer_within (Sub.trans (by decide) hM) ?_
    exact h_s
  · refine Within.ite ?_ ?_
    · refine nocAnswer_within (Sub.trans (by decide) hM) ?_
      exact h_s
    · split
      · refine nocAnswer_within (Sub.trans (by decide) hM) ?_
        exact h_s
      · refine hbmEnqueue_within (Sub.trans (by decide) hM) ?_
        refine modReq_within (Sub.trans (by decide) hM) ?_
        exact h_s

theorem nocTake_within {A : Nat} {u : State} {a : Agent} {p : Packet} {s : State} (hM : Sub 0x40800 A) (h_s : Within A u s) :
    Within A u (nocTake a p s).2 := by
  unfold nocTake
  extract_lets -merge -useContext +onlyGivenNames i_0 t_1 s1_2
  have hs1_2 : Within A u s1_2 := by
    refine nocSend_within (Sub.trans (by decide) hM) ?_
    exact h_s
  refine Within.ite1 ?_ ?_
  · refine Within.snd1 ?_
    exact h_s
  · split
    · refine Within.snd1 ?_
      refine nocTold_within (Sub.trans (by decide) hM) ?_
      exact h_s
    · refine Within.ite1 ?_ ?_
      · refine Within.snd1 ?_
        exact h_s
      · split
        · refine Within.snd1 ?_
          refine Within.ite ?_ ?_
          · refine nocToHbm_within (Sub.trans (by decide) hM) ?_
            exact hs1_2
          · exact hs1_2
        · refine Within.snd1 ?_
          exact hs1_2

theorem execNocRequest_within {A : Nat} {u : State} {a : Agent} {pkt : Packet} {s : State} (hM : Sub 0x40801 A) (h_s : Within A u s) :
    OutWithin A u (execNocRequest a pkt s) := by
  unfold execNocRequest
  extract_lets -merge -useContext +onlyGivenNames x_0
  have hx_0 : Within A u x_0.2 := by
    refine nocTake_within (Sub.trans (by decide) hM) ?_
    exact h_s
  refine OutWithin.ok ?_
  split
  · refine answer_within (Sub.trans (by decide) hM) ?_
    exact hx_0
  · exact hx_0

theorem execDapRequest_within {A : Nat} {u : State} {req : Nat} {s : State} (hM : Sub 0x4040801 A) (h_s : Within A u s) :
    OutWithin A u (execDapRequest req s) := by
  unfold execDapRequest
  extract_lets -merge -useContext +onlyGivenNames op_0 addr_1 w_2 s_3 fin_4 p_5 x_6 w_7 w_8
  have hs_3 : Within A u s_3 := by
    refine Within.dbg_ (Sub.bit hM (by decide)) ?_
    exact h_s
  have h_fin_4 : ∀ st t, Within A u t → OutWithin A u (fin_4 st t) := fun _ _ h =>
    OutWithin.ok (answer_within (Sub.trans (by decide) hM) (dapDone_within (Sub.trans (by decide) hM) h))
  have hx_6 : Within A u x_6.2 := by
    refine nocTake_within (Sub.trans (by decide) hM) ?_
    exact hs_3
  have hw_7 : Within A u w_7 := by
    exact hx_6
  refine OutWithin.ite ?_ ?_
  · refine OutWithin.ok ?_
    exact h_s
  · refine OutWithin.ite ?_ ?_
    · apply h_fin_4
      exact hs_3
    · refine OutWithin.ite ?_ ?_
      · apply h_fin_4
        exact hs_3
      · split
        · apply h_fin_4
          exact hx_6
        · refine OutWithin.ok ?_
          refine Within.dbg_ (Sub.bit hM (by decide)) ?_
          exact hw_7

end Sys2Proof.Machine
end

