-- ==== Sys2Proof/Laws/WithinTick.lean ====
section
/-! SUPPORT. What each operation of Machine/Tick.lean can reach (see Laws/Within.lean). -/
set_option Elab.async false
namespace Sys2Proof.Machine

theorem teleCapture_within {A : Nat} {u : State} {s : State} (hM : Sub 0x400000000000000000040 A) (h_s : Within A u s) :
    Within A u (teleCapture s) := by
  unfold teleCapture
  split
  · exact h_s
  · refine forNat_within ?_ _ ?_
    · intro y0 y1 hy2
      beta_reduce
      refine forNat_within ?_ _ ?_
      · intro y3 y4 hy5
        beta_reduce
        refine set_within _ (inMask (SC_RES_FRESH_win _ _) (Sub.bit hM (by decide))) ?_
        exact hy5
      · exact hy2
    · refine Within.clock_ (Sub.bit hM (by decide)) ?_
      exact h_s

theorem serviceTick_within {A : Nat} {u : State} {s : State} (hM : Sub 0x8E3924B000000A6064200DDC583C A) (h_s : Within A u s) :
    Within A u (serviceTick s) := by
  unfold serviceTick
  refine traceTick_within (Sub.trans (by decide) hM) ?_
  refine leapTick_within (Sub.trans (by decide) hM) ?_
  refine secTick_within (Sub.trans (by decide) hM) ?_
  refine lanesTick_within (Sub.trans (by decide) hM) ?_
  refine casTick_within (Sub.trans (by decide) hM) ?_
  refine clusterTick_within (Sub.trans (by decide) hM) ?_
  refine ldrTick_within (Sub.trans (by decide) hM) ?_
  refine fabTick_within (Sub.trans (by decide) hM) ?_
  refine nocTick_within (Sub.trans (by decide) hM) ?_
  refine encTick_within (Sub.trans (by decide) hM) ?_
  refine hbmTick_within (Sub.trans (by decide) hM) ?_
  exact h_s

theorem testTick_within {A : Nat} {u : State} {frame : Nat} {misaligned : List (Fin 32)} {s : State} (hM : Sub 0x10072400024200002A73C A)
    (h_s : Within A u s) :
    Within A u (testTick frame misaligned s) := by
  unfold testTick
  refine scTick_within (Sub.trans (by decide) hM) ?_
  refine failTick_within (Sub.trans (by decide) hM) ?_
  refine seqTick_within (Sub.trans (by decide) hM) ?_
  refine weirTick_within (Sub.trans (by decide) hM) ?_
  refine alignTick_within (Sub.trans (by decide) hM) ?_
  refine edgeTick_within (Sub.trans (by decide) hM) ?_
  refine jetsTick_within (Sub.trans (by decide) hM) ?_
  exact h_s

theorem teleTick_within {A : Nat} {u : State} {s : State} (hM : Sub 0x200000000C A) (h_s : Within A u s) :
    Within A u (teleTick s) := by
  unfold teleTick
  split
  · refine raise_within (Sub.trans (by decide) hM) ?_
    refine State.count_within (Sub.trans (by decide) hM) (inMask (FRM_OVR_COUNT_win _) (Sub.bit hM (by decide))) ?_
    exact h_s
  · exact h_s

theorem systemTick_within {A : Nat} {u : State} {frame : Nat} {s : State} (hM : Sub 0x41D1FC837BD7FE3F8F3646213DFFF7D A) (h_s : Within A
    u s) :
    Within A u (systemTick frame s) := by
  unfold systemTick
  refine fieldTick_within (Sub.trans (by decide) hM) ?_
  refine teleTick_within (Sub.trans (by decide) hM) ?_
  refine ledgerTick_within (Sub.trans (by decide) hM) ?_
  refine profileTick_within (Sub.trans (by decide) hM) ?_
  refine sluOrphans_within (Sub.trans (by decide) hM) ?_
  refine sluTick_within (Sub.trans (by decide) hM) ?_
  refine sluCycleTick_within (Sub.trans (by decide) hM) ?_
  refine slotSwap_within (Sub.trans (by decide) hM) ?_
  exact h_s

theorem frameWork_within {A : Nat} {u : State} {frame : Nat} {misaligned : List (Fin 32)} {s : State} (hM : Sub
    0x1FFFFFFFFFFFFFFFFFFFFFFFFFFFFFFFF A) (h_s : Within A u s) :
    Within A u (frameWork frame misaligned s) := by
  unfold frameWork
  extract_lets -merge -useContext +onlyGivenNames w_0 s_1
  have hs_1 : Within A u s_1 := by
    refine Within.events_ (Sub.bit hM (by decide)) ?_
    exact h_s
  refine foeServeAll_within (Sub.trans (by decide) hM) ?_
  refine sdoServeAll_within (Sub.trans (by decide) hM) ?_
  refine teleCapture_within (Sub.trans (by decide) hM) ?_
  refine serviceTick_within (Sub.trans (by decide) hM) ?_
  refine testTick_within (Sub.trans (by decide) hM) ?_
  refine systemTick_within (Sub.trans (by decide) hM) ?_
  exact hs_1

theorem execSync0Event_within {A : Nat} {u : State} {atPs : Nat} {misaligned : List (Fin 32)} {s : State} (hM : Sub
    0x1FFFFFFFFFFFFFFFFFFFFFFFFFFFFFFFF A) (h_s : Within A u s) :
    OutWithin A u (execSync0Event atPs misaligned s) := by
  unfold execSync0Event
  refine OutWithin.ite ?_ ?_
  · refine OutWithin.ok ?_
    exact h_s
  · extract_lets -merge -useContext +onlyGivenNames x_0
    have hx_0 : Within A u x_0.2 := by
      refine sync0_within (Sub.trans (by decide) hM) ?_
      exact h_s
    refine OutWithin.ok ?_
    refine Within.ite ?_ ?_
    · refine frameWork_within (Sub.trans (by decide) hM) ?_
      exact hx_0
    · exact hx_0

theorem execTickMissing_within {A : Nat} {u : State} {misaligned : List (Fin 32)} {s : State} (hM : Sub
    0x1FFFFFFFFFFFFFFFFFFFFFFFFFFFFFFFF A) (h_s : Within A u s) :
    OutWithin A u (execTickMissing misaligned s) := by
  unfold execTickMissing
  refine OutWithin.whenOk ?_ ?_
  · exact h_s
  · refine frameWork_within (Sub.trans (by decide) hM) ?_
    refine holdoverTick_within (Sub.trans (by decide) hM) ?_
    exact h_s

theorem execFrameTick_within {A : Nat} {u : State} {misaligned : List (Fin 32)} {s : State} (hM : Sub 0x1FFFFFFFFFFFFFFFFFFFFFFFFFFFFFFFF
    A) (h_s : Within A u s) :
    OutWithin A u (execFrameTick misaligned s) := by
  unfold execFrameTick
  refine OutWithin.ite ?_ ?_
  · refine OutWithin.ok ?_
    exact h_s
  · split
    · refine OutWithin.ok ?_
      refine frameWork_within (Sub.trans (by decide) hM) ?_
      refine OptWithin.get (by assumption) ?_
      refine ownTick_within (Sub.trans (by decide) hM) ?_
      exact h_s
    · refine OutWithin.ok ?_
      exact h_s

end Sys2Proof.Machine
end

