-- ==== Sys2Proof/Laws/WithinDispatch.lean ====
section
/-! SUPPORT. What each operation of Machine/Dispatch.lean can reach (see Laws/Within.lean). -/
set_option Elab.async false
namespace Sys2Proof.Machine

theorem exec_within {A : Nat} {u : State} {i : Instr} {s : State} (hM : Sub 0x1FFFFFFFFFFFFFFFFFFFFFFFFFFFFFFFF A) (h_s : Within A u s) :
    OutWithin A u (exec i s) := by
  unfold exec
  split
  · refine execRegisterWrite_within (Sub.trans (by decide) hM) ?_
    exact h_s
  · refine execProfileChangeRequest_within (Sub.trans (by decide) hM) ?_
    exact h_s
  · refine execQuietRegionReload_within (Sub.trans (by decide) hM) ?_
    exact h_s
  · refine execDomainTargetWrite_within (Sub.trans (by decide) hM) ?_
    exact h_s
  · refine execDomainReset_within (Sub.trans (by decide) hM) ?_
    exact h_s
  · refine execDresetQuiesceTimeout_within (Sub.trans (by decide) hM) ?_
    exact h_s
  · refine execDomainResetHoldEnd_within (Sub.trans (by decide) hM) ?_
    exact h_s
  · refine execDomainRampEnd_within (Sub.trans (by decide) hM) ?_
    exact h_s
  · refine execDomainQuiesced_within (Sub.trans (by decide) hM) ?_
    exact h_s
  · refine execLoweringForced_within (Sub.trans (by decide) hM) ?_
    exact h_s
  · refine execSluiceRequest_within (Sub.trans (by decide) hM) ?_
    exact h_s
  · refine execSluiceRelease_within (Sub.trans (by decide) hM) ?_
    exact h_s
  · refine execSluiceGrantCycle_within (Sub.trans (by decide) hM) ?_
    exact h_s
  · refine execSluiceRampStart_within (Sub.trans (by decide) hM) ?_
    exact h_s
  · refine execGrantOverdue_within (Sub.trans (by decide) hM) ?_
    exact h_s
  · refine execBallTrip_within (Sub.trans (by decide) hM) ?_
    exact h_s
  · refine execWiringTrip_within (Sub.trans (by decide) hM) ?_
    exact h_s
  · refine execFaultEventEnd_within (Sub.trans (by decide) hM) ?_
    exact h_s
  · refine execBallLatchClear_within (Sub.trans (by decide) hM) ?_
    exact h_s
  · refine execWiringLatchClear_within (Sub.trans (by decide) hM) ?_
    exact h_s
  · refine execEnergyLedgerStep_within (Sub.trans (by decide) hM) ?_
    exact h_s
  · refine execVinSag_within (Sub.trans (by decide) hM) ?_
    exact h_s
  · refine execBleed_within (Sub.trans (by decide) hM) ?_
    exact h_s
  · refine execReferenceLost_within (Sub.trans (by decide) hM) ?_
    exact h_s
  · refine execSourceStable_within (Sub.trans (by decide) hM) ?_
    exact h_s
  · refine execGeneratorLock_within (Sub.trans (by decide) hM) ?_
    exact h_s
  · refine execMuxSelect_within (Sub.trans (by decide) hM) ?_
    exact h_s
  · refine execMuxSwitch_within (Sub.trans (by decide) hM) ?_
    exact h_s
  · refine execMuxWaitExpiry_within (Sub.trans (by decide) hM) ?_
    exact h_s
  · refine execMuxForce_within (Sub.trans (by decide) hM) ?_
    exact h_s
  · refine execFabFrequencyChange_within (Sub.trans (by decide) hM) ?_
    exact h_s
  · refine execFabRelockDone_within (Sub.trans (by decide) hM) ?_
    exact h_s
  · refine execGateCloseRequest_within (Sub.trans (by decide) hM) ?_
    exact h_s
  · refine execGateAck_within (Sub.trans (by decide) hM) ?_
    exact h_s
  · refine execGateAckTimeout_within (Sub.trans (by decide) hM) ?_
    exact h_s
  · refine execGateOpen_within (Sub.trans (by decide) hM) ?_
    exact h_s
  · refine execClkmonConfig_within (Sub.trans (by decide) hM) ?_
    exact h_s
  · refine execFrameTick_within (Sub.trans (by decide) hM) ?_
    exact h_s
  · refine execSync0Event_within (Sub.trans (by decide) hM) ?_
    exact h_s
  · refine execTickMissing_within (Sub.trans (by decide) hM) ?_
    exact h_s
  · refine execFrameControlWrite_within (Sub.trans (by decide) hM) ?_
    exact h_s
  · refine execSlotShadowWrite_within (Sub.trans (by decide) hM) ?_
    exact h_s
  · refine execSlotArm_within (Sub.trans (by decide) hM) ?_
    exact h_s
  · refine execTelemetrySnapshot_within (Sub.trans (by decide) hM) ?_
    exact h_s
  · refine execColdReset_within (Sub.trans (by decide) hM) ?_
    exact h_s
  · refine execWarmReset_within (Sub.trans (by decide) hM) ?_
    exact h_s
  · refine execRstCtlWarm_within (Sub.trans (by decide) hM) ?_
    exact h_s
  · refine execCoreReset_within (Sub.trans (by decide) hM) ?_
    exact h_s
  · refine execWarmResetObject_within (Sub.trans (by decide) hM) ?_
    exact h_s
  · refine execDelayedWarmReset_within (Sub.trans (by decide) hM) ?_
    exact h_s
  · refine execBootStepEnd_within (Sub.trans (by decide) hM) ?_
    exact h_s
  · refine execTapReset_within (Sub.trans (by decide) hM) ?_
    exact h_s
  · refine execBramRead_within (Sub.trans (by decide) hM) ?_
    exact h_s
  · refine execBramWrite_within (Sub.trans (by decide) hM) ?_
    exact h_s
  · refine execBramWriteback_within (Sub.trans (by decide) hM) ?_
    exact h_s
  · refine execBramScrubWord_within (Sub.trans (by decide) hM) ?_
    exact h_s
  · refine execFlipArm_within (Sub.trans (by decide) hM) ?_
    exact h_s
  · refine execTapDrain_within (Sub.trans (by decide) hM) ?_
    exact h_s
  · refine execDataInWrite_within (Sub.trans (by decide) hM) ?_
    exact h_s
  · refine execTargetPortRequest_within (Sub.trans (by decide) hM) ?_
    exact h_s
  · refine execTargetPortTimeout_within (Sub.trans (by decide) hM) ?_
    exact h_s
  · refine execLoaderStage_within (Sub.trans (by decide) hM) ?_
    exact h_s
  · refine execLoaderLoad_within (Sub.trans (by decide) hM) ?_
    exact h_s
  · refine execLoaderInvalidate_within (Sub.trans (by decide) hM) ?_
    exact h_s
  · refine execLoaderDispatch_within (Sub.trans (by decide) hM) ?_
    exact h_s
  · refine execStageComplete_within (Sub.trans (by decide) hM) ?_
    exact h_s
  · refine execLoadGrantIssued_within (Sub.trans (by decide) hM) ?_
    exact h_s
  · refine execLoadDrainEnd_within (Sub.trans (by decide) hM) ?_
    exact h_s
  · refine execLoadRecordWrite_within (Sub.trans (by decide) hM) ?_
    exact h_s
  · refine execLoadComplete_within (Sub.trans (by decide) hM) ?_
    exact h_s
  · refine execRillSlice_within (Sub.trans (by decide) hM) ?_
    exact h_s
  · refine execRillPassRequest_within (Sub.trans (by decide) hM) ?_
    exact h_s
  · refine execRillPassComplete_within (Sub.trans (by decide) hM) ?_
    exact h_s
  · refine execJetConfigWrite_within (Sub.trans (by decide) hM) ?_
    exact h_s
  · refine execJetLevelWrite_within (Sub.trans (by decide) hM) ?_
    exact h_s
  · refine execJetCycle_within (Sub.trans (by decide) hM) ?_
    exact h_s
  · refine execBlockClear_within (Sub.trans (by decide) hM) ?_
    exact h_s
  · refine execBankMaxrateWrite_within (Sub.trans (by decide) hM) ?_
    exact h_s
  · refine execPmuModeWrite_within (Sub.trans (by decide) hM) ?_
    exact h_s
  · refine execPmuConnect_within (Sub.trans (by decide) hM) ?_
    exact h_s
  · refine execPmuSample_within (Sub.trans (by decide) hM) ?_
    exact h_s
  · refine execPmuClamp_within (Sub.trans (by decide) hM) ?_
    exact h_s
  · refine execSpareForWrite_within (Sub.trans (by decide) hM) ?_
    exact h_s
  · refine execPeriodWrite_within (Sub.trans (by decide) hM) ?_
    exact h_s
  · refine execTimingSetCommit_within (Sub.trans (by decide) hM) ?_
    exact h_s
  · refine execTimingSetRecordWrite_within (Sub.trans (by decide) hM) ?_
    exact h_s
  · refine execBankRealign_within (Sub.trans (by decide) hM) ?_
    exact h_s
  · refine execWitnessEdge_within (Sub.trans (by decide) hM) ?_
    exact h_s
  · refine execWeirCorrectionDelivery_within (Sub.trans (by decide) hM) ?_
    exact h_s
  · refine execWeirCalibrate_within (Sub.trans (by decide) hM) ?_
    exact h_s
  · refine execWeirCalibrationEnd_within (Sub.trans (by decide) hM) ?_
    exact h_s
  · refine execWeirSave_within (Sub.trans (by decide) hM) ?_
    exact h_s
  · refine execWeirSaveEnd_within (Sub.trans (by decide) hM) ?_
    exact h_s
  · refine execSeqStart_within (Sub.trans (by decide) hM) ?_
    exact h_s
  · refine execSeqStop_within (Sub.trans (by decide) hM) ?_
    exact h_s
  · refine execSeqAbort_within (Sub.trans (by decide) hM) ?_
    exact h_s
  · refine execSeqPause_within (Sub.trans (by decide) hM) ?_
    exact h_s
  · refine execSeqResume_within (Sub.trans (by decide) hM) ?_
    exact h_s
  · refine execSeqStartTick_within (Sub.trans (by decide) hM) ?_
    exact h_s
  · refine execCycleIssue_within (Sub.trans (by decide) hM) ?_
    exact h_s
  · refine execVectorUnderrun_within (Sub.trans (by decide) hM) ?_
    exact h_s
  · refine execPatternEnd_within (Sub.trans (by decide) hM) ?_
    exact h_s
  · refine execSeqResumeStart_within (Sub.trans (by decide) hM) ?_
    exact h_s
  · refine execPauseWarnExpiry_within (Sub.trans (by decide) hM) ?_
    exact h_s
  · refine execPageLoadDone_within (Sub.trans (by decide) hM) ?_
    exact h_s
  · refine execVectorPrefetch_within (Sub.trans (by decide) hM) ?_
    exact h_s
  · refine execSeqResultSeen_within (Sub.trans (by decide) hM) ?_
    exact h_s
  · refine execVec_within (Sub.trans (by decide) hM) ?_
    exact h_s
  · refine execJmp_within (Sub.trans (by decide) hM) ?_
    exact h_s
  · refine execCall_within (Sub.trans (by decide) hM) ?_
    exact h_s
  · refine execRet_within (Sub.trans (by decide) hM) ?_
    exact h_s
  · refine execLoop_within (Sub.trans (by decide) hM) ?_
    exact h_s
  · refine execEndl_within (Sub.trans (by decide) hM) ?_
    exact h_s
  · refine execJfail_within (Sub.trans (by decide) hM) ?_
    exact h_s
  · refine execJc_within (Sub.trans (by decide) hM) ?_
    exact h_s
  · refine execSeqMatch_within (Sub.trans (by decide) hM) ?_
    exact h_s
  · refine execMatchTimeout_within (Sub.trans (by decide) hM) ?_
    exact h_s
  · refine execFwait_within (Sub.trans (by decide) hM) ?_
    exact h_s
  · refine execFwaitEnd_within (Sub.trans (by decide) hM) ?_
    exact h_s
  · refine execSlu_within (Sub.trans (by decide) hM) ?_
    exact h_s
  · refine execSluTimeout_within (Sub.trans (by decide) hM) ?_
    exact h_s
  · refine execSlurel_within (Sub.trans (by decide) hM) ?_
    exact h_s
  · refine execSetr_within (Sub.trans (by decide) hM) ?_
    exact h_s
  · refine execClrf_within (Sub.trans (by decide) hM) ?_
    exact h_s
  · refine execDclose_within (Sub.trans (by decide) hM) ?_
    exact h_s
  · refine execMark_within (Sub.trans (by decide) hM) ?_
    exact h_s
  · refine execPref_within (Sub.trans (by decide) hM) ?_
    exact h_s
  · refine execStop_within (Sub.trans (by decide) hM) ?_
    exact h_s
  · refine execIllegalOpcode_within (Sub.trans (by decide) hM) ?_
    exact h_s
  · refine execCycleResultComplete_within (Sub.trans (by decide) hM) ?_
    exact h_s
  · refine execCloseMarker_within (Sub.trans (by decide) hM) ?_
    exact h_s
  · refine execFailDrain_within (Sub.trans (by decide) hM) ?_
    exact h_s
  · refine execDrainResume_within (Sub.trans (by decide) hM) ?_
    exact h_s
  · refine execMapOpen_within (Sub.trans (by decide) hM) ?_
    exact h_s
  · refine execMapClose_within (Sub.trans (by decide) hM) ?_
    exact h_s
  · refine execMapDiscard_within (Sub.trans (by decide) hM) ?_
    exact h_s
  · refine execSpillWritten_within (Sub.trans (by decide) hM) ?_
    exact h_s
  · refine execMapCleared_within (Sub.trans (by decide) hM) ?_
    exact h_s
  · refine execMapScrubWord_within (Sub.trans (by decide) hM) ?_
    exact h_s
  · refine execRaArm_within (Sub.trans (by decide) hM) ?_
    exact h_s
  · refine execRaCancel_within (Sub.trans (by decide) hM) ?_
    exact h_s
  · refine execMapAccept_within (Sub.trans (by decide) hM) ?_
    exact h_s
  · refine execListReadEnd_within (Sub.trans (by decide) hM) ?_
    exact h_s
  · refine execSearchEnd_within (Sub.trans (by decide) hM) ?_
    exact h_s
  · refine execRaRingWrite_within (Sub.trans (by decide) hM) ?_
    exact h_s
  · refine execRaRingResume_within (Sub.trans (by decide) hM) ?_
    exact h_s
  · refine execScMapWrite_within (Sub.trans (by decide) hM) ?_
    exact h_s
  · refine execScStart_within (Sub.trans (by decide) hM) ?_
    exact h_s
  · refine execScStopCommand_within (Sub.trans (by decide) hM) ?_
    exact h_s
  · refine execScMemoryAccess_within (Sub.trans (by decide) hM) ?_
    exact h_s
  · refine execScSampleArrival_within (Sub.trans (by decide) hM) ?_
    exact h_s
  · refine execScHostWrite_within (Sub.trans (by decide) hM) ?_
    exact h_s
  · refine execScInterrupt_within (Sub.trans (by decide) hM) ?_
    exact h_s
  · refine execScRingLineWrite_within (Sub.trans (by decide) hM) ?_
    exact h_s
  · refine execScScrubWord_within (Sub.trans (by decide) hM) ?_
    exact h_s
  · refine execNop_within (Sub.trans (by decide) hM) ?_
    exact h_s
  · refine execAlu_within (Sub.trans (by decide) hM) ?_
    exact h_s
  · refine execLdi_within (Sub.trans (by decide) hM) ?_
    exact h_s
  · refine execLdh_within (Sub.trans (by decide) hM) ?_
    exact h_s
  · refine execMac_within (Sub.trans (by decide) hM) ?_
    exact h_s
  · refine execAop_within (Sub.trans (by decide) hM) ?_
    exact h_s
  · refine execMva_within (Sub.trans (by decide) hM) ?_
    exact h_s
  · refine execLdst_within (Sub.trans (by decide) hM) ?_
    exact h_s
  · refine execLdsta_within (Sub.trans (by decide) hM) ?_
    exact h_s
  · refine execSetp_within (Sub.trans (by decide) hM) ?_
    exact h_s
  · refine execMvr_within (Sub.trans (by decide) hM) ?_
    exact h_s
  · refine execBr_within (Sub.trans (by decide) hM) ?_
    exact h_s
  · refine execJsr_within (Sub.trans (by decide) hM) ?_
    exact h_s
  · refine execRts_within (Sub.trans (by decide) hM) ?_
    exact h_s
  · refine execRti_within (Sub.trans (by decide) hM) ?_
    exact h_s
  · refine execScLoop_within (Sub.trans (by decide) hM) ?_
    exact h_s
  · refine execScIn_within (Sub.trans (by decide) hM) ?_
    exact h_s
  · refine execScOut_within (Sub.trans (by decide) hM) ?_
    exact h_s
  · refine execWaiti_within (Sub.trans (by decide) hM) ?_
    exact h_s
  · refine execScStop_within (Sub.trans (by decide) hM) ?_
    exact h_s
  · refine execHbmRequestIssue_within (Sub.trans (by decide) hM) ?_
    exact h_s
  · refine execHbmPromote_within (Sub.trans (by decide) hM) ?_
    exact h_s
  · refine execHbmTrainingEnd_within (Sub.trans (by decide) hM) ?_
    exact h_s
  · refine execHbmSelfRefreshExit_within (Sub.trans (by decide) hM) ?_
    exact h_s
  · refine execHbmRefresh_within (Sub.trans (by decide) hM) ?_
    exact h_s
  · refine execTargetedRefresh_within (Sub.trans (by decide) hM) ?_
    exact h_s
  · refine execHbmTemperature_within (Sub.trans (by decide) hM) ?_
    exact h_s
  · refine execHbmScrubLine_within (Sub.trans (by decide) hM) ?_
    exact h_s
  · refine execHbmRangePass_within (Sub.trans (by decide) hM) ?_
    exact h_s
  · refine execHbmRangePassEnd_within (Sub.trans (by decide) hM) ?_
    exact h_s
  · refine execHbmFlipArm_within (Sub.trans (by decide) hM) ?_
    exact h_s
  · refine execHbmErrlogPop_within (Sub.trans (by decide) hM) ?_
    exact h_s
  · refine execHbmAccessObject_within (Sub.trans (by decide) hM) ?_
    exact h_s
  · refine execEncEnable_within (Sub.trans (by decide) hM) ?_
    exact h_s
  · refine execEncDisable_within (Sub.trans (by decide) hM) ?_
    exact h_s
  · refine execEncRekey_within (Sub.trans (by decide) hM) ?_
    exact h_s
  · refine execRekeyLineMove_within (Sub.trans (by decide) hM) ?_
    exact h_s
  · refine execRekeyComplete_within (Sub.trans (by decide) hM) ?_
    exact h_s
  · refine execKeyRetired_within (Sub.trans (by decide) hM) ?_
    exact h_s
  · refine execKeyedRead_within (Sub.trans (by decide) hM) ?_
    exact h_s
  · refine execKeyedWrite_within (Sub.trans (by decide) hM) ?_
    exact h_s
  · refine execNodeWriteback_within (Sub.trans (by decide) hM) ?_
    exact h_s
  · refine execEncTreePass_within (Sub.trans (by decide) hM) ?_
    exact h_s
  · refine execEncTreePassEnd_within (Sub.trans (by decide) hM) ?_
    exact h_s
  · refine execNocRequest_within (Sub.trans (by decide) hM) ?_
    exact h_s
  · refine execNocResponse_within (Sub.trans (by decide) hM) ?_
    exact h_s
  · refine execNocTimeout_within (Sub.trans (by decide) hM) ?_
    exact h_s
  · refine execLinkError_within (Sub.trans (by decide) hM) ?_
    exact h_s
  · refine execCreditIdleReturn_within (Sub.trans (by decide) hM) ?_
    exact h_s
  · refine execRouterMaintEnter_within (Sub.trans (by decide) hM) ?_
    exact h_s
  · refine execRouterDrained_within (Sub.trans (by decide) hM) ?_
    exact h_s
  · refine execRouterDrainAbort_within (Sub.trans (by decide) hM) ?_
    exact h_s
  · refine execRouterMaintExit_within (Sub.trans (by decide) hM) ?_
    exact h_s
  · refine execArbRequest_within (Sub.trans (by decide) hM) ?_
    exact h_s
  · refine execArbRelease_within (Sub.trans (by decide) hM) ?_
    exact h_s
  · refine execArbBurstExpiry_within (Sub.trans (by decide) hM) ?_
    exact h_s
  · refine execArbCommit_within (Sub.trans (by decide) hM) ?_
    exact h_s
  · refine execLinkEnable_within (Sub.trans (by decide) hM) ?_
    exact h_s
  · refine execLinkDisable_within (Sub.trans (by decide) hM) ?_
    exact h_s
  · refine execLinkRetrain_within (Sub.trans (by decide) hM) ?_
    exact h_s
  · refine execLinkDetectProbe_within (Sub.trans (by decide) hM) ?_
    exact h_s
  · refine execTapChangeRequest_within (Sub.trans (by decide) hM) ?_
    exact h_s
  · refine execTrainEnd_within (Sub.trans (by decide) hM) ?_
    exact h_s
  · refine execTrainTimeout_within (Sub.trans (by decide) hM) ?_
    exact h_s
  · refine execSlip_within (Sub.trans (by decide) hM) ?_
    exact h_s
  · refine execLockEnd_within (Sub.trans (by decide) hM) ?_
    exact h_s
  · refine execLockTimeout_within (Sub.trans (by decide) hM) ?_
    exact h_s
  · refine execExchangeEnd_within (Sub.trans (by decide) hM) ?_
    exact h_s
  · refine execExchangeTimeout_within (Sub.trans (by decide) hM) ?_
    exact h_s
  · refine execLinkFailBackoff_within (Sub.trans (by decide) hM) ?_
    exact h_s
  · refine execFlitSend_within (Sub.trans (by decide) hM) ?_
    exact h_s
  · refine execFlitReceive_within (Sub.trans (by decide) hM) ?_
    exact h_s
  · refine execLinkSleep_within (Sub.trans (by decide) hM) ?_
    exact h_s
  · refine execLinkWake_within (Sub.trans (by decide) hM) ?_
    exact h_s
  · refine execPrbsInject_within (Sub.trans (by decide) hM) ?_
    exact h_s
  · refine execCasSend_within (Sub.trans (by decide) hM) ?_
    exact h_s
  · refine execMessageReceive_within (Sub.trans (by decide) hM) ?_
    exact h_s
  · refine execTimeFlitSend_within (Sub.trans (by decide) hM) ?_
    exact h_s
  · refine execTimeFlitReceive_within (Sub.trans (by decide) hM) ?_
    exact h_s
  · refine execEchoReceive_within (Sub.trans (by decide) hM) ?_
    exact h_s
  · refine execBankHandover_within (Sub.trans (by decide) hM) ?_
    exact h_s
  · refine execScratchpadAccess_within (Sub.trans (by decide) hM) ?_
    exact h_s
  · refine execSpScrubWord_within (Sub.trans (by decide) hM) ?_
    exact h_s
  · refine execSpSecurePass_within (Sub.trans (by decide) hM) ?_
    exact h_s
  · refine execSpSecurePassEnd_within (Sub.trans (by decide) hM) ?_
    exact h_s
  · refine execSpMarch_within (Sub.trans (by decide) hM) ?_
    exact h_s
  · refine execMarchEnd_within (Sub.trans (by decide) hM) ?_
    exact h_s
  · refine execMailboxDataWrite_within (Sub.trans (by decide) hM) ?_
    exact h_s
  · refine execMailboxPost_within (Sub.trans (by decide) hM) ?_
    exact h_s
  · refine execMailboxAck_within (Sub.trans (by decide) hM) ?_
    exact h_s
  · refine execMailboxTimeout_within (Sub.trans (by decide) hM) ?_
    exact h_s
  · refine execCoreInterrupt_within (Sub.trans (by decide) hM) ?_
    exact h_s
  · refine execLockAcquire_within (Sub.trans (by decide) hM) ?_
    exact h_s
  · refine execLockRelease_within (Sub.trans (by decide) hM) ?_
    exact h_s
  · refine execLeaseExpiry_within (Sub.trans (by decide) hM) ?_
    exact h_s
  · refine execWdKick_within (Sub.trans (by decide) hM) ?_
    exact h_s
  · refine execWatchdogExpiry_within (Sub.trans (by decide) hM) ?_
    exact h_s
  · refine execCrcConfig_within (Sub.trans (by decide) hM) ?_
    exact h_s
  · refine execCrcFold_within (Sub.trans (by decide) hM) ?_
    exact h_s
  · refine execCrcFeed_within (Sub.trans (by decide) hM) ?_
    exact h_s
  · refine execCrcResultRead_within (Sub.trans (by decide) hM) ?_
    exact h_s
  · refine execChallenge_within (Sub.trans (by decide) hM) ?_
    exact h_s
  · refine execOperatorSignIn_within (Sub.trans (by decide) hM) ?_
    exact h_s
  · refine execKeySignIn_within (Sub.trans (by decide) hM) ?_
    exact h_s
  · refine execSignInLockEnd_within (Sub.trans (by decide) hM) ?_
    exact h_s
  · refine execLifecycleTransition_within (Sub.trans (by decide) hM) ?_
    exact h_s
  · refine execLifecycleProgrammed_within (Sub.trans (by decide) hM) ?_
    exact h_s
  · refine execRmaConsent_within (Sub.trans (by decide) hM) ?_
    exact h_s
  · refine execTamperIndication_within (Sub.trans (by decide) hM) ?_
    exact h_s
  · refine execEditionStage_within (Sub.trans (by decide) hM) ?_
    exact h_s
  · refine execEditionCommit_within (Sub.trans (by decide) hM) ?_
    exact h_s
  · refine execEditionProgrammed_within (Sub.trans (by decide) hM) ?_
    exact h_s
  · refine execLedgerAppend_within (Sub.trans (by decide) hM) ?_
    exact h_s
  · refine execLedgerProgrammed_within (Sub.trans (by decide) hM) ?_
    exact h_s
  · refine execAttestationRequest_within (Sub.trans (by decide) hM) ?_
    exact h_s
  · refine execAttestationSigned_within (Sub.trans (by decide) hM) ?_
    exact h_s
  · refine execAuditAppend_within (Sub.trans (by decide) hM) ?_
    exact h_s
  · refine execAlStateRequest_within (Sub.trans (by decide) hM) ?_
    exact h_s
  · refine execSdoRequest_within (Sub.trans (by decide) hM) ?_
    exact h_s
  · refine execSignOut_within (Sub.trans (by decide) hM) ?_
    exact h_s
  · refine execSessionIdleTimeout_within (Sub.trans (by decide) hM) ?_
    exact h_s
  · refine execRestoreDefaults_within (Sub.trans (by decide) hM) ?_
    exact h_s
  · refine execTxpdoPublish_within (Sub.trans (by decide) hM) ?_
    exact h_s
  · refine execRxpdoApply_within (Sub.trans (by decide) hM) ?_
    exact h_s
  · refine execSmWatchdogExpiry_within (Sub.trans (by decide) hM) ?_
    exact h_s
  · refine execFoeWrite_within (Sub.trans (by decide) hM) ?_
    exact h_s
  · refine execFoeRead_within (Sub.trans (by decide) hM) ?_
    exact h_s
  · refine execFoeBootstrapWrite_within (Sub.trans (by decide) hM) ?_
    exact h_s
  · refine execDapRequest_within (Sub.trans (by decide) hM) ?_
    exact h_s
  · refine execDebugChallenge_within (Sub.trans (by decide) hM) ?_
    exact h_s
  · refine execDebugPassword_within (Sub.trans (by decide) hM) ?_
    exact h_s
  · refine execDebugKey_within (Sub.trans (by decide) hM) ?_
    exact h_s
  · refine execDebugSignOut_within (Sub.trans (by decide) hM) ?_
    exact h_s
  · refine execDebugSessionIdle_within (Sub.trans (by decide) hM) ?_
    exact h_s
  · refine execCoreHalt_within (Sub.trans (by decide) hM) ?_
    exact h_s
  · refine execCoreResume_within (Sub.trans (by decide) hM) ?_
    exact h_s
  · refine execCoreStep_within (Sub.trans (by decide) hM) ?_
    exact h_s
  · refine execFreezeTest_within (Sub.trans (by decide) hM) ?_
    exact h_s
  · refine execTraceEnable_within (Sub.trans (by decide) hM) ?_
    exact h_s
  · refine execStimulusWrite_within (Sub.trans (by decide) hM) ?_
    exact h_s
  · refine execTracePacket_within (Sub.trans (by decide) hM) ?_
    exact h_s
  · refine execLeapRequest_within (Sub.trans (by decide) hM) ?_
    exact h_s
  · refine execLeapStepAdvance_within (Sub.trans (by decide) hM) ?_
    exact h_s
  · refine execHealthCandidate_within (Sub.trans (by decide) hM) ?_
    exact h_s
  · refine execThermalThreshold_within (Sub.trans (by decide) hM) ?_
    exact h_s
  · refine execResetRelease_within (Sub.trans (by decide) hM) ?_
    exact h_s
  · refine execVinRise_within (Sub.trans (by decide) hM) ?_
    exact h_s
  · refine execBallFaultOnset_within (Sub.trans (by decide) hM) ?_
    exact h_s
  · refine execSymbolLockLoss_within (Sub.trans (by decide) hM) ?_
    exact h_s
  · refine execPrbsCheckerLock_within (Sub.trans (by decide) hM) ?_
    exact h_s
  · refine execEcatPortLink_within (Sub.trans (by decide) hM) ?_
    exact h_s
  · refine execSm2ImageWrite_within (Sub.trans (by decide) hM) ?_
    exact h_s
  · refine execTapUpdate_within (Sub.trans (by decide) hM) ?_
    exact h_s
  · refine execTraceFifoDrain_within (Sub.trans (by decide) hM) ?_
    exact h_s
  · refine execSecureWipeEnd_within (Sub.trans (by decide) hM) ?_
    exact h_s
  · refine execDebugAuthDone_within (Sub.trans (by decide) hM) ?_
    exact h_s

end Sys2Proof.Machine
end

