-- ==== Sys2Proof/Laws/Frames.lean ====
section
/-! SUPPORT. From the reach of an operation (`Within`, Laws/Within.lean) to the terms of statements (Safety.lean): `Sound`, `Frame`,
`OnlyGains`. A `Frame` follows from a mask whose bits all name listed parts and blocks. -/
set_option Elab.async false
namespace Sys2Proof.Machine

theorem sound_iff (s : State) : Sound s ↔ s.Canon := by
  simp only [Sound, keysRise_iff, wf_iff]
  constructor
  · rintro ⟨h0, h1, h2, h3, h4, h5, h6, h7, h8, h9⟩
    exact ⟨h0, h1, h2, h3, h4, h5, h6, h7, h8, h9⟩
  · rintro ⟨h0, h1, h2, h3, h4, h5, h6, h7, h8, h9⟩
    exact ⟨h0, h1, h2, h3, h4, h5, h6, h7, h8, h9⟩

theorem Sound.rising {s : State} (h : Sound s) : Sparse.Rising s.regs := ((sound_iff s).1 h).regs

theorem Within.sound {A : Nat} {s t : State} (h : Within A s t) (hs : Sound s) : Sound t :=
  (sound_iff t).2 (h.canon ((sound_iff s).1 hs))

/-- Every bit of the mask below bit 32 is the number of a listed part, every other the place of a listed block. -/
def maskListed (A : Nat) (parts : List Part) (blocks : List Block) : Bool :=
  (List.range 32).all (fun i => !A.testBit i || parts.any (fun p => p.ctorIdx == i)) &&
    (List.range 97).all (fun i => !A.testBit (32 + i) || blocks.any (fun b => b.index == i))

theorem Within.part_same {A : Nat} {s t : State} (h : Within A s t) {p : Part} (hp : A.testBit p.ctorIdx = false) : p.same s t := by
  cases p
  · exact h.resp hp
  · exact h.bootMs hp
  · exact h.events hp
  · exact h.trace hp
  · exact h.power hp
  · exact h.profile hp
  · exact h.clock hp
  · exact h.pins hp
  · exact h.jets hp
  · exact h.edge hp
  · exact h.weir hp
  · exact h.hbm hp
  · exact h.enc hp
  · exact h.seqs hp
  · exact h.ports hp
  · exact h.fail hp
  · exact h.ra hp
  · exact h.sc hp
  · exact h.noc hp
  · exact h.fab hp
  · exact h.ldr hp
  · exact h.flash hp
  · exact h.cluster hp
  · exact h.casc hp
  · exact h.sec hp
  · exact h.boot hp
  · exact h.dbg hp
  · exact h.leap hp
  · exact h.field hp

theorem Part.ctorIdx_lt (p : Part) : p.ctorIdx < 29 := by cases p <;> decide

theorem Part.eq_of_ctorIdx {p q : Part} (h : p.ctorIdx = q.ctorIdx) : p = q := by
  cases p <;> cases q <;> first | rfl | exact absurd h (by decide)

/-- A field keeps its value where the mask does not reach its block. -/
theorem Within.get {A : Nat} {s t : State} (h : Within A s t) {f : Fld} (hf : A.testBit (winBit f.key) = false) : t.get f = s.get f := by
  unfold State.get regGet spGetD
  rw [h.regs f.key hf]

/-- The frame that a mask gives. -/
theorem Within.frame {A : Nat} {s t : State} (h : Within A s t) {parts : List Part} {blocks : List Block}
    (hA : maskListed A parts blocks = true) : Frame parts blocks s t := by
  unfold maskListed at hA
  simp only [Bool.and_eq_true, List.all_eq_true, List.mem_range, Bool.or_eq_true, Bool.not_eq_true', List.any_eq_true, beq_iff_eq] at hA
  refine ⟨h.pending, fun p hp => h.part_same ?_, fun f hf => h.get ?_⟩
  · rcases hA.1 p.ctorIdx (by have := p.ctorIdx_lt; omega) with e | ⟨q, hq, e⟩
    · exact e
    · exact absurd (Part.eq_of_ctorIdx e ▸ hq) hp
  · have hk := winBit_le f.key
    unfold winBit at hk ⊢
    rcases hA.2 (blockIndex f.key) (by omega) with e | ⟨b, hb, e⟩
    · exact e
    · exact absurd e.symm (hf b hb)

/-- Every command answers a next state within the mask of all parts and blocks. -/
theorem exec_next (i : Instr) (s : State) : ∃ t, exec i s = .next t ∧ Within 0x1FFFFFFFFFFFFFFFFFFFFFFFFFFFFFFFF s t :=
  exec_within (Sub.refl _) (Within.refl _ s)

theorem Otp.gains {s t : State} (h : Otp s.sec t.sec) : OnlyGains s t :=
  ⟨h.used, h.editions, h.ledgerUsed, h.ledger, h.lc, h.secret⟩

end Sys2Proof.Machine
end

