-- ==== Sys2Proof/WellFormed.lean ====
section
/-! DEFINITION. Which commands are well-formed: operands within the widths the spec gives the registers, objects and packets they go to.
The meanings are total: an operand out of its range is answered as its register answers it, or cut to its field. -/
namespace Sys2Proof

/-- The value has at most `w` bits. -/
def fits (w v : Nat) : Bool := decide (v < 2 ^ w)

/-- The widths of a register access (R6, R531). -/
def widthOk (w : Nat) : Bool := w == 8 || w == 16 || w == 32 || w == 64

/-- The width of a level register (chapter 08). -/
def levelBits : LevelReg → Nat
  | .drv => 64
  | .cmp => 64
  | .load => 32
  | .pmuForce => 32
  | .pmuIclamp => 32
  | .pmuVclamp => 32

/-- The width of a feed register (R455). -/
def feedBits : FeedWidth → Nat
  | .byte => 8
  | .half => 16
  | .word => 32

/-- A block-memory port's write: at most 72 data bits in one of 32,768 words (chapter 06). -/
def bramOk : Option BramWr → Bool
  | none => true
  | some w => fits 15 w.word && fits 72 w.data

/-- A NoC request as its packet carries it (R382). -/
def packetFits (p : Packet) : Bool := fits 48 p.addr && fits 4 p.len && fits 64 p.value && decide (p.data.length ≤ 256)

/-- A scratchpad access has a register's width (R435). -/
def accessFits : SpAccess → Bool
  | .read addr w => fits 48 addr && widthOk w
  | .write addr w v => fits 48 addr && widthOk w && fits w v
  | .both ra rw wa ww v => fits 48 ra && widthOk rw && fits 48 wa && widthOk ww && fits ww v

/-- An SDO request's index and sub-index (R493). -/
def sdoFits : Sdo → Bool
  | .upload i s => fits 16 i && fits 8 s
  | .download i s _ => fits 16 i && fits 8 s
  | .uploadAll i => fits 16 i
  | .downloadAll i _ => fits 16 i
  | .describe i s => fits 16 i && fits 8 s

/-- A well-formed command. -/
def Instr.wellFormed : Instr → Bool
  | .registerWrite _ addr width value => widthOk width && decide (addr < 2 ^ 48) && decide (value < 2 ^ width)
  | .profileChangeRequest _ _ req => decide (req < 256)
  | .quietRegionReload _ => true
  | .domainTargetWrite _ _ target => decide (target < 4)
  | .domainReset _ _ => true
  | .dresetQuiesceTimeout _ => true
  | .domainResetHoldEnd _ => true
  | .domainRampEnd _ => true
  | .domainQuiesced _ => true
  | .loweringForced _ => true
  | .sluiceRequest _ value => fits 64 value
  | .sluiceRelease _ ticket => fits 32 ticket
  | .sluiceGrantCycle visits => decide (visits ≤ 128)
  | .sluiceRampStart => true
  | .grantOverdue _ => true
  | .ballTrip _ _ => true
  | .wiringTrip _ => true
  | .faultEventEnd _ => true
  | .ballLatchClear _ _ mask => fits 32 mask
  | .wiringLatchClear _ => true
  | .energyLedgerStep samples _ => samples.all (fun x => fits 32 x.total && fits 24 x.fault)
  | .vinSag => true
  | .bleed => true
  | .referenceLost _ => true
  | .sourceStable _ => true
  | .generatorLock => true
  | .muxSelect _ _ value => fits 32 value
  | .muxSwitch _ => true
  | .muxWaitExpiry _ => true
  | .muxForce _ _ => true
  | .fabFrequencyChange _ _ mhz => fits 32 mhz
  | .fabRelockDone _ => true
  | .gateCloseRequest _ _ => true
  | .gateAck _ => true
  | .gateAckTimeout _ => true
  | .gateOpen _ _ => true
  | .clkmonConfig _ value => fits 32 value
  | .frameTick _ => true
  | .sync0Event _ _ => true
  | .tickMissing _ => true
  | .frameControlWrite _ value => fits 32 value
  | .slotShadowWrite _ _ value => fits 32 value
  | .slotArm _ => true
  | .telemetrySnapshot => true
  | .coldReset => true
  | .warmReset => true
  | .rstCtlWarm _ key => fits 8 key
  | .coreReset _ key mask => fits 8 key && fits 4 mask
  | .warmResetObject _ value => fits 8 value
  | .delayedWarmReset => true
  | .bootStepEnd _ _ => true
  | .tapReset => true
  | .bramRead _ mem _ access _ => decide (mem < 2048) && fits 15 access.word && bramOk access.other
  | .bramWrite _ mem pa pb => decide (mem < 2048) && bramOk pa && bramOk pb
  | .bramWriteback _ mem word => decide (mem < 2048) && fits 15 word
  | .bramScrubWord _ _ _ => true
  | .flipArm _ _ value => fits 32 value
  | .tapDrain _ _ => true
  | .dataInWrite _ word => fits 64 word
  | .targetPortRequest _ addr answer => fits 48 addr && (match answer with | some x => decide (x.data.length ≤ 256) | none => true)
  | .targetPortTimeout _ => true
  | .loaderStage _ _ => true
  | .loaderLoad _ _ => true
  | .loaderInvalidate _ _ => true
  | .loaderDispatch => true
  | .stageComplete _ => true
  | .loadGrantIssued => true
  | .loadDrainEnd _ => true
  | .loadRecordWrite _ => true
  | .loadComplete => true
  | .rillSlice _ upsets => upsets.all (fun u => decide (u.frame < 36864) && decide (u.word < 512))
  | .rillPassRequest _ => true
  | .rillPassComplete => true
  | .jetConfigWrite _ _ value => fits 32 value
  | .jetLevelWrite _ _ reg value => fits (levelBits reg) value
  | .jetCycle _ _ _ => true
  | .blockClear _ _ mask => fits 32 mask
  | .bankMaxrateWrite _ _ code => fits 2 code
  | .pmuModeWrite _ _ value => fits 32 value
  | .pmuConnect _ => true
  | .pmuSample _ _ _ => true
  | .pmuClamp _ _ => true
  | .spareForWrite _ _ ball => fits 5 ball
  | .periodWrite _ _ _ value => fits 32 value
  | .timingSetCommit _ _ value => fits 32 value
  | .timingSetRecordWrite _ record => record.length == 32
  | .bankRealign _ _ => true
  | .witnessEdge _ _ => true
  | .weirCorrectionDelivery _ => true
  | .weirCalibrate _ => true
  | .weirCalibrationEnd _ => true
  | .weirSave _ => true
  | .weirSaveEnd _ _ _ => true
  | .seqStart _ _ value _ => fits 32 value
  | .seqStop _ _ => true
  | .seqAbort _ _ _ => true
  | .seqPause _ _ => true
  | .seqResume _ _ => true
  | .seqStartTick _ => true
  | .cycleIssue _ => true
  | .vectorUnderrun _ => true
  | .patternEnd _ => true
  | .seqResumeStart _ => true
  | .pauseWarnExpiry _ => true
  | .pageLoadDone _ _ _ => true
  | .vectorPrefetch _ _ => true
  | .seqResultSeen _ => true
  | .vec _ => true
  | .jmp _ => true
  | .call _ => true
  | .ret _ => true
  | .loop _ => true
  | .endl _ => true
  | .jfail _ => true
  | .jc _ => true
  | .seqMatch _ => true
  | .matchTimeout _ => true
  | .fwait _ => true
  | .fwaitEnd _ => true
  | .slu _ => true
  | .sluTimeout _ => true
  | .slurel _ => true
  | .setr _ => true
  | .clrf _ => true
  | .dclose _ => true
  | .mark _ => true
  | .pref _ => true
  | .stop _ => true
  | .illegalOpcode _ => true
  | .cycleResultComplete _ => true
  | .closeMarker _ => true
  | .failDrain _ _ => true
  | .drainResume _ _ => true
  | .mapOpen _ _ _ => true
  | .mapClose _ _ => true
  | .mapDiscard _ _ => true
  | .spillWritten _ _ => true
  | .mapCleared _ => true
  | .mapScrubWord _ word _ => decide (word < 24576)
  | .raArm _ _ => true
  | .raCancel _ _ => true
  | .mapAccept => true
  | .listReadEnd _ => true
  | .searchEnd _ => true
  | .raRingWrite _ => true
  | .raRingResume _ => true
  | .scMapWrite _ _ phys => fits 6 phys
  | .scStart _ _ value => fits 32 value
  | .scStopCommand _ _ => true
  | .scMemoryAccess _ _ _ word write => fits 15 word && (match write with | some v => fits 32 v | none => true)
  | .scSampleArrival _ _ sample _ _ => fits 24 sample
  | .scHostWrite _ _ value => fits 32 value
  | .scInterrupt _ => true
  | .scRingLineWrite _ _ => true
  | .scScrubWord _ _ word _ => fits 15 word
  | .nop _ => true
  | .alu _ => true
  | .ldi _ => true
  | .ldh _ => true
  | .mac _ => true
  | .aop _ => true
  | .mva _ => true
  | .ldst _ => true
  | .ldsta _ => true
  | .setp _ => true
  | .mvr _ => true
  | .br _ => true
  | .jsr _ => true
  | .rts _ => true
  | .rti _ => true
  | .scLoop _ => true
  | .scIn _ => true
  | .scOut _ => true
  | .waiti _ => true
  | .scStop _ => true
  | .hbmRequestIssue _ _ => true
  | .hbmPromote _ => true
  | .hbmTrainingEnd _ _ => true
  | .hbmSelfRefreshExit => true
  | .hbmRefresh _ _ => true
  | .targetedRefresh _ row => decide (row < 32768)
  | .hbmTemperature _ => true
  | .hbmScrubLine _ => true
  | .hbmRangePass _ value => fits 64 value
  | .hbmRangePassEnd => true
  | .hbmFlipArm _ value => fits 64 value
  | .hbmErrlogPop _ => true
  | .hbmAccessObject addrField write => fits 64 addrField && (match write with | some b => b.length == 256 | none => true)
  | .encEnable _ _ => true
  | .encDisable _ _ => true
  | .encRekey _ _ => true
  | .rekeyLineMove _ => true
  | .rekeyComplete _ => true
  | .keyRetired _ => true
  | .keyedRead _ addr => decide (addr < 2 ^ 34)
  | .keyedWrite _ addr be data => decide (addr < 2 ^ 34) && fits 64 be && data.length == 64
  | .nodeWriteback _ level _ => decide (level < 7)
  | .encTreePass _ _ => true
  | .encTreePassEnd => true
  | .nocRequest _ pkt => packetFits pkt
  | .nocResponse _ _ => true
  | .nocTimeout _ => true
  | .linkError _ _ _ _ => true
  | .creditIdleReturn _ target => decide (target < 64)
  | .routerMaintEnter _ _ => true
  | .routerDrained _ => true
  | .routerDrainAbort _ => true
  | .routerMaintExit _ _ => true
  | .arbRequest _ _ _ _ => true
  | .arbRelease _ => true
  | .arbBurstExpiry _ => true
  | .arbCommit _ _ => true
  | .linkEnable _ _ value => fits 32 value
  | .linkDisable _ _ => true
  | .linkRetrain _ _ => true
  | .linkDetectProbe _ _ => true
  | .tapChangeRequest _ _ _ => true
  | .trainEnd _ eyes => fits 4 eyes
  | .trainTimeout _ => true
  | .slip _ _ => true
  | .lockEnd _ locked inverted => fits 4 locked && fits 4 inverted
  | .lockTimeout _ => true
  | .exchangeEnd _ cap => fits 16 cap.station && decide (cap.maxw ≤ 4) && fits 4 cap.lanes
  | .exchangeTimeout _ => true
  | .linkFailBackoff _ => true
  | .flitSend _ => true
  | .flitReceive _ _ _ f => fits 12 f.ackSeq && f.payload.length == 52
  | .linkSleep _ => true
  | .linkWake _ => true
  | .prbsInject _ _ => true
  | .casSend _ value => fits 64 value
  | .messageReceive _ => true
  | .timeFlitSend _ _ => true
  | .timeFlitReceive _ _ _ f => fits 48 f.count && fits 24 f.period
  | .echoReceive _ _ _ count => fits 48 count
  | .bankHandover _ _ owner => fits 6 owner
  | .scratchpadAccess _ acc _ => accessFits acc
  | .spScrubWord _ word _ => decide (word < 65536)
  | .spSecurePass _ value => fits 64 value
  | .spSecurePassEnd _ => true
  | .spMarch _ value => fits 32 value
  | .marchEnd _ => true
  | .mailboxDataWrite _ _ _ value => fits 32 value
  | .mailboxPost _ _ => true
  | .mailboxAck _ _ => true
  | .mailboxTimeout _ => true
  | .coreInterrupt _ mie => fits 64 mie
  | .lockAcquire _ _ lease => fits 16 lease
  | .lockRelease _ _ => true
  | .leaseExpiry _ => true
  | .wdKick _ _ key => fits 32 key
  | .watchdogExpiry _ => true
  | .crcConfig _ _ value => fits 32 value
  | .crcFold _ _ value => fits 32 value
  | .crcFeed _ _ width value => fits (feedBits width) value
  | .crcResultRead _ _ => true
  | .challenge addr => fits 16 addr
  | .operatorSignIn addr password => fits 16 addr && decide (8 ≤ password.length) && decide (password.length ≤ 64)
  | .keySignIn addr response => fits 16 addr && response.length == 7220
  | .signInLockEnd _ => true
  | .lifecycleTransition _ target => fits 8 target
  | .lifecycleProgrammed => true
  | .rmaConsent _ value => fits 1 value
  | .tamperIndication _ => true
  | .editionStage _ bytes => bytes.length == 4096
  | .editionCommit _ value => fits 64 value
  | .editionProgrammed _ => true
  | .ledgerAppend _ bytes => bytes.length == 10
  | .ledgerProgrammed _ => true
  | .attestationRequest _ nonce => nonce.length == 64
  | .attestationSigned => true
  | .auditAppend _ => true
  | .alStateRequest target _ _ => fits 4 target
  | .sdoRequest addr req _ => fits 16 addr && sdoFits req
  | .signOut addr => fits 16 addr
  | .sessionIdleTimeout addr => fits 16 addr
  | .restoreDefaults _ value => fits 32 value
  | .txpdoPublish => true
  | .rxpdoApply _ => true
  | .smWatchdogExpiry => true
  | .foeWrite addr _ password _ _ => fits 16 addr && fits 32 password
  | .foeRead addr _ password => fits 16 addr && fits 32 password
  | .foeBootstrapWrite _ password _ _ => fits 32 password
  | .dapRequest _ => true
  | .debugChallenge _ => true
  | .debugPassword _ len => fits 8 len
  | .debugKey _ => true
  | .debugSignOut _ => true
  | .debugSessionIdle => true
  | .coreHalt _ _ => true
  | .coreResume _ _ => true
  | .coreStep _ _ => true
  | .freezeTest _ mask => fits 16 mask
  | .traceEnable _ value => fits 64 value
  | .stimulusWrite _ _ _ width value => widthOk width && fits width value
  | .tracePacket => true
  | .leapRequest _ bytes => bytes.length == 9
  | .leapStepAdvance _ => true
  | .healthCandidate _ target => target.length == 8
  | .thermalThreshold _ => true
  | .resetRelease _ => true
  | .vinRise => true
  | .ballFaultOnset _ => true
  | .symbolLockLoss _ _ => true
  | .prbsCheckerLock _ _ => true
  | .ecatPortLink _ _ => true
  | .sm2ImageWrite image => decide (image.length ≤ 256)
  | .tapUpdate _ => true
  | .traceFifoDrain _ => true
  | .secureWipeEnd => true
  | .debugAuthDone => true

end Sys2Proof
end

