-- ==== Sys2Proof/Laws/PerInstr.lean ====
section
/-! SUPPORT. The family CommandForm: every command has a well-formed form, so that no constructor is shut out by `Instr.wellFormed`. -/
namespace Sys2Proof.Laws.CommandForm

/-- Some command of the same row is well-formed. -/
def Statement (i : Instr) : Prop := ∃ j : Instr, j.ctorIdx = i.ctorIdx ∧ j.wellFormed = true

theorem registerWrite (x0 : Agent) (x1 : Nat) (x2 : Nat) (x3 : Nat) : Statement (.registerWrite x0 x1 x2 x3) :=
  ⟨.registerWrite x0 0 8 0, rfl, rfl⟩
theorem profileChangeRequest (x0 : Agent) (x1 : Bool) (x2 : Nat) : Statement (.profileChangeRequest x0 x1 x2) :=
  ⟨.profileChangeRequest x0 x1 0, rfl, rfl⟩
theorem quietRegionReload (x0 : Fin 16) : Statement (.quietRegionReload x0) := ⟨_, rfl, rfl⟩
theorem domainTargetWrite (x0 : Agent) (x1 : Fin 96) (x2 : Nat) : Statement (.domainTargetWrite x0 x1 x2) :=
  ⟨.domainTargetWrite x0 x1 0, rfl, rfl⟩
theorem domainReset (x0 : Agent) (x1 : Fin 96) : Statement (.domainReset x0 x1) := ⟨_, rfl, rfl⟩
theorem dresetQuiesceTimeout (x0 : Fin 96) : Statement (.dresetQuiesceTimeout x0) := ⟨_, rfl, rfl⟩
theorem domainResetHoldEnd (x0 : Fin 96) : Statement (.domainResetHoldEnd x0) := ⟨_, rfl, rfl⟩
theorem domainRampEnd (x0 : Fin 96) : Statement (.domainRampEnd x0) := ⟨_, rfl, rfl⟩
theorem domainQuiesced (x0 : Fin 96) : Statement (.domainQuiesced x0) := ⟨_, rfl, rfl⟩
theorem loweringForced (x0 : Fin 96) : Statement (.loweringForced x0) := ⟨_, rfl, rfl⟩
theorem sluiceRequest (x0 : Agent) (x1 : Nat) : Statement (.sluiceRequest x0 x1) :=
  ⟨.sluiceRequest x0 0, rfl, rfl⟩
theorem sluiceRelease (x0 : Agent) (x1 : Nat) : Statement (.sluiceRelease x0 x1) :=
  ⟨.sluiceRelease x0 0, rfl, rfl⟩
theorem sluiceGrantCycle (x0 : Nat) : Statement (.sluiceGrantCycle x0) :=
  ⟨.sluiceGrantCycle 0, rfl, rfl⟩
theorem sluiceRampStart : Statement (.sluiceRampStart) := ⟨_, rfl, rfl⟩
theorem grantOverdue (x0 : Fin 128) : Statement (.grantOverdue x0) := ⟨_, rfl, rfl⟩
theorem ballTrip (x0 : Fin 512) (x1 : Nat) : Statement (.ballTrip x0 x1) := ⟨_, rfl, rfl⟩
theorem wiringTrip (x0 : Nat) : Statement (.wiringTrip x0) := ⟨_, rfl, rfl⟩
theorem faultEventEnd (x0 : Fin 512) : Statement (.faultEventEnd x0) := ⟨_, rfl, rfl⟩
theorem ballLatchClear (x0 : Agent) (x1 : Fin 32) (x2 : Nat) : Statement (.ballLatchClear x0 x1 x2) :=
  ⟨.ballLatchClear x0 x1 0, rfl, rfl⟩
theorem wiringLatchClear (x0 : Agent) : Statement (.wiringLatchClear x0) := ⟨_, rfl, rfl⟩
theorem energyLedgerStep (x0 : List EnergySample) (x1 : Nat) : Statement (.energyLedgerStep x0 x1) :=
  ⟨.energyLedgerStep [] x1, rfl, rfl⟩
theorem vinSag : Statement (.vinSag) := ⟨_, rfl, rfl⟩
theorem bleed : Statement (.bleed) := ⟨_, rfl, rfl⟩
theorem referenceLost (x0 : Fin 3) : Statement (.referenceLost x0) := ⟨_, rfl, rfl⟩
theorem sourceStable (x0 : Fin 3) : Statement (.sourceStable x0) := ⟨_, rfl, rfl⟩
theorem generatorLock : Statement (.generatorLock) := ⟨_, rfl, rfl⟩
theorem muxSelect (x0 : Agent) (x1 : Fin 5) (x2 : Nat) : Statement (.muxSelect x0 x1 x2) :=
  ⟨.muxSelect x0 x1 0, rfl, rfl⟩
theorem muxSwitch (x0 : Fin 5) : Statement (.muxSwitch x0) := ⟨_, rfl, rfl⟩
theorem muxWaitExpiry (x0 : Fin 5) : Statement (.muxWaitExpiry x0) := ⟨_, rfl, rfl⟩
theorem muxForce (x0 : Agent) (x1 : Fin 5) : Statement (.muxForce x0 x1) := ⟨_, rfl, rfl⟩
theorem fabFrequencyChange (x0 : Agent) (x1 : Fin 4) (x2 : Nat) : Statement (.fabFrequencyChange x0 x1 x2) :=
  ⟨.fabFrequencyChange x0 x1 0, rfl, rfl⟩
theorem fabRelockDone (x0 : Fin 4) : Statement (.fabRelockDone x0) := ⟨_, rfl, rfl⟩
theorem gateCloseRequest (x0 : Agent) (x1 : Fin 96) : Statement (.gateCloseRequest x0 x1) := ⟨_, rfl, rfl⟩
theorem gateAck (x0 : Fin 96) : Statement (.gateAck x0) := ⟨_, rfl, rfl⟩
theorem gateAckTimeout (x0 : Fin 96) : Statement (.gateAckTimeout x0) := ⟨_, rfl, rfl⟩
theorem gateOpen (x0 : Agent) (x1 : Fin 96) : Statement (.gateOpen x0 x1) := ⟨_, rfl, rfl⟩
theorem clkmonConfig (x0 : Agent) (x1 : Nat) : Statement (.clkmonConfig x0 x1) :=
  ⟨.clkmonConfig x0 0, rfl, rfl⟩
theorem frameTick (x0 : List (Fin 32)) : Statement (.frameTick x0) := ⟨_, rfl, rfl⟩
theorem sync0Event (x0 : Nat) (x1 : List (Fin 32)) : Statement (.sync0Event x0 x1) := ⟨_, rfl, rfl⟩
theorem tickMissing (x0 : List (Fin 32)) : Statement (.tickMissing x0) := ⟨_, rfl, rfl⟩
theorem frameControlWrite (x0 : Agent) (x1 : Nat) : Statement (.frameControlWrite x0 x1) :=
  ⟨.frameControlWrite x0 0, rfl, rfl⟩
theorem slotShadowWrite (x0 : Agent) (x1 : Fin 16) (x2 : Nat) : Statement (.slotShadowWrite x0 x1 x2) :=
  ⟨.slotShadowWrite x0 x1 0, rfl, rfl⟩
theorem slotArm (x0 : Agent) : Statement (.slotArm x0) := ⟨_, rfl, rfl⟩
theorem telemetrySnapshot : Statement (.telemetrySnapshot) := ⟨_, rfl, rfl⟩
theorem coldReset : Statement (.coldReset) := ⟨_, rfl, rfl⟩
theorem warmReset : Statement (.warmReset) := ⟨_, rfl, rfl⟩
theorem rstCtlWarm (x0 : Agent) (x1 : Nat) : Statement (.rstCtlWarm x0 x1) :=
  ⟨.rstCtlWarm x0 0, rfl, rfl⟩
theorem coreReset (x0 : Agent) (x1 : Nat) (x2 : Nat) : Statement (.coreReset x0 x1 x2) :=
  ⟨.coreReset x0 0 0, rfl, rfl⟩
theorem warmResetObject (x0 : Agent) (x1 : Nat) : Statement (.warmResetObject x0 x1) :=
  ⟨.warmResetObject x0 0, rfl, rfl⟩
theorem delayedWarmReset : Statement (.delayedWarmReset) := ⟨_, rfl, rfl⟩
theorem bootStepEnd (x0 : Nat) (x1 : List Nat) : Statement (.bootStepEnd x0 x1) := ⟨_, rfl, rfl⟩
theorem tapReset : Statement (.tapReset) := ⟨_, rfl, rfl⟩
theorem bramRead (x0 : Fin 17) (x1 : Nat) (x2 : Port) (x3 : BramRd) (x4 : Nat) : Statement (.bramRead x0 x1 x2 x3 x4) :=
  ⟨.bramRead x0 0 x2 ⟨0, none⟩ x4, rfl, rfl⟩
theorem bramWrite (x0 : Fin 17) (x1 : Nat) (x2 : Option BramWr) (x3 : Option BramWr) : Statement (.bramWrite x0 x1 x2 x3) :=
  ⟨.bramWrite x0 0 none none, rfl, rfl⟩
theorem bramWriteback (x0 : Fin 17) (x1 : Nat) (x2 : Nat) : Statement (.bramWriteback x0 x1 x2) :=
  ⟨.bramWriteback x0 0 0, rfl, rfl⟩
theorem bramScrubWord (x0 : Fin 17) (x1 : Bool) (x2 : Nat) : Statement (.bramScrubWord x0 x1 x2) := ⟨_, rfl, rfl⟩
theorem flipArm (x0 : Agent) (x1 : Fin 17) (x2 : Nat) : Statement (.flipArm x0 x1 x2) :=
  ⟨.flipArm x0 x1 0, rfl, rfl⟩
theorem tapDrain (x0 : Fin 16) (x1 : Nat) : Statement (.tapDrain x0 x1) := ⟨_, rfl, rfl⟩
theorem dataInWrite (x0 : Fin 16) (x1 : Nat) : Statement (.dataInWrite x0 x1) :=
  ⟨.dataInWrite x0 0, rfl, rfl⟩
theorem targetPortRequest (x0 : Fin 17) (x1 : Nat) (x2 : Option FabAnswer) : Statement (.targetPortRequest x0 x1 x2) :=
  ⟨.targetPortRequest x0 0 none, rfl, rfl⟩
theorem targetPortTimeout (x0 : Fin 17) : Statement (.targetPortTimeout x0) := ⟨_, rfl, rfl⟩
theorem loaderStage (x0 : Agent) (x1 : Fin 16) : Statement (.loaderStage x0 x1) := ⟨_, rfl, rfl⟩
theorem loaderLoad (x0 : Agent) (x1 : Fin 16) : Statement (.loaderLoad x0 x1) := ⟨_, rfl, rfl⟩
theorem loaderInvalidate (x0 : Agent) (x1 : Fin 16) : Statement (.loaderInvalidate x0 x1) := ⟨_, rfl, rfl⟩
theorem loaderDispatch : Statement (.loaderDispatch) := ⟨_, rfl, rfl⟩
theorem stageComplete (x0 : Bool) : Statement (.stageComplete x0) := ⟨_, rfl, rfl⟩
theorem loadGrantIssued : Statement (.loadGrantIssued) := ⟨_, rfl, rfl⟩
theorem loadDrainEnd (x0 : Fin 16) : Statement (.loadDrainEnd x0) := ⟨_, rfl, rfl⟩
theorem loadRecordWrite (x0 : Bool) : Statement (.loadRecordWrite x0) := ⟨_, rfl, rfl⟩
theorem loadComplete : Statement (.loadComplete) := ⟨_, rfl, rfl⟩
theorem rillSlice (x0 : Nat) (x1 : List Upset) : Statement (.rillSlice x0 x1) :=
  ⟨.rillSlice x0 [], rfl, rfl⟩
theorem rillPassRequest (x0 : Agent) : Statement (.rillPassRequest x0) := ⟨_, rfl, rfl⟩
theorem rillPassComplete : Statement (.rillPassComplete) := ⟨_, rfl, rfl⟩
theorem jetConfigWrite (x0 : Agent) (x1 : Fin 512) (x2 : Nat) : Statement (.jetConfigWrite x0 x1 x2) :=
  ⟨.jetConfigWrite x0 x1 0, rfl, rfl⟩
theorem jetLevelWrite (x0 : Agent) (x1 : Fin 512) (x2 : LevelReg) (x3 : Nat) : Statement (.jetLevelWrite x0 x1 x2 x3) :=
  ⟨.jetLevelWrite x0 x1 .drv 0, rfl, rfl⟩
theorem jetCycle (x0 : Fin 512) (x1 : Nat) (x2 : Strobes) : Statement (.jetCycle x0 x1 x2) := ⟨_, rfl, rfl⟩
theorem blockClear (x0 : Agent) (x1 : Fin 512) (x2 : Nat) : Statement (.blockClear x0 x1 x2) :=
  ⟨.blockClear x0 x1 0, rfl, rfl⟩
theorem bankMaxrateWrite (x0 : Agent) (x1 : Fin 32) (x2 : Nat) : Statement (.bankMaxrateWrite x0 x1 x2) :=
  ⟨.bankMaxrateWrite x0 x1 0, rfl, rfl⟩
theorem pmuModeWrite (x0 : Agent) (x1 : Fin 512) (x2 : Nat) : Statement (.pmuModeWrite x0 x1 x2) :=
  ⟨.pmuModeWrite x0 x1 0, rfl, rfl⟩
theorem pmuConnect (x0 : Fin 512) : Statement (.pmuConnect x0) := ⟨_, rfl, rfl⟩
theorem pmuSample (x0 : Fin 512) (x1 : Int) (x2 : Option Bool) : Statement (.pmuSample x0 x1 x2) := ⟨_, rfl, rfl⟩
theorem pmuClamp (x0 : Fin 512) (x1 : Bool) : Statement (.pmuClamp x0 x1) := ⟨_, rfl, rfl⟩
theorem spareForWrite (x0 : Agent) (x1 : Fin 32) (x2 : Nat) : Statement (.spareForWrite x0 x1 x2) :=
  ⟨.spareForWrite x0 x1 0, rfl, rfl⟩
theorem periodWrite (x0 : Agent) (x1 : Fin 16) (x2 : Fin 64) (x3 : Nat) : Statement (.periodWrite x0 x1 x2 x3) :=
  ⟨.periodWrite x0 x1 x2 0, rfl, rfl⟩
theorem timingSetCommit (x0 : Agent) (x1 : Fin 512) (x2 : Nat) : Statement (.timingSetCommit x0 x1 x2) :=
  ⟨.timingSetCommit x0 x1 0, rfl, rfl⟩
theorem timingSetRecordWrite (x0 : Agent) (x1 : List Byte) : Statement (.timingSetRecordWrite x0 x1) :=
  ⟨.timingSetRecordWrite x0 (List.replicate 32 0), rfl, by simp only [Instr.wellFormed, List.length_replicate]; rfl⟩
theorem bankRealign (x0 : Agent) (x1 : Fin 32) : Statement (.bankRealign x0 x1) := ⟨_, rfl, rfl⟩
theorem witnessEdge (x0 : Fin 512) (x1 : WitnessEdge) : Statement (.witnessEdge x0 x1) := ⟨_, rfl, rfl⟩
theorem weirCorrectionDelivery (x0 : Bool) : Statement (.weirCorrectionDelivery x0) := ⟨_, rfl, rfl⟩
theorem weirCalibrate (x0 : Agent) : Statement (.weirCalibrate x0) := ⟨_, rfl, rfl⟩
theorem weirCalibrationEnd (x0 : List BallCal) : Statement (.weirCalibrationEnd x0) := ⟨_, rfl, rfl⟩
theorem weirSave (x0 : Agent) : Statement (.weirSave x0) := ⟨_, rfl, rfl⟩
theorem weirSaveEnd (x0 : Bool) (x1 : Bool) (x2 : Int) : Statement (.weirSaveEnd x0 x1 x2) := ⟨_, rfl, rfl⟩
theorem seqStart (x0 : Agent) (x1 : Fin 16) (x2 : Nat) (x3 : Nat) : Statement (.seqStart x0 x1 x2 x3) :=
  ⟨.seqStart x0 x1 0 x3, rfl, rfl⟩
theorem seqStop (x0 : Agent) (x1 : Fin 16) : Statement (.seqStop x0 x1) := ⟨_, rfl, rfl⟩
theorem seqAbort (x0 : Agent) (x1 : Fin 16) (x2 : Nat) : Statement (.seqAbort x0 x1 x2) := ⟨_, rfl, rfl⟩
theorem seqPause (x0 : Agent) (x1 : Fin 16) : Statement (.seqPause x0 x1) := ⟨_, rfl, rfl⟩
theorem seqResume (x0 : Agent) (x1 : Fin 16) : Statement (.seqResume x0 x1) := ⟨_, rfl, rfl⟩
theorem seqStartTick (x0 : Fin 16) : Statement (.seqStartTick x0) := ⟨_, rfl, rfl⟩
theorem cycleIssue (x0 : Fin 16) : Statement (.cycleIssue x0) := ⟨_, rfl, rfl⟩
theorem vectorUnderrun (x0 : Fin 16) : Statement (.vectorUnderrun x0) := ⟨_, rfl, rfl⟩
theorem patternEnd (x0 : Fin 16) : Statement (.patternEnd x0) := ⟨_, rfl, rfl⟩
theorem seqResumeStart (x0 : Fin 16) : Statement (.seqResumeStart x0) := ⟨_, rfl, rfl⟩
theorem pauseWarnExpiry (x0 : Fin 16) : Statement (.pauseWarnExpiry x0) := ⟨_, rfl, rfl⟩
theorem pageLoadDone (x0 : Fin 16) (x1 : Nat) (x2 : Status) : Statement (.pageLoadDone x0 x1 x2) := ⟨_, rfl, rfl⟩
theorem vectorPrefetch (x0 : Fin 16) (x1 : Status) : Statement (.vectorPrefetch x0 x1) := ⟨_, rfl, rfl⟩
theorem seqResultSeen (x0 : Fin 16) : Statement (.seqResultSeen x0) := ⟨_, rfl, rfl⟩
theorem vec (x0 : Fin 16) : Statement (.vec x0) := ⟨_, rfl, rfl⟩
theorem jmp (x0 : Fin 16) : Statement (.jmp x0) := ⟨_, rfl, rfl⟩
theorem call (x0 : Fin 16) : Statement (.call x0) := ⟨_, rfl, rfl⟩
theorem ret (x0 : Fin 16) : Statement (.ret x0) := ⟨_, rfl, rfl⟩
theorem loop (x0 : Fin 16) : Statement (.loop x0) := ⟨_, rfl, rfl⟩
theorem endl (x0 : Fin 16) : Statement (.endl x0) := ⟨_, rfl, rfl⟩
theorem jfail (x0 : Fin 16) : Statement (.jfail x0) := ⟨_, rfl, rfl⟩
theorem jc (x0 : Fin 16) : Statement (.jc x0) := ⟨_, rfl, rfl⟩
theorem seqMatch (x0 : Fin 16) : Statement (.seqMatch x0) := ⟨_, rfl, rfl⟩
theorem matchTimeout (x0 : Fin 16) : Statement (.matchTimeout x0) := ⟨_, rfl, rfl⟩
theorem fwait (x0 : Fin 16) : Statement (.fwait x0) := ⟨_, rfl, rfl⟩
theorem fwaitEnd (x0 : Fin 16) : Statement (.fwaitEnd x0) := ⟨_, rfl, rfl⟩
theorem slu (x0 : Fin 16) : Statement (.slu x0) := ⟨_, rfl, rfl⟩
theorem sluTimeout (x0 : Fin 16) : Statement (.sluTimeout x0) := ⟨_, rfl, rfl⟩
theorem slurel (x0 : Fin 16) : Statement (.slurel x0) := ⟨_, rfl, rfl⟩
theorem setr (x0 : Fin 16) : Statement (.setr x0) := ⟨_, rfl, rfl⟩
theorem clrf (x0 : Fin 16) : Statement (.clrf x0) := ⟨_, rfl, rfl⟩
theorem dclose (x0 : Fin 16) : Statement (.dclose x0) := ⟨_, rfl, rfl⟩
theorem mark (x0 : Fin 16) : Statement (.mark x0) := ⟨_, rfl, rfl⟩
theorem pref (x0 : Fin 16) : Statement (.pref x0) := ⟨_, rfl, rfl⟩
theorem stop (x0 : Fin 16) : Statement (.stop x0) := ⟨_, rfl, rfl⟩
theorem illegalOpcode (x0 : Fin 16) : Statement (.illegalOpcode x0) := ⟨_, rfl, rfl⟩
theorem cycleResultComplete (x0 : Fin 16) : Statement (.cycleResultComplete x0) := ⟨_, rfl, rfl⟩
theorem closeMarker (x0 : Fin 16) : Statement (.closeMarker x0) := ⟨_, rfl, rfl⟩
theorem failDrain (x0 : Nat) (x1 : Status) : Statement (.failDrain x0 x1) := ⟨_, rfl, rfl⟩
theorem drainResume (x0 : Agent) (x1 : Fin 16) : Statement (.drainResume x0 x1) := ⟨_, rfl, rfl⟩
theorem mapOpen (x0 : Agent) (x1 : Fin 128) (x2 : Bool) : Statement (.mapOpen x0 x1 x2) := ⟨_, rfl, rfl⟩
theorem mapClose (x0 : Agent) (x1 : Fin 128) : Statement (.mapClose x0 x1) := ⟨_, rfl, rfl⟩
theorem mapDiscard (x0 : Agent) (x1 : Fin 128) : Statement (.mapDiscard x0 x1) := ⟨_, rfl, rfl⟩
theorem spillWritten (x0 : Fin 128) (x1 : Status) : Statement (.spillWritten x0 x1) := ⟨_, rfl, rfl⟩
theorem mapCleared (x0 : Fin 128) : Statement (.mapCleared x0) := ⟨_, rfl, rfl⟩
theorem mapScrubWord (x0 : Fin 64) (x1 : Nat) (x2 : Ecc) : Statement (.mapScrubWord x0 x1 x2) :=
  ⟨.mapScrubWord x0 0 x2, rfl, rfl⟩
theorem raArm (x0 : Agent) (x1 : Fin 4096) : Statement (.raArm x0 x1) := ⟨_, rfl, rfl⟩
theorem raCancel (x0 : Agent) (x1 : Fin 4096) : Statement (.raCancel x0 x1) := ⟨_, rfl, rfl⟩
theorem mapAccept : Statement (.mapAccept) := ⟨_, rfl, rfl⟩
theorem listReadEnd (x0 : Fin 16) : Statement (.listReadEnd x0) := ⟨_, rfl, rfl⟩
theorem searchEnd (x0 : Fin 16) : Statement (.searchEnd x0) := ⟨_, rfl, rfl⟩
theorem raRingWrite (x0 : Status) : Statement (.raRingWrite x0) := ⟨_, rfl, rfl⟩
theorem raRingResume (x0 : Agent) : Statement (.raRingResume x0) := ⟨_, rfl, rfl⟩
theorem scMapWrite (x0 : Agent) (x1 : Fin 32) (x2 : Nat) : Statement (.scMapWrite x0 x1 x2) :=
  ⟨.scMapWrite x0 x1 0, rfl, rfl⟩
theorem scStart (x0 : Agent) (x1 : Fin 32) (x2 : Nat) : Statement (.scStart x0 x1 x2) :=
  ⟨.scStart x0 x1 0, rfl, rfl⟩
theorem scStopCommand (x0 : Agent) (x1 : Fin 32) : Statement (.scStopCommand x0 x1) := ⟨_, rfl, rfl⟩
theorem scMemoryAccess (x0 : Agent) (x1 : Fin 32) (x2 : ScMem) (x3 : Nat) (x4 : Option Nat) : Statement (.scMemoryAccess x0 x1 x2 x3 x4) :=
  ⟨.scMemoryAccess x0 x1 x2 0 none, rfl, rfl⟩
theorem scSampleArrival (x0 : Fin 32) (x1 : Fin 16) (x2 : Nat) (x3 : Bool) (x4 : Bool) : Statement (.scSampleArrival x0 x1 x2 x3 x4) :=
  ⟨.scSampleArrival x0 x1 0 x3 x4, rfl, rfl⟩
theorem scHostWrite (x0 : Agent) (x1 : Fin 32) (x2 : Nat) : Statement (.scHostWrite x0 x1 x2) :=
  ⟨.scHostWrite x0 x1 0, rfl, rfl⟩
theorem scInterrupt (x0 : Fin 32) : Statement (.scInterrupt x0) := ⟨_, rfl, rfl⟩
theorem scRingLineWrite (x0 : Fin 32) (x1 : Status) : Statement (.scRingLineWrite x0 x1) := ⟨_, rfl, rfl⟩
theorem scScrubWord (x0 : Fin 32) (x1 : ScMem) (x2 : Nat) (x3 : Ecc) : Statement (.scScrubWord x0 x1 x2 x3) :=
  ⟨.scScrubWord x0 x1 0 x3, rfl, rfl⟩
theorem nop (x0 : Fin 32) : Statement (.nop x0) := ⟨_, rfl, rfl⟩
theorem alu (x0 : Fin 32) : Statement (.alu x0) := ⟨_, rfl, rfl⟩
theorem ldi (x0 : Fin 32) : Statement (.ldi x0) := ⟨_, rfl, rfl⟩
theorem ldh (x0 : Fin 32) : Statement (.ldh x0) := ⟨_, rfl, rfl⟩
theorem mac (x0 : Fin 32) : Statement (.mac x0) := ⟨_, rfl, rfl⟩
theorem aop (x0 : Fin 32) : Statement (.aop x0) := ⟨_, rfl, rfl⟩
theorem mva (x0 : Fin 32) : Statement (.mva x0) := ⟨_, rfl, rfl⟩
theorem ldst (x0 : Fin 32) : Statement (.ldst x0) := ⟨_, rfl, rfl⟩
theorem ldsta (x0 : Fin 32) : Statement (.ldsta x0) := ⟨_, rfl, rfl⟩
theorem setp (x0 : Fin 32) : Statement (.setp x0) := ⟨_, rfl, rfl⟩
theorem mvr (x0 : Fin 32) : Statement (.mvr x0) := ⟨_, rfl, rfl⟩
theorem br (x0 : Fin 32) : Statement (.br x0) := ⟨_, rfl, rfl⟩
theorem jsr (x0 : Fin 32) : Statement (.jsr x0) := ⟨_, rfl, rfl⟩
theorem rts (x0 : Fin 32) : Statement (.rts x0) := ⟨_, rfl, rfl⟩
theorem rti (x0 : Fin 32) : Statement (.rti x0) := ⟨_, rfl, rfl⟩
theorem scLoop (x0 : Fin 32) : Statement (.scLoop x0) := ⟨_, rfl, rfl⟩
theorem scIn (x0 : Fin 32) : Statement (.scIn x0) := ⟨_, rfl, rfl⟩
theorem scOut (x0 : Fin 32) : Statement (.scOut x0) := ⟨_, rfl, rfl⟩
theorem waiti (x0 : Fin 32) : Statement (.waiti x0) := ⟨_, rfl, rfl⟩
theorem scStop (x0 : Fin 32) : Statement (.scStop x0) := ⟨_, rfl, rfl⟩
theorem hbmRequestIssue (x0 : Option WordUpset) (x1 : Bool) : Statement (.hbmRequestIssue x0 x1) := ⟨_, rfl, rfl⟩
theorem hbmPromote (x0 : Nat) : Statement (.hbmPromote x0) := ⟨_, rfl, rfl⟩
theorem hbmTrainingEnd (x0 : Bool) (x1 : Fin 8) : Statement (.hbmTrainingEnd x0 x1) := ⟨_, rfl, rfl⟩
theorem hbmSelfRefreshExit : Statement (.hbmSelfRefreshExit) := ⟨_, rfl, rfl⟩
theorem hbmRefresh (x0 : Fin 512) (x1 : Bool) : Statement (.hbmRefresh x0 x1) := ⟨_, rfl, rfl⟩
theorem targetedRefresh (x0 : Fin 512) (x1 : Nat) : Statement (.targetedRefresh x0 x1) :=
  ⟨.targetedRefresh x0 0, rfl, rfl⟩
theorem hbmTemperature (x0 : Nat) : Statement (.hbmTemperature x0) := ⟨_, rfl, rfl⟩
theorem hbmScrubLine (x0 : Option WordUpset) : Statement (.hbmScrubLine x0) := ⟨_, rfl, rfl⟩
theorem hbmRangePass (x0 : Agent) (x1 : Nat) : Statement (.hbmRangePass x0 x1) :=
  ⟨.hbmRangePass x0 0, rfl, rfl⟩
theorem hbmRangePassEnd : Statement (.hbmRangePassEnd) := ⟨_, rfl, rfl⟩
theorem hbmFlipArm (x0 : Agent) (x1 : Nat) : Statement (.hbmFlipArm x0 x1) :=
  ⟨.hbmFlipArm x0 0, rfl, rfl⟩
theorem hbmErrlogPop (x0 : Agent) : Statement (.hbmErrlogPop x0) := ⟨_, rfl, rfl⟩
theorem hbmAccessObject (x0 : Nat) (x1 : Option (List Byte)) : Statement (.hbmAccessObject x0 x1) :=
  ⟨.hbmAccessObject 0 none, rfl, rfl⟩
theorem encEnable (x0 : Agent) (x1 : Fin 8) : Statement (.encEnable x0 x1) := ⟨_, rfl, rfl⟩
theorem encDisable (x0 : Agent) (x1 : Fin 8) : Statement (.encDisable x0 x1) := ⟨_, rfl, rfl⟩
theorem encRekey (x0 : Agent) (x1 : Fin 8) : Statement (.encRekey x0 x1) := ⟨_, rfl, rfl⟩
theorem rekeyLineMove (x0 : Fin 8) : Statement (.rekeyLineMove x0) := ⟨_, rfl, rfl⟩
theorem rekeyComplete (x0 : Fin 8) : Statement (.rekeyComplete x0) := ⟨_, rfl, rfl⟩
theorem keyRetired (x0 : Fin 16) : Statement (.keyRetired x0) := ⟨_, rfl, rfl⟩
theorem keyedRead (x0 : Agent) (x1 : Nat) : Statement (.keyedRead x0 x1) :=
  ⟨.keyedRead x0 0, rfl, rfl⟩
theorem keyedWrite (x0 : Agent) (x1 : Nat) (x2 : Nat) (x3 : List Byte) : Statement (.keyedWrite x0 x1 x2 x3) :=
  ⟨.keyedWrite x0 0 0 (List.replicate 64 0), rfl, by simp only [Instr.wellFormed, List.length_replicate]; rfl⟩
theorem nodeWriteback (x0 : Fin 8) (x1 : Nat) (x2 : Nat) : Statement (.nodeWriteback x0 x1 x2) :=
  ⟨.nodeWriteback x0 0 x2, rfl, rfl⟩
theorem encTreePass (x0 : Agent) (x1 : Fin 8) : Statement (.encTreePass x0 x1) := ⟨_, rfl, rfl⟩
theorem encTreePassEnd : Statement (.encTreePassEnd) := ⟨_, rfl, rfl⟩
theorem nocRequest (x0 : Agent) (x1 : Packet) : Statement (.nocRequest x0 x1) :=
  ⟨.nocRequest x0 ⟨.rd, 0, 0, false, 0, 0, []⟩, rfl, rfl⟩
theorem nocResponse (x0 : Fin 64) (x1 : Nat) : Statement (.nocResponse x0 x1) := ⟨_, rfl, rfl⟩
theorem nocTimeout (x0 : Fin 64) : Statement (.nocTimeout x0) := ⟨_, rfl, rfl⟩
theorem linkError (x0 : Fin 36) (x1 : Fin 4) (x2 : LinkErr) (x3 : Option PktRef) : Statement (.linkError x0 x1 x2 x3) := ⟨_, rfl, rfl⟩
theorem creditIdleReturn (x0 : Fin 64) (x1 : Nat) : Statement (.creditIdleReturn x0 x1) :=
  ⟨.creditIdleReturn x0 0, rfl, rfl⟩
theorem routerMaintEnter (x0 : Agent) (x1 : Fin 36) : Statement (.routerMaintEnter x0 x1) := ⟨_, rfl, rfl⟩
theorem routerDrained (x0 : Fin 36) : Statement (.routerDrained x0) := ⟨_, rfl, rfl⟩
theorem routerDrainAbort (x0 : Fin 36) : Statement (.routerDrainAbort x0) := ⟨_, rfl, rfl⟩
theorem routerMaintExit (x0 : Agent) (x1 : Fin 36) : Statement (.routerMaintExit x0 x1) := ⟨_, rfl, rfl⟩
theorem arbRequest (x0 : Fin 18) (x1 : Fin 24) (x2 : Nat) (x3 : Nat) : Statement (.arbRequest x0 x1 x2 x3) := ⟨_, rfl, rfl⟩
theorem arbRelease (x0 : Fin 18) : Statement (.arbRelease x0) := ⟨_, rfl, rfl⟩
theorem arbBurstExpiry (x0 : Fin 18) : Statement (.arbBurstExpiry x0) := ⟨_, rfl, rfl⟩
theorem arbCommit (x0 : Agent) (x1 : Fin 18) : Statement (.arbCommit x0 x1) := ⟨_, rfl, rfl⟩
theorem linkEnable (x0 : Agent) (x1 : Fin 16) (x2 : Nat) : Statement (.linkEnable x0 x1 x2) :=
  ⟨.linkEnable x0 x1 0, rfl, rfl⟩
theorem linkDisable (x0 : Agent) (x1 : Fin 16) : Statement (.linkDisable x0 x1) := ⟨_, rfl, rfl⟩
theorem linkRetrain (x0 : Agent) (x1 : Fin 16) : Statement (.linkRetrain x0 x1) := ⟨_, rfl, rfl⟩
theorem linkDetectProbe (x0 : Fin 16) (x1 : Bool) : Statement (.linkDetectProbe x0 x1) := ⟨_, rfl, rfl⟩
theorem tapChangeRequest (x0 : Fin 64) (x1 : Tap) (x2 : Bool) : Statement (.tapChangeRequest x0 x1 x2) := ⟨_, rfl, rfl⟩
theorem trainEnd (x0 : Fin 16) (x1 : Nat) : Statement (.trainEnd x0 x1) :=
  ⟨.trainEnd x0 0, rfl, rfl⟩
theorem trainTimeout (x0 : Fin 16) : Statement (.trainTimeout x0) := ⟨_, rfl, rfl⟩
theorem slip (x0 : Agent) (x1 : Fin 64) : Statement (.slip x0 x1) := ⟨_, rfl, rfl⟩
theorem lockEnd (x0 : Fin 16) (x1 : Nat) (x2 : Nat) : Statement (.lockEnd x0 x1 x2) :=
  ⟨.lockEnd x0 0 0, rfl, rfl⟩
theorem lockTimeout (x0 : Fin 16) : Statement (.lockTimeout x0) := ⟨_, rfl, rfl⟩
theorem exchangeEnd (x0 : Fin 16) (x1 : Capability) : Statement (.exchangeEnd x0 x1) :=
  ⟨.exchangeEnd x0 ⟨0, 0, false, 0⟩, rfl, rfl⟩
theorem exchangeTimeout (x0 : Fin 16) : Statement (.exchangeTimeout x0) := ⟨_, rfl, rfl⟩
theorem linkFailBackoff (x0 : Fin 16) : Statement (.linkFailBackoff x0) := ⟨_, rfl, rfl⟩
theorem flitSend (x0 : Fin 16) : Statement (.flitSend x0) := ⟨_, rfl, rfl⟩
theorem flitReceive (x0 : Fin 16) (x1 : Fin 4) (x2 : Bool) (x3 : Flit) : Statement (.flitReceive x0 x1 x2 x3) :=
  ⟨.flitReceive x0 x1 x2 ⟨.idle, false, 0, false, 0, List.replicate 52 0⟩, rfl, by simp only [Instr.wellFormed, List.length_replicate]; rfl⟩
theorem linkSleep (x0 : Fin 16) : Statement (.linkSleep x0) := ⟨_, rfl, rfl⟩
theorem linkWake (x0 : Fin 16) : Statement (.linkWake x0) := ⟨_, rfl, rfl⟩
theorem prbsInject (x0 : Agent) (x1 : Fin 64) : Statement (.prbsInject x0 x1) := ⟨_, rfl, rfl⟩
theorem casSend (x0 : Agent) (x1 : Nat) : Statement (.casSend x0 x1) :=
  ⟨.casSend x0 0, rfl, rfl⟩
theorem messageReceive (x0 : Fin 16) : Statement (.messageReceive x0) := ⟨_, rfl, rfl⟩
theorem timeFlitSend (x0 : Fin 16) (x1 : Nat) : Statement (.timeFlitSend x0 x1) := ⟨_, rfl, rfl⟩
theorem timeFlitReceive (x0 : Fin 16) (x1 : Nat) (x2 : Nat) (x3 : TimeFlit) : Statement (.timeFlitReceive x0 x1 x2 x3) :=
  ⟨.timeFlitReceive x0 x1 x2 ⟨0, 0, 0, false, 0, 0, false⟩, rfl, rfl⟩
theorem echoReceive (x0 : Fin 16) (x1 : Nat) (x2 : Nat) (x3 : Nat) : Statement (.echoReceive x0 x1 x2 x3) :=
  ⟨.echoReceive x0 x1 x2 0, rfl, rfl⟩
theorem bankHandover (x0 : Agent) (x1 : Fin 16) (x2 : Nat) : Statement (.bankHandover x0 x1 x2) :=
  ⟨.bankHandover x0 x1 0, rfl, rfl⟩
theorem scratchpadAccess (x0 : Agent) (x1 : SpAccess) (x2 : Ecc) : Statement (.scratchpadAccess x0 x1 x2) :=
  ⟨.scratchpadAccess x0 (.read 0 8) x2, rfl, rfl⟩
theorem spScrubWord (x0 : Fin 16) (x1 : Nat) (x2 : Ecc) : Statement (.spScrubWord x0 x1 x2) :=
  ⟨.spScrubWord x0 0 x2, rfl, rfl⟩
theorem spSecurePass (x0 : Agent) (x1 : Nat) : Statement (.spSecurePass x0 x1) :=
  ⟨.spSecurePass x0 0, rfl, rfl⟩
theorem spSecurePassEnd (x0 : Nat) : Statement (.spSecurePassEnd x0) := ⟨_, rfl, rfl⟩
theorem spMarch (x0 : Agent) (x1 : Nat) : Statement (.spMarch x0 x1) :=
  ⟨.spMarch x0 0, rfl, rfl⟩
theorem marchEnd (x0 : List MarchResult) : Statement (.marchEnd x0) := ⟨_, rfl, rfl⟩
theorem mailboxDataWrite (x0 : Agent) (x1 : Fin 16) (x2 : Fin 16) (x3 : Nat) : Statement (.mailboxDataWrite x0 x1 x2 x3) :=
  ⟨.mailboxDataWrite x0 x1 x2 0, rfl, rfl⟩
theorem mailboxPost (x0 : Agent) (x1 : Fin 16) : Statement (.mailboxPost x0 x1) := ⟨_, rfl, rfl⟩
theorem mailboxAck (x0 : Agent) (x1 : Fin 16) : Statement (.mailboxAck x0 x1) := ⟨_, rfl, rfl⟩
theorem mailboxTimeout (x0 : Fin 16) : Statement (.mailboxTimeout x0) := ⟨_, rfl, rfl⟩
theorem coreInterrupt (x0 : Fin 4) (x1 : Nat) : Statement (.coreInterrupt x0 x1) :=
  ⟨.coreInterrupt x0 0, rfl, rfl⟩
theorem lockAcquire (x0 : Agent) (x1 : Fin 64) (x2 : Nat) : Statement (.lockAcquire x0 x1 x2) :=
  ⟨.lockAcquire x0 x1 0, rfl, rfl⟩
theorem lockRelease (x0 : Agent) (x1 : Fin 64) : Statement (.lockRelease x0 x1) := ⟨_, rfl, rfl⟩
theorem leaseExpiry (x0 : Fin 64) : Statement (.leaseExpiry x0) := ⟨_, rfl, rfl⟩
theorem wdKick (x0 : Agent) (x1 : Fin 4) (x2 : Nat) : Statement (.wdKick x0 x1 x2) :=
  ⟨.wdKick x0 x1 0, rfl, rfl⟩
theorem watchdogExpiry (x0 : Fin 4) : Statement (.watchdogExpiry x0) := ⟨_, rfl, rfl⟩
theorem crcConfig (x0 : Agent) (x1 : Fin 8) (x2 : Nat) : Statement (.crcConfig x0 x1 x2) :=
  ⟨.crcConfig x0 x1 0, rfl, rfl⟩
theorem crcFold (x0 : Agent) (x1 : Fin 8) (x2 : Nat) : Statement (.crcFold x0 x1 x2) :=
  ⟨.crcFold x0 x1 0, rfl, rfl⟩
theorem crcFeed (x0 : Agent) (x1 : Fin 8) (x2 : FeedWidth) (x3 : Nat) : Statement (.crcFeed x0 x1 x2 x3) :=
  ⟨.crcFeed x0 x1 .byte 0, rfl, rfl⟩
theorem crcResultRead (x0 : Agent) (x1 : Fin 8) : Statement (.crcResultRead x0 x1) := ⟨_, rfl, rfl⟩
theorem challenge (x0 : Nat) : Statement (.challenge x0) :=
  ⟨.challenge 0, rfl, rfl⟩
theorem operatorSignIn (x0 : Nat) (x1 : List Byte) : Statement (.operatorSignIn x0 x1) :=
  ⟨.operatorSignIn 0 (List.replicate 16 0), rfl, by simp only [Instr.wellFormed, List.length_replicate]; rfl⟩
theorem keySignIn (x0 : Nat) (x1 : List Byte) : Statement (.keySignIn x0 x1) :=
  ⟨.keySignIn 0 (List.replicate 7220 0), rfl, by simp only [Instr.wellFormed, List.length_replicate]; rfl⟩
theorem signInLockEnd (x0 : Role) : Statement (.signInLockEnd x0) := ⟨_, rfl, rfl⟩
theorem lifecycleTransition (x0 : Agent) (x1 : Nat) : Statement (.lifecycleTransition x0 x1) :=
  ⟨.lifecycleTransition x0 0, rfl, rfl⟩
theorem lifecycleProgrammed : Statement (.lifecycleProgrammed) := ⟨_, rfl, rfl⟩
theorem rmaConsent (x0 : Agent) (x1 : Nat) : Statement (.rmaConsent x0 x1) :=
  ⟨.rmaConsent x0 0, rfl, rfl⟩
theorem tamperIndication (x0 : Fin 3) : Statement (.tamperIndication x0) := ⟨_, rfl, rfl⟩
theorem editionStage (x0 : Agent) (x1 : List Byte) : Statement (.editionStage x0 x1) :=
  ⟨.editionStage x0 (List.replicate 4096 0), rfl, by simp only [Instr.wellFormed, List.length_replicate]; rfl⟩
theorem editionCommit (x0 : Agent) (x1 : Nat) : Statement (.editionCommit x0 x1) :=
  ⟨.editionCommit x0 0, rfl, rfl⟩
theorem editionProgrammed (x0 : Bool) : Statement (.editionProgrammed x0) := ⟨_, rfl, rfl⟩
theorem ledgerAppend (x0 : Agent) (x1 : List Byte) : Statement (.ledgerAppend x0 x1) :=
  ⟨.ledgerAppend x0 (List.replicate 10 0), rfl, by simp only [Instr.wellFormed, List.length_replicate]; rfl⟩
theorem ledgerProgrammed (x0 : Bool) : Statement (.ledgerProgrammed x0) := ⟨_, rfl, rfl⟩
theorem attestationRequest (x0 : Agent) (x1 : List Byte) : Statement (.attestationRequest x0 x1) :=
  ⟨.attestationRequest x0 (List.replicate 64 0), rfl, by simp only [Instr.wellFormed, List.length_replicate]; rfl⟩
theorem attestationSigned : Statement (.attestationSigned) := ⟨_, rfl, rfl⟩
theorem auditAppend (x0 : Agent) : Statement (.auditAppend x0) := ⟨_, rfl, rfl⟩
theorem alStateRequest (x0 : Nat) (x1 : Bool) (x2 : Bool) : Statement (.alStateRequest x0 x1 x2) :=
  ⟨.alStateRequest 0 x1 x2, rfl, rfl⟩
theorem sdoRequest (x0 : Nat) (x1 : Sdo) (x2 : Bool) : Statement (.sdoRequest x0 x1 x2) :=
  ⟨.sdoRequest 0 (.upload 0 0) x2, rfl, rfl⟩
theorem signOut (x0 : Nat) : Statement (.signOut x0) :=
  ⟨.signOut 0, rfl, rfl⟩
theorem sessionIdleTimeout (x0 : Nat) : Statement (.sessionIdleTimeout x0) :=
  ⟨.sessionIdleTimeout 0, rfl, rfl⟩
theorem restoreDefaults (x0 : Agent) (x1 : Nat) : Statement (.restoreDefaults x0 x1) :=
  ⟨.restoreDefaults x0 0, rfl, rfl⟩
theorem txpdoPublish : Statement (.txpdoPublish) := ⟨_, rfl, rfl⟩
theorem rxpdoApply (x0 : Nat) : Statement (.rxpdoApply x0) := ⟨_, rfl, rfl⟩
theorem smWatchdogExpiry : Statement (.smWatchdogExpiry) := ⟨_, rfl, rfl⟩
theorem foeWrite (x0 : Nat) (x1 : FoeFile) (x2 : Nat) (x3 : List Byte) (x4 : Bool) : Statement (.foeWrite x0 x1 x2 x3 x4) :=
  ⟨.foeWrite 0 x1 0 x3 x4, rfl, rfl⟩
theorem foeRead (x0 : Nat) (x1 : FoeFile) (x2 : Nat) : Statement (.foeRead x0 x1 x2) :=
  ⟨.foeRead 0 x1 0, rfl, rfl⟩
theorem foeBootstrapWrite (x0 : Bool) (x1 : Nat) (x2 : List Byte) (x3 : Bool) : Statement (.foeBootstrapWrite x0 x1 x2 x3) :=
  ⟨.foeBootstrapWrite x0 0 x2 x3, rfl, rfl⟩
theorem dapRequest (x0 : Nat) : Statement (.dapRequest x0) := ⟨_, rfl, rfl⟩
theorem debugChallenge (x0 : Agent) : Statement (.debugChallenge x0) := ⟨_, rfl, rfl⟩
theorem debugPassword (x0 : Agent) (x1 : Nat) : Statement (.debugPassword x0 x1) :=
  ⟨.debugPassword x0 0, rfl, rfl⟩
theorem debugKey (x0 : Agent) : Statement (.debugKey x0) := ⟨_, rfl, rfl⟩
theorem debugSignOut (x0 : Agent) : Statement (.debugSignOut x0) := ⟨_, rfl, rfl⟩
theorem debugSessionIdle : Statement (.debugSessionIdle) := ⟨_, rfl, rfl⟩
theorem coreHalt (x0 : Agent) (x1 : Fin 36) : Statement (.coreHalt x0 x1) := ⟨_, rfl, rfl⟩
theorem coreResume (x0 : Agent) (x1 : Fin 36) : Statement (.coreResume x0 x1) := ⟨_, rfl, rfl⟩
theorem coreStep (x0 : Agent) (x1 : Fin 36) : Statement (.coreStep x0 x1) := ⟨_, rfl, rfl⟩
theorem freezeTest (x0 : Agent) (x1 : Nat) : Statement (.freezeTest x0 x1) :=
  ⟨.freezeTest x0 0, rfl, rfl⟩
theorem traceEnable (x0 : Agent) (x1 : Nat) : Statement (.traceEnable x0 x1) :=
  ⟨.traceEnable x0 0, rfl, rfl⟩
theorem stimulusWrite (x0 : Agent) (x1 : Fin 4) (x2 : Fin 32) (x3 : Nat) (x4 : Nat) : Statement (.stimulusWrite x0 x1 x2 x3 x4) :=
  ⟨.stimulusWrite x0 x1 x2 8 0, rfl, rfl⟩
theorem tracePacket : Statement (.tracePacket) := ⟨_, rfl, rfl⟩
theorem leapRequest (x0 : Agent) (x1 : List Byte) : Statement (.leapRequest x0 x1) :=
  ⟨.leapRequest x0 (List.replicate 9 0), rfl, by simp only [Instr.wellFormed, List.length_replicate]; rfl⟩
theorem leapStepAdvance (x0 : Bool) : Statement (.leapStepAdvance x0) := ⟨_, rfl, rfl⟩
theorem healthCandidate (x0 : Fin 8) (x1 : List Byte) : Statement (.healthCandidate x0 x1) :=
  ⟨.healthCandidate x0 (List.replicate 8 0), rfl, by simp only [Instr.wellFormed, List.length_replicate]; rfl⟩
theorem thermalThreshold (x0 : Int) : Statement (.thermalThreshold x0) := ⟨_, rfl, rfl⟩
theorem resetRelease (x0 : ResetPin) : Statement (.resetRelease x0) := ⟨_, rfl, rfl⟩
theorem vinRise : Statement (.vinRise) := ⟨_, rfl, rfl⟩
theorem ballFaultOnset (x0 : BallCurrent) : Statement (.ballFaultOnset x0) := ⟨_, rfl, rfl⟩
theorem symbolLockLoss (x0 : Fin 64) (x1 : Bool) : Statement (.symbolLockLoss x0 x1) := ⟨_, rfl, rfl⟩
theorem prbsCheckerLock (x0 : Fin 64) (x1 : Nat) : Statement (.prbsCheckerLock x0 x1) := ⟨_, rfl, rfl⟩
theorem ecatPortLink (x0 : Fin 2) (x1 : Bool) : Statement (.ecatPortLink x0 x1) := ⟨_, rfl, rfl⟩
theorem sm2ImageWrite (x0 : List Byte) : Statement (.sm2ImageWrite x0) :=
  ⟨.sm2ImageWrite [], rfl, rfl⟩
theorem tapUpdate (x0 : TapUpdate) : Statement (.tapUpdate x0) := ⟨_, rfl, rfl⟩
theorem traceFifoDrain (x0 : Nat) : Statement (.traceFifoDrain x0) := ⟨_, rfl, rfl⟩
theorem secureWipeEnd : Statement (.secureWipeEnd) := ⟨_, rfl, rfl⟩
theorem debugAuthDone : Statement (.debugAuthDone) := ⟨_, rfl, rfl⟩

end Sys2Proof.Laws.CommandForm
end

