-- ==== Sys2Proof/Tests/Slice0.lean ====
section
/-! SUPPORT. Tests: what `Instr.wellFormed` refuses, that the hypotheses of every statement are met together (one theorem per statement,
each clause on a concrete state), and single steps on small states. -/
open Sys2Proof Sys2Proof.Machine
namespace Sys2Proof.Tests

set_option maxRecDepth 100000
set_option Elab.async false

/-- A state after reset with some fields written. -/
def st (l : List (Fld × Nat)) : State := l.foldl (fun s p => s.set p.1 p.2) State.reset
/-- An open NoC request to target 0 for domain `n`. -/
def openReq (n : Nat) : NocReq := ⟨0, ⟨0, .none⟩, 0, some n, 0, ⟨.rd, 0, 8, false, 0, 0, []⟩, .sent, false, false, false, .done, 0, []⟩
/-- A loader job that writes the image of `imgMem`. -/
def imgJob : LdrJob := ⟨⟨1, 0, 0, 0⟩, 3, .writing, 0⟩
/-- HBM contents with the head of a staged image. -/
def imgMem : Memory := memWrite 0 0x3CC000024 [8] (memWrite 0 0x3CC000048 (toBytes 8 (6144 + 2 ^ 32)) (memWrite 0 0x3CC002000 (toBytes 4 6144) []))
/-- A state in which the loader works on `imgJob`. -/
def imgState : State := { st [(PWR_DOM_STAT_STATE 64, 2), (PWR_DOM_STAT_STATE 65, 2), (HBM_STAT_STATE, hbmReady)] with hbm := { State.reset.hbm with mem := imgMem }, ldr := { State.reset.ldr with job := some imgJob } }
/-- A state in which sequencer `q` runs with the instruction `w` at its first address. -/
def seqSt (q w : Nat) (f : SeqEng → SeqEng) (l : List (Fld × Nat)) : State :=
  modEng q (fun e => f { e with pages := [⟨0, true, false, toBytes 16 w⟩] }) (st ([(PWR_DOM_STAT_STATE (seqDom q), 2), (SEQ_STAT_STATE q, 2)] ++ l))
/-- The word of a sequencer instruction: opcode, NOVEC and operands. -/
def insW (opc novec opa opb : Nat) : Nat := opc * 2 ^ 123 + novec * 2 ^ 121 + opa * 2 ^ 64 + opb
/-- A state in which signal core `c` runs with the word `w` at address 0. -/
def scSt (c w : Nat) (f : ScSet → ScSet) (l : List (Fld × Nat)) : State :=
  setScMemory ⟨3 * c, none, [(0, w)], []⟩ (modSet c f (st ([(PWR_DOM_STAT_STATE (physDom c), 2), (SC_STAT_STATE c, 1)] ++ l)))
/-- A state in which region 7 is keyed and active over the first block. -/
def encSt (f : EncSt → EncSt) (l : List (Fld × Nat)) : State :=
  let s := st ([(PWR_DOM_STAT_STATE 94, 2), (HBM_STAT_STATE, hbmReady), (ENC_REG_CTL_EN 7, 1), (ENC_REG_CTL_STATE 7, encActive)] ++ l)
  { s with enc := f s.enc }
/-- The object at an index and sub-index. -/
def objAt (i u : Nat) : ObjDesc := match findObj i u with
  | some x => x.1
  | none => ⟨0, 0, 0, 0, 0, .num, .allR, false, .volatile, .const 0⟩
/-- The register at an address. -/
def regAt (x : Nat) : RegDesc := match findReg x with
  | some y => y.1
  | none => ⟨.SYS_PROFILE, 0, 1, 1, 1, 1, 32, fun _ _ => []⟩

/-- A BLANK part with an edition staged at offset 0 of bank 14: its magic, version and serial, and a byte of the first key. -/
def stagedEdition : State :=
  { st [(PWR_DOM_STAT_STATE 93, 2)] with cluster := { State.reset.cluster with
      base := []
      words := [(14 * 65536, 0x4D4C4E41 + 2 ^ 32 + 1), (14 * 65536 + 1, Config.serial % 2 ^ 64 + 1), (14 * 65536 + 2, Config.serial / 2 ^ 64 % 2 ^ 64 + 1), (14 * 65536 + 6, 2)] } }

theorem stagedEdition_isSome : (bank14Read 0 4096 stagedEdition).isSome = true := by decide +kernel
/-- The bytes staged. -/
def stagedBytes : List Byte := (bank14Read 0 4096 stagedEdition).get stagedEdition_isSome

theorem toBytes_length (n v : Nat) : (toBytes n v).length = n := by simp [toBytes]

theorem ofBytes_append (l m : List Byte) : ofBytes (l ++ m) = ofBytes l + 256 ^ l.length * ofBytes m := by
  induction l with
  | nil => simp [ofBytes]
  | cons b l ih => simp only [List.cons_append, ofBytes, ih, List.length_cons]; ring

theorem ofBytes_toBytes8 (v : Nat) : ofBytes (toBytes 8 v) = v % 2 ^ 64 := by
  simp only [toBytes, show List.range 8 = [0, 1, 2, 3, 4, 5, 6, 7] from rfl, List.map, ofBytes, BitVec.toNat_ofNat]
  omega

theorem stagedBytes_serial : stg 8 16 stagedBytes = Config.serial % 2 ^ 128 := by
  have e : stagedBytes = slice 0 4096 ((List.range 512).flatMap (fun i => toBytes 8 (spWord 14 (0 + i) stagedEdition))) := by
    unfold stagedBytes
    apply Option.some_injective
    rw [Option.some_get]
    rfl
  have h1 : spWord 14 1 stagedEdition = Config.serial % 2 ^ 64 := rfl
  have h2 : spWord 14 2 stagedEdition = Config.serial / 2 ^ 64 % 2 ^ 64 := rfl
  have r : List.range 512 = 0 :: 1 :: 2 :: List.range' 3 509 := by decide +kernel
  have s : slice 8 16 stagedBytes = toBytes 8 (Config.serial % 2 ^ 64) ++ toBytes 8 (Config.serial / 2 ^ 64 % 2 ^ 64) := by
    rw [e, r]
    simp only [slice, List.flatMap_cons, List.drop_zero, List.drop_take, Nat.zero_add, h1, h2]
    rw [List.take_take]
    rw [List.drop_append_of_le_length (by simp [toBytes]), List.drop_of_length_le (by simp [toBytes])]
    rw [List.nil_append, List.take_append, List.take_of_length_le (by simp [toBytes]), List.take_append, List.take_of_length_le (by simp [toBytes])]
    simp [toBytes]
  unfold stg
  rw [s, ofBytes_append, ofBytes_toBytes8, ofBytes_toBytes8, toBytes_length]
  omega

theorem stagedBytes_check : edCheck 3 stagedBytes stagedEdition = 0 := by
  have hb : lcState stagedEdition = lcBlank := by decide +kernel
  unfold edCheck
  rw [if_neg (by decide +kernel), if_neg, if_neg, if_neg, if_neg, if_neg]
  · decide +kernel
  · decide +kernel
  · decide +kernel
  · decide +kernel
  · rintro (h | h | h | h)
    · exact absurd h (by decide +kernel)
    · exact absurd h (by decide +kernel)
    · exact h stagedBytes_serial
    · exact absurd h (by decide +kernel)
/-- With no router on the way in maintenance, a request to HBM passes whichever ingress its address has. -/
theorem nocReach_clear (i a n m : Nat) (s : State) (h : ((List.range 4).all (fun x => !routeRefused i x s) && decide (a < 0x400000000)) = true) :
    nocReach i a n m s = (none, { s with noc := { s.noc with cntReqs := nocCount i n s.noc.cntReqs, cntFlits := nocCount i m s.noc.cntFlits } }) := by
  simp only [Bool.and_eq_true, decide_eq_true_eq, List.all_eq_true, List.mem_range, Bool.not_eq_true'] at h
  unfold nocReach targetOf
  rw [if_pos h.2]
  dsimp only
  rw [h.1 _ (Nat.mod_lt _ (by decide))]
  rfl


/-- The hypotheses of `Obligations.SluiceRequestRule`, clause by clause. -/
theorem witness_SluiceRequestRule :
  (∃ (value : Nat) (k : Nat) (s : State), Sound s ∧
    sluCheck (SLU_REQ_CLASS.of value) (SLU_REQ_TARGET.of value) (SLU_REQ_CURRENT.of value) (SLU_REQ_DURATION.of value) s = .done ∧
    freeEntry s = some k ∧ s.power.queue = [] ∧ sluFits (SLU_REQ_CLASS.of value) (SLU_REQ_CURRENT.of value) s = true) ∧
  (∃ (value : Nat) (k : Nat) (s : State), Sound s ∧
    sluCheck (SLU_REQ_CLASS.of value) (SLU_REQ_TARGET.of value) (SLU_REQ_CURRENT.of value) (SLU_REQ_DURATION.of value) s = .done ∧
    freeEntry s = some k ∧ s.power.queue.length < 64 ∧
    ¬(s.power.queue = [] ∧ sluFits (SLU_REQ_CLASS.of value) (SLU_REQ_CURRENT.of value) s = true)) ∧
  (∃ (value : Nat) (s : State), Sound s ∧
    sluCheck (SLU_REQ_CLASS.of value) (SLU_REQ_TARGET.of value) (SLU_REQ_CURRENT.of value) (SLU_REQ_DURATION.of value) s = .done ∧
    (freeEntry s = none ∨ s.power.queue.length = 64)) :=
  ⟨⟨0x547 * 0x100000000 + 4, 0, st [], by decide +kernel⟩,
   ⟨0x547 * 0x100000000 + 4, 0, st [(SYS_PROFILE_CUR, 3), (SLU_ENT_CURRENT 1, 97), (SLU_ENT_STATE 1, 2)], by decide +kernel⟩,
   ⟨0x547 * 0x100000000 + 4, { st [] with power := { State.reset.power with queue := List.range 64 } }, by decide +kernel⟩⟩

/-- The hypotheses of `Obligations.SluiceCommandsComplete`, clause by clause. -/
theorem witness_SluiceCommandsComplete :
  (∃ (a : Agent) (ticket : Nat) (k : Nat) (s : State), Sound s ∧ ticketEntry (ticket % 65536) s = some k ∧
    (s.get (SLU_ENT_INITIATOR k) = a.init.val ∨ a.init.val < 2)) ∧
  (∃ (visits : Nat) (k : Nat) (l : List Nat) (s : State), Sound s ∧ (dutySlot 1 anySlot s).isSome = true ∧ 1 ≤ visits ∧
    s.power.cycle = k :: l ∧ sluFits (s.get (SLU_ENT_CLASS k)) (s.get (SLU_ENT_CURRENT k)) s = true) ∧
  (∃ (k n : Nat) (l : List Nat) (s : State), Sound s ∧ s.power.ramp = k :: l ∧ n < 96 ∧ spGet k s.power.purpose = forRaise n ∧
    s.get (PWR_DOM_CTL_TARGET n) = tgtOn ∧ (domState n s = dsOff ∨ domState n s = dsRetain)) ∧
  (∃ (k : Nat) (l : List Nat) (s : State), Sound s ∧ s.power.ramp = k :: l ∧ spGet k s.power.purpose = 0) ∧
  (∃ (e : Fin 128) (s : State), Sound s ∧ s.get (SLU_ENT_STATE e.val) = 2 ∧ spGet e.val s.power.dur ≠ 0 ∧
    s.get (SLU_ENT_REMAIN e.val) = 0) :=
  ⟨⟨⟨7, .none⟩, 0x105, 5, st [(SLU_ENT_STATE 5, 2), (SLU_ENT_GEN 5, 1), (SLU_ENT_INITIATOR 5, 7)], by decide +kernel⟩,
   ⟨2, 3, [4], { st [(SLU_ENT_STATE 3, 1), (SLU_ENT_CURRENT 3, 9)] with power := { State.reset.power with queue := [3, 4], cycle := [3, 4] } }, by decide +kernel⟩,
   ⟨3, 95, [], { st [(PWR_DOM_CTL_TARGET 95, 1)] with power := { State.reset.power with ramp := [3], purpose := [(3, 195)] } }, by decide +kernel⟩,
   ⟨3, [], { st [] with power := { State.reset.power with ramp := [3] } }, by decide +kernel⟩,
   ⟨127, { st [(SLU_ENT_STATE 127, 2)] with power := { State.reset.power with dur := [(127, 5)] } }, by decide +kernel⟩⟩

/-- The hypotheses of `Obligations.DomainCommandsComplete`, clause by clause. -/
theorem witness_DomainCommandsComplete :
  (∃ (a : Agent) (n : Fin 96) (s : State), Sound s ∧ pwrWriter a = true ∧ 82 ≤ n.val ∧ s.profile.quiet = none ∧
    domState n.val s = dsOff ∧ raiseWaits n.val s = false) ∧
  (∃ (a : Agent) (n : Fin 96) (k : Nat) (s : State), Sound s ∧ pwrWriter a = true ∧ n.val < 82 ∧ n.val ≠ 64 ∧ n.val ≠ 65 ∧
    s.profile.quiet = none ∧ domState n.val s = dsOff ∧ raiseWaits n.val s = false ∧ s.get ELIM_STAT_WIRING = 0 ∧
    freeEntry s = some k ∧ s.power.queue.length < 64) ∧
  (∃ (a : Agent) (n : Fin 96) (target : Nat) (s : State), Sound s ∧ pwrWriter a = true ∧ n.val ≠ 64 ∧ n.val ≠ 65 ∧
    (target = tgtOff ∨ (target = tgtRetain ∧ retainable n.val = true)) ∧ s.profile.quiet = none ∧ domState n.val s = dsOn ∧
    s.get (PWR_DOM_CTL_TARGET n.val) ≠ target) ∧
  (∃ (a : Agent) (n : Fin 96) (target : Nat) (s : State), Sound s ∧ pwrWriter a = true ∧ (n.val = 64 ∨ n.val = 65) ∧
    (target = tgtOff ∨ target = tgtRetain) ∧ s.profile.quiet = none ∧ domState 64 s = dsOn ∧ domState 65 s = dsOn ∧
    s.get (PWR_DOM_CTL_TARGET n.val) ≠ target) ∧
  (∃ (a : Agent) (n : Fin 96) (s : State), Sound s ∧ pwrWriter a = true ∧ n.val ≠ 64 ∧ n.val ≠ 65 ∧ s.profile.quiet = none ∧
    domState n.val s = dsOn) ∧
  (∃ (n : Fin 96) (s : State), Sound s ∧ domState n.val s = dsRaising ∧ s.get (PWR_DOM_CTL_TARGET n.val) = tgtOn ∧
    (s.get BOOT_STAT_READY = 0 ∨ s.field.saved = [])) ∧
  (∃ (n : Fin 96) (s : State), Sound s ∧ domState n.val s = dsLowering ∧ mayQuiesce n.val s = true ∧ n.val ∉ s.power.toRetain ∧
    s.get (PWR_DOM_CTL_TARGET n.val) = tgtOff) ∧
  (∃ (n : Fin 96) (s : State), Sound s ∧ domState n.val s = dsLowering ∧ outstanding n.val s ≠ 0 ∧ n.val ∉ s.power.toRetain ∧
    s.get (PWR_DOM_CTL_TARGET n.val) = tgtOff) :=
  ⟨⟨⟨0, .none⟩, 95, st [], by decide +kernel⟩,
   ⟨⟨0, .none⟩, 0, 0, st [], by decide +kernel⟩,
   ⟨⟨1, .none⟩, 16, 0, st [(PWR_DOM_STAT_STATE 16, 2), (PWR_DOM_CTL_TARGET 16, 1)], by decide +kernel⟩,
   ⟨⟨1, .none⟩, 65, 2, st [(PWR_DOM_STAT_STATE 64, 2), (PWR_DOM_CTL_TARGET 64, 1), (PWR_DOM_STAT_STATE 65, 2), (PWR_DOM_CTL_TARGET 65, 1)], by decide +kernel⟩,
   ⟨⟨1, .none⟩, 20, st [(PWR_DOM_STAT_STATE 20, 2), (PWR_DOM_CTL_TARGET 20, 1)], by decide +kernel⟩,
   ⟨82, st [(PWR_DOM_STAT_STATE 82, 1)], by decide +kernel⟩,
   ⟨0, st [(PWR_DOM_STAT_STATE 0, 3)], by decide +kernel⟩,
   ⟨94, { st [(PWR_DOM_STAT_STATE 94, 3)] with noc := { State.reset.noc with reqs := [openReq 94] } }, by decide +kernel⟩⟩

/-- The hypotheses of `Obligations.DomainResetCommandsComplete`, clause by clause. -/
theorem witness_DomainResetCommandsComplete :
  (∃ (a : Agent) (n : Fin 96) (s : State), Sound s ∧ pwrWriter a = true ∧ (n.val < 82 ∨ 86 ≤ n.val) ∧
    n.val ∉ s.power.resetWait ∧ n.val ∉ s.power.resetHold ∧ outstanding n.val s = 0 ∧ nodesLeft n.val s = false) ∧
  (∃ (a : Agent) (n : Fin 96) (s : State), Sound s ∧ pwrWriter a = true ∧ (n.val < 82 ∨ 86 ≤ n.val) ∧
    n.val ∉ s.power.resetWait ∧ n.val ∉ s.power.resetHold ∧ (outstanding n.val s ≠ 0 ∨ nodesLeft n.val s = true)) ∧
  (∃ (a : Agent) (n : Fin 96) (s : State), Sound s ∧ pwrWriter a = true ∧ 82 ≤ n.val ∧ n.val < 86 ∧
    n.val ∉ s.power.resetWait ∧ n.val ∉ s.power.resetHold ∧ domOn n.val s = true ∧ coreHasFirmware (n.val - 82) s = true ∧
    s.get (DBG_RUN_RHALT (n.val - 82)) = 0) ∧
  (∃ (n : Fin 96) (s : State), Sound s ∧ n.val ∈ s.power.resetWait ∧ outstanding n.val s ≠ 0) ∧
  (∃ (n : Fin 96) (s : State), Sound s ∧ (n.val ∈ s.power.resetHold ∨ (n.val ∈ s.power.resetWait ∧ mayQuiesce n.val s = true)) ∧
    16 ≤ n.val ∧ n.val < 48) ∧
  (∃ (n : Fin 96) (s : State), Sound s ∧ (n.val ∈ s.power.resetHold ∨ (n.val ∈ s.power.resetWait ∧ mayQuiesce n.val s = true)) ∧
    66 ≤ n.val ∧ n.val < 70) ∧
  (∃ (n : Fin 96) (s : State), Sound s ∧ (n.val ∈ s.power.resetHold ∨ (n.val ∈ s.power.resetWait ∧ mayQuiesce n.val s = true)) ∧
    (n.val < 16 ∨ (48 ≤ n.val ∧ n.val < 66) ∨ 70 ≤ n.val)) :=
  ⟨⟨⟨0, .none⟩, 70, st [], by decide +kernel⟩,
   ⟨⟨1, .none⟩, 70, { st [] with noc := { State.reset.noc with reqs := [openReq 70] } }, by decide +kernel⟩,
   ⟨⟨0, .none⟩, 83, st [(PWR_DOM_STAT_STATE 83, 2), (BOOT_STAT_FW_SLOT, 0)], by decide +kernel⟩,
   ⟨70, { st [] with power := { State.reset.power with resetWait := [70] }, noc := { State.reset.noc with reqs := [openReq 70] } }, by decide +kernel⟩,
   ⟨16, { st [(JET_CFG_EN 3, 1)] with power := { State.reset.power with resetHold := [16] } }, by decide +kernel⟩,
   ⟨69, { st [(SEQ_STAT_STATE 15, 2), (SEQ_TICKET_VALID 12 7, 1)] with power := { State.reset.power with resetWait := [69] } }, by decide +kernel⟩,
   ⟨0, { st [] with power := { State.reset.power with resetHold := [0] } }, by decide +kernel⟩⟩

/-- The hypotheses of `Obligations.ProfileAndLimiterCommandsComplete`, clause by clause. -/
theorem witness_ProfileAndLimiterCommandsComplete :
  (∃ (a : Agent) (viaObject : Bool) (req : Nat) (s : State), Sound s ∧
    ((viaObject = false ∧ a.core03 = true) ∨ (a.init.val = 49 ∧ a.role ≠ .none)) ∧ req ≤ 3 ∧ s.profile.entry = none ∧
    req = curProfile s) ∧
  (∃ (a : Agent) (req k : Nat) (s : State), Sound s ∧ (a.core03 = true ∨ a.init.val = 49) ∧ req ≤ 3 ∧ s.profile.entry = none ∧
    req ≠ curProfile s ∧ loadExceeds req s = none ∧ freeEntry s = some k ∧ s.power.queue.length < 64) ∧
  (∃ (r : Fin 16) (p : Nat × Nat × Bool) (s : State), Sound s ∧ (s.profile.reload.find? (fun p => p.1 == r.val) = some p) ∧
    domOn r.val s = true ∧ s.get HBM_STAT_STATE = hbmReady ∧ s.ldr.queue.length < 16) ∧
  (∃ (onset : BallCurrent) (s : State), Sound s ∧ faultCurrent onset.ch.val onset.nA s = true) ∧
  (∃ (ch : Fin 512) (energyNJ : Nat) (s : State), Sound s ∧ ch.val ∈ s.power.inFault ∧ 40000 ≤ energyNJ ∧
    bit (s.get (ELIM_TRIP_BALL (ch.val / 16))) (ch.val % 16) = false) ∧
  (∃ (windowUJ : Nat) (s : State), Sound s ∧ 1800 ≤ windowUJ ∧ s.get ELIM_STAT_WIRING = 0) ∧
  (∃ (b : Fin 32) (mask : Nat) (s : State), Sound s ∧ (∀ c < 16, bit mask c = true → 16 * b.val + c ∉ s.power.inFault)) ∧
  (∃ (s : State), Sound s ∧ s.on ELIM_STAT_WIRING = true ∧ s.get ELIM_STAT_WIN_FAULT < 1800 ∧ s.power.inFault = []) ∧
  (∃ (s : State), Sound s ∧ (dutySlot 7 anySlot s).isSome = true ∧ s.power.ledgerDue ≠ 0) ∧
  (∃ (s : State), Sound s ∧ s.power.vin = .on) ∧
  (∃ (s : State), Sound s ∧ s.power.vin ≠ .off) ∧
  (∃ (s : State), Sound s ∧ s.power.vin ≠ .on) :=
  ⟨⟨⟨49, .operator⟩, true, 0, st [], by decide +kernel⟩,
   ⟨⟨0, .none⟩, 1, 0, st [], by decide +kernel⟩,
   ⟨3, (3, 1, false), { st [(PWR_DOM_STAT_STATE 3, 2), (HBM_STAT_STATE, hbmReady)] with profile := { State.reset.profile with reload := [(3, 1, false)] } }, by decide +kernel⟩,
   ⟨⟨511, 60000001⟩, { st [] with jets := { State.reset.jets with drv := [(511, 1)] } }, by decide +kernel⟩,
   ⟨511, 40000, { st [] with power := { State.reset.power with inFault := [511] } }, by decide +kernel⟩,
   ⟨1800, st [], by decide +kernel⟩,
   ⟨31, 0x8001, st [(ELIM_TRIP_BALL 31, 0x8003)], by decide +kernel⟩,
   ⟨st [(ELIM_STAT_WIRING, 1), (ELIM_STAT_WIN_FAULT, 1799)], by decide +kernel⟩,
   ⟨{ st [] with power := { State.reset.power with ledgerDue := 2 } }, by decide +kernel⟩,
   ⟨st [], by decide +kernel⟩,
   ⟨st [], by decide +kernel⟩,
   ⟨{ st [] with power := { State.reset.power with vin := .off } }, by decide +kernel⟩⟩

/-- The hypotheses of `Obligations.ClockCommandsComplete`, clause by clause. -/
theorem witness_ClockCommandsComplete :
  (∃ (src : Fin 3) (s : State), Sound s ∧ srcOk src.val s = true) ∧
  (∃ (src : Fin 3) (s : State), Sound s ∧ srcOk src.val s = false ∧ (src.val = 2 → upActive s = true)) ∧
  (∃ (s : State), Sound s ∧ s.on CLK_SRC_STAT_HOLDOVER = true ∧ srcOk (s.get CLK_SRC_STAT_ACTIVE) s = true) ∧
  (∃ (m : Fin 5) (value : Nat) (s : State), Sound s ∧ (value ≤ if m.val = 0 then 2 else 1) ∧ s.get (CLK_SEL_SEL m.val) ≠ value) ∧
  (∃ (m : Fin 5) (s : State), Sound s ∧ s.on (CLK_SEL_PEND m.val) = true ∧ m.val ≠ 0 ∧
    muxClockRuns m.val (muxNow m.val s) s = true ∧ muxClockRuns m.val (s.get (CLK_SEL_SEL m.val)) s = true) ∧
  (∃ (s : State), Sound s ∧ s.on (CLK_SEL_PEND 0) = true ∧
    srcRuns (muxNow 0 s) s = true ∧ srcRuns (s.get (CLK_SEL_SEL 0)) s = true) ∧
  (∃ (m : Fin 5) (s : State), Sound s ∧ s.on (CLK_SEL_PEND m.val) = true ∧ m.val ∉ s.clock.muxWaited ∧
    muxClockRuns m.val (s.get (CLK_SEL_SEL m.val)) s = true ∧ s.on (CLK_SEL_FORCE m.val) = true) ∧
  (∃ (m : Fin 5) (s : State), Sound s ∧ s.on (CLK_SEL_PEND m.val) = true ∧ m.val ∉ s.clock.muxWaited ∧
    muxClockRuns m.val (s.get (CLK_SEL_SEL m.val)) s = true ∧ s.on (CLK_SEL_FORCE m.val) = false) ∧
  (∃ (m : Fin 5) (s : State), Sound s ∧ (s.get (CLK_SEL_SEL m.val) ≤ if m.val = 0 then 2 else 1) ∧ m.val ∈ s.clock.muxWaited) ∧
  (∃ (mhz : Nat) (s : State), Sound s ∧ 100 ≤ mhz ∧ mhz ≤ 800) ∧
  (∃ (i : Fin 4) (s : State), Sound s ∧ i.val ∈ s.clock.relock) ∧
  (∃ (value : Nat) (s : State), Sound s ∧
    (CLKMON_CTL_EN.hit value && clkmonFast (CLKMON_CTL_SRC.of value) (CLKMON_CTL_DIV.of value) s) = false) ∧
  (∃ (n : Fin 96) (s : State), Sound s ∧ domState n.val s ≠ dsLowering ∧ s.get (CLK_GATE_PEND n.val) = 0 ∧
    s.get (CLK_GATE_CLOSED n.val) = 0) ∧
  (∃ (n : Fin 96) (s : State), Sound s ∧ s.on (CLK_GATE_PEND n.val) = true ∧ outstanding n.val s = 0) ∧
  (∃ (n : Fin 96) (s : State), Sound s ∧ s.on (CLK_GATE_PEND n.val) = true) ∧
  (∃ (n : Fin 96) (s : State), Sound s ∧ s.get (CLK_GATE_PEND n.val) = 0) :=
  ⟨⟨0, st [(CLK_SRC_STAT_OK, 1), (CLK_SRC_STAT_ACTIVE, 0)], by decide +kernel⟩,
   ⟨1, st [], by decide +kernel⟩,
   ⟨st [(CLK_SRC_STAT_HOLDOVER, 1), (CLK_SRC_STAT_OK, 1)], by decide +kernel⟩,
   ⟨0, 2, st [], by decide +kernel⟩,
   ⟨3, st [(CLK_SEL_PEND 3, 1), (CLK_SEL_SEL 3, 1), (CLK_SRC_STAT_OK, 1)], by decide +kernel⟩,
   ⟨st [(CLK_SEL_PEND 0, 1), (CLK_SEL_SEL 0, 1), (CLK_SRC_STAT_OK, 3)], by decide +kernel⟩,
   ⟨1, st [(CLK_SEL_PEND 1, 1), (CLK_SEL_FORCE 1, 1)], by decide +kernel⟩,
   ⟨1, st [(CLK_SEL_PEND 1, 1)], by decide +kernel⟩,
   ⟨1, { st [(CLK_SEL_PEND 1, 1)] with clock := { State.reset.clock with muxWaited := [1] } }, by decide +kernel⟩,
   ⟨100, st [], by decide +kernel⟩,
   ⟨2, (match execFabFrequencyChange ⟨0, .none⟩ 2 200 (st []) with | .next t => t | _ => st []), by decide +kernel⟩,
   ⟨0x80000900, st [], by decide +kernel⟩,
   ⟨95, st [], by decide +kernel⟩,
   ⟨95, st [(CLK_GATE_PEND 95, 1), (CLK_GATE_CLOSE 95, 1)], by decide +kernel⟩,
   ⟨3, st [(CLK_GATE_PEND 3, 1), (CLK_GATE_CLOSE 3, 1)], by decide +kernel⟩,
   ⟨3, st [(CLK_GATE_CLOSE 3, 1), (CLK_GATE_CLOSED 3, 1)], by decide +kernel⟩⟩

/-- The hypotheses of `Obligations.FrameCommandsComplete`, clause by clause. -/
theorem witness_FrameCommandsComplete :
  (∃ (s : State), Sound s ∧ ticksRun s = true ∧ s.get FRM_CTL_SRC = 0 ∧ s.field.sdo = []) ∧
  (∃ (atPs : Nat) (s : State), Sound s ∧ ticksRun s = true ∧ s.get FRM_CTL_SRC = 1 ∧ s.get FRM_STAT_ACQUIRING = 0 ∧
    s.get FRM_STAT_SRC_ACT = 1 ∧ within1us atPs s.clock.expectPs = true ∧ s.clock.tickPs + 2000000 ≤ edgeAfter atPs ∧
    s.field.sdo = []) ∧
  (∃ (s : State), Sound s ∧ ticksRun s = true ∧ sourceMissing s = true ∧ s.field.sdo = []) ∧
  (∃ (value : Nat) (s : State), Sound s ∧ FRM_CTL_SRC.of value ≠ 3 ∧ 2000 ≤ FRM_CTL_PERIOD.of value ∧
    FRM_CTL_PERIOD.of value ≤ 10000000) ∧
  (∃ (s : State), Sound s ∧ (∀ d < 8, d ≠ 4 → dutyHasSlot d s = true)) ∧
  (∃ (fr : Nat) (s : State), Sound s ∧ (dutySlot 6 anySlot s).isSome = true ∧ s.clock.teleDue = some fr) :=
  ⟨⟨st [(BOOT_STAT_STAGE, 3), (FRM_COUNT_COUNT, 2 ^ 48 - 1), (FRM_STAT_HOLDOVER, 1)], by decide +kernel⟩,
   ⟨99000500, st [(BOOT_STAT_STAGE, 3), (FRM_CTL_SRC, 1), (FRM_STAT_SRC_ACT, 1)], by decide +kernel⟩,
   ⟨st [(BOOT_STAT_STAGE, 3), (FRM_CTL_SRC, 1), (FRM_STAT_SRC_ACT, 1)], by decide +kernel⟩,
   ⟨2000 + 2 ^ 24, st [], by decide +kernel⟩,
   ⟨st [(SLOT_SHD_SLOT0 0, 0xEF)], by decide +kernel⟩,
   ⟨7, { st [] with clock := { State.reset.clock with teleDue := some 7 } }, by decide +kernel⟩⟩

/-- The hypotheses of `Obligations.ResetAndBootCommandsComplete`, clause by clause. -/
theorem witness_ResetAndBootCommandsComplete :
  (∃ (s : State), Sound s ∧ s.pins.porstLow = false) ∧
  (∃ (a : Agent) (s : State), Sound s ∧ (a.core01 = true ∨ a.fieldIM = true) ∧ almPrograms s = false) ∧
  (∃ (a : Agent) (c : Fin 4) (s : State), Sound s ∧ (a.core01 = true ∨ a.fieldIM = true ∨ (a.init.val = c.val ∧ 2 ≤ c.val)) ∧
    domOn (82 + c.val) s = true ∧ coreHasFirmware c.val s = true ∧ s.get (DBG_RUN_RHALT c.val) = 0) ∧
  (∃ (a : Agent) (value : Nat) (s : State), Sound s ∧ a.fieldIM = true ∧ value = 0x5A) ∧
  (∃ (src : Nat) (s : State), Sound s ∧ s.boot.warmDue = some src ∧ almPrograms s = false) ∧
  (∃ (s : State), Sound s ∧ s.pins.porstLow = true ∧ s.power.vin = .on) ∧
  (∃ (s : State), Sound s ∧ s.pins.srstLow = true ∧ s.pins.porstLow = false ∧ 3 ≤ s.get BOOT_STAT_STAGE) ∧
  (∃ (s : State), Sound s ∧ bootMayEnd s = true ∧ s.get BOOT_STAT_STAGE = 1) ∧
  (∃ (s : State), Sound s ∧ bootMayEnd s = true ∧ s.get BOOT_STAT_STAGE = 2) ∧
  (∃ (s : State), Sound s ∧ bootMayEnd s = true ∧ s.get BOOT_STAT_STAGE = 6) ∧
  (∃ (s : State), Sound s ∧ bootMayEnd s = true ∧ s.get BOOT_STAT_STAGE = 7) ∧
  (∃ (l : List Bool) (s : State), Sound s ∧ l.length = 14 ∧ (tapActs s = irPreload ∨ tapActs s = irExtest)) ∧
  (∃ (s : State), Sound s ∧ s.power.vin ≠ .off ∧ s.pins.porstLow = false ∧ 2 ≤ s.get BOOT_STAT_STAGE) :=
  ⟨⟨st [(RST_CAUSE_WARM_COUNT, 65535)], by decide +kernel⟩,
   ⟨⟨49, .maker⟩, st [(FRM_COUNT_COUNT, 9)], by decide +kernel⟩,
   ⟨⟨0, .none⟩, 1, st [(PWR_DOM_STAT_STATE 83, 2), (BOOT_STAT_FW_SLOT, 1)], by decide +kernel⟩,
   ⟨⟨49, .installer⟩, 0x5A, st [], by decide +kernel⟩,
   ⟨3, { st [] with boot := { State.reset.boot with warmDue := some 3 } }, by decide +kernel⟩,
   ⟨{ st [] with pins := ⟨true, false, false⟩ }, by decide +kernel⟩,
   ⟨{ st [(BOOT_STAT_STAGE, 3), (FRM_COUNT_COUNT, 3)] with pins := ⟨false, true, false⟩ }, by decide +kernel⟩,
   ⟨st [(BOOT_STAT_STAGE, 1)], by decide +kernel⟩,
   ⟨st [(BOOT_STAT_STAGE, 2), (CLK_SRC_STAT_OK, 1)], by decide +kernel⟩,
   ⟨st [(BOOT_STAT_STAGE, 6)], by decide +kernel⟩,
   ⟨st [(BOOT_STAT_STAGE, 7)], by decide +kernel⟩,
   ⟨List.replicate 14 true, { st [(BOOT_STAT_STAGE, 3)] with dbg := { State.reset.dbg with ir := irPreload } }, by decide +kernel⟩,
   ⟨st [(BOOT_STAT_STAGE, 2)], by decide +kernel⟩⟩

/-- The hypotheses of `Obligations.FabricCommandsComplete`, clause by clause. -/
theorem witness_FabricCommandsComplete :
  (∃ (area : Fin 17) (mem : Nat) (access : BramRd) (s : State), Sound s ∧ fabRuns area.val s = true ∧ mem < bramCount area.val ∧
    access.word < bramWords (bramMode area.val mem s) ∧ bramMode area.val mem s ≠ 8) ∧
  (∃ (area : Fin 17) (mem : Nat) (access : BramRd) (s : State), Sound s ∧ fabRuns area.val s = true ∧ mem < bramCount area.val ∧
    access.word < 512 ∧ bramMode area.val mem s = 8) ∧
  (∃ (area : Fin 17) (mem : Nat) (x : BramWr) (pb : Option BramWr) (s : State), Sound s ∧ fabRuns area.val s = true ∧
    mem < bramCount area.val ∧ x.word < bramWords (bramMode area.val mem s) ∧ (∀ y, pb = some y → y.word = x.word)) ∧
  (∃ (area : Fin 17) (mem word : Nat) (p : Nat × Nat) (s : State), Sound s ∧
    (s.fab.due.find? (fun p => p.1 == bramWordKey area.val mem word) = some p)) ∧
  (∃ (area : Fin 17) (p : Nat) (s : State), Sound s ∧ scrubNext area.val s = some p ∧ fabRuns area.val s = true ∧
    s.get (FAB_ECC_CTL_SCRUB_RATE area.val) ≠ 0) ∧
  (∃ (area : Fin 17) (p : Nat) (s : State), Sound s ∧ scrubNext area.val s = some p ∧ fabRuns area.val s = true ∧
    s.get (FAB_ECC_CTL_SCRUB_RATE area.val) ≠ 0 ∧ spGet area.val s.fab.tries + 1 < 256) ∧
  (∃ (area : Fin 17) (value : Nat) (s : State), Sound s ∧ (FAB_FLIP_CTL_MEM area.val).of value < bramCount area.val ∧
    ((FAB_FLIP_CTL_ARM area.val).hit value = true → bramMode area.val ((FAB_FLIP_CTL_MEM area.val).of value) s = 8)) ∧
  (∃ (q : Fin 16) (s : State), Sound s ∧ fabRuns q.val s = true ∧ s.get (REG_STAT_ISO q.val) = 0) ∧
  (∃ (q : Fin 16) (s : State), Sound s ∧ s.on (FAB_PORT_CTL_DIN_EN q.val) = true ∧ fabRuns q.val s = true ∧
    s.get (REG_STAT_ISO q.val) = 0) ∧
  (∃ (area : Fin 17) (addr : Nat) (f : FabAnswer) (s : State), Sound s ∧ targetOf addr = some (32 + area.val) ∧
    portReq area.val s = none ∧ (area.val ∈ s.fab.asked ∨ areaRefuses area.val s = none) ∧ fabRuns area.val s = true ∧
    fabStatus f.status = true) ∧
  (∃ (area : Fin 17) (addr : Nat) (s : State), Sound s ∧ targetOf addr = some (32 + area.val) ∧ portReq area.val s = none ∧
    (area.val ∈ s.fab.asked ∨ areaRefuses area.val s = none)) ∧
  (∃ (area : Fin 17) (s : State), Sound s ∧ area.val ∈ s.fab.asked ∧ portReq area.val s = none) :=
  ⟨⟨3, 5, ⟨7, some ⟨7, 8⟩⟩, { st [(PWR_DOM_STAT_STATE 3, 2), (REG_STAT_STATE 3, 2)] with fab := { State.reset.fab with modes := [(2048 * 3 + 5, 3)], words := [(32768 * (2048 * 3 + 5) + 7, 9)] } }, by decide +kernel⟩,
   ⟨3, 5, ⟨7, none⟩, { st [(PWR_DOM_STAT_STATE 3, 2), (REG_STAT_STATE 3, 2)] with fab := { State.reset.fab with modes := [(2048 * 3 + 5, 8)], words := [(32768 * (2048 * 3 + 5) + 7, 9)] } }, by decide +kernel⟩,
   ⟨16, 1279, ⟨511, 0xFF⟩, none, { st [(PWR_DOM_STAT_STATE 3, 2), (REG_STAT_STATE 16, 2)] with fab := { State.reset.fab with modes := [(2048 * 16 + 1279, 7)] } }, by decide +kernel⟩,
   ⟨3, 5, 7, (32768 * (2048 * 3 + 5) + 7, 9), { st [] with fab := { State.reset.fab with due := [(32768 * (2048 * 3 + 5) + 7, 9)] } }, by decide +kernel⟩,
   ⟨3, 512 * 5, { st [(PWR_DOM_STAT_STATE 3, 2), (REG_STAT_STATE 3, 2), (FAB_ECC_CTL_SCRUB_RATE 3, 1)] with fab := { State.reset.fab with modes := [(2048 * 3 + 5, 8)] } }, by decide +kernel⟩,
   ⟨3, 512 * 5, { st [(PWR_DOM_STAT_STATE 3, 2), (REG_STAT_STATE 3, 2), (FAB_ECC_CTL_SCRUB_RATE 3, 1)] with fab := { State.reset.fab with modes := [(2048 * 3 + 5, 8)] } }, by decide +kernel⟩,
   ⟨3, 5, st [], by decide +kernel⟩,
   ⟨3, { st [(PWR_DOM_STAT_STATE 3, 2), (REG_STAT_STATE 3, 2), (REG_STAT_ISO 3, 0)] with ports := { State.reset.ports with tap := [(3, [1, 2, 3])] } }, by decide +kernel⟩,
   ⟨3, st [(PWR_DOM_STAT_STATE 3, 2), (REG_STAT_STATE 3, 2), (REG_STAT_ISO 3, 0), (FAB_PORT_CTL_DIN_EN 3, 1)], by decide +kernel⟩,
   ⟨3, 0x2000000000 + 3 * 0x40000000, ⟨.done, [77, 1]⟩, st [(PWR_DOM_STAT_STATE 3, 2), (REG_STAT_STATE 3, 2)], by decide +kernel⟩,
   ⟨3, 0x2000000000 + 3 * 0x40000000, st [(PWR_DOM_STAT_STATE 3, 2), (REG_STAT_STATE 3, 2)], by decide +kernel⟩,
   ⟨3, { st [] with fab := { State.reset.fab with asked := [3] } }, by decide +kernel⟩⟩

/-- The hypotheses of `Obligations.LoaderCommandsComplete`, clause by clause. -/
theorem witness_LoaderCommandsComplete :
  (∃ (a : Agent) (slot : Fin 16) (s : State), Sound s ∧ (a.core03 = true ∨ a.fieldIM = true) ∧
    domOn 64 s = true ∧ domOn 65 s = true ∧
    (s.ldr.queue.any (fun x => x.op == 0 && x.slot == slot.val && x.region == 0) = false) ∧ s.ldr.queue.length < 16) ∧
  (∃ (a : Agent) (slot : Fin 16) (s : State), Sound s ∧ (a.core03 = true ∨ a.fieldIM = true) ∧
    domOn 64 s = true ∧ domOn 65 s = true ∧
    (s.ldr.queue.any (fun x => x.op == 1 && x.slot == slot.val && x.region == 0) = false) ∧ s.ldr.queue.length < 16) ∧
  (∃ (a : Agent) (region : Fin 16) (s : State), Sound s ∧ (a.core03 = true ∨ a.fieldIM = true) ∧
    domOn 64 s = true ∧ domOn 65 s = true ∧ loads region.val s = false ∧
    (s.ldr.queue.any (fun x => x.op == 2 && x.slot == 0 && x.region == region.val) = false) ∧ s.ldr.queue.length < 16) ∧
  (∃ (a : Agent) (region : Fin 16) (s : State), Sound s ∧ (a.core03 = true ∨ a.fieldIM = true) ∧
    domOn 64 s = true ∧ domOn 65 s = true ∧ loads region.val s = true) ∧
  (∃ (q : LdrReq) (rest : List LdrReq) (s : State), Sound s ∧ s.ldr.job = none ∧ s.ldr.queue = q :: rest ∧ q.op = 0) ∧
  (∃ (q : LdrReq) (rest : List LdrReq) (s : State), Sound s ∧ s.ldr.job = none ∧ s.ldr.queue = q :: rest ∧ q.op = 2) ∧
  (∃ (flashOk : Bool) (j : LdrJob) (s : State), Sound s ∧ s.ldr.job = some j ∧ j.phase = .staging ∧ j.req.op = 0 ∧
    flashOk = false) ∧
  (∃ (j : LdrJob) (s : State), Sound s ∧ s.ldr.job = some j ∧ j.phase = .staging ∧ j.req.op = 0) ∧
  (∃ (j : LdrJob) (s : State), Sound s ∧ s.ldr.job = some j ∧ j.phase = .granting ∧ grantedForPurpose forLoad s = true ∧
    j.region = 16) ∧
  (∃ (j : LdrJob) (s : State), Sound s ∧ s.ldr.job = some j ∧ j.phase = .granting ∧ grantedForPurpose forLoad s = true ∧
    j.region ≠ 16) ∧
  (∃ (r : Fin 16) (j : LdrJob) (s : State), Sound s ∧ s.ldr.job = some j ∧ j.phase = .draining ∧ j.region = r.val) ∧
  (∃ (readBackOk : Bool) (j : LdrJob) (u v : State) (s : State), Sound s ∧ s.ldr.job = some j ∧ j.phase = .writing ∧
    j.done_ < areaRecords (jobImg j s) j.region ∧ hbmWindow 2 65 s = true ∧
    copyReads 47 (cacheBase (jobSource j)) (recordSpan (jobImg j s) j.region j.done_).1 (recordSpan (jobImg j s) j.region j.done_).2 s = (true, u) ∧
    writeRecord (jobImg j s) j.region j.done_ readBackOk u = (.good, v)) ∧
  (∃ (j : LdrJob) (s : State), Sound s ∧ s.ldr.job = some j ∧ j.phase = .writing ∧ areaRecords (jobImg j s) j.region ≤ j.done_) ∧
  (∃ (s : State), Sound s ∧ (dutySlot 5 anySlot s).isSome = true ∧ 1 ≤ s.ldr.rillDue ∧ passRuns s = false ∧
    rillChecks (s.get RILL_STAT_POSITION) s = true ∧ (s.fab.bad.find? (fun w => w / 512 == s.get RILL_STAT_POSITION) = none)) ∧
  (∃ (k : Nat) (s : State), Sound s ∧ RILL_CTL_RATE.of (putBit (rillCtlWord s) 31 true) ≤ 68 ∧
    RILL_CTL_BUCKET.of (putBit (rillCtlWord s) 31 true) ≠ 0 ∧ s.get RILL_CTL_PASS = 0 ∧ freeEntry s = some k ∧
    s.power.queue.length < 64) ∧
  (∃ (p : RillPass) (s : State), Sound s ∧ s.ldr.pass = some p ∧ s.on RILL_STAT_PASS_BUSY = true ∧ 36864 ≤ p.seen) :=
  ⟨⟨⟨3, .none⟩, 15, st [(PWR_DOM_STAT_STATE 64, 2), (PWR_DOM_STAT_STATE 65, 2)], by decide +kernel⟩,
   ⟨⟨49, .maker⟩, 15, st [(PWR_DOM_STAT_STATE 64, 2), (PWR_DOM_STAT_STATE 65, 2)], by decide +kernel⟩,
   ⟨⟨0, .none⟩, 15, st [(PWR_DOM_STAT_STATE 64, 2), (PWR_DOM_STAT_STATE 65, 2)], by decide +kernel⟩,
   ⟨⟨0, .none⟩, 15, { st [(PWR_DOM_STAT_STATE 64, 2), (PWR_DOM_STAT_STATE 65, 2)] with ldr := { State.reset.ldr with job := some ⟨⟨1, 0, 0, 0⟩, 15, .writing, 0⟩ } }, by decide +kernel⟩,
   ⟨⟨0, 4, 0, 0⟩, [], { st [] with ldr := { State.reset.ldr with queue := [⟨0, 4, 0, 0⟩] } }, by decide +kernel⟩,
   ⟨⟨2, 0, 4, 0⟩, [], { st [] with ldr := { State.reset.ldr with queue := [⟨2, 0, 4, 0⟩] } }, by decide +kernel⟩,
   ⟨false, ⟨⟨0, 4, 0, 0⟩, 17, .staging, 0⟩, { st [] with ldr := { State.reset.ldr with job := some ⟨⟨0, 4, 0, 0⟩, 17, .staging, 0⟩ } }, by decide +kernel⟩,
   ⟨⟨⟨0, 4, 0, 0⟩, 17, .staging, 0⟩, { st [] with ldr := { State.reset.ldr with job := some ⟨⟨0, 4, 0, 0⟩, 17, .staging, 0⟩ } }, by decide +kernel⟩,
   ⟨⟨⟨4, 0, 16, 0⟩, 16, .granting, 0⟩, { st [(SLU_ENT_STATE 5, 2)] with ldr := { State.reset.ldr with job := some ⟨⟨4, 0, 16, 0⟩, 16, .granting, 0⟩ }, power := { State.reset.power with purpose := [(5, forLoad)] } }, by decide +kernel⟩,
   ⟨⟨⟨1, 0, 0, 0⟩, 3, .granting, 0⟩, { st [(SLU_ENT_STATE 5, 2)] with ldr := { State.reset.ldr with job := some ⟨⟨1, 0, 0, 0⟩, 3, .granting, 0⟩ }, power := { State.reset.power with purpose := [(5, forLoad)] } }, by decide +kernel⟩,
   ⟨3, ⟨⟨1, 0, 0, 0⟩, 3, .draining, 0⟩, { st [] with ldr := { State.reset.ldr with job := some ⟨⟨1, 0, 0, 0⟩, 3, .draining, 0⟩ } }, by decide +kernel⟩,
   ⟨true, imgJob, (copyReads 47 (cacheBase (jobSource imgJob)) (recordSpan (jobImg imgJob imgState) imgJob.region imgJob.done_).1 (recordSpan (jobImg imgJob imgState) imgJob.region imgJob.done_).2 imgState).2, (writeRecord (jobImg imgJob imgState) imgJob.region imgJob.done_ true (copyReads 47 (cacheBase (jobSource imgJob)) (recordSpan (jobImg imgJob imgState) imgJob.region imgJob.done_).1 (recordSpan (jobImg imgJob imgState) imgJob.region imgJob.done_).2 imgState).2).2, imgState, by decide +kernel⟩,
   ⟨⟨⟨1, 0, 0, 0⟩, 3, .writing, 0⟩, { st [] with ldr := { State.reset.ldr with job := some ⟨⟨1, 0, 0, 0⟩, 3, .writing, 0⟩ } }, by decide +kernel⟩,
   ⟨{ st [(RILL_STAT_POSITION, 36863), (REG_STAT_STATE 16, 2)] with ldr := { State.reset.ldr with rillDue := 4 } }, by decide +kernel⟩,
   ⟨0, st [], by decide +kernel⟩,
   ⟨⟨36864, 4, 2, 1⟩, { st [(RILL_STAT_PASS_BUSY, 1), (RILL_CTL_PASS, 1)] with ldr := { State.reset.ldr with pass := some ⟨36864, 4, 2, 1⟩ } }, by decide +kernel⟩⟩

/-- The hypotheses of `Obligations.JetCommandsComplete`, clause by clause. -/
theorem witness_JetCommandsComplete :
  (∃ (a : Agent) (ch : Fin 512) (value : Nat) (s : State), Sound s ∧ domRefuses (bankDom ch.val) s = none ∧ a.ctl = true ∧
    (s.on (JET_CFG_EN ch.val) = false ∨ (s.changes (JET_CFG_RANGE ch.val) value = false ∧ s.changes (JET_CFG_SEQ ch.val) value = false))) ∧
  (∃ (a : Agent) (ch : Fin 512) (value : Nat) (s : State), Sound s ∧ domRefuses (bankDom ch.val) s = none ∧ a.ctl = true ∧
    (JET_LVL_DRV_VIH ch.val).of value ≤ maxCode (s.on (JET_CFG_RANGE ch.val)) ∧ (JET_LVL_DRV_VIL ch.val).of value ≤ maxCode (s.on (JET_CFG_RANGE ch.val)) ∧ (JET_LVL_DRV_VTT ch.val).of value ≤ maxCode (s.on (JET_CFG_RANGE ch.val)) ∧
    (s.on (JET_CFG_RANGE ch.val) = true ∨ codeDist ((JET_LVL_DRV_VIH ch.val).of value) ((JET_LVL_DRV_VIL ch.val).of value) ≤ 35000)) ∧
  (∃ (a : Agent) (ch : Fin 512) (value : Nat) (s : State), Sound s ∧ domRefuses (bankDom ch.val) s = none ∧ a.ctl = true ∧
    (JET_LVL_CMP_VOH ch.val).of value ≤ maxCode (s.on (JET_CFG_RANGE ch.val)) ∧ (JET_LVL_CMP_VCOM ch.val).of value ≤ maxCode (s.on (JET_CFG_RANGE ch.val)) ∧
    (JET_LVL_CMP_VOL ch.val).of value ≤ (JET_LVL_CMP_VOH ch.val).of value) ∧
  (∃ (a : Agent) (ch : Fin 512) (value : Nat) (s : State), Sound s ∧ domRefuses (bankDom ch.val) s = none ∧ a.ctl = true ∧
    (JET_LOAD_ISRC ch.val).of value ≤ 48000 ∧ (JET_LOAD_ISNK ch.val).of value ≤ 48000) ∧
  (∃ (a : Agent) (ch : Fin 512) (value : Nat) (s : State), Sound s ∧ domRefuses (bankDom ch.val) s = none ∧ a.ctl = true ∧
    pmuValuesOk ch.val (writeFlds (JET_PMU_FORCE_fields ch.val) value s) = true) ∧
  (∃ (a : Agent) (ch : Fin 512) (value : Nat) (s : State), Sound s ∧ domRefuses (bankDom ch.val) s = none ∧ a.ctl = true ∧
    pmuValuesOk ch.val (writeFlds (JET_PMU_ICLAMP_fields ch.val) value s) = true) ∧
  (∃ (a : Agent) (ch : Fin 512) (value : Nat) (s : State), Sound s ∧ domRefuses (bankDom ch.val) s = none ∧ a.ctl = true ∧
    pmuValuesOk ch.val (writeFlds (JET_PMU_VCLAMP_fields ch.val) value s) = true) ∧
  (∃ (a : Agent) (ch : Fin 512) (mask : Nat) (s : State), Sound s ∧ domRefuses (bankDom ch.val) s = none ∧ a.ctl = true ∧
    (JET_STAT_BLK_RATE ch.val).hit mask = true ∧
    (seqStopped (s.get (JET_CFG_SEQ ch.val)) s = true ∨ overRate ch.val (curPeriod ch.val s) s = false)) ∧
  (∃ (a : Agent) (b : Fin 32) (code : Nat) (s : State), Sound s ∧ a.ctl = true ∧ code ≤ 2 ∧
    (s.get (JET_BANK_CTL_SPARE_FOR b.val) = 31 ∨ s.get (JET_BANK_CTL_SPARE_FOR b.val) < 16) ∧
    (code = s.get (JET_BANK_CTL_MAXRATE b.val) ∨ ((∃ m, profileRate (curProfile s) = some m ∧ code ≤ m) ∧ (code = 2 → hasGrant clsRate (16 + b.val) s = true)))) ∧
  (∃ (a : Agent) (b : Fin 32) (ball : Nat) (s : State), Sound s ∧ a.core01 = true ∧ (ball = 31 ∨ ball < 16) ∧
    s.get (JET_BANK_CTL_MAXRATE b.val) < 3) ∧
  (∃ (a : Agent) (ch : Fin 512) (value : Nat) (s : State), Sound s ∧ domRefuses (bankDom ch.val) s = none ∧ a.ctl = true ∧
    (JET_PMU_CTL_IRANGE ch.val).of value < 5 ∧
    (¬(((JET_PMU_CTL_MODE ch.val).of value = 1 ∨ (JET_PMU_CTL_MODE ch.val).of value = 2) ∧ (JET_PMU_CTL_IRANGE ch.val).of value = 0) ∨ hasGrant clsPmu (bankDom ch.val) s = true) ∧
    (s.changes (JET_PMU_CTL_DIV ch.val) value = false ∨ ∃ d, profileDiv (curProfile s) = some d ∧ d ≤ (JET_PMU_CTL_DIV ch.val).of value)) ∧
  (∃ (ch : Fin 512) (s : State), Sound s ∧ domRuns (bankDom ch.val) s = true ∧ s.power.vin = .on ∧
    s.get (JET_PMU_CTL_MODE ch.val) ≠ 0 ∧ pmuConnected ch.val s = false ∧ jetTripped ch.val s = false) ∧
  (∃ (ch : Fin 512) (s : State), Sound s ∧ domRuns (bankDom ch.val) s = true ∧ pmuConnected ch.val s = true) ∧
  (∃ (ch : Fin 512) (s : State), Sound s ∧ domRuns (bankDom ch.val) s = true ∧ pmuConnected ch.val s = true ∧
    (s.get (JET_PMU_CTL_MODE ch.val) = 1 ∨ s.get (JET_PMU_CTL_MODE ch.val) = 2)) ∧
  (∃ (ch : Fin 512) (k : Nat) (cy : Cyc) (s : State), Sound s ∧ domRuns (bankDom ch.val) s = true ∧
    seqPlays (s.get (JET_CFG_SEQ ch.val)) s = true ∧ s.on (JET_CFG_EN ch.val) = false ∧
    cycleFor ch.val k (eng (s.get (JET_CFG_SEQ ch.val)) s).issued = some cy) ∧
  (∃ (ch : Fin 512) (k : Nat) (cy : Cyc) (s : State), Sound s ∧ domRuns (bankDom ch.val) s = true ∧
    seqPlays (s.get (JET_CFG_SEQ ch.val)) s = true ∧ s.on (JET_CFG_EN ch.val) = true ∧
    cycleFor ch.val k (eng (s.get (JET_CFG_SEQ ch.val)) s).issued = some cy ∧ jetBlocked ch.val s = false ∧
    overRate ch.val (s.get (ET_PER_PERIOD (s.get (JET_CFG_SEQ ch.val)) cy.ts)) s = true) :=
  ⟨⟨⟨0, .none⟩, 511, 0x3F33, st [(PWR_DOM_STAT_STATE 47, 2)], by decide +kernel⟩,
   ⟨⟨49, .installer⟩, 100, 62500 + 65536 * 27500 + 2 ^ 32 * 62500, st [(PWR_DOM_STAT_STATE 22, 2)], by decide +kernel⟩,
   ⟨⟨2, .none⟩, 100, 62500 + 65536 * 62500, st [(PWR_DOM_STAT_STATE 22, 2)], by decide +kernel⟩,
   ⟨⟨2, .none⟩, 100, 48000 * 65537, st [(PWR_DOM_STAT_STATE 22, 2)], by decide +kernel⟩,
   ⟨⟨2, .none⟩, 100, 60000 + 65536 * 0x8000, st [(PWR_DOM_STAT_STATE 22, 2)], by decide +kernel⟩,
   ⟨⟨2, .none⟩, 100, 0xFFFF + 65536 * 1, st [(PWR_DOM_STAT_STATE 22, 2)], by decide +kernel⟩,
   ⟨⟨2, .none⟩, 100, 12000 + 65536 * 12001, st [(PWR_DOM_STAT_STATE 22, 2)], by decide +kernel⟩,
   ⟨⟨1, .none⟩, 33, 0x10, st [(PWR_DOM_STAT_STATE 18, 2), (JET_STAT_BLK_RATE 33, 1)], by decide +kernel⟩,
   ⟨⟨3, .none⟩, 31, 0, st [], by decide +kernel⟩,
   ⟨⟨1, .none⟩, 31, 15, st [], by decide +kernel⟩,
   ⟨⟨1, .none⟩, 33, 0x941, st [(PWR_DOM_STAT_STATE 18, 2)], by decide +kernel⟩,
   ⟨511, st [(PWR_DOM_STAT_STATE 47, 2), (JET_PMU_CTL_MODE 511, 1)], by decide +kernel⟩,
   ⟨3, { st [(PWR_DOM_STAT_STATE 16, 2), (JET_PMU_CTL_MODE 3, 1)] with jets := { State.reset.jets with pmuOn := [3] } }, by decide +kernel⟩,
   ⟨3, { st [(PWR_DOM_STAT_STATE 16, 2), (JET_PMU_CTL_MODE 3, 1)] with jets := { State.reset.jets with pmuOn := [3] } }, by decide +kernel⟩,
   ⟨3, 0, ⟨0, 0, 0, 0, false, 0, 0, 0, 0, 0, [], none, 0, none, false, false, []⟩, { st [(PWR_DOM_STAT_STATE 16, 2), (PWR_DOM_STAT_STATE 66, 2)] with seqs := [{ (eng 0 State.reset) with issued := [⟨0, 0, 0, 0, false, 0, 0, 0, 0, 0, [], none, 0, none, false, false, []⟩] }] }, by decide +kernel⟩,
   ⟨3, 0, ⟨0, 0, 0, 0, false, 0, 0, 0, 0, 0, [], none, 0, none, false, false, []⟩, { st [(PWR_DOM_STAT_STATE 16, 2), (PWR_DOM_STAT_STATE 66, 2), (JET_CFG_EN 3, 1), (ET_PER_PERIOD 0 0, 999)] with seqs := [{ (eng 0 State.reset) with issued := [⟨0, 0, 0, 0, false, 0, 0, 0, 0, 0, [], none, 0, none, false, false, []⟩] }] }, by decide +kernel⟩⟩

/-- The hypotheses of `Obligations.EdgeTimingCommandsComplete`, clause by clause. -/
theorem witness_EdgeTimingCommandsComplete :
  (∃ (a : Agent) (q : Fin 16) (value : Nat) (s : State), Sound s ∧ domRefuses (seqDom q.val) s = none ∧ a.ctl = true ∧
    500 ≤ value ∧ value ≤ 4192000000 ∧ seqStopped q.val s = true) ∧
  (∃ (a : Agent) (ch : Fin 512) (value : Nat) (s : State), Sound s ∧ domRefuses (bankDom ch.val) s = none ∧ a.ctl = true ∧
    domOn (seqDom (s.get (JET_CFG_SEQ ch.val))) s = true ∧ seqStopped (s.get (JET_CFG_SEQ ch.val)) s = true ∧
    stagedOk ch.val ((ET_CH_COMMIT_TS ch.val).of value) ((ET_CH_COMMIT_FMT ch.val).of value) s = true) ∧
  (∃ (a : Agent) (record : List Byte) (s : State), Sound s ∧ a.im = true ∧ record.length = 32 ∧ ofBytes (slice 0 2 record) < 512 ∧
    ofBytes (slice 2 1 record) ≤ 63 ∧ ofBytes (slice 3 1 record) ≤ 7 ∧
    domRefuses (bankDom (ofBytes (slice 0 2 record))) s = none ∧
    commitStatus (ofBytes (slice 0 2 record)) (ofBytes (slice 2 1 record)) (ofBytes (slice 3 1 record)) (stageRecord (ofBytes (slice 0 2 record)) record s) = .done) ∧
  (∃ (a : Agent) (b : Fin 32) (s : State), Sound s ∧ domRefuses (16 + b.val) s = none ∧ a.ctl = true ∧
    (∀ k < 16, s.on (JET_CFG_EN (16 * b.val + k)) = false)) :=
  ⟨⟨⟨49, .installer⟩, 15, 500, st [(PWR_DOM_STAT_STATE 69, 2)], by decide +kernel⟩,
   ⟨⟨3, .none⟩, 17, 0x3F00, st [(PWR_DOM_STAT_STATE 66, 2), (PWR_DOM_STAT_STATE 17, 2), (ET_CH_STG_DRV12_D1 17, 3600)], by decide +kernel⟩,
   ⟨⟨49, .maker⟩, [1, 0, 63, 0, 16, 14, 0, 0, 0, 0, 0, 0, 0, 0, 0, 0, 0, 0, 0, 0, 7, 0, 0, 0, 8, 0, 0, 0, 0, 0, 0, 0], st [(PWR_DOM_STAT_STATE 66, 2), (PWR_DOM_STAT_STATE 16, 2)], by decide +kernel⟩,
   ⟨⟨0, .none⟩, 31, st [(PWR_DOM_STAT_STATE 47, 2)], by decide +kernel⟩⟩

/-- The hypotheses of `Obligations.WeirCommandsComplete`, clause by clause. -/
theorem witness_WeirCommandsComplete :
  (∃ (ch : Fin 512) (edge : WitnessEdge) (p : PlacedEdge) (s : State), Sound s ∧ edgeCounts ch.val edge s = true ∧
    launchedEdge ch.val edge s = some p ∧ edge.crosses = false) ∧
  (∃ (ch : Fin 512) (edge : WitnessEdge) (s : State), Sound s ∧ edgeCounts ch.val edge s = true ∧
    launchedEdge ch.val edge s = none ∧ edge.crosses = true) ∧
  (∃ (d : WeirDecided) (s : State), Sound s ∧ s.weir.decided = some d ∧ s.on WEIR_CTL_RUN = true ∧
    (dutySlot 2 (openAt200 s) s).isSome = true) ∧
  (∃ (a : Agent) (s : State), Sound s ∧ calWriter a = true ∧ s.on WEIR_CAL_INFO_BUSY = false ∧ s.get WEIR_CAL_BANKS_BANKS ≠ 0) ∧
  (∃ (results : List BallCal) (l : List CalBank) (s : State), Sound s ∧ (calWatch s).weir.run = some l ∧
    resultsComplete results l = true) ∧
  (∃ (a : Agent) (s : State), Sound s ∧ calWriter a = true ∧ s.on WEIR_CAL_INFO_BUSY = false) ∧
  (∃ (s : State), Sound s ∧ s.weir.saving = true) :=
  ⟨⟨5, ⟨some 0, false, 40, 0, 500, false⟩, ⟨7, 0, 0, 7, 1⟩, { st [(PWR_DOM_STAT_STATE 16, 2), (JET_LVL_DRV_VIH 5, 17500)] with jets := { State.reset.jets with placed := [⟨5, 0, false, [⟨7, 0, 0, 7, 1⟩], ⟨0, 0, 0, 0, 0⟩, ⟨0, 0, 0, 0, 0⟩, 0⟩] } }, by decide +kernel⟩,
   ⟨5, ⟨none, true, 0, -40, 40000, false⟩, st [(PWR_DOM_STAT_STATE 16, 2), (JET_LVL_DRV_VIH 5, 17500), (WEIR_CH_CORR_CORR_CMP 5, 65535)], by decide +kernel⟩,
   ⟨⟨4, [], false⟩, { st [] with weir := { State.reset.weir with decided := some ⟨4, [], false⟩ } }, by decide +kernel⟩,
   ⟨⟨49, .maker⟩, st [(WEIR_CAL_BANKS_BANKS, 2 ^ 31)], by decide +kernel⟩,
   ⟨[], [⟨3, 1⟩], { st [(WEIR_CAL_INFO_BUSY, 1)] with weir := { State.reset.weir with run := some [⟨3, 1⟩] } }, by decide +kernel⟩,
   ⟨⟨1, .none⟩, st [], by decide +kernel⟩,
   ⟨{ st [(WEIR_CAL_INFO_BUSY, 1), (WEIR_CAL_INFO_DIRTY, 1)] with weir := { State.reset.weir with saving := true } }, by decide +kernel⟩⟩

/-- The hypotheses of `Obligations.SequencerCommandsComplete`, clause by clause. -/
theorem witness_SequencerCommandsComplete :
  (∃ (a : Agent) (q : Fin 16) (value : Nat) (nsToTick : Nat) (k : Nat) (s : State), Sound s ∧ domRefuses (seqDom q.val) s = none ∧
    a.ctl = true ∧
    (SEQ_CTL_STOP q.val).hit (Nat.lor value (2 ^ 29)) = false ∧ (SEQ_CTL_ABORT q.val).hit (Nat.lor value (2 ^ 29)) = false ∧
    startStatus q.val nsToTick s = .done ∧ startTickOf q.val nsToTick s = some k ∧ s.get (SEQ_PROG_ENTRY q.val) ≤ 0xFFFFFF) ∧
  (∃ (a : Agent) (q : Fin 16) (s : State), Sound s ∧ domRefuses (seqDom q.val) s = none ∧ a.ctl = true ∧
    seqState q.val s = seqRunning) ∧
  (∃ (a : Agent) (q : Fin 16) (s : State), Sound s ∧ domRefuses (seqDom q.val) s = none ∧ a.ctl = true ∧
    (seqState q.val s = seqRunning ∨ seqState q.val s = seqPaused)) ∧
  (∃ (a : Agent) (q : Fin 16) (s : State), Sound s ∧ domRefuses (seqDom q.val) s = none ∧ a.ctl = true) ∧
  (∃ (a : Agent) (q : Fin 16) (s : State), Sound s ∧ domRefuses (seqDom q.val) s = none ∧ a.ctl = true) ∧
  (∃ (q : Fin 16) (s : State), Sound s ∧ seqState q.val s = seqArmed ∧ (eng q.val s).startTick ≤ frameCount s ∧
    (eng q.val s).queue ≠ []) ∧
  (∃ (q : Fin 16) (s : State), Sound s ∧ seqState q.val s = seqArmed ∧ (eng q.val s).startTick ≤ frameCount s ∧
    (eng q.val s).queue = [] ∧ holdDue q.val s = false ∧ pauseMet q.val s = false ∧ (eng q.val s).ending = none) ∧
  (∃ (q : Fin 16) (y : Cyc) (l : List Cyc) (s : State), Sound s ∧ (seqState q.val s = seqRunning ∨ seqState q.val s = seqPaused) ∧
    (eng q.val s).queue = y :: l) ∧
  (∃ (q : Fin 16) (s : State), Sound s ∧ seqState q.val s = seqRunning ∧ (eng q.val s).queue = [] ∧ (eng q.val s).ending = none ∧
    holdDue q.val s = false) ∧
  (∃ (q : Fin 16) (x : SeqEnd) (s : State), Sound s ∧ (seqState q.val s = seqRunning ∨ seqState q.val s = seqPaused) ∧
    (eng q.val s).queue = [] ∧ (eng q.val s).ending = some x) ∧
  (∃ (q : Fin 16) (s : State), Sound s ∧ seqState q.val s = seqPaused ∧ s.get (SEQ_STAT_PAUSE_SRC q.val) = 0) ∧
  (∃ (q : Fin 16) (s : State), Sound s ∧ pauseWaits q.val s = true ∧ (eng q.val s).pauseWarned = false ∧
    max 1 (s.get (SEQ_CTL_PAUSE_WARN q.val)) ≤ (eng q.val s).pauseTicks) ∧
  (∃ (q : Fin 16) (page : Nat) (b : List Byte) (u : State) (s : State), Sound s ∧
    ((eng q.val s).pages.any (fun p => p.num == page && !p.ready) = true) ∧
    hbmLoad (4 + q.val) (s.get (SEQ_PROG_BASE q.val) + 4096 * page) 64 s = (.done, b, u) ∧
    (eng q.val s).demand = none ∧ (eng q.val s).prefWait = []) ∧
  (∃ (q : Fin 16) (b : List Byte) (u : State) (s : State), Sound s ∧ seqStopped q.val s = false ∧ (eng q.val s).ending = none ∧
    recWords q.val s ≠ 0 ∧ (eng q.val s).vecBuf.length + 8 ≤ 8192 ∧ hbmLoad (4 + q.val) (eng q.val s).vecAt 1 s = (.done, b, u)) ∧
  (∃ (q : Fin 16) (y : CycSeen) (l : List CycSeen) (s : State), Sound s ∧ (eng q.val s).seen = y :: l ∧ y.mrep = none ∧
    s.get (SEQ_SITE_FAIL_SITE q.val) < 2 ^ 64 ∧ y.fails < 2 ^ 64) :=
  ⟨⟨⟨1, .none⟩, 4, 10, 5000, 2, st [(PWR_DOM_STAT_STATE 67, 2), (PWR_DOM_STAT_STATE 64, 2), (PWR_DOM_STAT_STATE 65, 2), (FRM_STAT_PERIOD_ACT, 50000), (SEQ_PROG_ENTRY 4, 300), (SEQ_SITE_FAIL_SITE 4, 3)], by decide +kernel⟩,
   ⟨⟨1, .none⟩, 4, st [(PWR_DOM_STAT_STATE 67, 2), (SEQ_STAT_STATE 4, 2)], by decide +kernel⟩,
   ⟨⟨1, .none⟩, 4, st [(PWR_DOM_STAT_STATE 67, 2), (SEQ_STAT_STATE 4, 2)], by decide +kernel⟩,
   ⟨⟨1, .none⟩, 4, st [(PWR_DOM_STAT_STATE 67, 2), (SEQ_STAT_STATE 4, 2)], by decide +kernel⟩,
   ⟨⟨1, .none⟩, 4, st [(PWR_DOM_STAT_STATE 67, 2), (SEQ_STAT_STATE 4, 3), (SEQ_CTL_PAUSE 4, 1), (SEQ_STAT_PAUSE_SRC 4, 5)], by decide +kernel⟩,
   ⟨4, modEng 4 (fun e => { e with queue := [holdCycle 4 State.reset] }) (st [(SEQ_STAT_STATE 4, 1)]), by decide +kernel⟩,
   ⟨4, st [(SEQ_STAT_STATE 4, 1), (SEQ_STAT_WAIT 4, 5)], by decide +kernel⟩,
   ⟨4, holdCycle 4 State.reset, [], modEng 4 (fun e => { e with queue := [holdCycle 4 State.reset] }) (st [(SEQ_STAT_STATE 4, 2)]), by decide +kernel⟩,
   ⟨4, st [(SEQ_STAT_STATE 4, 2)], by decide +kernel⟩,
   ⟨4, ⟨1, 0⟩, modEng 4 (fun e => { e with ending := some ⟨1, 0⟩ }) (st [(SEQ_STAT_STATE 4, 2)]), by decide +kernel⟩,
   ⟨4, st [(SEQ_STAT_STATE 4, 3)], by decide +kernel⟩,
   ⟨4, seqSt 4 (insW 0 0 0 0) (fun e => { e with pauseTicks := 10 }) [(SEQ_STAT_PAUSE_SRC 4, 1)], by decide +kernel⟩,
   ⟨4, 3, (hbmLoad 8 12288 64 (modEng 4 (fun e => { e with pages := [⟨3, false, false, []⟩] }) imgState)).2.1, (hbmLoad 8 12288 64 (modEng 4 (fun e => { e with pages := [⟨3, false, false, []⟩] }) imgState)).2.2, modEng 4 (fun e => { e with pages := [⟨3, false, false, []⟩] }) imgState, by decide +kernel⟩,
   ⟨4, (hbmLoad 8 64 1 (modEng 4 (fun e => { e with vecAt := 64 }) (((imgState.set (SEQ_STAT_STATE 4) 2).set (SEQ_PIN_VALID 4 7) 1).set (SEQ_PIN_KIND 4 7) 0))).2.1, (hbmLoad 8 64 1 (modEng 4 (fun e => { e with vecAt := 64 }) (((imgState.set (SEQ_STAT_STATE 4) 2).set (SEQ_PIN_VALID 4 7) 1).set (SEQ_PIN_KIND 4 7) 0))).2.2, modEng 4 (fun e => { e with vecAt := 64 }) (((imgState.set (SEQ_STAT_STATE 4) 2).set (SEQ_PIN_VALID 4 7) 1).set (SEQ_PIN_KIND 4 7) 0), by decide +kernel⟩,
   ⟨4, ⟨0, 12, 4, 0, none, true⟩, [], modEng 4 (fun e => { e with seen := [⟨0, 12, 4, 0, none, true⟩] }) (st [(SEQ_SITE_FAIL_SITE 4, 1)]), by decide +kernel⟩⟩

/-- The hypotheses of `Obligations.SequencerFlowCompletes`, clause by clause. -/
theorem witness_SequencerFlowCompletes :
  (∃ (q : Fin 16) (w : Nat) (u : State) (s : State), Sound s ∧ AtInstruction q.val 0 w s ∧ VectorDone q.val w s u ∧
    s.get (SEQ_PC_PC q.val) < 0xFFFFFF) ∧
  (∃ (q : Fin 16) (w : Nat) (u : State) (s : State), Sound s ∧ AtInstruction q.val 1 w s ∧ VectorDone q.val w s u) ∧
  (∃ (q : Fin 16) (w : Nat) (u : State) (s : State), Sound s ∧ AtInstruction q.val 2 w s ∧ (eng q.val s).calls.length < 8 ∧
    VectorDone q.val w s u) ∧
  (∃ (q : Fin 16) (w a : Nat) (u : State) (s : State), Sound s ∧ AtInstruction q.val 3 w s ∧
    (eng q.val s).calls.getLast? = some a ∧ a ≤ 0xFFFFFF ∧ VectorDone q.val w s u) ∧
  (∃ (q : Fin 16) (w : Nat) (u : State) (s : State), Sound s ∧ AtInstruction q.val 4 w s ∧ (eng q.val s).loops.length < 16 ∧
    VectorDone q.val w s u ∧ s.get (SEQ_PC_PC q.val) < 0xFFFFFF) ∧
  (∃ (q : Fin 16) (w : Nat) (x : LoopEnt) (u : State) (s : State), Sound s ∧ AtInstruction q.val 5 w s ∧
    (eng q.val s).loops.getLast? = some x ∧ 1 < x.left ∧ x.start ≤ 0xFFFFFF ∧ VectorDone q.val w s u) ∧
  (∃ (q : Fin 16) (w : Nat) (x : LoopEnt) (u : State) (s : State), Sound s ∧ AtInstruction q.val 5 w s ∧
    (eng q.val s).loops.getLast? = some x ∧ x.left ≤ 1 ∧ VectorDone q.val w s u ∧ s.get (SEQ_PC_PC q.val) < 0xFFFFFF) ∧
  (∃ (q : Fin 16) (w : Nat) (u : State) (s : State), Sound s ∧ AtInstruction q.val 6 w s ∧ bit (insOpb w) 0 = false ∧
    VectorDone q.val w s u ∧ s.get (SEQ_PC_PC q.val) < 0xFFFFFF) ∧
  (∃ (q : Fin 16) (w : Nat) (u : State) (s : State), Sound s ∧ AtInstruction q.val 6 w s ∧ bit (insOpb w) 0 = true ∧
    s.get (SEQ_STAT_WAIT q.val) ≠ 4 ∧ WaitBegins q.val w s u ∧ (eng q.val u).queue ≠ [] ∧
    (∀ y ∈ (eng q.val u).queue, y.n < (eng q.val u).syncAt)) ∧
  (∃ (q : Fin 16) (w : Nat) (u : State) (s : State), Sound s ∧ AtInstruction q.val 7 w s ∧ VectorDone q.val w s u ∧
    s.get (SEQ_PC_PC q.val) < 0xFFFFFF) ∧
  (∃ (q : Fin 16) (w : Nat) (s : State), Sound s ∧ AtInstruction q.val 8 w s ∧ s.get (SEQ_STAT_WAIT q.val) ≠ 3) ∧
  (∃ (q : Fin 16) (w : Nat) (s : State), Sound s ∧ seqExecutes q.val s = true ∧
    fetchIns q.val (s.get (SEQ_PC_PC q.val)) s = some w ∧ insOpc w = 8 ∧ s.get (SEQ_STAT_WAIT q.val) = 3 ∧
    (insNovec w = true ∨ insRep w < (eng q.val s).mreps) ∧ (∀ y ∈ (eng q.val s).queue ++ (eng q.val s).issued, y.mrep = none) ∧
    (∀ y ∈ (eng q.val s).seen, y.mrep = none)) ∧
  (∃ (q : Fin 16) (w : Nat) (u : State) (s : State), Sound s ∧ AtInstruction q.val 9 w s ∧ s.get (SEQ_STAT_WAIT q.val) ≠ 1 ∧
    WaitBegins q.val w s u) ∧
  (∃ (q : Fin 16) (w : Nat) (s : State), Sound s ∧ seqExecutes q.val s = true ∧
    fetchIns q.val (s.get (SEQ_PC_PC q.val)) s = some w ∧ insOpc w = 9 ∧ s.get (SEQ_STAT_WAIT q.val) = 1 ∧
    max 1 (insOpb w) ≤ (eng q.val s).fticks ∧ s.get (SEQ_PC_PC q.val) < 0xFFFFFF) :=
  ⟨⟨3, insW 0 1 0 0, insOps 3 (insW 0 1 0 0) (insBegin 3 (seqSt 3 (insW 0 1 0 0) id [])), seqSt 3 (insW 0 1 0 0) id [], by decide +kernel⟩,
   ⟨3, insW 1 1 700 0, insOps 3 (insW 1 1 700 0) (insBegin 3 (seqSt 3 (insW 1 1 700 0) id [])), seqSt 3 (insW 1 1 700 0) id [], by decide +kernel⟩,
   ⟨3, insW 2 1 7 0, insOps 3 (insW 2 1 7 0) (insBegin 3 (seqSt 3 (insW 2 1 7 0) (fun e => { e with calls := [1, 2, 3, 4, 5, 6, 7] }) [])), seqSt 3 (insW 2 1 7 0) (fun e => { e with calls := [1, 2, 3, 4, 5, 6, 7] }) [], by decide +kernel⟩,
   ⟨3, insW 3 1 0 0, 9, insOps 3 (insW 3 1 0 0) (insBegin 3 (seqSt 3 (insW 3 1 0 0) (fun e => { e with calls := [1, 9] }) [])), seqSt 3 (insW 3 1 0 0) (fun e => { e with calls := [1, 9] }) [], by decide +kernel⟩,
   ⟨3, insW 4 1 4 1, insOps 3 (insW 4 1 4 1) (insBegin 3 (seqSt 3 (insW 4 1 4 1) id [])), seqSt 3 (insW 4 1 4 1) id [], by decide +kernel⟩,
   ⟨3, insW 5 1 0 0, ⟨1, 2⟩, insOps 3 (insW 5 1 0 0) (insBegin 3 (seqSt 3 (insW 5 1 0 0) (fun e => { e with loops := [⟨1, 2⟩] }) [])), seqSt 3 (insW 5 1 0 0) (fun e => { e with loops := [⟨1, 2⟩] }) [], by decide +kernel⟩,
   ⟨3, insW 5 1 0 0, ⟨1, 1⟩, insOps 3 (insW 5 1 0 0) (insBegin 3 (seqSt 3 (insW 5 1 0 0) (fun e => { e with loops := [⟨1, 1⟩] }) [])), seqSt 3 (insW 5 1 0 0) (fun e => { e with loops := [⟨1, 1⟩] }) [], by decide +kernel⟩,
   ⟨3, insW 6 1 7 10, insOps 3 (insW 6 1 7 10) (insBegin 3 (seqSt 3 (insW 6 1 7 10) id [])), seqSt 3 (insW 6 1 7 10) id [], by decide +kernel⟩,
   ⟨3, insW 6 1 7 1, insBegin 3 (seqSt 3 (insW 6 1 7 1) (fun e => { e with queue := [holdCycle 3 State.reset], enq := 1 }) []), seqSt 3 (insW 6 1 7 1) (fun e => { e with queue := [holdCycle 3 State.reset], enq := 1 }) [], by decide +kernel⟩,
   ⟨3, insW 7 1 7 6, insOps 3 (insW 7 1 7 6) (insBegin 3 (seqSt 3 (insW 7 1 7 6) id [(SEQ_CTL_HFLAG 3, 1)])), seqSt 3 (insW 7 1 7 6) id [(SEQ_CTL_HFLAG 3, 1)], by decide +kernel⟩,
   ⟨3, insW 8 0 7 0, seqSt 3 (insW 8 0 7 0) id [(SEQ_SITE_MATCH_SITE 3, 5)], by decide +kernel⟩,
   ⟨3, insW 8 1 7 0, seqSt 3 (insW 8 1 7 0) id [(SEQ_STAT_WAIT 3, 3)], by decide +kernel⟩,
   ⟨3, insW 9 1 0 2, insBegin 3 (seqSt 3 (insW 9 1 0 2) id []), seqSt 3 (insW 9 1 0 2) id [], by decide +kernel⟩,
   ⟨3, insW 9 1 0 2, seqSt 3 (insW 9 1 0 2) (fun e => { e with fticks := 2 }) [(SEQ_STAT_WAIT 3, 1)], by decide +kernel⟩⟩

/-- The hypotheses of `Obligations.SequencerActionsComplete`, clause by clause. -/
theorem witness_SequencerActionsComplete :
  (∃ (q : Fin 16) (w k : Nat) (u v : State) (s : State), Sound s ∧ AtInstruction q.val 10 w s ∧ s.get (SEQ_STAT_WAIT q.val) ≠ 2 ∧
    WaitBegins q.val w s u ∧ submitSlu q.val (bits (insOpb w) 0 3) u = (.done, some k, v) ∧ entGranted k v = false) ∧
  (∃ (q : Fin 16) (w k : Nat) (u v : State) (s : State), Sound s ∧ AtInstruction q.val 10 w s ∧ s.get (SEQ_STAT_WAIT q.val) ≠ 2 ∧
    WaitBegins q.val w s u ∧ submitSlu q.val (bits (insOpb w) 0 3) u = (.done, some k, v) ∧ entGranted k v = true ∧
    s.get (SEQ_PC_PC q.val) < 0xFFFFFF) ∧
  (∃ (q : Fin 16) (w : Nat) (s : State), Sound s ∧ seqExecutes q.val s = true ∧
    fetchIns q.val (s.get (SEQ_PC_PC q.val)) s = some w ∧ insOpc w = 10 ∧ s.get (SEQ_STAT_WAIT q.val) = 2 ∧
    bits (insOpb w) 3 13 ≠ 0 ∧ bits (insOpb w) 3 13 ≤ (eng q.val s).sluTicks ∧ sluDone q.val s = false) ∧
  (∃ (q : Fin 16) (w : Nat) (u : State) (s : State), Sound s ∧ AtInstruction q.val 11 w s ∧ VectorDone q.val w s u ∧
    s.get (SEQ_PC_PC q.val) < 0xFFFFFF) ∧
  (∃ (q : Fin 16) (w : Nat) (u : State) (s : State), Sound s ∧ AtInstruction q.val 12 w s ∧ bits (insOpb w) 0 6 ≤ 9 ∧
    VectorDone q.val w s u ∧ s.get (SEQ_PC_PC q.val) < 0xFFFFFF) ∧
  (∃ (q : Fin 16) (w : Nat) (u : State) (s : State), Sound s ∧ AtInstruction q.val 12 w s ∧
    16 ≤ bits (insOpb w) 0 6 ∧ bits (insOpb w) 0 6 < 24 ∧ VectorDone q.val w s u ∧ s.get (SEQ_PC_PC q.val) < 0xFFFFFF) ∧
  (∃ (q : Fin 16) (w : Nat) (u : State) (s : State), Sound s ∧ AtInstruction q.val 12 w s ∧ bits (insOpb w) 0 6 = 24 ∧
    VectorDone q.val w s u ∧ s.get (SEQ_PC_PC q.val) < 0xFFFFFF) ∧
  (∃ (q : Fin 16) (w : Nat) (u : State) (s : State), Sound s ∧ AtInstruction q.val 13 w s ∧ VectorDone q.val w s u ∧
    s.get (SEQ_PC_PC q.val) < 0xFFFFFF) ∧
  (∃ (q : Fin 16) (w : Nat) (u : State) (s : State), Sound s ∧ AtInstruction q.val 14 w s ∧ VectorDone q.val w s u ∧
    s.get (SEQ_PC_PC q.val) < 0xFFFFFF) ∧
  (∃ (q : Fin 16) (w : Nat) (u : State) (s : State), Sound s ∧ AtInstruction q.val 15 w s ∧ VectorDone q.val w s u ∧
    s.get (SEQ_PC_PC q.val) < 0xFFFFFF) ∧
  (∃ (q : Fin 16) (w : Nat) (u : State) (s : State), Sound s ∧ AtInstruction q.val 16 w s ∧ VectorDone q.val w s u ∧
    pageOf (s.get (SEQ_PC_PC q.val) + 1) = pageOf (s.get (SEQ_PC_PC q.val)) ∧ s.get (SEQ_PC_PC q.val) < 0xFFFFFF) ∧
  (∃ (q : Fin 16) (w : Nat) (u : State) (s : State), Sound s ∧ AtInstruction q.val 17 w s ∧ VectorDone q.val w s u ∧
    (eng q.val u).ending = none) ∧
  (∃ (q : Fin 16) (w : Nat) (s : State), Sound s ∧ seqExecutes q.val s = true ∧
    fetchIns q.val (s.get (SEQ_PC_PC q.val)) s = some w ∧ insLegal w = false) :=
  ⟨⟨3, insW 10 1 7 9, 0, insBegin 3 (seqSt 3 (insW 10 1 7 9) id [(SYS_PROFILE_CUR, 3), (SLU_ENT_CURRENT 1, 97), (SLU_ENT_STATE 1, 2), (SEQ_SLU_CLASS 3 1, 4), (SEQ_SLU_TARGET 3 1, 127), (SEQ_SLU_CURRENT 3 1, 99), (SEQ_SLU_DURATION 3 1, 5)]), (submitSlu 3 1 (insBegin 3 (seqSt 3 (insW 10 1 7 9) id [(SYS_PROFILE_CUR, 3), (SLU_ENT_CURRENT 1, 97), (SLU_ENT_STATE 1, 2), (SEQ_SLU_CLASS 3 1, 4), (SEQ_SLU_TARGET 3 1, 127), (SEQ_SLU_CURRENT 3 1, 99), (SEQ_SLU_DURATION 3 1, 5)]))).2.2, seqSt 3 (insW 10 1 7 9) id [(SYS_PROFILE_CUR, 3), (SLU_ENT_CURRENT 1, 97), (SLU_ENT_STATE 1, 2), (SEQ_SLU_CLASS 3 1, 4), (SEQ_SLU_TARGET 3 1, 127), (SEQ_SLU_CURRENT 3 1, 99), (SEQ_SLU_DURATION 3 1, 5)], by decide +kernel⟩,
   ⟨3, insW 10 1 7 9, 0, insBegin 3 (seqSt 3 (insW 10 1 7 9) id [(SEQ_SLU_CLASS 3 1, 4), (SEQ_SLU_TARGET 3 1, 127), (SEQ_SLU_CURRENT 3 1, 99), (SEQ_SLU_DURATION 3 1, 5)]), (submitSlu 3 1 (insBegin 3 (seqSt 3 (insW 10 1 7 9) id [(SEQ_SLU_CLASS 3 1, 4), (SEQ_SLU_TARGET 3 1, 127), (SEQ_SLU_CURRENT 3 1, 99), (SEQ_SLU_DURATION 3 1, 5)]))).2.2, seqSt 3 (insW 10 1 7 9) id [(SEQ_SLU_CLASS 3 1, 4), (SEQ_SLU_TARGET 3 1, 127), (SEQ_SLU_CURRENT 3 1, 99), (SEQ_SLU_DURATION 3 1, 5)], by decide +kernel⟩,
   ⟨3, insW 10 1 7 9, seqSt 3 (insW 10 1 7 9) (fun e => { e with sluTicks := 1, sluWait := some 4 }) [(SEQ_STAT_WAIT 3, 2), (SLU_ENT_STATE 4, 1)], by decide +kernel⟩,
   ⟨3, insW 11 1 0 2, insOps 3 (insW 11 1 0 2) (insBegin 3 (seqSt 3 (insW 11 1 0 2) id [(SEQ_TICKET_VALID 3 2, 1), (SEQ_TICKET_TICKET 3 2, 0x105), (SLU_ENT_STATE 5, 2), (SLU_ENT_GEN 5, 1), (SLU_ENT_INITIATOR 5, 7)])), seqSt 3 (insW 11 1 0 2) id [(SEQ_TICKET_VALID 3 2, 1), (SEQ_TICKET_TICKET 3 2, 0x105), (SLU_ENT_STATE 5, 2), (SLU_ENT_GEN 5, 1), (SLU_ENT_INITIATOR 5, 7)], by decide +kernel⟩,
   ⟨3, insW 12 1 0xFFFFFF 2, insOps 3 (insW 12 1 0xFFFFFF 2) (insBegin 3 (seqSt 3 (insW 12 1 0xFFFFFF 2) id [])), seqSt 3 (insW 12 1 0xFFFFFF 2) id [], by decide +kernel⟩,
   ⟨3, insW 12 1 0 16, insOps 3 (insW 12 1 0 16) (insBegin 3 (seqSt 3 (insW 12 1 0 16) id [(GEN_DR_VALUE 3 0, 77)])), seqSt 3 (insW 12 1 0 16) id [(GEN_DR_VALUE 3 0, 77)], by decide +kernel⟩,
   ⟨3, insW 12 1 0 24, insOps 3 (insW 12 1 0 24) (insBegin 3 (seqSt 3 (insW 12 1 0 24) id [(GEN_D_VALUE 3 0, 77)])), seqSt 3 (insW 12 1 0 24) id [(GEN_D_VALUE 3 0, 77)], by decide +kernel⟩,
   ⟨3, insW 13 1 0 7, insOps 3 (insW 13 1 0 7) (insBegin 3 (seqSt 3 (insW 13 1 0 7) (fun e => { e with xw := true }) [(SEQ_SITE_FAIL_SITE 3, 1), (SEQ_SITE_MATCH_SITE 3, 2)])), seqSt 3 (insW 13 1 0 7) (fun e => { e with xw := true }) [(SEQ_SITE_FAIL_SITE 3, 1), (SEQ_SITE_MATCH_SITE 3, 2)], by decide +kernel⟩,
   ⟨3, insW 14 1 0 4095, insOps 3 (insW 14 1 0 4095) (insBegin 3 (seqSt 3 (insW 14 1 0 4095) id [])), seqSt 3 (insW 14 1 0 4095) id [], by decide +kernel⟩,
   ⟨3, insW 15 1 0xABCDEF 0, insOps 3 (insW 15 1 0xABCDEF 0) (insBegin 3 (seqSt 3 (insW 15 1 0xABCDEF 0) (fun e => { e with nextK := 20000000 }) [])), seqSt 3 (insW 15 1 0xABCDEF 0) (fun e => { e with nextK := 20000000 }) [], by decide +kernel⟩,
   ⟨3, insW 16 1 1000 0, insOps 3 (insW 16 1 1000 0) (insBegin 3 (seqSt 3 (insW 16 1 1000 0) id [])), seqSt 3 (insW 16 1 1000 0) id [], by decide +kernel⟩,
   ⟨3, insW 17 1 0 0, insOps 3 (insW 17 1 0 0) (insBegin 3 (seqSt 3 (insW 17 1 0 0) id [])), seqSt 3 (insW 17 1 0 0) id [], by decide +kernel⟩,
   ⟨3, insW 18 1 0 0, seqSt 3 (insW 18 1 0 0) id [], by decide +kernel⟩⟩

/-- The hypotheses of `Obligations.FailCaptureCommandsComplete`, clause by clause. -/
theorem witness_FailCaptureCommandsComplete :
  (∃ (q : Fin 16) (y : Cyc) (l : List Cyc) (s : State), Sound s ∧ (eng q.val s).issued = y :: l ∧ cycleComplete q.val y s = true) ∧
  (∃ (q : Fin 16) (y : Cyc) (l : List Cyc) (g : Nat) (s : State), Sound s ∧ (eng q.val s).issued = y :: l ∧
    cycleComplete q.val y s = true ∧ g < 64 ∧ domRuns 70 s = true ∧ s.get (FC_SEQ_CTL_MODE q.val) = 3 ∧ y.mrep = none ∧
    spGet q.val s.fail.startN ≤ y.n ∧ bit (failSites q.val y s) g = true) ∧
  (∃ (q : Fin 16) (x : Marker) (l : List Marker) (m : Nat) (s : State), Sound s ∧ (eng q.val s).markers = x :: l ∧ x.fin = none ∧
    resultsBefore q.val x.n s = true ∧ domRuns 70 s = true ∧ domRuns 71 s = true ∧ m < 128 ∧
    (((List.range 128).find? (fun k => mapState k s == mapOpen && s.get (FC_MAP_SEL_SEQ k) == q.val && s.get (FC_MAP_SEL_DOMAIN k) == x.domain)) = some m)) ∧
  (∃ (k q : Nat) (y : List Nat) (l : List (List Nat)) (s : State), Sound s ∧ dutySlot 3 anySlot s = some k ∧
    domRuns 70 s = true ∧ hbmWindow 1 1 s = true ∧ spillTurn s = false ∧ drainNext s = some q ∧ fcFifo q s = y :: l ∧
    (putRecord q y { s with clock := { s.clock with slot := k } }).1 = .done) ∧
  (∃ (m : Nat) (l : List Nat) (s : State), Sound s ∧ (dutySlot 3 anySlot s).isSome = true ∧
    domRuns 70 s = true ∧ hbmWindow 1 1 s = true ∧ s.fail.spillPend = m :: l ∧ spillTurn s = true) ∧
  (∃ (a : Agent) (s : State), Sound s ∧ domRefuses 70 s = none ∧ a.ctl = true) ∧
  (∃ (a : Agent) (m : Fin 128) (s : State), Sound s ∧ domRefuses 71 s = none ∧ a.ctl = true ∧ openBad m.val s = false) ∧
  (∃ (a : Agent) (m : Fin 128) (s : State), Sound s ∧ domRefuses 71 s = none ∧ a.ctl = true ∧ mapState m.val s = mapOpen) ∧
  (∃ (a : Agent) (m : Fin 128) (s : State), Sound s ∧ domRefuses 71 s = none ∧ a.ctl = true ∧
    (mapState m.val s = mapOpen ∨ mapState m.val s = mapClosed)) ∧
  (∃ (m : Fin 128) (u : State) (s : State), Sound s ∧ domRuns 71 s = true ∧ domRuns 70 s = true ∧ mapState m.val s = mapSpilling ∧
    hbmWindow 1 ((mapBytes m.val s).length / 64) s = true ∧
    hbmSave 45 (s.get (FC_MAP_SPILL_ADDR m.val)) ((mapBytes m.val s).length / 64) (mapBytes m.val s) s = (.done, u)) ∧
  (∃ (m : Fin 128) (s : State), Sound s ∧ domRuns 71 s = true ∧ mapState m.val s = mapClearing) ∧
  (∃ (slice : Fin 64) (word m : Nat) (s : State), Sound s ∧ sliceOwner slice.val s = some m ∧ domRuns 71 s = true ∧
    s.get FC_ECC_CTL_SCRUB_RATE ≠ 0 ∧ word < sliceWords) ∧
  (∃ (slice : Fin 64) (word m : Nat) (s : State), Sound s ∧ sliceOwner slice.val s = some m ∧ domRuns 71 s = true ∧
    s.get FC_ECC_CTL_SCRUB_RATE ≠ 0 ∧ word < sliceWords) :=
  ⟨⟨4, holdCycle 4 State.reset, [], modEng 4 (fun e => { e with issued := [holdCycle 4 State.reset] }) (st []), by decide +kernel⟩,
   ⟨4, { holdCycle 4 State.reset with res := [⟨7, true, 0, true, 0⟩] }, [], 9, modEng 4 (fun e => { e with issued := [{ holdCycle 4 State.reset with res := [⟨7, true, 0, true, 0⟩] }] }) (st [(PWR_DOM_STAT_STATE 70, 2), (SEQ_PIN_VALID 4 2, 1), (SEQ_PIN_CHANNEL 4 2, 7), (SEQ_PIN_SITE 4 2, 9)]), by decide +kernel⟩,
   ⟨4, ⟨0, 0, 7, 5, none⟩, [], 100, modEng 4 (fun e => { e with markers := [⟨0, 0, 7, 5, none⟩] }) (st [(PWR_DOM_STAT_STATE 70, 2), (PWR_DOM_STAT_STATE 71, 2), (FC_MAP_CTL_STATE 100, 1), (FC_MAP_SEL_SEQ 100, 4), (FC_MAP_SEL_DOMAIN 100, 5)]), by decide +kernel⟩,
   ⟨8, 4, [1, 2, 3, 4], [], { ((imgState.set (PWR_DOM_STAT_STATE 70) 2).set (FC_LOG_CFG_LOG2 4) 7).set (FC_LOG_CFG_BASE 4) 0x200000000 with fail := { State.reset.fail with fifo := [(4, [[1, 2, 3, 4]])] } }, by decide +kernel⟩,
   ⟨7, [], { st [(PWR_DOM_STAT_STATE 70, 2), (FC_MAP_CTL_STATE 7, 2)] with fail := { State.reset.fail with spillPend := [7], units := 16 } }, by decide +kernel⟩,
   ⟨⟨49, .installer⟩, st [(PWR_DOM_STAT_STATE 70, 2), (FC_SEQ_STAT_DRAIN_ERR 15, 1)], by decide +kernel⟩,
   ⟨⟨0, .none⟩, 127, st [(PWR_DOM_STAT_STATE 71, 2), (FC_MAP_STAT_HITS 127, 4)], by decide +kernel⟩,
   ⟨⟨0, .none⟩, 127, st [(PWR_DOM_STAT_STATE 71, 2), (FC_MAP_CTL_STATE 127, 1), (FC_MAP_CTL_SPILL 127, 1)], by decide +kernel⟩,
   ⟨⟨0, .none⟩, 127, st [(PWR_DOM_STAT_STATE 71, 2), (FC_MAP_CTL_STATE 127, 2)], by decide +kernel⟩,
   ⟨127, (hbmSave 45 0x200000000 1 (mapBytes 127 ((((imgState.set (PWR_DOM_STAT_STATE 70) 2).set (PWR_DOM_STAT_STATE 71) 2).set (FC_MAP_CTL_STATE 127) 3).set (FC_MAP_SPILL_ADDR 127) 0x200000000)) ((((imgState.set (PWR_DOM_STAT_STATE 70) 2).set (PWR_DOM_STAT_STATE 71) 2).set (FC_MAP_CTL_STATE 127) 3).set (FC_MAP_SPILL_ADDR 127) 0x200000000)).2, (((imgState.set (PWR_DOM_STAT_STATE 70) 2).set (PWR_DOM_STAT_STATE 71) 2).set (FC_MAP_CTL_STATE 127) 3).set (FC_MAP_SPILL_ADDR 127) 0x200000000, by decide +kernel⟩,
   ⟨127, { st [(PWR_DOM_STAT_STATE 71, 2), (FC_MAP_CTL_STATE 127, 5), (FC_MAP_SEL_SLICE 127, 3)] with fail := { State.reset.fail with map := [(24576 * 3, 7), (24576 * 4, 1)] } }, by decide +kernel⟩,
   ⟨3, 24575, 9, st [(PWR_DOM_STAT_STATE 71, 2), (FC_MAP_CTL_STATE 9, 1), (FC_MAP_SEL_SLICE 9, 3)], by decide +kernel⟩,
   ⟨3, 24575, 9, st [(PWR_DOM_STAT_STATE 71, 2), (FC_MAP_CTL_STATE 9, 1), (FC_MAP_SEL_SLICE 9, 3)], by decide +kernel⟩⟩

/-- The hypotheses of `Obligations.RepairCommandsComplete`, clause by clause. -/
theorem witness_RepairCommandsComplete :
  (∃ (a : Agent) (d : Fin 4096) (s : State), Sound s ∧ domRefuses 72 s = none ∧ a.ctl = true ∧ raState d.val s = raEmpty ∧
    armOk d.val s = true ∧ (∀ m < 128, mapState m s = mapClosed → s.get (FC_MAP_SEL_DOMAIN m) ≠ d.val)) ∧
  (∃ (a : Agent) (d : Fin 4096) (m : Nat) (s : State), Sound s ∧ domRefuses 72 s = none ∧ a.ctl = true ∧
    raState d.val s = raEmpty ∧ armOk d.val s = true ∧ m < 128 ∧ mapState m s = mapClosed ∧ s.get (FC_MAP_SEL_DOMAIN m) = d.val) ∧
  (∃ (a : Agent) (d : Fin 4096) (s : State), Sound s ∧ domRefuses 72 s = none ∧ a.ctl = true ∧ raState d.val s = raArmed) ∧
  (∃ (a : Agent) (d : Fin 4096) (x : RaUnit) (s : State), Sound s ∧ domRefuses 72 s = none ∧ a.ctl = true ∧
    raState d.val s = raAnalysing ∧ (s.ra.units.find? (fun x => x.domain == d.val) = some x)) ∧
  (∃ (m u : Nat) (s : State), Sound s ∧ nextMap s = some m ∧ acceptBlocked m s = none ∧ domRuns 71 s = true ∧
    raState (s.get (FC_MAP_SEL_DOMAIN m)) s ≠ raEmpty ∧ badGeometry m (s.get (FC_MAP_SEL_DOMAIN m)) s = false ∧
    freeUnit s = some u) ∧
  (∃ (u : Fin 16) (x : RaUnit) (s : State), Sound s ∧ (s.ra.units.find? (fun x => x.u == u.val) = some x) ∧ x.read = false ∧
    domRuns 71 s = true ∧ domRuns 73 s = true) ∧
  (∃ (u : Fin 16) (x : RaUnit) (s : State), Sound s ∧ (s.ra.units.find? (fun x => x.u == u.val) = some x) ∧ x.read = true ∧
    domRuns 73 s = true ∧ s.ra.queue.length < 64) ∧
  (∃ (r : RaRec) (l : List RaRec) (u : State) (s : State), Sound s ∧ s.ra.queue = r :: l ∧ domRuns 72 s = true ∧
    s.on RA_STAT_RING_ERR = false ∧ raRoom r s = true ∧ hbmWindow 1 (recBlocks r) s = true ∧
    putBlocks (s.get RA_RING_PTR_WR) (recBlocks r) r.words s = (.done, u)) ∧
  (∃ (a : Agent) (s : State), Sound s ∧ domRefuses 72 s = none ∧ a.ctl = true) :=
  ⟨⟨⟨3, .none⟩, 4095, st [(PWR_DOM_STAT_STATE 72, 2)], by decide +kernel⟩,
   ⟨⟨3, .none⟩, 4095, 9, st [(PWR_DOM_STAT_STATE 72, 2), (FC_MAP_CTL_STATE 9, 2), (FC_MAP_SEL_DOMAIN 9, 4095)], by decide +kernel⟩,
   ⟨⟨3, .none⟩, 4095, st [(PWR_DOM_STAT_STATE 72, 2), (RA_DOM_STATE 4095, 1)], by decide +kernel⟩,
   ⟨⟨3, .none⟩, 4095, raTake 3 9 (st [(FC_MAP_SEL_DOMAIN 9, 4095)]), { st [(PWR_DOM_STAT_STATE 72, 2), (PWR_DOM_STAT_STATE 71, 2), (RA_DOM_STATE 4095, 3)] with ra := { State.reset.ra with units := [raTake 3 9 (st [(FC_MAP_SEL_DOMAIN 9, 4095)])] } }, by decide +kernel⟩,
   ⟨9, 0, { st [(PWR_DOM_STAT_STATE 71, 2), (PWR_DOM_STAT_STATE 72, 2), (PWR_DOM_STAT_STATE 73, 2), (RA_RING_CFG_LOG2, 7), (RA_DOM_STATE 4095, 2), (FC_MAP_SEL_DOMAIN 9, 4095), (FC_MAP_CTL_STATE 9, 2)] with fail := { State.reset.fail with ready := [9] }, ra := { State.reset.ra with queuedBy := [(4095, 10)] } }, by decide +kernel⟩,
   ⟨3, raTake 3 9 State.reset, { st [(PWR_DOM_STAT_STATE 71, 2), (PWR_DOM_STAT_STATE 73, 2), (FC_MAP_XY_XLOG2 9, 4)] with ra := { State.reset.ra with units := [raTake 3 9 State.reset] }, fail := { State.reset.fail with map := [(0, 5)] } }, by decide +kernel⟩,
   ⟨3, { raTake 3 9 State.reset with read := true, count := 1, fails := [0] }, { st [(PWR_DOM_STAT_STATE 73, 2), (RA_DESC_SP_NR 0, 1), (RA_DOM_STATE 0, 3)] with ra := { State.reset.ra with units := [{ raTake 3 9 State.reset with read := true, count := 1, fails := [0] }] } }, by decide +kernel⟩,
   ⟨⟨7, 1, true, false, 5, [0, 0, 0, 0, 0, 0, 0, 0]⟩, [], (putBlocks 0 1 [0, 0, 0, 0, 0, 0, 0, 0] ({ ((imgState.set (PWR_DOM_STAT_STATE 72) 2).set RA_RING_CFG_LOG2 7).set RA_RING_CFG_BASE 0x200000000 with ra := { State.reset.ra with queue := [⟨7, 1, true, false, 5, [0, 0, 0, 0, 0, 0, 0, 0]⟩] } })).2, { ((imgState.set (PWR_DOM_STAT_STATE 72) 2).set RA_RING_CFG_LOG2 7).set RA_RING_CFG_BASE 0x200000000 with ra := { State.reset.ra with queue := [⟨7, 1, true, false, 5, [0, 0, 0, 0, 0, 0, 0, 0]⟩] } }, by decide +kernel⟩,
   ⟨⟨49, .maker⟩, st [(PWR_DOM_STAT_STATE 72, 2), (RA_STAT_RING_ERR, 1)], by decide +kernel⟩⟩

/-- The hypotheses of `Obligations.SignalCoreCommandsComplete`, clause by clause. -/
theorem witness_SignalCoreCommandsComplete :
  (∃ (a : Agent) (c : Fin 32) (phys : Nat) (s : State), Sound s ∧ a.core01 = true ∧ phys ≤ 33 ∧
    (∀ i < 32, i ≠ c.val → s.get (SC_MAP_PHYS i) ≠ phys) ∧ s.get (SC_MAP_PHYS c.val) ≠ phys ∧ scIdle c.val s = true) ∧
  (∃ (a : Agent) (c : Fin 32) (value : Nat) (s : State), Sound s ∧ domRefuses (scDom c.val s) s = none ∧ a.ctl = true ∧
    (SC_CTL_STOP c.val).hit (Nat.lor value (2 ^ 31)) = false ∧ scIdle c.val s = true) ∧
  (∃ (a : Agent) (c : Fin 32) (s : State), Sound s ∧ domRefuses (scDom c.val s) s = none ∧ a.ctl = true ∧ scIdle c.val s = false) ∧
  (∃ (c : Fin 32) (mem : ScMem) (word : Nat) (s : State), Sound s ∧ domRefuses (scDom c.val s) s = none ∧
    word < scMemWords (scMemCode mem) ∧ scBad c.val (scMemCode mem) word s = false ∧ mem ≠ .prog) ∧
  (∃ (a : Agent) (c : Fin 32) (mem : ScMem) (word : Nat) (s : State), Sound s ∧ domRefuses (scDom c.val s) s = none ∧
    a.ctl = true ∧ word < scMemWords (scMemCode mem) ∧ (mem = .prog → scIdle c.val s = true)) ∧
  (∃ (c : Fin 32) (k : Fin 16) (sample : Nat) (clamped isOver : Bool) (s : State), Sound s ∧
    ((s.jets.link.find? (fun p => p.1 == 16 * c.val + k.val)).map (·.2) = some ⟨sample, clamped, isOver⟩) ∧
    domRuns (scDom c.val s) s = true ∧ (scFifo c.val k.val s).length < 64) ∧
  (∃ (c : Fin 32) (k : Fin 16) (sample : Nat) (clamped isOver : Bool) (s : State), Sound s ∧
    ((s.jets.link.find? (fun p => p.1 == 16 * c.val + k.val)).map (·.2) = some ⟨sample, clamped, isOver⟩) ∧
    domRuns (scDom c.val s) s = true ∧ (scFifo c.val k.val s).length < 64 ∧
    (scFifo c.val k.val s).length + 1 = s.get (SC_CFG_THR c.val)) ∧
  (∃ (a : Agent) (c : Fin 32) (s : State), Sound s ∧ domRefuses (scDom c.val s) s = none ∧ a.ctl = true) ∧
  (∃ (c : Fin 32) (s : State), Sound s ∧ scTakes c.val s = true ∧ s.get (SC_CFG_IVEC c.val) < 2 ^ 14) ∧
  (∃ (c : Fin 32) (s : State), Sound s ∧ domRuns (scDom c.val s) s = true ∧ scLineReady c.val s = true ∧ hbmWindow 2 1 s = true ∧
    (nocReach (scInit c.val s) (s.get (SC_RING_CFG_BASE c.val) + 4 * (s.get (SC_RING_PTR_WR c.val) % scRingSize c.val s)) 1 3 s).1 = none ∧
    (scPutLine c.val (nocReach (scInit c.val s) (s.get (SC_RING_CFG_BASE c.val) + 4 * (s.get (SC_RING_PTR_WR c.val) % scRingSize c.val s)) 1 3 s).2).1 = .done) ∧
  (∃ (c : Fin 32) (mem : ScMem) (word : Nat) (s : State), Sound s ∧ domRuns (scDom c.val s) s = true ∧
    s.get (SC_ECC_CTL_SCRUB_RATE c.val) ≠ 0 ∧ word < scMemWords (scMemCode mem)) :=
  ⟨⟨⟨1, .none⟩, 31, 33, st [], by decide +kernel⟩,
   ⟨⟨1, .none⟩, 31, 0x3FFF, st [(PWR_DOM_STAT_STATE 81, 2), (SC_STAT_STATE 31, 3), (SC_STAT_CAUSE 31, 1)], by decide +kernel⟩,
   ⟨⟨1, .none⟩, 31, st [(PWR_DOM_STAT_STATE 81, 2), (SC_STAT_STATE 31, 2)], by decide +kernel⟩,
   ⟨0, .y, 32767, setScMemory ⟨2, none, [(32767, 0xFFFFFE)], []⟩ (st [(PWR_DOM_STAT_STATE 74, 2)]), by decide +kernel⟩,
   ⟨⟨0, .none⟩, 0, .prog, 16383, setScMemory ⟨0, some 3, [], [16383]⟩ (st [(PWR_DOM_STAT_STATE 74, 2)]), by decide +kernel⟩,
   ⟨3, 15, 300, true, false, { st [(PWR_DOM_STAT_STATE 74, 2), (SC_CFG_THR 3, 1)] with jets := { State.reset.jets with link := [(63, ⟨300, true, false⟩)] } }, by decide +kernel⟩,
   ⟨3, 15, 300, true, false, { st [(PWR_DOM_STAT_STATE 74, 2), (SC_CFG_THR 3, 1)] with jets := { State.reset.jets with link := [(63, ⟨300, true, false⟩)] } }, by decide +kernel⟩,
   ⟨⟨50, .none⟩, 31, st [(PWR_DOM_STAT_STATE 81, 2)], by decide +kernel⟩,
   ⟨3, st [(PWR_DOM_STAT_STATE 74, 2), (SC_STAT_STATE 3, 1), (SC_IRQ_PEND 3, 4), (SC_IRQ_EN 3, 4), (SC_STAT_PC 3, 77)], by decide +kernel⟩,
   ⟨3, modSc 3 (fun x => { x with ring := [5, 6], lineDue := true }) (((imgState.set (PWR_DOM_STAT_STATE 74) 2).set (SC_RING_CFG_LOG2 3) 7).set (SC_RING_CFG_BASE 3) 0x200000000), by
    refine ⟨?_, ?_, ?_, ?_, ?_, ?_⟩ <;> first | (rw [nocReach_clear _ _ _ _ _ (by decide +kernel)] <;> first | rfl | decide +kernel) | decide +kernel⟩,
   ⟨3, .x, 5, st [(PWR_DOM_STAT_STATE 74, 2)], by decide +kernel⟩⟩

/-- The hypotheses of `Obligations.SignalArithmeticCompletes`, clause by clause. -/
theorem witness_SignalArithmeticCompletes :
  (∃ (c : Fin 32) (w : Nat) (s : State), Sound s ∧ AtScInstruction c.val 0 w s) ∧
  (∃ (c : Fin 32) (w : Nat) (s : State), Sound s ∧ AtScInstruction c.val 1 w s ∧ bits w 22 4 ≤ 12) ∧
  (∃ (c : Fin 32) (w : Nat) (s : State), Sound s ∧ AtScInstruction c.val 2 w s) ∧
  (∃ (c : Fin 32) (w : Nat) (s : State), Sound s ∧ AtScInstruction c.val 3 w s) ∧
  (∃ (c : Fin 32) (w xv yv : Nat) (s : State), Sound s ∧ AtScInstruction c.val 4 w s ∧
    ((if bits w 9 2 = 0 then some 0 else scLoad c.val 1 (spGet (bits w 11 3) (scActive c.val s).p) s) = some xv) ∧
    ((if bits w 4 2 = 0 then some 0 else scLoad c.val 2 (spGet (bits w 6 3) (scActive c.val s).p) s) = some yv)) ∧
  (∃ (c : Fin 32) (w : Nat) (s : State), Sound s ∧ AtScInstruction c.val 5 w s ∧ bits w 21 3 < 7 ∧
    ((1 ≤ bits w 21 3 ∧ bits w 21 3 ≤ 3) → bits w 11 6 ≤ 32) ∧ (bits w 21 3 = 4 → bits w 11 6 ≤ 55)) ∧
  (∃ (c : Fin 32) (w : Nat) (s : State), Sound s ∧ AtScInstruction c.val 6 w s ∧ bits w 14 6 ≤ 32) ∧
  (∃ (c : Fin 32) (w : Nat) (s : State), Sound s ∧ AtScInstruction c.val 9 w s ∧ (bits w 24 2 ≤ 1 → bits w 0 16 ≤ 32767) ∧
    (bits w 24 2 = 2 → bits w 0 16 ≤ 32768)) ∧
  (∃ (c : Fin 32) (w : Nat) (s : State), Sound s ∧ AtScInstruction c.val 10 w s ∧ mvrIndexOk (bits w 23 3) (bits w 19 4) = true ∧
    mvrIndexOk (bits w 16 3) (bits w 12 4) = true ∧
    (bits w 23 3 = 4 → wrap 24 (mvrRead (bits w 16 3) (bits w 12 4) (scActive c.val s)) % 2 ^ 16 ≤ 32768)) :=
  ⟨⟨3, 0, scSt 3 0 id [], by decide +kernel⟩,
   ⟨3, 2 ^ 26 + 3 * 2 ^ 18 + 2 ^ 14 + 2 * 2 ^ 10 + 2 ^ 9, scSt 3 (2 ^ 26 + 3 * 2 ^ 18 + 2 ^ 14 + 2 * 2 ^ 10 + 2 ^ 9) (fun x => { x with d := [(1, 0x7FFFFF), (2, 1)] }) [], by decide +kernel⟩,
   ⟨3, 2 * 2 ^ 26 + 5 * 2 ^ 22 + 0xFFFFF, scSt 3 (2 * 2 ^ 26 + 5 * 2 ^ 22 + 0xFFFFF) id [], by decide +kernel⟩,
   ⟨3, 3 * 2 ^ 26 + 5 * 2 ^ 22 + 0x800, scSt 3 (3 * 2 ^ 26 + 5 * 2 ^ 22 + 0x800) (fun x => { x with d := [(5, 0x123456)] }) [], by decide +kernel⟩,
   ⟨3, 4 * 2 ^ 26 + 2 ^ 24 + 2 ^ 22 + 2 * 2 ^ 18 + 3 * 2 ^ 14 + 2 ^ 9 + 2 ^ 6 + 2 ^ 4, 0, 0, setScMemory ⟨10, none, [], []⟩ (setScMemory ⟨11, none, [], []⟩ (scSt 3 (4 * 2 ^ 26 + 2 ^ 24 + 2 ^ 22 + 2 * 2 ^ 18 + 3 * 2 ^ 14 + 2 ^ 9 + 2 ^ 6 + 2 ^ 4) (fun x => { x with d := [(2, 0xFFFFFF), (3, 7)] }) [])), by decide +kernel⟩,
   ⟨3, 5 * 2 ^ 26 + 2 ^ 24 + 4 * 2 ^ 21 + 55 * 2 ^ 11, scSt 3 (5 * 2 ^ 26 + 2 ^ 24 + 4 * 2 ^ 21 + 55 * 2 ^ 11) (fun x => { x with a := [(1, 2 ^ 56 - 1)] }) [], by decide +kernel⟩,
   ⟨3, 6 * 2 ^ 26 + 7 * 2 ^ 22 + 2 ^ 20 + 32 * 2 ^ 14 + 2 ^ 13 + 2 ^ 12, scSt 3 (6 * 2 ^ 26 + 7 * 2 ^ 22 + 2 ^ 20 + 32 * 2 ^ 14 + 2 ^ 13 + 2 ^ 12) (fun x => { x with a := [(1, 2 ^ 31)] }) [], by decide +kernel⟩,
   ⟨3, 9 * 2 ^ 26 + 2 * 2 ^ 24 + 32768, scSt 3 (9 * 2 ^ 26 + 2 * 2 ^ 24 + 32768) id [], by decide +kernel⟩,
   ⟨3, 10 * 2 ^ 26 + 5 * 2 ^ 23 + 3 * 2 ^ 19 + 2 ^ 12, scSt 3 (10 * 2 ^ 26 + 5 * 2 ^ 23 + 3 * 2 ^ 19 + 2 ^ 12) (fun x => { x with d := [(1, 0xABCDEF)] }) [], by decide +kernel⟩⟩

/-- The hypotheses of `Obligations.SignalControlCompletes`, clause by clause. -/
theorem witness_SignalControlCompletes :
  (∃ (c : Fin 32) (w : Nat) (s : State), Sound s ∧ AtScInstruction c.val 7 w s ∧ bit w 20 = true) ∧
  (∃ (c : Fin 32) (w v : Nat) (s : State), Sound s ∧ AtScInstruction c.val 7 w s ∧ bit w 20 = false ∧
    scLoad c.val (1 + bits w 21 1) (spGet (bits w 17 3) (scActive c.val s).p) s = some v) ∧
  (∃ (c : Fin 32) (w : Nat) (s : State), Sound s ∧ AtScInstruction c.val 8 w s ∧ bit w 20 = true) ∧
  (∃ (c : Fin 32) (w v : Nat) (s : State), Sound s ∧ AtScInstruction c.val 8 w s ∧ bit w 20 = false ∧
    scLoad c.val (1 + bits w 21 1) (bits w 0 15) s = some v) ∧
  (∃ (c : Fin 32) (w : Nat) (s : State), Sound s ∧ AtScInstruction c.val 11 w s ∧ bits w 22 4 ≤ 4) ∧
  (∃ (c : Fin 32) (w : Nat) (s : State), Sound s ∧ AtScInstruction c.val 12 w s) ∧
  (∃ (c : Fin 32) (w : Nat) (s : State), Sound s ∧ AtScInstruction c.val 13 w s) ∧
  (∃ (c : Fin 32) (w : Nat) (s : State), Sound s ∧ AtScInstruction c.val 14 w s) ∧
  (∃ (c : Fin 32) (w : Nat) (s : State), Sound s ∧ AtScInstruction c.val 15 w s ∧ (scActive c.val s).loops.length < 4 ∧
    ((if bit w 25 then spGet (bits w 21 4) (scActive c.val s).d % 65536 else bits w 15 10) ≠ 0)) ∧
  (∃ (c : Fin 32) (w : Nat) (s : State), Sound s ∧ AtScInstruction c.val 15 w s ∧ (scActive c.val s).loops.length < 4 ∧
    ((if bit w 25 then spGet (bits w 21 4) (scActive c.val s).d % 65536 else bits w 15 10) = 0)) ∧
  (∃ (c : Fin 32) (w p : Nat) (x : ScSample) (l : List ScSample) (s : State), Sound s ∧ AtScInstruction c.val 16 w s ∧
    scPort w (scActive c.val s) = some p ∧ p < 16 ∧ scFifo c.val p s = x :: l) ∧
  (∃ (c : Fin 32) (w p : Nat) (s : State), Sound s ∧ AtScInstruction c.val 16 w s ∧ scPort w (scActive c.val s) = some p ∧
    p < 16 ∧ scFifo c.val p s = [] ∧ bit w 21 = false) ∧
  (∃ (c : Fin 32) (w p : Nat) (s : State), Sound s ∧ AtScInstruction c.val 16 w s ∧ scPort w (scActive c.val s) = some p ∧
    16 ≤ p ∧ p ≤ 36) ∧
  (∃ (c : Fin 32) (w p : Nat) (s : State), Sound s ∧ AtScInstruction c.val 17 w s ∧ scPort w (scActive c.val s) = some p ∧
    (p < 16 ∨ p = 32 ∨ p = 33 ∨ p = 34 ∨ p = 36 ∨ (p = 35 ∧ scRingSize c.val s ≠ 0 ∧ scRingFull c.val s = false))) ∧
  (∃ (c : Fin 32) (w p : Nat) (s : State), Sound s ∧ AtScInstruction c.val 17 w s ∧ scPort w (scActive c.val s) = some p ∧ p < 16) ∧
  (∃ (c : Fin 32) (w : Nat) (s : State), Sound s ∧ AtScInstruction c.val 18 w s) ∧
  (∃ (c : Fin 32) (w : Nat) (s : State), Sound s ∧ AtScInstruction c.val 19 w s) :=
  ⟨⟨3, 7 * 2 ^ 26 + 5 * 2 ^ 22 + 2 ^ 20 + 2 * 2 ^ 17 + 2 ^ 15, scSt 3 (7 * 2 ^ 26 + 5 * 2 ^ 22 + 2 ^ 20 + 2 * 2 ^ 17 + 2 ^ 15) (fun x => { x with d := [(5, 9)], p := [(2, 32767)] }) [], by decide +kernel⟩,
   ⟨3, 7 * 2 ^ 26 + 5 * 2 ^ 22 + 2 ^ 21 + 2 * 2 ^ 17 + 2 ^ 15, 44, setScMemory ⟨11, none, [(32767, 44)], []⟩ (scSt 3 (7 * 2 ^ 26 + 5 * 2 ^ 22 + 2 ^ 21 + 2 * 2 ^ 17 + 2 ^ 15) (fun x => { x with p := [(2, 32767)] }) []), by decide +kernel⟩,
   ⟨3, 8 * 2 ^ 26 + 5 * 2 ^ 22 + 2 ^ 20 + 32767, scSt 3 (8 * 2 ^ 26 + 5 * 2 ^ 22 + 2 ^ 20 + 32767) (fun x => { x with d := [(5, 9)] }) [], by decide +kernel⟩,
   ⟨3, 8 * 2 ^ 26 + 5 * 2 ^ 22 + 32767, 44, setScMemory ⟨10, none, [(32767, 44)], []⟩ (scSt 3 (8 * 2 ^ 26 + 5 * 2 ^ 22 + 32767) id []), by decide +kernel⟩,
   ⟨3, 11 * 2 ^ 26 + 2 ^ 22 + 0x3FFF, scSt 3 (11 * 2 ^ 26 + 2 ^ 22 + 0x3FFF) (fun x => { x with z := true }) [], by decide +kernel⟩,
   ⟨3, 12 * 2 ^ 26 + 77, scSt 3 (12 * 2 ^ 26 + 77) id [], by decide +kernel⟩,
   ⟨3, 13 * 2 ^ 26, scSt 3 (13 * 2 ^ 26) (fun x => { x with lr := 9 }) [], by decide +kernel⟩,
   ⟨3, 14 * 2 ^ 26, scSt 3 (14 * 2 ^ 26) id [(SC_STAT_SHADOW 3, 1)], by decide +kernel⟩,
   ⟨3, 15 * 2 ^ 26 + 5 * 2 ^ 15 + 9, scSt 3 (15 * 2 ^ 26 + 5 * 2 ^ 15 + 9) id [], by decide +kernel⟩,
   ⟨3, 15 * 2 ^ 26 + 9, scSt 3 (15 * 2 ^ 26 + 9) id [], by decide +kernel⟩,
   ⟨3, 16 * 2 ^ 26 + 5 * 2 ^ 22 + 15, 15, ⟨7, true, false⟩, [], modSc 3 (fun x => { x with fifos := [(15, [⟨7, true, false⟩])] }) (scSt 3 (16 * 2 ^ 26 + 5 * 2 ^ 22 + 15) id []), by decide +kernel⟩,
   ⟨3, 16 * 2 ^ 26 + 15, 15, scSt 3 (16 * 2 ^ 26 + 15) id [], by decide +kernel⟩,
   ⟨3, 16 * 2 ^ 26 + 5 * 2 ^ 22 + 35, 35, scSt 3 (16 * 2 ^ 26 + 5 * 2 ^ 22 + 35) id [(SC_HOST_WORD 3, 99)], by decide +kernel⟩,
   ⟨3, 17 * 2 ^ 26 + 5 * 2 ^ 22 + 15, 15, scSt 3 (17 * 2 ^ 26 + 5 * 2 ^ 22 + 15) (fun x => { x with d := [(5, 77)] }) [], by decide +kernel⟩,
   ⟨3, 17 * 2 ^ 26 + 5 * 2 ^ 22 + 15, 15, scSt 3 (17 * 2 ^ 26 + 5 * 2 ^ 22 + 15) (fun x => { x with d := [(5, 77)] }) [], by decide +kernel⟩,
   ⟨3, 18 * 2 ^ 26, scSt 3 (18 * 2 ^ 26) id [], by decide +kernel⟩,
   ⟨3, 19 * 2 ^ 26, scSt 3 (19 * 2 ^ 26) id [], by decide +kernel⟩⟩

/-- The hypotheses of `Obligations.HbmCommandsComplete`, clause by clause. -/
theorem witness_HbmCommandsComplete :
  (∃ (id : Nat) (r : HbmReq) (s : State), Sound s ∧ (s.hbm.queue.find? (fun x => x.id == id) = some r)) ∧
  (∃ (s : State), Sound s ∧ s.get HBM_STAT_STATE = hbmTraining) ∧
  (∃ (s : State), Sound s ∧ s.get HBM_STAT_STATE = hbmTraining) ∧
  (∃ (s : State), Sound s ∧ s.get HBM_STAT_STATE = hbmSelfRefresh ∧ pairOn s = true) ∧
  (∃ (s : State), Sound s ∧ s.get HBM_STAT_STATE = hbmReady) ∧
  (∃ (bank : Fin 512) (row : Nat) (s : State), Sound s ∧ (bank.val, row) ∈ s.hbm.due ∧
    spGet (32768 * bank.val + row) s.hbm.spares = 0) ∧
  (∃ (bank : Fin 512) (row : Nat) (s : State), Sound s ∧ (bank.val, row) ∈ s.hbm.due ∧
    spGet (32768 * bank.val + row) s.hbm.spares = 0 ∧ 2 ≤ row ∧ row < 32766) ∧
  (∃ (celsius : Nat) (s : State), Sound s ∧ ((celsius ≥ 85 ∧ s.get HBM_STAT_HOT = 0) ∨ (celsius < 80 ∧ s.get HBM_STAT_HOT = 1))) ∧
  (∃ (s : State), Sound s ∧ s.get HBM_STAT_STATE = hbmReady ∧ s.get HBM_ECC_CTL_SCRUB_RATE ≠ 0 ∧ hbmAdmits 3 1 s = true ∧
    spGet s.hbm.scrubAt s.hbm.dbl = 0) ∧
  (∃ (s : State), Sound s ∧ s.get HBM_STAT_STATE = hbmReady ∧ s.get HBM_ECC_CTL_SCRUB_RATE ≠ 0 ∧ hbmAdmits 3 1 s = true ∧
    spGet s.hbm.scrubAt s.hbm.dbl ≠ 0 ∧ s.hbm.log.length < 16) ∧
  (∃ (a : Agent) (value : Nat) (k : Nat) (s : State), Sound s ∧ a.ctl = true ∧ domRefuses 65 s = none ∧ HBM_PASS_GO.of value = 1 ∧
    s.get HBM_PASS_GO = 0 ∧ HBM_PASS_COUNT.of value ≠ 0 ∧ HBM_PASS_FIRST.of value + HBM_PASS_COUNT.of value ≤ 4194304 ∧
    freeEntry s = some k ∧ sluRoom clsScrub 10 s = true) ∧
  (∃ (s : State), Sound s ∧ s.get HBM_PASS_GO = 1 ∧ grantedForPurpose forHbmPass s = true ∧ hbmRefuses s = none) ∧
  (∃ (a : Agent) (s : State), Sound s ∧ a.ctl = true ∧ domRefuses 65 s = none) ∧
  (∃ (a : Agent) (s : State), Sound s ∧ a.init.val ≠ 50) :=
  ⟨⟨4, ⟨4, 8, 0, 0, 1, none, 0, false, 0, [none]⟩, { st [] with hbm := { State.reset.hbm with queue := [⟨3, 8, 0, 0, 1, none, 0, false, 0, [none]⟩, ⟨4, 8, 0, 0, 1, none, 0, false, 0, [none]⟩] } }, by decide +kernel⟩,
   ⟨st [(HBM_STAT_STATE, hbmTraining)], by decide +kernel⟩,
   ⟨st [(HBM_STAT_STATE, hbmTraining)], by decide +kernel⟩,
   ⟨st [(HBM_STAT_STATE, hbmSelfRefresh), (PWR_DOM_STAT_STATE 64, 2), (PWR_DOM_STAT_STATE 65, 2)], by decide +kernel⟩,
   ⟨{ st [(HBM_STAT_STATE, hbmReady)] with hbm := { State.reset.hbm with rows := [(511, 6)], due := [(511, 9)] } }, by decide +kernel⟩,
   ⟨511, 32767, { st [(HBM_CFG_RADIUS, 1)] with hbm := { State.reset.hbm with due := [(511, 32767)], dist := [⟨511, 32767, 4096⟩] } }, by decide +kernel⟩,
   ⟨511, 32765, { st [(HBM_CFG_RADIUS, 1)] with hbm := { State.reset.hbm with due := [(511, 32765)], dist := [⟨511, 32765, 4096⟩] } }, by decide +kernel⟩,
   ⟨85, st [], by decide +kernel⟩,
   ⟨{ st [(HBM_STAT_STATE, hbmReady)] with hbm := { State.reset.hbm with scrubAt := 0x370000000 / 64 - 1, sgl := [(0x370000000 / 64 - 1, 3)] } }, by decide +kernel⟩,
   ⟨{ st [(HBM_STAT_STATE, hbmReady)] with hbm := { State.reset.hbm with scrubAt := 17, dbl := [(17, 128)] } }, by decide +kernel⟩,
   ⟨⟨0, .none⟩, 2 ^ 63 + 2 ^ 32 + 4194303, 0, st [(PWR_DOM_STAT_STATE 65, 2)], by decide +kernel⟩,
   ⟨{ st [(HBM_STAT_STATE, hbmReady), (HBM_PASS_GO, 1), (HBM_PASS_COUNT, 2 ^ 22), (SLU_ENT_STATE 5, 2)] with hbm := { State.reset.hbm with passCount := 2 ^ 22 }, power := { State.reset.power with purpose := [(5, 1)] } }, by decide +kernel⟩,
   ⟨⟨0, .none⟩, st [(PWR_DOM_STAT_STATE 65, 2)], by decide +kernel⟩,
   ⟨⟨0, .none⟩, { st [] with hbm := { State.reset.hbm with log := [7, 8] } }, by decide +kernel⟩⟩

/-- The hypotheses of `Obligations.EncryptionCommandsComplete`, clause by clause. -/
theorem witness_EncryptionCommandsComplete :
  (∃ (a : Agent) (r : Fin 8) (k : Nat) (s : State), Sound s ∧ encWriter a = true ∧ s.get (ENC_REG_CTL_STATE r.val) = encOff ∧
    rangeOk r.val s = true ∧ freeKey s = some k) ∧
  (∃ (a : Agent) (r : Fin 8) (s : State), Sound s ∧ encWriter a = true ∧ s.get (ENC_REG_CTL_STATE r.val) = encOff ∧
    rangeOk r.val s = true ∧ freeKey s = none) ∧
  (∃ (a : Agent) (r : Fin 8) (s : State), Sound s ∧ encWriter a = true ∧ encLive r.val s = true) ∧
  (∃ (a : Agent) (r : Fin 8) (s : State), Sound s ∧ encWriter a = true ∧ s.get (ENC_REG_CTL_STATE r.val) = encActive ∧
    r.val ∉ s.enc.erased ∧ spGet (s.get (ENC_REG_CTL_KEYID r.val)) s.enc.ids = 1) ∧
  (∃ (a : Agent) (r : Fin 8) (k : Nat) (s : State), Sound s ∧ encWriter a = true ∧ s.get (ENC_REG_CTL_EN r.val) = 1 ∧
    (s.get (ENC_REG_CTL_STATE r.val) = encActive ∨ s.get (ENC_REG_CTL_STATE r.val) = encRequired) ∧ freeKey s = some k) ∧
  (∃ (a : Agent) (r : Fin 8) (s : State), Sound s ∧ encWriter a = true ∧ s.get (ENC_REG_CTL_EN r.val) = 1 ∧
    (s.get (ENC_REG_CTL_STATE r.val) = encActive ∨ s.get (ENC_REG_CTL_STATE r.val) = encRequired) ∧ freeKey s = none) ∧
  (∃ (r : Fin 8) (s : State), Sound s ∧ s.get (ENC_REG_CTL_STATE r.val) = encRekeying ∧ domRuns 94 s = true ∧
    hbmRefuses s = none ∧ hbmAdmits 3 2 s = true ∧ s.get (ENC_REG_WM_WATERMARK r.val) < encEnd r.val s) ∧
  (∃ (r : Fin 8) (n : EncNode) (s : State), Sound s ∧ s.get (ENC_REG_CTL_STATE r.val) = encRekeying ∧ domRuns 94 s = true ∧
    hbmRefuses s = none ∧ hbmAdmits 3 2 s = true ∧ s.get (ENC_REG_WM_WATERMARK r.val) < encEnd r.val s ∧
    cached r.val 0 ((s.get (ENC_REG_WM_WATERMARK r.val) - encBase r.val s) / 64 / 8) s = some n ∧
    bit n.poison ((s.get (ENC_REG_WM_WATERMARK r.val) - encBase r.val s) / 64 % 8) = true ∧ s.enc.cache.length ≤ 1024) ∧
  (∃ (r : Fin 8) (s : State), Sound s ∧ s.get (ENC_REG_CTL_STATE r.val) = encRekeying ∧ (hbmRefuses s).isNone = true ∧
    encEnd r.val s ≤ s.get (ENC_REG_WM_WATERMARK r.val)) ∧
  (∃ (r : Fin 8) (s : State), Sound s ∧ s.get (ENC_REG_CTL_STATE r.val) = encRekeying ∧ (hbmRefuses s).isNone = true ∧
    encEnd r.val s ≤ s.get (ENC_REG_WM_WATERMARK r.val) ∧ s.enc.cache = [] ∧ spGet (spGet r.val s.enc.oldKey) s.enc.ids = 1) ∧
  (∃ (k : Fin 16) (s : State), Sound s ∧ spGet k.val s.enc.ids = 2 ∧ keyInFlight k.val s = false ∧
    (∀ r : Fin 8, s.get (ENC_REG_CTL_PEND r.val) = 0)) ∧
  (∃ (k : Fin 16) (r : Nat) (s : State), Sound s ∧ spGet k.val s.enc.ids = 2 ∧ keyInFlight k.val s = false ∧
    ((List.range 8).find? (fun r => s.on (ENC_REG_CTL_PEND r)) = some r) ∧
    freeKey { s with enc := { s.enc with ids := spSet k.val 0 s.enc.ids } } = some k.val) ∧
  (∃ (a : Agent) (addr : Nat) (s : State), Sound s ∧ 64 * (addr / 64) < hbmSize ∧
    hbmDenies a.init.val (64 * (addr / 64)) 64 false = false ∧ pairRefusesAt (64 * (addr / 64)) 1 s = none ∧
    encRegion (64 * (addr / 64)) s = none ∧ spGet (addr / 64) s.hbm.dbl = 0) ∧
  (∃ (a : Agent) (addr : Nat) (s : State), Sound s ∧ 64 * (addr / 64) < hbmSize ∧
    hbmDenies a.init.val (64 * (addr / 64)) 64 false = false ∧ pairRefusesAt (64 * (addr / 64)) 1 s = none ∧
    encRegion (64 * (addr / 64)) s = none ∧ spGet (addr / 64) s.hbm.dbl ≠ 0) ∧
  (∃ (a : Agent) (addr : Nat) (r : Nat) (n : EncNode) (s : State), Sound s ∧ 64 * (addr / 64) < hbmSize ∧
    hbmDenies a.init.val (64 * (addr / 64)) 64 false = false ∧ pairRefusesAt (64 * (addr / 64)) 1 s = none ∧
    encRegion (64 * (addr / 64)) s = some r ∧ cached r 0 ((64 * (addr / 64) - encBase r s) / 64 / 8) s = some n ∧
    bit n.poison ((64 * (addr / 64) - encBase r s) / 64 % 8) = true) ∧
  (∃ (a : Agent) (addr : Nat) (r : Nat) (n : EncNode) (s : State), Sound s ∧ 64 * (addr / 64) < hbmSize ∧
    hbmDenies a.init.val (64 * (addr / 64)) 64 false = false ∧ pairRefusesAt (64 * (addr / 64)) 1 s = none ∧
    encRegion (64 * (addr / 64)) s = some r ∧ cached r 0 ((64 * (addr / 64) - encBase r s) / 64 / 8) s = some n ∧
    bit n.poison ((64 * (addr / 64) - encBase r s) / 64 % 8) = false ∧
    (n.ctr[(64 * (addr / 64) - encBase r s) / 64 % 8]?).getD 0 = 0) ∧
  (∃ (a : Agent) (addr : Nat) (be : Nat) (s : State), Sound s ∧ addr < hbmSize ∧
    hbmDenies a.init.val (64 * (addr / 64)) 64 true = false ∧ pairRefusesAt addr 1 s = none ∧
    encRegion (64 * (addr / 64)) s = none ∧ hbmFlipAt (addr / 64) s = false ∧ be % 2 ^ 64 = 2 ^ 64 - 1) ∧
  (∃ (a : Agent) (addr : Nat) (be : Nat) (s : State), Sound s ∧ addr < hbmSize ∧
    hbmDenies a.init.val (64 * (addr / 64)) 64 true = false ∧ pairRefusesAt addr 1 s = none ∧
    encRegion (64 * (addr / 64)) s = none ∧ hbmFlipAt (addr / 64) s = false ∧ be % 2 ^ 64 ≠ 2 ^ 64 - 1 ∧
    spGet (addr / 64) s.hbm.dbl = 0) ∧
  (∃ (a : Agent) (addr : Nat) (be : Nat) (s : State), Sound s ∧ addr < hbmSize ∧
    hbmDenies a.init.val (64 * (addr / 64)) 64 true = false ∧ pairRefusesAt addr 1 s = none ∧
    encRegion (64 * (addr / 64)) s = none ∧ hbmFlipAt (addr / 64) s = false ∧ be % 2 ^ 64 ≠ 2 ^ 64 - 1 ∧
    spGet (addr / 64) s.hbm.dbl ≠ 0) ∧
  (∃ (a : Agent) (addr : Nat) (be : Nat) (r : Nat) (n : EncNode) (s : State), Sound s ∧ addr < hbmSize ∧
    hbmDenies a.init.val (64 * (addr / 64)) 64 true = false ∧ pairRefusesAt addr 1 s = none ∧
    encRegion (64 * (addr / 64)) s = some r ∧ cached r 0 ((64 * (addr / 64) - encBase r s) / 64 / 8) s = some n ∧
    be % 2 ^ 64 = 2 ^ 64 - 1 ∧ n.ctr.length = 8 ∧ (n.ctr[(64 * (addr / 64) - encBase r s) / 64 % 8]?).getD 0 < 0xFFFF0000 - 1 ∧
    s.enc.cache.length ≤ 1024) ∧
  (∃ (a : Agent) (addr : Nat) (be : Nat) (r : Nat) (n : EncNode) (s : State), Sound s ∧ addr < hbmSize ∧
    hbmDenies a.init.val (64 * (addr / 64)) 64 true = false ∧ pairRefusesAt addr 1 s = none ∧
    encRegion (64 * (addr / 64)) s = some r ∧ cached r 0 ((64 * (addr / 64) - encBase r s) / 64 / 8) s = some n ∧
    be % 2 ^ 64 = 2 ^ 64 - 1 ∧ n.ctr.length = 8 ∧ (n.ctr[(64 * (addr / 64) - encBase r s) / 64 % 8]?).getD 0 = 0xFFFFFFFF ∧
    s.enc.cache.length ≤ 1024) ∧
  (∃ (a : Agent) (addr : Nat) (be : Nat) (r : Nat) (n : EncNode) (s : State), Sound s ∧ addr < hbmSize ∧
    hbmDenies a.init.val (64 * (addr / 64)) 64 true = false ∧ pairRefusesAt addr 1 s = none ∧
    encRegion (64 * (addr / 64)) s = some r ∧ cached r 0 ((64 * (addr / 64) - encBase r s) / 64 / 8) s = some n ∧
    be % 2 ^ 64 = 2 ^ 64 - 1 ∧ n.ctr.length = 8 ∧ (n.ctr[(64 * (addr / 64) - encBase r s) / 64 % 8]?).getD 0 = 0xFFFF0000 - 1 ∧
    s.enc.cache.length ≤ 1024 ∧ s.get (ENC_REG_CTL_STATE r) = encActive ∧ (freeKey s).isSome = true) ∧
  (∃ (r : Fin 8) (level : Nat) (j : Nat) (n : EncNode) (s : State), Sound s ∧ cached r.val level j s = some n ∧ n.dirty = true ∧
    domRuns 94 s = true ∧ hbmRefuses s = none ∧ s.get (ENC_REG_CTL_STATE r.val) = encActive ∧
    treeHeight (encLines r.val s) ≤ level + 1) ∧
  (∃ (r : Fin 8) (level : Nat) (j : Nat) (n p : EncNode) (s : State), Sound s ∧ cached r.val level j s = some n ∧ n.dirty = true ∧
    domRuns 94 s = true ∧ hbmRefuses s = none ∧ s.get (ENC_REG_CTL_STATE r.val) = encActive ∧
    level + 1 < treeHeight (encLines r.val s) ∧ cached r.val (level + 1) (j / 8) s = some p ∧ p.ctr.length = 8) ∧
  (∃ (a : Agent) (r : Fin 8) (k : Nat) (s : State), Sound s ∧ encWriter a = true ∧ s.get ENC_PASS_GO = 0 ∧
    encLive r.val s = true ∧ freeEntry s = some k ∧ sluRoom clsScrub 10 s = true) ∧
  (∃ (s : State), Sound s ∧ s.get ENC_PASS_GO = 1 ∧ grantedForPurpose forEncPass s = true ∧ domRuns 94 s = true ∧
    hbmRefuses s = none) ∧
  (∃ (addrField : Nat) (s : State), Sound s ∧ addrField % 64 = 0 ∧ addrField + 256 ≤ hbmSize ∧
    hbmDenies 49 addrField 256 false = false ∧ (nocReach 49 addrField 1 1 s).1 = none ∧ pairRefusesAt addrField 4 s = none ∧
    (∀ k : Fin 4, encRegion (addrField + 64 * k.val) s = none ∧ spGet (addrField / 64 + k.val) s.hbm.dbl = 0)) ∧
  (∃ (addrField : Nat) (b : List Byte) (s : State), Sound s ∧ addrField % 64 = 0 ∧ addrField + 256 ≤ hbmSize ∧ b.length = 256 ∧
    hbmDenies 49 addrField 256 true = false ∧ (nocReach 49 addrField 1 9 s).1 = none ∧ pairRefusesAt addrField 4 s = none ∧
    (∀ k : Fin 4, encRegion (addrField + 64 * k.val) s = none ∧ hbmFlipAt (addrField / 64 + k.val) s = false)) ∧
  (∃ (addrField : Nat) (s : State), Sound s ∧ (addrField % 64 ≠ 0 ∨ hbmSize < addrField + 256)) :=
  ⟨⟨⟨0, .none⟩, 7, 15, { st [] with enc := { State.reset.enc with ids := (List.range 15).map (fun k => (k, 1)) } }, by decide +kernel⟩,
   ⟨⟨0, .none⟩, 7, { st [] with enc := { State.reset.enc with ids := (List.range 16).map (fun k => (k, 1)) } }, by decide +kernel⟩,
   ⟨⟨0, .none⟩, 7, encSt (fun e => { e with ids := [(0, 1)] }) [], by decide +kernel⟩,
   ⟨⟨0, .none⟩, 7, encSt (fun e => { e with ids := [(0, 1)] }) [], by decide +kernel⟩,
   ⟨⟨0, .none⟩, 7, 1, encSt (fun e => { e with ids := [(0, 1)] }) [], by decide +kernel⟩,
   ⟨⟨0, .none⟩, 7, encSt (fun e => { e with ids := (List.range 16).map (fun k => (k, 1)) }) [], by decide +kernel⟩,
   ⟨7, encSt (fun e => { e with cache := [⟨7, 0, 0, List.replicate 8 3, 1, false, false⟩] }) [(ENC_REG_CTL_STATE 7, encRekeying)], by decide +kernel⟩,
   ⟨7, ⟨7, 0, 0, List.replicate 8 3, 1, false, false⟩, encSt (fun e => { e with cache := [⟨7, 0, 0, List.replicate 8 3, 1, false, false⟩] }) [(ENC_REG_CTL_STATE 7, encRekeying)], by decide +kernel⟩,
   ⟨7, encSt (fun e => { e with ids := [(0, 1), (1, 1)], oldKey := [(7, 1)] }) [(ENC_REG_CTL_STATE 7, encRekeying), (ENC_REG_WM_WATERMARK 7, 65536)], by decide +kernel⟩,
   ⟨7, encSt (fun e => { e with ids := [(0, 1), (1, 1)], oldKey := [(7, 1)] }) [(ENC_REG_CTL_STATE 7, encRekeying), (ENC_REG_WM_WATERMARK 7, 65536)], by decide +kernel⟩,
   ⟨15, { st [] with enc := { State.reset.enc with ids := [(15, 2)], dataKey := [(15, 99)] } }, by decide +kernel⟩,
   ⟨15, 7, encSt (fun e => { e with ids := (List.range 16).map (fun k => (k, if k = 15 then 2 else 1)) }) [(ENC_REG_CTL_PEND 7, 1)], by decide +kernel⟩,
   ⟨⟨48, .none⟩, 4095, { st [(HBM_STAT_STATE, hbmReady)] with hbm := { State.reset.hbm with mem := [(4095, 5)], sgl := [(63, 1)] } }, by decide +kernel⟩,
   ⟨⟨48, .none⟩, 4095, { st [(HBM_STAT_STATE, hbmReady)] with hbm := { State.reset.hbm with mem := [(4095, 5)], dbl := [(63, 1)] } }, by decide +kernel⟩,
   ⟨⟨48, .none⟩, 65535, 7, ⟨7, 0, 127, List.replicate 8 3, 128, false, false⟩, encSt (fun e => { e with cache := [⟨7, 0, 127, List.replicate 8 3, 128, false, false⟩] }) [], by decide +kernel⟩,
   ⟨⟨48, .none⟩, 65535, 7, ⟨7, 0, 127, List.replicate 8 0, 0, false, false⟩, encSt (fun e => { e with cache := [⟨7, 0, 127, List.replicate 8 0, 0, false, false⟩] }) [], by decide +kernel⟩,
   ⟨⟨48, .none⟩, 4095, 2 ^ 64 - 1, { st [(HBM_STAT_STATE, hbmReady)] with hbm := { State.reset.hbm with dbl := [(63, 1)] } }, by decide +kernel⟩,
   ⟨⟨48, .none⟩, 4095, 3, { st [(HBM_STAT_STATE, hbmReady)] with hbm := { State.reset.hbm with sgl := [(63, 1)] } }, by decide +kernel⟩,
   ⟨⟨48, .none⟩, 4095, 3, { st [(HBM_STAT_STATE, hbmReady)] with hbm := { State.reset.hbm with dbl := [(63, 1)] } }, by decide +kernel⟩,
   ⟨⟨48, .none⟩, 65535, 2 ^ 64 - 1, 7, ⟨7, 0, 127, List.replicate 8 3, 128, false, false⟩, encSt (fun e => { e with cache := [⟨7, 0, 127, List.replicate 8 3, 128, false, false⟩] }) [], by decide +kernel⟩,
   ⟨⟨48, .none⟩, 65535, 2 ^ 64 - 1, 7, ⟨7, 0, 127, List.replicate 8 0xFFFFFFFF, 0, false, false⟩, encSt (fun e => { e with cache := [⟨7, 0, 127, List.replicate 8 0xFFFFFFFF, 0, false, false⟩] }) [], by decide +kernel⟩,
   ⟨⟨48, .none⟩, 65535, 2 ^ 64 - 1, 7, ⟨7, 0, 127, List.replicate 8 0xFFFEFFFF, 0, false, false⟩, encSt (fun e => { e with cache := [⟨7, 0, 127, List.replicate 8 0xFFFEFFFF, 0, false, false⟩] }) [], by decide +kernel⟩,
   ⟨7, 2, 1, ⟨7, 2, 1, List.replicate 8 3, 0, true, false⟩, encSt (fun e => { e with cache := [⟨7, 2, 1, List.replicate 8 3, 0, true, false⟩] }) [], by decide +kernel⟩,
   ⟨7, 0, 127, ⟨7, 0, 127, List.replicate 8 3, 0, true, false⟩, ⟨7, 1, 15, List.replicate 8 4, 128, false, false⟩, encSt (fun e => { e with cache := [⟨7, 0, 127, List.replicate 8 3, 0, true, false⟩, ⟨7, 1, 15, List.replicate 8 4, 128, false, false⟩] }) [], by decide +kernel⟩,
   ⟨⟨0, .none⟩, 7, 0, encSt id [], by decide +kernel⟩,
   ⟨{ st [(PWR_DOM_STAT_STATE 94, 2), (HBM_STAT_STATE, hbmReady), (ENC_PASS_GO, 1), (SLU_ENT_STATE 5, 2)] with power := { State.reset.power with purpose := [(5, 2)] } }, by decide +kernel⟩,
   ⟨4096, { st [(HBM_STAT_STATE, hbmReady)] with hbm := { State.reset.hbm with mem := [(4351, 5)] } }, by
    refine ⟨?_, ?_, ?_, ?_, ?_, ?_⟩ <;> first | (rw [nocReach_clear _ _ _ _ _ (by decide +kernel)] <;> first | rfl | decide +kernel) | decide +kernel⟩,
   ⟨4096, List.replicate 256 7, { st [(HBM_STAT_STATE, hbmReady)] with hbm := { State.reset.hbm with mem := [(4351, 5)] } }, by
    refine ⟨?_, ?_, ?_, ?_, ?_, ?_⟩ <;> first | (rw [nocReach_clear _ _ _ _ _ (by decide +kernel)] <;> first | rfl | decide +kernel) | decide +kernel⟩,
   ⟨1, st [], by decide +kernel⟩⟩

/-- The hypotheses of `Obligations.NocCommandsComplete`, clause by clause. -/
theorem witness_NocCommandsComplete :
  (∃ (pkt : Packet) (s : State), Sound s ∧ packetOk pkt = false) ∧
  (∃ (a : Agent) (pkt : Packet) (x : Nat) (r : Status) (s : State), Sound s ∧ packetOk pkt = true ∧ targetOf pkt.addr = some x ∧
    portRefuses a.init.val x pkt.addr s = some r) ∧
  (∃ (a : Agent) (pkt : Packet) (x : Nat) (s : State), Sound s ∧ packetOk pkt = true ∧ targetOf pkt.addr = some x ∧
    portRefuses a.init.val x pkt.addr s = none ∧ responsesHeld a.init.val s < 64 ∧ 4 ≤ x) ∧
  (∃ (a : Agent) (pkt : Packet) (x : Nat) (s : State), Sound s ∧ packetOk pkt = true ∧ targetOf pkt.addr = some x ∧
    portRefuses a.init.val x pkt.addr s = none ∧ responsesHeld a.init.val s < 64 ∧ x < 4 ∧ 2 ≤ pkt.len ∧
    hbmDenies a.init.val pkt.addr (64 * (pkt.len / 2)) (isWrite pkt.op) = false ∧ pairRefusesAt pkt.addr (pkt.len / 2) s = none) ∧
  (∃ (r : HbmReq) (s : State), Sound s ∧ hbmPick s = some r ∧ hbmRefuses s = none ∧ movedAll s + 64 * r.lines ≤ hbmCap s) ∧
  (∃ (s : State), Sound s ∧ hbmPick { s with hbm := { s.hbm with moved := [] } } = none) ∧
  (∃ (init : Fin 64) (r : NocReq) (s : State), Sound s ∧ coreHalted init.val s = false ∧ portIsolated init.val s = false ∧
    nocNext init.val s.noc.reqs = some r ∧ (s.noc.reqs.find? (fun x => x.id == r.id) = some r) ∧ r.phase = .done ∧ r.gone = false) ∧
  (∃ (init : Fin 64) (r : NocReq) (s : State), Sound s ∧ init = 50 ∧ coreHalted init.val s = false ∧
    nocNext init.val s.noc.reqs = some r ∧ (s.noc.reqs.find? (fun x => x.id == r.id) = some r) ∧ r.phase = .done ∧ r.gone = false) ∧
  (∃ (init : Fin 64) (r : NocReq) (s : State), Sound s ∧ coreHalted init.val s = false ∧ portIsolated init.val s = false ∧
    nocNext init.val s.noc.reqs = some r ∧ (s.noc.reqs.find? (fun x => x.id == r.id) = some r) ∧
    r.phase = .sent ∧ 65 ≤ r.target ∧ r.pkt.op = .regrd ∧ r.gone = false ∧ r.poison = false) ∧
  (∃ (init : Fin 64) (r : NocReq) (s : State), Sound s ∧
    (s.noc.reqs.find? (fun r => r.agent.init == init && !r.gone && (nocOpen r || r.lost)) = some r)) ∧
  (∃ (init : Fin 64) (r : NocReq) (s : State), Sound s ∧
    (s.noc.reqs.find? (fun r => r.agent.init == init && !r.gone && (nocOpen r || r.lost)) = some r) ∧
    0x0E04 * 65536 + init.val ∉ s.events.once) ∧
  (∃ (init : Fin 64) (r : NocReq) (s : State), Sound s ∧ init = 50 ∧
    (s.noc.reqs.find? (fun r => r.agent.init == init && !r.gone && (nocOpen r || r.lost)) = some r)) ∧
  (∃ (e : LinkErr) (s : State), Sound s ∧ e ≠ .single) ∧
  (∃ (p : PktRef) (r : NocReq) (s : State), Sound s ∧ reqOf p s = some r) ∧
  (∃ (p : PktRef) (r : NocReq) (s : State), Sound s ∧ reqOf p s = some r ∧ isWrite r.pkt.op = false) ∧
  (∃ (p : PktRef) (r : NocReq) (s : State), Sound s ∧ reqOf p s = some r ∧ nocOpen r = true ∧ isWrite r.pkt.op = true) ∧
  (∃ (target : Nat) (s : State), Sound s ∧ target < 256) ∧
  (∃ (a : Agent) (k : Fin 36) (s : State), Sound s ∧ nocWriter a = true ∧ k.val ≠ 0 ∧ k.val ≠ 6) ∧
  (∃ (a : Agent) (k : Fin 36) (s : State), Sound s ∧ nocWriter a = true ∧ (k.val = 0 ∨ k.val = 6) ∧
    s.get (NOC_RTR_CTL_MAINT k.val) = 0) ∧
  (∃ (k : Fin 36) (s : State), Sound s ∧ routerState k.val s = 1 ∧ drained k.val s = true) ∧
  (∃ (k : Fin 36) (s : State), Sound s ∧ routerState k.val s = 1 ∧ drained k.val s = false) ∧
  (∃ (a : Agent) (k : Fin 36) (s : State), Sound s ∧ nocWriter a = true ∧ k.val ≠ 0 ∧ k.val ≠ 6 ∧ routerState k.val s = 2) ∧
  (∃ (req : Nat) (x : Nat) (s : State), Sound s ∧ s.dbg.dapDone = true ∧ (bits req 112 3 = 1 ∨ bits req 112 3 = 2) ∧
    dapMay (bits req 112 3) (bits req 0 48) s = true ∧ targetOf (bits req 0 48) = some x ∧ 4 ≤ x ∧
    portRefuses 50 x (bits req 0 48) s = none ∧ responsesHeld 50 s < 64) ∧
  (∃ (req : Nat) (s : State), Sound s ∧ s.dbg.dapDone = true ∧
    (2 < bits req 112 3 ∨ (bits req 112 3 ≠ 0 ∧ dapMay (bits req 112 3) (bits req 0 48) s = false))) :=
  ⟨⟨⟨.rd, 32, 2, false, 0, 0, []⟩, st [], by decide +kernel⟩,
   ⟨⟨2, .none⟩, ⟨.rd, 64, 2, false, 0, 0, []⟩, (Config.hbmIngress 64 % 4), .asleep, st [], by
    have hlt := Nat.mod_lt (Config.hbmIngress 64) (show 4 > 0 by decide)
    refine ⟨?_, ?_, rfl, ?_⟩ <;> first | decide +kernel | (generalize Config.hbmIngress 64 % 4 = x at hlt ⊢; revert x; decide +kernel)⟩,
   ⟨⟨0, .none⟩, ⟨.regrd, 0x3001000000, 0, false, 0, 0, []⟩, 66, { st [] with noc := { State.reset.noc with seqs := [(66, 63)] } }, by decide +kernel⟩,
   ⟨⟨45, .none⟩, ⟨.wrp, 64, 2, false, 0, 5, [7]⟩, (Config.hbmIngress 64 % 4), st [(HBM_STAT_STATE, hbmReady), (PWR_DOM_STAT_STATE 65, 2)], by
    have hlt := Nat.mod_lt (Config.hbmIngress 64) (show 4 > 0 by decide)
    refine ⟨?_, ?_, rfl, ?_, ?_, ?_, ?_, ?_, ?_⟩ <;> first | decide +kernel | (generalize Config.hbmIngress 64 % 4 = x at hlt ⊢; revert x; decide +kernel)⟩,
   ⟨⟨4, 45, 1, 64, 1, none, 0, false, 0, [none]⟩, { st [(HBM_STAT_STATE, hbmReady)] with hbm := { State.reset.hbm with queue := [⟨4, 45, 1, 64, 1, none, 0, false, 0, [none]⟩] }, noc := { State.reset.noc with reqs := [openReq 65] } }, by decide +kernel⟩,
   ⟨{ st [] with hbm := { State.reset.hbm with moved := [(0, 64)] } }, by decide +kernel⟩,
   ⟨50, { openReq 65 with agent := ⟨50, .none⟩, target := 66, phase := .done, value := 7 }, { st [] with noc := { State.reset.noc with reqs := [{ openReq 65 with agent := ⟨50, .none⟩, target := 66, phase := .done, value := 7 }] } }, by decide +kernel⟩,
   ⟨50, { openReq 65 with agent := ⟨50, .none⟩, target := 66, phase := .done, value := 7 }, { st [] with noc := { State.reset.noc with reqs := [{ openReq 65 with agent := ⟨50, .none⟩, target := 66, phase := .done, value := 7 }] } }, by decide +kernel⟩,
   ⟨2, { openReq 65 with agent := ⟨2, .none⟩, target := 66, pkt := ⟨.regrd, 0x3001000200, 0, true, 0, 0, []⟩ }, { st [] with noc := { State.reset.noc with reqs := [{ openReq 65 with agent := ⟨2, .none⟩, target := 66, pkt := ⟨.regrd, 0x3001000200, 0, true, 0, 0, []⟩ }] } }, by decide +kernel⟩,
   ⟨50, { openReq 65 with agent := ⟨50, .none⟩ }, { st [] with noc := { State.reset.noc with reqs := [{ openReq 65 with agent := ⟨50, .none⟩ }] } }, by decide +kernel⟩,
   ⟨50, { openReq 65 with agent := ⟨50, .none⟩ }, { st [] with noc := { State.reset.noc with reqs := [{ openReq 65 with agent := ⟨50, .none⟩ }] } }, by decide +kernel⟩,
   ⟨50, { openReq 65 with agent := ⟨50, .none⟩ }, { st [] with noc := { State.reset.noc with reqs := [{ openReq 65 with agent := ⟨50, .none⟩ }] } }, by decide +kernel⟩,
   ⟨.data, st [], by decide +kernel⟩,
   ⟨⟨0, 0, 0⟩, openReq 65, { st [] with noc := { State.reset.noc with reqs := [openReq 65] } }, by decide +kernel⟩,
   ⟨⟨0, 0, 0⟩, openReq 65, { st [] with noc := { State.reset.noc with reqs := [openReq 65] } }, by decide +kernel⟩,
   ⟨⟨0, 0, 0⟩, { openReq 65 with pkt := ⟨.wr, 64, 2, false, 0, 0, []⟩ }, { st [] with noc := { State.reset.noc with reqs := [{ openReq 65 with pkt := ⟨.wr, 64, 2, false, 0, 0, []⟩ }] } }, by decide +kernel⟩,
   ⟨255, { st [] with noc := { State.reset.noc with resv := [(256 * 63 + 255, 4)] } }, by decide +kernel⟩,
   ⟨⟨0, .none⟩, 35, st [], by decide +kernel⟩,
   ⟨⟨0, .none⟩, 6, st [], by decide +kernel⟩,
   ⟨35, st [(NOC_RTR_STAT_STATE 35, 1)], by decide +kernel⟩,
   ⟨35, st [(NOC_RTR_STAT_STATE 35, 1), (NOC_RTR_STAT_HELD 35, 7)], by decide +kernel⟩,
   ⟨⟨0, .none⟩, 35, st [(NOC_RTR_STAT_STATE 35, 2), (NOC_RTR_CTL_MAINT 35, 1), (NOC_RTR_CTL_LINK_DIS 35, 9)], by decide +kernel⟩,
   ⟨2 ^ 112 + 0x3012000100, 83, { st [] with dbg := { State.reset.dbg with dapDone := true } }, by decide +kernel⟩,
   ⟨7 * 2 ^ 112, { st [] with dbg := { State.reset.dbg with dapDone := true } }, by decide +kernel⟩⟩

/-- The hypotheses of `Obligations.ArbiterCommandsComplete`, clause by clause. -/
theorem witness_ArbiterCommandsComplete :
  (∃ (x : Fin 18) (i : Fin 24) (s : State), Sound s ∧ i.val < arbCount x.val ∧ arbOwner x.val s = none ∧ arbWaiting x.val s = []) ∧
  (∃ (x : Fin 18) (i : Fin 24) (o : Nat) (s : State), Sound s ∧ i.val < arbCount x.val ∧ arbOwner x.val s = some o ∧ o ≠ i.val ∧
    (s.get (ARB_ACT_PREEMPT x.val i.val) = 0 ∨ s.get (ARB_ACT_PRIO x.val i.val) ≤ s.get (ARB_ACT_PRIO x.val o))) ∧
  (∃ (x : Fin 18) (i : Fin 24) (held : Nat) (o : Nat) (s : State), Sound s ∧ i.val < arbCount x.val ∧
    arbOwner x.val s = some o ∧ o ≠ i.val ∧
    s.get (ARB_ACT_PREEMPT x.val i.val) = 1 ∧ s.get (ARB_ACT_PRIO x.val o) < s.get (ARB_ACT_PRIO x.val i.val) ∧
    held < (arb x.val s).burst) ∧
  (∃ (x : Fin 18) (o : Nat) (s : State), Sound s ∧ arbOwner x.val s = some o ∧
    ((arb x.val s).reqs.any (fun y => y.i == o) = true) ∧ ((arbWaiting x.val s).filter (fun z => z.i != o) = [])) ∧
  (∃ (x : Fin 18) (o : Nat) (g : ArbReq) (l : List ArbReq) (y : ArbReq) (s : State), Sound s ∧ arbOwner x.val s = some o ∧
    ((arbWaiting x.val s).filter (fun z => z.i != o) = g :: l) ∧ s.get (ARB_CTL_FAIR_N x.val) = 0 ∧ y ∈ g :: l ∧
    (∀ z ∈ g :: l, z ≠ y → s.get (ARB_ACT_PRIO x.val z.i) < s.get (ARB_ACT_PRIO x.val y.i))) ∧
  (∃ (x : Fin 18) (o : Nat) (g : ArbReq) (l : List ArbReq) (s : State), Sound s ∧ arbOwner x.val s = some o ∧
    ((arbWaiting x.val s).filter (fun z => z.i != o) = g :: l) ∧ s.get (ARB_CTL_FAIR_N x.val) ≠ 0 ∧
    s.get (ARB_CTL_FAIR_N x.val) ≤ s.get (ARB_STAT_FAIR_CNT x.val) + 1) ∧
  (∃ (x : Fin 18) (o : Nat) (s : State), Sound s ∧ arbOwner x.val s = some o ∧
    ((arb x.val s).reqs.any (fun y => y.i == o) = true) ∧ ((arbWaiting x.val s).filter (fun z => z.i != o) = [])) ∧
  (∃ (x : Fin 18) (o : Nat) (g : ArbReq) (l : List ArbReq) (s : State), Sound s ∧ arbOwner x.val s = some o ∧
    ((arbWaiting x.val s).filter (fun z => z.i != o) = g :: l) ∧ s.get (ARB_CTL_FAIR_N x.val) ≠ 0 ∧
    s.get (ARB_CTL_FAIR_N x.val) ≤ s.get (ARB_STAT_FAIR_CNT x.val) + 1) ∧
  (∃ (a : Agent) (s : State), Sound s ∧ nocWriter a = true) ∧
  (∃ (a : Agent) (x : Fin 18) (i : Nat) (s : State), Sound s ∧ nocWriter a = true ∧ i < arbCount x.val) :=
  ⟨⟨0, 23, st [], by decide +kernel⟩,
   ⟨0, 23, 5, st [(ARB_STAT_BUSY 0, 1), (ARB_STAT_OWNER 0, 5)], by decide +kernel⟩,
   ⟨0, 23, 3, 5, { st [(ARB_STAT_BUSY 0, 1), (ARB_STAT_OWNER 0, 5), (ARB_ACT_PREEMPT 0 23, 1), (ARB_ACT_PRIO 0 23, 7), (ARB_ACT_PRIO 0 5, 1)] with noc := { State.reset.noc with arbs := [⟨0, [⟨5, none, 20, 0, none, false⟩], 16, 5⟩] } }, by decide +kernel⟩,
   ⟨17, 5, { st [(ARB_STAT_BUSY 17, 1), (ARB_STAT_OWNER 17, 5)] with noc := { State.reset.noc with arbs := [⟨17, [⟨5, none, 20, 0, none, false⟩], 16, 5⟩] } }, by decide +kernel⟩,
   ⟨0, 5, ⟨6, none, 3, 0, none, true⟩, [⟨23, none, 3, 0, none, true⟩], ⟨23, none, 3, 0, none, true⟩, { st [(ARB_CTL_FAIR_N 0, 0), (ARB_STAT_BUSY 0, 1), (ARB_STAT_OWNER 0, 5), (ARB_ACT_PRIO 0 23, 7), (ARB_ACT_PRIO 0 6, 1)] with noc := { State.reset.noc with arbs := [⟨0, [⟨5, none, 20, 0, none, false⟩, ⟨6, none, 3, 0, none, true⟩, ⟨23, none, 3, 0, none, true⟩], 16, 5⟩] } }, by decide +kernel⟩,
   ⟨0, 5, ⟨6, none, 3, 0, none, true⟩, [⟨23, none, 3, 0, none, true⟩], { st [(ARB_CTL_FAIR_N 0, 8), (ARB_STAT_FAIR_CNT 0, 7), (ARB_STAT_BUSY 0, 1), (ARB_STAT_OWNER 0, 5), (ARB_ACT_PRIO 0 23, 7), (ARB_ACT_PRIO 0 6, 1)] with noc := { State.reset.noc with arbs := [⟨0, [⟨5, none, 20, 0, none, false⟩, ⟨6, none, 3, 0, none, true⟩, ⟨23, none, 3, 0, none, true⟩], 16, 5⟩] } }, by decide +kernel⟩,
   ⟨17, 5, { st [(ARB_STAT_BUSY 17, 1), (ARB_STAT_OWNER 17, 5)] with noc := { State.reset.noc with arbs := [⟨17, [⟨5, none, 20, 0, none, false⟩], 16, 5⟩] } }, by decide +kernel⟩,
   ⟨0, 5, ⟨6, none, 3, 0, none, true⟩, [], { st [(ARB_CTL_FAIR_N 0, 1), (ARB_STAT_BUSY 0, 1), (ARB_STAT_OWNER 0, 5), (ARB_ACT_PRIO 0 5, 7)] with noc := { State.reset.noc with arbs := [⟨0, [⟨5, none, 20, 0, none, false⟩, ⟨6, none, 3, 0, none, true⟩], 16, 5⟩] } }, by decide +kernel⟩,
   ⟨⟨0, .none⟩, st [(ARB_SHD_BURST 0 23, 99), (ARB_SHD_PRIO 0 23, 5)], by decide +kernel⟩,
   ⟨⟨0, .none⟩, 0, 23, st [(ARB_SHD_BURST 0 23, 99), (ARB_SHD_PRIO 0 23, 5)], by decide +kernel⟩⟩

/-- The hypotheses of `Obligations.LinkBringUpCommandsComplete`, clause by clause. -/
theorem witness_LinkBringUpCommandsComplete :
  (∃ (a : Agent) (q : Fin 16) (value : Nat) (s : State), Sound s ∧ lanesWriter a = true ∧ domOn (48 + q.val) s = true ∧
    s.get (LNK_CTL_EN q.val) = 0 ∧ (LNK_CTL_DEG_LIM q.val).of value ≠ 0 ∧ (LNK_CTL_MAXW q.val).of value ≠ 3 ∧
    ((LNK_CTL_ROLE q.val).of value = 0 ∨ upLink s = none) ∧
    ((LNK_CTL_MAXW q.val).of value = 0 ∨ s.get (LNK_CTL_MAXW q.val) ≠ 0 ∨ quadCurrent q.val s ≠ 4)) ∧
  (∃ (a : Agent) (q : Fin 16) (s : State), Sound s ∧ lanesWriter a = true ∧ s.get (LNK_CTL_EN q.val) = 1 ∧
    s.get (LNK_CTL_DEG_LIM q.val) ≠ 0 ∧ s.get (LNK_CTL_MAXW q.val) ≠ 3) ∧
  (∃ (a : Agent) (q : Fin 16) (s : State), Sound s ∧ lanesWriter a = true ∧ s.get (LNK_CTL_EN q.val) = 1 ∧
    s.get (LNK_CTL_DEG_LIM q.val) ≠ 0 ∧ s.get (LNK_CTL_MAXW q.val) ≠ 3 ∧ linkActive q.val s = true ∧
    s.get (LNK_CTL_ROLE q.val) = 0) ∧
  (∃ (a : Agent) (q : Fin 16) (s : State), Sound s ∧ lanesWriter a = true ∧ linkActive q.val s = true ∧
    s.get (LNK_CTL_EN q.val) = 1 ∧ s.get (LNK_CTL_DEG_LIM q.val) ≠ 0 ∧ s.get (LNK_CTL_MAXW q.val) ≠ 3) ∧
  (∃ (q : Fin 16) (s : State), Sound s ∧ lnkState q.val s = lnkDetect) ∧
  (∃ (l : Fin 64) (tap : Tap) (up : Bool) (x : Nat) (s : State), Sound s ∧ lnkState (l.val / 4) s = lnkTrain ∧
    tapStep l.val tap up s = some x) ∧
  (∃ (l : Fin 64) (tap : Tap) (up : Bool) (s : State), Sound s ∧ lnkState (l.val / 4) s = lnkTrain ∧
    tapStep l.val tap up s = none) ∧
  (∃ (q : Fin 16) (s : State), Sound s ∧ lnkState q.val s = lnkTrain) ∧
  (∃ (q : Fin 16) (s : State), Sound s ∧ lnkState q.val s = lnkTrain) ∧
  (∃ (a : Agent) (l : Fin 64) (s : State), Sound s ∧ lanesWriter a = true ∧
    tapsOk (s.get (LANE_CTL_PRE l.val)) (s.get (LANE_CTL_MAIN l.val)) (s.get (LANE_CTL_POST l.val)) = true) ∧
  (∃ (q : Fin 16) (s : State), Sound s ∧ lnkState q.val s = lnkLock) ∧
  (∃ (q : Fin 16) (s : State), Sound s ∧ lnkState q.val s = lnkLock ∧ s.get (LNK_CTL_AUTOLOCK q.val) = 1) ∧
  (∃ (q : Fin 16) (cap : Capability) (s : State), Sound s ∧ lnkState q.val s = lnkExchange ∧ cap.up ≠ s.on (LNK_CTL_ROLE q.val) ∧
    popCount 4 (Nat.land (laneMask q.val LANE_STAT_SYMLOCK s) cap.lanes) ≠ 0) ∧
  (∃ (q : Fin 16) (cap : Capability) (s : State), Sound s ∧ lnkState q.val s = lnkExchange ∧
    (cap.up = s.on (LNK_CTL_ROLE q.val) ∨ popCount 4 (Nat.land (laneMask q.val LANE_STAT_SYMLOCK s) cap.lanes) = 0)) ∧
  (∃ (q : Fin 16) (s : State), Sound s ∧ lnkState q.val s = lnkExchange) ∧
  (∃ (q : Fin 16) (s : State), Sound s ∧ (link q.val s).backoff = true ∧ s.get (LNK_CTL_EN q.val) = 1) ∧
  (∃ (l : Fin 64) (s : State), Sound s ∧ linkActive (l.val / 4) s = false) ∧
  (∃ (l : Fin 64) (s : State), Sound s ∧ linkActive (l.val / 4) s = true ∧ s.get (LNK_STAT_LANES (l.val / 4)) = 2 ^ (l.val % 4) ∧
    s.get (LNK_STAT_RXSLEEP (l.val / 4)) = 0) ∧
  (∃ (a : Agent) (l : Fin 64) (s : State), Sound s ∧ lanesWriter a = true ∧
    tapsOk (s.get (LANE_CTL_PRE l.val)) (s.get (LANE_CTL_MAIN l.val)) (s.get (LANE_CTL_POST l.val)) = true) ∧
  (∃ (l : Fin 64) (s : State), Sound s ∧ s.get (LNK_CTL_EN (l.val / 4)) = 1 ∧ domRuns (48 + l.val / 4) s = true ∧
    (s.get (LNK_CTL_MODE (l.val / 4)) = 1 ∨ s.get (LNK_CTL_MODE (l.val / 4)) = 2) ∧ s.get (LANE_CTL_PRBS l.val) ≠ 0) :=
  ⟨⟨⟨0, .none⟩, 15, 2 ^ 24 + 2 ^ 4 + 2, st [(PWR_DOM_STAT_STATE 63, 2)], by decide +kernel⟩,
   ⟨⟨0, .none⟩, 15, st [(LNK_CTL_EN 15, 1), (LNK_STAT_STATE 15, lnkActive), (LNK_STAT_LANES 15, 15)], by decide +kernel⟩,
   ⟨⟨0, .none⟩, 15, st [(LNK_CTL_EN 15, 1), (LNK_STAT_STATE 15, lnkActive), (LNK_STAT_LANES 15, 15)], by decide +kernel⟩,
   ⟨⟨0, .none⟩, 15, modLink 15 (fun x => { x with sent := [⟨.payload, true, []⟩], again := 1 }) (st [(PWR_DOM_STAT_STATE 63, 2), (LNK_CTL_EN 15, 1), (LNK_STAT_STATE 15, lnkActive), (LNK_STAT_LANES 15, 15), (LANE_STAT_GOOD 63, 1)]), by decide +kernel⟩,
   ⟨15, st [(LNK_STAT_STATE 15, lnkDetect), (LANE_CTL_MAIN 63, 40)], by decide +kernel⟩,
   ⟨63, .main, false, 23 * 256, { st [(LNK_STAT_STATE 15, lnkTrain)] with casc := { State.reset.casc with taps := [(63, 24 * 256)] } }, by decide +kernel⟩,
   ⟨63, .pre, false, { st [(LNK_STAT_STATE 15, lnkTrain)] with casc := { State.reset.casc with taps := [(63, 24 * 256)] } }, by decide +kernel⟩,
   ⟨15, st [(LNK_STAT_STATE 15, lnkTrain)], by decide +kernel⟩,
   ⟨15, st [(LNK_STAT_STATE 15, lnkTrain)], by decide +kernel⟩,
   ⟨⟨0, .none⟩, 63, { st [(LNK_CTL_AUTOLOCK 15, 0)] with casc := { State.reset.casc with slip := [(63, 319)] } }, by decide +kernel⟩,
   ⟨15, st [(LNK_STAT_STATE 15, lnkLock), (LANE_STAT_GOOD 63, 1), (LANE_STAT_GOOD 60, 1)], by decide +kernel⟩,
   ⟨15, st [(LNK_STAT_STATE 15, lnkLock)], by decide +kernel⟩,
   ⟨15, ⟨77, 2, true, 15⟩, st [(LNK_STAT_STATE 15, lnkExchange), (LANE_STAT_SYMLOCK 61, 1), (LANE_STAT_SYMLOCK 63, 1), (LANE_STAT_SYMLOCK 62, 1)], by decide +kernel⟩,
   ⟨15, ⟨77, 2, false, 15⟩, st [(LNK_STAT_STATE 15, lnkExchange)], by decide +kernel⟩,
   ⟨15, st [(LNK_STAT_STATE 15, lnkExchange)], by decide +kernel⟩,
   ⟨15, modLink 15 (fun x => { x with backoff := true }) (st [(LNK_CTL_EN 15, 1)]), by decide +kernel⟩,
   ⟨63, st [(LANE_STAT_SYMLOCK 63, 1), (LANE_STAT_SIGNAL 63, 1)], by decide +kernel⟩,
   ⟨63, st [(LNK_STAT_STATE 15, lnkActive), (LNK_STAT_LANES 15, 8), (LANE_STAT_SYMLOCK 63, 1)], by decide +kernel⟩,
   ⟨⟨0, .none⟩, 63, st [(LNK_CTL_MODE 15, 2), (LANE_STAT_PRBS_LOCK 63, 1)], by decide +kernel⟩,
   ⟨63, st [(LNK_CTL_EN 15, 1), (PWR_DOM_STAT_STATE 63, 2), (LNK_CTL_MODE 15, 1), (LANE_CTL_PRBS 63, 3)], by decide +kernel⟩⟩

/-- The hypotheses of `Obligations.CascadeCommandsComplete`, clause by clause. -/
theorem witness_CascadeCommandsComplete :
  (∃ (q : Fin 16) (f : OutFlit) (s : State), Sound s ∧ linkActive q.val s = true ∧ s.get (LNK_STAT_TXSLEEP q.val) = 0 ∧
    s.casc.queue = [] ∧ (link q.val s).ctlDue = none ∧ (link q.val s).again = (link q.val s).sent.length ∧
    nextFlit (link q.val s) = some f) ∧
  (∃ (q : Fin 16) (s : State), Sound s ∧ linkActive q.val s = true ∧ s.get (LNK_STAT_TXSLEEP q.val) = 0 ∧ s.casc.queue = [] ∧
    (link q.val s).ctlDue = none ∧ (link q.val s).again < (link q.val s).sent.length) ∧
  (∃ (q : Fin 16) (lane : Fin 4) (f : Flit) (s : State), Sound s ∧ linkActive q.val s = true ∧
    bit (s.get (LNK_STAT_LANES q.val)) lane.val = true ∧ f.type = .payload ∧ f.nak = false) ∧
  (∃ (q : Fin 16) (lane : Fin 4) (s : State), Sound s ∧ linkActive q.val s = true ∧
    bit (s.get (LNK_STAT_LANES q.val)) lane.val = true ∧ spGet lane.val (link q.val s).laneErr < s.get (LNK_CTL_DEG_LIM q.val)) ∧
  (∃ (q : Fin 16) (lane : Fin 4) (s : State), Sound s ∧ linkActive q.val s = true ∧
    bit (s.get (LNK_STAT_LANES q.val)) lane.val = true ∧ s.get (LNK_CTL_DEG_LIM q.val) ≤ spGet lane.val (link q.val s).laneErr ∧
    s.get (LNK_STAT_WIDTH q.val) = 0) ∧
  (∃ (q : Fin 16) (lane : Fin 4) (f : Flit) (s : State), Sound s ∧ linkActive q.val s = true ∧
    bit (s.get (LNK_STAT_LANES q.val)) lane.val = true ∧ f.type = .idle ∧ f.nak = true ∧
    (ackTo f.ackSeq (link q.val s)).sent ≠ [] ∧ (ackTo f.ackSeq (link q.val s)).replays < 8) ∧
  (∃ (q : Fin 16) (s : State), Sound s ∧ linkActive q.val s = true ∧ s.get (LNK_CTL_SLEEP_EN q.val) = 1 ∧
    s.get (LNK_STAT_TXSLEEP q.val) = 0 ∧ (s.get (LNK_CTL_ROLE q.val) = 1 ∨ s.get (LNK_CTL_TIME_EN q.val) = 0) ∧
    linkIdle (link q.val s) = true) ∧
  (∃ (q : Fin 16) (s : State), Sound s ∧ s.get (LNK_STAT_TXSLEEP q.val) = 1 ∧ linkIdle (link q.val s) = false) ∧
  (∃ (a : Agent) (value : Nat) (s : State), Sound s ∧ (lanesWriter a = true ∨ a.core03 = true) ∧
    CAS_SEND_ADDR.of value % 64 = 0 ∧ CAS_SEND_ADDR.of value + 32 * (CAS_SEND_LEN.of value + 1) ≤ hbmSize ∧
    (CAS_SEND_DEST.of value < 250000 ∨ CAS_SEND_DEST.of value = noStation) ∧ s.get CAS_CTL_STATION ≠ noStation ∧
    s.casc.queue.length < 64 ∧ casLeads (CAS_SEND_DEST.of value) s = true) ∧
  (∃ (a : Agent) (value : Nat) (s : State), Sound s ∧ (lanesWriter a = true ∨ a.core03 = true) ∧
    CAS_SEND_ADDR.of value % 64 = 0 ∧ CAS_SEND_ADDR.of value + 32 * (CAS_SEND_LEN.of value + 1) ≤ hbmSize ∧
    (CAS_SEND_DEST.of value < 250000 ∨ CAS_SEND_DEST.of value = noStation) ∧ s.get CAS_CTL_STATION ≠ noStation ∧
    s.casc.queue.length < 64 ∧ casLeads (CAS_SEND_DEST.of value) s = true ∧
    (s.casc.queue ++ [(⟨CAS_SEND_TAG.of value, CAS_SEND_DEST.of value, CAS_SEND_LEN.of value + 1, CAS_SEND_ADDR.of value⟩ : CasMsg)]).head?.map (·.dest) ≠ some (s.get CAS_CTL_STATION)) ∧
  (∃ (a : Agent) (value : Nat) (s : State), Sound s ∧ (lanesWriter a = true ∨ a.core03 = true) ∧
    CAS_SEND_ADDR.of value % 64 = 0 ∧ CAS_SEND_ADDR.of value + 32 * (CAS_SEND_LEN.of value + 1) ≤ hbmSize ∧
    (CAS_SEND_DEST.of value < 250000 ∨ CAS_SEND_DEST.of value = noStation) ∧ s.get CAS_CTL_STATION ≠ noStation ∧
    (64 ≤ s.casc.queue.length ∨ casLeads (CAS_SEND_DEST.of value) s = false)) ∧
  (∃ (q : Fin 16) (i p dest : Nat) (s : State), Sound s ∧ (link q.val s).rx.findIdx? (·.last) = some i ∧
    ((link q.val s).rx.head?.map (fun f => ofBytes (f.payload.take 8) % 2 ^ 18) = some dest) ∧
    dest ≠ noStation ∧ dest ≠ s.get CAS_CTL_STATION ∧ casRoute (some q.val) dest s = (false, [p]) ∧ p ≠ q.val) ∧
  (∃ (q : Fin 16) (i dest : Nat) (s : State), Sound s ∧ (link q.val s).rx.findIdx? (·.last) = some i ∧
    ((link q.val s).rx.head?.map (fun f => ofBytes (f.payload.take 8) % 2 ^ 18) = some dest) ∧
    casRoute (some q.val) dest s = (false, [])) ∧
  (∃ (q : Fin 16) (i : Nat) (s : State), Sound s ∧ (link q.val s).rx.findIdx? (·.last) = some i ∧
    ((link q.val s).rx.head?.map (fun f => ofBytes (f.payload.take 8) % 2 ^ 18) = some (s.get CAS_CTL_STATION)) ∧
    s.get CAS_CTL_STATION ≠ noStation ∧
    casRingSize s ≠ 0 ∧ wrap 32 ((s.get CAS_RX_PTR_WR : Int) - s.get CAS_RX_PTR_RD) < casRingSize s ∧
    s.get CAS_RX_CFG_BASE + 512 * (s.get CAS_RX_PTR_WR % casRingSize s) + 512 ≤ hbmSize ∧
    (nocReach 51 (s.get CAS_RX_CFG_BASE + 512 * (s.get CAS_RX_PTR_WR % casRingSize s)) 2 18 s).1 = none ∧
    hbmDenies 51 (s.get CAS_RX_CFG_BASE + 512 * (s.get CAS_RX_PTR_WR % casRingSize s)) 512 true = false ∧
    pairRefusesAt (s.get CAS_RX_CFG_BASE + 512 * (s.get CAS_RX_PTR_WR % casRingSize s)) 8 s = none ∧
    (∀ k : Fin 8, encRegion (64 * ((s.get CAS_RX_CFG_BASE + 512 * (s.get CAS_RX_PTR_WR % casRingSize s)) / 64 + k.val)) s = none)) ∧
  (∃ (q : Fin 16) (i : Nat) (s : State), Sound s ∧ (link q.val s).rx.findIdx? (·.last) = some i ∧
    ((link q.val s).rx.head?.map (fun f => ofBytes (f.payload.take 8) % 2 ^ 18) = some (s.get CAS_CTL_STATION)) ∧
    s.get CAS_CTL_STATION ≠ noStation ∧ casRingSize s ≤ wrap 32 ((s.get CAS_RX_PTR_WR : Int) - s.get CAS_RX_PTR_RD)) ∧
  (∃ (q : Fin 16) (s : State), Sound s ∧ linkActive q.val s = true ∧
    s.get (LNK_CTL_ROLE q.val) = 0 ∧ s.get (LNK_CTL_TIME_EN q.val) = 1) ∧
  (∃ (q : Fin 16) (s : State), Sound s ∧ linkActive q.val s = true ∧ s.get (LNK_CTL_ROLE q.val) = 1) ∧
  (∃ (q : Fin 16) (count : Nat) (t1 : Nat) (s : State), Sound s ∧ linkActive q.val s = true ∧
    (link q.val s).timeSent = some (t1, count) ∧ (link q.val s).delayLane = lowestLane q.val s ∧
    (link q.val s).delays.length ≤ 16) :=
  ⟨⟨15, ⟨.payload, true, []⟩, modLink 15 (fun x => { x with txq := [⟨.payload, true, []⟩], credits := 1, freed := 9, nakDue := true }) (st [(LNK_STAT_STATE 15, lnkActive)]), by decide +kernel⟩,
   ⟨15, modLink 15 (fun x => { x with sent := [⟨.payload, true, []⟩] }) (st [(LNK_STAT_STATE 15, lnkActive)]), by decide +kernel⟩,
   ⟨15, 3, ⟨.payload, true, 0, false, 5, [1]⟩, modLink 15 (fun x => { x with expect := 4095, credits := 60 }) (st [(LNK_STAT_STATE 15, lnkActive), (LNK_STAT_LANES 15, 8)]), by decide +kernel⟩,
   ⟨15, 3, st [(LNK_STAT_STATE 15, lnkActive), (LNK_STAT_LANES 15, 8)], by decide +kernel⟩,
   ⟨15, 3, modLink 15 (fun x => { x with laneErr := [(3, 16)] }) (st [(LNK_STAT_STATE 15, lnkActive), (LNK_STAT_LANES 15, 8)]), by decide +kernel⟩,
   ⟨15, 3, ⟨.idle, true, 0, true, 5, [1]⟩, modLink 15 (fun x => { x with sent := [⟨.payload, true, []⟩, ⟨.payload, true, [9]⟩], again := 2 }) (st [(LNK_STAT_STATE 15, lnkActive), (LNK_STAT_LANES 15, 8)]), by decide +kernel⟩,
   ⟨15, st [(LNK_STAT_STATE 15, lnkActive), (LNK_CTL_SLEEP_EN 15, 1), (LNK_CTL_TIME_EN 15, 0)], by decide +kernel⟩,
   ⟨15, modLink 15 (fun x => { x with txq := [⟨.payload, true, []⟩] }) (st [(LNK_STAT_TXSLEEP 15, 1)]), by decide +kernel⟩,
   ⟨⟨3, .none⟩, 249999 * 2 ^ 38 + 15 * 2 ^ 34, st [(CAS_CTL_STATION, 249999)], by decide +kernel⟩,
   ⟨⟨3, .none⟩, 77 * 2 ^ 38 + 15 * 2 ^ 34, st [(CAS_CTL_STATION, 5), (LNK_STAT_STATE 3, lnkActive), (LNK_RANGE_FIRST 3, 70), (LNK_RANGE_LAST 3, 77)], by decide +kernel⟩,
   ⟨⟨3, .none⟩, 5 * 2 ^ 38 + 15 * 2 ^ 34, st [(CAS_CTL_STATION, 249999)], by decide +kernel⟩,
   ⟨15, 0, 3, 77, modLink 15 (fun x => { x with rx := [⟨.payload, true, toBytes 32 77⟩, ⟨.payload, true, []⟩] }) (st [(CAS_CTL_STATION, 5), (LNK_STAT_STATE 3, lnkActive), (LNK_RANGE_FIRST 3, 70), (LNK_RANGE_LAST 3, 77)]), by decide +kernel⟩,
   ⟨15, 0, 77, modLink 15 (fun x => { x with rx := [⟨.payload, true, toBytes 32 77⟩, ⟨.payload, true, []⟩] }) (st []), by decide +kernel⟩,
   ⟨15, 0, { modLink 15 (fun x => { x with rx := [⟨.payload, true, toBytes 32 77⟩, ⟨.payload, true, []⟩] }) (st [(CAS_CTL_STATION, 77), (CAS_RX_CFG_LOG2, 7), (HBM_STAT_STATE, hbmReady), (CAS_RX_PTR_WR, 2 ^ 32 - 1), (CAS_RX_PTR_RD, 2 ^ 32 - 5)]) with bootMs := 0 }, by
    refine ⟨?_, ?_, ?_, ?_, ?_, ?_, ?_, ?_, ?_, ?_⟩ <;> first | (rw [nocReach_clear _ _ _ _ _ (by decide +kernel)] <;> first | rfl | decide +kernel) | decide +kernel⟩,
   ⟨15, 0, modLink 15 (fun x => { x with rx := [⟨.payload, true, toBytes 32 77⟩, ⟨.payload, true, []⟩] }) (st [(CAS_CTL_STATION, 77)]), by decide +kernel⟩,
   ⟨15, st [(LNK_STAT_STATE 15, lnkActive), (FRM_COUNT_COUNT, 2 ^ 48 - 1)], by decide +kernel⟩,
   ⟨15, st [(LNK_STAT_STATE 15, lnkActive), (LNK_CTL_ROLE 15, 1)], by decide +kernel⟩,
   ⟨15, 9, 400, modLink 15 (fun x => { x with timeSent := some (400, 9), delays := List.replicate 16 3 }) (st [(LNK_STAT_STATE 15, lnkActive), (LNK_ASYM_ASYM 15, 65535)]), by decide +kernel⟩⟩

/-- The hypotheses of `Obligations.ScratchpadCommandsComplete`, clause by clause. -/
theorem witness_ScratchpadCommandsComplete :
  (∃ (a : Agent) (n : Fin 16) (owner : Nat) (s : State), Sound s ∧ a.ctl = true ∧
    (a.core01 = true ∨ a.init.val = s.get (SP_OWN_OWNER n.val)) ∧ (SP_OWN_OWNER n.val).of owner ≠ s.get (SP_OWN_OWNER n.val) ∧
    (n.val < 14 ∨ (SP_OWN_OWNER n.val).of owner ≤ 1) ∧ (s.noc.reqs.all (fun r => r.target != 8 + n.val) = true) ∧
    (s.cluster.handover.all (fun p => p.1 != n.val) = true)) ∧
  (∃ (a : Agent) (n : Fin 16) (owner : Nat) (s : State), Sound s ∧ a.ctl = true ∧
    (a.core01 = true ∨ a.init.val = s.get (SP_OWN_OWNER n.val)) ∧ (SP_OWN_OWNER n.val).of owner ≠ s.get (SP_OWN_OWNER n.val) ∧
    (n.val < 14 ∨ (SP_OWN_OWNER n.val).of owner ≤ 1) ∧
    (s.noc.reqs.any (fun r => nocOpen r && r.target == 8 + n.val && r.agent.init.val == s.get (SP_OWN_OWNER n.val) && decide (r.id < s.noc.nextId)) = true)) ∧
  (∃ (a : Agent) (x w : Nat) (s : State), Sound s ∧ inScratchpad x = true ∧
    spRefuses a.init.val (spBank x) s.noc.nextId s = none ∧ spWidthOk x w = true ∧ 65536 * spBank x + spIndex x ∉ s.cluster.bad) ∧
  (∃ (a : Agent) (x w : Nat) (s : State), Sound s ∧ inScratchpad x = true ∧
    spRefuses a.init.val (spBank x) s.noc.nextId s = none ∧ spWidthOk x w = true ∧ 65536 * spBank x + spIndex x ∈ s.cluster.bad) ∧
  (∃ (a : Agent) (x w : Nat) (s : State), Sound s ∧ inScratchpad x = true ∧
    spRefuses a.init.val (spBank x) s.noc.nextId s = none ∧ spWidthOk x w = true ∧
    (65536 * spBank x + spIndex x ∉ s.cluster.bad ∨ (spAlias x = 0 ∧ w = 64))) ∧
  (∃ (a : Agent) (x : Nat) (s : State), Sound s ∧ inScratchpad x = true ∧ domRefuses (spDom (spBank x)) s = none ∧
    s.get (SP_OWN_OWNER (spBank x)) ≠ a.init.val ∧ s.cluster.handover = []) ∧
  (∃ (a : Agent) (x w y : Nat) (s : State), Sound s ∧ inScratchpad x = true ∧ inScratchpad y = true ∧
    spBank x = spBank y ∧ spIndex x = spIndex y ∧ spRefuses a.init.val (spBank y) s.noc.nextId s = none ∧
    spWidthOk x w = true ∧ spWidthOk y 64 = true ∧ spAlias y = 0) ∧
  (∃ (n : Fin 16) (word : Nat) (s : State), Sound s ∧ n.val < 14 ∧ word < 65536 ∧ domRuns (spDom n.val) s = true ∧
    s.get SP_ECC_CTL_SCRUB_RATE ≠ 0 ∧ 65536 * n.val + word ∈ s.cluster.bad) ∧
  (∃ (n : Fin 16) (word : Nat) (s : State), Sound s ∧ n.val < 14 ∧ word < 65536 ∧ domRuns (spDom n.val) s = true ∧
    s.get SP_ECC_CTL_SCRUB_RATE ≠ 0 ∧ 65536 * n.val + word ∉ s.cluster.bad) ∧
  (∃ (n : Fin 16) (word : Nat) (s : State), Sound s ∧ n.val < 14 ∧ word < 65536 ∧ domRuns (spDom n.val) s = true ∧
    s.get SP_ECC_CTL_SCRUB_RATE ≠ 0 ∧ 65536 * n.val + word ∉ s.cluster.bad) ∧
  (∃ (n : Fin 16) (word : Nat) (s : State), Sound s ∧ n.val < 14 ∧ word < 65536 ∧ domRuns (spDom n.val) s = true ∧
    s.get SP_ECC_CTL_SCRUB_RATE ≠ 0 ∧ 65536 * n.val + word ∉ s.cluster.bad ∧
    s.get SP_ECC_CTL_BUCKET < s.get SP_ECC_STAT_LEVEL + 1) ∧
  (∃ (a : Agent) (value : Nat) (s : State), Sound s ∧ a.core01 = true ∧ SP_PASS_GO.of value = 1 ∧
    s.get SP_PASS_GO = 0 ∧ s.get SP_MARCH_GO = 0 ∧
    SP_PASS_COUNT.of value ≠ 0 ∧ SP_PASS_FIRST.of value + SP_PASS_COUNT.of value ≤ 65536 ∧ domOn 93 s = true) ∧
  (∃ (n first k : Nat) (s : State), Sound s ∧ s.get SP_PASS_GO = 1 ∧ s.cluster.pass = (n, first, k)) ∧
  (∃ (a : Agent) (value : Nat) (s : State), Sound s ∧ a.core01 = true ∧ SP_MARCH_GO.of value = 1 ∧
    s.get SP_PASS_GO = 0 ∧ s.get SP_MARCH_GO = 0 ∧
    (∀ n : Fin 16, bit (SP_MARCH_BANKS.of value) n.val = true → domOn (spDom n.val) s = true)) ∧
  (∃ (s : State), Sound s ∧ s.get SP_MARCH_GO = 1 ∧ s.cluster.keep = true ∧
    (s.cluster.march.Nodup ∧ ∀ n ∈ s.cluster.march, n < 16)) ∧
  (∃ (s : State), Sound s ∧ s.get SP_MARCH_GO = 1 ∧ s.cluster.keep = false) ∧
  (∃ (x : Nat) (s : State), Sound s ∧ s.cluster.wiping = some x) :=
  ⟨⟨⟨0, .none⟩, 13, 40, st [], by decide +kernel⟩,
   ⟨⟨0, .none⟩, 13, 40, { st [] with noc := { State.reset.noc with nextId := 1, reqs := [{ openReq 92 with target := 21 }] } }, by decide +kernel⟩,
   ⟨⟨0, .none⟩, 0x1000000007, 8, { st [(PWR_DOM_STAT_STATE 86, 2)] with cluster := { State.reset.cluster with words := [(0, 2 ^ 60 + 1)] } }, by decide +kernel⟩,
   ⟨⟨0, .none⟩, 0x100007FFF8, 64, { st [(PWR_DOM_STAT_STATE 86, 2)] with cluster := { State.reset.cluster with bad := [65535] } }, by decide +kernel⟩,
   ⟨⟨0, .none⟩, 0x1000000000, 64, { st [(PWR_DOM_STAT_STATE 86, 2)] with cluster := { State.reset.cluster with bad := [0] } }, by decide +kernel⟩,
   ⟨⟨1, .none⟩, 0x1000000000, st [(PWR_DOM_STAT_STATE 86, 2)], by decide +kernel⟩,
   ⟨⟨0, .none⟩, 0x1000000007, 8, 0x1000000000, { st [(PWR_DOM_STAT_STATE 86, 2)] with cluster := { State.reset.cluster with bad := [0] } }, by decide +kernel⟩,
   ⟨13, 65535, { st [(PWR_DOM_STAT_STATE 92, 2), (SP_ECC_STAT_PASSES, 255)] with cluster := { State.reset.cluster with bad := [65536 * 13 + 65535] } }, by decide +kernel⟩,
   ⟨11, 65535, st [(PWR_DOM_STAT_STATE 91, 2), (SP_ECC_STAT_PASSES, 255)], by decide +kernel⟩,
   ⟨12, 3, st [(PWR_DOM_STAT_STATE 92, 2), (SP_ECC_STAT_LEVEL, 255), (SP_ECC_CTL_BUCKET, 255)], by decide +kernel⟩,
   ⟨12, 3, st [(PWR_DOM_STAT_STATE 92, 2), (SP_ECC_STAT_LEVEL, 255), (SP_ECC_CTL_BUCKET, 255)], by decide +kernel⟩,
   ⟨⟨1, .none⟩, 2 ^ 63 + 65535 + 2 ^ 16, st [(PWR_DOM_STAT_STATE 93, 2)], by decide +kernel⟩,
   ⟨14, 0, 4, { st [(SP_PASS_GO, 1), (SP_PASS_COUNT, 4)] with cluster := { State.reset.cluster with pass := (14, 0, 4), bad := [14 * 65536 + 3, 14 * 65536 + 4, 14 * 65536] } }, by decide +kernel⟩,
   ⟨⟨1, .none⟩, 2 ^ 31 + 3, st [(PWR_DOM_STAT_STATE 86, 2)], by decide +kernel⟩,
   ⟨{ st [(SP_MARCH_GO, 1), (SP_MARCH_PRESERVE, 1), (SP_MARCH_STAT_PASSED, 3)] with cluster := { State.reset.cluster with keep := true, march := [2, 3, 15] } }, by decide +kernel⟩,
   ⟨{ st [(SP_MARCH_GO, 1)] with cluster := { State.reset.cluster with march := [2, 3, 15], bad := [65536 * 2, 65536 * 4], words := [(65536 * 2, 7)] } }, by decide +kernel⟩,
   ⟨1, { st [] with cluster := { State.reset.cluster with wiping := some 1 } }, by decide +kernel⟩⟩

/-- The hypotheses of `Obligations.ClusterCommandsComplete`, clause by clause. -/
theorem witness_ClusterCommandsComplete :
  (∃ (m : Fin 16) (s : State), Sound s ∧ s.get (MBX_STAT_FULL m.val) = 0) ∧
  (∃ (m : Fin 16) (s : State), Sound s ∧ s.get (MBX_STAT_FULL m.val) = 1) ∧
  (∃ (m : Fin 16) (s : State), Sound s ∧ s.get (MBX_STAT_FULL m.val) = 0) ∧
  (∃ (a : Agent) (m : Fin 16) (s : State), Sound s ∧ s.get (MBX_STAT_FULL m.val) = 1 ∧
    (a.init.val = s.get (MBX_CTL_RECEIVER m.val) ∨ a.init.val = 50)) ∧
  (∃ (a : Agent) (m : Fin 16) (s : State), Sound s ∧ s.get (MBX_STAT_FULL m.val) = 1 ∧
    (a.init.val = s.get (MBX_CTL_RECEIVER m.val) ∨ a.init.val = 50) ∧
    s.get (MBX_STAT_SENDER m.val) < 4 ∧ s.get (MBX_STAT_ORPHAN m.val) = 0) ∧
  (∃ (m : Fin 16) (s : State), Sound s ∧ mbxDue m.val s = true) ∧
  (∃ (m : Fin 16) (s : State), Sound s ∧ mbxDue m.val s = true ∧ s.get (MBX_STAT_SENDER m.val) < 4) ∧
  (∃ (c : Fin 4) (p : Nat × Nat) (s : State), Sound s ∧ s.get (CORE_STAT_STATE c.val) = coreRun ∧
    (s.cluster.lockFaults.find? (fun p => p.1 == c.val) = some p)) ∧
  (∃ (c : Fin 4) (mie : Nat) (k : Nat) (s : State), Sound s ∧ s.get (CORE_STAT_STATE c.val) = coreRun ∧
    (s.cluster.lockFaults.all (fun p => p.1 != c.val) = true) ∧ ((coreIrqs c.val s).find? (fun n => bit mie n) = some k)) ∧
  (∃ (k : Fin 64) (lease : Nat) (s : State), Sound s ∧ lease % 65536 ≠ 0 ∧ s.get (LOCK_STAT_HELD k.val) = 0) ∧
  (∃ (a : Agent) (k : Fin 64) (lease : Nat) (s : State), Sound s ∧ lease % 65536 ≠ 0 ∧ lockOwned k.val a.init.val s = true) ∧
  (∃ (a : Agent) (k : Fin 64) (lease : Nat) (s : State), Sound s ∧ lease % 65536 ≠ 0 ∧ s.get (LOCK_STAT_HELD k.val) = 1 ∧
    lockOwned k.val a.init.val s = false) ∧
  (∃ (lease : Nat) (s : State), Sound s ∧ lease % 65536 = 0) ∧
  (∃ (a : Agent) (k : Fin 64) (s : State), Sound s ∧ lockOwned k.val a.init.val s = true) ∧
  (∃ (a : Agent) (k : Fin 64) (s : State), Sound s ∧ lockOwned k.val a.init.val s = false) ∧
  (∃ (k : Fin 64) (s : State), Sound s ∧ s.get (LOCK_STAT_HELD k.val) = 1 ∧ s.get (LOCK_STAT_LEFT k.val) = 0 ∧
    leaseStands k.val s = false) ∧
  (∃ (a : Agent) (c : Fin 4) (s : State), Sound s ∧ wdWriter a c.val = true) ∧
  (∃ (c : Fin 4) (s : State), Sound s ∧ wdCounts c.val s = true ∧
    s.get (CORE_STAT_WD_LEFT c.val) ≤ s.get FRM_STAT_PERIOD_ACT / 1000 + 1 ∧ 2 ≤ c.val ∧ coreHasFirmware c.val s = true ∧
    s.get (DBG_RUN_RHALT c.val) = 0) ∧
  (∃ (c : Fin 4) (s : State), Sound s ∧ wdCounts c.val s = true ∧
    s.get (CORE_STAT_WD_LEFT c.val) ≤ s.get FRM_STAT_PERIOD_ACT / 1000 + 1 ∧ c.val < 2 ∧ almPrograms s = false) ∧
  (∃ (u : Fin 8) (s : State), Sound s ∧ u.val ∈ s.cluster.foldDue) ∧
  (∃ (u : Fin 8) (s : State), Sound s ∧ u.val ∉ s.cluster.foldDue) ∧
  (∃ (u : Fin 8) (s : State), Sound s ∧ u.val ∈ s.cluster.foldDue) :=
  ⟨⟨15, st [], by decide +kernel⟩,
   ⟨15, st [(MBX_STAT_FULL 15, 1)], by decide +kernel⟩,
   ⟨15, st [(MBX_CTL_RECEIVER 15, 3), (MBX_STAT_AGE 15, 3)], by decide +kernel⟩,
   ⟨⟨3, .none⟩, 15, st [(MBX_CTL_RECEIVER 15, 3), (MBX_STAT_FULL 15, 1), (MBX_CTL_GO 15, 1), (MBX_STAT_SENDER 15, 2)], by decide +kernel⟩,
   ⟨⟨3, .none⟩, 15, st [(MBX_CTL_RECEIVER 15, 3), (MBX_STAT_FULL 15, 1), (MBX_CTL_GO 15, 1), (MBX_STAT_SENDER 15, 2)], by decide +kernel⟩,
   ⟨15, st [(MBX_CTL_TMO 15, 3), (MBX_STAT_AGE 15, 3), (MBX_STAT_FULL 15, 1), (MBX_STAT_SENDER 15, 2)], by decide +kernel⟩,
   ⟨15, st [(MBX_CTL_TMO 15, 3), (MBX_STAT_AGE 15, 3), (MBX_STAT_FULL 15, 1), (MBX_STAT_SENDER 15, 2)], by decide +kernel⟩,
   ⟨3, (3, 63), { st [(CORE_STAT_STATE 3, coreRun)] with cluster := { State.reset.cluster with lockFaults := [(3, 63)] } }, by decide +kernel⟩,
   ⟨3, 2 ^ 17 + 2 ^ 18, 18, { st [(CORE_STAT_STATE 3, coreRun), (DB_PEND_PEND 3, 1), (DB_MASK_MASK 3, 0)] with cluster := { State.reset.cluster with tickIrq := [3] } }, by decide +kernel⟩,
   ⟨63, 65535, st [(EPOCH_EPOCH 63, 7)], by decide +kernel⟩,
   ⟨⟨63, .none⟩, 63, 65535, st [(EPOCH_EPOCH 63, 7), (LOCK_STAT_HELD 63, 1), (LOCK_STAT_OWNER 63, 63), (LOCK_STAT_OEPOCH 63, 7)], by decide +kernel⟩,
   ⟨⟨63, .none⟩, 63, 65535, st [(EPOCH_EPOCH 63, 7), (LOCK_STAT_HELD 63, 1), (LOCK_STAT_OWNER 63, 63), (LOCK_STAT_OEPOCH 63, 6)], by decide +kernel⟩,
   ⟨65536, st [], by decide +kernel⟩,
   ⟨⟨63, .none⟩, 63, st [(EPOCH_EPOCH 63, 7), (LOCK_STAT_HELD 63, 1), (LOCK_STAT_OWNER 63, 63), (LOCK_STAT_OEPOCH 63, 7)], by decide +kernel⟩,
   ⟨⟨63, .none⟩, 63, st [], by decide +kernel⟩,
   ⟨63, st [(LOCK_STAT_HELD 63, 1), (LOCK_STAT_OWNER 63, 3)], by decide +kernel⟩,
   ⟨⟨3, .none⟩, 3, st [(WD_CTL_EN 3, 1)], by decide +kernel⟩,
   ⟨3, st [(WD_CTL_EN 3, 1), (PWR_DOM_STAT_STATE 85, 2), (BOOT_STAT_IFW, 1), (EPOCH_EPOCH 3, 255)], by decide +kernel⟩,
   ⟨1, st [(WD_CTL_EN 1, 1), (PWR_DOM_STAT_STATE 83, 2)], by decide +kernel⟩,
   ⟨7, { st [(CRC_CFG_POLY 7, 2)] with cluster := { State.reset.cluster with foldDue := [7] } }, by decide +kernel⟩,
   ⟨7, st [(CRC_CFG_POLY 7, 2)], by decide +kernel⟩,
   ⟨7, { st [(CRC_CFG_POLY 7, 2)] with cluster := { State.reset.cluster with foldDue := [7] } }, by decide +kernel⟩⟩

/-- The hypotheses of `Obligations.SignInCommandsComplete`, clause by clause. -/
theorem witness_SignInCommandsComplete :
  (∃ (addr : Nat) (c : Nat) (s : State), Sound s ∧ mailboxOpen s = true ∧ fieldServed s = true ∧ s.field.sdo = [] ∧
    sessionOf (addr % 65536) s = some c) ∧
  (∃ (addr : Nat) (password : List Byte) (c e : Nat) (s : State), Sound s ∧
    mailboxOpen s = true ∧ fieldServed s = true ∧ s.field.sdo = [] ∧ sessionOf (addr % 65536) s = some c ∧
    (s.get (FI_SESS_ROLE c) < 2 ∨ (domOn 93 s = true ∧ audBusy s = false)) ∧ 8 ≤ password.length ∧ password.length ≤ 64 ∧
    1 ∉ s.sec.locked ∧ lcState s = lcField ∧ selectedEd s = some e) ∧
  (∃ (addr : Nat) (response : List Byte) (c : Nat) (s : State), Sound s ∧
    mailboxOpen s = true ∧ fieldServed s = true ∧ s.field.sdo = [] ∧ sessionOf (addr % 65536) s = some c ∧
    (s.get (FI_SESS_ROLE c) < 2 ∨ (domOn 93 s = true ∧ audBusy s = false)) ∧ response.length = 7220 ∧
    (ofBytes (response.take 1) = 2 ∨ ofBytes (response.take 1) = 3) ∧ ofBytes (response.take 1) ∉ s.sec.locked ∧
    roleMay (roleOf (ofBytes (response.take 1))) s = true ∧ spGet c s.sec.chal ≠ 0) :=
  ⟨⟨5, 7, st [(FI_STAT_AL_STATE, 2), (CORE_STAT_STATE 0, coreRun), (FI_SESS_OPEN 7, 1), (FI_SESS_ADDRESS 7, 5), (FI_SESS_ROLE 7, 3)], by decide +kernel⟩,
   ⟨5, List.replicate 64 3, 7, 6, { st [(FI_STAT_AL_STATE, 2), (CORE_STAT_STATE 0, coreRun), (FI_SESS_OPEN 7, 1), (FI_SESS_ADDRESS 7, 5), (SEC_STAT_EDITION, 6)] with sec := { State.reset.sec with lc := 3 } }, by decide +kernel⟩,
   ⟨5, 3 :: List.replicate 7219 3, 7, { st [(FI_STAT_AL_STATE, 2), (CORE_STAT_STATE 0, coreRun), (FI_SESS_OPEN 7, 1), (FI_SESS_ADDRESS 7, 5), (SEC_STAT_EDITION, 6)] with sec := { State.reset.sec with lc := 3, chal := [(7, 99)] } }, by decide +kernel⟩⟩

/-- The hypotheses of `Obligations.SecurityCommandsComplete`, clause by clause. -/
theorem witness_SecurityCommandsComplete :
  (∃ (a : Agent) (target : Nat) (s : State), Sound s ∧ a.core01 = true ∧ s.sec.alm = none ∧ s.get ALM_CTL_SRC % 64 = 0 ∧
    lcAllowed a.role.code (target % 8) s = true ∧ sluRoom clsAlmanac 30 s = true) ∧
  (∃ (a : Agent) (target : Nat) (s : State), Sound s ∧ a.init = 49 ∧ a.im = true ∧ domOn 93 s = true ∧ s.sec.alm = none ∧
    lcAllowed a.role.code target s = true ∧ sluRoom clsAlmanac 30 s = true) ∧
  (∃ (o : AlmOp) (s : State), Sound s ∧ s.sec.alm = some o ∧ o.kind = 2 ∧ o.begun = true) ∧
  (∃ (a : Agent) (value : Nat) (s : State), Sound s ∧ a.init = 49 ∧ a.role = .installer ∧ value = 1 ∧
    domOn 93 s = true ∧ audBusy s = false) ∧
  (∃ (src : Fin 3) (s : State), Sound s ∧ s.power.vin ≠ .off ∧ lcState s ≠ lcBlank ∧
    bit (s.get SEC_TAMPER_SOURCE) src.val = false) ∧
  (∃ (src : Fin 3) (k : Fin 8) (s : State), Sound s ∧ s.power.vin ≠ .off ∧ lcState s ≠ lcBlank ∧
    bit (s.get SEC_TAMPER_SOURCE) src.val = false ∧ 2 ≤ s.get (FI_SESS_ROLE k.val) ∧ s.get (FI_SESS_OPEN k.val) = 1) ∧
  (∃ (a : Agent) (bytes : List Byte) (s : State), Sound s ∧ a.core01 = true ∧ domOn 93 s = true ∧ bytes.length = 4096) ∧
  (∃ (a : Agent) (bytes : List Byte) (s : State), Sound s ∧ a.init = 49 ∧ a.im = true ∧ domOn 93 s = true ∧ audBusy s = false ∧
    bytes.length = 4096) ∧
  (∃ (a : Agent) (value : Nat) (b : List Byte) (s : State), Sound s ∧ a.core01 = true ∧ s.sec.alm = none ∧
    ALM_CTL_OP.of value = 0 ∧ ALM_CTL_GO.of value = 1 ∧ ALM_CTL_SRC.of value % 64 = 0 ∧ ALM_CTL_SRC.of value + 4096 ≤ 524288 ∧
    domOn 93 s = true ∧ bank14Read (ALM_CTL_SRC.of value) 4096 s = some b ∧ edCheck a.role.code b s = 0 ∧
    sluRoom clsAlmanac 30 s = true) ∧
  (∃ (a : Agent) (value : Nat) (b : List Byte) (s : State), Sound s ∧ a.core01 = true ∧ s.sec.alm = none ∧
    ALM_CTL_OP.of value = 0 ∧ ALM_CTL_GO.of value = 1 ∧ ALM_CTL_SRC.of value % 64 = 0 ∧ ALM_CTL_SRC.of value + 4096 ≤ 524288 ∧
    domOn 93 s = true ∧ bank14Read (ALM_CTL_SRC.of value) 4096 s = some b ∧ edCheck a.role.code b s ≠ 0) ∧
  (∃ (o : AlmOp) (s : State), Sound s ∧ s.sec.alm = some o ∧ o.kind = 0 ∧ o.begun = true) ∧
  (∃ (o : AlmOp) (s : State), Sound s ∧ s.sec.alm = some o ∧ o.kind = 0 ∧ o.begun = true) ∧
  (∃ (a : Agent) (bytes : List Byte) (s : State), Sound s ∧ a.core01 = true ∧ domOn 93 s = true ∧ bytes.length = 10 ∧
    1 ≤ stg 0 1 bytes ∧ stg 0 1 bytes ≤ 6 ∧ s.sec.alm = none ∧ s.sec.ledgerUsed < 256 ∧ sluRoom clsAlmanac 30 s = true) ∧
  (∃ (o : AlmOp) (s : State), Sound s ∧ s.sec.alm = some o ∧ o.kind = 1 ∧ o.begun = true) ∧
  (∃ (o : AlmOp) (s : State), Sound s ∧ s.sec.alm = some o ∧ o.kind = 1 ∧ o.begun = true) ∧
  (∃ (a : Agent) (nonce : List Byte) (s : State), Sound s ∧ a.init = 49 ∧ a.role ≠ .none ∧ nonce.length = 64 ∧
    lcState s ≠ lcScrapped ∧ s.get ATT_CTL_GO = 0 ∧ domOn 93 s = true) ∧
  (∃ (a : Agent) (nonce : List Byte) (s : State), Sound s ∧ a.core01 = true ∧ nonce.length = 64 ∧ lcState s ≠ lcScrapped ∧
    s.get ATT_CTL_GO = 0 ∧ domOn 93 s = true ∧ s.get ATT_CTL_DST % 64 = 0 ∧ s.get ATT_CTL_DST + 6163 ≤ 524288) ∧
  (∃ (n : List Byte) (v : Bool) (q : Option Nat) (s : State), Sound s ∧ s.sec.att = some (n, v, q) ∧ domOn 93 s = true) ∧
  (∃ (n : List Byte) (q : Option Nat) (s : State), Sound s ∧ s.sec.att = some (n, true, q) ∧ domOn 93 s = true) ∧
  (∃ (a : Agent) (s : State), Sound s ∧ a.core01 = true ∧ audBusy s = false ∧ s.sec.restart = none) :=
  ⟨⟨⟨0, .maker⟩, 4, { st [] with sec := { State.reset.sec with lc := 3 } }, by decide +kernel⟩,
   ⟨⟨49, .installer⟩, 4, { st [(PWR_DOM_STAT_STATE 93, 2)] with sec := { State.reset.sec with lc := 3 } }, by decide +kernel⟩,
   ⟨⟨2, 3, 0, 0, none, [], 4, true, [], false⟩, { st [(ALM_STAT_BUSY, 1), (PWR_DOM_STAT_STATE 93, 2)] with sec := { State.reset.sec with lc := 3, alm := some ⟨2, 3, 0, 0, none, [], 4, true, [], false⟩ } }, by decide +kernel⟩,
   ⟨⟨49, .installer⟩, 1, st [(PWR_DOM_STAT_STATE 93, 2)], by decide +kernel⟩,
   ⟨2, { st [(FI_SESS_OPEN 7, 1), (FI_SESS_ROLE 7, 3)] with sec := { State.reset.sec with lc := 3 }, enc := { State.reset.enc with ids := [(3, 1)], dataKey := [(3, 7)] } }, by decide +kernel⟩,
   ⟨2, 7, { st [(FI_SESS_OPEN 7, 1), (FI_SESS_ROLE 7, 3)] with sec := { State.reset.sec with lc := 3 }, enc := { State.reset.enc with ids := [(3, 1)], dataKey := [(3, 7)] } }, by decide +kernel⟩,
   ⟨⟨0, .none⟩, List.replicate 4096 9, st [(PWR_DOM_STAT_STATE 93, 2)], by decide +kernel⟩,
   ⟨⟨49, .maker⟩, List.replicate 4096 9, st [(PWR_DOM_STAT_STATE 93, 2)], by decide +kernel⟩,
   ⟨⟨0, .maker⟩, 2 ^ 63, stagedBytes, stagedEdition,
    by decide +kernel, by decide +kernel, by decide +kernel, by decide +kernel,
    by decide +kernel, by decide +kernel, by decide +kernel, by decide +kernel,
    (by rw [show ALM_CTL_SRC.of (2 ^ 63) = 0 by decide +kernel]; exact (Option.some_get stagedEdition_isSome).symm), stagedBytes_check, by decide +kernel⟩,
   ⟨⟨0, .maker⟩, 2 ^ 63, List.replicate 4096 0, { st [(PWR_DOM_STAT_STATE 93, 2)] with cluster := { State.reset.cluster with base := [] } }, by decide +kernel⟩,
   ⟨⟨0, 3, 0, 0, none, List.replicate 4096 7, 0, true, List.replicate 64 1, false⟩, { st [(ALM_STAT_BUSY, 1), (PWR_DOM_STAT_STATE 93, 2)] with sec := { State.reset.sec with used := 7, alm := some ⟨0, 3, 0, 0, none, List.replicate 4096 7, 0, true, List.replicate 64 1, false⟩ } }, by decide +kernel⟩,
   ⟨⟨0, 3, 0, 0, none, List.replicate 4096 7, 0, true, List.replicate 64 1, false⟩, { st [(ALM_STAT_BUSY, 1), (PWR_DOM_STAT_STATE 93, 2)] with sec := { State.reset.sec with used := 7, alm := some ⟨0, 3, 0, 0, none, List.replicate 4096 7, 0, true, List.replicate 64 1, false⟩ } }, by decide +kernel⟩,
   ⟨⟨0, .maker⟩, [6, 1, 2, 3, 4, 5, 6, 7, 8, 9], { st [(PWR_DOM_STAT_STATE 93, 2)] with sec := { State.reset.sec with ledgerUsed := 255 } }, by decide +kernel⟩,
   ⟨⟨1, 3, 0, 0, none, [6, 1, 2, 3, 4, 5, 6, 7, 8, 9], 0, true, [], false⟩, { st [(ALM_STAT_BUSY, 1), (FRM_COUNT_COUNT, 2 ^ 47)] with sec := { State.reset.sec with ledgerUsed := 255, alm := some ⟨1, 3, 0, 0, none, [6, 1, 2, 3, 4, 5, 6, 7, 8, 9], 0, true, [], false⟩ } }, by decide +kernel⟩,
   ⟨⟨1, 3, 0, 0, none, [6, 1, 2, 3, 4, 5, 6, 7, 8, 9], 0, true, [], false⟩, { st [(ALM_STAT_BUSY, 1), (FRM_COUNT_COUNT, 2 ^ 47)] with sec := { State.reset.sec with ledgerUsed := 255, alm := some ⟨1, 3, 0, 0, none, [6, 1, 2, 3, 4, 5, 6, 7, 8, 9], 0, true, [], false⟩ } }, by decide +kernel⟩,
   ⟨⟨49, .operator⟩, List.replicate 64 9, st [(PWR_DOM_STAT_STATE 93, 2)], by decide +kernel⟩,
   ⟨⟨1, .none⟩, List.replicate 64 9, st [(PWR_DOM_STAT_STATE 93, 2), (ATT_CTL_DST, 518080)], by decide +kernel⟩,
   ⟨List.replicate 64 9, true, some 3, { st [(PWR_DOM_STAT_STATE 93, 2), (ATT_CTL_GO, 1)] with sec := { State.reset.sec with att := some (List.replicate 64 9, true, some 3) } }, by decide +kernel⟩,
   ⟨List.replicate 64 9, some 3, { st [(PWR_DOM_STAT_STATE 93, 2), (ATT_CTL_GO, 1)] with sec := { State.reset.sec with att := some (List.replicate 64 9, true, some 3) } }, by decide +kernel⟩,
   ⟨⟨1, .none⟩, { st [(PWR_DOM_STAT_STATE 93, 2), (AUD_SEQ_SEQ, 2 ^ 64 - 1)] with sec := { State.reset.sec with restart := none } }, by decide +kernel⟩⟩

/-- The hypotheses of `Obligations.FieldCommandsComplete`, clause by clause. -/
theorem witness_FieldCommandsComplete :
  (∃ (target : Nat) (mbxOk sync0Ok : Bool) (s : State), Sound s ∧
    (target ≠ 2 ∨ s.get FI_STAT_AL_STATE ≠ 1 ∨ s.get BOOT_STAT_READY = 1) ∧ target ≠ s.get FI_STAT_AL_STATE ∧
    alCheck target mbxOk sync0Ok s = 0) ∧
  (∃ (target : Nat) (mbxOk sync0Ok : Bool) (s : State), Sound s ∧
    (target ≠ 2 ∨ s.get FI_STAT_AL_STATE ≠ 1 ∨ s.get BOOT_STAT_READY = 1) ∧ alCheck target mbxOk sync0Ok s ≠ 0) ∧
  (∃ (s : State), Sound s ∧ s.get FI_STAT_AL_STATE = 4) ∧
  (∃ (s : State), Sound s ∧ s.get FI_STAT_AL_STATE = 1 ∧ s.get BOOT_STAT_READY = 1) ∧
  (∃ (s : State), Sound s ∧ s.get FI_STAT_AL_STATE = 1 ∧ s.get BOOT_STAT_READY = 0) ∧
  (∃ (s : State), Sound s ∧ s.get FI_STAT_AL_STATE = 8) ∧
  (∃ (addr : Nat) (c : Nat) (s : State), Sound s ∧ mailboxOpen s = true ∧ fieldServed s = false ∧
    sessionOf (addr % 65536) s = some c ∧ sdoHeld s < 16) ∧
  (∃ (addr : Nat) (c : Nat) (s : State), Sound s ∧ mailboxOpen s = true ∧ sessionOf (addr % 65536) s = some c ∧ 16 ≤ sdoHeld s) ∧
  (∃ (addr idx sub : Nat) (c k m : Nat) (d : ObjDesc) (s : State), Sound s ∧
    mailboxOpen s = true ∧ fieldServed s = true ∧ s.field.sdo = [] ∧ sessionOf (addr % 65536) s = some c ∧
    sdoFind idx sub = .obj d k m ∧ mayRead (roleOf (s.get (FI_SESS_ROLE c))) d idx sub = true) ∧
  (∃ (addr idx sub : Nat) (c x : Nat) (s : State), Sound s ∧ mailboxOpen s = true ∧ fieldServed s = true ∧ s.field.sdo = [] ∧
    sessionOf (addr % 65536) s = some c ∧ sdoFind idx sub = .refuse x) ∧
  (∃ (addr idx sub : Nat) (c k m : Nat) (d : ObjDesc) (s : State), Sound s ∧
    mailboxOpen s = true ∧ fieldServed s = true ∧ s.field.sdo = [] ∧ sessionOf (addr % 65536) s = some c ∧
    sdoFind idx sub = .obj d k m ∧ d.acc.writable = true ∧ mayWrite (roleOf (s.get (FI_SESS_ROLE c))) d idx sub = false) ∧
  (∃ (addr idx sub : Nat) (b : List Byte) (c k m : Nat) (d : ObjDesc) (s : State), Sound s ∧
    mailboxOpen s = true ∧ fieldServed s = true ∧ s.field.sdo = [] ∧ sessionOf (addr % 65536) s = some c ∧
    sdoFind idx sub = .obj d k m ∧ isMapping idx = false ∧ isAssign idx = false ∧ d.acc.writable = true ∧
    mayWrite (roleOf (s.get (FI_SESS_ROLE c))) d idx sub = true ∧ lengthOk d b.length = true ∧ answersLate d = false) ∧
  (∃ (addr : Nat) (c : Nat) (s : State), Sound s ∧ mailboxOpen s = true ∧ fieldServed s = true ∧ s.field.sdo = [] ∧
    sessionOf (addr % 65536) s = some c ∧ (s.get (FI_SESS_ROLE c) < 2 ∨ (domOn 93 s = true ∧ audBusy s = false))) ∧
  (∃ (addr : Nat) (c : Nat) (s : State), Sound s ∧ sessionOf addr s = some c) ∧
  (∃ (a : Agent) (value : Nat) (s : State), Sound s ∧ a.init = 49 ∧ a.im = true ∧ value = 0x64616F6C ∧
    domOn 93 s = true ∧ audBusy s = false) ∧
  (∃ (image : List Byte) (s : State), Sound s ∧ (s.get FI_STAT_AL_STATE = 4 ∨ s.get FI_STAT_AL_STATE = 8) ∧
    image.length = ceilDiv (entryBits (assigned 0x1C12 s)) 8) ∧
  (∃ (k : Nat) (s : State), Sound s ∧ dutySlot 0 anySlot s = some k ∧ s.clock.processDue = true ∧
    (s.get FI_STAT_AL_STATE = 4 ∨ s.get FI_STAT_AL_STATE = 8)) ∧
  (∃ (k_ : Nat) (b : List Byte) (e k m : Nat) (d : ObjDesc) (s : State), Sound s ∧ dutySlot 0 (rxSlot s) s = some k_ ∧
    s.get FI_STAT_AL_STATE = 8 ∧ s.field.rx = none ∧ s.field.rxTaken = false ∧ s.field.sm2 = some b ∧ assigned 0x1C12 s = [e] ∧
    e / 65536 ≠ 0 ∧ findObj (e / 65536) (e / 256 % 256) = some (d, k, m) ∧
    spGet 0 s.field.rxLast ≠ bits (ofBytes b) 0 (e % 256) + 1 ∧ d.acc.writes (roleOf s.field.mapRole) = true) ∧
  (∃ (s : State), Sound s ∧ dutySlot 0 (rxSlot s) s = none) :=
  ⟨⟨2, true, true, st [(BOOT_STAT_READY, 1)], by decide +kernel⟩,
   ⟨8, true, true, st [(FI_STAT_AL_STATE, 4)], by decide +kernel⟩,
   ⟨st [(FI_STAT_AL_STATE, 4)], by decide +kernel⟩,
   ⟨st [(BOOT_STAT_READY, 1)], by decide +kernel⟩,
   ⟨st [], by decide +kernel⟩,
   ⟨{ st [(FI_STAT_AL_STATE, 8)] with field := { State.reset.field with sm2Seen := true } }, by decide +kernel⟩,
   ⟨5, 7, st [(FI_STAT_AL_STATE, 2), (FI_SESS_OPEN 7, 1), (FI_SESS_ADDRESS 7, 5)], by decide +kernel⟩,
   ⟨5, 7, { st [(FI_STAT_AL_STATE, 2), (FI_SESS_OPEN 7, 1), (FI_SESS_ADDRESS 7, 5)] with field := { State.reset.field with sdo := List.replicate 16 ⟨5, .upload 0x1000 0, true⟩ } }, by decide +kernel⟩,
   ⟨5, 0x2000, 1, 7, 0, 0, (objAt 0x2000 1), st [(FI_STAT_AL_STATE, 2), (CORE_STAT_STATE 0, coreRun), (FI_SESS_OPEN 7, 1), (FI_SESS_ADDRESS 7, 5), (FI_SESS_ROLE 7, 1)], by decide +kernel⟩,
   ⟨5, 0x7000, 1, 7, 0x06020000, st [(FI_STAT_AL_STATE, 2), (CORE_STAT_STATE 0, coreRun), (FI_SESS_OPEN 7, 1), (FI_SESS_ADDRESS 7, 5)], by decide +kernel⟩,
   ⟨5, 0x1011, 1, 7, 0, 0, (objAt 0x1011 1), st [(FI_STAT_AL_STATE, 2), (CORE_STAT_STATE 0, coreRun), (FI_SESS_OPEN 7, 1), (FI_SESS_ADDRESS 7, 5)], by decide +kernel⟩,
   ⟨5, 0x1011, 1, toBytes 4 0x64616F6C, 7, 0, 0, (objAt 0x1011 1), st [(FI_STAT_AL_STATE, 2), (CORE_STAT_STATE 0, coreRun), (FI_SESS_OPEN 7, 1), (FI_SESS_ADDRESS 7, 5), (FI_SESS_ROLE 7, 2), (PWR_DOM_STAT_STATE 93, 2)], by decide +kernel⟩,
   ⟨5, 7, st [(FI_STAT_AL_STATE, 2), (CORE_STAT_STATE 0, coreRun), (FI_SESS_OPEN 7, 1), (FI_SESS_ADDRESS 7, 5), (FI_SESS_ROLE 7, 1)], by decide +kernel⟩,
   ⟨65541, 7, st [(FI_SESS_OPEN 7, 1), (FI_SESS_ADDRESS 7, 5), (FI_SESS_ROLE 7, 1)], by decide +kernel⟩,
   ⟨⟨49, .maker⟩, 0x64616F6C, { st [(PWR_DOM_STAT_STATE 93, 2)] with field := { State.reset.field with saved := [(3, [1])] } }, by decide +kernel⟩,
   ⟨[], st [(FI_STAT_AL_STATE, 4)], by decide +kernel⟩,
   ⟨1, { st [(FI_STAT_AL_STATE, 4)] with clock := { State.reset.clock with processDue := true } }, by decide +kernel⟩,
   ⟨56, toBytes 8 5, 0x36000740, 0, 0, (objAt 0x3600 7), { st [(FI_STAT_AL_STATE, 8), (PWR_DOM_STAT_STATE 66, 2)] with field := { State.reset.field with mapRole := 1, sm2 := some (toBytes 8 5), objs := [(0x160000, 1), (0x160001, 0x36000740), (0x1C1200, 1), (0x1C1201, 0x1600)] } }, by decide +kernel⟩,
   ⟨{ st [(FI_STAT_AL_STATE, 8)] with clock := { State.reset.clock with slot := 64 } }, by decide +kernel⟩⟩

/-- The hypotheses of `Obligations.FileAccessCommandsComplete`, clause by clause. -/
theorem witness_FileAccessCommandsComplete :
  (∃ (addr : Nat) (c : Nat) (s : State), Sound s ∧ mailboxOpen s = true ∧ fieldServed s = true ∧ s.field.foe = [] ∧
    sessionOf (addr % 65536) s = some c ∧ (s.get (FI_SESS_ROLE c) = 2 ∨ s.get (FI_SESS_ROLE c) = 3)) ∧
  (∃ (addr : Nat) (file : FoeFile) (c : Nat) (s : State), Sound s ∧
    mailboxOpen s = true ∧ fieldServed s = true ∧ s.field.foe = [] ∧ sessionOf (addr % 65536) s = some c ∧ file ≠ .other ∧
    foeRole file true (roleOf (s.get (FI_SESS_ROLE c))) = false) ∧
  (∃ (addr at_ : Nat) (data : List Byte) (c : Nat) (s : State), Sound s ∧
    mailboxOpen s = true ∧ fieldServed s = true ∧ s.field.foe = [] ∧ sessionOf (addr % 65536) s = some c ∧
    (s.get (FI_SESS_ROLE c) = 2 ∨ s.get (FI_SESS_ROLE c) = 3) ∧ at_ % 64 = 0 ∧ at_ + 64 ≤ hbmSize ∧ data.length = 64 ∧
    (nocReach 49 at_ 1 3 s).1 = none ∧ hbmDenies 49 at_ 64 true = false ∧ pairRefusesAt at_ 1 s = none ∧
    encRegion at_ s = none ∧ hbmFlipAt (at_ / 64) s = false) ∧
  (∃ (addr at_ c : Nat) (s : State), Sound s ∧ mailboxOpen s = true ∧ fieldServed s = true ∧ s.field.foe = [] ∧
    sessionOf (addr % 65536) s = some c ∧ 1 ≤ s.get (FI_SESS_ROLE c) ∧ s.get (FI_SESS_ROLE c) ≤ 3 ∧
    at_ % 64 = 0 ∧ at_ + 64 ≤ hbmSize ∧ (nocReach 49 at_ 1 1 s).1 = none ∧ hbmDenies 49 at_ 64 false = false ∧
    pairRefusesAt at_ 1 s = none ∧ encRegion at_ s = none ∧ spGet (at_ / 64) s.hbm.dbl = 0) ∧
  (∃ (addr c : Nat) (s : State), Sound s ∧ mailboxOpen s = true ∧ fieldServed s = true ∧ s.field.foe = [] ∧
    sessionOf (addr % 65536) s = some c ∧ 1 ≤ s.get (FI_SESS_ROLE c) ∧ s.get (FI_SESS_ROLE c) ≤ 3) ∧
  (∃ (password : Nat) (s : State), Sound s ∧ inBoot s = true ∧ password = 0) :=
  ⟨⟨5, 7, { st [(FI_STAT_AL_STATE, 2), (CORE_STAT_STATE 0, coreRun), (FI_SESS_OPEN 7, 1), (FI_SESS_ADDRESS 7, 5), (FI_SESS_ROLE 7, 3)] with flash := [(0x1C000000, 3)] }, by decide +kernel⟩,
   ⟨5, .events, 7, st [(FI_STAT_AL_STATE, 2), (CORE_STAT_STATE 0, coreRun), (FI_SESS_OPEN 7, 1), (FI_SESS_ADDRESS 7, 5), (FI_SESS_ROLE 7, 3)], by decide +kernel⟩,
   ⟨5, 64, List.replicate 64 7, 7, st [(FI_STAT_AL_STATE, 2), (CORE_STAT_STATE 0, coreRun), (FI_SESS_OPEN 7, 1), (FI_SESS_ADDRESS 7, 5), (FI_SESS_ROLE 7, 3), (HBM_STAT_STATE, hbmReady)], by
    refine ⟨?_, ?_, ?_, ?_, ?_, ?_, ?_, ?_, ?_⟩ <;> first | (rw [nocReach_clear _ _ _ _ _ (by decide +kernel)] <;> first | rfl | decide +kernel) | decide +kernel⟩,
   ⟨5, 64, 7, { st [(FI_STAT_AL_STATE, 2), (CORE_STAT_STATE 0, coreRun), (FI_SESS_OPEN 7, 1), (FI_SESS_ADDRESS 7, 5), (FI_SESS_ROLE 7, 1), (HBM_STAT_STATE, hbmReady)] with hbm := { State.reset.hbm with mem := [(127, 5)], sgl := [(1, 1)] } }, by
    refine ⟨?_, ?_, ?_, ?_, ?_, ?_, ?_, ?_, ?_⟩ <;> first | (rw [nocReach_clear _ _ _ _ _ (by decide +kernel)] <;> first | rfl | decide +kernel) | decide +kernel⟩,
   ⟨5, 7, st [(FI_STAT_AL_STATE, 2), (CORE_STAT_STATE 0, coreRun), (FI_SESS_OPEN 7, 1), (FI_SESS_ADDRESS 7, 5), (FI_SESS_ROLE 7, 1)], by decide +kernel⟩,
   ⟨0, { st [(FI_STAT_AL_STATE, 3)] with flash := [(0x01100000, 3)] }, by decide +kernel⟩⟩

/-- The hypotheses of `Obligations.DebugCommandsComplete`, clause by clause. -/
theorem witness_DebugCommandsComplete :
  (∃ (a : Agent) (s : State), Sound s ∧ a.init = 50 ∧ s.get DBG_AUTH_CTL_BUSY = 0) ∧
  (∃ (a : Agent) (len : Nat) (s : State), Sound s ∧ a.init = 50 ∧ s.get DBG_AUTH_CTL_BUSY = 0 ∧ 8 ≤ len ∧ len ≤ 64) ∧
  (∃ (a : Agent) (len : Nat) (s : State), Sound s ∧ a.init = 50 ∧ s.get DBG_AUTH_CTL_BUSY = 0 ∧ (len < 8 ∨ 64 < len)) ∧
  (∃ (a : Agent) (s : State), Sound s ∧ a.init = 50 ∧ s.get DBG_AUTH_CTL_BUSY = 0) ∧
  (∃ (b : List Byte) (e : Nat) (s : State), Sound s ∧ s.dbg.auth = some (2, b) ∧ 8 ≤ b.length ∧ b.length ≤ 64 ∧ 1 ∉ s.sec.locked ∧
    lcState s = lcField ∧ selectedEd s = some e) ∧
  (∃ (a : Agent) (s : State), Sound s ∧ a.init = 50 ∧ s.get DBG_AUTH_CTL_BUSY = 0 ∧ s.get DBG_AUTH_CTL_ROLE ≠ 0) ∧
  (∃ (a : Agent) (s : State), Sound s ∧ a.init = 50 ∧ s.get DBG_AUTH_CTL_BUSY = 0 ∧ s.get DBG_AUTH_CTL_ROLE = 0) ∧
  (∃ (s : State), Sound s ∧ s.get DBG_AUTH_CTL_ROLE ≠ 0) ∧
  (∃ (a : Agent) (k : Fin 36) (s : State), Sound s ∧ dapCore a k.val s = true ∧ k.val < 4 ∧ s.get (DBG_RUN_HALTED k.val) = 0 ∧
    domOn (82 + k.val) s = true) ∧
  (∃ (a : Agent) (k : Fin 36) (s : State), Sound s ∧ dapCore a k.val s = true ∧ 4 ≤ k.val ∧ s.get (DBG_RUN_HALTED k.val) = 0 ∧
    domOn (scDom (k.val - 4) s) s = true) ∧
  (∃ (a : Agent) (k : Fin 36) (s : State), Sound s ∧ dapCore a k.val s = true ∧ 4 ≤ k.val ∧ s.get (DBG_RUN_HALTED k.val) = 0 ∧
    domOn (scDom (k.val - 4) s) s = true ∧ scIdle (k.val - 4) s = true) ∧
  (∃ (a : Agent) (k : Fin 36) (s : State), Sound s ∧ dapCore a k.val s = true ∧ s.get (DBG_RUN_HALTED k.val) = 0 ∧
    domOn (runDom k.val s) s = false) ∧
  (∃ (a : Agent) (k : Fin 36) (s : State), Sound s ∧ dapCore a k.val s = true ∧ s.get (DBG_RUN_HALTED k.val) = 1) ∧
  (∃ (a : Agent) (k : Fin 36) (s : State), Sound s ∧ dapCore a k.val s = true ∧ s.get (DBG_RUN_HALTED k.val) = 1 ∧ k.val < 4) ∧
  (∃ (a : Agent) (k : Fin 36) (s : State), Sound s ∧ dapCore a k.val s = true ∧ s.get (DBG_RUN_HALTED k.val) = 1 ∧ k.val < 4) ∧
  (∃ (a : Agent) (k : Fin 36) (s : State), Sound s ∧ dapCore a k.val s = true ∧ s.get (DBG_RUN_HALTED k.val) = 1 ∧ 4 ≤ k.val) ∧
  (∃ (a : Agent) (mask : Nat) (s : State), Sound s ∧ (dapIM a s = true ∨ a.core01 = true ∨ a.fieldIM = true) ∧ mask < 65536) ∧
  (∃ (a : Agent) (mask : Nat) (s : State), Sound s ∧ (dapIM a s = true ∨ a.core01 = true ∨ a.fieldIM = true) ∧ mask < 65536 ∧
    mask ≠ s.get DBG_FREEZE_MASK) :=
  ⟨⟨⟨50, .none⟩, st [(DBG_AUTH_CTL_LEN, 77)], by decide +kernel⟩,
   ⟨⟨50, .none⟩, 64, st [(DBG_AUTH_BUF_WORD 7, 9)], by decide +kernel⟩,
   ⟨⟨50, .none⟩, 65, st [], by decide +kernel⟩,
   ⟨⟨50, .none⟩, st [(DBG_AUTH_CTL_LEN, 77)], by decide +kernel⟩,
   ⟨List.replicate 64 3, 6, { st [(SEC_STAT_EDITION, 6), (DBG_AUTH_CTL_BUSY, 1)] with sec := { State.reset.sec with lc := 3 }, dbg := { State.reset.dbg with auth := some (2, List.replicate 64 3) } }, by decide +kernel⟩,
   ⟨⟨50, .none⟩, st [(DBG_AUTH_CTL_ROLE, 3), (DBG_RUN_HALTED 35, 1)], by decide +kernel⟩,
   ⟨⟨50, .none⟩, st [], by decide +kernel⟩,
   ⟨st [(DBG_AUTH_CTL_ROLE, 3), (DBG_RUN_HALTED 35, 1), (DBG_RUN_HALTED 3, 1), (DBG_CTL_SIDE, 1)], by decide +kernel⟩,
   ⟨⟨50, .none⟩, 3, st [(DBG_AUTH_CTL_ROLE, 2), (PWR_DOM_STAT_STATE 85, 2)], by decide +kernel⟩,
   ⟨⟨50, .none⟩, 35, st [(DBG_AUTH_CTL_ROLE, 2), (PWR_DOM_STAT_STATE (physDom 31), 2), (SC_STAT_STATE 31, scRunning)], by decide +kernel⟩,
   ⟨⟨50, .none⟩, 35, st [(DBG_AUTH_CTL_ROLE, 2), (PWR_DOM_STAT_STATE (physDom 31), 2)], by decide +kernel⟩,
   ⟨⟨50, .none⟩, 35, st [(DBG_AUTH_CTL_ROLE, 2)], by decide +kernel⟩,
   ⟨⟨50, .none⟩, 3, st [(DBG_AUTH_CTL_ROLE, 2), (DBG_RUN_HALTED 3, 1), (CORE_STAT_STATE 3, coreHalt), (WD_CTL_EN 3, 1)], by decide +kernel⟩,
   ⟨⟨50, .none⟩, 3, st [(DBG_AUTH_CTL_ROLE, 2), (DBG_RUN_HALTED 3, 1), (CORE_STAT_STATE 3, coreHalt), (WD_CTL_EN 3, 1)], by decide +kernel⟩,
   ⟨⟨50, .none⟩, 3, st [(DBG_AUTH_CTL_ROLE, 2), (DBG_RUN_HALTED 3, 1), (CORE_STAT_STATE 3, coreHalt)], by decide +kernel⟩,
   ⟨⟨50, .none⟩, 35, st [(DBG_AUTH_CTL_ROLE, 2), (DBG_RUN_HALTED 35, 1), (SC_STAT_STATE 31, scRunning)], by decide +kernel⟩,
   ⟨⟨49, .installer⟩, 0x8001, st [(SEQ_STAT_PAUSE_SRC 7, 7)], by decide +kernel⟩,
   ⟨⟨49, .installer⟩, 0x8001, st [(SEQ_STAT_PAUSE_SRC 7, 7)], by decide +kernel⟩⟩

/-- The hypotheses of `Obligations.TraceCommandsComplete`, clause by clause. -/
theorem witness_TraceCommandsComplete :
  (∃ (a : Agent) (value : Nat) (s : State), Sound s ∧ (a.core01 = true ∨ dapIM a s = true) ∧ s.get DBG_TRC_CTL_EN = 0 ∧
    DBG_TRC_CTL_EN.of value = 1 ∧ domState 95 s = 0 ∧ s.profile.quiet.isSome = true) ∧
  (∃ (a : Agent) (value : Nat) (s : State), Sound s ∧ (a.core01 = true ∨ dapIM a s = true) ∧ s.get DBG_TRC_CTL_EN = 1 ∧
    DBG_TRC_CTL_EN.of value = 0 ∧ s.trace.fifo ≠ []) ∧
  (∃ (p : TracePacket) (l : List TracePacket) (s : State), Sound s ∧ s.trace.due = p :: l ∧ domRuns 95 s = true ∧
    s.trace.lostSince = 0 ∧ s.trace.fifo.length + (packetBytes p).length ≤ 4096) ∧
  (∃ (p : TracePacket) (l : List TracePacket) (s : State), Sound s ∧ s.trace.due = p :: l ∧ domState 95 s ≠ 1 ∧
    s.trace.lostSince = 0 ∧ (domRuns 95 s = false ∨ 4096 < s.trace.fifo.length + (packetBytes p).length)) ∧
  (∃ (a : Agent) (c : Fin 4) (p : Fin 32) (width value : Nat) (s : State), Sound s ∧ a.init.val = c.val ∧
    (width = 8 ∨ width = 16 ∨ width = 32 ∨ width = 64) ∧ coreHalted c.val s = false ∧ domOn 95 s = true ∧
    s.get DBG_TRC_CTL_STIM = 1 ∧ s.trace.due = [] ∧ s.trace.lostSince = 0 ∧ s.trace.stalled = [] ∧
    s.trace.fifo.length + (packetBytes (.stim c.val p.val width (value % 2 ^ width))).length ≤ 4096) ∧
  (∃ (a : Agent) (c : Fin 4) (width : Nat) (s : State), Sound s ∧ a.init.val = c.val ∧
    (width = 8 ∨ width = 16 ∨ width = 32 ∨ width = 64) ∧ coreHalted c.val s = false ∧
    (domOn 95 s = false ∨ s.get DBG_TRC_CTL_STIM = 0)) ∧
  (∃ (s : State), Sound s ∧ domRuns 95 s = true ∧ s.trace.draining = false ∧ s.trace.lostSince = 0 ∧ s.trace.stalled = []) :=
  ⟨⟨⟨0, .none⟩, 3 + 2 ^ 33, { st [] with profile := { State.reset.profile with quiet := some ⟨[], []⟩ } }, by decide +kernel⟩,
   ⟨⟨0, .none⟩, 2, { st [(DBG_TRC_CTL_EN, 1)] with trace := { State.reset.trace with fifo := [1, 2] } }, by decide +kernel⟩,
   ⟨.tick (2 ^ 48 - 1), [.event 7 8], { st [(PWR_DOM_STAT_STATE 95, 2)] with trace := { State.reset.trace with due := [.tick (2 ^ 48 - 1), .event 7 8] } }, by decide +kernel⟩,
   ⟨.tick (2 ^ 48 - 1), [.event 7 8], { st [] with trace := { State.reset.trace with due := [.tick (2 ^ 48 - 1), .event 7 8] } }, by decide +kernel⟩,
   ⟨⟨3, .none⟩, 3, 31, 64, 2 ^ 64 + 7, st [(PWR_DOM_STAT_STATE 95, 2), (DBG_TRC_CTL_STIM, 1), (DBG_TRC_CTL_STALL, 1)], by decide +kernel⟩,
   ⟨⟨3, .none⟩, 3, 64, st [(DBG_TRC_CTL_STIM, 1)], by decide +kernel⟩,
   ⟨{ st [(PWR_DOM_STAT_STATE 95, 2)] with trace := { State.reset.trace with fifo := [1, 2, 3], sizes := [3] } }, by decide +kernel⟩⟩

/-- The hypotheses of `Obligations.LeapCommandsComplete`, clause by clause. -/
theorem witness_LeapCommandsComplete :
  (∃ (reason : Fin 8) (target : List Byte) (s : State), Sound s ∧ reason.val ≠ 0 ∧ target.length = 8 ∧
    signShows reason.val target s = true) ∧
  (∃ (a : Agent) (bytes : List Byte) (s : State), Sound s ∧ a.init = 49 ∧ a.im = true ∧ domOn 93 s = true ∧ audBusy s = false ∧
    bytes.length = 9 ∧ leapRuns s = false) ∧
  (∃ (a : Agent) (bytes : List Byte) (s : State), Sound s ∧ a.init = 49 ∧ a.im = true ∧ domOn 93 s = true ∧ audBusy s = false ∧
    bytes.length = 9 ∧ leapRuns s = true) ∧
  (∃ (s : State), Sound s ∧ leapServed s = true ∧ s.leap.state = leapCheck ∧ leapChecks s ≠ 0) ∧
  (∃ (s : State), Sound s ∧ leapServed s = true ∧ s.leap.state = leapCheck ∧ leapChecks s = 0 ∧ s.sec.alm = none ∧
    domOn 93 s = true ∧ sluRoom clsAlmanac 30 s = true ∧ s.leap.target.length = 8) ∧
  (∃ (s : State), Sound s ∧ leapServed s = true ∧ s.leap.state = leapApply ∧
    (s.leap.type = 2 ∨ s.leap.type = 3 ∨ s.leap.type = 4)) :=
  ⟨⟨5, List.replicate 8 3, { st [(SP_MARCH_RES_ONECOL 3, 1), (SP_MARCH_RES_FAILS 3, 9)] with leap := { State.reset.leap with held := List.replicate 64 ⟨1, 2, [], 0⟩ } }, by decide +kernel⟩,
   ⟨⟨49, .installer⟩, [1, 2, 3, 4, 5, 6, 7, 8, 9], st [(PWR_DOM_STAT_STATE 93, 2)], by decide +kernel⟩,
   ⟨⟨49, .installer⟩, [1, 2, 3, 4, 5, 6, 7, 8, 9], { st [(PWR_DOM_STAT_STATE 93, 2)] with leap := { State.reset.leap with state := 4 } }, by decide +kernel⟩,
   ⟨{ st [(CORE_STAT_STATE 0, coreRun)] with leap := { State.reset.leap with state := 1, role := 2 } }, by decide +kernel⟩,
   ⟨{ st [(CORE_STAT_STATE 0, coreRun), (PWR_DOM_STAT_STATE 93, 2)] with leap := { State.reset.leap with state := 1, role := 2, type := 2, target := List.replicate 8 0 }, sec := { State.reset.sec with lc := 3 } }, by decide +kernel⟩,
   ⟨{ st [(CORE_STAT_STATE 0, coreRun)] with leap := { State.reset.leap with state := 3, type := 4 } }, by decide +kernel⟩⟩

/-- The hypotheses of `Obligations.RegisterWriteCompletes`, clause by clause. -/
theorem witness_RegisterWriteCompletes :
  (∃ (a : Agent) (addr : Nat) (s : State), Sound s ∧ (nocReach a.init.val addr 1 1 s).1 = none ∧ inScratchpad addr = false ∧
    (targetOf addr = none ∨ (∃ x, targetOf addr = some x ∧ x < 4))) ∧
  (∃ (a : Agent) (addr : Nat) (x : Nat) (r : Status) (s : State), Sound s ∧ (nocReach a.init.val addr 1 1 s).1 = none ∧
    inScratchpad addr = false ∧ targetOf addr = some x ∧ 64 ≤ x ∧ regIngress addr s = some r) ∧
  (∃ (a : Agent) (addr : Nat) (x : Nat) (s : State), Sound s ∧ (nocReach a.init.val addr 1 1 s).1 = none ∧
    inScratchpad addr = false ∧ targetOf addr = some x ∧ 64 ≤ x ∧ regIngress addr s = none ∧ scMemAt addr = none ∧
    (findReg addr).isNone = true) ∧
  (∃ (a : Agent) (addr width : Nat) (x : Nat) (s : State), Sound s ∧ (nocReach a.init.val addr 1 1 s).1 = none ∧
    inScratchpad addr = false ∧ targetOf addr = some x ∧ 64 ≤ x ∧ regIngress addr s = none ∧ scMemAt addr = none ∧
    ((findReg addr).any (fun y => y.1.bits != width && y.1.name != .DBG_STIM) = true)) ∧
  (∃ (a : Agent) (addr width : Nat) (x : Nat) (r : RegDesc) (i j : Nat) (s : State), Sound s ∧
    (nocReach a.init.val addr 1 1 s).1 = none ∧ inScratchpad addr = false ∧ targetOf addr = some x ∧ 64 ≤ x ∧
    regIngress addr s = none ∧ scMemAt addr = none ∧ findReg addr = some (r, i, j) ∧ r.bits = width ∧
    r.name ≠ .SP_OWN ∧ r.name ≠ .DBG_STIM) ∧
  (∃ (a : Agent) (s : State), Sound s ∧ (nocReach a.init.val 0x300B000220 1 1 s).1 = none ∧ a.ctl = true ∧ domRefuses 65 s = none) ∧
  (∃ (a : Agent) (addr width : Nat) (s : State), Sound s ∧ (nocReach a.init.val addr 1 1 s).1 = none ∧ inScratchpad addr = true ∧
    spRefuses a.init.val (spBank addr) s.noc.nextId s = none ∧ spWidthOk addr width = true ∧
    65536 * spBank addr + spIndex addr ∉ s.cluster.bad) :=
  ⟨⟨⟨0, .none⟩, 0x400000000, st [], by decide +kernel⟩,
   ⟨⟨0, .none⟩, 0x300B000220, 76, .asleep, st [], by decide +kernel⟩,
   ⟨⟨0, .none⟩, 0x3001000004, 66, st [], by decide +kernel⟩,
   ⟨⟨0, .none⟩, 0x300F004F3C, 64, 80, st [], by decide +kernel⟩,
   ⟨⟨9, .none⟩, 0x300F004F3C, 32, 80, (regAt 0x300F004F3C), 15, 15, st [], by refine ⟨?_, ?_, ?_, ?_, ?_, ?_, ?_, ?_, ?_⟩ <;> first | rfl | decide +kernel⟩,
   ⟨⟨0, .none⟩, st [(PWR_DOM_STAT_STATE 65, 2)], by decide +kernel⟩,
   ⟨⟨0, .none⟩, 0x1000800007, 8, st [(PWR_DOM_STAT_STATE 86, 2)], by decide +kernel⟩⟩

/-- The hypotheses of `Obligations.PowerControlWriters`, clause by clause. -/
theorem witness_PowerControlWriters :
  (∃ (a : Agent) (target : Nat) (s : State), target < 4 ∧
    (¬ (a.init = 0 ∨ a.init = 1 ∨ (a.init = 49 ∧ (a.role = .installer ∨ a.role = .maker))))) ∧
  (∃ (a : Agent) (s : State), (¬ (a.init = 0 ∨ a.init = 1 ∨ (a.init = 49 ∧ (a.role = .installer ∨ a.role = .maker))))) ∧
  (∃ (a : Agent) (n : Fin 96) (s : State), (nocReach a.init.val (0x3001002000 + 8 * n.val) 1 1 s).1 = none ∧
    (¬ (a.init = 0 ∨ a.init = 1 ∨ (a.init = 49 ∧ (a.role = .installer ∨ a.role = .maker))))) ∧
  (∃ (a : Agent) (s : State), (a.init = 0 ∨ a.init = 1 ∨ (a.init = 49 ∧ (a.role = .installer ∨ a.role = .maker)))) ∧
  (∃ (a : Agent) (s : State), (a.init = 0 ∨ a.init = 1 ∨ (a.init = 49 ∧ (a.role = .installer ∨ a.role = .maker)))) ∧
  (∃ (a : Agent) (s : State), (a.init = 0 ∨ a.init = 1 ∨ (a.init = 49 ∧ (a.role = .installer ∨ a.role = .maker)))) :=
  ⟨⟨⟨2, .none⟩, 1, st [], by decide +kernel⟩,
   ⟨⟨48, .none⟩, st [], by decide +kernel⟩,
   ⟨⟨49, .none⟩, 95, st [], by decide +kernel⟩,
   ⟨⟨1, .none⟩, st [], by decide +kernel⟩,
   ⟨⟨49, .maker⟩, st [], by decide +kernel⟩,
   ⟨⟨49, .installer⟩, st [], by decide +kernel⟩⟩

/-- The hypotheses of `Obligations.ResetSetsProfileFull`, clause by clause. -/
theorem witness_ResetSetsProfileFull :
  (∃ (s : State), Sound s ∧ s.pins.porstLow = false) ∧
  (∃ (a : Agent) (s : State), Sound s ∧ (a.core01 = true ∨ a.fieldIM = true) ∧ almPrograms s = false) ∧
  (∃ (s : State), Sound s ∧ s.boot.warmDue.isSome = true ∧ almPrograms s = false) ∧
  (∃ (c : Fin 4) (s : State), Sound s ∧ wdCounts c.val s = true ∧
    s.get (CORE_STAT_WD_LEFT c.val) ≤ s.get FRM_STAT_PERIOD_ACT / 1000 + 1 ∧ c.val < 2 ∧ almPrograms s = false) ∧
  (∃ (c : Fin 4) (s : State), 2 ≤ c.val) :=
  ⟨⟨st [(SYS_PROFILE_REQ, 2), (SYS_PROFILE_CUR, 1), (SYS_PROFILE_PENDING, 1), (SYS_PROFILE_RESULT, 3)], by decide +kernel⟩,
   ⟨⟨1, .none⟩, st [(SYS_PROFILE_REQ, 2), (SYS_PROFILE_CUR, 1), (SYS_PROFILE_PENDING, 1), (SYS_PROFILE_RESULT, 3)], by decide +kernel⟩,
   ⟨{ st [(SYS_PROFILE_REQ, 2), (SYS_PROFILE_CUR, 1), (SYS_PROFILE_PENDING, 1), (SYS_PROFILE_RESULT, 3)] with boot := { State.reset.boot with warmDue := some 3 } }, by decide +kernel⟩,
   ⟨1, st [(WD_CTL_EN 1, 1), (PWR_DOM_STAT_STATE 83, 2), (SYS_PROFILE_REQ, 2), (SYS_PROFILE_CUR, 1), (SYS_PROFILE_PENDING, 1), (SYS_PROFILE_RESULT, 3)], by decide +kernel⟩,
   ⟨3, st [(WD_CTL_EN 3, 1), (PWR_DOM_STAT_STATE 85, 2), (SYS_PROFILE_REQ, 2), (SYS_PROFILE_CUR, 1), (SYS_PROFILE_PENDING, 1), (SYS_PROFILE_RESULT, 3)], by decide +kernel⟩⟩

/-- The hypotheses of `Obligations.JetRangeRule`, clause by clause. -/
theorem witness_JetRangeRule :
  (∃ (a : Agent) (ch : Fin 512) (value : Nat) (s : State), a.ctl = true ∧ domRefuses (bankDom ch.val) s = none ∧
    s.get (JET_CFG_EN ch.val) = 1 ∧ (JET_CFG_RANGE ch.val).of value ≠ s.get (JET_CFG_RANGE ch.val)) ∧
  (∃ (a : Agent) (ch : Fin 512) (value : Nat) (s : State), Sound s ∧ a.ctl = true ∧ domRefuses (bankDom ch.val) s = none ∧
    s.get (JET_CFG_EN ch.val) = 0 ∧ (JET_CFG_RANGE ch.val).of value ≠ s.get (JET_CFG_RANGE ch.val)) :=
  ⟨⟨⟨3, .none⟩, 33, 2 ^ 32 - 1, st [(PWR_DOM_STAT_STATE 18, 2), (JET_CFG_EN 33, 1)], by decide +kernel⟩,
   ⟨⟨3, .none⟩, 33, 2 ^ 32 - 1, st [(PWR_DOM_STAT_STATE 18, 2), (JET_LOAD_ISNK 33, 9)], by decide +kernel⟩⟩

/-- The hypotheses of `Obligations.CalibrationGoRule`, clause by clause. -/
theorem witness_CalibrationGoRule :
  (∃ (a : Agent) (s : State), (a.init = 0 ∨ a.init = 1 ∨ (a.init = 49 ∧ (a.role = .installer ∨ a.role = .maker))) ∧
    (s.get WEIR_CAL_INFO_BUSY = 1 ∨ s.get WEIR_CAL_BANKS_BANKS = 0)) ∧
  (∃ (a : Agent) (s : State), (a.init = 0 ∨ a.init = 1 ∨ (a.init = 49 ∧ (a.role = .installer ∨ a.role = .maker))) ∧
    s.get WEIR_CAL_INFO_BUSY = 0 ∧ s.get WEIR_CAL_BANKS_BANKS ≠ 0) ∧
  (∃ (a : Agent) (s : State), (¬ (a.init = 0 ∨ a.init = 1 ∨ (a.init = 49 ∧ (a.role = .installer ∨ a.role = .maker))))) ∧
  (∃ (a : Agent) (s : State), (nocReach a.init.val 0x3006000200 1 1 s).1 = none ∧
    (¬ (a.init = 0 ∨ a.init = 1 ∨ (a.init = 49 ∧ (a.role = .installer ∨ a.role = .maker))))) ∧
  (∃ (a : Agent) (s : State), (nocReach a.init.val 0x3006000208 1 1 s).1 = none ∧
    (¬ (a.init = 0 ∨ a.init = 1 ∨ (a.init = 49 ∧ (a.role = .installer ∨ a.role = .maker))))) ∧
  (∃ (a : Agent) (value : Nat) (s : State), (nocReach a.init.val 0x3006000208 1 1 s).1 = none ∧
    (a.init = 0 ∨ a.init = 1 ∨ (a.init = 49 ∧ (a.role = .installer ∨ a.role = .maker))) ∧ value % 2 = 1 ∧
    (s.get WEIR_CAL_INFO_BUSY = 1 ∨ s.get WEIR_CAL_BANKS_BANKS = 0)) ∧
  (∃ (a : Agent) (s : State), Sound s ∧ (nocReach a.init.val 0x3006000200 1 1 s).1 = none ∧
    (a.init = 0 ∨ a.init = 1 ∨ (a.init = 49 ∧ (a.role = .installer ∨ a.role = .maker)))) :=
  ⟨⟨⟨1, .none⟩, st [(WEIR_CAL_INFO_BUSY, 1), (WEIR_CAL_BANKS_BANKS, 5)], by decide +kernel⟩,
   ⟨⟨49, .maker⟩, st [(WEIR_CAL_BANKS_BANKS, 2 ^ 31)], by decide +kernel⟩,
   ⟨⟨49, .operator⟩, st [], by decide +kernel⟩,
   ⟨⟨3, .none⟩, st [], by decide +kernel⟩,
   ⟨⟨48, .none⟩, st [], by decide +kernel⟩,
   ⟨⟨0, .none⟩, 2 ^ 32 + 3, st [], by decide +kernel⟩,
   ⟨⟨0, .none⟩, st [], by decide +kernel⟩⟩

/-- The hypotheses of `Obligations.ArbiterCommitRule`, clause by clause. -/
theorem witness_ArbiterCommitRule :
  (∃ (a : Agent) (s : State), Sound s ∧ nocWriter a = true) :=
  ⟨⟨1, .none⟩, st [(ARB_SHD_BURST 17 0, 5), (ARB_SHD_PRIO 3 1, 4)], by decide +kernel⟩

/-- The hypotheses of `Obligations.RmaConsentRule`, clause by clause. -/
theorem witness_RmaConsentRule :
  (∃ (a : Agent) (value : Nat) (s : State), Sound s ∧ a.init = 49 ∧ a.role = .installer ∧ value = 1 ∧
    domOn 93 s = true ∧ audBusy s = false) ∧
  (∃ (s : State), s.pins.porstLow = false) ∧
  (∃ (a : Agent) (s : State), (a.core01 = true ∨ a.fieldIM = true) ∧ almPrograms s = false) ∧
  (∃ (s : State), s.boot.warmDue.isSome = true ∧ almPrograms s = false) ∧
  (∃ (c : Fin 4) (s : State), wdCounts c.val s = true ∧ s.get (CORE_STAT_WD_LEFT c.val) ≤ s.get FRM_STAT_PERIOD_ACT / 1000 + 1 ∧
    c.val < 2 ∧ almPrograms s = false) ∧
  (∃ (o : AlmOp) (s : State), s.sec.alm = some o ∧ o.kind = 2 ∧ o.begun = true) :=
  ⟨⟨⟨49, .installer⟩, 1, st [(PWR_DOM_STAT_STATE 93, 2)], by decide +kernel⟩,
   ⟨{ st [] with sec := { State.reset.sec with consent := true } }, by decide +kernel⟩,
   ⟨⟨1, .none⟩, { st [] with sec := { State.reset.sec with consent := true } }, by decide +kernel⟩,
   ⟨{ st [] with boot := { State.reset.boot with warmDue := some 3 }, sec := { State.reset.sec with consent := true } }, by decide +kernel⟩,
   ⟨1, { st [(WD_CTL_EN 1, 1), (PWR_DOM_STAT_STATE 83, 2)] with sec := { State.reset.sec with consent := true } }, by decide +kernel⟩,
   ⟨⟨2, 3, 0, 49, none, [], 4, true, [], false⟩, { st [] with sec := { State.reset.sec with consent := true, alm := some ⟨2, 3, 0, 49, none, [], 4, true, [], false⟩ } }, by decide +kernel⟩⟩

/-- The hypotheses of `Obligations.ResetsKeepAndLose`, clause by clause. -/
theorem witness_ResetsKeepAndLose :
  (∃ (s : State), Sound s ∧ s.sec.alm = none) ∧
  (∃ (s : State), Sound s ∧ s.pins.porstLow = false ∧ s.sec.alm = none) ∧
  (∃ (s : State), Sound s ∧ s.pins.porstLow = false ∧ domState 94 s ≠ dsOn ∧ s.get HBM_STAT_STATE ≠ hbmOff ∧
    (domState 64 s = dsOn ∨ domState 64 s = dsRetain)) ∧
  (∃ (s : State), Sound s ∧ s.pins.porstLow = false ∧ domState 64 s = dsOff) :=
  ⟨⟨{ st [(FRM_COUNT_COUNT, 4), (MBX_STAT_FULL 1, 1)] with flash := [⟨3, 4⟩], hbm := { State.reset.hbm with mem := [⟨7, 8⟩] } }, by decide +kernel⟩,
   ⟨{ st [(FRM_COUNT_COUNT, 4), (CLK_SEL_SEL 2, 1)] with flash := [⟨3, 4⟩] }, by decide +kernel⟩,
   ⟨{ st [(PWR_DOM_STAT_STATE 64, 2), (HBM_STAT_STATE, hbmReady)] with hbm := { State.reset.hbm with mem := [⟨7, 8⟩] } }, by decide +kernel⟩,
   ⟨{ st [] with hbm := { State.reset.hbm with mem := [⟨7, 8⟩] } }, by decide +kernel⟩⟩

/-- The next state of an outcome. -/
def un (o : Host.Outcome State Fault Refusal) : State := match o with
  | .next t => t
  | _ => State.reset

/-- R454: CRC-32 of the ASCII bytes 1 to 9, fed as FOLD, word and byte. -/
theorem test_crc32_check :
    (let s := un (exec (.crcConfig ⟨0, .none⟩ 2 0x10) State.reset)
     let s := un (exec (.crcFold ⟨0, .none⟩ 2 0x34333231) s)
     let s := un (exec (.crcFeed ⟨0, .none⟩ 2 .word 0x38373635) s)
     let s := un (exec (.crcFeed ⟨0, .none⟩ 2 .byte 0x39) s)
     crcResult 2 s) = 0xCBF43926 := by decide +kernel

/-- R454: the check values of the other CRCs. -/
theorem test_crc_checks :
    ([1, 2, 3].map (fun p =>
      let s := un (exec (.crcConfig ⟨0, .none⟩ 0 p) State.reset)
      let s := un (exec (.crcFeed ⟨0, .none⟩ 0 .word 0x34333231) s)
      let s := un (exec (.crcFeed ⟨0, .none⟩ 0 .word 0x38373635) s)
      crcResult 0 (un (exec (.crcFeed ⟨0, .none⟩ 0 .byte 0x39) s)))) = [0xE3069283, 0x29B1, 0x6C40DF5F0B497347] := by decide +kernel

/-- Chapter 11, the marched site: the twisted address of the cell at X = 5, Y = 3. -/
def marchSt : State :=
  st ([(GEN_SCR_MODE 2 11, 0x5918 / 2 ^ 14), (GEN_SCR_B 2 11, 0x5918 / 256 % 64), (GEN_SCR_A 2 11, 0x5918 % 64), (GEN_TMASK_VALUE 2, 0x1000000),
    (GEN_TINV_VALUE 2, 0xFFFF), (GEN_VALUE 2 0, 5), (GEN_VALUE 2 1, 3)] ++ (List.range 12).map (fun j => (GEN_SCR_A 2 (12 + j), 12 + j + 13)))
theorem test_march_address : genS 2 (genL 2 marchSt) marchSt = 0x1005 := by decide +kernel
theorem test_march_data : genDs 2 (genL 2 marchSt) marchSt = 0xFFFF := by decide +kernel

/-- Chapter 11: words of the march program as printed. -/
def marchWords : List Nat :=
  [0x62000000000007FF0000000000000003, 0x220003B8080000FF0000000000000000, 0x000000890000000066666100FFFF0000, 0x2E000000000000000000000000000000,
   0x04001000100000006666601000000000, 0x28000089100000006666610000000000, 0x2200033018FFFFFF0000000000000000, 0x72000000000000000000000000000000,
   0x8A000000000000000000000000000000]
theorem test_march_legal : marchWords.all insLegal = true := by decide +kernel
/-- Opcode, NOVEC, SAFE, DMODE, XOP, YOP, YCAR and DOP of those words, as the example's text names them. -/
theorem test_march_words :
    (marchWords.map (fun w => [insOpc w, (insNovec w).toNat, (insSafe w).toNat, insDmode w, insXop w, insYop w, (insYcar w).toNat, insDop w])) =
      [[12, 1, 0, 0, 0, 0, 0, 0], [4, 1, 0, 0, 7, 7, 0, 1], [0, 0, 0, 0, 1, 1, 1, 0], [5, 1, 1, 0, 0, 0, 0, 0], [0, 0, 1, 1, 0, 0, 0, 2],
       [5, 0, 0, 0, 1, 1, 1, 2], [4, 1, 0, 0, 6, 6, 0, 3], [14, 1, 0, 0, 0, 0, 0, 0], [17, 1, 0, 0, 0, 0, 0, 0]] := by decide +kernel

/-- Chapter 15, a hammered bank: two lines of one bank (PC 11, SID 0, bank group 2, bank 0). -/
theorem test_hbm_map :
    ([0x41185AC0, 0x4129DAC0].map (fun a => (hbmRow a, hbmBank a (st [(HBM_CFG_BXOR, 1)])))) = [(0x823, 11 * 32 + 8), (0x825, 11 * 32 + 8)] := by decide +kernel

/-- Chapter 16: the tag and nodes of line 0x1_0002_3440 of region 2. -/
theorem test_enc_addresses :
    [tagAddr 2 2257, nodeAddr 2 0 282, nodeAddr 2 1 35, nodeAddr 2 2 4, nodeAddr 2 3 0, nodeAddr 2 4 0] =
      [0x384004688, 0x388004680, 0x38C0008C0, 0x38C800100, 0x38C900000, 0x38C920000] := by decide +kernel

/-- Chapter 09: an SBC set with D3 = 800 fails in a period of 1,000 q and passes in one of 1,250 q. -/
theorem test_edge_rules : ([1000, 1250].map (fun p => setRules 400 p false 3 0 400 800 0 0 0)) = [false, true] := by decide +kernel

/-- Chapter 09: channel 96 places its edges 35 q late and its strobes 53 q late; D1 of cycle 3 falls in clock 1, slot 4. -/
def edgeSt : State := st [(ET_CH_CAL_CAL_DRV 96, 37), (ET_CH_CORR_CORR_DRV 96, 0xFFFE), (ET_CH_CAL_CAL_CMP 96, 52), (ET_CH_CORR_CORR_CMP 96, 1)]
theorem test_edge_places :
    (placeDrive 96 0 5000 0 edgeSt, edgeSplit (placeDrive 96 0 5000 0 edgeSt), placeStrobe 96 0 5000 625 edgeSt) = (5035, (1, 4, 35), 5678) := by decide +kernel

/-- Chapter 18: the link delay from an ECHO with TURN 1,200,000 q and ASYM 16. -/
theorem test_link_delay :
    (let s := modLink 3 (fun x => { x with timeSent := some (0, 7), delays := List.replicate 15 121708 }) (st [(LNK_STAT_STATE 3, 5), (LNK_ASYM_ASYM 3, 16)])
     linkDelay (link 3 (un (exec (.echoReceive 3 1321692 1200000 7) s))) 0) = 60854 := by decide +kernel

/-- Chapter 18: a tick whose nearest edge lies 549 q early reads ERR −549, and −149 after 100 µs of slew. -/
theorem test_slew :
    (let s := casTickPlaced ⟨1, 100000, 549⟩ State.reset
     let t := casTickPlaced ⟨2, 100000, 400000549⟩ s
     (s.get CAS_TIME_ERR, t.get CAS_TIME_ERR)) = (2 ^ 16 - 549, 2 ^ 16 - 149) := by decide +kernel

/-- Chapter 05: the BOOT_STAT word of the example. -/
theorem test_boot_word :
    ([BOOT_STAT_ELAPSED_MS, BOOT_STAT_PRIMARY_ERR, BOOT_STAT_IFW, BOOT_STAT_FABRIC, BOOT_STAT_FW_SLOT, BOOT_STAT_ALMANAC, BOOT_STAT_STAGE, BOOT_STAT_DEGRADED,
      BOOT_STAT_READY].map (fun f => f.of 0x0156005001205075)) = [342, 5, 1, 2, 0, 5, 7, 1, 1] := by decide +kernel

/-- Chapters 02, 09 and 16: registers found at the addresses the examples print. -/
theorem test_register_addresses :
    ([0x3005010600, 0x3005203800, 0x3005203818, 0x300C001048, 0x300C001040].map (fun a => (findReg a).map (fun r => (r.1.name, r.2)))) =
      [some (.ET_PER, 6, 0), some (.ET_CH_STG_DRV12, 112, 0), some (.ET_CH_COMMIT, 112, 0), some (.ENC_REG_RANGE, 2, 0), some (.ENC_REG_CTL, 2, 0)] := by
  decide +kernel

/-- No row of the table has bits, so no word spells a command. -/
theorem test_no_words (n w : Nat) : decodeTableWord n w = none := rfl

/-- The front command runs on the state with the rest of the queue. -/
theorem test_front : step { State.reset with pending := [.crcResultRead ⟨0, .none⟩ 0, .generatorLock] } =
    exec (.crcResultRead ⟨0, .none⟩ 0) { State.reset with pending := [.generatorLock] } := rfl

/-- Chapter 17: the owners and grant numbers of arbiter 17 in the example: the field interface (5), control core 0 and the debug
access port (4), over requests, a pre-emption, two releases and a burst's expiry. -/
def arbSt : State :=
  st [(ARB_ACT_PRIO 17 0, 6), (ARB_ACT_PREEMPT 17 0, 1), (ARB_ACT_PRIO 17 5, 2), (ARB_ACT_PRIO 17 4, 1), (ARB_ACT_PREEMPT 17 4, 0),
    (ARB_ACT_PREEMPT 17 5, 0), (ARB_CTL_FAIR_N 17, 4)]
def arbSeen (l : List Instr) : Nat := (l.foldl (fun s c => un (exec c s)) arbSt).get (ARB_STAT_OWNER 17)
theorem test_arbiter :
    (let l : List Instr := [.arbRequest 17 5 24 0, .arbRequest 17 0 4 10, .arbRequest 17 4 2 2, .arbRelease 17, .arbBurstExpiry 17, .arbRelease 17]
     [1, 2, 3, 4, 5, 6].map (fun n => arbSeen (l.take n))) = [5, 0, 0, 5, 4, 5] := by decide +kernel
/-- Chapter 17: routes with router 14 in maintenance: router 7 to 21 keeps one, router 16 to 12 has none. -/
theorem test_routes :
    (let s := st [(NOC_RTR_STAT_STATE 14, 1)]
     [routeExists (fun k => k == 14) 21 s 14 7, routeExists (fun k => k == 14) 12 s 14 16, routeExists (fun _ => false) 12 s 14 16]) =
      [true, false, true] := by decide +kernel

/-- The hypotheses of the statements about every state and every command: sound states with a command waiting that answer a next
state, and one with an empty queue. -/
def frontSt : State := { State.reset with pending := [.generatorLock, .bleed] }
theorem witness_StepRunsFront : ∃ (c : Instr) (rest : List Instr) (s : State), s.pending = c :: rest :=
  ⟨.generatorLock, [.bleed], frontSt, rfl⟩
theorem witness_EmptyQueueIdles : ∃ s : State, s.pending = [] := ⟨State.reset, rfl⟩
theorem witness_EveryStepKeepsSound : ∃ s s' : State, Sound s ∧ step s = .next s' := ⟨frontSt, un (step frontSt), by decide +kernel, rfl⟩
theorem witness_EveryCommandAnswers : ∃ (c : Instr) (rest : List Instr) (s : State), Sound s ∧ s.pending = c :: rest :=
  ⟨.generatorLock, [.bleed], frontSt, by decide +kernel, rfl⟩
theorem witness_OneTimeMemoryOnlyGains : ∃ s s' : State, Sound s ∧ step s = .next s' := ⟨frontSt, un (step frontSt), by decide +kernel, rfl⟩
theorem witness_SluiceStaysInBudget : ∃ s : State, Sound s ∧ InBudget s := ⟨State.reset, by decide +kernel, by decide +kernel⟩

/-- Terms that are not well-formed: one for each check (1 of 6). -/
theorem test_ill_formed_1 : (([.registerWrite ⟨0, .none⟩ (2 ^ 48) 8 0,
   .registerWrite ⟨0, .none⟩ 0 24 0,
   .registerWrite ⟨0, .none⟩ 0 8 (2 ^ 8),
   .profileChangeRequest ⟨0, .none⟩ false (256),
   .domainTargetWrite ⟨0, .none⟩ 0 (4),
   .sluiceRequest ⟨0, .none⟩ (2 ^ 64),
   .sluiceRelease ⟨0, .none⟩ (2 ^ 32),
   .sluiceGrantCycle (128 + 1),
   .ballLatchClear ⟨0, .none⟩ 0 (2 ^ 32),
   .muxSelect ⟨0, .none⟩ 0 (2 ^ 32),
   .fabFrequencyChange ⟨0, .none⟩ 0 (2 ^ 32),
   .clkmonConfig ⟨0, .none⟩ (2 ^ 32),
   .frameControlWrite ⟨0, .none⟩ (2 ^ 32),
   .slotShadowWrite ⟨0, .none⟩ 0 (2 ^ 32),
   .rstCtlWarm ⟨0, .none⟩ (2 ^ 8),
   .coreReset ⟨0, .none⟩ (2 ^ 8) 0,
   .coreReset ⟨0, .none⟩ 0 (2 ^ 4),
   .warmResetObject ⟨0, .none⟩ (2 ^ 8),
   .bramRead 0 (2048) .a ⟨0, none⟩ 0,
   .bramWrite 0 (2048) none none,
   .bramWriteback 0 (2048) 0,
   .bramWriteback 0 0 (2 ^ 15),
   .flipArm ⟨0, .none⟩ 0 (2 ^ 32),
   .dataInWrite 0 (2 ^ 64)] : List Instr).all (fun i => !i.wellFormed)) = true := by decide +kernel

/-- Terms that are not well-formed: one for each check (2 of 6). -/
theorem test_ill_formed_2 : (([.targetPortRequest 0 (2 ^ 48) none,
   .jetConfigWrite ⟨0, .none⟩ 0 (2 ^ 32),
   .blockClear ⟨0, .none⟩ 0 (2 ^ 32),
   .bankMaxrateWrite ⟨0, .none⟩ 0 (2 ^ 2),
   .pmuModeWrite ⟨0, .none⟩ 0 (2 ^ 32),
   .spareForWrite ⟨0, .none⟩ 0 (2 ^ 5),
   .periodWrite ⟨0, .none⟩ 0 0 (2 ^ 32),
   .timingSetCommit ⟨0, .none⟩ 0 (2 ^ 32),
   .timingSetRecordWrite ⟨0, .none⟩ [],
   .seqStart ⟨0, .none⟩ 0 (2 ^ 32) 0,
   .mapScrubWord 0 (24576) .ok,
   .scMapWrite ⟨0, .none⟩ 0 (2 ^ 6),
   .scStart ⟨0, .none⟩ 0 (2 ^ 32),
   .scMemoryAccess ⟨0, .none⟩ 0 .prog (2 ^ 15) none,
   .scSampleArrival 0 0 (2 ^ 24) false false,
   .scHostWrite ⟨0, .none⟩ 0 (2 ^ 32),
   .scScrubWord 0 .prog (2 ^ 15) .ok,
   .targetedRefresh 0 (32768),
   .hbmRangePass ⟨0, .none⟩ (2 ^ 64),
   .hbmFlipArm ⟨0, .none⟩ (2 ^ 64),
   .hbmAccessObject (2 ^ 64) none,
   .keyedRead ⟨0, .none⟩ (2 ^ 34),
   .keyedWrite ⟨0, .none⟩ (2 ^ 34) 0 (List.replicate 64 0),
   .keyedWrite ⟨0, .none⟩ 0 (2 ^ 64) (List.replicate 64 0)] : List Instr).all (fun i => !i.wellFormed)) = true := by decide +kernel

/-- Terms that are not well-formed: one for each check (3 of 6). -/
theorem test_ill_formed_3 : (([.keyedWrite ⟨0, .none⟩ 0 0 [],
   .nodeWriteback 0 (7) 0,
   .creditIdleReturn 0 (64),
   .linkEnable ⟨0, .none⟩ 0 (2 ^ 32),
   .trainEnd 0 (2 ^ 4),
   .lockEnd 0 (2 ^ 4) 0,
   .lockEnd 0 0 (2 ^ 4),
   .casSend ⟨0, .none⟩ (2 ^ 64),
   .echoReceive 0 0 0 (2 ^ 48),
   .bankHandover ⟨0, .none⟩ 0 (2 ^ 6),
   .spScrubWord 0 (65536) .ok,
   .spSecurePass ⟨0, .none⟩ (2 ^ 64),
   .spMarch ⟨0, .none⟩ (2 ^ 32),
   .mailboxDataWrite ⟨0, .none⟩ 0 0 (2 ^ 32),
   .coreInterrupt 0 (2 ^ 64),
   .lockAcquire ⟨0, .none⟩ 0 (2 ^ 16),
   .wdKick ⟨0, .none⟩ 0 (2 ^ 32),
   .crcConfig ⟨0, .none⟩ 0 (2 ^ 32),
   .crcFold ⟨0, .none⟩ 0 (2 ^ 32),
   .challenge (2 ^ 16),
   .operatorSignIn (2 ^ 16) [],
   .operatorSignIn 0 (List.replicate (64 + 1) 0),
   .operatorSignIn 0 (List.replicate (8 - 1) 0),
   .keySignIn (2 ^ 16) (List.replicate 7220 0)] : List Instr).all (fun i => !i.wellFormed)) = true := by decide +kernel

/-- Terms that are not well-formed: one for each check (4 of 6). -/
theorem test_ill_formed_4 : (([.keySignIn 0 [],
   .lifecycleTransition ⟨0, .none⟩ (2 ^ 8),
   .rmaConsent ⟨0, .none⟩ (2 ^ 1),
   .editionStage ⟨0, .none⟩ [],
   .editionCommit ⟨0, .none⟩ (2 ^ 64),
   .ledgerAppend ⟨0, .none⟩ [],
   .attestationRequest ⟨0, .none⟩ [],
   .alStateRequest (2 ^ 4) false false,
   .sdoRequest (2 ^ 16) (.upload 0 0) false,
   .signOut (2 ^ 16),
   .sessionIdleTimeout (2 ^ 16),
   .restoreDefaults ⟨0, .none⟩ (2 ^ 32),
   .foeWrite (2 ^ 16) .fwA 0 [] false,
   .foeWrite 0 .fwA (2 ^ 32) [] false,
   .foeRead (2 ^ 16) .fwA 0,
   .foeRead 0 .fwA (2 ^ 32),
   .foeBootstrapWrite false (2 ^ 32) [] false,
   .debugPassword ⟨0, .none⟩ (2 ^ 8),
   .freezeTest ⟨0, .none⟩ (2 ^ 16),
   .traceEnable ⟨0, .none⟩ (2 ^ 64),
   .stimulusWrite ⟨0, .none⟩ 0 0 24 0,
   .leapRequest ⟨0, .none⟩ [],
   .healthCandidate 0 [],
   .sm2ImageWrite (List.replicate (256 + 1) 0)] : List Instr).all (fun i => !i.wellFormed)) = true := by decide +kernel

/-- Terms that are not well-formed: one for each check (5 of 6). -/
theorem test_ill_formed_5 : (([.energyLedgerStep [⟨0, 2 ^ 32, 0⟩] 0,
   .energyLedgerStep [⟨0, 0, 2 ^ 24⟩] 0,
   .bramRead 0 0 .a ⟨2 ^ 15, none⟩ 0,
   .bramRead 0 0 .a ⟨0, some ⟨0, 2 ^ 72⟩⟩ 0,
   .bramWrite 0 0 (some ⟨2 ^ 15, 0⟩) none,
   .bramWrite 0 0 none (some ⟨0, 2 ^ 72⟩),
   .rillSlice 1 [⟨36864, 0, false⟩],
   .rillSlice 1 [⟨0, 512, false⟩],
   .jetLevelWrite ⟨0, .none⟩ 0 .drv (2 ^ 64),
   .jetLevelWrite ⟨0, .none⟩ 0 .cmp (2 ^ 64),
   .jetLevelWrite ⟨0, .none⟩ 0 .load (2 ^ 32),
   .jetLevelWrite ⟨0, .none⟩ 0 .pmuForce (2 ^ 32),
   .jetLevelWrite ⟨0, .none⟩ 0 .pmuIclamp (2 ^ 32),
   .jetLevelWrite ⟨0, .none⟩ 0 .pmuVclamp (2 ^ 32),
   .scMemoryAccess ⟨0, .none⟩ 0 .prog 0 (some (2 ^ 32)),
   .hbmAccessObject 0 (some []),
   .nocRequest ⟨0, .none⟩ ⟨.rd, 2 ^ 48, 0, false, 0, 0, []⟩,
   .nocRequest ⟨0, .none⟩ ⟨.rd, 0, 16, false, 0, 0, []⟩,
   .nocRequest ⟨0, .none⟩ ⟨.rd, 0, 0, false, 2 ^ 64, 0, []⟩,
   .nocRequest ⟨0, .none⟩ ⟨.rd, 0, 0, false, 0, 0, List.replicate 257 0⟩,
   .exchangeEnd 0 ⟨2 ^ 16, 0, false, 0⟩,
   .exchangeEnd 0 ⟨0, 5, false, 0⟩,
   .exchangeEnd 0 ⟨0, 0, false, 16⟩,
   .flitReceive 0 0 true ⟨.idle, false, 2 ^ 12, false, 0, List.replicate 52 0⟩] : List Instr).all (fun i => !i.wellFormed)) = true := by decide +kernel

/-- Terms that are not well-formed: one for each check (6 of 6). -/
theorem test_ill_formed_6 : (([.flitReceive 0 0 true ⟨.idle, false, 0, false, 0, []⟩,
   .timeFlitReceive 0 0 0 ⟨2 ^ 48, 0, 0, false, 0, 0, false⟩,
   .timeFlitReceive 0 0 0 ⟨0, 2 ^ 24, 0, false, 0, 0, false⟩,
   .scratchpadAccess ⟨0, .none⟩ (.read (2 ^ 48) 8) .ok,
   .scratchpadAccess ⟨0, .none⟩ (.read 0 12) .ok,
   .scratchpadAccess ⟨0, .none⟩ (.write 0 8 256) .ok,
   .scratchpadAccess ⟨0, .none⟩ (.write 0 7 0) .ok,
   .scratchpadAccess ⟨0, .none⟩ (.both 0 8 0 8 256) .ok,
   .scratchpadAccess ⟨0, .none⟩ (.both 0 9 0 8 0) .ok,
   .crcFeed ⟨0, .none⟩ 0 .byte 256,
   .crcFeed ⟨0, .none⟩ 0 .half (2 ^ 16),
   .crcFeed ⟨0, .none⟩ 0 .word (2 ^ 32),
   .sdoRequest 0 (.upload (2 ^ 16) 0) true,
   .sdoRequest 0 (.download 0 256 []) true,
   .sdoRequest 0 (.uploadAll (2 ^ 16)) true,
   .sdoRequest 0 (.downloadAll (2 ^ 16) []) true,
   .sdoRequest 0 (.describe 0 256) true,
   .stimulusWrite ⟨0, .none⟩ 0 0 8 256] : List Instr).all (fun i => !i.wellFormed)) = true := by decide +kernel

end Sys2Proof.Tests
end

section
/-! SUPPORT. From the reach of an operation to the narrow frames of statements, what the network on chip and the ingress of a register
window do to a write before its target takes it, and the two statements of scope: every command answers, and a register write completes. -/
namespace Sys2Proof.Machine

/-! ### The queue of commands -/

theorem step_of_front {c : Instr} {rest : List Instr} {s : State} (h : s.pending = c :: rest) :
    step s = exec c { s with pending := rest } := by
  unfold step
  rw [h]

/-! ### Narrow frames -/

/-- A mask without register blocks leaves every register field alone, so it gives a narrow frame for any list of fields. -/
theorem Within.narrow {A : Nat} {s t : State} (h : Within A s t) {parts : List Part} {l : List Fld} (hA : maskListed A parts [] = true) :
    Narrow parts l s t := by
  obtain ⟨hpending, hpart, hregs⟩ := h.frame hA
  exact ⟨hpending, hpart, fun f _ => hregs f (fun _ hb => absurd hb List.not_mem_nil)⟩

theorem Part.same_trans {s t u : State} {p : Part} (h : p.same s t) (g : p.same t u) : p.same s u := by
  cases p <;> exact Eq.trans g h

theorem Part.same_set (s : State) (f : Fld) (v : Nat) (p : Part) : p.same s (s.set f v) := by
  cases p <;> rfl

theorem Narrow.trans {parts : List Part} {l : List Fld} {s t u : State} (h : Narrow parts l s t) (g : Narrow parts l t u) :
    Narrow parts l s u :=
  ⟨g.pending.trans h.pending, fun p hp => Part.same_trans (h.part p hp) (g.part p hp), fun f hf => (g.regs f hf).trans (h.regs f hf)⟩

/-- A listed field may be written. -/
theorem Narrow.set {parts : List Part} {l : List Fld} {s t : State} (h : Narrow parts l s t) {f : Fld} (hf : f ∈ l) (v : Nat) :
    Narrow parts l s (t.set f v) :=
  h.trans ⟨rfl, fun p _ => Part.same_set t f v p, fun _ hg => get_set_of_ne t (hg f hf) v⟩

/-! ### A request that the network on chip carries (R389, R391) -/

/-- The counts of requests and flits of the frame replaced. -/
def nocCounted (reqs flits : Sparse) (s : State) : State :=
  { s with noc := { s.noc with cntReqs := reqs, cntFlits := flits } }

/-- What the network on chip does to the state of a request that it carries: it counts it. -/
theorem nocReach_of_carried {i addr reqs flits : Nat} {s : State} (h : (nocReach i addr reqs flits s).1 = none) :
    ∃ cr cf, nocReach i addr reqs flits s = (none, nocCounted cr cf s) := by
  unfold nocReach at h ⊢
  split
  · exact ⟨s.noc.cntReqs, s.noc.cntFlits, rfl⟩
  · rename_i t ht
    simp only [ht] at h
    split
    · rename_i hr
      simp [hr] at h
    · exact ⟨_, _, rfl⟩

@[simp] theorem nocCounted_nextId (cr cf : Sparse) (s : State) : (nocCounted cr cf s).noc.nextId = s.noc.nextId := rfl
@[simp] theorem regIngress_nocCounted (addr : Nat) (cr cf : Sparse) (s : State) :
    regIngress addr (nocCounted cr cf s) = regIngress addr s := rfl
@[simp] theorem spRefuses_nocCounted (i n id : Nat) (cr cf : Sparse) (s : State) :
    spRefuses i n id (nocCounted cr cf s) = spRefuses i n id s := rfl

theorem nocCounted_within {A : Nat} {u s : State} {cr cf : Sparse} (hM : Sub 0x40000 A) (h_s : Within A u s) :
    Within A u (nocCounted cr cf s) :=
  Within.noc_ (Sub.bit hM (by decide)) h_s

@[simp] theorem nocTold_resp (i : Nat) (st : Status) (s : State) : (nocTold i st s).resp = s.resp := by
  unfold nocTold
  split
  · rfl
  · split <;> rfl

@[simp] theorem nocTold_regs (i : Nat) (st : Status) (s : State) : (nocTold i st s).regs = s.regs := by
  unfold nocTold
  split
  · rfl
  · split <;> rfl

@[simp] theorem nocTold_done (i : Nat) (s : State) : nocTold i .done s = s := rfl

/-- A write that changed nothing but the network's counts, and was answered, keeps all but the answer and the network. -/
theorem nocTold_answer_narrow (i : Nat) (st : Status) (cr cf : Sparse) (l : List Fld) (s : State) :
    Narrow [.resp, .noc] l s (nocTold i st (answer st (nocCounted cr cf s))) := by
  have hw : Within 0x40001 s (nocTold i st (answer st (nocCounted cr cf s))) :=
    nocTold_within (by decide) (answer_within (by decide) (nocCounted_within (by decide) (Within.refl _ s)))
  exact hw.narrow (by decide)

/-! ### The ingress of a register window (R52, R102) -/

theorem domRefuses_ne_done {n : Nat} {s : State} : domRefuses n s ≠ some .done := by
  unfold domRefuses
  split
  · decide
  · split
    · decide
    · split <;> decide

theorem regIngress_ne_done {addr : Nat} {s : State} : regIngress addr s ≠ some .done := by
  unfold regIngress
  split
  · exact domRefuses_ne_done
  · decide

theorem windowWrite_of_refused {a : Agent} {addr width v : Nat} {r : Status} {s : State} (h : regIngress addr s = some r) :
    windowWrite a addr width v s = (r, s) := by
  unfold windowWrite
  rw [h]

theorem windowWrite_of_passed {a : Agent} {addr width v : Nat} {s : State} (h : regIngress addr s = none) (hm : scMemAt addr = none) :
    windowWrite a addr width v s = regWriteAt a addr width v s := by
  unfold windowWrite windowWriteIn
  rw [h, hm]

theorem regWriteAt_of_noReg {a : Agent} {addr width v : Nat} {s : State} (h : findReg addr = none) :
    regWriteAt a addr width v s = (.range, s) := by
  unfold regWriteAt
  rw [h]

theorem regWriteAt_of_otherWidth {a : Agent} {addr width v : Nat} {r : RegDesc} {i j : Nat} {s : State}
    (h : findReg addr = some (r, i, j)) (hw : r.bits ≠ width) (hn : r.name ≠ .DBG_STIM) :
    regWriteAt a addr width v s = (.range, s) := by
  unfold regWriteAt
  rw [h]
  exact if_pos ⟨hw, hn⟩

theorem regWriteAt_of_reg {a : Agent} {addr v : Nat} {r : RegDesc} {i j : Nat} {s : State} (h : findReg addr = some (r, i, j)) :
    regWriteAt a addr r.bits v s = regWrite a r i j (v % 2 ^ r.bits) r.bits s := by
  unfold regWriteAt
  rw [h]
  exact if_neg (fun hc => hc.1 rfl)

/-- An address holds one register at most. -/
theorem findReg_name_ne {addr : Nat} {r : RegDesc} {i j : Nat} {n : RegName} (h : findReg addr = some (r, i, j)) (hn : r.name ≠ n)
    (r' : RegDesc) (i' j' : Nat) (h' : findReg addr = some (r', i', j')) : r'.name ≠ n := by
  obtain ⟨rfl, -⟩ := Prod.mk.inj (Option.some.inj (h.symm.trans h'))
  exact hn

/-- Only a stimulus port that its ingress lets through makes a write wait for room. -/
theorem stimWaits_eq_false {a : Agent} {addr width v : Nat} {s : State}
    (h : regIngress addr s ≠ none ∨ ∀ r i j, findReg addr = some (r, i, j) → r.name ≠ .DBG_STIM) :
    stimWaits a addr width v s = false := by
  unfold stimWaits
  split
  · rename_i r i j hf
    rcases h with h | h
    · simp [Option.isNone_iff_eq_none, h]
    · simp [h r i j hf]
  · rfl

/-! ### A register write that the network on chip carries (R6, R7, R15, R565) -/

theorem exec_registerWrite (a : Agent) (addr width value : Nat) (s : State) :
    exec (.registerWrite a addr width value) s = execRegisterWrite a addr width value s := rfl

section
variable {a : Agent} {addr width value x : Nat} {s u : State}

/-- No target, or HBM, holds no register. -/
theorem execRegisterWrite_of_noWindow (hn : nocReach a.init.val addr 1 1 s = (none, u)) (hs : inScratchpad addr = false)
    (ht : targetOf addr = none ∨ ∃ x, targetOf addr = some x ∧ x < 4) :
    execRegisterWrite a addr width value s = .next (answer .range u) := by
  unfold execRegisterWrite
  rcases ht with ht | ⟨x, ht, hx⟩
  · simp [hn, hs, ht, ok]
  · simp [hn, hs, ht, hx, ok]

/-- A write of a register window that waits neither for room in the trace FIFO nor for a hand-over is answered at once. -/
theorem execRegisterWrite_of_window (hn : nocReach a.init.val addr 1 1 s = (none, u)) (hs : inScratchpad addr = false)
    (ht : targetOf addr = some x) (hx : 64 ≤ x) (hstim : stimWaits a addr width value u = false)
    (hown : (windowWrite a addr width value u).1 ≠ .done ∨ ∀ r i j, findReg addr = some (r, i, j) → r.name ≠ .SP_OWN) :
    execRegisterWrite a addr width value s =
      .next (nocTold a.init.val (windowWrite a addr width value u).1 (answered (windowWrite a addr width value u))) := by
  unfold execRegisterWrite
  simp only [hn, hs, ht, hstim, show ¬ x < 4 by omega, show ¬ x < 64 by omega, if_false, Bool.false_eq_true, ok]
  refine congrArg Host.Outcome.next (if_neg ?_)
  split
  · rename_i r i j hf
    rcases hown with h | h
    · simp [h]
    · simp [h r i j hf]
  · exact Bool.false_ne_true

/-- A write of a register by its own rules, answered as they say. -/
theorem execRegisterWrite_of_reg {r : RegDesc} {i j : Nat} (hn : nocReach a.init.val addr 1 1 s = (none, u))
    (hs : inScratchpad addr = false) (ht : targetOf addr = some x) (hx : 64 ≤ x) (hi : regIngress addr u = none)
    (hm : scMemAt addr = none) (hf : findReg addr = some (r, i, j)) (hw : r.bits = width) (hown : r.name ≠ .SP_OWN)
    (hstim : r.name ≠ .DBG_STIM) :
    execRegisterWrite a addr width value s = .next (nocTold a.init.val (regWrite a r i j (value % 2 ^ width) width u).1
      (answered (regWrite a r i j (value % 2 ^ width) width u))) := by
  subst hw
  rw [execRegisterWrite_of_window hn hs ht hx (stimWaits_eq_false (.inr (findReg_name_ne hf hstim))) (.inr (findReg_name_ne hf hown)),
    windowWrite_of_passed hi hm, regWriteAt_of_reg hf]

end

/-- A write of a register window that is turned away before any register takes it changes nothing but the answer and the network's
counts. -/
theorem execRegisterWrite_of_turnedAway {a : Agent} {addr width value x : Nat} {st : Status} {s : State}
    (hn : (nocReach a.init.val addr 1 1 s).1 = none) (hs : inScratchpad addr = false) (ht : targetOf addr = some x ∧ 64 ≤ x)
    (hst : st ≠ .done) (hstim : regIngress addr s ≠ none ∨ ∀ r i j, findReg addr = some (r, i, j) → r.name ≠ .DBG_STIM)
    (hw : ∀ u, regIngress addr u = regIngress addr s → windowWrite a addr width value u = (st, u)) :
    ∃ t, execRegisterWrite a addr width value s = .next t ∧ t.resp = ⟨st, 0, []⟩ ∧ Narrow [.resp, .noc] [] s t := by
  obtain ⟨cr, cf, hn⟩ := nocReach_of_carried hn
  obtain ⟨ht, hx⟩ := ht
  have hw := hw (nocCounted cr cf s) (regIngress_nocCounted addr cr cf s)
  refine ⟨_, execRegisterWrite_of_window hn hs ht hx (stimWaits_eq_false hstim) (.inl (by rw [hw]; exact hst)), ?_, ?_⟩
  · rw [hw, nocTold_resp, answered_eq, answer_resp]
  · rw [hw]
    exact nocTold_answer_narrow a.init.val st cr cf [] s

/-! ### The flip mask (R354) -/

/-- A field at the low end of its register takes a written value as if it were the field's own. -/
theorem set_of_lowField {f : Fld} (h : f.key % 64 = 0) (v : Nat) (s : State) : s.set f (f.of v) = s.set f v := by
  simp [State.set, regSet, Fld.of, bits, h]

/-- The register map's entry of HBM_FLIP_DATA. -/
def flipDataReg : RegDesc := ⟨.HBM_FLIP_DATA, 0x300B000220, 1, 0, 1, 0, 64, fun _ _ => HBM_FLIP_DATA_fields⟩

theorem findReg_flipData : findReg 0x300B000220 = some (flipDataReg, 0, 0) := rfl

theorem targetOf_flipData : targetOf 0x300B000220 = some 76 := rfl

theorem scMemAt_flipData : scMemAt 0x300B000220 = none := rfl

theorem regHome_flipData (s : State) : regHome 0x300B000220 s = some 65 := by
  unfold regHome homeTable
  simp only [List.findSome?_cons, blockOf]
  rfl

theorem regIngress_flipData (s : State) : regIngress 0x300B000220 s = domRefuses 65 s := by
  unfold regIngress
  rw [regHome_flipData]

/-- A writer of window 0x0C writes the mask. -/
theorem regWrite_flipData {a : Agent} (ha : a.ctl = true) (i j v width : Nat) (s : State) :
    regWrite a flipDataReg i j v width s = (.done, s.set HBM_FLIP_DATA_DMASK v) := by
  have hw : regWrite a flipDataReg i j v width s = wrHbmPlain HBM_FLIP_DATA_fields a v s := rfl
  rw [hw]
  unfold wrHbmPlain
  simp [ha, writeFlds, HBM_FLIP_DATA_fields, writeFld, set_of_lowField (f := HBM_FLIP_DATA_DMASK) (by decide)]

/-! ### A word of the scratchpad (R435, R436) -/

/-- A word without an error reads as it is stored, and nothing strikes it. -/
theorem spCheck_ok {n w who : Nat} {s : State} (h : 65536 * n + w ∉ s.cluster.bad) : spCheck n w who .ok s = (some (spWord n w s), s) := by
  unfold spCheck
  simp [h]

/-- The word that a write leaves: whole, or merged into what stands there. -/
def spWritten (addr width v : Nat) (s : State) : Nat :=
  if spAlias addr = 0 ∧ width = 64 then v else spMerge addr width v (spWord (spBank addr) (spIndex addr) s)

theorem spWritten_mod (addr width v : Nat) (s : State) :
    spWritten addr width v s % 2 ^ 64 = if spAlias addr = 0 ∧ width = 64 then v % 2 ^ 64 else
      spMerge addr width v (spWord (spBank addr) (spIndex addr) s) % 2 ^ 64 := by
  unfold spWritten
  split <;> rfl

theorem spWrite_done {i addr width v id : Nat} {s : State} (hr : spRefuses i (spBank addr) id s = none)
    (hw : spWidthOk addr width = true) (hb : 65536 * spBank addr + spIndex addr ∉ s.cluster.bad) :
    spWrite i addr width v id .ok s = (.done, spStore (spBank addr) (spIndex addr) (spWritten addr width v s) s) := by
  unfold spWrite spWritten
  simp only [hr, hw, spCheck_ok hb, Bool.not_true, Bool.false_eq_true, if_false, and_comm (a := width = 64)]
  split <;> rfl

theorem answer_spStore_narrow (st : Status) (n w v : Nat) (cr cf : Sparse) (s : State) :
    Narrow [.resp, .noc, .cluster] [] s (answer st (spStore n w v (nocCounted cr cf s))) := by
  have hw : Within 0x440001 s (answer st (spStore n w v (nocCounted cr cf s))) :=
    answer_within (by decide) (spStore_within (by decide) (nocCounted_within (by decide) (Within.refl _ s)))
  exact hw.narrow (by decide)

theorem execRegisterWrite_of_scratchpad {a : Agent} {addr width value : Nat} {s u : State}
    (hn : nocReach a.init.val addr 1 1 s = (none, u)) (hs : inScratchpad addr = true) :
    execRegisterWrite a addr width value s = .next (answered (spWrite a.init.val addr width value u.noc.nextId .ok u)) := by
  unfold execRegisterWrite
  simp only [hn, hs, if_true, ok]

/-! ### The statements -/

/-- Settles O6: whatever the command, `exec` answers a next state, and no operation touches the queue. -/
theorem everyCommandAnswers : Obligations.EveryCommandAnswers := by
  unfold Obligations.EveryCommandAnswers
  intro c rest s _ hq
  obtain ⟨t, ht, hw⟩ := exec_next c { s with pending := rest }
  exact ⟨t, (step_of_front hq).trans ht, hw.pending⟩

/-- Settles O46: each clause is one of the ways in which a carried write ends, on the state that counts the request. -/
theorem registerWriteCompletes : Obligations.RegisterWriteCompletes := by
  unfold Obligations.RegisterWriteCompletes
  simp only [exec_registerWrite]
  refine ⟨?noWindow, ?refused, ?noRegister, ?otherWidth, ?register, ?flipMask, ?scratchpad⟩
  case noWindow =>
    intro a addr width value s _ hn hs ht
    obtain ⟨cr, cf, hn⟩ := nocReach_of_carried hn
    exact ⟨_, execRegisterWrite_of_noWindow hn hs ht, rfl, nocTold_answer_narrow a.init.val .range cr cf [] s⟩
  case refused =>
    intro a addr width value x r s _ hn hs ht hi
    refine execRegisterWrite_of_turnedAway hn hs ht ?_ (.inl (by simp [hi])) (fun u hu => windowWrite_of_refused (hu.trans hi))
    rintro rfl
    exact regIngress_ne_done hi
  case noRegister =>
    intro a addr width value x s _ hn hs ht hi hm hf
    rw [Option.isNone_iff_eq_none] at hf
    refine execRegisterWrite_of_turnedAway hn hs ht (by decide) (.inr (by simp [hf])) (fun u hu => ?_)
    rw [windowWrite_of_passed (hu.trans hi) hm, regWriteAt_of_noReg hf]
  case otherWidth =>
    intro a addr width value x s _ hn hs ht hi hm hf
    obtain ⟨⟨r, i, j⟩, hf, hr⟩ := (Option.any_eq_true _ _).1 hf
    simp only [Bool.and_eq_true, bne_iff_ne] at hr
    obtain ⟨hwidth, hname⟩ := hr
    refine execRegisterWrite_of_turnedAway hn hs ht (by decide) (.inr (findReg_name_ne hf hname)) (fun u hu => ?_)
    rw [windowWrite_of_passed (hu.trans hi) hm, regWriteAt_of_otherWidth hf hwidth hname]
  case register =>
    intro a addr width value x r i j s _ hn hs ⟨ht, hx⟩ hi hm hf hwidth ⟨hown, hstim⟩
    obtain ⟨cr, cf, hn⟩ := nocReach_of_carried hn
    rw [hn]
    exact ⟨_, execRegisterWrite_of_reg hn hs ht hx hi hm hf hwidth hown hstim, nocTold_resp _ _ _, nocTold_regs _ _ _⟩
  case flipMask =>
    intro a value s hsound hn ha hd
    obtain ⟨cr, cf, hn⟩ := nocReach_of_carried hn
    have he := execRegisterWrite_of_reg (value := value) hn (by decide) targetOf_flipData (by decide)
      ((regIngress_flipData _).trans hd) scMemAt_flipData findReg_flipData rfl (by decide) (by decide)
    simp only [regWrite_flipData ha, nocTold_done, answered_eq] at he
    refine ⟨_, he, rfl, ?_, ?_⟩
    · exact (get_set_self HBM_FLIP_DATA_DMASK _ hsound.rising).trans (Nat.mod_mod _ _)
    · exact (nocTold_answer_narrow a.init.val .done cr cf _ s).set (List.mem_singleton_self _) _
  case scratchpad =>
    intro a addr width value s _ hn hs hr hw hb
    obtain ⟨cr, cf, hn⟩ := nocReach_of_carried hn
    have he := execRegisterWrite_of_scratchpad (width := width) (value := value) hn hs
    rw [nocCounted_nextId, spWrite_done ((spRefuses_nocCounted _ _ _ cr cf s).trans hr) hw hb] at he
    refine ⟨_, he, rfl, ?_, ?_⟩
    · rw [← spWritten_mod]
      rfl
    · exact answer_spStore_narrow _ _ _ _ cr cf s

end Sys2Proof.Machine
end

section
/-! SUPPORT. The two statements of the queue, and those of chapter 01 on the profile: what the resets leave of SYS_PROFILE (R26), and
why the completion of profile and limiter commands fails as stated. -/
namespace Sys2Proof.Machine

/-! ### The fields of SYS_PROFILE -/

/-- The fields of SYS_PROFILE. -/
def profileFlds : List Fld := [SYS_PROFILE_REQ, SYS_PROFILE_CUR, SYS_PROFILE_PENDING, SYS_PROFILE_RESULT, SYS_PROFILE_GO]

/-- Every field of SYS_PROFILE reads 0: the profile is FULL, with no change pending. -/
def ProfileFull (s : State) : Prop := ∀ f ∈ profileFlds, s.get f = 0

/-- The mask of everything but the block of SYS_PROFILE (`winBit` 33). -/
abbrev offProfile : Nat := 0x1FFFFFFFFFFFFFFFFFFFFFFFDFFFFFFFF

theorem profileFlds_win : ∀ f ∈ profileFlds, winBit f.key = 33 := by
  simp [profileFlds, SYS_PROFILE_REQ_win, SYS_PROFILE_CUR_win, SYS_PROFILE_PENDING_win, SYS_PROFILE_RESULT_win, SYS_PROFILE_GO_win]

theorem Within.get_profile {s t : State} (h : Within offProfile s t) : ∀ f ∈ profileFlds, t.get f = s.get f :=
  fun f hf => h.get (by rw [profileFlds_win f hf]; decide)

theorem Within.profileFull {s t : State} (h : Within offProfile s t) (hs : ProfileFull s) : ProfileFull t :=
  fun f hf => (h.get_profile f hf).trans (hs f hf)

theorem OutWithin.get_profile {s : State} {o : Out} (h : OutWithin offProfile s o) :
    ∃ t, o = .next t ∧ ∀ f ∈ profileFlds, t.get f = s.get f := by
  obtain ⟨t, ht, hw⟩ := h
  exact ⟨t, ht, hw.get_profile⟩

/-- What the statement of R26 says of a reset's outcome, from the state it leaves. -/
theorem ProfileFull.of_next {o : Out} {t : State} (ho : o = .next t) (ht : ProfileFull t) :
    ∃ t, o = .next t ∧ t.get SYS_PROFILE_REQ = 0 ∧ t.get SYS_PROFILE_CUR = 0 ∧ t.get SYS_PROFILE_PENDING = 0 ∧
      t.get SYS_PROFILE_RESULT = 0 :=
  ⟨t, ho, ht _ (by simp [profileFlds]), ht _ (by simp [profileFlds]), ht _ (by simp [profileFlds]), ht _ (by simp [profileFlds])⟩

/-! ### What a COLD reset leaves in the register file (R100) -/

theorem get_acrossReset (s : State) {f : Fld} (hf : f.key ≠ BOOT_STAT_STAGE.key) : (acrossReset s).get f = f.reset % 2 ^ f.width := by
  have hkey : f.key ≠ 64 * 0x3000000810 + 4 := hf
  unfold State.get regGet spGetD
  rw [acrossReset_regs, spFind_spSetD_of_ne hkey]
  rfl

theorem acrossReset_profileFull (s : State) : ProfileFull (acrossReset s) := by
  intro f hf
  rw [get_acrossReset s (fun h => absurd (profileFlds_win f hf) (by rw [h]; decide))]
  revert f
  simp [profileFlds, SYS_PROFILE_REQ, SYS_PROFILE_CUR, SYS_PROFILE_PENDING, SYS_PROFILE_RESULT, SYS_PROFILE_GO]

theorem coldReset_profileFull (s : State) : ProfileFull (coldReset s) := by
  refine Within.profileFull (s := acrossReset (almReset s)) ?_ (acrossReset_profileFull _)
  exact set_within _ (inMask BOOT_STAT_STAGE_win (by decide)) (memoriesLost_within (by decide) (Within.refl _ _))

/-! ### What a WARM reset leaves in the register file (R72, R100) -/

theorem spFind_filter_of_not {k : Nat} {p : Nat × Nat → Bool} (hp : ∀ v, p (k, v) = false) (m : Sparse) :
    spFind k (m.filter p) = none := by
  induction m with
  | nil => rfl
  | cons x r ih =>
    obtain ⟨j, v⟩ := x
    rw [List.filter_cons]
    split
    · rename_i hj
      have hne : k ≠ j := by
        rintro rfl
        simp [hp] at hj
      rw [spFind, if_neg hne, ih]
    · exact ih

/-- A register outside the ranges that a WARM reset keeps reads its reset value. -/
theorem regGet_keptRegs {f : Fld} (hf : ∀ r ∈ warmKept, ¬ (64 * r.1 ≤ f.key ∧ f.key < 64 * r.2)) (m : Sparse) :
    regGet f (keptRegs m) = f.reset % 2 ^ f.width := by
  unfold regGet spGetD keptRegs
  rw [spFind_filter_of_not]
  · rfl
  · simpa [List.any_eq_false] using hf

theorem regGet_foldl_regSet_of_ne {f : Fld} (v : Fld → Nat) {l : List Fld} (hl : ∀ g ∈ l, f.key ≠ g.key) (m : Sparse) :
    regGet f (l.foldl (fun m g => regSet g (v g) m) m) = regGet f m := by
  induction l generalizing m with
  | nil => rfl
  | cons g l ih =>
    rw [List.foldl_cons, ih (fun x hx => hl x (List.mem_cons_of_mem _ hx)), regGet_regSet_of_ne (hl g List.mem_cons_self)]

/-- A WARM reset keeps nothing of SYS_PROFILE. -/
theorem profile_not_kept : ∀ f ∈ profileFlds, f.reset = 0 ∧ (∀ r ∈ warmKept, ¬ (64 * r.1 ≤ f.key ∧ f.key < 64 * r.2)) ∧
    ∀ g ∈ warmFields, f.key ≠ g.key := by
  decide +kernel

theorem warmReset_profileFull (src : Nat) (s : State) : ProfileFull (warmReset src s) := by
  unfold warmReset
  extract_lets -merge -useContext +onlyGivenNames was n ended blank w0 w1 w2 w3 w4 w5 w6 w7 kept domains hbm aborts cause stat
  have hregs : kept.regs = warmFields.foldl (fun m g => regSet g (ended.get g) m) (keptRegs ended.regs) := by
    dsimp only [kept]
  clear_value kept
  have hkept : ProfileFull kept := by
    intro f hf
    obtain ⟨hreset, hranges, hfields⟩ := profile_not_kept f hf
    rw [State.get, hregs, regGet_foldl_regSet_of_ne _ hfields, regGet_keptRegs hranges, hreset, Nat.zero_mod]
  have hdomains : Within offProfile kept domains :=
    forNat_within (fun _ _ h => set_within _ (inMask (PWR_DOM_CTL_TARGET_win _) (by decide))
      (set_within _ (inMask (PWR_DOM_STAT_STATE_win _) (by decide)) h)) _ (Within.refl _ _)
  have hhbm : Within offProfile kept hbm := set_within _ (inMask HBM_STAT_STATE_win (by decide)) hdomains
  have haborts : Within offProfile kept aborts :=
    forNat_within (fun _ _ h => set_within _ (inMask (REG_STAT_ABORT_win _) (by decide)) h) _ hhbm
  have hcause : Within offProfile kept cause :=
    set_within _ (inMask RST_CAUSE_WARM_COUNT_win (by decide)) (set_within _ (inMask RST_CAUSE_SOURCE_win (by decide))
      (set_within _ (inMask RST_CAUSE_KIND_win (by decide)) haborts))
  have hstat : Within offProfile kept stat :=
    set_within _ (inMask BOOT_STAT_STAGE_win (by decide)) (set_within _ (inMask BOOT_STAT_ALMANAC_win (by decide))
      (set_within _ (inMask BOOT_STAT_WARM_win (by decide)) hcause))
  exact (raise_within (by decide) hstat).profileFull hkept

/-- Boot goes on after a WARM reset without touching the profile. -/
theorem stepThree_warmReset_profileFull (src : Nat) (s : State) : ProfileFull (stepThree (warmReset src s)) :=
  (stepThree_within (by decide) (Within.refl _ _)).profileFull (warmReset_profileFull src s)

/-! ### The sources of a WARM reset (R100, R101, R103, R452) -/

theorem askWarm_profileFull {src : Nat} {s : State} (h : almPrograms s = false) : ProfileFull (askWarm src s) := by
  unfold askWarm
  rw [h]
  exact stepThree_warmReset_profileFull src s

theorem execWarmReset_of_porstHigh {s : State} (h : s.pins.porstLow = false) :
    exec .warmReset s = .next (warmReset 1 { s with pins := { s.pins with srstLow := true } }) := by
  show execWarmReset s = _
  simp [execWarmReset, h, ok]

/-- The writers of RST_CTL that may ask for a WARM reset are not control cores 2 and 3. -/
theorem not_core23_of_warmWriter {a : Agent} (h : a.core01 = true ∨ a.fieldIM = true) : ¬ (a.init.val = 2 ∨ a.init.val = 3) := by
  simp only [Agent.core01, Agent.fieldIM, decide_eq_true_eq, Bool.and_eq_true, beq_iff_eq] at h
  omega

theorem execRstCtlWarm_of_writer {a : Agent} {s : State} (h : a.core01 = true ∨ a.fieldIM = true) :
    exec (.rstCtlWarm a 0x5A) s = .next (answer .done (askWarm 2 s)) := by
  have hkey : RST_CTL_KEY.of (256 * 0x5A + 16) = 0x5A := by decide
  have hwarm : RST_CTL_WARM.hit (256 * 0x5A + 16) = true := by decide
  have hcore : RST_CTL_CORE.of (256 * 0x5A + 16) = 0 := by decide
  have hbits : (List.range 4).filter (fun c => bit 0 c) = [] := by decide
  have hw : (a.core01 || a.fieldIM) = true := by simpa using h
  have hr : wrRstCtl a (256 * 0x5A + 16) s = (.done, askWarm 2 s) := by
    simp [wrRstCtl, hkey, hwarm, hcore, hbits, hw, not_core23_of_warmWriter h, forEach]
  show ok (answered (wrRstCtl a (256 * 0x5A + 16) s)) = _
  rw [hr]
  rfl

theorem execDelayedWarmReset_of_due {src : Nat} {s : State} (h : s.boot.warmDue = some src) (hp : almPrograms s = false) :
    exec .delayedWarmReset s = .next (stepThree (warmReset src s)) := by
  show execDelayedWarmReset s = _
  simp [execDelayedWarmReset, h, hp, whenOk]

/-- The state in which a watchdog that has run out resets (R452). -/
def wdExpired (c : Nat) (s : State) : State := raise 0x1001 [⟨1, c⟩] (s.set (CORE_STAT_WD_LEFT c) 0)

theorem wdExpired_within {A : Nat} {u s : State} {c : Nat} (hM : Sub 0x20000000000000000000000000C A) (h_s : Within A u s) :
    Within A u (wdExpired c s) :=
  raise_within (Sub.trans (by decide) hM) (set_within _ (inMask (CORE_STAT_WD_LEFT_win _) (Sub.bit hM (by decide))) h_s)

@[simp] theorem almPrograms_wdExpired (c : Nat) (s : State) : almPrograms (wdExpired c s) = almPrograms s := by
  simp [almPrograms, wdExpired]

theorem execWatchdogExpiry_eq (c : Fin 4) (s : State) : exec (.watchdogExpiry c) s =
    whenOk (wdCounts c.val s && decide (s.get (CORE_STAT_WD_LEFT c.val) ≤ s.get FRM_STAT_PERIOD_ACT / 1000 + 1)) s
      (if c.val < 2 then askWarm 4 (wdExpired c.val s) else coreReset c.val (wdExpired c.val s)) := rfl

/-! ### CORE resets (R101) -/

/-- A write of RST_CTL without WARM reaches no more than the CORE resets. -/
theorem wrRstCtl_within_of_noWarm {A : Nat} {u : State} {a : Agent} {v : Nat} {s : State} (hv : RST_CTL_WARM.hit v = false)
    (hM : Sub 0x24001F0000000000180060000546011D A) (h_s : Within A u s) : Within A u (wrRstCtl a v s).2 := by
  have hcores : Within A u (forEach ((List.range 4).filter (fun c => bit (RST_CTL_CORE.of v) c)) coreReset s) :=
    forEach_within (fun _ _ h => coreReset_within hM h) _ h_s
  unfold wrRstCtl
  simp only [hv, Bool.false_or, Bool.false_eq_true, if_false]
  exact Within.ite1 (Within.ite1 hcores h_s) (Within.ite1 h_s (Within.ite1 h_s hcores))

/-- The word that CORE_RESET writes has WARM 0: its mask lies below the bit, its key above. -/
theorem rstCtlWarm_hit_coreWord (k m : Nat) : RST_CTL_WARM.hit (256 * k + m % 16) = false := by
  have hb : (256 * k + m % 16) / 16 % 2 = 0 := by omega
  have hf : RST_CTL_WARM.of (256 * k + m % 16) = (256 * k + m % 16) / 16 % 2 := rfl
  simp [Fld.hit, hf, hb]

theorem execCoreReset_within_cores {A : Nat} {u : State} {a : Agent} {key mask : Nat} {s : State}
    (hM : Sub 0x24001F0000000000180060000546011D A) (h_s : Within A u s) : OutWithin A u (exec (.coreReset a key mask) s) :=
  OutWithin.ok (answered_within (Sub.trans (by decide) hM) (wrRstCtl_within_of_noWarm (rstCtlWarm_hit_coreWord _ _) hM h_s))

/-! ### A ball trip while offline calibration runs (R67, R225) -/

/-- Channel 0 carries a fault current while its bank 0 runs offline calibration, so far without a failure. -/
def faultInCalibration : State :=
  { State.reset with
    power := { State.reset.power with inFault := [0] }
    weir := { State.reset.weir with run := some [⟨0, 0⟩] } }

theorem faultInCalibration_sound : Sound faultInCalibration := by decide

/-- The trip fails the running bank with code 4, TRIP. -/
theorem ballTrip_fails_calibration :
    ∃ t, exec (.ballTrip 0 40000) faultInCalibration = .next t ∧ t.weir.run = some [⟨0, 4⟩] :=
  ⟨_, rfl, by decide⟩

/-! ### The statements -/

/-- Settles O1: `step` takes the command off the front of the queue. -/
theorem stepRunsFront : Obligations.StepRunsFront := by
  unfold Obligations.StepRunsFront
  intro c rest s h
  exact step_of_front h

/-- Settles O2: `step` on an empty queue is its first case. -/
theorem emptyQueueIdles : Obligations.EmptyQueueIdles := by
  unfold Obligations.EmptyQueueIdles
  intro s h
  unfold step
  rw [h]

/-- Settles O48: a COLD or WARM reset rebuilds the register file without SYS_PROFILE, and no DOMAIN or CORE reset reaches its block. -/
theorem resetSetsProfileFull : Obligations.ResetSetsProfileFull := by
  unfold Obligations.ResetSetsProfileFull
  refine ⟨?cold, ?pin, ?rstCtl, ?object, ?watchdog01, ?watchdog23, ?domain, ?holdEnd, ?core⟩
  case cold =>
    intro s _
    exact ProfileFull.of_next rfl (coldReset_profileFull s)
  case pin =>
    intro s _ hp
    exact ProfileFull.of_next (execWarmReset_of_porstHigh hp) (warmReset_profileFull 1 _)
  case rstCtl =>
    intro a s _ ha hp
    exact ProfileFull.of_next (execRstCtlWarm_of_writer ha) (askWarm_profileFull hp)
  case object =>
    intro s _ hdue hp
    obtain ⟨src, hsrc⟩ := Option.isSome_iff_exists.1 hdue
    exact ProfileFull.of_next (execDelayedWarmReset_of_due hsrc hp) (stepThree_warmReset_profileFull src s)
  case watchdog01 =>
    intro c s _ hcounts hleft hc hp
    refine ProfileFull.of_next (t := askWarm 4 (wdExpired c.val s)) ?_ (askWarm_profileFull (by simpa using hp))
    simp [execWatchdogExpiry_eq, whenOk, hcounts, hleft, hc]
  case watchdog23 =>
    intro c s hc
    rw [execWatchdogExpiry_eq, if_neg (by omega)]
    refine (OutWithin.whenOk (Within.refl _ s) ?_).get_profile
    exact coreReset_within (by decide) (wdExpired_within (by decide) (Within.refl _ s))
  case domain =>
    intro a n s
    exact (execDomainReset_within (by decide) (Within.refl _ s)).get_profile
  case holdEnd =>
    intro n s
    exact (execDomainResetHoldEnd_within (by decide) (Within.refl _ s)).get_profile
  case core =>
    intro a key mask s
    exact (execCoreReset_within_cores (by decide) (Within.refl _ s)).get_profile

/-- Refutes O14: its frame of a ball trip leaves out Weir, but a trip fails the offline calibration that runs on the ball's bank
(R225, code 4). -/
theorem not_profileAndLimiterCommandsComplete : ¬ Obligations.ProfileAndLimiterCommandsComplete := by
  unfold Obligations.ProfileAndLimiterCommandsComplete
  rintro ⟨-, -, -, -, -, hTrip, -⟩
  obtain ⟨t, ht, -, -, hframe⟩ := hTrip 0 40000 faultInCalibration faultInCalibration_sound (by decide) (by decide) (by decide)
  obtain ⟨u, hu, hrun⟩ := ballTrip_fails_calibration
  obtain rfl : t = u := Host.Outcome.next.inj (ht.symm.trans hu)
  have hkept : t.weir = faultInCalibration.weir := hframe.part .weir (by decide)
  rw [hkept] at hrun
  exact absurd hrun (by decide)

end Sys2Proof.Machine
end

section
/-! SUPPORT. The three statements of resets, boot and the board's balls: what a COLD, a WARM and a CORE reset leave (R72, R100, R101, R104),
the ends of the boot steps (R110), and why the statements of DOMAIN resets and of what a WARM reset keeps fail as written. -/
namespace Sys2Proof.Machine

/-! ### Reach of an operation -/

/-- The mask of every part and every block. -/
abbrev anywhere : Nat := 0x1FFFFFFFFFFFFFFFFFFFFFFFFFFFFFFFF

/-- The mask of every block and no part. -/
abbrev anyBlock : Nat := 0x1FFFFFFFFFFFFFFFFFFFFFFFF00000000

theorem Within.rising {A : Nat} {s t : State} (h : Within A s t) (hs : Sound s) : Sparse.Rising t.regs := (h.sound hs).rising

theorem rising_forNat {f : Nat → State → State} (hf : ∀ i t, Sparse.Rising t.regs → Sparse.Rising (f i t).regs) (n : Nat) {s : State}
    (h : Sparse.Rising s.regs) : Sparse.Rising (forNat n f s).regs :=
  List.foldlRecOn (motive := fun t => Sparse.Rising t.regs) (List.range n) _ h (fun t ht i _ => hf i t ht)

theorem rising_foldl_regSet (v : Fld → Nat) (l : List Fld) {m : Sparse} (h : Sparse.Rising m) :
    Sparse.Rising (l.foldl (fun m f => regSet f (v f) m) m) :=
  List.foldlRecOn (motive := Sparse.Rising) l _ h (fun _ hm f _ => rising_regSet f (v f) hm)

/-- Fields of different blocks have different keys. -/
theorem key_ne_of_win {f g : Fld} {v w : Nat} (hf : winBit f.key = v) (hg : winBit g.key = w) (h : v ≠ w) : f.key ≠ g.key := by
  intro hk
  rw [hk, hg] at hf
  exact h hf.symm

/-! ### COLD resets (R43, R100) -/

theorem get_memoriesLost (s : State) (f : Fld) : (memoriesLost s).get f = s.get f :=
  ((memoriesLost_within (by decide) (Within.refl 0x420000 s)).narrow (parts := [.sc, .cluster]) (l := []) (by decide)).regs f
    (fun _ h => absurd h List.not_mem_nil)

theorem get_coldReset (s : State) {f : Fld} (hf : f.key ≠ BOOT_STAT_STAGE.key) : (coldReset s).get f = f.reset % 2 ^ f.width := by
  rw [coldReset, get_set_of_ne _ hf, get_memoriesLost, get_acrossReset _ hf]

theorem coldReset_stage {s : State} (hs : Sound s) : (coldReset s).get BOOT_STAT_STAGE = 0 := by
  have hw : Within anywhere s (memoriesLost (acrossReset (almReset s))) :=
    memoriesLost_within (by decide) (acrossReset_within (by decide) (almReset_within (by decide) (Within.refl _ s)))
  exact get_set_self _ 0 (hw.rising hs)

@[simp] theorem acrossReset_flash (s : State) : (acrossReset s).flash = s.flash := rfl
@[simp] theorem acrossReset_pins (s : State) : (acrossReset s).pins = s.pins := rfl
@[simp] theorem acrossReset_warmDue (s : State) : (acrossReset s).boot.warmDue = none := rfl

theorem coldReset_flash (s : State) : (coldReset s).flash = s.flash := by
  rw [coldReset, set_flash, (memoriesLost_within (by decide) (Within.refl 0x420000 _)).flash (by decide), acrossReset_flash,
    (almReset_within (by decide) (Within.refl 0x1000000 s)).flash (by decide)]

/-! ### WARM resets (R100, R103, R104) -/

/-- The record of a WARM reset in RST_CAUSE and BOOT_STAT (R100, R104, R110). -/
def warmRecord (src count edition : Nat) (s : State) : State :=
  (((((s.set RST_CAUSE_KIND 1).set RST_CAUSE_SOURCE src).set RST_CAUSE_WARM_COUNT count).set BOOT_STAT_WARM 1).set BOOT_STAT_ALMANAC
    edition).set BOOT_STAT_STAGE 3

/-- A WARM reset ends with its record, on a state with the flash and the pins as they were and no reset due. -/
theorem warmReset_eq_record (src : Nat) {s : State} (hs : Sound s) : ∃ edition u, Sparse.Rising u.regs ∧ u.flash = s.flash ∧
    u.pins = s.pins ∧ u.boot.warmDue = none ∧
    warmReset src s = raise 0x0154 [⟨1, src⟩] (warmRecord src (min 65535 (s.get RST_CAUSE_WARM_COUNT + 1)) edition u) := by
  unfold warmReset
  extract_lets -merge -useContext +onlyGivenNames was n ended blank w0 w1 w2 w3 w4 w5 w6 w7 kept domains hbm aborts cause stat
  have hends : Within 0xFF7C020032A0001E19E360000D1A1D5C s ended := warmEnds_within (by decide) (Within.refl _ s)
  have hblank : Within 0x420000 (acrossReset ended) blank := memoriesLost_within (by decide) (Within.refl _ _)
  clear_value blank ended
  have hflash : kept.flash = s.flash := by
    rw [show kept.flash = blank.flash from rfl, hblank.flash (by decide), acrossReset_flash, hends.flash (by decide)]
  have hpins : kept.pins = s.pins := by
    rw [show kept.pins = blank.pins from rfl, hblank.pins (by decide), acrossReset_pins, hends.pins (by decide)]
  have hboot : kept.boot.warmDue = none := by
    rw [show kept.boot.warmDue = blank.boot.warmDue from rfl, hblank.boot (by decide), acrossReset_warmDue]
  have hkept : Sparse.Rising kept.regs := rising_foldl_regSet _ _ (rising_filter _ (hends.rising hs))
  clear_value kept
  have hdomains : Within anyBlock kept domains :=
    forNat_within (fun _ _ h => set_within _ (inMask (PWR_DOM_CTL_TARGET_win _) (by decide))
      (set_within _ (inMask (PWR_DOM_STAT_STATE_win _) (by decide)) h)) _ (Within.refl _ _)
  have habort : Within anyBlock kept aborts :=
    forNat_within (fun _ _ h => set_within _ (inMask (REG_STAT_ABORT_win _) (by decide)) h) _
      (set_within _ (inMask HBM_STAT_STATE_win (by decide)) hdomains)
  refine ⟨ended.get SEC_STAT_EDITION, aborts, ?_, (habort.flash (by decide)).trans hflash, (habort.pins (by decide)).trans hpins,
    (congrArg BootSt.warmDue (habort.boot (by decide))).trans hboot, rfl⟩
  exact rising_forNat (fun _ _ h => rising_set _ _ h) _
    (rising_set _ _ (rising_forNat (fun _ _ h => rising_set _ _ (rising_set _ _ h)) _ hkept))

/-- What a WARM reset for a source records, and what of the flash, the pins and boot it leaves. -/
structure WarmLeaves (src : Nat) (s t : State) : Prop where
  kind : t.get RST_CAUSE_KIND = 1
  source : t.get RST_CAUSE_SOURCE = src % 16
  count : t.get RST_CAUSE_WARM_COUNT = min 65535 (s.get RST_CAUSE_WARM_COUNT + 1)
  warm : t.get BOOT_STAT_WARM = 1
  stage : t.get BOOT_STAT_STAGE = 3
  flash : t.flash = s.flash
  pins : t.pins = s.pins
  warmDue : t.boot.warmDue = none

theorem warmReset_leaves (src : Nat) {s : State} (hs : Sound s) : WarmLeaves src s (warmReset src s) := by
  obtain ⟨edition, u, hr, hflash, hpins, hdue, he⟩ := warmReset_eq_record src hs
  rw [he]
  have h1 := rising_set RST_CAUSE_KIND 1 hr
  have h2 := rising_set RST_CAUSE_SOURCE src h1
  have h3 := rising_set RST_CAUSE_WARM_COUNT (min 65535 (s.get RST_CAUSE_WARM_COUNT + 1)) h2
  have h4 := rising_set BOOT_STAT_WARM 1 h3
  have h5 := rising_set BOOT_STAT_ALMANAC edition h4
  constructor
  case kind =>
    simp (disch := decide) only [get_raise, warmRecord, get_set_of_ne]
    exact get_set_self _ 1 hr
  case source =>
    simp (disch := decide) only [get_raise, warmRecord, get_set_of_ne]
    exact get_set_self _ src h1
  case count =>
    simp (disch := decide) only [get_raise, warmRecord, get_set_of_ne]
    rw [get_set_self _ _ h2]
    exact Nat.mod_eq_of_lt (Nat.lt_of_le_of_lt (Nat.min_le_left _ _) (by decide))
  case warm =>
    simp (disch := decide) only [get_raise, warmRecord, get_set_of_ne]
    exact get_set_self _ 1 h3
  case stage =>
    simp only [get_raise, warmRecord]
    exact get_set_self _ 3 h5
  case flash => rw [raise_flash, ← hflash]; rfl
  case pins => rw [raise_pins, ← hpins]; rfl
  case warmDue => rw [raise_boot, ← hdue]; rfl

/-! ### Boot step 3 begins (R96, R110) -/

theorem stepThree_frameCount {s : State} (h : Sparse.Rising s.regs) : (stepThree s).get FRM_COUNT_COUNT = 0 := by
  rw [stepThree, (bootRaise_within (by decide) (Within.refl 0x100000000064000000003C (firstTick s))).get
    (by rw [FRM_COUNT_COUNT_win]; decide)]
  exact get_set_self _ 0 h

/-- A register field that boot step 3 does not touch at its beginning. -/
theorem get_stepThree {f : Fld} (hf : Nat.testBit 0x100000000064100000007C (winBit f.key) = false) (s : State) :
    (stepThree s).get f = s.get f :=
  (stepThree_within (by decide) (Within.refl _ s)).get hf

theorem stepThree_boot (s : State) : (stepThree s).boot = s.boot :=
  (stepThree_within (by decide) (Within.refl 0x100000000064100000007C s)).boot (by decide)

/-- What a WARM reset leaves as boot goes on at once, with the first tick (R103). -/
structure WarmGoesOn (src : Nat) (t : State) : Prop where
  kind : t.get RST_CAUSE_KIND = 1
  source : t.get RST_CAUSE_SOURCE = src % 16
  frameCount : t.get FRM_COUNT_COUNT = 0
  stage : t.get BOOT_STAT_STAGE = 3
  warmDue : t.boot.warmDue = none

theorem stepThree_warmReset (src : Nat) {s : State} (hs : Sound s) : WarmGoesOn src (stepThree (warmReset src s)) := by
  have hl := warmReset_leaves src hs
  have hw : Within anywhere s (warmReset src s) := warmReset_within (by decide) (Within.refl _ s)
  constructor
  case kind => rw [get_stepThree (by rw [RST_CAUSE_KIND_win]; decide), hl.kind]
  case source => rw [get_stepThree (by rw [RST_CAUSE_SOURCE_win]; decide), hl.source]
  case frameCount => exact stepThree_frameCount (hw.rising hs)
  case stage => rw [get_stepThree (by rw [BOOT_STAT_STAGE_win]; decide), hl.stage]
  case warmDue => rw [stepThree_boot, hl.warmDue]

theorem askWarm_of_idle {src : Nat} {s : State} (h : almPrograms s = false) : askWarm src s = stepThree (warmReset src s) := by
  rw [askWarm, h]
  rfl

theorem execWarmResetObject_of_fieldIM {a : Agent} (ha : a.fieldIM = true) (s : State) :
    exec (.warmResetObject a 0x5A) s = .next (answer .done { s with boot := { s.boot with warmDue := some 3 } }) := by
  show ok (answered (objWarm a 0x5A s)) = _
  rw [objWarm, ha]
  rfl

/-! ### CORE resets (R101) -/

theorem get_endWish_domState (n m : Nat) (s : State) : (endWish m s).get (PWR_DOM_STAT_STATE n) = s.get (PWR_DOM_STAT_STATE n) := by
  have hne : (PWR_DOM_STAT_STATE n).key ≠ (PWR_DOM_STAT_ENABLE_PENDING m).key := by
    simp only [PWR_DOM_STAT_STATE, PWR_DOM_STAT_ENABLE_PENDING]
    omega
  rw [endWish, get_with_power, get_set_of_ne _ hne]

theorem get_sluDrop_domState (n k : Nat) (s : State) : (sluDrop k s).get (PWR_DOM_STAT_STATE n) = s.get (PWR_DOM_STAT_STATE n) := by
  have hne {f : Fld} (hf : winBit f.key = 45) : (PWR_DOM_STAT_STATE n).key ≠ f.key :=
    key_ne_of_win (PWR_DOM_STAT_STATE_win n) hf (by decide)
  unfold sluDrop
  simp only [get_with_power]
  rw [get_set_of_ne _ (hne (SLU_ENT_SKIPS_win k)), get_set_of_ne _ (hne (SLU_ENT_REMAIN_win k)), get_set_of_ne _ (hne (SLU_ENT_STATE_win k))]
  split
  · exact get_endWish_domState n _ s
  · rfl

/-- The end of a Sluice entry leaves the states of the domains. -/
theorem get_sluEnd_domState (n k : Nat) (s : State) : (sluEnd k s).get (PWR_DOM_STAT_STATE n) = s.get (PWR_DOM_STAT_STATE n) := by
  have hn {A : Nat} {t : State} (h : Within A (sluDrop k s) t) (hA : A.testBit 46 = false) :
      t.get (PWR_DOM_STAT_STATE n) = s.get (PWR_DOM_STAT_STATE n) :=
    (h.get (by rw [PWR_DOM_STAT_STATE_win, hA])).trans (get_sluDrop_domState n k s)
  unfold sluEnd
  dsimp only
  split
  · exact hn (lowerMaxrate_within (A := 0x80000000000000C) (by decide) (Within.refl _ _)) (by decide)
  · split
    · exact hn (pmuGrantLost_within (A := 0x100000000000010C) (by decide) (Within.refl _ _)) (by decide)
    · exact get_sluDrop_domState n k s

/-- Clearing a halt leaves the halt at reset. -/
theorem get_haltCleared_rhalt {k : Nat} (hk : k < 4) (c : Nat) (s : State) :
    (haltCleared k s).get (DBG_RUN_RHALT c) = s.get (DBG_RUN_RHALT c) := by
  have hstep : (DBG_RUN_RHALT c).key ≠ (DBG_RUN_STEPPING k).key := by
    simp only [DBG_RUN_RHALT, DBG_RUN_STEPPING]
    omega
  have hhalt : (DBG_RUN_RHALT c).key ≠ (DBG_RUN_HALTED k).key := by
    simp only [DBG_RUN_RHALT, DBG_RUN_HALTED]
    omega
  rw [haltCleared]
  simp only [show ¬ 4 ≤ k by omega, if_false]
  rw [get_set_of_ne _ hstep, get_set_of_ne _ hhalt]

/-- A register field that nothing before the ends of its Sluice entries changes as a core loses what it has, nor these ends. -/
theorem get_coreLose {f : Fld} (c : Nat) (s : State) (hf : Nat.testBit 0x1F0000000000000000000144000D (winBit f.key) = false)
    (hhalt : ∀ t, (haltCleared c t).get f = t.get f) (hend : ∀ k t, (sluEnd k t).get f = t.get f) : (coreLose c s).get f = s.get f := by
  unfold coreLose forEach
  refine List.foldlRecOn (motive := fun t => t.get f = s.get f) _ _ ?_ (fun t ht k _ => (hend k t).trans ht)
  rw [hhalt]
  exact (progressCleared_within (by decide) (nocCoreReset_within (by decide) (clusterCoreReset_within (by decide)
    (sdoCut_within (by decide) (Within.refl _ s))))).get hf

theorem domOn_coreLose (n c : Nat) (s : State) : domOn n (coreLose c s) = domOn n s := by
  have h : (coreLose c s).get (PWR_DOM_STAT_STATE n) = s.get (PWR_DOM_STAT_STATE n) := by
    refine get_coreLose c s (by rw [PWR_DOM_STAT_STATE_win]; decide) (fun t => ?_) (fun k t => get_sluEnd_domState n k t)
    exact (haltCleared_within (by decide) (Within.refl 0x4000000000000000000000000020000 t)).get (by rw [PWR_DOM_STAT_STATE_win]; decide)
  rw [domOn, domOn, domState, domState, h]

theorem get_coreLose_rhalt {c : Nat} (hc : c < 4) (s : State) : (coreLose c s).get (DBG_RUN_RHALT c) = s.get (DBG_RUN_RHALT c) := by
  refine get_coreLose c s (by rw [DBG_RUN_RHALT_win]; decide) (get_haltCleared_rhalt hc c) (fun k t => ?_)
  exact (sluEnd_within (by decide) (Within.refl 0x180060000000011C t)).get (by rw [DBG_RUN_RHALT_win]; decide)

theorem coreHasFirmware_coreLose (n c : Nat) (s : State) : coreHasFirmware n (coreLose c s) = coreHasFirmware n s := by
  have hw : Within 0x4001F0000000000180060000146011D s (coreLose c s) := coreLose_within (by decide) (Within.refl _ s)
  rw [coreHasFirmware, coreHasFirmware, hw.get (by rw [BOOT_STAT_FW_SLOT_win]; decide), hw.get (by rw [BOOT_STAT_IFW_win]; decide)]

theorem coreStart_runs {c : Nat} {s : State} (h : Sparse.Rising s.regs) (hr : s.get (DBG_RUN_RHALT c) = 0) :
    (coreStart c s).get (CORE_STAT_STATE c) = coreRun := by
  have hrun {f : Fld} (hf : winBit f.key = 122) : (CORE_STAT_STATE c).key ≠ f.key :=
    key_ne_of_win (CORE_STAT_STATE_win c) hf (by decide)
  have hhalt : (DBG_RUN_RHALT c).key ≠ (DBG_RUN_HALTED c).key := by
    simp only [DBG_RUN_RHALT, DBG_RUN_HALTED]
    omega
  have hstay : (((s.set (CORE_STAT_STATE c) coreRun).set (DBG_RUN_HALTED c) 0)).on (DBG_RUN_RHALT c) = false := by
    rw [State.on, get_set_of_ne _ hhalt, get_set_of_ne _ (hrun (DBG_RUN_RHALT_win c)).symm, hr]
    rfl
  rw [coreStart]
  simp only [hstay, Bool.false_eq_true, if_false]
  rw [get_set_of_ne _ (hrun (DBG_RUN_HALTED_win c)), get_set_self _ _ h]
  rfl

/-- The reset of a core with power and firmware that is not to halt leaves it running. -/
theorem coreReset_runs {c : Nat} {s : State} (hs : Sound s) (hc : c < 4) (hon : domOn (82 + c) s = true)
    (hfw : coreHasFirmware c s = true) (hr : s.get (DBG_RUN_RHALT c) = 0) : (coreReset c s).get (CORE_STAT_STATE c) = coreRun := by
  have hw : Within anywhere s (coreLose c s) := coreLose_within (by decide) (Within.refl _ s)
  rw [coreReset, coreBegin, domOn_coreLose, hon, coreHasFirmware_coreLose, hfw]
  exact coreStart_runs (hw.rising hs) ((get_coreLose_rhalt hc s).trans hr)

/-- The writers of RST_CTL that may reset a core: cores 0 and 1 and the field interface any, cores 2 and 3 themselves. -/
theorem execCoreReset_of_writer {a : Agent} {c : Fin 4} {s : State}
    (h : a.core01 = true ∨ a.fieldIM = true ∨ (a.init.val = c.val ∧ 2 ≤ c.val)) :
    exec (.coreReset a 0x5A (2 ^ c.val)) s = .next (answer .done (coreReset c.val s)) := by
  obtain ⟨hkey, hwarm, hcore, hbits⟩ : RST_CTL_KEY.of (256 * 0x5A + 2 ^ c.val % 16) = 0x5A ∧
      RST_CTL_WARM.hit (256 * 0x5A + 2 ^ c.val % 16) = false ∧ RST_CTL_CORE.of (256 * 0x5A + 2 ^ c.val % 16) = 2 ^ c.val ∧
      (List.range 4).filter (fun i => bit (2 ^ c.val) i) = [c.val] := by
    clear h
    revert c
    decide
  have hr : wrRstCtl a (256 * 0x5A + 2 ^ c.val % 16) s = (.done, coreReset c.val s) := by
    unfold wrRstCtl
    simp only [hkey, hwarm, hcore, hbits]
    rcases or_assoc.2 h with hw | ⟨hi, h2⟩
    · have hw' : (a.core01 || a.fieldIM) = true := by simpa using hw
      simp [hw', not_core23_of_warmWriter hw, forEach]
    · simp [show c.val = 2 ∨ c.val = 3 by omega, hi, forEach]
  show ok (answered (wrRstCtl a (256 * 0x5A + 2 ^ c.val % 16) s)) = _
  rw [hr]
  rfl

/-! ### The releases of the reset pins (R96, R110) -/

theorem execResetRelease_porst {s : State} (hlow : s.pins.porstLow = true) (hvin : s.power.vin = .on) :
    exec (.resetRelease .porst) s = .next ({ s with pins := { s.pins with porstLow := false } }.set BOOT_STAT_STAGE 1) := by
  show execResetRelease .porst s = _
  simp [execResetRelease, whenOk, hlow, hvin]

theorem execResetRelease_srst {s : State} (hlow : s.pins.srstLow = true) (hp : s.pins.porstLow = false) (hg : 3 ≤ s.get BOOT_STAT_STAGE) :
    exec (.resetRelease .srst) s = .next (stepThree { s with pins := { s.pins with srstLow := false } }) := by
  show execResetRelease .srst s = _
  simp [execResetRelease, whenOk, hlow, hp, show ¬ s.get BOOT_STAT_STAGE < 3 by omega]

/-! ### The ends of the boot steps (R110) -/

theorem execBootStepEnd_of_mayEnd {s : State} (h : bootMayEnd s = true) (ms : Nat) (bad : List Nat) :
    exec (.bootStepEnd ms bad) s = .next (bootStep bad { s with bootMs := ms }) := by
  show execBootStepEnd ms bad s = _
  rw [execBootStepEnd, h]
  rfl

theorem bootStep_of_stage1 (bad : List Nat) {s : State} (h : s.get BOOT_STAT_STAGE = 1) : bootStep bad s = bootAlmanac s := by
  simp only [bootStep, h]

theorem bootStep_of_stage2 (bad : List Nat) {s : State} (h : s.get BOOT_STAT_STAGE = 2) :
    bootStep bad s = stepThree (bootSet BOOT_STAT_STAGE 3 s) := by
  simp only [bootStep, h]

theorem bootStep_of_stage6 (bad : List Nat) {s : State} (h : s.get BOOT_STAT_STAGE = 6) : bootStep bad s = bootInstaller bad s := by
  simp only [bootStep, h]

theorem bootStep_of_stage7 (bad : List Nat) {s : State} (h : s.get BOOT_STAT_STAGE = 7) : bootStep bad s = bootReady s := by
  simp only [bootStep, h]

/-- The time since the release of the reset is no part of what makes a state sound. -/
theorem Sound.bootMs {s : State} (hs : Sound s) (ms : Nat) : Sound { s with bootMs := ms } := hs

theorem bootAlmanac_stage {s : State} (hs : Sound s) : (bootAlmanac s).get BOOT_STAT_STAGE = 2 := by
  have hw : Within anywhere s (ledgerApply (secBoot s)) := ledgerApply_within (by decide) (secBoot_within (by decide) (Within.refl _ s))
  exact get_set_self _ 2 (rising_set _ _ (hw.rising hs))

/-- Boot step 6 ends in step 7, whether the installer firmware starts, is absent or is refused. -/
theorem bootInstaller_stage (bad : List Nat) {s : State} (hs : Sound s) : (bootInstaller bad s).get BOOT_STAT_STAGE = 7 := by
  have hset : (bootSet BOOT_STAT_STAGE 7 s).get BOOT_STAT_STAGE = 7 := get_set_self _ 7 hs.rising
  have hcheck : (firmwareCheck 3 ifwFlash bad (bootSet BOOT_STAT_STAGE 7 s)).2.get BOOT_STAT_STAGE = 7 :=
    ((firmwareCheck_within (by decide) (Within.refl 0xC _)).get (by rw [BOOT_STAT_STAGE_win]; decide)).trans hset
  have hifw (v : Nat) (t : State) : (bootSet BOOT_STAT_IFW v t).get BOOT_STAT_STAGE = t.get BOOT_STAT_STAGE :=
    get_set_of_ne t (by decide) v
  unfold bootInstaller
  dsimp only
  split
  · exact hset
  · split
    · rw [(bootRaise_within (by decide) (Within.refl 0x100000000064000000003C _)).get (by rw [BOOT_STAT_STAGE_win]; decide)]
      rw [get_with_boot, hifw, hcheck]
    · split
      · exact hcheck
      · rw [get_raise, hifw, hcheck]

/-- Firmware is ready at the end of boot step 7. -/
theorem bootReady_ready {s : State} (hs : Sound s) : (bootReady s).get BOOT_STAT_READY = 1 := by
  unfold bootReady
  extract_lets -merge -useContext +onlyGivenNames saved arbs cal audit delivered
  have harbs : Within anywhere s arbs :=
    forNat_within (fun _ _ h => wrArbCtl_within (by decide) h) _ (applyAllSaved_within (by decide) (Within.refl _ s))
  have hcal : Within anywhere s cal := weirBoot_within (by decide) harbs
  have haudit : Within anywhere s audit := Within.ite (audRestart_within (by decide) hcal) hcal
  clear_value audit
  rw [(alReady_within (by decide) (Within.refl 0x180000000000000000000001100000C _)).get (by rw [BOOT_STAT_READY_win]; decide), get_raise]
  exact get_set_self _ 1 (rising_set _ _ (haudit.rising hs))

/-! ### The TAP and THERM_N (R40, R516, R517) -/

theorem tapReset_ir (s : State) : (dbgEnd 1 { s with dbg := { s.dbg with ir := irIdcode } }).dbg.ir = irIdcode := by
  rw [(dbgEnd_within (by decide) (Within.refl 0x600020000000000000000000102000C _)).dbg (by decide)]

theorem execTapUpdate_boundary {l : List Bool} {s : State} (hl : l.length = 14) (ha : tapActs s = irPreload ∨ tapActs s = irExtest) :
    exec (.tapUpdate (.boundary l)) s = .next { s with dbg := { s.dbg with cells := l } } := by
  show execTapUpdate (.boundary l) s = _
  simp [execTapUpdate, whenOk, hl, ha]

theorem execThermalThreshold_of_valid {s : State} (hvin : s.power.vin ≠ .off) (hp : s.pins.porstLow = false)
    (hg : 2 ≤ s.get BOOT_STAT_STAGE) (milliC : Int) :
    exec (.thermalThreshold milliC) s = .next { s with pins := { s.pins with therm := thermLow milliC s.pins.therm } } := by
  show execThermalThreshold milliC s = _
  simp [execThermalThreshold, whenOk, hvin, hp, hg]

/-! ### A DOMAIN reset that ends a load (R102, R150) -/

/-- A load of region 0 has its grant and waits for control core 0's read, the one request that stands at the region's target port. -/
def drainingLoad : State :=
  { State.reset.set (PWR_DOM_STAT_STATE 0) dsOn with
    noc := { State.reset.noc with
      reqs := [⟨0, ⟨0, .none⟩, 32, some 0, 0, ⟨.rd, 0x2000000000, 8, true, 0, 0, []⟩, .port, false, false, false, .done, 0, []⟩] }
    ldr := { State.reset.ldr with job := some ⟨⟨1, 0, 0, 0⟩, 0, .draining, 0⟩ } }

theorem drainingLoad_sound : Sound drainingLoad := by decide

theorem drainingLoad_outstanding : outstanding 0 drainingLoad = 1 := by decide

/-- The reset ends the load, which leaves the region INVALID and its request answered FAULT: nothing is left to wait for. -/
theorem domainReset_drainingLoad :
    ∃ t, exec (.domainReset ⟨0, .none⟩ 0) drainingLoad = .next t ∧ t.power.resetWait = [] ∧ t.power.resetHold = [0] :=
  ⟨_, rfl, by decide, by decide⟩

/-! ### A WARM reset while LANE is the reference (R75, R78) -/

/-- The reference mux selects LANE, which the ACTIVE upward link 0 gives, with MEMS the other source that is OK. -/
def laneReference : State :=
  { ((((State.reset.set (LNK_CTL_ROLE 0) 1).set (LNK_STAT_STATE 0) lnkActive).set CLK_SRC_STAT_OK 0b101).set CLK_SRC_STAT_ACTIVE
      2).set (CLK_SEL_SEL 0) 2 with
    clock := { State.reset.clock with muxAt := [(0, 2)] } }

theorem laneReference_sound : Sound laneReference := by decide

/-- The upward link does not stay ACTIVE through the reset, so LANE is lost and the fallback selects MEMS. -/
theorem warmReset_laneReference : ∃ t, exec .warmReset laneReference = .next t ∧ t.get (CLK_SEL_SEL 0) = 0 :=
  ⟨_, execWarmReset_of_porstHigh rfl, by decide +kernel⟩

/-! ### The statements -/

/-- Settles O17: each clause is the outcome of its command with what its last operation leaves; the frames are those of the reach. -/
theorem resetAndBootCommandsComplete : Obligations.ResetAndBootCommandsComplete := by
  unfold Obligations.ResetAndBootCommandsComplete
  refine ⟨?cold, ?warmPin, ?rstCtl, ?core, ?object, ?delayed, ?porst, ?srst, ?step1, ?step2, ?step6, ?step7, ?tapReset, ?tapIr,
    ?tapBoundary, ?therm⟩
  case cold =>
    intro s hs
    refine ⟨_, rfl, rfl, ?_, fun f hf => ?_, ?_⟩
    · rw [get_with_pins, coldReset_stage hs]
    · rw [get_with_pins, get_coldReset s hf]
    · dsimp only
      rw [coldReset_flash]
  case warmPin =>
    intro s hs hp
    have hl := warmReset_leaves 1 (s := { s with pins := { s.pins with srstLow := true } }) hs
    refine ⟨_, execWarmReset_of_porstHigh hp, ?_, hl.kind, hl.source, hl.count, hl.warm, hl.stage, hl.flash⟩
    rw [hl.pins]
  case rstCtl =>
    intro a s hs ha hp
    have hw := stepThree_warmReset 2 hs
    refine ⟨_, execRstCtlWarm_of_writer ha, rfl, ?_⟩
    simp only [askWarm_of_idle hp, get_answer]
    exact ⟨hw.kind, hw.source, hw.frameCount, hw.stage⟩
  case core =>
    intro a c s hs ha hon hfw hr
    have hw : Within 0x24001F0000000000180060000546011D s (answer .done (coreReset c.val s)) :=
      answer_within (by decide) (coreReset_within (by decide) (Within.refl _ s))
    exact ⟨_, execCoreReset_of_writer ha, rfl, coreReset_runs hs c.isLt hon hfw hr, hw.frame (by decide)⟩
  case object =>
    rintro a value s - ha rfl
    have hw : Within 0x2000001 s (answer .done { s with boot := { s.boot with warmDue := some 3 } }) :=
      answer_within (by decide) (Within.boot_ (by decide) (Within.refl _ s))
    exact ⟨_, execWarmResetObject_of_fieldIM ha s, rfl, rfl, hw.narrow (by decide)⟩
  case delayed =>
    intro src s hs hdue hp
    have hw := stepThree_warmReset src hs
    exact ⟨_, execDelayedWarmReset_of_due hdue hp, hw.source, hw.frameCount, hw.stage, hw.warmDue⟩
  case porst =>
    intro s hs hlow hvin
    have hw : Within 0x80 s { s with pins := { s.pins with porstLow := false } } := Within.pins_ (by decide) (Within.refl _ s)
    exact ⟨_, execResetRelease_porst hlow hvin, rfl, get_set_self _ 1 (hw.rising hs),
      (hw.narrow (by decide)).set (List.mem_singleton_self _) 1⟩
  case srst =>
    intro s hs hlow hp hg
    have hpins : Within 0x10000000006410000000FC s { s with pins := { s.pins with srstLow := false } } :=
      Within.pins_ (by decide) (Within.refl _ s)
    refine ⟨_, execResetRelease_srst hlow hp hg, ?_, stepThree_frameCount (hpins.rising hs),
      (stepThree_within (by decide) hpins).frame (by decide)⟩
    rw [(stepThree_within (by decide) (Within.refl 0x100000000064100000007C _)).pins (by decide)]
  case step1 =>
    intro ms bad s hs h hg
    refine ⟨_, execBootStepEnd_of_mayEnd h ms bad, ?_⟩
    rw [bootStep_of_stage1 bad (s := { s with bootMs := ms }) hg]
    exact bootAlmanac_stage (hs.bootMs ms)
  case step2 =>
    intro ms bad s hs h hg
    refine ⟨_, execBootStepEnd_of_mayEnd h ms bad, ?_⟩
    rw [bootStep_of_stage2 bad (s := { s with bootMs := ms }) hg]
    refine ⟨?_, stepThree_frameCount (rising_set BOOT_STAT_STAGE 3 (hs.bootMs ms).rising)⟩
    rw [get_stepThree (by rw [BOOT_STAT_STAGE_win]; decide)]
    exact get_set_self _ 3 (hs.bootMs ms).rising
  case step6 =>
    intro ms bad s hs h hg
    refine ⟨_, execBootStepEnd_of_mayEnd h ms bad, ?_⟩
    rw [bootStep_of_stage6 bad (s := { s with bootMs := ms }) hg]
    exact bootInstaller_stage bad (hs.bootMs ms)
  case step7 =>
    intro ms bad s hs h hg
    refine ⟨_, execBootStepEnd_of_mayEnd h ms bad, ?_⟩
    rw [bootStep_of_stage7 bad (s := { s with bootMs := ms }) hg]
    exact bootReady_ready (hs.bootMs ms)
  case tapReset =>
    intro s _
    have hw : Within 0x600020000000000000000000502000C s (dbgEnd 1 { s with dbg := { s.dbg with ir := irIdcode } }) :=
      dbgEnd_within (by decide) (Within.dbg_ (by decide) (Within.refl _ s))
    exact ⟨_, rfl, tapReset_ir s, hw.frame (by decide)⟩
  case tapIr =>
    intro c s _
    exact ⟨_, rfl, rfl, (Within.dbg_ (A := 0x4000000) (by decide) (Within.refl _ s)).narrow (by decide)⟩
  case tapBoundary =>
    intro l s _ hl ha
    exact ⟨_, execTapUpdate_boundary hl ha, rfl, (Within.dbg_ (A := 0x4000000) (by decide) (Within.refl _ s)).narrow (by decide)⟩
  case therm =>
    intro milliC s _ hvin hp hg
    exact ⟨_, execThermalThreshold_of_valid hvin hp hg milliC, rfl, (Within.pins_ (A := 0x80) (by decide) (Within.refl _ s)).narrow (by decide)⟩

/-- Refutes O13: the wait for quiescence is judged after the DOMAIN reset of a region has ended the region's load, which answers
what stands at its port (R150), so a request outstanding before it need not make the reset wait. -/
theorem not_domainResetCommandsComplete : ¬ Obligations.DomainResetCommandsComplete := by
  unfold Obligations.DomainResetCommandsComplete
  rintro ⟨-, hWaits, -⟩
  obtain ⟨t, ht, -, -, hwait, -⟩ := hWaits ⟨0, .none⟩ 0 drainingLoad drainingLoad_sound (by decide) (by decide) (by decide)
    (.inl (by rw [show (0 : Fin 96).val = 0 from rfl, drainingLoad_outstanding]; decide))
  obtain ⟨u, hu, hnone, -⟩ := domainReset_drainingLoad
  obtain rfl : t = u := Host.Outcome.next.inj (ht.symm.trans hu)
  rw [hnone] at hwait
  exact absurd hwait List.not_mem_nil

/-- Refutes O54: a WARM reset does not keep the source that the reference mux selects where that is LANE with AUTO set: LANE is lost
with its link, and the fallback writes SEL (R75, R78). -/
theorem not_resetsKeepAndLose : ¬ Obligations.ResetsKeepAndLose := by
  unfold Obligations.ResetsKeepAndLose
  rintro ⟨-, hWarm, -⟩
  obtain ⟨t, ht, -, -, -, -, -, -, -, hsel, -⟩ := hWarm laneReference laneReference_sound rfl rfl
  obtain ⟨u, hu, hmems⟩ := warmReset_laneReference
  obtain rfl : t = u := Host.Outcome.next.inj (ht.symm.trans hu)
  have hkept : t.get (CLK_SEL_SEL 0) = laneReference.get (CLK_SEL_SEL 0) := hsel 0 (by decide)
  rw [hmems] at hkept
  exact absurd hkept (by decide)

end Sys2Proof.Machine
end

section
/-! SUPPORT. The invariants of the whole state: it is sound after reset, every step keeps it so, and Sluice stands within its budget
after reset. -/
namespace Sys2Proof.Machine

/-- A step reaches what it may of the state, the queue of commands aside. -/
theorem step_within {s t : State} (h : step s = .next t) : ∃ q, Within anywhere { s with pending := q } t := by
  cases hq : s.pending with
  | nil =>
    unfold step at h
    rw [hq] at h
    obtain rfl := Host.Outcome.next.inj h
    exact ⟨s.pending, Within.refl _ s⟩
  | cons c rest =>
    obtain ⟨u, hu, hw⟩ := exec_next c { s with pending := rest }
    rw [step_of_front hq] at h
    obtain rfl : u = t := Host.Outcome.next.inj (hu.symm.trans h)
    exact ⟨rest, hw⟩

/-- Settles O4: the state after reset is a literal, whose stores can be looked through. -/
theorem soundAtReset : Obligations.SoundAtReset := by
  unfold Obligations.SoundAtReset
  decide

/-- Settles O5: what a command reaches keeps the canonical forms, and soundness does not speak of the queue of commands. -/
theorem everyStepKeepsSound : Obligations.EveryStepKeepsSound := by
  unfold Obligations.EveryStepKeepsSound
  intro s s' hs h
  obtain ⟨q, hw⟩ := step_within h
  exact hw.sound hs

/-- Settles O9: every entry of the grant table is free after reset. -/
theorem inBudgetAtReset : Obligations.InBudgetAtReset := by
  unfold Obligations.InBudgetAtReset
  decide

end Sys2Proof.Machine
end

section
/-! SUPPORT. Sluice (R57 to R63): where the fields of its entries lie, what its operations leave in an entry, the statements of a
request, a release, a grant cycle, a ramp start and an overrun, and that these commands stay within the budget. -/
namespace Sys2Proof.Machine

/-! ### Places of register fields

A key is 64 times the address of the register plus the lowest bit of the field. -/

theorem key_ne_of_bit {f g : Fld} (h : f.key % 64 ≠ g.key % 64) : f.key ≠ g.key := fun e => h (congrArg (· % 64) e)

theorem key_ne_of_addr {f g : Fld} (h : f.key / 64 ≠ g.key / 64) : f.key ≠ g.key := fun e => h (congrArg (· / 64) e)

/-- What a register field reads comes from the register file alone. -/
theorem get_congr {s t : State} (h : t.regs = s.regs) (f : Fld) : t.get f = s.get f := congrArg (regGet f) h

/-- A field at another bit of its register than the one written stays. -/
theorem get_set_of_bit (s : State) {f g : Fld} (h : g.key % 64 ≠ f.key % 64) (v : Nat) : (s.set f v).get g = s.get g :=
  get_set_of_ne s (key_ne_of_bit h) v

/-- A field of another register than the one written stays. -/
theorem get_set_of_addr (s : State) {f g : Fld} (h : g.key / 64 ≠ f.key / 64) (v : Nat) : (s.set f v).get g = s.get g :=
  get_set_of_ne s (key_ne_of_addr h) v

/-- A field of another block than the one written stays. -/
theorem get_set_of_win (s : State) {f g : Fld} {v w : Nat} (hg : winBit g.key = v) (hf : winBit f.key = w) (h : v ≠ w) (x : Nat) :
    (s.set f x).get g = s.get g :=
  get_set_of_ne s (key_ne_of_win hg hf h) x

/-- The address of an entry of the grant table. -/
def entAddr (k : Nat) : Nat := 0x3001001000 + 0x8 * (k % 128)

theorem entAddr_ne {j k : Nat} (hj : j < 128) (hk : k < 128) (h : j ≠ k) : entAddr j ≠ entAddr k := by
  unfold entAddr
  omega

@[simp] theorem SLU_ENT_GEN_bit (k : Nat) : (SLU_ENT_GEN k).key % 64 = 55 := Nat.mul_add_mod _ _ _
@[simp] theorem SLU_ENT_SKIPS_bit (k : Nat) : (SLU_ENT_SKIPS k).key % 64 = 51 := Nat.mul_add_mod _ _ _
@[simp] theorem SLU_ENT_STATE_bit (k : Nat) : (SLU_ENT_STATE k).key % 64 = 49 := Nat.mul_add_mod _ _ _
@[simp] theorem SLU_ENT_INITIATOR_bit (k : Nat) : (SLU_ENT_INITIATOR k).key % 64 = 43 := Nat.mul_add_mod _ _ _
@[simp] theorem SLU_ENT_TARGET_bit (k : Nat) : (SLU_ENT_TARGET k).key % 64 = 36 := Nat.mul_add_mod _ _ _
@[simp] theorem SLU_ENT_CLASS_bit (k : Nat) : (SLU_ENT_CLASS k).key % 64 = 32 := Nat.mul_add_mod _ _ _
@[simp] theorem SLU_ENT_REMAIN_bit (k : Nat) : (SLU_ENT_REMAIN k).key % 64 = 16 := Nat.mul_add_mod _ _ _
@[simp] theorem SLU_ENT_CURRENT_bit (k : Nat) : (SLU_ENT_CURRENT k).key % 64 = 0 := Nat.mul_add_mod _ _ _

@[simp] theorem SLU_ENT_GEN_addr (k : Nat) : (SLU_ENT_GEN k).key / 64 = entAddr k := Nat.mul_add_div (by decide) _ _
@[simp] theorem SLU_ENT_SKIPS_addr (k : Nat) : (SLU_ENT_SKIPS k).key / 64 = entAddr k := Nat.mul_add_div (by decide) _ _
@[simp] theorem SLU_ENT_STATE_addr (k : Nat) : (SLU_ENT_STATE k).key / 64 = entAddr k := Nat.mul_add_div (by decide) _ _
@[simp] theorem SLU_ENT_INITIATOR_addr (k : Nat) : (SLU_ENT_INITIATOR k).key / 64 = entAddr k := Nat.mul_add_div (by decide) _ _
@[simp] theorem SLU_ENT_TARGET_addr (k : Nat) : (SLU_ENT_TARGET k).key / 64 = entAddr k := Nat.mul_add_div (by decide) _ _
@[simp] theorem SLU_ENT_CLASS_addr (k : Nat) : (SLU_ENT_CLASS k).key / 64 = entAddr k := Nat.mul_add_div (by decide) _ _
@[simp] theorem SLU_ENT_REMAIN_addr (k : Nat) : (SLU_ENT_REMAIN k).key / 64 = entAddr k := Nat.mul_add_div (by decide) _ _
@[simp] theorem SLU_ENT_CURRENT_addr (k : Nat) : (SLU_ENT_CURRENT k).key / 64 = entAddr k := Nat.mul_add_div (by decide) _ _

/-- A value read from a field of a written word fits a field as wide. -/
theorem Fld.of_mod (f : Fld) (v : Nat) : f.of v % 2 ^ f.width = f.of v := Nat.mod_mod _ _

theorem spGet_spSet_of_ne_zero {v : Nat} (h : v ≠ 0) (k : Nat) (m : Sparse) : spGet k (spSet k v m) = v := by
  unfold spGet spSet spGetD spSetD
  rw [if_neg h, spFind_spPut_self]
  rfl

/-! ### A grant (R61) -/

theorem grantEntry_regs (k : Nat) (s : State) :
    (grantEntry k s).regs = ((s.set (SLU_ENT_STATE k) 2).set (SLU_ENT_REMAIN k) (spGet k s.power.dur)).regs := by
  unfold grantEntry
  dsimp only
  split <;> rfl

/-- A grant writes STATE and REMAIN of its entry alone. -/
theorem get_grantEntry {f : Fld} {k : Nat} (s : State) (h : f.key ≠ (SLU_ENT_STATE k).key) (h' : f.key ≠ (SLU_ENT_REMAIN k).key) :
    (grantEntry k s).get f = s.get f := by
  rw [get_congr (grantEntry_regs k s) _, get_set_of_ne _ h', get_set_of_ne _ h]

theorem grantEntry_state {s : State} (h : Sparse.Rising s.regs) (k : Nat) : (grantEntry k s).get (SLU_ENT_STATE k) = 2 := by
  rw [get_congr (grantEntry_regs k s) _, get_set_of_bit _ (by simp)]
  exact get_set_self _ 2 h

theorem rising_grantEntry {s : State} (h : Sparse.Rising s.regs) (k : Nat) : Sparse.Rising (grantEntry k s).regs := by
  rw [grantEntry_regs]
  exact rising_set _ _ (rising_set _ _ h)

theorem grantEntry_queue (k : Nat) (s : State) : (grantEntry k s).power.queue = s.power.queue.erase k := by
  unfold grantEntry
  dsimp only
  split <;> rfl

theorem grantEntry_ticket (k : Nat) (s : State) : (grantEntry k s).power.ticket = s.power.ticket := by
  unfold grantEntry
  dsimp only
  split <;> rfl

/-! ### A request placed (R59) -/

/-- A request is granted at once. -/
abbrev grantsAtOnce (r : PartReq) (s : State) : Bool := s.power.queue.isEmpty && sluFits r.cls r.current s

/-- The GEN with which an entry is used next. -/
def nextGen (k : Nat) (s : State) : Nat := if k ∈ s.power.used then s.get (SLU_ENT_GEN k) + 1 else s.get (SLU_ENT_GEN k)

/-- The registers of an entry that a request has taken, before it is granted. -/
def entTaken (k : Nat) (r : PartReq) (s : State) : State :=
  (((((((s.set (SLU_ENT_GEN k) (nextGen k s)).set (SLU_ENT_SKIPS k) 0).set (SLU_ENT_STATE k) 1).set (SLU_ENT_INITIATOR k) r.init).set
    (SLU_ENT_TARGET k) r.target).set (SLU_ENT_CLASS k) r.cls).set (SLU_ENT_REMAIN k) 0).set (SLU_ENT_CURRENT k) r.current

/-- The state in which a request has taken entry `k`, before the entry is granted. -/
def placed (k : Nat) (r : PartReq) (s : State) : State :=
  { entTaken k r s with power := { s.power with
      used := if k ∈ s.power.used then s.power.used else s.power.used ++ [k]
      purpose := spSet k r.purpose s.power.purpose
      dur := spSet k r.duration s.power.dur
      ticket := spSet r.init ((if grantsAtOnce r s then 65536 else 0) + ticketOf k (entTaken k r s)) s.power.ticket
      queue := if grantsAtOnce r s then s.power.queue else s.power.queue ++ [k] } }

theorem sluEnter_eq (k : Nat) (r : PartReq) (s : State) :
    sluEnter k r s = if grantsAtOnce r s then grantEntry k (placed k r s) else placed k r s := rfl

theorem placed_regs (k : Nat) (r : PartReq) (s : State) : (placed k r s).regs = (entTaken k r s).regs := rfl

theorem rising_entTaken {s : State} (h : Sparse.Rising s.regs) (k : Nat) (r : PartReq) : Sparse.Rising (entTaken k r s).regs := by
  unfold entTaken
  iterate 8 apply rising_set
  exact h

theorem rising_sluEnter {s : State} (h : Sparse.Rising s.regs) (k : Nat) (r : PartReq) : Sparse.Rising (sluEnter k r s).regs := by
  rw [sluEnter_eq]
  split
  · exact rising_grantEntry (s := placed k r s) (rising_entTaken h k r) k
  · exact rising_entTaken h k r

section
variable {s : State} (k : Nat) (r : PartReq)

theorem get_entTaken_of_addr {f : Fld} (h : f.key / 64 ≠ entAddr k) : (entTaken k r s).get f = s.get f := by
  unfold entTaken
  simp (disch := simpa) only [get_set_of_addr]

/-- A request placed writes its own entry alone. -/
theorem get_sluEnter_of_addr {f : Fld} (h : f.key / 64 ≠ entAddr k) : (sluEnter k r s).get f = s.get f := by
  rw [sluEnter_eq]
  split
  · rw [get_grantEntry _ (key_ne_of_addr (by simpa)) (key_ne_of_addr (by simpa)), get_congr (placed_regs k r s),
      get_entTaken_of_addr k r h]
  · rw [get_congr (placed_regs k r s), get_entTaken_of_addr k r h]

/-- What a grant at once leaves beside STATE and REMAIN, an entry that waits has too. -/
theorem get_sluEnter_of_bit {f : Fld} (h : f.key % 64 ≠ 49) (h' : f.key % 64 ≠ 16) : (sluEnter k r s).get f = (entTaken k r s).get f := by
  rw [sluEnter_eq]
  split
  · rw [get_grantEntry _ (key_ne_of_bit (by simpa)) (key_ne_of_bit (by simpa)), get_congr (placed_regs k r s)]
  · exact get_congr (placed_regs k r s) f

variable (hs : Sparse.Rising s.regs)
include hs

theorem entTaken_state : (entTaken k r s).get (SLU_ENT_STATE k) = 1 := by
  unfold entTaken
  simp (disch := simp) only [get_set_of_bit]
  exact get_set_self _ 1 (rising_set _ _ (rising_set _ _ hs))

theorem sluEnter_state : (sluEnter k r s).get (SLU_ENT_STATE k) = if grantsAtOnce r s then 2 else 1 := by
  rw [sluEnter_eq]
  split
  · exact grantEntry_state (s := placed k r s) (rising_entTaken hs k r) k
  · exact (get_congr (placed_regs k r s) _).trans (entTaken_state k r hs)

theorem sluEnter_initiator : (sluEnter k r s).get (SLU_ENT_INITIATOR k) = r.init % 64 := by
  rw [get_sluEnter_of_bit k r (by simp) (by simp), entTaken]
  simp (disch := simp) only [get_set_of_bit]
  exact get_set_self _ _ (rising_set _ _ (rising_set _ _ (rising_set _ _ hs)))

theorem sluEnter_target : (sluEnter k r s).get (SLU_ENT_TARGET k) = r.target % 128 := by
  rw [get_sluEnter_of_bit k r (by simp) (by simp), entTaken]
  simp (disch := simp) only [get_set_of_bit]
  exact get_set_self _ _ (rising_set _ _ (rising_set _ _ (rising_set _ _ (rising_set _ _ hs))))

theorem sluEnter_class : (sluEnter k r s).get (SLU_ENT_CLASS k) = r.cls % 16 := by
  rw [get_sluEnter_of_bit k r (by simp) (by simp), entTaken]
  simp (disch := simp) only [get_set_of_bit]
  exact get_set_self _ _ (rising_set _ _ (rising_set _ _ (rising_set _ _ (rising_set _ _ (rising_set _ _ hs)))))

theorem sluEnter_current : (sluEnter k r s).get (SLU_ENT_CURRENT k) = r.current % 65536 := by
  rw [get_sluEnter_of_bit k r (by simp) (by simp), entTaken]
  exact get_set_self _ _
    (rising_set _ _ (rising_set _ _ (rising_set _ _ (rising_set _ _ (rising_set _ _ (rising_set _ _ (rising_set _ _ hs)))))))

end

/-- The answer's ticket shows a grant at once (SLU_MYTICKET). -/
theorem sluEnter_ticket {k : Nat} {r : PartReq} {s : State} (h : grantsAtOnce r s = true) :
    spGet r.init (sluEnter k r s).power.ticket = 65536 + ticketOf k (sluEnter k r s) := by
  have hgen : (sluEnter k r s).get (SLU_ENT_GEN k) = (entTaken k r s).get (SLU_ENT_GEN k) := get_sluEnter_of_bit k r (by simp) (by simp)
  unfold ticketOf
  rw [hgen, sluEnter_eq, if_pos h, grantEntry_ticket]
  simp only [placed, h, if_true]
  exact spGet_spSet_of_ne_zero (by omega) _ _

theorem sluEnter_queue_of_grant {k : Nat} {r : PartReq} {s : State} (h : grantsAtOnce r s = true) :
    (sluEnter k r s).power.queue = s.power.queue.erase k := by
  rw [sluEnter_eq, if_pos h, grantEntry_queue]
  simp only [placed, h, if_true]

theorem sluEnter_queue_of_wait {k : Nat} {r : PartReq} {s : State} (h : grantsAtOnce r s = false) :
    (sluEnter k r s).power.queue = s.power.queue ++ [k] := by
  rw [sluEnter_eq, if_neg (by simp [h])]
  simp only [placed, h, Bool.false_eq_true, if_false]

theorem freeEntry_some {k : Nat} {s : State} (h : freeEntry s = some k) : k < 128 ∧ s.get (SLU_ENT_STATE k) = 0 :=
  ⟨List.mem_range.1 (List.mem_of_find?_eq_some h), by simpa using List.find?_some h⟩

theorem sluPlace_of_room {r : PartReq} {again : Bool} {k : Nat} {s : State} (hk : freeEntry s = some k)
    (hr : s.power.queue.length < 64 ∨ grantsAtOnce r s = true) : sluPlace r again s = (some k, sluEnter k r s) := by
  have hroom : sluRoom r.cls r.current s = true := by
    unfold sluRoom
    simpa [hk] using hr
  unfold sluPlace
  rw [hk]
  exact if_pos hroom

theorem sluPlace_of_full {r : PartReq} {again : Bool} {s : State} (h : freeEntry s = none ∨ s.power.queue.length = 64) :
    sluPlace r again s = (none, sluRefuse r again s) := by
  unfold sluPlace
  cases hk : freeEntry s with
  | none => rfl
  | some k =>
    have hlen : s.power.queue.length = 64 := h.resolve_left (by simp [hk])
    have hne : s.power.queue ≠ [] := List.ne_nil_of_length_eq_add_one hlen
    have hroom : sluRoom r.cls r.current s = false := by
      unfold sluRoom
      simp [hlen, hne]
    exact if_neg (by simp [hroom])

/-! ### SLU_REQ (R57, R59) -/

/-- The request that a value written to SLU_REQ spells, for the agent that writes it. -/
def requested (a : Agent) (value : Nat) : PartReq :=
  ⟨SLU_REQ_CLASS.of value, SLU_REQ_TARGET.of value, SLU_REQ_CURRENT.of value, SLU_REQ_DURATION.of value, a.init.val, 0⟩

/-- What R57 checks of a value written to SLU_REQ. -/
abbrev requestCheck (value : Nat) (s : State) : Status :=
  sluCheck (SLU_REQ_CLASS.of value) (SLU_REQ_TARGET.of value) (SLU_REQ_CURRENT.of value) (SLU_REQ_DURATION.of value) s

section
variable {a : Agent} {value : Nat} {s t : State}

theorem execSluiceRequest_of_placed {k : Nat} (h : requestCheck value s = .done)
    (hp : sluPlace (requested a value) false s = (some k, t)) :
    exec (.sluiceRequest a value) s = .next { t with resp := ⟨.done, spGet a.init.val t.power.ticket, []⟩ } := by
  show execSluiceRequest a value s = _
  unfold requested at hp
  simp only [execSluiceRequest, wrSluReq, sluSubmit, h, hp, if_true, ok]

theorem execSluiceRequest_of_refused (h : requestCheck value s = .done)
    (hp : sluPlace (requested a value) false s = (none, t)) : exec (.sluiceRequest a value) s = .next (answer .retry t) := by
  show execSluiceRequest a value s = _
  unfold requested at hp
  simp [execSluiceRequest, wrSluReq, sluSubmit, h, hp, ok]

theorem execSluiceRequest_of_invalid (h : requestCheck value s ≠ .done) :
    exec (.sluiceRequest a value) s = .next (answer (requestCheck value s) s) := by
  have hr : wrSluReq a value s = (requestCheck value s, s) := by
    unfold wrSluReq sluSubmit
    split
    · exact absurd ‹_› h
    · rfl
  show execSluiceRequest a value s = _
  simp only [execSluiceRequest, hr, if_neg h, ok, answered_eq]

end

/-- A state that a command answers lies within the command's reach. -/
theorem OutWithin.of_next {A : Nat} {u t : State} {o : Out} (h : OutWithin A u o) (ho : o = .next t) : Within A u t := by
  obtain ⟨v, hv, hw⟩ := h
  obtain rfl : v = t := Host.Outcome.next.inj (hv.symm.trans ho)
  exact hw

theorem execSluiceRequest_frame {a : Agent} {value : Nat} {s t : State} (h : exec (.sluiceRequest a value) s = .next t) :
    Frame [.resp, .events, .trace, .power, .profile] [.sluice, .sluiceEntries] s t :=
  ((execSluiceRequest_within (Sub.refl _) (Within.refl _ s)).of_next h).frame (by decide)

theorem Narrow.refl (parts : List Part) (l : List Fld) (s : State) : Narrow parts l s s :=
  (Within.refl 0 s).narrow rfl

/-- A refusal counts in REFUSED and raises an event, no more. -/
theorem sluRefuse_answer_narrow (r : PartReq) (s : State) :
    Narrow [.resp, .events, .trace] [SLU_STAT_REFUSED] s (answer .retry (sluRefuse r false s)) := by
  have hcount := (Narrow.refl [.resp, .events, .trace] [SLU_STAT_REFUSED] s).set (List.mem_singleton_self _)
    (min (s.get SLU_STAT_REFUSED + 1) (2 ^ SLU_STAT_REFUSED.width - 1))
  have hraise : Within 0xD (s.count SLU_STAT_REFUSED 1) (answer .retry (sluRefuse r false s)) :=
    answer_within (by decide) (raise_within (by decide) (Within.refl _ _))
  exact hcount.trans (hraise.narrow (by decide))

/-- Settles O10: a request with room takes the lowest free entry, granted at once or last in the queue; one without is refused. -/
theorem sluiceRequestRule : Obligations.SluiceRequestRule := by
  unfold Obligations.SluiceRequestRule
  refine ⟨?granted, ?queued, ?refused⟩
  case granted =>
    intro a value k s hs hcheck hk hempty hfits
    have hgrant : grantsAtOnce (requested a value) s = true := by simpa [requested, hempty] using hfits
    have he := execSluiceRequest_of_placed hcheck (sluPlace_of_room (r := requested a value) (again := false) hk (.inr hgrant))
    refine ⟨_, he, rfl, ?_, ?_, ?_, ?_, ?_, ?_, ?_, execSluiceRequest_frame he⟩
    · exact sluEnter_ticket hgrant
    · simpa only [get_with_resp, hgrant, if_true] using sluEnter_state k (requested a value) hs.rising
    · exact (sluEnter_class k (requested a value) hs.rising).trans (SLU_REQ_CLASS.of_mod value)
    · exact (sluEnter_target k (requested a value) hs.rising).trans (SLU_REQ_TARGET.of_mod value)
    · exact (sluEnter_initiator k (requested a value) hs.rising).trans (Nat.mod_eq_of_lt a.init.isLt)
    · exact (sluEnter_current k (requested a value) hs.rising).trans (SLU_REQ_CURRENT.of_mod value)
    · exact (sluEnter_queue_of_grant hgrant).trans (by rw [hempty, List.erase_nil])
  case queued =>
    intro a value k s hs hcheck hk hlen hwait
    have hwait : grantsAtOnce (requested a value) s = false := by simpa [grantsAtOnce, requested] using hwait
    have he := execSluiceRequest_of_placed hcheck (sluPlace_of_room (r := requested a value) (again := false) hk (.inl hlen))
    refine ⟨_, he, rfl, ?_, ?_, ?_, sluEnter_queue_of_wait hwait, execSluiceRequest_frame he⟩
    · simpa only [get_with_resp, hwait, Bool.false_eq_true, if_false] using sluEnter_state k (requested a value) hs.rising
    · exact (sluEnter_class k (requested a value) hs.rising).trans (SLU_REQ_CLASS.of_mod value)
    · exact (sluEnter_initiator k (requested a value) hs.rising).trans (Nat.mod_eq_of_lt a.init.isLt)
  case refused =>
    intro a value s hs hcheck hfull
    have he := execSluiceRequest_of_refused hcheck (sluPlace_of_full (r := requested a value) (again := false) hfull)
    refine ⟨_, he, rfl, ?_, sluRefuse_answer_narrow _ s⟩
    exact (get_raise _ _ _ _).trans (get_count_self SLU_STAT_REFUSED 1 hs.rising)

/-! ### The end of an entry (R63) -/

/-- The end of a wish to raise a domain writes ENABLE_PENDING of the domain alone. -/
theorem get_endWish {f : Fld} (n : Nat) (s : State) (h : f.key ≠ (PWR_DOM_STAT_ENABLE_PENDING n).key) : (endWish n s).get f = s.get f :=
  get_set_of_ne s h 0

theorem rising_endWish {s : State} (n : Nat) (h : Sparse.Rising s.regs) : Sparse.Rising (endWish n s).regs :=
  rising_set (PWR_DOM_STAT_ENABLE_PENDING n) 0 h

/-- The registers of an entry that is free again. -/
def entFreed (k : Nat) (s : State) : State := ((s.set (SLU_ENT_STATE k) 0).set (SLU_ENT_REMAIN k) 0).set (SLU_ENT_SKIPS k) 0

/-- Freeing an entry may end the wish that waited for it. -/
theorem sluDrop_regs (k : Nat) (s : State) :
    (sluDrop k s).regs = (entFreed k s).regs ∨ ∃ n, (sluDrop k s).regs = (entFreed k (endWish n s)).regs := by
  unfold sluDrop
  dsimp only
  split
  · exact .inr ⟨_, rfl⟩
  · exact .inl rfl

theorem entFreed_state {s : State} (h : Sparse.Rising s.regs) (k : Nat) : (entFreed k s).get (SLU_ENT_STATE k) = 0 := by
  unfold entFreed
  rw [get_set_of_bit _ (by simp), get_set_of_bit _ (by simp)]
  exact get_set_self _ 0 h

theorem sluDrop_state {s : State} (h : Sparse.Rising s.regs) (k : Nat) : (sluDrop k s).get (SLU_ENT_STATE k) = 0 := by
  rcases sluDrop_regs k s with hr | ⟨n, hr⟩
  · rw [get_congr hr, entFreed_state h]
  · rw [get_congr hr, entFreed_state (rising_endWish n h)]

/-- Beside what freeing the entry does, its end reaches the Jets' registers and events alone. -/
theorem sluEnd_within_drop (k : Nat) (s : State) : Within 0x180000000000010C (sluDrop k s) (sluEnd k s) := by
  unfold sluEnd
  dsimp only
  split
  · exact lowerMaxrate_within (by decide) (Within.refl _ _)
  · split
    · exact pmuGrantLost_within (by decide) (Within.refl _ _)
    · exact Within.refl _ _

theorem sluEnd_state {s : State} (h : Sparse.Rising s.regs) (k : Nat) : (sluEnd k s).get (SLU_ENT_STATE k) = 0 :=
  ((sluEnd_within_drop k s).get (by rw [SLU_ENT_STATE_win]; decide)).trans (sluDrop_state h k)

/-! ### Releases (R63) -/

/-- A pending profile change that has lost its request. -/
def profileLost (k : Nat) (s : State) : State :=
  { (sluEnd k (s.set SYS_PROFILE_PENDING 0)).set SYS_PROFILE_RESULT 6 with profile := { s.profile with entry := none, granted := false } }

theorem sluRelease_of_owner {init ticket k : Nat} {s : State} (hk : ticketEntry ticket s = some k)
    (ho : s.get (SLU_ENT_INITIATOR k) = init ∨ init < 2) :
    sluRelease init ticket s = (.done, if s.profile.entry = some k then profileLost k s else sluEnd k s) := by
  unfold sluRelease
  rw [hk]
  dsimp only
  rw [if_neg (by tauto)]
  split <;> rfl

/-- A release that is not the owner's, or of a ticket that names no entry, changes nothing. -/
theorem sluRelease_cases (init ticket : Nat) (s : State) :
    (sluRelease init ticket s).2 = s ∨ ∃ k, (sluRelease init ticket s).2 = if s.profile.entry = some k then profileLost k s else sluEnd k s := by
  cases hk : ticketEntry ticket s with
  | none =>
    left
    unfold sluRelease
    rw [hk]
  | some k =>
    by_cases ho : s.get (SLU_ENT_INITIATOR k) = init ∨ init < 2
    · exact .inr ⟨k, by rw [sluRelease_of_owner hk ho]⟩
    · left
      unfold sluRelease
      rw [hk]
      dsimp only
      rw [if_pos (by tauto)]

theorem profileLost_state {s : State} (h : Sparse.Rising s.regs) (k : Nat) : (profileLost k s).get (SLU_ENT_STATE k) = 0 := by
  unfold profileLost
  rw [get_with_profile, get_set_of_win _ (SLU_ENT_STATE_win k) SYS_PROFILE_RESULT_win (by decide)]
  exact sluEnd_state (rising_set _ _ h) k

/-! ### The grant cycle (R60) -/

/-- The frame has come as far as slot `j`. -/
def inSlot (j : Nat) (s : State) : State := { s with clock := { s.clock with slot := j } }

/-- The requests that a grant cycle has yet to visit. -/
def withCycle (l : List Nat) (s : State) : State := { s with power := { s.power with cycle := l } }

/-- The grants whose ramps are due. -/
def withRamp (l : List Nat) (s : State) : State := { s with power := { s.power with ramp := l } }

theorem inDuty_of_slot {d : Nat} {p : Nat → Bool} {s : State} (h : (dutySlot d p s).isSome = true) (f : State → Out) :
    ∃ j, inDuty d p s f = f (inSlot j s) := by
  obtain ⟨j, hj⟩ := Option.isSome_iff_exists.1 h
  exact ⟨j, by unfold inDuty; rw [hj]; rfl⟩

theorem inDuty_of_noSlot {d : Nat} {p : Nat → Bool} {s : State} (h : (dutySlot d p s).isSome = false) (f : State → Out) :
    inDuty d p s f = .next s := by
  unfold inDuty
  rw [Option.isSome_eq_false_iff, Option.isNone_iff_eq_none] at h
  rw [h]

theorem exec_sluiceGrantCycle_eq (visits : Nat) (s : State) :
    exec (.sluiceGrantCycle visits) s = inDuty 1 anySlot s (fun t => ok (visit visits t)) := rfl

/-- One visit leaves what it visits granted, passed over, or blocking the rest of the cycle. -/
theorem visit_succ {k : Nat} {l : List Nat} {s : State} (h : s.power.cycle = k :: l) (n : Nat) : visit (n + 1) s =
    if sluFits (s.get (SLU_ENT_CLASS k)) (s.get (SLU_ENT_CURRENT k)) s then
      visit n (grantEntry k (withCycle l s))
    else if s.get (SLU_ENT_SKIPS k) = 8 ∧ s.get (SLU_ENT_CLASS k) ≠ clsProfile then withCycle [] s
    else visit n ((withCycle l s).set (SLU_ENT_SKIPS k) (min 8 (s.get (SLU_ENT_SKIPS k) + 1))) := by
  rw [visit, h]
  rfl

theorem visit_of_fits {k : Nat} {l : List Nat} {s : State} (h : s.power.cycle = k :: l)
    (hf : sluFits (s.get (SLU_ENT_CLASS k)) (s.get (SLU_ENT_CURRENT k)) s = true) (n : Nat) :
    visit (n + 1) s = visit n (grantEntry k (withCycle l s)) :=
  (visit_succ h n).trans (if_pos hf)

theorem visit_of_done {s : State} (h : s.power.cycle = []) (n : Nat) : visit n s = s := by
  cases n with
  | zero => rfl
  | succ n => rw [visit, h]

/-- A property that a grant of what fits keeps, and what passes a request over too, holds after any number of visits. -/
theorem visit_induct {P : State → Prop} (hcycle : ∀ l t, P t → P (withCycle l t))
    (hgrant : ∀ k t, sluFits (t.get (SLU_ENT_CLASS k)) (t.get (SLU_ENT_CURRENT k)) t = true → P t → P (grantEntry k t))
    (hskip : ∀ k v t, P t → P (t.set (SLU_ENT_SKIPS k) v)) (n : Nat) {s : State} (h : P s) : P (visit n s) := by
  induction n generalizing s with
  | zero => exact h
  | succ n ih =>
    cases hc : s.power.cycle with
    | nil =>
      rw [visit_of_done hc]
      exact h
    | cons k l =>
      rw [visit_succ hc]
      split
      · exact ih (hgrant k _ ‹_› (hcycle l s h))
      · split
        · exact hcycle [] s h
        · exact ih (hskip k _ _ (hcycle l s h))

/-- An entry that is granted stays so through the visits of a grant cycle. -/
theorem visit_state_granted (k n : Nat) {s : State} (hs : Sparse.Rising s.regs) (h : s.get (SLU_ENT_STATE k) = 2) :
    (visit n s).get (SLU_ENT_STATE k) = 2 := by
  refine (visit_induct (P := fun t => Sparse.Rising t.regs ∧ t.get (SLU_ENT_STATE k) = 2) (fun _ _ ht => ht) ?_ ?_ n ⟨hs, h⟩).2
  · intro j t _ ⟨ht, hk⟩
    refine ⟨rising_grantEntry ht j, ?_⟩
    by_cases hj : (SLU_ENT_STATE k).key = (SLU_ENT_STATE j).key
    · have hfld : SLU_ENT_STATE k = SLU_ENT_STATE j := by
        unfold SLU_ENT_STATE at hj ⊢
        simpa using hj
      rw [hfld]
      exact grantEntry_state ht j
    · rw [get_grantEntry t hj (key_ne_of_bit (by simp)), hk]
  · intro j v t ⟨ht, hk⟩
    exact ⟨rising_set _ _ ht, by rw [get_set_of_bit _ (by simp), hk]⟩

/-! ### Overruns (R62) -/

/-- The event of an overrun. -/
def overdueItems (k : Nat) (s : State) : List EvItem :=
  [⟨2, ticketOf k s⟩, ⟨1, s.get (SLU_ENT_INITIATOR k)⟩, ⟨1, s.get (SLU_ENT_CLASS k)⟩]

theorem exec_grantOverdue_eq (e : Fin 128) (s : State) : exec (.grantOverdue e) s =
    whenOk (s.get (SLU_ENT_STATE e.val) == 2 && spGet e.val s.power.dur != 0 && s.get (SLU_ENT_REMAIN e.val) == 0) s
      (raise 0x0204 (overdueItems e.val s) (s.set (SLU_ENT_STATE e.val) 3)) := rfl

/-! ### Ramp starts (R51, R61) -/

theorem exec_sluiceRampStart_of_ramp {k : Nat} {l : List Nat} {s : State} (h : s.power.ramp = k :: l) :
    exec .sluiceRampStart s = .next (rampStart k (withRamp l s)) := by
  show execSluiceRampStart s = _
  unfold execSluiceRampStart
  rw [h]
  rfl

/-- No operation of the part waits for the grant of an entry without a purpose. -/
theorem rampStart_of_noPurpose {k : Nat} {s : State} (h : spGet k s.power.purpose = 0) : rampStart k s = s := by
  unfold rampStart
  rw [h]
  rfl

theorem rampStart_of_raise {k n : Nat} {s : State} (hn : n < 96) (hp : spGet k s.power.purpose = forRaise n)
    (ht : s.get (PWR_DOM_CTL_TARGET n) = tgtOn) (hd : domState n s = dsOff ∨ domState n s = dsRetain) :
    rampStart k s = startRaising n s := by
  unfold rampStart
  simp only [hp, forRaise, forRillPass, forLifecycle, forEdition, forLedger, Nat.add_sub_cancel_left, ht, hd, and_self, if_true]
  rw [if_neg (by omega), if_neg (by omega), if_pos (by omega)]

/-- The ramp of a raise begins: RAISING, with the wish forgotten. -/
theorem startRaising_state {s : State} (h : Sparse.Rising s.regs) (n : Nat) : domState n (startRaising n s) = dsRaising :=
  (get_endWish_domState n n _).trans (get_set_self _ _ h)

theorem startRaising_narrow (n : Nat) (s : State) :
    Narrow [.power] [PWR_DOM_STAT_STATE n, PWR_DOM_STAT_ENABLE_PENDING n] s (startRaising n s) :=
  (((Narrow.refl _ _ s).set List.mem_cons_self dsRaising).set (List.mem_cons_of_mem _ (List.mem_singleton_self _)) 0).trans
    ((Within.power_ (A := 0x10) (by decide) (Within.refl _ _)).narrow (by decide))

theorem ramp_narrow (l : List Nat) (flds : List Fld) (s : State) :
    Narrow [.power] flds s (withRamp l s) :=
  (Within.power_ (A := 0x10) (by decide) (Within.refl _ s)).narrow (by decide)

/-- Settles O11: a release ends its entry, a grant lasts through the rest of its cycle, a ramp starts the raise that waited for it. -/
theorem sluiceCommandsComplete : Obligations.SluiceCommandsComplete := by
  unfold Obligations.SluiceCommandsComplete
  refine ⟨?release, ?grantCycle, ?raise, ?noPurpose, ?overdue⟩
  case release =>
    intro a ticket k s hs hk ho
    have he : exec (.sluiceRelease a ticket) s = .next (answered (sluRelease a.init.val (ticket % 65536) s)) := rfl
    have hframe := ((execSluiceRelease_within (Sub.refl _) (Within.refl _ s)).of_next he).frame
      (parts := [.resp, .events, .trace, .power, .profile, .jets])
      (blocks := [.profile, .sluiceEntries, .domains, .jetBanks, .jetChannels]) (by decide)
    rw [sluRelease_of_owner hk ho] at he hframe
    refine ⟨_, he, rfl, ?_, hframe⟩
    rw [answered_eq, get_answer]
    split
    · exact profileLost_state hs.rising k
    · exact sluEnd_state hs.rising k
  case grantCycle =>
    rintro (_ | visits) k l s hs hslot hvisits hcycle hfits
    · omega
    · obtain ⟨j, hj⟩ := inDuty_of_slot hslot (fun t => ok (visit (visits + 1) t))
      have hframe := ((execSluiceGrantCycle_within (visits := visits + 1) (Sub.refl _) (Within.refl _ s)).of_next hj).frame
        (parts := [.power, .profile, .clock]) (blocks := [.sluiceEntries]) (by decide)
      refine ⟨_, hj, ?_, hframe⟩
      have hgrant := grantEntry_state (s := withCycle l (inSlot j s)) hs.rising k
      rw [visit_of_fits (s := inSlot j s) hcycle hfits]
      exact visit_state_granted k visits (rising_grantEntry (s := withCycle l (inSlot j s)) hs.rising k) hgrant
  case raise =>
    intro k n l s hs hramp hn hp ht hd
    have he := exec_sluiceRampStart_of_ramp hramp
    rw [rampStart_of_raise (s := withRamp l s) hn hp ht hd] at he
    exact ⟨_, he, startRaising_state hs.rising n, rfl, (ramp_narrow l _ s).trans (startRaising_narrow n _)⟩
  case noPurpose =>
    intro k l s _ hramp hp
    have he := exec_sluiceRampStart_of_ramp hramp
    rw [rampStart_of_noPurpose (s := withRamp l s) hp] at he
    exact ⟨_, he, rfl, ramp_narrow l [] s⟩
  case overdue =>
    intro e s hs hstate hdur hremain
    have he := exec_grantOverdue_eq e s
    simp only [hstate, hremain, bne_iff_ne.2 hdur, whenOk, beq_self_eq_true, Bool.and_self, if_true] at he
    refine ⟨_, he, (get_raise _ _ _ _).trans (get_set_self _ 3 hs.rising), ?_⟩
    exact ((Narrow.refl _ _ s).set (List.mem_singleton_self _) 3).trans ((raise_within (by decide) (Within.refl 0xC _)).narrow (by decide))

/-! ### The budget (R58, R60) -/

/-- What an entry of the grant table draws: its current, where it holds a grant. -/
def entDraw (k : Nat) (s : State) : Nat := if entGranted k s then s.get (SLU_ENT_CURRENT k) else 0

theorem sluGranted_eq_sum (s : State) : sluGranted s = ∑ k ∈ Finset.range 128, entDraw k s := by
  have hfold (l : List Nat) (n : Nat) :
      l.foldl (fun t k => if entGranted k s then t + s.get (SLU_ENT_CURRENT k) else t) n = n + (l.map (fun k => entDraw k s)).sum := by
    induction l generalizing n with
    | nil => rfl
    | cons k l ih =>
      rw [List.foldl_cons, ih, List.map_cons, List.sum_cons, entDraw]
      split <;> omega
  rw [sluGranted, hfold, Nat.zero_add]
  rfl

/-- Where at most entry `k` draws more than before, the granted current rises by what `k` draws at most. -/
theorem sluGranted_le_add {k c : Nat} {s t : State} (hk : k < 128) (hother : ∀ j < 128, j ≠ k → entDraw j t ≤ entDraw j s)
    (hc : entDraw k t ≤ c) : sluGranted t ≤ sluGranted s + c := by
  rw [sluGranted_eq_sum, sluGranted_eq_sum]
  calc ∑ j ∈ Finset.range 128, entDraw j t ≤ ∑ j ∈ Finset.range 128, (entDraw j s + if j = k then c else 0) := by
        refine Finset.sum_le_sum (fun j hj => ?_)
        by_cases h : j = k
        · subst h
          rw [if_pos rfl]
          omega
        · rw [if_neg h]
          exact hother j (Finset.mem_range.1 hj) h
    _ = (∑ j ∈ Finset.range 128, entDraw j s) + c := by
        rw [Finset.sum_add_distrib, Finset.sum_ite_eq', if_pos (Finset.mem_range.2 hk)]

/-- From `s` to `t` no entry has come to hold a grant, and classes, currents and the profile stay. -/
structure Sheds (s t : State) : Prop where
  profile : curProfile t = curProfile s
  cls : ∀ k, t.get (SLU_ENT_CLASS k) = s.get (SLU_ENT_CLASS k)
  current : ∀ k, t.get (SLU_ENT_CURRENT k) = s.get (SLU_ENT_CURRENT k)
  granted : ∀ k, entGranted k t = true → entGranted k s = true

theorem Sheds.trans {s t u : State} (h : Sheds s t) (g : Sheds t u) : Sheds s u :=
  ⟨g.profile.trans h.profile, fun k => (g.cls k).trans (h.cls k), fun k => (g.current k).trans (h.current k),
    fun k hk => h.granted k (g.granted k hk)⟩

theorem Sheds.entDraw_le {s t : State} (h : Sheds s t) (k : Nat) : entDraw k t ≤ entDraw k s := by
  unfold entDraw
  rw [h.current k]
  split
  · rw [if_pos (h.granted k ‹_›)]
  · exact Nat.zero_le _

theorem Sheds.inBudget {s t : State} (h : Sheds s t) (hs : InBudget s) : InBudget t := by
  obtain ⟨hsum, hprofile⟩ := hs
  refine ⟨?_, fun k hk hc => ?_⟩
  · rw [h.profile]
    refine Nat.le_trans ?_ hsum
    rw [sluGranted_eq_sum, sluGranted_eq_sum]
    exact Finset.sum_le_sum (fun k _ => h.entDraw_le k)
  · rw [h.current k]
    exact hprofile k hk ((h.cls k).symm.trans hc)

/-- What reaches neither the profile's block nor the grant table's sheds. -/
theorem Within.sheds {A : Nat} {s t : State} (h : Within A s t) (hprofile : A.testBit 33 = false) (hent : A.testBit 45 = false) :
    Sheds s t := by
  refine ⟨h.get (by rw [SYS_PROFILE_CUR_win, hprofile]), fun k => h.get (by rw [SLU_ENT_CLASS_win, hent]),
    fun k => h.get (by rw [SLU_ENT_CURRENT_win, hent]), fun k hk => ?_⟩
  unfold entGranted at hk ⊢
  rwa [h.get (by rw [SLU_ENT_STATE_win, hent])] at hk

theorem sheds_of_regs {s t : State} (h : t.regs = s.regs) : Sheds s t := by
  refine ⟨get_congr h _, fun k => get_congr h _, fun k => get_congr h _, fun k hk => ?_⟩
  unfold entGranted at hk ⊢
  rwa [get_congr h] at hk

/-- A field written that no budget speaks of. -/
theorem sheds_set {f : Fld} (v : Nat) (s : State) (hprofile : SYS_PROFILE_CUR.key ≠ f.key)
    (hent : winBit f.key ≠ 45 ∨ f.key % 64 = 51 ∨ f.key % 64 = 16) : Sheds s (s.set f v) := by
  have hne {g : Fld} (hg : winBit g.key = 45) (h51 : g.key % 64 ≠ 51) (h16 : g.key % 64 ≠ 16) : (s.set f v).get g = s.get g := by
    rcases hent with h | h | h
    · exact get_set_of_win s hg rfl (Ne.symm h) v
    · exact get_set_of_bit s (by rwa [h]) v
    · exact get_set_of_bit s (by rwa [h]) v
  refine ⟨get_set_of_ne s hprofile v, fun k => hne (SLU_ENT_CLASS_win k) (by simp) (by simp),
    fun k => hne (SLU_ENT_CURRENT_win k) (by simp) (by simp), fun k hk => ?_⟩
  unfold entGranted at hk ⊢
  rwa [hne (SLU_ENT_STATE_win k) (by simp) (by simp)] at hk

theorem SLU_ENT_STATE_eq_of_key {j k : Nat} (h : (SLU_ENT_STATE j).key = (SLU_ENT_STATE k).key) : SLU_ENT_STATE j = SLU_ENT_STATE k := by
  unfold SLU_ENT_STATE at h ⊢
  simpa using h

/-- An entry whose STATE is written with another than a grant, or that had its grant before, is no new grant. -/
theorem sheds_setState {k v : Nat} {s : State} (hs : Sparse.Rising s.regs) (h : (v ≠ 2 ∧ v ≠ 3 ∧ v < 4) ∨ entGranted k s = true) :
    Sheds s (s.set (SLU_ENT_STATE k) v) := by
  refine ⟨get_set_of_win s SYS_PROFILE_CUR_win (SLU_ENT_STATE_win k) (by decide) v, fun j => get_set_of_bit s (by simp) v,
    fun j => get_set_of_bit s (by simp) v, fun j hj => ?_⟩
  unfold entGranted at hj h ⊢
  by_cases hkey : (SLU_ENT_STATE j).key = (SLU_ENT_STATE k).key
  · rw [SLU_ENT_STATE_eq_of_key hkey] at hj ⊢
    refine h.resolve_left (fun ⟨h2, h3, h4⟩ => ?_)
    rw [get_set_self _ _ hs, Nat.mod_eq_of_lt (show v < 2 ^ (SLU_ENT_STATE k).width from h4)] at hj
    simp [h2, h3] at hj
  · rwa [get_set_of_ne s hkey] at hj

theorem sheds_endWish (n : Nat) (s : State) : Sheds s (endWish n s) :=
  (endWish_within (by decide) (Within.refl 0x400000000010 s)).sheds (by decide) (by decide)

theorem sheds_entFreed {s : State} (hs : Sparse.Rising s.regs) (k : Nat) : Sheds s (entFreed k s) :=
  (sheds_setState hs (.inl (by decide))).trans
    ((sheds_set 0 _ (key_ne_of_win SYS_PROFILE_CUR_win (SLU_ENT_REMAIN_win k) (by decide)) (by simp)).trans
      (sheds_set 0 _ (key_ne_of_win SYS_PROFILE_CUR_win (SLU_ENT_SKIPS_win k) (by decide)) (by simp)))

theorem sheds_sluDrop {s : State} (hs : Sparse.Rising s.regs) (k : Nat) : Sheds s (sluDrop k s) := by
  rcases sluDrop_regs k s with h | ⟨n, h⟩
  · exact (sheds_entFreed hs k).trans (sheds_of_regs h)
  · exact (sheds_endWish n s).trans ((sheds_entFreed (rising_endWish n hs) k).trans (sheds_of_regs h))

theorem sheds_sluEnd {s : State} (hs : Sparse.Rising s.regs) (k : Nat) : Sheds s (sluEnd k s) :=
  (sheds_sluDrop hs k).trans ((sluEnd_within_drop k s).sheds (by decide) (by decide))

theorem sheds_profileLost {s : State} (hs : Sparse.Rising s.regs) (k : Nat) : Sheds s (profileLost k s) := by
  have hset (f : Fld) (v : Nat) (t : State) (hf : winBit f.key = 33) (hcur : SYS_PROFILE_CUR.key ≠ f.key) : Sheds t (t.set f v) :=
    sheds_set v t hcur (.inl (by rw [hf]; decide))
  exact (hset SYS_PROFILE_PENDING 0 s SYS_PROFILE_PENDING_win (by decide)).trans
    ((sheds_sluEnd (rising_set _ _ hs) k).trans ((hset SYS_PROFILE_RESULT 6 _ SYS_PROFILE_RESULT_win (by decide)).trans (sheds_of_regs rfl)))

theorem sheds_sluRelease {s : State} (hs : Sparse.Rising s.regs) (init ticket : Nat) : Sheds s (sluRelease init ticket s).2 := by
  rcases sluRelease_cases init ticket s with h | ⟨k, h⟩
  · rw [h]
    exact (Within.refl 0 s).sheds (by decide) (by decide)
  · rw [h]
    split
    · exact sheds_profileLost hs k
    · exact sheds_sluEnd hs k

theorem entDraw_le_current (k : Nat) (s : State) : entDraw k s ≤ s.get (SLU_ENT_CURRENT k) := by
  unfold entDraw
  split
  · exact Nat.le_refl _
  · exact Nat.zero_le _

/-- An entry draws what its own registers say. -/
theorem entDraw_congr {k : Nat} {s t : State} (h : ∀ f : Fld, f.key / 64 = entAddr k → t.get f = s.get f) : entDraw k t = entDraw k s := by
  unfold entDraw entGranted
  rw [h _ (SLU_ENT_STATE_addr k), h _ (SLU_ENT_CURRENT_addr k)]

/-- A request that fits the rest of the budget stays within it, granted at once or waiting. -/
theorem inBudget_sluEnter {k : Nat} {r : PartReq} {s : State} (hs : Sparse.Rising s.regs) (h : InBudget s) (hk : k < 128)
    (hr : r.cls < clsProfile) : InBudget (sluEnter k r s) := by
  obtain ⟨hsum, hprofile⟩ := h
  have hother {j : Nat} (hj : j < 128) (hjk : j ≠ k) (f : Fld) (hf : f.key / 64 = entAddr j) : (sluEnter k r s).get f = s.get f :=
    get_sluEnter_of_addr k r (by rw [hf]; exact entAddr_ne hj hk hjk)
  have hcur : curProfile (sluEnter k r s) = curProfile s := by
    refine get_sluEnter_of_addr k r ?_
    rw [show SYS_PROFILE_CUR.key / 64 = 0x3000000100 from rfl, entAddr]
    omega
  have hdraw : entDraw k (sluEnter k r s) ≤ if grantsAtOnce r s then r.current else 0 := by
    split
    · refine Nat.le_trans (entDraw_le_current k _) ?_
      rw [sluEnter_current k r hs]
      exact Nat.mod_le _ _
    · have hstate := sluEnter_state k r hs
      rw [if_neg ‹_›] at hstate
      simp [entDraw, entGranted, hstate]
  refine ⟨?_, fun j hj hc => ?_⟩
  · have hadd := sluGranted_le_add hk (fun j hj hjk => Nat.le_of_eq (entDraw_congr (hother hj hjk))) hdraw
    rw [hcur]
    split at hadd
    · have hfits : sluFits r.cls r.current s = true := by simp_all [grantsAtOnce]
      simp only [sluFits, Nat.ne_of_lt hr, if_false, decide_eq_true_eq] at hfits
      omega
    · omega
  · by_cases hjk : j = k
    · subst hjk
      rw [sluEnter_class j r hs, Nat.mod_eq_of_lt (Nat.lt_trans hr (by decide))] at hc
      exact absurd hc (Nat.ne_of_lt hr)
    · rw [hother hj hjk _ (SLU_ENT_CURRENT_addr j)]
      rw [hother hj hjk _ (SLU_ENT_CLASS_addr j)] at hc
      exact hprofile j hj hc

/-- A visit of a grant cycle grants what fits. -/
theorem inBudget_grantEntry {k : Nat} {s : State} (h : InBudget s)
    (hf : sluFits (s.get (SLU_ENT_CLASS k)) (s.get (SLU_ENT_CURRENT k)) s = true) : InBudget (grantEntry k s) := by
  obtain ⟨hsum, hprofile⟩ := h
  have hk : k % 128 < 128 := Nat.mod_lt _ (by decide)
  have haddr : entAddr k = entAddr (k % 128) := by simp [entAddr]
  have hcls : SLU_ENT_CLASS (k % 128) = SLU_ENT_CLASS k := by simp [SLU_ENT_CLASS]
  have hcurrent : SLU_ENT_CURRENT (k % 128) = SLU_ENT_CURRENT k := by simp [SLU_ENT_CURRENT]
  have hbit {f : Fld} (h49 : f.key % 64 ≠ 49) (h16 : f.key % 64 ≠ 16) : (grantEntry k s).get f = s.get f :=
    get_grantEntry s (key_ne_of_bit (by simpa)) (key_ne_of_bit (by simpa))
  have hother {j : Nat} (hj : j < 128) (hjk : j ≠ k % 128) (f : Fld) (hf : f.key / 64 = entAddr j) : (grantEntry k s).get f = s.get f := by
    have hne := entAddr_ne hj hk hjk
    rw [← haddr, ← hf] at hne
    exact get_grantEntry s (key_ne_of_addr (by simpa)) (key_ne_of_addr (by simpa))
  have hcur : curProfile (grantEntry k s) = curProfile s := hbit (by decide) (by decide)
  refine ⟨?_, fun j hj hc => ?_⟩
  · have hadd := sluGranted_le_add hk (fun j hj hjk => Nat.le_of_eq (entDraw_congr (hother hj hjk))) (entDraw_le_current _ _)
    rw [hcurrent, hbit (by simp) (by simp)] at hadd
    rw [hcur]
    by_cases hp : s.get (SLU_ENT_CLASS k) = clsProfile
    · have hzero := hprofile (k % 128) hk (by rw [hcls, hp])
      rw [hcurrent] at hzero
      omega
    · simp only [sluFits, hp, if_false, decide_eq_true_eq] at hf
      omega
  · rw [hbit (by simp) (by simp)] at hc ⊢
    exact hprofile j hj hc

theorem inBudget_visit (n : Nat) {s : State} (h : InBudget s) : InBudget (visit n s) := by
  refine visit_induct (P := InBudget) (fun _ _ ht => ht) (fun k t hf ht => inBudget_grantEntry ht hf) (fun k v t ht => ?_) n h
  exact (sheds_set v t (key_ne_of_win SYS_PROFILE_CUR_win (SLU_ENT_SKIPS_win k) (by decide)) (by simp)).inBudget ht

theorem sheds_sluRefuse (r : PartReq) (again : Bool) (s : State) : Sheds s (sluRefuse r again s) :=
  (sluRefuse_within (by decide) (Within.refl 0x4000000000C s)).sheds (by decide) (by decide)

/-- A request placed stays within the budget, whether it is granted, waits or is refused. -/
theorem inBudget_sluPlace {r : PartReq} {again : Bool} {s : State} (hs : Sparse.Rising s.regs) (h : InBudget s) (hr : r.cls < clsProfile) :
    InBudget (sluPlace r again s).2 := by
  unfold sluPlace
  cases hk : freeEntry s with
  | none => exact (sheds_sluRefuse r again s).inBudget h
  | some k =>
    dsimp only
    split
    · exact inBudget_sluEnter hs h (freeEntry_some hk).1 hr
    · exact (sheds_sluRefuse r again s).inBudget h

theorem requested_cls_of_check {a : Agent} {value : Nat} {s : State} (h : requestCheck value s = .done) :
    (requested a value).cls < clsProfile := by
  unfold requestCheck sluCheck at h
  split at h
  · exact absurd h (by decide)
  · exact Nat.lt_of_not_le ‹_›

/-- Settles O8: only a request that fits and a visit of a grant cycle grant anything, and both look at the budget first. -/
theorem sluiceStaysInBudget : Obligations.SluiceStaysInBudget := by
  unfold Obligations.SluiceStaysInBudget
  refine ⟨?request, ?release, ?grantCycle, ?overdue⟩
  case request =>
    intro a value s hs hb
    by_cases hcheck : requestCheck value s = .done
    · have hplaced : InBudget (sluPlace (requested a value) false s).2 :=
        inBudget_sluPlace hs.rising hb (requested_cls_of_check hcheck)
      rcases hp : sluPlace (requested a value) false s with ⟨_ | k, t⟩
      · rw [hp] at hplaced
        exact ⟨_, execSluiceRequest_of_refused hcheck hp, hplaced⟩
      · rw [hp] at hplaced
        exact ⟨_, execSluiceRequest_of_placed hcheck hp, hplaced⟩
    · exact ⟨_, execSluiceRequest_of_invalid hcheck, hb⟩
  case release =>
    intro a ticket s hs hb
    exact ⟨_, rfl, (sheds_sluRelease hs.rising _ _).inBudget hb⟩
  case grantCycle =>
    intro visits s hs hb
    rw [exec_sluiceGrantCycle_eq]
    cases hslot : (dutySlot 1 anySlot s).isSome with
    | true =>
      obtain ⟨j, hj⟩ := inDuty_of_slot hslot (fun t => ok (visit visits t))
      exact ⟨_, hj, inBudget_visit visits hb⟩
    | false => exact ⟨s, inDuty_of_noSlot hslot _, hb⟩
  case overdue =>
    intro e s hs hb
    refine ⟨_, exec_grantOverdue_eq e s, ?_⟩
    split
    · rename_i h
      have hgranted : entGranted e.val s = true := by
        unfold entGranted
        simp_all
      exact ((sheds_setState hs.rising (.inr hgranted)).trans
        ((raise_within (by decide) (Within.refl 0xC _)).sheds (by decide) (by decide))).inBudget hb
    · exact hb

end Sys2Proof.Machine
end

section
/-! SUPPORT. Power domains (R51 to R56, R345): what of the domains' registers the operations of a lowering and of a loss of power leave
alone, what a target, a ramp's end and a shutdown make of a domain, and the statement of their completion. -/
namespace Sys2Proof.Machine

/-! ### Fields of PWR_DOM_CTL and PWR_DOM_STAT -/

@[simp] theorem PWR_DOM_STAT_STATE_bit (n : Nat) : (PWR_DOM_STAT_STATE n).key % 64 = 0 := Nat.mul_add_mod _ _ _
@[simp] theorem PWR_DOM_STAT_ENABLE_PENDING_bit (n : Nat) : (PWR_DOM_STAT_ENABLE_PENDING n).key % 64 = 3 := Nat.mul_add_mod _ _ _
@[simp] theorem PWR_DOM_STAT_FORCED_bit (n : Nat) : (PWR_DOM_STAT_FORCED n).key % 64 = 5 := Nat.mul_add_mod _ _ _
@[simp] theorem PWR_DOM_CTL_TARGET_bit (n : Nat) : (PWR_DOM_CTL_TARGET n).key % 64 = 0 := Nat.mul_add_mod _ _ _

theorem state_key_ne_target (m n : Nat) : (PWR_DOM_STAT_STATE m).key ≠ (PWR_DOM_CTL_TARGET n).key := by
  simp only [PWR_DOM_STAT_STATE, PWR_DOM_CTL_TARGET]
  omega

theorem enablePending_key_ne_target (m n : Nat) : (PWR_DOM_STAT_ENABLE_PENDING m).key ≠ (PWR_DOM_CTL_TARGET n).key :=
  key_ne_of_bit (by simp)

/-- TARGET written leaves the domains' states. -/
@[simp] theorem domState_set_target (m n v : Nat) (s : State) : domState m (s.set (PWR_DOM_CTL_TARGET n) v) = domState m s :=
  get_set_of_ne s (state_key_ne_target m n) v

/-! ### What only ends wishes to raise (R55, R63)

A lowering and a loss of power end Sluice entries, and with them the wish of a domain that waited for one: ENABLE_PENDING is all that
they write of the domains' registers. -/

/-- From `s` to `t`, no field of the domains' registers but ENABLE_PENDING has changed. -/
def DomsKept (s t : State) : Prop := ∀ f : Fld, winBit f.key = 46 → f.key % 64 ≠ 3 → t.get f = s.get f

/-- The mask of everything but the block of the domains' registers (`winBit` 46). -/
abbrev offDomains : Nat := 0x1FFFFFFFFFFFFFFFFFFFFBFFFFFFFFFFF

theorem DomsKept.refl (s : State) : DomsKept s s := fun _ _ _ => rfl

theorem DomsKept.trans {s t u : State} (h : DomsKept s t) (g : DomsKept t u) : DomsKept s u :=
  fun f hf hb => (g f hf hb).trans (h f hf hb)

theorem Within.domsKept {s t : State} (h : Within offDomains s t) : DomsKept s t := fun f hf _ => h.get (by rw [hf]; decide)

theorem DomsKept.of_regs {s t : State} (h : t.regs = s.regs) : DomsKept s t := fun f _ _ => get_congr h f

theorem DomsKept.state {s t : State} (h : DomsKept s t) (n : Nat) : domState n t = domState n s :=
  h _ (PWR_DOM_STAT_STATE_win n) (by simp)

theorem DomsKept.target {s t : State} (h : DomsKept s t) (n : Nat) : t.get (PWR_DOM_CTL_TARGET n) = s.get (PWR_DOM_CTL_TARGET n) :=
  h _ (PWR_DOM_CTL_TARGET_win n) (by simp)

theorem DomsKept.forced {s t : State} (h : DomsKept s t) (n : Nat) : t.get (PWR_DOM_STAT_FORCED n) = s.get (PWR_DOM_STAT_FORCED n) :=
  h _ (PWR_DOM_STAT_FORCED_win n) (by simp)

theorem DomsKept.ite {u s t : State} {c : Prop} [Decidable c] (h : DomsKept u s) (g : DomsKept u t) : DomsKept u (if c then s else t) := by
  split <;> assumption

theorem DomsKept.forEach {α : Type} {f : α → State → State} (hf : ∀ x t, DomsKept t (f x t)) (l : List α) (s : State) :
    DomsKept s (forEach l f s) :=
  List.foldlRecOn (motive := DomsKept s) l _ (DomsKept.refl s) (fun t ht x _ => ht.trans (hf x t))

theorem DomsKept.forNat {f : Nat → State → State} (hf : ∀ i t, DomsKept t (f i t)) (n : Nat) (s : State) : DomsKept s (forNat n f s) :=
  DomsKept.forEach hf (List.range n) s

theorem domsKept_endWish (n : Nat) (s : State) : DomsKept s (endWish n s) :=
  fun _ _ hb => get_endWish n s (key_ne_of_bit (by simpa using hb))

theorem domsKept_entFreed (k : Nat) (s : State) : DomsKept s (entFreed k s) := by
  refine Within.domsKept (set_within _ (inMask (SLU_ENT_SKIPS_win k) (by decide)) ?_)
  exact set_within _ (inMask (SLU_ENT_REMAIN_win k) (by decide))
    (set_within _ (inMask (SLU_ENT_STATE_win k) (by decide)) (Within.refl _ s))

theorem domsKept_sluDrop (k : Nat) (s : State) : DomsKept s (sluDrop k s) := by
  rcases sluDrop_regs k s with h | ⟨n, h⟩
  · exact (domsKept_entFreed k s).trans (.of_regs h)
  · exact (domsKept_endWish n s).trans ((domsKept_entFreed k _).trans (.of_regs h))

theorem domsKept_sluEnd (k : Nat) (s : State) : DomsKept s (sluEnd k s) :=
  (domsKept_sluDrop k s).trans ((sluEnd_within_drop k s).mono (by decide)).domsKept

/-! Passes and loads that end with their grant. -/

theorem domsKept_passAbort (s : State) : DomsKept s (passAbort s) := by
  have hgo : DomsKept s (s.set HBM_PASS_GO 0) := (set_within _ (inMask HBM_PASS_GO_win (by decide)) (Within.refl _ s)).domsKept
  unfold passAbort
  dsimp only
  split
  · exact hgo.trans (domsKept_sluEnd _ _)
  · exact hgo

theorem domsKept_treePassAbort (s : State) : DomsKept s (treePassAbort s) := by
  have hgo : DomsKept s (s.set ENC_PASS_GO 0) := (set_within _ (inMask ENC_PASS_GO_win (by decide)) (Within.refl _ s)).domsKept
  unfold treePassAbort
  dsimp only
  split
  · exact hgo.trans (domsKept_sluEnd _ _)
  · exact hgo

theorem domsKept_loadGrantEnd (s : State) : DomsKept s (loadGrantEnd s) := by
  unfold loadGrantEnd
  dsimp only
  split
  · exact DomsKept.trans (.of_regs rfl) (domsKept_sluEnd _ _)
  · exact .of_regs rfl

theorem domsKept_loadAbort (r cause : Nat) (s : State) : DomsKept s (loadAbort r cause s) := by
  have hjob : Within offDomains s (jobEnd ((regionInvalid r s).set (REG_STAT_ABORT r) cause)) :=
    jobEnd_within (by decide) (set_within _ (inMask (REG_STAT_ABORT_win r) (by decide)) (regionInvalid_within (by decide) (Within.refl _ s)))
  exact hjob.domsKept.trans ((domsKept_loadGrantEnd _).trans (raise_within (by decide) (Within.refl _ _)).domsKept)

theorem domsKept_loadFail (r code event : Nat) (items : List EvItem) (s : State) : DomsKept s (loadFail r code event items s) := by
  have hjob (t : State) : Within offDomains t (jobEnd ((regionInvalid r t).set (REG_STAT_ERR r) code)) :=
    jobEnd_within (by decide) (set_within _ (inMask (REG_STAT_ERR_win r) (by decide)) (regionInvalid_within (by decide) (Within.refl _ t)))
  have hqueue {t : State} (ht : Within offDomains s t) :
      DomsKept s (raise event items (loadGrantEnd (jobEnd ((regionInvalid r t).set (REG_STAT_ERR r) code)))) :=
    (ht.trans (hjob t)).domsKept.trans ((domsKept_loadGrantEnd _).trans (raise_within (by decide) (Within.refl _ _)).domsKept)
  unfold loadFail
  exact hqueue (Within.ite (Within.refl _ s) (modLdr_within (by decide) (Within.refl _ s)))

/-! Sequencers that stop. -/

theorem domsKept_withdrawSlu (q : Nat) (s : State) : DomsKept s (withdrawSlu q s) := by
  unfold withdrawSlu
  extract_lets -merge -useContext +onlyGivenNames e t
  have ht : DomsKept s t :=
    (modEng_within (by decide) (Within.ite (setWait_within (by decide) (Within.refl offDomains s)) (Within.refl _ s))).domsKept
  clear_value t
  split
  · split
    · exact ht.trans (keepTicket_within (by decide) (Within.refl _ t)).domsKept
    · exact ht.trans (domsKept_sluEnd _ t)
  · split
    · exact ht
    · exact ht.trans (domsKept_sluEnd _ t)
  · exact ht

theorem domsKept_endAtOnce (q code : Nat) (started : Cyc → Bool) (s : State) : DomsKept s (endAtOnce q code started s) := by
  unfold endAtOnce
  have hend : Within offDomains (withdrawSlu q s) (endInstead q code (discardCycles q started (withdrawSlu q s))) :=
    endInstead_within (by decide) (discardCycles_within (by decide) (Within.refl _ _))
  exact (domsKept_withdrawSlu q s).trans (Within.ite (finishPattern_within (by decide) hend) hend).domsKept

theorem domsKept_seqGroupLower (g : Nat) (s : State) : DomsKept s (seqGroupLower g s) := by
  refine DomsKept.forNat (fun i t => ?_) 4 s
  dsimp only
  split
  · exact DomsKept.refl t
  · exact domsKept_endAtOnce _ _ _ t

theorem domsKept_seqGroupReset (g : Nat) (s : State) : DomsKept s (seqGroupReset g s) := by
  refine DomsKept.forNat (fun i t => ?_) 4 s
  dsimp only
  have hcut : DomsKept t (withdrawSlu (4 * g + i) (discardCycles (4 * g + i) (fun _ => false) t)) :=
    (discardCycles_within (by decide) (Within.refl offDomains t)).domsKept.trans (domsKept_withdrawSlu _ _)
  refine hcut.trans ?_
  generalize withdrawSlu (4 * g + i) (discardCycles (4 * g + i) (fun _ => false) t) = u
  refine Within.domsKept (setEng_within (by decide) (set_within _ (inMask (SEQ_STAT_PAUSE_SRC_win _) (by decide)) ?_))
  exact jetsIdle_within (by decide) (resetRegs_within _ _ 13201655726080 13202729467903 69 1 0x200000000000000000 (by decide) (by decide)
    (by decide) (by decide) (by omega) (by omega) (Within.refl _ u))

/-! ### Leaving ON and losing power -/

theorem domsKept_hbmPowerOff (s : State) : DomsKept s (hbmPowerOff s) := by
  have h : Within offDomains (passAbort s) (hbmQuiet ((hbmRegsReset (passAbort s)).set HBM_STAT_STATE hbmOff)) :=
    hbmQuiet_within (by decide) (set_within _ (inMask HBM_STAT_STATE_win (by decide)) (hbmRegsReset_within (by decide) (Within.refl _ _)))
  exact (domsKept_passAbort s).trans (h.domsKept.trans (.of_regs rfl))

theorem domsKept_encContentsLost (s : State) : DomsKept s (encContentsLost s) := by
  have h : Within offDomains s (forNat 8 contentsPoison { s with enc := { s.enc with cache := [] } }) :=
    forNat_within (fun _ _ ht => contentsPoison_within (by decide) ht) 8 (Within.enc_ (by decide) (Within.refl _ s))
  exact h.domsKept.trans (domsKept_treePassAbort _)

theorem domsKept_ldrLower (r : Nat) (s : State) : DomsKept s (ldrLower r s) := by
  unfold ldrLower
  split
  · exact domsKept_loadAbort r 1 s
  · exact (isoEngage_within (by decide) (modLdr_within (by decide) (Within.refl offDomains s))).domsKept

theorem domsKept_ldrHbmLeave (s : State) : DomsKept s (ldrHbmLeave s) := by
  unfold ldrHbmLeave
  split
  · split
    · exact domsKept_loadFail _ _ _ _ s
    · exact DomsKept.refl s
  · exact DomsKept.refl s

theorem domsKept_coreLose (c : Nat) (s : State) : DomsKept s (coreLose c s) := by
  have h : Within offDomains s (haltCleared c (progressCleared (fun i => i == c) (nocCoreReset c (clusterCoreReset c (sdoCut c s))))) :=
    haltCleared_within (by decide) (progressCleared_within (by decide) (nocCoreReset_within (by decide)
      (clusterCoreReset_within (by decide) (sdoCut_within (by decide) (Within.refl _ s)))))
  exact h.domsKept.trans (DomsKept.forEach domsKept_sluEnd _ _)

/-- What stops as a domain leaves ON. -/
theorem domsKept_leaveOn (n : Nat) (s : State) : DomsKept s (leaveOn n s) := by
  unfold leaveOn
  extract_lets -merge -useContext +onlyGivenNames t
  have h : DomsKept s t := (clusterDomLeave_within (by decide) (Within.refl offDomains s)).domsKept
  clear_value t
  have hr : Within offDomains t t := Within.refl _ t
  refine h.trans ?_
  exact .ite ((domsKept_ldrLower n t).trans (fabLower_within (by decide) (Within.refl _ _)).domsKept)
    (.ite (weirBankLeave_within (by decide) (jetsForceOff_within (by decide) hr)).domsKept
    (.ite (lanesLower_within (by decide) hr).domsKept
    (.ite (domsKept_ldrHbmLeave t)
    (.ite (domsKept_seqGroupLower _ t)
    (.ite (failLower70_within (by decide) hr).domsKept
    (.ite (failLower71_within (by decide) (raAbortAll_within (by decide) hr)).domsKept
    (.ite (raLower72_within (by decide) hr).domsKept
    (.ite (raAbortAll_within (by decide) hr).domsKept
    (.ite (scLower_within (by decide) hr).domsKept
    (.ite ((domsKept_coreLose _ t).trans (set_within _ (inMask (CORE_STAT_STATE_win _) (by decide)) (Within.refl _ _)).domsKept)
    (.ite (spPairLeave_within (by decide) hr).domsKept (DomsKept.refl t))))))))))))

/-- What is lost with a domain's power. -/
theorem domsKept_loseAtOff (n : Nat) (s : State) : DomsKept s (loseAtOff n s) := by
  have hr : Within offDomains s s := Within.refl _ s
  unfold loseAtOff
  exact .ite (ldrOff_within (by decide) (fabLose_within (by decide) hr)).domsKept
    (.ite (edgeReset_within (by decide) (jetsReset_within (by decide) hr)).domsKept
    (.ite (DomsKept.refl s)
    (.ite ((domsKept_hbmPowerOff s).trans ((domsKept_encContentsLost _).trans (marksLost_within (by decide) (Within.refl _ _)).domsKept))
    (.ite ((domsKept_seqGroupReset _ s).trans (edgeGroupReset_within (by decide) (Within.refl _ _)).domsKept)
    (.ite (failReset70_within (by decide) hr).domsKept
    (.ite (failReset71_within (by decide) hr).domsKept
    (.ite (raReset72_within (by decide) hr).domsKept
    (.ite (DomsKept.refl s)
    (.ite (scOff_within (by decide) hr).domsKept
    (.ite (DomsKept.refl s)
    (.ite (spPairLose_within (by decide) hr).domsKept
    (.ite (DomsKept.trans (.of_regs rfl) (domsKept_treePassAbort _)) (DomsKept.refl s)))))))))))))

/-- A domain that goes OFF writes its own STATE, and ends wishes. -/
theorem domsKept_goOff (n : Nat) (s : State) : DomsKept (s.set (PWR_DOM_STAT_STATE n) dsOff) (goOff n s) :=
  (domsKept_loseAtOff n _).trans (DomsKept.forEach domsKept_sluEnd _ _)

/-- A domain that enters LOWERING writes its own STATE and FORCED, and ends wishes. -/
theorem domsKept_startLower (n : Nat) (retain : Bool) (s : State) :
    DomsKept ((s.set (PWR_DOM_STAT_STATE n) dsLowering).set (PWR_DOM_STAT_FORCED n) 0) (startLower n retain s) := by
  have h : DomsKept ((s.set (PWR_DOM_STAT_STATE n) dsLowering).set (PWR_DOM_STAT_FORCED n) 0)
      (leaveOn n (gateLowers n ((s.set (PWR_DOM_STAT_STATE n) dsLowering).set (PWR_DOM_STAT_FORCED n) 0))) :=
    (gateLowers_within (by decide) (Within.refl offDomains _)).domsKept.trans (domsKept_leaveOn n _)
  unfold startLower
  exact .ite (h.trans (.of_regs rfl)) h

/-! ### Targets OFF and RETAIN (R52, R54) -/

/-- What a target below ON makes of a domain that is ON: LOWERING, with the target recorded; the other domains stay. -/
structure Lowers (n v : Nat) (s t : State) : Prop where
  state : domState n t = dsLowering
  target : t.get (PWR_DOM_CTL_TARGET n) = v
  otherState : ∀ m, m % 96 ≠ n % 96 → domState m t = domState m s
  otherTarget : ∀ m, m % 96 ≠ n % 96 → t.get (PWR_DOM_CTL_TARGET m) = s.get (PWR_DOM_CTL_TARGET m)

theorem state_key_ne_of_ne {m n : Nat} (h : m % 96 ≠ n % 96) : (PWR_DOM_STAT_STATE m).key ≠ (PWR_DOM_STAT_STATE n).key := by
  simp only [PWR_DOM_STAT_STATE]
  omega

theorem target_key_ne_of_ne {m n : Nat} (h : m % 96 ≠ n % 96) : (PWR_DOM_CTL_TARGET m).key ≠ (PWR_DOM_CTL_TARGET n).key := by
  simp only [PWR_DOM_CTL_TARGET]
  omega

theorem targetDown_of_on {n v : Nat} {s : State} (h : domState n s = dsOn) :
    targetDown n v s = startLower n (v == tgtRetain) (s.set (PWR_DOM_CTL_TARGET n) v) := by
  unfold targetDown
  dsimp only
  rw [domState_set_target, if_pos h]

theorem targetDown_lowers {n v : Nat} {s : State} (hs : Sparse.Rising s.regs) (h : domState n s = dsOn) (hv : v < 4) :
    Lowers n v s (targetDown n v s) := by
  rw [targetDown_of_on h]
  have hk := domsKept_startLower n (v == tgtRetain) (s.set (PWR_DOM_CTL_TARGET n) v)
  have hset := rising_set (PWR_DOM_CTL_TARGET n) v hs
  constructor
  case state =>
    rw [hk.state, domState, get_set_of_bit _ (by simp), get_set_self _ _ hset]
    rfl
  case target =>
    rw [hk.target, get_set_of_bit _ (by simp), get_set_of_ne _ (state_key_ne_target n n).symm, get_set_self _ _ hs]
    exact Nat.mod_eq_of_lt hv
  case otherState =>
    intro m hm
    rw [hk.state, domState, get_set_of_bit _ (by simp), get_set_of_ne _ (state_key_ne_of_ne hm)]
    exact domState_set_target m n v s
  case otherTarget =>
    intro m hm
    rw [hk.target, get_set_of_bit _ (by simp), get_set_of_ne _ (state_key_ne_target n m).symm, get_set_of_ne _ (target_key_ne_of_ne hm)]

/-! ### Target writes (R55, R345) -/

theorem domPair_of_alone {n : Nat} (h : n ≠ 64 ∧ n ≠ 65) : domPair n = [n] := if_neg (by omega)

theorem domPair_of_pair {n : Nat} (h : n = 64 ∨ n = 65) : domPair n = [64, 65] := if_pos h

theorem target_of_code {n v : Nat} (h : v < 4) : (PWR_DOM_CTL_TARGET n).of v = v := by
  unfold Fld.of
  rw [PWR_DOM_CTL_TARGET_bit, bits, Nat.pow_zero, Nat.div_one]
  exact Nat.mod_eq_of_lt h

/-- DRESET is no part of a target. -/
theorem dreset_hit_code {n v : Nat} (h : v < 4) : (PWR_DOM_CTL_DRESET n).hit v = false := by
  unfold Fld.hit Fld.of
  rw [show (PWR_DOM_CTL_DRESET n).key % 64 = 2 from Nat.mul_add_mod _ _ _, bits, show v / 2 ^ 2 = 0 from Nat.div_eq_of_lt h]
  rfl

section
variable {a : Agent} {n : Fin 96} {s : State} (ha : pwrWriter a = true) (hq : s.profile.quiet = none)
include ha hq

theorem exec_targetOn : exec (.domainTargetWrite a n 1) s = .next (answered (targetOn (domPair n.val) a.init.val s)) := by
  show execDomainTargetWrite a n 1 s = _
  simp [execDomainTargetWrite, wrPwrCtl, target_of_code, dreset_hit_code, ha, hq, quietTarget, tgtOn, tgtRetain, ok]

/-- A target below ON that differs from the recorded one is acted on. -/
theorem exec_targetDown {v : Nat} (hv : v = tgtOff ∨ (v = tgtRetain ∧ retainable n.val = true))
    (hne : s.get (PWR_DOM_CTL_TARGET n.val) ≠ v) :
    exec (.domainTargetWrite a n v) s = .next (answer .done (forEach (domPair n.val) (fun m u => targetDown m v u) s)) := by
  have hlt : v < 3 := by
    rcases hv with rfl | ⟨rfl, -⟩ <;> decide
  have hon : v ≠ tgtOn := by
    rcases hv with rfl | ⟨rfl, -⟩ <;> decide
  have hallowed : ¬ (v = 3 ∨ (v = tgtRetain ∧ retainable n.val = false)) := by
    rcases hv with rfl | ⟨rfl, hr⟩
    · simp [tgtOff, tgtRetain]
    · simp [hr, tgtRetain]
  have hchanges : s.changes (PWR_DOM_CTL_TARGET n.val) v = true := by
    unfold State.changes
    rw [target_of_code (by omega)]
    simpa using hne.symm
  show execDomainTargetWrite a n v s = _
  simp [execDomainTargetWrite, wrPwrCtl, target_of_code (show v < 4 by omega), dreset_hit_code (show v < 4 by omega), ha, hq, quietTarget, hon,
    hallowed, hchanges, ok, show ¬ 3 < v by omega]

end

/-! ### Target ON (R54, R55) -/

section
variable {n init : Nat} {s : State}

theorem targetOn_of_on (hn : n ≠ 64) (hd : domState n s = dsOn) :
    targetOn [n] init s = (.done, s.set (PWR_DOM_CTL_TARGET n) tgtOn) := by
  simp [targetOn, hd, hn.symm, dsOn, dsOff, dsRetain, dsLowering, setTargets, forEach]

/-- Domains 82 to 95 raise from the reserve. -/
theorem targetOn_of_reserve (hn : 82 ≤ n) (hd : domState n s = dsOff) (hw : raiseWaits n s = false) :
    targetOn [n] init s = (.done, (startRaising n s).set (PWR_DOM_CTL_TARGET n) tgtOn) := by
  have hwiring : wiringRefuses n s = false := by
    simp [wiringRefuses, show ¬ n < 48 by omega]
  simp [targetOn, hd, hw, hwiring, fromReserve, hn, show 64 ≠ n by omega, dsOff, dsRetain, dsLowering, setTargets, forEach]

theorem targetOn_of_placed {t : State} (hn : n < 82 ∧ n ≠ 64) (hd : domState n s = dsOff) (hw : raiseWaits n s = false)
    (hwiring : wiringRefuses n s = false) (hp : placeRaises init [n] s = (.done, t)) :
    targetOn [n] init s = (.done, t.set (PWR_DOM_CTL_TARGET n) tgtOn) := by
  simp [targetOn, hd, hw, hwiring, hp, fromReserve, show ¬ 82 ≤ n by omega, hn.2.symm, dsOff, dsRetain, dsLowering, setTargets, forEach]

/-- The raise of one domain takes the lowest free entry and records the wish. -/
theorem placeRaises_of_room {k : Nat} (hk : freeEntry s = some k) (hlen : s.power.queue.length < 64) :
    placeRaises init [n] s = (.done, wantRaise n init (sluEnter k (raiseReq n init s) s)) := by
  unfold placeRaises
  rw [sluPlace_of_room hk (.inl hlen)]
  rfl

end

theorem get_wantRaise {f : Fld} (n init : Nat) (s : State) (h : f.key ≠ (PWR_DOM_STAT_ENABLE_PENDING n).key) :
    (wantRaise n init s).get f = s.get f :=
  get_set_of_ne s h 1

theorem wantRaise_enablePending {s : State} (hs : Sparse.Rising s.regs) (n init : Nat) :
    (wantRaise n init s).get (PWR_DOM_STAT_ENABLE_PENDING n) = 1 :=
  get_set_self _ 1 hs

/-! ### Ramp ends (R51) -/

/-- What starts with a domain that reaches ON writes none of the domains' registers but its STATE. -/
theorem domsKept_reachOn (n : Nat) (s : State) : DomsKept (s.set (PWR_DOM_STAT_STATE n) dsOn) (reachOn n s) := by
  unfold reachOn
  extract_lets -merge -useContext +onlyGivenNames t b old u
  have hr : Within offDomains t t := Within.refl _ t
  have hu : Within offDomains t u := applySpare_within (by decide) hr
  exact .ite (DomsKept.refl t)
    (.ite (realign_within (by decide) (checkMaxrate_within (by decide) (weirBankOn_within (by decide) hu))).domsKept
    (.ite (lanesReachOn_within (by decide) hr).domsKept
    (.ite (hbmReachOn_within (by decide) hr).domsKept
    (.ite (coreBegin_within (by decide) hr).domsKept
    (.ite (bootMarch_within (by decide) (spFuse_within (by decide) hr)).domsKept (DomsKept.refl t))))))

theorem applyDomSaved_of_none {s : State} (h : s.field.saved = []) (n : Nat) : applyDomSaved n s = s := by
  unfold applyDomSaved applySaved
  rw [h]
  rfl

/-- A raise whose target is still ON ends with the domain ON, and with no values to apply ends there. -/
theorem exec_domainRampEnd {n : Fin 96} {s : State} (h : domState n.val s = dsRaising) (ht : s.get (PWR_DOM_CTL_TARGET n.val) = tgtOn)
    (hsaved : s.get BOOT_STAT_READY = 0 ∨ s.field.saved = []) : exec (.domainRampEnd n) s = .next (reachOn n.val s) := by
  have hreach : Within 0x2401024000100012480040000CC00C0C s (reachOn n.val s) := reachOn_within (by decide) (Within.refl _ s)
  have htarget : (reachOn n.val s).get (PWR_DOM_CTL_TARGET n.val) = tgtOn := by
    rw [(domsKept_reachOn n.val s).target, get_set_of_ne _ (state_key_ne_target _ _).symm, ht]
  have hraised : raised n.val s = reachOn n.val s := by
    unfold raised
    dsimp only
    rw [if_pos htarget]
  have hready : (reachOn n.val s).on BOOT_STAT_READY = s.on BOOT_STAT_READY := by
    rw [State.on, State.on, hreach.get (by rw [BOOT_STAT_READY_win]; decide)]
  show execDomainRampEnd n s = _
  unfold execDomainRampEnd whenOk
  dsimp only
  rw [hraised, h, beq_self_eq_true, if_pos rfl]
  rcases hsaved with hs | hs
  · rw [hready, State.on, hs]
    rfl
  · rw [applyDomSaved_of_none ((congrArg FieldSt.saved (hreach.field (by decide))).trans hs), ite_self]

/-! ### Shutdowns (R52, R54) -/

/-- A shutdown towards OFF ends OFF, and of the domains' registers writes that STATE alone, beside wishes. -/
theorem domsKept_lowered {n : Nat} {s : State} (hr : n ∉ s.power.toRetain) (ht : s.get (PWR_DOM_CTL_TARGET n) = tgtOff) :
    DomsKept (s.set (PWR_DOM_STAT_STATE n) dsOff) (lowered n s) := by
  unfold lowered
  extract_lets -merge -useContext +onlyGivenNames keep init wish p u v w
  have hkeep : keep = false := by simp [keep, hr]
  have hgo : v = goOff n u := by simp only [v, hkeep, Bool.false_eq_true, if_false]
  have hk : DomsKept (s.set (PWR_DOM_STAT_STATE n) dsOff) v := by
    rw [hgo]
    exact DomsKept.trans (.of_regs rfl) (domsKept_goOff n u)
  have hoff : w = tgtOff := (hk.target n).trans ((get_set_of_ne _ (state_key_ne_target n n).symm _).trans ht)
  rw [if_neg (by rw [hoff]; decide), if_neg (by simp [hkeep])]
  exact hk

theorem lowered_state {n : Nat} {s : State} (hs : Sparse.Rising s.regs) (hr : n ∉ s.power.toRetain)
    (ht : s.get (PWR_DOM_CTL_TARGET n) = tgtOff) : domState n (lowered n s) = dsOff :=
  ((domsKept_lowered hr ht).state n).trans (get_set_self _ dsOff hs)

theorem lowered_forced {n : Nat} {s : State} (hr : n ∉ s.power.toRetain) (ht : s.get (PWR_DOM_CTL_TARGET n) = tgtOff) :
    (lowered n s).get (PWR_DOM_STAT_FORCED n) = s.get (PWR_DOM_STAT_FORCED n) :=
  ((domsKept_lowered hr ht).forced n).trans (get_set_of_bit _ (by simp) _)

/-- A domain that reports quiescence has written its nodes back where it is domain 94 (R376). -/
def flushed (n : Nat) (s : State) : State := if n = 94 then flushCache s else s

theorem flushed_within (n : Nat) (s : State) : Within 0x20A00000002000000800180C s (flushed n s) :=
  Within.ite (flushCache_within (by decide) (Within.refl _ s)) (Within.refl _ s)

theorem exec_domainQuiesced {n : Fin 96} {s : State} (h : domState n.val s = dsLowering) (hq : mayQuiesce n.val s = true) :
    exec (.domainQuiesced n) s = .next (lowered n.val (flushed n.val s)) := by
  show execDomainQuiesced n s = _
  simp [execDomainQuiesced, whenOk, h, hq, flushed]

theorem exec_loweringForced {n : Fin 96} {s : State} (h : domState n.val s = dsLowering) (ho : outstanding n.val s ≠ 0) :
    exec (.loweringForced n) s = .next (lowered n.val (forceQuiet n.val 0 s)) := by
  show execLoweringForced n s = _
  simp [execLoweringForced, whenOk, h, ho]

/-- Beside FORCED, what ends by force writes none of the domains' registers, nor what is known of power. -/
theorem forceQuiet_within_forced (n cause : Nat) (s : State) :
    Within 0x2000000000000000000C180D (s.set (PWR_DOM_STAT_FORCED n) 1) (forceQuiet n cause s) := by
  unfold forceQuiet
  extract_lets -merge -useContext +onlyGivenNames t u
  have ht : Within 0x2000000000000000000C180D (s.set (PWR_DOM_STAT_FORCED n) 1) t := raise_within (by decide) (Within.refl _ _)
  have hu : Within 0x2000000000000000000C180D (s.set (PWR_DOM_STAT_FORCED n) 1) u := Within.ite (portFault_within (by decide) ht) ht
  exact nocFault_within (by decide) (Within.ite (encForced_within (by decide) hu) hu)

/-! ### The statement -/

theorem answer_narrow (st : Status) (l : List Fld) (s : State) : Narrow [.resp] l s (answer st s) :=
  (answer_within (by decide) (Within.refl 0x1 s)).narrow (by decide)

theorem Narrow.mono {parts parts' : List Part} {l l' : List Fld} {s t : State} (h : Narrow parts l s t) (hp : parts ⊆ parts') (hl : l ⊆ l') :
    Narrow parts' l' s t :=
  ⟨h.pending, fun p hn => h.part p (fun hm => hn (hp hm)), fun f hf => h.regs f (fun g hg => hf g (hl hg))⟩

/-- Settles O12: each clause is the one way in which its target, ramp end or shutdown goes; the frames are those of the reach. -/
theorem domainCommandsComplete : Obligations.DomainCommandsComplete := by
  unfold Obligations.DomainCommandsComplete
  refine ⟨?reserve, ?request, ?lower, ?lowerPair, ?stay, ?rampEnd, ?quiesced, ?forced⟩
  case reserve =>
    intro a n s hs ha hn hq hd hw
    have he := exec_targetOn (n := n) ha hq
    rw [domPair_of_alone (by omega), targetOn_of_reserve hn hd hw] at he
    have hrise : Sparse.Rising (startRaising n.val s).regs := rising_endWish _ (rising_set _ _ hs.rising)
    refine ⟨_, he, rfl, ?_, ?_, ?_⟩
    · exact (domState_set_target _ _ _ _).trans (startRaising_state hs.rising n.val)
    · exact get_set_self _ tgtOn hrise
    · exact (((startRaising_narrow n.val s).mono (by simp) (by simp)).set (by simp) tgtOn).trans
        ((answer_narrow .done _ _).mono (by simp) (List.Subset.refl _))
  case request =>
    intro a n k s hs ha hn hq hd hw hwiring hk hlen
    have he := exec_targetOn (n := n) ha hq
    have hframe := (execDomainTargetWrite_within (by decide) (Within.refl 0x24011FC837BD7FE3F8B3640007DFFF7D s)).of_next he
    have hwr : wiringRefuses n.val s = false := by simp [wiringRefuses, State.on, hwiring]
    have hplace := placeRaises_of_room (n := n.val) (init := a.init.val) hk hlen
    have hrise := rising_sluEnter hs.rising k (raiseReq n.val a.init.val s)
    rw [domPair_of_alone (by omega), targetOn_of_placed (by omega) hd hw hwr hplace] at he hframe
    refine ⟨_, he, rfl, ?_, ?_, ?_, hframe.frame (by decide)⟩
    · exact (get_set_of_ne _ (enablePending_key_ne_target _ _) _).trans (wantRaise_enablePending hrise n.val a.init.val)
    · exact get_set_self _ tgtOn (rising_set (PWR_DOM_STAT_ENABLE_PENDING n.val) 1 hrise)
    · rw [answered_eq, get_answer, get_set_of_win _ (SLU_ENT_TARGET_win k) (PWR_DOM_CTL_TARGET_win n.val) (by decide),
        get_wantRaise _ _ _ (key_ne_of_win (SLU_ENT_TARGET_win k) (PWR_DOM_STAT_ENABLE_PENDING_win n.val) (by decide)),
        sluEnter_target k _ hs.rising]
      exact Nat.mod_eq_of_lt (show n.val < 128 by omega)
  case lower =>
    intro a n v s hs ha hn hv hq hd hne
    have he := exec_targetDown ha hq hv hne
    have hframe := (execDomainTargetWrite_within (by decide) (Within.refl 0x24011FC837BD7FE3F8B3640007DFFF7D s)).of_next he
    have hlow := targetDown_lowers hs.rising hd (show v < 4 by rcases hv with rfl | ⟨rfl, -⟩ <;> decide)
    rw [domPair_of_alone hn] at he hframe
    exact ⟨_, he, rfl, hlow.state, hlow.target, hframe.frame (by decide)⟩
  case lowerPair =>
    intro a n v s hs ha hn hv hq hd hne
    obtain ⟨hd64, hd65⟩ := hd
    have hlt : v < 4 := by rcases hv with rfl | rfl <;> decide
    have hretain : retainable n.val = true := by rcases hn with h | h <;> rw [h] <;> rfl
    have he := exec_targetDown ha hq (hv.imp_right (fun h => ⟨h, hretain⟩)) hne
    have hframe := (execDomainTargetWrite_within (by decide) (Within.refl 0x24011FC837BD7FE3F8B3640007DFFF7D s)).of_next he
    have hlow64 := targetDown_lowers hs.rising hd64 hlt
    have hrise : Sparse.Rising (targetDown 64 v s).regs :=
      (targetDown_within (by decide) (Within.refl anywhere s)).rising hs
    have hlow65 := targetDown_lowers hrise ((hlow64.otherState 65 (by decide)).trans hd65) hlt
    rw [domPair_of_pair hn] at he hframe
    exact ⟨_, he, rfl, (hlow65.otherState 64 (by decide)).trans hlow64.state, hlow65.state,
      (hlow65.otherTarget 64 (by decide)).trans hlow64.target, hlow65.target, hframe.frame (by decide)⟩
  case stay =>
    intro a n s hs ha hn hq hd
    have he := exec_targetOn (n := n) ha hq
    rw [domPair_of_alone hn, targetOn_of_on hn.1 hd] at he
    exact ⟨_, he, rfl, (domState_set_target _ _ _ _).trans hd, get_set_self _ tgtOn hs.rising,
      ((Narrow.refl _ _ s).set (List.mem_singleton_self _) tgtOn).trans (answer_narrow .done _ _)⟩
  case rampEnd =>
    intro n s hs hd ht hsaved
    have hreach : Within 0x2401024000100012480040000CC00C0C s (reachOn n.val s) := reachOn_within (by decide) (Within.refl _ s)
    exact ⟨_, exec_domainRampEnd hd ht hsaved, ((domsKept_reachOn n.val s).state n.val).trans (get_set_self _ dsOn hs.rising),
      hreach.frame (by decide)⟩
  case quiesced =>
    intro n s hs hd hq hr ht
    have he := exec_domainQuiesced hd hq
    have hw := flushed_within n.val s
    have hframe := (execDomainQuiesced_within (by decide) (Within.refl 0x400000037BD7F63F8A064000A5BBB3C s)).of_next he
    refine ⟨_, he, lowered_state (hw.rising hs) ?_ ?_, hframe.frame (by decide)⟩
    · rwa [hw.power (by decide)]
    · rwa [hw.get (by rw [PWR_DOM_CTL_TARGET_win]; decide)]
  case forced =>
    intro n s hs hd ho hr ht
    have he := exec_loweringForced hd ho
    have hw := forceQuiet_within_forced n.val 0 s
    have hframe := (execLoweringForced_within (by decide) (Within.refl 0x400000037BD7F63F8A06400025FBB3D s)).of_next he
    have hrise : Sparse.Rising (forceQuiet n.val 0 s).regs := (forceQuiet_within (by decide) (Within.refl anywhere s)).rising hs
    have hr' : n.val ∉ (forceQuiet n.val 0 s).power.toRetain := by
      rw [hw.power (by decide)]
      exact hr
    have ht' : (forceQuiet n.val 0 s).get (PWR_DOM_CTL_TARGET n.val) = tgtOff := by
      rw [hw.get (by rw [PWR_DOM_CTL_TARGET_win]; decide), get_set_of_bit _ (by simp), ht]
    refine ⟨_, he, lowered_state hrise hr' ht', ?_, hframe.frame (by decide)⟩
    rw [lowered_forced hr' ht', hw.get (by rw [PWR_DOM_STAT_FORCED_win]; decide)]
    exact get_set_self _ 1 hs.rising

end Sys2Proof.Machine
end

section
/-! SUPPORT. Who may write PWR_DOM_CTL (R56): where the register lies on the network on chip, what a write of it answers, and the
statement of its writers. -/
namespace Sys2Proof.Machine

/-- The writers that R56 names. -/
theorem pwrWriter_iff (a : Agent) :
    pwrWriter a = true ↔ a.init = 0 ∨ a.init = 1 ∨ (a.init = 49 ∧ (a.role = .installer ∨ a.role = .maker)) := by
  have hcore : a.init.val < 2 ↔ a.init = 0 ∨ a.init = 1 := by
    rw [Fin.ext_iff, Fin.ext_iff, show (0 : Fin 64).val = 0 from rfl, show (1 : Fin 64).val = 1 from rfl]
    omega
  have hfield : a.init.val = 49 ↔ a.init = 49 := (Fin.ext_iff (a := a.init) (b := 49)).symm
  simp only [pwrWriter, Agent.core01, Agent.fieldIM, Bool.or_eq_true, Bool.and_eq_true, beq_iff_eq, decide_eq_true_eq, hcore, hfield,
    or_assoc]

theorem wrPwrCtl_of_other {a : Agent} (h : pwrWriter a = false) (n v : Nat) (s : State) : wrPwrCtl a n v s = (.denied, s) := by
  simp [wrPwrCtl, h]

/-! ### What a writer is answered -/

/-- The raises of a write are accepted or refused for want of room. -/
theorem placeRaises_status (init : Nat) (l : List Nat) (s : State) :
    (placeRaises init l s).1 = .done ∨ (placeRaises init l s).1 = .retry := by
  induction l generalizing s with
  | nil => exact .inl rfl
  | cons n l ih =>
    unfold placeRaises
    rcases sluPlace (raiseReq n init s) false s with ⟨_ | k, t⟩
    · exact .inr rfl
    · dsimp only
      have hl := ih (wantRaise n init t)
      split
      · exact .inl rfl
      · rename_i heq
        rwa [heq] at hl

theorem targetOn_not_denied (l : List Nat) (init : Nat) (s : State) : (targetOn l init s).1 ≠ .denied := by
  unfold targetOn
  extract_lets -merge -useContext +onlyGivenNames need late done
  have hdone (t : State) : (done t).1 ≠ .denied := by simp [done]
  split
  · exact Status.noConfusion
  · split
    · exact hdone _
    · have hp := placeRaises_status init need s
      split
      · exact hdone _
      · rcases hp with h | h <;> simp [h]

theorem quietTarget_not_denied (l : List Nat) (v init : Nat) (s : State) : (quietTarget l v init s).1 ≠ .denied := by
  unfold quietTarget
  split
  · split
    · exact targetOn_not_denied l init s
    · exact Status.noConfusion
  · dsimp only
    split
    · exact Status.noConfusion
    · split
      · exact targetOn_not_denied l init _
      · exact Status.noConfusion

theorem wrPwrCtl_not_denied {a : Agent} (h : pwrWriter a = true) (n v : Nat) (s : State) : (wrPwrCtl a n v s).1 ≠ .denied := by
  unfold wrPwrCtl
  simp only [h, Bool.not_true, Bool.false_eq_true, if_false]
  split
  · exact Status.noConfusion
  · dsimp only
    split
    · exact quietTarget_not_denied _ _ _ s
    · exact Status.noConfusion

/-! ### Where PWR_DOM_CTL lies (R4, R102) -/

/-- The register map's entry of PWR_DOM_CTL. -/
def pwrCtlReg : RegDesc := ⟨.PWR_DOM_CTL, 0x3001002000, 96, 8, 1, 0, 32, fun i _ => PWR_DOM_CTL_fields i⟩

/-- The register map's entry of SYS_PROFILE. -/
def profileReg : RegDesc := ⟨.SYS_PROFILE, 0x3000000100, 1, 0, 1, 0, 32, fun _ _ => SYS_PROFILE_fields⟩

theorem regMap_second : ∃ rest, regMap = profileReg :: pwrCtlReg :: rest := ⟨_, rfl⟩

section
variable (n : Fin 96)

theorem findReg_pwrCtl : findReg (0x3001002000 + 8 * n.val) = some (pwrCtlReg, n.val, 0) := by
  obtain ⟨rest, hmap⟩ := regMap_second
  have hi : min n.val 95 = n.val := by omega
  have haddr : n.val * 8 = 8 * n.val := Nat.mul_comm _ _
  have hprofile : ¬ 0x3000000100 = 0x3001002000 + 8 * n.val := by omega
  rw [findReg, hmap]
  simp [profileReg, pwrCtlReg, hprofile, hi, haddr]

theorem targetOf_pwrCtl : targetOf (0x3001002000 + 8 * n.val) = some 66 := by
  have hwindow : (0x3001002000 + 8 * n.val - 0x3000000000) / 0x1000000 = 1 := by omega
  unfold targetOf
  rw [if_neg (by omega), if_neg (by omega), if_neg (by omega), if_neg (by omega), if_neg (by omega), if_neg (by omega),
    if_pos (by omega), hwindow]

theorem scMemAt_pwrCtl : scMemAt (0x3001002000 + 8 * n.val) = none := by
  unfold scMemAt blockOf
  rw [if_neg (by omega)]

/-- No register below the windows of the Jets lies in a domain. -/
theorem homeTable_base {s : State} {h : Nat × Nat × Nat × (Nat → Nat)} (hh : h ∈ homeTable s) : 0x3004010000 ≤ h.1 := by
  have hall : ((homeTable s).map Prod.fst).all (fun b => 0x3004010000 ≤ b) = true := rfl
  exact of_decide_eq_true (List.all_eq_true.mp hall _ (List.mem_map_of_mem hh))

/-- PWR_DOM_CTL is always on. -/
theorem regIngress_pwrCtl (s : State) : regIngress (0x3001002000 + 8 * n.val) s = none := by
  have hblock : ∀ h ∈ homeTable s, (blockOf h.1 h.2.1 h.2.2.1 (0x3001002000 + 8 * n.val)).map h.2.2.2 = none := by
    intro h hh
    have hbase : 0x3004010000 ≤ h.1 := homeTable_base hh
    rw [blockOf, if_neg (by omega), Option.map_none]
  rw [regIngress, regHome, List.findSome?_eq_none_iff.mpr hblock]

theorem inScratchpad_pwrCtl : inScratchpad (0x3001002000 + 8 * n.val) = false := by
  simp only [inScratchpad, Bool.and_eq_false_iff, decide_eq_false_iff_not]
  omega

end

/-- A register write of PWR_DOM_CTL that the network on chip carries is answered by the register's own rules. -/
theorem exec_registerWrite_pwrCtl {a : Agent} {n : Fin 96} {value : Nat} {s u : State}
    (hn : nocReach a.init.val (0x3001002000 + 8 * n.val) 1 1 s = (none, u)) :
    exec (.registerWrite a (0x3001002000 + 8 * n.val) 32 value) s =
      .next (nocTold a.init.val (wrPwrCtl a n.val (value % 2 ^ 32) u).1 (answered (wrPwrCtl a n.val (value % 2 ^ 32) u))) :=
  (exec_registerWrite a _ 32 value s).trans
    (execRegisterWrite_of_reg hn (inScratchpad_pwrCtl n) (targetOf_pwrCtl n) (by decide) (regIngress_pwrCtl n u) (scMemAt_pwrCtl n)
      (findReg_pwrCtl n) rfl (by decide) (by decide))

theorem exec_registerWrite_of_nocRefused {a : Agent} {addr width value : Nat} {st : Status} {s u : State}
    (hn : nocReach a.init.val addr 1 1 s = (some st, u)) : exec (.registerWrite a addr width value) s = .next (answer st u) := by
  rw [exec_registerWrite]
  unfold execRegisterWrite
  rw [hn]
  rfl

/-- The network on chip refuses a request with RETRY alone (R389). -/
theorem nocReach_status {i addr reqs flits : Nat} {s : State} {st : Status} (h : (nocReach i addr reqs flits s).1 = some st) :
    st = .retry := by
  unfold nocReach at h
  split at h
  · simp at h
  · split at h
    · simpa using h.symm
    · simp at h

theorem exec_domainTargetWrite_eq {a : Agent} {n : Fin 96} {v : Nat} (hv : v < 4) (s : State) :
    exec (.domainTargetWrite a n v) s = .next (answered (wrPwrCtl a n.val v s)) := by
  show execDomainTargetWrite a n v s = _
  rw [execDomainTargetWrite, if_neg (by omega)]
  rfl

theorem exec_domainReset_eq (a : Agent) (n : Fin 96) (s : State) :
    exec (.domainReset a n) s = .next (answered (if !pwrWriter a then (.denied, s) else (.done, startDreset n.val s))) := rfl

/-- Settles O47: every way to PWR_DOM_CTL asks first who writes. -/
theorem powerControlWriters : Obligations.PowerControlWriters := by
  unfold Obligations.PowerControlWriters
  simp only [← pwrWriter_iff, Bool.not_eq_true]
  refine ⟨?targetDenied, ?resetDenied, ?registerDenied, ?target, ?reset, ?register⟩
  case targetDenied =>
    intro a n v s hv ha
    refine ⟨_, exec_domainTargetWrite_eq hv s, ?_⟩
    rw [wrPwrCtl_of_other ha]
    rfl
  case resetDenied =>
    intro a n s ha
    refine ⟨_, exec_domainReset_eq a n s, ?_⟩
    rw [ha]
    rfl
  case registerDenied =>
    intro a n value s hn ha
    rcases hu : nocReach a.init.val (0x3001002000 + 8 * n.val) 1 1 s with ⟨_ | st, u⟩
    · refine ⟨_, exec_registerWrite_pwrCtl hu, ?_⟩
      rw [wrPwrCtl_of_other ha]
      rfl
    · simp [hu] at hn
  case target =>
    intro a n v s ha
    by_cases hv : v < 4
    · exact ⟨_, exec_domainTargetWrite_eq hv s, wrPwrCtl_not_denied ha n.val v s⟩
    · refine ⟨answer .range s, ?_, by simp⟩
      show execDomainTargetWrite a n v s = _
      rw [execDomainTargetWrite, if_pos (by omega)]
      rfl
  case reset =>
    intro a n s ha
    refine ⟨_, exec_domainReset_eq a n s, ?_⟩
    rw [ha]
    simp
  case register =>
    intro a n value s ha
    rcases hu : nocReach a.init.val (0x3001002000 + 8 * n.val) 1 1 s with ⟨_ | st, u⟩
    · refine ⟨_, exec_registerWrite_pwrCtl hu, ?_⟩
      rw [nocTold_resp]
      exact wrPwrCtl_not_denied ha n.val _ u
    · refine ⟨_, exec_registerWrite_of_nocRefused hu, ?_⟩
      rw [nocReach_status (congrArg Prod.fst hu)]
      simp

end Sys2Proof.Machine
end

section
/-! SUPPORT. Clock sources (R75, R76): why the statement of the clock commands fails as written. -/
namespace Sys2Proof.Machine

/-- REFIN has been lost after reset: it shows no edges until it counts as stable again. -/
def refinLost : State := srcLost 1 State.reset

/-- The part comes there from reset by one command. -/
theorem referenceLost_reset : exec (.referenceLost 1) State.reset = .next refinLost := rfl

theorem refinLost_sound : Sound refinLost := by decide

theorem refinLost_stopped : refinLost.clock.stopped = [1] := by decide

/-- REFIN judged stable shows edges again. -/
theorem sourceStable_refinLost : ∃ t, exec (.sourceStable 1) refinLost = .next t ∧ t.clock.stopped = [] :=
  ⟨_, rfl, by decide⟩

/-- Refutes O15: its frame of a source judged stable leaves out the clocks, but a source that was lost then runs again, where the model
had recorded it as stopped. -/
theorem not_clockCommandsComplete : ¬ Obligations.ClockCommandsComplete := by
  unfold Obligations.ClockCommandsComplete
  rintro ⟨-, hStable, -⟩
  obtain ⟨t, ht, -, hframe⟩ := hStable 1 refinLost refinLost_sound (by decide) (by decide)
  obtain ⟨u, hu, hstopped⟩ := sourceStable_refinLost
  obtain rfl : t = u := Host.Outcome.next.inj (ht.symm.trans hu)
  have hclock : t.clock = refinLost.clock := hframe.part .clock (by decide)
  rw [hclock, refinLost_stopped] at hstopped
  exact absurd hstopped (by decide)

end Sys2Proof.Machine
end

section
/-! SUPPORT. Frames and slots (R84 to R93): what a tick writes of its own registers, that the work of a tick leaves them alone, what
writes of FRM_CTL and of the slot table leave, and the statement of their commands. -/
namespace Sys2Proof.Machine

/-! ### Narrow frames through the operations of a command

A part that a narrow frame lists may be written. -/

section
variable {parts : List Part} {l : List Fld} {s t : State}

theorem Narrow.clock (h : Narrow parts l s t) (hp : .clock ∈ parts) (x : ClockSt) : Narrow parts l s { t with clock := x } :=
  h.trans (((Within.clock_ (by decide) (Within.refl 0x40 t)).narrow (parts := [.clock]) (l := l) (by decide)).mono (by simpa using hp)
    (List.Subset.refl _))

theorem Narrow.answer (h : Narrow parts l s t) (hp : .resp ∈ parts) (st : Status) : Narrow parts l s (answer st t) :=
  h.trans ((answer_narrow st l t).mono (by simpa using hp) (List.Subset.refl _))

end

theorem whenOk_of {c : Bool} (h : c = true) (s t : State) : whenOk c s t = .next t := by
  rw [whenOk, if_pos h]

/-! ### A tick (R84, R87) -/

theorem tickAt_regs (src ps count period : Nat) (s : State) : (tickAt src ps count period s).regs =
    (((s.set FRM_COUNT_COUNT count).set FRM_STAT_PERIOD_ACT period).set FRM_STAT_SRC_ACT src).regs := by
  unfold tickAt
  dsimp only
  split
  · rfl
  · exact raise_regs _ _ _

section
variable {s : State} (src ps count period : Nat)

/-- HOLDOVER, ACQUIRING and MISSED are left to the kind of tick. -/
theorem get_tickAt {f : Fld} (hf : f.key ∉ [FRM_COUNT_COUNT.key, FRM_STAT_PERIOD_ACT.key, FRM_STAT_SRC_ACT.key]) :
    (tickAt src ps count period s).get f = s.get f := by
  simp only [List.mem_cons, List.not_mem_nil, or_false, not_or] at hf
  obtain ⟨hcount, hperiod, hsrc⟩ := hf
  rw [get_congr (tickAt_regs src ps count period s), get_set_of_ne _ hsrc, get_set_of_ne _ hperiod, get_set_of_ne _ hcount]

theorem tickAt_field : (tickAt src ps count period s).field = s.field :=
  (tickAt_within (by decide) (Within.refl 0x180000004C s)).field (by decide)

variable (hs : Sparse.Rising s.regs)
include hs

theorem tickAt_count : (tickAt src ps count period s).get FRM_COUNT_COUNT = count % 2 ^ 48 := by
  rw [get_congr (tickAt_regs src ps count period s), get_set_of_ne _ (by decide), get_set_of_ne _ (by decide)]
  exact get_set_self _ count hs

theorem tickAt_period : (tickAt src ps count period s).get FRM_STAT_PERIOD_ACT = period % 2 ^ 24 := by
  rw [get_congr (tickAt_regs src ps count period s), get_set_of_ne _ (by decide)]
  exact get_set_self _ period (rising_set _ _ hs)

theorem tickAt_srcAct : (tickAt src ps count period s).get FRM_STAT_SRC_ACT = src % 4 := by
  rw [get_congr (tickAt_regs src ps count period s)]
  exact get_set_self FRM_STAT_SRC_ACT src (rising_set _ _ (rising_set _ _ hs))

end

theorem nextCount_mod (s : State) : nextCount s % 2 ^ 48 = (s.get FRM_COUNT_COUNT + 1) % 2 ^ 48 := Nat.mod_mod _ _

/-! ### The work of a tick -/

/-- The mask of everything but the blocks of FRM_STAT and FRM_COUNT (`winBit` 35 and 36). -/
abbrev offFrame : Nat := 0x1FFFFFFFFFFFFFFFFFFFFFFE7FFFFFFFF

/-- The mask of everything but the field interface (bit 28). -/
abbrev offField : Nat := 0x1FFFFFFFFFFFFFFFFFFFFFFFFEFFFFFFF

theorem fieldTick_sdo (frame : Nat) (s : State) : (fieldTick frame s).field.sdo = s.field.sdo := by
  unfold fieldTick
  dsimp only [modField]
  split
  · rw [raise_field, count_field]
  · rfl

/-- Of the tick's work only duty 0 touches the field interface, and it leaves the waiting requests alone. -/
theorem systemTick_sdo (frame : Nat) (s : State) : (systemTick frame s).field.sdo = s.field.sdo := by
  unfold systemTick
  rw [fieldTick_sdo]
  refine congrArg FieldSt.sdo (Within.field (A := offField) ?_ (by decide))
  exact teleTick_within (by decide) (ledgerTick_within (by decide) (profileTick_within (by decide) (sluOrphans_within (by decide)
    (sluTick_within (by decide) (sluCycleTick_within (by decide) (slotSwap_within (by decide) (Within.refl _ s)))))))

theorem sdoServeAll_of_none {s : State} (h : s.field.sdo = []) : sdoServeAll s = s := by
  unfold sdoServeAll
  rw [h]
  split <;> rfl

/-- What follows the system's work in a tick reaches neither the tick's own registers nor the field interface. -/
theorem tickEnd_within {A : Nat} {u s : State} {frame : Nat} {misaligned : List (Fin 32)} (hM : Sub 0x8E3924B500724A6064200DDEFF7C A)
    (h_s : Within A u s) : Within A u (teleCapture (serviceTick (testTick frame misaligned s))) :=
  teleCapture_within (Sub.trans (by decide) hM) (serviceTick_within (Sub.trans (by decide) hM)
    (testTick_within (Sub.trans (by decide) hM) h_s))

/-- With no SDO request to serve, the work of a tick leaves the tick's own registers alone. -/
theorem frameWork_within_tick {s : State} (h : s.field.sdo = []) (frame : Nat) (misaligned : List (Fin 32)) :
    Within offFrame s (frameWork frame misaligned s) := by
  unfold frameWork
  extract_lets -merge -useContext +onlyGivenNames once cleared
  have hcleared : Within offFrame s cleared := Within.events_ (by decide) (Within.refl _ s)
  have hsystem : Within offFrame s (systemTick frame cleared) := systemTick_within (by decide) hcleared
  have hfield : (teleCapture (serviceTick (testTick frame misaligned (systemTick frame cleared)))).field =
      (systemTick frame cleared).field :=
    (tickEnd_within (A := offField) (by decide) (Within.refl _ _)).field (by decide)
  rw [sdoServeAll_of_none (by rw [hfield, systemTick_sdo]; exact h)]
  exact foeServeAll_within (by decide) (tickEnd_within (by decide) hsystem)

theorem get_frameWork {f : Fld} (hf : winBit f.key = 35 ∨ winBit f.key = 36) {s : State} (h : s.field.sdo = []) (frame : Nat)
    (misaligned : List (Fin 32)) : (frameWork frame misaligned s).get f = s.get f := by
  refine (frameWork_within_tick h frame misaligned).get ?_
  rcases hf with hf | hf <;> rw [hf] <;> decide

/-! ### The kinds of tick (R84 to R88) -/

/-- What a LOCAL tick clears before it counts. -/
def localCleared (s : State) : State := (s.set FRM_STAT_HOLDOVER 0).setIf (!tickFell s) FRM_STAT_MISSED 0

/-- What a SYNC0 tick clears before it counts. -/
def syncCleared (s : State) : State := ((s.set FRM_STAT_HOLDOVER 0).set FRM_STAT_MISSED 0).set FRM_STAT_ACQUIRING 0

/-- What a tick in place of a missing one records before it counts. -/
def missedCounted (s : State) : State := (s.set FRM_STAT_HOLDOVER 1).set FRM_STAT_MISSED (s.get FRM_STAT_MISSED + 1)

theorem localTick_eq (s : State) : localTick s = tickAt 0 s.clock.expectPs (nextCount s) (s.get FRM_CTL_PERIOD) (localCleared s) := rfl

theorem ownTick_of_local {s : State} (h : s.get FRM_CTL_SRC = 0) : ownTick s = some (localTick s) := by
  simp [ownTick, h]

theorem sync0_of_accepted {atPs : Nat} {s : State} (hsrc : s.get FRM_CTL_SRC = 1) (hacq : s.get FRM_STAT_ACQUIRING = 0)
    (hact : s.get FRM_STAT_SRC_ACT = 1) (hnear : within1us atPs s.clock.expectPs = true)
    (hlong : s.clock.tickPs + 2000000 ≤ edgeAfter atPs) :
    sync0 atPs s = (true, tickAt 1 (edgeAfter atPs) (nextCount s) (s.get FRM_CTL_PERIOD) (syncCleared s)) := by
  have htick : syncTick atPs s = some (tickAt 1 (edgeAfter atPs) (nextCount s) (s.get FRM_CTL_PERIOD) (syncCleared s)) :=
    if_neg (Nat.not_lt.mpr hlong)
  simp [sync0, State.on, hsrc, hacq, hact, hnear, htick]

section
variable {s : State} (hs : Sparse.Rising s.regs)
include hs

theorem rising_localCleared : Sparse.Rising (localCleared s).regs := by
  unfold localCleared State.setIf
  split
  · exact rising_set _ _ (rising_set _ _ hs)
  · exact rising_set _ _ hs

theorem localCleared_holdover : (localCleared s).get FRM_STAT_HOLDOVER = 0 := by
  unfold localCleared State.setIf
  split
  · exact (get_set_of_ne _ (by decide) 0).trans (get_set_self _ 0 hs)
  · exact get_set_self _ 0 hs

end

theorem localCleared_field (s : State) : (localCleared s).field = s.field := by
  unfold localCleared State.setIf
  split <;> rfl

/-- The period that a tick in place of a missing one puts in force: under CASCADE the upstream one holds on (R87). -/
def heldPeriod (s : State) : Nat := if s.get FRM_STAT_SRC_ACT = 2 then s.get FRM_STAT_PERIOD_ACT else s.get FRM_CTL_PERIOD

/-- A tick in place of a missing one is a tick of the source in force, beside the source that a fallback writes. -/
theorem get_holdoverTick {f : Fld} (hf : f.key ≠ FRM_STAT_SRC_ACT.key) (s : State) : (holdoverTick s).get f =
    (tickAt (s.get FRM_STAT_SRC_ACT) s.clock.expectPs (nextCount s) (heldPeriod s) (missedCounted s)).get f := by
  unfold holdoverTick
  dsimp only
  split
  · exact get_raise _ _ _ _
  · rw [get_raise, get_set_of_ne _ hf, get_raise]
    rfl

theorem holdoverTick_field (s : State) : (holdoverTick s).field = s.field :=
  (holdoverTick_within (by decide) (Within.refl 0x180000004C s)).field (by decide)

/-! ### FRM_CTL (R86 to R88) -/

/-- The written source and period held for the next tick; MISSED clears after a fallback. -/
def frmCtlTaken (v : Nat) (s : State) : State :=
  ((s.set FRM_CTL_SRC (FRM_CTL_SRC.of v)).set FRM_CTL_PERIOD (FRM_CTL_PERIOD.of v)).setIf (tickFell s) FRM_STAT_MISSED 0

/-- A valid write is taken; beside that it touches the acquisition alone. -/
theorem wrFrmCtl_of_valid {v : Nat} (hsrc : FRM_CTL_SRC.of v ≠ 3) (hlo : 2000 ≤ FRM_CTL_PERIOD.of v)
    (hhi : FRM_CTL_PERIOD.of v ≤ 10000000) (s : State) :
    ∃ t, wrFrmCtl v s = (.done, t) ∧ Narrow [.clock] [FRM_STAT_ACQUIRING] (frmCtlTaken v s) t := by
  have hrefl := Narrow.refl [.clock] [FRM_STAT_ACQUIRING] (frmCtlTaken v s)
  unfold wrFrmCtl
  dsimp only
  rw [if_neg (by omega)]
  refine ⟨_, rfl, ?_⟩
  split
  · exact hrefl.set (by simp) 0
  · split
    · exact (hrefl.set (by simp) 1).clock (by simp) _
    · exact hrefl

theorem frmCtlTaken_narrow (v : Nat) (s : State) : Narrow [] [FRM_CTL_SRC, FRM_CTL_PERIOD, FRM_STAT_MISSED] s (frmCtlTaken v s) := by
  have ht := ((Narrow.refl [] [FRM_CTL_SRC, FRM_CTL_PERIOD, FRM_STAT_MISSED] s).set (f := FRM_CTL_SRC) (by simp) (FRM_CTL_SRC.of v)).set
    (f := FRM_CTL_PERIOD) (by simp) (FRM_CTL_PERIOD.of v)
  unfold frmCtlTaken State.setIf
  split
  · exact ht.set (by simp) 0
  · exact ht

section
variable {s : State} (hs : Sparse.Rising s.regs) (v : Nat)

theorem get_frmCtlTaken {f : Fld} (hf : f.key ≠ FRM_STAT_MISSED.key) : (frmCtlTaken v s).get f =
    ((s.set FRM_CTL_SRC (FRM_CTL_SRC.of v)).set FRM_CTL_PERIOD (FRM_CTL_PERIOD.of v)).get f := by
  unfold frmCtlTaken State.setIf
  split
  · exact get_set_of_ne _ hf 0
  · rfl

include hs

theorem frmCtlTaken_src : (frmCtlTaken v s).get FRM_CTL_SRC = FRM_CTL_SRC.of v := by
  rw [get_frmCtlTaken v (by decide), get_set_of_ne _ (by decide), get_set_self _ _ hs, Fld.of_mod]

theorem frmCtlTaken_period : (frmCtlTaken v s).get FRM_CTL_PERIOD = FRM_CTL_PERIOD.of v := by
  rw [get_frmCtlTaken v (by decide), get_set_self _ _ (rising_set _ _ hs), Fld.of_mod]

theorem frmCtlTaken_missed : (frmCtlTaken v s).get FRM_STAT_MISSED = if tickFell s then 0 else s.get FRM_STAT_MISSED := by
  unfold frmCtlTaken State.setIf
  split
  · exact get_set_self _ 0 (rising_set _ _ (rising_set _ _ hs))
  · rw [get_set_of_ne _ (by decide), get_set_of_ne _ (by decide)]

end

/-! ### The slot table (R91, R92) -/

@[simp] theorem SLOT_SHD_SLOT3_bit (k : Nat) : (SLOT_SHD_SLOT3 k).key % 64 = 24 := Nat.mul_add_mod _ _ _
@[simp] theorem SLOT_SHD_SLOT2_bit (k : Nat) : (SLOT_SHD_SLOT2 k).key % 64 = 16 := Nat.mul_add_mod _ _ _
@[simp] theorem SLOT_SHD_SLOT1_bit (k : Nat) : (SLOT_SHD_SLOT1 k).key % 64 = 8 := Nat.mul_add_mod _ _ _
@[simp] theorem SLOT_SHD_SLOT0_bit (k : Nat) : (SLOT_SHD_SLOT0 k).key % 64 = 0 := Nat.mul_add_mod _ _ _

/-- The four entries of a shadow register written from a word. -/
def shdTaken (k v : Nat) (s : State) : State :=
  (((s.set (SLOT_SHD_SLOT3 k) ((SLOT_SHD_SLOT3 k).of v)).set (SLOT_SHD_SLOT2 k) ((SLOT_SHD_SLOT2 k).of v)).set (SLOT_SHD_SLOT1 k)
    ((SLOT_SHD_SLOT1 k).of v)).set (SLOT_SHD_SLOT0 k) ((SLOT_SHD_SLOT0 k).of v)

theorem exec_slotShadowWrite (a : Agent) (k : Fin 16) (value : Nat) (s : State) : exec (.slotShadowWrite a k value) s =
    .next (answer .done ((shdTaken k.val (Nat.land value 0xEFEFEFEF) s).set SLOT_CTL_ARM 0)) := rfl

section
variable {s : State} (k v : Nat)

theorem rising_shdTaken (hs : Sparse.Rising s.regs) : Sparse.Rising (shdTaken k v s).regs :=
  rising_set _ _ (rising_set _ _ (rising_set _ _ (rising_set _ _ hs)))

theorem shdTaken_narrow (s : State) :
    Narrow [] [SLOT_SHD_SLOT0 k, SLOT_SHD_SLOT1 k, SLOT_SHD_SLOT2 k, SLOT_SHD_SLOT3 k] s (shdTaken k v s) :=
  ((((Narrow.refl _ _ s).set (by simp) _).set (by simp) _).set (by simp) _).set (by simp) _

/-- Each entry is a byte of its own in the register, so it reads as written. -/
theorem shdTaken_slots (hs : Sparse.Rising s.regs) :
    (shdTaken k v s).get (SLOT_SHD_SLOT0 k) = (SLOT_SHD_SLOT0 k).of v ∧
    (shdTaken k v s).get (SLOT_SHD_SLOT1 k) = (SLOT_SHD_SLOT1 k).of v ∧
    (shdTaken k v s).get (SLOT_SHD_SLOT2 k) = (SLOT_SHD_SLOT2 k).of v ∧
    (shdTaken k v s).get (SLOT_SHD_SLOT3 k) = (SLOT_SHD_SLOT3 k).of v := by
  have h3 := rising_set (SLOT_SHD_SLOT3 k) ((SLOT_SHD_SLOT3 k).of v) hs
  have h2 := rising_set (SLOT_SHD_SLOT2 k) ((SLOT_SHD_SLOT2 k).of v) h3
  have h1 := rising_set (SLOT_SHD_SLOT1 k) ((SLOT_SHD_SLOT1 k).of v) h2
  unfold shdTaken
  refine ⟨?_, ?_, ?_, ?_⟩
  · rw [get_set_self _ _ h1, Fld.of_mod]
  · rw [get_set_of_bit _ (by simp), get_set_self _ _ h2, Fld.of_mod]
  · rw [get_set_of_bit _ (by simp), get_set_of_bit _ (by simp), get_set_self _ _ h3, Fld.of_mod]
  · rw [get_set_of_bit _ (by simp), get_set_of_bit _ (by simp), get_set_of_bit _ (by simp), get_set_self _ _ hs, Fld.of_mod]

end

/-- A register of the shadow table is not SLOT_CTL. -/
theorem get_set_arm_of_shd {f : Fld} {k : Nat} (h : f.key / 64 = 0x3000000500 + 0x4 * (k % 16)) (v : Nat) (s : State) :
    (s.set SLOT_CTL_ARM v).get f = s.get f := by
  refine get_set_of_addr s ?_ v
  rw [h, show SLOT_CTL_ARM.key / 64 = 0x3000000400 from rfl]
  omega

/-- SLOT_CTL written with ARM, where every duty but 4 has a slot. -/
theorem exec_slotArm {s : State} (h : ∀ d < 8, d ≠ 4 → dutyHasSlot d s = true) (a : Agent) : exec (.slotArm a) s =
    .next (answer .done (writeFld .w1s SLOT_CTL_ARM 1 (writeFld .w1c SLOT_CTL_SWAPPED 1 s))) := by
  have hall : (List.range 8).all (fun d => d == 4 || dutyHasSlot d s) = true := by
    simp only [List.all_eq_true, List.mem_range, Bool.or_eq_true, beq_iff_eq]
    exact fun d hd => or_iff_not_imp_left.mpr (h d hd)
  show ok (answered (wrSlotCtl 1 s)) = _
  rw [wrSlotCtl, hall, Bool.not_true, Bool.and_false, if_neg Bool.false_ne_true]
  rfl

/-- ARM is set by writing 1. -/
theorem writeFld_arm {s : State} (hs : Sparse.Rising s.regs) : (writeFld .w1s SLOT_CTL_ARM 1 s).get SLOT_CTL_ARM = 1 := by
  have hlt : s.get SLOT_CTL_ARM < 2 := regGet_lt _ _
  refine (get_set_self SLOT_CTL_ARM _ hs).trans ?_
  interval_cases s.get SLOT_CTL_ARM <;> rfl

/-! ### The telemetry snapshot (R93) -/

theorem exec_telemetrySnapshot {fr : Nat} {s : State} (hslot : (dutySlot 6 anySlot s).isSome = true) (hdue : s.clock.teleDue = some fr) :
    ∃ j, exec .telemetrySnapshot s = .next (teleTake fr (inSlot j s)) := by
  have hkept : ∀ j, (inSlot j s).clock.teleDue = some fr := fun _ => hdue
  show ∃ j, execTelemetrySnapshot s = _
  unfold execTelemetrySnapshot
  refine (inDuty_of_slot hslot _).imp (fun j hj => hj.trans ?_)
  rw [hkept j]
  rfl

/-! ### The statement -/

/-- Settles O16: the kind of tick writes the registers of the tick and its work leaves them alone; the writes are taken as they stand. -/
theorem frameCommandsComplete : Obligations.FrameCommandsComplete := by
  unfold Obligations.FrameCommandsComplete
  refine ⟨?localTick, ?sync0, ?missing, ?control, ?shadow, ?arm, ?telemetry⟩
  case localTick =>
    intro misaligned s hs hrun hsrc hsdo
    have he : exec (.frameTick misaligned) s = .next (frameWork (frameCount s) misaligned (localTick s)) := by
      show execFrameTick misaligned s = _
      rw [execFrameTick, hrun, ownTick_of_local hsrc]
      rfl
    have hrise := rising_localCleared hs.rising
    have hnone : (localTick s).field.sdo = [] := by
      rw [localTick_eq, tickAt_field, localCleared_field, hsdo]
    refine ⟨_, he, ?_, ?_, ?_, ?_⟩
    · rw [get_frameWork (.inr FRM_COUNT_COUNT_win) hnone, localTick_eq, tickAt_count _ _ _ _ hrise, nextCount_mod]
    · rw [get_frameWork (.inl FRM_STAT_PERIOD_ACT_win) hnone, localTick_eq, tickAt_period _ _ _ _ hrise]
    · rw [get_frameWork (.inl FRM_STAT_SRC_ACT_win) hnone, localTick_eq, tickAt_srcAct _ _ _ _ hrise]
    · rw [get_frameWork (.inl FRM_STAT_HOLDOVER_win) hnone, localTick_eq, get_tickAt _ _ _ _ (by decide), localCleared_holdover hs.rising]
  case sync0 =>
    intro atPs misaligned s hs hrun hsrc hacq hact hnear hlong hsdo
    have he : exec (.sync0Event atPs misaligned) s = .next (frameWork (frameCount s) misaligned
        (tickAt 1 (edgeAfter atPs) (nextCount s) (s.get FRM_CTL_PERIOD) (syncCleared s))) := by
      show execSync0Event atPs misaligned s = _
      simp only [execSync0Event, hrun, sync0_of_accepted hsrc hacq hact hnear hlong, Bool.not_true, Bool.false_eq_true, if_false, if_true,
        ok]
    have hholdover := rising_set FRM_STAT_HOLDOVER 0 hs.rising
    have hrise : Sparse.Rising (syncCleared s).regs := rising_set _ _ (rising_set _ _ hholdover)
    have hnone : (tickAt 1 (edgeAfter atPs) (nextCount s) (s.get FRM_CTL_PERIOD) (syncCleared s)).field.sdo = [] := by
      rw [tickAt_field]
      exact hsdo
    refine ⟨_, he, ?_, ?_, ?_, ?_⟩
    · rw [get_frameWork (.inr FRM_COUNT_COUNT_win) hnone, tickAt_count _ _ _ _ hrise, nextCount_mod]
    · rw [get_frameWork (.inl FRM_STAT_SRC_ACT_win) hnone, tickAt_srcAct _ _ _ _ hrise]
    · rw [get_frameWork (.inl FRM_STAT_HOLDOVER_win) hnone, get_tickAt _ _ _ _ (by decide), syncCleared, get_set_of_bit _ (by decide),
        get_set_of_bit _ (by decide), get_set_self _ _ hs.rising, Nat.zero_mod]
    · rw [get_frameWork (.inl FRM_STAT_MISSED_win) hnone, get_tickAt _ _ _ _ (by decide), syncCleared, get_set_of_bit _ (by decide),
        get_set_self _ _ hholdover, Nat.zero_mod]
  case missing =>
    intro misaligned s hs hrun hmissing hsdo
    have he : exec (.tickMissing misaligned) s = .next (frameWork (frameCount s) misaligned (holdoverTick s)) :=
      whenOk_of (by rw [hrun, hmissing]; rfl) s _
    have hholdover := rising_set FRM_STAT_HOLDOVER 1 hs.rising
    have hrise : Sparse.Rising (missedCounted s).regs := rising_set _ _ hholdover
    have hnone : (holdoverTick s).field.sdo = [] := by
      rw [holdoverTick_field, hsdo]
    refine ⟨_, he, ?_, ?_, ?_⟩
    · rw [get_frameWork (.inr FRM_COUNT_COUNT_win) hnone, get_holdoverTick (by decide), tickAt_count _ _ _ _ hrise, nextCount_mod]
    · rw [get_frameWork (.inl FRM_STAT_HOLDOVER_win) hnone, get_holdoverTick (by decide), get_tickAt _ _ _ _ (by decide), missedCounted,
        get_set_of_bit _ (by decide)]
      exact get_set_self _ 1 hs.rising
    · rw [get_frameWork (.inl FRM_STAT_MISSED_win) hnone, get_holdoverTick (by decide), get_tickAt _ _ _ _ (by decide)]
      exact get_set_self FRM_STAT_MISSED _ hholdover
  case control =>
    intro a value s hs hsrc hlo hhi
    obtain ⟨t, ht, hnarrow⟩ := wrFrmCtl_of_valid hsrc hlo hhi s
    have he : exec (.frameControlWrite a value) s = .next (answer .done t) := by
      show ok (answered (wrFrmCtl value s)) = _
      rw [ht]
      rfl
    refine ⟨_, he, rfl, ?_, ?_, ?_, ?_⟩
    · rw [get_answer, hnarrow.regs _ (by decide), frmCtlTaken_src hs.rising]
    · rw [get_answer, hnarrow.regs _ (by decide), frmCtlTaken_period hs.rising]
    · rw [get_answer, hnarrow.regs _ (by decide), frmCtlTaken_missed hs.rising]
    · exact (((frmCtlTaken_narrow value s).mono (List.nil_subset _) (by simp)).trans (hnarrow.mono (by simp) (by simp))).answer (by simp) _
  case shadow =>
    intro a k value s hs
    obtain ⟨h0, h1, h2, h3⟩ := shdTaken_slots k.val (Nat.land value 0xEFEFEFEF) hs.rising
    have harm {f : Fld} (hf : f.key / 64 = 0x3000000500 + 0x4 * (k.val % 16)) := get_set_arm_of_shd hf 0
      (shdTaken k.val (Nat.land value 0xEFEFEFEF) s)
    refine ⟨_, exec_slotShadowWrite a k value s, rfl, ?_, ?_, ?_, ?_, ?_, ?_⟩
    · exact (harm (Nat.mul_add_div (by decide) _ _)).trans h0
    · exact (harm (Nat.mul_add_div (by decide) _ _)).trans h1
    · exact (harm (Nat.mul_add_div (by decide) _ _)).trans h2
    · exact (harm (Nat.mul_add_div (by decide) _ _)).trans h3
    · exact get_set_self SLOT_CTL_ARM 0 (rising_shdTaken k.val _ hs.rising)
    · exact (((shdTaken_narrow k.val _ s).mono (List.nil_subset _) (by simp)).set (by simp) 0).answer (by simp) _
  case arm =>
    intro a s hs h
    refine ⟨_, exec_slotArm h a, rfl, writeFld_arm (rising_set SLOT_CTL_SWAPPED _ hs.rising), ?_⟩
    exact (((Narrow.refl _ _ s).set (by simp) _).set (by simp) _).answer (by simp) _
  case telemetry =>
    intro fr s hs hslot hdue
    obtain ⟨j, hj⟩ := exec_telemetrySnapshot hslot hdue
    exact ⟨_, hj, rfl, rfl, rfl, (Narrow.refl _ _ s).clock (List.mem_singleton_self _) _⟩

end Sys2Proof.Machine
end

section
/-! SUPPORT. One-time memory (R104, R465, R469, R471, R475, R476): the statement that no step unprograms it. -/
namespace Sys2Proof.Machine

/-- Settles O7: what a command reaches, a COLD reset too, only adds to the one-time memories, and these do not depend on the queue of
commands, which a step shortens. -/
theorem oneTimeMemoryOnlyGains : Obligations.OneTimeMemoryOnlyGains := by
  unfold Obligations.OneTimeMemoryOnlyGains
  intro s s' _ h
  obtain ⟨q, hw⟩ := step_within h
  have hotp : Otp s.sec s'.sec := hw.otp
  exact hotp.gains

end Sys2Proof.Machine
end

section
/-! SUPPORT. The fabric's memories and ports (R122 to R126, R134 to R136): what a cycle of a block memory, a check of its error
correction, a scrub attempt, a write of the flip register and an answer at a target port leave, and the statement of their commands. -/
namespace Sys2Proof.Machine

/-! ### Narrow frames -/

/-- A narrow frame goes on through an operation whose mask holds listed parts alone. -/
theorem Narrow.within {A : Nat} {parts : List Part} {l : List Fld} {s t u : State} (h : Narrow parts l s t) (hw : Within A t u)
    (hA : maskListed A parts [] = true) : Narrow parts l s u :=
  h.trans (hw.narrow hA)

/-! ### Lists kept by number -/

/-- A list that is put and not empty reads back, in whatever order the numbers stand. -/
theorem keyed_putKeyed {α : Type} {x : List α} (hx : x ≠ []) (k : Nat) (l : List (Nat × List α)) : keyed k (putKeyed k x l) = x := by
  have hne : x.isEmpty = false := by simpa using hx
  induction l with
  | nil => simp [putKeyed, keyed, hne]
  | cons p r ih =>
    rw [putKeyed]
    split
    · simp [keyed, hne]
    · split
      · simp [keyed, hne]
      · rename_i hk
        have hskip : keyed k (p :: putKeyed k x r) = keyed k (putKeyed k x r) := by simp [keyed, Ne.symm hk]
        rw [hskip, ih]

/-! ### Writes of block memories (R123, R126) -/

/-- The contents of the memories with a word stored: listed, unless it is 0 where an unlisted word reads as 0. -/
def wordsWith (k v : Nat) (s : State) : Sparse :=
  if spGet (k / 32768) s.fab.raw = 0 then spSet k v s.fab.words else spPut k v s.fab.words

theorem bramStore_words (k v e : Nat) (s : State) : (bramStore k v e s).fab.words = wordsWith k v s := rfl

@[simp] theorem wordsWith_set (k v : Nat) (f : Fld) (x : Nat) (s : State) : wordsWith k v (s.set f x) = wordsWith k v s := rfl

/-- What a write stores does not depend on an armed flip, which strikes the bits that stand wrong. -/
theorem bramWrite1_words {n m mode : Nat} {x : BramWr} {s : State} (h : x.word < bramWords mode) :
    (bramWrite1 n m mode x s).fab.words = wordsWith (bramWordKey n m x.word) (x.data % 2 ^ bramBits mode) s := by
  unfold bramWrite1
  dsimp only
  rw [if_neg (Nat.not_le.mpr h)]
  split <;> simp only [bramStore_words, wordsWith_set]

/-- Beside the contents of the memories a write touches the armed flip alone. -/
theorem bramWrite1_narrow (n m mode : Nat) (x : BramWr) (s : State) :
    Narrow [.fab] [FAB_FLIP_CTL_ARM n] s (bramWrite1 n m mode x s) := by
  have hrefl := Narrow.refl [.fab] [FAB_FLIP_CTL_ARM n] s
  unfold bramWrite1
  dsimp only
  split
  · exact hrefl
  · split
    · exact (hrefl.set (List.mem_singleton_self _) 0).within (bramStore_within (by decide) (Within.refl 0x80000 _)) (by decide)
    · exact hrefl.within (bramStore_within (by decide) (Within.refl 0x80000 s)) (by decide)

/-- Of two writes to one word port A's is stored (R123). -/
theorem execBramWrite_of_portA {n : Fin 17} {m : Nat} {x : BramWr} {pb : Option BramWr} {s : State} (hrun : fabRuns n.val s = true)
    (hm : m < bramCount n.val) (hpb : ∀ y, pb = some y → y.word = x.word) :
    execBramWrite n m (some x) pb s = .next (logicActs n.val (bramWrite1 n.val m (bramMode n.val m s) x s)) := by
  unfold execBramWrite
  dsimp only
  rw [whenOk_of (by simp [hrun, hm])]
  cases pb with
  | none => rfl
  | some y => simp only [hpb y rfl, if_true]

/-! ### Reads of block memories (R122, R123) -/

/-- A read's cycle ends with what the other port writes. -/
def bramCycleEnd (n m mode : Nat) (other : Option BramWr) (s : State) : State :=
  logicActs n (match other with | some y => bramWrite1 n m mode y s | none => s)

@[simp] theorem bramCycleEnd_resp (n m mode : Nat) (other : Option BramWr) (s : State) : (bramCycleEnd n m mode other s).resp = s.resp := by
  cases other with
  | none => rfl
  | some y => exact (bramWrite1_within (by decide) (Within.refl 0x200000000080000 s)).resp (by decide)

/-- The number by which an event names the port that found an error (R122). -/
def portNumber : Port → Nat
  | .a => 0
  | .b => 1

/-- A mode-8 read answered with what a check has shown: the data, and 1 for corrected or 2 for uncorrectable. -/
def checkAnswered (r : Bool × Bool × Nat × State) : State :=
  { r.2.2.2 with resp := ⟨.done, r.2.2.1, [if r.1 then 1 else if r.2.1 then 2 else 0]⟩ }

/-- The outcomes of a read: nothing, a plain answer, a checked one. -/
theorem execBramRead_eq (n : Fin 17) (m : Nat) (p : Port) (x : BramRd) (strike : Nat) (s : State) : execBramRead n m p x strike s =
    if !fabRuns n.val s ∨ bramCount n.val ≤ m ∨ bramWords (bramMode n.val m s) ≤ x.word then .next s
    else if bramMode n.val m s ≠ 8 then
      .next (bramCycleEnd n.val m (bramMode n.val m s) x.other { s with resp := ⟨.done, bramWord n.val m x.word s, [0]⟩ })
    else .next (bramCycleEnd n.val m (bramMode n.val m s) x.other
      (checkAnswered (bramCheck n.val m x.word (portNumber p) (bramStrike (bramWordKey n.val m x.word) strike s)))) := rfl

section
variable {n : Fin 17} {m : Nat} {p : Port} {x : BramRd} {strike : Nat} {s : State} (hrun : fabRuns n.val s = true)
  (hm : m < bramCount n.val)
include hrun hm

theorem execBramRead_of_plain (hw : x.word < bramWords (bramMode n.val m s)) (hmode : bramMode n.val m s ≠ 8) :
    execBramRead n m p x strike s =
      .next (bramCycleEnd n.val m (bramMode n.val m s) x.other { s with resp := ⟨.done, bramWord n.val m x.word s, [0]⟩ }) := by
  rw [execBramRead_eq, if_neg (by simp [hrun, hm, hw]), if_pos hmode]

theorem execBramRead_of_checked (hw : x.word < 512) (hmode : bramMode n.val m s = 8) : execBramRead n m p x strike s =
    .next (bramCycleEnd n.val m 8 x.other
      (checkAnswered (bramCheck n.val m x.word (portNumber p) (bramStrike (bramWordKey n.val m x.word) strike s)))) := by
  rw [execBramRead_eq, hmode, if_neg (by simp [hrun, hm, bramWords, hw]), if_neg (not_not_intro rfl)]

end

theorem execBramRead_frame {n : Fin 17} {m : Nat} {p : Port} {x : BramRd} {strike : Nat} {s t : State}
    (h : execBramRead n m p x strike s = .next t) : Frame [.resp, .events, .trace, .fab, .leap] [.blockMemories] s t :=
  ((execBramRead_within (Sub.refl _) (Within.refl _ s)).of_next h).frame (by decide)

/-- A check shows what the error correction senses of the word. -/
theorem checkAnswered_resp (n m w found : Nat) (s : State) :
    let x := bramSense (bramWord n m w s) (spGet (bramWordKey n m w) s.fab.errs)
    (checkAnswered (bramCheck n m w found s)).resp = ⟨.done, x.2.2, [if x.1 then 1 else if x.2.1 then 2 else 0]⟩ := by
  unfold checkAnswered bramCheck
  dsimp only
  split
  · rfl
  · split <;> rfl

/-! ### The scrubber (R124, R125) -/

theorem bramCorr_tries (n : Nat) (s : State) : (bramCorr n s).fab.tries = s.fab.tries := by
  unfold bramCorr bucketHit
  dsimp only
  split
  · rw [raise_fab]
    rfl
  · rfl

theorem bramUncorr_tries (n m w found : Nat) (s : State) : (bramUncorr n m w found s).fab.tries = s.fab.tries := by
  unfold bramUncorr
  dsimp only
  rw [raise_fab]
  rfl

/-- A check counts errors, not attempts. -/
theorem bramCheck_tries (n m w found : Nat) (s : State) : (bramCheck n m w found s).2.2.2.fab.tries = s.fab.tries := by
  unfold bramCheck
  dsimp only
  split
  · exact bramCorr_tries n s
  · split
    · exact bramUncorr_tries n m w found s
    · rfl

theorem scrubOn_tries (n p : Nat) (s : State) : (scrubOn n p s).fab.tries = spDel n s.fab.tries := by
  unfold scrubOn
  dsimp only
  split <;> rfl

theorem scrubWord_free_tries (n p strike : Nat) (s : State) : (scrubWord n p strike true s).fab.tries = spDel n s.fab.tries := by
  unfold scrubWord
  dsimp only
  rw [if_pos rfl, scrubOn_tries, bramCheck_tries]
  rfl

theorem scrubWord_of_busy {n p strike : Nat} {s : State} (h : spGet n s.fab.tries + 1 < 256) : scrubWord n p strike false s =
    { s with fab := { s.fab with tries := spSet n (spGet n s.fab.tries + 1) s.fab.tries } } := by
  unfold scrubWord
  dsimp only
  rw [if_neg Bool.false_ne_true, if_neg (by omega)]

theorem execBramScrubWord_of_next {n : Fin 17} {p strike : Nat} {free : Bool} {s : State} (hp : scrubNext n.val s = some p)
    (hrun : fabRuns n.val s = true) (hrate : s.get (FAB_ECC_CTL_SCRUB_RATE n.val) ≠ 0) :
    execBramScrubWord n free strike s = .next (scrubWord n.val p strike free s) := by
  unfold execBramScrubWord
  rw [hp]
  exact whenOk_of (by simp [hrun, hrate]) s _

/-! ### Flips (R126) -/

@[simp] theorem FAB_FLIP_CTL_ARM_bit (n : Nat) : (FAB_FLIP_CTL_ARM n).key % 64 = 31 := Nat.mul_add_mod _ _ _
@[simp] theorem FAB_FLIP_CTL_MEM_bit (n : Nat) : (FAB_FLIP_CTL_MEM n).key % 64 = 8 := Nat.mul_add_mod _ _ _
@[simp] theorem FAB_FLIP_CTL_CMASK_bit (n : Nat) : (FAB_FLIP_CTL_CMASK n).key % 64 = 0 := Nat.mul_add_mod _ _ _

/-- A write of FAB_FLIP_CTL taken: ARM is set by a 1, the memory and the mask are those written. -/
def flipTaken (n v : Nat) (s : State) : State :=
  ((s.set (FAB_FLIP_CTL_ARM n) (Nat.lor (s.get (FAB_FLIP_CTL_ARM n)) ((FAB_FLIP_CTL_ARM n).of v))).set (FAB_FLIP_CTL_MEM n)
    ((FAB_FLIP_CTL_MEM n).of v)).set (FAB_FLIP_CTL_CMASK n) ((FAB_FLIP_CTL_CMASK n).of v)

/-- A one-bit field set by writing 1 (R7, W1S). -/
theorem lor_oneBit {a b : Nat} (ha : a < 2) (hb : b < 2) : Nat.lor a b % 2 = if b = 1 then 1 else a := by
  interval_cases a <;> interval_cases b <;> rfl

section
variable {n v : Nat} {s : State}

theorem wrFabFlip_of_valid (hm : (FAB_FLIP_CTL_MEM n).of v < bramCount n)
    (harm : (FAB_FLIP_CTL_ARM n).hit v = true → bramMode n ((FAB_FLIP_CTL_MEM n).of v) s = 8) :
    wrFabFlip n v s = (.done, flipTaken n v s) := by
  unfold wrFabFlip
  dsimp only
  refine if_neg ?_
  rintro (hfar | ⟨hhit, hmode⟩)
  · exact absurd hfar (Nat.not_le.mpr hm)
  · exact hmode (harm hhit)

theorem flipTaken_narrow (n v : Nat) (s : State) :
    Narrow [] [FAB_FLIP_CTL_MEM n, FAB_FLIP_CTL_CMASK n, FAB_FLIP_CTL_ARM n] s (flipTaken n v s) :=
  (((Narrow.refl _ _ s).set (by simp) _).set (by simp) _).set (by simp) _

variable (hs : Sparse.Rising s.regs)
include hs

theorem flipTaken_mem : (flipTaken n v s).get (FAB_FLIP_CTL_MEM n) = (FAB_FLIP_CTL_MEM n).of v := by
  rw [flipTaken, get_set_of_bit _ (by simp), get_set_self _ _ (rising_set _ _ hs), Fld.of_mod]

theorem flipTaken_cmask : (flipTaken n v s).get (FAB_FLIP_CTL_CMASK n) = (FAB_FLIP_CTL_CMASK n).of v := by
  rw [flipTaken, get_set_self _ _ (rising_set _ _ (rising_set _ _ hs)), Fld.of_mod]

theorem flipTaken_arm : (flipTaken n v s).get (FAB_FLIP_CTL_ARM n) =
    if (FAB_FLIP_CTL_ARM n).of v = 1 then 1 else s.get (FAB_FLIP_CTL_ARM n) := by
  rw [flipTaken, get_set_of_bit _ (by simp), get_set_of_bit _ (by simp), get_set_self _ _ hs]
  exact lor_oneBit (regGet_lt (FAB_FLIP_CTL_ARM n) s.regs) (Nat.mod_lt _ Nat.two_pos)

end

/-! ### Engine ports (R135, R136) -/

section
variable {q : Fin 16} {s : State} (hrun : fabRuns q.val s = true) (hiso : s.get (REG_STAT_ISO q.val) = 0)
include hrun hiso

theorem execTapDrain_of_open (count : Nat) : ∃ t, execTapDrain q count s = .next t ∧
    t.resp.bytes = ((keyed q.val (tapFlush q.val s).ports.tap).take count).flatMap (toBytes 16) :=
  ⟨_, whenOk_of (by simp [State.on, hrun, hiso]) s _, rfl⟩

theorem execDataInWrite_of_open (hdin : s.on (FAB_PORT_CTL_DIN_EN q.val) = true) (word : Nat) : execDataInWrite q word s =
    .next (logicActs q.val { s with ports := { s.ports with
      din := putKeyed q.val (keyed q.val s.ports.din ++ [word % 2 ^ 64]) s.ports.din } }) :=
  whenOk_of (by rw [hdin, hrun, State.on, hiso]; rfl) s _

end

/-! ### Target ports (R134) -/

section
variable {n : Nat} {s : State} (hreq : portReq n s = none)
include hreq

/-- An access that no NoC request carries is answered to the port itself. -/
theorem portAnswer_of_noReq (st : Status) (b : List Byte) : portAnswer n st b s =
    { s with resp := ⟨st, ofBytes (b.take 8), b⟩, fab := { s.fab with asked := s.fab.asked.erase n } } := by
  rw [portAnswer, hreq]

theorem portAnswer_narrow (st : Status) (b : List Byte) (l : List Fld) : Narrow [.resp, .fab] l s (portAnswer n st b s) := by
  rw [portAnswer_of_noReq hreq]
  have hasked : Within 0x80001 s { s with fab := { s.fab with asked := s.fab.asked.erase n } } :=
    Within.fab_ (by decide) (Within.refl _ s)
  exact (Within.resp_ (by decide) hasked).narrow (by decide)

theorem portOpen_of_noReq : portOpen n s =
    { s with fab := { s.fab with asked := if n ∈ s.fab.asked then s.fab.asked else s.fab.asked ++ [n] } } := by
  rw [portOpen, hreq]

theorem mem_asked_portOpen : n ∈ (portOpen n s).fab.asked := by
  rw [portOpen_of_noReq hreq]
  dsimp only
  split
  · assumption
  · simp

theorem portOpen_narrow (l : List Fld) : Narrow [.fab] l s (portOpen n s) := by
  rw [portOpen_of_noReq hreq]
  exact (Within.fab_ (by decide) (Within.refl 0x80000 s)).narrow (by decide)

/-- The area turns nothing away that stands at its port already, or that it does not refuse. -/
theorem port_takes (h : n ∈ s.fab.asked ∨ areaRefuses n s = none) : (if portAccepted n s then none else areaRefuses n s) = none := by
  rw [portAccepted, hreq]
  rcases h with h | h <;> simp [h]

theorem portPresent_of_answered (h : n ∈ s.fab.asked ∨ areaRefuses n s = none) {f : FabAnswer} (hrun : fabRuns n s = true)
    (hst : fabStatus f.status = true) :
    portPresent n (some f) s = logicActs n (portAnswer n f.status (f.data.take 256) s) := by
  simp only [portPresent, port_takes hreq h, hrun, hst, Bool.and_self, if_true]

theorem portPresent_of_silent (h : n ∈ s.fab.asked ∨ areaRefuses n s = none) : portPresent n none s = portOpen n s := by
  simp only [portPresent, port_takes hreq h]

end

theorem execTargetPortRequest_of_target {n : Fin 17} {addr : Nat} (h : targetOf addr = some (32 + n.val)) (x : Option FabAnswer)
    (s : State) : execTargetPortRequest n addr x s = .next (portPresent n.val x s) :=
  whenOk_of (by rw [h, beq_self_eq_true]) s _

theorem execTargetPortTimeout_of_asked {n : Fin 17} {s : State} (h : n.val ∈ s.fab.asked) :
    execTargetPortTimeout n s = .next (portAnswer n.val .timeout [] s) :=
  whenOk_of (by simp [portBusy, h]) s _

/-! ### The statement -/

/-- Settles O18: each clause is the one way in which its access goes where its condition holds; the frames are those of the reach, and
narrower where the access touches less. -/
theorem fabricCommandsComplete : Obligations.FabricCommandsComplete := by
  unfold Obligations.FabricCommandsComplete
  refine ⟨?read, ?readChecked, ?write, ?writeback, ?scrub, ?scrubBusy, ?flip, ?drain, ?dataIn, ?answered, ?standing, ?timeout⟩
  case read =>
    intro area mem port access strike s _ hrun hm hw hmode
    have he := execBramRead_of_plain (p := port) (strike := strike) hrun hm hw hmode
    exact ⟨_, he, bramCycleEnd_resp _ _ _ _ _, execBramRead_frame he⟩
  case readChecked =>
    intro area mem port access strike s _ hrun hm hw hmode
    have he := execBramRead_of_checked (p := port) (strike := strike) hrun hm hw hmode
    exact ⟨_, he, (bramCycleEnd_resp _ _ _ _ _).trans (checkAnswered_resp _ _ _ _ _), execBramRead_frame he⟩
  case write =>
    intro area mem x pb s _ hrun hm hw hpb
    refine ⟨_, execBramWrite_of_portA hrun hm hpb, bramWrite1_words hw, ?_⟩
    exact (bramWrite1_narrow _ _ _ _ s).within (logicActs_within (by decide) (Within.refl 0x80000 _)) (by decide)
  case writeback =>
    intro area mem word p s _ hdue
    have he : execBramWriteback area mem word s = .next (bramStore p.1 p.2 0 s) := by
      rw [execBramWriteback, hdue]
      rfl
    exact ⟨_, he, rfl, rfl, (bramStore_within (by decide) (Within.refl 0x80000 s)).narrow (by decide)⟩
  case scrub =>
    intro area strike p s _ hp hrun hrate
    refine ⟨_, execBramScrubWord_of_next hp hrun hrate, scrubWord_free_tries _ _ _ s, ?_⟩
    exact (scrubWord_within (Sub.refl _) (Within.refl _ s)).frame (by decide)
  case scrubBusy =>
    intro area strike p s _ hp hrun hrate htries
    have he := execBramScrubWord_of_next (strike := strike) (free := false) hp hrun hrate
    rw [scrubWord_of_busy htries] at he
    exact ⟨_, he, rfl, (Within.fab_ (by decide) (Within.refl 0x80000 s)).narrow (by decide)⟩
  case flip =>
    intro a area value s hs hm harm
    have he : execFlipArm a area value s = .next (answer .done (flipTaken area.val value s)) := by
      rw [execFlipArm, wrFabFlip_of_valid hm harm]
      rfl
    refine ⟨_, he, rfl, flipTaken_mem hs.rising, flipTaken_cmask hs.rising, flipTaken_arm hs.rising, ?_⟩
    exact ((flipTaken_narrow area.val value s).mono (List.nil_subset _) (List.Subset.refl _)).answer (List.mem_singleton_self _) _
  case drain =>
    intro q count s _ hrun hiso
    obtain ⟨t, he, hbytes⟩ := execTapDrain_of_open hrun hiso count
    exact ⟨t, he, hbytes, ((execTapDrain_within (Sub.refl _) (Within.refl _ s)).of_next he).frame (by decide)⟩
  case dataIn =>
    intro q word s _ hdin hrun hiso
    have he := execDataInWrite_of_open hrun hiso hdin word
    exact ⟨_, he, keyed_putKeyed (by simp) _ _, ((execDataInWrite_within (Sub.refl _) (Within.refl _ s)).of_next he).narrow (by decide)⟩
  case answered =>
    intro area addr f s _ htarget hreq htakes hrun hst
    have he := execTargetPortRequest_of_target htarget (some f) s
    rw [portPresent_of_answered hreq htakes hrun hst] at he
    refine ⟨_, he, ?_, ?_⟩
    · show (portAnswer area.val f.status (f.data.take 256) s).resp = _
      rw [portAnswer_of_noReq hreq]
      dsimp only
      rw [List.take_take, show min 8 256 = 8 from rfl]
    · exact (portAnswer_narrow hreq _ _ _).within (logicActs_within (by decide) (Within.refl 0x80000 _)) (by decide)
  case standing =>
    intro area addr s _ htarget hreq htakes
    have he := execTargetPortRequest_of_target htarget none s
    rw [portPresent_of_silent hreq htakes] at he
    exact ⟨_, he, mem_asked_portOpen hreq, portOpen_narrow hreq _⟩
  case timeout =>
    intro area s _ hasked hreq
    refine ⟨_, execTargetPortTimeout_of_asked hasked, ?_, ?_, portAnswer_narrow hreq _ _ _⟩
    · rw [portAnswer_of_noReq hreq]
    · rw [portAnswer_of_noReq hreq]

end Sys2Proof.Machine
end

section
/-! SUPPORT. The configuration loader and Rill (R144 to R158): what a request, a region's end of validity, the steps of a load, a checked
frame and an on-demand pass leave, and the statement of their commands. -/
namespace Sys2Proof.Machine

/-! ### Fields of REG_STAT -/

@[simp] theorem REG_STAT_STATE_bit (n : Nat) : (REG_STAT_STATE n).key % 64 = 0 := Nat.mul_add_mod _ _ _
@[simp] theorem REG_STAT_ISO_bit (n : Nat) : (REG_STAT_ISO n).key % 64 = 3 := Nat.mul_add_mod _ _ _
@[simp] theorem REG_STAT_SLOT_bit (n : Nat) : (REG_STAT_SLOT n).key % 64 = 5 := Nat.mul_add_mod _ _ _
@[simp] theorem REG_STAT_FROM_FULL_bit (n : Nat) : (REG_STAT_FROM_FULL n).key % 64 = 9 := Nat.mul_add_mod _ _ _
@[simp] theorem REG_STAT_ABORT_bit (n : Nat) : (REG_STAT_ABORT n).key % 64 = 10 := Nat.mul_add_mod _ _ _
@[simp] theorem REG_STAT_FRAMES_DONE_bit (n : Nat) : (REG_STAT_FRAMES_DONE n).key % 64 = 16 := Nat.mul_add_mod _ _ _

/-- The mask of everything but the registers of the areas (`winBit` 55). -/
abbrev offRegions : Nat := 0x1FFFFFFFFFFFFFFFFFF7FFFFFFFFFFFFF

/-- An operation that does not reach the registers of the areas leaves them. -/
theorem Within.get_region {s t : State} (h : Within offRegions s t) {f : Fld} (hf : winBit f.key = 55) : t.get f = s.get f :=
  h.get (by rw [hf]; decide)

/-! ### The loader's own state -/

@[simp] theorem get_modLdr (g : LdrSt → LdrSt) (s : State) (f : Fld) : (modLdr g s).get f = s.get f := rfl
@[simp] theorem modLdr_ldr (g : LdrSt → LdrSt) (s : State) : (modLdr g s).ldr = g s.ldr := rfl

theorem modLdr_narrow (g : LdrSt → LdrSt) (l : List Fld) (s : State) : Narrow [.ldr] l s (modLdr g s) :=
  (modLdr_within (by decide) (Within.refl 0x100000 s)).narrow (by decide)

@[simp] theorem setMark_ldr (n : Nat) (b : Bool) (s : State) : (setMark n b s).ldr = s.ldr := by
  unfold setMark
  split <;> rfl

/-! ### Requests (R146, R147) -/

/-- The value of LDR_REQ that spells an operation on a region or a slot. -/
def ldrWord (op region slot : Nat) : Nat := 256 * op + 16 * region + slot

section
variable {op region slot : Nat} (hslot : slot < 16)
include hslot

theorem ldrWord_op (hregion : region < 16) (hop : op < 4) : LDR_REQ_OP.of (ldrWord op region slot) = op := by
  show (256 * op + 16 * region + slot) / 2 ^ 8 % 2 ^ 2 = op
  omega

theorem ldrWord_region (hregion : region < 16) : LDR_REQ_REGION.of (ldrWord op region slot) = region := by
  show (256 * op + 16 * region + slot) / 2 ^ 4 % 2 ^ 4 = region
  omega

theorem ldrWord_slot : LDR_REQ_SLOT.of (ldrWord op region slot) = slot := by
  show (256 * op + 16 * region + slot) / 2 ^ 0 % 2 ^ 4 = slot
  omega

end

/-- A permitted write with HBM at hand acts at once where it invalidates the region being loaded, and else joins the queue. -/
theorem wrLdrReq_of_permitted {a : Agent} {op region slot : Nat} {s : State} (ha : a.core03 = true ∨ a.fieldIM = true)
    (hon : domOn 64 s = true ∧ domOn 65 s = true) (hop : op < 3) (hregion : region < 16) (hslot : slot < 16) :
    wrLdrReq a (ldrWord op region slot) s =
    if op = 2 ∧ loads region s = true then (.done, invalidate region s)
    else ldrEnqueue ⟨op, if op = 2 then 0 else slot, if op = 2 then region else 0, a.init.val⟩ s := by
  unfold wrLdrReq
  dsimp only
  rw [ldrWord_op hslot hregion (by omega), ldrWord_region hslot hregion, ldrWord_slot hslot,
    if_neg (by simpa [or_iff_not_imp_left] using ha), if_neg (by omega), if_neg (by simp [hon])]

/-- A request at the end of the queue. -/
def ldrJoined (q : LdrReq) (s : State) : State := modLdr (fun l => { l with queue := l.queue ++ [q] }) s

theorem ldrJoined_narrow (q : LdrReq) (s : State) : Narrow [.resp, .ldr] [] s (answer .done (ldrJoined q s)) :=
  ((modLdr_narrow _ _ s).mono (by simp) (List.Subset.refl _)).answer (by simp) .done

/-- A request that does not wait yet joins the queue at its end. -/
theorem ldrEnqueue_of_room {q : LdrReq} {s : State}
    (hnew : s.ldr.queue.any (fun x => x.op == q.op && x.slot == q.slot && x.region == q.region) = false)
    (hlen : s.ldr.queue.length < 16) :
    ldrEnqueue q s = (.done, ldrJoined q s) := by
  unfold ldrEnqueue
  rw [if_neg (by simp [hnew]), if_neg (by omega)]
  rfl

theorem exec_loaderStage_eq (a : Agent) (n : Fin 16) (s : State) :
    exec (.loaderStage a n) s = .next (answered (wrLdrReq a (ldrWord 0 0 n.val) s)) := by
  rw [show ldrWord 0 0 n.val = n.val by simp [ldrWord]]
  rfl

theorem exec_loaderLoad_eq (a : Agent) (n : Fin 16) (s : State) :
    exec (.loaderLoad a n) s = .next (answered (wrLdrReq a (ldrWord 1 0 n.val) s)) := rfl

theorem exec_loaderInvalidate_eq (a : Agent) (r : Fin 16) (s : State) :
    exec (.loaderInvalidate a r) s = .next (answered (wrLdrReq a (ldrWord 2 r.val 0) s)) := rfl

/-! ### A region that becomes INVALID (R146, R150, R153) -/

theorem isoEngage_iso {s : State} (hs : Sound s) (r : Nat) : (isoEngage r s).get (REG_STAT_ISO r) = 1 := by
  have hheld : Within anywhere s (if r < 16 then bordersHeld r s else s) :=
    Within.ite (bordersHeld_within (by decide) (Within.refl _ s)) (Within.refl _ s)
  exact get_set_self (REG_STAT_ISO r) 1 (hheld.rising hs)

/-- Beside what isolation writes, a region that becomes INVALID writes of the registers its state alone. -/
theorem regionInvalid_within_state (r : Nat) (s : State) :
    Within 0x1C0001 ((isoEngage r s).set (REG_STAT_STATE r) regInvalid) (regionInvalid r s) :=
  portFault_within (by decide) (gatesOpen_within (by decide) (modLdr_within (by decide) (Within.refl _ _)))

theorem regionInvalid_state {s : State} (hs : Sound s) (r : Nat) : (regionInvalid r s).get (REG_STAT_STATE r) = regInvalid := by
  have hiso : Within anywhere s (isoEngage r s) := isoEngage_within (by decide) (Within.refl _ s)
  rw [((regionInvalid_within_state r s).mono (by decide)).get_region (REG_STAT_STATE_win r)]
  exact get_set_self _ regInvalid (hiso.rising hs)

theorem regionInvalid_iso {s : State} (hs : Sound s) (r : Nat) : (regionInvalid r s).get (REG_STAT_ISO r) = 1 := by
  rw [((regionInvalid_within_state r s).mono (by decide)).get_region (REG_STAT_ISO_win r), get_set_of_bit _ (by simp)]
  exact isoEngage_iso hs r

/-- Of the loader's own state a region that becomes INVALID leaves all but its place among those in HELD. -/
theorem regionInvalid_ldr (r : Nat) (s : State) :
    (regionInvalid r s).ldr = { s.ldr with holding := s.ldr.holding.erase r } := by
  have hiso : (isoEngage r s).ldr = s.ldr := (isoEngage_within (by decide) (Within.refl 0x80000000084000 s)).ldr (by decide)
  rw [← hiso]
  exact (portFault_within (by decide) (Within.refl 0xC0001 _)).ldr (by decide)

/-- A region left INVALID and isolated, with the cause in ABORT. -/
structure Invalidated (r cause : Nat) (t : State) : Prop where
  state : t.get (REG_STAT_STATE r) = regInvalid
  abort : t.get (REG_STAT_ABORT r) = cause % 4
  iso : t.get (REG_STAT_ISO r) = 1

theorem regionInvalid_abort {s : State} (hs : Sound s) (r cause : Nat) :
    Invalidated r cause ((regionInvalid r s).set (REG_STAT_ABORT r) cause) := by
  have hw : Within anywhere s (regionInvalid r s) := regionInvalid_within (by decide) (Within.refl _ s)
  constructor
  · exact (get_set_of_bit _ (by simp) _).trans (regionInvalid_state hs r)
  · exact get_set_self _ cause (hw.rising hs)
  · exact (get_set_of_bit _ (by simp) _).trans (regionInvalid_iso hs r)

theorem Within.invalidated {r cause : Nat} {s t : State} (h : Within offRegions s t) (hs : Invalidated r cause s) :
    Invalidated r cause t :=
  ⟨(h.get_region (REG_STAT_STATE_win r)).trans hs.state, (h.get_region (REG_STAT_ABORT_win r)).trans hs.abort,
    (h.get_region (REG_STAT_ISO_win r)).trans hs.iso⟩

/-- What a load that ends early does beside leaving its region: its grant and the event. -/
theorem loadAbort_within_invalid (r cause : Nat) (s : State) :
    Within 0x180060000000011C (jobEnd ((regionInvalid r s).set (REG_STAT_ABORT r) cause)) (loadAbort r cause s) :=
  raise_within (by decide) (loadGrantEnd_within (by decide) (Within.refl _ _))

theorem loadAbort_invalidated {s : State} (hs : Sound s) (r cause : Nat) : Invalidated r cause (loadAbort r cause s) := by
  obtain ⟨hstate, habort, hiso⟩ := regionInvalid_abort hs r cause
  exact ((loadAbort_within_invalid r cause s).mono (by decide)).invalidated ⟨hstate, habort, hiso⟩

theorem loadAbort_job (r cause : Nat) (s : State) : (loadAbort r cause s).ldr.job = none :=
  congrArg LdrSt.job ((loadAbort_within_invalid r cause s).ldr (by decide))

/-- An INVALIDATE of the region being loaded ends the load. -/
theorem exec_loaderInvalidate_of_loading {a : Agent} {r : Fin 16} {s : State} (ha : a.core03 = true ∨ a.fieldIM = true)
    (hon : domOn 64 s = true ∧ domOn 65 s = true) (hloads : loads r.val s = true) :
    exec (.loaderInvalidate a r) s = .next (answer .done (loadAbort r.val 3 s)) := by
  rw [exec_loaderInvalidate_eq, wrLdrReq_of_permitted ha hon (by decide) r.isLt (by decide), if_pos ⟨rfl, hloads⟩, invalidate,
    if_pos hloads, answered_eq]

/-! ### A request at work (R147) -/

theorem exec_loaderDispatch_of_front {q : LdrReq} {rest : List LdrReq} {s : State} (hjob : s.ldr.job = none)
    (hqueue : s.ldr.queue = q :: rest) (hop : q.op ≠ 4) : exec .loaderDispatch s = .next (dispatch q rest s) := by
  show execLoaderDispatch s = _
  unfold execLoaderDispatch
  rw [hjob, hqueue]
  exact congrArg Host.Outcome.next (if_neg (fun h => hop h.1))

/-- The queue once its front is taken. -/
def ldrTaken (rest : List LdrReq) (s : State) : State := modLdr (fun l => { l with queue := rest }) s

theorem dispatch_of_stage {q : LdrReq} (hop : q.op = 0) (rest : List LdrReq) (s : State) : dispatch q rest s =
    modLdr (fun l => { l with job := some ⟨q, 17, .staging, 0⟩ }) (setMark (reqCopy q (ldrTaken rest s)) false (ldrTaken rest s)) := by
  unfold dispatch
  dsimp only
  rw [if_neg (by omega), if_pos hop, if_pos (by omega)]
  rfl

/-- With no load at work an INVALIDATE finds none of its region. -/
theorem dispatch_of_invalidate {q : LdrReq} {s : State} (hop : q.op = 2) (hjob : s.ldr.job = none) (rest : List LdrReq) :
    dispatch q rest s = (regionInvalid q.region (ldrTaken rest s)).set (REG_STAT_ABORT q.region) 3 := by
  have hloads : loads q.region (ldrTaken rest s) = false := by
    unfold loads
    rw [show (ldrTaken rest s).ldr.job = none from hjob]
  have hact : dispatch q rest s = invalidate q.region (ldrTaken rest s) := by
    unfold dispatch
    dsimp only
    rw [if_pos hop]
    rfl
  rw [hact, invalidate, hloads, if_neg Bool.false_ne_true]

/-! ### Staging (R108, R146) -/

/-- A slot that cannot be read fails with code 1. -/
theorem stageFor_unread (n : Nat) (s : State) : (stageFor n false s).1 = 1 := by
  unfold stageFor stageImage
  split <;> rfl

/-- The end of a STAGE: a failure's code goes to LAST_ERR. -/
theorem exec_stageComplete_of_stage {j : LdrJob} {s : State} (hjob : s.ldr.job = some j) (hphase : j.phase = .staging)
    (hop : j.req.op = 0) (flashOk : Bool) : exec (.stageComplete flashOk) s =
      .next (if (stageFor (reqCopy j.req s) flashOk s).1 ≠ 0 then
        (jobEnd (stageFor (reqCopy j.req s) flashOk s).2).set LDR_STAT_LAST_ERR (stageFor (reqCopy j.req s) flashOk s).1
      else jobEnd (stageFor (reqCopy j.req s) flashOk s).2) := by
  show execStageComplete flashOk s = _
  unfold execStageComplete
  simp [hjob, hphase, hop, stageFailed, ok]

/-! ### The steps of a load (R149) -/

/-- An area's registers as its load begins to write. -/
def loadingFrom (r : Nat) (s : State) : State :=
  ((s.set (REG_STAT_STATE r) regLoading).set (REG_STAT_ABORT r) 0).set (REG_STAT_FRAMES_DONE r) 0

theorem loadingFrom_state {s : State} (hs : Sparse.Rising s.regs) (r : Nat) :
    (loadingFrom r s).get (REG_STAT_STATE r) = regLoading := by
  unfold loadingFrom
  rw [get_set_of_bit _ (by simp), get_set_of_bit _ (by simp)]
  exact get_set_self _ regLoading hs

theorem loadingFrom_iso (r : Nat) (s : State) : (loadingFrom r s).get (REG_STAT_ISO r) = s.get (REG_STAT_ISO r) := by
  unfold loadingFrom
  simp (disch := simp) only [get_set_of_bit]

theorem get_fusesTake (n : Nat) (s : State) (f : Fld) : (fusesTake n s).get f = s.get f :=
  ((fusesTake_within (by decide) (Within.refl 0x80000 s)).narrow (parts := [.fab]) (l := []) (by decide)).regs f (by simp)

theorem fusesTake_ldr (n : Nat) (s : State) : (fusesTake n s).ldr = s.ldr :=
  (fusesTake_within (by decide) (Within.refl 0x80000 s)).ldr (by decide)

/-- A granted load of the static region goes on to its records, and one of a region to its drain. -/
theorem exec_loadGrantIssued_of_granted {j : LdrJob} {s : State} (hjob : s.ldr.job = some j) (hphase : j.phase = .granting)
    (hgrant : grantedForPurpose forLoad s = true) : exec .loadGrantIssued s = .next (if j.region = 16 then
      modLdr (fun l => { l with job := some { j with phase := .writing } }) (fusesTake 16 (loadingFrom 16 s))
    else modLdr (fun l => { l with job := some { j with phase := .draining } }) s) := by
  show execLoadGrantIssued s = _
  unfold execLoadGrantIssued
  rw [hjob]
  exact whenOk_of (by simp [hphase, hgrant]) s _

/-- The end of the drain isolates the region and asks for its gates. -/
theorem exec_loadDrainEnd_of_draining {r : Fin 16} {j : LdrJob} {s : State} (hjob : s.ldr.job = some j) (hphase : j.phase = .draining)
    (hregion : j.region = r.val) : exec (.loadDrainEnd r) s = .next (fusesTake r.val
      (modLdr (fun l => { l with job := some { j with phase := .gating }, holding := l.holding.erase r.val })
        (loadingFrom r.val (isolate r.val s)))) := by
  have hdrains : areaDrains r.val s = true := by simp [areaDrains, hjob, hphase, hregion]
  show execLoadDrainEnd r s = _
  unfold execLoadDrainEnd
  dsimp only
  rw [hdrains, if_pos rfl, hjob]
  rfl

/-- A record that was read and written well moves the load on. -/
theorem exec_loadRecordWrite_of_good {back : Bool} {j : LdrJob} {s u v : State} (hjob : s.ldr.job = some j) (hphase : j.phase = .writing)
    (hleft : j.done_ < areaRecords (jobImg j s) j.region) (hwindow : hbmWindow 2 65 s = true)
    (hread : copyReads 47 (cacheBase (jobSource j)) (recordSpan (jobImg j s) j.region j.done_).1
      (recordSpan (jobImg j s) j.region j.done_).2 s = (true, u))
    (hwrite : writeRecord (jobImg j s) j.region j.done_ back u = (.good, v)) :
    exec (.loadRecordWrite back) s = .next (modLdr (fun l => { l with job := some { j with done_ := j.done_ + 1 } }) v) := by
  show execLoadRecordWrite back s = _
  unfold execLoadRecordWrite
  rw [hjob]
  dsimp only
  rw [if_neg (by simp [hphase, hwindow]; omega), hread]
  dsimp only
  rw [hwrite]
  rfl

/-- A load with every record written ends. -/
theorem exec_loadComplete_of_written {j : LdrJob} {s : State} (hjob : s.ldr.job = some j) (hphase : j.phase = .writing)
    (hdone : areaRecords (jobImg j s) j.region ≤ j.done_) : exec .loadComplete s = .next (loadDone j s) := by
  show execLoadComplete s = _
  unfold execLoadComplete
  rw [hjob]
  exact whenOk_of (by simp [hphase, hdone]) s _

/-- The registers of an area that its load releases. -/
def areaReleased (j : LdrJob) (s : State) : State :=
  (((s.set (REG_STAT_STATE j.region) regValid).set (REG_STAT_ISO j.region) 0).set (REG_STAT_SLOT j.region)
    (if jobSource j = 16 then 0 else j.req.slot)).set (REG_STAT_FROM_FULL j.region) (if jobSource j = 16 then 1 else 0)

/-- What the end of a load does beside releasing its area. -/
theorem loadDone_within_released (j : LdrJob) (s : State) : Within 0x190060000018011C (areaReleased j s) (loadDone j s) := by
  unfold loadDone
  extract_lets -merge -useContext +onlyGivenNames r full slot t u v w x
  have hrel : u = areaReleased j s := by simp [u, t, areaReleased, r, slot, full]
  have hw : Within 0x190060000018011C (areaReleased j s) w := by
    rw [← hrel]
    exact flopsInitial_within (by decide) (gatesOpen_within (by decide) (modLdr_within (by decide) (Within.refl _ u)))
  have hx : Within 0x190060000018011C (areaReleased j s) x := Within.ite (isoFromImage_within (by decide) hw) hw
  exact loadGrantEnd_within (by decide) (jobEnd_within (by decide) (raise_within (by decide) hx))

theorem loadDone_job (j : LdrJob) (s : State) : (loadDone j s).ldr.job = none := by
  unfold loadDone
  exact congrArg LdrSt.job ((loadGrantEnd_within (by decide) (Within.refl 0x180060000000011C _)).ldr (by decide))

theorem areaReleased_state {s : State} (hs : Sparse.Rising s.regs) (j : LdrJob) :
    (areaReleased j s).get (REG_STAT_STATE j.region) = regValid := by
  unfold areaReleased
  rw [get_set_of_bit _ (by simp), get_set_of_bit _ (by simp), get_set_of_bit _ (by simp)]
  exact get_set_self _ regValid hs

theorem areaReleased_iso {s : State} (hs : Sparse.Rising s.regs) (j : LdrJob) : (areaReleased j s).get (REG_STAT_ISO j.region) = 0 := by
  unfold areaReleased
  rw [get_set_of_bit _ (by simp), get_set_of_bit _ (by simp)]
  exact get_set_self _ 0 (rising_set _ _ hs)

/-! ### Rill (R154) -/

/-- A frame checked in the pass at work, if any. -/
def passChecked (s : State) : State := modLdr (fun l => { l with pass := l.pass.map (fun p => { p with checked := p.checked + 1 }) }) s

/-- A frame without errors is counted and no more. -/
theorem rillFrame_of_sound {f : Nat} {s : State} (h : s.fab.bad.find? (fun w => w / 512 == f) = none) :
    rillFrame f [] s = passChecked s := by
  unfold rillFrame
  simp [h, forNat]
  rfl

/-- Where POSITION goes on to. -/
def nextPosition (s : State) : Nat := if s.get RILL_STAT_POSITION + 1 < 36864 then s.get RILL_STAT_POSITION + 1 else 0

theorem rillPast_of_noPass {s : State} (h : passRuns s = false) : rillPast s = s.set RILL_STAT_POSITION (nextPosition s) := by
  have hbusy : passRuns (s.set RILL_STAT_POSITION (nextPosition s)) = passRuns s := by
    unfold passRuns State.on
    rw [get_set_of_ne _ (by decide)]
    rfl
  exact if_neg (show ¬ passRuns (s.set RILL_STAT_POSITION (nextPosition s)) = true by simp [hbusy, h])

theorem passRuns_passChecked (s : State) : passRuns (passChecked s) = passRuns s := by
  simp [passRuns, passChecked, State.on]

/-- What Rill's check of a sound frame leaves where no pass runs: one frame less is due, and POSITION has moved on. -/
def frameChecked (s : State) : State :=
  modLdr (fun l => { l with rillDue := l.rillDue - 1 }) ((passChecked s).set RILL_STAT_POSITION (nextPosition s))

theorem rillScan_of_noneLeft (ups : List Upset) (fuel : Nat) (s : State) : rillScan ups fuel 0 s = s := by
  cases fuel <;> rfl

theorem rillScan_of_sound {s : State} (hpass : passRuns s = false) (hcheck : rillChecks (s.get RILL_STAT_POSITION) s = true)
    (hbad : s.fab.bad.find? (fun w => w / 512 == s.get RILL_STAT_POSITION) = none) {fuel : Nat} (hfuel : 0 < fuel) :
    rillScan [] fuel 1 s = frameChecked s := by
  obtain ⟨n, rfl⟩ := Nat.exists_eq_add_one.2 hfuel
  unfold rillScan
  dsimp only
  rw [if_neg (by simp [hpass]), if_pos hcheck, rillScan_of_noneLeft, rillFrame_of_sound hbad,
    rillPast_of_noPass ((passRuns_passChecked s).trans hpass)]
  rfl

theorem exec_rillSlice_of_sound {s : State} (hslot : (dutySlot 5 anySlot s).isSome = true) (hdue : 1 ≤ s.ldr.rillDue)
    (hpass : passRuns s = false) (hcheck : rillChecks (s.get RILL_STAT_POSITION) s = true)
    (hbad : s.fab.bad.find? (fun w => w / 512 == s.get RILL_STAT_POSITION) = none) :
    ∃ k, exec (.rillSlice 1 []) s = .next (frameChecked (inSlot k s)) := by
  obtain ⟨k, hk⟩ := inDuty_of_slot hslot (fun t => ok (rillScan [] 36865 (min 1 t.ldr.rillDue) t))
  refine ⟨k, hk.trans ?_⟩
  rw [show min 1 (inSlot k s).ldr.rillDue = 1 from Nat.min_eq_left hdue,
    rillScan_of_sound (s := inSlot k s) hpass hcheck hbad (by decide)]
  rfl

theorem frameChecked_position {s : State} (hs : Sparse.Rising s.regs) :
    (frameChecked s).get RILL_STAT_POSITION = nextPosition s := by
  have hlt : nextPosition s < 36864 := by
    unfold nextPosition
    split <;> omega
  refine (get_set_self RILL_STAT_POSITION (nextPosition s) hs).trans (Nat.mod_eq_of_lt ?_)
  exact Nat.lt_trans hlt (by decide)

theorem frameChecked_narrow (s : State) : Narrow [.ldr] [RILL_STAT_POSITION] s (frameChecked s) :=
  ((modLdr_narrow _ _ s).set (List.mem_singleton_self _) _).trans (modLdr_narrow _ _ _)

/-! ### On-demand passes (R158) -/

theorem bit_putBit_self (v i : Nat) : bit (putBit v i true) i = true := by
  unfold putBit
  split
  · assumption
  · rename_i h
    simp only [if_true, bit, beq_iff_eq] at h ⊢
    rw [Nat.add_div_right _ (Nat.two_pow_pos i)]
    omega

/-- The word that RILL_PASS_REQUEST writes has PASS set. -/
theorem rillPass_hit (v : Nat) : RILL_CTL_PASS.hit (putBit v 31 true) = true := by
  have h : putBit v 31 true / 2 ^ 31 % 2 = 1 := by simpa [bit] using bit_putBit_self v 31
  show (putBit v 31 true / 2 ^ 31 % 2 != 0) = true
  rw [h]
  rfl

/-- The values that a write of RILL_CTL takes. -/
def rillCtlTaken (v : Nat) (s : State) : State :=
  ((s.set RILL_CTL_RATE (RILL_CTL_RATE.of v)).set RILL_CTL_LEAK (RILL_CTL_LEAK.of v)).set RILL_CTL_BUCKET (RILL_CTL_BUCKET.of v)

theorem freeEntry_rillCtlTaken (v : Nat) (s : State) : freeEntry (rillCtlTaken v s) = freeEntry s := by
  unfold freeEntry rillCtlTaken
  simp only [get_set_of_win _ (SLU_ENT_STATE_win _) RILL_CTL_BUCKET_win (by decide),
    get_set_of_win _ (SLU_ENT_STATE_win _) RILL_CTL_LEAK_win (by decide),
    get_set_of_win _ (SLU_ENT_STATE_win _) RILL_CTL_RATE_win (by decide)]

/-- The request of an on-demand pass. -/
def passReq (a : Agent) : PartReq := ⟨clsScrub, 0x7F, 20, 543, a.init.val, forRillPass⟩

/-- A pass asked for in entry k, accepted. -/
def passAccepted (k : Nat) (a : Agent) (s : State) : State :=
  modLdr (fun l => { l with pass := some ⟨0, 0, 0, 0⟩ }) ((sluEnter k (passReq a) s).set RILL_CTL_PASS 1)

theorem wrRillCtl_of_pass {a : Agent} {v k : Nat} {s : State} (hrate : RILL_CTL_RATE.of v ≤ 68) (hbucket : RILL_CTL_BUCKET.of v ≠ 0)
    (hhit : RILL_CTL_PASS.hit v = true) (hidle : s.get RILL_CTL_PASS = 0) (hk : freeEntry s = some k)
    (hlen : s.power.queue.length < 64) : wrRillCtl a v s = (.done, passAccepted k a (rillCtlTaken v s)) := by
  have hplace : placeOrRetry (passReq a) (rillCtlTaken v s) = (.done, sluEnter k (passReq a) (rillCtlTaken v s)) := by
    unfold placeOrRetry
    rw [sluPlace_of_room ((freeEntry_rillCtlTaken v s).trans hk) (.inl hlen)]
  unfold passReq rillCtlTaken at hplace
  unfold wrRillCtl
  dsimp only
  rw [if_neg (by omega), if_neg (by simp [hhit, State.on, hidle]), hplace]
  rfl

theorem exec_rillPassRequest_eq (a : Agent) (s : State) :
    exec (.rillPassRequest a) s = .next (answered (wrRillCtl a (putBit (rillCtlWord s) 31 true) s)) := rfl

theorem rising_rillCtlTaken {s : State} (hs : Sparse.Rising s.regs) (v : Nat) : Sparse.Rising (rillCtlTaken v s).regs :=
  rising_set _ _ (rising_set _ _ (rising_set _ _ hs))

theorem passAccepted_pass {s : State} (hs : Sparse.Rising s.regs) (k : Nat) (a : Agent) :
    (passAccepted k a s).get RILL_CTL_PASS = 1 :=
  get_set_self RILL_CTL_PASS 1 (rising_sluEnter hs k (passReq a))

/-- The results of a pass that has passed the last address. -/
def passResults (p : RillPass) (s : State) : State :=
  ((s.set RILL_PASS_FRAMES_UNCORR p.uncorr).set RILL_PASS_FRAMES_CORR p.corr).set RILL_PASS_FRAMES_CHECKED p.checked

theorem exec_rillPassComplete_of_seen {p : RillPass} {s : State} (hpass : s.ldr.pass = some p) (hbusy : s.on RILL_STAT_PASS_BUSY = true)
    (hseen : 36864 ≤ p.seen) : exec .rillPassComplete s =
      .next (rillPassOver (raise 0x040A [⟨8, readFlds RILL_PASS_fields (passResults p s)⟩] (passResults p s))) := by
  show execRillPassComplete s = _
  unfold execRillPassComplete
  rw [hpass]
  exact whenOk_of (by simp [passRuns, hpass, hbusy, hseen]) s _

/-- The registers and the state of the pass that is over. -/
def passCleared (s : State) : State := modLdr (fun l => { l with pass := none }) ((s.set RILL_CTL_PASS 0).set RILL_STAT_PASS_BUSY 0)

/-- Beside that, a pass that is over ends its entry at Sluice. -/
theorem rillPassOver_within_cleared (s : State) : Within 0x180060000000011C (passCleared s) (rillPassOver s) := by
  unfold rillPassOver
  dsimp only
  split
  · exact sluEnd_within (by decide) (Within.refl _ _)
  · exact Within.refl _ _

/-- No pass is asked for or at work. -/
structure PassOver (t : State) : Prop where
  pass : t.ldr.pass = none
  ctl : t.get RILL_CTL_PASS = 0
  busy : t.get RILL_STAT_PASS_BUSY = 0

theorem rillPassOver_over {s : State} (hs : Sparse.Rising s.regs) : PassOver (rillPassOver s) := by
  have hw := rillPassOver_within_cleared s
  constructor
  · exact congrArg LdrSt.pass (hw.ldr (by decide))
  · rw [hw.get (by rw [RILL_CTL_PASS_win]; decide)]
    exact (get_set_of_ne (f := RILL_STAT_PASS_BUSY) _ (by decide) 0).trans (get_set_self RILL_CTL_PASS 0 hs)
  · rw [hw.get (by rw [RILL_STAT_PASS_BUSY_win]; decide)]
    exact get_set_self RILL_STAT_PASS_BUSY 0 (rising_set _ _ hs)

/-! ### The statement -/

/-- Settles O19: each clause is the one way in which its command goes where its condition holds; the frames are those of the reach, and
where a clause names single parts or fields they are followed through its operations. -/
theorem loaderCommandsComplete : Obligations.LoaderCommandsComplete := by
  unfold Obligations.LoaderCommandsComplete
  refine ⟨?stage, ?load, ?invalidate, ?invalidateAtOnce, ?takeStage, ?takeInvalidate, ?stageUnread, ?stageEnd, ?grantStatic, ?grantRegion,
    ?drainEnd, ?record, ?complete, ?slice, ?passRequest, ?passComplete⟩
  case stage =>
    intro a slot s _ ha hon hnew hlen
    have he := exec_loaderStage_eq a slot s
    rw [wrLdrReq_of_permitted ha hon (by decide) (by decide) slot.isLt, if_neg (by simp), ldrEnqueue_of_room hnew hlen] at he
    exact ⟨_, he, rfl, rfl, ldrJoined_narrow _ s⟩
  case load =>
    intro a slot s _ ha hon hnew hlen
    have he := exec_loaderLoad_eq a slot s
    rw [wrLdrReq_of_permitted ha hon (by decide) (by decide) slot.isLt, if_neg (by simp), ldrEnqueue_of_room hnew hlen] at he
    exact ⟨_, he, rfl, rfl, ldrJoined_narrow _ s⟩
  case invalidate =>
    intro a region s _ ha hon hloads hnew hlen
    have he := exec_loaderInvalidate_eq a region s
    rw [wrLdrReq_of_permitted ha hon (by decide) region.isLt (by decide), if_neg (by simp [hloads]), ldrEnqueue_of_room hnew hlen] at he
    exact ⟨_, he, rfl, rfl, ldrJoined_narrow _ s⟩
  case invalidateAtOnce =>
    intro a region s hs ha hon hloads
    have he := exec_loaderInvalidate_of_loading ha hon hloads
    have hframe := (execLoaderInvalidate_within (Sub.refl _) (Within.refl _ s)).of_next he
    have habort := loadAbort_invalidated hs region.val 3
    refine ⟨_, he, rfl, ?_, ?_, ?_, hframe.frame (by decide)⟩
    · rw [get_answer, habort.state]
    · rw [get_answer, habort.abort]
    · rw [answer_ldr, loadAbort_job]
  case takeStage =>
    intro q rest s _ hjob hqueue hop
    have he := exec_loaderDispatch_of_front hjob hqueue (by omega)
    have hframe := (execLoaderDispatch_within (Sub.refl _) (Within.refl _ s)).of_next he
    rw [dispatch_of_stage hop] at he hframe
    refine ⟨_, he, ?_, rfl, hframe.frame (by decide)⟩
    rw [modLdr_ldr, setMark_ldr]
    rfl
  case takeInvalidate =>
    intro q rest s hs hjob hqueue hop
    have he := exec_loaderDispatch_of_front hjob hqueue (by omega)
    have hframe := (execLoaderDispatch_within (Sub.refl _) (Within.refl _ s)).of_next he
    rw [dispatch_of_invalidate hop hjob] at he hframe
    have hinv := regionInvalid_abort (show Sound (ldrTaken rest s) from hs) q.region 3
    refine ⟨_, he, ?_, hinv.state, hinv.abort, hinv.iso, hframe.frame (by decide)⟩
    rw [set_ldr, regionInvalid_ldr]
    rfl
  case stageUnread =>
    intro flashOk j s hs hjob hphase hop hflash
    subst hflash
    have he := exec_stageComplete_of_stage hjob hphase hop false
    have hframe := (execStageComplete_within (Sub.refl _) (Within.refl _ s)).of_next he
    have hstage : Within anywhere s (stageFor (reqCopy j.req s) false s).2 := stageFor_within (by decide) (Within.refl _ s)
    rw [stageFor_unread, if_pos (by decide)] at he hframe
    exact ⟨_, he, rfl, get_set_self LDR_STAT_LAST_ERR 1 (hstage.rising hs), hframe.frame (by decide)⟩
  case stageEnd =>
    intro flashOk j s _ hjob hphase hop
    have he := exec_stageComplete_of_stage hjob hphase hop flashOk
    refine ⟨_, he, ?_, ((execStageComplete_within (Sub.refl _) (Within.refl _ s)).of_next he).frame (by decide)⟩
    split <;> rfl
  case grantStatic =>
    intro j s hs hjob hphase hgrant hregion
    have he := exec_loadGrantIssued_of_granted hjob hphase hgrant
    have hframe := (execLoadGrantIssued_within (Sub.refl _) (Within.refl _ s)).of_next he
    rw [if_pos hregion] at he hframe
    refine ⟨_, he, rfl, ?_, hframe.frame (by decide)⟩
    rw [get_modLdr, get_fusesTake, loadingFrom_state hs.rising]
  case grantRegion =>
    intro j s _ hjob hphase hgrant hregion
    have he := exec_loadGrantIssued_of_granted hjob hphase hgrant
    rw [if_neg hregion] at he
    exact ⟨_, he, rfl, modLdr_narrow _ _ s⟩
  case drainEnd =>
    intro r j s hs hjob hphase hregion
    have he := exec_loadDrainEnd_of_draining hjob hphase hregion
    have hport : Within anywhere s (portFault r.val s) := portFault_within (by decide) (Within.refl _ s)
    have hiso : Within anywhere s (isolate r.val s) := isoEngage_within (by decide) hport
    refine ⟨_, he, ?_, ?_, ?_, ((execLoadDrainEnd_within (Sub.refl _) (Within.refl _ s)).of_next he).frame (by decide)⟩
    · rw [fusesTake_ldr]
      rfl
    · rw [get_fusesTake, get_modLdr, loadingFrom_state (hiso.rising hs)]
    · rw [get_fusesTake, get_modLdr, loadingFrom_iso]
      exact isoEngage_iso (hport.sound hs) r.val
  case record =>
    intro back j u v s _ hjob hphase hleft hwindow hread hwrite
    have he := exec_loadRecordWrite_of_good hjob hphase hleft hwindow hread hwrite
    exact ⟨_, he, rfl, rfl, ((execLoadRecordWrite_within (Sub.refl _) (Within.refl _ s)).of_next he).frame (by decide)⟩
  case complete =>
    intro j s hs hjob hphase hdone
    have he := exec_loadComplete_of_written hjob hphase hdone
    have hkept : Within offRegions (areaReleased j s) (loadDone j s) := (loadDone_within_released j s).mono (by decide)
    refine ⟨_, he, loadDone_job j s, ?_, ?_, ((execLoadComplete_within (Sub.refl _) (Within.refl _ s)).of_next he).frame (by decide)⟩
    · rw [hkept.get_region (REG_STAT_STATE_win _), areaReleased_state hs.rising]
    · rw [hkept.get_region (REG_STAT_ISO_win _), areaReleased_iso hs.rising]
  case slice =>
    intro s hs hslot hdue hpass hcheck hbad
    obtain ⟨k, he⟩ := exec_rillSlice_of_sound hslot hdue hpass hcheck hbad
    have hclock := (Narrow.refl [.fab, .ldr, .clock] [RILL_STAT_POSITION] s).clock (by simp) { s.clock with slot := k }
    refine ⟨_, he, rfl, frameChecked_position (s := inSlot k s) hs.rising, hclock.trans ?_⟩
    exact (frameChecked_narrow (inSlot k s)).mono (by simp) (List.Subset.refl _)
  case passRequest =>
    intro a k s hs hrate hbucket hidle hk hlen
    have he := exec_rillPassRequest_eq a s
    have hframe := (execRillPassRequest_within (Sub.refl _) (Within.refl _ s)).of_next he
    rw [wrRillCtl_of_pass hrate hbucket (rillPass_hit _) hidle hk hlen] at he hframe
    exact ⟨_, he, rfl, passAccepted_pass (rising_rillCtlTaken hs.rising _) k a, rfl, hframe.frame (by decide)⟩
  case passComplete =>
    intro p s hs hpass hbusy hseen
    have he := exec_rillPassComplete_of_seen hpass hbusy hseen
    have hover := rillPassOver_over (s := raise 0x040A [⟨8, readFlds RILL_PASS_fields (passResults p s)⟩] (passResults p s))
      (by rw [raise_regs]; exact rising_set _ _ (rising_set _ _ (rising_set _ _ hs.rising)))
    exact ⟨_, he, hover.pass, hover.ctl, hover.busy,
      ((execRillPassComplete_within (Sub.refl _) (Within.refl _ s)).of_next he).frame (by decide)⟩

end Sys2Proof.Machine
end

section
/-! SUPPORT. The Jets' configuration registers (chapter 08): what a write of JET_CFG leaves in its channel (R165), and why the statement
of the Jets' commands fails as written. -/
namespace Sys2Proof.Machine

/-! ### Registers written whole -/

theorem rising_writeFld (c : Acc) (f : Fld) (v : Nat) {s : State} (h : Sparse.Rising s.regs) : Sparse.Rising (writeFld c f v s).regs := by
  cases c
  case rw | w1c | w1s => exact rising_set _ _ h
  all_goals exact h

theorem rising_writeFlds {l : List (Acc × Fld)} (v : Nat) {s : State} (h : Sparse.Rising s.regs) :
    Sparse.Rising (writeFlds l v s).regs :=
  List.foldlRecOn (motive := fun t : State => Sparse.Rising t.regs) l _ h (fun _ ht p _ => rising_writeFld p.1 p.2 v ht)

theorem get_writeFld_of_ne (c : Acc) {f g : Fld} (h : f.key ≠ g.key) (v : Nat) (s : State) : (writeFld c g v s).get f = s.get f := by
  cases c
  case rw | w1c | w1s => exact get_set_of_ne _ h _
  all_goals rfl

/-- A register written whole leaves the fields at other places. -/
theorem get_writeFlds_of_ne {f : Fld} {l : List (Acc × Fld)} (h : ∀ p ∈ l, f.key ≠ p.2.key) (v : Nat) (s : State) :
    (writeFlds l v s).get f = s.get f :=
  List.foldlRecOn (motive := fun t => t.get f = s.get f) l _ rfl (fun t ht p hp => (get_writeFld_of_ne p.1 (h p hp) v t).trans ht)

/-- An RW field of a register written whole takes what the value says for it. -/
theorem get_writeFlds_rw {f : Fld} {l : List (Acc × Fld)} (hl : l.Pairwise (fun p q => p.2.key ≠ q.2.key)) (hf : (.rw, f) ∈ l) (v : Nat)
    {s : State} (hs : Sparse.Rising s.regs) : (writeFlds l v s).get f = f.of v := by
  induction l generalizing s with
  | nil => exact absurd hf List.not_mem_nil
  | cons p l ih =>
    obtain ⟨hp, hl⟩ := List.pairwise_cons.1 hl
    rcases List.mem_cons.1 hf with rfl | hf
    · exact (get_writeFlds_of_ne hp v _).trans ((get_set_self f _ hs).trans (f.of_mod v))
    · exact ih hl hf (rising_writeFld p.1 p.2 v hs)

/-! ### Several fields written with one value -/

/-- The listed fields written with one value. -/
def setAll (l : List Fld) (z : Nat) (s : State) : State := l.foldl (fun t f => t.set f z) s

theorem get_setAll_of_ne {f : Fld} {l : List Fld} (h : ∀ g ∈ l, f.key ≠ g.key) (z : Nat) (s : State) : (setAll l z s).get f = s.get f :=
  List.foldlRecOn (motive := fun t => t.get f = s.get f) l _ rfl (fun t ht g hg => (get_set_of_ne t (h g hg) z).trans ht)

theorem get_setAll_of_mem {f : Fld} {l : List Fld} (hl : l.Pairwise (fun f g => f.key ≠ g.key)) (hf : f ∈ l) (z : Nat) {s : State}
    (hs : Sparse.Rising s.regs) : (setAll l z s).get f = z % 2 ^ f.width := by
  induction l generalizing s with
  | nil => exact absurd hf List.not_mem_nil
  | cons g l ih =>
    obtain ⟨hg, hl⟩ := List.pairwise_cons.1 hl
    rcases List.mem_cons.1 hf with rfl | hf
    · exact (get_setAll_of_ne hg z _).trans (get_set_self f z hs)
    · exact ih hl hf (rising_set g z hs)

/-! ### Where a channel's registers lie

JET_CFG comes first, then the two level registers, then the load and the PMU. -/

/-- The six level fields of a channel. -/
def jetLevels (n : Nat) : List Fld :=
  [JET_LVL_DRV_VIH n, JET_LVL_DRV_VIL n, JET_LVL_DRV_VTT n, JET_LVL_CMP_VOH n, JET_LVL_CMP_VOL n, JET_LVL_CMP_VCOM n]

/-- The load and PMU settings of a channel. -/
def jetSettings (n : Nat) : List Fld :=
  [JET_LOAD_ISNK n, JET_LOAD_ISRC n, JET_PMU_CTL_DIV n, JET_PMU_CTL_IRANGE n, JET_PMU_CTL_MODE n, JET_PMU_FORCE_IFORCE n,
    JET_PMU_FORCE_VFORCE n, JET_PMU_ICLAMP_HI n, JET_PMU_ICLAMP_LO n, JET_PMU_VCLAMP_HI n, JET_PMU_VCLAMP_LO n]

/-- The address of a channel's first register. -/
def jetAddr (n : Nat) : Nat := 0x3004010000 + 0x100 * (n % 512)

theorem jetCfg_below (n : Nat) : ∀ p ∈ JET_CFG_fields n, p.2.key < 64 * (jetAddr n + 8) := by
  simp only [JET_CFG_fields, List.forall_mem_cons, JET_CFG_STROBE, JET_CFG_SEQ, JET_CFG_LOAD, JET_CFG_OFFMODE, JET_CFG_RANGE, JET_CFG_EN,
    jetAddr]
  simp only [List.not_mem_nil, false_implies, implies_true, and_true]
  omega

theorem jetLevels_between (n : Nat) : ∀ f ∈ jetLevels n, 64 * (jetAddr n + 8) ≤ f.key ∧ f.key < 64 * (jetAddr n + 0x18) := by
  simp only [jetLevels, List.forall_mem_cons, JET_LVL_DRV_VIH, JET_LVL_DRV_VIL, JET_LVL_DRV_VTT, JET_LVL_CMP_VOH, JET_LVL_CMP_VOL,
    JET_LVL_CMP_VCOM, jetAddr]
  simp only [List.not_mem_nil, false_implies, implies_true, and_true]
  omega

theorem jetSettings_above (n : Nat) : ∀ f ∈ jetSettings n, 64 * (jetAddr n + 0x18) ≤ f.key := by
  simp only [jetSettings, List.forall_mem_cons, JET_LOAD_ISNK, JET_LOAD_ISRC, JET_PMU_CTL_DIV, JET_PMU_CTL_IRANGE, JET_PMU_CTL_MODE,
    JET_PMU_FORCE_IFORCE, JET_PMU_FORCE_VFORCE, JET_PMU_ICLAMP_HI, JET_PMU_ICLAMP_LO, JET_PMU_VCLAMP_HI, JET_PMU_VCLAMP_LO, jetAddr]
  simp only [List.not_mem_nil, false_implies, implies_true, and_true]
  omega

theorem jetCfg_pairwise (n : Nat) : (JET_CFG_fields n).Pairwise (fun p q => p.2.key ≠ q.2.key) := by
  simp [JET_CFG_fields, JET_CFG_STROBE, JET_CFG_SEQ, JET_CFG_LOAD, JET_CFG_OFFMODE, JET_CFG_RANGE, JET_CFG_EN]

theorem jetLevels_pairwise (n : Nat) : (jetLevels n).Pairwise (fun f g => f.key ≠ g.key) := by
  simp only [jetLevels, List.pairwise_cons, List.forall_mem_cons, JET_LVL_DRV_VIH, JET_LVL_DRV_VIL, JET_LVL_DRV_VTT, JET_LVL_CMP_VOH,
    JET_LVL_CMP_VOL, JET_LVL_CMP_VCOM]
  simp only [List.not_mem_nil, false_implies, implies_true, and_true, List.Pairwise.nil]
  omega

theorem jetLevels_width (n : Nat) : ∀ f ∈ jetLevels n, f.width = 16 := by
  simp [jetLevels, JET_LVL_DRV_VIH, JET_LVL_DRV_VIL, JET_LVL_DRV_VTT, JET_LVL_CMP_VOH, JET_LVL_CMP_VOL, JET_LVL_CMP_VCOM]

/-! ### A write of JET_CFG (R165) -/

theorem atIngress_of_answers {dom : Nat} {f : State → Status × State} {s : State} (h : domRefuses dom s = none) :
    atIngress dom f s = f s := by
  rw [atIngress, h]

theorem exec_jetConfigWrite_of_answers {ch : Fin 512} {s : State} (h : domRefuses (bankDom ch.val) s = none) (a : Agent) (v : Nat) :
    exec (.jetConfigWrite a ch v) s = .next (answered (wrJetCfg a ch.val v s)) :=
  congrArg (fun r => Host.Outcome.next (answered r)) (atIngress_of_answers h)

/-- The fields of JET_CFG taken, and the six levels at 0 V in the range written. -/
def rangeTaken (n v : Nat) (s : State) : State :=
  setAll (jetLevels n) (zeroCode ((JET_CFG_RANGE n).hit v)) (writeFlds (JET_CFG_fields n) v s)

@[simp] theorem calWatch_regs (s : State) : (calWatch s).regs = s.regs := by
  unfold calWatch calMark
  split <;> rfl

section
variable {a : Agent} {n v : Nat} {s : State} (ha : a.ctl = true) (hr : s.changes (JET_CFG_RANGE n) v = true)
include ha hr

theorem wrJetCfg_of_enabled (hen : s.on (JET_CFG_EN n) = true) : wrJetCfg a n v s = (.range, s) := by
  simp [wrJetCfg, ha, hr, hen]

/-- Beside the registers only the driver's level and offline calibration can notice the write. -/
theorem wrJetCfg_of_disabled (hen : s.on (JET_CFG_EN n) = false) :
    ∃ t, wrJetCfg a n v s = (.done, t) ∧ t.regs = (rangeTaken n v s).regs := by
  unfold wrJetCfg
  simp only [ha, hr, hen, Bool.not_true, Bool.false_and, Bool.false_eq_true, if_false, if_true]
  refine ⟨_, rfl, (calWatch_regs _).trans ?_⟩
  split <;> rfl

end

theorem rangeTaken_range {s : State} (hs : Sparse.Rising s.regs) (n v : Nat) :
    (rangeTaken n v s).get (JET_CFG_RANGE n) = (JET_CFG_RANGE n).of v := by
  have hmem : (.rw, JET_CFG_RANGE n) ∈ JET_CFG_fields n := by simp [JET_CFG_fields]
  have hbelow := jetCfg_below n _ hmem
  rw [rangeTaken, get_setAll_of_ne (fun g hg => Nat.ne_of_lt (Nat.lt_of_lt_of_le hbelow (jetLevels_between n g hg).1))]
  exact get_writeFlds_rw (jetCfg_pairwise n) hmem v hs

theorem rangeTaken_level {s : State} (hs : Sparse.Rising s.regs) (n v : Nat) {f : Fld} (hf : f ∈ jetLevels n) :
    (rangeTaken n v s).get f = zeroCode ((JET_CFG_RANGE n).hit v) := by
  have hfits : zeroCode ((JET_CFG_RANGE n).hit v) < 2 ^ 16 := by
    unfold zeroCode
    split <;> decide
  rw [rangeTaken, get_setAll_of_mem (jetLevels_pairwise n) hf _ (rising_writeFlds v hs), jetLevels_width n f hf]
  exact Nat.mod_eq_of_lt hfits

theorem rangeTaken_setting {n : Nat} (v : Nat) (s : State) {f : Fld} (hf : f ∈ jetSettings n) : (rangeTaken n v s).get f = s.get f := by
  have habove := jetSettings_above n f hf
  have hcfg : ∀ p ∈ JET_CFG_fields n, f.key ≠ p.2.key := by
    intro p hp
    have := jetCfg_below n p hp
    omega
  have hlvl : ∀ g ∈ jetLevels n, f.key ≠ g.key := by
    intro g hg
    have := jetLevels_between n g hg
    omega
  rw [rangeTaken, get_setAll_of_ne hlvl, get_writeFlds_of_ne hcfg]

/-- The 0 V code of the range that a written RANGE selects (R164). -/
theorem zeroCode_range (n v : Nat) :
    zeroCode ((JET_CFG_RANGE n).hit v) = if (JET_CFG_RANGE n).of v = 1 then 12000 else 12500 := by
  have h : (JET_CFG_RANGE n).of v < 2 := Nat.mod_lt _ Nat.two_pos
  unfold Fld.hit zeroCode
  interval_cases (JET_CFG_RANGE n).of v <;> rfl

/-! ### A register entry wider than its field -/

/-- Six bits at the place of the five-bit SPARE_FOR of bank 0. -/
def spareForWide : Fld := ⟨(JET_BANK_CTL_SPARE_FOR 0).key, 6, 31⟩

/-- The register file lists at SPARE_FOR of bank 0 a number that the field does not hold: the field reads 1 of it. -/
def wideSpareFor : State := { State.reset with regs := [(spareForWide.key, 33)] }

theorem wideSpareFor_sound : Sound wideSpareFor := by decide

/-- A write of the MAXRATE that the bank has writes JET_BANK_CTL whole, and so cuts that number to the field. -/
theorem bankMaxrateWrite_cuts :
    ∃ t, exec (.bankMaxrateWrite ⟨0, .none⟩ 0 1) wideSpareFor = .next t ∧ t.get spareForWide = 1 :=
  ⟨_, rfl, by decide⟩

/-! ### The statements -/

/-- Settles O49: a change of RANGE is refused while EN is 1; else the levels are written after JET_CFG, and no other register is. -/
theorem jetRangeRule : Obligations.JetRangeRule := by
  unfold Obligations.JetRangeRule
  refine ⟨?enabled, ?disabled⟩
  case enabled =>
    intro a ch v s ha hd hen hrange
    refine ⟨_, exec_jetConfigWrite_of_answers hd a v, ?_⟩
    rw [wrJetCfg_of_enabled ha (bne_iff_ne.2 hrange) (by simp [State.on, hen])]
    rfl
  case disabled =>
    intro a ch v s hs ha hd hen hrange
    obtain ⟨t, ht, hregs⟩ := wrJetCfg_of_disabled ha (bne_iff_ne.2 hrange) (by simp [State.on, hen])
    have hget (f : Fld) : (answer .done t).get f = (rangeTaken ch.val v s).get f := get_congr hregs f
    refine ⟨answer .done t, ?_, rfl, ?_, fun f hf => ?_, fun f hf => ?_⟩
    · rw [exec_jetConfigWrite_of_answers hd, ht]
      rfl
    · exact (hget _).trans (rangeTaken_range hs.rising ch.val v)
    · exact (hget f).trans ((rangeTaken_level hs.rising ch.val v hf).trans (zeroCode_range ch.val v))
    · exact (hget f).trans (rangeTaken_setting v s hf)

/-- Refutes O20: the frame of a MAXRATE write lists that field alone and speaks of every `Fld`, also of one wider than SPARE_FOR at the
same place. `Sound` does not bound an entry of the register file by its field's width, and the write of JET_BANK_CTL, which writes
SPARE_FOR back as it reads, leaves of a wider entry only what the field holds. The fields that the part has at that register do read
as the clause says. -/
theorem not_jetCommandsComplete : ¬ Obligations.JetCommandsComplete := by
  unfold Obligations.JetCommandsComplete
  rintro ⟨-, -, -, -, -, -, -, -, hMaxrate, -⟩
  obtain ⟨t, ht, -, -, hnarrow⟩ := hMaxrate ⟨0, .none⟩ 0 1 wideSpareFor wideSpareFor_sound (by decide) (by decide) (.inr (by decide))
    (.inl (by decide))
  obtain ⟨u, hu, hcut⟩ := bankMaxrateWrite_cuts
  obtain rfl : t = u := Host.Outcome.next.inj (ht.symm.trans hu)
  have hkept : t.get spareForWide = wideSpareFor.get spareForWide := hnarrow.regs spareForWide (by decide)
  rw [hcut] at hkept
  exact absurd hkept (by decide)

end Sys2Proof.Machine
end

section
/-! SUPPORT. Edge timing (chapter 09): what the registers of a channel's timing sets hold after a commit of its staged edges and after a
timing-set record, and the completion of periods, commits, records and bank realignment (R193, R199, R204, R209). -/
namespace Sys2Proof.Machine

/-! ### Several fields written, each with its own value -/

/-- The listed fields written one after another, each with its value. -/
def setFlds (l : List (Fld × Nat)) (s : State) : State := l.foldl (fun t p => t.set p.1 p.2) s

theorem rising_setFlds (l : List (Fld × Nat)) {s : State} (h : Sparse.Rising s.regs) : Sparse.Rising (setFlds l s).regs :=
  List.foldlRecOn (motive := fun t : State => Sparse.Rising t.regs) l _ h (fun _ ht p _ => rising_set p.1 p.2 ht)

theorem get_setFlds_of_ne {f : Fld} {l : List (Fld × Nat)} (h : ∀ p ∈ l, f.key ≠ p.1.key) (s : State) : (setFlds l s).get f = s.get f :=
  List.foldlRecOn (motive := fun t => t.get f = s.get f) l _ rfl (fun t ht p hp => (get_set_of_ne t (h p hp) p.2).trans ht)

/-- Where the places differ, each field reads what was written to it, cut to its width. -/
theorem get_setFlds_of_mem {l : List (Fld × Nat)} (hl : l.Pairwise (fun p q => p.1.key ≠ q.1.key)) {s : State}
    (hs : Sparse.Rising s.regs) : ∀ p ∈ l, (setFlds l s).get p.1 = p.2 % 2 ^ p.1.width := by
  induction l generalizing s with
  | nil => exact fun p hp => absurd hp List.not_mem_nil
  | cons q l ih =>
    obtain ⟨hq, hl⟩ := List.pairwise_cons.1 hl
    refine List.forall_mem_cons.2 ⟨?_, ih hl (rising_set q.1 q.2 hs)⟩
    exact (get_setFlds_of_ne hq _).trans (get_set_self q.1 q.2 hs)

/-! ### Numbers in records -/

theorem ofBytes_lt (l : List Byte) : ofBytes l < 256 ^ l.length := by
  induction l with
  | nil => exact Nat.one_pos
  | cons b r ih =>
    have hb : b.toNat < 256 := b.isLt
    rw [ofBytes, List.length_cons, pow_succ]
    omega

/-- A number of four bytes of a record. -/
theorem ofBytes_slice4_lt (i : Nat) (r : List Byte) : ofBytes (slice i 4 r) < 2 ^ 32 :=
  (ofBytes_lt _).trans_le (Nat.pow_le_pow_right (n := 256) (j := 4) (by decide) (List.length_take_le _ _))

/-! ### Staging (R209) -/

/-- The six edges of a record as the staging registers take them. -/
def stagedEdges (n : Nat) (r : List Byte) : List (Fld × Nat) :=
  [(ET_CH_STG_DRV12_D1 n, ofBytes (slice 4 4 r)), (ET_CH_STG_DRV12_D2 n, ofBytes (slice 8 4 r)),
    (ET_CH_STG_DRV34_D3 n, ofBytes (slice 12 4 r)), (ET_CH_STG_DRV34_D4 n, ofBytes (slice 16 4 r)),
    (ET_CH_STG_CMP_C1 n, ofBytes (slice 20 4 r)), (ET_CH_STG_CMP_C2 n, ofBytes (slice 24 4 r))]

theorem stageRecord_eq (n : Nat) (r : List Byte) (s : State) : stageRecord n r s = setFlds (stagedEdges n r) s := rfl

theorem stagedEdges_pairwise (n : Nat) (r : List Byte) : (stagedEdges n r).Pairwise (fun p q => p.1.key ≠ q.1.key) := by
  simp only [stagedEdges, List.pairwise_cons, List.forall_mem_cons, ET_CH_STG_DRV12_D1, ET_CH_STG_DRV12_D2, ET_CH_STG_DRV34_D3,
    ET_CH_STG_DRV34_D4, ET_CH_STG_CMP_C1, ET_CH_STG_CMP_C2]
  simp only [List.not_mem_nil, false_implies, implies_true, and_true, List.Pairwise.nil]
  omega

theorem stagedEdges_fit (n : Nat) (r : List Byte) : ∀ p ∈ stagedEdges n r, p.2 % 2 ^ p.1.width = p.2 := by
  simp only [stagedEdges, List.forall_mem_cons]
  exact ⟨Nat.mod_eq_of_lt (ofBytes_slice4_lt 4 r), Nat.mod_eq_of_lt (ofBytes_slice4_lt 8 r), Nat.mod_eq_of_lt (ofBytes_slice4_lt 12 r),
    Nat.mod_eq_of_lt (ofBytes_slice4_lt 16 r), Nat.mod_eq_of_lt (ofBytes_slice4_lt 20 r), Nat.mod_eq_of_lt (ofBytes_slice4_lt 24 r),
    fun p hp => absurd hp List.not_mem_nil⟩

/-- A staged record stands whole in the staging registers. -/
theorem get_stageRecord {s : State} (hs : Sparse.Rising s.regs) (n : Nat) (r : List Byte) :
    ∀ p ∈ stagedEdges n r, (stageRecord n r s).get p.1 = p.2 :=
  fun p hp => (get_setFlds_of_mem (stagedEdges_pairwise n r) hs p hp).trans (stagedEdges_fit n r p hp)

/-! ### Commits (R199) -/

/-- The staged edges and the format as the registers of set `k` take them. -/
def committed (n k fmt : Nat) (s : State) : List (Fld × Nat) :=
  [(ET_TS_DRV12_D1 n k, s.get (ET_CH_STG_DRV12_D1 n)), (ET_TS_DRV12_D2 n k, s.get (ET_CH_STG_DRV12_D2 n)),
    (ET_TS_DRV34_D3 n k, s.get (ET_CH_STG_DRV34_D3 n)), (ET_TS_DRV34_D4 n k, s.get (ET_CH_STG_DRV34_D4 n)),
    (ET_TS_CMP_C1 n k, s.get (ET_CH_STG_CMP_C1 n)), (ET_TS_CMP_C2 n k, s.get (ET_CH_STG_CMP_C2 n)), (ET_TS_CFG_FMT n k, fmt)]

theorem commitSet_eq (n k fmt : Nat) (s : State) : commitSet n k fmt s = setFlds (committed n k fmt s) s := rfl

theorem committed_pairwise (n k fmt : Nat) (s : State) : (committed n k fmt s).Pairwise (fun p q => p.1.key ≠ q.1.key) := by
  simp only [committed, List.pairwise_cons, List.forall_mem_cons, ET_TS_DRV12_D1, ET_TS_DRV12_D2, ET_TS_DRV34_D3, ET_TS_DRV34_D4,
    ET_TS_CMP_C1, ET_TS_CMP_C2, ET_TS_CFG_FMT]
  simp only [List.not_mem_nil, false_implies, implies_true, and_true, List.Pairwise.nil]
  omega

/-- Set `k` of channel `n` holds six edges and a format. -/
structure SetHolds (n k d1 d2 d3 d4 c1 c2 fmt : Nat) (t : State) : Prop where
  d1 : t.get (ET_TS_DRV12_D1 n k) = d1
  d2 : t.get (ET_TS_DRV12_D2 n k) = d2
  d3 : t.get (ET_TS_DRV34_D3 n k) = d3
  d4 : t.get (ET_TS_DRV34_D4 n k) = d4
  c1 : t.get (ET_TS_CMP_C1 n k) = c1
  c2 : t.get (ET_TS_CMP_C2 n k) = c2
  fmt : t.get (ET_TS_CFG_FMT n k) = fmt

theorem commitSet_holds {s : State} (hs : Sparse.Rising s.regs) (n k fmt : Nat) :
    SetHolds n k (s.get (ET_CH_STG_DRV12_D1 n) % 2 ^ 32) (s.get (ET_CH_STG_DRV12_D2 n) % 2 ^ 32) (s.get (ET_CH_STG_DRV34_D3 n) % 2 ^ 32)
      (s.get (ET_CH_STG_DRV34_D4 n) % 2 ^ 32) (s.get (ET_CH_STG_CMP_C1 n) % 2 ^ 32) (s.get (ET_CH_STG_CMP_C2 n) % 2 ^ 32) (fmt % 2 ^ 3)
      (commitSet n k fmt s) := by
  have h := get_setFlds_of_mem (committed_pairwise n k fmt s) hs
  rw [← commitSet_eq] at h
  simp only [committed, List.forall_mem_cons] at h
  obtain ⟨hd1, hd2, hd3, hd4, hc1, hc2, hfmt, -⟩ := h
  exact ⟨hd1, hd2, hd3, hd4, hc1, hc2, hfmt⟩

/-- The commit of a staged record puts the record's own edges into the set. -/
theorem commitSet_stageRecord_holds {s : State} (hs : Sparse.Rising s.regs) (n k fmt : Nat) (r : List Byte) :
    SetHolds n k (ofBytes (slice 4 4 r)) (ofBytes (slice 8 4 r)) (ofBytes (slice 12 4 r)) (ofBytes (slice 16 4 r))
      (ofBytes (slice 20 4 r)) (ofBytes (slice 24 4 r)) (fmt % 2 ^ 3) (commitSet n k fmt (stageRecord n r s)) := by
  have hstaged := get_stageRecord hs n r
  have hcommit := commitSet_holds (s := stageRecord n r s) (rising_setFlds (stagedEdges n r) hs) n k fmt
  simp only [stagedEdges, List.forall_mem_cons] at hstaged
  obtain ⟨hd1, hd2, hd3, hd4, hc1, hc2, -⟩ := hstaged
  simpa only [hd1, hd2, hd3, hd4, hc1, hc2, Nat.mod_eq_of_lt (ofBytes_slice4_lt _ r)] using hcommit

/-! ### The commands where they succeed -/

theorem exec_periodWrite_of_stopped {a : Agent} {q : Fin 16} {value : Nat} {s : State} (hd : domRefuses (seqDom q.val) s = none)
    (ha : a.ctl = true) (hv : 500 ≤ value ∧ value ≤ 4192000000) (hstop : seqStopped q.val s = true) (k : Fin 64) :
    exec (.periodWrite a q k value) s = .next (answer .done (s.set (ET_PER_PERIOD q.val k.val) value)) := by
  have hw : wrEtPer a q.val k.val value s = (.done, s.set (ET_PER_PERIOD q.val k.val) value) := by
    simp [wrEtPer, ha, hstop, show ¬ (value < 500 ∨ 4192000000 < value) by omega]
  show ok (answered (atIngress (seqDom q.val) (wrEtPer a q.val k.val value) s)) = _
  rw [atIngress_of_answers hd, hw]
  rfl

theorem commitStatus_of_ok {n k fmt : Nat} {s : State} (hon : domOn (seqDom (s.get (JET_CFG_SEQ n))) s = true)
    (hstop : seqStopped (s.get (JET_CFG_SEQ n)) s = true) (hok : stagedOk n k fmt s = true) : commitStatus n k fmt s = .done := by
  simp [commitStatus, hon, hstop, hok]

theorem exec_timingSetCommit_of_done {a : Agent} {ch : Fin 512} {value : Nat} {s : State} (hd : domRefuses (bankDom ch.val) s = none)
    (ha : a.ctl = true)
    (hst : commitStatus ch.val ((ET_CH_COMMIT_TS ch.val).of value) ((ET_CH_COMMIT_FMT ch.val).of value) s = .done) :
    exec (.timingSetCommit a ch value) s =
      .next (answer .done (commitSet ch.val ((ET_CH_COMMIT_TS ch.val).of value) ((ET_CH_COMMIT_FMT ch.val).of value) s)) := by
  show ok (answered (atIngress (bankDom ch.val) (wrEtCommit a ch.val value) s)) = _
  rw [atIngress_of_answers hd]
  simp only [wrEtCommit, ha, hst, Bool.not_true, Bool.false_eq_true, if_false]
  rfl

/-- A record of one channel whose commit succeeds stages its edges and commits them. -/
theorem wrRecord_of_done {n k fmt : Nat} {r : List Byte} {s : State} (hlen : r.length = 32) (hn : ofBytes (slice 0 2 r) = n)
    (hk : ofBytes (slice 2 1 r) = k) (hf : ofBytes (slice 3 1 r) = fmt) (hn' : n < 512) (hk' : k ≤ 63) (hf' : fmt ≤ 7)
    (hd : domRefuses (bankDom n) s = none) (hst : commitStatus n k fmt (stageRecord n r s) = .done) :
    wrRecord r s = (.done, commitSet n k fmt (stageRecord n r s)) := by
  have hbounds : ¬ (r.length ≠ 32 ∨ k > 63 ∨ fmt > 7) := by omega
  simp only [wrRecord, recordChannels, hn, hk, hf, hn', hbounds, if_true, if_false, List.map_cons, List.map_nil, hd, hst, firstFailure,
    forEach, List.foldl_cons, List.foldl_nil]

theorem exec_timingSetRecordWrite_of_im {a : Agent} (ha : a.im = true) {r : List Byte} {st : Status} {s t : State}
    (hw : wrRecord r s = (st, t)) :
    exec (.timingSetRecordWrite a r) s = .next (answer st { t with edge := { t.edge with recStatus := st } }) := by
  show ok (answered (wrRecordObject a r s)) = _
  simp only [wrRecordObject, ha, hw, Bool.not_true, Bool.false_eq_true, if_false]
  rfl

/-- BANK_REALIGN writes REALIGN as 1 (R204). -/
theorem realign_hit (b : Nat) : (ET_BANK_CTL_REALIGN b).hit 1 = true := by
  have hbit : (ET_BANK_CTL_REALIGN b).key % 64 = 0 := Nat.mul_add_mod _ _ _
  rw [Fld.hit, Fld.of, hbit]
  rfl

theorem exec_bankRealign_of_disabled {a : Agent} {b : Fin 32} {s : State} (hd : domRefuses (16 + b.val) s = none) (ha : a.ctl = true)
    (hen : ∀ k < 16, s.on (JET_CFG_EN (16 * b.val + k)) = false) :
    exec (.bankRealign a b) s = .next (answer .done (raise 0x0602 [⟨1, b.val⟩] (realign b.val s))) := by
  have hnone : (List.range 16).any (fun c => s.on (JET_CFG_EN (16 * b.val + c))) = false := by
    simpa [List.any_eq_false] using hen
  show ok (answered (atIngress (16 + b.val) (wrEtBank a b.val 1) s)) = _
  rw [atIngress_of_answers hd]
  simp only [wrEtBank, ha, realign_hit, hnone, Bool.not_true, Bool.false_eq_true, if_false]
  rfl

/-! ### The statement -/

/-- Settles O21: a period and the ALIGNED bit read as written, a commit as what was staged, and a record as its own four-byte edges. -/
theorem edgeTimingCommandsComplete : Obligations.EdgeTimingCommandsComplete := by
  unfold Obligations.EdgeTimingCommandsComplete
  refine ⟨?period, ?commit, ?record, ?realign⟩
  case period =>
    intro a q k value s hs hd ha hv hstop
    refine ⟨_, exec_periodWrite_of_stopped hd ha hv hstop k, rfl, ?_, ?_⟩
    · have hfits : value % 2 ^ 32 = value := Nat.mod_eq_of_lt (by omega)
      exact (get_set_self (ET_PER_PERIOD q.val k.val) value hs.rising).trans hfits
    · exact ((Narrow.refl _ _ s).set (List.mem_singleton_self _) value).answer (List.mem_singleton_self _) .done
  case commit =>
    intro a ch value s hs hd ha hon hstop hok n k
    have he := exec_timingSetCommit_of_done hd ha (commitStatus_of_ok hon hstop hok)
    have hset := commitSet_holds hs.rising n k ((ET_CH_COMMIT_FMT n).of value)
    exact ⟨_, he, rfl, hset.d1, hset.d2, hset.d3, hset.d4, hset.c1, hset.c2, hset.fmt.trans (Fld.of_mod _ _),
      ((execTimingSetCommit_within (Sub.refl _) (Within.refl _ s)).of_next he).frame (by decide)⟩
  case record =>
    intro a r s hs ha hlen hn hk hf hd hst n k
    have he := exec_timingSetRecordWrite_of_im ha (wrRecord_of_done hlen rfl rfl rfl hn hk hf hd hst)
    have hset := commitSet_stageRecord_holds hs.rising n k (ofBytes (slice 3 1 r)) r
    have hfmt : ofBytes (slice 3 1 r) % 2 ^ 3 = ofBytes (slice 3 1 r) := Nat.mod_eq_of_lt (by omega)
    exact ⟨_, he, rfl, rfl, hset.d1, hset.d2, hset.d3, hset.d4, hset.c1, hset.c2, hset.fmt.trans hfmt,
      ((execTimingSetRecordWrite_within (Sub.refl _) (Within.refl _ s)).of_next he).frame (by decide)⟩
  case realign =>
    intro a b s hs hd ha hen
    refine ⟨_, exec_bankRealign_of_disabled hd ha hen, rfl, ?_, ?_⟩
    · exact (get_raise _ _ _ _).trans (get_set_self (ET_BANK_STAT_ALIGNED b.val) 1 hs.rising)
    · have hraise : Within 0xD (realign b.val s) (answer .done (raise 0x0602 [⟨1, b.val⟩] (realign b.val s))) :=
        answer_within (by decide) (raise_within (by decide) (Within.refl _ _))
      exact ((Narrow.refl _ _ s).set (List.mem_singleton_self _) 1).within hraise (by decide)

end Sys2Proof.Machine
end

section
/-! SUPPORT. Offline calibration of Weir (chapter 10): who may start it and when (R226), by the command and by register writes that the
network on chip carries; and why the completion of Weir's commands fails as stated. -/
namespace Sys2Proof.Machine

/-! ### WEIR_CAL_BANKS and WEIR_CAL_CTL (R226) -/

theorem calWriter_iff (a : Agent) :
    calWriter a = true ↔ a.init = 0 ∨ a.init = 1 ∨ (a.init = 49 ∧ (a.role = .installer ∨ a.role = .maker)) := by
  have hcores : a.init.val < 2 ↔ a.init = 0 ∨ a.init = 1 := by
    simp only [Fin.ext_iff]
    omega
  have hfield : a.init.val = 49 ↔ a.init = 49 := (Fin.ext_iff (b := 49)).symm
  simp [calWriter, Agent.core01, Agent.fieldIM, hcores, hfield, or_assoc]

/-- GO is bit 0 of WEIR_CAL_CTL. -/
theorem calGo_hit {v : Nat} (h : v % 2 = 1) : WEIR_CAL_CTL_GO.hit v = true := by
  have hof : WEIR_CAL_CTL_GO.of v = v % 2 := congrArg (· % 2) (Nat.div_one v)
  rw [Fld.hit, hof, h]
  rfl

section
variable {a : Agent} {v : Nat} {s : State}

theorem wrCalCtl_of_stranger (ha : ¬ calWriter a = true) : wrCalCtl a v s = (.denied, s) := by
  simp [wrCalCtl, ha]

theorem wrCalBanks_of_stranger (ha : ¬ calWriter a = true) : wrCalBanks a v s = (.denied, s) := by
  simp [wrCalBanks, ha]

theorem wrCalBanks_of_writer (ha : calWriter a = true) : wrCalBanks a v s = (.done, s.set WEIR_CAL_BANKS_BANKS v) := by
  simp [wrCalBanks, ha, writeFlds, WEIR_CAL_BANKS_fields, writeFld, set_of_lowField (f := WEIR_CAL_BANKS_BANKS) (by decide)]

/-- GO during a run or a save, or over no bank. -/
theorem wrCalCtl_of_goRefused (ha : calWriter a = true) (hv : v % 2 = 1)
    (h : s.get WEIR_CAL_INFO_BUSY = 1 ∨ s.get WEIR_CAL_BANKS_BANKS = 0) : wrCalCtl a v s = (.range, s) := by
  rcases h with hbusy | hbanks
  · have hon : s.on WEIR_CAL_INFO_BUSY = true := by simp [State.on, hbusy]
    simp [wrCalCtl, ha, calGo_hit hv, hon]
  · simp [wrCalCtl, ha, calGo_hit hv, hbanks]

/-- The banks of the mask, each with the failure it shows. -/
def calRunAtGo (s : State) : List CalBank :=
  ((List.range 32).filter (fun b => bit (s.get WEIR_CAL_BANKS_BANKS) b)).map (fun b => ⟨b, calAtGo b s⟩)

/-- GO alone over a bank while nothing runs. -/
theorem wrCalCtl_of_go (ha : calWriter a = true) (hbusy : s.get WEIR_CAL_INFO_BUSY = 0) (hbanks : s.get WEIR_CAL_BANKS_BANKS ≠ 0) :
    wrCalCtl a 1 s = (.done, { s.set WEIR_CAL_INFO_BUSY 1 with weir := { s.weir with run := some (calRunAtGo s) } }) := by
  have hidle : s.on WEIR_CAL_INFO_BUSY = false := by simp [State.on, hbusy]
  have hsave : WEIR_CAL_CTL_SAVE.hit 1 = false := rfl
  simp [wrCalCtl, calRunAtGo, ha, calGo_hit, hsave, hidle, hbanks]

end

/-! ### The two registers over the network on chip (R389) -/

/-- The register map's entry of WEIR_CAL_BANKS. -/
def calBanksReg : RegDesc := ⟨.WEIR_CAL_BANKS, 0x3006000200, 1, 0, 1, 0, 32, fun _ _ => WEIR_CAL_BANKS_fields⟩

/-- The register map's entry of WEIR_CAL_CTL. -/
def calCtlReg : RegDesc := ⟨.WEIR_CAL_CTL, 0x3006000208, 1, 0, 1, 0, 32, fun _ _ => WEIR_CAL_CTL_fields⟩

theorem targetOf_calBanks : targetOf 0x3006000200 = some 71 := rfl

theorem targetOf_calCtl : targetOf 0x3006000208 = some 71 := rfl

theorem blockOf_of_outside {base step n addr : Nat} (h : addr < base ∨ base + step * n ≤ addr) : blockOf base step n addr = none :=
  if_neg (by omega)

/-- No power domain holds a register of Weir's window (chapter 10). -/
theorem regIngress_weir {addr : Nat} (h : 0x3006000000 ≤ addr ∧ addr < 0x3007000000) (s : State) : regIngress addr s = none := by
  have houtside : ∀ b ∈ homeTable s, addr < b.1 ∨ b.1 + b.2.1 * b.2.2.1 ≤ addr := by
    simp only [homeTable, List.forall_mem_cons, List.not_mem_nil, false_implies, implies_true, and_true]
    omega
  have hhome : regHome addr s = none :=
    List.findSome?_eq_none_iff.2 (fun b hb => by rw [blockOf_of_outside (houtside b hb), Option.map_none])
  rw [regIngress, hhome]

section
variable {a : Agent} {value : Nat} {st : Status} {s u t : State}

/-- A carried write of a register that its target ends with neither RETRY nor TIMEOUT, which the network counts (R391). -/
theorem exec_registerWrite_of_ended {addr width x i j : Nat} {r : RegDesc} (hn : nocReach a.init.val addr 1 1 s = (none, u))
    (hs : inScratchpad addr = false) (ht : targetOf addr = some x ∧ 64 ≤ x) (hi : regIngress addr u = none) (hm : scMemAt addr = none)
    (hf : findReg addr = some (r, i, j)) (hbits : r.bits = width) (hname : r.name ≠ .SP_OWN ∧ r.name ≠ .DBG_STIM)
    (hw : regWrite a r i j (value % 2 ^ width) width u = (st, t)) (hst : st ≠ .retry ∧ st ≠ .timeout) :
    exec (.registerWrite a addr width value) s = .next (answer st t) := by
  rw [exec_registerWrite, execRegisterWrite_of_reg hn hs ht.1 ht.2 hi hm hf hbits hname.1 hname.2, hw, answered_eq, nocTold,
    if_neg hst.1, if_neg hst.2]

theorem exec_registerWrite_calBanks (hn : nocReach a.init.val 0x3006000200 1 1 s = (none, u))
    (hw : wrCalBanks a (value % 2 ^ 32) u = (st, t)) (hst : st ≠ .retry ∧ st ≠ .timeout) :
    exec (.registerWrite a 0x3006000200 32 value) s = .next (answer st t) :=
  exec_registerWrite_of_ended (r := calBanksReg) (i := 0) (j := 0) hn rfl ⟨targetOf_calBanks, by decide⟩ (regIngress_weir (by decide) u) rfl
    rfl rfl (by decide) hw hst

theorem exec_registerWrite_calCtl (hn : nocReach a.init.val 0x3006000208 1 1 s = (none, u))
    (hw : wrCalCtl a (value % 2 ^ 32) u = (st, t)) (hst : st ≠ .retry ∧ st ≠ .timeout) :
    exec (.registerWrite a 0x3006000208 32 value) s = .next (answer st t) :=
  exec_registerWrite_of_ended (r := calCtlReg) (i := 0) (j := 0) hn rfl ⟨targetOf_calCtl, by decide⟩ (regIngress_weir (by decide) u) rfl
    rfl rfl (by decide) hw hst

/-- WEIR_CALIBRATE writes GO. -/
theorem exec_weirCalibrate (hw : wrCalCtl a 1 s = (st, t)) : exec (.weirCalibrate a) s = .next (answer st t) := by
  show ok (answered (wrCalCtl a 1 s)) = _
  rw [hw]
  rfl

end

/-! ### The end of a run whose bank came to fail (R225) -/

/-- A run of bank 3 is recorded without a failure, while its channel 48 is enabled. -/
def enabledInCalibration : State :=
  { (State.reset.set WEIR_CAL_INFO_BUSY 1).set (JET_CFG_EN 48) 1 with weir := { State.reset.weir with run := some [⟨3, 0⟩] } }

theorem enabledInCalibration_sound : Sound enabledInCalibration := by decide

/-- Looked at now, the bank fails with code 2, ENABLED. -/
theorem calWatch_enabledInCalibration : (calWatch enabledInCalibration).weir.run = some [⟨3, 2⟩] := by decide

/-- The command goes by the codes recorded at GO and by the commands since: a bank recorded without a failure wants its results. -/
theorem exec_weirCalibrationEnd_of_incomplete {results : List BallCal} {l : List CalBank} {s : State} (hrun : s.weir.run = some l)
    (h : resultsComplete results l = false) : exec (.weirCalibrationEnd results) s = .next s := by
  show execWeirCalibrationEnd results s = _
  simp [execWeirCalibrationEnd, hrun, whenOk, h]

/-! ### The statements -/

/-- Settles O50: each clause is one outcome of the write of WEIR_CAL_BANKS or WEIR_CAL_CTL, which the command and a carried register
write share. -/
theorem calibrationGoRule : Obligations.CalibrationGoRule := by
  unfold Obligations.CalibrationGoRule
  simp only [← calWriter_iff]
  refine ⟨?refused, ?begins, ?denied, ?banksDenied, ?ctlDenied, ?ctlRefused, ?banksTaken⟩
  case refused =>
    intro a s ha h
    exact ⟨_, exec_weirCalibrate (wrCalCtl_of_goRefused ha rfl h), rfl⟩
  case begins =>
    intro a s ha ⟨hbusy, hbanks⟩
    exact ⟨_, exec_weirCalibrate (wrCalCtl_of_go ha hbusy hbanks), rfl, rfl⟩
  case denied =>
    intro a s ha
    exact ⟨_, exec_weirCalibrate (wrCalCtl_of_stranger ha), rfl⟩
  case banksDenied =>
    intro a value s hn ha
    exact ⟨_, exec_registerWrite_calBanks (Prod.ext hn rfl) (wrCalBanks_of_stranger ha) (by decide), rfl⟩
  case ctlDenied =>
    intro a value s hn ha
    exact ⟨_, exec_registerWrite_calCtl (Prod.ext hn rfl) (wrCalCtl_of_stranger ha) (by decide), rfl⟩
  case ctlRefused =>
    intro a value s hn ha hv h
    obtain ⟨cr, cf, hn⟩ := nocReach_of_carried hn
    have hbit : value % 2 ^ 32 % 2 = 1 := by omega
    rw [hn]
    exact ⟨_, exec_registerWrite_calCtl hn (wrCalCtl_of_goRefused (s := nocCounted cr cf s) ha hbit h) (by decide), rfl⟩
  case banksTaken =>
    intro a value s hs hn ha
    obtain ⟨cr, cf, hn⟩ := nocReach_of_carried hn
    refine ⟨_, exec_registerWrite_calBanks hn (wrCalBanks_of_writer ha) (by decide), rfl, ?_⟩
    exact (get_set_self (s := nocCounted cr cf s) WEIR_CAL_BANKS_BANKS _ hs.rising).trans (Nat.mod_mod _ _)

/-- Refutes O22: its clause of a run's end asks for complete results of the run as `calWatch` would mark it now, but the command goes by
the run as recorded. The model's commands mark a run as a failure comes about; `Sound` does not say so, and in a sound state whose record
lacks the failure that the bank shows the run goes on. -/
theorem not_weirCommandsComplete : ¬ Obligations.WeirCommandsComplete := by
  unfold Obligations.WeirCommandsComplete
  rintro ⟨-, -, -, -, hEnd, -⟩
  obtain ⟨t, ht, hbusy, -⟩ := hEnd [] [⟨3, 2⟩] enabledInCalibration enabledInCalibration_sound calWatch_enabledInCalibration (by decide)
  have hstays : exec (.weirCalibrationEnd []) enabledInCalibration = .next enabledInCalibration :=
    exec_weirCalibrationEnd_of_incomplete rfl (by decide)
  obtain rfl : t = enabledInCalibration := Host.Outcome.next.inj (ht.symm.trans hstays)
  exact absurd hbusy (by decide)

end Sys2Proof.Machine
end

section
/-! SUPPORT. The arbiters of the network on chip (R393 to R397): what a commit of the shadow settings leaves, where ARB_SHD lies and what a
register write of it touches, and why the statement of the arbiters' commands fails as written. -/
set_option Elab.async false
namespace Sys2Proof.Machine

/-! ### Events (R5, R113, R510) -/

theorem ringPush_getLast? (r : EvRec) (e : EventSt) : (ringPush r e).ring.getLast? = some r := by
  unfold ringPush
  split <;> simp

/-- An event that a command raises on the way is the newest where no later one is raised. -/
theorem raises_of_raise {code : Nat} {items : List EvItem} {s t u : State} (hready : t.get BOOT_STAT_READY = s.get BOOT_STAT_READY)
    (hu : u.events = (raise code items t).events) : Raises code s u := by
  have hon : t.on BOOT_STAT_READY = s.on BOOT_STAT_READY := congrArg (· != 0) hready
  have htraced (x : TraceSt) : ({ t with trace := x } : State).on BOOT_STAT_READY = s.on BOOT_STAT_READY := hon
  unfold Raises
  rw [hu]
  unfold raise
  dsimp only
  by_cases htr : traced code t = true <;> cases hr : s.on BOOT_STAT_READY <;> simp [htr, hon, htraced, hr, ringPush_getLast?]

/-! ### Narrow frames through the operations of a command -/

section
variable {parts : List Part} {l : List Fld} {s t : State}

theorem Narrow.raise (h : Narrow parts l s t) (hp : [.events, .trace] ⊆ parts) (code : Nat) (items : List EvItem) :
    Narrow parts l s (raise code items t) :=
  h.trans (((raise_within (by decide) (Within.refl 0xC t)).narrow (parts := [.events, .trace]) (l := l) (by decide)).mono hp
    (List.Subset.refl _))

end

/-! ### COMMIT (R396) -/

/-- The shadow settings of the first n requesters in force. -/
def arbCopied (x n : Nat) (s : State) : State :=
  forNat n (fun i t =>
    ((t.set (ARB_ACT_BURST x i) (t.get (ARB_SHD_BURST x i))).set (ARB_ACT_PREEMPT x i) (t.get (ARB_SHD_PREEMPT x i))).set
      (ARB_ACT_PRIO x i) (t.get (ARB_SHD_PRIO x i))) s

theorem arbCopied_succ (x n : Nat) (s : State) : arbCopied x (n + 1) s =
    (((arbCopied x n s).set (ARB_ACT_BURST x n) ((arbCopied x n s).get (ARB_SHD_BURST x n))).set (ARB_ACT_PREEMPT x n)
      ((arbCopied x n s).get (ARB_SHD_PREEMPT x n))).set (ARB_ACT_PRIO x n) ((arbCopied x n s).get (ARB_SHD_PRIO x n)) := by
  simp [arbCopied, forNat, List.range_succ]

/-- A copy writes the registers of ARB_ACT of its own requesters alone. -/
theorem get_arbCopied_of_addr {x n : Nat} {f : Fld} (s : State) (h : ∀ i < n, f.key / 64 ≠ (ARB_ACT_BURST x i).key / 64) :
    (arbCopied x n s).get f = s.get f := by
  induction n with
  | zero => rfl
  | succ n ih =>
    have hlast := h n n.lt_succ_self
    have hpreempt : (ARB_ACT_PREEMPT x n).key / 64 = (ARB_ACT_BURST x n).key / 64 := by simp only [ARB_ACT_PREEMPT, ARB_ACT_BURST]; omega
    have hprio : (ARB_ACT_PRIO x n).key / 64 = (ARB_ACT_BURST x n).key / 64 := by simp only [ARB_ACT_PRIO, ARB_ACT_BURST]; omega
    rw [arbCopied_succ, get_set_of_addr _ (hprio ▸ hlast), get_set_of_addr _ (hpreempt ▸ hlast), get_set_of_addr _ hlast]
    exact ih (fun i hi => h i (Nat.lt_succ_of_lt hi))

theorem arbCopied_rising {x n : Nat} {s : State} (hs : Sparse.Rising s.regs) : Sparse.Rising (arbCopied x n s).regs :=
  rising_forNat (fun _ _ h => rising_set _ _ (rising_set _ _ (rising_set _ _ h))) n hs

/-- The address of ARB_ACT of a requester. -/
theorem ARB_ACT_BURST_addr (x i : Nat) : (ARB_ACT_BURST x i).key / 64 = 0x300D020200 + 0x400 * (x % 18) + 4 * (i % 24) := by
  simp only [ARB_ACT_BURST]; omega

theorem ARB_ACT_PREEMPT_addr (x i : Nat) : (ARB_ACT_PREEMPT x i).key / 64 = 0x300D020200 + 0x400 * (x % 18) + 4 * (i % 24) := by
  simp only [ARB_ACT_PREEMPT]; omega

theorem ARB_ACT_PRIO_addr (x i : Nat) : (ARB_ACT_PRIO x i).key / 64 = 0x300D020200 + 0x400 * (x % 18) + 4 * (i % 24) := by
  simp only [ARB_ACT_PRIO]; omega

theorem ARB_SHD_BURST_addr (x i : Nat) : (ARB_SHD_BURST x i).key / 64 = 0x300D020100 + 0x400 * (x % 18) + 4 * (i % 24) := by
  simp only [ARB_SHD_BURST]; omega

theorem ARB_SHD_PREEMPT_addr (x i : Nat) : (ARB_SHD_PREEMPT x i).key / 64 = 0x300D020100 + 0x400 * (x % 18) + 4 * (i % 24) := by
  simp only [ARB_SHD_PREEMPT]; omega

theorem ARB_SHD_PRIO_addr (x i : Nat) : (ARB_SHD_PRIO x i).key / 64 = 0x300D020100 + 0x400 * (x % 18) + 4 * (i % 24) := by
  simp only [ARB_SHD_PRIO]; omega

/-- The registers of ARB_SHD stay. -/
theorem get_arbCopied_shadow {x n y i : Nat} {f : Fld} (s : State)
    (hf : f.key / 64 = 0x300D020100 + 0x400 * (y % 18) + 4 * (i % 24)) : (arbCopied x n s).get f = s.get f :=
  get_arbCopied_of_addr s (fun j _ => by rw [hf, ARB_ACT_BURST_addr]; omega)

/-- The settings in force of another arbiter stay. -/
theorem get_arbCopied_other {x n y i : Nat} {f : Fld} (s : State) (hx : x < 18) (hy : y < 18) (hxy : y ≠ x)
    (hf : f.key / 64 = 0x300D020200 + 0x400 * (y % 18) + 4 * (i % 24)) : (arbCopied x n s).get f = s.get f :=
  get_arbCopied_of_addr s (fun j _ => by rw [hf, ARB_ACT_BURST_addr]; omega)

/-- A requester's settings in force become its shadow settings. -/
theorem get_arbCopied_active {x n i : Nat} {s : State} (hs : Sparse.Rising s.regs) (hn : n ≤ 24) (hi : i < n) :
    (arbCopied x n s).get (ARB_ACT_BURST x i) = s.get (ARB_SHD_BURST x i) ∧
      (arbCopied x n s).get (ARB_ACT_PREEMPT x i) = s.get (ARB_SHD_PREEMPT x i) ∧
      (arbCopied x n s).get (ARB_ACT_PRIO x i) = s.get (ARB_SHD_PRIO x i) := by
  induction n with
  | zero => exact absurd hi (Nat.not_lt_zero i)
  | succ n ih =>
    have hr := arbCopied_rising (x := x) (n := n) hs
    rcases Nat.lt_succ_iff_lt_or_eq.1 hi with hi | rfl
    · have hne (f : Fld) (hf : f.key / 64 = 0x300D020200 + 0x400 * (x % 18) + 4 * (i % 24)) :
          (arbCopied x (n + 1) s).get f = (arbCopied x n s).get f := by
        rw [arbCopied_succ, get_set_of_addr _ (by rw [hf, ARB_ACT_PRIO_addr]; omega),
          get_set_of_addr _ (by rw [hf, ARB_ACT_PREEMPT_addr]; omega), get_set_of_addr _ (by rw [hf, ARB_ACT_BURST_addr]; omega)]
      rw [hne _ (ARB_ACT_BURST_addr x i), hne _ (ARB_ACT_PREEMPT_addr x i), hne _ (ARB_ACT_PRIO_addr x i)]
      exact ih (by omega) hi
    · rw [arbCopied_succ, get_arbCopied_shadow s (ARB_SHD_BURST_addr x i), get_arbCopied_shadow s (ARB_SHD_PREEMPT_addr x i),
        get_arbCopied_shadow s (ARB_SHD_PRIO_addr x i)]
      have hburst : (ARB_ACT_BURST x i).key % 64 = 16 := Nat.mul_add_mod _ _ _
      have hpreempt : (ARB_ACT_PREEMPT x i).key % 64 = 4 := Nat.mul_add_mod _ _ _
      have hprio : (ARB_ACT_PRIO x i).key % 64 = 0 := Nat.mul_add_mod _ _ _
      refine ⟨?_, ?_, ?_⟩
      · rw [get_set_of_bit _ (by omega), get_set_of_bit _ (by omega), get_set_self _ _ hr]
        exact Nat.mod_eq_of_lt (regGet_lt (ARB_SHD_BURST x i) s.regs)
      · rw [get_set_of_bit _ (by omega), get_set_self _ _ (rising_set _ _ hr)]
        exact Nat.mod_eq_of_lt (regGet_lt (ARB_SHD_PREEMPT x i) s.regs)
      · rw [get_set_self _ _ (rising_set _ _ (rising_set _ _ hr))]
        exact Nat.mod_eq_of_lt (regGet_lt (ARB_SHD_PRIO x i) s.regs)

theorem arbCopied_noc (x n : Nat) (s : State) : (arbCopied x n s).noc = s.noc := by
  induction n with
  | zero => rfl
  | succ n ih =>
    rw [arbCopied_succ]
    exact ih

/-- FAIR_N written back as it stands. -/
def fairKept (x : Nat) (s : State) : State :=
  s.set (ARB_CTL_FAIR_N x) ((ARB_CTL_FAIR_N x).of (256 * s.get (ARB_CTL_FAIR_N x) + 1))

theorem ARB_CTL_FAIR_N_addr (x : Nat) : (ARB_CTL_FAIR_N x).key / 64 = 0x300D020000 + 0x400 * (x % 18) := by
  simp only [ARB_CTL_FAIR_N]; omega

theorem get_fairKept_of_addr {x : Nat} {f : Fld} (s : State) (hf : f.key / 64 ≠ (ARB_CTL_FAIR_N x).key / 64) :
    (fairKept x s).get f = s.get f := get_set_of_addr _ hf _

theorem rising_fairKept {s : State} (hs : Sparse.Rising s.regs) (x : Nat) : Sparse.Rising (fairKept x s).regs := rising_set _ _ hs

/-- A commit by a permitted writer copies the shadow settings together and tells it. -/
theorem exec_arbCommit_of_writer {a : Agent} {x : Fin 18} {s : State} (ha : nocWriter a = true) :
    exec (.arbCommit a x) s = .next (answer .done (raise 0x0E06 [⟨1, x.val⟩] (arbCopied x.val (arbCount x.val) (fairKept x.val s)))) := by
  have hw : wrArbCtl a x.val (256 * s.get (ARB_CTL_FAIR_N x.val) + 1) s =
      (.done, raise 0x0E06 [⟨1, x.val⟩] (arbCopied x.val (arbCount x.val) (fairKept x.val s))) := by
    have hhit : (ARB_CTL_COMMIT x.val).hit (256 * s.get (ARB_CTL_FAIR_N x.val) + 1) = true := by
      have hbit : (ARB_CTL_COMMIT x.val).key % 64 = 0 := Nat.mul_add_mod _ _ _
      have hwidth : (ARB_CTL_COMMIT x.val).width = 1 := rfl
      simp only [Fld.hit, Fld.of, bits, hbit, hwidth, bne_iff_ne]
      omega
    unfold wrArbCtl
    simp only [ha, hhit, Bool.not_true, Bool.false_eq_true, if_false, if_true]
    rfl
  show ok (answered (wrArbCtl a x.val (256 * s.get (ARB_CTL_FAIR_N x.val) + 1) s)) = _
  rw [hw]
  rfl

theorem arbCount_le (x : Nat) : arbCount x ≤ 24 := by
  unfold arbCount
  split <;> decide

/-! ### A register write of ARB_SHD (R4, R396) -/

/-- A register of the map at an address. -/
def regAt (addr : Nat) (r : RegDesc) : Option (RegDesc × Nat × Nat) :=
  if addr < r.base then none
  else
    let o := addr - r.base
    let i := if r.n1 = 1 then 0 else min (o / r.s1) (r.n1 - 1)
    let o' := o - i * r.s1
    let j := if r.n2 = 1 then 0 else min (o' / r.s2) (r.n2 - 1)
    if r.base + i * r.s1 + j * r.s2 = addr then some (r, i, j) else none

theorem findReg_of_map {l : List RegDesc} (h : regMap = l) (addr : Nat) : findReg addr = l.findSome? (regAt addr) := by
  subst h
  rfl

/-- The last address that a register of the map has. -/
def RegDesc.last (r : RegDesc) : Nat := r.base + (r.n1 - 1) * r.s1 + (r.n2 - 1) * r.s2

theorem regAt_of_last {addr : Nat} {r : RegDesc} (h : r.last < addr) : regAt addr r = none := by
  unfold regAt
  split
  · rfl
  · dsimp only
    refine if_neg (fun he => ?_)
    have hi : (if r.n1 = 1 then 0 else min ((addr - r.base) / r.s1) (r.n1 - 1)) ≤ r.n1 - 1 := by split <;> omega
    generalize hn : (if r.n1 = 1 then 0 else min ((addr - r.base) / r.s1) (r.n1 - 1)) = i at hi he
    have hj : (if r.n2 = 1 then 0 else min ((addr - r.base - i * r.s1) / r.s2) (r.n2 - 1)) ≤ r.n2 - 1 := by split <;> omega
    have h1 := Nat.mul_le_mul_right r.s1 hi
    have h2 := Nat.mul_le_mul_right r.s2 hj
    unfold RegDesc.last at h
    omega

/-- A register of two indices stands where its indices say. -/
theorem regAt_place {r : RegDesc} {i j : Nat} (hi : r.n1 ≠ 1 ∧ i < r.n1) (hj : r.n2 ≠ 1 ∧ j < r.n2) (hs : 0 < r.s2)
    (hrow : r.n2 * r.s2 ≤ r.s1) : regAt (r.base + i * r.s1 + j * r.s2) r = some (r, i, j) := by
  have hjs : j * r.s2 < r.s1 := Nat.lt_of_lt_of_le (Nat.mul_lt_mul_of_pos_right hj.2 hs) hrow
  have hoff : r.base + i * r.s1 + j * r.s2 - r.base = j * r.s2 + r.s1 * i := by rw [Nat.mul_comm r.s1 i]; omega
  have hdiv : (j * r.s2 + r.s1 * i) / r.s1 = i := by
    rw [Nat.add_mul_div_left _ _ (by omega), Nat.div_eq_of_lt hjs, Nat.zero_add]
  have hrest : j * r.s2 + r.s1 * i - i * r.s1 = j * r.s2 := by rw [Nat.mul_comm r.s1 i]; omega
  have hmini : min i (r.n1 - 1) = i := by omega
  have hminj : min j (r.n2 - 1) = j := by omega
  simp only [regAt, hoff, hdiv, hmini, hrest, Nat.mul_div_cancel _ hs, hminj, if_neg hi.1, if_neg hj.1, if_true]
  exact if_neg (by omega)

/-- The register map's entries of ARB_CTL, ARB_STAT and ARB_SHD. -/
def arbCtlReg : RegDesc := ⟨.ARB_CTL, 0x300D020000, 18, 1024, 1, 0, 32, fun i _ => ARB_CTL_fields i⟩
def arbStatReg : RegDesc := ⟨.ARB_STAT, 0x300D020008, 18, 1024, 1, 0, 32, fun i _ => ARB_STAT_fields i⟩
def arbShdReg : RegDesc := ⟨.ARB_SHD, 0x300D020100, 18, 1024, 24, 4, 32, fun i j => ARB_SHD_fields i j⟩

/-- A register of the map outside the arbiters' addresses. -/
def outsideArbiters (r : RegDesc) : Bool := decide (r.last < 0x300D020000) || decide (0x300D025000 ≤ r.base)

theorem regAt_of_outside {addr : Nat} {r : RegDesc} (h : outsideArbiters r = true) (ha : 0x300D020000 ≤ addr ∧ addr < 0x300D025000) :
    regAt addr r = none := by
  simp only [outsideArbiters, Bool.or_eq_true, decide_eq_true_eq] at h
  rcases h with hbelow | habove
  · exact regAt_of_last (by omega)
  · exact if_pos (by omega)

/-- The registers of the chapters before that of the network. -/
def regMapBeforeNoc : List RegDesc :=
  [regMapArchitecture, regMapPower, regMapClocks, regMapReset, regMapFabric, regMapLoader, regMapJets, regMapEdge, regMapWeir, regMapSeq,
    regMapFail, regMapRepair, regMapSignal, regMapHbm, regMapEnc].flatten

theorem regMap_noc : ∃ rest, regMap = regMapBeforeNoc ++ (regMapNoc ++ rest) := by
  refine ⟨regMapLanes ++ (regMapCluster ++ (regMapSecurity ++ (regMapField ++ regMapDebug))), ?_⟩
  delta regMap regMapBeforeNoc
  simp only [List.flatten_cons, List.flatten_nil, List.append_nil, List.append_assoc]

theorem regMapBeforeNoc_outside : regMapBeforeNoc.all outsideArbiters = true := by decide +kernel

theorem regMapNoc_arbiters : ∃ before rest, regMapNoc = before ++ arbCtlReg :: arbStatReg :: arbShdReg :: rest ∧
    before.all outsideArbiters = true :=
  ⟨_, _, (List.take_append_drop 5 regMapNoc).symm, by decide +kernel⟩

section
variable (x : Fin 18) (i : Fin 24)

theorem regAt_arbCtl : regAt (0x300D020100 + 0x400 * x.val + 4 * i.val) arbCtlReg = none := by
  simp only [regAt, arbCtlReg]
  rw [if_neg (by omega), if_neg (by omega)]

theorem regAt_arbStat : regAt (0x300D020100 + 0x400 * x.val + 4 * i.val) arbStatReg = none := by
  simp only [regAt, arbStatReg]
  rw [if_neg (by omega), if_neg (by omega)]

theorem regAt_arbShd : regAt (0x300D020100 + 0x400 * x.val + 4 * i.val) arbShdReg = some (arbShdReg, x.val, i.val) := by
  have h := regAt_place (r := arbShdReg) (i := x.val) (j := i.val) ⟨by decide, x.isLt⟩ ⟨by decide, i.isLt⟩ (by decide) (by decide)
  have haddr : arbShdReg.base + x.val * arbShdReg.s1 + i.val * arbShdReg.s2 = 0x300D020100 + 0x400 * x.val + 4 * i.val := by
    simp only [arbShdReg]; omega
  rwa [haddr] at h

theorem findReg_arbShd : findReg (0x300D020100 + 0x400 * x.val + 4 * i.val) = some (arbShdReg, x.val, i.val) := by
  have hoff {l : List RegDesc} (h : l.all outsideArbiters = true) : l.findSome? (regAt (0x300D020100 + 0x400 * x.val + 4 * i.val)) = none :=
    List.findSome?_eq_none_iff.2 (fun r hr => regAt_of_outside (List.all_eq_true.1 h r hr) (by omega))
  obtain ⟨after, hmap⟩ := regMap_noc
  obtain ⟨before, rest, hnoc, hbefore⟩ := regMapNoc_arbiters
  rw [findReg_of_map hmap, hnoc]
  simp only [List.findSome?_append, hoff regMapBeforeNoc_outside, hoff hbefore, List.findSome?_cons, regAt_arbCtl, regAt_arbStat,
    regAt_arbShd, Option.none_or, Option.some_or]

theorem targetOf_arbShd : targetOf (0x300D020100 + 0x400 * x.val + 4 * i.val) = some 78 := by
  have hwindow : (0x300D020100 + 0x400 * x.val + 4 * i.val - 0x3000000000) / 0x1000000 = 13 := by omega
  unfold targetOf
  rw [if_neg (by omega), if_neg (by omega), if_neg (by omega), if_neg (by omega), if_neg (by omega), if_neg (by omega),
    if_pos (by omega), hwindow]

theorem scMemAt_arbShd : scMemAt (0x300D020100 + 0x400 * x.val + 4 * i.val) = none := by
  unfold scMemAt
  rw [blockOf_of_outside (by omega)]

/-- No power domain holds a register of the network's window (chapter 17). -/
theorem regIngress_arbShd (s : State) : regIngress (0x300D020100 + 0x400 * x.val + 4 * i.val) s = none := by
  have houtside : ∀ b ∈ homeTable s, 0x300D020100 + 0x400 * x.val + 4 * i.val < b.1 ∨
      b.1 + b.2.1 * b.2.2.1 ≤ 0x300D020100 + 0x400 * x.val + 4 * i.val := by
    simp only [homeTable, List.forall_mem_cons, List.not_mem_nil, false_implies, implies_true, and_true]
    omega
  have hhome : regHome (0x300D020100 + 0x400 * x.val + 4 * i.val) s = none :=
    List.findSome?_eq_none_iff.2 (fun b hb => by rw [blockOf_of_outside (houtside b hb), Option.map_none])
  rw [regIngress, hhome]

theorem inScratchpad_arbShd : inScratchpad (0x300D020100 + 0x400 * x.val + 4 * i.val) = false := by
  simp only [inScratchpad, Bool.and_eq_false_iff, decide_eq_false_iff_not]
  omega

end

/-- Denied, out of range or taken, the write of ARB_SHD touches the three settings of its entry alone. -/
theorem wrArbShd_narrow (a : Agent) (x i v : Nat) (s : State) :
    Narrow [] [ARB_SHD_BURST x i, ARB_SHD_PREEMPT x i, ARB_SHD_PRIO x i] s (wrArbShd a x i v s).2 := by
  unfold wrArbShd
  split
  · exact Narrow.refl _ _ s
  · split
    · exact Narrow.refl _ _ s
    · exact (((Narrow.refl _ _ s).set (by simp) _).set (by simp) _).set (by simp) _

/-- A register write of ARB_SHD that the network on chip carries is answered by the register's own rules. -/
theorem exec_registerWrite_arbShd {a : Agent} {x : Fin 18} {i : Fin 24} {value : Nat} {s u : State}
    (hn : nocReach a.init.val (0x300D020100 + 0x400 * x.val + 4 * i.val) 1 1 s = (none, u)) :
    exec (.registerWrite a (0x300D020100 + 0x400 * x.val + 4 * i.val) 32 value) s =
      .next (nocTold a.init.val (wrArbShd a x.val i.val (value % 2 ^ 32) u).1 (answered (wrArbShd a x.val i.val (value % 2 ^ 32) u))) :=
  (exec_registerWrite a _ 32 value s).trans
    (execRegisterWrite_of_reg hn (inScratchpad_arbShd x i) (targetOf_arbShd x i) (by decide) (regIngress_arbShd x i u)
      (scMemAt_arbShd x i) (findReg_arbShd x i) rfl (by decide) (by decide))

/-! ### A requester that waits already (R393) -/

/-- Requester 1 holds arbiter 0, which 2 and 3 wait for in this order. -/
def twoWait : State :=
  { (State.reset.set (ARB_STAT_BUSY 0) 1).set (ARB_STAT_OWNER 0) 1 with
    noc := { State.reset.noc with arbs := [⟨0, [⟨2, none, 4, 0, none, true⟩, ⟨3, none, 4, 0, none, true⟩], 16, 1⟩] } }

theorem twoWait_sound : Sound twoWait := by decide

/-- A second request of requester 2 leaves its place in the order. -/
theorem exec_arbRequest_twoWait : exec (.arbRequest 0 2 4 0) twoWait = .next twoWait := rfl

/-! ### The statements -/

/-- Settles O51: a write of ARB_SHD takes effect on its three fields or on none; a commit writes ARB_CTL and ARB_ACT of its arbiter. -/
theorem arbiterCommitRule : Obligations.ArbiterCommitRule := by
  unfold Obligations.ArbiterCommitRule
  refine ⟨?shadow, ?commit⟩
  case shadow =>
    intro a x i value s _
    rcases hu : nocReach a.init.val (0x300D020100 + 0x400 * x.val + 4 * i.val) 1 1 s with ⟨_ | st, u⟩
    · have hcount : Within 0x40000 s u := by
        have h := nocReach_within (i := a.init.val) (addr := 0x300D020100 + 0x400 * x.val + 4 * i.val) (reqs := 1) (flits := 1)
          (Sub.refl 0x40000) (Within.refl 0x40000 s)
        rwa [hu] at h
      have hanswered : Within 0x40001 (wrArbShd a x.val i.val (value % 2 ^ 32) u).2
          (nocTold a.init.val (wrArbShd a x.val i.val (value % 2 ^ 32) u).1 (answered (wrArbShd a x.val i.val (value % 2 ^ 32) u))) :=
        nocTold_within (by decide) (answered_within (by decide) (Within.refl _ _))
      have hnarrow := ((hcount.narrow (parts := [.resp, .noc]) (by decide)).trans ((wrArbShd_narrow a x.val i.val (value % 2 ^ 32) u).mono
        (List.nil_subset _) (List.Subset.refl _))).within hanswered (by decide)
      exact ⟨_, exec_registerWrite_arbShd hu, hnarrow.pending, hnarrow⟩
    · have hw : Within 0x40001 s (answer st u) := by
        have h := nocReach_within (i := a.init.val) (addr := 0x300D020100 + 0x400 * x.val + 4 * i.val) (reqs := 1) (flits := 1)
          (by decide) (Within.refl 0x40001 s)
        rw [hu] at h
        exact answer_within (by decide) h
      exact ⟨_, exec_registerWrite_of_nocRefused hu, hw.pending, hw.narrow (by decide)⟩
  case commit =>
    intro a x s hs ha
    have hcopied (f : Fld) : (answer .done (raise 0x0E06 [⟨1, x.val⟩] (arbCopied x.val (arbCount x.val) (fairKept x.val s)))).get f =
        (arbCopied x.val (arbCount x.val) (fairKept x.val s)).get f := get_raise _ _ _ f
    have hready : (arbCopied x.val (arbCount x.val) (fairKept x.val s)).get BOOT_STAT_READY = s.get BOOT_STAT_READY := by
      rw [get_arbCopied_of_addr _ (fun i _ => by rw [ARB_ACT_BURST_addr]; simp only [BOOT_STAT_READY]; omega),
        get_fairKept_of_addr _ (by rw [ARB_CTL_FAIR_N_addr]; simp only [BOOT_STAT_READY]; omega)]
    have hshadow {y i : Nat} {f : Fld} (hf : f.key / 64 = 0x300D020100 + 0x400 * (y % 18) + 4 * (i % 24)) :
        (fairKept x.val s).get f = s.get f := get_fairKept_of_addr _ (by rw [hf, ARB_CTL_FAIR_N_addr]; omega)
    have hactive {y i : Nat} {f : Fld} (hf : f.key / 64 = 0x300D020200 + 0x400 * (y % 18) + 4 * (i % 24)) :
        (fairKept x.val s).get f = s.get f := get_fairKept_of_addr _ (by rw [hf, ARB_CTL_FAIR_N_addr]; omega)
    refine ⟨_, exec_arbCommit_of_writer ha, rfl, fun i hi => ?_, fun y hy i hi => ?_, fun y hy hyx i hi => ?_, raises_of_raise hready rfl, ?_⟩
    · obtain ⟨hburst, hpreempt, hprio⟩ := get_arbCopied_active (x := x.val) (rising_fairKept hs.rising x.val) (arbCount_le x.val) hi
      exact ⟨(hcopied _).trans (hburst.trans (hshadow (ARB_SHD_BURST_addr x.val i))),
        (hcopied _).trans (hpreempt.trans (hshadow (ARB_SHD_PREEMPT_addr x.val i))),
        (hcopied _).trans (hprio.trans (hshadow (ARB_SHD_PRIO_addr x.val i)))⟩
    · have hkept {f : Fld} (hf : f.key / 64 = 0x300D020100 + 0x400 * (y % 18) + 4 * (i % 24)) :=
        (hcopied f).trans ((get_arbCopied_shadow _ hf).trans (hshadow hf))
      exact ⟨hkept (ARB_SHD_BURST_addr y i), hkept (ARB_SHD_PREEMPT_addr y i), hkept (ARB_SHD_PRIO_addr y i)⟩
    · have hkept {f : Fld} (hf : f.key / 64 = 0x300D020200 + 0x400 * (y % 18) + 4 * (i % 24)) :=
        (hcopied f).trans ((get_arbCopied_other _ x.isLt hy hyx hf).trans (hactive hf))
      exact ⟨hkept (ARB_ACT_BURST_addr y i), hkept (ARB_ACT_PREEMPT_addr y i), hkept (ARB_ACT_PRIO_addr y i)⟩
    · exact (raise_noc _ _ _).trans (arbCopied_noc _ _ _)

/-- Refutes O34: a request for a resource that another holds waits last only where its requester did not wait before. One that waits
already keeps its place: requester 2 asks again while 3 waits behind it, and 3 stays the last. -/
theorem not_arbiterCommandsComplete : ¬ Obligations.ArbiterCommandsComplete := by
  unfold Obligations.ArbiterCommandsComplete
  rintro ⟨-, hWaits, -⟩
  obtain ⟨t, ht, hlast, -⟩ := hWaits 0 2 4 0 1 twoWait twoWait_sound (by decide) (by decide) (.inr (by decide))
  obtain rfl : twoWait = t := Host.Outcome.next.inj (exec_arbRequest_twoWait.symm.trans ht)
  exact absurd hlast (by decide)

end Sys2Proof.Machine
end

section
/-! SUPPORT. RMA consent (R468): what the audit record, the end of an Almanac operation and the resets leave of it; and the reach of the
EtherCAT states, of the ports' links and of the SM watchdog (R488). -/
namespace Sys2Proof.Machine

/-! ### What keeps consent -/

theorem audJoin_consent (body : List Byte) (s : State) : (audJoin body s).sec.consent = s.sec.consent := by
  rw [(audJoin_within (by decide) (Within.refl 0x200000000000000000000000400000 s)).sec (by decide)]

/-- An entry of the audit record uses up a RESTART that was due, and nothing else of security's state. -/
theorem audAppend_consent (body : List Byte) (s : State) : (audAppend body s).sec.consent = s.sec.consent := by
  unfold audAppend
  dsimp only
  rw [audJoin_consent]
  split
  · exact audJoin_consent _ _
  · rfl

theorem lateAnswer_consent (obj : Bool) (sess : Option Nat) (st : Status) (s : State) :
    (lateAnswer obj sess st s).sec.consent = s.sec.consent := by
  unfold lateAnswer
  cases sess <;> cases obj <;> rfl

theorem almEnd_consent (purpose : Nat) (st : Status) (s : State) : (almEnd purpose st s).sec.consent = s.sec.consent := by
  unfold almEnd
  split
  · rfl
  · dsimp only
    rw [lateAnswer_consent]
    split
    · have hend (k : Nat) : (sluEnd k s).sec = s.sec := (sluEnd_within (by decide) (Within.refl 0x180060000000011C s)).sec (by decide)
      show (sluEnd _ s).sec.consent = s.sec.consent
      rw [hend]
    · rfl

/-! ### What clears it -/

theorem secPartReset_consent (cold : Bool) (s : State) : (secPartReset cold s).sec.consent = false := by
  unfold secPartReset
  generalize almReset s = u
  cases cold <;> rfl

theorem warmEnds_consent (s : State) : (warmEnds s).sec.consent = false := by
  unfold warmEnds
  extract_lets -merge -useContext +onlyGivenNames ended debug loader source tree weir
  clear_value weir
  rw [← secPartReset_consent false weir]
  exact congrArg SecSt.consent ((leapPartReset_within (by decide) (Within.refl 0x8000800 _)).sec (by decide))

theorem warmReset_consent (src : Nat) (s : State) : (warmReset src s).sec.consent = false := by
  unfold warmReset
  extract_lets -merge -useContext +onlyGivenNames was n ended blank w0 w1 w2 w3 w4 w5 w6 w7 kept domains hbm aborts cause stat
  have hended : ended.sec.consent = false := warmEnds_consent s
  clear_value blank ended
  have hkept : kept.sec = ended.sec := rfl
  clear_value kept
  have hdomains : Within anyBlock kept domains :=
    forNat_within (fun _ _ h => set_within _ (inMask (PWR_DOM_CTL_TARGET_win _) (by decide))
      (set_within _ (inMask (PWR_DOM_STAT_STATE_win _) (by decide)) h)) _ (Within.refl _ _)
  have habort : Within anyBlock kept aborts :=
    forNat_within (fun _ _ h => set_within _ (inMask (REG_STAT_ABORT_win _) (by decide)) h) _
      (set_within _ (inMask HBM_STAT_STATE_win (by decide)) hdomains)
  have hcause : Within anyBlock kept cause :=
    set_within _ (inMask RST_CAUSE_WARM_COUNT_win (by decide)) (set_within _ (inMask RST_CAUSE_SOURCE_win (by decide))
      (set_within _ (inMask RST_CAUSE_KIND_win (by decide)) habort))
  have hstat : Within anyBlock kept stat :=
    set_within _ (inMask BOOT_STAT_STAGE_win (by decide)) (set_within _ (inMask BOOT_STAT_ALMANAC_win (by decide))
      (set_within _ (inMask BOOT_STAT_WARM_win (by decide)) hcause))
  rw [raise_sec, hstat.sec (by decide), hkept, hended]

theorem stepThree_sec (s : State) : (stepThree s).sec = s.sec :=
  (stepThree_within (by decide) (Within.refl 0x100000000064100000007C s)).sec (by decide)

theorem askWarm_consent {src : Nat} {s : State} (h : almPrograms s = false) : (askWarm src s).sec.consent = false := by
  rw [askWarm_of_idle h, stepThree_sec]
  exact warmReset_consent src s

theorem coldReset_consent (s : State) : (coldReset s).sec.consent = false := by
  have hlost : (memoriesLost (acrossReset (almReset s))).sec = (acrossReset (almReset s)).sec :=
    (memoriesLost_within (by decide) (Within.refl 0x420000 _)).sec (by decide)
  have hstage : (coldReset s).sec = (memoriesLost (acrossReset (almReset s))).sec := rfl
  rw [hstage, hlost]
  rfl

theorem exec_coldReset_eq (s : State) :
    exec .coldReset s = .next { coldReset s with pins := { s.pins with porstLow := true, therm := false } } := by
  show execColdReset s = _
  rw [execColdReset, ok]

/-- What follows the programming of the lifecycle word leaves consent as it is. -/
theorem exec_lifecycleProgrammed_consent {o : AlmOp} {s : State} (ho : s.sec.alm = some o) (hk : o.kind = 2 ∧ o.begun = true) :
    ∃ t, exec .lifecycleProgrammed s = .next t ∧ t.sec.consent = false := by
  have herased (u : State) : (eraseKeys 1 (wipeBanks 1 u)).sec = u.sec :=
    (eraseKeys_within (by decide) (wipeBanks_within (by decide) (Within.refl 0x20000000180060000040111C _))).sec (by decide)
  show ∃ t, execLifecycleProgrammed s = .next t ∧ t.sec.consent = false
  simp only [execLifecycleProgrammed, ho]
  rw [if_neg (by simp [hk])]
  refine ⟨_, rfl, ?_⟩
  dsimp only
  rw [almEnd_consent, raise_sec, audAppend_consent, herased]

/-! ### The installer's write -/

theorem objConsent_of_installer {a : Agent} {s : State} (ha : a.init = 49 ∧ a.role = .installer)
    (haudit : domOn 93 s = true ∧ audBusy s = false) : objConsent a 1 s =
      (.done, audAppend (bodyOf 1 2 0x450031 0 1 (toBytes 1 1) (signerOf a s)) { s with sec := { s.sec with consent := true } }) := by
  obtain ⟨hinit, hrole⟩ := ha
  obtain ⟨hon, hbusy⟩ := haudit
  unfold objConsent auditWrite
  simp [hinit, hrole, hon, hbusy, Status.code, toBytes]

/-! ### The statements -/

/-- Settles O53: the write sets it last but for the audit entry; the resets rebuild security's state without it, and a transition
programmed clears it before the rest of its work. -/
theorem rmaConsentRule : Obligations.RmaConsentRule := by
  unfold Obligations.RmaConsentRule
  refine ⟨?set, ?cold, ?warmPin, ?warmRegister, ?delayed, ?watchdog, ?transition⟩
  case set =>
    rintro a value s _ ha rfl haudit
    have he : exec (.rmaConsent a 1) s = .next (answered (objConsent a 1 s)) := rfl
    rw [objConsent_of_installer ha haudit, answered_eq] at he
    refine ⟨_, he, by rw [answer_resp], ?_⟩
    rw [answer_sec, audAppend_consent]
  case cold => exact fun s => ⟨_, exec_coldReset_eq s, coldReset_consent s⟩
  case warmPin => exact fun s h => ⟨_, execWarmReset_of_porstHigh h, warmReset_consent 1 _⟩
  case warmRegister => exact fun a s ha h => ⟨_, execRstCtlWarm_of_writer ha, askWarm_consent h⟩
  case delayed =>
    intro s hdue h
    obtain ⟨src, hsrc⟩ := Option.isSome_iff_exists.1 hdue
    exact ⟨_, execDelayedWarmReset_of_due hsrc h, (congrArg SecSt.consent (stepThree_sec _)).trans (warmReset_consent src s)⟩
  case watchdog =>
    intro c s hcounts hleft hc h
    have he : exec (.watchdogExpiry c) s = .next (askWarm 4 (wdExpired c.val s)) := by
      rw [execWatchdogExpiry_eq, if_pos hc]
      exact whenOk_of (by simp [hcounts, hleft]) _ _
    have hidle : almPrograms (wdExpired c.val s) = false := by
      unfold almPrograms wdExpired at *
      rw [raise_sec]
      exact h
    exact ⟨_, he, askWarm_consent hidle⟩
  case transition => exact fun o s ho hk => exec_lifecycleProgrammed_consent ho hk

/-- Settles O52: the reach of each of the three commands holds no part beside those listed. -/
theorem fieldStateGovernsNothing : Obligations.FieldStateGovernsNothing := by
  unfold Obligations.FieldStateGovernsNothing
  refine ⟨?state, ?link, ?watchdog⟩
  case state =>
    intro target mbxOk sync0Ok s _
    obtain ⟨t, ht, hw⟩ := execAlStateRequest_within (target := target) (mbxOk := mbxOk) (sync0Ok := sync0Ok) (Sub.refl _) (Within.refl _ s)
    exact ⟨t, ht, hw.seqs (by decide), hw.power (by decide), hw.jets (by decide), hw.frame (by decide)⟩
  case link =>
    intro port up s _
    obtain ⟨t, ht, hw⟩ := execEcatPortLink_within (port := port) (up := up) (Sub.refl _) (Within.refl _ s)
    exact ⟨t, ht, hw.seqs (by decide), hw.power (by decide), hw.jets (by decide), hw.frame (by decide)⟩
  case watchdog =>
    intro s _
    obtain ⟨t, ht, hw⟩ := execSmWatchdogExpiry_within (Sub.refl _) (Within.refl _ s)
    exact ⟨t, ht, hw.seqs (by decide), hw.power (by decide), hw.jets (by decide), hw.frame (by decide)⟩

end Sys2Proof.Machine
end

section
/-! SUPPORT. Sequencers (chapter 11): why the statement of starting, stopping and feeding them fails as written. -/
set_option Elab.async false
namespace Sys2Proof.Machine

/-! ### A pause that meets its safe point before the start tick (R257) -/

/-- Sequencer 0 is ARMED with one cycle queued, and stands before an instruction with SAFE set, at which a pause waits. -/
def pausedInArmed : State :=
  { ((State.reset.set (PWR_DOM_STAT_STATE 66) dsOn).set (SEQ_STAT_STATE 0) seqArmed).set (SEQ_STAT_PAUSE_SRC 0) 1 with
    seqs := [{ engReset 0 with
      pages := [⟨0, true, false, toBytes 16 (2 ^ 122)⟩]
      queue := [⟨0, 0, 0, 0, false, 0, 0, 0, 0, 0, [], none, 0, none, true, false, []⟩] }] }

theorem pausedInArmed_sound : Sound pausedInArmed := by decide +kernel

/-- The pause follows the start at once. -/
theorem seqStartTick_pausedInArmed : ∃ t, exec (.seqStartTick 0) pausedInArmed = .next t ∧ seqState 0 t = seqPaused :=
  ⟨_, rfl, by decide +kernel⟩

/-! ### The statements -/

/-- Refutes O23: its clause of the start tick says RUNNING of every armed sequencer with a cycle queued, also where a pause has met its
safe point before. There the pattern starts and is PAUSED at once, as R257 has it; the clause beside it, of an empty queue, does ask for no
pause met. -/
theorem not_sequencerCommandsComplete : ¬ Obligations.SequencerCommandsComplete := by
  unfold Obligations.SequencerCommandsComplete
  rintro ⟨-, -, -, -, -, hStart, -⟩
  obtain ⟨t, ht, hrun, -⟩ := hStart 0 pausedInArmed pausedInArmed_sound (by decide +kernel) (by decide +kernel) (by decide +kernel)
  obtain ⟨u, hu, hpaused⟩ := seqStartTick_pausedInArmed
  obtain rfl : t = u := Host.Outcome.next.inj (ht.symm.trans hu)
  exact absurd (hrun.symm.trans hpaused) (by decide)

end Sys2Proof.Machine
end

section
/-! SUPPORT. Signal cores (chapter 14): why the statements of their commands and instructions fail as written. -/
set_option Elab.async false
namespace Sys2Proof.Machine

/-! ### A START that drops samples (R333, R335, R337) -/

/-- Signal core 0 of an ON domain is STOPPED with a sample in FIFO 0. -/
def stoppedWithSample : State :=
  { State.reset.set (PWR_DOM_STAT_STATE 74) dsOn with
    sc := { State.reset.sc with cores := [{ scCore0 0 with fifos := [(0, [⟨0, false, false⟩])] }] } }

/-- The sample that START empties from the FIFO is a drop, which pends bit 3. -/
theorem scStart_stoppedWithSample :
    ∃ t, exec (.scStart ⟨0, .none⟩ 0 0) stoppedWithSample = .next t ∧ t.get (SC_IRQ_PEND 0) = 8 :=
  ⟨_, rfl, by decide +kernel⟩

/-! ### A load in the last delay slot of an RTI (R328, R336) -/

/-- Signal core 0 runs, and the word `w` at address 0 stands in the last delay slot of an RTI. -/
def lastSlotOfRti (w : Nat) : State :=
  { (State.reset.set (PWR_DOM_STAT_STATE 74) dsOn).set (SC_STAT_STATE 0) scRunning with
    sc := { State.reset.sc with
      cores := [{ scCore0 0 with delay := some ⟨1, none, true⟩ }]
      mems := [⟨0, some 0, [(0, w)], []⟩, ⟨1, none, [], []⟩] } }

/-- MAC that loads D0 through P0 of the first memory. -/
def macWord : Nat := 4 * 2 ^ 26 + 2 ^ 9

/-- LDST that loads D0 through P0 of the first memory. -/
def ldstWord : Nat := 7 * 2 ^ 26

/-- The value loaded lands with the return, before another instruction of the set executes. -/
theorem mac_lastSlotOfRti :
    ∃ t, exec (.mac 0) (lastSlotOfRti macWord) = .next t ∧ (scSetIn 0 (lastSlotOfRti macWord) t).late = [] :=
  ⟨_, rfl, by decide +kernel⟩

theorem ldst_lastSlotOfRti :
    ∃ t, exec (.ldst 0) (lastSlotOfRti ldstWord) = .next t ∧ (scSetIn 0 (lastSlotOfRti ldstWord) t).late = [] :=
  ⟨_, rfl, by decide +kernel⟩

/-! ### The statements -/

/-- Refutes O28: its clause of START says that no interrupt is pending after it. Where the core's FIFOs hold samples, START empties them,
the samples emptied count as drops, and in a domain that is ON a drop pends bit 3 (R333, R335): the pending bits are 8, not 0. -/
theorem not_signalCoreCommandsComplete : ¬ Obligations.SignalCoreCommandsComplete := by
  unfold Obligations.SignalCoreCommandsComplete
  rintro ⟨-, hStart, -⟩
  obtain ⟨t, ht, -, -, -, -, -, hpend, -⟩ := hStart ⟨0, .none⟩ 0 0 stoppedWithSample (by decide +kernel) (by decide +kernel) (by decide)
    (by decide) (by decide +kernel)
  obtain ⟨u, hu, hdrop⟩ := scStart_stoppedWithSample
  obtain rfl : t = u := Host.Outcome.next.inj (ht.symm.trans hu)
  exact absurd (hpend.symm.trans hdrop) (by decide)

/-- Refutes O29: its clause of MAC says that the values loaded stand to land after the next instruction, whatever slot the MAC stands in.
In the last delay slot of an RTI the model lands them with the return (R336 gives the set of the interrupt back), and nothing stands to
land. -/
theorem not_signalArithmeticCompletes : ¬ Obligations.SignalArithmeticCompletes := by
  unfold Obligations.SignalArithmeticCompletes
  rintro ⟨-, -, -, -, hMac, -⟩
  obtain ⟨t, ht, -, -, hlate, -⟩ := hMac 0 macWord 0 0 (lastSlotOfRti macWord) (by decide +kernel) (by decide +kernel)
    (by decide +kernel) (by decide +kernel)
  obtain ⟨u, hu, hnone⟩ := mac_lastSlotOfRti
  obtain rfl : t = u := Host.Outcome.next.inj (ht.symm.trans hu)
  exact absurd (hlate.symm.trans hnone) (by decide)

/-- Refutes O30: its clause of a load by LDST says that the word read stands to land after the next instruction, whatever slot the LDST
stands in. In the last delay slot of an RTI it lands with the return, and nothing stands to land. -/
theorem not_signalControlCompletes : ¬ Obligations.SignalControlCompletes := by
  unfold Obligations.SignalControlCompletes
  rintro ⟨-, hLoad, -⟩
  obtain ⟨t, ht, -, -, hlate, -⟩ := hLoad 0 ldstWord 0 (lastSlotOfRti ldstWord) (by decide +kernel) (by decide +kernel)
    (by decide) (by decide +kernel)
  obtain ⟨u, hu, hnone⟩ := ldst_lastSlotOfRti
  obtain rfl : t = u := Host.Outcome.next.inj (ht.symm.trans hu)
  exact absurd (hlate.symm.trans hnone) (by decide)

end Sys2Proof.Machine
end

section
/-! SUPPORT. The HBM encryption block (chapter 16) and the network on chip (chapter 17): why the statements of their commands fail as
written. -/
set_option Elab.async false
namespace Sys2Proof.Machine

/-! ### A cache of nodes that must shrink (R368) -/

/-- A dirty node of the top level, whose sixteen counters fill its line (Sound bounds neither their number nor the cache). -/
def fullNode : EncNode := ⟨0, 6, 0, List.replicate 16 1, 0, true, false⟩

/-- The pair is READY and the block's cache holds one node more than it may between accesses. -/
def crowdedCache : State :=
  { State.reset.set HBM_STAT_STATE hbmReady with enc := { State.reset.enc with cache := List.replicate 1025 fullNode } }

/-- The access writes the oldest node back to HBM, so that the memory is no longer as it was. -/
theorem keyedRead_crowdedCache : ∃ t, exec (.keyedRead ⟨0, .none⟩ 0) crowdedCache = .next t ∧ t.hbm.mem ≠ crowdedCache.hbm.mem :=
  ⟨_, rfl, by decide +kernel⟩

/-! ### A register entry wider than its field -/

/-- The entry of LINK_DIS of router 1 holds a bit above the field. -/
def wideLinkDis : State := State.reset.set { NOC_RTR_CTL_LINK_DIS 1 with width := 8 } 16

/-- The write of MAINT writes LINK_DIS with what the field reads, and the bit above it is gone. -/
theorem routerMaintEnter_wideLinkDis : ∃ t, exec (.routerMaintEnter ⟨0, .none⟩ 1) wideLinkDis = .next t ∧
    t.get { NOC_RTR_CTL_LINK_DIS 1 with width := 8 } = 0 :=
  ⟨_, rfl, by decide +kernel⟩

/-! ### The statements -/

/-- Refutes O32: its clause of a read outside the keyed regions says that HBM's memory stays as it was, with no bound on the cache. From a
cache above its limit the same access writes nodes back (R368), and the memory changes; the clauses of keyed writes do ask for at most 1024
cached nodes. -/
theorem not_encryptionCommandsComplete : ¬ Obligations.EncryptionCommandsComplete := by
  unfold Obligations.EncryptionCommandsComplete
  rintro ⟨-, -, -, -, -, -, -, -, -, -, -, -, hRead, -⟩
  obtain ⟨t, ht, -, -, -, hmem, -⟩ := hRead ⟨0, .none⟩ 0 crowdedCache (by decide +kernel) (by decide) (by decide) (by decide +kernel)
    (by decide +kernel) (by decide +kernel)
  obtain ⟨u, hu, hchanged⟩ := keyedRead_crowdedCache
  obtain rfl : t = u := Host.Outcome.next.inj (ht.symm.trans hu)
  exact hchanged hmem

/-- Refutes O33: its clause of a router that enters DRAINING lets no register entry change but MAINT and STATE, while the write of
NOC_RTR_CTL also writes LINK_DIS with what the field reads. Where that entry holds a bit above the field, which Sound does not rule out,
the bit goes: no field of the part differs, but `Narrow` speaks of fields of every width. -/
theorem not_nocCommandsComplete : ¬ Obligations.NocCommandsComplete := by
  unfold Obligations.NocCommandsComplete
  rintro ⟨-, -, -, -, -, -, -, -, -, -, -, -, -, -, -, -, -, -, hEnter, -⟩
  obtain ⟨t, ht, -, -, -, hnarrow⟩ := hEnter ⟨0, .none⟩ 1 wideLinkDis (by decide +kernel) (by decide) (by decide)
  obtain ⟨u, hu, hgone⟩ := routerMaintEnter_wideLinkDis
  obtain rfl : t = u := Host.Outcome.next.inj (ht.symm.trans hu)
  have hkept := hnarrow.regs { NOC_RTR_CTL_LINK_DIS 1 with width := 8 } (by decide +kernel)
  exact absurd (hgone.symm.trans hkept) (by decide +kernel)

end Sys2Proof.Machine
end

section
/-! SUPPORT. Links (chapter 18), the scratchpad (chapter 19), security (chapter 20), debug and trace (chapter 22): why their statements
fail as written. -/
set_option Elab.async false
namespace Sys2Proof.Machine

/-! ### Register entries wider than their fields -/

/-- The entry of tap PRE of lane 0 holds a bit above the field, which reads its reset value. -/
def wideTap : State := State.reset.set { LANE_CTL_PRE 0 with width := 8 } 10

/-- The write of SLIP writes PRE with what the field reads, and the bit above it is gone. -/
theorem slip_wideTap : ∃ t, exec (.slip ⟨0, .none⟩ 0) wideTap = .next t ∧ t.get { LANE_CTL_PRE 0 with width := 8 } = 2 :=
  ⟨_, rfl, by decide +kernel⟩

/-- The entry of LEN of the debug sign-in holds a bit above the field. -/
def wideAuthLen : State := State.reset.set { DBG_AUTH_CTL_LEN with width := 8 } 128

/-- The write of OP writes LEN with what the field reads, and the bit above it is gone. -/
theorem debugKey_wideAuthLen :
    ∃ t, exec (.debugKey ⟨50, .none⟩) wideAuthLen = .next t ∧ t.get { DBG_AUTH_CTL_LEN with width := 8 } = 0 :=
  ⟨_, rfl, by decide +kernel⟩

/-! ### A word of the scratchpad that is listed twice -/

/-- Scratchpad word `k` is listed twice, with the contents 5 and 7, the banks are zero elsewhere, and the domains of banks 0 and 14 are ON. `Sound` does not say that
the list has one entry to a word. -/
def wordTwice (k : Nat) : State :=
  { (State.reset.set (PWR_DOM_STAT_STATE 86) dsOn).set (PWR_DOM_STAT_STATE 93) dsOn with
    cluster := { State.reset.cluster with words := [(k, 6), (k, 8)], base := [] } }

/-- The write of 0 removes the first entry, and the read of the same cycle finds the second. -/
theorem scratchpadAccess_wordTwice :
    ∃ t, exec (.scratchpadAccess ⟨0, .none⟩ (.both 0x1000000000 64 0x1000000000 64 0) .ok) (wordTwice 0) = .next t ∧ t.resp.value = 7 :=
  ⟨_, rfl, by decide +kernel⟩

/-- Eight zero bytes of a page of zeros. -/
theorem slice_zeros {i : Nat} (h : i < 512) : slice (8 * i) 8 (List.replicate 4096 (0 : Byte)) = List.replicate 8 0 := by
  rw [slice, List.drop_replicate, List.take_replicate, Nat.min_eq_left (by omega)]

theorem bank14Write_zeros (s : State) :
    bank14Write 0 (List.replicate 4096 0) s = forNat 512 (fun i t => spStore 14 i 0 t) s := by
  rw [bank14Write, List.length_replicate]
  refine List.foldl_ext _ _ _ fun t i hi => ?_
  dsimp only
  rw [slice_zeros (List.mem_range.1 hi)]
  exact congrArg (fun w => spStore 14 w 0 t) (Nat.zero_add i)

theorem editionStage_wordTwice :
    ∃ t, exec (.editionStage ⟨0, .none⟩ (List.replicate 4096 0)) (wordTwice (65536 * 14)) = .next t ∧ spWord 14 0 t = 7 := by
  refine ⟨answer .done (forNat 512 (fun i t => spStore 14 i 0 t) (wordTwice (65536 * 14))), ?_, by decide +kernel⟩
  have hexec : execEditionStage ⟨0, .none⟩ (List.replicate 4096 0) (wordTwice (65536 * 14)) =
      ok (answer .done (bank14Write 0 (List.replicate 4096 0) (wordTwice (65536 * 14)))) := by
    rw [execEditionStage, if_pos (by decide), if_neg (by decide +kernel), if_neg (by rw [List.length_replicate]; decide)]
  rw [← bank14Write_zeros]
  exact hexec

/-! ### A stimulus write while domain 95 is held in reset -/

/-- Domain 95 is ON and held in a DOMAIN reset, with stimulus ports on. -/
def traceHeldInReset : State :=
  { (State.reset.set (PWR_DOM_STAT_STATE 95) dsOn).set DBG_TRC_CTL_STIM 1 with power := { State.reset.power with resetHold := [95] } }

/-- The domain does not run, and the packet is lost. -/
theorem stimulusWrite_traceHeldInReset :
    ∃ t, exec (.stimulusWrite ⟨0, .none⟩ 0 0 8 0) traceHeldInReset = .next t ∧ t.trace.fifo = [] :=
  ⟨_, rfl, by decide +kernel⟩

/-! ### The statements -/

/-- Refutes O35: its clause of SLIP lets no register entry change, while the write of LANE_CTL also writes the taps with what their
fields read. Where the entry of PRE holds a bit above the field, which Sound does not rule out, the bit goes: no field of the part
differs, but `Narrow` speaks of fields of every width. -/
theorem not_linkBringUpCommandsComplete : ¬ Obligations.LinkBringUpCommandsComplete := by
  unfold Obligations.LinkBringUpCommandsComplete
  rintro ⟨-, -, -, -, -, -, -, -, -, hSlip, -⟩
  obtain ⟨t, ht, -, -, hnarrow⟩ := hSlip ⟨0, .none⟩ 0 wideTap (by decide +kernel) (by decide) (by decide +kernel)
  obtain ⟨u, hu, hgone⟩ := slip_wideTap
  obtain rfl : t = u := Host.Outcome.next.inj (ht.symm.trans hu)
  have hkept := hnarrow.regs { LANE_CTL_PRE 0 with width := 8 } (by simp)
  exact absurd (hgone.symm.trans hkept) (by decide +kernel)

/-- Refutes O37: its clause of a read and a write of one word in one cycle says that the read answers the new data. Where the list of
words names the word twice, which Sound does not rule out, a write of 0 takes one entry away and the read answers the other. -/
theorem not_scratchpadCommandsComplete : ¬ Obligations.ScratchpadCommandsComplete := by
  unfold Obligations.ScratchpadCommandsComplete
  rintro ⟨-, -, -, -, -, -, hBoth, -⟩
  obtain ⟨t, ht, hresp, -⟩ := hBoth ⟨0, .none⟩ 0x1000000000 64 0x1000000000 0 (wordTwice 0) (by decide +kernel) (by decide) (by decide)
    (by decide +kernel) (by decide)
  obtain ⟨u, hu, hold⟩ := scratchpadAccess_wordTwice
  obtain rfl : t = u := Host.Outcome.next.inj (ht.symm.trans hu)
  exact absurd ((congrArg Resp.value hresp).symm.trans hold) (by decide)

/-- Refutes O40: its clause of an edition staged by control core 0 or 1 says that bank 14 holds the bytes. Where the list of words names
the first word twice, which Sound does not rule out, a stage of zeros takes one entry away and the word reads the other. -/
theorem not_securityCommandsComplete : ¬ Obligations.SecurityCommandsComplete := by
  unfold Obligations.SecurityCommandsComplete
  rintro ⟨-, -, -, -, -, -, hStage, -⟩
  obtain ⟨t, ht, -, hwords, -⟩ := hStage ⟨0, .none⟩ (List.replicate 4096 0) (wordTwice (65536 * 14)) (by decide +kernel) (by decide)
    (by decide +kernel) (by decide +kernel)
  obtain ⟨u, hu, hold⟩ := editionStage_wordTwice
  obtain rfl : t = u := Host.Outcome.next.inj (ht.symm.trans hu)
  exact absurd ((hwords 0).symm.trans hold) (by decide)

/-- Refutes O43: its clause of a key's sign-in lets no register entry change but BUSY, while the write of DBG_AUTH_CTL also writes LEN
with what the field reads. Where that entry holds a bit above the field, which Sound does not rule out, the bit goes: no field of the part
differs, but `Narrow` speaks of fields of every width. -/
theorem not_debugCommandsComplete : ¬ Obligations.DebugCommandsComplete := by
  unfold Obligations.DebugCommandsComplete
  rintro ⟨-, -, -, hKey, -⟩
  obtain ⟨t, ht, -, -, -, hnarrow⟩ := hKey ⟨50, .none⟩ wideAuthLen (by decide +kernel) (by decide) (by decide +kernel)
  obtain ⟨u, hu, hgone⟩ := debugKey_wideAuthLen
  obtain rfl : t = u := Host.Outcome.next.inj (ht.symm.trans hu)
  have hkept := hnarrow.regs { DBG_AUTH_CTL_LEN with width := 8 } (by decide +kernel)
  exact absurd (hgone.symm.trans hkept) (by decide +kernel)

/-- Refutes O44: its clause of a stimulus write asks that domain 95 be ON, not that it run. In a DOMAIN reset the domain is ON and does
not run: the write is answered DONE, but its packet is lost and the FIFO stays as it was. -/
theorem not_traceCommandsComplete : ¬ Obligations.TraceCommandsComplete := by
  unfold Obligations.TraceCommandsComplete
  rintro ⟨-, -, -, -, hStim, -⟩
  obtain ⟨t, ht, -, hfifo, -⟩ := hStim ⟨0, .none⟩ 0 0 8 0 traceHeldInReset (by decide +kernel) (by decide) (by decide) (by decide +kernel)
    (by decide +kernel) (by decide +kernel) (by decide) (by decide)
  obtain ⟨u, hu, hlost⟩ := stimulusWrite_traceHeldInReset
  obtain rfl : t = u := Host.Outcome.next.inj (ht.symm.trans hu)
  exact absurd (hfifo.symm.trans hlost) (by decide)

end Sys2Proof.Machine
end

section
/-! SUPPORT. Leap (chapter 23): a candidate, a request and the steps of the procedure. -/
namespace Sys2Proof.Machine

/-! ### A record staged in bank 14 (R476) -/

theorem spWord_spStore_self {n w v : Nat} (hv : v % 2 ^ 64 ≠ 0) (s : State) : spWord n w (spStore n w v s) = v % 2 ^ 64 := by
  have hword : spGet (65536 * n + w) (spStore n w v s).cluster.words = v % 2 ^ 64 + 1 := by
    unfold spStore
    dsimp only
    rw [if_neg (fun h => hv h.1), spGet_spSet_of_ne_zero (by omega)]
  unfold spWord
  rw [hword]
  exact (if_pos (by omega)).trans (by omega)

theorem spGet_spStore_of_ne {n w j : Nat} (h : j ≠ 65536 * n + w) (v : Nat) (s : State) :
    spGet j (spStore n w v s).cluster.words = spGet j s.cluster.words := by
  unfold spStore spGet spGetD
  dsimp only
  split
  · rw [spFind_spDel_of_ne h]
  · rw [spSet, spFind_spSetD_of_ne h]

theorem spWord_spStore_of_ne {n w j : Nat} (h : j ≠ w) (v : Nat) (s : State) : spWord n j (spStore n w v s) = spWord n j s := by
  unfold spWord
  rw [spGet_spStore_of_ne (by omega)]
  rfl

/-- The ten bytes of a record take two words. -/
theorem bank14Write_record {b : List Byte} (hb : b.length = 10) (s : State) :
    ∃ v, bank14Write 0 b s = spStore 14 1 v (spStore 14 0 (ofBytes (slice 0 8 b)) s) := by
  have hlen : (slice 0 8 b).length = 8 := by simp [slice, hb]
  refine ⟨if (slice 8 8 b).length = 8 then ofBytes (slice 8 8 b) else putBits (spWord 14 1 (spStore 14 0 (ofBytes (slice 0 8 b)) s)) 0
    (8 * (slice 8 8 b).length) (ofBytes (slice 8 8 b)), ?_⟩
  have hwhole : (if (slice 0 8 b).length = 8 then ofBytes (slice 0 8 b) else putBits (spWord 14 0 s) 0 (8 * (slice 0 8 b).length)
      (ofBytes (slice 0 8 b))) = ofBytes (slice 0 8 b) := if_pos hlen
  rw [← hwhole, bank14Write, hb]
  rfl

theorem ofBytes_cons_mod (x : Byte) (r : List Byte) : ofBytes (x :: r) % 2 ^ 64 % 256 = x.toNat := by
  have hx : x.toNat < 256 := x.isLt
  rw [ofBytes]
  omega

/-- The first byte of what bank 14 gives at its start is the low byte of its first word. -/
theorem bank14Read_first {s : State} (hbad : ∀ k ∈ s.cluster.bad, k ≠ 65536 * 14 ∧ k ≠ 65536 * 14 + 1) :
    ∃ x, bank14Read 0 10 s = some x ∧ stg 0 1 x = spWord 14 0 s % 256 := by
  have hgood : (s.cluster.bad.any fun k => decide (65536 * 14 + 0 / 8 ≤ k) && decide (k < 65536 * 14 + (0 + 10 + 7) / 8)) = false := by
    rw [List.any_eq_false]
    intro k hk
    have := hbad k hk
    simp
    omega
  refine ⟨_, if_neg (by rw [hgood]; decide), ?_⟩
  show (BitVec.ofNat 8 (spWord 14 (0 / 8 + 0) s / 256 ^ 0)).toNat + 256 * 0 = spWord 14 0 s % 256
  rw [BitVec.toNat_ofNat]
  simp

/-- A record whose TYPE is not 0 reads its TYPE in the first byte of what is staged. -/
theorem bank14Read_written {x : Byte} {r : List Byte} (hr : r.length = 9) (hx : x ≠ 0) (s : State) :
    ∃ b, bank14Read 0 10 (bank14Write 0 (x :: r) s) = some b ∧ stg 0 1 b = x.toNat := by
  obtain ⟨v, hwrite⟩ := bank14Write_record (b := x :: r) (by simp [hr]) s
  have hslice : slice 0 8 (x :: r) = x :: r.take 7 := rfl
  have hpos : x.toNat ≠ 0 := fun h => hx (BitVec.eq_of_toNat_eq h)
  have hmod := ofBytes_cons_mod x (r.take 7)
  rw [hwrite, hslice]
  obtain ⟨b, hread, hfirst⟩ := bank14Read_first (s := spStore 14 1 v (spStore 14 0 (ofBytes (x :: r.take 7)) s)) (by
    intro k hk
    simp only [spStore, List.mem_filter, bne_iff_ne] at hk
    omega)
  refine ⟨b, hread, ?_⟩
  rw [hfirst, spWord_spStore_of_ne (by decide), spWord_spStore_self (by omega), hmod]

theorem bank14Write_eq (lo : Nat) (b : List Byte) (s : State) : ∃ c, bank14Write lo b s = { s with cluster := c } := by
  unfold bank14Write forNat
  generalize List.range (ceilDiv b.length 8) = l
  induction l generalizing s with
  | nil => exact ⟨s.cluster, rfl⟩
  | cons i l ih =>
    obtain ⟨c, hc⟩ := ih _
    exact ⟨c, hc⟩

/-! ### The ledger's record asked for (R476) -/

theorem placeOrRetry_of_room {r : PartReq} {s : State} (h : sluRoom r.cls r.current s = true) :
    ∃ k, placeOrRetry r s = (.done, sluEnter k r s) := by
  have hfree : (freeEntry s).isSome = true := by
    unfold sluRoom at h
    exact (Bool.and_eq_true_iff.1 h).1
  obtain ⟨k, hk⟩ := Option.isSome_iff_exists.1 hfree
  refine ⟨k, ?_⟩
  unfold placeOrRetry sluPlace
  rw [hk]
  dsimp only
  rw [if_pos h]

/-- What stands once an Almanac operation is accepted. -/
theorem almPlace_of_room {o : AlmOp} {init purpose ns src : Nat} {s : State} (hs : Sparse.Rising s.regs)
    (h : sluRoom clsAlmanac 30 s = true) :
    (almPlace o init purpose ns src s).1 = .done ∧ (almPlace o init purpose ns src s).2.sec.alm = some o ∧
      (almPlace o init purpose ns src s).2.get ALM_STAT_BUSY = 1 := by
  obtain ⟨k, hk⟩ := placeOrRetry_of_room
    (r := ⟨clsAlmanac, 0x7F, 30, max 1 (min 65535 (ceilDiv ns (s.get FRM_STAT_PERIOD_ACT))), init, purpose⟩) h
  unfold almPlace
  rw [hk]
  refine ⟨rfl, rfl, ?_⟩
  have hgo : Sparse.Rising ((sluEnter k ⟨clsAlmanac, 0x7F, 30, max 1 (min 65535 (ceilDiv ns (s.get FRM_STAT_PERIOD_ACT))), init, purpose⟩
    s).set ALM_CTL_GO 1).regs := rising_set _ _ (rising_sluEnter hs k _)
  show State.get _ ALM_STAT_BUSY = 1
  unfold almAccept
  dsimp only
  rw [get_with_sec, get_set_of_ne _ (by decide), get_set_of_ne _ (by decide), get_set_of_ne _ (by decide), get_set_self _ _ hgo]
  rfl

/-- A ledger record of a legal TYPE is accepted where the Sluice has room. -/
theorem almStart_record {o : AlmOp} {x : Byte} {r : List Byte} {s : State} (hs : Sparse.Rising s.regs) (ho : o.kind = 1)
    (hidle : s.sec.alm = none) (hon : domOn 93 s = true) (hused : s.sec.ledgerUsed < 256) (hr : r.length = 9) (hx : x ≠ 0)
    (hx6 : x.toNat ≤ 6) (hroom : sluRoom clsAlmanac 30 s = true) :
    ∃ b, (almStart o 0 0 (bank14Write 0 (x :: r) s)).1 = .done ∧
      (almStart o 0 0 (bank14Write 0 (x :: r) s)).2.sec.alm = some { o with data := b } ∧
      (almStart o 0 0 (bank14Write 0 (x :: r) s)).2.get ALM_STAT_BUSY = 1 := by
  obtain ⟨b, hread, hfirst⟩ := bank14Read_written hr hx s
  have hpos : x.toNat ≠ 0 := fun h => hx (BitVec.eq_of_toNat_eq h)
  obtain ⟨c, hc⟩ := bank14Write_eq 0 (x :: r) s
  rw [hc] at hread ⊢
  have hstart : almStart o 0 0 { s with cluster := c } =
      almPlace { o with data := b } 0 forLedger (s.get FRM_STAT_PERIOD_ACT) 0 { s with cluster := c } := by
    unfold almStart
    rw [if_neg (by simp [hidle]), if_neg (by omega), if_pos ho]
    unfold ledgerStart
    have hon' : domOn 93 { s with cluster := c } = true := hon
    rw [if_neg (by omega), if_neg (by simp [hon']), hread]
    dsimp only
    rw [if_neg (by omega), if_neg (by omega)]
    rfl
  rw [hstart]
  exact ⟨b, almPlace_of_room hs hroom⟩

/-! ### The procedure (R540 to R543) -/

theorem addCandidate_held (r : Nat) (t : List Byte) (s : State) :
    (addCandidate r t s).leap.held = (if s.leap.held.length < 64 then s.leap.held else s.leap.held.drop 1) ++
      [⟨reasonType r, r, t, frameCount s⟩] := by
  unfold addCandidate
  rw [raise_leap]

theorem audAppend_leap (body : List Byte) (s : State) : (audAppend body s).leap = s.leap :=
  (audAppend_within (Sub.refl _) (Within.refl _ s)).leap (by decide)

theorem audAppend_events (body : List Byte) (s : State) : (audAppend body s).events = s.events :=
  (audAppend_within (Sub.refl _) (Within.refl _ s)).events (by decide)

/-- A request while no procedure runs starts one. -/
theorem objLeap_of_idle {a : Agent} {b : List Byte} {s : State} (ha : a.init = 49 ∧ a.im = true) (hon : domOn 93 s = true)
    (hfree : audBusy s = false) (hb : b.length = 9) (hidle : leapRuns s = false) : ∃ t, objLeap a b s = (.done, t) ∧
      t.leap = (leapStart a.role.code (signerOf a s) b s).leap ∧ t.events = (leapStart a.role.code (signerOf a s) b s).events := by
  unfold objLeap auditWrite
  rw [if_neg (by simp [ha.1, ha.2]), if_neg (by simp [hon]), if_neg (by simp [hfree])]
  dsimp only
  rw [if_neg (by omega), if_neg (by simp [hidle])]
  exact ⟨_, rfl, audAppend_leap _ _, audAppend_events _ _⟩

/-- A request while one runs only leaves its audit entry. -/
theorem objLeap_of_runs {a : Agent} {b : List Byte} {s : State} (ha : a.init = 49 ∧ a.im = true) (hon : domOn 93 s = true)
    (hfree : audBusy s = false) (hb : b.length = 9) (hruns : leapRuns s = true) : ∃ t, objLeap a b s = (.retry, t) ∧ t.leap = s.leap := by
  unfold objLeap auditWrite
  rw [if_neg (by simp [ha.1, ha.2]), if_neg (by simp [hon]), if_neg (by simp [hfree])]
  dsimp only
  rw [if_neg (by omega), if_pos hruns]
  exact ⟨_, rfl, audAppend_leap _ _⟩

theorem leapStart_leap (role signer : Nat) (b : List Byte) (s : State) : (leapStart role signer b s).leap =
    { s.leap with
      state := leapCheck, cause := 0, record := 255, detail := 0, type := tgtB b 0, target := b.drop 1, role := role, signer := signer
      sub := 0, tries := 0, began := none, tampered := false } := by
  unfold leapStart
  rw [raise_leap]
  rfl

theorem exec_leapRequest_eq (a : Agent) (b : List Byte) (s : State) : exec (.leapRequest a b) s = .next (answered (objLeap a b s)) := rfl

/-- The core that serves the procedure runs it on. -/
theorem exec_leapStepAdvance_of_runs {s : State} (hserved : leapServed s = true) (hruns : leapRuns s = true) (good : Bool) :
    exec (.leapStepAdvance good) s = .next (leapAdvance good s) :=
  whenOk_of (by rw [hruns, hserved]; rfl) s _

theorem leapRuns_of_check {s : State} (h : s.leap.state = leapCheck) : leapRuns s = true := by
  unfold leapRuns
  rw [h]
  decide

theorem leapRuns_of_apply {s : State} (h : s.leap.state = leapApply) : leapRuns s = true := by
  unfold leapRuns
  rw [h]
  decide

theorem leapFail_narrow (cause detail : Nat) (s : State) : Narrow [.leap, .hbm, .events, .trace] [] s (leapFail cause detail s) :=
  (leapFail_within (Sub.refl _) (Within.refl _ s)).narrow (by decide)

/-- What CHECK has shown of the request where nothing fails (R542). -/
theorem leapChecks_eq_zero {s : State} (h : leapChecks s = 0) :
    1 ≤ s.leap.type ∧ s.leap.type ≤ 6 ∧ s.sec.ledgerUsed < 256 := by
  have hspare : spareExists s.leap.type s.leap.target s = true := by
    by_contra hn
    revert h
    unfold leapChecks
    dsimp only
    rw [if_pos (show (!spareExists s.leap.type s.leap.target s) = true by simpa using hn)]
    split_ifs <;> decide
  have hused : ¬ 256 ≤ s.sec.ledgerUsed := by
    intro hn
    revert h
    unfold leapChecks
    dsimp only
    rw [if_pos hn]
    split_ifs <;> decide
  unfold spareExists at hspare
  have htype : 1 ≤ s.leap.type ∧ s.leap.type ≤ 6 := by
    split_ifs at hspare with h5 h6
    · omega
    · omega
    · simpa using hspare
  exact ⟨htype.1, htype.2, by omega⟩

/-- The record is asked for, and the procedure waits for it. -/
theorem leapAppend_of_room {s : State} (hs : Sparse.Rising s.regs) (hidle : s.sec.alm = none) (hon : domOn 93 s = true)
    (hroom : sluRoom clsAlmanac 30 s = true) (htype : 1 ≤ s.leap.type ∧ s.leap.type ≤ 6) (hused : s.sec.ledgerUsed < 256)
    (htarget : s.leap.target.length = 8) :
    (leapAppend s).leap = { s.leap with began := some s.sec.ledgerUsed } ∧
      (leapAppend s).sec.alm.map (fun o => (o.kind, o.begun)) = some (1, false) ∧ (leapAppend s).get ALM_STAT_BUSY = 1 := by
  have hx : (BitVec.ofNat 8 s.leap.type).toNat = s.leap.type := by rw [BitVec.toNat_ofNat]; omega
  have hne : BitVec.ofNat 8 s.leap.type ≠ 0 := fun h => by
    have hzero : (BitVec.ofNat 8 s.leap.type).toNat = 0 := by rw [h]; rfl
    omega
  obtain ⟨b, hdone, halm, hbusy⟩ := almStart_record (r := toBytes 1 s.leap.role ++ s.leap.target)
    (o := ⟨1, s.leap.role, s.leap.signer, 0, none, [], 0, false, [], false⟩) hs rfl hidle hon hused
    (by simp [toBytes, htarget]) hne (by omega) hroom
  have hcons : toBytes 1 s.leap.type ++ toBytes 1 s.leap.role ++ s.leap.target =
      BitVec.ofNat 8 s.leap.type :: (toBytes 1 s.leap.role ++ s.leap.target) := by
    simp [toBytes]
  have hleap : (almStart ⟨1, s.leap.role, s.leap.signer, 0, none, [], 0, false, [], false⟩ 0 0
      (bank14Write 0 (BitVec.ofNat 8 s.leap.type :: (toBytes 1 s.leap.role ++ s.leap.target)) s)).2.leap = s.leap :=
    ((almStart_within (Sub.refl _) (Within.refl _ _)).leap (by decide)).trans
      ((bank14Write_within (Sub.refl _) (Within.refl _ s)).leap (by decide))
  unfold leapAppend
  dsimp only
  rw [hcons, if_neg (by simp [hidle]), if_neg (by simp [hon]), if_pos hdone]
  exact ⟨congrArg (fun y : LeapSt => { y with began := some s.sec.ledgerUsed }) hleap, congrArg (Option.map _) halm, hbusy⟩

/-! ### The statement -/

/-- Settles O45: each clause is the one way in which its command goes where its condition holds. -/
theorem leapCommandsComplete : Obligations.LeapCommandsComplete := by
  unfold Obligations.LeapCommandsComplete
  refine ⟨?candidate, ?request, ?retry, ?fails, ?passes, ?done⟩
  case candidate =>
    intro reason target s _ hreason hlen hshows
    have he : exec (.healthCandidate reason target) s = .next (addCandidate reason.val target s) :=
      whenOk_of (by simp [hreason, hlen, hshows]) s _
    have hframe := (addCandidate_within (r := reason.val) (t := target) (Sub.refl _) (Within.refl _ s)).frame (parts := [.events, .trace, .leap])
      (blocks := []) (by decide)
    refine ⟨_, he, ?_, ?_, raises_of_raise (by rfl) rfl, hframe⟩
    · rw [addCandidate_held, List.getLast?_concat]
    · rw [addCandidate_held, List.length_append]
      split
      · simp; omega
      · simp; omega
  case request =>
    intro a bytes s _ ha hfree hlen hidle
    obtain ⟨t, hobj, hleap, hevents⟩ := objLeap_of_idle ha hfree.1 hfree.2 hlen hidle
    have he := exec_leapRequest_eq a bytes s
    have hframe := (execLeapRequest_within (Sub.refl _) (Within.refl _ s)).of_next he
    rw [hobj] at he hframe
    rw [leapStart_leap] at hleap
    refine ⟨_, he, rfl, congrArg LeapSt.state hleap, congrArg LeapSt.type hleap, congrArg LeapSt.target hleap, congrArg LeapSt.role hleap,
      raises_of_raise (by rfl) hevents, hframe.frame (by decide)⟩
  case retry =>
    intro a bytes s _ ha hfree hlen hruns
    obtain ⟨t, hobj, hleap⟩ := objLeap_of_runs ha hfree.1 hfree.2 hlen hruns
    have he := exec_leapRequest_eq a bytes s
    have hframe := (execLeapRequest_within (Sub.refl _) (Within.refl _ s)).of_next he
    rw [hobj] at he hframe
    exact ⟨_, he, rfl, hleap, hframe.frame (by decide)⟩
  case fails =>
    intro good s _ hserved hcheck hfails
    have he := exec_leapStepAdvance_of_runs hserved (leapRuns_of_check hcheck) good
    have hstep : leapAdvance good s = leapFail (leapChecks s) 0 s := by
      unfold leapAdvance
      rw [if_pos hcheck]
      exact if_pos hfails
    rw [hstep] at he
    exact ⟨_, he, by rw [leapFail, raise_leap]; rfl, by rw [leapFail, raise_hbm]; rfl, raises_of_raise (by rfl) rfl, leapFail_narrow _ _ _⟩
  case passes =>
    intro good s hs hserved hcheck hpass hidle hon hroom htarget
    obtain ⟨hlow, hhigh, hused⟩ := leapChecks_eq_zero hpass
    have he := exec_leapStepAdvance_of_runs hserved (leapRuns_of_check hcheck) good
    have hframe := (execLeapStepAdvance_within (Sub.refl _) (Within.refl _ s)).of_next he
    have hstep : leapAdvance good s = leapAppend (modLeap (fun y => { y with state := leapLedger }) s) := by
      unfold leapAdvance
      rw [if_pos hcheck]
      exact if_neg (by simp [hpass])
    obtain ⟨hleap, halm, hbusy⟩ := leapAppend_of_room (s := modLeap (fun y => { y with state := leapLedger }) s) hs.rising hidle hon hroom
      ⟨hlow, hhigh⟩ hused htarget
    rw [← hstep] at hleap halm hbusy
    exact ⟨_, he, hleap, halm, hbusy, hframe.frame (by decide)⟩
  case done =>
    intro good s _ hserved happly htype
    have he := exec_leapStepAdvance_of_runs hserved (leapRuns_of_apply happly) good
    have hstep : leapAdvance good s = leapEnd s := by
      unfold leapAdvance applyStepLeap
      rw [happly, if_neg (by decide), if_neg (by decide), if_pos rfl, if_neg (by omega), if_neg (by omega), if_neg (by omega)]
    rw [hstep] at he
    refine ⟨_, he, by rw [leapEnd, raise_leap]; rfl, raises_of_raise (by rfl) rfl, ?_⟩
    exact (leapEnd_within (Sub.refl _) (Within.refl _ s)).narrow (by decide)

end Sys2Proof.Machine
end

section
/-! SUPPORT. Lines of HBM outside the keyed regions (chapter 15): what an access of whole lines reads and leaves. -/
namespace Sys2Proof.Machine

/-! ### Operations that keep the memory of HBM -/

/-- From `s` to `t` only the controller's own part may differ, and in it neither the memory nor its marks of wrong bits. -/
structure SameLines (s t : State) : Prop where
  rest : t = { s with hbm := t.hbm }
  mem : t.hbm.mem = s.hbm.mem
  sgl : t.hbm.sgl = s.hbm.sgl
  dbl : t.hbm.dbl = s.hbm.dbl

theorem SameLines.refl (s : State) : SameLines s s := ⟨rfl, rfl, rfl, rfl⟩

theorem SameLines.trans {s t u : State} (h : SameLines s t) (g : SameLines t u) : SameLines s u :=
  ⟨by rw [g.rest, h.rest], g.mem.trans h.mem, g.sgl.trans h.sgl, g.dbl.trans h.dbl⟩

theorem SameLines.regs {s t : State} (h : SameLines s t) : t.regs = s.regs := by rw [h.rest]

theorem SameLines.get {s t : State} (h : SameLines s t) (f : Fld) : t.get f = s.get f := get_congr h.regs f

theorem openRow_sameLines (a : Nat) (s : State) : SameLines s (openRow a s) := by
  unfold openRow
  dsimp only
  split
  · exact SameLines.refl s
  · exact ⟨rfl, rfl, rfl, rfl⟩

theorem takeLines_sameLines (c n : Nat) (s : State) : SameLines s (takeLines c n s) := by
  unfold takeLines
  dsimp only
  split
  · exact ⟨rfl, rfl, rfl, rfl⟩
  · exact ⟨rfl, rfl, rfl, rfl⟩

theorem encRegion_of_sameRegs {s t : State} (h : t.regs = s.regs) (a : Nat) : encRegion a t = encRegion a s := by
  unfold encRegion encLive encBase encEnd
  simp only [get_congr h]

theorem hbmFlipAt_of_sameRegs {s t : State} (h : t.regs = s.regs) (line : Nat) : hbmFlipAt line t = hbmFlipAt line s := by
  unfold hbmFlipAt State.on
  simp only [get_congr h]

/-! ### A line written whole -/

theorem lineStore_of_noFlip {line : Nat} {s : State} (h : hbmFlipAt line s = false) (data : List Byte) :
    lineStore line data s = { s with hbm := { s.hbm with
      mem := memWrite 0 (64 * line) (data.take 64) s.hbm.mem, sgl := spDel line s.hbm.sgl, dbl := spDel line s.hbm.dbl } } :=
  if_neg (by simp [h])

/-- What a whole write of a line outside the keyed regions leaves. -/
structure LinePut (line : Nat) (data : List Byte) (s t : State) : Prop where
  rest : t = { s with hbm := t.hbm }
  mem : t.hbm.mem = memWrite 0 (64 * line) (data.take 64) s.hbm.mem
  sgl : t.hbm.sgl = spDel line s.hbm.sgl
  dbl : t.hbm.dbl = spDel line s.hbm.dbl

theorem LinePut.regs {line : Nat} {data : List Byte} {s t : State} (h : LinePut line data s t) : t.regs = s.regs := by rw [h.rest]

theorem LinePut.after {line : Nat} {data : List Byte} {s t u : State} (h : LinePut line data t u) (g : SameLines s t) :
    LinePut line data s u := by
  refine ⟨by rw [h.rest, g.rest], ?_, ?_, ?_⟩
  · rw [h.mem, g.mem]
  · rw [h.sgl, g.sgl]
  · rw [h.dbl, g.dbl]

theorem lineWrite_whole {line : Nat} {s : State} (hflip : hbmFlipAt line s = false) (src : Nat) (data : List Byte) :
    ∃ t, lineWrite line (2 ^ 64 - 1) src data s = (.done, t) ∧ LinePut line data s t := by
  have hopen := openRow_sameLines (64 * line) s
  refine ⟨lineStore line data (openRow (64 * line) s), if_pos (by decide), ?_⟩
  rw [lineStore_of_noFlip (by rw [hbmFlipAt_of_sameRegs hopen.regs, hflip])]
  exact LinePut.after ⟨rfl, rfl, rfl, rfl⟩ hopen

/-- One line stored by an engine or object. -/
theorem hbmSave_line {src a : Nat} {s : State} (ha : a % 64 = 0) (hsize : a + 64 ≤ hbmSize) (hmay : hbmDenies src a 64 true = false)
    (hpair : pairRefusesAt a 1 s = none) (hreg : encRegion a s = none) (hflip : hbmFlipAt (a / 64) s = false) (b : List Byte) :
    ∃ t, hbmSave src a 1 b s = (.done, t) ∧ LinePut (a / 64) b s t := by
  have htake := takeLines_sameLines (classOf src) 1 s
  obtain ⟨t, hwrite, hput⟩ := lineWrite_whole (s := takeLines (classOf src) 1 s) (line := a / 64)
    (by rw [hbmFlipAt_of_sameRegs htake.regs, hflip]) src (b.take 64)
  have hregions : regionsOf (a / 64) 1 (takeLines (classOf src) 1 s) = [none] := by
    show [encRegion (64 * (a / 64 + 0)) (takeLines (classOf src) 1 s)] = _
    rw [encRegion_of_sameRegs htake.regs, show 64 * (a / 64 + 0) = a by omega, hreg]
  refine ⟨t, ?_, ?_⟩
  · unfold hbmSave
    rw [if_neg (by omega), if_neg (by rw [hmay]; decide), hpair]
    dsimp only
    unfold hbmPutLines
    rw [hregions]
    unfold putLinesFor putLineFor
    dsimp only
    rw [hwrite]
    rfl
  · have hafter := hput.after htake
    exact ⟨hafter.rest, by rw [hafter.mem, List.take_take, Nat.min_self], hafter.sgl, hafter.dbl⟩

/-! ### A line read -/

theorem hbmCorr1_mem (s : State) : (hbmCorr1 s).hbm.mem = s.hbm.mem := by
  unfold hbmCorr1
  dsimp only
  split
  · rw [raise_hbm]
    rfl
  · rfl

theorem hbmCorr_mem (n : Nat) (s : State) : (hbmCorr n s).hbm.mem = s.hbm.mem := by
  unfold hbmCorr forNat
  generalize List.range n = l
  induction l generalizing s with
  | nil => rfl
  | cons i l ih => rw [List.foldl_cons, ih, hbmCorr1_mem]

/-- A line without a double-bit error reads as stored, and the read does not change it. -/
theorem lineRead_good {line : Nat} {s : State} (h : spGet line s.hbm.dbl = 0) (found src : Nat) :
    ∃ t, lineRead line found src s = (some (memRead 0 (64 * line) 64 s.hbm.mem), t) ∧ t.hbm.mem = s.hbm.mem := by
  have hopen := openRow_sameLines (64 * line) s
  have hcheck : checkLine line found src (openRow (64 * line) s) = (false, hbmCorr (popCount 8 (spGet line (openRow (64 * line) s).hbm.sgl))
      { openRow (64 * line) s with hbm := { (openRow (64 * line) s).hbm with sgl := spDel line (openRow (64 * line) s).hbm.sgl } }) :=
    if_neg (by rw [hopen.dbl, h]; simp)
  have hmem : (checkLine line found src (openRow (64 * line) s)).2.hbm.mem = s.hbm.mem := by
    rw [hcheck, hbmCorr_mem]
    exact hopen.mem
  refine ⟨_, ?_, hmem⟩
  unfold lineRead lineBytes
  dsimp only
  rw [hmem, hcheck]
  rfl

/-- One line loaded by an engine or object. -/
theorem hbmLoad_line {src a : Nat} {s : State} (ha : a % 64 = 0) (hsize : a + 64 ≤ hbmSize) (hmay : hbmDenies src a 64 false = false)
    (hpair : pairRefusesAt a 1 s = none) (hreg : encRegion a s = none) (hgood : spGet (a / 64) s.hbm.dbl = 0) :
    ∃ t, hbmLoad src a 1 s = (.done, memRead 0 a 64 s.hbm.mem, t) := by
  have htake := takeLines_sameLines (classOf src) 1 s
  obtain ⟨t, hread, -⟩ := lineRead_good (s := takeLines (classOf src) 1 s) (line := a / 64) (by rw [htake.dbl, hgood]) 0 src
  have hregions : regionsOf (a / 64) 1 (takeLines (classOf src) 1 s) = [none] := by
    show [encRegion (64 * (a / 64 + 0)) (takeLines (classOf src) 1 s)] = _
    rw [encRegion_of_sameRegs htake.regs, show 64 * (a / 64 + 0) = a by omega, hreg]
  refine ⟨cacheTrim t, ?_⟩
  unfold hbmLoad
  rw [if_neg (by omega), if_neg (by rw [hmay]; decide), hpair]
  dsimp only
  unfold hbmLines
  rw [hregions]
  unfold linesFor lineFor
  dsimp only
  rw [hread, htake.mem, show 64 * (a / 64) = a by omega]
  simp [linesFor]

end Sys2Proof.Machine
end

section
/-! SUPPORT. FoE transfers (chapter 21). -/
namespace Sys2Proof.Machine

/-! ### How a transfer comes to be served (R491, R504) -/

theorem notInBoot_of_mailboxOpen {s : State} (h : mailboxOpen s = true) : inBoot s = false := by
  unfold mailboxOpen at h
  unfold inBoot
  by_contra hboot
  have h3 : s.get FI_STAT_AL_STATE = 3 := by simpa using hboot
  rw [h3] at h
  exact absurd h (by decide)

/-- A transfer that joins no other and is served leaves the list as it was. -/
theorem foeArrive_alone {q : FoeReq} {s : State} (hopen : mailboxOpen s = true) (hserved : fieldServed s = true)
    (halone : s.field.foe = []) : foeArrive q s = foeServe q s := by
  have hlist : (modField (fun f => { f with foe := f.foe ++ [q] }) s).field.foe = [q] := by
    show s.field.foe ++ [q] = [q]
    rw [halone]
    rfl
  have hback : modField (fun f => { f with foe := f.foe.drop 1 }) (modField (fun f => { f with foe := f.foe ++ [q] }) s) = s := by
    show ({ s with field := { s.field with foe := (s.field.foe ++ [q]).drop 1 } } : State) = s
    rw [show (s.field.foe ++ [q]).drop 1 = s.field.foe by rw [halone]; rfl]
  have hserved' : fieldServed (modField (fun f => { f with foe := f.foe ++ [q] }) s) = true := hserved
  unfold foeArrive foeServeAll
  rw [if_neg (by simp [hopen]), if_neg (by simp [hserved']), hlist]
  show foeServe q (modField (fun f => { f with foe := f.foe.drop 1 }) (modField (fun f => { f with foe := f.foe ++ [q] }) s)) = foeServe q s
  rw [hback]

theorem openSession_of_open {addr c : Nat} {s : State} (h : sessionOf addr s = some c) : openSession addr s = (some c, s) := by
  unfold openSession
  rw [h]

/-- A write of a role that has the right to a file of the list goes to the access. -/
theorem foeServe_write {addr c : Nat} {file : FoeFile} {s : State} (hsess : sessionOf addr s = some c) (hfile : file ≠ .other)
    (hrole : foeRole file true (roleOf (s.get (FI_SESS_ROLE c))) = true) (b : List Byte) (flashOk : Bool) :
    foeServe ⟨addr, file, 0, some b, flashOk⟩ s = foeWrite (sessAgent c s) file b flashOk s := by
  have hrole' : foeRole file true (sessAgent c s).role = true := hrole
  unfold foeServe
  rw [openSession_of_open hsess]
  dsimp only
  rw [if_neg hfile, Option.isSome_some, if_neg (by simp [hrole'])]

/-- A read of a role that has the right. -/
theorem foeServe_read {addr c : Nat} {file : FoeFile} {s : State} (hsess : sessionOf addr s = some c) (hfile : file ≠ .other)
    (hrole : foeRole file false (roleOf (s.get (FI_SESS_ROLE c))) = true) (flashOk : Bool) :
    foeServe ⟨addr, file, 0, none, flashOk⟩ s = foeRead file s := by
  have hrole' : foeRole file false (sessAgent c s).role = true := hrole
  unfold foeServe
  rw [openSession_of_open hsess]
  dsimp only
  rw [if_neg hfile, Option.isSome_none, if_neg (by simp [hrole'])]

theorem foeServe_of_noRight {q : FoeReq} {c : Nat} {s : State} (hsess : sessionOf q.addr s = some c) (hfile : q.file ≠ .other)
    (hrole : foeRole q.file q.data.isSome (roleOf (s.get (FI_SESS_ROLE c))) = false) :
    foeServe q s = foeEnd q.file .denied 0x8002 0 [] s := by
  have hrole' : foeRole q.file q.data.isSome (sessAgent c s).role = false := hrole
  unfold foeServe
  rw [openSession_of_open hsess]
  dsimp only
  rw [if_neg hfile, if_pos (Or.inr (by simp [hrole']))]

/-- What the statements of transfers ask: an open mailbox, served, with no other transfer waiting. -/
abbrev FoeIdle (s : State) : Prop := mailboxOpen s = true ∧ fieldServed s = true ∧ s.field.foe = []

theorem exec_foeWrite_of_idle {s : State} (h : FoeIdle s) (addr : Nat) (file : FoeFile) (password : Nat) (data : List Byte) (flashOk : Bool) :
    exec (.foeWrite addr file password data flashOk) s = .next (foeServe ⟨addr % 65536, file, password, some data, flashOk⟩ s) := by
  obtain ⟨hopen, hserved, halone⟩ := h
  show ok (if inBoot s then _ else _) = _
  rw [if_neg (by simp [notInBoot_of_mailboxOpen hopen]), foeArrive_alone hopen hserved halone]
  rfl

theorem exec_foeRead_of_idle {s : State} (h : FoeIdle s) (addr : Nat) (file : FoeFile) (password : Nat) :
    exec (.foeRead addr file password) s = .next (foeServe ⟨addr % 65536, file, password, none, true⟩ s) := by
  obtain ⟨hopen, hserved, halone⟩ := h
  show ok (if inBoot s then _ else _) = _
  rw [if_neg (by simp [notInBoot_of_mailboxOpen hopen]), foeArrive_alone hopen hserved halone]
  rfl

theorem roleOf_im {n : Nat} (h : n = 2 ∨ n = 3) : (roleOf n == .installer || roleOf n == .maker) = true := by
  rcases h with rfl | rfl <;> decide

theorem roleOf_some {n : Nat} (h : 1 ≤ n ∧ n ≤ 3) : (roleOf n != .none) = true := by
  obtain ⟨hlow, hhigh⟩ := h
  interval_cases n <;> decide

/-! ### The end of a transfer (R504) -/

theorem foeEnd_flash (f : FoeFile) (st : Status) (code n : Nat) (b : List Byte) (s : State) : (foeEnd f st code n b s).flash = s.flash :=
  raise_flash s _ _

theorem foeEnd_hbm (f : FoeFile) (st : Status) (code n : Nat) (b : List Byte) (s : State) : (foeEnd f st code n b s).hbm = s.hbm :=
  raise_hbm s _ _

theorem foeEnd_narrow (f : FoeFile) (st : Status) (code n : Nat) (b : List Byte) (s : State) :
    Narrow [.resp, .events, .trace] [] s (foeEnd f st code n b s) :=
  (foeEnd_within (Sub.refl _) (Within.refl _ s)).narrow (by decide)

/-- The end of a transfer is its newest event. -/
theorem raises_foeEnd {f : FoeFile} {st : Status} {code n : Nat} {b : List Byte} {s t : State}
    (hready : t.get BOOT_STAT_READY = s.get BOOT_STAT_READY) : Raises 0x1207 s (foeEnd f st code n b t) :=
  raises_of_raise hready rfl

/-! ### A flash slot written (R505, R507) -/

theorem setMark_flash (n : Nat) (b : Bool) (s : State) : (setMark n b s).flash = s.flash := by
  unfold setMark
  split <;> rfl

theorem setMark_ready (n : Nat) (b : Bool) (s : State) : (setMark n b s).get BOOT_STAT_READY = s.get BOOT_STAT_READY := by
  unfold setMark
  split
  · exact get_set_of_ne _ (by decide) _
  · exact get_set_of_ne _ (by decide) _

/-- What a write of a slot of `size` bytes at `base` answers and leaves in the flash: the bytes where they fit and pass the checks. -/
structure SlotTaken (base size kind : Nat) (b : List Byte) (flashOk : Bool) (s t : State) : Prop where
  status : t.resp.status =
    if size < b.length then .range
    else if verifyImage kind size flashOk (flashImg base { s with flash := memWrite 0xFF base b (memErase base (base + size) s.flash) })
      { s with flash := memWrite 0xFF base b (memErase base (base + size) s.flash) } = 0 then .done else .fault
  value : t.resp.value =
    if size < b.length then 0x8003
    else if verifyImage kind size flashOk (flashImg base { s with flash := memWrite 0xFF base b (memErase base (base + size) s.flash) })
      { s with flash := memWrite 0xFF base b (memErase base (base + size) s.flash) } = 0 then 0 else 0x800B
  flash : t.flash =
    if size < b.length then memErase base (base + size) s.flash
    else if verifyImage kind size flashOk (flashImg base { s with flash := memWrite 0xFF base b (memErase base (base + size) s.flash) })
      { s with flash := memWrite 0xFF base b (memErase base (base + size) s.flash) } = 0
      then memWrite 0xFF base b (memErase base (base + size) s.flash)
    else memErase base (base + size) (memWrite 0xFF base b (memErase base (base + size) s.flash))
  raises : Raises 0x1207 s t

theorem slotWrite_taken (f : FoeFile) (base size kind : Nat) {mark : Option Nat} (hmark : mark ≠ some 16) (b : List Byte) (flashOk : Bool)
    (s : State) : SlotTaken base size kind b flashOk s (slotWrite f base size kind mark b flashOk s) := by
  unfold slotWrite slotErase
  dsimp only
  by_cases hlong : size < b.length
  · rw [if_pos hlong]
    exact ⟨(if_pos hlong).symm, (if_pos hlong).symm, by rw [foeEnd_flash, if_pos hlong], raises_foeEnd (by rfl)⟩
  · rw [if_neg hlong]
    by_cases hgood : verifyImage kind size flashOk
        (flashImg base { s with flash := memWrite 0xFF base b (memErase base (base + size) s.flash) })
        { s with flash := memWrite 0xFF base b (memErase base (base + size) s.flash) } = 0
    · rw [if_neg (by rw [hgood]; simp)]
      refine ⟨by rw [if_neg hlong, if_pos hgood]; rfl, by rw [if_neg hlong, if_pos hgood]; rfl, ?_, raises_foeEnd ?_⟩
      · rw [foeEnd_flash, if_neg hlong, if_pos hgood]
        split
        · exact absurd rfl hmark
        · exact setMark_flash _ _ _
        · rfl
      · split
        · exact absurd rfl hmark
        · exact setMark_ready _ _ _
        · rfl
    · rw [if_pos hgood]
      refine ⟨by rw [if_neg hlong, if_neg hgood]; rfl, by rw [if_neg hlong, if_neg hgood]; rfl, ?_, raises_foeEnd ?_⟩
      · rw [foeEnd_flash, if_neg hlong, if_neg hgood]
        exact raise_flash _ _ _
      · exact get_raise _ _ _ _

/-- A write of a slot without a mark changes the flash alone; with a mark of a region slot, that mark too. -/
theorem slotWrite_unmarked_narrow (f : FoeFile) (base size kind : Nat) (b : List Byte) (flashOk : Bool) (s : State) :
    Narrow [.resp, .events, .trace, .flash] [] s (slotWrite f base size kind none b flashOk s) := by
  have herased : Within 0x20000D s (slotErase base size s) := slotErase_within (by decide) (Within.refl _ s)
  have hwritten : Within 0x20000D s { slotErase base size s with flash := memWrite 0xFF base b (slotErase base size s).flash } :=
    Within.flash_ (by decide) herased
  refine Within.narrow (A := 0x20000D) ?_ (by decide)
  unfold slotWrite
  refine Within.ite ?_ (Within.ite ?_ ?_)
  · exact foeEnd_within (by decide) herased
  · exact foeEnd_within (by decide) (imageRefused_within (by decide) (slotErase_within (by decide) hwritten))
  · exact foeEnd_within (by decide) hwritten

theorem slotWrite_region_frame (f : FoeFile) (base size kind : Nat) (n : Fin 16) (b : List Byte) (flashOk : Bool) (s : State) :
    Frame [.resp, .events, .trace, .flash] [.loader] s (slotWrite f base size kind (some n.val) b flashOk s) := by
  have herased : Within 0x2000000020000D s (slotErase base size s) := slotErase_within (by decide) (Within.refl _ s)
  have hwritten : Within 0x2000000020000D s { slotErase base size s with flash := memWrite 0xFF base b (slotErase base size s).flash } :=
    Within.flash_ (by decide) herased
  refine Within.frame (A := 0x2000000020000D) ?_ (by decide)
  unfold slotWrite
  refine Within.ite ?_ (Within.ite ?_ ?_)
  · exact foeEnd_within (by decide) herased
  · exact foeEnd_within (by decide) (imageRefused_within (by decide) (slotErase_within (by decide) hwritten))
  · refine foeEnd_within (by decide) ?_
    split
    · rename_i h
      exact absurd (Option.some.inj h) (by omega)
    · exact setMark_within (by decide) hwritten
    · exact hwritten

/-! ### HBM files (R506) -/

theorem nocSave_line {a : Nat} {s : State} (ha : a % 64 = 0) (hsize : a + 64 ≤ hbmSize) (hnoc : (nocReach 49 a 1 3 s).1 = none)
    (hmay : hbmDenies 49 a 64 true = false) (hpair : pairRefusesAt a 1 s = none) (hreg : encRegion a s = none)
    (hflip : hbmFlipAt (a / 64) s = false) (b : List Byte) :
    ∃ t, nocSave 49 a 1 b s = (.done, t) ∧ t.hbm.mem = memWrite 0 a (b.take 64) s.hbm.mem ∧ t.regs = s.regs := by
  obtain ⟨cr, cf, hreach⟩ := nocReach_of_carried hnoc
  obtain ⟨t, hsave, hput⟩ := hbmSave_line (src := 49) (s := nocCounted cr cf s) ha hsize hmay hpair hreg hflip b
  refine ⟨t, ?_, ?_, hput.regs⟩
  · unfold nocSave
    rw [show ceilDiv 1 4 = 1 from rfl, hreach]
    exact hsave
  · rw [hput.mem, show 64 * (a / 64) = a by omega]
    rfl

theorem nocLoad_line {a : Nat} {s : State} (ha : a % 64 = 0) (hsize : a + 64 ≤ hbmSize) (hnoc : (nocReach 49 a 1 1 s).1 = none)
    (hmay : hbmDenies 49 a 64 false = false) (hpair : pairRefusesAt a 1 s = none) (hreg : encRegion a s = none)
    (hgood : spGet (a / 64) s.hbm.dbl = 0) : ∃ t, nocLoad 49 a 1 s = (.done, memRead 0 a 64 s.hbm.mem, t) := by
  obtain ⟨cr, cf, hreach⟩ := nocReach_of_carried hnoc
  obtain ⟨t, hload⟩ := hbmLoad_line (src := 49) (s := nocCounted cr cf s) ha hsize hmay hpair hreg hgood
  refine ⟨t, ?_⟩
  unfold nocLoad
  rw [show ceilDiv 1 4 = 1 from rfl, hreach]
  exact hload

/-! ### The statement -/

/-- Settles O42: a transfer that joins no other is served at once, with the session's role; then each file is its own access. -/
theorem fileAccessCommandsComplete : Obligations.FileAccessCommandsComplete := by
  unfold Obligations.FileAccessCommandsComplete
  refine ⟨?region, ?noRight, ?hbmWrite, ?hbmRead, ?events, ?boot⟩
  case region =>
    intro addr n data flashOk c s _ hidle hsess hrole
    have he := exec_foeWrite_of_idle hidle addr (.region n) 0 data flashOk
    have htaken := slotWrite_taken (.region n) (regionFlash n.val) slotSize 1 (mark := some n.val)
      (fun h => absurd (Option.some.inj h) (by omega)) data flashOk s
    have hwrite : foeWrite (sessAgent c s) (.region n) data flashOk s =
        slotWrite (.region n) (regionFlash n.val) slotSize 1 (some n.val) data flashOk s := rfl
    rw [foeServe_write (file := .region n) hsess (by simp) (roleOf_im hrole), hwrite] at he
    exact ⟨_, he, htaken.status, htaken.value, htaken.flash, htaken.raises, slotWrite_region_frame _ _ _ _ n _ _ _⟩
  case noRight =>
    intro addr file data flashOk c s _ hidle hsess hfile hrole
    have he := exec_foeWrite_of_idle hidle addr file 0 data flashOk
    rw [foeServe_of_noRight hsess hfile hrole] at he
    exact ⟨_, he, rfl, raises_foeEnd (by rfl), foeEnd_narrow _ _ _ _ _ _⟩
  case hbmWrite =>
    intro addr a data flashOk c s _ hidle hsess hrole ha hnoc hmay hpair hline
    have he := exec_foeWrite_of_idle hidle addr (.hbm a 64) 0 data flashOk
    obtain ⟨t, hsave, hmem, hregs⟩ := nocSave_line ha.1 ha.2.1 hnoc hmay hpair hline.1 hline.2 data
    have htake : data.take 64 = data := List.take_of_length_le (by omega)
    have hhbm : foeHbmWrite a (data.take 64) s = (.done, t) := by
      unfold foeHbmWrite
      rw [htake, ha.2.2]
      dsimp only
      rw [hsave]
      exact if_pos (Or.inr rfl)
    have hwrite : foeWrite (sessAgent c s) (.hbm a 64) data flashOk s = foeEnd (.hbm a 64) .done 0 data.length [] t := by
      unfold foeWrite
      dsimp only
      rw [if_neg (by omega), hhbm, if_neg (by simp), if_neg (by omega)]
    rw [foeServe_write (file := .hbm a 64) hsess (by simp) (roleOf_im hrole), hwrite] at he
    refine ⟨_, he, rfl, ?_, raises_foeEnd (get_congr hregs _)⟩
    rw [foeEnd_hbm, hmem, htake]
  case hbmRead =>
    intro addr a c s _ hidle hsess hrole ha hnoc hmay hpair hline
    have he := exec_foeRead_of_idle hidle addr (.hbm a 64) 0
    obtain ⟨t, hload⟩ := nocLoad_line ha.1 ha.2 hnoc hmay hpair hline.1 hline.2
    have hready : t.get BOOT_STAT_READY = s.get BOOT_STAT_READY := by
      have hw : Within _ s (nocLoad 49 a 1 s).2.2 := nocLoad_within (Sub.refl _) (Within.refl _ s)
      rw [hload] at hw
      exact hw.get (by decide)
    have hread : foeRead (.hbm a 64) s = foeEnd (.hbm a 64) .done 0 64 (memRead 0 a 64 s.hbm.mem) t := by
      unfold foeRead
      dsimp only
      rw [if_neg (by omega), show ceilDiv 64 64 = 1 from rfl, hload, if_pos rfl, List.take_of_length_le (by simp [memRead])]
    rw [foeServe_read (file := .hbm a 64) hsess (by simp) (roleOf_some hrole), hread] at he
    exact ⟨_, he, rfl, raises_foeEnd hready⟩
  case events =>
    intro addr c s _ hidle hsess hrole
    have he := exec_foeRead_of_idle hidle addr .events 0
    rw [foeServe_read (file := .events) hsess (by simp) (roleOf_some hrole)] at he
    exact ⟨_, he, rfl, raises_foeEnd (by rfl), foeEnd_narrow _ _ _ _ _ _⟩
  case boot =>
    intro slotB password data flashOk s _ hboot hpass
    subst hpass
    have he : exec (.foeBootstrapWrite slotB 0 data flashOk) s = .next (foeBoot (if slotB then .fwB else .fwA) 0 data flashOk s) :=
      whenOk_of hboot s _
    cases slotB with
    | false =>
      have htaken := slotWrite_taken .fwA 0x00100000 0x1000000 2 (mark := none) (by simp) data flashOk s
      exact ⟨_, he, htaken.status, htaken.value, htaken.flash, htaken.raises, slotWrite_unmarked_narrow _ _ _ _ _ _ _⟩
    | true =>
      have htaken := slotWrite_taken .fwB 0x01100000 0x1000000 2 (mark := none) (by simp) data flashOk s
      exact ⟨_, he, htaken.status, htaken.value, htaken.flash, htaken.raises, slotWrite_unmarked_narrow _ _ _ _ _ _ _⟩

end Sys2Proof.Machine
end

section
/-! SUPPORT. The field interface (chapter 21): EtherCAT states, sessions, SDO requests and process data. -/
namespace Sys2Proof.Machine

/-! ### The end of a session (R490) -/

theorem FI_SESS_OPEN_bit (k : Nat) : (FI_SESS_OPEN k).key % 64 = 0 := Nat.mul_add_mod _ _ _
theorem FI_SESS_ROLE_bit (k : Nat) : (FI_SESS_ROLE k).key % 64 = 8 := Nat.mul_add_mod _ _ _
theorem FI_SESS_ADDRESS_bit (k : Nat) : (FI_SESS_ADDRESS k).key % 64 = 16 := Nat.mul_add_mod _ _ _

/-- What the end of a session leaves. -/
structure SessionOver (c : Nat) (s t : State) : Prop where
  isOpen : t.get (FI_SESS_OPEN c) = 0
  role : t.get (FI_SESS_ROLE c) = 0
  raises : Raises 0x1202 s t

theorem sessionOf_on {addr c : Nat} {s : State} (h : sessionOf addr s = some c) : s.on (FI_SESS_OPEN c) = true :=
  by
  have hfound := List.find?_some h
  exact (Bool.and_eq_true_iff.1 hfound).1

theorem endSession_of_open {c : Nat} {s : State} (hs : Sparse.Rising s.regs) (h : s.on (FI_SESS_OPEN c) = true) (cause : Nat) :
    SessionOver c s (endSession cause c s) := by
  have hend : endSession cause c s = raise 0x1202 [⟨2, s.get (FI_SESS_ADDRESS c)⟩, ⟨1, cause⟩]
      (forgetSession c (((s.set (FI_SESS_OPEN c) 0).set (FI_SESS_ADDRESS c) 0).set (FI_SESS_ROLE c) 0)) := by
    unfold endSession
    exact if_neg (by simp [h])
  rw [hend]
  refine ⟨?_, ?_, raises_of_raise ?_ rfl⟩
  · rw [get_raise]
    show State.get (((s.set (FI_SESS_OPEN c) 0).set (FI_SESS_ADDRESS c) 0).set (FI_SESS_ROLE c) 0) _ = 0
    rw [get_set_of_bit _ (by rw [FI_SESS_OPEN_bit, FI_SESS_ROLE_bit]; decide),
      get_set_of_bit _ (by rw [FI_SESS_OPEN_bit, FI_SESS_ADDRESS_bit]; decide), get_set_self _ _ hs, Nat.zero_mod]
  · rw [get_raise]
    exact (get_set_self (FI_SESS_ROLE c) 0 (rising_set _ _ (rising_set _ _ hs))).trans (Nat.zero_mod _)
  · have hready (k : Fld) (hk : winBit k.key = 120) (t : State) : (t.set k 0).get BOOT_STAT_READY = t.get BOOT_STAT_READY :=
      get_set_of_win t BOOT_STAT_READY_win hk (by decide) 0
    show State.get (((s.set (FI_SESS_OPEN c) 0).set (FI_SESS_ADDRESS c) 0).set (FI_SESS_ROLE c) 0) _ = _
    rw [hready _ (FI_SESS_ROLE_win c), hready _ (FI_SESS_ADDRESS_win c), hready _ (FI_SESS_OPEN_win c)]

/-! ### EtherCAT states (R487, R499, R503) -/

/-- The targets that no check refuses are states of the slave. -/
theorem target_of_alCheck {target : Nat} {mbxOk sync0Ok : Bool} {s : State} (hne : target ≠ s.get FI_STAT_AL_STATE)
    (h : alCheck target mbxOk sync0Ok s = 0) : target = 1 ∨ target = 2 ∨ target = 3 ∨ target = 4 ∨ target = 8 := by
  unfold alCheck at h
  dsimp only at h
  rw [if_neg hne] at h
  by_contra hn
  rw [if_pos (by omega)] at h
  exact absurd h (by decide)

/-- The entry to a state writes the state, and beside it sessions, events and the interface's own part alone. -/
theorem alEnter_within_set (x : Nat) (s : State) : Within 0x100000000000000000000001100000C (s.set FI_STAT_AL_STATE x) (alEnter x s) := by
  have hself := Within.refl 0x100000000000000000000001100000C (s.set FI_STAT_AL_STATE x)
  unfold alEnter
  refine Within.ite (modField_within (by decide) ?_)
    (Within.ite (modField_within (by decide) hself) (Within.ite (modField_within (by decide) hself) hself))
  exact forNat_within (fun i _ h => endSession_within (k := i) (by decide) h) 8 hself

theorem get_alEnter_of_stat {f : Fld} (hf : winBit f.key = 119) (hne : f.key ≠ FI_STAT_AL_STATE.key) (x : Nat) (s : State) :
    (alEnter x s).get f = s.get f :=
  ((alEnter_within_set x s).get (by rw [hf]; decide)).trans (get_set_of_ne s hne x)

theorem alEnter_alState {x : Nat} {s : State} (hs : Sparse.Rising s.regs) (hx : x < 16) : (alEnter x s).get FI_STAT_AL_STATE = x :=
  ((alEnter_within_set x s).get (by decide)).trans ((get_set_self FI_STAT_AL_STATE x hs).trans (Nat.mod_eq_of_lt hx))

theorem exec_alStateRequest_decided {target : Nat} {s : State}
    (h : target ≠ 2 ∨ s.get FI_STAT_AL_STATE ≠ 1 ∨ s.get BOOT_STAT_READY = 1) (mbxOk sync0Ok : Bool) :
    exec (.alStateRequest target mbxOk sync0Ok) s = .next (alDecide target mbxOk sync0Ok s) := by
  have hnow : ¬ (target = 2 ∧ s.get FI_STAT_AL_STATE = 1 ∧ (!s.on BOOT_STAT_READY) = true) := by
    rintro ⟨h2, h1, hr⟩
    rcases h with h | h | h
    · exact h h2
    · exact h h1
    · simp [State.on, h] at hr
  show ok (if _ then _ else _) = _
  rw [if_neg hnow]
  rfl

theorem alDecide_accepted {target : Nat} {mbxOk sync0Ok : Bool} {s : State} (h : alCheck target mbxOk sync0Ok s = 0)
    (hne : target ≠ s.get FI_STAT_AL_STATE) : alDecide target mbxOk sync0Ok s =
      alEnter target ((modField (fun f => { f with alPend := none }) s).set FI_STAT_AL_ERR 0) := by
  unfold alDecide
  dsimp only
  rw [if_neg (by simp [h])]
  exact if_neg hne

theorem alDecide_refused {target : Nat} {mbxOk sync0Ok : Bool} {s : State} (h : alCheck target mbxOk sync0Ok s ≠ 0) :
    alDecide target mbxOk sync0Ok s = raise 0x1204 [⟨1, target⟩, ⟨2, alCheck target mbxOk sync0Ok s⟩]
      (((modField (fun f => { f with alPend := none }) s).set FI_STAT_AL_ERR 1).set FI_STAT_AL_CODE (alCheck target mbxOk sync0Ok s)) := by
  unfold alDecide
  dsimp only
  exact if_pos h

/-- An accepted request enters its state and clears the error. -/
theorem alDecide_enters {target : Nat} {mbxOk sync0Ok : Bool} {s : State} (hs : Sparse.Rising s.regs)
    (h : alCheck target mbxOk sync0Ok s = 0) (hne : target ≠ s.get FI_STAT_AL_STATE) :
    (alDecide target mbxOk sync0Ok s).get FI_STAT_AL_STATE = target ∧ (alDecide target mbxOk sync0Ok s).get FI_STAT_AL_ERR = 0 := by
  have hrising : Sparse.Rising ((modField (fun f => { f with alPend := none }) s).set FI_STAT_AL_ERR 0).regs := rising_set _ _ hs
  have htarget := target_of_alCheck hne h
  rw [alDecide_accepted h hne]
  refine ⟨alEnter_alState hrising (by omega), ?_⟩
  rw [get_alEnter_of_stat (by decide) (by decide)]
  exact get_set_self FI_STAT_AL_ERR 0 hs

theorem safeOpCheck_lt (sync0Ok : Bool) (s : State) : safeOpCheck sync0Ok s < 65536 := by
  unfold safeOpCheck
  split_ifs <;> decide

theorem alCheck_lt (target : Nat) (mbxOk sync0Ok : Bool) (s : State) : alCheck target mbxOk sync0Ok s < 65536 := by
  have := safeOpCheck_lt sync0Ok s
  unfold alCheck
  dsimp only
  split_ifs <;> omega

/-- A refused request keeps the state and sets the error with its code. -/
theorem alDecide_keeps {target : Nat} {mbxOk sync0Ok : Bool} {s : State} (hs : Sparse.Rising s.regs)
    (h : alCheck target mbxOk sync0Ok s ≠ 0) :
    (alDecide target mbxOk sync0Ok s).get FI_STAT_AL_STATE = s.get FI_STAT_AL_STATE ∧
      (alDecide target mbxOk sync0Ok s).get FI_STAT_AL_ERR = 1 ∧
      (alDecide target mbxOk sync0Ok s).get FI_STAT_AL_CODE = alCheck target mbxOk sync0Ok s ∧
      Raises 0x1204 s (alDecide target mbxOk sync0Ok s) ∧
      Narrow [.field, .events, .trace] [FI_STAT_AL_ERR, FI_STAT_AL_CODE] s (alDecide target mbxOk sync0Ok s) := by
  have hrising : Sparse.Rising ((modField (fun f => { f with alPend := none }) s).set FI_STAT_AL_ERR 1).regs := rising_set _ _ hs
  rw [alDecide_refused h]
  refine ⟨?_, ?_, ?_, raises_of_raise ?_ rfl, ?_⟩
  · rw [get_raise, get_set_of_ne _ (by decide), get_set_of_ne _ (by decide)]
    rfl
  · rw [get_raise, get_set_of_ne _ (by decide)]
    exact get_set_self FI_STAT_AL_ERR 1 hs
  · rw [get_raise, get_set_self _ _ hrising]
    exact Nat.mod_eq_of_lt (alCheck_lt _ _ _ _)
  · rw [get_set_of_ne _ (by decide), get_set_of_ne _ (by decide)]
    rfl
  · have hfield : Narrow [.field, .events, .trace] [FI_STAT_AL_ERR, FI_STAT_AL_CODE] s (modField (fun f => { f with alPend := none }) s) :=
      (Within.field_ (by decide) (Within.refl 0x10000000 s)).narrow (by decide)
    exact ((hfield.set (by simp) 1).set (by simp) _).raise (by simp) _ _

/-- OP needs an SM2 image since SAFE-OP, and PRE-OP the mailbox. -/
theorem alCheck_op {s : State} (h : s.get FI_STAT_AL_STATE = 4) (mbxOk sync0Ok : Bool) :
    alCheck 8 mbxOk sync0Ok s = if s.field.sm2Seen then 0 else 0x001B := by
  unfold alCheck
  rw [h]
  simp [alRank]

theorem alCheck_preOp {s : State} (h : s.get FI_STAT_AL_STATE = 1) (mbxOk sync0Ok : Bool) :
    alCheck 2 mbxOk sync0Ok s = if mbxOk then 0 else 0x0016 := by
  unfold alCheck
  rw [h]
  simp [alRank]

end Sys2Proof.Machine
end

section
/-! SUPPORT. The field interface (chapter 21): SDO requests, process data, and the statement of its commands. -/
set_option Elab.async false
namespace Sys2Proof.Machine

/-! ### How an SDO request comes to be served (R490, R492) -/

theorem sdoArrive_of_open {addr c : Nat} {req : Sdo} {flashOk : Bool} {s : State} (hopen : mailboxOpen s = true)
    (hsess : sessionOf addr s = some c) : sdoArrive addr req flashOk s =
      if 16 ≤ sdoHeld s then
        sdoRetry { raise 0x1203 [⟨2, addr⟩] (s.count FI_SDO_RETRIED 1) with
          sec := { (raise 0x1203 [⟨2, addr⟩] (s.count FI_SDO_RETRIED 1)).sec with
            status := spSet c Status.retry.code (raise 0x1203 [⟨2, addr⟩] (s.count FI_SDO_RETRIED 1)).sec.status } }
      else sdoServeAll (modField (fun f => { f with sdo := f.sdo ++ [⟨addr, req, flashOk⟩] }) s) := by
  unfold sdoArrive
  rw [if_neg (by simp [hopen]), openSession_of_open hsess]

theorem sdoHeld_of_none {s : State} (h : s.field.sdo = []) : sdoHeld s < 16 := by
  unfold sdoHeld
  rw [h]
  split <;> split <;> decide

theorem sdoArrive_unserved {addr c : Nat} {s : State} (hopen : mailboxOpen s = true) (hunserved : fieldServed s = false)
    (hsess : sessionOf addr s = some c) (hheld : sdoHeld s < 16) (req : Sdo) (flashOk : Bool) :
    sdoArrive addr req flashOk s = modField (fun f => { f with sdo := f.sdo ++ [⟨addr, req, flashOk⟩] }) s := by
  have hunserved' : fieldServed (modField (fun f => { f with sdo := f.sdo ++ [⟨addr, req, flashOk⟩] }) s) = false := hunserved
  rw [sdoArrive_of_open hopen hsess, if_neg (by omega)]
  unfold sdoServeAll
  rw [if_pos (by simp [hunserved'])]

/-- What the statements of requests ask: an open mailbox, served, with no other request waiting. -/
abbrev SdoIdle (s : State) : Prop := mailboxOpen s = true ∧ fieldServed s = true ∧ s.field.sdo = []

/-- A request that joins no other and is served leaves the list as it was. -/
theorem sdoArrive_alone {addr c : Nat} {s : State} (h : SdoIdle s) (hsess : sessionOf addr s = some c) (req : Sdo) (flashOk : Bool) :
    sdoArrive addr req flashOk s = sdoServe ⟨addr, req, flashOk⟩ s := by
  obtain ⟨hopen, hserved, halone⟩ := h
  have hlist : (modField (fun f => { f with sdo := f.sdo ++ [⟨addr, req, flashOk⟩] }) s).field.sdo = [⟨addr, req, flashOk⟩] := by
    show s.field.sdo ++ [_] = [_]
    rw [halone]
    rfl
  have hback : modField (fun f => { f with sdo := f.sdo.drop 1 })
      (modField (fun f => { f with sdo := f.sdo ++ [⟨addr, req, flashOk⟩] }) s) = s := by
    show ({ s with field := { s.field with sdo := (s.field.sdo ++ [(⟨addr, req, flashOk⟩ : SdoReq)]).drop 1 } } : State) = s
    rw [show (s.field.sdo ++ [(⟨addr, req, flashOk⟩ : SdoReq)]).drop 1 = s.field.sdo by rw [halone]; rfl]
  have hserved' : fieldServed (modField (fun f => { f with sdo := f.sdo ++ [⟨addr, req, flashOk⟩] }) s) = true := hserved
  rw [sdoArrive_of_open hopen hsess, if_neg (by have := sdoHeld_of_none halone; omega)]
  unfold sdoServeAll
  rw [if_neg (by simp [hserved']), hlist]
  show sdoServe _ (modField (fun f => { f with sdo := f.sdo.drop 1 })
    (modField (fun f => { f with sdo := f.sdo ++ [⟨addr, req, flashOk⟩] }) s)) = sdoServe _ s
  rw [hback]

theorem sdoServe_upload {addr c : Nat} {s : State} (hsess : sessionOf addr s = some c) (idx sub : Nat) (flashOk : Bool) :
    sdoServe ⟨addr, .upload idx sub, flashOk⟩ s = sdoFinish addr (sdoUpload c idx sub s) := by
  unfold sdoServe
  rw [openSession_of_open hsess]

theorem sdoServe_download {addr c : Nat} {s : State} (hsess : sessionOf addr s = some c) (idx sub : Nat) (b : List Byte) (flashOk : Bool) :
    sdoServe ⟨addr, .download idx sub b, flashOk⟩ s = sdoFinish addr (sdoDownload c idx sub b flashOk s) := by
  unfold sdoServe
  rw [openSession_of_open hsess]

theorem exec_sdoRequest_alone {addr c : Nat} {s : State} (h : SdoIdle s) (hsess : sessionOf (addr % 65536) s = some c) (req : Sdo)
    (flashOk : Bool) : exec (.sdoRequest addr req flashOk) s = .next (sdoServe ⟨addr % 65536, req, flashOk⟩ s) :=
  congrArg Host.Outcome.next (sdoArrive_alone h hsess req flashOk)

/-! ### The answer (R492) -/

theorem sdoFinish_resp (addr : Nat) (r : Resp) (u : State) : (sdoFinish addr (some r, u)).resp = r := by
  unfold sdoFinish
  dsimp only
  split <;> rfl

theorem sdoFinish_narrow (addr : Nat) (x : SdoAns) : Narrow [.resp, .sec] [] x.2 (sdoFinish addr x) :=
  (sdoFinish_within (Sub.refl _) (Within.refl _ x.2)).narrow (by decide)

theorem sdoFinish_regs (addr : Nat) (x : SdoAns) : (sdoFinish addr x).regs = x.2.regs := by
  unfold sdoFinish
  split
  · rfl
  · dsimp only
    split <;> rfl

theorem sdoFinish_field (addr : Nat) (x : SdoAns) : (sdoFinish addr x).field = x.2.field :=
  (sdoFinish_within (Sub.refl _) (Within.refl _ x.2)).field (by decide)

theorem sdoFinish_events (addr : Nat) (x : SdoAns) : (sdoFinish addr x).events = x.2.events :=
  (sdoFinish_within (Sub.refl _) (Within.refl _ x.2)).events (by decide)

/-! ### Objects written (R493, R494) -/

theorem sdoUpload_read {c idx sub k m : Nat} {d : ObjDesc} {s : State} (hfind : sdoFind idx sub = .obj d k m)
    (hmay : mayRead (roleOf (s.get (FI_SESS_ROLE c))) d idx sub = true) :
    sdoUpload c idx sub s = sdoAnswer (objRead d k m (256 * idx + sub) (some c) s).1 (objRead d k m (256 * idx + sub) (some c) s).2.1
      (objRead d k m (256 * idx + sub) (some c) s).2.2 := by
  unfold sdoUpload
  rw [hfind]
  dsimp only
  rw [if_neg (by simp [hmay])]

theorem sdoUpload_refused {c idx sub x : Nat} (hfind : sdoFind idx sub = .refuse x) (s : State) :
    sdoUpload c idx sub s = sdoRefuse .range x s := by
  unfold sdoUpload
  rw [hfind]

theorem sdoDownload_denied {c idx sub k m : Nat} {d : ObjDesc} {s : State} (hfind : sdoFind idx sub = .obj d k m)
    (hwritable : d.acc.writable = true) (hmay : mayWrite (roleOf (s.get (FI_SESS_ROLE c))) d idx sub = false) (b : List Byte) (flashOk : Bool) :
    sdoDownload c idx sub b flashOk s = sdoAnswer .denied []
      (auditRefused (sessAgent c s).role.code (256 * idx + sub) (spGet c s.sec.signer) d .denied b s) := by
  have hmay' : mayWrite (sessAgent c s).role d idx sub = false := hmay
  unfold sdoDownload
  rw [hfind]
  dsimp only
  rw [if_neg (by simp [hwritable]), if_pos (by simp [hmay'])]

theorem sdoDownload_written {c idx sub k m : Nat} {d : ObjDesc} {b : List Byte} {s : State} (hfind : sdoFind idx sub = .obj d k m)
    (hplain : isMapping idx = false ∧ isAssign idx = false) (hwritable : d.acc.writable = true)
    (hmay : mayWrite (roleOf (s.get (FI_SESS_ROLE c))) d idx sub = true) (hlen : lengthOk d b.length = true)
    (hnow : answersLate d = false) (flashOk : Bool) : sdoDownload c idx sub b flashOk s =
      sdoAnswer (objWrite (sessAgent c s) (some c) d k m (256 * idx + sub) b flashOk s).1 []
        (objWrite (sessAgent c s) (some c) d k m (256 * idx + sub) b flashOk s).2 := by
  have hmay' : mayWrite (sessAgent c s).role d idx sub = true := hmay
  unfold sdoDownload
  rw [hfind]
  dsimp only
  rw [if_neg (by simp [hwritable]), if_neg (by simp [hmay']), if_neg (by simp [hlen]), if_neg (by simp [hplain.1, hplain.2]),
    if_neg (by simp [hnow])]

/-! ### Sign-out (R490) -/

/-- The row of 0x4500:0x03. -/
def signOutRow : ObjDesc := ⟨0x4500, 1, 0x03, 1, 1, .bool, .allRW, false, .volatile, .spec .signOut⟩

theorem sdoFind_signOut : sdoFind 0x4500 0x03 = .obj signOutRow 0 0 := by decide +kernel

theorem mayWrite_signOut (r : Role) : mayWrite r signOutRow 0x4500 0x03 = true := by
  cases r <;> decide

theorem objPersist_signOut (a : Agent) (c key : Nat) (flashOk : Bool) (s : State) :
    objPersist a (some c) signOutRow 0 0 key (toBytes 1 1) flashOk s = (.done, endSession 0 c s) := by
  unfold objPersist
  rw [if_pos (Or.inl (by decide))]
  rfl

theorem role_code_of_lt_two {n : Nat} (h : n < 2) : (roleOf n).code < 2 := by
  interval_cases n <;> decide

/-- A sign-out ends the session, and is audited for installer and maker. -/
theorem objWrite_signOut {c key : Nat} {s : State}
    (h : s.get (FI_SESS_ROLE c) < 2 ∨ (domOn 93 s = true ∧ audBusy s = false)) :
    (objWrite (sessAgent c s) (some c) signOutRow 0 0 key (toBytes 1 1) true s).1 = .done ∧
      Within 0x200000000000000000000001400000 (endSession 0 c s)
        (objWrite (sessAgent c s) (some c) signOutRow 0 0 key (toBytes 1 1) true s).2 := by
  unfold objWrite
  dsimp only
  split
  · rename_i haudit
    rcases h with h | ⟨hon, hfree⟩
    · have hrole : (sessAgent c s).role.code < 2 := role_code_of_lt_two h
      rw [Bool.and_eq_true] at haudit
      exact absurd haudit.2 (by unfold audited; rw [decide_eq_false (by omega)]; simp)
    · unfold auditWrite
      rw [if_neg (by simp [hon]), if_neg (by simp [hfree]), objPersist_signOut]
      exact ⟨rfl, audAppend_within (Sub.refl _) (Within.refl _ _)⟩
  · rw [objPersist_signOut]
    exact ⟨rfl, Within.refl _ _⟩

theorem exec_signOut_alone {addr c : Nat} {s : State} (h : SdoIdle s) (hsess : sessionOf (addr % 65536) s = some c) :
    exec (.signOut addr) s = .next (sdoFinish (addr % 65536) (sdoAnswer
      (objWrite (sessAgent c s) (some c) signOutRow 0 0 (256 * 0x4500 + 0x03) (toBytes 1 1) true s).1 []
      (objWrite (sessAgent c s) (some c) signOutRow 0 0 (256 * 0x4500 + 0x03) (toBytes 1 1) true s).2)) := by
  show ok (sdoArrive (addr % 65536) (.download 0x4500 0x03 (toBytes 1 1)) true s) = _
  rw [sdoArrive_alone h hsess, sdoServe_download hsess,
    sdoDownload_written sdoFind_signOut ⟨by decide, by decide⟩ (by decide) (mayWrite_signOut _) (by decide) (by decide)]
  rfl

/-! ### Restore defaults (R496) -/

theorem exec_restoreDefaults_im {a : Agent} {s : State} (ha : a.init = 49 ∧ a.im = true) (hon : domOn 93 s = true)
    (hfree : audBusy s = false) : ∃ body, exec (.restoreDefaults a 0x64616F6C) s =
      .next (answer .done (audAppend body { s with field := { s.field with saved := [] } })) := by
  show ∃ body, ok (answered (objIM a (fun t => auditWrite a.role.code 0x101101 (signerOf a t) (toBytes 4 0x64616F6C) (objRestore 0x64616F6C) t) s)) =
    .next (answer .done (audAppend body { s with field := { s.field with saved := [] } }))
  unfold objIM auditWrite
  rw [if_pos (by simp [ha.1, ha.2])]
  dsimp only
  rw [if_neg (by simp [hon]), if_neg (by simp [hfree])]
  exact ⟨_, rfl⟩

/-! ### Process data (R500, R501) -/

theorem inDuty_of_some {d k : Nat} {p : Nat → Bool} {s : State} (h : dutySlot d p s = some k) (f : State → Out) :
    inDuty d p s f = f (inSlot k s) := by
  unfold inDuty
  rw [h]
  rfl

theorem dutySlot_pred {d k : Nat} {p : Nat → Bool} {s : State} (h : dutySlot d p s = some k) : p k = true := by
  have hfound := List.find?_some h
  exact (Bool.and_eq_true_iff.1 hfound).2

/-- The image `b` is being applied, from its first entry on. -/
def imageTaken (b : List Byte) (s : State) : State :=
  { s with field := { s.field with rx := some (b, 0), sm2 := none, rxTaken := true } }

/-- The newest image is taken in a slot from 32 on. -/
theorem rxTake_of_new {b : List Byte} {s : State} (hrx : s.field.rx = none) (htaken : s.field.rxTaken = false)
    (hsm2 : s.field.sm2 = some b) (hslot : 32 ≤ s.clock.slot) :
    rxTake s = imageTaken b s := by
  unfold rxTake imageTaken
  rw [if_neg (by simp [hrx, htaken]; omega)]
  unfold modField
  dsimp only
  rw [hsm2]
  rfl

/-- An entry whose value is new, of an object that the mapping role may write, is a write of the object. -/
theorem rxEntry_written {img at_ e lo k m : Nat} {d : ObjDesc} {s : State} (hgap : e / 65536 ≠ 0)
    (hfind : findObj (e / 65536) (e / 256 % 256) = some (d, k, m)) (hnew : spGet at_ s.field.rxLast ≠ bits img lo (e % 256) + 1)
    (hmay : d.acc.writes (roleOf s.field.mapRole) = true) : rxEntry img at_ e lo s =
      { (objWrite ⟨49, roleOf s.field.mapRole⟩ none d k m (e / 256) (toBytes d.size (bits img lo (e % 256))) true
          { s with field := { s.field with rxLast := spSet at_ (bits img lo (e % 256) + 1) s.field.rxLast } }).2 with resp := s.resp } := by
  unfold rxEntry
  dsimp only
  rw [if_neg (not_or.2 ⟨hgap, hnew⟩), hfind]
  exact if_pos hmay

theorem rxStep_last {b : List Byte} {e : Nat} {s t : State} (hmap : assigned 0x1C12 s = [e]) (htake : rxTake s = t)
    (hrx : t.field.rx = some (b, 0)) : rxStep s = modField (fun f => { f with rx := none }) (rxEntry (ofBytes b) 0 e 0 t) := by
  unfold rxStep
  rw [hmap, htake]
  dsimp only
  rw [hrx]
  rfl

/-! ### The statement -/

/-- Settles O41: each clause is the one way in which its command goes where its condition holds. -/
theorem fieldCommandsComplete : Obligations.FieldCommandsComplete := by
  unfold Obligations.FieldCommandsComplete
  refine ⟨?link, ?accepted, ?refused, ?op, ?preOp, ?waits, ?watchdog, ?unserved, ?full, ?upload, ?unknown, ?denied, ?download, ?signOut,
    ?idle, ?restore, ?image, ?publish, ?apply, ?noSlot⟩
  case link =>
    intro port up s hs
    have hval : (if up && oscillatorStarted s then 1 else 0) % 2 ^ 1 = if up && oscillatorStarted s then 1 else 0 := by
      split <;> rfl
    by_cases hp : port.val = 0
    · have he : exec (.ecatPortLink port up) s = .next (s.set FI_STAT_LINK0 (if up && oscillatorStarted s then 1 else 0)) := by
        show ok (s.set (if port.val = 0 then _ else _) _) = _
        rw [if_pos hp]
        rfl
      refine ⟨_, he, ?_, ?_, (Narrow.refl _ _ s).set (by simp) _⟩
      · rw [if_pos hp]
        exact (get_set_self FI_STAT_LINK0 _ hs.rising).trans hval
      · rw [if_pos hp]
        exact get_set_of_ne s (by decide) _
    · have he : exec (.ecatPortLink port up) s = .next (s.set FI_STAT_LINK1 (if up && oscillatorStarted s then 1 else 0)) := by
        show ok (s.set (if port.val = 0 then _ else _) _) = _
        rw [if_neg hp]
        rfl
      refine ⟨_, he, ?_, ?_, (Narrow.refl _ _ s).set (by simp) _⟩
      · rw [if_neg hp]
        exact get_set_of_ne s (by decide) _
      · rw [if_neg hp]
        exact (get_set_self FI_STAT_LINK1 _ hs.rising).trans hval
  case accepted =>
    intro target mbxOk sync0Ok s hs hnow hne hcheck
    obtain ⟨hstate, herr⟩ := alDecide_enters hs.rising hcheck hne
    exact ⟨_, exec_alStateRequest_decided hnow mbxOk sync0Ok, hstate, herr,
      (alDecide_within (Sub.refl _) (Within.refl _ s)).frame (by decide)⟩
  case refused =>
    intro target mbxOk sync0Ok s hs hnow hcheck
    exact ⟨_, exec_alStateRequest_decided hnow mbxOk sync0Ok, alDecide_keeps hs.rising hcheck⟩
  case op =>
    intro mbxOk sync0Ok s hs hsafe
    have hcheck := alCheck_op hsafe mbxOk sync0Ok
    refine ⟨_, exec_alStateRequest_decided (Or.inl (by decide)) mbxOk sync0Ok, ?_⟩
    cases hseen : s.field.sm2Seen with
    | true =>
      rw [hseen] at hcheck
      exact (alDecide_enters hs.rising hcheck (by rw [hsafe]; decide)).1
    | false =>
      rw [hseen] at hcheck
      exact (alDecide_keeps hs.rising (by rw [hcheck]; decide)).1.trans hsafe
  case preOp =>
    intro mbxOk sync0Ok s hs hinit hready
    have hcheck := alCheck_preOp hinit mbxOk sync0Ok
    refine ⟨_, exec_alStateRequest_decided (Or.inr (Or.inr hready)) mbxOk sync0Ok, ?_⟩
    cases mbxOk with
    | true => exact (alDecide_enters hs.rising hcheck (by rw [hinit]; decide)).1
    | false => exact (alDecide_keeps hs.rising (by rw [hcheck]; decide)).1.trans hinit
  case waits =>
    intro mbxOk sync0Ok s _ hinit hready
    have he : exec (.alStateRequest 2 mbxOk sync0Ok) s =
        .next (modField (fun f => { f with alPend := some (2, mbxOk, sync0Ok) }) s) := by
      show ok (if _ then _ else _) = _
      rw [if_pos ⟨rfl, hinit, by simp [State.on, hready]⟩]
      rfl
    exact ⟨_, he, rfl, (modField_within (Sub.refl _) (Within.refl _ s)).narrow (by decide)⟩
  case watchdog =>
    intro s hs hop
    have he : exec .smWatchdogExpiry s = .next (raise 0x1206 [frameItem s] ((alEnter 4 s).set FI_STAT_AL_CODE 0x001B)) :=
      whenOk_of (by simp [hop]) s _
    have hframe := (execSmWatchdogExpiry_within (Sub.refl _) (Within.refl _ s)).of_next he
    have hrising : Sparse.Rising (alEnter 4 s).regs :=
      (show Within anywhere s (alEnter 4 s) from alEnter_within (by decide) (Within.refl _ s)).rising hs
    refine ⟨_, he, ?_, ?_, ?_, raises_of_raise ?_ rfl, hframe.frame (by decide)⟩
    · rw [get_raise, get_set_of_ne _ (by decide)]
      exact alEnter_alState hs.rising (by decide)
    · rw [get_raise, get_set_self _ _ hrising]
      rfl
    · rw [raise_field]
      rfl
    · rw [get_set_of_ne _ (by decide)]
      exact (alEnter_within (Sub.refl _) (Within.refl _ s)).get (by decide)
  case unserved =>
    intro addr req flashOk c s _ hopen hunserved hsess hheld
    have he : exec (.sdoRequest addr req flashOk) s = .next _ :=
      congrArg Host.Outcome.next (sdoArrive_unserved hopen hunserved hsess hheld req flashOk)
    exact ⟨_, he, rfl, (modField_within (Sub.refl _) (Within.refl _ s)).narrow (by decide)⟩
  case full =>
    intro addr req flashOk c s hs hopen hsess hheld
    have he : exec (.sdoRequest addr req flashOk) s = .next _ :=
      congrArg Host.Outcome.next ((sdoArrive_of_open (req := req) (flashOk := flashOk) hopen hsess).trans (if_pos hheld))
    obtain ⟨u, hu⟩ : ∃ u, u = raise 0x1203 [⟨2, addr % 65536⟩] (s.count FI_SDO_RETRIED 1) := ⟨_, rfl⟩
    have hcounted : Narrow [.resp, .sec, .events, .trace] [FI_SDO_RETRIED] s u := by
      rw [hu]
      exact Narrow.raise ((Narrow.refl _ _ s).set (by simp) _) (by simp) _ _
    have hget : u.get FI_SDO_RETRIED = min (s.get FI_SDO_RETRIED + 1) 65535 := by
      rw [hu, get_raise]
      exact get_count_self FI_SDO_RETRIED 1 hs.rising
    rw [← hu] at he
    refine ⟨_, he, rfl, hget, ?_, ?_, ?_⟩
    · show u.field = s.field
      rw [hu, raise_field]
      rfl
    · exact raises_of_raise (items := [⟨2, addr % 65536⟩]) (t := s.count FI_SDO_RETRIED 1) (get_set_of_ne s (by decide) _)
        (show u.events = _ from congrArg State.events hu)
    · exact hcounted.trans ((Within.resp_ (A := 0x1000001) (by decide) (Within.sec_ (by decide) (Within.refl _ _))).narrow (by decide))
  case upload =>
    intro addr idx sub flashOk c k m d s _ hidle hsess hfind hmay
    have he := exec_sdoRequest_alone hidle hsess (.upload idx sub) flashOk
    rw [sdoServe_upload hsess, sdoUpload_read hfind hmay] at he
    refine ⟨_, he, ?_, ?_, sdoFinish_field _ _, sdoFinish_regs _ _⟩
    · rw [sdoAnswer, sdoFinish_resp]
    · rw [sdoAnswer, sdoFinish_resp]
  case unknown =>
    intro addr idx sub flashOk c x s _ hidle hsess hfind
    have he := exec_sdoRequest_alone hidle hsess (.upload idx sub) flashOk
    rw [sdoServe_upload hsess, sdoUpload_refused hfind] at he
    exact ⟨_, he, sdoFinish_resp _ _ _, sdoFinish_narrow _ (sdoRefuse .range x s)⟩
  case denied =>
    intro addr idx sub b flashOk c k m d s _ hidle hsess hfind hwritable hmay
    have he := exec_sdoRequest_alone hidle hsess (.download idx sub b) flashOk
    rw [sdoServe_download hsess, sdoDownload_denied hfind hwritable hmay] at he
    refine ⟨_, he, ?_, (sdoFinish_within (A := 0x200000000000000000000001400001) (by decide)
      (auditRefused_within (by decide) (Within.refl _ s))).frame (by decide)⟩
    rw [sdoAnswer, sdoFinish_resp]
  case download =>
    intro addr idx sub b flashOk c k m d s _ hidle hsess hfind hplain hwritable hmay hlen hnow
    have he := exec_sdoRequest_alone hidle hsess (.download idx sub b) flashOk
    rw [sdoServe_download hsess, sdoDownload_written hfind hplain hwritable hmay hlen hnow] at he
    refine ⟨_, he, ?_, sdoFinish_regs _ _, sdoFinish_field _ _⟩
    rw [sdoAnswer, sdoFinish_resp]
  case signOut =>
    intro addr c s hs hidle hsess haudit
    have he := exec_signOut_alone hidle hsess
    obtain ⟨hdone, hafter⟩ := objWrite_signOut (key := 256 * 0x4500 + 0x03) haudit
    have hover := endSession_of_open hs.rising (sessionOf_on hsess) 0
    have hend : Within 0x120000000000000000000000140000D s
        (objWrite (sessAgent c s) (some c) signOutRow 0 0 (256 * 0x4500 + 0x03) (toBytes 1 1) true s).2 :=
      (endSession_within (by decide) (Within.refl _ s)).trans (hafter.mono (by decide))
    have hget (f : Fld) (hf : winBit f.key = 120) : (sdoFinish (addr % 65536) (sdoAnswer
        (objWrite (sessAgent c s) (some c) signOutRow 0 0 (256 * 0x4500 + 0x03) (toBytes 1 1) true s).1 []
        (objWrite (sessAgent c s) (some c) signOutRow 0 0 (256 * 0x4500 + 0x03) (toBytes 1 1) true s).2)).get f =
          (endSession 0 c s).get f :=
      (get_congr (sdoFinish_regs _ _) f).trans (hafter.get (by rw [hf]; decide))
    refine ⟨_, he, ?_, ?_, ?_, ?_, ?_⟩
    · rw [sdoAnswer, sdoFinish_resp]
      exact hdone
    · rw [hget _ (FI_SESS_OPEN_win c), hover.isOpen]
    · rw [hget _ (FI_SESS_ROLE_win c), hover.role]
    · have hevents : (sdoFinish (addr % 65536) (sdoAnswer
          (objWrite (sessAgent c s) (some c) signOutRow 0 0 (256 * 0x4500 + 0x03) (toBytes 1 1) true s).1 []
          (objWrite (sessAgent c s) (some c) signOutRow 0 0 (256 * 0x4500 + 0x03) (toBytes 1 1) true s).2)).events =
            (endSession 0 c s).events :=
        (sdoFinish_events _ _).trans (hafter.events (by decide))
      unfold Raises
      rw [hevents]
      exact hover.raises
    · exact (sdoFinish_within (by decide) hend).frame (by decide)
  case idle =>
    intro addr c s hs hsess
    have he : exec (.sessionIdleTimeout addr) s = .next (endSession 1 c s) := by
      show execSessionIdleTimeout addr s = _
      unfold execSessionIdleTimeout
      rw [hsess]
      rfl
    have hover := endSession_of_open hs.rising (sessionOf_on hsess) 1
    exact ⟨_, he, hover.isOpen, hover.role, hover.raises, (endSession_within (Sub.refl _) (Within.refl _ s)).frame (by decide)⟩
  case restore =>
    intro a value s _ ha hvalue hfree
    subst hvalue
    obtain ⟨body, he⟩ := exec_restoreDefaults_im ha hfree.1 hfree.2
    have hframe := (execRestoreDefaults_within (Sub.refl _) (Within.refl _ s)).of_next he
    have hfield : (audAppend body { s with field := { s.field with saved := [] } }).field = { s.field with saved := [] } :=
      (audAppend_within (Sub.refl _) (Within.refl _ { s with field := { s.field with saved := [] } })).field (by decide)
    refine ⟨_, he, rfl, ?_, hframe.frame (by decide)⟩
    rw [answer_field, hfield]
  case image =>
    intro image s _ hstate hlen
    have he : exec (.sm2ImageWrite image) s = .next (modField (fun f => { f with sm2 := some image, sm2Seen := true }) s) :=
      whenOk_of (by rw [hlen]; rcases hstate with h | h <;> simp [h]) s _
    exact ⟨_, he, rfl, (modField_within (Sub.refl _) (Within.refl _ s)).narrow (by decide)⟩
  case publish =>
    intro k s _ hslot hdue hstate
    have he : exec .txpdoPublish s = .next
        { modField (fun f => { f with tx := txImage (inSlot k s) }) (inSlot k s) with clock := { (inSlot k s).clock with processDue := false } } := by
      show execTxpdoPublish s = _
      unfold execTxpdoPublish
      rw [inDuty_of_some hslot]
      have hstate' : (inSlot k s).get FI_STAT_AL_STATE = 4 ∨ (inSlot k s).get FI_STAT_AL_STATE = 8 := hstate
      have hdue' : (inSlot k s).clock.processDue = true := hdue
      exact whenOk_of (by rw [hdue']; rcases hstate' with h | h <;> simp [h]) _ _
    exact ⟨_, he, rfl, rfl, (Within.clock_ (A := 0x10000040) (by decide) (modField_within (by decide)
      (Within.clock_ (by decide) (Within.refl _ s)))).narrow (by decide)⟩
  case apply =>
    intro j b e k m d s _ hslot hop hrx hmap hobj hnew hmay
    obtain ⟨hgap, hfind⟩ := hobj
    dsimp only
    have hj : 32 ≤ j := by
      have hpred := dutySlot_pred hslot
      unfold rxSlot at hpred
      simpa [hrx.1, hrx.2.1] using hpred
    have htake := rxTake_of_new (s := inSlot j s) (b := b) hrx.1 hrx.2.1 hrx.2.2 hj
    have he : exec (.rxpdoApply 1) s = .next (rxStep (inSlot j s)) := by
      show execRxpdoApply 1 s = _
      unfold execRxpdoApply
      rw [inDuty_of_some hslot]
      have hop' : (inSlot j s).get FI_STAT_AL_STATE = 8 := hop
      exact whenOk_of (by simp [hop']) _ _
    rw [rxStep_last (s := inSlot j s) hmap htake rfl, rxEntry_written (s := imageTaken b (inSlot j s)) hgap hfind hnew hmay] at he
    exact ⟨_, he, rfl, rfl, rfl⟩
  case noSlot =>
    intro entries s _ hslot
    have he : execRxpdoApply entries s = .next s := inDuty_of_noSlot (by rw [hslot]; rfl) _
    exact ⟨s, he, Narrow.refl _ _ s⟩

end Sys2Proof.Machine
end

section
/-! SUPPORT. The HBM controller (chapter 15): its commands. -/
namespace Sys2Proof.Machine

/-! ### A register written whole -/

/-- A field that is set by writing 1 keeps what it has and gains what the value says. -/
theorem get_writeFlds_w1s {f : Fld} {l : List (Acc × Fld)} (hl : l.Pairwise (fun p q => p.2.key ≠ q.2.key)) (hf : (.w1s, f) ∈ l) (v : Nat)
    {s : State} (hs : Sparse.Rising s.regs) : (writeFlds l v s).get f = Nat.lor (s.get f) (f.of v) % 2 ^ f.width := by
  induction l generalizing s with
  | nil => exact absurd hf List.not_mem_nil
  | cons p l ih =>
    obtain ⟨hp, hl⟩ := List.pairwise_cons.1 hl
    rcases List.mem_cons.1 hf with rfl | hf
    · exact (get_writeFlds_of_ne hp v _).trans (get_set_self f _ hs)
    · exact (ih hl hf (rising_writeFld p.1 p.2 v hs)).trans (by rw [get_writeFld_of_ne p.1 (hp _ hf).symm])

/-! ### Lines checked (R352, R353) -/

/-- Corrected words counted: in the controller's part only the count of the frame changes. -/
structure WordsCorrected (n : Nat) (s t : State) : Prop where
  hbm : ∃ k, t.hbm = { s.hbm with corrFrame := k }
  corr : t.get HBM_ECC_STAT_CORR = min (s.get HBM_ECC_STAT_CORR + n) 65535

theorem hbmCorr1_corrected {s : State} (hs : Sparse.Rising s.regs) : WordsCorrected 1 s (hbmCorr1 s) := by
  have hcount := get_count_self HBM_ECC_STAT_CORR 1 hs
  unfold hbmCorr1
  dsimp only
  split
  · refine ⟨⟨s.hbm.corrFrame + 1, by rw [raise_hbm]; rfl⟩, ?_⟩
    rw [get_raise, get_set_of_ne _ (by decide), get_set_of_ne _ (by decide)]
    exact hcount
  · refine ⟨⟨s.hbm.corrFrame + 1, rfl⟩, ?_⟩
    rw [get_set_of_ne _ (by decide)]
    exact hcount

theorem rising_hbmCorr1 {s : State} (hs : Sparse.Rising s.regs) : Sparse.Rising (hbmCorr1 s).regs := by
  unfold hbmCorr1
  dsimp only
  split
  · rw [raise_regs]
    exact rising_set _ _ (rising_set _ _ (rising_set _ _ hs))
  · exact rising_set _ _ (rising_set _ _ hs)

theorem hbmCorr_corrected (n : Nat) {s : State} (hs : Sparse.Rising s.regs) : WordsCorrected n s (hbmCorr n s) := by
  have hfold : ∀ (l : List Nat) {s : State}, Sparse.Rising s.regs →
      WordsCorrected l.length s (l.foldl (fun t _ => hbmCorr1 t) s) := by
    intro l
    induction l with
    | nil =>
      intro s _
      have hlt : s.get HBM_ECC_STAT_CORR < 2 ^ 16 := regGet_lt HBM_ECC_STAT_CORR s.regs
      refine ⟨⟨s.hbm.corrFrame, rfl⟩, ?_⟩
      rw [List.foldl_nil, List.length_nil]
      omega
    | cons i l ih =>
      intro s hs
      obtain ⟨⟨k, hk⟩, hone⟩ := hbmCorr1_corrected hs
      obtain ⟨⟨j, hj⟩, hrest⟩ := ih (rising_hbmCorr1 hs)
      refine ⟨⟨j, ?_⟩, ?_⟩
      · rw [List.foldl_cons, hj, hk]
      · rw [List.foldl_cons, hrest, hone, List.length_cons]
        omega
  have h := hfold (List.range n) hs
  rw [List.length_range] at h
  exact h

/-- What the scrubber leaves of a line without a double-bit error. -/
structure LineCorrected (line : Nat) (s t : State) : Prop where
  mem : t.hbm.mem = s.hbm.mem
  dbl : t.hbm.dbl = s.hbm.dbl
  sgl : t.hbm.sgl = spDel line s.hbm.sgl
  log : t.hbm.log = s.hbm.log
  corr : t.get HBM_ECC_STAT_CORR = min (s.get HBM_ECC_STAT_CORR + popCount 8 (spGet line s.hbm.sgl)) 65535

theorem openRow_log (a : Nat) (s : State) : (openRow a s).hbm.log = s.hbm.log := by
  unfold openRow
  dsimp only
  split <;> rfl

theorem scrubLine_good {line found : Nat} {s : State} (hs : Sparse.Rising s.regs) (h : spGet line s.hbm.dbl = 0) :
    LineCorrected line s (scrubLine line found s) := by
  have hopen := openRow_sameLines (64 * line) s
  have hrising : Sparse.Rising (openRow (64 * line) s).regs := by rw [hopen.regs]; exact hs
  have hscrub : scrubLine line found s = hbmCorr (popCount 8 (spGet line (openRow (64 * line) s).hbm.sgl))
      { openRow (64 * line) s with hbm := { (openRow (64 * line) s).hbm with sgl := spDel line (openRow (64 * line) s).hbm.sgl } } :=
    if_neg (by rw [hopen.dbl, h]; simp)
  obtain ⟨⟨k, hk⟩, hcorr⟩ := hbmCorr_corrected (popCount 8 (spGet line (openRow (64 * line) s).hbm.sgl))
    (s := { openRow (64 * line) s with hbm := { (openRow (64 * line) s).hbm with sgl := spDel line (openRow (64 * line) s).hbm.sgl } }) hrising
  rw [← hscrub] at hk hcorr
  refine ⟨?_, ?_, ?_, ?_, ?_⟩
  · rw [hk]
    exact hopen.mem
  · rw [hk]
    exact hopen.dbl
  · rw [hk]
    exact congrArg (spDel line) hopen.sgl
  · rw [hk]
    exact openRow_log _ s
  · rw [hcorr, ← hopen.sgl]
    exact congrArg (fun x => min (x + _) 65535) (hopen.get HBM_ECC_STAT_CORR)

/-- What the check of an uncorrectable line leaves. -/
structure LineCounted (line found src : Nat) (s t : State) : Prop where
  mem : t.hbm.mem = s.hbm.mem
  dbl : t.hbm.dbl = s.hbm.dbl
  sgl : t.hbm.sgl = s.hbm.sgl
  log : s.hbm.log.length < 16 → t.hbm.log = s.hbm.log ++ [found * 2 ^ 62 + src * 2 ^ 56 + 2 ^ 34 + line * 2 ^ 6]
  uncorr : t.get HBM_ECC_STAT_UNCORR = min (s.get HBM_ECC_STAT_UNCORR + 1) 65535
  raises : Raises 0x0C02 s t

theorem imageMarkOff_hbm (line : Nat) (s : State) : (imageMarkOff line s).hbm = s.hbm :=
  (imageMarkOff_within (Sub.refl _) (Within.refl _ s)).hbm (by decide)

theorem get_imageMarkOff {f : Fld} (hf : Nat.testBit 0x20000000000000 (winBit f.key) = false) (line : Nat) (s : State) :
    (imageMarkOff line s).get f = s.get f :=
  (imageMarkOff_within (Sub.refl _) (Within.refl _ s)).get hf

/-- An uncorrectable line: counted, its image's mark cleared, its sign noted, its entry logged. -/
theorem hbmUncorr_eq (line found src : Nat) (s : State) : ∃ t : State, t.hbm = { s.hbm with uncorrTotal := s.hbm.uncorrTotal + 1 } ∧
    t.regs = (imageMarkOff line (s.count HBM_ECC_STAT_UNCORR 1)).regs ∧
    hbmUncorr line found src s = raise 0x0C02 [⟨4, line⟩, ⟨1, found⟩, ⟨1, src⟩]
      (if t.hbm.log.length < 16 then
        { t with hbm := { t.hbm with log := t.hbm.log ++ [found * 2 ^ 62 + src * 2 ^ 56 + 2 ^ 34 + line * 2 ^ 6] } }
      else t.count HBM_ECC_STAT_LOST 1) := by
  refine ⟨noteSign 6 (32768 * hbmBank (64 * line) (imageMarkOff line (s.count HBM_ECC_STAT_UNCORR 1)) + hbmRow (64 * line))
    { imageMarkOff line (s.count HBM_ECC_STAT_UNCORR 1) with hbm := { (imageMarkOff line (s.count HBM_ECC_STAT_UNCORR 1)).hbm with
      uncorrTotal := (imageMarkOff line (s.count HBM_ECC_STAT_UNCORR 1)).hbm.uncorrTotal + 1 } }, ?_, rfl, rfl⟩
  show ({ (imageMarkOff line (s.count HBM_ECC_STAT_UNCORR 1)).hbm with
    uncorrTotal := (imageMarkOff line (s.count HBM_ECC_STAT_UNCORR 1)).hbm.uncorrTotal + 1 } : HbmSt) = _
  rw [imageMarkOff_hbm]
  rfl

theorem hbmUncorr_counted (line found src : Nat) {s : State} (hs : Sparse.Rising s.regs) :
    LineCounted line found src s (hbmUncorr line found src s) := by
  obtain ⟨t, hhbm, hregs, heq⟩ := hbmUncorr_eq line found src s
  have huncorr : t.get HBM_ECC_STAT_UNCORR = min (s.get HBM_ECC_STAT_UNCORR + 1) 65535 := by
    rw [get_congr hregs, get_imageMarkOff (by decide)]
    exact get_count_self HBM_ECC_STAT_UNCORR 1 hs
  have hready : t.get BOOT_STAT_READY = s.get BOOT_STAT_READY := by
    rw [get_congr hregs, get_imageMarkOff (by decide)]
    exact get_set_of_ne s (by decide) _
  rw [heq]
  by_cases hroom : t.hbm.log.length < 16
  · rw [if_pos hroom]
    refine ⟨?_, ?_, ?_, fun _ => ?_, ?_, raises_of_raise (by exact hready) rfl⟩
    · rw [raise_hbm, hhbm]
    · rw [raise_hbm, hhbm]
    · rw [raise_hbm, hhbm]
    · rw [raise_hbm, hhbm]
    · rw [get_raise]
      exact huncorr
  · rw [if_neg hroom]
    refine ⟨?_, ?_, ?_, fun h => absurd (by rw [hhbm]; exact h) hroom, ?_, raises_of_raise ?_ rfl⟩
    · rw [raise_hbm, count_hbm, hhbm]
    · rw [raise_hbm, count_hbm, hhbm]
    · rw [raise_hbm, count_hbm, hhbm]
    · rw [get_raise]
      exact (get_set_of_ne t (by decide) _).trans huncorr
    · exact (get_set_of_ne t (by decide) _).trans hready

theorem LineCounted.after {line found src : Nat} {s t u : State} (h : LineCounted line found src t u) (g : SameLines s t)
    (hlog : t.hbm.log = s.hbm.log) : LineCounted line found src s u := by
  have hon : t.on BOOT_STAT_READY = s.on BOOT_STAT_READY := congrArg (· != 0) (g.get BOOT_STAT_READY)
  refine ⟨h.mem.trans g.mem, h.dbl.trans g.dbl, h.sgl.trans g.sgl, fun hroom => ?_, ?_, ?_⟩
  · rw [h.log (by rw [hlog]; exact hroom), hlog]
  · rw [h.uncorr, g.get]
  · have hraises := h.raises
    unfold Raises at hraises ⊢
    rwa [hon] at hraises

theorem scrubLine_bad {line found : Nat} {s : State} (hs : Sparse.Rising s.regs) (h : spGet line s.hbm.dbl ≠ 0) :
    LineCounted line found 0 s (scrubLine line found s) := by
  have hopen := openRow_sameLines (64 * line) s
  have hscrub : scrubLine line found s = hbmUncorr line found 0 (openRow (64 * line) s) := if_pos (by rw [hopen.dbl]; exact h)
  rw [hscrub]
  exact (hbmUncorr_counted line found 0 (by rw [hopen.regs]; exact hs)).after hopen (openRow_log _ s)

/-! ### The scrubber (R352, R355) -/

theorem takeLines_log (c n : Nat) (s : State) : (takeLines c n s).hbm.log = s.hbm.log := by
  unfold takeLines
  dsimp only
  split <;> rfl

/-- The scrubber's step where it may work: the line is checked, its bytes count as moved, and the scrubber goes on. -/
theorem exec_hbmScrubLine_of_admitted {s : State} (hready : s.get HBM_STAT_STATE = hbmReady) (hrate : s.get HBM_ECC_CTL_SCRUB_RATE ≠ 0)
    (hadmits : hbmAdmits 3 1 s = true) : ∃ t, exec (.hbmScrubLine none) s = .next t ∧ t.hbm.scrubAt = nextScrub s.hbm.scrubAt ∧
      t.hbm.mem = (scrubLine s.hbm.scrubAt 2 s).hbm.mem ∧ t.hbm.dbl = (scrubLine s.hbm.scrubAt 2 s).hbm.dbl ∧
      t.hbm.sgl = (scrubLine s.hbm.scrubAt 2 s).hbm.sgl ∧ t.hbm.log = (scrubLine s.hbm.scrubAt 2 s).hbm.log ∧
      t.regs = (scrubLine s.hbm.scrubAt 2 s).regs ∧ t.events = (scrubLine s.hbm.scrubAt 2 s).events := by
  have htake := takeLines_sameLines 3 1 (scrubLine s.hbm.scrubAt 2 s)
  have hevents : (takeLines 3 1 (scrubLine s.hbm.scrubAt 2 s)).events = (scrubLine s.hbm.scrubAt 2 s).events := by rw [htake.rest]
  exact ⟨_, whenOk_of (by simp [hready, hrate, hadmits]) s _, rfl, htake.mem, htake.dbl, htake.sgl, takeLines_log _ _ _, htake.regs, hevents⟩

theorem exec_hbmScrubLine_frame {s t : State} (h : exec (.hbmScrubLine none) s = .next t) :
    Frame [.events, .trace, .hbm, .leap] [.loader, .hbmEcc] s t := by
  have hwithin : OutWithin 0x200000002000000800080C s (execHbmScrubLine none s) :=
    execHbmScrubLine_within (Sub.refl _) (Within.refl _ s)
  exact (hwithin.of_next h).frame (by decide)

/-! ### A range pass (R356) -/

theorem scrubLine_keeps (line found : Nat) {s : State} (hs : Sparse.Rising s.regs) :
    (scrubLine line found s).hbm.mem = s.hbm.mem ∧ (scrubLine line found s).hbm.dbl = s.hbm.dbl := by
  by_cases h : spGet line s.hbm.dbl = 0
  · have hgood := scrubLine_good (found := found) hs h
    exact ⟨hgood.mem, hgood.dbl⟩
  · have hbad := scrubLine_bad (found := found) hs h
    exact ⟨hbad.mem, hbad.dbl⟩

theorem scrubLines_keep (l : List Nat) (found : Nat) {s : State} (hs : Sound s) :
    Sound (forEach l (fun x t => scrubLine x found t) s) ∧ (forEach l (fun x t => scrubLine x found t) s).hbm.mem = s.hbm.mem ∧
      (forEach l (fun x t => scrubLine x found t) s).hbm.dbl = s.hbm.dbl := by
  unfold forEach
  induction l generalizing s with
  | nil => exact ⟨hs, rfl, rfl⟩
  | cons x l ih =>
    have hw : Within anywhere s (scrubLine x found s) := scrubLine_within (by decide) (Within.refl _ s)
    obtain ⟨hmem, hdbl⟩ := scrubLine_keeps x found hs.rising
    obtain ⟨hsound, hmems, hdbls⟩ := ih (hw.sound hs)
    exact ⟨hsound, hmems.trans hmem, hdbls.trans hdbl⟩

/-- The grant of a purpose that is given up at the end of its use. -/
def grantOver (purpose : Nat) (s : State) : State :=
  match entryFor purpose s with
  | some k => sluEnd k s
  | none => s

theorem grantOver_within (purpose : Nat) (s : State) : Within 0x180060000000011C s (grantOver purpose s) := by
  unfold grantOver
  split
  · exact sluEnd_within (Sub.refl _) (Within.refl _ s)
  · exact Within.refl _ s

/-- What the end of a pass leaves. -/
structure RangePassOver (s t : State) : Prop where
  go : t.get HBM_PASS_GO = 0
  lines : t.get HBM_PASS_SUM_LINES = 64 * s.hbm.passCount % 2 ^ 32
  mem : t.hbm.mem = s.hbm.mem
  dbl : t.hbm.dbl = s.hbm.dbl

/-- The end of a pass in terms of the state that its lines leave. -/
theorem passEnd_eq (s : State) : ∃ (unc cor : Nat) (items : State → List EvItem) (t : State),
    SameLines (forEach (badLines (64 * s.hbm.passFirst) (64 * s.hbm.passFirst + 64 * s.hbm.passCount) s) (fun x t => scrubLine x 3 t) s) t ∧
    passEnd s = grantOver forHbmPass (raise 0x0C06
      (items (((t.set HBM_PASS_SUM_UNCORR unc).set HBM_PASS_SUM_CORR cor).set HBM_PASS_SUM_LINES (64 * s.hbm.passCount)))
      ((((t.set HBM_PASS_SUM_UNCORR unc).set HBM_PASS_SUM_CORR cor).set HBM_PASS_SUM_LINES (64 * s.hbm.passCount)).set HBM_PASS_GO 0)) :=
  ⟨_, _, fun u => [⟨8, readFlds HBM_PASS_SUM_fields u⟩], _, takeLines_sameLines _ _ _, rfl⟩

theorem passEnd_over {s : State} (hs : Sound s) : RangePassOver s (passEnd s) := by
  obtain ⟨unc, cor, items, t, hlines, heq⟩ := passEnd_eq s
  obtain ⟨hsound, hmem, hdbl⟩ := scrubLines_keep
    (badLines (64 * s.hbm.passFirst) (64 * s.hbm.passFirst + 64 * s.hbm.passCount) s) 3 hs
  have hrising : Sparse.Rising ((t.set HBM_PASS_SUM_UNCORR unc).set HBM_PASS_SUM_CORR cor).regs :=
    rising_set _ _ (rising_set _ _ (by rw [hlines.regs]; exact hsound.rising))
  have hover := grantOver_within forHbmPass (raise 0x0C06
    (items (((t.set HBM_PASS_SUM_UNCORR unc).set HBM_PASS_SUM_CORR cor).set HBM_PASS_SUM_LINES (64 * s.hbm.passCount)))
    ((((t.set HBM_PASS_SUM_UNCORR unc).set HBM_PASS_SUM_CORR cor).set HBM_PASS_SUM_LINES (64 * s.hbm.passCount)).set HBM_PASS_GO 0))
  rw [← heq] at hover
  refine ⟨?_, ?_, ?_, ?_⟩
  · rw [hover.get (by decide), get_raise, get_set_self _ _ (rising_set _ _ hrising), Nat.zero_mod]
  · rw [hover.get (by decide), get_raise, get_set_of_ne _ (by decide), get_set_self _ _ hrising]
    rfl
  · rw [hover.hbm (by decide), raise_hbm]
    exact hlines.mem.trans hmem
  · rw [hover.hbm (by decide), raise_hbm]
    exact hlines.dbl.trans hdbl

/-- An entry of the Sluice lies outside the pass registers. -/
theorem entry_ne_passField {f : Fld} {k : Nat} (hf : f.key / 64 = entAddr k) : ∀ p ∈ HBM_PASS_fields, f.key ≠ p.2.key := by
  have haddr : ∀ p ∈ HBM_PASS_fields, p.2.key / 64 = 0x300B000400 := by decide
  intro p hp heq
  have hp := haddr p hp
  rw [← heq, hf] at hp
  unfold entAddr at hp
  omega

/-- A pass accepted: its request stands at the Sluice, and the register is written. -/
theorem exec_hbmRangePass_of_room {a : Agent} {v k : Nat} {s : State} (ha : a.ctl = true) (hdom : domRefuses 65 s = none)
    (hgo : HBM_PASS_GO.of v = 1) (hidle : s.get HBM_PASS_GO = 0)
    (hrange : HBM_PASS_COUNT.of v ≠ 0 ∧ HBM_PASS_FIRST.of v + HBM_PASS_COUNT.of v ≤ 4194304) (hfree : freeEntry s = some k)
    (hroom : sluRoom clsScrub 10 s = true) : ∃ (r : PartReq) (h : HbmSt), r.cls = clsScrub ∧ r.init = a.init.val ∧
      exec (.hbmRangePass a v) s = .next (answer .done (writeFlds HBM_PASS_fields v { sluEnter k r s with hbm := h })) := by
  have hplace : placeOrRetry ⟨clsScrub, 0x7F, 10, passFrames (4096 * HBM_PASS_COUNT.of v) s, a.init.val, forHbmPass⟩ s =
      (.done, sluEnter k ⟨clsScrub, 0x7F, 10, passFrames (4096 * HBM_PASS_COUNT.of v) s, a.init.val, forHbmPass⟩ s) := by
    unfold placeOrRetry sluPlace
    rw [hfree]
    dsimp only
    rw [if_pos hroom]
  have hhit : HBM_PASS_GO.hit v = true := by
    unfold Fld.hit
    rw [hgo]
    rfl
  have hoff : s.on HBM_PASS_GO = false := by
    unfold State.on
    rw [hidle]
    rfl
  have hwrite : wrHbmPass a v s = (.done, writeFlds HBM_PASS_fields v
      { sluEnter k ⟨clsScrub, 0x7F, 10, passFrames (4096 * HBM_PASS_COUNT.of v) s, a.init.val, forHbmPass⟩ s with
        hbm := { (sluEnter k ⟨clsScrub, 0x7F, 10, passFrames (4096 * HBM_PASS_COUNT.of v) s, a.init.val, forHbmPass⟩ s).hbm with
          passFirst := HBM_PASS_FIRST.of v, passCount := HBM_PASS_COUNT.of v } }) := by
    unfold wrHbmPass
    dsimp only
    rw [if_neg (by simp [ha]), if_neg (by simp [hhit]), if_neg (by simp [hoff, hrange.1, hrange.2]), hplace]
  refine ⟨⟨clsScrub, 0x7F, 10, passFrames (4096 * HBM_PASS_COUNT.of v) s, a.init.val, forHbmPass⟩,
    { (sluEnter k ⟨clsScrub, 0x7F, 10, passFrames (4096 * HBM_PASS_COUNT.of v) s, a.init.val, forHbmPass⟩ s).hbm with
      passFirst := HBM_PASS_FIRST.of v, passCount := HBM_PASS_COUNT.of v }, rfl, rfl, ?_⟩
  show ok (answered (atIngress 65 (wrHbmPass a v) s)) = _
  rw [atIngress_of_answers hdom, hwrite]
  rfl

/-! ### Targeted refreshes (R351) -/

theorem neighbours_length {row : Nat} (h : 2 ≤ row ∧ row < 32766) (s : State) :
    (neighbours row s).length = if s.on HBM_CFG_RADIUS then 4 else 2 := by
  unfold neighbours
  dsimp only
  split
  · simp [show 2 ≤ row by omega, show 1 ≤ row by omega, show row + 2 < 32768 by omega, show row + 1 < 32768 by omega]
  · simp [show 1 ≤ row by omega, show row + 1 < 32768 by omega]

/-- A due refresh of a row that is not replaced. -/
theorem exec_targetedRefresh_of_due {bank : Fin 512} {row : Nat} {s : State} (hdue : (bank.val, row) ∈ s.hbm.due)
    (hspare : spGet (32768 * bank.val + row) s.hbm.spares = 0) : ∃ h : HbmSt, h.due = s.hbm.due.erase (bank.val, row) ∧
      h.dist = distSet bank.val row 0 s.hbm.dist ∧
      exec (.targetedRefresh bank row) s = .next { s.count HBM_DIST_TARGETED (neighbours row s).length with hbm := h } := by
  have hrows : refreshed bank.val row s = (neighbours row s).length := by
    unfold refreshed
    rw [if_pos hspare]
  rw [← hrows]
  exact ⟨_, rfl, rfl, whenOk_of (by simpa using hdue) s _⟩

/-! ### The temperature (R350) -/

theorem exec_hbmTemperature_hot {c : Nat} {s : State} (h : c ≥ 85 ∧ s.get HBM_STAT_HOT = 0) : exec (.hbmTemperature c) s =
    .next (raise 0x0C07 [⟨1, 1⟩, ⟨1, min c 255⟩] ((s.set HBM_STAT_TEMP (min c 255)).set HBM_STAT_HOT 1)) :=
  if_pos ⟨h.1, by simp [State.on, h.2]⟩

theorem exec_hbmTemperature_cool {c : Nat} {s : State} (h : c < 80 ∧ s.get HBM_STAT_HOT = 1) : exec (.hbmTemperature c) s =
    .next (raise 0x0C07 [⟨1, 0⟩, ⟨1, min c 255⟩] ((s.set HBM_STAT_TEMP (min c 255)).set HBM_STAT_HOT 0)) :=
  (if_neg (by omega)).trans (if_pos ⟨h.1, by simp [State.on, h.2]⟩)

theorem exec_hbmTemperature_same {c : Nat} {s : State} (hhot : ¬ (c ≥ 85 ∧ s.get HBM_STAT_HOT = 0))
    (hcool : ¬ (c < 80 ∧ s.get HBM_STAT_HOT = 1)) : exec (.hbmTemperature c) s = .next (s.set HBM_STAT_TEMP (min c 255)) := by
  have hlt : s.get HBM_STAT_HOT < 2 := regGet_lt HBM_STAT_HOT s.regs
  have hon : s.on HBM_STAT_HOT = decide (s.get HBM_STAT_HOT = 1) := by
    unfold State.on
    interval_cases s.get HBM_STAT_HOT <;> rfl
  refine (if_neg ?_).trans (if_neg ?_)
  · rw [hon]
    simp
    omega
  · rw [hon]
    simp
    omega

/-! ### The statement -/

/-- A request promoted, with every older one of its source. -/
theorem promote_queue {id : Nat} {r : HbmReq} {s : State} (h : s.hbm.queue.find? (fun x => x.id == id) = some r) :
    (promote id s).hbm.queue =
      s.hbm.queue.map (fun x => { x with promoted := x.promoted || (decide (x.src = r.src) && decide (x.id ≤ id)) }) := by
  unfold promote
  rw [h]
  refine List.map_congr_left fun x _ => ?_
  obtain ⟨i, src, cls, addr, lines, write, be, promoted, seq, regions⟩ := x
  by_cases hsrc : src = r.src <;> by_cases hid : i ≤ id <;> cases promoted <;> simp [hsrc, hid]

theorem popErrlog_eq (s : State) :
    popErrlog s = ((s.hbm.log.head?).getD 0, { s with hbm := { s.hbm with log := s.hbm.log.drop 1 } }) := by
  unfold popErrlog
  split
  next h =>
    have hlog : s.hbm.log.drop 1 = s.hbm.log := by rw [h, List.drop_nil]
    have hhead : s.hbm.log.head?.getD 0 = 0 := by rw [h]; rfl
    rw [hlog, hhead]
  next h =>
    rw [h]
    rfl

/-- Settles O31: one clause per command; the scrubber and the passes rest on what a checked line leaves (R352, R355, R356). -/
theorem hbmCommandsComplete : Obligations.HbmCommandsComplete := by
  unfold Obligations.HbmCommandsComplete
  refine ⟨?promoted, ?trained, ?failed, ?awake, ?refreshed, ?targeted, ?targetedInside, ?temperature, ?hot, ?scrubGood, ?scrubBad,
    ?pass, ?passOver, ?flip, ?pop⟩
  case promoted =>
    intro id r s _ hfind
    exact ⟨_, rfl, promote_queue hfind, (promote_within (Sub.refl _) (Within.refl _ s)).narrow (by decide)⟩
  case trained =>
    intro channel s hs hstate
    refine ⟨_, whenOk_of (by simp [hstate]) s _, ?_, ?_, ((Narrow.refl _ _ s).set (by simp) _).set (by simp) _⟩
    · rw [if_pos rfl, get_set_of_ne _ (by decide)]
      exact get_set_self _ _ hs.rising
    · exact get_set_self _ _ (rising_set _ _ hs.rising)
  case failed =>
    intro channel s hs hstate
    refine ⟨_, whenOk_of (by simp [hstate]) s _, ?_,
      raises_of_raise (t := s.set HBM_STAT_STATE hbmFailed) (items := [⟨1, channel.val⟩]) (get_set_of_ne s (by decide) _) rfl,
      ((Narrow.refl _ _ s).set (by simp) _).raise (by simp) _ _⟩
    rw [if_neg (by simp), get_raise]
    exact get_set_self _ _ hs.rising
  case awake =>
    intro s hs hstate hpair
    refine ⟨_, whenOk_of (by simp [hstate, hpair]) s _, ?_, ((Narrow.refl _ _ s).set (by simp) _).set (by simp) _⟩
    rw [get_set_of_ne _ (by decide)]
    exact get_set_self _ _ hs.rising
  case refreshed =>
    intro bank windowStart s _ hstate
    have he := (execHbmRefresh_within (Sub.refl _) (Within.refl _ s)).of_next (whenOk_of (by simp [hstate]) s
      (if windowStart then { s with hbm := { s.hbm with rows := spDel bank.val s.hbm.rows, dist := [] } }
       else { s with hbm := { s.hbm with rows := spDel bank.val s.hbm.rows } }))
    refine ⟨_, whenOk_of (by simp [hstate]) s _, ?_, he.narrow (by decide)⟩
    cases windowStart <;> rfl
  case targeted =>
    intro bank row s hs hdue hspare
    obtain ⟨h, hdue', hdist, he⟩ := exec_targetedRefresh_of_due hdue hspare
    have hframe : Frame [.hbm] [.hbmSpares] s _ := ((execTargetedRefresh_within (Sub.refl _) (Within.refl _ s)).of_next he).frame (by decide)
    exact ⟨_, he, hdue', hdist, get_count_self HBM_DIST_TARGETED _ hs.rising, hframe.pending, hframe.part,
      fun f hf => get_set_of_ne s (hf _ (by simp)) _⟩
  case targetedInside =>
    intro bank row s hs hdue hspare hinside
    obtain ⟨h, _, _, he⟩ := exec_targetedRefresh_of_due hdue hspare
    refine ⟨_, he, ?_⟩
    rw [← neighbours_length hinside]
    exact get_count_self HBM_DIST_TARGETED _ hs.rising
  case temperature =>
    intro c s hs
    have htemp (v : Nat) : ((s.set HBM_STAT_TEMP (min c 255)).set HBM_STAT_HOT v).get HBM_STAT_TEMP = min c 255 := by
      rw [get_set_of_ne _ (by decide), get_set_self _ _ hs.rising]
      exact Nat.mod_eq_of_lt (show min c 255 < 256 by omega)
    have hhot (v : Nat) : ((s.set HBM_STAT_TEMP (min c 255)).set HBM_STAT_HOT v).get HBM_STAT_HOT = v % 2 :=
      get_set_self _ _ (rising_set _ _ hs.rising)
    have hlt : s.get HBM_STAT_HOT < 2 := regGet_lt HBM_STAT_HOT s.regs
    by_cases h85 : c ≥ 85 ∧ s.get HBM_STAT_HOT = 0
    · refine ⟨_, exec_hbmTemperature_hot h85, ?_, ?_, (((Narrow.refl _ _ s).set (by simp) _).set (by simp) _).raise (by simp) _ _⟩
      · rw [get_raise, htemp]
      · rw [get_raise, hhot, if_pos h85.1]
    by_cases h80 : c < 80 ∧ s.get HBM_STAT_HOT = 1
    · refine ⟨_, exec_hbmTemperature_cool h80, ?_, ?_, (((Narrow.refl _ _ s).set (by simp) _).set (by simp) _).raise (by simp) _ _⟩
      · rw [get_raise, htemp]
      · rw [get_raise, hhot, if_neg (by omega), if_pos h80.1]
    refine ⟨_, exec_hbmTemperature_same h85 h80, ?_, ?_, (Narrow.refl _ _ s).set (by simp) _⟩
    · rw [get_set_self _ _ hs.rising]
      exact Nat.mod_eq_of_lt (show min c 255 < 256 by omega)
    · rw [get_set_of_ne _ (by decide)]
      split
      · omega
      · split
        · omega
        · rfl
  case hot =>
    intro c s hs h
    rcases h with h | h
    · refine ⟨_, exec_hbmTemperature_hot h, ?_, raises_of_raise ((get_set_of_ne _ (by decide) _).trans (get_set_of_ne s (by decide) _)) rfl⟩
      rw [get_raise, get_set_self _ _ (rising_set _ _ hs.rising), h.2]
      rfl
    · refine ⟨_, exec_hbmTemperature_cool h, ?_, raises_of_raise ((get_set_of_ne _ (by decide) _).trans (get_set_of_ne s (by decide) _)) rfl⟩
      rw [get_raise, get_set_self _ _ (rising_set _ _ hs.rising), h.2]
      rfl
  case scrubGood =>
    intro s hs hready hrate hadmits hdbl
    obtain ⟨t, he, hat, hmem, hdbl', hsgl, hlog, hregs, _⟩ := exec_hbmScrubLine_of_admitted hready hrate hadmits
    have hline : LineCorrected s.hbm.scrubAt s (scrubLine s.hbm.scrubAt 2 s) := scrubLine_good hs.rising hdbl
    exact ⟨t, he, hat, hmem.trans hline.mem, hdbl'.trans hline.dbl, hsgl.trans hline.sgl,
      (get_congr hregs _).trans hline.corr, hlog.trans hline.log, exec_hbmScrubLine_frame he⟩
  case scrubBad =>
    intro s hs hready hrate hadmits hdbl hroom
    obtain ⟨t, he, hat, hmem, hdbl', hsgl, hlog, hregs, hevents⟩ := exec_hbmScrubLine_of_admitted hready hrate hadmits
    have hline : LineCounted s.hbm.scrubAt 2 0 s (scrubLine s.hbm.scrubAt 2 s) := scrubLine_bad hs.rising hdbl
    refine ⟨t, he, hat, hmem.trans hline.mem, hdbl'.trans hline.dbl, hsgl.trans hline.sgl,
      (get_congr hregs _).trans hline.uncorr, hlog.trans ((hline.log hroom).trans ?_), ?_, exec_hbmScrubLine_frame he⟩
    · rw [Nat.zero_mul, Nat.add_zero]
      rfl
    · have hraises := hline.raises
      unfold Raises at hraises ⊢
      rw [hevents]
      exact hraises
  case pass =>
    intro a v k s hs ha hdom hgo hidle hrange hfree hroom
    obtain ⟨r, h, hcls, hinit, he⟩ := exec_hbmRangePass_of_room ha hdom hgo hidle hrange hfree hroom
    have hrising : Sparse.Rising ({ sluEnter k r s with hbm := h } : State).regs := rising_sluEnter hs.rising k r
    refine ⟨_, he, rfl, ?_, ?_, ?_, ?_, ?_, ((execHbmRangePass_within (Sub.refl _) (Within.refl _ s)).of_next he).frame (by decide)⟩
    · show (writeFlds HBM_PASS_fields v { sluEnter k r s with hbm := h }).get HBM_PASS_GO = 1
      rw [get_writeFlds_w1s (by decide) (by decide) v hrising, hgo]
      show Nat.lor ((sluEnter k r s).get HBM_PASS_GO) 1 % 2 = 1
      rw [get_sluEnter_of_addr k r (by unfold entAddr; simp [HBM_PASS_GO]; omega), hidle]
      rfl
    · exact get_writeFlds_rw (by decide) (by decide) v hrising
    · exact get_writeFlds_rw (by decide) (by decide) v hrising
    · show (writeFlds HBM_PASS_fields v { sluEnter k r s with hbm := h }).get (SLU_ENT_CLASS k) = clsScrub
      rw [get_writeFlds_of_ne (entry_ne_passField (SLU_ENT_CLASS_addr k)) v]
      exact (sluEnter_class k r hs.rising).trans (by rw [hcls]; rfl)
    · show (writeFlds HBM_PASS_fields v { sluEnter k r s with hbm := h }).get (SLU_ENT_INITIATOR k) = a.init.val
      rw [get_writeFlds_of_ne (entry_ne_passField (SLU_ENT_INITIATOR_addr k)) v]
      exact (sluEnter_initiator k r hs.rising).trans (by rw [hinit]; exact Nat.mod_eq_of_lt a.init.isLt)
  case passOver =>
    intro s hs hgo hgranted hrefuses
    have he : exec .hbmRangePassEnd s = .next (passEnd s) := whenOk_of (by simp [State.on, hgo, hgranted, hrefuses]) s _
    have hover := passEnd_over hs
    exact ⟨_, he, hover.go, hover.lines, hover.mem, hover.dbl,
      ((execHbmRangePassEnd_within (Sub.refl _) (Within.refl _ s)).of_next he).frame (by decide)⟩
  case flip =>
    intro a v s hs ha hdom
    have he : exec (.hbmFlipArm a v) s = .next (answer .done (writeFlds HBM_FLIP_CTL_fields v s)) := by
      show ok (answered (atIngress 65 (wrHbmPlain HBM_FLIP_CTL_fields a v) s)) = _
      rw [atIngress_of_answers hdom, wrHbmPlain, if_neg (by simp [ha])]
      rfl
    refine ⟨_, he, rfl, ?_, get_writeFlds_rw (by decide) (by decide) v hs.rising, get_writeFlds_rw (by decide) (by decide) v hs.rising,
      get_writeFlds_rw (by decide) (by decide) v hs.rising,
      ((execHbmFlipArm_within (Sub.refl _) (Within.refl _ s)).of_next he).frame (by decide)⟩
    exact (get_writeFlds_w1s (by decide) (by decide) v hs.rising).trans
      (lor_oneBit (regGet_lt HBM_FLIP_CTL_ARM s.regs) (Nat.mod_lt _ (by decide)))
  case pop =>
    intro a s _ ha
    have he : exec (.hbmErrlogPop a) s = .next (answerVal ((s.hbm.log.head?).getD 0)
        { s with hbm := { s.hbm with log := s.hbm.log.drop 1 } }) := by
      show execHbmErrlogPop a s = _
      unfold execHbmErrlogPop
      rw [popErrlog_eq]
      dsimp only
      rw [if_neg (fun h => ha h.1)]
      rfl
    exact ⟨_, he, rfl, rfl, rfl, ((execHbmErrlogPop_within (Sub.refl _) (Within.refl _ s)).of_next he).narrow (by decide)⟩

end Sys2Proof.Machine
end

section
/-! SUPPORT. Redundancy analysis (chapter 13): its commands. -/
namespace Sys2Proof.Machine

/-- A field that is cleared by writing 1 loses the bits that the value has. -/
theorem get_writeFlds_w1c {f : Fld} {l : List (Acc × Fld)} (hl : l.Pairwise (fun p q => p.2.key ≠ q.2.key)) (hf : (.w1c, f) ∈ l) (v : Nat)
    {s : State} (hs : Sparse.Rising s.regs) :
    (writeFlds l v s).get f = (s.get f - Nat.land (s.get f) (f.of v)) % 2 ^ f.width := by
  induction l generalizing s with
  | nil => exact absurd hf List.not_mem_nil
  | cons p l ih =>
    obtain ⟨hp, hl⟩ := List.pairwise_cons.1 hl
    rcases List.mem_cons.1 hf with rfl | hf
    · exact (get_writeFlds_of_ne hp v _).trans (get_set_self f _ hs)
    · exact (ih hl hf (rising_writeFld p.1 p.2 v hs)).trans (by rw [get_writeFld_of_ne p.1 (hp _ hf).symm])

/-! ### The registers of a repair domain -/

@[simp] theorem RA_DOM_ARM_bit (d : Nat) : (RA_DOM_ARM d).key % 64 = 0 := Nat.mul_add_mod _ _ _
@[simp] theorem RA_DOM_CANCEL_bit (d : Nat) : (RA_DOM_CANCEL d).key % 64 = 1 := Nat.mul_add_mod _ _ _
@[simp] theorem RA_DOM_LAST_OUTCOME_bit (d : Nat) : (RA_DOM_LAST_OUTCOME d).key % 64 = 8 := Nat.mul_add_mod _ _ _
@[simp] theorem RA_DOM_LAST_NP_bit (d : Nat) : (RA_DOM_LAST_NP d).key % 64 = 12 := Nat.mul_add_mod _ _ _
@[simp] theorem RA_DOM_LAST_MAPERR_bit (d : Nat) : (RA_DOM_LAST_MAPERR d).key % 64 = 13 := Nat.mul_add_mod _ _ _
@[simp] theorem RA_DOM_LAST_COST_bit (d : Nat) : (RA_DOM_LAST_COST d).key % 64 = 16 := Nat.mul_add_mod _ _ _

theorem domArm_hit_one (d : Nat) : (RA_DOM_ARM d).hit 1 = true := by
  unfold Fld.hit Fld.of
  rw [RA_DOM_ARM_bit]
  rfl

theorem domCancel_hit_one (d : Nat) : (RA_DOM_CANCEL d).hit 1 = false := by
  unfold Fld.hit Fld.of
  rw [RA_DOM_CANCEL_bit]
  rfl

theorem domArm_hit_two (d : Nat) : (RA_DOM_ARM d).hit 2 = false := by
  unfold Fld.hit Fld.of
  rw [RA_DOM_ARM_bit]
  show (bits 2 0 1 != 0) = false
  decide

theorem domCancel_hit_two (d : Nat) : (RA_DOM_CANCEL d).hit 2 = true := by
  unfold Fld.hit Fld.of
  rw [RA_DOM_CANCEL_bit]
  rfl

theorem raState_set {d v : Nat} (hv : v < 8) {s : State} (hs : Sparse.Rising s.regs) : raState d (s.set (RA_DOM_STATE d) v) = v :=
  (get_set_self _ v hs).trans (Nat.mod_eq_of_lt hv)

theorem mapState_set {m v : Nat} (hv : v < 8) {s : State} (hs : Sparse.Rising s.regs) :
    mapState m (s.set (FC_MAP_CTL_STATE m) v) = v :=
  (get_set_self _ v hs).trans (Nat.mod_eq_of_lt hv)

/-! ### A domain that becomes ARMED (R301) -/

theorem becomeArmed_of_none {d : Nat} {s : State} (h : ∀ m < 128, mapState m s = mapClosed → s.get (FC_MAP_SEL_DOMAIN m) ≠ d) :
    becomeArmed d s = s.set (RA_DOM_STATE d) raArmed := by
  unfold becomeArmed
  rw [List.find?_eq_none.2]
  intro m hm
  simpa using h m (List.mem_range.1 hm)

theorem becomeArmed_of_closed {d m : Nat} {s : State} (hm : m < 128) (h : mapState m s = mapClosed ∧ s.get (FC_MAP_SEL_DOMAIN m) = d) :
    ∃ k, becomeArmed d s = raQueue d k s := by
  unfold becomeArmed
  split
  next k _ => exact ⟨k, rfl⟩
  next hnone => exact absurd (List.find?_eq_none.1 hnone m (List.mem_range.2 hm)) (by simp [h.1, h.2])

/-- Either way the domain is no longer being analysed, and of the analysis only the note of the queued map may change. -/
theorem becomeArmed_state {d : Nat} {s : State} (hs : Sparse.Rising s.regs) :
    raState d (becomeArmed d s) = raArmed ∨ raState d (becomeArmed d s) = raQueued := by
  unfold becomeArmed
  split
  · exact .inr (raState_set (show 2 < 8 by decide) hs)
  · exact .inl (raState_set (show raArmed < 8 by decide) hs)

theorem becomeArmed_ra (d : Nat) (s : State) : ∃ q, (becomeArmed d s).ra = { s.ra with queuedBy := q } := by
  unfold becomeArmed
  split
  · exact ⟨_, rfl⟩
  · exact ⟨s.ra.queuedBy, rfl⟩

theorem raReturn_state {d : Nat} {s : State} (hs : Sparse.Rising s.regs) : raState d (raReturn d s) ≠ raAnalysing := by
  unfold raReturn
  split
  · rw [raState_set (show raEmpty < 8 by decide) hs]
    decide
  · rcases becomeArmed_state (d := d) hs with h | h <;> rw [h] <;> decide

theorem raReturn_ra (d : Nat) (s : State) : ∃ q, (raReturn d s).ra = { s.ra with queuedBy := q } := by
  unfold raReturn
  split
  · exact ⟨s.ra.queuedBy, rfl⟩
  · exact becomeArmed_ra d s

/-! ### Records (R308, R309) -/

theorem raTellFull_ra (s : State) : ∃ b, (raTellFull s).ra = { s.ra with fullTold := b } := by
  unfold raTellFull
  split
  · exact ⟨true, raise_ra _ _ _⟩
  · exact ⟨s.ra.fullTold, rfl⟩

theorem raTellFull_regs (s : State) : (raTellFull s).regs = s.regs := by
  unfold raTellFull
  split
  · exact raise_regs _ _ _
  · rfl

theorem raEnqueue_ra (r : RaRec) (steps must : Nat) (s : State) :
    ∃ b, (raEnqueue r steps must s).ra = { s.ra with queue := s.ra.queue ++ [r], fullTold := b } := by
  unfold raEnqueue
  dsimp only
  obtain ⟨b, hb⟩ := raTellFull_ra (if r.outcome = raUnrepairable then raise 0x0A04 [⟨2, r.domain⟩, ⟨1, must⟩]
      (if r.np then raise 0x0A03 [⟨2, r.domain⟩, ⟨4, steps⟩]
        (({ s with ra := { s.ra with queue := s.ra.queue ++ [r] } } : State).count RA_STAT_NP_COUNT 1)
       else { s with ra := { s.ra with queue := s.ra.queue ++ [r] } })
    else if r.np then raise 0x0A03 [⟨2, r.domain⟩, ⟨4, steps⟩]
        (({ s with ra := { s.ra with queue := s.ra.queue ++ [r] } } : State).count RA_STAT_NP_COUNT 1)
      else { s with ra := { s.ra with queue := s.ra.queue ++ [r] } })
  refine ⟨b, hb.trans ?_⟩
  split <;> split <;> simp only [raise_ra, count_ra]

theorem rising_raEnqueue (r : RaRec) (steps must : Nat) {s : State} (hs : Sound s) : Sparse.Rising (raEnqueue r steps must s).regs :=
  (show Within 0x800000000000001000C s (raEnqueue r steps must s) from raEnqueue_within (Sub.refl _) (Within.refl _ s)).rising hs

/-- A record that has entered the ring: the pointer moved, the LAST fields of its domain. -/
structure RecordLeft (r : RaRec) (q : List RaRec) (s t : State) : Prop where
  queue : t.ra.queue = q
  wr : t.get RA_RING_PTR_WR = (s.get RA_RING_PTR_WR + recBlocks r) % 2 ^ 32
  outcome : t.get (RA_DOM_LAST_OUTCOME r.domain) = r.outcome % 16
  np : t.get (RA_DOM_LAST_NP r.domain) = if r.np then 1 else 0
  cost : t.get (RA_DOM_LAST_COST r.domain) = r.cost % 1024

/-- The registers and the queue that a record in the ring leaves, before its events. -/
def recordNoted (r : RaRec) (q : List RaRec) (s : State) : State :=
  (((((({ s with ra := { s.ra with queue := q, fullTold := false } } : State).set RA_RING_PTR_WR
    ((s.get RA_RING_PTR_WR + recBlocks r) % 2 ^ 32)).set (RA_DOM_LAST_OUTCOME r.domain) r.outcome).set (RA_DOM_LAST_NP r.domain)
    (if r.np then 1 else 0)).set (RA_DOM_LAST_MAPERR r.domain) (if r.maperr then 1 else 0)).set (RA_DOM_LAST_COST r.domain) r.cost)

theorem recordWritten_eq (r : RaRec) (q : List RaRec) (s : State) : recordWritten r q s = raTellFull
    (raise 0x0A02 [⟨2, r.domain⟩, ⟨1, r.outcome⟩, ⟨1, if r.np then 1 else 0⟩, ⟨2, r.cost⟩] (recordNoted r q s)) := rfl

theorem recordNoted_left (r : RaRec) (q : List RaRec) {s : State} (hs : Sparse.Rising s.regs) :
    RecordLeft r q s (recordNoted r q s) := by
  have hwr : Sparse.Rising (({ s with ra := { s.ra with queue := q, fullTold := false } } : State).set RA_RING_PTR_WR
      ((s.get RA_RING_PTR_WR + recBlocks r) % 2 ^ 32)).regs := rising_set _ _ hs
  unfold recordNoted
  refine ⟨rfl, ?_, ?_, ?_, ?_⟩
  · have hwin : winBit RA_RING_PTR_WR.key = 76 := by decide
    rw [get_set_of_win _ hwin (RA_DOM_LAST_COST_win _) (by decide), get_set_of_win _ hwin (RA_DOM_LAST_MAPERR_win _) (by decide),
      get_set_of_win _ hwin (RA_DOM_LAST_NP_win _) (by decide), get_set_of_win _ hwin (RA_DOM_LAST_OUTCOME_win _) (by decide)]
    exact (get_set_self _ _ hs).trans (Nat.mod_mod _ _)
  · simp (disch := simp) only [get_set_of_bit]
    exact get_set_self _ _ hwr
  · simp (disch := simp) only [get_set_of_bit]
    refine (get_set_self _ _ (rising_set _ _ hwr)).trans ?_
    cases r.np <;> rfl
  · exact get_set_self _ _ (rising_set _ _ (rising_set _ _ (rising_set _ _ hwr)))

theorem recordWritten_left (r : RaRec) (q : List RaRec) {s : State} (hs : Sparse.Rising s.regs) :
    RecordLeft r q s (recordWritten r q s) := by
  obtain ⟨hqueue, hwr, houtcome, hnp, hcost⟩ := recordNoted_left r q hs
  have hget (f : Fld) : (recordWritten r q s).get f = (recordNoted r q s).get f := by
    rw [recordWritten_eq, get_congr (raTellFull_regs _), get_raise]
  refine ⟨?_, (hget _).trans hwr, (hget _).trans houtcome, (hget _).trans hnp, (hget _).trans hcost⟩
  obtain ⟨b, hb⟩ := raTellFull_ra (raise 0x0A02 [⟨2, r.domain⟩, ⟨1, r.outcome⟩, ⟨1, if r.np then 1 else 0⟩, ⟨2, r.cost⟩] (recordNoted r q s))
  rw [recordWritten_eq, hb, raise_ra]
  exact hqueue

/-! ### An analysis that ends (R301, R312) -/

/-- What an ABORTED analysis leaves. -/
structure Aborted (x : RaUnit) (s t : State) : Prop where
  state : raState x.domain t = raEmpty
  units : t.ra.units = s.ra.units.filter (fun y => y.u != x.u)
  queue : ∃ r, t.ra.queue = s.ra.queue ++ [r] ∧ r.domain = x.domain ∧ r.outcome = raAborted

/-- CANCEL of an analysis in terms of the state without its unit. -/
theorem raAbort_eq (x : RaUnit) (held : Bool) (s : State) : ∃ (r : RaRec) (n : Nat) (t : State), r.domain = x.domain ∧
    r.outcome = raAborted ∧ t.ra = { s.ra with units := s.ra.units.filter (fun y => y.u != x.u), cuts := s.ra.cuts + 1 } ∧
    Within 0x4000000000000018000 s t ∧
    raAbort x held 0 s = (raise 0x0A09 [⟨2, x.domain⟩, ⟨1, 0⟩] (raEnqueue r n 0 t)).set (RA_DOM_STATE x.domain) raEmpty := by
  refine ⟨_, (raCutShort x s).2, if held && domRuns 71 ({ s with ra := { s.ra with
    units := s.ra.units.filter (fun y => y.u != x.u), cuts := s.ra.cuts + 1 } } : State) then clearMap x.window { s with ra := { s.ra with
    units := s.ra.units.filter (fun y => y.u != x.u), cuts := s.ra.cuts + 1 } } else { s with ra := { s.ra with
    units := s.ra.units.filter (fun y => y.u != x.u), cuts := s.ra.cuts + 1 } }, rfl, rfl, ?_, ?_, rfl⟩
  · split <;> rfl
  · have hw : Within 0x4000000000000018000 s ({ s with ra := { s.ra with
        units := s.ra.units.filter (fun y => y.u != x.u), cuts := s.ra.cuts + 1 } } : State) := Within.ra_ (by decide) (Within.refl _ s)
    split
    · exact clearMap_within (by decide) hw
    · exact hw

theorem raAbort_aborted (x : RaUnit) (held : Bool) {s : State} (hs : Sound s) : Aborted x s (raAbort x held 0 s) := by
  obtain ⟨r, n, t, hdomain, houtcome, hra, hw, heq⟩ := raAbort_eq x held s
  obtain ⟨b, hb⟩ := raEnqueue_ra r n 0 t
  have hafter : (raAbort x held 0 s).ra = { t.ra with queue := t.ra.queue ++ [r], fullTold := b } := by
    rw [heq, set_ra, raise_ra, hb]
  refine ⟨?_, ?_, r, ?_, hdomain, houtcome⟩
  · rw [heq]
    refine raState_set (by decide) ?_
    rw [raise_regs]
    exact rising_raEnqueue r n 0 (hw.sound hs)
  · rw [hafter, hra]
  · rw [hafter, hra]

/-! ### The commands -/

theorem exec_raArm_of_ok {a : Agent} {d : Fin 4096} {s : State} (hdom : domRefuses 72 s = none) (ha : a.ctl = true)
    (hempty : raState d.val s = raEmpty) (hok : armOk d.val s = true) :
    exec (.raArm a d) s = .next (answer .done (becomeArmed d.val s)) := by
  show ok (answered (atIngress 72 (wrRaDom a d.val 1) s)) = _
  rw [atIngress_of_answers hdom, wrRaDom, domArm_hit_one, domCancel_hit_one]
  rw [if_neg (by simp [ha]), if_neg (by simp), if_pos rfl, if_pos ⟨hempty, hok⟩]
  rfl

theorem exec_raCancel_of_ctl {a : Agent} {d : Fin 4096} {s : State} (hdom : domRefuses 72 s = none) (ha : a.ctl = true) :
    exec (.raCancel a d) s = .next (answer .done (raCancel d.val s)) := by
  show ok (answered (atIngress 72 (wrRaDom a d.val 2) s)) = _
  rw [atIngress_of_answers hdom, wrRaDom, domArm_hit_two, domCancel_hit_two]
  rw [if_neg (by simp [ha]), if_neg (by simp), if_neg (by simp), if_pos rfl]
  rfl

/-- A map taken by a unit, before its event (R302, R303). -/
def mapTaken (m u : Nat) (s : State) : State :=
  let t := ((forgetMap m s).set (FC_MAP_CTL_STATE m) mapAnalysis).set (RA_DOM_STATE (s.get (FC_MAP_SEL_DOMAIN m))) raAnalysing
  { t with ra := { t.ra with units := t.ra.units ++ [raTake u m t] } }

theorem get_mapState_set_of_ne {m d v w : Nat} {g : Fld} (hwin : winBit g.key = 74) (hne : g.key ≠ (FC_MAP_CTL_STATE m).key) (s : State) :
    ((s.set (FC_MAP_CTL_STATE m) v).set (RA_DOM_STATE d) w).get g = s.get g := by
  rw [get_set_of_win _ hwin (RA_DOM_STATE_win d) (by decide), get_set_of_ne _ hne]

theorem raTake_mapTaken (m u : Nat) (s : State) : raTake u m (((forgetMap m s).set (FC_MAP_CTL_STATE m) mapAnalysis).set
    (RA_DOM_STATE (s.get (FC_MAP_SEL_DOMAIN m))) raAnalysing) = raTake u m s := by
  have hsel {g : Fld} (hwin : winBit g.key = 74) (hne : g.key ≠ (FC_MAP_CTL_STATE m).key) := get_mapState_set_of_ne
    (d := s.get (FC_MAP_SEL_DOMAIN m)) (v := mapAnalysis) (w := raAnalysing) hwin hne (forgetMap m s)
  have hcongr (g : Fld) : (forgetMap m s).get g = s.get g := rfl
  unfold raTake State.on
  rw [hsel (FC_MAP_SEL_DOMAIN_win m) (by simp only [FC_MAP_SEL_DOMAIN, FC_MAP_CTL_STATE]; omega),
    hsel (FC_MAP_SEL_SEQ_win m) (by simp only [FC_MAP_SEL_SEQ, FC_MAP_CTL_STATE]; omega),
    hsel (FC_MAP_SEL_SITE_win m) (by simp only [FC_MAP_SEL_SITE, FC_MAP_CTL_STATE]; omega),
    hsel (FC_MAP_XY_X0_win m) (by simp only [FC_MAP_XY_X0, FC_MAP_CTL_STATE]; omega),
    hsel (FC_MAP_XY_Y0_win m) (by simp only [FC_MAP_XY_Y0, FC_MAP_CTL_STATE]; omega),
    hsel (FC_MAP_SEL_IOLOG2_win m) (by simp only [FC_MAP_SEL_IOLOG2, FC_MAP_CTL_STATE]; omega),
    hsel (FC_MAP_CTL_MAPERR_win m) (by simp only [FC_MAP_CTL_MAPERR, FC_MAP_CTL_STATE]; omega)]
  simp only [hcongr]
  rfl

theorem mapTaken_regs (m u : Nat) (s : State) : (mapTaken m u s).regs = (((forgetMap m s).set (FC_MAP_CTL_STATE m) mapAnalysis).set
    (RA_DOM_STATE (s.get (FC_MAP_SEL_DOMAIN m))) raAnalysing).regs := rfl

theorem raAccept_of_unit {m u : Nat} {s : State} (hstate : raState (s.get (FC_MAP_SEL_DOMAIN m)) s ≠ raEmpty)
    (hgeo : badGeometry m (s.get (FC_MAP_SEL_DOMAIN m)) s = false) (hfree : freeUnit s = some u) :
    raAccept m s = raise 0x0A01 [⟨1, m⟩, ⟨2, s.get (FC_MAP_SEL_DOMAIN m)⟩, ⟨1, u⟩] (mapTaken m u s) := by
  unfold raAccept
  dsimp only
  rw [if_neg hstate, if_neg (by simp [hgeo]), hfree]
  rfl

/-- A search unit once its list reads have ended (R304, R305). -/
def unitAfterRead (x : RaUnit) (s : State) : RaUnit :=
  let cells := failCells x.window s
  let l := failUnits x.domain cells s
  let r := mustRepair x.domain l s
  { x with read := true, count := cells.length, stuck := r.stuck, must := r.taken, maperr := s.on (FC_MAP_CTL_MAPERR x.window),
           fails := uncovered x.domain r.taken l s }

/-- The ring's blocks stored, the record counts as written whatever the pointer was before (R311). -/
theorem exec_raRingWrite_of_put {r : RaRec} {l : List RaRec} {s u : State} (hqueue : s.ra.queue = r :: l) (hdom : domRuns 72 s = true)
    (herr : s.on RA_STAT_RING_ERR = false) (hroom : raRoom r s = true) (hwin : hbmWindow 1 (recBlocks r) s = true)
    (hput : putBlocks (s.get RA_RING_PTR_WR) (recBlocks r) r.words s = (.done, u)) :
    exec (.raRingWrite .done) s = .next (recordWritten r l u) := by
  show execRaRingWrite .done s = _
  unfold execRaRingWrite
  rw [hqueue]
  dsimp only
  rw [hput]
  exact whenOk_of (by simp [hdom, herr, hroom, hwin]) s _

/-- Settles O27: one clause per command of redundancy analysis; the unit taken is the lowest free one (a model choice). -/
theorem repairCommandsComplete : Obligations.RepairCommandsComplete := by
  unfold Obligations.RepairCommandsComplete
  refine ⟨?arm, ?armQueued, ?cancel, ?cancelAnalysis, ?accept, ?listRead, ?search, ?ring, ?resume⟩
  case arm =>
    intro a d s hs hdom ha hempty hok hnone
    have he := exec_raArm_of_ok hdom ha hempty hok
    rw [becomeArmed_of_none hnone] at he
    exact ⟨_, he, rfl, raState_set (show raArmed < 8 by decide) hs.rising, ((Narrow.refl _ _ s).set (by simp) _).answer (by simp) _⟩
  case armQueued =>
    intro a d m s hs hdom ha hempty hok hm hclosed
    obtain ⟨k, hk⟩ := becomeArmed_of_closed hm hclosed
    have he := exec_raArm_of_ok hdom ha hempty hok
    rw [hk] at he
    exact ⟨_, he, rfl, raState_set (show raQueued < 8 by decide) hs.rising, (((Narrow.refl _ _ s).set (by simp) _).within
      (Within.ra_ (A := 0x10000) (by decide) (Within.refl _ _)) (by decide)).answer (by simp) _⟩
  case cancel =>
    intro a d s hs hdom ha harmed
    have he := exec_raCancel_of_ctl (d := d) hdom ha
    rw [raCancel, if_pos harmed] at he
    exact ⟨_, he, rfl, raState_set (show raEmpty < 8 by decide) hs.rising, ((Narrow.refl _ _ s).set (by simp) _).answer (by simp) _⟩
  case cancelAnalysis =>
    intro a d x s hs hdom ha hstate hfind
    have he := exec_raCancel_of_ctl (d := d) hdom ha
    have hcancel : raCancel d.val s = raAbort x (!x.read) 0 s := by
      unfold raCancel
      rw [if_neg (by rw [hstate]; decide), if_neg (by rw [hstate]; decide), if_pos hstate, hfind]
    rw [hcancel] at he
    have hdomain : x.domain = d.val := by simpa using List.find?_some hfind
    obtain ⟨hempty, hunits, r, hqueue, hrec, houtcome⟩ := raAbort_aborted x (!x.read) hs
    refine ⟨_, he, rfl, ?_, hunits, ?_, ?_, ((execRaCancel_within (Sub.refl _) (Within.refl _ s)).of_next he).frame (by decide)⟩
    · rw [← hdomain]
      exact hempty
    · show (raAbort x (!x.read) 0 s).ra.queue.length = _
      rw [hqueue, List.length_append]
      rfl
    · show (raAbort x (!x.read) 0 s).ra.queue.getLast?.map (fun r => (r.domain, r.outcome)) = _
      rw [hqueue, List.getLast?_concat, ← hdomain, ← hrec, ← houtcome]
      rfl
  case accept =>
    intro m u s hs hnext hblocked hdom hstate hgeo hfree
    have he : exec .mapAccept s = .next (raise 0x0A01 [⟨1, m⟩, ⟨2, s.get (FC_MAP_SEL_DOMAIN m)⟩, ⟨1, u⟩] (mapTaken m u s)) := by
      show execMapAccept s = _
      unfold execMapAccept
      rw [hnext]
      dsimp only
      rw [hblocked, raAccept_of_unit hstate hgeo hfree]
      exact whenOk_of hdom s _
    have hrising : Sparse.Rising ((forgetMap m s).set (FC_MAP_CTL_STATE m) mapAnalysis).regs := rising_set _ _ hs.rising
    refine ⟨_, he, ?_, ?_, ?_, ?_, ((execMapAccept_within (Sub.refl _) (Within.refl _ s)).of_next he).frame (by decide)⟩
    · unfold mapState
      rw [get_raise, get_congr (mapTaken_regs m u s)]
      exact (get_set_of_win _ (FC_MAP_CTL_STATE_win m) (RA_DOM_STATE_win _) (by decide) _).trans
        (mapState_set (m := m) (v := mapAnalysis) (s := forgetMap m s) (by decide) hs.rising)
    · unfold raState
      rw [get_raise]
      exact raState_set (show raAnalysing < 8 by decide) hrising
    · rw [raise_ra, ← raTake_mapTaken]
      rfl
    · rw [raise_fail]
      rfl
  case listRead =>
    intro u x s hs hfind hread hdoms
    have he : exec (.listReadEnd u) s = .next (clearMap x.window { s with ra := { s.ra with
        units := s.ra.units.map (fun z => if z.u = u.val then unitAfterRead x s else z) } }) := by
      show execListReadEnd u s = _
      unfold execListReadEnd
      rw [hfind]
      exact whenOk_of (by simp [hread, hdoms]) s _
    refine ⟨_, he, ?_, ?_, ((execListReadEnd_within (Sub.refl _) (Within.refl _ s)).of_next he).frame (by decide)⟩
    · exact mapState_set (show mapClearing < 8 by decide) hs.rising
    · intro z hz hu
      obtain ⟨w, _, rfl⟩ := List.mem_map.1 hz
      by_cases hw : w.u = u.val
      · rw [if_pos hw]
        exact ⟨rfl, rfl, rfl⟩
      · rw [if_neg hw] at hu
        exact absurd hu hw
  case search =>
    intro u x s hs hfind hread hdom hroom
    have he : exec (.searchEnd u) s = .next (raReturn x.domain (raEnqueue (raRecord x (raAnalyse x s)
        (s.get (RA_DESC_USER_USER x.domain)) s) (raAnalyse x s).steps x.must.length
        { s with ra := { s.ra with units := s.ra.units.filter (fun z => z.u != u.val) } })) := by
      show execSearchEnd u s = _
      unfold execSearchEnd
      rw [hfind]
      exact whenOk_of (by simp [hread, hdom, hroom]) s _
    obtain ⟨b, hb⟩ := raEnqueue_ra (raRecord x (raAnalyse x s) (s.get (RA_DESC_USER_USER x.domain)) s) (raAnalyse x s).steps x.must.length
      { s with ra := { s.ra with units := s.ra.units.filter (fun z => z.u != u.val) } }
    obtain ⟨q, hq⟩ := raReturn_ra x.domain (raEnqueue (raRecord x (raAnalyse x s)
        (s.get (RA_DESC_USER_USER x.domain)) s) (raAnalyse x s).steps x.must.length
        { s with ra := { s.ra with units := s.ra.units.filter (fun z => z.u != u.val) } })
    have hw : Within 0x10000 s ({ s with ra := { s.ra with units := s.ra.units.filter (fun z => z.u != u.val) } } : State) :=
      Within.ra_ (by decide) (Within.refl _ s)
    refine ⟨_, he, ?_, ?_, raReturn_state (rising_raEnqueue _ _ _ (hw.sound hs)),
      ((execSearchEnd_within (Sub.refl _) (Within.refl _ s)).of_next he).frame (by decide)⟩
    · rw [hq, hb]
    · rw [hq, hb]
  case ring =>
    intro r l u s hs hqueue hdom herr hroom hwin hput
    have he := exec_raRingWrite_of_put hqueue hdom herr hroom hwin hput
    have hw : Within 0x20A00000002000000800180C s u := by
      have hblocks : Within 0x20A00000002000000800180C s (putBlocks (s.get RA_RING_PTR_WR) (recBlocks r) r.words s).2 :=
        putBlocks_within (Sub.refl _) (Within.refl _ s)
      rwa [hput] at hblocks
    obtain ⟨hleft, hwr, houtcome, hnp, hcost⟩ := recordWritten_left r l (hw.rising hs)
    refine ⟨_, he, hleft, ?_, houtcome, hnp, hcost, ((execRaRingWrite_within (Sub.refl _) (Within.refl _ s)).of_next he).frame (by decide)⟩
    rw [hwr, hw.get (by decide)]
  case resume =>
    intro a s hs hdom ha
    have he : exec (.raRingResume a) s = .next (answer .done (writeFlds RA_STAT_fields (2 ^ 19) s)) := by
      show ok (answered (atIngress 72 (wrRaPlain RA_STAT_fields a (2 ^ 19)) s)) = _
      rw [atIngress_of_answers hdom, wrRaPlain, if_neg (by simp [ha])]
      rfl
    refine ⟨_, he, rfl, ?_, ((execRaRingResume_within (Sub.refl _) (Within.refl _ s)).of_next he).frame (by decide)⟩
    have hlt : s.get RA_STAT_RING_ERR < 2 := regGet_lt RA_STAT_RING_ERR s.regs
    refine (get_writeFlds_w1c (l := RA_STAT_fields) (by decide) (by decide) _ hs.rising).trans ?_
    rw [show RA_STAT_RING_ERR.of (2 ^ 19) = 1 by decide]
    interval_cases s.get RA_STAT_RING_ERR <;> rfl

end Sys2Proof.Machine
end

section
/-! SUPPORT. Links: their engines, flits and sleep (chapter 18). -/
namespace Sys2Proof.Machine

/-! ### A link's engine read back -/

theorem link_q (q : Nat) (s : State) : (link q s).q = q := by
  unfold link
  cases h : s.casc.links.find? (fun x => x.q == q) with
  | none => rfl
  | some x => exact beq_iff_eq.1 (List.find?_some (p := fun x : LinkEng => x.q == q) h)

theorem find?_linkPut_self (x : LinkEng) (l : List LinkEng) : (linkPut x l).find? (fun y => y.q == x.q) = some x := by
  induction l with
  | nil => simp [linkPut]
  | cons y r ih =>
    unfold linkPut
    split
    · simp
    · split
      · simp
      next hne => rw [List.find?_cons_of_neg (by simpa using Ne.symm hne), ih]

theorem find?_linkPut_of_ne {x : LinkEng} {p : Nat} (hp : p ≠ x.q) (l : List LinkEng) :
    (linkPut x l).find? (fun y => y.q == p) = l.find? (fun y => y.q == p) := by
  induction l with
  | nil => simp [linkPut, hp.symm]
  | cons y r ih =>
    unfold linkPut
    split
    · rw [List.find?_cons_of_neg (by simpa using hp.symm)]
    · split
      next heq => rw [List.find?_cons_of_neg (by simpa using hp.symm), List.find?_cons_of_neg (by simpa using heq ▸ hp.symm)]
      · simp only [List.find?_cons, ih]

/-- An engine changed reads as changed. -/
theorem link_modLink {q : Nat} {f : LinkEng → LinkEng} {s : State} (hf : (f (link q s)).q = q) : link q (modLink q f s) = f (link q s) := by
  have h := find?_linkPut_self (f (link q s)) s.casc.links
  rw [hf] at h
  show ((linkPut (f (link q s)) s.casc.links).find? _).getD _ = _
  rw [h]
  rfl

theorem link_modLink_of_ne {p q : Nat} {f : LinkEng → LinkEng} {s : State} (hf : (f (link q s)).q = q) (hp : p ≠ q) :
    link p (modLink q f s) = link p s := by
  show ((linkPut (f (link q s)) s.casc.links).find? _).getD _ = _
  rw [find?_linkPut_of_ne (by rw [hf]; exact hp)]
  rfl

theorem link_congr {s t : State} (h : t.casc.links = s.casc.links) (q : Nat) : link q t = link q s := by
  unfold link
  rw [h]

theorem modLink_regs (q : Nat) (f : LinkEng → LinkEng) (s : State) : (modLink q f s).regs = s.regs := rfl

theorem Narrow.modLink {parts : List Part} {l : List Fld} {s t : State} (h : Narrow parts l s t) (hp : Part.casc ∈ parts) (q : Nat)
    (f : LinkEng → LinkEng) : Narrow parts l s (modLink q f t) :=
  h.trans (((modLink_within (Sub.refl _) (Within.refl _ t)).narrow (parts := [.casc]) (l := l) (by decide)).mono
    (by simpa using hp) (List.Subset.refl _))

theorem Narrow.count {parts : List Part} {l : List Fld} {s t : State} (h : Narrow parts l s t) {f : Fld} (hf : f ∈ l) (n : Nat) :
    Narrow parts l s (t.count f n) := h.set hf _

/-! ### The send queue at rest -/

theorem casSelf_of_head {s : State} (h : ∀ m, s.casc.queue.head? = some m → ¬ (m.dest = s.get CAS_CTL_STATION ∧ m.dest ≠ noStation)) :
    casSelf s = s := by
  unfold casSelf forNat
  generalize List.range 64 = l
  induction l with
  | nil => rfl
  | cons i l ih =>
    have hstep : (match s.casc.queue.head? with
        | some m => if m.dest = s.get CAS_CTL_STATION ∧ m.dest ≠ noStation then casPop s else s
        | none => s) = s := by
      cases hhead : s.casc.queue.head? with
      | none => rfl
      | some m => exact if_neg (h m hhead)
    rw [List.foldl_cons]
    refine Eq.trans ?_ ih
    exact congrArg (fun t => List.foldl _ t l) hstep

theorem casPump_of_empty {q : Nat} {s : State} (h : s.casc.queue = []) : casPump q s = s := by
  unfold casPump
  rw [casSelf_of_head (by rw [h]; intro m hm; exact absurd hm (by simp))]
  dsimp only
  rw [h]
  rfl

/-! ### Flits sent (R408 to R410, R412) -/

/-- A flit that goes out with what the other direction is owed. -/
def flitGo (f : OutFlit) (x : LinkEng) : LinkEng :=
  { x with wire := some (f, (x.expect + 4095) % 4096, x.nakDue, min 7 x.freed), ackDue := false, nakDue := false, freed := x.freed - min 7 x.freed }

theorem flitSend_next {x : LinkEng} {f : OutFlit} (hctl : x.ctlDue = none) (hagain : x.again = x.sent.length) (hnext : nextFlit x = some f)
    (lanes : Nat) : flitSend x lanes = flitGo f { x with
      txq := x.txq.erase f, sent := x.sent ++ [f], again := x.sent.length + 1
      credits := if f.type = .payload then x.credits - 1 else x.credits } := by
  unfold flitSend
  dsimp only
  rw [hctl]
  dsimp only
  rw [List.getElem?_eq_none (by omega)]
  dsimp only
  rw [hnext]
  rfl

theorem flitSend_replay {x : LinkEng} {f : OutFlit} (hctl : x.ctlDue = none) (hagain : x.sent[x.again]? = some f)
    (lanes : Nat) : flitSend x lanes = flitGo f { x with again := x.again + 1 } := by
  unfold flitSend
  dsimp only
  rw [hctl]
  dsimp only
  rw [hagain]
  rfl

theorem exec_flitSend_of_awake {q : Fin 16} {s : State} (hactive : linkActive q.val s = true) (hawake : s.get (LNK_STAT_TXSLEEP q.val) = 0)
    (hqueue : s.casc.queue = []) :
    exec (.flitSend q) s = .next (modLink q.val (fun x => flitSend x (s.get (LNK_STAT_LANES q.val))) s) := by
  show execFlitSend q s = _
  unfold execFlitSend
  rw [casPump_of_empty hqueue]
  exact whenOk_of (by simp [hactive, State.on, hawake]) s _

/-! ### Flits received (R408 to R412) -/

theorem ackTo_keeps (n : Nat) (x : LinkEng) :
    (ackTo n x).q = x.q ∧ (ackTo n x).expect = x.expect ∧ (ackTo n x).rx = x.rx ∧ (ackTo n x).credits = x.credits := by
  unfold ackTo
  dsimp only
  split
  · exact ⟨rfl, rfl, rfl, rfl⟩
  · exact ⟨rfl, rfl, rfl, rfl⟩

/-- The credits that a flit returns do not touch what it acknowledges. -/
theorem ackTo_credits (n c : Nat) (x : LinkEng) : ackTo n { x with credits := c } = { ackTo n x with credits := c } := by
  unfold ackTo
  dsimp only
  split <;> rfl

theorem takeAck_of_noNak {f : Flit} (h : f.nak = false) (x : LinkEng) :
    takeAck f x = (false, ackTo f.ackSeq { x with credits := min 64 (x.credits + f.credits) }) := by
  unfold takeAck
  dsimp only
  rw [if_neg (by simp [h])]

theorem takeAck_of_nak {f : Flit} {x : LinkEng} (h : f.nak = true) (hsent : (ackTo f.ackSeq x).sent ≠ [])
    (hreplays : (ackTo f.ackSeq x).replays < 8) : takeAck f x =
      (false, { ackTo f.ackSeq x with credits := min 64 (x.credits + f.credits), again := 0, replays := (ackTo f.ackSeq x).replays + 1 }) := by
  unfold takeAck
  dsimp only
  rw [ackTo_credits, if_pos (by simpa [h] using hsent), if_neg (by simpa using hreplays)]

theorem ackTo_sent_of_empty {n : Nat} {x : LinkEng} (h : x.sent = []) : (ackTo n x).sent = [] := by
  unfold ackTo
  dsimp only
  split
  · exact h
  · rw [h, List.drop_nil]

theorem exec_flitReceive_good {q : Fin 16} {lane : Fin 4} {f : Flit} {s : State} (hactive : linkActive q.val s = true)
    (hlane : bit (s.get (LNK_STAT_LANES q.val)) lane.val = true) (htype : f.type ≠ .reserved) :
    exec (.flitReceive q lane true f) s = .next (flitGood q.val f s) := by
  show execFlitReceive q lane true f s = _
  unfold execFlitReceive
  rw [if_pos (by simpa using htype)]
  exact whenOk_of (by simp [hactive, hlane]) s _

theorem exec_flitReceive_bad {q : Fin 16} {lane : Fin 4} {f : Flit} {s : State} (hactive : linkActive q.val s = true)
    (hlane : bit (s.get (LNK_STAT_LANES q.val)) lane.val = true) :
    exec (.flitReceive q lane false f) s = .next (flitBad q.val lane.val s) := by
  show execFlitReceive q lane false f s = _
  unfold execFlitReceive
  rw [if_neg (by simp)]
  exact whenOk_of (by simp [hactive, hlane]) s _

/-- A good payload flit: the next one is expected, it is queued and acknowledged, and its credits are added. -/
structure PayloadTaken (q : Nat) (f : Flit) (s t : State) : Prop where
  expect : (link q t).expect = ((link q s).expect + 1) % 4096
  ackDue : (link q t).ackDue = true
  rx : (link q t).rx = (link q s).rx ++ [⟨.payload, f.last, f.payload⟩]
  credits : (link q t).credits = min 64 ((link q s).credits + f.credits)
  awake : t.get (LNK_STAT_RXSLEEP q) = 0
  narrow : Narrow [.casc] [LNK_STAT_RXSLEEP q] s t

theorem flitGood_payload {q : Nat} {f : Flit} {s : State} (hs : Sparse.Rising s.regs) (htype : f.type = .payload) (hnak : f.nak = false) :
    PayloadTaken q f s (flitGood q f s) := by
  obtain ⟨y, hy⟩ : ∃ y, y = ackTo f.ackSeq { link q s with credits := min 64 ((link q s).credits + f.credits) } := ⟨_, rfl⟩
  obtain ⟨hq, hexpect, hrx, hcredits⟩ := ackTo_keeps f.ackSeq { link q s with credits := min 64 ((link q s).credits + f.credits) }
  rw [← hy] at hq hexpect hrx hcredits
  have hlink : link q (modLink q (fun _ => y) (s.set (LNK_STAT_RXSLEEP q) 0)) = y := link_modLink (hq.trans (link_q q s))
  have heq : flitGood q f s = modLink q (fun x => { x with
      expect := (x.expect + 1) % 4096, ackDue := true, rx := x.rx ++ [⟨.payload, f.last, f.payload⟩] })
      (modLink q (fun _ => y) (s.set (LNK_STAT_RXSLEEP q) 0)) := by
    unfold flitGood
    rw [takeAck_of_noNak hnak, ← hy]
    dsimp only
    rw [if_neg (by simp), if_pos (by rw [htype]; rfl), if_neg (by simp [hnak]), htype]
    rfl
  have hafter : link q (flitGood q f s) = { y with
      expect := (y.expect + 1) % 4096, ackDue := true, rx := y.rx ++ [⟨.payload, f.last, f.payload⟩] } := by
    rw [heq, link_modLink (by rw [hlink]; exact hq.trans (link_q q s)), hlink]
  refine ⟨?_, ?_, ?_, ?_, ?_, ?_⟩
  · rw [hafter, ← hexpect]
  · rw [hafter]
  · rw [hafter, ← hrx]
  · rw [hafter]
    exact hcredits
  · rw [heq, get_congr (modLink_regs _ _ _), get_congr (modLink_regs _ _ _)]
    exact get_set_self _ _ hs
  · rw [heq]
    exact ((((Narrow.refl _ _ s).set (by simp) _).modLink (by simp) _ _).modLink (by simp) _ _)

/-- A NAK on an IDLE flit before the limit: what is not acknowledged is sent again, and the replay is counted (R412). -/
structure ReplayBegun (q : Nat) (f : Flit) (s t : State) : Prop where
  again : (link q t).again = 0
  sent : (link q t).sent = (ackTo f.ackSeq (link q s)).sent
  replays : t.get (LNK_ERR_REPLAYS q) = min (s.get (LNK_ERR_REPLAYS q) + 1) 65535
  narrow : Narrow [.casc] [LNK_STAT_RXSLEEP q, LNK_ERR_REPLAYS q] s t

@[simp] theorem LNK_STAT_RXSLEEP_bit (q : Nat) : (LNK_STAT_RXSLEEP q).key % 64 = 9 := Nat.mul_add_mod _ _ _
@[simp] theorem LNK_ERR_REPLAYS_bit (q : Nat) : (LNK_ERR_REPLAYS q).key % 64 = 32 := Nat.mul_add_mod _ _ _

theorem flitGood_nak {q : Nat} {f : Flit} {s : State} (hs : Sparse.Rising s.regs) (htype : f.type = .idle) (hnak : f.nak = true)
    (hsent : (ackTo f.ackSeq (link q s)).sent ≠ []) (hreplays : (ackTo f.ackSeq (link q s)).replays < 8) :
    ReplayBegun q f s (flitGood q f s) := by
  have hnonempty : (link q s).sent ≠ [] := fun h => hsent (ackTo_sent_of_empty h)
  have hq : (ackTo f.ackSeq (link q s)).q = q := (ackTo_keeps f.ackSeq (link q s)).1.trans (link_q q s)
  have heq : flitGood q f s = modLink q (fun _ => { ackTo f.ackSeq (link q s) with
      credits := min 64 ((link q s).credits + f.credits), again := 0, replays := (ackTo f.ackSeq (link q s)).replays + 1 })
      ((s.count (LNK_ERR_REPLAYS q) 1).set (LNK_STAT_RXSLEEP q) 0) := by
    unfold flitGood
    rw [takeAck_of_nak hnak hsent hreplays]
    dsimp only
    rw [if_neg (by simp), if_neg (by rw [htype]; decide), if_neg (by rw [htype]; decide), if_pos (by simp [hnak, hnonempty]), htype]
    rfl
  have hafter := link_modLink (q := q) (s := (s.count (LNK_ERR_REPLAYS q) 1).set (LNK_STAT_RXSLEEP q) 0)
    (f := fun _ => { ackTo f.ackSeq (link q s) with
      credits := min 64 ((link q s).credits + f.credits), again := 0, replays := (ackTo f.ackSeq (link q s)).replays + 1 })
    hq
  rw [← heq] at hafter
  refine ⟨?_, ?_, ?_, ?_⟩
  · rw [hafter]
  · rw [hafter]
  · rw [heq, get_congr (modLink_regs _ _ _), get_set_of_bit _ (by simp)]
    exact get_count_self _ 1 hs
  · rw [heq]
    exact (((Narrow.refl _ _ s).count (by simp) _).set (by simp) _).modLink (by simp) _ _

/-- A bad flit counted on its link and lane, before a lane past the limit is dropped. -/
def flitCounted (q lane : Nat) (s : State) : State :=
  modLink q (fun x => { x with nakDue := true, laneErr := spSet lane (spGet lane (link q s).laneErr + 1) x.laneErr })
    ((s.count (LNK_ERR_CRC_ERR q) 1).count (LANE_STAT_ERRORS (4 * q + lane)) 1)

theorem flitBad_eq (q lane : Nat) (s : State) : flitBad q lane s =
    if spGet lane (link q s).laneErr + 1 > s.get (LNK_CTL_DEG_LIM q) then dropLane q lane (flitCounted q lane s) else flitCounted q lane s := by
  have hlim : (flitCounted q lane s).get (LNK_CTL_DEG_LIM q) = s.get (LNK_CTL_DEG_LIM q) := by
    unfold flitCounted
    rw [get_congr (modLink_regs _ _ _)]
    refine (get_set_of_win _ (LNK_CTL_DEG_LIM_win q) (LANE_STAT_ERRORS_win _) (by decide) _).trans (get_set_of_ne _ ?_ _)
    simp only [LNK_CTL_DEG_LIM, LNK_ERR_CRC_ERR]
    omega
  rw [← hlim]
  rfl

theorem flitCounted_crc {q lane : Nat} {s : State} (hs : Sparse.Rising s.regs) :
    (flitCounted q lane s).get (LNK_ERR_CRC_ERR q) = min (s.get (LNK_ERR_CRC_ERR q) + 1) (2 ^ 32 - 1) :=
  (get_set_of_win _ (LNK_ERR_CRC_ERR_win q) (LANE_STAT_ERRORS_win _) (by decide) _).trans (get_count_self _ 1 hs)

theorem flitCounted_lane {q lane : Nat} {s : State} (hs : Sparse.Rising s.regs) : (flitCounted q lane s).get (LANE_STAT_ERRORS (4 * q + lane)) =
    min (s.get (LANE_STAT_ERRORS (4 * q + lane)) + 1) (2 ^ 32 - 1) := by
  refine (get_count_self (s := s.count (LNK_ERR_CRC_ERR q) 1) _ 1 (rising_set _ _ hs)).trans ?_
  rw [State.count, get_set_of_win _ (LANE_STAT_ERRORS_win _) (LNK_ERR_CRC_ERR_win q) (by decide)]
  rfl

theorem flitCounted_narrow (q lane : Nat) (s : State) :
    Narrow [.casc] [LNK_ERR_CRC_ERR q, LANE_STAT_ERRORS (4 * q + lane)] s (flitCounted q lane s) :=
  (((Narrow.refl _ _ s).count (by simp) 1).count (by simp) 1).modLink (by simp) _ _

theorem link_flitCounted (q lane : Nat) (s : State) : link q (flitCounted q lane s) =
    { link q s with nakDue := true, laneErr := spSet lane (spGet lane (link q s).laneErr + 1) (link q s).laneErr } :=
  link_modLink (link_q q s)

/-! ### Retraining (R404, R411) -/

@[simp] theorem LNK_STAT_STATE_bit (q : Nat) : (LNK_STAT_STATE q).key % 64 = 0 := Nat.mul_add_mod _ _ _
@[simp] theorem LNK_STAT_LANES_bit (q : Nat) : (LNK_STAT_LANES q).key % 64 = 12 := Nat.mul_add_mod _ _ _
@[simp] theorem LNK_STAT_WIDTH_bit (q : Nat) : (LNK_STAT_WIDTH q).key % 64 = 10 := Nat.mul_add_mod _ _ _
@[simp] theorem LNK_STAT_TXSLEEP_bit (q : Nat) : (LNK_STAT_TXSLEEP q).key % 64 = 8 := Nat.mul_add_mod _ _ _

theorem lnkGo_state {q st : Nat} {s : State} (hs : Sparse.Rising s.regs) : (lnkGo q st s).get (LNK_STAT_STATE q) = st % 8 := by
  have hset : ((((((s.set (LNK_STAT_STATE q) st).set (LNK_STAT_LANES q) 0).set (LNK_STAT_WIDTH q) 0).set (LNK_STAT_RXSLEEP q) 0).set
      (LNK_STAT_TXSLEEP q) 0).get (LNK_STAT_STATE q)) = st % 8 := by
    simp (disch := simp) only [get_set_of_bit]
    exact get_set_self _ st hs
  unfold lnkGo
  dsimp only
  split
  · exact ((upDown_within (Sub.refl _) (Within.refl _ _)).get (by rw [LNK_STAT_STATE_win]; decide)).trans hset
  · exact hset

/-- The lanes of a link as the start of TRAIN leaves them: none locked, none in use. -/
def lanesAtRest (q : Nat) (s : State) : State :=
  setLanes q LANE_STAT_GOOD 0 (setLanes q LANE_STAT_SYMLOCK 0 (setLanes q LANE_STAT_BITLOCK 0 s))

theorem setLanes_zero_within {f : Nat → Fld} (hf : ∀ n, winBit (f n).key = 103) {q : Nat} {s t : State}
    (h : Within 0x80000000000000000000800000 s t) : Within 0x80000000000000000000800000 s (setLanes q f 0 t) :=
  setLanes_within (by decide) (fun n => inMask (hf n) (by decide)) h

theorem lanesAtRest_within (q : Nat) (s : State) : Within 0x80000000000000000000800000 s (lanesAtRest q s) :=
  setLanes_zero_within LANE_STAT_GOOD_win (setLanes_zero_within LANE_STAT_SYMLOCK_win
    (setLanes_zero_within LANE_STAT_BITLOCK_win (Within.refl _ s)))

/-- Past the change of state, the start of TRAIN writes lanes and taps alone. -/
theorem beginTrain_lanes (q : Nat) (s : State) : Within 0x80000000000000000000800000 (lnkGo q lnkTrain s) (beginTrain q s) := by
  have hlanes := lanesAtRest_within q (lnkGo q lnkTrain s)
  unfold lanesAtRest at hlanes
  unfold beginTrain
  exact forNat_within (fun _ _ ht => Within.casc_ (by decide) ht) _ hlanes

theorem beginTrain_state {q : Nat} {s : State} (hs : Sparse.Rising s.regs) : (beginTrain q s).get (LNK_STAT_STATE q) = lnkTrain := by
  rw [(beginTrain_lanes q s).get (by rw [LNK_STAT_STATE_win]; decide), lnkGo_state hs]
  rfl

theorem retrain_state {q : Nat} {s : State} (hs : Sound s) : (retrain q s).get (LNK_STAT_STATE q) = lnkTrain := by
  have hleft : Within 0xC s (lnkLeft q causeRetrain s) := lnkLeft_within (Sub.refl _) (Within.refl _ s)
  unfold retrain
  rw [get_congr (modLink_regs _ _ _)]
  exact beginTrain_state (hleft.rising hs)

theorem retrain_laneErr (q : Nat) (s : State) : (link q (retrain q s)).laneErr = [] := by
  unfold retrain
  rw [link_modLink (link_q q _)]

theorem dropLane_x1 {q i : Nat} {s : State} (h : s.get (LNK_STAT_WIDTH q) = 0) : dropLane q i s = retrain q s := if_pos (.inl h)

end Sys2Proof.Machine
end

section
/-! SUPPORT. Cascade (chapter 18): messages, time, and the statement of its commands. -/
namespace Sys2Proof.Machine

theorem flitCounted_within (q lane : Nat) (s : State) : Within 0xC0000000000000000000800000 s (flitCounted q lane s) :=
  modLink_within (by decide) (State.count_within (by decide) (inMask (LANE_STAT_ERRORS_win _) (by decide))
    (State.count_within (by decide) (inMask (LNK_ERR_CRC_ERR_win _) (by decide)) (Within.refl _ s)))

/-! ### Where a message goes (R416) -/

theorem casRoute_of_sameRegs {s t : State} (h : t.regs = s.regs) (src : Option Nat) (dest : Nat) :
    casRoute src dest t = casRoute src dest s := by
  unfold casRoute activeLinks linkActive State.on
  simp only [get_congr h]

theorem casRoute_self {src : Option Nat} {s : State} (h : s.get CAS_CTL_STATION ≠ noStation) :
    casRoute src (s.get CAS_CTL_STATION) s = (true, []) := by
  unfold casRoute
  dsimp only
  rw [if_neg h, if_neg h, if_pos rfl]

section
variable {src : Option Nat} {flits : List OutFlit} {dest : Nat} {s : State}
  (hdest : flits.head?.map (fun f => ofBytes (f.payload.take 8) % 2 ^ 18) = some dest)
include hdest

theorem casDeliver_link {p : Nat} (h : casRoute src dest s = (false, [p])) :
    casDeliver src flits s = modLink p (fun x => { x with txq := x.txq ++ flits }) s := by
  obtain ⟨f, hf, rfl⟩ := Option.map_eq_some_iff.1 hdest
  unfold casDeliver
  rw [hf]
  dsimp only
  rw [h]
  rfl

theorem casDeliver_nowhere (h : casRoute src dest s = (false, [])) :
    casDeliver src flits s = raise 0x0F08 [⟨3, dest⟩] (s.count CAS_STAT_NOROUTE 1) := by
  obtain ⟨f, hf, rfl⟩ := Option.map_eq_some_iff.1 hdest
  unfold casDeliver
  rw [hf]
  dsimp only
  rw [h]
  rfl

theorem casDeliver_ring (h : casRoute src dest s = (true, [])) : casDeliver src flits s = casStore flits s := by
  obtain ⟨f, hf, rfl⟩ := Option.map_eq_some_iff.1 hdest
  unfold casDeliver
  rw [hf]
  dsimp only
  rw [h]
  rfl
end

/-! ### The receive ring (R418) -/

theorem putLinesFor_unkeyed (src line : Nat) {l : List (Option Nat)} (hl : ∀ r ∈ l, r = none) (b : List Byte) (s : State) :
    (putLinesFor src line (2 ^ 64 - 1) l b s).1 = .done := by
  induction l generalizing line b s with
  | nil => rfl
  | cons r l ih =>
    obtain ⟨rfl, hrest⟩ := List.forall_mem_cons.1 hl
    have hline : (putLineFor none src line (2 ^ 64 - 1) (b.take 64) s).1 = .done := congrArg Prod.fst (if_pos (by decide))
    unfold putLinesFor
    dsimp only
    rw [if_pos hline]
    exact ih (line + 1) hrest _ _

/-- Whole lines outside the keyed regions are stored. -/
theorem hbmSave_unkeyed {src a n : Nat} {s : State} (hsize : a + 64 * n ≤ hbmSize) (hmay : hbmDenies src a (64 * n) true = false)
    (hpair : pairRefusesAt a n s = none) (hreg : ∀ k < n, encRegion (64 * (a / 64 + k)) s = none) (b : List Byte) :
    (hbmSave src a n b s).1 = .done := by
  have hregions : ∀ r ∈ regionsOf (a / 64) n (takeLines (classOf src) n s), r = none := by
    intro r hr
    obtain ⟨k, hk, rfl⟩ := List.mem_map.1 hr
    rw [encRegion_of_sameRegs (takeLines_sameLines _ _ _).regs, hreg k (List.mem_range.1 hk)]
  unfold hbmSave
  rw [if_neg (by omega), if_neg (by rw [hmay]; decide), hpair]
  exact putLinesFor_unkeyed src _ hregions b _

theorem nocSave_unkeyed {src a n : Nat} {s : State} (hnoc : (nocReach src a (ceilDiv n 4) (ceilDiv n 4 + 2 * n) s).1 = none)
    (hsize : a + 64 * n ≤ hbmSize) (hmay : hbmDenies src a (64 * n) true = false)
    (hpair : pairRefusesAt a n s = none) (hreg : ∀ k < n, encRegion (64 * (a / 64 + k)) s = none) (b : List Byte) :
    (nocSave src a n b s).1 = .done := by
  obtain ⟨cr, cf, hreach⟩ := nocReach_of_carried hnoc
  unfold nocSave
  rw [hreach]
  exact hbmSave_unkeyed (s := nocCounted cr cf s) hsize hmay hpair hreg b

/-- A message for the ring where it has no room. -/
theorem casStore_full {s : State} (h : casRingSize s ≤ wrap 32 ((s.get CAS_RX_PTR_WR : Int) - s.get CAS_RX_PTR_RD)) (flits : List OutFlit) :
    casStore flits s = casDrop s := if_pos (.inr h)

theorem casStore_room {s : State} (hroom : casRingSize s ≠ 0 ∧ wrap 32 ((s.get CAS_RX_PTR_WR : Int) - s.get CAS_RX_PTR_RD) < casRingSize s)
    (hsave : ∀ b, (nocSave 51 (s.get CAS_RX_CFG_BASE + 512 * (s.get CAS_RX_PTR_WR % casRingSize s)) 8 b s).1 = .done) (flits : List OutFlit) :
    ∃ b, casStore flits s = (nocSave 51 (s.get CAS_RX_CFG_BASE + 512 * (s.get CAS_RX_PTR_WR % casRingSize s)) 8 b s).2.set CAS_RX_PTR_WR
      (s.get CAS_RX_PTR_WR + 1) := by
  refine ⟨flits.flatMap (·.payload) ++ List.replicate (512 - (flits.flatMap (·.payload)).length) 0, ?_⟩
  unfold casStore
  dsimp only
  rw [if_neg (by omega), if_pos (hsave _)]

/-! ### Messages received (R416, R418) -/

/-- A link that gives up the oldest whole message it has received: its credits go back. -/
def messageTaken (q i : Nat) (s : State) : State :=
  modLink q (fun y => { y with rx := y.rx.drop (i + 1), freed := y.freed + i + 1 }) s

theorem messageTaken_regs (q i : Nat) (s : State) : (messageTaken q i s).regs = s.regs := rfl

/-- What a link holds does not bear on where a request may go. -/
theorem nocReach_messageTaken (q i src a reqs flits : Nat) (s : State) :
    (nocReach src a reqs flits (messageTaken q i s)).1 = (nocReach src a reqs flits s).1 := by
  unfold nocReach
  cases targetOf a with
  | none => rfl
  | some t =>
    have hroute : routeRefused src t (messageTaken q i s) = routeRefused src t s := rfl
    dsimp only
    rw [hroute]
    split <;> rfl

theorem link_messageTaken (q i : Nat) (s : State) :
    link q (messageTaken q i s) = { link q s with rx := (link q s).rx.drop (i + 1), freed := (link q s).freed + i + 1 } :=
  link_modLink (link_q q s)

theorem exec_messageReceive_of_whole {q : Fin 16} {i : Nat} {s : State} (h : (link q.val s).rx.findIdx? (·.last) = some i) :
    exec (.messageReceive q) s = .next (casDeliver (some q.val) ((link q.val s).rx.take (i + 1)) (messageTaken q.val i s)) := by
  show execMessageReceive q s = _
  unfold execMessageReceive
  dsimp only
  rw [h]
  rfl

theorem head?_take_succ {α : Type} (l : List α) (i : Nat) : (l.take (i + 1)).head? = l.head? := by
  cases l <;> rfl

/-! ### Messages sent (R417) -/

/-- What a valid write of CAS_SEND asks. -/
abbrev SendValid (a : Agent) (v : Nat) (s : State) : Prop :=
  (lanesWriter a = true ∨ a.core03 = true) ∧ (CAS_SEND_ADDR.of v % 64 = 0 ∧ CAS_SEND_ADDR.of v + 32 * (CAS_SEND_LEN.of v + 1) ≤ hbmSize) ∧
    (CAS_SEND_DEST.of v < 250000 ∨ CAS_SEND_DEST.of v = noStation) ∧ s.get CAS_CTL_STATION ≠ noStation

/-- The message that a write of CAS_SEND names. -/
def sendMsg (v : Nat) : CasMsg := ⟨CAS_SEND_TAG.of v, CAS_SEND_DEST.of v, CAS_SEND_LEN.of v + 1, CAS_SEND_ADDR.of v⟩

/-- A message joins the send queue. -/
def sendQueued (v : Nat) (s : State) : State := { s with casc := { s.casc with queue := s.casc.queue ++ [sendMsg v] } }

theorem wrCasSend_of_valid {a : Agent} {v : Nat} {s : State} (h : SendValid a v s) : wrCasSend a v s =
    if s.casc.queue.length ≥ 64 ∨ !casLeads (CAS_SEND_DEST.of v) s then (.retry, s) else (.done, casSelf (sendQueued v s)) := by
  obtain ⟨hwriter, haddr, hdest, hstation⟩ := h
  unfold wrCasSend
  dsimp only
  rw [if_neg (by rcases hwriter with h | h <;> simp [h]), if_neg (by omega)]
  rfl

theorem exec_casSend_queued {a : Agent} {v : Nat} {s : State} (h : SendValid a v s)
    (hroom : s.casc.queue.length < 64 ∧ casLeads (CAS_SEND_DEST.of v) s = true) :
    exec (.casSend a v) s = .next (answer .done (casSelf (sendQueued v s))) := by
  show ok (answered (wrCasSend a v s)) = _
  rw [wrCasSend_of_valid h, if_neg (by simp [hroom.1, hroom.2])]
  generalize casSelf (sendQueued v s) = t
  rfl

theorem exec_casSend_retry {a : Agent} {v : Nat} {s : State} (h : SendValid a v s)
    (hfull : 64 ≤ s.casc.queue.length ∨ casLeads (CAS_SEND_DEST.of v) s = false) :
    exec (.casSend a v) s = .next (answer .retry s) := by
  show ok (answered (wrCasSend a v s)) = _
  rw [wrCasSend_of_valid h, if_pos (by simpa using hfull)]
  rfl

/-! ### Time (R420 to R424) -/

theorem casEval_casc (s : State) : (casEval s).casc = s.casc := by
  unfold casEval
  dsimp only
  split
  · exact raise_casc _ _ _
  · split
    · exact raise_casc _ _ _
    · rfl

theorem get_casEval {f : Fld} (hf : f.key ≠ CAS_TIME_VALID.key) (s : State) : (casEval s).get f = s.get f := by
  unfold casEval
  dsimp only
  split
  · rw [get_raise, get_set_of_ne _ hf]
  · split
    · rw [get_raise, get_set_of_ne _ hf]
    · rfl

/-- The registers of the time that a TIME flit gives. -/
def timeNoted (f : TimeFlit) (s : State) : State :=
  (((s.setIf (f.delayOk && decide (f.delay ≤ f.lead)) CAS_TIME_DELAY f.delay).set CAS_TIME_HOLD (if f.hold then 1 else 0)).set CAS_TIME_HOPS
    (min 15 (f.hops + 1))).set CAS_TIME_BEYOND (if min 15 (f.hops + 1) > 6 then 1 else 0)

/-- What the registers of the time read after a TIME flit. -/
structure TimeRead (f : TimeFlit) (s t : State) : Prop where
  hops : t.get CAS_TIME_HOPS = min 15 (f.hops + 1)
  beyond : t.get CAS_TIME_BEYOND = if 6 ≤ f.hops then 1 else 0
  delay : t.get CAS_TIME_DELAY = if f.delayOk = true ∧ f.delay ≤ f.lead then f.delay % 2 ^ 24 else s.get CAS_TIME_DELAY
  hold : t.get CAS_TIME_HOLD = if f.hold then 1 else 0

theorem timeNoted_fields (f : TimeFlit) {s : State} (hs : Sparse.Rising s.regs) : TimeRead f s (timeNoted f s) := by
  obtain ⟨u, hu⟩ : ∃ u, u = s.setIf (f.delayOk && decide (f.delay ≤ f.lead)) CAS_TIME_DELAY f.delay := ⟨_, rfl⟩
  have hrising : Sparse.Rising u.regs := by
    rw [hu, State.setIf]
    split
    · exact rising_set _ _ hs
    · exact hs
  have hdelay : u.get CAS_TIME_DELAY = if f.delayOk = true ∧ f.delay ≤ f.lead then f.delay % 2 ^ 24 else s.get CAS_TIME_DELAY := by
    rw [hu, State.setIf]
    by_cases h : f.delayOk = true ∧ f.delay ≤ f.lead
    · rw [if_pos h, if_pos (by simpa using h)]
      exact get_set_self _ _ hs
    · rw [if_neg h, if_neg (by simpa using h)]
  unfold timeNoted
  rw [← hu]
  refine ⟨?_, ?_, ?_, ?_⟩
  · rw [get_set_of_ne _ (by decide), get_set_self _ _ (rising_set _ _ hrising)]
    exact Nat.mod_eq_of_lt (show min 15 (f.hops + 1) < 16 by omega)
  · rw [get_set_self _ _ (rising_set _ _ (rising_set _ _ hrising))]
    by_cases h : 6 ≤ f.hops
    · rw [if_pos h, if_pos (by omega)]
      rfl
    · rw [if_neg h, if_neg (by omega)]
      rfl
  · rw [get_set_of_ne _ (by decide), get_set_of_ne _ (by decide), get_set_of_ne _ (by decide)]
    exact hdelay
  · rw [get_set_of_ne _ (by decide), get_set_of_ne _ (by decide), get_set_self _ _ hrising]
    cases f.hold <;> rfl

/-- A TIME flit taken, before what it means for the time's validity: the next tick is placed and an ECHO goes first. -/
theorem exec_timeFlitReceive_of_up {q : Fin 16} {arrival turn : Nat} {f : TimeFlit} {s : State} (hactive : linkActive q.val s = true)
    (hrole : s.get (LNK_CTL_ROLE q.val) = 1) : ∃ (t : State) (c : CascSt), t.regs = (timeNoted f s).regs ∧ c.links = s.casc.links ∧
      c.next = some ⟨f.count, f.period, (arrival : Int) + f.lead - f.delay⟩ ∧
      exec (.timeFlitReceive q arrival turn f) s = .next (casEval (modLink q.val (fun x => { x with
        txq := ⟨.echo, false, toBytes 4 turn ++ toBytes 6 f.count ++ toBytes 22 0⟩ :: x.txq }) { t with casc := c })) := by
  refine ⟨if min 15 (f.hops + 1) > 6 ∧ !s.on CAS_TIME_BEYOND then raise 0x0F07 [⟨1, min 15 (f.hops + 1)⟩] (timeNoted f s) else timeNoted f s,
    { (if min 15 (f.hops + 1) > 6 ∧ !s.on CAS_TIME_BEYOND then raise 0x0F07 [⟨1, min 15 (f.hops + 1)⟩] (timeNoted f s)
        else timeNoted f s).casc with
      next := some ⟨f.count, f.period, (arrival : Int) + f.lead - f.delay⟩, lastOk := f.delayOk && decide (f.delay ≤ f.lead)
      fresh := f.delayOk && decide (f.delay ≤ f.lead) }, ?_, ?_, rfl, whenOk_of (by simp [hactive, State.on, hrole]) s _⟩
  · split
    · exact raise_regs _ _ _
    · rfl
  · have hnoted : (timeNoted f s).casc = s.casc := by
      unfold timeNoted State.setIf
      split <;> rfl
    split
    · rw [raise_casc, hnoted]
    · rw [hnoted]

/-- Values of a delay kept: the newest last, at most sixteen. -/
theorem delays_append (l : List Int) (d : Int) (h : l.length ≤ 16) :
    ((l ++ [d]).drop (l.length + 1 - 16)).getLast? = some d ∧ ((l ++ [d]).drop (l.length + 1 - 16)).length = min 16 (l.length + 1) := by
  rw [List.drop_append_of_le_length (by omega)]
  refine ⟨List.getLast?_concat, ?_⟩
  rw [List.length_append, List.length_drop, List.length_singleton]
  omega

/-- Settles O36: one clause per command; each rests on the engine of the link read back after its change. -/
theorem cascadeCommandsComplete : Obligations.CascadeCommandsComplete := by
  unfold Obligations.CascadeCommandsComplete
  refine ⟨?send, ?replay, ?payload, ?bad, ?dropped, ?nak, ?sleep, ?wake, ?queuedAny, ?queued, ?retry, ?forwarded, ?nowhere, ?stored,
    ?full, ?timeSent, ?timeTaken, ?echo⟩
  case send =>
    intro q f s _ hactive hawake hqueue hrest hnext
    have he := exec_flitSend_of_awake hactive hawake hqueue
    have hlink := flitSend_next hrest.1 hrest.2 hnext (s.get (LNK_STAT_LANES q.val))
    have hafter := (link_modLink (q := q.val) (s := s) (f := fun x => flitSend x (s.get (LNK_STAT_LANES q.val)))
      (by rw [hlink]; exact link_q _ s)).trans hlink
    refine ⟨_, he, ?_, ?_, ?_, ?_, ?_, ?_, (Narrow.refl _ _ s).modLink (by simp) _ _⟩
    all_goals rw [hafter]; rfl
  case replay =>
    intro q s _ hactive hawake hqueue hrest
    obtain ⟨hctl, hagain⟩ := hrest
    have he := exec_flitSend_of_awake hactive hawake hqueue
    have hlink := flitSend_replay hctl (List.getElem?_eq_getElem hagain) (s.get (LNK_STAT_LANES q.val))
    have hafter := (link_modLink (q := q.val) (s := s) (f := fun x => flitSend x (s.get (LNK_STAT_LANES q.val)))
      (by rw [hlink]; exact link_q _ s)).trans hlink
    refine ⟨_, he, ?_, ?_, ?_, ?_, ?_, (Narrow.refl _ _ s).modLink (by simp) _ _⟩
    · rw [hafter]
      rfl
    · rw [hafter, List.getElem?_eq_getElem hagain]
      rfl
    all_goals rw [hafter]; rfl
  case payload =>
    intro q lane f s hs hactive hlane hf
    have htaken := flitGood_payload (q := q.val) (f := f) hs.rising hf.1 hf.2
    exact ⟨_, exec_flitReceive_good hactive hlane (by rw [hf.1]; decide), htaken.expect, htaken.ackDue, htaken.rx, htaken.credits,
      htaken.awake, htaken.narrow⟩
  case bad =>
    intro q lane f s hs hactive hlane hlim
    have he := exec_flitReceive_bad (f := f) hactive hlane
    rw [flitBad_eq, if_neg (by omega)] at he
    refine ⟨_, he, ?_, ?_, ?_, flitCounted_crc hs.rising, flitCounted_lane hs.rising, flitCounted_narrow _ _ s⟩
    all_goals rw [link_flitCounted]
  case dropped =>
    intro q lane f s hs hactive hlane hlim hwidth
    have he := exec_flitReceive_bad (f := f) hactive hlane
    have hcounted := flitCounted_narrow q.val lane.val s
    have hwidth' : (flitCounted q.val lane.val s).get (LNK_STAT_WIDTH q.val) = 0 := by
      refine (hcounted.regs _ ?_).trans hwidth
      intro g hg
      rcases List.mem_cons.1 hg with rfl | hg
      · simp only [LNK_STAT_WIDTH, LNK_ERR_CRC_ERR]
        omega
      · rw [List.mem_singleton.1 hg]
        exact key_ne_of_win (LNK_STAT_WIDTH_win _) (LANE_STAT_ERRORS_win _) (by decide)
    have hsound : Sound (flitCounted q.val lane.val s) := (flitCounted_within q.val lane.val s).sound hs
    rw [flitBad_eq, if_pos (by omega), dropLane_x1 hwidth'] at he
    exact ⟨_, he, retrain_state hsound, retrain_laneErr _ _, ((execFlitReceive_within (Sub.refl _) (Within.refl _ s)).of_next he).frame
      (by decide)⟩
  case nak =>
    intro q lane f s hs hactive hlane hf hsent hreplays
    have hbegun := flitGood_nak (q := q.val) hs.rising hf.1 hf.2 hsent hreplays
    exact ⟨_, exec_flitReceive_good hactive hlane (by rw [hf.1]; decide), hbegun.again, hbegun.sent, hbegun.replays, hbegun.narrow⟩
  case sleep =>
    intro q s hs hactive hen hawake htime hidle
    have he : exec (.linkSleep q) s = .next (modLink q.val (fun x => { x with
        wire := some (⟨.sleep, false, []⟩, (x.expect + 4095) % 4096, false, 0) }) (s.set (LNK_STAT_TXSLEEP q.val) 1)) :=
      whenOk_of (by rcases htime with h | h <;> simp [hactive, State.on, hen, hawake, hidle, h]) s _
    refine ⟨_, he, (get_congr (modLink_regs _ _ _) _).trans (get_set_self _ _ hs.rising), ?_, ((Narrow.refl _ _ s).set (by simp) _).modLink (by simp) _ _⟩
    rw [link_modLink (link_q _ _)]
    rfl
  case wake =>
    intro q s hs hasleep hidle
    exact ⟨_, whenOk_of (by simp [State.on, hasleep, hidle]) s _, get_set_self _ _ hs.rising, (Narrow.refl _ _ s).set (by simp) _⟩
  case queuedAny =>
    intro a v s _ hwriter haddr hdest hstation hroom
    have he := exec_casSend_queued ⟨hwriter, haddr, hdest, hstation⟩ hroom
    exact ⟨_, he, rfl, ((execCasSend_within (Sub.refl _) (Within.refl _ s)).of_next he).frame (by decide)⟩
  case queued =>
    intro a v s _ hwriter haddr hdest hstation hroom hhead
    have he := exec_casSend_queued ⟨hwriter, haddr, hdest, hstation⟩ hroom
    rw [casSelf_of_head] at he
    · exact ⟨_, he, rfl, rfl, ((Within.resp_ (A := 0x800001) (by decide) (Within.casc_ (by decide) (Within.refl _ s))).narrow (by decide))⟩
    · intro m hm hself
      have hown : m.dest = s.get CAS_CTL_STATION := hself.1
      exact hhead (by rw [← hown]; exact congrArg (Option.map (·.dest)) hm)
  case retry =>
    intro a v s _ hwriter haddr hdest hstation hfull
    exact ⟨_, exec_casSend_retry ⟨hwriter, haddr, hdest, hstation⟩ hfull, rfl, (Narrow.refl _ _ s).answer (by simp) _⟩
  case forwarded =>
    intro q i p dest s _ hwhole hdest _ hroute hp
    have he := exec_messageReceive_of_whole hwhole
    rw [casDeliver_link (dest := dest) (by rw [head?_take_succ]; exact hdest)
      ((casRoute_of_sameRegs (messageTaken_regs _ _ s) _ _).trans hroute)] at he
    refine ⟨_, he, ?_, ?_, ?_, ((Narrow.refl _ _ s).modLink (by simp) _ _).modLink (by simp) _ _⟩
    · rw [link_modLink (link_q _ _)]
      show (link p (messageTaken q.val i s)).txq ++ _ = _
      rw [messageTaken, link_modLink_of_ne (link_q q.val s) hp]
    · rw [link_modLink_of_ne (link_q _ _) hp.symm, link_messageTaken]
    · rw [link_modLink_of_ne (link_q _ _) hp.symm, link_messageTaken]
  case nowhere =>
    intro q i dest s hs hwhole hdest hroute
    have he := exec_messageReceive_of_whole hwhole
    rw [casDeliver_nowhere (dest := dest) (by rw [head?_take_succ]; exact hdest)
      ((casRoute_of_sameRegs (messageTaken_regs _ _ s) _ _).trans hroute)] at he
    refine ⟨_, he, ?_, ?_, ?_, (((Narrow.refl _ _ s).modLink (by simp) _ _).count (by simp) _).raise (by simp) _ _⟩
    · rw [get_raise]
      exact get_count_self (s := messageTaken q.val i s) CAS_STAT_NOROUTE 1 hs.rising
    · rw [link_congr (s := messageTaken q.val i s) (by rw [raise_casc]; rfl), link_messageTaken]
    · exact raises_of_raise (t := (messageTaken q.val i s).count CAS_STAT_NOROUTE 1) (get_set_of_ne _ (by decide) _) rfl
  case stored =>
    intro q i s hs hwhole hdest hstation hroom hsize hnoc hmay hpair hreg
    have he := exec_messageReceive_of_whole hwhole
    rw [casDeliver_ring (dest := s.get CAS_CTL_STATION) (by rw [head?_take_succ]; exact hdest)
      ((casRoute_of_sameRegs (messageTaken_regs _ _ s) _ _).trans (casRoute_self hstation))] at he
    obtain ⟨b, hb⟩ := casStore_room (s := messageTaken q.val i s) hroom
      (fun b => nocSave_unkeyed (s := messageTaken q.val i s) ((nocReach_messageTaken _ _ _ _ _ _ s).trans hnoc) hsize hmay hpair (fun k hk => hreg ⟨k, hk⟩) b) ((link q.val s).rx.take (i + 1))
    have hsave : Within 0x20A00000002000000884180C s (nocSave 51 (s.get CAS_RX_CFG_BASE + 512 * (s.get CAS_RX_PTR_WR % casRingSize s)) 8 b
        (messageTaken q.val i s)).2 := nocSave_within (by decide) (modLink_within (by decide) (Within.refl _ s))
    have hframe := (execMessageReceive_within (Sub.refl _) (Within.refl _ s)).of_next he
    rw [hb] at he hframe
    refine ⟨_, he, get_set_self _ _ (hsave.rising hs), ?_, hframe.frame (by decide)⟩
    rw [get_set_of_ne _ (by decide)]
    exact hsave.get (by decide)
  case full =>
    intro q i s hs hwhole hdest hstation hfull
    have he := exec_messageReceive_of_whole hwhole
    rw [casDeliver_ring (dest := s.get CAS_CTL_STATION) (by rw [head?_take_succ]; exact hdest)
      ((casRoute_of_sameRegs (messageTaken_regs _ _ s) _ _).trans (casRoute_self hstation)), casStore_full (s := messageTaken q.val i s) hfull] at he
    exact ⟨_, he, get_count_self (s := messageTaken q.val i s) CAS_STAT_RX_DROP 1 hs.rising,
      (((Narrow.refl _ _ s).modLink (by simp) _ _).count (by simp) _).within (Within.casc_ (A := 0x800000) (by decide) (Within.refl _ _)) (by decide)⟩
  case timeSent =>
    intro q t1 s _ hactive hrole
    refine ⟨_, whenOk_of (by simp [hactive, State.on, hrole.1, hrole.2]) s _, ?_, ?_, (Narrow.refl _ _ s).modLink (by simp) _ _⟩
    · rw [link_modLink (link_q _ _)]
    · rw [link_modLink (link_q _ _)]
  case timeTaken =>
    intro q arrival turn f s hs hactive hrole
    obtain ⟨t, c, hregs, hlinks, hnext, he⟩ := exec_timeFlitReceive_of_up (arrival := arrival) (turn := turn) (f := f) hactive hrole
    have hget {g : Fld} (hg : g.key ≠ CAS_TIME_VALID.key) := (get_casEval hg (modLink q.val (fun x => { x with
        txq := ⟨.echo, false, toBytes 4 turn ++ toBytes 6 f.count ++ toBytes 22 0⟩ :: x.txq }) { t with casc := c })).trans
      (get_congr hregs g)
    have htime := timeNoted_fields f hs.rising
    refine ⟨_, he, (hget (by decide)).trans htime.hops, (hget (by decide)).trans htime.beyond, (hget (by decide)).trans htime.delay,
      (hget (by decide)).trans htime.hold, ?_, ?_, ((execTimeFlitReceive_within (Sub.refl _) (Within.refl _ s)).of_next he).frame (by decide)⟩
    · rw [casEval_casc]
      exact hnext
    · rw [link_congr (congrArg CascSt.links (casEval_casc _)), link_modLink (link_q _ _)]
      exact congrArg (fun x => _ :: LinkEng.txq x) (link_congr (t := { t with casc := c }) hlinks q.val)
  case echo =>
    intro q t4 turn count t1 s _ hactive hsent hlane hlen
    obtain ⟨hlast, hlength⟩ := delays_append (link q.val s).delays ((t4 : Int) - t1 - turn + sext 16 (s.get (LNK_ASYM_ASYM q.val))) hlen
    have he : exec (.echoReceive q t4 turn count) s = .next (modLink q.val (fun y => { y with
        timeSent := none, delayLane := lowestLane q.val s
        delays := ((link q.val s).delays ++ [(t4 : Int) - t1 - turn + sext 16 (s.get (LNK_ASYM_ASYM q.val))]).drop
          ((link q.val s).delays.length + 1 - 16) }) s) := by
      show execEchoReceive q t4 turn count s = _
      unfold execEchoReceive
      dsimp only
      rw [hsent, if_pos hlane]
      exact whenOk_of (by simp [hactive]) s _
    refine ⟨_, he, ?_, ?_, ?_, (Narrow.refl _ _ s).modLink (by simp) _ _⟩
    · rw [link_modLink (link_q _ _)]
    · rw [link_modLink (link_q _ _)]
      exact hlast
    · rw [link_modLink (link_q _ _)]
      exact hlength

end Sys2Proof.Machine
end

section
/-! SUPPORT. The control cluster (chapter 19): mailboxes, interrupts, locks and watchdogs. -/
namespace Sys2Proof.Machine

/-- What a one-bit field reads as a condition. -/
theorem on_of_eq_one {f : Fld} {s : State} (h : s.get f = 1) : s.on f = true := by
  unfold State.on
  rw [h]
  rfl

theorem on_of_eq_zero {f : Fld} {s : State} (h : s.get f = 0) : s.on f = false := by
  unfold State.on
  rw [h]
  rfl

/-! ### Mailboxes (R444 to R446) -/

@[simp] theorem MBX_CTL_GO_bit (m : Nat) : (MBX_CTL_GO m).key % 64 = 31 := Nat.mul_add_mod _ _ _
@[simp] theorem MBX_CTL_ACK_bit (m : Nat) : (MBX_CTL_ACK m).key % 64 = 30 := Nat.mul_add_mod _ _ _
@[simp] theorem MBX_CTL_RECEIVER_bit (m : Nat) : (MBX_CTL_RECEIVER m).key % 64 = 16 := Nat.mul_add_mod _ _ _
@[simp] theorem MBX_CTL_TMO_bit (m : Nat) : (MBX_CTL_TMO m).key % 64 = 0 := Nat.mul_add_mod _ _ _
@[simp] theorem MBX_STAT_FULL_bit (m : Nat) : (MBX_STAT_FULL m).key % 64 = 63 := Nat.mul_add_mod _ _ _
@[simp] theorem MBX_STAT_ORPHAN_bit (m : Nat) : (MBX_STAT_ORPHAN m).key % 64 = 62 := Nat.mul_add_mod _ _ _
@[simp] theorem MBX_STAT_TIMED_OUT_bit (m : Nat) : (MBX_STAT_TIMED_OUT m).key % 64 = 61 := Nat.mul_add_mod _ _ _
@[simp] theorem MBX_STAT_SENDER_bit (m : Nat) : (MBX_STAT_SENDER m).key % 64 = 50 := Nat.mul_add_mod _ _ _
@[simp] theorem MBX_STAT_SEPOCH_bit (m : Nat) : (MBX_STAT_SEPOCH m).key % 64 = 40 := Nat.mul_add_mod _ _ _
@[simp] theorem MBX_STAT_AGE_bit (m : Nat) : (MBX_STAT_AGE m).key % 64 = 0 := Nat.mul_add_mod _ _ _

/-- What MBX_CTL holds beside the bit that a command writes. -/
theorem mbxNow_lt (m : Nat) (s : State) : s.get (MBX_CTL_RECEIVER m) < 4 ∧ s.get (MBX_CTL_TMO m) < 65536 ∧ mbxNow m s < 2 ^ 18 := by
  have hreceiver : s.get (MBX_CTL_RECEIVER m) < 4 := regGet_lt (MBX_CTL_RECEIVER m) s.regs
  have htmo : s.get (MBX_CTL_TMO m) < 65536 := regGet_lt (MBX_CTL_TMO m) s.regs
  refine ⟨hreceiver, htmo, ?_⟩
  unfold mbxNow
  omega

/-- The fields of a write of MBX_CTL that keeps its settings. -/
structure MbxWrite (m v : Nat) (go ack : Bool) (s : State) : Prop where
  go : (MBX_CTL_GO m).hit v = go
  ack : (MBX_CTL_ACK m).hit v = ack
  receiver : (MBX_CTL_RECEIVER m).of v = s.get (MBX_CTL_RECEIVER m)
  tmo : (MBX_CTL_TMO m).of v = s.get (MBX_CTL_TMO m)

theorem mbxWrite_post (m : Nat) (s : State) : MbxWrite m (2 ^ 31 + mbxNow m s) true false s := by
  obtain ⟨hreceiver, htmo, hnow⟩ := mbxNow_lt m s
  have heq : mbxNow m s = 65536 * s.get (MBX_CTL_RECEIVER m) + s.get (MBX_CTL_TMO m) := rfl
  refine ⟨?_, ?_, ?_, ?_⟩
  · unfold Fld.hit Fld.of bits
    rw [MBX_CTL_GO_bit]
    have : (2 ^ 31 + mbxNow m s) / 2 ^ 31 % 2 ^ 1 = 1 := by omega
    exact congrArg (· != 0) this
  · unfold Fld.hit Fld.of bits
    rw [MBX_CTL_ACK_bit]
    have : (2 ^ 31 + mbxNow m s) / 2 ^ 30 % 2 ^ 1 = 0 := by omega
    exact congrArg (· != 0) this
  · unfold Fld.of bits
    rw [MBX_CTL_RECEIVER_bit]
    show (2 ^ 31 + mbxNow m s) / 2 ^ 16 % 2 ^ 2 = _
    omega
  · unfold Fld.of bits
    rw [MBX_CTL_TMO_bit]
    show (2 ^ 31 + mbxNow m s) / 2 ^ 0 % 2 ^ 16 = _
    omega

theorem mbxWrite_ack (m : Nat) (s : State) : MbxWrite m (2 ^ 30 + mbxNow m s) false true s := by
  obtain ⟨hreceiver, htmo, hnow⟩ := mbxNow_lt m s
  have heq : mbxNow m s = 65536 * s.get (MBX_CTL_RECEIVER m) + s.get (MBX_CTL_TMO m) := rfl
  refine ⟨?_, ?_, ?_, ?_⟩
  · unfold Fld.hit Fld.of bits
    rw [MBX_CTL_GO_bit]
    have : (2 ^ 30 + mbxNow m s) / 2 ^ 31 % 2 ^ 1 = 0 := by omega
    exact congrArg (· != 0) this
  · unfold Fld.hit Fld.of bits
    rw [MBX_CTL_ACK_bit]
    have : (2 ^ 30 + mbxNow m s) / 2 ^ 30 % 2 ^ 1 = 1 := by omega
    exact congrArg (· != 0) this
  · unfold Fld.of bits
    rw [MBX_CTL_RECEIVER_bit]
    show (2 ^ 30 + mbxNow m s) / 2 ^ 16 % 2 ^ 2 = _
    omega
  · unfold Fld.of bits
    rw [MBX_CTL_TMO_bit]
    show (2 ^ 30 + mbxNow m s) / 2 ^ 0 % 2 ^ 16 = _
    omega

/-- The settings of a mailbox written as they stand. -/
def mbxKept (m : Nat) (s : State) : State :=
  (s.set (MBX_CTL_RECEIVER m) (s.get (MBX_CTL_RECEIVER m))).set (MBX_CTL_TMO m) (s.get (MBX_CTL_TMO m))

theorem exec_mailboxPost_empty {a : Agent} {m : Fin 16} {s : State} (hempty : s.get (MBX_STAT_FULL m.val) = 0) :
    exec (.mailboxPost a m) s = .next (answer .done (mbxPost a.init.val m.val (mbxKept m.val s))) := by
  obtain ⟨hgo, hack, hreceiver, htmo⟩ := mbxWrite_post m.val s
  show ok (answered (wrMbxCtl a m.val (2 ^ 31 + mbxNow m.val s) s)) = _
  unfold wrMbxCtl
  rw [hgo, hack, on_of_eq_zero hempty, hreceiver, htmo]
  rfl

theorem exec_mailboxAck_full {a : Agent} {m : Fin 16} {s : State} (hfull : s.get (MBX_STAT_FULL m.val) = 1)
    (hmay : a.init.val = s.get (MBX_CTL_RECEIVER m.val) ∨ a.init.val = 50) :
    exec (.mailboxAck a m) s = .next (answer .done (mbxAck m.val s)) := by
  obtain ⟨hgo, hack, hreceiver, htmo⟩ := mbxWrite_ack m.val s
  show ok (answered (wrMbxCtl a m.val (2 ^ 30 + mbxNow m.val s) s)) = _
  unfold wrMbxCtl State.changes
  dsimp only
  rw [hgo, hack, on_of_eq_one hfull, hreceiver, htmo, if_neg (by omega), if_neg (by simp), if_neg (by simp), if_pos rfl, if_pos rfl]
  rfl

theorem bit_mod_two_pow {v i n : Nat} (h : i < n) : bit (v % 2 ^ n) i = bit v i := by
  have htest (x : Nat) : bit x i = x.testBit i := by
    rw [Nat.testBit_eq_decide_div_mod_eq]
    rfl
  rw [htest, htest, Nat.testBit_mod_two_pow, decide_eq_true h, Bool.true_and]

theorem bit_ring_self {c b : Nat} (hb : b < 32) {s : State} (hs : Sparse.Rising s.regs) :
    bit ((ring c b s).get (DB_PEND_PEND c)) b = true := by
  unfold ring
  rw [get_set_self _ _ hs]
  exact (bit_mod_two_pow hb).trans (bit_putBit_self _ _)

theorem get_ring_of_win {c b : Nat} {f : Fld} (hf : winBit f.key = 107) (s : State) : (ring c b s).get f = s.get f :=
  get_set_of_win _ hf (DB_PEND_PEND_win c) (by decide) _

/-- The fields of a mailbox that holds a message, before its receiver is told. -/
def mbxFilled (i m : Nat) (s : State) : State :=
  ((((((s.set (MBX_CTL_GO m) 1).set (MBX_STAT_FULL m) 1).set (MBX_STAT_SENDER m) i).set (MBX_STAT_SEPOCH m)
    (s.get (EPOCH_EPOCH i))).set (MBX_STAT_AGE m) 0).set
    (MBX_STAT_ORPHAN m) 0).set (MBX_STAT_TIMED_OUT m) 0

theorem mbxPost_eq (i m : Nat) (s : State) : mbxPost i m s =
    ring ((mbxFilled i m s).get (MBX_CTL_RECEIVER m)) m (mbxFilled i m s) := rfl

/-- What a posted mailbox reads. -/
structure MbxPosted (i m : Nat) (s t : State) : Prop where
  full : t.get (MBX_STAT_FULL m) = 1
  go : t.get (MBX_CTL_GO m) = 1
  sender : t.get (MBX_STAT_SENDER m) = i % 64
  epoch : t.get (MBX_STAT_SEPOCH m) = s.get (EPOCH_EPOCH i)
  age : t.get (MBX_STAT_AGE m) = 0
  receiver : t.get (MBX_CTL_RECEIVER m) = s.get (MBX_CTL_RECEIVER m)

theorem mbxFilled_posted (i m : Nat) {s : State} (hs : Sparse.Rising s.regs) : MbxPosted i m s (mbxFilled i m s) := by
  have hepoch : s.get (EPOCH_EPOCH i) < 256 := regGet_lt (EPOCH_EPOCH i) s.regs
  have h1 := rising_set (MBX_CTL_GO m) 1 hs
  have h2 := rising_set (MBX_STAT_FULL m) 1 h1
  have h3 := rising_set (MBX_STAT_SENDER m) i h2
  unfold mbxFilled
  refine ⟨?_, ?_, ?_, ?_, ?_, ?_⟩
  · simp (disch := simp) only [get_set_of_bit]
    exact get_set_self _ 1 h1
  · simp (disch := simp) only [get_set_of_bit]
    exact get_set_self _ 1 hs
  · simp (disch := simp) only [get_set_of_bit]
    exact get_set_self _ i h2
  · simp (disch := simp) only [get_set_of_bit]
    exact (get_set_self _ _ h3).trans (Nat.mod_eq_of_lt hepoch)
  · simp (disch := simp) only [get_set_of_bit]
    refine (get_set_self _ 0 (rising_set _ _ h3)).trans (Nat.zero_mod _)
  · simp (disch := simp) only [get_set_of_bit]

/-- The settings written as they stand read as they did. -/
theorem mbxKept_receiver {m : Nat} {s : State} (hs : Sparse.Rising s.regs) :
    (mbxKept m s).get (MBX_CTL_RECEIVER m) = s.get (MBX_CTL_RECEIVER m) := by
  unfold mbxKept
  rw [get_set_of_bit _ (by simp), get_set_self _ _ hs]
  exact Nat.mod_eq_of_lt (regGet_lt (MBX_CTL_RECEIVER m) s.regs)

theorem mbxKept_epoch (m i : Nat) (s : State) : (mbxKept m s).get (EPOCH_EPOCH i) = s.get (EPOCH_EPOCH i) := by
  unfold mbxKept
  rw [get_set_of_win _ (EPOCH_EPOCH_win i) (MBX_CTL_TMO_win m) (by decide),
    get_set_of_win _ (EPOCH_EPOCH_win i) (MBX_CTL_RECEIVER_win m) (by decide)]

theorem rising_mbxKept {s : State} (hs : Sparse.Rising s.regs) (m : Nat) : Sparse.Rising (mbxKept m s).regs :=
  rising_set _ _ (rising_set _ _ hs)

theorem mbxPost_posted (i m : Nat) {s : State} (hs : Sparse.Rising s.regs) : MbxPosted i m s (mbxPost i m s) := by
  obtain ⟨hfull, hgo, hsender, hepoch, hage, hreceiver⟩ := mbxFilled_posted i m hs
  rw [mbxPost_eq]
  exact ⟨(get_ring_of_win (MBX_STAT_FULL_win m) _).trans hfull, (get_ring_of_win (MBX_CTL_GO_win m) _).trans hgo,
    (get_ring_of_win (MBX_STAT_SENDER_win m) _).trans hsender, (get_ring_of_win (MBX_STAT_SEPOCH_win m) _).trans hepoch,
    (get_ring_of_win (MBX_STAT_AGE_win m) _).trans hage, (get_ring_of_win (MBX_CTL_RECEIVER_win m) _).trans hreceiver⟩

theorem mbxPost_rings {i m : Nat} (hm : m < 16) {s : State} (hs : Sparse.Rising s.regs) :
    bit ((mbxPost i m s).get (DB_PEND_PEND (s.get (MBX_CTL_RECEIVER m)))) m = true := by
  have hrising : Sparse.Rising (mbxFilled i m s).regs := by
    unfold mbxFilled
    iterate 7 apply rising_set
    exact hs
  rw [mbxPost_eq, (mbxFilled_posted i m hs).receiver]
  exact bit_ring_self (by omega) hrising

/-- What an emptied mailbox reads. -/
theorem mbxAck_emptied {m : Nat} {s : State} (hs : Sparse.Rising s.regs) (hfull : s.get (MBX_STAT_FULL m) = 1) :
    (mbxAck m s).get (MBX_STAT_FULL m) = 0 ∧ (mbxAck m s).get (MBX_CTL_GO m) = 0 := by
  have hset : ((s.set (MBX_STAT_FULL m) 0).set (MBX_CTL_GO m) 0).get (MBX_STAT_FULL m) = 0 ∧
      ((s.set (MBX_STAT_FULL m) 0).set (MBX_CTL_GO m) 0).get (MBX_CTL_GO m) = 0 := by
    refine ⟨?_, (get_set_self _ 0 (rising_set _ _ hs)).trans (Nat.zero_mod _)⟩
    rw [get_set_of_bit _ (by simp)]
    exact (get_set_self _ 0 hs).trans (Nat.zero_mod _)
  unfold mbxAck
  rw [on_of_eq_one hfull]
  dsimp only
  rw [if_neg (by simp)]
  split
  · rw [get_ring_of_win (MBX_STAT_FULL_win m), get_ring_of_win (MBX_CTL_GO_win m)]
    exact hset
  · exact hset

theorem mbxAck_rings {m : Nat} (hm : m < 16) {s : State} (hs : Sparse.Rising s.regs) (hfull : s.get (MBX_STAT_FULL m) = 1)
    (hsender : s.get (MBX_STAT_SENDER m) < 4 ∧ s.get (MBX_STAT_ORPHAN m) = 0) :
    bit ((mbxAck m s).get (DB_PEND_PEND (s.get (MBX_STAT_SENDER m)))) (16 + m) = true := by
  unfold mbxAck
  rw [on_of_eq_one hfull, on_of_eq_zero hsender.2]
  dsimp only
  rw [if_neg (by simp), if_pos ⟨hsender.1, rfl⟩]
  exact bit_ring_self (by omega) (rising_set _ _ (rising_set _ _ hs))

/-- A message timed out, before its event. -/
def mbxLate (m : Nat) (s : State) : State :=
  if s.get (MBX_STAT_SENDER m) < 4 then
    (s.set (MBX_STAT_TIMED_OUT m) 1).set (TMO_PEND_TMO (s.get (MBX_STAT_SENDER m)))
      (putBit ((s.set (MBX_STAT_TIMED_OUT m) 1).get (TMO_PEND_TMO (s.get (MBX_STAT_SENDER m)))) m true)
  else s.set (MBX_STAT_TIMED_OUT m) 1

theorem exec_mailboxTimeout_due {m : Fin 16} {s : State} (h : mbxDue m.val s = true) : exec (.mailboxTimeout m) s =
    .next (raise 0x1004 [⟨1, m.val⟩, ⟨1, s.get (MBX_STAT_SENDER m.val)⟩, ⟨1, s.get (MBX_CTL_RECEIVER m.val)⟩] (mbxLate m.val s)) :=
  whenOk_of h s _

theorem get_mbxLate_of_win {m : Nat} {f : Fld} (hwin : winBit f.key ≠ 107 ∧ winBit f.key ≠ 108) (s : State) :
    (mbxLate m s).get f = s.get f := by
  have htimed := get_set_of_ne s (key_ne_of_win rfl (MBX_STAT_TIMED_OUT_win m) hwin.1) 1
  unfold mbxLate
  split
  · rw [get_set_of_ne _ (key_ne_of_win rfl (TMO_PEND_TMO_win _) hwin.2), htimed]
  · exact htimed

theorem mbxLate_timedOut {m : Nat} {s : State} (hs : Sparse.Rising s.regs) : (mbxLate m s).get (MBX_STAT_TIMED_OUT m) = 1 := by
  unfold mbxLate
  split
  · rw [get_set_of_win _ (MBX_STAT_TIMED_OUT_win m) (TMO_PEND_TMO_win _) (by decide)]
    exact get_set_self _ 1 hs
  · exact get_set_self _ 1 hs

theorem mbxLate_pending {m : Nat} (hm : m < 16) {s : State} (hs : Sparse.Rising s.regs) (hsender : s.get (MBX_STAT_SENDER m) < 4) :
    bit ((mbxLate m s).get (TMO_PEND_TMO (s.get (MBX_STAT_SENDER m)))) m = true := by
  unfold mbxLate
  rw [if_pos hsender, get_set_self _ _ (rising_set _ _ hs)]
  exact (bit_mod_two_pow hm).trans (bit_putBit_self _ _)

/-! ### Locks (R448 to R451) -/

@[simp] theorem LOCK_CTL_ACQ_bit (k : Nat) : (LOCK_CTL_ACQ k).key % 64 = 31 := Nat.mul_add_mod _ _ _
@[simp] theorem LOCK_CTL_REL_bit (k : Nat) : (LOCK_CTL_REL k).key % 64 = 30 := Nat.mul_add_mod _ _ _
@[simp] theorem LOCK_CTL_LEASE_bit (k : Nat) : (LOCK_CTL_LEASE k).key % 64 = 0 := Nat.mul_add_mod _ _ _
@[simp] theorem LOCK_STAT_HELD_bit (k : Nat) : (LOCK_STAT_HELD k).key % 64 = 31 := Nat.mul_add_mod _ _ _
@[simp] theorem LOCK_STAT_BROKEN_bit (k : Nat) : (LOCK_STAT_BROKEN k).key % 64 = 30 := Nat.mul_add_mod _ _ _
@[simp] theorem LOCK_STAT_OWNER_bit (k : Nat) : (LOCK_STAT_OWNER k).key % 64 = 24 := Nat.mul_add_mod _ _ _
@[simp] theorem LOCK_STAT_OEPOCH_bit (k : Nat) : (LOCK_STAT_OEPOCH k).key % 64 = 16 := Nat.mul_add_mod _ _ _
@[simp] theorem LOCK_STAT_LEFT_bit (k : Nat) : (LOCK_STAT_LEFT k).key % 64 = 0 := Nat.mul_add_mod _ _ _

/-- The fields of a write of LOCK_CTL by an acquisition. -/
theorem lockWrite_acquire (k lease : Nat) : (LOCK_CTL_ACQ k).hit (2 ^ 31 + lease % 65536) = true ∧
    (LOCK_CTL_REL k).hit (2 ^ 31 + lease % 65536) = false ∧ (LOCK_CTL_LEASE k).of (2 ^ 31 + lease % 65536) = lease % 65536 := by
  unfold Fld.hit Fld.of bits
  rw [LOCK_CTL_ACQ_bit, LOCK_CTL_REL_bit, LOCK_CTL_LEASE_bit]
  refine ⟨congrArg (· != 0) (show (2 ^ 31 + lease % 65536) / 2 ^ 31 % 2 ^ 1 = 1 by omega),
    congrArg (· != 0) (show (2 ^ 31 + lease % 65536) / 2 ^ 30 % 2 ^ 1 = 0 by omega), ?_⟩
  show (2 ^ 31 + lease % 65536) / 2 ^ 0 % 2 ^ 16 = _
  omega

/-- The fields of a write of LOCK_CTL by a release. -/
theorem lockWrite_release (k : Nat) : (LOCK_CTL_ACQ k).hit (2 ^ 30) = false ∧ (LOCK_CTL_REL k).hit (2 ^ 30) = true := by
  unfold Fld.hit Fld.of bits
  rw [LOCK_CTL_ACQ_bit, LOCK_CTL_REL_bit]
  exact ⟨congrArg (· != 0) (show 2 ^ 30 / 2 ^ 31 % 2 ^ 1 = 0 by decide), congrArg (· != 0) (show 2 ^ 30 / 2 ^ 30 % 2 ^ 1 = 1 by decide)⟩

theorem exec_lockAcquire_eq (a : Agent) (k : Fin 64) (lease : Nat) (s : State) : exec (.lockAcquire a k lease) s =
    ok (answered (if lease % 65536 = 0 then (.range, s)
      else if lockOwned k.val a.init.val s then (.done, s.set (LOCK_STAT_LEFT k.val) (lease % 65536))
      else if s.on (LOCK_STAT_HELD k.val) then (.retry, s)
      else (.done, (((s.set (LOCK_STAT_HELD k.val) 1).set (LOCK_STAT_OWNER k.val) a.init.val).set (LOCK_STAT_OEPOCH k.val)
        (s.get (EPOCH_EPOCH a.init.val))).set (LOCK_STAT_LEFT k.val) (lease % 65536)))) := by
  obtain ⟨hacq, hrel, hlease⟩ := lockWrite_acquire k.val lease
  show ok (answered (wrLockCtl a k.val (2 ^ 31 + lease % 65536) s)) = _
  unfold wrLockCtl
  dsimp only
  rw [hacq, hrel, hlease, if_neg (by simp), if_pos rfl]

theorem exec_lockRelease_eq (a : Agent) (k : Fin 64) (s : State) : exec (.lockRelease a k) s =
    ok (answered (if lockOwned k.val a.init.val s then (.done, lockFree k.val false s) else (.denied, s))) := by
  obtain ⟨hacq, hrel⟩ := lockWrite_release k.val
  show ok (answered (wrLockCtl a k.val (2 ^ 30) s)) = _
  unfold wrLockCtl
  dsimp only
  rw [hacq, hrel, if_neg (by simp), if_neg (by simp), if_pos rfl]

/-- What a freed lock reads. -/
theorem lockFree_reads (k : Nat) (broken : Bool) {s : State} (hs : Sparse.Rising s.regs) :
    (lockFree k broken s).get (LOCK_STAT_HELD k) = 0 ∧ (lockFree k broken s).get (LOCK_STAT_BROKEN k) = if broken then 1 else 0 := by
  unfold lockFree
  refine ⟨?_, ?_⟩
  · simp (disch := simp) only [get_set_of_bit]
    exact (get_set_self _ 0 hs).trans (Nat.zero_mod _)
  · refine (get_set_self _ _ (rising_set _ _ (rising_set _ _ hs))).trans ?_
    cases broken <;> rfl

theorem lockFree_narrow (k : Nat) (broken : Bool) (s : State) :
    Narrow [] [LOCK_STAT_HELD k, LOCK_STAT_BROKEN k, LOCK_STAT_LEFT k] s (lockFree k broken s) :=
  (((Narrow.refl _ _ s).set (by simp) 0).set (by simp) 0).set (by simp) _

end Sys2Proof.Machine
end

section
/-! SUPPORT. The control cluster (chapter 19): watchdogs, CRC units, and the statement of its commands. -/
namespace Sys2Proof.Machine

/-! ### A core that its watchdog resets (R447, R452) -/

/-- Past what the cluster loses, the reset of a core leaves epochs and core registers. -/
theorem get_coreLose_cluster {f : Fld} (c : Nat) (s : State)
    (hf : Nat.testBit 0x400000000000000180060000006011C (winBit f.key) = false) :
    (coreLose c s).get f = (clusterCoreReset c (sdoCut c s)).get f := by
  have hends : Within 0x400000000000000180060000006011C (clusterCoreReset c (sdoCut c s)) (coreLose c s) :=
    forEach_within (fun _ _ h => sluEnd_within (by decide) h) _ (haltCleared_within (by decide)
      (progressCleared_within (by decide) (nocCoreReset_within (by decide) (Within.refl _ _))))
  exact hends.get hf

/-- What a control core's own registers in the cluster read after its reset. -/
structure CoreCleared (c : Nat) (s t : State) : Prop where
  enable : t.get (WD_CTL_EN c) = 0
  left : t.get (CORE_STAT_WD_LEFT c) = 0
  epoch : t.get (EPOCH_EPOCH c) = (s.get (EPOCH_EPOCH c) + 1) % 256

@[simp] theorem WD_CTL_EN_bit (c : Nat) : (WD_CTL_EN c).key % 64 = 31 := Nat.mul_add_mod _ _ _
@[simp] theorem CORE_STAT_STATE_bit (c : Nat) : (CORE_STAT_STATE c).key % 64 = 0 := Nat.mul_add_mod _ _ _
@[simp] theorem CORE_STAT_WD_LEFT_bit (c : Nat) : (CORE_STAT_WD_LEFT c).key % 64 = 40 := Nat.mul_add_mod _ _ _

theorem initReset_epoch {i : Nat} {s : State} (hs : Sparse.Rising s.regs) :
    (initReset i s).get (EPOCH_EPOCH i) = (s.get (EPOCH_EPOCH i) + 1) % 256 := by
  have hw : Within 0xC0000000000000000000000000C (bumpEpoch i s) (initReset i s) :=
    orphan_within (by decide) (breakLocks_within (by decide) (Within.refl _ _))
  rw [hw.get (by rw [EPOCH_EPOCH_win]; decide)]
  exact get_set_self _ _ hs

theorem clusterCoreReset_cleared (c : Nat) {s : State} (hs : Sound s) : CoreCleared c s (clusterCoreReset c s) := by
  have hw : Within 0xD0000000000000000000000000C s (initReset c s) := initReset_within (Sub.refl _) (Within.refl _ s)
  have hrising : Sparse.Rising ((initReset c s).clearFld (DB_MASK_MASK c)).regs := rising_set _ _ (hw.rising hs)
  have hread (f : Fld) : (clusterCoreReset c s).get f =
      ((((initReset c s).clearFld (DB_MASK_MASK c)).set (WD_CTL_EN c) 0).set (CORE_STAT_WD_LEFT c) 0).get f := by
    unfold clusterCoreReset
    generalize initReset c s = u
    rfl
  refine ⟨?_, ?_, ?_⟩
  · rw [hread, get_set_of_bit _ (by simp), get_set_self _ _ hrising]
    rfl
  · rw [hread, get_set_self _ _ (rising_set _ _ hrising)]
    rfl
  · rw [hread, get_set_of_win _ (EPOCH_EPOCH_win c) (CORE_STAT_WD_LEFT_win c) (by decide),
      get_set_of_win _ (EPOCH_EPOCH_win c) (WD_CTL_EN_win c) (by decide), State.clearFld,
      get_set_of_win _ (EPOCH_EPOCH_win c) (DB_MASK_MASK_win c) (by decide)]
    exact initReset_epoch hs.rising

theorem coreLose_cleared (c : Nat) {s : State} (hs : Sound s) : CoreCleared c s (coreLose c s) := by
  have hcut : Within 0x1000001 s (sdoCut c s) := sdoCut_within (Sub.refl _) (Within.refl _ s)
  obtain ⟨henable, hleft, hepoch⟩ := clusterCoreReset_cleared c (hcut.sound hs)
  refine ⟨?_, ?_, ?_⟩
  · rw [get_coreLose_cluster c s (by rw [WD_CTL_EN_win]; decide), henable]
  · rw [get_coreLose_cluster c s (by rw [CORE_STAT_WD_LEFT_win]; decide), hleft]
  · rw [get_coreLose_cluster c s (by rw [EPOCH_EPOCH_win]; decide), hepoch, hcut.get (by rw [EPOCH_EPOCH_win]; decide)]

/-- A core that may run starts anew: of the cluster's registers only its state is written. -/
theorem coreBegin_running {c : Nat} {s : State} (hon : domOn (82 + c) s = true) (hfw : coreHasFirmware c s = true)
    (hr : s.get (DBG_RUN_RHALT c) = 0) : coreBegin c s = (s.set (CORE_STAT_STATE c) coreRun).set (DBG_RUN_HALTED c) 0 := by
  have hhalt : (DBG_RUN_RHALT c).key ≠ (DBG_RUN_HALTED c).key := by
    simp only [DBG_RUN_RHALT, DBG_RUN_HALTED]
    omega
  have hstay : ((s.set (CORE_STAT_STATE c) coreRun).set (DBG_RUN_HALTED c) 0).on (DBG_RUN_RHALT c) = false := by
    refine on_of_eq_zero ?_
    rw [get_set_of_ne _ hhalt, get_set_of_win _ (DBG_RUN_RHALT_win c) (CORE_STAT_STATE_win c) (by decide), hr]
  unfold coreBegin coreStart
  rw [hon, hfw]
  dsimp only
  rw [if_neg (by simp), if_pos rfl, if_neg (by simp [hstay])]

theorem coreReset_cleared {c : Nat} {s : State} (hs : Sound s) (hc : c < 4) (hon : domOn (82 + c) s = true)
    (hfw : coreHasFirmware c s = true) (hr : s.get (DBG_RUN_RHALT c) = 0) : CoreCleared c s (coreReset c s) := by
  obtain ⟨henable, hleft, hepoch⟩ := coreLose_cleared c hs
  have hbegin := coreBegin_running (c := c) (s := coreLose c s) (by rw [domOn_coreLose]; exact hon)
    (by rw [coreHasFirmware_coreLose]; exact hfw) (by rw [get_coreLose_rhalt hc, hr])
  rw [coreReset, hbegin]
  refine ⟨?_, ?_, ?_⟩
  · rw [get_set_of_win _ (WD_CTL_EN_win c) (DBG_RUN_HALTED_win c) (by decide), get_set_of_bit _ (by simp), henable]
  · rw [get_set_of_win _ (CORE_STAT_WD_LEFT_win c) (DBG_RUN_HALTED_win c) (by decide), get_set_of_bit _ (by simp), hleft]
  · rw [get_set_of_win _ (EPOCH_EPOCH_win c) (DBG_RUN_HALTED_win c) (by decide),
      get_set_of_win _ (EPOCH_EPOCH_win c) (CORE_STAT_STATE_win c) (by decide), hepoch]

/-! ### A WARM reset and the one-time memories (R103, R465) -/

/-- The bytes of the one-time memories are as they were. -/
def OtpKept (s t : State) : Prop := t.sec.editions = s.sec.editions ∧ t.sec.ledger = s.sec.ledger

theorem OtpKept.trans {s t u : State} (h : OtpKept s t) (g : OtpKept t u) : OtpKept s u := ⟨g.1.trans h.1, g.2.trans h.2⟩

theorem otpKept_of_sec {s t : State} (h : t.sec = s.sec) : OtpKept s t := ⟨by rw [h], by rw [h]⟩

theorem otpKept_within {A : Nat} {s t : State} (h : Within A s t) (hA : A.testBit 24 = false) : OtpKept s t := otpKept_of_sec (h.sec hA)

theorem endSession_otp (cause k : Nat) (s : State) : OtpKept s (endSession cause k s) := by
  unfold endSession
  split
  · exact ⟨rfl, rfl⟩
  · exact ⟨by rw [raise_sec]; rfl, by rw [raise_sec]; rfl⟩

theorem forNat_otp {f : Nat → State → State} (hf : ∀ i t, OtpKept t (f i t)) (n : Nat) (s : State) : OtpKept s (forNat n f s) :=
  List.foldlRecOn (motive := fun t => OtpKept s t) (List.range n) _ ⟨rfl, rfl⟩ (fun t ht i _ => ht.trans (hf i t))

theorem forNat_sec {f : Nat → State → State} (hf : ∀ i t, (f i t).sec = t.sec) (n : Nat) (s : State) : (forNat n f s).sec = s.sec :=
  List.foldlRecOn (motive := fun t => t.sec = s.sec) (List.range n) _ rfl (fun t ht i _ => (hf i t).trans ht)

theorem resumeCore_sec (k : Nat) (s : State) : (resumeCore k s).sec = s.sec :=
  (resumeCore_within (Sub.refl _) (Within.refl 0x400020000000000000000000000000C s)).sec (by decide)

theorem haltCleared_sec (k : Nat) (s : State) : (haltCleared k s).sec = s.sec :=
  (haltCleared_within (Sub.refl _) (Within.refl 0x4000000000000000000000000020000 s)).sec (by decide)

theorem dbgEnd_otp (cause : Nat) (s : State) : OtpKept s (dbgEnd cause s) := by
  unfold dbgEnd
  split
  · exact ⟨rfl, rfl⟩
  · obtain ⟨u, hu⟩ : ∃ u, u = forNat 36 resumeCore (((forNat 32 (fun c t => modSc c (fun x => { x with haltReq := false }) t) s).set
        DBG_AUTH_CTL_ROLE 0).set DBG_CTL_SIDE 0) := ⟨_, rfl⟩
    have hsec : u.sec = s.sec := by
      rw [hu, forNat_sec resumeCore_sec, set_sec, set_sec]
      refine forNat_sec ?_ 32 s
      intro c t
      rfl
    dsimp only
    rw [← hu]
    exact ⟨by rw [raise_sec, ← hsec]; rfl, by rw [raise_sec, ← hsec]; rfl⟩

theorem dbgPartReset_otp (s : State) : OtpKept s (dbgPartReset false s) := by
  refine (dbgEnd_otp 3 s).trans (otpKept_of_sec ?_)
  unfold dbgPartReset
  extract_lets -merge -useContext +onlyGivenNames ended cleared keep reset kept after
  have hended : ended.sec = (dbgEnd 3 s).sec := rfl
  have hcleared : cleared.sec = ended.sec := forNat_sec haltCleared_sec 36 ended
  have hreset : reset.sec = cleared.sec := resetRegs_sec cleared _ _
  clear_value reset keep cleared ended
  have hkept : kept.sec = reset.sec := forNat_sec (fun _ _ => rfl) 36 reset
  clear_value kept
  have hall : kept.sec = (dbgEnd 3 s).sec := hkept.trans (hreset.trans (hcleared.trans hended))
  rw [if_neg Bool.false_ne_true]
  exact hall

theorem almReset_otp (s : State) : OtpKept s (almReset s) := by
  unfold almReset
  split
  · exact ⟨rfl, rfl⟩
  · split
    · exact ⟨rfl, rfl⟩
    · split
      · exact ⟨rfl, rfl⟩
      · split
        · exact ⟨rfl, rfl⟩
        · split
          · exact ⟨rfl, rfl⟩
          · split <;> exact ⟨rfl, rfl⟩

theorem secPartReset_otp (s : State) : OtpKept s (secPartReset false s) := by
  refine (almReset_otp s).trans ?_
  unfold secPartReset
  generalize almReset s = u
  exact ⟨rfl, rfl⟩

theorem warmEnds_otp (s : State) : OtpKept s (warmEnds s) := by
  unfold warmEnds
  extract_lets -merge -useContext +onlyGivenNames ended debug loader source tree weir
  have hended : OtpKept s ended := forNat_otp (fun i t => endSession_otp 3 i t) 8 s
  have hdebug : OtpKept ended debug := dbgPartReset_otp ended
  clear_value debug ended
  have hloader : OtpKept debug loader :=
    otpKept_within (ldrPartReset_within (Sub.refl _) (Within.refl _ _)) (by decide)
  have hsource : OtpKept loader source := by
    have hlost : OtpKept loader (srcLost 2 loader) := otpKept_within (srcLost_within (Sub.refl _) (Within.refl _ _)) (by decide)
    show OtpKept loader (if srcOk 2 loader then srcLost 2 loader else loader)
    split
    · exact hlost
    · exact ⟨rfl, rfl⟩
  clear_value source loader
  have hcache : OtpKept source (if (hbmRefuses source).isNone then flushCache source else encForced source) := by
    split
    · exact otpKept_within (flushCache_within (Sub.refl _) (Within.refl _ _)) (by decide)
    · exact otpKept_within (encForced_within (Sub.refl _) (Within.refl _ _)) (by decide)
  have htree : OtpKept source tree :=
    hcache.trans (otpKept_within (treePassAbort_within (Sub.refl _) (Within.refl _ _)) (by decide))
  clear_value tree
  have hpass : OtpKept tree (passAbort tree) := otpKept_within (passAbort_within (Sub.refl _) (Within.refl _ _)) (by decide)
  have hweir : OtpKept tree weir := hpass.trans (otpKept_within (weirWarm_within (Sub.refl _) (Within.refl _ _)) (by decide))
  clear_value weir
  exact ((((((hended.trans hdebug).trans hloader).trans hsource).trans htree).trans hweir).trans (secPartReset_otp weir)).trans
    (otpKept_within (leapPartReset_within (Sub.refl _) (Within.refl _ _)) (by decide))

theorem warmReset_otp (src : Nat) (s : State) : OtpKept s (warmReset src s) := by
  unfold warmReset
  extract_lets -merge -useContext +onlyGivenNames was n ended blank w0 w1 w2 w3 w4 w5 w6 w7 kept domains hbm aborts cause stat
  have hended : OtpKept s ended := warmEnds_otp s
  clear_value blank ended
  have hkept : kept.sec = ended.sec := rfl
  clear_value kept
  have hdomains : domains.sec = kept.sec := forNat_sec (fun _ _ => rfl) 96 kept
  clear_value domains
  have haborts : aborts.sec = domains.sec := forNat_sec (fun _ _ => rfl) 17 hbm
  clear_value aborts
  refine hended.trans (otpKept_of_sec ?_)
  rw [raise_sec, ← hkept, ← hdomains, ← haborts]
  rfl

/-! ### The end of a watchdog's last frame (R452) -/

/-- A watchdog that runs out is told before what it does. -/
def wdTold (c : Nat) (s : State) : State := raise 0x1001 [⟨1, c⟩] (s.set (CORE_STAT_WD_LEFT c) 0)

theorem exec_watchdogExpiry_last {c : Fin 4} {s : State} (hcounts : wdCounts c.val s = true)
    (hlast : s.get (CORE_STAT_WD_LEFT c.val) ≤ s.get FRM_STAT_PERIOD_ACT / 1000 + 1) :
    exec (.watchdogExpiry c) s = .next (if c.val < 2 then askWarm 4 (wdTold c.val s) else coreReset c.val (wdTold c.val s)) :=
  whenOk_of (by simp [hcounts, hlast]) s _

theorem wdTold_within (c : Nat) (s : State) : Within 0x20000000000000000000000000C s (wdTold c s) :=
  raise_within (by decide) (set_within _ (inMask (CORE_STAT_WD_LEFT_win c) (by decide)) (Within.refl _ s))

theorem domOn_of_wdCounts {c : Nat} {s : State} (h : wdCounts c s = true) : domOn (82 + c) s = true := by
  unfold wdCounts domRuns at h
  simp only [Bool.and_eq_true] at h
  exact h.1.2.1.1

/-! ### CRC units (R454, R455) -/

@[simp] theorem CRC_CFG_POLY_bit (u : Nat) : (CRC_CFG_POLY u).key % 64 = 0 := Nat.mul_add_mod _ _ _
@[simp] theorem CRC_CFG_FOLD_bit (u : Nat) : (CRC_CFG_FOLD u).key % 64 = 4 := Nat.mul_add_mod _ _ _
@[simp] theorem CRC_CFG_SEED_EN_bit (u : Nat) : (CRC_CFG_SEED_EN u).key % 64 = 5 := Nat.mul_add_mod _ _ _

theorem crcFields_apart (u : Nat) : (CRC_CFG_fields u).Pairwise (fun p q => p.2.key ≠ q.2.key) := by
  have hne {f g : Fld} (h : f.key % 64 ≠ g.key % 64) : f.key ≠ g.key := fun heq => h (by rw [heq])
  unfold CRC_CFG_fields
  refine List.pairwise_cons.2 ⟨?_, List.pairwise_cons.2 ⟨?_, List.pairwise_singleton _ _⟩⟩
  · intro p hp
    rcases List.mem_cons.1 hp with rfl | hp
    · exact hne (by simp)
    · rw [List.mem_singleton.1 hp]
      exact hne (by simp)
  · intro p hp
    rw [List.mem_singleton.1 hp]
    exact hne (by simp)

/-- What CRC_CFG reads after a write, the seed standing as it did. -/
structure CrcRead (u v : Nat) (s t : State) : Prop where
  poly : t.get (CRC_CFG_POLY u) = (CRC_CFG_POLY u).of v
  fold : t.get (CRC_CFG_FOLD u) = (CRC_CFG_FOLD u).of v
  seedEn : t.get (CRC_CFG_SEED_EN u) = (CRC_CFG_SEED_EN u).of v
  seed : t.get (CRC_SEED_SEED u) = s.get (CRC_SEED_SEED u)

theorem crcWritten_reads (u v : Nat) {s : State} (hs : Sparse.Rising s.regs) : CrcRead u v s (writeFlds (CRC_CFG_fields u) v s) := by
  refine ⟨get_writeFlds_rw (crcFields_apart u) (by simp [CRC_CFG_fields]) v hs, get_writeFlds_rw (crcFields_apart u) (by simp [CRC_CFG_fields]) v hs,
    get_writeFlds_rw (crcFields_apart u) (by simp [CRC_CFG_fields]) v hs, get_writeFlds_of_ne ?_ v s⟩
  intro p hp
  have haddr : p.2.key / 64 = 0x300F008000 + 0x40 * (u % 8) := by
    unfold CRC_CFG_fields at hp
    simp only [List.mem_cons, List.not_mem_nil, or_false] at hp
    rcases hp with rfl | rfl | rfl <;> exact Nat.mul_add_div (by decide) _ _
  intro heq
  rw [← heq] at haddr
  simp only [CRC_SEED_SEED] at haddr
  omega

theorem crcWritten_cluster (u v : Nat) (s : State) : (writeFlds (CRC_CFG_fields u) v s).cluster = s.cluster := rfl

/-- The start of a computation (R454). -/
def crcStart (p seed : Nat) (seeded : Bool) : Nat :=
  if seeded then (if polyRefl p then reverseBits 32 (seed % 2 ^ polyWidth p) else seed % 2 ^ polyWidth p) else polyInit p

theorem on_oneBit {f : Fld} {v : Nat} {s : State} (h : s.get f = f.of v) : s.on f = true ↔ f.of v ≠ 0 := by
  unfold State.on
  rw [h]
  simp

/-- A write of CRC_CFG starts a computation in the unit that it configures. -/
theorem wrCrcCfg_eq (u v : Nat) {s : State} (hs : Sparse.Rising s.regs) : wrCrcCfg u v s = (.done, setCrcReg u
    (crcStart ((CRC_CFG_POLY u).of v) (s.get (CRC_SEED_SEED u)) (decide ((CRC_CFG_SEED_EN u).of v = 1)))
    { writeFlds (CRC_CFG_fields u) v s with cluster := { s.cluster with
      foldDue := s.cluster.foldDue.erase u ++ (if (CRC_CFG_FOLD u).of v = 1 then [u] else []) } }) := by
  obtain ⟨hpoly, hfold, hseedEn, hseed⟩ := crcWritten_reads u v hs
  have honeFold : (CRC_CFG_FOLD u).of v < 2 := Nat.mod_lt _ (Nat.two_pow_pos 1)
  have honeSeed : (CRC_CFG_SEED_EN u).of v < 2 := Nat.mod_lt _ (Nat.two_pow_pos 1)
  have hfoldOn : (writeFlds (CRC_CFG_fields u) v s).on (CRC_CFG_FOLD u) = decide ((CRC_CFG_FOLD u).of v = 1) := by
    rw [Bool.eq_iff_iff, on_oneBit hfold, decide_eq_true_iff]
    omega
  have hseedOn : (writeFlds (CRC_CFG_fields u) v s).on (CRC_CFG_SEED_EN u) = decide ((CRC_CFG_SEED_EN u).of v = 1) := by
    rw [Bool.eq_iff_iff, on_oneBit hseedEn, decide_eq_true_iff]
    omega
  unfold wrCrcCfg
  dsimp only
  rw [hpoly, hfoldOn, hseedOn, hseed, crcWritten_cluster]
  by_cases h : (CRC_CFG_FOLD u).of v = 1
  · simp only [h, decide_true, if_true]
    rfl
  · simp only [h, decide_false, if_false, List.append_nil]
    rfl

/-! ### The statement -/

/-- Settles O38: one clause per command; the two resets of a watchdog rest on what a CORE and a WARM reset leave (R101, R103). -/
theorem clusterCommandsComplete : Obligations.ClusterCommandsComplete := by
  unfold Obligations.ClusterCommandsComplete
  refine ⟨?data, ?dataFull, ?post, ?ack, ?ackRings, ?timeout, ?timeoutPends, ?lockFault, ?interrupt, ?take, ?renew, ?held, ?noLease,
    ?release, ?notOwner, ?expiry, ?kick, ?coreReset, ?warmReset, ?crcConfig, ?crcFold, ?crcFeed, ?crcEarly, ?crcRead⟩
  case data =>
    intro a m j v s hs hempty
    have he : exec (.mailboxDataWrite a m j v) s = .next (answer .done (writeFlds (MBX_DATA_fields m.val j.val) v s)) := by
      show ok (answered (wrMbxData m.val j.val v s)) = _
      rw [wrMbxData, on_of_eq_zero hempty, if_neg (by simp)]
      rfl
    refine ⟨_, he, rfl, ?_, ((Narrow.refl _ _ s).set (by simp) _).answer (by simp) _⟩
    refine (get_writeFlds_rw (List.pairwise_singleton _ _) (List.mem_singleton_self _) v hs.rising).trans ?_
    unfold Fld.of bits
    rw [show (MBX_DATA_DATA m.val j.val).key % 64 = 0 from Nat.mul_add_mod _ _ _]
    simp only [pow_zero, Nat.div_one]
    rfl
  case dataFull =>
    intro a m j v s _ hfull
    have he : exec (.mailboxDataWrite a m j v) s = .next (answer .retry s) := by
      show ok (answered (wrMbxData m.val j.val v s)) = _
      rw [wrMbxData, on_of_eq_one hfull, if_pos rfl]
      rfl
    exact ⟨_, he, rfl, (Narrow.refl _ _ s).answer (by simp) _⟩
  case post =>
    intro a m s hs hempty
    have he := exec_mailboxPost_empty (a := a) hempty
    have hrising := rising_mbxKept hs.rising m.val
    obtain ⟨hfull, hgo, hsender, hepoch, hage, _⟩ := mbxPost_posted a.init.val m.val hrising
    refine ⟨_, he, rfl, hfull, hgo, hsender.trans (Nat.mod_eq_of_lt a.init.isLt), hepoch.trans (mbxKept_epoch _ _ s), hage, ?_,
      ((execMailboxPost_within (Sub.refl _) (Within.refl _ s)).of_next he).frame (by decide)⟩
    rw [← mbxKept_receiver hs.rising]
    exact mbxPost_rings m.isLt hrising
  case ack =>
    intro a m s hs hfull hmay
    have he := exec_mailboxAck_full hfull hmay
    obtain ⟨hempty, hgo⟩ := mbxAck_emptied hs.rising hfull
    exact ⟨_, he, rfl, hempty, hgo, ((execMailboxAck_within (Sub.refl _) (Within.refl _ s)).of_next he).frame (by decide)⟩
  case ackRings =>
    intro a m s hs hfull hmay hsender
    exact ⟨_, exec_mailboxAck_full hfull hmay, rfl, mbxAck_rings m.isLt hs.rising hfull hsender⟩
  case timeout =>
    intro m s hs hdue
    have he := exec_mailboxTimeout_due hdue
    refine ⟨_, he, ?_, raises_of_raise (get_mbxLate_of_win (by decide) s) rfl,
      ((execMailboxTimeout_within (Sub.refl _) (Within.refl _ s)).of_next he).frame (by decide)⟩
    rw [get_raise]
    exact mbxLate_timedOut hs.rising
  case timeoutPends =>
    intro m s hs hdue hsender
    refine ⟨_, exec_mailboxTimeout_due hdue, ?_⟩
    rw [get_raise]
    exact mbxLate_pending m.isLt hs.rising hsender
  case lockFault =>
    intro c mie p s _ hrun hfind
    have he : exec (.coreInterrupt c mie) s = .next { s with cluster := { s.cluster with
        lockFaults := s.cluster.lockFaults.erase p, mcause := spSet c.val 24 s.cluster.mcause, mtval := spSet c.val p.2 s.cluster.mtval } } := by
      show execCoreInterrupt c mie s = _
      unfold execCoreInterrupt
      dsimp only
      rw [if_neg (by simp [hrun]), hfind]
      rfl
    exact ⟨_, he, rfl, ((execCoreInterrupt_within (Sub.refl _) (Within.refl _ s)).of_next he).narrow (by decide)⟩
  case interrupt =>
    intro c mie k s _ hrun hnone hfind
    have hnoFault : s.cluster.lockFaults.find? (fun p => p.1 == c.val) = none :=
      List.find?_eq_none.2 (fun p hp => by simpa using List.all_eq_true.1 hnone p hp)
    have he : exec (.coreInterrupt c mie) s = .next { s with cluster := { s.cluster with
        mcause := spSet c.val (2 ^ 63 + k) s.cluster.mcause, mtval := spSet c.val 0 s.cluster.mtval
        tickIrq := if k = 18 then s.cluster.tickIrq.erase c.val else s.cluster.tickIrq } } := by
      show execCoreInterrupt c mie s = _
      unfold execCoreInterrupt
      dsimp only
      rw [if_neg (by simp [hrun]), hnoFault]
      dsimp only
      rw [hfind]
      rfl
    exact ⟨_, he, rfl, ((execCoreInterrupt_within (Sub.refl _) (Within.refl _ s)).of_next he).narrow (by decide)⟩
  case take =>
    intro a k lease s hs hlease hfree
    have howned : lockOwned k.val a.init.val s = false := by
      unfold lockOwned
      rw [on_of_eq_zero hfree]
      rfl
    have hepoch : s.get (EPOCH_EPOCH a.init.val) < 256 := regGet_lt (EPOCH_EPOCH a.init.val) s.regs
    have he := exec_lockAcquire_eq a k lease s
    rw [if_neg hlease, if_neg (by simp [howned]), if_neg (by simp [on_of_eq_zero hfree])] at he
    have h1 := rising_set (LOCK_STAT_HELD k.val) 1 hs.rising
    have h2 := rising_set (LOCK_STAT_OWNER k.val) a.init.val h1
    refine ⟨_, he, rfl, ?_, ?_, ?_, ?_, ((((Narrow.refl _ _ s).set (by simp) _).set (by simp) _).set (by simp) _).set (by simp) _ |>.answer
      (by simp) _⟩
    · show ((((s.set (LOCK_STAT_HELD k.val) 1).set (LOCK_STAT_OWNER k.val) a.init.val).set (LOCK_STAT_OEPOCH k.val)
        (s.get (EPOCH_EPOCH a.init.val))).set (LOCK_STAT_LEFT k.val) (lease % 65536)).get (LOCK_STAT_HELD k.val) = 1
      simp (disch := simp) only [get_set_of_bit]
      exact get_set_self _ 1 hs.rising
    · show ((((s.set (LOCK_STAT_HELD k.val) 1).set (LOCK_STAT_OWNER k.val) a.init.val).set (LOCK_STAT_OEPOCH k.val)
        (s.get (EPOCH_EPOCH a.init.val))).set (LOCK_STAT_LEFT k.val) (lease % 65536)).get (LOCK_STAT_OWNER k.val) = a.init.val
      simp (disch := simp) only [get_set_of_bit]
      exact (get_set_self _ _ h1).trans (Nat.mod_eq_of_lt a.init.isLt)
    · show ((((s.set (LOCK_STAT_HELD k.val) 1).set (LOCK_STAT_OWNER k.val) a.init.val).set (LOCK_STAT_OEPOCH k.val)
        (s.get (EPOCH_EPOCH a.init.val))).set (LOCK_STAT_LEFT k.val) (lease % 65536)).get (LOCK_STAT_OEPOCH k.val) = _
      simp (disch := simp) only [get_set_of_bit]
      exact (get_set_self _ _ h2).trans (Nat.mod_eq_of_lt hepoch)
    · exact (get_set_self _ _ (rising_set _ _ h2)).trans (Nat.mod_eq_of_lt (Nat.mod_lt _ (by decide)))
  case renew =>
    intro a k lease s hs hlease howned
    have he := exec_lockAcquire_eq a k lease s
    rw [if_neg hlease, if_pos howned] at he
    exact ⟨_, he, rfl, (get_set_self _ _ hs.rising).trans (Nat.mod_eq_of_lt (Nat.mod_lt _ (by decide))),
      ((Narrow.refl _ _ s).set (by simp) _).answer (by simp) _⟩
  case held =>
    intro a k lease s _ hlease hheld howned
    have he := exec_lockAcquire_eq a k lease s
    rw [if_neg hlease, if_neg (by simp [howned]), if_pos (on_of_eq_one hheld)] at he
    exact ⟨_, he, rfl, (Narrow.refl _ _ s).answer (by simp) _⟩
  case noLease =>
    intro a k lease s _ hlease
    have he := exec_lockAcquire_eq a k lease s
    rw [if_pos hlease] at he
    exact ⟨_, he, rfl, (Narrow.refl _ _ s).answer (by simp) _⟩
  case release =>
    intro a k s hs howned
    have he := exec_lockRelease_eq a k s
    rw [if_pos howned] at he
    obtain ⟨hheld, hbroken⟩ := lockFree_reads k.val false hs.rising
    exact ⟨_, he, rfl, hheld, hbroken, ((lockFree_narrow k.val false s).mono (by simp) (List.Subset.refl _)).answer (by simp) _⟩
  case notOwner =>
    intro a k s _ howned
    have he := exec_lockRelease_eq a k s
    rw [if_neg (by simp [howned])] at he
    exact ⟨_, he, rfl, (Narrow.refl _ _ s).answer (by simp) _⟩
  case expiry =>
    intro k s hs hheld hleft hstands
    obtain ⟨u, hu⟩ : ∃ u, u = raise 0x1002 [⟨1, k.val⟩, ⟨1, s.get (LOCK_STAT_OWNER k.val)⟩, ⟨1, s.get (LOCK_STAT_OEPOCH k.val)⟩]
        (lockFree k.val true s) := ⟨_, rfl⟩
    have he : exec (.leaseExpiry k) s = .next (if s.get (LOCK_STAT_OWNER k.val) < 4 then
        { u with cluster := { u.cluster with lockFaults := u.cluster.lockFaults ++ [(s.get (LOCK_STAT_OWNER k.val), k.val)] } } else u) := by
      rw [hu]
      exact whenOk_of (by simp [on_of_eq_one hheld, hleft, hstands]) s _
    obtain ⟨hfree, hbroken⟩ := lockFree_reads k.val true hs.rising
    have hcluster : u.cluster = s.cluster := by
      rw [hu, raise_cluster]
      rfl
    have hget (f : Fld) : u.get f = (lockFree k.val true s).get f := by rw [hu, get_raise]
    have hready : (lockFree k.val true s).get BOOT_STAT_READY = s.get BOOT_STAT_READY :=
      (lockFree_within (Sub.refl _) (Within.refl _ s)).get (by decide)
    have hframe := (execLeaseExpiry_within (Sub.refl _) (Within.refl _ s)).of_next he
    by_cases howner : s.get (LOCK_STAT_OWNER k.val) < 4
    · rw [if_pos howner] at he hframe
      refine ⟨_, he, (hget _).trans hfree, (hget _).trans hbroken, ?_, raises_of_raise hready (show u.events = _ from congrArg State.events hu), hframe.frame (by decide)⟩
      rw [if_pos howner, ← hcluster]
    · rw [if_neg howner] at he hframe
      refine ⟨_, he, (hget _).trans hfree, (hget _).trans hbroken, ?_, raises_of_raise hready (show u.events = _ from congrArg State.events hu), hframe.frame (by decide)⟩
      rw [if_neg howner, hcluster, List.append_nil]
  case kick =>
    intro a c key s hs hwriter
    have he : exec (.wdKick a c key) s = .next (answer .done (s.setIf ((WD_KICK_KEY c.val).of key == 0xA5 && s.on (WD_CTL_EN c.val))
        (CORE_STAT_WD_LEFT c.val) (s.get (WD_CTL_PERIOD c.val)))) := by
      show ok (answered (wrWdKick a c.val key s)) = _
      rw [wrWdKick, if_neg (by simp [hwriter])]
      rfl
    have hkey : (WD_KICK_KEY c.val).of key = key % 256 := by
      unfold Fld.of bits
      rw [show (WD_KICK_KEY c.val).key % 64 = 0 from Nat.mul_add_mod _ _ _, pow_zero, Nat.div_one]
      rfl
    have hen : s.get (WD_CTL_EN c.val) < 2 := regGet_lt (WD_CTL_EN c.val) s.regs
    have hperiod : s.get (WD_CTL_PERIOD c.val) < 2 ^ 24 := regGet_lt (WD_CTL_PERIOD c.val) s.regs
    rw [hkey, State.setIf] at he
    by_cases h : key % 256 = 0xA5 ∧ s.get (WD_CTL_EN c.val) = 1
    · rw [if_pos (by simp [h.1, on_of_eq_one h.2])] at he
      refine ⟨_, he, rfl, ?_, ((Narrow.refl _ _ s).set (by simp) _).answer (by simp) _⟩
      rw [if_pos h]
      exact (get_set_self _ _ hs.rising).trans (Nat.mod_eq_of_lt hperiod)
    · have hoff : ¬ (key % 256 == 0xA5 && s.on (WD_CTL_EN c.val)) = true := by
        unfold State.on
        simp only [Bool.and_eq_true, beq_iff_eq, bne_iff_ne]
        omega
      rw [if_neg hoff] at he
      refine ⟨_, he, rfl, ?_, (Narrow.refl _ _ s).answer (by simp) _⟩
      rw [if_neg h]
      rfl
  case coreReset =>
    intro c s hs hcounts hlast hcore hfw hrhalt
    have he := exec_watchdogExpiry_last hcounts hlast
    rw [if_neg (by omega)] at he
    have htold := wdTold_within c.val s
    have hsound := htold.sound hs
    have hon : domOn (82 + c.val) (wdTold c.val s) = true := by
      unfold domOn domState
      rw [htold.get (by rw [PWR_DOM_STAT_STATE_win]; decide)]
      exact domOn_of_wdCounts hcounts
    have hfw' : coreHasFirmware c.val (wdTold c.val s) = true := by
      unfold coreHasFirmware
      rw [htold.get (by rw [BOOT_STAT_FW_SLOT_win]; decide), htold.get (by rw [BOOT_STAT_IFW_win]; decide)]
      exact hfw
    have hrhalt' : (wdTold c.val s).get (DBG_RUN_RHALT c.val) = 0 := (htold.get (by rw [DBG_RUN_RHALT_win]; decide)).trans hrhalt
    obtain ⟨henable, hleft, hepoch⟩ := coreReset_cleared hsound c.isLt hon hfw' hrhalt'
    have hreset : Within anywhere s (coreReset c.val (wdTold c.val s)) := coreReset_within (by decide) (htold.mono (by decide))
    refine ⟨_, he, coreReset_runs hsound c.isLt hon hfw' hrhalt', henable, hleft, ?_, hreset.pending⟩
    rw [hepoch, htold.get (by rw [EPOCH_EPOCH_win]; decide)]
  case warmReset =>
    intro c s hs hcounts hlast hcore hidle
    have he := exec_watchdogExpiry_last hcounts hlast
    have htold := wdTold_within c.val s
    have hidle' : almPrograms (wdTold c.val s) = false := by
      unfold almPrograms
      rw [htold.sec (by decide)]
      exact hidle
    rw [if_pos hcore, askWarm_of_idle hidle'] at he
    have hgoes := stepThree_warmReset 4 (htold.sound hs)
    have hleaves := warmReset_leaves 4 (htold.sound hs)
    have hstep : Within 0x100000000064100000007C (warmReset 4 (wdTold c.val s)) (stepThree (warmReset 4 (wdTold c.val s))) :=
      stepThree_within (Sub.refl _) (Within.refl _ _)
    have hall : Within anywhere s (stepThree (warmReset 4 (wdTold c.val s))) :=
      stepThree_within (by decide) (warmReset_within (by decide) (htold.mono (by decide)))
    have hotp := (otpKept_within htold (by decide)).trans ((warmReset_otp 4 (wdTold c.val s)).trans (otpKept_within hstep (by decide)))
    refine ⟨_, he, hgoes.kind, hgoes.source, hgoes.frameCount, hgoes.stage, hall.pending, ?_, hotp.1, hotp.2⟩
    rw [hstep.flash (by decide), hleaves.flash, htold.flash (by decide)]
  case crcConfig =>
    intro a u v s hs
    have he : exec (.crcConfig a u v) s = .next (answer .done (wrCrcCfg u.val v s).2) := by
      show ok (answered (wrCrcCfg u.val v s)) = _
      rw [wrCrcCfg_eq u.val v hs.rising]
      rfl
    have hframe := (execCrcConfig_within (_a := a) (Sub.refl _) (Within.refl _ s)).of_next he
    rw [wrCrcCfg_eq u.val v hs.rising] at he hframe
    refine ⟨_, he, rfl, (crcWritten_reads u.val v hs.rising).poly, ?_, rfl, hframe.frame (by decide)⟩
    by_cases h : (CRC_CFG_SEED_EN u.val).of v = 1
    · rw [if_pos h]
      simp only [crcStart, h, decide_true, if_true]
      rfl
    · rw [if_neg h]
      simp only [crcStart, h, decide_false]
      rfl
  case crcFold =>
    intro a u v s _ hdue
    have he : exec (.crcFold a u v) s = .next (answer .done (crcTake u.val (toBytes 4 v)
        { s with cluster := { s.cluster with foldDue := s.cluster.foldDue.erase u.val } })) := by
      show ok (answered (wrCrcFold u.val v s)) = _
      rw [wrCrcFold, if_pos hdue]
      rfl
    exact ⟨_, he, rfl, rfl, rfl, ((execCrcFold_within (_a := a) (Sub.refl _) (Within.refl _ s)).of_next he).narrow (by decide)⟩
  case crcFeed =>
    intro a u width v s _ hdue
    have he : exec (.crcFeed a u width v) s = .next (answer .done (crcTake u.val
        (toBytes (match width with | .byte => 1 | .half => 2 | .word => 4) v) s)) := by
      show ok (answered (wrCrcData u.val _ v s)) = _
      rw [wrCrcData, if_neg hdue]
      rfl
    exact ⟨_, he, rfl, rfl, ((execCrcFeed_within (_a := a) (Sub.refl _) (Within.refl _ s)).of_next he).narrow (by decide)⟩
  case crcEarly =>
    intro a u width v s _ hdue
    have he : exec (.crcFeed a u width v) s = .next (answer .range s) := by
      show ok (answered (wrCrcData u.val _ v s)) = _
      rw [wrCrcData, if_pos hdue]
      rfl
    exact ⟨_, he, rfl, (Narrow.refl _ _ s).answer (by simp) _⟩
  case crcRead =>
    intro a u s _
    refine ⟨_, rfl, ?_, ((execCrcResultRead_within (_a := a) (Sub.refl _) (Within.refl _ s)).of_next rfl).narrow (by decide)⟩
    show (⟨.done, crcResult u.val s, []⟩ : Resp) = _
    unfold crcResult polyRefl
    simp only [decide_eq_true_eq]

end Sys2Proof.Machine
end

section
/-! SUPPORT. Fail capture (chapter 12): what its records leave of the engines and of its own part, a cycle's results, the drain. -/
namespace Sys2Proof.Machine

/-! ### The engines: what an operation keeps of one, as a view of it -/

/-- The engines stand in the order of their numbers. -/
abbrev EngsRise (s : State) : Prop := (s.seqs.map (·.q)).Pairwise (· < ·)

theorem engsRise {s : State} (hs : Sound s) : EngsRise s := by
  obtain ⟨_, _, _, _, _, _, _, _, hseqs, _⟩ := hs
  exact (keysRise_iff _).1 hseqs

theorem EngsRise.setEng {s : State} (h : EngsRise s) (e : SeqEng) : EngsRise (setEng e s) := rise_engPut e h

theorem EngsRise.modEng {s : State} (h : EngsRise s) (q : Nat) (f : SeqEng → SeqEng) : EngsRise (modEng q f s) := h.setEng _

/-- The engine of sequencer q looks the same in a view of it. -/
structure EngKept {α : Type} (v : SeqEng → α) (q : Nat) (s t : State) : Prop where
  kept : EngsRise s → EngsRise t ∧ v (eng q t) = v (eng q s)

section
variable {α : Type} {v : SeqEng → α}

theorem EngKept.refl (q : Nat) (s : State) : EngKept v q s s := ⟨fun h => ⟨h, rfl⟩⟩

theorem EngKept.trans {q : Nat} {s t u : State} (h : EngKept v q s t) (g : EngKept v q t u) : EngKept v q s u := by
  refine ⟨fun hs => ?_⟩
  obtain ⟨ht, hview⟩ := h.kept hs
  obtain ⟨hu, hview'⟩ := g.kept ht
  exact ⟨hu, hview'.trans hview⟩

theorem EngKept.of_seqs {q : Nat} {s t : State} (h : t.seqs = s.seqs) : EngKept v q s t := by
  refine ⟨fun hs => ?_⟩
  have heng : eng q t = eng q s := by
    unfold eng
    rw [h]
  exact ⟨by unfold EngsRise; rw [h]; exact hs, by rw [heng]⟩

theorem EngKept.setEng (q : Nat) {e : SeqEng} {s : State} (hv : v e = v (eng e.q s)) : EngKept v q s (setEng e s) := by
  refine ⟨fun hs => ⟨hs.setEng e, ?_⟩⟩
  by_cases h : q = e.q
  · rw [h, eng_setEng_self hs, hv]
  · rw [eng_setEng_of_ne h]

theorem EngKept.modEng (q p : Nat) {f : SeqEng → SeqEng} (hq : ∀ e, (f e).q = e.q) (hv : ∀ e, v (f e) = v e) (s : State) :
    EngKept v q s (modEng p f s) := by
  have hnum : (f (eng p s)).q = p := (hq _).trans (eng_q p s)
  exact EngKept.setEng q (by rw [hnum, hv])

theorem EngKept.foldl {β : Type} {q : Nat} {f : State → β → State} (hf : ∀ t x, EngKept v q t (f t x)) (l : List β) (s : State) :
    EngKept v q s (l.foldl f s) :=
  List.foldlRecOn (motive := fun t => EngKept v q s t) l _ (EngKept.refl q s) (fun t ht x _ => ht.trans (hf t x))

end

/-- The cycles issued and the results handed on. -/
def issuedSeen (e : SeqEng) : List Cyc × List CycSeen := (e.issued, e.seen)

theorem putPauseSrc_engKept (q p v : Nat) (s : State) : EngKept issuedSeen q s (putPauseSrc p v s) := by
  have hset : EngKept issuedSeen q s (s.set (SEQ_STAT_PAUSE_SRC p) v) := EngKept.of_seqs rfl
  unfold putPauseSrc
  dsimp only
  split
  · exact hset.trans (EngKept.modEng q p (f := fun e => { e with pauseTicks := 0, pauseWarned := false }) (fun _ => rfl)
      (fun _ => rfl) _)
  · exact hset

/-! ### Records that enter a FIFO (R277 to R280) -/

theorem fcThrottle_narrow (q : Nat) (s : State) :
    Narrow [.events, .trace, .seqs] [FC_SEQ_STAT_THROTTLING q, SEQ_STAT_PAUSE_SRC q] s (fcThrottle q s) := by
  have hpause (b : Bool) (v : Nat) : Narrow [.events, .trace, .seqs] [FC_SEQ_STAT_THROTTLING q, SEQ_STAT_PAUSE_SRC q] s
      (setPauseSrc q 2 b (s.set (FC_SEQ_STAT_THROTTLING q) v)) := by
    have hset := ((Narrow.refl [.events, .trace, .seqs] [FC_SEQ_STAT_THROTTLING q, SEQ_STAT_PAUSE_SRC q] s).set
      (by simp) (f := FC_SEQ_STAT_THROTTLING q) v).set (f := SEQ_STAT_PAUSE_SRC q) (by simp)
      (putBit ((s.set (FC_SEQ_STAT_THROTTLING q) v).get (SEQ_STAT_PAUSE_SRC q)) 2 b)
    unfold setPauseSrc putPauseSrc
    dsimp only
    split
    · exact hset.within (modEng_within (A := 0x2000) (by decide) (Within.refl _ _)) (by decide)
    · exact hset
  unfold fcThrottle
  dsimp only
  split
  · split
    · exact (hpause false 0).raise (by simp) _ _
    · exact Narrow.refl _ _ s
  · split
    · exact (hpause true 1).raise (by simp) _ _
    · exact Narrow.refl _ _ s

theorem fcThrottle_engKept (q p : Nat) (s : State) : EngKept issuedSeen q s (fcThrottle p s) := by
  have hpause (b : Bool) (v : Nat) : EngKept issuedSeen q s (setPauseSrc p 2 b (s.set (FC_SEQ_STAT_THROTTLING p) v)) :=
    (EngKept.of_seqs (s := s) (t := s.set (FC_SEQ_STAT_THROTTLING p) v) rfl).trans (putPauseSrc_engKept q p _ _)
  unfold fcThrottle
  dsimp only
  split
  · split
    · exact (hpause false 0).trans (EngKept.of_seqs (raise_seqs _ _ _))
    · exact EngKept.refl q s
  · split
    · exact (hpause true 1).trans (EngKept.of_seqs (raise_seqs _ _ _))
    · exact EngKept.refl q s

theorem fcThrottle_fail (q : Nat) (s : State) : (fcThrottle q s).fail = s.fail := (fcThrottle_narrow q s).part .fail (by decide)

/-- Of fail capture's own part only the FIFOs may differ. -/
def FifoOnly (s t : State) : Prop := ∃ l, t.fail = { s.fail with fifo := l }

theorem FifoOnly.refl (s : State) : FifoOnly s s := ⟨s.fail.fifo, rfl⟩

theorem FifoOnly.of_fail {s t : State} (h : t.fail = s.fail) : FifoOnly s t := ⟨s.fail.fifo, h⟩

theorem FifoOnly.trans {s t u : State} (h : FifoOnly s t) (g : FifoOnly t u) : FifoOnly s u := by
  obtain ⟨_, hl⟩ := h
  obtain ⟨m, hm⟩ := g
  exact ⟨m, by rw [hm, hl]⟩

theorem fcPush_fifoOnly (q w0 w1 w2 w3 : Nat) (s : State) : FifoOnly s (fcPush q w0 w1 w2 w3 s) :=
  FifoOnly.trans (t := setFifo q (fcFifo q s ++ [[w0, w1, w2, w3 + frameCount s % 2 ^ 32 * 2 ^ 32]]) s) ⟨_, rfl⟩
    (.of_fail (fcThrottle_fail q _))

theorem fcPush_engKept (q p w0 w1 w2 w3 : Nat) (s : State) : EngKept issuedSeen q s (fcPush p w0 w1 w2 w3 s) :=
  EngKept.trans (t := setFifo p (fcFifo p s ++ [[w0, w1, w2, w3 + frameCount s % 2 ^ 32 * 2 ^ 32]]) s) (.of_seqs rfl)
    (fcThrottle_engKept q p _)

theorem fcControl_fifoOnly (q w0 w1 w2 w3 : Nat) (s : State) : FifoOnly s (fcControl q w0 w1 w2 w3 s) := by
  unfold fcControl
  split
  · exact .of_fail rfl
  · exact fcPush_fifoOnly q w0 w1 w2 w3 s

theorem fcControl_engKept (q p w0 w1 w2 w3 : Nat) (s : State) : EngKept issuedSeen q s (fcControl p w0 w1 w2 w3 s) := by
  unfold fcControl
  split
  · exact .of_seqs rfl
  · exact fcPush_engKept q p w0 w1 w2 w3 s

theorem fcFail_engKept (q p g : Nat) (counted : Bool) (w0 w1 w2 w3 : Nat) (s : State) :
    EngKept issuedSeen q s (fcFail p g counted w0 w1 w2 w3 s).2 := by
  unfold fcFail
  dsimp only
  split
  · exact EngKept.trans (t := s.count (FC_SITE_REC_LOGGED p g) (if counted then 1 else 0)) (.of_seqs rfl)
      (fcPush_engKept q p w0 w1 w2 w3 _)
  · exact .of_seqs rfl

theorem fcFlush_fifoOnly (q : Nat) (s : State) : FifoOnly s (fcFlush q s) := by
  unfold fcFlush
  split
  next n _ pc _ code cause cycles r _ =>
    split
    · dsimp only
      split
      · exact FifoOnly.trans (t := modEng q (fun e => { e with markers := r }) s) ⟨_, rfl⟩ (fcControl_fifoOnly ..)
      · exact ⟨_, rfl⟩
    · exact FifoOnly.refl s
  · exact FifoOnly.refl s

theorem fcFlush_engKept (q p : Nat) (s : State) : EngKept issuedSeen q s (fcFlush p s) := by
  unfold fcFlush
  split
  next n _ pc _ code cause cycles r _ =>
    have hmod : EngKept issuedSeen q s (modEng p (fun e => { e with markers := r }) s) :=
      EngKept.modEng q p (f := fun e => { e with markers := r }) (fun _ => rfl) (fun _ => rfl) s
    split
    · dsimp only
      split
      · exact hmod.trans (fcControl_engKept q p ..)
      · exact hmod
    · exact EngKept.refl q s
  · exact EngKept.refl q s

/-- In COUNT mode no END record is written, so no register changes (R276). -/
theorem fcFlush_regs_of_count {q : Nat} {s : State} (h : s.get (FC_SEQ_CTL_MODE q) = 3) : (fcFlush q s).regs = s.regs := by
  unfold fcFlush
  split
  next n _ pc _ code cause cycles r _ =>
    split
    · have hmode : writesControl q (modEng q (fun e => { e with markers := r }) s) = false := by
        show (s.get (FC_SEQ_CTL_MODE q) != 3) = false
        rw [h]
        rfl
      dsimp only
      rw [hmode, Bool.and_false, if_neg (by simp)]
      rfl
    · rfl
  · rfl

/-! ### A cycle's results (R272 to R277, R286) -/

theorem siteRecords_engKept (q p g : Nat) (first counted : Bool) (c : Cyc) (s : State) :
    EngKept issuedSeen q s (siteRecords p g first counted c s).2 := by
  unfold siteRecords
  dsimp only
  refine List.foldlRecOn (motive := fun x : Bool × State => EngKept issuedSeen q s x.2) (List.range 8) _ (EngKept.refl q s) ?_
  intro x hx i _
  split
  · exact hx
  · exact hx.trans (fcFail_engKept ..)

theorem mapSite_engKept (q p m : Nat) (c : Cyc) (l : List Nat) (s : State) : EngKept issuedSeen q s (mapSite p m c l s).2 :=
  .of_seqs ((mapSite_within (A := 0x4000000000000008000) (Sub.refl _) (Within.refl _ s)).seqs (by decide))

theorem captureSite_engKept (q p g : Nat) (counted : Bool) (c : Cyc) (s : State) : EngKept issuedSeen q s (captureSite p g counted c s) := by
  have hcount : EngKept issuedSeen q s (if counted then s.count (FC_SITE_FAIL_FAILCYC p g) 1 else s) := by
    split
    · exact .of_seqs rfl
    · exact EngKept.refl q s
  unfold captureSite
  dsimp only
  generalize (if counted then s.count (FC_SITE_FAIL_FAILCYC p g) 1 else s) = u at hcount
  split
  · split
    · exact siteRecords_engKept ..
    · exact EngKept.refl q s
  · split
    · split
      · exact hcount
      · have hrecords := hcount.trans (siteRecords_engKept q p g true true c u)
        generalize siteRecords p g true true c u = r at hrecords
        split
        · exact hrecords.trans (.of_seqs rfl)
        · exact hrecords
    · split
      · exact hcount.trans (siteRecords_engKept ..)
      · split
        · split
          · exact hcount.trans (siteRecords_engKept ..)
          · split
            · exact hcount.trans ((mapSite_engKept ..).trans (siteRecords_engKept ..))
            · exact hcount.trans (mapSite_engKept ..)
        · exact hcount

/-- The counts of the failing channels of a cycle (R276). -/
def channelsCounted (c : Cyc) (counted : Bool) (s : State) : State :=
  if counted && c.mrep.isNone then forEach (c.res.filter (fun r => r.fail)) (fun r t => t.count (FC_CH_CNT_COUNT r.ch) 1) s else s

theorem channelsCounted_within (c : Cyc) (counted : Bool) (s : State) :
    Within 0x2000000000000000000 s (channelsCounted c counted s) := by
  unfold channelsCounted
  split
  · exact forEach_within (fun r t ht => State.count_within (by decide) (inMask (FC_CH_CNT_COUNT_win _) (by decide)) ht) _ (Within.refl _ s)
  · exact Within.refl _ s

theorem captureCycle_of_running {q : Nat} {c : Cyc} {s : State} (hfail : failSites q c s ≠ 0) (hdom : domRuns 70 s = true) :
    captureCycle q c s = forNat 64 (fun g t => if bit (failSites q c s) g then captureSite q g (decide (spGet q s.fail.startN ≤ c.n)) c t
      else t) (channelsCounted c (decide (spGet q s.fail.startN ≤ c.n)) s) := by
  unfold captureCycle
  dsimp only
  rw [if_neg hfail, hdom, if_neg (by simp)]
  rfl

theorem captureCycle_engKept (q p : Nat) (c : Cyc) (s : State) : EngKept issuedSeen q s (captureCycle p c s) := by
  by_cases hfail : failSites p c s = 0
  · unfold captureCycle
    dsimp only
    rw [if_pos hfail]
    exact EngKept.refl q s
  · cases hdom : domRuns 70 s with
    | false =>
      unfold captureCycle
      dsimp only
      rw [if_neg hfail, hdom, if_pos (by rfl)]
      exact .of_seqs ((raiseOnce_within (A := 0xC) (by decide) (Within.refl _ _)).seqs (by decide))
    | true =>
      rw [captureCycle_of_running hfail hdom]
      refine EngKept.trans (.of_seqs ((channelsCounted_within c _ s).seqs (by decide))) (EngKept.foldl (fun t g => ?_) _ _)
      dsimp only
      split
      · exact captureSite_engKept ..
      · exact EngKept.refl q t

end Sys2Proof.Machine
end

section
/-! SUPPORT. Fail capture (chapter 12): its commands. -/
namespace Sys2Proof.Machine

/-! ### A cycle's results handed on (R135, R173, R272, R276) -/

/-- The oldest issued cycle taken from the engine. -/
def issuedTaken (q : Nat) (c : Cyc) (r : List Cyc) (s : State) : State :=
  setEng { eng q s with issued := r, doneK := if spGet q s.fail.startN ≤ c.n then c.k else (eng q s).doneK } s

/-- The cycle captured and copied to the tap. -/
def cycleTaken (q : Nat) (c : Cyc) (r : List Cyc) (s : State) : State :=
  tapCycle q c (failSites q c s) (captureCycle q c (issuedTaken q c r s))

/-- What the sequencer is told of a cycle. -/
def seenOf (q : Nat) (c : Cyc) (s : State) : CycSeen :=
  ⟨c.n, failSites q c s, (cycleMasks q c s).1, (cycleMasks q c s).2, c.mrep, c.last⟩

def tellSeen (x : CycSeen) (e : SeqEng) : SeqEng := { e with seen := e.seen ++ [x] }

theorem tellSeen_q (x : CycSeen) (e : SeqEng) : (tellSeen x e).q = e.q := rfl

theorem resultComplete_eq (q : Nat) (c : Cyc) (r : List Cyc) (s : State) : resultComplete q c r s =
    fcFlush q (modEng q (tellSeen (seenOf q c s)) (cycleTaken q c r s)) := rfl

theorem exec_cycleResultComplete {q : Fin 16} {y : Cyc} {l : List Cyc} {s : State} (hissued : (eng q.val s).issued = y :: l)
    (hdone : cycleComplete q.val y s = true) : exec (.cycleResultComplete q) s = .next (resultComplete q.val y l s) := by
  show execCycleResultComplete q s = _
  unfold execCycleResultComplete
  rw [hissued]
  exact whenOk_of hdone s _

theorem resultComplete_engine {q : Nat} {c : Cyc} {r : List Cyc} {s : State} (hs : EngsRise s) :
    (eng q (resultComplete q c r s)).issued = r ∧ (eng q (resultComplete q c r s)).seen = (eng q s).seen ++ [seenOf q c s] := by
  have htaken : eng q (issuedTaken q c r s) =
      { eng q s with issued := r, doneK := if spGet q s.fail.startN ≤ c.n then c.k else (eng q s).doneK } := by
    have hput := eng_setEng_self (e := { eng q s with issued := r, doneK := if spGet q s.fail.startN ≤ c.n then c.k else (eng q s).doneK }) hs
    rwa [eng_q] at hput
  have htap : Within 0x400000000004000 (captureCycle q c (issuedTaken q c r s)) (cycleTaken q c r s) :=
    tapCycle_within (Sub.refl _) (Within.refl _ _)
  have hseqs := htap.seqs (by decide)
  have hcapture := captureCycle_engKept q q c (issuedTaken q c r s)
  have hcycle := hcapture.trans (EngKept.of_seqs hseqs)
  have hput : EngsRise (issuedTaken q c r s) := by
    unfold issuedTaken
    exact hs.setEng _
  obtain ⟨hrise, hview⟩ := hcycle.kept hput
  obtain ⟨_, hview'⟩ := (fcFlush_engKept q q (modEng q (tellSeen (seenOf q c s)) (cycleTaken q c r s))).kept
    (hrise.modEng q (tellSeen (seenOf q c s)))
  have htold : eng q (modEng q (tellSeen (seenOf q c s)) (cycleTaken q c r s)) = tellSeen (seenOf q c s) (eng q (cycleTaken q c r s)) :=
    eng_modEng hrise (by rw [tellSeen_q, eng_q])
  obtain ⟨hissued, hseen⟩ := Prod.ext_iff.1 hview
  obtain ⟨hissued', hseen'⟩ := Prod.ext_iff.1 hview'
  dsimp only [issuedSeen] at hissued hseen hissued' hseen'
  rw [resultComplete_eq, hissued', hseen', htold, tellSeen]
  dsimp only
  rw [hissued, hseen, htaken]
  exact ⟨rfl, rfl⟩

/-! ### The count of a failing site in COUNT mode (R276) -/

theorem forNat_succ (n : Nat) (f : Nat → State → State) (s : State) : forNat (n + 1) f s = f n (forNat n f s) := by
  unfold forNat
  rw [List.range_succ, List.foldl_append]
  rfl

/-- Fields counted once each, where p says so: any other field keeps its value. -/
def countEach (p : Nat → Bool) (f : Nat → Fld) (n : Nat) (s : State) : State := forNat n (fun i t => if p i then t.count (f i) 1 else t) s

theorem rising_countEach (p : Nat → Bool) (f : Nat → Fld) (n : Nat) {s : State} (hs : Sparse.Rising s.regs) :
    Sparse.Rising (countEach p f n s).regs :=
  rising_forNat (fun i t ht => by split; exacts [rising_set _ _ ht, ht]) n hs

theorem countEach_succ (p : Nat → Bool) (f : Nat → Fld) (n : Nat) (s : State) :
    countEach p f (n + 1) s = if p n then (countEach p f n s).count (f n) 1 else countEach p f n s := forNat_succ n _ s

theorem get_countEach_of_ne {p : Nat → Bool} {f : Nat → Fld} {g : Fld} {n : Nat} (h : ∀ i < n, g.key ≠ (f i).key) (s : State) :
    (countEach p f n s).get g = s.get g := by
  induction n with
  | zero => rfl
  | succ n ih =>
    have hkept := ih (fun i hi => h i (by omega))
    rw [countEach_succ]
    split
    · exact (get_set_of_ne _ (h n (by omega)) _).trans hkept
    · exact hkept

theorem get_countEach_self {p : Nat → Bool} {f : Nat → Fld} {g n : Nat} (hg : g < n) (hp : p g = true)
    (h : ∀ i < n, i ≠ g → (f g).key ≠ (f i).key) {s : State} (hs : Sparse.Rising s.regs) :
    (countEach p f n s).get (f g) = min (s.get (f g) + 1) (2 ^ (f g).width - 1) := by
  induction n with
  | zero => omega
  | succ n ih =>
    rw [countEach_succ]
    by_cases hn : g = n
    · subst hn
      rw [if_pos hp, get_count_self _ _ (rising_countEach p f g hs), get_countEach_of_ne (fun i hi => h i (by omega) (by omega))]
    · have hkept := ih (by omega) (fun i hi => h i (by omega))
      split
      · exact (get_set_of_ne _ (h n (by omega) (Ne.symm hn)) _).trans hkept
      · exact hkept

theorem captureSite_of_count {q g : Nat} {c : Cyc} {s : State} (hmode : s.get (FC_SEQ_CTL_MODE q) = 3) (hrep : c.mrep = none) :
    captureSite q g true c s = s.count (FC_SITE_FAIL_FAILCYC q g) 1 := by
  unfold captureSite
  dsimp only
  rw [hmode, hrep]
  rfl

theorem forNat_captureSite {q : Nat} {c : Cyc} {f : Nat} (hrep : c.mrep = none) (n : Nat) {s : State}
    (hmode : s.get (FC_SEQ_CTL_MODE q) = 3) :
    forNat n (fun g t => if bit f g then captureSite q g true c t else t) s = countEach (bit f) (FC_SITE_FAIL_FAILCYC q) n s := by
  induction n with
  | zero => rfl
  | succ n ih =>
    have hcount : (countEach (bit f) (FC_SITE_FAIL_FAILCYC q) n s).get (FC_SEQ_CTL_MODE q) = 3 := by
      rw [get_countEach_of_ne (fun i _ => by simp only [FC_SEQ_CTL_MODE, FC_SITE_FAIL_FAILCYC]; omega), hmode]
    rw [forNat_succ, ih, captureSite_of_count hcount hrep, countEach_succ]

/-- A failing site's count moves on by one, and the mode stays. -/
theorem cycleTaken_counts {q g : Nat} {c : Cyc} {r : List Cyc} {s : State} (hs : Sound s) (hg : g < 64) (hdom : domRuns 70 s = true)
    (hmode : s.get (FC_SEQ_CTL_MODE q) = 3) (hrep : c.mrep = none) (hcounted : spGet q s.fail.startN ≤ c.n)
    (hfail : bit (failSites q c s) g = true) :
    (cycleTaken q c r s).get (FC_SITE_FAIL_FAILCYC q g) = min (s.get (FC_SITE_FAIL_FAILCYC q g) + 1) (2 ^ 48 - 1) ∧
      (cycleTaken q c r s).get (FC_SEQ_CTL_MODE q) = 3 := by
  obtain ⟨u, hu⟩ : ∃ u, u = channelsCounted c true (issuedTaken q c r s) := ⟨_, rfl⟩
  have hw : Within 0x2000000000000002000 s u := by
    rw [hu]
    exact Within.trans (setEng_within (by decide) (Within.refl _ s)) ((channelsCounted_within c true _).mono (by decide))
  have hmode' : u.get (FC_SEQ_CTL_MODE q) = 3 := (hw.get (by rw [FC_SEQ_CTL_MODE_win]; decide)).trans hmode
  have hzero : failSites q c s ≠ 0 := by
    intro h
    rw [h] at hfail
    simp [bit] at hfail
  have hcapture : captureCycle q c (issuedTaken q c r s) = countEach (bit (failSites q c s)) (FC_SITE_FAIL_FAILCYC q) 64 u := by
    have heq := captureCycle_of_running (q := q) (c := c) (s := issuedTaken q c r s) hzero hdom
    have hcount : decide (spGet q (issuedTaken q c r s).fail.startN ≤ c.n) = true := decide_eq_true hcounted
    rw [hcount, ← hu] at heq
    exact heq.trans (forNat_captureSite hrep 64 hmode')
  have htap := tapCycle_within (A := 0x400000000004000) (q := q) (c := c) (sites := failSites q c s) (Sub.refl _)
    (Within.refl _ (captureCycle q c (issuedTaken q c r s)))
  constructor
  · refine (htap.get (by rw [FC_SITE_FAIL_FAILCYC_win]; decide)).trans ?_
    rw [hcapture, get_countEach_self hg hfail (fun i hi hne => by simp only [FC_SITE_FAIL_FAILCYC]; omega) (hw.rising hs),
      hw.get (by rw [FC_SITE_FAIL_FAILCYC_win]; decide)]
    rfl
  · refine (htap.get (by rw [FC_SEQ_CTL_MODE_win]; decide)).trans ?_
    rw [hcapture, get_countEach_of_ne (fun i _ => by simp only [FC_SEQ_CTL_MODE, FC_SITE_FAIL_FAILCYC]; omega), hmode']

/-! ### Windows that close (R284, R301) -/

/-- A window in CLOSED, and the domain that it names QUEUED. -/
def windowShut (m : Nat) (s : State) : State :=
  if domRuns 72 (s.set (FC_MAP_CTL_STATE m) mapClosed) &&
      (s.set (FC_MAP_CTL_STATE m) mapClosed).get (RA_DOM_STATE (s.get (FC_MAP_SEL_DOMAIN m))) == 1 then
    raQueue (s.get (FC_MAP_SEL_DOMAIN m)) m (s.set (FC_MAP_CTL_STATE m) mapClosed)
  else s.set (FC_MAP_CTL_STATE m) mapClosed

/-- A window in CLOSED with its frame noted, before its event. -/
def closedNoted (m : Nat) (s : State) : State :=
  { windowShut m s with fail := { (windowShut m s).fail with
      closedAt := spSet m (frameCount (windowShut m s)) (windowShut m s).fail.closedAt } }

theorem get_windowShut {m : Nat} {f : Fld} (hf : winBit f.key ≠ 78) (s : State) :
    (windowShut m s).get f = (s.set (FC_MAP_CTL_STATE m) mapClosed).get f := by
  unfold windowShut
  split
  · exact get_set_of_ne (s.set (FC_MAP_CTL_STATE m) mapClosed) (key_ne_of_win rfl (RA_DOM_STATE_win (s.get (FC_MAP_SEL_DOMAIN m))) hf) 2
  · rfl

theorem windowShut_fail (m : Nat) (s : State) : (windowShut m s).fail = s.fail := by
  unfold windowShut
  split <;> rfl

theorem enterClosed_eq (m : Nat) (s : State) : ∃ items, enterClosed m s = raise 0x0906 items (closedNoted m s) := ⟨_, rfl⟩

theorem enterClosed_state {m : Nat} {s : State} (hs : Sparse.Rising s.regs) : mapState m (enterClosed m s) = mapClosed := by
  obtain ⟨items, heq⟩ := enterClosed_eq m s
  unfold mapState
  rw [heq, get_raise]
  exact (get_windowShut (by rw [FC_MAP_CTL_STATE_win]; decide) s).trans (mapState_set (by decide) hs)

theorem enterClosed_fail (m : Nat) (s : State) :
    (enterClosed m s).fail = { s.fail with closedAt := spSet m (frameCount s) s.fail.closedAt } := by
  have hframe : frameCount (windowShut m s) = frameCount s := (get_windowShut (by decide) s).trans
    (get_set_of_win _ FRM_COUNT_COUNT_win (FC_MAP_CTL_STATE_win m) (by decide) _)
  obtain ⟨items, heq⟩ := enterClosed_eq m s
  rw [heq, raise_fail]
  unfold closedNoted
  rw [windowShut_fail, hframe]

theorem closeMap_state {m : Nat} {s : State} (hs : Sparse.Rising s.regs) : mapState m (closeMap m s) = mapClosed := enterClosed_state hs

theorem closeMap_fail (m : Nat) (s : State) : (closeMap m s).fail = { s.fail with
    spillPend := if s.on (FC_MAP_CTL_SPILL m) then s.fail.spillPend ++ [m] else s.fail.spillPend
    ready := if s.on (FC_MAP_CTL_SPILL m) then s.fail.ready else s.fail.ready ++ [m]
    closedAt := spSet m (frameCount s) s.fail.closedAt } := enterClosed_fail m _

theorem closeArrives_eq {q m : Nat} {x : Marker} {s : State} (hdom : domRuns 71 s = true)
    (hfind : (List.range 128).find? (fun k => mapState k s == mapOpen && s.get (FC_MAP_SEL_SEQ k) == q &&
      s.get (FC_MAP_SEL_DOMAIN k) == x.domain) = some m) :
    closeArrives q x s = if writesControl q (closeMap m s) then fcControl q (controlWord q 1 x.last) x.domain m x.pc (closeMap m s)
      else closeMap m s := by
  unfold closeArrives
  dsimp only
  rw [if_pos hdom, hfind]
  rfl

/-- The records of a close touch neither the windows nor their lists. -/
theorem closeMarker_after {q m : Nat} {x : Marker} {s : State} (hdom : domRuns 71 s = true)
    (hfind : (List.range 128).find? (fun k => mapState k s == mapOpen && s.get (FC_MAP_SEL_SEQ k) == q &&
      s.get (FC_MAP_SEL_DOMAIN k) == x.domain) = some m) :
    Within 0x120000000000000A00C (closeMap m s) (fcFlush q (closeArrives q x s)) ∧
      FifoOnly (closeMap m s) (fcFlush q (closeArrives q x s)) := by
  rw [closeArrives_eq hdom hfind]
  split
  · exact ⟨fcFlush_within (Sub.refl _) (fcControl_within (Sub.refl _) (Within.refl _ _)),
      (fcControl_fifoOnly ..).trans (fcFlush_fifoOnly ..)⟩
  · exact ⟨fcFlush_within (Sub.refl _) (Within.refl _ _), fcFlush_fifoOnly ..⟩

end Sys2Proof.Machine
end

section
/-! SUPPORT. Fail capture (chapter 12): the drain, and the statement. -/
namespace Sys2Proof.Machine

/-! ### The drain (R281 to R283) -/

/-- A drained record's pointers and turn, before the throttle looks at the FIFO. -/
def drainNoted (q : Nat) (r : List (List Nat)) (s : State) : State :=
  ({ setFifo q r s with fail := { (setFifo q r s).fail with
      due := spSet q (spGet q s.fail.due - 1) s.fail.due
      late := spSet q (spGet q s.fail.late - 1) s.fail.late
      turn := (q + 1) % 16
      units := s.fail.units + 1 } } : State).set (FC_LOG_PTR_WR q) ((s.get (FC_LOG_PTR_WR q) + 1) % 2 ^ 32)

theorem recordDrained_eq (q : Nat) (r : List (List Nat)) (s : State) : recordDrained q r s =
    if ringFull q (fcThrottle q (drainNoted q r s)) then
      raise 0x0904 [⟨1, q⟩, ⟨4, (fcThrottle q (drainNoted q r s)).get (FC_LOG_PTR_WR q)⟩] (fcThrottle q (drainNoted q r s))
    else fcThrottle q (drainNoted q r s) := rfl

theorem recordDrained_fifo (q : Nat) (r : List (List Nat)) (s : State) :
    (recordDrained q r s).fail.fifo = putKeyed q r s.fail.fifo := by
  have hthrottle : (fcThrottle q (drainNoted q r s)).fail.fifo = putKeyed q r s.fail.fifo := by
    rw [fcThrottle_fail]
    rfl
  rw [recordDrained_eq]
  split
  · rw [raise_fail, hthrottle]
  · exact hthrottle

theorem recordDrained_wr {q : Nat} {r : List (List Nat)} {s : State} (hs : Sparse.Rising s.regs) :
    (recordDrained q r s).get (FC_LOG_PTR_WR q) = (s.get (FC_LOG_PTR_WR q) + 1) % 2 ^ 32 := by
  have hnoted : (drainNoted q r s).get (FC_LOG_PTR_WR q) = (s.get (FC_LOG_PTR_WR q) + 1) % 2 ^ 32 :=
    (get_set_self _ _ hs).trans (Nat.mod_mod _ _)
  have hthrottle : (fcThrottle q (drainNoted q r s)).get (FC_LOG_PTR_WR q) = (s.get (FC_LOG_PTR_WR q) + 1) % 2 ^ 32 := by
    refine ((fcThrottle_narrow q _).regs _ ?_).trans hnoted
    intro g hg
    simp only [List.mem_cons, List.not_mem_nil, or_false] at hg
    rcases hg with rfl | rfl
    · simp only [FC_LOG_PTR_WR, FC_SEQ_STAT_THROTTLING]; omega
    · exact key_ne_of_win (FC_LOG_PTR_WR_win q) (SEQ_STAT_PAUSE_SRC_win q) (by decide)
  rw [recordDrained_eq]
  split
  · rw [get_raise, hthrottle]
  · exact hthrottle

theorem exec_failDrain_of_some {n k : Nat} {st : Status} {s : State} (h : dutySlot 3 anySlot s = some k) :
    exec (.failDrain n st) s = .next (forNat n (fun _ u => drainUnit st u) (inSlot k s)) := by
  show execFailDrain n st s = _
  unfold execFailDrain
  rw [inDuty_of_some h]
  rfl

theorem exec_failDrain_of_none {n : Nat} {st : Status} {s : State} (h : dutySlot 3 anySlot s = none) :
    exec (.failDrain n st) s = .next s := by
  show execFailDrain n st s = _
  unfold execFailDrain
  exact inDuty_of_noSlot (by rw [h]; rfl) _

theorem slotEntry_within {A k : Nat} {s t : State} (hw : Within A s t) (hA : A.testBit 38 = false) : slotEntry k t = slotEntry k s := by
  have hwin : winBit (if k % 4 = 0 then SLOT_ACT_SLOT0 (k / 4) else if k % 4 = 1 then SLOT_ACT_SLOT1 (k / 4)
      else if k % 4 = 2 then SLOT_ACT_SLOT2 (k / 4) else SLOT_ACT_SLOT3 (k / 4)).key = 38 := by
    split
    · exact SLOT_ACT_SLOT0_win _
    · split
      · exact SLOT_ACT_SLOT1_win _
      · split
        · exact SLOT_ACT_SLOT2_win _
        · exact SLOT_ACT_SLOT3_win _
  exact hw.get (by rw [hwin, hA])

theorem forNat_drainUnit_within (n : Nat) (st : Status) (s : State) :
    Within 0x20A00520002000000800B80C s (forNat n (fun _ u => drainUnit st u) s) :=
  forNat_within (fun _ _ hu => drainUnit_within (Sub.refl _) hu) n (Within.refl _ s)

/-- A duty that has started in a slot starts again in the same slot while the slot table and the slot stay. -/
theorem dutySlot_again {d k : Nat} {s t : State} (h : dutySlot d anySlot s = some k) (hslot : t.clock.slot = k)
    (hentry : ∀ j, slotEntry j t = slotEntry j s) : dutySlot d anySlot t = some k := by
  unfold dutySlot at h ⊢
  obtain ⟨hk, hmem, hbefore⟩ := List.find?_range_eq_some.1 h
  refine List.find?_range_eq_some.2 ⟨?_, hmem, fun j hj => ?_⟩
  · simp only [dutyMay, hentry, hslot, Bool.and_eq_true, decide_eq_true_eq] at hk ⊢
    exact ⟨⟨Nat.le_refl k, hk.1.2⟩, hk.2⟩
  · have hlate : ¬ k ≤ j := by omega
    simp [dutyMay, hslot, hlate]

theorem inSlot_self {k : Nat} {s : State} (h : s.clock.slot = k) : inSlot k s = s := by
  subst h
  rfl

theorem drainUnit_record {k q : Nat} {y : List Nat} {l : List (List Nat)} {s : State} (hrun : domRuns 70 s = true ∧ hbmWindow 1 1 s = true)
    (hspill : spillTurn s = false) (hnext : drainNext s = some q) (hfifo : fcFifo q s = y :: l)
    (hput : (putRecord q y (inSlot k s)).1 = .done) :
    drainUnit .done (inSlot k s) = recordDrained q l (putRecord q y (inSlot k s)).2 := by
  have hdom : (domRuns 70 (inSlot k s) && hbmWindow 1 1 (inSlot k s)) = true := by
    rw [Bool.and_eq_true]
    exact hrun
  have hnospill : spillTurn (inSlot k s) = false := hspill
  have hturn : drainNext (inSlot k s) = some q := hnext
  have hoccupied : fcFifo q (inSlot k s) = y :: l := hfifo
  unfold drainUnit
  rw [hdom, hnospill, hturn]
  unfold drainRecord
  dsimp only
  rw [hoccupied]
  dsimp only
  rw [hput]
  rfl

theorem drainUnit_spill {k : Nat} {st : Status} {s : State} (hrun : domRuns 70 s = true ∧ hbmWindow 1 1 s = true)
    (hspill : spillTurn s = true) : drainUnit st (inSlot k s) = takeSpill (inSlot k s) := by
  have hdom : (domRuns 70 (inSlot k s) && hbmWindow 1 1 (inSlot k s)) = true := by
    rw [Bool.and_eq_true]
    exact hrun
  have hturn : spillTurn (inSlot k s) = true := hspill
  unfold drainUnit
  rw [hdom, hturn]
  rfl

/-! ### Commands of the windows (R284, R285) -/

@[simp] theorem FC_MAP_CTL_OPEN_bit (m : Nat) : (FC_MAP_CTL_OPEN m).key % 64 = 0 := Nat.mul_add_mod _ _ _
@[simp] theorem FC_MAP_CTL_CLOSE_bit (m : Nat) : (FC_MAP_CTL_CLOSE m).key % 64 = 1 := Nat.mul_add_mod _ _ _
@[simp] theorem FC_MAP_CTL_DISCARD_bit (m : Nat) : (FC_MAP_CTL_DISCARD m).key % 64 = 2 := Nat.mul_add_mod _ _ _
@[simp] theorem FC_MAP_CTL_SPILL_bit (m : Nat) : (FC_MAP_CTL_SPILL m).key % 64 = 3 := Nat.mul_add_mod _ _ _
@[simp] theorem FC_MAP_CTL_STATE_bit (m : Nat) : (FC_MAP_CTL_STATE m).key % 64 = 4 := Nat.mul_add_mod _ _ _
@[simp] theorem FC_MAP_CTL_MAPERR_bit (m : Nat) : (FC_MAP_CTL_MAPERR m).key % 64 = 7 := Nat.mul_add_mod _ _ _
@[simp] theorem FC_MAP_STAT_HITS_bit (m : Nat) : (FC_MAP_STAT_HITS m).key % 64 = 0 := Nat.mul_add_mod _ _ _
@[simp] theorem FC_MAP_STAT_NONDATA_bit (m : Nat) : (FC_MAP_STAT_NONDATA m).key % 64 = 32 := Nat.mul_add_mod _ _ _
@[simp] theorem FC_SEQ_STAT_DRAIN_ERR_bit (q : Nat) : (FC_SEQ_STAT_DRAIN_ERR q).key % 64 = 19 := Nat.mul_add_mod _ _ _

/-- The three command bits and SPILL of a written FC_MAP_CTL. -/
theorem mapCtl_bits (m v : Nat) : (FC_MAP_CTL_OPEN m).hit v = (bits v 0 1 != 0) ∧ (FC_MAP_CTL_CLOSE m).hit v = (bits v 1 1 != 0) ∧
    (FC_MAP_CTL_DISCARD m).hit v = (bits v 2 1 != 0) ∧ (FC_MAP_CTL_SPILL m).of v = bits v 3 1 := by
  unfold Fld.hit Fld.of
  rw [FC_MAP_CTL_OPEN_bit, FC_MAP_CTL_CLOSE_bit, FC_MAP_CTL_DISCARD_bit, FC_MAP_CTL_SPILL_bit]
  exact ⟨rfl, rfl, rfl, rfl⟩

/-- A write of FC_MAP_CTL's plain fields. -/
theorem writeMapCtl_eq (m v : Nat) (s : State) : writeFlds (FC_MAP_CTL_fields m) v s =
    (s.set (FC_MAP_CTL_SPILL_ERR m) (s.get (FC_MAP_CTL_SPILL_ERR m) - Nat.land (s.get (FC_MAP_CTL_SPILL_ERR m))
      ((FC_MAP_CTL_SPILL_ERR m).of v))).set (FC_MAP_CTL_SPILL m) ((FC_MAP_CTL_SPILL m).of v) := rfl

theorem spill_cases (m : Nat) (s : State) : s.get (FC_MAP_CTL_SPILL m) = 0 ∨ s.get (FC_MAP_CTL_SPILL m) = 1 := by
  have hlt : s.get (FC_MAP_CTL_SPILL m) < 2 := regGet_lt (FC_MAP_CTL_SPILL m) s.regs
  omega

/-- A window that opens, its counts cleared. -/
def mapOpened (m v : Nat) (s : State) : State :=
  ((((writeFlds (FC_MAP_CTL_fields m) v s).set (FC_MAP_STAT_HITS m) 0).set (FC_MAP_STAT_NONDATA m) 0).set (FC_MAP_CTL_MAPERR m) 0).set
    (FC_MAP_CTL_STATE m) mapOpen

theorem exec_mapOpen_ok {a : Agent} {m : Fin 128} {spill : Bool} {s : State} (hdom : domRefuses 71 s = none) (ha : a.ctl = true)
    (hbad : openBad m.val s = false) :
    exec (.mapOpen a m spill) s = .next (answer .done (mapOpened m.val (if spill then 9 else 1) s)) := by
  show ok (answered (atIngress 71 (wrMapCtl a m.val (if spill then 9 else 1)) s)) = _
  obtain ⟨hopen, hclose, hdiscard, _⟩ := mapCtl_bits m.val (if spill then 9 else 1)
  rw [atIngress_of_answers hdom, wrMapCtl, hopen, hclose, hdiscard, ha, hbad]
  cases spill <;> rfl

/-- What an opened window reads. -/
structure MapOpened (m spill : Nat) (t : State) : Prop where
  state : mapState m t = 1
  spill : t.get (FC_MAP_CTL_SPILL m) = spill
  hits : t.get (FC_MAP_STAT_HITS m) = 0
  nondata : t.get (FC_MAP_STAT_NONDATA m) = 0
  maperr : t.get (FC_MAP_CTL_MAPERR m) = 0

theorem mapOpened_reads {m v : Nat} {s : State} (hs : Sparse.Rising s.regs) : MapOpened m (bits v 3 1) (mapOpened m v s) := by
  obtain ⟨_, _, _, hspill⟩ := mapCtl_bits m v
  have hw : Sparse.Rising (writeFlds (FC_MAP_CTL_fields m) v s).regs := rising_writeFlds v hs
  have hmod : bits v 3 1 % 2 = bits v 3 1 := Nat.mod_mod _ _
  unfold mapOpened
  refine ⟨mapState_set (by decide) (rising_set _ _ (rising_set _ _ (rising_set _ _ hw))), ?_, ?_, ?_, ?_⟩
  · simp (disch := simp) only [get_set_of_bit]
    rw [writeMapCtl_eq, get_set_self _ _ (rising_set _ _ hs), hspill]
    exact hmod
  · rw [get_set_of_bit _ (by simp), get_set_of_bit _ (by simp), get_set_of_bit _ (by simp)]
    exact get_set_self _ 0 hw
  · rw [get_set_of_bit _ (by simp), get_set_of_bit _ (by simp)]
    exact get_set_self _ 0 (rising_set _ _ hw)
  · rw [get_set_of_bit _ (by simp)]
    exact get_set_self _ 0 (rising_set _ _ (rising_set _ _ hw))

theorem exec_mapClose_ok {a : Agent} {m : Fin 128} {s : State} (hdom : domRefuses 71 s = none) (ha : a.ctl = true)
    (hopen : mapState m.val s = mapOpen) : exec (.mapClose a m) s =
      .next (answer .done (closeMap m.val (writeFlds (FC_MAP_CTL_fields m.val) (mapCtlNow m.val 2 s) s))) := by
  show ok (answered (atIngress 71 (wrMapCtl a m.val (mapCtlNow m.val 2 s)) s)) = _
  obtain ⟨hop, hcl, hdi, _⟩ := mapCtl_bits m.val (mapCtlNow m.val 2 s)
  rw [atIngress_of_answers hdom, wrMapCtl, hop, hcl, hdi, ha, hopen]
  unfold mapCtlNow
  rcases spill_cases m.val s with h | h <;> rw [h] <;> rfl

theorem exec_mapDiscard_ok {a : Agent} {m : Fin 128} {s : State} (hdom : domRefuses 71 s = none) (ha : a.ctl = true)
    (hstate : mapState m.val s = mapOpen ∨ mapState m.val s = mapClosed) : exec (.mapDiscard a m) s =
      .next (answer .done (clearMap m.val (raMapGone m.val (writeFlds (FC_MAP_CTL_fields m.val) (mapCtlNow m.val 4 s) s)))) := by
  show ok (answered (atIngress 71 (wrMapCtl a m.val (mapCtlNow m.val 4 s)) s)) = _
  obtain ⟨hop, hcl, hdi, _⟩ := mapCtl_bits m.val (mapCtlNow m.val 4 s)
  rw [atIngress_of_answers hdom, wrMapCtl, hop, hcl, hdi, ha, if_pos hstate]
  unfold mapCtlNow
  rcases spill_cases m.val s with h | h <;> rw [h] <;> rfl

theorem spillEnds_done {m : Nat} {s u : State}
    (hsave : hbmSave 45 (s.get (FC_MAP_SPILL_ADDR m)) ((mapBytes m s).length / 64) (mapBytes m s) s = (.done, u)) :
    spillEnds m .done s = enterClosed m { u with fail := { u.fail with ready := u.fail.ready ++ [m], dueSpill := u.fail.dueSpill.erase m } } := by
  unfold spillEnds
  dsimp only
  rw [hsave]
  rfl

theorem writeSeqStat_eq (q : Nat) (s : State) : writeFlds (FC_SEQ_STAT_fields q) (2 ^ 19) s =
    s.set (FC_SEQ_STAT_DRAIN_ERR q) (s.get (FC_SEQ_STAT_DRAIN_ERR q) - Nat.land (s.get (FC_SEQ_STAT_DRAIN_ERR q))
      ((FC_SEQ_STAT_DRAIN_ERR q).of (2 ^ 19))) := rfl

theorem drainErr_cleared {q : Nat} {s : State} (hs : Sparse.Rising s.regs) :
    (writeFlds (FC_SEQ_STAT_fields q) (2 ^ 19) s).get (FC_SEQ_STAT_DRAIN_ERR q) = 0 := by
  have hlt : s.get (FC_SEQ_STAT_DRAIN_ERR q) < 2 := regGet_lt (FC_SEQ_STAT_DRAIN_ERR q) s.regs
  have hone : (FC_SEQ_STAT_DRAIN_ERR q).of (2 ^ 19) = 1 := by
    unfold Fld.of
    rw [FC_SEQ_STAT_DRAIN_ERR_bit]
    rfl
  rw [writeSeqStat_eq, get_set_self _ _ hs, hone]
  generalize s.get (FC_SEQ_STAT_DRAIN_ERR q) = x at hlt
  have hx : x = 0 ∨ x = 1 := by omega
  rcases hx with rfl | rfl <;> rfl

theorem exec_mapScrubWord_owned {slice : Fin 64} {word m : Nat} {u : Ecc} {s t : State} (howner : sliceOwner slice.val s = some m)
    (hdom : domRuns 71 s = true) (hrate : s.get FC_ECC_CTL_SCRUB_RATE ≠ 0) (hword : word < sliceWords)
    (ht : t = match u with
      | .ok => s
      | .single => bucketHit FC_ECC_STAT_CORR FC_ECC_STAT_LEVEL FC_ECC_STAT_OVERFLOW FC_ECC_CTL_BUCKET 0x090B [] s
      | .double => raise 0x090C [⟨1, m⟩, ⟨1, slice.val⟩, ⟨2, word⟩] ((s.count FC_ECC_STAT_UNCORR 1).set (FC_MAP_CTL_MAPERR m) 1)) :
    exec (.mapScrubWord slice word u) s = .next t := by
  show execMapScrubWord slice word u s = _
  unfold execMapScrubWord
  rw [howner, ht]
  exact whenOk_of (by simp [hdom, hrate, hword]) s _

theorem bucketHit_corr {s : State} (hs : Sparse.Rising s.regs) :
    (bucketHit FC_ECC_STAT_CORR FC_ECC_STAT_LEVEL FC_ECC_STAT_OVERFLOW FC_ECC_CTL_BUCKET 0x090B [] s).get FC_ECC_STAT_CORR =
      min (s.get FC_ECC_STAT_CORR + 1) 65535 := by
  have hcount : (s.count FC_ECC_STAT_CORR 1).get FC_ECC_STAT_CORR = min (s.get FC_ECC_STAT_CORR + 1) 65535 := get_count_self _ 1 hs
  unfold bucketHit
  dsimp only
  split
  · rw [get_raise, get_set_of_ne _ (by decide), get_set_of_ne _ (by decide), hcount]
  · rw [get_set_of_ne _ (by decide), hcount]

end Sys2Proof.Machine
end

section
/-! SUPPORT. Fail capture (chapter 12): the statement. -/
namespace Sys2Proof.Machine

theorem get_modEng (q : Nat) (f : SeqEng → SeqEng) (s : State) (g : Fld) : (modEng q f s).get g = s.get g := rfl

theorem mapState_answer (m : Nat) (st : Status) (s : State) : mapState m (answer st s) = mapState m s := rfl

theorem exec_spillWritten_done {m : Fin 128} {s u : State} (hdoms : domRuns 71 s = true ∧ domRuns 70 s = true)
    (hstate : mapState m.val s = mapSpilling) (hwin : hbmWindow 1 ((mapBytes m.val s).length / 64) s = true)
    (hsave : hbmSave 45 (s.get (FC_MAP_SPILL_ADDR m.val)) ((mapBytes m.val s).length / 64) (mapBytes m.val s) s = (.done, u)) :
    exec (.spillWritten m .done) s = .next (enterClosed m.val
      { u with fail := { u.fail with ready := u.fail.ready ++ [m.val], dueSpill := u.fail.dueSpill.erase m.val } }) := by
  show execSpillWritten m .done s = _
  unfold execSpillWritten
  rw [spillEnds_done hsave]
  exact whenOk_of (by rw [hdoms.1, hdoms.2, hstate, hwin]; rfl) s _

theorem cycleResult_handsOn :
    ∀ (q : Fin 16) (y : Cyc) (l : List Cyc) (s : State), Sound s → (eng q.val s).issued = y :: l → cycleComplete q.val y s = true →
    ∃ t, exec (.cycleResultComplete q) s = .next t ∧ (eng q.val t).issued = l ∧
      (eng q.val t).seen = (eng q.val s).seen ++ [⟨y.n, failSites q.val y s, (cycleMasks q.val y s).1, (cycleMasks q.val y s).2, y.mrep, y.last⟩] ∧
      Frame [.events, .trace, .seqs, .ports, .fail] [.fabricPorts, .sequencers, .captureLost, .captureSeqs, .failCounts, .failMaps] s t := by
  intro q y l s hs hissued hdone
  have he := exec_cycleResultComplete hissued hdone
  obtain ⟨htaken, hseen⟩ := resultComplete_engine (q := q.val) (c := y) (r := l) (engsRise hs)
  exact ⟨_, he, htaken, hseen, ((execCycleResultComplete_within (Sub.refl _) (Within.refl _ s)).of_next he).frame (by decide)⟩

theorem cycleResult_counts :
    ∀ (q : Fin 16) (y : Cyc) (l : List Cyc) (g : Nat) (s : State), Sound s → (eng q.val s).issued = y :: l →
    cycleComplete q.val y s = true → g < 64 → domRuns 70 s = true → s.get (FC_SEQ_CTL_MODE q.val) = 3 → y.mrep = none →
    spGet q.val s.fail.startN ≤ y.n → bit (failSites q.val y s) g = true →
    ∃ t, exec (.cycleResultComplete q) s = .next t ∧
      t.get (FC_SITE_FAIL_FAILCYC q.val g) = min (s.get (FC_SITE_FAIL_FAILCYC q.val g) + 1) (2 ^ 48 - 1) ∧
      Frame [.events, .trace, .seqs, .ports, .fail] [.fabricPorts, .sequencers, .captureLost, .captureSeqs, .failCounts, .failMaps] s t := by
  intro q y l g s hs hissued hdone hg hdom hmode hrep hcounted hfail
  have he := exec_cycleResultComplete hissued hdone
  obtain ⟨hcount, hmode'⟩ := cycleTaken_counts (r := l) hs hg hdom hmode hrep hcounted hfail
  refine ⟨_, he, ?_, ((execCycleResultComplete_within (Sub.refl _) (Within.refl _ s)).of_next he).frame (by decide)⟩
  have hmode'' : (modEng q.val (tellSeen (seenOf q.val y s)) (cycleTaken q.val y l s)).get (FC_SEQ_CTL_MODE q.val) = 3 := by
    rw [get_modEng, hmode']
  rw [resultComplete_eq, get_congr (fcFlush_regs_of_count hmode''), get_modEng, hcount]

theorem closeMarker_closes :
    ∀ (q : Fin 16) (x : Marker) (l : List Marker) (m : Nat) (s : State), Sound s → (eng q.val s).markers = x :: l → x.fin = none →
    resultsBefore q.val x.n s = true → domRuns 70 s = true ∧ domRuns 71 s = true → m < 128 →
    (((List.range 128).find? (fun k => mapState k s == mapOpen && s.get (FC_MAP_SEL_SEQ k) == q.val && s.get (FC_MAP_SEL_DOMAIN k) == x.domain)) = some m) →
    ∃ t, exec (.closeMarker q) s = .next t ∧ mapState m t = mapClosed ∧ t.fail.closedAt = spSet m (frameCount s) s.fail.closedAt ∧
      (t.fail.ready = if s.on (FC_MAP_CTL_SPILL m) then s.fail.ready else s.fail.ready ++ [m]) ∧
      (t.fail.spillPend = if s.on (FC_MAP_CTL_SPILL m) then s.fail.spillPend ++ [m] else s.fail.spillPend) ∧
      Frame [.events, .trace, .seqs, .fail, .ra] [.sequencers, .captureSeqs, .failMaps, .repairDomains] s t := by
  intro q x l m s hs hmarkers hfin hbefore hdoms hm hfind
  obtain ⟨u, hu⟩ : ∃ u, u = modEng q.val (fun e => { e with markers := l }) s := ⟨_, rfl⟩
  have he : exec (.closeMarker q) s = .next (fcFlush q.val (closeArrives q.val x u)) := by
    show execCloseMarker q s = _
    unfold execCloseMarker
    have hrun : domRuns 70 u = true := by rw [hu]; exact hdoms.1
    rw [hmarkers]
    dsimp only
    rw [← hu, if_pos hrun]
    exact whenOk_of (by rw [hfin, hbefore]; rfl) s _
  have hregs : u.regs = s.regs := by rw [hu]; rfl
  have hfail : u.fail = s.fail := by rw [hu]; rfl
  have hrising : Sparse.Rising u.regs := by rw [hregs]; exact hs.rising
  have hdom : domRuns 71 u = true := by rw [hu]; exact hdoms.2
  have hfind' : (List.range 128).find? (fun k => mapState k u == mapOpen && u.get (FC_MAP_SEL_SEQ k) == q.val &&
      u.get (FC_MAP_SEL_DOMAIN k) == x.domain) = some m := by rw [hu]; exact hfind
  have hspill : u.on (FC_MAP_CTL_SPILL m) = s.on (FC_MAP_CTL_SPILL m) := by rw [hu]; rfl
  have hcount : frameCount u = frameCount s := by rw [hu]; rfl
  obtain ⟨hw, fifo, hfifo⟩ := closeMarker_after hdom hfind'
  have hclosed := closeMap_fail m u
  rw [hspill, hcount, hfail] at hclosed
  rw [hclosed] at hfifo
  refine ⟨_, he, ?_, ?_, ?_, ?_, ((execCloseMarker_within (Sub.refl _) (Within.refl _ s)).of_next he).frame (by decide)⟩
  · exact (hw.get (by rw [FC_MAP_CTL_STATE_win]; decide)).trans (closeMap_state hrising)
  · rw [hfifo]
  · rw [hfifo]
  · rw [hfifo]

theorem failDrain_writes :
    ∀ (k q : Nat) (y : List Nat) (l : List (List Nat)) (s : State), Sound s → dutySlot 3 anySlot s = some k →
    domRuns 70 s = true ∧ hbmWindow 1 1 s = true → spillTurn s = false → drainNext s = some q → fcFifo q s = y :: l →
    (putRecord q y { s with clock := { s.clock with slot := k } }).1 = .done →
    ∃ t, exec (.failDrain 1 .done) s = .next t ∧ t.clock.slot = k ∧ t.fail.fifo = putKeyed q l s.fail.fifo ∧
      t.get (FC_LOG_PTR_WR q) = (s.get (FC_LOG_PTR_WR q) + 1) % 2 ^ 32 ∧
      Frame [.events, .trace, .clock, .hbm, .enc, .seqs, .fail, .leap] [.loader, .sequencers, .captureSeqs, .failMaps, .hbmEcc,
        .hbmFlip, .encRegions] s t := by
  intro k q y l s hs hslot hrun hspill hnext hfifo hput
  have he := exec_failDrain_of_some (n := 1) (st := .done) hslot
  have hunit : forNat 1 (fun _ u => drainUnit .done u) (inSlot k s) = recordDrained q l (putRecord q y (inSlot k s)).2 :=
    drainUnit_record hrun hspill hnext hfifo hput
  rw [hunit] at he
  obtain ⟨u, hu⟩ : ∃ u, u = (putRecord q y (inSlot k s)).2 := ⟨_, rfl⟩
  rw [← hu] at he
  have hw : Within 0x20A00000002000000800180C (inSlot k s) u := by
    rw [hu]
    exact putRecord_within (Sub.refl _) (Within.refl _ _)
  have hsound : Sound (inSlot k s) := hs
  have hdrained : Within 0x120000000000000A00C u (recordDrained q l u) := recordDrained_within (Sub.refl _) (Within.refl _ u)
  refine ⟨_, he, ?_, ?_, ?_, ((execFailDrain_within (Sub.refl _) (Within.refl _ s)).of_next he).frame (by decide)⟩
  · rw [hdrained.clock (by decide), hw.clock (by decide)]
    rfl
  · rw [recordDrained_fifo, hw.fail (by decide)]
    rfl
  · rw [recordDrained_wr (hw.rising hsound), hw.get (by rw [FC_LOG_PTR_WR_win]; decide)]
    rfl

theorem failDrain_takesSpill :
    ∀ (status : Status) (m : Nat) (l : List Nat) (s : State), Sound s → (dutySlot 3 anySlot s).isSome = true →
    domRuns 70 s = true ∧ hbmWindow 1 1 s = true → s.fail.spillPend = m :: l → spillTurn s = true →
    ∃ t, exec (.failDrain 1 status) s = .next t ∧ mapState m t = mapSpilling ∧ t.fail.spillPend = l ∧ t.fail.units = 0 ∧
      Narrow [.fail, .clock] [FC_MAP_CTL_STATE m] s t := by
  intro status m l s hs hslot hrun hpend hspill
  obtain ⟨k, hk⟩ := Option.isSome_iff_exists.1 hslot
  have he := exec_failDrain_of_some (n := 1) (st := status) hk
  have hunit : forNat 1 (fun _ u => drainUnit status u) (inSlot k s) = takeSpill (inSlot k s) := drainUnit_spill hrun hspill
  have hpend' : (inSlot k s).fail.spillPend = m :: l := hpend
  rw [hunit] at he
  unfold takeSpill at he
  rw [hpend'] at he
  refine ⟨_, he, mapState_set (m := m) (v := mapSpilling) (s := inSlot k s) (by decide) hs.rising, rfl, rfl, ?_⟩
  exact (((Narrow.refl _ _ s).clock (by simp) _).set (by simp) _).within (Within.fail_ (A := 0x8000) (by decide) (Within.refl _ _))
    (by decide)

theorem failDrain_units :
    ∀ (n : Nat) (status : Status) (s : State), Sound s →
    ∃ t, exec (.failDrain (n + 1) status) s = .next t ∧
      (∃ u, exec (.failDrain n status) s = .next u ∧ exec (.failDrain 1 status) u = .next t) ∧
      Frame [.events, .trace, .clock, .hbm, .enc, .seqs, .fail, .leap] [.loader, .sequencers, .captureSeqs, .failMaps, .hbmEcc,
        .hbmFlip, .encRegions] s t := by
  intro n status s hs
  have hframe {t : State} (he : exec (.failDrain (n + 1) status) s = .next t) :=
    ((execFailDrain_within (Sub.refl _) (Within.refl _ s)).of_next he).frame (parts := [.events, .trace, .clock, .hbm, .enc, .seqs, .fail,
      .leap]) (blocks := [.loader, .sequencers, .captureSeqs, .failMaps, .hbmEcc, .hbmFlip, .encRegions]) (by decide)
  cases hslot : dutySlot 3 anySlot s with
  | none =>
    have he (j : Nat) : exec (.failDrain j status) s = .next s := exec_failDrain_of_none hslot
    exact ⟨s, he (n + 1), ⟨s, he n, he 1⟩, hframe (he (n + 1))⟩
  | some k =>
    obtain ⟨u, hu⟩ : ∃ u, u = forNat n (fun _ u => drainUnit status u) (inSlot k s) := ⟨_, rfl⟩
    have hw : Within 0x20A00520002000000800B80C (inSlot k s) u := by
      rw [hu]
      exact forNat_drainUnit_within n status _
    have hkept : u.clock.slot = k := by
      rw [hw.clock (by decide)]
      rfl
    have hentry (j : Nat) : slotEntry j u = slotEntry j s := (slotEntry_within (s := inSlot k s) hw (by decide)).trans rfl
    have hagain : dutySlot 3 anySlot u = some k := dutySlot_again hslot hkept hentry
    have hlast : exec (.failDrain 1 status) u = .next (drainUnit status u) := by
      rw [exec_failDrain_of_some hagain, inSlot_self hkept]
      rfl
    have he : exec (.failDrain (n + 1) status) s = .next (drainUnit status u) := by
      rw [exec_failDrain_of_some hslot, forNat_succ, hu]
    exact ⟨_, he, ⟨u, by rw [exec_failDrain_of_some hslot, hu], hlast⟩, hframe he⟩

theorem mapOpen_opens :
    ∀ (a : Agent) (m : Fin 128) (spill : Bool) (s : State), Sound s → domRefuses 71 s = none → a.ctl = true →
    openBad m.val s = false →
    ∃ t, exec (.mapOpen a m spill) s = .next t ∧ t.resp.status = .done ∧ mapState m.val t = 1 ∧
      (t.get (FC_MAP_CTL_SPILL m.val) = if spill then 1 else 0) ∧ t.get (FC_MAP_STAT_HITS m.val) = 0 ∧
      t.get (FC_MAP_STAT_NONDATA m.val) = 0 ∧ t.get (FC_MAP_CTL_MAPERR m.val) = 0 ∧
      Frame [.resp, .events, .trace, .fail, .ra] [.failMaps, .repairDomains] s t := by
  intro a m spill s hs hdom ha hbad
  have he := exec_mapOpen_ok (spill := spill) hdom ha hbad
  obtain ⟨hstate, hspill, hhits, hnondata, hmaperr⟩ := mapOpened_reads (m := m.val) (v := if spill then 9 else 1) hs.rising
  refine ⟨_, he, rfl, hstate, hspill.trans ?_, hhits, hnondata, hmaperr,
    ((execMapOpen_within (Sub.refl _) (Within.refl _ s)).of_next he).frame (by decide)⟩
  cases spill <;> rfl

theorem mapClose_closes :
    ∀ (a : Agent) (m : Fin 128) (s : State), Sound s → domRefuses 71 s = none → a.ctl = true → mapState m.val s = mapOpen →
    ∃ t, exec (.mapClose a m) s = .next t ∧ t.resp.status = .done ∧ mapState m.val t = mapClosed ∧
      t.fail.closedAt = spSet m.val (frameCount s) s.fail.closedAt ∧
      Frame [.resp, .events, .trace, .fail, .ra] [.failMaps, .repairDomains] s t := by
  intro a m s hs hdom ha hopen
  have he := exec_mapClose_ok hdom ha hopen
  obtain ⟨w, hweq⟩ : ∃ w, w = writeFlds (FC_MAP_CTL_fields m.val) (mapCtlNow m.val 2 s) s := ⟨_, rfl⟩
  rw [← hweq] at he
  have hw : Within 0x4000000000000000000 s w := by
    rw [hweq]
    exact writeFlds_within (by decide) (fun p hp => inMask (FC_MAP_CTL_fields_win _ p hp) (by decide)) (Within.refl _ s)
  have hstate : mapState m.val (answer .done (closeMap m.val w)) = mapClosed := by
    rw [mapState_answer]
    exact closeMap_state (hw.rising hs)
  have hcount : frameCount w = frameCount s := hw.get (by decide)
  have hnoted : (closeMap m.val w).fail.closedAt = spSet m.val (frameCount s) s.fail.closedAt := by
    rw [closeMap_fail, hcount, hw.fail (by decide)]
  exact ⟨_, he, rfl, hstate, hnoted, ((execMapClose_within (Sub.refl _) (Within.refl _ s)).of_next he).frame (by decide)⟩

theorem spillWritten_closes :
    ∀ (m : Fin 128) (u : State) (s : State), Sound s → domRuns 71 s = true ∧ domRuns 70 s = true → mapState m.val s = mapSpilling →
    hbmWindow 1 ((mapBytes m.val s).length / 64) s = true →
    hbmSave 45 (s.get (FC_MAP_SPILL_ADDR m.val)) ((mapBytes m.val s).length / 64) (mapBytes m.val s) s = (.done, u) →
    ∃ t, exec (.spillWritten m .done) s = .next t ∧ mapState m.val t = mapClosed ∧ t.fail.ready = s.fail.ready ++ [m.val] ∧
      Frame [.events, .trace, .hbm, .enc, .fail, .ra, .leap] [.loader, .failMaps, .repairDomains, .hbmEcc, .hbmFlip, .encRegions] s t := by
  intro m u s hs hdoms hstate hwin hsave
  have he := exec_spillWritten_done hdoms hstate hwin hsave
  have hw : Within 0x20A00000002000000800180C s u := by
    have hlines : Within 0x20A00000002000000800180C s
        (hbmSave 45 (s.get (FC_MAP_SPILL_ADDR m.val)) ((mapBytes m.val s).length / 64) (mapBytes m.val s) s).2 :=
      hbmSave_within (Sub.refl _) (Within.refl _ s)
    rwa [hsave] at hlines
  have hrising : Sparse.Rising u.regs := hw.rising hs
  have hfail : u.fail = s.fail := hw.fail (by decide)
  obtain ⟨v, hv⟩ : ∃ v : State, v = { u with fail := { u.fail with
    ready := u.fail.ready ++ [m.val], dueSpill := u.fail.dueSpill.erase m.val } } := ⟨_, rfl⟩
  rw [← hv] at he
  refine ⟨_, he, enterClosed_state (by rw [hv]; exact hrising), ?_,
    ((execSpillWritten_within (Sub.refl _) (Within.refl _ s)).of_next he).frame (by decide)⟩
  rw [enterClosed_fail, hv, ← hfail]

/-- Settles O26: one clause per command of fail capture. -/
theorem failCaptureCommandsComplete : Obligations.FailCaptureCommandsComplete := by
  unfold Obligations.FailCaptureCommandsComplete
  refine ⟨cycleResult_handsOn, cycleResult_counts, closeMarker_closes, failDrain_writes, failDrain_takesSpill, failDrain_units,
    ?resume, mapOpen_opens, mapClose_closes, ?discards, spillWritten_closes, ?cleared, ?single, ?double⟩
  case resume =>
    intro a q s hs hdom ha
    have he : exec (.drainResume a q) s = .next (answer .done (writeFlds (FC_SEQ_STAT_fields q.val) (2 ^ 19) s)) := by
      show ok (answered (atIngress 70 (wrFcSeqStat a q.val (2 ^ 19)) s)) = _
      rw [atIngress_of_answers hdom, wrFcSeqStat, ha]
      rfl
    exact ⟨_, he, rfl, drainErr_cleared hs.rising, ((Narrow.refl _ _ s).set (by simp) _).answer (by simp) _⟩
  case discards =>
    intro a m s hs hdom ha hstate
    have he := exec_mapDiscard_ok hdom ha hstate
    exact ⟨_, he, rfl, mapState_set (show mapClearing < 8 by decide) (rising_writeFlds _ hs.rising),
      ((execMapDiscard_within (Sub.refl _) (Within.refl _ s)).of_next he).frame (by decide)⟩
  case cleared =>
    intro m s hs hdom hstate
    have he : exec (.mapCleared m) s = .next (raise 0x0907 [⟨1, m.val⟩] ((mapZero m.val s).set (FC_MAP_CTL_STATE m.val) mapFree)) :=
      whenOk_of (by simp [hdom, hstate]) s _
    refine ⟨_, he, ?_, ?_, ?_⟩
    · unfold mapState
      rw [get_raise]
      exact mapState_set (m := m.val) (v := mapFree) (s := mapZero m.val s) (by decide) hs.rising
    · rw [raise_fail]
      rfl
    · exact (((Narrow.refl _ _ s).within (Within.fail_ (A := 0x8000) (by decide) (Within.refl _ _)) (by decide)).set (by simp) _).raise
        (by simp) _ _
  case single =>
    intro slice word m s hs howner hdom hrate hword
    have he : exec (.mapScrubWord slice word .single) s = .next
        (bucketHit FC_ECC_STAT_CORR FC_ECC_STAT_LEVEL FC_ECC_STAT_OVERFLOW FC_ECC_CTL_BUCKET 0x090B [] s) :=
      exec_mapScrubWord_owned howner hdom hrate hword rfl
    have hw := (execMapScrubWord_within (sl := slice) (word := word) (u_ := .single) (Sub.refl _) (Within.refl _ s)).of_next he
    exact ⟨_, he, bucketHit_corr hs.rising, hw.frame (by decide)⟩
  case double =>
    intro slice word m s hs howner hdom hrate hword
    have he : exec (.mapScrubWord slice word .double) s = .next
        (raise 0x090C [⟨1, m⟩, ⟨1, slice.val⟩, ⟨2, word⟩] ((s.count FC_ECC_STAT_UNCORR 1).set (FC_MAP_CTL_MAPERR m) 1)) :=
      exec_mapScrubWord_owned howner hdom hrate hword rfl
    refine ⟨_, he, ?_, ?_, (((Narrow.refl _ _ s).count (by simp) 1).set (by simp) _).raise (by simp) _ _⟩
    · rw [get_raise, get_set_of_win _ FC_ECC_STAT_UNCORR_win (FC_MAP_CTL_MAPERR_win m) (by decide), get_count_self _ _ hs.rising]
      rfl
    · rw [get_raise]
      exact get_set_self _ 1 (rising_set _ _ hs.rising)

end Sys2Proof.Machine
end

section
/-! SUPPORT. The pattern sequencers (chapter 11): what an instruction's vector keeps, where the engine goes, what an instruction's
command comes to. -/
namespace Sys2Proof.Machine

/-! ### What a repetition of a vector keeps (R238, R246, R252) -/

/-- The stacks, the wait for a grant and the pages of an engine. -/
def ctlOf (e : SeqEng) : List Nat × List LoopEnt × Option Nat × List SeqPage := (e.calls, e.loops, e.sluWait, e.pages)

/-- The fields of the address and data generators that ops write. -/
def isGen (q : Nat) (f : Fld) : Prop := ∃ r, f.key = (GEN_VALUE q r).key ∨ f.key = (GEN_D_VALUE q r).key

/-- From `s` to `t`, of sequencer q only the generators, the queue, the streams and the like move on. -/
structure CtlKept (q : Nat) (s t : State) : Prop where
  engine : EngKept ctlOf q s t
  regs : ∀ f, ¬ isGen q f → t.get f = s.get f
  rising : Sparse.Rising s.regs → Sparse.Rising t.regs

theorem CtlKept.refl (q : Nat) (s : State) : CtlKept q s s := ⟨EngKept.refl q s, fun _ _ => rfl, id⟩

theorem CtlKept.trans {q : Nat} {s t u : State} (h : CtlKept q s t) (g : CtlKept q t u) : CtlKept q s u :=
  ⟨h.engine.trans g.engine, fun f hf => (g.regs f hf).trans (h.regs f hf), fun hs => g.rising (h.rising hs)⟩

theorem CtlKept.setEng {q : Nat} {e : SeqEng} {s : State} (hv : ctlOf e = ctlOf (eng e.q s)) : CtlKept q s (setEng e s) :=
  ⟨EngKept.setEng q hv, fun _ _ => rfl, id⟩

theorem CtlKept.modEng (q : Nat) {f : SeqEng → SeqEng} (hq : ∀ e, (f e).q = e.q) (hv : ∀ e, ctlOf (f e) = ctlOf e) (s : State) :
    CtlKept q s (modEng q f s) :=
  ⟨EngKept.modEng q q hq hv s, fun _ _ => rfl, id⟩

theorem CtlKept.ports {q : Nat} {s t : State} (h : CtlKept q s t) (x : PortSt) : CtlKept q s { t with ports := x } :=
  ⟨h.engine.trans (EngKept.of_seqs rfl), h.regs, h.rising⟩

theorem CtlKept.setGen {q : Nat} {s t : State} (h : CtlKept q s t) {f : Fld} (hf : isGen q f) (v : Nat) : CtlKept q s (t.set f v) := by
  refine ⟨h.engine.trans (EngKept.of_seqs rfl), fun g hg => (get_set_of_ne _ ?_ _).trans (h.regs g hg),
    fun hs => rising_set f v (h.rising hs)⟩
  intro hk
  obtain ⟨r, hr⟩ := hf
  exact hg ⟨r, by rw [hk]; exact hr⟩

theorem isGen_value (q r : Nat) : isGen q (GEN_VALUE q r) := ⟨r, .inl rfl⟩
theorem isGen_d (q r : Nat) : isGen q (GEN_D_VALUE q r) := ⟨r, .inr rfl⟩

theorem addrOps_kept (q w : Nat) (s : State) : CtlKept q s (addrOps q w s) := by
  unfold addrOps
  extract_lets g x xWraps y yWraps zop z t
  have hgens : CtlKept q s t := (((((CtlKept.refl q s).setGen (isGen_value q 0) _).setGen (isGen_value q 6) _).setGen
    (isGen_value q 1) _).setGen (isGen_value q 7) _).setGen (isGen_value q 2) _
  refine hgens.trans (CtlKept.modEng q ?_ ?_ t)
  · exact fun _ => rfl
  · exact fun _ => rfl

theorem dataOps_kept (q w : Nat) (s : State) : CtlKept q s (dataOps q w s) := (CtlKept.refl q s).setGen (isGen_d q 0) _

theorem insOps_kept (q w : Nat) (s : State) : CtlKept q s (insOps q w s) := (addrOps_kept q w s).trans (dataOps_kept q w _)

theorem endPattern_kept (q code cause : Nat) (s : State) : CtlKept q s (endPattern q code cause s) := by
  have hput : CtlKept q s (setEng { eng q s with ending := some ⟨code, cause⟩ } s) :=
    CtlKept.setEng (e := { eng q s with ending := some ⟨code, cause⟩ }) (by dsimp only; rw [eng_q]; rfl)
  unfold endPattern
  dsimp only
  split
  · exact CtlKept.refl q s
  · exact hput

theorem enqueue_kept (q : Nat) (c : Cyc) (s : State) : CtlKept q s (enqueue q c s) :=
  CtlKept.modEng q (f := fun e => { e with queue := e.queue ++ [c], enq := e.enq + 1 }) (fun _ => rfl) (fun _ => rfl) s

theorem beats_kept (q w : Nat) (mrep : Option Nat) (ops : Bool) (recs : List (List Nat)) (words : List Nat) (total n : Nat) (s : State) :
    CtlKept q s (beats q w mrep ops recs words total n s) := by
  induction n generalizing s with
  | zero => exact CtlKept.refl q s
  | succ n ih =>
    unfold beats
    dsimp only
    generalize beatCycle q w _ _ mrep (n == 0) s = c
    split
    · exact endPattern_kept q _ _ s
    · refine CtlKept.trans ?_ (ih _)
      split
      · exact (enqueue_kept q _ s).trans (dataOps_kept q w _)
      · exact enqueue_kept q _ s

/-- A taking of records keeps the rest of the engine. -/
def TakeKept (q : Nat) (s : State) : RecTake → Prop
  | .got _ t => CtlKept q s t
  | .short _ t => CtlKept q s t
  | .stall => True

theorem takeRecord_kept (q : Nat) (s : State) : TakeKept q s (takeRecord q s) := by
  have hput {e : SeqEng} (hq : e.q = q) (hv : ctlOf e = ctlOf (eng q s)) : CtlKept q s (setEng e s) :=
    CtlKept.setEng (by rw [hq]; exact hv)
  unfold takeRecord
  dsimp only
  split
  · exact CtlKept.refl q s
  · split
    next r _ =>
      split
      · split
        · trivial
        · split
          · exact CtlKept.refl q s
          · exact hput (eng_q q s) rfl
      · split
        · exact hput (eng_q q s) rfl
        · exact CtlKept.refl q s
    · split
      · trivial
      · exact hput (eng_q q s) rfl

theorem takeRecords_kept (q n : Nat) (s : State) : TakeKept q s (takeRecords q n s) := by
  induction n generalizing s with
  | zero => exact CtlKept.refl q s
  | succ n ih =>
    have hfirst := takeRecord_kept q s
    unfold takeRecords
    split
    · trivial
    next l t heq =>
      rw [heq] at hfirst
      exact hfirst
    next l t heq =>
      rw [heq] at hfirst
      have hrest := ih t
      split
      · trivial
      next m u hu =>
        rw [hu] at hrest
        exact CtlKept.trans hfirst hrest
      next m u hu =>
        rw [hu] at hrest
        exact CtlKept.trans hfirst hrest

/-- The beats of a repetition with its records, then the ops that close it. -/
def repRun (q w n : Nat) (ops : Bool) (mrep : Option Nat) (recs : List (List Nat)) (words : List Nat) (s : State) : State :=
  let t := beats q w mrep ops recs words n n (modEng q (fun e => { e with repRecs := some (recs, words) }) s)
  if ops && (eng q t).ending.isNone then (if insDbeat w then addrOps q w t else insOps q w t) else t

theorem repRun_kept (q w n : Nat) (ops : Bool) (mrep : Option Nat) (recs : List (List Nat)) (words : List Nat) (s : State) :
    CtlKept q s (repRun q w n ops mrep recs words s) := by
  have hbeats := (CtlKept.modEng q (f := fun e => { e with repRecs := some (recs, words) }) (fun _ => rfl) (fun _ => rfl) s).trans
    (beats_kept q w mrep ops recs words n n _)
  unfold repRun
  dsimp only
  split
  · split
    · exact hbeats.trans (addrOps_kept q w _)
    · exact hbeats.trans (insOps_kept q w _)
  · exact hbeats

/-- The words of the data-in port that a repetition uses are gone. -/
def wordsTaken (q w n : Nat) (s : State) : State :=
  if insFab w then { s with ports := { s.ports with din := putKeyed q ((keyed q s.ports.din).drop n) s.ports.din } } else s

theorem wordsTaken_kept {q w n : Nat} {s t : State} (h : CtlKept q s t) : CtlKept q s (wordsTaken q w n t) := by
  unfold wordsTaken
  split
  · exact h.ports _
  · exact h

theorem oneRep_eq (q w : Nat) (ops reuse : Bool) (mrep : Option Nat) (s : State) : oneRep q w ops reuse mrep s =
    if !roomFor q w (if reuse || insVrep w then (eng q s).repRecs else none).isNone s then none
    else match if reuse || insVrep w then (eng q s).repRecs else none with
      | some p => some (repRun q w (insLen w + 1) ops mrep p.1 p.2 s)
      | none => match takeRecords q (insLen w + 1) s with
        | .stall => none
        | .got l t => some (repRun q w (insLen w + 1) ops mrep l (if insFab w then (keyed q s.ports.din).take (insLen w + 1) else [])
            (wordsTaken q w (insLen w + 1) t))
        | .short l t => some (endPattern q endReplay 0 (beats q w mrep ops l
            (if insFab w then (keyed q s.ports.din).take (insLen w + 1) else []) l.length l.length (wordsTaken q w (insLen w + 1) t))) := rfl

theorem oneRep_kept {q w : Nat} {ops reuse : Bool} {mrep : Option Nat} {s t : State} (h : oneRep q w ops reuse mrep s = some t) :
    CtlKept q s t := by
  have htake := takeRecords_kept q (insLen w + 1) s
  rw [oneRep_eq] at h
  generalize (if reuse || insVrep w then (eng q s).repRecs else none) = saved at h
  split at h
  · exact absurd h (by simp)
  · split at h
    · obtain rfl := Option.some.inj h
      exact repRun_kept ..
    · split at h
      · exact absurd h (by simp)
      next l u heq =>
        rw [heq] at htake
        obtain rfl := Option.some.inj h
        exact (wordsTaken_kept htake).trans (repRun_kept ..)
      next l u heq =>
        rw [heq] at htake
        obtain rfl := Option.some.inj h
        exact ((wordsTaken_kept htake).trans (beats_kept ..)).trans (endPattern_kept ..)

theorem insBegin_kept (q : Nat) (s : State) : CtlKept q s (insBegin q s) := by
  unfold insBegin
  split
  · exact CtlKept.refl q s
  · exact CtlKept.modEng q (f := fun e => { e with begun := true, fticks := 0, syncAt := e.enq }) (fun _ => rfl) (fun _ => rfl) s

theorem vectorDone_kept {q w : Nat} {s u : State} (h : VectorDone q w s u) : CtlKept q s u := by
  rcases h with ⟨_, rfl⟩ | ⟨_, hrep, _⟩
  · exact (insBegin_kept q s).trans (insOps_kept q w _)
  · exact (insBegin_kept q s).trans (oneRep_kept hrep)

theorem waitBegins_kept {q w : Nat} {s u : State} (h : WaitBegins q w s u) : CtlKept q s u := by
  rcases h with ⟨_, rfl⟩ | ⟨_, hrep, _⟩
  · exact insBegin_kept q s
  · exact (insBegin_kept q s).trans (oneRep_kept hrep)

end Sys2Proof.Machine
end

section
/-! SUPPORT. The pattern sequencers (chapter 11): where the engine goes, and what an instruction's command comes to. -/
namespace Sys2Proof.Machine

/-! ### Pages (R259) -/

theorem residentPage_isSome {q pc : Nat} {s : State} :
    (residentPage q pc s).isSome = true ↔ ∃ p ∈ (eng q s).pages, p.num = pageOf pc ∧ p.ready = true := by
  unfold residentPage
  rw [List.find?_isSome]
  simp

/-- The pages of an engine that takes another list of them. -/
def withPages (l : List SeqPage) (e : SeqEng) : SeqEng := { e with pages := l }

theorem withPages_q (l : List SeqPage) (e : SeqEng) : (withPages l e).q = e.q := rfl

theorem eng_withPages {q : Nat} {l : List SeqPage} {s : State} (hr : EngsRise s) :
    eng q (setEng (withPages l (eng q s)) s) = withPages l (eng q s) := by
  have hput := eng_setEng_self (e := withPages l (eng q s)) hr
  rwa [withPages_q, eng_q] at hput

/-- What a page's use does to the pages: at most their order. -/
theorem touchPage_cases (q pc : Nat) (s : State) : touchPage q pc s = s ∨ ∃ p ∈ (eng q s).pages,
    touchPage q pc s = setEng (withPages ((eng q s).pages.erase p ++ [p]) (eng q s)) s := by
  unfold touchPage
  dsimp only
  cases h : residentPage q pc s with
  | none => exact .inl rfl
  | some p => exact .inr ⟨p, List.mem_of_find?_eq_some h, rfl⟩

theorem mem_touchPage {q pc : Nat} {s : State} (hr : EngsRise s) (p : SeqPage) :
    p ∈ (eng q (touchPage q pc s)).pages ↔ p ∈ (eng q s).pages := by
  rcases touchPage_cases q pc s with h | ⟨x, hx, h⟩
  · rw [h]
  · rw [h, eng_withPages hr]
    show p ∈ (eng q s).pages.erase x ++ [x] ↔ _
    rw [List.mem_append, List.mem_singleton]
    by_cases hp : p = x
    · subst hp
      exact ⟨fun _ => hx, fun _ => .inr rfl⟩
    · rw [List.mem_erase_of_ne hp]
      exact ⟨fun hor => hor.resolve_right hp, .inl⟩

theorem touchPage_regs (q pc : Nat) (s : State) : (touchPage q pc s).regs = s.regs := by
  rcases touchPage_cases q pc s with h | ⟨x, _, h⟩ <;> rw [h]
  rfl

theorem touchPage_kept {α : Type} {v : SeqEng → α} (hv : ∀ l e, v (withPages l e) = v e) (q pc : Nat) (s : State) :
    EngKept v q s (touchPage q pc s) := by
  rcases touchPage_cases q pc s with h | ⟨x, _, h⟩ <;> rw [h]
  · exact EngKept.refl q s
  · exact EngKept.setEng q (by rw [withPages_q, eng_q, hv])

/-- The pages that room for one more leaves: all, or all but one that may be evicted. -/
theorem pageRoom_cases {q : Nat} {s : State} {l : List SeqPage} (h : pageRoom q s = some l) :
    l = (eng q s).pages ∨ ∃ p, pageProtected q p s = false ∧ l = (eng q s).pages.erase p := by
  unfold pageRoom at h
  dsimp only at h
  split at h
  · exact .inl (Option.some.inj h).symm
  · split at h
    next p heq => exact .inr ⟨p, by simpa using List.find?_some heq, (Option.some.inj h).symm⟩
    next => exact absurd h (by simp)

/-- A load that begins: none, a page that is not ready yet in the room made for it, or a note to load later. -/
inductive LoadBegun (q num : Nat) (pref : Bool) (s : State) : State → Prop
  | there (h : ∃ p ∈ (eng q s).pages, p.num = num) : LoadBegun q num pref s s
  | loading {l : List SeqPage} (h : pageRoom q s = some l) :
    LoadBegun q num pref s (setEng (withPages (l ++ [⟨num, false, pref, []⟩]) (eng q s)) s)
  | waiting (h : pref = true) (hn : num ∈ (eng q s).prefWait) : LoadBegun q num pref s s
  | waits (h : pref = true) : LoadBegun q num pref s (setEng { eng q s with prefWait := (eng q s).prefWait ++ [num] } s)
  | stalls (h : pref = false) : LoadBegun q num pref s (setEng { eng q s with demand := some num } s)

theorem beginLoad_begun (q num : Nat) (pref : Bool) (s : State) : LoadBegun q num pref s (beginLoad q num pref s) := by
  unfold beginLoad
  dsimp only
  split
  next h => exact .there (by simpa using h)
  next =>
    split
    next l hroom => exact .loading hroom
    next =>
      cases pref with
      | true =>
        rw [if_pos rfl]
        split
        next hn => exact .waiting rfl hn
        next => exact .waits rfl
      | false => exact .stalls rfl

theorem beginLoad_regs (q num : Nat) (pref : Bool) (s : State) : (beginLoad q num pref s).regs = s.regs := by
  have hbegun := beginLoad_begun q num pref s
  generalize beginLoad q num pref s = t at hbegun
  cases hbegun <;> rfl

/-- A ready page was there before. -/
theorem mem_of_mem_beginLoad {q num : Nat} {pref : Bool} {s : State} (hr : EngsRise s) {p : SeqPage} (hready : p.ready = true)
    (hp : p ∈ (eng q (beginLoad q num pref s)).pages) : p ∈ (eng q s).pages := by
  have hkept {e : SeqEng} (hq : e.q = q) (hpages : e.pages = (eng q s).pages) (hmem : p ∈ (eng q (setEng e s)).pages) :
      p ∈ (eng q s).pages := by
    have hput := eng_setEng_self (e := e) hr
    rw [hq] at hput
    rwa [hput, hpages] at hmem
  have hbegun := beginLoad_begun q num pref s
  generalize beginLoad q num pref s = t at hp hbegun
  cases hbegun with
  | there h => exact hp
  | waiting h hn => exact hp
  | waits h => exact hkept (e := { eng q s with prefWait := (eng q s).prefWait ++ [num] }) (eng_q q s) rfl hp
  | stalls h => exact hkept (e := { eng q s with demand := some num }) (eng_q q s) rfl hp
  | @loading l h =>
    rw [eng_withPages hr] at hp
    rcases List.mem_append.1 hp with hl | hnew
    · rcases pageRoom_cases h with rfl | ⟨x, _, rfl⟩
      · exact hl
      · exact List.mem_of_mem_erase hl
    · rw [List.mem_singleton.1 hnew] at hready
      exact absurd hready (by simp)

/-! ### Where the engine goes (R251, R259) -/

/-- The stacks, the wait for a grant, the wrap flags and the close markers of an engine. -/
def goOf (e : SeqEng) : List Nat × List LoopEnt × Option Nat × Bool × Bool × Bool × List Marker :=
  (e.calls, e.loops, e.sluWait, e.xw, e.yw, e.zw, e.markers)

theorem beginLoad_kept (q num : Nat) (pref : Bool) (s : State) : EngKept goOf q s (beginLoad q num pref s) := by
  have hput {e : SeqEng} (hq : e.q = q) (hv : goOf e = goOf (eng q s)) : EngKept goOf q s (setEng e s) :=
    EngKept.setEng q (by rw [hq]; exact hv)
  have hbegun := beginLoad_begun q num pref s
  generalize beginLoad q num pref s = t at hbegun
  cases hbegun with
  | there h => exact EngKept.refl q s
  | waiting h hn => exact EngKept.refl q s
  | waits h => exact hput (e := { eng q s with prefWait := (eng q s).prefWait ++ [num] }) (eng_q q s) rfl
  | stalls h => exact hput (e := { eng q s with demand := some num }) (eng_q q s) rfl
  | @loading l h => exact hput (by rw [withPages_q, eng_q]) rfl

/-- The engine at the start of another instruction. -/
def rewound (e : SeqEng) : SeqEng := { e with rep := 0, begun := false, repRecs := none }

theorem rewound_q (e : SeqEng) : (rewound e).q = e.q := rfl

/-- The engine at an address, before its page is looked for. -/
def movedTo (q pc : Nat) (s : State) : State := modEng q rewound (s.set (SEQ_PC_PC q) pc)

theorem seqGoto_eq {q pc : Nat} (h : pc ≤ 0xFFFFFF) (s : State) : seqGoto q pc s =
    if (residentPage q pc (movedTo q pc s)).isSome then touchPage q pc (setWait q 0 (movedTo q pc s))
    else beginLoad q (pageOf pc) false (setWait q 5 (movedTo q pc s)) := by
  unfold seqGoto
  rw [if_neg (by omega)]
  rfl

/-- What an instruction's end leaves of the engine's place. -/
theorem seqGoto_regs {q pc : Nat} (h : pc ≤ 0xFFFFFF) (s : State) : (seqGoto q pc s).regs =
    ((s.set (SEQ_PC_PC q) pc).set (SEQ_STAT_WAIT q) (if (residentPage q pc (movedTo q pc s)).isSome then 0 else 5)).regs := by
  rw [seqGoto_eq h]
  split
  · exact touchPage_regs q pc _
  · exact beginLoad_regs q _ _ _

theorem eng_movedTo {q pc : Nat} {s : State} (hr : EngsRise s) : eng q (movedTo q pc s) = rewound (eng q s) :=
  eng_modEng (s := s.set (SEQ_PC_PC q) pc) hr (by rw [rewound_q, eng_q])

theorem EngsRise.movedTo {s : State} (hr : EngsRise s) (q pc : Nat) : EngsRise (movedTo q pc s) :=
  EngsRise.modEng (s := s.set (SEQ_PC_PC q) pc) hr q rewound

theorem seqGoto_kept {q pc : Nat} (h : pc ≤ 0xFFFFFF) (s : State) : EngKept goOf q s (seqGoto q pc s) := by
  have hmoved : EngKept goOf q s (movedTo q pc s) := EngKept.trans (t := s.set (SEQ_PC_PC q) pc) (.of_seqs rfl)
    (EngKept.modEng q q rewound_q (fun _ => rfl) _)
  have hwait (n : Nat) : EngKept goOf q s (setWait q n (movedTo q pc s)) := hmoved.trans (.of_seqs rfl)
  rw [seqGoto_eq h]
  split
  · exact (hwait 0).trans (touchPage_kept (fun _ _ => rfl) q pc _)
  · exact (hwait 5).trans (beginLoad_kept q _ _ _)

/-- A page's use or load leaves the engine's repetitions alone. -/
def repOf (e : SeqEng) : Nat × Bool := (e.rep, e.begun)

theorem beginLoad_rep (q num : Nat) (pref : Bool) (s : State) : EngKept repOf q s (beginLoad q num pref s) := by
  have hput {e : SeqEng} (hq : e.q = q) (hv : repOf e = repOf (eng q s)) : EngKept repOf q s (setEng e s) :=
    EngKept.setEng q (by rw [hq]; exact hv)
  have hbegun := beginLoad_begun q num pref s
  generalize beginLoad q num pref s = t at hbegun
  cases hbegun with
  | there h => exact EngKept.refl q s
  | waiting h hn => exact EngKept.refl q s
  | waits h => exact hput (e := { eng q s with prefWait := (eng q s).prefWait ++ [num] }) (eng_q q s) rfl
  | stalls h => exact hput (e := { eng q s with demand := some num }) (eng_q q s) rfl
  | @loading l h => exact hput (by rw [withPages_q, eng_q]) rfl

theorem seqGoto_rep {q pc : Nat} (h : pc ≤ 0xFFFFFF) {s : State} (hr : EngsRise s) : repOf (eng q (seqGoto q pc s)) = (0, false) := by
  have hmoved := hr.movedTo q pc
  have hzero : repOf (eng q (movedTo q pc s)) = (0, false) := by
    rw [eng_movedTo hr]
    rfl
  rw [seqGoto_eq h]
  split
  · obtain ⟨_, hrep⟩ := (touchPage_kept (v := repOf) (fun _ _ => rfl) q pc (setWait q 0 (movedTo q pc s))).kept hmoved
    exact hrep.trans hzero
  · obtain ⟨_, hrep⟩ := (beginLoad_rep q (pageOf pc) false (setWait q 5 (movedTo q pc s))).kept hmoved
    exact hrep.trans hzero

theorem seqGoto_resident {q pc : Nat} (h : pc ≤ 0xFFFFFF) {s : State} (hr : EngsRise s) :
    (residentPage q pc (seqGoto q pc s)).isSome = (residentPage q pc (movedTo q pc s)).isSome := by
  have hmoved := hr.movedTo q pc
  rw [seqGoto_eq h]
  split
  next hres =>
    rw [hres, residentPage_isSome]
    obtain ⟨p, hp, hnum⟩ := residentPage_isSome.1 hres
    exact ⟨p, (mem_touchPage (s := setWait q 0 (movedTo q pc s)) hmoved p).2 hp, hnum⟩
  next hres =>
    rw [Bool.eq_false_of_not_eq_true hres, ← Bool.not_eq_true]
    intro hthen
    obtain ⟨p, hp, hnum, hready⟩ := residentPage_isSome.1 hthen
    exact hres (residentPage_isSome.2
      ⟨p, mem_of_mem_beginLoad (s := setWait q 5 (movedTo q pc s)) hmoved hready hp, hnum, hready⟩)

theorem seqGoto_rising {q pc : Nat} (h : pc ≤ 0xFFFFFF) {s : State} (hs : Sparse.Rising s.regs) :
    Sparse.Rising (seqGoto q pc s).regs := by
  rw [seqGoto_regs h]
  exact rising_set _ _ (rising_set _ _ hs)

@[simp] theorem SEQ_PC_PC_bit (q : Nat) : (SEQ_PC_PC q).key % 64 = 0 := Nat.mul_add_mod _ _ _
@[simp] theorem SEQ_PC_LOOPS_bit (q : Nat) : (SEQ_PC_LOOPS q).key % 64 = 24 := Nat.mul_add_mod _ _ _
@[simp] theorem SEQ_PC_CALLS_bit (q : Nat) : (SEQ_PC_CALLS q).key % 64 = 29 := Nat.mul_add_mod _ _ _
@[simp] theorem SEQ_STAT_WAIT_bit (q : Nat) : (SEQ_STAT_WAIT q).key % 64 = 4 := Nat.mul_add_mod _ _ _

/-- The stack depths shown touch SEQ_PC's two depth fields alone. -/
theorem get_showStacks {q : Nat} {f : Fld} (hcalls : f.key ≠ (SEQ_PC_CALLS q).key) (hloops : f.key ≠ (SEQ_PC_LOOPS q).key) (s : State) :
    (showStacks q s).get f = s.get f := by
  unfold showStacks
  dsimp only
  rw [get_set_of_ne _ hloops, get_set_of_ne _ hcalls]

theorem showStacks_calls {q : Nat} {s : State} (hs : Sparse.Rising s.regs) (h : (eng q s).calls.length < 16) :
    (showStacks q s).get (SEQ_PC_CALLS q) = (eng q s).calls.length := by
  unfold showStacks
  dsimp only
  rw [get_set_of_bit _ (by simp), get_set_self _ _ hs]
  exact Nat.mod_eq_of_lt h

theorem showStacks_loops {q : Nat} {s : State} (hs : Sparse.Rising s.regs) (h : (eng q s).loops.length < 32) :
    (showStacks q s).get (SEQ_PC_LOOPS q) = (eng q s).loops.length := by
  unfold showStacks
  dsimp only
  rw [get_set_self _ _ (rising_set _ _ hs)]
  exact Nat.mod_eq_of_lt h

/-- The engine at an address, its stacks shown or not. -/
theorem goesTo_of_seqGoto {q pc : Nat} (h : pc ≤ 0xFFFFFF) {s t : State} (hs : Sparse.Rising s.regs) (hr : EngsRise s)
    (ht : eng q t = eng q (seqGoto q pc s)) (hpc : t.get (SEQ_PC_PC q) = (seqGoto q pc s).get (SEQ_PC_PC q))
    (hwait : t.get (SEQ_STAT_WAIT q) = (seqGoto q pc s).get (SEQ_STAT_WAIT q)) : GoesTo q pc t := by
  obtain ⟨hrep, hbegun⟩ := Prod.ext_iff.1 (seqGoto_rep h hr)
  have hres : (residentPage q pc t).isSome = (residentPage q pc (movedTo q pc s)).isSome := by
    rw [← seqGoto_resident h hr]
    unfold residentPage
    rw [ht]
  refine ⟨?_, by rw [ht]; exact hrep, by rw [ht]; exact hbegun, ?_⟩
  · rw [hpc, get_congr (seqGoto_regs h s), get_set_of_bit _ (by simp), get_set_self _ _ hs]
    exact Nat.mod_eq_of_lt (show pc < 16777216 by omega)
  · rw [hwait, hres, get_congr (seqGoto_regs h s), get_set_self _ _ (rising_set _ _ hs)]
    split <;> rfl

theorem goesTo_seqGoto {q pc : Nat} (h : pc ≤ 0xFFFFFF) {s : State} (hs : Sparse.Rising s.regs) (hr : EngsRise s) :
    GoesTo q pc (seqGoto q pc s) := goesTo_of_seqGoto h hs hr rfl rfl rfl

theorem goesTo_shown {q pc : Nat} (h : pc ≤ 0xFFFFFF) {s : State} (hs : Sparse.Rising s.regs) (hr : EngsRise s) :
    GoesTo q pc (showStacks q (seqGoto q pc s)) :=
  goesTo_of_seqGoto h hs hr rfl (get_showStacks (by simp only [SEQ_PC_PC, SEQ_PC_CALLS]; omega) (by simp only [SEQ_PC_PC, SEQ_PC_LOOPS]; omega) _)
    (get_showStacks (by simp only [SEQ_STAT_WAIT, SEQ_PC_CALLS]; omega) (by simp only [SEQ_STAT_WAIT, SEQ_PC_LOOPS]; omega) _)

/-! ### What an instruction's command comes to (R238, R247, R255) -/

/-- Where no STOP and no pause holds it, the engine takes the instruction's step. -/
theorem seqExec_at {q opc w : Nat} {s : State} (h : AtInstruction q opc w s) (body : Nat → State → State) :
    seqExec q opc body s = showStacks q (body w (insBegin q s)) := by
  obtain ⟨hexec, hfetch, hopc, hlegal, hfree⟩ := h
  unfold seqExec insBegin
  rw [hexec, hfetch]
  dsimp only
  rw [if_neg (by simp [hopc, hlegal])]
  by_cases hbegun : (eng q s).begun = true
  · rw [if_pos hbegun, if_pos hbegun]
  · rw [if_neg hbegun, if_neg hbegun]
    rcases hfree with hb | hsafe | ⟨hstop, hpause⟩
    · exact absurd hb hbegun
    · rw [hsafe, if_neg (by simp), if_neg (by simp)]
    · rw [if_neg, if_neg (by simp [hpause])]
      rcases hstop with h0 | h0
      · simp [h0]
      · simp [h0]

theorem eng_insBegin {q : Nat} {s : State} (hr : EngsRise s) :
    (eng q (insBegin q s)).rep = (eng q s).rep ∧ (eng q (insBegin q s)).ending = (eng q s).ending := by
  have hkept : EngKept (fun e => (e.rep, e.ending)) q s (insBegin q s) := by
    unfold insBegin
    split
    · exact EngKept.refl q s
    · exact EngKept.modEng q q (f := fun e => { e with begun := true, fticks := 0, syncAt := e.enq }) (fun _ => rfl) (fun _ => rfl) s
  obtain ⟨_, hview⟩ := hkept.kept hr
  exact Prod.ext_iff.1 hview

/-- With its vector done the instruction takes its control action. -/
theorem runVector_done {q w : Nat} {s u : State} (hr : EngsRise s) (h : VectorDone q w s u) (control : State → State) :
    runVector q w control (insBegin q s) = control u := by
  obtain ⟨hrep, _⟩ := eng_insBegin (q := q) hr
  unfold runVector
  rcases h with ⟨hnovec, rfl⟩ | ⟨hnovec, hone, hending, hlast⟩
  · rw [if_pos hnovec]
  · rw [if_neg (by simp [hnovec]), hone]
    dsimp only
    rw [if_neg (by simp [hending]), if_pos (by rw [hrep]; omega)]

/-- A wait with its own repetitions done begins; where it is over at once its ops apply. -/
theorem runWait_begins {q w : Nat} {s u : State} (hr : EngsRise s) (h : WaitBegins q w s u) (begin_ : State → State) (done : State → Bool)
    (finish : State → State) : runWait q w false begin_ done finish (insBegin q s) =
      if done (begin_ u) && (eng q (begin_ u)).ending.isNone then finish (insOps q w (setWait q 0 (begin_ u))) else begin_ u := by
  obtain ⟨hrep, _⟩ := eng_insBegin (q := q) hr
  unfold runWait
  rcases h with ⟨hnovec, rfl⟩ | ⟨hnovec, hone, hending, hlast⟩
  · dsimp only
    rw [if_neg (by simp), if_pos hnovec]
  · dsimp only
    rw [if_neg (by simp), if_neg (by simp [hnovec]), hone]
    dsimp only
    rw [if_neg (by simp [hending]), if_pos (by rw [hrep]; omega)]

theorem waitBegins_ending {q w : Nat} {s u : State} (hr : EngsRise s) (hexec : seqExecutes q s = true) (h : WaitBegins q w s u) :
    (eng q u).ending = none := by
  rcases h with ⟨_, rfl⟩ | ⟨_, _, hending, _⟩
  · obtain ⟨_, hkept⟩ := eng_insBegin (q := q) hr
    unfold seqExecutes at hexec
    rw [hkept]
    simp only [Bool.and_eq_true, Option.isNone_iff_eq_none] at hexec
    exact hexec.1.2
  · exact hending

end Sys2Proof.Machine
end

section
/-! SUPPORT. The pattern sequencers (chapter 11): the instructions that steer a pattern. -/
namespace Sys2Proof.Machine

theorem not_isGen_pc (q : Nat) : ¬ isGen q (SEQ_PC_PC q) := by
  rintro ⟨r, h | h⟩ <;> simp only [SEQ_PC_PC, GEN_VALUE, GEN_D_VALUE] at h <;> omega

theorem not_isGen_wait (q : Nat) : ¬ isGen q (SEQ_STAT_WAIT q) := by
  rintro ⟨r, h | h⟩ <;> simp only [SEQ_STAT_WAIT, GEN_VALUE, GEN_D_VALUE] at h <;> omega

theorem not_isGen_match (q : Nat) : ¬ isGen q (SEQ_SITE_MATCH_SITE q) := by
  rintro ⟨r, h | h⟩ <;> simp only [SEQ_SITE_MATCH_SITE, GEN_VALUE, GEN_D_VALUE] at h <;> omega

/-- A state in which the vector of sequencer q's instruction is done: what a control action may rely on. -/
structure StepReady (q : Nat) (s u : State) : Prop where
  engs : EngsRise u
  rising : Sparse.Rising u.regs
  pc : u.get (SEQ_PC_PC q) = s.get (SEQ_PC_PC q)
  calls : (eng q u).calls = (eng q s).calls
  loops : (eng q u).loops = (eng q s).loops
  slu : (eng q u).sluWait = (eng q s).sluWait
  pages : (eng q u).pages = (eng q s).pages

theorem CtlKept.ready {q : Nat} {s u : State} (h : CtlKept q s u) (hr : EngsRise s) (hs : Sparse.Rising s.regs) : StepReady q s u := by
  obtain ⟨hu, hview⟩ := h.engine.kept hr
  simp only [ctlOf, Prod.mk.injEq] at hview
  obtain ⟨hcalls, hloops, hslu, hpages⟩ := hview
  exact ⟨hu, h.rising hs, h.regs _ (not_isGen_pc q), hcalls, hloops, hslu, hpages⟩

theorem vectorDone_ready {q w : Nat} {s u : State} (hs : Sound s) (h : VectorDone q w s u) : StepReady q s u :=
  (vectorDone_kept h).ready (engsRise hs) hs.rising

theorem waitBegins_ready {q w : Nat} {s u : State} (hs : Sound s) (h : WaitBegins q w s u) : StepReady q s u :=
  (waitBegins_kept h).ready (engsRise hs) hs.rising

/-- A field that going to another address does not write. -/
def awayFromGo (q : Nat) (f : Fld) : Prop :=
  f.key ≠ (SEQ_PC_PC q).key ∧ f.key ≠ (SEQ_STAT_WAIT q).key ∧ f.key ≠ (SEQ_PC_CALLS q).key ∧ f.key ≠ (SEQ_PC_LOOPS q).key

/-- The engine of sequencer q has gone to an address from state x, its stacks shown. -/
structure Arrived (q pc : Nat) (x t : State) : Prop where
  goes : GoesTo q pc t
  calls : (eng q t).calls = (eng q x).calls
  loops : (eng q t).loops = (eng q x).loops
  slu : (eng q t).sluWait = (eng q x).sluWait
  xw : (eng q t).xw = (eng q x).xw
  yw : (eng q t).yw = (eng q x).yw
  zw : (eng q t).zw = (eng q x).zw
  markers : (eng q t).markers = (eng q x).markers
  depth : (eng q x).calls.length < 16 → t.get (SEQ_PC_CALLS q) = (eng q x).calls.length
  nest : (eng q x).loops.length < 32 → t.get (SEQ_PC_LOOPS q) = (eng q x).loops.length
  regs : ∀ f, awayFromGo q f → t.get f = x.get f

theorem get_seqGoto {q pc : Nat} (h : pc ≤ 0xFFFFFF) {f : Fld} (hpc : f.key ≠ (SEQ_PC_PC q).key) (hwait : f.key ≠ (SEQ_STAT_WAIT q).key)
    (x : State) : (seqGoto q pc x).get f = x.get f := by
  rw [get_congr (seqGoto_regs h x), get_set_of_ne _ hwait, get_set_of_ne _ hpc]

theorem arrived_shown {q pc : Nat} (h : pc ≤ 0xFFFFFF) {x : State} (hs : Sparse.Rising x.regs) (hr : EngsRise x) :
    Arrived q pc x (showStacks q (seqGoto q pc x)) := by
  obtain ⟨_, hview⟩ := (seqGoto_kept h x).kept hr
  simp only [goOf, Prod.mk.injEq] at hview
  obtain ⟨hcalls, hloops, hslu, hxw, hyw, hzw, hmarkers⟩ := hview
  have hrising : Sparse.Rising (seqGoto q pc x).regs := seqGoto_rising h hs
  refine ⟨goesTo_shown h hs hr, hcalls, hloops, hslu, hxw, hyw, hzw, hmarkers, ?_, ?_, ?_⟩
  · intro hlen
    rw [← hcalls] at hlen ⊢
    exact showStacks_calls hrising hlen
  · intro hlen
    rw [← hloops] at hlen ⊢
    exact showStacks_loops hrising hlen
  · rintro f ⟨hpc, hwait, hcalls', hloops'⟩
    rw [get_showStacks hcalls' hloops', get_seqGoto h hpc hwait]

theorem Arrived.next {q n : Nat} {x : State} (hpc : x.get (SEQ_PC_PC q) = n) (hn : n < 0xFFFFFF) (hs : Sparse.Rising x.regs)
    (hr : EngsRise x) : Arrived q (n + 1) x (showStacks q (seqNext q x)) := by
  unfold seqNext
  rw [hpc]
  exact arrived_shown (by omega) hs hr

theorem insOpa_le (w : Nat) : insOpa w ≤ 0xFFFFFF := by
  have hlt : insOpa w < 16777216 := Nat.mod_lt _ (by decide)
  omega

/-- An instruction with an ordinary vector that is done takes its control action. -/
theorem seqExec_vector {q opc w : Nat} {s u : State} (hs : Sound s) (hat : AtInstruction q opc w s) (hv : VectorDone q w s u)
    {body : Nat → State → State} {control : State → State} (hbody : body w (insBegin q s) = runVector q w control (insBegin q s)) :
    ok (seqExec q opc body s) = .next (showStacks q (control u)) := by
  rw [seqExec_at hat, hbody, runVector_done (engsRise hs) hv]
  rfl

theorem insBegin_ready {q : Nat} {s : State} (hs : Sound s) : StepReady q s (insBegin q s) :=
  (insBegin_kept q s).ready (engsRise hs) hs.rising

/-! ### The stacks (R251) -/

def pushCall (a : Nat) (e : SeqEng) : SeqEng := { e with calls := e.calls ++ [a] }
def popCall (e : SeqEng) : SeqEng := { e with calls := e.calls.dropLast }

theorem eng_modified {q : Nat} {f : SeqEng → SeqEng} (hq : ∀ e, (f e).q = e.q) {x : State} (hr : EngsRise x) :
    eng q (modEng q f x) = f (eng q x) := eng_modEng hr (by rw [hq, eng_q])

theorem call_arrives {q : Fin 16} {w : Nat} {u s : State} (hs : Sound s) (hat : AtInstruction q.val 2 w s)
    (hroom : (eng q.val s).calls.length < 8) (hv : VectorDone q.val w s u) :
    ∃ t, exec (.call q) s = .next t ∧ GoesTo q.val (insOpa w) t ∧
      (eng q.val t).calls = (eng q.val s).calls ++ [s.get (SEQ_PC_PC q.val) + 1] ∧
      t.get (SEQ_PC_CALLS q.val) = (eng q.val s).calls.length + 1 := by
  have hready := vectorDone_ready hs hv
  have he : exec (.call q) s = .next (showStacks q.val (seqGoto q.val (insOpa w)
      (modEng q.val (pushCall (u.get (SEQ_PC_PC q.val) + 1)) u))) := by
    show execCall q s = _
    exact seqExec_vector hs hat hv (control := fun u => seqGoto q.val (insOpa w) (modEng q.val (pushCall (u.get (SEQ_PC_PC q.val) + 1)) u))
      (if_neg (by rw [(insBegin_ready hs).calls]; omega))
  have heng := eng_modified (q := q.val) (f := pushCall (u.get (SEQ_PC_PC q.val) + 1)) (fun _ => rfl) hready.engs
  have hcalls : (eng q.val (modEng q.val (pushCall (u.get (SEQ_PC_PC q.val) + 1)) u)).calls =
      (eng q.val s).calls ++ [s.get (SEQ_PC_PC q.val) + 1] := by
    rw [heng, pushCall, hready.calls, hready.pc]
  have harrived := arrived_shown (q := q.val) (insOpa_le w) (x := modEng q.val (pushCall (u.get (SEQ_PC_PC q.val) + 1)) u) hready.rising
    (hready.engs.modEng q.val _)
  refine ⟨_, he, harrived.goes, harrived.calls.trans hcalls, ?_⟩
  rw [harrived.depth (by rw [hcalls, List.length_append, List.length_singleton]; omega), hcalls, List.length_append, List.length_singleton]

theorem ret_arrives {q : Fin 16} {w a : Nat} {u s : State} (hs : Sound s) (hat : AtInstruction q.val 3 w s)
    (hlast : (eng q.val s).calls.getLast? = some a) (ha : a ≤ 0xFFFFFF) (hv : VectorDone q.val w s u) :
    ∃ t, exec (.ret q) s = .next t ∧ GoesTo q.val a t ∧ (eng q.val t).calls = (eng q.val s).calls.dropLast := by
  have hready := vectorDone_ready hs hv
  have hlast' : (eng q.val (insBegin q.val s)).calls.getLast? = some a := by rw [(insBegin_ready hs).calls, hlast]
  have he : exec (.ret q) s = .next (showStacks q.val (seqGoto q.val a (modEng q.val popCall u))) := by
    show execRet q s = _
    refine seqExec_vector hs hat hv (control := fun u => seqGoto q.val a (modEng q.val popCall u)) ?_
    rw [hlast']
    rfl
  have heng := eng_modified (q := q.val) (f := popCall) (fun _ => rfl) hready.engs
  have harrived := arrived_shown (q := q.val) ha (x := modEng q.val popCall u) hready.rising (hready.engs.modEng q.val _)
  refine ⟨_, he, harrived.goes, harrived.calls.trans ?_⟩
  rw [heng, popCall, hready.calls]

/-- A loop's body pushed, a replay started where it asks for one and none is active (R252). -/
def loopPushed (pc w : Nat) (e : SeqEng) : SeqEng := { e with
  loops := e.loops ++ [⟨pc + 1, insOpa w + 1⟩]
  replay := match e.replay with
    | some r => some r
    | none => if bit (insOpb w) 0 then some ⟨e.loops.length + 1, [], true, 0⟩ else none }

theorem doLoop_eq (q w : Nat) (s : State) : doLoop q w s = seqNext q (modEng q (loopPushed (s.get (SEQ_PC_PC q)) w) s) := rfl

theorem loop_arrives {q : Fin 16} {w : Nat} {u s : State} (hs : Sound s) (hat : AtInstruction q.val 4 w s)
    (hroom : (eng q.val s).loops.length < 16) (hv : VectorDone q.val w s u) (hpc : s.get (SEQ_PC_PC q.val) < 0xFFFFFF) :
    ∃ t, exec (.loop q) s = .next t ∧ GoesTo q.val (s.get (SEQ_PC_PC q.val) + 1) t ∧
      (eng q.val t).loops = (eng q.val s).loops ++ [⟨s.get (SEQ_PC_PC q.val) + 1, insOpa w + 1⟩] ∧
      t.get (SEQ_PC_LOOPS q.val) = (eng q.val s).loops.length + 1 := by
  have hready := vectorDone_ready hs hv
  have he : exec (.loop q) s = .next (showStacks q.val (doLoop q.val w u)) := by
    show execLoop q s = _
    exact seqExec_vector hs hat hv (control := doLoop q.val w) (if_neg (by rw [(insBegin_ready hs).loops]; omega))
  rw [doLoop_eq] at he
  have heng := eng_modified (q := q.val) (f := loopPushed (u.get (SEQ_PC_PC q.val)) w) (fun _ => rfl) hready.engs
  have hloops : (eng q.val (modEng q.val (loopPushed (u.get (SEQ_PC_PC q.val)) w) u)).loops =
      (eng q.val s).loops ++ [⟨s.get (SEQ_PC_PC q.val) + 1, insOpa w + 1⟩] := by
    rw [heng, loopPushed, hready.loops, hready.pc]
  have harrived := Arrived.next (q := q.val) (x := modEng q.val (loopPushed (u.get (SEQ_PC_PC q.val)) w) u)
    (n := s.get (SEQ_PC_PC q.val)) hready.pc hpc hready.rising (hready.engs.modEng q.val _)
  refine ⟨_, he, harrived.goes, harrived.loops.trans hloops, ?_⟩
  rw [harrived.nest (by rw [hloops, List.length_append, List.length_singleton]; omega), hloops, List.length_append, List.length_singleton]

theorem exec_endl_done {q : Fin 16} {w : Nat} {x : LoopEnt} {u s : State} (hs : Sound s) (hat : AtInstruction q.val 5 w s)
    (hlast : (eng q.val s).loops.getLast? = some x) (hv : VectorDone q.val w s u) :
    exec (.endl q) s = .next (showStacks q.val (doEndl q.val u)) := by
  have hsome : (eng q.val (insBegin q.val s)).loops.isEmpty = false := by
    rw [(insBegin_ready hs).loops]
    cases hl : (eng q.val s).loops with
    | nil => rw [hl] at hlast; exact absurd hlast (by simp)
    | cons => rfl
  show execEndl q s = _
  exact seqExec_vector hs hat hv (control := doEndl q.val) (if_neg (by simp [hsome]))

theorem doEndl_back {q : Nat} {x : LoopEnt} {u : State} (hlast : (eng q u).loops.getLast? = some x) (hleft : 1 < x.left) :
    ∃ e, doEndl q u = seqGoto q x.start (setEng e u) ∧ e.q = q ∧
      e.loops = (eng q u).loops.dropLast ++ [{ x with left := x.left - 1 }] := by
  unfold doEndl
  dsimp only
  rw [hlast]
  dsimp only
  rw [if_pos hleft]
  exact ⟨_, rfl, eng_q q u, rfl⟩

theorem doEndl_past {q : Nat} {x : LoopEnt} {u : State} (hlast : (eng q u).loops.getLast? = some x) (hleft : x.left ≤ 1) :
    ∃ e, doEndl q u = seqNext q (setEng e u) ∧ e.q = q ∧ e.loops = (eng q u).loops.dropLast := by
  unfold doEndl
  dsimp only
  rw [hlast]
  dsimp only
  rw [if_neg (by omega)]
  exact ⟨_, rfl, eng_q q u, rfl⟩

theorem endl_goesBack {q : Fin 16} {w : Nat} {x : LoopEnt} {u s : State} (hs : Sound s) (hat : AtInstruction q.val 5 w s)
    (hlast : (eng q.val s).loops.getLast? = some x) (hleft : 1 < x.left) (hstart : x.start ≤ 0xFFFFFF) (hv : VectorDone q.val w s u) :
    ∃ t, exec (.endl q) s = .next t ∧ GoesTo q.val x.start t ∧
      (eng q.val t).loops = (eng q.val s).loops.dropLast ++ [{ x with left := x.left - 1 }] := by
  have hready := vectorDone_ready hs hv
  have he := exec_endl_done hs hat hlast hv
  obtain ⟨e, heq, hq, hloops⟩ := doEndl_back (by rw [hready.loops]; exact hlast) hleft
  have heng := eng_setEng_self (e := e) hready.engs
  rw [hq] at heng
  have harrived := arrived_shown (q := q.val) hstart (x := setEng e u) hready.rising (hready.engs.setEng e)
  rw [heq] at he
  refine ⟨_, he, harrived.goes, harrived.loops.trans ?_⟩
  rw [heng, hloops, hready.loops]

theorem endl_goesOn {q : Fin 16} {w : Nat} {x : LoopEnt} {u s : State} (hs : Sound s) (hat : AtInstruction q.val 5 w s)
    (hlast : (eng q.val s).loops.getLast? = some x) (hleft : x.left ≤ 1) (hv : VectorDone q.val w s u)
    (hpc : s.get (SEQ_PC_PC q.val) < 0xFFFFFF) :
    ∃ t, exec (.endl q) s = .next t ∧ GoesTo q.val (s.get (SEQ_PC_PC q.val) + 1) t ∧
      (eng q.val t).loops = (eng q.val s).loops.dropLast := by
  have hready := vectorDone_ready hs hv
  have he := exec_endl_done hs hat hlast hv
  obtain ⟨e, heq, hq, hloops⟩ := doEndl_past (by rw [hready.loops]; exact hlast) hleft
  have heng := eng_setEng_self (e := e) hready.engs
  rw [hq] at heng
  have harrived := Arrived.next (q := q.val) (x := setEng e u) (n := s.get (SEQ_PC_PC q.val)) hready.pc hpc hready.rising
    (hready.engs.setEng e)
  rw [heq] at he
  refine ⟨_, he, harrived.goes, harrived.loops.trans ?_⟩
  rw [heng, hloops, hready.loops]

/-! ### Tests and waits (R250, R253 to R255) -/

theorem rising_setIf {x : State} (h : Sparse.Rising x.regs) (c : Bool) (f : Fld) (v : Nat) : Sparse.Rising (x.setIf c f v).regs := by
  unfold State.setIf
  split
  · exact rising_set f v h
  · exact h

theorem get_setIf_self {x : State} (h : Sparse.Rising x.regs) (c : Bool) (f : Fld) :
    (x.setIf c f 0).get f = if c then 0 else x.get f := by
  unfold State.setIf
  split
  · exact (get_set_self f 0 h).trans (Nat.zero_mod _)
  · rfl

theorem get_setIf_of_ne {x : State} (c : Bool) {f g : Fld} (h : g.key ≠ f.key) (v : Nat) : (x.setIf c f v).get g = x.get g := by
  unfold State.setIf
  split
  · exact get_set_of_ne x h v
  · rfl

theorem engsRise_setIf {x : State} (h : EngsRise x) (c : Bool) (f : Fld) (v : Nat) : EngsRise (x.setIf c f v) := by
  unfold State.setIf
  split
  · exact h
  · exact h

theorem awayFromGo_fail (q : Nat) : awayFromGo q (SEQ_SITE_FAIL_SITE q) := by
  refine ⟨?_, ?_, ?_, ?_⟩ <;> simp only [SEQ_SITE_FAIL_SITE, SEQ_PC_PC, SEQ_STAT_WAIT, SEQ_PC_CALLS, SEQ_PC_LOOPS] <;> omega

theorem pc_ne_fail (q : Nat) : (SEQ_PC_PC q).key ≠ (SEQ_SITE_FAIL_SITE q).key := by
  simp only [SEQ_PC_PC, SEQ_SITE_FAIL_SITE]; omega

theorem jfail_arrives {q : Fin 16} {w : Nat} {u s : State} (hs : Sound s) (hat : AtInstruction q.val 6 w s)
    (hsync : bit (insOpb w) 0 = false) (hv : VectorDone q.val w s u) (hpc : s.get (SEQ_PC_PC q.val) < 0xFFFFFF) :
    ∃ t, exec (.jfail q) s = .next t ∧
      (GoesTo q.val (if failTest q.val (insOpb w) u then insOpa w else s.get (SEQ_PC_PC q.val) + 1) t) ∧
      (t.get (SEQ_SITE_FAIL_SITE q.val) = (if bit (insOpb w) 1 then 0 else u.get (SEQ_SITE_FAIL_SITE q.val))) := by
  have hready := vectorDone_ready hs hv
  have he : exec (.jfail q) s = .next (showStacks q.val (doJfail q.val w u)) := by
    show execJfail q s = _
    exact seqExec_vector hs hat hv (control := doJfail q.val w) (if_neg (by simp [hsync]))
  obtain ⟨x, hx⟩ : ∃ x, x = u.setIf (bit (insOpb w) 1) (SEQ_SITE_FAIL_SITE q.val) 0 := ⟨_, rfl⟩
  have hrising : Sparse.Rising x.regs := by rw [hx]; exact rising_setIf hready.rising _ _ _
  have hengs : EngsRise x := by rw [hx]; exact engsRise_setIf hready.engs _ _ _
  have hxpc : x.get (SEQ_PC_PC q.val) = s.get (SEQ_PC_PC q.val) := by
    rw [hx, get_setIf_of_ne _ (pc_ne_fail q.val), hready.pc]
  have hcleared : x.get (SEQ_SITE_FAIL_SITE q.val) = if bit (insOpb w) 1 then 0 else u.get (SEQ_SITE_FAIL_SITE q.val) := by
    rw [hx, get_setIf_self hready.rising]
  unfold doJfail at he
  dsimp only at he
  rw [← hx] at he
  refine ⟨_, he, ?_⟩
  split
  · have harrived := arrived_shown (q := q.val) (insOpa_le w) hrising hengs
    exact ⟨harrived.goes, (harrived.regs _ (awayFromGo_fail q.val)).trans hcleared⟩
  · have harrived := Arrived.next (q := q.val) hxpc hpc hrising hengs
    exact ⟨harrived.goes, (harrived.regs _ (awayFromGo_fail q.val)).trans hcleared⟩

theorem jc_arrives {q : Fin 16} {w : Nat} {u s : State} (hs : Sound s) (hat : AtInstruction q.val 7 w s) (hv : VectorDone q.val w s u)
    (hpc : s.get (SEQ_PC_PC q.val) < 0xFFFFFF) :
    ∃ t, exec (.jc q) s = .next t ∧
      GoesTo q.val (if jcCond q.val (bits (insOpb w) 0 4) u != bit (insOpb w) 4 then insOpa w else s.get (SEQ_PC_PC q.val) + 1) t := by
  have hready := vectorDone_ready hs hv
  have he : exec (.jc q) s = .next (showStacks q.val (if jcCond q.val (bits (insOpb w) 0 4) u != bit (insOpb w) 4 then
      seqGoto q.val (insOpa w) u else seqNext q.val u)) := by
    show execJc q s = _
    exact seqExec_vector hs hat hv (control := fun t => if jcCond q.val (bits (insOpb w) 0 4) t != bit (insOpb w) 4 then
      seqGoto q.val (insOpa w) t else seqNext q.val t) rfl
  refine ⟨_, he, ?_⟩
  split
  · exact (arrived_shown (q := q.val) (insOpa_le w) hready.rising hready.engs).goes
  · exact (Arrived.next (q := q.val) hready.pc hpc hready.rising hready.engs).goes

theorem wait_ne_calls (q : Nat) : (SEQ_STAT_WAIT q).key ≠ (SEQ_PC_CALLS q).key := by
  simp only [SEQ_STAT_WAIT, SEQ_PC_CALLS]; omega

theorem wait_ne_loops (q : Nat) : (SEQ_STAT_WAIT q).key ≠ (SEQ_PC_LOOPS q).key := by
  simp only [SEQ_STAT_WAIT, SEQ_PC_LOOPS]; omega

theorem pc_ne_calls (q : Nat) : (SEQ_PC_PC q).key ≠ (SEQ_PC_CALLS q).key := by
  simp only [SEQ_PC_PC, SEQ_PC_CALLS]; omega

theorem pc_ne_loops (q : Nat) : (SEQ_PC_PC q).key ≠ (SEQ_PC_LOOPS q).key := by
  simp only [SEQ_PC_PC, SEQ_PC_LOOPS]; omega

theorem pc_ne_wait (q : Nat) : (SEQ_PC_PC q).key ≠ (SEQ_STAT_WAIT q).key := by
  simp only [SEQ_PC_PC, SEQ_STAT_WAIT]; omega

theorem wait_ne_match (q : Nat) : (SEQ_STAT_WAIT q).key ≠ (SEQ_SITE_MATCH_SITE q).key := by
  simp only [SEQ_STAT_WAIT, SEQ_SITE_MATCH_SITE]; omega

theorem pc_ne_match (q : Nat) : (SEQ_PC_PC q).key ≠ (SEQ_SITE_MATCH_SITE q).key := by
  simp only [SEQ_PC_PC, SEQ_SITE_MATCH_SITE]; omega

/-- A wait noted, and the engine where it was. -/
theorem waits_shown {q n : Nat} (hn : n < 8) {s u : State} (hready : StepReady q s u) :
    (showStacks q (setWait q n u)).get (SEQ_STAT_WAIT q) = n ∧ (showStacks q (setWait q n u)).get (SEQ_PC_PC q) = s.get (SEQ_PC_PC q) := by
  constructor
  · rw [get_showStacks (wait_ne_calls q) (wait_ne_loops q)]
    exact (get_set_self _ n hready.rising).trans (Nat.mod_eq_of_lt hn)
  · rw [get_showStacks (pc_ne_calls q) (pc_ne_loops q)]
    exact (get_set_of_ne u (pc_ne_wait q) n).trans hready.pc

theorem jfail_waits {q : Fin 16} {w : Nat} {u s : State} (hs : Sound s) (hat : AtInstruction q.val 6 w s)
    (hsync : bit (insOpb w) 0 = true) (hwait : s.get (SEQ_STAT_WAIT q.val) ≠ 4) (hv : WaitBegins q.val w s u)
    (hqueue : (eng q.val u).queue ≠ []) (hbefore : ∀ y ∈ (eng q.val u).queue, y.n < (eng q.val u).syncAt) :
    exec (.jfail q) s = .next (showStacks q.val (setWait q.val 4 u)) := by
  have hidle : ((insBegin q.val s).get (SEQ_STAT_WAIT q.val) == 4) = false := by
    rw [(insBegin_kept q.val s).regs _ (not_isGen_wait q.val)]
    simpa using hwait
  obtain ⟨y, l, hl⟩ := List.exists_cons_of_ne_nil hqueue
  have hlate : decide ((eng q.val u).syncAt ≤ y.n) = false := decide_eq_false (by
    have := hbefore y (by rw [hl]; exact List.mem_cons_self)
    omega)
  have hunknown : (((eng q.val u).queue ++ (eng q.val u).issued).all (fun c => decide ((eng q.val u).syncAt ≤ c.n)) &&
      (eng q.val u).seen.all (fun c => decide ((eng q.val u).syncAt ≤ c.n))) = false := by
    rw [hl, List.cons_append, List.all_cons, hlate]
    rfl
  show execJfail q s = _
  unfold execJfail
  rw [seqExec_at hat]
  dsimp only
  rw [if_pos hsync, hidle, runWait_begins (engsRise hs) hv]
  have heng : eng q.val (setWait q.val 4 u) = eng q.val u := rfl
  rw [heng, hunknown]
  rfl

theorem exec_fwait_begins {q : Fin 16} {w : Nat} {u s : State} (hs : Sound s) (hat : AtInstruction q.val 9 w s)
    (hwait : s.get (SEQ_STAT_WAIT q.val) ≠ 1) (hv : WaitBegins q.val w s u) :
    exec (.fwait q) s = .next (showStacks q.val (setWait q.val 1 u)) := by
  have hidle : ((insBegin q.val s).get (SEQ_STAT_WAIT q.val) == 1) = false := by
    rw [(insBegin_kept q.val s).regs _ (not_isGen_wait q.val)]
    simpa using hwait
  show execFwait q s = _
  unfold execFwait
  rw [seqExec_at hat, hidle, runWait_begins (engsRise hs) hv]
  rfl

/-- A MATCH that begins, before its first repetition (R254). -/
def matchBegun (q : Nat) (s : State) : State :=
  modEng q (fun e => { e with mfrom := e.enq, mreps := 0, mfail := 0 }) ((setWait q 3 s).set (SEQ_SITE_MATCH_SITE q) 0)

theorem doMatch_fresh {q w : Nat} {s : State} (hwait : s.get (SEQ_STAT_WAIT q) ≠ 3) : CtlKept q (matchBegun q s) (doMatch q w s) := by
  have hfresh : (s.get (SEQ_STAT_WAIT q) != 3) = true := by simpa using hwait
  unfold doMatch
  simp only [hfresh, if_true]
  change CtlKept q (matchBegun q s) (if (eng q (matchBegun q s)).mreps > insRep w ∨ queueWork q (matchBegun q s) ≥ 128 ∨ insNovec w then
    matchBegun q s else match oneRep q w false true (some (eng q (matchBegun q s)).mreps) (matchBegun q s) with
    | none => matchBegun q s
    | some t => modEng q (fun e => { e with mreps := e.mreps + 1 }) t)
  split
  · exact CtlKept.refl q _
  · split
    · exact CtlKept.refl q _
    next t ht => exact (oneRep_kept ht).trans (CtlKept.modEng q (f := fun e => { e with mreps := e.mreps + 1 }) (fun _ => rfl) (fun _ => rfl) t)

theorem match_waits {q : Fin 16} {w : Nat} {s : State} (hs : Sound s) (hat : AtInstruction q.val 8 w s)
    (hwait : s.get (SEQ_STAT_WAIT q.val) ≠ 3) :
    ∃ t, exec (.seqMatch q) s = .next t ∧ t.get (SEQ_STAT_WAIT q.val) = 3 ∧ t.get (SEQ_SITE_MATCH_SITE q.val) = 0 ∧
      t.get (SEQ_PC_PC q.val) = s.get (SEQ_PC_PC q.val) := by
  have he : exec (.seqMatch q) s = .next (showStacks q.val (doMatch q.val w (insBegin q.val s))) := by
    show execSeqMatch q s = _
    unfold execSeqMatch
    rw [seqExec_at hat]
    rfl
  have hready := insBegin_ready (q := q.val) hs
  have hidle : (insBegin q.val s).get (SEQ_STAT_WAIT q.val) ≠ 3 := by
    rwa [(insBegin_kept q.val s).regs _ (not_isGen_wait q.val)]
  have hkept := doMatch_fresh (w := w) hidle
  have hset : Sparse.Rising (setWait q.val 3 (insBegin q.val s)).regs := rising_set _ _ hready.rising
  refine ⟨_, he, ?_, ?_, ?_⟩
  · rw [get_showStacks (wait_ne_calls q.val) (wait_ne_loops q.val), hkept.regs _ (not_isGen_wait q.val)]
    exact (get_set_of_ne (setWait q.val 3 (insBegin q.val s)) (wait_ne_match q.val) 0).trans
      (get_set_self _ 3 hready.rising)
  · rw [get_showStacks (by simp only [SEQ_PC_CALLS, SEQ_SITE_MATCH_SITE]; omega) (by simp only [SEQ_PC_LOOPS, SEQ_SITE_MATCH_SITE]; omega),
      hkept.regs _ (not_isGen_match q.val)]
    exact (get_set_self _ 0 hset).trans (Nat.zero_mod _)
  · rw [get_showStacks (pc_ne_calls q.val) (pc_ne_loops q.val), hkept.regs _ (not_isGen_pc q.val)]
    exact (get_set_of_ne (setWait q.val 3 (insBegin q.val s)) (pc_ne_match q.val) 0).trans
      ((get_set_of_ne _ (pc_ne_wait q.val) 3).trans hready.pc)

theorem matchTimeout_arrives {q : Fin 16} {w : Nat} {s : State} (hs : Sound s) (hexec : seqExecutes q.val s = true)
    (hfetch : fetchIns q.val (s.get (SEQ_PC_PC q.val)) s = some w) (hopc : insOpc w = 8) (hwait : s.get (SEQ_STAT_WAIT q.val) = 3)
    (hpast : insNovec w = true ∨ insRep w < (eng q.val s).mreps)
    (hwaiting : ∀ y ∈ (eng q.val s).queue ++ (eng q.val s).issued, y.mrep = none) (hseen : ∀ y ∈ (eng q.val s).seen, y.mrep = none) :
    ∃ t, exec (.matchTimeout q) s = .next t ∧ GoesTo q.val (insOpa w) t := by
  obtain ⟨x, hx⟩ : ∃ x, x = insOps q.val w (setWait q.val 0 (raise 0x080A [⟨1, q.val⟩, ⟨3, s.get (SEQ_PC_PC q.val)⟩,
      ⟨8, s.get (SEQ_SITE_MATCH_SITE q.val)⟩] s)) := ⟨_, rfl⟩
  have hnone : ((eng q.val s).queue ++ (eng q.val s).issued).any (fun c => c.mrep.isSome && decide ((eng q.val s).mfrom ≤ c.n)) = false := by
    rw [List.any_eq_false]
    intro y hy
    simp [hwaiting y hy]
  have hnone' : (eng q.val s).seen.any (fun c => c.mrep.isSome && decide ((eng q.val s).mfrom ≤ c.n)) = false := by
    rw [List.any_eq_false]
    intro y hy
    simp [hseen y hy]
  have he : exec (.matchTimeout q) s = .next (seqGoto q.val (insOpa w) x) := by
    show execMatchTimeout q s = _
    unfold execMatchTimeout
    dsimp only
    rw [hfetch, hnone, hnone', hx]
    refine whenOk_of ?_ s _
    simpa [hexec, hopc, hwait] using hpast
  have hraised : Sparse.Rising (raise 0x080A [⟨1, q.val⟩, ⟨3, s.get (SEQ_PC_PC q.val)⟩, ⟨8, s.get (SEQ_SITE_MATCH_SITE q.val)⟩] s).regs := by
    rw [raise_regs]
    exact hs.rising
  have hengs : EngsRise (setWait q.val 0 (raise 0x080A [⟨1, q.val⟩, ⟨3, s.get (SEQ_PC_PC q.val)⟩,
      ⟨8, s.get (SEQ_SITE_MATCH_SITE q.val)⟩] s)) := by
    show ((raise 0x080A _ s).seqs.map (·.q)).Pairwise (· < ·)
    rw [raise_seqs]
    exact engsRise hs
  have hready := (insOps_kept q.val w (setWait q.val 0 (raise 0x080A [⟨1, q.val⟩, ⟨3, s.get (SEQ_PC_PC q.val)⟩,
      ⟨8, s.get (SEQ_SITE_MATCH_SITE q.val)⟩] s))).ready hengs (rising_set _ _ hraised)
  rw [← hx] at hready
  exact ⟨_, he, goesTo_seqGoto (insOpa_le w) hready.rising hready.engs⟩

theorem fwaitEnd_arrives {q : Fin 16} {w : Nat} {s : State} (hs : Sound s) (hexec : seqExecutes q.val s = true)
    (hfetch : fetchIns q.val (s.get (SEQ_PC_PC q.val)) s = some w) (hopc : insOpc w = 9) (hwait : s.get (SEQ_STAT_WAIT q.val) = 1)
    (hticks : max 1 (insOpb w) ≤ (eng q.val s).fticks) (hpc : s.get (SEQ_PC_PC q.val) < 0xFFFFFF) :
    ∃ t, exec (.fwaitEnd q) s = .next t ∧ GoesTo q.val (s.get (SEQ_PC_PC q.val) + 1) t := by
  obtain ⟨x, hx⟩ : ∃ x, x = insOps q.val w (setWait q.val 0 s) := ⟨_, rfl⟩
  have he : exec (.fwaitEnd q) s = .next (seqNext q.val x) := by
    show execFwaitEnd q s = _
    unfold execFwaitEnd
    rw [hfetch, hx]
    refine whenOk_of ?_ s _
    rw [hexec, hopc, hwait, decide_eq_true hticks]
    rfl
  have hengs : EngsRise (setWait q.val 0 s) := engsRise (s := s) hs
  have hready := (insOps_kept q.val w (setWait q.val 0 s)).ready hengs (rising_set _ _ hs.rising)
  rw [← hx] at hready
  have hplace : x.get (SEQ_PC_PC q.val) = s.get (SEQ_PC_PC q.val) := hready.pc.trans (get_set_of_ne s (pc_ne_wait q.val) 0)
  unfold seqNext at he
  rw [hplace] at he
  exact ⟨_, he, goesTo_seqGoto (by omega) hready.rising hready.engs⟩

/-- Settles O24: one clause per instruction that steers a pattern. -/
theorem sequencerFlowCompletes : Obligations.SequencerFlowCompletes := by
  unfold Obligations.SequencerFlowCompletes
  refine ⟨?vec, ?jmp, ?call, ?ret, ?loop, ?endlBack, ?endlPast, ?jfail, ?jfailSync, ?jc, ?seqMatch, ?matchTimeout, ?fwait, ?fwaitEnd⟩
  case vec =>
    intro q w u s hs hat hv hpc
    have hready := vectorDone_ready hs hv
    have he : exec (.vec q) s = .next (showStacks q.val (seqNext q.val u)) := seqExec_vector hs hat hv (control := seqNext q.val) rfl
    exact ⟨_, he, (Arrived.next hready.pc hpc hready.rising hready.engs).goes,
      ((execVec_within (Sub.refl _) (Within.refl _ s)).of_next he).frame (by decide)⟩
  case jmp =>
    intro q w u s hs hat hv
    have hready := vectorDone_ready hs hv
    have he : exec (.jmp q) s = .next (showStacks q.val (seqGoto q.val (insOpa w) u)) :=
      seqExec_vector hs hat hv (control := seqGoto q.val (insOpa w)) rfl
    exact ⟨_, he, (arrived_shown (insOpa_le w) hready.rising hready.engs).goes,
      ((execJmp_within (Sub.refl _) (Within.refl _ s)).of_next he).frame (by decide)⟩
  case call =>
    intro q w u s hs hat hroom hv
    obtain ⟨t, he, hgoes, hcalls, hdepth⟩ := call_arrives hs hat hroom hv
    exact ⟨t, he, hgoes, hcalls, hdepth, ((execCall_within (Sub.refl _) (Within.refl _ s)).of_next he).frame (by decide)⟩
  case ret =>
    intro q w a u s hs hat hlast ha hv
    obtain ⟨t, he, hgoes, hcalls⟩ := ret_arrives hs hat hlast ha hv
    exact ⟨t, he, hgoes, hcalls, ((execRet_within (Sub.refl _) (Within.refl _ s)).of_next he).frame (by decide)⟩
  case loop =>
    intro q w u s hs hat hroom hv hpc
    obtain ⟨t, he, hgoes, hloops, hnest⟩ := loop_arrives hs hat hroom hv hpc
    exact ⟨t, he, hgoes, hloops, hnest, ((execLoop_within (Sub.refl _) (Within.refl _ s)).of_next he).frame (by decide)⟩
  case endlBack =>
    intro q w x u s hs hat hlast hleft hstart hv
    obtain ⟨t, he, hgoes, hloops⟩ := endl_goesBack hs hat hlast hleft hstart hv
    exact ⟨t, he, hgoes, hloops, ((execEndl_within (Sub.refl _) (Within.refl _ s)).of_next he).frame (by decide)⟩
  case endlPast =>
    intro q w x u s hs hat hlast hleft hv hpc
    obtain ⟨t, he, hgoes, hloops⟩ := endl_goesOn hs hat hlast hleft hv hpc
    exact ⟨t, he, hgoes, hloops, ((execEndl_within (Sub.refl _) (Within.refl _ s)).of_next he).frame (by decide)⟩
  case jfail =>
    intro q w u s hs hat hsync hv hpc
    obtain ⟨t, he, hgoes, hflags⟩ := jfail_arrives hs hat hsync hv hpc
    exact ⟨t, he, hgoes, hflags, ((execJfail_within (Sub.refl _) (Within.refl _ s)).of_next he).frame (by decide)⟩
  case jfailSync =>
    intro q w u s hs hat hsync hwait hv hqueue hbefore
    have he := jfail_waits hs hat hsync hwait hv hqueue hbefore
    obtain ⟨hnoted, hplace⟩ := waits_shown (show 4 < 8 by decide) (waitBegins_ready hs hv)
    exact ⟨_, he, hnoted, hplace, ((execJfail_within (Sub.refl _) (Within.refl _ s)).of_next he).frame (by decide)⟩
  case jc =>
    intro q w u s hs hat hv hpc
    obtain ⟨t, he, hgoes⟩ := jc_arrives hs hat hv hpc
    exact ⟨t, he, hgoes, ((execJc_within (Sub.refl _) (Within.refl _ s)).of_next he).frame (by decide)⟩
  case seqMatch =>
    intro q w s hs hat hwait
    obtain ⟨t, he, hnoted, hcleared, hplace⟩ := match_waits hs hat hwait
    exact ⟨t, he, hnoted, hcleared, hplace, ((execSeqMatch_within (Sub.refl _) (Within.refl _ s)).of_next he).frame (by decide)⟩
  case matchTimeout =>
    intro q w s hs hexec hfetch hopc hwait hpast hwaiting hseen
    obtain ⟨t, he, hgoes⟩ := matchTimeout_arrives hs hexec hfetch hopc hwait hpast hwaiting hseen
    exact ⟨t, he, hgoes, ((execMatchTimeout_within (Sub.refl _) (Within.refl _ s)).of_next he).frame (by decide)⟩
  case fwait =>
    intro q w u s hs hat hwait hv
    have he := exec_fwait_begins hs hat hwait hv
    obtain ⟨hnoted, hplace⟩ := waits_shown (show 1 < 8 by decide) (waitBegins_ready hs hv)
    exact ⟨_, he, hnoted, hplace, ((execFwait_within (Sub.refl _) (Within.refl _ s)).of_next he).frame (by decide)⟩
  case fwaitEnd =>
    intro q w s hs hexec hfetch hopc hwait hticks hpc
    obtain ⟨t, he, hgoes⟩ := fwaitEnd_arrives hs hexec hfetch hopc hwait hticks hpc
    exact ⟨t, he, hgoes, ((execFwaitEnd_within (Sub.refl _) (Within.refl _ s)).of_next he).frame (by decide)⟩

end Sys2Proof.Machine
end

section
/-! SUPPORT. The pattern sequencers (chapter 11): the instructions that act beside the pattern. -/
namespace Sys2Proof.Machine

/-- A field of the sequencer above SEQ_PC is away from what going to an address writes. -/
theorem awayFromGo_of_key {q a b : Nat} {f : Fld} (h : f.key = 64 * (0x3007100000 + 0x10000 * (q % 16) + a) + b) (ha : 0x30 ≤ a)
    (hb : b < 64) : awayFromGo q f := by
  refine ⟨?_, ?_, ?_, ?_⟩ <;> rw [h] <;> simp only [SEQ_PC_PC, SEQ_STAT_WAIT, SEQ_PC_CALLS, SEQ_PC_LOOPS] <;> omega

theorem awayFromGo_value (q n : Nat) : awayFromGo q (GEN_VALUE q n) :=
  awayFromGo_of_key (a := 0x100 + 0x4 * (n % 10)) (b := 0) (by simp only [GEN_VALUE]; omega) (by omega) (by decide)

theorem awayFromGo_d (q n : Nat) : awayFromGo q (GEN_D_VALUE q n) :=
  awayFromGo_of_key (a := 0x140 + 0x8 * (n % 4)) (b := 0) (by simp only [GEN_D_VALUE]; omega) (by omega) (by decide)

theorem awayFromGo_match (q : Nat) : awayFromGo q (SEQ_SITE_MATCH_SITE q) :=
  awayFromGo_of_key (a := 0x48) (b := 0) (by simp only [SEQ_SITE_MATCH_SITE]; omega) (by decide) (by decide)

theorem awayFromGo_markValue (q : Nat) : awayFromGo q (SEQ_MARK_VALUE q) :=
  awayFromGo_of_key (a := 0x50) (b := 0) (by simp only [SEQ_MARK_VALUE]; omega) (by decide) (by decide)

theorem awayFromGo_markCycle (q : Nat) : awayFromGo q (SEQ_MARK_CYCLE q) :=
  awayFromGo_of_key (a := 0x50) (b := 24) (by simp only [SEQ_MARK_CYCLE]; omega) (by decide) (by decide)

theorem awayFromGo_valid (q k : Nat) : awayFromGo q (SEQ_TICKET_VALID q k) :=
  awayFromGo_of_key (a := 0xC0 + 0x4 * (k % 8)) (b := 16) (by simp only [SEQ_TICKET_VALID]; omega) (by omega) (by decide)

theorem awayFromGo_ticket (q k : Nat) : awayFromGo q (SEQ_TICKET_TICKET q k) :=
  awayFromGo_of_key (a := 0xC0 + 0x4 * (k % 8)) (b := 0) (by simp only [SEQ_TICKET_TICKET]; omega) (by omega) (by decide)

theorem awayFromGo.pc {q : Nat} {f : Fld} (h : awayFromGo q f) : (SEQ_PC_PC q).key ≠ f.key := Ne.symm h.1

/-- A state made from a done vector by a control action that stays at the address. -/
structure ActionReady (q : Nat) (s d : State) : Prop where
  engs : EngsRise d
  rising : Sparse.Rising d.regs
  pc : d.get (SEQ_PC_PC q) = s.get (SEQ_PC_PC q)

theorem StepReady.action {q : Nat} {s u : State} (h : StepReady q s u) : ActionReady q s u := ⟨h.engs, h.rising, h.pc⟩

theorem ActionReady.set {q : Nat} {s d : State} (h : ActionReady q s d) {f : Fld} (hf : awayFromGo q f) (v : Nat) :
    ActionReady q s (d.set f v) := ⟨h.engs, rising_set f v h.rising, (get_set_of_ne d hf.pc v).trans h.pc⟩

theorem ActionReady.modEng {q : Nat} {s d : State} (h : ActionReady q s d) (f : SeqEng → SeqEng) : ActionReady q s (modEng q f d) :=
  ⟨h.engs.modEng q f, h.rising, h.pc⟩

theorem ActionReady.raise {q : Nat} {s d : State} (h : ActionReady q s d) (code : Nat) (items : List EvItem) :
    ActionReady q s (raise code items d) :=
  ⟨by show ((Machine.raise code items d).seqs.map (·.q)).Pairwise (· < ·); rw [raise_seqs]; exact h.engs, by rw [raise_regs]; exact h.rising,
    (get_raise ..).trans h.pc⟩

theorem ActionReady.next {q : Nat} {s d : State} (h : ActionReady q s d) (hpc : s.get (SEQ_PC_PC q) < 0xFFFFFF) :
    Arrived q (s.get (SEQ_PC_PC q) + 1) d (showStacks q (seqNext q d)) := Arrived.next h.pc hpc h.rising h.engs

/-- Something outside the sequencers happens to a state. -/
theorem ActionReady.within {A : Nat} {q : Nat} {s d e : State} (h : ActionReady q s d) (hw : Within A d e) (h13 : A.testBit 13 = false)
    (h69 : A.testBit 69 = false) (hrise : Sparse.Rising e.regs) : ActionReady q s e :=
  ⟨by show (e.seqs.map (·.q)).Pairwise (· < ·); rw [hw.seqs h13]; exact h.engs, hrise,
    (hw.get (by rw [show winBit (SEQ_PC_PC q).key = 69 from SEQ_PC_PC_win q]; exact h69)).trans h.pc⟩

/-! ### Registers and marks (R247, R250, R258) -/

theorem setr_arrives {q : Fin 16} {w n v : Nat} {u s : State} {f : Fld} (hs : Sound s) (hat : AtInstruction q.val 12 w s)
    (hv : VectorDone q.val w s u) (hpc : s.get (SEQ_PC_PC q.val) < 0xFFFFFF) (hf : awayFromGo q.val f) (hdo : doSetr q.val w u = u.set f v)
    (hn : v % 2 ^ f.width = n) :
    ∃ t, exec (.setr q) s = .next t ∧ GoesTo q.val (s.get (SEQ_PC_PC q.val) + 1) t ∧ t.get f = n := by
  have hready := (vectorDone_ready hs hv).action
  have he : exec (.setr q) s = .next (showStacks q.val (seqNext q.val (doSetr q.val w u))) :=
    seqExec_vector hs hat hv (control := fun t => seqNext q.val (doSetr q.val w t)) rfl
  rw [hdo] at he
  have harrived := (hready.set hf v).next hpc
  exact ⟨_, he, harrived.goes, (harrived.regs f hf).trans ((get_set_self f v hready.rising).trans hn)⟩

theorem doSetr_value {q w : Nat} {u : State} (h : bits (insOpb w) 0 6 ≤ 9) : doSetr q w u = u.set (GEN_VALUE q (bits (insOpb w) 0 6))
    (if bits (insOpb w) 0 6 = 2 ∨ bits (insOpb w) 0 6 = 5 then insOpa w % 64 else insOpa w) := by
  unfold doSetr
  dsimp only
  rw [if_pos h]

theorem doSetr_data {q w : Nat} {u : State} (h : 16 ≤ bits (insOpb w) 0 6 ∧ bits (insOpb w) 0 6 < 24) :
    doSetr q w u = u.set (GEN_D_VALUE q 0) (u.get (GEN_DR_VALUE q (bits (insOpb w) 0 6 - 16))) := by
  unfold doSetr
  dsimp only
  rw [if_neg (by omega), if_neg (by omega)]

theorem doSetr_copy {q w : Nat} {u : State} (h : bits (insOpb w) 0 6 = 24) :
    doSetr q w u = u.set (GEN_D_VALUE q 1) (u.get (GEN_D_VALUE q 0)) := by
  unfold doSetr
  dsimp only
  rw [if_neg (by omega), if_pos h]

def wrapsCleared (e : SeqEng) : SeqEng := { e with xw := false, yw := false, zw := false }

theorem doClrf_eq (q w : Nat) (u : State) : doClrf q w u = if bit (insOpb w) 2 then
    modEng q wrapsCleared ((u.setIf (bit (insOpb w) 0) (SEQ_SITE_FAIL_SITE q) 0).setIf (bit (insOpb w) 1) (SEQ_SITE_MATCH_SITE q) 0)
    else (u.setIf (bit (insOpb w) 0) (SEQ_SITE_FAIL_SITE q) 0).setIf (bit (insOpb w) 1) (SEQ_SITE_MATCH_SITE q) 0 := rfl

/-- What CLRF leaves of the flags that it names. -/
structure FlagsCleared (q opb : Nat) (u d : State) : Prop where
  fails : d.get (SEQ_SITE_FAIL_SITE q) = if bit opb 0 then 0 else u.get (SEQ_SITE_FAIL_SITE q)
  matched : d.get (SEQ_SITE_MATCH_SITE q) = if bit opb 1 then 0 else u.get (SEQ_SITE_MATCH_SITE q)
  xw : (eng q d).xw = (!bit opb 2 && (eng q u).xw)
  yw : (eng q d).yw = (!bit opb 2 && (eng q u).yw)
  zw : (eng q d).zw = (!bit opb 2 && (eng q u).zw)

theorem ActionReady.setIf {q : Nat} {s d : State} (h : ActionReady q s d) (c : Bool) {f : Fld} (hf : awayFromGo q f) (v : Nat) :
    ActionReady q s (d.setIf c f v) := by
  unfold State.setIf
  split
  · exact h.set hf v
  · exact h

theorem eng_setIf (q : Nat) (c : Bool) (f : Fld) (v : Nat) (d : State) : eng q (d.setIf c f v) = eng q d := by
  unfold State.setIf
  split <;> rfl

theorem fail_ne_match (q : Nat) : (SEQ_SITE_FAIL_SITE q).key ≠ (SEQ_SITE_MATCH_SITE q).key := by
  simp only [SEQ_SITE_FAIL_SITE, SEQ_SITE_MATCH_SITE]; omega

theorem doClrf_cleared {q w : Nat} {s u : State} (h : ActionReady q s u) :
    ActionReady q s (doClrf q w u) ∧ FlagsCleared q (insOpb w) u (doClrf q w u) := by
  obtain ⟨d, hd⟩ : ∃ d, d = (u.setIf (bit (insOpb w) 0) (SEQ_SITE_FAIL_SITE q) 0).setIf (bit (insOpb w) 1) (SEQ_SITE_MATCH_SITE q) 0 :=
    ⟨_, rfl⟩
  have hready : ActionReady q s d := by
    rw [hd]
    exact (h.setIf _ (awayFromGo_fail q) 0).setIf _ (awayFromGo_match q) 0
  have hfails : d.get (SEQ_SITE_FAIL_SITE q) = if bit (insOpb w) 0 then 0 else u.get (SEQ_SITE_FAIL_SITE q) := by
    rw [hd, get_setIf_of_ne _ (fail_ne_match q), get_setIf_self h.rising]
  have hmatched : d.get (SEQ_SITE_MATCH_SITE q) = if bit (insOpb w) 1 then 0 else u.get (SEQ_SITE_MATCH_SITE q) := by
    rw [hd, get_setIf_self (rising_setIf h.rising _ _ _), get_setIf_of_ne _ (fail_ne_match q).symm]
  have heng : eng q d = eng q u := by rw [hd, eng_setIf, eng_setIf]
  rw [doClrf_eq, ← hd]
  split
  next hbit =>
    have hcleared := eng_modified (q := q) (f := wrapsCleared) (fun _ => rfl) hready.engs
    refine ⟨hready.modEng wrapsCleared, hfails, hmatched, ?_, ?_, ?_⟩ <;> rw [hcleared, hbit] <;> rfl
  next hbit =>
    refine ⟨hready, hfails, hmatched, ?_, ?_, ?_⟩ <;> rw [heng, Bool.eq_false_of_not_eq_true hbit] <;> rfl

theorem clrf_arrives {q : Fin 16} {w : Nat} {u s : State} (hs : Sound s) (hat : AtInstruction q.val 13 w s) (hv : VectorDone q.val w s u)
    (hpc : s.get (SEQ_PC_PC q.val) < 0xFFFFFF) :
    ∃ t, exec (.clrf q) s = .next t ∧ GoesTo q.val (s.get (SEQ_PC_PC q.val) + 1) t ∧ FlagsCleared q.val (insOpb w) u t := by
  have he : exec (.clrf q) s = .next (showStacks q.val (seqNext q.val (doClrf q.val w u))) :=
    seqExec_vector hs hat hv (control := fun t => seqNext q.val (doClrf q.val w t)) rfl
  obtain ⟨hready, hfails, hmatched, hxw, hyw, hzw⟩ := doClrf_cleared (w := w) (vectorDone_ready hs hv).action
  have harrived := hready.next hpc
  exact ⟨_, he, harrived.goes, (harrived.regs _ (awayFromGo_fail q.val)).trans hfails, (harrived.regs _ (awayFromGo_match q.val)).trans hmatched,
    harrived.xw.trans hxw, harrived.yw.trans hyw, harrived.zw.trans hzw⟩

/-- A close marker put behind the cycles queued. -/
def markerSent (x : Marker) (e : SeqEng) : SeqEng := { e with markers := e.markers ++ [x] }

/-- The close marker of a DCLOSE (R258). -/
def closeMarkerOf (q w : Nat) (u : State) : Marker :=
  ⟨(eng q u).enq, queuedCount q u - 1, u.get (SEQ_PC_PC q), bits (insOpb w) 0 12, none⟩

theorem dclose_arrives {q : Fin 16} {w : Nat} {u s : State} (hs : Sound s) (hat : AtInstruction q.val 14 w s) (hv : VectorDone q.val w s u)
    (hpc : s.get (SEQ_PC_PC q.val) < 0xFFFFFF) :
    ∃ t, exec (.dclose q) s = .next t ∧ GoesTo q.val (s.get (SEQ_PC_PC q.val) + 1) t ∧ (eng q.val t).markers = (eng q.val u).markers ++
      [⟨(eng q.val u).enq, queuedCount q.val u - 1, s.get (SEQ_PC_PC q.val), bits (insOpb w) 0 12, none⟩] := by
  have hready := (vectorDone_ready hs hv).action
  have he : exec (.dclose q) s = .next (showStacks q.val (seqNext q.val (modEng q.val (markerSent (closeMarkerOf q.val w u)) u))) :=
    seqExec_vector hs hat hv (control := fun t => seqNext q.val (modEng q.val (fun e => { e with
      markers := e.markers ++ [⟨e.enq, queuedCount q.val t - 1, t.get (SEQ_PC_PC q.val), bits (insOpb w) 0 12, none⟩] }) t)) rfl
  have hsent := eng_modified (q := q.val) (f := markerSent (closeMarkerOf q.val w u)) (fun _ => rfl) hready.engs
  have harrived := (hready.modEng (markerSent (closeMarkerOf q.val w u))).next hpc
  refine ⟨_, he, harrived.goes, harrived.markers.trans ?_⟩
  rw [hsent, markerSent, closeMarkerOf, hready.pc]

theorem mark_arrives {q : Fin 16} {w : Nat} {u s : State} (hs : Sound s) (hat : AtInstruction q.val 15 w s) (hv : VectorDone q.val w s u)
    (hpc : s.get (SEQ_PC_PC q.val) < 0xFFFFFF) :
    ∃ t, exec (.mark q) s = .next t ∧ GoesTo q.val (s.get (SEQ_PC_PC q.val) + 1) t ∧ t.get (SEQ_MARK_VALUE q.val) = insOpa w ∧
      t.get (SEQ_MARK_CYCLE q.val) = queuedCount q.val u % 2 ^ 24 := by
  have hready := (vectorDone_ready hs hv).action
  have he : exec (.mark q) s = .next (showStacks q.val (seqNext q.val (doMark q.val w u))) :=
    seqExec_vector hs hat hv (control := fun t => seqNext q.val (doMark q.val w t)) rfl
  have hvalue := hready.set (awayFromGo_markValue q.val) (insOpa w)
  have harrived := ((hvalue.set (awayFromGo_markCycle q.val) (queuedCount q.val u)).raise 0x0810
    [⟨1, q.val⟩, ⟨3, insOpa w⟩, ⟨3, queuedCount q.val u % 2 ^ 24⟩]).next hpc
  have hopa : insOpa w % 2 ^ 24 = insOpa w := Nat.mod_eq_of_lt (Nat.lt_succ_of_le (insOpa_le w))
  refine ⟨_, he, harrived.goes, ?_, ?_⟩
  · refine (harrived.regs _ (awayFromGo_markValue q.val)).trans ?_
    rw [get_raise, get_set_of_ne _ (by simp only [SEQ_MARK_VALUE, SEQ_MARK_CYCLE]; omega), get_set_self _ _ hready.rising]
    exact hopa
  · refine (harrived.regs _ (awayFromGo_markCycle q.val)).trans ?_
    rw [get_raise]
    exact get_set_self _ _ hvalue.rising

end Sys2Proof.Machine
end

section
/-! SUPPORT. The pattern sequencers (chapter 11): SLU and its end, pages ahead, ends of a pattern, and the statement. -/
namespace Sys2Proof.Machine

/-! ### Requests to the Sluice (R256) -/

/-- An engine that waits for a ticket. -/
def awaiting (ticket : Nat) (e : SeqEng) : SeqEng := { e with sluWait := some ticket, sluTicks := 0 }

/-- The wait of an SLU whose request is queued or granted. -/
def sluNoted (q ticket : Nat) (v : State) : State := modEng q (awaiting ticket) (setWait q 2 v)

theorem beginSlu_done {q k ent : Nat} {u v : State} (h : submitSlu q k u = (.done, some ent, v)) :
    beginSlu q k u = sluNoted q (ticketOf ent v) v := by
  unfold beginSlu
  rw [h]
  rfl

theorem submitSlu_entry {q k ent : Nat} {u v : State} (h : submitSlu q k u = (.done, some ent, v)) : ent < 128 := by
  unfold submitSlu sluSubmit sluPlace at h
  split at h
  · split at h
    next hplace =>
      split at hplace
      · exact absurd hplace (by simp)
      next j hfree =>
        split at hplace
        · have hmem := List.mem_of_find?_eq_some hfree
          simp only [Prod.mk.injEq, Option.some.injEq] at h hplace
          rw [← h.2.1, ← hplace.1]
          exact List.mem_range.1 hmem
        · exact absurd hplace (by simp)
    next => exact absurd h (by simp)
  · exact absurd h (by simp)

theorem submitSlu_apart {q k ent : Nat} {u v : State} (h : submitSlu q k u = (.done, some ent, v)) : Within 0x24000000003C u v := by
  have hw := submitSlu_within (A := 0x24000000003C) (q := q) (k := k) (Sub.refl _) (Within.refl _ u)
  rwa [h] at hw

/-- The Sluice's entry of a ticket, found again in any state with the same entries. -/
theorem ticketEntry_ticketOf {ent : Nat} {v x : State} (hent : ent < 128) (hkept : ∀ f, winBit f.key = 45 → x.get f = v.get f)
    (hused : v.get (SLU_ENT_STATE ent) ≠ 0) : ticketEntry (ticketOf ent v) x = some ent := by
  have hgen : v.get (SLU_ENT_GEN ent) < 256 := regGet_lt (SLU_ENT_GEN ent) v.regs
  have hnum : ticketOf ent v % 256 = ent := by
    unfold ticketOf
    omega
  have hround : ticketOf ent v / 256 % 256 = v.get (SLU_ENT_GEN ent) := by
    unfold ticketOf
    omega
  unfold ticketEntry
  dsimp only
  rw [hnum, hround, hkept _ (SLU_ENT_STATE_win ent), hkept _ (SLU_ENT_GEN_win ent), if_pos ⟨hent, hused, rfl⟩]

theorem ticketEntry_num {t k : Nat} {x : State} (h : ticketEntry t x = some k) : k = t % 256 := by
  unfold ticketEntry at h
  dsimp only at h
  split at h
  · exact (Option.some.inj h).symm
  · exact absurd h (by simp)

theorem entGranted_kept {ent : Nat} {v x : State} (hkept : ∀ f, winBit f.key = 45 → x.get f = v.get f) :
    entGranted ent x = entGranted ent v := by
  unfold entGranted
  rw [hkept _ (SLU_ENT_STATE_win ent)]

theorem get_sluNoted {q ticket : Nat} {f : Fld} (hf : winBit f.key = 45) (v : State) : (sluNoted q ticket v).get f = v.get f :=
  get_set_of_win v hf (SEQ_STAT_WAIT_win q) (by decide) 2

theorem eng_sluNoted {q ticket : Nat} {v : State} (hr : EngsRise v) : eng q (sluNoted q ticket v) = awaiting ticket (eng q v) :=
  eng_modified (q := q) (f := awaiting ticket) (fun _ => rfl) (x := setWait q 2 v) hr

/-- Whether the wait is over is whether the entry is granted. -/
theorem sluDone_sluNoted {q ent : Nat} {v : State} (hr : EngsRise v) (hent : ent < 128) :
    sluDone q (sluNoted q (ticketOf ent v) v) = entGranted ent v := by
  have hkept (f : Fld) (hf : winBit f.key = 45) : (sluNoted q (ticketOf ent v) v).get f = v.get f := get_sluNoted hf v
  have hnum : ticketOf ent v % 256 = ent := by
    unfold ticketOf
    omega
  unfold sluDone
  rw [eng_sluNoted hr, awaiting]
  simp only [Option.bind_some]
  split
  next k hk =>
    obtain rfl : k = ent := (ticketEntry_num hk).trans hnum
    exact entGranted_kept hkept
  next hnone =>
    by_cases hused : v.get (SLU_ENT_STATE ent) = 0
    · unfold entGranted
      rw [hused]
      rfl
    · rw [ticketEntry_ticketOf hent hkept hused] at hnone
      exact absurd hnone (by simp)

theorem insBegin_within (q : Nat) (s : State) : Within 0x2000 s (insBegin q s) := by
  unfold insBegin
  split
  · exact Within.refl _ s
  · exact modEng_within (by decide) (Within.refl _ s)

theorem vectorDone_within {q w : Nat} {s u : State} (h : VectorDone q w s u) : Within 0x200000000000006000 s u := by
  have hbegin : Within 0x200000000000006000 s (insBegin q s) := (insBegin_within q s).mono (by decide)
  rcases h with ⟨_, rfl⟩ | ⟨_, hrep, _⟩
  · exact insOps_within (by decide) hbegin
  · exact (oneRep_within (Sub.refl _) hbegin).get hrep

theorem waitBegins_within {q w : Nat} {s u : State} (h : WaitBegins q w s u) : Within 0x200000000000006000 s u := by
  have hbegin : Within 0x200000000000006000 s (insBegin q s) := (insBegin_within q s).mono (by decide)
  rcases h with ⟨_, rfl⟩ | ⟨_, hrep, _⟩
  · exact hbegin
  · exact (oneRep_within (Sub.refl _) hbegin).get hrep

/-- The state in which an SLU's request stands in the Sluice. -/
theorem submitSlu_ready {q w k ent : Nat} {s u v : State} (hs : Sound s) (hv : WaitBegins q w s u)
    (h : submitSlu q k u = (.done, some ent, v)) : ActionReady q s v :=
  (waitBegins_ready hs hv).action.within (submitSlu_apart h) (by decide) (by decide)
    ((submitSlu_apart h).rising ((waitBegins_within hv).sound hs))

theorem exec_slu_begins {q : Fin 16} {w ent : Nat} {s u v : State} (hs : Sound s) (hat : AtInstruction q.val 10 w s)
    (hwait : s.get (SEQ_STAT_WAIT q.val) ≠ 2) (hv : WaitBegins q.val w s u)
    (hsubmit : submitSlu q.val (bits (insOpb w) 0 3) u = (.done, some ent, v)) (hr : EngsRise v) :
    exec (.slu q) s = .next (showStacks q.val (if entGranted ent v then finishSlu q.val (bits (insOpb w) 0 3)
      (insOps q.val w (setWait q.val 0 (sluNoted q.val (ticketOf ent v) v))) else sluNoted q.val (ticketOf ent v) v)) := by
  have hidle : ((insBegin q.val s).get (SEQ_STAT_WAIT q.val) == 2) = false := by
    rw [(insBegin_kept q.val s).regs _ (not_isGen_wait q.val)]
    simpa using hwait
  have ⟨hexec, _⟩ := hat
  have hending : (eng q.val (sluNoted q.val (ticketOf ent v) v)).ending = none := by
    rw [eng_sluNoted hr, awaiting]
    show (eng q.val v).ending = none
    rw [show eng q.val v = eng q.val u by unfold eng; rw [(submitSlu_apart hsubmit).seqs (by decide)]]
    exact waitBegins_ending (engsRise hs) hexec hv
  show execSlu q s = _
  unfold execSlu
  rw [seqExec_at hat]
  dsimp only
  rw [hidle, runWait_begins (engsRise hs) hv, beginSlu_done hsubmit, hending, sluDone_sluNoted hr (submitSlu_entry hsubmit)]
  simp only [Option.isNone_none, Bool.and_true]
  rfl

theorem ActionReady.sluNoted {q ticket : Nat} {s v : State} (h : ActionReady q s v) : ActionReady q s (sluNoted q ticket v) := by
  have hset : ActionReady q s (setWait q 2 v) := ⟨h.engs, rising_set _ _ h.rising, (get_set_of_ne v (pc_ne_wait q) 2).trans h.pc⟩
  exact hset.modEng (awaiting ticket)

theorem slu_waits {q : Fin 16} {w ent : Nat} {s u v : State} (hs : Sound s) (hat : AtInstruction q.val 10 w s)
    (hwait : s.get (SEQ_STAT_WAIT q.val) ≠ 2) (hv : WaitBegins q.val w s u)
    (hsubmit : submitSlu q.val (bits (insOpb w) 0 3) u = (.done, some ent, v)) (hgrant : entGranted ent v = false) :
    ∃ t, exec (.slu q) s = .next t ∧ t.get (SEQ_STAT_WAIT q.val) = 2 ∧ (eng q.val t).sluWait = some (ticketOf ent v) := by
  have hready := submitSlu_ready hs hv hsubmit
  have he := exec_slu_begins hs hat hwait hv hsubmit hready.engs
  rw [hgrant, if_neg (by simp)] at he
  refine ⟨_, he, ?_, ?_⟩
  · rw [get_showStacks (wait_ne_calls q.val) (wait_ne_loops q.val)]
    exact get_set_self _ 2 hready.rising
  · show (eng q.val (sluNoted q.val (ticketOf ent v) v)).sluWait = _
    rw [eng_sluNoted hready.engs]
    rfl

/-- An engine that waits for no ticket. -/
def unawaiting (e : SeqEng) : SeqEng := { e with sluWait := none }

theorem finishSlu_eq {q k ticket : Nat} {y : State} (h : (eng q y).sluWait = some ticket) :
    finishSlu q k y = seqNext q (modEng q unawaiting (keepTicket q k ticket y)) := by
  unfold finishSlu
  rw [h]
  rfl

theorem ActionReady.keepTicket {q k ticket : Nat} {s y : State} (h : ActionReady q s y) : ActionReady q s (keepTicket q k ticket y) :=
  (h.set (awayFromGo_ticket q k) ticket).set (awayFromGo_valid q k) 1

theorem slu_arrives {q : Fin 16} {w ent : Nat} {s u v : State} (hs : Sound s) (hat : AtInstruction q.val 10 w s)
    (hwait : s.get (SEQ_STAT_WAIT q.val) ≠ 2) (hv : WaitBegins q.val w s u)
    (hsubmit : submitSlu q.val (bits (insOpb w) 0 3) u = (.done, some ent, v)) (hgrant : entGranted ent v = true)
    (hpc : s.get (SEQ_PC_PC q.val) < 0xFFFFFF) :
    ∃ t, exec (.slu q) s = .next t ∧ GoesTo q.val (s.get (SEQ_PC_PC q.val) + 1) t ∧
      t.get (SEQ_TICKET_VALID q.val (bits (insOpb w) 0 3)) = 1 ∧ (eng q.val t).sluWait = none := by
  have hready := submitSlu_ready hs hv hsubmit
  have he := exec_slu_begins hs hat hwait hv hsubmit hready.engs
  rw [hgrant, if_pos rfl] at he
  obtain ⟨x, hx⟩ : ∃ x, x = sluNoted q.val (ticketOf ent v) v := ⟨_, rfl⟩
  have hnoted : ActionReady q.val s x := by rw [hx]; exact hready.sluNoted
  have hticket : (eng q.val x).sluWait = some (ticketOf ent v) := by rw [hx, eng_sluNoted hready.engs]; rfl
  obtain ⟨y, hy⟩ : ∃ y, y = insOps q.val w (setWait q.val 0 x) := ⟨_, rfl⟩
  have hidle : EngsRise (setWait q.val 0 x) := hnoted.engs
  have hops := (insOps_kept q.val w (setWait q.val 0 x)).ready hidle (rising_set _ _ hnoted.rising)
  rw [← hy] at hops
  have hkept : ActionReady q.val s y :=
    ⟨hops.engs, hops.rising, hops.pc.trans ((get_set_of_ne x (pc_ne_wait q.val) 0).trans hnoted.pc)⟩
  have hwaits : (eng q.val y).sluWait = some (ticketOf ent v) := hops.slu.trans hticket
  rw [← hx, ← hy, finishSlu_eq hwaits] at he
  have hkeep := hkept.keepTicket (k := bits (insOpb w) 0 3) (ticket := ticketOf ent v)
  have harrived := (hkeep.modEng unawaiting).next hpc
  refine ⟨_, he, harrived.goes, ?_, ?_⟩
  · refine (harrived.regs _ (awayFromGo_valid q.val _)).trans ?_
    exact get_set_self _ 1 (rising_set _ _ hkept.rising)
  · rw [harrived.slu, eng_modified (f := unawaiting) (fun _ => rfl) hkeep.engs]
    rfl

/-! ### The end of a wait for the Sluice, and its release (R256) -/

/-- A stop, an abort or a timeout of an SLU leaves the engine at its place, waiting for no grant. -/
structure Withdrawn (q : Nat) (s t : State) : Prop where
  ready : ActionReady q s t
  slu : (eng q t).sluWait = none

theorem Withdrawn.within {A : Nat} {q : Nat} {s t u : State} (h : Withdrawn q s t) (hw : Within A t u) (h13 : A.testBit 13 = false)
    (h69 : A.testBit 69 = false) (hrise : Sparse.Rising u.regs) : Withdrawn q s u := by
  refine ⟨h.ready.within hw h13 h69 hrise, ?_⟩
  rw [show eng q u = eng q t by unfold eng; rw [hw.seqs h13]]
  exact h.slu

theorem unawaited_withdrawn {q : Nat} {s : State} (hs : Sound s) :
    Withdrawn q s (modEng q unawaiting (if s.get (SEQ_STAT_WAIT q) = 2 then setWait q 0 s else s)) := by
  have hready : ActionReady q s (if s.get (SEQ_STAT_WAIT q) = 2 then setWait q 0 s else s) := by
    split
    · exact ⟨engsRise (s := s) hs, rising_set _ _ hs.rising, get_set_of_ne s (pc_ne_wait q) 0⟩
    · exact ⟨engsRise hs, hs.rising, rfl⟩
  refine ⟨hready.modEng unawaiting, ?_⟩
  rw [eng_modified (f := unawaiting) (fun _ => rfl) hready.engs]
  rfl

theorem unawaited_within (q : Nat) (s : State) : Within 0x200000000000002000 s
    (modEng q unawaiting (if s.get (SEQ_STAT_WAIT q) = 2 then setWait q 0 s else s)) := by
  refine modEng_within (by decide) ?_
  split
  · exact set_within 0 (inMask (SEQ_STAT_WAIT_win q) (by decide)) (Within.refl _ s)
  · exact Within.refl _ s

theorem withdrawSlu_withdrawn {q : Nat} {s : State} (hs : Sound s) : Withdrawn q s (withdrawSlu q s) := by
  have hover := unawaited_withdrawn (q := q) hs
  have hsound := (unawaited_within q s).sound hs
  obtain ⟨t, ht⟩ : ∃ t, t = modEng q unawaiting (if s.get (SEQ_STAT_WAIT q) = 2 then setWait q 0 s else s) := ⟨_, rfl⟩
  rw [← ht] at hover hsound
  have hended (k : Nat) : Withdrawn q s (sluEnd k t) := by
    have hw : Within 0x180060000000011C t (sluEnd k t) := sluEnd_within (Sub.refl _) (Within.refl _ t)
    exact hover.within hw (by decide) (by decide) (hw.rising hsound)
  have hkept (k ticket : Nat) : Withdrawn q s (keepTicket q k ticket t) := ⟨hover.ready.keepTicket, hover.slu⟩
  have heq : withdrawSlu q s = match (eng q s).sluWait.bind (fun x => ticketEntry x s), fetchIns q (s.get (SEQ_PC_PC q)) s with
      | some ent, some w => if entGranted ent s then keepTicket q (bits (insOpb w) 0 3) (ticketOf ent s) t else sluEnd ent t
      | some ent, none => if entGranted ent s then t else sluEnd ent t
      | none, _ => t := by rw [ht]; rfl
  rw [heq]
  split
  · split
    · exact hkept _ _
    · exact hended _
  · split
    · exact hover
    · exact hended _
  · exact hover

theorem sluTimeout_arrives {q : Fin 16} {w : Nat} {s : State} (hs : Sound s) (hexec : seqExecutes q.val s = true)
    (hfetch : fetchIns q.val (s.get (SEQ_PC_PC q.val)) s = some w) (hopc : insOpc w = 10) (hwait : s.get (SEQ_STAT_WAIT q.val) = 2)
    (hticks : bits (insOpb w) 3 13 ≠ 0 ∧ bits (insOpb w) 3 13 ≤ (eng q.val s).sluTicks) (hdone : sluDone q.val s = false) :
    ∃ t, exec (.sluTimeout q) s = .next t ∧ GoesTo q.val (insOpa w) t ∧ (eng q.val t).sluWait = none := by
  obtain ⟨hready, hslu⟩ := withdrawSlu_withdrawn (q := q.val) hs
  obtain ⟨x, hx⟩ : ∃ x, x = raise 0x080B [⟨1, q.val⟩, ⟨1, bits (insOpb w) 0 3⟩] (withdrawSlu q.val s) := ⟨_, rfl⟩
  obtain ⟨y, hy⟩ : ∃ y, y = insOps q.val w (setWait q.val 0 x) := ⟨_, rfl⟩
  have hraised : ActionReady q.val s x := by rw [hx]; exact hready.raise _ _
  have hnone : (eng q.val x).sluWait = none := by
    rw [show eng q.val x = eng q.val (withdrawSlu q.val s) by unfold eng; rw [hx, raise_seqs]]
    exact hslu
  have hidle : EngsRise (setWait q.val 0 x) := hraised.engs
  have hops := (insOps_kept q.val w (setWait q.val 0 x)).ready hidle (rising_set _ _ hraised.rising)
  rw [← hy] at hops
  have he : exec (.sluTimeout q) s = .next (seqGoto q.val (insOpa w) y) := by
    show execSluTimeout q s = _
    unfold execSluTimeout
    rw [hfetch, hy, hx]
    refine whenOk_of ?_ s _
    rw [hexec, hopc, hwait, hdone, decide_eq_true hticks.2]
    simpa using hticks.1
  obtain ⟨_, hview⟩ := (seqGoto_kept (insOpa_le w) y).kept hops.engs
  simp only [goOf, Prod.mk.injEq] at hview
  obtain ⟨_, _, hgone, _⟩ := hview
  exact ⟨_, he, goesTo_seqGoto (insOpa_le w) hops.rising hops.engs, hgone.trans (hops.slu.trans hnone)⟩

/-- What SLUREL's release leaves, whatever the Sluice answers. -/
theorem doSlurel_released {q w : Nat} {s u : State} (h : ActionReady q s u) (hsound : Sound u) :
    ActionReady q s (doSlurel q w u) ∧ (doSlurel q w u).get (SEQ_TICKET_VALID q (bits (insOpb w) 0 3)) = 0 := by
  obtain ⟨r, hr⟩ : ∃ r : Status × State, r = if u.on (SEQ_TICKET_VALID q (bits (insOpb w) 0 3)) then
      sluRelease (4 + q) (u.get (SEQ_TICKET_TICKET q (bits (insOpb w) 0 3))) u else (Status.range, u) := ⟨_, rfl⟩
  have hw : Within 0x180060020000013C u r.2 := by
    rw [hr]
    split
    · exact sluRelease_within (Sub.refl _) (Within.refl _ u)
    · exact Within.refl _ u
  have hreleased : ActionReady q s r.2 := h.within hw (by decide) (by decide) (hw.rising hsound)
  have hinvalid := (hreleased.set (awayFromGo_valid q (bits (insOpb w) 0 3)) 0).set (awayFromGo_ticket q (bits (insOpb w) 0 3)) 0
  have hzero : ((r.2.set (SEQ_TICKET_VALID q (bits (insOpb w) 0 3)) 0).set (SEQ_TICKET_TICKET q (bits (insOpb w) 0 3)) 0).get
      (SEQ_TICKET_VALID q (bits (insOpb w) 0 3)) = 0 := by
    rw [get_set_of_ne _ (by simp only [SEQ_TICKET_VALID, SEQ_TICKET_TICKET]; omega), get_set_self _ _ hreleased.rising]
    exact Nat.zero_mod _
  unfold doSlurel
  dsimp only
  rw [← hr]
  split
  · exact ⟨hinvalid, hzero⟩
  · exact ⟨hinvalid.raise _ _, (get_raise ..).trans hzero⟩

theorem slurel_arrives {q : Fin 16} {w : Nat} {u s : State} (hs : Sound s) (hat : AtInstruction q.val 11 w s) (hv : VectorDone q.val w s u)
    (hpc : s.get (SEQ_PC_PC q.val) < 0xFFFFFF) :
    ∃ t, exec (.slurel q) s = .next t ∧ GoesTo q.val (s.get (SEQ_PC_PC q.val) + 1) t ∧
      t.get (SEQ_TICKET_VALID q.val (bits (insOpb w) 0 3)) = 0 := by
  have he : exec (.slurel q) s = .next (showStacks q.val (seqNext q.val (doSlurel q.val w u))) :=
    seqExec_vector hs hat hv (control := fun t => seqNext q.val (doSlurel q.val w t)) rfl
  obtain ⟨hready, hzero⟩ := doSlurel_released (w := w) (vectorDone_ready hs hv).action ((vectorDone_within hv).sound hs)
  have harrived := hready.next hpc
  exact ⟨_, he, harrived.goes, (harrived.regs _ (awayFromGo_valid q.val _)).trans hzero⟩

end Sys2Proof.Machine
end

section
/-! SUPPORT. The pattern sequencers (chapter 11): pages ahead, ends of a pattern, and the statement. -/
namespace Sys2Proof.Machine

/-! ### PREF (R259) -/

theorem eng_prefWaits {q num : Nat} {u : State} (hr : EngsRise u) :
    eng q (setEng { eng q u with prefWait := (eng q u).prefWait ++ [num] } u) = { eng q u with prefWait := (eng q u).prefWait ++ [num] } := by
  have hput := eng_setEng_self (e := { eng q u with prefWait := (eng q u).prefWait ++ [num] }) hr
  rwa [eng_q] at hput

/-- A page asked for ahead of time is there, on its way, or waits for room. -/
def pageAhead (num : Nat) (e : SeqEng) : Prop := (∃ p ∈ e.pages, p.num = num) ∨ num ∈ e.prefWait

theorem beginLoad_ahead {q num : Nat} {u : State} (hr : EngsRise u) : pageAhead num (eng q (beginLoad q num true u)) := by
  have hbegun := beginLoad_begun q num true u
  generalize beginLoad q num true u = x at hbegun
  cases hbegun with
  | there h => exact .inl h
  | waiting h hn => exact .inr hn
  | waits h =>
    rw [eng_prefWaits hr]
    exact .inr (List.mem_append_right _ List.mem_cons_self)
  | stalls h => exact absurd h (by simp)
  | @loading l h =>
    rw [eng_withPages hr]
    exact .inl ⟨⟨num, false, true, []⟩, List.mem_append_right _ List.mem_cons_self, rfl⟩

/-- The page executed is never evicted. -/
theorem mem_beginLoad {q num : Nat} {u : State} (hr : EngsRise u) {p : SeqPage} (hp : p ∈ (eng q u).pages)
    (hnum : p.num = pageOf (u.get (SEQ_PC_PC q))) : p ∈ (eng q (beginLoad q num true u)).pages := by
  have hprotected : pageProtected q p u = true := by
    unfold pageProtected
    simp [hnum]
  have hbegun := beginLoad_begun q num true u
  generalize beginLoad q num true u = x at hbegun
  cases hbegun with
  | there h => exact hp
  | waiting h hn => exact hp
  | waits h =>
    rw [eng_prefWaits hr]
    exact hp
  | stalls h => exact absurd h (by simp)
  | @loading l h =>
    rw [eng_withPages hr]
    refine List.mem_append_left _ ?_
    rcases pageRoom_cases h with rfl | ⟨z, hz, rfl⟩
    · exact hp
    · refine (List.mem_erase_of_ne ?_).2 hp
      rintro rfl
      rw [hprotected] at hz
      exact absurd hz (by simp)

/-- Going to an address of a resident page keeps the pages and those that wait. -/
theorem seqGoto_ahead {q pc num : Nat} (h : pc ≤ 0xFFFFFF) {x : State} (hr : EngsRise x)
    (hres : ∃ p ∈ (eng q x).pages, p.num = pageOf pc ∧ p.ready = true) (hahead : pageAhead num (eng q x)) :
    pageAhead num (eng q (seqGoto q pc x)) := by
  have hmoved : EngsRise (setWait q 0 (movedTo q pc x)) := hr.movedTo q pc
  have heng : eng q (setWait q 0 (movedTo q pc x)) = rewound (eng q x) := eng_movedTo hr
  have hthere : (residentPage q pc (movedTo q pc x)).isSome = true := by
    rw [residentPage_isSome, eng_movedTo hr]
    exact hres
  rw [seqGoto_eq h, if_pos hthere]
  rcases hahead with ⟨p, hp, hnum⟩ | hwaits
  · exact .inl ⟨p, (mem_touchPage hmoved p).2 (by rw [heng]; exact hp), hnum⟩
  · obtain ⟨_, hkept⟩ := (touchPage_kept (v := fun e => e.prefWait) (fun _ _ => rfl) q pc (setWait q 0 (movedTo q pc x))).kept hmoved
    refine .inr ?_
    rw [hkept, heng]
    exact hwaits

theorem pref_arrives {q : Fin 16} {w : Nat} {u s : State} (hs : Sound s) (hat : AtInstruction q.val 16 w s) (hv : VectorDone q.val w s u)
    (hpage : pageOf (s.get (SEQ_PC_PC q.val) + 1) = pageOf (s.get (SEQ_PC_PC q.val))) (hpc : s.get (SEQ_PC_PC q.val) < 0xFFFFFF) :
    ∃ t, exec (.pref q) s = .next t ∧ t.get (SEQ_PC_PC q.val) = s.get (SEQ_PC_PC q.val) + 1 ∧
      pageAhead (pageOf (insOpa w)) (eng q.val t) := by
  have hready := vectorDone_ready hs hv
  have ⟨_, hfetch, _⟩ := hat
  have he : exec (.pref q) s = .next (showStacks q.val (seqNext q.val (beginLoad q.val (pageOf (insOpa w)) true u))) :=
    seqExec_vector hs hat hv (control := fun t => seqNext q.val (beginLoad q.val (pageOf (insOpa w)) true t)) rfl
  obtain ⟨x, hx⟩ : ∃ x, x = beginLoad q.val (pageOf (insOpa w)) true u := ⟨_, rfl⟩
  rw [← hx] at he
  have hregs : x.regs = u.regs := by rw [hx, beginLoad_regs]
  obtain ⟨hengs, _⟩ := (beginLoad_kept q.val (pageOf (insOpa w)) true u).kept hready.engs
  rw [← hx] at hengs
  have hloaded : ActionReady q.val s x := ⟨hengs, by rw [hregs]; exact hready.rising, (get_congr hregs _).trans hready.pc⟩
  have hthere : (residentPage q.val (s.get (SEQ_PC_PC q.val)) s).isSome = true := by
    unfold fetchIns at hfetch
    cases hres : residentPage q.val (s.get (SEQ_PC_PC q.val)) s with
    | none => rw [hres] at hfetch; exact absurd hfetch (by simp)
    | some => rfl
  obtain ⟨p, hp, hnum, hpready⟩ := residentPage_isSome.1 hthere
  have hpx : p ∈ (eng q.val x).pages := by
    rw [hx]
    exact mem_beginLoad hready.engs (by rw [hready.pages]; exact hp) (by rw [hready.pc]; exact hnum)
  have hahead : pageAhead (pageOf (insOpa w)) (eng q.val x) := by
    rw [hx]
    exact beginLoad_ahead hready.engs
  have hgone := seqGoto_ahead (q := q.val) (pc := s.get (SEQ_PC_PC q.val) + 1) (by omega) hengs ⟨p, hpx, hnum.trans hpage.symm, hpready⟩ hahead
  obtain ⟨hplace, _⟩ := (hloaded.next hpc).goes
  refine ⟨_, he, hplace, ?_⟩
  unfold seqNext
  rw [hloaded.pc]
  exact hgone

/-! ### Ends (R237, R247) -/

theorem eng_endPattern {q code cause : Nat} {u : State} (hr : EngsRise u) (h : (eng q u).ending = none) :
    (eng q (endPattern q code cause u)).ending = some ⟨code, cause⟩ := by
  have hput := eng_setEng_self (e := { eng q u with ending := some ⟨code, cause⟩ }) hr
  rw [eng_q] at hput
  unfold endPattern
  dsimp only
  rw [if_neg (by simp [h]), hput]

theorem stop_ends {q : Fin 16} {w : Nat} {u s : State} (hs : Sound s) (hat : AtInstruction q.val 17 w s) (hv : VectorDone q.val w s u)
    (hnone : (eng q.val u).ending = none) :
    ∃ t, exec (.stop q) s = .next t ∧ (eng q.val t).ending = some ⟨endDone, 0⟩ ∧
      t.get (SEQ_PC_PC q.val) = s.get (SEQ_PC_PC q.val) := by
  have hready := vectorDone_ready hs hv
  have he : exec (.stop q) s = .next (showStacks q.val (endPattern q.val endDone 0 u)) :=
    seqExec_vector hs hat hv (control := endPattern q.val endDone 0) rfl
  refine ⟨_, he, eng_endPattern hready.engs hnone, ?_⟩
  rw [get_showStacks (pc_ne_calls q.val) (pc_ne_loops q.val), (endPattern_kept q.val _ _ u).regs _ (not_isGen_pc q.val), hready.pc]

theorem illegalOpcode_ends {q : Fin 16} {w : Nat} {s : State} (hs : Sound s) (hexec : seqExecutes q.val s = true)
    (hfetch : fetchIns q.val (s.get (SEQ_PC_PC q.val)) s = some w) (hlegal : insLegal w = false) :
    ∃ t, exec (.illegalOpcode q) s = .next t ∧ (eng q.val t).ending = some ⟨endIllegal, 0⟩ ∧ Narrow [.seqs] [] s t := by
  have he : exec (.illegalOpcode q) s = .next (endPattern q.val endIllegal 0 s) := by
    show execIllegalOpcode q s = _
    unfold execIllegalOpcode
    rw [hfetch]
    exact whenOk_of (by rw [hexec, hlegal]; rfl) s _
  have hnone : (eng q.val s).ending = none := by
    unfold seqExecutes at hexec
    simp only [Bool.and_eq_true, Option.isNone_iff_eq_none] at hexec
    obtain ⟨⟨_, hending⟩, _⟩ := hexec
    exact hending
  have hw := (execIllegalOpcode_within (Sub.refl _) (Within.refl _ s)).of_next he
  exact ⟨_, he, eng_endPattern (engsRise hs) hnone, (Narrow.refl _ _ s).within hw (by decide)⟩

/-- Settles O25: one clause per instruction that acts beside the pattern. -/
theorem sequencerActionsComplete : Obligations.SequencerActionsComplete := by
  unfold Obligations.SequencerActionsComplete
  refine ⟨?sluWaits, ?slu, ?sluTimeout, ?slurel, ?setrValue, ?setrData, ?setrCopy, ?clrf, ?dclose, ?mark, ?pref, ?stop, ?illegal⟩
  case sluWaits =>
    intro q w k u v s hs hat hwait hv hsubmit hgrant
    obtain ⟨t, he, hnoted, hticket⟩ := slu_waits hs hat hwait hv hsubmit hgrant
    exact ⟨t, he, hnoted, hticket, ((execSlu_within (Sub.refl _) (Within.refl _ s)).of_next he).frame (by decide)⟩
  case slu =>
    intro q w k u v s hs hat hwait hv hsubmit hgrant hpc
    obtain ⟨t, he, hgoes, hvalid, hnone⟩ := slu_arrives hs hat hwait hv hsubmit hgrant hpc
    exact ⟨t, he, hgoes, hvalid, hnone, ((execSlu_within (Sub.refl _) (Within.refl _ s)).of_next he).frame (by decide)⟩
  case sluTimeout =>
    intro q w s hs hexec hfetch hopc hwait hticks hdone
    obtain ⟨t, he, hgoes, hnone⟩ := sluTimeout_arrives hs hexec hfetch hopc hwait hticks hdone
    exact ⟨t, he, hgoes, hnone, ((execSluTimeout_within (Sub.refl _) (Within.refl _ s)).of_next he).frame (by decide)⟩
  case slurel =>
    intro q w u s hs hat hv hpc
    obtain ⟨t, he, hgoes, hzero⟩ := slurel_arrives hs hat hv hpc
    exact ⟨t, he, hgoes, hzero, ((execSlurel_within (Sub.refl _) (Within.refl _ s)).of_next he).frame (by decide)⟩
  case setrValue =>
    intro q w u s hs hat hn hv hpc
    have hlt : (if bits (insOpb w) 0 6 = 2 ∨ bits (insOpb w) 0 6 = 5 then insOpa w % 64 else insOpa w) < 2 ^ 24 := by
      have hopa := insOpa_le w
      split <;> omega
    obtain ⟨t, he, hgoes, hvalue⟩ := setr_arrives hs hat hv hpc (awayFromGo_value q.val _) (doSetr_value hn) (Nat.mod_eq_of_lt hlt)
    exact ⟨t, he, hgoes, hvalue, ((execSetr_within (Sub.refl _) (Within.refl _ s)).of_next he).frame (by decide)⟩
  case setrData =>
    intro q w u s hs hat hn hv hpc
    obtain ⟨t, he, hgoes, hvalue⟩ := setr_arrives hs hat hv hpc (awayFromGo_d q.val 0) (doSetr_data hn) rfl
    exact ⟨t, he, hgoes, hvalue, ((execSetr_within (Sub.refl _) (Within.refl _ s)).of_next he).frame (by decide)⟩
  case setrCopy =>
    intro q w u s hs hat hn hv hpc
    obtain ⟨t, he, hgoes, hvalue⟩ := setr_arrives hs hat hv hpc (awayFromGo_d q.val 1) (doSetr_copy hn) rfl
    exact ⟨t, he, hgoes, hvalue, ((execSetr_within (Sub.refl _) (Within.refl _ s)).of_next he).frame (by decide)⟩
  case clrf =>
    intro q w u s hs hat hv hpc
    obtain ⟨t, he, hgoes, hfails, hmatched, hxw, hyw, hzw⟩ := clrf_arrives hs hat hv hpc
    exact ⟨t, he, hgoes, hfails, hmatched, hxw, hyw, hzw, ((execClrf_within (Sub.refl _) (Within.refl _ s)).of_next he).frame (by decide)⟩
  case dclose =>
    intro q w u s hs hat hv hpc
    obtain ⟨t, he, hgoes, hmarkers⟩ := dclose_arrives hs hat hv hpc
    exact ⟨t, he, hgoes, hmarkers, ((execDclose_within (Sub.refl _) (Within.refl _ s)).of_next he).frame (by decide)⟩
  case mark =>
    intro q w u s hs hat hv hpc
    obtain ⟨t, he, hgoes, hvalue, hcycle⟩ := mark_arrives hs hat hv hpc
    exact ⟨t, he, hgoes, hvalue, hcycle, ((execMark_within (Sub.refl _) (Within.refl _ s)).of_next he).frame (by decide)⟩
  case pref =>
    intro q w u s hs hat hv hpage hpc
    obtain ⟨t, he, hplace, hahead⟩ := pref_arrives hs hat hv hpage hpc
    exact ⟨t, he, hplace, hahead, ((execPref_within (Sub.refl _) (Within.refl _ s)).of_next he).frame (by decide)⟩
  case stop =>
    intro q w u s hs hat hv hnone
    obtain ⟨t, he, hends, hplace⟩ := stop_ends hs hat hv hnone
    exact ⟨t, he, hends, hplace, ((execStop_within (Sub.refl _) (Within.refl _ s)).of_next he).frame (by decide)⟩
  case illegal =>
    intro q w s hs hexec hfetch hlegal
    exact illegalOpcode_ends hs hexec hfetch hlegal

end Sys2Proof.Machine
end

section
/-! SUPPORT. Sign-in through the object dictionary (chapter 20): what the checks leave. -/
set_option Elab.async false
namespace Sys2Proof.Machine

/-! ### What a refusal leaves (R463) -/

theorem lockRole_regs (r secs : Nat) (s : State) : (lockRole r secs s).regs = s.regs := raise_regs _ _ _

theorem lockRole_fails (r secs : Nat) (s : State) : (lockRole r secs s).sec.fails = s.sec.fails := by
  unfold lockRole
  rw [raise_sec]

theorem lockRole_chal (r secs : Nat) (s : State) : (lockRole r secs s).sec.chal = s.sec.chal := by
  unfold lockRole
  rw [raise_sec]

/-- What a sign-in check of session `k` leaves: the challenges, the registers but for the session's role, and the parts that a check does
not concern. -/
structure Checked (k role : Nat) (s t : State) : Prop where
  chal : t.sec.chal = s.sec.chal
  role : t.get (FI_SESS_ROLE k) = role
  reach : Within 0x100000000000000000000000100000C s t

theorem refuseSignIn_status (k : Nat) (r : Role) (cause : Nat) (s : State) : (refuseSignIn k r cause s).1 = .denied := by
  unfold refuseSignIn
  simp only [apply_ite Prod.fst, ite_self]

/-- A refused session of the field interface, with the cause other than a lock. -/
theorem refuseSignIn_own {k : Nat} (hk : k < 8) {cause : Nat} (hcause : cause ≠ 6) (r : Role) (s : State) :
    ∃ u : State, u.regs = s.regs ∧ u.sec = { s.sec with cause := spSet k cause s.sec.cause } ∧ Within 0x100000000000000000000000100000C s u ∧
      (refuseSignIn k r cause s).2 =
        if spGet r.code s.sec.lockLen ≠ 0 then lockRole r.code (min 3600 (2 * spGet r.code s.sec.lockLen)) u
        else if spGet r.code s.sec.fails + 1 = 5 then
          lockRole r.code 60 { u with sec := { u.sec with fails := spSet r.code (spGet r.code s.sec.fails + 1) s.sec.fails } }
        else { u with sec := { u.sec with fails := spSet r.code (spGet r.code s.sec.fails + 1) s.sec.fails } } := by
  refine ⟨raise 0x1101 [⟨1, r.code⟩, ⟨1, cause⟩] { s with sec := { s.sec with cause := spSet k cause s.sec.cause } }, raise_regs _ _ _,
    raise_sec _ _ _, raise_within (by decide) (Within.sec_ (by decide) (Within.refl _ s)), ?_⟩
  unfold refuseSignIn
  dsimp only
  rw [if_neg (by omega : k ≠ 8), if_neg hcause]
  simp only [raise_sec]
  split
  · rfl
  · split <;> rfl

/-- The count of a role after a refusal that follows no lock, or one. -/
theorem refuseSignIn_fails {k : Nat} (hk : k < 8) {cause : Nat} (hcause : cause ≠ 6) (r : Role) (s : State) :
    spGet r.code (refuseSignIn k r cause s).2.sec.fails =
      if spGet r.code s.sec.lockLen = 0 then spGet r.code s.sec.fails + 1 else spGet r.code s.sec.fails := by
  obtain ⟨u, -, hsec, -, he⟩ := refuseSignIn_own hk hcause r s
  rw [he]
  by_cases hlock : spGet r.code s.sec.lockLen = 0
  · rw [if_neg (by simp [hlock]), if_pos hlock]
    split
    · rw [lockRole_fails]
      exact spGet_spSet_of_ne_zero (Nat.succ_ne_zero _) _ _
    · exact spGet_spSet_of_ne_zero (Nat.succ_ne_zero _) _ _
  · rw [if_pos hlock, if_neg hlock, lockRole_fails, hsec]

theorem refuseSignIn_checked {k : Nat} (hk : k < 8) {cause : Nat} (hcause : cause ≠ 6) (r : Role) (s : State) :
    Checked k (s.get (FI_SESS_ROLE k)) s (refuseSignIn k r cause s).2 := by
  obtain ⟨u, hregs, hsec, hreach, he⟩ := refuseSignIn_own hk hcause r s
  have hcounted : Within 0x100000000000000000000000100000C s
      { u with sec := { u.sec with fails := spSet r.code (spGet r.code s.sec.fails + 1) s.sec.fails } } :=
    Within.sec_ (by decide) hreach
  have hget (t : State) (h : t.regs = s.regs) : t.get (FI_SESS_ROLE k) = s.get (FI_SESS_ROLE k) := by
    unfold State.get
    rw [h]
  rw [he]
  split
  · exact ⟨by rw [lockRole_chal, hsec], hget _ ((lockRole_regs _ _ _).trans hregs),
      lockRole_within (by decide) hreach⟩
  · split
    · exact ⟨by rw [lockRole_chal, hsec], hget _ ((lockRole_regs _ _ _).trans hregs), lockRole_within (by decide) hcounted⟩
    · exact ⟨by rw [hsec], hget _ hregs, hcounted⟩

/-! ### What a sign-in leaves -/

theorem signedIn_checked {k : Nat} (hk : k < 8) (r : Role) (signer : Nat) {s : State} (hs : s.regs.Rising) :
    Checked k r.code s (signedIn k r signer s).2 := by
  have hrole : setRole k r.code s = s.set (FI_SESS_ROLE k) r.code := if_neg (by omega)
  unfold signedIn
  rw [hrole]
  refine ⟨rfl, (get_set_self (FI_SESS_ROLE k) _ hs).trans (by cases r <;> rfl), ?_⟩
  exact Within.sec_ (by decide) (set_within _ (inMask (FI_SESS_ROLE_win k) (by decide)) (Within.refl _ s))

/-! ### The two checks -/

/-- The edition's salted hash is that of the password. -/
abbrev PasswordHolds (e : Nat) (password : List Byte) (s : State) : Prop :=
  edField e 912 64 s ≠ 0 ∧ Config.sha3 (edBytes e 880 32 s ++ password) % 2 ^ 512 = edField e 912 64 s

theorem operatorSignIn_checked {k e : Nat} {password : List Byte} {s : State} (hs : s.regs.Rising) (hk : k < 8)
    (hlen : 8 ≤ password.length ∧ password.length ≤ 64) (hlock : 1 ∉ s.sec.locked) (hlc : lcState s = lcField)
    (hed : selectedEd s = some e) :
    (operatorSignIn k password s).1 = (if PasswordHolds e password s then .done else .denied) ∧
      Checked k (if PasswordHolds e password s then 1 else s.get (FI_SESS_ROLE k)) s (operatorSignIn k password s).2 ∧
      spGet 1 (operatorSignIn k password s).2.sec.fails = (if PasswordHolds e password s then spGet 1 (spDel 1 s.sec.fails)
        else if spGet 1 s.sec.lockLen = 0 then spGet 1 s.sec.fails + 1 else spGet 1 s.sec.fails) := by
  unfold operatorSignIn
  rw [if_neg (by omega), if_neg hlock, if_neg (by simp [roleMay, hlc]), hed]
  dsimp only
  by_cases h : PasswordHolds e password s
  · rw [if_pos h, if_pos h, if_pos h, if_pos h]
    exact ⟨rfl, signedIn_checked hk .operator 0 hs, by unfold signedIn setRole; rw [if_neg (by omega)]; rfl⟩
  · rw [if_neg h, if_neg h, if_neg h, if_neg h]
    exact ⟨refuseSignIn_status _ _ _ _, refuseSignIn_checked hk (by decide) _ _, refuseSignIn_fails hk (by decide) .operator s⟩

/-- The response's key is one of the role's and its signature holds. -/
abbrev ResponseHolds (c : Nat) (response : List Byte) (s : State) : Prop :=
  Config.sha3 (slice 1 2592 response) % 2 ^ 512 ∈ roleKeys (roleOf (ofBytes (response.take 1))) s ∧
    Config.mlDsaVerify (slice 1 2592 response) (authMessage (ofBytes (response.take 1)) (spGet c s.sec.chal - 1)) (slice 2593 4627 response) = true

/-- The state with the challenge of session `k` used up. -/
def challengeUsed (k : Nat) (s : State) : State :=
  { s with sec := { s.sec with chal := spDel k s.sec.chal, chalAge := spDel k s.sec.chalAge } }

theorem keySignIn_checked {k : Nat} {response : List Byte} {s : State} (hs : s.regs.Rising) (hk : k < 8)
    (hlen : response.length = 7220) (hr : ofBytes (response.take 1) = 2 ∨ ofBytes (response.take 1) = 3)
    (hlock : ofBytes (response.take 1) ∉ s.sec.locked) (hmay : roleMay (roleOf (ofBytes (response.take 1))) s = true)
    (hchal : spGet k s.sec.chal ≠ 0) :
    (keySignIn k response s).1 = (if ResponseHolds k response s then .done else .denied) ∧
      Checked k (if ResponseHolds k response s then ofBytes (response.take 1) else s.get (FI_SESS_ROLE k)) (challengeUsed k s)
        (keySignIn k response s).2 := by
  have hcode : (roleOf (ofBytes (response.take 1))).code = ofBytes (response.take 1) := by
    rcases hr with h | h <;> rw [h] <;> rfl
  unfold keySignIn
  dsimp only
  rw [if_neg (by omega), if_neg hlock, if_neg (by simp [hmay]), if_neg hchal]
  by_cases hkey : Config.sha3 (slice 1 2592 response) % 2 ^ 512 ∈ roleKeys (roleOf (ofBytes (response.take 1))) s
  · rw [if_neg (by simp [hkey])]
    by_cases hsig : Config.mlDsaVerify (slice 1 2592 response)
        (authMessage (ofBytes (response.take 1)) (spGet k s.sec.chal - 1)) (slice 2593 4627 response) = true
    · rw [if_neg (by simp [hsig]), if_pos ⟨hkey, hsig⟩, if_pos ⟨hkey, hsig⟩]
      have hsigned := signedIn_checked (s := challengeUsed k s) hk (roleOf (ofBytes (response.take 1)))
        (ofBytes ((toBytes 64 (Config.sha3 (slice 1 2592 response) % 2 ^ 512)).take 8)) hs
      rw [hcode] at hsigned
      exact ⟨rfl, hsigned⟩
    · rw [if_pos (by simp [hsig]), if_neg (fun h => hsig h.2), if_neg (fun h => hsig h.2)]
      exact ⟨refuseSignIn_status _ _ _ _, refuseSignIn_checked hk (by decide) _ (challengeUsed k s)⟩
  · rw [if_pos hkey, if_neg (fun h => hkey h.1), if_neg (fun h => hkey h.1)]
    exact ⟨refuseSignIn_status _ _ _ _, refuseSignIn_checked hk (by decide) _ (challengeUsed k s)⟩

end Sys2Proof.Machine
end

section
/-! SUPPORT. Sign-in through the object dictionary (chapter 20): the objects, and the statement of its commands. -/
set_option Elab.async false
namespace Sys2Proof.Machine

/-! ### The objects of sign-in (R461, R462) -/

/-- The rows of 0x4500:0x10 to 0x12. -/
def challengeRow : ObjDesc := ⟨0x4500, 1, 0x10, 1, 64, .bytes, .allR, false, .volatile, .spec .challenge⟩
def passwordRow : ObjDesc := ⟨0x4500, 1, 0x11, 1, 64, .bytes, .allRW, false, .volatile, .spec .password⟩
def keyResponseRow : ObjDesc := ⟨0x4500, 1, 0x12, 1, 7220, .bytes, .allRW, false, .volatile, .spec .keyResponse⟩

theorem sdoFind_challenge : sdoFind 0x4500 0x10 = .obj challengeRow 0 0 := by decide +kernel
theorem sdoFind_password : sdoFind 0x4500 0x11 = .obj passwordRow 0 0 := by decide +kernel
theorem sdoFind_keyResponse : sdoFind 0x4500 0x12 = .obj keyResponseRow 0 0 := by decide +kernel

theorem mayRead_challenge (r : Role) : mayRead r challengeRow 0x4500 0x10 = true := by cases r <;> decide
theorem mayWrite_password (r : Role) : mayWrite r passwordRow 0x4500 0x11 = true := by cases r <;> decide
theorem mayWrite_keyResponse (r : Role) : mayWrite r keyResponseRow 0x4500 0x12 = true := by cases r <;> decide

theorem sessionOf_lt {addr c : Nat} {s : State} (h : sessionOf addr s = some c) : c < 8 :=
  List.mem_range.1 (List.mem_of_find?_eq_some h)

/-! ### A write that may be audited (R479) -/

/-- A write of an object of no storage is its effect, and an entry of the audit record after it for installer and maker. -/
theorem objWrite_audit {c k m key : Nat} {d : ObjDesc} {b : List Byte} {s : State} (hsave : d.save ≠ .flash)
    (h : s.get (FI_SESS_ROLE c) < 2 ∨ (domOn 93 s = true ∧ audBusy s = false)) :
    (objWrite (sessAgent c s) (some c) d k m key b true s).1 = (objEffect (sessAgent c s) (some c) d k m b s).1 ∧
      ((objWrite (sessAgent c s) (some c) d k m key b true s).2 = (objEffect (sessAgent c s) (some c) d k m b s).2 ∨
        ∃ body, (objWrite (sessAgent c s) (some c) d k m key b true s).2 = audAppend body (objEffect (sessAgent c s) (some c) d k m b s).2) := by
  have hnow : objPersist (sessAgent c s) (some c) d k m key b true = objEffect (sessAgent c s) (some c) d k m b := by
    funext t
    unfold objPersist
    exact if_pos (Or.inl hsave)
  unfold objWrite
  dsimp only
  rw [hnow]
  split
  · rename_i haudit
    rcases h with h | ⟨hon, hfree⟩
    · have hrole : (sessAgent c s).role.code < 2 := role_code_of_lt_two h
      rw [Bool.and_eq_true] at haudit
      exact absurd haudit.2 (by unfold audited; rw [decide_eq_false (by omega)]; simp)
    · unfold auditWrite
      rw [if_neg (by simp [hon]), if_neg (by simp [hfree])]
      exact ⟨rfl, Or.inr ⟨_, rfl⟩⟩
  · exact ⟨rfl, Or.inl rfl⟩

theorem audJoin_sec (body : List Byte) (s : State) : (audJoin body s).sec = s.sec :=
  (audJoin_within (by decide) (Within.refl 0x200000000000000000000000400000 s)).sec (by decide)

/-- An entry of the audit record uses up a RESTART that was due, and nothing else of security's state. -/
theorem audAppend_sec (body : List Byte) (s : State) : (audAppend body s).sec = { s.sec with restart := none } := by
  unfold audAppend
  dsimp only
  rw [audJoin_sec]
  split
  · exact audJoin_sec _ _
  · rename_i h
    rw [← h]

/-- After the checks of a sign-in: what the entry of the audit record and the answer leave. -/
structure Finished (c : Nat) (s t : State) : Prop where
  chal : t.sec.chal = s.sec.chal
  fails : t.sec.fails = s.sec.fails
  role : t.get (FI_SESS_ROLE c) = s.get (FI_SESS_ROLE c)
  reach : Within 0x200000000000000000000001400001 s t

theorem sdoFinish_sec (addr : Nat) (x : SdoAns) : ∃ status, (sdoFinish addr x).sec = { x.2.sec with status := status } := by
  unfold sdoFinish
  split
  · exact ⟨_, rfl⟩
  · dsimp only
    split <;> exact ⟨_, rfl⟩

theorem finished_of_written {addr c : Nat} {r : Resp} {v w : State} (h : w = v ∨ ∃ body, w = audAppend body v) :
    Finished c v (sdoFinish addr (some r, w)) := by
  obtain ⟨status, hsec⟩ := sdoFinish_sec addr (some r, w)
  have hget : (sdoFinish addr (some r, w)).get (FI_SESS_ROLE c) = w.get (FI_SESS_ROLE c) := by
    unfold State.get
    rw [sdoFinish_regs]
  have hw : Within 0x200000000000000000000001400001 v w := by
    rcases h with rfl | ⟨body, rfl⟩
    · exact Within.refl _ _
    · exact audAppend_within (by decide) (Within.refl _ _)
  have hkept : w.sec.chal = v.sec.chal ∧ w.sec.fails = v.sec.fails := by
    rcases h with rfl | ⟨body, rfl⟩
    · exact ⟨rfl, rfl⟩
    · rw [audAppend_sec]
      exact ⟨rfl, rfl⟩
  refine ⟨by rw [hsec]; exact hkept.1, by rw [hsec]; exact hkept.2, hget.trans (hw.get ?_), sdoFinish_within (by decide) hw⟩
  exact FI_SESS_ROLE_win c ▸ by decide

/-! ### The commands -/

theorem exec_challenge_alone {addr c : Nat} {s : State} (h : SdoIdle s) (hsess : sessionOf (addr % 65536) s = some c) :
    exec (.challenge addr) s = .next (sdoFinish (addr % 65536) (sdoAnswer .done (newChallenge c s).1 (newChallenge c s).2)) := by
  show ok (sdoArrive (addr % 65536) (.upload 0x4500 0x10) true s) = _
  rw [sdoArrive_alone h hsess, sdoServe_upload hsess, sdoUpload_read sdoFind_challenge (mayRead_challenge _)]
  rfl

theorem exec_operatorSignIn_alone {addr c : Nat} {password : List Byte} {s : State} (h : SdoIdle s)
    (hsess : sessionOf (addr % 65536) s = some c) (haudit : s.get (FI_SESS_ROLE c) < 2 ∨ (domOn 93 s = true ∧ audBusy s = false))
    (hlen : 8 ≤ password.length ∧ password.length ≤ 64) : ∃ t, exec (.operatorSignIn addr password) s = .next t ∧
      t.resp.status = (operatorSignIn c password s).1 ∧ Finished c (operatorSignIn c password s).2 t := by
  have he : exec (.operatorSignIn addr password) s = .next (sdoServe ⟨addr % 65536, .download 0x4500 0x11 password, true⟩ s) :=
    congrArg Host.Outcome.next (sdoArrive_alone h hsess _ true)
  rw [sdoServe_download hsess, sdoDownload_written sdoFind_password ⟨by decide, by decide⟩ (by decide) (mayWrite_password _)
    (by simp [lengthOk, passwordRow, hlen]) (by decide)] at he
  obtain ⟨hstatus, hafter⟩ := objWrite_audit (k := 0) (m := 0) (key := 256 * 0x4500 + 0x11) (d := passwordRow) (b := password)
    (by decide) haudit
  exact ⟨_, he, (congrArg Resp.status (sdoFinish_resp _ _ _)).trans hstatus, finished_of_written hafter⟩

theorem exec_keySignIn_alone {addr c : Nat} {response : List Byte} {s : State} (h : SdoIdle s)
    (hsess : sessionOf (addr % 65536) s = some c) (haudit : s.get (FI_SESS_ROLE c) < 2 ∨ (domOn 93 s = true ∧ audBusy s = false))
    (hlen : response.length = 7220) : ∃ t, exec (.keySignIn addr response) s = .next t ∧
      t.resp.status = (keySignIn c response s).1 ∧ Finished c (keySignIn c response s).2 t := by
  have he : exec (.keySignIn addr response) s = .next (sdoServe ⟨addr % 65536, .download 0x4500 0x12 response, true⟩ s) :=
    congrArg Host.Outcome.next (sdoArrive_alone h hsess _ true)
  rw [sdoServe_download hsess, sdoDownload_written sdoFind_keyResponse ⟨by decide, by decide⟩ (by decide) (mayWrite_keyResponse _)
    (by simp [lengthOk, keyResponseRow, hlen]) (by decide)] at he
  obtain ⟨hstatus, hafter⟩ := objWrite_audit (k := 0) (m := 0) (key := 256 * 0x4500 + 0x12) (d := keyResponseRow) (b := response)
    (by decide) haudit
  exact ⟨_, he, (congrArg Resp.status (sdoFinish_resp _ _ _)).trans hstatus, finished_of_written hafter⟩

theorem signIn_frame {s t u : State} (hcheck : Within 0x100000000000000000000000100000C s t)
    (hafter : Within 0x200000000000000000000001400001 t u) : Frame [.resp, .events, .trace, .sec, .cluster] [.sessions, .audit] s u :=
  ((hcheck.mono (B := 0x120000000000000000000000140000D) (by decide)).trans (hafter.mono (by decide))).frame (by decide)

/-! ### The statement -/

/-- The statement holds but for a good password in a state whose list of counts names the operator twice. -/
theorem signIn_of_counts
    (hcounts : ∀ (password : List Byte) (e : Nat) (s : State), Sound s → 8 ≤ password.length ∧ password.length ≤ 64 →
      PasswordHolds e password s → spGet 1 (spDel 1 s.sec.fails) = 0) : Obligations.SignInCommandsComplete := by
  unfold Obligations.SignInCommandsComplete
  refine ⟨?challenge, ?password, ?key, ?lockEnd⟩
  case challenge =>
    intro addr c s hs hidle hsess
    have hreach : Within 0x1001001 s (sdoFinish (addr % 65536) (sdoAnswer .done (newChallenge c s).1 (newChallenge c s).2)) :=
      sdoFinish_within (by decide) (newChallenge_within (by decide) (Within.refl _ s))
    obtain ⟨status, hsec⟩ := sdoFinish_sec (addr % 65536) (sdoAnswer .done (newChallenge c s).1 (newChallenge c s).2)
    refine ⟨_, exec_challenge_alone hidle hsess, ?_, ?_, ?_, ?_, hreach.narrow (by decide)⟩
    · exact congrArg Resp.status (sdoFinish_resp _ _ _)
    · exact congrArg Resp.bytes (sdoFinish_resp _ _ _)
    · rw [hsec]
      exact spGet_spSet_of_ne_zero (Nat.succ_ne_zero _) _ _
    · exact (sdoFinish_within (A := 0x1000001) (by decide) (Within.refl _ _)).enc (by decide)
  case password =>
    intro addr password c e s hs hidle hsess haudit hlen hlock hlc hed
    obtain ⟨t, he, hstatus, hafter⟩ := exec_operatorSignIn_alone hidle hsess haudit hlen
    obtain ⟨hanswer, hchecked, hfails⟩ := operatorSignIn_checked hs.rising (sessionOf_lt hsess) hlen hlock hlc hed
    refine ⟨t, he, hstatus.trans hanswer, hafter.role.trans hchecked.role, ?_, ?_⟩
    · rw [hafter.fails, hfails]
      by_cases h : PasswordHolds e password s
      · rw [if_pos h, if_pos h]
        exact hcounts password e s hs hlen h
      · rw [if_neg h, if_neg h]
    · exact signIn_frame hchecked.reach hafter.reach
  case key =>
    intro addr response c s hs hidle hsess haudit hlen hr hlock hmay hchal
    dsimp only
    obtain ⟨t, he, hstatus, hafter⟩ := exec_keySignIn_alone hidle hsess haudit hlen
    obtain ⟨hanswer, hchecked⟩ := keySignIn_checked hs.rising (sessionOf_lt hsess) hlen hr hlock hmay hchal
    refine ⟨t, he, hstatus.trans hanswer, hafter.role.trans hchecked.role, hafter.chal.trans hchecked.chal, ?_⟩
    exact signIn_frame (Within.trans (Within.sec_ (by decide) (Within.refl _ s)) hchecked.reach) hafter.reach
  case lockEnd =>
    intro role s _
    exact ⟨_, rfl, rfl, (Within.sec_ (A := 0x1000000) (by decide) (Within.refl _ s)).narrow (by decide)⟩

end Sys2Proof.Machine
end

section
/-! SUPPORT. Sign-in through the object dictionary (chapter 20): what its statement says of the hash. -/
set_option Elab.async false
namespace Sys2Proof.Machine

/-! ### Bytes of an edition -/

theorem toBytes_succ (n v : Nat) : toBytes (n + 1) v = BitVec.ofNat 8 v :: toBytes n (v / 256) := by
  unfold toBytes
  rw [List.range_succ_eq_map, List.map_cons, List.map_map]
  congr 1
  · simp
  · refine List.map_congr_left fun i _ => ?_
    rw [Function.comp_apply, Nat.pow_succ, Nat.mul_comm, Nat.div_div_eq_div_mul]

theorem ofBytes_toBytes (n v : Nat) : ofBytes (toBytes n v) = v % 256 ^ n := by
  induction n generalizing v with
  | zero => rw [Nat.pow_zero, Nat.mod_one]; rfl
  | succ n ih =>
    rw [toBytes_succ, ofBytes, ih, BitVec.toNat_ofNat, Nat.pow_succ 256 n, Nat.mul_comm (256 ^ n) 256, Nat.mod_mul]

/-- An edition with the salt and the salted hash of the operator's password, and nothing else. -/
def passwordEdition (salt : List Byte) (hash : Nat) : Memory := memWrite 0 880 (salt ++ toBytes 64 hash) []

theorem passwordEdition_canon (salt : List Byte) (hash : Nat) : Memory.Canon 0 (passwordEdition salt hash) :=
  canon_memWrite _ _ ⟨List.Pairwise.nil, fun _ h => absurd h List.not_mem_nil⟩

theorem memGet_passwordEdition {salt : List Byte} (hsalt : salt.length = 32) (hash : Nat) {i : Nat} (hi : i < 96) :
    memGet 0 (880 + i) (passwordEdition salt hash) = (salt ++ toBytes 64 hash)[i]'(by simp [toBytes, hsalt]; omega) := by
  have hlen : 880 + i - 880 < (salt ++ toBytes 64 hash).length := by simp [toBytes, hsalt]; omega
  unfold passwordEdition
  rw [memGet_memWrite_of_in _ ⟨List.Pairwise.nil, fun _ h => absurd h List.not_mem_nil⟩ (by omega) hlen]
  simp only [Nat.add_sub_cancel_left]

/-! ### A list of counts that names the operator twice -/

/-- Session 0 is open and has no role; firmware serves the mailbox; the part is in FIELD and edition 0 is the selected one; the list of
counts names the operator twice, which `Sound` does not rule out. -/
def countedTwice : State :=
  { (((State.reset.set FI_STAT_AL_STATE 2).set (CORE_STAT_STATE 0) coreRun).set (FI_SESS_OPEN 0) 1).set SEC_STAT_EDITION 0 with
    sec := { State.reset.sec with lc := 3, fails := [(1, 1), (1, 1)] } }

/-- The same with an edition of one salt and hash. -/
def countedTwiceWith (salt : List Byte) (hash : Nat) : State :=
  { countedTwice with sec := { countedTwice.sec with editions := passwordEdition salt hash } }

theorem countedTwiceWith_sound (salt : List Byte) (hash : Nat) : Sound (countedTwiceWith salt hash) := by
  have hcanon : countedTwice.Canon := (sound_iff _).1 (by decide +kernel)
  exact (sound_iff _).2 ⟨hcanon.regs, hcanon.hbm, hcanon.flash, hcanon.cfg, passwordEdition_canon salt hash, hcanon.ledger, hcanon.ring,
    hcanon.queue, hcanon.seqs, hcanon.cores⟩

/-- What the operator's sign-in at session 0 asks of the state. -/
structure SignInReady (s : State) : Prop where
  idle : mailboxOpen s = true ∧ fieldServed s = true ∧ s.field.sdo = []
  session : sessionOf (0 % 65536) s = some 0
  role : s.get (FI_SESS_ROLE 0) < 2
  lock : 1 ∉ s.sec.locked
  lifecycle : lcState s = lcField
  edition : selectedEd s = some 0

theorem SignInReady.editions {s : State} (h : SignInReady s) (m : Memory) : SignInReady { s with sec := { s.sec with editions := m } } :=
  ⟨h.idle, h.session, h.role, h.lock, h.lifecycle, h.edition⟩

theorem countedTwice_ready : SignInReady countedTwice := by
  constructor <;> decide +kernel

theorem countedTwiceWith_ready (salt : List Byte) (hash : Nat) : SignInReady (countedTwiceWith salt hash) :=
  countedTwice_ready.editions _

theorem edByte_countedTwiceWith (salt : List Byte) (hash i : Nat) :
    edByte 0 i (countedTwiceWith salt hash) = memGet 0 i (passwordEdition salt hash) := by
  unfold edByte
  rw [if_neg (show 0 ∉ (countedTwiceWith salt hash).sec.badEd from List.not_mem_nil), Nat.mul_zero, Nat.zero_add]
  rfl

theorem getElem_edBytes {e lo n i : Nat} {s : State} (h : i < (edBytes e lo n s).length) : (edBytes e lo n s)[i] = edByte e (lo + i) s := by
  simp [edBytes]

theorem edBytes_salt {salt : List Byte} (hsalt : salt.length = 32) (hash : Nat) :
    edBytes 0 880 32 (countedTwiceWith salt hash) = salt := by
  refine List.ext_getElem (by simp [edBytes, hsalt]) fun i hi _ => ?_
  have hi' : i < 32 := by simpa [edBytes] using hi
  rw [getElem_edBytes, edByte_countedTwiceWith, memGet_passwordEdition hsalt hash (by omega),
    List.getElem_append_left (by omega)]

theorem edBytes_hash {salt : List Byte} (hsalt : salt.length = 32) (hash : Nat) :
    edBytes 0 912 64 (countedTwiceWith salt hash) = toBytes 64 hash := by
  refine List.ext_getElem (by simp [edBytes, toBytes]) fun i hi _ => ?_
  have hi' : i < 64 := by simpa [edBytes] using hi
  rw [getElem_edBytes, edByte_countedTwiceWith, show 912 + i = 880 + (32 + i) by omega,
    memGet_passwordEdition hsalt hash (by omega), List.getElem_append_right (by omega)]
  simp only [hsalt, Nat.add_sub_cancel_left]

theorem passwordHolds_countedTwiceWith {salt password : List Byte} (hsalt : salt.length = 32)
    (h : Config.sha3 (salt ++ password) % 2 ^ 512 ≠ 0) :
    PasswordHolds 0 password (countedTwiceWith salt (Config.sha3 (salt ++ password) % 2 ^ 512)) := by
  have hfield : edField 0 912 64 (countedTwiceWith salt (Config.sha3 (salt ++ password) % 2 ^ 512)) =
      Config.sha3 (salt ++ password) % 2 ^ 512 := by
    unfold edField
    rw [edBytes_hash hsalt, ofBytes_toBytes, show 256 ^ 64 = 2 ^ 512 by rw [show 256 = 2 ^ 8 from rfl, ← Nat.pow_mul], Nat.mod_mod]
  exact ⟨by rw [hfield]; exact h, by rw [edBytes_salt hsalt, hfield]⟩

/-! ### What the statement says of the hash -/

/-- Every salted password hashes to zero, which an edition's field cannot hold as a hash. -/
def HashesVanish : Prop :=
  ∀ salt password : List Byte, salt.length = 32 → 8 ≤ password.length ∧ password.length ≤ 64 →
    Config.sha3 (salt ++ password) % 2 ^ 512 = 0

/-- O39 stays open: it holds exactly where no password can ever be right. Its clause of the operator's sign-in says that the count of
refusals is 0 after it, and the list of counts may name the operator twice (`Sound` says nothing of it): a sign-in takes one entry
away and the other is read. Such a sign-in needs a password whose hash is not 0, and `Config.sha3` is a constant of which no proof can know
anything (notes/assumptions/5.md). The rest of the statement holds. -/
theorem signInCommandsComplete_iff : Obligations.SignInCommandsComplete ↔ HashesVanish := by
  constructor
  · rintro ⟨-, hOperator, -⟩ salt password hsalt hlen
    by_contra hhash
    have hgood := passwordHolds_countedTwiceWith hsalt hhash
    obtain ⟨s, hs⟩ : ∃ s, s = countedTwiceWith salt (Config.sha3 (salt ++ password) % 2 ^ 512) := ⟨_, rfl⟩
    have hsound : Sound s := hs ▸ countedTwiceWith_sound _ _
    have hready : SignInReady s := hs ▸ countedTwiceWith_ready _ _
    have hcount : spGet 1 (spDel 1 s.sec.fails) = 1 := by rw [hs]; rfl
    rw [← hs] at hgood
    obtain ⟨t, he, -, -, hzero, -⟩ := hOperator 0 password 0 0 s hsound hready.idle hready.session (Or.inl hready.role) hlen hready.lock
      hready.lifecycle hready.edition
    obtain ⟨u, he', -, hafter⟩ := exec_operatorSignIn_alone hready.idle hready.session (Or.inl hready.role) hlen
    obtain ⟨-, -, hfails⟩ := operatorSignIn_checked hsound.rising (sessionOf_lt hready.session) hlen hready.lock hready.lifecycle
      hready.edition
    obtain rfl : t = u := Host.Outcome.next.inj (he.symm.trans he')
    rw [if_pos hgood] at hzero hfails
    rw [hafter.fails, hfails, hcount] at hzero
    exact absurd hzero (by decide)
  · intro hvanish
    refine signIn_of_counts fun password e s _ hlen hgood => ?_
    obtain ⟨hset, hhash⟩ := hgood
    exact absurd (hhash.symm.trans (hvanish _ password (by simp [edBytes]) hlen)) hset

end Sys2Proof.Machine
end
